-- ==== Sys2Proof/Word.lean ====
section
/-! DEFINITION. The words of the block: register words, time-base stamps, and the plainest arithmetic on them
(spec/00_scope.md, Table 0.3 and R13). -/

namespace Sys2Proof

/-- A 32-bit set-up register, record or descriptor word. -/
abbrev Word := BitVec 32

/-- A 40-bit time-base stamp in units of 1.25 ns (Table 0.3). -/
abbrev Tb := BitVec 40

/-- Bits [lo + w - 1 : lo] of a word as a number. -/
def Word.bits (x : Word) (lo w : Nat) : Nat := (x.toNat >>> lo) % 2 ^ w

/-- Bit i of a word. -/
def Word.bit (x : Word) (i : Nat) : Bool := x.toNat.testBit i

/-- The word whose value is n modulo 2^32. -/
def Word.ofN (n : Nat) : Word := BitVec.ofNat 32 n

/-- A field value placed at bit lo, cut to w bits. -/
def place (lo w v : Nat) : Nat := (v % 2 ^ w) <<< lo

/-- One bit as a number. -/
def b2n (b : Bool) : Nat := if b then 1 else 0

/-- The w-bit two's complement reading of n. -/
def signed (w n : Nat) : Int :=
  let m := n % 2 ^ w
  if m < 2 ^ (w - 1) then (m : Int) else (m : Int) - (2 ^ w : Nat)

/-- The w-bit two's complement code of an integer. -/
def unsigned (w : Nat) (i : Int) : Nat := (i % ((2 ^ w : Nat) : Int)).toNat

/-- Addition that saturates at 2^w - 1. -/
def satAdd (w a b : Nat) : Nat := min (a + b) (2 ^ w - 1)

/-- Clamp an integer into [lo, hi]. -/
def clampI (lo hi x : Int) : Int := max lo (min hi x)

/-- Integer square root, rounded down, by bisection on the result's bits from bit k - 1 downward. -/
def isqrtBits (n : Nat) : Nat → Nat → Nat
  | 0, r => r
  | k + 1, r =>
    let c := r + 2 ^ k
    isqrtBits n k (if c * c ≤ n then c else r)

/-- Integer square root of a number below 2^64, rounded down. -/
def isqrt (n : Nat) : Nat := isqrtBits n 32 0

/-- Replace element i of a list (nothing happens past its end). -/
def setAt {α : Type} : List α → Nat → α → List α
  | [], _, _ => []
  | _ :: xs, 0, a => a :: xs
  | x :: xs, i + 1, a => x :: setAt xs i a

/-- Apply f to element i of a list (nothing happens past its end). -/
def modAt {α : Type} : List α → Nat → (α → α) → List α
  | [], _, _ => []
  | x :: xs, 0, f => f x :: xs
  | x :: xs, i + 1, f => x :: modAt xs i f

/-- The numbers 0 to n - 1. -/
def upTo (n : Nat) : List Nat := List.range n

/-- The time from a to b on the 40-bit time base, modulo 2^40. -/
def elapsed (a b : Tb) : Nat := (b - a).toNat

/-- R13: a stamp up to 2^39 tb ahead of the present counts as future (the present itself included). -/
def tbFuture (now t : Tb) : Bool := (t - now).toNat ≤ 2 ^ 39

/-- R13: the signed distance from now to t, in (-2^39, 2^39]. -/
def tbDiff (t now : Tb) : Int :=
  let d := (t - now).toNat
  if d ≤ 2 ^ 39 then (d : Int) else (d : Int) - (2 ^ 40 : Nat)

/-- The stamp d tb after t. -/
def tbAdd (t : Tb) (d : Nat) : Tb := t + BitVec.ofNat 40 d

end Sys2Proof
end

