-- ==== Sys2Proof/Syntax.lean ====
section
/-! DEFINITION. The commands of the block: one constructor per row of spec/opcode_table.json, with the operands that the
rows' rules name (the table gives the rows no operand words and no bits). Unit numbers are plain numbers. -/

namespace Sys2Proof

/-- The two paths into the set-up space (R279, R280). -/
inductive Port where
  | pcie
  | spi
  deriving DecidableEq, Repr

/-- The shape of a set-up read (R263). -/
inductive RShape where
  | word
  | note
  | bad
  deriving DecidableEq, Repr

/-- What the host has programmed in the function's control registers in configuration space (R261): the codes of Max Payload Size and Max
Read Request Size (128 B × 2 to the code), extended tags, ASPM L1, ASPM L1.2 and PCI-PM L1.2, and Latency Tolerance Reporting. -/
structure PciCtl where
  mps : Nat
  mrrs : Nat
  extTag : Bool
  aspmL1 : Bool
  aspmL12 : Bool
  pciPmL12 : Bool
  ltr : Bool
  deriving DecidableEq, Repr

/-- The shape of a write (R263): one aligned 32-bit word, one whole note of 64 bits, or any other access of BAR0; or a write in
configuration space, of the control registers (R261) or of MSI-X Enable and Function Mask (R265), whose register the shape names. -/
inductive WShape where
  | word (v : Word)
  | note (hi lo : Word)
  | bad
  | control (c : PciCtl)
  | msix (enable mask : Bool)
  deriving DecidableEq, Repr

/-- The stamp of a crank edge, with the edge's direction at the pin (R39). -/
structure CrankStamp where
  rising : Bool
  t : Tb
  deriving DecidableEq, Repr

/-- A guardian whose event-driven condition has stood for so many steps of 8 µs (R244). -/
structure GrdHeld where
  g : Nat
  held : Nat
  deriving DecidableEq, Repr

/-- The header of an SPI frame, and whether the frame came too early after the one before it (R493). -/
structure SpiHeader where
  early : Bool
  word : Word
  deriving DecidableEq, Repr

/-- The eight words of an event descriptor (Table 4.2). -/
structure Descriptor where
  w0 : Word
  w1 : Word
  w2 : Word
  w3 : Word
  w4 : Word
  w5 : Word
  w6 : Word
  w7 : Word
  deriving DecidableEq, Repr

/-- The doorbell line as the device reads it (Table 11.2): the host's index of each ring (tail of an SQ or the MQ, head of
an outbound ring, in ring-number order 0 to 18) and HOST_BEAT. -/
structure DoorbellLine where
  idx  : List Nat
  beat : Word
  deriving DecidableEq, Repr

/-- The owner of an over-current or trip latch on the analogue die (R25). -/
inductive Latch where
  | channel (n : Nat)
  | bank (b : Nat)
  | guardian (g : Nat)
  deriving DecidableEq, Repr

/-- Where a command that exists both as an MQ command and as a set-up write came from: the MQ with its TAG, or a port. -/
inductive Issuer where
  | mq (tag : Word)
  | reg (p : Port)
  deriving DecidableEq, Repr

/-- A comparator unit of Table 13.1. -/
inductive CmpUnit where
  | peak (b : Nat)
  | hold (b : Nat)
  | vds (n : Nat)
  | ghv (b : Nat)
  | ghb (b : Nat)
  | fastTrip (g : Nat)
  | reverse (g : Nat)
  | wmLo (n : Nat)
  | wmHi (n : Nat)
  deriving DecidableEq, Repr

/-- The measurement that a conversion of R213 belongs to. -/
inductive MeasPath where
  | boost
  | rail
  deriving DecidableEq, Repr

/-- A wake source of Table 16.5. -/
inductive WakeSrc where
  | key
  | input
  | crank
  | prsn (g : Nat)
  | trip (g : Nat)
  deriving DecidableEq, Repr

/-- The supplies whose brownout resets the device (Table 16.4), in RAIL order. -/
inductive BrownRail where
  | vcore
  | vphy08
  | vphy18
  | vio
  | vdda
  deriving DecidableEq, Repr

/-- A verdict of one failed unit at the end of a tuning-pass block: the unit number of Table 18.1 and its deviation. -/
structure UnitFail where
  unit : Nat
  dev  : Int
  deriving DecidableEq, Repr

/-- The angle frame of Table 19.2, field by field, with its received CRC byte. -/
structure AngleFrame where
  idx    : Nat
  sync   : Nat
  phase  : Bool
  rev    : Bool
  pos    : Nat
  tslice : Nat
  tstamp : Tb
  tag    : Nat
  rate   : Word
  lmode  : Nat
  crc    : Nat
  deriving DecidableEq, Repr

/-- The training frame of Table 19.2, field by field, with its received CRC byte. -/
structure TrainFrame where
  step   : Nat
  dev    : Nat
  n      : Nat
  m      : Nat
  tooth0 : Nat
  launch : Tb
  lat    : Nat
  crc    : Nat
  deriving DecidableEq, Repr

/-- The commands: one constructor per row of the opcode table. -/
inductive Instr where
  -- set-up accesses
  | registerWrite (p : Port) (off : Nat) (w : WShape)
  | readClear (p : Port) (off : Nat) (sh : RShape)
  | sysAbort (p : Port) (v : Word)
  -- die link, trips, quadrant gates, doorbell
  | dieLinkLoss
  | dieLinkRetrain (ok : Bool)
  | channelOcTrip (n : Nat)
  | highSideOcTrip (b : Nat) (boost : Bool)
  | tripLatchSeen (u : Latch)
  | quadrantUngate (q : Nat)
  | quadrantGateClose (q : Nat)
  | doorbellSweep
  | doorbellReadDone (line : DoorbellLine)
  -- wheel tracker and angle clock
  | crankEdge (stamp : CrankStamp) (width peak : Nat)
  | coarseEdge
  | camEdge (n : Nat) (falling : Bool) (stamp : Tb) (width peak : Nat)
  | stall
  | syncReset (p : Port) (v : Word)
  | clockClamp
  | cycleWrap
  | terrDataAccess (p : Port) (w : Option Word)
  | clearTerr (p : Port) (v : Word)
  | clearTors (p : Port) (v : Word)
  | errRestart (p : Port) (v : Word)
  | angleReadLatch (p : Port)
  | stampReadLatch (p : Port)
  -- events
  | new (sq : Nat) (d : Descriptor)
  | replace (sq : Nat) (d : Descriptor)
  | cancel (sq : Nat) (d : Descriptor)
  | cancelAll (sq : Nat) (d : Descriptor)
  | eventRelease (n : Nat)
  | anchorAngleReached (n : Nat)
  | eventStart (n : Nat)
  | logEnd (n : Nat)
  | tokenWaitTimeout (b t : Nat)
  | dutyCapReached (bank : Bool) (unit : Nat)
  -- notes: thread t of bank b issues the note at its program counter
  | noteNop (b t : Nat)
  | gate (b t : Nat)
  | level (b t : Nat)
  | tload (b t : Nat)
  | waitT (b t : Nat)
  | waitA (b t : Nat)
  | waitC (b t : Nat)
  | waitK (b t : Nat)
  | reg (b t : Nat)
  | br (b t : Nat)
  | loop (b t : Nat)
  | claim (b t : Nat)
  | release (b t : Nat)
  | susBegin (b t : Nat)
  | susEnd (b t : Nat)
  | mark (b t : Nat)
  | sample (b t : Nat)
  | endNote (b t : Nat)
  -- thread happenings
  | phraseOverrun (b t : Nat)
  | waitTargetReached (b t : Nat)
  | conditionTrue (b t : Nat)
  | claimDecision (b t : Nat)
  | tokenGrant (b : Nat)
  | reedTimerZero (b t k : Nat)
  | chopOffTimeEnd (b t : Nat)
  | mergeWatchClose (b t : Nat)
  | phraseStoreSync (q : Nat)
  | phraseParam (tag arg0 arg1 : Word)
  -- drive stage
  | clearOc (tag arg0 : Word)
  | boostRegulation (q vbst : Nat)
  | boostPulse (q vbat : Nat)
  | boostOvervoltage (q vbst : Nat)
  | closingKink (n : Nat) (codes : List Nat)
  | closingNoKink (n : Nat)
  | resultWrite (id : Nat)
  -- inkwell
  | boostReconcile (q vbst : Nat)
  | fillRateRefresh (q vbat : Nat)
  | railSubwindowEnd (g : Nat)
  | ptabDataAccess (p : Port) (w : Option Word)
  | measurementConversion (b : Nat) (path : MeasPath) (shunt volt : Nat)
  -- rail guardians
  | guardianMeterSample (g : Nat) (cur : Int) (volt : Nat)
  | soaUpdate (g : Nat)
  | rampTimeout (g : Nat)
  | guardianFastTrip (g : Nat)
  | reverseCurrentTrip (g : GrdHeld)
  | externalFault (g : GrdHeld)
  | retryDelayEnd (g : Nat)
  | retryCountReset (g : Nat)
  | prsnChange (g : Nat) (level : Bool)
  | prsnDebounceDone (g : Nat)
  | prsnRemoval (g : Nat)
  | grdOn (src : Issuer) (g : Nat)
  | grdOff (src : Issuer) (g : Nat)
  | grdClear (src : Issuer) (g : Nat)
  | grdLimit (tag arg0 arg1 : Word)
  | slowSupervisionCheck (g : Nat) (gateOk vOk : Bool)
  | vigilMeterSample (g : Nat) (cur : Int) (vout vin : Nat)
  | energyCounterRead (p : Port) (g : Nat)
  -- host link
  | perstAssert
  | hotReset
  | functionLevelReset
  | dataLinkDown (unacked : Nat)
  | dataLinkUp (speed width : Nat)
  | busMasterDisable (d3 : Bool)
  | busMasterEnable
  | hostSilence
  | hifHeartbeat (p : Port) (v : Word)
  | dmaFailure (ring cause : Nat)
  | msixUnmask (v : Nat)
  | spiReadFrame (header : SpiHeader)
  | spiWriteFrame (header : SpiHeader) (words : List Word) (crc : Nat)
  -- rings
  | ringEnable (p : Port) (r : Nat) (v : Word)
  | ringDisable (p : Port) (r : Nat) (v : Word)
  | ringDrained (r : Nat)
  | ringEngineEnable (p : Port) (v : Word)
  | statusLineWrite
  | recordWrite
  | gapRecord (r : Nat)
  | mqNop (tag : Word)
  | traceCtrl (tag arg0 : Word)
  | accClose (tag arg0 : Word)
  | fallbackEnd (src : Issuer)
  | safestopExit (src : Issuer)
  | mqUnknownOpcode (tag : Word) (op : Nat)
  -- converters, accumulators
  | loopVisit (n : Nat) (codes : List Int)
  | urgentVisit (n : Nat) (codes : List Int)
  | angleTrigger (k : Nat)
  | vigilVisit (codes : List Int)
  | converterCalibrate (p : Port) (v : Word)
  | calibrationDone (n : Nat) (factors : List Word)
  | adcMove (p : Port) (v : Word)
  | movePendEnd
  | accDataAccess (p : Port) (w : Option Word)
  | windowTimeClose (t : Nat)
  | windowAngleClose (t : Nat)
  -- comparators, timers
  | comparatorCrossing (c : CmpUnit) (above : Bool)
  | timerZero (n : Nat)
  | timerMatch (n : Nat)
  | timerStart (p : Port) (v : Word)
  | timerStop (p : Port) (v : Word)
  | timerReloadWrite (p : Port) (n : Nat) (v : Word)
  | timerCmpWrite (p : Port) (n : Nat) (v : Word)
  | timerCapture (n : Nat) (rising : Bool)
  | slaveTrigger (n : Nat)
  | timerCatchup
  -- Nib engines
  | stroke (n : Nat) (inputs : List Bool)
  | nibStart (p : Port) (n : Nat) (v : Word)
  | nibStop (p : Port) (n : Nat) (v : Word)
  | nibResume (p : Port) (n : Nat) (v : Word)
  | nibFlush (p : Port) (n : Nat) (v : Word)
  | nibTxWrite (p : Port) (n : Nat) (v : Word)
  | nibRxRead (p : Port) (n : Nat)
  | strokeWrite (p : Port) (n : Nat) (v : Word)
  | strokeReadLatch (p : Port) (n : Nat)
  | marginWrite (p : Port) (n : Nat) (v : Word)
  -- event concentrator
  | groupReadyTime (k : Nat)
  | sourceAssign
  | evcClaim (p : Port) (t src : Nat)
  | evcComplete (p : Port) (t src : Nat)
  | evcRelease (p : Port) (t : Nat)
  | extLineEdge (n : Nat) (high : Bool)
  -- modes, clocks, power
  | modeRequestDormant (p : Port) (vigil : Bool)
  | modeRequestSafestop (p : Port)
  | modeRequestSetup (p : Port)
  | modeRequestArmed (p : Port)
  | modeRequestMaint (p : Port)
  | modeRequestMaintExit (p : Port)
  | idleTimeout
  | sleepCommit
  | sleepWaitTimeout
  | wakeDecision (w : WakeSrc)
  | safestopSupply
  | safestopTemperature
  | stopPin
  | safestopCauseCleared (c : Nat)
  | fallbackAdmission (e : Nat)
  | fbdataAccess (p : Port) (w : Option Word)
  | softwareReset (p : Port) (v : Word)
  | brownoutReset (r : BrownRail)
  | powerOnReset
  | powerLoss
  | referenceQualified
  | pllLocked
  | dieLinkTrained
  | imageChecked
  | bootComplete
  | referenceLoss
  | aonCrystalSwitch
  -- roles, sessions, COMMIT, journal
  | sessionRequest (p : Port) (v : Word)
  | challengeReady
  | challengeExpiry
  | sessionOpen (p : Port) (v : Word)
  | roleUnlockDone
  | sessionClose (p : Port) (v : Word)
  | sessionIdleTimeout
  | lockoutEnd
  | installerClaim (p : Port) (v : Word)
  | keyProvisionSet (p : Port) (v : Word)
  | keyProvisionClear (p : Port) (v : Word)
  | commit (p : Port) (v : Word)
  | commitDone
  | discard (p : Port) (v : Word)
  | journalRead (p : Port)
  | journalExport (p : Port) (v : Word)
  | exportDone
  | journalSeal (p : Port) (v : Word)
  | sealDone
  -- tuning pass
  | tuningGo (p : Port) (v : Word)
  | tuningBlockStart (laneB : Bool)
  | tuningBlockEnd (laneB : Bool) (fails : List UnitFail)
  -- slur link
  | angleFrameLaunch
  | angleFrameReceive (f : AngleFrame)
  | retrain (p : Port) (v : Word)
  | trainingFrameReceive (f : TrainFrame) (arrival : Tb)
  | trainingEcho (rt : Option Nat)
  | trainingStepDone
  | trainingTimeout
  | timeBaseSlew (diff : Int)
  | slurLinkLoss
  | slurRetry
  | slurLossTimeout
  -- boundary scan
  | jtagExtest
  | jtagIdcode
  | jtagSamplePreload (pins cells : List Bool)
  | jtagClamp
  | jtagHighz
  | jtagBypass (code : Nat)
  | tapReset
  -- late rows of the table
  | perstDeassert
  | msixEnable
  | brownoutRelease
  | upstreamStatusLoss
  | commitFailed
  deriving DecidableEq, Repr

end Sys2Proof
end

