-- ==== Sys2Proof/Decode.lean ====
section
/-! DEFINITION. Commands of this block come from outside and are spelt by no word: spec/opcode_table.json gives its rows no
fields, no bits and no length, so no word spells a command. -/

namespace Sys2Proof

/-- The command that a word spells by the table's bits: the table gives no row any, so every word spells none. -/
def decodeTableWord (_nbits _w : Nat) : Option Instr := none

end Sys2Proof
end

