-- ==== Sys2Proof/Config.lean ====
section
/-! DEFINITION. What one part fixes and the spec leaves open: opaque constants without a value, so that every proved claim
holds whatever they are (log entries 3 and 4). -/

namespace Sys2Proof

/-- The value that the factory fuses as the unique identifier (R477: an opaque value). -/
opaque Config.fusedUid : BitVec 64

/-- The 64-bit unique identifier (SYS_UID_LO, SYS_UID_HI): neither zero nor all ones, and otherwise open (R477). -/
def Config.uid : BitVec 64 := BitVec.ofNat 64 (1 + Config.fusedUid.toNat % (2 ^ 64 - 2))

/-- The maker key fused at the factory, never readable (R433). -/
opaque Config.makerKey : BitVec 128

/-- The fresh 128-bit random nonce of the n-th challenge (R430): a free value. -/
opaque Config.freeNonce : Nat → BitVec 128

/-! Values that a fixed-point format does not hold, given their operands (log entry 43). -/

/-- A ratio r of R44 above 8.8, of an interval and P. -/
opaque Config.wideR : Nat → Nat → BitVec 16

/-- U of R67 above 28.4, of an interval and W. -/
opaque Config.wideU : Nat → Nat → BitVec 32

/-- q of R69 above 2.16, of U1 and U2. -/
opaque Config.wideQ : Nat → Nat → BitVec 18

/-- RATE of R73 above 0.32, of A, s' and P. -/
opaque Config.wideRate : Nat → Nat → Nat → BitVec 32

/-- The time in tb that an angle takes while RATE is 0, of the angle in at (R96, R124): log entry 44. -/
opaque Config.noRate : Nat → BitVec 40

/-- R_FILL of INK_BSTRATE above 65,535 mW, of the rate in µW (R228): log entry 48. -/
opaque Config.wideFill : Nat → BitVec 16

/-- T_REV of WHL_REVTIME above 32 bits (R89). -/
opaque Config.wideRev : Nat → BitVec 32

/-- The n-th value that the spec leaves open: a free value, named where it is used. -/
opaque Config.freeValue : Nat → BitVec 64

end Sys2Proof
end

