-- ==== Sys2Proof/Machine/Regs.lean ====
section
/-! DEFINITION. The addresses of the set-up registers and the places of their fields (Tables 2.8 to 20.3, as R475 names
them). One abbreviation per register and one per field, named as the spec names them; array indices are arguments. -/

namespace Sys2Proof.Machine

/-- A field of a set-up register: the register's offset, the field's lowest bit and its width. -/
structure Fld where
  a : Nat
  lo : Nat
  w : Nat
  deriving DecidableEq, Repr

abbrev R.SYS_ID : Nat := 0x0
abbrev F.SYS_ID_VENDOR : Fld := ⟨R.SYS_ID, 0, 16⟩
abbrev F.SYS_ID_DEVICE : Fld := ⟨R.SYS_ID, 16, 16⟩
abbrev R.SYS_REV : Nat := 0x4
abbrev F.SYS_REV_STEP : Fld := ⟨R.SYS_REV, 0, 8⟩
abbrev R.SYS_UID_LO : Nat := 0x8
abbrev F.SYS_UID_LO_UID : Fld := ⟨R.SYS_UID_LO, 0, 32⟩
abbrev R.SYS_UID_HI : Nat := 0xc
abbrev F.SYS_UID_HI_UID : Fld := ⟨R.SYS_UID_HI, 0, 32⟩
abbrev R.SYS_CAP0 : Nat := 0x10
abbrev F.SYS_CAP0_QUAD : Fld := ⟨R.SYS_CAP0, 0, 4⟩
abbrev F.SYS_CAP0_BANKS : Fld := ⟨R.SYS_CAP0, 8, 5⟩
abbrev F.SYS_CAP0_CHANNELS : Fld := ⟨R.SYS_CAP0, 16, 7⟩
abbrev R.SYS_CAP1 : Nat := 0x14
abbrev F.SYS_CAP1_GRD : Fld := ⟨R.SYS_CAP1, 0, 8⟩
abbrev F.SYS_CAP1_NIB : Fld := ⟨R.SYS_CAP1, 8, 8⟩
abbrev F.SYS_CAP1_SLUR : Fld := ⟨R.SYS_CAP1, 16, 1⟩
abbrev R.SYS_STAT : Nat := 0x18
abbrev F.SYS_STAT_BUSY : Fld := ⟨R.SYS_STAT, 0, 1⟩
abbrev F.SYS_STAT_OP : Fld := ⟨R.SYS_STAT, 1, 3⟩
abbrev F.SYS_STAT_PORT : Fld := ⟨R.SYS_STAT, 4, 1⟩
abbrev F.SYS_STAT_ELAPSED : Fld := ⟨R.SYS_STAT, 16, 16⟩
abbrev R.SYS_MODE : Nat := 0x1c
abbrev F.SYS_MODE_MODE : Fld := ⟨R.SYS_MODE, 0, 4⟩
abbrev F.SYS_MODE_FALLBACK : Fld := ⟨R.SYS_MODE, 4, 1⟩
abbrev F.SYS_MODE_PREV : Fld := ⟨R.SYS_MODE, 8, 4⟩
abbrev R.SYS_ABORT : Nat := 0x20
abbrev F.SYS_ABORT_ABORT : Fld := ⟨R.SYS_ABORT, 0, 1⟩
abbrev R.SYS_REFUSED : Nat := 0x24
abbrev F.SYS_REFUSED_COUNT : Fld := ⟨R.SYS_REFUSED, 0, 32⟩
abbrev R.SYS_HEALTH0 : Nat := 0x28
abbrev F.SYS_HEALTH0_CRK : Fld := ⟨R.SYS_HEALTH0, 0, 1⟩
abbrev F.SYS_HEALTH0_CAM : Fld := ⟨R.SYS_HEALTH0, 1, 4⟩
abbrev F.SYS_HEALTH0_QCONV : Fld := ⟨R.SYS_HEALTH0, 5, 4⟩
abbrev F.SYS_HEALTH0_HCONV : Fld := ⟨R.SYS_HEALTH0, 9, 2⟩
abbrev F.SYS_HEALTH0_WMON : Fld := ⟨R.SYS_HEALTH0, 11, 8⟩
abbrev F.SYS_HEALTH0_GRD : Fld := ⟨R.SYS_HEALTH0, 19, 8⟩
abbrev F.SYS_HEALTH0_BOOST : Fld := ⟨R.SYS_HEALTH0, 27, 4⟩
abbrev R.SYS_HEALTH1 : Nat := 0x2c
abbrev F.SYS_HEALTH1_CLOSE : Fld := ⟨R.SYS_HEALTH1, 0, 24⟩
abbrev R.SYS_HEALTH (i : Nat) : Nat := 0x30 + 4 * i
abbrev F.SYS_HEALTH_CH (i : Nat) : Fld := ⟨R.SYS_HEALTH i, 0, 32⟩
abbrev R.SYS_MODEREQ : Nat := 0x100
abbrev F.SYS_MODEREQ_MODE : Fld := ⟨R.SYS_MODEREQ, 0, 4⟩
abbrev R.SYS_MODESTAT : Nat := 0x104
abbrev F.SYS_MODESTAT_REQ : Fld := ⟨R.SYS_MODESTAT, 0, 4⟩
abbrev F.SYS_MODESTAT_RESULT : Fld := ⟨R.SYS_MODESTAT, 4, 3⟩
abbrev F.SYS_MODESTAT_IMAGE : Fld := ⟨R.SYS_MODESTAT, 8, 2⟩
abbrev F.SYS_MODESTAT_TST_RAN : Fld := ⟨R.SYS_MODESTAT, 10, 1⟩
abbrev F.SYS_MODESTAT_BOOT_T : Fld := ⟨R.SYS_MODESTAT, 16, 16⟩
abbrev R.SYS_MODECFG : Nat := 0x108
abbrev F.SYS_MODECFG_BOOT_TO : Fld := ⟨R.SYS_MODECFG, 0, 2⟩
abbrev F.SYS_MODECFG_SLEEP_TO : Fld := ⟨R.SYS_MODECFG, 2, 1⟩
abbrev F.SYS_MODECFG_IDLE_T : Fld := ⟨R.SYS_MODECFG, 8, 8⟩
abbrev R.SYS_WAKECFG : Nat := 0x10c
abbrev F.SYS_WAKECFG_KEY_EN : Fld := ⟨R.SYS_WAKECFG, 0, 1⟩
abbrev F.SYS_WAKECFG_KEY_POL : Fld := ⟨R.SYS_WAKECFG, 1, 1⟩
abbrev F.SYS_WAKECFG_IN_EN : Fld := ⟨R.SYS_WAKECFG, 2, 1⟩
abbrev F.SYS_WAKECFG_IN_POL : Fld := ⟨R.SYS_WAKECFG, 3, 1⟩
abbrev F.SYS_WAKECFG_CRK_EN : Fld := ⟨R.SYS_WAKECFG, 4, 1⟩
abbrev F.SYS_WAKECFG_TST_WAKE : Fld := ⟨R.SYS_WAKECFG, 5, 1⟩
abbrev F.SYS_WAKECFG_KEY_DB : Fld := ⟨R.SYS_WAKECFG, 8, 8⟩
abbrev F.SYS_WAKECFG_IN_DB : Fld := ⟨R.SYS_WAKECFG, 16, 8⟩
abbrev R.SYS_WAKESTAT : Nat := 0x110
abbrev F.SYS_WAKESTAT_KEY : Fld := ⟨R.SYS_WAKESTAT, 0, 1⟩
abbrev F.SYS_WAKESTAT_IN : Fld := ⟨R.SYS_WAKESTAT, 1, 1⟩
abbrev F.SYS_WAKESTAT_CRK : Fld := ⟨R.SYS_WAKESTAT, 2, 1⟩
abbrev F.SYS_WAKESTAT_PRSN : Fld := ⟨R.SYS_WAKESTAT, 3, 1⟩
abbrev F.SYS_WAKESTAT_TRIP : Fld := ⟨R.SYS_WAKESTAT, 4, 1⟩
abbrev F.SYS_WAKESTAT_GRD : Fld := ⟨R.SYS_WAKESTAT, 8, 8⟩
abbrev R.SYS_RSTCAUSE : Nat := 0x114
abbrev F.SYS_RSTCAUSE_POR : Fld := ⟨R.SYS_RSTCAUSE, 0, 1⟩
abbrev F.SYS_RSTCAUSE_BROWNOUT : Fld := ⟨R.SYS_RSTCAUSE, 1, 1⟩
abbrev F.SYS_RSTCAUSE_SOFT : Fld := ⟨R.SYS_RSTCAUSE, 2, 1⟩
abbrev F.SYS_RSTCAUSE_MAINT_EXIT : Fld := ⟨R.SYS_RSTCAUSE, 3, 1⟩
abbrev F.SYS_RSTCAUSE_WAKE : Fld := ⟨R.SYS_RSTCAUSE, 4, 1⟩
abbrev F.SYS_RSTCAUSE_RAIL : Fld := ⟨R.SYS_RSTCAUSE, 8, 3⟩
abbrev R.SYS_RESET : Nat := 0x118
abbrev F.SYS_RESET_KEY : Fld := ⟨R.SYS_RESET, 0, 16⟩
abbrev R.SYS_CLKCFG : Nat := 0x11c
abbrev F.SYS_CLKCFG_AON_SRC : Fld := ⟨R.SYS_CLKCFG, 0, 1⟩
abbrev F.SYS_CLKCFG_REFSEL : Fld := ⟨R.SYS_CLKCFG, 1, 1⟩
abbrev R.SYS_CLKSTAT : Nat := 0x120
abbrev F.SYS_CLKSTAT_AON_XTAL : Fld := ⟨R.SYS_CLKSTAT, 0, 1⟩
abbrev F.SYS_CLKSTAT_REF_OK : Fld := ⟨R.SYS_CLKSTAT, 1, 1⟩
abbrev F.SYS_CLKSTAT_PLL_LOCK : Fld := ⟨R.SYS_CLKSTAT, 2, 1⟩
abbrev F.SYS_CLKSTAT_QCLK : Fld := ⟨R.SYS_CLKSTAT, 8, 4⟩
abbrev R.SYS_SAFECFG : Nat := 0x124
abbrev F.SYS_SAFECFG_EXIT_I : Fld := ⟨R.SYS_SAFECFG, 0, 1⟩
abbrev F.SYS_SAFECFG_STOP_EN : Fld := ⟨R.SYS_SAFECFG, 1, 1⟩
abbrev F.SYS_SAFECFG_STOP_PIN : Fld := ⟨R.SYS_SAFECFG, 2, 5⟩
abbrev F.SYS_SAFECFG_STOP_POL : Fld := ⟨R.SYS_SAFECFG, 7, 1⟩
abbrev R.SYS_SAFESTAT : Nat := 0x128
abbrev F.SYS_SAFESTAT_CAUSE : Fld := ⟨R.SYS_SAFESTAT, 0, 3⟩
abbrev F.SYS_SAFESTAT_ACTIVE : Fld := ⟨R.SYS_SAFESTAT, 4, 6⟩
abbrev F.SYS_SAFESTAT_SEEN : Fld := ⟨R.SYS_SAFESTAT, 12, 6⟩
abbrev R.SYS_FBPLAN : Nat := 0x12c
abbrev F.SYS_FBPLAN_EN : Fld := ⟨R.SYS_FBPLAN, 0, 1⟩
abbrev F.SYS_FBPLAN_LEAD : Fld := ⟨R.SYS_FBPLAN, 1, 9⟩
abbrev F.SYS_FBPLAN_ENTRIES : Fld := ⟨R.SYS_FBPLAN, 10, 10⟩
abbrev R.SYS_FBCYL : Nat := 0x130
abbrev F.SYS_FBCYL_CYL : Fld := ⟨R.SYS_FBCYL, 0, 32⟩
abbrev R.SYS_FBSTAT : Nat := 0x134
abbrev F.SYS_FBSTAT_FLAG : Fld := ⟨R.SYS_FBSTAT, 0, 1⟩
abbrev F.SYS_FBSTAT_PEND : Fld := ⟨R.SYS_FBSTAT, 1, 1⟩
abbrev F.SYS_FBSTAT_CAUSE : Fld := ⟨R.SYS_FBSTAT, 2, 2⟩
abbrev F.SYS_FBSTAT_ADMITTED : Fld := ⟨R.SYS_FBSTAT, 16, 16⟩
abbrev R.SYS_FBIDX : Nat := 0x138
abbrev F.SYS_FBIDX_WORD : Fld := ⟨R.SYS_FBIDX, 0, 3⟩
abbrev F.SYS_FBIDX_ENTRY : Fld := ⟨R.SYS_FBIDX, 3, 9⟩
abbrev R.SYS_FBDATA : Nat := 0x13c
abbrev F.SYS_FBDATA_DATA : Fld := ⟨R.SYS_FBDATA, 0, 32⟩
abbrev R.SYS_FBCTL : Nat := 0x140
abbrev F.SYS_FBCTL_END : Fld := ⟨R.SYS_FBCTL, 0, 1⟩
abbrev R.SEC_SESS_CTRL : Nat := 0x400
abbrev F.SEC_SESS_CTRL_ROLE : Fld := ⟨R.SEC_SESS_CTRL, 0, 2⟩
abbrev F.SEC_SESS_CTRL_REQ : Fld := ⟨R.SEC_SESS_CTRL, 2, 1⟩
abbrev F.SEC_SESS_CTRL_OPEN : Fld := ⟨R.SEC_SESS_CTRL, 3, 1⟩
abbrev F.SEC_SESS_CTRL_CLOSE : Fld := ⟨R.SEC_SESS_CTRL, 4, 1⟩
abbrev F.SEC_SESS_CTRL_CLAIM : Fld := ⟨R.SEC_SESS_CTRL, 5, 1⟩
abbrev R.SEC_SESS_STAT : Nat := 0x404
abbrev F.SEC_SESS_STAT_ROLE : Fld := ⟨R.SEC_SESS_STAT, 0, 2⟩
abbrev F.SEC_SESS_STAT_PORT : Fld := ⟨R.SEC_SESS_STAT, 2, 1⟩
abbrev F.SEC_SESS_STAT_CHAL_VALID : Fld := ⟨R.SEC_SESS_STAT, 3, 1⟩
abbrev F.SEC_SESS_STAT_LOCKED : Fld := ⟨R.SEC_SESS_STAT, 4, 1⟩
abbrev F.SEC_SESS_STAT_FAILS : Fld := ⟨R.SEC_SESS_STAT, 5, 2⟩
abbrev F.SEC_SESS_STAT_REFUSED : Fld := ⟨R.SEC_SESS_STAT, 7, 1⟩
abbrev R.SEC_SESSCFG : Nat := 0x408
abbrev F.SEC_SESSCFG_IDLE : Fld := ⟨R.SEC_SESSCFG, 0, 12⟩
abbrev R.SEC_CHAL (i : Nat) : Nat := 0x410 + 4 * i
abbrev F.SEC_CHAL_CHAL (i : Nat) : Fld := ⟨R.SEC_CHAL i, 0, 32⟩
abbrev R.SEC_RESP (i : Nat) : Nat := 0x420 + 4 * i
abbrev F.SEC_RESP_RESP (i : Nat) : Fld := ⟨R.SEC_RESP i, 0, 32⟩
abbrev R.SEC_KEY (i : Nat) : Nat := 0x430 + 4 * i
abbrev F.SEC_KEY_KEY (i : Nat) : Fld := ⟨R.SEC_KEY i, 0, 32⟩
abbrev R.SEC_KSTAT : Nat := 0x440
abbrev F.SEC_KSTAT_IKEY_SET : Fld := ⟨R.SEC_KSTAT, 0, 1⟩
abbrev R.SEC_KPROV : Nat := 0x444
abbrev F.SEC_KPROV_SET : Fld := ⟨R.SEC_KPROV, 0, 1⟩
abbrev F.SEC_KPROV_CLEAR : Fld := ⟨R.SEC_KPROV, 1, 1⟩
abbrev R.SEC_COMMIT : Nat := 0x450
abbrev F.SEC_COMMIT_GO : Fld := ⟨R.SEC_COMMIT, 0, 1⟩
abbrev F.SEC_COMMIT_DISCARD : Fld := ⟨R.SEC_COMMIT, 1, 1⟩
abbrev R.SEC_CMT_STAT : Nat := 0x454
abbrev F.SEC_CMT_STAT_OUTCOME : Fld := ⟨R.SEC_CMT_STAT, 0, 4⟩
abbrev F.SEC_CMT_STAT_ENTRIES : Fld := ⟨R.SEC_CMT_STAT, 4, 4⟩
abbrev F.SEC_CMT_STAT_ADDR : Fld := ⟨R.SEC_CMT_STAT, 8, 18⟩
abbrev R.SEC_CMT_RES : Nat := 0x458
abbrev F.SEC_CMT_RES_KIND : Fld := ⟨R.SEC_CMT_RES, 0, 3⟩
abbrev F.SEC_CMT_RES_INDEX : Fld := ⟨R.SEC_CMT_RES, 3, 9⟩
abbrev R.SEC_CMT_OWN : Nat := 0x45c
abbrev F.SEC_CMT_OWN_OWNER_A : Fld := ⟨R.SEC_CMT_OWN, 0, 13⟩
abbrev F.SEC_CMT_OWN_OWNER_B : Fld := ⟨R.SEC_CMT_OWN, 16, 13⟩
abbrev R.SEC_CMT_TIME : Nat := 0x460
abbrev F.SEC_CMT_TIME_TIME : Fld := ⟨R.SEC_CMT_TIME, 0, 16⟩
abbrev R.SEC_STAT : Nat := 0x464
abbrev F.SEC_STAT_DIRTY : Fld := ⟨R.SEC_STAT, 0, 17⟩
abbrev R.SEC_ROLE_DENY : Nat := 0x470
abbrev F.SEC_ROLE_DENY_COUNT : Fld := ⟨R.SEC_ROLE_DENY, 0, 32⟩
abbrev R.SEC_AUTH_FAIL_CNT : Nat := 0x474
abbrev F.SEC_AUTH_FAIL_CNT_COUNT : Fld := ⟨R.SEC_AUTH_FAIL_CNT, 0, 32⟩
abbrev R.SEC_CMT_FAIL_CNT : Nat := 0x478
abbrev F.SEC_CMT_FAIL_CNT_COUNT : Fld := ⟨R.SEC_CMT_FAIL_CNT, 0, 32⟩
abbrev R.SEC_JLOST_CNT : Nat := 0x47c
abbrev F.SEC_JLOST_CNT_COUNT : Fld := ⟨R.SEC_JLOST_CNT, 0, 32⟩
abbrev R.SEC_JSTAT : Nat := 0x480
abbrev F.SEC_JSTAT_USED : Fld := ⟨R.SEC_JSTAT, 0, 13⟩
abbrev F.SEC_JSTAT_FULL : Fld := ⟨R.SEC_JSTAT, 13, 1⟩
abbrev F.SEC_JSTAT_SEAL_VALID : Fld := ⟨R.SEC_JSTAT, 14, 1⟩
abbrev F.SEC_JSTAT_SEAL_REFUSED : Fld := ⟨R.SEC_JSTAT, 15, 1⟩
abbrev F.SEC_JSTAT_IM : Fld := ⟨R.SEC_JSTAT, 16, 13⟩
abbrev R.SEC_JOLDOP : Nat := 0x484
abbrev F.SEC_JOLDOP_COUNTER : Fld := ⟨R.SEC_JOLDOP, 0, 32⟩
abbrev R.SEC_JIDX : Nat := 0x490
abbrev F.SEC_JIDX_WORD : Fld := ⟨R.SEC_JIDX, 0, 4⟩
abbrev F.SEC_JIDX_POS : Fld := ⟨R.SEC_JIDX, 4, 12⟩
abbrev R.SEC_JDATA : Nat := 0x494
abbrev F.SEC_JDATA_DATA : Fld := ⟨R.SEC_JDATA, 0, 32⟩
abbrev R.SEC_JCTRL : Nat := 0x4a0
abbrev F.SEC_JCTRL_EXPORT : Fld := ⟨R.SEC_JCTRL, 0, 1⟩
abbrev F.SEC_JCTRL_SEAL : Fld := ⟨R.SEC_JCTRL, 1, 1⟩
abbrev R.SEC_JSEAL (i : Nat) : Nat := 0x4a4 + 4 * i
abbrev F.SEC_JSEAL_SEAL (i : Nat) : Fld := ⟨R.SEC_JSEAL i, 0, 32⟩
abbrev R.SEC_JSEALCNT : Nat := 0x4b4
abbrev F.SEC_JSEALCNT_COUNTER : Fld := ⟨R.SEC_JSEALCNT, 0, 32⟩
abbrev R.HIF_CFG : Nat := 0x800
abbrev F.HIF_CFG_INT_EN : Fld := ⟨R.HIF_CFG, 0, 1⟩
abbrev F.HIF_CFG_CLKREQ_EN : Fld := ⟨R.HIF_CFG, 1, 1⟩
abbrev F.HIF_CFG_SPI_CRC : Fld := ⟨R.HIF_CFG, 2, 1⟩
abbrev R.HIF_LINK : Nat := 0x804
abbrev F.HIF_LINK_SPEED : Fld := ⟨R.HIF_LINK, 0, 4⟩
abbrev F.HIF_LINK_WIDTH : Fld := ⟨R.HIF_LINK, 4, 2⟩
abbrev F.HIF_LINK_UP : Fld := ⟨R.HIF_LINK, 6, 1⟩
abbrev F.HIF_LINK_BME : Fld := ⟨R.HIF_LINK, 7, 1⟩
abbrev F.HIF_LINK_MSIX_EN : Fld := ⟨R.HIF_LINK, 8, 1⟩
abbrev F.HIF_LINK_FMASK : Fld := ⟨R.HIF_LINK, 9, 1⟩
abbrev F.HIF_LINK_DSTATE : Fld := ⟨R.HIF_LINK, 10, 2⟩
abbrev F.HIF_LINK_L1 : Fld := ⟨R.HIF_LINK, 12, 1⟩
abbrev R.HIF_SILENCE : Nat := 0x808
abbrev F.HIF_SILENCE_SILENCE : Fld := ⟨R.HIF_SILENCE, 0, 10⟩
abbrev R.HIF_HEARTBEAT : Nat := 0x80c
abbrev F.HIF_HEARTBEAT_BEAT : Fld := ⟨R.HIF_HEARTBEAT, 0, 32⟩
abbrev R.HIF_LINKDN_CNT : Nat := 0x810
abbrev F.HIF_LINKDN_CNT_COUNT : Fld := ⟨R.HIF_LINKDN_CNT, 0, 32⟩
abbrev R.HIF_BADACC_CNT : Nat := 0x814
abbrev F.HIF_BADACC_CNT_COUNT : Fld := ⟨R.HIF_BADACC_CNT, 0, 32⟩
abbrev R.HIF_DMAERR : Nat := 0x818
abbrev F.HIF_DMAERR_RING : Fld := ⟨R.HIF_DMAERR, 0, 5⟩
abbrev F.HIF_DMAERR_CAUSE : Fld := ⟨R.HIF_DMAERR, 5, 3⟩
abbrev F.HIF_DMAERR_VALID : Fld := ⟨R.HIF_DMAERR, 31, 1⟩
abbrev R.HIF_SPI_CRC_CNT : Nat := 0x81c
abbrev F.HIF_SPI_CRC_CNT_COUNT : Fld := ⟨R.HIF_SPI_CRC_CNT, 0, 32⟩
abbrev R.HIF_RCTRL : Nat := 0x900
abbrev F.HIF_RCTRL_EN : Fld := ⟨R.HIF_RCTRL, 0, 1⟩
abbrev R.HIF_FBCFG : Nat := 0x904
abbrev F.HIF_FBCFG_FB_RES : Fld := ⟨R.HIF_FBCFG, 0, 1⟩
abbrev F.HIF_FBCFG_FB_CQ : Fld := ⟨R.HIF_FBCFG, 1, 2⟩
abbrev R.HIF_SWEEP : Nat := 0x908
abbrev F.HIF_SWEEP_DB_SWEEP : Fld := ⟨R.HIF_SWEEP, 0, 8⟩
abbrev F.HIF_SWEEP_HB_PERIOD : Fld := ⟨R.HIF_SWEEP, 16, 14⟩
abbrev R.HIF_TRACE : Nat := 0x90c
abbrev F.HIF_TRACE_TOOTH : Fld := ⟨R.HIF_TRACE, 0, 1⟩
abbrev F.HIF_TRACE_SYNC : Fld := ⟨R.HIF_TRACE, 1, 1⟩
abbrev F.HIF_TRACE_GRD : Fld := ⟨R.HIF_TRACE, 2, 1⟩
abbrev F.HIF_TRACE_EVT : Fld := ⟨R.HIF_TRACE, 3, 1⟩
abbrev R.HIF_DBADDR_LO : Nat := 0x910
abbrev F.HIF_DBADDR_LO_ADDR : Fld := ⟨R.HIF_DBADDR_LO, 6, 26⟩
abbrev R.HIF_DBADDR_HI : Nat := 0x914
abbrev F.HIF_DBADDR_HI_ADDR : Fld := ⟨R.HIF_DBADDR_HI, 0, 32⟩
abbrev R.HIF_STADDR_LO : Nat := 0x918
abbrev F.HIF_STADDR_LO_ADDR : Fld := ⟨R.HIF_STADDR_LO, 6, 26⟩
abbrev R.HIF_STADDR_HI : Nat := 0x91c
abbrev F.HIF_STADDR_HI_ADDR : Fld := ⟨R.HIF_STADDR_HI, 0, 32⟩
abbrev R.HIF_OBSTAT : Nat := 0x920
abbrev F.HIF_OBSTAT_COLLAPSE : Fld := ⟨R.HIF_OBSTAT, 0, 1⟩
abbrev F.HIF_OBSTAT_TQ_FULL : Fld := ⟨R.HIF_OBSTAT, 1, 1⟩
abbrev F.HIF_OBSTAT_XQ_FULL : Fld := ⟨R.HIF_OBSTAT, 2, 1⟩
abbrev F.HIF_OBSTAT_ALM_LEVEL : Fld := ⟨R.HIF_OBSTAT, 8, 9⟩
abbrev R.HIF_ALM_HIGH : Nat := 0x924
abbrev F.HIF_ALM_HIGH_LEVEL : Fld := ⟨R.HIF_ALM_HIGH, 0, 9⟩
abbrev R.HIF_TQLOST_CNT : Nat := 0x928
abbrev F.HIF_TQLOST_CNT_COUNT : Fld := ⟨R.HIF_TQLOST_CNT, 0, 32⟩
abbrev R.HIF_XQLOST_CNT : Nat := 0x92c
abbrev F.HIF_XQLOST_CNT_COUNT : Fld := ⟨R.HIF_XQLOST_CNT, 0, 32⟩
abbrev R.HIF_REPEAT_CNT : Nat := 0x930
abbrev F.HIF_REPEAT_CNT_COUNT : Fld := ⟨R.HIF_REPEAT_CNT, 0, 32⟩
abbrev R.HIF_RBASELO (r : Nat) : Nat := 0x980 + 16 * r
abbrev F.HIF_RBASELO_ADDR (r : Nat) : Fld := ⟨R.HIF_RBASELO r, 6, 26⟩
abbrev R.HIF_RBASEHI (r : Nat) : Nat := 0x984 + 16 * r
abbrev F.HIF_RBASEHI_ADDR (r : Nat) : Fld := ⟨R.HIF_RBASEHI r, 0, 32⟩
abbrev R.HIF_RCFG (r : Nat) : Nat := 0x988 + 16 * r
abbrev F.HIF_RCFG_EN (r : Nat) : Fld := ⟨R.HIF_RCFG r, 0, 1⟩
abbrev F.HIF_RCFG_LOG2SZ (r : Nat) : Fld := ⟨R.HIF_RCFG r, 1, 5⟩
abbrev F.HIF_RCFG_URGENT (r : Nat) : Fld := ⟨R.HIF_RCFG r, 6, 1⟩
abbrev F.HIF_RCFG_CQ (r : Nat) : Fld := ⟨R.HIF_RCFG r, 8, 2⟩
abbrev F.HIF_RCFG_THR (r : Nat) : Fld := ⟨R.HIF_RCFG r, 16, 16⟩
abbrev R.HIF_RSTAT (r : Nat) : Nat := 0x98c + 16 * r
abbrev F.HIF_RSTAT_IDX (r : Nat) : Fld := ⟨R.HIF_RSTAT r, 0, 16⟩
abbrev F.HIF_RSTAT_ACTIVE (r : Nat) : Fld := ⟨R.HIF_RSTAT r, 16, 1⟩
abbrev F.HIF_RSTAT_FULL (r : Nat) : Fld := ⟨R.HIF_RSTAT r, 17, 1⟩
abbrev F.HIF_RSTAT_STALLED (r : Nat) : Fld := ⟨R.HIF_RSTAT r, 18, 1⟩
abbrev F.HIF_RSTAT_ERR (r : Nat) : Fld := ⟨R.HIF_RSTAT r, 19, 1⟩
abbrev F.HIF_RSTAT_ERRC (r : Nat) : Fld := ⟨R.HIF_RSTAT r, 20, 3⟩
abbrev R.HIF_ALMCNT (i : Nat) : Nat := 0xb00 + 4 * i
abbrev F.HIF_ALMCNT_COUNT (i : Nat) : Fld := ⟨R.HIF_ALMCNT i, 0, 32⟩
abbrev R.WHL_CTRL : Nat := 0xc00
abbrev F.WHL_CTRL_EN : Fld := ⟨R.WHL_CTRL, 0, 1⟩
abbrev F.WHL_CTRL_CRK_MODE : Fld := ⟨R.WHL_CTRL, 1, 1⟩
abbrev F.WHL_CTRL_CRK_EDGE : Fld := ⟨R.WHL_CTRL, 2, 1⟩
abbrev F.WHL_CTRL_SYNC_RESET : Fld := ⟨R.WHL_CTRL, 3, 1⟩
abbrev R.WHL_TEETH : Nat := 0xc04
abbrev F.WHL_TEETH_N : Fld := ⟨R.WHL_TEETH, 0, 7⟩
abbrev F.WHL_TEETH_M : Fld := ⟨R.WHL_TEETH, 8, 2⟩
abbrev R.WHL_TOOTH0 : Nat := 0xc08
abbrev F.WHL_TOOTH0_ANG : Fld := ⟨R.WHL_TOOTH0, 0, 22⟩
abbrev R.WHL_FE : Nat := 0xc0c
abbrev F.WHL_FE_ARM_PCT : Fld := ⟨R.WHL_FE, 0, 7⟩
abbrev F.WHL_FE_HYST : Fld := ⟨R.WHL_FE, 8, 8⟩
abbrev F.WHL_FE_MINAMP : Fld := ⟨R.WHL_FE, 16, 8⟩
abbrev R.WHL_MINW : Nat := 0xc10
abbrev F.WHL_MINW_MINW : Fld := ⟨R.WHL_MINW, 0, 11⟩
abbrev R.WHL_SYNCCFG : Nat := 0xc14
abbrev F.WHL_SYNCCFG_CRANK_RPM : Fld := ⟨R.WHL_SYNCCFG, 0, 15⟩
abbrev F.WHL_SYNCCFG_GAP_CONFIRM : Fld := ⟨R.WHL_SYNCCFG, 16, 2⟩
abbrev R.WHL_STALL : Nat := 0xc18
abbrev F.WHL_STALL_STALL_T : Fld := ⟨R.WHL_STALL, 0, 12⟩
abbrev R.WHL_RUN_TW : Nat := 0xc20
abbrev F.WHL_RUN_TW_LO : Fld := ⟨R.WHL_RUN_TW, 0, 16⟩
abbrev F.WHL_RUN_TW_HI : Fld := ⟨R.WHL_RUN_TW, 16, 16⟩
abbrev R.WHL_RUN_PROV : Nat := 0xc24
abbrev F.WHL_RUN_PROV_PROV_HI : Fld := ⟨R.WHL_RUN_PROV, 0, 16⟩
abbrev R.WHL_RUN_GAP1 : Nat := 0xc28
abbrev F.WHL_RUN_GAP1_LO : Fld := ⟨R.WHL_RUN_GAP1, 0, 16⟩
abbrev F.WHL_RUN_GAP1_HI : Fld := ⟨R.WHL_RUN_GAP1, 16, 16⟩
abbrev R.WHL_RUN_GAP2 : Nat := 0xc2c
abbrev F.WHL_RUN_GAP2_LO : Fld := ⟨R.WHL_RUN_GAP2, 0, 16⟩
abbrev F.WHL_RUN_GAP2_HI : Fld := ⟨R.WHL_RUN_GAP2, 16, 16⟩
abbrev R.WHL_CRK_TW : Nat := 0xc30
abbrev F.WHL_CRK_TW_LO : Fld := ⟨R.WHL_CRK_TW, 0, 16⟩
abbrev F.WHL_CRK_TW_HI : Fld := ⟨R.WHL_CRK_TW, 16, 16⟩
abbrev R.WHL_CRK_PROV : Nat := 0xc34
abbrev F.WHL_CRK_PROV_PROV_HI : Fld := ⟨R.WHL_CRK_PROV, 0, 16⟩
abbrev R.WHL_CRK_GAP1 : Nat := 0xc38
abbrev F.WHL_CRK_GAP1_LO : Fld := ⟨R.WHL_CRK_GAP1, 0, 16⟩
abbrev F.WHL_CRK_GAP1_HI : Fld := ⟨R.WHL_CRK_GAP1, 16, 16⟩
abbrev R.WHL_CRK_GAP2 : Nat := 0xc3c
abbrev F.WHL_CRK_GAP2_LO : Fld := ⟨R.WHL_CRK_GAP2, 0, 16⟩
abbrev F.WHL_CRK_GAP2_HI : Fld := ⟨R.WHL_CRK_GAP2, 16, 16⟩
abbrev R.WHL_MISS : Nat := 0xc40
abbrev F.WHL_MISS_LO : Fld := ⟨R.WHL_MISS, 0, 16⟩
abbrev F.WHL_MISS_HI : Fld := ⟨R.WHL_MISS, 16, 16⟩
abbrev R.WHL_SETTLE : Nat := 0xc44
abbrev F.WHL_SETTLE_LO : Fld := ⟨R.WHL_SETTLE, 0, 16⟩
abbrev F.WHL_SETTLE_HI : Fld := ⟨R.WHL_SETTLE, 16, 16⟩
abbrev R.WHL_RATE_BAND : Nat := 0xc48
abbrev F.WHL_RATE_BAND_LO : Fld := ⟨R.WHL_RATE_BAND, 0, 16⟩
abbrev F.WHL_RATE_BAND_HI : Fld := ⟨R.WHL_RATE_BAND, 16, 16⟩
abbrev R.WHL_CAMCFG (n : Nat) : Nat := 0xc50 + 4 * n
abbrev F.WHL_CAMCFG_EN (n : Nat) : Fld := ⟨R.WHL_CAMCFG n, 0, 1⟩
abbrev F.WHL_CAMCFG_VR (n : Nat) : Fld := ⟨R.WHL_CAMCFG n, 1, 1⟩
abbrev F.WHL_CAMCFG_EDGE (n : Nat) : Fld := ⟨R.WHL_CAMCFG n, 2, 2⟩
abbrev F.WHL_CAMCFG_MINW (n : Nat) : Fld := ⟨R.WHL_CAMCFG n, 4, 11⟩
abbrev F.WHL_CAMCFG_EDGES (n : Nat) : Fld := ⟨R.WHL_CAMCFG n, 16, 3⟩
abbrev R.WHL_CAMREF : Nat := 0xc60
abbrev F.WHL_CAMREF_CAM : Fld := ⟨R.WHL_CAMREF, 0, 2⟩
abbrev F.WHL_CAMREF_POL : Fld := ⟨R.WHL_CAMREF, 2, 1⟩
abbrev F.WHL_CAMREF_REF_EN : Fld := ⟨R.WHL_CAMREF, 3, 1⟩
abbrev F.WHL_CAMREF_CAM_CONFIRM : Fld := ⟨R.WHL_CAMREF, 4, 2⟩
abbrev F.WHL_CAMREF_CAM_LOSS : Fld := ⟨R.WHL_CAMREF, 8, 2⟩
abbrev R.WHL_CAMWIN_LO : Nat := 0xc64
abbrev F.WHL_CAMWIN_LO_ANG : Fld := ⟨R.WHL_CAMWIN_LO, 0, 22⟩
abbrev R.WHL_CAMWIN_HI : Nat := 0xc68
abbrev F.WHL_CAMWIN_HI_ANG : Fld := ⟨R.WHL_CAMWIN_HI, 0, 22⟩
abbrev R.WHL_STAT : Nat := 0xc80
abbrev F.WHL_STAT_SYNC : Fld := ⟨R.WHL_STAT, 0, 3⟩
abbrev F.WHL_STAT_SET : Fld := ⟨R.WHL_STAT, 3, 1⟩
abbrev F.WHL_STAT_COARSE : Fld := ⟨R.WHL_STAT, 4, 1⟩
abbrev F.WHL_STAT_PHASE_KNOWN : Fld := ⟨R.WHL_STAT, 5, 1⟩
abbrev F.WHL_STAT_PROV_PEND : Fld := ⟨R.WHL_STAT, 6, 1⟩
abbrev F.WHL_STAT_REV : Fld := ⟨R.WHL_STAT, 7, 1⟩
abbrev F.WHL_STAT_POS : Fld := ⟨R.WHL_STAT, 8, 7⟩
abbrev F.WHL_STAT_GAPS : Fld := ⟨R.WHL_STAT, 16, 3⟩
abbrev R.WHL_GLITCH_CNT : Nat := 0xc90
abbrev F.WHL_GLITCH_CNT_COUNT : Fld := ⟨R.WHL_GLITCH_CNT, 0, 16⟩
abbrev R.WHL_REJ_CNT : Nat := 0xc94
abbrev F.WHL_REJ_CNT_COUNT : Fld := ⟨R.WHL_REJ_CNT, 0, 16⟩
abbrev R.WHL_NOISE_CNT : Nat := 0xc98
abbrev F.WHL_NOISE_CNT_COUNT : Fld := ⟨R.WHL_NOISE_CNT, 0, 16⟩
abbrev R.WHL_MISS_CNT : Nat := 0xc9c
abbrev F.WHL_MISS_CNT_COUNT : Fld := ⟨R.WHL_MISS_CNT, 0, 16⟩
abbrev R.WHL_BAD_CNT : Nat := 0xca0
abbrev F.WHL_BAD_CNT_COUNT : Fld := ⟨R.WHL_BAD_CNT, 0, 16⟩
abbrev R.WHL_GAPERR_CNT : Nat := 0xca4
abbrev F.WHL_GAPERR_CNT_COUNT : Fld := ⟨R.WHL_GAPERR_CNT, 0, 16⟩
abbrev R.WHL_CAM_ERR_CNT : Nat := 0xca8
abbrev F.WHL_CAM_ERR_CNT_COUNT : Fld := ⟨R.WHL_CAM_ERR_CNT, 0, 16⟩
abbrev R.WHL_COARSE_CNT : Nat := 0xcac
abbrev F.WHL_COARSE_CNT_COUNT : Fld := ⟨R.WHL_COARSE_CNT, 0, 16⟩
abbrev R.WHL_STAMP_LO : Nat := 0xcb0
abbrev F.WHL_STAMP_LO_STAMP : Fld := ⟨R.WHL_STAMP_LO, 0, 32⟩
abbrev R.WHL_STAMP_HI : Nat := 0xcb4
abbrev F.WHL_STAMP_HI_STAMP : Fld := ⟨R.WHL_STAMP_HI, 0, 8⟩
abbrev R.WHL_COARSE_STAMP : Nat := 0xcb8
abbrev F.WHL_COARSE_STAMP_AON : Fld := ⟨R.WHL_COARSE_STAMP, 0, 32⟩
abbrev R.WHL_CAM_ANG (n : Nat) (k : Nat) : Nat := 0xd00 + 64 * n + 8 * k
abbrev F.WHL_CAM_ANG_ANG (n : Nat) (k : Nat) : Fld := ⟨R.WHL_CAM_ANG n k, 0, 22⟩
abbrev F.WHL_CAM_ANG_POL (n : Nat) (k : Nat) : Fld := ⟨R.WHL_CAM_ANG n k, 22, 1⟩
abbrev F.WHL_CAM_ANG_VALID (n : Nat) (k : Nat) : Fld := ⟨R.WHL_CAM_ANG n k, 23, 1⟩
abbrev F.WHL_CAM_ANG_PHASE_KNOWN (n : Nat) (k : Nat) : Fld := ⟨R.WHL_CAM_ANG n k, 24, 1⟩
abbrev R.WHL_CAM_TIM (n : Nat) (k : Nat) : Nat := 0xd04 + 64 * n + 8 * k
abbrev F.WHL_CAM_TIM_STAMP (n : Nat) (k : Nat) : Fld := ⟨R.WHL_CAM_TIM n k, 0, 32⟩
abbrev R.WHL_ACLK_CTRL : Nat := 0xe00
abbrev F.WHL_ACLK_CTRL_LEARN_EN : Fld := ⟨R.WHL_ACLK_CTRL, 0, 1⟩
abbrev F.WHL_ACLK_CTRL_TORS_EN : Fld := ⟨R.WHL_ACLK_CTRL, 1, 1⟩
abbrev F.WHL_ACLK_CTRL_FREEZE : Fld := ⟨R.WHL_ACLK_CTRL, 2, 1⟩
abbrev F.WHL_ACLK_CTRL_ERR_RESTART : Fld := ⟨R.WHL_ACLK_CTRL, 3, 1⟩
abbrev F.WHL_ACLK_CTRL_CLEAR_TERR : Fld := ⟨R.WHL_ACLK_CTRL, 4, 1⟩
abbrev F.WHL_ACLK_CTRL_CLEAR_TORS : Fld := ⟨R.WHL_ACLK_CTRL, 5, 1⟩
abbrev F.WHL_ACLK_CTRL_LEARN_WT : Fld := ⟨R.WHL_ACLK_CTRL, 6, 2⟩
abbrev R.WHL_ACLK_CFG : Nat := 0xe04
abbrev F.WHL_ACLK_CFG_G_RUN : Fld := ⟨R.WHL_ACLK_CFG, 0, 2⟩
abbrev F.WHL_ACLK_CFG_G_CRANK : Fld := ⟨R.WHL_ACLK_CFG, 2, 2⟩
abbrev R.WHL_ACLK_QLIM : Nat := 0xe08
abbrev F.WHL_ACLK_QLIM_Q_MIN : Fld := ⟨R.WHL_ACLK_QLIM, 0, 16⟩
abbrev F.WHL_ACLK_QLIM_Q_MAX : Fld := ⟨R.WHL_ACLK_QLIM, 16, 16⟩
abbrev R.WHL_STEADY : Nat := 0xe0c
abbrev F.WHL_STEADY_STEADY : Fld := ⟨R.WHL_STEADY, 0, 8⟩
abbrev R.WHL_ACLK_STAT : Nat := 0xe10
abbrev F.WHL_ACLK_STAT_RUNNING : Fld := ⟨R.WHL_ACLK_STAT, 0, 1⟩
abbrev F.WHL_ACLK_STAT_CLAMPED : Fld := ⟨R.WHL_ACLK_STAT, 1, 1⟩
abbrev F.WHL_ACLK_STAT_STEADY_OK : Fld := ⟨R.WHL_ACLK_STAT, 2, 1⟩
abbrev F.WHL_ACLK_STAT_LEARN_ACTIVE : Fld := ⟨R.WHL_ACLK_STAT, 3, 1⟩
abbrev F.WHL_ACLK_STAT_TORS_ACTIVE : Fld := ⟨R.WHL_ACLK_STAT, 4, 1⟩
abbrev F.WHL_ACLK_STAT_E_SAT : Fld := ⟨R.WHL_ACLK_STAT, 5, 1⟩
abbrev F.WHL_ACLK_STAT_P_SAT : Fld := ⟨R.WHL_ACLK_STAT, 6, 1⟩
abbrev F.WHL_ACLK_STAT_RETREAT : Fld := ⟨R.WHL_ACLK_STAT, 7, 1⟩
abbrev R.WHL_ANGLE : Nat := 0xe14
abbrev F.WHL_ANGLE_ANG : Fld := ⟨R.WHL_ANGLE, 0, 22⟩
abbrev F.WHL_ANGLE_TAG : Fld := ⟨R.WHL_ANGLE, 22, 8⟩
abbrev F.WHL_ANGLE_CLAMPED : Fld := ⟨R.WHL_ANGLE, 30, 1⟩
abbrev F.WHL_ANGLE_VALID : Fld := ⟨R.WHL_ANGLE, 31, 1⟩
abbrev R.WHL_ANGLE_TLO : Nat := 0xe18
abbrev F.WHL_ANGLE_TLO_STAMP : Fld := ⟨R.WHL_ANGLE_TLO, 0, 32⟩
abbrev R.WHL_ANGLE_THI : Nat := 0xe1c
abbrev F.WHL_ANGLE_THI_STAMP : Fld := ⟨R.WHL_ANGLE_THI, 0, 8⟩
abbrev R.WHL_RATE : Nat := 0xe20
abbrev F.WHL_RATE_RATE : Fld := ⟨R.WHL_RATE, 0, 32⟩
abbrev R.WHL_PRED : Nat := 0xe24
abbrev F.WHL_PRED_P : Fld := ⟨R.WHL_PRED, 0, 32⟩
abbrev R.WHL_U1 : Nat := 0xe28
abbrev F.WHL_U1_U : Fld := ⟨R.WHL_U1, 0, 32⟩
abbrev R.WHL_U2 : Nat := 0xe2c
abbrev F.WHL_U2_U : Fld := ⟨R.WHL_U2, 0, 32⟩
abbrev R.WHL_REVTIME : Nat := 0xe30
abbrev F.WHL_REVTIME_T_REV : Fld := ⟨R.WHL_REVTIME, 0, 32⟩
abbrev R.WHL_ERR_LAST : Nat := 0xe34
abbrev F.WHL_ERR_LAST_ERR : Fld := ⟨R.WHL_ERR_LAST, 0, 16⟩
abbrev F.WHL_ERR_LAST_POS : Fld := ⟨R.WHL_ERR_LAST, 16, 7⟩
abbrev R.WHL_ERR_MIN : Nat := 0xe38
abbrev F.WHL_ERR_MIN_ERR : Fld := ⟨R.WHL_ERR_MIN, 0, 16⟩
abbrev F.WHL_ERR_MIN_VALID : Fld := ⟨R.WHL_ERR_MIN, 31, 1⟩
abbrev R.WHL_ERR_MAX : Nat := 0xe3c
abbrev F.WHL_ERR_MAX_ERR : Fld := ⟨R.WHL_ERR_MAX, 0, 16⟩
abbrev F.WHL_ERR_MAX_VALID : Fld := ⟨R.WHL_ERR_MAX, 31, 1⟩
abbrev R.WHL_ERR_ROUTE : Nat := 0xe40
abbrev F.WHL_ERR_ROUTE_TRK : Fld := ⟨R.WHL_ERR_ROUTE, 0, 8⟩
abbrev F.WHL_ERR_ROUTE_EN : Fld := ⟨R.WHL_ERR_ROUTE, 8, 1⟩
abbrev R.WHL_CLAMP_CNT : Nat := 0xe44
abbrev F.WHL_CLAMP_CNT_COUNT : Fld := ⟨R.WHL_CLAMP_CNT, 0, 16⟩
abbrev R.WHL_CLAMP_TIME : Nat := 0xe48
abbrev F.WHL_CLAMP_TIME_TIME : Fld := ⟨R.WHL_CLAMP_TIME, 0, 32⟩
abbrev R.WHL_RETREAT_CNT : Nat := 0xe4c
abbrev F.WHL_RETREAT_CNT_COUNT : Fld := ⟨R.WHL_RETREAT_CNT, 0, 16⟩
abbrev R.WHL_LEARN_CNT : Nat := 0xe50
abbrev F.WHL_LEARN_CNT_COUNT : Fld := ⟨R.WHL_LEARN_CNT, 0, 16⟩
abbrev R.WHL_TERR_IDX : Nat := 0xe54
abbrev F.WHL_TERR_IDX_IDX : Fld := ⟨R.WHL_TERR_IDX, 0, 9⟩
abbrev R.WHL_TERR_DATA : Nat := 0xe58
abbrev F.WHL_TERR_DATA_D : Fld := ⟨R.WHL_TERR_DATA, 0, 16⟩
abbrev R.SCH_CTRL : Nat := 0x1000
abbrev F.SCH_CTRL_LOSS_FLUSH : Fld := ⟨R.SCH_CTRL, 0, 1⟩
abbrev R.SCH_STAT : Nat := 0x1004
abbrev F.SCH_STAT_NORMAL_STALL : Fld := ⟨R.SCH_STAT, 0, 1⟩
abbrev F.SCH_STAT_URGENT_STALL : Fld := ⟨R.SCH_STAT, 1, 1⟩
abbrev R.SCH_HORIZON : Nat := 0x1008
abbrev F.SCH_HORIZON_HZ_ANG : Fld := ⟨R.SCH_HORIZON, 0, 10⟩
abbrev F.SCH_HORIZON_HZ_TIME : Fld := ⟨R.SCH_HORIZON, 16, 16⟩
abbrev R.SCH_WAKE_LEAD : Nat := 0x100c
abbrev F.SCH_WAKE_LEAD_ANG : Fld := ⟨R.SCH_WAKE_LEAD, 0, 10⟩
abbrev F.SCH_WAKE_LEAD_TIME : Fld := ⟨R.SCH_WAKE_LEAD, 16, 16⟩
abbrev R.SCH_STORE_RES : Nat := 0x1010
abbrev F.SCH_STORE_RES_RES : Fld := ⟨R.SCH_STORE_RES, 0, 14⟩
abbrev R.SCH_FREE : Nat := 0x1014
abbrev F.SCH_FREE_FREE : Fld := ⟨R.SCH_FREE, 0, 15⟩
abbrev R.SCH_FREE_LOW : Nat := 0x1018
abbrev F.SCH_FREE_LOW_LOW : Fld := ⟨R.SCH_FREE_LOW, 0, 15⟩
abbrev R.SCH_ADMIT_CNT : Nat := 0x1020
abbrev F.SCH_ADMIT_CNT_COUNT : Fld := ⟨R.SCH_ADMIT_CNT, 0, 32⟩
abbrev R.SCH_REJ_CNT : Nat := 0x1024
abbrev F.SCH_REJ_CNT_COUNT : Fld := ⟨R.SCH_REJ_CNT, 0, 32⟩
abbrev R.SCH_STALL_TIME : Nat := 0x1028
abbrev F.SCH_STALL_TIME_TIME : Fld := ⟨R.SCH_STALL_TIME, 0, 32⟩
abbrev R.SCH_CHCFG (n : Nat) : Nat := 0x1100 + 4 * n
abbrev F.SCH_CHCFG_MODE (n : Nat) : Fld := ⟨R.SCH_CHCFG n, 0, 3⟩
abbrev F.SCH_CHCFG_DEF_CLASS (n : Nat) : Fld := ⟨R.SCH_CHCFG n, 4, 3⟩
abbrev F.SCH_CHCFG_QMAX (n : Nat) : Fld := ⟨R.SCH_CHCFG n, 8, 6⟩
abbrev F.SCH_CHCFG_HALF_POL (n : Nat) : Fld := ⟨R.SCH_CHCFG n, 14, 2⟩
abbrev F.SCH_CHCFG_LVL (n : Nat) : Fld := ⟨R.SCH_CHCFG n, 16, 1⟩
abbrev F.SCH_CHCFG_POL (n : Nat) : Fld := ⟨R.SCH_CHCFG n, 17, 1⟩
abbrev R.SCH_QSTAT (n : Nat) : Nat := 0x1280 + 4 * n
abbrev F.SCH_QSTAT_DEPTH (n : Nat) : Fld := ⟨R.SCH_QSTAT n, 0, 7⟩
abbrev F.SCH_QSTAT_RELEASED (n : Nat) : Fld := ⟨R.SCH_QSTAT n, 8, 7⟩
abbrev F.SCH_QSTAT_RUNNING (n : Nat) : Fld := ⟨R.SCH_QSTAT n, 15, 1⟩
abbrev R.SCH_OVL : Nat := 0x1400
abbrev F.SCH_OVL_PEAK_SHIFT_MAX : Fld := ⟨R.SCH_OVL, 0, 10⟩
abbrev R.SCH_LATE_CNT : Nat := 0x1410
abbrev F.SCH_LATE_CNT_COUNT : Fld := ⟨R.SCH_LATE_CNT, 0, 32⟩
abbrev R.SCH_STALE_CNT : Nat := 0x1414
abbrev F.SCH_STALE_CNT_COUNT : Fld := ⟨R.SCH_STALE_CNT, 0, 32⟩
abbrev R.SCH_SHIFT_CNT : Nat := 0x1418
abbrev F.SCH_SHIFT_CNT_COUNT : Fld := ⟨R.SCH_SHIFT_CNT, 0, 32⟩
abbrev R.SCH_OVLTO_CNT : Nat := 0x141c
abbrev F.SCH_OVLTO_CNT_COUNT : Fld := ⟨R.SCH_OVLTO_CNT, 0, 32⟩
abbrev R.SCH_MERGE_CNT : Nat := 0x1420
abbrev F.SCH_MERGE_CNT_COUNT : Fld := ⟨R.SCH_MERGE_CNT, 0, 32⟩
abbrev R.SCH_TRUNC_CNT : Nat := 0x1424
abbrev F.SCH_TRUNC_CNT_COUNT : Fld := ⟨R.SCH_TRUNC_CNT, 0, 32⟩
abbrev R.SCH_DUTY_CNT : Nat := 0x1428
abbrev F.SCH_DUTY_CNT_COUNT : Fld := ⟨R.SCH_DUTY_CNT, 0, 32⟩
abbrev R.SCH_POL (n : Nat) : Nat := 0x1500 + 4 * n
abbrev F.SCH_POL_STALE (n : Nat) : Fld := ⟨R.SCH_POL n, 0, 8⟩
abbrev F.SCH_POL_MIN_GAP (n : Nat) : Fld := ⟨R.SCH_POL n, 8, 10⟩
abbrev F.SCH_POL_SUSP (n : Nat) : Fld := ⟨R.SCH_POL n, 18, 1⟩
abbrev F.SCH_POL_MERGE_EN (n : Nat) : Fld := ⟨R.SCH_POL n, 19, 1⟩
abbrev F.SCH_POL_COAST_TEETH (n : Nat) : Fld := ⟨R.SCH_POL n, 20, 8⟩
abbrev R.SCH_LIM (n : Nat) : Nat := 0x1680 + 4 * n
abbrev F.SCH_LIM_WIN (n : Nat) : Fld := ⟨R.SCH_LIM n, 0, 12⟩
abbrev F.SCH_LIM_EN (n : Nat) : Fld := ⟨R.SCH_LIM n, 12, 1⟩
abbrev F.SCH_LIM_ACT (n : Nat) : Fld := ⟨R.SCH_LIM n, 13, 1⟩
abbrev F.SCH_LIM_LIMIT (n : Nat) : Fld := ⟨R.SCH_LIM n, 16, 8⟩
abbrev F.SCH_LIM_MERGE_WIN (n : Nat) : Fld := ⟨R.SCH_LIM n, 24, 8⟩
abbrev R.SCH_LSTAT (n : Nat) : Nat := 0x1800 + 4 * n
abbrev F.SCH_LSTAT_DEBT (n : Nat) : Fld := ⟨R.SCH_LSTAT n, 0, 16⟩
abbrev F.SCH_LSTAT_DLVL (n : Nat) : Fld := ⟨R.SCH_LSTAT n, 16, 8⟩
abbrev F.SCH_LSTAT_COASTING (n : Nat) : Fld := ⟨R.SCH_LSTAT n, 24, 1⟩
abbrev F.SCH_LSTAT_MERGE_OPEN (n : Nat) : Fld := ⟨R.SCH_LSTAT n, 25, 1⟩
abbrev R.SCH_BKDUTY (b : Nat) : Nat := 0x1980 + 4 * b
abbrev F.SCH_BKDUTY_WIN (b : Nat) : Fld := ⟨R.SCH_BKDUTY b, 0, 12⟩
abbrev F.SCH_BKDUTY_EN (b : Nat) : Fld := ⟨R.SCH_BKDUTY b, 12, 1⟩
abbrev F.SCH_BKDUTY_ACT (b : Nat) : Fld := ⟨R.SCH_BKDUTY b, 13, 1⟩
abbrev F.SCH_BKDUTY_LIMIT (b : Nat) : Fld := ⟨R.SCH_BKDUTY b, 16, 8⟩
abbrev R.SCH_BKSTAT (b : Nat) : Nat := 0x19e0 + 4 * b
abbrev F.SCH_BKSTAT_DLVL (b : Nat) : Fld := ⟨R.SCH_BKSTAT b, 0, 8⟩
abbrev F.SCH_BKSTAT_THREADS (b : Nat) : Fld := ⟨R.SCH_BKSTAT b, 8, 2⟩
abbrev F.SCH_BKSTAT_WAIT (b : Nat) : Fld := ⟨R.SCH_BKSTAT b, 10, 5⟩
abbrev R.REED_CFG : Nat := 0x2000
abbrev F.REED_CFG_OVERRUN : Fld := ⟨R.REED_CFG, 0, 10⟩
abbrev R.REED_PSTAT (q : Nat) : Nat := 0x2010 + 4 * q
abbrev F.REED_PSTAT_LIVE (q : Nat) : Fld := ⟨R.REED_PSTAT q, 0, 1⟩
abbrev F.REED_PSTAT_DIRTY (q : Nat) : Fld := ⟨R.REED_PSTAT q, 1, 1⟩
abbrev F.REED_PSTAT_OLD_RUN (q : Nat) : Fld := ⟨R.REED_PSTAT q, 2, 1⟩
abbrev F.REED_PSTAT_SYNCING (q : Nat) : Fld := ⟨R.REED_PSTAT q, 3, 1⟩
abbrev F.REED_PSTAT_LOADED (q : Nat) : Fld := ⟨R.REED_PSTAT q, 8, 7⟩
abbrev R.REED_VERIFY : Nat := 0x2020
abbrev F.REED_VERIFY_NOTE : Fld := ⟨R.REED_VERIFY, 0, 12⟩
abbrev F.REED_VERIFY_QUAD : Fld := ⟨R.REED_VERIFY, 12, 2⟩
abbrev F.REED_VERIFY_PHRASE : Fld := ⟨R.REED_VERIFY, 14, 6⟩
abbrev F.REED_VERIFY_CAUSE : Fld := ⟨R.REED_VERIFY, 20, 4⟩
abbrev F.REED_VERIFY_VALID : Fld := ⟨R.REED_VERIFY, 31, 1⟩
abbrev R.REED_FAULT : Nat := 0x2024
abbrev F.REED_FAULT_NOTE : Fld := ⟨R.REED_FAULT, 0, 12⟩
abbrev F.REED_FAULT_BANK : Fld := ⟨R.REED_FAULT, 12, 5⟩
abbrev F.REED_FAULT_THREAD : Fld := ⟨R.REED_FAULT, 17, 1⟩
abbrev F.REED_FAULT_CAUSE : Fld := ⟨R.REED_FAULT, 20, 4⟩
abbrev F.REED_FAULT_CH : Fld := ⟨R.REED_FAULT, 24, 7⟩
abbrev F.REED_FAULT_VALID : Fld := ⟨R.REED_FAULT, 31, 1⟩
abbrev R.REED_FAULT_CNT : Nat := 0x2028
abbrev F.REED_FAULT_CNT_COUNT : Fld := ⟨R.REED_FAULT_CNT, 0, 32⟩
abbrev R.REED_SAMPLE_ERR_CNT : Nat := 0x202c
abbrev F.REED_SAMPLE_ERR_CNT_COUNT : Fld := ⟨R.REED_SAMPLE_ERR_CNT, 0, 32⟩
abbrev R.REED_REFUSED_CNT : Nat := 0x2030
abbrev F.REED_REFUSED_CNT_COUNT : Fld := ⟨R.REED_REFUSED_CNT, 0, 32⟩
abbrev R.REED_TOKEN_STAT (b : Nat) : Nat := 0x2040 + 4 * b
abbrev F.REED_TOKEN_STAT_HOLDER (b : Nat) : Fld := ⟨R.REED_TOKEN_STAT b, 0, 2⟩
abbrev F.REED_TOKEN_STAT_WAIT (b : Nat) : Fld := ⟨R.REED_TOKEN_STAT b, 2, 2⟩
abbrev F.REED_TOKEN_STAT_CMP_OWNER (b : Nat) : Fld := ⟨R.REED_TOKEN_STAT b, 4, 2⟩
abbrev R.REED_THR (b : Nat) : Nat := 0x20a0 + 4 * b
abbrev F.REED_THR_PC0 (b : Nat) : Fld := ⟨R.REED_THR b, 0, 12⟩
abbrev F.REED_THR_RUN0 (b : Nat) : Fld := ⟨R.REED_THR b, 12, 1⟩
abbrev F.REED_THR_PC1 (b : Nat) : Fld := ⟨R.REED_THR b, 16, 12⟩
abbrev F.REED_THR_RUN1 (b : Nat) : Fld := ⟨R.REED_THR b, 28, 1⟩
abbrev R.REED_PDIR (q : Nat) (p : Nat) : Nat := 0x2400 + 256 * q + 4 * p
abbrev F.REED_PDIR_ENTRY (q : Nat) (p : Nat) : Fld := ⟨R.REED_PDIR q p, 0, 12⟩
abbrev F.REED_PDIR_KIND (q : Nat) (p : Nat) : Fld := ⟨R.REED_PDIR q p, 12, 2⟩
abbrev F.REED_PDIR_DMASK (q : Nat) (p : Nat) : Fld := ⟨R.REED_PDIR q p, 16, 4⟩
abbrev R.REED_PDEFA (q : Nat) (p : Nat) : Nat := 0x2800 + 512 * q + 8 * p
abbrev F.REED_PDEFA_D0 (q : Nat) (p : Nat) : Fld := ⟨R.REED_PDEFA q p, 0, 16⟩
abbrev F.REED_PDEFA_D1 (q : Nat) (p : Nat) : Fld := ⟨R.REED_PDEFA q p, 16, 16⟩
abbrev R.REED_PDEFB (q : Nat) (p : Nat) : Nat := 0x2804 + 512 * q + 8 * p
abbrev F.REED_PDEFB_D2 (q : Nat) (p : Nat) : Fld := ⟨R.REED_PDEFB q p, 0, 16⟩
abbrev F.REED_PDEFB_D3 (q : Nat) (p : Nat) : Fld := ⟨R.REED_PDEFB q p, 16, 16⟩
abbrev R.DRV_OCLATCH (i : Nat) : Nat := 0x3000 + 4 * i
abbrev F.DRV_OCLATCH_CH (i : Nat) : Fld := ⟨R.DRV_OCLATCH i, 0, 32⟩
abbrev R.DRV_BKLATCH : Nat := 0x300c
abbrev F.DRV_BKLATCH_BK : Fld := ⟨R.DRV_BKLATCH, 0, 24⟩
abbrev R.DRV_OC_CNT : Nat := 0x3010
abbrev F.DRV_OC_CNT_COUNT : Fld := ⟨R.DRV_OC_CNT, 0, 32⟩
abbrev R.DRV_BKOC_CNT : Nat := 0x3014
abbrev F.DRV_BKOC_CNT_COUNT : Fld := ⟨R.DRV_BKOC_CNT, 0, 32⟩
abbrev R.DRV_NOKINK_CNT : Nat := 0x3018
abbrev F.DRV_NOKINK_CNT_COUNT : Fld := ⟨R.DRV_NOKINK_CNT, 0, 32⟩
abbrev R.DRV_CLOSE_BUSY_CNT : Nat := 0x301c
abbrev F.DRV_CLOSE_BUSY_CNT_COUNT : Fld := ⟨R.DRV_CLOSE_BUSY_CNT, 0, 32⟩
abbrev R.DRV_REOPEN_CNT : Nat := 0x3020
abbrev F.DRV_REOPEN_CNT_COUNT : Fld := ⟨R.DRV_REOPEN_CNT, 0, 32⟩
abbrev R.DRV_BST_OV_CNT : Nat := 0x3024
abbrev F.DRV_BST_OV_CNT_COUNT : Fld := ⟨R.DRV_BST_OV_CNT, 0, 32⟩
abbrev R.DRV_BSTCFG (q : Nat) : Nat := 0x3040 + 16 * q
abbrev F.DRV_BSTCFG_VSET (q : Nat) : Fld := ⟨R.DRV_BSTCFG q, 0, 8⟩
abbrev F.DRV_BSTCFG_VHYST (q : Nat) : Fld := ⟨R.DRV_BSTCFG q, 8, 4⟩
abbrev F.DRV_BSTCFG_RAMP (q : Nat) : Fld := ⟨R.DRV_BSTCFG q, 12, 4⟩
abbrev F.DRV_BSTCFG_OV_MARGIN (q : Nat) : Fld := ⟨R.DRV_BSTCFG q, 16, 4⟩
abbrev F.DRV_BSTCFG_EN (q : Nat) : Fld := ⟨R.DRV_BSTCFG q, 20, 1⟩
abbrev R.DRV_BSTTIM (q : Nat) : Nat := 0x3044 + 16 * q
abbrev F.DRV_BSTTIM_TON (q : Nat) : Fld := ⟨R.DRV_BSTTIM q, 0, 8⟩
abbrev F.DRV_BSTTIM_TOFF_MIN (q : Nat) : Fld := ⟨R.DRV_BSTTIM q, 8, 8⟩
abbrev F.DRV_BSTTIM_VT_MAX (q : Nat) : Fld := ⟨R.DRV_BSTTIM q, 16, 8⟩
abbrev F.DRV_BSTTIM_LIND (q : Nat) : Fld := ⟨R.DRV_BSTTIM q, 24, 8⟩
abbrev R.DRV_BSTSTAT (q : Nat) : Nat := 0x3048 + 16 * q
abbrev F.DRV_BSTSTAT_VBST (q : Nat) : Fld := ⟨R.DRV_BSTSTAT q, 0, 10⟩
abbrev F.DRV_BSTSTAT_REG (q : Nat) : Fld := ⟨R.DRV_BSTSTAT q, 16, 1⟩
abbrev F.DRV_BSTSTAT_RAMPING (q : Nat) : Fld := ⟨R.DRV_BSTSTAT q, 17, 1⟩
abbrev F.DRV_BSTSTAT_OV (q : Nat) : Fld := ⟨R.DRV_BSTSTAT q, 18, 1⟩
abbrev F.DRV_BSTSTAT_VT_LIM (q : Nat) : Fld := ⟨R.DRV_BSTSTAT q, 19, 1⟩
abbrev R.DRV_BSTPULSE (q : Nat) : Nat := 0x304c + 16 * q
abbrev F.DRV_BSTPULSE_COUNT (q : Nat) : Fld := ⟨R.DRV_BSTPULSE q, 0, 32⟩
abbrev R.DRV_BSTEIN (q : Nat) : Nat := 0x3080 + 4 * q
abbrev F.DRV_BSTEIN_E (q : Nat) : Fld := ⟨R.DRV_BSTEIN q, 0, 32⟩
abbrev R.DRV_BKTRIM (b : Nat) : Nat := 0x3090 + 4 * b
abbrev F.DRV_BKTRIM_BAND_LO (b : Nat) : Fld := ⟨R.DRV_BKTRIM b, 0, 8⟩
abbrev F.DRV_BKTRIM_BAND_HI (b : Nat) : Fld := ⟨R.DRV_BKTRIM b, 8, 8⟩
abbrev R.DRV_BKCFG (b : Nat) : Nat := 0x3100 + 4 * b
abbrev F.DRV_BKCFG_GAIN (b : Nat) : Fld := ⟨R.DRV_BKCFG b, 0, 2⟩
abbrev F.DRV_BKCFG_SLEW (b : Nat) : Fld := ⟨R.DRV_BKCFG b, 2, 2⟩
abbrev F.DRV_BKCFG_RSH (b : Nat) : Fld := ⟨R.DRV_BKCFG b, 8, 8⟩
abbrev F.DRV_BKCFG_HVOC (b : Nat) : Fld := ⟨R.DRV_BKCFG b, 16, 8⟩
abbrev F.DRV_BKCFG_HBOC (b : Nat) : Fld := ⟨R.DRV_BKCFG b, 24, 8⟩
abbrev R.DRV_BKCFGB (b : Nat) : Nat := 0x3160 + 4 * b
abbrev F.DRV_BKCFGB_HBLANK (b : Nat) : Fld := ⟨R.DRV_BKCFGB b, 0, 7⟩
abbrev F.DRV_BKCFGB_TOFF_UNIT (b : Nat) : Fld := ⟨R.DRV_BKCFGB b, 8, 6⟩
abbrev F.DRV_BKCFGB_OC_WIN (b : Nat) : Fld := ⟨R.DRV_BKCFGB b, 16, 4⟩
abbrev R.DRV_CHCFG (n : Nat) : Nat := 0x3200 + 4 * n
abbrev F.DRV_CHCFG_OC (n : Nat) : Fld := ⟨R.DRV_CHCFG n, 0, 8⟩
abbrev F.DRV_CHCFG_BLANK (n : Nat) : Fld := ⟨R.DRV_CHCFG n, 8, 7⟩
abbrev F.DRV_CHCFG_RDSON (n : Nat) : Fld := ⟨R.DRV_CHCFG n, 16, 8⟩
abbrev F.DRV_CHCFG_TRIM_EN (n : Nat) : Fld := ⟨R.DRV_CHCFG n, 24, 1⟩
abbrev F.DRV_CHCFG_TRIM_GAIN (n : Nat) : Fld := ⟨R.DRV_CHCFG n, 25, 2⟩
abbrev F.DRV_CHCFG_KEN (n : Nat) : Fld := ⟨R.DRV_CHCFG n, 27, 1⟩
abbrev F.DRV_CHCFG_KPOL (n : Nat) : Fld := ⟨R.DRV_CHCFG n, 28, 1⟩
abbrev R.DRV_KWIN (n : Nat) : Nat := 0x3380 + 4 * n
abbrev F.DRV_KWIN_W_START (n : Nat) : Fld := ⟨R.DRV_KWIN n, 0, 12⟩
abbrev F.DRV_KWIN_W_END (n : Nat) : Fld := ⟨R.DRV_KWIN n, 16, 12⟩
abbrev R.DRV_KDET (n : Nat) : Nat := 0x3500 + 4 * n
abbrev F.DRV_KDET_F (n : Nat) : Fld := ⟨R.DRV_KDET n, 0, 3⟩
abbrev F.DRV_KDET_D (n : Nat) : Fld := ⟨R.DRV_KDET n, 3, 5⟩
abbrev F.DRV_KDET_THR (n : Nat) : Fld := ⟨R.DRV_KDET n, 8, 10⟩
abbrev F.DRV_KDET_OPEN_DLY (n : Nat) : Fld := ⟨R.DRV_KDET n, 18, 10⟩
abbrev R.DRV_TRIM (n : Nat) : Nat := 0x3680 + 4 * n
abbrev F.DRV_TRIM_CORR (n : Nat) : Fld := ⟨R.DRV_TRIM n, 0, 16⟩
abbrev F.DRV_TRIM_AT_LIMIT (n : Nat) : Fld := ⟨R.DRV_TRIM n, 16, 1⟩
abbrev F.DRV_TRIM_LIMIT_RUN (n : Nat) : Fld := ⟨R.DRV_TRIM n, 24, 8⟩
abbrev R.INK_CTRL : Nat := 0x3800
abbrev F.INK_CTRL_EN : Fld := ⟨R.INK_CTRL, 0, 1⟩
abbrev F.INK_CTRL_LW : Fld := ⟨R.INK_CTRL, 1, 2⟩
abbrev F.INK_CTRL_FREEZE : Fld := ⟨R.INK_CTRL, 3, 1⟩
abbrev R.INK_STAT : Nat := 0x3804
abbrev F.INK_STAT_BNEG : Fld := ⟨R.INK_STAT, 0, 4⟩
abbrev F.INK_STAT_RNEG : Fld := ⟨R.INK_STAT, 4, 8⟩
abbrev F.INK_STAT_DNEG : Fld := ⟨R.INK_STAT, 12, 1⟩
abbrev F.INK_STAT_RDENY : Fld := ⟨R.INK_STAT, 16, 8⟩
abbrev R.INK_FORCE_CNT : Nat := 0x3808
abbrev F.INK_FORCE_CNT_COUNT : Fld := ⟨R.INK_FORCE_CNT, 0, 32⟩
abbrev R.INK_DENY_CNT : Nat := 0x380c
abbrev F.INK_DENY_CNT_COUNT : Fld := ⟨R.INK_DENY_CNT, 0, 32⟩
abbrev R.INK_SHIFT_CNT : Nat := 0x3810
abbrev F.INK_SHIFT_CNT_COUNT : Fld := ⟨R.INK_SHIFT_CNT, 0, 32⟩
abbrev R.INK_SUBST_CNT : Nat := 0x3814
abbrev F.INK_SUBST_CNT_COUNT : Fld := ⟨R.INK_SUBST_CNT, 0, 32⟩
abbrev R.INK_RESV_FULL_CNT : Nat := 0x3818
abbrev F.INK_RESV_FULL_CNT_COUNT : Fld := ⟨R.INK_RESV_FULL_CNT, 0, 32⟩
abbrev R.INK_RESV_USED : Nat := 0x381c
abbrev F.INK_RESV_USED_USED : Fld := ⟨R.INK_RESV_USED, 0, 11⟩
abbrev R.INK_BSTCFG (q : Nat) : Nat := 0x3840 + 16 * q
abbrev F.INK_BSTCFG_CAP (q : Nat) : Fld := ⟨R.INK_BSTCFG q, 0, 9⟩
abbrev F.INK_BSTCFG_VFLOOR (q : Nat) : Fld := ⟨R.INK_BSTCFG q, 9, 7⟩
abbrev F.INK_BSTCFG_EFF (q : Nat) : Fld := ⟨R.INK_BSTCFG q, 16, 7⟩
abbrev F.INK_BSTCFG_MSRC (q : Nat) : Fld := ⟨R.INK_BSTCFG q, 23, 1⟩
abbrev F.INK_BSTCFG_GRD (q : Nat) : Fld := ⟨R.INK_BSTCFG q, 24, 3⟩
abbrev F.INK_BSTCFG_GEN (q : Nat) : Fld := ⟨R.INK_BSTCFG q, 27, 1⟩
abbrev F.INK_BSTCFG_EN (q : Nat) : Fld := ⟨R.INK_BSTCFG q, 28, 1⟩
abbrev R.INK_BSTBAL (q : Nat) : Nat := 0x3844 + 16 * q
abbrev F.INK_BSTBAL_B (q : Nat) : Fld := ⟨R.INK_BSTBAL q, 0, 32⟩
abbrev R.INK_BSTRATE (q : Nat) : Nat := 0x3848 + 16 * q
abbrev F.INK_BSTRATE_R_FILL (q : Nat) : Fld := ⟨R.INK_BSTRATE q, 0, 16⟩
abbrev R.INK_BSTDRIFT (q : Nat) : Nat := 0x384c + 16 * q
abbrev F.INK_BSTDRIFT_DRIFT (q : Nat) : Fld := ⟨R.INK_BSTDRIFT q, 0, 32⟩
abbrev R.INK_RAILCFG (g : Nat) : Nat := 0x3880 + 16 * g
abbrev F.INK_RAILCFG_RWIN (g : Nat) : Fld := ⟨R.INK_RAILCFG g, 0, 10⟩
abbrev F.INK_RAILCFG_EN (g : Nat) : Fld := ⟨R.INK_RAILCFG g, 10, 1⟩
abbrev R.INK_RALLOW (g : Nat) : Nat := 0x3884 + 16 * g
abbrev F.INK_RALLOW_ALLOW (g : Nat) : Fld := ⟨R.INK_RALLOW g, 0, 32⟩
abbrev R.INK_RAILBAL (g : Nat) : Nat := 0x3888 + 16 * g
abbrev F.INK_RAILBAL_BAL (g : Nat) : Fld := ⟨R.INK_RAILBAL g, 0, 32⟩
abbrev R.INK_RDENY (g : Nat) : Nat := 0x388c + 16 * g
abbrev F.INK_RDENY_LVL (g : Nat) : Fld := ⟨R.INK_RDENY g, 0, 31⟩
abbrev F.INK_RDENY_EN (g : Nat) : Fld := ⟨R.INK_RDENY g, 31, 1⟩
abbrev R.INK_DEVCFG : Nat := 0x3900
abbrev F.INK_DEVCFG_WIN : Fld := ⟨R.INK_DEVCFG, 0, 10⟩
abbrev F.INK_DEVCFG_EN : Fld := ⟨R.INK_DEVCFG, 10, 1⟩
abbrev R.INK_DEVALLOW : Nat := 0x3904
abbrev F.INK_DEVALLOW_ALLOW : Fld := ⟨R.INK_DEVALLOW, 0, 32⟩
abbrev R.INK_DEVBAL : Nat := 0x3908
abbrev F.INK_DEVBAL_BAL : Fld := ⟨R.INK_DEVBAL, 0, 32⟩
abbrev R.INK_BKRAIL (i : Nat) : Nat := 0x3910 + 4 * i
abbrev F.INK_BKRAIL_GRD0 (i : Nat) : Fld := ⟨R.INK_BKRAIL i, 0, 3⟩
abbrev F.INK_BKRAIL_GRD1 (i : Nat) : Fld := ⟨R.INK_BKRAIL i, 4, 3⟩
abbrev F.INK_BKRAIL_GRD2 (i : Nat) : Fld := ⟨R.INK_BKRAIL i, 8, 3⟩
abbrev F.INK_BKRAIL_GRD3 (i : Nat) : Fld := ⟨R.INK_BKRAIL i, 12, 3⟩
abbrev F.INK_BKRAIL_GRD4 (i : Nat) : Fld := ⟨R.INK_BKRAIL i, 16, 3⟩
abbrev F.INK_BKRAIL_GRD5 (i : Nat) : Fld := ⟨R.INK_BKRAIL i, 20, 3⟩
abbrev F.INK_BKRAIL_GRD6 (i : Nat) : Fld := ⟨R.INK_BKRAIL i, 24, 3⟩
abbrev F.INK_BKRAIL_GRD7 (i : Nat) : Fld := ⟨R.INK_BKRAIL i, 28, 3⟩
abbrev F.INK_BKRAIL_EN0 (i : Nat) : Fld := ⟨R.INK_BKRAIL i, 3, 1⟩
abbrev F.INK_BKRAIL_EN1 (i : Nat) : Fld := ⟨R.INK_BKRAIL i, 7, 1⟩
abbrev F.INK_BKRAIL_EN2 (i : Nat) : Fld := ⟨R.INK_BKRAIL i, 11, 1⟩
abbrev F.INK_BKRAIL_EN3 (i : Nat) : Fld := ⟨R.INK_BKRAIL i, 15, 1⟩
abbrev F.INK_BKRAIL_EN4 (i : Nat) : Fld := ⟨R.INK_BKRAIL i, 19, 1⟩
abbrev F.INK_BKRAIL_EN5 (i : Nat) : Fld := ⟨R.INK_BKRAIL i, 23, 1⟩
abbrev F.INK_BKRAIL_EN6 (i : Nat) : Fld := ⟨R.INK_BKRAIL i, 27, 1⟩
abbrev F.INK_BKRAIL_EN7 (i : Nat) : Fld := ⟨R.INK_BKRAIL i, 31, 1⟩
abbrev R.INK_CLASS (n : Nat) : Nat := 0x3920 + 8 * n
abbrev F.INK_CLASS_POLICY (n : Nat) : Fld := ⟨R.INK_CLASS n, 0, 2⟩
abbrev F.INK_CLASS_THEN (n : Nat) : Fld := ⟨R.INK_CLASS n, 2, 2⟩
abbrev F.INK_CLASS_SHIFT_MAX (n : Nat) : Fld := ⟨R.INK_CLASS n, 8, 8⟩
abbrev R.INK_CRES (n : Nat) : Nat := 0x3924 + 8 * n
abbrev F.INK_CRES_BRES (n : Nat) : Fld := ⟨R.INK_CRES n, 0, 16⟩
abbrev F.INK_CRES_RRES (n : Nat) : Fld := ⟨R.INK_CRES n, 16, 16⟩
abbrev R.INK_PTAB_IDX : Nat := 0x3960
abbrev F.INK_PTAB_IDX_WORD : Fld := ⟨R.INK_PTAB_IDX, 0, 2⟩
abbrev F.INK_PTAB_IDX_PHRASE : Fld := ⟨R.INK_PTAB_IDX, 2, 6⟩
abbrev F.INK_PTAB_IDX_QUAD : Fld := ⟨R.INK_PTAB_IDX, 8, 2⟩
abbrev R.INK_PTAB_DATA : Nat := 0x3964
abbrev F.INK_PTAB_DATA_DATA : Fld := ⟨R.INK_PTAB_DATA, 0, 32⟩
abbrev R.GRD_CFG (g : Nat) : Nat := 0x3c00 + 112 * g
abbrev F.GRD_CFG_EN (g : Nat) : Fld := ⟨R.GRD_CFG g, 0, 1⟩
abbrev F.GRD_CFG_B2B (g : Nat) : Fld := ⟨R.GRD_CFG g, 1, 1⟩
abbrev F.GRD_CFG_HOLD (g : Nat) : Fld := ⟨R.GRD_CFG g, 2, 1⟩
abbrev F.GRD_CFG_AUTO (g : Nat) : Fld := ⟨R.GRD_CFG g, 3, 1⟩
abbrev F.GRD_CFG_PG_PIN (g : Nat) : Fld := ⟨R.GRD_CFG g, 4, 1⟩
abbrev F.GRD_CFG_XF_EN (g : Nat) : Fld := ⟨R.GRD_CFG g, 5, 1⟩
abbrev F.GRD_CFG_XF_PIN (g : Nat) : Fld := ⟨R.GRD_CFG g, 6, 5⟩
abbrev F.GRD_CFG_XF_POL (g : Nat) : Fld := ⟨R.GRD_CFG g, 11, 1⟩
abbrev F.GRD_CFG_CLR_LOCK (g : Nat) : Fld := ⟨R.GRD_CFG g, 12, 1⟩
abbrev F.GRD_CFG_PRSN_EN (g : Nat) : Fld := ⟨R.GRD_CFG g, 13, 1⟩
abbrev F.GRD_CFG_PRSN_WAKE (g : Nat) : Fld := ⟨R.GRD_CFG g, 14, 1⟩
abbrev F.GRD_CFG_TRIP_WAKE (g : Nat) : Fld := ⟨R.GRD_CFG g, 15, 1⟩
abbrev R.GRD_SENSE (g : Nat) : Nat := 0x3c04 + 112 * g
abbrev F.GRD_SENSE_RSENSE (g : Nat) : Fld := ⟨R.GRD_SENSE g, 0, 10⟩
abbrev F.GRD_SENSE_FT (g : Nat) : Fld := ⟨R.GRD_SENSE g, 16, 8⟩
abbrev F.GRD_SENSE_REV (g : Nat) : Fld := ⟨R.GRD_SENSE g, 24, 8⟩
abbrev R.GRD_RAMP (g : Nat) : Nat := 0x3c08 + 112 * g
abbrev F.GRD_RAMP_MODE (g : Nat) : Fld := ⟨R.GRD_RAMP g, 0, 2⟩
abbrev F.GRD_RAMP_IG (g : Nat) : Fld := ⟨R.GRD_RAMP g, 2, 8⟩
abbrev F.GRD_RAMP_ILIM (g : Nat) : Fld := ⟨R.GRD_RAMP g, 10, 8⟩
abbrev F.GRD_RAMP_RAMP_T (g : Nat) : Fld := ⟨R.GRD_RAMP g, 18, 12⟩
abbrev R.GRD_SOA (g : Nat) : Nat := 0x3c0c + 112 * g
abbrev F.GRD_SOA_SOA_E (g : Nat) : Fld := ⟨R.GRD_SOA g, 0, 16⟩
abbrev F.GRD_SOA_P_CONT (g : Nat) : Fld := ⟨R.GRD_SOA g, 16, 8⟩
abbrev R.GRD_VLIM (g : Nat) : Nat := 0x3c10 + 112 * g
abbrev F.GRD_VLIM_UV (g : Nat) : Fld := ⟨R.GRD_VLIM g, 0, 10⟩
abbrev F.GRD_VLIM_OV (g : Nat) : Fld := ⟨R.GRD_VLIM g, 10, 10⟩
abbrev F.GRD_VLIM_PG (g : Nat) : Fld := ⟨R.GRD_VLIM g, 20, 10⟩
abbrev R.GRD_I2T (g : Nat) : Nat := 0x3c14 + 112 * g
abbrev F.GRD_I2T_I_NOM (g : Nat) : Fld := ⟨R.GRD_I2T g, 0, 12⟩
abbrev F.GRD_I2T_I2T_LIM (g : Nat) : Fld := ⟨R.GRD_I2T g, 12, 20⟩
abbrev R.GRD_RETRY (g : Nat) : Nat := 0x3c18 + 112 * g
abbrev F.GRD_RETRY_N (g : Nat) : Fld := ⟨R.GRD_RETRY g, 0, 4⟩
abbrev F.GRD_RETRY_UNL (g : Nat) : Fld := ⟨R.GRD_RETRY g, 4, 1⟩
abbrev F.GRD_RETRY_FIRST (g : Nat) : Fld := ⟨R.GRD_RETRY g, 6, 14⟩
abbrev F.GRD_RETRY_CAP (g : Nat) : Fld := ⟨R.GRD_RETRY g, 20, 12⟩
abbrev R.GRD_PRSN (g : Nat) : Nat := 0x3c1c + 112 * g
abbrev F.GRD_PRSN_PRSN_DB (g : Nat) : Fld := ⟨R.GRD_PRSN g, 0, 8⟩
abbrev F.GRD_PRSN_PRSN_POL (g : Nat) : Fld := ⟨R.GRD_PRSN g, 8, 1⟩
abbrev F.GRD_PRSN_GOOD_T (g : Nat) : Fld := ⟨R.GRD_PRSN g, 16, 16⟩
abbrev R.GRD_RULE (g : Nat) (e : Nat) : Nat := 0x3c20 + 112 * g + 4 * e
abbrev F.GRD_RULE_COND (g : Nat) (e : Nat) : Fld := ⟨R.GRD_RULE g e, 0, 3⟩
abbrev F.GRD_RULE_EN (g : Nat) (e : Nat) : Fld := ⟨R.GRD_RULE g e, 3, 1⟩
abbrev F.GRD_RULE_ACT (g : Nat) (e : Nat) : Fld := ⟨R.GRD_RULE g e, 4, 2⟩
abbrev F.GRD_RULE_FILT (g : Nat) (e : Nat) : Fld := ⟨R.GRD_RULE g e, 8, 8⟩
abbrev F.GRD_RULE_LIM (g : Nat) (e : Nat) : Fld := ⟨R.GRD_RULE g e, 16, 8⟩
abbrev R.GRD_STAT (g : Nat) : Nat := 0x3c40 + 112 * g
abbrev F.GRD_STAT_STATE (g : Nat) : Fld := ⟨R.GRD_STAT g, 0, 4⟩
abbrev F.GRD_STAT_PG (g : Nat) : Fld := ⟨R.GRD_STAT g, 4, 1⟩
abbrev F.GRD_STAT_PRSN (g : Nat) : Fld := ⟨R.GRD_STAT g, 5, 1⟩
abbrev F.GRD_STAT_RETRIES (g : Nat) : Fld := ⟨R.GRD_STAT g, 6, 4⟩
abbrev F.GRD_STAT_TRIP_LATCH (g : Nat) : Fld := ⟨R.GRD_STAT g, 10, 1⟩
abbrev F.GRD_STAT_HELD (g : Nat) : Fld := ⟨R.GRD_STAT g, 11, 1⟩
abbrev F.GRD_STAT_ISAT (g : Nat) : Fld := ⟨R.GRD_STAT g, 12, 1⟩
abbrev R.GRD_VMEAS (g : Nat) : Nat := 0x3c44 + 112 * g
abbrev F.GRD_VMEAS_V_OUT (g : Nat) : Fld := ⟨R.GRD_VMEAS g, 0, 16⟩
abbrev F.GRD_VMEAS_V_IN (g : Nat) : Fld := ⟨R.GRD_VMEAS g, 16, 16⟩
abbrev R.GRD_IMEAS (g : Nat) : Nat := 0x3c48 + 112 * g
abbrev F.GRD_IMEAS_I (g : Nat) : Fld := ⟨R.GRD_IMEAS g, 0, 16⟩
abbrev R.GRD_ELO (g : Nat) : Nat := 0x3c4c + 112 * g
abbrev F.GRD_ELO_E (g : Nat) : Fld := ⟨R.GRD_ELO g, 0, 32⟩
abbrev R.GRD_EHI (g : Nat) : Nat := 0x3c50 + 112 * g
abbrev F.GRD_EHI_E (g : Nat) : Fld := ⟨R.GRD_EHI g, 0, 16⟩
abbrev R.GRD_SOAACC (g : Nat) : Nat := 0x3c54 + 112 * g
abbrev F.GRD_SOAACC_S (g : Nat) : Fld := ⟨R.GRD_SOAACC g, 0, 32⟩
abbrev R.GRD_I2TACC (g : Nat) : Nat := 0x3c58 + 112 * g
abbrev F.GRD_I2TACC_A (g : Nat) : Fld := ⟨R.GRD_I2TACC g, 0, 32⟩
abbrev R.GRD_TRIP_CNT (g : Nat) : Nat := 0x3c5c + 112 * g
abbrev F.GRD_TRIP_CNT_COUNT (g : Nat) : Fld := ⟨R.GRD_TRIP_CNT g, 0, 16⟩
abbrev R.GRD_BAND (g : Nat) : Nat := 0x3c60 + 112 * g
abbrev F.GRD_BAND_FT_MIN (g : Nat) : Fld := ⟨R.GRD_BAND g, 0, 8⟩
abbrev F.GRD_BAND_FT_MAX (g : Nat) : Fld := ⟨R.GRD_BAND g, 8, 8⟩
abbrev F.GRD_BAND_ILIM_MIN (g : Nat) : Fld := ⟨R.GRD_BAND g, 16, 8⟩
abbrev F.GRD_BAND_ILIM_MAX (g : Nat) : Fld := ⟨R.GRD_BAND g, 24, 8⟩
abbrev R.GRD_CTRL (g : Nat) : Nat := 0x3c64 + 112 * g
abbrev F.GRD_CTRL_ON (g : Nat) : Fld := ⟨R.GRD_CTRL g, 0, 1⟩
abbrev F.GRD_CTRL_OFF (g : Nat) : Fld := ⟨R.GRD_CTRL g, 1, 1⟩
abbrev F.GRD_CTRL_CLEAR (g : Nat) : Fld := ⟨R.GRD_CTRL g, 2, 1⟩
abbrev R.GRD_LAST (g : Nat) : Nat := 0x3c68 + 112 * g
abbrev F.GRD_LAST_COND (g : Nat) : Fld := ⟨R.GRD_LAST g, 0, 3⟩
abbrev F.GRD_LAST_ENTRY (g : Nat) : Fld := ⟨R.GRD_LAST g, 3, 3⟩
abbrev F.GRD_LAST_ACT (g : Nat) : Fld := ⟨R.GRD_LAST g, 6, 2⟩
abbrev F.GRD_LAST_CMD (g : Nat) : Fld := ⟨R.GRD_LAST g, 8, 1⟩
abbrev F.GRD_LAST_VALID (g : Nat) : Fld := ⟨R.GRD_LAST g, 31, 1⟩
abbrev R.GRD_LIVE (g : Nat) : Nat := 0x3c6c + 112 * g
abbrev F.GRD_LIVE_FT (g : Nat) : Fld := ⟨R.GRD_LIVE g, 0, 8⟩
abbrev F.GRD_LIVE_ILIM (g : Nat) : Fld := ⟨R.GRD_LIVE g, 8, 8⟩
abbrev R.GRD_SUM : Nat := 0x3f80
abbrev F.GRD_SUM_PG : Fld := ⟨R.GRD_SUM, 0, 8⟩
abbrev F.GRD_SUM_LATCHED : Fld := ⟨R.GRD_SUM, 8, 8⟩
abbrev F.GRD_SUM_ON : Fld := ⟨R.GRD_SUM, 16, 8⟩
abbrev R.ADC_CTRL : Nat := 0x4000
abbrev F.ADC_CTRL_EN : Fld := ⟨R.ADC_CTRL, 0, 6⟩
abbrev F.ADC_CTRL_CAL : Fld := ⟨R.ADC_CTRL, 8, 6⟩
abbrev R.ADC_CALSTAT : Nat := 0x4004
abbrev F.ADC_CALSTAT_DONE : Fld := ⟨R.ADC_CALSTAT, 0, 6⟩
abbrev F.ADC_CALSTAT_FAIL : Fld := ⟨R.ADC_CALSTAT, 8, 6⟩
abbrev F.ADC_CALSTAT_RUNNING : Fld := ⟨R.ADC_CALSTAT, 16, 1⟩
abbrev F.ADC_CALSTAT_ABORTED : Fld := ⟨R.ADC_CALSTAT, 17, 1⟩
abbrev R.ADC_MOVE : Nat := 0x4008
abbrev F.ADC_MOVE_FROM_CONV : Fld := ⟨R.ADC_MOVE, 0, 3⟩
abbrev F.ADC_MOVE_FROM_ENTRY : Fld := ⟨R.ADC_MOVE, 3, 5⟩
abbrev F.ADC_MOVE_TO_CONV : Fld := ⟨R.ADC_MOVE, 8, 3⟩
abbrev F.ADC_MOVE_TO_ENTRY : Fld := ⟨R.ADC_MOVE, 11, 5⟩
abbrev R.ADC_MOVE_STAT : Nat := 0x400c
abbrev F.ADC_MOVE_STAT_RESULT : Fld := ⟨R.ADC_MOVE_STAT, 0, 5⟩
abbrev F.ADC_MOVE_STAT_PEND : Fld := ⟨R.ADC_MOVE_STAT, 8, 1⟩
abbrev R.ADC_VIGIL : Nat := 0x4010
abbrev F.ADC_VIGIL_ENTRY : Fld := ⟨R.ADC_VIGIL, 0, 5⟩
abbrev F.ADC_VIGIL_PER : Fld := ⟨R.ADC_VIGIL, 8, 8⟩
abbrev F.ADC_VIGIL_EN : Fld := ⟨R.ADC_VIGIL, 16, 1⟩
abbrev R.ADC_URG_DROP_CNT : Nat := 0x4014
abbrev F.ADC_URG_DROP_CNT_COUNT : Fld := ⟨R.ADC_URG_DROP_CNT, 0, 32⟩
abbrev R.ADC_ATRIG (k : Nat) : Nat := 0x4020 + 4 * k
abbrev F.ADC_ATRIG_ANG (k : Nat) : Fld := ⟨R.ADC_ATRIG k, 0, 22⟩
abbrev F.ADC_ATRIG_CONV (k : Nat) : Fld := ⟨R.ADC_ATRIG k, 22, 3⟩
abbrev F.ADC_ATRIG_ENTRY (k : Nat) : Fld := ⟨R.ADC_ATRIG k, 25, 5⟩
abbrev F.ADC_ATRIG_EN (k : Nat) : Fld := ⟨R.ADC_ATRIG k, 31, 1⟩
abbrev R.ADC_CAL (n : Nat) (k : Nat) : Nat := 0x4040 + 32 * n + 4 * k
abbrev F.ADC_CAL_OFFSET (n : Nat) (k : Nat) : Fld := ⟨R.ADC_CAL n k, 0, 16⟩
abbrev F.ADC_CAL_GAIN (n : Nat) (k : Nat) : Fld := ⟨R.ADC_CAL n k, 16, 16⟩
abbrev R.ADC_SEQA (n : Nat) (e : Nat) : Nat := 0x4100 + 256 * n + 8 * e
abbrev F.ADC_SEQA_IN (n : Nat) (e : Nat) : Fld := ⟨R.ADC_SEQA n e, 0, 5⟩
abbrev F.ADC_SEQA_GAIN (n : Nat) (e : Nat) : Fld := ⟨R.ADC_SEQA n e, 5, 3⟩
abbrev F.ADC_SEQA_FILT (n : Nat) (e : Nat) : Fld := ⟨R.ADC_SEQA n e, 8, 3⟩
abbrev F.ADC_SEQA_REPEAT (n : Nat) (e : Nat) : Fld := ⟨R.ADC_SEQA n e, 12, 8⟩
abbrev F.ADC_SEQA_TRK (n : Nat) (e : Nat) : Fld := ⟨R.ADC_SEQA n e, 20, 1⟩
abbrev F.ADC_SEQA_TARGET (n : Nat) (e : Nat) : Fld := ⟨R.ADC_SEQA n e, 21, 9⟩
abbrev F.ADC_SEQA_EN (n : Nat) (e : Nat) : Fld := ⟨R.ADC_SEQA n e, 31, 1⟩
abbrev R.ADC_SEQB (n : Nat) (e : Nat) : Nat := 0x4104 + 256 * n + 8 * e
abbrev F.ADC_SEQB_DELAY (n : Nat) (e : Nat) : Fld := ⟨R.ADC_SEQB n e, 0, 12⟩
abbrev F.ADC_SEQB_EPOCH (n : Nat) (e : Nat) : Fld := ⟨R.ADC_SEQB n e, 12, 4⟩
abbrev F.ADC_SEQB_MARK_ID (n : Nat) (e : Nat) : Fld := ⟨R.ADC_SEQB n e, 16, 8⟩
abbrev F.ADC_SEQB_MARK_TRIG (n : Nat) (e : Nat) : Fld := ⟨R.ADC_SEQB n e, 24, 1⟩
abbrev F.ADC_SEQB_LOOP (n : Nat) (e : Nat) : Fld := ⟨R.ADC_SEQB n e, 25, 1⟩
abbrev R.ADC_STAT (n : Nat) : Nat := 0x4700 + 4 * n
abbrev F.ADC_STAT_ENTRY (n : Nat) : Fld := ⟨R.ADC_STAT n, 0, 5⟩
abbrev F.ADC_STAT_RUN (n : Nat) : Fld := ⟨R.ADC_STAT n, 5, 1⟩
abbrev F.ADC_STAT_CAL (n : Nat) : Fld := ⟨R.ADC_STAT n, 6, 1⟩
abbrev F.ADC_STAT_URGQ (n : Nat) : Fld := ⟨R.ADC_STAT n, 7, 3⟩
abbrev F.ADC_STAT_LOOPS (n : Nat) : Fld := ⟨R.ADC_STAT n, 16, 16⟩
abbrev R.ACC_IDX : Nat := 0x4800
abbrev F.ACC_IDX_INDEX : Fld := ⟨R.ACC_IDX, 0, 9⟩
abbrev F.ACC_IDX_TRK : Fld := ⟨R.ACC_IDX, 9, 1⟩
abbrev F.ACC_IDX_WORD : Fld := ⟨R.ACC_IDX, 10, 2⟩
abbrev R.ACC_DATA : Nat := 0x4804
abbrev F.ACC_DATA_DATA : Fld := ⟨R.ACC_DATA, 0, 32⟩
abbrev R.CMP_PKLAT : Nat := 0x5000
abbrev F.CMP_PKLAT_BK : Fld := ⟨R.CMP_PKLAT, 0, 24⟩
abbrev R.CMP_HDLAT : Nat := 0x5004
abbrev F.CMP_HDLAT_BK : Fld := ⟨R.CMP_HDLAT, 0, 24⟩
abbrev R.CMP_VDSLAT (i : Nat) : Nat := 0x5008 + 4 * i
abbrev F.CMP_VDSLAT_CH (i : Nat) : Fld := ⟨R.CMP_VDSLAT i, 0, 32⟩
abbrev R.CMP_HVLAT : Nat := 0x5014
abbrev F.CMP_HVLAT_BK : Fld := ⟨R.CMP_HVLAT, 0, 24⟩
abbrev R.CMP_HBLAT : Nat := 0x5018
abbrev F.CMP_HBLAT_BK : Fld := ⟨R.CMP_HBLAT, 0, 24⟩
abbrev R.CMP_GLAT : Nat := 0x501c
abbrev F.CMP_GLAT_FT : Fld := ⟨R.CMP_GLAT, 0, 8⟩
abbrev F.CMP_GLAT_REV : Fld := ⟨R.CMP_GLAT, 8, 8⟩
abbrev R.CMP_UNSET : Nat := 0x5020
abbrev F.CMP_UNSET_BK : Fld := ⟨R.CMP_UNSET, 0, 24⟩
abbrev F.CMP_UNSET_GRD : Fld := ⟨R.CMP_UNSET, 24, 8⟩
abbrev R.CMP_HYSGFT : Nat := 0x5030
abbrev F.CMP_HYSGFT_HYS0 : Fld := ⟨R.CMP_HYSGFT, 0, 3⟩
abbrev F.CMP_HYSGFT_HYS1 : Fld := ⟨R.CMP_HYSGFT, 3, 3⟩
abbrev F.CMP_HYSGFT_HYS2 : Fld := ⟨R.CMP_HYSGFT, 6, 3⟩
abbrev F.CMP_HYSGFT_HYS3 : Fld := ⟨R.CMP_HYSGFT, 9, 3⟩
abbrev F.CMP_HYSGFT_HYS4 : Fld := ⟨R.CMP_HYSGFT, 12, 3⟩
abbrev F.CMP_HYSGFT_HYS5 : Fld := ⟨R.CMP_HYSGFT, 15, 3⟩
abbrev F.CMP_HYSGFT_HYS6 : Fld := ⟨R.CMP_HYSGFT, 18, 3⟩
abbrev F.CMP_HYSGFT_HYS7 : Fld := ⟨R.CMP_HYSGFT, 21, 3⟩
abbrev R.CMP_HYSGREV : Nat := 0x5034
abbrev F.CMP_HYSGREV_HYS0 : Fld := ⟨R.CMP_HYSGREV, 0, 3⟩
abbrev F.CMP_HYSGREV_HYS1 : Fld := ⟨R.CMP_HYSGREV, 3, 3⟩
abbrev F.CMP_HYSGREV_HYS2 : Fld := ⟨R.CMP_HYSGREV, 6, 3⟩
abbrev F.CMP_HYSGREV_HYS3 : Fld := ⟨R.CMP_HYSGREV, 9, 3⟩
abbrev F.CMP_HYSGREV_HYS4 : Fld := ⟨R.CMP_HYSGREV, 12, 3⟩
abbrev F.CMP_HYSGREV_HYS5 : Fld := ⟨R.CMP_HYSGREV, 15, 3⟩
abbrev F.CMP_HYSGREV_HYS6 : Fld := ⟨R.CMP_HYSGREV, 18, 3⟩
abbrev F.CMP_HYSGREV_HYS7 : Fld := ⟨R.CMP_HYSGREV, 21, 3⟩
abbrev R.CMP_HYSB (b : Nat) : Nat := 0x5040 + 4 * b
abbrev F.CMP_HYSB_PKHD (b : Nat) : Fld := ⟨R.CMP_HYSB b, 0, 3⟩
abbrev F.CMP_HYSB_VDS (b : Nat) : Fld := ⟨R.CMP_HYSB b, 3, 3⟩
abbrev R.CMP_WMCFG (n : Nat) : Nat := 0x5100 + 16 * n
abbrev F.CMP_WMCFG_INPUT (n : Nat) : Fld := ⟨R.CMP_WMCFG n, 0, 5⟩
abbrev F.CMP_WMCFG_HYS (n : Nat) : Fld := ⟨R.CMP_WMCFG n, 5, 3⟩
abbrev F.CMP_WMCFG_EN (n : Nat) : Fld := ⟨R.CMP_WMCFG n, 8, 1⟩
abbrev F.CMP_WMCFG_EXT (n : Nat) : Fld := ⟨R.CMP_WMCFG n, 9, 1⟩
abbrev F.CMP_WMCFG_TCLR (n : Nat) : Fld := ⟨R.CMP_WMCFG n, 10, 1⟩
abbrev F.CMP_WMCFG_TMR (n : Nat) : Fld := ⟨R.CMP_WMCFG n, 11, 4⟩
abbrev R.CMP_WMLIM (n : Nat) : Nat := 0x5104 + 16 * n
abbrev F.CMP_WMLIM_LO (n : Nat) : Fld := ⟨R.CMP_WMLIM n, 0, 12⟩
abbrev F.CMP_WMLIM_HI (n : Nat) : Fld := ⟨R.CMP_WMLIM n, 16, 12⟩
abbrev R.CMP_WMSTAT (n : Nat) : Nat := 0x5108 + 16 * n
abbrev F.CMP_WMSTAT_STATE (n : Nat) : Fld := ⟨R.CMP_WMSTAT n, 0, 2⟩
abbrev F.CMP_WMSTAT_UNS_LO (n : Nat) : Fld := ⟨R.CMP_WMSTAT n, 2, 1⟩
abbrev F.CMP_WMSTAT_UNS_HI (n : Nat) : Fld := ⟨R.CMP_WMSTAT n, 3, 1⟩
abbrev F.CMP_WMSTAT_BELOW_SEEN (n : Nat) : Fld := ⟨R.CMP_WMSTAT n, 4, 1⟩
abbrev F.CMP_WMSTAT_ABOVE_SEEN (n : Nat) : Fld := ⟨R.CMP_WMSTAT n, 5, 1⟩
abbrev F.CMP_WMSTAT_EXITS (n : Nat) : Fld := ⟨R.CMP_WMSTAT n, 16, 16⟩
abbrev R.TMR_CFG (n : Nat) : Nat := 0x5400 + 48 * n
abbrev F.TMR_CFG_CLK (n : Nat) : Fld := ⟨R.TMR_CFG n, 0, 2⟩
abbrev F.TMR_CFG_EN (n : Nat) : Fld := ⟨R.TMR_CFG n, 2, 1⟩
abbrev F.TMR_CFG_AUTO (n : Nat) : Fld := ⟨R.TMR_CFG n, 3, 1⟩
abbrev F.TMR_CFG_ONESHOT (n : Nat) : Fld := ⟨R.TMR_CFG n, 4, 1⟩
abbrev F.TMR_CFG_SLAVE (n : Nat) : Fld := ⟨R.TMR_CFG n, 5, 2⟩
abbrev F.TMR_CFG_MASTER (n : Nat) : Fld := ⟨R.TMR_CFG n, 7, 4⟩
abbrev F.TMR_CFG_MTRG (n : Nat) : Fld := ⟨R.TMR_CFG n, 11, 1⟩
abbrev F.TMR_CFG_GPOL (n : Nat) : Fld := ⟨R.TMR_CFG n, 12, 1⟩
abbrev R.TMR_ACT (n : Nat) : Nat := 0x5404 + 48 * n
abbrev F.TMR_ACT_ON_MATCH (n : Nat) : Fld := ⟨R.TMR_ACT n, 0, 4⟩
abbrev F.TMR_ACT_ON_ZERO (n : Nat) : Fld := ⟨R.TMR_ACT n, 4, 4⟩
abbrev F.TMR_ACT_URG_CONV (n : Nat) : Fld := ⟨R.TMR_ACT n, 8, 3⟩
abbrev F.TMR_ACT_URG_ENTRY (n : Nat) : Fld := ⟨R.TMR_ACT n, 11, 5⟩
abbrev F.TMR_ACT_PUSH_TQ (n : Nat) : Fld := ⟨R.TMR_ACT n, 16, 2⟩
abbrev R.TMR_PIN (n : Nat) : Nat := 0x5408 + 48 * n
abbrev F.TMR_PIN_CAP_EN (n : Nat) : Fld := ⟨R.TMR_PIN n, 0, 1⟩
abbrev F.TMR_PIN_CAP_SRC (n : Nat) : Fld := ⟨R.TMR_PIN n, 1, 6⟩
abbrev F.TMR_PIN_CAP_FILT (n : Nat) : Fld := ⟨R.TMR_PIN n, 7, 4⟩
abbrev F.TMR_PIN_OUT_EN (n : Nat) : Fld := ⟨R.TMR_PIN n, 11, 1⟩
abbrev F.TMR_PIN_OUT_PIN (n : Nat) : Fld := ⟨R.TMR_PIN n, 12, 5⟩
abbrev F.TMR_PIN_OUT_POL (n : Nat) : Fld := ⟨R.TMR_PIN n, 17, 1⟩
abbrev R.TMR_RELOAD (n : Nat) : Nat := 0x540c + 48 * n
abbrev F.TMR_RELOAD_RELOAD (n : Nat) : Fld := ⟨R.TMR_RELOAD n, 0, 32⟩
abbrev R.TMR_CMP (n : Nat) : Nat := 0x5410 + 48 * n
abbrev F.TMR_CMP_CMP (n : Nat) : Fld := ⟨R.TMR_CMP n, 0, 32⟩
abbrev R.TMR_CNT (n : Nat) : Nat := 0x5414 + 48 * n
abbrev F.TMR_CNT_COUNT (n : Nat) : Fld := ⟨R.TMR_CNT n, 0, 32⟩
abbrev R.TMR_CAPR (n : Nat) : Nat := 0x5418 + 48 * n
abbrev F.TMR_CAPR_COUNT (n : Nat) : Fld := ⟨R.TMR_CAPR n, 0, 32⟩
abbrev R.TMR_CAPF (n : Nat) : Nat := 0x541c + 48 * n
abbrev F.TMR_CAPF_COUNT (n : Nat) : Fld := ⟨R.TMR_CAPF n, 0, 32⟩
abbrev R.TMR_WIDTH (n : Nat) : Nat := 0x5420 + 48 * n
abbrev F.TMR_WIDTH_WIDTH (n : Nat) : Fld := ⟨R.TMR_WIDTH n, 0, 32⟩
abbrev R.TMR_STAT (n : Nat) : Nat := 0x5424 + 48 * n
abbrev F.TMR_STAT_RUN (n : Nat) : Fld := ⟨R.TMR_STAT n, 0, 1⟩
abbrev F.TMR_STAT_OUT (n : Nat) : Fld := ⟨R.TMR_STAT n, 1, 1⟩
abbrev F.TMR_STAT_CATCHING (n : Nat) : Fld := ⟨R.TMR_STAT n, 2, 1⟩
abbrev F.TMR_STAT_MATCH (n : Nat) : Fld := ⟨R.TMR_STAT n, 3, 1⟩
abbrev F.TMR_STAT_ZERO (n : Nat) : Fld := ⟨R.TMR_STAT n, 4, 1⟩
abbrev F.TMR_STAT_LONG_PERIOD (n : Nat) : Fld := ⟨R.TMR_STAT n, 5, 1⟩
abbrev F.TMR_STAT_CAP_OVR (n : Nat) : Fld := ⟨R.TMR_STAT n, 6, 1⟩
abbrev F.TMR_STAT_LATE (n : Nat) : Fld := ⟨R.TMR_STAT n, 7, 1⟩
abbrev R.TMR_MISSED (n : Nat) : Nat := 0x5428 + 48 * n
abbrev F.TMR_MISSED_COUNT (n : Nat) : Fld := ⟨R.TMR_MISSED n, 0, 32⟩
abbrev R.TMR_DEBT (n : Nat) : Nat := 0x542c + 48 * n
abbrev F.TMR_DEBT_DEBT (n : Nat) : Fld := ⟨R.TMR_DEBT n, 0, 32⟩
abbrev R.TMR_START : Nat := 0x5700
abbrev F.TMR_START_TMR : Fld := ⟨R.TMR_START, 0, 16⟩
abbrev R.TMR_STOP : Nat := 0x5704
abbrev F.TMR_STOP_TMR : Fld := ⟨R.TMR_STOP, 0, 16⟩
abbrev R.TMR_CATCHUP : Nat := 0x5708
abbrev F.TMR_CATCHUP_PCT : Fld := ⟨R.TMR_CATCHUP, 0, 7⟩
abbrev R.NIB_CFG (n : Nat) : Nat := 0x5800 + 64 * n
abbrev F.NIB_CFG_EN (n : Nat) : Fld := ⟨R.NIB_CFG n, 0, 1⟩
abbrev F.NIB_CFG_AUTO (n : Nat) : Fld := ⟨R.NIB_CFG n, 1, 1⟩
abbrev F.NIB_CFG_TXSTALL (n : Nat) : Fld := ⟨R.NIB_CFG n, 2, 1⟩
abbrev F.NIB_CFG_RXSTALL (n : Nat) : Fld := ⟨R.NIB_CFG n, 3, 1⟩
abbrev F.NIB_CFG_SHDIR (n : Nat) : Fld := ⟨R.NIB_CFG n, 4, 1⟩
abbrev F.NIB_CFG_WIDTH (n : Nat) : Fld := ⟨R.NIB_CFG n, 5, 5⟩
abbrev F.NIB_CFG_FILL (n : Nat) : Fld := ⟨R.NIB_CFG n, 10, 1⟩
abbrev F.NIB_CFG_SOUT (n : Nat) : Fld := ⟨R.NIB_CFG n, 11, 3⟩
abbrev F.NIB_CFG_SAFE_RUN (n : Nat) : Fld := ⟨R.NIB_CFG n, 14, 1⟩
abbrev F.NIB_CFG_IRQ_ERR (n : Nat) : Fld := ⟨R.NIB_CFG n, 15, 1⟩
abbrev F.NIB_CFG_RXTHR (n : Nat) : Fld := ⟨R.NIB_CFG n, 16, 4⟩
abbrev R.NIB_IN (n : Nat) : Nat := 0x5804 + 64 * n
abbrev F.NIB_IN_PIN0 (n : Nat) : Fld := ⟨R.NIB_IN n, 0, 5⟩
abbrev F.NIB_IN_EN0 (n : Nat) : Fld := ⟨R.NIB_IN n, 5, 1⟩
abbrev F.NIB_IN_INV0 (n : Nat) : Fld := ⟨R.NIB_IN n, 6, 1⟩
abbrev F.NIB_IN_PIN1 (n : Nat) : Fld := ⟨R.NIB_IN n, 8, 5⟩
abbrev F.NIB_IN_EN1 (n : Nat) : Fld := ⟨R.NIB_IN n, 13, 1⟩
abbrev F.NIB_IN_INV1 (n : Nat) : Fld := ⟨R.NIB_IN n, 14, 1⟩
abbrev F.NIB_IN_PIN2 (n : Nat) : Fld := ⟨R.NIB_IN n, 16, 5⟩
abbrev F.NIB_IN_EN2 (n : Nat) : Fld := ⟨R.NIB_IN n, 21, 1⟩
abbrev F.NIB_IN_INV2 (n : Nat) : Fld := ⟨R.NIB_IN n, 22, 1⟩
abbrev F.NIB_IN_PIN3 (n : Nat) : Fld := ⟨R.NIB_IN n, 24, 5⟩
abbrev F.NIB_IN_EN3 (n : Nat) : Fld := ⟨R.NIB_IN n, 29, 1⟩
abbrev F.NIB_IN_INV3 (n : Nat) : Fld := ⟨R.NIB_IN n, 30, 1⟩
abbrev R.NIB_INKA (n : Nat) : Nat := 0x5808 + 64 * n
abbrev F.NIB_INKA_PIN0 (n : Nat) : Fld := ⟨R.NIB_INKA n, 0, 5⟩
abbrev F.NIB_INKA_EN0 (n : Nat) : Fld := ⟨R.NIB_INKA n, 5, 1⟩
abbrev F.NIB_INKA_OD0 (n : Nat) : Fld := ⟨R.NIB_INKA n, 6, 1⟩
abbrev F.NIB_INKA_IDLE0 (n : Nat) : Fld := ⟨R.NIB_INKA n, 7, 1⟩
abbrev F.NIB_INKA_PIN1 (n : Nat) : Fld := ⟨R.NIB_INKA n, 8, 5⟩
abbrev F.NIB_INKA_EN1 (n : Nat) : Fld := ⟨R.NIB_INKA n, 13, 1⟩
abbrev F.NIB_INKA_OD1 (n : Nat) : Fld := ⟨R.NIB_INKA n, 14, 1⟩
abbrev F.NIB_INKA_IDLE1 (n : Nat) : Fld := ⟨R.NIB_INKA n, 15, 1⟩
abbrev F.NIB_INKA_PIN2 (n : Nat) : Fld := ⟨R.NIB_INKA n, 16, 5⟩
abbrev F.NIB_INKA_EN2 (n : Nat) : Fld := ⟨R.NIB_INKA n, 21, 1⟩
abbrev F.NIB_INKA_OD2 (n : Nat) : Fld := ⟨R.NIB_INKA n, 22, 1⟩
abbrev F.NIB_INKA_IDLE2 (n : Nat) : Fld := ⟨R.NIB_INKA n, 23, 1⟩
abbrev F.NIB_INKA_PIN3 (n : Nat) : Fld := ⟨R.NIB_INKA n, 24, 5⟩
abbrev F.NIB_INKA_EN3 (n : Nat) : Fld := ⟨R.NIB_INKA n, 29, 1⟩
abbrev F.NIB_INKA_OD3 (n : Nat) : Fld := ⟨R.NIB_INKA n, 30, 1⟩
abbrev F.NIB_INKA_IDLE3 (n : Nat) : Fld := ⟨R.NIB_INKA n, 31, 1⟩
abbrev R.NIB_INKB (n : Nat) : Nat := 0x580c + 64 * n
abbrev F.NIB_INKB_PIN0 (n : Nat) : Fld := ⟨R.NIB_INKB n, 0, 5⟩
abbrev F.NIB_INKB_EN0 (n : Nat) : Fld := ⟨R.NIB_INKB n, 5, 1⟩
abbrev F.NIB_INKB_OD0 (n : Nat) : Fld := ⟨R.NIB_INKB n, 6, 1⟩
abbrev F.NIB_INKB_IDLE0 (n : Nat) : Fld := ⟨R.NIB_INKB n, 7, 1⟩
abbrev F.NIB_INKB_PIN1 (n : Nat) : Fld := ⟨R.NIB_INKB n, 8, 5⟩
abbrev F.NIB_INKB_EN1 (n : Nat) : Fld := ⟨R.NIB_INKB n, 13, 1⟩
abbrev F.NIB_INKB_OD1 (n : Nat) : Fld := ⟨R.NIB_INKB n, 14, 1⟩
abbrev F.NIB_INKB_IDLE1 (n : Nat) : Fld := ⟨R.NIB_INKB n, 15, 1⟩
abbrev F.NIB_INKB_PIN2 (n : Nat) : Fld := ⟨R.NIB_INKB n, 16, 5⟩
abbrev F.NIB_INKB_EN2 (n : Nat) : Fld := ⟨R.NIB_INKB n, 21, 1⟩
abbrev F.NIB_INKB_OD2 (n : Nat) : Fld := ⟨R.NIB_INKB n, 22, 1⟩
abbrev F.NIB_INKB_IDLE2 (n : Nat) : Fld := ⟨R.NIB_INKB n, 23, 1⟩
abbrev F.NIB_INKB_PIN3 (n : Nat) : Fld := ⟨R.NIB_INKB n, 24, 5⟩
abbrev F.NIB_INKB_EN3 (n : Nat) : Fld := ⟨R.NIB_INKB n, 29, 1⟩
abbrev F.NIB_INKB_OD3 (n : Nat) : Fld := ⟨R.NIB_INKB n, 30, 1⟩
abbrev F.NIB_INKB_IDLE3 (n : Nat) : Fld := ⟨R.NIB_INKB n, 31, 1⟩
abbrev R.NIB_LIM (n : Nat) : Nat := 0x5810 + 64 * n
abbrev F.NIB_LIM_LIM (n : Nat) : Fld := ⟨R.NIB_LIM n, 0, 16⟩
abbrev F.NIB_LIM_DIV (n : Nat) : Fld := ⟨R.NIB_LIM n, 16, 16⟩
abbrev R.NIB_MARGIN (n : Nat) : Nat := 0x5814 + 64 * n
abbrev F.NIB_MARGIN_TOP (n : Nat) : Fld := ⟨R.NIB_MARGIN n, 0, 6⟩
abbrev F.NIB_MARGIN_BOTTOM (n : Nat) : Fld := ⟨R.NIB_MARGIN n, 8, 6⟩
abbrev F.NIB_MARGIN_ENTRY (n : Nat) : Fld := ⟨R.NIB_MARGIN n, 16, 6⟩
abbrev R.NIB_SIDX (n : Nat) : Nat := 0x5818 + 64 * n
abbrev F.NIB_SIDX_IDX (n : Nat) : Fld := ⟨R.NIB_SIDX n, 0, 6⟩
abbrev R.NIB_SDATALO (n : Nat) : Nat := 0x581c + 64 * n
abbrev F.NIB_SDATALO_LO (n : Nat) : Fld := ⟨R.NIB_SDATALO n, 0, 32⟩
abbrev R.NIB_SDATAHI (n : Nat) : Nat := 0x5820 + 64 * n
abbrev F.NIB_SDATAHI_HI (n : Nat) : Fld := ⟨R.NIB_SDATAHI n, 0, 32⟩
abbrev R.NIB_CTRL (n : Nat) : Nat := 0x5824 + 64 * n
abbrev F.NIB_CTRL_START (n : Nat) : Fld := ⟨R.NIB_CTRL n, 0, 1⟩
abbrev F.NIB_CTRL_STOP (n : Nat) : Fld := ⟨R.NIB_CTRL n, 1, 1⟩
abbrev F.NIB_CTRL_RESUME (n : Nat) : Fld := ⟨R.NIB_CTRL n, 2, 1⟩
abbrev F.NIB_CTRL_FLUSH (n : Nat) : Fld := ⟨R.NIB_CTRL n, 3, 1⟩
abbrev R.NIB_STAT (n : Nat) : Nat := 0x5828 + 64 * n
abbrev F.NIB_STAT_RUN (n : Nat) : Fld := ⟨R.NIB_STAT n, 0, 1⟩
abbrev F.NIB_STAT_STALLED (n : Nat) : Fld := ⟨R.NIB_STAT n, 1, 1⟩
abbrev F.NIB_STAT_TX_UNDER (n : Nat) : Fld := ⟨R.NIB_STAT n, 2, 1⟩
abbrev F.NIB_STAT_RX_OVER (n : Nat) : Fld := ⟨R.NIB_STAT n, 3, 1⟩
abbrev F.NIB_STAT_MPEND (n : Nat) : Fld := ⟨R.NIB_STAT n, 4, 1⟩
abbrev F.NIB_STAT_TXLVL (n : Nat) : Fld := ⟨R.NIB_STAT n, 8, 4⟩
abbrev F.NIB_STAT_RXLVL (n : Nat) : Fld := ⟨R.NIB_STAT n, 12, 4⟩
abbrev F.NIB_STAT_STATE (n : Nat) : Fld := ⟨R.NIB_STAT n, 16, 6⟩
abbrev F.NIB_STAT_BC (n : Nat) : Fld := ⟨R.NIB_STAT n, 24, 5⟩
abbrev R.NIB_SR (n : Nat) : Nat := 0x582c + 64 * n
abbrev F.NIB_SR_SR (n : Nat) : Fld := ⟨R.NIB_SR n, 0, 32⟩
abbrev R.NIB_CNT (n : Nat) : Nat := 0x5830 + 64 * n
abbrev F.NIB_CNT_SC (n : Nat) : Fld := ⟨R.NIB_CNT n, 0, 16⟩
abbrev R.NIB_TX (n : Nat) : Nat := 0x5834 + 64 * n
abbrev F.NIB_TX_WORD (n : Nat) : Fld := ⟨R.NIB_TX n, 0, 32⟩
abbrev R.NIB_RX (n : Nat) : Nat := 0x5838 + 64 * n
abbrev F.NIB_RX_WORD (n : Nat) : Fld := ⟨R.NIB_RX n, 0, 32⟩
abbrev R.EVC_PEND_LO : Nat := 0x5c00
abbrev F.EVC_PEND_LO_SRC : Fld := ⟨R.EVC_PEND_LO, 0, 32⟩
abbrev R.EVC_PEND_HI : Nat := 0x5c04
abbrev F.EVC_PEND_HI_SRC : Fld := ⟨R.EVC_PEND_HI, 0, 32⟩
abbrev R.EVC_SPURIOUS : Nat := 0x5c08
abbrev F.EVC_SPURIOUS_COUNT : Fld := ⟨R.EVC_SPURIOUS, 0, 32⟩
abbrev R.EVC_ORDER_CNT : Nat := 0x5c0c
abbrev F.EVC_ORDER_CNT_COUNT : Fld := ⟨R.EVC_ORDER_CNT, 0, 32⟩
abbrev R.EVC_CMD_ERR_CNT : Nat := 0x5c10
abbrev F.EVC_CMD_ERR_CNT_COUNT : Fld := ⟨R.EVC_CMD_ERR_CNT, 0, 32⟩
abbrev R.EVC_EXTSTAT : Nat := 0x5c14
abbrev F.EVC_EXTSTAT_LEVEL : Fld := ⟨R.EVC_EXTSTAT, 0, 8⟩
abbrev R.EVC_ROUTE (i : Nat) : Nat := 0x5c20 + 4 * i
abbrev F.EVC_ROUTE_TGT0 (i : Nat) : Fld := ⟨R.EVC_ROUTE i, 0, 4⟩
abbrev F.EVC_ROUTE_TGT1 (i : Nat) : Fld := ⟨R.EVC_ROUTE i, 4, 4⟩
abbrev F.EVC_ROUTE_TGT2 (i : Nat) : Fld := ⟨R.EVC_ROUTE i, 8, 4⟩
abbrev F.EVC_ROUTE_TGT3 (i : Nat) : Fld := ⟨R.EVC_ROUTE i, 12, 4⟩
abbrev F.EVC_ROUTE_TGT4 (i : Nat) : Fld := ⟨R.EVC_ROUTE i, 16, 4⟩
abbrev F.EVC_ROUTE_TGT5 (i : Nat) : Fld := ⟨R.EVC_ROUTE i, 20, 4⟩
abbrev F.EVC_ROUTE_TGT6 (i : Nat) : Fld := ⟨R.EVC_ROUTE i, 24, 4⟩
abbrev F.EVC_ROUTE_TGT7 (i : Nat) : Fld := ⟨R.EVC_ROUTE i, 28, 4⟩
abbrev R.EVC_COAL (k : Nat) : Nat := 0x5c40 + 4 * k
abbrev F.EVC_COAL_COUNT (k : Nat) : Fld := ⟨R.EVC_COAL k, 0, 8⟩
abbrev F.EVC_COAL_TIME (k : Nat) : Fld := ⟨R.EVC_COAL k, 16, 16⟩
abbrev R.EVC_COAL15 : Nat := 0x5c7c
abbrev F.EVC_COAL15_COUNT : Fld := ⟨R.EVC_COAL15, 0, 8⟩
abbrev F.EVC_COAL15_TIME : Fld := ⟨R.EVC_COAL15, 16, 16⟩
abbrev R.EVC_EXTCFG (n : Nat) : Nat := 0x5c80 + 4 * n
abbrev F.EVC_EXTCFG_PIN (n : Nat) : Fld := ⟨R.EVC_EXTCFG n, 0, 5⟩
abbrev F.EVC_EXTCFG_EN (n : Nat) : Fld := ⟨R.EVC_EXTCFG n, 5, 1⟩
abbrev F.EVC_EXTCFG_MODE (n : Nat) : Fld := ⟨R.EVC_EXTCFG n, 6, 3⟩
abbrev F.EVC_EXTCFG_FCLK (n : Nat) : Fld := ⟨R.EVC_EXTCFG n, 9, 1⟩
abbrev F.EVC_EXTCFG_FILT (n : Nat) : Fld := ⟨R.EVC_EXTCFG n, 10, 8⟩
abbrev R.EVC_CMD (t : Nat) : Nat := 0x5d00 + 32 * t
abbrev F.EVC_CMD_SRC (t : Nat) : Fld := ⟨R.EVC_CMD t, 0, 6⟩
abbrev F.EVC_CMD_OP (t : Nat) : Fld := ⟨R.EVC_CMD t, 8, 2⟩
abbrev R.EVC_TSTAT (t : Nat) : Nat := 0x5d04 + 32 * t
abbrev F.EVC_TSTAT_STATE (t : Nat) : Fld := ⟨R.EVC_TSTAT t, 0, 2⟩
abbrev F.EVC_TSTAT_MSG_HELD (t : Nat) : Fld := ⟨R.EVC_TSTAT t, 2, 1⟩
abbrev F.EVC_TSTAT_NEXT (t : Nat) : Fld := ⟨R.EVC_TSTAT t, 8, 6⟩
abbrev F.EVC_TSTAT_NEXT_VALID (t : Nat) : Fld := ⟨R.EVC_TSTAT t, 14, 1⟩
abbrev R.EVC_PRESLO (t : Nat) : Nat := 0x5d08 + 32 * t
abbrev F.EVC_PRESLO_SRC (t : Nat) : Fld := ⟨R.EVC_PRESLO t, 0, 32⟩
abbrev R.EVC_PRESHI (t : Nat) : Nat := 0x5d0c + 32 * t
abbrev F.EVC_PRESHI_SRC (t : Nat) : Fld := ⟨R.EVC_PRESHI t, 0, 32⟩
abbrev R.EVC_STACK (t : Nat) : Nat := 0x5d10 + 32 * t
abbrev F.EVC_STACK_S0_S3 (t : Nat) : Fld := ⟨R.EVC_STACK t, 0, 24⟩
abbrev F.EVC_STACK_DEPTH (t : Nat) : Fld := ⟨R.EVC_STACK t, 24, 3⟩
abbrev R.EVC_CAUSE (t : Nat) : Nat := 0x5d14 + 32 * t
abbrev F.EVC_CAUSE_COUNT (t : Nat) : Fld := ⟨R.EVC_CAUSE t, 0, 8⟩
abbrev F.EVC_CAUSE_LEVEL_SRC (t : Nat) : Fld := ⟨R.EVC_CAUSE t, 8, 1⟩
abbrev R.TST_CTRL : Nat := 0x6000
abbrev F.TST_CTRL_GO : Fld := ⟨R.TST_CTRL, 0, 1⟩
abbrev R.TST_STAT : Nat := 0x6004
abbrev F.TST_STAT_RUNNING : Fld := ⟨R.TST_STAT, 0, 1⟩
abbrev F.TST_STAT_BOOT : Fld := ⟨R.TST_STAT, 1, 1⟩
abbrev F.TST_STAT_END_CAUSE : Fld := ⟨R.TST_STAT, 2, 2⟩
abbrev F.TST_STAT_REFUSED : Fld := ⟨R.TST_STAT, 4, 1⟩
abbrev F.TST_STAT_BLOCK_A : Fld := ⟨R.TST_STAT, 5, 5⟩
abbrev F.TST_STAT_BLOCK_B : Fld := ⟨R.TST_STAT, 10, 5⟩
abbrev F.TST_STAT_TIME : Fld := ⟨R.TST_STAT, 16, 16⟩
abbrev R.TST_FAIL : Nat := 0x6008
abbrev F.TST_FAIL_BLK : Fld := ⟨R.TST_FAIL, 1, 27⟩
abbrev R.TST_SKIP : Nat := 0x600c
abbrev F.TST_SKIP_BLK : Fld := ⟨R.TST_SKIP, 1, 27⟩
abbrev R.TST_FIRST : Nat := 0x6010
abbrev F.TST_FIRST_BLOCK : Fld := ⟨R.TST_FIRST, 0, 5⟩
abbrev F.TST_FIRST_UNIT : Fld := ⟨R.TST_FIRST, 5, 6⟩
abbrev F.TST_FIRST_DEV : Fld := ⟨R.TST_FIRST, 16, 16⟩
abbrev R.TST_PASS_CNT : Nat := 0x6014
abbrev F.TST_PASS_CNT_COUNT : Fld := ⟨R.TST_PASS_CNT, 0, 16⟩
abbrev R.SET_CFG : Nat := 0x6400
abbrev F.SET_CFG_EN : Fld := ⟨R.SET_CFG, 0, 1⟩
abbrev F.SET_CFG_ROLE : Fld := ⟨R.SET_CFG, 1, 1⟩
abbrev F.SET_CFG_LOSS_T : Fld := ⟨R.SET_CFG, 8, 8⟩
abbrev R.SET_CTRL : Nat := 0x6404
abbrev F.SET_CTRL_RETRAIN : Fld := ⟨R.SET_CTRL, 0, 1⟩
abbrev R.SET_STAT : Nat := 0x6408
abbrev F.SET_STAT_DEV : Fld := ⟨R.SET_STAT, 0, 2⟩
abbrev F.SET_STAT_COUNT : Fld := ⟨R.SET_STAT, 2, 2⟩
abbrev F.SET_STAT_STATE : Fld := ⟨R.SET_STAT, 4, 2⟩
abbrev F.SET_STAT_LOST : Fld := ⟨R.SET_STAT, 6, 1⟩
abbrev F.SET_STAT_END : Fld := ⟨R.SET_STAT, 7, 1⟩
abbrev F.SET_STAT_ERR : Fld := ⟨R.SET_STAT, 8, 3⟩
abbrev R.SET_LAT : Nat := 0x640c
abbrev F.SET_LAT_LAT : Fld := ⟨R.SET_LAT, 0, 8⟩
abbrev R.SET_OFFS : Nat := 0x6410
abbrev F.SET_OFFS_OFFS : Fld := ⟨R.SET_OFFS, 0, 16⟩
abbrev R.SET_CRC_CNT : Nat := 0x6414
abbrev F.SET_CRC_CNT_COUNT : Fld := ⟨R.SET_CRC_CNT, 0, 32⟩
abbrev R.SET_LOSS_CNT : Nat := 0x6418
abbrev F.SET_LOSS_CNT_COUNT : Fld := ⟨R.SET_LOSS_CNT, 0, 32⟩

end Sys2Proof.Machine
end

