-- ==== Sys2Proof/Machine/RegTable.lean ====
section
/-! DEFINITION. The register table of the set-up space (R475): each row one register or register array with its offset, its
strides, the unit it belongs to, and the access codes of its fields as masks (R14). Fixed reset values stand in
resetWord. -/

namespace Sys2Proof.Machine

/-- The kind of unit whose absence (R3) hides a register. -/
inductive UKind where
  | none | channel | bank | quad | boost | grd | conv | wmon | nib
  deriving DecidableEq, Repr

/-- A row of the register table. dims: (count, stride) of each index, outermost first. The masks give the bits of each
access code: o (RW-O), i (RW-I), w1c, rc, woO, woI, woM; img: operator fields with an Image reset (R434). -/
structure RegRow where
  base : Nat
  dims : List (Nat × Nat)
  unit : UKind
  o : Nat
  i : Nat
  w1c : Nat
  rc : Nat
  woO : Nat
  woI : Nat
  woM : Nat
  img : Nat
  deriving DecidableEq, Repr

/-- The rows of register page 0. -/
def regPage0 : List RegRow := [
  ⟨0x0, [], .none, 0, 0, 0, 0, 0, 0, 0, 0⟩, /- SYS_ID -/
  ⟨0x4, [], .none, 0, 0, 0, 0, 0, 0, 0, 0⟩, /- SYS_REV -/
  ⟨0x8, [], .none, 0, 0, 0, 0, 0, 0, 0, 0⟩, /- SYS_UID_LO -/
  ⟨0xc, [], .none, 0, 0, 0, 0, 0, 0, 0, 0⟩, /- SYS_UID_HI -/
  ⟨0x10, [], .none, 0, 0, 0, 0, 0, 0, 0, 0⟩, /- SYS_CAP0 -/
  ⟨0x14, [], .none, 0, 0, 0, 0, 0, 0, 0, 0⟩, /- SYS_CAP1 -/
  ⟨0x18, [], .none, 0, 0, 0, 0, 0, 0, 0, 0⟩, /- SYS_STAT -/
  ⟨0x1c, [], .none, 0, 0, 0, 0, 0, 0, 0, 0⟩, /- SYS_MODE -/
  ⟨0x20, [], .none, 0, 0, 0, 0, 0x1, 0, 0, 0⟩, /- SYS_ABORT -/
  ⟨0x24, [], .none, 0, 0, 0, 0xffffffff, 0, 0, 0, 0⟩, /- SYS_REFUSED -/
  ⟨0x28, [], .none, 0, 0, 0, 0, 0, 0, 0, 0⟩, /- SYS_HEALTH0 -/
  ⟨0x2c, [], .none, 0, 0, 0, 0, 0, 0, 0, 0⟩, /- SYS_HEALTH1 -/
  ⟨0x30, [(3, 4)], .none, 0, 0, 0, 0, 0, 0, 0, 0⟩, /- SYS_HEALTH -/
  ⟨0x100, [], .none, 0, 0, 0, 0, 0xf, 0, 0, 0⟩, /- SYS_MODEREQ -/
  ⟨0x104, [], .none, 0, 0, 0, 0, 0, 0, 0, 0⟩, /- SYS_MODESTAT -/
  ⟨0x108, [], .none, 0, 0xff07, 0, 0, 0, 0, 0, 0⟩, /- SYS_MODECFG -/
  ⟨0x10c, [], .none, 0, 0xffff3f, 0, 0, 0, 0, 0, 0⟩, /- SYS_WAKECFG -/
  ⟨0x110, [], .none, 0, 0, 0, 0xff1f, 0, 0, 0, 0⟩, /- SYS_WAKESTAT -/
  ⟨0x114, [], .none, 0, 0, 0, 0x71f, 0, 0, 0, 0⟩, /- SYS_RSTCAUSE -/
  ⟨0x118, [], .none, 0, 0, 0, 0, 0, 0xffff, 0, 0⟩, /- SYS_RESET -/
  ⟨0x11c, [], .none, 0, 0x1, 0, 0, 0, 0, 0, 0⟩, /- SYS_CLKCFG -/
  ⟨0x120, [], .none, 0, 0, 0, 0, 0, 0, 0, 0⟩, /- SYS_CLKSTAT -/
  ⟨0x124, [], .none, 0, 0xff, 0, 0, 0, 0, 0, 0⟩, /- SYS_SAFECFG -/
  ⟨0x128, [], .none, 0, 0, 0x3f000, 0, 0, 0, 0, 0⟩, /- SYS_SAFESTAT -/
  ⟨0x12c, [], .none, 0, 0xfffff, 0, 0, 0, 0, 0, 0⟩, /- SYS_FBPLAN -/
  ⟨0x130, [], .none, 0xffffffff, 0, 0, 0, 0, 0, 0, 0xffffffff⟩, /- SYS_FBCYL -/
  ⟨0x134, [], .none, 0, 0, 0, 0, 0, 0, 0, 0⟩, /- SYS_FBSTAT -/
  ⟨0x138, [], .none, 0, 0xfff, 0, 0, 0, 0, 0, 0⟩, /- SYS_FBIDX -/
  ⟨0x13c, [], .none, 0, 0xffffffff, 0, 0, 0, 0, 0, 0⟩, /- SYS_FBDATA -/
  ⟨0x140, [], .none, 0, 0, 0, 0, 0x1, 0, 0, 0⟩ /- SYS_FBCTL -/]

/-- The rows of register page 1. -/
def regPage1 : List RegRow := [
  ⟨0x400, [], .none, 0, 0, 0, 0, 0x3f, 0, 0, 0⟩, /- SEC_SESS_CTRL -/
  ⟨0x404, [], .none, 0, 0, 0, 0, 0, 0, 0, 0⟩, /- SEC_SESS_STAT -/
  ⟨0x408, [], .none, 0, 0xfff, 0, 0, 0, 0, 0, 0⟩, /- SEC_SESSCFG -/
  ⟨0x410, [(4, 4)], .none, 0, 0, 0, 0, 0, 0, 0, 0⟩, /- SEC_CHAL -/
  ⟨0x420, [(4, 4)], .none, 0, 0, 0, 0, 0xffffffff, 0, 0, 0⟩, /- SEC_RESP -/
  ⟨0x430, [(4, 4)], .none, 0, 0, 0, 0, 0xffffffff, 0, 0, 0⟩, /- SEC_KEY -/
  ⟨0x440, [], .none, 0, 0, 0, 0, 0, 0, 0, 0⟩, /- SEC_KSTAT -/
  ⟨0x444, [], .none, 0, 0, 0, 0, 0, 0, 0x3, 0⟩, /- SEC_KPROV -/
  ⟨0x450, [], .none, 0, 0, 0, 0, 0x3, 0, 0, 0⟩, /- SEC_COMMIT -/
  ⟨0x454, [], .none, 0, 0, 0, 0, 0, 0, 0, 0⟩, /- SEC_CMT_STAT -/
  ⟨0x458, [], .none, 0, 0, 0, 0, 0, 0, 0, 0⟩, /- SEC_CMT_RES -/
  ⟨0x45c, [], .none, 0, 0, 0, 0, 0, 0, 0, 0⟩, /- SEC_CMT_OWN -/
  ⟨0x460, [], .none, 0, 0, 0, 0, 0, 0, 0, 0⟩, /- SEC_CMT_TIME -/
  ⟨0x464, [], .none, 0, 0, 0, 0, 0, 0, 0, 0⟩, /- SEC_STAT -/
  ⟨0x470, [], .none, 0, 0, 0, 0xffffffff, 0, 0, 0, 0⟩, /- SEC_ROLE_DENY -/
  ⟨0x474, [], .none, 0, 0, 0, 0xffffffff, 0, 0, 0, 0⟩, /- SEC_AUTH_FAIL_CNT -/
  ⟨0x478, [], .none, 0, 0, 0, 0xffffffff, 0, 0, 0, 0⟩, /- SEC_CMT_FAIL_CNT -/
  ⟨0x47c, [], .none, 0, 0, 0, 0xffffffff, 0, 0, 0, 0⟩, /- SEC_JLOST_CNT -/
  ⟨0x480, [], .none, 0, 0, 0, 0, 0, 0, 0, 0⟩, /- SEC_JSTAT -/
  ⟨0x484, [], .none, 0, 0, 0, 0, 0, 0, 0, 0⟩, /- SEC_JOLDOP -/
  ⟨0x490, [], .none, 0xffff, 0, 0, 0, 0, 0, 0, 0⟩, /- SEC_JIDX -/
  ⟨0x494, [], .none, 0, 0, 0, 0, 0, 0, 0, 0⟩, /- SEC_JDATA -/
  ⟨0x4a0, [], .none, 0, 0, 0, 0, 0, 0, 0x3, 0⟩, /- SEC_JCTRL -/
  ⟨0x4a4, [(4, 4)], .none, 0, 0, 0, 0, 0, 0, 0, 0⟩, /- SEC_JSEAL -/
  ⟨0x4b4, [], .none, 0, 0, 0, 0, 0, 0, 0, 0⟩ /- SEC_JSEALCNT -/]

/-- The rows of register page 2. -/
def regPage2 : List RegRow := [
  ⟨0x800, [], .none, 0, 0x7, 0, 0, 0, 0, 0, 0⟩, /- HIF_CFG -/
  ⟨0x804, [], .none, 0, 0, 0, 0, 0, 0, 0, 0⟩, /- HIF_LINK -/
  ⟨0x808, [], .none, 0, 0x3ff, 0, 0, 0, 0, 0, 0⟩, /- HIF_SILENCE -/
  ⟨0x80c, [], .none, 0, 0, 0, 0, 0xffffffff, 0, 0, 0⟩, /- HIF_HEARTBEAT -/
  ⟨0x810, [], .none, 0, 0, 0, 0xffffffff, 0, 0, 0, 0⟩, /- HIF_LINKDN_CNT -/
  ⟨0x814, [], .none, 0, 0, 0, 0xffffffff, 0, 0, 0, 0⟩, /- HIF_BADACC_CNT -/
  ⟨0x818, [], .none, 0, 0, 0x80000000, 0, 0, 0, 0, 0⟩, /- HIF_DMAERR -/
  ⟨0x81c, [], .none, 0, 0, 0, 0xffffffff, 0, 0, 0, 0⟩, /- HIF_SPI_CRC_CNT -/
  ⟨0x900, [], .none, 0x1, 0, 0, 0, 0, 0, 0, 0⟩, /- HIF_RCTRL -/
  ⟨0x904, [], .none, 0, 0x7, 0, 0, 0, 0, 0, 0⟩, /- HIF_FBCFG -/
  ⟨0x908, [], .none, 0x3fff00ff, 0, 0, 0, 0, 0, 0, 0⟩, /- HIF_SWEEP -/
  ⟨0x90c, [], .none, 0xf, 0, 0, 0, 0, 0, 0, 0⟩, /- HIF_TRACE -/
  ⟨0x910, [], .none, 0xffffffc0, 0, 0, 0, 0, 0, 0, 0⟩, /- HIF_DBADDR_LO -/
  ⟨0x914, [], .none, 0xffffffff, 0, 0, 0, 0, 0, 0, 0⟩, /- HIF_DBADDR_HI -/
  ⟨0x918, [], .none, 0xffffffc0, 0, 0, 0, 0, 0, 0, 0⟩, /- HIF_STADDR_LO -/
  ⟨0x91c, [], .none, 0xffffffff, 0, 0, 0, 0, 0, 0, 0⟩, /- HIF_STADDR_HI -/
  ⟨0x920, [], .none, 0, 0, 0, 0, 0, 0, 0, 0⟩, /- HIF_OBSTAT -/
  ⟨0x924, [], .none, 0, 0, 0, 0x1ff, 0, 0, 0, 0⟩, /- HIF_ALM_HIGH -/
  ⟨0x928, [], .none, 0, 0, 0, 0xffffffff, 0, 0, 0, 0⟩, /- HIF_TQLOST_CNT -/
  ⟨0x92c, [], .none, 0, 0, 0, 0xffffffff, 0, 0, 0, 0⟩, /- HIF_XQLOST_CNT -/
  ⟨0x930, [], .none, 0, 0, 0, 0xffffffff, 0, 0, 0, 0⟩, /- HIF_REPEAT_CNT -/
  ⟨0x980, [(19, 16)], .none, 0xffffffc0, 0, 0, 0, 0, 0, 0, 0⟩, /- HIF_RBASELO -/
  ⟨0x984, [(19, 16)], .none, 0xffffffff, 0, 0, 0, 0, 0, 0, 0⟩, /- HIF_RBASEHI -/
  ⟨0x988, [(19, 16)], .none, 0xffff037f, 0, 0, 0, 0, 0, 0, 0⟩, /- HIF_RCFG -/
  ⟨0x98c, [(19, 16)], .none, 0, 0, 0, 0, 0, 0, 0, 0⟩, /- HIF_RSTAT -/
  ⟨0xb00, [(64, 4)], .none, 0, 0, 0, 0xffffffff, 0, 0, 0, 0⟩ /- HIF_ALMCNT -/]

/-- The rows of register page 3. -/
def regPage3 : List RegRow := [
  ⟨0xc00, [], .none, 0, 0x7, 0, 0, 0, 0x8, 0, 0⟩, /- WHL_CTRL -/
  ⟨0xc04, [], .none, 0, 0x37f, 0, 0, 0, 0, 0, 0⟩, /- WHL_TEETH -/
  ⟨0xc08, [], .none, 0, 0x3fffff, 0, 0, 0, 0, 0, 0⟩, /- WHL_TOOTH0 -/
  ⟨0xc0c, [], .none, 0, 0xffff7f, 0, 0, 0, 0, 0, 0⟩, /- WHL_FE -/
  ⟨0xc10, [], .none, 0, 0x7ff, 0, 0, 0, 0, 0, 0⟩, /- WHL_MINW -/
  ⟨0xc14, [], .none, 0, 0x37fff, 0, 0, 0, 0, 0, 0⟩, /- WHL_SYNCCFG -/
  ⟨0xc18, [], .none, 0, 0xfff, 0, 0, 0, 0, 0, 0⟩, /- WHL_STALL -/
  ⟨0xc20, [], .none, 0, 0xffffffff, 0, 0, 0, 0, 0, 0⟩, /- WHL_RUN_TW -/
  ⟨0xc24, [], .none, 0, 0xffff, 0, 0, 0, 0, 0, 0⟩, /- WHL_RUN_PROV -/
  ⟨0xc28, [], .none, 0, 0xffffffff, 0, 0, 0, 0, 0, 0⟩, /- WHL_RUN_GAP1 -/
  ⟨0xc2c, [], .none, 0, 0xffffffff, 0, 0, 0, 0, 0, 0⟩, /- WHL_RUN_GAP2 -/
  ⟨0xc30, [], .none, 0, 0xffffffff, 0, 0, 0, 0, 0, 0⟩, /- WHL_CRK_TW -/
  ⟨0xc34, [], .none, 0, 0xffff, 0, 0, 0, 0, 0, 0⟩, /- WHL_CRK_PROV -/
  ⟨0xc38, [], .none, 0, 0xffffffff, 0, 0, 0, 0, 0, 0⟩, /- WHL_CRK_GAP1 -/
  ⟨0xc3c, [], .none, 0, 0xffffffff, 0, 0, 0, 0, 0, 0⟩, /- WHL_CRK_GAP2 -/
  ⟨0xc40, [], .none, 0, 0xffffffff, 0, 0, 0, 0, 0, 0⟩, /- WHL_MISS -/
  ⟨0xc44, [], .none, 0, 0xffffffff, 0, 0, 0, 0, 0, 0⟩, /- WHL_SETTLE -/
  ⟨0xc48, [], .none, 0, 0xffffffff, 0, 0, 0, 0, 0, 0⟩, /- WHL_RATE_BAND -/
  ⟨0xc50, [(4, 4)], .none, 0, 0x77fff, 0, 0, 0, 0, 0, 0⟩, /- WHL_CAMCFG -/
  ⟨0xc60, [], .none, 0, 0x33f, 0, 0, 0, 0, 0, 0⟩, /- WHL_CAMREF -/
  ⟨0xc64, [], .none, 0, 0x3fffff, 0, 0, 0, 0, 0, 0⟩, /- WHL_CAMWIN_LO -/
  ⟨0xc68, [], .none, 0, 0x3fffff, 0, 0, 0, 0, 0, 0⟩, /- WHL_CAMWIN_HI -/
  ⟨0xc80, [], .none, 0, 0, 0, 0, 0, 0, 0, 0⟩, /- WHL_STAT -/
  ⟨0xc90, [], .none, 0, 0, 0, 0xffff, 0, 0, 0, 0⟩, /- WHL_GLITCH_CNT -/
  ⟨0xc94, [], .none, 0, 0, 0, 0xffff, 0, 0, 0, 0⟩, /- WHL_REJ_CNT -/
  ⟨0xc98, [], .none, 0, 0, 0, 0xffff, 0, 0, 0, 0⟩, /- WHL_NOISE_CNT -/
  ⟨0xc9c, [], .none, 0, 0, 0, 0xffff, 0, 0, 0, 0⟩, /- WHL_MISS_CNT -/
  ⟨0xca0, [], .none, 0, 0, 0, 0xffff, 0, 0, 0, 0⟩, /- WHL_BAD_CNT -/
  ⟨0xca4, [], .none, 0, 0, 0, 0xffff, 0, 0, 0, 0⟩, /- WHL_GAPERR_CNT -/
  ⟨0xca8, [], .none, 0, 0, 0, 0xffff, 0, 0, 0, 0⟩, /- WHL_CAM_ERR_CNT -/
  ⟨0xcac, [], .none, 0, 0, 0, 0xffff, 0, 0, 0, 0⟩, /- WHL_COARSE_CNT -/
  ⟨0xcb0, [], .none, 0, 0, 0, 0, 0, 0, 0, 0⟩, /- WHL_STAMP_LO -/
  ⟨0xcb4, [], .none, 0, 0, 0, 0, 0, 0, 0, 0⟩, /- WHL_STAMP_HI -/
  ⟨0xcb8, [], .none, 0, 0, 0, 0, 0, 0, 0, 0⟩, /- WHL_COARSE_STAMP -/
  ⟨0xd00, [(4, 64), (8, 8)], .none, 0, 0, 0, 0, 0, 0, 0, 0⟩, /- WHL_CAM_ANG -/
  ⟨0xd04, [(4, 64), (8, 8)], .none, 0, 0, 0, 0, 0, 0, 0, 0⟩, /- WHL_CAM_TIM -/
  ⟨0xe00, [], .none, 0x4, 0xc3, 0, 0, 0x8, 0x30, 0, 0⟩, /- WHL_ACLK_CTRL -/
  ⟨0xe04, [], .none, 0xf, 0, 0, 0, 0, 0, 0, 0⟩, /- WHL_ACLK_CFG -/
  ⟨0xe08, [], .none, 0, 0xffffffff, 0, 0, 0, 0, 0, 0⟩, /- WHL_ACLK_QLIM -/
  ⟨0xe0c, [], .none, 0, 0xff, 0, 0, 0, 0, 0, 0⟩, /- WHL_STEADY -/
  ⟨0xe10, [], .none, 0, 0, 0xe0, 0, 0, 0, 0, 0⟩, /- WHL_ACLK_STAT -/
  ⟨0xe14, [], .none, 0, 0, 0, 0, 0, 0, 0, 0⟩, /- WHL_ANGLE -/
  ⟨0xe18, [], .none, 0, 0, 0, 0, 0, 0, 0, 0⟩, /- WHL_ANGLE_TLO -/
  ⟨0xe1c, [], .none, 0, 0, 0, 0, 0, 0, 0, 0⟩, /- WHL_ANGLE_THI -/
  ⟨0xe20, [], .none, 0, 0, 0, 0, 0, 0, 0, 0⟩, /- WHL_RATE -/
  ⟨0xe24, [], .none, 0, 0, 0, 0, 0, 0, 0, 0⟩, /- WHL_PRED -/
  ⟨0xe28, [], .none, 0, 0, 0, 0, 0, 0, 0, 0⟩, /- WHL_U1 -/
  ⟨0xe2c, [], .none, 0, 0, 0, 0, 0, 0, 0, 0⟩, /- WHL_U2 -/
  ⟨0xe30, [], .none, 0, 0, 0, 0, 0, 0, 0, 0⟩, /- WHL_REVTIME -/
  ⟨0xe34, [], .none, 0, 0, 0, 0, 0, 0, 0, 0⟩, /- WHL_ERR_LAST -/
  ⟨0xe38, [], .none, 0, 0, 0, 0, 0, 0, 0, 0⟩, /- WHL_ERR_MIN -/
  ⟨0xe3c, [], .none, 0, 0, 0, 0, 0, 0, 0, 0⟩, /- WHL_ERR_MAX -/
  ⟨0xe40, [], .none, 0, 0x1ff, 0, 0, 0, 0, 0, 0⟩, /- WHL_ERR_ROUTE -/
  ⟨0xe44, [], .none, 0, 0, 0, 0xffff, 0, 0, 0, 0⟩, /- WHL_CLAMP_CNT -/
  ⟨0xe48, [], .none, 0, 0, 0, 0xffffffff, 0, 0, 0, 0⟩, /- WHL_CLAMP_TIME -/
  ⟨0xe4c, [], .none, 0, 0, 0, 0xffff, 0, 0, 0, 0⟩, /- WHL_RETREAT_CNT -/
  ⟨0xe50, [], .none, 0, 0, 0, 0, 0, 0, 0, 0⟩, /- WHL_LEARN_CNT -/
  ⟨0xe54, [], .none, 0, 0x1ff, 0, 0, 0, 0, 0, 0⟩, /- WHL_TERR_IDX -/
  ⟨0xe58, [], .none, 0, 0xffff, 0, 0, 0, 0, 0, 0⟩ /- WHL_TERR_DATA -/]

/-- The rows of register page 4. -/
def regPage4 : List RegRow := [
  ⟨0x1000, [], .none, 0, 0x1, 0, 0, 0, 0, 0, 0⟩, /- SCH_CTRL -/
  ⟨0x1004, [], .none, 0, 0, 0, 0, 0, 0, 0, 0⟩, /- SCH_STAT -/
  ⟨0x1008, [], .none, 0, 0xffff03ff, 0, 0, 0, 0, 0, 0⟩, /- SCH_HORIZON -/
  ⟨0x100c, [], .none, 0, 0xffff03ff, 0, 0, 0, 0, 0, 0⟩, /- SCH_WAKE_LEAD -/
  ⟨0x1010, [], .none, 0, 0x3fff, 0, 0, 0, 0, 0, 0⟩, /- SCH_STORE_RES -/
  ⟨0x1014, [], .none, 0, 0, 0, 0, 0, 0, 0, 0⟩, /- SCH_FREE -/
  ⟨0x1018, [], .none, 0, 0, 0, 0x7fff, 0, 0, 0, 0⟩, /- SCH_FREE_LOW -/
  ⟨0x1020, [], .none, 0, 0, 0, 0xffffffff, 0, 0, 0, 0⟩, /- SCH_ADMIT_CNT -/
  ⟨0x1024, [], .none, 0, 0, 0, 0xffffffff, 0, 0, 0, 0⟩, /- SCH_REJ_CNT -/
  ⟨0x1028, [], .none, 0, 0, 0, 0xffffffff, 0, 0, 0, 0⟩, /- SCH_STALL_TIME -/
  ⟨0x1100, [(96, 4)], .channel, 0, 0x3ff77, 0, 0, 0, 0, 0, 0⟩, /- SCH_CHCFG -/
  ⟨0x1280, [(96, 4)], .channel, 0, 0, 0, 0, 0, 0, 0, 0⟩ /- SCH_QSTAT -/]

/-- The rows of register page 5. -/
def regPage5 : List RegRow := [
  ⟨0x1400, [], .none, 0, 0x3ff, 0, 0, 0, 0, 0, 0⟩, /- SCH_OVL -/
  ⟨0x1410, [], .none, 0, 0, 0, 0xffffffff, 0, 0, 0, 0⟩, /- SCH_LATE_CNT -/
  ⟨0x1414, [], .none, 0, 0, 0, 0xffffffff, 0, 0, 0, 0⟩, /- SCH_STALE_CNT -/
  ⟨0x1418, [], .none, 0, 0, 0, 0xffffffff, 0, 0, 0, 0⟩, /- SCH_SHIFT_CNT -/
  ⟨0x141c, [], .none, 0, 0, 0, 0xffffffff, 0, 0, 0, 0⟩, /- SCH_OVLTO_CNT -/
  ⟨0x1420, [], .none, 0, 0, 0, 0xffffffff, 0, 0, 0, 0⟩, /- SCH_MERGE_CNT -/
  ⟨0x1424, [], .none, 0, 0, 0, 0xffffffff, 0, 0, 0, 0⟩, /- SCH_TRUNC_CNT -/
  ⟨0x1428, [], .none, 0, 0, 0, 0xffffffff, 0, 0, 0, 0⟩, /- SCH_DUTY_CNT -/
  ⟨0x1500, [(96, 4)], .channel, 0, 0xfffffff, 0, 0, 0, 0, 0, 0⟩, /- SCH_POL -/
  ⟨0x1680, [(96, 4)], .channel, 0, 0xffff3fff, 0, 0, 0, 0, 0, 0⟩ /- SCH_LIM -/]

/-- The rows of register page 6. -/
def regPage6 : List RegRow := [
  ⟨0x1800, [(96, 4)], .channel, 0, 0, 0, 0, 0, 0, 0, 0⟩, /- SCH_LSTAT -/
  ⟨0x1980, [(24, 4)], .bank, 0, 0xff3fff, 0, 0, 0, 0, 0, 0⟩, /- SCH_BKDUTY -/
  ⟨0x19e0, [(24, 4)], .bank, 0, 0, 0, 0, 0, 0, 0, 0⟩ /- SCH_BKSTAT -/]

/-- The rows of register page 8. -/
def regPage8 : List RegRow := [
  ⟨0x2000, [], .none, 0, 0x3ff, 0, 0, 0, 0, 0, 0⟩, /- REED_CFG -/
  ⟨0x2010, [(4, 4)], .quad, 0, 0, 0, 0, 0, 0, 0, 0⟩, /- REED_PSTAT -/
  ⟨0x2020, [], .none, 0, 0, 0, 0, 0, 0, 0, 0⟩, /- REED_VERIFY -/
  ⟨0x2024, [], .none, 0, 0, 0, 0xfff3ffff, 0, 0, 0, 0⟩, /- REED_FAULT -/
  ⟨0x2028, [], .none, 0, 0, 0, 0xffffffff, 0, 0, 0, 0⟩, /- REED_FAULT_CNT -/
  ⟨0x202c, [], .none, 0, 0, 0, 0xffffffff, 0, 0, 0, 0⟩, /- REED_SAMPLE_ERR_CNT -/
  ⟨0x2030, [], .none, 0, 0, 0, 0xffffffff, 0, 0, 0, 0⟩, /- REED_REFUSED_CNT -/
  ⟨0x2040, [(24, 4)], .bank, 0, 0, 0, 0, 0, 0, 0, 0⟩, /- REED_TOKEN_STAT -/
  ⟨0x20a0, [(24, 4)], .bank, 0, 0, 0, 0, 0, 0, 0, 0⟩, /- REED_THR -/
  ⟨0x2400, [(4, 256), (64, 4)], .quad, 0, 0xf3fff, 0, 0, 0, 0, 0, 0⟩, /- REED_PDIR -/
  ⟨0x2800, [(4, 512), (64, 8)], .quad, 0, 0xffffffff, 0, 0, 0, 0, 0, 0⟩, /- REED_PDEFA -/
  ⟨0x2804, [(4, 512), (64, 8)], .quad, 0, 0xffffffff, 0, 0, 0, 0, 0, 0⟩ /- REED_PDEFB -/]

/-- The rows of register page 9. -/
def regPage9 : List RegRow := [
  ⟨0x3000, [(3, 4)], .none, 0, 0, 0, 0, 0, 0, 0, 0⟩, /- DRV_OCLATCH -/
  ⟨0x300c, [], .none, 0, 0, 0, 0, 0, 0, 0, 0⟩, /- DRV_BKLATCH -/
  ⟨0x3010, [], .none, 0, 0, 0, 0xffffffff, 0, 0, 0, 0⟩, /- DRV_OC_CNT -/
  ⟨0x3014, [], .none, 0, 0, 0, 0xffffffff, 0, 0, 0, 0⟩, /- DRV_BKOC_CNT -/
  ⟨0x3018, [], .none, 0, 0, 0, 0xffffffff, 0, 0, 0, 0⟩, /- DRV_NOKINK_CNT -/
  ⟨0x301c, [], .none, 0, 0, 0, 0xffffffff, 0, 0, 0, 0⟩, /- DRV_CLOSE_BUSY_CNT -/
  ⟨0x3020, [], .none, 0, 0, 0, 0xffffffff, 0, 0, 0, 0⟩, /- DRV_REOPEN_CNT -/
  ⟨0x3024, [], .none, 0, 0, 0, 0xffffffff, 0, 0, 0, 0⟩, /- DRV_BST_OV_CNT -/
  ⟨0x3040, [(4, 16)], .boost, 0, 0x1fffff, 0, 0, 0, 0, 0, 0⟩, /- DRV_BSTCFG -/
  ⟨0x3044, [(4, 16)], .boost, 0, 0xffffffff, 0, 0, 0, 0, 0, 0⟩, /- DRV_BSTTIM -/
  ⟨0x3048, [(4, 16)], .boost, 0, 0, 0, 0, 0, 0, 0, 0⟩, /- DRV_BSTSTAT -/
  ⟨0x304c, [(4, 16)], .boost, 0, 0, 0, 0xffffffff, 0, 0, 0, 0⟩, /- DRV_BSTPULSE -/
  ⟨0x3080, [(4, 4)], .boost, 0, 0, 0, 0xffffffff, 0, 0, 0, 0⟩, /- DRV_BSTEIN -/
  ⟨0x3090, [(24, 4)], .bank, 0, 0xffff, 0, 0, 0, 0, 0, 0⟩, /- DRV_BKTRIM -/
  ⟨0x3100, [(24, 4)], .bank, 0, 0xffffff0f, 0, 0, 0, 0, 0, 0⟩, /- DRV_BKCFG -/
  ⟨0x3160, [(24, 4)], .bank, 0, 0xf3f7f, 0, 0, 0, 0, 0, 0⟩, /- DRV_BKCFGB -/
  ⟨0x3200, [(96, 4)], .channel, 0xff0000, 0x1f007fff, 0, 0, 0, 0, 0, 0xff0000⟩, /- DRV_CHCFG -/
  ⟨0x3380, [(96, 4)], .channel, 0, 0xfff0fff, 0, 0, 0, 0, 0, 0⟩ /- DRV_KWIN -/]

/-- The rows of register page 10. -/
def regPage10 : List RegRow := [
  ⟨0x3500, [(96, 4)], .channel, 0, 0xfffffff, 0, 0, 0, 0, 0, 0⟩, /- DRV_KDET -/
  ⟨0x3680, [(96, 4)], .channel, 0xffff, 0, 0, 0, 0, 0, 0, 0⟩ /- DRV_TRIM -/]

/-- The rows of register page 11. -/
def regPage11 : List RegRow := [
  ⟨0x3800, [], .none, 0x8, 0x7, 0, 0, 0, 0, 0, 0⟩, /- INK_CTRL -/
  ⟨0x3804, [], .none, 0, 0, 0, 0, 0, 0, 0, 0⟩, /- INK_STAT -/
  ⟨0x3808, [], .none, 0, 0, 0, 0xffffffff, 0, 0, 0, 0⟩, /- INK_FORCE_CNT -/
  ⟨0x380c, [], .none, 0, 0, 0, 0xffffffff, 0, 0, 0, 0⟩, /- INK_DENY_CNT -/
  ⟨0x3810, [], .none, 0, 0, 0, 0xffffffff, 0, 0, 0, 0⟩, /- INK_SHIFT_CNT -/
  ⟨0x3814, [], .none, 0, 0, 0, 0xffffffff, 0, 0, 0, 0⟩, /- INK_SUBST_CNT -/
  ⟨0x3818, [], .none, 0, 0, 0, 0xffffffff, 0, 0, 0, 0⟩, /- INK_RESV_FULL_CNT -/
  ⟨0x381c, [], .none, 0, 0, 0, 0, 0, 0, 0, 0⟩, /- INK_RESV_USED -/
  ⟨0x3840, [(4, 16)], .quad, 0, 0x1fffffff, 0, 0, 0, 0, 0, 0⟩, /- INK_BSTCFG -/
  ⟨0x3844, [(4, 16)], .quad, 0, 0, 0, 0, 0, 0, 0, 0⟩, /- INK_BSTBAL -/
  ⟨0x3848, [(4, 16)], .quad, 0, 0, 0, 0, 0, 0, 0, 0⟩, /- INK_BSTRATE -/
  ⟨0x384c, [(4, 16)], .quad, 0, 0, 0, 0xffffffff, 0, 0, 0, 0⟩, /- INK_BSTDRIFT -/
  ⟨0x3880, [(8, 16)], .grd, 0, 0x7ff, 0, 0, 0, 0, 0, 0⟩, /- INK_RAILCFG -/
  ⟨0x3884, [(8, 16)], .grd, 0, 0xffffffff, 0, 0, 0, 0, 0, 0⟩, /- INK_RALLOW -/
  ⟨0x3888, [(8, 16)], .grd, 0, 0, 0, 0, 0, 0, 0, 0⟩, /- INK_RAILBAL -/
  ⟨0x388c, [(8, 16)], .grd, 0, 0xffffffff, 0, 0, 0, 0, 0, 0⟩, /- INK_RDENY -/
  ⟨0x3900, [], .none, 0, 0x7ff, 0, 0, 0, 0, 0, 0⟩, /- INK_DEVCFG -/
  ⟨0x3904, [], .none, 0, 0xffffffff, 0, 0, 0, 0, 0, 0⟩, /- INK_DEVALLOW -/
  ⟨0x3908, [], .none, 0, 0, 0, 0, 0, 0, 0, 0⟩, /- INK_DEVBAL -/
  ⟨0x3910, [(3, 4)], .none, 0, 0xffffffff, 0, 0, 0, 0, 0, 0⟩, /- INK_BKRAIL -/
  ⟨0x3920, [(7, 8)], .none, 0, 0xff0f, 0, 0, 0, 0, 0, 0⟩, /- INK_CLASS -/
  ⟨0x3924, [(7, 8)], .none, 0, 0xffffffff, 0, 0, 0, 0, 0, 0⟩, /- INK_CRES -/
  ⟨0x3960, [], .none, 0, 0x3ff, 0, 0, 0, 0, 0, 0⟩, /- INK_PTAB_IDX -/
  ⟨0x3964, [], .none, 0, 0xffffffff, 0, 0, 0, 0, 0, 0⟩ /- INK_PTAB_DATA -/]

/-- The rows of register page 12. -/
def regPage12 : List RegRow := [
  ⟨0x3c00, [(8, 112)], .grd, 0, 0xffff, 0, 0, 0, 0, 0, 0⟩, /- GRD_CFG -/
  ⟨0x3c04, [(8, 112)], .grd, 0, 0xffff03ff, 0, 0, 0, 0, 0, 0⟩, /- GRD_SENSE -/
  ⟨0x3c08, [(8, 112)], .grd, 0, 0x3fffffff, 0, 0, 0, 0, 0, 0⟩, /- GRD_RAMP -/
  ⟨0x3c0c, [(8, 112)], .grd, 0, 0xffffff, 0, 0, 0, 0, 0, 0⟩, /- GRD_SOA -/
  ⟨0x3c10, [(8, 112)], .grd, 0, 0x3fffffff, 0, 0, 0, 0, 0, 0⟩, /- GRD_VLIM -/
  ⟨0x3c14, [(8, 112)], .grd, 0, 0xffffffff, 0, 0, 0, 0, 0, 0⟩, /- GRD_I2T -/
  ⟨0x3c18, [(8, 112)], .grd, 0, 0xffffffdf, 0, 0, 0, 0, 0, 0⟩, /- GRD_RETRY -/
  ⟨0x3c1c, [(8, 112)], .grd, 0, 0xffff01ff, 0, 0, 0, 0, 0, 0⟩, /- GRD_PRSN -/
  ⟨0x3c20, [(8, 112), (8, 4)], .grd, 0, 0xffff3f, 0, 0, 0, 0, 0, 0⟩, /- GRD_RULE -/
  ⟨0x3c40, [(8, 112)], .grd, 0, 0, 0, 0, 0, 0, 0, 0⟩, /- GRD_STAT -/
  ⟨0x3c44, [(8, 112)], .grd, 0, 0, 0, 0, 0, 0, 0, 0⟩, /- GRD_VMEAS -/
  ⟨0x3c48, [(8, 112)], .grd, 0, 0, 0, 0, 0, 0, 0, 0⟩, /- GRD_IMEAS -/
  ⟨0x3c4c, [(8, 112)], .grd, 0, 0, 0, 0, 0, 0, 0, 0⟩, /- GRD_ELO -/
  ⟨0x3c50, [(8, 112)], .grd, 0, 0, 0, 0, 0, 0, 0, 0⟩, /- GRD_EHI -/
  ⟨0x3c54, [(8, 112)], .grd, 0, 0, 0, 0, 0, 0, 0, 0⟩, /- GRD_SOAACC -/
  ⟨0x3c58, [(8, 112)], .grd, 0, 0, 0, 0, 0, 0, 0, 0⟩, /- GRD_I2TACC -/
  ⟨0x3c5c, [(8, 112)], .grd, 0, 0, 0, 0xffff, 0, 0, 0, 0⟩, /- GRD_TRIP_CNT -/
  ⟨0x3c60, [(8, 112)], .grd, 0, 0xffffffff, 0, 0, 0, 0, 0, 0⟩, /- GRD_BAND -/
  ⟨0x3c64, [(8, 112)], .grd, 0, 0, 0, 0, 0x7, 0, 0, 0⟩, /- GRD_CTRL -/
  ⟨0x3c68, [(8, 112)], .grd, 0, 0, 0, 0x800001ff, 0, 0, 0, 0⟩, /- GRD_LAST -/
  ⟨0x3c6c, [(8, 112)], .grd, 0, 0, 0, 0, 0, 0, 0, 0⟩, /- GRD_LIVE -/
  ⟨0x3f80, [], .none, 0, 0, 0, 0, 0, 0, 0, 0⟩ /- GRD_SUM -/]

/-- The rows of register page 13. -/
def regPage13 : List RegRow := [
  ⟨0x4000, [], .none, 0, 0x3f, 0, 0, 0x3f00, 0, 0, 0⟩, /- ADC_CTRL -/
  ⟨0x4004, [], .none, 0, 0, 0, 0, 0, 0, 0, 0⟩, /- ADC_CALSTAT -/
  ⟨0x4008, [], .none, 0, 0, 0, 0, 0xffff, 0, 0, 0⟩, /- ADC_MOVE -/
  ⟨0x400c, [], .none, 0, 0, 0, 0, 0, 0, 0, 0⟩, /- ADC_MOVE_STAT -/
  ⟨0x4010, [], .none, 0, 0x1ff1f, 0, 0, 0, 0, 0, 0⟩, /- ADC_VIGIL -/
  ⟨0x4014, [], .none, 0, 0, 0, 0xffffffff, 0, 0, 0, 0⟩, /- ADC_URG_DROP_CNT -/
  ⟨0x4020, [(8, 4)], .none, 0, 0xbfffffff, 0, 0, 0, 0, 0, 0⟩, /- ADC_ATRIG -/
  ⟨0x4040, [(6, 32), (5, 4)], .conv, 0, 0xffffffff, 0, 0, 0, 0, 0, 0⟩, /- ADC_CAL -/
  ⟨0x4100, [(6, 256), (32, 8)], .conv, 0, 0xbffff7ff, 0, 0, 0, 0, 0, 0⟩, /- ADC_SEQA -/
  ⟨0x4104, [(6, 256), (32, 8)], .conv, 0, 0x3ff0fff, 0, 0, 0, 0, 0, 0⟩ /- ADC_SEQB -/]

/-- The rows of register page 14. -/
def regPage14 : List RegRow := [
  ⟨0x4700, [(6, 4)], .conv, 0, 0, 0, 0, 0, 0, 0, 0⟩ /- ADC_STAT -/]

/-- The rows of register page 15. -/
def regPage15 : List RegRow := [
  ⟨0x4800, [], .none, 0xfff, 0, 0, 0, 0, 0, 0, 0⟩, /- ACC_IDX -/
  ⟨0x4804, [], .none, 0, 0xffffffff, 0, 0, 0, 0, 0, 0⟩ /- ACC_DATA -/]

/-- The rows of register page 17. -/
def regPage17 : List RegRow := [
  ⟨0x5000, [], .none, 0, 0, 0xffffff, 0, 0, 0, 0, 0⟩, /- CMP_PKLAT -/
  ⟨0x5004, [], .none, 0, 0, 0xffffff, 0, 0, 0, 0, 0⟩, /- CMP_HDLAT -/
  ⟨0x5008, [(3, 4)], .none, 0, 0, 0xffffffff, 0, 0, 0, 0, 0⟩, /- CMP_VDSLAT -/
  ⟨0x5014, [], .none, 0, 0, 0xffffff, 0, 0, 0, 0, 0⟩, /- CMP_HVLAT -/
  ⟨0x5018, [], .none, 0, 0, 0xffffff, 0, 0, 0, 0, 0⟩, /- CMP_HBLAT -/
  ⟨0x501c, [], .none, 0, 0, 0xffff, 0, 0, 0, 0, 0⟩, /- CMP_GLAT -/
  ⟨0x5020, [], .none, 0, 0, 0, 0, 0, 0, 0, 0⟩, /- CMP_UNSET -/
  ⟨0x5030, [], .none, 0, 0xffffff, 0, 0, 0, 0, 0, 0⟩, /- CMP_HYSGFT -/
  ⟨0x5034, [], .none, 0, 0xffffff, 0, 0, 0, 0, 0, 0⟩, /- CMP_HYSGREV -/
  ⟨0x5040, [(24, 4)], .bank, 0, 0x3f, 0, 0, 0, 0, 0, 0⟩, /- CMP_HYSB -/
  ⟨0x5100, [(8, 16)], .wmon, 0, 0x7fff, 0, 0, 0, 0, 0, 0⟩, /- CMP_WMCFG -/
  ⟨0x5104, [(8, 16)], .wmon, 0, 0xfff0fff, 0, 0, 0, 0, 0, 0⟩, /- CMP_WMLIM -/
  ⟨0x5108, [(8, 16)], .wmon, 0, 0, 0x30, 0, 0, 0, 0, 0⟩ /- CMP_WMSTAT -/]

/-- The rows of register page 18. -/
def regPage18 : List RegRow := [
  ⟨0x5400, [(16, 48)], .none, 0, 0x1fff, 0, 0, 0, 0, 0, 0⟩, /- TMR_CFG -/
  ⟨0x5404, [(16, 48)], .none, 0, 0x3ffff, 0, 0, 0, 0, 0, 0⟩, /- TMR_ACT -/
  ⟨0x5408, [(16, 48)], .none, 0, 0x3ffff, 0, 0, 0, 0, 0, 0⟩, /- TMR_PIN -/
  ⟨0x540c, [(16, 48)], .none, 0xffffffff, 0, 0, 0, 0, 0, 0, 0xffffffff⟩, /- TMR_RELOAD -/
  ⟨0x5410, [(16, 48)], .none, 0xffffffff, 0, 0, 0, 0, 0, 0, 0xffffffff⟩, /- TMR_CMP -/
  ⟨0x5414, [(16, 48)], .none, 0, 0, 0, 0, 0, 0, 0, 0⟩, /- TMR_CNT -/
  ⟨0x5418, [(16, 48)], .none, 0, 0, 0, 0, 0, 0, 0, 0⟩, /- TMR_CAPR -/
  ⟨0x541c, [(16, 48)], .none, 0, 0, 0, 0, 0, 0, 0, 0⟩, /- TMR_CAPF -/
  ⟨0x5420, [(16, 48)], .none, 0, 0, 0, 0, 0, 0, 0, 0⟩, /- TMR_WIDTH -/
  ⟨0x5424, [(16, 48)], .none, 0, 0, 0xf8, 0, 0, 0, 0, 0⟩, /- TMR_STAT -/
  ⟨0x5428, [(16, 48)], .none, 0, 0, 0, 0xffffffff, 0, 0, 0, 0⟩, /- TMR_MISSED -/
  ⟨0x542c, [(16, 48)], .none, 0, 0, 0, 0, 0, 0, 0, 0⟩, /- TMR_DEBT -/
  ⟨0x5700, [], .none, 0, 0, 0, 0, 0xffff, 0, 0, 0⟩, /- TMR_START -/
  ⟨0x5704, [], .none, 0, 0, 0, 0, 0xffff, 0, 0, 0⟩, /- TMR_STOP -/
  ⟨0x5708, [], .none, 0, 0x7f, 0, 0, 0, 0, 0, 0⟩ /- TMR_CATCHUP -/]

/-- The rows of register page 19. -/
def regPage19 : List RegRow := [
  ⟨0x5800, [(8, 64)], .nib, 0, 0xfffff, 0, 0, 0, 0, 0, 0⟩, /- NIB_CFG -/
  ⟨0x5804, [(8, 64)], .nib, 0, 0x7f7f7f7f, 0, 0, 0, 0, 0, 0⟩, /- NIB_IN -/
  ⟨0x5808, [(8, 64)], .nib, 0, 0xffffffff, 0, 0, 0, 0, 0, 0⟩, /- NIB_INKA -/
  ⟨0x580c, [(8, 64)], .nib, 0, 0xffffffff, 0, 0, 0, 0, 0, 0⟩, /- NIB_INKB -/
  ⟨0x5810, [(8, 64)], .nib, 0, 0xffffffff, 0, 0, 0, 0, 0, 0⟩, /- NIB_LIM -/
  ⟨0x5814, [(8, 64)], .nib, 0, 0x3f3f3f, 0, 0, 0, 0, 0, 0⟩, /- NIB_MARGIN -/
  ⟨0x5818, [(8, 64)], .nib, 0, 0x3f, 0, 0, 0, 0, 0, 0⟩, /- NIB_SIDX -/
  ⟨0x581c, [(8, 64)], .nib, 0, 0xffffffff, 0, 0, 0, 0, 0, 0⟩, /- NIB_SDATALO -/
  ⟨0x5820, [(8, 64)], .nib, 0, 0xffffffff, 0, 0, 0, 0, 0, 0⟩, /- NIB_SDATAHI -/
  ⟨0x5824, [(8, 64)], .nib, 0, 0, 0, 0, 0xf, 0, 0, 0⟩, /- NIB_CTRL -/
  ⟨0x5828, [(8, 64)], .nib, 0, 0, 0xc, 0, 0, 0, 0, 0⟩, /- NIB_STAT -/
  ⟨0x582c, [(8, 64)], .nib, 0, 0, 0, 0, 0, 0, 0, 0⟩, /- NIB_SR -/
  ⟨0x5830, [(8, 64)], .nib, 0, 0, 0, 0, 0, 0, 0, 0⟩, /- NIB_CNT -/
  ⟨0x5834, [(8, 64)], .nib, 0, 0, 0, 0, 0xffffffff, 0, 0, 0⟩, /- NIB_TX -/
  ⟨0x5838, [(8, 64)], .nib, 0, 0, 0, 0, 0, 0, 0, 0⟩ /- NIB_RX -/]

/-- The rows of register page 20. -/
def regPage20 : List RegRow := [
  ⟨0x5c00, [], .none, 0, 0, 0xffffffff, 0, 0, 0, 0, 0⟩, /- EVC_PEND_LO -/
  ⟨0x5c04, [], .none, 0, 0, 0xffffffff, 0, 0, 0, 0, 0⟩, /- EVC_PEND_HI -/
  ⟨0x5c08, [], .none, 0, 0, 0, 0xffffffff, 0, 0, 0, 0⟩, /- EVC_SPURIOUS -/
  ⟨0x5c0c, [], .none, 0, 0, 0, 0xffffffff, 0, 0, 0, 0⟩, /- EVC_ORDER_CNT -/
  ⟨0x5c10, [], .none, 0, 0, 0, 0xffffffff, 0, 0, 0, 0⟩, /- EVC_CMD_ERR_CNT -/
  ⟨0x5c14, [], .none, 0, 0, 0, 0, 0, 0, 0, 0⟩, /- EVC_EXTSTAT -/
  ⟨0x5c20, [(8, 4)], .none, 0, 0xffffffff, 0, 0, 0, 0, 0, 0⟩, /- EVC_ROUTE -/
  ⟨0x5c40, [(15, 4)], .none, 0xffff00ff, 0, 0, 0, 0, 0, 0, 0⟩, /- EVC_COAL -/
  ⟨0x5c7c, [], .none, 0, 0, 0, 0, 0, 0, 0, 0⟩, /- EVC_COAL15 -/
  ⟨0x5c80, [(8, 4)], .none, 0, 0x3ffff, 0, 0, 0, 0, 0, 0⟩, /- EVC_EXTCFG -/
  ⟨0x5d00, [(4, 32)], .none, 0, 0, 0, 0, 0x33f, 0, 0, 0⟩, /- EVC_CMD -/
  ⟨0x5d04, [(4, 32)], .none, 0, 0, 0, 0, 0, 0, 0, 0⟩, /- EVC_TSTAT -/
  ⟨0x5d08, [(4, 32)], .none, 0, 0, 0, 0, 0, 0, 0, 0⟩, /- EVC_PRESLO -/
  ⟨0x5d0c, [(4, 32)], .none, 0, 0, 0, 0, 0, 0, 0, 0⟩, /- EVC_PRESHI -/
  ⟨0x5d10, [(4, 32)], .none, 0, 0, 0, 0, 0, 0, 0, 0⟩, /- EVC_STACK -/
  ⟨0x5d14, [(4, 32)], .none, 0, 0, 0, 0, 0, 0, 0, 0⟩ /- EVC_CAUSE -/]

/-- The rows of register page 21. -/
def regPage21 : List RegRow := [
  ⟨0x6000, [], .none, 0, 0, 0, 0, 0x1, 0, 0, 0⟩, /- TST_CTRL -/
  ⟨0x6004, [], .none, 0, 0, 0, 0, 0, 0, 0, 0⟩, /- TST_STAT -/
  ⟨0x6008, [], .none, 0, 0, 0, 0, 0, 0, 0, 0⟩, /- TST_FAIL -/
  ⟨0x600c, [], .none, 0, 0, 0, 0, 0, 0, 0, 0⟩, /- TST_SKIP -/
  ⟨0x6010, [], .none, 0, 0, 0, 0, 0, 0, 0, 0⟩, /- TST_FIRST -/
  ⟨0x6014, [], .none, 0, 0, 0, 0xffff, 0, 0, 0, 0⟩ /- TST_PASS_CNT -/]

/-- The rows of register page 22. -/
def regPage22 : List RegRow := [
  ⟨0x6400, [], .none, 0, 0xff03, 0, 0, 0, 0, 0, 0⟩, /- SET_CFG -/
  ⟨0x6404, [], .none, 0, 0, 0, 0, 0x1, 0, 0, 0⟩, /- SET_CTRL -/
  ⟨0x6408, [], .none, 0, 0, 0, 0, 0, 0, 0, 0⟩, /- SET_STAT -/
  ⟨0x640c, [], .none, 0, 0, 0, 0, 0, 0, 0, 0⟩, /- SET_LAT -/
  ⟨0x6410, [], .none, 0, 0, 0, 0, 0, 0, 0, 0⟩, /- SET_OFFS -/
  ⟨0x6414, [], .none, 0, 0, 0, 0xffffffff, 0, 0, 0, 0⟩, /- SET_CRC_CNT -/
  ⟨0x6418, [], .none, 0, 0, 0, 0xffffffff, 0, 0, 0, 0⟩ /- SET_LOSS_CNT -/]

/-- The page of the register table that holds an offset. -/
def regPageOf (a : Nat) : List RegRow :=
  let p := if a < 0x2000 then a / 0x400 else if a < 0x3000 then 8 else 9 + (a - 0x3000) / 0x400
  match p with
  | 0 => regPage0
  | 1 => regPage1
  | 2 => regPage2
  | 3 => regPage3
  | 4 => regPage4
  | 5 => regPage5
  | 6 => regPage6
  | 8 => regPage8
  | 9 => regPage9
  | 10 => regPage10
  | 11 => regPage11
  | 12 => regPage12
  | 13 => regPage13
  | 14 => regPage14
  | 15 => regPage15
  | 17 => regPage17
  | 18 => regPage18
  | 19 => regPage19
  | 20 => regPage20
  | 21 => regPage21
  | 22 => regPage22
  | _ => []

/-- The fixed reset value of the word at an offset (R20): an Image field reads zero until BOOT has loaded it, and a word
that no fixed value is given for is zero. -/
def resetWord (a : Nat) : Word :=
  if a < 0xC00 then
    if a = 0x114 then 0x1 /- SYS_RSTCAUSE -/
    else if a = 0x908 then 0x640004 /- HIF_SWEEP -/
    else if a = 0x90c then 0x8 /- HIF_TRACE -/
    else 0
  else if a < 0x1000 then
    if a = 0xc0c then 0x19141e /- WHL_FE -/
    else if a = 0xc14 then 0x10190 /- WHL_SYNCCFG -/
    else if a = 0xc18 then 0x3e8 /- WHL_STALL -/
    else if a = 0xc20 then 0x19a008d /- WHL_RUN_TW -/
    else if a = 0xc24 then 0xcd /- WHL_RUN_PROV -/
    else if a = 0xc28 then 0x29a019a /- WHL_RUN_GAP1 -/
    else if a = 0xc2c then 0x39a0266 /- WHL_RUN_GAP2 -/
    else if a = 0xc30 then 0x233005a /- WHL_CRK_TW -/
    else if a = 0xc34 then 0x9a /- WHL_CRK_PROV -/
    else if a = 0xc38 then 0x3330180 /- WHL_CRK_GAP1 -/
    else if a = 0xc3c then 0x4660233 /- WHL_CRK_GAP2 -/
    else if a = 0xc40 then 0x24d01b3 /- WHL_MISS -/
    else if a = 0xc44 then 0x12600da /- WHL_SETTLE -/
    else if a = 0xc48 then 0x15500c0 /- WHL_RATE_BAND -/
    else if a = 0xc60 then 0x100 /- WHL_CAMREF -/
    else if a = 0xe00 then 0x41 /- WHL_ACLK_CTRL -/
    else if a = 0xe04 then 0x5 /- WHL_ACLK_CFG -/
    else if a = 0xe08 then 0x2000080 /- WHL_ACLK_QLIM -/
    else if a = 0xe0c then 0x4 /- WHL_STEADY -/
    else 0
  else if a < 0x5000 then
    if a = 0x1008 then 0x1f4005a /- SCH_HORIZON -/
    else if a = 0x100c then 0xc8001e /- SCH_WAKE_LEAD -/
    else if a = 0x1010 then 0x200 /- SCH_STORE_RES -/
    else if a = 0x1014 then 0x4000 /- SCH_FREE -/
    else if a = 0x1018 then 0x4000 /- SCH_FREE_LOW -/
    else if a = 0x1400 then 0x96 /- SCH_OVL -/
    else if a = 0x2000 then 0xc8 /- REED_CFG -/
    else 0
  else if a < 0x10000 then
    if a = 0x5708 then 0x19 /- TMR_CATCHUP -/
    else if 0x5c40 ≤ a ∧ a < 0x5c7c ∧ a % 4 = 0 then 0x10001 /- EVC_COAL -/
    else if a = 0x5c7c then 0x10001 /- EVC_COAL15 -/
    else 0
  else if 0x1F00C ≤ a ∧ a < 0x1F080 ∧ a % 16 = 12 then 1 /- MSI-X vector control: masked -/
  else 0

end Sys2Proof.Machine
end

