-- ==== Sys2Proof/Machine/State.lean ====
section
/-! DEFINITION. The state of the block as plain data, the reasons a step can stop, and the state right after reset. -/

namespace Sys2Proof.Machine

/-- The part number (Table 0.1). -/
inductive Part where
  | lva9620
  | lva9612
  | lva9616
  deriving DecidableEq, Repr

/-- The operating modes (Table 0.7, R21). -/
inductive Mode where
  | off | dormant | vigil | boot | setup | maint | armed | seek | half | full | suspect | safestop
  deriving DecidableEq, Repr

/-- The mode codes of Table 0.7. -/
def Mode.code : Mode → Nat
  | .off => 0 | .dormant => 1 | .vigil => 2 | .boot => 3 | .setup => 4 | .maint => 5
  | .armed => 6 | .seek => 7 | .half => 8 | .full => 9 | .suspect => 10 | .safestop => 11

/-- Clocks and links of the whole device (R26 to R38, R419 to R421). -/
structure Clk where
  /-- the 800 MHz time base runs -/
  tbRun : Bool
  /-- the time base, 1.25 ns units, modulo 2^40 -/
  tb : Tb
  /-- the AON tick count since power-on, 48 bits -/
  aon : Nat
  /-- fraction of an AON tick gathered on the time base, in 1/800,000,000 AON ticks -/
  aonPhase : Nat
  aonXtal : Bool
  refOk : Bool
  pllLock : Bool
  /-- the die link is trained (R27) -/
  dieTrained : Bool
  /-- when the die link was lost, until the one retraining attempt of R28 has been made -/
  dieLostAt : Option Tb
  /-- per quadrant: when the clock was asked to run, until it runs 40 ns later (Table 1.4) -/
  qreq : List (Option Tb)
  /-- per quadrant: the fast clock runs (R34) -/
  qrun : List Bool
  /-- per quadrant: when the last condition of R34 ended (R36) -/
  qidle : List (Option Tb)
  /-- the Reed cycle that falls on the present time has still to issue its notes (R149) -/
  slot : Bool
  deriving DecidableEq, Repr

/-- A sparse map of set-up words, sorted by offset; an unlisted offset reads as resetWord gives. -/
abbrev WMap := List (Nat × Word)

/-- Guardian states (Table 9.2). -/
inductive GState where
  | off | waitPrsn | debounce | pend | ramp | on | limit | retryWait | latched
  deriving DecidableEq, Repr

/-- The codes of Table 9.2. -/
def GState.code : GState → Nat
  | .off => 0 | .waitPrsn => 1 | .debounce => 2 | .pend => 3 | .ramp => 4 | .on => 5 | .limit => 6
  | .retryWait => 7 | .latched => 8

/-- The run-time state of an accumulator or tracker (R326, R327). -/
structure Win where
  open' : Bool
  sum : Int
  count : Nat
  sat : Bool
  mn : Int
  mx : Int
  mnT : Tb
  mxT : Tb
  last : Int
  openT : Tb
  epoch : Nat
  settle : Nat
  edrop : Nat
  /-- catch-up debt in µs and the shortening of the present period (R360) -/
  debt : Nat
  short : Nat
  /-- the angle clock has passed a boundary since the last close (R328) -/
  due : Bool
  deriving DecidableEq, Repr

/-- A close of the present fabric cycle (R329): the window as it stood, the CAUSE, the TAG and the event of the phrase that closed it, the
time, and the cycle angle with its tag and ANG_VALID. -/
structure Shut where
  win : Win
  cause : Nat
  tag : Word
  ev : Option Nat
  time : Tb
  ang : Word
  deriving DecidableEq, Repr

/-- What has happened in the present fabric cycle, which R16, R17, R396 and the same-cycle rules of the chapters ask for. It
is emptied when the cycle ends. -/
structure Same where
  /-- words that the device has written: the word from before the cycle, and what the cycle has set or counted in it -/
  hw : List (Nat × Word × Word)
  /-- words that the host has written, with the live word from before -/
  host : List (Nat × Word)
  /-- sources that have occurred, sources that have been claimed, and level sources that have left a presented set, each with
  its target (Table 15.2) -/
  occ : List Nat
  claims : List Nat
  left : List (Nat × Nat)
  /-- over-current trips: channels, and 96 + b for bank b (R184) -/
  oc : List Nat
  /-- guardians whose rule table has acted, with the strength of the action (R245) -/
  grd : List (Nat × Nat)
  /-- guardians that a host command has acted on, with the state and the retry count from before it (R245) -/
  grdHost : List (Nat × GState × Nat)
  /-- fields that MQ commands have written: the word and the bits (R297) -/
  mq : List (Nat × Nat)
  /-- windows that have closed, by target (R329) -/
  shut : List (Nat × Shut)
  /-- Nib engines that have executed a stroke, with the words that their TX and RX FIFOs held for the host before it (R372) -/
  nibs : List (Nat × Nat × Nat)
  /-- a fallback cause has come (R418) -/
  fb : Bool
  /-- test blocks that the end of a pass has cut off, with their start (R458) -/
  tested : List (Nat × Tb)
  /-- quadrants whose gate has closed (R36) -/
  gates : List Nat
  deriving DecidableEq, Repr

/-- The set-up words: the live copy, the shadow copy and the MRAM configuration image (R434), with the highest role that
has written each shadow register since the last COMMIT, and the blocks that hold changes. -/
structure RegFile where
  live : WMap
  shadow : WMap
  image : WMap
  /-- the image: 0 valid, 1 empty, 2 failing its CMAC check (a torn MRAM write) -/
  imgKind : Nat
  writers : List (Nat × Nat)
  /-- SEC_STAT.DIRTY -/
  dirty : List Nat
  same : Same
  deriving DecidableEq, Repr

/-- A long operation that holds the set-up port busy (R281): SYS_STAT.OP, the port and the time it started. -/
structure Busy where
  op : Nat
  port : Port
  since : Tb
  deriving DecidableEq, Repr

/-- A sleep entry under way (R411): the target, and when it began. -/
structure Sleep where
  vigil : Bool
  since : Tb
  deriving DecidableEq, Repr

/-- The mode controller (chapter 16) and the fallback flag (R416 to R418). -/
structure Sys where
  mode : Mode
  prev : Mode
  busy : Option Busy
  /-- SYS_MODESTAT.REQ and RESULT -/
  req : Nat
  result : Nat
  /-- SYS_MODESTAT.IMAGE -/
  image : Nat
  tstRan : Bool
  /-- last boot duration in 10 µs units -/
  bootT : Nat
  /-- the last completed step of Table 16.3, and whether this boot follows a wake -/
  bootStep : Nat
  bootWake : Bool
  bootSince : Nat
  sleep : Option Sleep
  /-- since when the idle conditions of R410 have held -/
  idleSince : Option Nat
  /-- SYS_SAFESTAT.CAUSE and ACTIVE -/
  safeCause : Nat
  safeActive : List Nat
  fbFlag : Bool
  fbPend : Bool
  fbCause : Nat
  fbAdmitted : Nat
  /-- the plan entries whose ANG - LEAD the clock has passed, and those admitted, with the cycle tag of the admission -/
  fbDue : List Nat
  fbDone : List (Nat × Nat)
  wakeOut : Bool
  wakeN : Bool
  /-- a mode request that waits for happenings of its fabric cycle that come before it (R405): the port and the code -/
  asked : Option (Port × Nat)
  /-- supplies that DORMANT or VIGIL has lost, as RAIL numbers, in the order of their loss (R488) -/
  missing : List Nat
  deriving DecidableEq, Repr

/-- An alarm FIFO entry (R302, R304): an alarm, or the REPEAT record of its ID. -/
structure Alarm where
  id : Nat
  sub : Nat
  time : Tb
  data : Nat
  data2 : Word
  rep : Bool
  count : Nat
  last : Tb
  deriving DecidableEq, Repr

/-- The losses of one ring waiting for their GAP record (R306). -/
structure Gap where
  acc : Nat
  trk : Nat
  first : Tb
  last : Tb
  deriving DecidableEq, Repr

/-- A staged telemetry or trace record: its ring, its words, the event whose phrase closed it, whether it is a tracker
record, and the GAP record that must be written ahead of it. -/
structure TeleRec where
  ring : Nat
  words : List Word
  ev : Option Nat
  trk : Bool
  gap : Option Gap
  deriving DecidableEq, Repr

/-- A staged result or completion (class 2 of Table 11.11). -/
structure OutRec where
  cq : Nat
  words : List Word
  deriving DecidableEq, Repr

/-- What a written record stands for, while its TLP is unacknowledged (R267). -/
inductive Body where
  | alarm (a : Alarm)
  | result (r : OutRec)
  | tele (t : TeleRec)
  | gap (g : Gap)
  deriving DecidableEq, Repr

/-- A memory write or message that the device has issued on the link. -/
inductive Tlp where
  | record (ring slot : Nat) (words : List Word) (body : Body)
  | status (words : List Word)
  | msix (vector : Nat)
  deriving DecidableEq, Repr

/-- The device side of one ring (R286, R289, R291). -/
structure Ring where
  /-- device index: head of an SQ or the MQ, tail of an outbound ring -/
  idx : Nat
  /-- host index last read in the doorbell line -/
  host : Nat
  active : Bool
  full : Bool
  err : Bool
  errc : Nat
  /-- PHASE of the next record (R288) -/
  phase : Bool
  gap : Option Gap
  deriving DecidableEq, Repr

/-- What the status line last reported (R295). -/
structure StatusView where
  idx : List Nat
  mode : Nat
  flags : Nat
  deriving DecidableEq, Repr

/-- The host link and the ring engine (chapters 10 and 11). -/
structure Hif where
  speed : Nat
  width : Nat
  up : Bool
  bme : Bool
  msixEn : Bool
  fmask : Bool
  d3 : Bool
  /-- the link rests in L1 or L1.2, and in L1.2 (R270) -/
  l1 : Bool
  l12 : Bool
  perst : Bool
  /-- D3cold by removed supplies: BAR0 is not answered (R270) -/
  cold : Bool
  /-- the control registers of configuration space (R261) -/
  ctl : PciCtl
  /-- MSI-X pending bits of vectors 0 to 7 -/
  vecPend : List Bool
  rings : List Ring
  /-- reads of the doorbell line outstanding -/
  dbReads : Nat
  dbLast : Option DoorbellLine
  dbAt : Tb
  /-- the NORMAL SQ served last (R296) -/
  rr : Nat
  /-- the turn under way: its ring and the entries left of it (R296) -/
  turn : Option (Nat × Nat)
  /-- results and completions in staging -/
  results : List OutRec
  tele : List TeleRec
  trace : List TeleRec
  alarms : List Alarm
  /-- HIF_TRACE and HIF_SWEEP as the last doorbell sweep took them (R314) -/
  kinds : Nat
  sweep : Word
  reported : StatusView
  stAt : Tb
  hbCtr : Nat
  heardAt : Tb
  silent : Bool
  /-- an MQ command held under R173: tag, arg0, arg1 -/
  mqHeld : Option (Word × Word × Word)
  /-- completions written since the last status line (source 26) and GAP records written (source 27) -/
  mqDone : Bool
  gapDone : Bool
  /-- normal and urgent stall of R120, and per CQ the full state of R307 -/
  normalStall : Bool
  urgentStall : Bool
  cqFull : List Bool
  /-- memory writes and messages issued, newest first -/
  tlps : List Tlp
  spiCrcErr : Bool
  spiRefused : Bool
  deriving DecidableEq, Repr

/-- One interrupt source (R383). -/
structure Src where
  pend : Bool
  fold : Nat
  ready : Bool
  /-- occurrences since its claim (R394) -/
  late : Nat
  claimed : Bool
  spur : Bool
  /-- target of the previous assignment -/
  last : Nat
  deriving DecidableEq, Repr

/-- One coalescing group (R386). -/
structure Group where
  count : Nat
  since : Option Tb
  ready : Bool
  deriving DecidableEq, Repr

/-- One target (R387): its presented set, claim stack (top first) and the fold counts of the claimed sources. -/
structure Target where
  delivered : Bool
  pres : List Nat
  stack : List Nat
  msgHeld : Bool
  deriving DecidableEq, Repr

/-- The event concentrator (chapter 15). ext holds the filtered line levels. -/
structure Evc where
  srcs : List Src
  groups : List Group
  targets : List Target
  ext : List Bool
  deriving DecidableEq, Repr

/-- A COMMIT under way (R436): its role and port, and how long after GO its MRAM write begins, which the spec leaves open. -/
structure CommitRun where
  role : Nat
  port : Port
  wr : Nat
  deriving DecidableEq, Repr

/-- Roles, sessions and the journal (chapter 17). Roles: 0 operator, 1 installer, 2 maker. -/
structure Sec where
  role : Nat
  port : Port
  /-- idle time of the session so far, in tb, counted while the port is not busy -/
  idle : Nat
  /-- the challenge: role asked, nonce, when it was filled -/
  chalReq : Option Nat
  chal : Option (BitVec 128 × Tb)
  /-- the words SEC_CHAL0 to 3 show -/
  chalWords : BitVec 128
  nonces : Nat
  fails : Nat
  lockedAt : Option Tb
  refused : Bool
  resp : List Word
  key : List Word
  /-- role and purpose of the unlock under way: true for a first installer claim -/
  unlock : Option (Nat × Bool)
  ikey : Option (BitVec 128)
  commit : Option CommitRun
  outcome : Nat
  entries : Nat
  cmtAddr : Nat
  cmtRes : Nat
  cmtOwn : Nat
  cmtTime : Nat
  /-- journal entries in counter order, oldest first, each of sixteen words -/
  journal : List (List Word)
  counter : Nat
  opseq : Nat
  /-- CHAIN of the last operator entry and of the last installer or maker entry -/
  chainO : Nat
  chainI : Nat
  alarm90 : Bool
  exporting : Bool
  sealing : Bool
  sealValid : Bool
  sealRefused : Bool
  sealVal : BitVec 128
  sealCnt : Nat
  deriving DecidableEq, Repr

/-- The tracker's states (WHL_STAT.SYNC). -/
inductive Sync where
  | idle | seek | half | full | suspect
  deriving DecidableEq, Repr

/-- WHL_STAT.SYNC codes. -/
def Sync.code : Sync → Nat
  | .idle => 0 | .seek => 1 | .half => 2 | .full => 3 | .suspect => 4

/-- A pending provisional edge (R49): its stamp, its ratio and the last accepted stamp stays in force. -/
structure Prov where
  stamp : Tb
  ratio : Nat
  deriving DecidableEq, Repr

/-- The wheel tracker (chapter 2). -/
structure Whl where
  sync : Sync
  ret : Sync
  crankSet : Bool
  coarse : Bool
  phaseKnown : Bool
  prov : Option Prov
  rev : Bool
  pos : Nat
  gaps : Nat
  /-- the stamp from which the next interval runs, none before the first edge of a SEEK -/
  last : Option Tb
  /-- stamp of the last accepted edge (WHL_STAMP_LO and HI), which a SEEK or a stall leaves as it is -/
  stamp : Option Tb
  stampHi : Nat
  /-- SEEK: the last accepted interval and the one before it, newest first (at most two), with their spans -/
  ints : List Nat
  /-- SEEK: consistent intervals of the learning phase so far, or learning has ended -/
  learnN : Nat
  learned : Bool
  /-- SEEK: NORMAL intervals since the previous gap candidate, none before the first -/
  sinceCand : Option Nat
  /-- SEEK: reference cam edges since the previous gap candidate, by tooth position and the offset from it in at -/
  camSeek : List (Nat × Nat)
  /-- edges seen by each cam input since cycle angle 0 -/
  camK : List Nat
  /-- in the present cycle a reference edge fell in the window, in the window's image 360 °CA away (R57) -/
  ref0 : Bool
  ref1 : Bool
  /-- the present cycle began before its evaluation did; part of it was spent in SUSPECT -/
  part : Bool
  susp : Bool
  /-- the cycle wrapped since the last accepted edge: the votes of the cycle that ended, and its part -/
  judge : Option (Bool × Bool × Bool)
  agree : Nat
  vote : Bool
  loss : Nat
  /-- VR arming (R39): the previous half-wave's peak in mV, of the crank and of CAM0; none after reset or a failure to arm -/
  arm : Option Nat
  armCam : Option Nat
  deriving DecidableEq, Repr

/-- The angle clock (chapter 3). Angles in at, the fraction in 2^-32 at, rates in 2^-32 at per tb, periods in 1/16 tb. -/
structure Ang where
  at' : Nat
  frac : Nat
  tag : Nat
  rate : Nat
  p : Nat
  u1 : Nat
  u2 : Nat
  /-- the angle of the next expected tooth -/
  next : Nat
  clamped : Bool
  /-- clamped time in tb not yet counted as whole µs -/
  clampFrac : Nat
  /-- A and stamp of the pitch under way, for the tooth error (R78) -/
  pitchA : Nat
  /-- per tooth position of the present revolution, and of the one before it: the stamp and the revolution time formed there -/
  hist : List (Nat × Tb × Option Nat)
  histOld : List (Nat × Tb × Option Nat)
  /-- clean intervals since the last break (R80) -/
  clean : Nat
  /-- clean intervals still to come before learning resumes after FREEZE was cleared (R84) -/
  fresh : Nat
  steadyOk : Bool
  learnActive : Bool
  /-- a gap has been accepted since the entry to FULL (R82) -/
  torsActive : Bool
  revTime : Nat
  /-- WHL_ANGLE_TLO and THI latch -/
  latch : Tb
  deriving DecidableEq, Repr

/-- Where an event's start stands (R108): on its anchor angle, or on a time. -/
inductive Start where
  | angle
  | time (t : Tb)
  deriving DecidableEq, Repr

/-- The life of a store entry (R111, R116, R119): ended means that only its result is outstanding. -/
inductive EvPhase where
  | waiting | released | running | ended
  deriving DecidableEq, Repr

/-- The names of R144 that apply to an event, one flag each (Table 11.7), and the TWIN bit. -/
structure EvFlags where
  late : Bool
  shifted : Bool
  merged : Bool
  subst : Bool
  trunc : Bool
  noKink : Bool
  oc : Bool
  twin : Bool
  deriving DecidableEq, Repr

/-- The closing report an ended event waits for (R30): none needed, awaited, or given (a delay in 25 ns, or NO_KINK). -/
inductive Closing where
  | noWatch
  | awaited
  | kink (delay : Nat)
  | noKink
  deriving DecidableEq, Repr

/-- One entry of the event store (R119). -/
structure Event where
  id : Nat
  ch : Nat
  /-- 0 to 7 SQ0 to SQ7, 8 fallback plan -/
  src : Nat
  /-- the phrase that the descriptor names, and the one to run as the inkwell decided (R219) -/
  phrase : Nat
  run : Nat
  anchor : Nat
  lockTime : Bool
  eclass : Nat
  trace : Bool
  tag : Word
  /-- the anchor: its cycle angle and the cycle tag fixed for it (R99, R100) -/
  ang : Nat
  ctag : Nat
  tagged : Bool
  dur : Nat
  durAngle : Bool
  params : List Nat
  start : Start
  /-- the place of a NEXT or TWIN anchor modulo 360 °CA, once fixed at release or moved on for the second run (R104) -/
  half : Option (Nat × Nat)
  /-- the time start came from the angle by a TIME-lock conversion or a budget shift (R103, R222), and goes back to its
  angle when the event returns to waiting -/
  conv : Bool
  /-- a time to fix from the anchor for angle-plus-delay: the DELAY -/
  delay : Nat
  phase : EvPhase
  /-- the electrical duration in tb once fixed (trim, truncation, conversion at the start) -/
  durTb : Option Nat
  flags : EvFlags
  /-- the code of a cause outside the list of R144 that ended the event -/
  cause : Option Nat
  /-- refused or removed: the result carries its code alone (R144) -/
  refused : Bool
  /-- the budget shift (R222), and the waits for a thread and the token (R132), in tb -/
  shift : Nat
  waited : Nat
  /-- the scheduled start, once it has come due (R134) -/
  sched : Tb
  /-- lateness at the start, in tb -/
  lateTb : Nat
  startT : Tb
  endT : Tb
  startAng : Nat
  /-- the clock's cycle tag at the first gate edge (R161) -/
  startTag : Nat
  endAng : Nat
  angValid : Bool
  ipeak : Nat
  mark0 : Option Tb
  mark1 : Option Tb
  /-- measured energies in nJ -/
  eBoost : Nat
  eRail : Nat
  closing : Closing
  /-- store entry of the first event of the merged chain that this event belongs to -/
  chain : Option Nat
  count : Nat
  /-- released to run as a TWIN event in HALF (R104) -/
  ran : Bool
  /-- the first gate edge has been made -/
  begun : Bool
  deriving DecidableEq, Repr

/-- Per channel: the scheduler's and the drive stage's run-time state. -/
structure Chan where
  /-- the end of the channel's last event (R127) -/
  lastEnd : Option Tb
  /-- lateness debt in tb (R128) -/
  debt : Nat
  /-- bucket level in tb × 256 (R141) -/
  bucket : Nat
  /-- accepted edges left of the coast count, while it runs (R129) -/
  coast : Option Nat
  /-- the GL gate is on -/
  gl : Bool
  glAt : Tb
  /-- the over-current latch on the analogue die (R25, R183), and whether the logic die has seen it -/
  oc : Bool
  ocSeen : Bool
  /-- the last LS turn-off and the closing report since (R195, R199) -/
  lsOff : Option Tb
  report : Option Closing
  /-- the latest turn-off of GL in the present event, a chop included; none before it -/
  offAt : Option Tb
  /-- the mode still in force while a COMMIT's new mode waits for the running phrase to end (R94) -/
  modeHeld : Option Nat
  deriving DecidableEq, Repr

/-- What a thread waits for (R149): the fields CA, CB and TGT of the note it waits in stand with it. -/
inductive Wait where
  | none
  | time (target : Tb)
  | angle (target : Nat) (tag : Nat) (cb tgt : Nat)
  | cond (ca cb tgt : Nat)
  | kink (cb tgt : Nat)
  | claim
  | sus (until' : Tb)
  | reg (chopGl : Bool) (ca cb tgt : Nat)
  deriving DecidableEq, Repr

/-- One thread of a Reed engine (R149 to R175). -/
structure Thread where
  run : Bool
  ev : Nat
  ch : Nat
  phrase : Nat
  kind : Nat
  pc : Nat
  params : List Nat
  /-- timers: the loaded value in Reed cycles and the time of the load (R151) -/
  t0 : Nat
  t0At : Tb
  t1 : Nat
  t1At : Tb
  lc : Nat
  pk : Nat
  hd : Nat
  /-- the pending placement time (R153) -/
  place : Option Tb
  /-- the placement time set at thread start has been used -/
  placed : Bool
  firstEdge : Tb
  wait : Wait
  /-- a first CLAIM has issued and is not yet decided, and a GATE waits in the placer for that decision (R156) -/
  claiming : Bool
  held : Bool
  /-- the moment from which the waits for thread and token count (R132) -/
  waitFrom : Tb
  sus : Bool
  susPc : Nat
  susEnd : Tb
  /-- the event's end under R96, as merges have moved it (R174) -/
  fin : Tb
  /-- the thread has made an LS turn-off (R163, R195) -/
  turnedOff : Bool
  /-- a merged event that has not yet started (SPEND) -/
  spend : Option Tb
  watchEnd : Tb
  hv : Bool
  hb : Bool
  ls : Bool
  /-- the windows that SAMPLE opened and has not closed, with the time of opening (R167) -/
  windows : List (Bool × Nat × Tb)
  /-- the sustain end at which EDUE last became true and set the placement time (R153) -/
  edue : Option Tb
  /-- when the CLAIM in force issued, or the moment at which it is decided (R156) -/
  claimAt : Tb
  /-- the end of a timed off phase (R186, R499) -/
  offUntil : Option Tb
  /-- GL on-time in the present 3.2 µs rail sample (R213), tb -/
  onTime : Nat
  /-- the thread runs on the former live copy of its quadrant (R171) -/
  old : Bool
  deriving DecidableEq, Repr

/-- Per bank: the Reed engine and the drive stage's run-time state. -/
structure Bank where
  threads : List Thread
  /-- the thread that issued the engine's last note (R149) -/
  lastIssue : Nat
  /-- the boost token: 0 free, 1 thread 0, 2 thread 1 -/
  token : Nat
  ghv : Bool
  ghb : Bool
  ghvAt : Tb
  ghbAt : Tb
  /-- the bank latch on the analogue die, and whether the logic die has seen it -/
  oc : Bool
  ocSeen : Bool
  bucket : Nat
  /-- channels whose closing watch holds a converter slot, with the turn-off (R196) -/
  slots : List (Nat × Tb)
  /-- events waiting for a thread (R132), in the order of R134 -/
  waiting : List Nat
  deriving DecidableEq, Repr

/-- The gates that the edge placer drives (R27, R179). -/
inductive Gate where
  | gl (n : Nat)
  | ghv (b : Nat)
  | ghb (b : Nat)
  deriving DecidableEq, Repr

/-- An edge placed in a slot to come: the thread that placed it, or none for a LOG output. -/
structure Edge where
  at' : Tb
  gate : Gate
  on : Bool
  bank : Nat
  thread : Option Nat
  ev : Nat
  deriving DecidableEq, Repr

/-- The scheduler (chapters 4 and 5). -/
structure Sch where
  store : List Event
  nextId : Nat
  chans : List Chan
  /-- time under a stall not yet counted as whole µs, in tb -/
  stallFrac : Nat
  deriving DecidableEq, Repr

/-- Per quadrant: the phrase store copies (R171) and the boost controller (R190 to R194). -/
structure Quad where
  /-- REED_PSTAT.LIVE, DIRTY and SYNCING, and the former live copy while threads run on it -/
  live : Nat
  dirty : Bool
  syncing : Bool
  old : WMap
  /-- VBST and VBAT sense in 0.1 V -/
  vbst : Nat
  vbat : Nat
  pulsing : Bool
  /-- the gate of the boost FET, and when its last pulse began (R190) -/
  gbc : Bool
  pulseAt : Option Tb
  ramping : Bool
  ov : Bool
  /-- the regulation target in mV -/
  target : Nat
  regOn : Bool
  /-- balance in nJ, rate in µW, sense for R224, drift not yet counted in nJ -/
  bal : Int
  rate : Nat
  armed : Bool
  driftFrac : Int
  deriving DecidableEq, Repr

/-- A rail account (R212): the 16 sub-windows, newest first, and the energy metered in the present one, in nJ. -/
structure Rail where
  subs : List Int
  cur : Int
  /-- when the newest sub-window ended, on the time base and on the AON clock -/
  endAt : Tb
  endAon : Nat
  deny : Bool
  armed : Bool
  deriving DecidableEq, Repr

/-- A reservation (R216): amounts in nJ against a boost account and a rail account, keyed by the projected start. -/
structure Resv where
  ev : Nat
  boost : Option (Nat × Nat)
  rail : Option (Nat × Nat)
  start : Tb
  deriving DecidableEq, Repr

/-- The ledger beside the boost accounts (chapter 8). -/
structure Ink where
  rails : List Rail
  resv : List Resv
  /-- device charges: AON time and amount in nJ -/
  charges : List (Nat × Nat)
  devArmed : Bool
  deriving DecidableEq, Repr

/-- A rail guardian (chapter 9). -/
structure Grd where
  st : GState
  trip : Bool
  tripSeen : Bool
  held : Bool
  isat : Bool
  /-- the pin level of PRSNg, its debounced presence and its last change -/
  pin : Bool
  prsn : Bool
  pinAt : Nat
  pinTb : Tb
  retries : Nat
  /-- ramp start, or start of a retry delay, and the delay in ms -/
  since : Tb
  sinceAon : Nat
  delay : Nat
  /-- the ramp is complete, or else the UV condition from RAMP_T is in force (R236) -/
  done : Bool
  rampOut : Bool
  vout : Nat
  vin : Nat
  /-- whether the next voltage sample is V_OUT -/
  nextOut : Bool
  cur : Int
  lastCur : Int
  /-- energy in µJ with 8 fraction bits, 56-bit wrapping, and the latch of GRD_EHI -/
  energy : Nat
  ehi : Nat
  /-- SOA budget in nJ, and I²t in 1e-12 A²·µs -/
  soa : Nat
  i2t : Nat
  soaEx : Bool
  uvSlow : Nat
  /-- per rule entry: for how many evaluations its condition has held -/
  held8 : List Nat
  /-- the LIM level of a LIMIT action in force, with its entry -/
  lim : Option (Nat × Nat)
  /-- since which AON tick power-good has held (R246) -/
  goodSince : Option Nat
  /-- the pin has left its present level, and no removal has followed yet (R249) -/
  left : Bool
  /-- this sleep has seen a debounce completed, and a rule action of the held guardian (R254) -/
  prsnWake : Bool
  tripWake : Bool
  liveFt : Nat
  liveIlim : Nat
  deriving DecidableEq, Repr

/-- The calibration command under way (R324): the converter in progress and those still to come. -/
structure CalRun where
  now : Nat
  rest : List Nat
  /-- when the converter in progress began -/
  since : Tb
  deriving DecidableEq, Repr

/-- One converter (R315 to R321). -/
structure Conv where
  /-- the loop goes on from this entry -/
  entry : Nat
  /-- samples still to make of a loop visit that an urgent request interrupted -/
  left : Nat
  /-- a sample in progress when its entry moved or its target's TQ changed: the target and the old epoch (R333, R334) -/
  flight : Option (Nat × Nat)
  loops : Nat
  urg : List Nat
  /-- input and gain of the previous conversion, none after power-up -/
  prev : Option (Nat × Nat)
  /-- entries whose next visit discards 2^FILT conversions (Table 12.4) -/
  fresh : List Nat
  deriving DecidableEq, Repr

/-- The converters, accumulators and trackers (chapter 12). -/
structure Adc where
  convs : List Conv
  cal : Option CalRun
  calDone : List Nat
  calFail : List Nat
  calAborted : Bool
  moveResult : Nat
  movePend : Option Tb
  /-- accumulators 0 to 511, then trackers 0 to 255, by index; an unlisted target stands as Win.initial gives -/
  wins : List (Nat × Win)
  /-- angle triggers whose ANG the clock has passed (R320) -/
  trigDue : List Nat
  vigilAon : Nat
  /-- closes that wait for the telemetry builder (R331) -/
  builder : Nat
  deriving DecidableEq, Repr

/-- A comparator's output: UNSETTLED, or settled above or below its level (R342). -/
inductive Cmp where
  | unsettled | below | above
  deriving DecidableEq, Repr

/-- A window monitor's two comparators and its exit count (R346). -/
structure WMon where
  lo : Cmp
  hi : Cmp
  exits : Nat
  deriving DecidableEq, Repr

/-- The comparators (chapter 13): outputs per unit. -/
structure Cmps where
  peak : List Cmp
  hold : List Cmp
  vds : List Cmp
  /-- channels whose VDS comparator stands in its fine range, with the code in its DAC (R186) -/
  fine : List (Nat × Nat)
  ghv : List Cmp
  ghb : List Cmp
  ft : List Cmp
  rev : List Cmp
  wm : List WMon
  deriving DecidableEq, Repr

/-- One timer (R348 to R360). -/
structure Tmr where
  run : Bool
  count : Nat
  out : Bool
  /-- a zero, a match whose actions are due, and the angle advance beyond the zero (R358) -/
  zeroDue : Bool
  matchDue : Bool
  past : Nat
  capR : Nat
  capF : Nat
  width : Nat
  widthRun : Nat
  widthNew : Bool
  debt : Nat
  /-- the RELOAD value that the present period took -/
  per : Nat
  /-- the count and the time of the last deciding tick (R354) -/
  decided : Nat
  decAt : Tb
  /-- in the decision cycle of a tick: whether it matches and whether it is the zero tick (R350) -/
  dec : Option (Bool × Bool)
  /-- the buffer value fixed for the next reload (R350) -/
  relBuf : Nat
  /-- a trigger of the master is on its way, and one has come that starts a new period with the next tick (R355) -/
  trig : Bool
  cut : Bool
  /-- the advance still owed after a backward step of the angle clock (R358) -/
  owe : Nat
  /-- on the angle clock: what the next tick loads, and the advance made while a zero waits for its actions (R358) -/
  load : Option Nat
  ahead : Nat
  /-- the level of OUT as it has reached the pin (R357) -/
  pin : Bool
  /-- the AON count when sleep stopped the timer -/
  stopped : Option Nat
  deriving DecidableEq, Repr

/-- One Nib engine (chapter 14). ink holds the levels of its eight ink pins. -/
structure Nib where
  run : Bool
  stalled : Bool
  st : Nat
  sr : Nat
  bc : Nat
  sc : Nat
  tx : List Word
  rx : List Word
  ink : List Bool
  /-- live margins TOP and BOTTOM while new ones wait -/
  top : Nat
  bottom : Nat
  mpend : Bool
  /-- when the next engine cycle starts (R365) -/
  due : Tb
  /-- a stroke of this fabric cycle that lacks a FIFO word or room, with the pin levels it sampled: a host access of the cycle comes
  first (R372) -/
  todo : Option (Nat × List Bool)
  /-- NIB_SDATALO hold and NIB_SDATAHI latch -/
  loHold : Word
  hiLatch : Word
  deriving DecidableEq, Repr

/-- The tuning pass (chapter 18). -/
structure Tst where
  running : Bool
  boot : Bool
  cause : Nat
  refused : Bool
  /-- blocks running in the lanes, 0 for none, and the next block to start -/
  blockA : Nat
  blockB : Nat
  sinceA : Tb
  sinceB : Tb
  nextA : Nat
  nextB : Nat
  since : Tb
  /-- a GO that waits for mode transitions of its fabric cycle (R457) -/
  asked : Option Port
  time : Nat
  fail : List Nat
  skip : List Nat
  first : Option (Nat × Nat × Int)
  /-- unusable marks: (block, unit) of each failed unit -/
  marks : List (Nat × Nat)
  /-- the health record in MRAM -/
  record : List (Nat × Nat)
  deriving DecidableEq, Repr

/-- The slur link (chapter 19). -/
structure Slur where
  dev : Nat
  count : Nat
  /-- 0 idle, 1 training, 2 running, 3 lost -/
  state : Nat
  lost : Bool
  ended : Bool
  err : Nat
  lat : Nat
  offs : Int
  /-- the training under way is of the downstream hop, as its sender -/
  sending : Bool
  /-- training: the step, when the attempt and the step began, echoes measured (their sum in 0.25 ns) -/
  step : Nat
  since : Tb
  stepAt : Tb
  rtSum : Nat
  rtN : Nat
  /-- follower: since when no valid frame has come, while the link is lost; when the last valid frame came or training
  completed; and a loss whose completed training still owes source 62 (R471) -/
  lostAt : Option Tb
  frameAt : Tb
  owes : Bool
  /-- the frame last received, or launched: an angle frame, or a training frame while the downstream hop trains (R467) -/
  rxFrame : Option AngleFrame
  txFrame : Option AngleFrame
  txTrain : Option TrainFrame
  idx : Nat
  /-- the assignment taken (R467), and the arrival of the last training frame -/
  assign : Option TrainFrame
  arr : Tb
  /-- receiver: a training frame to echo with the arrival of its first bit, and the echo last launched upstream (R465) -/
  toEcho : Option (TrainFrame × Tb)
  upFrame : Option TrainFrame
  deriving DecidableEq, Repr

/-- The JTAG port (R497, R498): the instruction register, the boundary cells as last preloaded, and the contents of the
data register that the instruction selects, first bit out first. -/
structure Jtag where
  ir : Nat
  cells : List Bool
  dr : List Bool
  deriving DecidableEq, Repr

/-- What a set-up access last answered, for the side that reads it. -/
structure Answers where
  /-- data of the last set-up read, none for Unsupported Request -/
  read : Option (Nat)
  /-- bytes shifted out on SPI_MISO in the last frame, oldest first -/
  spi : List Nat
  deriving DecidableEq, Repr

/-- The machine (R10): all the state that the spec gives the block, and the queue of waiting commands. -/
structure State where
  part : Part
  clk : Clk
  regs : RegFile
  sys : Sys
  hif : Hif
  evc : Evc
  sec : Sec
  whl : Whl
  ang : Ang
  sch : Sch
  banks : List Bank
  quads : List Quad
  edges : List Edge
  ink : Ink
  grds : List Grd
  adc : Adc
  cmps : Cmps
  tmrs : List Tmr
  nibs : List Nib
  tst : Tst
  slur : Slur
  jtag : Jtag
  ans : Answers
  /-- free values drawn so far -/
  freeCtr : Nat
  pending : List Instr
  deriving DecidableEq, Repr

/-- Faults. -/
inductive Fault where
  /-- A set-up access at an offset of 256 KB or above: BAR0 and the SPI address field end there (Table 10.1, Table 10.6), so
  no such access exists. Raised by registerWrite and readClear; safe. -/
  | offsetBeyondBar
  deriving DecidableEq, Repr

/-- Refusals: commands without a meaning in the model. -/
inductive Refusal where
  /-- A command not modelled: raised only by arms of exec; safe, since nothing is then claimed of it. -/
  | notModelled (mnemonic : String)
  deriving DecidableEq, Repr

/-- A fabric cycle in which nothing has happened yet. -/
def Same.none : Same := { hw := [], host := [], occ := [], claims := [], left := [], oc := [], grd := [], grdHost := [], mq := [], shut := [], nibs := [], fb := false, tested := [], gates := [] }

def Ring.initial : Ring :=
  { idx := 0, host := 0, active := false, full := false, err := false, errc := 0, phase := true, gap := none }

def Src.initial : Src :=
  { pend := false, fold := 0, ready := false, late := 0, claimed := false, spur := false, last := 3 }

def Group.initial : Group := { count := 0, since := none, ready := false }

def Target.initial : Target := { delivered := false, pres := [], stack := [], msgHeld := false }

def Evc.initial : Evc :=
  { srcs := List.replicate 64 Src.initial, groups := List.replicate 16 Group.initial,
    targets := List.replicate 4 Target.initial, ext := List.replicate 8 false }

def Clk.initial : Clk :=
  { tbRun := false, tb := 0, aon := 0, aonPhase := 0, aonXtal := false, refOk := false, pllLock := false, dieTrained := false,
    dieLostAt := none, qreq := List.replicate 4 none, qrun := List.replicate 4 false, qidle := List.replicate 4 none, slot := false }

def Sys.initial : Sys :=
  { mode := .boot, prev := .off, busy := none, req := 0, result := 0, image := 0, tstRan := false, bootT := 0, bootStep := 1,
    bootWake := false, bootSince := 0, sleep := none, idleSince := none, safeCause := 0, safeActive := [], fbFlag := false,
    fbPend := false, fbCause := 0, fbAdmitted := 0, fbDue := [], fbDone := [], wakeOut := true, wakeN := false, asked := none,
    missing := [] }

/-- The control registers of configuration space after a reset: 128 B payloads, 512 B read requests, everything else off (the defaults of
the PCIe Base Specification; log entry 50). -/
def PciCtl.initial : PciCtl :=
  { mps := 0, mrrs := 2, extTag := false, aspmL1 := false, aspmL12 := false, pciPmL12 := false, ltr := false }

def Hif.initial : Hif :=
  { speed := 0, width := 0, up := false, bme := false, msixEn := false, fmask := false, d3 := false, l1 := false, l12 := false, perst := false, cold := false,
    ctl := PciCtl.initial,
    vecPend := List.replicate 8 false, rings := List.replicate 19 Ring.initial, dbReads := 0, dbLast := none, dbAt := 0,
    rr := 7, turn := none, results := [], tele := [], trace := [], alarms := [], kinds := 8, sweep := 0x640004,
    reported := { idx := List.replicate 19 0, mode := 3, flags := 0 }, stAt := 0, hbCtr := 0, heardAt := 0, silent := false,
    mqHeld := none, mqDone := false, gapDone := false, normalStall := false, urgentStall := false,
    cqFull := List.replicate 4 false, tlps := [], spiCrcErr := false, spiRefused := false }

def Sec.initial : Sec :=
  { role := 0, port := .pcie, idle := 0, chalReq := none, chal := none, chalWords := 0, nonces := 0, fails := 0, lockedAt := none,
    refused := false, resp := List.replicate 4 0, key := List.replicate 4 0, unlock := none, ikey := none, commit := none,
    outcome := 0, entries := 0, cmtAddr := 0, cmtRes := 0, cmtOwn := 0, cmtTime := 0, journal := [], counter := 0, opseq := 0,
    chainO := 0, chainI := 0, alarm90 := false, exporting := false, sealing := false, sealValid := false,
    sealRefused := false, sealVal := 0, sealCnt := 0 }

def Whl.initial : Whl :=
  { sync := .idle, ret := .half, crankSet := false, coarse := false, phaseKnown := false, prov := none, rev := false, pos := 0,
    gaps := 0, last := none, stamp := none, stampHi := 0, ints := [], learnN := 0, learned := false, sinceCand := none, camSeek := [],
    camK := List.replicate 4 0, ref0 := false, ref1 := false, part := false, susp := false, judge := none, agree := 0, vote := false, loss := 0, arm := none, armCam := none }

def Ang.initial : Ang :=
  { at' := 0, frac := 0, tag := 0, rate := 0, p := 0, u1 := 0, u2 := 0, next := 0, clamped := false, clampFrac := 0, pitchA := 0,
    hist := [], histOld := [], clean := 0, fresh := 0, steadyOk := false, learnActive := false, torsActive := false, revTime := 0, latch := 0 }

def Chan.initial : Chan :=
  { lastEnd := none, debt := 0, bucket := 0, coast := none, gl := false, glAt := 0, oc := false, ocSeen := false, lsOff := none, report := none,
    offAt := none, modeHeld := none }

def Sch.initial : Sch :=
  { store := [], nextId := 0, chans := List.replicate 96 Chan.initial, stallFrac := 0 }

def Thread.initial : Thread :=
  { run := false, ev := 0, ch := 0, phrase := 0, kind := 0, pc := 0, params := [], t0 := 0, t0At := 0, t1 := 0, t1At := 0, lc := 0,
    pk := 0, hd := 0, place := none, placed := false, firstEdge := 0, wait := .none, claiming := false, held := false, waitFrom := 0, sus := false,
    susPc := 0, susEnd := 0, fin := 0, turnedOff := false, spend := none, watchEnd := 0, hv := false, hb := false, ls := false, windows := [],
    edue := none, claimAt := 0, offUntil := none, onTime := 0, old := false }

def Bank.initial : Bank :=
  { threads := [Thread.initial, Thread.initial], lastIssue := 1, token := 0, ghv := false, ghb := false, ghvAt := 0, ghbAt := 0,
    oc := false, ocSeen := false, bucket := 0, slots := [], waiting := [] }

def Quad.initial : Quad :=
  { live := 0, dirty := false, syncing := false, old := [], vbst := 0, vbat := 0, pulsing := false, gbc := false, pulseAt := none, ramping := false,
    ov := false, target := 0, regOn := false, bal := 0, rate := 0, armed := false, driftFrac := 0 }

def Rail.initial : Rail := { subs := List.replicate 16 0, cur := 0, endAt := 0, endAon := 0, deny := false, armed := false }

def Ink.initial : Ink := { rails := List.replicate 8 Rail.initial, resv := [], charges := [], devArmed := false }

def Grd.initial : Grd :=
  { st := .off, trip := false, tripSeen := false, held := false, isat := false, pin := false, prsn := false, pinAt := 0, pinTb := 0, retries := 0, since := 0,
    sinceAon := 0, delay := 0, done := false, rampOut := false, vout := 0, vin := 0, nextOut := true, cur := 0, lastCur := 0, energy := 0, ehi := 0,
    soa := 0, i2t := 0, soaEx := false, uvSlow := 0, held8 := List.replicate 8 0, lim := none,
    goodSince := none, left := false, prsnWake := false, tripWake := false, liveFt := 0, liveIlim := 0 }

def Conv.initial : Conv := { entry := 0, left := 0, flight := none, loops := 0, urg := [], prev := none, fresh := [] }

/-- A closed window with nothing in it (R327: MIN 0x7FFF, MAX 0x8000). -/
def Win.initial : Win :=
  { open' := false, sum := 0, count := 0, sat := false, mn := 32767, mx := -32768, mnT := 0, mxT := 0, last := 0, openT := 0,
    epoch := 0, settle := 0, edrop := 0, debt := 0, short := 0, due := false }

def Adc.initial : Adc :=
  { convs := List.replicate 6 Conv.initial, cal := none, calDone := [], calFail := [], calAborted := false, moveResult := 0,
    movePend := none, wins := [], trigDue := [], vigilAon := 0, builder := 0 }

def WMon.initial : WMon := { lo := .unsettled, hi := .unsettled, exits := 0 }

def Cmps.initial : Cmps :=
  { peak := List.replicate 24 .unsettled, hold := List.replicate 24 .unsettled, vds := List.replicate 96 .unsettled, fine := [],
    ghv := List.replicate 24 .unsettled, ghb := List.replicate 24 .unsettled, ft := List.replicate 8 .unsettled,
    rev := List.replicate 8 .unsettled, wm := List.replicate 8 WMon.initial }

def Tmr.initial : Tmr :=
  { run := false, count := 0, out := false, zeroDue := false, matchDue := false, past := 0, capR := 0, capF := 0, width := 0, widthRun := 0, widthNew := false,
    debt := 0, per := 0, decided := 0, decAt := 0, dec := none, relBuf := 0, trig := false, cut := false, owe := 0, load := none, ahead := 0, pin := false,
    stopped := none }

def Nib.initial : Nib :=
  { run := false, stalled := false, st := 0, sr := 0, bc := 0, sc := 0, tx := [], rx := [], ink := List.replicate 8 false, top := 0,
    bottom := 0, mpend := false, due := 0, todo := none, loHold := 0, hiLatch := 0 }

def Tst.initial : Tst :=
  { running := false, boot := false, cause := 0, refused := false, blockA := 0, blockB := 0, sinceA := 0, sinceB := 0, nextA := 0, nextB := 0, since := 0, asked := none,
    time := 0, fail := [], skip := [], first := none, marks := [], record := [] }

def Slur.initial : Slur :=
  { dev := 0, count := 0, state := 0, lost := false, ended := false, err := 0, lat := 0, offs := 0, sending := false, step := 0, since := 0, stepAt := 0, rtSum := 0,
    rtN := 0, lostAt := none, frameAt := 0, owes := false, rxFrame := none, txFrame := none, txTrain := none, idx := 0, assign := none,
    arr := 0, toEcho := none, upFrame := none }

def Jtag.initial : Jtag := { ir := 1, cells := [], dr := [] }

def RegFile.initial : RegFile :=
  { live := [], shadow := [], image := [], imgKind := 1, writers := [], dirty := [], same := Same.none }

/-- The machine right after power-on reset (R20, R422, R423): BOOT at step 1 of Table 16.3, the gates low, the image
empty, every register at its reset value. Log entries 1 and 2 name the values that the spec leaves open. -/
def State.reset : State :=
  { part := .lva9620, clk := Clk.initial, regs := RegFile.initial, sys := Sys.initial, hif := Hif.initial, evc := Evc.initial,
    sec := Sec.initial, whl := Whl.initial, ang := Ang.initial, sch := Sch.initial, banks := List.replicate 24 Bank.initial,
    quads := List.replicate 4 Quad.initial, edges := [], ink := Ink.initial, grds := List.replicate 8 Grd.initial,
    adc := Adc.initial, cmps := Cmps.initial, tmrs := List.replicate 16 Tmr.initial, nibs := List.replicate 8 Nib.initial,
    tst := Tst.initial, slur := Slur.initial, jtag := Jtag.initial, ans := { read := some 0, spi := [] }, freeCtr := 0,
    pending := [] }

end Sys2Proof.Machine
end

