-- ==== Sys2Proof/Machine/Ops.lean ====
section
/-! DEFINITION. The named operations that the meanings share: the register copies, the units present, interrupt sources,
alarms, trace and telemetry staging, results, roles. -/

namespace Sys2Proof.Machine

/-! Register copies -/

/-- Look a word up in a sparse map. -/
def WMap.find (a : Nat) : WMap → Option Word
  | [] => none
  | (b, w) :: m => if a = b then some w else WMap.find a m

/-- The word at an offset; an unlisted offset reads its fixed reset value (R20). -/
def WMap.word (m : WMap) (a : Nat) : Word := (WMap.find a m).getD (resetWord a)

/-- Write a word and keep the map sorted, without entries equal to the reset value. -/
def WMap.put (a : Nat) (v : Word) : WMap → WMap
  | [] => if v = resetWord a then [] else [(a, v)]
  | (b, w) :: m =>
    if a < b then (if v = resetWord a then (b, w) :: m else (a, v) :: (b, w) :: m)
    else if a = b then (if v = resetWord a then m else (a, v) :: m)
    else (b, w) :: WMap.put a v m

/-- The first offset of the map lies above a bound (an empty map passes). -/
def WMap.above (a : Nat) : WMap → Bool
  | [] => true
  | (b, _) :: _ => decide (a < b)

/-- The canonical form: offsets strictly rising, no entry equal to its reset value. -/
def WMap.wf : WMap → Bool
  | [] => true
  | (a, v) :: m => decide (v ≠ resetWord a) && WMap.above a m && WMap.wf m

/-- Replace bits [lo + w - 1 : lo] of a word. -/
def setBits (x : Word) (lo w v : Nat) : Word :=
  Word.ofN (x.toNat - place lo w (x.toNat >>> lo) + place lo w v)

/-- The bits of old outside a mask, and of new inside it. -/
def mergeMask (mask : Nat) (old new : Word) : Word :=
  Word.ofN ((old.toNat - (old.toNat &&& mask)) ||| (new.toNat &&& mask))

/-- The live word at an offset. -/
def State.word (s : State) (a : Nat) : Word := WMap.word s.regs.live a

/-- The live value of a field. -/
def State.get (s : State) (f : Fld) : Nat := (s.word f.a).bits f.lo f.w

/-- A live one-bit field. -/
def State.flag (s : State) (f : Fld) : Bool := s.get f != 0

/-- The shadow word at an offset. -/
def State.shadowWord (s : State) (a : Nat) : Word := WMap.word s.regs.shadow a

/-- The shadow value of a field. -/
def State.sget (s : State) (f : Fld) : Nat := (s.shadowWord f.a).bits f.lo f.w

/-- Write a word of the live copy. -/
def State.putWord (s : State) (a : Nat) (v : Word) : State :=
  { s with regs := { s.regs with live := WMap.put a v s.regs.live } }

/-- Write a word of the shadow copy. -/
def State.putShadow (s : State) (a : Nat) (v : Word) : State :=
  { s with regs := { s.regs with shadow := WMap.put a v s.regs.shadow } }

/-- Insert a number into a rising list without repeats. -/
def insertNat (n : Nat) : List Nat → List Nat
  | [] => [n]
  | m :: l => if n < m then n :: m :: l else if n = m then m :: l else m :: insertNat n l

/-- Set an entry of an association list, kept in rising order of its keys. -/
def assocPut {α : Type} (k : Nat) (v : α) : List (Nat × α) → List (Nat × α)
  | [] => [(k, v)]
  | (j, w) :: l => if k < j then (k, v) :: (j, w) :: l else if k = j then (k, v) :: l else (j, w) :: assocPut k v l

/-- Look an entry of an association list up. -/
def assocGet {α : Type} (k : Nat) : List (Nat × α) → Option α
  | [] => none
  | (j, w) :: l => if k = j then some w else assocGet k l

/-! One fabric cycle (R16, R17): 2.5 ns, two units of the time base. Without the time base no two happenings share a cycle. -/

/-- Keep a happening in mind until the fabric cycle ends. -/
def State.inCycle (f : Same → Same) (s : State) : State :=
  { s with regs := { s.regs with same := if s.clk.tbRun then f s.regs.same else s.regs.same } }

/-- The device writes word a: the word from before the cycle is kept, and g gathers what the cycle sets. -/
def State.noteHw (a : Nat) (g : Word → Word) (s : State) : State :=
  let e := (assocGet a s.regs.same.hw).getD (s.word a, 0)
  s.inCycle (fun m => { m with hw := assocPut a (e.1, g e.2) m.hw })

/-- The host writes word a. -/
def State.noteHost (a : Nat) (s : State) : State :=
  let w := (assocGet a s.regs.same.host).getD (s.word a)
  s.inCycle (fun m => { m with host := assocPut a w m.host })

/-- The host has written word a in this cycle. -/
def State.hostWrote (s : State) (a : Nat) : Bool := (assocGet a s.regs.same.host).isSome

/-- An MQ command acts on the bits m of word a in the present fabric cycle (R297). -/
def State.noteMq (a m : Nat) (s : State) : State :=
  s.inCycle (fun x => { x with mq := assocPut a ((assocGet a x.mq).getD 0 ||| m) x.mq })

/-- The bits of word a that an MQ command has written in the present fabric cycle: its effect stands (R297). -/
def State.mqBits (s : State) (a : Nat) : Nat := (assocGet a s.regs.same.mq).getD 0

/-- Word a as it stood before the host wrote it in this cycle. -/
def State.wordAsWas (s : State) (a : Nat) : Word := (assocGet a s.regs.same.host).getD (s.word a)

/-- The device has written word a in this cycle. -/
def State.hwWrote (s : State) (a : Nat) : Bool := (assocGet a s.regs.same.hw).isSome

/-- What the device has set or counted in word a in this cycle. -/
def State.newBits (s : State) (a : Nat) : Word := match assocGet a s.regs.same.hw with | some e => e.2 | none => 0

/-- Word a as it stood before the device wrote it in this cycle. -/
def State.wordBefore (s : State) (a : Nat) : Word := match assocGet a s.regs.same.hw with | some e => e.1 | none => s.word a

/-- The device writes a live field. -/
def State.set (s : State) (f : Fld) (v : Nat) : State :=
  (s.noteHw f.a (fun w => setBits w f.lo f.w v)).putWord f.a (setBits (s.word f.a) f.lo f.w v)

/-- Add n to a counter field, which saturates at all ones. -/
def State.addSat (s : State) (f : Fld) (n : Nat) : State :=
  (s.noteHw f.a (fun w => setBits w f.lo f.w (satAdd f.w (w.bits f.lo f.w) n))).putWord f.a
    (setBits (s.word f.a) f.lo f.w (satAdd f.w (s.get f) n))

/-- Count one event in a counter field. -/
def State.count (s : State) (f : Fld) : State := s.addSat f 1

/-- The clock's wait at the clamp ends: its whole µs go to WHL_CLAMP_TIME, the fraction stays (R74). -/
def State.endClamp (s : State) : State :=
  ({ s with ang := { s.ang with clamped := false, clampFrac := s.ang.clampFrac % 800 } } : State).addSat F.WHL_CLAMP_TIME_TIME
    (s.ang.clampFrac / 800)

/-- Bit i of a live field: read, set, cleared. -/
def State.bitOf (s : State) (f : Fld) (i : Nat) : Bool := (s.get f).testBit i
/-- Set bit i of a field; bits beyond the field do not exist. -/
def State.setBit (f : Fld) (i : Nat) (s : State) : State := if i < f.w then s.set ⟨f.a, f.lo + i, 1⟩ 1 else s
/-- Clear bit i of a field. -/
def State.clrBit (f : Fld) (i : Nat) (s : State) : State := if s.bitOf f i then s.set ⟨f.a, f.lo + i, 1⟩ 0 else s

/-- Clear an observation latch; one that is set in the same fabric cycle stays set (R341). -/
def State.clrLatch (f : Fld) (i : Nat) (s : State) : State := if (s.newBits f.a).bit (f.lo + i) then s else s.clrBit f i

/-- The block number of an offset (Table 20.1), as DIRTY and the journal use it. -/
def blockOf (a : Nat) : Nat :=
  if a < 0x400 then 0 else if a < 0x800 then 1 else if a < 0xC00 then 2 else if a < 0x1000 then 3
  else if a < 0x2000 then 4 else if a < 0x3000 then 5 else if a < 0x3800 then 6 else if a < 0x3C00 then 7
  else if a < 0x4000 then 8 else if a < 0x4800 then 9 else if a < 0x5000 then 10 else if a < 0x5400 then 11
  else if a < 0x5800 then 12 else if a < 0x5C00 then 13 else if a < 0x6000 then 14 else if a < 0x6400 then 15
  else if a < 0x6800 then 16
  else if a < 0x40000 then 5          -- phrase store: REED
  else if a < 0x120000 then 3         -- tooth-error tables: WHL
  else if a < 0x140000 then 7         -- need table: INK
  else if a < 0x150000 then 10        -- accumulator table: ACC
  else if a < 0x160000 then 13        -- strokes: NIB
  else 0                              -- fallback plan: SYS

/-- R434: the shadow records the highest role that has written a register since the last COMMIT, and the block is
marked DIRTY. -/
def State.markDirty (s : State) (a role : Nat) : State :=
  let old := (assocGet a s.regs.writers).getD 0
  { s with regs := { s.regs with writers := assocPut a (max old role) s.regs.writers,
                                 dirty := insertNat (blockOf a) s.regs.dirty } }

/-- A word written into the live copy and the shadow copy at once (R85, R86, R214, R333, R374). -/
def State.putBoth (s : State) (a : Nat) (v : Word) (role : Nat) : State :=
  (((s.noteHost a).putWord a v).putShadow a v).markDirty a role

/-! Tables reached through index registers, in the same maps at offsets above the set-up space. -/

/-- Tooth-error and torsional entry idx: the word of WHL_TERR_DATA, and its 8 hidden fraction bits (R81, R85). -/
def terrAddr (idx : Nat) : Nat := 0x100000 + 4 * idx
/-- The 8 hidden fraction bits of table entry idx (R80, R82; log entry 11). -/
def terrFrac (idx : Nat) : Nat := 0x110000 + 4 * idx
/-- Need-table word idx (R214), and the 8 hidden fraction bits of a need. -/
def ptabAddr (idx : Nat) : Nat := 0x120000 + 4 * idx
/-- The 8 hidden fraction bits of need word idx (R214; log entry 11). -/
def ptabFrac (idx : Nat) : Nat := 0x130000 + 4 * idx
/-- Configuration word w (0 CFG, 1 WIN) of target t: accumulators 0 to 511, trackers 512 to 767 (R337). -/
def accAddr (t w : Nat) : Nat := 0x140000 + (2 * t + w) * 4
/-- Half h (0 LO, 1 HI) of stroke i of engine n (R374). -/
def strokeAddr (n i h : Nat) : Nat := 0x150000 + ((n * 64 + i) * 2 + h) * 4
/-- Word w of entry e of the fallback plan (R414). -/
def planAddr (e w : Nat) : Nat := 0x160000 + (e * 8 + w) * 4
/-- Half h of note n of quadrant q (R160). -/
def noteAddr (q n h : Nat) : Nat := 0x20000 + q * 0x8000 + 8 * n + 4 * h

/-! Units present (Table 0.1) and marked unusable (R7, Table 18.2) -/

def Part.banks : Part → Nat | .lva9612 => 12 | _ => 24
def Part.channels : Part → Nat | .lva9612 => 48 | _ => 96
def Part.quads : Part → Nat | .lva9612 => 2 | _ => 4
def Part.grds : Part → Nat | .lva9620 => 8 | .lva9612 => 4 | .lva9616 => 0
def Part.nibs : Part → Nat | .lva9612 => 4 | _ => 8
def Part.slur : Part → Bool | .lva9620 => true | _ => false

/-- A unit of Table 18.1 is marked as failed. -/
def State.failed (s : State) (block unit : Nat) : Bool := s.tst.marks.contains (block, unit)

/-- R454: a channel is unusable by its own VDS comparator or GL driver, or by a unit of its bank. -/
def State.chMarked (s : State) (n : Nat) : Bool :=
  let q := n / 24; let b := n / 4; let i := b % 6
  s.failed (20 + q) (n % 24) || s.failed (24 + q) (n % 24) || s.failed (16 + q) (2 * i) || s.failed (16 + q) (2 * i + 1)
    || s.failed (20 + q) (24 + 2 * i) || s.failed (20 + q) (25 + 2 * i) || s.failed (24 + q) (24 + i) || s.failed (24 + q) (30 + i)

/-- Channel n is present and not marked unusable (R3, R7). -/
def State.chUsable (s : State) (n : Nat) : Bool := decide (n < s.part.channels) && !s.chMarked n
def State.grdMarked (s : State) (g : Nat) : Bool := s.tst.marks.any (fun m => m.1 == 8 + g)
/-- Guardian g is present and not marked unusable (R3, R7). -/
def State.grdUsable (s : State) (g : Nat) : Bool := decide (g < s.part.grds) && !s.grdMarked g
/-- The boost controller of quadrant q is present and not marked unusable (R3, R7). -/
def State.boostUsable (s : State) (q : Nat) : Bool := decide (q < s.part.quads) && !s.failed (24 + q) 36
def State.nibPresent (s : State) (n : Nat) : Bool := decide (n < s.part.nibs)
/-- The closing detector of bank b is present and not marked unusable (R3, R7). -/
def State.closeUsable (s : State) (b : Nat) : Bool := decide (b < s.part.banks) && !s.failed (3 + b / 6) (1 + b % 6)
/-- Converters 0 to 3 are the Q-converters, 4 and 5 the H-converters (R315). -/
def State.convUsable (s : State) (n : Nat) : Bool :=
  if n < 4 then decide (n < s.part.quads) && !s.failed (3 + n) 0 else decide (n < 6) && !s.failed 2 (n - 4)
/-- Window monitor n is not marked unusable (R7). -/
def State.wmUsable (s : State) (n : Nat) : Bool := decide (n < 8) && !s.failed 7 n
/-- Cam input n is not marked unusable (R7). -/
def State.camUsable (s : State) (n : Nat) : Bool := decide (n < 4) && !s.failed 1 (n + 1)
/-- The crank input is not marked unusable (R7). -/
def State.crankUsable (s : State) : Bool := !s.failed 1 0

/-- Whether the unit of a register row is there (R3, R7). -/
def State.unitThere (s : State) (k : UKind) (i : Nat) : Bool :=
  match k with
  | .none => true
  | .channel => s.chUsable i
  | .bank => decide (i < s.part.banks)
  | .quad => decide (i < s.part.quads)
  | .boost => s.boostUsable i
  | .grd => s.grdUsable i
  | .conv => s.convUsable i
  | .wmon => s.wmUsable i
  | .nib => s.nibPresent i

/-! Elements -/

def State.bank (s : State) (b : Nat) : Bank := s.banks.getD b Bank.initial
def State.chan (s : State) (n : Nat) : Chan := s.sch.chans.getD n Chan.initial
def State.quad (s : State) (q : Nat) : Quad := s.quads.getD q Quad.initial
def State.grd (s : State) (g : Nat) : Grd := s.grds.getD g Grd.initial
def State.tmr (s : State) (n : Nat) : Tmr := s.tmrs.getD n Tmr.initial
def State.nib (s : State) (n : Nat) : Nib := s.nibs.getD n Nib.initial
def State.ring (s : State) (r : Nat) : Ring := s.hif.rings.getD r Ring.initial
def State.thread (s : State) (b t : Nat) : Thread := (s.bank b).threads.getD t Thread.initial
def State.event (s : State) (id : Nat) : Option Event := s.sch.store.find? (fun e => e.id == id)

def State.modBank (s : State) (b : Nat) (f : Bank → Bank) : State := { s with banks := modAt s.banks b f }
def State.modChan (s : State) (n : Nat) (f : Chan → Chan) : State :=
  { s with sch := { s.sch with chans := modAt s.sch.chans n f } }
def State.modQuad (s : State) (q : Nat) (f : Quad → Quad) : State := { s with quads := modAt s.quads q f }
def State.modGrd (s : State) (g : Nat) (f : Grd → Grd) : State := { s with grds := modAt s.grds g f }
def State.modTmr (s : State) (n : Nat) (f : Tmr → Tmr) : State := { s with tmrs := modAt s.tmrs n f }
def State.modNib (s : State) (n : Nat) (f : Nib → Nib) : State := { s with nibs := modAt s.nibs n f }
def State.modRing (s : State) (r : Nat) (f : Ring → Ring) : State :=
  { s with hif := { s.hif with rings := modAt s.hif.rings r f } }
def State.modThread (s : State) (b t : Nat) (f : Thread → Thread) : State :=
  s.modBank b (fun k => { k with threads := modAt k.threads t f })
def State.modEvent (s : State) (id : Nat) (f : Event → Event) : State :=
  { s with sch := { s.sch with store := s.sch.store.map (fun e => if e.id == id then f e else e) } }
def State.modStore (f : Event → Event) (s : State) : State :=
  { s with sch := { s.sch with store := s.sch.store.map f } }
/-- The event leaves the store and every list of waiting events (R119). -/
def State.dropEvent (s : State) (id : Nat) : State :=
  { s with sch := { s.sch with store := s.sch.store.filter (fun e => e.id != id) },
           banks := s.banks.map (fun k => { k with waiting := k.waiting.filter (fun i => i != id) }) }

/-- The present time base value. -/
def State.now (s : State) : Tb := s.clk.tb

/-- The device is in ARMED to SAFESTOP (codes 0x6 to 0xB). -/
def Mode.operating (m : Mode) : Bool := decide (6 ≤ m.code)
/-- ARMED, SEEK, HALF, FULL or SUSPECT. -/
def Mode.engine (m : Mode) : Bool := decide (6 ≤ m.code) && decide (m.code ≤ 10)
/-- DORMANT or VIGIL. -/
def Mode.asleep (m : Mode) : Bool := m == .dormant || m == .vigil

/-- The modes in which guardians meter; in BOOT they do so once the die link is trained (Table 9.5). -/
def Mode.meters (m : Mode) : Bool := m == .setup || m == .maint || m.operating || m == .vigil

/-- The rail accounts start at ALLOW: nothing is booked, and a sub-window begins (R212). -/
def State.railsFresh (s : State) : State :=
  { s with ink := { s.ink with rails := s.ink.rails.map (fun _ =>
      { Rail.initial with endAt := s.now, endAon := s.clk.aon, armed := true }) } }

/-- SYS_MODE follows a transition; PREV keeps the mode before it (Table 20.3). At each entry to a mode in which guardians meter
the rail accounts start anew, whichever mode was left (R212, log entry 48). -/
def State.setMode (s : State) (m : Mode) : State :=
  if s.sys.mode = m then s
  else
    let t : State := { s with sys := { s.sys with mode := m, prev := s.sys.mode } }
    if m.meters then t.railsFresh else t

/-! Interrupt sources (R382 to R386) -/

/-- The coalescing group of a source (Table 15.1). -/
def srcGroup (n : Nat) : Nat :=
  if n < 8 then 0 else if n < 12 then 1 else if n < 16 then 2 else if n < 17 then 3 else if n < 21 then 4
  else if n < 25 then 5 else if n < 26 then 6 else if n < 27 then 7 else if n < 28 then 8 else if n < 36 then 9
  else if n < 44 then 10 else if n < 52 then 11 else if n < 60 then 12 else if n < 61 then 13 else if n < 63 then 14 else 15

/-- R6, R7: the source's unit is there. -/
def State.srcThere (s : State) (n : Nat) : Bool :=
  if n < 8 then s.grdUsable n else if n < 12 then decide (n - 8 < s.part.quads)
  else if 28 ≤ n ∧ n < 36 then s.nibPresent (n - 28) else if n = 62 then s.part.slur else decide (n < 64)

/-- COUNT of a coalescing group; group 15 is fixed at 1 (R386). -/
def State.groupCount (s : State) (k : Nat) : Nat := if k < 15 then s.get (F.EVC_COAL_COUNT k) else 1

/-- A source is in some target's presented set. -/
def Evc.presented (e : Evc) (n : Nat) : Bool := e.targets.any (fun t => t.pres.contains n)

/-- The numbers of the pending sources of a group. -/
def Evc.makeReady (e : Evc) (k : Nat) : Evc :=
  { e with srcs := e.srcs.mapIdx (fun n x => if srcGroup n = k && x.pend then { x with ready := true } else x) }

/-- One occurrence counted in group k (R386): the count adds one, the timer starts at the first, and the group becomes
ready when the count reaches COUNT. -/
def Evc.countGroup (e : Evc) (k lim : Nat) (now : Tb) : Evc :=
  let g := e.groups.getD k Group.initial
  let g' : Group := { count := g.count + 1, since := some (g.since.getD now), ready := g.ready || decide (lim ≤ g.count + 1) }
  let e' := { e with groups := setAt e.groups k g' }
  if g'.ready then e'.makeReady k else e'

/-- R383, R394: a source becomes pending, or folds an occurrence, or keeps it until its completion. An occurrence in the fabric
cycle of the claim is folded before it (R396). -/
def Src.occur (x : Src) (presented now : Bool) : Src :=
  if x.claimed then (if now then { x with fold := min (x.fold + 1) 255 } else { x with late := x.late + 1 })
  else if x.pend || presented then { x with fold := min (x.fold + 1) 255 }
  else { x with pend := true, fold := 1 }

/-- R397: the modes in which the concentrator runs. -/
def Mode.evcRuns (m : Mode) : Bool := m != .off && m != .dormant && m != .vigil

/-- An occurrence of source n (R382, R383, R386). -/
def State.raise (n : Nat) (s : State) : State :=
  if s.srcThere n && s.sys.mode.evcRuns then
    let e := { s.evc with srcs := modAt s.evc.srcs n (fun x => x.occur (s.evc.presented n) (s.regs.same.claims.contains n)) }
    ({ s with evc := e.countGroup (srcGroup n) (s.groupCount (srcGroup n)) s.now } : State).inCycle
      (fun m => { m with occ := insertNat n m.occ })
  else s

/-! Alarms (R302 to R304) -/

/-- The level from which alarms fold (R304). -/
def foldLevel : Nat := 192

/-- µs between two stamps. -/
def usBetween (a b : Tb) : Nat := elapsed a b / 800

/-- R304: the REPEAT record of the alarm's ID takes it, or is created at the tail. -/
def foldAlarm (a : Alarm) (l : List Alarm) : List Alarm :=
  if l.any (fun x => x.rep && x.id == a.id) then
    l.map (fun x => if x.rep && x.id == a.id then { x with count := min (x.count + 1) 0xFFFFFF, last := a.time } else x)
  else l ++ [{ a with rep := true, count := 1 }]

/-- R304: an alarm enters the FIFO in the order raised, or folds from 192 entries upward; its counter adds one. -/
def State.alarm (id sub data : Nat) (data2 : Nat) (s : State) : State :=
  let a : Alarm := { id := id, sub := sub, time := s.now, data := data % 2 ^ 24, data2 := Word.ofN data2, rep := false,
                     count := 0, last := s.now }
  let fold := decide (foldLevel ≤ s.hif.alarms.length)
  let l := if fold then foldAlarm a s.hif.alarms else s.hif.alarms ++ [a]
  let s := { s with hif := { s.hif with alarms := l } }
  let s := s.count (F.HIF_ALMCNT_COUNT id)
  let s := if fold then s.count F.HIF_REPEAT_CNT_COUNT else s
  if s.get F.HIF_ALM_HIGH_LEVEL < l.length then s.set F.HIF_ALM_HIGH_LEVEL l.length else s

/-! Trace and telemetry staging (R305 to R307) -/

/-- Staging for telemetry records (R307, Table 11.11). -/
def teleRoom : Nat := 6144
/-- Staging for trace records (R307, Table 11.11). -/
def traceRoom : Nat := 3072
/-- Staging for results and completions (R307, Table 11.11). -/
def resultRoom : Nat := 512

/-- A record of ring r is lost: it waits for the ring's GAP record and is counted (R306). -/
def State.lose (r : Nat) (trk : Bool) (s : State) : State :=
  let g : Gap := ((s.ring r).gap).getD { acc := 0, trk := 0, first := s.now, last := s.now }
  let g : Gap := if trk then { g with trk := g.trk + 1, last := s.now } else { g with acc := g.acc + 1, last := s.now }
  let s := s.modRing r (fun x => { x with gap := some g })
  if r = 18 then s.count F.HIF_XQLOST_CNT_COUNT else s.count F.HIF_TQLOST_CNT_COUNT

/-- A telemetry record goes to the staging of TQ n, ahead of it the GAP record of the losses before it; without room it
is lost (R306, R307). -/
def State.stageTele (n : Nat) (words : List Word) (ev : Option Nat) (trk : Bool) (s : State) : State :=
  let r := 13 + n
  if s.hif.tele.length < teleRoom then
    let rec' : TeleRec := { ring := r, words := words, ev := ev, trk := trk, gap := (s.ring r).gap }
    let s := s.modRing r (fun x => { x with gap := none })
    { s with hif := { s.hif with tele := s.hif.tele ++ [rec'] } }
  else s.lose r trk

/-- A trace record (R305) of TYPE t: word 0 [15:0], the time of its cause, word 2 [31:8] and word 3. Its kind's bit in
HIF_TRACE, as the last sweep took it (R314), and the XQ must be enabled; without room it is lost. -/
def State.trace (t bit low : Nat) (time : Tb) (mid w3 : Nat) (s : State) : State :=
  if s.hif.kinds.testBit bit && s.flag (F.HIF_RCFG_EN 18) then
    if s.hif.trace.length < traceRoom then
      let ws := [Word.ofN (low % 2 ^ 16 + t * 2 ^ 16), Word.ofN time.toNat,
                 Word.ofN (time.toNat / 2 ^ 32 + (mid % 2 ^ 24) * 2 ^ 8), Word.ofN w3]
      let rec' : TeleRec := { ring := 18, words := ws, ev := none, trk := false, gap := (s.ring 18).gap }
      let s := s.modRing 18 (fun x => { x with gap := none })
      { s with hif := { s.hif with trace := s.hif.trace ++ [rec'] } }
    else s.lose 18 false
  else s

/-! Results (R299, R300) -/

/-- A result or completion goes to the staging of CQ n. -/
def State.pushResult (cq : Nat) (words : List Word) (s : State) : State :=
  { s with hif := { s.hif with results := s.hif.results ++ [{ cq := cq, words := words }] } }

/-- The CQ of a source of events: the CQ bound to its SQ, or FB_CQ for the plan (R299, R310). -/
def State.cqOf (s : State) (src : Nat) : Nat :=
  if src < 8 then s.get (F.HIF_RCFG_CQ src) else s.get F.HIF_FBCFG_FB_CQ

/-- R310: results of the plan are written only while FB_RES is 1. -/
def State.resultWanted (s : State) (src : Nat) : Bool := decide (src < 8) || s.flag F.HIF_FBCFG_FB_RES

/-- A result that carries CODE, CH, SRC, TYPE, COUNT and TAG only (R299). -/
def shortResult (code ch src count : Nat) (tag : Word) : List Word :=
  [Word.ofN (code + place 5 7 ch + place 12 4 src + place 20 7 count), tag, 0, 0, 0, 0, 0, 0]

/-- Write a short result (rejections, refusals, removals, tag operations). -/
def State.short (code ch src count : Nat) (tag : Word) (s : State) : State :=
  if s.resultWanted src then s.pushResult (s.cqOf src) (shortResult code ch src count tag) else s

/-- Result and reject codes (Table 11.7). -/
def Code.ok : Nat := 0
def Code.late : Nat := 1
def Code.stale : Nat := 2
def Code.merged : Nat := 3
def Code.shifted : Nat := 4
def Code.truncated : Nat := 5
def Code.substituted : Nat := 6
def Code.budget : Nat := 7
def Code.duty : Nat := 8
def Code.overlap : Nat := 9
def Code.syncHold : Nat := 10
def Code.overCurrent : Nat := 11
def Code.noKink : Nat := 12
def Code.absent : Nat := 13
def Code.badPhrase : Nat := 14
def Code.badAnchor : Nat := 15
def Code.queueFull : Nat := 16
def Code.claimConflict : Nat := 17
def Code.role : Nat := 18
def Code.journalFull : Nat := 19

/-! Roles and the set-up port (R14, R264, R280) -/

/-- The role an access on a port carries: 0 operator, 1 installer, 2 maker (R280). -/
def State.roleOf (s : State) (p : Port) : Nat := if s.sec.role ≠ 0 ∧ s.sec.port = p then s.sec.role else 0

/-- The set-up port serves accesses: not busy (R264), and not in BOOT (R423), DORMANT, VIGIL (R270) or OFF. -/
def State.portOpen (s : State) : Bool :=
  s.sys.busy.isNone && !(s.sys.mode == .boot || s.sys.mode == .dormant || s.sys.mode == .vigil || s.sys.mode == .off)

/-- An access from the session's port restarts its idle count (R432). -/
def State.touch (s : State) (p : Port) : State :=
  if s.sec.role ≠ 0 ∧ s.sec.port = p then { s with sec := { s.sec with idle := 0 } } else s

/-- A write while the port does not serve it: counted in SYS_REFUSED while busy (R264), else dropped. -/
def State.dropWrite (s : State) (p : Port) : State :=
  let s := if s.sys.busy.isSome then s.count F.SYS_REFUSED_COUNT else s
  if p = .spi ∧ s.sys.busy.isSome then { s with hif := { s.hif with spiRefused := true } } else s

/-- A refused field: the access is counted in SEC_ROLE_DENY (R15). -/
def State.deny (s : State) (p : Port) : State :=
  let s := s.count F.SEC_ROLE_DENY_COUNT
  if p = .spi then { s with hif := { s.hif with spiRefused := true } } else s

/-- A set-up write that acts: the shared way in of every write command. The write is dropped where the port does not
serve it. -/
def State.onWrite (s : State) (p : Port) (f : State → State) : State :=
  if s.portOpen then f (s.touch p) else s.dropWrite p

/-- A set-up write with a 1 in a write-only bit that needs a role (R15). -/
def State.onRole (s : State) (p : Port) (role : Nat) (f : State → State) : State :=
  s.onWrite p (fun s => if role ≤ s.roleOf p then f s else s.deny p)

/-- Reads answer 0xB0B0_B0B0 where the port does not serve them (R264, R270, R423). -/
def busyWord : Nat := 0xB0B0B0B0

/-- A set-up read returns v. -/
def State.answer (s : State) (v : Nat) : State := { s with ans := { s.ans with read := some v } }

/-- A set-up read: the shared way in of every read command. -/
def State.onRead (s : State) (p : Port) (f : State → State) : State :=
  if s.portOpen then f (s.touch p) else s.answer busyWord

/-- The next free value (log entry 4). -/
def State.draw (s : State) : BitVec 64 × State := (Config.freeValue s.freeCtr, { s with freeCtr := s.freeCtr + 1 })

/-- The cycle of 720 °CA and the revolution of 360 °CA in at (R12). -/
def cycleAt : Nat := 2949120
/-- 360 °CA in at (Table 0.3). -/
def revAt : Nat := 1474560

end Sys2Proof.Machine
end

