-- ==== Sys2Proof/Machine/Bus.lean ====
section
/-! DEFINITION. The fields of a set-up register under a write (R14 to R19, R434): which the role may write, and which copies
take them. -/

namespace Sys2Proof.Machine

/-- The indices of a distance into an array of the given dimensions (count, stride), outermost first. -/
def dimIdx : List (Nat × Nat) → Nat → Option (List Nat)
  | [], d => if d = 0 then some [] else none
  | (c, st) :: ds, d => if d / st < c then (dimIdx ds (d % st)).map (fun l => (d / st) :: l) else none

/-- The register row of an offset, with its indices. -/
def rowAt (a : Nat) : Option (RegRow × List Nat) :=
  (regPageOf a).findSome? (fun r => if r.base ≤ a then (dimIdx r.dims (a - r.base)).map (fun l => (r, l)) else none)

/-- The wheel tracker's registers go with the crank front-end, those of a cam input with the input (Table 18.2), and the
slur link's with the part (Table 0.1). -/
def State.blockThere (s : State) (a : Nat) : Bool :=
  if R.WHL_CAMCFG 0 ≤ a ∧ a < R.WHL_CAMREF then s.camUsable ((a - R.WHL_CAMCFG 0) / 4)
  else if R.WHL_CAM_ANG 0 0 ≤ a ∧ a < R.WHL_ACLK_CTRL then s.camUsable ((a - R.WHL_CAM_ANG 0 0) / 64)
  else if R.WHL_CTRL ≤ a ∧ a < R.WHL_ACLK_CTRL then s.crankUsable
  else if R.SET_CFG ≤ a ∧ a < 0x6800 then s.part.slur
  else true

/-- Bits [w - 1 : 0] of each of n fields of w bits whose unit passes a test. -/
def unitBits (n w : Nat) (p : Nat → Bool) : Nat := ((upTo n).map (fun i => if p i then (2 ^ w - 1) * 2 ^ (w * i) else 0)).sum

/-- The bits of a word whose units are there, in the registers that hold one field for each guardian, bank or converter (R3, R7); VR is a bit of
CAM0 alone (R63). -/
def State.bitsThere (s : State) (a : Nat) : Nat :=
  if a = R.CMP_HYSGFT ∨ a = R.CMP_HYSGREV then unitBits 8 3 s.grdUsable
  else if R.INK_BKRAIL 0 ≤ a ∧ a ≤ R.INK_BKRAIL 2 then
    unitBits 8 4 (fun i => decide (2 * (a - R.INK_BKRAIL 0) + i < s.part.banks))
  else if a = R.ADC_CTRL then unitBits 6 1 s.convUsable * 257
  else if R.WHL_CAMCFG 1 ≤ a ∧ a ≤ R.WHL_CAMCFG 3 then 2 ^ 32 - 1 - 2
  else 2 ^ 32 - 1

/-- The register of an offset exists and its unit is there (R3, R7); an installer's field of an absent unit is not. -/
def State.rowThere (s : State) (a : Nat) : Option RegRow :=
  match rowAt a with
  | some (r, l) =>
    if s.unitThere r.unit (l.headD 0) && s.blockThere a then some { r with i := r.i &&& s.bitsThere a } else none
  | none => none

/-- R14, R15, R428: the role of an access, by rank; a maker field takes only accesses in MAINT. -/
def State.mayMaker (s : State) (role : Nat) : Bool := decide (2 ≤ role) && s.sys.mode == .maint

/-- The index registers of R434: live only, whatever their suffix. -/
def indexReg (a : Nat) : Bool :=
  a == R.WHL_TERR_IDX || a == R.INK_PTAB_IDX || a == R.SYS_FBIDX || a == R.ACC_IDX || (upTo 8).any (fun n => a == R.NIB_SIDX n)

/-- R15: the write refuses at least one field of the row: it would change an installer's field, in the copy that the write
reaches, or it writes 1 to a write-only bit, without the role. A maker field written outside MAINT counts as refused too: R428
forbids the write, and that SEC_ROLE_DENY counts it is the model's choice (log entry 40). -/
def refuses (s : State) (r : RegRow) (a role : Nat) (v : Word) : Bool :=
  (decide (role < 1)
      && (((v ^^^ (if indexReg a then s.word a else s.shadowWord a)).toNat &&& r.i) != 0 || (v.toNat &&& r.woI) != 0))
    || (!s.mayMaker role && (v.toNat &&& r.woM) != 0)

/-- A write of the fields of row r at offset a (R434): operator fields reach the live copy, and with an Image reset the
shadow copy too; installer fields reach the shadow copy; W1C bits clear in the live copy, but for those that the device has set
in the same fabric cycle (R16). What an MQ command has written in that cycle stands (R297). -/
def State.rowWrite (r : RegRow) (p : Port) (a : Nat) (v : Word) (s : State) : State :=
  let role := s.roleOf p
  let imask := if 1 ≤ role then r.i else 0
  let imask := imask - (imask &&& s.mqBits a)
  let omask := r.o - (r.o &&& s.mqBits a)
  let live := mergeMask (if indexReg a then omask ||| imask else omask) (s.word a) v
  let gone := v.toNat &&& r.w1c
  let gone := gone - (gone &&& (s.newBits a).toNat)
  let live := Word.ofN (live.toNat - (live.toNat &&& gone))
  let smask := if indexReg a then 0 else imask ||| (omask &&& r.img)
  let shadow := mergeMask smask (s.shadowWord a) v
  let deny := refuses s r a role v
  let s := (s.noteHost a).putWord a live
  let s := if smask = 0 then s else (s.putShadow a shadow).markDirty a role
  if deny then s.deny p else s

/-- A field write at an offset; an offset that no register has, or whose unit is absent, ignores it (R262, R3). -/
def State.fieldsWrite (p : Port) (a : Nat) (v : Word) (s : State) : State :=
  match s.rowThere a with
  | some r => s.rowWrite r p a v
  | none => s

/-- A write that reaches the register at offset a, followed by the effect of its write-only fields where its unit is
there: the shared way of the write commands. -/
def State.busWrite (s : State) (p : Port) (a : Nat) (v : Word) (f : State → State) : State :=
  s.onWrite p (fun s => if (s.rowThere a).isSome then f (s.fieldsWrite p a v) else s)

/-- The port's role may write an installer's write-only field. -/
def State.isInstaller (s : State) (p : Port) : Bool := decide (1 ≤ s.roleOf p)

/-- The port's role may write a maker's field. -/
def State.isMaker (s : State) (p : Port) : Bool := s.mayMaker (s.roleOf p)

end Sys2Proof.Machine
end

