-- ==== Sys2Proof/Machine/Acc.lean ====
section
/-! DEFINITION. Windows of accumulators and trackers: opening, closing and their records, and the delivery of a sample
(R326 to R332). Targets are numbered 0 to 511 for accumulators and 512 to 767 for trackers. -/

namespace Sys2Proof.Machine

/-- A field of a target's configuration word (Table 12.9). -/
def accCfg (t lo w : Nat) : Fld := ⟨accAddr t 0, lo, w⟩
def accWsrc (t : Nat) : Fld := accCfg t 0 3
def accQuad (t : Nat) : Fld := accCfg t 3 2
def accTmr (t : Nat) : Fld := accCfg t 5 4
def accEn (t : Nat) : Fld := accCfg t 9 1
def accTq (t : Nat) : Fld := accCfg t 10 2
def accMarkEn (t : Nat) : Fld := accCfg t 12 1
def accMarkId (t : Nat) : Fld := accCfg t 13 8
def accSkip0 (t : Nat) : Fld := accCfg t 21 1
def accPeriod (t : Nat) : Fld := ⟨accAddr t 1, 0, 16⟩
def accOffset (t : Nat) : Fld := ⟨accAddr t 1, 16, 16⟩

/-- A target is a tracker. -/
def isTrk (t : Nat) : Bool := decide (512 ≤ t)

/-- The window of target t: accumulators 0 to 511, trackers 512 to 767. -/
def State.win (s : State) (t : Nat) : Win := (assocGet t s.adc.wins).getD Win.initial
def State.setWin (s : State) (t : Nat) (w : Win) : State := { s with adc := { s.adc with wins := assocPut t w s.adc.wins } }

/-- The angle clock runs (R65). -/
def State.clockRuns (s : State) : Bool := s.whl.sync == .half || s.whl.sync == .full || s.whl.sync == .suspect

/-- Open a target's window (R327, R328); epoch, SETTLE, EPOCH_DROP and catch-up carry over. -/
def State.openWin (t : Nat) (s : State) : State :=
  let w := s.win t
  if s.flag (accEn t) && !w.open' then
    s.setWin t { Win.initial with open' := true, openT := s.now, epoch := w.epoch, settle := w.settle, edrop := w.edrop,
                                  debt := w.debt, short := w.short }
  else s

/-- The window record of Table 12.6 of a close of target t. -/
def winRecord (t : Nat) (x : Shut) : List Word :=
  let w := x.win
  let now := x.time.toNat
  let trk := isTrk t
  let w0 := place 0 9 (if trk then t - 512 else t) + place 9 4 w.epoch + place 13 3 x.cause + place 16 4 (b2n trk)
            + place 20 8 w.settle + place 28 1 (b2n w.sat)
  if trk then
    [Word.ofN w0, Word.ofN (unsigned 16 w.mn + place 16 16 (unsigned 16 w.mx)), Word.ofN w.count, Word.ofN w.mnT.toNat,
     Word.ofN w.mxT.toNat, Word.ofN (w.mnT.toNat / 2 ^ 32 + place 8 8 (w.mxT.toNat / 2 ^ 32) + place 16 16 w.edrop),
     Word.ofN now, Word.ofN (now / 2 ^ 32 + place 8 16 (unsigned 16 w.last))]
  else
    let u := unsigned 40 w.sum
    [Word.ofN w0, Word.ofN u, Word.ofN (u / 2 ^ 32 + place 8 24 w.count), Word.ofN w.openT.toNat, Word.ofN now,
     Word.ofN (w.openT.toNat / 2 ^ 32 + place 8 8 (now / 2 ^ 32) + place 16 16 w.edrop), x.ang, x.tag]

/-- The close with CAUSE c of target t as it stands now; the TAG is that of the event whose phrase closes it under CAUSE 0 or 1. -/
def State.shutOf (s : State) (t c : Nat) (ev : Option Nat) : Shut :=
  { win := s.win t, cause := c, tag := match ev.bind s.event with | some e => e.tag | none => 0, ev := ev, time := s.now,
    ang := Word.ofN (s.ang.at' + place 22 8 s.ang.tag + place 30 1 (b2n s.clockRuns)) }

/-- With SKIP0 = 1 a close with COUNT 0 makes no record (R331). -/
def State.makes (s : State) (t : Nat) (x : Shut) : Bool := !(s.flag (accSkip0 t) && x.win.count == 0)

/-- The closes that the telemetry builder can hold (R331). -/
def builderRoom : Nat := 64

/-- The telemetry builder takes a close: its record goes to the staging of the target's TQ. A close that finds 64 waiting is lost (R331). -/
def State.stageClose (t : Nat) (x : Shut) (s : State) : State :=
  if !s.makes t x then s
  else if builderRoom ≤ s.adc.builder then s.lose (13 + s.get (accTq t)) (isTrk t)
  else
    let s : State := { s with adc := { s.adc with builder := s.adc.builder + 1 } }
    s.stageTele (s.get (accTq t)) (winRecord t x) x.ev (isTrk t)

/-- A close of this fabric cycle now reads y in place of x: its one record follows. -/
def State.reshut (t : Nat) (x y : Shut) (s : State) : State :=
  let s : State := s.inCycle (fun m => { m with shut := assocPut t y m.shut })
  if s.makes t x then
    { s with hif := { s.hif with tele := s.hif.tele.map (fun r =>
        if r.words = winRecord t x then { r with words := winRecord t y, ev := y.ev } else r) } }
  else s.stageClose t y

/-- Close a target's window with a CAUSE (R329, R331): one record to its TQ, unless SKIP0 spares an empty one; a continuous window
(WSRC 1 to 4) reopens when asked to. Of several closes in one fabric cycle the first makes the record, and it carries the lowest code. -/
def State.closeWin (t c : Nat) (ev : Option Nat) (reopen : Bool) (s : State) : State :=
  let w := s.win t
  if w.open' then
    let x := s.shutOf t c ev
    let again := assocGet t s.regs.same.shut
    let kept := again.isSome || !s.makes t x || decide (builderRoom ≤ s.adc.builder)
    let s : State := match again with
      | some y => if c < y.cause then s.reshut t y { y with cause := c, tag := x.tag, ev := ev } else s
      | none => (s.stageClose t x).inCycle (fun m => { m with shut := assocPut t x m.shut })
    let s : State := s.setWin t { Win.initial with epoch := w.epoch, settle := if kept then w.settle else 0,
                                                   edrop := if kept then w.edrop else 0, debt := w.debt, short := w.short }
    if reopen && decide (1 ≤ s.get (accWsrc t)) then s.openWin t else s
  else s

/-- A window takes a sample (R326, R327): COUNT stops at 0xFF_FFFF, and the record then carries SAT. -/
def Win.take (w : Win) (trk : Bool) (v : Int) (now : Tb) : Win :=
  let full := decide (w.count = 0xFFFFFF)
  let count := if full then w.count else w.count + 1
  let sat := decide (count = 0xFFFFFF)
  if trk then
    let w := if v < w.mn then { w with mn := v, mnT := now } else w
    let w := if w.mx < v then { w with mx := v, mxT := now } else w
    { w with last := v, count := count, sat := sat }
  else if full then w
  else { w with sum := w.sum + v, count := count, sat := sat }

/-- Deliver one sample of an entry's epoch (R326, R327, R333). In the fabric cycle of a close it belongs to the window that closes
(R329). -/
def State.sample (t : Nat) (v : Int) (epoch : Nat) (s : State) : State :=
  let w := s.win t
  match assocGet t s.regs.same.shut with
  | some x =>
    if s.flag (accEn t) then
      if epoch ≠ x.win.epoch then s.setWin t { w with edrop := min (w.edrop + 1) 0xFFFF }
      else s.reshut t x { x with win := x.win.take (isTrk t) v s.now }
    else s
  | none =>
    if s.flag (accEn t) && w.open' then
      if epoch ≠ w.epoch then s.setWin t { w with edrop := min (w.edrop + 1) 0xFFFF }
      else s.setWin t (w.take (isTrk t) v s.now)
    else s

/-- All targets with a configuration word or a window on record: the only ones that can be enabled. -/
def State.targets (s : State) : List Nat :=
  (upTo 768).filter (fun t => (WMap.find (accAddr t 0) s.regs.live).isSome)

/-- Close every open window that passes a test, with a CAUSE. -/
def State.closeAll (c : Nat) (reopen : Bool) (p : Nat → Bool) (s : State) : State :=
  (s.adc.wins.map Prod.fst).foldl (fun s t => if p t then s.closeWin t c none reopen else s) s

/-- Open every enabled target that passes a test. -/
def State.openAll (p : Nat → Bool) (s : State) : State :=
  s.targets.foldl (fun s t => if s.flag (accEn t) && p t then s.openWin t else s) s

/-! Urgent requests (R320) -/

def State.conv (s : State) (n : Nat) : Conv := s.adc.convs.getD n Conv.initial
def State.modConv (s : State) (n : Nat) (f : Conv → Conv) : State := { s with adc := { s.adc with convs := modAt s.adc.convs n f } }

/-- Converter n is being calibrated (R324). -/
def State.calibrating (s : State) (n : Nat) : Bool := match s.adc.cal with | some k => k.now == n | none => false

/-- An urgent request names entry e of converter n: queued, or dropped and counted (R320, R321, R324). -/
def State.urgent (n e : Nat) (s : State) : State :=
  if s.convUsable n && s.sys.mode.operating then
    let c := s.conv n
    if s.calibrating n || c.urg.contains e || decide (4 ≤ c.urg.length) then s.count F.ADC_URG_DROP_CNT_COUNT
    else s.modConv n (fun c => { c with urg := c.urg ++ [e] })
  else s

/-- The urgent requests that a MARK of a thread of quadrant q makes. -/
def State.markUrgent (q id : Nat) (s : State) : State :=
  (upTo 6).foldl (fun (s : State) n =>
    if n = q ∨ 4 ≤ n then
      (upTo 32).foldl (fun (s : State) e =>
        if s.flag (F.ADC_SEQB_MARK_TRIG n e) && s.get (F.ADC_SEQB_MARK_ID n e) == id && s.flag (F.ADC_SEQA_EN n e) then s.urgent n e
        else s) s
    else s) s

/-- A MARK closes every window whose MARK_EN, MARK_ID and QUAD name it (R328). -/
def State.markWins (q id : Nat) (s : State) : State :=
  s.closeAll 2 true (fun t => s.flag (accMarkEn t) && s.get (accMarkId t) == id && s.get (accQuad t) == q)

end Sys2Proof.Machine
end

