-- ==== Sys2Proof/Machine/Ink.lean ====
section
/-! DEFINITION. The inkwell (chapter 8): needs, projections, the admission decision, reservations, balances and learning.
Energies are held in nJ (log entry 10). -/

namespace Sys2Proof.Machine

/-- Index of word w of phrase p of quadrant q in the need table (Table 8.5). -/
def ptabIdx (q p w : Nat) : Nat := q * 256 + p * 4 + w
def needF (q p w : Nat) : Fld := ⟨ptabAddr (ptabIdx q p w), 0, 24⟩
def altF (q p : Nat) : Fld := ⟨ptabAddr (ptabIdx q p 2), 0, 6⟩
def altEnF (q p : Nat) : Fld := ⟨ptabAddr (ptabIdx q p 2), 6, 1⟩
def learnF (q p : Nat) : Fld := ⟨ptabAddr (ptabIdx q p 2), 7, 1⟩

/-- The guardian that INK_BKRAIL maps a bank to (Table 8.5). -/
def State.bankRail (s : State) (b : Nat) : Option Nat :=
  let w := s.word (R.INK_BKRAIL (b / 8)); let k := b % 8
  if w.bit (4 * k + 3) then some (w.bits (4 * k) 3) else none

/-- Guardian g is in ON or LIMIT. -/
def State.grdOnline (s : State) (g : Nat) : Bool :=
  s.grdUsable g && ((s.grd g).st == .on || (s.grd g).st == .limit)

/-- The ceiling of boost account q (R209), in nJ. -/
def State.boostTop (s : State) (q : Nat) : Int :=
  let v8 : Int := 320 + 2 * s.get (F.DRV_BSTCFG_VSET q) + s.get (F.DRV_BSTCFG_VHYST q)
  let vf : Int := s.get (F.INK_BSTCFG_VFLOOR q)
  (s.get (F.INK_BSTCFG_CAP q) : Int) * (v8 * v8 - 64 * vf * vf) * 125 / 16

/-- The measured debits of events of quadrant q whose results have not been written (R210). -/
def State.openDebits (s : State) (q : Nat) : Nat :=
  ((s.sch.store.filter (fun e => e.ch / 24 == q)).map (fun e => e.eBoost)).sum

/-- M of R210 from the controller's sense, in nJ. -/
def State.boostM (s : State) (q : Nat) : Int :=
  let v : Int := (s.quad q).vbst
  let vf : Int := s.get (F.INK_BSTCFG_VFLOOR q)
  (s.get (F.INK_BSTCFG_CAP q) : Int) * (v * v - 100 * vf * vf) * 5 + s.openDebits q

/-- R_FILL of boost account q in µW: 0 while its feeding guardian is off (R255), while the controller's driver is
under test (R453), and as last refreshed otherwise (R209). -/
def State.rFill (s : State) (q : Nat) : Nat :=
  if s.flag (F.INK_BSTCFG_GEN q) && !s.grdOnline (s.get (F.INK_BSTCFG_GRD q)) then 0
  else if s.tst.blockB == 24 + q then 0 else (s.quad q).rate

/-- The balance of rail account g (R212), in nJ. -/
def State.railBal (s : State) (g : Nat) : Int :=
  (s.get (F.INK_RALLOW_ALLOW g) : Int) * 1000 - (s.ink.rails.getD g Rail.initial).subs.sum

/-- Charges of the last DEV_WIN (R226), in nJ; AON ticks measure the window. -/
def State.devCharges (s : State) : Nat :=
  let win := s.get F.INK_DEVCFG_WIN * 32768 / 1000
  ((s.ink.charges.filter (fun c => s.clk.aon < c.1 + win)).map Prod.snd).sum

/-- The device account's balance, in nJ. -/
def State.devBal (s : State) : Int := (s.get F.INK_DEVALLOW_ALLOW : Int) * 1000 - (s.devCharges : Nat)

/-- An account's sense for R224: it is armed once its balance has been zero or above while it is enabled. A fall below zero then
places alarm 27 and raises source 60. -/
def deficit (sub : Nat) (bal : Int) (armed : Bool) (s : State) : State :=
  if bal < 0 ∧ armed then (s.alarm 27 sub 0 (unsigned 32 (bal / 1000))).raise 60 else s

/-- Store a boost balance, cut at B_TOP (R210), and watch for a deficit (R224). -/
def State.setBoost (q : Nat) (b : Int) (s : State) : State :=
  let b := min b (s.boostTop q)
  let s := if s.flag (F.INK_BSTCFG_EN q) then deficit q b (s.quad q).armed s else s
  s.modQuad q (fun x => { x with bal := b, armed := decide (0 ≤ b) })

/-- Watch rail account g for a deficit and for the deny condition (R224, R225). The condition holds while RDENY.EN is 1 and the
balance lies below -LVL; once it holds, only a sub-window end (fin), or EN at 0, takes it away (log entry 48). -/
def State.watchRail (g : Nat) (fin : Bool) (s : State) : State :=
  let b := s.railBal g
  let r := s.ink.rails.getD g Rail.initial
  let s := if s.flag (F.INK_RAILCFG_EN g) then deficit (4 + g) b r.armed s else s
  let lvl : Int := (s.get (F.INK_RDENY_LVL g) : Int) * 1000
  let dn := s.flag (F.INK_RDENY_EN g) && (decide (b < -lvl) || (r.deny && !fin))
  { s with ink := { s.ink with rails := modAt s.ink.rails g (fun x => { x with armed := decide (0 ≤ b), deny := dn }) } }

/-- The device account is armed where it is enabled and its balance stands, or has come back, at zero or above (R224). -/
def State.rearmDev (s : State) : State :=
  { s with ink := { s.ink with devArmed := s.flag F.INK_DEVCFG_EN && (s.ink.devArmed || decide (0 ≤ s.devBal)) } }

/-- Watch the device account for a deficit (R224). -/
def State.watchDev (s : State) : State :=
  let b := s.devBal
  let s := if s.flag F.INK_DEVCFG_EN then deficit 12 b s.ink.devArmed s else s
  { s with ink := { s.ink with devArmed := s.flag F.INK_DEVCFG_EN && decide (0 ≤ b) } }

/-- Charge the device account (R226), amount in µJ. Expired charges may have armed it before. -/
def State.chargeDev (uj : Nat) (s : State) : State :=
  let s := s.rearmDev
  State.watchDev { s with ink := { s.ink with charges := s.ink.charges ++ [(s.clk.aon, uj * 1000)] } }

/-- At each entry to ARMED, B is set to M (R211), and each account's arming starts afresh (R224). -/
def State.boostFresh (s : State) : State :=
  (upTo 4).foldl (fun s q => let b := min (s.boostM q) (s.boostTop q)
                             s.modQuad q (fun x => { x with bal := b, armed := decide (0 ≤ b) })) s

/-! Projections (R219). Times are signed distances from the present in tb. -/

/-- The reservation's start seen from now. -/
def State.off (s : State) (t : Tb) : Int := tbDiff t s.now

def boostAmt (r : Resv) (q : Nat) : Option Nat := r.boost.bind (fun x => if x.1 = q then some x.2 else none)
def railAmt (r : Resv) (g : Nat) : Option Nat := r.rail.bind (fun x => if x.1 = g then some x.2 else none)

/-- Insert a reservation into a list in start order. -/
def insResv (s : State) (r : Resv) : List Resv → List Resv
  | [] => [r]
  | x :: l => if s.off r.start < s.off x.start then r :: x :: l else x :: insResv s r l

/-- project(boost q, at): refill and the reservations before it, in start order. -/
def projBoost (s : State) (q : Nat) (at' : Int) : Int :=
  let rate : Int := s.rFill q; let top := s.boostTop q
  let rs := (s.ink.resv.filter (fun r => (boostAmt r q).isSome && decide (s.off r.start ≤ at'))).foldl
    (fun l r => insResv s r l) []
  let bt := rs.foldl (fun (bt : Int × Int) r =>
    let d := max 0 (s.off r.start - bt.2)
    (min top (bt.1 + rate * d / 800000) - ((boostAmt r q).getD 0 : Nat), max bt.2 (s.off r.start))) ((s.quad q).bal, 0)
  min top (bt.1 + rate * max 0 (at' - bt.2) / 800000)

/-- RWIN of rail account g in tb. -/
def State.rwin (s : State) (g : Nat) : Int := (s.get (F.INK_RAILCFG_RWIN g) : Int) * 800000

/-- project(rail g, at): ALLOW minus the sub-windows still in the window then, minus the reservations in it. -/
def projRail (s : State) (g : Nat) (at' : Int) : Int :=
  let r := s.ink.rails.getD g Rail.initial
  let w := s.rwin g
  let e0 := s.off r.endAt
  let used := (r.subs.mapIdx (fun i e => if at' - w < e0 - (i : Int) * (w / 16) then e else 0)).sum
  let res := ((s.ink.resv.filter (fun x => decide (at' - w < s.off x.start) && decide (s.off x.start ≤ at'))).map
    (fun x => (railAmt x g).getD 0)).sum
  (s.get (F.INK_RALLOW_ALLOW g) : Int) * 1000 - used - (res : Nat)

/-- The accounts that phrase p on bank b uses, with their amounts (R214, R216): boost q and rail g. -/
def State.amounts (s : State) (b p : Nat) : Option (Nat × Nat) × Option (Nat × Nat) :=
  let q := b / 6
  let nb := s.get (needF q p 0); let nr := s.get (needF q p 1)
  let boost := if nb ≠ 0 ∧ s.flag (F.INK_BSTCFG_EN q) then some (q, nb * 1000) else none
  let rail := match s.bankRail b with
    | some g =>
      if nr ≠ 0 ∧ s.flag (F.INK_RAILCFG_EN g) then
        let extra := if s.flag (F.INK_BSTCFG_GEN q) && s.get (F.INK_BSTCFG_GRD q) == g then
          nb * 100000 / s.get (F.INK_BSTCFG_EFF q) else 0
        some (g, nr * 1000 + extra)
      else none
    | none => none
  (boost, rail)

/-- covered, on the boost account. -/
def coveredBoost (s : State) (cls : Nat) (x : Nat × Nat) (at' : Int) : Bool :=
  s.boostUsable x.1 && decide ((s.get (F.INK_CRES_BRES cls) : Int) * 1000 ≤ projBoost s x.1 at' - x.2)
    && s.ink.resv.all (fun r => (boostAmt r x.1).isNone || decide (s.off r.start ≤ at')
      || decide (0 ≤ projBoost s x.1 (s.off r.start) - x.2))

/-- covered, on the rail account; a guardian that is neither ON nor in LIMIT covers nothing (R255). -/
def coveredRail (s : State) (cls : Nat) (x : Nat × Nat) (at' : Int) : Bool :=
  s.grdOnline x.1 && decide ((s.get (F.INK_CRES_RRES cls) : Int) * 16000 ≤ projRail s x.1 at' - x.2)
    && s.ink.resv.all (fun r => (railAmt r x.1).isNone || decide (s.off r.start ≤ at')
      || decide (0 ≤ projRail s x.1 (s.off r.start) - x.2))

/-- covered(p, at) of R219. -/
def covered (s : State) (cls b p : Nat) (at' : Int) : Bool :=
  let a := s.amounts b p
  (match a.1 with | some x => coveredBoost s cls x at' | none => true)
    && (match a.2 with | some x => coveredRail s cls x at' | none => true)

/-- The start, in tb from now, that the boost account asks for beyond at (R221), none if it never covers. -/
def shiftBoost (s : State) (cls : Nat) (x : Nat × Nat) (at' : Int) : Option Int :=
  let short := (x.2 : Int) + (s.get (F.INK_CRES_BRES cls) : Int) * 1000 - projBoost s x.1 at'
  if 0 < short then
    if s.rFill x.1 = 0 ∨ !s.boostUsable x.1 then none
    else some (at' + (short * 1000 + s.rFill x.1 - 1) / s.rFill x.1 * 800)
  else
    let bad := (s.ink.resv.filter (fun r => (boostAmt r x.1).isSome && decide (at' < s.off r.start)
      && decide (projBoost s x.1 (s.off r.start) - x.2 < 0))).map (fun r => s.off r.start)
    match bad with
    | [] => some at'
    | d :: ds => if s.rFill x.1 = 0 then none else some (ds.foldl max d + 800)

/-- The next sub-window end that brings cover on the rail account (R221). No shift reaches further than 12.75 ms beyond the start,
and a sub-window lasts 1 ms or more. -/
def shiftRail (s : State) (cls : Nat) (x : Nat × Nat) (at' : Int) : Option Int :=
  if coveredRail s cls x at' then some at' else
  if !s.grdOnline x.1 then none else
  let w := s.rwin x.1 / 16
  let e0 := s.off (s.ink.rails.getD x.1 Rail.initial).endAt
  let e1 := if w ≤ 0 then e0 else e0 + max 0 ((at' - e0) / w) * w
  ((List.range 33).map (fun (i : Nat) => e1 + (i : Int) * w)).find? (fun t => decide (at' < t) && coveredRail s cls x t)

/-- shift_needed (R221): the smallest d in whole µs, by at most four rounds. -/
def shiftNeeded (s : State) (cls b p : Nat) (start : Int) : Nat → Int → Option Nat
  | 0, _ => none
  | n + 1, d =>
    let a := s.amounts b p
    let t1 := match a.1 with | some x => shiftBoost s cls x (start + d * 800) | none => some (start + d * 800)
    let t2 := match a.2 with | some x => shiftRail s cls x (start + d * 800) | none => some (start + d * 800)
    match t1, t2 with
    | some u, some v =>
      let d' := max d ((max u v - start + 799) / 800)
      if covered s cls b p (start + d' * 800) then some d'.toNat else shiftNeeded s cls b p start n d'
    | _, _ => none

/-- What the inkwell decides (R219): admitted with a phrase, a shift in µs and marks; waiting for a reservation; or
refused with BUDGET. -/
inductive Ruling where
  | allow (p shift : Nat) (shifted subst forced : Bool)
  | refuse
  deriving DecidableEq, Repr

/-- The steps of decide(E) after the first test (R219, R220). -/
def policySteps (s : State) (cls b : Nat) (start : Int) : List Nat → Nat → Bool → Ruling
  | [], _, _ => .refuse
  | step :: rest, p, subst =>
    if step = 2 then
      match shiftNeeded s cls b p start 4 0 with
      | some d => if d ≤ s.get (F.INK_CLASS_SHIFT_MAX cls) * 50 then .allow p d true subst false
                  else policySteps s cls b start rest p subst
      | none => policySteps s cls b start rest p subst
    else if step = 3 then
      if s.flag (altEnF (b / 6) p) then
        let p' := s.get (altF (b / 6) p)
        if covered s cls b p' start then .allow p' 0 false true false else policySteps s cls b start rest p' true
      else policySteps s cls b start rest p subst
    else if step = 1 then .allow p 0 false subst true
    else .refuse

/-- decide(E) of R219 for phrase p of bank b, class cls, at a start seen from now; a THEN step equal to POLICY acts as
DENY, and DENY and FORCE use no THEN (R220). -/
def decideInk (s : State) (cls b p : Nat) (start : Int) : Ruling :=
  if covered s cls b p start then .allow p 0 false false false
  else
    let pol := s.get (F.INK_CLASS_POLICY cls); let thn := s.get (F.INK_CLASS_THEN cls)
    policySteps s cls b start (if thn = pol then [pol, 0] else [pol, thn]) p false

/-- Hold a reservation for an event (R216). -/
def State.reserve (ev b p : Nat) (start : Tb) (s : State) : State :=
  let a := s.amounts b p
  if a.1.isNone && a.2.isNone then s
  else { s with ink := { s.ink with resv := s.ink.resv ++ [{ ev := ev, boost := a.1, rail := a.2, start := start }] } }

/-- A reservation ends (R217). -/
def State.unreserve (ev : Nat) (s : State) : State :=
  { s with ink := { s.ink with resv := s.ink.resv.filter (fun r => r.ev != ev) } }

/-- R217: at a merge the boost amount of the merged event ends. -/
def State.unreserveBoost (ev : Nat) (s : State) : State :=
  { s with ink := { s.ink with resv := s.ink.resv.map (fun r => if r.ev == ev then { r with boost := none } else r) } }

/-- Re-key a reservation to a new projected start (R216). -/
def State.rekey (ev : Nat) (start : Tb) (s : State) : State :=
  { s with ink := { s.ink with resv := s.ink.resv.map (fun r => if r.ev == ev then { r with start := start } else r) } }

/-- One need of the table moves toward a measured energy (R214): the need with its 8 fraction bits, the weight 1/2^k. A need
that the installer has written in the same fabric cycle stands (R215). -/
def learnNeed (q p w x : Nat) (s : State) : State :=
  let i := ptabIdx q p w
  let cur : Int := (s.get (needF q p w) * 256 + (s.word (ptabFrac i)).toNat % 256 : Nat)
  let k := s.get F.INK_CTRL_LW + 2
  let new := (max 0 (cur + ((x * 256 : Nat) - cur) / (2 ^ k : Nat))).toNat
  if s.hostWrote (ptabAddr i) then s
  else (s.set (needF q p w) (min (new / 256) 0xFFFFFF)).putWord (ptabFrac i) (Word.ofN (new % 256))

/-- TON_eff of R191 in ns, from VBAT in 0.1 V. -/
def tonEff (s : State) (q vbat : Nat) : Nat :=
  let ton := s.get (F.DRV_BSTTIM_TON q) * 50
  if vbat = 0 then ton else min ton (s.get (F.DRV_BSTTIM_VT_MAX q) * 80000 / vbat)

/-- Energy of one pulse in nJ (R194): (VBAT × TON_eff)² / (2 × LIND). -/
def pulseNj (s : State) (q vbat : Nat) : Nat :=
  let l := s.get (F.DRV_BSTTIM_LIND q)
  let vt := vbat * tonEff s q vbat      -- 0.1 V × ns = 1e-10 V·s
  if l = 0 then 0 else vt * vt / (2 * l) / 100000

/-- R190: the modes in which boost controllers regulate. -/
def State.boostMode (s : State) (q : Nat) : Bool :=
  s.flag (F.DRV_BSTCFG_EN q) && s.sys.mode.engine && s.clk.dieTrained && s.boostUsable q && s.tst.blockB != 24 + q

/-- The VBAT of R209: the controller's sense, or the V_IN of the guardian with MSRC = 1 (R255). -/
def State.fillVbat (s : State) (q sense : Nat) : Nat :=
  if s.flag (F.INK_BSTCFG_MSRC q) then (s.grd (s.get (F.INK_BSTCFG_GRD q))).vin / 100 else sense

/-- R_FILL of R209 in µW. -/
def State.fillRate (s : State) (q sense : Nat) : Nat :=
  if s.boostMode q then
    let v := s.fillVbat q sense
    let t := tonEff s q v + s.get (F.DRV_BSTTIM_TOFF_MIN q) * 50
    let vt := v * tonEff s q v
    s.get (F.INK_BSTCFG_EFF q) * (vt * vt) / (20 * s.get (F.DRV_BSTTIM_LIND q) * t)
  else 0

/-- INK_BSTRATEq: R_FILL in whole mW, to the nearest (the 1,749 mW of chapter 8's example); a rate above 16 bits is a free value
(R228, log entry 48). -/
def State.bstRate (s : State) (q : Nat) : Nat :=
  let r := (s.rFill q + 500) / 1000
  if r ≤ 65535 then r else (Config.wideFill (s.rFill q)).toNat

end Sys2Proof.Machine
end

