-- ==== Sys2Proof/Machine/RingOps.lean ====
section
/-! DEFINITION. What the meanings ask of the rings: sizes, room, which submission ring may be served, completions of MQ
commands, and the store's stall of R120. -/

namespace Sys2Proof.Machine

/-- 2^LOG2SZ entries (R285). -/
def State.ringSize (s : State) (r : Nat) : Nat := 2 ^ s.get (F.HIF_RCFG_LOG2SZ r)

/-- Entries between a consumer and a producer index (R286). -/
def ringHeld (size p c : Nat) : Nat := (p + size - c % size) % size

/-- The ring engine runs (R290, Table 10.3). -/
def State.ringEngine (s : State) : Bool :=
  s.flag F.HIF_RCTRL_EN && s.sys.mode.operating && s.hif.up && s.hif.bme && !s.hif.d3

/-- A read of the doorbell line is issued (R294). -/
def State.doorbellRead (s : State) : State :=
  if s.ringEngine then { s with hif := { s.hif with dbReads := s.hif.dbReads + 1 } } else s

/-! Quadrant clocks (R34 to R38, Table 1.4) -/

/-- The time from an ungate request to the running clock: 40 ns. -/
def ungateTb : Nat := 32

/-- Quadrant q is asked to run: its clock goes on running, or runs 40 ns from now; the ring engine reads the doorbell line at
this wake (R38). A gate that closes in this very fabric cycle stays open (R36). -/
def State.askQuad (q : Nat) (s : State) : State :=
  let c := s.clk
  if c.qrun.getD q false then { s with clk := { c with qidle := setAt c.qidle q none } }
  else if s.regs.same.gates.contains q then
    { s with clk := { c with qrun := setAt c.qrun q true, qidle := setAt c.qidle q none } }
  else if (c.qreq.getD q none).isSome || !decide (q < s.part.quads) || !c.tbRun then s
  else ({ s with clk := { c with qreq := setAt c.qreq q (some s.now) } } : State).doorbellRead

/-- The quadrants whose 40 ns have passed run. -/
def State.tickQuads (s : State) : State :=
  let up := fun (q : Nat) => match s.clk.qreq.getD q none with | some t => decide (ungateTb ≤ elapsed t s.now) | none => false
  { s with clk := { s.clk with qrun := s.clk.qrun.mapIdx (fun q r => r || up q),
                               qreq := s.clk.qreq.mapIdx (fun q r => if up q then none else r) } }

/-- How long until quadrant q runs, in tb: nothing, the rest of the 40 ns, or all of them. -/
def State.untilRuns (s : State) (q : Nat) : Nat :=
  if s.clk.qrun.getD q false then 0
  else match s.clk.qreq.getD q none with | some t => ungateTb - elapsed t s.now | none => ungateTb

/-- Ring r is enabled, in service and not stopped by an error. -/
def State.ringLive (s : State) (r : Nat) : Bool := s.flag (F.HIF_RCFG_EN r) && (s.ring r).active && !(s.ring r).err

/-- An outbound ring has room: it holds fewer than SIZE - 1 records (R286). -/
def State.ringRoom (s : State) (r : Nat) : Bool :=
  s.ringLive r && decide (ringHeld (s.ringSize r) (s.ring r).idx (s.ring r).host + 1 < s.ringSize r)

/-- CQ n can take work's results: enabled and not full (R289, R296, R307). -/
def State.cqReady (s : State) (n : Nat) : Bool := s.ringRoom (9 + n)

/-- Submission ring sq or the MQ (r = 8) holds work. -/
def State.holdsWork (s : State) (r : Nat) : Bool := s.ringLive r && decide ((s.ring r).idx ≠ (s.ring r).host)

/-- It holds work, and its CQ can take the result. -/
def State.hasWork (s : State) (r : Nat) : Bool := s.holdsWork r && s.cqReady (s.get (F.HIF_RCFG_CQ r))

/-- The store's stall of R120 stops the class of SQ r. -/
def State.classStall (s : State) (r : Nat) : Bool :=
  decide (r < 8) && (if s.flag (F.HIF_RCFG_URGENT r) then s.hif.urgentStall else s.hif.normalStall)

/-- Nothing stops ring r from being consumed: R417 and R120 for an SQ, a held PHRASE_PARAM for the MQ (R297). -/
def State.mayFetch (s : State) (r : Nat) : Bool :=
  s.hasWork r && (if r = 8 then s.hif.mqHeld.isNone
    else !s.sys.fbFlag && !s.classStall r)

/-- The ring whose turn it is (R296): a turn under way goes on; then the MQ, the URGENT SQs in ring order, and the NORMAL
SQs round-robin from the one after the NORMAL SQ served last. -/
def State.turnOf (s : State) : Option Nat :=
  let next := if s.mayFetch 8 then some 8
    else match (upTo 8).find? (fun q => s.flag (F.HIF_RCFG_URGENT q) && s.mayFetch q) with
      | some q => some q
      | none => ((upTo 8).map (fun i => (s.hif.rr + 1 + i) % 8)).find? (fun q => s.mayFetch q)
  match s.hif.turn with
  | some (r, _) => if s.mayFetch r then some r else next
  | none => next

/-- SQ q may be served now. -/
def State.sqReady (s : State) (q : Nat) : Bool := decide (q < 8) && s.ringEngine && s.turnOf == some q

/-- The MQ may be served now (R297). -/
def State.mqReady (s : State) : Bool := s.ringEngine && s.turnOf == some 8

/-- HIF_RSTATr.STALLED: a submission ring in service that is not consumed, because its CQ is disabled or full or its class is stopped
(R289, R296, R307). -/
def State.stalled (s : State) (r : Nat) : Bool :=
  decide (r < 9) && s.ringLive r && (!s.cqReady (s.get (F.HIF_RCFG_CQ r)) || s.classStall r)

/-- The device's index of a submission ring moves past one entry (R286). A turn takes up to 8 entries and never wraps past
the ring's last slot (R296). -/
def State.advance (r : Nat) (s : State) : State :=
  let size := s.ringSize r
  let x := s.ring r
  let left := match s.hif.turn with
    | some (q, n) => if q = r then n else min 8 (min (ringHeld size x.host x.idx) (size - x.idx))
    | none => min 8 (min (ringHeld size x.host x.idx) (size - x.idx))
  let s := s.modRing r (fun x => { x with idx := (x.idx + 1) % size })
  { s with hif := { s.hif with turn := if left ≤ 1 then none else some (r, left - 1),
                                rr := if r < 8 ∧ !s.flag (F.HIF_RCFG_URGENT r) then r else s.hif.rr } }

/-- A completion record of TYPE 1 (R300): CODE, TAG, OPCODE with the MQ index, and word 3. -/
def State.completion (tag : Word) (op code w3 : Nat) (s : State) : State :=
  let now := s.now.toNat
  s.pushResult (s.get (F.HIF_RCFG_CQ 8))
    [Word.ofN (code + place 12 4 9 + place 16 4 1), tag, Word.ofN (op + place 16 16 (s.ring 8).idx), Word.ofN w3,
     Word.ofN now, Word.ofN (now / 2 ^ 32), 0, 0]

/-- An MQ command: it is executed only when the MQ may be served; f gives its effect and completion code, w3 the state it
reports afterwards. -/
def State.onMq (s : State) (tag : Word) (op : Nat) (f : State → Nat × State) (w3 : State → Nat) : State :=
  if s.mqReady then
    let r := f s
    ((r.2.completion tag op r.1 (w3 r.2))).advance 8
  else s

/-- SCH_FREE (R119). -/
def State.free (s : State) : Nat := 16384 - s.sch.store.length

/-- R120, R121: the stages of the store's stall follow SCH_FREE, with alarm 18 at each onset and end; SCH_FREE_LOW keeps
the lowest FREE. -/
def State.watchStore (s : State) : State :=
  let f := s.free
  let s := if f < s.get F.SCH_FREE_LOW_LOW then s.set F.SCH_FREE_LOW_LOW f else s
  let res := s.get F.SCH_STORE_RES_RES
  let s := if !s.hif.normalStall && decide (f ≤ res) then
      ({ s with hif := { s.hif with normalStall := true } } : State).alarm 18 0 f 0
    else if s.hif.normalStall && decide (res + 64 < f) then
      ({ s with hif := { s.hif with normalStall := false } } : State).alarm 18 1 f 0
    else s
  if !s.hif.urgentStall && decide (f = 0) then
    ({ s with hif := { s.hif with urgentStall := true } } : State).alarm 18 2 f 0
  else if s.hif.urgentStall && decide (64 ≤ f) then
    ({ s with hif := { s.hif with urgentStall := false } } : State).alarm 18 3 f 0
  else s

end Sys2Proof.Machine
end

