-- ==== Sys2Proof/Machine/Evt.lean ====
section
/-! DEFINITION. Events and where they stand (chapters 4 and 5): anchors, projected starts, the channel's queue, results, and
what sync changes do to the store (R105 to R107, R129). -/

namespace Sys2Proof

/-! Fields of a descriptor (Table 4.2) -/

def Descriptor.ch (d : Descriptor) : Nat := d.w0.bits 0 7
def Descriptor.phrase (d : Descriptor) : Nat := d.w0.bits 8 6
def Descriptor.anchor (d : Descriptor) : Nat := d.w0.bits 14 2
def Descriptor.eclass (d : Descriptor) : Nat := d.w0.bits 17 3
def Descriptor.op (d : Descriptor) : Nat := d.w0.bits 20 2
def Descriptor.ang (d : Descriptor) : Nat := d.w2.bits 0 22
def Descriptor.ctag (d : Descriptor) : Nat := d.w2.bits 22 8
def Descriptor.tagged (d : Descriptor) : Bool := d.w2.bit 30
def Descriptor.dur (d : Descriptor) : Nat := d.w7.bits 0 24
def Descriptor.durAngle (d : Descriptor) : Bool := d.w7.bit 24

end Sys2Proof

namespace Sys2Proof.Machine

/-- The live channel mode (Table 4.1): 0 OFF, 1 INJ, 2 SOL, 3 IGN, 4 LOG. New events are admitted by it. -/
def State.liveMode (s : State) (n : Nat) : Nat := s.get (F.SCH_CHCFG_MODE n)

/-- The channel mode in force: a new live one waits for the running phrase (R94). -/
def State.chMode (s : State) (n : Nat) : Nat := ((s.chan n).modeHeld).getD (s.liveMode n)

/-- The event has not started (R116). -/
def Event.unstarted (e : Event) : Bool := e.phase == .waiting || e.phase == .released

/-- The start stands on the anchor angle. -/
def Event.onAngle (e : Event) : Bool := e.start == .angle

/-- The channel's stale limit in at (R125). -/
def State.staleAt (s : State) (n : Nat) : Nat := s.get (F.SCH_POL_STALE n) * 1024

/-- R104: HALF_POL governs while the clock runs with the phase unknown. -/
def State.halfNow (s : State) : Bool := s.clockRuns && !s.whl.phaseKnown

/-- Signed distance in at from the clock to angle ang of cycle ctag; tags 0 to 127 ahead count as future (R100). -/
def State.angDist (s : State) (ang ctag : Nat) : Int :=
  signed 8 (ctag + 256 - s.ang.tag) * (cycleAt : Int) + (ang : Int) - (s.ang.at' : Int)

/-- R99: the distance to the one occurrence of ang, modulo span, from the clock minus the stale limit onward. -/
def State.nearest (s : State) (n ang span : Nat) : Int :=
  let d := (ang + span - s.ang.at' % span) % span
  if span - s.staleAt n ≤ d then (d : Int) - (span : Int) else (d : Int)

/-- The angle and cycle tag at a distance from the clock. -/
def State.angleAt (s : State) (d : Int) : Nat × Nat :=
  let t : Int := (s.ang.tag : Int) * (cycleAt : Int) + (s.ang.at' : Int) + d
  ((t % (cycleAt : Int)).toNat, (t / (cycleAt : Int) % 256).toNat)

/-- A waiting event whose channel's policy NEXT or TWIN places it modulo 360 °CA (R104). -/
def State.half360 (s : State) (e : Event) : Bool :=
  s.halfNow && e.phase == .waiting && e.half.isNone && decide (1 ≤ s.get (F.SCH_CHCFG_HALF_POL e.ch))

/-- Signed distance in at from the clock to the place of the event's anchor. -/
def State.anchorDist (s : State) (e : Event) : Int :=
  if s.half360 e then s.nearest e.ch e.ang revAt
  else match e.half with | some p => s.angDist p.1 p.2 | none => s.angDist e.ang e.ctag

/-- The time in tb that the clock takes for a distance at the present rate; beyond reach when the rate is 0. -/
def State.tbOver (s : State) (d : Int) : Int :=
  let r : Int := s.ang.rate
  if r = 0 then (if d ≤ 0 then 0 else 2 ^ 38)
  else if d ≤ 0 then d * 2 ^ 32 / r else (d * 2 ^ 32 - (s.ang.frac : Int) + r - 1) / r

/-- The angle that the clock covers in a time at the present rate. -/
def State.atOver (s : State) (t : Int) : Int := t * (s.ang.rate : Int) / 2 ^ 32

/-- The time in tb that an angle of d at takes at the present rate (R96, R124), rounded down; a free value while RATE is 0 (log
entry 44). -/
def State.tbFor (s : State) (d : Nat) : Nat :=
  if s.ang.rate = 0 then (Config.noRate d).toNat else d * 2 ^ 32 / s.ang.rate

/-- R108: the projected start, as a signed distance from now in tb. -/
def State.projStart (s : State) (e : Event) : Int :=
  match e.start with
  | .time t => tbDiff t s.now
  | .angle => s.tbOver (s.anchorDist e) + (if e.anchor = 2 then (e.delay : Int) else 0)

/-- A stamp at a signed distance from now. -/
def State.stampAt (s : State) (d : Int) : Tb := s.now + BitVec.ofInt 40 d

/-- The duration in tb (R96): as fixed, or from the descriptor, an angle at the rate in force. -/
def State.durOf (s : State) (e : Event) : Nat :=
  match e.durTb with
  | some d => d
  | none => if e.durAngle then s.tbFor e.dur else e.dur * 20

/-- The key of an event in its list: the distance to its anchor in the angle list, to its start in the time list (R108). -/
def State.listKey (s : State) (e : Event) : Int :=
  match e.start with
  | .angle => s.anchorDist e
  | .time t => tbDiff t s.now

/-- Earlier key first, then the lower ring, then the order of submission (R108, R109). -/
def State.before (s : State) (a b : Event) : Bool :=
  decide (s.listKey a < s.listKey b) || (decide (s.listKey a = s.listKey b) && decide (a.src < b.src))

/-- Insert behind every event that does not come after it. -/
def State.insertEvent (s : State) (e : Event) : List Event → List Event
  | [] => [e]
  | x :: l => if s.before e x then e :: x :: l else x :: s.insertEvent e l

/-- One of the channel's two lists: its events that have not started and whose start stands on the angle, or on a time. -/
def State.listOf (s : State) (n : Nat) (angle : Bool) : List Event :=
  (s.sch.store.filter (fun e => e.ch == n && e.unstarted && e.onAngle == angle)).foldl (fun l e => s.insertEvent e l) []

/-- Where the event stands in the store, which keeps the order of submission within a ring. -/
def State.placeIn (s : State) (e : Event) : Nat := s.sch.store.findIdx (fun x => x.id == e.id)

/-- The head a of the angle list goes before the head b of the time list: the earlier start, projected from the present clock and
rate, then the lower ring, then the order of submission (R108). -/
def State.angleFirst (s : State) (a b : Event) : Bool :=
  decide (s.projStart a < s.projStart b)
    || (decide (s.projStart a = s.projStart b) && (decide (a.src < b.src) || (a.src == b.src && decide (s.placeIn a < s.placeIn b))))

/-- The two lists as one queue, head by head (R108). -/
def State.mergeLists (s : State) : Nat → List Event → List Event → List Event
  | 0, as, bs => as ++ bs
  | _ + 1, [], bs => bs
  | _ + 1, as, [] => as
  | k + 1, a :: as, b :: bs =>
    if s.angleFirst a b then a :: s.mergeLists k as (b :: bs) else b :: s.mergeLists k (a :: as) bs

/-- The channel's queue: its events that have not started, in the order in which they become its next event (R108). -/
def State.queueOf (s : State) (n : Nat) : List Event :=
  s.mergeLists s.sch.store.length (s.listOf n true) (s.listOf n false)

/-- How many events of the channel have not started. -/
def State.depth (s : State) (n : Nat) : Nat := (s.sch.store.filter (fun e => e.ch == n && e.unstarted)).length

/-! Results -/

/-- The first name of R144 that applies, or the cause that stands in the list's place. -/
def resultCode (e : Event) : Nat :=
  match e.cause with
  | some c => c
  | none =>
    if e.flags.oc then Code.overCurrent else if e.flags.trunc then Code.truncated
    else if e.flags.subst then Code.substituted else if e.flags.merged then Code.merged
    else if e.flags.shifted then Code.shifted else if e.flags.late then Code.late
    else if e.flags.noKink then Code.noKink else Code.ok

/-- The FLAGS byte (Table 11.7, R301). -/
def flagsByte (f : EvFlags) : Nat :=
  b2n f.late + 2 * b2n f.shifted + 4 * b2n f.merged + 8 * b2n f.subst + 16 * b2n f.trunc + 32 * b2n f.noKink + 64 * b2n f.oc
    + 128 * b2n f.twin

/-- A mark slot of the result: floor((mark − START) / 1 µs) + 1, clamped to 1 to 8,191; 0 if not written. -/
def markField (start : Tb) : Option Tb → Nat
  | none => 0
  | some t => (clampI 1 8191 (tbDiff t start / 800 + 1)).toNat

/-- The event result of Table 11.5. -/
def resultWords (e : Event) : List Word :=
  if e.refused then shortResult (resultCode e) e.ch e.src e.count e.tag
  else
    let w0 := resultCode e + place 5 7 e.ch + place 12 4 e.src + place 20 7 e.count
    let close := match e.closing with | .kink d => min d 0x3FFFE | _ => 0x3FFFF
    let shift := min ((e.shift + e.waited) / 800) 16383
    let tail := [Word.ofN (close + place 18 14 shift)]
    if e.begun then
      let st := e.startT.toNat
      [Word.ofN w0, e.tag, Word.ofN st, Word.ofN (st / 2 ^ 32 + place 8 24 (min (elapsed e.startT e.endT / 20) 0xFFFFFF)),
       Word.ofN (e.startAng / 64 + place 16 16 (e.endAng / 64)),
       Word.ofN (flagsByte e.flags + place 8 1 (b2n e.angValid) + place 9 10 (min e.ipeak 1023)
         + place 19 13 (markField e.startT e.mark0))] ++ tail
        ++ [Word.ofN (min (e.eBoost / 1000) 65535 + place 16 13 (markField e.startT e.mark1))]
    else [Word.ofN w0, e.tag, 0, 0, 0, Word.ofN (flagsByte e.flags)] ++ tail ++ [0]

/-- A refused or removed event's result (R143, R144): written at once, or kept in the store while results staging is full
(R119, R307). Its reservation ends (R217). -/
def State.refuse (e : Event) (code : Nat) (s : State) : State :=
  let s := s.unreserve e.id
  if s.hif.results.length < resultRoom || !s.resultWanted e.src then
    ((s.short code e.ch e.src e.count e.tag).dropEvent e.id).watchStore
  else s.modEvent e.id (fun x => { x with refused := true, cause := some code, phase := .ended, closing := .noWatch })

/-- An event that leaves without a result (R113, R114, R105). -/
def State.remove (id : Nat) (s : State) : State := ((s.unreserve id).dropEvent id).watchStore

/-! Returning to waiting, sync loss, steps of the clock -/

/-- A converted time is discarded: the event stands on its angle again (R107). -/
def Event.unconvert (e : Event) : Event :=
  if e.conv then { e with start := .angle, conv := false, ran := e.flags.twin, half := if e.flags.twin then e.half else none } else e

/-- The start stands on a time that R101 fixed. -/
def Event.fixed (e : Event) : Bool := e.anchor == 2 && !e.onAngle && !e.conv

/-- A released event that goes back to waiting: what its release decided is undone (R106, R107, R408). -/
def Event.toWaiting (e : Event) : Event :=
  let e' := e.unconvert
  { e' with phase := .waiting, run := e.phrase, durTb := none, shift := 0, ran := if e.fixed then e.ran else e.flags.twin,
            half := if e.flags.twin || e.fixed then e.half else none,
            start := match e'.start with | .time t => .time (t - BitVec.ofNat 40 e.shift) | .angle => .angle,
            flags := { e.flags with shifted := false, subst := false, trunc := false } }

/-- Every released event that has not started returns to waiting, with its reservation (R107, R408). -/
def State.allToWaiting (s : State) : State :=
  let ids := (s.sch.store.filter (fun e => e.phase == .released)).map (fun e => e.id)
  ids.foldl (fun (s : State) id => (s.unreserve id).modEvent id Event.toWaiting) s

/-- R107: the store at a loss of sync. -/
def State.syncLoss (s : State) : State :=
  let s := s.allToWaiting
  if s.flag F.SCH_CTRL_LOSS_FLUSH then
    (s.sch.store.filter (fun e => e.unstarted)).foldl (fun (s : State) e => s.refuse e Code.syncHold) s
  else
    { s with sch := { s.sch with store := s.sch.store.map (fun e =>
        if e.phase == .waiting then e.unconvert else e) } }

/-- R107: once sync is regained an event that waits on its angle is judged anew under R99, where it names no cycle; a second TWIN
run anew under R104. Events admitted while the clock stood are judged with them (log entry 44). -/
def State.rejudge (s : State) (e : Event) : Event :=
  if e.phase == .waiting && e.onAngle then
    match e.half with
    | some p => { e with half := some (s.angleAt (s.nearest e.ch p.1 revAt)) }
    | none =>
      let p := s.angleAt (s.nearest e.ch e.ang cycleAt)
      if e.tagged then e else { e with ang := p.1, ctag := p.2 }
  else e

/-- R105: what an angle-anchored event that has not started does at the entry to FULL, none when it is removed. The clock
still stands before the step; step says whether it is about to move on by 360 °CA. A start that R101 has fixed is a time (log
entry 44), and a time converted under R103 stands. -/
def State.halfEvent (s : State) (step : Bool) (e : Event) : Option Event :=
  if e.unstarted && (e.onAngle || e.conv) && decide (e.anchor ≠ 1) then
    if s.get (F.SCH_CHCFG_HALF_POL e.ch) = 1 then
      let d := s.anchorDist e
      let p := s.angleAt (if step && decide (0 < d) then d + revAt else d)
      some { e with ang := p.1, ctag := p.2, half := none }
    else if e.flags.twin then none
    else some { e with half := none, ran := false }
  else some e

/-- R105 over the store. -/
def State.halfStep (step : Bool) (s : State) : State :=
  let gone := (s.sch.store.filter (fun e => (s.halfEvent step e).isNone)).map (fun e => e.id)
  let store := s.sch.store.filterMap (s.halfEvent step)
  let s := { s with sch := { s.sch with store := store } }
  (gone.foldl (fun (s : State) id => s.unreserve id) s).watchStore

/-- The angle horizon in at and the time horizon in tb (R110). -/
def State.hzAng (s : State) : Int := (s.get F.SCH_HORIZON_HZ_ANG : Int) * 4096
/-- SCH_HORIZON.HZ_TIME in tb (R110). -/
def State.hzTime (s : State) : Int := (s.get F.SCH_HORIZON_HZ_TIME : Int) * 8000

/-- R106: after a backward step, released events that wait on angle beyond the horizon go back to waiting. -/
def State.backStep (s : State) : State :=
  let ids := (s.sch.store.filter (fun e => e.phase == .released && e.onAngle && decide (s.hzAng < s.anchorDist e))).map
    (fun e => e.id)
  ids.foldl (fun (s : State) id => (s.unreserve id).modEvent id Event.toWaiting) s

/-- The angle of the last accepted tooth, from which the pitch under way began. -/
def State.toothAngle (s : State) : Nat := (s.ang.next + cycleAt - s.ang.pitchA % cycleAt) % cycleAt

/-- The distance from the last accepted tooth to the event's anchor. -/
def State.toothDist (s : State) (e : Event) : Int :=
  s.anchorDist e + (((s.ang.at' + cycleAt - s.toothAngle) % cycleAt : Nat) : Int)

/-- R104: a HOLD event is not placed while the phase is unknown. -/
def State.halfHold (s : State) (e : Event) : Bool :=
  s.halfNow && e.onAngle && decide (s.get (F.SCH_CHCFG_HALF_POL e.ch) = 0)

/-- The place modulo 360 °CA that R104 gives the event is kept with it, and whether it runs as a TWIN event. -/
def State.halved (s : State) (e : Event) : Event :=
  if s.half360 e then
    { e with half := some (s.angleAt (s.anchorDist e)), ran := s.get (F.SCH_CHCFG_HALF_POL e.ch) == 2 }
  else e

/-- R103: a TIME-locked anchor between the last accepted tooth and the next expected one is converted to a time. -/
def State.convertEvent (s : State) (e : Event) : Event :=
  let d := s.toothDist e
  match s.whl.last with
  | some ts =>
    if s.clockRuns && e.unstarted && e.lockTime && e.onAngle && decide (e.anchor ≠ 1) && !s.halfHold e && decide (0 ≤ d)
        && decide (d < (s.ang.pitchA : Int)) && decide (s.ang.rate ≠ 0) then
      let t := tbAdd ts (d.toNat * 2 ^ 32 / s.ang.rate + (if e.anchor = 2 then e.delay else 0))
      { s.halved e with start := .time t, conv := true }
    else e
  | none => e

/-- R103 over the store, at an accepted edge. -/
def State.convertLocks (s : State) : State :=
  { s with sch := { s.sch with store := s.sch.store.map s.convertEvent } }

/-- R216: at an accepted edge, reservations of ANGLE-locked events follow their new projected starts. -/
def State.rekeyAll (s : State) : State :=
  (s.sch.store.filter (fun e => e.phase == .released && e.onAngle && !e.lockTime)).foldl
    (fun s e => s.rekey e.id (s.stampAt (s.projStart e))) s

/-- R129: on entry to SUSPECT each COAST channel starts its count. -/
def State.startCoast (s : State) : State :=
  { s with sch := { s.sch with chans := s.sch.chans.mapIdx (fun n c =>
      let k := s.get (F.SCH_POL_COAST_TEETH n)
      { c with coast := if s.get (F.SCH_POL_SUSP n) = 1 ∧ k ≠ 0 then some k else none }) } }

/-- R129: an accepted edge in SUSPECT, the entering one first, uses one of the count; from the edge after the count the channel
holds. -/
def State.coastEdge (s : State) : State :=
  { s with sch := { s.sch with chans := s.sch.chans.map (fun c =>
      { c with coast := c.coast.bind (fun k => if k = 0 then none else some (k - 1)) }) } }

/-- SUSPECT is left (R131). -/
def State.endCoast (s : State) : State :=
  { s with sch := { s.sch with chans := s.sch.chans.map (fun c => { c with coast := none }) } }

/-- Table 1.6: the sync state lets channel n release and start events. -/
def State.syncPermits (s : State) (n : Nat) : Bool :=
  s.clockRuns && (s.sys.mode == .half || s.sys.mode == .full || (s.sys.mode == .suspect && (s.chan n).coast.isSome))

/-- An event that waits for a thread has not started (R132): where the sync state no longer lets it start, or it has gone
back to waiting or left, it waits for a thread no more (R107, R129). -/
def State.holdWaiting (s : State) : State :=
  { s with banks := s.banks.map (fun k => { k with waiting := k.waiting.filter (fun id =>
      match s.event id with | some e => e.phase == .released && s.syncPermits e.ch | none => false) }) }

/-- Check 1 of Table 4.3: the channel is there, usable and not OFF. -/
def State.chThere (s : State) (n : Nat) : Bool :=
  s.chUsable n && decide (1 ≤ s.liveMode n) && decide (s.liveMode n ≤ 4)

end Sys2Proof.Machine
end

