-- ==== Sys2Proof/Machine/TstOps.lean ====
section
/-! DEFINITION. The tuning pass as the rest of the device sees it (chapter 18): the units under test (R453), and the end of a
pass (R455, R458). -/

namespace Sys2Proof.Machine

/-- Block k of Table 18.1 is running in its lane. -/
def State.testing (s : State) (k : Nat) : Bool := decide (k ≠ 0) && (s.tst.blockA == k || s.tst.blockB == k)

/-- The block that tests a comparator. -/
def cmpBlock : CmpUnit → Nat
  | .peak b | .hold b => 16 + b / 6
  | .vds n => 20 + n / 24
  | .ghv b | .ghb b => 20 + b / 6
  | .fastTrip g | .reverse g => 8 + g
  | .wmLo _ | .wmHi _ => 7

/-- The block that tests a converter. -/
def convBlock (n : Nat) : Nat := if n < 4 then 3 + n else 2

/-- The elements of a list whose index passes a test stand UNSETTLED. -/
def unsettleIf (p : Nat → Bool) (l : List Cmp) : List Cmp := l.mapIdx (fun i c => if p i then .unsettled else c)

/-- The units of block k restart as at the end of their test (R342, R453): comparators UNSETTLED, and a converter's previous
conversion a calibration conversion. -/
def State.restartUnits (k : Nat) (s : State) : State :=
  let c := s.cmps
  let q := (k - 16) % 4
  let own := fun b => b / 6 == q
  let s : State :=
    if k = 7 then { s with cmps := { c with wm := c.wm.map (fun m => { m with lo := .unsettled, hi := .unsettled }) } }
    else if 8 ≤ k ∧ k < 16 then
      { s with cmps := { c with ft := unsettleIf (fun g => g == k - 8) c.ft, rev := unsettleIf (fun g => g == k - 8) c.rev } }
    else if 16 ≤ k ∧ k < 20 then { s with cmps := { c with peak := unsettleIf own c.peak, hold := unsettleIf own c.hold } }
    else if 20 ≤ k ∧ k < 24 then
      { s with cmps := { c with vds := unsettleIf (fun n => n / 24 == q) c.vds, ghv := unsettleIf own c.ghv, ghb := unsettleIf own c.ghb } }
    else s
  (upTo 6).foldl (fun (s : State) n =>
    if convBlock n = k then s.modConv n (fun c => { c with prev := some (32, if n < 4 then 0 else 4) }) else s) s

/-- The gates that a bank may drive: not held by a latch, by the die link (R27), by SAFESTOP (R408) or under test (R453). -/
def State.gatesFree (s : State) (b : Nat) : Bool :=
  s.clk.dieTrained && !(s.bank b).oc && !(s.sys.mode == .safestop) && !s.testing (24 + b / 6)

/-- A phrase or LOG output of the channel is active. -/
def State.chActive (s : State) (n : Nat) : Bool :=
  s.sch.store.any (fun e => e.ch == n && e.phase == .running)

/-- The inactive level of LOG channel n at its gate, as far as nothing holds the gate low (R25, R92). -/
def State.logRest (s : State) (n : Nat) : Bool :=
  s.flag (F.SCH_CHCFG_POL n) && s.gatesFree (n / 4) && !(s.chan n).oc && s.chUsable n

/-- An idle LOG output stands at its inactive level (R92). -/
def State.logIdle (n : Nat) (s : State) : State :=
  if s.chMode n == 4 && !s.chActive n then s.modChan n (fun c => { c with gl := s.logRest n })
  else s

/-- After the test of block k, idle LOG outputs stand at their level again (R453). -/
def State.testOver (k : Nat) (s : State) : State :=
  if 24 ≤ k then (upTo 24).foldl (fun (s : State) i => s.logIdle (24 * (k - 24) + i)) s else s

/-- Blocks a to b - 1. -/
def blocksFrom (a b : Nat) : List Nat := (upTo b).filter (fun k => decide (a ≤ k))

/-- The pass ends with a cause (R455, R456, R458): blocks in progress give no verdict, the marks go to the health record,
source 61 becomes pending and the port is free. -/
def State.tstEnd (cause : Nat) (s : State) : State :=
  let t := s.tst
  let s : State := s.inCycle (fun m => { m with tested := [(t.blockA, t.sinceA), (t.blockB, t.sinceB)] })
  let s : State := (s.restartUnits t.blockA).restartUnits t.blockB
  let left := blocksFrom t.nextA 16 ++ blocksFrom t.nextB 28
  let s : State := { s with tst := { t with
    running := false, cause := cause, blockA := 0, blockB := 0, time := min (elapsed t.since s.now / 8000) 65535,
    skip := left.foldl (fun l k => insertNat k l) t.skip, record := t.marks } }
  let s : State := (s.testOver t.blockA).testOver t.blockB
  let s : State := match s.sys.busy with
    | some b => if b.op = 4 then { s with sys := { s.sys with busy := none } } else s
    | none => s
  (s.count F.TST_PASS_CNT_COUNT).raise 61

/-- A transition out of ARMED ends a command pass (R458). -/
def State.leaveArmed (s : State) : State :=
  if s.sys.mode == .armed && s.tst.running && !s.tst.boot then s.tstEnd 2 else s

end Sys2Proof.Machine
end

