-- ==== Sys2Proof/Machine/Gates.lean ====
section
/-! DEFINITION. Gates, placed edges, closing watches and the ends of threads (chapters 6 and 7). -/

namespace Sys2Proof.Machine

/-- The first event of the merged chain that an event belongs to. -/
def Event.root (e : Event) : Nat := e.chain.getD e.id

/-- The events of the chain of a root (R139). -/
def State.chainOf (s : State) (r : Nat) : List Event :=
  s.sch.store.filter (fun e => e.root == r && (e.phase == .running || e.phase == .ended))

/-- The event is the last of its chain by start. -/
def State.chainLast (s : State) (e : Event) : Bool := (s.chainOf e.root).all (fun x => decide (tbDiff x.startT e.startT ≤ 0))

/-! Closing reports (R30, R139, R199) -/

/-- A closing report for channel n: the ended events that wait for it take it; in a chain the last one carries it. -/
def State.deliver (n : Nat) (rep : Closing) (s : State) : State :=
  let s := s.modChan n (fun c => { c with report := some rep })
  s.modStore (fun e =>
    if e.ch == n && e.phase == .ended && e.closing == .awaited then
      if s.chainLast e then
        { e with closing := rep, flags := { e.flags with noKink := e.flags.noKink || rep == .noKink } }
      else { e with closing := .noWatch }
    else e)

/-- The bank's slot of channel n is given back (R196). -/
def State.dropSlot (n : Nat) (s : State) : State :=
  s.modBank (n / 4) (fun b => { b with slots := b.slots.filter (fun x => x.1 != n) })

/-- A closing watch of channel n is open. -/
def State.watching (s : State) (n : Nat) : Bool := (s.bank (n / 4)).slots.any (fun x => x.1 == n)

/-- A NO_KINK report (R199). -/
def State.noKink (n : Nat) (s : State) : State :=
  (((s.count F.DRV_NOKINK_CNT_COUNT).dropSlot n).deliver n .noKink)

/-- R195, R196, Table 18.2: at an LS turn-off of an INJ or SOL channel with KEN = 1 the watch takes a free slot, or reports
NO_KINK at once. The turn-off is GL's latest, which a chop may have made. -/
def State.startWatch (n : Nat) (s : State) : State :=
  let off := ((s.chan n).offAt).getD s.now
  let s := s.modChan n (fun c => { c with lsOff := some off, report := some .awaited })
  if (s.chMode n == 1 || s.chMode n == 2) && s.flag (F.DRV_CHCFG_KEN n) && s.closeUsable (n / 4) then
    if (s.bank (n / 4)).slots.length < 2 then s.modBank (n / 4) (fun b => { b with slots := b.slots ++ [(n, off)] })
    else (s.count F.DRV_CLOSE_BUSY_CNT_COUNT).noKink n
  else s.deliver n .noWatch

/-- A watch of the channel is given up without a report. -/
def State.cancelWatch (n : Nat) (s : State) : State :=
  (s.dropSlot n).modChan n (fun c => { c with report := if c.report = some .awaited then none else c.report })

/-! Gates -/

/-- GL of channel n switches (R179, R181): an on-edge restarts the blanking, and a turn-off is kept. -/
def State.setGl (n : Nat) (on : Bool) (s : State) : State :=
  s.modChan n (fun c => { c with gl := on, glAt := if on && !c.gl then s.now else c.glAt, offAt := if !on && c.gl then some s.now else c.offAt })

/-- The thread of the channel's bank that runs event ev. -/
def State.threadFor (s : State) (n ev : Nat) : Option Nat :=
  (upTo 2).find? (fun t => (s.thread (n / 4) t).run && (s.thread (n / 4) t).ev == ev)

/-- The turn-off of channel n's open watch. -/
def State.watchOff (s : State) (n : Nat) : Option Tb :=
  ((s.bank (n / 4)).slots.find? (fun x => x.1 == n)).map Prod.snd

/-- GL of channel n is about to switch on for event ev while a closing watch is open: a merge's re-entry cancels the watch
(R200); where the same event switches on before the watch's window has begun, its turn-off was not the last one, and the watch is given
up (R195, log entry 47); otherwise it reports NO_KINK (R199). -/
def State.reopen (n ev : Nat) (s : State) : State :=
  match s.watchOff n with
  | none => s
  | some off =>
    let own := (s.threadFor n ev).map (fun t => s.thread (n / 4) t)
    match own with
    | some k =>
      if k.turnedOff && ((match k.spend with | some m => decide (tbDiff off m ≤ 0) | none => false)
          || decide (elapsed off s.now < s.get (F.DRV_KWIN_W_START n) * 800)) then s.cancelWatch n
      else (s.count F.DRV_REOPEN_CNT_COUNT).noKink n
    | none => (s.count F.DRV_REOPEN_CNT_COUNT).noKink n

/-- Bank b drives GHV; a switch-on notes its time for the blanking of R182. -/
def State.setGhv (b : Nat) (on : Bool) (s : State) : State :=
  s.modBank b (fun k => { k with ghv := on, ghvAt := if on && !k.ghv then s.now else k.ghvAt })

/-- Bank b drives GHB; a switch-on notes its time for the blanking of R182. -/
def State.setGhb (b : Nat) (on : Bool) (s : State) : State :=
  s.modBank b (fun k => { k with ghb := on, ghbAt := if on && !k.ghb then s.now else k.ghbAt })

/-- The first gate edge of an event is made at t (R168). An event that another has merged into keeps its end (R139). -/
def State.beginEvent (t : Tb) (id : Nat) (s : State) : State :=
  s.modEvent id (fun e =>
    if e.begun then e
    else
      let e' : Event := { e with begun := true, startT := t, startAng := s.ang.at', startTag := s.ang.tag, angValid := s.clockRuns }
      if s.chainLast e then { e' with endT := t, endAng := s.ang.at' } else e')

/-- The event of a chain to which a gate-off at t belongs: the last one that has started before t, unless its end has been fixed at
the start of the one that merged after it (R139). -/
def State.offTakes (s : State) (t : Tb) (root : Nat) : List Event :=
  let c := s.chainOf root
  let st := c.filter (fun e => decide (tbDiff e.startT t < 0))
  (st.filter (fun e => st.all (fun x => decide (tbDiff x.startT e.startT ≤ 0)))).filter
    (fun e => c.all (fun y => y.id == e.id || y.startT != e.endT))

/-- A gate-off of an event's chain at t: it is the chain's end so far, and the channel's (R127, R139, R168). -/
def State.offEvent (t : Tb) (n : Nat) (id : Nat) (s : State) : State :=
  let root := match s.event id with | some e => e.root | none => id
  let s := (s.offTakes t root).foldl (fun (s : State) e => s.modEvent e.id (fun x => { x with
    endT := t, endAng := s.ang.at', angValid := x.angValid && s.clockRuns })) s
  s.modChan n (fun c => { c with lastEnd := some t })

/-- A channel takes its live mode: its GL stands at the new mode's idle level. -/
def State.newMode (n : Nat) (s : State) : State :=
  (s.modChan n (fun c => { c with gl := false, modeHeld := none })).logIdle n

/-- R94: a mode that waited for the channel's running phrase takes effect at its end, once its last gate edge is made. -/
def State.modeSettle (n : Nat) (s : State) : State :=
  if (s.chan n).modeHeld.isSome && !s.chActive n && !s.edges.any (fun x => x.gate == .gl n) then s.newMode n else s

/-- GL switches on for event ev. -/
def State.glOn (t : Tb) (n : Nat) (level : Bool) (ev : Nat) (s : State) : State :=
  let s : State := if (s.chan n).gl then s else s.reopen n ev
  (s.setGl n level).beginEvent t ev

/-- The thread that runs event ev makes an LS turn-off. -/
def State.markOff (n ev : Nat) (s : State) : State :=
  match s.threadFor n ev with
  | some t => s.modThread (n / 4) t (fun k => { k with turnedOff := true })
  | none => s

/-- GL's off edge for a phrase's event: the closing watch follows (R195). Where a chop had turned GL off already, the turn-off is that
one; where GL has not been on in this event, none. -/
def State.glOff (t : Tb) (n ev : Nat) (s : State) : State :=
  if (s.chan n).gl then
    let s : State := (s.setGl n false).offEvent t n ev
    ((s.markOff n ev).startWatch n).modeSettle n
  else if (s.chan n).offAt.isSome && !s.watching n then ((s.markOff n ev).startWatch n).modeSettle n
  else s.modeSettle n

/-- Whether an event other than ev commands a gate on at present: its first edge still with the placer is an off edge, or its thread
commands the switch with none there (R157). -/
def State.onForOther (s : State) (b ev : Nat) (g : Gate) (flag : Thread → Bool) : Bool :=
  let es := s.edges.filter (fun y => y.gate == g && y.ev != ev)
  es.any (fun y => !y.on && !es.any (fun z => z.ev == y.ev && decide (tbDiff z.at' y.at' < 0)))
    || (upTo 2).any (fun o => let k := s.thread b o; k.run && k.ev != ev && flag k && !es.any (fun y => y.ev == k.ev))

/-- The token's holder is a thread other than the one that runs event ev, and commands GHV on (R157). -/
def State.ghvOther (s : State) (b ev : Nat) : Bool :=
  let k := s.thread b ((s.bank b).token - 1)
  (s.bank b).token != 0 && k.run && k.ev != ev && s.onForOther b ev (.ghv b) (fun k => k.hv)

/-- A placed edge is made. -/
def State.applyEdge (x : Edge) (s : State) : State :=
  match x.gate with
  | .gl n =>
    let log := s.chMode n == 4
    let active := if log then x.on != s.flag (F.SCH_CHCFG_POL n) else x.on
    if active then (if s.gatesFree (n / 4) && !(s.chan n).oc then s.glOn x.at' n x.on x.ev else s)
    else if log then (s.setGl n x.on).offEvent x.at' n x.ev
    else s.glOff x.at' n x.ev
  | .ghv b =>
    if x.on then (if s.gatesFree b then (s.setGhv b true).beginEvent x.at' x.ev else s)
    else
      let s : State := s.setGhv b ((s.bank b).ghv && s.ghvOther b x.ev)
      match s.event x.ev with
      | some e => s.offEvent x.at' e.ch x.ev
      | none => s
  | .ghb b =>
    if x.on then (if s.gatesFree b then (s.setGhb b true).beginEvent x.at' x.ev else s)
    else
      -- R157: GHB stays on while the other thread commands it on
      let s : State := s.setGhb b ((s.bank b).ghb && s.onForOther b x.ev (.ghb b) (fun k => k.hb))
      match s.event x.ev with
      | some e => s.offEvent x.at' e.ch x.ev
      | none => s

/-- Hand an edge to the placer for time t, or make it at once where t has passed (R154). -/
def State.placeEdge (t : Option Tb) (g : Gate) (on : Bool) (b : Nat) (th : Option Nat) (ev : Nat) (s : State) : State :=
  match t with
  | some t =>
    if 0 < tbDiff t s.now then
      { s with edges := s.edges ++ [{ at' := t, gate := g, on := on, bank := b, thread := th, ev := ev }] }
    else s.applyEdge { at' := s.now, gate := g, on := on, bank := b, thread := th, ev := ev }
  | none => s.applyEdge { at' := s.now, gate := g, on := on, bank := b, thread := th, ev := ev }

/-- A thread's placed edges are withdrawn before they reach a pin (R156, R165). -/
def State.withdraw (b t : Nat) (s : State) : State :=
  { s with edges := s.edges.filter (fun x => !(x.bank == b && x.thread == some t && x.ev == (s.thread b t).ev)) }

/-- The edge belongs to a thread whose first CLAIM is undecided (R156). -/
def State.edgeHeld (s : State) (x : Edge) : Bool :=
  match x.thread with | some t => (s.thread x.bank t).run && (s.thread x.bank t).claiming && (s.thread x.bank t).ev == x.ev
                      | none => false

/-- The edge's slot has come and nothing holds it. -/
def State.edgeDue (s : State) (x : Edge) : Bool := decide (tbDiff x.at' s.now ≤ 0) && !s.edgeHeld x

/-- Every placed edge whose slot has come is made, in the order of placement. -/
def State.dueEdges (s : State) : State :=
  let due := s.edges.filter s.edgeDue
  if due.isEmpty then s
  else
    let s' := { s with edges := s.edges.filter (fun x => !s.edgeDue x) }
    due.foldl (fun (s : State) x => s.applyEdge x) s'

/-! Threads -/

/-- The target of a thread's window record: accumulators first, then trackers. -/
def winTarget (trk : Bool) (i : Nat) : Nat := if trk then 512 + i % 256 else i

/-- R167: every window that the thread opened and left open closes (CAUSE 1). One that has closed in the meantime, and may stand open
again for another, is not the thread's. -/
def State.closeThreadWins (b t : Nat) (s : State) : State :=
  let k := s.thread b t
  (k.windows.foldl (fun (s : State) w =>
      let x := winTarget w.1 w.2.1
      if (s.win x).open' && (s.win x).openT == w.2.2 then s.closeWin x 1 (some k.ev) false else s) s).modThread b t
    (fun k => { k with windows := [] })

/-- The on edges of an event still with the placer, of a gate that g passes, leave it where they come after an off time. -/
def State.dropOns (b ev : Nat) (at' : Option Tb) (g : Gate → Bool) (s : State) : State :=
  let off := match at' with | some t => if 0 < tbDiff t s.now then t else s.now | none => s.now
  { s with edges := s.edges.filter (fun x => !(x.bank == b && x.ev == ev && x.on && g x.gate && decide (0 ≤ tbDiff x.at' off))) }

/-- The token is released (R157): GHV goes off if the thread left it on, and obeys it no more. -/
def State.releaseToken (b t : Nat) (s : State) : State :=
  if (s.bank b).token = t + 1 then
    let k := s.thread b t
    let s : State := s.dropOns b k.ev none (fun g => g == .ghv b)
    let s := if k.hv then s.placeEdge none (.ghv b) false b (some t) k.ev else s
    (s.modThread b t (fun k => { k with hv := false })).modBank b (fun k => { k with token := 0 })
  else s

/-- Every switch that the thread commands goes off, at a placement time or at once (R154, R164, R167); an on edge that has not been
made by then is made no more. -/
def State.switchOff (b t : Nat) (at' : Option Tb) (s : State) : State :=
  let k := s.thread b t
  let s : State := s.dropOns b k.ev at' (fun _ => true)
  let s := s.modThread b t (fun k => { k with hv := false, hb := false, ls := false, offUntil := none })
  let s := if k.hv then s.placeEdge at' (.ghv b) false b (some t) k.ev else s
  let s := if k.hb then s.placeEdge at' (.ghb b) false b (some t) k.ev else s
  if k.ls then s.placeEdge at' (.gl k.ch) false b (some t) k.ev else s

/-- The report that an ended event takes: its channel's, where its thread has made an LS turn-off, or to be awaited while that
turn-off or the watch is under way. -/
def State.closingOf (s : State) (off : Bool) (e : Event) : Closing :=
  let c := s.chan e.ch
  let pend := s.edges.any (fun x => x.gate == .gl e.ch && !x.on && x.ev == e.root)
  if pend then .awaited
  else if !off then .noWatch
  else match c.report with
    | some .awaited => .awaited
    | some r => if s.chainLast e then r else .noWatch
    | none => .noWatch

/-- The events of the chain end, and each waits for its closing report (R30, R139). -/
def State.endEvents (r : Nat) (off : Bool) (s : State) : State :=
  s.modStore (fun e =>
    if e.root == r && e.phase == .running then
      let c := s.closingOf off e
      { e with phase := .ended, closing := c, flags := { e.flags with noKink := e.flags.noKink || c == .noKink } }
    else e)

/-- The thread is free again; nothing carries over but its registers (R150). -/
def State.freeThread (b t : Nat) (s : State) : State :=
  let n := (s.thread b t).ch
  (s.modThread b t (fun k => { k with run := false, wait := .none, place := none, claiming := false, held := false, sus := false,
                                      spend := none, offUntil := none, old := false })).modeSettle n

/-- END (R167): switches off under the pending placement time, the token released, windows closed, the thread freed. -/
def State.endThread (b t : Nat) (s : State) : State :=
  let k := s.thread b t
  let s := s.switchOff b t k.place
  let s := (s.releaseToken b t).closeThreadWins b t
  (s.endEvents k.ev (s.thread b t).turnedOff).freeThread b t

/-- The thread's own command, or an edge of it still with the placer, holds a gate on. -/
def State.holdsOn (s : State) (k : Thread) (g : Gate) (flag : Bool) : Bool :=
  flag || s.edges.any (fun x => x.gate == g && x.ev == k.ev && !x.on)

/-- Every gate of the thread goes low at once, whatever edges of it are still with the placer (R132, R174, R175); watch says whether
a closing watch follows the LS turn-off. -/
def State.gatesLow (watch : Bool) (b t : Nat) (s : State) : State :=
  let k := s.thread b t
  let gl := s.holdsOn k (.gl k.ch) k.ls
  let s := (s.withdraw b t).modThread b t (fun k => { k with hv := false, hb := false, ls := false, offUntil := none })
  let s := s.setGhv b ((s.bank b).ghv && s.ghvOther b k.ev)
  let s := s.setGhb b ((s.bank b).ghb && s.onForOther b k.ev (.ghb b) (fun k => k.hb))
  if !gl then s
  else if watch then s.glOff s.now k.ch k.ev
  else if (s.chan k.ch).gl then (s.setGl k.ch false).offEvent s.now k.ch k.ev else s

/-- The thread's gates go low at once without a closing watch (R174, R175), and one that its turn-off has opened is given up. -/
def State.dropGates (b t : Nat) (s : State) : State :=
  let k := s.thread b t
  let s := s.gatesLow false b t
  if k.turnedOff then s.cancelWatch k.ch else s

/-- A thread ends by a cause other than END: its gates go low, the token is released, its windows close, and f marks the
events of its chain, which wait for no closing report. -/
def State.killThread (b t : Nat) (f : Event → Event) (s : State) : State :=
  let k := s.thread b t
  if k.run then
    let s := s.dropGates b t
    let s := (s.releaseToken b t).closeThreadWins b t
    let s : State := s.modStore (fun e =>
      if e.root == k.ev && e.phase == .running then { f e with phase := .ended, closing := .noWatch } else e)
    s.freeThread b t
  else s

/-- The event carries OVER_CURRENT (R144). -/
def markOc (e : Event) : Event := { e with flags := { e.flags with oc := true } }
/-- The event ends by a cause outside the list of R144. -/
def markCause (c : Nat) (e : Event) : Event := { e with cause := some c }

/-- An active LOG output ends at once: its GL goes low, or to the inactive level (R92, R408). -/
def State.killLog (n : Nat) (level : Bool) (f : Event → Event) (s : State) : State :=
  match s.sch.store.find? (fun e => e.ch == n && e.phase == .running) with
  | some e =>
    if s.chMode n = 4 then
      let s := { s with edges := s.edges.filter (fun x => x.ev != e.id) }
      let s := (s.setGl n level).offEvent s.now n e.id
      (s.modEvent e.id (fun e => { f e with phase := .ended, closing := .noWatch })).modeSettle n
    else s
  | none => s

/-- All four threads' ends of a set of banks, by test. -/
def State.killBanks (p : Nat → Bool) (f : Event → Event) (s : State) : State :=
  (upTo 24).foldl (fun (s : State) b => if p b then (s.killThread b 0 f).killThread b 1 f else s) s

/-- Every thread and every LOG output ends, and every gate of the drive stage is low (R27, R28, R408). -/
def State.killAll (f : Event → Event) (s : State) : State :=
  let s : State := s.killBanks (fun _ => true) f
  let s : State := (upTo 96).foldl (fun (s : State) n => s.killLog n false f) s
  let s : State := { s with edges := [], sch := { s.sch with chans := s.sch.chans.map (fun c => { c with gl := false, modeHeld := none }) },
                                banks := s.banks.map (fun b => { b with ghv := false, ghb := false }) }
  { s with quads := s.quads.map (fun q => { q with pulsing := false, gbc := false }) }

/-- The thread that runs on a channel. -/
def State.threadOf (s : State) (n : Nat) : Option Nat :=
  let k0 := s.thread (n / 4) 0; let k1 := s.thread (n / 4) 1
  if k0.run && k0.ch == n then some 0 else if k1.run && k1.ch == n then some 1 else none

/-- Channel n stops being usable (R8): its stored events leave with ABSENT and its running phrase ends. -/
def State.chGone (n : Nat) (s : State) : State :=
  let s : State := (upTo 2).foldl (fun (s : State) t =>
    if (s.thread (n / 4) t).run && (s.thread (n / 4) t).ch == n then s.killThread (n / 4) t (markCause Code.absent) else s) s
  let s := s.killLog n false (markCause Code.absent)
  (s.sch.store.filter (fun e => e.ch == n && e.unstarted)).foldl (fun (s : State) e => s.refuse e Code.absent) s

/-- R169: a target is held by the phrases of quadrant q. -/
def State.phraseHolds (s : State) (q t : Nat) : Bool :=
  s.flag (accEn t) && s.get (accWsrc t) == 0 && s.get (accQuad t) == q

end Sys2Proof.Machine
end

