-- ==== Sys2Proof/Machine/ModeOps.lean ====
section
/-! DEFINITION. What the blocks share of the mode controller (chapter 16): SAFESTOP entry, fallback causes, entry to ARMED,
the mode that follows the tracker, and the advance of angle-clocked timers. -/

namespace Sys2Proof.Machine

/-- The device is a follower of a set (R462, R463). -/
def State.follower (s : State) : Bool := s.part.slur && s.flag F.SET_CFG_EN && s.flag F.SET_CFG_ROLE

/-- SYS_SAFESTAT: a cause has occurred (SEEN), and holds (ACTIVE) except the host request, which clears at once. -/
def State.safeSeen (c : Nat) (s : State) : State :=
  s.setBit F.SYS_SAFESTAT_SEEN (c - 1)

/-- Cause c of Table 16.2 is active; cause 2 is a request and does not stay (R406). -/
def State.safeActive (c : Nat) (s : State) : State :=
  if c = 2 then s else { s with sys := { s.sys with safeActive := insertNat c s.sys.safeActive } }

/-- The levels that an engine's ink pins drive while it does not run (Table 14.7). -/
def State.nibIdle (s : State) (n : Nat) : List Bool :=
  (upTo 8).map (fun k => (s.word (if k < 4 then R.NIB_INKA n else R.NIB_INKB n)).bit (8 * (k % 4) + 7))

/-- The engines that a mode no longer lets run stop, and their ink pins drive their IDLE levels (R364). -/
def State.nibsLeave (p : Nat → Bool) (s : State) : State :=
  { s with nibs := s.nibs.mapIdx (fun n x => if p n then { x with run := false, stalled := false, todo := none, ink := s.nibIdle n } else x) }

/-- A SAFESTOP cause is decided (R405, R406, R408). From ARMED to SUSPECT the device enters SAFESTOP: gates low, threads and
LOG outputs end with OVER_CURRENT, released events return to waiting. In SAFESTOP the cause is added; in SETUP, MAINT and
BOOT it sets only its SEEN bit. -/
def State.safestop (c : Nat) (s : State) : State :=
  if s.sys.mode.engine then
    let s : State := s.leaveArmed
    let s := (s.safeSeen c).safeActive c
    let s : State := ((s.killAll markOc).allToWaiting).holdWaiting
    let s := (s.setMode .safestop).nibsLeave (fun n => !s.flag (F.NIB_CFG_SAFE_RUN n))
    let s := { s with sys := { s.sys with safeCause := c, sleep := none } }
    s.alarm 14 c 0 0
  else if s.sys.mode = .safestop then (s.safeSeen c).safeActive c
  else if s.sys.mode = .setup ∨ s.sys.mode = .maint ∨ s.sys.mode = .boot then s.safeSeen c
  else s

/-- The plan may run (R406 cause 5). -/
def State.planOn (s : State) : Bool := s.flag F.SYS_FBPLAN_EN && decide (s.get F.SYS_FBPLAN_ENTRIES ≠ 0)

/-- The fallback flag is set (R416), or cause 5 acts where no plan is enabled. -/
def State.fallbackNow (c : Nat) (s : State) : State :=
  let s := { s with sys := { s.sys with fbPend := false, fbCause := c } }
  if s.planOn then
    if s.sys.fbFlag then s
    else
      let s := { s with sys := { s.sys with fbFlag := true, fbAdmitted := 0, fbDue := [], fbDone := [] } }
      s.alarm 15 1 c 0
  else s.safestop 5

/-- A fallback cause (R416): 1 data-link loss, 2 host silence. -/
def State.fallbackCause (c : Nat) (s : State) : State :=
  let s : State := s.inCycle (fun m => { m with fb := true })
  if s.sys.mode = .half ∨ s.sys.mode = .full ∨ s.sys.mode = .suspect then s.fallbackNow c
  else if s.sys.mode = .armed ∨ s.sys.mode = .seek ∨ s.sys.mode = .safestop then
    { s with sys := { s.sys with fbPend := true, fbCause := c } }
  else s

/-- Boost regulation begins (R193): each controller's target starts from the measured rail. -/
def State.boostBegin (s : State) : State :=
  { s with quads := s.quads.map (fun x => { x with target := x.vbst * 100, ramping := true, regOn := true, pulsing := false, gbc := false }) }

/-- The mode that WHL_STAT.SYNC implies (R402, R409). -/
def Sync.mode : Sync → Mode
  | .idle => .armed | .seek => .seek | .half => .half | .full => .full | .suspect => .suspect

/-- While the device is in ARMED to SUSPECT, SYS_MODE follows the tracker (R54): entry to ARMED renews the boost balances
(R211), and a pending fallback cause acts at an entry to HALF or FULL (R416). -/
def State.followSync (s : State) : State :=
  if s.sys.mode.engine then
    let old := s.sys.mode
    let new := s.whl.sync.mode
    let s : State := if new = .armed then s else { s.leaveArmed with sys := { s.leaveArmed.sys with sleep := none } }
    let s := s.setMode new
    let s := if new = .armed ∧ old ≠ .armed then s.boostFresh else s
    let s : State := s.holdWaiting
    if (new = .half ∨ new = .full) ∧ old ≠ new ∧ s.sys.fbPend then s.fallbackNow s.sys.fbCause else s
  else s

/-- The modes that accept long set-up operations and run the timers (R349): SETUP, MAINT and ARMED through SAFESTOP. -/
def Mode.setupOrOn (m : Mode) : Bool := m == .setup || m == .maint || m.operating

/-- Timer n counts (R349, R359). -/
def State.tmrGoes (s : State) (n : Nat) : Bool :=
  (s.tmr n).run && (s.tmr n).stopped.isNone && s.flag (F.TMR_CFG_EN n) && s.sys.mode.setupOrOn

/-- A GATE slave counts only where it sees the master's OUT at the level that GPOL names (R355). -/
def State.gateOpen (s : State) (n : Nat) : Bool :=
  s.get (F.TMR_CFG_SLAVE n) != 1 || ((s.tmr (s.get (F.TMR_CFG_MASTER n))).out != s.flag (F.TMR_CFG_GPOL n))

/-- A timer's clock is the angle clock and it runs (R349, R358). -/
def State.tmrOnAngle (s : State) (n : Nat) : Bool :=
  s.tmrGoes n && s.get (F.TMR_CFG_CLK n) == 3 && s.get (F.TMR_CFG_SLAVE n) != 3

/-- One angle-clocked timer under an advance of e at (R358): the first at after a zero tick loads the reload value; a match or zero
that the advance crosses becomes due, and the advance beyond the zero is kept as lateness. A reload comes in from above every value
(log entry 53). -/
def tmrCount (cmp rel e : Nat) (now : Tb) (x : Tmr) : Tmr :=
  let c0 := match x.load with | some r => r | none => x.count
  let e' := if x.load.isSome then e - 1 else e
  let c := c0 - e'
  let due := x.matchDue || x.zeroDue
  { x with count := c, load := none, past := x.past + (e' - c0), out := decide (cmp < c), relBuf := rel,
           decided := if due then x.decided else c, decAt := if due then x.decAt else now,
           matchDue := x.matchDue || (decide (c ≤ cmp) && (decide (cmp < c0) || (x.load.isSome && decide (cmp = c0)))),
           zeroDue := x.zeroDue || decide (c0 ≤ e') }

/-- An advance of d first regains the angle lost to a backward step; while a zero waits for its actions, the advance waits with it. A
GATE slave that is held counts WIDTH alone (R355, R356, R358). -/
def tmrAdvance (cmp rel d : Nat) (gate : Bool) (now : Tb) (x : Tmr) : Tmr :=
  let e := d - x.owe
  let x := { x with owe := x.owe - d }
  if e = 0 then x
  else
    let x := { x with widthRun := min (x.widthRun + e) 0xFFFFFFFF }
    if !gate then x else if x.zeroDue then { x with ahead := x.ahead + e } else tmrCount cmp rel e now x

/-- An advance of d from angle a passes the angle x. -/
def passes (a d x : Nat) : Bool := decide (0 < d) && decide ((x + cycleAt - 1 - a % cycleAt) % cycleAt < d)

/-- An advance of d from angle a passes a boundary OFFSET + k × ASTEP; the boundaries start afresh at OFFSET in each cycle
(log entry 13). -/
def passesStep (a d offset step : Nat) : Bool :=
  let x := (a + cycleAt - offset % cycleAt) % cycleAt
  decide (0 < step) && (decide (cycleAt ≤ x + d) || decide (x / step ≠ (x + d) / step))

/-- Word w of plan entry e, and whether it belongs to the plan and to a cylinder that SYS_FBCYL admits (R414, R417). -/
def State.planWord (s : State) (e w : Nat) : Word := s.word (planAddr e w)
/-- Entry e of the fallback plan lies within ENTRIES, is valid, and names a cylinder whose bit in SYS_FBCYL is 1 (R414). -/
def State.planTakes (s : State) (e : Nat) : Bool :=
  decide (e < s.get F.SYS_FBPLAN_ENTRIES) && (s.planWord e 4).bit 31 && (s.word R.SYS_FBCYL).bit ((s.planWord e 4).bits 8 5)

/-- The angle at which plan entry e is admitted: ANG - LEAD, modulo the cycle. -/
def State.planAngle (s : State) (e : Nat) : Nat :=
  ((s.planWord e 2).bits 0 22 + cycleAt - s.get F.SYS_FBPLAN_LEAD * 4096) % cycleAt

/-- The plan entries that an advance of d passes, while the fallback flag is set. -/
def State.planPassed (s : State) (d : Nat) : List Nat :=
  if s.sys.fbFlag then (upTo 512).filter (fun e => s.planTakes e && passes s.ang.at' d (s.planAngle e)) else []

/-- The angle clock moves by a signed distance from where it stands. Forward moves advance the angle-clocked timers, fire
the angle triggers they pass (R320), bring plan entries to their admission (R417) and ANGLE windows to their boundaries (R328); a backward one holds the timers
until the clock regains the angle it left (R358). -/
def State.angleMoved (d : Int) (s : State) : State :=
  let s : State := { s with tmrs := s.tmrs.mapIdx (fun n x =>
      if s.tmrOnAngle n then
        if 0 ≤ d then tmrAdvance (s.get (F.TMR_CMP_CMP n)) (s.get (F.TMR_RELOAD_RELOAD n)) d.toNat (s.gateOpen n) s.now x
        else { x with owe := x.owe + (-d).toNat }
      else x) }
  let a := s.ang.at'
  let hit := (upTo 8).filter (fun k => s.flag (F.ADC_ATRIG_EN k) && passes a d.toNat (s.get (F.ADC_ATRIG_ANG k)))
  let plan := s.planPassed d.toNat
  let s : State := { s with sys := { s.sys with fbDue := plan.foldl (fun l e => insertNat e l) s.sys.fbDue } }
  { s with adc := { s.adc with
      trigDue := hit.foldl (fun l k => insertNat k l) s.adc.trigDue,
      wins := s.adc.wins.map (fun w =>
        if w.2.open' && s.get (accWsrc w.1) == 2
            && passesStep a d.toNat (s.get (accOffset w.1) * 64) (s.get (accPeriod w.1) * 64) then
          (w.1, { w.2 with due := true })
        else w) } }

end Sys2Proof.Machine
end

