-- ==== Sys2Proof/Machine/Adc.lean ====
section
/-! DEFINITION. Converters, their sequencers and calibration, moves of entries, and the windows' own closes (chapter 12). -/

namespace Sys2Proof.Machine

/-! Visits (R316 to R319, R323) -/

/-- A conversion as the device delivers it, calibrated, in 1/8 code (log entry 52): within the range of its input (R316). Q-converters and H inputs 2 and above are
unipolar; the knock inputs are differential. -/
def sampleRange (n inp : Nat) (v : Int) : Int :=
  if decide (4 ≤ n) && decide (inp < 2) then clampI (-16384) 16376 v else clampI 0 32760 v

/-- The target of entry e of converter n: accumulators 0 to 511, trackers 512 to 767. -/
def State.target (s : State) (n e : Nat) : Nat :=
  if s.flag (F.ADC_SEQA_TRK n e) then 512 + s.get (F.ADC_SEQA_TARGET n e) % 256 else s.get (F.ADC_SEQA_TARGET n e)

/-- 2^FILT conversions make one sample (R318). -/
def State.filt (s : State) (n e : Nat) : Nat := 2 ^ s.get (F.ADC_SEQA_FILT n e)

/-- Samples of a whole visit. -/
def State.visitLen (s : State) (n e : Nat) : Nat := s.get (F.ADC_SEQA_REPEAT n e) + 1

/-- The conversions that a visit discards at its start (Table 12.4): the largest count that applies. Before a first
conversion, and after a calibration, the previous input is none of the table's and the previous gain stands as noted
(log entry 14). -/
def State.discards (s : State) (n e : Nat) : Nat :=
  let c := s.conv n
  let prev := c.prev.getD (32, 0)
  let a := if prev.1 = s.get (F.ADC_SEQA_IN n e) then 0 else if n < 4 then 1 else 2
  let b := if prev.2 = s.get (F.ADC_SEQA_GAIN n e) then 0 else 4
  let d := if c.fresh.contains e then s.filt n e else 0
  max a (max b d)

/-- Add discarded conversions to a target's SETTLE count, which saturates at 255 (R323). -/
def State.settleBy (t n : Nat) (s : State) : State :=
  if n = 0 then s else s.setWin t { s.win t with settle := min ((s.win t).settle + n) 255 }

/-- Samples from conversions: each the mean of k, rounded down (log entry 12); at most m of them. An unfinished sample is
left out. -/
def means (k : Nat) : Nat → List Int → List Int
  | 0, _ => []
  | m + 1, cs => if cs.length < k then [] else ((cs.take k).sum / (k : Int)) :: means k m (cs.drop k)

/-- A sample that was in progress when its entry moved or its target's TQ changed ends with the old epoch (R333, R334). -/
def State.landFlight (n : Nat) (s : State) : State :=
  match (s.conv n).flight with
  | some (t, ep) => (s.sample t 0 ep).modConv n (fun c => { c with flight := none })
  | none => s

/-- The conversions cs of entry e of converter n, of which the first skip are discarded: at most m samples reach the target,
and the conversions of an unfinished one count as discarded (R320, R323). -/
def State.runVisit (n e skip m : Nat) (cs : List Int) (s : State) : State :=
  let t := s.target n e
  let k := s.filt n e
  let inp := s.get (F.ADC_SEQA_IN n e)
  let own := (cs.drop skip).map (sampleRange n inp)
  let vs := means k m own
  let lost := min skip cs.length + (min own.length (k * m) - k * vs.length)
  let s : State := s.settleBy t lost
  let ep := s.get (F.ADC_SEQB_EPOCH n e)
  let s : State := vs.foldl (fun (s : State) v => s.sample t v ep) s
  s.modConv n (fun c => { c with prev := some (inp, s.get (F.ADC_SEQA_GAIN n e)), fresh := c.fresh.filter (fun x => x != e) })

/-- An entry takes part in the loop (R318). -/
def State.loopEntry (s : State) (n e : Nat) : Bool := s.flag (F.ADC_SEQA_EN n e) && s.flag (F.ADC_SEQB_LOOP n e)

/-- The entry that the loop of converter n visits: the first from its place onward, wrapping (R318). -/
def State.nextEntry (s : State) (n : Nat) : Option Nat :=
  ((upTo 32).map (fun i => ((s.conv n).entry + i) % 32)).find? (s.loopEntry n)

/-- Converter n converts: usable, in a mode of R321, and not being calibrated (R324). -/
def State.converts (s : State) (n : Nat) : Bool := s.convUsable n && s.sys.mode.operating && !s.calibrating n && !s.testing (convBlock n)

/-- One loop visit (R318, R319). Conversions short of the whole visit mean that an urgent request interrupted it: the visit
resumes with the sample it lost (R320). -/
def State.loopStep (n e : Nat) (cs : List Int) (s : State) : State :=
  let s : State := s.landFlight n
  let c := s.conv n
  let fresh := decide (c.left = 0)
  let m := if fresh then s.visitLen n e else c.left
  let skip := if fresh then s.discards n e else 0
  let made := (means (s.filt n e) m (cs.drop skip)).length
  let s : State := s.runVisit n e skip m cs
  if made < m then s.modConv n (fun c => { c with entry := e, left := m - made })
  else
    let s : State := s.modConv n (fun c => { c with entry := (e + 1) % 32, left := 0 })
    match s.nextEntry n with
    | some e' => if e' ≤ e then s.modConv n (fun c => { c with loops := (c.loops + 1) % 65536 }) else s
    | none => s

/-- The loop of converter n visits its next entry; urgent requests come first (R319). -/
def execLoopVisit (n : Nat) (codes : List Int) (s : State) : Host.Outcome State Fault Refusal :=
  .next (if s.converts n && s.bitOf F.ADC_CTRL_EN n && (s.conv n).urg.isEmpty then
    match s.nextEntry n with
    | some e => s.loopStep n e codes
    | none => s.landFlight n
  else s)

/-- An urgent visit runs its entry once (R320). -/
def State.urgentStep (n e : Nat) (cs : List Int) (s : State) : State :=
  let s : State := (s.landFlight n).modConv n (fun c => { c with urg := c.urg.drop 1 })
  if s.flag (F.ADC_SEQA_EN n e) then s.runVisit n e (s.discards n e) (s.visitLen n e) cs else s

/-- Converter n takes its oldest urgent request (R320). -/
def execUrgentVisit (n : Nat) (codes : List Int) (s : State) : Host.Outcome State Fault Refusal :=
  .next (if s.converts n then
    match (s.conv n).urg with
    | e :: _ => s.urgentStep n e codes
    | [] => s
  else s)

/-- The cycle angle has passed ADC_ATRIGk (R320). -/
def execAngleTrigger (k : Nat) (s : State) : Host.Outcome State Fault Refusal :=
  .next (if s.adc.trigDue.contains k then
    let s : State := { s with adc := { s.adc with trigDue := s.adc.trigDue.filter (fun x => x != k) } }
    if s.flag (F.ADC_ATRIG_EN k) then s.urgent (s.get (F.ADC_ATRIG_CONV k)) (s.get (F.ADC_ATRIG_ENTRY k)) else s
  else s)

/-- The visit of VIGIL is due (R321). -/
def State.vigilVisitDue (s : State) : Bool :=
  s.sys.mode == .vigil && s.flag F.ADC_VIGIL_EN && s.convUsable 4
    && decide (s.adc.vigilAon + s.get F.ADC_VIGIL_PER ≤ s.clk.aon)

/-- In VIGIL H-converter 0 makes one visit every PER AON ticks (R321). -/
def execVigilVisit (codes : List Int) (s : State) : Host.Outcome State Fault Refusal :=
  .next (if s.vigilVisitDue then
    let e := s.get F.ADC_VIGIL_ENTRY
    let s : State := { s with adc := { s.adc with vigilAon := s.clk.aon } }
    if s.flag (F.ADC_SEQA_EN 4 e) then s.runVisit 4 e (s.discards 4 e) (s.visitLen 4 e) codes else s
  else s)

/-! Self-calibration (R324, R325) -/

/-- The gains of converter n. -/
def calGains (n : Nat) : Nat := if n < 4 then 1 else 5

/-- The time that the calibration of converter n takes, in tb: 1.6 ms or 2.4 ms. -/
def calTime (n : Nat) : Nat := if n < 4 then 1280000 else 1920000

/-- A write of ADC_CTRL: EN by the installer, CAL by anyone. -/
def State.calWrite (p : Port) (v : Word) (s : State) : State :=
  s.busWrite p R.ADC_CTRL v (fun s =>
    let sel := (upTo 6).filter (fun n => v.bit (8 + n) && s.convUsable n)
    match sel with
    | n :: rest =>
      if s.sys.mode.setupOrOn then
        { s with sys := { s.sys with busy := some { op := 1, port := p, since := s.now } },
                 adc := { s.adc with cal := some { now := n, rest := rest, since := s.now }, calDone := [], calFail := [],
                                     calAborted := false } }
      else s
    | [] => s)

/-- CONVERTER_CALIBRATE (R324): A write of ADC_CTRL.CAL starts calibrating the selected converters and makes the port busy. -/
def execConverterCalibrate (p : Port) (v : Word) (s : State) : Host.Outcome State Fault Refusal := .next (s.calWrite p v)

/-- Factors within the limits of R325: GAIN 0x6000 to 0xA000, OFFSET within ±0x0800. -/
def factorOk (w : Word) : Bool :=
  let g := w.bits 16 16; let o := signed 16 w.toNat
  decide (0x6000 ≤ g) && decide (g ≤ 0xA000) && decide (-0x800 ≤ o) && decide (o ≤ 0x800)

/-- The converter in progress has ended: the next one begins, or the command ends and the port is free. -/
def State.calNext (k : CalRun) (s : State) : State :=
  let s : State := s.modConv k.now (fun c => { c with entry := 0, left := 0, prev := some (32, if k.now < 4 then 0 else 4) })
  match k.rest with
  | n :: rest => { s with adc := { s.adc with cal := some { now := n, rest := rest, since := s.now } } }
  | [] => { s with adc := { s.adc with cal := none }, sys := { s.sys with busy := none } }

/-- Converter n ends its calibration with its new factors, one word per gain (R324, R325). -/
def execCalibrationDone (n : Nat) (factors : List Word) (s : State) : Host.Outcome State Fault Refusal :=
  .next (match s.adc.cal with
    | some k =>
      if k.now = n ∧ calTime n ≤ elapsed k.since s.now ∧ factors.length = calGains n then
        let s : State := if factors.all factorOk then
            let s : State := (factors.zipIdx).foldl (fun (s : State) x => s.putWord (R.ADC_CAL n x.2) x.1) s
            { s with adc := { s.adc with calDone := insertNat n s.adc.calDone } }
          else { s with adc := { s.adc with calFail := insertNat n s.adc.calFail } }
        s.calNext k
      else s
    | none => s)

/-- SYS_ABORT ends a calibration at once (R325). -/
def State.calAbort (s : State) : State :=
  match s.adc.cal with
  | some k =>
    let s : State := s.modConv k.now (fun c => { c with entry := 0, left := 0, prev := some (32, if k.now < 4 then 0 else 4) })
    { s with adc := { s.adc with cal := none, calAborted := true } }
  | none => s

/-! Moves and epochs (R333, R334) -/

/-- The entry that feeds a target. -/
def State.feeder (s : State) (t : Nat) : Option (Nat × Nat) :=
  (upTo 6).findSome? (fun n => ((upTo 32).find? (fun e => s.flag (F.ADC_SEQA_EN n e) && s.target n e == t)).map (fun e => (n, e)))

/-- The loop of converter n is at entry e, so that a sample of it may be in progress. -/
def State.visitingNow (s : State) (n e : Nat) : Bool := s.converts n && s.bitOf F.ADC_CTRL_EN n && s.nextEntry n == some e

/-- Entry e of converter n: a sample of it in progress keeps the old epoch of its target. -/
def State.launchFlight (n e : Nat) (s : State) : State :=
  if s.visitingNow n e then
    let t := s.target n e
    let ep := (s.win t).epoch
    s.modConv n (fun c => { c with flight := some (t, ep) })
  else s

/-- The epoch of a target rises by 1 modulo 16, with that of the entry that feeds it (R333, R334). -/
def State.bumpEpoch (t : Nat) (s : State) : State :=
  let ep := ((s.win t).epoch + 1) % 16
  let s : State := s.setWin t { s.win t with epoch := ep }
  match s.feeder t with
  | some (n, e) => s.set (F.ADC_SEQB_EPOCH n e) ep
  | none => s

/-- A change of a target's TQ (R334). -/
def State.tqChanged (t : Nat) (s : State) : State :=
  let s : State := match s.feeder t with | some (n, e) => s.launchFlight n e | none => s
  s.bumpEpoch t

/-- The move of R333 from entry e of converter n to entry e' of converter n'. The destination reaches the input where it is
the same converter, or both are H-converters (log entry 14). -/
def State.moveEntry (n e n' e' role : Nat) (s : State) : Nat × State :=
  if !s.convUsable n || !s.convUsable n' || s.calibrating n || s.calibrating n' || !s.flag (F.ADC_SEQA_EN n e)
      || !(n == n' || (decide (4 ≤ n) && decide (4 ≤ n'))) then (Code.absent, s)
  else if s.flag (F.ADC_SEQA_EN n' e') then (Code.claimConflict, s)
  else
    let t := s.target n e
    let s : State := s.launchFlight n e
    let wa := s.word (R.ADC_SEQA n e); let wb := s.word (R.ADC_SEQB n e)
    let s : State := (s.putBoth (R.ADC_SEQA n' e') wa role).putBoth (R.ADC_SEQB n' e') wb role
    let s : State := (s.putBoth (R.ADC_SEQA n e) 0 role).putBoth (R.ADC_SEQB n e) 0 role
    let s : State := s.bumpEpoch t
    let s : State := s.putShadow (R.ADC_SEQB n' e') (s.word (R.ADC_SEQB n' e'))
    let s : State := s.modConv n (fun c => { c with left := if c.entry = e then 0 else c.left })
    (Code.ok, s.modConv n' (fun c => { c with fresh := insertNat e' c.fresh }))

/-- A write of ADC_MOVE (R333). -/
def State.moveWrite (p : Port) (v : Word) (s : State) : State :=
  s.busWrite p R.ADC_MOVE v (fun s =>
    if s.adc.movePend.isSome then s.count F.HIF_BADACC_CNT_COUNT
    else
      let r := s.moveEntry (v.bits 0 3) (v.bits 3 5) (v.bits 8 3) (v.bits 11 5) (s.roleOf p)
      let s : State := r.2
      { s with adc := { s.adc with moveResult := r.1, movePend := if r.1 = Code.ok then some s.now else none } })

/-- ADC_MOVE (R333): A write of ADC_MOVE moves a sequencer entry to another converter and raises the epochs. -/
def execAdcMove (p : Port) (v : Word) (s : State) : Host.Outcome State Fault Refusal := .next (s.moveWrite p v)

/-- PEND clears after 20 µs, when no sample of the old place is in flight any more (R333). -/
def execMovePendEnd (s : State) : Host.Outcome State Fault Refusal :=
  .next (match s.adc.movePend with
    | some t =>
      if 16000 ≤ elapsed t s.now then
        let s : State := (upTo 6).foldl (fun (s : State) n => s.landFlight n) s
        { s with adc := { s.adc with movePend := none } }
      else s
    | none => s)

/-! ACC_DATA (R337) -/

/-- The target that ACC_IDX names, none where trackers end. -/
def State.accTarget (s : State) : Option Nat :=
  let i := s.get F.ACC_IDX_INDEX
  if s.flag F.ACC_IDX_TRK then (if i < 256 then some (512 + i) else none) else some i

/-- ACC_IDX after an access of ACC_DATA. -/
def State.accAdvance (s : State) : State :=
  if s.get F.ACC_IDX_WORD < 2 then s.set F.ACC_IDX_WORD (s.get F.ACC_IDX_WORD + 1)
  else
    let i := s.get F.ACC_IDX_INDEX
    let last := if s.flag F.ACC_IDX_TRK then 255 else 511
    (s.set F.ACC_IDX_WORD 0).set F.ACC_IDX_INDEX (if last ≤ i then 0 else i + 1)

/-- The STAT word of a target. -/
def State.accStat (s : State) (t : Nat) : Nat :=
  let w := s.win t
  b2n w.open' + 2 * w.epoch + place 5 8 w.settle + place 13 1 (b2n (s.feeder t).isSome) + place 16 16 w.edrop

/-- The access codes of the two configuration words: TQ is the operator's, the rest the installer's (Table 12.9). -/
def accRow (t w : Nat) : RegRow :=
  if w = 0 then ⟨accAddr t 0, [], .none, 0xC00, 0x3FF3FF, 0, 0, 0, 0, 0, 0xC00⟩
  else ⟨accAddr t 1, [], .none, 0, 0xFFFFFFFF, 0, 0, 0, 0, 0, 0⟩

/-- A write of a target's word; a new TQ acts under R334. -/
def State.accWrite (p : Port) (t w : Nat) (v : Word) (s : State) : State :=
  let old := s.get (accTq t)
  let s : State := s.rowWrite (accRow t w) p (accAddr t w) v
  if s.get (accTq t) = old then s else s.tqChanged t

/-- An access to ACC_DATA reads or writes a configuration word of the target at ACC_IDX, then advances WORD and INDEX (R337). -/
def State.accAccess (p : Port) (w : Option Word) (s : State) : State :=
  let k := s.get F.ACC_IDX_WORD
  let s : State := match w, s.accTarget with
    | none, some t => s.answer (if k < 2 then (s.word (accAddr t k)).toNat else if k = 2 then s.accStat t else 0)
    | none, none => s.answer 0
    | some v, some t => if k < 2 then s.accWrite p t k v else s
    | some _, none => s
  s.accAdvance

/-- An access of ACC_DATA. -/
def execAccDataAccess (p : Port) (w : Option Word) (s : State) : Host.Outcome State Fault Refusal :=
  .next (match w with
    | none => s.onRead p (fun s => s.accAccess p none)
    | some v => s.onWrite p (fun s => s.accAccess p (some v)))

/-! Windows' own closes (R328 to R331) -/

/-- The length of the present period of a TIME window, in µs (R360). -/
def State.winPeriod (s : State) (t : Nat) : Nat := s.get (accPeriod t) - (s.win t).short

/-- A TIME close of target t is due and can be made: not in VIGIL nor asleep, and not while its feed is calibrated. -/
def State.timeCloseDue (s : State) (t : Nat) : Bool :=
  (s.win t).open' && s.get (accWsrc t) == 1 && !s.sys.mode.asleep && s.sys.mode != .off
    && (match s.feeder t with | some (n, _) => !s.calibrating n | none => true)
    && decide (s.winPeriod t * 800 ≤ elapsed (s.win t).openT s.now)

/-- The catch-up rule of R360 at an action that is late by l in periods of p: the debt and the shortening of the next
period. -/
def catchUp (pct p debt l : Nat) : Nat × Nat :=
  let d := if l = 0 then debt else if pct = 0 then 0 else (debt + l) % p
  let sh := min d (p * pct / 100)
  (d - sh, sh)

/-- A TIME close (R328, R360). -/
def State.timeClose (t : Nat) (s : State) : State :=
  let per := s.get (accPeriod t)
  let late := elapsed (s.win t).openT s.now / 800 - s.winPeriod t
  let c := catchUp (s.get F.TMR_CATCHUP_PCT) per (s.win t).debt late
  let s : State := s.closeWin t 4 none true
  s.setWin t { s.win t with debt := c.1, short := c.2 }

/-- WINDOW_TIME_CLOSE (R328): A TIME window's PERIOD passes, the window closes and reopens, and a record is built. -/
def execWindowTimeClose (t : Nat) (s : State) : Host.Outcome State Fault Refusal :=
  .next (if s.timeCloseDue t then s.timeClose t else s)

/-- The clock has passed a boundary of target t's ANGLE window; no close while the clock is clamped (R328). -/
def execWindowAngleClose (t : Nat) (s : State) : Host.Outcome State Fault Refusal :=
  .next (if (s.win t).due && s.get (accWsrc t) == 2 && s.clockRuns && !s.ang.clamped then s.closeWin t 3 none true else s)

/-- At an entry to a mode of R321 each enabled TIME window opens (Table 12.5). -/
def State.timeWinsOpen (s : State) : State := s.openAll (fun t => s.get (accWsrc t) == 1)

/-- The windows on leaving the modes of R321 (R330): every one closes with CAUSE 7, but for keep, the target of ADC_VIGIL on
entry to VIGIL. TIMER and HOST windows, which are continuous from their enable on, reopen. -/
def State.winsLeave (keep : Option Nat) (s : State) : State :=
  let s : State := s.closeAll 7 false (fun t => keep != some t)
  s.openAll (fun t => decide (3 ≤ s.get (accWsrc t)))

/-- Windows fed by a converter that has become unusable close (R330, R335). -/
def State.convGone (n : Nat) (s : State) : State :=
  s.closeAll 7 false (fun t => match s.feeder t with | some (m, _) => m == n | none => false)

end Sys2Proof.Machine
end

