-- ==== Sys2Proof/Machine/Claims.lean ====
section
/-! DEFINITION. The claim table of a copy of the set-up (R438, check 4 of Table 17.2): who holds each IO pin, timer, target and
EXT line. Gate pins and sequence slots have no second claimant: only the scheduler's channel modes hold a gate pin (R91), and only its
own two words describe a slot. -/

namespace Sys2Proof.Machine

/-- A claim: the resource's KIND and INDEX, the claimant's code, and which entry of the sequencers it is where the claimant
is one (0 otherwise). side keeps the feeding of a target apart from the holding of its window. -/
structure Claim where
  kind : Nat
  index : Nat
  side : Nat
  owner : Nat
  slot : Nat
  deriving DecidableEq, Repr

/-- A claim of a pin, a timer or a line. -/
def plain (kind index owner : Nat) : Claim := { kind := kind, index := index, side := 0, owner := owner, slot := 0 }

/-- A claimant's code (R438). -/
def ownerCode (block unit : Nat) : Nat := block * 256 + unit

/-- A field of a copy. -/
def WMap.field (m : WMap) (f : Fld) : Nat := (WMap.word m f.a).bits f.lo f.w

/-- A claim made where a condition holds. -/
def claimIf (c : Bool) (x : Claim) : List Claim := if c then [x] else []

/-- The pins, timers and lines that a copy gives out (R239, R271, R347, R357, R378, R385, R407). -/
def pinClaims (m : WMap) : List Claim :=
  let g := fun f => WMap.field m f
  claimIf (g F.SYS_SAFECFG_STOP_EN == 1) (plain 0 (g F.SYS_SAFECFG_STOP_PIN) (ownerCode 0 0))
    ++ claimIf (g F.HIF_CFG_CLKREQ_EN == 1) (plain 0 31 (ownerCode 2 0))
    ++ (upTo 8).flatMap (fun n => claimIf (g (F.GRD_CFG_EN n) == 1 && g (F.GRD_CFG_XF_EN n) == 1) (plain 0 (g (F.GRD_CFG_XF_PIN n)) (ownerCode 8 n)))
    ++ (upTo 8).flatMap (fun n => claimIf (g (F.CMP_WMCFG_EXT n) == 1) (plain 6 n (ownerCode 11 n)))
    ++ (upTo 16).flatMap (fun n =>
      claimIf (g (F.TMR_PIN_CAP_EN n) == 1 && decide (g (F.TMR_PIN_CAP_SRC n) < 32)) (plain 0 (g (F.TMR_PIN_CAP_SRC n)) (ownerCode 12 n))
        ++ claimIf (g (F.TMR_PIN_OUT_EN n) == 1) (plain 0 (g (F.TMR_PIN_OUT_PIN n)) (ownerCode 12 n))
        ++ claimIf (g (F.TMR_CFG_EN n) == 1) (plain 2 n (ownerCode 2 255)))
    ++ (upTo 8).flatMap (fun n =>
      let en := g (F.NIB_CFG_EN n) == 1
      let pin := fun (w : Word) (k : Nat) => claimIf (en && w.bit (8 * k + 5)) (plain 0 (w.bits (8 * k) 5) (ownerCode 13 n))
      (upTo 4).flatMap (fun k => pin (WMap.word m (R.NIB_IN n)) k)
        ++ (upTo 4).flatMap (fun k => pin (WMap.word m (R.NIB_INKA n)) k)
        ++ (upTo 4).flatMap (fun k => pin (WMap.word m (R.NIB_INKB n)) k))
    ++ (upTo 8).flatMap (fun n =>
      claimIf (g (F.EVC_EXTCFG_EN n) == 1) (plain 6 n (ownerCode 14 n))
        ++ claimIf (g (F.EVC_EXTCFG_EN n) == 1 && g (F.CMP_WMCFG_EXT n) == 0) (plain 0 (g (F.EVC_EXTCFG_PIN n)) (ownerCode 14 n)))

/-- The target of entry e of converter n in a copy: KIND 4 or 5, and its index. -/
def entryTarget (m : WMap) (n e : Nat) : Nat × Nat :=
  let t := WMap.field m (F.ADC_SEQA_TARGET n e)
  if WMap.field m (F.ADC_SEQA_TRK n e) = 1 then (5, t % 256) else (4, t)

/-- The feeding entries (R322); the tracker that WHL_ERR_ROUTE names is the angle clock's (R79), whose window sources R328
limits to TIME, ANGLE and HOST. -/
def targetClaims (m : WMap) : List Claim :=
  let g := fun f => WMap.field m f
  let routed := g F.WHL_ERR_ROUTE_EN == 1
  let k := g F.WHL_ERR_ROUTE_TRK
  let src := g ⟨accAddr (512 + k) 0, 0, 3⟩
  claimIf routed { kind := 5, index := k, side := 1, owner := ownerCode 3 0, slot := 0 }
    ++ claimIf routed { kind := 5, index := k, side := 2, owner := ownerCode 3 0, slot := 0 }
    ++ claimIf (routed && src == 0) { kind := 5, index := k, side := 2, owner := ownerCode 5 (g ⟨accAddr (512 + k) 0, 3, 2⟩), slot := 0 }
    ++ (upTo 6).flatMap (fun n => (upTo 32).flatMap (fun e =>
      let t := entryTarget m n e
      claimIf (g (F.ADC_SEQA_EN n e) == 1) { kind := t.1, index := t.2, side := 1, owner := ownerCode 9 0, slot := n * 32 + e + 1 }))
    ++ claimIf (routed && src == 3) { kind := 5, index := k, side := 2, owner := ownerCode 12 (g ⟨accAddr (512 + k) 0, 5, 4⟩), slot := 0 }

/-- The claim table that a copy of the registers makes: pins, then targets of converters and trackers. -/
def claims (m : WMap) : List Claim := pinClaims m ++ targetClaims m

/-- Two claims of one resource by two claimants. -/
def Claim.clashes (a b : Claim) : Bool :=
  a.kind == b.kind && a.index == b.index && a.side == b.side && !(a.owner == b.owner && a.slot == b.slot)

/-- Every clash of a list. -/
def clashes : List Claim → List (Claim × Claim)
  | [] => []
  | a :: l => (l.filter (fun b => a.clashes b)).map (fun b => (a, b)) ++ clashes l

/-- OWNER_A and OWNER_B: the live owner first, and of two new claimants the one with the lower block number (R438). -/
def ordered (live : List Claim) (x : Claim × Claim) : Claim × Claim :=
  if live.contains x.1 then x
  else if live.contains x.2 then (x.2, x.1)
  else if x.1.owner ≤ x.2.owner then x else (x.2, x.1)

/-- Check 4: the clashes of the shadow copy. -/
def State.claimFaults (s : State) : List (Claim × Claim) :=
  (clashes (claims s.regs.shadow)).map (ordered (claims s.regs.live))

end Sys2Proof.Machine
end

