-- ==== Sys2Proof/Machine/Operands.lean ====
section
/-! DEFINITION. The fields and value sources of notes (R152, R160, R162, Tables 6.1 to 6.4, 6.6): a note as its two words, the
values it names, and which notes are reserved or barred. -/

namespace Sys2Proof.Machine

/-- A note: bits [63:32] and [31:0] (R160). -/
structure Note where
  hi : Word
  lo : Word
  deriving DecidableEq, Repr

def Note.op (n : Note) : Nat := n.hi.bits 26 6
def Note.tgt (n : Note) : Nat := n.hi.bits 14 12
def Note.ca (n : Note) : Nat := n.hi.bits 9 5
def Note.cb (n : Note) : Nat := n.hi.bits 4 5

/-- Opcodes (Table 6.3). -/
def Op.nop : Nat := 0x00
def Op.gate : Nat := 0x01
def Op.level : Nat := 0x02
def Op.tload : Nat := 0x03
def Op.waitT : Nat := 0x08
def Op.waitA : Nat := 0x09
def Op.waitC : Nat := 0x0A
def Op.waitK : Nat := 0x0B
def Op.reg : Nat := 0x10
def Op.br : Nat := 0x18
def Op.loop : Nat := 0x19
def Op.claim : Nat := 0x20
def Op.release : Nat := 0x21
def Op.susBegin : Nat := 0x28
def Op.susEnd : Nat := 0x29
def Op.mark : Nat := 0x30
def Op.sample : Nat := 0x31
def Op.endNote : Nat := 0x3F

def Note.known (n : Note) : Bool :=
  [Op.nop, Op.gate, Op.level, Op.tload, Op.waitT, Op.waitA, Op.waitC, Op.waitK, Op.reg, Op.br, Op.loop, Op.claim, Op.release,
   Op.susBegin, Op.susEnd, Op.mark, Op.sample, Op.endNote].contains n.op

/-- Which of TGT, CA and CB the opcode's action names (Table 6.3). -/
def Note.usesTgt (n : Note) : Bool := [Op.waitA, Op.waitC, Op.waitK, Op.reg, Op.br, Op.loop].contains n.op
def Note.usesCa (n : Note) : Bool := [Op.waitC, Op.reg, Op.br].contains n.op
def Note.usesCb (n : Note) : Bool := [Op.waitA, Op.waitC, Op.waitK, Op.reg].contains n.op

/-- The bits of [31:0] that the opcode uses (Table 6.4); bits [35:32] are used by none. -/
def Note.lowMask (n : Note) : Nat :=
  if n.op = Op.gate then 0xFF else if n.op = Op.level then 0x1FFF1FFF else if n.op = Op.tload then 0x7FFFFFFF
  else if n.op = Op.waitT ∨ n.op = Op.waitA then 0x1FFFFFFF else if n.op = Op.reg then 0x1
  else if n.op = Op.mark then 0x3FF else if n.op = Op.sample then 0x3FFF else 0

/-! GATE, LEVEL, TLOAD, WAIT_T, WAIT_A, REG, MARK and SAMPLE fields (Table 6.4) -/

def Note.hv (n : Note) : Nat := n.lo.bits 0 2
def Note.hb (n : Note) : Nat := n.lo.bits 2 2
def Note.ls (n : Note) : Nat := n.lo.bits 4 2
def Note.decay (n : Note) : Bool := n.lo.bit 6
def Note.placed (n : Note) : Bool := n.lo.bit 7
def Note.pkImm (n : Note) : Nat := n.lo.bits 0 10
def Note.pkSrc (n : Note) : Nat := n.lo.bits 10 3
def Note.hdImm (n : Note) : Nat := n.lo.bits 16 10
def Note.hdSrc (n : Note) : Nat := n.lo.bits 26 3
def Note.imm (n : Note) : Nat := n.lo.bits 0 24
def Note.src (n : Note) : Nat := n.lo.bits 24 3
def Note.scale (n : Note) : Nat := n.lo.bits 27 2
def Note.dst (n : Note) : Nat := n.lo.bits 29 2
def Note.chop (n : Note) : Bool := n.lo.bit 0
def Note.markId (n : Note) : Nat := n.lo.bits 0 8
def Note.slot (n : Note) : Bool := n.lo.bit 8
def Note.rec' (n : Note) : Bool := n.lo.bit 9
def Note.index (n : Note) : Nat := n.lo.bits 0 9
def Note.sampleSrc (n : Note) : Nat := n.lo.bits 9 3
def Note.closes (n : Note) : Bool := n.lo.bit 12
def Note.trk (n : Note) : Bool := n.lo.bit 13

/-- R160: reserved values in fields that the opcode uses. -/
def Note.badValue (n : Note) : Bool :=
  let timed := n.op == Op.tload || n.op == Op.waitT || n.op == Op.waitA
  (n.op == Op.gate && (n.hv == 3 || n.hb == 3 || n.ls == 3))
    || (n.op == Op.level && (decide (6 ≤ n.pkSrc) || decide (6 ≤ n.hdSrc)))
    || (timed && (decide (5 ≤ n.src) || (n.src == 0 && n.scale != 0)))
    || (n.op == Op.tload && n.dst == 3)
    || (n.op == Op.sample && decide (5 ≤ n.sampleSrc))
    || (n.usesCa && n.ca % 16 == 14) || (n.usesCb && n.cb % 16 == 14)

/-- CAUSE 1 of R172 and R174: a reserved OP, or a non-zero reserved field or a reserved value. -/
def Note.reserved (n : Note) : Bool :=
  !n.known || n.badValue || n.hi.bits 0 4 != 0 || (n.lo.toNat &&& (0xFFFFFFFF - n.lowMask)) != 0
    || (!n.usesTgt && n.tgt != 0) || (!n.usesCa && n.ca != 0) || (!n.usesCb && n.cb != 0)

/-- A GATE note commands HV, or HB, on; under DECAY it commands every switch off (R157). -/
def Note.hvOn (n : Note) : Bool := n.op == Op.gate && !n.decay && n.hv == 2
def Note.hbOn (n : Note) : Bool := n.op == Op.gate && !n.decay && n.hb == 2

/-- A used condition field of the note reads one of some codes. -/
def Note.reads (n : Note) (codes : List Nat) : Bool :=
  (n.usesCa && codes.contains (n.ca % 16)) || (n.usesCb && codes.contains (n.cb % 16))

/-- Table 6.6: the note is barred for a phrase kind (1 INJ, 2 SOL, 3 IGN). -/
def Note.barred (n : Note) (kind : Nat) : Bool :=
  (decide (2 ≤ kind) && (n.hvOn || n.hbOn || [Op.claim, Op.release, Op.level, Op.reg].contains n.op || n.reads [1, 2, 4, 5, 11]))
    || (kind == 3 && (n.op == Op.waitK || n.reads [3, 10]))

/-! Values (R152, R162) -/

/-- Parameter P0 to P3 for sources 1 to 4. -/
def Thread.param (k : Thread) (src : Nat) : Nat := k.params.getD (src - 1) 0

/-- A time value in Reed cycles; a parameter is scaled and saturates at 0xFF_FFFF. -/
def timeVal (k : Thread) (n : Note) : Nat :=
  if n.src = 0 then n.imm else min (k.param n.src * 8 ^ n.scale) 0xFFFFFF

/-- A value for LC: bits [15:0] after scaling. -/
def loopVal (k : Thread) (n : Note) : Nat :=
  (if n.src = 0 then n.imm else k.param n.src * 8 ^ n.scale) % 65536

/-- A signed angle value in at. -/
def angleVal (k : Thread) (n : Note) : Int :=
  if n.src = 0 then signed 24 n.imm else signed 16 (k.param n.src) * 8 ^ n.scale

/-- A LEVEL value: an immediate, bits [9:0] of a parameter, or the present level for source 5. -/
def levelVal (k : Thread) (imm src present : Nat) : Nat :=
  if src = 0 then imm else if src = 5 then present else k.param src % 1024

/-- The target that SAMPLE names: accumulator bits [8:0], tracker bits [7:0]. -/
def sampleVal (k : Thread) (n : Note) : Nat :=
  let v := if n.sampleSrc = 0 then n.index else k.param n.sampleSrc
  if n.trk then v % 256 else v % 512

/-- The note at index pc of quadrant q in the live copy, or in the old copy for a thread that still runs on it (R171). -/
def State.noteAt (s : State) (q : Nat) (old : Bool) (pc : Nat) : Note :=
  let w := fun (h : Nat) => if old then WMap.word (s.quad q).old (noteAddr q pc h) else s.word (noteAddr q pc h)
  { hi := w 1, lo := w 0 }

/-- The note at which a thread stands: a note that waits has not completed (R149). -/
def Thread.noteIdx (k : Thread) : Nat := if k.wait = .none then k.pc else (k.pc + 4095) % 4096

/-- The note at the program counter of thread t of bank b. -/
def State.noteOf (s : State) (b t : Nat) : Note :=
  let k := s.thread b t
  s.noteAt (b / 6) k.old k.pc

end Sys2Proof.Machine
end

