-- ==== Sys2Proof/Machine/Flags.lean ====
section
/-! DEFINITION. The conditions that notes read (R158, R159, R163, R341, Table 6.5), and who holds a bank's current
comparators. -/

namespace Sys2Proof.Machine

/-- What T0 (k = 0) or T1 reads, in Reed cycles of 4 tb (R151). -/
def State.timerVal (s : State) (b t k : Nat) : Nat :=
  let x := s.thread b t
  if k = 0 then x.t0 - elapsed x.t0At s.now / 4 else x.t1 - elapsed x.t1At s.now / 4

/-- The bank's other thread runs (SHARED). -/
def State.shared (s : State) (b t : Nat) : Bool := (s.thread b (1 - t)).run

/-- A condition field reads PK or HD. -/
def readsCurrent (c : Nat) : Bool := c % 16 == 1 || c % 16 == 2

/-- R158: the thread is in REG, or waits on PK or HD. -/
def Thread.needsCurrent (k : Thread) : Bool :=
  k.run && (match k.wait with
    | .reg _ _ _ _ => true
    | .cond ca cb _ => readsCurrent ca || readsCurrent cb
    | .angle _ _ cb _ => readsCurrent cb
    | .kink cb _ => readsCurrent cb
    | _ => false)

/-- R158: thread t has the bank's peak and hold comparators. -/
def State.ownsBank (s : State) (b t : Nat) : Bool :=
  (s.bank b).token == t + 1 || ((s.bank b).token == 0 && !(s.thread b (1 - t)).needsCurrent)

/-- The conditions PK and HD of thread t read its channel's VDS comparator: it does not have the bank's comparators, or it
regulates beside the bank's other thread (R158, R186, R499). -/
def State.readsVds (s : State) (b t : Nat) : Bool :=
  !s.ownsBank b t || (match (s.thread b t).wait with | .reg _ _ _ _ => s.shared b t | _ => false)

/-- The thread regulates, or waits for current, on its channel's VDS comparator in the fine range (R135, R158, R186,
R499). -/
def State.vdsMode (s : State) (b t : Nat) : Bool := (s.thread b t).needsCurrent && s.readsVds b t

/-- REED_TOKEN_STAT.CMP_OWNER: 0 none, 1 thread 0, 2 thread 1, 3 both on VDS. -/
def State.cmpOwner (s : State) (b : Nat) : Nat :=
  if (s.bank b).token ≠ 0 then (s.bank b).token
  else match (s.thread b 0).needsCurrent, (s.thread b 1).needsCurrent with
    | true, true => 3 | true, false => 1 | false, true => 2 | false, false => 0

/-- A comparator reads true to a condition: its observation latch is set, or its output stands above (log entry 30). -/
def State.obs (s : State) (f : Fld) (i : Nat) (c : Cmp) : Bool := s.bitOf f i || c == .above

/-- Channel n has its VDS comparator above, or its observation latch set (R163, R341). -/
def State.obsVds (s : State) (n : Nat) : Bool := s.obs (F.CMP_VDSLAT_CH (n / 32)) (n % 32) (s.cmps.vds.getD n .unsettled)

/-- The sustain end of R164, or the event's end before SUS_BEGIN, lies within 40 ns or has passed (EDUE). -/
def State.edue (s : State) (b t : Nat) : Bool := decide (tbDiff (s.thread b t).susEnd s.now ≤ 32)

/-- SPEND: a merged event has not yet started. -/
def Thread.spending (k : Thread) (now : Tb) : Bool := match k.spend with | some t => decide (0 < tbDiff t now) | none => false

/-- KINK: a report has arrived for the channel since the thread's last LS turn-off. -/
def State.reported (s : State) (b t : Nat) : Bool :=
  (s.thread b t).turnedOff
    && (match (s.chan (s.thread b t).ch).report with | some (.kink _) => true | some .noKink => true | _ => false)

/-- A condition code without its INV bit (Table 6.5). -/
def State.condCode (s : State) (b t code : Nat) : Bool :=
  let k := s.thread b t
  match code with
  | 1 => if s.readsVds b t then s.obsVds k.ch else s.obs F.CMP_PKLAT_BK b (s.cmps.peak.getD b .unsettled)
  | 2 => if s.readsVds b t then (match k.offUntil with | some u => decide (0 < tbDiff u s.now) | none => false)
         else s.obs F.CMP_HDLAT_BK b (s.cmps.hold.getD b .unsettled)
  | 3 => s.obsVds k.ch
  | 4 => s.obs F.CMP_HVLAT_BK b (s.cmps.ghv.getD b .unsettled)
  | 5 => s.obs F.CMP_HBLAT_BK b (s.cmps.ghb.getD b .unsettled)
  | 6 => s.timerVal b t 0 == 0
  | 7 => s.timerVal b t 1 == 0
  | 8 => s.edue b t
  | 9 => k.spending s.now
  | 10 => s.reported b t
  | 11 => (s.bank b).token == t + 1
  | 12 => s.shared b t
  | 13 => k.lc == 0
  | 15 => true
  | _ => false

/-- R163: INV inverts the code. -/
def State.cond (s : State) (b t c : Nat) : Bool := (s.condCode b t (c % 16)) != decide (16 ≤ c)

/-- R159: the latches of the comparators that a condition field reads are cleared. HD under VDS-estimated regulation reads none
(R186). -/
def State.clearCond (b t c : Nat) (s : State) : State :=
  let n := (s.thread b t).ch
  let vds := fun (s : State) => s.clrLatch (F.CMP_VDSLAT_CH (n / 32)) (n % 32)
  match c % 16 with
  | 1 => if s.readsVds b t then vds s else s.clrLatch F.CMP_PKLAT_BK b
  | 2 => if s.readsVds b t then s else s.clrLatch F.CMP_HDLAT_BK b
  | 3 => vds s
  | 4 => s.clrLatch F.CMP_HVLAT_BK b
  | 5 => s.clrLatch F.CMP_HBLAT_BK b
  | _ => s

end Sys2Proof.Machine
end

