-- ==== Sys2Proof/Machine/Regul.lean ====
section
/-! DEFINITION. Current regulation (R135, R158, R185 to R188, R499): the fine range, the chop switch and the timed off phase. -/

namespace Sys2Proof.Machine

/-- The timed off phase in tb: (PK − HD) × TOFF_UNIT × 5 ns (R186, R499). -/
def State.offTime (s : State) (b t : Nat) : Nat :=
  ((s.thread b t).pk - (s.thread b t).hd) * s.get (F.DRV_BKCFGB_TOFF_UNIT b) * 4

/-- GAIN of the bank's shunt amplifier (R185). -/
def State.gainOf (s : State) (b : Nat) : Nat := 10 * 2 ^ s.get (F.DRV_BKCFG_GAIN b)

/-- The VDS code of R186: round(PK × RDSON / (G × RSH)), at most 255. RDSON counts as it stood before a write in this fabric
cycle (R188); with GAIN × RSH = 0 the quotient has no value, and the code is the largest (log entry 47). -/
def State.vdsCode (s : State) (b t : Nat) : Nat :=
  let d := s.gainOf b * s.get (F.DRV_BKCFG_RSH b)
  let f := F.DRV_CHCFG_RDSON (s.thread b t).ch
  if d = 0 then 255
  else min ((2 * (s.thread b t).pk * (s.wordAsWas f.a).bits f.lo f.w + d) / (2 * d)) 255

/-- The channel's VDS comparator stands in its fine range (R186). -/
def State.isFine (s : State) (n : Nat) : Bool := (assocGet n s.cmps.fine).isSome

/-- The code of the thread's channel is loaded into its VDS DAC, at a regulation on-edge (R186, R188). -/
def State.loadFine (b t : Nat) (s : State) : State :=
  let n := (s.thread b t).ch
  if s.isFine n then { s with cmps := { s.cmps with fine := assocPut n (s.vdsCode b t) s.cmps.fine } } else s

/-- The chop of a thread's GL: it turns on only where nothing holds it (R25, R26). Its edges are the event's like any other
(R168). -/
def State.chopGl (b t : Nat) (on : Bool) (s : State) : State :=
  let k := s.thread b t
  let c := s.chan k.ch
  if on then
    if s.gatesFree b && !c.oc && !c.gl then
      let s : State := if s.vdsMode b t then s.loadFine b t else s
      s.glOn s.now k.ch true k.ev
    else s
  else if c.gl then (s.setGl k.ch false).offEvent s.now k.ch k.ev else s

/-- The chop of a bank's GHB, which stays on while another event commands it on (R157). -/
def State.chopGhb (b t : Nat) (on : Bool) (s : State) : State :=
  let k := s.thread b t
  if on then (if s.gatesFree b && !(s.bank b).ghb then (s.setGhb b true).beginEvent s.now k.ev else s)
  else if (s.bank b).ghb && !s.onForOther b k.ev (.ghb b) (fun k => k.hb) then (s.setGhb b false).offEvent s.now k.ch k.ev else s

/-- GL goes off at a PK crossing and stays off for the timed phase (R186, R499). -/
def State.startOff (b t : Nat) (s : State) : State :=
  (s.chopGl b t false).modThread b t (fun k => { k with offUntil := some (tbAdd s.now (s.offTime b t)) })

/-- The channel's VDS comparator follows its range, with the code of the thread that it serves: each change of range clears its latch
(R186, R341). -/
def State.setFine (n : Nat) (code : Option Nat) (s : State) : State :=
  if s.isFine n == code.isSome then s
  else
    let f := match code with | some c => assocPut n c s.cmps.fine | none => s.cmps.fine.filter (fun m => m.1 != n)
    ({ s with cmps := { s.cmps with fine := f } } : State).clrLatch (F.CMP_VDSLAT_CH (n / 32)) (n % 32)

/-- GL has been on for BLANK, and for OC_WIN more (R186, R187). -/
def State.blanked (s : State) (n : Nat) : Bool :=
  (s.chan n).gl && decide (s.get (F.DRV_CHCFG_BLANK n) * 40 ≤ elapsed (s.chan n).glAt s.now)
/-- The window after blanking in which a crossing is an over-current has passed (R187). -/
def State.pastOcWin (s : State) (n : Nat) : Bool :=
  s.blanked n && decide ((s.get (F.DRV_CHCFG_BLANK n) + s.get (F.DRV_BKCFGB_OC_WIN (n / 4))) * 40 ≤ elapsed (s.chan n).glAt s.now)

/-- A thread in REG leaves its switches to the edges still with the placer. -/
def State.edgesAhead (s : State) (b t : Nat) : Bool := s.edges.any (fun x => x.bank == b && x.thread == some t)

/-- One look of a regulating thread at the live comparator outputs (R159, R186, R499). An UNSETTLED comparator reads below. -/
def State.regLook (b t : Nat) (s : State) : State :=
  let k := s.thread b t
  match k.wait with
  | .reg chop _ _ _ =>
    if !k.run || s.edgesAhead b t then s
    else if s.vdsMode b t then
      -- it commands GL, and beside another thread GHB too (R135, R186)
      let s : State := s.modThread b t (fun k => { k with ls := true, hb := k.hb || s.shared b t })
      let s : State := if s.shared b t then s.chopGhb b t true else s
      match k.offUntil with
      | some _ => s
      | none =>
        let s : State := s.chopGl b t true
        if s.cmps.vds.getD k.ch .unsettled == .above && s.pastOcWin k.ch then s.startOff b t else s
    else
      let pk := s.cmps.peak.getD b .unsettled == .above
      if chop then
        match k.offUntil with
        | some _ => s
        | none => if pk then s.startOff b t else s.chopGl b t true
      else
        -- after a VDS off phase GL stands on again, and GHB chops
        let s : State := if k.offUntil.isSome then
            (s.modThread b t (fun k => { k with offUntil := none })).chopGl b t true else s
        if pk then s.chopGhb b t false
        else if s.cmps.hold.getD b .unsettled != .above then s.chopGhb b t true else s
  | _ => s

/-- The comparator ranges and the regulating threads of a bank follow what its threads now do. -/
def State.settleBank (b : Nat) (s : State) : State :=
  let s : State := (upTo 4).foldl (fun (s : State) i =>
    let n := 4 * b + i
    s.setFine n (((upTo 2).find? (fun t => (s.thread b t).ch == n && s.vdsMode b t)).map (s.vdsCode b))) s
  (s.regLook b 0).regLook b 1

end Sys2Proof.Machine
end

