-- ==== Sys2Proof/Machine/Sched.lean ====
section
/-! DEFINITION. Release and start of events: the checks of R143, lateness, merging, the waits for a thread, LOG outputs, and
the duty caps (chapters 4 and 5). -/

namespace Sys2Proof.Machine

/-! Lateness (R124, R125) -/

/-- How far the clock can still run before the clamp, in at. -/
def State.clampRoom (s : State) : Int := (((s.ang.next + 2 * cycleAt - 1 - s.ang.at') % cycleAt : Nat) : Int)

/-- L_ang in at and L_t in tb of an event at an edge d tb from now, before cutting at zero (R124). -/
def State.lateness (s : State) (e : Event) (d : Int) : Int × Int :=
  match e.start with
  | .time t => let lt := d - tbDiff t s.now; (s.atOver lt, lt)
  | .angle =>
    let la := min ((d * (s.ang.rate : Int) + (s.ang.frac : Int)) / 2 ^ 32) s.clampRoom - s.anchorDist e
    (la, if la ≤ 0 then 0 else s.tbFor la.toNat)

/-- R125: the event would be stale at an edge d tb from now; it is not tested again after a shift (R133, R222). -/
def State.isStale (s : State) (e : Event) (d : Int) : Bool :=
  e.shift == 0 && decide ((s.staleAt e.ch : Int) < (s.lateness e d).1)

/-- A STALE event leaves (R125). -/
def State.stale (e : Event) (s : State) : State := (s.count F.SCH_STALE_CNT_COUNT).refuse e Code.stale

/-! Release (R110, R111, R143) -/

/-- The start is near enough (R110). -/
def State.near (s : State) (e : Event) : Bool :=
  match e.start with
  | .time t => decide (tbDiff t s.now ≤ s.hzTime)
  | .angle => decide (s.anchorDist e ≤ s.hzAng)

/-- The event of channel n that a release would take: the next waiting one, permitted and near (R110). While a new mode waits for
the running phrase, no event of it is released (R94, log entry 44). -/
def State.releasable (s : State) (n : Nat) : Option Event :=
  if (s.chan n).modeHeld.isSome then none
  else match (s.queueOf n).find? (fun e => e.phase == .waiting) with
  | some e => if s.chThere n && s.syncPermits n && !s.halfHold e && s.near e then some e else none
  | none => none

/-- R201: the electrical duration that the closing trim gives at release, in tb. -/
def State.trimDur (s : State) (e : Event) : Option Nat :=
  if s.flag (F.DRV_CHCFG_TRIM_EN e.ch) && !e.durAngle then
    some (20 * (max 1 ((e.dur : Int) + signed 16 (s.get (F.DRV_TRIM_CORR e.ch)))).toNat)
  else none

/-- The event as its release sees it: trimmed, and placed modulo 360 °CA where HALF_POL says so (R104, R201). -/
def State.prepared (s : State) (e : Event) : Event :=
  let e := { e with durTb := s.trimDur e }
  if s.half360 e && e.onAngle then s.halved e
  else { e with ran := e.ran || e.flags.twin || (s.halfNow && e.onAngle && s.get (F.SCH_CHCFG_HALF_POL e.ch) == 2) }

/-- What a check of R143 answers: the decision waits, the event is refused with a code, or it goes on as it now stands. -/
inductive Check where
  | waits
  | refused (code : Nat)
  | goes (e : Event) (forced : Bool)
  deriving DecidableEq, Repr

/-- Step 2: the inkwell's decision (R216, R219, R222, R223) and its effect on the ledger. -/
def State.inkCheck (e : Event) (s : State) : Check × State :=
  let b := e.ch / 4
  let used := s.amounts b e.phrase
  if s.chMode e.ch = 4 ∨ !s.flag F.INK_CTRL_EN ∨ (used.1.isNone ∧ used.2.isNone) then (.goes e false, s)
  else if 1024 ≤ s.ink.resv.length then (.waits, s.count F.INK_RESV_FULL_CNT_COUNT)
  else
    let at' := max 0 (s.projStart e)
    match decideInk s e.eclass b e.phrase at' with
    | .refuse => (.refused Code.budget, s.count F.INK_DENY_CNT_COUNT)
    | .allow p d shifted subst forced =>
      let start := s.stampAt (at' + (d : Int) * 800)
      let e' : Event := { e with run := p, flags := { e.flags with subst := subst, shifted := e.flags.shifted || shifted } }
      let e' : Event := if shifted then
          { e' with start := .time start, conv := e.onAngle || e.conv, shift := d * 800 } else e'
      let s : State := s.reserve e.id b p start
      let s : State := if shifted then s.count F.INK_SHIFT_CNT_COUNT else s
      let s : State := if subst then s.count F.INK_SUBST_CNT_COUNT else s
      let s : State := if forced then
          ((s.count F.INK_FORCE_CNT_COUNT).alarm 26 e.ch 0 e.tag.toNat).raise 60 else s
      (.goes e' forced, s)

/-- One bucket of R142: its fields, its level in tb × 256, and the durations released on it. -/
structure Bucket where
  on : Bool
  act : Nat
  limit : Nat
  win : Nat
  level : Nat
  ahead : Nat

/-- The duration in tb that a bucket leaves an event that starts d tb from now (R142). -/
def Bucket.room (k : Bucket) (d : Nat) : Int :=
  let lvl : Nat := (k.level - k.limit * d) + 256 * k.ahead
  ((k.limit * k.win * 800000 : Nat) - (lvl : Int)) / ((256 - k.limit : Nat) : Int)

/-- The durations of the events of a set of channels that are released and not yet started. -/
def State.durAhead (s : State) (p : Nat → Bool) : Nat :=
  ((s.sch.store.filter (fun e => p e.ch && e.phase == .released)).map s.durOf).sum

/-- The buckets that cover channel n: its own, then its bank's (R141, R142). -/
def State.bucketsOf (s : State) (n : Nat) : List Bucket :=
  let b := n / 4
  [{ on := s.flag (F.SCH_LIM_EN n), act := s.get (F.SCH_LIM_ACT n), limit := s.get (F.SCH_LIM_LIMIT n),
     win := s.get (F.SCH_LIM_WIN n), level := (s.chan n).bucket, ahead := s.durAhead (fun m => m == n) },
   { on := s.flag (F.SCH_BKDUTY_EN b), act := s.get (F.SCH_BKDUTY_ACT b), limit := s.get (F.SCH_BKDUTY_LIMIT b),
     win := s.get (F.SCH_BKDUTY_WIN b), level := (s.bank b).bucket, ahead := s.durAhead (fun m => m / 4 == b) }]

/-- Step 3: the duration after the buckets, with whether it was cut; none where one refuses (R142). -/
def dutyLimit (start : Nat) : List Bucket → Nat → Bool → Option (Nat × Bool)
  | [], d, cut => some (d, cut)
  | k :: ks, d, cut =>
    if k.on ∧ k.room start < (d : Int) then
      if k.act = 0 ∧ 0 < k.room start then dutyLimit start ks (k.room start).toNat true else none
    else dutyLimit start ks d cut

/-- Step 3 of R143 and its counters. -/
def State.dutyCheck (e : Event) (s : State) : Check × State :=
  match dutyLimit (s.projStart e).toNat (s.bucketsOf e.ch) (s.durOf e) false with
  | none => (.refused Code.duty, s.count F.SCH_DUTY_CNT_COUNT)
  | some (d, true) =>
    (.goes { e with durTb := some d, flags := { e.flags with trunc := true } } false, s.count F.SCH_TRUNC_CNT_COUNT)
  | some (_, false) => (.goes e false, s)

/-- PEAK_SHIFT_MAX in tb. -/
def State.psm (s : State) : Nat := s.get F.SCH_OVL_PEAK_SHIFT_MAX * 800

/-- Step 4: an event or thread of the bank from start a to end z, as distances from now, spans the start and ends too
late. -/
def spansLate (start psm a z : Int) : Bool := decide (a ≤ start) && decide (start + psm < z)

/-- Step 4 of R143: both threads of the bank are taken across the start. -/
def State.threadsTaken (s : State) (e : Event) : Bool :=
  let st := s.projStart e; let b := e.ch / 4
  let rel := s.sch.store.filter (fun x => x.ch / 4 == b && x.phase == .released && s.chMode x.ch != 4
    && spansLate st s.psm (s.projStart x) (s.projStart x + s.durOf x))
  let run := (s.bank b).threads.filter (fun k => k.run
    && spansLate st s.psm (tbDiff k.firstEdge s.now) (tbDiff k.susEnd s.now))
  s.chMode e.ch != 4 && decide (2 ≤ rel.length + run.length)

/-- The trace record of a release decision (Table 11.10). -/
def State.releaseTrace (e : Event) (code : Nat) (forced : Bool) (s : State) : State :=
  if e.trace then s.trace 3 3 (e.ch + code * 128 + b2n forced * 4096) s.now (e.shift / 800) e.tag.toNat else s

/-- An event refused at release: its result, its trace record and the return of its reservation (R143). -/
def State.refuseRelease (e : Event) (code : Nat) (s : State) : State := (s.releaseTrace e code false).refuse e code

/-- The event of channel n is released, or refused by the first check of R143 that refuses it. -/
def State.release (n : Nat) (s : State) : State :=
  match s.releasable n with
  | none => s
  | some e0 =>
    let e := s.prepared e0
    if s.projStart e < 0 ∧ s.isStale e 0 then (s.count F.SCH_STALE_CNT_COUNT).refuseRelease e Code.stale
    else
      match s.inkCheck e with
      | (.waits, s) => s
      | (.refused c, s) => s.refuseRelease e c
      | (.goes e forced, s) =>
        match s.dutyCheck e with
        | (.goes e _, s) =>
          if s.threadsTaken e then s.refuseRelease e Code.overlap
          else
            let s : State := s.modEvent e.id (fun _ => { e with phase := .released })
            s.releaseTrace e (if e.flags.subst then Code.substituted else if e.flags.shifted then Code.shifted else 0) forced
        | (.refused c, s) => s.refuseRelease e c
        | (.waits, s) => s

/-- EVENT_RELEASE (R110): An event whose start comes within the horizon is released after the stale, inkwell, duty and thread checks. -/
def execEventRelease (n : Nat) (s : State) : Host.Outcome State Fault Refusal := .next (s.release n)

/-- The clock reaches the anchor angle of a channel's angle-plus-delay events: their starts are fixed (R101). -/
def execAnchorAngleReached (n : Nat) (s : State) : Host.Outcome State Fault Refusal :=
  .next (if s.clockRuns then
    s.modStore (fun e =>
      if e.ch == n && e.unstarted && e.anchor == 2 && e.onAngle && !s.halfHold e && decide (s.anchorDist e ≤ 0) then
        { s.halved e with start := .time (tbAdd s.now e.delay) }
      else e)
  else s)

/-! Start (R127, R128) -/

/-- Threads of the bank that run on channel n. -/
def State.threadsOn (s : State) (n : Nat) : List Nat :=
  (upTo 2).filter (fun t => (s.thread (n / 4) t).run && (s.thread (n / 4) t).ch == n)

/-- The thread is in its merge watch: SUS_END holds it and its gates are off (R164). -/
def State.inWatch (s : State) (b t : Nat) : Bool :=
  let k := s.thread b t
  match k.wait with
  | .sus _ => k.run && !(s.chan k.ch).gl && !s.edges.any (fun x => x.ev == k.ev && x.bank == b)
  | _ => false

/-- The thread commands none of its channel's gates on and has no on edge with the placer. -/
def State.quiet (s : State) (b t : Nat) : Bool :=
  let k := s.thread b t
  !k.ls && !s.edges.any (fun x => x.ev == k.ev && x.bank == b && x.on)

/-- A thread has made, or placed, its final gate-off: it stands past its sustain section, or waits in its merge watch. One that
has switched off outside a sustain section counts as done, since no note says that an off edge is the last (log entry 45). -/
def State.threadDone (s : State) (b t : Nat) : Bool :=
  let k := s.thread b t
  let watch := match k.wait with | .sus _ => true | _ => false
  s.quiet b t && (watch || (!k.sus && (match s.event k.ev with | some e => e.begun | none => false)))

/-- R127: the end of the channel's previous event is known: its final gate-off, or its LOG end edge. -/
def State.chFree (s : State) (n : Nat) : Bool := s.chMode n = 4 || (s.threadsOn n).all (fun t => s.threadDone (n / 4) t)

/-- The ends of the channel's events as distances from now: the last one made, the off edges with the placer, and the end edges of
LOG outputs (R127). -/
def State.endsOf (s : State) (n : Nat) : List Int :=
  ((s.chan n).lastEnd.toList.map (fun t => tbDiff t s.now))
    ++ ((s.edges.filter (fun x => x.gate == .gl n && !x.on && x.thread.isSome)).map (fun x => tbDiff x.at' s.now))
    ++ (if s.chMode n = 4 then (s.sch.store.filter (fun e => e.ch == n && e.phase == .running)).map (fun e =>
          tbDiff (tbAdd e.startT (e.durTb.getD 0)) s.now) else [])

/-- t_free as a distance from now (R127). -/
def State.freeAt (s : State) (n : Nat) : Option Int :=
  match s.endsOf n with
  | [] => none
  | x :: l => some (l.foldl max x + s.get (F.SCH_POL_MIN_GAP n) * 800)

/-- R183: a latch holds the channel or its bank. -/
def State.latched (s : State) (n : Nat) : Bool := (s.chan n).oc || (s.bank (n / 4)).oc

/-- The lead from the scheduler's decision to the first edge in tb: 80 ns, once the quadrant's clock runs (R29, R37). -/
def State.lead (s : State) (q : Nat) : Int := ((64 + s.untilRuns q : Nat) : Int)

/-- Default Dn of phrase p of quadrant q: a thread that starts in the fabric cycle of a write keeps the old value (R173). -/
def State.pdef (s : State) (q p i : Nat) : Nat :=
  let f := match i with
    | 0 => F.REED_PDEFA_D0 q p
    | 1 => F.REED_PDEFA_D1 q p
    | 2 => F.REED_PDEFB_D2 q p
    | _ => F.REED_PDEFB_D3 q p
  (s.wordAsWas f.a).bits f.lo f.w

/-- R150: thread t of the event's bank starts for an event with its first edge; the latches that R341 names clear. -/
def State.startThread (e : Event) (t : Nat) (edge : Tb) (s : State) : State :=
  let b := e.ch / 4; let q := e.ch / 24
  let k : Thread := { Thread.initial with
    run := true, ev := e.id, ch := e.ch, phrase := e.run, kind := s.get (F.REED_PDIR_KIND q e.run),
    pc := s.get (F.REED_PDIR_ENTRY q e.run), params := e.params.mapIdx (fun i v => if v = 0xFFFF then s.pdef q e.run i else v),
    place := some edge, firstEdge := edge, susEnd := tbAdd edge (s.durOf e), fin := tbAdd edge (s.durOf e), watchEnd := edge }
  let s : State := s.modThread b t (fun _ => k)
  let s : State := ((s.clrLatch (F.CMP_VDSLAT_CH (e.ch / 32)) (e.ch % 32)).clrLatch F.CMP_HVLAT_BK b).clrLatch F.CMP_HBLAT_BK b
  s.modChan e.ch (fun c => { c with offAt := none })

/-- A LOG output is handed to the placer (R93): its GL goes to the active level in the start slot. -/
def State.startLog (e : Event) (edge : Tb) (s : State) : State :=
  s.placeEdge (some edge) (.gl e.ch) (!s.flag (F.SCH_CHCFG_POL e.ch)) (e.ch / 4) none e.id

/-- An event starts with its first edge and its waits (R126, R128, R133): it leaves the queue, its duration is fixed, and
the channel's debt follows. base: the moment from which R132 counts its waits. -/
def State.begin (e : Event) (base edge : Tb) (lt waited : Nat) (t : Option Nat) (s : State) : State :=
  let e : Event := { e with
    phase := .running, durTb := some (s.durOf e), startT := edge, lateTb := lt, waited := waited,
    flags := { e.flags with late := decide (lt ≠ 0), shifted := e.flags.shifted || decide (waited ≠ 0) } }
  let s : State := if lt ≠ 0 then s.count F.SCH_LATE_CNT_COUNT else s
  let s : State := if waited ≠ 0 then s.count F.SCH_SHIFT_CNT_COUNT else s
  let s : State := s.modChan e.ch (fun c => { c with debt := lt + e.shift + waited })
  let s : State := s.modEvent e.id (fun _ => e)
  match t with
  | some t => (s.startThread e t edge).modThread (e.ch / 4) t (fun k => { k with waitFrom := base })
  | none => s.startLog e edge

/-- A free thread of the bank (R150). -/
def State.freeThreadOf (s : State) (b : Nat) : Option Nat :=
  if !(s.thread b 0).run then some 0 else if !(s.thread b 1).run then some 1 else none

/-! Merging (R137 to R140) -/

/-- The fabric cycle of a stamp (R140). -/
def fabricCycle (t : Tb) : Tb := t &&& ~~~1#40

/-- Where an event that merges starts, as a distance from now: at its start, or at once where that has passed. -/
def State.mergeStart (s : State) (e : Event) : Int := max 0 (s.projStart e)

/-- Thread t of the channel's bank can take the event: the same phrase, and inside its sustain section before the sustain
end, or in its merge watch until its close (R137, R140). The merge is made as soon as that holds, and into a watch that the sustain end has
opened 80 ns before the event's start, as a thread would be started (log entry 45). -/
def State.canMerge (s : State) (e : Event) (t : Nat) : Bool :=
  let k := s.thread (e.ch / 4) t
  let st := s.mergeStart e
  let before := decide (st < tbDiff k.susEnd s.now)
  s.flag (F.SCH_POL_MERGE_EN e.ch) && (s.chMode e.ch == 1 || s.chMode e.ch == 2) && k.run && k.ch == e.ch && k.phrase == e.run
    && (match k.wait with
        | .sus w => before || (decide (st ≤ 64) && decide (tbDiff (fabricCycle (s.stampAt st)) (fabricCycle w) ≤ 0))
        | _ => k.sus && before)

/-- R137, R139, R165, R200: the event merges into thread t. -/
def State.merge (e : Event) (t : Nat) (s : State) : State :=
  let b := e.ch / 4
  let k := s.thread b t
  let head := k.ev
  let root := match s.event head with | some x => x.root | none => head
  let st := s.stampAt (s.mergeStart e)
  let fin := tbAdd st (s.durOf e)
  let ang := s.angleAt (s.atOver (s.mergeStart e))
  -- R139: before the sustain end the event before it ends at this start; after it, that event has its own end
  let before := decide (s.mergeStart e < tbDiff k.susEnd s.now)
  let due := s.edue b t
  let s : State := s.modStore (fun x =>
    if x.root == root && x.phase == .running && s.chainLast x && before then { x with endT := st, endAng := ang.1 } else x)
  let s : State := s.modEvent e.id (fun _ => { e with
    phase := .running, chain := some root, durTb := some (s.durOf e), startT := st, endT := st, startAng := ang.1,
    startTag := ang.2, endAng := ang.1, angValid := s.clockRuns, begun := true, flags := { e.flags with merged := true } })
  let s : State := (s.count F.SCH_MERGE_CNT_COUNT).unreserveBoost e.id
  let watch := match k.wait with | .sus _ => true | _ => false
  -- R165: before the sustain end the off edges that SUS_END has placed are withdrawn
  let off := s.edges.filter (fun x => watch && before && x.ev == k.ev && x.bank == b && !x.on)
  let s : State := if watch && before then s.withdraw b t else s
  let s : State := s.modThread b t (fun k => { k with
    susEnd := fin, fin := fin, spend := some st, hv := k.hv || off.any (fun x => x.gate == .ghv b),
    hb := k.hb || off.any (fun x => x.gate == .ghb b), ls := k.ls || off.any (fun x => x.gate == .gl e.ch) })
  -- in the watch, or once EDUE was true, the thread resumes after SUS_BEGIN (R164, R165)
  if watch || due then
    s.modThread b t (fun k => { k with wait := .none, offUntil := none, place := some st, pc := k.susPc, sus := true })
  else s

/-- The released event that stands next in the channel's queue, where the sync state lets it start (R56, R94, R104, R129). -/
def State.nextReleased (s : State) (n : Nat) : Option Event :=
  if (s.chan n).modeHeld.isSome then none
  else match (s.queueOf n).find? (fun e => e.phase == .released) with
  | some e => if s.syncPermits n && !s.halfHold e && !(e.anchor == 2 && e.onAngle) then some e else none
  | none => none

/-- An angle event that still stands beyond the next expected tooth is not due (R74, R102, R130). -/
def State.beyondClamp (s : State) (e : Event) : Bool := e.onAngle && decide (s.clampRoom < s.anchorDist e)

/-- R134: the event that takes the next free thread of the bank: the earlier scheduled start, then the lower channel. -/
def State.firstWaiting (s : State) (b : Nat) : Option Event :=
  let l := (s.bank b).waiting.filterMap s.event
  l.find? (fun e => l.all (fun x => decide (tbDiff e.sched x.sched < 0) || (decide (e.sched = x.sched) && decide (e.ch ≤ x.ch))))

/-- The event leaves the list of events that wait for a thread of bank b. -/
def State.stopWaiting (b id : Nat) (s : State) : State :=
  s.modBank b (fun k => { k with waiting := k.waiting.filter (fun i => i != id) })

/-- An event that waits for a thread takes a free one (R132, R134). While it waits, startT holds the moment from which the
limit counts, and endT the first edge that it would have had. -/
def State.takeThread (e : Event) (s : State) : State :=
  let b := e.ch / 4
  match s.freeThreadOf b with
  | some t =>
    if (s.firstWaiting b).map (fun x => x.id) = some e.id then
      let w := tbDiff s.now e.endT
      let edge := if 0 < w then s.now else e.endT
      let s : State := s.stopWaiting b e.id
      if s.latched e.ch then s.refuse e Code.overCurrent
      else s.begin e e.startT edge e.lateTb w.toNat (some t)
    else s
  | none => s

/-- An event that has come due waits for a thread of its bank (R132). -/
def State.wait (e : Event) (base edge : Tb) (lt : Nat) (s : State) : State :=
  (s.modEvent e.id (fun x => { x with startT := base, endT := edge, sched := e.sched, lateTb := lt })).modBank (e.ch / 4)
    (fun k => { k with waiting := k.waiting ++ [e.id] })

/-- t_due or t_free, whichever is later, as a distance from now (R127, R128). -/
def State.baseOf (s : State) (e : Event) : Int :=
  match s.freeAt e.ch with | some f => max (s.projStart e) f | none => s.projStart e

/-- The event starts or merges within d tb (R116, R128). -/
def State.startsBy (s : State) (e : Event) (d : Int) : Bool :=
  !s.beyondClamp e && ((s.threadsOn e.ch).any (s.canMerge e) || (s.chFree e.ch && decide (s.baseOf e ≤ d)))

/-- The channel's next released event comes due (R128): it merges, starts, waits for a thread, or leaves as STALE or
OVER_CURRENT. -/
def State.comeDue (n : Nat) (s : State) : State :=
  match s.nextReleased n with
  | none => s
  | some e =>
    let b := n / 4; let q := n / 24
    if (s.bank b).waiting.contains e.id then s.takeThread e
    else
      match (s.threadsOn n).find? (s.canMerge e) with
      | some t => if s.beyondClamp e then s else s.merge e t
      | none =>
        let lead := s.lead q
        let base := s.baseOf e
        if !s.chFree n || s.beyondClamp e || decide (64 < base) then s
        else if s.latched n then s.refuse e Code.overCurrent
        else
          let edge := max lead base
          if s.isStale e edge then s.stale e
          else
            let lt := (s.lateness e edge).2.toNat
            let at' := s.stampAt edge
            let from' := s.stampAt base
            let e : Event := { e with sched := s.stampAt (s.projStart e) }
            let s : State := s.askQuad q
            if s.chMode n = 4 then s.begin e from' at' lt 0 none
            else match s.freeThreadOf b with
              | some t => if (s.bank b).waiting.isEmpty then s.begin e from' at' lt 0 (some t) else s.wait e from' at' lt
              | none => s.wait e from' at' lt

/-- EVENT_START (R128): A released event comes due, and its thread starts or its LOG edge goes to the placer; otherwise it merges or ends
as STALE. -/
def execEventStart (n : Nat) (s : State) : Host.Outcome State Fault Refusal := .next ((s.comeDue n).settleBank (n / 4))

/-! LOG outputs, waits and duty caps -/

/-- The running LOG event of channel n that ends first. -/
def State.logOf (s : State) (n : Nat) : Option Event :=
  if s.chMode n = 4 then
    let l := s.sch.store.filter (fun e => e.ch == n && e.phase == .running)
    l.find? (fun e => l.all (fun x => decide (tbDiff e.startT x.startT ≤ 0)))
  else none

/-- A LOG output's end edge at time t (R93, R127): GL returns to the inactive level, unless the channel's next event has begun in the
same slot, and the event ends. -/
def State.endLog (e : Event) (t : Tb) (s : State) : State :=
  let s : State := { s with edges := s.edges.filter (fun x => x.ev != e.id) }
  let next := s.sch.store.any (fun x => x.ch == e.ch && x.id != e.id && x.phase == .running && x.begun)
  let s : State := (if next then s else s.setGl e.ch (s.logRest e.ch)).offEvent t e.ch e.id
  (s.modEvent e.id (fun x => { x with phase := .ended, closing := .noWatch })).modeSettle e.ch

/-- The end of the LOG output of channel n has come. -/
def State.logEndDue (s : State) (n : Nat) : Option Event :=
  (s.logOf n).bind (fun e => if tbDiff (tbAdd e.startT (e.durTb.getD 0)) s.now ≤ 0 then some e else none)

/-- LOG_END (R93): At a LOG event's end, GLnn returns inactive and the result is written. -/
def execLogEnd (n : Nat) (s : State) : Host.Outcome State Fault Refusal :=
  .next (match s.logEndDue n with
    | some e => s.endLog e (tbAdd e.startT (e.durTb.getD 0))
    | none => s)

/-- The thread waits for the token: a CLAIM stands undecided whose moment of decision has come (R132, R156). -/
def State.waitsToken (s : State) (b t : Nat) : Bool :=
  let k := s.thread b t
  k.run && (k.wait == .claim || (k.claiming && decide (tbDiff k.claimAt s.now ≤ 0)))

/-- R132: the combined wait of thread t at a CLAIM has run out. -/
def State.tokenLate (s : State) (b t : Nat) : Bool :=
  s.waitsToken b t && decide ((s.psm : Int) ≤ tbDiff s.now (s.thread b t).waitFrom)

/-- The first event of the bank whose wait for a thread has run out. -/
def State.threadLate (s : State) (b : Nat) : Option Event :=
  ((s.bank b).waiting.filterMap s.event).find? (fun e => decide ((s.psm : Int) ≤ tbDiff s.now e.startT))

/-- The thread ends at a CLAIM with OVERLAP_TIMEOUT: every gate of it goes low at once, and where GL has been on in this event the
closing watch follows its last LS turn-off (R132). -/
def State.timeOutThread (b t : Nat) (s : State) : State :=
  let k := s.thread b t
  let s : State := s.modStore (fun e => if e.root == k.ev && e.phase == .running then markCause Code.overlap e else e)
  let s : State := s.gatesLow true b t
  let s : State := (s.releaseToken b t).closeThreadWins b t
  (s.endEvents k.ev (s.thread b t).turnedOff).freeThread b t

/-- An event whose wait for a thread has run out ends with OVERLAP_TIMEOUT and the flags that apply to it (R132, R144). -/
def State.timeOutEvent (e : Event) (s : State) : State :=
  (s.unreserve e.id).modEvent e.id (fun x => { markCause Code.overlap x with phase := .ended, closing := .noWatch })

/-- A wait for a thread or the token runs out (R132): thread t of bank b, or an event of the bank that waits for one. -/
def execTokenWaitTimeout (b t : Nat) (s : State) : Host.Outcome State Fault Refusal :=
  .next (if s.tokenLate b t then ((s.count F.SCH_OVLTO_CNT_COUNT).timeOutThread b t).settleBank b
  else match s.threadLate b with
    | some e => ((s.stopWaiting b e.id).count F.SCH_OVLTO_CNT_COUNT).timeOutEvent e
    | none => s)

/-- A bucket has reached its capacity with events running (R141). -/
def State.capReached (s : State) (bank : Bool) (i : Nat) : Bool :=
  if bank then
    s.flag (F.SCH_BKDUTY_EN i) && decide (s.get (F.SCH_BKDUTY_LIMIT i) * s.get (F.SCH_BKDUTY_WIN i) * 800000 ≤ (s.bank i).bucket)
  else
    s.flag (F.SCH_LIM_EN i) && decide (s.get (F.SCH_LIM_LIMIT i) * s.get (F.SCH_LIM_WIN i) * 800000 ≤ (s.chan i).bucket)

/-- A thread's sustain ends now (R141, R166). -/
def State.truncThread (b t : Nat) (s : State) : State :=
  let k := s.thread b t
  if 0 < tbDiff k.susEnd s.now then
    let s : State := s.modThread b t (fun k => { k with susEnd := s.now })
    let now := s.now
    (s.modStore (fun e => if e.root == k.ev && e.phase == .running then
      { e with flags := { e.flags with trunc := true }, endT := if 0 < tbDiff e.endT now ∧ tbDiff e.startT now ≤ 0 then now else e.endT } else e)).count F.SCH_TRUNC_CNT_COUNT
  else s

/-- A LOG output is cut at the present moment (R141). -/
def State.truncLog (n : Nat) (s : State) : State :=
  match s.logOf n with
  | some e =>
    let s : State := s.modEvent e.id (fun e => { e with flags := { e.flags with trunc := true } })
    (s.endLog e s.now).count F.SCH_TRUNC_CNT_COUNT
  | none => s

/-- Every running event that the bucket covers ends its sustain. -/
def State.truncCover (p : Nat → Bool) (b : Nat) (s : State) : State :=
  let s : State := (upTo 2).foldl (fun (s : State) t =>
    if (s.thread b t).run && p (s.thread b t).ch then s.truncThread b t else s) s
  (upTo 4).foldl (fun (s : State) i => if p (4 * b + i) then s.truncLog (4 * b + i) else s) s

/-- DUTY_CAP_REACHED (R141): A duty bucket reaches CAP, and every running event it covers ends its sustain with TRUNCATED. -/
def execDutyCapReached (bank : Bool) (i : Nat) (s : State) : Host.Outcome State Fault Refusal :=
  .next (if s.capReached bank i then
    if bank then s.truncCover (fun _ => true) i else s.truncCover (fun m => m == i) (i / 4)
  else s)

end Sys2Proof.Machine
end

