-- ==== Sys2Proof/Machine/Drive.lean ====
section
/-! DEFINITION. The drive stage: over-current trips and their latches, boost controllers, closing reports, results with the
closing trim, and the ledger's own steps (chapters 1, 7 and 8). -/

namespace Sys2Proof.Machine

/-! Trips (R24 to R26, R181 to R183, R187) -/

/-- A gate of channel n is pulled low by the analogue die: the gate goes off, and the running event's chain sees its
gate-off; no closing watch follows (R195). -/
def State.pullGl (n : Nat) (s : State) : State :=
  if (s.chan n).gl then
    let s : State := s.setGl n false
    match s.sch.store.find? (fun e => e.ch == n && e.phase == .running) with
    | some e => s.offEvent s.now n e.id
    | none => s
  else s

/-- The over-current comparator of channel n is judged: GL on past its blanking; in the fine range only within OC_WIN
(R181, R187). -/
def State.ocJudged (s : State) (n : Nat) : Bool :=
  s.chUsable n && !(s.chan n).oc && s.blanked n && (!s.isFine n || !s.pastOcWin n)

/-- A channel trips: its latch on the analogue die sets and its GL goes low (R24, R25, R183). -/
def execChannelOcTrip (n : Nat) (s : State) : Host.Outcome State Fault Refusal :=
  .next (if s.ocJudged n then
    (((s.modChan n (fun c => { c with oc := true, ocSeen := false })).pullGl n).count F.DRV_OC_CNT_COUNT).inCycle
      (fun m => { m with oc := insertNat n m.oc })
  else s)

/-- A high-side comparator of bank b is judged: its switch is on past the blanking (R182). -/
def State.hsJudged (s : State) (b : Nat) (boost : Bool) : Bool :=
  let k := s.bank b
  let bl := s.get (F.DRV_BKCFGB_HBLANK b) * 40
  decide (b < s.part.banks) && !k.oc
    && (if boost then k.ghv && decide (bl ≤ elapsed k.ghvAt s.now) else k.ghb && decide (bl ≤ elapsed k.ghbAt s.now))

/-- A high-side switch trips its whole bank: GHV, GHB and all four GL go low (R24, R182, R183). -/
def execHighSideOcTrip (b : Nat) (boost : Bool) (s : State) : Host.Outcome State Fault Refusal :=
  .next (if s.hsJudged b boost then
    let s : State := s.modBank b (fun k => { k with oc := true, ocSeen := false, ghv := false, ghb := false })
    let s : State := (upTo 4).foldl (fun (s : State) i => s.pullGl (4 * b + i)) s
    (s.count F.DRV_BKOC_CNT_COUNT).inCycle (fun m => { m with oc := insertNat (96 + b) m.oc })
  else s)

/-- The threads and the LOG output of channel n end with OVER_CURRENT (R25, R175). -/
def State.tripEnd (n : Nat) (s : State) : State :=
  let s : State := (s.threadsOn n).foldl (fun (s : State) t => s.killThread (n / 4) t markOc) s
  (s.killLog n false markOc).settleBank (n / 4)

/-- The logic die sees a latch (R25): the affected threads end, alarm 8 + q is placed and source 8 + q occurs. A guardian's
latch acts on the logic die within its trip; here it is only seen. -/
def State.seeLatch (u : Latch) (s : State) : State :=
  match u with
  | .channel n =>
    if (s.chan n).oc && !(s.chan n).ocSeen then
      let s : State := (s.modChan n (fun c => { c with ocSeen := true })).tripEnd n
      ((s.alarm (8 + n / 24) 0 n 0).raise (8 + n / 24))
    else s
  | .bank b =>
    if (s.bank b).oc && !(s.bank b).ocSeen then
      let s : State := s.modBank b (fun k => { k with ocSeen := true })
      let s : State := (upTo 4).foldl (fun (s : State) i => s.tripEnd (4 * b + i)) s
      ((s.alarm (8 + b / 6) 1 b 0).raise (8 + b / 6))
    else s
  | .guardian g => if (s.grd g).trip && !(s.grd g).tripSeen then s.modGrd g (fun x => { x with tripSeen := true }) else s

/-- TRIP_LATCH_SEEN (R25): The logic die sees a trip latch, ends the affected threads and makes the summary or guardian source pending. -/
def execTripLatchSeen (u : Latch) (s : State) : Host.Outcome State Fault Refusal := .next (s.seeLatch u)

/-! Boost controllers (R190 to R194) -/

/-- VSET in mV. -/
def State.vsetMv (s : State) (q : Nat) : Nat := 40000 + 250 * s.get (F.DRV_BSTCFG_VSET q)

/-- The target moves one refresh of 1 µs toward VSET (R193). -/
def rampStep (vset ramp target : Nat) : Nat :=
  if target < vset then min vset (target + ramp) else max vset (target - ramp)

/-- A refresh of the controller's VBST sense, in 0.1 V, once every 1 µs (R190 to R193). -/
def State.boostReg (q vbst : Nat) (s : State) : State :=
  let s : State := s.modQuad q (fun x => { x with vbst := vbst })
  if s.boostMode q then
    let vset := s.vsetMv q; let half := s.get (F.DRV_BSTCFG_VHYST q) * 125; let ramp := s.get (F.DRV_BSTCFG_RAMP q)
    let mv := vbst * 100
    s.modQuad q (fun x =>
      let tg := if x.regOn then (if x.ramping then rampStep vset ramp x.target else vset) else mv
      let ov := x.ov && decide (tg ≤ mv)
      let pulse := if ov then false else if mv + half < tg then true else if tg + half < mv then false else x.regOn && x.pulsing
      { x with regOn := true, target := tg, ramping := decide (tg ≠ vset), ov := ov, pulsing := pulse })
  else s.modQuad q (fun x => { x with regOn := false, pulsing := false, gbc := false, ramping := false, ov := false })

/-- BOOST_REGULATION (R190): VBST crosses the edge of the hysteresis band, and the boost controller starts or stops pulsing. -/
def execBoostRegulation (q vbst : Nat) (s : State) : Host.Outcome State Fault Refusal :=
  .next (if q < s.part.quads then s.boostReg q vbst else s)

/-- Sub-µJ remainder of DRV_BSTEINq and of the drift, in nJ, kept beside the registers. -/
def einFrac (q : Nat) : Nat := 0x170000 + 4 * q

/-- A pulse of controller q may begin: GBC is low, and has been for TOFF_MIN since the last pulse (R190). -/
def State.pulseFree (s : State) (q : Nat) : Bool :=
  match (s.quad q).pulseAt with
  | some t => decide (4 * (tonEff s q (s.quad q).vbat + s.get (F.DRV_BSTTIM_TOFF_MIN q) * 50) ≤ 5 * elapsed t s.now)
  | none => true

/-- A boost pulse (R190, R191, R194, R210): GBC goes high for TON_eff, and the pulse is counted, its energy added, and credited where MSRC = 0; with the
Q-converter unusable B follows the reconciliation alone (R335). -/
def State.pulse (q vbat : Nat) (s : State) : State :=
  let s : State := s.modQuad q (fun x => { x with vbat := vbat, gbc := true, pulseAt := some s.now })
  let e := pulseNj s q vbat
  let acc := (s.word (einFrac q)).toNat + e
  let s : State := (s.count (F.DRV_BSTPULSE_COUNT q)).addSat (F.DRV_BSTEIN_E q) (acc / 1000)
  let s : State := s.putWord (einFrac q) (Word.ofN (acc % 1000))
  if s.flag (F.INK_BSTCFG_MSRC q) || !s.convUsable q then s
  else s.setBoost q ((s.quad q).bal + ((s.get (F.INK_BSTCFG_EFF q) * e / 100 : Nat) : Int))

/-- BOOST_PULSE (R194): A boost pulse completes, is counted, and its estimated energy is credited. -/
def execBoostPulse (q vbat : Nat) (s : State) : Host.Outcome State Fault Refusal :=
  .next (if s.boostMode q && (s.quad q).pulsing && s.pulseFree q then s.pulse q vbat else s)

/-- VBST exceeds the target plus OV_MARGIN (R192). -/
def execBoostOvervoltage (q vbst : Nat) (s : State) : Host.Outcome State Fault Refusal :=
  .next (if s.boostMode q && (s.quad q).regOn && !(s.quad q).ov
      && decide ((s.quad q).target + s.get (F.DRV_BSTCFG_OV_MARGIN q) * 1000 < vbst * 100) then
    let s : State := s.modQuad q (fun x => { x with vbst := vbst, ov := true, pulsing := false, gbc := false })
    (s.count F.DRV_BST_OV_CNT_COUNT).alarm (20 + q) 0 vbst 0
  else s)

/-! Closing reports (R195 to R199) -/

/-- Sum of the 2^F samples of filter output j, in the samples from the window's first on: every D-th output is kept (R197). -/
def filterSum (codes : List Nat) (f d j : Nat) : Int := ((((codes.drop (d * j)).take (2 ^ f)).foldl (fun x y => x + y) 0 : Nat) : Int)

/-- The second difference at point k, times 2^F (R197); point 1 lies at W_START. -/
def secondDiff (codes : List Nat) (f d k : Nat) : Int :=
  filterSum codes f d (k + 1) - 2 * filterSum codes f d k + filterSum codes f d (k - 1)

/-- The search at work (R198): the largest magnitude since d2 first reached the threshold, and the candidate. -/
structure KinkScan where
  peak : Nat
  cand : Option Nat
  found : Option (Nat × Nat)
  deriving DecidableEq, Repr

/-- One point of the search, in sixteenths of a code times 2^F: a candidate, or the confirmation of one, which a candidate at
point 1 never gets. A found kink is its point and the confirming one. -/
def kinkPoint (codes : List Nat) (f d thr : Nat) (maximum : Bool) (x : KinkScan) (k : Nat) : KinkScan :=
  if x.found.isSome then x
  else
    let v := secondDiff codes f d k
    let m := 16 * v.natAbs
    let th := thr * 2 ^ f
    match x.cand with
    | some c =>
      if 2 * m < th then (if c = 1 then { x with cand := none } else { x with found := some (c, k) })
      else if x.peak < m then { x with peak := m, cand := if decide (0 < v) == maximum then some k else x.cand } else x
    | none =>
      if th ≤ m ∧ x.peak < m ∧ v ≠ 0 then { x with peak := m, cand := if decide (0 < v) == maximum then some k else none } else x

/-- The points of the search that the samples complete and that lie in the window of len in 200 ns. -/
def kinkPoints (codes : List Nat) (f d len : Nat) : List Nat :=
  ((upTo codes.length).map (fun i => i + 1)).filter (fun k => decide (d * (k + 1) + 2 ^ f ≤ codes.length) && decide (d * (k - 1) ≤ len))

/-- The kink that channel n's detector confirms in its samples: the closing delay in units of 25 ns, and the confirming point
(R198). -/
def State.kinkOf (s : State) (n : Nat) (codes : List Nat) : Option (Nat × Nat) :=
  let f := s.get (F.DRV_KDET_F n); let d := max 1 (s.get (F.DRV_KDET_D n)); let start := s.get (F.DRV_KWIN_W_START n)
  let pts := kinkPoints codes f d ((s.get (F.DRV_KWIN_W_END n) - start) * 5)
  let x := pts.foldl (kinkPoint codes f d (s.get (F.DRV_KDET_THR n)) (s.flag (F.DRV_CHCFG_KPOL n))) { peak := 0, cand := none, found := none }
  x.found.map (fun (c, k) =>
    let a := secondDiff codes f d (c - 1); let m := secondDiff codes f d c; let z := secondDiff codes f d (c + 1)
    let q := 2 * (a - 2 * m + z)
    let off := if q = 0 then 0 else Int.fdiv ((a - z) * (8 * d : Nat)) q
    (((start * 40 + 8 * d * (c - 1) : Nat) + off).toNat, k))

/-- When the last sample of filter output j + 1 is there, in tb after the turn-off: its own time and the group delay (R197). -/
def State.kinkAt (s : State) (n k : Nat) : Nat :=
  let d := max 1 (s.get (F.DRV_KDET_D n))
  s.get (F.DRV_KWIN_W_START n) * 800 + 160 * d * k + (2 ^ s.get (F.DRV_KDET_F n) - 1) * 80

/-- The closing converter's samples of channel n, one every 200 ns from the first that the window needs (R196, R197), as codes of
92.77 mV: a kink confirmed in them is reported with its closing delay (R198, R199). -/
def execClosingKink (n : Nat) (codes : List Nat) (s : State) : Host.Outcome State Fault Refusal :=
  .next (match s.watchOff n, s.kinkOf n codes with
    | some off, some (delay, k) =>
      if s.kinkAt n k ≤ elapsed off s.now then (s.dropSlot n).deliver n (.kink delay) else s
    | _, _ => s)

/-- W_END, and the samples of the window's last point with it, have passed without a confirmed kink (R199). -/
def execClosingNoKink (n : Nat) (s : State) : Host.Outcome State Fault Refusal :=
  .next (match s.watchOff n with
    | some off =>
      let d := max 1 (s.get (F.DRV_KDET_D n))
      let last := (s.get (F.DRV_KWIN_W_END n) - s.get (F.DRV_KWIN_W_START n)) * 5 / d + 1
      if s.kinkAt n last < elapsed off s.now then s.noKink n else s
    | none => s)

/-! Results (R30, R31, R139, R144, R202, R214, R301) -/

/-- R30, R308: TQ records of the event's phrase in staging whose TQ has room must be written first. -/
def State.teleAhead (s : State) (id : Nat) : Bool :=
  s.hif.tele.any (fun r => r.ev == some id && s.ringRoom r.ring)

/-- R308: the event's TQ records whose TQ is full leave staging and are counted as lost. -/
def State.displace (id : Nat) (s : State) : State :=
  let out := s.hif.tele.filter (fun r => r.ev == some id)
  if out.isEmpty then s
  else
    let s : State := { s with hif := { s.hif with tele := s.hif.tele.filter (fun r => r.ev != some id) } }
    out.foldl (fun (s : State) r =>
      let s : State := match r.gap with
        | some g => s.modRing r.ring (fun x => { x with gap := some (match x.gap with
            | some h => { h with acc := h.acc + g.acc, trk := h.trk + g.trk, first := g.first } | none => g) })
        | none => s
      s.lose r.ring r.trk) s

/-- The result of store entry id can be written now (R30, R119, R139, R307). -/
def State.resultReady (s : State) (e : Event) : Bool :=
  e.phase == .ended && e.closing != .awaited && !s.teleAhead e.root
    && (decide (s.hif.results.length < resultRoom) || !s.resultWanted e.src)
    && !s.edges.any (fun x => x.ev == e.root)
    && (s.chainOf e.root).all (fun x => decide (x.id = e.id) || x.phase == .ended && decide (0 ≤ tbDiff x.startT e.startT))

/-- The event belongs to a chain of more than one, or belonged to one (R139, R215). -/
def State.inChain (s : State) (e : Event) : Bool := e.chain.isSome || s.sch.store.any (fun x => x.chain == some e.id)

/-- The band of bank b's trim (R202), in 25 ns units as CORR counts. -/
def State.trimBand (s : State) (b : Nat) : Int × Int :=
  (signed 8 (s.get (F.DRV_BKTRIM_BAND_LO b)) * 160, signed 8 (s.get (F.DRV_BKTRIM_BAND_HI b)) * 160)

/-- CORR of channel n, whose trim is enabled, stands at a limit of its band: AT_LIMIT (R203). Without TRIM_EN there is no band, and the
bit reads 0 as Table 7.5 has it at reset (log entry 47). -/
def State.trimAtLimit (s : State) (n : Nat) : Bool :=
  let c := signed 16 (s.get (F.DRV_TRIM_CORR n))
  s.flag (F.DRV_CHCFG_TRIM_EN n) && decide (c = (s.trimBand (n / 4)).1 ∨ c = (s.trimBand (n / 4)).2)

/-- R202, R203: the closing trim learns from a result. A write of CORR in this fabric cycle stands (R204). -/
def State.trimUpdate (e : Event) (merged : Bool) (s : State) : State :=
  let n := e.ch; let b := n / 4
  let c := resultCode e
  match e.closing with
  | .kink d =>
    if s.flag (F.DRV_CHCFG_TRIM_EN n) && !e.durAngle && !merged && (c == Code.ok || c == Code.late || c == Code.shifted)
        && !e.flags.trunc && !e.flags.subst && !s.hostWrote (R.DRV_TRIM n) then
      let h : Int := ((e.durTb.getD 0 / 20 + d : Nat) : Int) - ((s.get (F.DRV_KDET_OPEN_DLY n) * 40 : Nat) : Int)
      let err : Int := h - (e.dur : Int)
      let lo := (s.trimBand b).1; let hi := (s.trimBand b).2
      let corr := signed 16 (s.get (F.DRV_TRIM_CORR n)) - Int.tdiv err (2 ^ (s.get (F.DRV_CHCFG_TRIM_GAIN n) + 1))
      let corr := min (max corr lo) hi
      let lim := decide (corr = lo ∨ corr = hi)
      let run := if lim then min (s.get (F.DRV_TRIM_LIMIT_RUN n) + 1) 255 else 0
      let was := s.get (F.DRV_TRIM_LIMIT_RUN n)
      let s : State := (s.set (F.DRV_TRIM_CORR n) (unsigned 16 corr)).set (F.DRV_TRIM_LIMIT_RUN n) run
      if run = 16 ∧ was = 15 then s.alarm 25 n (unsigned 16 corr) 0 else s
    else s
  | _ => s

/-- R214, R215: the needs of the phrase that ran learn from a result. -/
def State.needUpdate (e : Event) (merged : Bool) (s : State) : State :=
  let q := e.ch / 24; let c := resultCode e
  if s.flag (learnF q e.run) && !s.flag F.INK_CTRL_FREEZE && e.chain.isNone && s.convUsable q
      && (c == Code.ok || c == Code.late || c == Code.shifted || c == Code.substituted) && !e.flags.oc && !e.flags.trunc
      && (s.chMode e.ch == 1 || s.chMode e.ch == 2) then
    let s : State := learnNeed q e.run 0 (e.eBoost / 1000) s
    if merged then s else learnNeed q e.run 1 (e.eRail / 1000) s
  else s

/-- The entry after a result: a first TWIN run in HALF moves on by 360 °CA and waits again; otherwise it is free (R104,
R105, R119). -/
def State.afterResult (e : Event) (s : State) : State :=
  if e.ran && !e.flags.twin && s.halfNow then
    let p := e.half.getD (e.ang, e.ctag)
    let p' := angleOffRev p
    s.modEvent e.id (fun e => { e with
      phase := .waiting, run := e.phrase, start := .angle, conv := false, half := some p', durTb := none, cause := none,
      shift := 0, waited := 0, lateTb := 0, ipeak := 0, mark0 := none, mark1 := none, eBoost := 0, eRail := 0,
      closing := .awaited, chain := none, begun := false,
      flags := { late := false, shifted := false, merged := false, subst := false, trunc := false, noKink := false, oc := false,
                 twin := true } })
  else (s.dropEvent e.id).watchStore
where
  /-- 360 °CA on from an angle. -/
  angleOffRev (p : Nat × Nat) : Nat × Nat := ((p.1 + revAt) % cycleAt, if cycleAt ≤ p.1 + revAt then (p.2 + 1) % 256 else p.2)

/-- The result of entry id is written (R30): to staging, with the trim, the debit and the learning that go with it. Without the quadrant's
Q-converter there is no measurement (R335). -/
def State.writeResult (e : Event) (s : State) : State :=
  let merged := s.inChain e
  let e : Event := if s.convUsable (e.ch / 24) then e else { e with ipeak := 0, eBoost := 0, eRail := 0 }
  let s : State := s.displace e.root
  let s : State := if s.resultWanted e.src then s.pushResult (s.cqOf e.src) (resultWords e) else s
  if e.refused then (s.dropEvent e.id).watchStore
  else
    let s : State := s.trimUpdate e merged
    let s : State := (s.chainOf e.root).foldl (fun (s : State) x => s.unreserve x.id) (s.unreserve e.id)
    let q := e.ch / 24
    let s : State := if e.eBoost ≠ 0 then s.setBoost q ((s.quad q).bal - (e.eBoost : Int)) else s
    let s : State := s.needUpdate e merged
    s.afterResult e

/-- RESULT_WRITE (R30): An event's result record is written to its CQ once its closing report or end has come and there is room. -/
def execResultWrite (id : Nat) (s : State) : Host.Outcome State Fault Refusal :=
  .next (match s.event id with
    | some e => if s.resultReady e then s.writeResult e else s
    | none => s)

/-! The ledger's steps (R209, R210, R212 to R214) -/

/-- Boost balances are kept in every mode but OFF, DORMANT, VIGIL, BOOT and SETUP (R211). -/
def State.balKept (s : State) : Bool :=
  !(s.sys.mode == .off || s.sys.mode.asleep || s.sys.mode == .boot || s.sys.mode == .setup)

/-- The correction of R210 for account q, as far as B_TOP lets the balance move, with its sum in INK_BSTDRIFTq. -/
def State.reconcile (q vbst : Nat) (s : State) : State :=
  let s : State := s.modQuad q (fun x => { x with vbst := vbst })
  let b := (s.quad q).bal
  let c := min (b + (s.boostM q - b) / 256) (s.boostTop q) - b
  let tot := (s.quad q).driftFrac + c
  let s : State := s.modQuad q (fun x => { x with driftFrac := tot % 1000 })
  let d := signed 32 (s.word (R.INK_BSTDRIFT q)).toNat + tot / 1000
  let s : State := s.putWord (R.INK_BSTDRIFT q) (Word.ofN (unsigned 32 d))
  s.setBoost q (b + c)

/-- BOOST_RECONCILE (R210): Every 10 µs with no GHV on, B moves 1/256 toward the measured balance. -/
def execBoostReconcile (q vbst : Nat) (s : State) : Host.Outcome State Fault Refusal :=
  .next (if q < s.part.quads ∧ s.balKept ∧ (upTo 6).all (fun i => !(s.bank (6 * q + i)).ghv) then s.reconcile q vbst else s)

/-- R_FILL is refreshed every 1 µs from the controller's VBAT sense in 0.1 V (R209). -/
def execFillRateRefresh (q vbat : Nat) (s : State) : Host.Outcome State Fault Refusal :=
  .next (if q < s.part.quads then
    let s : State := s.modQuad q (fun x => { x with vbat := vbat })
    let r := s.fillRate q vbat
    s.modQuad q (fun x => { x with rate := r })
  else s)

/-- A full-rate mode of Table 9.5: BOOT after die-link training, SETUP, MAINT, ARMED to SAFESTOP. -/
def State.fullRate (s : State) : Bool := s.sys.mode.setupOrOn || (s.sys.mode == .boot && s.clk.dieTrained)

/-- Guardian g meters (R211, Table 9.5): at full rate, or at the rate of VIGIL. -/
def State.grdMeters (s : State) (g : Nat) : Bool := s.grdUsable g && (s.fullRate || s.sys.mode == .vigil)

/-- A sub-window of rail account g ends (R212, R225). -/
def State.subwindow (g : Nat) (s : State) : State :=
  ({ s with ink := { s.ink with rails := modAt s.ink.rails g (fun r =>
      { r with subs := r.cur :: r.subs.take 15, cur := 0, endAt := s.now, endAon := s.clk.aon }) } } : State).watchRail g true

/-- A sub-window of rail account g has run: RWIN / 16 on the time base, and in VIGIL on the AON clock (R212, R253). A window of 0 ms,
which an account without EN may hold, has no sub-windows. -/
def State.subwindowDue (s : State) (g : Nat) : Bool :=
  let w := s.get (F.INK_RAILCFG_RWIN g); let r := s.ink.rails.getD g Rail.initial
  s.grdMeters g && w != 0 &&
    (if s.clk.tbRun then decide (w * 50000 ≤ elapsed r.endAt s.now) else decide (w * 2048 ≤ (s.clk.aon - r.endAon) * 1000))

/-- RAIL_SUBWINDOW_END (R212): At a sub-window end, the rail account adds the energy metered in it and drops the oldest sub-window. -/
def execRailSubwindowEnd (g : Nat) (s : State) : Host.Outcome State Fault Refusal :=
  .next (if s.grdMeters g then s.subwindow g else s)

/-- The index of INK_PTAB_IDX as one number. -/
def ptabIndex : Fld := ⟨R.INK_PTAB_IDX, 0, 10⟩

/-- INK_PTAB_DATA (R214, R227): a need acts at once on both copies, word 2 goes to the shadow copy; either access advances
the index. -/
def State.ptabAccess (p : Port) (w : Option Word) (s : State) : State :=
  let i := s.get ptabIndex
  let word := i % 4
  let mask := if word < 2 then 0xFFFFFF else if word = 2 then 0xFF else 0
  let there := decide (i / 256 < s.part.quads)
  let s : State := match w with
    | none => s.answer (if there then (s.word (ptabAddr i)).toNat &&& mask else 0)
    | some v =>
      if !there || mask == 0 then s
      else
        let nv := Word.ofN (v.toNat &&& mask)
        if s.isInstaller p then
          if word < 2 then (s.putBoth (ptabAddr i) nv (s.roleOf p)).putWord (ptabFrac i) 0
          else (s.putShadow (ptabAddr i) nv).markDirty (ptabAddr i) (s.roleOf p)
        else if nv ≠ s.shadowWord (ptabAddr i) ∨ (word < 2 ∧ nv ≠ s.word (ptabAddr i)) then s.deny p else s
  s.set ptabIndex ((i + 1) % 1024)

/-- PTAB_DATA_ACCESS (R214): An access to INK_PTAB_DATA reads or writes a need or an alternate, then advances the index. -/
def execPtabDataAccess (p : Port) (w : Option Word) (s : State) : Host.Outcome State Fault Refusal :=
  .next (match w with
    | none => s.onRead p (fun s => s.ptabAccess p none)
    | some v => s.onWrite p (fun s => s.ptabAccess p (some v)))

/-- Energy in nJ of one measurement sample: the shunt amplifier's code of 0.5 mV, scaled under R185, times a voltage. -/
def State.sampleNj (s : State) (b shunt factor : Nat) : Nat :=
  let d := s.gainOf b * s.get (F.DRV_BKCFG_RSH b)
  if d = 0 then 0 else shunt * factor / d

/-- Add a measured sample to an event; IPEAK follows in I_LSB (R185, Table 11.5). -/
def State.measure (id shunt boost rail : Nat) (s : State) : State :=
  s.modEvent id (fun e => { e with eBoost := e.eBoost + boost, eRail := e.eRail + rail, ipeak := max e.ipeak (shunt / 4) })

/-- The threads of bank b whose events share a rail sample: GHB commanded, or an SOL event with its GL on (R213). -/
def State.railSharers (s : State) (b : Nat) : List Nat :=
  (upTo 2).filter (fun t =>
    let k := s.thread b t
    k.run && ((k.hb && (s.bank b).ghb) || (k.kind == 2 && (s.chan k.ch).gl)))

/-- A measurement conversion of bank b (R213): on the boost path volt is the VBST code of 25 mV, on the rail path VBAT in
0.1 V from the boost controller's sense. -/
def State.convert (b : Nat) (path : MeasPath) (shunt volt : Nat) (s : State) : State :=
  match path with
  | .boost =>
    let t := (s.bank b).token
    if (s.bank b).ghv && decide (t ≠ 0) && (s.thread b (t - 1)).run then
      s.measure (s.thread b (t - 1)).ev shunt (s.sampleNj b shunt (volt * 100)) 0
    else s
  | .rail =>
    let e := s.sampleNj b shunt (volt * 1600)
    let sh := s.railSharers b
    let on0 := (s.thread b 0).onTime; let on1 := (s.thread b 1).onTime
    let s : State := match sh with
      | [t] => s.measure (s.thread b t).ev shunt 0 e
      | [_, _] =>
        let e0 := if on0 + on1 = 0 then e / 2 else e * on0 / (on0 + on1)
        (s.measure (s.thread b 0).ev shunt 0 e0).measure (s.thread b 1).ev shunt 0 (e - e0)
      | _ => s
    (s.modThread b 0 (fun k => { k with onTime := 0 })).modThread b 1 (fun k => { k with onTime := 0 })

/-- MEASUREMENT_CONVERSION (R213): A shunt and rail measurement conversion adds energy to the running event. -/
def execMeasurementConversion (b : Nat) (path : MeasPath) (shunt volt : Nat) (s : State) : Host.Outcome State Fault Refusal :=
  .next (if s.convUsable (b / 6) && decide (b < s.part.banks) then s.convert b path shunt volt else s)

end Sys2Proof.Machine
end

