-- ==== Sys2Proof/Machine/Tmr.lean ====
section
/-! DEFINITION. Comparators, window monitors and timers (chapter 13). -/

namespace Sys2Proof.Machine

/-! Comparators (R340 to R347) -/

/-- The modes in which the analogue die's bank, VDS and monitor comparators are powered (R342, R345). -/
def State.analogOn (s : State) : Bool := s.sys.mode.setupOrOn || (s.sys.mode == .boot && s.clk.dieTrained)

/-- In BOOT the tuning pass has released the window monitors: their block is over, or no pass runs (R345). -/
def State.wmReleased (s : State) : Bool := s.sys.mode != .boot || !s.tst.running || (decide (7 < s.tst.nextA) && !s.testing 7)

/-- Window monitor n runs (R345). -/
def State.wmRuns (s : State) (n : Nat) : Bool := s.wmUsable n && s.flag (F.CMP_WMCFG_EN n) && s.analogOn && s.wmReleased

/-- A comparator's unit is there and powered. -/
def State.cmpOn (s : State) : CmpUnit → Bool
  | .peak b | .hold b | .ghv b | .ghb b => decide (b < s.part.banks) && s.analogOn
  | .vds n => s.chUsable n && s.analogOn
  | .fastTrip g | .reverse g => s.grdUsable g && s.sys.mode != .off
  | .wmLo n | .wmHi n => s.wmRuns n

/-- The output that a crossing gives. -/
def Cmp.of (above : Bool) : Cmp := if above then .above else .below

/-- STATE of a window monitor (R346): 0 BELOW, 1 INSIDE, 2 ABOVE; an UNSETTLED comparator reads below. -/
def WMon.state (m : WMon) : Nat := if m.lo != .above then 0 else if m.hi == .above then 2 else 1

/-- Both comparators of the monitor have settled. -/
def WMon.settled (m : WMon) : Bool := m.lo != .unsettled && m.hi != .unsettled

def State.wmon (s : State) (n : Nat) : WMon := s.cmps.wm.getD n WMon.initial

/-- The level that a monitor gives: high while STATE is not INSIDE and both comparators have settled (R347). -/
def WMon.line (m : WMon) : Bool := m.settled && m.state != 1

/-- The level that monitor n drives on line EXTn; one that is off or under test drives none (R345, R453). -/
def State.wmLine (s : State) (n : Nat) : Bool := s.wmRuns n && !s.testing 7 && (s.wmon n).line

/-- A monitor takes a new output: an exit from INSIDE, once both comparators have settled, sets its SEEN flag and counts
(R346). -/
def State.wmSet (n : Nat) (m' : WMon) (s : State) : State :=
  let m := s.wmon n
  let exit := m.settled && m'.settled && m.state == 1 && m'.state != 1
  let m' := if exit then { m' with exits := (m'.exits + 1) % 65536 } else m'
  let s : State := { s with cmps := { s.cmps with wm := setAt s.cmps.wm n m' } }
  if exit then (if m'.state = 0 then s.set (F.CMP_WMSTAT_BELOW_SEEN n) 1 else s.set (F.CMP_WMSTAT_ABOVE_SEEN n) 1) else s

/-- A comparator output that goes above sets its observation latch (R341); the outputs' list takes the new value. -/
def cmpSet (l : List Cmp) (i : Nat) (above : Bool) : List Cmp := setAt l i (Cmp.of above)

/-- The output of a comparator goes above or below; one that was UNSETTLED settles (R342). -/
def State.crossing (c : CmpUnit) (above : Bool) (s : State) : State :=
  let latch := fun (f : Fld) (i : Nat) (s : State) => if above then s.setBit f i else s
  match c with
  | .peak b => latch F.CMP_PKLAT_BK b { s with cmps := { s.cmps with peak := cmpSet s.cmps.peak b above } }
  | .hold b => latch F.CMP_HDLAT_BK b { s with cmps := { s.cmps with hold := cmpSet s.cmps.hold b above } }
  | .ghv b => latch F.CMP_HVLAT_BK b { s with cmps := { s.cmps with ghv := cmpSet s.cmps.ghv b above } }
  | .ghb b => latch F.CMP_HBLAT_BK b { s with cmps := { s.cmps with ghb := cmpSet s.cmps.ghb b above } }
  | .vds n => latch (F.CMP_VDSLAT_CH (n / 32)) (n % 32) { s with cmps := { s.cmps with vds := cmpSet s.cmps.vds n above } }
  | .fastTrip g => latch F.CMP_GLAT_FT g { s with cmps := { s.cmps with ft := cmpSet s.cmps.ft g above } }
  | .reverse g => latch F.CMP_GLAT_REV g { s with cmps := { s.cmps with rev := cmpSet s.cmps.rev g above } }
  | .wmLo n => s.wmSet n { s.wmon n with lo := Cmp.of above }
  | .wmHi n => s.wmSet n { s.wmon n with hi := Cmp.of above }

/-- The bank whose regulating threads see a comparator. -/
def cmpBank : CmpUnit → Option Nat
  | .peak b | .hold b => some b
  | .vds n => some (n / 4)
  | _ => none

/-- The output that a comparator has now. -/
def State.cmpNow (s : State) : CmpUnit → Cmp
  | .peak b => s.cmps.peak.getD b .unsettled
  | .hold b => s.cmps.hold.getD b .unsettled
  | .ghv b => s.cmps.ghv.getD b .unsettled
  | .ghb b => s.cmps.ghb.getD b .unsettled
  | .vds n => s.cmps.vds.getD n .unsettled
  | .fastTrip g => s.cmps.ft.getD g .unsettled
  | .reverse g => s.cmps.rev.getD g .unsettled
  | .wmLo n => (s.wmon n).lo
  | .wmHi n => (s.wmon n).hi

/-- A comparator's output changes (R340 to R343): its latch, and the threads that regulate on it. -/
def execComparatorCrossing (c : CmpUnit) (above : Bool) (s : State) : Host.Outcome State Fault Refusal :=
  .next (if s.cmpOn c && !s.testing (cmpBlock c) && s.cmpNow c != Cmp.of above then
    let s : State := s.crossing c above
    match cmpBank c with
    | some b => (s.regLook b 0).regLook b 1
    | none => s
  else s)

/-- Every comparator restarts UNSETTLED (R342). keep names the guardians that stayed powered (R251, R252). -/
def State.unsettle (keep : Nat → Bool) (s : State) : State :=
  let un := fun (l : List Cmp) => l.map (fun _ => Cmp.unsettled)
  let un' := fun (l : List Cmp) => l.mapIdx (fun g c => if keep g then c else Cmp.unsettled)
  { s with cmps := { peak := un s.cmps.peak, hold := un s.cmps.hold, vds := un s.cmps.vds, fine := s.cmps.fine,
                     ghv := un s.cmps.ghv, ghb := un s.cmps.ghb, ft := un' s.cmps.ft, rev := un' s.cmps.rev,
                     wm := s.cmps.wm.map (fun m => { m with lo := .unsettled, hi := .unsettled }) } }

/-! Timers (R348 to R360) -/

/-- TMRn starts (R349): from RELOAD, in a mode that runs it. -/
def State.tmrStart (n : Nat) (s : State) : State :=
  if s.flag (F.TMR_CFG_EN n) && s.sys.mode.setupOrOn then
    let r := s.get (F.TMR_RELOAD_RELOAD n)
    s.modTmr n (fun x => { x with run := true, count := r, per := r, relBuf := r, dec := none, zeroDue := false, matchDue := false,
                                  past := 0, trig := false, cut := false, owe := 0, load := none, ahead := 0, stopped := none })
  else s

/-- At entry to ARMED the AUTO timers start (R349). -/
def State.tmrAuto (s : State) : State :=
  (upTo 16).foldl (fun (s : State) n => if s.flag (F.TMR_CFG_AUTO n) then s.tmrStart n else s) s

/-- The decision cycle of a tick (R350): match, OUT, and the buffer value for the reload. -/
def tmrDecide (cmp rel : Nat) (now : Tb) (x : Tmr) : Tmr :=
  { x with dec := some (decide (x.count = cmp), decide (x.count = 0)), out := decide (cmp < x.count), relBuf := rel,
           decided := x.count, decAt := now }

/-- The tick ends: what it decided becomes due, and the count decreases where it is not zero. A RESET trigger of the tick starts a new
period instead; where the tick was the zero tick, the zero acts first (R355). -/
def tmrTickEnd (x : Tmr) : Tmr :=
  let x := { x with widthRun := min (x.widthRun + 1) 0xFFFFFFFF }
  let z := match x.dec with | some d => d.2 | none => false
  let m := match x.dec with | some d => d.1 | none => false
  let y := { x with dec := none, matchDue := x.matchDue || m, zeroDue := x.zeroDue || z }
  if x.cut && !z then { y with count := x.relBuf, per := x.relBuf, cut := false }
  else if x.dec.isSome then { y with count := x.count - 1 }
  else y

/-- Timers of clock c that count ticks: neither angle-clocked nor CLOCK slaves. -/
def State.tmrTicks (s : State) (n c : Nat) : Bool :=
  s.tmrGoes n && s.get (F.TMR_CFG_CLK n) == c && s.get (F.TMR_CFG_SLAVE n) != 3

/-- The decision cycle begins for the timers of clock c. -/
def State.tmrDecideAll (c : Nat) (s : State) : State :=
  { s with tmrs := s.tmrs.mapIdx (fun n x =>
      if s.tmrTicks n c && s.gateOpen n then tmrDecide (s.get (F.TMR_CMP_CMP n)) (s.get (F.TMR_RELOAD_RELOAD n)) s.now x else x) }

/-- A tick of clock c ends. -/
def State.tmrEndAll (c : Nat) (s : State) : State :=
  { s with tmrs := s.tmrs.mapIdx (fun n x => if s.tmrTicks n c then tmrTickEnd x else x) }

/-- The timer record of Table 13.4. -/
def tmrRecord (s : State) (n cause : Nat) (late : Bool) : List Word :=
  let x := s.tmr n
  [Word.ofN (n + place 4 2 cause + place 6 1 (b2n late) + place 16 4 2), Word.ofN x.decided, Word.ofN x.capR, Word.ofN x.capF,
   Word.ofN x.width, Word.ofN x.decAt.toNat,
   Word.ofN (x.decAt.toNat / 2 ^ 32 + place 8 24 (s.get (F.TMR_MISSED_COUNT n))), 0]

/-- A trigger of timer n, by its zero or its match as MTRG says, is on its way to its RESET and CLOCK slaves (R355). -/
def State.triggerSlaves (n : Nat) (byMatch : Bool) (s : State) : State :=
  if s.flag (F.TMR_CFG_MTRG n) = byMatch then
    { s with tmrs := s.tmrs.mapIdx (fun m x =>
        if s.get (F.TMR_CFG_MASTER m) == n && m != n && decide (2 ≤ s.get (F.TMR_CFG_SLAVE m)) && x.run then { x with trig := true }
        else x) }
  else s

/-- The actions of R353, of a match, a zero or both. -/
def State.tmrActions (n act cause : Nat) (late : Bool) (s : State) : State :=
  let s : State := if act.testBit 0 then s.raise (44 + n) else s
  let s : State := if act.testBit 1 then s.urgent (s.get (F.TMR_ACT_URG_CONV n)) (s.get (F.TMR_ACT_URG_ENTRY n)) else s
  let s : State := if act.testBit 2 then s.closeAll 5 true (fun t => s.get (accWsrc t) == 3 && s.get (accTmr t) == n) else s
  if act.testBit 3 then s.stageTele (s.get (F.TMR_ACT_PUSH_TQ n)) (tmrRecord s n cause late) none false else s

/-- The reload after a zero tick (R348, R360): the buffer value, shortened by the catch-up; a one-shot timer stops. After a RESET trigger
of the zero tick the period is that of RELOAD (R355). On the angle clock the next at loads the value (R358). -/
def State.tmrReload (n : Nat) (s : State) : State :=
  let x := s.tmr n
  let pct := s.get F.TMR_CATCHUP_PCT
  let l := x.past
  let p0 := x.per + 1
  let d0 := x.debt + l
  let s : State := if 0 < l then (s.addSat (F.TMR_MISSED_COUNT n) (d0 / p0)).set (F.TMR_STAT_LATE n) 1 else s
  let d := if l = 0 then x.debt else if pct = 0 then 0 else d0 % p0
  if s.flag (F.TMR_CFG_ONESHOT n) then
    s.modTmr n (fun x => { x with run := false, count := 0, debt := d, past := 0, cut := false, load := none, ahead := 0 })
  else
    let sh := if x.cut then 0 else min d ((x.relBuf + 1) * pct / 100)
    let v := x.relBuf - sh
    let y : Tmr := { x with per := x.relBuf, debt := d - sh, past := 0, cut := false, ahead := 0 }
    s.modTmr n (fun _ =>
      if s.get (F.TMR_CFG_CLK n) == 3 && s.get (F.TMR_CFG_SLAVE n) != 3 then
        let y : Tmr := { y with count := 0, load := some v }
        if x.ahead = 0 then y else tmrCount (s.get (F.TMR_CMP_CMP n)) (s.get (F.TMR_RELOAD_RELOAD n)) x.ahead s.now y
      else { y with count := v })

/-- The zero of timer n clears the SEEN flags of the monitors that follow it; one set in the same fabric cycle stays set (R346). -/
def State.clearSeen (n : Nat) (s : State) : State :=
  (upTo 8).foldl (fun (s : State) m =>
    if s.flag (F.CMP_WMCFG_TCLR m) && s.get (F.CMP_WMCFG_TMR m) == n then
      (s.clrLatch (F.CMP_WMSTAT_BELOW_SEEN m) 0).clrLatch (F.CMP_WMSTAT_ABOVE_SEEN m) 0
    else s) s

/-- What a match, a zero or both of one tick do (R351, R353, R360). -/
def State.tmrFire (n : Nat) (s : State) : State :=
  let x := s.tmr n
  let m := x.matchDue; let z := x.zeroDue
  let late := z && decide (0 < x.past)
  let s : State := s.modTmr n (fun x => { x with matchDue := false, zeroDue := false })
  let s : State := if m then (s.set (F.TMR_STAT_MATCH n) 1).triggerSlaves n true else s
  let s : State := if z then (((s.set (F.TMR_STAT_ZERO n) 1).triggerSlaves n false).tmrReload n).clearSeen n else s
  let act := (if m then s.get (F.TMR_ACT_ON_MATCH n) else 0) ||| (if z then s.get (F.TMR_ACT_ON_ZERO n) else 0)
  s.tmrActions n act (if m && z then 2 else if m then 1 else 0) late

/-- A timer's count reaches zero (R348). -/
def execTimerZero (n : Nat) (s : State) : Host.Outcome State Fault Refusal :=
  .next (if (s.tmr n).zeroDue then s.tmrFire n else s)

/-- A timer's count matches (R351); a zero of the same tick acts with it (R353). -/
def execTimerMatch (n : Nat) (s : State) : Host.Outcome State Fault Refusal :=
  .next (if (s.tmr n).matchDue then s.tmrFire n else s)

/-- The timers that a write of TMR_START or TMR_STOP names. -/
def timersOf (v : Word) : List Nat := (upTo 16).filter v.bit

/-- A write of TMR_START (R349). -/
def State.tmrStartWrite (p : Port) (v : Word) (s : State) : State :=
  s.busWrite p R.TMR_START v (fun s => (timersOf v).foldl (fun (s : State) n => s.tmrStart n) s)

/-- TIMER_START (R349): A write of TMR_START starts the selected timers from RELOAD. -/
def execTimerStart (p : Port) (v : Word) (s : State) : Host.Outcome State Fault Refusal := .next (s.tmrStartWrite p v)

/-- A write of TMR_STOP holds the counts (R349). -/
def State.tmrStopWrite (p : Port) (v : Word) (s : State) : State :=
  s.busWrite p R.TMR_STOP v (fun s =>
    (timersOf v).foldl (fun (s : State) n => s.modTmr n (fun x => { x with run := false, dec := none, stopped := none })) s)

/-- TIMER_STOP (R349): A write of TMR_STOP holds the selected timers' counts. -/
def execTimerStop (p : Port) (v : Word) (s : State) : Host.Outcome State Fault Refusal := .next (s.tmrStopWrite p v)

/-- A write of TMR_RELOADn (R348, R352): a value below the present count sets LONG_PERIOD. -/
def State.reloadWrite (p : Port) (n : Nat) (v : Word) (s : State) : State :=
  s.busWrite p (R.TMR_RELOAD n) v (fun s =>
    if (s.tmr n).run && decide (v.toNat < (s.tmr n).count) then s.set (F.TMR_STAT_LONG_PERIOD n) 1 else s)

/-- TIMER_RELOAD_WRITE (R352): A write of TMR_RELOADn fills the reload buffer and sets LONG_PERIOD where the count lies above it. -/
def execTimerReloadWrite (p : Port) (n : Nat) (v : Word) (s : State) : Host.Outcome State Fault Refusal := .next (s.reloadWrite p n v)

/-- A write of TMR_CMPn (R350): the comparator is live; on the angle clock a value equal to the count matches at once
(R358). -/
def State.cmpWrite (p : Port) (n : Nat) (v : Word) (s : State) : State :=
  s.busWrite p (R.TMR_CMP n) v (fun s =>
    if s.tmrOnAngle n && decide (v.toNat = (s.tmr n).count) then
      s.modTmr n (fun x => { x with matchDue := true, decided := if x.matchDue || x.zeroDue then x.decided else x.count,
                                    decAt := if x.matchDue || x.zeroDue then x.decAt else s.now })
    else s)

/-- TIMER_CMP_WRITE (R350): A write of TMR_CMPn reaches the live comparator at once. -/
def execTimerCmpWrite (p : Port) (n : Nat) (v : Word) (s : State) : Host.Outcome State Fault Refusal := .next (s.cmpWrite p n v)

/-- The capture source of timer n can stand at a level: a monitor does so by its STATE, outside the window being high; a pin by the
filter's word (R356). -/
def State.capSource (s : State) (n : Nat) (rising : Bool) : Bool :=
  let i := s.get (F.TMR_PIN_CAP_SRC n)
  s.flag (F.TMR_PIN_CAP_EN n) && (decide (i < 32) || (decide (i < 40) && (s.wmLine (i - 32) == rising)))

/-- An edge of the timer's capture source counts, the level having held for CAP_FILT ticks (R356). -/
def execTimerCapture (n : Nat) (rising : Bool) (s : State) : Host.Outcome State Fault Refusal :=
  .next (if s.tmrGoes n && s.capSource n rising then
    if rising then s.modTmr n (fun x => { x with capR := x.count, widthRun := 0 })
    else
      let s : State := if (s.tmr n).widthNew then s.set (F.TMR_STAT_CAP_OVR n) 1 else s
      s.modTmr n (fun x => { x with capF := x.count, width := x.widthRun, widthNew := true })
  else s)

/-- A master's trigger reaches its slave (R355): the next tick of a RESET slave starts a new period; a CLOCK slave makes one tick, which is
its own decision cycle. -/
def execSlaveTrigger (n : Nat) (s : State) : Host.Outcome State Fault Refusal :=
  .next (if (s.tmr n).trig then
    let s : State := s.modTmr n (fun x => { x with trig := false })
    if !s.tmrGoes n then s
    else if s.get (F.TMR_CFG_SLAVE n) = 2 then
      if s.tmrOnAngle n then
        let r := s.get (F.TMR_RELOAD_RELOAD n)
        s.modTmr n (fun x => if x.zeroDue then { x with cut := true } else { x with load := some r, per := r })
      else s.modTmr n (fun x => { x with cut := true })
    else if s.get (F.TMR_CFG_SLAVE n) = 3 then
      let s : State := if (s.tmr n).zeroDue then s.tmrFire n else s
      s.modTmr n (fun x => tmrTickEnd (tmrDecide (s.get (F.TMR_CMP_CMP n)) (s.get (F.TMR_RELOAD_RELOAD n)) s.now x))
    else s
  else s)

/-- E of R359: AON ticks as ticks of a timer's clock, rounded down; none where no catch-up is made. -/
def State.tmrElapsed (s : State) (n ticks : Nat) : Option Nat :=
  if s.get (F.TMR_CFG_SLAVE n) = 3 then none
  else match s.get (F.TMR_CFG_CLK n) with
    | 0 => some (ticks * 100000000 / 32768)
    | 1 => some (ticks * 25000000 / 32768)
    | 2 => some ticks
    | _ => none

/-- A timer resumes after sleep (R359): a count that the sleep carries to zero or beyond has its zero tick first. -/
def State.tmrResume (n : Nat) (s : State) : State :=
  match (s.tmr n).stopped with
  | some a =>
    let s : State := s.modTmr n (fun x => { x with stopped := none })
    match s.tmrElapsed n (s.clk.aon - a) with
    | some e =>
      s.modTmr n (fun x =>
        if e < x.count then { x with count := x.count - e } else { x with count := 0, past := e - x.count })
    | none => s
  | none => s

/-- At the first entry to a mode of R349 after a sleep the timers resume (R359). -/
def execTimerCatchup (s : State) : Host.Outcome State Fault Refusal :=
  .next (if s.sys.mode.setupOrOn then (upTo 16).foldl (fun (s : State) n => s.tmrResume n) s else s)

/-- On entry to DORMANT or VIGIL the running timers stop (R359). -/
def State.tmrSleep (s : State) : State :=
  { s with tmrs := s.tmrs.map (fun x => if x.run then { x with stopped := some (x.stopped.getD s.clk.aon), dec := none } else x) }

/-- The level of TMRn's output pin (R350, R357). -/
def State.tmrPin (s : State) (n : Nat) : Bool := (s.tmr n).pin != s.flag (F.TMR_PIN_OUT_POL n)

/-- OUT reaches its pin in the fabric cycle after the decision cycle (R357). -/
def State.tmrPins (s : State) : State := { s with tmrs := s.tmrs.map (fun x => { x with pin := x.out }) }

/-- What timer n has decided in an earlier fabric cycle takes effect now (R353). -/
def State.tmrActs (s : State) (n : Nat) : Bool := decide ((s.tmr n).decAt.toNat / 2 ≠ s.now.toNat / 2)

/-- A timer has still to resume after a sleep, in a mode that runs it (R359). -/
def State.catchupDue (s : State) : Bool := s.sys.mode.setupOrOn && s.tmrs.any (fun x => x.stopped.isSome)

end Sys2Proof.Machine
end

