-- ==== Sys2Proof/Machine/Evc.lean ====
section
/-! DEFINITION. The event concentrator: coalescing, delivery by rotation, claims, completions and external lines (chapter
15), and the MSI-X messages of its deliveries (R265). -/

namespace Sys2Proof.Machine

def State.src (s : State) (n : Nat) : Src := s.evc.srcs.getD n Src.initial
def State.tgt (s : State) (t : Nat) : Target := s.evc.targets.getD t Target.initial
def State.modSrc (s : State) (n : Nat) (f : Src → Src) : State := { s with evc := { s.evc with srcs := modAt s.evc.srcs n f } }
def State.modTgt (s : State) (t : Nat) (f : Target → Target) : State :=
  { s with evc := { s.evc with targets := modAt s.evc.targets t f } }

/-! Messages (R265, R388) -/

/-- The vector-control word of MSI-X vector v in the table at 0x1F000 (Table 10.2). -/
def msixControl (v : Nat) : Nat := 0x1F00C + 16 * v

/-- Vector v is masked, by itself or by the Function Mask. -/
def State.vecMasked (s : State) (v : Nat) : Bool := s.hif.fmask || (s.word (msixControl v)).bit 0

/-- Messages can go out: MSI-X Enable and Bus Master Enable are 1, in D0 with the data link up. -/
def State.msixOut (s : State) : Bool := s.hif.msixEn && s.hif.bme && s.hif.up && !s.hif.d3

/-- The message of a delivery to target t is sent, withheld with its pending bit, or withheld without one (R265). -/
def State.message (t : Nat) (s : State) : State :=
  if !(s.hif.msixEn && s.hif.bme) then s.modTgt t (fun x => { x with msgHeld := true })
  else if s.vecMasked t then
    ({ s with hif := { s.hif with vecPend := setAt s.hif.vecPend t true } } : State).modTgt t (fun x => { x with msgHeld := true })
  else if !s.msixOut then s.modTgt t (fun x => { x with msgHeld := true })
  else
    ({ s with hif := { s.hif with tlps := .msix t :: s.hif.tlps, vecPend := setAt s.hif.vecPend t false } } : State).modTgt t
      (fun x => { x with msgHeld := false })

/-- Withheld messages go out as soon as R265 permits. -/
def State.flushMessages (s : State) : State :=
  (upTo 4).foldl (fun (s : State) t => if (s.tgt t).msgHeld then s.message t else s) s

/-! Groups (R386) -/

/-- The count and the timer of a group restart when none of its sources is ready any more. -/
def State.groupSettle (k : Nat) (s : State) : State :=
  let any := (s.evc.srcs.zipIdx).any (fun x => srcGroup x.2 == k && x.1.ready)
  if (s.evc.groups.getD k Group.initial).ready && !any then
    { s with evc := { s.evc with groups := setAt s.evc.groups k Group.initial } }
  else s

/-- The time limit of group k has come. -/
def State.groupDue (s : State) (k : Nat) : Bool :=
  let g := s.evc.groups.getD k Group.initial
  !g.ready && (match g.since with
    | some t => decide (s.get (F.EVC_COAL_TIME k) * 800 ≤ elapsed t s.now)
    | none => false)

/-- TIME has passed since the group's first occurrence (R386). -/
def execGroupReadyTime (k : Nat) (s : State) : Host.Outcome State Fault Refusal :=
  .next (if s.sys.mode.evcRuns && s.groupDue k then
    { s with evc := ({ s.evc with groups := modAt s.evc.groups k (fun g => { g with ready := true }) } : Evc).makeReady k }
  else s)

/-! Delivery and rotation (R387 to R389) -/

/-- A target is IDLE: no delivery outstanding and an empty claim stack. -/
def Target.idle (t : Target) : Bool := !t.delivered && t.stack.isEmpty

/-- The targets enabled for a source. -/
def State.route (s : State) (n : Nat) : Nat := s.get ⟨R.EVC_ROUTE (n / 8), 4 * (n % 8), 4⟩

/-- The target that the search of R387 finds for a source, among those that were IDLE at the start of the cycle. -/
def State.pick (s : State) (idle : List Bool) (n : Nat) : Option Nat :=
  let l := (s.src n).last
  ((upTo 4).map (fun i => (l + 1 + i) % 4)).find? (fun t => (s.route n).testBit t && idle.getD t false)

/-- One source is assigned to a target's presented set. -/
def State.assign (n t : Nat) (s : State) : State :=
  let s : State := s.modSrc n (fun x => { x with pend := false, ready := false, last := t })
  let s : State := s.modTgt t (fun x => { x with pres := insertNat n x.pres })
  s.groupSettle (srcGroup n)

/-- One fabric cycle's assignments (R387), and one delivery for each target that received any (R388). -/
def State.assignAll (s : State) : State :=
  let idle := s.evc.targets.map Target.idle
  let s : State := (upTo 64).foldl (fun (s : State) n =>
    if (s.src n).ready && (s.src n).pend then (match s.pick idle n with | some t => s.assign n t | none => s) else s) s
  (upTo 4).foldl (fun (s : State) t =>
    if idle.getD t false && !(s.tgt t).pres.isEmpty then (s.modTgt t (fun x => { x with delivered := true })).message t else s) s

/-- Ready sources are assigned to IDLE targets (R387). -/
def execSourceAssign (s : State) : Host.Outcome State Fault Refusal :=
  .next (if s.sys.mode.evcRuns then s.assignAll else s)

/-- Presented sources go back to ready, with their fold counts (R392, R393); a source whose unit is gone stays away (R6). -/
def State.giveBack (t : Nat) (s : State) : State :=
  let l := (s.tgt t).pres.filter s.srcThere
  let s : State := l.foldl (fun (s : State) n => s.modSrc n (fun x => { x with pend := true, ready := true })) s
  s.modTgt t (fun x => { x with delivered := false, pres := [] })

/-! Claims and completions (R390 to R395) -/

/-- Source n is a level source: an EXT line with MODE 3 or 4 (R384). -/
def State.levelSrc (s : State) (n : Nat) : Bool :=
  let m := s.get (F.EVC_EXTCFG_MODE (n - 36))
  decide (36 ≤ n) && decide (n < 44) && (m == 3 || m == 4)

/-- Line EXTn has an input: its pin, or window monitor n (R347, R384). -/
def State.lineUsed (s : State) (n : Nat) : Bool := s.flag (F.EVC_EXTCFG_EN n) || s.flag (F.CMP_WMCFG_EXT n)

/-- The filtered line of a level source is asserted; a line without an input is not (log entry 55). -/
def State.asserted (s : State) (n : Nat) : Bool :=
  s.lineUsed (n - 36) && s.evc.ext.getD (n - 36) false == decide (s.get (F.EVC_EXTCFG_MODE (n - 36)) = 3)

/-- Source n is taken onto target t's claim stack. -/
def State.claimed (t n : Nat) (s : State) : State :=
  ((s.modTgt t (fun x => { x with stack := n :: x.stack, pres := x.pres.filter (fun m => m != n), delivered := false })).modSrc n
    (fun y => { y with claimed := true, late := 0, spur := false })).inCycle (fun m => { m with claims := insertNat n m.claims })

/-- CLAIM of source n at target t. A level source whose line de-asserted in the same fabric cycle is claimed all the same, and is
spurious (R395, R396). -/
def State.claim (t n : Nat) (s : State) : State :=
  let x := s.tgt t
  if decide (4 ≤ x.stack.length) then s.count F.EVC_CMD_ERR_CNT_COUNT
  else if x.pres.contains n then s.claimed t n
  else if s.regs.same.left.contains (n, t) then
    ((s.claimed t n).modSrc n (fun y => { y with spur := true })).count F.EVC_SPURIOUS_COUNT
  else s.count F.EVC_CMD_ERR_CNT_COUNT

/-- EVC_CLAIM (R390): CLAIM pushes a presented source onto the target's stack. -/
def execEvcClaim (p : Port) (t src : Nat) (s : State) : Host.Outcome State Fault Refusal :=
  .next (s.busWrite p (R.EVC_CMD t) (Word.ofN (src + 256)) (fun s => s.claim t src))

/-- A completion-order fault (R391). -/
def State.orderFault (t n : Nat) (s : State) : State :=
  let st := (s.tgt t).stack
  let s : State := s.count F.EVC_ORDER_CNT_COUNT
  let s : State := s.alarm 28 t (n + place 6 6 (st.headD 0) + place 12 1 (b2n st.isEmpty)) 0
  s.raise 63

/-- What a source does at its completion (R394): an edge source with occurrences since its claim is pending again with them
as its fold count; a level source whose line is asserted becomes pending by a new occurrence. -/
def State.completed (n : Nat) (s : State) : State :=
  let late := (s.src n).late
  let s : State := s.modSrc n (fun x => { x with claimed := false, late := 0, fold := 0, spur := false })
  if s.levelSrc n then (if s.asserted n then s.raise n else s)
  else if 0 < late ∧ s.srcThere n then
    let rdy := (s.evc.groups.getD (srcGroup n) Group.initial).ready
    s.modSrc n (fun x => { x with pend := true, fold := min late 255, ready := rdy })
  else s

/-- COMPLETE of source n at target t (R393). -/
def State.complete (t n : Nat) (s : State) : State :=
  match (s.tgt t).stack with
  | m :: rest =>
    if n = m then
      let s : State := (s.modTgt t (fun x => { x with stack := rest })).completed n
      if rest.isEmpty then s.giveBack t else s
    else s.orderFault t n
  | [] => s.orderFault t n

/-- EVC_COMPLETE (R393): COMPLETE pops the top source, and the pop that empties the stack exits the target. -/
def execEvcComplete (p : Port) (t src : Nat) (s : State) : Host.Outcome State Fault Refusal :=
  .next (s.busWrite p (R.EVC_CMD t) (Word.ofN (src + 512)) (fun s => s.complete t src))

/-- RELEASE at target t (R392). -/
def State.releaseTgt (t : Nat) (s : State) : State :=
  if (s.tgt t).stack.isEmpty then s.giveBack t else s.count F.EVC_CMD_ERR_CNT_COUNT

/-- EVC_RELEASE (R392): RELEASE hands back a delivery and makes the target IDLE. -/
def execEvcRelease (p : Port) (t : Nat) (s : State) : Host.Outcome State Fault Refusal :=
  .next (s.busWrite p (R.EVC_CMD t) (Word.ofN 768) (fun s => s.releaseTgt t))

/-! External lines (R383, R384, R395) -/

/-- Line EXTn is taken from its pin, or from window monitor n, whose level it then has (R347). -/
def State.extLine (s : State) (n : Nat) (high : Bool) : Bool :=
  s.sys.mode.evcRuns && (if s.flag (F.CMP_WMCFG_EXT n) then s.wmLine n == high else s.flag (F.EVC_EXTCFG_EN n))

/-- Source n is no longer pending, and leaves every presented set. -/
def State.sourceGone (n : Nat) (s : State) : State :=
  let s : State := s.modSrc n (fun x => { x with pend := false, ready := false, fold := if x.claimed then x.fold else 0, late := 0 })
  let s : State := { s with evc := { s.evc with targets := s.evc.targets.map (fun t =>
    { t with pres := t.pres.filter (fun m => m != n) }) } }
  s.groupSettle (srcGroup n)

/-- The targets that presented source n, for a claim of this fabric cycle (R396). -/
def State.noteLeft (n : Nat) (s : State) : State :=
  let ts := (upTo 4).filter (fun t => (s.tgt t).pres.contains n)
  s.inCycle (fun m => { m with left := ts.map (fun t => (n, t)) ++ m.left })

/-- A level source's line de-asserts: the source stops being pending and leaves every presented set; while claimed it is
spurious, once per claim. -/
def State.deassert (n : Nat) (s : State) : State :=
  if (s.src n).claimed then
    if (s.src n).spur then s else (s.modSrc n (fun x => { x with spur := true })).count F.EVC_SPURIOUS_COUNT
  else
    (s.noteLeft n).sourceGone n

/-- The filtered level of a line changes (R384). -/
def State.extEdge (n : Nat) (high : Bool) (s : State) : State :=
  let s : State := { s with evc := { s.evc with ext := setAt s.evc.ext n high } }
  match s.get (F.EVC_EXTCFG_MODE n) with
  | 0 => if high then s.raise (36 + n) else s
  | 1 => if high then s else s.raise (36 + n)
  | 2 => s.raise (36 + n)
  | 3 | 4 =>
    if s.asserted (36 + n) then (if (s.src (36 + n)).claimed then s else s.raise (36 + n)) else s.deassert (36 + n)
  | _ => s

/-- A level source is pending while its line is asserted (R383), also where a new set-up is what makes it so. -/
def State.levelSettle (n : Nat) (s : State) : State :=
  let k := 36 + n
  if s.levelSrc k then
    if s.asserted k then (if (s.src k).pend || (s.src k).claimed || s.evc.presented k then s else s.raise k)
    else if (s.src k).pend || s.evc.presented k then s.deassert k else s
  else s

/-- Every level source follows its line (R383). -/
def State.levelsSettle (s : State) : State := (upTo 8).foldl (fun (s : State) n => s.levelSettle n) s

/-- EXT_LINE_EDGE (R384): An EXT line's filtered level changes, and the occurrence its MODE selects follows. -/
def execExtLineEdge (n : Nat) (high : Bool) (s : State) : Host.Outcome State Fault Refusal :=
  .next (if s.extLine n high && s.evc.ext.getD n false != high then s.extEdge n high else s)

/-! W1C of pending bits, registers, pins -/

/-- A W1C of EVC_PEND for source n (R383): it clears an edge source that is pending and neither presented nor claimed; one that
has occurred in the same fabric cycle stays, with a fold count of 1 (R396). -/
def State.clearPend (n : Nat) (s : State) : State :=
  let x := s.src n
  if x.pend && !s.levelSrc n && !x.claimed && !s.evc.presented n then
    if s.regs.same.occ.contains n then s.modSrc n (fun x => { x with fold := 1 })
    else (s.modSrc n (fun x => { x with pend := false, ready := false, fold := 0 })).groupSettle (srcGroup n)
  else s

/-- EVC_PEND_LO or EVC_PEND_HI: the pending sources from base upward. -/
def State.pendWord (s : State) (base : Nat) : Nat := ((upTo 32).map (fun i => b2n (s.src (base + i)).pend * 2 ^ i)).sum

/-- EVC_PRESLOt or EVC_PRESHIt. -/
def Target.presWord (t : Target) (base : Nat) : Nat := ((upTo 32).map (fun i => b2n (t.pres.contains (base + i)) * 2 ^ i)).sum

/-- EVC_TSTATt. -/
def Target.stat (t : Target) : Nat :=
  (if t.idle then 0 else if t.stack.isEmpty then 1 else 2) + 4 * b2n t.msgHeld + place 8 6 (t.pres.headD 0)
    + place 14 1 (b2n (!t.pres.isEmpty))

/-- EVC_STACKt. -/
def Target.stackWord (t : Target) : Nat :=
  t.stack.getD 0 0 + place 6 6 (t.stack.getD 1 0) + place 12 6 (t.stack.getD 2 0) + place 18 6 (t.stack.getD 3 0)
    + place 24 3 t.stack.length

/-- EVC_CAUSEt (R390): the fold count of the top source; for a level source 1 while its line is asserted, so that it reads empty once the
line has de-asserted, with either polarity (R395, log entry 55). -/
def State.causeWord (s : State) (t : Nat) : Nat :=
  match (s.tgt t).stack with
  | n :: _ => if s.levelSrc n then b2n (s.asserted n) + 256 else (s.src n).fold
  | [] => 0

/-- INTn_N is low (R278): driven, with a presented source that is not claimed. -/
def State.intLow (s : State) (t : Nat) : Bool := s.flag F.HIF_CFG_INT_EN && decide (t < 2) && !(s.tgt t).pres.isEmpty

/-- On entry to DORMANT or VIGIL everything is lost (R397). -/
def State.evcSleep (s : State) : State := { s with evc := { Evc.initial with ext := s.evc.ext } }

end Sys2Proof.Machine
end

