-- ==== Sys2Proof/Machine/Crypto.lean ====
section
/-! DEFINITION. AES-128 and CMAC as roles, sessions and the journal use them (R430, which names FIPS 197 and NIST SP
800-38B). A 128-bit value is a string of 16 bytes whose byte i stands in bits [8i + 7 : 8i] (log entry 15). -/

namespace Sys2Proof.Machine

/-- The substitution box of FIPS 197, 32 bytes in each number, the lowest index in the lowest byte. -/
def sboxRows : List Nat := [
  0xc072a49cafa2d4adf04759fa7dc982ca76abd7fe2b670130c56f6bf27b777c63,
  0x75b227ebe28012079a059618c323c7041531d871f1e5a534ccf73f362693fdb7,
  0xcf584c4a39becb6a5bb1fc20ed00d153842fe329b3d63b52a05a6e1b1a2c8309,
  0xd2f3ff1021dab6bcf5389d928f40a351a89f3c507f02f94585334d43fbaaefd0,
  0xdb0b5ede14b8ee4688902a22dc4f816073195d643d7ea7c41744975fec130ccd,
  0x08ae7a65eaf4566ca94ed58d6d37c8e779e4959162acd3c25c2406490a3a32e0,
  0x9e1dc186b95735610ef6034866b53e708a8bbd4b1f74dde8c6b4a61c2e2578ba,
  0x16bb54b00f2d99416842e6bf0d89a18cdf2855cee9871e9b948ed9691198f8e1]

/-- SubBytes of one byte. -/
def subByte (x : Nat) : Nat := (sboxRows.getD (x / 32) 0 >>> (8 * (x % 32))) % 256

/-- Multiplication by 2 in GF(2^8). -/
def xtime (x : Nat) : Nat := if x < 128 then 2 * x else (2 * x) ^^^ 0x11B

/-- Byte by byte exclusive or (FIPS 197, AddRoundKey; R430). -/
def xorBytes (a b : List Nat) : List Nat := List.zipWith (fun x y => x ^^^ y) a b

/-- The next round key from a round key and its round constant. -/
def nextKey (k : List Nat) (rcon : Nat) : List Nat :=
  let g := fun i => k.getD i 0
  let t := [subByte (g 13) ^^^ rcon, subByte (g 14), subByte (g 15), subByte (g 12)]
  let w0 := xorBytes (k.take 4) t
  let w1 := xorBytes ((k.drop 4).take 4) w0
  let w2 := xorBytes ((k.drop 8).take 4) w1
  let w3 := xorBytes ((k.drop 12).take 4) w2
  w0 ++ w1 ++ w2 ++ w3

/-- ShiftRows over the 16 bytes, column by column. -/
def shiftRows (b : List Nat) : List Nat :=
  [0, 5, 10, 15, 4, 9, 14, 3, 8, 13, 2, 7, 12, 1, 6, 11].map (fun i => b.getD i 0)

/-- MixColumns of one column. -/
def mixColumn (b : List Nat) (c : Nat) : List Nat :=
  let g := fun i => b.getD (4 * c + i % 4) 0
  (upTo 4).map (fun i => xtime (g i) ^^^ (xtime (g (i + 1)) ^^^ g (i + 1)) ^^^ g (i + 2) ^^^ g (i + 3))

/-- FIPS 197, MixColumns, over the four columns. -/
def mixColumns (b : List Nat) : List Nat := mixColumn b 0 ++ mixColumn b 1 ++ mixColumn b 2 ++ mixColumn b 3

/-- The rounds that remain, with the state and the round key before them. The last has no MixColumns. -/
def aesRounds : List Nat → List Nat → List Nat → List Nat
  | [], b, _ => b
  | [rc], b, k => xorBytes (shiftRows (b.map subByte)) (nextKey k rc)
  | rc :: rcs, b, k =>
    let k' := nextKey k rc
    aesRounds rcs (xorBytes (mixColumns (shiftRows (b.map subByte))) k') k'

/-- AES-128 of one block of 16 bytes. -/
def aes (key block : List Nat) : List Nat :=
  aesRounds [0x01, 0x02, 0x04, 0x08, 0x10, 0x20, 0x40, 0x80, 0x1B, 0x36] (xorBytes block key) key

/-- The number whose bytes, most significant first, are given. -/
def beNat (b : List Nat) : Nat := b.foldl (fun n x => n * 256 + x) 0

/-- n bytes of a number, most significant first. -/
def beBytes (n v : Nat) : List Nat := (upTo n).map (fun i => v / 256 ^ (n - 1 - i) % 256)

/-- n bytes of a number, least significant first. -/
def leBytes (n v : Nat) : List Nat := (upTo n).map (fun i => v / 256 ^ i % 256)

/-- The number whose bytes, least significant first, are given. -/
def leNat (b : List Nat) : Nat := beNat b.reverse

/-- Doubling in GF(2^128) (SP 800-38B). -/
def dbl (v : Nat) : Nat := if v < 2 ^ 127 then 2 * v else (2 * v - 2 ^ 128) ^^^ 0x87

/-- The CBC chain over whole blocks, n of them at most. -/
def cbc (key : List Nat) : Nat → List Nat → List Nat → List Nat
  | 0, x, _ => x
  | n + 1, x, m => if m.isEmpty then x else cbc key n (aes key (xorBytes x (m.take 16))) (m.drop 16)

/-- AES-128 CMAC of a byte string (SP 800-38B). -/
def cmac (key msg : List Nat) : List Nat :=
  let l := beNat (aes key (List.replicate 16 0))
  let k1 := dbl l
  let full := decide (0 < msg.length) && decide (msg.length % 16 = 0)
  let head := if full then msg.length - 16 else msg.length - msg.length % 16
  let tail := msg.drop head
  let last := if full then xorBytes tail (beBytes 16 k1)
    else xorBytes (tail ++ [0x80] ++ List.replicate (15 - tail.length) 0) (beBytes 16 (dbl k1))
  cbc key (msg.length / 16 + 1) (List.replicate 16 0) (msg.take head ++ last)

/-- The bytes of a 128-bit value, and back. -/
def bytes128 (v : BitVec 128) : List Nat := leBytes 16 v.toNat
/-- A string of 16 bytes as a 128-bit value, byte 0 lowest (log entry 15). -/
def of128 (b : List Nat) : BitVec 128 := BitVec.ofNat 128 (leNat b)

/-- The first 64 bits of a CMAC as a number. -/
def digest64 (key msg : List Nat) : Nat := leNat ((cmac key msg).take 8)

/-- The bytes of words, each little-endian. -/
def wordBytes (ws : List Word) : List Nat := ws.flatMap (fun w => leBytes 4 w.toNat)

/-- The journal key (R442): AES-128 of 0x4A 0x4B and fourteen zero bytes under the maker key. -/
def journalKey : List Nat := aes (bytes128 Config.makerKey) ([0x4A, 0x4B] ++ List.replicate 14 0)

end Sys2Proof.Machine
end

