-- ==== Sys2Proof/Machine/Journal.lean ====
section
/-! DEFINITION. The change journal: its room, its entries and their chains (R440 to R443). -/

namespace Sys2Proof.Machine

/-- The journal's capacity (R440). -/
def journalSize : Nat := 4096

/-- An entry is an operator's (word 0 [1:0] = 0). -/
def opEntry (e : List Word) : Bool := decide ((e.headD 0).bits 0 2 = 0)

/-- The installer and maker entries present (SEC_JSTAT.IM). -/
def State.jIm (s : State) : Nat := (s.sec.journal.filter (fun e => !opEntry e)).length

/-- SEC_JSTAT.FULL: no slot is free and no operator entry is left (R443). -/
def State.jFull (s : State) : Bool := decide (journalSize ≤ s.sec.journal.length) && !s.sec.journal.any opEntry

/-- n entries of a role find room: free slots, and for an operator the slots of operator entries (R443). -/
def State.jRoom (s : State) (role n : Nat) : Bool :=
  let free := journalSize - s.sec.journal.length
  decide (n ≤ free) || (role == 0 && decide (n ≤ free + (s.sec.journal.filter opEntry).length))

/-- SEC_JOLDOP: the counter of the oldest surviving operator entry. -/
def State.jOldOp (s : State) : Nat :=
  match s.sec.journal.find? opEntry with | some e => (e.getD 3 0).toNat | none => 0

/-- Remove the oldest operator entry. -/
def dropOldOp : List (List Word) → List (List Word)
  | [] => []
  | e :: l => if opEntry e then l else e :: dropOldOp l

/-- The low and the high word of a 64-bit number. -/
def words64 (v : Nat) : List Word := [Word.ofN v, Word.ofN (v / 2 ^ 32)]

/-- What an act hands to its journal entry (Table 17.4). -/
structure Act where
  role : Nat
  port : Nat
  kind : Nat
  block : Nat
  data : Nat
  first : Nat
  last : Nat
  old : Nat
  new : Nat
  deriving DecidableEq, Repr

/-- The port code of Table 17.4. -/
def portNum : Port → Nat | .pcie => 0 | .spi => 1

/-- An act of an issuer with nothing but its kind and data. -/
def act (role port kind data : Nat) : Act :=
  { role := role, port := port, kind := kind, block := 0, data := data, first := 0, last := 0, old := 0, new := 0 }

/-- The sixteen words of the next entry, chained to the last of its chain (R442). -/
def State.entryOf (s : State) (a : Act) : List Word :=
  let head := [Word.ofN (place 0 2 a.role + place 2 1 a.port + place 3 5 a.kind + place 8 5 a.block + place 16 16 a.data),
    Word.ofN a.first, Word.ofN a.last, Word.ofN s.sec.counter, Word.ofN s.clk.aon, Word.ofN (s.clk.aon / 2 ^ 32 % 65536),
    Word.ofN (s.sec.opseq + b2n (a.role == 0))] ++ words64 a.old ++ words64 a.new
  let prev := if a.role = 0 then s.sec.chainO else s.sec.chainI
  let chain := digest64 journalKey (wordBytes head ++ leBytes 8 prev)
  head ++ words64 chain ++ [0, 0, 0]

/-- The chain value of an entry. -/
def entryChain (e : List Word) : Nat := (e.getD 11 0).toNat + (e.getD 12 0).toNat * 2 ^ 32

/-- Alarm 30 is raised once when the installer and maker entries reach 3,687 (R443). -/
def State.jWatch (s : State) : State :=
  if 3687 ≤ s.jIm ∧ !s.sec.alarm90 then
    (({ s with sec := { s.sec with alarm90 := true } } : State).alarm 30 0 s.jIm 0)
  else s

/-- An act writes its entry (R440 to R443), or is counted in SEC_JLOST_CNT where no slot takes it. -/
def State.journal (a : Act) (s : State) : State :=
  if s.jRoom a.role 1 then
    let e := s.entryOf a
    let l := if s.sec.journal.length < journalSize then s.sec.journal else dropOldOp s.sec.journal
    let s : State := { s with sec := { s.sec with
      journal := l ++ [e], counter := s.sec.counter + 1, opseq := s.sec.opseq + b2n (a.role == 0),
      chainO := if a.role = 0 then entryChain e else s.sec.chainO,
      chainI := if a.role = 0 then s.sec.chainI else entryChain e } }
    s.jWatch
  else s.count F.SEC_JLOST_CNT_COUNT

end Sys2Proof.Machine
end

