-- ==== Sys2Proof/Machine/Grd.lean ====
section
/-! DEFINITION. The rail guardians: states and ramps, metering, the rule table, retries, insertion and removal, and the
commands that act on them (chapter 9). -/

namespace Sys2Proof.Machine

/-! What a guardian shows -/

/-- The gate is not off: RAMP, ON or LIMIT (Table 9.2). -/
def GState.gateOn : GState → Bool
  | .ramp | .on | .limit => true
  | _ => false

/-- Power-good (R243). -/
def State.grdPg (s : State) (g : Nat) : Bool :=
  s.grdOnline g && decide (s.get (F.GRD_VLIM_PG g) * 100 ≤ (s.grd g).vout)

/-- GRD_STATg. -/
def State.grdStat (s : State) (g : Nat) : Nat :=
  let x := s.grd g
  x.st.code + place 4 1 (b2n (s.grdPg g)) + place 5 1 (b2n x.prsn) + place 6 4 (min x.retries 15) + place 10 1 (b2n x.trip)
    + place 11 1 (b2n x.held) + place 12 1 (b2n x.isat)

/-- GRD_VMEASg. -/
def Grd.vmeas (x : Grd) : Nat := x.vout + place 16 16 x.vin

/-- GRD_LASTg [8:0]. -/
def State.grdLast (s : State) (g : Nat) : Nat := (s.word (R.GRD_LAST g)).bits 0 9

/-- Record the last action in GRD_LASTg. -/
def State.setLast (g cond entry act : Nat) (cmd : Bool) (s : State) : State :=
  s.putWord (R.GRD_LAST g) (Word.ofN (place 0 3 cond + place 3 3 entry + place 6 2 act + place 8 1 (b2n cmd) + 2 ^ 31))

/-- A state change goes to the XQ (R257, Table 11.10). -/
def State.grdStep (g : Nat) (st : GState) (s : State) : State :=
  let old := (s.grd g).st
  let s : State := s.modGrd g (fun x => { x with st := st })
  if old = st then s
  else s.trace 4 2 (g + place 4 4 old.code + place 8 4 st.code) s.now (s.grdLast g) (s.grd g).vmeas

/-- Source, alarm and count of R257. -/
def State.grdReport (g : Nat) (s : State) : State :=
  ((s.count (F.GRD_TRIP_CNT_COUNT g)).alarm g (s.grd g).st.code (s.grdLast g) (s.grdStat g)).raise g

/-! Ramps (R233 to R236, R249, R250) -/

/-- The mode permits ramps to start (Table 9.5). -/
def State.rampMode (s : State) : Bool := s.sys.mode.operating

/-- A ramp starts: the guardian's observation latches clear (R341) and RAMP_T runs from here. -/
def State.rampStart (g : Nat) (s : State) : State :=
  let s : State := ((s.clrLatch F.CMP_GLAT_FT g).clrLatch F.CMP_GLAT_REV g)
  let s : State := s.modGrd g (fun x => { x with since := s.now, done := false, rampOut := false, lim := none })
  s.grdStep g .ramp

/-- A ramp that comes due starts where the mode permits it, and waits in PEND where it does not (R250). -/
def State.rampOrPend (g : Nat) (s : State) : State := if s.rampMode then s.rampStart g else s.grdStep g .pend

/-- The level of PGg with PG_PIN = 1 (R243): an open-drain output, released (true) while power-good is true, and low otherwise and
while VAON is below its threshold. With PG_PIN = 0 the guardian does not drive it, and it is released. -/
def State.pgOut (s : State) (g : Nat) : Bool :=
  s.sys.mode != .off && (s.grdPg g || !(s.grdUsable g && s.flag (F.GRD_CFG_PG_PIN g)))

/-- A guardian's trip latch is cleared (R25). -/
def State.clearTrip (g : Nat) (s : State) : State := s.modGrd g (fun x => { x with trip := false, tripSeen := false })

/-- The banks that hang on guardian g: mapped to it in INK_BKRAIL, or of a quadrant whose boost account names it with
GEN = 1 (R256). -/
def State.onGrd (s : State) (g b : Nat) : Bool :=
  s.bankRail b == some g || (s.flag (F.INK_BSTCFG_GEN (b / 6)) && s.get (F.INK_BSTCFG_GRD (b / 6)) == g)

/-- The running threads of those banks end with OVER_CURRENT (R256). -/
def State.grdThreads (g : Nat) (s : State) : State :=
  let bs := (upTo 24).filter (s.onGrd g)
  let s : State := s.killBanks (fun b => bs.contains b) markOc
  bs.foldl (fun (s : State) b => s.settleBank b) s

/-- The gate goes off; what was in force with it ends. -/
def State.grdOffTo (g : Nat) (st : GState) (s : State) : State :=
  let s : State := s.modGrd g (fun x => { x with lim := none, rampOut := false, held := false, goodSince := none })
  s.grdStep g st

/-! The rule table (R244 to R246) -/

/-- Strength of an action (Table 9.4). -/
def strength : Nat → Nat
  | 0 => 2 | 1 => 1 | 2 => 3 | _ => 4

/-- The delay of retry k in ms (R246). -/
def State.retryDelay (s : State) (g k : Nat) : Nat :=
  min (s.get (F.GRD_RETRY_FIRST g) * 2 ^ (k - 1)) (s.get (F.GRD_RETRY_CAP g) * 10)

/-- The RETRY action: one more retry with its delay, or LATCHED where the count would exceed N (R246). -/
def State.retry (g : Nat) (s : State) : State :=
  let k := (s.grd g).retries + 1
  if k ≤ s.get (F.GRD_RETRY_N g) ∨ s.flag (F.GRD_RETRY_UNL g) then
    let d := s.retryDelay g k
    (s.modGrd g (fun x => { x with retries := k, since := s.now, sinceAon := s.clk.aon, delay := d })).grdOffTo g .retryWait
  else (s.modGrd g (fun x => { x with trip := true, tripSeen := true })).grdOffTo g .latched

/-- Entry e of guardian g acts with an action for a condition (R245, R256, R257). An action other than LIMIT of a held guardian
asks for a wake (R254). -/
def State.ruleAct (g cond e act : Nat) (s : State) : State :=
  let s : State := s.inCycle (fun m => { m with grd := assocPut g (strength act) m.grd })
  let s : State := s.modGrd g (fun x => { x with tripWake := x.tripWake || (s.sys.mode.asleep && x.held && act != 1) })
  let s : State := s.setLast g cond e act false
  let s : State := match act with
    | 0 => (s.modGrd g (fun x => { x with retries := 0 })).grdOffTo g .off
    | 1 => (s.modGrd g (fun x => { x with lim := some (s.get (F.GRD_RULE_LIM g e), e) })).grdStep g .limit
    | 2 => s.retry g
    | _ => (s.modGrd g (fun x => { x with trip := true, tripSeen := true })).grdOffTo g .latched
  let s : State := if act = 1 then s else s.grdThreads g
  s.grdReport g

/-- An action may act in a state: any where the gate is on, but no LIMIT where one is in force; in RETRY_WAIT only LATCH. -/
def actable (st : GState) (act : Nat) : Bool :=
  match st with
  | .ramp | .on => true
  | .limit => decide (act ≠ 1)
  | .retryWait => decide (act = 3)
  | _ => false

/-- The strongest of the acting entries, the lowest index among those of its strength (R245). -/
def strongest (l : List (Nat × Nat)) : Option (Nat × Nat) :=
  l.foldl (fun o x => match o with | none => some x | some y => if strength y.2 < strength x.2 then some x else some y) none

/-- The enabled entries that name one of the conditions evaluated. -/
def State.entriesOf (s : State) (g : Nat) (p : Nat → Bool) : List Nat :=
  (upTo 8).filter (fun e => s.flag (F.GRD_RULE_EN g e) && p (s.get (F.GRD_RULE_COND g e)))

/-- The condition of the LIMIT entry in force has cleared (Table 9.2). -/
def State.limitEnds (g : Nat) (p q : Nat → Bool) (s : State) : State :=
  match (s.grd g).lim with
  | some (_, e) =>
    let c := s.get (F.GRD_RULE_COND g e)
    if (s.grd g).st == .limit && p c && !q c then (s.modGrd g (fun x => { x with lim := none })).grdStep g .on else s
  | none => s

/-- The entries among es whose filter has run, as far as their actions may act, with those actions. An action that stands against a
host command of the same fabric cycle is judged by the state from before that command (R245). -/
def State.actors (s : State) (g : Nat) (es : List Nat) : List (Nat × Nat) :=
  (es.map (fun e => (e, s.get (F.GRD_RULE_ACT g e)))).filter (fun x =>
    match assocGet g s.regs.same.grdHost with
    | some (st, _) => if 3 ≤ strength x.2 then actable st x.2 else actable (s.grd g).st x.2
    | none => actable (s.grd g).st x.2)

/-- The strongest of the entries acts (R245). Where it stands against a host command of the same fabric cycle, the retry count is the
one from before that command. -/
def State.actStrongest (g : Nat) (es : List Nat) (s : State) : State :=
  match strongest (s.actors g es) with
  | some (e, a) =>
    let s : State := match assocGet g s.regs.same.grdHost with
      | some (_, k) => if 3 ≤ strength a then s.modGrd g (fun x => { x with retries := k }) else s
      | none => s
    s.ruleAct g (s.get (F.GRD_RULE_COND g e)) e a
  | none => s

/-- One evaluation: p says which conditions are evaluated, q which of them hold, n for how many 8 µs steps that counts. A
condition that has held for FILT steps beyond its first evaluation acts (R244). -/
def State.evaluate (g n : Nat) (p q : Nat → Bool) (s : State) : State :=
  let es := s.entriesOf g p
  let held := (s.grd g).held8
  let held' := (upTo 8).map (fun e =>
    if es.contains e then
      (if q (s.get (F.GRD_RULE_COND g e)) then (if held.getD e 0 = 0 then 1 else held.getD e 0 + n) else 0)
    else held.getD e 0)
  let s : State := s.modGrd g (fun x => { x with held8 := held' })
  let s : State := s.limitEnds g p q
  s.actStrongest g (es.filter (fun e => decide (s.get (F.GRD_RULE_FILT g e) < held'.getD e 0)))

/-- An event-driven condition acts through the entries whose filter has run: n is for how many 8 µs the condition has held, 0 at its
crossing; 255, the longest filter, where filters are ignored (R238, R239, R244, R252). -/
def State.eventRule (g cond n : Nat) (s : State) : State :=
  s.actStrongest g ((s.entriesOf g (fun c => c == cond)).filter (fun e => decide (s.get (F.GRD_RULE_FILT g e) ≤ n)))

/-! Metering (R240 to R243, R253, R255) -/

/-- RSENSE in units of 0.01 mΩ. -/
def State.rsense (s : State) (g : Nat) : Int := s.get (F.GRD_SENSE_RSENSE g)

/-- A current code in µA (R240). -/
def State.microAmp (s : State) (g : Nat) (code : Int) : Int := if s.rsense g = 0 then 0 else code * 312500 / s.rsense g

/-- Energy of V_OUT × I over num / den µs in 1/256 µJ (R241), and in nJ. -/
def State.energy256 (s : State) (g : Nat) (v : Nat) (code : Int) (num den : Nat) : Int :=
  if s.rsense g = 0 then 0 else (v : Int) * code * (2 * num : Nat) / (25 * s.rsense g * (den : Int))
/-- Energy of one current sample in nJ: voltage code times current code, over num / den µs (R241, R253). -/
def State.energyNj (s : State) (g : Nat) (v : Nat) (code : Int) (num den : Nat) : Int :=
  if s.rsense g = 0 then 0 else (v : Int) * code * (5 * num : Nat) / (16 * s.rsense g * (den : Int))

/-- The I²t step over num / den µs, in 1e-12 A²·µs, with a floor of 0 (R242). -/
def State.i2tStep (s : State) (g : Nat) (acc : Nat) (code : Int) (num den : Nat) : Nat :=
  let i := s.microAmp g code
  let nom : Int := (s.get (F.GRD_I2T_I_NOM g) : Int) * 100000
  let d := if 0 < i then i * i - nom * nom else -(nom * nom)
  ((acc : Int) + d * (num : Int) / (den : Int)).toNat

/-- The energy of one current sample: the counter, the rail account, and where MSRC names the guardian, the boost account
(R241, R255). -/
def State.meterEnergy (g : Nat) (code : Int) (num den : Nat) (s : State) : State :=
  let v := (s.grd g).vout
  let nj := s.energyNj g v code num den
  let s : State := s.modGrd g (fun x => { x with energy := unsigned 56 ((x.energy : Int) + s.energy256 g v code num den),
                                                 i2t := s.i2tStep g x.i2t code num den })
  let s : State := { s with ink := { s.ink with rails := modAt s.ink.rails g (fun r => { r with cur := r.cur + nj }) } }
  (upTo 4).foldl (fun (s : State) q =>
    if s.flag (F.INK_BSTCFG_MSRC q) && s.get (F.INK_BSTCFG_GRD q) == g && s.balKept && s.convUsable q then
      s.setBoost q ((s.quad q).bal + nj * (s.get (F.INK_BSTCFG_EFF q) : Int) / 100)
    else s) s

/-- I²t, undervoltage, overvoltage and inkwell deny as they stand (Table 9.3, R225). -/
def State.sampledCond (s : State) (g c : Nat) : Bool :=
  let x := s.grd g
  match c with
  | 1 => decide (s.get (F.GRD_I2T_I2T_LIM g) * 10 ^ 15 ≤ x.i2t)
  | 3 => x.st.gateOn && ((x.done && decide (x.vout < s.get (F.GRD_VLIM_UV g) * 100)) || x.rampOut)
  | 4 => decide (s.get (F.GRD_VLIM_OV g) * 100 < x.vin)
  | 7 => (s.ink.rails.getD g Rail.initial).deny
  | _ => false

/-- The sampled conditions of Table 9.3. -/
def isSampled (c : Nat) : Bool := c == 1 || c == 3 || c == 4 || c == 7

/-- Since when power-good has held without a break (R246). -/
def State.watchGood (g : Nat) (s : State) : State :=
  if s.grdPg g then s.modGrd g (fun x => { x with goodSince := some (x.goodSince.getD s.clk.aon) })
  else s.modGrd g (fun x => { x with goodSince := none })

/-- The ramp completes at a sample with VDS at or below 0.5 V, and the guardian enters ON; one that a LIMIT action holds stays in LIMIT
(R236, log entry 49). -/
def State.rampDone (s : State) (g : Nat) : Bool :=
  let x := s.grd g
  x.st.gateOn && !x.done && decide ((x.vin : Int) - x.vout ≤ 500)

/-- What follows the values of a sample: the ramp's completion, the rules, power-good. UV is evaluated from the sample after the
one that completes the ramp (R236, Table 9.6). -/
def State.afterSample (g : Nat) (s : State) : State :=
  if s.rampDone g then
    let s : State := s.modGrd g (fun x => { x with done := true, rampOut := false })
    let s : State := if (s.grd g).st == .ramp then s.grdStep g .on else s
    (s.evaluate g 1 isSampled (fun c => c != 3 && s.sampledCond g c)).watchGood g
  else (s.evaluate g 1 isSampled (s.sampledCond g)).watchGood g

/-- An 8 µs sample at full rate: a current code, and a voltage code that is in turn V_OUT and V_IN (R240). -/
def State.meterSample (g : Nat) (code : Int) (volt : Nat) (s : State) : State :=
  let s : State := s.modGrd g (fun x => { x with
    vout := if x.nextOut then volt % 65536 else x.vout, vin := if x.nextOut then x.vin else volt % 65536, nextOut := !x.nextOut,
    lastCur := x.cur, cur := code, isat := decide (code = 32767 ∨ code = -32768) })
  (s.meterEnergy g code 8 1).afterSample g

/-- GUARDIAN_METER_SAMPLE (R240): Every 8 µs the guardian takes a current and a voltage sample, updates energy and I²t, and evaluates its
rule entries. -/
def execGuardianMeterSample (g : Nat) (cur : Int) (volt : Nat) (s : State) : Host.Outcome State Fault Refusal :=
  .next (if s.grdUsable g && s.fullRate then s.meterSample g cur volt else s)

/-- The safe-operating-area budget S after num / den µs, in nJ (R237): from the latest VDS and the mean of the two latest current
samples. -/
def State.soaNext (s : State) (g num den : Nat) : Nat :=
  let x := s.grd g
  let i := (s.microAmp g x.cur + s.microAmp g x.lastCur) / 2
  ((x.soa : Int) + (((x.vin : Int) - x.vout) * i - (s.get (F.GRD_SOA_P_CONT g) : Int) * 500000000) * (num : Int) / (den * 1000000 : Nat)).toNat

/-- In VIGIL one sample of each, every 32 AON ticks, that is 15625/16 µs (R253). S follows over the same interval, and no entry is
evaluated for it (R237, Table 9.5, log entry 49). -/
def State.vigilSample (g : Nat) (code : Int) (vout vin : Nat) (s : State) : State :=
  let s : State := s.modGrd g (fun x => { x with
    vout := vout % 65536, vin := vin % 65536, lastCur := x.cur, cur := code, isat := decide (code = 32767 ∨ code = -32768) })
  let s : State := s.modGrd g (fun x => { x with soa := s.soaNext g 15625 16 })
  (s.meterEnergy g code 15625 16).afterSample g

/-- VIGIL_METER_SAMPLE (R253): Every 32 AON ticks in VIGIL, the guardian meters V and I and evaluates its conditions. -/
def execVigilMeterSample (g : Nat) (cur : Int) (vout vin : Nat) (s : State) : Host.Outcome State Fault Refusal :=
  .next (if s.grdUsable g && s.sys.mode == .vigil then s.vigilSample g cur vout vin else s)

/-- The 16 µs update of S, and the entries that name SOA exhausted (R237, R244). -/
def execSoaUpdate (g : Nat) (s : State) : Host.Outcome State Fault Refusal :=
  .next (if s.grdUsable g && s.fullRate then
    let n := s.soaNext g 16 1
    let ex := decide (s.get (F.GRD_SOA_SOA_E g) * 1000000 ≤ n)
    let s : State := s.modGrd g (fun x => { x with soa := n, soaEx := ex })
    s.evaluate g 2 (fun c => c == 2) (fun _ => ex)
  else s)

/-- RAMP_T has passed since the ramp's start without completion (R236). -/
def State.rampLate (s : State) (g : Nat) : Bool :=
  let x := s.grd g
  x.st.gateOn && !x.done && !x.rampOut && decide (s.get (F.GRD_RAMP_RAMP_T g) * 800000 ≤ elapsed x.since s.now)

/-- RAMP_T has passed without completion: UV is true at that moment (R236). -/
def execRampTimeout (g : Nat) (s : State) : Host.Outcome State Fault Refusal :=
  .next (if s.grdUsable g && s.rampLate g then
    let s : State := s.modGrd g (fun x => { x with rampOut := true })
    s.evaluate g 1 (fun c => c == 3) (fun _ => true)
  else s)

/-! Fast trip, reverse current, external fault (R238, R239, R252) -/

/-- The fast-trip comparator acts in every state whose gate is not off; without an entry for it the guardian latches. -/
def State.fastTrip (g : Nat) (s : State) : State :=
  let s : State := s.modGrd g (fun x => { x with trip := true, tripSeen := false })
  let es := s.entriesOf g (fun c => c == 0)
  let s : State := if es.isEmpty then s.ruleAct g 0 0 3 else s.eventRule g 0 255
  s.modGrd g (fun x => { x with tripSeen := true })

/-- GUARDIAN_FAST_TRIP (R238): The fast-trip comparator pulls GG down, sets the latch, and the rule table picks the next state. -/
def execGuardianFastTrip (g : Nat) (s : State) : Host.Outcome State Fault Refusal :=
  .next (if s.grdUsable g && (s.grd g).st.gateOn then s.fastTrip g else s)

/-- The reverse comparator has tripped, and has stood so for some steps of 8 µs: none at the crossing, and again as the filter of an
entry runs out (R239, R244, log entry 49). -/
def execReverseCurrentTrip (x : GrdHeld) (s : State) : Host.Outcome State Fault Refusal :=
  .next (if s.grdUsable x.g then s.eventRule x.g 5 x.held else s)

/-- The external fault pin has reached XF_POL, and has stood there for some steps of 8 µs. In DORMANT and VIGIL it is not evaluated
(Table 9.5). -/
def execExternalFault (x : GrdHeld) (s : State) : Host.Outcome State Fault Refusal :=
  .next (if s.grdUsable x.g && s.flag (F.GRD_CFG_XF_EN x.g) && s.fullRate then s.eventRule x.g 6 x.held else s)

/-- Slow supervision of a held guardian in DORMANT: two failing checks in a row make UV true (R252). -/
def execSlowSupervisionCheck (g : Nat) (gateOk vOk : Bool) (s : State) : Host.Outcome State Fault Refusal :=
  .next (if s.grdUsable g && s.sys.mode == .dormant && (s.grd g).held then
    if gateOk && vOk then s.modGrd g (fun x => { x with uvSlow := 0 })
    else
      let s : State := s.modGrd g (fun x => { x with uvSlow := x.uvSlow + 1 })
      if 2 ≤ (s.grd g).uvSlow then s.eventRule g 3 255 else s
  else s)

/-! Retries (R246, R252) -/

/-- The time of a retry delay so far, in ms: on the time base, and in DORMANT and VIGIL on the AON clock. -/
def State.retryMs (s : State) (g : Nat) : Nat :=
  if s.sys.mode.asleep then (s.clk.aon - (s.grd g).sinceAon) * 1000 / 32768 else elapsed (s.grd g).since s.now / 800000

/-- The retry delay of guardian g has run out. -/
def State.retryOut (s : State) (g : Nat) : Bool :=
  (s.grd g).st == .retryWait && decide ((s.grd g).delay ≤ s.retryMs g)

/-- A retry ramp clears the trip latch (R25, R246). -/
def State.retryRamp (g : Nat) (s : State) : State := (s.clearTrip g).rampStart g

/-- RETRY_DELAY_END (R246): The retry delay runs out, and a new ramp starts or the guardian waits for a permitting mode. -/
def execRetryDelayEnd (g : Nat) (s : State) : Host.Outcome State Fault Refusal :=
  .next (if s.grdUsable g && s.retryOut g && s.rampMode then s.retryRamp g else s)

/-- Power-good has held without a break for GOOD_T ms (R246). The AON clock counts them, through sleep too (log entry 49). -/
def State.goodFor (s : State) (g : Nat) : Bool :=
  match (s.grd g).goodSince with
  | some a =>
    let gt := s.get (F.GRD_PRSN_GOOD_T g)
    gt != 0 && s.grdPg g && decide (gt * 32768 ≤ (s.clk.aon - a) * 1000)
  | none => false

/-- RETRY_COUNT_RESET (R246): Power-good has held for GOOD_T ms, and the retry count resets. -/
def execRetryCountReset (g : Nat) (s : State) : Host.Outcome State Fault Refusal :=
  .next (if s.goodFor g then s.modGrd g (fun x => { x with retries := 0 }) else s)

/-! Insertion and removal (R249) -/

/-- PRSNg stands at its present level. -/
def State.present (s : State) (g : Nat) : Bool := (s.grd g).pin == s.flag (F.GRD_PRSN_PRSN_POL g)

/-- PRSNg changes: the debounce restarts, and WAIT_PRSN goes to DEBOUNCE where the pin has reached its present level. A guardian leaves
DEBOUNCE as the debounce completes, or as the pin is lost for 10 µs. -/
def execPrsnChange (g : Nat) (level : Bool) (s : State) : Host.Outcome State Fault Refusal :=
  .next (if s.grdUsable g && (s.grd g).pin != level then
    let here := level == s.flag (F.GRD_PRSN_PRSN_POL g)
    let s : State := s.modGrd g (fun x => { x with pin := level, pinAt := s.clk.aon, pinTb := s.now, left := !here })
    if s.flag (F.GRD_CFG_PRSN_EN g) && here && (s.grd g).st == .waitPrsn then s.grdStep g .debounce else s
  else s)

/-- The pin has been stable at its present level for PRSN_DB ms; the AON clock counts it. -/
def State.prsnStable (s : State) (g : Nat) : Bool :=
  s.flag (F.GRD_CFG_PRSN_EN g) && s.present g
    && decide (s.get (F.GRD_PRSN_PRSN_DB g) * 32768 ≤ (s.clk.aon - (s.grd g).pinAt) * 1000)

/-- The debounce completes: from DEBOUNCE, or from OFF where AUTO = 1, a guardian with AUTO = 1 ramps or waits in PEND; with AUTO = 0
it goes to OFF (R249, Table 9.2). A trip latch that still stands keeps the gate off in the ramp (R25, log entry 49). -/
def execPrsnDebounceDone (g : Nat) (s : State) : Host.Outcome State Fault Refusal :=
  .next (if s.grdUsable g && s.prsnStable g && !(s.grd g).prsn then
    let s : State := s.modGrd g (fun x => { x with prsn := true, prsnWake := s.sys.mode.asleep || s.sys.sleep.isSome })
    if (s.grd g).st == .debounce || (s.grd g).st == .off then
      if s.flag (F.GRD_CFG_AUTO g) && s.flag (F.GRD_CFG_EN g) then s.rampOrPend g else s.grdStep g .off
    else s
  else s)

/-- The pin has left its present level for 10 µs without a break. -/
def State.prsnGone (s : State) (g : Nat) : Bool :=
  s.flag (F.GRD_CFG_PRSN_EN g) && (s.grd g).left && !s.present g
    && (if s.clk.tbRun then decide (8000 ≤ elapsed (s.grd g).pinTb s.now) else decide ((s.grd g).pinAt < s.clk.aon))

/-- Removal: the gate goes off from any state but LATCHED, the retry count resets, and the guardian waits. Every removal reports
(R257). -/
def execPrsnRemoval (g : Nat) (s : State) : Host.Outcome State Fault Refusal :=
  .next (if s.grdUsable g && s.prsnGone g then
    let s : State := s.modGrd g (fun x => { x with prsn := false, left := false })
    if (s.grd g).st == .latched then s.grdReport g
    else
      let s : State := s.setLast g 0 0 0 true
      ((s.modGrd g (fun x => { x with retries := 0 })).grdOffTo g .waitPrsn).grdReport g
  else s)

/-! Host commands (R247, R248) -/

/-- ON: the state that a guardian in OFF goes to. With EN = 0 the gate stays off. -/
def State.grdOnFromOff (g : Nat) (s : State) : State :=
  if !s.flag (F.GRD_CFG_EN g) then s
  else
    let s : State := s.clearTrip g
    if s.flag (F.GRD_CFG_PRSN_EN g) && !s.present g then s.grdStep g .waitPrsn else s.rampOrPend g

/-- CLEAR of a LATCHED guardian, journalled in the role of its issuer (R440). -/
def State.grdClearAct (g role port : Nat) (s : State) : State :=
  let s : State := s.setLast g 0 0 0 true
  let s : State := (s.clearTrip g).modGrd g (fun x => { x with retries := 0 })
  (s.grdOffTo g .off).journal (act role port 6 g)

/-- A RETRY or LATCH of the rule table in the present fabric cycle stands against a host command (R245). -/
def State.ruleStands (s : State) (g : Nat) : Bool :=
  match assocGet g s.regs.same.grd with
  | some k => decide (3 ≤ k)
  | none => false

/-- A host command acts on guardian g in the present fabric cycle: its state from before stays known to the rule table (R245). -/
def State.noteGrd (g : Nat) (s : State) : State :=
  match assocGet g s.regs.same.grdHost with
  | some _ => s
  | none => s.inCycle (fun m => { m with grdHost := assocPut g ((s.grd g).st, (s.grd g).retries) m.grdHost })

/-- The effect of ON. -/
def State.grdOnAct (g role port : Nat) (s : State) : State :=
  if s.ruleStands g then s else
  let s : State := s.noteGrd g
  match (s.grd g).st with
  | .off => (s.setLast g 0 0 0 true).grdOnFromOff g
  | .retryWait => (s.setLast g 0 0 0 true).clearTrip g |>.rampOrPend g
  | .latched => (s.grdClearAct g role port).grdOnFromOff g
  | _ => s

/-- The effect of OFF. -/
def State.grdOffAct (g : Nat) (s : State) : State :=
  if (s.grd g).st == .latched || s.ruleStands g then s
  else (((s.noteGrd g).setLast g 0 0 0 true).modGrd g (fun x => { x with retries := 0 })).grdOffTo g .off

/-- CLEAR and ON of a LATCHED guardian are reserved to the installer (R247). -/
def State.clearLocked (s : State) (g : Nat) : Bool := (s.grd g).st == .latched && s.flag (F.GRD_CFG_CLR_LOCK g)

/-- The guardian's state code for a completion (R300). -/
def State.grdCode (s : State) (g : Nat) : Nat := if s.grdUsable g then (s.grd g).st.code else 0

/-- A write of GRD_CTRLg: ON, OFF and CLEAR in this order. ON of a LATCHED guardian and CLEAR need the installer where
CLR_LOCK is 1. -/
def State.grdCtrlWrite (p : Port) (g : Nat) (v : Word) (s : State) : State :=
  s.busWrite p (R.GRD_CTRL g) v (fun s =>
    let inst := s.isInstaller p; let role := s.roleOf p
    let noOn := v.bit 0 && s.clearLocked g && !inst
    let noClear := v.bit 2 && s.flag (F.GRD_CFG_CLR_LOCK g) && !inst
    let s : State := if v.bit 0 && !noOn then s.grdOnAct g role (portNum p) else s
    let s : State := if v.bit 1 then s.grdOffAct g else s
    let s : State := if v.bit 2 && !noClear && (s.grd g).st == .latched then s.grdClearAct g role (portNum p) else s
    if noOn || noClear then s.deny p else s)

/-- GRD_ON (R247): A guardian ON command, by MQ or by GRD_CTRLg.ON, starts a ramp or a presence wait. -/
def execGrdOn (src : Issuer) (g : Nat) (s : State) : Host.Outcome State Fault Refusal :=
  .next (match src with
    | .mq tag => s.onMq tag 2 (fun s =>
        if !s.grdUsable g then (Code.absent, s) else if s.clearLocked g then (Code.role, s) else (Code.ok, s.grdOnAct g 0 0))
        (fun s => s.grdCode g)
    | .reg p => s.grdCtrlWrite p g 1)

/-- GRD_OFF (R247): A guardian OFF command turns the gate off and resets the retry count. -/
def execGrdOff (src : Issuer) (g : Nat) (s : State) : Host.Outcome State Fault Refusal :=
  .next (match src with
    | .mq tag => s.onMq tag 3 (fun s => if !s.grdUsable g then (Code.absent, s) else (Code.ok, s.grdOffAct g)) (fun s => s.grdCode g)
    | .reg p => s.grdCtrlWrite p g 2)

/-- GRD_CLEAR (R247): A guardian CLEAR command returns a LATCHED guardian to OFF. -/
def execGrdClear (src : Issuer) (g : Nat) (s : State) : Host.Outcome State Fault Refusal :=
  .next (match src with
    | .mq tag => s.onMq tag 4 (fun s =>
        if !s.grdUsable g then (Code.absent, s)
        else if s.flag (F.GRD_CFG_CLR_LOCK g) then (Code.role, s)
        else (Code.ok, if (s.grd g).st == .latched then s.grdClearAct g 0 0 else s)) (fun s => s.grdCode g)
    | .reg p => s.grdCtrlWrite p g 4)

/-- GRD_LIMIT: live FT and ILIM within the installer's band (R248), journalled as KIND 7. -/
def State.grdLimitAct (g ft ilim : Nat) (s : State) : Nat × State :=
  if !s.grdUsable g then (Code.absent, s)
  else if ft < s.get (F.GRD_BAND_FT_MIN g) ∨ s.get (F.GRD_BAND_FT_MAX g) < ft ∨ ilim < s.get (F.GRD_BAND_ILIM_MIN g)
      ∨ s.get (F.GRD_BAND_ILIM_MAX g) < ilim then (Code.role, s)
  else
    let old := (s.grd g).liveFt + 256 * (s.grd g).liveIlim
    let s : State := s.modGrd g (fun x => { x with liveFt := ft, liveIlim := ilim })
    (Code.ok, s.journal { act 0 0 7 g with old := old, new := ft + 256 * ilim })

/-- GRD_LIMIT (R248): The GRD_LIMIT command sets the live FT and ILIM within the installer's bands. -/
def execGrdLimit (tag arg0 arg1 : Word) (s : State) : Host.Outcome State Fault Refusal :=
  .next (s.onMq tag 5 (fun s => s.grdLimitAct (arg0.bits 0 3) (arg1.bits 0 8) (arg1.bits 8 8)) (fun s => s.grdCode (arg0.bits 0 3)))

/-- At BOOT and at each COMMIT the live levels return to the configured ones (R248). -/
def State.grdLive (s : State) : State :=
  { s with grds := s.grds.mapIdx (fun g x => { x with liveFt := s.get (F.GRD_SENSE_FT g), liveIlim := s.get (F.GRD_RAMP_ILIM g) }) }

/-- A read of GRD_ELOg latches GRD_EHIg (R241). -/
def State.energyRead (p : Port) (g : Nat) (s : State) : State :=
  s.onRead p (fun s =>
    if s.grdUsable g then
      let e := (s.grd g).energy / 256
      (s.modGrd g (fun x => { x with ehi := e / 2 ^ 32 % 65536 })).answer (e % 2 ^ 32)
    else s.answer 0)

/-- ENERGY_COUNTER_READ (R241): A read of GRD_ELOg latches GRD_EHIg. -/
def execEnergyCounterRead (p : Port) (g : Nat) (s : State) : Host.Outcome State Fault Refusal := .next (s.energyRead p g)

/-! Modes (R250, R251, R254) -/

/-- At the first entry to a mode that permits ramps, those that waited start (R250). -/
def State.grdEnter (s : State) : State :=
  (upTo 8).foldl (fun (s : State) g =>
    if !s.grdUsable g then s
    else match (s.grd g).st with
      | .pend => s.rampStart g
      | .retryWait => if s.retryOut g then s.retryRamp g else s
      | .off =>
        if s.flag (F.GRD_CFG_EN g) && s.flag (F.GRD_CFG_AUTO g)
            && (!s.flag (F.GRD_CFG_PRSN_EN g) || (s.grd g).prsn) then s.rampStart g
        else s
      | _ => s) s

/-- Entry to DORMANT or VIGIL (R251); a retry delay goes on with the AON clock. With HOLD = 0 every state but LATCHED goes to OFF. -/
def State.grdSleep (s : State) : State :=
  (upTo 8).foldl (fun (s : State) g =>
    let ms := s.retryMs g
    let s : State := s.modGrd g (fun x => { x with delay := x.delay - ms, sinceAon := s.clk.aon, uvSlow := 0, prsnWake := false, tripWake := false })
    match (s.grd g).st with
    | .on => if s.flag (F.GRD_CFG_HOLD g) then s.modGrd g (fun x => { x with held := true }) else s.grdOffTo g .off
    | .ramp | .limit => s.grdOffTo g (if s.flag (F.GRD_CFG_HOLD g) then .pend else .off)
    | .pend | .retryWait | .waitPrsn | .debounce => if s.flag (F.GRD_CFG_HOLD g) then s else s.grdOffTo g .off
    | _ => s) s

/-- At a wake a retry delay goes on with the time base. ms is what the AON clock has counted of it. -/
def State.grdWake (s : State) : State :=
  { s with grds := s.grds.map (fun x => { x with held := false, delay := x.delay - (s.clk.aon - x.sinceAon) * 1000 / 32768,
                                                 since := s.now, prsnWake := false, tripWake := false }) }

/-- EN = 0 keeps the gate off (Table 9.9). -/
def State.grdEnables (s : State) : State :=
  (upTo 8).foldl (fun (s : State) g =>
    if !s.flag (F.GRD_CFG_EN g) && (s.grd g).st != .off && (s.grd g).st != .latched then
      s.grdOffTo g .off
    else s) s

/-- A rule action other than LIMIT of a held guardian with TRIP_WAKE, or a debounce completed since the sleep entry began with
PRSN_WAKE, wakes the device (R254). -/
def State.grdWakes (s : State) (g : Nat) (prsn : Bool) : Bool :=
  s.grdUsable g && (if prsn then s.flag (F.GRD_CFG_PRSN_WAKE g) && (s.grd g).prsnWake
    else s.flag (F.GRD_CFG_TRIP_WAKE g) && (s.grd g).tripWake)

/-- GRD_SUM. -/
def State.grdSum (s : State) : Nat :=
  ((upTo 8).map (fun g => b2n (s.grdPg g) * 2 ^ g + b2n (s.grdUsable g && (s.grd g).st == .latched) * 2 ^ (8 + g)
    + b2n (s.grdOnline g) * 2 ^ (16 + g))).sum

end Sys2Proof.Machine
end

