-- ==== Sys2Proof/Machine/SecOps.lean ====
section
/-! DEFINITION. The ends of a session (R432), and the long operations that hold the set-up port (R281). -/

namespace Sys2Proof.Machine

/-- The session ends without an entry: a reset, or entry to DORMANT or VIGIL (R432). -/
def State.dropSession (s : State) : State := { s with sec := { s.sec with role := 0, idle := 0 } }

/-- The session ends with a journal entry of KIND 2: DATA 0 CLOSE, 1 idle, 2 port reset (R432, Table 17.4). -/
def State.endSession (data : Nat) (s : State) : State :=
  if s.sec.role = 0 then s
  else s.dropSession.journal (act s.sec.role (portNum s.sec.port) 2 data)

/-- A session bound to PCIe ends by an event of Table 10.3 (R432). -/
def State.endPcieSession (s : State) : State := if s.sec.port = .pcie then s.endSession 2 else s

/-- A long operation begins: the set-up port is busy (R281). -/
def State.beginBusy (op : Nat) (p : Port) (s : State) : State :=
  { s with sys := { s.sys with busy := some { op := op, port := p, since := s.now } } }

/-- It ends: the port is free. -/
def State.endBusy (s : State) : State := { s with sys := { s.sys with busy := none } }

/-- The operation named in SYS_STAT.OP. -/
def State.busyOp (s : State) : Nat := match s.sys.busy with | some b => b.op | none => 0

/-- A given time has passed since the operation began. -/
def State.busyFor (s : State) (tb : Nat) : Bool := match s.sys.busy with | some b => decide (tb ≤ elapsed b.since s.now) | none => false

end Sys2Proof.Machine
end

