-- ==== Sys2Proof/Machine/Rings.lean ====
section
/-! DEFINITION. The ring engine (chapter 11): doorbell and status lines, the records it writes, the enabling and stopping of
rings, and with them the quadrant gates of R34 to R38, whose wakes read the doorbell line. -/

namespace Sys2Proof.Machine

/-! The doorbell line (R292, R294, R268) -/

/-- DB_SWEEP has passed since the last sweep. -/
def State.sweepDue (s : State) : Bool := s.ringEngine && decide (400 * s.hif.sweep.bits 0 8 ≤ elapsed s.hif.dbAt s.now)

/-- HIF_TRACE and HIF_SWEEP take effect at a sweep (R314). While a read is outstanding the sweep reads nothing (R294). -/
def execDoorbellSweep (s : State) : Host.Outcome State Fault Refusal :=
  .next (if s.sweepDue then
    let s : State := { s with hif := { s.hif with dbAt := s.now, kinds := (s.word R.HIF_TRACE).bits 0 4, sweep := s.word R.HIF_SWEEP } }
    if s.hif.dbReads = 0 then s.doorbellRead else s
  else s)

/-- The host is heard (R268). -/
def State.heard (s : State) : State := { s with hif := { s.hif with heardAt := s.now, silent := false } }

/-- Ring r stops with ERRC (R269, R291). -/
def State.stopRing (r errc : Nat) (s : State) : State := s.modRing r (fun x => { x with err := true, errc := errc })

/-- CQ n is full: in service without room. -/
def State.cqIsFull (s : State) (n : Nat) : Bool := s.ringLive (9 + n) && !s.ringRoom (9 + n)

/-- Results that wait for CQ n: in staging, and in the event store. -/
def State.cqWaiting (s : State) (n : Nat) : Nat :=
  (s.hif.results.filter (fun r => r.cq == n)).length
    + (s.sch.store.filter (fun e => e.phase == .ended && s.resultWanted e.src && s.cqOf e.src == n)).length

/-- Alarm 19 marks the onset of a full CQ, and its end once the last waiting result is written (R307). -/
def State.watchCq (n : Nat) (s : State) : State :=
  let was := s.hif.cqFull.getD n false
  let w := s.cqWaiting n
  if !was && s.cqIsFull n then
    (({ s with hif := { s.hif with cqFull := setAt s.hif.cqFull n true } } : State).alarm 19 (2 * n) w 0)
  else if was && !s.cqIsFull n && w == 0 then
    (({ s with hif := { s.hif with cqFull := setAt s.hif.cqFull n false } } : State).alarm 19 (2 * n + 1) w 0)
  else s

/-- Each CQ is looked at for the full state of R307. -/
def State.watchCqs (s : State) : State := (upTo 4).foldl (fun (s : State) n => s.watchCq n) s

/-- The host's index of ring r is legal (R291). -/
def State.indexOk (s : State) (r v : Nat) : Bool :=
  let size := s.ringSize r; let x := s.ring r
  decide (v < size) && (decide (r < 9) || decide (ringHeld size v x.host ≤ ringHeld size x.idx x.host))

/-- The host's index of ring r is taken, or stops the ring with alarm 17. -/
def State.takeIndex (r v : Nat) (s : State) : State :=
  if s.ringLive r then
    if s.indexOk r v then
      let s : State := s.modRing r (fun x => { x with host := v })
      s.modRing r (fun x => { x with full := decide (9 ≤ r) && !s.ringRoom r })
    else (s.stopRing r 5).alarm 17 r 5 0
  else s

/-- The doorbell line arrives (R291, R292, R268). -/
def State.takeLine (line : DoorbellLine) (s : State) : State :=
  let s : State := if s.hif.dbLast = some line then s else s.heard
  let s : State := { s with hif := { s.hif with dbReads := s.hif.dbReads - 1, dbLast := some line } }
  ((upTo 19).foldl (fun (s : State) r => s.takeIndex r (line.idx.getD r 0)) s).watchCqs

/-- DOORBELL_READ_DONE (R296): The doorbell line arrives, and the ring engine checks its indices and fetches new work in turns. -/
def execDoorbellReadDone (line : DoorbellLine) (s : State) : Host.Outcome State Fault Refusal :=
  .next (if s.hif.dbReads != 0 && s.ringEngine then s.takeLine line else s)

/-! The status line (R293, R295, R309) -/

/-- The alarm FIFO is at or above its folding level; telemetry or trace staging is full. -/
def State.collapsed (s : State) : Bool := decide (foldLevel ≤ s.hif.alarms.length)
/-- Telemetry or trace staging is full (FLAGS of Table 11.3). -/
def State.overloaded (s : State) : Bool := decide (teleRoom ≤ s.hif.tele.length) || decide (traceRoom ≤ s.hif.trace.length)

/-- FLAGS of Table 11.3. -/
def State.lineFlags (s : State) : Nat :=
  b2n s.sys.fbFlag + 2 * b2n s.hif.normalStall + 4 * b2n s.hif.urgentStall + 8 * b2n s.collapsed + 16 * b2n s.overloaded

/-- What the status line would report now, under a mode. -/
def State.lineView (s : State) (mode : Nat) : StatusView :=
  { idx := s.hif.rings.map Ring.idx, mode := mode, flags := s.lineFlags }

/-- The sixteen words of the line (Table 11.3). -/
def statusWords (v : StatusView) (beat : Nat) (now : Tb) : List Word :=
  let i := fun n => v.idx.getD n 0
  let two := fun a b => Word.ofN (i a + i b * 65536)
  [two 0 1, two 2 3, two 4 5, two 6 7, Word.ofN (i 8 + place 16 4 v.mode + v.flags * 2 ^ 24), two 9 10, two 11 12, two 13 14,
   two 15 16, two 17 18, Word.ofN beat, Word.ofN (now.toNat / 256), 0, 0, 0, 0]

/-- Unread records of an outbound ring, against the host head last read. -/
def State.unread (s : State) (r : Nat) : Nat := ringHeld (s.ringSize r) (s.ring r).idx (s.ring r).host

/-- Ring r's source becomes pending at a write that advances its tail (R309). -/
def State.ringSource (old : StatusView) (r n : Nat) (s : State) : State :=
  let thr := s.get (F.HIF_RCFG_THR r)
  if old.idx.getD r 0 ≠ (s.ring r).idx ∧ thr ≠ 0 ∧ thr ≤ s.unread r then s.raise n else s

/-- The status line is written, and the sources of R309 are taken. -/
def State.writeStatus (mode : Nat) (s : State) : State :=
  let old := s.hif.reported
  let v := s.lineView mode
  let beat := (s.hif.hbCtr + 1) % 2 ^ 32
  let onset := (v.flags / 8 % 2 == 1 && old.flags / 8 % 2 == 0) || (v.flags / 16 % 2 == 1 && old.flags / 16 % 2 == 0)
  let mq := s.hif.mqDone; let gap := s.hif.gapDone
  let s : State := { s with hif := { s.hif with tlps := .status (statusWords v beat s.now) :: s.hif.tlps, hbCtr := beat,
                                                reported := v, stAt := s.now, mqDone := false, gapDone := false } }
  let s : State := if old.idx.getD 17 0 ≠ (s.ring 17).idx then s.raise 16 else s
  let s : State := (upTo 4).foldl (fun (s : State) n => s.ringSource old (9 + n) (17 + n)) s
  let s : State := (upTo 4).foldl (fun (s : State) n => s.ringSource old (13 + n) (21 + n)) s
  let s : State := s.ringSource old 18 25
  let s : State := if mq then s.raise 26 else s
  if onset || gap then s.raise 27 else s

/-- A reported field has changed, or HB_PERIOD has passed (R295). -/
def State.statusDue (s : State) : Bool :=
  s.ringEngine && (s.lineView s.sys.mode.code != s.hif.reported
    || decide (8000 * s.hif.sweep.bits 16 14 ≤ elapsed s.hif.stAt s.now))

/-- STATUS_LINE_WRITE (R295): The device writes the status line after a reported change or at each HB_PERIOD. -/
def execStatusLineWrite (s : State) : Host.Outcome State Fault Refusal :=
  .next (if s.statusDue then s.writeStatus s.sys.mode.code else s)

/-! Records (R286, R288, R302, R306, R307) -/

/-- A record goes into the slot at the device's index, with PHASE in word 0 [31] (R288). -/
def State.putRecord (r : Nat) (words : List Word) (body : Body) (s : State) : State :=
  let x := s.ring r
  let next := (x.idx + 1) % s.ringSize r
  let ws := match words with | w :: l => setBits w 31 1 (b2n x.phase) :: l | [] => []
  let s : State := { s with hif := { s.hif with tlps := .record r x.idx ws body :: s.hif.tlps } }
  s.modRing r (fun x => { x with idx := next, phase := if next = 0 then !x.phase else x.phase })

/-- An alarm or REPEAT record (Table 11.8). -/
def alarmWords (a : Alarm) : List Word :=
  let t := a.time.toNat
  [Word.ofN (a.id + place 8 8 a.sub + (if a.rep then 14 else 0) * 2 ^ 16), Word.ofN t,
   Word.ofN (t / 2 ^ 32 + (if a.rep then a.count else a.data) * 256),
   if a.rep then Word.ofN (min (usBetween a.time a.last) 0xFFFFFFFF) else a.data2]

/-- A GAP record of ring r (R306). -/
def gapWords (r : Nat) (g : Gap) : List Word :=
  let t := g.first.toNat
  let head := [Word.ofN (15 * 2 ^ 16), Word.ofN t, Word.ofN (t / 2 ^ 32 + place 8 24 (min (g.acc + g.trk) 0xFFFFFF)),
    Word.ofN (min (usBetween g.first g.last) 0xFFFFFFFF)]
  if r = 18 then head else head ++ [Word.ofN g.acc, Word.ofN g.trk, 0, 0]

/-- The first alarm can be written. -/
def State.alarmDue (s : State) : Bool := !s.hif.alarms.isEmpty && s.ringRoom 17

/-- The first staged result whose CQ has room. -/
def State.resultDue (s : State) : Option OutRec := s.hif.results.find? (fun r => s.ringRoom (9 + r.cq))

/-- The first staged record of ring r. -/
def stagedOf (l : List TeleRec) (r : Nat) : Option TeleRec := l.find? (fun x => x.ring == r)

/-- A staged record can be written: the first of its ring, with room, and with no GAP record ahead of it. -/
def State.teleDue (s : State) (l : List TeleRec) : Option TeleRec :=
  l.find? (fun x => s.ringRoom x.ring && stagedOf l x.ring == some x && x.gap.isNone)

/-- Remove the first element that equals x. -/
def dropFirst {α : Type} [DecidableEq α] (x : α) : List α → List α
  | [] => []
  | y :: l => if x = y then l else y :: dropFirst x l

/-- The staging list of ring r. -/
def State.staging (s : State) (r : Nat) : List TeleRec := if r = 18 then s.hif.trace else s.hif.tele

/-- The staging of ring r, trace for the XQ and telemetry for a TQ, becomes l. -/
def State.setStaging (r : Nat) (l : List TeleRec) (s : State) : State :=
  if r = 18 then { s with hif := { s.hif with trace := l } } else { s with hif := { s.hif with tele := l } }

/-- A staged record leaves staging and is written to its ring. -/
def State.writeTele (t : TeleRec) (s : State) : State :=
  (s.setStaging t.ring (dropFirst t (s.staging t.ring))).putRecord t.ring t.words (.tele t)

/-- The GAP record that ring r may write now: the one ahead of its first staged record, or with none staged the ring's own
(R306). -/
def State.gapOf (s : State) (r : Nat) : Option Gap :=
  match stagedOf (s.staging r) r with | some t => t.gap | none => (s.ring r).gap

/-- Ring r has room for the GAP record that it owes. -/
def State.gapRoom (s : State) (r : Nat) : Bool := s.ringRoom r && (s.gapOf r).isSome

/-- Some TQ owes a GAP record and has room for it: trace waits behind it (R32). -/
def State.teleGap (s : State) : Bool := (upTo 4).any (fun n => s.gapRoom (13 + n))

/-- A trace record can be written: no telemetry record or GAP record can. -/
def State.traceDue (s : State) : Option TeleRec := if s.teleGap then none else s.teleDue s.hif.trace

/-- A result or completion, or with none to write a telemetry record, or else a trace record. -/
def State.writeLower (s : State) : State :=
  match s.resultDue with
  | some r =>
    let s : State := { s with hif := { s.hif with results := dropFirst r s.hif.results,
                                                  mqDone := s.hif.mqDone || (r.words.headD 0).bits 16 4 == 1 } }
    (s.putRecord (9 + r.cq) r.words (.result r)).watchCq r.cq
  | none =>
    match s.teleDue s.hif.tele with
    | some t => s.writeTele t
    | none => match s.traceDue with | some t => s.writeTele t | none => s

/-- One record is written in class order (R307): alarms, results and completions, telemetry, trace. -/
def State.writeRecord (s : State) : State :=
  match s.hif.alarms with
  | a :: rest =>
    if s.ringRoom 17 then ({ s with hif := { s.hif with alarms := rest } } : State).putRecord 17 (alarmWords a) (.alarm a)
    else s.writeLower
  | [] => s.writeLower

/-- RECORD_WRITE (R307): An outbound record is written to its ring in class order when the ring has room. -/
def execRecordWrite (s : State) : Host.Outcome State Fault Refusal := .next (if s.ringEngine then s.writeRecord else s)

/-- The GAP record is no longer owed. -/
def State.gapPaid (r : Nat) (s : State) : State :=
  match stagedOf (s.staging r) r with
  | some t => s.setStaging r ((s.staging r).map (fun x => if x = t then { x with gap := none } else x))
  | none => s.modRing r (fun x => { x with gap := none })

/-- A GAP record goes into ring r (R306), in its class. -/
def State.gapDue (s : State) (r : Nat) : Bool :=
  s.ringEngine && s.gapRoom r && !s.alarmDue && s.resultDue.isNone
    && (decide (r ≠ 18) || ((s.teleDue s.hif.tele).isNone && !s.teleGap))

/-- The GAP record that ring r owes is written, and its losses are done with (R306). -/
def State.writeGap (r : Nat) (s : State) : State :=
  match s.gapOf r with
  | some g =>
    let s : State := (s.gapPaid r).putRecord r (gapWords r g) (.gap g)
    { s with hif := { s.hif with gapDone := true } }
  | none => s

/-- GAP_RECORD (R306): A GAP record counting the losses is written as soon as its ring has room. -/
def execGapRecord (r : Nat) (s : State) : Host.Outcome State Fault Refusal :=
  .next (if 13 ≤ r ∧ r ≠ 17 ∧ s.gapDue r then s.writeGap r else s)

/-! Losses of staged records (R290, R306, R412) -/

/-- The losses of a GAP record that was owed or written count again toward the ring's next one. -/
def State.owe (r : Nat) (g : Gap) (s : State) : State :=
  s.modRing r (fun x => { x with gap := some (match x.gap with
    | some h => { h with acc := h.acc + g.acc, trk := h.trk + g.trk, first := g.first }
    | none => g) })

/-- One staged or unacknowledged record is lost. -/
def State.loseRec (t : TeleRec) (s : State) : State :=
  let s : State := match t.gap with | some g => s.owe t.ring g | none => s
  s.lose t.ring t.trk

/-- Staged telemetry and trace records are discarded, and counted in the first GAP record of their ring. -/
def State.discardStaging (s : State) : State :=
  let l := s.hif.tele ++ s.hif.trace
  let s : State := { s with hif := { s.hif with tele := [], trace := [] } }
  l.foldl (fun (s : State) t => s.loseRec t) s

/-- A TLP that was not acknowledged (R267): its alarm or result is kept for the same slot; telemetry and trace are lost. -/
def State.takeBack (x : Tlp) (s : State) : State :=
  match x with
  | .record r slot words body =>
    let s : State := s.modRing r (fun x => { x with idx := slot, phase := (words.headD 0).bit 31 })
    match body with
    | .alarm a => { s with hif := { s.hif with alarms := a :: s.hif.alarms } }
    | .result o => { s with hif := { s.hif with results := o :: s.hif.results } }
    | .tele t => s.loseRec t
    | .gap g => s.owe r g
  | .status _ => s
  | .msix _ => s

/-! Enabling and stopping (R289, R290) -/

/-- Write HIF_RCFGr (R289): while EN is 1 only EN moves; EN is set only with a valid size and base. -/
def State.ringCfg (r : Nat) (v : Word) (s : State) : State :=
  let a := R.HIF_RCFG r
  if s.flag (F.HIF_RCFG_EN r) then (if v.bit 0 then s else s.set (F.HIF_RCFG_EN r) 0)
  else
    let lg := v.bits 1 5
    let base := s.get (F.HIF_RBASELO_ADDR r) ≠ 0 ∨ s.get (F.HIF_RBASEHI_ADDR r) ≠ 0
    let ok := v.bit 0 && decide (6 ≤ lg) && decide (lg ≤ 16) && decide base
    let s : State := s.putWord a (mergeMask 0xFFFF037E (s.word a) v)
    if ok then
      let s : State := s.set (F.HIF_RCFG_EN r) 1
      let keep := (s.ring r).err && decide ((s.ring r).errc < 5) && s.flag F.HIF_DMAERR_VALID
      s.modRing r (fun x => { x with idx := 0, host := 0, active := true, full := false, phase := true, err := keep,
                                      errc := if keep then x.errc else 0 })
    else s

/-- A set-up write of HIF_RCFGr. -/
def State.ringCfgWrite (p : Port) (r : Nat) (v : Word) (s : State) : State := s.onWrite p (fun s => s.ringCfg r v)

/-- Setting EN of a ring. -/
def execRingEnable (p : Port) (r : Nat) (v : Word) (s : State) : Host.Outcome State Fault Refusal :=
  .next (if v.bit 0 then s.ringCfgWrite p r v else s)

/-- Clearing EN of a ring: it stops after its DMA in flight. -/
def execRingDisable (p : Port) (r : Nat) (v : Word) (s : State) : Host.Outcome State Fault Refusal :=
  .next (if v.bit 0 then s else s.ringCfgWrite p r v)

/-- The DMA in flight of a disabled ring finishes, and ACTIVE clears (R289). -/
def execRingDrained (r : Nat) (s : State) : Host.Outcome State Fault Refusal :=
  .next (if s.flag (F.HIF_RCFG_EN r) then s else s.modRing r (fun x => { x with active := false }))

/-- The addresses of the doorbell and the status line are not zero (R290). -/
def State.lineAddrs (s : State) : Bool :=
  (s.get F.HIF_DBADDR_LO_ADDR != 0 || s.get F.HIF_DBADDR_HI_ADDR != 0)
    && (s.get F.HIF_STADDR_LO_ADDR != 0 || s.get F.HIF_STADDR_HI_ADDR != 0)

/-- HIF_RCTRL.EN is set (R290): indices restart at 0, staged telemetry and trace are discarded, results and alarms stay. -/
def State.engineOn (s : State) : State :=
  let s : State := s.discardStaging.set F.HIF_RCTRL_EN 1
  let s : State := { s with hif := { s.hif with
    rings := s.hif.rings.map (fun x => { x with idx := 0, host := 0, phase := true, full := false }),
    reported := { s.hif.reported with idx := List.replicate 19 0 }, turn := none, dbReads := 0, dbLast := none, dbAt := s.now } }
  s.watchCqs

/-- Write HIF_RCTRL. -/
def State.engineCtrl (v : Word) (s : State) : State :=
  if v.bit 0 then (if s.flag F.HIF_RCTRL_EN || !s.lineAddrs then s else s.engineOn) else s.set F.HIF_RCTRL_EN 0

/-- RING_ENGINE_ENABLE (R290): Setting HIF_RCTRL.EN starts the ring engine, restarting the indices and discarding staged telemetry. -/
def execRingEngineEnable (p : Port) (v : Word) (s : State) : Host.Outcome State Fault Refusal :=
  .next (s.onWrite p (fun s => s.engineCtrl v))

/-! Quadrant gates (R34 to R38) -/

/-- The start of an event lies within WAKE_LEAD (R35). For an angle-plus-delay event whose anchor is still to come the angle lead
runs to the anchor, whatever its DELAY (log entry 41). -/
def State.withinLead (s : State) (e : Event) : Bool :=
  decide (s.projStart e ≤ (s.get F.SCH_WAKE_LEAD_TIME : Int) * 800)
    || (e.onAngle && s.clockRuns && decide (s.anchorDist e ≤ (s.get F.SCH_WAKE_LEAD_ANG : Int) * 4096))

/-- One of the conditions (a) to (e) of R34 holds for quadrant q. -/
def State.quadNeeds (s : State) (q : Nat) : Bool :=
  s.sch.store.any (fun e => e.ch / 24 == q && (e.phase == .ended || (e.unstarted && s.withinLead e)))
    || ((upTo 6).any (fun i => let b := s.bank (6 * q + i); b.threads.any Thread.run || !b.slots.isEmpty))
    || (s.tst.running && [s.tst.blockA, s.tst.blockB].any (fun k => k == 3 + q || k == 16 + q || k == 20 + q || k == 24 + q))

/-- Quadrant q must be asked to run: its clock is gated, and a condition holds. -/
def State.ungateDue (s : State) (q : Nat) : Bool :=
  decide (q < s.part.quads) && s.clk.tbRun && !s.clk.qrun.getD q false && (s.clk.qreq.getD q none).isNone && s.quadNeeds q

/-- The quadrant's gate opens: its clock runs 40 ns later, and the ring engine reads the doorbell line (R38). -/
def execQuadrantUngate (q : Nat) (s : State) : Host.Outcome State Fault Refusal :=
  .next (if s.ungateDue q then s.askQuad q else s)

/-- 1 µs has passed since the last condition of R34 ended. -/
def State.gateDue (s : State) (q : Nat) : Bool :=
  s.clk.qrun.getD q false && !s.quadNeeds q
    && (match s.clk.qidle.getD q none with | some t => decide (800 ≤ elapsed t s.now) | none => false)

/-- QUADRANT_GATE_CLOSE (R36): 1 µs after the last condition of R34 has ended, the quadrant's fast clock gates. -/
def execQuadrantGateClose (q : Nat) (s : State) : Host.Outcome State Fault Refusal :=
  .next (if s.gateDue q then
    ({ s with clk := { s.clk with qrun := setAt s.clk.qrun q false, qidle := setAt s.clk.qidle q none } } : State).inCycle
      (fun m => { m with gates := insertNat q m.gates })
  else s)

/-- The quadrants whose last condition has ended since the previous look take the present time as that end, and those with a
condition forget it. -/
def State.markIdle (s : State) : State :=
  { s with clk := { s.clk with qidle := s.clk.qidle.mapIdx (fun q o =>
      if s.clk.qrun.getD q false && !s.quadNeeds q then some (o.getD s.now) else none) } }

/-- The latency tolerance that the device reports, in µs (R273): 100 while a quadrant's fast clock runs, else 3,000; R273 names ARMED,
DORMANT and VIGIL for it, and the other modes with every quadrant gated are the model's choice (log entry 50). -/
def State.latencyTolerance (s : State) : Nat := if s.clk.qrun.any id then 100 else 3000

end Sys2Proof.Machine
end

