-- ==== Sys2Proof/Machine/Hif.lean ====
section
/-! DEFINITION. The host link (chapter 10): resets and events of the PCIe link, host silence, failed DMA requests and MSI-X
controls. -/

namespace Sys2Proof.Machine

/-! Resets of the host interface (R266, Table 10.3) -/

/-- Configuration space at its reset values, with the MSI-X structures (Table 10.2). -/
def State.configReset (s : State) : State :=
  let s : State := { s with hif := { s.hif with bme := false, msixEn := false, fmask := false, d3 := false, ctl := PciCtl.initial,
                                                vecPend := List.replicate 8 false } }
  (upTo 8).foldl (fun (s : State) v =>
    (upTo 4).foldl (fun (s : State) i => s.putWord (0x1F000 + 16 * v + 4 * i) (resetWord (0x1F000 + 16 * v + 4 * i))) s) s

/-- The ring engine is disabled; the ring configuration is kept. -/
def State.engineOff (s : State) : State :=
  let s : State := s.set F.HIF_RCTRL_EN 0
  { s with hif := { s.hif with turn := none, dbReads := 0 } }

/-- PERST_N, hot reset, link disable or Function Level Reset; a PCIe session ends (R432). -/
def State.hostReset (s : State) : State := (s.configReset.engineOff).endPcieSession

/-! The data link (R267) -/

/-- The newest n TLPs were not acknowledged; what each carried is kept or counted as lost. -/
def State.unacked (n : Nat) (s : State) : State :=
  let l := s.hif.tlps.take n
  let s : State := { s with hif := { s.hif with tlps := [] } }
  l.foldl (fun (s : State) x => s.takeBack x) s

/-- The data link leaves DL_Active (R267). -/
def State.linkDown (n : Nat) (s : State) : State :=
  let s : State := s.unacked n
  let s : State := { s with hif := { s.hif with up := false, speed := 0, width := 0, l1 := false, l12 := false, dbReads := 0 } }
  let s : State := s.count F.HIF_LINKDN_CNT_COUNT
  let s : State := s.alarm 16 0 (s.get F.HIF_LINKDN_CNT_COUNT) 0
  s.endPcieSession.fallbackCause 1

/-- PERST_N, hot reset and link disable take the data link out of DL_Active besides (R266). How many of the newest TLPs were not
acknowledged then is a free value (log entry 4). -/
def State.linkReset (s : State) : State :=
  let s : State := s.hostReset
  if s.hif.up then (s.draw.2).linkDown (s.draw.1.toNat % (s.hif.tlps.length + 1)) else s

/-- PERST_ASSERT (R266): PERST_N asserts, configuration space resets, and the ring engine is disabled. -/
def execPerstAssert (s : State) : Host.Outcome State Fault Refusal :=
  .next (let s : State := s.linkReset; { s with hif := { s.hif with perst := true } })

/-- PERST_N is deasserted: the device releases WAKE_N (R272). -/
def execPerstDeassert (s : State) : Host.Outcome State Fault Refusal :=
  .next { s with hif := { s.hif with perst := false }, sys := { s.sys with wakeN := false } }

/-- HOT_RESET (R266): A hot reset or link disable resets configuration space and disables the ring engine. -/
def execHotReset (s : State) : Host.Outcome State Fault Refusal := .next s.linkReset

/-- FUNCTION_LEVEL_RESET (R266): A Function Level Reset resets configuration space and disables the ring engine. -/
def execFunctionLevelReset (s : State) : Host.Outcome State Fault Refusal := .next s.hostReset

/-- DATA_LINK_DOWN (R267): The data link leaves DL_Active, and the ring engine stops, an alarm is placed and the fallback cause acts. -/
def execDataLinkDown (unacked : Nat) (s : State) : Host.Outcome State Fault Refusal :=
  .next (if s.hif.up then s.linkDown unacked else s)

/-- The data link is in DL_Active again, at a speed and a width of Table 10.1: a stopped ring engine resumes (R266), and withheld
messages go out. Without the supplies of the link it stays down (R270). -/
def execDataLinkUp (speed width : Nat) (s : State) : Host.Outcome State Fault Refusal :=
  .next (if s.hif.up || s.hif.perst || s.hif.cold || !(1 ≤ speed && speed ≤ 4 && 1 ≤ width && width ≤ 2) then s
  else ({ s with hif := { s.hif with up := true, speed := speed % 16, width := width % 4 } } : State).flushMessages)

/-- Bus Master Enable is cleared, or D3hot is entered, which ends a PCIe session (R266, R432). -/
def execBusMasterDisable (d3 : Bool) (s : State) : Host.Outcome State Fault Refusal :=
  .next (if d3 then ({ s with hif := { s.hif with d3 := true, dbReads := 0 } } : State).endPcieSession
  else { s with hif := { s.hif with bme := false, dbReads := 0 } })

/-- D0 is restored from D3hot, or else Bus Master Enable is set: a stopped ring engine resumes once both hold, and withheld messages go
out (log entry 50). -/
def execBusMasterEnable (s : State) : Host.Outcome State Fault Refusal :=
  .next ((if s.hif.d3 then { s with hif := { s.hif with d3 := false } }
    else { s with hif := { s.hif with bme := true } } : State).flushMessages)

/-! Host silence (R268) -/

/-- SILENCE ms have passed without the host being heard, in a mode that considers it (R416). -/
def State.silenceDue (s : State) : Bool :=
  let lim := s.get F.HIF_SILENCE_SILENCE
  s.sys.mode.operating && !s.hif.silent && lim != 0 && decide (lim * 800000 ≤ elapsed s.hif.heardAt s.now)

/-- HOST_SILENCE (R268): SILENCE ms pass without the host being heard, and a fallback cause acts. -/
def execHostSilence (s : State) : Host.Outcome State Fault Refusal :=
  .next (if s.silenceDue then (({ s with hif := { s.hif with silent := true } } : State).fallbackCause 2) else s)

/-- A write of HIF_HEARTBEAT counts even while the port is busy, although the write itself is dropped. -/
def State.heartbeat (p : Port) (s : State) : State := s.heard.onWrite p id

/-- HIF_HEARTBEAT (R268): A write to HIF_HEARTBEAT counts the host as heard. -/
def execHifHeartbeat (p : Port) (_v : Word) (s : State) : Host.Outcome State Fault Refusal := .next (s.heartbeat p)

/-! Failed DMA requests (R269) -/

/-- HIF_DMAERR keeps the first failure until VALID is cleared. -/
def State.dmaRecord (ring cause : Nat) (s : State) : State :=
  if s.flag F.HIF_DMAERR_VALID then s
  else s.putWord R.HIF_DMAERR (Word.ofN (place 0 5 ring + place 5 3 cause + 2 ^ 31))

/-- A failure on a ring's own memory stops that ring; one on the doorbell line (30) or the status line (31) stops all. -/
def State.dmaFail (ring cause : Nat) (s : State) : State :=
  let s : State := s.dmaRecord ring cause
  let s : State := if ring < 19 then s.stopRing ring cause else
    let s : State := { s with hif := { s.hif with dbReads := if ring = 30 then s.hif.dbReads - 1 else s.hif.dbReads } }
    (upTo 19).foldl (fun (s : State) r => if s.ringLive r then s.stopRing r cause else s) s
  s.alarm 17 ring cause 0

/-- DMA_FAILURE (R269): A failed ring DMA stops the ring or every ring, is recorded in HIF_DMAERR, and places alarm 17. -/
def execDmaFailure (ring cause : Nat) (s : State) : Host.Outcome State Fault Refusal :=
  .next (if s.ringEngine && (decide (19 ≤ ring) || s.ringLive ring) then s.dmaFail ring cause else s)

/-! MSI-X controls (R265) -/

/-- Vector v is unmasked: a delivery held by its pending bit is sent, once. -/
def State.unmask (v : Nat) (s : State) : State :=
  let s : State := s.putWord (msixControl v) (setBits (s.word (msixControl v)) 0 1 0)
  if s.hif.vecPend.getD v false then s.message v else s

/-- BAR0 answers accesses: neither BOOT, DORMANT, VIGIL nor OFF. -/
def Mode.barOpen (m : Mode) : Bool := !(m == .boot || m == .dormant || m == .vigil || m == .off)

/-- MSIX_UNMASK (R265): Unmasking a vector with its pending bit set sends one message. -/
def execMsixUnmask (v : Nat) (s : State) : Host.Outcome State Fault Refusal :=
  .next (if s.sys.mode.barOpen then s.unmask v else s)

/-- MSI-X Enable is set in configuration space: deliveries held while it was 0 go out as messages, one for each vector that is not
masked. -/
def execMsixEnable (s : State) : Host.Outcome State Fault Refusal :=
  .next (({ s with hif := { s.hif with msixEn := true } } : State).flushMessages)

end Sys2Proof.Machine
end

