-- ==== Sys2Proof/Machine/SlurOps.lean ====
section
/-! DEFINITION. The start of slur link training (R465), for every entry to ARMED. -/

namespace Sys2Proof.Machine

/-- The slur link is present and in use. -/
def State.slurOn (s : State) : Bool := s.part.slur && s.flag F.SET_CFG_EN

/-- An attempt begins: the leader trains its downstream hop, a follower waits for the hop above it. -/
def State.beginTraining (s : State) : State :=
  if s.slurOn then
    { s with slur := { s.slur with state := 1, sending := !s.flag F.SET_CFG_ROLE, step := 0, since := s.now, stepAt := s.now,
                                    rtSum := 0, rtN := 0, assign := none, toEcho := none } }
  else s

/-- The link rests: no training, no loss watched. It does so outside ARMED to SAFESTOP (log entry 59), while the leader sleeps
(R469), and with EN = 0. -/
def Slur.rest (k : Slur) : Slur := { k with state := 0, sending := false, lostAt := none, owes := false, assign := none, toEcho := none }

end Sys2Proof.Machine
end

