-- ==== Sys2Proof/Machine/Nib.lean ====
section
/-! DEFINITION. The Nib engines: strokes, FIFOs, stalls, control, and changes of a running program (chapter 14). -/

namespace Sys2Proof.Machine

/-- Engine n may run in the present mode (R364). -/
def State.nibMode (s : State) (n : Nat) : Bool :=
  s.nibPresent n && s.flag (F.NIB_CFG_EN n)
    && (s.sys.mode == .setup || s.sys.mode == .maint || s.sys.mode.engine
      || (s.sys.mode == .safestop && s.flag (F.NIB_CFG_SAFE_RUN n)))

/-- WIDTH of R368: 1 to 32. -/
def State.nibWidth (s : State) (n : Nat) : Nat := s.get (F.NIB_CFG_WIDTH n) + 1

/-- The stroke at an index: bits [63:0] (Table 14.1). A fetch in the fabric cycle of a write takes the old content (R374). -/
def State.strokeAt (s : State) (n i : Nat) : Nat :=
  (s.wordAsWas (strokeAddr n i 0)).toNat + (s.wordAsWas (strokeAddr n i 1)).toNat * 2 ^ 32

/-- Bits [lo + w - 1 : lo] of a stroke. -/
def strokeBits (k lo w : Nat) : Nat := (k >>> lo) % 2 ^ w

/-- Input INk after EN and INV, from the synchronised pin levels. -/
def State.nibIn (s : State) (n : Nat) (ins : List Bool) (k : Nat) : Bool :=
  let w := s.word (R.NIB_IN n)
  w.bit (8 * k + 5) && (ins.getD k false != w.bit (8 * k + 6))

/-- A condition of Table 14.2, from what the previous stroke left. -/
def State.nibCond (s : State) (n : Nat) (ins : List Bool) (c : Nat) : Bool :=
  let x := s.nib n
  match c with
  | 4 => decide (s.get (F.NIB_LIM_LIM n) ≤ x.sc)
  | 5 => x.bc == 0
  | 6 => false
  | 7 => true
  | k => s.nibIn n ins k

/-- The capacity of each FIFO. -/
def nibFifo : Nat := 8

/-- Source 28 + n (R377). -/
def State.nibIrq (n : Nat) (s : State) : State := s.raise (28 + n)

/-- A push into the RX FIFO (R371, R377): without room the word is dropped and RX_OVER is set. -/
def State.nibPush (n : Nat) (w : Word) (s : State) : State :=
  let x := s.nib n
  if x.rx.length < nibFifo then
    let s : State := s.modNib n (fun x => { x with rx := x.rx ++ [w] })
    let thr := s.get (F.NIB_CFG_RXTHR n)
    if thr ≠ 0 ∧ x.rx.length + 1 = thr then s.nibIrq n else s
  else
    let s : State := s.set (F.NIB_STAT_RX_OVER n) 1
    if s.flag (F.NIB_CFG_IRQ_ERR n) then s.nibIrq n else s

/-- A shift-out stroke at BC = 0 pulls a word; an empty FIFO gives 32 copies of FILL and sets TX_UNDER (R368, R371). -/
def State.nibPull (n : Nat) (s : State) : State :=
  match (s.nib n).tx with
  | w :: l => s.modNib n (fun x => { x with tx := l, sr := w.toNat })
  | [] =>
    let fill := if s.flag (F.NIB_CFG_FILL n) then 0xFFFFFFFF else 0
    let s : State := (s.modNib n (fun x => { x with sr := fill })).set (F.NIB_STAT_TX_UNDER n) 1
    if s.flag (F.NIB_CFG_IRQ_ERR n) then s.nibIrq n else s

/-- Shift in one bit (R368). -/
def State.shiftIn (n : Nat) (bit : Bool) (s : State) : State :=
  let x := s.nib n; let w := s.nibWidth n
  let sr := if s.flag (F.NIB_CFG_SHDIR n) then x.sr / 2 ||| b2n bit * 2 ^ (w - 1) else (x.sr * 2 + b2n bit) % 2 ^ 32
  if x.bc = w - 1 then (s.modNib n (fun x => { x with sr := sr, bc := 0 })).nibPush n (Word.ofN (sr % 2 ^ w))
  else s.modNib n (fun x => { x with sr := sr, bc := x.bc + 1 })

/-- Shift out one bit: ink pin SOUT takes it (R368, R370). -/
def State.shiftOut (n : Nat) (s : State) : State :=
  let s : State := if (s.nib n).bc = 0 then s.nibPull n else s
  let x := s.nib n; let w := s.nibWidth n
  let lsb := s.flag (F.NIB_CFG_SHDIR n)
  let bit := if lsb then x.sr.testBit 0 else x.sr.testBit (w - 1)
  let sr := if lsb then x.sr / 2 else x.sr * 2 % 2 ^ 32
  s.modNib n (fun x => { x with sr := sr, bc := (x.bc + 1) % w, ink := setAt x.ink (s.get (F.NIB_CFG_SOUT n)) bit })

/-- The counter SC (R369). -/
def State.nibCount (n cnt : Nat) (s : State) : State :=
  match cnt with
  | 1 => s.modNib n (fun x => { x with sc := min (x.sc + 1) 0xFFFF })
  | 2 => s.modNib n (fun x => { x with sc := 0 })
  | 3 => (s.nibPush n (Word.ofN (s.nib n).sc)).modNib n (fun x => { x with sc := 1 })
  | _ => s

/-- Ink pin k of engine n is in use. -/
def State.inkEn (s : State) (n k : Nat) : Bool :=
  (s.word (if k < 4 then R.NIB_INKA n else R.NIB_INKB n)).bit (8 * (k % 4) + 5)

/-- INKM and INKV (R370); in a shift-out stroke SOUT keeps the shifted bit. -/
def State.inkStep (n k : Nat) (s : State) : State :=
  let out := strokeBits k 35 2 = 2
  s.modNib n (fun x => { x with ink := x.ink.mapIdx (fun i l =>
    if strokeBits k (56 + i) 1 = 1 ∧ s.inkEn n i ∧ ¬(out ∧ i = s.get (F.NIB_CFG_SOUT n)) then strokeBits k (48 + i) 1 == 1 else l) })

/-- The next state of a stroke (R367): an explicit index, or the sequential advance with its wrap from the live BOTTOM, at
which waiting margins become live (R376). -/
def State.nibNext (n ns : Nat) (s : State) : State :=
  let x := s.nib n
  if ns.testBit 6 then
    if x.st = x.bottom then
      let t := if x.mpend then s.get (F.NIB_MARGIN_TOP n) else x.top
      let b := if x.mpend then s.get (F.NIB_MARGIN_BOTTOM n) else x.bottom
      s.modNib n (fun x => { x with st := t, top := t, bottom := b, mpend := false })
    else s.modNib n (fun x => { x with st := (x.st + 1) % 64 })
  else s.modNib n (fun x => { x with st := ns % 64 })

/-- The stroke needs a TX word, and there is none. -/
def State.txShort (s : State) (n k : Nat) : Bool := strokeBits k 35 2 == 2 && (s.nib n).bc == 0 && (s.nib n).tx.isEmpty

/-- The RX FIFO lacks room for the words that the stroke pushes. -/
def State.rxShort (s : State) (n k : Nat) : Bool :=
  let pushes := b2n (strokeBits k 35 2 == 1 && (s.nib n).bc == s.nibWidth n - 1) + b2n (strokeBits k 39 2 == 3)
  decide (0 < pushes) && decide (nibFifo < (s.nib n).rx.length + pushes)

/-- The FIFO words that a stroke needs are missing where the engine stalls for them (R371). -/
def State.nibStalls (s : State) (n k : Nat) : Bool :=
  (s.flag (F.NIB_CFG_TXSTALL n) && s.txShort n k) || (s.flag (F.NIB_CFG_RXSTALL n) && s.rxShort n k)

/-- One stroke k (R367), or its stall. -/
def State.strokeStep (n k : Nat) (ins : List Bool) (s : State) : State :=
  if s.nibStalls n k then s.modNib n (fun x => { x with stalled := true })
  else
    let a := s.nibCond n ins (strokeBits k 28 3); let b := s.nibCond n ins (strokeBits k 32 3)
    let ns := strokeBits k (7 * (2 * b2n b + b2n a)) 7
    let s : State := s.modNib n (fun x => { x with stalled := false })
    let s : State := match strokeBits k 35 2 with
      | 1 => s.shiftIn n (s.nibIn n ins (strokeBits k 37 2))
      | 2 => s.shiftOut n
      | _ => s
    let s : State := (s.nibCount n (strokeBits k 39 2)).inkStep n k
    let s : State := s.nibNext n ns
    if strokeBits k 41 1 = 1 then s.nibIrq n else s

/-- An engine cycle of engine n is due: (DIV + 1) × 10 ns after the one before it, or at the first after a start (R365). -/
def State.cycleDue (s : State) (n : Nat) : Bool := decide (tbDiff (s.nib n).due s.now ≤ 0)

/-- The length of an engine cycle in tb. -/
def State.cycleTb (s : State) (n : Nat) : Nat := 8 * (s.get (F.NIB_LIM_DIV n) + 1)

/-- The engine cycle that starts now: what the host's FIFO accesses of the same fabric cycle stand on is kept (R372). -/
def State.cycleStart (n : Nat) (s : State) : State :=
  let x := s.nib n
  (s.modNib n (fun x => { x with due := s.now + BitVec.ofNat 40 (s.cycleTb n) })).inCycle
    (fun m => { m with nibs := assocPut n (x.tx.length, x.rx.length) m.nibs })

/-- The stroke k of the cycle. One that lacks a FIFO word or room waits until the fabric cycle ends, because a host access of that cycle is
applied first (R372); with its stall setting it reads STALLED meanwhile. -/
def State.strokeNow (n k : Nat) (ins : List Bool) (s : State) : State :=
  if s.txShort n k || s.rxShort n k then
    s.modNib n (fun x => { x with todo := some (k, ins), stalled := s.nibStalls n k })
  else s.strokeStep n k ins

/-- An engine cycle: the stroke at STATE with the pin levels of IN0 to IN3 (log entry 54). -/
def execStroke (n : Nat) (inputs : List Bool) (s : State) : Host.Outcome State Fault Refusal :=
  .next (if s.nibMode n && (s.nib n).run && s.cycleDue n then (s.cycleStart n).strokeNow n (s.strokeAt n (s.nib n).st) inputs else s)

/-- The fabric cycle ends: a stroke that waited for the host's accesses stalls, or executes. STOP has abandoned a stalled one (R373). -/
def State.strokeLate (n : Nat) (s : State) : State :=
  match (s.nib n).todo with
  | some (k, ins) =>
    let s : State := s.modNib n (fun x => { x with todo := none })
    if (s.nib n).run || !s.nibStalls n k then s.strokeStep n k ins else s
  | none => s

/-- The end of a fabric cycle for all engines. -/
def State.strokesLate (s : State) : State :=
  if s.nibs.any (fun x => x.todo.isSome) then (upTo 8).foldl (fun (s : State) n => s.strokeLate n) s else s

/-! Control (R373) -/

/-- The FIFOs of engine n have been emptied in this fabric cycle. -/
def State.fifosFresh (n : Nat) (s : State) : State := s.inCycle (fun m => { m with nibs := m.nibs.filter (fun e => e.1 != n) })

/-- START. -/
def State.nibStartAct (n : Nat) (s : State) : State :=
  if s.nibMode n then
    let e := s.get (F.NIB_MARGIN_ENTRY n)
    (s.modNib n (fun x => { x with run := true, stalled := false, todo := none, due := s.now, st := e, sr := 0, bc := 0, sc := 0,
                                   tx := [], rx := [] })).fifosFresh n
  else s

/-- A write of NIB_CTRLn: START alone where STOP or RESUME come with it; FLUSH at any time. -/
def State.nibCtrl (n v : Nat) (s : State) : State :=
  let s : State := if v.testBit 0 then s.nibStartAct n
    else
      let s : State := if v.testBit 1 then s.modNib n (fun x => { x with run := false, stalled := false }) else s
      if v.testBit 2 && s.nibMode n && !(s.nib n).run then s.modNib n (fun x => { x with run := true, due := s.now }) else s
  if v.testBit 3 then (s.modNib n (fun x => { x with tx := [], rx := [] })).fifosFresh n else s

/-- A write of NIB_CTRLn from a port, with one bit set for certain. -/
def State.nibWrite (s : State) (p : Port) (n bit : Nat) (v : Word) : State :=
  s.busWrite p (R.NIB_CTRL n) v (fun s => s.nibCtrl n (v.toNat ||| bit))

/-- NIB_START (R373): A write of START runs the engine from ENTRY with the FIFOs emptied. -/
def execNibStart (p : Port) (n : Nat) (v : Word) (s : State) : Host.Outcome State Fault Refusal := .next (s.nibWrite p n 1 v)
/-- NIB_STOP (R373): A write of STOP halts the engine at the end of the stroke in progress. -/
def execNibStop (p : Port) (n : Nat) (v : Word) (s : State) : Host.Outcome State Fault Refusal := .next (s.nibWrite p n 2 v)
/-- NIB_RESUME (R373): A write of RESUME runs a stopped engine from STATE. -/
def execNibResume (p : Port) (n : Nat) (v : Word) (s : State) : Host.Outcome State Fault Refusal := .next (s.nibWrite p n 4 v)
/-- NIB_FLUSH (R373): A write of FLUSH empties both FIFOs. -/
def execNibFlush (p : Port) (n : Nat) (v : Word) (s : State) : Host.Outcome State Fault Refusal := .next (s.nibWrite p n 8 v)

/-- At entry to ARMED the AUTO engines start (R364). -/
def State.nibAuto (s : State) : State :=
  (upTo 8).foldl (fun (s : State) n => if s.flag (F.NIB_CFG_AUTO n) then s.nibStartAct n else s) s

/-- What every entry to ARMED starts: AUTO timers and engines (R349, R364) and slur link training (R465). -/
def State.armedStart (s : State) : State := (s.tmrAuto.nibAuto).beginTraining

/-- armedStart where a step has entered ARMED. -/
def State.armedIf (old : Mode) (s : State) : State := if s.sys.mode = .armed ∧ old ≠ .armed then s.armedStart else s

/-- A COMMIT that changes an engine's set-up stops it and starts a running one again under START (R373). -/
def State.nibRestart (n : Nat) (s : State) : State :=
  if (s.nib n).run then (s.modNib n (fun x => { x with run := false, stalled := false, todo := none })).nibStartAct n else s

/-- Entry to DORMANT or VIGIL: state, shift register, counter and FIFOs are lost (R364). -/
def State.nibSleep (s : State) : State := { s with nibs := s.nibs.map (fun x => { Nib.initial with ink := x.ink, top := x.top, bottom := x.bottom }) }

/-- The margins in force follow the image at BOOT. -/
def State.nibMargins (s : State) : State :=
  { s with nibs := s.nibs.mapIdx (fun n x => { x with top := s.get (F.NIB_MARGIN_TOP n), bottom := s.get (F.NIB_MARGIN_BOTTOM n),
                                                      mpend := false, ink := s.nibIdle n }) }

/-! FIFOs (R372) -/

/-- The words that the TX and RX FIFOs of engine n hold for a host access, which comes before an engine access of the same fabric
cycle. -/
def State.fifoLevels (s : State) (n : Nat) : Nat × Nat :=
  (assocGet n s.regs.same.nibs).getD ((s.nib n).tx.length, (s.nib n).rx.length)

/-- The host has put a TX word or taken an RX word. -/
def State.fifoNote (n : Nat) (l : Nat × Nat) (s : State) : State :=
  if (assocGet n s.regs.same.nibs).isSome then s.inCycle (fun m => { m with nibs := assocPut n l m.nibs }) else s

/-- A write of NIB_TXn: a full FIFO drops the word. -/
def State.txWrite (p : Port) (n : Nat) (v : Word) (s : State) : State :=
  s.busWrite p (R.NIB_TX n) v (fun s =>
    let l := s.fifoLevels n
    if l.1 < nibFifo then (s.modNib n (fun x => { x with tx := x.tx ++ [v] })).fifoNote n (l.1 + 1, l.2)
    else s.count F.HIF_BADACC_CNT_COUNT)

/-- NIB_TX_WRITE (R372): A write to NIB_TXn appends a word to the TX FIFO, or is dropped when the FIFO is full. -/
def execNibTxWrite (p : Port) (n : Nat) (v : Word) (s : State) : Host.Outcome State Fault Refusal := .next (s.txWrite p n v)

/-- A read of NIB_RXn takes the head of the FIFO; an empty one returns 0. -/
def State.rxRead (p : Port) (n : Nat) (s : State) : State :=
  s.onRead p (fun s =>
    if !s.nibPresent n then s.answer 0
    else
      let h := s.fifoLevels n
      match (s.nib n).rx with
      | w :: l =>
        if h.2 = 0 then (s.count F.HIF_BADACC_CNT_COUNT).answer 0
        else ((s.modNib n (fun x => { x with rx := l })).fifoNote n (h.1, h.2 - 1)).answer w.toNat
      | [] => (s.count F.HIF_BADACC_CNT_COUNT).answer 0)

/-- NIB_RX_READ (R372): A read of NIB_RXn returns and removes the head of the RX FIFO. -/
def execNibRxRead (p : Port) (n : Nat) (s : State) : Host.Outcome State Fault Refusal := .next (s.rxRead p n)

/-! Changing a program (R374 to R376) -/

/-- Each access to NIB_SDATAHIn advances SIDX. -/
def State.sidxAdvance (n : Nat) (s : State) : State := s.set (F.NIB_SIDX_IDX n) ((s.get (F.NIB_SIDX_IDX n) + 1) % 64)

/-- A write of NIB_SDATALOn only holds the word, by the installer (R374). -/
def State.strokeLo (p : Port) (n : Nat) (v : Word) (s : State) : State :=
  if s.isInstaller p then s.modNib n (fun x => { x with loHold := v })
  else if (s.nib n).loHold = v then s else s.deny p

/-- A write of NIB_SDATAHIn places the whole stroke in the live and the shadow table. -/
def State.strokeHi (p : Port) (n : Nat) (v : Word) (s : State) : State :=
  let i := s.get (F.NIB_SIDX_IDX n)
  let s : State := if s.isInstaller p then
      let r := s.roleOf p
      (s.putBoth (strokeAddr n i 0) (s.nib n).loHold r).putBoth (strokeAddr n i 1) v r
    else if s.word (strokeAddr n i 1) = v then s else s.deny p
  s.sidxAdvance n

/-- STROKE_WRITE (R374): A write of NIB_SDATAHIn places a whole stroke in the table and advances SIDX. -/
def execStrokeWrite (p : Port) (n : Nat) (v : Word) (s : State) : Host.Outcome State Fault Refusal :=
  .next (s.onWrite p (fun s => if s.nibPresent n then s.strokeHi p n v else s))

/-- A read of NIB_SDATALOn latches bits [63:32] for the read of NIB_SDATAHIn. -/
def State.strokeRead (p : Port) (n : Nat) (s : State) : State :=
  s.onRead p (fun s =>
    if !s.nibPresent n then s.answer 0
    else
      let i := s.get (F.NIB_SIDX_IDX n)
      let s : State := s.modNib n (fun x => { x with hiLatch := s.word (strokeAddr n i 1) })
      s.answer (s.word (strokeAddr n i 0)).toNat)

/-- STROKE_READ_LATCH (R374): A read of NIB_SDATALOn latches the stroke's upper bits. -/
def execStrokeReadLatch (p : Port) (n : Nat) (s : State) : Host.Outcome State Fault Refusal := .next (s.strokeRead p n)

/-- A write of NIB_MARGINn by the installer: live and shadow at once; a running engine takes TOP and BOTTOM at its next
wrap. TOP above BOTTOM is dropped and counted (R376). -/
def State.marginSet (p : Port) (n : Nat) (v : Word) (s : State) : State :=
  let w := Word.ofN (v.toNat &&& 0x3F3F3F)
  if v.bits 8 6 < v.bits 0 6 then s.count F.HIF_BADACC_CNT_COUNT
  else if s.isInstaller p then
    let s : State := s.putBoth (R.NIB_MARGIN n) w (s.roleOf p)
    if (s.nib n).run then s.modNib n (fun x => { x with mpend := true })
    else s.modNib n (fun x => { x with top := w.bits 0 6, bottom := w.bits 8 6, mpend := false })
  else if w = s.word (R.NIB_MARGIN n) then s else s.deny p

/-- MARGIN_WRITE (R376): A write of NIB_MARGINn takes effect at once or waits for the next wrap. -/
def execMarginWrite (p : Port) (n : Nat) (v : Word) (s : State) : Host.Outcome State Fault Refusal :=
  .next (s.onWrite p (fun s => if s.nibPresent n then s.marginSet p n v else s))

/-- What engine n drives on its ink pin k (R364, R370): nothing where the pin is not in use, released as an open drain, or from an entry to
DORMANT or VIGIL until BOOT ends. -/
def State.inkOut (s : State) (n k : Nat) : Option Bool :=
  let w := s.word (if k < 4 then R.NIB_INKA n else R.NIB_INKB n)
  let l := (s.nib n).ink.getD k false
  if s.nibPresent n && s.flag (F.NIB_CFG_EN n) && s.inkEn n k && (s.sys.mode.setupOrOn) && !(w.bit (8 * (k % 4) + 6) && l) then some l
  else none

/-- NIB_STATn, but for its sticky flags. -/
def State.nibStat (s : State) (n : Nat) : Nat :=
  let x := s.nib n
  b2n x.run + 2 * b2n x.stalled + 16 * b2n x.mpend + place 8 4 x.tx.length + place 12 4 x.rx.length + place 16 6 x.st + place 24 5 x.bc

end Sys2Proof.Machine
end

