-- ==== Sys2Proof/Machine/Whl.lean ====
section
/-! DEFINITION. The wheel tracker and the angle clock (chapters 2 and 3): edge classes, sync transitions, cam phase, the
predictor, clock corrections, tooth errors and learning. -/

namespace Sys2Proof.Machine

/-- N and M of WHL_TEETH, and the number of real teeth (R43). -/
def State.teethN (s : State) : Nat := s.get F.WHL_TEETH_N
def State.teethM (s : State) : Nat := s.get F.WHL_TEETH_M
/-- Real teeth of the wheel (R43). -/
def State.teeth (s : State) : Nat := s.teethN - s.teethM

/-- Angle of position k in the first revolution, in at, not reduced modulo the cycle (R43). -/
def State.posAngle (s : State) (k : Nat) : Nat := s.get F.WHL_TOOTH0_ANG + k * revAt / s.teethN

/-- The cycle angle of position k in revolution rev. -/
def State.toothAt (s : State) (k : Nat) (rev : Bool) : Nat := (s.posAngle k + if rev then revAt else 0) % cycleAt

/-- r = interval × 256 / P, truncated to 8.8, with P in 1/16 tb (R44). A ratio of 256 and more, or against no P, does not fit:
a free value (log entry 43). -/
def ratio (interval p : Nat) : Nat :=
  if p ≠ 0 ∧ interval * 4096 / p < 2 ^ 16 then interval * 4096 / p else (Config.wideR interval p).toNat

/-! Windows (R45, R46) -/

def State.twLo (s : State) (crk : Bool) : Nat := s.get (if crk then F.WHL_CRK_TW_LO else F.WHL_RUN_TW_LO)
def State.twHi (s : State) (crk : Bool) : Nat := s.get (if crk then F.WHL_CRK_TW_HI else F.WHL_RUN_TW_HI)
def State.provHi (s : State) (crk : Bool) : Nat := s.get (if crk then F.WHL_CRK_PROV_PROV_HI else F.WHL_RUN_PROV_PROV_HI)
def State.gapLo (s : State) (crk : Bool) : Nat :=
  s.get (if s.teethM = 2 then (if crk then F.WHL_CRK_GAP2_LO else F.WHL_RUN_GAP2_LO)
         else (if crk then F.WHL_CRK_GAP1_LO else F.WHL_RUN_GAP1_LO))
def State.gapHi (s : State) (crk : Bool) : Nat :=
  s.get (if s.teethM = 2 then (if crk then F.WHL_CRK_GAP2_HI else F.WHL_RUN_GAP2_HI)
         else (if crk then F.WHL_CRK_GAP1_HI else F.WHL_RUN_GAP1_HI))

/-- Edge classes, with the codes of Table 11.10. -/
inductive EdgeClass where
  | normal | gap | missed | bad | gapMismatch | provisional | reject
  deriving DecidableEq, Repr

/-- CLASS codes of the tooth record (R64). -/
def EdgeClass.code : EdgeClass → Nat
  | .normal => 0 | .gap => 1 | .missed => 2 | .bad => 3 | .gapMismatch => 4 | .provisional => 5 | .reject => 6

/-- Table 2.2. -/
def State.classKnown (s : State) (atGap : Bool) (r : Nat) : EdgeClass :=
  let c := s.whl.crankSet
  if r < s.twLo c then .reject
  else if r < s.provHi c then .provisional
  else if atGap then (if s.gapLo c ≤ r ∧ r ≤ s.gapHi c then .gap else .gapMismatch)
  else if r ≤ s.twHi c then .normal
  else if s.get F.WHL_MISS_LO ≤ r ∧ r ≤ s.get F.WHL_MISS_HI then .missed
  else .bad

/-- R51: the classes of SEEK after learning, under the crank set. -/
def State.classSeek (s : State) (r : Nat) : EdgeClass :=
  if r < s.twLo true then .reject
  else if r < s.provHi true then .provisional
  else if s.gapLo true ≤ r ∧ r ≤ s.gapHi true then .gap
  else if r ≤ s.twHi true then .normal
  else .bad

/-- The next expected position is the gap's end, tooth 0. -/
def State.atGap (s : State) : Bool := decide (s.teeth ≤ s.whl.pos + 1)

/-! Trace (R64, Table 11.10) -/

/-- Word 3 of a tooth or sync record: the clock angle and the cycle tag. -/
def State.clockWord (s : State) : Nat := s.ang.at' + place 22 8 s.ang.tag

/-- A tooth record. -/
def State.toothTrace (c : EdgeClass) (r : Nat) (t : Tb) (s : State) : State :=
  let pos := if s.clockRuns then s.whl.pos else 0
  s.trace 0 0 (pos + c.code * 256) t r s.clockWord

/-! Sync transitions (Table 2.3, R54 to R56) -/

/-- The tracker moves to another state at a stamp; input is the INPUT code of Table 11.10. Loss of sync raises source 12
and alarm 12, but for one that R469 keeps quiet, and acts on the store (R107); SUSPECT raises 13, an acquisition 14, a cam
phase change 15. -/
def State.syncAs (quiet : Bool) (dst : Sync) (input : Nat) (t : Tb) (s : State) : State :=
  let frm := s.whl.sync
  if frm = dst then s
  else
    let ran := s.clockRuns
    let pos := s.whl.pos
    let s : State := { s with whl := { s.whl with sync := dst, ret := if dst = .suspect then frm else s.whl.ret,
                                                  susp := s.whl.susp || dst == .suspect } }
    let stops := ran && (dst == .idle || dst == .seek)
    let s : State := if stops then
        let s : State := if quiet then s else ((s.alarm 12 frm.code pos 0).raise 12)
        let s : State := s.endClamp.syncLoss
        let s : State := { s with whl := { s.whl with phaseKnown := false, judge := none, agree := 0, loss := 0 } }
        s.closeAll 7 false (fun k => s.get (accWsrc k) == 2)
      else s
    let s : State := if dst = .suspect then (s.raise 13).startCoast else s
    let s : State := if frm = .suspect then s.endCoast else s
    let s : State := if (frm = .seek ∨ frm = .suspect) ∧ (dst = .half ∨ dst = .full) then s.raise 14 else s
    let s : State := if (frm = .half ∧ dst = .full) ∨ (frm = .full ∧ dst = .half) then s.raise 15 else s
    let s : State := if !ran && s.clockRuns then
        let s : State := s.modStore s.rejudge
        s.openAll (fun k => s.get (accWsrc k) == 2)
      else s
    let s : State := { s with ang := { s.ang with clean := 0, fresh := if s.ang.fresh = 0 then 0 else 2 * s.teeth,
                                                  steadyOk := s.ang.steadyOk && !stops, torsActive := s.ang.torsActive && dst == .full } }
    let s : State := s.trace 1 1 (frm.code + dst.code * 16 + input * 256) t 0 s.clockWord
    s.followSync

/-- A sync transition with its sources and alarm. -/
def State.sync (dst : Sync) (input : Nat) (t : Tb) (s : State) : State := s.syncAs false dst input t

/-- An edge is kept: the next interval runs from its stamp. -/
def State.kept (t : Tb) (s : State) : State := { s with whl := { s.whl with last := some t, stamp := some t } }

/-- SEEK begins with an edge as the first of learning (R55), or with none. -/
def State.seekFrom (t : Option Tb) (s : State) : State :=
  { s with whl := { s.whl with last := t, stamp := t.orElse (fun _ => s.whl.stamp), prov := none, ints := [], learnN := 0, learned := false, sinceCand := none, camSeek := [],
                               gaps := 0, pos := 0, rev := false, crankSet := true } }

/-! The predictor (R67 to R71) -/

/-- A signed 16-bit table entry D as the factor 65536 + D (R81). -/
def State.tableD (s : State) (i : Nat) : Nat := ((65536 : Int) + signed 16 (s.word (terrAddr i)).toNat).toNat

/-- The torsional table is active: TORS_EN is 1 and SYNC reads FULL, from the first gap after the entry to FULL (R82). -/
def State.torsOn (s : State) : Bool := s.flag F.WHL_ACLK_CTRL_TORS_EN && s.whl.sync == .full && s.ang.torsActive

/-- The torsional factor at cycle position c, where the table is active (R82). -/
def State.torsD (s : State) (c : Nat) : Nat := if s.torsOn then s.tableD (256 + c) else 65536

/-- e(k) with the torsional factor of revolution rev, in 2^-32. -/
def State.factor (s : State) (k : Nat) (rev : Bool) : Nat :=
  s.tableD k * s.torsD (k + if rev then s.teethN else 0)

/-- Weight W in 2^-32 of an interval of a class that ends at position k (R67). -/
def State.weight (s : State) (c : EdgeClass) (k : Nat) (rev : Bool) : Nat :=
  match c with
  | .gap => s.factor k rev * (s.teethM + 1)
  | .missed => s.factor (k - 1) rev + s.factor k rev
  | _ => s.factor k rev

/-- U = interval / W in 1/16 tb. The rule gives no rounding; the model truncates. A U that 28.4 does not hold is a free value
(log entry 43). -/
def normU (interval w : Nat) : Nat :=
  if w ≠ 0 ∧ interval * 16 * 2 ^ 32 / w < 2 ^ 32 then interval * 16 * 2 ^ 32 / w else (Config.wideU interval w).toNat

/-- The gain code of the set in force (R70). -/
def State.gain (s : State) : Nat := if s.whl.crankSet then s.get F.WHL_ACLK_CFG_G_CRANK else s.get F.WHL_ACLK_CFG_G_RUN

/-- q of R69 in 2^-16, held within Q_MIN and Q_MAX. A q that 2.16 does not hold, which takes a Q_MAX of 4.0 or more, or a
division by zero, is a free value (log entry 43). -/
def State.speedRatio (s : State) : Nat :=
  let u1 := s.ang.u1; let u2 := s.ang.u2
  let q := if u2 = 0 then (Config.wideQ u1 u2).toNat else u1 * 65536 / u2
  let q := max (s.get F.WHL_ACLK_QLIM_Q_MIN * 256) (min q (s.get F.WHL_ACLK_QLIM_Q_MAX * 256))
  if q < 2 ^ 18 then q else (Config.wideQ u1 u2).toNat

/-- R69: P in 1/16 tb for the position k' of revolution rev, and whether it saturated. -/
def State.predict (s : State) (k : Nat) (rev : Bool) : Nat × Bool :=
  let q := s.speedRatio
  let f := if s.gain = 0 then 65536 else if s.gain = 1 then isqrt (q * 65536) else q
  let p := (s.ang.u1 * f * s.factor k rev + 2 ^ 47) / 2 ^ 48
  if 0xFFFFFFFF < p then (0xFFFFFFFF, true) else (p, false)

/-! Moving the clock -/

/-- The cycle angle wraps forward (R77): the tag increments, captures restart (R60), and the cycle that ends stands to be
judged at the next accepted edge (R57), unless part of it was spent in SUSPECT (R60). -/
def State.wrapCycle (s : State) : State :=
  { s with ang := { s.ang with tag := (s.ang.tag + 1) % 256 },
           whl := { s.whl with camK := List.replicate 4 0, ref0 := false, ref1 := false, part := false, susp := s.whl.sync == .suspect,
                               judge := if s.whl.susp then none else some (s.whl.ref0, s.whl.ref1, s.whl.part) } }

/-- The clock moves by a signed distance in at (R75 to R77). -/
def State.moveClock (d : Int) (s : State) : State :=
  let s : State := s.angleMoved d
  let t : Int := (s.ang.at' : Int) + d
  if t < 0 then
    { s with ang := { s.ang with at' := (t + (cycleAt : Int)).toNat % cycleAt, frac := 0, tag := (s.ang.tag + 255) % 256 } }
  else if (cycleAt : Int) ≤ t then
    let s : State := s.wrapCycle
    { s with ang := { s.ang with at' := t.toNat % cycleAt, frac := 0 } }
  else { s with ang := { s.ang with at' := t.toNat, frac := 0 } }

/-- The next expected position after position k, and its revolution. -/
def State.nextPos (s : State) (k : Nat) (rev : Bool) : Nat × Bool := if s.teeth ≤ k + 1 then (0, !rev) else (k + 1, rev)

/-- RATE in 2^-32 at per tb (R73); one that 0.32 does not hold is a free value (log entry 43). -/
def rateOf (a span p : Nat) : Nat :=
  if span * p ≠ 0 ∧ a * 16 * 2 ^ 32 / (span * p) < 2 ^ 32 then a * 16 * 2 ^ 32 / (span * p) else (Config.wideRate a span p).toNat

/-- The new prediction, rate, pitch and clamp angle from the accepted position (R73), and the clock's correction to the
tooth with the time since its stamp (R75). -/
def State.setPitch (t : Tb) (s : State) : State :=
  let k := s.whl.pos; let rev := s.whl.rev
  let nx := s.nextPos k rev
  let pp := s.predict nx.1 nx.2
  let a := (s.toothAt nx.1 nx.2 + cycleAt - s.toothAt k rev) % cycleAt
  let span := if nx.1 = 0 then s.teethM + 1 else 1
  let rate := rateOf a span pp.1
  let s : State := if pp.2 then s.set F.WHL_ACLK_STAT_P_SAT 1 else s
  let adv := min (elapsed t s.now * rate / 2 ^ 32) (a - 1)
  let frac := (elapsed t s.now * rate) % 2 ^ 32
  let s : State := { s with ang := { s.ang with p := pp.1, rate := rate, pitchA := a, next := s.toothAt nx.1 nx.2 } }
  let s : State := s.endClamp.moveClock adv
  { s with ang := { s.ang with frac := if adv = a - 1 then 0 else frac } }

/-! Learning and the tooth error (R78 to R81) -/

/-- One update of a table entry toward x (both in 2^-16 about 65536), with 8 fraction bits and a clamp (R81). It is lost where
the host has written or cleared the entry in the same fabric cycle (R85, R86). -/
def State.learnEntry (i : Nat) (x lim : Int) (s : State) : State :=
  if s.hostWrote (terrAddr i) then s else
  let cur : Int := signed 16 (s.word (terrAddr i)).toNat * 256 + ((s.word (terrFrac i)).toNat % 256 : Nat)
  let wt : Int := 2 ^ (s.get F.WHL_ACLK_CTRL_LEARN_WT + 5)
  let new := cur + ((x - 65536) * 256 - cur) / wt
  let hi := lim * 256 - 1
  let cut := clampI (-lim * 256) hi new
  let s : State := if cut = new then s else s.set F.WHL_ACLK_STAT_E_SAT 1
  (s.putWord (terrAddr i) (Word.ofN (unsigned 16 (cut / 256)))).putWord (terrFrac i) (Word.ofN (cut % 256).toNat)

/-- What R80 keeps of every accepted edge: its stamp, and at an edge of class NORMAL or GAP the time of the revolution that ends
with it. STEADY_OK compares it with the one formed there a revolution earlier, and reads 0 where either is missing (log entry 43). -/
def State.revolve (c : EdgeClass) (t : Tb) (s : State) : State :=
  let k := s.whl.pos
  let old := if k = 0 then s.ang.hist else s.ang.histOld
  let was := assocGet k old
  let trev := if c = .normal ∨ c = .gap then was.map (fun x => elapsed x.1 t) else none
  let steady := match trev, was.bind (fun x => x.2) with
    | some tr, some tp => decide ((if tp ≤ tr then tr - tp else tp - tr) * 1024 < s.get F.WHL_STEADY_STEADY * tp)
    | _, _ => false
  { s with ang := { s.ang with hist := assocPut k (t, trev) (if k = 0 then [] else s.ang.hist), histOld := old,
                               revTime := trev.getD s.ang.revTime, steadyOk := steady } }

/-- R80 at an accepted edge: clean says that it is a NORMAL or GAP edge that was never provisional. -/
def State.learn (clean : Bool) (interval span : Nat) (s : State) : State :=
  let k := s.whl.pos
  let n := s.teethN
  let tr := ((assocGet k s.ang.hist).bind (fun x => x.2)).getD 0
  let ok := clean && (s.whl.sync == .half || s.whl.sync == .full) && !s.whl.crankSet && s.flag F.WHL_ACLK_CTRL_LEARN_EN
    && !s.flag F.WHL_ACLK_CTRL_FREEZE && decide (s.teeth ≤ s.ang.clean) && decide (s.ang.fresh = 0) && s.ang.steadyOk && decide (span * tr ≠ 0)
  let s : State := { s with ang := { s.ang with learnActive := ok } }
  if ok then
    let x := interval * n * 65536 / (span * tr)
    let s : State := s.learnEntry k x 8192
    let s : State := if s.torsOn then
        s.learnEntry (256 + k + if s.whl.rev then n else 0) (x * 65536 / (max 1 (s.tableD k))) 2048
      else s
    if k = 0 then s.count F.WHL_LEARN_CNT_COUNT else s
  else s

/-- R78: the tooth angle error of a NORMAL or GAP edge, recorded and sent to its tracker. -/
def State.toothError (t prev : Tb) (pos : Nat) (s : State) : State :=
  let e := clampI (-32767) 32767 (((elapsed prev t * s.ang.rate / 2 ^ 32 : Nat) : Int) - (s.ang.pitchA : Int))
  let u := unsigned 16 e
  let s : State := (s.set F.WHL_ERR_LAST_ERR u).set F.WHL_ERR_LAST_POS pos
  let lo := signed 16 (s.get F.WHL_ERR_MIN_ERR); let hi := signed 16 (s.get F.WHL_ERR_MAX_ERR)
  let s : State := if !s.flag F.WHL_ERR_MIN_VALID || decide (e < lo) then (s.set F.WHL_ERR_MIN_ERR u).set F.WHL_ERR_MIN_VALID 1 else s
  let s : State := if !s.flag F.WHL_ERR_MAX_VALID || decide (hi < e) then (s.set F.WHL_ERR_MAX_ERR u).set F.WHL_ERR_MAX_VALID 1 else s
  if s.flag F.WHL_ERR_ROUTE_EN then
    s.sample (512 + s.get F.WHL_ERR_ROUTE_TRK) e (s.win (512 + s.get F.WHL_ERR_ROUTE_TRK)).epoch
  else s

/-! Cam phase (R57 to R59) -/

/-- An angle lies in the reference window. -/
def State.inCamWin (s : State) (x : Nat) : Bool :=
  let lo := s.get F.WHL_CAMWIN_LO_ANG % cycleAt; let hi := s.get F.WHL_CAMWIN_HI_ANG % cycleAt
  decide ((x + cycleAt - lo) % cycleAt ≤ (hi + cycleAt - lo) % cycleAt)

/-- The phase is decided (R59, R105): the events are placed anew, the clock moves on by 360 °CA where the assumed phase was
wrong, and the tracker passes to FULL. What the present cycle has shown so far stays, in the revolution that it now counts as; after
a step of 360 °CA an absence says nothing (log entry 42). -/
def State.phaseDecided (wrong : Bool) (input : Nat) (t : Tb) (s : State) : State :=
  let r0 := if wrong then s.whl.ref1 else s.whl.ref0
  let r1 := if wrong then s.whl.ref0 else s.whl.ref1
  let s : State := s.halfStep wrong
  let s : State := if wrong then
      let f := s.ang.frac
      let s : State := s.moveClock revAt
      { s with ang := { s.ang with frac := f, next := (s.ang.next + revAt) % cycleAt }, whl := { s.whl with rev := !s.whl.rev } }
    else s
  let s : State := { s with whl := { s.whl with phaseKnown := true, judge := none, agree := 0, loss := 0, part := s.whl.part || wrong,
                                                ref0 := r0, ref1 := r1 } }
  s.sync .full input t

/-- The cycle that ended is judged at the first accepted edge after the wrap (R57, R59), which may be the edge whose own jump
wraps the cycle (log entry 42). Where the cycle began before its evaluation did, an absence is not judged (log entry 42). -/
def State.judgeCam (t : Tb) (s : State) : State :=
  match s.whl.judge with
  | none => s
  | some v =>
    let s : State := { s with whl := { s.whl with judge := none } }
    if !s.flag F.WHL_CAMREF_REF_EN then s
    else if s.whl.sync = .half then
      if v.1 && v.2.1 then
        let s : State := s.count F.WHL_CAM_ERR_CNT_COUNT
        { s with whl := { s.whl with agree := 0 } }
      else if !v.1 && !v.2.1 then { s with whl := { s.whl with agree := if v.2.2 then s.whl.agree else 0 } }
      else
        let wrong := v.2.1
        let n := if s.whl.agree ≠ 0 ∧ s.whl.vote = wrong then s.whl.agree + 1 else 1
        let s : State := { s with whl := { s.whl with agree := n, vote := wrong } }
        if s.get F.WHL_CAMREF_CAM_CONFIRM + 1 ≤ n then s.phaseDecided wrong 9 t else s
    else if s.whl.sync = .full then
      if v.2.1 || (!v.1 && !v.2.2) then
        let n := s.whl.loss + 1
        let s : State := { s with whl := { s.whl with loss := n } }
        if s.get F.WHL_CAMREF_CAM_LOSS + 1 ≤ n then
          ({ s with whl := { s.whl with phaseKnown := false, agree := 0, loss := 0 } } : State).sync .half 10 t
        else s
      else if v.1 then { s with whl := { s.whl with loss := 0 } } else s
    else s

/-! Accepted edges -/

/-- R45: the window set in force may change at an accepted edge, by the speed predicted for it. -/
def State.changeSet (s : State) : State :=
  let lhs := 60 * 800000000 * 16
  let np := s.teethN * s.ang.p
  let rpm := s.get F.WHL_SYNCCFG_CRANK_RPM
  let c := if s.whl.crankSet then !decide (rpm * np ≤ lhs) else decide (lhs * 8 < 7 * rpm * np)
  { s with whl := { s.whl with crankSet := c } }

/-- R82: the torsional table is active from the first gap after the entry to FULL, for the prediction formed there on. -/
def State.torsUpdate (gap : Bool) (s : State) : State :=
  { s with ang := { s.ang with torsActive := s.ang.torsActive || (gap && s.whl.sync == .full) } }

/-- The scheduler's work at an accepted edge (R72, R102, R103, R129, R216). -/
def State.edgeWork (s : State) : State :=
  let s : State := s.convertLocks
  let s : State := if s.whl.sync = .suspect then s.coastEdge.holdWaiting else s
  s.rekeyAll

/-- The tooth position of an accepted edge. -/
def State.edgePos (s : State) (c : EdgeClass) : Nat :=
  match c with
  | .gap | .gapMismatch => 0
  | .missed => s.whl.pos + 2
  | _ => if s.atGap then 0 else s.whl.pos + 1

/-- The revolution flag that the position of the edge implies. -/
def State.edgeRev (s : State) (k : Nat) : Bool := if k = 0 then !s.whl.rev else s.whl.rev

/-- The interval that an accepted edge ends gives its tooth error and its prediction, and the position follows. clean: a
NORMAL or GAP edge that was never provisional. -/
def State.takeTooth (c : EdgeClass) (clean : Bool) (t : Tb) (interval : Nat) (s : State) : State :=
  let k := s.edgePos c
  let s : State := if clean then s.toothError t (s.whl.last.getD t) k else s
  let u := normU interval (s.weight c k (s.edgeRev k))
  let s : State := if c = .bad ∨ c = .gapMismatch then s else { s with ang := { s.ang with u2 := s.ang.u1, u1 := u } }
  let s : State := s.kept t
  let s : State := { s with whl := { s.whl with pos := k },
                            ang := { s.ang with clean := if clean then s.ang.clean + 1 else 0,
                                                fresh := if clean then s.ang.fresh - 1
                                                         else if s.ang.fresh = 0 then 0 else 2 * s.teeth } }
  s.changeSet

/-- The way of the clock to the angle of the tooth just taken: forward (R75), or at a wrong position to the nearer of the two
revolutions' angles (R76). -/
def State.edgeWay (s : State) (c : EdgeClass) (rev : Bool) : Int :=
  let k := s.whl.pos
  let here := s.ang.at'
  let d0 : Int := (((s.toothAt k false + cycleAt - here) % revAt : Nat) : Int)
  let dm := if d0 ≤ 737280 then d0 else d0 - (revAt : Int)
  let df : Int := (((s.toothAt k rev + cycleAt - here) % cycleAt : Nat) : Int)
  if c = .gapMismatch then dm else if df < (revAt : Int) then df else dm

/-- The clock takes the tooth's angle, and learning, the torsional table and the next pitch follow. -/
def State.followTooth (c : EdgeClass) (clean : Bool) (t : Tb) (interval : Nat) (rev : Bool) (s : State) : State :=
  let d := s.edgeWay c rev
  let a0 := s.toothAt s.whl.pos false
  let s : State := s.moveClock d
  let s : State := { s with whl := { s.whl with rev := decide (s.ang.at' ≠ a0) } }
  let s : State := if d < 0 then (s.set F.WHL_ACLK_STAT_RETREAT 1).count F.WHL_RETREAT_CNT_COUNT else s
  let s : State := (s.revolve c t).learn clean interval (if c = .gap then s.teethM + 1 else 1)
  let s : State := (s.torsUpdate (c == .gap)).setPitch t
  if d < 0 then s.backStep else s

/-- What the class of an accepted edge counts (Table 2.3). -/
def State.countClass (c : EdgeClass) (s : State) : State :=
  match c with
  | .missed => s.count F.WHL_MISS_CNT_COUNT
  | .bad => s.count F.WHL_BAD_CNT_COUNT
  | .gapMismatch => s.count F.WHL_GAPERR_CNT_COUNT
  | _ => s

/-- The sync state that the class of an accepted edge leads to, where the clock goes on (Table 2.3). -/
def State.judgeEdge (c : EdgeClass) (t : Tb) (s : State) : State :=
  match c with
  | .missed | .bad | .gapMismatch => if s.whl.sync = .suspect then s else s.sync .suspect c.code t
  | .gap => if s.whl.sync = .suspect then s.sync s.whl.ret c.code t else s
  | _ => s

/-- A cycle that begins in the jump of the edge that ends SUSPECT is evaluated whole (R60). -/
def State.judgeAgain (tag : Nat) (s : State) : State :=
  { s with whl := { s.whl with susp := s.whl.susp && (s.whl.sync == .suspect || s.ang.tag == tag) } }

/-- An accepted edge of a class at a stamp, with a known position (Table 2.3): a second BAD or GAP_MISMATCH edge in SUSPECT leads to
SEEK and moves no clock (R54, R55); at any other, the position, the prediction and the clock follow, then the sync state. conf: a
confirmed provisional edge. -/
def State.accept (c : EdgeClass) (conf : Bool) (t : Tb) (s : State) : State :=
  if s.whl.sync = .suspect ∧ (c = .bad ∨ c = .gapMismatch) then ((s.countClass c).sync .seek c.code t).seekFrom (some t) else
  let tag := s.ang.tag
  let interval := elapsed (s.whl.last.getD t) t
  let clean := (c == .normal || c == .gap) && !conf
  let rev := s.edgeRev (s.edgePos c)
  let s : State := (((s.takeTooth c clean t interval).followTooth c clean t interval rev).countClass c).judgeEdge c t
  ((s.judgeAgain tag).judgeCam t).edgeWork

/-! SEEK (R51, R52, R58) -/

/-- Crank sync is complete at an edge (R52, R58, R71, R76): tooth 0 of the assumed first revolution. A vote of the reference edges
since the previous gap counts as the first of CAM_CONFIRM agreeing cycles where it does not decide alone (log entry 42). -/
def State.syncDone (t : Tb) (s : State) : State :=
  let gapI := s.whl.ints.headD 0
  let prvI := (s.whl.ints.drop 1).headD 0
  let u1 := normU gapI (s.weight .gap 0 false)
  let u2 := normU prvI (s.weight .normal (s.teeth - 1) false)
  -- R58: the reference edges of the revolution just ended, at their positions in it
  let a0 := s.get F.WHL_TOOTH0_ANG
  let angs := s.whl.camSeek.map (fun x => s.posAngle x.1 + x.2)
  let inFirst := angs.any (fun x => s.inCamWin x)
  let inSecond := angs.any (fun x => s.inCamWin (x + revAt))
  let vote : Option Bool := if inFirst && !inSecond then some false else if inSecond && !inFirst then some true else none
  let s : State := { s with ang := { s.ang with u1 := u1, u2 := u2, at' := a0, frac := 0, hist := [(0, t, none)], histOld := [], clean := 0, steadyOk := false,
                                                torsActive := false },
                            whl := { s.whl with pos := 0, rev := false, last := some t, stamp := some t, prov := none, phaseKnown := false, judge := none,
                                                part := decide (a0 ≠ 0), susp := false,
                                                agree := 0, loss := 0, ref0 := false, ref1 := false, camK := List.replicate 4 0 } }
  let s : State := s.setPitch t
  let s : State := s.sync .half 1 t
  let s : State := match vote with
    | some second =>
      if s.flag F.WHL_CAMREF_REF_EN then
        -- the past revolution holds the window: in the first one, the present revolution is the second, and conversely
        let wrong := !second
        let n := 1
        let s : State := { s with whl := { s.whl with agree := n, vote := wrong } }
        if s.get F.WHL_CAMREF_CAM_CONFIRM + 1 ≤ n then s.phaseDecided wrong 9 t else s
      else s
    | none => s
  s.edgeWork

/-- One edge of SEEK after learning, classified against P with its ratio r and interval. -/
def State.seekEdge (c : EdgeClass) (interval : Nat) (t : Tb) (s : State) : State :=
  match c with
  | .normal =>
    let s : State := s.kept t
    { s with whl := { s.whl with ints := [interval, s.whl.ints.headD 0], sinceCand := s.whl.sinceCand.map (fun n => n + 1) },
             ang := { s.ang with p := interval * 16 } }
  | .gap =>
    let good := match s.whl.sinceCand with | none => true | some n => decide (n + 1 = s.teeth)
    let g := if good then min (s.whl.gaps + 1) 7 else 1
    let s : State := s.kept t
    let s : State := { s with whl := { s.whl with ints := [interval, s.whl.ints.headD 0], sinceCand := some 0, gaps := g },
                              ang := { s.ang with p := interval * 16 / (s.teethM + 1) } }
    if s.get F.WHL_SYNCCFG_GAP_CONFIRM + 1 ≤ g then s.syncDone t
    else { s with whl := { s.whl with camSeek := [] } }
  | .reject => s.count F.WHL_REJ_CNT_COUNT
  | .provisional => { s with whl := { s.whl with prov := some { stamp := t, ratio := ratio interval s.ang.p } } }
  | _ =>
    let s : State := s.seekFrom (some t)
    s

/-- The learning phase (R51): every edge is accepted, and P follows the last interval. -/
def State.learnEdge (t : Tb) (s : State) : State :=
  match s.whl.last with
  | none => (s.kept t).toothTrace .normal 0 t
  | some l =>
    let i := elapsed l t
    let r := match s.whl.ints with | j :: _ => ratio i (j * 16) | [] => 0
    let ok := match s.whl.ints with
      | _ :: _ => decide (s.provHi true ≤ r) && decide (r ≤ s.twHi true)
      | [] => false
    let n := if ok then s.whl.learnN + 1 else 1
    let s : State := s.kept t
    let s : State := { s with whl := { s.whl with ints := [i, s.whl.ints.headD 0], learnN := n, learned := decide (3 ≤ n) },
                              ang := { s.ang with p := i * 16 } }
    s.toothTrace .normal r t

/-! Classifying an edge (R48, R49, R51) -/

/-- E of R49. -/
def State.provE (s : State) : Nat := if s.clockRuns && s.atGap then s.teethM + 1 else 1

/-- An edge in a state with a known position or in SEEK, with its class already fixed: acceptance and its trace record. Where the
edge also causes a transition, that record is staged first (log entry 42). -/
def State.take (c : EdgeClass) (r : Nat) (interval : Nat) (t : Tb) (s : State) : State :=
  if s.clockRuns then
    match c with
    | .reject => (s.count F.WHL_REJ_CNT_COUNT).toothTrace c r t
    | .provisional =>
      (({ s with whl := { s.whl with prov := some { stamp := t, ratio := r } } } : State).toothTrace c r t)
    | _ => (s.accept c false t).toothTrace c r t
  else (s.seekEdge c interval t).toothTrace c r t

/-- Classify an edge from the last accepted one. -/
def State.classify (t : Tb) (s : State) : State :=
  let i := elapsed (s.whl.last.getD t) t
  let r := ratio i s.ang.p
  s.take (if s.clockRuns then s.classKnown s.atGap r else s.classSeek r) r i t

/-- R49: a pending provisional edge is confirmed: accepted at its own stamp. -/
def State.confirm (pv : Prov) (s : State) : State :=
  let s : State := { s with whl := { s.whl with prov := none } }
  if s.clockRuns then
    let c : EdgeClass := if s.atGap then .gapMismatch else .normal
    (s.accept c true pv.stamp).toothTrace c pv.ratio pv.stamp
  else
    let i := elapsed (s.whl.last.getD pv.stamp) pv.stamp
    (s.seekEdge .normal i pv.stamp).toothTrace .normal pv.ratio pv.stamp

/-- R49: the settling edge decides on the pending provisional one. The record of a settling edge that is dropped carries CLASS REJECT
and the ratio b (log entry 42). -/
def State.settle (pv : Prov) (t : Tb) (s : State) : State :=
  let b := ratio (elapsed pv.stamp t) s.ang.p
  let sum := pv.ratio + b
  let e := s.provE
  let crk := s.whl.crankSet || !s.clockRuns
  let band := decide (s.get F.WHL_RATE_BAND_LO * pv.ratio ≤ b * 256) && decide (b * 256 ≤ s.get F.WHL_RATE_BAND_HI * pv.ratio)
  if sum < s.get F.WHL_SETTLE_LO * e then
    (s.count F.WHL_NOISE_CNT_COUNT).toothTrace .reject b t
  else if (crk && band) || decide (s.get F.WHL_SETTLE_HI * e < sum) then
    let s : State := s.confirm pv
    if s.whl.sync = .idle then s else if s.whl.sync = .seek ∧ !s.whl.learned then s.learnEdge t else s.classify t
  else
    let s : State := s.count F.WHL_NOISE_CNT_COUNT
    let s : State := { s with whl := { s.whl with prov := none } }
    let i := elapsed (s.whl.last.getD t) t
    s.take (if s.clockRuns then s.classKnown s.atGap sum else s.classSeek sum) sum i t

/-- R39: whether a half-wave with a peak arms a VR input. The previous half-wave is the last one that ended in an active edge of
the input, not the one of the other direction between (log entry 42). -/
def State.vrArms (s : State) (prev : Option Nat) (peak : Nat) : Bool :=
  let mn := s.get F.WHL_FE_MINAMP * 2
  decide (mn ≤ peak) && decide ((match prev with | some q => q * s.get F.WHL_FE_ARM_PCT / 100 | none => mn) ≤ peak)

/-- The tracker takes crank edges: enabled, fit, in ARMED and later modes, not on a follower (R63, R454, R463). -/
def State.tracking (s : State) : Bool :=
  s.flag F.WHL_CTRL_EN && s.crankUsable && s.sys.mode.operating && s.clk.tbRun && !s.follower && !s.testing 1

/-- An exact crank edge acts on the tracker. -/
def State.exactEdge (t : Tb) (s : State) : State :=
  match s.whl.sync with
  | .idle =>
    let s : State := s.seekFrom (some t)
    (s.sync .seek 12 t).toothTrace .normal 0 t
  | .seek =>
    if !s.whl.learned then s.learnEdge t
    else match s.whl.prov with | some pv => s.settle pv t | none => s.classify t
  | _ => match s.whl.prov with | some pv => s.settle pv t | none => s.classify t

/-- An active crank edge (R39, R41, R48): width in tb of its pulse, peak in mV of its half-wave. -/
def State.crank (stamp : Tb) (width peak : Nat) (s : State) : State :=
  if !s.tracking then s
  else
    let vr := s.flag F.WHL_CTRL_CRK_MODE
    let armed := !vr || s.vrArms s.whl.arm peak
    let s : State := if vr then { s with whl := { s.whl with arm := if armed then some peak else none } } else s
    if !armed then s
    else if width < s.get F.WHL_MINW_MINW * 8 then s.count F.WHL_GLITCH_CNT_COUNT
    else
      let s : State := { s with sys := { s.sys with idleSince := none } }
      s.exactEdge stamp

/-- A crank edge acts in the direction that CRK_EDGE selects (R39), and restarts the idle count of R410. -/
def execCrankEdge (stamp : CrankStamp) (width peak : Nat) (s : State) : Host.Outcome State Fault Refusal :=
  .next (if s.flag F.WHL_CTRL_CRK_EDGE != stamp.rising then s else
    let s : State := s.crank stamp.t width peak; { s with sys := { s.sys with idleSince := none } })

/-- A crank edge before the time base runs (R42), while WHL_CTRL may not be loaded yet: stamped on the AON clock, flagged and
counted; it opens no interval. -/
def State.coarse (s : State) : State :=
  if s.clk.tbRun || s.sys.mode == .off then s
  else
    let s : State := if s.whl.coarse then s else s.set F.WHL_COARSE_STAMP_AON s.clk.aon
    let s : State := s.count F.WHL_COARSE_CNT_COUNT
    let s : State := { s with whl := { s.whl with coarse := true } }
    s.trace 0 0 (7 * 256) (BitVec.ofNat 40 (s.clk.aon % 2 ^ 32)) 0 s.clockWord

/-- COARSE_EDGE (R42): A crank edge that arrives before the time base runs is stamped on the AON clock and counted as COARSE. -/
def execCoarseEdge (s : State) : Host.Outcome State Fault Refusal := .next s.coarse

/-! Cam inputs (R40, R57, R58, R60) -/

/-- The reference edge in HALF or FULL votes by where it falls. In SEEK it is kept for R58, at the place between teeth that its time
since the last kept edge gives against P, at most M + 1 pitches on (log entry 42). -/
def State.refEdge (t : Tb) (s : State) : State :=
  if s.whl.sync = .half ∨ s.whl.sync = .full then
    let x := s.ang.at'
    { s with whl := { s.whl with ref0 := s.whl.ref0 || s.inCamWin x, ref1 := s.whl.ref1 || s.inCamWin (x + revAt) } }
  else if s.whl.sync = .seek then
    match s.whl.sinceCand, s.whl.last with
    | some k, some l =>
      let off := if s.ang.p = 0 then 0 else min (elapsed l t * 16 * (revAt / max 1 s.teethN) / s.ang.p)
        ((s.teethM + 1) * (revAt / max 1 s.teethN))
      { s with whl := { s.whl with camSeek := s.whl.camSeek ++ [(k, off)] } }
    | _, _ => s
  else s

/-- The index at which a cam edge is captured, and the one after it (R60). While the clock stands the indices go round, as no cycle
ends; in a cycle no edge beyond EDGES is captured (log entry 42). -/
def State.camIndex (s : State) (n : Nat) : Option Nat × Nat :=
  let k := s.whl.camK.getD n 0
  let m := s.get (F.WHL_CAMCFG_EDGES n) + 1
  if s.clockRuns then (if k < m then (some k, k + 1) else (none, k)) else (some (k % m), (k + 1) % m)

/-- A cam edge (R40, R60): captured with its time and with the clock's angle when the edge is seen (log entry 42); the reference
edge also serves the cam phase. -/
def State.cam (n : Nat) (falling : Bool) (stamp : Tb) (width peak : Nat) (s : State) : State :=
  if !(s.flag (F.WHL_CAMCFG_EN n) && s.camUsable n && s.sys.mode.operating && s.clk.tbRun && !s.testing 1) then s
  else
    let vr := n == 0 && s.flag (F.WHL_CAMCFG_VR n)
    let armed := !vr || s.vrArms s.whl.armCam peak
    let s : State := if vr then { s with whl := { s.whl with armCam := if armed then some peak else none } } else s
    let e := s.get (F.WHL_CAMCFG_EDGE n)
    if !armed || decide (width < s.get (F.WHL_CAMCFG_MINW n) * 8) || !((e == 2) || (e == 0 && !falling) || (e == 1 && falling)) then s
    else
      let i := s.camIndex n
      let s : State := { s with whl := { s.whl with camK := setAt s.whl.camK n i.2 } }
      let s : State := match i.1 with
        | some k =>
          let s : State := s.putWord (R.WHL_CAM_ANG n k) (Word.ofN (s.ang.at' + place 22 1 (b2n falling) + place 23 1 (b2n s.clockRuns)
            + place 24 1 (b2n s.whl.phaseKnown)))
          s.putWord (R.WHL_CAM_TIM n k) (Word.ofN stamp.toNat)
        | none => s
      let pol := s.flag F.WHL_CAMREF_POL
      if s.flag F.WHL_CAMREF_REF_EN && s.get F.WHL_CAMREF_CAM == n && pol == falling && !s.follower then s.refEdge stamp else s

/-- CAM_EDGE (R60): An edge of an enabled cam input is captured with its time and cycle angle. -/
def execCamEdge (n : Nat) (falling : Bool) (stamp : Tb) (width peak : Nat) (s : State) : Host.Outcome State Fault Refusal :=
  .next (s.cam n falling stamp width peak)

/-! Stall, sync reset, clamp, wrap -/

/-- R53: the time since the last accepted edge exceeds 8 × P or STALL_T. In SEEK, P is the one of the run before until the first
interval gives its own (log entry 42). -/
def State.stallDue (s : State) : Bool :=
  match s.whl.stamp with
  | some l =>
    let el := elapsed l s.now
    s.whl.sync != .idle && !s.follower
      && (decide (s.get F.WHL_STALL_STALL_T * 800000 < el) || (decide (s.ang.p ≠ 0) && decide (s.ang.p / 2 < el)))
  | none => false

/-- A stall (R53, R55): the tracker returns to ARMED. -/
def State.doStall (s : State) : State :=
  if s.stallDue then
    let s : State := s.sync .idle 8 s.now
    { s with whl := { s.whl with last := none, prov := none, ints := [], learnN := 0, learned := false, sinceCand := none,
                                 camSeek := [], gaps := 0, pos := 0, rev := false, coarse := false } }
  else s

/-- STALL (R53): The time since the last accepted edge exceeds the stall limit, and the tracker returns to ARMED. -/
def execStall (s : State) : Host.Outcome State Fault Refusal := .next (s.doStall.armedIf s.sys.mode)

/-- SYNC_RESET (Table 2.3): SEEK, or learning anew; the next edge is the first of learning. -/
def State.syncResetNow (s : State) : State :=
  if s.follower || s.whl.sync == .idle then s
  else if s.whl.sync = .seek then s.seekFrom none
  else (s.sync .seek 11 s.now).seekFrom none

/-- A write of WHL_CTRL whose bit 3 is SYNC_RESET (R63). -/
def State.syncResetWrite (p : Port) (v : Word) (s : State) : State :=
  s.busWrite p R.WHL_CTRL v (fun s => if v.bit 3 && s.isInstaller p then s.syncResetNow else s)

/-- SYNC_RESET (R54): A write of WHL_CTRL.SYNC_RESET returns the tracker to SEEK or restarts learning. -/
def execSyncReset (p : Port) (v : Word) (s : State) : Host.Outcome State Fault Refusal := .next (s.syncResetWrite p v)

/-- R74: the clock stops at the angle before the next expected tooth. -/
def State.clampDue (s : State) : Bool :=
  s.clockRuns && !s.ang.clamped && decide (s.ang.at' = (s.ang.next + cycleAt - 1) % cycleAt)

/-- CLOCK_CLAMP (R74): The clock reaches the next expected tooth minus 1 at, stops, and counts the clamp. -/
def execClockClamp (s : State) : Host.Outcome State Fault Refusal :=
  .next (if s.clampDue then
    ({ s with ang := { s.ang with clamped := true, frac := 0 } } : State).count F.WHL_CLAMP_CNT_COUNT
  else s)

/-- The clock passes from 2,949,119 at to 0 at in its run (R77). -/
def execCycleWrap (s : State) : Host.Outcome State Fault Refusal :=
  .next (if s.clockRuns && !s.ang.clamped && decide (s.ang.at' = cycleAt - 1) && decide (s.ang.next ≠ 0) then s.moveClock 1 else s)

/-! Tables and controls (R84 to R88) -/

/-- Which indices of the tables exist (R68, R85). -/
def State.terrThere (s : State) (i : Nat) : Bool :=
  decide (i < s.teeth) || (decide (256 ≤ i) && decide (i < 256 + 2 * s.teethN))

/-- D as a write sets it, clamped as R81 says of the entry's table. -/
def terrD (i : Nat) (v : Word) : Word :=
  let lim : Int := if i < 256 then 8192 else 2048
  Word.ofN (unsigned 16 (clampI (-lim) (lim - 1) (signed 16 v.toNat)))

/-- WHL_TERR_DATA (R85): read with w = none, or write; either advances the index. -/
def State.terrAccess (p : Port) (w : Option Word) (s : State) : State :=
  let i := s.get F.WHL_TERR_IDX_IDX
  let s : State := match w with
    | none => s.answer (if s.terrThere i then (s.word (terrAddr i)).toNat % 65536 else 0)
    | some v =>
      if s.isInstaller p then
        if s.terrThere i then (s.putBoth (terrAddr i) (terrD i v) (s.roleOf p)).putWord (terrFrac i) 0 else s
      else if s.terrThere i && decide (s.shadowWord (terrAddr i) ≠ terrD i v ∨ s.word (terrAddr i) ≠ terrD i v) then s.deny p else s
  s.set F.WHL_TERR_IDX_IDX ((i + 1) % 512)

/-- TERR_DATA_ACCESS (R85): An access to WHL_TERR_DATA reads or replaces a table entry live and in the shadow copy, then advances the
index. -/
def execTerrDataAccess (p : Port) (w : Option Word) (s : State) : Host.Outcome State Fault Refusal :=
  .next (match w with
    | none => s.onRead p (fun s => s.terrAccess p none)
    | some v => s.onWrite p (fun s => s.terrAccess p (some v)))

/-- Every entry of a table is set to 1.0 in both copies (R86). -/
def clearTable (lo n : Nat) (role : Nat) (s : State) : State :=
  let s : State := (upTo n).foldl (fun (s : State) i =>
    (((s.noteHost (terrAddr (lo + i))).putWord (terrAddr (lo + i)) 0).putShadow (terrAddr (lo + i)) 0).putWord (terrFrac (lo + i)) 0) s
  s.markDirty R.WHL_TERR_DATA role

/-- CLEAR_TERR: every tooth-error entry is 1.0 and LEARN_CNT is 0 (R86). -/
def State.clearTerrNow (role : Nat) (s : State) : State := (clearTable 0 120 role s).set F.WHL_LEARN_CNT_COUNT 0
/-- CLEAR_TORS: every torsional entry is 1.0 (R86). -/
def State.clearTorsNow (role : Nat) (s : State) : State := clearTable 256 240 role s

/-- R87: the extremes restart. A sample of the same fabric cycle belongs to the new window. -/
def State.errRestartNow (s : State) : State :=
  let e := if s.hwWrote R.WHL_ERR_LAST then s.get F.WHL_ERR_LAST_ERR + 2 ^ 31 else 0
  (s.putWord R.WHL_ERR_MIN (Word.ofN e)).putWord R.WHL_ERR_MAX (Word.ofN e)

/-- A write of WHL_ACLK_CTRL (R84, R86, R87): ERR_RESTART, CLEAR_TERR and CLEAR_TORS act; clearing FREEZE asks for two clean
revolutions anew. -/
def State.aclkWrite (p : Port) (v : Word) (s : State) : State :=
  let frozen := s.flag F.WHL_ACLK_CTRL_FREEZE
  s.busWrite p R.WHL_ACLK_CTRL v (fun s =>
    let s : State := if frozen && !s.flag F.WHL_ACLK_CTRL_FREEZE then { s with ang := { s.ang with fresh := 2 * s.teeth } } else s
    let s : State := if v.bit 3 then s.errRestartNow else s
    let s : State := if v.bit 4 && s.isInstaller p then s.clearTerrNow (s.roleOf p) else s
    if v.bit 5 && s.isInstaller p then s.clearTorsNow (s.roleOf p) else s)

/-- CLEAR_TERR: a write of WHL_ACLK_CTRL with bit 4. -/
def execClearTerr (p : Port) (v : Word) (s : State) : Host.Outcome State Fault Refusal := .next (s.aclkWrite p v)

/-- CLEAR_TORS: a write of WHL_ACLK_CTRL with bit 5. -/
def execClearTors (p : Port) (v : Word) (s : State) : Host.Outcome State Fault Refusal := .next (s.aclkWrite p v)

/-- ERR_RESTART: a write of WHL_ACLK_CTRL with bit 3. -/
def execErrRestart (p : Port) (v : Word) (s : State) : Host.Outcome State Fault Refusal := .next (s.aclkWrite p v)

/-- WHL_ANGLE as it reads (R88, Table 3.5). -/
def State.angleWord (s : State) : Nat :=
  s.ang.at' + place 22 8 s.ang.tag + place 30 1 (b2n s.ang.clamped) + place 31 1 (b2n s.clockRuns)

/-- A read of WHL_ANGLE latches the time base (R88). -/
def State.angleRead (p : Port) (s : State) : State :=
  s.onRead p (fun s => ({ s with ang := { s.ang with latch := s.now } } : State).answer s.angleWord)

/-- ANGLE_READ_LATCH (R88): A read of WHL_ANGLE latches the time base into WHL_ANGLE_TLO and WHL_ANGLE_THI. -/
def execAngleReadLatch (p : Port) (s : State) : Host.Outcome State Fault Refusal := .next (s.angleRead p)

/-- A read of WHL_STAMP_LO latches WHL_STAMP_HI (R63). -/
def State.stampRead (p : Port) (s : State) : State :=
  s.onRead p (fun s =>
    let t := (s.whl.stamp.getD 0).toNat
    ({ s with whl := { s.whl with stampHi := t / 2 ^ 32 } } : State).answer (t % 2 ^ 32))

/-- STAMP_READ_LATCH (R63): A read of WHL_STAMP_LO latches the matching high bits in WHL_STAMP_HI. -/
def execStampReadLatch (p : Port) (s : State) : Host.Outcome State Fault Refusal := .next (s.stampRead p)

end Sys2Proof.Machine
end

