-- ==== Sys2Proof/Machine/Slur.lean ====
section
/-! DEFINITION. Sets of devices on the slur link (chapter 19): angle frames, training, following, and the loss of the link. -/

namespace Sys2Proof.Machine

/-! Frames (R464, Table 19.2) -/

/-- CRC-8 with polynomial 0x2F, initial value 0xFF and final XOR 0xFF over the n low bits of a number, the highest first. -/
def crcBits (v : Nat) : Nat → Nat → Nat
  | 0, c => c
  | n + 1, c =>
    let top := (c.testBit 7) != (v.testBit n)
    let c' := c * 2 % 256
    crcBits v n (if top then c' ^^^ 0x2F else c')

/-- CRC-8 with polynomial 0x2F, initial value 0xFF and final exclusive or 0xFF (R464). -/
def crc8 (v n : Nat) : Nat := crcBits v n 0xFF ^^^ 0xFF

/-- Bits [119:0] of an angle frame. -/
def angleBits (f : AngleFrame) : Nat :=
  place 0 5 f.idx + place 5 3 f.sync + place 8 1 (b2n f.phase) + place 9 1 (b2n f.rev) + place 10 7 f.pos + place 17 6 f.tslice
    + place 23 40 f.tstamp.toNat + place 63 8 f.tag + place 71 32 f.rate.toNat + place 103 4 f.lmode

/-- Bits [119:0] of a training frame. -/
def trainBits (f : TrainFrame) : Nat :=
  place 0 5 25 + place 5 3 f.step + place 8 2 f.dev + place 10 7 f.n + place 17 2 f.m + place 19 22 f.tooth0
    + place 41 40 f.launch.toNat + place 81 8 f.lat

/-- The hop latency of four round trips in 0.25 ns: (RT - 91.2 ns) / 2, rounded down. -/
def State.hopLat (s : State) : Int := ((10 * s.slur.rtSum : Nat) - (14592 : Int)) / 80

/-- The device is a follower of a slur link (R462). -/
def State.follows (s : State) : Bool := s.slurOn && s.follower
/-- The device is the leader of a slur link (R462). -/
def State.leads (s : State) : Bool := s.slurOn && !s.follower

/-- A follower takes angle frames: its hop has trained. -/
def State.expects (s : State) : Bool := s.follows && s.sys.mode.operating && (s.slur.state == 2 || (s.slur.state == 1 && s.slur.sending))

/-- LMODE: the mode, or the target of a sleep entry under way. -/
def State.lmode (s : State) : Nat := match s.sys.sleep with | some k => (if k.vigil then 2 else 1) | none => s.sys.mode.code

/-- The cycle tag at the last accepted tooth: a clock that has since passed angle 0 has counted on. -/
def State.toothTag (s : State) : Nat := if s.ang.at' < s.toothAt s.whl.pos s.whl.rev then (s.ang.tag + 255) % 256 else s.ang.tag

/-- The frame of the present slot: the leader's own values, or what the follower last received, in its own slots. -/
def State.frameNow (s : State) : AngleFrame :=
  let k := s.now.toNat % 1024 * 25 / 1024
  let base := s.now.toNat - s.now.toNat % 1024
  let own : AngleFrame := { idx := k, sync := s.whl.sync.code, phase := s.whl.phaseKnown, rev := s.whl.rev, pos := s.whl.pos, tslice := 0,
                            tstamp := s.whl.stamp.getD 0, tag := s.toothTag, rate := Word.ofN s.ang.rate, lmode := s.lmode, crc := 0 }
  let f := if s.follower then (s.slur.rxFrame.getD own) else own
  let f : AngleFrame := { f with idx := k, tslice := if k < 5 then base >>> (10 + 6 * k) % 64 else 0 }
  { f with crc := crc8 (angleBits f) 120 }

/-- A frame goes out downstream, outside the training of that hop (R464, R467). -/
def State.launches (s : State) : Bool :=
  s.slurOn && s.sys.mode.operating && !s.slur.ended && decide (2 ≤ s.slur.state) && (!s.follower || s.slur.rxFrame.isSome)

/-- While the downstream hop trains, every slot carries a training frame (R467). -/
def State.trains (s : State) : Bool := s.slurOn && s.sys.mode.operating && s.slur.state == 1 && s.slur.sending

/-- The training frame of the present slot: in STEP 2 it carries L, N, M, TOOTH0 and DEV; in the steps before, LAT and DEV are
zero (log entry 59). -/
def State.trainNow (s : State) : TrainFrame :=
  let two := decide (s.slur.step = 2)
  let f : TrainFrame := { step := s.slur.step, dev := if two then s.slur.dev + 1 else 0, n := s.teethN, m := s.teethM,
                          tooth0 := s.get F.WHL_TOOTH0_ANG, launch := s.now, lat := if two then s.hopLat.toNat else 0, crc := 0 }
  { f with crc := crc8 (trainBits f) 120 }

/-- ANGLE_FRAME_LAUNCH (R464): Every 51.2 ns a device launches an angle frame downstream. -/
def execAngleFrameLaunch (s : State) : Host.Outcome State Fault Refusal :=
  .next (if s.launches then { s with slur := { s.slur with txFrame := some s.frameNow, idx := s.frameNow.idx } }
  else if s.trains then { s with slur := { s.slur with txTrain := some s.trainNow, idx := 25 } }
  else s)

/-! Following (R468, R469) -/

/-- The sync state of a SYNC code (R463, WHL_STAT.SYNC). -/
def syncOf : Nat → Sync
  | 1 => .seek | 2 => .half | 3 => .full | 4 => .suspect | _ => .idle

/-- The trace record of a transition that a frame or a loss causes has an INPUT that the spec does not name: a free value. -/
def State.slurSync (quiet : Bool) (dst : Sync) (t : Tb) (s : State) : State := (s.draw.2).syncAs quiet dst (s.draw.1.toNat % 16) t

/-- RATE as received, the clamp at the next tooth of the own wheel, and the clock moved on from the stamp (R74, R468). -/
def State.framePitch (f : AngleFrame) (s : State) : State :=
  let nx := s.nextPos s.whl.pos s.whl.rev
  let a := (s.toothAt nx.1 nx.2 + cycleAt - s.toothAt s.whl.pos s.whl.rev) % cycleAt
  let x := elapsed f.tstamp s.now * f.rate.toNat
  let adv := min (x / 2 ^ 32) (a - 1)
  let s : State := { s with ang := { s.ang with rate := f.rate.toNat, pitchA := a, next := s.toothAt nx.1 nx.2 } }
  let s : State := s.endClamp.moveClock adv
  { s with ang := { s.ang with frac := if adv = a - 1 then 0 else x % 2 ^ 32 } }

/-- The signed distance of the clock to the tooth that a frame names, by the nearer way round the cycle. -/
def State.frameDist (s : State) (f : AngleFrame) : Int :=
  let d : Int := (((s.toothAt f.pos f.rev + cycleAt - s.ang.at') % cycleAt : Nat) : Int)
  if d ≤ (revAt : Int) then d else d - (cycleAt : Int)

/-- The position of a frame is taken. -/
def State.framePos (f : AngleFrame) (s : State) : State :=
  { s with whl := { s.whl with pos := f.pos, rev := f.rev, last := some f.tstamp, stamp := some f.tstamp } }

/-- The tooth of a frame as an accepted edge at TSTAMP while the clock runs (R75, R76, R59). -/
def State.frameEdge (f : AngleFrame) (s : State) : State :=
  let far := decide (s.frameDist f < -(revAt / 2 : Nat)) || decide (((revAt / 2 : Nat) : Int) < s.frameDist f)
  let s : State := if f.phase && !s.whl.phaseKnown then s.phaseDecided far 9 f.tstamp
    else { s with whl := { s.whl with phaseKnown := f.phase } }
  let d := s.frameDist f
  let s : State := (s.moveClock d).framePos f
  let s : State := if d < 0 then (s.set F.WHL_ACLK_STAT_RETREAT 1).count F.WHL_RETREAT_CNT_COUNT else s
  let s : State := { s with ang := { s.ang with tag := f.tag } }
  let s : State := s.framePitch f
  let s : State := if d < 0 then s.backStep else s
  let s : State := s.slurSync false (syncOf f.sync) f.tstamp
  if s.clockRuns then s.edgeWork else s

/-- The clock starts on a frame. -/
def State.frameStart (f : AngleFrame) (s : State) : State :=
  let s : State := s.framePos f
  let s : State := { s with ang := { s.ang with at' := s.toothAt f.pos f.rev, frac := 0, tag := f.tag },
                            whl := { s.whl with phaseKnown := f.phase } }
  let s : State := s.framePitch f
  ((s.slurSync false (syncOf f.sync) f.tstamp).edgeWork)

/-- A frame whose values differ from the present ones acts (R468). -/
def State.frameActs (f : AngleFrame) (s : State) : State :=
  let runs := decide (2 ≤ f.sync) && decide (f.sync ≤ 4)
  if s.whl.last = some f.tstamp ∧ s.whl.pos = f.pos ∧ s.whl.sync.code = f.sync then s
  else if s.clockRuns && runs then s.frameEdge f
  else if runs then s.frameStart f
  else (s.framePos f).slurSync false (syncOf f.sync) f.tstamp

/-- An entry to ARMED that starts AUTO timers and engines (R349, R364) but no training. -/
def State.armedAuto (old : Mode) (s : State) : State := if s.sys.mode = .armed ∧ old ≠ .armed then s.tmrAuto.nibAuto else s

/-- The leader sleeps: the follower returns to ARMED without source or alarm, and stops expecting frames; training restarts only
when the leader enters ARMED again (R469). -/
def State.frameSleep (s : State) : State :=
  let old := s.sys.mode
  let s : State := if s.whl.sync = .idle then s.followSync else s.slurSync true .idle s.now
  let s : State := { s with whl := { s.whl with last := none, pos := 0, rev := false, phaseKnown := false }, slur := s.slur.rest }
  s.armedAuto old

/-- A frame that its CRC and its IDX make a valid angle frame (R464). -/
def frameValid (f : AngleFrame) : Bool := crc8 (angleBits f) 120 == f.crc && decide (f.idx ≤ 24)

/-- A received angle frame. One that ends LOST time restarts the count of R471. -/
def State.frameIn (f : AngleFrame) (s : State) : State :=
  let old := s.sys.mode
  let s : State := { s with slur := { s.slur with frameAt := s.now, rxFrame := some f, lostAt := none } }
  if f.lmode = 1 ∨ f.lmode = 2 then s.frameSleep else (s.frameActs f).armedIf old

/-- A frame with a wrong CRC is discarded and counted, one with a reserved IDX discarded (R464); a device whose link is lost or
trains takes no other either (Table 19.3). -/
def execAngleFrameReceive (f : AngleFrame) (s : State) : Host.Outcome State Fault Refusal :=
  .next (if s.follows && s.sys.mode.operating && crc8 (angleBits f) 120 != f.crc then s.count F.SET_CRC_CNT_COUNT
  else if s.expects && frameValid f then s.frameIn f else s)

/-! Losing the link (R470, R471) -/

/-- The follower's side of a loss: SUSPECT, sources 13 and 62, alarm 31, and an attempt at once. The time without a valid frame
counts from the last one, or where none has come since training from the loss. -/
def State.slurLost (s : State) : State :=
  let since := s.slur.lostAt.getD (if s.expects then s.slur.frameAt else s.now)
  let s : State := s.count F.SET_LOSS_CNT_COUNT
  let s : State := if s.whl.sync = .half ∨ s.whl.sync = .full then s.slurSync false .suspect s.now else s
  let s : State := (s.raise 62).alarm 31 0 (s.get F.SET_LOSS_CNT_COUNT) 0
  let s : State := { s with slur := { s.slur with lostAt := some since, owes := true } }
  s.beginTraining

/-- Eight slots of 51.2 ns have passed without a valid frame. -/
def State.slurLossDue (s : State) : Bool := s.expects && decide (328 ≤ elapsed s.slur.frameAt s.now)

/-- A valid angle frame of the same fabric cycle. -/
def isValidFrame : Instr → Bool
  | .angleFrameReceive f => frameValid f
  | _ => false

/-- Where a valid frame still waits in this fabric cycle, the frame stands (R470). -/
def execSlurLinkLoss (s : State) : Host.Outcome State Fault Refusal :=
  .next (if s.slurLossDue && !s.pending.any isValidFrame then s.slurLost else s)

/-- A write of SET_CTRL.RETRAIN: training starts, and on a follower it counts as a loss. -/
def State.retrainNow (s : State) : State :=
  if s.slurOn && s.sys.mode.operating then (if s.follower then s.slurLost else s.beginTraining) else s

/-- A write of SET_CTRL: RETRAIN starts training (R465). -/
def State.retrainWrite (p : Port) (v : Word) (s : State) : State := s.onWrite p (fun s => if v.bit 0 then s.retrainNow else s)

/-- RETRAIN (R465): A write of SET_CTRL.RETRAIN starts slur link training and counts as a loss. -/
def execRetrain (p : Port) (v : Word) (s : State) : Host.Outcome State Fault Refusal := .next (s.retrainWrite p v)

/-- After a loss training is attempted again every 1 ms. -/
def execSlurRetry (s : State) : Host.Outcome State Fault Refusal :=
  .next (if s.follows && s.sys.mode.operating && s.slur.state == 3 && decide (800000 ≤ elapsed s.slur.since s.now) then s.beginTraining
  else s)

/-- LOSS_T ms without a valid frame act as a stall (R471, R53). -/
def State.slurStallDue (s : State) : Bool :=
  s.follows && s.sys.mode.operating && (match s.slur.lostAt with
    | some t => decide (s.get F.SET_CFG_LOSS_T * 800000 ≤ elapsed t s.now)
    | none => false)

/-- A follower that hears nothing for LOSS_T acts as on a stall (R471). -/
def State.slurStall (s : State) : State :=
  let s : State := s.sync .idle 8 s.now
  { s with whl := { s.whl with last := none, pos := 0, rev := false }, slur := { s.slur with lostAt := none } }

/-- The follower acts as on a stall; where it enters ARMED, training starts (R465), and its retries go on (R471). -/
def execSlurLossTimeout (s : State) : Host.Outcome State Fault Refusal :=
  .next (if s.slurStallDue then s.slurStall.armedIf s.sys.mode else s)

/-- The leader receives neither echoes nor follower status. -/
def execUpstreamStatusLoss (s : State) : Host.Outcome State Fault Refusal :=
  .next (if s.leads && s.slur.state == 2 && !s.slur.ended then { s with slur := { s.slur with lost := true } } else s)

/-! Training (R465 to R467) -/

/-- The latency measured lies within R461: 2 to 25 ns, before it is rounded. -/
def State.hopLatOk (s : State) : Bool := decide (15232 ≤ 10 * s.slur.rtSum) && decide (10 * s.slur.rtSum ≤ 22592)

/-- The assignment agrees with the receiver's own wheel (ERR 3). -/
def State.sameWheel (s : State) (f : TrainFrame) : Bool :=
  f.n == s.teethN && f.m == s.teethM && f.tooth0 == s.get F.WHL_TOOTH0_ANG

/-- The downstream hop has trained, or there is none: the device runs. The number of devices below the next one reaches the
leader by means that the spec leaves open: a free value. -/
def State.hopDone (ended : Bool) (s : State) : State :=
  let n := if ended then 0 else 1 + s.draw.1.toNat % 3
  let s : State := if ended then s else s.draw.2
  { s with slur := { s.slur with state := 2, sending := false, ended := ended, lost := false,
                                  count := if s.follower then s.slur.count else n, dev := if s.follower then s.slur.dev else 0 } }

/-- The receiver steps its time base (R466), has its number, and goes on to train the hop below it. -/
def State.hopTaken (f : TrainFrame) (s : State) : State :=
  let d := f.launch + BitVec.ofNat 40 ((f.lat + 2) / 5) - s.slur.arr
  let now := s.now + d
  let s : State := { s with clk := { s.clk with tb := now },
                            slur := { s.slur with dev := f.dev, lat := f.lat, frameAt := now } }
  let s : State := if s.slur.owes then s.raise 62 else s
  { s with slur := { s.slur with lostAt := s.slur.lostAt.map (· + d), owes := false, state := 1, sending := true, step := 0, since := now,
                                  stepAt := now, rtSum := 0, rtN := 0, assign := none, toEcho := none } }

/-- The superframes of a step have passed: 4, 4 and 2 of 1,024 tb. -/
def State.stepOver (s : State) : Bool := decide ((if s.slur.step = 2 then 2048 else 4096) ≤ elapsed s.slur.stepAt s.now)

/-- The assignment that ends the receiver's training: its own wheel, and a number up to 3 (R465). -/
def State.assigned (s : State) : Option TrainFrame :=
  if s.slur.step = 2 then s.slur.assign.filter (fun f => s.sameWheel f && decide (f.dev < 4)) else none

/-- A step ends: the sender has had its superframes and, in STEP 1, four round trips within R461 and a number left for the
device below; the receiver has its assignment. -/
def State.stepDue (s : State) : Bool :=
  s.slurOn && s.slur.state == 1 && s.stepOver
    && (if s.slur.sending then s.slur.step != 1 || (s.slur.rtN == 4 && s.hopLatOk && decide (s.slur.dev < 3)) else s.assigned.isSome)

/-- The end of a training step of this hop, of the sender or of the receiver (R465). -/
def State.trainStep (s : State) : State :=
  let k := s.slur
  if k.sending then
    (if k.step < 2 then { s with slur := { k with step := k.step + 1, stepAt := s.now } } else s.hopDone false)
  else match s.assigned with
    | some f => s.hopTaken f
    | none => s

/-- TRAINING_STEP_DONE (R465): A training step's superframes end, and STEP 2 ends with the time-base step. -/
def execTrainingStepDone (s : State) : Host.Outcome State Fault Refusal := .next (if s.stepDue then s.trainStep else s)

/-- A receiver takes a training frame: word lock, in STEP 1 the frame of slot 0 of each superframe to echo (its launch time is a
multiple of 1,024 tb), or the first assignment. -/
def State.trainIn (f : TrainFrame) (arrival : Tb) (s : State) : State :=
  let s : State := if s.slur.state = 1 then s else s.beginTraining
  let k := s.slur
  let k : Slur := if f.step = k.step then k else { k with step := f.step, stepAt := s.now, assign := none }
  { s with slur :=
      if f.step = 2 then { k with assign := some (k.assign.getD f), arr := if k.assign.isNone then arrival else k.arr }
      else if f.step = 1 ∧ f.launch.toNat % 1024 = 0 then { k with toEcho := some (f, arrival) }
      else k }

/-- A wrong CRC is counted (R464). A device that runs, or that trains the hop below it, declares the loss first (R470). -/
def execTrainingFrameReceive (f : TrainFrame) (arrival : Tb) (s : State) : Host.Outcome State Fault Refusal :=
  .next (if s.follows && s.sys.mode.operating then
      if crc8 (trainBits f) 120 ≠ f.crc then s.count F.SET_CRC_CNT_COUNT
      else if s.slur.state != 2 && !s.slur.sending && decide (f.step < 3) then s.trainIn f arrival
      else s
    else s)

/-- An echo comes back with its round trip in 0.25 ns; none in STEP 0 means that nobody is below (R465). -/
def State.echo (rt : Option Nat) (s : State) : State :=
  let k := s.slur
  if k.step = 0 then (match rt with | none => s.hopDone true | some _ => s)
  else if k.step = 1 then
    match rt with
    | some x => if k.rtN < 4 then { s with slur := { k with rtSum := k.rtSum + x, rtN := k.rtN + 1 } } else s
    | none => s
  else s

/-- The receiver's echo is due 32 tb after the frame's last bit, 51.2 ns after its first. -/
def State.echoDue (s : State) : Bool :=
  s.follows && s.slur.state == 1 && !s.slur.sending && (match s.slur.toEcho with | some x => decide (73 ≤ elapsed x.2 s.now) | none => false)

/-- The receiver relaunches the frame unchanged upstream (R467). -/
def State.relaunch (s : State) : State := { s with slur := { s.slur with upFrame := s.slur.toEcho.map (·.1), toEcho := none } }

/-- On the receiver the echo goes out; on the sender it comes in. -/
def execTrainingEcho (rt : Option Nat) (s : State) : Host.Outcome State Fault Refusal :=
  .next (if s.slurOn && s.slur.state == 1 && s.slur.sending then s.echo rt else if s.echoDue then s.relaunch else s)

/-- Why an attempt has not finished (R465). -/
def State.trainErr (s : State) : Nat :=
  if s.slur.sending then (if s.slur.step = 1 ∧ s.slur.rtN = 4 then (if s.hopLatOk then 4 else 2) else 1)
  else match s.slur.assign with
    | none => 1
    | some f => if !s.sameWheel f then 3 else if 4 ≤ f.dev then 4 else 1

/-- An attempt fails 25.6 µs after its start, with alarm 31 (R471). -/
def State.trainFail (s : State) : State :=
  let e := s.trainErr
  let s : State := { s with slur := { s.slur with err := e, state := if s.slur.sending && s.follower then 2 else 3, sending := false } }
  s.alarm 31 1 e 0

/-- TRAINING_TIMEOUT (R465): An attempt not finished within 25.6 µs fails with ERR. -/
def execTrainingTimeout (s : State) : Host.Outcome State Fault Refusal :=
  .next (if s.slurOn && s.slur.state == 1 && decide (20480 ≤ elapsed s.slur.since s.now) then s.trainFail else s)

/-- At each superframe a follower measures the difference of its time base to its sender's, in 0.25 ns, and slews by at
most 1 tb toward agreement (R466). -/
def execTimeBaseSlew (diff : Int) (s : State) : Host.Outcome State Fault Refusal :=
  .next (if s.expects then
    let tb := if 5 < 2 * diff then s.now - 1 else if 2 * diff < -5 then s.now + 1 else s.now
    { s with slur := { s.slur with offs := clampI (-32768) 32767 diff }, clk := { s.clk with tb := tb } }
  else s)

end Sys2Proof.Machine
end

