-- ==== Sys2Proof/Machine/Boot.lean ====
section
/-! DEFINITION. Entry to ARMED, sleep, reset and boot (chapter 16): what each keeps and what it loses. -/

namespace Sys2Proof.Machine

/-! Entry to ARMED and to sleep -/

/-- Entry to ARMED from SETUP or BOOT: the boost rails ramp, windows open, timers, engines, guardians and training start, and
the time of R268 without the host begins. A die link that is lost is decided anew as SAFESTOP cause 1 (R405). -/
def State.enterArmed (s : State) : State :=
  let s : State := { s with hif := { s.hif with heardAt := s.now, silent := false } }
  let s : State := (s.setMode .armed).boostBegin.boostFresh
  let s : State := ((s.timeWinsOpen).grdEnter).armedStart
  if s.clk.dieTrained then s else s.safestop 1

/-- The target that stays open in VIGIL (R321, R330). -/
def State.vigilTarget (s : State) (vigil : Bool) : Option Nat :=
  if vigil && s.flag F.ADC_VIGIL_EN then some (s.target 4 (s.get F.ADC_VIGIL_ENTRY)) else none

/-- Step 1 of a sleep entry (R411): the windows close, and the drain begins. -/
def State.sleepBegin (vigil : Bool) (s : State) : State :=
  let s : State := s.winsLeave (s.vigilTarget vigil)
  { s with sys := { s.sys with sleep := some { vigil := vigil, since := s.now } },
           grds := s.grds.map (fun x => { x with prsnWake := false }) }

/-- The entry is cancelled: the device is in ARMED again and says so in the status line. -/
def State.sleepCancel (s : State) : State :=
  let s : State := ({ s with sys := { s.sys with sleep := none } } : State).timeWinsOpen
  if s.ringEngine then s.writeStatus s.sys.mode.code else s

/-- Steps 3 to 5: the gates fall, guardians and timers go to sleep, the link rests, and the fast domains lose power. -/
def State.asleepNow (vigil : Bool) (s : State) : State :=
  let s : State := s.leaveArmed.killAll markOc
  let s : State := ((((s.grdSleep).tmrSleep).evcSleep).nibSleep).dropSession
  let s : State := s.setMode (if vigil then .vigil else .dormant)
  { s with
    clk := { s.clk with tbRun := false, refOk := false, pllLock := false, dieTrained := false, dieLostAt := none,
                        qreq := List.replicate 4 none, qrun := List.replicate 4 false,
                        qidle := List.replicate 4 none, slot := false },
    regs := { s.regs with same := Same.none },
    sys := { s.sys with sleep := none, wakeOut := false, idleSince := none },
    hif := { s.hif with l1 := s.hif.up, l12 := s.hif.up && s.hif.ctl.aspmL12 && s.flag F.HIF_CFG_CLKREQ_EN, dbReads := 0, turn := none },
    slur := s.slur.rest,
    adc := { s.adc with vigilAon := s.clk.aon } }

/-! Resets -/

/-- What MRAM and fuses hold survives everything (R422); the queue, the last answers and the free values are no part of the
device. -/
def State.mramOnly (s : State) : State :=
  let r := State.reset
  { r with
    part := s.part,
    regs := { r.regs with image := s.regs.image, imgKind := s.regs.imgKind },
    sec := { r.sec with ikey := s.sec.ikey, journal := s.sec.journal, counter := s.sec.counter, opseq := s.sec.opseq,
                        chainO := s.sec.chainO, chainI := s.sec.chainI, alarm90 := s.sec.alarm90, nonces := s.sec.nonces },
    tst := { r.tst with record := s.tst.record, marks := s.tst.record },
    ans := s.ans, freeCtr := s.freeCtr, pending := s.pending }

/-- A live word of the always-on domain (R412), and the words that DORMANT and VIGIL keep besides. -/
def aonWord (a : Nat) : Bool := a == R.SYS_WAKECFG || a == R.SYS_WAKESTAT || a == R.SYS_RSTCAUSE || a == R.SYS_SAFESTAT
/-- The words that DORMANT and VIGIL keep beside the image and the AON part (R412, R270, R359). -/
def sleepWord (a : Nat) : Bool :=
  aonWord a || (decide (0x900 ≤ a) && decide (a < 0xC00)) || (decide (R.TMR_CFG 0 ≤ a) && decide (a ≤ R.TMR_CATCHUP))
    || (decide (0x1F000 ≤ a) && decide (a < 0x1F080)) || a == R.WHL_COARSE_CNT || a == R.WHL_COARSE_STAMP

/-- Guardian inputs that the always-on part watches. -/
def Grd.pins (x : Grd) : Grd := { Grd.initial with pin := x.pin, prsn := x.prsn, pinAt := x.pinAt, left := x.left }

/-- The latches of the analogue die: a reset is none of the ways in which R25 lets one clear (log entry 41). -/
def Grd.latchOnly (x : Grd) : Grd := { x.pins with trip := x.trip, tripSeen := x.tripSeen }
/-- A channel of which a reset keeps the trip latch alone (R25; log entry 41). -/
def Chan.latchOnly (c : Chan) : Chan := { Chan.initial with oc := c.oc, ocSeen := c.ocSeen }
/-- A bank of which a reset keeps the trip latch alone (R25; log entry 41). -/
def Bank.latchOnly (b : Bank) : Bank := { Bank.initial with oc := b.oc, ocSeen := b.ocSeen }

/-- A COMMIT is writing MRAM: its checks have passed and the write has begun. -/
def State.mramWriting (s : State) : Bool := match s.sec.commit with | some k => s.busyFor k.wr | none => false

/-- SYS_RSTCAUSE [4:0]. -/
def rstBits : Fld := ⟨R.SYS_RSTCAUSE, 0, 5⟩

/-- All but the always-on domain and the trip latches is reset (Table 16.4, R25): BOOT at a step, with bit c of SYS_RSTCAUSE. -/
def State.warmReset (c step : Nat) (s : State) : State :=
  let r := s.mramOnly
  let t : State := { r with
    clk := { r.clk with aon := s.clk.aon, aonPhase := s.clk.aonPhase, aonXtal := s.clk.aonXtal },
    regs := { r.regs with live := s.regs.live.filter (fun x => aonWord x.1) },
    sys := { r.sys with mode := .boot, prev := s.sys.mode, req := s.sys.req, result := s.sys.result, bootStep := step,
                        bootSince := s.clk.aon, safeCause := s.sys.safeCause, safeActive := s.sys.safeActive },
    hif := { r.hif with perst := s.hif.perst },
    grds := s.grds.map Grd.latchOnly,
    sch := { r.sch with chans := s.sch.chans.map Chan.latchOnly }, banks := s.banks.map Bank.latchOnly,
    evc := { r.evc with ext := s.evc.ext }, jtag := s.jtag }
  t.setBit rstBits c

/-- The boot that a wake starts keeps what R412 lists, and charges the device account, which starts at DEV_ALLOW (R226). Its
configuration is loaded in step 6, and a deficit shows then. -/
def State.wakeBoot (s : State) : State :=
  let r := s.warmReset 4 1
  let h := s.hif
  let k : State := { r with
    regs := { r.regs with live := (s.regs.live.filter (fun x => sleepWord x.1 && x.1 != R.SYS_RSTCAUSE))
                            |> WMap.put R.SYS_RSTCAUSE (r.word R.SYS_RSTCAUSE) },
    sys := { r.sys with bootWake := true, missing := s.sys.missing },
    hif := { r.hif with speed := h.speed, width := h.width, up := h.up, cold := h.cold, ctl := h.ctl, bme := h.bme, msixEn := h.msixEn, fmask := h.fmask, d3 := h.d3,
                        vecPend := h.vecPend, rings := h.rings, rr := h.rr, alarms := h.alarms, kinds := h.kinds, sweep := h.sweep,
                        reported := h.reported, hbCtr := h.hbCtr, cqFull := h.cqFull, tlps := h.tlps },
    grds := s.grds, tmrs := s.tmrs,
    whl := { r.whl with coarse := s.whl.coarse } }
  { k with ink := { k.ink with charges := [(k.clk.aon, 450000)], devArmed := true } }

/-! Boot (Table 16.3) -/

/-- The bits of a register that the image holds (R434, R20). -/
def imageMask (a : Nat) : Nat :=
  if 0x20000 ≤ a then 0xFFFFFFFF else match rowAt a with | some (r, _) => r.i ||| (r.o &&& r.img) | none => 0

/-- The image's words over the live ones; a wake keeps the timer registers (R412). -/
def loadWords (keepTmr : Bool) (image live : WMap) : WMap :=
  image.foldl (fun m x =>
    if keepTmr && decide (R.TMR_CFG 0 ≤ x.1) && decide (x.1 ≤ R.TMR_CATCHUP) then m
    else WMap.put x.1 (mergeMask (imageMask x.1) (WMap.word m x.1) x.2) m) live

/-- The pass runs at this boot (R448). -/
def State.passAtBoot (s : State) : Bool := !s.sys.bootWake || s.flag F.SYS_WAKECFG_TST_WAKE

/-- A pass starts: its report begins afresh. -/
def State.passBegin (boot : Bool) (s : State) : State :=
  { s with tst := { s.tst with running := true, boot := boot, refused := false, blockA := 0, blockB := 0, nextA := 1, nextB := 16,
                               since := s.now, fail := [], skip := [], first := none } }

/-- Step 6: the image is loaded if its CMAC checks, and what follows live set-up follows it. -/
def State.loadImage (s : State) : State :=
  let ok := s.regs.imgKind == 0
  let s : State := if ok then { s with regs := { s.regs with live := loadWords s.sys.bootWake s.regs.image s.regs.live,
                                                              shadow := s.regs.image } } else s
  let s : State := { s with sys := { s.sys with image := s.regs.imgKind, bootStep := 6, tstRan := s.passAtBoot } }
  let s : State := s.grdLive.nibMargins.levelsSettle
  let s : State := ({ s with ink := { s.ink with devArmed := s.ink.devArmed || decide (0 ≤ s.devBal) } } : State).watchDev
  let s : State := (upTo 96).foldl (fun (s : State) n => s.logIdle n) s
  if s.passAtBoot then s.passBegin true else s

/-- The duration of this boot by the AON clock, in 10 µs units. -/
def State.bootTime (s : State) : Nat := min ((s.clk.aon - s.sys.bootSince) * 100000 / 32768) 65535

/-- Step 8: the next mode (Table 16.1). -/
def State.bootEnd (s : State) : State :=
  let s : State := { s with sys := { s.sys with bootT := s.bootTime, bootStep := 8 } }
  let s : State := if s.sys.bootWake then s.grdWake else s
  if s.sys.image ≠ 0 then s.setMode .setup
  else if s.sys.bootWake then s.enterArmed
  else match s.get F.SYS_MODECFG_BOOT_TO with
    | 0 => s.enterArmed
    | 3 => s.setMode .setup
    | n => s.asleepNow (n == 2)

/-! The die link and the reference (R27, R28, R421) -/

/-- The die link is lost (R28): an alarm, every thread and LOG output ends, the gates are low, and SAFESTOP with cause 1. -/
def State.dieLoss (s : State) : State :=
  let s : State := (s.alarm 13 0 0 0).killAll markOc
  let s : State := { s with clk := { s.clk with dieTrained := false, dieLostAt := some s.now } }
  s.safestop 1

/-- The link is trained: cause 1 no longer holds, and idle LOG outputs stand at their levels. -/
def State.dieBack (s : State) : State :=
  let s : State := { s with clk := { s.clk with dieTrained := true, dieLostAt := none },
                            sys := { s.sys with safeActive := s.sys.safeActive.filter (fun c => c != 1) } }
  (upTo 96).foldl (fun (s : State) n => s.logIdle n) s

end Sys2Proof.Machine
end

