-- ==== Sys2Proof/Machine/Sorter.lean ====
section
/-! DEFINITION. The Ductus sorter (chapter 4): the checks of Table 4.3, the store entry of an admitted event, and the tag
operations. -/

namespace Sys2Proof.Machine

/-! Admission (R98, Table 4.3) -/

/-- Table 4.3: the first failing check's code. gone counts the events that a REPLACE takes away. -/
def State.admitCheck (s : State) (d : Descriptor) (gone : Nat) : Option Nat :=
  let n := d.ch
  if !s.chThere n then some Code.absent
  else if d.anchor = 3 ∨ cycleAt ≤ d.ang ∨ d.dur = 0 ∨ (d.durAngle ∧ cycleAt < d.dur) then some Code.badAnchor
  else if s.liveMode n ≠ 4 ∧ s.get (F.REED_PDIR_KIND (n / 24) d.phrase) ≠ s.liveMode n then some Code.badPhrase
  else if min (s.get (F.SCH_CHCFG_QMAX n) + 1) 64 ≤ s.depth n - gone then some Code.queueFull
  else none

/-- A free store number. -/
def State.freeId (s : State) : Nat :=
  let c := s.sch.nextId
  if (s.event c).isNone then c
  else ((List.range 16384).find? (fun i => (s.event ((c + i) % 16384)).isNone)).elim c (fun i => (c + i) % 16384)

/-- The store entry of an admitted descriptor, placed by R99 to R101. -/
def State.newEvent (s : State) (id src : Nat) (d : Descriptor) (count : Nat) : Event :=
  let n := d.ch
  let p := if d.tagged then (d.ang, d.ctag) else s.angleAt (s.nearest n d.ang cycleAt)
  { id := id, ch := n, src := src, phrase := d.phrase, run := d.phrase, anchor := d.anchor, lockTime := d.w0.bit 16,
    eclass := if d.eclass = 7 then s.get (F.SCH_CHCFG_DEF_CLASS n) else d.eclass, trace := d.w0.bit 22, tag := d.w1,
    ang := p.1, ctag := p.2, tagged := d.tagged, dur := d.dur, durAngle := d.durAngle,
    params := [d.w5.bits 0 16, d.w5.bits 16 16, d.w6.bits 0 16, d.w6.bits 16 16],
    start := if d.anchor = 1 then .time (BitVec.ofNat 40 (d.w3.toNat + d.w4.bits 0 8 * 2 ^ 32)) else .angle,
    half := none, conv := false, delay := d.w3.toNat, phase := .waiting, durTb := none,
    flags := { late := false, shifted := false, merged := false, subst := false, trunc := false, noKink := false, oc := false,
               twin := false },
    cause := none, refused := false, shift := 0, waited := 0, sched := 0, lateTb := 0, startT := 0, endT := 0, startAng := 0, startTag := 0, endAng := 0,
    angValid := false, ipeak := 0, mark0 := none, mark1 := none, eBoost := 0, eRail := 0, closing := .awaited, chain := none,
    count := count, ran := false, begun := false }

/-- Admit a descriptor whose checks have passed. -/
def State.admitNew (src : Nat) (d : Descriptor) (count : Nat) (s : State) : State :=
  let id := s.freeId
  let e := s.convertEvent (s.newEvent id src d count)
  let s := { s with sch := { s.sch with store := s.sch.store ++ [e], nextId := (id + 1) % 16384 } }
  (s.count F.SCH_ADMIT_CNT_COUNT).watchStore

/-- Reject a descriptor (R98). -/
def State.reject (src : Nat) (d : Descriptor) (code : Nat) (s : State) : State :=
  (s.short code d.ch src 0 d.w1).count F.SCH_REJ_CNT_COUNT

/-- The event's start falls in this very fabric cycle, in which a tag operation does not reach it (R116). -/
def State.starting (s : State) (e : Event) : Bool :=
  match s.nextReleased e.ch with
  | some x => x.id == e.id && !s.latched e.ch && s.startsBy e (64 + (1 - (s.now.toNat % 2 : Nat) : Nat))
  | none => false

/-- The events of the descriptor's channel that a tag operation takes away: not started, and of its TAG unless all. -/
def State.matching (s : State) (d : Descriptor) (all : Bool) : List Nat :=
  (s.sch.store.filter (fun e => e.ch == d.ch && e.unstarted && (all || e.tag == d.w1) && !s.starting e)).map (fun e => e.id)

/-- CANCEL and CANCEL_ALL (R113, R115): one result with the number of events removed. -/
def State.cancelOp (src : Nat) (d : Descriptor) (all : Bool) (s : State) : State :=
  if s.chThere d.ch then
    let ids := s.matching d all
    (ids.foldl (fun (s : State) id => s.remove id) s).short Code.ok d.ch src ids.length d.w1
  else s.reject src d Code.absent

/-- NEW: the checks of Table 4.3, then the store (R98). -/
def State.newOp (src : Nat) (d : Descriptor) (s : State) : State :=
  match s.admitCheck d 0 with
  | some c => s.reject src d c
  | none => s.admitNew src d 0

/-- REPLACE (R114): removal and admission in one step; where a check fails nothing is removed. -/
def State.replaceOp (src : Nat) (d : Descriptor) (s : State) : State :=
  let ids := s.matching d false
  match s.admitCheck d ids.length with
  | some c => s.reject src d c
  | none => (ids.foldl (fun (s : State) id => s.remove id) s).admitNew src d ids.length

/-- A descriptor does what its OP says (Table 4.2). -/
def State.submit (src : Nat) (d : Descriptor) (s : State) : State :=
  match d.op with
  | 0 => s.newOp src d
  | 1 => s.replaceOp src d
  | 2 => s.cancelOp src d false
  | _ => s.cancelOp src d true

/-- The next descriptor of SQ sq arrives: it acts when the SQ is served, and the ring's index moves past it. -/
def State.arrive (sq : Nat) (d : Descriptor) (s : State) : State :=
  if s.sqReady sq then (s.submit sq d).advance sq else s

/-- A NEW descriptor on SQ sq (R98). -/
def execNew (sq : Nat) (d : Descriptor) (s : State) : Host.Outcome State Fault Refusal := .next (s.arrive sq d)

/-- A REPLACE descriptor (R114). -/
def execReplace (sq : Nat) (d : Descriptor) (s : State) : Host.Outcome State Fault Refusal := .next (s.arrive sq d)

/-- A CANCEL descriptor (R113). -/
def execCancel (sq : Nat) (d : Descriptor) (s : State) : Host.Outcome State Fault Refusal := .next (s.arrive sq d)

/-- A CANCEL_ALL descriptor (R115). -/
def execCancelAll (sq : Nat) (d : Descriptor) (s : State) : Host.Outcome State Fault Refusal := .next (s.arrive sq d)

end Sys2Proof.Machine
end

