-- ==== Sys2Proof/Machine/Modes.lean ====
section
/-! DEFINITION. The commands of the mode controller (chapter 16, R27, R28): requests, sleep and wake, SAFESTOP causes, the
fallback plan, resets and boot. -/

namespace Sys2Proof.Machine

/-! Requests (R403) -/

/-- The lowest role for a requested code from the present mode; none where Table 16.1 has no such transition. -/
def State.requestRole (s : State) (code : Nat) : Option Nat :=
  match s.sys.mode, code with
  | .armed, 1 | .armed, 2 => some 0
  | .safestop, 6 => some (b2n (s.flag F.SYS_SAFECFG_EXIT_I))
  | .setup, 6 | .armed, 4 => some 1
  | .setup, 5 | .maint, 4 => some 2
  | m, 11 => if m.engine then some 0 else none
  | _, _ => none

/-- SCH_FREE is below 16,384, or a thread runs. -/
def State.workOut (s : State) : Bool := !s.sch.store.isEmpty || s.banks.any (fun b => b.threads.any Thread.run)

/-- RESULT of a request: the first reason that applies in the order 2, 1, 4, 3, 5, or 0. -/
def State.requestResult (s : State) (p : Port) (code : Nat) : Nat :=
  match s.requestRole code with
  | none => 2
  | some role =>
    if s.roleOf p < role then 1
    else if s.sys.mode = .safestop ∧ s.sys.safeActive ≠ [] then 4
    else if s.sys.mode = .armed ∧ code ≠ 11 ∧ s.workOut then 3
    else if s.sys.mode = .setup ∧ code = 6 ∧ (s.sys.image ≠ 0 ∨ s.regs.dirty ≠ []) then 5
    else 0

/-- A successful exit from SAFESTOP (R409), journalled as KIND 9. -/
def State.exitSafestop (role port : Nat) (s : State) : State :=
  let s : State := s.journal (act role port 9 s.sys.safeCause)
  let s : State := (s.setMode s.whl.sync.mode).boostBegin.boostFresh
  let s : State := (upTo 96).foldl (fun (s : State) n => s.logIdle n) s
  let s : State := s.holdWaiting.armedIf .safestop
  if (s.sys.mode = .half ∨ s.sys.mode = .full) ∧ s.sys.fbPend then s.fallbackNow s.sys.fbCause else s

/-- MAINT is left through a reset (R403, R422), journalled as KIND 11. -/
def State.maintExit (p : Port) (s : State) : State :=
  let s : State := s.journal (act (s.roleOf p) (portNum p) 11 1)
  s.warmReset 3 1

/-- ARMED is left for SETUP: windows close, and the boost rails and the slur link rest. -/
def State.toSetup (s : State) : State :=
  let s : State := (s.leaveArmed.winsLeave none).setMode .setup
  { s with sys := { s.sys with sleep := none, idleSince := none }, slur := s.slur.rest }

/-- The transition that an accepted request asks for. -/
def State.carryOut (p : Port) (code : Nat) (s : State) : State :=
  match s.sys.mode, code with
  | .armed, 1 => s.sleepBegin false
  | .armed, 2 => s.sleepBegin true
  | .armed, 4 => s.toSetup
  | .maint, 4 => s.maintExit p
  | .setup, 5 => (s.journal (act (s.roleOf p) (portNum p) 11 0)).setMode .maint
  | .setup, 6 => s.enterArmed
  | .safestop, 6 => s.exitSafestop (s.roleOf p) (portNum p)
  | _, 11 => s.safestop 2
  | _, _ => s

/-- A request is judged, and carried out where it is accepted. -/
def State.modeJudge (p : Port) (code : Nat) (s : State) : State :=
  let r := s.requestResult p code
  let s : State := { s with sys := { s.sys with req := code, result := r, asked := none } }
  if r = 0 then s.carryOut p code else if r = 1 then s.deny p else s

/-- The happenings that come before a host request of the same fabric cycle: resets, SAFESTOP causes and what moves the wheel tracker
(R405). -/
def outranks : Instr → Bool
  | .softwareReset _ _ | .brownoutReset _ | .powerLoss => true
  | .safestopSupply | .safestopTemperature | .stopPin | .dieLinkLoss | .referenceLoss | .dataLinkDown _ | .hostSilence => true
  | .crankEdge _ _ _ | .camEdge _ _ _ _ _ | .stall | .angleFrameReceive _ | .slurLossTimeout => true
  | _ => false

/-- A write of a code to SYS_MODEREQ. Where commands that come before it wait in the queue, it is judged after them, in the mode that they
leave (R405). -/
def State.modeRequest (p : Port) (code : Nat) (s : State) : State :=
  s.onWrite p (fun s =>
    if s.pending.any outranks then { s with sys := { s.sys with asked := some (p, code) } } else s.modeJudge p code)

/-- A request that has waited is judged. -/
def State.askedNow (s : State) : State := match s.sys.asked with | some (p, code) => s.modeJudge p code | none => s

/-- MODE_REQUEST_DORMANT (R403): A write of DORMANT or VIGIL to SYS_MODEREQ starts the entry to sleep. -/
def execModeRequestDormant (p : Port) (vigil : Bool) (s : State) : Host.Outcome State Fault Refusal :=
  .next (s.modeRequest p (if vigil then 2 else 1))
/-- MODE_REQUEST_SAFESTOP (R406): A write of 0xB to SYS_MODEREQ enters SAFESTOP with cause 2. -/
def execModeRequestSafestop (p : Port) (s : State) : Host.Outcome State Fault Refusal := .next (s.modeRequest p 11)
/-- MODE_REQUEST_SETUP (R403): An installer request moves an ARMED device with an empty store to SETUP. -/
def execModeRequestSetup (p : Port) (s : State) : Host.Outcome State Fault Refusal := .next (s.modeRequest p 4)
/-- MODE_REQUEST_ARMED (R403): An installer request moves SETUP to ARMED when the image is valid and nothing is uncommitted. -/
def execModeRequestArmed (p : Port) (s : State) : Host.Outcome State Fault Refusal := .next (s.modeRequest p 6)

/-- A write of MAINT. -/
def execModeRequestMaint (p : Port) (s : State) : Host.Outcome State Fault Refusal := .next (s.modeRequest p 5)

/-- A write of SETUP while in MAINT: the device resets; in any other mode the same write is the request of SETUP. -/
def execModeRequestMaintExit (p : Port) (s : State) : Host.Outcome State Fault Refusal := .next (s.modeRequest p 4)

/-! Sleep (R410, R411) -/

/-- The conditions of R410 hold. -/
def State.idleNow (s : State) : Bool :=
  s.sys.mode == .armed && s.sys.sleep.isNone && s.sch.store.isEmpty
    && (upTo 8).all (fun g => (s.grd g).st != .ramp && (s.grd g).st != .retryWait)
    && s.hif.rings.all (fun x => !x.active || x.idx == x.host)

/-- The idle count runs while the conditions hold, and starts again where they do not. -/
def State.markSleep (s : State) : State :=
  { s with sys := { s.sys with idleSince := if s.idleNow then some (s.sys.idleSince.getD s.clk.aon) else none } }

/-- IDLE_T seconds of idleness. -/
def State.idleDue (s : State) : Bool :=
  let t := s.get F.SYS_MODECFG_IDLE_T
  s.idleNow && t != 0 && (match s.sys.idleSince with | some a => decide (a + t * 32768 ≤ s.clk.aon) | none => false)

/-- IDLE_TIMEOUT (R410): IDLE_T seconds of idleness in ARMED start the entry to the SLEEP_TO mode. -/
def execIdleTimeout (s : State) : Host.Outcome State Fault Refusal :=
  .next (if s.idleDue then s.sleepBegin (s.flag F.SYS_MODECFG_SLEEP_TO) else s)

/-- No staged record can be written any more. -/
def State.drained (s : State) : Bool :=
  !s.ringEngine || (!s.alarmDue && s.resultDue.isNone && (s.teleDue s.hif.tele).isNone && s.traceDue.isNone
    && !(upTo 19).any (fun r => s.gapDue r))

/-- Step 2 is done: no result or completion waits, nothing is outstanding, and no long operation but a tuning pass holds the port. -/
def State.sleepReady (s : State) : Bool :=
  s.drained && s.hif.results.isEmpty && !s.workOut && (s.busyOp == 0 || s.busyOp == 4)

/-- The end of step 2 and the steps to the commit point. -/
def State.sleepGo (k : Sleep) (s : State) : State :=
  let s : State := if s.ringEngine then s.writeStatus (if k.vigil then 2 else 1) else s
  (s.discardStaging).asleepNow k.vigil

/-- SLEEP_COMMIT (R411): The drain done, the gates fall, the link rests and the fast domains lose power. -/
def execSleepCommit (s : State) : Host.Outcome State Fault Refusal :=
  .next (match s.sys.sleep with
    | some k => if s.sys.mode == .armed && s.sleepReady then s.sleepGo k else s
    | none => s)

/-- The wait at step 2 has lasted longer than 100 ms. -/
def execSleepWaitTimeout (s : State) : Host.Outcome State Fault Refusal :=
  .next (match s.sys.sleep with
    | some k =>
      if 80000000 < elapsed k.since s.now then
        let s : State := s.sleepCancel
        { s with sys := { s.sys with result := 3 } }
      else s
    | none => s)

/-! Wake (R413) -/

/-- The source is enabled, and for a guardian its condition holds (R254). -/
def State.wakes (s : State) : WakeSrc → Bool
  | .key => s.flag F.SYS_WAKECFG_KEY_EN
  | .input => s.flag F.SYS_WAKECFG_IN_EN
  | .crank => s.flag F.SYS_WAKECFG_CRK_EN && s.crankUsable
  | .prsn g => s.grdWakes g true
  | .trip g => s.grdWakes g false

/-- SYS_WAKESTAT of a wake. -/
def wakeBits : WakeSrc → Nat
  | .key => 1
  | .input => 2
  | .crank => 4
  | .prsn g => 8 + 2 ^ (8 + g)
  | .trip g => 16 + 2 ^ (8 + g)

/-- The wake: its source is recorded, BOOT starts, WAKE_OUT goes high, and WAKE_N asks for service in D3cold (R272). -/
def State.wake (w : WakeSrc) (s : State) : State :=
  let cold := s.hif.perst || !s.hif.up
  let s : State := (s.putWord R.SYS_WAKESTAT (Word.ofN (wakeBits w))).wakeBoot
  { s with sys := { s.sys with wakeN := cold } }

/-- WAKE_DECISION (R413): A qualified wake source cancels a sleep entry before its commit point, or wakes the device through BOOT. -/
def execWakeDecision (w : WakeSrc) (s : State) : Host.Outcome State Fault Refusal :=
  .next (if !s.wakes w then s else if s.sys.sleep.isSome then s.sleepCancel else if s.sys.mode.asleep then s.wake w else s)

/-! SAFESTOP (R406) -/

/-- SAFESTOP_SUPPLY (R406): VGD or VBAT below its threshold for 10 µs enters SAFESTOP with cause 3. -/
def execSafestopSupply (s : State) : Host.Outcome State Fault Refusal := .next (s.safestop 3)
/-- SAFESTOP_TEMPERATURE (R406): A die above 165 °C for 100 µs enters SAFESTOP with cause 4. -/
def execSafestopTemperature (s : State) : Host.Outcome State Fault Refusal := .next (s.safestop 4)

/-- The stop pin, while STOP_EN is 1. -/
def execStopPin (s : State) : Host.Outcome State Fault Refusal := .next (if s.flag F.SYS_SAFECFG_STOP_EN then s.safestop 6 else s)

/-- A cause stops holding. Causes 1 and 5 follow the die link, the PCIe link and the host (Table 16.2). -/
def State.causeOver (s : State) (c : Nat) : Bool :=
  if c = 1 then s.clk.dieTrained else if c = 5 then s.hif.up && !s.hif.silent else true

/-- SAFESTOP_CAUSE_CLEARED (R406): A SAFESTOP cause stops holding, and its ACTIVE bit clears. -/
def execSafestopCauseCleared (c : Nat) (s : State) : Host.Outcome State Fault Refusal :=
  .next (if s.causeOver c then { s with sys := { s.sys with safeActive := s.sys.safeActive.filter (fun x => x != c) } } else s)

/-! The die link and the reference -/

/-- DIE_LINK_LOSS (R28): After 500 ns with no valid frame the die link is declared lost: the gates are held low, threads end, an alarm is
placed and SAFESTOP is entered. -/
def execDieLinkLoss (s : State) : Host.Outcome State Fault Refusal := .next (if s.clk.dieTrained then s.dieLoss else s)

/-- The one attempt to train, 100 µs after the loss. -/
def execDieLinkRetrain (ok : Bool) (s : State) : Host.Outcome State Fault Refusal :=
  .next (match s.clk.dieLostAt with
    | some t =>
      if elapsed t s.now < 80000 then s
      else if ok then s.dieBack else { s with clk := { s.clk with dieLostAt := none } }
    | none => s)

/-- The reference or the PLL lock is lost (R421): the fabric clock stops, and the gates fall as at a die-link loss. -/
def execReferenceLoss (s : State) : Host.Outcome State Fault Refusal :=
  .next (if s.clk.tbRun then
    let s : State := s.dieLoss
    { s with clk := { s.clk with refOk := false, pllLock := false, tbRun := false, dieLostAt := none, qreq := List.replicate 4 none,
                                  qrun := List.replicate 4 false, slot := false },
             regs := { s.regs with same := Same.none } }
  else s)

/-- The AON clock changes to the crystal (R420). -/
def execAonCrystalSwitch (s : State) : Host.Outcome State Fault Refusal :=
  .next (if s.flag F.SYS_CLKCFG_AON_SRC && s.sys.mode != .off then { s with clk := { s.clk with aonXtal := true } } else s)

/-! The fallback plan (R414 to R418) -/

/-- Entry e of the plan as a NEW descriptor with TAGGED = 0. -/
def State.planDesc (s : State) (e : Nat) : Descriptor :=
  let w := s.planWord e
  { w0 := setBits (w 0) 20 2 0, w1 := w 1, w2 := setBits (w 2) 30 1 0, w3 := w 3, w4 := Word.ofN ((w 4).bits 0 8), w5 := w 5, w6 := w 6,
    w7 := w 7 }

/-- The cycle tag of the moment at which entry e was last passed. -/
def State.planTag (s : State) (e : Nat) : Nat := if s.planAngle e ≤ s.ang.at' then s.ang.tag else (s.ang.tag + 255) % 256

/-- An entry is admitted, or rejected with its code: QUEUE_FULL also where the store is full. -/
def State.planAdmit (e : Nat) (s : State) : State :=
  let d := s.planDesc e
  let code := if s.free = 0 then some Code.queueFull else s.admitCheck d 0
  let s : State := { s with sys := { s.sys with fbDue := s.sys.fbDue.filter (fun x => x != e),
                                                fbDone := assocPut e (s.planTag e) s.sys.fbDone } }
  match code with
  | some c => if s.flag F.HIF_FBCFG_FB_RES then s.reject 8 d c else s.count F.SCH_REJ_CNT_COUNT
  | none =>
    let s : State := s.admitNew 8 d 0
    { s with sys := { s.sys with fbAdmitted := min (s.sys.fbAdmitted + 1) 65535 } }

/-- The entry has come due in a mode that admits it, and not yet in this cycle. -/
def State.planDue (s : State) (e : Nat) : Bool :=
  s.sys.fbFlag && s.clockRuns && s.sys.mode != .safestop && s.sys.fbDue.contains e && s.planTakes e
    && assocGet e s.sys.fbDone != some (s.planTag e)

/-- FALLBACK_ADMISSION (R417): While the fallback flag is set, a plan entry is admitted as the clock passes ANG − LEAD. -/
def execFallbackAdmission (e : Nat) (s : State) : Host.Outcome State Fault Refusal := .next (if s.planDue e then s.planAdmit e else s)

/-- SYS_FBIDX as one number: entry × 8 + word. -/
def fbIndex : Fld := ⟨R.SYS_FBIDX, 0, 12⟩

/-- An access to SYS_FBDATA (R415): it reads the live plan, or writes the shadow plan by the installer, and advances WORD. -/
def State.fbAccess (p : Port) (w : Option Word) (s : State) : State :=
  let i := s.get fbIndex
  let a := planAddr (i / 8) (i % 8)
  let s : State := match w with
    | none => s.answer (s.word a).toNat
    | some v =>
      if s.isInstaller p then (s.putShadow a v).markDirty a (s.roleOf p)
      else if v ≠ s.shadowWord a then s.deny p else s
  s.set fbIndex ((i + 1) % 4096)

/-- FBDATA_ACCESS (R415): An access to SYS_FBDATA reads or writes a plan word, then advances WORD. -/
def execFbdataAccess (p : Port) (w : Option Word) (s : State) : Host.Outcome State Fault Refusal :=
  .next (match w with
    | none => s.onRead p (fun s => s.fbAccess p none)
    | some v => s.onWrite p (fun s => s.fbAccess p (some v)))

/-! Resets and boot (R422, R423) -/

/-- A write of SYS_RESET: 0x5EED by the installer resets. -/
def State.softReset (p : Port) (v : Word) (s : State) : State :=
  s.onWrite p (fun s =>
    if s.isInstaller p then (if v.bits 0 16 = 0x5EED then s.warmReset 2 1 else s)
    else if v.bits 0 16 = 0 then s else s.deny p)

/-- SOFTWARE_RESET (R422): An installer write of 0x5EED to SYS_RESET resets all but the always-on domain. -/
def execSoftwareReset (p : Port) (v : Word) (s : State) : Host.Outcome State Fault Refusal := .next (s.softReset p v)

/-- RAIL of SYS_RSTCAUSE (Table 16.10). -/
def railNum : BrownRail → Nat
  | .vcore => 0 | .vphy08 => 1 | .vphy18 => 2 | .vio => 3 | .vdda => 4

/-- A torn MRAM write leaves an image that fails its CMAC check (R437). -/
def State.tear (s : State) : State := if s.mramWriting then { s with regs := { s.regs with imgKind := 2 } } else s

/-- The link is gone with its supplies, and configuration space with it: the function is in D3cold until a wake has passed step 4 (R270). -/
def State.linkUnpowered (s : State) : State :=
  let s : State := s.configReset
  { s with hif := { s.hif with up := false, speed := 0, width := 0, l1 := false, l12 := false, cold := true, tlps := [] } }

/-- A supply that sleep has lost. -/
def State.railGone (r : BrownRail) (s : State) : State :=
  { s with sys := { s.sys with missing := s.sys.missing.filter (· != railNum r) ++ [railNum r] } }

/-- A supply of Table 16.4 falls below its threshold: reset, held until its release. In DORMANT and VIGIL these supplies may
be absent, and only the link goes (R488, R270); a wake waits for them. -/
def execBrownoutReset (r : BrownRail) (s : State) : Host.Outcome State Fault Refusal :=
  .next (if s.sys.mode = .off then s
  else if s.sys.mode.asleep then
    (match r with | .vcore | .vphy08 | .vphy18 => s.linkUnpowered | .vio | .vdda => s).railGone r
  else (s.tear.warmReset 1 0).set F.SYS_RSTCAUSE_RAIL (railNum r))

/-- The supplies that a sleep has lost are back. Where a wake waits for them a brownout reset is recorded (R488), with the
first that was lost as RAIL (log entry 61). -/
def State.railsBack (s : State) : State :=
  let s : State := if s.sys.mode = .boot then
      (match s.sys.missing with | r :: _ => (s.setBit rstBits 1).set F.SYS_RSTCAUSE_RAIL r | [] => s)
    else s
  { s with sys := { s.sys with missing := [] } }

/-- The supply is back: the reset releases, and BOOT starts. -/
def execBrownoutRelease (s : State) : Host.Outcome State Fault Refusal :=
  .next (if s.sys.mode == .boot && s.sys.bootStep == 0 then
    { s with sys := { s.sys with bootStep := 1, bootSince := s.clk.aon } }
  else if s.sys.missing ≠ [] then s.railsBack
  else s)

/-- VAON is gone: OFF, and only MRAM holds (R422, R488). -/
def execPowerLoss (s : State) : Host.Outcome State Fault Refusal :=
  .next (let s : State := s.tear.mramOnly; { s with sys := { s.sys with mode := .off, bootStep := 0, wakeOut := false } })

/-- The power-on reset releases in OFF, and BOOT starts. -/
def execPowerOnReset (s : State) : Host.Outcome State Fault Refusal := .next (if s.sys.mode = .off then s.mramOnly else s)

/-- Step 2 of Table 16.3; it waits for supplies that a sleep has lost (R488). -/
def execReferenceQualified (s : State) : Host.Outcome State Fault Refusal :=
  .next (if s.sys.mode == .boot && s.sys.bootStep == 1 && s.sys.missing.isEmpty then
    { s with clk := { s.clk with refOk := true }, sys := { s.sys with bootStep := 2 } }
  else s)

/-- Step 3: the time base starts. -/
def execPllLocked (s : State) : Host.Outcome State Fault Refusal :=
  .next (if s.sys.mode == .boot && s.sys.bootStep == 2 then
    { s with clk := { s.clk with pllLock := true, tbRun := true, tb := 0 }, sys := { s.sys with bootStep := 3 } }
  else s)

/-- Steps 4 and 5: the trim record loads, and the die link is trained; comparators start UNSETTLED but for those of guardians
that stayed powered (R342). The host can enumerate the function again (R270). -/
def execDieLinkTrained (s : State) : Host.Outcome State Fault Refusal :=
  .next (if s.sys.mode == .boot && s.sys.bootStep == 3 then
    let s : State := (s.unsettle (fun g => s.sys.bootWake && (s.grd g).held)).railsFresh
    { s with clk := { s.clk with dieTrained := true }, sys := { s.sys with bootStep := 5 }, hif := { s.hif with cold := false } }
  else s)

/-- Step 6. -/
def execImageChecked (s : State) : Host.Outcome State Fault Refusal :=
  .next (if s.sys.mode == .boot && s.sys.bootStep == 5 then s.loadImage else s)

/-- Step 8, once the pass of step 7 has ended. -/
def execBootComplete (s : State) : Host.Outcome State Fault Refusal :=
  .next (if s.sys.mode == .boot && s.sys.bootStep == 6 && !s.tst.running then s.bootEnd else s)

end Sys2Proof.Machine
end

