-- ==== Sys2Proof/Machine/Mq.lean ====
section
/-! DEFINITION. The MQ commands that no other family holds (R297, R298, Table 11.4). -/

namespace Sys2Proof.Machine

/-- Word 3 of a completion is zero but for the guardian commands (R300). -/
def noState (_ : State) : Nat := 0

/-- MQ_NOP (R298): The MQ command NOP completes OK. -/
def execMqNop (tag : Word) (s : State) : Host.Outcome State Fault Refusal := .next (s.onMq tag 0 (fun s => (Code.ok, s)) noState)

/-- An OPCODE absent from Table 11.4 completes with ABSENT. -/
def execMqUnknownOpcode (tag : Word) (op : Nat) (s : State) : Host.Outcome State Fault Refusal :=
  .next (if 10 < op then s.onMq tag (op % 256) (fun s => (Code.absent, s)) noState else s)

/-- TRACE_CTRL writes HIF_TRACE, which acts at the next doorbell sweep (R314). -/
def execTraceCtrl (tag arg0 : Word) (s : State) : Host.Outcome State Fault Refusal :=
  .next (s.onMq tag 7 (fun s => (Code.ok, (s.putWord R.HIF_TRACE (Word.ofN (arg0.bits 0 4))).noteMq R.HIF_TRACE 15)) noState)

/-- CLEAR_OC (R184, R25): the named latch is cleared whatever its comparator reads, and the act is journalled as KIND 5. -/
def State.clearOcAct (bank : Bool) (i : Nat) (s : State) : Nat × State :=
  if bank then
    if i < s.part.banks then
      let s : State := if s.regs.same.oc.contains (96 + i) then s else s.modBank i (fun k => { k with oc := false, ocSeen := false })
      let s : State := (upTo 4).foldl (fun (s : State) j => s.logIdle (4 * i + j)) s
      (Code.ok, s.journal (act 0 0 5 (i + 256)))
    else (Code.absent, s)
  else if s.chUsable i then
    let s : State := if s.regs.same.oc.contains i then s
      else (s.modChan i (fun c => { c with oc := false, ocSeen := false })).logIdle i
    (Code.ok, s.journal (act 0 0 5 i))
  else (Code.absent, s)

/-- CLEAR_OC (R184): The MQ command CLEAR_OC clears a channel or bank over-current latch. -/
def execClearOc (tag arg0 : Word) (s : State) : Host.Outcome State Fault Refusal :=
  .next (s.onMq tag 1 (fun s => s.clearOcAct (arg0.bit 8) (arg0.bits 0 7)) noState)

/-- Default Dn of a phrase (Table 6.9). -/
def defaultF (q p n : Nat) : Fld := ⟨if n < 2 then R.REED_PDEFA q p else R.REED_PDEFB q p, 16 * (n % 2), 16⟩

/-- PHRASE_PARAM (R173): the default in both copies, with the REED block marked as written by the operator, and an entry of
KIND 8. -/
def State.paramAct (q p n v : Nat) (s : State) : Nat × State :=
  if !decide (q < s.part.quads) then (Code.absent, s)
  else if s.get (F.REED_PDIR_KIND q p) = 0 then (Code.badPhrase, s)
  else if !(s.get (F.REED_PDIR_DMASK q p)).testBit n then (Code.role, s)
  else
    let f := defaultF q p n
    let old := s.get f
    let s : State := (((s.noteMq f.a (place f.lo 16 0xFFFF)).noteHost f.a).set f v).putShadow f.a (setBits (s.shadowWord f.a) f.lo f.w v)
    let s : State := s.markDirty f.a 0
    (Code.ok, s.journal { act 0 0 8 (q * 256 + p * 4 + n) with old := old, new := v })

/-- A PHRASE_PARAM at the head of the MQ, by its arguments. -/
def State.paramRun (tag arg0 arg1 : Word) (s : State) : State :=
  let r := s.paramAct (arg0.bits 0 2) (arg0.bits 8 6) (arg0.bits 16 2) (arg1.bits 0 16)
  (r.2.completion tag 6 r.1 0).advance 8

/-- While a COMMIT runs the command is held (R173). -/
def execPhraseParam (tag arg0 arg1 : Word) (s : State) : Host.Outcome State Fault Refusal :=
  .next (if s.mqReady then
    (if s.busyOp = 2 then { s with hif := { s.hif with mqHeld := some (tag, arg0, arg1) } } else s.paramRun tag arg0 arg1)
  else s)

/-- At the end of a COMMIT, or at its abort, a held PHRASE_PARAM acts. -/
def State.releaseHeld (s : State) : State :=
  match s.hif.mqHeld with
  | some (tag, arg0, arg1) => ({ s with hif := { s.hif with mqHeld := none } } : State).paramRun tag arg0 arg1
  | none => s

/-- ACC_CLOSE (R328): a TIME, ANGLE or HOST target closes with CAUSE 6; a PHRASE or TIMER target is a conflict. -/
def State.accCloseAct (t : Nat) (s : State) : Nat × State :=
  if !s.flag (accEn t) then (Code.ok, s)
  else if s.get (accWsrc t) = 0 ∨ s.get (accWsrc t) = 3 then (Code.claimConflict, s)
  else (Code.ok, s.closeWin t 6 none true)

/-- ACC_CLOSE (R328): The MQ command ACC_CLOSE closes a TIME, ANGLE or HOST window. -/
def execAccClose (tag arg0 : Word) (s : State) : Host.Outcome State Fault Refusal :=
  .next (s.onMq tag 8 (fun s => s.accCloseAct (if arg0.bit 9 then 512 + arg0.bits 0 9 else arg0.bits 0 9)) noState)

/-- The fallback flag is cleared, while the link is up; it stays set where a fallback cause falls in the same fabric cycle (R418). -/
def State.fallbackClear (s : State) : State :=
  if s.hif.up && s.sys.fbFlag && !s.regs.same.fb then
    let s : State := { s with sys := { s.sys with fbFlag := false, fbDue := [] } }
    (s.alarm 15 0 0 0).heard
  else s

/-- A write of SYS_FBCTL. -/
def State.fallbackWrite (p : Port) (v : Word) (s : State) : State := s.onWrite p (fun s => if v.bit 0 then s.fallbackClear else s)

/-- FALLBACK_END (R418): FALLBACK_END, or SYS_FBCTL.END, clears the fallback flag and restarts the silence count. -/
def execFallbackEnd (src : Issuer) (s : State) : Host.Outcome State Fault Refusal :=
  .next (match src with
    | .mq tag => s.onMq tag 9 (fun s => (Code.ok, s.fallbackClear)) noState
    | .reg p => s.fallbackWrite p 1)

/-- SAFESTOP_EXIT (R409): no effect while a cause is active, or outside SAFESTOP. -/
def State.safeExitAct (s : State) : Nat × State :=
  if s.flag F.SYS_SAFECFG_EXIT_I then (Code.role, s)
  else if s.sys.mode = .safestop ∧ s.sys.safeActive = [] then (Code.ok, s.exitSafestop 0 0)
  else (Code.ok, s)

/-- SAFESTOP_EXIT (R409): SAFESTOP_EXIT, or a write of 0x6 to SYS_MODEREQ, leaves SAFESTOP for the mode that sync implies when no cause is
active. -/
def execSafestopExit (src : Issuer) (s : State) : Host.Outcome State Fault Refusal :=
  .next (match src with
    | .mq tag => s.onMq tag 10 State.safeExitAct noState
    | .reg p => s.modeRequest p 6)

end Sys2Proof.Machine
end

