-- ==== Sys2Proof/Machine/Ranges.lean ====
section
/-! DEFINITION. The range rules of every chapter (check 3 of Table 17.2), over the shadow copy. Each rule that fails names the
lowest register that it compares. A field table that gives a field of fixed reset value a range counts as a range rule of its
chapter (log entry 31). -/

namespace Sys2Proof.Machine

/-- A failing rule names its register. -/
def need (ok : Bool) (a : Nat) : List Nat := if ok then [] else [a]

/-- A number lies in a closed range. -/
def within (lo x hi : Nat) : Bool := decide (lo ≤ x) && decide (x ≤ hi)

/-- R47, and the ranges of Tables 2.9 and 3.5. -/
def State.whlRanges (s : State) : List Nat :=
  let g := s.sget
  let set := fun (tw : Nat) (lo hi prov : Fld) (gaps : List (Fld × Fld)) =>
    need (decide (g lo < g prov) && decide (g prov ≤ g hi)) tw
      ++ gaps.flatMap (fun x => need (decide (g prov < g x.1)) prov.a ++ need (decide (g x.1 < g x.2)) x.1.a)
  let on := decide (g F.WHL_CTRL_EN = 1) || decide (g F.SET_CFG_EN = 1)
  set R.WHL_RUN_TW F.WHL_RUN_TW_LO F.WHL_RUN_TW_HI F.WHL_RUN_PROV_PROV_HI
      [(F.WHL_RUN_GAP1_LO, F.WHL_RUN_GAP1_HI), (F.WHL_RUN_GAP2_LO, F.WHL_RUN_GAP2_HI)]
    ++ set R.WHL_CRK_TW F.WHL_CRK_TW_LO F.WHL_CRK_TW_HI F.WHL_CRK_PROV_PROV_HI
      [(F.WHL_CRK_GAP1_LO, F.WHL_CRK_GAP1_HI), (F.WHL_CRK_GAP2_LO, F.WHL_CRK_GAP2_HI)]
    ++ need (decide (g F.WHL_MISS_LO < g F.WHL_MISS_HI)) R.WHL_MISS
    ++ need (decide (g F.WHL_SETTLE_LO < 256) && decide (256 < g F.WHL_SETTLE_HI)) R.WHL_SETTLE
    ++ need (decide (g F.WHL_RATE_BAND_LO < 256) && decide (256 < g F.WHL_RATE_BAND_HI)) R.WHL_RATE_BAND
    ++ need (!on || (within 12 (g F.WHL_TEETH_N) 120 && within 1 (g F.WHL_TEETH_M) 2)) R.WHL_TEETH
    ++ need (!on || decide (g F.WHL_TOOTH0_ANG < revAt)) R.WHL_TOOTH0
    ++ need (within 10 (g F.WHL_FE_ARM_PCT) 90 && within 10 (g F.WHL_FE_HYST) 200 && decide (25 ≤ g F.WHL_FE_MINAMP)) R.WHL_FE
    ++ need (decide (g F.WHL_MINW_MINW ≤ 2000)) R.WHL_MINW
    ++ need (within 20 (g F.WHL_SYNCCFG_CRANK_RPM) 20000) R.WHL_SYNCCFG
    ++ need (within 10 (g F.WHL_STALL_STALL_T) 4000) R.WHL_STALL
    ++ (upTo 4).flatMap (fun n =>
      need (decide (g (F.WHL_CAMCFG_EDGE n) ≠ 3) && decide (g (F.WHL_CAMCFG_MINW n) ≤ 2000)) (R.WHL_CAMCFG n))
    ++ need (within 1 (g F.WHL_STEADY_STEADY) 64) R.WHL_STEADY
    ++ need (decide (g F.WHL_ACLK_QLIM_Q_MIN ≤ 256) && decide (256 ≤ g F.WHL_ACLK_QLIM_Q_MAX)) R.WHL_ACLK_QLIM

/-- A duty bucket's WIN and LIMIT (R146). -/
def dutyOk (en win lim : Nat) : Bool := decide (en = 0) || (within 1 win 4000 && decide (lim ≠ 0))

/-- R90, R92, R104, R112, R146 and Table 4.8. -/
def State.schRanges (s : State) : List Nat :=
  let g := s.sget
  need (within 10 (g F.SCH_HORIZON_HZ_ANG) 360 && within 10 (g F.SCH_HORIZON_HZ_TIME) 10000) R.SCH_HORIZON
    ++ need (within 1 (g F.SCH_WAKE_LEAD_ANG) 180 && within 10 (g F.SCH_WAKE_LEAD_TIME) 10000) R.SCH_WAKE_LEAD
    ++ need (decide (g F.SCH_STORE_RES_RES ≤ 8192)) R.SCH_STORE_RES
    ++ need (decide (g F.SCH_WAKE_LEAD_ANG < g F.SCH_HORIZON_HZ_ANG) && decide (g F.SCH_WAKE_LEAD_TIME ≤ g F.SCH_HORIZON_HZ_TIME * 10)) R.SCH_HORIZON
    ++ need (within 10 (g F.SCH_OVL_PEAK_SHIFT_MAX) 1000) R.SCH_OVL
    ++ (upTo 96).flatMap (fun n =>
      let m := g (F.SCH_CHCFG_MODE n)
      let timed := m == 3 || m == 4
      need (decide (m ≤ 4) && decide (g (F.SCH_CHCFG_DEF_CLASS n) ≠ 7) && decide (g (F.SCH_CHCFG_HALF_POL n) ≠ 3)
          && (decide (g (F.SCH_CHCFG_LVL n) = 0) || timed)) (R.SCH_CHCFG n)
        ++ need (decide (g (F.SCH_POL_MIN_GAP n) ≤ 1000) && !(decide (g (F.SCH_POL_MERGE_EN n) = 1) && timed)) (R.SCH_POL n)
        ++ need (dutyOk (g (F.SCH_LIM_EN n)) (g (F.SCH_LIM_WIN n)) (g (F.SCH_LIM_LIMIT n))) (R.SCH_LIM n))
    ++ (upTo 24).flatMap (fun b =>
      need (dutyOk (g (F.SCH_BKDUTY_EN b)) (g (F.SCH_BKDUTY_WIN b)) (g (F.SCH_BKDUTY_LIMIT b))) (R.SCH_BKDUTY b))

/-- R207 and R491. -/
def State.drvRanges (s : State) : List Nat :=
  let g := s.sget
  let mode := fun n => g (F.SCH_CHCFG_MODE n)
  let some' := fun (b : Nat) (f : Nat → Bool) => (upTo 4).any (fun i => f (4 * b + i))
  (upTo 96).flatMap (fun n =>
      need (!(mode n == 1 || mode n == 2) || decide (g (F.DRV_CHCFG_BLANK n) ≠ 0)) (R.DRV_CHCFG n)
        ++ (if g (F.DRV_CHCFG_KEN n) = 1 then
          need (decide (g (F.DRV_KWIN_W_START n) < g (F.DRV_KWIN_W_END n))) (R.DRV_KWIN n)
            ++ need (decide (g (F.DRV_KDET_F n) ≤ 5) && decide (g (F.DRV_KDET_D n) ≠ 0)
                && decide (2 ^ g (F.DRV_KDET_F n) ≤ g (F.DRV_KDET_D n))) (R.DRV_KDET n)
          else []))
    ++ (upTo 24).flatMap (fun b =>
      need (!some' b (fun n => mode n == 1) || (decide (g (F.DRV_BKCFGB_HBLANK b) ≠ 0) && decide (g (F.DRV_BKCFGB_TOFF_UNIT b) ≠ 0)
          && decide (g (F.DRV_BKCFGB_OC_WIN b) ≠ 0))) (R.DRV_BKCFGB b)
        ++ need (!some' b (fun n => mode n == 1 || mode n == 2) || decide (g (F.DRV_BKCFG_GAIN b) ≠ 3)) (R.DRV_BKCFG b)
        ++ need (!some' b (fun n => g (F.DRV_CHCFG_TRIM_EN n) == 1)
            || (decide (signed 8 (g (F.DRV_BKTRIM_BAND_LO b)) ≤ 0) && decide (0 ≤ signed 8 (g (F.DRV_BKTRIM_BAND_HI b))))) (R.DRV_BKTRIM b))
    ++ (upTo 4).flatMap (fun q =>
      if g (F.DRV_BSTCFG_EN q) = 1 then
        need (decide (g (F.DRV_BSTCFG_VSET q) ≤ 200) && within 1 (g (F.DRV_BSTCFG_OV_MARGIN q)) 10 && decide (g (F.DRV_BSTCFG_VHYST q) ≠ 0)
            && decide (g (F.DRV_BSTCFG_RAMP q) ≠ 0) && decide (160 + g (F.DRV_BSTCFG_VSET q) + 4 * g (F.DRV_BSTCFG_OV_MARGIN q) ≤ 360)) (R.DRV_BSTCFG q)
          ++ need (decide (g (F.DRV_BSTTIM_TON q) ≠ 0) && decide (g (F.DRV_BSTTIM_TOFF_MIN q) ≠ 0) && decide (g (F.DRV_BSTTIM_VT_MAX q) ≠ 0)
              && decide (g (F.DRV_BSTTIM_LIND q) ≠ 0)) (R.DRV_BSTTIM q)
      else [])

/-- R229. An INK_BKRAIL entry names a guardian where its EN bit is 1. -/
def State.inkRanges (s : State) : List Nat :=
  let g := s.sget
  (upTo 4).flatMap (fun q =>
      need (!(g (F.INK_BSTCFG_EN q) == 1) || (within 100 (g (F.INK_BSTCFG_CAP q)) 470 && within 20 (g (F.INK_BSTCFG_VFLOOR q)) 89
          && decide (4 * g (F.INK_BSTCFG_VFLOOR q) < 160 + g (F.DRV_BSTCFG_VSET q)) && within 50 (g (F.INK_BSTCFG_EFF q)) 100)) (R.INK_BSTCFG q)
        ++ need (!(g (F.INK_BSTCFG_GEN q) == 1) || decide (g (F.INK_BSTCFG_GRD q) < s.part.grds)) (R.INK_BSTCFG q))
    ++ (upTo 8).flatMap (fun r => need (!(g (F.INK_RAILCFG_EN r) == 1) || within 16 (g (F.INK_RAILCFG_RWIN r)) 1000) (R.INK_RAILCFG r))
    ++ need (!(g F.INK_DEVCFG_EN == 1) || within 16 (g F.INK_DEVCFG_WIN) 1000) R.INK_DEVCFG
    ++ (upTo 24).flatMap (fun b =>
      let w := s.shadowWord (R.INK_BKRAIL (b / 8))
      need (!w.bit (4 * (b % 8) + 3) || decide (w.bits (4 * (b % 8)) 3 < s.part.grds)) (R.INK_BKRAIL (b / 8)))

/-- One enabled rule entry (R239, R245). -/
def State.ruleRange (s : State) (n e : Nat) : Bool :=
  let g := s.sget
  let cond := g (F.GRD_RULE_COND n e)
  !(g (F.GRD_RULE_EN n e) == 1)
    || ((!(cond == 5) || g (F.GRD_CFG_B2B n) == 1)
      && (!(g (F.GRD_RULE_ACT n e) == 1) || ((cond == 1 || cond == 7) && decide (g (F.GRD_RULE_LIM n e) ≤ 2 * g (F.GRD_BAND_FT_MIN n)))))

/-- R260. -/
def State.grdRanges (s : State) : List Nat :=
  let g := s.sget
  (upTo 8).flatMap (fun n =>
    if g (F.GRD_CFG_EN n) = 1 then
      let ft := g (F.GRD_SENSE_FT n); let il := g (F.GRD_RAMP_ILIM n)
      need (within 50 (g (F.GRD_SENSE_RSENSE n)) 1000 && within (g (F.GRD_BAND_FT_MIN n)) ft (g (F.GRD_BAND_FT_MAX n))) (R.GRD_SENSE n)
        ++ need (decide (g (F.GRD_RAMP_MODE n) ≠ 3) && (g (F.GRD_RAMP_MODE n) != 0 || within 5 (g (F.GRD_RAMP_IG n)) 200)
            && decide (g (F.GRD_RAMP_RAMP_T n) ≠ 0) && within (g (F.GRD_BAND_ILIM_MIN n)) il (g (F.GRD_BAND_ILIM_MAX n))) (R.GRD_RAMP n)
        ++ need (decide (g (F.GRD_SOA_SOA_E n) ≠ 0) && decide (g (F.GRD_SOA_P_CONT n) ≠ 0)) (R.GRD_SOA n)
        ++ need (decide (g (F.GRD_VLIM_UV n) < g (F.GRD_VLIM_PG n)) && decide (g (F.GRD_VLIM_PG n) < g (F.GRD_VLIM_OV n))
            && decide (g (F.GRD_VLIM_OV n) ≤ 600)) (R.GRD_VLIM n)
        ++ need (within 1 (g (F.GRD_RETRY_FIRST n)) 10000 && decide (g (F.GRD_RETRY_FIRST n) ≤ g (F.GRD_RETRY_CAP n) * 10)) (R.GRD_RETRY n)
        ++ need (decide (g (F.GRD_BAND_FT_MIN n) ≤ g (F.GRD_BAND_FT_MAX n)) && decide (g (F.GRD_BAND_ILIM_MIN n) ≤ g (F.GRD_BAND_ILIM_MAX n))) (R.GRD_BAND n)
        ++ (upTo 8).flatMap (fun e => need (s.ruleRange n e) (R.GRD_RULE n e))
    else [])

/-- An IN code that converter n reaches (Table 12.2). -/
def inReach (n i : Nat) : Bool := if n < 4 then i != 7 else decide (i < 20)

/-- The converter is present (R3). -/
def State.convPresent (s : State) (n : Nat) : Bool := if n < 4 then decide (n < s.part.quads) else decide (n < 6)

/-- R338. Every target with a word in the shadow copy is looked at; one without reads zero, which breaks no rule. -/
def State.adcRanges (s : State) : List Nat :=
  let g := s.sget
  let trg := fun (f : Fld → Nat) (n e : Nat) =>
    if f (F.ADC_SEQA_TRK n e) = 1 then 512 + f (F.ADC_SEQA_TARGET n e) % 256 else f (F.ADC_SEQA_TARGET n e)
  let accOk := fun (t : Nat) =>
    let c := (s.shadowWord (accAddr t 0)).bits 0 3
    let w := s.shadowWord (accAddr t 1)
    decide (c ≤ 4) && (c != 1 || w.bits 0 16 != 0) && (c != 2 || (within 64 (w.bits 0 16) 46080 && decide (w.bits 16 16 ≤ 46079)))
  (upTo 6).flatMap (fun n => (upTo 32).flatMap (fun e =>
      let i := g (F.ADC_SEQA_IN n e); let k := g (F.ADC_SEQA_GAIN n e)
      need (inReach n i && decide (k ≤ 4) && (k == 0 || (decide (4 ≤ n) && decide (i < 2))) && decide (g (F.ADC_SEQA_FILT n e) ≤ 4)
        && !(g (F.ADC_SEQA_TRK n e) == 1 && decide (255 < g (F.ADC_SEQA_TARGET n e)))) (R.ADC_SEQA n e)))
    ++ ((upTo 768).filter (fun t => !accOk t)).map (fun _ => R.ACC_DATA)
    ++ (upTo 8).flatMap (fun k => need (!(g (F.ADC_ATRIG_EN k) == 1)
        || (decide (g (F.ADC_ATRIG_ANG k) < cycleAt) && s.convPresent (g (F.ADC_ATRIG_CONV k)))) (R.ADC_ATRIG k))
    ++ need (!(g F.ADC_VIGIL_EN == 1)
        || (let c := (s.shadowWord (accAddr (trg g 4 (g F.ADC_VIGIL_ENTRY)) 0)).bits 0 3; c == 1 || c == 4)) R.ADC_VIGIL

/-- The timer's chain of masters, k links long, comes back to it (R355). -/
def State.masterLoop (s : State) (n : Nat) : Nat → Nat → Bool
  | 0, _ => false
  | k + 1, m =>
    if s.sget (F.TMR_CFG_SLAVE m) = 0 then false
    else s.sget (F.TMR_CFG_MASTER m) == n || s.masterLoop n k (s.sget (F.TMR_CFG_MASTER m))

/-- R363. -/
def State.cmpRanges (s : State) : List Nat :=
  let g := s.sget
  let hys := fun (w : Word) (k : Nat) => (upTo k).all (fun i => decide (w.bits (3 * i) 3 ≤ 4))
  need (hys (s.shadowWord R.CMP_HYSGFT) 8) R.CMP_HYSGFT ++ need (hys (s.shadowWord R.CMP_HYSGREV) 8) R.CMP_HYSGREV
    ++ (upTo 24).flatMap (fun b => need (hys (s.shadowWord (R.CMP_HYSB b)) 2) (R.CMP_HYSB b))
    ++ (upTo 8).flatMap (fun n =>
      let i := g (F.CMP_WMCFG_INPUT n); let lo := g (F.CMP_WMLIM_LO n); let hi := g (F.CMP_WMLIM_HI n)
      need (decide (i < 28) && decide (g (F.CMP_WMCFG_HYS n) ≤ 4)) (R.CMP_WMCFG n)
        ++ need (if i < 2 then decide (signed 12 lo < signed 12 hi) else decide (lo < hi)) (R.CMP_WMLIM n))
    ++ (upTo 16).flatMap (fun n =>
      need (!s.masterLoop n 16 n) (R.TMR_CFG n)
        ++ need (!((g (F.TMR_ACT_ON_MATCH n)).testBit 1 || (g (F.TMR_ACT_ON_ZERO n)).testBit 1) || s.convPresent (g (F.TMR_ACT_URG_CONV n))) (R.TMR_ACT n)
        ++ need (decide (g (F.TMR_PIN_CAP_SRC n) ≤ 39)) (R.TMR_PIN n))
    ++ need (decide (g F.TMR_CATCHUP_PCT ≤ 100)) R.TMR_CATCHUP

/-- A VALID entry of the plan keeps OP 0 and ANCHOR 0 or 2 (R414). -/
def State.planOk (s : State) (e : Nat) : Bool :=
  let w := fun i => s.shadowWord (planAddr e i)
  !(w 4).bit 31 || ((w 0).bits 20 2 == 0 && ((w 0).bits 14 2 == 0 || (w 0).bits 14 2 == 2))

/-- A wake source is enabled (Table 16.5). -/
def State.wakeSome (s : State) : Bool :=
  let g := s.sget
  g F.SYS_WAKECFG_KEY_EN == 1 || g F.SYS_WAKECFG_IN_EN == 1 || g F.SYS_WAKECFG_CRK_EN == 1
    || (upTo 8).any (fun n => g (F.GRD_CFG_PRSN_WAKE n) == 1 || g (F.GRD_CFG_TRIP_WAKE n) == 1)

/-- R284, R381, R401, R414, R427, R447, R474 and Table 6.12. -/
def State.otherRanges (s : State) : List Nat :=
  let g := s.sget
  need (!(g F.SYS_MODECFG_BOOT_TO == 1 || g F.SYS_MODECFG_BOOT_TO == 2) || s.wakeSome) R.SYS_MODECFG
    ++ (if g F.SYS_FBPLAN_EN = 1 then
      need (decide (g F.SCH_HORIZON_HZ_ANG < g F.SYS_FBPLAN_LEAD) && decide (g F.SYS_FBPLAN_LEAD ≤ 540)) R.SYS_FBPLAN
        ++ need ((upTo (min 512 (g F.SYS_FBPLAN_ENTRIES))).all (fun e => s.planOk e)) R.SYS_FBDATA
      else [])
    ++ need (within 10 (g F.REED_CFG_OVERRUN) 1000) R.REED_CFG
    ++ need (within 1 (g F.SEC_SESSCFG_IDLE) 3600) R.SEC_SESSCFG
    ++ need (within 1 (g F.HIF_SILENCE_SILENCE) 1000) R.HIF_SILENCE
    ++ (upTo 8).flatMap (fun n =>
      need (decide (g (F.NIB_CFG_RXTHR n) ≤ 8)) (R.NIB_CFG n)
        ++ need (decide (g (F.NIB_MARGIN_TOP n) ≤ g (F.NIB_MARGIN_BOTTOM n))) (R.NIB_MARGIN n)
        ++ need (!(g (F.EVC_EXTCFG_EN n) == 1) || (decide (g (F.EVC_EXTCFG_MODE n) < 5) && decide (g (F.EVC_EXTCFG_FILT n) ≠ 0))) (R.EVC_EXTCFG n))
    ++ need (!(g F.SET_CFG_EN == 1) || decide (g F.SET_CFG_LOSS_T ≠ 0)) R.SET_CFG

/-- The lowest register of a list. -/
def lowest : List Nat → Option Nat
  | [] => none
  | a :: l => some (l.foldl min a)

/-- Check 3: the lowest register that breaks a range rule. -/
def State.rangeFault (s : State) : Option Nat :=
  lowest (s.whlRanges ++ s.schRanges ++ s.drvRanges ++ s.inkRanges ++ s.grdRanges ++ s.adcRanges ++ s.cmpRanges ++ s.otherRanges)

end Sys2Proof.Machine
end

