-- ==== Sys2Proof/Machine/Sec.lean ====
section
/-! DEFINITION. Sessions, keys, the reading of the journal, its export and its seal (chapter 17, R428 to R433 and R440 to
R445). -/

namespace Sys2Proof.Machine

def State.modSec (s : State) (f : Sec → Sec) : State := { s with sec := f s.sec }

/-! Requests (R429, R431) -/

/-- The modes in which a session of a role may open. -/
def Mode.opens (m : Mode) (role : Nat) : Bool :=
  (role == 1 && (m == .setup || m.operating)) || (role == 2 && (m == .setup || m == .maint))

/-- LOCKED: three failures in a row, less than 10 s ago. -/
def State.locked (s : State) : Bool := s.sec.lockedAt.isSome

/-- The last request was, or was not, refused (SEC_SESS_STAT.REFUSED). -/
def State.refusedIs (r : Bool) (s : State) : State := s.modSec (fun x => { x with refused := r })

/-- A request is judged: under LOCKED it is refused and counted; else ok says whether it is taken, and f takes it. -/
def State.request (s : State) (ok : Bool) (f : State → State) : State :=
  if s.locked then (s.refusedIs true).count F.SEC_AUTH_FAIL_CNT_COUNT
  else if ok then f (s.refusedIs false)
  else s.refusedIs true

/-- REQ: a challenge is to be filled. -/
def State.askChallenge (role : Nat) (s : State) : State :=
  s.request (s.sec.role == 0 && s.sys.mode.opens role) (fun s => s.modSec (fun x => { x with chalReq := some role }))

/-- OPEN: the role unlock begins; it is refused while FULL reads 1 (R443). With no free slot but operator entries left, it opens, and its
entry is counted as lost (log entry 57). -/
def State.openSession (p : Port) (role : Nat) (s : State) : State :=
  s.request (s.sec.role == 0 && s.sys.mode.opens role && !s.jFull)
    (fun s => (s.modSec (fun x => { x with unlock := some (role, false) })).beginBusy 3 p)

/-- CLAIM with ROLE 1: the first installer claim, while no installer key is set (R433). -/
def State.claimInstaller (p : Port) (role : Nat) (s : State) : State :=
  s.request (s.sec.role == 0 && role == 1 && s.sys.mode.opens 1 && s.sec.ikey.isNone && !s.jFull)
    (fun s => (s.modSec (fun x => { x with unlock := some (1, true) })).beginBusy 3 p)

/-- CLOSE from the session's own port (R432). -/
def State.closeSession (p : Port) (s : State) : State := if s.sec.role ≠ 0 ∧ s.sec.port = p then s.endSession 0 else s

/-- A write of SEC_SESS_CTRL: its bits act in order of their numbers, the last not once the port is busy. -/
def State.sessWrite (p : Port) (v : Word) (s : State) : State :=
  let role := v.bits 0 2
  let s : State := if v.bit 2 then s.askChallenge role else s
  let s : State := if v.bit 3 then s.openSession p role else s
  let s : State := if v.bit 4 then s.closeSession p else s
  if v.bit 5 && s.sys.busy.isNone then s.claimInstaller p role else s

/-- SESSION_REQUEST (R430): A write of REQ asks for a new challenge nonce. -/
def execSessionRequest (p : Port) (v : Word) (s : State) : Host.Outcome State Fault Refusal :=
  .next (s.onWrite p (fun s => if v.bit 2 then s.askChallenge (v.bits 0 2) else s))

/-- SESSION_OPEN (R430): A write of OPEN starts the role unlock and makes the port busy. -/
def execSessionOpen (p : Port) (v : Word) (s : State) : Host.Outcome State Fault Refusal :=
  .next (s.onWrite p (fun s => if v.bit 3 then s.openSession p (v.bits 0 2) else s))

/-- SESSION_CLOSE (R432): A write of CLOSE ends the session. -/
def execSessionClose (p : Port) (v : Word) (s : State) : Host.Outcome State Fault Refusal :=
  .next (s.onWrite p (fun s => if v.bit 4 then s.closeSession p else s))

/-- INSTALLER_CLAIM (R433): A write of CLAIM sets the installer key and opens an installer session. -/
def execInstallerClaim (p : Port) (v : Word) (s : State) : Host.Outcome State Fault Refusal :=
  .next (s.onWrite p (fun s => if v.bit 5 then s.claimInstaller p (v.bits 0 2) else s))

/-! The challenge and the unlock (R430) -/

/-- A fresh nonce fills SEC_CHAL0 to 3. -/
def execChallengeReady (s : State) : Host.Outcome State Fault Refusal :=
  .next (if s.sec.chalReq.isSome then
    s.modSec (fun x => { x with chalReq := none, chal := some (Config.freeNonce x.nonces, s.now),
                                 chalWords := Config.freeNonce x.nonces, nonces := x.nonces + 1 })
  else s)

/-- One second after it was filled the challenge is no longer valid. -/
def State.chalOver (s : State) : Bool := match s.sec.chal with | some (_, t) => decide (800000000 ≤ elapsed t s.now) | none => false

/-- CHALLENGE_EXPIRY (R430): After 1 s the challenge becomes unusable. -/
def execChallengeExpiry (s : State) : Host.Outcome State Fault Refusal :=
  .next (if s.chalOver then s.modSec (fun x => { x with chal := none }) else s)

/-- The message of 26 bytes that the response authenticates. -/
def openMsg (nonce : BitVec 128) (role : Nat) (p : Port) : List Nat :=
  bytes128 nonce ++ leBytes 8 Config.uid.toNat ++ [if role = 1 then 0x49 else 0x4D] ++ [portNum p]

/-- The key of a role: the installer's from MRAM, the maker's from the fuses. -/
def State.roleKey (s : State) (role : Nat) : Option (BitVec 128) := if role = 1 then s.sec.ikey else some Config.makerKey

/-- The response holds the MAC of the challenge. -/
def State.macOk (s : State) (role : Nat) (p : Port) : Bool :=
  match s.sec.chal, s.roleKey role with
  | some (n, _), some k => wordBytes s.sec.resp == cmac (bytes128 k) (openMsg n role p)
  | _, _ => false

/-- The 128-bit value of four words, the first lowest. -/
def words128 (ws : List Word) : BitVec 128 := of128 (wordBytes ws)

/-- The session of a role opens on a port, with an entry of a kind. -/
def State.sessionBegins (role : Nat) (p : Port) (kind : Nat) (s : State) : State :=
  (s.modSec (fun x => { x with role := role, port := p, idle := 0, fails := 0 })).journal (act role (portNum p) kind 0)

/-- A failed OPEN; the third in a row locks for 10 s (R431). -/
def State.openFailed (s : State) : State :=
  let n := min (s.sec.fails + 1) 3
  let s : State := s.modSec (fun x => { x with fails := n, lockedAt := if 3 ≤ n then some s.now else x.lockedAt })
  s.count F.SEC_AUTH_FAIL_CNT_COUNT

/-- SEC_KEY0 to 3 are cleared at every use (R433). -/
def State.clearKey (s : State) : State := s.modSec (fun x => { x with key := List.replicate 4 0 })

/-- The unlock ends: a claim sets the installer key and opens; an OPEN opens with the right response, and ends the challenge
either way. -/
def State.unlockEnds (role : Nat) (claim : Bool) (p : Port) (s : State) : State :=
  let s : State := (s.modSec (fun x => { x with unlock := none })).endBusy
  if claim then
    let s : State := s.modSec (fun x => { x with ikey := some (words128 x.key) })
    s.clearKey.sessionBegins 1 p 3
  else
    let s : State := if s.macOk role p then s.sessionBegins role p 1 else s.openFailed
    s.modSec (fun x => { x with chal := none })

/-- ROLE_UNLOCK_DONE (R430): The unlock ends, and the session opens or the failure is counted. -/
def execRoleUnlockDone (s : State) : Host.Outcome State Fault Refusal :=
  .next (match s.sec.unlock, s.sys.busy with
    | some (role, claim), some b => if s.busyFor 480000 then s.unlockEnds role claim b.port else s
    | _, _ => s)

/-! The ends of a session and of a lockout -/

/-- SEC_SESSCFG.IDLE seconds have passed without an access. An IDLE of 0, which no COMMIT accepts, sets no limit (log
entry 17). -/
def State.idleOver (s : State) : Bool :=
  let t := s.get F.SEC_SESSCFG_IDLE
  s.sec.role != 0 && t != 0 && s.sys.busy.isNone && decide (t * 800000000 ≤ s.sec.idle)

/-- SESSION_IDLE_TIMEOUT (R432): IDLE seconds without an access from the session's port end the session. -/
def execSessionIdleTimeout (s : State) : Host.Outcome State Fault Refusal := .next (if s.idleOver then s.endSession 1 else s)

/-- The 10 s of LOCKED have passed (R431). -/
def State.lockoutOver (s : State) : Bool := match s.sec.lockedAt with | some t => decide (8000000000 ≤ elapsed t s.now) | none => false

/-- LOCKOUT_END (R431): The 10 s lock after three failed OPENs ends. -/
def execLockoutEnd (s : State) : Host.Outcome State Fault Refusal :=
  .next (if s.lockoutOver then s.modSec (fun x => { x with lockedAt := none }) else s)

/-! Key provisioning (R433) -/

/-- An act of the maker in MAINT (suffix M); R15 refuses it to any other. -/
def State.onMaker (s : State) (p : Port) (f : State → State) : State :=
  s.onWrite p (fun s => if s.isMaker p then f s else s.deny p)

/-- The installer key is set or removed, and an installer session ends. -/
def State.provision (p : Port) (data : Nat) (k : Option (BitVec 128)) (s : State) : State :=
  if s.jFull then s.refusedIs true
  else
    let s : State := s.modSec (fun x => { x with ikey := k })
    let s : State := if s.sec.role = 1 then s.dropSession else s
    s.journal (act (s.roleOf p) (portNum p) 4 data)

/-- SEC_KPROV.SET: the key words become the installer key (R433). -/
def State.provisionSet (p : Port) (s : State) : State := (s.provision p 0 (some (words128 s.sec.key))).clearKey
/-- SEC_KPROV.CLEAR: the installer key is cleared (R433). -/
def State.provisionClear (p : Port) (s : State) : State := s.provision p 1 none

/-- KEY_PROVISION_SET (R433): In MAINT, a write of SEC_KPROV.SET sets a new installer key. -/
def execKeyProvisionSet (p : Port) (v : Word) (s : State) : Host.Outcome State Fault Refusal :=
  .next (if v.bit 0 then s.onMaker p (fun s => s.provisionSet p) else s.onWrite p id)

/-- KEY_PROVISION_CLEAR (R433): In MAINT, a write of SEC_KPROV.CLEAR removes the installer key. -/
def execKeyProvisionClear (p : Port) (v : Word) (s : State) : Host.Outcome State Fault Refusal :=
  .next (if v.bit 1 then s.onMaker p (fun s => s.provisionClear p) else s.onWrite p id)

/-! The journal: reading, export and seal (R444, R445) -/

/-- SEC_JIDX as one number: POS × 16 + WORD. -/
def jIndex : Fld := ⟨R.SEC_JIDX, 0, 16⟩

/-- A read of SEC_JDATA answers the entry's word, zero beyond USED, and advances the index. -/
def State.jRead (s : State) : State :=
  let i := s.get jIndex
  let w := (s.sec.journal.getD (i / 16) []).getD (i % 16) 0
  (s.set jIndex ((i + 1) % 65536)).answer w.toNat

/-- JOURNAL_READ (R444): A read of SEC_JDATA returns a journal word and advances WORD. -/
def execJournalRead (p : Port) (s : State) : Host.Outcome State Fault Refusal := .next (s.onRead p State.jRead)

/-- EXPORT: the device computes the seal over the entries. -/
def State.exportBegin (p : Port) (s : State) : State := (s.modSec (fun x => { x with exporting := true })).beginBusy 5 p

/-- JOURNAL_EXPORT (R445): A write of EXPORT starts computing the journal seal. -/
def execJournalExport (p : Port) (v : Word) (s : State) : Host.Outcome State Fault Refusal :=
  .next (if v.bit 0 then s.onMaker p (fun s => s.exportBegin p) else s.onWrite p id)

/-- The counter of the last entry present. -/
def State.jLast (s : State) : Nat := ((s.sec.journal.getLast?.getD []).getD 3 0).toNat

/-- EXPORT_DONE (R445): The seal is written to SEC_JSEAL0–3, and SEAL_VALID is set. -/
def execExportDone (s : State) : Host.Outcome State Fault Refusal :=
  .next (if s.sec.exporting then
    (s.modSec (fun x => { x with exporting := false, sealValid := true, sealCnt := s.jLast,
                                  sealVal := of128 (cmac journalKey (x.journal.flatMap wordBytes)) })).endBusy
  else s)

/-- SEAL_VALID: an export is done, and no entry has been written since. -/
def State.sealable (s : State) : Bool := s.sec.sealValid && s.jLast == s.sec.sealCnt

/-- SEAL with the seal echoed in SEC_KEY0 to 3. -/
def State.sealBegin (p : Port) (s : State) : State :=
  let ok := s.sealable && words128 s.sec.key == s.sec.sealVal
  let s : State := s.clearKey.modSec (fun x => { x with sealRefused := !ok, sealing := ok })
  if ok then s.beginBusy 6 p else s

/-- JOURNAL_SEAL (R445): A write of SEAL with a matching echo starts clearing the journal. -/
def execJournalSeal (p : Port) (v : Word) (s : State) : Host.Outcome State Fault Refusal :=
  .next (if v.bit 1 then s.onMaker p (fun s => s.sealBegin p) else s.onWrite p id)

/-- The seal: every entry goes, one of KIND 10 starts both chains, and alarm 30 is armed again (R443). -/
def State.sealNow (p : Port) (s : State) : State :=
  let s : State := s.modSec (fun x => { x with sealing := false, sealValid := false, journal := [], chainO := 0, chainI := 0, alarm90 := false })
  let s : State := s.journal { act 2 (portNum p) 10 0 with old := s.sec.sealVal.toNat % 2 ^ 64 }
  (s.modSec (fun x => { x with chainO := x.chainI })).endBusy

/-- SEAL_DONE (R445): The journal is cleared and restarted with a KIND 10 entry. -/
def execSealDone (s : State) : Host.Outcome State Fault Refusal :=
  .next (match s.sys.busy with
    | some b => if s.sec.sealing then s.sealNow b.port else s
    | none => s)

/-- A write of SEC_JCTRL, where EXPORT goes before SEAL, and of SEC_KPROV. -/
def State.jctrlWrite (p : Port) (v : Word) (s : State) : State :=
  if v.bits 0 2 = 0 then s
  else if !s.isMaker p then s.deny p
  else
    if v.bit 0 then s.exportBegin p else s.sealBegin p

/-- A write of SEC_KPROV: a maker session in MAINT sets or clears the installer key (R433). -/
def State.kprovWrite (p : Port) (v : Word) (s : State) : State :=
  if v.bits 0 2 = 0 then s
  else if !s.isMaker p then s.deny p
  else
    let s : State := if v.bit 0 then s.provisionSet p else s
    if v.bit 1 then s.provisionClear p else s

end Sys2Proof.Machine
end

