-- ==== Sys2Proof/Machine/Verify.lean ====
section
/-! DEFINITION. The validation of phrases and alternates at a COMMIT (R172, R223, Table 6.6), over the shadow copy. -/

namespace Sys2Proof.Machine

/-- A condition field that never, or always, holds (R172). -/
def condNever (c : Nat) : Bool := c == 0 || c == 31
/-- A condition field that always holds: ALWAYS, or the inverse of code 0 (R163, R172). -/
def condAlways (c : Nat) : Bool := c == 15 || c == 16

/-- The note at index i of quadrant q in a copy of the phrase store. -/
def noteIn (m : WMap) (q i : Nat) : Note := { hi := WMap.word m (noteAddr q i 1), lo := WMap.word m (noteAddr q i 0) }

/-- The next note is no successor of END, nor of a BR that is always taken. -/
def Note.hasNext (n : Note) : Bool := !(n.op == Op.endNote || (n.op == Op.br && condAlways n.ca))

/-- TGT is a successor of a note whose action names it, but for conditions that never lead there. -/
def Note.hasTgt (n : Note) : Bool :=
  n.usesTgt && !(n.op == Op.br && condNever n.ca) && !(n.op == Op.waitA && condNever n.cb)
    && !((n.op == Op.waitC || n.op == Op.reg) && (condNever n.cb || condAlways n.ca))

/-- The notes that may follow a note (R172). -/
def Note.successors (n : Note) (i : Nat) : List Nat :=
  (if n.hasNext then [(i + 1) % 4096] else []) ++ (if n.hasTgt then [n.tgt] else [])

/-- The notes reachable from a list, in rising order; the first argument bounds the visits. -/
def reach (m : WMap) (q : Nat) : Nat → List Nat → List Nat → List Nat
  | 0, _, seen => seen
  | _ + 1, [], seen => seen
  | k + 1, i :: todo, seen =>
    if seen.contains i then reach m q k todo seen
    else reach m q k ((noteIn m q i).successors i ++ todo) (insertNat i seen)

/-- At most 4,096 notes with two successors each are visited. -/
def reachable (m : WMap) (q entry : Nat) : List Nat := reach m q 8193 [entry] []

/-- What REED_VERIFY names. -/
structure Verdict where
  note : Nat
  quad : Nat
  phrase : Nat
  cause : Nat
  deriving DecidableEq, Repr

/-- CAUSE 1 before CAUSE 4 at the lowest-indexed reachable note that breaks a note rule. -/
def noteFault (m : WMap) (q kind : Nat) (l : List Nat) : Option (Nat × Nat) :=
  l.findSome? (fun i =>
    let n := noteIn m q i
    if n.reserved then some (i, 1) else if n.barred kind then some (i, 4) else none)

/-- The sustain rules: the first repeated SUS_BEGIN or SUS_END, or else a SUS_END that lies below the SUS_BEGIN. -/
def sustainFault (m : WMap) (q : Nat) (l : List Nat) : Option Nat :=
  let b := l.filter (fun i => (noteIn m q i).op == Op.susBegin)
  let e := l.filter (fun i => (noteIn m q i).op == Op.susEnd)
  let again := (b.drop 1).take 1 ++ (e.drop 1).take 1
  match again with
  | x :: ys => some (ys.foldl min x)
  | [] => match b, e with
    | x :: _, y :: _ => if y < x then some y else none
    | _, _ => none

/-- The first failure of a phrase, by the rules in their order. -/
def phraseFault (m : WMap) (q p : Nat) : Option Verdict :=
  let w := WMap.word m (R.REED_PDIR q p)
  let kind := w.bits 12 2
  let entry := w.bits 0 12
  if kind = 0 then none
  else
    let l := reachable m q entry
    match noteFault m q kind l with
    | some (i, c) => some { note := i, quad := q, phrase := p, cause := c }
    | none => match sustainFault m q l with
      | some i => some { note := i, quad := q, phrase := p, cause := 3 }
      | none =>
        if l.any (fun i => (noteIn m q i).op == Op.endNote) then none
        else some { note := entry, quad := q, phrase := p, cause := 2 }

/-- R223: ALT must name a loaded phrase of the same kind in the same quadrant, other than p itself. -/
def altFault (m : WMap) (q p : Nat) : Option Verdict :=
  let w := WMap.word m (ptabAddr (q * 256 + p * 4 + 2))
  let kind := fun p => (WMap.word m (R.REED_PDIR q p)).bits 12 2
  let alt := w.bits 0 6
  if w.bit 6 && (alt == p || kind alt == 0 || kind alt != kind p) then some { note := 0, quad := q, phrase := p, cause := 5 } else none

/-- Check 5: the dirty quadrants that are not still copying (R171), in ascending order; then every alternate. -/
def State.verifyFault (s : State) : Option Verdict :=
  let m := s.regs.shadow
  let qs := upTo s.part.quads
  let dirty := qs.filter (fun q => (s.quad q).dirty && !(s.quad q).syncing)
  match dirty.findSome? (fun q => (upTo 64).findSome? (fun p => phraseFault m q p)) with
  | some v => some v
  | none => qs.findSome? (fun q => (upTo 64).findSome? (fun p => altFault m q p))

end Sys2Proof.Machine
end

