-- ==== Sys2Proof/Machine/Commit.lean ====
section
/-! DEFINITION. COMMIT and DISCARD (R434 to R439), and what each chapter does when a COMMIT makes its set-up live. -/

namespace Sys2Proof.Machine

/-! What the copies share -/

/-- An offset at which the image holds bits, the tables among them but not their hidden fraction words. -/
def imageHolds (a : Nat) : Bool :=
  if a < 0x20000 then imageMask a != 0
  else decide (a < 0x40000) || (decide (0x100000 ≤ a) && decide (a < 0x110000)) || (decide (0x120000 ≤ a) && decide (a < 0x130000))
    || (decide (0x140000 ≤ a) && decide (a < 0x170000))

/-- The bits that a COMMIT makes live at a written offset: the installer's fields. Learned tables and needs took the write at
once and go on from it (R85, R86, R214), and a sequencer entry's EPOCH is the device's own (R333). -/
def commitMask (a : Nat) : Nat :=
  if 0x100000 ≤ a ∧ a < 0x120000 then 0
  else if 0x120000 ≤ a ∧ a < 0x130000 then (if a / 4 % 4 = 2 then 0xFFFFFFFF else 0)
  else if 0x20000 ≤ a then 0xFFFFFFFF
  else match rowAt a with
    | some (r, _) => if (upTo 6).any (fun n => decide (R.ADC_SEQB n 0 ≤ a) && decide (a ≤ R.ADC_SEQB n 31) && (a - R.ADC_SEQB n 0) % 8 == 0)
        then r.i - (r.i &&& 0xF000) else r.i
    | none => 0

/-- The live copy after a COMMIT: the written registers take their shadow values. -/
def commitLive (writers : List (Nat × Nat)) (shadow live : WMap) : WMap :=
  writers.foldl (fun m x => WMap.put x.1 (mergeMask (commitMask x.1) (WMap.word m x.1) (WMap.word shadow x.1)) m) live

/-- The image after a COMMIT: the words of the changed blocks from the shadow copy, all others as they were. -/
def commitImage (dirty : List Nat) (shadow image : WMap) : WMap :=
  (shadow.filter (fun x => dirty.contains (blockOf x.1))).foldl (fun m x => WMap.put x.1 x.2 m)
    (image.filter (fun x => !dirty.contains (blockOf x.1)))

/-- The shadow copy after a DISCARD: what the live copy holds of the image. -/
def discardShadow (live : WMap) : WMap :=
  live.foldl (fun m x => if imageHolds x.1 then WMap.put x.1 (mergeMask (imageMask x.1) (resetWord x.1) x.2) m else m) []

/-- Nothing is changed: DIRTY, the writers and the phrase stores' DIRTY are cleared. -/
def State.clean (s : State) : State :=
  { s with regs := { s.regs with writers := [], dirty := [] }, quads := s.quads.map (fun x => { x with dirty := false }) }

/-- SEC_COMMIT.DISCARD (R435). -/
def State.discardNow (p : Port) (s : State) : State :=
  if s.roleOf p = 0 ∧ s.regs.writers.any (fun x => decide (0 < x.2)) then s.deny p
  else
    let s : State := { s with regs := { s.regs with shadow := discardShadow s.regs.live } }
    s.clean

/-! The checks (Table 17.2) -/

/-- The register offset of a table's word: its data register (R436, R441). -/
def dataOffset (a : Nat) : Nat :=
  if a < 0x40000 then a
  else if a < 0x120000 then R.WHL_TERR_DATA
  else if a < 0x140000 then R.INK_PTAB_DATA
  else if a < 0x150000 then R.ACC_DATA
  else if a < 0x160000 then (let n := (a - 0x150000) / 512; if (a / 4) % 2 = 0 then R.NIB_SDATALO n else R.NIB_SDATAHI n)
  else R.SYS_FBDATA

/-- What ends a COMMIT: OUTCOME, with the register of checks 1 and 3, the clashes of check 4 or the verdict of check 5. -/
inductive CommitFault where
  | role (a : Nat)
  | journalFull
  | range (a : Nat)
  | claim (l : List (Claim × Claim))
  | phrase (v : Verdict)
  deriving DecidableEq, Repr

/-- The first check that fails, for a committing role. -/
def State.commitFault (s : State) (role : Nat) : Option CommitFault :=
  match lowest ((s.regs.writers.filter (fun x => decide (role < x.2))).map (fun x => dataOffset x.1)) with
  | some a => some (.role a)
  | none =>
    if !s.jRoom role s.regs.dirty.length then some .journalFull
    else match s.rangeFault with
      | some a => some (.range a)
      | none => match s.claimFaults with
        | [] => s.verifyFault.map .phrase
        | l => some (.claim l)

/-! The start (R436) -/

/-- GO: the checks begin, and the port is busy. How long after GO the MRAM write begins is open within the 8 ms of Table 10.8. -/
def State.commitGo (p : Port) (s : State) : State :=
  if s.sys.mode.setupOrOn then
    let wr := s.draw.1.toNat % 6400001
    let s : State := s.draw.2
    (s.modSec (fun x => { x with commit := some { role := s.roleOf p, port := p, wr := wr } })).beginBusy 2 p
  else s

/-- A write of SEC_COMMIT: GO and DISCARD together do neither and are counted. -/
def State.commitWrite (p : Port) (v : Word) (s : State) : State :=
  if v.bits 0 2 = 3 then s.count F.HIF_BADACC_CNT_COUNT
  else if v.bit 0 then s.commitGo p
  else if v.bit 1 then s.discardNow p
  else s

/-- COMMIT (R436): A write of SEC_COMMIT.GO starts COMMIT's checks and makes the port busy. -/
def execCommit (p : Port) (v : Word) (s : State) : Host.Outcome State Fault Refusal :=
  .next (s.onWrite p (fun s => if v.bit 0 then s.commitWrite p v else s))

/-- DISCARD (R435): A write of SEC_COMMIT.DISCARD copies the live copy over the shadow copy and clears DIRTY. -/
def execDiscard (p : Port) (v : Word) (s : State) : Host.Outcome State Fault Refusal :=
  .next (s.onWrite p (fun s => if v.bit 1 then s.commitWrite p v else s))

/-! The end -/

/-- A COMMIT ends with an OUTCOME and a number of entries: the port is free and a held PHRASE_PARAM acts. More entries than
ENTRIES holds leave its value open. -/
def State.commitEnds (outcome entries : Nat) (s : State) : State :=
  let t := match s.sys.busy with | some b => min (elapsed b.since s.now / 8000) 65535 | none => 0
  let n := if entries ≤ 15 then entries else s.draw.1.toNat % 16
  let s : State := if entries ≤ 15 then s else s.draw.2
  ((s.modSec (fun x => { x with commit := none, outcome := outcome, entries := n, cmtTime := t })).endBusy).releaseHeld

/-- REED_VERIFY names a failure, or says that the last COMMIT had none. -/
def State.setVerify (v : Option Verdict) (s : State) : State :=
  match v with
  | some v => s.putWord R.REED_VERIFY (Word.ofN (v.note + place 12 2 v.quad + place 14 6 v.phrase + place 20 4 v.cause + 2 ^ 31))
  | none => s.set F.REED_VERIFY_VALID 0

/-- A failing check ends the COMMIT and is counted. Which of several clashes is named the spec leaves open. -/
def State.commitFails (f : CommitFault) (s : State) : State :=
  let s : State := (s.count F.SEC_CMT_FAIL_CNT_COUNT).setVerify (match f with | .phrase v => some v | _ => none)
  match f with
  | .role a => (s.modSec (fun x => { x with cmtAddr := dataOffset a })).commitEnds 4 0
  | .journalFull => s.commitEnds 5 0
  | .range a => (s.modSec (fun x => { x with cmtAddr := dataOffset a })).commitEnds 1 0
  | .claim l =>
    let i := s.draw.1.toNat % l.length
    let s : State := if l.length ≤ 1 then s else s.draw.2
    let x := match l[i]? with | some x => x | none => (plain 0 0 0, plain 0 0 0)
    (s.modSec (fun y => { y with cmtRes := x.1.kind + place 3 9 x.1.index, cmtOwn := x.1.owner + place 16 13 x.2.owner })).commitEnds 2 0
  | .phrase _ => s.commitEnds 3 0

/-- COMMIT_FAILED (R436): A COMMIT ends at its first failing check, or with nothing dirty, without writing MRAM; OUTCOME is set and the
port is no longer busy. -/
def execCommitFailed (s : State) : Host.Outcome State Fault Refusal :=
  .next (match s.sec.commit with
    | some k =>
      if s.regs.dirty = [] then (s.setVerify none).commitEnds 0 0
      else match s.commitFault k.role with
        | some f => s.commitFails f
        | none => s
    | none => s)

/-! The journal entries of KIND 0 (R437, R441) -/

/-- The written offsets of a block, and the registers through which they are reached, lowest first. -/
def State.writtenOf (s : State) (b : Nat) : List Nat := (s.regs.writers.map Prod.fst).filter (fun a => blockOf a == b)

/-- The offsets whose image content an entry digests: the registers of the range that the image holds, then the written words of
tables. -/
def rangeWords (first last : Nat) (written : List Nat) : List Nat :=
  ((upTo ((last - first) / 4 + 1)).map (fun i => first + 4 * i)).filter imageHolds ++ written.filter (fun a => decide (0x40000 ≤ a))

/-- The digest of an image over some offsets, under the all-zero key. -/
def imageDigest (m : WMap) (l : List Nat) : Nat := digest64 (List.replicate 16 0) (wordBytes (l.map (fun a => WMap.word m a)))

/-- The entry of a dirty block, from the image before and after. -/
def State.blockEntry (k : CommitRun) (old new : WMap) (b : Nat) (written : List Nat) (s : State) : State :=
  let l := written.map dataOffset
  let first := l.foldl min (l.headD 0)
  let last := l.foldl max 0
  let ws := rangeWords first last written
  s.journal { act k.role (portNum k.port) 0 0 with block := b, first := first, last := last, old := imageDigest old ws, new := imageDigest new ws }

/-! What the chapters do (R43, R86, R94, R171, R193, R248, R330, R334, R345, R373, R472) -/

/-- A live word differs from what an earlier live copy held. -/
def State.differs (s : State) (old : WMap) (a : Nat) : Bool := s.word a != WMap.word old a

/-- N or M changes (R86): the entries of both tables that this COMMIT does not write read 1.0 in both copies. -/
def State.tablesForget (s : State) : State :=
  let s : State := ((upTo 120) ++ (upTo 240).map (fun i => i + 256)).foldl (fun (s : State) i =>
    if (assocGet (terrAddr i) s.regs.writers).isSome then s
    else ((s.putWord (terrAddr i) 0).putShadow (terrAddr i) 0).putWord (terrFrac i) 0) s
  s.set F.WHL_LEARN_CNT_COUNT 0

/-- A wheel description that changes acts as SYNC_RESET (R43), and on the slur link as RETRAIN (R472); a link
without EN rests. -/
def State.commitWheel (old : WMap) (s : State) : State :=
  let wheel := s.differs old R.WHL_TEETH || s.differs old R.WHL_TOOTH0
  let s : State := if wheel then s.syncResetNow else s
  let s : State := if s.slurOn then s else { s with slur := s.slur.rest }
  if wheel || s.differs old R.SET_CFG then s.retrainNow else s

/-- A channel's mode changes (R94): its unstarted events go with ABSENT, and a running phrase ends first. -/
def State.commitMode (old : WMap) (n : Nat) (s : State) : State :=
  let m := s.liveMode n
  let was := (WMap.word old (R.SCH_CHCFG n)).bits 0 3
  if m = was then (if s.differs old (R.SCH_CHCFG n) then s.logIdle n else s)
  else
    let s : State := (s.sch.store.filter (fun e => e.ch == n && e.unstarted)).foldl (fun (s : State) e => s.refuse e Code.absent) s
    if s.chActive n then s.modChan n (fun c => { c with modeHeld := some (c.modeHeld.getD was) })
    else s.newMode n

/-- A quadrant's new phrase store is live; threads that run finish on the old copy (R171). -/
def State.commitPhrases (old : WMap) (q : Nat) (s : State) : State :=
  if (s.quad q).dirty && !(s.quad q).syncing then
    let notes := old.filter (fun x => decide (noteAddr q 0 0 ≤ x.1) && decide (x.1 < noteAddr (q + 1) 0 0))
    let s : State := s.modQuad q (fun x => { x with live := 1 - x.live, syncing := true, old := notes })
    (upTo 6).foldl (fun (s : State) i => (upTo 2).foldl (fun (s : State) t => s.modThread (6 * q + i) t (fun k => { k with old := k.run })) s) s
  else s

/-- The words of target t other than TQ changed. -/
def targetChanged (old new : WMap) (t : Nat) : Bool :=
  let w := fun (m : WMap) => setBits (WMap.word m (accAddr t 0)) 10 2 0
  w new != w old || WMap.word new (accAddr t 1) != WMap.word old (accAddr t 1)

/-- Before the new set-up is live, the open windows of changed targets close with CAUSE 7 (R330). -/
def State.commitClose (new : WMap) (s : State) : State := s.closeAll 7 false (fun t => targetChanged s.regs.live new t)

/-- Afterwards continuous windows open again, and those of newly enabled targets open (Table 12.5); a changed TQ acts (R334). -/
def State.commitOpen (old : WMap) (was : List Nat) (s : State) : State :=
  s.targets.foldl (fun (s : State) t =>
    let w := WMap.word old (accAddr t 0)
    let src := s.get (accWsrc t)
    let now := src == 3 || src == 4 || (src == 1 && s.sys.mode.operating)
    let s : State := if s.flag (accEn t) && ((!w.bit 9 && now) || (was.contains t && (now || (src == 2 && s.clockRuns)))) then s.openWin t else s
    if w.bits 10 2 = s.get (accTq t) then s else s.tqChanged t) s

/-- Sequencer entries: a new FILT discards at the next visit (Table 12.4), and a written entry takes its target's epoch. -/
def State.commitSeq (old : WMap) (s : State) : State :=
  (upTo 6).foldl (fun (s : State) n => (upTo 32).foldl (fun (s : State) e =>
    let a := R.ADC_SEQA n e
    if s.differs old a then
      let s : State := if (WMap.word old a).bits 8 3 = s.get (F.ADC_SEQA_FILT n e) then s
        else s.modConv n (fun c => { c with fresh := insertNat e c.fresh })
      s.set (F.ADC_SEQB_EPOCH n e) (s.win (s.target n e)).epoch
    else s) s) s

/-- A Nib engine whose set-up changes stops, and starts again if it ran (R373). -/
def State.commitNib (old : WMap) (n : Nat) (s : State) : State :=
  if [R.NIB_CFG n, R.NIB_IN n, R.NIB_INKA n, R.NIB_INKB n, R.NIB_LIM n].any (fun a => s.differs old a) then
    let s : State := s.nibRestart n
    if (s.nib n).run then s else s.modNib n (fun x => { x with ink := s.nibIdle n })
  else s

/-- A boost controller whose VSET changes, or that is enabled, ramps from the measured rail (R193); one that is switched off
stops pulsing. Its account arms anew once enabled (R224), and B stays within B_TOP (R210). -/
def State.commitBoost (old : WMap) (q : Nat) (s : State) : State :=
  let w := WMap.word old (R.DRV_BSTCFG q)
  let en := s.flag (F.DRV_BSTCFG_EN q)
  let s : State := if w.bits 0 8 != s.get (F.DRV_BSTCFG_VSET q) || (en && !w.bit 20) then
      s.modQuad q (fun x => { x with target := x.vbst * 100, ramping := true }) else s
  let s : State := if en then s else s.modQuad q (fun x => { x with pulsing := false, gbc := false })
  let s : State := if s.flag (F.INK_BSTCFG_EN q) && !(WMap.word old (R.INK_BSTCFG q)).bit 28 then
      s.modQuad q (fun x => { x with armed := decide (0 ≤ x.bal) }) else s
  s.setBoost q (s.quad q).bal

/-- Rail accounts and the device account arm anew once enabled, and a new ALLOW, window or level shows (R224, R225). -/
def State.commitAccounts (old : WMap) (s : State) : State :=
  let s : State := (upTo 8).foldl (fun (s : State) g =>
    if s.flag (F.INK_RAILCFG_EN g) && !(WMap.word old (R.INK_RAILCFG g)).bit 10 then
      { s with ink := { s.ink with rails := modAt s.ink.rails g (fun x => { x with armed := decide (0 ≤ s.railBal g) }) } }
    else s) s
  let s : State := (upTo 8).foldl (fun (s : State) g => s.watchRail g false) s
  let s : State := if (WMap.word old R.INK_DEVCFG).bit 10 then s else { s with ink := { s.ink with devArmed := decide (0 ≤ s.devBal) } }
  s.watchDev

/-- A timer that is no longer in use stops; a monitor that is switched on starts UNSETTLED, and one that is off stands so (R342, R345). -/
def State.commitTimers (old : WMap) (s : State) : State :=
  let s : State := (upTo 16).foldl (fun (s : State) n => if s.flag (F.TMR_CFG_EN n) then s else s.modTmr n (fun x => { x with run := false })) s
  (upTo 8).foldl (fun (s : State) n =>
    if !s.flag (F.CMP_WMCFG_EN n) || !(WMap.word old (R.CMP_WMCFG n)).bit 8 then
      { s with cmps := { s.cmps with wm := modAt s.cmps.wm n (fun m => { m with lo := .unsettled, hi := .unsettled }) } }
    else s) s

/-- Every chapter's effect of a new live copy, given the old one and the windows that were open. -/
def State.commitEffects (old : WMap) (was : List Nat) (s : State) : State :=
  let s : State := s.commitWheel old
  let s : State := (upTo 96).foldl (fun (s : State) n => s.commitMode old n) s
  let s : State := (upTo 4).foldl (fun (s : State) q => (s.commitPhrases old q).commitBoost old q) s
  let s : State := ((s.commitOpen old was).commitSeq old).commitAccounts old
  let s : State := (upTo 8).foldl (fun (s : State) n => s.commitNib old n) s
  ((s.commitTimers old).grdLive.grdEnables).watchStore.levelsSettle

/-- The MRAM write ends (R437): one entry for each dirty block, then the shadow copy becomes live in one cycle. -/
def State.commitNow (k : CommitRun) (s : State) : State :=
  let s : State := if (setBits (s.shadowWord R.WHL_TEETH) 10 22 0) != setBits (s.word R.WHL_TEETH) 10 22 0 then s.tablesForget else s
  let dirty := s.regs.dirty
  let old := s.regs.image
  let new := commitImage dirty s.regs.shadow old
  let s : State := dirty.foldl (fun (s : State) b => s.blockEntry k old new b (s.writtenOf b)) s
  let live0 := s.regs.live
  let live1 := commitLive s.regs.writers s.regs.shadow live0
  let was := (s.adc.wins.filter (fun x => x.2.open')).map Prod.fst
  let s : State := s.rearmDev.commitClose live1
  let s : State := { s with regs := { s.regs with live := live1, image := new, imgKind := 0 }, sys := { s.sys with image := 0 } }
  let s : State := if s.flag F.SYS_CLKCFG_AON_SRC then s else { s with clk := { s.clk with aonXtal := false } }
  let s : State := s.commitEffects live0 was
  (s.clean.setVerify none).commitEnds 0 dirty.length

/-- COMMIT_DONE (R437): The MRAM write ends, the journal entries are written, and the shadow copy becomes live. -/
def execCommitDone (s : State) : Host.Outcome State Fault Refusal :=
  .next (match s.sec.commit with
    | some k => if s.regs.dirty ≠ [] ∧ s.commitFault k.role = none ∧ s.busyFor k.wr then s.commitNow k else s
    | none => s)

/-- SYS_ABORT before the MRAM write begins (R437). -/
def State.commitAbort (k : CommitRun) (s : State) : State :=
  if s.busyFor k.wr && s.regs.dirty != [] && (s.commitFault k.role).isNone then s else s.commitEnds 6 0

end Sys2Proof.Machine
end

