-- ==== Sys2Proof/Machine/Jtag.lean ====
section
/-! DEFINITION. Boundary scan (R497, R498): the instruction register, the data register it selects, and what drives the pins. -/

namespace Sys2Proof.Machine

/-- DEVICE of Table 20.4. -/
def Part.device : Part → Nat | .lva9620 => 0x9620 | .lva9612 => 0x9612 | .lva9616 => 0x9616

/-- The IDCODE register: stepping B0 (log entry 32), DEVICE, the manufacturer code 0x4E5, and 1. -/
def Part.idcode (p : Part) : Nat := place 28 4 2 + place 12 16 p.device + place 1 11 0x4E5 + 1

/-- The bits of the IDCODE register, bit 0 first. -/
def idBits (p : Part) : List Bool := (upTo 32).map (fun i => p.idcode.testBit i)

/-- EXTEST, CLAMP and HIGHZ take effect: SYS_MODE reads SETUP or MAINT (R498). -/
def State.scanActs (s : State) : Bool := s.sys.mode == .setup || s.sys.mode == .maint

/-- The instruction as it acts: outside SETUP and MAINT the three that touch pins act as BYPASS. -/
def State.scanIr (s : State) : Nat :=
  if (s.jtag.ir = 0 ∨ s.jtag.ir = 4 ∨ s.jtag.ir = 5) ∧ !s.scanActs then 15 else s.jtag.ir

/-- What drives the pins that have drive cells: 0 their functions, 1 the boundary cells, 2 nothing. -/
def State.scanDrive (s : State) : Nat :=
  if s.scanIr = 0 ∨ s.scanIr = 4 then 1 else if s.scanIr = 5 then 2 else 0

/-- An instruction is loaded: the data register it selects is the boundary register, the IDCODE register or the bypass bit. -/
def State.scan (ir : Nat) (s : State) : State :=
  let t : State := { s with jtag := { s.jtag with ir := ir } }
  let dr := if t.scanIr = 0 ∨ t.scanIr = 2 then t.jtag.cells else if t.scanIr = 1 then idBits t.part else [false]
  { t with jtag := { t.jtag with dr := dr } }

/-- The TAP has power in every mode but OFF. -/
def State.onTap (s : State) (f : State → State) : State := if s.sys.mode = .off then s else f s

/-- JTAG_EXTEST (R497): The JTAG instruction EXTEST drives the boundary cells in SETUP or MAINT. -/
def execJtagExtest (s : State) : Host.Outcome State Fault Refusal := .next (s.onTap (fun s => s.scan 0))
/-- JTAG_IDCODE (R497): The JTAG instruction IDCODE selects the IDCODE register. -/
def execJtagIdcode (s : State) : Host.Outcome State Fault Refusal := .next (s.onTap (fun s => s.scan 1))
/-- JTAG_CLAMP (R497): The JTAG instruction CLAMP holds the boundary values in SETUP or MAINT. -/
def execJtagClamp (s : State) : Host.Outcome State Fault Refusal := .next (s.onTap (fun s => s.scan 4))
/-- JTAG_HIGHZ (R497): The JTAG instruction HIGHZ releases the driven pins in SETUP or MAINT. -/
def execJtagHighz (s : State) : Host.Outcome State Fault Refusal := .next (s.onTap (fun s => s.scan 5))

/-- Every code without an instruction acts as BYPASS. -/
def execJtagBypass (_code : Nat) (s : State) : Host.Outcome State Fault Refusal := .next (s.onTap (fun s => s.scan 15))

/-- SAMPLE captures the pins into the boundary register, and PRELOAD loads the cells. -/
def execJtagSamplePreload (pins cells : List Bool) (s : State) : Host.Outcome State Fault Refusal :=
  .next (s.onTap (fun s => { s with jtag := { ir := 2, cells := cells, dr := pins } }))

/-- Test-Logic-Reset: IDCODE is the instruction (IEEE 1149.1, log entry 32), and the pins resume their functions. -/
def execTapReset (s : State) : Host.Outcome State Fault Refusal := .next (s.onTap (fun s => s.scan 1))

end Sys2Proof.Machine
end

