-- ==== Sys2Proof/Machine/Tst.lean ====
section
/-! DEFINITION. The tuning pass (chapter 18): its blocks, its two lanes, verdicts and their dependents. -/

namespace Sys2Proof.Machine

/-- The number of units of block k (Table 18.1). -/
def blockUnits (k : Nat) : Nat :=
  if k = 1 then 5 else if k = 2 then 2 else if k < 7 then 7 else if k = 7 then 8 else if k < 16 then 4 else if k < 20 then 12
  else if k < 24 then 36 else 37

/-- The duration of block k in tb (Table 18.1). -/
def blockTime (k : Nat) : Nat :=
  if k < 8 then 3200000 else if k < 16 then 2000000 else if k < 20 then 3200000 else if k < 24 then 4000000 else 2400000

/-- The charge of block k in µJ: 300 µJ per ms (R452). -/
def blockCharge (k : Nat) : Nat := blockTime k * 3 / 8000

/-- Some unit of block k is there (R448). -/
def State.testThere (s : State) (k : Nat) : Bool :=
  if 3 ≤ k ∧ k < 7 then decide (k - 3 < s.part.quads)
  else if 8 ≤ k ∧ k < 16 then decide (k - 8 < s.part.grds)
  else if 16 ≤ k then decide ((k - 16) % 4 < s.part.quads)
  else decide (0 < k)

/-- A guardian block that this pass skips (R453): in ARMED one whose guardian drives its gate or waits to retry; a held
guardian's in ARMED and in BOOT after a wake. -/
def State.blockSkipped (s : State) (k : Nat) : Bool :=
  !s.testThere k || (decide (8 ≤ k) && decide (k < 16)
    && ((s.grd (k - 8)).held || (!s.tst.boot && ((s.grd (k - 8)).st.gateOn || (s.grd (k - 8)).st == .retryWait))))

/-- The first block that is not skipped, from k on, out of n. -/
def State.laneNext (s : State) : Nat → Nat → Nat
  | 0, k => k
  | n + 1, k => if s.blockSkipped k then s.laneNext n (k + 1) else k

/-- The lane goes past the blocks to skip, which take no time (R450). -/
def State.laneSkip (laneB : Bool) (s : State) : State :=
  let t := s.tst
  let k := if laneB then t.nextB else t.nextA
  let k' := s.laneNext ((if laneB then 28 else 16) - k) k
  let sk := (blocksFrom k k').foldl (fun l i => insertNat i l) t.skip
  { s with tst := if laneB then { t with nextB := k', skip := sk } else { t with nextA := k', skip := sk } }

/-- Both lanes are through. -/
def State.lanesOver (s : State) : Bool :=
  s.tst.blockA == 0 && s.tst.blockB == 0 && decide (16 ≤ s.tst.nextA) && decide (28 ≤ s.tst.nextB)

/-- A pass whose lanes are through ends (R455). -/
def State.passSettle (s : State) : State := if s.tst.running && s.lanesOver then s.tstEnd 0 else s

/-- A GO is judged (R457). -/
def State.passJudge (p : Port) (s : State) : State :=
  let s : State := { s with tst := { s.tst with asked := none } }
  if s.sys.mode == .armed && !s.tst.running && s.sys.sleep.isNone then (s.passBegin false).beginBusy 4 p
  else { s with tst := { s.tst with refused := true } }

/-- What may change the mode in the fabric cycle of a GO. -/
def movesMode : Instr → Bool
  | .modeRequestDormant _ _ | .modeRequestSafestop _ | .modeRequestSetup _ | .modeRequestArmed _ | .modeRequestMaint _
  | .modeRequestMaintExit _ | .safestopExit _ | .sleepCommit => true
  | c => outranks c

/-- A write of TST_CTRL.GO. A mode transition of the same fabric cycle comes first (R405, R457). -/
def State.passGo (p : Port) (s : State) : State :=
  if s.pending.any movesMode then { s with tst := { s.tst with asked := some p } } else s.passJudge p

/-- A GO that has waited is judged. -/
def State.passAsked (s : State) : State := match s.tst.asked with | some p => s.passJudge p | none => s

/-- A write of TST_CTRL. While a pass holds the port a GO is refused, and the port drops the write (R264). -/
def State.tstWrite (p : Port) (v : Word) (s : State) : State :=
  let s : State := if v.bit 0 && s.busyOp == 4 then { s with tst := { s.tst with refused := true } } else s
  s.onWrite p (fun s => if v.bit 0 then s.passGo p else s)

/-- TUNING_GO (R457): A write of TST_CTRL.GO in ARMED starts a tuning pass. -/
def execTuningGo (p : Port) (v : Word) (s : State) : Host.Outcome State Fault Refusal := .next (s.tstWrite p v)

/-- R453: the gates of the units of block 24 + q are held low, and its boost controller with them. -/
def State.testLow (q : Nat) (s : State) : State :=
  let s : State := (upTo 24).foldl (fun (s : State) i => s.modChan (24 * q + i) (fun c => { c with gl := false })) s
  let s : State := (upTo 6).foldl (fun (s : State) i => s.modBank (6 * q + i) (fun b => { b with ghv := false, ghb := false })) s
  s.modQuad q (fun x => { x with pulsing := false, gbc := false })

/-- Block k starts: it is charged, and its units act as under test (R452, R453). -/
def State.blockStart (laneB : Bool) (k : Nat) (s : State) : State :=
  let s : State := s.chargeDev (blockCharge k)
  let t := s.tst
  let s : State := { s with tst := if laneB then { t with blockB := k, nextB := k + 1, sinceB := s.now }
                                   else { t with blockA := k, nextA := k + 1, sinceA := s.now } }
  if 24 ≤ k then s.testLow (k - 24) else s

/-- In ARMED a block waits until the device account covers it (R226). -/
def State.blockCovered (s : State) (k : Nat) : Bool :=
  s.tst.boot || !s.flag F.INK_DEVCFG_EN || decide ((blockCharge k * 1000 : Int) ≤ s.devBal)

/-- A lane whose previous block has ended starts its next one. -/
def execTuningBlockStart (laneB : Bool) (s : State) : Host.Outcome State Fault Refusal :=
  .next (
    let free := if laneB then s.tst.blockB == 0 else s.tst.blockA == 0
    if s.tst.running && free then
      let s : State := s.laneSkip laneB
      let k := if laneB then s.tst.nextB else s.tst.nextA
      if (if laneB then 28 else 16) ≤ k then s.passSettle
      else if s.blockCovered k then s.blockStart laneB k else s
    else s)

/-! Verdicts (R454, R456, R7 to R9) -/

/-- The failed units of a block, in rising order and of units that the block has. -/
def failUnits (k : Nat) (fails : List UnitFail) : List Nat :=
  (upTo (blockUnits k)).filter (fun u => fails.any (fun f => f.unit == u))

/-- The deviation reported for a unit. -/
def failDev (u : Nat) (fails : List UnitFail) : Int := ((fails.find? (fun f => f.unit == u)).map UnitFail.dev).getD 0

/-- Bank b has a failed unit of its own: a comparator, or a GHV or GHB driver (Table 18.2). -/
def State.bankMarked (s : State) (b : Nat) : Bool :=
  let q := b / 6; let i := b % 6
  s.failed (16 + q) (2 * i) || s.failed (16 + q) (2 * i + 1) || s.failed (20 + q) (24 + 2 * i) || s.failed (20 + q) (25 + 2 * i)
    || s.failed (24 + q) (24 + i) || s.failed (24 + q) (30 + i)

/-- The channels, guardians and converters that a verdict newly marks leave (R7, R8, R335). t is the state before it. -/
def State.marksSet (s t : State) : State :=
  let s : State := (upTo 96).foldl (fun (s : State) n => if t.chUsable n && !s.chUsable n then s.chGone n else s) s
  let s : State := (upTo 8).foldl (fun (s : State) g =>
    if t.grdUsable g && !s.grdUsable g then (s.grdOffTo g .off).sourceGone g else s) s
  let s : State := (upTo 4).foldl (fun (s : State) q =>
    if t.boostUsable q && !s.boostUsable q then s.modQuad q (fun x => { x with pulsing := false, gbc := false, regOn := false }) else s) s
  (upTo 6).foldl (fun (s : State) n => if t.convUsable n && !s.convUsable n then s.convGone n else s) s

/-- The windows of a converter that resumes open as they do at enable (R9, Table 12.5). -/
def State.convWins (n : Nat) (s : State) : State :=
  s.openAll (fun t =>
    (match s.feeder t with | some (m, _) => m == n | none => false)
      && (decide (3 ≤ s.get (accWsrc t)) || (s.get (accWsrc t) == 1 && s.sys.mode.operating)))

/-- A guardian that resumes: off, with its configured live levels. -/
def State.grdFresh (g : Nat) (s : State) : State :=
  s.modGrd g (fun x => { x.pins with pinTb := x.pinTb, liveFt := s.get (F.GRD_SENSE_FT g), liveIlim := s.get (F.GRD_RAMP_ILIM g) })

/-- The comparators of a bank's own stand UNSETTLED with their latches clear (R9, R342). -/
def State.bankCmpFresh (b : Nat) (s : State) : State :=
  let c := s.cmps
  let s : State := { s with cmps := { c with peak := setAt c.peak b .unsettled, hold := setAt c.hold b .unsettled,
                                             ghv := setAt c.ghv b .unsettled, ghb := setAt c.ghb b .unsettled } }
  (((s.clrBit F.CMP_PKLAT_BK b).clrBit F.CMP_HDLAT_BK b).clrBit F.CMP_HVLAT_BK b).clrBit F.CMP_HBLAT_BK b

/-- So does the VDS comparator of a channel. -/
def State.chCmpFresh (n : Nat) (s : State) : State :=
  let s : State := { s with cmps := { s.cmps with vds := setAt s.cmps.vds n .unsettled, fine := s.cmps.fine.filter (fun x => x.1 != n) } }
  s.clrBit (F.CMP_VDSLAT_CH (n / 32)) (n % 32)

/-- So do the comparators of a guardian. -/
def State.grdCmpFresh (g : Nat) (s : State) : State :=
  let s : State := { s with cmps := { s.cmps with ft := setAt s.cmps.ft g .unsettled, rev := setAt s.cmps.rev g .unsettled } }
  (s.clrBit F.CMP_GLAT_FT g).clrBit F.CMP_GLAT_REV g

/-- A window monitor starts with its comparators UNSETTLED and its SEEN flags clear. -/
def State.wmFresh (n : Nat) (s : State) : State :=
  let s : State := { s with cmps := { s.cmps with wm := setAt s.cmps.wm n WMon.initial } }
  (s.clrBit (F.CMP_WMSTAT_BELOW_SEEN n) 0).clrBit (F.CMP_WMSTAT_ABOVE_SEEN n) 0

/-- The units that a verdict makes usable again start afresh (R9). t is the state before it. -/
def State.marksLifted (s t : State) : State :=
  let s : State := (upTo 24).foldl (fun (s : State) b =>
    if t.bankMarked b && !s.bankMarked b then (s.modBank b (fun k => { k with oc := false, ocSeen := false })).bankCmpFresh b else s) s
  let s : State := (upTo 96).foldl (fun (s : State) n =>
    if !t.chUsable n && s.chUsable n then ((s.modChan n (fun _ => Chan.initial)).chCmpFresh n).logIdle n else s) s
  let s : State := (upTo 8).foldl (fun (s : State) g =>
    if !t.grdUsable g && s.grdUsable g then
      (({ s with ink := { s.ink with rails := setAt s.ink.rails g { Rail.initial with endAt := s.now, endAon := s.clk.aon, armed := true } } } : State).grdFresh g).grdCmpFresh g
    else s) s
  let s : State := (upTo 4).foldl (fun (s : State) q =>
    if !t.boostUsable q && s.boostUsable q then
      let b := min (s.boostM q) (s.boostTop q)
      s.modQuad q (fun x => { x with regOn := false, ramping := false, ov := false, bal := b, armed := decide (0 ≤ b) })
    else s) s
  let s : State := (upTo 6).foldl (fun (s : State) n =>
    if !t.convUsable n && s.convUsable n then
      (s.modConv n (fun c => { Conv.initial with loops := c.loops, prev := some (32, if n < 4 then 0 else 4) })).convWins n
    else s) s
  let s : State := (upTo 8).foldl (fun (s : State) n =>
    if !t.wmUsable n && s.wmUsable n then s.wmFresh n else s) s
  let s : State := (upTo 4).foldl (fun (s : State) n =>
    if !t.camUsable n && s.camUsable n then { s with whl := { s.whl with camK := setAt s.whl.camK n 0 } } else s) s
  if !t.crankUsable && s.crankUsable then { s with whl := { s.whl with arm := none, coarse := false } } else s

/-- The verdict of block k. -/
def State.verdict (k : Nat) (fails : List UnitFail) (s : State) : State :=
  let us := failUnits k fails
  let t := s
  let s : State := { s with tst := { s.tst with
    marks := s.tst.marks.filter (fun m => m.1 != k) ++ us.map (fun u => (k, u)) } }
  let s : State := (s.marksSet t).marksLifted t
  match us with
  | [] => s
  | u :: _ =>
    let x := s.tst
    let s : State := { s with tst := { x with fail := insertNat k x.fail,
                                              first := some (x.first.getD (k, u, failDev u fails)) } }
    s.alarm 29 k us.length u

/-- A block ends: its units restart, its verdict falls, and its lane goes on. -/
def State.blockEnd (laneB : Bool) (k : Nat) (fails : List UnitFail) (s : State) : State :=
  let t := s.tst
  let s : State := { s with tst := if laneB then { t with blockB := 0 } else { t with blockA := 0 } }
  let s : State := ((s.restartUnits k).testOver k).verdict k fails
  (s.laneSkip laneB).passSettle

/-- A block that an abort of this fabric cycle has cut off at its end gives its verdict all the same (R458). -/
def State.lateVerdict (k : Nat) (fails : List UnitFail) (s : State) : State :=
  let s : State := (s.inCycle (fun m => { m with tested := m.tested.filter (fun x => x.1 != k) })).verdict k fails
  { s with tst := { s.tst with record := s.tst.marks } }

/-- The block of a lane in this fabric cycle, with its start: the one running, or the one that the end of the pass has cut off. -/
def State.laneBlock (s : State) (laneB : Bool) : Nat × Tb :=
  if s.tst.running then (if laneB then (s.tst.blockB, s.tst.sinceB) else (s.tst.blockA, s.tst.sinceA))
  else (s.regs.same.tested.find? (fun x => decide (16 ≤ x.1) == laneB)).getD (0, 0)

/-- TUNING_BLOCK_END (R454): A test block ends, and its units are given their verdicts and marks. -/
def execTuningBlockEnd (laneB : Bool) (fails : List UnitFail) (s : State) : Host.Outcome State Fault Refusal :=
  .next (
    let x := s.laneBlock laneB
    if x.1 != 0 && decide (blockTime x.1 ≤ elapsed x.2 s.now) then
      (if s.tst.running then s.blockEnd laneB x.1 fails else s.lateVerdict x.1 fails)
    else s)

/-! The registers (Table 18.5) -/

/-- TST_STAT. -/
def State.tstStat (s : State) : Nat :=
  let t := s.tst
  b2n t.running + 2 * b2n t.boot + place 2 2 t.cause + place 4 1 (b2n t.refused) + place 5 5 t.blockA + place 10 5 t.blockB
    + place 16 16 t.time

/-- TST_FAIL and TST_SKIP: bit k for block k. -/
def blockWord (l : List Nat) : Nat := (l.map (fun k => 2 ^ k)).sum

/-- TST_FIRST. -/
def State.tstFirst (s : State) : Nat :=
  match s.tst.first with
  | some (k, u, d) => k + place 5 6 u + place 16 16 (unsigned 16 d)
  | none => 0

/-! The health marks (Table 20.3) -/

/-- The number whose n bits p gives. -/
def bitsOf (n : Nat) (p : Nat → Bool) : Nat := ((upTo n).map (fun i => b2n (p i) * 2 ^ i)).sum

end Sys2Proof.Machine
end

