-- ==== Sys2Proof/Machine/RegRead.lean ====
section
/-! DEFINITION. What the read-only set-up registers read: the words that follow from the state, block by block. -/

namespace Sys2Proof.Machine

/-! SYS (Tables 20.3 and 16.10) -/

/-- SYS_CAP0 and SYS_CAP1 (Table 20.4). -/
def Part.cap0 : Part → Nat | .lva9612 => 0x00300C03 | _ => 0x0060180F
/-- SYS_CAP1 of each part (R481, Table 20.4). -/
def Part.cap1 : Part → Nat | .lva9620 => 0x0001FFFF | .lva9612 => 0x00000F0F | .lva9616 => 0x0000FF00

/-- SYS_STAT. -/
def State.sysStat (s : State) : Nat :=
  match s.sys.busy with
  | some b => 1 + place 1 3 b.op + place 4 1 (portNum b.port) + place 16 16 (min (elapsed b.since s.now / 8000) 65535)
  | none => 0

/-- SYS_MODE. -/
def State.sysMode (s : State) : Nat := s.sys.mode.code + place 4 1 (b2n s.sys.fbFlag) + place 8 4 s.sys.prev.code

/-- SYS_HEALTH0 to SYS_HEALTH4: a 1 marks a present unit as unusable. -/
def State.health (s : State) (i : Nat) : Nat :=
  if i = 0 then
    b2n (!s.crankUsable) + place 1 4 (bitsOf 4 (fun n => !s.camUsable n))
      + place 5 4 (bitsOf s.part.quads (fun q => !s.convUsable q)) + place 9 2 (bitsOf 2 (fun h => !s.convUsable (4 + h)))
      + place 11 8 (bitsOf 8 (fun n => !s.wmUsable n)) + place 19 8 (bitsOf s.part.grds (fun g => !s.grdUsable g))
      + place 27 4 (bitsOf s.part.quads (fun q => !s.boostUsable q))
  else if i = 1 then bitsOf s.part.banks (fun b => !s.closeUsable b)
  else bitsOf 32 (fun j => decide (32 * (i - 2) + j < s.part.channels) && s.chMarked (32 * (i - 2) + j))

/-- SYS_SAFESTAT.ACTIVE. -/
def State.safeBits (s : State) : Nat := bitsOf 6 (fun i => s.sys.safeActive.contains (i + 1))

def State.readSys (s : State) (a : Nat) : Option Nat :=
  if a = R.SYS_ID then some (0x1F5A + place 16 16 s.part.device)
  else if a = R.SYS_REV then some 0x10
  else if a = R.SYS_UID_LO then some (Config.uid.toNat % 2 ^ 32)
  else if a = R.SYS_UID_HI then some (Config.uid.toNat / 2 ^ 32)
  else if a = R.SYS_CAP0 then some s.part.cap0
  else if a = R.SYS_CAP1 then some s.part.cap1
  else if a = R.SYS_STAT then some s.sysStat
  else if a = R.SYS_MODE then some s.sysMode
  else if R.SYS_HEALTH0 ≤ a ∧ a ≤ R.SYS_HEALTH 2 then some (s.health ((a - R.SYS_HEALTH0) / 4))
  else if a = R.SYS_MODESTAT then
    some (s.sys.req + place 4 3 s.sys.result + place 8 2 s.sys.image + place 10 1 (b2n s.sys.tstRan) + place 16 16 s.sys.bootT)
  else if a = R.SYS_CLKSTAT then
    some (b2n s.clk.aonXtal + 2 * b2n s.clk.refOk + 4 * b2n s.clk.pllLock + place 8 4 (bitsOf 4 (fun q => s.clk.qrun.getD q false)))
  else if a = R.SYS_SAFESTAT then some (s.sys.safeCause + place 4 6 s.safeBits + place 12 6 (s.get F.SYS_SAFESTAT_SEEN))
  else if a = R.SYS_FBSTAT then
    some (b2n s.sys.fbFlag + 2 * b2n s.sys.fbPend + place 2 2 s.sys.fbCause + place 16 16 s.sys.fbAdmitted)
  else none

/-! SEC (Table 17.6) -/

/-- Word i of a 128-bit value, bits [32i + 31:32i]. -/
def word128 (v : BitVec 128) (i : Nat) : Nat := v.toNat / 2 ^ (32 * i) % 2 ^ 32

def State.readSec (s : State) (a : Nat) : Option Nat :=
  let x := s.sec
  if a = R.SEC_SESS_STAT then
    some (x.role + place 2 1 (portNum x.port) + place 3 1 (b2n x.chal.isSome) + place 4 1 (b2n s.locked) + place 5 2 x.fails
      + place 7 1 (b2n x.refused))
  else if R.SEC_CHAL 0 ≤ a ∧ a ≤ R.SEC_CHAL 3 then some (word128 x.chalWords ((a - R.SEC_CHAL 0) / 4))
  else if a = R.SEC_KSTAT then some (b2n x.ikey.isSome)
  else if a = R.SEC_CMT_STAT then some (x.outcome + place 4 4 x.entries + place 8 18 x.cmtAddr)
  else if a = R.SEC_CMT_RES then some x.cmtRes
  else if a = R.SEC_CMT_OWN then some x.cmtOwn
  else if a = R.SEC_CMT_TIME then some x.cmtTime
  else if a = R.SEC_STAT then some (blockWord s.regs.dirty)
  else if a = R.SEC_JSTAT then
    some (x.journal.length + place 13 1 (b2n s.jFull) + place 14 1 (b2n s.sealable) + place 15 1 (b2n x.sealRefused)
      + place 16 13 s.jIm)
  else if a = R.SEC_JOLDOP then some s.jOldOp
  else if R.SEC_JSEAL 0 ≤ a ∧ a ≤ R.SEC_JSEAL 3 then some (word128 x.sealVal ((a - R.SEC_JSEAL 0) / 4))
  else if a = R.SEC_JSEALCNT then some x.sealCnt
  else none

/-! HIF (Tables 10.7 and 11.15) -/

/-- HIF_LINK. -/
def State.hifLink (s : State) : Nat :=
  let h := s.hif
  h.speed + place 4 2 h.width + place 6 1 (b2n h.up) + place 7 1 (b2n h.bme) + place 8 1 (b2n h.msixEn) + place 9 1 (b2n h.fmask)
    + place 10 2 (if h.d3 then 3 else 0) + place 12 1 (b2n h.l1)

/-- HIF_OBSTAT. -/
def State.obStat (s : State) : Nat :=
  let h := s.hif
  b2n (decide (foldLevel ≤ h.alarms.length)) + 2 * b2n (decide (teleRoom ≤ h.tele.length)) + 4 * b2n (decide (traceRoom ≤ h.trace.length))
    + place 8 9 h.alarms.length

/-- HIF_RSTATr. A stopped ring is not in service (R291). -/
def State.ringStat (s : State) (r : Nat) : Nat :=
  let x := s.ring r
  place 0 16 x.idx + place 16 1 (b2n (x.active && !x.err)) + place 17 1 (b2n x.full) + place 18 1 (b2n (s.stalled r)) + place 19 1 (b2n x.err)
    + place 20 3 x.errc

def State.readHif (s : State) (a : Nat) : Option Nat :=
  if a = R.HIF_LINK then some s.hifLink
  else if a = R.HIF_OBSTAT then some s.obStat
  else if R.HIF_RSTAT 0 ≤ a ∧ a ≤ R.HIF_RSTAT 18 ∧ (a - R.HIF_RSTAT 0) % 16 = 0 then some (s.ringStat ((a - R.HIF_RSTAT 0) / 16))
  else none

/-! WHL (Tables 2.9 and 3.5) -/

/-- WHL_STAT. -/
def State.whlStat (s : State) : Nat :=
  let w := s.whl
  w.sync.code + place 3 1 (b2n w.crankSet) + place 4 1 (b2n w.coarse) + place 5 1 (b2n w.phaseKnown) + place 6 1 (b2n w.prov.isSome)
    + place 7 1 (b2n w.rev) + place 8 7 w.pos + place 16 3 w.gaps

/-- The computed bits of WHL_ACLK_STAT. -/
def State.aclkStat (s : State) : Nat :=
  b2n s.clockRuns + 2 * b2n s.ang.clamped + 4 * b2n s.ang.steadyOk + 8 * b2n s.ang.learnActive + 16 * b2n s.torsOn

/-- WHL_CAMnEk_ANG: VALID reads 1 for a capture of the current cycle with a known angle (R60, Table 2.9). -/
def State.camAng (s : State) (n k : Nat) : Nat :=
  let w := (s.word (R.WHL_CAM_ANG n k)).toNat
  if s.clockRuns && decide (k < s.whl.camK.getD n 0) then w else w - place 23 1 (w >>> 23)

def State.readWhl (s : State) (a : Nat) : Option Nat :=
  if a = R.WHL_STAT then some s.whlStat
  else if a = R.WHL_STAMP_HI then some s.whl.stampHi
  else if a = R.WHL_ACLK_STAT then some (s.aclkStat + place 5 3 ((s.word a).bits 5 3))
  else if a = R.WHL_ANGLE_TLO then some (s.ang.latch.toNat % 2 ^ 32)
  else if a = R.WHL_ANGLE_THI then some (s.ang.latch.toNat / 2 ^ 32)
  else if a = R.WHL_RATE then some s.ang.rate
  else if a = R.WHL_PRED then some s.ang.p
  else if a = R.WHL_U1 then some s.ang.u1
  else if a = R.WHL_U2 then some s.ang.u2
  else if a = R.WHL_REVTIME then some (if s.ang.revTime < 2 ^ 32 then s.ang.revTime else (Config.wideRev s.ang.revTime).toNat)
  else if R.WHL_CAM_ANG 0 0 ≤ a ∧ a < R.WHL_CAM_ANG 4 0 ∧ a % 8 = 0 then some (s.camAng ((a - R.WHL_CAM_ANG 0 0) / 64) (a / 8 % 8))
  else none

/-! SCH (Tables 4.8 and 5.5) -/

/-- DLVL: a bucket's level in CAP / 256. -/
def duty256 (level limit win : Nat) : Nat := if limit * win = 0 then 0 else min (level * 256 / (limit * win * 800000)) 255

/-- SCH_QSTATnn. -/
def State.qStat (s : State) (n : Nat) : Nat :=
  let es := s.sch.store.filter (fun e => e.ch == n && e.unstarted)
  place 0 7 es.length + place 8 7 (es.filter (fun e => e.phase == .released)).length + place 15 1 (b2n (s.chActive n))

/-- SCH_LSTATnn. -/
def State.lStat (s : State) (n : Nat) : Nat :=
  let c := s.chan n
  min (c.debt / 800) 65535 + place 16 8 (duty256 c.bucket (s.get (F.SCH_LIM_LIMIT n)) (s.get (F.SCH_LIM_WIN n)))
    + place 24 1 (b2n c.coast.isSome) + place 25 1 (b2n ((s.threadsOn n).any (s.inWatch (n / 4))))

/-- SCH_BKSTATbb. -/
def State.bkStat (s : State) (b : Nat) : Nat :=
  let k := s.bank b
  duty256 k.bucket (s.get (F.SCH_BKDUTY_LIMIT b)) (s.get (F.SCH_BKDUTY_WIN b)) + place 8 2 (k.threads.filter Thread.run).length
    + place 10 5 (min (k.waiting.length + ((upTo 2).filter (s.waitsToken b)).length) 31)

def State.readSch (s : State) (a : Nat) : Option Nat :=
  if a = R.SCH_STAT then some (b2n s.hif.normalStall + 2 * b2n s.hif.urgentStall)
  else if a = R.SCH_FREE then some s.free
  else if R.SCH_QSTAT 0 ≤ a ∧ a ≤ R.SCH_QSTAT 95 then some (s.qStat ((a - R.SCH_QSTAT 0) / 4))
  else if R.SCH_LSTAT 0 ≤ a ∧ a ≤ R.SCH_LSTAT 95 then some (s.lStat ((a - R.SCH_LSTAT 0) / 4))
  else if R.SCH_BKSTAT 0 ≤ a ∧ a ≤ R.SCH_BKSTAT 23 then some (s.bkStat ((a - R.SCH_BKSTAT 0) / 4))
  else none

/-! REED and DRV (Tables 6.12 and 7.6) -/

/-- REED_PSTATq. -/
def State.pStat (s : State) (q : Nat) : Nat :=
  let x := s.quad q
  let old := (upTo 6).any (fun i => (upTo 2).any (fun t => (s.thread (6 * q + i) t).run && (s.thread (6 * q + i) t).old))
  x.live + 2 * b2n x.dirty + 4 * b2n old + 8 * b2n x.syncing
    + place 8 7 ((upTo 64).filter (fun p => s.get (F.REED_PDIR_KIND q p) != 0)).length

/-- REED_TOKEN_STATbb. -/
def State.tokenStat (s : State) (b : Nat) : Nat :=
  (s.bank b).token + place 2 2 (bitsOf 2 (s.waitsToken b)) + place 4 2 (s.cmpOwner b)

/-- REED_THRbb. -/
def State.thrStat (s : State) (b : Nat) : Nat :=
  place 0 12 (s.thread b 0).noteIdx + place 12 1 (b2n (s.thread b 0).run) + place 16 12 (s.thread b 1).noteIdx + place 28 1 (b2n (s.thread b 1).run)

/-- DRV_BSTSTATq. -/
def State.bstStat (s : State) (q : Nat) : Nat :=
  let x := s.quad q
  place 0 10 x.vbst + place 16 1 (b2n (s.boostMode q && x.pulsing)) + place 17 1 (b2n (s.boostMode q && x.ramping)) + place 18 1 (b2n x.ov)
    + place 19 1 (b2n (decide (tonEff s q x.vbat < s.get (F.DRV_BSTTIM_TON q) * 50)))

def State.readDrv (s : State) (a : Nat) : Option Nat :=
  if R.REED_PSTAT 0 ≤ a ∧ a ≤ R.REED_PSTAT 3 then some (s.pStat ((a - R.REED_PSTAT 0) / 4))
  else if R.REED_TOKEN_STAT 0 ≤ a ∧ a ≤ R.REED_TOKEN_STAT 23 then some (s.tokenStat ((a - R.REED_TOKEN_STAT 0) / 4))
  else if R.REED_THR 0 ≤ a ∧ a ≤ R.REED_THR 23 then some (s.thrStat ((a - R.REED_THR 0) / 4))
  else if R.DRV_OCLATCH 0 ≤ a ∧ a ≤ R.DRV_OCLATCH 2 then
    some (bitsOf 32 (fun j => (s.chan (8 * (a - R.DRV_OCLATCH 0) + j)).oc))
  else if R.DRV_TRIM 0 ≤ a ∧ a ≤ R.DRV_TRIM 95 then
    some ((setBits (s.word a) 16 1 (b2n (s.trimAtLimit ((a - R.DRV_TRIM 0) / 4)))).toNat)
  else if a = R.DRV_BKLATCH then some (bitsOf 24 (fun b => (s.bank b).oc))
  else if R.DRV_BSTSTAT 0 ≤ a ∧ a ≤ R.DRV_BSTSTAT 3 ∧ (a - R.DRV_BSTSTAT 0) % 16 = 0 then
    some (s.bstStat ((a - R.DRV_BSTSTAT 0) / 16))
  else none

/-! INK and GRD (Tables 8.5 and 9.9) -/

/-- A balance in nJ as a signed 32-bit word of µJ. -/
def microJ (x : Int) : Nat := unsigned 32 (x / 1000)

/-- INK_STAT. -/
def State.inkStat (s : State) : Nat :=
  bitsOf 4 (fun q => decide ((s.quad q).bal < 0)) + place 4 8 (bitsOf 8 (fun g => decide (s.railBal g < 0)))
    + place 12 1 (b2n (decide (s.devBal < 0))) + place 16 8 (bitsOf 8 (fun g => (s.ink.rails.getD g Rail.initial).deny))

def State.readInk (s : State) (a : Nat) : Option Nat :=
  if a = R.INK_STAT then some s.inkStat
  else if a = R.INK_RESV_USED then some s.ink.resv.length
  else if a = R.INK_DEVBAL then some (microJ s.devBal)
  else if R.INK_BSTCFG 0 ≤ a ∧ a < R.INK_RAILCFG 0 then
    let q := (a - R.INK_BSTCFG 0) / 16
    if a = R.INK_BSTBAL q then some (microJ (s.quad q).bal) else if a = R.INK_BSTRATE q then some (s.bstRate q) else none
  else if R.INK_RAILCFG 0 ≤ a ∧ a < R.INK_DEVCFG then
    let g := (a - R.INK_RAILCFG 0) / 16
    if a = R.INK_RAILBAL g then some (microJ (s.railBal g)) else none
  else none

def State.readGrd (s : State) (a : Nat) : Option Nat :=
  let g := (a - R.GRD_CFG 0) / 0x70
  let x := s.grd g
  if a = R.GRD_SUM then some s.grdSum
  else if a = R.GRD_STAT g then some (s.grdStat g)
  else if a = R.GRD_VMEAS g then some x.vmeas
  else if a = R.GRD_IMEAS g then some (unsigned 16 x.cur)
  else if a = R.GRD_EHI g then some x.ehi
  else if a = R.GRD_SOAACC g then some (min (x.soa / 1000) (2 ^ 32 - 1))
  else if a = R.GRD_I2TACC g then some (min (x.i2t / 10 ^ 15) (2 ^ 32 - 1))
  else if a = R.GRD_LIVE g then some (x.liveFt + place 8 8 x.liveIlim)
  else none

/-! ADC, CMP and TMR (Tables 12.9 and 13.7) -/

/-- ADC_STATn. -/
def State.adcStat (s : State) (n : Nat) : Nat :=
  let c := s.conv n
  place 0 5 c.entry + place 5 1 (b2n (s.converts n && s.bitOf F.ADC_CTRL_EN n)) + place 6 1 (b2n (s.calibrating n))
    + place 7 3 c.urg.length + place 16 16 c.loops

def State.readAdc (s : State) (a : Nat) : Option Nat :=
  let x := s.adc
  if a = R.ADC_CALSTAT then
    some (blockWord x.calDone + place 8 6 (blockWord x.calFail) + place 16 1 (b2n x.cal.isSome) + place 17 1 (b2n x.calAborted))
  else if a = R.ADC_MOVE_STAT then some (x.moveResult + place 8 1 (b2n x.movePend.isSome))
  else if R.ADC_STAT 0 ≤ a ∧ a ≤ R.ADC_STAT 5 then some (s.adcStat ((a - R.ADC_STAT 0) / 4))
  else none

/-- A comparator of bank b is UNSETTLED: its peak, hold, GHV, GHB or its channels' VDS comparators. -/
def State.bankUnset (s : State) (b : Nat) : Bool :=
  let c := s.cmps
  let un := fun (l : List Cmp) (i : Nat) => l.getD i .below == .unsettled
  decide (b < s.part.banks) && s.analogOn && (un c.peak b || un c.hold b || un c.ghv b || un c.ghb b || (upTo 4).any (fun i => un c.vds (4 * b + i)))

/-- CMP_UNSET: comparators that have no power are not UNSETTLED (its reset value is 0). -/
def State.cmpUnset (s : State) : Nat :=
  bitsOf 24 s.bankUnset
    + place 24 8 (bitsOf 8 (fun g => s.grdUsable g && (s.analogOn || (s.grd g).held) && (s.cmps.ft.getD g .below == .unsettled || s.cmps.rev.getD g .below == .unsettled)))

/-- The computed bits of CMP_WMSTATn; an off monitor has no UNSETTLED comparators. -/
def State.wmStat (s : State) (n : Nat) : Nat :=
  let m := s.wmon n
  m.state + place 2 1 (b2n (s.wmRuns n && m.lo == .unsettled)) + place 3 1 (b2n (s.wmRuns n && m.hi == .unsettled)) + place 16 16 m.exits

/-- The computed bits of TMR_STATn. -/
def State.tmrStat (s : State) (n : Nat) : Nat := b2n (s.tmr n).run + 2 * b2n (s.tmr n).out + 4 * b2n (decide (0 < (s.tmr n).debt))

def State.readCmp (s : State) (a : Nat) : Option Nat :=
  if a = R.CMP_UNSET then some s.cmpUnset
  else if R.CMP_WMSTAT 0 ≤ a ∧ a ≤ R.CMP_WMSTAT 7 ∧ (a - R.CMP_WMSTAT 0) % 16 = 0 then
    some (s.wmStat ((a - R.CMP_WMSTAT 0) / 16) + place 4 2 ((s.word a).bits 4 2))
  else none

def State.readTmr (s : State) (a : Nat) : Option Nat :=
  let n := (a - R.TMR_CFG 0) / 0x30
  let x := s.tmr n
  if a = R.TMR_CNT n then some x.count
  else if a = R.TMR_CAPR n then some x.capR
  else if a = R.TMR_CAPF n then some x.capF
  else if a = R.TMR_WIDTH n then some x.width
  else if a = R.TMR_STAT n then some (s.tmrStat n + place 3 5 ((s.word a).bits 3 5))
  else if a = R.TMR_DEBT n then some x.debt
  else none

/-! NIB, EVC, TST and SET (Tables 14.7, 15.5, 18.5 and 19.5) -/

def State.readNib (s : State) (a : Nat) : Option Nat :=
  let n := (a - R.NIB_CFG 0) / 0x40
  let x := s.nib n
  if a = R.NIB_SDATAHI n then some x.hiLatch.toNat
  else if a = R.NIB_STAT n then some (s.nibStat n + place 2 2 ((s.word a).bits 2 2))
  else if a = R.NIB_SR n then some x.sr
  else if a = R.NIB_CNT n then some x.sc
  else none

def State.readEvc (s : State) (a : Nat) : Option Nat :=
  let t := (a - R.EVC_CMD 0) / 0x20
  if a = R.EVC_PEND_LO then some (s.pendWord 0)
  else if a = R.EVC_PEND_HI then some (s.pendWord 32)
  else if a = R.EVC_EXTSTAT then some (bitsOf 8 (fun n => s.evc.ext.getD n false))
  else if a = R.EVC_TSTAT t then some (s.tgt t).stat
  else if a = R.EVC_PRESLO t then some ((s.tgt t).presWord 0)
  else if a = R.EVC_PRESHI t then some ((s.tgt t).presWord 32)
  else if a = R.EVC_STACK t then some (s.tgt t).stackWord
  else if a = R.EVC_CAUSE t then some (s.causeWord t)
  else none

def State.readTst (s : State) (a : Nat) : Option Nat :=
  if a = R.TST_STAT then some s.tstStat
  else if a = R.TST_FAIL then some (blockWord s.tst.fail)
  else if a = R.TST_SKIP then some (blockWord s.tst.skip)
  else if a = R.TST_FIRST then some s.tstFirst
  else none

/-- SET_STAT. -/
def State.setStat (s : State) : Nat :=
  let x := s.slur
  place 0 2 x.dev + place 2 2 x.count + place 4 2 x.state + place 6 1 (b2n x.lost) + place 7 1 (b2n x.ended) + place 8 3 x.err

def State.readSet (s : State) (a : Nat) : Option Nat :=
  if a = R.SET_STAT then some s.setStat
  else if a = R.SET_LAT then some (min s.slur.lat 255)
  else if a = R.SET_OFFS then some (unsigned 16 s.slur.offs)
  else none

/-- The word that a register shows from the state, none where the live copy holds it. -/
def State.statusWord (s : State) (a : Nat) : Option Nat :=
  match blockOf a with
  | 0 => s.readSys a
  | 1 => s.readSec a
  | 2 => s.readHif a
  | 3 => s.readWhl a
  | 4 => s.readSch a
  | 5 => s.readDrv a
  | 6 => s.readDrv a
  | 7 => s.readInk a
  | 8 => s.readGrd a
  | 9 => s.readAdc a
  | 11 => s.readCmp a
  | 12 => s.readTmr a
  | 13 => s.readNib a
  | 14 => s.readEvc a
  | 15 => s.readTst a
  | 16 => s.readSet a
  | _ => none

/-- What a register reads (R434: the live copy). -/
def State.content (s : State) (a : Nat) : Nat := (s.statusWord a).getD (s.word a).toNat

/-! What configuration space and the link show (R261, R271, R479) -/

/-- The words of the configuration header that the spec fixes: identities, class code and revision, BAR2 to BAR5 and the expansion ROM. -/
def State.configWord (s : State) (a : Nat) : Option Nat :=
  if a = 0x00 ∨ a = 0x2C then some (0x1F5A + place 16 16 s.part.device)
  else if a = 0x08 then some (0x118000 * 256 + (s.word R.SYS_REV).bits 0 8)
  else if a = 0x18 ∨ a = 0x1C ∨ a = 0x20 ∨ a = 0x24 ∨ a = 0x30 then some 0
  else none

/-- The level that CLKREQ# drives on IO31 while CLKREQ_EN is 1: low but for a link in L1.2 (R271). -/
def State.clkreq (s : State) : Option Bool := if s.flag F.HIF_CFG_CLKREQ_EN then some s.hif.l12 else none

end Sys2Proof.Machine
end

