-- ==== Sys2Proof/Machine/HostBus.lean ====
section
/-! DEFINITION. The set-up space as its two ports reach it (R262 to R264, R274 to R281, R434, R475, R478): where a write goes, what
a read answers and clears, SYS_ABORT, the phrase store window, the MSI-X structures and SPI frames. -/

namespace Sys2Proof

/-- The access goes to BAR0. -/
def WShape.inBar : WShape → Bool
  | .control _ | .msix _ _ => false
  | _ => true

end Sys2Proof

namespace Sys2Proof.Machine

/-! SYS_ABORT (R478) -/

/-- The long operation in progress ends as its chapter lays down: R325, R437, R431, R458 and R445. -/
def State.abort (s : State) : State :=
  match s.busyOp with
  | 1 => s.calAbort.endBusy
  | 2 => (match s.sec.commit with | some k => s.commitAbort k | none => s)
  | 3 => (s.modSec (fun x => { x with unlock := none })).endBusy
  | 4 => s.tstEnd 1
  | 5 => (s.modSec (fun x => { x with exporting := false, sealValid := false })).endBusy
  | _ => s

/-- The state after a command that may end a long operation of itself; any other command leaves it. -/
def State.afterEnd (s : State) (c : Instr) : State :=
  let o := match c with
    | .calibrationDone n fs => execCalibrationDone n fs s
    | .commitDone => execCommitDone s
    | .commitFailed => execCommitFailed s
    | .roleUnlockDone => execRoleUnlockDone s
    | .tuningBlockEnd laneB fails => execTuningBlockEnd laneB fails s
    | .exportDone => execExportDone s
    | .sealDone => execSealDone s
    | _ => .next s
  match o with
  | .next t => t
  | _ => s

/-- The operation ends of itself in this fabric cycle (R478). -/
def State.endsNow (s : State) : Bool := (s.pending.foldl State.afterEnd s).sys.busy.isNone

/-- A write of SYS_ABORT, from either port and by any role; it is honoured while the port is busy, unless the operation ends of
itself in the same fabric cycle. -/
def State.abortWrite (p : Port) (v : Word) (s : State) : State :=
  let s : State := s.touch p
  if v.bit 0 && s.sys.busy.isSome && !s.endsNow then s.abort else s

/-- SYS_ABORT (R478): A write of SYS_ABORT ends the long operation named in SYS_STAT.OP. -/
def execSysAbort (p : Port) (v : Word) (s : State) : Host.Outcome State Fault Refusal := .next (s.abortWrite p v)

/-! Fields that a write leaves unchanged -/

/-- A written word whose field f keeps its present value where the field would take a value that a test refuses. -/
def State.keepField (s : State) (f : Fld) (bad : Nat → Bool) (v : Word) : Word :=
  if bad (v.bits f.lo f.w) then setBits v f.lo f.w (s.get f) else v

/-- R314: DB_SWEEP and HB_PERIOD outside their ranges stay and are counted. -/
def State.sweepWrite (p : Port) (v : Word) (s : State) : State :=
  let f := F.HIF_SWEEP_DB_SWEEP; let g := F.HIF_SWEEP_HB_PERIOD
  let badF := fun x => x == 0 || decide (128 < x)
  let badG := fun x => decide (x < 10) || decide (10000 < x)
  let n := b2n (badF (v.bits f.lo f.w)) + b2n (badG (v.bits g.lo g.w))
  let w := s.keepField g badG (s.keepField f badF v)
  (s.fieldsWrite p R.HIF_SWEEP w).addSat F.HIF_BADACC_CNT_COUNT n

/-- R401: COUNT and TIME of a group are never 0; group 15 is read-only. -/
def State.coalWrite (p : Port) (k : Nat) (v : Word) (s : State) : State :=
  if 15 ≤ k then s
  else
    let f := F.EVC_COAL_COUNT k; let g := F.EVC_COAL_TIME k
    let n := b2n (v.bits f.lo f.w == 0) + b2n (v.bits g.lo g.w == 0)
    let w := s.keepField g (fun x => x == 0) (s.keepField f (fun x => x == 0) v)
    (s.fieldsWrite p (R.EVC_COAL k) w).addSat F.HIF_BADACC_CNT_COUNT n

/-- R84: a gain of 3 leaves its field unchanged. -/
def State.gainWrite (p : Port) (v : Word) (s : State) : State :=
  let w := s.keepField F.WHL_ACLK_CFG_G_CRANK (fun x => x == 3) (s.keepField F.WHL_ACLK_CFG_G_RUN (fun x => x == 3) v)
  s.fieldsWrite p R.WHL_ACLK_CFG w

/-- R289: the base of a ring stands while its EN is 1. -/
def State.baseWrite (p : Port) (r a : Nat) (v : Word) (s : State) : State :=
  if s.flag (F.HIF_RCFG_EN r) then s else s.fieldsWrite p a v

/-- The directory and the defaults belong to the phrase store: a write makes REED_PSTATq.DIRTY 1, and while the copies are brought into
agreement it is dropped and counted (R171). -/
def State.phraseRegWrite (p : Port) (q a : Nat) (v : Word) (s : State) : State :=
  let n := s.regs.writers
  let t : State := s.fieldsWrite p a v
  if (s.quad q).syncing then (if q < s.part.quads then s.count F.REED_REFUSED_CNT_COUNT else s)
  else if t.regs.writers = n ∧ t.regs.shadow = s.regs.shadow then t
  else if 1 ≤ s.roleOf p then t.modQuad q (fun x => { x with dirty := true }) else t

/-- EVC_CMDt (Table 15.5). -/
def State.evcCmd (t : Nat) (v : Word) (s : State) : State :=
  match v.bits 8 2 with
  | 1 => s.claim t (v.bits 0 6)
  | 2 => s.complete t (v.bits 0 6)
  | 3 => s.releaseTgt t
  | _ => s

/-- A W1C of EVC_PEND_LO or EVC_PEND_HI (R383). -/
def State.pendClear (base : Nat) (v : Word) (s : State) : State :=
  (upTo 32).foldl (fun (s : State) i => if v.bit i then s.clearPend (base + i) else s) s

/-- SEC_RESPn and SEC_KEYn hold what was last written. -/
def State.secretWrite (a : Nat) (v : Word) (s : State) : State :=
  if a < R.SEC_KEY 0 then s.modSec (fun x => { x with resp := setAt x.resp ((a - R.SEC_RESP 0) / 4) v })
  else s.modSec (fun x => { x with key := setAt x.key ((a - R.SEC_KEY 0) / 4) v })

/-! Where a word written goes -/

/-- A write to a register of SYS, SEC or HIF that the open port serves. -/
def State.writeLow (p : Port) (a : Nat) (v : Word) (s : State) : State :=
  if a = R.SYS_FBDATA then s.fbAccess p (some v)
  else if a = R.SEC_SESS_CTRL then s.sessWrite p v
  else if (R.SEC_RESP 0 ≤ a ∧ a ≤ R.SEC_RESP 3) ∨ (R.SEC_KEY 0 ≤ a ∧ a ≤ R.SEC_KEY 3) then s.secretWrite a v
  else if a = R.SEC_KPROV then s.kprovWrite p v
  else if a = R.SEC_COMMIT then s.commitWrite p v
  else if a = R.SEC_JCTRL then s.jctrlWrite p v
  else if a = R.HIF_RCTRL then s.engineCtrl v
  else if a = R.HIF_SWEEP then s.sweepWrite p v
  else if R.HIF_RBASELO 0 ≤ a ∧ a ≤ R.HIF_RSTAT 18 then
    let r := (a - R.HIF_RBASELO 0) / 16
    if a = R.HIF_RCFG r then s.ringCfg r v else s.baseWrite p r a v
  else s.fieldsWrite p a v

/-- A write to a register from WHL to INK that the open port serves. -/
def State.writeMid (p : Port) (a : Nat) (v : Word) (s : State) : State :=
  if a = R.WHL_CTRL then s.syncResetWrite p v
  else if a = R.WHL_ACLK_CTRL then s.aclkWrite p v
  else if a = R.WHL_ACLK_CFG then s.gainWrite p v
  else if a = R.WHL_TERR_DATA then s.terrAccess p (some v)
  else if R.REED_PDIR 0 0 ≤ a ∧ a < R.REED_PDEFA 0 0 then s.phraseRegWrite p ((a - R.REED_PDIR 0 0) / 0x100) a v
  else if R.REED_PDEFA 0 0 ≤ a ∧ a < R.DRV_OCLATCH 0 then s.phraseRegWrite p ((a - R.REED_PDEFA 0 0) / 0x200) a v
  else if a = R.INK_PTAB_DATA then s.ptabAccess p (some v)
  else s.fieldsWrite p a v

/-- A write to a register of a Nib engine. -/
def State.writeNib (p : Port) (a : Nat) (v : Word) (s : State) : State :=
  let n := (a - R.NIB_CFG 0) / 0x40
  if !s.nibPresent n then s
  else if a = R.NIB_MARGIN n then s.marginSet p n v
  else if a = R.NIB_SDATALO n then s.strokeLo p n v
  else if a = R.NIB_SDATAHI n then s.strokeHi p n v
  else if a = R.NIB_CTRL n then s.nibWrite p n 0 v
  else if a = R.NIB_TX n then s.txWrite p n v
  else s.fieldsWrite p a v

/-- A write to a register from GRD upward that the open port serves. -/
def State.writeHigh (p : Port) (a : Nat) (v : Word) (s : State) : State :=
  match blockOf a with
  | 8 =>
    let g := (a - R.GRD_CFG 0) / 0x70
    if a = R.GRD_CTRL g then s.grdCtrlWrite p g v else s.fieldsWrite p a v
  | 9 => if a = R.ADC_CTRL then s.calWrite p v else if a = R.ADC_MOVE then s.moveWrite p v else s.fieldsWrite p a v
  | 10 => if a = R.ACC_DATA then s.accAccess p (some v) else s.fieldsWrite p a v
  | 12 =>
    let n := (a - R.TMR_CFG 0) / 0x30
    if a = R.TMR_START then s.tmrStartWrite p v
    else if a = R.TMR_STOP then s.tmrStopWrite p v
    else if a = R.TMR_RELOAD n then s.reloadWrite p n v
    else if a = R.TMR_CMP n then s.cmpWrite p n v
    else s.fieldsWrite p a v
  | 13 => s.writeNib p a v
  | 14 =>
    let t := (a - R.EVC_CMD 0) / 0x20
    if a = R.EVC_PEND_LO then s.pendClear 0 v
    else if a = R.EVC_PEND_HI then s.pendClear 32 v
    else if R.EVC_COAL 0 ≤ a ∧ a ≤ R.EVC_COAL15 then s.coalWrite p ((a - R.EVC_COAL 0) / 4) v
    else if a = R.EVC_CMD t then s.evcCmd t v
    else s.fieldsWrite p a v
  | 16 => if a = R.SET_CTRL then (if (s.rowThere a).isSome then s.retrainWrite p v else s) else s.fieldsWrite p a v
  | _ => s.fieldsWrite p a v

/-! The phrase store window (R160, R171) -/

/-- The quadrant of an offset in the window. -/
def windowQuad (a : Nat) : Nat := (a - 0x20000) / 0x8000

/-- A write in the window: words at rising offsets, to the shadow copy, by the installer; while the copies are brought into
agreement it is dropped and counted. The access asks for the quadrant's clock (R34). -/
def State.windowWrite (p : Port) (a : Nat) (ws : List Word) (s : State) : State :=
  let q := windowQuad a
  let l := ws.mapIdx (fun i w => (a + 4 * i, w))
  if !decide (q < s.part.quads) then s
  else if (s.quad q).syncing then (s.count F.REED_REFUSED_CNT_COUNT).askQuad q
  else if s.isInstaller p then
    let s : State := l.foldl (fun (s : State) x => (s.putShadow x.1 x.2).markDirty x.1 (s.roleOf p)) s
    (s.modQuad q (fun x => { x with dirty := true })).askQuad q
  else if l.any (fun x => s.shadowWord x.1 != x.2) then (s.deny p).askQuad q
  else s.askQuad q

/-- A read in the window, of n words, the first word lowest. The access asks for the quadrant's clock (R34). -/
def State.windowRead (a n : Nat) (s : State) : State :=
  let q := windowQuad a
  let s : State := s.askQuad q
  if !decide (q < s.part.quads) then s.answer 0
  else if (s.quad q).syncing then s.answer (if n = 2 then busyWord * 2 ^ 32 + busyWord else busyWord)
  else s.answer ((s.shadowWord a).toNat + (if n = 2 then (s.shadowWord (a + 4)).toNat * 2 ^ 32 else 0))

/-! The MSI-X structures (R265) -/

/-- Offsets of the MSI-X table (R265, Table 10.2). -/
def msixTable (a : Nat) : Bool := decide (0x1F000 ≤ a) && decide (a < 0x1F080)
/-- Offsets of the MSI-X pending bits (R265, Table 10.2). -/
def msixPba (a : Nat) : Bool := decide (0x1F800 ≤ a) && decide (a < 0x1F808)

/-- A write of the table: address, data, or a vector's mask bit, whose clearing sends what is pending. -/
def State.msixWrite (a : Nat) (v : Word) (s : State) : State :=
  if !s.sys.mode.barOpen then s
  else if a % 16 = 12 then
    let n := (a - 0x1F000) / 16
    if v.bit 0 then s.putWord a 1 else s.unmask n
  else s.putWord a (if a % 16 = 0 then Word.ofN (v.toNat - v.toNat % 4) else v)

/-- A read of the table or of the pending bit array. -/
def State.msixRead (a : Nat) (s : State) : State :=
  if !s.sys.mode.barOpen then s.answer busyWord
  else if msixPba a then s.answer (if a = 0x1F800 then bitsOf 8 (fun v => s.hif.vecPend.getD v false) else 0)
  else s.answer (s.word a).toNat

/-! One word -/

/-- A write of one word at an offset. -/
def State.wordWrite (p : Port) (a : Nat) (v : Word) (s : State) : State :=
  if a = R.SYS_ABORT then s.abortWrite p v
  else if a = R.HIF_HEARTBEAT then s.heartbeat p
  else if msixTable a || msixPba a then (if msixTable a then s.msixWrite a v else s)
  else if a = R.SYS_MODEREQ then s.modeRequest p (v.bits 0 4)
  else if a = R.SYS_RESET then s.softReset p v
  else if a = R.SYS_FBCTL then s.fallbackWrite p v
  else if a = R.TST_CTRL then s.tstWrite p v
  else s.onWrite p (fun s =>
    if 0x20000 ≤ a then s.windowWrite p a [v]
    else if a < 0xC00 then s.writeLow p a v
    else if a < 0x3C00 then s.writeMid p a v
    else s.writeHigh p a v)

/-- RC fields after a read are clear, but for what the device has set or counted in the same fabric cycle (R17). -/
def State.clearRead (rc a : Nat) (s : State) : State :=
  let w := (s.word a).toNat
  let old := (s.wordBefore a).toNat
  let keep := (s.newBits a).toNat &&& rc
  let s : State := s.putWord a (Word.ofN (w - (w &&& rc) + keep))
  if s.hwWrote a then
    s.inCycle (fun m => { m with hw := assocPut a (Word.ofN (old - (old &&& rc)), Word.ofN keep) m.hw })
  else s

/-- What a read of a register leaves behind: RC fields are clear, SCH_FREE_LOW starts from the present FREE (R123), and the
width of a pulse has been taken. -/
def State.afterRead (r : RegRow) (a : Nat) (s : State) : State :=
  let s : State := if r.rc = 0 then s else s.clearRead r.rc a
  if a = R.SCH_FREE_LOW then s.set F.SCH_FREE_LOW_LOW s.free
  else if blockOf a = 12 ∧ a = R.TMR_WIDTH ((a - R.TMR_CFG 0) / 0x30) then
    s.modTmr ((a - R.TMR_CFG 0) / 0x30) (fun x => { x with widthNew := false })
  else s

/-- What a read of a register answers: RC fields show what stood before the present fabric cycle (R17), and fields of absent
units read zero (R3). -/
def State.shown (s : State) (r : RegRow) (a : Nat) : Nat :=
  (if r.rc = 0 then s else s.putWord a (mergeMask r.rc (s.word a) (s.wordBefore a))).content a &&& s.bitsThere a

/-- A read of a register without a rule of its own. -/
def State.plainRead (a : Nat) (s : State) : State :=
  match s.rowThere a with
  | some r => (s.afterRead r a).answer (s.shown r a)
  | none => s.answer 0

/-- A read of one word that the open port serves. -/
def State.readOpen (p : Port) (a : Nat) (s : State) : State :=
  let g := (a - R.GRD_CFG 0) / 0x70
  let n := (a - R.NIB_CFG 0) / 0x40
  if 0x20000 ≤ a then s.windowRead a 1
  else if a = R.SYS_FBDATA then s.fbAccess p none
  else if a = R.SEC_JDATA then s.jRead
  else if a = R.WHL_STAMP_LO then (if (s.rowThere a).isSome then s.stampRead p else s.answer 0)
  else if a = R.WHL_ANGLE then s.angleRead p
  else if a = R.WHL_TERR_DATA then s.terrAccess p none
  else if a = R.INK_PTAB_DATA then s.ptabAccess p none
  else if blockOf a = 8 ∧ a = R.GRD_ELO g then s.energyRead p g
  else if a = R.ACC_DATA then s.accAccess p none
  else if blockOf a = 13 ∧ a = R.NIB_SDATALO n then s.strokeRead p n
  else if blockOf a = 13 ∧ a = R.NIB_SDATAHI n then
    (if s.nibPresent n then (s.sidxAdvance n).answer (s.nib n).hiLatch.toNat else s.answer 0)
  else if blockOf a = 13 ∧ a = R.NIB_RX n then s.rxRead p n
  else s.plainRead a

/-- A read of one word at an offset. SYS_STAT is read while the port is busy, in BOOT and asleep, and SYS_MODE in BOOT and
asleep (R264, R270, R423, R479). -/
def State.wordRead (p : Port) (a : Nat) (s : State) : State :=
  if msixTable a || msixPba a then s.msixRead a
  else if a = R.SYS_STAT ∧ s.sys.mode ≠ .off then (s.touch p).answer s.sysStat
  else if a = R.SYS_MODE ∧ s.sys.mode ≠ .off ∧ !s.sys.mode.barOpen then (s.touch p).answer s.sysMode
  else s.onRead p (fun s => s.readOpen p a)

/-! Accesses by shape (R263) -/

/-- A whole note is read or written at a (R263). -/
def noteShape (p : Port) (a : Nat) : Bool := p == .pcie && decide (0x20000 ≤ a) && decide (a % 8 = 0)

/-- An access that does not reach the device: it is off, or it is in D3cold and the access comes over PCIe (R270). -/
def State.unreached (s : State) (p : Port) : Bool := s.sys.mode == .off || (p == .pcie && s.hif.cold)

/-- An access of a shape that no port serves is counted (R263). -/
def State.badAccess (p : Port) (s : State) : State := if s.unreached p then s else s.count F.HIF_BADACC_CNT_COUNT

/-- Only PCIe carries accesses to configuration space. -/
def State.takesConfig (s : State) (p : Port) : Bool := p == .pcie && !s.unreached p

/-- A set-up write, or a write in configuration space, which no offset of BAR0 names: the control registers, or MSI-X Enable and Function
Mask, after which messages withheld until then may go out. -/
def execRegisterWrite (p : Port) (off : Nat) (w : WShape) (s : State) : Host.Outcome State Fault Refusal :=
  if w.inBar && decide (0x40000 ≤ off) then .fault .offsetBeyondBar
  else .next (match w with
    | .word v => if off % 4 = 0 then s.wordWrite p off v else s.badAccess p
    | .note hi lo => if noteShape p off then s.onWrite p (fun s => s.windowWrite p off [lo, hi]) else s.badAccess p
    | .bad => s.badAccess p
    | .control c => if s.takesConfig p then { s with hif := { s.hif with ctl := c } } else s
    | .msix enable mask =>
      if s.takesConfig p then ({ s with hif := { s.hif with msixEn := enable, fmask := mask } } : State).flushMessages else s)

/-- A set-up read; RC fields clear. A read of any other shape completes with Unsupported Request. -/
def execReadClear (p : Port) (off : Nat) (sh : RShape) (s : State) : Host.Outcome State Fault Refusal :=
  if 0x40000 ≤ off then .fault .offsetBeyondBar
  else
    let s1 : State := s.badAccess p
    let unsupported : State := { s1 with ans := { s1.ans with read := none } }
    .next (if s.unreached p then unsupported else match sh with
    | .word => if off % 4 = 0 then s.wordRead p off else unsupported
    | .note =>
      if noteShape p off then
        (if s.portOpen then (s.touch p).windowRead off 2 else s.answer (busyWord * 2 ^ 32 + busyWord))
      else unsupported
    | .bad => unsupported)

/-! SPI frames (R274 to R277) -/

/-- The status byte (R275). -/
def State.spiStatus (s : State) : Nat :=
  place 7 1 (b2n s.sys.busy.isSome) + place 6 1 (b2n s.hif.spiCrcErr) + place 5 1 (b2n s.hif.spiRefused)
    + place 4 1 (b2n (s.intLow 0 || s.intLow 1)) + s.sys.mode.code

/-- CRC-8 over a header and data words (R276). -/
def frameCrc (header : Word) (ws : List Nat) : Nat :=
  crc8 ((ws.foldl (fun x w => x * 2 ^ 32 + w) header.toNat)) (32 * (ws.length + 1))

/-- The offset of word i of a frame, none past the end of the space. -/
def spiOffset (header : Word) (i : Nat) : Option Nat :=
  let a := header.bits 0 18 + 4 * i
  if a < 0x40000 then some a else none

/-- A frame begins: the status byte goes out four times, and the flags start for this frame. -/
def State.spiBegin (s : State) : State :=
  { s with ans := { s.ans with spi := List.replicate 4 s.spiStatus }, hif := { s.hif with spiCrcErr := false, spiRefused := false } }

/-- One word of a read frame, with the words read so far. -/
def State.spiReadWord (header : Word) (x : List Nat × State) (i : Nat) : List Nat × State :=
  match spiOffset header i with
  | some a =>
    let s : State := if a % 4 = 0 then x.2.wordRead .spi a else (x.2.badAccess .spi).answer 0
    (x.1 ++ [s.ans.read.getD 0], s)
  | none => (x.1 ++ [0], x.2)

/-- A frame that starts less than 100 ns after the one before is ignored in whole, and its status byte reads 0xFF (R493). -/
def State.spiIgnored (s : State) : State := { s with ans := { s.ans with spi := List.replicate 4 0xFF } }

/-- A read frame: the dummy byte, the words and the CRC byte. -/
def execSpiReadFrame (header : SpiHeader) (s : State) : Host.Outcome State Fault Refusal :=
  .next (if s.sys.mode = .off ∨ !header.word.bit 31 then s
  else if header.early then s.spiIgnored
  else
    let old := s.ans.read
    let crc := s.flag F.HIF_CFG_SPI_CRC
    let s : State := s.spiBegin
    let r := (upTo (header.word.bits 25 6 + 1)).foldl (State.spiReadWord header.word) ([], s)
    let bytes := 0 :: r.1.flatMap (beBytes 4) ++ (if crc then [frameCrc header.word r.1] else [])
    let t : State := r.2
    { t with ans := { read := old, spi := t.ans.spi ++ bytes } })

/-- The words of a write frame take effect in order. -/
def State.spiWords (header : Word) (ws : List Word) (s : State) : State :=
  (ws.mapIdx (fun i w => (i, w))).foldl (fun (s : State) x =>
    match spiOffset header x.1 with
    | some a => if a % 4 = 0 then s.wordWrite .spi a x.2 else s.badAccess .spi
    | none => s) s

/-- A write frame. With SPI_CRC = 1 a frame without its words and a matching CRC byte is dropped whole. -/
def execSpiWriteFrame (header : SpiHeader) (words : List Word) (crc : Nat) (s : State) : Host.Outcome State Fault Refusal :=
  .next (if s.sys.mode = .off ∨ header.word.bit 31 then s
  else if header.early then s.spiIgnored
  else
    let n := header.word.bits 25 6 + 1
    let t : State := s.spiBegin
    if s.flag F.HIF_CFG_SPI_CRC then
      if words.length = n ∧ crc = frameCrc header.word (words.map BitVec.toNat) then t.spiWords header.word words
      else (({ t with hif := { t.hif with spiCrcErr := true } } : State).count F.HIF_SPI_CRC_CNT_COUNT)
    else t.spiWords header.word (words.take n))

end Sys2Proof.Machine
end

