-- ==== Sys2Proof/Machine/Reed.lean ====
section
/-! DEFINITION. The Reed engines (chapter 6): what each note does, what the waits of a thread end on, the boost token, faults,
and the phrase store's copies. Thread t of bank b issues the note at its program counter. -/

namespace Sys2Proof.Machine

/-! Issue (R149, R156) -/

/-- The thread's claim has been granted in this Reed cycle, and its next note issues in the one after it (R156). -/
def State.decidedNow (s : State) (b t : Nat) : Bool :=
  (s.bank b).token == t + 1 && (s.thread b t).claimAt.toNat / 4 == s.now.toNat / 4

/-- The thread has a note ready. -/
def State.ready (s : State) (b t : Nat) : Bool :=
  let k := s.thread b t
  k.run && k.wait == .none && !(k.claiming && k.held) && !s.waitsToken b t && !s.decidedNow b t

/-- The thread takes the slot: the thread that did not issue the last note goes first (R149). -/
def State.turn (s : State) (b t : Nat) : Bool :=
  s.ready b t && (!s.ready b (1 - t) || (s.bank b).lastIssue != t)

/-- When EDUE becomes true, the placement time becomes the sustain end (R153). -/
def State.edueNow (b t : Nat) (s : State) : State :=
  let k := s.thread b t
  if k.run && s.edue b t && k.edue != some k.susEnd then
    s.modThread b t (fun k => { k with edue := some k.susEnd, place := some k.susEnd })
  else s

/-- A thread faults (R174): its switches go off, its result carries BAD_PHRASE, and REED_FAULT takes the details. -/
def State.fault (b t pc cause : Nat) (s : State) : State :=
  let k := s.thread b t
  let s : State := s.killThread b t (markCause Code.badPhrase)
  let w := pc % 4096 + place 12 5 b + place 17 1 t + place 20 4 cause + place 24 7 k.ch + 2 ^ 31
  let s : State := (s.putWord R.REED_FAULT (Word.ofN w)).count F.REED_FAULT_CNT_COUNT
  s.alarm 24 0 0 w

/-- A note issues: the shared way in of every note row. A row acts only on a note of its own opcode (test); the note's faults
of R174 come first, and the program counter moves on. -/
def State.onNote (s : State) (b t : Nat) (test : Note → Bool) (f : Note → State → State) : State :=
  let n := s.noteOf b t
  if s.turn b t && test n then
    let pc := (s.thread b t).pc
    let s : State := (s.edueNow b t).modBank b (fun k => { k with lastIssue := t })
    let s : State :=
      if n.reserved then s.fault b t pc 1
      else if n.barred (s.thread b t).kind then s.fault b t pc 3
      else f n (s.modThread b t (fun k => { k with pc := (k.pc + 1) % 4096 }))
    s.settleBank b
  else s

/-! Placement (R153 to R155) -/

/-- R155: the placement time set at thread start has passed before the note that uses it: lateness is measured at the edge
made now (R124), and the full duration counts from it (R126). After a wait for a thread the delay is no lateness (R133). -/
def State.lateEdge (b t : Nat) (s : State) : State :=
  let k := s.thread b t
  match s.event k.ev with
  | none => s
  | some e =>
    let lt := max e.lateTb (s.lateness e 0).2.toNat
    let s : State :=
      if e.waited ≠ 0 then s
      else
        let s : State := if e.flags.late then s else s.count F.SCH_LATE_CNT_COUNT
        let s : State := s.modChan e.ch (fun c => { c with debt := lt + e.shift + e.waited })
        s.modEvent e.id (fun e => { e with lateTb := lt, flags := { e.flags with late := true } })
    let d := e.durTb.getD 0
    s.modThread b t (fun k => { k with
      firstEdge := s.now, susEnd := if k.susEnd = tbAdd k.firstEdge d then tbAdd s.now d else k.susEnd,
      fin := if k.fin = tbAdd k.firstEdge d then tbAdd s.now d else k.fin })

/-- The pending placement time is used and cleared (R154). -/
def State.takePlace (b t : Nat) (s : State) : Option Tb × State :=
  let k := s.thread b t
  let first := !k.placed && k.place == some k.firstEdge
  let s : State := s.modThread b t (fun k => { k with place := none, placed := k.placed || first })
  (k.place, if first && decide (tbDiff k.firstEdge s.now < 0) then s.lateEdge b t else s)

/-- One field of a GATE note: 1 places an off edge where the thread commands the switch on, 2 an on edge. -/
def State.gateField (b t : Nat) (g : Gate) (code : Nat) (was : Bool) (at' : Option Tb) (s : State) : State :=
  let ev := (s.thread b t).ev
  if code = 2 then s.placeEdge at' g true b (some t) ev
  else if code = 1 ∧ was then s.placeEdge at' g false b (some t) ev else s

/-- The switch state that a thread commands after a field. -/
def gateFlag (code : Nat) (was : Bool) : Bool := if code = 2 then true else if code = 1 then false else was

/-- GATE (R154, R156, R157, R162). -/
def State.gateNote (b t : Nat) (n : Note) (s : State) : State :=
  let k := s.thread b t
  let own := (s.bank b).token == t + 1
  let held := k.claiming && n.placed
  if n.hvOn && !own && !held then s.fault b t ((k.pc + 4095) % 4096) 2
  else
    let r := if n.placed then s.takePlace b t else (none, s)
    let hv := if n.decay then 1 else n.hv
    let hb := if n.decay then 1 else n.hb
    let ls := if n.decay then 1 else n.ls
    let hv := if own || held then hv else 0
    let s : State := r.2.modThread b t (fun k => { k with
      hv := gateFlag hv k.hv, hb := gateFlag hb k.hb, ls := gateFlag ls k.ls, held := k.held || held })
    let s : State := s.gateField b t (.ghv b) hv k.hv r.1
    let s : State := s.gateField b t (.ghb b) hb k.hb r.1
    s.gateField b t (.gl k.ch) ls k.ls r.1

/-! The token (R132, R134, R156 to R158) -/

/-- Thread t takes the token, after a wait since its claim was to be decided; edges held for the decision follow at once. -/
def State.grant (b t : Nat) (s : State) : State :=
  let k := s.thread b t
  let w := (tbDiff s.now k.claimAt).toNat
  let s : State := ((s.modBank b (fun x => { x with token := t + 1 })).clrLatch F.CMP_PKLAT_BK b).clrLatch F.CMP_HDLAT_BK b
  let s : State := match s.event k.ev with
    | some e =>
      if w = 0 then s
      else
        let s : State := if e.waited = 0 then s.count F.SCH_SHIFT_CNT_COUNT else s
        let s : State := s.modChan e.ch (fun c => { c with debt := c.debt + w })
        let s : State := s.modEvent e.id (fun e => { e with waited := e.waited + w, flags := { e.flags with shifted := true } })
        if e.begun then s
        else
          let d := e.durTb.getD 0
          s.modThread b t (fun k => { k with
            place := if k.place = some k.firstEdge then some (tbAdd k.firstEdge w) else k.place,
            susEnd := if k.susEnd = tbAdd k.firstEdge d then tbAdd k.susEnd w else k.susEnd,
            fin := if k.fin = tbAdd k.firstEdge d then tbAdd k.fin w else k.fin,
            firstEdge := tbAdd k.firstEdge w })
    | none => s
  let s : State := s.modThread b t (fun k => { k with
    claiming := false, held := false, claimAt := s.now, wait := if k.wait == .claim then .none else k.wait })
  let s : State := { s with edges := s.edges.map (fun x =>
    if x.bank == b && x.thread == some t && decide (tbDiff x.at' s.now ≤ 0) then { x with at' := s.now } else x) }
  s.dueEdges

/-- The scheduled start of a thread's event. -/
def State.schedOf (s : State) (k : Thread) : Tb := match s.event k.ev with | some e => e.sched | none => k.waitFrom

/-- R134: thread t goes before the bank's other thread: the earlier scheduled start, then the lower channel. -/
def State.goesFirst (s : State) (b t : Nat) : Bool :=
  let k := s.thread b t; let o := s.thread b (1 - t)
  !s.waitsToken b (1 - t) || decide (tbDiff (s.schedOf k) (s.schedOf o) < 0)
    || (s.schedOf k == s.schedOf o && (decide (k.ch < o.ch) || (k.ch == o.ch && t == 0)))

/-- CLAIM (R132, R156). -/
def State.claimNote (b t : Nat) (s : State) : State :=
  let k := s.thread b t
  if (s.bank b).token = t + 1 then s
  else if !k.placed && k.place == some k.firstEdge && decide (0 < tbDiff k.firstEdge s.now) then
    s.modThread b t (fun k => { k with claiming := true, claimAt := k.firstEdge })
  else
    let s : State := s.modThread b t (fun k => { k with claimAt := s.now, wait := .claim })
    if (s.bank b).token = 0 && s.goesFirst b t then s.grant b t else s

/-- A claim made before the first placement time is decided at that time (R156); where the token is not free, the thread waits for
it from then on. -/
def State.decideClaim (b t : Nat) (s : State) : State :=
  if s.waitsToken b t && (s.thread b t).claiming && decide ((s.bank b).token = 0) && s.goesFirst b t then s.grant b t else s

/-- The free token passes to the next waiting claim (R134). -/
def State.passToken (b : Nat) (s : State) : State :=
  if (s.bank b).token ≠ 0 then s
  else
    match (upTo 2).find? (fun t => s.waitsToken b t && s.goesFirst b t) with
    | some t => s.grant b t
    | none => s

/-! Sustain and end (R164 to R167) -/

/-- SUS_END: off edges at the placement time, then the merge watch. -/
def State.susEndNote (b t : Nat) (s : State) : State :=
  let r := s.takePlace b t
  let n := (s.thread b t).ch
  let off := match r.1 with | some p => if 0 < tbDiff p s.now then p else s.now | none => s.now
  let s : State := r.2.switchOff b t r.1
  if s.flag (F.SCH_POL_MERGE_EN n) then
    let w := tbAdd off (s.get (F.SCH_LIM_MERGE_WIN n) * 3200)
    s.modThread b t (fun k => { k with wait := .sus w, watchEnd := w })
  else s.modThread b t (fun k => { k with sus := false })

/-- END takes the pending placement time, late or not (R154, R155), and ends the thread (R167). -/
def State.endNote (b t : Nat) (s : State) : State :=
  let r := s.takePlace b t
  (r.2.modThread b t (fun k => { k with place := r.1 })).endThread b t

/-- The merge watch of a thread closes (R140, R164): an event whose start falls in the same cycle merges first. -/
def State.closeWatch (b t : Nat) (s : State) : State :=
  let k := s.thread b t
  match k.wait with
  | .sus w =>
    if k.run && decide (tbDiff w s.now ≤ 0) then
      match s.nextReleased k.ch with
      | some e => if s.canMerge e t then s.merge e t else s.modThread b t (fun k => { k with wait := .none, sus := false })
      | none => s.modThread b t (fun k => { k with wait := .none, sus := false })
    else s
  | _ => s

/-! Marks and windows (R168, R169) -/

/-- MARK. -/
def State.markNote (b t : Nat) (n : Note) (s : State) : State :=
  let k := s.thread b t; let q := b / 6
  let s : State := if n.rec' then s.modEvent k.ev (fun e =>
      if n.slot then { e with mark1 := some s.now } else { e with mark0 := some s.now }) else s
  let s : State := (s.markWins q n.markId).markUrgent q n.markId
  match s.event k.ev with
  | some e => if e.trace then s.trace 2 3 (k.ch + n.markId * 256) s.now 0 e.tag.toNat else s
  | none => s

/-- SAMPLE: the window must be held by the phrases of the thread's quadrant. -/
def State.sampleNote (b t : Nat) (n : Note) (s : State) : State :=
  let k := s.thread b t
  let i := sampleVal k n
  let tgt := winTarget n.trk i
  if !s.phraseHolds (b / 6) tgt then s.count F.REED_SAMPLE_ERR_CNT_COUNT
  else if n.closes then
    (s.closeWin tgt 0 (some k.ev) false).modThread b t (fun k => { k with windows := k.windows.filter (fun w => w.1 != n.trk || w.2.1 != i) })
  else if (s.win tgt).open' then s
  else
    let s : State := s.openWin tgt
    s.modThread b t (fun k => { k with windows := k.windows ++ [(n.trk, i, (s.win tgt).openT)] })

/-! Waits (R153, R159) -/

/-- The reference angle of WAIT_A: the anchor of an angle-anchored event, otherwise the clock at the first edge, projected while that
edge is still to come (log entry 46). An angle-plus-delay event counts as time-anchored (R101). -/
def State.waitRef (s : State) (b t : Nat) : Nat × Nat :=
  let k := s.thread b t
  match s.event k.ev with
  | some e =>
    if e.anchor = 0 then e.half.getD (e.ang, e.ctag)
    else if e.begun then (e.startAng, e.startTag)
    else s.angleAt (s.atOver (tbDiff k.firstEdge s.now))
  | none => (s.ang.at', s.ang.tag)

/-- The angle and tag at a signed offset from an angle. -/
def angleOff (a : Nat × Nat) (off : Int) : Nat × Nat :=
  let x : Int := ((a.2 * cycleAt + a.1 : Nat) : Int) + off
  ((x % (cycleAt : Int)).toNat, (x / (cycleAt : Int) % 256).toNat)

/-- The end of a wait: the thread goes on at the next note, or at a target. -/
def State.go (b t : Nat) (tgt : Option Nat) (s : State) : State :=
  s.modThread b t (fun k => { k with wait := .none, offUntil := none, pc := tgt.getD k.pc })

/-- A WAIT_T or WAIT_A ends 40 ns before its target, which becomes the placement time (R153). -/
def State.targetReached (b t : Nat) (s : State) : State :=
  let k := s.thread b t
  if !k.run then s
  else match k.wait with
    | .time x => if tbDiff x s.now ≤ 32 then (((s.edueNow b t).modThread b t (fun k => { k with place := some x })).go b t none) else s
    | .angle a tag _ _ =>
      let d := s.angDist a tag
      let proj := s.tbOver d
      if s.clockRuns && decide (d ≤ s.clampRoom) && decide (proj ≤ 32) then
        ((s.edueNow b t).modThread b t (fun k => { k with place := some (s.stampAt proj) })).go b t none
      else s
    | _ => s

/-- A condition that a thread waits on is true (R161, R163): CB alone leads to the note's target. -/
def State.conditionMet (b t : Nat) (s : State) : State :=
  let k := s.thread b t
  if !k.run then s
  else match k.wait with
    | .cond ca cb tgt =>
      if s.cond b t ca then (s.edueNow b t).go b t none
      else if s.cond b t cb then (s.edueNow b t).go b t (some tgt) else s
    | .reg _ ca cb tgt =>
      if s.cond b t ca then (s.edueNow b t).go b t none
      else if s.cond b t cb then (s.edueNow b t).go b t (some tgt) else s
    | .angle _ _ cb tgt => if s.cond b t cb then (s.edueNow b t).go b t (some tgt) else s
    | .kink cb tgt =>
      if s.reported b t then (s.edueNow b t).go b t (if (s.chan k.ch).report = some .noKink then some tgt else none)
      else if s.cond b t cb then (s.edueNow b t).go b t (some tgt) else s
    | _ => s

/-! The notes -/

/-- NOP; and a note whose OP is reserved, which faults (R174). -/
def execNoteNop (b t : Nat) (s : State) : Host.Outcome State Fault Refusal :=
  .next (s.onNote b t (fun n => n.op == Op.nop || !n.known) (fun _ s => s))

/-- GATE (R154): A GATE note sets HV, HB and LS, placed at the pending placement time or at once. -/
def execGate (b t : Nat) (s : State) : Host.Outcome State Fault Refusal :=
  .next (s.onNote b t (fun n => n.op == Op.gate) (fun n s => s.gateNote b t n))

/-- LEVEL loads PK and HD (R162). -/
def execLevel (b t : Nat) (s : State) : Host.Outcome State Fault Refusal :=
  .next (s.onNote b t (fun n => n.op == Op.level) (fun n s => s.modThread b t (fun k =>
    { k with pk := levelVal k n.pkImm n.pkSrc k.pk, hd := levelVal k n.hdImm n.hdSrc k.hd })))

/-- TLOAD loads T0, T1 or LC (R151). -/
def execTload (b t : Nat) (s : State) : Host.Outcome State Fault Refusal :=
  .next (s.onNote b t (fun n => n.op == Op.tload) (fun n s => s.modThread b t (fun k =>
    if n.dst = 0 then { k with t0 := timeVal k n, t0At := s.now }
    else if n.dst = 1 then { k with t1 := timeVal k n, t1At := s.now } else { k with lc := loopVal k n })))

/-- WAIT_T waits the given time from its issue. -/
def execWaitT (b t : Nat) (s : State) : Host.Outcome State Fault Refusal :=
  .next (s.onNote b t (fun n => n.op == Op.waitT) (fun n s => s.modThread b t (fun k =>
    { k with wait := .time (tbAdd s.now (4 * timeVal k n)) })))

/-- WAIT_A waits until the clock reaches the reference angle plus the offset. -/
def execWaitA (b t : Nat) (s : State) : Host.Outcome State Fault Refusal :=
  .next (s.onNote b t (fun n => n.op == Op.waitA) (fun n s =>
    let a := angleOff (s.waitRef b t) (angleVal (s.thread b t) n)
    s.modThread b t (fun k => { k with wait := .angle a.1 a.2 n.cb n.tgt })))

/-- WAIT_C clears the latches that its conditions read, and waits for CA or CB (R159). -/
def execWaitC (b t : Nat) (s : State) : Host.Outcome State Fault Refusal :=
  .next (s.onNote b t (fun n => n.op == Op.waitC) (fun n s =>
    let s : State := s.modThread b t (fun k => { k with wait := .cond n.ca n.cb n.tgt })
    (s.clearCond b t n.ca).clearCond b t n.cb))

/-- WAIT_K waits for the channel's closing report. -/
def execWaitK (b t : Nat) (s : State) : Host.Outcome State Fault Refusal :=
  .next (s.onNote b t (fun n => n.op == Op.waitK) (fun n s => s.modThread b t (fun k => { k with wait := .kink n.cb n.tgt })))

/-- REG regulates until CA or CB is true (R159, R499); it commands the switch that it chops. -/
def execReg (b t : Nat) (s : State) : Host.Outcome State Fault Refusal :=
  .next (s.onNote b t (fun n => n.op == Op.reg) (fun n s =>
    let s : State := s.modThread b t (fun k => { k with
      wait := .reg n.chop n.ca n.cb n.tgt, offUntil := none, hb := k.hb || !n.chop, ls := k.ls || n.chop })
    (s.clearCond b t n.ca).clearCond b t n.cb))

/-- BR goes to its target if CA is true. -/
def execBr (b t : Nat) (s : State) : Host.Outcome State Fault Refusal :=
  .next (s.onNote b t (fun n => n.op == Op.br) (fun n s =>
    if s.cond b t n.ca then s.modThread b t (fun k => { k with pc := n.tgt }) else s))

/-- LOOP counts LC down and goes to its target while it is not zero. -/
def execLoop (b t : Nat) (s : State) : Host.Outcome State Fault Refusal :=
  .next (s.onNote b t (fun n => n.op == Op.loop) (fun n s => s.modThread b t (fun k =>
    if k.lc = 0 then k else { k with lc := k.lc - 1, pc := if k.lc = 1 then k.pc else n.tgt })))

/-- CLAIM (R156): A CLAIM note claims the bank's boost token. -/
def execClaim (b t : Nat) (s : State) : Host.Outcome State Fault Refusal :=
  .next (s.onNote b t (fun n => n.op == Op.claim) (fun _ s => s.claimNote b t))

/-- RELEASE (R157): A RELEASE note releases the boost token and turns GHV off if the thread left it on. -/
def execRelease (b t : Nat) (s : State) : Host.Outcome State Fault Refusal :=
  .next (s.onNote b t (fun n => n.op == Op.release) (fun _ s => s.releaseToken b t))

/-- SUS_BEGIN opens the sustain section (R164). -/
def execSusBegin (b t : Nat) (s : State) : Host.Outcome State Fault Refusal :=
  .next (s.onNote b t (fun n => n.op == Op.susBegin) (fun _ s => s.modThread b t (fun k => { k with sus := true, susPc := k.pc })))

/-- SUS_END (R164): A SUS_END note places the off edges and holds the merge watch. -/
def execSusEnd (b t : Nat) (s : State) : Host.Outcome State Fault Refusal :=
  .next (s.onNote b t (fun n => n.op == Op.susEnd) (fun _ s => s.susEndNote b t))

/-- MARK (R168): A MARK note records the time in a slot and sends its ID to accumulators, trackers and the XQ. -/
def execMark (b t : Nat) (s : State) : Host.Outcome State Fault Refusal :=
  .next (s.onNote b t (fun n => n.op == Op.mark) (fun n s => s.markNote b t n))

/-- SAMPLE (R169): A SAMPLE note opens or closes an accumulator or tracker window. -/
def execSample (b t : Nat) (s : State) : Host.Outcome State Fault Refusal :=
  .next (s.onNote b t (fun n => n.op == Op.sample) (fun n s => s.sampleNote b t n))

/-- END frees the thread (R167). -/
def execEndNote (b t : Nat) (s : State) : Host.Outcome State Fault Refusal :=
  .next (s.onNote b t (fun n => n.op == Op.endNote) (fun _ s => s.endNote b t))

/-! Happenings of threads -/

/-- R174: the thread still runs OVERRUN after the later of the event's end, as merges have moved it, and the close of its merge
watch. -/
def State.overrunDue (s : State) (b t : Nat) : Bool :=
  let k := s.thread b t
  k.run && decide ((s.get F.REED_CFG_OVERRUN * 8000 : Nat) ≤ tbDiff s.now k.fin)
    && decide ((s.get F.REED_CFG_OVERRUN * 8000 : Nat) ≤ tbDiff s.now k.watchEnd)

/-- PHRASE_OVERRUN (R174): A thread still running OVERRUN after its end faults with BAD_PHRASE. -/
def execPhraseOverrun (b t : Nat) (s : State) : Host.Outcome State Fault Refusal :=
  .next (if s.overrunDue b t then (s.fault b t (s.thread b t).noteIdx 4).settleBank b else s)

/-- WAIT_TARGET_REACHED (R153): A WAIT_T or WAIT_A ends 40 ns before its target and sets the placement time. -/
def execWaitTargetReached (b t : Nat) (s : State) : Host.Outcome State Fault Refusal := .next ((s.targetReached b t).settleBank b)

/-- CONDITION_TRUE (R163): A condition that a waiting or regulating thread watches becomes true, and the thread continues or branches. -/
def execConditionTrue (b t : Nat) (s : State) : Host.Outcome State Fault Refusal := .next ((s.conditionMet b t).settleBank b)

/-- CLAIM_DECISION (R156): A CLAIM issued early is decided at the placement time, and the placed edges stand or are withdrawn. -/
def execClaimDecision (b t : Nat) (s : State) : Host.Outcome State Fault Refusal := .next ((s.decideClaim b t).settleBank b)

/-- TOKEN_GRANT (R134): The released token passes to the next waiting claim in the following Reed cycle. -/
def execTokenGrant (b : Nat) (s : State) : Host.Outcome State Fault Refusal := .next ((s.passToken b).settleBank b)

/-- T0 (k = 0) or T1 has counted down to 0 and stops there (R151). -/
def execReedTimerZero (b t k : Nat) (s : State) : Host.Outcome State Fault Refusal :=
  .next (if s.timerVal b t k = 0 then
    s.modThread b t (fun x => if k = 0 then { x with t0 := 0, t0At := s.now } else { x with t1 := 0, t1At := s.now })
  else s)

/-- The timed off phase of a chop ends, and GL switches on again (R186, R499). -/
def execChopOffTimeEnd (b t : Nat) (s : State) : Host.Outcome State Fault Refusal :=
  .next (match (s.thread b t).offUntil with
    | some u =>
      if (s.thread b t).run && decide (tbDiff u s.now ≤ 0) then
        ((s.modThread b t (fun k => { k with offUntil := none })).chopGl b t true).settleBank b
      else s
    | none => s)

/-- MERGE_WATCH_CLOSE (R164): The merge watch closes without a merge, and the thread goes on after SUS_END. -/
def execMergeWatchClose (b t : Nat) (s : State) : Host.Outcome State Fault Refusal := .next ((s.closeWatch b t).settleBank b)

/-- The last thread on the former live copy of a quadrant has ended, and the copies agree again (R171). -/
def execPhraseStoreSync (q : Nat) (s : State) : Host.Outcome State Fault Refusal :=
  .next (if (s.quad q).syncing && (upTo 6).all (fun i => (upTo 2).all (fun t =>
      !((s.thread (6 * q + i) t).run && (s.thread (6 * q + i) t).old))) then
    s.modQuad q (fun x => { x with syncing := false, old := [] })
  else s)

end Sys2Proof.Machine
end

