-- ==== Sys2Proof/Machine/Dispatch.lean ====
section
/-! DEFINITION. The dispatch: one arm per constructor of Instr, each one direct call of its meaning. -/

namespace Sys2Proof.Machine

/-- The effect of a command on everything but the queue. -/
def exec (i : Instr) (s : State) : Host.Outcome State Fault Refusal :=
  match i with
  -- set-up accesses
  | .registerWrite p off w => Sys2Proof.Machine.execRegisterWrite p off w s
  | .readClear p off sh => Sys2Proof.Machine.execReadClear p off sh s
  | .sysAbort p v => Sys2Proof.Machine.execSysAbort p v s
  -- die link, trips, quadrant gates, doorbell
  | .dieLinkLoss => Sys2Proof.Machine.execDieLinkLoss s
  | .dieLinkRetrain ok => Sys2Proof.Machine.execDieLinkRetrain ok s
  | .channelOcTrip n => Sys2Proof.Machine.execChannelOcTrip n s
  | .highSideOcTrip b boost => Sys2Proof.Machine.execHighSideOcTrip b boost s
  | .tripLatchSeen u => Sys2Proof.Machine.execTripLatchSeen u s
  | .quadrantUngate q => Sys2Proof.Machine.execQuadrantUngate q s
  | .quadrantGateClose q => Sys2Proof.Machine.execQuadrantGateClose q s
  | .doorbellSweep => Sys2Proof.Machine.execDoorbellSweep s
  | .doorbellReadDone line => Sys2Proof.Machine.execDoorbellReadDone line s
  -- wheel tracker and angle clock
  | .crankEdge stamp width peak => Sys2Proof.Machine.execCrankEdge stamp width peak s
  | .coarseEdge => Sys2Proof.Machine.execCoarseEdge s
  | .camEdge n falling stamp width peak => Sys2Proof.Machine.execCamEdge n falling stamp width peak s
  | .stall => Sys2Proof.Machine.execStall s
  | .syncReset p v => Sys2Proof.Machine.execSyncReset p v s
  | .clockClamp => Sys2Proof.Machine.execClockClamp s
  | .cycleWrap => Sys2Proof.Machine.execCycleWrap s
  | .terrDataAccess p w => Sys2Proof.Machine.execTerrDataAccess p w s
  | .clearTerr p v => Sys2Proof.Machine.execClearTerr p v s
  | .clearTors p v => Sys2Proof.Machine.execClearTors p v s
  | .errRestart p v => Sys2Proof.Machine.execErrRestart p v s
  | .angleReadLatch p => Sys2Proof.Machine.execAngleReadLatch p s
  | .stampReadLatch p => Sys2Proof.Machine.execStampReadLatch p s
  -- events
  | .new sq d => Sys2Proof.Machine.execNew sq d s
  | .replace sq d => Sys2Proof.Machine.execReplace sq d s
  | .cancel sq d => Sys2Proof.Machine.execCancel sq d s
  | .cancelAll sq d => Sys2Proof.Machine.execCancelAll sq d s
  | .eventRelease n => Sys2Proof.Machine.execEventRelease n s
  | .anchorAngleReached n => Sys2Proof.Machine.execAnchorAngleReached n s
  | .eventStart n => Sys2Proof.Machine.execEventStart n s
  | .logEnd n => Sys2Proof.Machine.execLogEnd n s
  | .tokenWaitTimeout b t => Sys2Proof.Machine.execTokenWaitTimeout b t s
  | .dutyCapReached bank unit => Sys2Proof.Machine.execDutyCapReached bank unit s
  -- notes: thread t of bank b issues the note at its program counter
  | .noteNop b t => Sys2Proof.Machine.execNoteNop b t s
  | .gate b t => Sys2Proof.Machine.execGate b t s
  | .level b t => Sys2Proof.Machine.execLevel b t s
  | .tload b t => Sys2Proof.Machine.execTload b t s
  | .waitT b t => Sys2Proof.Machine.execWaitT b t s
  | .waitA b t => Sys2Proof.Machine.execWaitA b t s
  | .waitC b t => Sys2Proof.Machine.execWaitC b t s
  | .waitK b t => Sys2Proof.Machine.execWaitK b t s
  | .reg b t => Sys2Proof.Machine.execReg b t s
  | .br b t => Sys2Proof.Machine.execBr b t s
  | .loop b t => Sys2Proof.Machine.execLoop b t s
  | .claim b t => Sys2Proof.Machine.execClaim b t s
  | .release b t => Sys2Proof.Machine.execRelease b t s
  | .susBegin b t => Sys2Proof.Machine.execSusBegin b t s
  | .susEnd b t => Sys2Proof.Machine.execSusEnd b t s
  | .mark b t => Sys2Proof.Machine.execMark b t s
  | .sample b t => Sys2Proof.Machine.execSample b t s
  | .endNote b t => Sys2Proof.Machine.execEndNote b t s
  -- thread happenings
  | .phraseOverrun b t => Sys2Proof.Machine.execPhraseOverrun b t s
  | .waitTargetReached b t => Sys2Proof.Machine.execWaitTargetReached b t s
  | .conditionTrue b t => Sys2Proof.Machine.execConditionTrue b t s
  | .claimDecision b t => Sys2Proof.Machine.execClaimDecision b t s
  | .tokenGrant b => Sys2Proof.Machine.execTokenGrant b s
  | .reedTimerZero b t k => Sys2Proof.Machine.execReedTimerZero b t k s
  | .chopOffTimeEnd b t => Sys2Proof.Machine.execChopOffTimeEnd b t s
  | .mergeWatchClose b t => Sys2Proof.Machine.execMergeWatchClose b t s
  | .phraseStoreSync q => Sys2Proof.Machine.execPhraseStoreSync q s
  | .phraseParam tag arg0 arg1 => Sys2Proof.Machine.execPhraseParam tag arg0 arg1 s
  -- drive stage
  | .clearOc tag arg0 => Sys2Proof.Machine.execClearOc tag arg0 s
  | .boostRegulation q vbst => Sys2Proof.Machine.execBoostRegulation q vbst s
  | .boostPulse q vbat => Sys2Proof.Machine.execBoostPulse q vbat s
  | .boostOvervoltage q vbst => Sys2Proof.Machine.execBoostOvervoltage q vbst s
  | .closingKink n codes => Sys2Proof.Machine.execClosingKink n codes s
  | .closingNoKink n => Sys2Proof.Machine.execClosingNoKink n s
  | .resultWrite id => Sys2Proof.Machine.execResultWrite id s
  -- inkwell
  | .boostReconcile q vbst => Sys2Proof.Machine.execBoostReconcile q vbst s
  | .fillRateRefresh q vbat => Sys2Proof.Machine.execFillRateRefresh q vbat s
  | .railSubwindowEnd g => Sys2Proof.Machine.execRailSubwindowEnd g s
  | .ptabDataAccess p w => Sys2Proof.Machine.execPtabDataAccess p w s
  | .measurementConversion b path shunt volt => Sys2Proof.Machine.execMeasurementConversion b path shunt volt s
  -- rail guardians
  | .guardianMeterSample g cur volt => Sys2Proof.Machine.execGuardianMeterSample g cur volt s
  | .soaUpdate g => Sys2Proof.Machine.execSoaUpdate g s
  | .rampTimeout g => Sys2Proof.Machine.execRampTimeout g s
  | .guardianFastTrip g => Sys2Proof.Machine.execGuardianFastTrip g s
  | .reverseCurrentTrip g => Sys2Proof.Machine.execReverseCurrentTrip g s
  | .externalFault g => Sys2Proof.Machine.execExternalFault g s
  | .retryDelayEnd g => Sys2Proof.Machine.execRetryDelayEnd g s
  | .retryCountReset g => Sys2Proof.Machine.execRetryCountReset g s
  | .prsnChange g level => Sys2Proof.Machine.execPrsnChange g level s
  | .prsnDebounceDone g => Sys2Proof.Machine.execPrsnDebounceDone g s
  | .prsnRemoval g => Sys2Proof.Machine.execPrsnRemoval g s
  | .grdOn src g => Sys2Proof.Machine.execGrdOn src g s
  | .grdOff src g => Sys2Proof.Machine.execGrdOff src g s
  | .grdClear src g => Sys2Proof.Machine.execGrdClear src g s
  | .grdLimit tag arg0 arg1 => Sys2Proof.Machine.execGrdLimit tag arg0 arg1 s
  | .slowSupervisionCheck g gateOk vOk => Sys2Proof.Machine.execSlowSupervisionCheck g gateOk vOk s
  | .vigilMeterSample g cur vout vin => Sys2Proof.Machine.execVigilMeterSample g cur vout vin s
  | .energyCounterRead p g => Sys2Proof.Machine.execEnergyCounterRead p g s
  -- host link
  | .perstAssert => Sys2Proof.Machine.execPerstAssert s
  | .hotReset => Sys2Proof.Machine.execHotReset s
  | .functionLevelReset => Sys2Proof.Machine.execFunctionLevelReset s
  | .dataLinkDown unacked => Sys2Proof.Machine.execDataLinkDown unacked s
  | .dataLinkUp speed width => Sys2Proof.Machine.execDataLinkUp speed width s
  | .busMasterDisable d3 => Sys2Proof.Machine.execBusMasterDisable d3 s
  | .busMasterEnable => Sys2Proof.Machine.execBusMasterEnable s
  | .hostSilence => Sys2Proof.Machine.execHostSilence s
  | .hifHeartbeat p v => Sys2Proof.Machine.execHifHeartbeat p v s
  | .dmaFailure ring cause => Sys2Proof.Machine.execDmaFailure ring cause s
  | .msixUnmask v => Sys2Proof.Machine.execMsixUnmask v s
  | .spiReadFrame header => Sys2Proof.Machine.execSpiReadFrame header s
  | .spiWriteFrame header words crc => Sys2Proof.Machine.execSpiWriteFrame header words crc s
  -- rings
  | .ringEnable p r v => Sys2Proof.Machine.execRingEnable p r v s
  | .ringDisable p r v => Sys2Proof.Machine.execRingDisable p r v s
  | .ringDrained r => Sys2Proof.Machine.execRingDrained r s
  | .ringEngineEnable p v => Sys2Proof.Machine.execRingEngineEnable p v s
  | .statusLineWrite => Sys2Proof.Machine.execStatusLineWrite s
  | .recordWrite => Sys2Proof.Machine.execRecordWrite s
  | .gapRecord r => Sys2Proof.Machine.execGapRecord r s
  | .mqNop tag => Sys2Proof.Machine.execMqNop tag s
  | .traceCtrl tag arg0 => Sys2Proof.Machine.execTraceCtrl tag arg0 s
  | .accClose tag arg0 => Sys2Proof.Machine.execAccClose tag arg0 s
  | .fallbackEnd src => Sys2Proof.Machine.execFallbackEnd src s
  | .safestopExit src => Sys2Proof.Machine.execSafestopExit src s
  | .mqUnknownOpcode tag op => Sys2Proof.Machine.execMqUnknownOpcode tag op s
  -- converters, accumulators
  | .loopVisit n codes => Sys2Proof.Machine.execLoopVisit n codes s
  | .urgentVisit n codes => Sys2Proof.Machine.execUrgentVisit n codes s
  | .angleTrigger k => Sys2Proof.Machine.execAngleTrigger k s
  | .vigilVisit codes => Sys2Proof.Machine.execVigilVisit codes s
  | .converterCalibrate p v => Sys2Proof.Machine.execConverterCalibrate p v s
  | .calibrationDone n factors => Sys2Proof.Machine.execCalibrationDone n factors s
  | .adcMove p v => Sys2Proof.Machine.execAdcMove p v s
  | .movePendEnd => Sys2Proof.Machine.execMovePendEnd s
  | .accDataAccess p w => Sys2Proof.Machine.execAccDataAccess p w s
  | .windowTimeClose t => Sys2Proof.Machine.execWindowTimeClose t s
  | .windowAngleClose t => Sys2Proof.Machine.execWindowAngleClose t s
  -- comparators, timers
  | .comparatorCrossing c above => Sys2Proof.Machine.execComparatorCrossing c above s
  | .timerZero n => Sys2Proof.Machine.execTimerZero n s
  | .timerMatch n => Sys2Proof.Machine.execTimerMatch n s
  | .timerStart p v => Sys2Proof.Machine.execTimerStart p v s
  | .timerStop p v => Sys2Proof.Machine.execTimerStop p v s
  | .timerReloadWrite p n v => Sys2Proof.Machine.execTimerReloadWrite p n v s
  | .timerCmpWrite p n v => Sys2Proof.Machine.execTimerCmpWrite p n v s
  | .timerCapture n rising => Sys2Proof.Machine.execTimerCapture n rising s
  | .slaveTrigger n => Sys2Proof.Machine.execSlaveTrigger n s
  | .timerCatchup => Sys2Proof.Machine.execTimerCatchup s
  -- Nib engines
  | .stroke n inputs => Sys2Proof.Machine.execStroke n inputs s
  | .nibStart p n v => Sys2Proof.Machine.execNibStart p n v s
  | .nibStop p n v => Sys2Proof.Machine.execNibStop p n v s
  | .nibResume p n v => Sys2Proof.Machine.execNibResume p n v s
  | .nibFlush p n v => Sys2Proof.Machine.execNibFlush p n v s
  | .nibTxWrite p n v => Sys2Proof.Machine.execNibTxWrite p n v s
  | .nibRxRead p n => Sys2Proof.Machine.execNibRxRead p n s
  | .strokeWrite p n v => Sys2Proof.Machine.execStrokeWrite p n v s
  | .strokeReadLatch p n => Sys2Proof.Machine.execStrokeReadLatch p n s
  | .marginWrite p n v => Sys2Proof.Machine.execMarginWrite p n v s
  -- event concentrator
  | .groupReadyTime k => Sys2Proof.Machine.execGroupReadyTime k s
  | .sourceAssign => Sys2Proof.Machine.execSourceAssign s
  | .evcClaim p t src => Sys2Proof.Machine.execEvcClaim p t src s
  | .evcComplete p t src => Sys2Proof.Machine.execEvcComplete p t src s
  | .evcRelease p t => Sys2Proof.Machine.execEvcRelease p t s
  | .extLineEdge n high => Sys2Proof.Machine.execExtLineEdge n high s
  -- modes, clocks, power
  | .modeRequestDormant p vigil => Sys2Proof.Machine.execModeRequestDormant p vigil s
  | .modeRequestSafestop p => Sys2Proof.Machine.execModeRequestSafestop p s
  | .modeRequestSetup p => Sys2Proof.Machine.execModeRequestSetup p s
  | .modeRequestArmed p => Sys2Proof.Machine.execModeRequestArmed p s
  | .modeRequestMaint p => Sys2Proof.Machine.execModeRequestMaint p s
  | .modeRequestMaintExit p => Sys2Proof.Machine.execModeRequestMaintExit p s
  | .idleTimeout => Sys2Proof.Machine.execIdleTimeout s
  | .sleepCommit => Sys2Proof.Machine.execSleepCommit s
  | .sleepWaitTimeout => Sys2Proof.Machine.execSleepWaitTimeout s
  | .wakeDecision w => Sys2Proof.Machine.execWakeDecision w s
  | .safestopSupply => Sys2Proof.Machine.execSafestopSupply s
  | .safestopTemperature => Sys2Proof.Machine.execSafestopTemperature s
  | .stopPin => Sys2Proof.Machine.execStopPin s
  | .safestopCauseCleared c => Sys2Proof.Machine.execSafestopCauseCleared c s
  | .fallbackAdmission e => Sys2Proof.Machine.execFallbackAdmission e s
  | .fbdataAccess p w => Sys2Proof.Machine.execFbdataAccess p w s
  | .softwareReset p v => Sys2Proof.Machine.execSoftwareReset p v s
  | .brownoutReset r => Sys2Proof.Machine.execBrownoutReset r s
  | .powerOnReset => Sys2Proof.Machine.execPowerOnReset s
  | .powerLoss => Sys2Proof.Machine.execPowerLoss s
  | .referenceQualified => Sys2Proof.Machine.execReferenceQualified s
  | .pllLocked => Sys2Proof.Machine.execPllLocked s
  | .dieLinkTrained => Sys2Proof.Machine.execDieLinkTrained s
  | .imageChecked => Sys2Proof.Machine.execImageChecked s
  | .bootComplete => Sys2Proof.Machine.execBootComplete s
  | .referenceLoss => Sys2Proof.Machine.execReferenceLoss s
  | .aonCrystalSwitch => Sys2Proof.Machine.execAonCrystalSwitch s
  -- roles, sessions, COMMIT, journal
  | .sessionRequest p v => Sys2Proof.Machine.execSessionRequest p v s
  | .challengeReady => Sys2Proof.Machine.execChallengeReady s
  | .challengeExpiry => Sys2Proof.Machine.execChallengeExpiry s
  | .sessionOpen p v => Sys2Proof.Machine.execSessionOpen p v s
  | .roleUnlockDone => Sys2Proof.Machine.execRoleUnlockDone s
  | .sessionClose p v => Sys2Proof.Machine.execSessionClose p v s
  | .sessionIdleTimeout => Sys2Proof.Machine.execSessionIdleTimeout s
  | .lockoutEnd => Sys2Proof.Machine.execLockoutEnd s
  | .installerClaim p v => Sys2Proof.Machine.execInstallerClaim p v s
  | .keyProvisionSet p v => Sys2Proof.Machine.execKeyProvisionSet p v s
  | .keyProvisionClear p v => Sys2Proof.Machine.execKeyProvisionClear p v s
  | .commit p v => Sys2Proof.Machine.execCommit p v s
  | .commitDone => Sys2Proof.Machine.execCommitDone s
  | .discard p v => Sys2Proof.Machine.execDiscard p v s
  | .journalRead p => Sys2Proof.Machine.execJournalRead p s
  | .journalExport p v => Sys2Proof.Machine.execJournalExport p v s
  | .exportDone => Sys2Proof.Machine.execExportDone s
  | .journalSeal p v => Sys2Proof.Machine.execJournalSeal p v s
  | .sealDone => Sys2Proof.Machine.execSealDone s
  -- tuning pass
  | .tuningGo p v => Sys2Proof.Machine.execTuningGo p v s
  | .tuningBlockStart laneB => Sys2Proof.Machine.execTuningBlockStart laneB s
  | .tuningBlockEnd laneB fails => Sys2Proof.Machine.execTuningBlockEnd laneB fails s
  -- slur link
  | .angleFrameLaunch => Sys2Proof.Machine.execAngleFrameLaunch s
  | .angleFrameReceive f => Sys2Proof.Machine.execAngleFrameReceive f s
  | .retrain p v => Sys2Proof.Machine.execRetrain p v s
  | .trainingFrameReceive f arrival => Sys2Proof.Machine.execTrainingFrameReceive f arrival s
  | .trainingEcho rt => Sys2Proof.Machine.execTrainingEcho rt s
  | .trainingStepDone => Sys2Proof.Machine.execTrainingStepDone s
  | .trainingTimeout => Sys2Proof.Machine.execTrainingTimeout s
  | .timeBaseSlew diff => Sys2Proof.Machine.execTimeBaseSlew diff s
  | .slurLinkLoss => Sys2Proof.Machine.execSlurLinkLoss s
  | .slurRetry => Sys2Proof.Machine.execSlurRetry s
  | .slurLossTimeout => Sys2Proof.Machine.execSlurLossTimeout s
  -- boundary scan
  | .jtagExtest => Sys2Proof.Machine.execJtagExtest s
  | .jtagIdcode => Sys2Proof.Machine.execJtagIdcode s
  | .jtagSamplePreload pins cells => Sys2Proof.Machine.execJtagSamplePreload pins cells s
  | .jtagClamp => Sys2Proof.Machine.execJtagClamp s
  | .jtagHighz => Sys2Proof.Machine.execJtagHighz s
  | .jtagBypass code => Sys2Proof.Machine.execJtagBypass code s
  | .tapReset => Sys2Proof.Machine.execTapReset s
  -- late rows of the table
  | .perstDeassert => Sys2Proof.Machine.execPerstDeassert s
  | .msixEnable => Sys2Proof.Machine.execMsixEnable s
  | .brownoutRelease => Sys2Proof.Machine.execBrownoutRelease s
  | .upstreamStatusLoss => Sys2Proof.Machine.execUpstreamStatusLoss s
  | .commitFailed => Sys2Proof.Machine.execCommitFailed s

end Sys2Proof.Machine
end

