-- ==== Sys2Proof/Machine/Tick.lean ====
section
/-! DEFINITION. The passing of time while no command waits (log entry 5): one time-base unit, or one AON tick while the time
base stands. The clocks, the angle clock, the timers, the buckets, the placed edges and the time counters move on, and the steps
of the device that have come due are put into the queue. -/

namespace Sys2Proof.Machine

/-! The clocks -/

/-- AON ticks against the time base: 32,768 to 800,000,000 (Table 0.3). -/
def State.tickAon (s : State) : State :=
  let x := s.clk.aonPhase + 32768
  if 800000000 ≤ x then { s with clk := { s.clk with aon := (s.clk.aon + 1) % 2 ^ 48, aonPhase := x - 800000000 } }
  else { s with clk := { s.clk with aonPhase := x } }

/-- The time base counts one unit; a fabric cycle ends every 2.5 ns (R16), and a Reed cycle begins every 5 ns (R149). -/
def State.tickTb (s : State) : State :=
  let t := s.clk.tb + 1
  ({ s with clk := { s.clk with tb := t, slot := t.toNat % 4 == 0 },
            regs := if t.toNat % 2 = 0 then { s.regs with same := Same.none } else s.regs } : State).tickAon

/-! The angle clock (R65, R74) -/

/-- The clock runs on at its rate, never past the angle before the next expected tooth. -/
def State.tickAngle (s : State) : State :=
  if s.clockRuns && !s.ang.clamped then
    let x := s.ang.frac + s.ang.rate
    let left := (s.ang.next + cycleAt - 1 - s.ang.at') % cycleAt
    let d := min (x / 2 ^ 32) left
    let frac := if d < left then x % 2 ^ 32 else 0
    if d = 0 then { s with ang := { s.ang with frac := frac } }
    else
      let s : State := s.moveClock d
      { s with ang := { s.ang with frac := frac } }
  else s

/-- Clamped time runs (R74); stalled time is counted in whole µs (Table 4.8). -/
def State.tickCounts (s : State) : State :=
  let s : State :=
    if s.clockRuns && s.ang.clamped then
      { s with ang := { s.ang with clampFrac := s.ang.clampFrac + 1 } }
    else s
  if s.hif.normalStall || s.hif.urgentStall then
    if s.sch.stallFrac = 799 then ({ s with sch := { s.sch with stallFrac := 0 } } : State).count F.SCH_STALL_TIME_TIME
    else { s with sch := { s.sch with stallFrac := s.sch.stallFrac + 1 } }
  else s

/-! Duty buckets and on-times (R141, R213) -/

/-- A bucket, in tb × 256, after one unit with n active events: filled at rate 1 for each, drained at rate LIMIT. -/
def drain (level n limit : Nat) : Nat := level + 256 * n - min limit (level + 256 * n)

/-- The active events of channel n: running phrase threads, and a LOG output between its edges (R141). -/
def State.activeOn (s : State) (n : Nat) : Nat :=
  (s.threadsOn n).length
    + (if s.chMode n = 4 then (s.sch.store.filter (fun e => e.ch == n && e.phase == .running && e.begun)).length else 0)

/-- The buckets fill and drain. An end of a channel's event is forgotten once no MIN_GAP reaches beyond it (R127). -/
def State.tickDuty (s : State) : State :=
  { s with
    sch := { s.sch with chans := s.sch.chans.mapIdx (fun n c =>
      { c with bucket := drain c.bucket (s.activeOn n) (s.get (F.SCH_LIM_LIMIT n)),
               lastEnd := c.lastEnd.filter (fun t => decide (elapsed t s.now < 2 ^ 20)) }) },
    banks := s.banks.mapIdx (fun b k =>
      { k with bucket := drain k.bucket (((upTo 4).map (fun i => s.activeOn (4 * b + i))).sum) (s.get (F.SCH_BKDUTY_LIMIT b)),
               threads := k.threads.map (fun t => { t with onTime := t.onTime + b2n (t.run && (s.chan t.ch).gl) }) }) }

/-- A boost pulse's on-time ends, and GBC is low outside the modes that regulate (R190). -/
def State.tickGbc (s : State) : State :=
  { s with quads := s.quads.mapIdx (fun q x =>
      let d := match x.pulseAt with | some t => elapsed t s.now | none => 0
      { x with gbc := x.gbc && s.boostMode q && decide (5 * d < 4 * tonEff s q x.vbat),
               pulseAt := x.pulseAt.filter (fun _ => decide (d < 2 ^ 16)) }) }

/-! Timers (R348): 100 MHz, 25 MHz and the AON clock. A decision cycle is the last fabric cycle of a tick. -/

/-- The timers at one tick of the time base: pins, decision cycles and ticks of their clocks (R350). -/
def State.tickTmr (s : State) : State :=
  let t := s.now.toNat
  let s : State := if t % 2 = 0 then s.tmrPins else s
  let s : State := if t % 8 = 6 then s.tmrDecideAll 0 else s
  let s : State := if t % 8 = 0 then s.tmrEndAll 0 else s
  let s : State := if t % 32 = 30 then s.tmrDecideAll 1 else s
  if t % 32 = 0 then s.tmrEndAll 1 else s

/-- An AON tick spans the fabric cycles between two synchronised AON edges: an edge counts from the next whole fabric cycle, and the
fabric cycle before that is the decision cycle (R350). -/
def State.tickTmrAon (s : State) : State :=
  if s.now.toNat % 2 = 0 then
    let s : State := if s.clk.aonPhase < 65536 then s.tmrEndAll 2 else s
    if 800000000 ≤ s.clk.aonPhase + 65536 then s.tmrDecideAll 2 else s
  else s

/-! The steps that have come due -/

/-- A command where its condition holds. -/
def onDue (p : Bool) (c : Instr) : List Instr := if p then [c] else []

/-- The command of the note at the program counter of thread t. -/
def State.noteCommand (s : State) (b t : Nat) : Instr :=
  let n := s.noteOf b t
  if n.op = Op.gate then .gate b t else if n.op = Op.level then .level b t else if n.op = Op.tload then .tload b t
  else if n.op = Op.waitT then .waitT b t else if n.op = Op.waitA then .waitA b t else if n.op = Op.waitC then .waitC b t
  else if n.op = Op.waitK then .waitK b t else if n.op = Op.reg then .reg b t else if n.op = Op.br then .br b t
  else if n.op = Op.loop then .loop b t else if n.op = Op.claim then .claim b t else if n.op = Op.release then .release b t
  else if n.op = Op.susBegin then .susBegin b t else if n.op = Op.susEnd then .susEnd b t else if n.op = Op.mark then .mark b t
  else if n.op = Op.sample then .sample b t else if n.op = Op.endNote then .endNote b t else .noteNop b t

/-- A running thread that waits. -/
def State.waitSteps (s : State) (b t : Nat) : List Instr :=
  match (s.thread b t).wait with
  | .none => []
  | .time _ => [.waitTargetReached b t]
  | .angle _ _ _ _ => [.waitTargetReached b t, .conditionTrue b t]
  | .cond _ _ _ => [.conditionTrue b t]
  | .kink _ _ => [.conditionTrue b t]
  | .claim => []
  | .sus _ => [.mergeWatchClose b t]
  | .reg _ _ _ _ => [.conditionTrue b t]

/-- The Reed cycle of one bank, every 5 ns: overruns, ends of waits and of off phases, and the token. -/
def State.reedSteps (s : State) (b : Nat) : List Instr :=
  let run := (upTo 2).filter (fun t => (s.thread b t).run)
  if run.isEmpty && (s.bank b).waiting.isEmpty then []
  else
    run.flatMap (fun t => onDue (s.overrunDue b t) (.phraseOverrun b t) ++ s.waitSteps b t)
    ++ onDue ((s.bank b).token == 0 && run.any (s.waitsToken b)) (.tokenGrant b)
    ++ run.flatMap (fun t => onDue (s.tokenLate b t) (.tokenWaitTimeout b t))
    ++ onDue (s.threadLate b).isSome (.tokenWaitTimeout b 0)

/-- What falls on a placement time or on the end of an off phase, in its own slot of 1.25 ns: first the claims that are decided then
(R156), then GL's return (R186, R499). -/
def State.slotSteps (s : State) : List Instr :=
  (upTo 24).flatMap (fun b => (upTo 2).flatMap (fun t =>
    let k := s.thread b t
    onDue (k.run && k.claiming && k.claimAt == s.now) (.claimDecision b t)
      ++ onDue (k.run && (match k.offUntil with | some u => decide (tbDiff u s.now ≤ 0) | none => false)) (.chopOffTimeEnd b t)))

/-- The notes of a Reed cycle: each engine issues one note of the thread whose turn it is, once the waits that end in this cycle
have ended (R149). -/
def State.noteSteps (s : State) : List Instr :=
  (upTo 24).filterMap (fun b => ((upTo 2).find? (fun t => (s.thread b t).run && s.turn b t)).map (s.noteCommand b))

/-- The waiting events of channel n that the present pass releases, in the order of its queue (R110). -/
def State.passOf (s : State) (n : Nat) : List Event :=
  if (s.releasable n).isNone then []
  else ((s.queueOf n).filter (fun e => e.phase == .waiting)).takeWhile (fun e => !s.halfHold e && s.near e)

/-- Insert an event into a list in start order, behind those of the same start. -/
def insStart (s : State) (e : Event) : List Event → List Event
  | [] => [e]
  | x :: l => if s.projStart e < s.projStart x then e :: x :: l else x :: insStart s e l

/-- The releases that fall due in one scheduler pass, in start order over all channels (R218). -/
def State.passSteps (s : State) (chs : List Nat) : List Instr :=
  (((upTo 96).filter (fun n => chs.contains n)).flatMap s.passOf |>.foldl (fun l e => insStart s e l) []).map (fun e => .eventRelease e.ch)

/-- The scheduler and the drive stage. The ledger's order is that of R218: results with their returns and debits, then the ends of
sub-windows, then the decisions. -/
def State.eventSteps (s : State) : List Instr :=
  let chs := (s.sch.store.filter (fun e => e.unstarted)).map (fun e => e.ch)
  (upTo 96).flatMap (fun n =>
    onDue ((s.chan n).oc && !(s.chan n).ocSeen) (.tripLatchSeen (.channel n))
    ++ onDue (chs.contains n) (.anchorAngleReached n)
    ++ onDue (s.logEndDue n).isSome (.logEnd n) ++ onDue (s.capReached false n && s.chActive n) (.dutyCapReached false n)
    ++ onDue (s.watching n) (.closingNoKink n))
  ++ ((s.sch.store.filter s.resultReady).map (fun e => .resultWrite e.id))
  ++ (upTo 8).flatMap (fun g => onDue (s.subwindowDue g) (.railSubwindowEnd g))
  ++ s.passSteps chs
  ++ (upTo 96).flatMap (fun n => onDue (chs.contains n) (.eventStart n))
  ++ (upTo 24).flatMap (fun b => onDue ((s.bank b).oc && !(s.bank b).ocSeen) (.tripLatchSeen (.bank b))
      ++ onDue (s.capReached true b && ((s.bank b).threads.any Thread.run || (upTo 4).any (fun i => s.chActive (4 * b + i)))) (.dutyCapReached true b))

/-- The host link and the ring engine. -/
def State.hostSteps (s : State) : List Instr :=
  onDue s.sweepDue .doorbellSweep ++ onDue s.silenceDue .hostSilence
  ++ onDue (s.ringEngine && (s.alarmDue || s.resultDue.isSome || (s.teleDue s.hif.tele).isSome || s.traceDue.isSome)) .recordWrite
  ++ (upTo 19).flatMap (fun r => onDue (s.gapDue r) (.gapRecord r))
  ++ (upTo 19).flatMap (fun r => onDue ((s.ring r).active && !s.flag (F.HIF_RCFG_EN r)) (.ringDrained r))
  ++ onDue s.statusDue .statusLineWrite
  ++ (upTo 16).flatMap (fun k => onDue (s.sys.mode.evcRuns && s.groupDue k) (.groupReadyTime k))
  ++ onDue (s.now.toNat % 2 == 0 && s.evc.srcs.any (fun x => x.pend && x.ready)) .sourceAssign

/-- The mode controller, the quadrants' clocks, the security block and the slur link. -/
def State.modeSteps (s : State) : List Instr :=
  (upTo 4).flatMap (fun q => onDue (s.ungateDue q) (.quadrantUngate q)
    ++ onDue (s.gateDue q) (.quadrantGateClose q) ++ onDue (s.quad q).syncing (.phraseStoreSync q))
  ++ onDue s.idleDue .idleTimeout ++ onDue (s.sys.sleep.isSome && s.sys.mode == .armed && s.sleepReady) .sleepCommit
  ++ onDue (match s.sys.sleep with | some k => decide (80000000 < elapsed k.since s.now) | none => false) .sleepWaitTimeout
  ++ (s.sys.fbDue.filter s.planDue).map (fun e => .fallbackAdmission e)
  ++ onDue s.chalOver .challengeExpiry ++ onDue s.idleOver .sessionIdleTimeout ++ onDue s.lockoutOver .lockoutEnd
  ++ onDue (s.sec.unlock.isSome && s.busyFor 480000) .roleUnlockDone
  ++ onDue (s.tst.running && s.tst.blockA == 0 && decide (s.tst.nextA < 16)) (.tuningBlockStart false)
  ++ onDue (s.tst.running && s.tst.blockB == 0 && decide (s.tst.nextB < 28)) (.tuningBlockStart true)
  ++ onDue s.echoDue (.trainingEcho none) ++ onDue s.stepDue .trainingStepDone ++ onDue s.slurLossDue .slurLinkLoss
  ++ onDue (s.slurOn && s.slur.state == 1 && decide (20480 ≤ elapsed s.slur.since s.now)) .trainingTimeout
  ++ onDue (s.follows && s.slur.state == 3 && decide (800000 ≤ elapsed s.slur.since s.now)) .slurRetry
  ++ onDue s.slurStallDue .slurLossTimeout
  ++ onDue ((s.launches || s.trains) && decide (s.now.toNat % 1024 * 25 % 1024 < 25)) .angleFrameLaunch

/-- The converters' windows, the timers and the guardians. -/
def State.measureSteps (s : State) : List Instr :=
  (s.adc.trigDue.map (fun k => Instr.angleTrigger k))
  ++ onDue (match s.adc.movePend with | some t => decide (16000 ≤ elapsed t s.now) | none => false) .movePendEnd
  ++ s.adc.wins.flatMap (fun w => onDue (s.timeCloseDue w.1) (.windowTimeClose w.1) ++ onDue (w.2.due && !s.ang.clamped) (.windowAngleClose w.1))
  ++ (upTo 16).flatMap (fun n => let x := s.tmr n
      onDue (x.zeroDue && s.tmrActs n) (.timerZero n) ++ onDue (x.matchDue && !x.zeroDue && s.tmrActs n) (.timerMatch n)
        ++ onDue x.trig (.slaveTrigger n))
  ++ onDue s.catchupDue .timerCatchup
  ++ (upTo 8).flatMap (fun g => let x := s.grd g
      onDue (x.trip && !x.tripSeen) (.tripLatchSeen (.guardian g))
      ++ onDue (s.rampLate g) (.rampTimeout g)
      ++ onDue (x.st == .retryWait && s.retryOut g && s.rampMode) (.retryDelayEnd g)
      ++ onDue (x.retries != 0 && s.goodFor g) (.retryCountReset g)
      ++ onDue (!x.prsn && s.prsnStable g) (.prsnDebounceDone g) ++ onDue (s.prsnGone g) (.prsnRemoval g)
      ++ onDue (s.sys.sleep.isSome && s.grdWakes g true) (.wakeDecision (.prsn g))
      ++ onDue (s.fullRate && s.now.toNat % 12800 == 0 && s.grdUsable g) (.soaUpdate g))

/-- Every step of the device that is due, in the order of the blocks. The wheel's come first. -/
def State.dueSteps (s : State) : List Instr :=
  onDue s.stallDue .stall ++ onDue s.clampDue .clockClamp ++ s.slotSteps
  ++ (if s.now.toNat % 4 = 0 then (upTo 24).flatMap s.reedSteps else [])
  ++ s.eventSteps ++ s.measureSteps ++ s.hostSteps ++ s.modeSteps

/-! The tick -/

/-- Since when the quadrants and the device have been idle (R36, R410), and the idle time of a session (R432). -/
def State.tickIdle (s : State) : State :=
  let s : State := s.markIdle.markSleep
  if s.sec.role ≠ 0 ∧ s.sys.busy = none then { s with sec := { s.sec with idle := s.sec.idle + 1 } } else s

/-- The REG waits look again at their comparators (R181 to R186). -/
def State.tickReg (s : State) : State :=
  (upTo 24).foldl (fun (s : State) b => (upTo 2).foldl (fun (s : State) t =>
    match (s.thread b t).wait with | .reg _ _ _ _ => s.regLook b t | _ => s) s) s

/-- The telemetry builder takes up to 80 M closes/s: one every 10 tb (R331). -/
def State.tickBuilder (s : State) : State :=
  if s.now.toNat % 10 = 0 then { s with adc := { s.adc with builder := s.adc.builder - 1 } } else s

/-- One unit of the time base. -/
def State.tickFast (s : State) : State :=
  let s : State := if s.now.toNat % 2 = 1 then s.strokesLate else s
  let s : State := s.tickTb.tickQuads.tickAngle.tickCounts
  let s : State := s.tickDuty.tickGbc.tickTmr.tickTmrAon.tickBuilder
  let s : State := s.dueEdges.tickReg
  let s : State := s.tickIdle
  { s with pending := s.dueSteps }

/-- One tick of the AON clock while the time base stands: guardians' debounces, retries and rail accounts go on (R251, R253), and a
guardian may wake the device (R254). -/
def State.tickSlow (s : State) : State :=
  let s : State := { s with clk := { s.clk with aon := (s.clk.aon + 1) % 2 ^ 48 } }
  if s.sys.mode.asleep then
    { s with pending := (upTo 8).flatMap (fun g => let x := s.grd g
        onDue (!x.prsn && s.prsnStable g) (.prsnDebounceDone g) ++ onDue (s.prsnGone g) (.prsnRemoval g)
        ++ onDue (x.retries != 0 && s.goodFor g) (.retryCountReset g) ++ onDue (s.subwindowDue g) (.railSubwindowEnd g)
        ++ onDue (s.grdWakes g true) (.wakeDecision (.prsn g)) ++ onDue (s.grdWakes g false) (.wakeDecision (.trip g))) }
  else s

/-- The notes of the Reed cycle that falls on the present time are issued, after everything else that came due in it. -/
def State.issueSlot (s : State) : State := { s with clk := { s.clk with slot := false }, pending := s.noteSteps }

/-- What time does while no command waits. In OFF nothing has power. -/
def State.tick (s : State) : State :=
  let s : State := s.askedNow.passAsked
  if s.sys.mode = .off then s else if s.clk.slot then s.issueSlot else if s.clk.tbRun then s.tickFast else s.tickSlow

end Sys2Proof.Machine
end

