-- ==== Sys2Proof/Safety.lean ====
section
/-! DEFINITION. What counts as a safe run: the register copies keep their canonical form, and State keeps one element for
every unit that the spec counts. -/

namespace Sys2Proof.Machine

/-- Every copy of the set-up registers keeps its canonical form. -/
def State.mapsOk (s : State) : Bool := s.regs.live.wf && s.regs.shadow.wf && s.regs.image.wf

/-! One element per unit (Table 0.1, Table 11.1, Table 15.1) -/

def Clk.shaped (c : Clk) : Prop := c.qrun.length = 4 ∧ c.qidle.length = 4
def Hif.shaped (h : Hif) : Prop := h.rings.length = 19 ∧ h.vecPend.length = 8 ∧ h.cqFull.length = 4
def Evc.shaped (e : Evc) : Prop :=
  e.srcs.length = 64 ∧ e.groups.length = 16 ∧ e.targets.length = 4 ∧ e.ext.length = 8
def Sec.shaped (x : Sec) : Prop := x.resp.length = 4 ∧ x.key.length = 4
def Whl.shaped (w : Whl) : Prop := w.camK.length = 4
def Sch.shaped (x : Sch) : Prop := x.chans.length = 96
def Bank.shaped (k : Bank) : Prop := k.threads.length = 2
def Ink.shaped (i : Ink) : Prop := i.rails.length = 8
def Grd.shaped (g : Grd) : Prop := g.held8.length = 8
def Adc.shaped (a : Adc) : Prop := a.convs.length = 6
def Cmps.shaped (c : Cmps) : Prop :=
  c.peak.length = 24 ∧ c.hold.length = 24 ∧ c.vds.length = 96 ∧ c.ghv.length = 24 ∧ c.ghb.length = 24 ∧ c.ft.length = 8
    ∧ c.rev.length = 8 ∧ c.wm.length = 8
def Nib.shaped (n : Nib) : Prop := n.ink.length = 8

/-- 24 banks of two threads each, 4 quadrants, 8 guardians, 16 timers, 8 Nib engines. -/
def BanksOk (l : List Bank) : Prop := l.length = 24 ∧ ∀ k ∈ l, k.shaped
def QuadsOk (l : List Quad) : Prop := l.length = 4
def GrdsOk (l : List Grd) : Prop := l.length = 8 ∧ ∀ g ∈ l, g.shaped
def TmrsOk (l : List Tmr) : Prop := l.length = 16
def NibsOk (l : List Nib) : Prop := l.length = 8 ∧ ∀ n ∈ l, n.shaped

/-- Two threads in each of 24 banks, 96 channels, 4 quadrants, 8 guardians, 6 converters, 16 timers, 8 engines, 19 rings,
64 sources, 16 groups and 4 targets, on every part: a part without a unit leaves its element idle. -/
def State.shaped (s : State) : Prop :=
  s.clk.shaped ∧ s.hif.shaped ∧ s.evc.shaped ∧ s.sec.shaped ∧ s.whl.shaped ∧ s.sch.shaped
    ∧ BanksOk s.banks ∧ QuadsOk s.quads ∧ s.ink.shaped ∧ GrdsOk s.grds ∧ s.adc.shaped ∧ s.cmps.shaped ∧ TmrsOk s.tmrs
    ∧ NibsOk s.nibs

/-- The invariant of the model: canonical register copies and one element per unit. -/
def State.ok (s : State) : Prop := s.mapsOk = true ∧ s.shaped

/-- The parts of State. -/
inductive Piece where
  | part | clk | regs | sys | hif | evc | sec | whl | ang | sch | banks | quads | edges | ink | grds | adc | cmps | tmrs | nibs | tst | slur | jtag | ans | freeCtr | pending
  deriving DecidableEq, Repr

/-- Two states hold the same in one part. -/
def State.agree (s t : State) : Piece → Prop
  | .part => t.part = s.part
  | .clk => t.clk = s.clk
  | .regs => t.regs = s.regs
  | .sys => t.sys = s.sys
  | .hif => t.hif = s.hif
  | .evc => t.evc = s.evc
  | .sec => t.sec = s.sec
  | .whl => t.whl = s.whl
  | .ang => t.ang = s.ang
  | .sch => t.sch = s.sch
  | .banks => t.banks = s.banks
  | .quads => t.quads = s.quads
  | .edges => t.edges = s.edges
  | .ink => t.ink = s.ink
  | .grds => t.grds = s.grds
  | .adc => t.adc = s.adc
  | .cmps => t.cmps = s.cmps
  | .tmrs => t.tmrs = s.tmrs
  | .nibs => t.nibs = s.nibs
  | .tst => t.tst = s.tst
  | .slur => t.slur = s.slur
  | .jtag => t.jtag = s.jtag
  | .ans => t.ans = s.ans
  | .freeCtr => t.freeCtr = s.freeCtr
  | .pending => t.pending = s.pending

/-- t differs from s in the listed parts at most: the frame of a command. -/
def State.onlyIn (s t : State) (l : List Piece) : Prop := ∀ p, p ∉ l → s.agree t p

/-- Of the set-up registers, t differs from s in the live words at the listed offsets at most. What the present fabric cycle has
seen is the model's own bookkeeping (R16, R17). -/
def State.onlyWords (s t : State) (l : List Nat) : Prop :=
  t.regs = { s.regs with live := t.regs.live, same := t.regs.same } ∧ ∀ a, a ∉ l → t.word a = s.word a

/-- Thread t of bank b issues a legal note of an opcode now: its turn has come, no field is reserved, and its phrase's kind may
use it (R149, R174). -/
def State.issues (s : State) (b t op : Nat) : Prop :=
  b < 24 ∧ t < 2 ∧ s.turn b t = true ∧ (s.noteOf b t).op = op ∧ (s.noteOf b t).reserved = false
    ∧ (s.noteOf b t).barred (s.thread b t).kind = false

/-- The program counter after a note that does not jump. -/
def State.nextPc (s : State) (b t : Nat) : Nat := ((s.thread b t).pc + 1) % 4096

/-- From s to t an MQ command completed: one completion record with its CODE, TAG and OPCODE is staged for the MQ's CQ, and the MQ
moves past its entry (R300, R286). -/
def State.completes (s t : State) (tag : Word) (op code : Nat) : Prop :=
  (t.ring 8).idx = ((s.ring 8).idx + 1) % s.ringSize 8
    ∧ ∃ ws, t.hif.results = s.hif.results ++ [{ cq := s.get (F.HIF_RCFG_CQ 8), words := ws }] ∧ ws.length = 8
        ∧ (ws.getD 0 0).bits 0 5 = code ∧ (ws.getD 0 0).bits 16 4 = 1 ∧ ws.getD 1 0 = tag ∧ (ws.getD 2 0).bits 0 8 = op

/-- Target g is an enabled accumulator whose open window, not closed in this fabric cycle, takes n samples of this epoch without filling
up (R326, R329, R333). -/
def State.accepts (s : State) (g epoch n : Nat) : Prop :=
  g < 512 ∧ s.flag (accEn g) = true ∧ (s.win g).open' = true ∧ (s.win g).epoch = epoch ∧ (s.win g).count + n ≤ 0xFFFFFF
    ∧ assocGet g s.regs.same.shut = none

/-- From s to t the samples vs reach accumulator g, after skip discarded conversions, and no other window changes. -/
def State.takes (s t : State) (g : Nat) (vs : List Int) (skip : Nat) : Prop :=
  t.win g = { s.win g with sum := (s.win g).sum + vs.sum, count := (s.win g).count + vs.length,
                           settle := if skip = 0 then (s.win g).settle else min ((s.win g).settle + skip) 255 }
    ∧ ∀ x, x ≠ g → t.win x = s.win x

/-- The close of target g makes a record, and the telemetry builder and the staging have room for it (R331). -/
def State.recordable (s : State) (g : Nat) : Prop :=
  s.hif.tele.length < teleRoom ∧ s.adc.builder < builderRoom ∧ assocGet g s.regs.same.shut = none
    ∧ (s.flag (accSkip0 g) && (s.win g).count == 0) = false

/-- From s to t the window of target g closes with a CAUSE: its record is staged, and it opens again, empty. -/
def State.reopens (s t : State) (g cause : Nat) : Prop :=
  (∃ gap, t.hif.tele = s.hif.tele
      ++ [{ ring := 13 + s.get (accTq g), words := winRecord g (s.shutOf g cause none), ev := none, trk := isTrk g, gap := gap }])
    ∧ (t.win g).open' = true ∧ (t.win g).openT = s.now ∧ (t.win g).count = 0 ∧ (t.win g).sum = 0 ∧ (t.win g).epoch = (s.win g).epoch
    ∧ (∀ x, x ≠ g → t.win x = s.win x) ∧ s.onlyWords t [] ∧ s.onlyIn t [.regs, .hif, .adc]

/-- An alarm of this ID waits in the alarm FIFO. -/
def State.alarmed (s : State) (id : Nat) : Prop := ∃ a ∈ s.hif.alarms, a.id = id

end Sys2Proof.Machine
end

