-- ==== Sys2Proof/Certificates/Slice0/Obligations.lean ====
section
/-! DEFINITION. The statements for the provers, by the chapters of the spec. A clause that rests on a choice of the model names its
log entry. -/

open Sys2Proof Sys2Proof.Machine

/-! The machine: steps, time, reset, the invariant -/

/-- The command at the front of the queue is executed with the queue's rest. -/
def Obligations.StepRunsFrontCommand : Prop :=
  ∀ (c : Instr) (rest : List Instr) (s : State), s.pending = c :: rest → step s = exec c { s with pending := rest }

/-- Log entry 5: on an empty queue, with no request waiting for its fabric cycle, the notes of the present Reed slot are issued, or time
passes by one unit of the clock that runs; with power off nothing happens. -/
def Obligations.EmptyQueuePassesTime : Prop :=
  ∀ s : State, s.pending = [] → s.sys.asked = none → s.tst.asked = none →
    (s.sys.mode = .off → step s = .next s)
    ∧ (s.sys.mode ≠ .off → s.clk.slot = true →
        step s = .next { s with clk := { s.clk with slot := false }, pending := s.noteSteps })
    ∧ (s.sys.mode ≠ .off → s.clk.slot = false → s.clk.tbRun = false → ∃ t, step s = .next t
        ∧ t.clk = { s.clk with aon := (s.clk.aon + 1) % 2 ^ 48 } ∧ s.onlyIn t [.clk, .pending])
    ∧ (s.sys.mode ≠ .off → s.clk.slot = false → s.clk.tbRun = true → ∃ t, step s = .next t ∧ t.clk.tb = s.clk.tb + 1)

/-- Reset (R20, R27, R422): BOOT, every gate low, no session, no ring, every set-up word at its reset value in every copy, an empty
queue. The values that the spec leaves open are those of log entry 2. -/
def Obligations.ResetState : Prop :=
  let s := State.reset
  s.sys.mode = .boot ∧ s.sys.prev = .off ∧ s.pending = [] ∧ s.sec.role = 0 ∧ s.sys.busy = none ∧ s.hif.up = false
    ∧ (∀ a, s.word a = resetWord a ∧ s.shadowWord a = resetWord a)
    ∧ (∀ n, (s.chan n).gl = false) ∧ (∀ b, (s.bank b).ghv = false ∧ (s.bank b).ghb = false)
    ∧ (∀ r, (s.ring r).active = false) ∧ (∀ g, (s.grd g).st = .off) ∧ s.whl.sync = .idle ∧ s.sch.store = []

/-- The invariant holds at reset. -/
def Obligations.ResetIsSound : Prop := State.reset.ok

/-- Every step keeps the invariant: canonical register copies and one element per unit. -/
def Obligations.EveryStepKeepsSoundness : Prop := ∀ s t : State, s.ok → step s = .next t → t.ok

/-- No command but COMMIT_DONE writes the configuration image (R434, R437); the image's validity changes only there and where power
fails in its write. No command changes the part or the queue. -/
def Obligations.OnlyCommitWritesImage : Prop :=
  ∀ (c : Instr) (s t : State), s.ok → exec c s = .next t →
    t.part = s.part ∧ t.pending = s.pending
    ∧ (c ≠ .commitDone → t.regs.image = s.regs.image)
    ∧ (c ≠ .commitDone → c ≠ .powerLoss → (∀ r, c ≠ .brownoutReset r) → t.regs.imgKind = s.regs.imgKind)

/-! Accesses to the set-up space (chapter 10, R14, R15, R434) -/

/-- A write of a register of the scheduler block by an installer: the installer's fields and the operator's fields of the image take
the word in the shadow copy, the operator's fields in the live copy, and no other word changes (R434). A read of a register of the
scheduler block answers its content and leaves its read-clear fields 0 (R14); where the device has written the register in the same
fabric cycle, the read answers what stood before, and what the device has set or counted stays (R17). -/
def Obligations.WritesReachTheirCopiesAndReadsClear : Prop :=
  (∀ (p : Port) (a : Nat) (v : Word) (r : RegRow) (s : State), s.ok → s.portOpen = true → 0x1000 ≤ a → a < 0x2000 → a % 4 = 0 →
    s.rowThere a = some r → r.w1c = 0 → r.woM = 0 → s.mqBits a = 0 → 1 ≤ s.roleOf p →
    ∃ t, exec (.registerWrite p a (.word v)) s = .next t
      ∧ t.word a = mergeMask r.o (s.word a) v
      ∧ t.shadowWord a = mergeMask (r.i ||| (r.o &&& r.img)) (s.shadowWord a) v
      ∧ (∀ b, b ≠ a → t.word b = s.word b ∧ t.shadowWord b = s.shadowWord b)
      ∧ t.regs.image = s.regs.image ∧ s.onlyIn t [.regs, .sec])
  ∧ (∀ (p : Port) (a : Nat) (r : RegRow) (s : State), s.ok → s.portOpen = true → 0x1000 ≤ a → a < 0x2000 → a % 4 = 0 →
    a ≠ R.SCH_FREE_LOW → s.rowThere a = some r → r.rc ≠ 0 → s.hwWrote a = false →
    ∃ t, exec (.readClear p a .word) s = .next t
      ∧ t.ans.read = some ((s.touch p).content a % 2 ^ 32)
      ∧ t.word a = Word.ofN ((s.word a).toNat - ((s.word a).toNat &&& r.rc))
      ∧ s.onlyWords t [a] ∧ s.onlyIn t [.regs, .sec, .ans])
  ∧ (∀ (p : Port) (a : Nat) (r : RegRow) (old new : Word) (s : State), s.ok → s.portOpen = true → 0x1000 ≤ a → a < 0x2000 → a % 4 = 0 →
    a ≠ R.SCH_FREE_LOW → s.rowThere a = some r → r.rc ≠ 0 → assocGet a s.regs.same.hw = some (old, new) →
    ∃ t, exec (.readClear p a .word) s = .next t
      ∧ t.ans.read = some (((s.touch p).putWord a (mergeMask r.rc (s.word a) old)).content a % 2 ^ 32)
      ∧ t.word a = Word.ofN ((s.word a).toNat - ((s.word a).toNat &&& r.rc) + (new.toNat &&& r.rc))
      ∧ s.onlyWords t [a] ∧ s.onlyIn t [.regs, .sec, .ans])

/-- Writes that a port turns away: a field of a higher role is left unchanged and SEC_ROLE_DENY counts the access (R15); a write
while the port is busy is dropped and counted in SYS_REFUSED (R264); an access of another shape than one aligned word is counted in
HIF_BADACC_CNT wherever it reaches the device (R263, R270); an offset past the space has no access. -/
def Obligations.RefusedAccesses : Prop :=
  (∀ (p : Port) (a : Nat) (v : Word) (r : RegRow) (s : State), s.ok → s.portOpen = true → 0x1000 ≤ a → a < 0x2000 → a % 4 = 0 →
    s.rowThere a = some r → s.mqBits a = 0 → s.roleOf p = 0 → (v ^^^ s.shadowWord a).toNat &&& r.i ≠ 0 →
    ∃ t, exec (.registerWrite p a (.word v)) s = .next t
      ∧ t.shadowWord a = mergeMask (r.o &&& r.img) (s.shadowWord a) v
      ∧ t.get F.SEC_ROLE_DENY_COUNT = min (s.get F.SEC_ROLE_DENY_COUNT + 1) 0xFFFFFFFF)
  ∧ (∀ (p : Port) (a : Nat) (v : Word) (s : State), s.ok → s.sys.busy.isSome = true → 0x1000 ≤ a → a < 0x2000 → a % 4 = 0 →
    ∃ t, exec (.registerWrite p a (.word v)) s = .next t
      ∧ t.get F.SYS_REFUSED_COUNT = min (s.get F.SYS_REFUSED_COUNT + 1) 0xFFFFFFFF
      ∧ s.onlyWords t [R.SYS_REFUSED] ∧ s.onlyIn t [.regs, .hif])
  ∧ (∀ (p : Port) (a : Nat) (s : State), s.ok → s.unreached p = false → a < 0x40000 →
    ∃ t, exec (.registerWrite p a .bad) s = .next t
      ∧ t.get F.HIF_BADACC_CNT_COUNT = min (s.get F.HIF_BADACC_CNT_COUNT + 1) 0xFFFFFFFF
      ∧ s.onlyWords t [R.HIF_BADACC_CNT] ∧ s.onlyIn t [.regs])
  ∧ (∀ (p : Port) (a : Nat) (w : WShape) (x : RShape) (s : State), 0x40000 ≤ a → w.inBar = true →
    exec (.registerWrite p a w) s = .fault .offsetBeyondBar ∧ exec (.readClear p a x) s = .fault .offsetBeyondBar)

/-- An SPI frame of one word acts as the access of its word on the SPI port, after the status byte went out four times and the
frame's flags were cleared (R275, R276): a read frame sends a dummy byte and the word, most significant byte first; a write frame
writes its word. A frame that starts too early is ignored, and its status byte reads 0xFF (R493). -/
def Obligations.SpiFramesActAsAccesses : Prop :=
  (∀ (h : Word) (s : State), s.ok → s.sys.mode ≠ .off → h.bit 31 = true → h.bits 25 6 = 0 → h.bits 0 18 % 4 = 0 →
      s.flag F.HIF_CFG_SPI_CRC = false →
    ∃ t u v, exec (.spiReadFrame { early := false, word := h }) s = .next t ∧ exec (.readClear .spi (h.bits 0 18) .word) s.spiBegin = .next u
      ∧ u.ans.read = some v ∧ t.ans.spi = List.replicate 4 s.spiStatus ++ 0 :: beBytes 4 v
      ∧ t = { u with ans := t.ans } ∧ t.ans.read = s.ans.read)
  ∧ (∀ (h v : Word) (crc : Nat) (s : State), s.sys.mode ≠ .off → h.bit 31 = false → h.bits 25 6 = 0 → h.bits 0 18 % 4 = 0 →
      s.flag F.HIF_CFG_SPI_CRC = false →
    ∃ t, exec (.spiWriteFrame { early := false, word := h } [v] crc) s = .next t
      ∧ exec (.registerWrite .spi (h.bits 0 18) (.word v)) s.spiBegin = .next t)
  ∧ (∀ (h : Word) (ws : List Word) (crc : Nat) (s : State), s.ok → s.sys.mode ≠ .off → h.bit 31 = false →
      s.flag F.HIF_CFG_SPI_CRC = true → crc ≠ frameCrc h (ws.map BitVec.toNat) →
    ∃ t, exec (.spiWriteFrame { early := false, word := h } ws crc) s = .next t ∧ t.hif.spiCrcErr = true
      ∧ t.get F.HIF_SPI_CRC_CNT_COUNT = min (s.get F.HIF_SPI_CRC_CNT_COUNT + 1) 0xFFFFFFFF
      ∧ s.onlyWords t [R.HIF_SPI_CRC_CNT] ∧ s.onlyIn t [.regs, .hif, .ans])
  ∧ (∀ (h : Word) (ws : List Word) (crc : Nat) (s : State), s.sys.mode ≠ .off →
    ∃ t, (if h.bit 31 then exec (.spiReadFrame { early := true, word := h }) s
          else exec (.spiWriteFrame { early := true, word := h } ws crc) s) = .next t
      ∧ t = { s with ans := { s.ans with spi := [0xFF, 0xFF, 0xFF, 0xFF] } })
/-! Rings (chapter 11) -/

/-- Setting EN of a ring with a legal size and a base enables it, with both indices 0 and PHASE 1 (R289, R288); while it is 1 such a
write changes no register. Clearing EN clears that bit alone, and the ring drains: ACTIVE clears after its DMA in flight.
HIF_RCTRL.EN is set where both line addresses stand (R290): every ring's indices are 0, staged telemetry and trace are discarded,
results stay and no alarm is lost; clearing it changes that bit alone. -/
def Obligations.RingsStartAndStop : Prop :=
  (∀ (p : Port) (r : Nat) (v : Word) (s : State), s.ok → s.portOpen = true → r < 19 → s.flag (F.HIF_RCFG_EN r) = false →
      v.bit 0 = true → 6 ≤ v.bits 1 5 → v.bits 1 5 ≤ 16 →
      (s.get (F.HIF_RBASELO_ADDR r) ≠ 0 ∨ s.get (F.HIF_RBASEHI_ADDR r) ≠ 0) →
    ∃ t, exec (.ringEnable p r v) s = .next t ∧ t.flag (F.HIF_RCFG_EN r) = true ∧ t.ringSize r = 2 ^ v.bits 1 5
      ∧ (t.ring r).active = true ∧ (t.ring r).idx = 0 ∧ (t.ring r).host = 0 ∧ (t.ring r).phase = true
      ∧ (∀ q, q ≠ r → t.ring q = s.ring q) ∧ t.hif = { s.hif with rings := t.hif.rings }
      ∧ s.onlyWords t [R.HIF_RCFG r] ∧ s.onlyIn t [.regs, .hif, .sec])
  ∧ (∀ (p : Port) (r : Nat) (v : Word) (s : State), s.portOpen = true → s.flag (F.HIF_RCFG_EN r) = true → v.bit 0 = true →
    ∃ t, exec (.ringEnable p r v) s = .next t ∧ s.onlyIn t [.sec])
  ∧ (∀ (p : Port) (r : Nat) (v : Word) (s : State), s.ok → s.portOpen = true → r < 19 → s.flag (F.HIF_RCFG_EN r) = true →
      v.bit 0 = false →
    ∃ t, exec (.ringDisable p r v) s = .next t ∧ t.word (R.HIF_RCFG r) = setBits (s.word (R.HIF_RCFG r)) 0 1 0
      ∧ t.flag (F.HIF_RCFG_EN r) = false ∧ s.onlyWords t [R.HIF_RCFG r] ∧ s.onlyIn t [.regs, .sec])
  ∧ (∀ (r : Nat) (s : State), s.ok → r < 19 → s.flag (F.HIF_RCFG_EN r) = false →
    ∃ t, exec (.ringDrained r) s = .next t ∧ t.ring r = { s.ring r with active := false } ∧ (∀ q, q ≠ r → t.ring q = s.ring q)
      ∧ t.hif = { s.hif with rings := t.hif.rings } ∧ s.onlyIn t [.hif])
  ∧ (∀ (p : Port) (v : Word) (s : State), s.ok → s.portOpen = true → v.bit 0 = true → s.flag F.HIF_RCTRL_EN = false →
      s.lineAddrs = true →
    ∃ t, exec (.ringEngineEnable p v) s = .next t ∧ t.flag F.HIF_RCTRL_EN = true
      ∧ (∀ r, (t.ring r).idx = 0 ∧ (t.ring r).host = 0 ∧ (t.ring r).phase = true)
      ∧ t.hif.tele = [] ∧ t.hif.trace = [] ∧ t.hif.results = s.hif.results ∧ s.hif.alarms.length ≤ t.hif.alarms.length
      ∧ s.onlyIn t [.regs, .hif, .sec])
  ∧ (∀ (p : Port) (v : Word) (s : State), s.ok → s.portOpen = true → v.bit 0 = false →
    ∃ t, exec (.ringEngineEnable p v) s = .next t ∧ t.word R.HIF_RCTRL = setBits (s.word R.HIF_RCTRL) 0 1 0
      ∧ s.onlyWords t [R.HIF_RCTRL] ∧ s.onlyIn t [.regs, .sec])

/-- A sweep issues one read of the doorbell line, unless one is outstanding, and takes HIF_TRACE and HIF_SWEEP (R292, R294, R314). The line that arrives gives
every enabled ring its host index, or stops the ring with ERRC 5 where the index is not legal (R291). -/
def Obligations.DoorbellLineGivesTheHostIndices : Prop :=
  (∀ s : State, s.ringEngine = true → 400 * s.hif.sweep.bits 0 8 ≤ elapsed s.hif.dbAt s.now →
    exec .doorbellSweep s = .next { s with hif := { s.hif with
      dbAt := s.now, kinds := (s.word R.HIF_TRACE).bits 0 4, sweep := s.word R.HIF_SWEEP,
      dbReads := if s.hif.dbReads = 0 then 1 else s.hif.dbReads } })
  ∧ (∀ (line : DoorbellLine) (s : State), s.ok → s.ringEngine = true → s.hif.dbReads ≠ 0 →
    ∃ t, exec (.doorbellReadDone line) s = .next t ∧ t.hif.dbReads = s.hif.dbReads - 1 ∧ t.hif.dbLast = some line
      ∧ (∀ r, r < 19 → s.ringLive r = false → t.ring r = s.ring r)
      ∧ (∀ r, r < 19 → s.ringLive r = true → s.indexOk r (line.idx.getD r 0) = true →
          (t.ring r).host = line.idx.getD r 0 ∧ (t.ring r).idx = (s.ring r).idx ∧ (t.ring r).err = false)
      ∧ (∀ r, r < 19 → s.ringLive r = true → s.indexOk r (line.idx.getD r 0) = false →
          (t.ring r).err = true ∧ (t.ring r).errc = 5 ∧ (t.ring r).host = (s.ring r).host)
      ∧ s.onlyIn t [.regs, .hif])

/-- The status line carries the indices, the mode and the flags, with HEARTBEAT one more (R293, R295, Table 11.3; the value after
its increment is log entry 33). A record goes into the slot at the ring's index with the ring's PHASE, and the index advances (R286,
R288): the oldest alarm first (R307), and a GAP record where one is owed (R306). -/
def Obligations.DeviceWritesOfTheRingEngine : Prop :=
  (∀ s : State, s.ok → s.statusDue = true →
    ∃ t, exec .statusLineWrite s = .next t
      ∧ t.hif.tlps = .status (statusWords (s.lineView s.sys.mode.code) ((s.hif.hbCtr + 1) % 2 ^ 32) s.now) :: s.hif.tlps
      ∧ t.hif.hbCtr = (s.hif.hbCtr + 1) % 2 ^ 32 ∧ t.hif.reported = s.lineView s.sys.mode.code ∧ t.hif.stAt = s.now
      ∧ t.hif.rings = s.hif.rings ∧ s.onlyWords t [] ∧ s.onlyIn t [.regs, .hif, .evc])
  ∧ (∀ (a : Alarm) (l : List Alarm) (s : State), s.ok → s.ringEngine = true → s.hif.alarms = a :: l → s.ringRoom 17 = true →
    ∃ t ws, exec .recordWrite s = .next t ∧ t.hif.alarms = l
      ∧ t.hif.tlps = .record 17 (s.ring 17).idx ws (.alarm a) :: s.hif.tlps
      ∧ ws.drop 1 = (alarmWords a).drop 1 ∧ (ws.headD 0).bit 31 = (s.ring 17).phase
      ∧ (t.ring 17).idx = ((s.ring 17).idx + 1) % s.ringSize 17 ∧ (∀ q, q ≠ 17 → t.ring q = s.ring q) ∧ s.onlyIn t [.hif])
  ∧ (∀ (r : Nat) (g : Gap) (s : State), s.ok → 13 ≤ r → r < 19 → r ≠ 17 → s.gapDue r = true → s.gapOf r = some g →
    ∃ t ws, exec (.gapRecord r) s = .next t ∧ t.hif.tlps = .record r (s.ring r).idx ws (.gap g) :: s.hif.tlps
      ∧ ws.drop 1 = (gapWords r g).drop 1 ∧ (ws.headD 0).bit 31 = (s.ring r).phase
      ∧ (t.ring r).idx = ((s.ring r).idx + 1) % s.ringSize r ∧ t.hif.gapDone = true
      ∧ (∀ q, q ≠ r → t.ring q = s.ring q) ∧ t.hif.alarms = s.hif.alarms ∧ s.onlyIn t [.hif])

/-- A quadrant is asked to run where a condition of R34 needs it, and the doorbell line is read (R38); its clock runs 40 ns later (R29,
R37) and stops 1 µs after the last condition ended (R36). The latency tolerance that the device reports follows the quadrants' clocks
(R273; the tolerance in SETUP and the other modes that R273 does not name is log entry 50). -/
def Obligations.QuadrantClocksFollowTheirWork : Prop :=
  (∀ (q : Nat) (s : State), s.ok → s.ungateDue q = true → s.regs.same.gates.contains q = false →
    ∃ t, exec (.quadrantUngate q) s = .next t ∧ t.clk = { s.clk with qreq := setAt s.clk.qreq q (some s.now) }
      ∧ t.hif = { s.hif with dbReads := s.hif.dbReads + (if s.ringEngine = true then 1 else 0) } ∧ s.onlyIn t [.clk, .hif])
  ∧ (∀ (q : Nat) (a : Tb) (s : State), s.ok → q < 4 → s.clk.qreq.getD q none = some a →
    (32 ≤ elapsed a s.now → s.tickQuads.clk.qrun.getD q false = true)
      ∧ (elapsed a s.now < 32 → s.tickQuads.clk.qrun.getD q false = s.clk.qrun.getD q false ∧ s.tickQuads.clk.qreq.getD q none = some a))
  ∧ (∀ (q : Nat) (s : State), s.ok → q < 4 → s.gateDue q = true →
    ∃ t, exec (.quadrantGateClose q) s = .next t ∧ t.clk.qrun.getD q false = false
      ∧ (∀ j, j ≠ q → t.clk.qrun.getD j false = s.clk.qrun.getD j false)
      ∧ t.clk = { s.clk with qrun := t.clk.qrun, qidle := t.clk.qidle } ∧ s.onlyWords t [] ∧ s.onlyIn t [.clk, .regs])
  ∧ (∀ s : State, (s.clk.qrun.any id = true → s.latencyTolerance = 100) ∧ (s.clk.qrun.any id = false → s.latencyTolerance = 3000))
/-! The host link (chapter 10) -/

/-- A Function Level Reset puts configuration space at its reset values, disables the ring engine and ends a PCIe session; the rings,
the ring set-up and every other register stay (R266, R432, Table 10.3). PERST_N and a hot reset do so too, and take the data link out of
DL_Active, which is counted (R266, R267). -/
def Obligations.HostResetsDisableTheRingEngine : Prop :=
  (∀ s : State, s.ok →
    ∃ t, exec .functionLevelReset s = .next t ∧ t.flag F.HIF_RCTRL_EN = false
      ∧ t.hif.bme = false ∧ t.hif.msixEn = false ∧ t.hif.fmask = false ∧ t.hif.d3 = false ∧ t.hif.ctl = PciCtl.initial
      ∧ t.hif.rings = s.hif.rings ∧ t.hif.up = s.hif.up
      ∧ (s.sec.port = .pcie → t.sec.role = 0) ∧ (s.sec.port = .spi → t.sec = s.sec)
      ∧ (∀ a, a < 0x1F000 ∨ 0x1F080 ≤ a →
          a ∉ [R.HIF_RCTRL, R.SEC_JLOST_CNT, R.HIF_ALMCNT 30, R.HIF_REPEAT_CNT, R.HIF_ALM_HIGH] → t.word a = s.word a)
      ∧ s.onlyIn t [.regs, .hif, .sec])
  ∧ (∀ (c : Instr) (s : State), s.ok → c = .perstAssert ∨ c = .hotReset →
      (s.sys.mode = .half ∨ s.sys.mode = .full ∨ s.sys.mode = .suspect → s.planOn = true) →
    ∃ t, exec c s = .next t ∧ t.flag F.HIF_RCTRL_EN = false ∧ t.hif.up = false
      ∧ t.hif.bme = false ∧ t.hif.msixEn = false ∧ t.hif.fmask = false ∧ t.hif.d3 = false ∧ t.hif.ctl = PciCtl.initial
      ∧ (c = .perstAssert → t.hif.perst = true)
      ∧ (s.hif.up = true → t.hif.tlps = [] ∧ t.get F.HIF_LINKDN_CNT_COUNT = min (s.get F.HIF_LINKDN_CNT_COUNT + 1) 0xFFFFFFFF)
      ∧ (s.hif.up = false → t.hif.rings = s.hif.rings ∧ t.sys = s.sys)
      ∧ (s.sec.port = .pcie → t.sec.role = 0) ∧ (s.sec.port = .spi → t.sec = s.sec)
      ∧ (∀ a, a < 0x1F000 ∨ 0x1F080 ≤ a →
          a ∉ [R.HIF_RCTRL, R.SEC_JLOST_CNT, R.HIF_ALMCNT 30, R.HIF_ALMCNT 15, R.HIF_ALMCNT 16, R.HIF_REPEAT_CNT, R.HIF_ALM_HIGH,
            R.HIF_LINKDN_CNT, R.HIF_TQLOST_CNT, R.HIF_XQLOST_CNT] → t.word a = s.word a)
      ∧ s.onlyIn t [.regs, .hif, .sec, .sys, .freeCtr])

/-- The data link leaves DL_Active: it is counted, a PCIe session ends, and fallback cause 1 is raised (R267, R432, R416). It comes
back with its speed and width, and withheld messages go out. Bus Master Enable, D0 and the control registers follow configuration space, PERST_N's release
lets WAKE_N go (R266, R272). The identities, the class code and the absent BARs read as R479 and R261 fix them, and IO31 carries CLKREQ#
only where HIF_CFG.CLKREQ_EN claims it (R271). -/
def Obligations.DataLinkAndConfigurationSpace : Prop :=
  (∀ (n : Nat) (s : State), s.ok → s.hif.up = true →
      (s.sys.mode = .half ∨ s.sys.mode = .full ∨ s.sys.mode = .suspect → s.planOn = true) →
    ∃ t, exec (.dataLinkDown n) s = .next t ∧ t.hif.up = false ∧ t.hif.tlps = []
      ∧ t.get F.HIF_LINKDN_CNT_COUNT = min (s.get F.HIF_LINKDN_CNT_COUNT + 1) 0xFFFFFFFF
      ∧ (s.sec.port = .pcie → t.sec.role = 0)
      ∧ (s.sys.mode = .armed ∨ s.sys.mode = .seek ∨ s.sys.mode = .safestop → t.sys = { s.sys with fbPend := true, fbCause := 1 })
      ∧ (s.sys.mode = .half ∨ s.sys.mode = .full ∨ s.sys.mode = .suspect → t.sys.fbFlag = true)
      ∧ (s.sys.mode = .setup → t.sys = s.sys) ∧ s.onlyIn t [.regs, .hif, .sec, .sys])
  ∧ (∀ (sp w : Nat) (s : State), s.ok → s.hif.up = false → s.hif.perst = false → s.hif.cold = false →
      1 ≤ sp → sp ≤ 4 → 1 ≤ w → w ≤ 2 →
    ∃ t, exec (.dataLinkUp sp w) s = .next t ∧ t.hif.up = true ∧ t.hif.speed = sp ∧ t.hif.width = w
      ∧ t.hif.rings = s.hif.rings ∧ s.onlyIn t [.hif, .evc])
  ∧ (∀ s : State, exec (.busMasterDisable false) s = .next { s with hif := { s.hif with bme := false, dbReads := 0 } })
  ∧ (∀ s : State, s.ok →
    ∃ t, exec (.busMasterDisable true) s = .next t ∧ t.hif.d3 = true ∧ t.hif.bme = s.hif.bme ∧ t.hif.dbReads = 0
      ∧ (s.sec.port = .pcie → t.sec.role = 0) ∧ s.onlyIn t [.regs, .hif, .sec])
  ∧ (∀ (off : Nat) (c : PciCtl) (s : State), s.unreached .pcie = false →
    exec (.registerWrite .pcie off (.control c)) s = .next { s with hif := { s.hif with ctl := c } })
  ∧ (∀ s : State, s.ok →
    ∃ t, exec .busMasterEnable s = .next t ∧ t.hif.bme = (s.hif.bme || !s.hif.d3) ∧ t.hif.d3 = false ∧ t.hif.ctl = s.hif.ctl
      ∧ (t.hif.bme = true → s.hif.up = true → s.hif.msixEn = true → (∀ v, s.vecMasked v = false) →
          ∀ v, v < 4 → (t.tgt v).msgHeld = false)
      ∧ s.onlyIn t [.hif, .evc])
  ∧ (∀ s : State, exec .perstDeassert s = .next { s with hif := { s.hif with perst := false }, sys := { s.sys with wakeN := false } })
  ∧ (∀ s : State, s.configWord 0x00 = some (0x1F5A + s.part.device * 65536) ∧ s.configWord 0x2C = s.configWord 0x00
      ∧ (s.configWord 0x08).map (fun x => x / 256) = some 0x118000 ∧ (∀ n, n < 4 → s.configWord (0x18 + 4 * n) = some 0)
      ∧ (s.clkreq.isSome = true ↔ s.flag F.HIF_CFG_CLKREQ_EN = true))

/-- A failed DMA request on a ring's memory stops that ring with its cause, one on the doorbell or status line stops every enabled
ring; HIF_DMAERR keeps the first failure until its VALID is cleared (R269). A vector that is unmasked, MSI-X Enable set or Function Mask
cleared sends the message that was withheld, once (R265). -/
def Obligations.DmaFailuresAndWithheldMessages : Prop :=
  (∀ (ring cause : Nat) (s : State), s.ok → s.ringEngine = true → cause < 8 → ring < 32 → (ring < 19 → s.ringLive ring = true) →
    ∃ t, exec (.dmaFailure ring cause) s = .next t
      ∧ (ring < 19 → (t.ring ring).err = true ∧ (t.ring ring).errc = cause ∧ ∀ q, q ≠ ring → t.ring q = s.ring q)
      ∧ (19 ≤ ring → ∀ q, q < 19 → s.ringLive q = true → (t.ring q).err = true ∧ (t.ring q).errc = cause)
      ∧ (19 ≤ ring → ∀ q, q < 19 → s.ringLive q = false → t.ring q = s.ring q)
      ∧ (s.flag F.HIF_DMAERR_VALID = false → t.get F.HIF_DMAERR_RING = ring ∧ t.get F.HIF_DMAERR_CAUSE = cause ∧ t.flag F.HIF_DMAERR_VALID = true)
      ∧ (s.flag F.HIF_DMAERR_VALID = true → t.word R.HIF_DMAERR = s.word R.HIF_DMAERR)
      ∧ s.onlyIn t [.regs, .hif])
  ∧ (∀ (v : Nat) (s : State), s.ok → v < 4 → s.sys.mode.barOpen = true → s.msixOut = true → s.hif.fmask = false →
    ∃ t, exec (.msixUnmask v) s = .next t ∧ (t.word (msixControl v)).bit 0 = false
      ∧ (s.hif.vecPend.getD v false = true →
          t.hif.tlps = .msix v :: s.hif.tlps ∧ t.hif.vecPend.getD v false = false ∧ (t.tgt v).msgHeld = false)
      ∧ (s.hif.vecPend.getD v false = false → t.hif = s.hif ∧ t.evc = s.evc)
      ∧ s.onlyWords t [msixControl v] ∧ s.onlyIn t [.regs, .hif, .evc])
  ∧ (∀ s : State, s.ok →
    ∃ t, exec .msixEnable s = .next t ∧ t.hif.msixEn = true ∧ t.hif.fmask = s.hif.fmask
      ∧ (s.hif.fmask = false → s.hif.bme = true → s.hif.up = true → s.hif.d3 = false →
          (∀ v, (s.word (msixControl v)).bit 0 = false) → ∀ v, v < 4 → (t.tgt v).msgHeld = false)
      ∧ s.onlyIn t [.hif, .evc])
  ∧ (∀ (off : Nat) (enable mask : Bool) (s : State), s.ok → s.unreached .pcie = false →
    ∃ t, exec (.registerWrite .pcie off (.msix enable mask)) s = .next t ∧ t.hif.msixEn = enable ∧ t.hif.fmask = mask
      ∧ (enable = true → mask = false → s.hif.bme = true → s.hif.up = true → s.hif.d3 = false →
          (∀ v, (s.word (msixControl v)).bit 0 = false) → ∀ v, v < 4 → (t.tgt v).msgHeld = false)
      ∧ s.onlyIn t [.hif, .evc])
/-! The wheel tracker and the angle clock (chapters 2 and 3) -/

/-- An edge of the direction that CRK_EDGE does not select changes nothing (R39). A crank pulse shorter than MINW is counted and goes no further (R41). Without a pending provisional edge an edge whose ratio
lies below TW_LO is rejected and counted, and nothing of the tracker moves (R48); one in the NORMAL window moves the tracker to the
next tooth, and its interval is the new U1 (R43, R67, R69). -/
def Obligations.CrankEdgesMoveTheTracker : Prop :=
  (∀ (x : CrankStamp) (width peak : Nat) (s : State), s.flag F.WHL_CTRL_CRK_EDGE ≠ x.rising →
    exec (.crankEdge x width peak) s = .next s)
  ∧ (∀ (x : CrankStamp) (width peak : Nat) (s : State), s.ok → s.flag F.WHL_CTRL_CRK_EDGE = x.rising → s.tracking = true →
      s.flag F.WHL_CTRL_CRK_MODE = false → width < s.get F.WHL_MINW_MINW * 8 →
    ∃ t, exec (.crankEdge x width peak) s = .next t
      ∧ t.get F.WHL_GLITCH_CNT_COUNT = min (s.get F.WHL_GLITCH_CNT_COUNT + 1) 0xFFFF
      ∧ s.onlyWords t [R.WHL_GLITCH_CNT] ∧ t.sys = { s.sys with idleSince := none } ∧ s.onlyIn t [.regs, .sys])
  ∧ (∀ (x : CrankStamp) (width peak : Nat) (l : Tb) (s : State), s.ok → s.flag F.WHL_CTRL_CRK_EDGE = x.rising →
      s.tracking = true → s.flag F.WHL_CTRL_CRK_MODE = false →
      s.get F.WHL_MINW_MINW * 8 ≤ width → s.clockRuns = true → s.whl.prov = none → s.whl.last = some l →
      ratio (elapsed l x.t) s.ang.p < s.twLo s.whl.crankSet →
    ∃ t, exec (.crankEdge x width peak) s = .next t
      ∧ t.get F.WHL_REJ_CNT_COUNT = min (s.get F.WHL_REJ_CNT_COUNT + 1) 0xFFFF ∧ s.onlyIn t [.regs, .sys, .hif])
  ∧ (∀ (x : CrankStamp) (width peak : Nat) (l : Tb) (s : State), s.ok → s.flag F.WHL_CTRL_CRK_EDGE = x.rising →
      s.tracking = true → s.flag F.WHL_CTRL_CRK_MODE = false →
      s.get F.WHL_MINW_MINW * 8 ≤ width → s.clockRuns = true → s.whl.prov = none → s.whl.last = some l →
      s.flag F.WHL_CAMREF_REF_EN = false → s.atGap = false →
      s.classKnown false (ratio (elapsed l x.t) s.ang.p) = .normal →
    ∃ t, exec (.crankEdge x width peak) s = .next t ∧ t.whl.pos = s.whl.pos + 1 ∧ t.whl.last = some x.t ∧ t.whl.stamp = some x.t
      ∧ t.whl.sync = s.whl.sync ∧ t.ang.u2 = s.ang.u1
      ∧ t.ang.u1 = normU (elapsed l x.t) (s.weight .normal (s.whl.pos + 1) s.whl.rev))

/-- An edge before the time base runs is stamped on the AON clock and counted (R42). An enabled cam edge of the wanted direction and
width is captured with its time and angle, in the order of the cycle's edges (R40, R60). -/
def Obligations.CoarseAndCamEdgesAreCaptured : Prop :=
  (∀ s : State, s.ok → s.clk.tbRun = false → s.sys.mode ≠ .off →
    ∃ t, exec .coarseEdge s = .next t ∧ t.whl = { s.whl with coarse := true }
      ∧ t.get F.WHL_COARSE_CNT_COUNT = min (s.get F.WHL_COARSE_CNT_COUNT + 1) 0xFFFF
      ∧ (s.whl.coarse = false → t.get F.WHL_COARSE_STAMP_AON = s.clk.aon % 2 ^ 32)
      ∧ (s.whl.coarse = true → t.get F.WHL_COARSE_STAMP_AON = s.get F.WHL_COARSE_STAMP_AON)
      ∧ s.onlyIn t [.regs, .hif, .whl])
  ∧ (∀ (n : Nat) (falling : Bool) (stamp : Tb) (width peak : Nat) (s : State), s.ok → n < 4 → s.flag (F.WHL_CAMCFG_EN n) = true →
      s.camUsable n = true → s.sys.mode.operating = true → s.clk.tbRun = true → s.testing 1 = false →
      (n = 0 → s.flag (F.WHL_CAMCFG_VR 0) = false) → s.get (F.WHL_CAMCFG_MINW n) * 8 ≤ width →
      s.get (F.WHL_CAMCFG_EDGE n) = (if falling then 1 else 0) → s.flag F.WHL_CAMREF_REF_EN = false →
      s.clockRuns = true → s.whl.camK.getD n 0 ≤ s.get (F.WHL_CAMCFG_EDGES n) →
    ∃ t, exec (.camEdge n falling stamp width peak) s = .next t
      ∧ t.word (R.WHL_CAM_TIM n (s.whl.camK.getD n 0)) = Word.ofN stamp.toNat
      ∧ (t.word (R.WHL_CAM_ANG n (s.whl.camK.getD n 0))).bits 0 22 = s.ang.at' % 2 ^ 22
      ∧ t.whl = { s.whl with camK := setAt s.whl.camK n (s.whl.camK.getD n 0 + 1) }
      ∧ s.onlyWords t [R.WHL_CAM_ANG n (s.whl.camK.getD n 0), R.WHL_CAM_TIM n (s.whl.camK.getD n 0)] ∧ s.onlyIn t [.regs, .whl])

/-- A stall returns the tracker to its idle state, and a device from ARMED to SUSPECT to ARMED (R53, R55, Table 2.3). SYNC_RESET by
the installer starts SEEK and its learning anew (Table 2.3, R63). The clock waits at the angle before the next expected tooth (R74);
in its run from 2,949,119 at it passes to 0 at, the cycle tag counts one and captures restart (R77, R60). -/
def Obligations.StallsClampsAndWraps : Prop :=
  (∀ s : State, s.ok → s.stallDue = true →
    ∃ t, exec .stall s = .next t ∧ t.whl.sync = .idle ∧ t.whl.last = none ∧ t.whl.prov = none ∧ t.whl.pos = 0
      ∧ t.whl.stamp = s.whl.stamp
      ∧ (s.sys.mode.engine = true → t.sys.mode = .armed) ∧ (s.sys.mode.engine = false → t.sys.mode = s.sys.mode))
  ∧ (∀ (p : Port) (v : Word) (s : State), s.ok → s.portOpen = true → s.crankUsable = true → s.isInstaller p = true → v.bit 3 = true →
      s.follower = false → s.whl.sync ≠ .idle →
    ∃ t, exec (.syncReset p v) s = .next t ∧ t.whl.sync = .seek ∧ t.whl.last = none ∧ t.whl.prov = none ∧ t.whl.stamp = s.whl.stamp
      ∧ t.whl.learned = false ∧ t.whl.ints = [])
  ∧ (∀ s : State, s.ok → s.clampDue = true →
    ∃ t, exec .clockClamp s = .next t ∧ t.ang = { s.ang with clamped := true, frac := 0 }
      ∧ t.get F.WHL_CLAMP_CNT_COUNT = min (s.get F.WHL_CLAMP_CNT_COUNT + 1) 0xFFFF
      ∧ s.onlyWords t [R.WHL_CLAMP_CNT] ∧ s.onlyIn t [.regs, .ang])
  ∧ (∀ s : State, s.clockRuns = true → s.ang.clamped = false → s.ang.at' = 2949119 → s.ang.next ≠ 0 →
    ∃ t, exec .cycleWrap s = .next t ∧ t.ang = { s.ang with at' := 0, frac := 0, tag := (s.ang.tag + 1) % 256 }
      ∧ t.whl.camK = List.replicate 4 0 ∧ t.whl.sync = s.whl.sync ∧ t.whl.pos = s.whl.pos
      ∧ s.onlyIn t [.sys, .whl, .ang, .adc, .tmrs])

/-- WHL_TERR_DATA reads or writes the entry at WHL_TERR_IDX, in both copies, clamped to its range (R81), and the index advances (R85); CLEAR_TERR and CLEAR_TORS
put every entry of a table at 1.0 in both copies (R86); ERR_RESTART restarts the extremes (R87). A read of WHL_ANGLE answers the
clock's angle and latches the time base (R88); one of WHL_STAMP_LO answers the low word of the last accepted stamp and latches the
high byte (R63). -/
def Obligations.WheelTablesAndLatchingReads : Prop :=
  (∀ (p : Port) (s : State), s.ok → s.portOpen = true →
    ∃ t, exec (.terrDataAccess p none) s = .next t ∧ t.get F.WHL_TERR_IDX_IDX = (s.get F.WHL_TERR_IDX_IDX + 1) % 512
      ∧ (s.terrThere (s.get F.WHL_TERR_IDX_IDX) = true →
          t.ans.read = some ((s.word (terrAddr (s.get F.WHL_TERR_IDX_IDX))).toNat % 65536))
      ∧ s.onlyWords t [R.WHL_TERR_IDX] ∧ s.onlyIn t [.regs, .sec, .ans])
  ∧ (∀ (p : Port) (v : Word) (s : State), s.ok → s.portOpen = true → s.isInstaller p = true →
      s.terrThere (s.get F.WHL_TERR_IDX_IDX) = true →
    ∃ t, exec (.terrDataAccess p (some v)) s = .next t ∧ t.get F.WHL_TERR_IDX_IDX = (s.get F.WHL_TERR_IDX_IDX + 1) % 512
      ∧ t.word (terrAddr (s.get F.WHL_TERR_IDX_IDX)) = terrD (s.get F.WHL_TERR_IDX_IDX) v
      ∧ t.shadowWord (terrAddr (s.get F.WHL_TERR_IDX_IDX)) = terrD (s.get F.WHL_TERR_IDX_IDX) v ∧ s.onlyIn t [.regs, .sec])
  ∧ (∀ (p : Port) (v : Word) (s : State), s.ok → s.portOpen = true → s.crankUsable = true → s.isInstaller p = true → v.bit 4 = true →
    ∃ t, exec (.clearTerr p v) s = .next t ∧ (∀ i, i < 120 → t.word (terrAddr i) = 0 ∧ t.shadowWord (terrAddr i) = 0)
      ∧ s.onlyIn t [.regs, .sec, .ang])
  ∧ (∀ (p : Port) (v : Word) (s : State), s.ok → s.portOpen = true → s.crankUsable = true → s.isInstaller p = true → v.bit 5 = true →
    ∃ t, exec (.clearTors p v) s = .next t ∧ (∀ i, i < 240 → t.word (terrAddr (256 + i)) = 0 ∧ t.shadowWord (terrAddr (256 + i)) = 0)
      ∧ s.onlyIn t [.regs, .sec, .ang])
  ∧ (∀ (p : Port) (v : Word) (s : State), s.ok → s.portOpen = true → s.crankUsable = true → v.bit 3 = true →
      s.isInstaller p = true → s.hwWrote R.WHL_ERR_LAST = false →
    ∃ t, exec (.errRestart p v) s = .next t ∧ t.word R.WHL_ERR_MIN = 0 ∧ t.word R.WHL_ERR_MAX = 0
      ∧ s.onlyIn t [.regs, .sec, .ang])
  ∧ (∀ (p : Port) (s : State), s.portOpen = true →
    ∃ t, exec (.angleReadLatch p) s = .next t ∧ t.ans.read = some s.angleWord ∧ t.ang = { s.ang with latch := s.now }
      ∧ s.onlyIn t [.sec, .ang, .ans])
  ∧ (∀ (p : Port) (s : State), s.portOpen = true →
    ∃ t, exec (.stampReadLatch p) s = .next t ∧ t.ans.read = some ((s.whl.stamp.getD 0).toNat % 2 ^ 32)
      ∧ t.whl = { s.whl with stampHi := (s.whl.stamp.getD 0).toNat / 2 ^ 32 } ∧ s.onlyIn t [.sec, .whl, .ans])
/-! Events (chapters 4 and 5) -/

/-- A descriptor whose checks pass enters the store as a waiting event, counted in SCH_ADMIT_CNT; one that fails a check is counted
in SCH_REJ_CNT and answered with the code of the first check that fails, and the store stays (R98). Either way the ring moves past
it (R286). The order of the admission checks and their codes (Table 4.3): ABSENT, BAD_ANCHOR, BAD_PHRASE, QUEUE_FULL. -/
def Obligations.NewIsAdmittedOrRejected : Prop :=
  (∀ (sq : Nat) (d : Descriptor) (s : State), s.ok → s.sqReady sq = true → d.op = 0 → s.admitCheck d 0 = none →
    ∃ t e, exec (.new sq d) s = .next t ∧ t.sch.store = s.sch.store ++ [e]
      ∧ e.ch = d.ch ∧ e.src = sq ∧ e.tag = d.w1 ∧ e.phase = .waiting ∧ e.phrase = d.phrase ∧ e.dur = d.dur
      ∧ (d.tagged = true → e.ang = d.ang ∧ e.ctag = d.ctag)
      ∧ t.get F.SCH_ADMIT_CNT_COUNT = min (s.get F.SCH_ADMIT_CNT_COUNT + 1) 0xFFFFFFFF
      ∧ (t.ring sq).idx = ((s.ring sq).idx + 1) % s.ringSize sq ∧ t.hif.results = s.hif.results ∧ s.onlyIn t [.regs, .hif, .sch])
  ∧ (∀ (sq c : Nat) (d : Descriptor) (s : State), s.ok → s.sqReady sq = true → d.op = 0 → s.admitCheck d 0 = some c →
    ∃ t, exec (.new sq d) s = .next t ∧ t.sch = s.sch
      ∧ t.hif.results = s.hif.results ++ [{ cq := s.get (F.HIF_RCFG_CQ sq), words := shortResult c d.ch sq 0 d.w1 }]
      ∧ t.get F.SCH_REJ_CNT_COUNT = min (s.get F.SCH_REJ_CNT_COUNT + 1) 0xFFFFFFFF
      ∧ (t.ring sq).idx = ((s.ring sq).idx + 1) % s.ringSize sq ∧ s.onlyWords t [R.SCH_REJ_CNT] ∧ s.onlyIn t [.regs, .hif])
  ∧ (∀ (d : Descriptor) (s : State),
    (s.chThere d.ch = false → s.admitCheck d 0 = some 13)
    ∧ (s.chThere d.ch = true → d.anchor = 3 ∨ 2949120 ≤ d.ang ∨ d.dur = 0 → s.admitCheck d 0 = some 15)
    ∧ (s.chThere d.ch = true → d.anchor < 3 → d.ang < 2949120 → 0 < d.dur → d.durAngle = false → s.liveMode d.ch ≠ 4 →
        s.get (F.REED_PDIR_KIND (d.ch / 24) d.phrase) ≠ s.liveMode d.ch → s.admitCheck d 0 = some 14)
    ∧ (s.chThere d.ch = true → d.anchor < 3 → d.ang < 2949120 → 0 < d.dur → d.durAngle = false → s.liveMode d.ch = 4 →
        min (s.get (F.SCH_CHCFG_QMAX d.ch) + 1) 64 ≤ s.depth d.ch → s.admitCheck d 0 = some 16))

/-- CANCEL removes the events of its channel and TAG that have not started, CANCEL_ALL every such event of the channel, and one
result tells their number (R113, R115). REPLACE removes and admits in one step, and where a check fails it removes nothing (R114).
A descriptor does what its OP says (Table 4.2). -/
def Obligations.TagOperationsRemoveUnstartedEvents : Prop :=
  (∀ (sq : Nat) (d : Descriptor) (s : State), s.ok → s.sqReady sq = true → d.op = 2 → s.chThere d.ch = true →
    ∃ t, exec (.cancel sq d) s = .next t
      ∧ t.sch.store = s.sch.store.filter (fun e => e.id ∉ s.matching d false)
      ∧ t.hif.results = s.hif.results
          ++ [{ cq := s.get (F.HIF_RCFG_CQ sq), words := shortResult 0 d.ch sq (s.matching d false).length d.w1 }]
      ∧ (t.ring sq).idx = ((s.ring sq).idx + 1) % s.ringSize sq ∧ s.onlyIn t [.regs, .hif, .sch, .banks, .ink])
  ∧ (∀ (sq : Nat) (d : Descriptor) (s : State), s.ok → s.sqReady sq = true → d.op = 3 → s.chThere d.ch = true →
    ∃ t, exec (.cancelAll sq d) s = .next t
      ∧ t.sch.store = s.sch.store.filter (fun e => e.id ∉ s.matching d true)
      ∧ t.hif.results = s.hif.results
          ++ [{ cq := s.get (F.HIF_RCFG_CQ sq), words := shortResult 0 d.ch sq (s.matching d true).length d.w1 }]
      ∧ (t.ring sq).idx = ((s.ring sq).idx + 1) % s.ringSize sq ∧ s.onlyIn t [.regs, .hif, .sch, .banks, .ink])
  ∧ (∀ (sq : Nat) (d : Descriptor) (s : State), s.ok → s.sqReady sq = true → d.op = 1 →
      s.admitCheck d (s.matching d false).length = none →
    ∃ t e, exec (.replace sq d) s = .next t
      ∧ t.sch.store = s.sch.store.filter (fun e => e.id ∉ s.matching d false) ++ [e]
      ∧ e.ch = d.ch ∧ e.tag = d.w1 ∧ e.phase = .waiting ∧ e.count = (s.matching d false).length
      ∧ s.onlyIn t [.regs, .hif, .sch, .banks, .ink])
  ∧ (∀ (sq c : Nat) (d : Descriptor) (s : State), s.ok → s.sqReady sq = true → d.op = 1 →
      s.admitCheck d (s.matching d false).length = some c →
    ∃ t, exec (.replace sq d) s = .next t ∧ t.sch = s.sch ∧ s.onlyIn t [.regs, .hif])
  ∧ (∀ (sq : Nat) (d : Descriptor) (s : State), s.sqReady sq = false →
    exec (.new sq d) s = .next s ∧ exec (.replace sq d) s = .next s ∧ exec (.cancel sq d) s = .next s ∧ exec (.cancelAll sq d) s = .next s)

/-- A waiting event that is near is released where no check of R143 holds it up, and one that is stale leaves with STALE (R110,
R111, R125). An angle-plus-delay event takes its start time when the clock reaches its anchor (R101). -/
def Obligations.ReleaseAndAnchor : Prop :=
  (∀ (n : Nat) (e : Event) (s : State), s.ok → s.releasable n = some e → s.flag F.INK_CTRL_EN = false →
      s.flag (F.SCH_LIM_EN e.ch) = false → s.flag (F.SCH_BKDUTY_EN (e.ch / 4)) = false →
      (s.projStart (s.prepared e) < 0 → s.isStale (s.prepared e) 0 = false) → s.threadsTaken (s.prepared e) = false →
    ∃ t, exec (.eventRelease n) s = .next t
      ∧ t.sch.store = s.sch.store.map (fun x => if x.id == e.id then { s.prepared e with phase := .released } else x)
      ∧ t.sch.chans = s.sch.chans ∧ s.onlyIn t [.regs, .hif, .sch])
  ∧ (∀ (n : Nat) (e : Event) (s : State), s.ok → s.releasable n = some e → s.projStart (s.prepared e) < 0 →
      s.isStale (s.prepared e) 0 = true → s.hif.results.length < 512 →
    ∃ t, exec (.eventRelease n) s = .next t ∧ t.sch.store = s.sch.store.filter (fun x => x.id != e.id)
      ∧ t.get F.SCH_STALE_CNT_COUNT = min (s.get F.SCH_STALE_CNT_COUNT + 1) 0xFFFFFFFF
      ∧ s.onlyIn t [.regs, .hif, .sch, .banks, .ink])
  ∧ (∀ (n : Nat) (s : State), s.clockRuns = true →
    ∃ t, exec (.anchorAngleReached n) s = .next t ∧ t.sch.store.length = s.sch.store.length
      ∧ (∀ i (h : i < s.sch.store.length) (k : i < t.sch.store.length), let e := s.sch.store[i]
          if e.ch = n ∧ e.unstarted = true ∧ e.anchor = 2 ∧ e.start = .angle ∧ s.halfHold e = false ∧ s.anchorDist e ≤ 0
          then t.sch.store[i] = { s.halved e with start := .time (tbAdd s.now e.delay) } else t.sch.store[i] = e)
      ∧ t.sch.chans = s.sch.chans ∧ s.onlyIn t [.sch])

/-- EVENT_START completes. The channel's next released event that comes due starts: on a free thread of its bank, thread 0 before thread
1, which runs its phrase from its entry (R126, R128, R150); as a LOG output, with GL's edge to the active level placed at its first
edge (R93, R128), its lateness measured there (R124) and the channel's debt following (R128); or it waits where both threads run (R132).
With merging enabled it goes into its channel's running phrase instead (R137), and one that finds a trip latch leaves with OVER_CURRENT
(R183). While no released event of the channel is due, nothing of the events changes. The lead from the decision to the first edge is
80 ns, and more while the quadrant's clock still has to run (R29, R37). -/
def Obligations.DueEventsStartOrWait : Prop :=
  (∀ (n k : Nat) (e : Event) (s : State), s.ok → n < 96 → s.nextReleased n = some e → (s.bank (n / 4)).waiting = [] →
      s.chMode n ≠ 4 → s.freeThreadOf (n / 4) = some k → s.threadsOn n = [] → s.beyondClamp e = false → s.latched n = false →
      s.baseOf e ≤ 64 → s.isStale e (max (s.lead (n / 24)) (s.baseOf e)) = false →
    ∃ t, exec (.eventStart n) s = .next t
      ∧ (t.thread (n / 4) k).run = true ∧ (t.thread (n / 4) k).ev = e.id ∧ (t.thread (n / 4) k).ch = n
      ∧ (t.thread (n / 4) k).phrase = e.run ∧ (t.thread (n / 4) k).pc = s.get (F.REED_PDIR_ENTRY (n / 24) e.run)
      ∧ (t.thread (n / 4) k).firstEdge = s.stampAt (max (s.lead (n / 24)) (s.baseOf e))
      ∧ (t.thread (n / 4) (1 - k)).run = (s.thread (n / 4) (1 - k)).run ∧ (k = 0 ∨ (s.thread (n / 4) 0).run = true)
      ∧ t.sch.store.length = s.sch.store.length
      ∧ s.onlyIn t [.clk, .regs, .hif, .sch, .banks, .edges, .ink, .cmps])
  ∧ (∀ (n : Nat) (e : Event) (s : State), s.ok → n < 96 → s.nextReleased n = some e → (s.bank (n / 4)).waiting = [] →
      s.chMode n ≠ 4 → s.freeThreadOf (n / 4) = none → s.threadsOn n = [] → s.beyondClamp e = false →
      s.latched n = false → s.baseOf e ≤ 64 → s.isStale e (max (s.lead (n / 24)) (s.baseOf e)) = false →
    ∃ t, exec (.eventStart n) s = .next t ∧ (t.bank (n / 4)).waiting = [e.id]
      ∧ t.sch.store.length = s.sch.store.length ∧ s.onlyIn t [.clk, .regs, .hif, .sch, .banks, .edges, .ink, .cmps])
  ∧ (∀ (n k : Nat) (e : Event) (s : State), s.ok → n < 96 → s.nextReleased n = some e → (s.bank (n / 4)).waiting = [] →
      s.threadsOn n = [k] → s.canMerge e k = true → s.beyondClamp e = false →
    ∃ t, exec (.eventStart n) s = .next t
      ∧ (t.thread (n / 4) k).susEnd = tbAdd (s.stampAt (s.mergeStart e)) (s.durOf e) ∧ (t.thread (n / 4) k).run = true
      ∧ (∀ x ∈ t.sch.store, x.id = e.id → x.phase = .running ∧ x.flags.merged = true)
      ∧ t.get F.SCH_MERGE_CNT_COUNT = min (s.get F.SCH_MERGE_CNT_COUNT + 1) 0xFFFFFFFF
      ∧ s.onlyIn t [.clk, .regs, .hif, .sch, .banks, .edges, .ink, .cmps])
  ∧ (∀ (n : Nat) (e : Event) (s : State), s.ok → n < 96 → s.nextReleased n = some e → (s.bank (n / 4)).waiting = [] →
      s.threadsOn n = [] → s.chFree n = true → s.beyondClamp e = false → s.baseOf e ≤ 64 → s.latched n = true →
      s.hif.results.length < 512 →
    ∃ t, exec (.eventStart n) s = .next t ∧ t.sch.store = s.sch.store.filter (fun x => x.id != e.id)
      ∧ s.onlyIn t [.clk, .regs, .hif, .sch, .banks, .edges, .ink, .cmps])
  ∧ (∀ (n : Nat) (e : Event) (s : State), s.ok → n < 96 → s.nextReleased n = some e → (s.bank (n / 4)).waiting = [] →
      s.chMode n = 4 → s.threadsOn n = [] → s.beyondClamp e = false → s.latched n = false →
      s.baseOf e ≤ 64 → s.isStale e (max (s.lead (n / 24)) (s.baseOf e)) = false →
    ∃ t, exec (.eventStart n) s = .next t
      ∧ ({ at' := s.stampAt (max (s.lead (n / 24)) (s.baseOf e)), gate := .gl n, on := !s.flag (F.SCH_CHCFG_POL n), bank := n / 4,
           thread := none, ev := e.id } : Edge) ∈ t.edges
      ∧ (∀ x ∈ t.sch.store, x.id = e.id → x.phase = .running ∧ x.startT = s.stampAt (max (s.lead (n / 24)) (s.baseOf e))
          ∧ x.durTb = some (s.durOf e) ∧ x.lateTb = (s.lateness e (max (s.lead (n / 24)) (s.baseOf e))).2.toNat)
      ∧ (t.chan n).debt = (s.lateness e (max (s.lead (n / 24)) (s.baseOf e))).2.toNat + e.shift
      ∧ t.sch.store.length = s.sch.store.length
      ∧ s.onlyIn t [.clk, .regs, .hif, .sch, .banks, .edges, .ink, .cmps])
  ∧ (∀ (n : Nat) (s : State), s.ok → n < 96 →
      (s.nextReleased n).all (fun e => (s.bank (n / 4)).waiting.isEmpty && (s.threadsOn n).isEmpty
        && (decide (64 < s.baseOf e) || s.beyondClamp e)) = true →
    ∃ t, exec (.eventStart n) s = .next t ∧ t.sch.store.map (fun x => x.phase) = s.sch.store.map (fun x => x.phase)
      ∧ t.hif = s.hif ∧ t.edges = s.edges ∧ s.onlyIn t [.regs, .sch, .banks, .cmps])

/-- A LOG output ends at its end edge (R93, R127). A thread whose wait for the token runs out ends, and so does the wait of an event
for a thread, both with OVERLAP_TIMEOUT (R132). At its duty cap a channel's running events end their sustain now (R141). -/
def Obligations.EndsThatTheSchedulerDecides : Prop :=
  (∀ (n : Nat) (e : Event) (s : State), s.ok → n < 96 → s.logEndDue n = some e →
    ∃ t, exec (.logEnd n) s = .next t ∧ (∀ x ∈ t.sch.store, x.id = e.id → x.phase = .ended)
      ∧ t.sch.store.length = s.sch.store.length)
  ∧ (∀ (b th : Nat) (s : State), s.ok → b < 24 → th < 2 → s.tokenLate b th = true →
    ∃ t, exec (.tokenWaitTimeout b th) s = .next t ∧ (t.thread b th).run = false
      ∧ s.onlyIn t [.regs, .hif, .sch, .banks, .edges, .ink, .adc, .cmps])
  ∧ (∀ (b th : Nat) (e : Event) (s : State), s.ok → b < 24 → s.tokenLate b th = false → s.threadLate b = some e →
    ∃ t, exec (.tokenWaitTimeout b th) s = .next t
      ∧ t.sch.store = s.sch.store.map (fun x => if x.id == e.id then { x with cause := some 9, phase := .ended, closing := .noWatch } else x)
      ∧ e.id ∉ (t.bank b).waiting
      ∧ t.get F.SCH_OVLTO_CNT_COUNT = min (s.get F.SCH_OVLTO_CNT_COUNT + 1) 0xFFFFFFFF
      ∧ s.onlyIn t [.regs, .hif, .sch, .banks, .ink])
  ∧ (∀ (n th : Nat) (s : State), s.ok → n < 96 → th < 2 → s.capReached false n = true → s.chMode n ≠ 4 →
      (s.thread (n / 4) th).run = true → (s.thread (n / 4) th).ch = n → 0 < tbDiff (s.thread (n / 4) th).susEnd s.now →
    ∃ t, exec (.dutyCapReached false n) s = .next t ∧ (t.thread (n / 4) th).susEnd = s.now
      ∧ (t.thread (n / 4) th).run = true ∧ s.onlyIn t [.regs, .sch, .banks])
/-! Phrases (chapter 6): a legal note issued by thread t of bank b (State.issues) -/

/-- The notes that act on their thread alone (R151, R162, R164, Table 6.4): NOP; LEVEL loads PK and HD; TLOAD loads T0, T1 or LC; BR
jumps where its condition is true; LOOP counts LC down and jumps while it is not zero; SUS_BEGIN opens the sustain section. -/
def Obligations.NotesOnTheirOwnThread : Prop :=
  (∀ (b t : Nat) (s : State), s.ok → s.issues b t Op.nop →
    ∃ u, exec (.noteNop b t) s = .next u ∧ (u.thread b t).pc = s.nextPc b t ∧ (u.thread b t).run = true
      ∧ (u.thread b t).wait = .none ∧ s.onlyIn u [.regs, .sch, .banks, .cmps])
  ∧ (∀ (b t : Nat) (s : State), s.ok → s.issues b t Op.level →
    ∃ u, exec (.level b t) s = .next u ∧ (u.thread b t).pc = s.nextPc b t
      ∧ (u.thread b t).pk = levelVal (s.thread b t) (s.noteOf b t).pkImm (s.noteOf b t).pkSrc (s.thread b t).pk
      ∧ (u.thread b t).hd = levelVal (s.thread b t) (s.noteOf b t).hdImm (s.noteOf b t).hdSrc (s.thread b t).hd
      ∧ s.onlyIn u [.regs, .sch, .banks, .cmps])
  ∧ (∀ (b t : Nat) (s : State), s.ok → s.issues b t Op.tload →
    ∃ u, exec (.tload b t) s = .next u ∧ (u.thread b t).pc = s.nextPc b t
      ∧ ((s.noteOf b t).dst = 0 → (u.thread b t).t0 = timeVal (s.thread b t) (s.noteOf b t) ∧ (u.thread b t).t0At = s.now)
      ∧ ((s.noteOf b t).dst = 1 → (u.thread b t).t1 = timeVal (s.thread b t) (s.noteOf b t) ∧ (u.thread b t).t1At = s.now)
      ∧ (2 ≤ (s.noteOf b t).dst → (u.thread b t).lc = loopVal (s.thread b t) (s.noteOf b t))
      ∧ s.onlyIn u [.regs, .sch, .banks, .cmps])
  ∧ (∀ (b t : Nat) (s : State), s.ok → s.issues b t Op.br →
    ∃ u, exec (.br b t) s = .next u
      ∧ (u.thread b t).pc = (if s.cond b t (s.noteOf b t).ca then (s.noteOf b t).tgt else s.nextPc b t)
      ∧ s.onlyIn u [.regs, .sch, .banks, .cmps])
  ∧ (∀ (b t : Nat) (s : State), s.ok → s.issues b t Op.loop →
    ∃ u, exec (.loop b t) s = .next u ∧ (u.thread b t).lc = (s.thread b t).lc - 1
      ∧ (u.thread b t).pc = (if (s.thread b t).lc ≤ 1 then s.nextPc b t else (s.noteOf b t).tgt)
      ∧ s.onlyIn u [.regs, .sch, .banks, .cmps])
  ∧ (∀ (b t : Nat) (s : State), s.ok → s.issues b t Op.susBegin →
    ∃ u, exec (.susBegin b t) s = .next u ∧ (u.thread b t).pc = s.nextPc b t ∧ (u.thread b t).sus = true
      ∧ (u.thread b t).susPc = s.nextPc b t ∧ s.onlyIn u [.regs, .sch, .banks, .cmps])

/-- The notes that wait (R153, R159, R161, Table 6.4): WAIT_T until its time after the issue, WAIT_A until an angle, WAIT_C and REG
until a condition, whose comparator latches they clear (but one set in the same fabric cycle, R341), WAIT_K until the closing report. -/
def Obligations.NotesThatWait : Prop :=
  (∀ (b t : Nat) (s : State), s.ok → s.issues b t Op.waitT →
    ∃ u, exec (.waitT b t) s = .next u ∧ (u.thread b t).pc = s.nextPc b t
      ∧ (u.thread b t).wait = .time (tbAdd s.now (4 * timeVal (s.thread b t) (s.noteOf b t)))
      ∧ s.onlyIn u [.regs, .sch, .banks, .cmps])
  ∧ (∀ (b t : Nat) (s : State), s.ok → s.issues b t Op.waitA →
    ∃ u, exec (.waitA b t) s = .next u ∧ (u.thread b t).pc = s.nextPc b t
      ∧ (u.thread b t).wait = .angle (angleOff (s.waitRef b t) (angleVal (s.thread b t) (s.noteOf b t))).1
          (angleOff (s.waitRef b t) (angleVal (s.thread b t) (s.noteOf b t))).2 (s.noteOf b t).cb (s.noteOf b t).tgt
      ∧ s.onlyIn u [.regs, .sch, .banks, .cmps])
  ∧ (∀ (b t : Nat) (s : State), s.ok → s.issues b t Op.waitC →
    ∃ u, exec (.waitC b t) s = .next u ∧ (u.thread b t).pc = s.nextPc b t
      ∧ (u.thread b t).wait = .cond (s.noteOf b t).ca (s.noteOf b t).cb (s.noteOf b t).tgt
      ∧ ((s.noteOf b t).ca % 16 = 4 → (s.newBits R.CMP_HVLAT).bit b = false → u.bitOf F.CMP_HVLAT_BK b = false)
      ∧ ((s.noteOf b t).ca % 16 = 5 → (s.newBits R.CMP_HBLAT).bit b = false → u.bitOf F.CMP_HBLAT_BK b = false)
      ∧ s.onlyIn u [.regs, .sch, .banks, .cmps])
  ∧ (∀ (b t : Nat) (s : State), s.ok → s.issues b t Op.waitK →
    ∃ u, exec (.waitK b t) s = .next u ∧ (u.thread b t).pc = s.nextPc b t
      ∧ (u.thread b t).wait = .kink (s.noteOf b t).cb (s.noteOf b t).tgt ∧ s.onlyIn u [.regs, .sch, .banks, .cmps])
  ∧ (∀ (b t : Nat) (s : State), s.ok → s.issues b t Op.reg →
    ∃ u, exec (.reg b t) s = .next u ∧ (u.thread b t).pc = s.nextPc b t
      ∧ (u.thread b t).wait = .reg (s.noteOf b t).chop (s.noteOf b t).ca (s.noteOf b t).cb (s.noteOf b t).tgt
      ∧ s.onlyIn u [.regs, .sch, .banks, .cmps])

/-- A GATE with a placement time to come hands its edge to the placer for that time, and the thread commands the switch; GHV on
without the token is a fault of cause 2, which ends the thread (R154, R156, R174). -/
def Obligations.GatesAreMadeAtTheirPlacementTime : Prop :=
  (∀ (b t : Nat) (p : Tb) (s : State), s.ok → s.issues b t Op.gate → (s.noteOf b t).placed = true →
      (s.noteOf b t).decay = false → (s.noteOf b t).hv = 0 → (s.noteOf b t).hb = 0 → (s.noteOf b t).ls = 2 →
      (s.thread b t).place = some p → 0 < tbDiff p s.now → s.edue b t = false →
    ∃ u, exec (.gate b t) s = .next u
      ∧ u.edges = s.edges ++ [{ at' := p, gate := .gl (s.thread b t).ch, on := true, bank := b, thread := some t,
                                ev := (s.thread b t).ev }]
      ∧ (u.thread b t).pc = s.nextPc b t ∧ (u.thread b t).place = none ∧ (u.thread b t).run = true
      ∧ s.onlyIn u [.regs, .sch, .banks, .edges, .cmps])
  ∧ (∀ (b t : Nat) (s : State), s.ok → s.issues b t Op.gate → (s.noteOf b t).hvOn = true → (s.bank b).token ≠ t + 1 →
      (s.thread b t).claiming = false →
    ∃ u, exec (.gate b t) s = .next u ∧ (u.thread b t).run = false ∧ u.get F.REED_FAULT_CAUSE = 2
      ∧ s.onlyIn u [.regs, .hif, .sch, .banks, .edges, .adc, .cmps])

/-- The bank's boost token (R132, R134, R156, R157): CLAIM takes a free one at once where no first edge is to come, RELEASE gives it
back, a claim made before the first edge is decided at that edge, and the free token goes to the waiting claim. -/
def Obligations.TheTokenHasOneHolder : Prop :=
  (∀ (b t : Nat) (s : State), s.ok → s.issues b t Op.claim → (s.bank b).token = 0 → (s.thread b t).placed = true →
      s.waitsToken b (1 - t) = false →
    ∃ u, exec (.claim b t) s = .next u ∧ (u.bank b).token = t + 1 ∧ (u.thread b t).wait = .none
      ∧ (u.thread b t).pc = s.nextPc b t)
  ∧ (∀ (b t : Nat) (s : State), s.ok → s.issues b t Op.release → (s.bank b).token = t + 1 →
    ∃ u, exec (.release b t) s = .next u ∧ (u.bank b).token = 0 ∧ (u.thread b t).hv = false
      ∧ (u.thread b t).pc = s.nextPc b t)
  ∧ (∀ (b t : Nat) (s : State), s.ok → b < 24 → t < 2 → (s.thread b t).run = true → (s.thread b t).claiming = true →
      tbDiff (s.thread b t).claimAt s.now ≤ 0 → (s.bank b).token = 0 → s.waitsToken b (1 - t) = false →
    ∃ u, exec (.claimDecision b t) s = .next u ∧ (u.bank b).token = t + 1 ∧ (u.thread b t).claiming = false)
  ∧ (∀ (b t : Nat) (s : State), s.ok → b < 24 → t < 2 → (s.bank b).token = 0 → (s.thread b t).run = true →
      (s.thread b t).wait = .claim → s.waitsToken b (1 - t) = false →
    ∃ u, exec (.tokenGrant b) s = .next u ∧ (u.bank b).token = t + 1 ∧ (u.thread b t).wait = .none)

/-- SUS_END puts off what the thread commands, and opens the merge watch where merging is enabled (R164); END frees the thread, and
no event of its chain runs on (R167); MARK stamps the event's mark (R168); SAMPLE opens a window that its quadrant's phrases hold,
and is counted where they do not (R169). -/
def Obligations.SustainMarksAndEnd : Prop :=
  (∀ (b t : Nat) (s : State), s.ok → s.issues b t Op.susEnd → (s.thread b t).place = none → s.edue b t = false →
    ∃ u, exec (.susEnd b t) s = .next u ∧ (u.thread b t).hv = false ∧ (u.thread b t).ls = false
      ∧ (u.thread b t).pc = s.nextPc b t
      ∧ (s.flag (F.SCH_POL_MERGE_EN (s.thread b t).ch) = false → (u.thread b t).sus = false ∧ (u.thread b t).wait = .none)
      ∧ (s.flag (F.SCH_POL_MERGE_EN (s.thread b t).ch) = true →
          (u.thread b t).wait = .sus (tbAdd s.now (s.get (F.SCH_LIM_MERGE_WIN (s.thread b t).ch) * 3200))))
  ∧ (∀ (b t : Nat) (s : State), s.ok → s.issues b t Op.endNote →
    ∃ u, exec (.endNote b t) s = .next u ∧ (u.thread b t).run = false
      ∧ (∀ e ∈ u.sch.store, e.root = (s.thread b t).ev → e.phase ≠ .running) ∧ (u.bank b).token ≠ t + 1)
  ∧ (∀ (b t : Nat) (s : State), s.ok → s.issues b t Op.mark → (s.noteOf b t).rec' = true →
    ∃ u, exec (.mark b t) s = .next u ∧ (u.thread b t).pc = s.nextPc b t
      ∧ (∀ e ∈ u.sch.store, e.id = (s.thread b t).ev →
          if (s.noteOf b t).slot then e.mark1 = some s.now else e.mark0 = some s.now))
  ∧ (∀ (b t : Nat) (s : State), s.ok → s.issues b t Op.sample →
      s.phraseHolds (b / 6) (winTarget (s.noteOf b t).trk (sampleVal (s.thread b t) (s.noteOf b t))) = true →
      (s.noteOf b t).closes = false →
    ∃ u, exec (.sample b t) s = .next u
      ∧ (u.win (winTarget (s.noteOf b t).trk (sampleVal (s.thread b t) (s.noteOf b t)))).open' = true
      ∧ (u.thread b t).pc = s.nextPc b t)
  ∧ (∀ (b t : Nat) (s : State), s.ok → s.issues b t Op.sample →
      s.phraseHolds (b / 6) (winTarget (s.noteOf b t).trk (sampleVal (s.thread b t) (s.noteOf b t))) = false →
    ∃ u, exec (.sample b t) s = .next u ∧ u.adc = s.adc ∧ (u.thread b t).pc = s.nextPc b t
      ∧ u.get F.REED_SAMPLE_ERR_CNT_COUNT = min (s.get F.REED_SAMPLE_ERR_CNT_COUNT + 1) 0xFFFFFFFF)

/-- What ends a thread's waits and the thread (R153, R161, R163, R164, R174, R171, R151): a time target 40 ns ahead becomes the
placement time; a true CA goes on at the next note and a true CB at the target; the merge watch closes; an overrun faults with cause
4; a timer stops at 0; a chop's off phase ends with GL on; the phrase store's copies agree again. -/
def Obligations.WhatEndsAThreadsWait : Prop :=
  (∀ (b t : Nat) (x : Tb) (s : State), s.ok → b < 24 → t < 2 → (s.thread b t).run = true → (s.thread b t).wait = .time x →
      tbDiff x s.now ≤ 32 →
    ∃ u, exec (.waitTargetReached b t) s = .next u ∧ (u.thread b t).wait = .none ∧ (u.thread b t).place = some x
      ∧ (u.thread b t).pc = (s.thread b t).pc ∧ s.onlyIn u [.regs, .sch, .banks, .cmps])
  ∧ (∀ (b t ca cb tgt : Nat) (s : State), s.ok → b < 24 → t < 2 → (s.thread b t).run = true →
      (s.thread b t).wait = .cond ca cb tgt → (s.cond b t ca = true ∨ s.cond b t cb = true) →
    ∃ u, exec (.conditionTrue b t) s = .next u ∧ (u.thread b t).wait = .none
      ∧ (u.thread b t).pc = (if s.cond b t ca then (s.thread b t).pc else tgt) ∧ s.onlyIn u [.regs, .sch, .banks, .cmps])
  ∧ (∀ (b t : Nat) (w : Tb) (s : State), s.ok → b < 24 → t < 2 → (s.thread b t).run = true → (s.thread b t).wait = .sus w →
      tbDiff w s.now ≤ 0 → s.nextReleased (s.thread b t).ch = none →
    ∃ u, exec (.mergeWatchClose b t) s = .next u ∧ (u.thread b t).wait = .none ∧ (u.thread b t).sus = false
      ∧ s.onlyIn u [.regs, .sch, .banks, .cmps])
  ∧ (∀ (b t : Nat) (s : State), s.ok → b < 24 → t < 2 → s.overrunDue b t = true →
    ∃ u, exec (.phraseOverrun b t) s = .next u ∧ (u.thread b t).run = false ∧ u.get F.REED_FAULT_CAUSE = 4
      ∧ s.onlyIn u [.regs, .hif, .sch, .banks, .edges, .adc, .cmps])
  ∧ (∀ (b t k : Nat) (s : State), s.ok → b < 24 → t < 2 → s.timerVal b t k = 0 →
    ∃ u, exec (.reedTimerZero b t k) s = .next u ∧ u.timerVal b t k = 0
      ∧ (u.thread b t) = { s.thread b t with t0 := (u.thread b t).t0, t0At := (u.thread b t).t0At, t1 := (u.thread b t).t1,
                                             t1At := (u.thread b t).t1At } ∧ s.onlyIn u [.banks])
  ∧ (∀ (b t : Nat) (w : Tb) (s : State), s.ok → b < 24 → t < 2 → (s.thread b t).run = true → (s.thread b t).offUntil = some w →
      tbDiff w s.now ≤ 0 → (s.thread b t).wait = .none → (s.thread b (1 - t)).run = false → s.gatesFree b = true →
      (s.thread b t).ch / 4 = b → (s.chan (s.thread b t).ch).oc = false →
    ∃ u, exec (.chopOffTimeEnd b t) s = .next u ∧ (u.thread b t).offUntil = none ∧ (u.chan (s.thread b t).ch).gl = true
      ∧ s.onlyIn u [.regs, .sch, .banks, .cmps])
  ∧ (∀ (q : Nat) (s : State), s.ok → q < 4 → (s.quad q).syncing = true →
      (∀ i j, i < 6 → j < 2 → (s.thread (6 * q + i) j).run = false) →
    ∃ u, exec (.phraseStoreSync q) s = .next u ∧ u.quad q = { s.quad q with syncing := false, old := [] }
      ∧ (∀ j, j ≠ q → u.quad j = s.quad j) ∧ s.onlyIn u [.quads])
/-! The drive stage and the ledger (chapters 1, 7 and 8) -/

/-- A channel's over-current trip sets its latch and pulls its GL low; a high-side trip does so for its bank, with GHV, GHB and all
four GL (R24, R25, R181 to R183). When the logic die sees the latch, the threads on the channel end and an alarm 8 + q is placed
(R25). -/
def Obligations.OverCurrentTripsHold : Prop :=
  (∀ (n : Nat) (s : State), s.ok → s.ocJudged n = true →
    ∃ t, exec (.channelOcTrip n) s = .next t ∧ (t.chan n).oc = true ∧ (t.chan n).gl = false
      ∧ (∀ m, m ≠ n → t.chan m = s.chan m)
      ∧ t.get F.DRV_OC_CNT_COUNT = min (s.get F.DRV_OC_CNT_COUNT + 1) 0xFFFFFFFF ∧ s.onlyIn t [.regs, .sch, .banks])
  ∧ (∀ (b : Nat) (boost : Bool) (s : State), s.ok → s.hsJudged b boost = true →
    ∃ t, exec (.highSideOcTrip b boost) s = .next t ∧ (t.bank b).oc = true ∧ (t.bank b).ghv = false ∧ (t.bank b).ghb = false
      ∧ (∀ i, i < 4 → (t.chan (4 * b + i)).gl = false) ∧ (∀ c, c ≠ b → t.bank c = s.bank c)
      ∧ t.get F.DRV_BKOC_CNT_COUNT = min (s.get F.DRV_BKOC_CNT_COUNT + 1) 0xFFFFFFFF ∧ s.onlyIn t [.regs, .sch, .banks])
  ∧ (∀ (n : Nat) (s : State), s.ok → n < 96 → (s.chan n).oc = true → (s.chan n).ocSeen = false →
    ∃ t, exec (.tripLatchSeen (.channel n)) s = .next t ∧ (t.chan n).oc = true ∧ (t.chan n).ocSeen = true
      ∧ (∀ i, i < 2 → (t.thread (n / 4) i).run = true → (t.thread (n / 4) i).ch ≠ n) ∧ t.alarmed (8 + n / 24)
      ∧ s.onlyIn t [.regs, .hif, .evc, .sch, .banks, .edges, .adc, .cmps])
  ∧ (∀ (b : Nat) (s : State), s.ok → b < 24 → (s.bank b).oc = true → (s.bank b).ocSeen = false →
    ∃ t, exec (.tripLatchSeen (.bank b)) s = .next t ∧ (t.bank b).oc = true ∧ (t.bank b).ocSeen = true ∧ t.alarmed (8 + b / 6)
      ∧ s.onlyIn t [.regs, .hif, .evc, .sch, .banks, .edges, .adc, .cmps])
  ∧ (∀ (g : Nat) (s : State), s.ok → g < 8 → (s.grd g).trip = true → (s.grd g).tripSeen = false →
    ∃ t, exec (.tripLatchSeen (.guardian g)) s = .next t ∧ t.grd g = { s.grd g with tripSeen := true }
      ∧ (∀ j, j ≠ g → t.grd j = s.grd j) ∧ s.onlyIn t [.grds])

/-- A boost controller at its set-point pulses below its band and stops above it (R190); each pulse is counted (R194); an
over-voltage stops the pulses, with a count and an alarm 20 + q (R192). -/
def Obligations.BoostControllersHoldTheirBand : Prop :=
  (∀ (q vbst : Nat) (s : State), s.ok → q < s.part.quads → s.boostMode q = true → (s.quad q).regOn = true →
      (s.quad q).ramping = false → (s.quad q).ov = false →
    ∃ t, exec (.boostRegulation q vbst) s = .next t ∧ (t.quad q).vbst = vbst ∧ (t.quad q).target = s.vsetMv q
      ∧ (vbst * 100 + s.get (F.DRV_BSTCFG_VHYST q) * 125 < s.vsetMv q → (t.quad q).pulsing = true)
      ∧ (s.vsetMv q + s.get (F.DRV_BSTCFG_VHYST q) * 125 < vbst * 100 → (t.quad q).pulsing = false)
      ∧ (∀ j, j ≠ q → t.quad j = s.quad j) ∧ s.onlyIn t [.quads])
  ∧ (∀ (q vbst : Nat) (s : State), s.ok → q < s.part.quads → s.boostMode q = false →
    ∃ t, exec (.boostRegulation q vbst) s = .next t
      ∧ t.quad q = { s.quad q with vbst := vbst, regOn := false, pulsing := false, ramping := false, ov := false }
      ∧ s.onlyIn t [.quads])
  ∧ (∀ (q vbat : Nat) (s : State), s.ok → q < 4 → s.boostMode q = true → (s.quad q).pulsing = true →
    ∃ t, exec (.boostPulse q vbat) s = .next t ∧ (t.quad q).vbat = vbat
      ∧ t.get (F.DRV_BSTPULSE_COUNT q) = min (s.get (F.DRV_BSTPULSE_COUNT q) + 1) 0xFFFFFFFF
      ∧ (s.flag (F.INK_BSTCFG_MSRC q) = true → (t.quad q).bal = (s.quad q).bal)
      ∧ (∀ j, j ≠ q → t.quad j = s.quad j) ∧ s.onlyIn t [.regs, .hif, .evc, .quads])
  ∧ (∀ (q vbst : Nat) (s : State), s.ok → q < 4 → s.boostMode q = true → (s.quad q).regOn = true → (s.quad q).ov = false →
      (s.quad q).target + s.get (F.DRV_BSTCFG_OV_MARGIN q) * 1000 < vbst * 100 →
    ∃ t, exec (.boostOvervoltage q vbst) s = .next t
      ∧ t.quad q = { s.quad q with vbst := vbst, ov := true, pulsing := false }
      ∧ t.get F.DRV_BST_OV_CNT_COUNT = min (s.get F.DRV_BST_OV_CNT_COUNT + 1) 0xFFFFFFFF ∧ t.alarmed (20 + q)
      ∧ s.onlyIn t [.regs, .hif, .quads])

/-- A kink confirmed in the closing converter's samples is the channel's closing report, with its delay; where the window passes
without one the report is NO_KINK and is counted; either gives the bank's slot back (R196, R198, R199). The result of an event whose
report is there goes to its CQ, and its store entry is free (R30, R119). -/
def Obligations.ClosingReportsAndResults : Prop :=
  (∀ (n delay k : Nat) (off : Tb) (codes : List Nat) (s : State), s.ok → n < 96 → s.watchOff n = some off →
      s.kinkOf n codes = some (delay, k) → s.kinkAt n k ≤ elapsed off s.now →
    ∃ t, exec (.closingKink n codes) s = .next t ∧ (t.chan n).report = some (.kink delay) ∧ t.watching n = false
      ∧ (∀ m, m ≠ n → t.chan m = s.chan m) ∧ s.onlyIn t [.sch, .banks])
  ∧ (∀ (n : Nat) (off : Tb) (s : State), s.ok → n < 96 → s.watchOff n = some off →
      s.kinkAt n ((s.get (F.DRV_KWIN_W_END n) - s.get (F.DRV_KWIN_W_START n)) * 5 / max 1 (s.get (F.DRV_KDET_D n)) + 1)
        < elapsed off s.now →
    ∃ t, exec (.closingNoKink n) s = .next t ∧ (t.chan n).report = some .noKink ∧ t.watching n = false
      ∧ t.get F.DRV_NOKINK_CNT_COUNT = min (s.get F.DRV_NOKINK_CNT_COUNT + 1) 0xFFFFFFFF
      ∧ s.onlyWords t [R.DRV_NOKINK_CNT] ∧ s.onlyIn t [.regs, .sch, .banks])
  ∧ (∀ (id : Nat) (e : Event) (s : State), s.ok → s.event id = some e → s.resultReady e = true → e.refused = false →
      e.ran = false → s.resultWanted e.src = true →
    ∃ t, exec (.resultWrite id) s = .next t ∧ t.event id = none
      ∧ t.hif.results = s.hif.results ++ [{ cq := s.cqOf e.src, words := resultWords e }]
      ∧ s.onlyIn t [.regs, .hif, .evc, .sch, .banks, .quads, .ink])

/-- The ledger's steps: a boost balance moves 1/256 of the way to the measured energy, up to its top (R210); R_FILL follows VBAT
(R209); a rail account's sub-window becomes the newest of its sixteen (R212); a measured conversion counts for the event that draws
it (R213). -/
def Obligations.LedgerSteps : Prop :=
  (∀ (q vbst : Nat) (s : State), s.ok → q < s.part.quads → s.balKept = true → (∀ i, i < 6 → (s.bank (6 * q + i)).ghv = false) →
    ∃ t, exec (.boostReconcile q vbst) s = .next t ∧ (t.quad q).vbst = vbst
      ∧ (t.quad q).bal = min ((s.quad q).bal + ((s.modQuad q (fun x => { x with vbst := vbst })).boostM q - (s.quad q).bal) / 256)
          (s.boostTop q)
      ∧ (∀ j, j ≠ q → t.quad j = s.quad j) ∧ s.onlyIn t [.regs, .hif, .evc, .quads])
  ∧ (∀ (q vbat : Nat) (s : State), s.ok → q < s.part.quads →
    ∃ t, exec (.fillRateRefresh q vbat) s = .next t ∧ (t.quad q).vbat = vbat ∧ (t.quad q).rate = s.fillRate q vbat
      ∧ (t.quad q).bal = (s.quad q).bal ∧ (∀ j, j ≠ q → t.quad j = s.quad j) ∧ s.onlyIn t [.quads])
  ∧ (∀ (g : Nat) (s : State), s.ok → g < 8 → s.grdMeters g = true →
    ∃ t, exec (.railSubwindowEnd g) s = .next t
      ∧ (t.ink.rails.getD g Rail.initial).subs
          = (s.ink.rails.getD g Rail.initial).cur :: (s.ink.rails.getD g Rail.initial).subs.take 15
      ∧ (t.ink.rails.getD g Rail.initial).cur = 0 ∧ (t.ink.rails.getD g Rail.initial).endAt = s.now
      ∧ t.ink.resv = s.ink.resv ∧ s.onlyIn t [.regs, .hif, .evc, .ink])
  ∧ (∀ (b shunt volt : Nat) (s : State), s.ok → s.convUsable (b / 6) = true → b < s.part.banks → (s.bank b).ghv = true →
      (s.bank b).token ≠ 0 → (s.thread b ((s.bank b).token - 1)).run = true →
    ∃ t, exec (.measurementConversion b .boost shunt volt) s = .next t
      ∧ t.sch.store = s.sch.store.map (fun e => if e.id == (s.thread b ((s.bank b).token - 1)).ev
          then { e with eBoost := e.eBoost + s.sampleNj b shunt (volt * 100), ipeak := max e.ipeak (shunt / 4) } else e)
      ∧ s.onlyIn t [.sch])

/-- INK_PTAB_DATA reads the live word at INK_PTAB_IDX; a need written by the installer acts on both copies at once, word 2 on the
shadow copy; either access advances the index (R214, R227). -/
def Obligations.NeedTableAccesses : Prop :=
  (∀ (p : Port) (s : State), s.ok → s.portOpen = true →
    ∃ t, exec (.ptabDataAccess p none) s = .next t ∧ t.get ptabIndex = (s.get ptabIndex + 1) % 1024
      ∧ (s.get ptabIndex / 256 < s.part.quads → s.get ptabIndex % 4 < 2 →
          t.ans.read = some ((s.word (ptabAddr (s.get ptabIndex))).toNat &&& 0xFFFFFF))
      ∧ s.onlyWords t [R.INK_PTAB_IDX] ∧ s.onlyIn t [.regs, .sec, .ans])
  ∧ (∀ (p : Port) (v : Word) (s : State), s.ok → s.portOpen = true → s.isInstaller p = true →
      s.get ptabIndex / 256 < s.part.quads →
    ∃ t, exec (.ptabDataAccess p (some v)) s = .next t ∧ t.get ptabIndex = (s.get ptabIndex + 1) % 1024
      ∧ (s.get ptabIndex % 4 < 2 → (t.word (ptabAddr (s.get ptabIndex))).toNat = v.toNat &&& 0xFFFFFF
          ∧ (t.shadowWord (ptabAddr (s.get ptabIndex))).toNat = v.toNat &&& 0xFFFFFF)
      ∧ (s.get ptabIndex % 4 = 2 → t.word (ptabAddr (s.get ptabIndex)) = s.word (ptabAddr (s.get ptabIndex))
          ∧ (t.shadowWord (ptabAddr (s.get ptabIndex))).toNat = v.toNat &&& 0xFF)
      ∧ s.onlyIn t [.regs, .sec])
/-! Commands of the maintenance queue (Table 11.4) -/

/-- MQ commands that need little of the device complete with their code and do no more: NOP, and an opcode that Table 11.4 lacks
with ABSENT; TRACE_CTRL writes HIF_TRACE (R298, R314); ACC_CLOSE closes a TIME, ANGLE or HOST window, which opens again, and answers
CLAIM_CONFLICT for a window that a phrase or a timer holds (R328). CLEAR_OC clears the named latch whatever its comparator reads,
and is journalled (R184, R25). PHRASE_PARAM writes a phrase default in both copies where the phrase's mask lets the operator, and is
held while a COMMIT runs (R173). FALLBACK_END, from the MQ or SYS_FBCTL, clears the fallback flag while the link is up, unless a cause
falls in the same fabric cycle (R418). -/
def Obligations.QueueCommandsComplete : Prop :=
  (∀ (tag : Word) (s : State), s.ok → s.mqReady = true →
    ∃ t, exec (.mqNop tag) s = .next t ∧ s.completes t tag 0 0 ∧ s.onlyIn t [.hif])
  ∧ (∀ (tag : Word) (op : Nat) (s : State), s.ok → s.mqReady = true → 10 < op → op < 256 →
    ∃ t, exec (.mqUnknownOpcode tag op) s = .next t ∧ s.completes t tag op 13 ∧ s.onlyIn t [.hif])
  ∧ (∀ (tag arg0 : Word) (s : State), s.ok → s.mqReady = true →
    ∃ t, exec (.traceCtrl tag arg0) s = .next t ∧ s.completes t tag 7 0 ∧ (t.word R.HIF_TRACE).toNat = arg0.bits 0 4
      ∧ t.hif.kinds = s.hif.kinds ∧ s.onlyWords t [R.HIF_TRACE] ∧ s.onlyIn t [.regs, .hif])
  ∧ (∀ (tag arg0 : Word) (k : Nat) (s : State), s.ok → s.mqReady = true → k = arg0.bits 0 9 → arg0.bit 9 = false →
      s.flag (accEn k) = true → s.get (accWsrc k) = 1 → (s.win k).open' = true →
    ∃ t, exec (.accClose tag arg0) s = .next t ∧ s.completes t tag 8 0 ∧ (t.win k).open' = true ∧ (t.win k).count = 0
      ∧ (t.win k).openT = s.now ∧ s.onlyIn t [.regs, .hif, .adc])
  ∧ (∀ (tag arg0 : Word) (s : State), s.ok → s.mqReady = true → arg0.bit 9 = false → s.flag (accEn (arg0.bits 0 9)) = true →
      s.get (accWsrc (arg0.bits 0 9)) = 0 →
    ∃ t, exec (.accClose tag arg0) s = .next t ∧ s.completes t tag 8 17 ∧ s.onlyIn t [.hif])
  ∧ (∀ (tag arg0 : Word) (s : State), s.ok → s.mqReady = true → arg0.bit 8 = false → s.chUsable (arg0.bits 0 7) = true →
    ∃ t, exec (.clearOc tag arg0) s = .next t ∧ s.completes t tag 1 0 ∧ (t.chan (arg0.bits 0 7)).oc = false
      ∧ (s.jRoom 0 1 = true → t.sec.counter = s.sec.counter + 1) ∧ s.onlyIn t [.regs, .hif, .sec, .sch, .banks])
  ∧ (∀ (tag arg0 : Word) (s : State), s.ok → s.mqReady = true → arg0.bit 8 = true → arg0.bits 0 7 < s.part.banks →
    ∃ t, exec (.clearOc tag arg0) s = .next t ∧ s.completes t tag 1 0 ∧ (t.bank (arg0.bits 0 7)).oc = false
      ∧ s.onlyIn t [.regs, .hif, .sec, .sch, .banks])
  ∧ (∀ (tag arg0 arg1 : Word) (s : State), s.ok → s.mqReady = true → s.busyOp ≠ 2 → arg0.bits 0 2 < s.part.quads →
      s.get (F.REED_PDIR_KIND (arg0.bits 0 2) (arg0.bits 8 6)) ≠ 0 →
      (s.get (F.REED_PDIR_DMASK (arg0.bits 0 2) (arg0.bits 8 6))).testBit (arg0.bits 16 2) = true →
    ∃ t, exec (.phraseParam tag arg0 arg1) s = .next t ∧ s.completes t tag 6 0
      ∧ t.get (defaultF (arg0.bits 0 2) (arg0.bits 8 6) (arg0.bits 16 2)) = arg1.bits 0 16
      ∧ t.sget (defaultF (arg0.bits 0 2) (arg0.bits 8 6) (arg0.bits 16 2)) = arg1.bits 0 16 ∧ s.onlyIn t [.regs, .hif, .sec])
  ∧ (∀ (tag arg0 arg1 : Word) (s : State), s.mqReady = true → s.busyOp = 2 →
    exec (.phraseParam tag arg0 arg1) s = .next { s with hif := { s.hif with mqHeld := some (tag, arg0, arg1) } })
  ∧ (∀ (tag : Word) (s : State), s.ok → s.mqReady = true → s.sys.fbFlag = true → s.regs.same.fb = false →
    ∃ t, exec (.fallbackEnd (.mq tag)) s = .next t ∧ s.completes t tag 9 0
      ∧ t.sys = { s.sys with fbFlag := false, fbDue := [] } ∧ t.alarmed 15 ∧ s.onlyIn t [.regs, .sys, .hif])
  ∧ (∀ (p : Port) (s : State), s.ok → s.portOpen = true → s.hif.up = true → s.sys.fbFlag = true →
      s.regs.same.fb = false →
    ∃ t, exec (.fallbackEnd (.reg p)) s = .next t ∧ t.sys = { s.sys with fbFlag := false, fbDue := [] } ∧ t.alarmed 15
      ∧ t.hif.heardAt = s.now ∧ s.onlyIn t [.regs, .sys, .hif, .sec])
  ∧ (∀ (p : Port) (s : State), s.ok → s.portOpen = true → s.regs.same.fb = true →
    ∃ t, exec (.fallbackEnd (.reg p)) s = .next t ∧ t.sys = s.sys ∧ s.onlyIn t [.sec])
/-! The rail guardians (chapter 9) -/

/-- A metering sample is taken as the current and in turn as V_OUT and V_IN, and its energy is added to the counter (R240, R241,
R253); the safe-operating-area budget follows R237; a read of GRD_ELO answers the counter's low word and latches its high part
(R241). With PG_PIN = 1 the output PGg is released while power-good is true, and low otherwise and while VAON is below its threshold
(R243). -/
def Obligations.GuardiansMeter : Prop :=
  (∀ (g : Nat) (cur : Int) (volt : Nat) (s : State), s.ok → s.grdUsable g = true → s.fullRate = true →
    ∃ t, exec (.guardianMeterSample g cur volt) s = .next t ∧ (t.grd g).cur = cur ∧ (t.grd g).lastCur = (s.grd g).cur
      ∧ (t.grd g).vout = (if (s.grd g).nextOut then volt % 65536 else (s.grd g).vout)
      ∧ (t.grd g).vin = (if (s.grd g).nextOut then (s.grd g).vin else volt % 65536)
      ∧ (t.grd g).nextOut = !(s.grd g).nextOut
      ∧ (t.grd g).energy = unsigned 56 (((s.grd g).energy : Int) + s.energy256 g (t.grd g).vout cur 8 1)
      ∧ (∀ j, j ≠ g → t.grd j = s.grd j))
  ∧ (∀ (g : Nat) (cur : Int) (vout vin : Nat) (s : State), s.ok → s.grdUsable g = true → s.sys.mode = .vigil →
    ∃ t, exec (.vigilMeterSample g cur vout vin) s = .next t ∧ (t.grd g).cur = cur ∧ (t.grd g).vout = vout % 65536
      ∧ (t.grd g).vin = vin % 65536
      ∧ (t.grd g).energy = unsigned 56 (((s.grd g).energy : Int) + s.energy256 g (vout % 65536) cur 15625 16)
      ∧ (∀ j, j ≠ g → t.grd j = s.grd j))
  ∧ (∀ (g : Nat) (s : State), s.ok → s.grdUsable g = true → s.fullRate = true →
    ∃ t, exec (.soaUpdate g) s = .next t ∧ (t.grd g).soa = s.soaNext g 16 1
      ∧ (t.grd g).soaEx = decide (s.get (F.GRD_SOA_SOA_E g) * 1000000 ≤ s.soaNext g 16 1) ∧ (∀ j, j ≠ g → t.grd j = s.grd j))
  ∧ (∀ (p : Port) (g : Nat) (s : State), s.ok → s.portOpen = true → s.grdUsable g = true →
    ∃ t, exec (.energyCounterRead p g) s = .next t ∧ t.ans.read = some ((s.grd g).energy / 256 % 2 ^ 32)
      ∧ t.grd g = { s.grd g with ehi := (s.grd g).energy / 256 / 2 ^ 32 % 65536 } ∧ s.onlyIn t [.sec, .grds, .ans])
  ∧ (∀ (g : Nat) (s : State), (s.sys.mode = .off → s.pgOut g = false)
      ∧ (s.sys.mode ≠ .off → s.grdUsable g = true → s.flag (F.GRD_CFG_PG_PIN g) = true →
          s.pgOut g = (s.grdOnline g && decide (s.get (F.GRD_VLIM_PG g) * 100 ≤ (s.grd g).vout))))

/-- Trips: a fast trip without an entry of its own latches the guardian (R238); a ramp that does not complete in RAMP_T meets its
undervoltage entries (R236, R244); reverse current and the external fault act by their entry once its filter has run
(R239, R252, R244, R245); every action is
reported by an alarm (R257). -/
def Obligations.GuardianTrips : Prop :=
  (∀ (g : Nat) (s : State), s.ok → s.grdUsable g = true → (s.grd g).st.gateOn = true → s.entriesOf g (fun c => c == 0) = [] →
    ∃ t, exec (.guardianFastTrip g) s = .next t ∧ (t.grd g).st = .latched ∧ (t.grd g).trip = true ∧ (t.grd g).tripSeen = true
      ∧ t.alarmed g ∧ (∀ j, j ≠ g → t.grd j = s.grd j))
  ∧ (∀ (g : Nat) (s : State), s.ok → s.grdUsable g = true → (s.grd g).st = .ramp → (s.grd g).rampOut = false → (s.grd g).done = false →
      s.get (F.GRD_RAMP_RAMP_T g) * 800000 ≤ elapsed (s.grd g).since s.now → s.entriesOf g (fun c => c == 3) = [] →
    ∃ t, exec (.rampTimeout g) s = .next t ∧ (t.grd g).st = .ramp ∧ (t.grd g).rampOut = true
      ∧ (∀ j, j ≠ g → t.grd j = s.grd j) ∧ s.onlyIn t [.grds])
  ∧ (∀ (g e : Nat) (s : State), s.ok → s.grdUsable g = true → (s.grd g).st = .ramp → (s.grd g).rampOut = false → (s.grd g).done = false →
      s.get (F.GRD_RAMP_RAMP_T g) * 800000 ≤ elapsed (s.grd g).since s.now → s.entriesOf g (fun c => c == 3) = [e] → assocGet g s.regs.same.grdHost = none →
      s.get (F.GRD_RULE_FILT g e) = 0 → s.get (F.GRD_RULE_ACT g e) = 3 →
    ∃ t, exec (.rampTimeout g) s = .next t ∧ (t.grd g).st = .latched ∧ (t.grd g).trip = true ∧ t.alarmed g
      ∧ (∀ j, j ≠ g → t.grd j = s.grd j))
  ∧ (∀ (g e n : Nat) (s : State), s.ok → s.grdUsable g = true → (s.grd g).st = .on → s.entriesOf g (fun c => c == 5) = [e] →
      s.get (F.GRD_RULE_ACT g e) = 0 → s.get (F.GRD_RULE_FILT g e) ≤ n → assocGet g s.regs.same.grdHost = none →
    ∃ t, exec (.reverseCurrentTrip { g := g, held := n }) s = .next t ∧ (t.grd g).st = .off ∧ (t.grd g).retries = 0 ∧ t.alarmed g
      ∧ (∀ j, j ≠ g → t.grd j = s.grd j))
  ∧ (∀ (g e n : Nat) (s : State), s.ok → s.grdUsable g = true → s.flag (F.GRD_CFG_XF_EN g) = true → s.fullRate = true →
      (s.grd g).st = .on → s.entriesOf g (fun c => c == 6) = [e] → s.get (F.GRD_RULE_ACT g e) = 3 → s.get (F.GRD_RULE_FILT g e) ≤ n →
      assocGet g s.regs.same.grdHost = none →
    ∃ t, exec (.externalFault { g := g, held := n }) s = .next t ∧ (t.grd g).st = .latched ∧ (t.grd g).trip = true ∧ t.alarmed g
      ∧ (∀ j, j ≠ g → t.grd j = s.grd j))

/-- Supervision of a held guardian counts failing checks in a row (R252); a retry delay that has run out ramps again with the trip
latch clear, and the count restarts after GOOD_T of power-good (R246, R25). Insertion and removal (R249): the pin starts a debounce,
a stable pin makes the board present and ramps an AUTO guardian, and a removal puts the gate off from every state but LATCHED and
waits for the board. -/
def Obligations.GuardianSupervisionAndInsertion : Prop :=
  (∀ (g : Nat) (s : State), s.ok → s.grdUsable g = true → s.sys.mode = .dormant → (s.grd g).held = true →
    ∃ t, exec (.slowSupervisionCheck g true true) s = .next t ∧ t.grd g = { s.grd g with uvSlow := 0 } ∧ s.onlyIn t [.grds])
  ∧ (∀ (g : Nat) (a b : Bool) (s : State), s.ok → s.grdUsable g = true → s.sys.mode = .dormant → (s.grd g).held = true →
      (a && b) = false → (s.grd g).uvSlow = 0 →
    ∃ t, exec (.slowSupervisionCheck g a b) s = .next t ∧ t.grd g = { s.grd g with uvSlow := 1 } ∧ s.onlyIn t [.grds])
  ∧ (∀ (g : Nat) (s : State), s.ok → s.grdUsable g = true → s.retryOut g = true → s.rampMode = true →
    ∃ t, exec (.retryDelayEnd g) s = .next t ∧ (t.grd g).st = .ramp ∧ (t.grd g).trip = false ∧ (t.grd g).since = s.now
      ∧ (t.grd g).retries = (s.grd g).retries ∧ (∀ j, j ≠ g → t.grd j = s.grd j) ∧ s.onlyIn t [.regs, .hif, .grds])
  ∧ (∀ (g x : Nat) (s : State), s.ok → g < 8 → (s.grd g).goodSince = some x → s.get (F.GRD_PRSN_GOOD_T g) ≠ 0 →
      s.grdPg g = true → s.get (F.GRD_PRSN_GOOD_T g) * 32768 ≤ (s.clk.aon - x) * 1000 →
    ∃ t, exec (.retryCountReset g) s = .next t ∧ t.grd g = { s.grd g with retries := 0 } ∧ s.onlyIn t [.grds])
  ∧ (∀ (g : Nat) (level : Bool) (s : State), s.ok → s.grdUsable g = true → s.flag (F.GRD_CFG_PRSN_EN g) = true →
      (s.grd g).pin ≠ level → level = s.flag (F.GRD_PRSN_PRSN_POL g) → (s.grd g).st = .waitPrsn →
    ∃ t, exec (.prsnChange g level) s = .next t ∧ (t.grd g).st = .debounce ∧ (t.grd g).pin = level ∧ (t.grd g).pinAt = s.clk.aon
      ∧ (∀ j, j ≠ g → t.grd j = s.grd j) ∧ s.onlyIn t [.regs, .hif, .grds])
  ∧ (∀ (g : Nat) (s : State), s.ok → s.grdUsable g = true → s.prsnStable g = true → (s.grd g).prsn = false →
      (s.grd g).st = .debounce → s.flag (F.GRD_CFG_AUTO g) = true → s.flag (F.GRD_CFG_EN g) = true → s.rampMode = true →
    ∃ t, exec (.prsnDebounceDone g) s = .next t ∧ (t.grd g).st = .ramp ∧ (t.grd g).prsn = true ∧ (t.grd g).since = s.now
      ∧ (∀ j, j ≠ g → t.grd j = s.grd j) ∧ s.onlyIn t [.regs, .hif, .grds])
  ∧ (∀ (g : Nat) (s : State), s.ok → s.grdUsable g = true → s.prsnGone g = true → (s.grd g).st ≠ .latched →
    ∃ t, exec (.prsnRemoval g) s = .next t ∧ (t.grd g).st = .waitPrsn ∧ (t.grd g).prsn = false ∧ (t.grd g).retries = 0
      ∧ t.alarmed g ∧ (∀ j, j ≠ g → t.grd j = s.grd j) ∧ s.onlyIn t [.regs, .hif, .evc, .grds])
  ∧ (∀ (g : Nat) (s : State), s.ok → s.grdUsable g = true → s.prsnGone g = true → (s.grd g).st = .latched →
    ∃ t, exec (.prsnRemoval g) s = .next t ∧ t.grd g = { s.grd g with prsn := false, left := false } ∧ t.alarmed g
      ∧ (∀ j, j ≠ g → t.grd j = s.grd j) ∧ s.onlyIn t [.regs, .hif, .evc, .grds])

/-- The host's commands (R247, R248): ON ramps an enabled guardian in OFF where the mode permits ramps, OFF puts the gate off from
any state but LATCHED, CLEAR takes a latched one to OFF and is journalled, and is reserved to the installer where CLR_LOCK is 1; a
RETRY or LATCH of the rule table in the same fabric cycle stands against ON and OFF (R245); a limit outside the installer's band is answered with ROLE. -/
def Obligations.GuardianCommands : Prop :=
  (∀ (tag : Word) (g : Nat) (s : State), s.ok → s.mqReady = true → s.grdUsable g = true → (s.grd g).st = .off →
      s.flag (F.GRD_CFG_EN g) = true → s.flag (F.GRD_CFG_PRSN_EN g) = false → s.rampMode = true → s.ruleStands g = false →
    ∃ t, exec (.grdOn (.mq tag) g) s = .next t ∧ s.completes t tag 2 0 ∧ (t.grd g).st = .ramp ∧ (t.grd g).trip = false
      ∧ (∀ j, j ≠ g → t.grd j = s.grd j) ∧ s.onlyIn t [.regs, .hif, .grds])
  ∧ (∀ (p : Port) (g : Nat) (s : State), s.ok → s.portOpen = true → s.grdUsable g = true → (s.grd g).st = .off →
      s.flag (F.GRD_CFG_EN g) = true → s.flag (F.GRD_CFG_PRSN_EN g) = false → s.rampMode = true → s.ruleStands g = false →
    ∃ t, exec (.grdOn (.reg p) g) s = .next t ∧ (t.grd g).st = .ramp ∧ (t.grd g).trip = false
      ∧ (∀ j, j ≠ g → t.grd j = s.grd j) ∧ s.onlyIn t [.regs, .hif, .grds, .sec])
  ∧ (∀ (tag : Word) (g : Nat) (s : State), s.ok → s.mqReady = true → s.grdUsable g = true → (s.grd g).st ≠ .latched → s.ruleStands g = false →
    ∃ t, exec (.grdOff (.mq tag) g) s = .next t ∧ s.completes t tag 3 0 ∧ (t.grd g).st = .off ∧ (t.grd g).retries = 0
      ∧ (∀ j, j ≠ g → t.grd j = s.grd j) ∧ s.onlyIn t [.regs, .hif, .grds])
  ∧ (∀ (tag : Word) (g : Nat) (s : State), s.ok → s.mqReady = true → s.grdUsable g = true → (s.grd g).st = .latched →
      s.flag (F.GRD_CFG_CLR_LOCK g) = false →
    ∃ t, exec (.grdClear (.mq tag) g) s = .next t ∧ s.completes t tag 4 0 ∧ (t.grd g).st = .off ∧ (t.grd g).trip = false
      ∧ (s.jRoom 0 1 = true → t.sec.counter = s.sec.counter + 1) ∧ (∀ j, j ≠ g → t.grd j = s.grd j)
      ∧ s.onlyIn t [.regs, .hif, .sec, .grds])
  ∧ (∀ (tag : Word) (g : Nat) (s : State), s.ok → s.mqReady = true → s.grdUsable g = true →
      s.flag (F.GRD_CFG_CLR_LOCK g) = true →
    ∃ t, exec (.grdClear (.mq tag) g) s = .next t ∧ s.completes t tag 4 18 ∧ s.onlyIn t [.hif])
  ∧ (∀ (tag arg0 arg1 : Word) (g : Nat) (s : State), s.ok → s.mqReady = true → g = arg0.bits 0 3 → s.grdUsable g = true →
      s.get (F.GRD_BAND_FT_MIN g) ≤ arg1.bits 0 8 → arg1.bits 0 8 ≤ s.get (F.GRD_BAND_FT_MAX g) →
      s.get (F.GRD_BAND_ILIM_MIN g) ≤ arg1.bits 8 8 → arg1.bits 8 8 ≤ s.get (F.GRD_BAND_ILIM_MAX g) →
    ∃ t, exec (.grdLimit tag arg0 arg1) s = .next t ∧ s.completes t tag 5 0
      ∧ t.grd g = { s.grd g with liveFt := arg1.bits 0 8, liveIlim := arg1.bits 8 8 } ∧ s.onlyIn t [.regs, .hif, .sec, .grds])
  ∧ (∀ (tag arg0 arg1 : Word) (s : State), s.ok → s.mqReady = true → s.grdUsable (arg0.bits 0 3) = true →
      arg1.bits 0 8 < s.get (F.GRD_BAND_FT_MIN (arg0.bits 0 3)) →
    ∃ t, exec (.grdLimit tag arg0 arg1) s = .next t ∧ s.completes t tag 5 18 ∧ s.onlyIn t [.hif])
/-! Converters, accumulators and trackers (chapter 12) -/

/-- A visit without averaging feeds the entry's accumulator with its conversions after the discarded ones, in the loop, on an urgent
request and in VIGIL (R318 to R321, R323, R326); an angle trigger queues an urgent request (R320). A continuous window that closes
by time or at its angle stages its record with the CAUSE and opens again at once (R327, R328, R329, R331); a time window's lateness
follows R360. -/
def Obligations.ConvertersFeedTheirTargets : Prop :=
  (∀ (n e : Nat) (codes : List Int) (s : State), s.ok → s.converts n = true → s.bitOf F.ADC_CTRL_EN n = true → (s.conv n).urg = [] →
      (s.conv n).flight = none → (s.conv n).left = 0 → s.nextEntry n = some e → s.filt n e = 1 →
      codes.map (sampleRange n (s.get (F.ADC_SEQA_IN n e))) = codes → codes.length = s.discards n e + s.visitLen n e →
      s.accepts (s.target n e) (s.get (F.ADC_SEQB_EPOCH n e)) (s.visitLen n e) →
    ∃ t, exec (.loopVisit n codes) s = .next t ∧ s.takes t (s.target n e) (codes.drop (s.discards n e)) (s.discards n e)
      ∧ (t.conv n).entry = (e + 1) % 32 ∧ (t.conv n).left = 0 ∧ s.onlyIn t [.adc])
  ∧ (∀ (n e : Nat) (rest : List Nat) (codes : List Int) (s : State), s.ok → s.converts n = true → (s.conv n).urg = e :: rest →
      (s.conv n).flight = none → s.flag (F.ADC_SEQA_EN n e) = true → s.filt n e = 1 →
      codes.map (sampleRange n (s.get (F.ADC_SEQA_IN n e))) = codes → codes.length = s.discards n e + s.visitLen n e →
      s.accepts (s.target n e) (s.get (F.ADC_SEQB_EPOCH n e)) (s.visitLen n e) →
    ∃ t, exec (.urgentVisit n codes) s = .next t ∧ s.takes t (s.target n e) (codes.drop (s.discards n e)) (s.discards n e)
      ∧ (t.conv n).urg = rest ∧ (t.conv n).entry = (s.conv n).entry ∧ s.onlyIn t [.adc])
  ∧ (∀ (e : Nat) (codes : List Int) (s : State), s.ok → s.vigilVisitDue = true → s.get F.ADC_VIGIL_ENTRY = e → s.filt 4 e = 1 →
      codes.map (sampleRange 4 (s.get (F.ADC_SEQA_IN 4 e))) = codes → codes.length = s.discards 4 e + s.visitLen 4 e →
      s.accepts (s.target 4 e) (s.get (F.ADC_SEQB_EPOCH 4 e)) (s.visitLen 4 e) →
    ∃ t, exec (.vigilVisit codes) s = .next t ∧ s.takes t (s.target 4 e) (codes.drop (s.discards 4 e)) (s.discards 4 e)
      ∧ t.adc.vigilAon = s.clk.aon ∧ s.onlyIn t [.adc])
  ∧ (∀ (k : Nat) (s : State), s.ok → k ∈ s.adc.trigDue → s.flag (F.ADC_ATRIG_EN k) = true →
      s.converts (s.get (F.ADC_ATRIG_CONV k)) = true → (s.conv (s.get (F.ADC_ATRIG_CONV k))).urg.length < 4 →
      s.get (F.ADC_ATRIG_ENTRY k) ∉ (s.conv (s.get (F.ADC_ATRIG_CONV k))).urg →
    ∃ t, exec (.angleTrigger k) s = .next t ∧ k ∉ t.adc.trigDue
      ∧ (t.conv (s.get (F.ADC_ATRIG_CONV k))).urg = (s.conv (s.get (F.ADC_ATRIG_CONV k))).urg ++ [s.get (F.ADC_ATRIG_ENTRY k)]
      ∧ s.onlyIn t [.adc])
  ∧ (∀ (g : Nat) (s : State), s.ok → s.timeCloseDue g = true → s.flag (accEn g) = true → s.recordable g →
    ∃ t, exec (.windowTimeClose g) s = .next t ∧ s.reopens t g 4
      ∧ ((t.win g).debt, (t.win g).short)
          = catchUp (s.get F.TMR_CATCHUP_PCT) (s.get (accPeriod g)) (s.win g).debt (elapsed (s.win g).openT s.now / 800 - s.winPeriod g))
  ∧ (∀ (g : Nat) (s : State), s.ok → (s.win g).due = true → (s.win g).open' = true → s.get (accWsrc g) = 2 → s.flag (accEn g) = true →
      s.clockRuns = true → s.ang.clamped = false → s.recordable g →
    ∃ t, exec (.windowAngleClose g) s = .next t ∧ s.reopens t g 3 ∧ (t.win g).due = false)

/-- Calibration holds the set-up port and ends with its factors or without them (R324, R325, R281); ADC_MOVE moves an entry with its
target and raises the target's epoch, and PEND ends it (R333); ACC_DATA reads and writes the word that ACC_IDX names and advances it
(R337). -/
def Obligations.ConverterCommands : Prop :=
  (∀ (p : Port) (v : Word) (n : Nat) (s : State), s.ok → s.portOpen = true → s.sys.mode.setupOrOn = true → n < 6 → v.bit (8 + n) = true →
      s.convUsable n = true → (∀ m, m < n → (v.bit (8 + m) && s.convUsable m) = false) →
    ∃ t rest, exec (.converterCalibrate p v) s = .next t ∧ t.sys.busy = some { op := 1, port := p, since := s.now }
      ∧ t.adc.cal = some { now := n, rest := rest, since := s.now } ∧ t.adc.calDone = [] ∧ t.adc.calFail = []
      ∧ s.onlyIn t [.regs, .sys, .hif, .sec, .adc])
  ∧ (∀ (n : Nat) (factors : List Word) (k : CalRun) (s : State), s.ok → s.adc.cal = some k → k.now = n → k.rest = [] → n < 6 →
      calTime n ≤ elapsed k.since s.now → factors.length = calGains n → factors.all factorOk = true →
    ∃ t, exec (.calibrationDone n factors) s = .next t ∧ t.adc.cal = none ∧ t.sys = { s.sys with busy := none } ∧ n ∈ t.adc.calDone
      ∧ (∀ i, i < calGains n → t.word (R.ADC_CAL n i) = factors.getD i 0) ∧ s.onlyIn t [.regs, .sys, .adc])
  ∧ (∀ (n : Nat) (factors : List Word) (k : CalRun) (s : State), s.ok → s.adc.cal = some k → k.now = n → k.rest = [] →
      calTime n ≤ elapsed k.since s.now → factors.length = calGains n → factors.all factorOk = false →
    ∃ t, exec (.calibrationDone n factors) s = .next t ∧ t.adc.cal = none ∧ t.sys = { s.sys with busy := none } ∧ n ∈ t.adc.calFail
      ∧ s.onlyIn t [.sys, .adc])
  ∧ (∀ (p : Port) (v : Word) (n e n' e' : Nat) (s : State), s.ok → s.portOpen = true → s.adc.movePend = none →
      n = v.bits 0 3 → e = v.bits 3 5 → n' = v.bits 8 3 → e' = v.bits 11 5 → s.convUsable n = true → s.convUsable n' = true →
      s.calibrating n = false → s.calibrating n' = false → s.flag (F.ADC_SEQA_EN n e) = true → (n = n' ∨ (4 ≤ n ∧ 4 ≤ n')) →
      s.flag (F.ADC_SEQA_EN n' e') = false →
    ∃ t, exec (.adcMove p v) s = .next t ∧ t.adc.moveResult = 0 ∧ t.adc.movePend = some s.now
      ∧ t.word (R.ADC_SEQA n' e') = s.word (R.ADC_SEQA n e) ∧ t.word (R.ADC_SEQA n e) = 0
      ∧ (t.win (s.target n e)).epoch = ((s.win (s.target n e)).epoch + 1) % 16 ∧ s.onlyIn t [.regs, .hif, .sec, .adc])
  ∧ (∀ (p : Port) (v : Word) (s : State), s.ok → s.portOpen = true → s.adc.movePend.isSome = true →
    ∃ t, exec (.adcMove p v) s = .next t ∧ t.adc = s.adc
      ∧ t.get F.HIF_BADACC_CNT_COUNT = min (s.get F.HIF_BADACC_CNT_COUNT + 1) 0xFFFFFFFF ∧ s.onlyIn t [.regs, .hif, .sec])
  ∧ (∀ (x : Tb) (s : State), s.ok → s.adc.movePend = some x → 16000 ≤ elapsed x s.now →
    ∃ t, exec .movePendEnd s = .next t ∧ t.adc.movePend = none ∧ (∀ n, (t.conv n).flight = none) ∧ s.onlyIn t [.adc])
  ∧ (∀ (p : Port) (g : Nat) (s : State), s.ok → s.portOpen = true → s.accTarget = some g → s.get F.ACC_IDX_WORD < 2 →
    ∃ t, exec (.accDataAccess p none) s = .next t ∧ t.ans.read = some (s.word (accAddr g (s.get F.ACC_IDX_WORD))).toNat
      ∧ t.get F.ACC_IDX_WORD = s.get F.ACC_IDX_WORD + 1 ∧ t.get F.ACC_IDX_INDEX = s.get F.ACC_IDX_INDEX
      ∧ s.onlyWords t [R.ACC_IDX] ∧ s.onlyIn t [.regs, .sec, .ans])
  ∧ (∀ (p : Port) (g : Nat) (v : Word) (s : State), s.ok → s.portOpen = true → 1 ≤ s.roleOf p → s.accTarget = some g →
      s.get F.ACC_IDX_WORD = 1 →
    ∃ t, exec (.accDataAccess p (some v)) s = .next t ∧ t.shadowWord (accAddr g 1) = v ∧ t.get F.ACC_IDX_WORD = 2
      ∧ (∀ a, a ≠ R.ACC_IDX → t.word a = s.word a) ∧ (∀ a, a ≠ accAddr g 1 → t.shadowWord a = s.shadowWord a)
      ∧ t.regs.image = s.regs.image ∧ s.onlyIn t [.regs, .sec])
/-! Timers and comparators (chapter 13) -/

/-- What a timer's own events do: a zero reloads or ends the timer, sets ZERO and raises its source where ON_ZERO asks for it (R348,
R349, R353); a match sets MATCH (R351); a trigger acts on a RESET slave at the end of its tick, or is a tick of a CLOCK slave (R355); a capture takes the count and the width
since the rising edge (R356); after a sleep a timer of the AON clock goes on by the ticks that passed (R359). OUT reaches its pin, with
OUT_POL, in the next fabric cycle (R357). -/
def Obligations.TimersActOnTheirEvents : Prop :=
  (∀ (n : Nat) (s : State), s.ok → (s.tmr n).zeroDue = true → (s.tmr n).matchDue = false → (s.tmr n).past = 0 → (s.tmr n).debt = 0 →
      s.flag (F.TMR_CFG_ONESHOT n) = false → s.get (F.TMR_ACT_ON_ZERO n) = 0 →
    ∃ t, exec (.timerZero n) s = .next t ∧ t.flag (F.TMR_STAT_ZERO n) = true ∧ (t.tmr n).per = (s.tmr n).relBuf
      ∧ (s.get (F.TMR_CFG_CLK n) ≠ 3 ∨ s.get (F.TMR_CFG_SLAVE n) = 3 → (t.tmr n).count = (s.tmr n).relBuf)
      ∧ (s.get (F.TMR_CFG_CLK n) = 3 → s.get (F.TMR_CFG_SLAVE n) ≠ 3 → (s.tmr n).ahead = 0 →
          (t.tmr n).count = 0 ∧ (t.tmr n).load = some (s.tmr n).relBuf)
      ∧ (t.tmr n).run = (s.tmr n).run ∧ (t.tmr n).zeroDue = false
      ∧ (∀ m, m ≠ n → (t.tmr m).count = (s.tmr m).count ∧ (t.tmr m).run = (s.tmr m).run) ∧ s.onlyIn t [.regs, .tmrs])
  ∧ (∀ (n : Nat) (s : State), s.ok → (s.tmr n).zeroDue = true → (s.tmr n).matchDue = false → (s.tmr n).past = 0 →
      s.flag (F.TMR_CFG_ONESHOT n) = true → s.get (F.TMR_ACT_ON_ZERO n) = 1 →
    ∃ t, exec (.timerZero n) s = .next t ∧ t.flag (F.TMR_STAT_ZERO n) = true ∧ (t.tmr n).run = false ∧ (t.tmr n).count = 0
      ∧ t.evc = (s.raise (44 + n)).evc ∧ s.onlyIn t [.regs, .evc, .tmrs])
  ∧ (∀ (n : Nat) (s : State), s.ok → (s.tmr n).matchDue = true → (s.tmr n).zeroDue = false → s.get (F.TMR_ACT_ON_MATCH n) = 0 →
    ∃ t, exec (.timerMatch n) s = .next t ∧ t.flag (F.TMR_STAT_MATCH n) = true ∧ t.tmr n = { s.tmr n with matchDue := false }
      ∧ s.onlyWords t [R.TMR_STAT n] ∧ s.onlyIn t [.regs, .tmrs])
  ∧ (∀ (n : Nat) (s : State), s.ok → (s.tmr n).trig = true → s.tmrGoes n = true → s.get (F.TMR_CFG_SLAVE n) = 2 →
      (s.tmr n).zeroDue = false →
    ∃ t, exec (.slaveTrigger n) s = .next t
      ∧ (s.tmrOnAngle n = false → t.tmr n = { s.tmr n with trig := false, cut := true })
      ∧ (s.tmrOnAngle n = true →
          t.tmr n = { s.tmr n with trig := false, load := some (s.get (F.TMR_RELOAD_RELOAD n)), per := s.get (F.TMR_RELOAD_RELOAD n) })
      ∧ (∀ m, m ≠ n → t.tmr m = s.tmr m) ∧ s.onlyIn t [.tmrs])
  ∧ (∀ (n : Nat) (s : State), s.ok → (s.tmr n).trig = true → s.tmrGoes n = true → s.get (F.TMR_CFG_SLAVE n) = 3 →
      (s.tmr n).zeroDue = false →
    ∃ t, exec (.slaveTrigger n) s = .next t ∧ (t.tmr n).count = (s.tmr n).count - 1
      ∧ (t.tmr n).matchDue = ((s.tmr n).matchDue || decide ((s.tmr n).count = s.get (F.TMR_CMP_CMP n)))
      ∧ (t.tmr n).zeroDue = decide ((s.tmr n).count = 0) ∧ (t.tmr n).out = decide (s.get (F.TMR_CMP_CMP n) < (s.tmr n).count)
      ∧ (∀ m, m ≠ n → t.tmr m = s.tmr m) ∧ s.onlyIn t [.tmrs])
  ∧ (∀ (n : Nat) (s : State), s.ok → s.tmrGoes n = true → s.capSource n true = true →
    ∃ t, exec (.timerCapture n true) s = .next t ∧ t.tmr n = { s.tmr n with capR := (s.tmr n).count, widthRun := 0 }
      ∧ (∀ m, m ≠ n → t.tmr m = s.tmr m) ∧ s.onlyIn t [.tmrs])
  ∧ (∀ (n : Nat) (s : State), s.ok → s.tmrGoes n = true → s.capSource n false = true →
    ∃ t, exec (.timerCapture n false) s = .next t
      ∧ t.tmr n = { s.tmr n with capF := (s.tmr n).count, width := (s.tmr n).widthRun, widthNew := true }
      ∧ ((s.tmr n).widthNew = true → t.flag (F.TMR_STAT_CAP_OVR n) = true) ∧ ((s.tmr n).widthNew = false → t.regs = s.regs)
      ∧ (∀ m, m ≠ n → t.tmr m = s.tmr m) ∧ s.onlyWords t [R.TMR_STAT n] ∧ s.onlyIn t [.regs, .tmrs])
  ∧ (∀ s : State, s.ok → s.sys.mode.setupOrOn = true →
    ∃ t, exec .timerCatchup s = .next t ∧ s.onlyIn t [.tmrs] ∧ ∀ (n a : Nat), (s.tmr n).stopped = some a →
      s.get (F.TMR_CFG_SLAVE n) ≠ 3 → s.get (F.TMR_CFG_CLK n) = 2 →
      (t.tmr n).stopped = none ∧ (t.tmr n).count = (s.tmr n).count - (s.clk.aon - a)
        ∧ ((s.tmr n).count ≤ s.clk.aon - a → (t.tmr n).past = s.clk.aon - a - (s.tmr n).count))
  ∧ (∀ (n : Nat) (s : State), n < s.tmrs.length → s.tmrPins.tmrPin n = ((s.tmr n).out != s.flag (F.TMR_PIN_OUT_POL n))
      ∧ (s.tmrPins.tmr n).count = (s.tmr n).count ∧ (s.tmrPins.tmr n).run = (s.tmr n).run)

/-- The host starts and stops timers and writes their reload and compare words (R348 to R352, R358); a comparator's crossing sets
its latch (R341), and a monitor that leaves INSIDE counts the exit (R346). -/
def Obligations.TimerAndComparatorCommands : Prop :=
  (∀ (p : Port) (v : Word) (s : State), s.ok → s.portOpen = true → s.sys.mode.setupOrOn = true →
    ∃ t, exec (.timerStart p v) s = .next t ∧ s.onlyIn t [.regs, .hif, .sec, .tmrs]
      ∧ (∀ n, n < 16 → v.bit n = true → s.flag (F.TMR_CFG_EN n) = true →
          (t.tmr n).run = true ∧ (t.tmr n).count = s.get (F.TMR_RELOAD_RELOAD n) ∧ (t.tmr n).stopped = none)
      ∧ (∀ n, v.bit n = false → t.tmr n = s.tmr n))
  ∧ (∀ (p : Port) (v : Word) (s : State), s.ok → s.portOpen = true →
    ∃ t, exec (.timerStop p v) s = .next t ∧ s.onlyIn t [.regs, .hif, .sec, .tmrs]
      ∧ (∀ n, n < 16 → v.bit n = true → (t.tmr n).run = false ∧ (t.tmr n).count = (s.tmr n).count)
      ∧ (∀ n, v.bit n = false → t.tmr n = s.tmr n))
  ∧ (∀ (p : Port) (n : Nat) (v : Word) (s : State), s.ok → s.portOpen = true → n < 16 →
    ∃ t, exec (.timerReloadWrite p n v) s = .next t ∧ t.get (F.TMR_RELOAD_RELOAD n) = v.toNat
      ∧ ((s.tmr n).run = true → v.toNat < (s.tmr n).count → t.flag (F.TMR_STAT_LONG_PERIOD n) = true)
      ∧ (s.tmr n).count = (t.tmr n).count ∧ s.onlyIn t [.regs, .hif, .sec])
  ∧ (∀ (p : Port) (n : Nat) (v : Word) (s : State), s.ok → s.portOpen = true → n < 16 → s.tmrOnAngle n = true →
      v.toNat = (s.tmr n).count →
    ∃ t, exec (.timerCmpWrite p n v) s = .next t ∧ t.get (F.TMR_CMP_CMP n) = v.toNat ∧ (t.tmr n).matchDue = true
      ∧ s.onlyIn t [.regs, .hif, .sec, .tmrs])
  ∧ (∀ (p : Port) (n : Nat) (v : Word) (s : State), s.ok → s.portOpen = true → n < 16 → s.tmrOnAngle n = false →
    ∃ t, exec (.timerCmpWrite p n v) s = .next t ∧ t.get (F.TMR_CMP_CMP n) = v.toNat ∧ s.onlyIn t [.regs, .hif, .sec])
  ∧ (∀ (b : Nat) (s : State), s.ok → b < s.part.banks → s.analogOn = true → s.testing (cmpBlock (.ghv b)) = false →
      s.cmpNow (.ghv b) ≠ .above →
    ∃ t, exec (.comparatorCrossing (.ghv b) true) s = .next t ∧ t.cmps = { s.cmps with ghv := setAt s.cmps.ghv b .above }
      ∧ t.bitOf F.CMP_HVLAT_BK b = true ∧ s.onlyWords t [R.CMP_HVLAT] ∧ s.onlyIn t [.regs, .cmps])
  ∧ (∀ (b : Nat) (s : State), s.ok → b < s.part.banks → s.analogOn = true → s.testing (cmpBlock (.ghv b)) = false →
      s.cmpNow (.ghv b) ≠ .below →
    ∃ t, exec (.comparatorCrossing (.ghv b) false) s = .next t ∧ t.cmps = { s.cmps with ghv := setAt s.cmps.ghv b .below }
      ∧ s.onlyIn t [.cmps])
  ∧ (∀ (n : Nat) (s : State), s.ok → s.wmRuns n = true → s.testing (cmpBlock (.wmHi n)) = false →
      (s.wmon n).lo = .above → (s.wmon n).hi = .below →
    ∃ t, exec (.comparatorCrossing (.wmHi n) true) s = .next t ∧ (t.wmon n).state = 2 ∧ (t.wmon n).exits = ((s.wmon n).exits + 1) % 65536
      ∧ t.flag (F.CMP_WMSTAT_ABOVE_SEEN n) = true ∧ s.onlyWords t [R.CMP_WMSTAT n] ∧ s.onlyIn t [.regs, .cmps])
/-! The Nib engines (chapter 14) -/

/-- One stroke (R367), in an engine cycle that is due (R365): it waits where FIFO words are missing, for a host access of the same fabric
cycle comes first (R372), and reads stalled where the engine stalls for them (R371); otherwise it goes to the state that its conditions choose, advances with the wrap
at BOTTOM to TOP (R376), sets its ink pins (R370) and shifts a bit in or out (R368). An ink pin in use
drives its level, an open-drain one low only, in SETUP to SAFESTOP (R364, R370). -/
def Obligations.StrokesRun : Prop :=
  (∀ (n : Nat) (ins : List Bool) (s : State), s.ok → s.nibMode n = true → (s.nib n).run = true → s.cycleDue n = true →
      s.nibStalls n (s.strokeAt n (s.nib n).st) = true →
    ∃ t, exec (.stroke n ins) s = .next t ∧ (∀ m, m ≠ n → t.nib m = s.nib m)
      ∧ t.nib n = { s.nib n with stalled := true, todo := some (s.strokeAt n (s.nib n).st, ins), due := s.now + BitVec.ofNat 40 (s.cycleTb n) }
      ∧ s.onlyWords t [] ∧ s.onlyIn t [.regs, .nibs])
  ∧ (∀ (n : Nat) (ins : List Bool) (s : State), (s.cycleDue n = false ∨ s.nibMode n = false ∨ (s.nib n).run = false) →
    exec (.stroke n ins) s = .next s)
  ∧ (∀ (n k ns : Nat) (ins : List Bool) (s : State), s.ok → s.nibMode n = true → (s.nib n).run = true → s.cycleDue n = true →
      k = s.strokeAt n (s.nib n).st → strokeBits k 35 2 = 0 → strokeBits k 39 2 = 0 → strokeBits k 41 1 = 0 →
      ns = strokeBits k (7 * (2 * b2n (s.nibCond n ins (strokeBits k 32 3)) + b2n (s.nibCond n ins (strokeBits k 28 3)))) 7 →
    ∃ t, exec (.stroke n ins) s = .next t ∧ (t.nib n).stalled = false
      ∧ (ns < 64 → (t.nib n).st = ns)
      ∧ (64 ≤ ns → (s.nib n).st ≠ (s.nib n).bottom → (t.nib n).st = ((s.nib n).st + 1) % 64)
      ∧ (64 ≤ ns → (s.nib n).st = (s.nib n).bottom → (s.nib n).mpend = false → (t.nib n).st = (s.nib n).top)
      ∧ (64 ≤ ns → (s.nib n).st = (s.nib n).bottom → (s.nib n).mpend = true → (t.nib n).st = s.get (F.NIB_MARGIN_TOP n)
          ∧ (t.nib n).top = s.get (F.NIB_MARGIN_TOP n) ∧ (t.nib n).bottom = s.get (F.NIB_MARGIN_BOTTOM n) ∧ (t.nib n).mpend = false)
      ∧ (∀ i, i < 8 → (t.nib n).ink.getD i false
          = (if strokeBits k (56 + i) 1 = 1 ∧ s.inkEn n i = true then strokeBits k (48 + i) 1 == 1 else (s.nib n).ink.getD i false))
      ∧ (t.nib n).sr = (s.nib n).sr ∧ (t.nib n).bc = (s.nib n).bc ∧ (t.nib n).sc = (s.nib n).sc ∧ (t.nib n).tx = (s.nib n).tx
      ∧ (t.nib n).rx = (s.nib n).rx ∧ (∀ m, m ≠ n → t.nib m = s.nib m) ∧ s.onlyWords t [] ∧ s.onlyIn t [.regs, .nibs])
  ∧ (∀ (n k : Nat) (ins : List Bool) (s : State), s.ok → s.nibMode n = true → (s.nib n).run = true → s.cycleDue n = true →
      k = s.strokeAt n (s.nib n).st → strokeBits k 35 2 = 1 → strokeBits k 39 2 = 0 → strokeBits k 41 1 = 0 →
      s.flag (F.NIB_CFG_SHDIR n) = false → (s.nib n).bc + 1 < s.nibWidth n →
    ∃ t, exec (.stroke n ins) s = .next t
      ∧ (t.nib n).sr = ((s.nib n).sr * 2 + b2n (s.nibIn n ins (strokeBits k 37 2))) % 2 ^ 32 ∧ (t.nib n).bc = (s.nib n).bc + 1
      ∧ (t.nib n).rx = (s.nib n).rx ∧ (t.nib n).tx = (s.nib n).tx ∧ s.onlyWords t [] ∧ s.onlyIn t [.regs, .nibs])
  ∧ (∀ (n k : Nat) (w : Word) (l : List Word) (ins : List Bool) (s : State), s.ok → s.nibMode n = true → (s.nib n).run = true → s.cycleDue n = true →
      k = s.strokeAt n (s.nib n).st → strokeBits k 35 2 = 2 → strokeBits k 39 2 = 0 → strokeBits k 41 1 = 0 →
      s.flag (F.NIB_CFG_SHDIR n) = false → (s.nib n).bc = 0 → (s.nib n).tx = w :: l →
    ∃ t, exec (.stroke n ins) s = .next t ∧ (t.nib n).sr = w.toNat * 2 % 2 ^ 32 ∧ (t.nib n).bc = 1 % s.nibWidth n ∧ (t.nib n).tx = l
      ∧ ((s.nib n).ink.length = 8 → (t.nib n).ink.getD (s.get (F.NIB_CFG_SOUT n)) false = w.bit (s.nibWidth n - 1))
      ∧ s.onlyWords t [] ∧ s.onlyIn t [.regs, .nibs])
  ∧ (∀ (n k : Nat) (s : State), s.nibPresent n = true → s.flag (F.NIB_CFG_EN n) = true → s.inkEn n k = true →
      (s.sys.mode.setupOrOn = false → s.inkOut n k = none)
      ∧ (s.sys.mode.setupOrOn = true → (s.word (if k < 4 then R.NIB_INKA n else R.NIB_INKB n)).bit (8 * (k % 4) + 6) = false →
          s.inkOut n k = some ((s.nib n).ink.getD k false))
      ∧ (s.sys.mode.setupOrOn = true → (s.word (if k < 4 then R.NIB_INKA n else R.NIB_INKB n)).bit (8 * (k % 4) + 6) = true →
          s.inkOut n k = if (s.nib n).ink.getD k false then none else some false))

/-- The host's control of an engine and its FIFOs (R372, R373), and the changes of a program while it runs (R374 to R376):
a fetch in the fabric cycle of a stroke write takes the old content. -/
def Obligations.NibCommands : Prop :=
  (∀ (p : Port) (n : Nat) (v : Word) (s : State), s.ok → s.portOpen = true → s.nibMode n = true →
    ∃ t, exec (.nibStart p n v) s = .next t
      ∧ t.nib n = { s.nib n with run := true, stalled := false, st := s.get (F.NIB_MARGIN_ENTRY n), sr := 0, bc := 0, sc := 0,
                                 tx := [], rx := [], due := s.now, todo := none }
      ∧ (∀ m, m ≠ n → t.nib m = s.nib m) ∧ s.onlyIn t [.regs, .hif, .sec, .nibs])
  ∧ (∀ (p : Port) (n : Nat) (v : Word) (s : State), s.ok → s.portOpen = true → s.nibPresent n = true → v.bit 0 = false → v.bit 2 = false →
      v.bit 3 = false →
    ∃ t, exec (.nibStop p n v) s = .next t ∧ t.nib n = { s.nib n with run := false, stalled := false }
      ∧ (∀ m, m ≠ n → t.nib m = s.nib m) ∧ s.onlyIn t [.regs, .hif, .sec, .nibs])
  ∧ (∀ (p : Port) (n : Nat) (v : Word) (s : State), s.ok → s.portOpen = true → s.nibMode n = true → v.bit 0 = false → v.bit 1 = false →
      v.bit 3 = false →
    ∃ t, exec (.nibResume p n v) s = .next t ∧ t.nib n = (if (s.nib n).run then s.nib n else { s.nib n with run := true, due := s.now })
      ∧ (∀ m, m ≠ n → t.nib m = s.nib m) ∧ s.onlyIn t [.regs, .hif, .sec, .nibs])
  ∧ (∀ (p : Port) (n : Nat) (v : Word) (s : State), s.ok → s.portOpen = true → s.nibPresent n = true → v.bit 0 = false → v.bit 1 = false →
      v.bit 2 = false →
    ∃ t, exec (.nibFlush p n v) s = .next t ∧ t.nib n = { s.nib n with tx := [], rx := [] }
      ∧ (∀ m, m ≠ n → t.nib m = s.nib m) ∧ s.onlyIn t [.regs, .hif, .sec, .nibs])
  ∧ (∀ (p : Port) (n : Nat) (v : Word) (s : State), s.ok → s.portOpen = true → s.nibPresent n = true → (s.fifoLevels n).1 < 8 →
    ∃ t, exec (.nibTxWrite p n v) s = .next t ∧ t.nib n = { s.nib n with tx := (s.nib n).tx ++ [v] }
      ∧ (∀ m, m ≠ n → t.nib m = s.nib m) ∧ s.onlyIn t [.regs, .hif, .sec, .nibs])
  ∧ (∀ (p : Port) (n : Nat) (v : Word) (s : State), s.ok → s.portOpen = true → s.nibPresent n = true → 8 ≤ (s.fifoLevels n).1 →
    ∃ t, exec (.nibTxWrite p n v) s = .next t ∧ t.get F.HIF_BADACC_CNT_COUNT = min (s.get F.HIF_BADACC_CNT_COUNT + 1) 0xFFFFFFFF
      ∧ s.onlyIn t [.regs, .hif, .sec])
  ∧ (∀ (p : Port) (n : Nat) (w : Word) (l : List Word) (s : State), s.ok → s.portOpen = true → s.nibPresent n = true →
      (s.nib n).rx = w :: l → (s.fifoLevels n).2 ≠ 0 →
    ∃ t, exec (.nibRxRead p n) s = .next t ∧ t.ans.read = some w.toNat ∧ t.nib n = { s.nib n with rx := l }
      ∧ (∀ m, m ≠ n → t.nib m = s.nib m) ∧ s.onlyWords t [] ∧ s.onlyIn t [.regs, .sec, .nibs, .ans])
  ∧ (∀ (p : Port) (n : Nat) (v : Word) (s : State), s.ok → s.portOpen = true → s.nibPresent n = true → 1 ≤ s.roleOf p →
    ∃ t, exec (.strokeWrite p n v) s = .next t 
      ∧ t.word (strokeAddr n (s.get (F.NIB_SIDX_IDX n)) 0) = (s.nib n).loHold ∧ t.word (strokeAddr n (s.get (F.NIB_SIDX_IDX n)) 1) = v
      ∧ (s.clk.tbRun = true → t.strokeAt n (s.get (F.NIB_SIDX_IDX n)) = s.strokeAt n (s.get (F.NIB_SIDX_IDX n)))
      ∧ t.shadowWord (strokeAddr n (s.get (F.NIB_SIDX_IDX n)) 0) = (s.nib n).loHold
      ∧ t.shadowWord (strokeAddr n (s.get (F.NIB_SIDX_IDX n)) 1) = v
      ∧ t.get (F.NIB_SIDX_IDX n) = (s.get (F.NIB_SIDX_IDX n) + 1) % 64 ∧ t.regs.image = s.regs.image ∧ s.onlyIn t [.regs, .sec])
  ∧ (∀ (p : Port) (n : Nat) (s : State), s.ok → s.portOpen = true → s.nibPresent n = true →
    ∃ t, exec (.strokeReadLatch p n) s = .next t
      ∧ t.ans.read = some (s.word (strokeAddr n (s.get (F.NIB_SIDX_IDX n)) 0)).toNat
      ∧ t.nib n = { s.nib n with hiLatch := s.word (strokeAddr n (s.get (F.NIB_SIDX_IDX n)) 1) } ∧ s.onlyIn t [.sec, .nibs, .ans])
  ∧ (∀ (p : Port) (n : Nat) (v : Word) (s : State), s.ok → s.portOpen = true → s.nibPresent n = true → 1 ≤ s.roleOf p →
      v.bits 0 6 ≤ v.bits 8 6 →
    ∃ t, exec (.marginWrite p n v) s = .next t ∧ t.word (R.NIB_MARGIN n) = Word.ofN (v.toNat &&& 0x3F3F3F)
      ∧ t.shadowWord (R.NIB_MARGIN n) = Word.ofN (v.toNat &&& 0x3F3F3F)
      ∧ ((s.nib n).run = true → t.nib n = { s.nib n with mpend := true })
      ∧ ((s.nib n).run = false → t.nib n = { s.nib n with top := v.bits 0 6, bottom := v.bits 8 6, mpend := false })
      ∧ (∀ m, m ≠ n → t.nib m = s.nib m) ∧ s.onlyIn t [.regs, .sec, .nibs])
  ∧ (∀ (p : Port) (n : Nat) (v : Word) (s : State), s.ok → s.portOpen = true → s.nibPresent n = true → v.bits 8 6 < v.bits 0 6 →
    ∃ t, exec (.marginWrite p n v) s = .next t ∧ t.get F.HIF_BADACC_CNT_COUNT = min (s.get F.HIF_BADACC_CNT_COUNT + 1) 0xFFFFFFFF
      ∧ s.onlyWords t [R.HIF_BADACC_CNT] ∧ s.onlyIn t [.regs, .sec])

/-! The event concentrator (chapter 15) -/

/-- Groups become ready by time (R386); ready sources go to the next idle target, one delivery for each target (R387, R388); claims,
completions, order faults and releases act on the target's stack and presented set (R390 to R394); an edge on an external line is an
occurrence (R384). -/
def Obligations.ConcentratorDelivers : Prop :=
  (∀ (k : Nat) (s : State), s.ok → s.sys.mode.evcRuns = true → s.groupDue k = true →
    ∃ t, exec (.groupReadyTime k) s = .next t ∧ (t.evc.groups.getD k Group.initial).ready = true
      ∧ (∀ n, srcGroup n = k → (s.src n).pend = true → (t.src n).ready = true)
      ∧ (∀ n, srcGroup n ≠ k → t.src n = s.src n) ∧ t.evc.targets = s.evc.targets ∧ s.onlyIn t [.evc])
  ∧ (∀ (n g : Nat) (s : State), s.ok → s.sys.mode.evcRuns = true → (s.src n).ready = true → (s.src n).pend = true →
      (∀ m, m ≠ n → ((s.src m).ready && (s.src m).pend) = false) → s.pick (s.evc.targets.map Target.idle) n = some g →
    ∃ t, exec .sourceAssign s = .next t ∧ n ∈ (t.tgt g).pres ∧ (t.tgt g).delivered = true ∧ (t.src n).pend = false
      ∧ (t.src n).ready = false ∧ (t.src n).last = g ∧ s.onlyIn t [.hif, .evc])
  ∧ (∀ (p : Port) (g n : Nat) (s : State), s.ok → s.portOpen = true → g < 4 → n < 64 → n ∈ (s.tgt g).pres → (s.tgt g).stack.length < 4 →
    ∃ t, exec (.evcClaim p g n) s = .next t ∧ (t.tgt g).stack = n :: (s.tgt g).stack ∧ n ∉ (t.tgt g).pres ∧ (t.src n).claimed = true
      ∧ (t.src n).late = 0 ∧ (t.src n).fold = (s.src n).fold ∧ (∀ h, h ≠ g → t.tgt h = s.tgt h)
      ∧ s.onlyIn t [.regs, .hif, .evc, .sec])
  ∧ (∀ (p : Port) (g n : Nat) (s : State), s.ok → s.portOpen = true → g < 4 → n < 64 → n ∉ (s.tgt g).pres →
    ∃ t, exec (.evcClaim p g n) s = .next t ∧ t.get F.EVC_CMD_ERR_CNT_COUNT = min (s.get F.EVC_CMD_ERR_CNT_COUNT + 1) 0xFFFFFFFF
      ∧ s.onlyIn t [.regs, .hif, .sec])
  ∧ (∀ (p : Port) (g n m : Nat) (l : List Nat) (s : State), s.ok → s.portOpen = true → g < 4 → n < 64 → (s.tgt g).stack = n :: m :: l →
      s.levelSrc n = false → (s.src n).late = 0 →
    ∃ t, exec (.evcComplete p g n) s = .next t ∧ (t.tgt g).stack = m :: l ∧ (t.tgt g).pres = (s.tgt g).pres
      ∧ (t.src n).claimed = false ∧ (t.src n).fold = 0 ∧ (∀ h, h ≠ g → t.tgt h = s.tgt h) ∧ s.onlyIn t [.regs, .hif, .evc, .sec])
  ∧ (∀ (p : Port) (g n : Nat) (s : State), s.ok → s.portOpen = true → g < 4 → n < 64 → (s.tgt g).stack = [n] →
      s.levelSrc n = false → (s.src n).late = 0 → n ∉ (s.tgt g).pres →
    ∃ t, exec (.evcComplete p g n) s = .next t ∧ (t.tgt g).idle = true ∧ (t.tgt g).pres = [] ∧ (t.src n).claimed = false
      ∧ (∀ m, m < 64 → m ∈ (s.tgt g).pres → s.srcThere m = true →
        (t.src m).pend = true ∧ (t.src m).ready = true ∧ (t.src m).fold = (s.src m).fold)
      ∧ s.onlyIn t [.regs, .hif, .evc, .sec])
  ∧ (∀ (p : Port) (g n m : Nat) (l : List Nat) (s : State), s.ok → s.portOpen = true → g < 4 → n < 64 → (s.tgt g).stack = m :: l → m ≠ n →
    ∃ t, exec (.evcComplete p g n) s = .next t ∧ t.evc.targets = s.evc.targets ∧ t.evc = (s.raise 63).evc ∧ t.alarmed 28
      ∧ (s.hif.alarms.length < foldLevel → t.hif.alarms = s.hif.alarms
          ++ [{ id := 28, sub := g, time := s.now, data := n + place 6 6 m, data2 := 0, rep := false, count := 0, last := s.now }])
      ∧ t.get F.EVC_ORDER_CNT_COUNT = min (s.get F.EVC_ORDER_CNT_COUNT + 1) 0xFFFFFFFF ∧ s.onlyIn t [.regs, .hif, .evc, .sec])
  ∧ (∀ (p : Port) (g n : Nat) (s : State), s.ok → s.portOpen = true → g < 4 → n < 64 → (s.tgt g).stack = [] →
    ∃ t, exec (.evcComplete p g n) s = .next t ∧ t.evc.targets = s.evc.targets ∧ t.evc = (s.raise 63).evc ∧ t.alarmed 28
      ∧ (s.hif.alarms.length < foldLevel → t.hif.alarms = s.hif.alarms
          ++ [{ id := 28, sub := g, time := s.now, data := n + 4096, data2 := 0, rep := false, count := 0, last := s.now }])
      ∧ t.get F.EVC_ORDER_CNT_COUNT = min (s.get F.EVC_ORDER_CNT_COUNT + 1) 0xFFFFFFFF ∧ s.onlyIn t [.regs, .hif, .evc, .sec])
  ∧ (∀ (p : Port) (g : Nat) (s : State), s.ok → s.portOpen = true → g < 4 → (s.tgt g).stack = [] →
    ∃ t, exec (.evcRelease p g) s = .next t ∧ (t.tgt g).idle = true ∧ (t.tgt g).pres = []
      ∧ (∀ m, m < 64 → m ∈ (s.tgt g).pres → (t.src m).pend = true ∧ (t.src m).ready = true ∧ (t.src m).fold = (s.src m).fold)
      ∧ s.onlyIn t [.regs, .hif, .evc, .sec])
  ∧ (∀ (p : Port) (g : Nat) (s : State), s.ok → s.portOpen = true → g < 4 → (s.tgt g).stack ≠ [] →
    ∃ t, exec (.evcRelease p g) s = .next t ∧ t.get F.EVC_CMD_ERR_CNT_COUNT = min (s.get F.EVC_CMD_ERR_CNT_COUNT + 1) 0xFFFFFFFF
      ∧ s.onlyIn t [.regs, .hif, .sec])
  ∧ (∀ (n : Nat) (s : State), s.ok → n < 8 → s.sys.mode.evcRuns = true → s.flag (F.CMP_WMCFG_EXT n) = false →
      s.flag (F.EVC_EXTCFG_EN n) = true → s.get (F.EVC_EXTCFG_MODE n) = 0 → s.evc.ext.getD n false = false →
    ∃ t, exec (.extLineEdge n true) s = .next t ∧ t = ({ s with evc := { s.evc with ext := setAt s.evc.ext n true } } : State).raise (36 + n)
      ∧ ((s.src (36 + n)).claimed = false → (s.src (36 + n)).pend = false → s.evc.presented (36 + n) = false →
          (t.src (36 + n)).pend = true ∧ (t.src (36 + n)).fold = 1))
/-! The mode controller (chapter 16) -/

/-- Requests (R403, Table 16.1): one that the present mode does not know has RESULT 2, and an accepted one is carried out: sleep
begins, SAFESTOP, SETUP, ARMED and MAINT are entered, and MAINT is left through a reset. Where a reset, a SAFESTOP cause or what moves the
wheel tracker waits in the queue, the request is judged after it (R405; the queue is the fabric cycle, log entry 56). -/
def Obligations.ModeRequests : Prop :=
  (∀ (p : Port) (vigil : Bool) (s : State), s.ok → s.portOpen = true → s.pending.any outranks = false → s.sys.mode = .armed → s.workOut = false →
    ∃ t, exec (.modeRequestDormant p vigil) s = .next t ∧ t.sys.mode = .armed ∧ t.sys.result = 0
      ∧ t.sys.req = (if vigil then 2 else 1) ∧ t.sys.sleep = some { vigil := vigil, since := s.now }
      ∧ s.onlyIn t [.regs, .sys, .hif, .sec, .adc, .grds])
  ∧ (∀ (p : Port) (vigil : Bool) (s : State), s.ok → s.portOpen = true → s.pending.any outranks = false → s.sys.mode ≠ .armed →
    ∃ t, exec (.modeRequestDormant p vigil) s = .next t ∧ t.sys = { s.sys with req := if vigil then 2 else 1, result := 2, asked := none }
      ∧ s.onlyIn t [.sys, .sec])
  ∧ (∀ (p : Port) (s : State), s.ok → s.portOpen = true → s.pending.any outranks = false → s.sys.mode.engine = true →
    ∃ t, exec (.modeRequestSafestop p) s = .next t ∧ t.sys.mode = .safestop ∧ t.sys.safeCause = 2 ∧ t.sys.sleep = none
      ∧ t.alarmed 14 ∧ (∀ n, (t.chan n).gl = false) ∧ (∀ b, (t.bank b).ghv = false ∧ (t.bank b).ghb = false))
  ∧ (∀ (p : Port) (s : State), s.ok → s.portOpen = true → s.pending.any outranks = false → s.sys.mode = .armed → 1 ≤ s.roleOf p → s.workOut = false →
    ∃ t, exec (.modeRequestSetup p) s = .next t ∧ t.sys.mode = .setup ∧ t.sys.prev = .armed ∧ t.sys.sleep = none)
  ∧ (∀ (p : Port) (s : State), s.ok → s.portOpen = true → s.pending.any outranks = false → s.sys.mode = .setup → 1 ≤ s.roleOf p → s.sys.image = 0 → s.regs.dirty = [] →
      s.clk.dieTrained = true →
    ∃ t, exec (.modeRequestArmed p) s = .next t ∧ t.sys.mode = .armed ∧ t.sys.prev = .setup ∧ t.hif.heardAt = s.now)
  ∧ (∀ (p : Port) (s : State), s.ok → s.portOpen = true → s.pending.any outranks = false → s.sys.mode = .setup → 2 ≤ s.roleOf p →
    ∃ t, exec (.modeRequestMaint p) s = .next t ∧ t.sys.mode = .maint ∧ t.sys.prev = .setup
      ∧ (s.jRoom (s.roleOf p) 1 = true → t.sec.counter = s.sec.counter + 1) ∧ s.onlyIn t [.regs, .sys, .hif, .sec, .ink])
  ∧ (∀ (p : Port) (s : State), s.ok → s.portOpen = true → s.pending.any outranks = false → s.sys.mode = .maint → 2 ≤ s.roleOf p →
    ∃ t, exec (.modeRequestMaintExit p) s = .next t ∧ t.sys.mode = .boot ∧ t.sys.prev = .maint ∧ t.sys.bootStep = 1
      ∧ t.flag F.SYS_RSTCAUSE_MAINT_EXIT = true ∧ t.sec.role = 0 ∧ t.regs.image = s.regs.image ∧ t.part = s.part)
  ∧ (∀ (p : Port) (s : State), s.ok → s.portOpen = true → s.pending.any outranks = true →
    ∃ t, exec (.modeRequestSafestop p) s = .next t ∧ t.sys = { s.sys with asked := some (p, 11) } ∧ s.onlyIn t [.sys, .sec])

/-- Sleep (R410, R411): idleness begins an entry, the commit point stops the fast domains and ends the session, and a wait too long
cancels it with RESULT 3; a wake records its source and boots, or cancels an entry under way (R411, R413). -/
def Obligations.SleepAndWake : Prop :=
  (∀ s : State, s.ok → s.idleDue = true →
    ∃ t, exec .idleTimeout s = .next t ∧ t.sys = { s.sys with sleep := some { vigil := s.flag F.SYS_MODECFG_SLEEP_TO, since := s.now } }
      ∧ s.onlyIn t [.regs, .sys, .hif, .adc, .grds])
  ∧ (∀ (k : Sleep) (s : State), s.ok → s.sys.sleep = some k → s.sys.mode = .armed → s.sleepReady = true →
    ∃ t, exec .sleepCommit s = .next t ∧ t.sys.mode = (if k.vigil then .vigil else .dormant) ∧ t.sys.prev = .armed
      ∧ t.sys.sleep = none ∧ t.clk.tbRun = false ∧ t.clk.dieTrained = false ∧ t.clk.aon = s.clk.aon ∧ t.sec.role = 0
      ∧ t.sec.journal = s.sec.journal ∧ (∀ n, (t.chan n).gl = false))
  ∧ (∀ (k : Sleep) (s : State), s.ok → s.sys.sleep = some k → 80000000 < elapsed k.since s.now →
    ∃ t, exec .sleepWaitTimeout s = .next t ∧ t.sys = { s.sys with sleep := none, result := 3 })
  ∧ (∀ (w : WakeSrc) (s : State), s.ok → s.wakes w = true → s.sys.sleep = none → s.sys.mode.asleep = true →
    ∃ t, exec (.wakeDecision w) s = .next t ∧ t.sys.mode = .boot ∧ t.sys.bootStep = 1 ∧ t.sys.bootWake = true
      ∧ t.word R.SYS_WAKESTAT = Word.ofN (wakeBits w) ∧ t.flag F.SYS_RSTCAUSE_WAKE = true ∧ t.grds = s.grds ∧ t.tmrs = s.tmrs
      ∧ t.hif.rings = s.hif.rings ∧ t.sec.journal = s.sec.journal ∧ t.clk.aon = s.clk.aon)
  ∧ (∀ (w : WakeSrc) (k : Sleep) (s : State), s.ok → s.wakes w = true → s.sys.sleep = some k →
    ∃ t, exec (.wakeDecision w) s = .next t ∧ t.sys = { s.sys with sleep := none })

/-- SAFESTOP (R405 to R409): each cause takes the engine modes there with every gate low, adds itself in SAFESTOP and only sets its
SEEN bit in SETUP; a cause that no longer holds leaves ACTIVE; an exit follows the tracker. Losses of the die link and of the
reference take every gate low and the engine modes to SAFESTOP with cause 1 (R27, R28, R421); a training that succeeds lifts the
cause. -/
def Obligations.SafestopAndItsCauses : Prop :=
  (∀ s : State, s.ok → s.sys.mode.engine = true →
    ∃ t, exec .safestopSupply s = .next t ∧ t.sys.mode = .safestop ∧ t.sys.prev = s.sys.mode ∧ t.sys.safeCause = 3
      ∧ 3 ∈ t.sys.safeActive ∧ t.alarmed 14 ∧ (∀ n, (t.chan n).gl = false))
  ∧ (∀ s : State, s.ok → s.sys.mode.engine = true →
    ∃ t, exec .safestopTemperature s = .next t ∧ t.sys.mode = .safestop ∧ t.sys.safeCause = 4 ∧ 4 ∈ t.sys.safeActive ∧ t.alarmed 14
      ∧ (∀ n, (t.chan n).gl = false))
  ∧ (∀ s : State, s.ok → s.sys.mode = .safestop →
    ∃ t, exec .safestopTemperature s = .next t ∧ t.sys = { s.sys with safeActive := insertNat 4 s.sys.safeActive }
      ∧ t.bitOf F.SYS_SAFESTAT_SEEN 3 = true ∧ s.onlyWords t [R.SYS_SAFESTAT] ∧ s.onlyIn t [.regs, .sys])
  ∧ (∀ s : State, s.ok → s.sys.mode = .setup →
    ∃ t, exec .safestopSupply s = .next t ∧ t.bitOf F.SYS_SAFESTAT_SEEN 2 = true ∧ s.onlyWords t [R.SYS_SAFESTAT] ∧ s.onlyIn t [.regs])
  ∧ (∀ s : State, s.ok → s.flag F.SYS_SAFECFG_STOP_EN = true → s.sys.mode.engine = true →
    ∃ t, exec .stopPin s = .next t ∧ t.sys.mode = .safestop ∧ t.sys.safeCause = 6 ∧ 6 ∈ t.sys.safeActive ∧ t.alarmed 14
      ∧ (∀ n, (t.chan n).gl = false))
  ∧ (∀ (c : Nat) (s : State), s.ok → s.causeOver c = true →
    ∃ t, exec (.safestopCauseCleared c) s = .next t ∧ t.sys = { s.sys with safeActive := s.sys.safeActive.filter (fun x => x != c) }
      ∧ s.onlyIn t [.sys])
  ∧ (∀ (p : Port) (s : State), s.ok → s.portOpen = true → s.sys.mode = .safestop → s.sys.safeActive = [] →
      s.flag F.SYS_SAFECFG_EXIT_I = false → s.sys.fbPend = false → s.pending.any outranks = false →
    ∃ t, exec (.safestopExit (.reg p)) s = .next t ∧ t.sys.mode = s.whl.sync.mode ∧ t.sys.prev = .safestop ∧ t.sys.result = 0)
  ∧ (∀ (tag : Word) (s : State), s.ok → s.mqReady = true → s.sys.mode = .safestop → s.sys.safeActive ≠ [] →
      s.flag F.SYS_SAFECFG_EXIT_I = false →
    ∃ t, exec (.safestopExit (.mq tag)) s = .next t ∧ s.completes t tag 10 0 ∧ s.onlyIn t [.hif])
  ∧ (∀ s : State, s.ok → s.clk.dieTrained = true → s.sys.mode.engine = true →
    ∃ t, exec .dieLinkLoss s = .next t ∧ t.sys.mode = .safestop ∧ t.sys.safeCause = 1 ∧ 1 ∈ t.sys.safeActive ∧ t.clk.dieTrained = false
      ∧ t.clk.dieLostAt = some s.now ∧ t.alarmed 14 ∧ (∀ n, (t.chan n).gl = false)
      ∧ (∀ b, (t.bank b).ghv = false ∧ (t.bank b).ghb = false))
  ∧ (∀ (x : Tb) (s : State), s.ok → s.clk.dieLostAt = some x → 80000 ≤ elapsed x s.now →
    ∃ t, exec (.dieLinkRetrain true) s = .next t ∧ t.clk = { s.clk with dieTrained := true, dieLostAt := none }
      ∧ t.sys = { s.sys with safeActive := s.sys.safeActive.filter (fun c => c != 1) } ∧ s.onlyIn t [.clk, .sys, .sch])
  ∧ (∀ (x : Tb) (s : State), s.ok → s.clk.dieLostAt = some x → 80000 ≤ elapsed x s.now →
    ∃ t, exec (.dieLinkRetrain false) s = .next t ∧ t = { s with clk := { s.clk with dieLostAt := none } })
  ∧ (∀ s : State, s.ok → s.clk.tbRun = true → s.sys.mode.engine = true →
    ∃ t, exec .referenceLoss s = .next t ∧ t.sys.mode = .safestop ∧ t.sys.safeCause = 1 ∧ t.clk.tbRun = false ∧ t.clk.pllLock = false
      ∧ t.clk.tb = s.clk.tb ∧ (∀ n, (t.chan n).gl = false))
  ∧ (∀ s : State, s.flag F.SYS_CLKCFG_AON_SRC = true → s.sys.mode ≠ .off →
    ∃ t, exec .aonCrystalSwitch s = .next t ∧ t = { s with clk := { s.clk with aonXtal := true } })

/-- The fallback plan: SYS_FBDATA reads the live plan and writes the shadow plan at SYS_FBIDX and advances it (R415); an entry that
is due is admitted as a NEW of source 8, or refused, once for each cycle (R417). Silence of the host is a fallback cause (R268,
R416): pending in ARMED, and in HALF to SUSPECT with a plan it sets the fallback flag. A write of HIF_HEARTBEAT is the host being
heard, even where the busy port drops the write itself. -/
def Obligations.FallbackCausesAndThePlan : Prop :=
  (∀ (p : Port) (s : State), s.ok → s.portOpen = true →
    ∃ t, exec (.fbdataAccess p none) s = .next t
      ∧ t.ans.read = some (s.word (planAddr (s.get fbIndex / 8) (s.get fbIndex % 8))).toNat
      ∧ t.get fbIndex = (s.get fbIndex + 1) % 4096 ∧ s.onlyWords t [R.SYS_FBIDX] ∧ s.onlyIn t [.regs, .sec, .ans])
  ∧ (∀ (p : Port) (v : Word) (s : State), s.ok → s.portOpen = true → 1 ≤ s.roleOf p →
    ∃ t, exec (.fbdataAccess p (some v)) s = .next t ∧ t.shadowWord (planAddr (s.get fbIndex / 8) (s.get fbIndex % 8)) = v
      ∧ t.get fbIndex = (s.get fbIndex + 1) % 4096 ∧ (∀ a, a ≠ R.SYS_FBIDX → t.word a = s.word a) ∧ s.onlyIn t [.regs, .sec])
  ∧ (∀ (p : Port) (v : Word) (s : State), s.ok → s.portOpen = true → s.roleOf p = 0 →
    ∃ t, exec (.fbdataAccess p (some v)) s = .next t ∧ t.get fbIndex = (s.get fbIndex + 1) % 4096 ∧ t.regs.shadow = s.regs.shadow
      ∧ s.onlyIn t [.regs, .hif, .sec])
  ∧ (∀ (e : Nat) (s : State), s.ok → s.planDue e = true → s.free ≠ 0 → s.admitCheck (s.planDesc e) 0 = none →
    ∃ t, exec (.fallbackAdmission e) s = .next t ∧ t.sys.fbAdmitted = min (s.sys.fbAdmitted + 1) 65535 ∧ e ∉ t.sys.fbDue
      ∧ assocGet e t.sys.fbDone = some (s.planTag e) ∧ t.sch.store.length = s.sch.store.length + 1)
  ∧ (∀ (e c : Nat) (s : State), s.ok → s.planDue e = true → s.free ≠ 0 → s.admitCheck (s.planDesc e) 0 = some c →
      s.flag F.HIF_FBCFG_FB_RES = false →
    ∃ t, exec (.fallbackAdmission e) s = .next t ∧ t.sys.fbAdmitted = s.sys.fbAdmitted ∧ e ∉ t.sys.fbDue ∧ t.sch = s.sch
      ∧ t.get F.SCH_REJ_CNT_COUNT = min (s.get F.SCH_REJ_CNT_COUNT + 1) 0xFFFFFFFF ∧ s.onlyIn t [.regs, .sys])
  ∧ (∀ s : State, s.silenceDue = true → s.sys.mode = .armed ∨ s.sys.mode = .seek ∨ s.sys.mode = .safestop →
    ∃ t, exec .hostSilence s = .next t ∧ t.hif = { s.hif with silent := true } ∧ t.sys = { s.sys with fbPend := true, fbCause := 2 }
      ∧ s.onlyWords t [] ∧ s.onlyIn t [.regs, .hif, .sys])
  ∧ (∀ s : State, s.silenceDue = true → s.sys.mode = .half ∨ s.sys.mode = .full ∨ s.sys.mode = .suspect → s.planOn = true →
    ∃ t, exec .hostSilence s = .next t ∧ t.hif.silent = true ∧ t.sys.fbFlag = true ∧ t.sys.fbCause = 2 ∧ t.sys.mode = s.sys.mode
      ∧ s.onlyIn t [.regs, .hif, .sys])
  ∧ (∀ (p : Port) (v : Word) (s : State),
    ∃ t, exec (.hifHeartbeat p v) s = .next t ∧ t.hif.heardAt = s.now ∧ t.hif.silent = false
      ∧ (s.portOpen = true → s.onlyIn t [.hif, .sec])
      ∧ (s.portOpen = false → s.onlyWords t [R.SYS_REFUSED] ∧ s.onlyIn t [.regs, .hif]))

/-- Resets (R422, Table 16.4): the installer's reset and a brownout restart the device in BOOT with their cause, and the loss of
VAON leaves only what MRAM and fuses hold; boot goes through its steps in order (R423, Table 16.3), and an image that does not check
ends it in SETUP. A supply that DORMANT or VIGIL loses costs the link, not the sleep; a wake waits for it, and records it as a
brownout when it is back (R270, R488; RAIL is log entry 61). -/
def Obligations.ResetsAndBoot : Prop :=
  (∀ (p : Port) (v : Word) (s : State), s.ok → s.portOpen = true → 1 ≤ s.roleOf p → v.bits 0 16 = 0x5EED →
    ∃ t, exec (.softwareReset p v) s = .next t ∧ t.sys.mode = .boot ∧ t.sys.prev = s.sys.mode ∧ t.sys.bootStep = 1
      ∧ t.flag F.SYS_RSTCAUSE_SOFT = true ∧ t.sec.role = 0 ∧ t.sec.journal = s.sec.journal ∧ t.regs.image = s.regs.image
      ∧ t.clk.aon = s.clk.aon ∧ (∀ n, (t.chan n).gl = false))
  ∧ (∀ (p : Port) (v : Word) (s : State), s.ok → s.portOpen = true → s.roleOf p = 0 → v.bits 0 16 ≠ 0 →
    ∃ t, exec (.softwareReset p v) s = .next t ∧ t.get F.SEC_ROLE_DENY_COUNT = min (s.get F.SEC_ROLE_DENY_COUNT + 1) 0xFFFFFFFF
      ∧ s.onlyWords t [R.SEC_ROLE_DENY] ∧ s.onlyIn t [.regs, .hif, .sec])
  ∧ (∀ (r : BrownRail) (s : State), s.ok → s.sys.mode ≠ .off → s.sys.mode.asleep = false →
    ∃ t, exec (.brownoutReset r) s = .next t ∧ t.sys.mode = .boot ∧ t.sys.bootStep = 0 ∧ t.flag F.SYS_RSTCAUSE_BROWNOUT = true
      ∧ t.get F.SYS_RSTCAUSE_RAIL = railNum r ∧ t.sec.role = 0 ∧ t.sec.journal = s.sec.journal ∧ (∀ n, (t.chan n).gl = false))
  ∧ (∀ s : State, s.ok → s.sys.mode = .boot → s.sys.bootStep = 0 →
    ∃ t, exec .brownoutRelease s = .next t ∧ t = { s with sys := { s.sys with bootStep := 1, bootSince := s.clk.aon } })
  ∧ (∀ s : State, s.ok →
    ∃ t, exec .powerLoss s = .next t ∧ t.sys.mode = .off ∧ t.part = s.part ∧ t.regs.image = s.regs.image ∧ t.sec.ikey = s.sec.ikey
      ∧ t.sec.journal = s.sec.journal ∧ t.tst.marks = s.tst.record ∧ t.regs.live = State.reset.regs.live ∧ t.sec.role = 0
      ∧ t.sch = State.reset.sch ∧ t.pending = s.pending)
  ∧ (∀ s : State, s.ok → s.sys.mode = .off →
    ∃ t, exec .powerOnReset s = .next t ∧ t.sys = State.reset.sys ∧ t.sec.journal = s.sec.journal ∧ t.regs.image = s.regs.image)
  ∧ (∀ s : State, s.sys.mode = .boot → s.sys.bootStep = 1 → s.sys.missing = [] →
    ∃ t, exec .referenceQualified s = .next t ∧ t = { s with clk := { s.clk with refOk := true }, sys := { s.sys with bootStep := 2 } })
  ∧ (∀ s : State, s.sys.mode = .boot → s.sys.bootStep = 2 →
    ∃ t, exec .pllLocked s = .next t ∧ t.clk.pllLock = true ∧ t.clk.tbRun = true ∧ t.sys = { s.sys with bootStep := 3 }
      ∧ s.onlyIn t [.clk, .sys])
  ∧ (∀ s : State, s.ok → s.sys.mode = .boot → s.sys.bootStep = 3 →
    ∃ t, exec .dieLinkTrained s = .next t ∧ t.clk = { s.clk with dieTrained := true } ∧ t.sys = { s.sys with bootStep := 5 }
      ∧ t.hif = { s.hif with cold := false } ∧ t.ink.resv = s.ink.resv
      ∧ (∀ b, b < 24 → t.cmpNow (.peak b) = .unsettled) ∧ s.onlyIn t [.clk, .sys, .cmps, .hif, .ink])
  ∧ (∀ s : State, s.ok → s.sys.mode = .boot → s.sys.bootStep = 5 → s.regs.imgKind = 0 →
    ∃ t, exec .imageChecked s = .next t ∧ t.sys.image = 0 ∧ t.sys.bootStep = 6 ∧ t.regs.shadow = s.regs.image
      ∧ (s.sys.bootWake = false → t.tst.running = true))
  ∧ (∀ s : State, s.ok → s.sys.mode = .boot → s.sys.bootStep = 5 → s.regs.imgKind ≠ 0 →
    ∃ t, exec .imageChecked s = .next t ∧ t.sys.image = s.regs.imgKind ∧ t.sys.bootStep = 6 ∧ t.regs.shadow = s.regs.shadow
      ∧ t.regs.live = s.regs.live)
  ∧ (∀ s : State, s.ok → s.sys.mode = .boot → s.sys.bootStep = 6 → s.tst.running = false → s.sys.image ≠ 0 →
    ∃ t, exec .bootComplete s = .next t ∧ t.sys.mode = .setup ∧ t.sys.prev = .boot ∧ t.sys.bootStep = 8 ∧ t.sys.bootT = s.bootTime
      ∧ s.onlyIn t [.sys, .ink, .grds])
  ∧ (∀ s : State, s.ok → s.sys.mode = .boot → s.sys.bootStep = 6 → s.tst.running = false → s.sys.image = 0 → s.sys.bootWake = false →
      s.get F.SYS_MODECFG_BOOT_TO = 0 → s.clk.dieTrained = true →
    ∃ t, exec .bootComplete s = .next t ∧ t.sys.mode = .armed ∧ t.sys.prev = .boot ∧ t.sys.bootT = s.bootTime)
  ∧ (∀ (r : BrownRail) (s : State), s.ok → s.sys.mode.asleep = true →
    ∃ t, exec (.brownoutReset r) s = .next t ∧ t.sys = { s.sys with missing := s.sys.missing.filter (fun x => x != railNum r) ++ [railNum r] }
      ∧ (r = .vcore ∨ r = .vphy08 ∨ r = .vphy18 → t.hif.up = false ∧ t.hif.cold = true)
      ∧ (r = .vio ∨ r = .vdda → t.hif = s.hif) ∧ t.hif.rings = s.hif.rings ∧ s.onlyIn t [.regs, .sys, .hif])
  ∧ (∀ s : State, s.sys.mode = .boot → s.sys.bootStep = 1 → s.sys.missing ≠ [] →
    exec .referenceQualified s = .next s
      ∧ ∃ t, exec .brownoutRelease s = .next t ∧ t.sys = { s.sys with missing := [] } ∧ t.flag F.SYS_RSTCAUSE_BROWNOUT = true
          ∧ s.onlyWords t [R.SYS_RSTCAUSE] ∧ s.onlyIn t [.regs, .sys])
/-! Roles, sessions, keys and the journal (chapter 17) -/

/-- Sessions: a request is answered by a challenge (R429, R430), which lapses; OPEN holds the set-up port for the unlock, which ends
in the session or in a counted failure (R431), the third of which locks for 10 s; a session ends by CLOSE, idleness or a reset
(R432), and an abort ends the unlock, unless the operation ends of itself
in the same fabric cycle, which is the queue (R478, log entry 60). -/
def Obligations.SessionsOpenAndEnd : Prop :=
  (∀ (p : Port) (v : Word) (s : State), s.portOpen = true → v.bit 2 = true → s.sec.lockedAt = none → s.sec.role = 0 →
      s.sys.mode.opens (v.bits 0 2) = true →
    ∃ t, exec (.sessionRequest p v) s = .next t
      ∧ t = { s with sec := { s.sec with refused := false, chalReq := some (v.bits 0 2) } })
  ∧ (∀ (p : Port) (v : Word) (s : State), s.portOpen = true → v.bit 2 = true → s.sec.lockedAt = none → s.sec.role = 0 →
      s.sys.mode.opens (v.bits 0 2) = false →
    ∃ t, exec (.sessionRequest p v) s = .next t ∧ t = { s with sec := { s.sec with refused := true } })
  ∧ (∀ s : State, s.sec.chalReq.isSome = true →
    ∃ t, exec .challengeReady s = .next t
      ∧ t = { s with sec := { s.sec with chalReq := none, chal := some (Config.freeNonce s.sec.nonces, s.now),
                                         chalWords := Config.freeNonce s.sec.nonces, nonces := s.sec.nonces + 1 } })
  ∧ (∀ (c : BitVec 128) (x : Tb) (s : State), s.sec.chal = some (c, x) → 800000000 ≤ elapsed x s.now →
    ∃ t, exec .challengeExpiry s = .next t ∧ t = { s with sec := { s.sec with chal := none } })
  ∧ (∀ (p : Port) (v : Word) (s : State), s.portOpen = true → v.bit 3 = true → s.sec.lockedAt = none → s.sec.role = 0 →
      s.sys.mode.opens (v.bits 0 2) = true → s.jFull = false →
    ∃ t, exec (.sessionOpen p v) s = .next t
      ∧ t = { s with sec := { s.sec with refused := false, unlock := some (v.bits 0 2, false) },
                     sys := { s.sys with busy := some { op := 3, port := p, since := s.now } } })
  ∧ (∀ (p : Port) (v : Word) (x : Tb) (s : State), s.ok → s.portOpen = true → v.bit 3 = true → s.sec.lockedAt = some x →
    ∃ t, exec (.sessionOpen p v) s = .next t ∧ t.sec.refused = true ∧ t.sec.role = s.sec.role ∧ t.sec.unlock = s.sec.unlock
      ∧ t.sec.chalReq = s.sec.chalReq ∧ t.sys = s.sys
      ∧ t.get F.SEC_AUTH_FAIL_CNT_COUNT = min (s.get F.SEC_AUTH_FAIL_CNT_COUNT + 1) 0xFFFFFFFF ∧ s.onlyIn t [.regs, .sec])
  ∧ (∀ (p : Port) (v : Word) (x : Tb) (s : State), s.ok → s.portOpen = true → v.bit 2 = true → s.sec.lockedAt = some x →
    ∃ t, exec (.sessionRequest p v) s = .next t ∧ t.sec.refused = true ∧ t.sec.role = s.sec.role ∧ t.sec.unlock = s.sec.unlock
      ∧ t.sec.chalReq = s.sec.chalReq ∧ t.sys = s.sys
      ∧ t.get F.SEC_AUTH_FAIL_CNT_COUNT = min (s.get F.SEC_AUTH_FAIL_CNT_COUNT + 1) 0xFFFFFFFF ∧ s.onlyIn t [.regs, .sec])
  ∧ (∀ (p : Port) (v : Word) (x : Tb) (s : State), s.ok → s.portOpen = true → v.bit 5 = true → s.sec.lockedAt = some x →
    ∃ t, exec (.installerClaim p v) s = .next t ∧ t.sec.refused = true ∧ t.sec.role = s.sec.role ∧ t.sec.unlock = s.sec.unlock
      ∧ t.sec.chalReq = s.sec.chalReq ∧ t.sys = s.sys
      ∧ t.get F.SEC_AUTH_FAIL_CNT_COUNT = min (s.get F.SEC_AUTH_FAIL_CNT_COUNT + 1) 0xFFFFFFFF ∧ s.onlyIn t [.regs, .sec])
  ∧ (∀ (role : Nat) (b : Busy) (s : State), s.ok → s.sec.unlock = some (role, false) → s.sys.busy = some b →
      480000 ≤ elapsed b.since s.now → s.macOk role b.port = true →
    ∃ t, exec .roleUnlockDone s = .next t ∧ t.sec.role = role ∧ t.sec.port = b.port ∧ t.sec.idle = 0 ∧ t.sec.fails = 0
      ∧ t.sec.chal = none ∧ t.sec.unlock = none ∧ t.sys = { s.sys with busy := none }
      ∧ (s.jRoom role 1 = true → t.sec.counter = s.sec.counter + 1) ∧ s.onlyIn t [.regs, .sys, .hif, .sec])
  ∧ (∀ (role : Nat) (b : Busy) (s : State), s.ok → s.sec.unlock = some (role, false) → s.sys.busy = some b →
      480000 ≤ elapsed b.since s.now → s.macOk role b.port = false → s.sec.fails = 2 →
    ∃ t, exec .roleUnlockDone s = .next t ∧ t.sec.role = s.sec.role ∧ t.sec.lockedAt = some s.now ∧ t.sec.fails = 3
      ∧ t.sec.chal = none ∧ t.sys = { s.sys with busy := none }
      ∧ t.get F.SEC_AUTH_FAIL_CNT_COUNT = min (s.get F.SEC_AUTH_FAIL_CNT_COUNT + 1) 0xFFFFFFFF ∧ s.onlyIn t [.regs, .sys, .sec])
  ∧ (∀ (p : Port) (v : Word) (s : State), s.ok → s.portOpen = true → v.bit 4 = true → s.sec.role ≠ 0 → s.sec.port = p →
    ∃ t, exec (.sessionClose p v) s = .next t ∧ t.sec.role = 0
      ∧ (s.jRoom s.sec.role 1 = true → t.sec.counter = s.sec.counter + 1) ∧ s.onlyIn t [.regs, .hif, .sec])
  ∧ (∀ s : State, s.ok → s.idleOver = true →
    ∃ t, exec .sessionIdleTimeout s = .next t ∧ t.sec.role = 0
      ∧ (s.jRoom s.sec.role 1 = true → t.sec.counter = s.sec.counter + 1) ∧ s.onlyIn t [.regs, .hif, .sec])
  ∧ (∀ (x : Tb) (s : State), s.sec.lockedAt = some x → 8000000000 ≤ elapsed x s.now →
    ∃ t, exec .lockoutEnd s = .next t ∧ t = { s with sec := { s.sec with lockedAt := none } })
  ∧ (∀ (x : Tb) (s : State), s.sec.lockedAt = some x → elapsed x s.now < 8000000000 → exec .lockoutEnd s = .next s)
  ∧ (∀ (p : Port) (v : Word) (s : State), s.busyOp = 3 → v.bit 0 = true → s.endsNow = false →
    ∃ t, exec (.sysAbort p v) s = .next t ∧ t.sys = { s.sys with busy := none } ∧ t.sec.unlock = none
      ∧ t.sec.role = s.sec.role ∧ t.sec.fails = s.sec.fails ∧ s.onlyIn t [.sys, .sec])
  ∧ (∀ (p : Port) (v : Word) (s : State), s.ok → s.endsNow = true →
    ∃ t, exec (.sysAbort p v) s = .next t ∧ t.sys = s.sys ∧ t.sec.commit = s.sec.commit ∧ t.sec.unlock = s.sec.unlock ∧ t.adc = s.adc
      ∧ t.tst = s.tst ∧ s.onlyIn t [.sec])

/-- Keys (R433): the first claim sets the installer key and opens a session, the maker sets and removes it in MAINT. The journal
(R440 to R445): SEC_JDATA reads the word that SEC_JIDX names and advances it, an export computes the seal, and a seal that is echoed
leaves one entry. -/
def Obligations.KeysAndTheJournal : Prop :=
  (∀ (p : Port) (v : Word) (s : State), s.portOpen = true → v.bit 5 = true → v.bits 0 2 = 1 → s.sec.lockedAt = none → s.sec.role = 0 →
      s.sys.mode.opens 1 = true → s.sec.ikey = none → s.jFull = false →
    ∃ t, exec (.installerClaim p v) s = .next t
      ∧ t = { s with sec := { s.sec with refused := false, unlock := some (1, true) },
                     sys := { s.sys with busy := some { op := 3, port := p, since := s.now } } })
  ∧ (∀ (b : Busy) (s : State), s.ok → s.sec.unlock = some (1, true) → s.sys.busy = some b → 480000 ≤ elapsed b.since s.now →
    ∃ t, exec .roleUnlockDone s = .next t ∧ t.sec.ikey = some (words128 s.sec.key) ∧ t.sec.key = List.replicate 4 0 ∧ t.sec.role = 1
      ∧ t.sec.port = b.port ∧ t.sys = { s.sys with busy := none } ∧ s.onlyIn t [.regs, .sys, .hif, .sec])
  ∧ (∀ (p : Port) (v : Word) (s : State), s.ok → s.portOpen = true → v.bit 0 = true → s.isMaker p = true → s.jFull = false →
    ∃ t, exec (.keyProvisionSet p v) s = .next t ∧ t.sec.ikey = some (words128 s.sec.key) ∧ t.sec.key = List.replicate 4 0
      ∧ (s.jRoom 2 1 = true → s.roleOf p = 2 → t.sec.counter = s.sec.counter + 1) ∧ s.onlyIn t [.regs, .hif, .sec])
  ∧ (∀ (p : Port) (v : Word) (s : State), s.ok → s.portOpen = true → v.bit 0 = true → s.isMaker p = false →
    ∃ t, exec (.keyProvisionSet p v) s = .next t ∧ t.sec.ikey = s.sec.ikey
      ∧ t.get F.SEC_ROLE_DENY_COUNT = min (s.get F.SEC_ROLE_DENY_COUNT + 1) 0xFFFFFFFF
      ∧ s.onlyWords t [R.SEC_ROLE_DENY] ∧ s.onlyIn t [.regs, .hif, .sec])
  ∧ (∀ (p : Port) (v : Word) (s : State), s.ok → s.portOpen = true → v.bit 1 = true → s.isMaker p = true → s.jFull = false →
    ∃ t, exec (.keyProvisionClear p v) s = .next t ∧ t.sec.ikey = none ∧ s.onlyIn t [.regs, .hif, .sec])
  ∧ (∀ (p : Port) (s : State), s.ok → s.portOpen = true →
    ∃ t, exec (.journalRead p) s = .next t
      ∧ t.ans.read = some ((s.sec.journal.getD (s.get jIndex / 16) []).getD (s.get jIndex % 16) 0).toNat
      ∧ t.get jIndex = (s.get jIndex + 1) % 65536 ∧ t.sec.journal = s.sec.journal
      ∧ s.onlyWords t [R.SEC_JIDX] ∧ s.onlyIn t [.regs, .sec, .ans])
  ∧ (∀ (p : Port) (v : Word) (s : State), s.portOpen = true → v.bit 0 = true → s.isMaker p = true →
    ∃ t, exec (.journalExport p v) s = .next t ∧ t.sec.exporting = true
      ∧ t.sys = { s.sys with busy := some { op := 5, port := p, since := s.now } } ∧ s.onlyIn t [.sys, .sec])
  ∧ (∀ s : State, s.sec.exporting = true →
    ∃ t, exec .exportDone s = .next t
      ∧ t = { s with sec := { s.sec with exporting := false, sealValid := true, sealCnt := s.jLast,
                                         sealVal := of128 (cmac journalKey (s.sec.journal.flatMap wordBytes)) },
                     sys := { s.sys with busy := none } })
  ∧ (∀ (p : Port) (v : Word) (s : State), s.portOpen = true → v.bit 1 = true → s.isMaker p = true → s.sealable = true →
      words128 s.sec.key = s.sec.sealVal →
    ∃ t, exec (.journalSeal p v) s = .next t ∧ t.sec.sealing = true ∧ t.sec.sealRefused = false ∧ t.sec.key = List.replicate 4 0
      ∧ t.sys = { s.sys with busy := some { op := 6, port := p, since := s.now } } ∧ s.onlyIn t [.sys, .sec])
  ∧ (∀ (p : Port) (v : Word) (s : State), s.portOpen = true → v.bit 1 = true → s.isMaker p = true → s.sealable = false →
    ∃ t, exec (.journalSeal p v) s = .next t ∧ t.sec.sealing = false ∧ t.sec.sealRefused = true ∧ t.sec.key = List.replicate 4 0
      ∧ t.sys = s.sys ∧ s.onlyIn t [.sec])
  ∧ (∀ (b : Busy) (s : State), s.ok → s.sys.busy = some b → s.sec.sealing = true →
    ∃ t, exec .sealDone s = .next t ∧ t.sec.journal.length = 1 ∧ t.sec.counter = s.sec.counter + 1 ∧ t.sec.chainO = t.sec.chainI
      ∧ t.sec.sealing = false ∧ t.sec.sealValid = false ∧ t.sys = { s.sys with busy := none } ∧ s.onlyIn t [.sys, .sec])

/-- COMMIT and DISCARD (R434 to R439): GO holds the set-up port; the write ends with the shadow blocks in the image, one journal
entry for each, and nothing dirty; a failing check ends it with its outcome and changes no set-up; DISCARD takes the live set-up
back. The time to the MRAM write is a free value. -/
def Obligations.CommitAndDiscard : Prop :=
  (∀ (p : Port) (v : Word) (s : State), s.portOpen = true → v.bit 0 = true → v.bit 1 = false → s.sys.mode.setupOrOn = true →
    ∃ t wr, exec (.commit p v) s = .next t ∧ wr ≤ 6400000 ∧ t.sec.commit = some { role := s.roleOf p, port := p, wr := wr }
      ∧ t.sys = { s.sys with busy := some { op := 2, port := p, since := s.now } } ∧ s.onlyIn t [.sys, .sec, .freeCtr])
  ∧ (∀ (k : CommitRun) (s : State), s.ok → s.sec.commit = some k → s.regs.dirty ≠ [] → s.commitFault k.role = none →
      s.busyFor k.wr = true → s.hif.mqHeld = none →
      setBits (s.shadowWord R.WHL_TEETH) 10 22 0 = setBits (s.word R.WHL_TEETH) 10 22 0 →
    ∃ t, exec .commitDone s = .next t ∧ t.regs.image = commitImage s.regs.dirty s.regs.shadow s.regs.image ∧ t.regs.imgKind = 0
      ∧ t.regs.dirty = [] ∧ t.regs.writers = [] ∧ t.sec.commit = none ∧ t.sec.outcome = 0 ∧ t.sys.busy = none
      ∧ t.sec.counter = s.sec.counter + s.regs.dirty.length)
  ∧ (∀ (k : CommitRun) (s : State), s.ok → s.sec.commit = some k → s.regs.dirty = [] → s.hif.mqHeld = none →
    ∃ t, exec .commitFailed s = .next t ∧ t.sec.outcome = 0 ∧ t.sec.entries = 0 ∧ t.sec.commit = none ∧ t.sys = { s.sys with busy := none }
      ∧ s.onlyWords t [R.REED_VERIFY] ∧ s.onlyIn t [.regs, .sys, .sec])
  ∧ (∀ (k : CommitRun) (a : Nat) (s : State), s.ok → s.sec.commit = some k → s.regs.dirty ≠ [] → s.commitFault k.role = some (.range a) →
      s.hif.mqHeld = none →
    ∃ t, exec .commitFailed s = .next t ∧ t.sec.outcome = 1 ∧ t.sec.cmtAddr = dataOffset a ∧ t.sec.commit = none
      ∧ t.sys = { s.sys with busy := none } ∧ t.get F.SEC_CMT_FAIL_CNT_COUNT = min (s.get F.SEC_CMT_FAIL_CNT_COUNT + 1) 0xFFFFFFFF
      ∧ s.onlyWords t [R.SEC_CMT_FAIL_CNT, R.REED_VERIFY] ∧ s.onlyIn t [.regs, .sys, .sec])
  ∧ (∀ (p : Port) (v : Word) (s : State), s.ok → s.portOpen = true → v.bit 1 = true → v.bit 0 = false → 1 ≤ s.roleOf p →
    ∃ t, exec (.discard p v) s = .next t ∧ t.regs = { s.regs with shadow := discardShadow s.regs.live, writers := [], dirty := [] }
      ∧ s.onlyIn t [.regs, .sec, .quads])
  ∧ (∀ (p : Port) (v : Word) (s : State), s.ok → s.portOpen = true → v.bit 1 = true → v.bit 0 = false → s.roleOf p = 0 →
      (∀ x ∈ s.regs.writers, x.2 = 0) →
    ∃ t, exec (.discard p v) s = .next t ∧ t.regs = { s.regs with shadow := discardShadow s.regs.live, writers := [], dirty := [] }
      ∧ s.onlyIn t [.regs, .sec, .quads])
  ∧ (∀ (p : Port) (v : Word) (x : Nat × Nat) (s : State), s.ok → s.portOpen = true → v.bit 1 = true → v.bit 0 = false → s.roleOf p = 0 →
      x ∈ s.regs.writers → 0 < x.2 →
    ∃ t, exec (.discard p v) s = .next t ∧ t.get F.SEC_ROLE_DENY_COUNT = min (s.get F.SEC_ROLE_DENY_COUNT + 1) 0xFFFFFFFF
      ∧ s.onlyWords t [R.SEC_ROLE_DENY] ∧ s.onlyIn t [.regs, .hif, .sec])

/-! The tuning pass (chapter 18) -/

/-- A pass starts by GO in ARMED (R457) and is refused elsewhere, judged after what changes the mode in the same fabric cycle (R405, R457); a free lane starts its next block (R450); a block's verdict marks
its failed units (R454), and the pass ends when both lanes are through, with the health record (R455). -/
def Obligations.TuningPass : Prop :=
  (∀ (p : Port) (v : Word) (s : State), s.portOpen = true → v.bit 0 = true → s.sys.mode = .armed → s.tst.running = false →
      s.sys.sleep = none → s.pending.any movesMode = false →
    ∃ t, exec (.tuningGo p v) s = .next t ∧ t.tst.running = true ∧ t.tst.boot = false ∧ t.tst.nextA = 1 ∧ t.tst.nextB = 16
      ∧ t.tst.fail = [] ∧ t.tst.skip = [] ∧ t.tst.marks = s.tst.marks
      ∧ t.sys = { s.sys with busy := some { op := 4, port := p, since := s.now } } ∧ s.onlyIn t [.sys, .sec, .tst])
  ∧ (∀ (p : Port) (v : Word) (s : State), s.portOpen = true → v.bit 0 = true → s.sys.mode ≠ .armed →
      s.pending.any movesMode = false →
    ∃ t, exec (.tuningGo p v) s = .next t ∧ t.tst = { s.tst with asked := none, refused := true } ∧ s.onlyIn t [.sec, .tst])
  ∧ (∀ (p : Port) (v : Word) (s : State), s.portOpen = true → v.bit 0 = true → s.pending.any movesMode = true →
    ∃ t, exec (.tuningGo p v) s = .next t ∧ t.tst = { s.tst with asked := some p } ∧ s.onlyIn t [.sec, .tst])
  ∧ (∀ s : State, s.ok → s.tst.running = true → s.tst.blockA = 0 → s.tst.nextA < 16 → s.blockSkipped s.tst.nextA = false →
      s.blockCovered s.tst.nextA = true →
    ∃ t, exec (.tuningBlockStart false) s = .next t
      ∧ t.tst = { s.tst with blockA := s.tst.nextA, nextA := s.tst.nextA + 1, sinceA := s.now })
  ∧ (∀ s : State, s.ok → s.tst.running = true → s.tst.blockB = 0 → s.tst.nextB < 28 → s.blockSkipped s.tst.nextB = false →
      s.blockCovered s.tst.nextB = true →
    ∃ t, exec (.tuningBlockStart true) s = .next t
      ∧ t.tst = { s.tst with blockB := s.tst.nextB, nextB := s.tst.nextB + 1, sinceB := s.now }
      ∧ (24 ≤ s.tst.nextB → ∀ i, i < 24 → (t.chan (24 * (s.tst.nextB - 24) + i)).gl = false))
  ∧ (∀ s : State, s.ok → s.tst.running = true → s.tst.blockA = 0 → s.tst.blockB = 0 → 16 ≤ s.tst.nextA → 28 ≤ s.tst.nextB →
    ∃ t, exec (.tuningBlockStart false) s = .next t ∧ t.tst.running = false ∧ t.tst.cause = 0 ∧ t.tst.record = s.tst.marks
      ∧ t.tst.marks = s.tst.marks)
  ∧ (∀ (k : Nat) (s : State), s.ok → s.tst.running = true → k = s.tst.blockA → k ≠ 0 → blockTime k ≤ elapsed s.tst.sinceA s.now →
    ∃ t, exec (.tuningBlockEnd false []) s = .next t ∧ t.tst.blockA = 0 ∧ t.tst.fail = s.tst.fail
      ∧ t.tst.marks = s.tst.marks.filter (fun m => m.1 != k))
  ∧ (∀ (k u : Nat) (d : Int) (s : State), s.ok → s.tst.running = true → k = s.tst.blockA → k ≠ 0 → u < blockUnits k →
      blockTime k ≤ elapsed s.tst.sinceA s.now →
    ∃ t, exec (.tuningBlockEnd false [{ unit := u, dev := d }]) s = .next t ∧ t.tst.blockA = 0 ∧ k ∈ t.tst.fail ∧ t.failed k u = true
      ∧ t.alarmed 29)

/-! The slur link (chapter 19) -/

/-- Angle frames: the leader sends its own values (R464); a follower counts a bad frame and takes nothing from it, keeps a good one,
and goes back to ARMED with a leader that sleeps (R468, R469); frames that stay away are a loss (R470), and a long loss acts as a
stall (R471). -/
def Obligations.AngleFramesAndTheirLoss : Prop :=
  (∀ s : State, s.launches = true →
    ∃ t, exec .angleFrameLaunch s = .next t
      ∧ t = { s with slur := { s.slur with txFrame := some s.frameNow, idx := s.now.toNat % 1024 * 25 / 1024 } })
  ∧ (∀ s : State, s.trains = true →
    ∃ t, exec .angleFrameLaunch s = .next t ∧ t = { s with slur := { s.slur with txTrain := some s.trainNow, idx := 25 } })
  ∧ (∀ (f : AngleFrame) (s : State), s.ok → s.follows = true → s.sys.mode.operating = true → crc8 (angleBits f) 120 ≠ f.crc →
    ∃ t, exec (.angleFrameReceive f) s = .next t ∧ t.get F.SET_CRC_CNT_COUNT = min (s.get F.SET_CRC_CNT_COUNT + 1) 0xFFFFFFFF
      ∧ s.onlyWords t [R.SET_CRC_CNT] ∧ s.onlyIn t [.regs])
  ∧ (∀ (f : AngleFrame) (s : State), s.ok → s.expects = true → crc8 (angleBits f) 120 = f.crc → f.idx ≤ 24 → f.lmode ≠ 1 → f.lmode ≠ 2 →
      s.whl.last = some f.tstamp → s.whl.pos = f.pos → s.whl.sync.code = f.sync →
    ∃ t, exec (.angleFrameReceive f) s = .next t ∧ t = { s with slur := { s.slur with frameAt := s.now, rxFrame := some f, lostAt := none } })
  ∧ (∀ (f : AngleFrame) (s : State), s.ok → s.expects = true → crc8 (angleBits f) 120 = f.crc → f.idx ≤ 24 → f.lmode = 1 →
      s.sys.mode.engine = true →
    ∃ t, exec (.angleFrameReceive f) s = .next t ∧ t.sys.mode = .armed ∧ t.whl.sync = .idle ∧ t.whl.phaseKnown = false
      ∧ t.slur.state = 0)
  ∧ (∀ s : State, s.ok → s.slurLossDue = true → s.pending.any isValidFrame = false → s.whl.sync = .half ∨ s.whl.sync = .full →
    ∃ t, exec .slurLinkLoss s = .next t ∧ t.whl.sync = .suspect ∧ t.slur.lostAt = some (s.slur.lostAt.getD s.slur.frameAt) ∧ t.slur.state = 1 ∧ t.slur.owes = true
      ∧ t.alarmed 31
      ∧ t.get F.SET_LOSS_CNT_COUNT = min (s.get F.SET_LOSS_CNT_COUNT + 1) 0xFFFFFFFF)
  ∧ (∀ s : State, s.ok → s.slurStallDue = true →
    ∃ t, exec .slurLossTimeout s = .next t ∧ t.whl.sync = .idle ∧ t.whl.last = none ∧ t.slur.lostAt = none
      ∧ (s.sys.mode.engine = true → t.sys.mode = .armed ∧ t.slur.state = 1 ∧ t.slur.since = s.now))
  ∧ (∀ s : State, s.slurLossDue = true → s.pending.any isValidFrame = true → exec .slurLinkLoss s = .next s)
  ∧ (∀ s : State, s.leads = true → s.slur.state = 2 → s.slur.ended = false →
    ∃ t, exec .upstreamStatusLoss s = .next t ∧ t = { s with slur := { s.slur with lost := true } })

/-- Training (R465 to R467): RETRAIN and a retry after a loss begin it at STEP 0, its steps follow their superframes, echoes, which the receiver
sends unchanged, measure the latency, no echo in STEP 0 means the end of the set, the assignment sets the device's number and its time base, and an attempt
of 25.6 µs fails with alarm 31 (R471); the time base slews by at most one unit toward the sender's (R466). -/
def Obligations.TrainingOfTheSlurLink : Prop :=
  (∀ (p : Port) (v : Word) (s : State), s.portOpen = true → v.bit 0 = true → s.leads = true → s.sys.mode.operating = true →
    ∃ t, exec (.retrain p v) s = .next t ∧ t.slur.state = 1 ∧ t.slur.sending = true ∧ t.slur.step = 0 ∧ t.slur.since = s.now
      ∧ t.slur.rtN = 0 ∧ s.onlyIn t [.sec, .slur])
  ∧ (∀ (f : TrainFrame) (arrival : Tb) (s : State), s.ok → s.follows = true → s.sys.mode.operating = true → s.slur.state = 1 →
      s.slur.sending = false → s.slur.step = 2 → s.slur.assign = none → f.step = 2 → crc8 (trainBits f) 120 = f.crc →
    ∃ t, exec (.trainingFrameReceive f arrival) s = .next t ∧ t = { s with slur := { s.slur with assign := some f, arr := arrival } })
  ∧ (∀ s : State, s.slurOn = true → s.slur.state = 1 → s.slur.sending = true → s.slur.step = 0 →
    ∃ t, exec (.trainingEcho none) s = .next t ∧ t.slur.state = 2 ∧ t.slur.ended = true ∧ t.slur.sending = false ∧ s.onlyIn t [.slur])
  ∧ (∀ (x : Nat) (s : State), s.slurOn = true → s.slur.state = 1 → s.slur.sending = true → s.slur.step = 1 → s.slur.rtN < 4 →
    ∃ t, exec (.trainingEcho (some x)) s = .next t
      ∧ t = { s with slur := { s.slur with rtSum := s.slur.rtSum + x, rtN := s.slur.rtN + 1 } })
  ∧ (∀ (rt : Option Nat) (f : TrainFrame) (a : Tb) (s : State), s.follows = true → s.slur.state = 1 → s.slur.sending = false →
      s.slur.toEcho = some (f, a) → 73 ≤ elapsed a s.now →
    ∃ t, exec (.trainingEcho rt) s = .next t ∧ t = { s with slur := { s.slur with upFrame := some f, toEcho := none } })
  ∧ (∀ (f : TrainFrame) (arrival : Tb) (s : State), s.ok → s.follows = true → s.sys.mode.operating = true → s.slur.state = 1 →
      s.slur.sending = false → s.slur.step = 1 → f.step = 1 → f.launch.toNat % 1024 = 0 → crc8 (trainBits f) 120 = f.crc →
    ∃ t, exec (.trainingFrameReceive f arrival) s = .next t ∧ t = { s with slur := { s.slur with toEcho := some (f, arrival) } })
  ∧ (∀ s : State, s.slurOn = true → s.slur.state = 1 → s.slur.sending = true → s.slur.step = 0 → 4096 ≤ elapsed s.slur.stepAt s.now →
    ∃ t, exec .trainingStepDone s = .next t ∧ t = { s with slur := { s.slur with step := 1, stepAt := s.now } })
  ∧ (∀ (f : TrainFrame) (s : State), s.ok → s.slurOn = true → s.slur.state = 1 → s.slur.sending = false → s.slur.step = 2 →
      s.slur.assign = some f → s.sameWheel f = true → f.dev < 4 → 2048 ≤ elapsed s.slur.stepAt s.now →
    ∃ t, exec .trainingStepDone s = .next t ∧ t.slur.dev = f.dev ∧ t.slur.lat = f.lat ∧ t.slur.sending = true ∧ t.slur.step = 0
      ∧ t.slur.lostAt = s.slur.lostAt.map (· + (f.launch + BitVec.ofNat 40 ((f.lat + 2) / 5) - s.slur.arr))
      ∧ t.slur.owes = false ∧ t.clk = { s.clk with tb := s.now + (f.launch + BitVec.ofNat 40 ((f.lat + 2) / 5) - s.slur.arr) }
      ∧ s.onlyWords t [] ∧ s.onlyIn t [.regs, .clk, .evc, .slur])
  ∧ (∀ s : State, s.ok → s.slurOn = true → s.slur.state = 1 → 20480 ≤ elapsed s.slur.since s.now → (s.slur.sending && s.follower) = false →
    ∃ t, exec .trainingTimeout s = .next t ∧ t.slur.state = 3 ∧ t.slur.err = s.trainErr ∧ t.slur.sending = false ∧ t.alarmed 31
      ∧ s.onlyIn t [.regs, .hif, .slur])
  ∧ (∀ (d : Int) (s : State), s.expects = true → -32768 ≤ d → d ≤ 32767 →
    ∃ t, exec (.timeBaseSlew d) s = .next t ∧ t.slur = { s.slur with offs := d }
      ∧ t.clk = { s.clk with tb := if 3 ≤ d then s.now - 1 else if d ≤ -3 then s.now + 1 else s.now } ∧ s.onlyIn t [.clk, .slur])
  ∧ (∀ s : State, s.follows = true → s.sys.mode.operating = true → s.slur.state = 3 → 800000 ≤ elapsed s.slur.since s.now →
    ∃ t, exec .slurRetry s = .next t ∧ t.slur.state = 1 ∧ t.slur.step = 0 ∧ t.slur.since = s.now ∧ t.slur.sending = false
      ∧ s.onlyIn t [.slur])

/-! Boundary scan (chapter 20) -/

/-- The instruction register and the data register it selects (R497): EXTEST, CLAMP and HIGHZ act in SETUP and MAINT and as BYPASS
elsewhere (R498), SAMPLE/PRELOAD captures the pins and loads the cells, IDCODE selects the identification, and Test-Logic-Reset
gives the pins back. That reset selects IDCODE, and the stepping in it, are log entry 32. -/
def Obligations.BoundaryScan : Prop :=
  (∀ s : State, s.scanActs = true →
    (∃ t, exec .jtagExtest s = .next t ∧ t = { s with jtag := { s.jtag with ir := 0, dr := s.jtag.cells } } ∧ t.scanDrive = 1)
    ∧ (∃ t, exec .jtagClamp s = .next t ∧ t = { s with jtag := { s.jtag with ir := 4, dr := [false] } } ∧ t.scanDrive = 1)
    ∧ (∃ t, exec .jtagHighz s = .next t ∧ t = { s with jtag := { s.jtag with ir := 5, dr := [false] } } ∧ t.scanDrive = 2))
  ∧ (∀ s : State, s.scanActs = false → s.sys.mode ≠ .off →
    (∃ t, exec .jtagExtest s = .next t ∧ t = { s with jtag := { s.jtag with ir := 0, dr := [false] } } ∧ t.scanDrive = 0)
    ∧ (∃ t, exec .jtagClamp s = .next t ∧ t = { s with jtag := { s.jtag with ir := 4, dr := [false] } } ∧ t.scanDrive = 0)
    ∧ (∃ t, exec .jtagHighz s = .next t ∧ t = { s with jtag := { s.jtag with ir := 5, dr := [false] } } ∧ t.scanDrive = 0))
  ∧ (∀ (pins cells : List Bool) (code : Nat) (s : State), s.sys.mode ≠ .off →
    (∃ t, exec (.jtagSamplePreload pins cells) s = .next t ∧ t = { s with jtag := { ir := 2, cells := cells, dr := pins } }
      ∧ t.scanDrive = 0)
    ∧ (∃ t, exec .jtagIdcode s = .next t ∧ t = { s with jtag := { s.jtag with ir := 1, dr := idBits s.part } } ∧ t.scanDrive = 0)
    ∧ (∃ t, exec (.jtagBypass code) s = .next t ∧ t = { s with jtag := { s.jtag with ir := 15, dr := [false] } } ∧ t.scanDrive = 0)
    ∧ (∃ t, exec .tapReset s = .next t ∧ t = { s with jtag := { s.jtag with ir := 1, dr := idBits s.part } } ∧ t.scanDrive = 0))
end

