-- ==== Sys2Proof/Laws/Crypto.lean ====
section
/-! SUPPORT. What AES-128 and CMAC answer is a block: sixteen bytes, whatever the message. -/

namespace Sys2Proof.Machine

/-- Bytes. -/
def AllBytes (l : List Nat) : Prop := ∀ x ∈ l, x < 256

/-- A string of sixteen bytes. -/
def IsBlock (l : List Nat) : Prop := l.length = 16 ∧ AllBytes l

theorem subByte_lt (x : Nat) : subByte x < 256 := Nat.mod_lt _ (by decide)

theorem getD_lt {l : List Nat} (h : AllBytes l) (i : Nat) : l.getD i 0 < 256 := by
  rw [List.getD_eq_getElem?_getD]
  cases e : l[i]? with
  | none => simp
  | some x => exact h x (List.mem_of_getElem? e)

theorem xorBytes_bytes {a b : List Nat} (ha : AllBytes a) (hb : AllBytes b) : AllBytes (xorBytes a b) := by
  intro x hx
  obtain ⟨i, hi, rfl⟩ := List.getElem_of_mem hx
  simp only [xorBytes, List.length_zipWith] at hi
  simp only [xorBytes, List.getElem_zipWith]
  exact Nat.xor_lt_two_pow (n := 8) (ha _ (List.getElem_mem _)) (hb _ (List.getElem_mem _))

theorem AllBytes.append {a b : List Nat} (ha : AllBytes a) (hb : AllBytes b) : AllBytes (a ++ b) := by
  intro x hx
  rcases List.mem_append.mp hx with h | h
  · exact ha x h
  · exact hb x h

theorem AllBytes.sub {a b : List Nat} (hb : AllBytes b) (h : ∀ x ∈ a, x ∈ b) : AllBytes a := fun x hx => hb x (h x hx)

theorem nextKey_block {k : List Nat} (rc : Nat) (hr : rc < 256) (h : IsBlock k) : IsBlock (nextKey k rc) := by
  obtain ⟨hl, hb⟩ := h
  have b0 : AllBytes (k.take 4) := hb.sub (fun x hx => List.mem_of_mem_take hx)
  have b1 : AllBytes ((k.drop 4).take 4) := hb.sub (fun x hx => List.mem_of_mem_drop (List.mem_of_mem_take hx))
  have b2 : AllBytes ((k.drop 8).take 4) := hb.sub (fun x hx => List.mem_of_mem_drop (List.mem_of_mem_take hx))
  have b3 : AllBytes ((k.drop 12).take 4) := hb.sub (fun x hx => List.mem_of_mem_drop (List.mem_of_mem_take hx))
  have bt : AllBytes [subByte (k.getD 13 0) ^^^ rc, subByte (k.getD 14 0), subByte (k.getD 15 0), subByte (k.getD 12 0)] := by
    intro x hx
    simp only [List.mem_cons, List.not_mem_nil, or_false] at hx
    rcases hx with rfl | rfl | rfl | rfl
    · exact Nat.xor_lt_two_pow (n := 8) (subByte_lt _) hr
    all_goals exact subByte_lt _
  refine ⟨by simp [nextKey, xorBytes, hl], ?_⟩
  have w0 := xorBytes_bytes b0 bt
  have w1 := xorBytes_bytes b1 w0
  have w2 := xorBytes_bytes b2 w1
  exact ((w0.append w1).append w2).append (xorBytes_bytes b3 w2)

theorem shiftRows_block {b : List Nat} (h : AllBytes b) : IsBlock (shiftRows b) := by
  refine ⟨by simp [shiftRows], fun x hx => ?_⟩
  obtain ⟨i, -, rfl⟩ := List.mem_map.mp hx
  exact getD_lt h i

theorem IsBlock.xor {a b : List Nat} (ha : IsBlock a) (hb : IsBlock b) : IsBlock (xorBytes a b) :=
  ⟨by simp [xorBytes, ha.1, hb.1], xorBytes_bytes ha.2 hb.2⟩

theorem aesRounds_block (rcs : List Nat) (hr : AllBytes rcs) (hn : rcs ≠ []) (b k : List Nat) (hk : IsBlock k) :
    IsBlock (aesRounds rcs b k) := by
  induction rcs generalizing b k with
  | nil => exact absurd rfl hn
  | cons rc l ih =>
    have hrc : rc < 256 := hr rc (List.mem_cons_self ..)
    cases l with
    | nil =>
      refine (shiftRows_block ?_).xor (nextKey_block rc hrc hk)
      intro x hx
      obtain ⟨y, -, rfl⟩ := List.mem_map.mp hx
      exact subByte_lt y
    | cons c l => exact ih (fun x hx => hr x (List.mem_cons_of_mem _ hx)) (by simp) _ _ (nextKey_block rc hrc hk)

/-- AES under a key of sixteen bytes answers a block. -/
theorem aes_block (key b : List Nat) (hk : IsBlock key) : IsBlock (aes key b) :=
  aesRounds_block _ (by unfold AllBytes; decide) (by simp) _ _ hk

theorem cbc_block (key : List Nat) (hk : IsBlock key) (n : Nat) (x m : List Nat) (hx : IsBlock x) : IsBlock (cbc key n x m) := by
  induction n generalizing x m with
  | zero => exact hx
  | succ n ih =>
    unfold cbc
    split
    · exact hx
    · exact ih _ _ (aes_block key _ hk)

/-- CMAC under a key of sixteen bytes answers a block. -/
theorem cmac_block (key msg : List Nat) (hk : IsBlock key) : IsBlock (cmac key msg) :=
  cbc_block key hk _ _ _ ⟨rfl, by unfold AllBytes; decide⟩

/-- The bytes of a 128-bit value are a block. -/
theorem bytes128_block (v : BitVec 128) : IsBlock (bytes128 v) := by
  refine ⟨by simp [bytes128, leBytes, upTo], fun x hx => ?_⟩
  obtain ⟨i, -, rfl⟩ := List.mem_map.mp hx
  exact Nat.mod_lt _ (by decide)

/-- Four words spell any block. -/
theorem words_of_block (b : List Nat) (h : IsBlock b) : ∃ w0 w1 w2 w3 : Word, wordBytes [w0, w1, w2, w3] = b := by
  obtain ⟨hl, hb⟩ := h
  match b, hl with
  | [b0, b1, b2, b3, b4, b5, b6, b7, b8, b9, b10, b11, b12, b13, b14, b15], _ =>
    simp only [AllBytes, List.mem_cons, List.not_mem_nil, or_false, forall_eq_or_imp, forall_eq] at hb
    refine ⟨BitVec.ofNat 32 (b0 + b1 * 256 + b2 * 65536 + b3 * 16777216), BitVec.ofNat 32 (b4 + b5 * 256 + b6 * 65536 + b7 * 16777216),
      BitVec.ofNat 32 (b8 + b9 * 256 + b10 * 65536 + b11 * 16777216), BitVec.ofNat 32 (b12 + b13 * 256 + b14 * 65536 + b15 * 16777216), ?_⟩
    simp only [wordBytes, leBytes, upTo, List.flatMap_cons, List.flatMap_nil, List.range, List.range.loop, List.map_cons, List.map_nil,
      BitVec.toNat_ofNat, List.cons_append, List.nil_append, List.append_nil, List.cons.injEq, and_true]
    omega

end Sys2Proof.Machine
end

