-- ==== Sys2Proof/Laws/Frame.lean ====
section
/-! SUPPORT. Frames: which parts of State an operation can change. State.onlyIn o s l (Safety.lean) says that s differs from o in
the parts of l at most; the lemma of an operation asks that l holds the parts that the operation writes (Laws/FrameOps.lean,
Laws/FrameExec.lean). -/

namespace Sys2Proof.Machine

def FrameParts (o : State) (l : List Piece) (part : Part) (clk : Clk) (regs : RegFile) (sys : Sys) (hif : Hif) (evc : Evc) (sec : Sec) (whl : Whl) (ang : Ang) (sch : Sch) (banks : List Bank) (quads : List Quad) (edges : List Edge) (ink : Ink) (grds : List Grd) (adc : Adc) (cmps : Cmps) (tmrs : List Tmr) (nibs : List Nib) (tst : Tst) (slur : Slur) (jtag : Jtag) (ans : Answers) (freeCtr : Nat) (pending : List Instr) : Prop :=
  State.onlyIn o (State.mk part clk regs sys hif evc sec whl ang sch banks quads edges ink grds adc cmps tmrs nibs tst slur jtag ans freeCtr pending) l

theorem Frame.mk_iff {o : State} {l : List Piece} {part clk regs sys hif evc sec whl ang sch banks quads edges ink grds adc cmps tmrs nibs tst slur jtag ans freeCtr pending} :
    State.onlyIn o (State.mk part clk regs sys hif evc sec whl ang sch banks quads edges ink grds adc cmps tmrs nibs tst slur jtag ans freeCtr pending) l ↔ FrameParts o l part clk regs sys hif evc sec whl ang sch banks quads edges ink grds adc cmps tmrs nibs tst slur jtag ans freeCtr pending := Iff.rfl

theorem Frame.of {o s : State} {l : List Piece} (h : State.onlyIn o s l) : FrameParts o l s.part s.clk s.regs s.sys s.hif s.evc s.sec s.whl s.ang s.sch s.banks s.quads s.edges s.ink s.grds s.adc s.cmps s.tmrs s.nibs s.tst s.slur s.jtag s.ans s.freeCtr s.pending := h

theorem Frame.refl (s : State) (l : List Piece) : State.onlyIn s s l := fun p _ => by cases p <;> rfl

theorem Frame.trans {o s t : State} {l : List Piece} (h : State.onlyIn o s l) (k : State.onlyIn s t l) : State.onlyIn o t l :=
  fun p hp => by have a := h p hp; have b := k p hp; cases p <;> exact Eq.trans b a

theorem Frame.mono {o s : State} {l m : List Piece} (h : State.onlyIn o s l) (k : ∀ p ∈ l, p ∈ m) : State.onlyIn o s m :=
  fun p hp => h p (fun q => hp (k p q))

theorem Frame.with_part {o s : State} {l : List Piece} {x : Part} (h : State.onlyIn o s l) (k : Piece.part ∈ l) :
    FrameParts o l x s.clk s.regs s.sys s.hif s.evc s.sec s.whl s.ang s.sch s.banks s.quads s.edges s.ink s.grds s.adc s.cmps s.tmrs s.nibs s.tst s.slur s.jtag s.ans s.freeCtr s.pending :=
  fun p hp => by cases p <;> first | exact absurd k hp | exact h _ hp

theorem Frame.with_clk {o s : State} {l : List Piece} {x : Clk} (h : State.onlyIn o s l) (k : Piece.clk ∈ l) :
    FrameParts o l s.part x s.regs s.sys s.hif s.evc s.sec s.whl s.ang s.sch s.banks s.quads s.edges s.ink s.grds s.adc s.cmps s.tmrs s.nibs s.tst s.slur s.jtag s.ans s.freeCtr s.pending :=
  fun p hp => by cases p <;> first | exact absurd k hp | exact h _ hp

theorem Frame.with_regs {o s : State} {l : List Piece} {x : RegFile} (h : State.onlyIn o s l) (k : Piece.regs ∈ l) :
    FrameParts o l s.part s.clk x s.sys s.hif s.evc s.sec s.whl s.ang s.sch s.banks s.quads s.edges s.ink s.grds s.adc s.cmps s.tmrs s.nibs s.tst s.slur s.jtag s.ans s.freeCtr s.pending :=
  fun p hp => by cases p <;> first | exact absurd k hp | exact h _ hp

theorem Frame.with_sys {o s : State} {l : List Piece} {x : Sys} (h : State.onlyIn o s l) (k : Piece.sys ∈ l) :
    FrameParts o l s.part s.clk s.regs x s.hif s.evc s.sec s.whl s.ang s.sch s.banks s.quads s.edges s.ink s.grds s.adc s.cmps s.tmrs s.nibs s.tst s.slur s.jtag s.ans s.freeCtr s.pending :=
  fun p hp => by cases p <;> first | exact absurd k hp | exact h _ hp

theorem Frame.with_hif {o s : State} {l : List Piece} {x : Hif} (h : State.onlyIn o s l) (k : Piece.hif ∈ l) :
    FrameParts o l s.part s.clk s.regs s.sys x s.evc s.sec s.whl s.ang s.sch s.banks s.quads s.edges s.ink s.grds s.adc s.cmps s.tmrs s.nibs s.tst s.slur s.jtag s.ans s.freeCtr s.pending :=
  fun p hp => by cases p <;> first | exact absurd k hp | exact h _ hp

theorem Frame.with_evc {o s : State} {l : List Piece} {x : Evc} (h : State.onlyIn o s l) (k : Piece.evc ∈ l) :
    FrameParts o l s.part s.clk s.regs s.sys s.hif x s.sec s.whl s.ang s.sch s.banks s.quads s.edges s.ink s.grds s.adc s.cmps s.tmrs s.nibs s.tst s.slur s.jtag s.ans s.freeCtr s.pending :=
  fun p hp => by cases p <;> first | exact absurd k hp | exact h _ hp

theorem Frame.with_sec {o s : State} {l : List Piece} {x : Sec} (h : State.onlyIn o s l) (k : Piece.sec ∈ l) :
    FrameParts o l s.part s.clk s.regs s.sys s.hif s.evc x s.whl s.ang s.sch s.banks s.quads s.edges s.ink s.grds s.adc s.cmps s.tmrs s.nibs s.tst s.slur s.jtag s.ans s.freeCtr s.pending :=
  fun p hp => by cases p <;> first | exact absurd k hp | exact h _ hp

theorem Frame.with_whl {o s : State} {l : List Piece} {x : Whl} (h : State.onlyIn o s l) (k : Piece.whl ∈ l) :
    FrameParts o l s.part s.clk s.regs s.sys s.hif s.evc s.sec x s.ang s.sch s.banks s.quads s.edges s.ink s.grds s.adc s.cmps s.tmrs s.nibs s.tst s.slur s.jtag s.ans s.freeCtr s.pending :=
  fun p hp => by cases p <;> first | exact absurd k hp | exact h _ hp

theorem Frame.with_ang {o s : State} {l : List Piece} {x : Ang} (h : State.onlyIn o s l) (k : Piece.ang ∈ l) :
    FrameParts o l s.part s.clk s.regs s.sys s.hif s.evc s.sec s.whl x s.sch s.banks s.quads s.edges s.ink s.grds s.adc s.cmps s.tmrs s.nibs s.tst s.slur s.jtag s.ans s.freeCtr s.pending :=
  fun p hp => by cases p <;> first | exact absurd k hp | exact h _ hp

theorem Frame.with_sch {o s : State} {l : List Piece} {x : Sch} (h : State.onlyIn o s l) (k : Piece.sch ∈ l) :
    FrameParts o l s.part s.clk s.regs s.sys s.hif s.evc s.sec s.whl s.ang x s.banks s.quads s.edges s.ink s.grds s.adc s.cmps s.tmrs s.nibs s.tst s.slur s.jtag s.ans s.freeCtr s.pending :=
  fun p hp => by cases p <;> first | exact absurd k hp | exact h _ hp

theorem Frame.with_banks {o s : State} {l : List Piece} {x : List Bank} (h : State.onlyIn o s l) (k : Piece.banks ∈ l) :
    FrameParts o l s.part s.clk s.regs s.sys s.hif s.evc s.sec s.whl s.ang s.sch x s.quads s.edges s.ink s.grds s.adc s.cmps s.tmrs s.nibs s.tst s.slur s.jtag s.ans s.freeCtr s.pending :=
  fun p hp => by cases p <;> first | exact absurd k hp | exact h _ hp

theorem Frame.with_quads {o s : State} {l : List Piece} {x : List Quad} (h : State.onlyIn o s l) (k : Piece.quads ∈ l) :
    FrameParts o l s.part s.clk s.regs s.sys s.hif s.evc s.sec s.whl s.ang s.sch s.banks x s.edges s.ink s.grds s.adc s.cmps s.tmrs s.nibs s.tst s.slur s.jtag s.ans s.freeCtr s.pending :=
  fun p hp => by cases p <;> first | exact absurd k hp | exact h _ hp

theorem Frame.with_edges {o s : State} {l : List Piece} {x : List Edge} (h : State.onlyIn o s l) (k : Piece.edges ∈ l) :
    FrameParts o l s.part s.clk s.regs s.sys s.hif s.evc s.sec s.whl s.ang s.sch s.banks s.quads x s.ink s.grds s.adc s.cmps s.tmrs s.nibs s.tst s.slur s.jtag s.ans s.freeCtr s.pending :=
  fun p hp => by cases p <;> first | exact absurd k hp | exact h _ hp

theorem Frame.with_ink {o s : State} {l : List Piece} {x : Ink} (h : State.onlyIn o s l) (k : Piece.ink ∈ l) :
    FrameParts o l s.part s.clk s.regs s.sys s.hif s.evc s.sec s.whl s.ang s.sch s.banks s.quads s.edges x s.grds s.adc s.cmps s.tmrs s.nibs s.tst s.slur s.jtag s.ans s.freeCtr s.pending :=
  fun p hp => by cases p <;> first | exact absurd k hp | exact h _ hp

theorem Frame.with_grds {o s : State} {l : List Piece} {x : List Grd} (h : State.onlyIn o s l) (k : Piece.grds ∈ l) :
    FrameParts o l s.part s.clk s.regs s.sys s.hif s.evc s.sec s.whl s.ang s.sch s.banks s.quads s.edges s.ink x s.adc s.cmps s.tmrs s.nibs s.tst s.slur s.jtag s.ans s.freeCtr s.pending :=
  fun p hp => by cases p <;> first | exact absurd k hp | exact h _ hp

theorem Frame.with_adc {o s : State} {l : List Piece} {x : Adc} (h : State.onlyIn o s l) (k : Piece.adc ∈ l) :
    FrameParts o l s.part s.clk s.regs s.sys s.hif s.evc s.sec s.whl s.ang s.sch s.banks s.quads s.edges s.ink s.grds x s.cmps s.tmrs s.nibs s.tst s.slur s.jtag s.ans s.freeCtr s.pending :=
  fun p hp => by cases p <;> first | exact absurd k hp | exact h _ hp

theorem Frame.with_cmps {o s : State} {l : List Piece} {x : Cmps} (h : State.onlyIn o s l) (k : Piece.cmps ∈ l) :
    FrameParts o l s.part s.clk s.regs s.sys s.hif s.evc s.sec s.whl s.ang s.sch s.banks s.quads s.edges s.ink s.grds s.adc x s.tmrs s.nibs s.tst s.slur s.jtag s.ans s.freeCtr s.pending :=
  fun p hp => by cases p <;> first | exact absurd k hp | exact h _ hp

theorem Frame.with_tmrs {o s : State} {l : List Piece} {x : List Tmr} (h : State.onlyIn o s l) (k : Piece.tmrs ∈ l) :
    FrameParts o l s.part s.clk s.regs s.sys s.hif s.evc s.sec s.whl s.ang s.sch s.banks s.quads s.edges s.ink s.grds s.adc s.cmps x s.nibs s.tst s.slur s.jtag s.ans s.freeCtr s.pending :=
  fun p hp => by cases p <;> first | exact absurd k hp | exact h _ hp

theorem Frame.with_nibs {o s : State} {l : List Piece} {x : List Nib} (h : State.onlyIn o s l) (k : Piece.nibs ∈ l) :
    FrameParts o l s.part s.clk s.regs s.sys s.hif s.evc s.sec s.whl s.ang s.sch s.banks s.quads s.edges s.ink s.grds s.adc s.cmps s.tmrs x s.tst s.slur s.jtag s.ans s.freeCtr s.pending :=
  fun p hp => by cases p <;> first | exact absurd k hp | exact h _ hp

theorem Frame.with_tst {o s : State} {l : List Piece} {x : Tst} (h : State.onlyIn o s l) (k : Piece.tst ∈ l) :
    FrameParts o l s.part s.clk s.regs s.sys s.hif s.evc s.sec s.whl s.ang s.sch s.banks s.quads s.edges s.ink s.grds s.adc s.cmps s.tmrs s.nibs x s.slur s.jtag s.ans s.freeCtr s.pending :=
  fun p hp => by cases p <;> first | exact absurd k hp | exact h _ hp

theorem Frame.with_slur {o s : State} {l : List Piece} {x : Slur} (h : State.onlyIn o s l) (k : Piece.slur ∈ l) :
    FrameParts o l s.part s.clk s.regs s.sys s.hif s.evc s.sec s.whl s.ang s.sch s.banks s.quads s.edges s.ink s.grds s.adc s.cmps s.tmrs s.nibs s.tst x s.jtag s.ans s.freeCtr s.pending :=
  fun p hp => by cases p <;> first | exact absurd k hp | exact h _ hp

theorem Frame.with_jtag {o s : State} {l : List Piece} {x : Jtag} (h : State.onlyIn o s l) (k : Piece.jtag ∈ l) :
    FrameParts o l s.part s.clk s.regs s.sys s.hif s.evc s.sec s.whl s.ang s.sch s.banks s.quads s.edges s.ink s.grds s.adc s.cmps s.tmrs s.nibs s.tst s.slur x s.ans s.freeCtr s.pending :=
  fun p hp => by cases p <;> first | exact absurd k hp | exact h _ hp

theorem Frame.with_ans {o s : State} {l : List Piece} {x : Answers} (h : State.onlyIn o s l) (k : Piece.ans ∈ l) :
    FrameParts o l s.part s.clk s.regs s.sys s.hif s.evc s.sec s.whl s.ang s.sch s.banks s.quads s.edges s.ink s.grds s.adc s.cmps s.tmrs s.nibs s.tst s.slur s.jtag x s.freeCtr s.pending :=
  fun p hp => by cases p <;> first | exact absurd k hp | exact h _ hp

theorem Frame.with_freeCtr {o s : State} {l : List Piece} {x : Nat} (h : State.onlyIn o s l) (k : Piece.freeCtr ∈ l) :
    FrameParts o l s.part s.clk s.regs s.sys s.hif s.evc s.sec s.whl s.ang s.sch s.banks s.quads s.edges s.ink s.grds s.adc s.cmps s.tmrs s.nibs s.tst s.slur s.jtag s.ans x s.pending :=
  fun p hp => by cases p <;> first | exact absurd k hp | exact h _ hp

theorem Frame.with_pending {o s : State} {l : List Piece} {x : List Instr} (h : State.onlyIn o s l) (k : Piece.pending ∈ l) :
    FrameParts o l s.part s.clk s.regs s.sys s.hif s.evc s.sec s.whl s.ang s.sch s.banks s.quads s.edges s.ink s.grds s.adc s.cmps s.tmrs s.nibs s.tst s.slur s.jtag s.ans s.freeCtr x :=
  fun p hp => by cases p <;> first | exact absurd k hp | exact h _ hp

theorem Frame.part_part {o s : State} {l : List Piece} (h : State.onlyIn o s l) : Piece.part ∈ l ∨ s.part = o.part := by
  by_cases k : Piece.part ∈ l
  · exact Or.inl k
  · exact Or.inr (h .part k)

theorem Frame.part_clk {o s : State} {l : List Piece} (h : State.onlyIn o s l) : Piece.clk ∈ l ∨ s.clk = o.clk := by
  by_cases k : Piece.clk ∈ l
  · exact Or.inl k
  · exact Or.inr (h .clk k)

theorem Frame.part_regs {o s : State} {l : List Piece} (h : State.onlyIn o s l) : Piece.regs ∈ l ∨ s.regs = o.regs := by
  by_cases k : Piece.regs ∈ l
  · exact Or.inl k
  · exact Or.inr (h .regs k)

theorem Frame.part_sys {o s : State} {l : List Piece} (h : State.onlyIn o s l) : Piece.sys ∈ l ∨ s.sys = o.sys := by
  by_cases k : Piece.sys ∈ l
  · exact Or.inl k
  · exact Or.inr (h .sys k)

theorem Frame.part_hif {o s : State} {l : List Piece} (h : State.onlyIn o s l) : Piece.hif ∈ l ∨ s.hif = o.hif := by
  by_cases k : Piece.hif ∈ l
  · exact Or.inl k
  · exact Or.inr (h .hif k)

theorem Frame.part_evc {o s : State} {l : List Piece} (h : State.onlyIn o s l) : Piece.evc ∈ l ∨ s.evc = o.evc := by
  by_cases k : Piece.evc ∈ l
  · exact Or.inl k
  · exact Or.inr (h .evc k)

theorem Frame.part_sec {o s : State} {l : List Piece} (h : State.onlyIn o s l) : Piece.sec ∈ l ∨ s.sec = o.sec := by
  by_cases k : Piece.sec ∈ l
  · exact Or.inl k
  · exact Or.inr (h .sec k)

theorem Frame.part_whl {o s : State} {l : List Piece} (h : State.onlyIn o s l) : Piece.whl ∈ l ∨ s.whl = o.whl := by
  by_cases k : Piece.whl ∈ l
  · exact Or.inl k
  · exact Or.inr (h .whl k)

theorem Frame.part_ang {o s : State} {l : List Piece} (h : State.onlyIn o s l) : Piece.ang ∈ l ∨ s.ang = o.ang := by
  by_cases k : Piece.ang ∈ l
  · exact Or.inl k
  · exact Or.inr (h .ang k)

theorem Frame.part_sch {o s : State} {l : List Piece} (h : State.onlyIn o s l) : Piece.sch ∈ l ∨ s.sch = o.sch := by
  by_cases k : Piece.sch ∈ l
  · exact Or.inl k
  · exact Or.inr (h .sch k)

theorem Frame.part_banks {o s : State} {l : List Piece} (h : State.onlyIn o s l) : Piece.banks ∈ l ∨ s.banks = o.banks := by
  by_cases k : Piece.banks ∈ l
  · exact Or.inl k
  · exact Or.inr (h .banks k)

theorem Frame.part_quads {o s : State} {l : List Piece} (h : State.onlyIn o s l) : Piece.quads ∈ l ∨ s.quads = o.quads := by
  by_cases k : Piece.quads ∈ l
  · exact Or.inl k
  · exact Or.inr (h .quads k)

theorem Frame.part_edges {o s : State} {l : List Piece} (h : State.onlyIn o s l) : Piece.edges ∈ l ∨ s.edges = o.edges := by
  by_cases k : Piece.edges ∈ l
  · exact Or.inl k
  · exact Or.inr (h .edges k)

theorem Frame.part_ink {o s : State} {l : List Piece} (h : State.onlyIn o s l) : Piece.ink ∈ l ∨ s.ink = o.ink := by
  by_cases k : Piece.ink ∈ l
  · exact Or.inl k
  · exact Or.inr (h .ink k)

theorem Frame.part_grds {o s : State} {l : List Piece} (h : State.onlyIn o s l) : Piece.grds ∈ l ∨ s.grds = o.grds := by
  by_cases k : Piece.grds ∈ l
  · exact Or.inl k
  · exact Or.inr (h .grds k)

theorem Frame.part_adc {o s : State} {l : List Piece} (h : State.onlyIn o s l) : Piece.adc ∈ l ∨ s.adc = o.adc := by
  by_cases k : Piece.adc ∈ l
  · exact Or.inl k
  · exact Or.inr (h .adc k)

theorem Frame.part_cmps {o s : State} {l : List Piece} (h : State.onlyIn o s l) : Piece.cmps ∈ l ∨ s.cmps = o.cmps := by
  by_cases k : Piece.cmps ∈ l
  · exact Or.inl k
  · exact Or.inr (h .cmps k)

theorem Frame.part_tmrs {o s : State} {l : List Piece} (h : State.onlyIn o s l) : Piece.tmrs ∈ l ∨ s.tmrs = o.tmrs := by
  by_cases k : Piece.tmrs ∈ l
  · exact Or.inl k
  · exact Or.inr (h .tmrs k)

theorem Frame.part_nibs {o s : State} {l : List Piece} (h : State.onlyIn o s l) : Piece.nibs ∈ l ∨ s.nibs = o.nibs := by
  by_cases k : Piece.nibs ∈ l
  · exact Or.inl k
  · exact Or.inr (h .nibs k)

theorem Frame.part_tst {o s : State} {l : List Piece} (h : State.onlyIn o s l) : Piece.tst ∈ l ∨ s.tst = o.tst := by
  by_cases k : Piece.tst ∈ l
  · exact Or.inl k
  · exact Or.inr (h .tst k)

theorem Frame.part_slur {o s : State} {l : List Piece} (h : State.onlyIn o s l) : Piece.slur ∈ l ∨ s.slur = o.slur := by
  by_cases k : Piece.slur ∈ l
  · exact Or.inl k
  · exact Or.inr (h .slur k)

theorem Frame.part_jtag {o s : State} {l : List Piece} (h : State.onlyIn o s l) : Piece.jtag ∈ l ∨ s.jtag = o.jtag := by
  by_cases k : Piece.jtag ∈ l
  · exact Or.inl k
  · exact Or.inr (h .jtag k)

theorem Frame.part_ans {o s : State} {l : List Piece} (h : State.onlyIn o s l) : Piece.ans ∈ l ∨ s.ans = o.ans := by
  by_cases k : Piece.ans ∈ l
  · exact Or.inl k
  · exact Or.inr (h .ans k)

theorem Frame.part_freeCtr {o s : State} {l : List Piece} (h : State.onlyIn o s l) : Piece.freeCtr ∈ l ∨ s.freeCtr = o.freeCtr := by
  by_cases k : Piece.freeCtr ∈ l
  · exact Or.inl k
  · exact Or.inr (h .freeCtr k)

theorem Frame.part_pending {o s : State} {l : List Piece} (h : State.onlyIn o s l) : Piece.pending ∈ l ∨ s.pending = o.pending := by
  by_cases k : Piece.pending ∈ l
  · exact Or.inl k
  · exact Or.inr (h .pending k)

theorem Frame.parts {o : State} {l : List Piece} {part : Part} {clk : Clk} {regs : RegFile} {sys : Sys} {hif : Hif} {evc : Evc} {sec : Sec} {whl : Whl} {ang : Ang} {sch : Sch} {banks : List Bank} {quads : List Quad} {edges : List Edge} {ink : Ink} {grds : List Grd} {adc : Adc} {cmps : Cmps} {tmrs : List Tmr} {nibs : List Nib} {tst : Tst} {slur : Slur} {jtag : Jtag} {ans : Answers} {freeCtr : Nat} {pending : List Instr}
    (h0 : Piece.part ∈ l ∨ part = o.part) (h1 : Piece.clk ∈ l ∨ clk = o.clk) (h2 : Piece.regs ∈ l ∨ regs = o.regs) (h3 : Piece.sys ∈ l ∨ sys = o.sys) (h4 : Piece.hif ∈ l ∨ hif = o.hif) (h5 : Piece.evc ∈ l ∨ evc = o.evc) (h6 : Piece.sec ∈ l ∨ sec = o.sec) (h7 : Piece.whl ∈ l ∨ whl = o.whl) (h8 : Piece.ang ∈ l ∨ ang = o.ang) (h9 : Piece.sch ∈ l ∨ sch = o.sch) (h10 : Piece.banks ∈ l ∨ banks = o.banks) (h11 : Piece.quads ∈ l ∨ quads = o.quads) (h12 : Piece.edges ∈ l ∨ edges = o.edges) (h13 : Piece.ink ∈ l ∨ ink = o.ink) (h14 : Piece.grds ∈ l ∨ grds = o.grds) (h15 : Piece.adc ∈ l ∨ adc = o.adc) (h16 : Piece.cmps ∈ l ∨ cmps = o.cmps) (h17 : Piece.tmrs ∈ l ∨ tmrs = o.tmrs) (h18 : Piece.nibs ∈ l ∨ nibs = o.nibs) (h19 : Piece.tst ∈ l ∨ tst = o.tst) (h20 : Piece.slur ∈ l ∨ slur = o.slur) (h21 : Piece.jtag ∈ l ∨ jtag = o.jtag) (h22 : Piece.ans ∈ l ∨ ans = o.ans) (h23 : Piece.freeCtr ∈ l ∨ freeCtr = o.freeCtr) (h24 : Piece.pending ∈ l ∨ pending = o.pending) :
    FrameParts o l part clk regs sys hif evc sec whl ang sch banks quads edges ink grds adc cmps tmrs nibs tst slur jtag ans freeCtr pending := by
  intro p hp
  cases p
  · exact h0.resolve_left hp
  · exact h1.resolve_left hp
  · exact h2.resolve_left hp
  · exact h3.resolve_left hp
  · exact h4.resolve_left hp
  · exact h5.resolve_left hp
  · exact h6.resolve_left hp
  · exact h7.resolve_left hp
  · exact h8.resolve_left hp
  · exact h9.resolve_left hp
  · exact h10.resolve_left hp
  · exact h11.resolve_left hp
  · exact h12.resolve_left hp
  · exact h13.resolve_left hp
  · exact h14.resolve_left hp
  · exact h15.resolve_left hp
  · exact h16.resolve_left hp
  · exact h17.resolve_left hp
  · exact h18.resolve_left hp
  · exact h19.resolve_left hp
  · exact h20.resolve_left hp
  · exact h21.resolve_left hp
  · exact h22.resolve_left hp
  · exact h23.resolve_left hp
  · exact h24.resolve_left hp

theorem Frame.ite {a : State} {l : List Piece} {c : Prop} [Decidable c] {x y : State} (h : State.onlyIn a x l) (k : State.onlyIn a y l) :
    State.onlyIn a (if c then x else y) l := by
  split <;> assumption

theorem Frame.ite2 {α : Type} {a : State} {l : List Piece} {c : Prop} [Decidable c] {x y : α × State} (h : State.onlyIn a x.2 l)
    (k : State.onlyIn a y.2 l) : State.onlyIn a (if c then x else y).2 l := by
  split <;> assumption

theorem Frame.foldl {α : Type} {a s : State} {f : State → α → State} {m : List α} {l : List Piece} (h : State.onlyIn a s l)
    (k : ∀ x y, State.onlyIn a x l → State.onlyIn a (f x y) l) : State.onlyIn a (m.foldl f s) l := by
  induction m generalizing s with
  | nil => exact h
  | cons x m ih => exact ih (k _ _ h)

theorem Frame.foldl2 {α β : Type} {a s : State} {f : β × State → α → β × State} {m : List α} {b : β} {l : List Piece}
    (h : State.onlyIn a s l) (k : ∀ z x y, State.onlyIn a x l → State.onlyIn a (f (z, x) y).2 l) :
    State.onlyIn a (m.foldl f (b, s)).2 l := by
  induction m generalizing s b with
  | nil => exact h
  | cons x m ih => exact ih (b := (f (b, s) x).1) (s := (f (b, s) x).2) (k _ _ _ h)

theorem Frame.id {o s : State} {l : List Piece} (h : State.onlyIn o s l) : State.onlyIn o (id s) l := h

/-- A command that answers a next state has changed the parts of l at most. -/
def FrameOut (o : State) (l : List Piece) (r : Host.Outcome State Fault Refusal) : Prop := ∀ t, r = .next t → State.onlyIn o t l

theorem FrameOut.next {o t : State} {l : List Piece} (h : State.onlyIn o t l) : FrameOut o l (.next t) := fun _ e => by cases e; exact h
theorem FrameOut.fault {o : State} {l : List Piece} {f : Fault} : FrameOut o l (.fault f) := fun _ e => by cases e

end Sys2Proof.Machine
end

