-- ==== Sys2Proof/Laws/FrameOps.lean ====
section
/-! SUPPORT. Which parts of State each shared operation writes (Laws/Frame.lean). -/

set_option linter.all false

namespace Sys2Proof.Machine

/-! Ops -/

theorem Frame.putWord {o : State} {ps : List Piece} (s : State) (a : Nat) (v : Word) (h0 : State.onlyIn o s ps) (kregs : Piece.regs ∈ ps) :
    State.onlyIn o (State.putWord s a v) ps := by
  unfold Sys2Proof.Machine.State.putWord
  dsimp -failIfUnchanged only
  with_reducible repeat' (first | assumption | (intro _) | apply Frame.ite | apply Frame.ite2 | apply Frame.foldl | apply Frame.foldl2 | apply h0 | simp only [Frame.mk_iff] | apply Frame.with_regs | (fail_if_no_progress beta_reduce) | (fail_if_no_progress dsimp only) | split)

theorem Frame.putShadow {o : State} {ps : List Piece} (s : State) (a : Nat) (v : Word) (h0 : State.onlyIn o s ps) (kregs : Piece.regs ∈ ps) :
    State.onlyIn o (State.putShadow s a v) ps := by
  unfold Sys2Proof.Machine.State.putShadow
  dsimp -failIfUnchanged only
  with_reducible repeat' (first | assumption | (intro _) | apply Frame.ite | apply Frame.ite2 | apply Frame.foldl | apply Frame.foldl2 | apply h0 | simp only [Frame.mk_iff] | apply Frame.with_regs | (fail_if_no_progress beta_reduce) | (fail_if_no_progress dsimp only) | split)

theorem Frame.inCycle {o : State} {ps : List Piece} (f : Same → Same) (s : State) (h0 : State.onlyIn o s ps) (kregs : Piece.regs ∈ ps) :
    State.onlyIn o (State.inCycle f s) ps := by
  unfold Sys2Proof.Machine.State.inCycle
  dsimp -failIfUnchanged only
  with_reducible repeat' (first | assumption | (intro _) | apply Frame.ite | apply Frame.ite2 | apply Frame.foldl | apply Frame.foldl2 | apply h0 | simp only [Frame.mk_iff] | apply Frame.with_regs | (fail_if_no_progress beta_reduce) | (fail_if_no_progress dsimp only) | split)

theorem Frame.noteHw {o : State} {ps : List Piece} (a : Nat) (g : Word → Word) (s : State) (h0 : State.onlyIn o s ps) (kregs : Piece.regs ∈ ps) :
    State.onlyIn o (State.noteHw a g s) ps := by
  unfold Sys2Proof.Machine.State.noteHw
  dsimp -failIfUnchanged only
  with_reducible repeat' (first | assumption | (intro _) | apply Frame.ite | apply Frame.ite2 | apply Frame.foldl | apply Frame.foldl2 | apply Frame.inCycle | apply h0 | (fail_if_no_progress beta_reduce) | (fail_if_no_progress dsimp only) | split)

theorem Frame.noteHost {o : State} {ps : List Piece} (a : Nat) (s : State) (h0 : State.onlyIn o s ps) (kregs : Piece.regs ∈ ps) :
    State.onlyIn o (State.noteHost a s) ps := by
  unfold Sys2Proof.Machine.State.noteHost
  dsimp -failIfUnchanged only
  with_reducible repeat' (first | assumption | (intro _) | apply Frame.ite | apply Frame.ite2 | apply Frame.foldl | apply Frame.foldl2 | apply Frame.inCycle | apply h0 | (fail_if_no_progress beta_reduce) | (fail_if_no_progress dsimp only) | split)

theorem Frame.noteMq {o : State} {ps : List Piece} (a m : Nat) (s : State) (h0 : State.onlyIn o s ps) (kregs : Piece.regs ∈ ps) :
    State.onlyIn o (State.noteMq a m s) ps := by
  unfold Sys2Proof.Machine.State.noteMq
  dsimp -failIfUnchanged only
  with_reducible repeat' (first | assumption | (intro _) | apply Frame.ite | apply Frame.ite2 | apply Frame.foldl | apply Frame.foldl2 | apply Frame.inCycle | apply h0 | (fail_if_no_progress beta_reduce) | (fail_if_no_progress dsimp only) | split)

theorem Frame.set {o : State} {ps : List Piece} (s : State) (f : Fld) (v : Nat) (h0 : State.onlyIn o s ps) (kregs : Piece.regs ∈ ps) :
    State.onlyIn o (State.set s f v) ps := by
  unfold Sys2Proof.Machine.State.set
  dsimp -failIfUnchanged only
  with_reducible repeat' (first | assumption | (intro _) | apply Frame.ite | apply Frame.ite2 | apply Frame.foldl | apply Frame.foldl2 | apply Frame.noteHw | apply Frame.putWord | apply h0 | (fail_if_no_progress beta_reduce) | (fail_if_no_progress dsimp only) | split)

theorem Frame.addSat {o : State} {ps : List Piece} (s : State) (f : Fld) (n : Nat) (h0 : State.onlyIn o s ps) (kregs : Piece.regs ∈ ps) :
    State.onlyIn o (State.addSat s f n) ps := by
  unfold Sys2Proof.Machine.State.addSat
  dsimp -failIfUnchanged only
  with_reducible repeat' (first | assumption | (intro _) | apply Frame.ite | apply Frame.ite2 | apply Frame.foldl | apply Frame.foldl2 | apply Frame.noteHw | apply Frame.putWord | apply h0 | (fail_if_no_progress beta_reduce) | (fail_if_no_progress dsimp only) | split)

theorem Frame.count {o : State} {ps : List Piece} (s : State) (f : Fld) (h0 : State.onlyIn o s ps) (kregs : Piece.regs ∈ ps) :
    State.onlyIn o (State.count s f) ps := by
  unfold Sys2Proof.Machine.State.count
  dsimp -failIfUnchanged only
  with_reducible repeat' (first | assumption | (intro _) | apply Frame.ite | apply Frame.ite2 | apply Frame.foldl | apply Frame.foldl2 | apply Frame.addSat | apply h0 | (fail_if_no_progress beta_reduce) | (fail_if_no_progress dsimp only) | split)

theorem Frame.endClamp {o : State} {ps : List Piece} (s : State) (h0 : State.onlyIn o s ps) (kregs : Piece.regs ∈ ps) (kang : Piece.ang ∈ ps) :
    State.onlyIn o (State.endClamp s) ps := by
  unfold Sys2Proof.Machine.State.endClamp
  dsimp -failIfUnchanged only
  with_reducible repeat' (first | assumption | (intro _) | apply Frame.ite | apply Frame.ite2 | apply Frame.foldl | apply Frame.foldl2 | apply Frame.addSat | apply h0 | simp only [Frame.mk_iff] | apply Frame.with_ang | (fail_if_no_progress beta_reduce) | (fail_if_no_progress dsimp only) | split)

theorem Frame.setBit {o : State} {ps : List Piece} (f : Fld) (i : Nat) (s : State) (h0 : State.onlyIn o s ps) (kregs : Piece.regs ∈ ps) :
    State.onlyIn o (State.setBit f i s) ps := by
  unfold Sys2Proof.Machine.State.setBit
  dsimp -failIfUnchanged only
  with_reducible repeat' (first | assumption | (intro _) | apply Frame.ite | apply Frame.ite2 | apply Frame.foldl | apply Frame.foldl2 | apply Frame.set | apply h0 | (fail_if_no_progress beta_reduce) | (fail_if_no_progress dsimp only) | split)

theorem Frame.clrBit {o : State} {ps : List Piece} (f : Fld) (i : Nat) (s : State) (h0 : State.onlyIn o s ps) (kregs : Piece.regs ∈ ps) :
    State.onlyIn o (State.clrBit f i s) ps := by
  unfold Sys2Proof.Machine.State.clrBit
  dsimp -failIfUnchanged only
  with_reducible repeat' (first | assumption | (intro _) | apply Frame.ite | apply Frame.ite2 | apply Frame.foldl | apply Frame.foldl2 | apply Frame.set | apply h0 | (fail_if_no_progress beta_reduce) | (fail_if_no_progress dsimp only) | split)

theorem Frame.clrLatch {o : State} {ps : List Piece} (f : Fld) (i : Nat) (s : State) (h0 : State.onlyIn o s ps) (kregs : Piece.regs ∈ ps) :
    State.onlyIn o (State.clrLatch f i s) ps := by
  unfold Sys2Proof.Machine.State.clrLatch
  dsimp -failIfUnchanged only
  with_reducible repeat' (first | assumption | (intro _) | apply Frame.ite | apply Frame.ite2 | apply Frame.foldl | apply Frame.foldl2 | apply Frame.clrBit | apply h0 | (fail_if_no_progress beta_reduce) | (fail_if_no_progress dsimp only) | split)

theorem Frame.markDirty {o : State} {ps : List Piece} (s : State) (a role : Nat) (h0 : State.onlyIn o s ps) (kregs : Piece.regs ∈ ps) :
    State.onlyIn o (State.markDirty s a role) ps := by
  unfold Sys2Proof.Machine.State.markDirty
  dsimp -failIfUnchanged only
  with_reducible repeat' (first | assumption | (intro _) | apply Frame.ite | apply Frame.ite2 | apply Frame.foldl | apply Frame.foldl2 | apply h0 | simp only [Frame.mk_iff] | apply Frame.with_regs | (fail_if_no_progress beta_reduce) | (fail_if_no_progress dsimp only) | split)

theorem Frame.putBoth {o : State} {ps : List Piece} (s : State) (a : Nat) (v : Word) (role : Nat) (h0 : State.onlyIn o s ps) (kregs : Piece.regs ∈ ps) :
    State.onlyIn o (State.putBoth s a v role) ps := by
  unfold Sys2Proof.Machine.State.putBoth
  dsimp -failIfUnchanged only
  with_reducible repeat' (first | assumption | (intro _) | apply Frame.ite | apply Frame.ite2 | apply Frame.foldl | apply Frame.foldl2 | apply Frame.noteHost | apply Frame.putWord | apply Frame.putShadow | apply Frame.markDirty | apply h0 | (fail_if_no_progress beta_reduce) | (fail_if_no_progress dsimp only) | split)

theorem Frame.modBank {o : State} {ps : List Piece} (s : State) (b : Nat) (f : Bank → Bank) (h0 : State.onlyIn o s ps) (kbanks : Piece.banks ∈ ps) :
    State.onlyIn o (State.modBank s b f) ps := by
  unfold Sys2Proof.Machine.State.modBank
  dsimp -failIfUnchanged only
  with_reducible repeat' (first | assumption | (intro _) | apply Frame.ite | apply Frame.ite2 | apply Frame.foldl | apply Frame.foldl2 | apply h0 | simp only [Frame.mk_iff] | apply Frame.with_banks | (fail_if_no_progress beta_reduce) | (fail_if_no_progress dsimp only) | split)

theorem Frame.modChan {o : State} {ps : List Piece} (s : State) (n : Nat) (f : Chan → Chan) (h0 : State.onlyIn o s ps) (ksch : Piece.sch ∈ ps) :
    State.onlyIn o (State.modChan s n f) ps := by
  unfold Sys2Proof.Machine.State.modChan
  dsimp -failIfUnchanged only
  with_reducible repeat' (first | assumption | (intro _) | apply Frame.ite | apply Frame.ite2 | apply Frame.foldl | apply Frame.foldl2 | apply h0 | simp only [Frame.mk_iff] | apply Frame.with_sch | (fail_if_no_progress beta_reduce) | (fail_if_no_progress dsimp only) | split)

theorem Frame.modQuad {o : State} {ps : List Piece} (s : State) (q : Nat) (f : Quad → Quad) (h0 : State.onlyIn o s ps) (kquads : Piece.quads ∈ ps) :
    State.onlyIn o (State.modQuad s q f) ps := by
  unfold Sys2Proof.Machine.State.modQuad
  dsimp -failIfUnchanged only
  with_reducible repeat' (first | assumption | (intro _) | apply Frame.ite | apply Frame.ite2 | apply Frame.foldl | apply Frame.foldl2 | apply h0 | simp only [Frame.mk_iff] | apply Frame.with_quads | (fail_if_no_progress beta_reduce) | (fail_if_no_progress dsimp only) | split)

theorem Frame.modGrd {o : State} {ps : List Piece} (s : State) (g : Nat) (f : Grd → Grd) (h0 : State.onlyIn o s ps) (kgrds : Piece.grds ∈ ps) :
    State.onlyIn o (State.modGrd s g f) ps := by
  unfold Sys2Proof.Machine.State.modGrd
  dsimp -failIfUnchanged only
  with_reducible repeat' (first | assumption | (intro _) | apply Frame.ite | apply Frame.ite2 | apply Frame.foldl | apply Frame.foldl2 | apply h0 | simp only [Frame.mk_iff] | apply Frame.with_grds | (fail_if_no_progress beta_reduce) | (fail_if_no_progress dsimp only) | split)

theorem Frame.modTmr {o : State} {ps : List Piece} (s : State) (n : Nat) (f : Tmr → Tmr) (h0 : State.onlyIn o s ps) (ktmrs : Piece.tmrs ∈ ps) :
    State.onlyIn o (State.modTmr s n f) ps := by
  unfold Sys2Proof.Machine.State.modTmr
  dsimp -failIfUnchanged only
  with_reducible repeat' (first | assumption | (intro _) | apply Frame.ite | apply Frame.ite2 | apply Frame.foldl | apply Frame.foldl2 | apply h0 | simp only [Frame.mk_iff] | apply Frame.with_tmrs | (fail_if_no_progress beta_reduce) | (fail_if_no_progress dsimp only) | split)

theorem Frame.modNib {o : State} {ps : List Piece} (s : State) (n : Nat) (f : Nib → Nib) (h0 : State.onlyIn o s ps) (knibs : Piece.nibs ∈ ps) :
    State.onlyIn o (State.modNib s n f) ps := by
  unfold Sys2Proof.Machine.State.modNib
  dsimp -failIfUnchanged only
  with_reducible repeat' (first | assumption | (intro _) | apply Frame.ite | apply Frame.ite2 | apply Frame.foldl | apply Frame.foldl2 | apply h0 | simp only [Frame.mk_iff] | apply Frame.with_nibs | (fail_if_no_progress beta_reduce) | (fail_if_no_progress dsimp only) | split)

theorem Frame.modRing {o : State} {ps : List Piece} (s : State) (r : Nat) (f : Ring → Ring) (h0 : State.onlyIn o s ps) (khif : Piece.hif ∈ ps) :
    State.onlyIn o (State.modRing s r f) ps := by
  unfold Sys2Proof.Machine.State.modRing
  dsimp -failIfUnchanged only
  with_reducible repeat' (first | assumption | (intro _) | apply Frame.ite | apply Frame.ite2 | apply Frame.foldl | apply Frame.foldl2 | apply h0 | simp only [Frame.mk_iff] | apply Frame.with_hif | (fail_if_no_progress beta_reduce) | (fail_if_no_progress dsimp only) | split)

theorem Frame.modThread {o : State} {ps : List Piece} (s : State) (b t : Nat) (f : Thread → Thread) (h0 : State.onlyIn o s ps) (kbanks : Piece.banks ∈ ps) :
    State.onlyIn o (State.modThread s b t f) ps := by
  unfold Sys2Proof.Machine.State.modThread
  dsimp -failIfUnchanged only
  with_reducible repeat' (first | assumption | (intro _) | apply Frame.ite | apply Frame.ite2 | apply Frame.foldl | apply Frame.foldl2 | apply Frame.modBank | apply h0 | (fail_if_no_progress beta_reduce) | (fail_if_no_progress dsimp only) | split)

theorem Frame.modEvent {o : State} {ps : List Piece} (s : State) (id : Nat) (f : Event → Event) (h0 : State.onlyIn o s ps) (ksch : Piece.sch ∈ ps) :
    State.onlyIn o (State.modEvent s id f) ps := by
  unfold Sys2Proof.Machine.State.modEvent
  dsimp -failIfUnchanged only
  with_reducible repeat' (first | assumption | (intro _) | apply Frame.ite | apply Frame.ite2 | apply Frame.foldl | apply Frame.foldl2 | apply h0 | apply Frame.id | simp only [Frame.mk_iff] | apply Frame.with_sch | (fail_if_no_progress beta_reduce) | (fail_if_no_progress dsimp only) | split)

theorem Frame.modStore {o : State} {ps : List Piece} (f : Event → Event) (s : State) (h0 : State.onlyIn o s ps) (ksch : Piece.sch ∈ ps) :
    State.onlyIn o (State.modStore f s) ps := by
  unfold Sys2Proof.Machine.State.modStore
  dsimp -failIfUnchanged only
  with_reducible repeat' (first | assumption | (intro _) | apply Frame.ite | apply Frame.ite2 | apply Frame.foldl | apply Frame.foldl2 | apply h0 | simp only [Frame.mk_iff] | apply Frame.with_sch | (fail_if_no_progress beta_reduce) | (fail_if_no_progress dsimp only) | split)

theorem Frame.dropEvent {o : State} {ps : List Piece} (s : State) (id : Nat) (h0 : State.onlyIn o s ps) (ksch : Piece.sch ∈ ps) (kbanks : Piece.banks ∈ ps) :
    State.onlyIn o (State.dropEvent s id) ps := by
  unfold Sys2Proof.Machine.State.dropEvent
  dsimp -failIfUnchanged only
  with_reducible repeat' (first | assumption | (intro _) | apply Frame.ite | apply Frame.ite2 | apply Frame.foldl | apply Frame.foldl2 | apply h0 | apply Frame.id | simp only [Frame.mk_iff] | apply Frame.with_sch | apply Frame.with_banks | apply Frame.parts | (exact Or.inl ‹_›) | apply Frame.part_part | apply Frame.part_clk | apply Frame.part_regs | apply Frame.part_sys | apply Frame.part_hif | apply Frame.part_evc | apply Frame.part_sec | apply Frame.part_whl | apply Frame.part_ang | apply Frame.part_sch | apply Frame.part_banks | apply Frame.part_quads | apply Frame.part_edges | apply Frame.part_ink | apply Frame.part_grds | apply Frame.part_adc | apply Frame.part_cmps | apply Frame.part_tmrs | apply Frame.part_nibs | apply Frame.part_tst | apply Frame.part_slur | apply Frame.part_jtag | apply Frame.part_ans | apply Frame.part_freeCtr | apply Frame.part_pending | (fail_if_no_progress beta_reduce) | (fail_if_no_progress dsimp only) | split)

theorem Frame.railsFresh {o : State} {ps : List Piece} (s : State) (h0 : State.onlyIn o s ps) (kink : Piece.ink ∈ ps) :
    State.onlyIn o (State.railsFresh s) ps := by
  unfold Sys2Proof.Machine.State.railsFresh
  dsimp -failIfUnchanged only
  with_reducible repeat' (first | assumption | (intro _) | apply Frame.ite | apply Frame.ite2 | apply Frame.foldl | apply Frame.foldl2 | apply h0 | simp only [Frame.mk_iff] | apply Frame.with_ink | (fail_if_no_progress beta_reduce) | (fail_if_no_progress dsimp only) | split)

theorem Frame.setMode {o : State} {ps : List Piece} (s : State) (m : Mode) (h0 : State.onlyIn o s ps) (ksys : Piece.sys ∈ ps) (kink : Piece.ink ∈ ps) :
    State.onlyIn o (State.setMode s m) ps := by
  unfold Sys2Proof.Machine.State.setMode
  dsimp -failIfUnchanged only
  with_reducible repeat' (first | assumption | (intro _) | apply Frame.ite | apply Frame.ite2 | apply Frame.foldl | apply Frame.foldl2 | apply Frame.railsFresh | apply h0 | simp only [Frame.mk_iff] | apply Frame.with_sys | (fail_if_no_progress beta_reduce) | (fail_if_no_progress dsimp only) | split)

theorem Frame.raise {o : State} {ps : List Piece} (n : Nat) (s : State) (h0 : State.onlyIn o s ps) (kregs : Piece.regs ∈ ps) (kevc : Piece.evc ∈ ps) :
    State.onlyIn o (State.raise n s) ps := by
  unfold Sys2Proof.Machine.State.raise
  dsimp -failIfUnchanged only
  with_reducible repeat' (first | assumption | (intro _) | apply Frame.ite | apply Frame.ite2 | apply Frame.foldl | apply Frame.foldl2 | apply Frame.inCycle | apply h0 | simp only [Frame.mk_iff] | apply Frame.with_evc | (fail_if_no_progress beta_reduce) | (fail_if_no_progress dsimp only) | split)

theorem Frame.alarm {o : State} {ps : List Piece} (id sub data : Nat) (data2 : Nat) (s : State) (h0 : State.onlyIn o s ps) (kregs : Piece.regs ∈ ps) (khif : Piece.hif ∈ ps) :
    State.onlyIn o (State.alarm id sub data data2 s) ps := by
  unfold Sys2Proof.Machine.State.alarm
  dsimp -failIfUnchanged only
  with_reducible repeat' (first | assumption | (intro _) | apply Frame.ite | apply Frame.ite2 | apply Frame.foldl | apply Frame.foldl2 | apply Frame.count | apply Frame.set | apply h0 | apply Frame.id | simp only [Frame.mk_iff] | apply Frame.with_hif | (fail_if_no_progress beta_reduce) | (fail_if_no_progress dsimp only) | split)

theorem Frame.lose {o : State} {ps : List Piece} (r : Nat) (trk : Bool) (s : State) (h0 : State.onlyIn o s ps) (kregs : Piece.regs ∈ ps) (khif : Piece.hif ∈ ps) :
    State.onlyIn o (State.lose r trk s) ps := by
  unfold Sys2Proof.Machine.State.lose
  dsimp -failIfUnchanged only
  with_reducible repeat' (first | assumption | (intro _) | apply Frame.ite | apply Frame.ite2 | apply Frame.foldl | apply Frame.foldl2 | apply Frame.modRing | apply Frame.count | apply h0 | (fail_if_no_progress beta_reduce) | (fail_if_no_progress dsimp only) | split)

theorem Frame.stageTele {o : State} {ps : List Piece} (n : Nat) (words : List Word) (ev : Option Nat) (trk : Bool) (s : State) (h0 : State.onlyIn o s ps) (kregs : Piece.regs ∈ ps) (khif : Piece.hif ∈ ps) :
    State.onlyIn o (State.stageTele n words ev trk s) ps := by
  unfold Sys2Proof.Machine.State.stageTele
  dsimp -failIfUnchanged only
  with_reducible repeat' (first | assumption | (intro _) | apply Frame.ite | apply Frame.ite2 | apply Frame.foldl | apply Frame.foldl2 | apply Frame.modRing | apply Frame.lose | apply h0 | simp only [Frame.mk_iff] | apply Frame.with_hif | (fail_if_no_progress beta_reduce) | (fail_if_no_progress dsimp only) | split)

theorem Frame.trace {o : State} {ps : List Piece} (t bit low : Nat) (time : Tb) (mid w3 : Nat) (s : State) (h0 : State.onlyIn o s ps) (kregs : Piece.regs ∈ ps) (khif : Piece.hif ∈ ps) :
    State.onlyIn o (State.trace t bit low time mid w3 s) ps := by
  unfold Sys2Proof.Machine.State.trace
  dsimp -failIfUnchanged only
  with_reducible repeat' (first | assumption | (intro _) | apply Frame.ite | apply Frame.ite2 | apply Frame.foldl | apply Frame.foldl2 | apply Frame.modRing | apply Frame.lose | apply h0 | simp only [Frame.mk_iff] | apply Frame.with_hif | (fail_if_no_progress beta_reduce) | (fail_if_no_progress dsimp only) | split)

theorem Frame.pushResult {o : State} {ps : List Piece} (cq : Nat) (words : List Word) (s : State) (h0 : State.onlyIn o s ps) (khif : Piece.hif ∈ ps) :
    State.onlyIn o (State.pushResult cq words s) ps := by
  unfold Sys2Proof.Machine.State.pushResult
  dsimp -failIfUnchanged only
  with_reducible repeat' (first | assumption | (intro _) | apply Frame.ite | apply Frame.ite2 | apply Frame.foldl | apply Frame.foldl2 | apply h0 | simp only [Frame.mk_iff] | apply Frame.with_hif | (fail_if_no_progress beta_reduce) | (fail_if_no_progress dsimp only) | split)

theorem Frame.short {o : State} {ps : List Piece} (code ch src count : Nat) (tag : Word) (s : State) (h0 : State.onlyIn o s ps) (kregs : Piece.regs ∈ ps) (khif : Piece.hif ∈ ps) :
    State.onlyIn o (State.short code ch src count tag s) ps := by
  unfold Sys2Proof.Machine.State.short
  dsimp -failIfUnchanged only
  with_reducible repeat' (first | assumption | (intro _) | apply Frame.ite | apply Frame.ite2 | apply Frame.foldl | apply Frame.foldl2 | apply Frame.pushResult | apply Frame.count | apply h0 | (fail_if_no_progress beta_reduce) | (fail_if_no_progress dsimp only) | split)

theorem Frame.touch {o : State} {ps : List Piece} (s : State) (p : Port) (h0 : State.onlyIn o s ps) (ksec : Piece.sec ∈ ps) :
    State.onlyIn o (State.touch s p) ps := by
  unfold Sys2Proof.Machine.State.touch
  dsimp -failIfUnchanged only
  with_reducible repeat' (first | assumption | (intro _) | apply Frame.ite | apply Frame.ite2 | apply Frame.foldl | apply Frame.foldl2 | apply h0 | simp only [Frame.mk_iff] | apply Frame.with_sec | (fail_if_no_progress beta_reduce) | (fail_if_no_progress dsimp only) | split)

theorem Frame.dropWrite {o : State} {ps : List Piece} (s : State) (p : Port) (h0 : State.onlyIn o s ps) (kregs : Piece.regs ∈ ps) (khif : Piece.hif ∈ ps) :
    State.onlyIn o (State.dropWrite s p) ps := by
  unfold Sys2Proof.Machine.State.dropWrite
  dsimp -failIfUnchanged only
  with_reducible repeat' (first | assumption | (intro _) | apply Frame.ite | apply Frame.ite2 | apply Frame.foldl | apply Frame.foldl2 | apply Frame.count | apply h0 | simp only [Frame.mk_iff] | apply Frame.with_hif | (fail_if_no_progress beta_reduce) | (fail_if_no_progress dsimp only) | split)

theorem Frame.deny {o : State} {ps : List Piece} (s : State) (p : Port) (h0 : State.onlyIn o s ps) (kregs : Piece.regs ∈ ps) (khif : Piece.hif ∈ ps) :
    State.onlyIn o (State.deny s p) ps := by
  unfold Sys2Proof.Machine.State.deny
  dsimp -failIfUnchanged only
  with_reducible repeat' (first | assumption | (intro _) | apply Frame.ite | apply Frame.ite2 | apply Frame.foldl | apply Frame.foldl2 | apply Frame.count | apply h0 | simp only [Frame.mk_iff] | apply Frame.with_hif | (fail_if_no_progress beta_reduce) | (fail_if_no_progress dsimp only) | split)

theorem Frame.onWrite {o : State} {ps : List Piece} (s : State) (p : Port) (f : State → State) (h0 : State.onlyIn o s ps) (h1 : ∀ x, State.onlyIn o x ps → State.onlyIn o (f x) ps) (kregs : Piece.regs ∈ ps) (khif : Piece.hif ∈ ps) (ksec : Piece.sec ∈ ps) :
    State.onlyIn o (State.onWrite s p f) ps := by
  unfold Sys2Proof.Machine.State.onWrite
  dsimp -failIfUnchanged only
  with_reducible repeat' (first | assumption | (intro _) | apply Frame.ite | apply Frame.ite2 | apply Frame.foldl | apply Frame.foldl2 | apply Frame.touch | apply Frame.dropWrite | apply h0 | apply h1 | (fail_if_no_progress beta_reduce) | (fail_if_no_progress dsimp only) | split)

theorem Frame.onRole {o : State} {ps : List Piece} (s : State) (p : Port) (role : Nat) (f : State → State) (h0 : State.onlyIn o s ps) (h1 : ∀ x, State.onlyIn o x ps → State.onlyIn o (f x) ps) (kregs : Piece.regs ∈ ps) (khif : Piece.hif ∈ ps) (ksec : Piece.sec ∈ ps) :
    State.onlyIn o (State.onRole s p role f) ps := by
  unfold Sys2Proof.Machine.State.onRole
  dsimp -failIfUnchanged only
  with_reducible repeat' (first | assumption | (intro _) | apply Frame.ite | apply Frame.ite2 | apply Frame.foldl | apply Frame.foldl2 | apply Frame.onWrite | apply Frame.deny | apply h0 | apply h1 | (fail_if_no_progress beta_reduce) | (fail_if_no_progress dsimp only) | split)

theorem Frame.answer {o : State} {ps : List Piece} (s : State) (v : Nat) (h0 : State.onlyIn o s ps) (kans : Piece.ans ∈ ps) :
    State.onlyIn o (State.answer s v) ps := by
  unfold Sys2Proof.Machine.State.answer
  dsimp -failIfUnchanged only
  with_reducible repeat' (first | assumption | (intro _) | apply Frame.ite | apply Frame.ite2 | apply Frame.foldl | apply Frame.foldl2 | apply h0 | simp only [Frame.mk_iff] | apply Frame.with_ans | (fail_if_no_progress beta_reduce) | (fail_if_no_progress dsimp only) | split)

theorem Frame.onRead {o : State} {ps : List Piece} (s : State) (p : Port) (f : State → State) (h0 : State.onlyIn o s ps) (h1 : ∀ x, State.onlyIn o x ps → State.onlyIn o (f x) ps) (ksec : Piece.sec ∈ ps) (kans : Piece.ans ∈ ps) :
    State.onlyIn o (State.onRead s p f) ps := by
  unfold Sys2Proof.Machine.State.onRead
  dsimp -failIfUnchanged only
  with_reducible repeat' (first | assumption | (intro _) | apply Frame.ite | apply Frame.ite2 | apply Frame.foldl | apply Frame.foldl2 | apply Frame.touch | apply Frame.answer | apply h0 | apply h1 | (fail_if_no_progress beta_reduce) | (fail_if_no_progress dsimp only) | split)

theorem Frame.draw {o : State} {ps : List Piece} (s : State) (h0 : State.onlyIn o s ps) (kfreeCtr : Piece.freeCtr ∈ ps) :
    State.onlyIn o (State.draw s).2 ps := by
  unfold Sys2Proof.Machine.State.draw
  dsimp -failIfUnchanged only
  with_reducible repeat' (first | assumption | (intro _) | apply Frame.ite | apply Frame.ite2 | apply Frame.foldl | apply Frame.foldl2 | apply h0 | simp only [Frame.mk_iff] | apply Frame.with_freeCtr | (fail_if_no_progress beta_reduce) | (fail_if_no_progress dsimp only) | split)

/-! Acc -/

theorem Frame.setWin {o : State} {ps : List Piece} (s : State) (t : Nat) (w : Win) (h0 : State.onlyIn o s ps) (kadc : Piece.adc ∈ ps) :
    State.onlyIn o (State.setWin s t w) ps := by
  unfold Sys2Proof.Machine.State.setWin
  dsimp -failIfUnchanged only
  with_reducible repeat' (first | assumption | (intro _) | apply Frame.ite | apply Frame.ite2 | apply Frame.foldl | apply Frame.foldl2 | apply h0 | simp only [Frame.mk_iff] | apply Frame.with_adc | (fail_if_no_progress beta_reduce) | (fail_if_no_progress dsimp only) | split)

theorem Frame.openWin {o : State} {ps : List Piece} (t : Nat) (s : State) (h0 : State.onlyIn o s ps) (kregs : Piece.regs ∈ ps) (khif : Piece.hif ∈ ps) (kadc : Piece.adc ∈ ps) :
    State.onlyIn o (State.openWin t s) ps := by
  unfold Sys2Proof.Machine.State.openWin
  dsimp -failIfUnchanged only
  with_reducible repeat' (first | assumption | (intro _) | apply Frame.ite | apply Frame.ite2 | apply Frame.foldl | apply Frame.foldl2 | apply Frame.setWin | apply Frame.short | apply h0 | (fail_if_no_progress beta_reduce) | (fail_if_no_progress dsimp only) | split)

theorem Frame.stageClose {o : State} {ps : List Piece} (t : Nat) (x : Shut) (s : State) (h0 : State.onlyIn o s ps) (kregs : Piece.regs ∈ ps) (khif : Piece.hif ∈ ps) (kadc : Piece.adc ∈ ps) :
    State.onlyIn o (State.stageClose t x s) ps := by
  unfold Sys2Proof.Machine.State.stageClose
  dsimp -failIfUnchanged only
  with_reducible repeat' (first | assumption | (intro _) | apply Frame.ite | apply Frame.ite2 | apply Frame.foldl | apply Frame.foldl2 | apply Frame.lose | apply Frame.stageTele | apply h0 | simp only [Frame.mk_iff] | apply Frame.with_adc | (fail_if_no_progress beta_reduce) | (fail_if_no_progress dsimp only) | split)

theorem Frame.reshut {o : State} {ps : List Piece} (t : Nat) (x y : Shut) (s : State) (h0 : State.onlyIn o s ps) (kregs : Piece.regs ∈ ps) (khif : Piece.hif ∈ ps) (kadc : Piece.adc ∈ ps) :
    State.onlyIn o (State.reshut t x y s) ps := by
  unfold Sys2Proof.Machine.State.reshut
  dsimp -failIfUnchanged only
  with_reducible repeat' (first | assumption | (intro _) | apply Frame.ite | apply Frame.ite2 | apply Frame.foldl | apply Frame.foldl2 | apply Frame.inCycle | apply Frame.stageClose | apply h0 | simp only [Frame.mk_iff] | apply Frame.with_hif | (fail_if_no_progress beta_reduce) | (fail_if_no_progress dsimp only) | split)

theorem Frame.closeWin {o : State} {ps : List Piece} (t c : Nat) (ev : Option Nat) (reopen : Bool) (s : State) (h0 : State.onlyIn o s ps) (kregs : Piece.regs ∈ ps) (khif : Piece.hif ∈ ps) (kadc : Piece.adc ∈ ps) :
    State.onlyIn o (State.closeWin t c ev reopen s) ps := by
  unfold Sys2Proof.Machine.State.closeWin
  dsimp -failIfUnchanged only
  with_reducible repeat' (first | assumption | (intro _) | apply Frame.ite | apply Frame.ite2 | apply Frame.foldl | apply Frame.foldl2 | apply Frame.reshut | apply Frame.stageClose | apply Frame.inCycle | apply Frame.setWin | apply Frame.short | apply Frame.openWin | apply h0 | (fail_if_no_progress beta_reduce) | (fail_if_no_progress dsimp only) | split)

theorem Frame.sample {o : State} {ps : List Piece} (t : Nat) (v : Int) (epoch : Nat) (s : State) (h0 : State.onlyIn o s ps) (kregs : Piece.regs ∈ ps) (khif : Piece.hif ∈ ps) (kadc : Piece.adc ∈ ps) :
    State.onlyIn o (State.sample t v epoch s) ps := by
  unfold Sys2Proof.Machine.State.sample
  dsimp -failIfUnchanged only
  with_reducible repeat' (first | assumption | (intro _) | apply Frame.ite | apply Frame.ite2 | apply Frame.foldl | apply Frame.foldl2 | apply Frame.setWin | apply Frame.reshut | apply h0 | (fail_if_no_progress beta_reduce) | (fail_if_no_progress dsimp only) | split)

theorem Frame.closeAll {o : State} {ps : List Piece} (c : Nat) (reopen : Bool) (p : Nat → Bool) (s : State) (h0 : State.onlyIn o s ps) (kregs : Piece.regs ∈ ps) (khif : Piece.hif ∈ ps) (kadc : Piece.adc ∈ ps) :
    State.onlyIn o (State.closeAll c reopen p s) ps := by
  unfold Sys2Proof.Machine.State.closeAll
  dsimp -failIfUnchanged only
  with_reducible repeat' (first | assumption | (intro _) | apply Frame.ite | apply Frame.ite2 | apply Frame.foldl | apply Frame.foldl2 | apply Frame.closeWin | apply h0 | (fail_if_no_progress beta_reduce) | (fail_if_no_progress dsimp only) | split)

theorem Frame.openAll {o : State} {ps : List Piece} (p : Nat → Bool) (s : State) (h0 : State.onlyIn o s ps) (kregs : Piece.regs ∈ ps) (khif : Piece.hif ∈ ps) (kadc : Piece.adc ∈ ps) :
    State.onlyIn o (State.openAll p s) ps := by
  unfold Sys2Proof.Machine.State.openAll
  dsimp -failIfUnchanged only
  with_reducible repeat' (first | assumption | (intro _) | apply Frame.ite | apply Frame.ite2 | apply Frame.foldl | apply Frame.foldl2 | apply Frame.openWin | apply h0 | (fail_if_no_progress beta_reduce) | (fail_if_no_progress dsimp only) | split)

theorem Frame.modConv {o : State} {ps : List Piece} (s : State) (n : Nat) (f : Conv → Conv) (h0 : State.onlyIn o s ps) (kadc : Piece.adc ∈ ps) :
    State.onlyIn o (State.modConv s n f) ps := by
  unfold Sys2Proof.Machine.State.modConv
  dsimp -failIfUnchanged only
  with_reducible repeat' (first | assumption | (intro _) | apply Frame.ite | apply Frame.ite2 | apply Frame.foldl | apply Frame.foldl2 | apply h0 | simp only [Frame.mk_iff] | apply Frame.with_adc | (fail_if_no_progress beta_reduce) | (fail_if_no_progress dsimp only) | split)

theorem Frame.urgent {o : State} {ps : List Piece} (n e : Nat) (s : State) (h0 : State.onlyIn o s ps) (kregs : Piece.regs ∈ ps) (kadc : Piece.adc ∈ ps) :
    State.onlyIn o (State.urgent n e s) ps := by
  unfold Sys2Proof.Machine.State.urgent
  dsimp -failIfUnchanged only
  with_reducible repeat' (first | assumption | (intro _) | apply Frame.ite | apply Frame.ite2 | apply Frame.foldl | apply Frame.foldl2 | apply Frame.count | apply Frame.modConv | apply h0 | (fail_if_no_progress beta_reduce) | (fail_if_no_progress dsimp only) | split)

theorem Frame.markUrgent {o : State} {ps : List Piece} (q id : Nat) (s : State) (h0 : State.onlyIn o s ps) (kregs : Piece.regs ∈ ps) (kadc : Piece.adc ∈ ps) :
    State.onlyIn o (State.markUrgent q id s) ps := by
  unfold Sys2Proof.Machine.State.markUrgent
  dsimp -failIfUnchanged only
  with_reducible repeat' (first | assumption | (intro _) | apply Frame.ite | apply Frame.ite2 | apply Frame.foldl | apply Frame.foldl2 | apply Frame.urgent | apply h0 | apply Frame.id | (fail_if_no_progress beta_reduce) | (fail_if_no_progress dsimp only) | split)

theorem Frame.markWins {o : State} {ps : List Piece} (q id : Nat) (s : State) (h0 : State.onlyIn o s ps) (kregs : Piece.regs ∈ ps) (khif : Piece.hif ∈ ps) (kadc : Piece.adc ∈ ps) :
    State.onlyIn o (State.markWins q id s) ps := by
  unfold Sys2Proof.Machine.State.markWins
  dsimp -failIfUnchanged only
  with_reducible repeat' (first | assumption | (intro _) | apply Frame.ite | apply Frame.ite2 | apply Frame.foldl | apply Frame.foldl2 | apply Frame.closeAll | apply h0 | apply Frame.id | (fail_if_no_progress beta_reduce) | (fail_if_no_progress dsimp only) | split)

/-! Bus -/

theorem Frame.rowWrite {o : State} {ps : List Piece} (r : RegRow) (p : Port) (a : Nat) (v : Word) (s : State) (h0 : State.onlyIn o s ps) (kregs : Piece.regs ∈ ps) (khif : Piece.hif ∈ ps) :
    State.onlyIn o (State.rowWrite r p a v s) ps := by
  unfold Sys2Proof.Machine.State.rowWrite
  dsimp -failIfUnchanged only
  with_reducible repeat' (first | assumption | (intro _) | apply Frame.ite | apply Frame.ite2 | apply Frame.foldl | apply Frame.foldl2 | apply Frame.deny | apply Frame.noteHost | apply Frame.putWord | apply Frame.putShadow | apply Frame.markDirty | apply h0 | (fail_if_no_progress beta_reduce) | (fail_if_no_progress dsimp only) | split)

theorem Frame.fieldsWrite {o : State} {ps : List Piece} (p : Port) (a : Nat) (v : Word) (s : State) (h0 : State.onlyIn o s ps) (kregs : Piece.regs ∈ ps) (khif : Piece.hif ∈ ps) :
    State.onlyIn o (State.fieldsWrite p a v s) ps := by
  unfold Sys2Proof.Machine.State.fieldsWrite
  dsimp -failIfUnchanged only
  with_reducible repeat' (first | assumption | (intro _) | apply Frame.ite | apply Frame.ite2 | apply Frame.foldl | apply Frame.foldl2 | apply Frame.rowWrite | apply h0 | (fail_if_no_progress beta_reduce) | (fail_if_no_progress dsimp only) | split)

theorem Frame.busWrite {o : State} {ps : List Piece} (s : State) (p : Port) (a : Nat) (v : Word) (f : State → State) (h0 : State.onlyIn o s ps) (h1 : ∀ x, State.onlyIn o x ps → State.onlyIn o (f x) ps) (kregs : Piece.regs ∈ ps) (khif : Piece.hif ∈ ps) (ksec : Piece.sec ∈ ps) :
    State.onlyIn o (State.busWrite s p a v f) ps := by
  unfold Sys2Proof.Machine.State.busWrite
  dsimp -failIfUnchanged only
  with_reducible repeat' (first | assumption | (intro _) | apply Frame.ite | apply Frame.ite2 | apply Frame.foldl | apply Frame.foldl2 | apply Frame.onWrite | apply Frame.fieldsWrite | apply h0 | apply h1 | (fail_if_no_progress beta_reduce) | (fail_if_no_progress dsimp only) | split)

/-! Ink -/

theorem Frame.deficit {o : State} {ps : List Piece} (sub : Nat) (bal : Int) (armed : Bool) (s : State) (h0 : State.onlyIn o s ps) (kregs : Piece.regs ∈ ps) (khif : Piece.hif ∈ ps) (kevc : Piece.evc ∈ ps) :
    State.onlyIn o (deficit sub bal armed s) ps := by
  unfold Sys2Proof.Machine.deficit
  dsimp -failIfUnchanged only
  with_reducible repeat' (first | assumption | (intro _) | apply Frame.ite | apply Frame.ite2 | apply Frame.foldl | apply Frame.foldl2 | apply Frame.alarm | apply Frame.raise | apply h0 | (fail_if_no_progress beta_reduce) | (fail_if_no_progress dsimp only) | split)

theorem Frame.setBoost {o : State} {ps : List Piece} (q : Nat) (b : Int) (s : State) (h0 : State.onlyIn o s ps) (kregs : Piece.regs ∈ ps) (khif : Piece.hif ∈ ps) (kevc : Piece.evc ∈ ps) (kquads : Piece.quads ∈ ps) :
    State.onlyIn o (State.setBoost q b s) ps := by
  unfold Sys2Proof.Machine.State.setBoost
  dsimp -failIfUnchanged only
  with_reducible repeat' (first | assumption | (intro _) | apply Frame.ite | apply Frame.ite2 | apply Frame.foldl | apply Frame.foldl2 | apply Frame.deficit | apply Frame.modQuad | apply h0 | (fail_if_no_progress beta_reduce) | (fail_if_no_progress dsimp only) | split)

theorem Frame.watchRail {o : State} {ps : List Piece} (g : Nat) (fin : Bool) (s : State) (h0 : State.onlyIn o s ps) (kregs : Piece.regs ∈ ps) (khif : Piece.hif ∈ ps) (kevc : Piece.evc ∈ ps) (kink : Piece.ink ∈ ps) :
    State.onlyIn o (State.watchRail g fin s) ps := by
  unfold Sys2Proof.Machine.State.watchRail
  dsimp -failIfUnchanged only
  with_reducible repeat' (first | assumption | (intro _) | apply Frame.ite | apply Frame.ite2 | apply Frame.foldl | apply Frame.foldl2 | apply Frame.deficit | apply Frame.deny | apply h0 | simp only [Frame.mk_iff] | apply Frame.with_ink | (fail_if_no_progress beta_reduce) | (fail_if_no_progress dsimp only) | split)

theorem Frame.rearmDev {o : State} {ps : List Piece} (s : State) (h0 : State.onlyIn o s ps) (kink : Piece.ink ∈ ps) :
    State.onlyIn o (State.rearmDev s) ps := by
  unfold Sys2Proof.Machine.State.rearmDev
  dsimp -failIfUnchanged only
  with_reducible repeat' (first | assumption | (intro _) | apply Frame.ite | apply Frame.ite2 | apply Frame.foldl | apply Frame.foldl2 | apply h0 | simp only [Frame.mk_iff] | apply Frame.with_ink | (fail_if_no_progress beta_reduce) | (fail_if_no_progress dsimp only) | split)

theorem Frame.watchDev {o : State} {ps : List Piece} (s : State) (h0 : State.onlyIn o s ps) (kregs : Piece.regs ∈ ps) (khif : Piece.hif ∈ ps) (kevc : Piece.evc ∈ ps) (kink : Piece.ink ∈ ps) :
    State.onlyIn o (State.watchDev s) ps := by
  unfold Sys2Proof.Machine.State.watchDev
  dsimp -failIfUnchanged only
  with_reducible repeat' (first | assumption | (intro _) | apply Frame.ite | apply Frame.ite2 | apply Frame.foldl | apply Frame.foldl2 | apply Frame.deficit | apply h0 | simp only [Frame.mk_iff] | apply Frame.with_ink | (fail_if_no_progress beta_reduce) | (fail_if_no_progress dsimp only) | split)

theorem Frame.chargeDev {o : State} {ps : List Piece} (uj : Nat) (s : State) (h0 : State.onlyIn o s ps) (kregs : Piece.regs ∈ ps) (khif : Piece.hif ∈ ps) (kevc : Piece.evc ∈ ps) (kink : Piece.ink ∈ ps) :
    State.onlyIn o (State.chargeDev uj s) ps := by
  unfold Sys2Proof.Machine.State.chargeDev
  dsimp -failIfUnchanged only
  with_reducible repeat' (first | assumption | (intro _) | apply Frame.ite | apply Frame.ite2 | apply Frame.foldl | apply Frame.foldl2 | apply Frame.rearmDev | apply Frame.watchDev | apply h0 | simp only [Frame.mk_iff] | apply Frame.with_ink | (fail_if_no_progress beta_reduce) | (fail_if_no_progress dsimp only) | split)

theorem Frame.boostFresh {o : State} {ps : List Piece} (s : State) (h0 : State.onlyIn o s ps) (kquads : Piece.quads ∈ ps) :
    State.onlyIn o (State.boostFresh s) ps := by
  unfold Sys2Proof.Machine.State.boostFresh
  dsimp -failIfUnchanged only
  with_reducible repeat' (first | assumption | (intro _) | apply Frame.ite | apply Frame.ite2 | apply Frame.foldl | apply Frame.foldl2 | apply Frame.modQuad | apply h0 | (fail_if_no_progress beta_reduce) | (fail_if_no_progress dsimp only) | split)

theorem Frame.reserve {o : State} {ps : List Piece} (ev b p : Nat) (start : Tb) (s : State) (h0 : State.onlyIn o s ps) (kink : Piece.ink ∈ ps) :
    State.onlyIn o (State.reserve ev b p start s) ps := by
  unfold Sys2Proof.Machine.State.reserve
  dsimp -failIfUnchanged only
  with_reducible repeat' (first | assumption | (intro _) | apply Frame.ite | apply Frame.ite2 | apply Frame.foldl | apply Frame.foldl2 | apply h0 | simp only [Frame.mk_iff] | apply Frame.with_ink | (fail_if_no_progress beta_reduce) | (fail_if_no_progress dsimp only) | split)

theorem Frame.unreserve {o : State} {ps : List Piece} (ev : Nat) (s : State) (h0 : State.onlyIn o s ps) (kink : Piece.ink ∈ ps) :
    State.onlyIn o (State.unreserve ev s) ps := by
  unfold Sys2Proof.Machine.State.unreserve
  dsimp -failIfUnchanged only
  with_reducible repeat' (first | assumption | (intro _) | apply Frame.ite | apply Frame.ite2 | apply Frame.foldl | apply Frame.foldl2 | apply h0 | simp only [Frame.mk_iff] | apply Frame.with_ink | (fail_if_no_progress beta_reduce) | (fail_if_no_progress dsimp only) | split)

theorem Frame.unreserveBoost {o : State} {ps : List Piece} (ev : Nat) (s : State) (h0 : State.onlyIn o s ps) (kink : Piece.ink ∈ ps) :
    State.onlyIn o (State.unreserveBoost ev s) ps := by
  unfold Sys2Proof.Machine.State.unreserveBoost
  dsimp -failIfUnchanged only
  with_reducible repeat' (first | assumption | (intro _) | apply Frame.ite | apply Frame.ite2 | apply Frame.foldl | apply Frame.foldl2 | apply h0 | simp only [Frame.mk_iff] | apply Frame.with_ink | (fail_if_no_progress beta_reduce) | (fail_if_no_progress dsimp only) | split)

theorem Frame.rekey {o : State} {ps : List Piece} (ev : Nat) (start : Tb) (s : State) (h0 : State.onlyIn o s ps) (kink : Piece.ink ∈ ps) :
    State.onlyIn o (State.rekey ev start s) ps := by
  unfold Sys2Proof.Machine.State.rekey
  dsimp -failIfUnchanged only
  with_reducible repeat' (first | assumption | (intro _) | apply Frame.ite | apply Frame.ite2 | apply Frame.foldl | apply Frame.foldl2 | apply h0 | simp only [Frame.mk_iff] | apply Frame.with_ink | (fail_if_no_progress beta_reduce) | (fail_if_no_progress dsimp only) | split)

theorem Frame.learnNeed {o : State} {ps : List Piece} (q p w x : Nat) (s : State) (h0 : State.onlyIn o s ps) (kregs : Piece.regs ∈ ps) :
    State.onlyIn o (learnNeed q p w x s) ps := by
  unfold Sys2Proof.Machine.learnNeed
  dsimp -failIfUnchanged only
  with_reducible repeat' (first | assumption | (intro _) | apply Frame.ite | apply Frame.ite2 | apply Frame.foldl | apply Frame.foldl2 | apply Frame.set | apply Frame.putWord | apply h0 | (fail_if_no_progress beta_reduce) | (fail_if_no_progress dsimp only) | split)

/-! RingOps -/

theorem Frame.doorbellRead {o : State} {ps : List Piece} (s : State) (h0 : State.onlyIn o s ps) (khif : Piece.hif ∈ ps) :
    State.onlyIn o (State.doorbellRead s) ps := by
  unfold Sys2Proof.Machine.State.doorbellRead
  dsimp -failIfUnchanged only
  with_reducible repeat' (first | assumption | (intro _) | apply Frame.ite | apply Frame.ite2 | apply Frame.foldl | apply Frame.foldl2 | apply h0 | simp only [Frame.mk_iff] | apply Frame.with_hif | (fail_if_no_progress beta_reduce) | (fail_if_no_progress dsimp only) | split)

theorem Frame.askQuad {o : State} {ps : List Piece} (q : Nat) (s : State) (h0 : State.onlyIn o s ps) (kclk : Piece.clk ∈ ps) (khif : Piece.hif ∈ ps) :
    State.onlyIn o (State.askQuad q s) ps := by
  unfold Sys2Proof.Machine.State.askQuad
  dsimp -failIfUnchanged only
  with_reducible repeat' (first | assumption | (intro _) | apply Frame.ite | apply Frame.ite2 | apply Frame.foldl | apply Frame.foldl2 | apply Frame.doorbellRead | apply h0 | simp only [Frame.mk_iff] | apply Frame.with_clk | (fail_if_no_progress beta_reduce) | (fail_if_no_progress dsimp only) | split)

theorem Frame.tickQuads {o : State} {ps : List Piece} (s : State) (h0 : State.onlyIn o s ps) (kclk : Piece.clk ∈ ps) :
    State.onlyIn o (State.tickQuads s) ps := by
  unfold Sys2Proof.Machine.State.tickQuads
  dsimp -failIfUnchanged only
  with_reducible repeat' (first | assumption | (intro _) | apply Frame.ite | apply Frame.ite2 | apply Frame.foldl | apply Frame.foldl2 | apply h0 | simp only [Frame.mk_iff] | apply Frame.with_clk | (fail_if_no_progress beta_reduce) | (fail_if_no_progress dsimp only) | split)

theorem Frame.advance {o : State} {ps : List Piece} (r : Nat) (s : State) (h0 : State.onlyIn o s ps) (khif : Piece.hif ∈ ps) :
    State.onlyIn o (State.advance r s) ps := by
  unfold Sys2Proof.Machine.State.advance
  dsimp -failIfUnchanged only
  with_reducible repeat' (first | assumption | (intro _) | apply Frame.ite | apply Frame.ite2 | apply Frame.foldl | apply Frame.foldl2 | apply Frame.modRing | apply h0 | simp only [Frame.mk_iff] | apply Frame.with_hif | (fail_if_no_progress beta_reduce) | (fail_if_no_progress dsimp only) | split)

theorem Frame.completion {o : State} {ps : List Piece} (tag : Word) (op code w3 : Nat) (s : State) (h0 : State.onlyIn o s ps) (khif : Piece.hif ∈ ps) :
    State.onlyIn o (State.completion tag op code w3 s) ps := by
  unfold Sys2Proof.Machine.State.completion
  dsimp -failIfUnchanged only
  with_reducible repeat' (first | assumption | (intro _) | apply Frame.ite | apply Frame.ite2 | apply Frame.foldl | apply Frame.foldl2 | apply Frame.pushResult | apply h0 | (fail_if_no_progress beta_reduce) | (fail_if_no_progress dsimp only) | split)

theorem Frame.onMq {o : State} {ps : List Piece} (s : State) (tag : Word) (op : Nat) (f : State → Nat × State) (w3 : State → Nat) (h0 : State.onlyIn o s ps) (h1 : ∀ x, State.onlyIn o x ps → State.onlyIn o (f x).2 ps) (khif : Piece.hif ∈ ps) :
    State.onlyIn o (State.onMq s tag op f w3) ps := by
  unfold Sys2Proof.Machine.State.onMq
  dsimp -failIfUnchanged only
  with_reducible repeat' (first | assumption | (intro _) | apply Frame.ite | apply Frame.ite2 | apply Frame.foldl | apply Frame.foldl2 | apply Frame.completion | apply Frame.advance | apply h0 | apply h1 | (fail_if_no_progress beta_reduce) | (fail_if_no_progress dsimp only) | split)

theorem Frame.watchStore {o : State} {ps : List Piece} (s : State) (h0 : State.onlyIn o s ps) (kregs : Piece.regs ∈ ps) (khif : Piece.hif ∈ ps) :
    State.onlyIn o (State.watchStore s) ps := by
  unfold Sys2Proof.Machine.State.watchStore
  dsimp -failIfUnchanged only
  with_reducible repeat' (first | assumption | (intro _) | apply Frame.ite | apply Frame.ite2 | apply Frame.foldl | apply Frame.foldl2 | apply Frame.set | apply Frame.alarm | apply h0 | simp only [Frame.mk_iff] | apply Frame.with_hif | (fail_if_no_progress beta_reduce) | (fail_if_no_progress dsimp only) | split)

/-! Evt -/

theorem Frame.refuse {o : State} {ps : List Piece} (e : Event) (code : Nat) (s : State) (h0 : State.onlyIn o s ps) (kregs : Piece.regs ∈ ps) (khif : Piece.hif ∈ ps) (ksch : Piece.sch ∈ ps) (kbanks : Piece.banks ∈ ps) (kink : Piece.ink ∈ ps) :
    State.onlyIn o (State.refuse e code s) ps := by
  unfold Sys2Proof.Machine.State.refuse
  dsimp -failIfUnchanged only
  with_reducible repeat' (first | assumption | (intro _) | apply Frame.ite | apply Frame.ite2 | apply Frame.foldl | apply Frame.foldl2 | apply Frame.unreserve | apply Frame.short | apply Frame.count | apply Frame.dropEvent | apply Frame.watchStore | apply Frame.modEvent | apply h0 | apply Frame.id | (fail_if_no_progress beta_reduce) | (fail_if_no_progress dsimp only) | split)

theorem Frame.remove {o : State} {ps : List Piece} (id : Nat) (s : State) (h0 : State.onlyIn o s ps) (kregs : Piece.regs ∈ ps) (khif : Piece.hif ∈ ps) (ksch : Piece.sch ∈ ps) (kbanks : Piece.banks ∈ ps) (kink : Piece.ink ∈ ps) :
    State.onlyIn o (State.remove id s) ps := by
  unfold Sys2Proof.Machine.State.remove
  dsimp -failIfUnchanged only
  with_reducible repeat' (first | assumption | (intro _) | apply Frame.ite | apply Frame.ite2 | apply Frame.foldl | apply Frame.foldl2 | apply Frame.unreserve | apply Frame.dropEvent | apply Frame.watchStore | apply h0 | apply Frame.id | (fail_if_no_progress beta_reduce) | (fail_if_no_progress dsimp only) | split)

theorem Frame.allToWaiting {o : State} {ps : List Piece} (s : State) (h0 : State.onlyIn o s ps) (ksch : Piece.sch ∈ ps) (kink : Piece.ink ∈ ps) :
    State.onlyIn o (State.allToWaiting s) ps := by
  unfold Sys2Proof.Machine.State.allToWaiting
  dsimp -failIfUnchanged only
  with_reducible repeat' (first | assumption | (intro _) | apply Frame.ite | apply Frame.ite2 | apply Frame.foldl | apply Frame.foldl2 | apply Frame.unreserve | apply Frame.modEvent | apply h0 | apply Frame.id | (fail_if_no_progress beta_reduce) | (fail_if_no_progress dsimp only) | split)

theorem Frame.syncLoss {o : State} {ps : List Piece} (s : State) (h0 : State.onlyIn o s ps) (kregs : Piece.regs ∈ ps) (khif : Piece.hif ∈ ps) (ksch : Piece.sch ∈ ps) (kbanks : Piece.banks ∈ ps) (kink : Piece.ink ∈ ps) :
    State.onlyIn o (State.syncLoss s) ps := by
  unfold Sys2Proof.Machine.State.syncLoss
  dsimp -failIfUnchanged only
  with_reducible repeat' (first | assumption | (intro _) | apply Frame.ite | apply Frame.ite2 | apply Frame.foldl | apply Frame.foldl2 | apply Frame.allToWaiting | apply Frame.refuse | apply h0 | simp only [Frame.mk_iff] | apply Frame.with_sch | (fail_if_no_progress beta_reduce) | (fail_if_no_progress dsimp only) | split)

theorem Frame.halfStep {o : State} {ps : List Piece} (step : Bool) (s : State) (h0 : State.onlyIn o s ps) (kregs : Piece.regs ∈ ps) (khif : Piece.hif ∈ ps) (ksch : Piece.sch ∈ ps) (kink : Piece.ink ∈ ps) :
    State.onlyIn o (State.halfStep step s) ps := by
  unfold Sys2Proof.Machine.State.halfStep
  dsimp -failIfUnchanged only
  with_reducible repeat' (first | assumption | (intro _) | apply Frame.ite | apply Frame.ite2 | apply Frame.foldl | apply Frame.foldl2 | apply Frame.unreserve | apply Frame.watchStore | apply h0 | apply Frame.id | simp only [Frame.mk_iff] | apply Frame.with_sch | (fail_if_no_progress beta_reduce) | (fail_if_no_progress dsimp only) | split)

theorem Frame.backStep {o : State} {ps : List Piece} (s : State) (h0 : State.onlyIn o s ps) (ksch : Piece.sch ∈ ps) (kink : Piece.ink ∈ ps) :
    State.onlyIn o (State.backStep s) ps := by
  unfold Sys2Proof.Machine.State.backStep
  dsimp -failIfUnchanged only
  with_reducible repeat' (first | assumption | (intro _) | apply Frame.ite | apply Frame.ite2 | apply Frame.foldl | apply Frame.foldl2 | apply Frame.unreserve | apply Frame.modEvent | apply h0 | apply Frame.id | (fail_if_no_progress beta_reduce) | (fail_if_no_progress dsimp only) | split)

theorem Frame.convertLocks {o : State} {ps : List Piece} (s : State) (h0 : State.onlyIn o s ps) (ksch : Piece.sch ∈ ps) :
    State.onlyIn o (State.convertLocks s) ps := by
  unfold Sys2Proof.Machine.State.convertLocks
  dsimp -failIfUnchanged only
  with_reducible repeat' (first | assumption | (intro _) | apply Frame.ite | apply Frame.ite2 | apply Frame.foldl | apply Frame.foldl2 | apply h0 | simp only [Frame.mk_iff] | apply Frame.with_sch | (fail_if_no_progress beta_reduce) | (fail_if_no_progress dsimp only) | split)

theorem Frame.rekeyAll {o : State} {ps : List Piece} (s : State) (h0 : State.onlyIn o s ps) (kink : Piece.ink ∈ ps) :
    State.onlyIn o (State.rekeyAll s) ps := by
  unfold Sys2Proof.Machine.State.rekeyAll
  dsimp -failIfUnchanged only
  with_reducible repeat' (first | assumption | (intro _) | apply Frame.ite | apply Frame.ite2 | apply Frame.foldl | apply Frame.foldl2 | apply Frame.rekey | apply h0 | apply Frame.id | (fail_if_no_progress beta_reduce) | (fail_if_no_progress dsimp only) | split)

theorem Frame.startCoast {o : State} {ps : List Piece} (s : State) (h0 : State.onlyIn o s ps) (ksch : Piece.sch ∈ ps) :
    State.onlyIn o (State.startCoast s) ps := by
  unfold Sys2Proof.Machine.State.startCoast
  dsimp -failIfUnchanged only
  with_reducible repeat' (first | assumption | (intro _) | apply Frame.ite | apply Frame.ite2 | apply Frame.foldl | apply Frame.foldl2 | apply h0 | simp only [Frame.mk_iff] | apply Frame.with_sch | (fail_if_no_progress beta_reduce) | (fail_if_no_progress dsimp only) | split)

theorem Frame.coastEdge {o : State} {ps : List Piece} (s : State) (h0 : State.onlyIn o s ps) (ksch : Piece.sch ∈ ps) :
    State.onlyIn o (State.coastEdge s) ps := by
  unfold Sys2Proof.Machine.State.coastEdge
  dsimp -failIfUnchanged only
  with_reducible repeat' (first | assumption | (intro _) | apply Frame.ite | apply Frame.ite2 | apply Frame.foldl | apply Frame.foldl2 | apply h0 | simp only [Frame.mk_iff] | apply Frame.with_sch | (fail_if_no_progress beta_reduce) | (fail_if_no_progress dsimp only) | split)

theorem Frame.endCoast {o : State} {ps : List Piece} (s : State) (h0 : State.onlyIn o s ps) (ksch : Piece.sch ∈ ps) :
    State.onlyIn o (State.endCoast s) ps := by
  unfold Sys2Proof.Machine.State.endCoast
  dsimp -failIfUnchanged only
  with_reducible repeat' (first | assumption | (intro _) | apply Frame.ite | apply Frame.ite2 | apply Frame.foldl | apply Frame.foldl2 | apply h0 | simp only [Frame.mk_iff] | apply Frame.with_sch | (fail_if_no_progress beta_reduce) | (fail_if_no_progress dsimp only) | split)

theorem Frame.holdWaiting {o : State} {ps : List Piece} (s : State) (h0 : State.onlyIn o s ps) (kbanks : Piece.banks ∈ ps) :
    State.onlyIn o (State.holdWaiting s) ps := by
  unfold Sys2Proof.Machine.State.holdWaiting
  dsimp -failIfUnchanged only
  with_reducible repeat' (first | assumption | (intro _) | apply Frame.ite | apply Frame.ite2 | apply Frame.foldl | apply Frame.foldl2 | apply h0 | apply Frame.id | simp only [Frame.mk_iff] | apply Frame.with_banks | (fail_if_no_progress beta_reduce) | (fail_if_no_progress dsimp only) | split)

/-! TstOps -/

theorem Frame.restartUnits {o : State} {ps : List Piece} (k : Nat) (s : State) (h0 : State.onlyIn o s ps) (kadc : Piece.adc ∈ ps) (kcmps : Piece.cmps ∈ ps) :
    State.onlyIn o (State.restartUnits k s) ps := by
  unfold Sys2Proof.Machine.State.restartUnits
  dsimp -failIfUnchanged only
  with_reducible repeat' (first | assumption | (intro _) | apply Frame.ite | apply Frame.ite2 | apply Frame.foldl | apply Frame.foldl2 | apply Frame.modConv | apply h0 | simp only [Frame.mk_iff] | apply Frame.with_cmps | (fail_if_no_progress beta_reduce) | (fail_if_no_progress dsimp only) | split)

theorem Frame.logIdle {o : State} {ps : List Piece} (n : Nat) (s : State) (h0 : State.onlyIn o s ps) (ksch : Piece.sch ∈ ps) :
    State.onlyIn o (State.logIdle n s) ps := by
  unfold Sys2Proof.Machine.State.logIdle
  dsimp -failIfUnchanged only
  with_reducible repeat' (first | assumption | (intro _) | apply Frame.ite | apply Frame.ite2 | apply Frame.foldl | apply Frame.foldl2 | apply Frame.modChan | apply h0 | (fail_if_no_progress beta_reduce) | (fail_if_no_progress dsimp only) | split)

theorem Frame.testOver {o : State} {ps : List Piece} (k : Nat) (s : State) (h0 : State.onlyIn o s ps) (ksch : Piece.sch ∈ ps) :
    State.onlyIn o (State.testOver k s) ps := by
  unfold Sys2Proof.Machine.State.testOver
  dsimp -failIfUnchanged only
  with_reducible repeat' (first | assumption | (intro _) | apply Frame.ite | apply Frame.ite2 | apply Frame.foldl | apply Frame.foldl2 | apply Frame.logIdle | apply h0 | (fail_if_no_progress beta_reduce) | (fail_if_no_progress dsimp only) | split)

theorem Frame.tstEnd {o : State} {ps : List Piece} (cause : Nat) (s : State) (h0 : State.onlyIn o s ps) (kregs : Piece.regs ∈ ps) (ksys : Piece.sys ∈ ps) (kevc : Piece.evc ∈ ps) (ksch : Piece.sch ∈ ps) (kadc : Piece.adc ∈ ps) (kcmps : Piece.cmps ∈ ps) (ktst : Piece.tst ∈ ps) :
    State.onlyIn o (State.tstEnd cause s) ps := by
  unfold Sys2Proof.Machine.State.tstEnd
  dsimp -failIfUnchanged only
  with_reducible repeat' (first | assumption | (intro _) | apply Frame.ite | apply Frame.ite2 | apply Frame.foldl | apply Frame.foldl2 | apply Frame.inCycle | apply Frame.restartUnits | apply Frame.testOver | apply Frame.count | apply Frame.raise | apply h0 | simp only [Frame.mk_iff] | apply Frame.with_sys | apply Frame.with_tst | apply Frame.parts | (exact Or.inl ‹_›) | apply Frame.part_part | apply Frame.part_clk | apply Frame.part_regs | apply Frame.part_sys | apply Frame.part_hif | apply Frame.part_evc | apply Frame.part_sec | apply Frame.part_whl | apply Frame.part_ang | apply Frame.part_sch | apply Frame.part_banks | apply Frame.part_quads | apply Frame.part_edges | apply Frame.part_ink | apply Frame.part_grds | apply Frame.part_adc | apply Frame.part_cmps | apply Frame.part_tmrs | apply Frame.part_nibs | apply Frame.part_tst | apply Frame.part_slur | apply Frame.part_jtag | apply Frame.part_ans | apply Frame.part_freeCtr | apply Frame.part_pending | (fail_if_no_progress beta_reduce) | (fail_if_no_progress dsimp only) | split)

theorem Frame.leaveArmed {o : State} {ps : List Piece} (s : State) (h0 : State.onlyIn o s ps) (kregs : Piece.regs ∈ ps) (ksys : Piece.sys ∈ ps) (kevc : Piece.evc ∈ ps) (ksch : Piece.sch ∈ ps) (kadc : Piece.adc ∈ ps) (kcmps : Piece.cmps ∈ ps) (ktst : Piece.tst ∈ ps) :
    State.onlyIn o (State.leaveArmed s) ps := by
  unfold Sys2Proof.Machine.State.leaveArmed
  dsimp -failIfUnchanged only
  with_reducible repeat' (first | assumption | (intro _) | apply Frame.ite | apply Frame.ite2 | apply Frame.foldl | apply Frame.foldl2 | apply Frame.tstEnd | apply h0 | (fail_if_no_progress beta_reduce) | (fail_if_no_progress dsimp only) | split)

/-! Gates -/

theorem Frame.deliver {o : State} {ps : List Piece} (n : Nat) (rep : Closing) (s : State) (h0 : State.onlyIn o s ps) (ksch : Piece.sch ∈ ps) :
    State.onlyIn o (State.deliver n rep s) ps := by
  unfold Sys2Proof.Machine.State.deliver
  dsimp -failIfUnchanged only
  with_reducible repeat' (first | assumption | (intro _) | apply Frame.ite | apply Frame.ite2 | apply Frame.foldl | apply Frame.foldl2 | apply Frame.modChan | apply Frame.modStore | apply h0 | (fail_if_no_progress beta_reduce) | (fail_if_no_progress dsimp only) | split)

theorem Frame.dropSlot {o : State} {ps : List Piece} (n : Nat) (s : State) (h0 : State.onlyIn o s ps) (kbanks : Piece.banks ∈ ps) :
    State.onlyIn o (State.dropSlot n s) ps := by
  unfold Sys2Proof.Machine.State.dropSlot
  dsimp -failIfUnchanged only
  with_reducible repeat' (first | assumption | (intro _) | apply Frame.ite | apply Frame.ite2 | apply Frame.foldl | apply Frame.foldl2 | apply Frame.modBank | apply h0 | (fail_if_no_progress beta_reduce) | (fail_if_no_progress dsimp only) | split)

theorem Frame.noKink {o : State} {ps : List Piece} (n : Nat) (s : State) (h0 : State.onlyIn o s ps) (kregs : Piece.regs ∈ ps) (ksch : Piece.sch ∈ ps) (kbanks : Piece.banks ∈ ps) :
    State.onlyIn o (State.noKink n s) ps := by
  unfold Sys2Proof.Machine.State.noKink
  dsimp -failIfUnchanged only
  with_reducible repeat' (first | assumption | (intro _) | apply Frame.ite | apply Frame.ite2 | apply Frame.foldl | apply Frame.foldl2 | apply Frame.count | apply Frame.dropSlot | apply Frame.deliver | apply h0 | (fail_if_no_progress beta_reduce) | (fail_if_no_progress dsimp only) | split)

theorem Frame.startWatch {o : State} {ps : List Piece} (n : Nat) (s : State) (h0 : State.onlyIn o s ps) (kregs : Piece.regs ∈ ps) (ksch : Piece.sch ∈ ps) (kbanks : Piece.banks ∈ ps) :
    State.onlyIn o (State.startWatch n s) ps := by
  unfold Sys2Proof.Machine.State.startWatch
  dsimp -failIfUnchanged only
  with_reducible repeat' (first | assumption | (intro _) | apply Frame.ite | apply Frame.ite2 | apply Frame.foldl | apply Frame.foldl2 | apply Frame.modChan | apply Frame.modBank | apply Frame.count | apply Frame.noKink | apply Frame.deliver | apply h0 | (fail_if_no_progress beta_reduce) | (fail_if_no_progress dsimp only) | split)

theorem Frame.cancelWatch {o : State} {ps : List Piece} (n : Nat) (s : State) (h0 : State.onlyIn o s ps) (ksch : Piece.sch ∈ ps) (kbanks : Piece.banks ∈ ps) :
    State.onlyIn o (State.cancelWatch n s) ps := by
  unfold Sys2Proof.Machine.State.cancelWatch
  dsimp -failIfUnchanged only
  with_reducible repeat' (first | assumption | (intro _) | apply Frame.ite | apply Frame.ite2 | apply Frame.foldl | apply Frame.foldl2 | apply Frame.dropSlot | apply Frame.modChan | apply h0 | (fail_if_no_progress beta_reduce) | (fail_if_no_progress dsimp only) | split)

theorem Frame.setGl {o : State} {ps : List Piece} (n : Nat) (on : Bool) (s : State) (h0 : State.onlyIn o s ps) (ksch : Piece.sch ∈ ps) :
    State.onlyIn o (State.setGl n on s) ps := by
  unfold Sys2Proof.Machine.State.setGl
  dsimp -failIfUnchanged only
  with_reducible repeat' (first | assumption | (intro _) | apply Frame.ite | apply Frame.ite2 | apply Frame.foldl | apply Frame.foldl2 | apply Frame.modChan | apply h0 | (fail_if_no_progress beta_reduce) | (fail_if_no_progress dsimp only) | split)

theorem Frame.reopen {o : State} {ps : List Piece} (n ev : Nat) (s : State) (h0 : State.onlyIn o s ps) (kregs : Piece.regs ∈ ps) (ksch : Piece.sch ∈ ps) (kbanks : Piece.banks ∈ ps) :
    State.onlyIn o (State.reopen n ev s) ps := by
  unfold Sys2Proof.Machine.State.reopen
  dsimp -failIfUnchanged only
  with_reducible repeat' (first | assumption | (intro _) | apply Frame.ite | apply Frame.ite2 | apply Frame.foldl | apply Frame.foldl2 | apply Frame.cancelWatch | apply Frame.count | apply Frame.noKink | apply h0 | (fail_if_no_progress beta_reduce) | (fail_if_no_progress dsimp only) | split)

theorem Frame.setGhv {o : State} {ps : List Piece} (b : Nat) (on : Bool) (s : State) (h0 : State.onlyIn o s ps) (kbanks : Piece.banks ∈ ps) :
    State.onlyIn o (State.setGhv b on s) ps := by
  unfold Sys2Proof.Machine.State.setGhv
  dsimp -failIfUnchanged only
  with_reducible repeat' (first | assumption | (intro _) | apply Frame.ite | apply Frame.ite2 | apply Frame.foldl | apply Frame.foldl2 | apply Frame.modBank | apply h0 | (fail_if_no_progress beta_reduce) | (fail_if_no_progress dsimp only) | split)

theorem Frame.setGhb {o : State} {ps : List Piece} (b : Nat) (on : Bool) (s : State) (h0 : State.onlyIn o s ps) (kbanks : Piece.banks ∈ ps) :
    State.onlyIn o (State.setGhb b on s) ps := by
  unfold Sys2Proof.Machine.State.setGhb
  dsimp -failIfUnchanged only
  with_reducible repeat' (first | assumption | (intro _) | apply Frame.ite | apply Frame.ite2 | apply Frame.foldl | apply Frame.foldl2 | apply Frame.modBank | apply h0 | (fail_if_no_progress beta_reduce) | (fail_if_no_progress dsimp only) | split)

theorem Frame.beginEvent {o : State} {ps : List Piece} (t : Tb) (id : Nat) (s : State) (h0 : State.onlyIn o s ps) (ksch : Piece.sch ∈ ps) :
    State.onlyIn o (State.beginEvent t id s) ps := by
  unfold Sys2Proof.Machine.State.beginEvent
  dsimp -failIfUnchanged only
  with_reducible repeat' (first | assumption | (intro _) | apply Frame.ite | apply Frame.ite2 | apply Frame.foldl | apply Frame.foldl2 | apply Frame.modEvent | apply h0 | apply Frame.id | (fail_if_no_progress beta_reduce) | (fail_if_no_progress dsimp only) | split)

theorem Frame.offEvent {o : State} {ps : List Piece} (t : Tb) (n : Nat) (id : Nat) (s : State) (h0 : State.onlyIn o s ps) (ksch : Piece.sch ∈ ps) :
    State.onlyIn o (State.offEvent t n id s) ps := by
  unfold Sys2Proof.Machine.State.offEvent
  dsimp -failIfUnchanged only
  with_reducible repeat' (first | assumption | (intro _) | apply Frame.ite | apply Frame.ite2 | apply Frame.foldl | apply Frame.foldl2 | apply Frame.modEvent | apply Frame.modChan | apply h0 | apply Frame.id | (fail_if_no_progress beta_reduce) | (fail_if_no_progress dsimp only) | split)

theorem Frame.newMode {o : State} {ps : List Piece} (n : Nat) (s : State) (h0 : State.onlyIn o s ps) (ksch : Piece.sch ∈ ps) :
    State.onlyIn o (State.newMode n s) ps := by
  unfold Sys2Proof.Machine.State.newMode
  dsimp -failIfUnchanged only
  with_reducible repeat' (first | assumption | (intro _) | apply Frame.ite | apply Frame.ite2 | apply Frame.foldl | apply Frame.foldl2 | apply Frame.modChan | apply Frame.logIdle | apply h0 | (fail_if_no_progress beta_reduce) | (fail_if_no_progress dsimp only) | split)

theorem Frame.modeSettle {o : State} {ps : List Piece} (n : Nat) (s : State) (h0 : State.onlyIn o s ps) (ksch : Piece.sch ∈ ps) :
    State.onlyIn o (State.modeSettle n s) ps := by
  unfold Sys2Proof.Machine.State.modeSettle
  dsimp -failIfUnchanged only
  with_reducible repeat' (first | assumption | (intro _) | apply Frame.ite | apply Frame.ite2 | apply Frame.foldl | apply Frame.foldl2 | apply Frame.newMode | apply h0 | (fail_if_no_progress beta_reduce) | (fail_if_no_progress dsimp only) | split)

theorem Frame.glOn {o : State} {ps : List Piece} (t : Tb) (n : Nat) (level : Bool) (ev : Nat) (s : State) (h0 : State.onlyIn o s ps) (kregs : Piece.regs ∈ ps) (ksch : Piece.sch ∈ ps) (kbanks : Piece.banks ∈ ps) :
    State.onlyIn o (State.glOn t n level ev s) ps := by
  unfold Sys2Proof.Machine.State.glOn
  dsimp -failIfUnchanged only
  with_reducible repeat' (first | assumption | (intro _) | apply Frame.ite | apply Frame.ite2 | apply Frame.foldl | apply Frame.foldl2 | apply Frame.reopen | apply Frame.setGl | apply Frame.beginEvent | apply h0 | (fail_if_no_progress beta_reduce) | (fail_if_no_progress dsimp only) | split)

theorem Frame.markOff {o : State} {ps : List Piece} (n ev : Nat) (s : State) (h0 : State.onlyIn o s ps) (kbanks : Piece.banks ∈ ps) :
    State.onlyIn o (State.markOff n ev s) ps := by
  unfold Sys2Proof.Machine.State.markOff
  dsimp -failIfUnchanged only
  with_reducible repeat' (first | assumption | (intro _) | apply Frame.ite | apply Frame.ite2 | apply Frame.foldl | apply Frame.foldl2 | apply Frame.modThread | apply h0 | (fail_if_no_progress beta_reduce) | (fail_if_no_progress dsimp only) | split)

theorem Frame.glOff {o : State} {ps : List Piece} (t : Tb) (n ev : Nat) (s : State) (h0 : State.onlyIn o s ps) (kregs : Piece.regs ∈ ps) (ksch : Piece.sch ∈ ps) (kbanks : Piece.banks ∈ ps) :
    State.onlyIn o (State.glOff t n ev s) ps := by
  unfold Sys2Proof.Machine.State.glOff
  dsimp -failIfUnchanged only
  with_reducible repeat' (first | assumption | (intro _) | apply Frame.ite | apply Frame.ite2 | apply Frame.foldl | apply Frame.foldl2 | apply Frame.setGl | apply Frame.offEvent | apply Frame.markOff | apply Frame.startWatch | apply Frame.modeSettle | apply h0 | (fail_if_no_progress beta_reduce) | (fail_if_no_progress dsimp only) | split)

theorem Frame.applyEdge {o : State} {ps : List Piece} (x : Edge) (s : State) (h0 : State.onlyIn o s ps) (kregs : Piece.regs ∈ ps) (ksch : Piece.sch ∈ ps) (kbanks : Piece.banks ∈ ps) :
    State.onlyIn o (State.applyEdge x s) ps := by
  unfold Sys2Proof.Machine.State.applyEdge
  dsimp -failIfUnchanged only
  with_reducible repeat' (first | assumption | (intro _) | apply Frame.ite | apply Frame.ite2 | apply Frame.foldl | apply Frame.foldl2 | apply Frame.glOn | apply Frame.setGl | apply Frame.offEvent | apply Frame.glOff | apply Frame.setGhv | apply Frame.beginEvent | apply Frame.setGhb | apply h0 | (fail_if_no_progress beta_reduce) | (fail_if_no_progress dsimp only) | split)

theorem Frame.placeEdge {o : State} {ps : List Piece} (t : Option Tb) (g : Gate) (on : Bool) (b : Nat) (th : Option Nat) (ev : Nat) (s : State) (h0 : State.onlyIn o s ps) (kregs : Piece.regs ∈ ps) (ksch : Piece.sch ∈ ps) (kbanks : Piece.banks ∈ ps) (kedges : Piece.edges ∈ ps) :
    State.onlyIn o (State.placeEdge t g on b th ev s) ps := by
  unfold Sys2Proof.Machine.State.placeEdge
  dsimp -failIfUnchanged only
  with_reducible repeat' (first | assumption | (intro _) | apply Frame.ite | apply Frame.ite2 | apply Frame.foldl | apply Frame.foldl2 | apply Frame.applyEdge | apply h0 | simp only [Frame.mk_iff] | apply Frame.with_edges | (fail_if_no_progress beta_reduce) | (fail_if_no_progress dsimp only) | split)

theorem Frame.withdraw {o : State} {ps : List Piece} (b t : Nat) (s : State) (h0 : State.onlyIn o s ps) (kedges : Piece.edges ∈ ps) :
    State.onlyIn o (State.withdraw b t s) ps := by
  unfold Sys2Proof.Machine.State.withdraw
  dsimp -failIfUnchanged only
  with_reducible repeat' (first | assumption | (intro _) | apply Frame.ite | apply Frame.ite2 | apply Frame.foldl | apply Frame.foldl2 | apply h0 | simp only [Frame.mk_iff] | apply Frame.with_edges | (fail_if_no_progress beta_reduce) | (fail_if_no_progress dsimp only) | split)

theorem Frame.dueEdges {o : State} {ps : List Piece} (s : State) (h0 : State.onlyIn o s ps) (kregs : Piece.regs ∈ ps) (ksch : Piece.sch ∈ ps) (kbanks : Piece.banks ∈ ps) (kedges : Piece.edges ∈ ps) :
    State.onlyIn o (State.dueEdges s) ps := by
  unfold Sys2Proof.Machine.State.dueEdges
  dsimp -failIfUnchanged only
  with_reducible repeat' (first | assumption | (intro _) | apply Frame.ite | apply Frame.ite2 | apply Frame.foldl | apply Frame.foldl2 | apply Frame.applyEdge | apply h0 | simp only [Frame.mk_iff] | apply Frame.with_edges | (fail_if_no_progress beta_reduce) | (fail_if_no_progress dsimp only) | split)

theorem Frame.closeThreadWins {o : State} {ps : List Piece} (b t : Nat) (s : State) (h0 : State.onlyIn o s ps) (kregs : Piece.regs ∈ ps) (khif : Piece.hif ∈ ps) (kbanks : Piece.banks ∈ ps) (kadc : Piece.adc ∈ ps) :
    State.onlyIn o (State.closeThreadWins b t s) ps := by
  unfold Sys2Proof.Machine.State.closeThreadWins
  dsimp -failIfUnchanged only
  with_reducible repeat' (first | assumption | (intro _) | apply Frame.ite | apply Frame.ite2 | apply Frame.foldl | apply Frame.foldl2 | apply Frame.closeWin | apply Frame.modThread | apply h0 | (fail_if_no_progress beta_reduce) | (fail_if_no_progress dsimp only) | split)

theorem Frame.dropOns {o : State} {ps : List Piece} (b ev : Nat) (at' : Option Tb) (g : Gate → Bool) (s : State) (h0 : State.onlyIn o s ps) (kedges : Piece.edges ∈ ps) :
    State.onlyIn o (State.dropOns b ev at' g s) ps := by
  unfold Sys2Proof.Machine.State.dropOns
  dsimp -failIfUnchanged only
  with_reducible repeat' (first | assumption | (intro _) | apply Frame.ite | apply Frame.ite2 | apply Frame.foldl | apply Frame.foldl2 | apply h0 | simp only [Frame.mk_iff] | apply Frame.with_edges | (fail_if_no_progress beta_reduce) | (fail_if_no_progress dsimp only) | split)

theorem Frame.releaseToken {o : State} {ps : List Piece} (b t : Nat) (s : State) (h0 : State.onlyIn o s ps) (kregs : Piece.regs ∈ ps) (ksch : Piece.sch ∈ ps) (kbanks : Piece.banks ∈ ps) (kedges : Piece.edges ∈ ps) :
    State.onlyIn o (State.releaseToken b t s) ps := by
  unfold Sys2Proof.Machine.State.releaseToken
  dsimp -failIfUnchanged only
  with_reducible repeat' (first | assumption | (intro _) | apply Frame.ite | apply Frame.ite2 | apply Frame.foldl | apply Frame.foldl2 | apply Frame.dropOns | apply Frame.placeEdge | apply Frame.modThread | apply Frame.modBank | apply h0 | (fail_if_no_progress beta_reduce) | (fail_if_no_progress dsimp only) | split)

theorem Frame.switchOff {o : State} {ps : List Piece} (b t : Nat) (at' : Option Tb) (s : State) (h0 : State.onlyIn o s ps) (kregs : Piece.regs ∈ ps) (ksch : Piece.sch ∈ ps) (kbanks : Piece.banks ∈ ps) (kedges : Piece.edges ∈ ps) :
    State.onlyIn o (State.switchOff b t at' s) ps := by
  unfold Sys2Proof.Machine.State.switchOff
  dsimp -failIfUnchanged only
  with_reducible repeat' (first | assumption | (intro _) | apply Frame.ite | apply Frame.ite2 | apply Frame.foldl | apply Frame.foldl2 | apply Frame.dropOns | apply Frame.modThread | apply Frame.placeEdge | apply h0 | (fail_if_no_progress beta_reduce) | (fail_if_no_progress dsimp only) | split)

theorem Frame.endEvents {o : State} {ps : List Piece} (r : Nat) (off : Bool) (s : State) (h0 : State.onlyIn o s ps) (kregs : Piece.regs ∈ ps) (ksch : Piece.sch ∈ ps) (kbanks : Piece.banks ∈ ps) :
    State.onlyIn o (State.endEvents r off s) ps := by
  unfold Sys2Proof.Machine.State.endEvents
  dsimp -failIfUnchanged only
  with_reducible repeat' (first | assumption | (intro _) | apply Frame.ite | apply Frame.ite2 | apply Frame.foldl | apply Frame.foldl2 | apply Frame.modStore | apply Frame.noKink | apply h0 | (fail_if_no_progress beta_reduce) | (fail_if_no_progress dsimp only) | split)

theorem Frame.freeThread {o : State} {ps : List Piece} (b t : Nat) (s : State) (h0 : State.onlyIn o s ps) (ksch : Piece.sch ∈ ps) (kbanks : Piece.banks ∈ ps) :
    State.onlyIn o (State.freeThread b t s) ps := by
  unfold Sys2Proof.Machine.State.freeThread
  dsimp -failIfUnchanged only
  with_reducible repeat' (first | assumption | (intro _) | apply Frame.ite | apply Frame.ite2 | apply Frame.foldl | apply Frame.foldl2 | apply Frame.modThread | apply Frame.modeSettle | apply h0 | (fail_if_no_progress beta_reduce) | (fail_if_no_progress dsimp only) | split)

theorem Frame.endThread {o : State} {ps : List Piece} (b t : Nat) (s : State) (h0 : State.onlyIn o s ps) (kregs : Piece.regs ∈ ps) (khif : Piece.hif ∈ ps) (ksch : Piece.sch ∈ ps) (kbanks : Piece.banks ∈ ps) (kedges : Piece.edges ∈ ps) (kadc : Piece.adc ∈ ps) :
    State.onlyIn o (State.endThread b t s) ps := by
  unfold Sys2Proof.Machine.State.endThread
  dsimp -failIfUnchanged only
  with_reducible repeat' (first | assumption | (intro _) | apply Frame.ite | apply Frame.ite2 | apply Frame.foldl | apply Frame.foldl2 | apply Frame.switchOff | apply Frame.releaseToken | apply Frame.closeThreadWins | apply Frame.endEvents | apply Frame.freeThread | apply h0 | (fail_if_no_progress beta_reduce) | (fail_if_no_progress dsimp only) | split)

theorem Frame.gatesLow {o : State} {ps : List Piece} (watch : Bool) (b t : Nat) (s : State) (h0 : State.onlyIn o s ps) (kregs : Piece.regs ∈ ps) (ksch : Piece.sch ∈ ps) (kbanks : Piece.banks ∈ ps) (kedges : Piece.edges ∈ ps) :
    State.onlyIn o (State.gatesLow watch b t s) ps := by
  unfold Sys2Proof.Machine.State.gatesLow
  dsimp -failIfUnchanged only
  with_reducible repeat' (first | assumption | (intro _) | apply Frame.ite | apply Frame.ite2 | apply Frame.foldl | apply Frame.foldl2 | apply Frame.withdraw | apply Frame.modThread | apply Frame.setGhv | apply Frame.setGhb | apply Frame.glOff | apply Frame.setGl | apply Frame.offEvent | apply h0 | (fail_if_no_progress beta_reduce) | (fail_if_no_progress dsimp only) | split)

theorem Frame.dropGates {o : State} {ps : List Piece} (b t : Nat) (s : State) (h0 : State.onlyIn o s ps) (kregs : Piece.regs ∈ ps) (ksch : Piece.sch ∈ ps) (kbanks : Piece.banks ∈ ps) (kedges : Piece.edges ∈ ps) :
    State.onlyIn o (State.dropGates b t s) ps := by
  unfold Sys2Proof.Machine.State.dropGates
  dsimp -failIfUnchanged only
  with_reducible repeat' (first | assumption | (intro _) | apply Frame.ite | apply Frame.ite2 | apply Frame.foldl | apply Frame.foldl2 | apply Frame.gatesLow | apply Frame.cancelWatch | apply h0 | (fail_if_no_progress beta_reduce) | (fail_if_no_progress dsimp only) | split)

theorem Frame.killThread {o : State} {ps : List Piece} (b t : Nat) (f : Event → Event) (s : State) (h0 : State.onlyIn o s ps) (kregs : Piece.regs ∈ ps) (khif : Piece.hif ∈ ps) (ksch : Piece.sch ∈ ps) (kbanks : Piece.banks ∈ ps) (kedges : Piece.edges ∈ ps) (kadc : Piece.adc ∈ ps) :
    State.onlyIn o (State.killThread b t f s) ps := by
  unfold Sys2Proof.Machine.State.killThread
  dsimp -failIfUnchanged only
  with_reducible repeat' (first | assumption | (intro _) | apply Frame.ite | apply Frame.ite2 | apply Frame.foldl | apply Frame.foldl2 | apply Frame.dropGates | apply Frame.releaseToken | apply Frame.closeThreadWins | apply Frame.modStore | apply Frame.freeThread | apply h0 | (fail_if_no_progress beta_reduce) | (fail_if_no_progress dsimp only) | split)

theorem Frame.killLog {o : State} {ps : List Piece} (n : Nat) (level : Bool) (f : Event → Event) (s : State) (h0 : State.onlyIn o s ps) (ksch : Piece.sch ∈ ps) (kedges : Piece.edges ∈ ps) :
    State.onlyIn o (State.killLog n level f s) ps := by
  unfold Sys2Proof.Machine.State.killLog
  dsimp -failIfUnchanged only
  with_reducible repeat' (first | assumption | (intro _) | apply Frame.ite | apply Frame.ite2 | apply Frame.foldl | apply Frame.foldl2 | apply Frame.setGl | apply Frame.offEvent | apply Frame.modEvent | apply Frame.modeSettle | apply h0 | apply Frame.id | simp only [Frame.mk_iff] | apply Frame.with_edges | (fail_if_no_progress beta_reduce) | (fail_if_no_progress dsimp only) | split)

theorem Frame.killBanks {o : State} {ps : List Piece} (p : Nat → Bool) (f : Event → Event) (s : State) (h0 : State.onlyIn o s ps) (kregs : Piece.regs ∈ ps) (khif : Piece.hif ∈ ps) (ksch : Piece.sch ∈ ps) (kbanks : Piece.banks ∈ ps) (kedges : Piece.edges ∈ ps) (kadc : Piece.adc ∈ ps) :
    State.onlyIn o (State.killBanks p f s) ps := by
  unfold Sys2Proof.Machine.State.killBanks
  dsimp -failIfUnchanged only
  with_reducible repeat' (first | assumption | (intro _) | apply Frame.ite | apply Frame.ite2 | apply Frame.foldl | apply Frame.foldl2 | apply Frame.killThread | apply h0 | (fail_if_no_progress beta_reduce) | (fail_if_no_progress dsimp only) | split)

theorem Frame.killAll {o : State} {ps : List Piece} (f : Event → Event) (s : State) (h0 : State.onlyIn o s ps) (kregs : Piece.regs ∈ ps) (khif : Piece.hif ∈ ps) (ksch : Piece.sch ∈ ps) (kbanks : Piece.banks ∈ ps) (kquads : Piece.quads ∈ ps) (kedges : Piece.edges ∈ ps) (kadc : Piece.adc ∈ ps) :
    State.onlyIn o (State.killAll f s) ps := by
  unfold Sys2Proof.Machine.State.killAll
  dsimp -failIfUnchanged only
  with_reducible repeat' (first | assumption | (intro _) | apply Frame.ite | apply Frame.ite2 | apply Frame.foldl | apply Frame.foldl2 | apply Frame.killBanks | apply Frame.killLog | apply h0 | simp only [Frame.mk_iff] | apply Frame.with_sch | apply Frame.with_banks | apply Frame.with_quads | apply Frame.with_edges | apply Frame.parts | (exact Or.inl ‹_›) | apply Frame.part_part | apply Frame.part_clk | apply Frame.part_regs | apply Frame.part_sys | apply Frame.part_hif | apply Frame.part_evc | apply Frame.part_sec | apply Frame.part_whl | apply Frame.part_ang | apply Frame.part_sch | apply Frame.part_banks | apply Frame.part_quads | apply Frame.part_edges | apply Frame.part_ink | apply Frame.part_grds | apply Frame.part_adc | apply Frame.part_cmps | apply Frame.part_tmrs | apply Frame.part_nibs | apply Frame.part_tst | apply Frame.part_slur | apply Frame.part_jtag | apply Frame.part_ans | apply Frame.part_freeCtr | apply Frame.part_pending | (fail_if_no_progress beta_reduce) | (fail_if_no_progress dsimp only) | split)

theorem Frame.chGone {o : State} {ps : List Piece} (n : Nat) (s : State) (h0 : State.onlyIn o s ps) (kregs : Piece.regs ∈ ps) (khif : Piece.hif ∈ ps) (ksch : Piece.sch ∈ ps) (kbanks : Piece.banks ∈ ps) (kedges : Piece.edges ∈ ps) (kink : Piece.ink ∈ ps) (kadc : Piece.adc ∈ ps) :
    State.onlyIn o (State.chGone n s) ps := by
  unfold Sys2Proof.Machine.State.chGone
  dsimp -failIfUnchanged only
  with_reducible repeat' (first | assumption | (intro _) | apply Frame.ite | apply Frame.ite2 | apply Frame.foldl | apply Frame.foldl2 | apply Frame.killThread | apply Frame.killLog | apply Frame.refuse | apply h0 | (fail_if_no_progress beta_reduce) | (fail_if_no_progress dsimp only) | split)

/-! ModeOps -/

theorem Frame.safeSeen {o : State} {ps : List Piece} (c : Nat) (s : State) (h0 : State.onlyIn o s ps) (kregs : Piece.regs ∈ ps) :
    State.onlyIn o (State.safeSeen c s) ps := by
  unfold Sys2Proof.Machine.State.safeSeen
  dsimp -failIfUnchanged only
  with_reducible repeat' (first | assumption | (intro _) | apply Frame.ite | apply Frame.ite2 | apply Frame.foldl | apply Frame.foldl2 | apply Frame.setBit | apply h0 | (fail_if_no_progress beta_reduce) | (fail_if_no_progress dsimp only) | split)

theorem Frame.safeActive {o : State} {ps : List Piece} (c : Nat) (s : State) (h0 : State.onlyIn o s ps) (ksys : Piece.sys ∈ ps) :
    State.onlyIn o (State.safeActive c s) ps := by
  unfold Sys2Proof.Machine.State.safeActive
  dsimp -failIfUnchanged only
  with_reducible repeat' (first | assumption | (intro _) | apply Frame.ite | apply Frame.ite2 | apply Frame.foldl | apply Frame.foldl2 | apply h0 | simp only [Frame.mk_iff] | apply Frame.with_sys | (fail_if_no_progress beta_reduce) | (fail_if_no_progress dsimp only) | split)

theorem Frame.nibsLeave {o : State} {ps : List Piece} (p : Nat → Bool) (s : State) (h0 : State.onlyIn o s ps) (knibs : Piece.nibs ∈ ps) :
    State.onlyIn o (State.nibsLeave p s) ps := by
  unfold Sys2Proof.Machine.State.nibsLeave
  dsimp -failIfUnchanged only
  with_reducible repeat' (first | assumption | (intro _) | apply Frame.ite | apply Frame.ite2 | apply Frame.foldl | apply Frame.foldl2 | apply h0 | simp only [Frame.mk_iff] | apply Frame.with_nibs | (fail_if_no_progress beta_reduce) | (fail_if_no_progress dsimp only) | split)

theorem Frame.safestop {o : State} {ps : List Piece} (c : Nat) (s : State) (h0 : State.onlyIn o s ps) (kregs : Piece.regs ∈ ps) (ksys : Piece.sys ∈ ps) (khif : Piece.hif ∈ ps) (kevc : Piece.evc ∈ ps) (ksch : Piece.sch ∈ ps) (kbanks : Piece.banks ∈ ps) (kquads : Piece.quads ∈ ps) (kedges : Piece.edges ∈ ps) (kink : Piece.ink ∈ ps) (kadc : Piece.adc ∈ ps) (kcmps : Piece.cmps ∈ ps) (knibs : Piece.nibs ∈ ps) (ktst : Piece.tst ∈ ps) :
    State.onlyIn o (State.safestop c s) ps := by
  unfold Sys2Proof.Machine.State.safestop
  dsimp -failIfUnchanged only
  with_reducible repeat' (first | assumption | (intro _) | apply Frame.ite | apply Frame.ite2 | apply Frame.foldl | apply Frame.foldl2 | apply Frame.leaveArmed | apply Frame.safeSeen | apply Frame.safeActive | apply Frame.killAll | apply Frame.allToWaiting | apply Frame.holdWaiting | apply Frame.setMode | apply Frame.nibsLeave | apply Frame.alarm | apply h0 | simp only [Frame.mk_iff] | apply Frame.with_sys | (fail_if_no_progress beta_reduce) | (fail_if_no_progress dsimp only) | split)

theorem Frame.fallbackNow {o : State} {ps : List Piece} (c : Nat) (s : State) (h0 : State.onlyIn o s ps) (kregs : Piece.regs ∈ ps) (ksys : Piece.sys ∈ ps) (khif : Piece.hif ∈ ps) (kevc : Piece.evc ∈ ps) (ksch : Piece.sch ∈ ps) (kbanks : Piece.banks ∈ ps) (kquads : Piece.quads ∈ ps) (kedges : Piece.edges ∈ ps) (kink : Piece.ink ∈ ps) (kadc : Piece.adc ∈ ps) (kcmps : Piece.cmps ∈ ps) (knibs : Piece.nibs ∈ ps) (ktst : Piece.tst ∈ ps) :
    State.onlyIn o (State.fallbackNow c s) ps := by
  unfold Sys2Proof.Machine.State.fallbackNow
  dsimp -failIfUnchanged only
  with_reducible repeat' (first | assumption | (intro _) | apply Frame.ite | apply Frame.ite2 | apply Frame.foldl | apply Frame.foldl2 | apply Frame.alarm | apply Frame.safestop | apply h0 | simp only [Frame.mk_iff] | apply Frame.with_sys | (fail_if_no_progress beta_reduce) | (fail_if_no_progress dsimp only) | split)

theorem Frame.fallbackCause {o : State} {ps : List Piece} (c : Nat) (s : State) (h0 : State.onlyIn o s ps) (kregs : Piece.regs ∈ ps) (ksys : Piece.sys ∈ ps) (khif : Piece.hif ∈ ps) (kevc : Piece.evc ∈ ps) (ksch : Piece.sch ∈ ps) (kbanks : Piece.banks ∈ ps) (kquads : Piece.quads ∈ ps) (kedges : Piece.edges ∈ ps) (kink : Piece.ink ∈ ps) (kadc : Piece.adc ∈ ps) (kcmps : Piece.cmps ∈ ps) (knibs : Piece.nibs ∈ ps) (ktst : Piece.tst ∈ ps) :
    State.onlyIn o (State.fallbackCause c s) ps := by
  unfold Sys2Proof.Machine.State.fallbackCause
  dsimp -failIfUnchanged only
  with_reducible repeat' (first | assumption | (intro _) | apply Frame.ite | apply Frame.ite2 | apply Frame.foldl | apply Frame.foldl2 | apply Frame.inCycle | apply Frame.fallbackNow | apply Frame.safestop | apply h0 | simp only [Frame.mk_iff] | apply Frame.with_sys | (fail_if_no_progress beta_reduce) | (fail_if_no_progress dsimp only) | split)

theorem Frame.boostBegin {o : State} {ps : List Piece} (s : State) (h0 : State.onlyIn o s ps) (kquads : Piece.quads ∈ ps) :
    State.onlyIn o (State.boostBegin s) ps := by
  unfold Sys2Proof.Machine.State.boostBegin
  dsimp -failIfUnchanged only
  with_reducible repeat' (first | assumption | (intro _) | apply Frame.ite | apply Frame.ite2 | apply Frame.foldl | apply Frame.foldl2 | apply h0 | simp only [Frame.mk_iff] | apply Frame.with_quads | (fail_if_no_progress beta_reduce) | (fail_if_no_progress dsimp only) | split)

theorem Frame.followSync {o : State} {ps : List Piece} (s : State) (h0 : State.onlyIn o s ps) (kregs : Piece.regs ∈ ps) (ksys : Piece.sys ∈ ps) (khif : Piece.hif ∈ ps) (kevc : Piece.evc ∈ ps) (ksch : Piece.sch ∈ ps) (kbanks : Piece.banks ∈ ps) (kquads : Piece.quads ∈ ps) (kedges : Piece.edges ∈ ps) (kink : Piece.ink ∈ ps) (kadc : Piece.adc ∈ ps) (kcmps : Piece.cmps ∈ ps) (knibs : Piece.nibs ∈ ps) (ktst : Piece.tst ∈ ps) :
    State.onlyIn o (State.followSync s) ps := by
  unfold Sys2Proof.Machine.State.followSync
  dsimp -failIfUnchanged only
  with_reducible repeat' (first | assumption | (intro _) | apply Frame.ite | apply Frame.ite2 | apply Frame.foldl | apply Frame.foldl2 | apply Frame.leaveArmed | apply Frame.setMode | apply Frame.boostFresh | apply Frame.holdWaiting | apply Frame.fallbackNow | apply h0 | simp only [Frame.mk_iff] | apply Frame.with_sys | (fail_if_no_progress beta_reduce) | (fail_if_no_progress dsimp only) | split)

theorem Frame.angleMoved {o : State} {ps : List Piece} (d : Int) (s : State) (h0 : State.onlyIn o s ps) (ksys : Piece.sys ∈ ps) (kadc : Piece.adc ∈ ps) (ktmrs : Piece.tmrs ∈ ps) :
    State.onlyIn o (State.angleMoved d s) ps := by
  unfold Sys2Proof.Machine.State.angleMoved
  dsimp -failIfUnchanged only
  with_reducible repeat' (first | assumption | (intro _) | apply Frame.ite | apply Frame.ite2 | apply Frame.foldl | apply Frame.foldl2 | apply h0 | simp only [Frame.mk_iff] | apply Frame.with_sys | apply Frame.with_adc | apply Frame.with_tmrs | apply Frame.parts | (exact Or.inl ‹_›) | apply Frame.part_part | apply Frame.part_clk | apply Frame.part_regs | apply Frame.part_sys | apply Frame.part_hif | apply Frame.part_evc | apply Frame.part_sec | apply Frame.part_whl | apply Frame.part_ang | apply Frame.part_sch | apply Frame.part_banks | apply Frame.part_quads | apply Frame.part_edges | apply Frame.part_ink | apply Frame.part_grds | apply Frame.part_adc | apply Frame.part_cmps | apply Frame.part_tmrs | apply Frame.part_nibs | apply Frame.part_tst | apply Frame.part_slur | apply Frame.part_jtag | apply Frame.part_ans | apply Frame.part_freeCtr | apply Frame.part_pending | (fail_if_no_progress beta_reduce) | (fail_if_no_progress dsimp only) | split)

/-! Adc -/

theorem Frame.settleBy {o : State} {ps : List Piece} (t n : Nat) (s : State) (h0 : State.onlyIn o s ps) (kadc : Piece.adc ∈ ps) :
    State.onlyIn o (State.settleBy t n s) ps := by
  unfold Sys2Proof.Machine.State.settleBy
  dsimp -failIfUnchanged only
  with_reducible repeat' (first | assumption | (intro _) | apply Frame.ite | apply Frame.ite2 | apply Frame.foldl | apply Frame.foldl2 | apply Frame.setWin | apply h0 | (fail_if_no_progress beta_reduce) | (fail_if_no_progress dsimp only) | split)

theorem Frame.landFlight {o : State} {ps : List Piece} (n : Nat) (s : State) (h0 : State.onlyIn o s ps) (kregs : Piece.regs ∈ ps) (khif : Piece.hif ∈ ps) (kadc : Piece.adc ∈ ps) :
    State.onlyIn o (State.landFlight n s) ps := by
  unfold Sys2Proof.Machine.State.landFlight
  dsimp -failIfUnchanged only
  with_reducible repeat' (first | assumption | (intro _) | apply Frame.ite | apply Frame.ite2 | apply Frame.foldl | apply Frame.foldl2 | apply Frame.sample | apply Frame.modConv | apply h0 | (fail_if_no_progress beta_reduce) | (fail_if_no_progress dsimp only) | split)

theorem Frame.runVisit {o : State} {ps : List Piece} (n e skip m : Nat) (cs : List Int) (s : State) (h0 : State.onlyIn o s ps) (kregs : Piece.regs ∈ ps) (khif : Piece.hif ∈ ps) (kadc : Piece.adc ∈ ps) :
    State.onlyIn o (State.runVisit n e skip m cs s) ps := by
  unfold Sys2Proof.Machine.State.runVisit
  dsimp -failIfUnchanged only
  with_reducible repeat' (first | assumption | (intro _) | apply Frame.ite | apply Frame.ite2 | apply Frame.foldl | apply Frame.foldl2 | apply Frame.settleBy | apply Frame.sample | apply Frame.modConv | apply h0 | (fail_if_no_progress beta_reduce) | (fail_if_no_progress dsimp only) | split)

theorem Frame.loopStep {o : State} {ps : List Piece} (n e : Nat) (cs : List Int) (s : State) (h0 : State.onlyIn o s ps) (kregs : Piece.regs ∈ ps) (khif : Piece.hif ∈ ps) (kadc : Piece.adc ∈ ps) :
    State.onlyIn o (State.loopStep n e cs s) ps := by
  unfold Sys2Proof.Machine.State.loopStep
  dsimp -failIfUnchanged only
  with_reducible repeat' (first | assumption | (intro _) | apply Frame.ite | apply Frame.ite2 | apply Frame.foldl | apply Frame.foldl2 | apply Frame.landFlight | apply Frame.runVisit | apply Frame.modConv | apply h0 | (fail_if_no_progress beta_reduce) | (fail_if_no_progress dsimp only) | split)

theorem Frame.urgentStep {o : State} {ps : List Piece} (n e : Nat) (cs : List Int) (s : State) (h0 : State.onlyIn o s ps) (kregs : Piece.regs ∈ ps) (khif : Piece.hif ∈ ps) (kadc : Piece.adc ∈ ps) :
    State.onlyIn o (State.urgentStep n e cs s) ps := by
  unfold Sys2Proof.Machine.State.urgentStep
  dsimp -failIfUnchanged only
  with_reducible repeat' (first | assumption | (intro _) | apply Frame.ite | apply Frame.ite2 | apply Frame.foldl | apply Frame.foldl2 | apply Frame.landFlight | apply Frame.modConv | apply Frame.runVisit | apply h0 | (fail_if_no_progress beta_reduce) | (fail_if_no_progress dsimp only) | split)

theorem Frame.calWrite {o : State} {ps : List Piece} (p : Port) (v : Word) (s : State) (h0 : State.onlyIn o s ps) (kregs : Piece.regs ∈ ps) (ksys : Piece.sys ∈ ps) (khif : Piece.hif ∈ ps) (ksec : Piece.sec ∈ ps) (kadc : Piece.adc ∈ ps) :
    State.onlyIn o (State.calWrite p v s) ps := by
  unfold Sys2Proof.Machine.State.calWrite
  dsimp -failIfUnchanged only
  with_reducible repeat' (first | assumption | (intro _) | apply Frame.ite | apply Frame.ite2 | apply Frame.foldl | apply Frame.foldl2 | apply Frame.busWrite | apply h0 | simp only [Frame.mk_iff] | apply Frame.with_sys | apply Frame.with_adc | apply Frame.parts | (exact Or.inl ‹_›) | apply Frame.part_part | apply Frame.part_clk | apply Frame.part_regs | apply Frame.part_sys | apply Frame.part_hif | apply Frame.part_evc | apply Frame.part_sec | apply Frame.part_whl | apply Frame.part_ang | apply Frame.part_sch | apply Frame.part_banks | apply Frame.part_quads | apply Frame.part_edges | apply Frame.part_ink | apply Frame.part_grds | apply Frame.part_adc | apply Frame.part_cmps | apply Frame.part_tmrs | apply Frame.part_nibs | apply Frame.part_tst | apply Frame.part_slur | apply Frame.part_jtag | apply Frame.part_ans | apply Frame.part_freeCtr | apply Frame.part_pending | (fail_if_no_progress beta_reduce) | (fail_if_no_progress dsimp only) | split)

theorem Frame.calNext {o : State} {ps : List Piece} (k : CalRun) (s : State) (h0 : State.onlyIn o s ps) (ksys : Piece.sys ∈ ps) (kadc : Piece.adc ∈ ps) :
    State.onlyIn o (State.calNext k s) ps := by
  unfold Sys2Proof.Machine.State.calNext
  dsimp -failIfUnchanged only
  with_reducible repeat' (first | assumption | (intro _) | apply Frame.ite | apply Frame.ite2 | apply Frame.foldl | apply Frame.foldl2 | apply Frame.modConv | apply h0 | simp only [Frame.mk_iff] | apply Frame.with_sys | apply Frame.with_adc | apply Frame.parts | (exact Or.inl ‹_›) | apply Frame.part_part | apply Frame.part_clk | apply Frame.part_regs | apply Frame.part_sys | apply Frame.part_hif | apply Frame.part_evc | apply Frame.part_sec | apply Frame.part_whl | apply Frame.part_ang | apply Frame.part_sch | apply Frame.part_banks | apply Frame.part_quads | apply Frame.part_edges | apply Frame.part_ink | apply Frame.part_grds | apply Frame.part_adc | apply Frame.part_cmps | apply Frame.part_tmrs | apply Frame.part_nibs | apply Frame.part_tst | apply Frame.part_slur | apply Frame.part_jtag | apply Frame.part_ans | apply Frame.part_freeCtr | apply Frame.part_pending | (fail_if_no_progress beta_reduce) | (fail_if_no_progress dsimp only) | split)

theorem Frame.calAbort {o : State} {ps : List Piece} (s : State) (h0 : State.onlyIn o s ps) (kadc : Piece.adc ∈ ps) :
    State.onlyIn o (State.calAbort s) ps := by
  unfold Sys2Proof.Machine.State.calAbort
  dsimp -failIfUnchanged only
  with_reducible repeat' (first | assumption | (intro _) | apply Frame.ite | apply Frame.ite2 | apply Frame.foldl | apply Frame.foldl2 | apply Frame.modConv | apply h0 | simp only [Frame.mk_iff] | apply Frame.with_adc | (fail_if_no_progress beta_reduce) | (fail_if_no_progress dsimp only) | split)

theorem Frame.launchFlight {o : State} {ps : List Piece} (n e : Nat) (s : State) (h0 : State.onlyIn o s ps) (kadc : Piece.adc ∈ ps) :
    State.onlyIn o (State.launchFlight n e s) ps := by
  unfold Sys2Proof.Machine.State.launchFlight
  dsimp -failIfUnchanged only
  with_reducible repeat' (first | assumption | (intro _) | apply Frame.ite | apply Frame.ite2 | apply Frame.foldl | apply Frame.foldl2 | apply Frame.modConv | apply h0 | (fail_if_no_progress beta_reduce) | (fail_if_no_progress dsimp only) | split)

theorem Frame.bumpEpoch {o : State} {ps : List Piece} (t : Nat) (s : State) (h0 : State.onlyIn o s ps) (kregs : Piece.regs ∈ ps) (kadc : Piece.adc ∈ ps) :
    State.onlyIn o (State.bumpEpoch t s) ps := by
  unfold Sys2Proof.Machine.State.bumpEpoch
  dsimp -failIfUnchanged only
  with_reducible repeat' (first | assumption | (intro _) | apply Frame.ite | apply Frame.ite2 | apply Frame.foldl | apply Frame.foldl2 | apply Frame.setWin | apply Frame.set | apply h0 | (fail_if_no_progress beta_reduce) | (fail_if_no_progress dsimp only) | split)

theorem Frame.tqChanged {o : State} {ps : List Piece} (t : Nat) (s : State) (h0 : State.onlyIn o s ps) (kregs : Piece.regs ∈ ps) (kadc : Piece.adc ∈ ps) :
    State.onlyIn o (State.tqChanged t s) ps := by
  unfold Sys2Proof.Machine.State.tqChanged
  dsimp -failIfUnchanged only
  with_reducible repeat' (first | assumption | (intro _) | apply Frame.ite | apply Frame.ite2 | apply Frame.foldl | apply Frame.foldl2 | apply Frame.launchFlight | apply Frame.bumpEpoch | apply h0 | (fail_if_no_progress beta_reduce) | (fail_if_no_progress dsimp only) | split)

theorem Frame.moveEntry {o : State} {ps : List Piece} (n e n' e' role : Nat) (s : State) (h0 : State.onlyIn o s ps) (kregs : Piece.regs ∈ ps) (kadc : Piece.adc ∈ ps) :
    State.onlyIn o (State.moveEntry n e n' e' role s).2 ps := by
  unfold Sys2Proof.Machine.State.moveEntry
  dsimp -failIfUnchanged only
  with_reducible repeat' (first | assumption | (intro _) | apply Frame.ite | apply Frame.ite2 | apply Frame.foldl | apply Frame.foldl2 | apply Frame.launchFlight | apply Frame.putBoth | apply Frame.bumpEpoch | apply Frame.putShadow | apply Frame.modConv | apply h0 | (fail_if_no_progress beta_reduce) | (fail_if_no_progress dsimp only) | split)

theorem Frame.moveWrite {o : State} {ps : List Piece} (p : Port) (v : Word) (s : State) (h0 : State.onlyIn o s ps) (kregs : Piece.regs ∈ ps) (khif : Piece.hif ∈ ps) (ksec : Piece.sec ∈ ps) (kadc : Piece.adc ∈ ps) :
    State.onlyIn o (State.moveWrite p v s) ps := by
  unfold Sys2Proof.Machine.State.moveWrite
  dsimp -failIfUnchanged only
  with_reducible repeat' (first | assumption | (intro _) | apply Frame.ite | apply Frame.ite2 | apply Frame.foldl | apply Frame.foldl2 | apply Frame.busWrite | apply Frame.count | apply Frame.moveEntry | apply h0 | simp only [Frame.mk_iff] | apply Frame.with_adc | (fail_if_no_progress beta_reduce) | (fail_if_no_progress dsimp only) | split)

theorem Frame.accAdvance {o : State} {ps : List Piece} (s : State) (h0 : State.onlyIn o s ps) (kregs : Piece.regs ∈ ps) :
    State.onlyIn o (State.accAdvance s) ps := by
  unfold Sys2Proof.Machine.State.accAdvance
  dsimp -failIfUnchanged only
  with_reducible repeat' (first | assumption | (intro _) | apply Frame.ite | apply Frame.ite2 | apply Frame.foldl | apply Frame.foldl2 | apply Frame.set | apply h0 | (fail_if_no_progress beta_reduce) | (fail_if_no_progress dsimp only) | split)

theorem Frame.accWrite {o : State} {ps : List Piece} (p : Port) (t w : Nat) (v : Word) (s : State) (h0 : State.onlyIn o s ps) (kregs : Piece.regs ∈ ps) (khif : Piece.hif ∈ ps) (kadc : Piece.adc ∈ ps) :
    State.onlyIn o (State.accWrite p t w v s) ps := by
  unfold Sys2Proof.Machine.State.accWrite
  dsimp -failIfUnchanged only
  with_reducible repeat' (first | assumption | (intro _) | apply Frame.ite | apply Frame.ite2 | apply Frame.foldl | apply Frame.foldl2 | apply Frame.rowWrite | apply Frame.tqChanged | apply h0 | (fail_if_no_progress beta_reduce) | (fail_if_no_progress dsimp only) | split)

theorem Frame.accAccess {o : State} {ps : List Piece} (p : Port) (w : Option Word) (s : State) (h0 : State.onlyIn o s ps) (kregs : Piece.regs ∈ ps) (khif : Piece.hif ∈ ps) (kadc : Piece.adc ∈ ps) (kans : Piece.ans ∈ ps) :
    State.onlyIn o (State.accAccess p w s) ps := by
  unfold Sys2Proof.Machine.State.accAccess
  dsimp -failIfUnchanged only
  with_reducible repeat' (first | assumption | (intro _) | apply Frame.ite | apply Frame.ite2 | apply Frame.foldl | apply Frame.foldl2 | apply Frame.answer | apply Frame.accWrite | apply Frame.accAdvance | apply h0 | (fail_if_no_progress beta_reduce) | (fail_if_no_progress dsimp only) | split)

theorem Frame.timeClose {o : State} {ps : List Piece} (t : Nat) (s : State) (h0 : State.onlyIn o s ps) (kregs : Piece.regs ∈ ps) (khif : Piece.hif ∈ ps) (kadc : Piece.adc ∈ ps) :
    State.onlyIn o (State.timeClose t s) ps := by
  unfold Sys2Proof.Machine.State.timeClose
  dsimp -failIfUnchanged only
  with_reducible repeat' (first | assumption | (intro _) | apply Frame.ite | apply Frame.ite2 | apply Frame.foldl | apply Frame.foldl2 | apply Frame.closeWin | apply Frame.setWin | apply Frame.short | apply h0 | (fail_if_no_progress beta_reduce) | (fail_if_no_progress dsimp only) | split)

theorem Frame.timeWinsOpen {o : State} {ps : List Piece} (s : State) (h0 : State.onlyIn o s ps) (kregs : Piece.regs ∈ ps) (khif : Piece.hif ∈ ps) (kadc : Piece.adc ∈ ps) :
    State.onlyIn o (State.timeWinsOpen s) ps := by
  unfold Sys2Proof.Machine.State.timeWinsOpen
  dsimp -failIfUnchanged only
  with_reducible repeat' (first | assumption | (intro _) | apply Frame.ite | apply Frame.ite2 | apply Frame.foldl | apply Frame.foldl2 | apply Frame.openAll | apply h0 | (fail_if_no_progress beta_reduce) | (fail_if_no_progress dsimp only) | split)

theorem Frame.winsLeave {o : State} {ps : List Piece} (keep : Option Nat) (s : State) (h0 : State.onlyIn o s ps) (kregs : Piece.regs ∈ ps) (khif : Piece.hif ∈ ps) (kadc : Piece.adc ∈ ps) :
    State.onlyIn o (State.winsLeave keep s) ps := by
  unfold Sys2Proof.Machine.State.winsLeave
  dsimp -failIfUnchanged only
  with_reducible repeat' (first | assumption | (intro _) | apply Frame.ite | apply Frame.ite2 | apply Frame.foldl | apply Frame.foldl2 | apply Frame.closeAll | apply Frame.openAll | apply h0 | (fail_if_no_progress beta_reduce) | (fail_if_no_progress dsimp only) | split)

theorem Frame.convGone {o : State} {ps : List Piece} (n : Nat) (s : State) (h0 : State.onlyIn o s ps) (kregs : Piece.regs ∈ ps) (khif : Piece.hif ∈ ps) (kadc : Piece.adc ∈ ps) :
    State.onlyIn o (State.convGone n s) ps := by
  unfold Sys2Proof.Machine.State.convGone
  dsimp -failIfUnchanged only
  with_reducible repeat' (first | assumption | (intro _) | apply Frame.ite | apply Frame.ite2 | apply Frame.foldl | apply Frame.foldl2 | apply Frame.closeAll | apply h0 | (fail_if_no_progress beta_reduce) | (fail_if_no_progress dsimp only) | split)

/-! Flags -/

theorem Frame.clearCond {o : State} {ps : List Piece} (b t c : Nat) (s : State) (h0 : State.onlyIn o s ps) (kregs : Piece.regs ∈ ps) :
    State.onlyIn o (State.clearCond b t c s) ps := by
  unfold Sys2Proof.Machine.State.clearCond
  dsimp -failIfUnchanged only
  with_reducible repeat' (first | assumption | (intro _) | apply Frame.ite | apply Frame.ite2 | apply Frame.foldl | apply Frame.foldl2 | apply Frame.clrLatch | apply h0 | (fail_if_no_progress beta_reduce) | (fail_if_no_progress dsimp only) | split)

/-! Regul -/

theorem Frame.loadFine {o : State} {ps : List Piece} (b t : Nat) (s : State) (h0 : State.onlyIn o s ps) (kcmps : Piece.cmps ∈ ps) :
    State.onlyIn o (State.loadFine b t s) ps := by
  unfold Sys2Proof.Machine.State.loadFine
  dsimp -failIfUnchanged only
  with_reducible repeat' (first | assumption | (intro _) | apply Frame.ite | apply Frame.ite2 | apply Frame.foldl | apply Frame.foldl2 | apply h0 | simp only [Frame.mk_iff] | apply Frame.with_cmps | (fail_if_no_progress beta_reduce) | (fail_if_no_progress dsimp only) | split)

theorem Frame.chopGl {o : State} {ps : List Piece} (b t : Nat) (on : Bool) (s : State) (h0 : State.onlyIn o s ps) (kregs : Piece.regs ∈ ps) (ksch : Piece.sch ∈ ps) (kbanks : Piece.banks ∈ ps) (kcmps : Piece.cmps ∈ ps) :
    State.onlyIn o (State.chopGl b t on s) ps := by
  unfold Sys2Proof.Machine.State.chopGl
  dsimp -failIfUnchanged only
  with_reducible repeat' (first | assumption | (intro _) | apply Frame.ite | apply Frame.ite2 | apply Frame.foldl | apply Frame.foldl2 | apply Frame.loadFine | apply Frame.glOn | apply Frame.setGl | apply Frame.offEvent | apply h0 | (fail_if_no_progress beta_reduce) | (fail_if_no_progress dsimp only) | split)

theorem Frame.chopGhb {o : State} {ps : List Piece} (b t : Nat) (on : Bool) (s : State) (h0 : State.onlyIn o s ps) (ksch : Piece.sch ∈ ps) (kbanks : Piece.banks ∈ ps) :
    State.onlyIn o (State.chopGhb b t on s) ps := by
  unfold Sys2Proof.Machine.State.chopGhb
  dsimp -failIfUnchanged only
  with_reducible repeat' (first | assumption | (intro _) | apply Frame.ite | apply Frame.ite2 | apply Frame.foldl | apply Frame.foldl2 | apply Frame.setGhb | apply Frame.beginEvent | apply Frame.offEvent | apply h0 | (fail_if_no_progress beta_reduce) | (fail_if_no_progress dsimp only) | split)

theorem Frame.startOff {o : State} {ps : List Piece} (b t : Nat) (s : State) (h0 : State.onlyIn o s ps) (kregs : Piece.regs ∈ ps) (ksch : Piece.sch ∈ ps) (kbanks : Piece.banks ∈ ps) (kcmps : Piece.cmps ∈ ps) :
    State.onlyIn o (State.startOff b t s) ps := by
  unfold Sys2Proof.Machine.State.startOff
  dsimp -failIfUnchanged only
  with_reducible repeat' (first | assumption | (intro _) | apply Frame.ite | apply Frame.ite2 | apply Frame.foldl | apply Frame.foldl2 | apply Frame.chopGl | apply Frame.modThread | apply h0 | (fail_if_no_progress beta_reduce) | (fail_if_no_progress dsimp only) | split)

theorem Frame.setFine {o : State} {ps : List Piece} (n : Nat) (code : Option Nat) (s : State) (h0 : State.onlyIn o s ps) (kregs : Piece.regs ∈ ps) (kcmps : Piece.cmps ∈ ps) :
    State.onlyIn o (State.setFine n code s) ps := by
  unfold Sys2Proof.Machine.State.setFine
  dsimp -failIfUnchanged only
  with_reducible repeat' (first | assumption | (intro _) | apply Frame.ite | apply Frame.ite2 | apply Frame.foldl | apply Frame.foldl2 | apply Frame.clrLatch | apply h0 | simp only [Frame.mk_iff] | apply Frame.with_cmps | (fail_if_no_progress beta_reduce) | (fail_if_no_progress dsimp only) | split)

theorem Frame.regLook {o : State} {ps : List Piece} (b t : Nat) (s : State) (h0 : State.onlyIn o s ps) (kregs : Piece.regs ∈ ps) (ksch : Piece.sch ∈ ps) (kbanks : Piece.banks ∈ ps) (kcmps : Piece.cmps ∈ ps) :
    State.onlyIn o (State.regLook b t s) ps := by
  unfold Sys2Proof.Machine.State.regLook
  dsimp -failIfUnchanged only
  with_reducible repeat' (first | assumption | (intro _) | apply Frame.ite | apply Frame.ite2 | apply Frame.foldl | apply Frame.foldl2 | apply Frame.modThread | apply Frame.chopGhb | apply Frame.chopGl | apply Frame.startOff | apply h0 | (fail_if_no_progress beta_reduce) | (fail_if_no_progress dsimp only) | split)

theorem Frame.settleBank {o : State} {ps : List Piece} (b : Nat) (s : State) (h0 : State.onlyIn o s ps) (kregs : Piece.regs ∈ ps) (ksch : Piece.sch ∈ ps) (kbanks : Piece.banks ∈ ps) (kcmps : Piece.cmps ∈ ps) :
    State.onlyIn o (State.settleBank b s) ps := by
  unfold Sys2Proof.Machine.State.settleBank
  dsimp -failIfUnchanged only
  with_reducible repeat' (first | assumption | (intro _) | apply Frame.ite | apply Frame.ite2 | apply Frame.foldl | apply Frame.foldl2 | apply Frame.setFine | apply Frame.regLook | apply h0 | (fail_if_no_progress beta_reduce) | (fail_if_no_progress dsimp only) | split)

/-! Sched -/

theorem Frame.stale {o : State} {ps : List Piece} (e : Event) (s : State) (h0 : State.onlyIn o s ps) (kregs : Piece.regs ∈ ps) (khif : Piece.hif ∈ ps) (ksch : Piece.sch ∈ ps) (kbanks : Piece.banks ∈ ps) (kink : Piece.ink ∈ ps) :
    State.onlyIn o (State.stale e s) ps := by
  unfold Sys2Proof.Machine.State.stale
  dsimp -failIfUnchanged only
  with_reducible repeat' (first | assumption | (intro _) | apply Frame.ite | apply Frame.ite2 | apply Frame.foldl | apply Frame.foldl2 | apply Frame.count | apply Frame.refuse | apply h0 | (fail_if_no_progress beta_reduce) | (fail_if_no_progress dsimp only) | split)

theorem Frame.inkCheck {o : State} {ps : List Piece} (e : Event) (s : State) (h0 : State.onlyIn o s ps) (kregs : Piece.regs ∈ ps) (khif : Piece.hif ∈ ps) (kevc : Piece.evc ∈ ps) (ksch : Piece.sch ∈ ps) (kbanks : Piece.banks ∈ ps) (kink : Piece.ink ∈ ps) :
    State.onlyIn o (State.inkCheck e s).2 ps := by
  unfold Sys2Proof.Machine.State.inkCheck
  dsimp -failIfUnchanged only
  with_reducible repeat' (first | assumption | (intro _) | apply Frame.ite | apply Frame.ite2 | apply Frame.foldl | apply Frame.foldl2 | apply Frame.count | apply Frame.refuse | apply Frame.reserve | apply Frame.alarm | apply Frame.raise | apply h0 | apply Frame.id | (fail_if_no_progress beta_reduce) | (fail_if_no_progress dsimp only) | split)

theorem Frame.dutyCheck {o : State} {ps : List Piece} (e : Event) (s : State) (h0 : State.onlyIn o s ps) (kregs : Piece.regs ∈ ps) :
    State.onlyIn o (State.dutyCheck e s).2 ps := by
  unfold Sys2Proof.Machine.State.dutyCheck
  dsimp -failIfUnchanged only
  with_reducible repeat' (first | assumption | (intro _) | apply Frame.ite | apply Frame.ite2 | apply Frame.foldl | apply Frame.foldl2 | apply Frame.count | apply h0 | (fail_if_no_progress beta_reduce) | (fail_if_no_progress dsimp only) | split)

theorem Frame.releaseTrace {o : State} {ps : List Piece} (e : Event) (code : Nat) (forced : Bool) (s : State) (h0 : State.onlyIn o s ps) (kregs : Piece.regs ∈ ps) (khif : Piece.hif ∈ ps) :
    State.onlyIn o (State.releaseTrace e code forced s) ps := by
  unfold Sys2Proof.Machine.State.releaseTrace
  dsimp -failIfUnchanged only
  with_reducible repeat' (first | assumption | (intro _) | apply Frame.ite | apply Frame.ite2 | apply Frame.foldl | apply Frame.foldl2 | apply Frame.trace | apply h0 | (fail_if_no_progress beta_reduce) | (fail_if_no_progress dsimp only) | split)

theorem Frame.refuseRelease {o : State} {ps : List Piece} (e : Event) (code : Nat) (s : State) (h0 : State.onlyIn o s ps) (kregs : Piece.regs ∈ ps) (khif : Piece.hif ∈ ps) (ksch : Piece.sch ∈ ps) (kbanks : Piece.banks ∈ ps) (kink : Piece.ink ∈ ps) :
    State.onlyIn o (State.refuseRelease e code s) ps := by
  unfold Sys2Proof.Machine.State.refuseRelease
  dsimp -failIfUnchanged only
  with_reducible repeat' (first | assumption | (intro _) | apply Frame.ite | apply Frame.ite2 | apply Frame.foldl | apply Frame.foldl2 | apply Frame.releaseTrace | apply Frame.refuse | apply h0 | (fail_if_no_progress beta_reduce) | (fail_if_no_progress dsimp only) | split)

theorem Frame.release {o : State} {ps : List Piece} (n : Nat) (s : State) (h0 : State.onlyIn o s ps) (kregs : Piece.regs ∈ ps) (khif : Piece.hif ∈ ps) (kevc : Piece.evc ∈ ps) (ksch : Piece.sch ∈ ps) (kbanks : Piece.banks ∈ ps) (kink : Piece.ink ∈ ps) : State.onlyIn o (State.release n s) ps := by
  unfold State.release
  split
  · exact h0
  · next e0 _ =>
    dsimp only
    split
    · exact Frame.refuseRelease _ _ _ (Frame.count _ _ h0 (by assumption)) (by assumption) (by assumption) (by assumption) (by assumption) (by assumption)
    · have h1 : State.onlyIn o (s.inkCheck (s.prepared e0)).2 ps := Frame.inkCheck _ _ h0 (by assumption) (by assumption) (by assumption) (by assumption) (by assumption) (by assumption)
      split
      · next heq => rw [heq] at h1; exact h1
      · next heq => rw [heq] at h1; exact Frame.refuseRelease _ _ _ h1 (by assumption) (by assumption) (by assumption) (by assumption) (by assumption)
      · next e forced s2 heq =>
        rw [heq] at h1
        have h2 : State.onlyIn o (s2.dutyCheck e).2 ps := Frame.dutyCheck _ _ h1 (by assumption)
        split
        · next heq2 =>
          rw [heq2] at h2
          split
          · exact Frame.refuseRelease _ _ _ h2 (by assumption) (by assumption) (by assumption) (by assumption) (by assumption)
          · exact Frame.releaseTrace _ _ _ _ (Frame.modEvent _ _ _ h2 (by assumption)) (by assumption) (by assumption)
        · next heq2 => rw [heq2] at h2; exact Frame.refuseRelease _ _ _ h2 (by assumption) (by assumption) (by assumption) (by assumption) (by assumption)
        · next heq2 => rw [heq2] at h2; exact h2

theorem Frame.startThread {o : State} {ps : List Piece} (e : Event) (t : Nat) (edge : Tb) (s : State) (h0 : State.onlyIn o s ps) (kregs : Piece.regs ∈ ps) (ksch : Piece.sch ∈ ps) (kbanks : Piece.banks ∈ ps) :
    State.onlyIn o (State.startThread e t edge s) ps := by
  unfold Sys2Proof.Machine.State.startThread
  dsimp -failIfUnchanged only
  with_reducible repeat' (first | assumption | (intro _) | apply Frame.ite | apply Frame.ite2 | apply Frame.foldl | apply Frame.foldl2 | apply Frame.modThread | apply Frame.clrLatch | apply Frame.modChan | apply h0 | apply Frame.id | (fail_if_no_progress beta_reduce) | (fail_if_no_progress dsimp only) | split)

theorem Frame.startLog {o : State} {ps : List Piece} (e : Event) (edge : Tb) (s : State) (h0 : State.onlyIn o s ps) (kregs : Piece.regs ∈ ps) (ksch : Piece.sch ∈ ps) (kbanks : Piece.banks ∈ ps) (kedges : Piece.edges ∈ ps) :
    State.onlyIn o (State.startLog e edge s) ps := by
  unfold Sys2Proof.Machine.State.startLog
  dsimp -failIfUnchanged only
  with_reducible repeat' (first | assumption | (intro _) | apply Frame.ite | apply Frame.ite2 | apply Frame.foldl | apply Frame.foldl2 | apply Frame.placeEdge | apply h0 | apply Frame.id | (fail_if_no_progress beta_reduce) | (fail_if_no_progress dsimp only) | split)

theorem Frame.begin {o : State} {ps : List Piece} (e : Event) (base edge : Tb) (lt waited : Nat) (t : Option Nat) (s : State) (h0 : State.onlyIn o s ps) (kregs : Piece.regs ∈ ps) (ksch : Piece.sch ∈ ps) (kbanks : Piece.banks ∈ ps) (kedges : Piece.edges ∈ ps) :
    State.onlyIn o (State.begin e base edge lt waited t s) ps := by
  unfold Sys2Proof.Machine.State.begin
  dsimp -failIfUnchanged only
  with_reducible repeat' (first | assumption | (intro _) | apply Frame.ite | apply Frame.ite2 | apply Frame.foldl | apply Frame.foldl2 | apply Frame.count | apply Frame.modChan | apply Frame.modEvent | apply Frame.startThread | apply Frame.modThread | apply Frame.startLog | apply h0 | apply Frame.id | (fail_if_no_progress beta_reduce) | (fail_if_no_progress dsimp only) | split)

theorem Frame.merge {o : State} {ps : List Piece} (e : Event) (t : Nat) (s : State) (h0 : State.onlyIn o s ps) (kregs : Piece.regs ∈ ps) (ksch : Piece.sch ∈ ps) (kbanks : Piece.banks ∈ ps) (kedges : Piece.edges ∈ ps) (kink : Piece.ink ∈ ps) :
    State.onlyIn o (State.merge e t s) ps := by
  unfold Sys2Proof.Machine.State.merge
  dsimp -failIfUnchanged only
  with_reducible repeat' (first | assumption | (intro _) | apply Frame.ite | apply Frame.ite2 | apply Frame.foldl | apply Frame.foldl2 | apply Frame.modStore | apply Frame.modEvent | apply Frame.count | apply Frame.unreserveBoost | apply Frame.withdraw | apply Frame.modThread | apply h0 | apply Frame.id | (fail_if_no_progress beta_reduce) | (fail_if_no_progress dsimp only) | split)

theorem Frame.stopWaiting {o : State} {ps : List Piece} (b id : Nat) (s : State) (h0 : State.onlyIn o s ps) (kbanks : Piece.banks ∈ ps) :
    State.onlyIn o (State.stopWaiting b id s) ps := by
  unfold Sys2Proof.Machine.State.stopWaiting
  dsimp -failIfUnchanged only
  with_reducible repeat' (first | assumption | (intro _) | apply Frame.ite | apply Frame.ite2 | apply Frame.foldl | apply Frame.foldl2 | apply Frame.modBank | apply h0 | apply Frame.id | (fail_if_no_progress beta_reduce) | (fail_if_no_progress dsimp only) | split)

theorem Frame.takeThread {o : State} {ps : List Piece} (e : Event) (s : State) (h0 : State.onlyIn o s ps) (kregs : Piece.regs ∈ ps) (khif : Piece.hif ∈ ps) (ksch : Piece.sch ∈ ps) (kbanks : Piece.banks ∈ ps) (kedges : Piece.edges ∈ ps) (kink : Piece.ink ∈ ps) :
    State.onlyIn o (State.takeThread e s) ps := by
  unfold Sys2Proof.Machine.State.takeThread
  dsimp -failIfUnchanged only
  with_reducible repeat' (first | assumption | (intro _) | apply Frame.ite | apply Frame.ite2 | apply Frame.foldl | apply Frame.foldl2 | apply Frame.stopWaiting | apply Frame.refuse | apply Frame.begin | apply h0 | apply Frame.id | (fail_if_no_progress beta_reduce) | (fail_if_no_progress dsimp only) | split)

theorem Frame.wait {o : State} {ps : List Piece} (e : Event) (base edge : Tb) (lt : Nat) (s : State) (h0 : State.onlyIn o s ps) (ksch : Piece.sch ∈ ps) (kbanks : Piece.banks ∈ ps) :
    State.onlyIn o (State.wait e base edge lt s) ps := by
  unfold Sys2Proof.Machine.State.wait
  dsimp -failIfUnchanged only
  with_reducible repeat' (first | assumption | (intro _) | apply Frame.ite | apply Frame.ite2 | apply Frame.foldl | apply Frame.foldl2 | apply Frame.modEvent | apply Frame.modBank | apply h0 | apply Frame.id | (fail_if_no_progress beta_reduce) | (fail_if_no_progress dsimp only) | split)

theorem Frame.comeDue {o : State} {ps : List Piece} (n : Nat) (s : State) (h0 : State.onlyIn o s ps) (kclk : Piece.clk ∈ ps) (kregs : Piece.regs ∈ ps) (khif : Piece.hif ∈ ps) (ksch : Piece.sch ∈ ps) (kbanks : Piece.banks ∈ ps) (kedges : Piece.edges ∈ ps) (kink : Piece.ink ∈ ps) :
    State.onlyIn o (State.comeDue n s) ps := by
  unfold Sys2Proof.Machine.State.comeDue
  dsimp -failIfUnchanged only
  with_reducible repeat' (first | assumption | (intro _) | apply Frame.ite | apply Frame.ite2 | apply Frame.foldl | apply Frame.foldl2 | apply Frame.takeThread | apply Frame.merge | apply Frame.refuse | apply Frame.stale | apply Frame.askQuad | apply Frame.begin | apply Frame.wait | apply h0 | apply Frame.id | (fail_if_no_progress beta_reduce) | (fail_if_no_progress dsimp only) | split)

theorem Frame.endLog {o : State} {ps : List Piece} (e : Event) (t : Tb) (s : State) (h0 : State.onlyIn o s ps) (ksch : Piece.sch ∈ ps) (kedges : Piece.edges ∈ ps) :
    State.onlyIn o (State.endLog e t s) ps := by
  unfold Sys2Proof.Machine.State.endLog
  dsimp -failIfUnchanged only
  with_reducible repeat' (first | assumption | (intro _) | apply Frame.ite | apply Frame.ite2 | apply Frame.foldl | apply Frame.foldl2 | apply Frame.setGl | apply Frame.offEvent | apply Frame.modEvent | apply Frame.modeSettle | apply h0 | apply Frame.id | simp only [Frame.mk_iff] | apply Frame.with_edges | (fail_if_no_progress beta_reduce) | (fail_if_no_progress dsimp only) | split)

theorem Frame.timeOutThread {o : State} {ps : List Piece} (b t : Nat) (s : State) (h0 : State.onlyIn o s ps) (kregs : Piece.regs ∈ ps) (khif : Piece.hif ∈ ps) (ksch : Piece.sch ∈ ps) (kbanks : Piece.banks ∈ ps) (kedges : Piece.edges ∈ ps) (kadc : Piece.adc ∈ ps) :
    State.onlyIn o (State.timeOutThread b t s) ps := by
  unfold Sys2Proof.Machine.State.timeOutThread
  dsimp -failIfUnchanged only
  with_reducible repeat' (first | assumption | (intro _) | apply Frame.ite | apply Frame.ite2 | apply Frame.foldl | apply Frame.foldl2 | apply Frame.modStore | apply Frame.gatesLow | apply Frame.releaseToken | apply Frame.closeThreadWins | apply Frame.endEvents | apply Frame.freeThread | apply h0 | (fail_if_no_progress beta_reduce) | (fail_if_no_progress dsimp only) | split)

theorem Frame.timeOutEvent {o : State} {ps : List Piece} (e : Event) (s : State) (h0 : State.onlyIn o s ps) (ksch : Piece.sch ∈ ps) (kink : Piece.ink ∈ ps) :
    State.onlyIn o (State.timeOutEvent e s) ps := by
  unfold Sys2Proof.Machine.State.timeOutEvent
  dsimp -failIfUnchanged only
  with_reducible repeat' (first | assumption | (intro _) | apply Frame.ite | apply Frame.ite2 | apply Frame.foldl | apply Frame.foldl2 | apply Frame.unreserve | apply Frame.modEvent | apply h0 | apply Frame.id | (fail_if_no_progress beta_reduce) | (fail_if_no_progress dsimp only) | split)

theorem Frame.truncThread {o : State} {ps : List Piece} (b t : Nat) (s : State) (h0 : State.onlyIn o s ps) (kregs : Piece.regs ∈ ps) (ksch : Piece.sch ∈ ps) (kbanks : Piece.banks ∈ ps) :
    State.onlyIn o (State.truncThread b t s) ps := by
  unfold Sys2Proof.Machine.State.truncThread
  dsimp -failIfUnchanged only
  with_reducible repeat' (first | assumption | (intro _) | apply Frame.ite | apply Frame.ite2 | apply Frame.foldl | apply Frame.foldl2 | apply Frame.modThread | apply Frame.modStore | apply Frame.count | apply h0 | (fail_if_no_progress beta_reduce) | (fail_if_no_progress dsimp only) | split)

theorem Frame.truncLog {o : State} {ps : List Piece} (n : Nat) (s : State) (h0 : State.onlyIn o s ps) (kregs : Piece.regs ∈ ps) (ksch : Piece.sch ∈ ps) (kedges : Piece.edges ∈ ps) :
    State.onlyIn o (State.truncLog n s) ps := by
  unfold Sys2Proof.Machine.State.truncLog
  dsimp -failIfUnchanged only
  with_reducible repeat' (first | assumption | (intro _) | apply Frame.ite | apply Frame.ite2 | apply Frame.foldl | apply Frame.foldl2 | apply Frame.modEvent | apply Frame.endLog | apply Frame.count | apply h0 | apply Frame.id | (fail_if_no_progress beta_reduce) | (fail_if_no_progress dsimp only) | split)

theorem Frame.truncCover {o : State} {ps : List Piece} (p : Nat → Bool) (b : Nat) (s : State) (h0 : State.onlyIn o s ps) (kregs : Piece.regs ∈ ps) (ksch : Piece.sch ∈ ps) (kbanks : Piece.banks ∈ ps) (kedges : Piece.edges ∈ ps) :
    State.onlyIn o (State.truncCover p b s) ps := by
  unfold Sys2Proof.Machine.State.truncCover
  dsimp -failIfUnchanged only
  with_reducible repeat' (first | assumption | (intro _) | apply Frame.ite | apply Frame.ite2 | apply Frame.foldl | apply Frame.foldl2 | apply Frame.truncThread | apply Frame.truncLog | apply h0 | (fail_if_no_progress beta_reduce) | (fail_if_no_progress dsimp only) | split)

/-! Drive -/

theorem Frame.pullGl {o : State} {ps : List Piece} (n : Nat) (s : State) (h0 : State.onlyIn o s ps) (ksch : Piece.sch ∈ ps) :
    State.onlyIn o (State.pullGl n s) ps := by
  unfold Sys2Proof.Machine.State.pullGl
  dsimp -failIfUnchanged only
  with_reducible repeat' (first | assumption | (intro _) | apply Frame.ite | apply Frame.ite2 | apply Frame.foldl | apply Frame.foldl2 | apply Frame.setGl | apply Frame.offEvent | apply h0 | apply Frame.id | (fail_if_no_progress beta_reduce) | (fail_if_no_progress dsimp only) | split)

theorem Frame.tripEnd {o : State} {ps : List Piece} (n : Nat) (s : State) (h0 : State.onlyIn o s ps) (kregs : Piece.regs ∈ ps) (khif : Piece.hif ∈ ps) (ksch : Piece.sch ∈ ps) (kbanks : Piece.banks ∈ ps) (kedges : Piece.edges ∈ ps) (kadc : Piece.adc ∈ ps) (kcmps : Piece.cmps ∈ ps) :
    State.onlyIn o (State.tripEnd n s) ps := by
  unfold Sys2Proof.Machine.State.tripEnd
  dsimp -failIfUnchanged only
  with_reducible repeat' (first | assumption | (intro _) | apply Frame.ite | apply Frame.ite2 | apply Frame.foldl | apply Frame.foldl2 | apply Frame.killThread | apply Frame.killLog | apply Frame.settleBank | apply h0 | (fail_if_no_progress beta_reduce) | (fail_if_no_progress dsimp only) | split)

theorem Frame.seeLatch {o : State} {ps : List Piece} (u : Latch) (s : State) (h0 : State.onlyIn o s ps) (kregs : Piece.regs ∈ ps) (khif : Piece.hif ∈ ps) (kevc : Piece.evc ∈ ps) (ksch : Piece.sch ∈ ps) (kbanks : Piece.banks ∈ ps) (kedges : Piece.edges ∈ ps) (kgrds : Piece.grds ∈ ps) (kadc : Piece.adc ∈ ps) (kcmps : Piece.cmps ∈ ps) :
    State.onlyIn o (State.seeLatch u s) ps := by
  unfold Sys2Proof.Machine.State.seeLatch
  dsimp -failIfUnchanged only
  with_reducible repeat' (first | assumption | (intro _) | apply Frame.ite | apply Frame.ite2 | apply Frame.foldl | apply Frame.foldl2 | apply Frame.modChan | apply Frame.tripEnd | apply Frame.alarm | apply Frame.raise | apply Frame.modBank | apply Frame.modGrd | apply h0 | (fail_if_no_progress beta_reduce) | (fail_if_no_progress dsimp only) | split)

theorem Frame.boostReg {o : State} {ps : List Piece} (q vbst : Nat) (s : State) (h0 : State.onlyIn o s ps) (kquads : Piece.quads ∈ ps) :
    State.onlyIn o (State.boostReg q vbst s) ps := by
  unfold Sys2Proof.Machine.State.boostReg
  dsimp -failIfUnchanged only
  with_reducible repeat' (first | assumption | (intro _) | apply Frame.ite | apply Frame.ite2 | apply Frame.foldl | apply Frame.foldl2 | apply Frame.modQuad | apply h0 | (fail_if_no_progress beta_reduce) | (fail_if_no_progress dsimp only) | split)

theorem Frame.pulse {o : State} {ps : List Piece} (q vbat : Nat) (s : State) (h0 : State.onlyIn o s ps) (kregs : Piece.regs ∈ ps) (khif : Piece.hif ∈ ps) (kevc : Piece.evc ∈ ps) (kquads : Piece.quads ∈ ps) :
    State.onlyIn o (State.pulse q vbat s) ps := by
  unfold Sys2Proof.Machine.State.pulse
  dsimp -failIfUnchanged only
  with_reducible repeat' (first | assumption | (intro _) | apply Frame.ite | apply Frame.ite2 | apply Frame.foldl | apply Frame.foldl2 | apply Frame.modQuad | apply Frame.count | apply Frame.addSat | apply Frame.putWord | apply Frame.setBoost | apply h0 | (fail_if_no_progress beta_reduce) | (fail_if_no_progress dsimp only) | split)

theorem Frame.displace {o : State} {ps : List Piece} (id : Nat) (s : State) (h0 : State.onlyIn o s ps) (kregs : Piece.regs ∈ ps) (khif : Piece.hif ∈ ps) :
    State.onlyIn o (State.displace id s) ps := by
  unfold Sys2Proof.Machine.State.displace
  dsimp -failIfUnchanged only
  with_reducible repeat' (first | assumption | (intro _) | apply Frame.ite | apply Frame.ite2 | apply Frame.foldl | apply Frame.foldl2 | apply Frame.modRing | apply Frame.lose | apply h0 | apply Frame.id | simp only [Frame.mk_iff] | apply Frame.with_hif | (fail_if_no_progress beta_reduce) | (fail_if_no_progress dsimp only) | split)

theorem Frame.trimUpdate {o : State} {ps : List Piece} (e : Event) (merged : Bool) (s : State) (h0 : State.onlyIn o s ps) (kregs : Piece.regs ∈ ps) (khif : Piece.hif ∈ ps) :
    State.onlyIn o (State.trimUpdate e merged s) ps := by
  unfold Sys2Proof.Machine.State.trimUpdate
  dsimp -failIfUnchanged only
  with_reducible repeat' (first | assumption | (intro _) | apply Frame.ite | apply Frame.ite2 | apply Frame.foldl | apply Frame.foldl2 | apply Frame.set | apply Frame.alarm | apply h0 | (fail_if_no_progress beta_reduce) | (fail_if_no_progress dsimp only) | split)

theorem Frame.needUpdate {o : State} {ps : List Piece} (e : Event) (merged : Bool) (s : State) (h0 : State.onlyIn o s ps) (kregs : Piece.regs ∈ ps) :
    State.onlyIn o (State.needUpdate e merged s) ps := by
  unfold Sys2Proof.Machine.State.needUpdate
  dsimp -failIfUnchanged only
  with_reducible repeat' (first | assumption | (intro _) | apply Frame.ite | apply Frame.ite2 | apply Frame.foldl | apply Frame.foldl2 | apply Frame.learnNeed | apply h0 | (fail_if_no_progress beta_reduce) | (fail_if_no_progress dsimp only) | split)

theorem Frame.afterResult {o : State} {ps : List Piece} (e : Event) (s : State) (h0 : State.onlyIn o s ps) (kregs : Piece.regs ∈ ps) (khif : Piece.hif ∈ ps) (ksch : Piece.sch ∈ ps) (kbanks : Piece.banks ∈ ps) :
    State.onlyIn o (State.afterResult e s) ps := by
  unfold Sys2Proof.Machine.State.afterResult
  dsimp -failIfUnchanged only
  with_reducible repeat' (first | assumption | (intro _) | apply Frame.ite | apply Frame.ite2 | apply Frame.foldl | apply Frame.foldl2 | apply Frame.modEvent | apply Frame.noKink | apply Frame.dropEvent | apply Frame.watchStore | apply h0 | apply Frame.id | (fail_if_no_progress beta_reduce) | (fail_if_no_progress dsimp only) | split)

theorem Frame.writeResult {o : State} {ps : List Piece} (e : Event) (s : State) (h0 : State.onlyIn o s ps) (kregs : Piece.regs ∈ ps) (khif : Piece.hif ∈ ps) (kevc : Piece.evc ∈ ps) (ksch : Piece.sch ∈ ps) (kbanks : Piece.banks ∈ ps) (kquads : Piece.quads ∈ ps) (kink : Piece.ink ∈ ps) :
    State.onlyIn o (State.writeResult e s) ps := by
  unfold Sys2Proof.Machine.State.writeResult
  dsimp -failIfUnchanged only
  with_reducible repeat' (first | assumption | (intro _) | apply Frame.ite | apply Frame.ite2 | apply Frame.foldl | apply Frame.foldl2 | apply Frame.displace | apply Frame.pushResult | apply Frame.dropEvent | apply Frame.watchStore | apply Frame.trimUpdate | apply Frame.unreserve | apply Frame.setBoost | apply Frame.needUpdate | apply Frame.afterResult | apply h0 | apply Frame.id | (fail_if_no_progress beta_reduce) | (fail_if_no_progress dsimp only) | split)

theorem Frame.reconcile {o : State} {ps : List Piece} (q vbst : Nat) (s : State) (h0 : State.onlyIn o s ps) (kregs : Piece.regs ∈ ps) (khif : Piece.hif ∈ ps) (kevc : Piece.evc ∈ ps) (kquads : Piece.quads ∈ ps) :
    State.onlyIn o (State.reconcile q vbst s) ps := by
  unfold Sys2Proof.Machine.State.reconcile
  dsimp -failIfUnchanged only
  with_reducible repeat' (first | assumption | (intro _) | apply Frame.ite | apply Frame.ite2 | apply Frame.foldl | apply Frame.foldl2 | apply Frame.modQuad | apply Frame.putWord | apply Frame.setBoost | apply h0 | (fail_if_no_progress beta_reduce) | (fail_if_no_progress dsimp only) | split)

theorem Frame.subwindow {o : State} {ps : List Piece} (g : Nat) (s : State) (h0 : State.onlyIn o s ps) (kregs : Piece.regs ∈ ps) (khif : Piece.hif ∈ ps) (kevc : Piece.evc ∈ ps) (kink : Piece.ink ∈ ps) :
    State.onlyIn o (State.subwindow g s) ps := by
  unfold Sys2Proof.Machine.State.subwindow
  dsimp -failIfUnchanged only
  with_reducible repeat' (first | assumption | (intro _) | apply Frame.ite | apply Frame.ite2 | apply Frame.foldl | apply Frame.foldl2 | apply Frame.watchRail | apply h0 | simp only [Frame.mk_iff] | apply Frame.with_ink | (fail_if_no_progress beta_reduce) | (fail_if_no_progress dsimp only) | split)

theorem Frame.ptabAccess {o : State} {ps : List Piece} (p : Port) (w : Option Word) (s : State) (h0 : State.onlyIn o s ps) (kregs : Piece.regs ∈ ps) (khif : Piece.hif ∈ ps) (kans : Piece.ans ∈ ps) :
    State.onlyIn o (State.ptabAccess p w s) ps := by
  unfold Sys2Proof.Machine.State.ptabAccess
  dsimp -failIfUnchanged only
  with_reducible repeat' (first | assumption | (intro _) | apply Frame.ite | apply Frame.ite2 | apply Frame.foldl | apply Frame.foldl2 | apply Frame.answer | apply Frame.putBoth | apply Frame.putWord | apply Frame.putShadow | apply Frame.markDirty | apply Frame.deny | apply Frame.set | apply h0 | (fail_if_no_progress beta_reduce) | (fail_if_no_progress dsimp only) | split)

theorem Frame.measure {o : State} {ps : List Piece} (id shunt boost rail : Nat) (s : State) (h0 : State.onlyIn o s ps) (ksch : Piece.sch ∈ ps) :
    State.onlyIn o (State.measure id shunt boost rail s) ps := by
  unfold Sys2Proof.Machine.State.measure
  dsimp -failIfUnchanged only
  with_reducible repeat' (first | assumption | (intro _) | apply Frame.ite | apply Frame.ite2 | apply Frame.foldl | apply Frame.foldl2 | apply Frame.modEvent | apply h0 | apply Frame.id | (fail_if_no_progress beta_reduce) | (fail_if_no_progress dsimp only) | split)

theorem Frame.convert {o : State} {ps : List Piece} (b : Nat) (path : MeasPath) (shunt volt : Nat) (s : State) (h0 : State.onlyIn o s ps) (ksch : Piece.sch ∈ ps) (kbanks : Piece.banks ∈ ps) :
    State.onlyIn o (State.convert b path shunt volt s) ps := by
  unfold Sys2Proof.Machine.State.convert
  dsimp -failIfUnchanged only
  with_reducible repeat' (first | assumption | (intro _) | apply Frame.ite | apply Frame.ite2 | apply Frame.foldl | apply Frame.foldl2 | apply Frame.measure | apply Frame.modThread | apply h0 | (fail_if_no_progress beta_reduce) | (fail_if_no_progress dsimp only) | split)

/-! Tmr -/

theorem Frame.wmSet {o : State} {ps : List Piece} (n : Nat) (m' : WMon) (s : State) (h0 : State.onlyIn o s ps) (kregs : Piece.regs ∈ ps) (kcmps : Piece.cmps ∈ ps) :
    State.onlyIn o (State.wmSet n m' s) ps := by
  unfold Sys2Proof.Machine.State.wmSet
  dsimp -failIfUnchanged only
  with_reducible repeat' (first | assumption | (intro _) | apply Frame.ite | apply Frame.ite2 | apply Frame.foldl | apply Frame.foldl2 | apply Frame.set | apply h0 | simp only [Frame.mk_iff] | apply Frame.with_cmps | (fail_if_no_progress beta_reduce) | (fail_if_no_progress dsimp only) | split)

theorem Frame.crossing {o : State} {ps : List Piece} (c : CmpUnit) (above : Bool) (s : State) (h0 : State.onlyIn o s ps) (kregs : Piece.regs ∈ ps) (kcmps : Piece.cmps ∈ ps) :
    State.onlyIn o (State.crossing c above s) ps := by
  unfold Sys2Proof.Machine.State.crossing
  dsimp -failIfUnchanged only
  with_reducible repeat' (first | assumption | (intro _) | apply Frame.ite | apply Frame.ite2 | apply Frame.foldl | apply Frame.foldl2 | apply Frame.setBit | apply Frame.wmSet | apply h0 | simp only [Frame.mk_iff] | apply Frame.with_cmps | (fail_if_no_progress beta_reduce) | (fail_if_no_progress dsimp only) | split)

theorem Frame.unsettle {o : State} {ps : List Piece} (keep : Nat → Bool) (s : State) (h0 : State.onlyIn o s ps) (kcmps : Piece.cmps ∈ ps) :
    State.onlyIn o (State.unsettle keep s) ps := by
  unfold Sys2Proof.Machine.State.unsettle
  dsimp -failIfUnchanged only
  with_reducible repeat' (first | assumption | (intro _) | apply Frame.ite | apply Frame.ite2 | apply Frame.foldl | apply Frame.foldl2 | apply h0 | simp only [Frame.mk_iff] | apply Frame.with_cmps | (fail_if_no_progress beta_reduce) | (fail_if_no_progress dsimp only) | split)

theorem Frame.tmrStart {o : State} {ps : List Piece} (n : Nat) (s : State) (h0 : State.onlyIn o s ps) (kregs : Piece.regs ∈ ps) (ktmrs : Piece.tmrs ∈ ps) :
    State.onlyIn o (State.tmrStart n s) ps := by
  unfold Sys2Proof.Machine.State.tmrStart
  dsimp -failIfUnchanged only
  with_reducible repeat' (first | assumption | (intro _) | apply Frame.ite | apply Frame.ite2 | apply Frame.foldl | apply Frame.foldl2 | apply Frame.modTmr | apply Frame.count | apply h0 | (fail_if_no_progress beta_reduce) | (fail_if_no_progress dsimp only) | split)

theorem Frame.tmrAuto {o : State} {ps : List Piece} (s : State) (h0 : State.onlyIn o s ps) (kregs : Piece.regs ∈ ps) (ktmrs : Piece.tmrs ∈ ps) :
    State.onlyIn o (State.tmrAuto s) ps := by
  unfold Sys2Proof.Machine.State.tmrAuto
  dsimp -failIfUnchanged only
  with_reducible repeat' (first | assumption | (intro _) | apply Frame.ite | apply Frame.ite2 | apply Frame.foldl | apply Frame.foldl2 | apply Frame.tmrStart | apply h0 | (fail_if_no_progress beta_reduce) | (fail_if_no_progress dsimp only) | split)

theorem Frame.tmrDecideAll {o : State} {ps : List Piece} (c : Nat) (s : State) (h0 : State.onlyIn o s ps) (ktmrs : Piece.tmrs ∈ ps) :
    State.onlyIn o (State.tmrDecideAll c s) ps := by
  unfold Sys2Proof.Machine.State.tmrDecideAll
  dsimp -failIfUnchanged only
  with_reducible repeat' (first | assumption | (intro _) | apply Frame.ite | apply Frame.ite2 | apply Frame.foldl | apply Frame.foldl2 | apply h0 | simp only [Frame.mk_iff] | apply Frame.with_tmrs | (fail_if_no_progress beta_reduce) | (fail_if_no_progress dsimp only) | split)

theorem Frame.tmrEndAll {o : State} {ps : List Piece} (c : Nat) (s : State) (h0 : State.onlyIn o s ps) (ktmrs : Piece.tmrs ∈ ps) :
    State.onlyIn o (State.tmrEndAll c s) ps := by
  unfold Sys2Proof.Machine.State.tmrEndAll
  dsimp -failIfUnchanged only
  with_reducible repeat' (first | assumption | (intro _) | apply Frame.ite | apply Frame.ite2 | apply Frame.foldl | apply Frame.foldl2 | apply h0 | simp only [Frame.mk_iff] | apply Frame.with_tmrs | (fail_if_no_progress beta_reduce) | (fail_if_no_progress dsimp only) | split)

theorem Frame.triggerSlaves {o : State} {ps : List Piece} (n : Nat) (byMatch : Bool) (s : State) (h0 : State.onlyIn o s ps) (ktmrs : Piece.tmrs ∈ ps) :
    State.onlyIn o (State.triggerSlaves n byMatch s) ps := by
  unfold Sys2Proof.Machine.State.triggerSlaves
  dsimp -failIfUnchanged only
  with_reducible repeat' (first | assumption | (intro _) | apply Frame.ite | apply Frame.ite2 | apply Frame.foldl | apply Frame.foldl2 | apply h0 | simp only [Frame.mk_iff] | apply Frame.with_tmrs | (fail_if_no_progress beta_reduce) | (fail_if_no_progress dsimp only) | split)

theorem Frame.tmrActions {o : State} {ps : List Piece} (n act cause : Nat) (late : Bool) (s : State) (h0 : State.onlyIn o s ps) (kregs : Piece.regs ∈ ps) (khif : Piece.hif ∈ ps) (kevc : Piece.evc ∈ ps) (kadc : Piece.adc ∈ ps) :
    State.onlyIn o (State.tmrActions n act cause late s) ps := by
  unfold Sys2Proof.Machine.State.tmrActions
  dsimp -failIfUnchanged only
  with_reducible repeat' (first | assumption | (intro _) | apply Frame.ite | apply Frame.ite2 | apply Frame.foldl | apply Frame.foldl2 | apply Frame.raise | apply Frame.urgent | apply Frame.closeAll | apply Frame.stageTele | apply h0 | (fail_if_no_progress beta_reduce) | (fail_if_no_progress dsimp only) | split)

theorem Frame.tmrReload {o : State} {ps : List Piece} (n : Nat) (s : State) (h0 : State.onlyIn o s ps) (kregs : Piece.regs ∈ ps) (ktmrs : Piece.tmrs ∈ ps) :
    State.onlyIn o (State.tmrReload n s) ps := by
  unfold Sys2Proof.Machine.State.tmrReload
  dsimp -failIfUnchanged only
  with_reducible repeat' (first | assumption | (intro _) | apply Frame.ite | apply Frame.ite2 | apply Frame.foldl | apply Frame.foldl2 | apply Frame.addSat | apply Frame.set | apply Frame.modTmr | apply Frame.count | apply h0 | (fail_if_no_progress beta_reduce) | (fail_if_no_progress dsimp only) | split)

theorem Frame.clearSeen {o : State} {ps : List Piece} (n : Nat) (s : State) (h0 : State.onlyIn o s ps) (kregs : Piece.regs ∈ ps) :
    State.onlyIn o (State.clearSeen n s) ps := by
  unfold Sys2Proof.Machine.State.clearSeen
  dsimp -failIfUnchanged only
  with_reducible repeat' (first | assumption | (intro _) | apply Frame.ite | apply Frame.ite2 | apply Frame.foldl | apply Frame.foldl2 | apply Frame.clrLatch | apply h0 | (fail_if_no_progress beta_reduce) | (fail_if_no_progress dsimp only) | split)

theorem Frame.tmrFire {o : State} {ps : List Piece} (n : Nat) (s : State) (h0 : State.onlyIn o s ps) (kregs : Piece.regs ∈ ps) (khif : Piece.hif ∈ ps) (kevc : Piece.evc ∈ ps) (kadc : Piece.adc ∈ ps) (ktmrs : Piece.tmrs ∈ ps) :
    State.onlyIn o (State.tmrFire n s) ps := by
  unfold Sys2Proof.Machine.State.tmrFire
  dsimp -failIfUnchanged only
  with_reducible repeat' (first | assumption | (intro _) | apply Frame.ite | apply Frame.ite2 | apply Frame.foldl | apply Frame.foldl2 | apply Frame.modTmr | apply Frame.set | apply Frame.triggerSlaves | apply Frame.tmrReload | apply Frame.clearSeen | apply Frame.tmrActions | apply h0 | (fail_if_no_progress beta_reduce) | (fail_if_no_progress dsimp only) | split)

theorem Frame.tmrStartWrite {o : State} {ps : List Piece} (p : Port) (v : Word) (s : State) (h0 : State.onlyIn o s ps) (kregs : Piece.regs ∈ ps) (khif : Piece.hif ∈ ps) (ksec : Piece.sec ∈ ps) (ktmrs : Piece.tmrs ∈ ps) :
    State.onlyIn o (State.tmrStartWrite p v s) ps := by
  unfold Sys2Proof.Machine.State.tmrStartWrite
  dsimp -failIfUnchanged only
  with_reducible repeat' (first | assumption | (intro _) | apply Frame.ite | apply Frame.ite2 | apply Frame.foldl | apply Frame.foldl2 | apply Frame.busWrite | apply Frame.tmrStart | apply h0 | (fail_if_no_progress beta_reduce) | (fail_if_no_progress dsimp only) | split)

theorem Frame.tmrStopWrite {o : State} {ps : List Piece} (p : Port) (v : Word) (s : State) (h0 : State.onlyIn o s ps) (kregs : Piece.regs ∈ ps) (khif : Piece.hif ∈ ps) (ksec : Piece.sec ∈ ps) (ktmrs : Piece.tmrs ∈ ps) :
    State.onlyIn o (State.tmrStopWrite p v s) ps := by
  unfold Sys2Proof.Machine.State.tmrStopWrite
  dsimp -failIfUnchanged only
  with_reducible repeat' (first | assumption | (intro _) | apply Frame.ite | apply Frame.ite2 | apply Frame.foldl | apply Frame.foldl2 | apply Frame.busWrite | apply Frame.modTmr | apply h0 | (fail_if_no_progress beta_reduce) | (fail_if_no_progress dsimp only) | split)

theorem Frame.reloadWrite {o : State} {ps : List Piece} (p : Port) (n : Nat) (v : Word) (s : State) (h0 : State.onlyIn o s ps) (kregs : Piece.regs ∈ ps) (khif : Piece.hif ∈ ps) (ksec : Piece.sec ∈ ps) :
    State.onlyIn o (State.reloadWrite p n v s) ps := by
  unfold Sys2Proof.Machine.State.reloadWrite
  dsimp -failIfUnchanged only
  with_reducible repeat' (first | assumption | (intro _) | apply Frame.ite | apply Frame.ite2 | apply Frame.foldl | apply Frame.foldl2 | apply Frame.busWrite | apply Frame.count | apply Frame.set | apply h0 | (fail_if_no_progress beta_reduce) | (fail_if_no_progress dsimp only) | split)

theorem Frame.cmpWrite {o : State} {ps : List Piece} (p : Port) (n : Nat) (v : Word) (s : State) (h0 : State.onlyIn o s ps) (kregs : Piece.regs ∈ ps) (khif : Piece.hif ∈ ps) (ksec : Piece.sec ∈ ps) (ktmrs : Piece.tmrs ∈ ps) :
    State.onlyIn o (State.cmpWrite p n v s) ps := by
  unfold Sys2Proof.Machine.State.cmpWrite
  dsimp -failIfUnchanged only
  with_reducible repeat' (first | assumption | (intro _) | apply Frame.ite | apply Frame.ite2 | apply Frame.foldl | apply Frame.foldl2 | apply Frame.busWrite | apply Frame.count | apply Frame.modTmr | apply h0 | (fail_if_no_progress beta_reduce) | (fail_if_no_progress dsimp only) | split)

theorem Frame.tmrResume {o : State} {ps : List Piece} (n : Nat) (s : State) (h0 : State.onlyIn o s ps) (kregs : Piece.regs ∈ ps) (ktmrs : Piece.tmrs ∈ ps) :
    State.onlyIn o (State.tmrResume n s) ps := by
  unfold Sys2Proof.Machine.State.tmrResume
  dsimp -failIfUnchanged only
  with_reducible repeat' (first | assumption | (intro _) | apply Frame.ite | apply Frame.ite2 | apply Frame.foldl | apply Frame.foldl2 | apply Frame.modTmr | apply Frame.count | apply h0 | (fail_if_no_progress beta_reduce) | (fail_if_no_progress dsimp only) | split)

theorem Frame.tmrSleep {o : State} {ps : List Piece} (s : State) (h0 : State.onlyIn o s ps) (ktmrs : Piece.tmrs ∈ ps) :
    State.onlyIn o (State.tmrSleep s) ps := by
  unfold Sys2Proof.Machine.State.tmrSleep
  dsimp -failIfUnchanged only
  with_reducible repeat' (first | assumption | (intro _) | apply Frame.ite | apply Frame.ite2 | apply Frame.foldl | apply Frame.foldl2 | apply h0 | simp only [Frame.mk_iff] | apply Frame.with_tmrs | (fail_if_no_progress beta_reduce) | (fail_if_no_progress dsimp only) | split)

theorem Frame.tmrPins {o : State} {ps : List Piece} (s : State) (h0 : State.onlyIn o s ps) (ktmrs : Piece.tmrs ∈ ps) :
    State.onlyIn o (State.tmrPins s) ps := by
  unfold Sys2Proof.Machine.State.tmrPins
  dsimp -failIfUnchanged only
  with_reducible repeat' (first | assumption | (intro _) | apply Frame.ite | apply Frame.ite2 | apply Frame.foldl | apply Frame.foldl2 | apply h0 | simp only [Frame.mk_iff] | apply Frame.with_tmrs | (fail_if_no_progress beta_reduce) | (fail_if_no_progress dsimp only) | split)

/-! Evc -/

theorem Frame.modSrc {o : State} {ps : List Piece} (s : State) (n : Nat) (f : Src → Src) (h0 : State.onlyIn o s ps) (kevc : Piece.evc ∈ ps) :
    State.onlyIn o (State.modSrc s n f) ps := by
  unfold Sys2Proof.Machine.State.modSrc
  dsimp -failIfUnchanged only
  with_reducible repeat' (first | assumption | (intro _) | apply Frame.ite | apply Frame.ite2 | apply Frame.foldl | apply Frame.foldl2 | apply h0 | simp only [Frame.mk_iff] | apply Frame.with_evc | (fail_if_no_progress beta_reduce) | (fail_if_no_progress dsimp only) | split)

theorem Frame.modTgt {o : State} {ps : List Piece} (s : State) (t : Nat) (f : Target → Target) (h0 : State.onlyIn o s ps) (kevc : Piece.evc ∈ ps) :
    State.onlyIn o (State.modTgt s t f) ps := by
  unfold Sys2Proof.Machine.State.modTgt
  dsimp -failIfUnchanged only
  with_reducible repeat' (first | assumption | (intro _) | apply Frame.ite | apply Frame.ite2 | apply Frame.foldl | apply Frame.foldl2 | apply h0 | simp only [Frame.mk_iff] | apply Frame.with_evc | (fail_if_no_progress beta_reduce) | (fail_if_no_progress dsimp only) | split)

theorem Frame.message {o : State} {ps : List Piece} (t : Nat) (s : State) (h0 : State.onlyIn o s ps) (khif : Piece.hif ∈ ps) (kevc : Piece.evc ∈ ps) :
    State.onlyIn o (State.message t s) ps := by
  unfold Sys2Proof.Machine.State.message
  dsimp -failIfUnchanged only
  with_reducible repeat' (first | assumption | (intro _) | apply Frame.ite | apply Frame.ite2 | apply Frame.foldl | apply Frame.foldl2 | apply Frame.modTgt | apply h0 | simp only [Frame.mk_iff] | apply Frame.with_hif | (fail_if_no_progress beta_reduce) | (fail_if_no_progress dsimp only) | split)

theorem Frame.flushMessages {o : State} {ps : List Piece} (s : State) (h0 : State.onlyIn o s ps) (khif : Piece.hif ∈ ps) (kevc : Piece.evc ∈ ps) :
    State.onlyIn o (State.flushMessages s) ps := by
  unfold Sys2Proof.Machine.State.flushMessages
  dsimp -failIfUnchanged only
  with_reducible repeat' (first | assumption | (intro _) | apply Frame.ite | apply Frame.ite2 | apply Frame.foldl | apply Frame.foldl2 | apply Frame.message | apply h0 | (fail_if_no_progress beta_reduce) | (fail_if_no_progress dsimp only) | split)

theorem Frame.groupSettle {o : State} {ps : List Piece} (k : Nat) (s : State) (h0 : State.onlyIn o s ps) (kevc : Piece.evc ∈ ps) :
    State.onlyIn o (State.groupSettle k s) ps := by
  unfold Sys2Proof.Machine.State.groupSettle
  dsimp -failIfUnchanged only
  with_reducible repeat' (first | assumption | (intro _) | apply Frame.ite | apply Frame.ite2 | apply Frame.foldl | apply Frame.foldl2 | apply h0 | simp only [Frame.mk_iff] | apply Frame.with_evc | (fail_if_no_progress beta_reduce) | (fail_if_no_progress dsimp only) | split)

theorem Frame.assign {o : State} {ps : List Piece} (n t : Nat) (s : State) (h0 : State.onlyIn o s ps) (kevc : Piece.evc ∈ ps) :
    State.onlyIn o (State.assign n t s) ps := by
  unfold Sys2Proof.Machine.State.assign
  dsimp -failIfUnchanged only
  with_reducible repeat' (first | assumption | (intro _) | apply Frame.ite | apply Frame.ite2 | apply Frame.foldl | apply Frame.foldl2 | apply Frame.modSrc | apply Frame.modTgt | apply Frame.groupSettle | apply h0 | (fail_if_no_progress beta_reduce) | (fail_if_no_progress dsimp only) | split)

theorem Frame.assignAll {o : State} {ps : List Piece} (s : State) (h0 : State.onlyIn o s ps) (khif : Piece.hif ∈ ps) (kevc : Piece.evc ∈ ps) :
    State.onlyIn o (State.assignAll s) ps := by
  unfold Sys2Proof.Machine.State.assignAll
  dsimp -failIfUnchanged only
  with_reducible repeat' (first | assumption | (intro _) | apply Frame.ite | apply Frame.ite2 | apply Frame.foldl | apply Frame.foldl2 | apply Frame.assign | apply Frame.modTgt | apply Frame.message | apply h0 | (fail_if_no_progress beta_reduce) | (fail_if_no_progress dsimp only) | split)

theorem Frame.giveBack {o : State} {ps : List Piece} (t : Nat) (s : State) (h0 : State.onlyIn o s ps) (kevc : Piece.evc ∈ ps) :
    State.onlyIn o (State.giveBack t s) ps := by
  unfold Sys2Proof.Machine.State.giveBack
  dsimp -failIfUnchanged only
  with_reducible repeat' (first | assumption | (intro _) | apply Frame.ite | apply Frame.ite2 | apply Frame.foldl | apply Frame.foldl2 | apply Frame.modSrc | apply Frame.modTgt | apply h0 | (fail_if_no_progress beta_reduce) | (fail_if_no_progress dsimp only) | split)

theorem Frame.claimed {o : State} {ps : List Piece} (t n : Nat) (s : State) (h0 : State.onlyIn o s ps) (kregs : Piece.regs ∈ ps) (kevc : Piece.evc ∈ ps) :
    State.onlyIn o (State.claimed t n s) ps := by
  unfold Sys2Proof.Machine.State.claimed
  dsimp -failIfUnchanged only
  with_reducible repeat' (first | assumption | (intro _) | apply Frame.ite | apply Frame.ite2 | apply Frame.foldl | apply Frame.foldl2 | apply Frame.modTgt | apply Frame.modSrc | apply Frame.inCycle | apply h0 | (fail_if_no_progress beta_reduce) | (fail_if_no_progress dsimp only) | split)

theorem Frame.claim {o : State} {ps : List Piece} (t n : Nat) (s : State) (h0 : State.onlyIn o s ps) (kregs : Piece.regs ∈ ps) (kevc : Piece.evc ∈ ps) :
    State.onlyIn o (State.claim t n s) ps := by
  unfold Sys2Proof.Machine.State.claim
  dsimp -failIfUnchanged only
  with_reducible repeat' (first | assumption | (intro _) | apply Frame.ite | apply Frame.ite2 | apply Frame.foldl | apply Frame.foldl2 | apply Frame.count | apply Frame.claimed | apply Frame.modSrc | apply h0 | (fail_if_no_progress beta_reduce) | (fail_if_no_progress dsimp only) | split)

theorem Frame.orderFault {o : State} {ps : List Piece} (t n : Nat) (s : State) (h0 : State.onlyIn o s ps) (kregs : Piece.regs ∈ ps) (khif : Piece.hif ∈ ps) (kevc : Piece.evc ∈ ps) :
    State.onlyIn o (State.orderFault t n s) ps := by
  unfold Sys2Proof.Machine.State.orderFault
  dsimp -failIfUnchanged only
  with_reducible repeat' (first | assumption | (intro _) | apply Frame.ite | apply Frame.ite2 | apply Frame.foldl | apply Frame.foldl2 | apply Frame.count | apply Frame.alarm | apply Frame.raise | apply h0 | (fail_if_no_progress beta_reduce) | (fail_if_no_progress dsimp only) | split)

theorem Frame.completed {o : State} {ps : List Piece} (n : Nat) (s : State) (h0 : State.onlyIn o s ps) (kregs : Piece.regs ∈ ps) (kevc : Piece.evc ∈ ps) :
    State.onlyIn o (State.completed n s) ps := by
  unfold Sys2Proof.Machine.State.completed
  dsimp -failIfUnchanged only
  with_reducible repeat' (first | assumption | (intro _) | apply Frame.ite | apply Frame.ite2 | apply Frame.foldl | apply Frame.foldl2 | apply Frame.modSrc | apply Frame.claimed | apply Frame.raise | apply h0 | (fail_if_no_progress beta_reduce) | (fail_if_no_progress dsimp only) | split)

theorem Frame.complete {o : State} {ps : List Piece} (t n : Nat) (s : State) (h0 : State.onlyIn o s ps) (kregs : Piece.regs ∈ ps) (khif : Piece.hif ∈ ps) (kevc : Piece.evc ∈ ps) :
    State.onlyIn o (State.complete t n s) ps := by
  unfold Sys2Proof.Machine.State.complete
  dsimp -failIfUnchanged only
  with_reducible repeat' (first | assumption | (intro _) | apply Frame.ite | apply Frame.ite2 | apply Frame.foldl | apply Frame.foldl2 | apply Frame.modTgt | apply Frame.completed | apply Frame.giveBack | apply Frame.orderFault | apply h0 | (fail_if_no_progress beta_reduce) | (fail_if_no_progress dsimp only) | split)

theorem Frame.releaseTgt {o : State} {ps : List Piece} (t : Nat) (s : State) (h0 : State.onlyIn o s ps) (kregs : Piece.regs ∈ ps) (kevc : Piece.evc ∈ ps) :
    State.onlyIn o (State.releaseTgt t s) ps := by
  unfold Sys2Proof.Machine.State.releaseTgt
  dsimp -failIfUnchanged only
  with_reducible repeat' (first | assumption | (intro _) | apply Frame.ite | apply Frame.ite2 | apply Frame.foldl | apply Frame.foldl2 | apply Frame.giveBack | apply Frame.count | apply h0 | (fail_if_no_progress beta_reduce) | (fail_if_no_progress dsimp only) | split)

theorem Frame.sourceGone {o : State} {ps : List Piece} (n : Nat) (s : State) (h0 : State.onlyIn o s ps) (kregs : Piece.regs ∈ ps) (kevc : Piece.evc ∈ ps) :
    State.onlyIn o (State.sourceGone n s) ps := by
  unfold Sys2Proof.Machine.State.sourceGone
  dsimp -failIfUnchanged only
  with_reducible repeat' (first | assumption | (intro _) | apply Frame.ite | apply Frame.ite2 | apply Frame.foldl | apply Frame.foldl2 | apply Frame.modSrc | apply Frame.claimed | apply Frame.groupSettle | apply h0 | simp only [Frame.mk_iff] | apply Frame.with_evc | (fail_if_no_progress beta_reduce) | (fail_if_no_progress dsimp only) | split)

theorem Frame.noteLeft {o : State} {ps : List Piece} (n : Nat) (s : State) (h0 : State.onlyIn o s ps) (kregs : Piece.regs ∈ ps) :
    State.onlyIn o (State.noteLeft n s) ps := by
  unfold Sys2Proof.Machine.State.noteLeft
  dsimp -failIfUnchanged only
  with_reducible repeat' (first | assumption | (intro _) | apply Frame.ite | apply Frame.ite2 | apply Frame.foldl | apply Frame.foldl2 | apply Frame.inCycle | apply h0 | (fail_if_no_progress beta_reduce) | (fail_if_no_progress dsimp only) | split)

theorem Frame.deassert {o : State} {ps : List Piece} (n : Nat) (s : State) (h0 : State.onlyIn o s ps) (kregs : Piece.regs ∈ ps) (kevc : Piece.evc ∈ ps) :
    State.onlyIn o (State.deassert n s) ps := by
  unfold Sys2Proof.Machine.State.deassert
  dsimp -failIfUnchanged only
  with_reducible repeat' (first | assumption | (intro _) | apply Frame.ite | apply Frame.ite2 | apply Frame.foldl | apply Frame.foldl2 | apply Frame.claimed | apply Frame.modSrc | apply Frame.count | apply Frame.noteLeft | apply Frame.sourceGone | apply h0 | (fail_if_no_progress beta_reduce) | (fail_if_no_progress dsimp only) | split)

theorem Frame.extEdge {o : State} {ps : List Piece} (n : Nat) (high : Bool) (s : State) (h0 : State.onlyIn o s ps) (kregs : Piece.regs ∈ ps) (kevc : Piece.evc ∈ ps) :
    State.onlyIn o (State.extEdge n high s) ps := by
  unfold Sys2Proof.Machine.State.extEdge
  dsimp -failIfUnchanged only
  with_reducible repeat' (first | assumption | (intro _) | apply Frame.ite | apply Frame.ite2 | apply Frame.foldl | apply Frame.foldl2 | apply Frame.raise | apply Frame.claimed | apply Frame.deassert | apply h0 | simp only [Frame.mk_iff] | apply Frame.with_evc | (fail_if_no_progress beta_reduce) | (fail_if_no_progress dsimp only) | split)

theorem Frame.levelSettle {o : State} {ps : List Piece} (n : Nat) (s : State) (h0 : State.onlyIn o s ps) (kregs : Piece.regs ∈ ps) (kevc : Piece.evc ∈ ps) :
    State.onlyIn o (State.levelSettle n s) ps := by
  unfold Sys2Proof.Machine.State.levelSettle
  dsimp -failIfUnchanged only
  with_reducible repeat' (first | assumption | (intro _) | apply Frame.ite | apply Frame.ite2 | apply Frame.foldl | apply Frame.foldl2 | apply Frame.claimed | apply Frame.raise | apply Frame.deassert | apply h0 | (fail_if_no_progress beta_reduce) | (fail_if_no_progress dsimp only) | split)

theorem Frame.levelsSettle {o : State} {ps : List Piece} (s : State) (h0 : State.onlyIn o s ps) (kregs : Piece.regs ∈ ps) (kevc : Piece.evc ∈ ps) :
    State.onlyIn o (State.levelsSettle s) ps := by
  unfold Sys2Proof.Machine.State.levelsSettle
  dsimp -failIfUnchanged only
  with_reducible repeat' (first | assumption | (intro _) | apply Frame.ite | apply Frame.ite2 | apply Frame.foldl | apply Frame.foldl2 | apply Frame.levelSettle | apply h0 | (fail_if_no_progress beta_reduce) | (fail_if_no_progress dsimp only) | split)

theorem Frame.clearPend {o : State} {ps : List Piece} (n : Nat) (s : State) (h0 : State.onlyIn o s ps) (kregs : Piece.regs ∈ ps) (kevc : Piece.evc ∈ ps) :
    State.onlyIn o (State.clearPend n s) ps := by
  unfold Sys2Proof.Machine.State.clearPend
  dsimp -failIfUnchanged only
  with_reducible repeat' (first | assumption | (intro _) | apply Frame.ite | apply Frame.ite2 | apply Frame.foldl | apply Frame.foldl2 | apply Frame.claimed | apply Frame.modSrc | apply Frame.groupSettle | apply h0 | (fail_if_no_progress beta_reduce) | (fail_if_no_progress dsimp only) | split)

theorem Frame.evcSleep {o : State} {ps : List Piece} (s : State) (h0 : State.onlyIn o s ps) (kevc : Piece.evc ∈ ps) :
    State.onlyIn o (State.evcSleep s) ps := by
  unfold Sys2Proof.Machine.State.evcSleep
  dsimp -failIfUnchanged only
  with_reducible repeat' (first | assumption | (intro _) | apply Frame.ite | apply Frame.ite2 | apply Frame.foldl | apply Frame.foldl2 | apply h0 | simp only [Frame.mk_iff] | apply Frame.with_evc | (fail_if_no_progress beta_reduce) | (fail_if_no_progress dsimp only) | split)

/-! Journal -/

theorem Frame.jWatch {o : State} {ps : List Piece} (s : State) (h0 : State.onlyIn o s ps) (kregs : Piece.regs ∈ ps) (khif : Piece.hif ∈ ps) (ksec : Piece.sec ∈ ps) :
    State.onlyIn o (State.jWatch s) ps := by
  unfold Sys2Proof.Machine.State.jWatch
  dsimp -failIfUnchanged only
  with_reducible repeat' (first | assumption | (intro _) | apply Frame.ite | apply Frame.ite2 | apply Frame.foldl | apply Frame.foldl2 | apply Frame.alarm | apply h0 | simp only [Frame.mk_iff] | apply Frame.with_sec | (fail_if_no_progress beta_reduce) | (fail_if_no_progress dsimp only) | split)

theorem Frame.journal {o : State} {ps : List Piece} (a : Act) (s : State) (h0 : State.onlyIn o s ps) (kregs : Piece.regs ∈ ps) (khif : Piece.hif ∈ ps) (ksec : Piece.sec ∈ ps) :
    State.onlyIn o (State.journal a s) ps := by
  unfold Sys2Proof.Machine.State.journal
  dsimp -failIfUnchanged only
  with_reducible repeat' (first | assumption | (intro _) | apply Frame.ite | apply Frame.ite2 | apply Frame.foldl | apply Frame.foldl2 | apply Frame.jWatch | apply Frame.count | apply h0 | simp only [Frame.mk_iff] | apply Frame.with_sec | (fail_if_no_progress beta_reduce) | (fail_if_no_progress dsimp only) | split)

/-! Grd -/

theorem Frame.setLast {o : State} {ps : List Piece} (g cond entry act : Nat) (cmd : Bool) (s : State) (h0 : State.onlyIn o s ps) (kregs : Piece.regs ∈ ps) :
    State.onlyIn o (State.setLast g cond entry act cmd s) ps := by
  unfold Sys2Proof.Machine.State.setLast
  dsimp -failIfUnchanged only
  with_reducible repeat' (first | assumption | (intro _) | apply Frame.ite | apply Frame.ite2 | apply Frame.foldl | apply Frame.foldl2 | apply Frame.putWord | apply h0 | (fail_if_no_progress beta_reduce) | (fail_if_no_progress dsimp only) | split)

theorem Frame.grdStep {o : State} {ps : List Piece} (g : Nat) (st : GState) (s : State) (h0 : State.onlyIn o s ps) (kregs : Piece.regs ∈ ps) (khif : Piece.hif ∈ ps) (kgrds : Piece.grds ∈ ps) :
    State.onlyIn o (State.grdStep g st s) ps := by
  unfold Sys2Proof.Machine.State.grdStep
  dsimp -failIfUnchanged only
  with_reducible repeat' (first | assumption | (intro _) | apply Frame.ite | apply Frame.ite2 | apply Frame.foldl | apply Frame.foldl2 | apply Frame.modGrd | apply Frame.trace | apply h0 | (fail_if_no_progress beta_reduce) | (fail_if_no_progress dsimp only) | split)

theorem Frame.grdReport {o : State} {ps : List Piece} (g : Nat) (s : State) (h0 : State.onlyIn o s ps) (kregs : Piece.regs ∈ ps) (khif : Piece.hif ∈ ps) (kevc : Piece.evc ∈ ps) :
    State.onlyIn o (State.grdReport g s) ps := by
  unfold Sys2Proof.Machine.State.grdReport
  dsimp -failIfUnchanged only
  with_reducible repeat' (first | assumption | (intro _) | apply Frame.ite | apply Frame.ite2 | apply Frame.foldl | apply Frame.foldl2 | apply Frame.count | apply Frame.alarm | apply Frame.raise | apply h0 | (fail_if_no_progress beta_reduce) | (fail_if_no_progress dsimp only) | split)

theorem Frame.rampStart {o : State} {ps : List Piece} (g : Nat) (s : State) (h0 : State.onlyIn o s ps) (kregs : Piece.regs ∈ ps) (khif : Piece.hif ∈ ps) (kgrds : Piece.grds ∈ ps) :
    State.onlyIn o (State.rampStart g s) ps := by
  unfold Sys2Proof.Machine.State.rampStart
  dsimp -failIfUnchanged only
  with_reducible repeat' (first | assumption | (intro _) | apply Frame.ite | apply Frame.ite2 | apply Frame.foldl | apply Frame.foldl2 | apply Frame.clrLatch | apply Frame.modGrd | apply Frame.grdStep | apply h0 | (fail_if_no_progress beta_reduce) | (fail_if_no_progress dsimp only) | split)

theorem Frame.rampOrPend {o : State} {ps : List Piece} (g : Nat) (s : State) (h0 : State.onlyIn o s ps) (kregs : Piece.regs ∈ ps) (khif : Piece.hif ∈ ps) (kgrds : Piece.grds ∈ ps) :
    State.onlyIn o (State.rampOrPend g s) ps := by
  unfold Sys2Proof.Machine.State.rampOrPend
  dsimp -failIfUnchanged only
  with_reducible repeat' (first | assumption | (intro _) | apply Frame.ite | apply Frame.ite2 | apply Frame.foldl | apply Frame.foldl2 | apply Frame.rampStart | apply Frame.grdStep | apply h0 | (fail_if_no_progress beta_reduce) | (fail_if_no_progress dsimp only) | split)

theorem Frame.clearTrip {o : State} {ps : List Piece} (g : Nat) (s : State) (h0 : State.onlyIn o s ps) (kgrds : Piece.grds ∈ ps) :
    State.onlyIn o (State.clearTrip g s) ps := by
  unfold Sys2Proof.Machine.State.clearTrip
  dsimp -failIfUnchanged only
  with_reducible repeat' (first | assumption | (intro _) | apply Frame.ite | apply Frame.ite2 | apply Frame.foldl | apply Frame.foldl2 | apply Frame.modGrd | apply h0 | (fail_if_no_progress beta_reduce) | (fail_if_no_progress dsimp only) | split)

theorem Frame.grdThreads {o : State} {ps : List Piece} (g : Nat) (s : State) (h0 : State.onlyIn o s ps) (kregs : Piece.regs ∈ ps) (khif : Piece.hif ∈ ps) (ksch : Piece.sch ∈ ps) (kbanks : Piece.banks ∈ ps) (kedges : Piece.edges ∈ ps) (kadc : Piece.adc ∈ ps) (kcmps : Piece.cmps ∈ ps) :
    State.onlyIn o (State.grdThreads g s) ps := by
  unfold Sys2Proof.Machine.State.grdThreads
  dsimp -failIfUnchanged only
  with_reducible repeat' (first | assumption | (intro _) | apply Frame.ite | apply Frame.ite2 | apply Frame.foldl | apply Frame.foldl2 | apply Frame.killBanks | apply Frame.settleBank | apply h0 | (fail_if_no_progress beta_reduce) | (fail_if_no_progress dsimp only) | split)

theorem Frame.grdOffTo {o : State} {ps : List Piece} (g : Nat) (st : GState) (s : State) (h0 : State.onlyIn o s ps) (kregs : Piece.regs ∈ ps) (khif : Piece.hif ∈ ps) (kgrds : Piece.grds ∈ ps) :
    State.onlyIn o (State.grdOffTo g st s) ps := by
  unfold Sys2Proof.Machine.State.grdOffTo
  dsimp -failIfUnchanged only
  with_reducible repeat' (first | assumption | (intro _) | apply Frame.ite | apply Frame.ite2 | apply Frame.foldl | apply Frame.foldl2 | apply Frame.modGrd | apply Frame.grdStep | apply h0 | (fail_if_no_progress beta_reduce) | (fail_if_no_progress dsimp only) | split)

theorem Frame.retry {o : State} {ps : List Piece} (g : Nat) (s : State) (h0 : State.onlyIn o s ps) (kregs : Piece.regs ∈ ps) (khif : Piece.hif ∈ ps) (kgrds : Piece.grds ∈ ps) :
    State.onlyIn o (State.retry g s) ps := by
  unfold Sys2Proof.Machine.State.retry
  dsimp -failIfUnchanged only
  with_reducible repeat' (first | assumption | (intro _) | apply Frame.ite | apply Frame.ite2 | apply Frame.foldl | apply Frame.foldl2 | apply Frame.modGrd | apply Frame.grdOffTo | apply h0 | (fail_if_no_progress beta_reduce) | (fail_if_no_progress dsimp only) | split)

theorem Frame.ruleAct {o : State} {ps : List Piece} (g cond e act : Nat) (s : State) (h0 : State.onlyIn o s ps) (kregs : Piece.regs ∈ ps) (khif : Piece.hif ∈ ps) (kevc : Piece.evc ∈ ps) (ksch : Piece.sch ∈ ps) (kbanks : Piece.banks ∈ ps) (kedges : Piece.edges ∈ ps) (kgrds : Piece.grds ∈ ps) (kadc : Piece.adc ∈ ps) (kcmps : Piece.cmps ∈ ps) :
    State.onlyIn o (State.ruleAct g cond e act s) ps := by
  unfold Sys2Proof.Machine.State.ruleAct
  dsimp -failIfUnchanged only
  with_reducible repeat' (first | assumption | (intro _) | apply Frame.ite | apply Frame.ite2 | apply Frame.foldl | apply Frame.foldl2 | apply Frame.inCycle | apply Frame.modGrd | apply Frame.setLast | apply Frame.grdOffTo | apply Frame.grdStep | apply Frame.retry | apply Frame.grdThreads | apply Frame.grdReport | apply h0 | (fail_if_no_progress beta_reduce) | (fail_if_no_progress dsimp only) | split)

theorem Frame.limitEnds {o : State} {ps : List Piece} (g : Nat) (p q : Nat → Bool) (s : State) (h0 : State.onlyIn o s ps) (kregs : Piece.regs ∈ ps) (khif : Piece.hif ∈ ps) (kgrds : Piece.grds ∈ ps) :
    State.onlyIn o (State.limitEnds g p q s) ps := by
  unfold Sys2Proof.Machine.State.limitEnds
  dsimp -failIfUnchanged only
  with_reducible repeat' (first | assumption | (intro _) | apply Frame.ite | apply Frame.ite2 | apply Frame.foldl | apply Frame.foldl2 | apply Frame.modGrd | apply Frame.grdStep | apply h0 | (fail_if_no_progress beta_reduce) | (fail_if_no_progress dsimp only) | split)

theorem Frame.actStrongest {o : State} {ps : List Piece} (g : Nat) (es : List Nat) (s : State) (h0 : State.onlyIn o s ps) (kregs : Piece.regs ∈ ps) (khif : Piece.hif ∈ ps) (kevc : Piece.evc ∈ ps) (ksch : Piece.sch ∈ ps) (kbanks : Piece.banks ∈ ps) (kedges : Piece.edges ∈ ps) (kgrds : Piece.grds ∈ ps) (kadc : Piece.adc ∈ ps) (kcmps : Piece.cmps ∈ ps) :
    State.onlyIn o (State.actStrongest g es s) ps := by
  unfold Sys2Proof.Machine.State.actStrongest
  dsimp -failIfUnchanged only
  with_reducible repeat' (first | assumption | (intro _) | apply Frame.ite | apply Frame.ite2 | apply Frame.foldl | apply Frame.foldl2 | apply Frame.modGrd | apply Frame.ruleAct | apply h0 | (fail_if_no_progress beta_reduce) | (fail_if_no_progress dsimp only) | split)

theorem Frame.evaluate {o : State} {ps : List Piece} (g n : Nat) (p q : Nat → Bool) (s : State) (h0 : State.onlyIn o s ps) (kregs : Piece.regs ∈ ps) (khif : Piece.hif ∈ ps) (kevc : Piece.evc ∈ ps) (ksch : Piece.sch ∈ ps) (kbanks : Piece.banks ∈ ps) (kedges : Piece.edges ∈ ps) (kgrds : Piece.grds ∈ ps) (kadc : Piece.adc ∈ ps) (kcmps : Piece.cmps ∈ ps) :
    State.onlyIn o (State.evaluate g n p q s) ps := by
  unfold Sys2Proof.Machine.State.evaluate
  dsimp -failIfUnchanged only
  with_reducible repeat' (first | assumption | (intro _) | apply Frame.ite | apply Frame.ite2 | apply Frame.foldl | apply Frame.foldl2 | apply Frame.modGrd | apply Frame.limitEnds | apply Frame.actStrongest | apply h0 | (fail_if_no_progress beta_reduce) | (fail_if_no_progress dsimp only) | split)

theorem Frame.eventRule {o : State} {ps : List Piece} (g cond n : Nat) (s : State) (h0 : State.onlyIn o s ps) (kregs : Piece.regs ∈ ps) (khif : Piece.hif ∈ ps) (kevc : Piece.evc ∈ ps) (ksch : Piece.sch ∈ ps) (kbanks : Piece.banks ∈ ps) (kedges : Piece.edges ∈ ps) (kgrds : Piece.grds ∈ ps) (kadc : Piece.adc ∈ ps) (kcmps : Piece.cmps ∈ ps) :
    State.onlyIn o (State.eventRule g cond n s) ps := by
  unfold Sys2Proof.Machine.State.eventRule
  dsimp -failIfUnchanged only
  with_reducible repeat' (first | assumption | (intro _) | apply Frame.ite | apply Frame.ite2 | apply Frame.foldl | apply Frame.foldl2 | apply Frame.actStrongest | apply h0 | (fail_if_no_progress beta_reduce) | (fail_if_no_progress dsimp only) | split)

theorem Frame.meterEnergy {o : State} {ps : List Piece} (g : Nat) (code : Int) (num den : Nat) (s : State) (h0 : State.onlyIn o s ps) (kregs : Piece.regs ∈ ps) (khif : Piece.hif ∈ ps) (kevc : Piece.evc ∈ ps) (kquads : Piece.quads ∈ ps) (kink : Piece.ink ∈ ps) (kgrds : Piece.grds ∈ ps) :
    State.onlyIn o (State.meterEnergy g code num den s) ps := by
  unfold Sys2Proof.Machine.State.meterEnergy
  dsimp -failIfUnchanged only
  with_reducible repeat' (first | assumption | (intro _) | apply Frame.ite | apply Frame.ite2 | apply Frame.foldl | apply Frame.foldl2 | apply Frame.modGrd | apply Frame.setBoost | apply h0 | simp only [Frame.mk_iff] | apply Frame.with_ink | (fail_if_no_progress beta_reduce) | (fail_if_no_progress dsimp only) | split)

theorem Frame.watchGood {o : State} {ps : List Piece} (g : Nat) (s : State) (h0 : State.onlyIn o s ps) (kgrds : Piece.grds ∈ ps) :
    State.onlyIn o (State.watchGood g s) ps := by
  unfold Sys2Proof.Machine.State.watchGood
  dsimp -failIfUnchanged only
  with_reducible repeat' (first | assumption | (intro _) | apply Frame.ite | apply Frame.ite2 | apply Frame.foldl | apply Frame.foldl2 | apply Frame.modGrd | apply h0 | (fail_if_no_progress beta_reduce) | (fail_if_no_progress dsimp only) | split)

theorem Frame.afterSample {o : State} {ps : List Piece} (g : Nat) (s : State) (h0 : State.onlyIn o s ps) (kregs : Piece.regs ∈ ps) (khif : Piece.hif ∈ ps) (kevc : Piece.evc ∈ ps) (ksch : Piece.sch ∈ ps) (kbanks : Piece.banks ∈ ps) (kedges : Piece.edges ∈ ps) (kgrds : Piece.grds ∈ ps) (kadc : Piece.adc ∈ ps) (kcmps : Piece.cmps ∈ ps) :
    State.onlyIn o (State.afterSample g s) ps := by
  unfold Sys2Proof.Machine.State.afterSample
  dsimp -failIfUnchanged only
  with_reducible repeat' (first | assumption | (intro _) | apply Frame.ite | apply Frame.ite2 | apply Frame.foldl | apply Frame.foldl2 | apply Frame.modGrd | apply Frame.grdStep | apply Frame.evaluate | apply Frame.watchGood | apply h0 | (fail_if_no_progress beta_reduce) | (fail_if_no_progress dsimp only) | split)

theorem Frame.meterSample {o : State} {ps : List Piece} (g : Nat) (code : Int) (volt : Nat) (s : State) (h0 : State.onlyIn o s ps) (kregs : Piece.regs ∈ ps) (khif : Piece.hif ∈ ps) (kevc : Piece.evc ∈ ps) (ksch : Piece.sch ∈ ps) (kbanks : Piece.banks ∈ ps) (kquads : Piece.quads ∈ ps) (kedges : Piece.edges ∈ ps) (kink : Piece.ink ∈ ps) (kgrds : Piece.grds ∈ ps) (kadc : Piece.adc ∈ ps) (kcmps : Piece.cmps ∈ ps) :
    State.onlyIn o (State.meterSample g code volt s) ps := by
  unfold Sys2Proof.Machine.State.meterSample
  dsimp -failIfUnchanged only
  with_reducible repeat' (first | assumption | (intro _) | apply Frame.ite | apply Frame.ite2 | apply Frame.foldl | apply Frame.foldl2 | apply Frame.modGrd | apply Frame.meterEnergy | apply Frame.afterSample | apply h0 | (fail_if_no_progress beta_reduce) | (fail_if_no_progress dsimp only) | split)

theorem Frame.vigilSample {o : State} {ps : List Piece} (g : Nat) (code : Int) (vout vin : Nat) (s : State) (h0 : State.onlyIn o s ps) (kregs : Piece.regs ∈ ps) (khif : Piece.hif ∈ ps) (kevc : Piece.evc ∈ ps) (ksch : Piece.sch ∈ ps) (kbanks : Piece.banks ∈ ps) (kquads : Piece.quads ∈ ps) (kedges : Piece.edges ∈ ps) (kink : Piece.ink ∈ ps) (kgrds : Piece.grds ∈ ps) (kadc : Piece.adc ∈ ps) (kcmps : Piece.cmps ∈ ps) :
    State.onlyIn o (State.vigilSample g code vout vin s) ps := by
  unfold Sys2Proof.Machine.State.vigilSample
  dsimp -failIfUnchanged only
  with_reducible repeat' (first | assumption | (intro _) | apply Frame.ite | apply Frame.ite2 | apply Frame.foldl | apply Frame.foldl2 | apply Frame.modGrd | apply Frame.meterEnergy | apply Frame.afterSample | apply h0 | (fail_if_no_progress beta_reduce) | (fail_if_no_progress dsimp only) | split)

theorem Frame.fastTrip {o : State} {ps : List Piece} (g : Nat) (s : State) (h0 : State.onlyIn o s ps) (kregs : Piece.regs ∈ ps) (khif : Piece.hif ∈ ps) (kevc : Piece.evc ∈ ps) (ksch : Piece.sch ∈ ps) (kbanks : Piece.banks ∈ ps) (kedges : Piece.edges ∈ ps) (kgrds : Piece.grds ∈ ps) (kadc : Piece.adc ∈ ps) (kcmps : Piece.cmps ∈ ps) :
    State.onlyIn o (State.fastTrip g s) ps := by
  unfold Sys2Proof.Machine.State.fastTrip
  dsimp -failIfUnchanged only
  with_reducible repeat' (first | assumption | (intro _) | apply Frame.ite | apply Frame.ite2 | apply Frame.foldl | apply Frame.foldl2 | apply Frame.modGrd | apply Frame.ruleAct | apply Frame.eventRule | apply h0 | (fail_if_no_progress beta_reduce) | (fail_if_no_progress dsimp only) | split)

theorem Frame.retryRamp {o : State} {ps : List Piece} (g : Nat) (s : State) (h0 : State.onlyIn o s ps) (kregs : Piece.regs ∈ ps) (khif : Piece.hif ∈ ps) (kgrds : Piece.grds ∈ ps) :
    State.onlyIn o (State.retryRamp g s) ps := by
  unfold Sys2Proof.Machine.State.retryRamp
  dsimp -failIfUnchanged only
  with_reducible repeat' (first | assumption | (intro _) | apply Frame.ite | apply Frame.ite2 | apply Frame.foldl | apply Frame.foldl2 | apply Frame.clearTrip | apply Frame.rampStart | apply h0 | (fail_if_no_progress beta_reduce) | (fail_if_no_progress dsimp only) | split)

theorem Frame.grdOnFromOff {o : State} {ps : List Piece} (g : Nat) (s : State) (h0 : State.onlyIn o s ps) (kregs : Piece.regs ∈ ps) (khif : Piece.hif ∈ ps) (kgrds : Piece.grds ∈ ps) :
    State.onlyIn o (State.grdOnFromOff g s) ps := by
  unfold Sys2Proof.Machine.State.grdOnFromOff
  dsimp -failIfUnchanged only
  with_reducible repeat' (first | assumption | (intro _) | apply Frame.ite | apply Frame.ite2 | apply Frame.foldl | apply Frame.foldl2 | apply Frame.clearTrip | apply Frame.grdStep | apply Frame.rampOrPend | apply h0 | (fail_if_no_progress beta_reduce) | (fail_if_no_progress dsimp only) | split)

theorem Frame.grdClearAct {o : State} {ps : List Piece} (g role port : Nat) (s : State) (h0 : State.onlyIn o s ps) (kregs : Piece.regs ∈ ps) (khif : Piece.hif ∈ ps) (ksec : Piece.sec ∈ ps) (kgrds : Piece.grds ∈ ps) :
    State.onlyIn o (State.grdClearAct g role port s) ps := by
  unfold Sys2Proof.Machine.State.grdClearAct
  dsimp -failIfUnchanged only
  with_reducible repeat' (first | assumption | (intro _) | apply Frame.ite | apply Frame.ite2 | apply Frame.foldl | apply Frame.foldl2 | apply Frame.setLast | apply Frame.clearTrip | apply Frame.modGrd | apply Frame.grdOffTo | apply Frame.journal | apply h0 | (fail_if_no_progress beta_reduce) | (fail_if_no_progress dsimp only) | split)

theorem Frame.noteGrd {o : State} {ps : List Piece} (g : Nat) (s : State) (h0 : State.onlyIn o s ps) (kregs : Piece.regs ∈ ps) :
    State.onlyIn o (State.noteGrd g s) ps := by
  unfold Sys2Proof.Machine.State.noteGrd
  dsimp -failIfUnchanged only
  with_reducible repeat' (first | assumption | (intro _) | apply Frame.ite | apply Frame.ite2 | apply Frame.foldl | apply Frame.foldl2 | apply Frame.inCycle | apply h0 | (fail_if_no_progress beta_reduce) | (fail_if_no_progress dsimp only) | split)

theorem Frame.grdOnAct {o : State} {ps : List Piece} (g role port : Nat) (s : State) (h0 : State.onlyIn o s ps) (kregs : Piece.regs ∈ ps) (khif : Piece.hif ∈ ps) (ksec : Piece.sec ∈ ps) (kgrds : Piece.grds ∈ ps) :
    State.onlyIn o (State.grdOnAct g role port s) ps := by
  unfold Sys2Proof.Machine.State.grdOnAct
  dsimp -failIfUnchanged only
  with_reducible repeat' (first | assumption | (intro _) | apply Frame.ite | apply Frame.ite2 | apply Frame.foldl | apply Frame.foldl2 | apply Frame.noteGrd | apply Frame.setLast | apply Frame.grdOnFromOff | apply Frame.clearTrip | apply Frame.rampOrPend | apply Frame.grdClearAct | apply h0 | (fail_if_no_progress beta_reduce) | (fail_if_no_progress dsimp only) | split)

theorem Frame.grdOffAct {o : State} {ps : List Piece} (g : Nat) (s : State) (h0 : State.onlyIn o s ps) (kregs : Piece.regs ∈ ps) (khif : Piece.hif ∈ ps) (kgrds : Piece.grds ∈ ps) :
    State.onlyIn o (State.grdOffAct g s) ps := by
  unfold Sys2Proof.Machine.State.grdOffAct
  dsimp -failIfUnchanged only
  with_reducible repeat' (first | assumption | (intro _) | apply Frame.ite | apply Frame.ite2 | apply Frame.foldl | apply Frame.foldl2 | apply Frame.noteGrd | apply Frame.setLast | apply Frame.modGrd | apply Frame.grdOffTo | apply h0 | (fail_if_no_progress beta_reduce) | (fail_if_no_progress dsimp only) | split)

theorem Frame.grdCtrlWrite {o : State} {ps : List Piece} (p : Port) (g : Nat) (v : Word) (s : State) (h0 : State.onlyIn o s ps) (kregs : Piece.regs ∈ ps) (khif : Piece.hif ∈ ps) (ksec : Piece.sec ∈ ps) (kgrds : Piece.grds ∈ ps) :
    State.onlyIn o (State.grdCtrlWrite p g v s) ps := by
  unfold Sys2Proof.Machine.State.grdCtrlWrite
  dsimp -failIfUnchanged only
  with_reducible repeat' (first | assumption | (intro _) | apply Frame.ite | apply Frame.ite2 | apply Frame.foldl | apply Frame.foldl2 | apply Frame.busWrite | apply Frame.grdOnAct | apply Frame.grdOffAct | apply Frame.grdClearAct | apply Frame.deny | apply h0 | (fail_if_no_progress beta_reduce) | (fail_if_no_progress dsimp only) | split)

theorem Frame.grdLimitAct {o : State} {ps : List Piece} (g ft ilim : Nat) (s : State) (h0 : State.onlyIn o s ps) (kregs : Piece.regs ∈ ps) (khif : Piece.hif ∈ ps) (ksec : Piece.sec ∈ ps) (kgrds : Piece.grds ∈ ps) :
    State.onlyIn o (State.grdLimitAct g ft ilim s).2 ps := by
  unfold Sys2Proof.Machine.State.grdLimitAct
  dsimp -failIfUnchanged only
  with_reducible repeat' (first | assumption | (intro _) | apply Frame.ite | apply Frame.ite2 | apply Frame.foldl | apply Frame.foldl2 | apply Frame.modGrd | apply Frame.journal | apply h0 | (fail_if_no_progress beta_reduce) | (fail_if_no_progress dsimp only) | split)

theorem Frame.grdLive {o : State} {ps : List Piece} (s : State) (h0 : State.onlyIn o s ps) (kgrds : Piece.grds ∈ ps) :
    State.onlyIn o (State.grdLive s) ps := by
  unfold Sys2Proof.Machine.State.grdLive
  dsimp -failIfUnchanged only
  with_reducible repeat' (first | assumption | (intro _) | apply Frame.ite | apply Frame.ite2 | apply Frame.foldl | apply Frame.foldl2 | apply h0 | simp only [Frame.mk_iff] | apply Frame.with_grds | (fail_if_no_progress beta_reduce) | (fail_if_no_progress dsimp only) | split)

theorem Frame.energyRead {o : State} {ps : List Piece} (p : Port) (g : Nat) (s : State) (h0 : State.onlyIn o s ps) (ksec : Piece.sec ∈ ps) (kgrds : Piece.grds ∈ ps) (kans : Piece.ans ∈ ps) :
    State.onlyIn o (State.energyRead p g s) ps := by
  unfold Sys2Proof.Machine.State.energyRead
  dsimp -failIfUnchanged only
  with_reducible repeat' (first | assumption | (intro _) | apply Frame.ite | apply Frame.ite2 | apply Frame.foldl | apply Frame.foldl2 | apply Frame.onRead | apply Frame.modGrd | apply Frame.answer | apply h0 | (fail_if_no_progress beta_reduce) | (fail_if_no_progress dsimp only) | split)

theorem Frame.grdEnter {o : State} {ps : List Piece} (s : State) (h0 : State.onlyIn o s ps) (kregs : Piece.regs ∈ ps) (khif : Piece.hif ∈ ps) (kgrds : Piece.grds ∈ ps) :
    State.onlyIn o (State.grdEnter s) ps := by
  unfold Sys2Proof.Machine.State.grdEnter
  dsimp -failIfUnchanged only
  with_reducible repeat' (first | assumption | (intro _) | apply Frame.ite | apply Frame.ite2 | apply Frame.foldl | apply Frame.foldl2 | apply Frame.rampStart | apply Frame.retryRamp | apply h0 | (fail_if_no_progress beta_reduce) | (fail_if_no_progress dsimp only) | split)

theorem Frame.grdSleep {o : State} {ps : List Piece} (s : State) (h0 : State.onlyIn o s ps) (kregs : Piece.regs ∈ ps) (khif : Piece.hif ∈ ps) (kgrds : Piece.grds ∈ ps) :
    State.onlyIn o (State.grdSleep s) ps := by
  unfold Sys2Proof.Machine.State.grdSleep
  dsimp -failIfUnchanged only
  with_reducible repeat' (first | assumption | (intro _) | apply Frame.ite | apply Frame.ite2 | apply Frame.foldl | apply Frame.foldl2 | apply Frame.modGrd | apply Frame.grdOffTo | apply h0 | (fail_if_no_progress beta_reduce) | (fail_if_no_progress dsimp only) | split)

theorem Frame.grdWake {o : State} {ps : List Piece} (s : State) (h0 : State.onlyIn o s ps) (kgrds : Piece.grds ∈ ps) :
    State.onlyIn o (State.grdWake s) ps := by
  unfold Sys2Proof.Machine.State.grdWake
  dsimp -failIfUnchanged only
  with_reducible repeat' (first | assumption | (intro _) | apply Frame.ite | apply Frame.ite2 | apply Frame.foldl | apply Frame.foldl2 | apply h0 | simp only [Frame.mk_iff] | apply Frame.with_grds | (fail_if_no_progress beta_reduce) | (fail_if_no_progress dsimp only) | split)

theorem Frame.grdEnables {o : State} {ps : List Piece} (s : State) (h0 : State.onlyIn o s ps) (kregs : Piece.regs ∈ ps) (khif : Piece.hif ∈ ps) (kgrds : Piece.grds ∈ ps) :
    State.onlyIn o (State.grdEnables s) ps := by
  unfold Sys2Proof.Machine.State.grdEnables
  dsimp -failIfUnchanged only
  with_reducible repeat' (first | assumption | (intro _) | apply Frame.ite | apply Frame.ite2 | apply Frame.foldl | apply Frame.foldl2 | apply Frame.grdOffTo | apply h0 | (fail_if_no_progress beta_reduce) | (fail_if_no_progress dsimp only) | split)

/-! SecOps -/

theorem Frame.dropSession {o : State} {ps : List Piece} (s : State) (h0 : State.onlyIn o s ps) (ksec : Piece.sec ∈ ps) :
    State.onlyIn o (State.dropSession s) ps := by
  unfold Sys2Proof.Machine.State.dropSession
  dsimp -failIfUnchanged only
  with_reducible repeat' (first | assumption | (intro _) | apply Frame.ite | apply Frame.ite2 | apply Frame.foldl | apply Frame.foldl2 | apply h0 | simp only [Frame.mk_iff] | apply Frame.with_sec | (fail_if_no_progress beta_reduce) | (fail_if_no_progress dsimp only) | split)

theorem Frame.endSession {o : State} {ps : List Piece} (data : Nat) (s : State) (h0 : State.onlyIn o s ps) (kregs : Piece.regs ∈ ps) (khif : Piece.hif ∈ ps) (ksec : Piece.sec ∈ ps) :
    State.onlyIn o (State.endSession data s) ps := by
  unfold Sys2Proof.Machine.State.endSession
  dsimp -failIfUnchanged only
  with_reducible repeat' (first | assumption | (intro _) | apply Frame.ite | apply Frame.ite2 | apply Frame.foldl | apply Frame.foldl2 | apply Frame.dropSession | apply Frame.journal | apply h0 | (fail_if_no_progress beta_reduce) | (fail_if_no_progress dsimp only) | split)

theorem Frame.endPcieSession {o : State} {ps : List Piece} (s : State) (h0 : State.onlyIn o s ps) (kregs : Piece.regs ∈ ps) (khif : Piece.hif ∈ ps) (ksec : Piece.sec ∈ ps) :
    State.onlyIn o (State.endPcieSession s) ps := by
  unfold Sys2Proof.Machine.State.endPcieSession
  dsimp -failIfUnchanged only
  with_reducible repeat' (first | assumption | (intro _) | apply Frame.ite | apply Frame.ite2 | apply Frame.foldl | apply Frame.foldl2 | apply Frame.endSession | apply h0 | (fail_if_no_progress beta_reduce) | (fail_if_no_progress dsimp only) | split)

theorem Frame.beginBusy {o : State} {ps : List Piece} (op : Nat) (p : Port) (s : State) (h0 : State.onlyIn o s ps) (ksys : Piece.sys ∈ ps) :
    State.onlyIn o (State.beginBusy op p s) ps := by
  unfold Sys2Proof.Machine.State.beginBusy
  dsimp -failIfUnchanged only
  with_reducible repeat' (first | assumption | (intro _) | apply Frame.ite | apply Frame.ite2 | apply Frame.foldl | apply Frame.foldl2 | apply h0 | simp only [Frame.mk_iff] | apply Frame.with_sys | (fail_if_no_progress beta_reduce) | (fail_if_no_progress dsimp only) | split)

theorem Frame.endBusy {o : State} {ps : List Piece} (s : State) (h0 : State.onlyIn o s ps) (ksys : Piece.sys ∈ ps) :
    State.onlyIn o (State.endBusy s) ps := by
  unfold Sys2Proof.Machine.State.endBusy
  dsimp -failIfUnchanged only
  with_reducible repeat' (first | assumption | (intro _) | apply Frame.ite | apply Frame.ite2 | apply Frame.foldl | apply Frame.foldl2 | apply h0 | simp only [Frame.mk_iff] | apply Frame.with_sys | (fail_if_no_progress beta_reduce) | (fail_if_no_progress dsimp only) | split)

/-! Rings -/

theorem Frame.heard {o : State} {ps : List Piece} (s : State) (h0 : State.onlyIn o s ps) (khif : Piece.hif ∈ ps) :
    State.onlyIn o (State.heard s) ps := by
  unfold Sys2Proof.Machine.State.heard
  dsimp -failIfUnchanged only
  with_reducible repeat' (first | assumption | (intro _) | apply Frame.ite | apply Frame.ite2 | apply Frame.foldl | apply Frame.foldl2 | apply h0 | simp only [Frame.mk_iff] | apply Frame.with_hif | (fail_if_no_progress beta_reduce) | (fail_if_no_progress dsimp only) | split)

theorem Frame.stopRing {o : State} {ps : List Piece} (r errc : Nat) (s : State) (h0 : State.onlyIn o s ps) (khif : Piece.hif ∈ ps) :
    State.onlyIn o (State.stopRing r errc s) ps := by
  unfold Sys2Proof.Machine.State.stopRing
  dsimp -failIfUnchanged only
  with_reducible repeat' (first | assumption | (intro _) | apply Frame.ite | apply Frame.ite2 | apply Frame.foldl | apply Frame.foldl2 | apply Frame.modRing | apply h0 | (fail_if_no_progress beta_reduce) | (fail_if_no_progress dsimp only) | split)

theorem Frame.watchCq {o : State} {ps : List Piece} (n : Nat) (s : State) (h0 : State.onlyIn o s ps) (kregs : Piece.regs ∈ ps) (khif : Piece.hif ∈ ps) :
    State.onlyIn o (State.watchCq n s) ps := by
  unfold Sys2Proof.Machine.State.watchCq
  dsimp -failIfUnchanged only
  with_reducible repeat' (first | assumption | (intro _) | apply Frame.ite | apply Frame.ite2 | apply Frame.foldl | apply Frame.foldl2 | apply Frame.alarm | apply h0 | simp only [Frame.mk_iff] | apply Frame.with_hif | (fail_if_no_progress beta_reduce) | (fail_if_no_progress dsimp only) | split)

theorem Frame.watchCqs {o : State} {ps : List Piece} (s : State) (h0 : State.onlyIn o s ps) (kregs : Piece.regs ∈ ps) (khif : Piece.hif ∈ ps) :
    State.onlyIn o (State.watchCqs s) ps := by
  unfold Sys2Proof.Machine.State.watchCqs
  dsimp -failIfUnchanged only
  with_reducible repeat' (first | assumption | (intro _) | apply Frame.ite | apply Frame.ite2 | apply Frame.foldl | apply Frame.foldl2 | apply Frame.watchCq | apply h0 | (fail_if_no_progress beta_reduce) | (fail_if_no_progress dsimp only) | split)

theorem Frame.takeIndex {o : State} {ps : List Piece} (r v : Nat) (s : State) (h0 : State.onlyIn o s ps) (kregs : Piece.regs ∈ ps) (khif : Piece.hif ∈ ps) :
    State.onlyIn o (State.takeIndex r v s) ps := by
  unfold Sys2Proof.Machine.State.takeIndex
  dsimp -failIfUnchanged only
  with_reducible repeat' (first | assumption | (intro _) | apply Frame.ite | apply Frame.ite2 | apply Frame.foldl | apply Frame.foldl2 | apply Frame.modRing | apply Frame.stopRing | apply Frame.alarm | apply h0 | (fail_if_no_progress beta_reduce) | (fail_if_no_progress dsimp only) | split)

theorem Frame.takeLine {o : State} {ps : List Piece} (line : DoorbellLine) (s : State) (h0 : State.onlyIn o s ps) (kregs : Piece.regs ∈ ps) (khif : Piece.hif ∈ ps) :
    State.onlyIn o (State.takeLine line s) ps := by
  unfold Sys2Proof.Machine.State.takeLine
  dsimp -failIfUnchanged only
  with_reducible repeat' (first | assumption | (intro _) | apply Frame.ite | apply Frame.ite2 | apply Frame.foldl | apply Frame.foldl2 | apply Frame.heard | apply Frame.takeIndex | apply Frame.watchCqs | apply h0 | simp only [Frame.mk_iff] | apply Frame.with_hif | (fail_if_no_progress beta_reduce) | (fail_if_no_progress dsimp only) | split)

theorem Frame.ringSource {o : State} {ps : List Piece} (old : StatusView) (r n : Nat) (s : State) (h0 : State.onlyIn o s ps) (kregs : Piece.regs ∈ ps) (kevc : Piece.evc ∈ ps) :
    State.onlyIn o (State.ringSource old r n s) ps := by
  unfold Sys2Proof.Machine.State.ringSource
  dsimp -failIfUnchanged only
  with_reducible repeat' (first | assumption | (intro _) | apply Frame.ite | apply Frame.ite2 | apply Frame.foldl | apply Frame.foldl2 | apply Frame.raise | apply h0 | (fail_if_no_progress beta_reduce) | (fail_if_no_progress dsimp only) | split)

theorem Frame.writeStatus {o : State} {ps : List Piece} (mode : Nat) (s : State) (h0 : State.onlyIn o s ps) (kregs : Piece.regs ∈ ps) (khif : Piece.hif ∈ ps) (kevc : Piece.evc ∈ ps) :
    State.onlyIn o (State.writeStatus mode s) ps := by
  unfold Sys2Proof.Machine.State.writeStatus
  dsimp -failIfUnchanged only
  with_reducible repeat' (first | assumption | (intro _) | apply Frame.ite | apply Frame.ite2 | apply Frame.foldl | apply Frame.foldl2 | apply Frame.raise | apply Frame.ringSource | apply h0 | simp only [Frame.mk_iff] | apply Frame.with_hif | (fail_if_no_progress beta_reduce) | (fail_if_no_progress dsimp only) | split)

theorem Frame.putRecord {o : State} {ps : List Piece} (r : Nat) (words : List Word) (body : Body) (s : State) (h0 : State.onlyIn o s ps) (khif : Piece.hif ∈ ps) :
    State.onlyIn o (State.putRecord r words body s) ps := by
  unfold Sys2Proof.Machine.State.putRecord
  dsimp -failIfUnchanged only
  with_reducible repeat' (first | assumption | (intro _) | apply Frame.ite | apply Frame.ite2 | apply Frame.foldl | apply Frame.foldl2 | apply Frame.modRing | apply h0 | simp only [Frame.mk_iff] | apply Frame.with_hif | (fail_if_no_progress beta_reduce) | (fail_if_no_progress dsimp only) | split)

theorem Frame.setStaging {o : State} {ps : List Piece} (r : Nat) (l : List TeleRec) (s : State) (h0 : State.onlyIn o s ps) (kregs : Piece.regs ∈ ps) (khif : Piece.hif ∈ ps) :
    State.onlyIn o (State.setStaging r l s) ps := by
  unfold Sys2Proof.Machine.State.setStaging
  dsimp -failIfUnchanged only
  with_reducible repeat' (first | assumption | (intro _) | apply Frame.ite | apply Frame.ite2 | apply Frame.foldl | apply Frame.foldl2 | apply Frame.trace | apply h0 | simp only [Frame.mk_iff] | apply Frame.with_hif | (fail_if_no_progress beta_reduce) | (fail_if_no_progress dsimp only) | split)

theorem Frame.writeTele {o : State} {ps : List Piece} (t : TeleRec) (s : State) (h0 : State.onlyIn o s ps) (kregs : Piece.regs ∈ ps) (khif : Piece.hif ∈ ps) :
    State.onlyIn o (State.writeTele t s) ps := by
  unfold Sys2Proof.Machine.State.writeTele
  dsimp -failIfUnchanged only
  with_reducible repeat' (first | assumption | (intro _) | apply Frame.ite | apply Frame.ite2 | apply Frame.foldl | apply Frame.foldl2 | apply Frame.setStaging | apply Frame.putRecord | apply h0 | (fail_if_no_progress beta_reduce) | (fail_if_no_progress dsimp only) | split)

theorem Frame.writeLower {o : State} {ps : List Piece} (s : State) (h0 : State.onlyIn o s ps) (kregs : Piece.regs ∈ ps) (khif : Piece.hif ∈ ps) :
    State.onlyIn o (State.writeLower s) ps := by
  unfold Sys2Proof.Machine.State.writeLower
  dsimp -failIfUnchanged only
  with_reducible repeat' (first | assumption | (intro _) | apply Frame.ite | apply Frame.ite2 | apply Frame.foldl | apply Frame.foldl2 | apply Frame.putRecord | apply Frame.watchCq | apply Frame.writeTele | apply h0 | simp only [Frame.mk_iff] | apply Frame.with_hif | (fail_if_no_progress beta_reduce) | (fail_if_no_progress dsimp only) | split)

theorem Frame.writeRecord {o : State} {ps : List Piece} (s : State) (h0 : State.onlyIn o s ps) (kregs : Piece.regs ∈ ps) (khif : Piece.hif ∈ ps) :
    State.onlyIn o (State.writeRecord s) ps := by
  unfold Sys2Proof.Machine.State.writeRecord
  dsimp -failIfUnchanged only
  with_reducible repeat' (first | assumption | (intro _) | apply Frame.ite | apply Frame.ite2 | apply Frame.foldl | apply Frame.foldl2 | apply Frame.putRecord | apply Frame.alarm | apply Frame.writeLower | apply h0 | simp only [Frame.mk_iff] | apply Frame.with_hif | (fail_if_no_progress beta_reduce) | (fail_if_no_progress dsimp only) | split)

theorem Frame.gapPaid {o : State} {ps : List Piece} (r : Nat) (s : State) (h0 : State.onlyIn o s ps) (kregs : Piece.regs ∈ ps) (khif : Piece.hif ∈ ps) :
    State.onlyIn o (State.gapPaid r s) ps := by
  unfold Sys2Proof.Machine.State.gapPaid
  dsimp -failIfUnchanged only
  with_reducible repeat' (first | assumption | (intro _) | apply Frame.ite | apply Frame.ite2 | apply Frame.foldl | apply Frame.foldl2 | apply Frame.setStaging | apply Frame.modRing | apply h0 | (fail_if_no_progress beta_reduce) | (fail_if_no_progress dsimp only) | split)

theorem Frame.writeGap {o : State} {ps : List Piece} (r : Nat) (s : State) (h0 : State.onlyIn o s ps) (kregs : Piece.regs ∈ ps) (khif : Piece.hif ∈ ps) :
    State.onlyIn o (State.writeGap r s) ps := by
  unfold Sys2Proof.Machine.State.writeGap
  dsimp -failIfUnchanged only
  with_reducible repeat' (first | assumption | (intro _) | apply Frame.ite | apply Frame.ite2 | apply Frame.foldl | apply Frame.foldl2 | apply Frame.gapPaid | apply Frame.putRecord | apply h0 | simp only [Frame.mk_iff] | apply Frame.with_hif | (fail_if_no_progress beta_reduce) | (fail_if_no_progress dsimp only) | split)

theorem Frame.owe {o : State} {ps : List Piece} (r : Nat) (g : Gap) (s : State) (h0 : State.onlyIn o s ps) (khif : Piece.hif ∈ ps) :
    State.onlyIn o (State.owe r g s) ps := by
  unfold Sys2Proof.Machine.State.owe
  dsimp -failIfUnchanged only
  with_reducible repeat' (first | assumption | (intro _) | apply Frame.ite | apply Frame.ite2 | apply Frame.foldl | apply Frame.foldl2 | apply Frame.modRing | apply h0 | (fail_if_no_progress beta_reduce) | (fail_if_no_progress dsimp only) | split)

theorem Frame.loseRec {o : State} {ps : List Piece} (t : TeleRec) (s : State) (h0 : State.onlyIn o s ps) (kregs : Piece.regs ∈ ps) (khif : Piece.hif ∈ ps) :
    State.onlyIn o (State.loseRec t s) ps := by
  unfold Sys2Proof.Machine.State.loseRec
  dsimp -failIfUnchanged only
  with_reducible repeat' (first | assumption | (intro _) | apply Frame.ite | apply Frame.ite2 | apply Frame.foldl | apply Frame.foldl2 | apply Frame.owe | apply Frame.lose | apply h0 | (fail_if_no_progress beta_reduce) | (fail_if_no_progress dsimp only) | split)

theorem Frame.discardStaging {o : State} {ps : List Piece} (s : State) (h0 : State.onlyIn o s ps) (kregs : Piece.regs ∈ ps) (khif : Piece.hif ∈ ps) :
    State.onlyIn o (State.discardStaging s) ps := by
  unfold Sys2Proof.Machine.State.discardStaging
  dsimp -failIfUnchanged only
  with_reducible repeat' (first | assumption | (intro _) | apply Frame.ite | apply Frame.ite2 | apply Frame.foldl | apply Frame.foldl2 | apply Frame.trace | apply Frame.loseRec | apply h0 | simp only [Frame.mk_iff] | apply Frame.with_hif | (fail_if_no_progress beta_reduce) | (fail_if_no_progress dsimp only) | split)

theorem Frame.takeBack {o : State} {ps : List Piece} (x : Tlp) (s : State) (h0 : State.onlyIn o s ps) (kregs : Piece.regs ∈ ps) (khif : Piece.hif ∈ ps) :
    State.onlyIn o (State.takeBack x s) ps := by
  unfold Sys2Proof.Machine.State.takeBack
  dsimp -failIfUnchanged only
  with_reducible repeat' (first | assumption | (intro _) | apply Frame.ite | apply Frame.ite2 | apply Frame.foldl | apply Frame.foldl2 | apply Frame.modRing | apply Frame.alarm | apply Frame.loseRec | apply Frame.owe | apply h0 | simp only [Frame.mk_iff] | apply Frame.with_hif | (fail_if_no_progress beta_reduce) | (fail_if_no_progress dsimp only) | split)

theorem Frame.ringCfg {o : State} {ps : List Piece} (r : Nat) (v : Word) (s : State) (h0 : State.onlyIn o s ps) (kregs : Piece.regs ∈ ps) (khif : Piece.hif ∈ ps) :
    State.onlyIn o (State.ringCfg r v s) ps := by
  unfold Sys2Proof.Machine.State.ringCfg
  dsimp -failIfUnchanged only
  with_reducible repeat' (first | assumption | (intro _) | apply Frame.ite | apply Frame.ite2 | apply Frame.foldl | apply Frame.foldl2 | apply Frame.set | apply Frame.putWord | apply Frame.modRing | apply h0 | (fail_if_no_progress beta_reduce) | (fail_if_no_progress dsimp only) | split)

theorem Frame.ringCfgWrite {o : State} {ps : List Piece} (p : Port) (r : Nat) (v : Word) (s : State) (h0 : State.onlyIn o s ps) (kregs : Piece.regs ∈ ps) (khif : Piece.hif ∈ ps) (ksec : Piece.sec ∈ ps) :
    State.onlyIn o (State.ringCfgWrite p r v s) ps := by
  unfold Sys2Proof.Machine.State.ringCfgWrite
  dsimp -failIfUnchanged only
  with_reducible repeat' (first | assumption | (intro _) | apply Frame.ite | apply Frame.ite2 | apply Frame.foldl | apply Frame.foldl2 | apply Frame.onWrite | apply Frame.ringCfg | apply h0 | (fail_if_no_progress beta_reduce) | (fail_if_no_progress dsimp only) | split)

theorem Frame.engineOn {o : State} {ps : List Piece} (s : State) (h0 : State.onlyIn o s ps) (kregs : Piece.regs ∈ ps) (khif : Piece.hif ∈ ps) :
    State.onlyIn o (State.engineOn s) ps := by
  unfold Sys2Proof.Machine.State.engineOn
  dsimp -failIfUnchanged only
  with_reducible repeat' (first | assumption | (intro _) | apply Frame.ite | apply Frame.ite2 | apply Frame.foldl | apply Frame.foldl2 | apply Frame.discardStaging | apply Frame.set | apply Frame.watchCqs | apply h0 | simp only [Frame.mk_iff] | apply Frame.with_hif | (fail_if_no_progress beta_reduce) | (fail_if_no_progress dsimp only) | split)

theorem Frame.engineCtrl {o : State} {ps : List Piece} (v : Word) (s : State) (h0 : State.onlyIn o s ps) (kregs : Piece.regs ∈ ps) (khif : Piece.hif ∈ ps) :
    State.onlyIn o (State.engineCtrl v s) ps := by
  unfold Sys2Proof.Machine.State.engineCtrl
  dsimp -failIfUnchanged only
  with_reducible repeat' (first | assumption | (intro _) | apply Frame.ite | apply Frame.ite2 | apply Frame.foldl | apply Frame.foldl2 | apply Frame.engineOn | apply Frame.set | apply h0 | (fail_if_no_progress beta_reduce) | (fail_if_no_progress dsimp only) | split)

theorem Frame.markIdle {o : State} {ps : List Piece} (s : State) (h0 : State.onlyIn o s ps) (kclk : Piece.clk ∈ ps) :
    State.onlyIn o (State.markIdle s) ps := by
  unfold Sys2Proof.Machine.State.markIdle
  dsimp -failIfUnchanged only
  with_reducible repeat' (first | assumption | (intro _) | apply Frame.ite | apply Frame.ite2 | apply Frame.foldl | apply Frame.foldl2 | apply h0 | simp only [Frame.mk_iff] | apply Frame.with_clk | (fail_if_no_progress beta_reduce) | (fail_if_no_progress dsimp only) | split)

/-! Hif -/

theorem Frame.configReset {o : State} {ps : List Piece} (s : State) (h0 : State.onlyIn o s ps) (kregs : Piece.regs ∈ ps) (khif : Piece.hif ∈ ps) :
    State.onlyIn o (State.configReset s) ps := by
  unfold Sys2Proof.Machine.State.configReset
  dsimp -failIfUnchanged only
  with_reducible repeat' (first | assumption | (intro _) | apply Frame.ite | apply Frame.ite2 | apply Frame.foldl | apply Frame.foldl2 | apply Frame.putWord | apply h0 | simp only [Frame.mk_iff] | apply Frame.with_hif | (fail_if_no_progress beta_reduce) | (fail_if_no_progress dsimp only) | split)

theorem Frame.engineOff {o : State} {ps : List Piece} (s : State) (h0 : State.onlyIn o s ps) (kregs : Piece.regs ∈ ps) (khif : Piece.hif ∈ ps) :
    State.onlyIn o (State.engineOff s) ps := by
  unfold Sys2Proof.Machine.State.engineOff
  dsimp -failIfUnchanged only
  with_reducible repeat' (first | assumption | (intro _) | apply Frame.ite | apply Frame.ite2 | apply Frame.foldl | apply Frame.foldl2 | apply Frame.set | apply h0 | simp only [Frame.mk_iff] | apply Frame.with_hif | (fail_if_no_progress beta_reduce) | (fail_if_no_progress dsimp only) | split)

theorem Frame.hostReset {o : State} {ps : List Piece} (s : State) (h0 : State.onlyIn o s ps) (kregs : Piece.regs ∈ ps) (khif : Piece.hif ∈ ps) (ksec : Piece.sec ∈ ps) :
    State.onlyIn o (State.hostReset s) ps := by
  unfold Sys2Proof.Machine.State.hostReset
  dsimp -failIfUnchanged only
  with_reducible repeat' (first | assumption | (intro _) | apply Frame.ite | apply Frame.ite2 | apply Frame.foldl | apply Frame.foldl2 | apply Frame.configReset | apply Frame.engineOff | apply Frame.endPcieSession | apply h0 | (fail_if_no_progress beta_reduce) | (fail_if_no_progress dsimp only) | split)

theorem Frame.unacked {o : State} {ps : List Piece} (n : Nat) (s : State) (h0 : State.onlyIn o s ps) (kregs : Piece.regs ∈ ps) (khif : Piece.hif ∈ ps) :
    State.onlyIn o (State.unacked n s) ps := by
  unfold Sys2Proof.Machine.State.unacked
  dsimp -failIfUnchanged only
  with_reducible repeat' (first | assumption | (intro _) | apply Frame.ite | apply Frame.ite2 | apply Frame.foldl | apply Frame.foldl2 | apply Frame.takeBack | apply h0 | simp only [Frame.mk_iff] | apply Frame.with_hif | (fail_if_no_progress beta_reduce) | (fail_if_no_progress dsimp only) | split)

theorem Frame.linkDown {o : State} {ps : List Piece} (n : Nat) (s : State) (h0 : State.onlyIn o s ps) (kregs : Piece.regs ∈ ps) (ksys : Piece.sys ∈ ps) (khif : Piece.hif ∈ ps) (kevc : Piece.evc ∈ ps) (ksec : Piece.sec ∈ ps) (ksch : Piece.sch ∈ ps) (kbanks : Piece.banks ∈ ps) (kquads : Piece.quads ∈ ps) (kedges : Piece.edges ∈ ps) (kink : Piece.ink ∈ ps) (kadc : Piece.adc ∈ ps) (kcmps : Piece.cmps ∈ ps) (knibs : Piece.nibs ∈ ps) (ktst : Piece.tst ∈ ps) :
    State.onlyIn o (State.linkDown n s) ps := by
  unfold Sys2Proof.Machine.State.linkDown
  dsimp -failIfUnchanged only
  with_reducible repeat' (first | assumption | (intro _) | apply Frame.ite | apply Frame.ite2 | apply Frame.foldl | apply Frame.foldl2 | apply Frame.unacked | apply Frame.count | apply Frame.alarm | apply Frame.endPcieSession | apply Frame.fallbackCause | apply h0 | simp only [Frame.mk_iff] | apply Frame.with_hif | (fail_if_no_progress beta_reduce) | (fail_if_no_progress dsimp only) | split)

theorem Frame.linkReset {o : State} {ps : List Piece} (s : State) (h0 : State.onlyIn o s ps) (kregs : Piece.regs ∈ ps) (ksys : Piece.sys ∈ ps) (khif : Piece.hif ∈ ps) (kevc : Piece.evc ∈ ps) (ksec : Piece.sec ∈ ps) (ksch : Piece.sch ∈ ps) (kbanks : Piece.banks ∈ ps) (kquads : Piece.quads ∈ ps) (kedges : Piece.edges ∈ ps) (kink : Piece.ink ∈ ps) (kadc : Piece.adc ∈ ps) (kcmps : Piece.cmps ∈ ps) (knibs : Piece.nibs ∈ ps) (ktst : Piece.tst ∈ ps) (kfreeCtr : Piece.freeCtr ∈ ps) :
    State.onlyIn o (State.linkReset s) ps := by
  unfold Sys2Proof.Machine.State.linkReset
  dsimp -failIfUnchanged only
  with_reducible repeat' (first | assumption | (intro _) | apply Frame.ite | apply Frame.ite2 | apply Frame.foldl | apply Frame.foldl2 | apply Frame.hostReset | apply Frame.draw | apply Frame.linkDown | apply h0 | (fail_if_no_progress beta_reduce) | (fail_if_no_progress dsimp only) | split)

theorem Frame.heartbeat {o : State} {ps : List Piece} (p : Port) (s : State) (h0 : State.onlyIn o s ps) (kregs : Piece.regs ∈ ps) (khif : Piece.hif ∈ ps) (ksec : Piece.sec ∈ ps) :
    State.onlyIn o (State.heartbeat p s) ps := by
  unfold Sys2Proof.Machine.State.heartbeat
  dsimp -failIfUnchanged only
  with_reducible repeat' (first | assumption | (intro _) | apply Frame.ite | apply Frame.ite2 | apply Frame.foldl | apply Frame.foldl2 | apply Frame.heard | apply Frame.onWrite | apply h0 | apply Frame.id | (fail_if_no_progress beta_reduce) | (fail_if_no_progress dsimp only) | split)

theorem Frame.dmaRecord {o : State} {ps : List Piece} (ring cause : Nat) (s : State) (h0 : State.onlyIn o s ps) (kregs : Piece.regs ∈ ps) :
    State.onlyIn o (State.dmaRecord ring cause s) ps := by
  unfold Sys2Proof.Machine.State.dmaRecord
  dsimp -failIfUnchanged only
  with_reducible repeat' (first | assumption | (intro _) | apply Frame.ite | apply Frame.ite2 | apply Frame.foldl | apply Frame.foldl2 | apply Frame.putWord | apply h0 | (fail_if_no_progress beta_reduce) | (fail_if_no_progress dsimp only) | split)

theorem Frame.dmaFail {o : State} {ps : List Piece} (ring cause : Nat) (s : State) (h0 : State.onlyIn o s ps) (kregs : Piece.regs ∈ ps) (khif : Piece.hif ∈ ps) :
    State.onlyIn o (State.dmaFail ring cause s) ps := by
  unfold Sys2Proof.Machine.State.dmaFail
  dsimp -failIfUnchanged only
  with_reducible repeat' (first | assumption | (intro _) | apply Frame.ite | apply Frame.ite2 | apply Frame.foldl | apply Frame.foldl2 | apply Frame.dmaRecord | apply Frame.stopRing | apply Frame.alarm | apply h0 | simp only [Frame.mk_iff] | apply Frame.with_hif | (fail_if_no_progress beta_reduce) | (fail_if_no_progress dsimp only) | split)

theorem Frame.unmask {o : State} {ps : List Piece} (v : Nat) (s : State) (h0 : State.onlyIn o s ps) (kregs : Piece.regs ∈ ps) (khif : Piece.hif ∈ ps) (kevc : Piece.evc ∈ ps) :
    State.onlyIn o (State.unmask v s) ps := by
  unfold Sys2Proof.Machine.State.unmask
  dsimp -failIfUnchanged only
  with_reducible repeat' (first | assumption | (intro _) | apply Frame.ite | apply Frame.ite2 | apply Frame.foldl | apply Frame.foldl2 | apply Frame.putWord | apply Frame.message | apply h0 | (fail_if_no_progress beta_reduce) | (fail_if_no_progress dsimp only) | split)

/-! SlurOps -/

theorem Frame.beginTraining {o : State} {ps : List Piece} (s : State) (h0 : State.onlyIn o s ps) (kevc : Piece.evc ∈ ps) (kslur : Piece.slur ∈ ps) :
    State.onlyIn o (State.beginTraining s) ps := by
  unfold Sys2Proof.Machine.State.beginTraining
  dsimp -failIfUnchanged only
  with_reducible repeat' (first | assumption | (intro _) | apply Frame.ite | apply Frame.ite2 | apply Frame.foldl | apply Frame.foldl2 | apply Frame.assign | apply h0 | simp only [Frame.mk_iff] | apply Frame.with_slur | (fail_if_no_progress beta_reduce) | (fail_if_no_progress dsimp only) | split)

/-! Nib -/

theorem Frame.nibIrq {o : State} {ps : List Piece} (n : Nat) (s : State) (h0 : State.onlyIn o s ps) (kregs : Piece.regs ∈ ps) (kevc : Piece.evc ∈ ps) :
    State.onlyIn o (State.nibIrq n s) ps := by
  unfold Sys2Proof.Machine.State.nibIrq
  dsimp -failIfUnchanged only
  with_reducible repeat' (first | assumption | (intro _) | apply Frame.ite | apply Frame.ite2 | apply Frame.foldl | apply Frame.foldl2 | apply Frame.raise | apply h0 | (fail_if_no_progress beta_reduce) | (fail_if_no_progress dsimp only) | split)

theorem Frame.nibPush {o : State} {ps : List Piece} (n : Nat) (w : Word) (s : State) (h0 : State.onlyIn o s ps) (kregs : Piece.regs ∈ ps) (kevc : Piece.evc ∈ ps) (knibs : Piece.nibs ∈ ps) :
    State.onlyIn o (State.nibPush n w s) ps := by
  unfold Sys2Proof.Machine.State.nibPush
  dsimp -failIfUnchanged only
  with_reducible repeat' (first | assumption | (intro _) | apply Frame.ite | apply Frame.ite2 | apply Frame.foldl | apply Frame.foldl2 | apply Frame.modNib | apply Frame.nibIrq | apply Frame.set | apply h0 | (fail_if_no_progress beta_reduce) | (fail_if_no_progress dsimp only) | split)

theorem Frame.nibPull {o : State} {ps : List Piece} (n : Nat) (s : State) (h0 : State.onlyIn o s ps) (kregs : Piece.regs ∈ ps) (kevc : Piece.evc ∈ ps) (knibs : Piece.nibs ∈ ps) :
    State.onlyIn o (State.nibPull n s) ps := by
  unfold Sys2Proof.Machine.State.nibPull
  dsimp -failIfUnchanged only
  with_reducible repeat' (first | assumption | (intro _) | apply Frame.ite | apply Frame.ite2 | apply Frame.foldl | apply Frame.foldl2 | apply Frame.modNib | apply Frame.set | apply Frame.nibIrq | apply h0 | (fail_if_no_progress beta_reduce) | (fail_if_no_progress dsimp only) | split)

theorem Frame.shiftIn {o : State} {ps : List Piece} (n : Nat) (bit : Bool) (s : State) (h0 : State.onlyIn o s ps) (kregs : Piece.regs ∈ ps) (kevc : Piece.evc ∈ ps) (knibs : Piece.nibs ∈ ps) :
    State.onlyIn o (State.shiftIn n bit s) ps := by
  unfold Sys2Proof.Machine.State.shiftIn
  dsimp -failIfUnchanged only
  with_reducible repeat' (first | assumption | (intro _) | apply Frame.ite | apply Frame.ite2 | apply Frame.foldl | apply Frame.foldl2 | apply Frame.modNib | apply Frame.nibPush | apply h0 | (fail_if_no_progress beta_reduce) | (fail_if_no_progress dsimp only) | split)

theorem Frame.shiftOut {o : State} {ps : List Piece} (n : Nat) (s : State) (h0 : State.onlyIn o s ps) (kregs : Piece.regs ∈ ps) (kevc : Piece.evc ∈ ps) (knibs : Piece.nibs ∈ ps) :
    State.onlyIn o (State.shiftOut n s) ps := by
  unfold Sys2Proof.Machine.State.shiftOut
  dsimp -failIfUnchanged only
  with_reducible repeat' (first | assumption | (intro _) | apply Frame.ite | apply Frame.ite2 | apply Frame.foldl | apply Frame.foldl2 | apply Frame.nibPull | apply Frame.modNib | apply h0 | (fail_if_no_progress beta_reduce) | (fail_if_no_progress dsimp only) | split)

theorem Frame.nibCount {o : State} {ps : List Piece} (n cnt : Nat) (s : State) (h0 : State.onlyIn o s ps) (kregs : Piece.regs ∈ ps) (kevc : Piece.evc ∈ ps) (knibs : Piece.nibs ∈ ps) :
    State.onlyIn o (State.nibCount n cnt s) ps := by
  unfold Sys2Proof.Machine.State.nibCount
  dsimp -failIfUnchanged only
  with_reducible repeat' (first | assumption | (intro _) | apply Frame.ite | apply Frame.ite2 | apply Frame.foldl | apply Frame.foldl2 | apply Frame.modNib | apply Frame.nibPush | apply h0 | (fail_if_no_progress beta_reduce) | (fail_if_no_progress dsimp only) | split)

theorem Frame.inkStep {o : State} {ps : List Piece} (n k : Nat) (s : State) (h0 : State.onlyIn o s ps) (kink : Piece.ink ∈ ps) (knibs : Piece.nibs ∈ ps) :
    State.onlyIn o (State.inkStep n k s) ps := by
  unfold Sys2Proof.Machine.State.inkStep
  dsimp -failIfUnchanged only
  with_reducible repeat' (first | assumption | (intro _) | apply Frame.ite | apply Frame.ite2 | apply Frame.foldl | apply Frame.foldl2 | apply Frame.modNib | apply h0 | simp only [Frame.mk_iff] | apply Frame.with_ink | (fail_if_no_progress beta_reduce) | (fail_if_no_progress dsimp only) | split)

theorem Frame.nibNext {o : State} {ps : List Piece} (n ns : Nat) (s : State) (h0 : State.onlyIn o s ps) (knibs : Piece.nibs ∈ ps) :
    State.onlyIn o (State.nibNext n ns s) ps := by
  unfold Sys2Proof.Machine.State.nibNext
  dsimp -failIfUnchanged only
  with_reducible repeat' (first | assumption | (intro _) | apply Frame.ite | apply Frame.ite2 | apply Frame.foldl | apply Frame.foldl2 | apply Frame.modNib | apply h0 | (fail_if_no_progress beta_reduce) | (fail_if_no_progress dsimp only) | split)

theorem Frame.strokeStep {o : State} {ps : List Piece} (n k : Nat) (ins : List Bool) (s : State) (h0 : State.onlyIn o s ps) (kregs : Piece.regs ∈ ps) (kevc : Piece.evc ∈ ps) (kink : Piece.ink ∈ ps) (knibs : Piece.nibs ∈ ps) :
    State.onlyIn o (State.strokeStep n k ins s) ps := by
  unfold Sys2Proof.Machine.State.strokeStep
  dsimp -failIfUnchanged only
  with_reducible repeat' (first | assumption | (intro _) | apply Frame.ite | apply Frame.ite2 | apply Frame.foldl | apply Frame.foldl2 | apply Frame.modNib | apply Frame.shiftIn | apply Frame.shiftOut | apply Frame.nibCount | apply Frame.inkStep | apply Frame.nibNext | apply Frame.nibIrq | apply h0 | (fail_if_no_progress beta_reduce) | (fail_if_no_progress dsimp only) | split)

theorem Frame.cycleStart {o : State} {ps : List Piece} (n : Nat) (s : State) (h0 : State.onlyIn o s ps) (kregs : Piece.regs ∈ ps) (knibs : Piece.nibs ∈ ps) :
    State.onlyIn o (State.cycleStart n s) ps := by
  unfold Sys2Proof.Machine.State.cycleStart
  dsimp -failIfUnchanged only
  with_reducible repeat' (first | assumption | (intro _) | apply Frame.ite | apply Frame.ite2 | apply Frame.foldl | apply Frame.foldl2 | apply Frame.modNib | apply Frame.inCycle | apply h0 | simp only [Frame.mk_iff] | apply Frame.with_nibs | (fail_if_no_progress beta_reduce) | (fail_if_no_progress dsimp only) | split)

theorem Frame.strokeNow {o : State} {ps : List Piece} (n k : Nat) (ins : List Bool) (s : State) (h0 : State.onlyIn o s ps) (kregs : Piece.regs ∈ ps) (kevc : Piece.evc ∈ ps) (kink : Piece.ink ∈ ps) (knibs : Piece.nibs ∈ ps) :
    State.onlyIn o (State.strokeNow n k ins s) ps := by
  unfold Sys2Proof.Machine.State.strokeNow
  dsimp -failIfUnchanged only
  with_reducible repeat' (first | assumption | (intro _) | apply Frame.ite | apply Frame.ite2 | apply Frame.foldl | apply Frame.foldl2 | apply Frame.modNib | apply Frame.strokeStep | apply h0 | (fail_if_no_progress beta_reduce) | (fail_if_no_progress dsimp only) | split)

theorem Frame.strokeLate {o : State} {ps : List Piece} (n : Nat) (s : State) (h0 : State.onlyIn o s ps) (kregs : Piece.regs ∈ ps) (kevc : Piece.evc ∈ ps) (kink : Piece.ink ∈ ps) (knibs : Piece.nibs ∈ ps) :
    State.onlyIn o (State.strokeLate n s) ps := by
  unfold Sys2Proof.Machine.State.strokeLate
  dsimp -failIfUnchanged only
  with_reducible repeat' (first | assumption | (intro _) | apply Frame.ite | apply Frame.ite2 | apply Frame.foldl | apply Frame.foldl2 | apply Frame.modNib | apply Frame.strokeStep | apply h0 | (fail_if_no_progress beta_reduce) | (fail_if_no_progress dsimp only) | split)

theorem Frame.strokesLate {o : State} {ps : List Piece} (s : State) (h0 : State.onlyIn o s ps) (kregs : Piece.regs ∈ ps) (kevc : Piece.evc ∈ ps) (kink : Piece.ink ∈ ps) (knibs : Piece.nibs ∈ ps) :
    State.onlyIn o (State.strokesLate s) ps := by
  unfold Sys2Proof.Machine.State.strokesLate
  dsimp -failIfUnchanged only
  with_reducible repeat' (first | assumption | (intro _) | apply Frame.ite | apply Frame.ite2 | apply Frame.foldl | apply Frame.foldl2 | apply Frame.strokeLate | apply h0 | (fail_if_no_progress beta_reduce) | (fail_if_no_progress dsimp only) | split)

theorem Frame.fifosFresh {o : State} {ps : List Piece} (n : Nat) (s : State) (h0 : State.onlyIn o s ps) (kregs : Piece.regs ∈ ps) (knibs : Piece.nibs ∈ ps) :
    State.onlyIn o (State.fifosFresh n s) ps := by
  unfold Sys2Proof.Machine.State.fifosFresh
  dsimp -failIfUnchanged only
  with_reducible repeat' (first | assumption | (intro _) | apply Frame.ite | apply Frame.ite2 | apply Frame.foldl | apply Frame.foldl2 | apply Frame.inCycle | apply h0 | simp only [Frame.mk_iff] | apply Frame.with_nibs | (fail_if_no_progress beta_reduce) | (fail_if_no_progress dsimp only) | split)

theorem Frame.nibStartAct {o : State} {ps : List Piece} (n : Nat) (s : State) (h0 : State.onlyIn o s ps) (kregs : Piece.regs ∈ ps) (knibs : Piece.nibs ∈ ps) :
    State.onlyIn o (State.nibStartAct n s) ps := by
  unfold Sys2Proof.Machine.State.nibStartAct
  dsimp -failIfUnchanged only
  with_reducible repeat' (first | assumption | (intro _) | apply Frame.ite | apply Frame.ite2 | apply Frame.foldl | apply Frame.foldl2 | apply Frame.modNib | apply Frame.fifosFresh | apply h0 | (fail_if_no_progress beta_reduce) | (fail_if_no_progress dsimp only) | split)

theorem Frame.nibCtrl {o : State} {ps : List Piece} (n v : Nat) (s : State) (h0 : State.onlyIn o s ps) (kregs : Piece.regs ∈ ps) (knibs : Piece.nibs ∈ ps) :
    State.onlyIn o (State.nibCtrl n v s) ps := by
  unfold Sys2Proof.Machine.State.nibCtrl
  dsimp -failIfUnchanged only
  with_reducible repeat' (first | assumption | (intro _) | apply Frame.ite | apply Frame.ite2 | apply Frame.foldl | apply Frame.foldl2 | apply Frame.nibStartAct | apply Frame.modNib | apply Frame.fifosFresh | apply h0 | (fail_if_no_progress beta_reduce) | (fail_if_no_progress dsimp only) | split)

theorem Frame.nibWrite {o : State} {ps : List Piece} (s : State) (p : Port) (n bit : Nat) (v : Word) (h0 : State.onlyIn o s ps) (kregs : Piece.regs ∈ ps) (khif : Piece.hif ∈ ps) (ksec : Piece.sec ∈ ps) (knibs : Piece.nibs ∈ ps) :
    State.onlyIn o (State.nibWrite s p n bit v) ps := by
  unfold Sys2Proof.Machine.State.nibWrite
  dsimp -failIfUnchanged only
  with_reducible repeat' (first | assumption | (intro _) | apply Frame.ite | apply Frame.ite2 | apply Frame.foldl | apply Frame.foldl2 | apply Frame.busWrite | apply Frame.nibCtrl | apply h0 | (fail_if_no_progress beta_reduce) | (fail_if_no_progress dsimp only) | split)

theorem Frame.nibAuto {o : State} {ps : List Piece} (s : State) (h0 : State.onlyIn o s ps) (kregs : Piece.regs ∈ ps) (knibs : Piece.nibs ∈ ps) :
    State.onlyIn o (State.nibAuto s) ps := by
  unfold Sys2Proof.Machine.State.nibAuto
  dsimp -failIfUnchanged only
  with_reducible repeat' (first | assumption | (intro _) | apply Frame.ite | apply Frame.ite2 | apply Frame.foldl | apply Frame.foldl2 | apply Frame.nibStartAct | apply h0 | (fail_if_no_progress beta_reduce) | (fail_if_no_progress dsimp only) | split)

theorem Frame.armedStart {o : State} {ps : List Piece} (s : State) (h0 : State.onlyIn o s ps) (kregs : Piece.regs ∈ ps) (kevc : Piece.evc ∈ ps) (ktmrs : Piece.tmrs ∈ ps) (knibs : Piece.nibs ∈ ps) (kslur : Piece.slur ∈ ps) :
    State.onlyIn o (State.armedStart s) ps := by
  unfold Sys2Proof.Machine.State.armedStart
  dsimp -failIfUnchanged only
  with_reducible repeat' (first | assumption | (intro _) | apply Frame.ite | apply Frame.ite2 | apply Frame.foldl | apply Frame.foldl2 | apply Frame.tmrAuto | apply Frame.nibAuto | apply Frame.beginTraining | apply h0 | (fail_if_no_progress beta_reduce) | (fail_if_no_progress dsimp only) | split)

theorem Frame.armedIf {o : State} {ps : List Piece} (old : Mode) (s : State) (h0 : State.onlyIn o s ps) (kregs : Piece.regs ∈ ps) (kevc : Piece.evc ∈ ps) (ktmrs : Piece.tmrs ∈ ps) (knibs : Piece.nibs ∈ ps) (kslur : Piece.slur ∈ ps) :
    State.onlyIn o (State.armedIf old s) ps := by
  unfold Sys2Proof.Machine.State.armedIf
  dsimp -failIfUnchanged only
  with_reducible repeat' (first | assumption | (intro _) | apply Frame.ite | apply Frame.ite2 | apply Frame.foldl | apply Frame.foldl2 | apply Frame.armedStart | apply h0 | (fail_if_no_progress beta_reduce) | (fail_if_no_progress dsimp only) | split)

theorem Frame.nibRestart {o : State} {ps : List Piece} (n : Nat) (s : State) (h0 : State.onlyIn o s ps) (kregs : Piece.regs ∈ ps) (knibs : Piece.nibs ∈ ps) :
    State.onlyIn o (State.nibRestart n s) ps := by
  unfold Sys2Proof.Machine.State.nibRestart
  dsimp -failIfUnchanged only
  with_reducible repeat' (first | assumption | (intro _) | apply Frame.ite | apply Frame.ite2 | apply Frame.foldl | apply Frame.foldl2 | apply Frame.modNib | apply Frame.nibStartAct | apply h0 | (fail_if_no_progress beta_reduce) | (fail_if_no_progress dsimp only) | split)

theorem Frame.nibSleep {o : State} {ps : List Piece} (s : State) (h0 : State.onlyIn o s ps) (knibs : Piece.nibs ∈ ps) :
    State.onlyIn o (State.nibSleep s) ps := by
  unfold Sys2Proof.Machine.State.nibSleep
  dsimp -failIfUnchanged only
  with_reducible repeat' (first | assumption | (intro _) | apply Frame.ite | apply Frame.ite2 | apply Frame.foldl | apply Frame.foldl2 | apply h0 | simp only [Frame.mk_iff] | apply Frame.with_nibs | (fail_if_no_progress beta_reduce) | (fail_if_no_progress dsimp only) | split)

theorem Frame.nibMargins {o : State} {ps : List Piece} (s : State) (h0 : State.onlyIn o s ps) (knibs : Piece.nibs ∈ ps) :
    State.onlyIn o (State.nibMargins s) ps := by
  unfold Sys2Proof.Machine.State.nibMargins
  dsimp -failIfUnchanged only
  with_reducible repeat' (first | assumption | (intro _) | apply Frame.ite | apply Frame.ite2 | apply Frame.foldl | apply Frame.foldl2 | apply h0 | simp only [Frame.mk_iff] | apply Frame.with_nibs | (fail_if_no_progress beta_reduce) | (fail_if_no_progress dsimp only) | split)

theorem Frame.fifoNote {o : State} {ps : List Piece} (n : Nat) (l : Nat × Nat) (s : State) (h0 : State.onlyIn o s ps) (kregs : Piece.regs ∈ ps) (knibs : Piece.nibs ∈ ps) :
    State.onlyIn o (State.fifoNote n l s) ps := by
  unfold Sys2Proof.Machine.State.fifoNote
  dsimp -failIfUnchanged only
  with_reducible repeat' (first | assumption | (intro _) | apply Frame.ite | apply Frame.ite2 | apply Frame.foldl | apply Frame.foldl2 | apply Frame.inCycle | apply h0 | simp only [Frame.mk_iff] | apply Frame.with_nibs | (fail_if_no_progress beta_reduce) | (fail_if_no_progress dsimp only) | split)

theorem Frame.txWrite {o : State} {ps : List Piece} (p : Port) (n : Nat) (v : Word) (s : State) (h0 : State.onlyIn o s ps) (kregs : Piece.regs ∈ ps) (khif : Piece.hif ∈ ps) (ksec : Piece.sec ∈ ps) (knibs : Piece.nibs ∈ ps) :
    State.onlyIn o (State.txWrite p n v s) ps := by
  unfold Sys2Proof.Machine.State.txWrite
  dsimp -failIfUnchanged only
  with_reducible repeat' (first | assumption | (intro _) | apply Frame.ite | apply Frame.ite2 | apply Frame.foldl | apply Frame.foldl2 | apply Frame.busWrite | apply Frame.modNib | apply Frame.fifoNote | apply Frame.count | apply h0 | (fail_if_no_progress beta_reduce) | (fail_if_no_progress dsimp only) | split)

theorem Frame.rxRead {o : State} {ps : List Piece} (p : Port) (n : Nat) (s : State) (h0 : State.onlyIn o s ps) (kregs : Piece.regs ∈ ps) (ksec : Piece.sec ∈ ps) (knibs : Piece.nibs ∈ ps) (kans : Piece.ans ∈ ps) :
    State.onlyIn o (State.rxRead p n s) ps := by
  unfold Sys2Proof.Machine.State.rxRead
  dsimp -failIfUnchanged only
  with_reducible repeat' (first | assumption | (intro _) | apply Frame.ite | apply Frame.ite2 | apply Frame.foldl | apply Frame.foldl2 | apply Frame.onRead | apply Frame.answer | apply Frame.count | apply Frame.modNib | apply Frame.fifoNote | apply h0 | (fail_if_no_progress beta_reduce) | (fail_if_no_progress dsimp only) | split)

theorem Frame.sidxAdvance {o : State} {ps : List Piece} (n : Nat) (s : State) (h0 : State.onlyIn o s ps) (kregs : Piece.regs ∈ ps) :
    State.onlyIn o (State.sidxAdvance n s) ps := by
  unfold Sys2Proof.Machine.State.sidxAdvance
  dsimp -failIfUnchanged only
  with_reducible repeat' (first | assumption | (intro _) | apply Frame.ite | apply Frame.ite2 | apply Frame.foldl | apply Frame.foldl2 | apply Frame.set | apply h0 | (fail_if_no_progress beta_reduce) | (fail_if_no_progress dsimp only) | split)

theorem Frame.strokeLo {o : State} {ps : List Piece} (p : Port) (n : Nat) (v : Word) (s : State) (h0 : State.onlyIn o s ps) (kregs : Piece.regs ∈ ps) (khif : Piece.hif ∈ ps) (knibs : Piece.nibs ∈ ps) :
    State.onlyIn o (State.strokeLo p n v s) ps := by
  unfold Sys2Proof.Machine.State.strokeLo
  dsimp -failIfUnchanged only
  with_reducible repeat' (first | assumption | (intro _) | apply Frame.ite | apply Frame.ite2 | apply Frame.foldl | apply Frame.foldl2 | apply Frame.modNib | apply Frame.deny | apply h0 | (fail_if_no_progress beta_reduce) | (fail_if_no_progress dsimp only) | split)

theorem Frame.strokeHi {o : State} {ps : List Piece} (p : Port) (n : Nat) (v : Word) (s : State) (h0 : State.onlyIn o s ps) (kregs : Piece.regs ∈ ps) (khif : Piece.hif ∈ ps) :
    State.onlyIn o (State.strokeHi p n v s) ps := by
  unfold Sys2Proof.Machine.State.strokeHi
  dsimp -failIfUnchanged only
  with_reducible repeat' (first | assumption | (intro _) | apply Frame.ite | apply Frame.ite2 | apply Frame.foldl | apply Frame.foldl2 | apply Frame.putBoth | apply Frame.deny | apply Frame.sidxAdvance | apply h0 | (fail_if_no_progress beta_reduce) | (fail_if_no_progress dsimp only) | split)

theorem Frame.strokeRead {o : State} {ps : List Piece} (p : Port) (n : Nat) (s : State) (h0 : State.onlyIn o s ps) (ksec : Piece.sec ∈ ps) (knibs : Piece.nibs ∈ ps) (kans : Piece.ans ∈ ps) :
    State.onlyIn o (State.strokeRead p n s) ps := by
  unfold Sys2Proof.Machine.State.strokeRead
  dsimp -failIfUnchanged only
  with_reducible repeat' (first | assumption | (intro _) | apply Frame.ite | apply Frame.ite2 | apply Frame.foldl | apply Frame.foldl2 | apply Frame.onRead | apply Frame.answer | apply Frame.modNib | apply h0 | (fail_if_no_progress beta_reduce) | (fail_if_no_progress dsimp only) | split)

theorem Frame.marginSet {o : State} {ps : List Piece} (p : Port) (n : Nat) (v : Word) (s : State) (h0 : State.onlyIn o s ps) (kregs : Piece.regs ∈ ps) (khif : Piece.hif ∈ ps) (knibs : Piece.nibs ∈ ps) :
    State.onlyIn o (State.marginSet p n v s) ps := by
  unfold Sys2Proof.Machine.State.marginSet
  dsimp -failIfUnchanged only
  with_reducible repeat' (first | assumption | (intro _) | apply Frame.ite | apply Frame.ite2 | apply Frame.foldl | apply Frame.foldl2 | apply Frame.count | apply Frame.putBoth | apply Frame.modNib | apply Frame.deny | apply h0 | (fail_if_no_progress beta_reduce) | (fail_if_no_progress dsimp only) | split)

/-! Whl -/

theorem Frame.toothTrace {o : State} {ps : List Piece} (c : EdgeClass) (r : Nat) (t : Tb) (s : State) (h0 : State.onlyIn o s ps) (kregs : Piece.regs ∈ ps) (khif : Piece.hif ∈ ps) :
    State.onlyIn o (State.toothTrace c r t s) ps := by
  unfold Sys2Proof.Machine.State.toothTrace
  dsimp -failIfUnchanged only
  with_reducible repeat' (first | assumption | (intro _) | apply Frame.ite | apply Frame.ite2 | apply Frame.foldl | apply Frame.foldl2 | apply Frame.trace | apply h0 | (fail_if_no_progress beta_reduce) | (fail_if_no_progress dsimp only) | split)

theorem Frame.syncAs {o : State} {ps : List Piece} (quiet : Bool) (dst : Sync) (input : Nat) (t : Tb) (s : State) (h0 : State.onlyIn o s ps) (kregs : Piece.regs ∈ ps) (ksys : Piece.sys ∈ ps) (khif : Piece.hif ∈ ps) (kevc : Piece.evc ∈ ps) (kwhl : Piece.whl ∈ ps) (kang : Piece.ang ∈ ps) (ksch : Piece.sch ∈ ps) (kbanks : Piece.banks ∈ ps) (kquads : Piece.quads ∈ ps) (kedges : Piece.edges ∈ ps) (kink : Piece.ink ∈ ps) (kadc : Piece.adc ∈ ps) (kcmps : Piece.cmps ∈ ps) (knibs : Piece.nibs ∈ ps) (ktst : Piece.tst ∈ ps) :
    State.onlyIn o (State.syncAs quiet dst input t s) ps := by
  unfold Sys2Proof.Machine.State.syncAs
  dsimp -failIfUnchanged only
  with_reducible repeat' (first | assumption | (intro _) | apply Frame.ite | apply Frame.ite2 | apply Frame.foldl | apply Frame.foldl2 | apply Frame.alarm | apply Frame.raise | apply Frame.endClamp | apply Frame.syncLoss | apply Frame.closeAll | apply Frame.startCoast | apply Frame.endCoast | apply Frame.modStore | apply Frame.openAll | apply Frame.trace | apply Frame.followSync | apply h0 | simp only [Frame.mk_iff] | apply Frame.with_whl | apply Frame.with_ang | apply Frame.parts | (exact Or.inl ‹_›) | apply Frame.part_part | apply Frame.part_clk | apply Frame.part_regs | apply Frame.part_sys | apply Frame.part_hif | apply Frame.part_evc | apply Frame.part_sec | apply Frame.part_whl | apply Frame.part_ang | apply Frame.part_sch | apply Frame.part_banks | apply Frame.part_quads | apply Frame.part_edges | apply Frame.part_ink | apply Frame.part_grds | apply Frame.part_adc | apply Frame.part_cmps | apply Frame.part_tmrs | apply Frame.part_nibs | apply Frame.part_tst | apply Frame.part_slur | apply Frame.part_jtag | apply Frame.part_ans | apply Frame.part_freeCtr | apply Frame.part_pending | (fail_if_no_progress beta_reduce) | (fail_if_no_progress dsimp only) | split)

theorem Frame.sync {o : State} {ps : List Piece} (dst : Sync) (input : Nat) (t : Tb) (s : State) (h0 : State.onlyIn o s ps) (kregs : Piece.regs ∈ ps) (ksys : Piece.sys ∈ ps) (khif : Piece.hif ∈ ps) (kevc : Piece.evc ∈ ps) (kwhl : Piece.whl ∈ ps) (kang : Piece.ang ∈ ps) (ksch : Piece.sch ∈ ps) (kbanks : Piece.banks ∈ ps) (kquads : Piece.quads ∈ ps) (kedges : Piece.edges ∈ ps) (kink : Piece.ink ∈ ps) (kadc : Piece.adc ∈ ps) (kcmps : Piece.cmps ∈ ps) (knibs : Piece.nibs ∈ ps) (ktst : Piece.tst ∈ ps) :
    State.onlyIn o (State.sync dst input t s) ps := by
  unfold Sys2Proof.Machine.State.sync
  dsimp -failIfUnchanged only
  with_reducible repeat' (first | assumption | (intro _) | apply Frame.ite | apply Frame.ite2 | apply Frame.foldl | apply Frame.foldl2 | apply Frame.syncAs | apply h0 | (fail_if_no_progress beta_reduce) | (fail_if_no_progress dsimp only) | split)

theorem Frame.kept {o : State} {ps : List Piece} (t : Tb) (s : State) (h0 : State.onlyIn o s ps) (kwhl : Piece.whl ∈ ps) :
    State.onlyIn o (State.kept t s) ps := by
  unfold Sys2Proof.Machine.State.kept
  dsimp -failIfUnchanged only
  with_reducible repeat' (first | assumption | (intro _) | apply Frame.ite | apply Frame.ite2 | apply Frame.foldl | apply Frame.foldl2 | apply h0 | simp only [Frame.mk_iff] | apply Frame.with_whl | (fail_if_no_progress beta_reduce) | (fail_if_no_progress dsimp only) | split)

theorem Frame.seekFrom {o : State} {ps : List Piece} (t : Option Tb) (s : State) (h0 : State.onlyIn o s ps) (kwhl : Piece.whl ∈ ps) :
    State.onlyIn o (State.seekFrom t s) ps := by
  unfold Sys2Proof.Machine.State.seekFrom
  dsimp -failIfUnchanged only
  with_reducible repeat' (first | assumption | (intro _) | apply Frame.ite | apply Frame.ite2 | apply Frame.foldl | apply Frame.foldl2 | apply h0 | simp only [Frame.mk_iff] | apply Frame.with_whl | (fail_if_no_progress beta_reduce) | (fail_if_no_progress dsimp only) | split)

theorem Frame.wrapCycle {o : State} {ps : List Piece} (s : State) (h0 : State.onlyIn o s ps) (kregs : Piece.regs ∈ ps) (ksys : Piece.sys ∈ ps) (khif : Piece.hif ∈ ps) (kevc : Piece.evc ∈ ps) (kwhl : Piece.whl ∈ ps) (kang : Piece.ang ∈ ps) (ksch : Piece.sch ∈ ps) (kbanks : Piece.banks ∈ ps) (kquads : Piece.quads ∈ ps) (kedges : Piece.edges ∈ ps) (kink : Piece.ink ∈ ps) (kadc : Piece.adc ∈ ps) (kcmps : Piece.cmps ∈ ps) (knibs : Piece.nibs ∈ ps) (ktst : Piece.tst ∈ ps) :
    State.onlyIn o (State.wrapCycle s) ps := by
  unfold Sys2Proof.Machine.State.wrapCycle
  dsimp -failIfUnchanged only
  with_reducible repeat' (first | assumption | (intro _) | apply Frame.ite | apply Frame.ite2 | apply Frame.foldl | apply Frame.foldl2 | apply Frame.sync | apply h0 | simp only [Frame.mk_iff] | apply Frame.with_whl | apply Frame.with_ang | apply Frame.parts | (exact Or.inl ‹_›) | apply Frame.part_part | apply Frame.part_clk | apply Frame.part_regs | apply Frame.part_sys | apply Frame.part_hif | apply Frame.part_evc | apply Frame.part_sec | apply Frame.part_whl | apply Frame.part_ang | apply Frame.part_sch | apply Frame.part_banks | apply Frame.part_quads | apply Frame.part_edges | apply Frame.part_ink | apply Frame.part_grds | apply Frame.part_adc | apply Frame.part_cmps | apply Frame.part_tmrs | apply Frame.part_nibs | apply Frame.part_tst | apply Frame.part_slur | apply Frame.part_jtag | apply Frame.part_ans | apply Frame.part_freeCtr | apply Frame.part_pending | (fail_if_no_progress beta_reduce) | (fail_if_no_progress dsimp only) | split)

theorem Frame.moveClock {o : State} {ps : List Piece} (d : Int) (s : State) (h0 : State.onlyIn o s ps) (kregs : Piece.regs ∈ ps) (ksys : Piece.sys ∈ ps) (khif : Piece.hif ∈ ps) (kevc : Piece.evc ∈ ps) (kwhl : Piece.whl ∈ ps) (kang : Piece.ang ∈ ps) (ksch : Piece.sch ∈ ps) (kbanks : Piece.banks ∈ ps) (kquads : Piece.quads ∈ ps) (kedges : Piece.edges ∈ ps) (kink : Piece.ink ∈ ps) (kadc : Piece.adc ∈ ps) (kcmps : Piece.cmps ∈ ps) (ktmrs : Piece.tmrs ∈ ps) (knibs : Piece.nibs ∈ ps) (ktst : Piece.tst ∈ ps) :
    State.onlyIn o (State.moveClock d s) ps := by
  unfold Sys2Proof.Machine.State.moveClock
  dsimp -failIfUnchanged only
  with_reducible repeat' (first | assumption | (intro _) | apply Frame.ite | apply Frame.ite2 | apply Frame.foldl | apply Frame.foldl2 | apply Frame.angleMoved | apply Frame.wrapCycle | apply h0 | simp only [Frame.mk_iff] | apply Frame.with_ang | (fail_if_no_progress beta_reduce) | (fail_if_no_progress dsimp only) | split)

theorem Frame.setPitch {o : State} {ps : List Piece} (t : Tb) (s : State) (h0 : State.onlyIn o s ps) (kregs : Piece.regs ∈ ps) (ksys : Piece.sys ∈ ps) (khif : Piece.hif ∈ ps) (kevc : Piece.evc ∈ ps) (kwhl : Piece.whl ∈ ps) (kang : Piece.ang ∈ ps) (ksch : Piece.sch ∈ ps) (kbanks : Piece.banks ∈ ps) (kquads : Piece.quads ∈ ps) (kedges : Piece.edges ∈ ps) (kink : Piece.ink ∈ ps) (kadc : Piece.adc ∈ ps) (kcmps : Piece.cmps ∈ ps) (ktmrs : Piece.tmrs ∈ ps) (knibs : Piece.nibs ∈ ps) (ktst : Piece.tst ∈ ps) :
    State.onlyIn o (State.setPitch t s) ps := by
  unfold Sys2Proof.Machine.State.setPitch
  dsimp -failIfUnchanged only
  with_reducible repeat' (first | assumption | (intro _) | apply Frame.ite | apply Frame.ite2 | apply Frame.foldl | apply Frame.foldl2 | apply Frame.set | apply Frame.endClamp | apply Frame.moveClock | apply h0 | simp only [Frame.mk_iff] | apply Frame.with_ang | (fail_if_no_progress beta_reduce) | (fail_if_no_progress dsimp only) | split)

theorem Frame.learnEntry {o : State} {ps : List Piece} (i : Nat) (x lim : Int) (s : State) (h0 : State.onlyIn o s ps) (kregs : Piece.regs ∈ ps) :
    State.onlyIn o (State.learnEntry i x lim s) ps := by
  unfold Sys2Proof.Machine.State.learnEntry
  dsimp -failIfUnchanged only
  with_reducible repeat' (first | assumption | (intro _) | apply Frame.ite | apply Frame.ite2 | apply Frame.foldl | apply Frame.foldl2 | apply Frame.set | apply Frame.putWord | apply h0 | (fail_if_no_progress beta_reduce) | (fail_if_no_progress dsimp only) | split)

theorem Frame.revolve {o : State} {ps : List Piece} (c : EdgeClass) (t : Tb) (s : State) (h0 : State.onlyIn o s ps) (kang : Piece.ang ∈ ps) :
    State.onlyIn o (State.revolve c t s) ps := by
  unfold Sys2Proof.Machine.State.revolve
  dsimp -failIfUnchanged only
  with_reducible repeat' (first | assumption | (intro _) | apply Frame.ite | apply Frame.ite2 | apply Frame.foldl | apply Frame.foldl2 | apply h0 | simp only [Frame.mk_iff] | apply Frame.with_ang | (fail_if_no_progress beta_reduce) | (fail_if_no_progress dsimp only) | split)

theorem Frame.learn {o : State} {ps : List Piece} (clean : Bool) (interval span : Nat) (s : State) (h0 : State.onlyIn o s ps) (kregs : Piece.regs ∈ ps) (ksys : Piece.sys ∈ ps) (khif : Piece.hif ∈ ps) (kevc : Piece.evc ∈ ps) (kwhl : Piece.whl ∈ ps) (kang : Piece.ang ∈ ps) (ksch : Piece.sch ∈ ps) (kbanks : Piece.banks ∈ ps) (kquads : Piece.quads ∈ ps) (kedges : Piece.edges ∈ ps) (kink : Piece.ink ∈ ps) (kadc : Piece.adc ∈ ps) (kcmps : Piece.cmps ∈ ps) (knibs : Piece.nibs ∈ ps) (ktst : Piece.tst ∈ ps) :
    State.onlyIn o (State.learn clean interval span s) ps := by
  unfold Sys2Proof.Machine.State.learn
  dsimp -failIfUnchanged only
  with_reducible repeat' (first | assumption | (intro _) | apply Frame.ite | apply Frame.ite2 | apply Frame.foldl | apply Frame.foldl2 | apply Frame.sync | apply Frame.learnEntry | apply Frame.count | apply h0 | simp only [Frame.mk_iff] | apply Frame.with_ang | (fail_if_no_progress beta_reduce) | (fail_if_no_progress dsimp only) | split)

theorem Frame.toothError {o : State} {ps : List Piece} (t prev : Tb) (pos : Nat) (s : State) (h0 : State.onlyIn o s ps) (kregs : Piece.regs ∈ ps) (khif : Piece.hif ∈ ps) (kadc : Piece.adc ∈ ps) :
    State.onlyIn o (State.toothError t prev pos s) ps := by
  unfold Sys2Proof.Machine.State.toothError
  dsimp -failIfUnchanged only
  with_reducible repeat' (first | assumption | (intro _) | apply Frame.ite | apply Frame.ite2 | apply Frame.foldl | apply Frame.foldl2 | apply Frame.set | apply Frame.sample | apply h0 | (fail_if_no_progress beta_reduce) | (fail_if_no_progress dsimp only) | split)

theorem Frame.phaseDecided {o : State} {ps : List Piece} (wrong : Bool) (input : Nat) (t : Tb) (s : State) (h0 : State.onlyIn o s ps) (kregs : Piece.regs ∈ ps) (ksys : Piece.sys ∈ ps) (khif : Piece.hif ∈ ps) (kevc : Piece.evc ∈ ps) (kwhl : Piece.whl ∈ ps) (kang : Piece.ang ∈ ps) (ksch : Piece.sch ∈ ps) (kbanks : Piece.banks ∈ ps) (kquads : Piece.quads ∈ ps) (kedges : Piece.edges ∈ ps) (kink : Piece.ink ∈ ps) (kadc : Piece.adc ∈ ps) (kcmps : Piece.cmps ∈ ps) (ktmrs : Piece.tmrs ∈ ps) (knibs : Piece.nibs ∈ ps) (ktst : Piece.tst ∈ ps) :
    State.onlyIn o (State.phaseDecided wrong input t s) ps := by
  unfold Sys2Proof.Machine.State.phaseDecided
  dsimp -failIfUnchanged only
  with_reducible repeat' (first | assumption | (intro _) | apply Frame.ite | apply Frame.ite2 | apply Frame.foldl | apply Frame.foldl2 | apply Frame.halfStep | apply Frame.moveClock | apply Frame.sync | apply h0 | simp only [Frame.mk_iff] | apply Frame.with_whl | apply Frame.with_ang | apply Frame.parts | (exact Or.inl ‹_›) | apply Frame.part_part | apply Frame.part_clk | apply Frame.part_regs | apply Frame.part_sys | apply Frame.part_hif | apply Frame.part_evc | apply Frame.part_sec | apply Frame.part_whl | apply Frame.part_ang | apply Frame.part_sch | apply Frame.part_banks | apply Frame.part_quads | apply Frame.part_edges | apply Frame.part_ink | apply Frame.part_grds | apply Frame.part_adc | apply Frame.part_cmps | apply Frame.part_tmrs | apply Frame.part_nibs | apply Frame.part_tst | apply Frame.part_slur | apply Frame.part_jtag | apply Frame.part_ans | apply Frame.part_freeCtr | apply Frame.part_pending | (fail_if_no_progress beta_reduce) | (fail_if_no_progress dsimp only) | split)

theorem Frame.judgeCam {o : State} {ps : List Piece} (t : Tb) (s : State) (h0 : State.onlyIn o s ps) (kregs : Piece.regs ∈ ps) (ksys : Piece.sys ∈ ps) (khif : Piece.hif ∈ ps) (kevc : Piece.evc ∈ ps) (kwhl : Piece.whl ∈ ps) (kang : Piece.ang ∈ ps) (ksch : Piece.sch ∈ ps) (kbanks : Piece.banks ∈ ps) (kquads : Piece.quads ∈ ps) (kedges : Piece.edges ∈ ps) (kink : Piece.ink ∈ ps) (kadc : Piece.adc ∈ ps) (kcmps : Piece.cmps ∈ ps) (ktmrs : Piece.tmrs ∈ ps) (knibs : Piece.nibs ∈ ps) (ktst : Piece.tst ∈ ps) :
    State.onlyIn o (State.judgeCam t s) ps := by
  unfold Sys2Proof.Machine.State.judgeCam
  dsimp -failIfUnchanged only
  with_reducible repeat' (first | assumption | (intro _) | apply Frame.ite | apply Frame.ite2 | apply Frame.foldl | apply Frame.foldl2 | apply Frame.sync | apply Frame.count | apply Frame.phaseDecided | apply h0 | simp only [Frame.mk_iff] | apply Frame.with_whl | (fail_if_no_progress beta_reduce) | (fail_if_no_progress dsimp only) | split)

theorem Frame.changeSet {o : State} {ps : List Piece} (s : State) (h0 : State.onlyIn o s ps) (kwhl : Piece.whl ∈ ps) :
    State.onlyIn o (State.changeSet s) ps := by
  unfold Sys2Proof.Machine.State.changeSet
  dsimp -failIfUnchanged only
  with_reducible repeat' (first | assumption | (intro _) | apply Frame.ite | apply Frame.ite2 | apply Frame.foldl | apply Frame.foldl2 | apply h0 | simp only [Frame.mk_iff] | apply Frame.with_whl | (fail_if_no_progress beta_reduce) | (fail_if_no_progress dsimp only) | split)

theorem Frame.torsUpdate {o : State} {ps : List Piece} (gap : Bool) (s : State) (h0 : State.onlyIn o s ps) (kregs : Piece.regs ∈ ps) (ksys : Piece.sys ∈ ps) (khif : Piece.hif ∈ ps) (kevc : Piece.evc ∈ ps) (kwhl : Piece.whl ∈ ps) (kang : Piece.ang ∈ ps) (ksch : Piece.sch ∈ ps) (kbanks : Piece.banks ∈ ps) (kquads : Piece.quads ∈ ps) (kedges : Piece.edges ∈ ps) (kink : Piece.ink ∈ ps) (kadc : Piece.adc ∈ ps) (kcmps : Piece.cmps ∈ ps) (knibs : Piece.nibs ∈ ps) (ktst : Piece.tst ∈ ps) :
    State.onlyIn o (State.torsUpdate gap s) ps := by
  unfold Sys2Proof.Machine.State.torsUpdate
  dsimp -failIfUnchanged only
  with_reducible repeat' (first | assumption | (intro _) | apply Frame.ite | apply Frame.ite2 | apply Frame.foldl | apply Frame.foldl2 | apply Frame.sync | apply h0 | simp only [Frame.mk_iff] | apply Frame.with_ang | (fail_if_no_progress beta_reduce) | (fail_if_no_progress dsimp only) | split)

theorem Frame.edgeWork {o : State} {ps : List Piece} (s : State) (h0 : State.onlyIn o s ps) (kregs : Piece.regs ∈ ps) (ksys : Piece.sys ∈ ps) (khif : Piece.hif ∈ ps) (kevc : Piece.evc ∈ ps) (kwhl : Piece.whl ∈ ps) (kang : Piece.ang ∈ ps) (ksch : Piece.sch ∈ ps) (kbanks : Piece.banks ∈ ps) (kquads : Piece.quads ∈ ps) (kedges : Piece.edges ∈ ps) (kink : Piece.ink ∈ ps) (kadc : Piece.adc ∈ ps) (kcmps : Piece.cmps ∈ ps) (knibs : Piece.nibs ∈ ps) (ktst : Piece.tst ∈ ps) :
    State.onlyIn o (State.edgeWork s) ps := by
  unfold Sys2Proof.Machine.State.edgeWork
  dsimp -failIfUnchanged only
  with_reducible repeat' (first | assumption | (intro _) | apply Frame.ite | apply Frame.ite2 | apply Frame.foldl | apply Frame.foldl2 | apply Frame.convertLocks | apply Frame.sync | apply Frame.coastEdge | apply Frame.holdWaiting | apply Frame.rekeyAll | apply h0 | (fail_if_no_progress beta_reduce) | (fail_if_no_progress dsimp only) | split)

theorem Frame.takeTooth {o : State} {ps : List Piece} (c : EdgeClass) (clean : Bool) (t : Tb) (interval : Nat) (s : State) (h0 : State.onlyIn o s ps) (kregs : Piece.regs ∈ ps) (khif : Piece.hif ∈ ps) (kwhl : Piece.whl ∈ ps) (kang : Piece.ang ∈ ps) (kadc : Piece.adc ∈ ps) :
    State.onlyIn o (State.takeTooth c clean t interval s) ps := by
  unfold Sys2Proof.Machine.State.takeTooth
  dsimp -failIfUnchanged only
  with_reducible repeat' (first | assumption | (intro _) | apply Frame.ite | apply Frame.ite2 | apply Frame.foldl | apply Frame.foldl2 | apply Frame.toothError | apply Frame.kept | apply Frame.changeSet | apply h0 | simp only [Frame.mk_iff] | apply Frame.with_whl | apply Frame.with_ang | apply Frame.parts | (exact Or.inl ‹_›) | apply Frame.part_part | apply Frame.part_clk | apply Frame.part_regs | apply Frame.part_sys | apply Frame.part_hif | apply Frame.part_evc | apply Frame.part_sec | apply Frame.part_whl | apply Frame.part_ang | apply Frame.part_sch | apply Frame.part_banks | apply Frame.part_quads | apply Frame.part_edges | apply Frame.part_ink | apply Frame.part_grds | apply Frame.part_adc | apply Frame.part_cmps | apply Frame.part_tmrs | apply Frame.part_nibs | apply Frame.part_tst | apply Frame.part_slur | apply Frame.part_jtag | apply Frame.part_ans | apply Frame.part_freeCtr | apply Frame.part_pending | (fail_if_no_progress beta_reduce) | (fail_if_no_progress dsimp only) | split)

theorem Frame.followTooth {o : State} {ps : List Piece} (c : EdgeClass) (clean : Bool) (t : Tb) (interval : Nat) (rev : Bool) (s : State) (h0 : State.onlyIn o s ps) (kregs : Piece.regs ∈ ps) (ksys : Piece.sys ∈ ps) (khif : Piece.hif ∈ ps) (kevc : Piece.evc ∈ ps) (kwhl : Piece.whl ∈ ps) (kang : Piece.ang ∈ ps) (ksch : Piece.sch ∈ ps) (kbanks : Piece.banks ∈ ps) (kquads : Piece.quads ∈ ps) (kedges : Piece.edges ∈ ps) (kink : Piece.ink ∈ ps) (kadc : Piece.adc ∈ ps) (kcmps : Piece.cmps ∈ ps) (ktmrs : Piece.tmrs ∈ ps) (knibs : Piece.nibs ∈ ps) (ktst : Piece.tst ∈ ps) :
    State.onlyIn o (State.followTooth c clean t interval rev s) ps := by
  unfold Sys2Proof.Machine.State.followTooth
  dsimp -failIfUnchanged only
  with_reducible repeat' (first | assumption | (intro _) | apply Frame.ite | apply Frame.ite2 | apply Frame.foldl | apply Frame.foldl2 | apply Frame.moveClock | apply Frame.set | apply Frame.count | apply Frame.revolve | apply Frame.learn | apply Frame.torsUpdate | apply Frame.setPitch | apply Frame.backStep | apply h0 | simp only [Frame.mk_iff] | apply Frame.with_whl | (fail_if_no_progress beta_reduce) | (fail_if_no_progress dsimp only) | split)

theorem Frame.countClass {o : State} {ps : List Piece} (c : EdgeClass) (s : State) (h0 : State.onlyIn o s ps) (kregs : Piece.regs ∈ ps) :
    State.onlyIn o (State.countClass c s) ps := by
  unfold Sys2Proof.Machine.State.countClass
  dsimp -failIfUnchanged only
  with_reducible repeat' (first | assumption | (intro _) | apply Frame.ite | apply Frame.ite2 | apply Frame.foldl | apply Frame.foldl2 | apply Frame.count | apply h0 | (fail_if_no_progress beta_reduce) | (fail_if_no_progress dsimp only) | split)

theorem Frame.judgeEdge {o : State} {ps : List Piece} (c : EdgeClass) (t : Tb) (s : State) (h0 : State.onlyIn o s ps) (kregs : Piece.regs ∈ ps) (ksys : Piece.sys ∈ ps) (khif : Piece.hif ∈ ps) (kevc : Piece.evc ∈ ps) (kwhl : Piece.whl ∈ ps) (kang : Piece.ang ∈ ps) (ksch : Piece.sch ∈ ps) (kbanks : Piece.banks ∈ ps) (kquads : Piece.quads ∈ ps) (kedges : Piece.edges ∈ ps) (kink : Piece.ink ∈ ps) (kadc : Piece.adc ∈ ps) (kcmps : Piece.cmps ∈ ps) (knibs : Piece.nibs ∈ ps) (ktst : Piece.tst ∈ ps) :
    State.onlyIn o (State.judgeEdge c t s) ps := by
  unfold Sys2Proof.Machine.State.judgeEdge
  dsimp -failIfUnchanged only
  with_reducible repeat' (first | assumption | (intro _) | apply Frame.ite | apply Frame.ite2 | apply Frame.foldl | apply Frame.foldl2 | apply Frame.sync | apply h0 | (fail_if_no_progress beta_reduce) | (fail_if_no_progress dsimp only) | split)

theorem Frame.judgeAgain {o : State} {ps : List Piece} (tag : Nat) (s : State) (h0 : State.onlyIn o s ps) (kregs : Piece.regs ∈ ps) (ksys : Piece.sys ∈ ps) (khif : Piece.hif ∈ ps) (kevc : Piece.evc ∈ ps) (kwhl : Piece.whl ∈ ps) (kang : Piece.ang ∈ ps) (ksch : Piece.sch ∈ ps) (kbanks : Piece.banks ∈ ps) (kquads : Piece.quads ∈ ps) (kedges : Piece.edges ∈ ps) (kink : Piece.ink ∈ ps) (kadc : Piece.adc ∈ ps) (kcmps : Piece.cmps ∈ ps) (knibs : Piece.nibs ∈ ps) (ktst : Piece.tst ∈ ps) :
    State.onlyIn o (State.judgeAgain tag s) ps := by
  unfold Sys2Proof.Machine.State.judgeAgain
  dsimp -failIfUnchanged only
  with_reducible repeat' (first | assumption | (intro _) | apply Frame.ite | apply Frame.ite2 | apply Frame.foldl | apply Frame.foldl2 | apply Frame.sync | apply h0 | simp only [Frame.mk_iff] | apply Frame.with_whl | (fail_if_no_progress beta_reduce) | (fail_if_no_progress dsimp only) | split)

theorem Frame.accept {o : State} {ps : List Piece} (c : EdgeClass) (conf : Bool) (t : Tb) (s : State) (h0 : State.onlyIn o s ps) (kregs : Piece.regs ∈ ps) (ksys : Piece.sys ∈ ps) (khif : Piece.hif ∈ ps) (kevc : Piece.evc ∈ ps) (kwhl : Piece.whl ∈ ps) (kang : Piece.ang ∈ ps) (ksch : Piece.sch ∈ ps) (kbanks : Piece.banks ∈ ps) (kquads : Piece.quads ∈ ps) (kedges : Piece.edges ∈ ps) (kink : Piece.ink ∈ ps) (kadc : Piece.adc ∈ ps) (kcmps : Piece.cmps ∈ ps) (ktmrs : Piece.tmrs ∈ ps) (knibs : Piece.nibs ∈ ps) (ktst : Piece.tst ∈ ps) :
    State.onlyIn o (State.accept c conf t s) ps := by
  unfold Sys2Proof.Machine.State.accept
  dsimp -failIfUnchanged only
  with_reducible repeat' (first | assumption | (intro _) | apply Frame.ite | apply Frame.ite2 | apply Frame.foldl | apply Frame.foldl2 | apply Frame.sync | apply Frame.countClass | apply Frame.seekFrom | apply Frame.takeTooth | apply Frame.followTooth | apply Frame.judgeEdge | apply Frame.judgeAgain | apply Frame.judgeCam | apply Frame.edgeWork | apply h0 | (fail_if_no_progress beta_reduce) | (fail_if_no_progress dsimp only) | split)

theorem Frame.syncDone {o : State} {ps : List Piece} (t : Tb) (s : State) (h0 : State.onlyIn o s ps) (kregs : Piece.regs ∈ ps) (ksys : Piece.sys ∈ ps) (khif : Piece.hif ∈ ps) (kevc : Piece.evc ∈ ps) (kwhl : Piece.whl ∈ ps) (kang : Piece.ang ∈ ps) (ksch : Piece.sch ∈ ps) (kbanks : Piece.banks ∈ ps) (kquads : Piece.quads ∈ ps) (kedges : Piece.edges ∈ ps) (kink : Piece.ink ∈ ps) (kadc : Piece.adc ∈ ps) (kcmps : Piece.cmps ∈ ps) (ktmrs : Piece.tmrs ∈ ps) (knibs : Piece.nibs ∈ ps) (ktst : Piece.tst ∈ ps) :
    State.onlyIn o (State.syncDone t s) ps := by
  unfold Sys2Proof.Machine.State.syncDone
  dsimp -failIfUnchanged only
  with_reducible repeat' (first | assumption | (intro _) | apply Frame.ite | apply Frame.ite2 | apply Frame.foldl | apply Frame.foldl2 | apply Frame.setPitch | apply Frame.sync | apply Frame.phaseDecided | apply Frame.edgeWork | apply h0 | simp only [Frame.mk_iff] | apply Frame.with_whl | apply Frame.with_ang | apply Frame.parts | (exact Or.inl ‹_›) | apply Frame.part_part | apply Frame.part_clk | apply Frame.part_regs | apply Frame.part_sys | apply Frame.part_hif | apply Frame.part_evc | apply Frame.part_sec | apply Frame.part_whl | apply Frame.part_ang | apply Frame.part_sch | apply Frame.part_banks | apply Frame.part_quads | apply Frame.part_edges | apply Frame.part_ink | apply Frame.part_grds | apply Frame.part_adc | apply Frame.part_cmps | apply Frame.part_tmrs | apply Frame.part_nibs | apply Frame.part_tst | apply Frame.part_slur | apply Frame.part_jtag | apply Frame.part_ans | apply Frame.part_freeCtr | apply Frame.part_pending | (fail_if_no_progress beta_reduce) | (fail_if_no_progress dsimp only) | split)

theorem Frame.seekEdge {o : State} {ps : List Piece} (c : EdgeClass) (interval : Nat) (t : Tb) (s : State) (h0 : State.onlyIn o s ps) (kregs : Piece.regs ∈ ps) (ksys : Piece.sys ∈ ps) (khif : Piece.hif ∈ ps) (kevc : Piece.evc ∈ ps) (kwhl : Piece.whl ∈ ps) (kang : Piece.ang ∈ ps) (ksch : Piece.sch ∈ ps) (kbanks : Piece.banks ∈ ps) (kquads : Piece.quads ∈ ps) (kedges : Piece.edges ∈ ps) (kink : Piece.ink ∈ ps) (kadc : Piece.adc ∈ ps) (kcmps : Piece.cmps ∈ ps) (ktmrs : Piece.tmrs ∈ ps) (knibs : Piece.nibs ∈ ps) (ktst : Piece.tst ∈ ps) :
    State.onlyIn o (State.seekEdge c interval t s) ps := by
  unfold Sys2Proof.Machine.State.seekEdge
  dsimp -failIfUnchanged only
  with_reducible repeat' (first | assumption | (intro _) | apply Frame.ite | apply Frame.ite2 | apply Frame.foldl | apply Frame.foldl2 | apply Frame.kept | apply Frame.syncDone | apply Frame.count | apply Frame.seekFrom | apply h0 | simp only [Frame.mk_iff] | apply Frame.with_whl | apply Frame.with_ang | apply Frame.parts | (exact Or.inl ‹_›) | apply Frame.part_part | apply Frame.part_clk | apply Frame.part_regs | apply Frame.part_sys | apply Frame.part_hif | apply Frame.part_evc | apply Frame.part_sec | apply Frame.part_whl | apply Frame.part_ang | apply Frame.part_sch | apply Frame.part_banks | apply Frame.part_quads | apply Frame.part_edges | apply Frame.part_ink | apply Frame.part_grds | apply Frame.part_adc | apply Frame.part_cmps | apply Frame.part_tmrs | apply Frame.part_nibs | apply Frame.part_tst | apply Frame.part_slur | apply Frame.part_jtag | apply Frame.part_ans | apply Frame.part_freeCtr | apply Frame.part_pending | (fail_if_no_progress beta_reduce) | (fail_if_no_progress dsimp only) | split)

theorem Frame.learnEdge {o : State} {ps : List Piece} (t : Tb) (s : State) (h0 : State.onlyIn o s ps) (kregs : Piece.regs ∈ ps) (khif : Piece.hif ∈ ps) (kwhl : Piece.whl ∈ ps) (kang : Piece.ang ∈ ps) :
    State.onlyIn o (State.learnEdge t s) ps := by
  unfold Sys2Proof.Machine.State.learnEdge
  dsimp -failIfUnchanged only
  with_reducible repeat' (first | assumption | (intro _) | apply Frame.ite | apply Frame.ite2 | apply Frame.foldl | apply Frame.foldl2 | apply Frame.kept | apply Frame.toothTrace | apply h0 | simp only [Frame.mk_iff] | apply Frame.with_whl | apply Frame.with_ang | apply Frame.parts | (exact Or.inl ‹_›) | apply Frame.part_part | apply Frame.part_clk | apply Frame.part_regs | apply Frame.part_sys | apply Frame.part_hif | apply Frame.part_evc | apply Frame.part_sec | apply Frame.part_whl | apply Frame.part_ang | apply Frame.part_sch | apply Frame.part_banks | apply Frame.part_quads | apply Frame.part_edges | apply Frame.part_ink | apply Frame.part_grds | apply Frame.part_adc | apply Frame.part_cmps | apply Frame.part_tmrs | apply Frame.part_nibs | apply Frame.part_tst | apply Frame.part_slur | apply Frame.part_jtag | apply Frame.part_ans | apply Frame.part_freeCtr | apply Frame.part_pending | (fail_if_no_progress beta_reduce) | (fail_if_no_progress dsimp only) | split)

theorem Frame.take {o : State} {ps : List Piece} (c : EdgeClass) (r : Nat) (interval : Nat) (t : Tb) (s : State) (h0 : State.onlyIn o s ps) (kregs : Piece.regs ∈ ps) (ksys : Piece.sys ∈ ps) (khif : Piece.hif ∈ ps) (kevc : Piece.evc ∈ ps) (kwhl : Piece.whl ∈ ps) (kang : Piece.ang ∈ ps) (ksch : Piece.sch ∈ ps) (kbanks : Piece.banks ∈ ps) (kquads : Piece.quads ∈ ps) (kedges : Piece.edges ∈ ps) (kink : Piece.ink ∈ ps) (kadc : Piece.adc ∈ ps) (kcmps : Piece.cmps ∈ ps) (ktmrs : Piece.tmrs ∈ ps) (knibs : Piece.nibs ∈ ps) (ktst : Piece.tst ∈ ps) :
    State.onlyIn o (State.take c r interval t s) ps := by
  unfold Sys2Proof.Machine.State.take
  dsimp -failIfUnchanged only
  with_reducible repeat' (first | assumption | (intro _) | apply Frame.ite | apply Frame.ite2 | apply Frame.foldl | apply Frame.foldl2 | apply Frame.count | apply Frame.toothTrace | apply Frame.accept | apply Frame.seekEdge | apply h0 | simp only [Frame.mk_iff] | apply Frame.with_whl | (fail_if_no_progress beta_reduce) | (fail_if_no_progress dsimp only) | split)

theorem Frame.classify {o : State} {ps : List Piece} (t : Tb) (s : State) (h0 : State.onlyIn o s ps) (kregs : Piece.regs ∈ ps) (ksys : Piece.sys ∈ ps) (khif : Piece.hif ∈ ps) (kevc : Piece.evc ∈ ps) (kwhl : Piece.whl ∈ ps) (kang : Piece.ang ∈ ps) (ksch : Piece.sch ∈ ps) (kbanks : Piece.banks ∈ ps) (kquads : Piece.quads ∈ ps) (kedges : Piece.edges ∈ ps) (kink : Piece.ink ∈ ps) (kadc : Piece.adc ∈ ps) (kcmps : Piece.cmps ∈ ps) (ktmrs : Piece.tmrs ∈ ps) (knibs : Piece.nibs ∈ ps) (ktst : Piece.tst ∈ ps) :
    State.onlyIn o (State.classify t s) ps := by
  unfold Sys2Proof.Machine.State.classify
  dsimp -failIfUnchanged only
  with_reducible repeat' (first | assumption | (intro _) | apply Frame.ite | apply Frame.ite2 | apply Frame.foldl | apply Frame.foldl2 | apply Frame.take | apply h0 | (fail_if_no_progress beta_reduce) | (fail_if_no_progress dsimp only) | split)

theorem Frame.confirm {o : State} {ps : List Piece} (pv : Prov) (s : State) (h0 : State.onlyIn o s ps) (kregs : Piece.regs ∈ ps) (ksys : Piece.sys ∈ ps) (khif : Piece.hif ∈ ps) (kevc : Piece.evc ∈ ps) (kwhl : Piece.whl ∈ ps) (kang : Piece.ang ∈ ps) (ksch : Piece.sch ∈ ps) (kbanks : Piece.banks ∈ ps) (kquads : Piece.quads ∈ ps) (kedges : Piece.edges ∈ ps) (kink : Piece.ink ∈ ps) (kadc : Piece.adc ∈ ps) (kcmps : Piece.cmps ∈ ps) (ktmrs : Piece.tmrs ∈ ps) (knibs : Piece.nibs ∈ ps) (ktst : Piece.tst ∈ ps) :
    State.onlyIn o (State.confirm pv s) ps := by
  unfold Sys2Proof.Machine.State.confirm
  dsimp -failIfUnchanged only
  with_reducible repeat' (first | assumption | (intro _) | apply Frame.ite | apply Frame.ite2 | apply Frame.foldl | apply Frame.foldl2 | apply Frame.accept | apply Frame.toothTrace | apply Frame.seekEdge | apply h0 | simp only [Frame.mk_iff] | apply Frame.with_whl | (fail_if_no_progress beta_reduce) | (fail_if_no_progress dsimp only) | split)

theorem Frame.settle {o : State} {ps : List Piece} (pv : Prov) (t : Tb) (s : State) (h0 : State.onlyIn o s ps) (kregs : Piece.regs ∈ ps) (ksys : Piece.sys ∈ ps) (khif : Piece.hif ∈ ps) (kevc : Piece.evc ∈ ps) (kwhl : Piece.whl ∈ ps) (kang : Piece.ang ∈ ps) (ksch : Piece.sch ∈ ps) (kbanks : Piece.banks ∈ ps) (kquads : Piece.quads ∈ ps) (kedges : Piece.edges ∈ ps) (kink : Piece.ink ∈ ps) (kadc : Piece.adc ∈ ps) (kcmps : Piece.cmps ∈ ps) (ktmrs : Piece.tmrs ∈ ps) (knibs : Piece.nibs ∈ ps) (ktst : Piece.tst ∈ ps) :
    State.onlyIn o (State.settle pv t s) ps := by
  unfold Sys2Proof.Machine.State.settle
  dsimp -failIfUnchanged only
  with_reducible repeat' (first | assumption | (intro _) | apply Frame.ite | apply Frame.ite2 | apply Frame.foldl | apply Frame.foldl2 | apply Frame.count | apply Frame.toothTrace | apply Frame.confirm | apply Frame.sync | apply Frame.learnEdge | apply Frame.classify | apply Frame.take | apply h0 | simp only [Frame.mk_iff] | apply Frame.with_whl | (fail_if_no_progress beta_reduce) | (fail_if_no_progress dsimp only) | split)

theorem Frame.exactEdge {o : State} {ps : List Piece} (t : Tb) (s : State) (h0 : State.onlyIn o s ps) (kregs : Piece.regs ∈ ps) (ksys : Piece.sys ∈ ps) (khif : Piece.hif ∈ ps) (kevc : Piece.evc ∈ ps) (kwhl : Piece.whl ∈ ps) (kang : Piece.ang ∈ ps) (ksch : Piece.sch ∈ ps) (kbanks : Piece.banks ∈ ps) (kquads : Piece.quads ∈ ps) (kedges : Piece.edges ∈ ps) (kink : Piece.ink ∈ ps) (kadc : Piece.adc ∈ ps) (kcmps : Piece.cmps ∈ ps) (ktmrs : Piece.tmrs ∈ ps) (knibs : Piece.nibs ∈ ps) (ktst : Piece.tst ∈ ps) :
    State.onlyIn o (State.exactEdge t s) ps := by
  unfold Sys2Proof.Machine.State.exactEdge
  dsimp -failIfUnchanged only
  with_reducible repeat' (first | assumption | (intro _) | apply Frame.ite | apply Frame.ite2 | apply Frame.foldl | apply Frame.foldl2 | apply Frame.sync | apply Frame.seekFrom | apply Frame.toothTrace | apply Frame.learnEdge | apply Frame.settle | apply Frame.classify | apply h0 | (fail_if_no_progress beta_reduce) | (fail_if_no_progress dsimp only) | split)

theorem Frame.crank {o : State} {ps : List Piece} (stamp : Tb) (width peak : Nat) (s : State) (h0 : State.onlyIn o s ps) (kregs : Piece.regs ∈ ps) (ksys : Piece.sys ∈ ps) (khif : Piece.hif ∈ ps) (kevc : Piece.evc ∈ ps) (kwhl : Piece.whl ∈ ps) (kang : Piece.ang ∈ ps) (ksch : Piece.sch ∈ ps) (kbanks : Piece.banks ∈ ps) (kquads : Piece.quads ∈ ps) (kedges : Piece.edges ∈ ps) (kink : Piece.ink ∈ ps) (kadc : Piece.adc ∈ ps) (kcmps : Piece.cmps ∈ ps) (ktmrs : Piece.tmrs ∈ ps) (knibs : Piece.nibs ∈ ps) (ktst : Piece.tst ∈ ps) :
    State.onlyIn o (State.crank stamp width peak s) ps := by
  unfold Sys2Proof.Machine.State.crank
  dsimp -failIfUnchanged only
  with_reducible repeat' (first | assumption | (intro _) | apply Frame.ite | apply Frame.ite2 | apply Frame.foldl | apply Frame.foldl2 | apply Frame.count | apply Frame.exactEdge | apply h0 | simp only [Frame.mk_iff] | apply Frame.with_sys | apply Frame.with_whl | apply Frame.parts | (exact Or.inl ‹_›) | apply Frame.part_part | apply Frame.part_clk | apply Frame.part_regs | apply Frame.part_sys | apply Frame.part_hif | apply Frame.part_evc | apply Frame.part_sec | apply Frame.part_whl | apply Frame.part_ang | apply Frame.part_sch | apply Frame.part_banks | apply Frame.part_quads | apply Frame.part_edges | apply Frame.part_ink | apply Frame.part_grds | apply Frame.part_adc | apply Frame.part_cmps | apply Frame.part_tmrs | apply Frame.part_nibs | apply Frame.part_tst | apply Frame.part_slur | apply Frame.part_jtag | apply Frame.part_ans | apply Frame.part_freeCtr | apply Frame.part_pending | (fail_if_no_progress beta_reduce) | (fail_if_no_progress dsimp only) | split)

theorem Frame.coarse {o : State} {ps : List Piece} (s : State) (h0 : State.onlyIn o s ps) (kregs : Piece.regs ∈ ps) (khif : Piece.hif ∈ ps) (kwhl : Piece.whl ∈ ps) :
    State.onlyIn o (State.coarse s) ps := by
  unfold Sys2Proof.Machine.State.coarse
  dsimp -failIfUnchanged only
  with_reducible repeat' (first | assumption | (intro _) | apply Frame.ite | apply Frame.ite2 | apply Frame.foldl | apply Frame.foldl2 | apply Frame.set | apply Frame.count | apply Frame.trace | apply h0 | simp only [Frame.mk_iff] | apply Frame.with_whl | (fail_if_no_progress beta_reduce) | (fail_if_no_progress dsimp only) | split)

theorem Frame.refEdge {o : State} {ps : List Piece} (t : Tb) (s : State) (h0 : State.onlyIn o s ps) (kregs : Piece.regs ∈ ps) (ksys : Piece.sys ∈ ps) (khif : Piece.hif ∈ ps) (kevc : Piece.evc ∈ ps) (kwhl : Piece.whl ∈ ps) (kang : Piece.ang ∈ ps) (ksch : Piece.sch ∈ ps) (kbanks : Piece.banks ∈ ps) (kquads : Piece.quads ∈ ps) (kedges : Piece.edges ∈ ps) (kink : Piece.ink ∈ ps) (kadc : Piece.adc ∈ ps) (kcmps : Piece.cmps ∈ ps) (knibs : Piece.nibs ∈ ps) (ktst : Piece.tst ∈ ps) :
    State.onlyIn o (State.refEdge t s) ps := by
  unfold Sys2Proof.Machine.State.refEdge
  dsimp -failIfUnchanged only
  with_reducible repeat' (first | assumption | (intro _) | apply Frame.ite | apply Frame.ite2 | apply Frame.foldl | apply Frame.foldl2 | apply Frame.sync | apply h0 | simp only [Frame.mk_iff] | apply Frame.with_whl | (fail_if_no_progress beta_reduce) | (fail_if_no_progress dsimp only) | split)

theorem Frame.cam {o : State} {ps : List Piece} (n : Nat) (falling : Bool) (stamp : Tb) (width peak : Nat) (s : State) (h0 : State.onlyIn o s ps) (kregs : Piece.regs ∈ ps) (ksys : Piece.sys ∈ ps) (khif : Piece.hif ∈ ps) (kevc : Piece.evc ∈ ps) (kwhl : Piece.whl ∈ ps) (kang : Piece.ang ∈ ps) (ksch : Piece.sch ∈ ps) (kbanks : Piece.banks ∈ ps) (kquads : Piece.quads ∈ ps) (kedges : Piece.edges ∈ ps) (kink : Piece.ink ∈ ps) (kadc : Piece.adc ∈ ps) (kcmps : Piece.cmps ∈ ps) (knibs : Piece.nibs ∈ ps) (ktst : Piece.tst ∈ ps) :
    State.onlyIn o (State.cam n falling stamp width peak s) ps := by
  unfold Sys2Proof.Machine.State.cam
  dsimp -failIfUnchanged only
  with_reducible repeat' (first | assumption | (intro _) | apply Frame.ite | apply Frame.ite2 | apply Frame.foldl | apply Frame.foldl2 | apply Frame.putWord | apply Frame.refEdge | apply h0 | simp only [Frame.mk_iff] | apply Frame.with_whl | (fail_if_no_progress beta_reduce) | (fail_if_no_progress dsimp only) | split)

theorem Frame.doStall {o : State} {ps : List Piece} (s : State) (h0 : State.onlyIn o s ps) (kregs : Piece.regs ∈ ps) (ksys : Piece.sys ∈ ps) (khif : Piece.hif ∈ ps) (kevc : Piece.evc ∈ ps) (kwhl : Piece.whl ∈ ps) (kang : Piece.ang ∈ ps) (ksch : Piece.sch ∈ ps) (kbanks : Piece.banks ∈ ps) (kquads : Piece.quads ∈ ps) (kedges : Piece.edges ∈ ps) (kink : Piece.ink ∈ ps) (kadc : Piece.adc ∈ ps) (kcmps : Piece.cmps ∈ ps) (knibs : Piece.nibs ∈ ps) (ktst : Piece.tst ∈ ps) :
    State.onlyIn o (State.doStall s) ps := by
  unfold Sys2Proof.Machine.State.doStall
  dsimp -failIfUnchanged only
  with_reducible repeat' (first | assumption | (intro _) | apply Frame.ite | apply Frame.ite2 | apply Frame.foldl | apply Frame.foldl2 | apply Frame.sync | apply Frame.coarse | apply h0 | simp only [Frame.mk_iff] | apply Frame.with_whl | (fail_if_no_progress beta_reduce) | (fail_if_no_progress dsimp only) | split)

theorem Frame.syncResetNow {o : State} {ps : List Piece} (s : State) (h0 : State.onlyIn o s ps) (kregs : Piece.regs ∈ ps) (ksys : Piece.sys ∈ ps) (khif : Piece.hif ∈ ps) (kevc : Piece.evc ∈ ps) (kwhl : Piece.whl ∈ ps) (kang : Piece.ang ∈ ps) (ksch : Piece.sch ∈ ps) (kbanks : Piece.banks ∈ ps) (kquads : Piece.quads ∈ ps) (kedges : Piece.edges ∈ ps) (kink : Piece.ink ∈ ps) (kadc : Piece.adc ∈ ps) (kcmps : Piece.cmps ∈ ps) (knibs : Piece.nibs ∈ ps) (ktst : Piece.tst ∈ ps) :
    State.onlyIn o (State.syncResetNow s) ps := by
  unfold Sys2Proof.Machine.State.syncResetNow
  dsimp -failIfUnchanged only
  with_reducible repeat' (first | assumption | (intro _) | apply Frame.ite | apply Frame.ite2 | apply Frame.foldl | apply Frame.foldl2 | apply Frame.sync | apply Frame.seekFrom | apply h0 | (fail_if_no_progress beta_reduce) | (fail_if_no_progress dsimp only) | split)

theorem Frame.syncResetWrite {o : State} {ps : List Piece} (p : Port) (v : Word) (s : State) (h0 : State.onlyIn o s ps) (kregs : Piece.regs ∈ ps) (ksys : Piece.sys ∈ ps) (khif : Piece.hif ∈ ps) (kevc : Piece.evc ∈ ps) (ksec : Piece.sec ∈ ps) (kwhl : Piece.whl ∈ ps) (kang : Piece.ang ∈ ps) (ksch : Piece.sch ∈ ps) (kbanks : Piece.banks ∈ ps) (kquads : Piece.quads ∈ ps) (kedges : Piece.edges ∈ ps) (kink : Piece.ink ∈ ps) (kadc : Piece.adc ∈ ps) (kcmps : Piece.cmps ∈ ps) (knibs : Piece.nibs ∈ ps) (ktst : Piece.tst ∈ ps) :
    State.onlyIn o (State.syncResetWrite p v s) ps := by
  unfold Sys2Proof.Machine.State.syncResetWrite
  dsimp -failIfUnchanged only
  with_reducible repeat' (first | assumption | (intro _) | apply Frame.ite | apply Frame.ite2 | apply Frame.foldl | apply Frame.foldl2 | apply Frame.busWrite | apply Frame.syncResetNow | apply h0 | (fail_if_no_progress beta_reduce) | (fail_if_no_progress dsimp only) | split)

theorem Frame.terrAccess {o : State} {ps : List Piece} (p : Port) (w : Option Word) (s : State) (h0 : State.onlyIn o s ps) (kregs : Piece.regs ∈ ps) (khif : Piece.hif ∈ ps) (kans : Piece.ans ∈ ps) :
    State.onlyIn o (State.terrAccess p w s) ps := by
  unfold Sys2Proof.Machine.State.terrAccess
  dsimp -failIfUnchanged only
  with_reducible repeat' (first | assumption | (intro _) | apply Frame.ite | apply Frame.ite2 | apply Frame.foldl | apply Frame.foldl2 | apply Frame.answer | apply Frame.putBoth | apply Frame.putWord | apply Frame.deny | apply Frame.set | apply h0 | (fail_if_no_progress beta_reduce) | (fail_if_no_progress dsimp only) | split)

theorem Frame.clearTable {o : State} {ps : List Piece} (lo n : Nat) (role : Nat) (s : State) (h0 : State.onlyIn o s ps) (kregs : Piece.regs ∈ ps) :
    State.onlyIn o (clearTable lo n role s) ps := by
  unfold Sys2Proof.Machine.clearTable
  dsimp -failIfUnchanged only
  with_reducible repeat' (first | assumption | (intro _) | apply Frame.ite | apply Frame.ite2 | apply Frame.foldl | apply Frame.foldl2 | apply Frame.noteHost | apply Frame.putWord | apply Frame.putShadow | apply Frame.markDirty | apply h0 | (fail_if_no_progress beta_reduce) | (fail_if_no_progress dsimp only) | split)

theorem Frame.clearTerrNow {o : State} {ps : List Piece} (role : Nat) (s : State) (h0 : State.onlyIn o s ps) (kregs : Piece.regs ∈ ps) :
    State.onlyIn o (State.clearTerrNow role s) ps := by
  unfold Sys2Proof.Machine.State.clearTerrNow
  dsimp -failIfUnchanged only
  with_reducible repeat' (first | assumption | (intro _) | apply Frame.ite | apply Frame.ite2 | apply Frame.foldl | apply Frame.foldl2 | apply Frame.clearTable | apply Frame.set | apply h0 | (fail_if_no_progress beta_reduce) | (fail_if_no_progress dsimp only) | split)

theorem Frame.clearTorsNow {o : State} {ps : List Piece} (role : Nat) (s : State) (h0 : State.onlyIn o s ps) (kregs : Piece.regs ∈ ps) :
    State.onlyIn o (State.clearTorsNow role s) ps := by
  unfold Sys2Proof.Machine.State.clearTorsNow
  dsimp -failIfUnchanged only
  with_reducible repeat' (first | assumption | (intro _) | apply Frame.ite | apply Frame.ite2 | apply Frame.foldl | apply Frame.foldl2 | apply Frame.clearTable | apply h0 | (fail_if_no_progress beta_reduce) | (fail_if_no_progress dsimp only) | split)

theorem Frame.errRestartNow {o : State} {ps : List Piece} (s : State) (h0 : State.onlyIn o s ps) (kregs : Piece.regs ∈ ps) :
    State.onlyIn o (State.errRestartNow s) ps := by
  unfold Sys2Proof.Machine.State.errRestartNow
  dsimp -failIfUnchanged only
  with_reducible repeat' (first | assumption | (intro _) | apply Frame.ite | apply Frame.ite2 | apply Frame.foldl | apply Frame.foldl2 | apply Frame.putWord | apply h0 | (fail_if_no_progress beta_reduce) | (fail_if_no_progress dsimp only) | split)

theorem Frame.aclkWrite {o : State} {ps : List Piece} (p : Port) (v : Word) (s : State) (h0 : State.onlyIn o s ps) (kregs : Piece.regs ∈ ps) (khif : Piece.hif ∈ ps) (ksec : Piece.sec ∈ ps) (kang : Piece.ang ∈ ps) :
    State.onlyIn o (State.aclkWrite p v s) ps := by
  unfold Sys2Proof.Machine.State.aclkWrite
  dsimp -failIfUnchanged only
  with_reducible repeat' (first | assumption | (intro _) | apply Frame.ite | apply Frame.ite2 | apply Frame.foldl | apply Frame.foldl2 | apply Frame.busWrite | apply Frame.errRestartNow | apply Frame.clearTerrNow | apply Frame.clearTorsNow | apply h0 | simp only [Frame.mk_iff] | apply Frame.with_ang | (fail_if_no_progress beta_reduce) | (fail_if_no_progress dsimp only) | split)

theorem Frame.angleRead {o : State} {ps : List Piece} (p : Port) (s : State) (h0 : State.onlyIn o s ps) (ksec : Piece.sec ∈ ps) (kang : Piece.ang ∈ ps) (kans : Piece.ans ∈ ps) :
    State.onlyIn o (State.angleRead p s) ps := by
  unfold Sys2Proof.Machine.State.angleRead
  dsimp -failIfUnchanged only
  with_reducible repeat' (first | assumption | (intro _) | apply Frame.ite | apply Frame.ite2 | apply Frame.foldl | apply Frame.foldl2 | apply Frame.onRead | apply Frame.answer | apply h0 | simp only [Frame.mk_iff] | apply Frame.with_ang | (fail_if_no_progress beta_reduce) | (fail_if_no_progress dsimp only) | split)

theorem Frame.stampRead {o : State} {ps : List Piece} (p : Port) (s : State) (h0 : State.onlyIn o s ps) (ksec : Piece.sec ∈ ps) (kwhl : Piece.whl ∈ ps) (kans : Piece.ans ∈ ps) :
    State.onlyIn o (State.stampRead p s) ps := by
  unfold Sys2Proof.Machine.State.stampRead
  dsimp -failIfUnchanged only
  with_reducible repeat' (first | assumption | (intro _) | apply Frame.ite | apply Frame.ite2 | apply Frame.foldl | apply Frame.foldl2 | apply Frame.onRead | apply Frame.answer | apply h0 | simp only [Frame.mk_iff] | apply Frame.with_whl | (fail_if_no_progress beta_reduce) | (fail_if_no_progress dsimp only) | split)

/-! Slur -/

theorem Frame.slurSync {o : State} {ps : List Piece} (quiet : Bool) (dst : Sync) (t : Tb) (s : State) (h0 : State.onlyIn o s ps) (kregs : Piece.regs ∈ ps) (ksys : Piece.sys ∈ ps) (khif : Piece.hif ∈ ps) (kevc : Piece.evc ∈ ps) (kwhl : Piece.whl ∈ ps) (kang : Piece.ang ∈ ps) (ksch : Piece.sch ∈ ps) (kbanks : Piece.banks ∈ ps) (kquads : Piece.quads ∈ ps) (kedges : Piece.edges ∈ ps) (kink : Piece.ink ∈ ps) (kadc : Piece.adc ∈ ps) (kcmps : Piece.cmps ∈ ps) (knibs : Piece.nibs ∈ ps) (ktst : Piece.tst ∈ ps) (kfreeCtr : Piece.freeCtr ∈ ps) :
    State.onlyIn o (State.slurSync quiet dst t s) ps := by
  unfold Sys2Proof.Machine.State.slurSync
  dsimp -failIfUnchanged only
  with_reducible repeat' (first | assumption | (intro _) | apply Frame.ite | apply Frame.ite2 | apply Frame.foldl | apply Frame.foldl2 | apply Frame.draw | apply Frame.syncAs | apply h0 | (fail_if_no_progress beta_reduce) | (fail_if_no_progress dsimp only) | split)

theorem Frame.framePitch {o : State} {ps : List Piece} (f : AngleFrame) (s : State) (h0 : State.onlyIn o s ps) (kregs : Piece.regs ∈ ps) (ksys : Piece.sys ∈ ps) (khif : Piece.hif ∈ ps) (kevc : Piece.evc ∈ ps) (kwhl : Piece.whl ∈ ps) (kang : Piece.ang ∈ ps) (ksch : Piece.sch ∈ ps) (kbanks : Piece.banks ∈ ps) (kquads : Piece.quads ∈ ps) (kedges : Piece.edges ∈ ps) (kink : Piece.ink ∈ ps) (kadc : Piece.adc ∈ ps) (kcmps : Piece.cmps ∈ ps) (ktmrs : Piece.tmrs ∈ ps) (knibs : Piece.nibs ∈ ps) (ktst : Piece.tst ∈ ps) :
    State.onlyIn o (State.framePitch f s) ps := by
  unfold Sys2Proof.Machine.State.framePitch
  dsimp -failIfUnchanged only
  with_reducible repeat' (first | assumption | (intro _) | apply Frame.ite | apply Frame.ite2 | apply Frame.foldl | apply Frame.foldl2 | apply Frame.endClamp | apply Frame.moveClock | apply h0 | simp only [Frame.mk_iff] | apply Frame.with_ang | (fail_if_no_progress beta_reduce) | (fail_if_no_progress dsimp only) | split)

theorem Frame.framePos {o : State} {ps : List Piece} (f : AngleFrame) (s : State) (h0 : State.onlyIn o s ps) (kwhl : Piece.whl ∈ ps) :
    State.onlyIn o (State.framePos f s) ps := by
  unfold Sys2Proof.Machine.State.framePos
  dsimp -failIfUnchanged only
  with_reducible repeat' (first | assumption | (intro _) | apply Frame.ite | apply Frame.ite2 | apply Frame.foldl | apply Frame.foldl2 | apply h0 | simp only [Frame.mk_iff] | apply Frame.with_whl | (fail_if_no_progress beta_reduce) | (fail_if_no_progress dsimp only) | split)

theorem Frame.frameEdge {o : State} {ps : List Piece} (f : AngleFrame) (s : State) (h0 : State.onlyIn o s ps) (kregs : Piece.regs ∈ ps) (ksys : Piece.sys ∈ ps) (khif : Piece.hif ∈ ps) (kevc : Piece.evc ∈ ps) (kwhl : Piece.whl ∈ ps) (kang : Piece.ang ∈ ps) (ksch : Piece.sch ∈ ps) (kbanks : Piece.banks ∈ ps) (kquads : Piece.quads ∈ ps) (kedges : Piece.edges ∈ ps) (kink : Piece.ink ∈ ps) (kadc : Piece.adc ∈ ps) (kcmps : Piece.cmps ∈ ps) (ktmrs : Piece.tmrs ∈ ps) (knibs : Piece.nibs ∈ ps) (ktst : Piece.tst ∈ ps) (kfreeCtr : Piece.freeCtr ∈ ps) :
    State.onlyIn o (State.frameEdge f s) ps := by
  unfold Sys2Proof.Machine.State.frameEdge
  dsimp -failIfUnchanged only
  with_reducible repeat' (first | assumption | (intro _) | apply Frame.ite | apply Frame.ite2 | apply Frame.foldl | apply Frame.foldl2 | apply Frame.phaseDecided | apply Frame.moveClock | apply Frame.framePos | apply Frame.set | apply Frame.count | apply Frame.framePitch | apply Frame.backStep | apply Frame.slurSync | apply Frame.sync | apply Frame.edgeWork | apply h0 | simp only [Frame.mk_iff] | apply Frame.with_whl | apply Frame.with_ang | apply Frame.parts | (exact Or.inl ‹_›) | apply Frame.part_part | apply Frame.part_clk | apply Frame.part_regs | apply Frame.part_sys | apply Frame.part_hif | apply Frame.part_evc | apply Frame.part_sec | apply Frame.part_whl | apply Frame.part_ang | apply Frame.part_sch | apply Frame.part_banks | apply Frame.part_quads | apply Frame.part_edges | apply Frame.part_ink | apply Frame.part_grds | apply Frame.part_adc | apply Frame.part_cmps | apply Frame.part_tmrs | apply Frame.part_nibs | apply Frame.part_tst | apply Frame.part_slur | apply Frame.part_jtag | apply Frame.part_ans | apply Frame.part_freeCtr | apply Frame.part_pending | (fail_if_no_progress beta_reduce) | (fail_if_no_progress dsimp only) | split)

theorem Frame.frameStart {o : State} {ps : List Piece} (f : AngleFrame) (s : State) (h0 : State.onlyIn o s ps) (kregs : Piece.regs ∈ ps) (ksys : Piece.sys ∈ ps) (khif : Piece.hif ∈ ps) (kevc : Piece.evc ∈ ps) (kwhl : Piece.whl ∈ ps) (kang : Piece.ang ∈ ps) (ksch : Piece.sch ∈ ps) (kbanks : Piece.banks ∈ ps) (kquads : Piece.quads ∈ ps) (kedges : Piece.edges ∈ ps) (kink : Piece.ink ∈ ps) (kadc : Piece.adc ∈ ps) (kcmps : Piece.cmps ∈ ps) (ktmrs : Piece.tmrs ∈ ps) (knibs : Piece.nibs ∈ ps) (ktst : Piece.tst ∈ ps) (kfreeCtr : Piece.freeCtr ∈ ps) :
    State.onlyIn o (State.frameStart f s) ps := by
  unfold Sys2Proof.Machine.State.frameStart
  dsimp -failIfUnchanged only
  with_reducible repeat' (first | assumption | (intro _) | apply Frame.ite | apply Frame.ite2 | apply Frame.foldl | apply Frame.foldl2 | apply Frame.framePos | apply Frame.framePitch | apply Frame.slurSync | apply Frame.sync | apply Frame.edgeWork | apply h0 | simp only [Frame.mk_iff] | apply Frame.with_whl | apply Frame.with_ang | apply Frame.parts | (exact Or.inl ‹_›) | apply Frame.part_part | apply Frame.part_clk | apply Frame.part_regs | apply Frame.part_sys | apply Frame.part_hif | apply Frame.part_evc | apply Frame.part_sec | apply Frame.part_whl | apply Frame.part_ang | apply Frame.part_sch | apply Frame.part_banks | apply Frame.part_quads | apply Frame.part_edges | apply Frame.part_ink | apply Frame.part_grds | apply Frame.part_adc | apply Frame.part_cmps | apply Frame.part_tmrs | apply Frame.part_nibs | apply Frame.part_tst | apply Frame.part_slur | apply Frame.part_jtag | apply Frame.part_ans | apply Frame.part_freeCtr | apply Frame.part_pending | (fail_if_no_progress beta_reduce) | (fail_if_no_progress dsimp only) | split)

theorem Frame.frameActs {o : State} {ps : List Piece} (f : AngleFrame) (s : State) (h0 : State.onlyIn o s ps) (kregs : Piece.regs ∈ ps) (ksys : Piece.sys ∈ ps) (khif : Piece.hif ∈ ps) (kevc : Piece.evc ∈ ps) (kwhl : Piece.whl ∈ ps) (kang : Piece.ang ∈ ps) (ksch : Piece.sch ∈ ps) (kbanks : Piece.banks ∈ ps) (kquads : Piece.quads ∈ ps) (kedges : Piece.edges ∈ ps) (kink : Piece.ink ∈ ps) (kadc : Piece.adc ∈ ps) (kcmps : Piece.cmps ∈ ps) (ktmrs : Piece.tmrs ∈ ps) (knibs : Piece.nibs ∈ ps) (ktst : Piece.tst ∈ ps) (kfreeCtr : Piece.freeCtr ∈ ps) :
    State.onlyIn o (State.frameActs f s) ps := by
  unfold Sys2Proof.Machine.State.frameActs
  dsimp -failIfUnchanged only
  with_reducible repeat' (first | assumption | (intro _) | apply Frame.ite | apply Frame.ite2 | apply Frame.foldl | apply Frame.foldl2 | apply Frame.sync | apply Frame.frameEdge | apply Frame.frameStart | apply Frame.framePos | apply Frame.slurSync | apply h0 | (fail_if_no_progress beta_reduce) | (fail_if_no_progress dsimp only) | split)

theorem Frame.armedAuto {o : State} {ps : List Piece} (old : Mode) (s : State) (h0 : State.onlyIn o s ps) (kregs : Piece.regs ∈ ps) (ktmrs : Piece.tmrs ∈ ps) (knibs : Piece.nibs ∈ ps) :
    State.onlyIn o (State.armedAuto old s) ps := by
  unfold Sys2Proof.Machine.State.armedAuto
  dsimp -failIfUnchanged only
  with_reducible repeat' (first | assumption | (intro _) | apply Frame.ite | apply Frame.ite2 | apply Frame.foldl | apply Frame.foldl2 | apply Frame.tmrAuto | apply Frame.nibAuto | apply h0 | (fail_if_no_progress beta_reduce) | (fail_if_no_progress dsimp only) | split)

theorem Frame.frameSleep {o : State} {ps : List Piece} (s : State) (h0 : State.onlyIn o s ps) (kregs : Piece.regs ∈ ps) (ksys : Piece.sys ∈ ps) (khif : Piece.hif ∈ ps) (kevc : Piece.evc ∈ ps) (kwhl : Piece.whl ∈ ps) (kang : Piece.ang ∈ ps) (ksch : Piece.sch ∈ ps) (kbanks : Piece.banks ∈ ps) (kquads : Piece.quads ∈ ps) (kedges : Piece.edges ∈ ps) (kink : Piece.ink ∈ ps) (kadc : Piece.adc ∈ ps) (kcmps : Piece.cmps ∈ ps) (ktmrs : Piece.tmrs ∈ ps) (knibs : Piece.nibs ∈ ps) (ktst : Piece.tst ∈ ps) (kslur : Piece.slur ∈ ps) (kfreeCtr : Piece.freeCtr ∈ ps) :
    State.onlyIn o (State.frameSleep s) ps := by
  unfold Sys2Proof.Machine.State.frameSleep
  dsimp -failIfUnchanged only
  with_reducible repeat' (first | assumption | (intro _) | apply Frame.ite | apply Frame.ite2 | apply Frame.foldl | apply Frame.foldl2 | apply Frame.sync | apply Frame.followSync | apply Frame.slurSync | apply Frame.armedAuto | apply h0 | simp only [Frame.mk_iff] | apply Frame.with_whl | apply Frame.with_slur | apply Frame.parts | (exact Or.inl ‹_›) | apply Frame.part_part | apply Frame.part_clk | apply Frame.part_regs | apply Frame.part_sys | apply Frame.part_hif | apply Frame.part_evc | apply Frame.part_sec | apply Frame.part_whl | apply Frame.part_ang | apply Frame.part_sch | apply Frame.part_banks | apply Frame.part_quads | apply Frame.part_edges | apply Frame.part_ink | apply Frame.part_grds | apply Frame.part_adc | apply Frame.part_cmps | apply Frame.part_tmrs | apply Frame.part_nibs | apply Frame.part_tst | apply Frame.part_slur | apply Frame.part_jtag | apply Frame.part_ans | apply Frame.part_freeCtr | apply Frame.part_pending | (fail_if_no_progress beta_reduce) | (fail_if_no_progress dsimp only) | split)

theorem Frame.frameIn {o : State} {ps : List Piece} (f : AngleFrame) (s : State) (h0 : State.onlyIn o s ps) (kregs : Piece.regs ∈ ps) (ksys : Piece.sys ∈ ps) (khif : Piece.hif ∈ ps) (kevc : Piece.evc ∈ ps) (kwhl : Piece.whl ∈ ps) (kang : Piece.ang ∈ ps) (ksch : Piece.sch ∈ ps) (kbanks : Piece.banks ∈ ps) (kquads : Piece.quads ∈ ps) (kedges : Piece.edges ∈ ps) (kink : Piece.ink ∈ ps) (kadc : Piece.adc ∈ ps) (kcmps : Piece.cmps ∈ ps) (ktmrs : Piece.tmrs ∈ ps) (knibs : Piece.nibs ∈ ps) (ktst : Piece.tst ∈ ps) (kslur : Piece.slur ∈ ps) (kfreeCtr : Piece.freeCtr ∈ ps) :
    State.onlyIn o (State.frameIn f s) ps := by
  unfold Sys2Proof.Machine.State.frameIn
  dsimp -failIfUnchanged only
  with_reducible repeat' (first | assumption | (intro _) | apply Frame.ite | apply Frame.ite2 | apply Frame.foldl | apply Frame.foldl2 | apply Frame.frameSleep | apply Frame.frameActs | apply Frame.armedIf | apply h0 | simp only [Frame.mk_iff] | apply Frame.with_slur | (fail_if_no_progress beta_reduce) | (fail_if_no_progress dsimp only) | split)

theorem Frame.slurLost {o : State} {ps : List Piece} (s : State) (h0 : State.onlyIn o s ps) (kregs : Piece.regs ∈ ps) (ksys : Piece.sys ∈ ps) (khif : Piece.hif ∈ ps) (kevc : Piece.evc ∈ ps) (kwhl : Piece.whl ∈ ps) (kang : Piece.ang ∈ ps) (ksch : Piece.sch ∈ ps) (kbanks : Piece.banks ∈ ps) (kquads : Piece.quads ∈ ps) (kedges : Piece.edges ∈ ps) (kink : Piece.ink ∈ ps) (kadc : Piece.adc ∈ ps) (kcmps : Piece.cmps ∈ ps) (knibs : Piece.nibs ∈ ps) (ktst : Piece.tst ∈ ps) (kslur : Piece.slur ∈ ps) (kfreeCtr : Piece.freeCtr ∈ ps) :
    State.onlyIn o (State.slurLost s) ps := by
  unfold Sys2Proof.Machine.State.slurLost
  dsimp -failIfUnchanged only
  with_reducible repeat' (first | assumption | (intro _) | apply Frame.ite | apply Frame.ite2 | apply Frame.foldl | apply Frame.foldl2 | apply Frame.count | apply Frame.sync | apply Frame.slurSync | apply Frame.raise | apply Frame.alarm | apply Frame.beginTraining | apply h0 | simp only [Frame.mk_iff] | apply Frame.with_slur | (fail_if_no_progress beta_reduce) | (fail_if_no_progress dsimp only) | split)

theorem Frame.retrainNow {o : State} {ps : List Piece} (s : State) (h0 : State.onlyIn o s ps) (kregs : Piece.regs ∈ ps) (ksys : Piece.sys ∈ ps) (khif : Piece.hif ∈ ps) (kevc : Piece.evc ∈ ps) (kwhl : Piece.whl ∈ ps) (kang : Piece.ang ∈ ps) (ksch : Piece.sch ∈ ps) (kbanks : Piece.banks ∈ ps) (kquads : Piece.quads ∈ ps) (kedges : Piece.edges ∈ ps) (kink : Piece.ink ∈ ps) (kadc : Piece.adc ∈ ps) (kcmps : Piece.cmps ∈ ps) (knibs : Piece.nibs ∈ ps) (ktst : Piece.tst ∈ ps) (kslur : Piece.slur ∈ ps) (kfreeCtr : Piece.freeCtr ∈ ps) :
    State.onlyIn o (State.retrainNow s) ps := by
  unfold Sys2Proof.Machine.State.retrainNow
  dsimp -failIfUnchanged only
  with_reducible repeat' (first | assumption | (intro _) | apply Frame.ite | apply Frame.ite2 | apply Frame.foldl | apply Frame.foldl2 | apply Frame.slurLost | apply Frame.beginTraining | apply h0 | (fail_if_no_progress beta_reduce) | (fail_if_no_progress dsimp only) | split)

theorem Frame.retrainWrite {o : State} {ps : List Piece} (p : Port) (v : Word) (s : State) (h0 : State.onlyIn o s ps) (kregs : Piece.regs ∈ ps) (ksys : Piece.sys ∈ ps) (khif : Piece.hif ∈ ps) (kevc : Piece.evc ∈ ps) (ksec : Piece.sec ∈ ps) (kwhl : Piece.whl ∈ ps) (kang : Piece.ang ∈ ps) (ksch : Piece.sch ∈ ps) (kbanks : Piece.banks ∈ ps) (kquads : Piece.quads ∈ ps) (kedges : Piece.edges ∈ ps) (kink : Piece.ink ∈ ps) (kadc : Piece.adc ∈ ps) (kcmps : Piece.cmps ∈ ps) (knibs : Piece.nibs ∈ ps) (ktst : Piece.tst ∈ ps) (kslur : Piece.slur ∈ ps) (kfreeCtr : Piece.freeCtr ∈ ps) :
    State.onlyIn o (State.retrainWrite p v s) ps := by
  unfold Sys2Proof.Machine.State.retrainWrite
  dsimp -failIfUnchanged only
  with_reducible repeat' (first | assumption | (intro _) | apply Frame.ite | apply Frame.ite2 | apply Frame.foldl | apply Frame.foldl2 | apply Frame.onWrite | apply Frame.retrainNow | apply h0 | (fail_if_no_progress beta_reduce) | (fail_if_no_progress dsimp only) | split)

theorem Frame.slurStall {o : State} {ps : List Piece} (s : State) (h0 : State.onlyIn o s ps) (kregs : Piece.regs ∈ ps) (ksys : Piece.sys ∈ ps) (khif : Piece.hif ∈ ps) (kevc : Piece.evc ∈ ps) (kwhl : Piece.whl ∈ ps) (kang : Piece.ang ∈ ps) (ksch : Piece.sch ∈ ps) (kbanks : Piece.banks ∈ ps) (kquads : Piece.quads ∈ ps) (kedges : Piece.edges ∈ ps) (kink : Piece.ink ∈ ps) (kadc : Piece.adc ∈ ps) (kcmps : Piece.cmps ∈ ps) (knibs : Piece.nibs ∈ ps) (ktst : Piece.tst ∈ ps) (kslur : Piece.slur ∈ ps) :
    State.onlyIn o (State.slurStall s) ps := by
  unfold Sys2Proof.Machine.State.slurStall
  dsimp -failIfUnchanged only
  with_reducible repeat' (first | assumption | (intro _) | apply Frame.ite | apply Frame.ite2 | apply Frame.foldl | apply Frame.foldl2 | apply Frame.sync | apply h0 | simp only [Frame.mk_iff] | apply Frame.with_whl | apply Frame.with_slur | apply Frame.parts | (exact Or.inl ‹_›) | apply Frame.part_part | apply Frame.part_clk | apply Frame.part_regs | apply Frame.part_sys | apply Frame.part_hif | apply Frame.part_evc | apply Frame.part_sec | apply Frame.part_whl | apply Frame.part_ang | apply Frame.part_sch | apply Frame.part_banks | apply Frame.part_quads | apply Frame.part_edges | apply Frame.part_ink | apply Frame.part_grds | apply Frame.part_adc | apply Frame.part_cmps | apply Frame.part_tmrs | apply Frame.part_nibs | apply Frame.part_tst | apply Frame.part_slur | apply Frame.part_jtag | apply Frame.part_ans | apply Frame.part_freeCtr | apply Frame.part_pending | (fail_if_no_progress beta_reduce) | (fail_if_no_progress dsimp only) | split)

theorem Frame.hopDone {o : State} {ps : List Piece} (ended : Bool) (s : State) (h0 : State.onlyIn o s ps) (kregs : Piece.regs ∈ ps) (kslur : Piece.slur ∈ ps) (kfreeCtr : Piece.freeCtr ∈ ps) :
    State.onlyIn o (State.hopDone ended s) ps := by
  unfold Sys2Proof.Machine.State.hopDone
  dsimp -failIfUnchanged only
  with_reducible repeat' (first | assumption | (intro _) | apply Frame.ite | apply Frame.ite2 | apply Frame.foldl | apply Frame.foldl2 | apply Frame.draw | apply Frame.count | apply h0 | simp only [Frame.mk_iff] | apply Frame.with_slur | (fail_if_no_progress beta_reduce) | (fail_if_no_progress dsimp only) | split)

theorem Frame.hopTaken {o : State} {ps : List Piece} (f : TrainFrame) (s : State) (h0 : State.onlyIn o s ps) (kclk : Piece.clk ∈ ps) (kregs : Piece.regs ∈ ps) (kevc : Piece.evc ∈ ps) (kslur : Piece.slur ∈ ps) :
    State.onlyIn o (State.hopTaken f s) ps := by
  unfold Sys2Proof.Machine.State.hopTaken
  dsimp -failIfUnchanged only
  with_reducible repeat' (first | assumption | (intro _) | apply Frame.ite | apply Frame.ite2 | apply Frame.foldl | apply Frame.foldl2 | apply Frame.raise | apply Frame.assign | apply h0 | simp only [Frame.mk_iff] | apply Frame.with_clk | apply Frame.with_slur | apply Frame.parts | (exact Or.inl ‹_›) | apply Frame.part_part | apply Frame.part_clk | apply Frame.part_regs | apply Frame.part_sys | apply Frame.part_hif | apply Frame.part_evc | apply Frame.part_sec | apply Frame.part_whl | apply Frame.part_ang | apply Frame.part_sch | apply Frame.part_banks | apply Frame.part_quads | apply Frame.part_edges | apply Frame.part_ink | apply Frame.part_grds | apply Frame.part_adc | apply Frame.part_cmps | apply Frame.part_tmrs | apply Frame.part_nibs | apply Frame.part_tst | apply Frame.part_slur | apply Frame.part_jtag | apply Frame.part_ans | apply Frame.part_freeCtr | apply Frame.part_pending | (fail_if_no_progress beta_reduce) | (fail_if_no_progress dsimp only) | split)

theorem Frame.trainStep {o : State} {ps : List Piece} (s : State) (h0 : State.onlyIn o s ps) (kclk : Piece.clk ∈ ps) (kregs : Piece.regs ∈ ps) (kevc : Piece.evc ∈ ps) (kslur : Piece.slur ∈ ps) (kfreeCtr : Piece.freeCtr ∈ ps) :
    State.onlyIn o (State.trainStep s) ps := by
  unfold Sys2Proof.Machine.State.trainStep
  dsimp -failIfUnchanged only
  with_reducible repeat' (first | assumption | (intro _) | apply Frame.ite | apply Frame.ite2 | apply Frame.foldl | apply Frame.foldl2 | apply Frame.hopDone | apply Frame.hopTaken | apply h0 | simp only [Frame.mk_iff] | apply Frame.with_slur | (fail_if_no_progress beta_reduce) | (fail_if_no_progress dsimp only) | split)

theorem Frame.trainIn {o : State} {ps : List Piece} (f : TrainFrame) (arrival : Tb) (s : State) (h0 : State.onlyIn o s ps) (kevc : Piece.evc ∈ ps) (kslur : Piece.slur ∈ ps) :
    State.onlyIn o (State.trainIn f arrival s) ps := by
  unfold Sys2Proof.Machine.State.trainIn
  dsimp -failIfUnchanged only
  with_reducible repeat' (first | assumption | (intro _) | apply Frame.ite | apply Frame.ite2 | apply Frame.foldl | apply Frame.foldl2 | apply Frame.beginTraining | apply Frame.assign | apply h0 | simp only [Frame.mk_iff] | apply Frame.with_slur | (fail_if_no_progress beta_reduce) | (fail_if_no_progress dsimp only) | split)

theorem Frame.echo {o : State} {ps : List Piece} (rt : Option Nat) (s : State) (h0 : State.onlyIn o s ps) (kregs : Piece.regs ∈ ps) (kslur : Piece.slur ∈ ps) (kfreeCtr : Piece.freeCtr ∈ ps) :
    State.onlyIn o (State.echo rt s) ps := by
  unfold Sys2Proof.Machine.State.echo
  dsimp -failIfUnchanged only
  with_reducible repeat' (first | assumption | (intro _) | apply Frame.ite | apply Frame.ite2 | apply Frame.foldl | apply Frame.foldl2 | apply Frame.hopDone | apply h0 | simp only [Frame.mk_iff] | apply Frame.with_slur | (fail_if_no_progress beta_reduce) | (fail_if_no_progress dsimp only) | split)

theorem Frame.relaunch {o : State} {ps : List Piece} (s : State) (h0 : State.onlyIn o s ps) (kslur : Piece.slur ∈ ps) :
    State.onlyIn o (State.relaunch s) ps := by
  unfold Sys2Proof.Machine.State.relaunch
  dsimp -failIfUnchanged only
  with_reducible repeat' (first | assumption | (intro _) | apply Frame.ite | apply Frame.ite2 | apply Frame.foldl | apply Frame.foldl2 | apply h0 | simp only [Frame.mk_iff] | apply Frame.with_slur | (fail_if_no_progress beta_reduce) | (fail_if_no_progress dsimp only) | split)

theorem Frame.trainFail {o : State} {ps : List Piece} (s : State) (h0 : State.onlyIn o s ps) (kregs : Piece.regs ∈ ps) (khif : Piece.hif ∈ ps) (kslur : Piece.slur ∈ ps) :
    State.onlyIn o (State.trainFail s) ps := by
  unfold Sys2Proof.Machine.State.trainFail
  dsimp -failIfUnchanged only
  with_reducible repeat' (first | assumption | (intro _) | apply Frame.ite | apply Frame.ite2 | apply Frame.foldl | apply Frame.foldl2 | apply Frame.alarm | apply h0 | simp only [Frame.mk_iff] | apply Frame.with_slur | (fail_if_no_progress beta_reduce) | (fail_if_no_progress dsimp only) | split)

/-! Boot -/

theorem Frame.enterArmed {o : State} {ps : List Piece} (s : State) (h0 : State.onlyIn o s ps) (kregs : Piece.regs ∈ ps) (ksys : Piece.sys ∈ ps) (khif : Piece.hif ∈ ps) (kevc : Piece.evc ∈ ps) (ksch : Piece.sch ∈ ps) (kbanks : Piece.banks ∈ ps) (kquads : Piece.quads ∈ ps) (kedges : Piece.edges ∈ ps) (kink : Piece.ink ∈ ps) (kgrds : Piece.grds ∈ ps) (kadc : Piece.adc ∈ ps) (kcmps : Piece.cmps ∈ ps) (ktmrs : Piece.tmrs ∈ ps) (knibs : Piece.nibs ∈ ps) (ktst : Piece.tst ∈ ps) (kslur : Piece.slur ∈ ps) :
    State.onlyIn o (State.enterArmed s) ps := by
  unfold Sys2Proof.Machine.State.enterArmed
  dsimp -failIfUnchanged only
  with_reducible repeat' (first | assumption | (intro _) | apply Frame.ite | apply Frame.ite2 | apply Frame.foldl | apply Frame.foldl2 | apply Frame.setMode | apply Frame.boostBegin | apply Frame.boostFresh | apply Frame.timeWinsOpen | apply Frame.grdEnter | apply Frame.armedStart | apply Frame.safestop | apply h0 | simp only [Frame.mk_iff] | apply Frame.with_hif | (fail_if_no_progress beta_reduce) | (fail_if_no_progress dsimp only) | split)

theorem Frame.sleepBegin {o : State} {ps : List Piece} (vigil : Bool) (s : State) (h0 : State.onlyIn o s ps) (kregs : Piece.regs ∈ ps) (ksys : Piece.sys ∈ ps) (khif : Piece.hif ∈ ps) (kgrds : Piece.grds ∈ ps) (kadc : Piece.adc ∈ ps) :
    State.onlyIn o (State.sleepBegin vigil s) ps := by
  unfold Sys2Proof.Machine.State.sleepBegin
  dsimp -failIfUnchanged only
  with_reducible repeat' (first | assumption | (intro _) | apply Frame.ite | apply Frame.ite2 | apply Frame.foldl | apply Frame.foldl2 | apply Frame.winsLeave | apply h0 | simp only [Frame.mk_iff] | apply Frame.with_sys | apply Frame.with_grds | apply Frame.parts | (exact Or.inl ‹_›) | apply Frame.part_part | apply Frame.part_clk | apply Frame.part_regs | apply Frame.part_sys | apply Frame.part_hif | apply Frame.part_evc | apply Frame.part_sec | apply Frame.part_whl | apply Frame.part_ang | apply Frame.part_sch | apply Frame.part_banks | apply Frame.part_quads | apply Frame.part_edges | apply Frame.part_ink | apply Frame.part_grds | apply Frame.part_adc | apply Frame.part_cmps | apply Frame.part_tmrs | apply Frame.part_nibs | apply Frame.part_tst | apply Frame.part_slur | apply Frame.part_jtag | apply Frame.part_ans | apply Frame.part_freeCtr | apply Frame.part_pending | (fail_if_no_progress beta_reduce) | (fail_if_no_progress dsimp only) | split)

theorem Frame.sleepCancel {o : State} {ps : List Piece} (s : State) (h0 : State.onlyIn o s ps) (kregs : Piece.regs ∈ ps) (ksys : Piece.sys ∈ ps) (khif : Piece.hif ∈ ps) (kevc : Piece.evc ∈ ps) (kadc : Piece.adc ∈ ps) :
    State.onlyIn o (State.sleepCancel s) ps := by
  unfold Sys2Proof.Machine.State.sleepCancel
  dsimp -failIfUnchanged only
  with_reducible repeat' (first | assumption | (intro _) | apply Frame.ite | apply Frame.ite2 | apply Frame.foldl | apply Frame.foldl2 | apply Frame.timeWinsOpen | apply Frame.writeStatus | apply h0 | simp only [Frame.mk_iff] | apply Frame.with_sys | (fail_if_no_progress beta_reduce) | (fail_if_no_progress dsimp only) | split)

theorem Frame.asleepNow {o : State} {ps : List Piece} (vigil : Bool) (s : State) (h0 : State.onlyIn o s ps) (kclk : Piece.clk ∈ ps) (kregs : Piece.regs ∈ ps) (ksys : Piece.sys ∈ ps) (khif : Piece.hif ∈ ps) (kevc : Piece.evc ∈ ps) (ksec : Piece.sec ∈ ps) (ksch : Piece.sch ∈ ps) (kbanks : Piece.banks ∈ ps) (kquads : Piece.quads ∈ ps) (kedges : Piece.edges ∈ ps) (kink : Piece.ink ∈ ps) (kgrds : Piece.grds ∈ ps) (kadc : Piece.adc ∈ ps) (kcmps : Piece.cmps ∈ ps) (ktmrs : Piece.tmrs ∈ ps) (knibs : Piece.nibs ∈ ps) (ktst : Piece.tst ∈ ps) (kslur : Piece.slur ∈ ps) :
    State.onlyIn o (State.asleepNow vigil s) ps := by
  unfold Sys2Proof.Machine.State.asleepNow
  dsimp -failIfUnchanged only
  with_reducible repeat' (first | assumption | (intro _) | apply Frame.ite | apply Frame.ite2 | apply Frame.foldl | apply Frame.foldl2 | apply Frame.leaveArmed | apply Frame.killAll | apply Frame.grdSleep | apply Frame.tmrSleep | apply Frame.evcSleep | apply Frame.nibSleep | apply Frame.dropSession | apply Frame.setMode | apply h0 | simp only [Frame.mk_iff] | apply Frame.with_clk | apply Frame.with_regs | apply Frame.with_sys | apply Frame.with_hif | apply Frame.with_adc | apply Frame.with_slur | apply Frame.parts | (exact Or.inl ‹_›) | apply Frame.part_part | apply Frame.part_clk | apply Frame.part_regs | apply Frame.part_sys | apply Frame.part_hif | apply Frame.part_evc | apply Frame.part_sec | apply Frame.part_whl | apply Frame.part_ang | apply Frame.part_sch | apply Frame.part_banks | apply Frame.part_quads | apply Frame.part_edges | apply Frame.part_ink | apply Frame.part_grds | apply Frame.part_adc | apply Frame.part_cmps | apply Frame.part_tmrs | apply Frame.part_nibs | apply Frame.part_tst | apply Frame.part_slur | apply Frame.part_jtag | apply Frame.part_ans | apply Frame.part_freeCtr | apply Frame.part_pending | (fail_if_no_progress beta_reduce) | (fail_if_no_progress dsimp only) | split)

theorem Frame.passBegin {o : State} {ps : List Piece} (boot : Bool) (s : State) (h0 : State.onlyIn o s ps) (ktst : Piece.tst ∈ ps) :
    State.onlyIn o (State.passBegin boot s) ps := by
  unfold Sys2Proof.Machine.State.passBegin
  dsimp -failIfUnchanged only
  with_reducible repeat' (first | assumption | (intro _) | apply Frame.ite | apply Frame.ite2 | apply Frame.foldl | apply Frame.foldl2 | apply h0 | simp only [Frame.mk_iff] | apply Frame.with_tst | (fail_if_no_progress beta_reduce) | (fail_if_no_progress dsimp only) | split)

theorem Frame.loadImage {o : State} {ps : List Piece} (s : State) (h0 : State.onlyIn o s ps) (kregs : Piece.regs ∈ ps) (ksys : Piece.sys ∈ ps) (khif : Piece.hif ∈ ps) (kevc : Piece.evc ∈ ps) (ksch : Piece.sch ∈ ps) (kink : Piece.ink ∈ ps) (kgrds : Piece.grds ∈ ps) (knibs : Piece.nibs ∈ ps) (ktst : Piece.tst ∈ ps) :
    State.onlyIn o (State.loadImage s) ps := by
  unfold Sys2Proof.Machine.State.loadImage
  dsimp -failIfUnchanged only
  with_reducible repeat' (first | assumption | (intro _) | apply Frame.ite | apply Frame.ite2 | apply Frame.foldl | apply Frame.foldl2 | apply Frame.grdLive | apply Frame.nibMargins | apply Frame.levelsSettle | apply Frame.watchDev | apply Frame.logIdle | apply Frame.passBegin | apply h0 | simp only [Frame.mk_iff] | apply Frame.with_regs | apply Frame.with_sys | apply Frame.with_ink | apply Frame.parts | (exact Or.inl ‹_›) | apply Frame.part_part | apply Frame.part_clk | apply Frame.part_regs | apply Frame.part_sys | apply Frame.part_hif | apply Frame.part_evc | apply Frame.part_sec | apply Frame.part_whl | apply Frame.part_ang | apply Frame.part_sch | apply Frame.part_banks | apply Frame.part_quads | apply Frame.part_edges | apply Frame.part_ink | apply Frame.part_grds | apply Frame.part_adc | apply Frame.part_cmps | apply Frame.part_tmrs | apply Frame.part_nibs | apply Frame.part_tst | apply Frame.part_slur | apply Frame.part_jtag | apply Frame.part_ans | apply Frame.part_freeCtr | apply Frame.part_pending | (fail_if_no_progress beta_reduce) | (fail_if_no_progress dsimp only) | split)

theorem Frame.bootEnd {o : State} {ps : List Piece} (s : State) (h0 : State.onlyIn o s ps) (kclk : Piece.clk ∈ ps) (kregs : Piece.regs ∈ ps) (ksys : Piece.sys ∈ ps) (khif : Piece.hif ∈ ps) (kevc : Piece.evc ∈ ps) (ksec : Piece.sec ∈ ps) (ksch : Piece.sch ∈ ps) (kbanks : Piece.banks ∈ ps) (kquads : Piece.quads ∈ ps) (kedges : Piece.edges ∈ ps) (kink : Piece.ink ∈ ps) (kgrds : Piece.grds ∈ ps) (kadc : Piece.adc ∈ ps) (kcmps : Piece.cmps ∈ ps) (ktmrs : Piece.tmrs ∈ ps) (knibs : Piece.nibs ∈ ps) (ktst : Piece.tst ∈ ps) (kslur : Piece.slur ∈ ps) :
    State.onlyIn o (State.bootEnd s) ps := by
  unfold Sys2Proof.Machine.State.bootEnd
  dsimp -failIfUnchanged only
  with_reducible repeat' (first | assumption | (intro _) | apply Frame.ite | apply Frame.ite2 | apply Frame.foldl | apply Frame.foldl2 | apply Frame.grdWake | apply Frame.setMode | apply Frame.enterArmed | apply Frame.asleepNow | apply h0 | simp only [Frame.mk_iff] | apply Frame.with_sys | (fail_if_no_progress beta_reduce) | (fail_if_no_progress dsimp only) | split)

theorem Frame.dieLoss {o : State} {ps : List Piece} (s : State) (h0 : State.onlyIn o s ps) (kclk : Piece.clk ∈ ps) (kregs : Piece.regs ∈ ps) (ksys : Piece.sys ∈ ps) (khif : Piece.hif ∈ ps) (kevc : Piece.evc ∈ ps) (ksch : Piece.sch ∈ ps) (kbanks : Piece.banks ∈ ps) (kquads : Piece.quads ∈ ps) (kedges : Piece.edges ∈ ps) (kink : Piece.ink ∈ ps) (kadc : Piece.adc ∈ ps) (kcmps : Piece.cmps ∈ ps) (knibs : Piece.nibs ∈ ps) (ktst : Piece.tst ∈ ps) :
    State.onlyIn o (State.dieLoss s) ps := by
  unfold Sys2Proof.Machine.State.dieLoss
  dsimp -failIfUnchanged only
  with_reducible repeat' (first | assumption | (intro _) | apply Frame.ite | apply Frame.ite2 | apply Frame.foldl | apply Frame.foldl2 | apply Frame.alarm | apply Frame.killAll | apply Frame.safestop | apply h0 | simp only [Frame.mk_iff] | apply Frame.with_clk | (fail_if_no_progress beta_reduce) | (fail_if_no_progress dsimp only) | split)

theorem Frame.dieBack {o : State} {ps : List Piece} (s : State) (h0 : State.onlyIn o s ps) (kclk : Piece.clk ∈ ps) (ksys : Piece.sys ∈ ps) (ksch : Piece.sch ∈ ps) :
    State.onlyIn o (State.dieBack s) ps := by
  unfold Sys2Proof.Machine.State.dieBack
  dsimp -failIfUnchanged only
  with_reducible repeat' (first | assumption | (intro _) | apply Frame.ite | apply Frame.ite2 | apply Frame.foldl | apply Frame.foldl2 | apply Frame.safeActive | apply Frame.logIdle | apply h0 | simp only [Frame.mk_iff] | apply Frame.with_clk | apply Frame.with_sys | apply Frame.parts | (exact Or.inl ‹_›) | apply Frame.part_part | apply Frame.part_clk | apply Frame.part_regs | apply Frame.part_sys | apply Frame.part_hif | apply Frame.part_evc | apply Frame.part_sec | apply Frame.part_whl | apply Frame.part_ang | apply Frame.part_sch | apply Frame.part_banks | apply Frame.part_quads | apply Frame.part_edges | apply Frame.part_ink | apply Frame.part_grds | apply Frame.part_adc | apply Frame.part_cmps | apply Frame.part_tmrs | apply Frame.part_nibs | apply Frame.part_tst | apply Frame.part_slur | apply Frame.part_jtag | apply Frame.part_ans | apply Frame.part_freeCtr | apply Frame.part_pending | (fail_if_no_progress beta_reduce) | (fail_if_no_progress dsimp only) | split)

/-! Sorter -/

theorem Frame.admitNew {o : State} {ps : List Piece} (src : Nat) (d : Descriptor) (count : Nat) (s : State) (h0 : State.onlyIn o s ps) (kregs : Piece.regs ∈ ps) (khif : Piece.hif ∈ ps) (ksch : Piece.sch ∈ ps) :
    State.onlyIn o (State.admitNew src d count s) ps := by
  unfold Sys2Proof.Machine.State.admitNew
  dsimp -failIfUnchanged only
  with_reducible repeat' (first | assumption | (intro _) | apply Frame.ite | apply Frame.ite2 | apply Frame.foldl | apply Frame.foldl2 | apply Frame.count | apply Frame.watchStore | apply h0 | apply Frame.id | simp only [Frame.mk_iff] | apply Frame.with_sch | (fail_if_no_progress beta_reduce) | (fail_if_no_progress dsimp only) | split)

theorem Frame.reject {o : State} {ps : List Piece} (src : Nat) (d : Descriptor) (code : Nat) (s : State) (h0 : State.onlyIn o s ps) (kregs : Piece.regs ∈ ps) (khif : Piece.hif ∈ ps) :
    State.onlyIn o (State.reject src d code s) ps := by
  unfold Sys2Proof.Machine.State.reject
  dsimp -failIfUnchanged only
  with_reducible repeat' (first | assumption | (intro _) | apply Frame.ite | apply Frame.ite2 | apply Frame.foldl | apply Frame.foldl2 | apply Frame.short | apply Frame.count | apply h0 | (fail_if_no_progress beta_reduce) | (fail_if_no_progress dsimp only) | split)

theorem Frame.cancelOp {o : State} {ps : List Piece} (src : Nat) (d : Descriptor) (all : Bool) (s : State) (h0 : State.onlyIn o s ps) (kregs : Piece.regs ∈ ps) (khif : Piece.hif ∈ ps) (ksch : Piece.sch ∈ ps) (kbanks : Piece.banks ∈ ps) (kink : Piece.ink ∈ ps) :
    State.onlyIn o (State.cancelOp src d all s) ps := by
  unfold Sys2Proof.Machine.State.cancelOp
  dsimp -failIfUnchanged only
  with_reducible repeat' (first | assumption | (intro _) | apply Frame.ite | apply Frame.ite2 | apply Frame.foldl | apply Frame.foldl2 | apply Frame.remove | apply Frame.short | apply Frame.reject | apply h0 | apply Frame.id | (fail_if_no_progress beta_reduce) | (fail_if_no_progress dsimp only) | split)

theorem Frame.newOp {o : State} {ps : List Piece} (src : Nat) (d : Descriptor) (s : State) (h0 : State.onlyIn o s ps) (kregs : Piece.regs ∈ ps) (khif : Piece.hif ∈ ps) (ksch : Piece.sch ∈ ps) :
    State.onlyIn o (State.newOp src d s) ps := by
  unfold Sys2Proof.Machine.State.newOp
  dsimp -failIfUnchanged only
  with_reducible repeat' (first | assumption | (intro _) | apply Frame.ite | apply Frame.ite2 | apply Frame.foldl | apply Frame.foldl2 | apply Frame.reject | apply Frame.admitNew | apply h0 | (fail_if_no_progress beta_reduce) | (fail_if_no_progress dsimp only) | split)

theorem Frame.replaceOp {o : State} {ps : List Piece} (src : Nat) (d : Descriptor) (s : State) (h0 : State.onlyIn o s ps) (kregs : Piece.regs ∈ ps) (khif : Piece.hif ∈ ps) (ksch : Piece.sch ∈ ps) (kbanks : Piece.banks ∈ ps) (kink : Piece.ink ∈ ps) :
    State.onlyIn o (State.replaceOp src d s) ps := by
  unfold Sys2Proof.Machine.State.replaceOp
  dsimp -failIfUnchanged only
  with_reducible repeat' (first | assumption | (intro _) | apply Frame.ite | apply Frame.ite2 | apply Frame.foldl | apply Frame.foldl2 | apply Frame.reject | apply Frame.remove | apply Frame.admitNew | apply h0 | apply Frame.id | (fail_if_no_progress beta_reduce) | (fail_if_no_progress dsimp only) | split)

theorem Frame.submit {o : State} {ps : List Piece} (src : Nat) (d : Descriptor) (s : State) (h0 : State.onlyIn o s ps) (kregs : Piece.regs ∈ ps) (khif : Piece.hif ∈ ps) (ksch : Piece.sch ∈ ps) (kbanks : Piece.banks ∈ ps) (kink : Piece.ink ∈ ps) :
    State.onlyIn o (State.submit src d s) ps := by
  unfold Sys2Proof.Machine.State.submit
  dsimp -failIfUnchanged only
  with_reducible repeat' (first | assumption | (intro _) | apply Frame.ite | apply Frame.ite2 | apply Frame.foldl | apply Frame.foldl2 | apply Frame.newOp | apply Frame.replaceOp | apply Frame.cancelOp | apply h0 | (fail_if_no_progress beta_reduce) | (fail_if_no_progress dsimp only) | split)

theorem Frame.arrive {o : State} {ps : List Piece} (sq : Nat) (d : Descriptor) (s : State) (h0 : State.onlyIn o s ps) (kregs : Piece.regs ∈ ps) (khif : Piece.hif ∈ ps) (ksch : Piece.sch ∈ ps) (kbanks : Piece.banks ∈ ps) (kink : Piece.ink ∈ ps) :
    State.onlyIn o (State.arrive sq d s) ps := by
  unfold Sys2Proof.Machine.State.arrive
  dsimp -failIfUnchanged only
  with_reducible repeat' (first | assumption | (intro _) | apply Frame.ite | apply Frame.ite2 | apply Frame.foldl | apply Frame.foldl2 | apply Frame.submit | apply Frame.advance | apply h0 | (fail_if_no_progress beta_reduce) | (fail_if_no_progress dsimp only) | split)

/-! Modes -/

theorem Frame.exitSafestop {o : State} {ps : List Piece} (role port : Nat) (s : State) (h0 : State.onlyIn o s ps) (kregs : Piece.regs ∈ ps) (ksys : Piece.sys ∈ ps) (khif : Piece.hif ∈ ps) (kevc : Piece.evc ∈ ps) (ksec : Piece.sec ∈ ps) (kwhl : Piece.whl ∈ ps) (kang : Piece.ang ∈ ps) (ksch : Piece.sch ∈ ps) (kbanks : Piece.banks ∈ ps) (kquads : Piece.quads ∈ ps) (kedges : Piece.edges ∈ ps) (kink : Piece.ink ∈ ps) (kadc : Piece.adc ∈ ps) (kcmps : Piece.cmps ∈ ps) (ktmrs : Piece.tmrs ∈ ps) (knibs : Piece.nibs ∈ ps) (ktst : Piece.tst ∈ ps) (kslur : Piece.slur ∈ ps) :
    State.onlyIn o (State.exitSafestop role port s) ps := by
  unfold Sys2Proof.Machine.State.exitSafestop
  dsimp -failIfUnchanged only
  with_reducible repeat' (first | assumption | (intro _) | apply Frame.ite | apply Frame.ite2 | apply Frame.foldl | apply Frame.foldl2 | apply Frame.journal | apply Frame.setMode | apply Frame.sync | apply Frame.boostBegin | apply Frame.boostFresh | apply Frame.logIdle | apply Frame.holdWaiting | apply Frame.armedIf | apply Frame.safestop | apply Frame.fallbackNow | apply h0 | (fail_if_no_progress beta_reduce) | (fail_if_no_progress dsimp only) | split)

theorem Frame.toSetup {o : State} {ps : List Piece} (s : State) (h0 : State.onlyIn o s ps) (kregs : Piece.regs ∈ ps) (ksys : Piece.sys ∈ ps) (khif : Piece.hif ∈ ps) (kevc : Piece.evc ∈ ps) (ksch : Piece.sch ∈ ps) (kink : Piece.ink ∈ ps) (kadc : Piece.adc ∈ ps) (kcmps : Piece.cmps ∈ ps) (ktst : Piece.tst ∈ ps) (kslur : Piece.slur ∈ ps) :
    State.onlyIn o (State.toSetup s) ps := by
  unfold Sys2Proof.Machine.State.toSetup
  dsimp -failIfUnchanged only
  with_reducible repeat' (first | assumption | (intro _) | apply Frame.ite | apply Frame.ite2 | apply Frame.foldl | apply Frame.foldl2 | apply Frame.leaveArmed | apply Frame.winsLeave | apply Frame.setMode | apply h0 | simp only [Frame.mk_iff] | apply Frame.with_sys | apply Frame.with_slur | apply Frame.parts | (exact Or.inl ‹_›) | apply Frame.part_part | apply Frame.part_clk | apply Frame.part_regs | apply Frame.part_sys | apply Frame.part_hif | apply Frame.part_evc | apply Frame.part_sec | apply Frame.part_whl | apply Frame.part_ang | apply Frame.part_sch | apply Frame.part_banks | apply Frame.part_quads | apply Frame.part_edges | apply Frame.part_ink | apply Frame.part_grds | apply Frame.part_adc | apply Frame.part_cmps | apply Frame.part_tmrs | apply Frame.part_nibs | apply Frame.part_tst | apply Frame.part_slur | apply Frame.part_jtag | apply Frame.part_ans | apply Frame.part_freeCtr | apply Frame.part_pending | (fail_if_no_progress beta_reduce) | (fail_if_no_progress dsimp only) | split)

theorem Frame.markSleep {o : State} {ps : List Piece} (s : State) (h0 : State.onlyIn o s ps) (ksys : Piece.sys ∈ ps) :
    State.onlyIn o (State.markSleep s) ps := by
  unfold Sys2Proof.Machine.State.markSleep
  dsimp -failIfUnchanged only
  with_reducible repeat' (first | assumption | (intro _) | apply Frame.ite | apply Frame.ite2 | apply Frame.foldl | apply Frame.foldl2 | apply h0 | simp only [Frame.mk_iff] | apply Frame.with_sys | (fail_if_no_progress beta_reduce) | (fail_if_no_progress dsimp only) | split)

theorem Frame.sleepGo {o : State} {ps : List Piece} (k : Sleep) (s : State) (h0 : State.onlyIn o s ps) (kclk : Piece.clk ∈ ps) (kregs : Piece.regs ∈ ps) (ksys : Piece.sys ∈ ps) (khif : Piece.hif ∈ ps) (kevc : Piece.evc ∈ ps) (ksec : Piece.sec ∈ ps) (ksch : Piece.sch ∈ ps) (kbanks : Piece.banks ∈ ps) (kquads : Piece.quads ∈ ps) (kedges : Piece.edges ∈ ps) (kink : Piece.ink ∈ ps) (kgrds : Piece.grds ∈ ps) (kadc : Piece.adc ∈ ps) (kcmps : Piece.cmps ∈ ps) (ktmrs : Piece.tmrs ∈ ps) (knibs : Piece.nibs ∈ ps) (ktst : Piece.tst ∈ ps) (kslur : Piece.slur ∈ ps) :
    State.onlyIn o (State.sleepGo k s) ps := by
  unfold Sys2Proof.Machine.State.sleepGo
  dsimp -failIfUnchanged only
  with_reducible repeat' (first | assumption | (intro _) | apply Frame.ite | apply Frame.ite2 | apply Frame.foldl | apply Frame.foldl2 | apply Frame.writeStatus | apply Frame.discardStaging | apply Frame.asleepNow | apply h0 | (fail_if_no_progress beta_reduce) | (fail_if_no_progress dsimp only) | split)

theorem Frame.planAdmit {o : State} {ps : List Piece} (e : Nat) (s : State) (h0 : State.onlyIn o s ps) (kregs : Piece.regs ∈ ps) (ksys : Piece.sys ∈ ps) (khif : Piece.hif ∈ ps) (ksch : Piece.sch ∈ ps) :
    State.onlyIn o (State.planAdmit e s) ps := by
  unfold Sys2Proof.Machine.State.planAdmit
  dsimp -failIfUnchanged only
  with_reducible repeat' (first | assumption | (intro _) | apply Frame.ite | apply Frame.ite2 | apply Frame.foldl | apply Frame.foldl2 | apply Frame.reject | apply Frame.count | apply Frame.admitNew | apply h0 | simp only [Frame.mk_iff] | apply Frame.with_sys | (fail_if_no_progress beta_reduce) | (fail_if_no_progress dsimp only) | split)

theorem Frame.fbAccess {o : State} {ps : List Piece} (p : Port) (w : Option Word) (s : State) (h0 : State.onlyIn o s ps) (kregs : Piece.regs ∈ ps) (khif : Piece.hif ∈ ps) (kans : Piece.ans ∈ ps) :
    State.onlyIn o (State.fbAccess p w s) ps := by
  unfold Sys2Proof.Machine.State.fbAccess
  dsimp -failIfUnchanged only
  with_reducible repeat' (first | assumption | (intro _) | apply Frame.ite | apply Frame.ite2 | apply Frame.foldl | apply Frame.foldl2 | apply Frame.answer | apply Frame.putShadow | apply Frame.markDirty | apply Frame.deny | apply Frame.set | apply h0 | (fail_if_no_progress beta_reduce) | (fail_if_no_progress dsimp only) | split)

theorem Frame.tear {o : State} {ps : List Piece} (s : State) (h0 : State.onlyIn o s ps) (kregs : Piece.regs ∈ ps) :
    State.onlyIn o (State.tear s) ps := by
  unfold Sys2Proof.Machine.State.tear
  dsimp -failIfUnchanged only
  with_reducible repeat' (first | assumption | (intro _) | apply Frame.ite | apply Frame.ite2 | apply Frame.foldl | apply Frame.foldl2 | apply h0 | simp only [Frame.mk_iff] | apply Frame.with_regs | (fail_if_no_progress beta_reduce) | (fail_if_no_progress dsimp only) | split)

theorem Frame.linkUnpowered {o : State} {ps : List Piece} (s : State) (h0 : State.onlyIn o s ps) (kregs : Piece.regs ∈ ps) (khif : Piece.hif ∈ ps) :
    State.onlyIn o (State.linkUnpowered s) ps := by
  unfold Sys2Proof.Machine.State.linkUnpowered
  dsimp -failIfUnchanged only
  with_reducible repeat' (first | assumption | (intro _) | apply Frame.ite | apply Frame.ite2 | apply Frame.foldl | apply Frame.foldl2 | apply Frame.configReset | apply h0 | simp only [Frame.mk_iff] | apply Frame.with_hif | (fail_if_no_progress beta_reduce) | (fail_if_no_progress dsimp only) | split)

theorem Frame.railGone {o : State} {ps : List Piece} (r : BrownRail) (s : State) (h0 : State.onlyIn o s ps) (ksys : Piece.sys ∈ ps) :
    State.onlyIn o (State.railGone r s) ps := by
  unfold Sys2Proof.Machine.State.railGone
  dsimp -failIfUnchanged only
  with_reducible repeat' (first | assumption | (intro _) | apply Frame.ite | apply Frame.ite2 | apply Frame.foldl | apply Frame.foldl2 | apply h0 | simp only [Frame.mk_iff] | apply Frame.with_sys | (fail_if_no_progress beta_reduce) | (fail_if_no_progress dsimp only) | split)

theorem Frame.railsBack {o : State} {ps : List Piece} (s : State) (h0 : State.onlyIn o s ps) (kregs : Piece.regs ∈ ps) (ksys : Piece.sys ∈ ps) :
    State.onlyIn o (State.railsBack s) ps := by
  unfold Sys2Proof.Machine.State.railsBack
  dsimp -failIfUnchanged only
  with_reducible repeat' (first | assumption | (intro _) | apply Frame.ite | apply Frame.ite2 | apply Frame.foldl | apply Frame.foldl2 | apply Frame.setBit | apply Frame.set | apply h0 | simp only [Frame.mk_iff] | apply Frame.with_sys | (fail_if_no_progress beta_reduce) | (fail_if_no_progress dsimp only) | split)

/-! Mq -/

theorem Frame.clearOcAct {o : State} {ps : List Piece} (bank : Bool) (i : Nat) (s : State) (h0 : State.onlyIn o s ps) (kregs : Piece.regs ∈ ps) (khif : Piece.hif ∈ ps) (ksec : Piece.sec ∈ ps) (ksch : Piece.sch ∈ ps) (kbanks : Piece.banks ∈ ps) :
    State.onlyIn o (State.clearOcAct bank i s).2 ps := by
  unfold Sys2Proof.Machine.State.clearOcAct
  dsimp -failIfUnchanged only
  with_reducible repeat' (first | assumption | (intro _) | apply Frame.ite | apply Frame.ite2 | apply Frame.foldl | apply Frame.foldl2 | apply Frame.modBank | apply Frame.logIdle | apply Frame.journal | apply Frame.modChan | apply h0 | (fail_if_no_progress beta_reduce) | (fail_if_no_progress dsimp only) | split)

theorem Frame.paramAct {o : State} {ps : List Piece} (q p n v : Nat) (s : State) (h0 : State.onlyIn o s ps) (kregs : Piece.regs ∈ ps) (khif : Piece.hif ∈ ps) (ksec : Piece.sec ∈ ps) :
    State.onlyIn o (State.paramAct q p n v s).2 ps := by
  unfold Sys2Proof.Machine.State.paramAct
  dsimp -failIfUnchanged only
  with_reducible repeat' (first | assumption | (intro _) | apply Frame.ite | apply Frame.ite2 | apply Frame.foldl | apply Frame.foldl2 | apply Frame.noteMq | apply Frame.noteHost | apply Frame.set | apply Frame.putShadow | apply Frame.markDirty | apply Frame.journal | apply h0 | (fail_if_no_progress beta_reduce) | (fail_if_no_progress dsimp only) | split)

theorem Frame.paramRun {o : State} {ps : List Piece} (tag arg0 arg1 : Word) (s : State) (h0 : State.onlyIn o s ps) (kregs : Piece.regs ∈ ps) (khif : Piece.hif ∈ ps) (ksec : Piece.sec ∈ ps) :
    State.onlyIn o (State.paramRun tag arg0 arg1 s) ps := by
  unfold Sys2Proof.Machine.State.paramRun
  dsimp -failIfUnchanged only
  with_reducible repeat' (first | assumption | (intro _) | apply Frame.ite | apply Frame.ite2 | apply Frame.foldl | apply Frame.foldl2 | apply Frame.paramAct | apply Frame.completion | apply Frame.advance | apply h0 | (fail_if_no_progress beta_reduce) | (fail_if_no_progress dsimp only) | split)

theorem Frame.releaseHeld {o : State} {ps : List Piece} (s : State) (h0 : State.onlyIn o s ps) (kregs : Piece.regs ∈ ps) (khif : Piece.hif ∈ ps) (ksec : Piece.sec ∈ ps) :
    State.onlyIn o (State.releaseHeld s) ps := by
  unfold Sys2Proof.Machine.State.releaseHeld
  dsimp -failIfUnchanged only
  with_reducible repeat' (first | assumption | (intro _) | apply Frame.ite | apply Frame.ite2 | apply Frame.foldl | apply Frame.foldl2 | apply Frame.paramRun | apply h0 | simp only [Frame.mk_iff] | apply Frame.with_hif | (fail_if_no_progress beta_reduce) | (fail_if_no_progress dsimp only) | split)

theorem Frame.accCloseAct {o : State} {ps : List Piece} (t : Nat) (s : State) (h0 : State.onlyIn o s ps) (kregs : Piece.regs ∈ ps) (khif : Piece.hif ∈ ps) (kadc : Piece.adc ∈ ps) :
    State.onlyIn o (State.accCloseAct t s).2 ps := by
  unfold Sys2Proof.Machine.State.accCloseAct
  dsimp -failIfUnchanged only
  with_reducible repeat' (first | assumption | (intro _) | apply Frame.ite | apply Frame.ite2 | apply Frame.foldl | apply Frame.foldl2 | apply Frame.closeWin | apply h0 | (fail_if_no_progress beta_reduce) | (fail_if_no_progress dsimp only) | split)

theorem Frame.fallbackClear {o : State} {ps : List Piece} (s : State) (h0 : State.onlyIn o s ps) (kregs : Piece.regs ∈ ps) (ksys : Piece.sys ∈ ps) (khif : Piece.hif ∈ ps) :
    State.onlyIn o (State.fallbackClear s) ps := by
  unfold Sys2Proof.Machine.State.fallbackClear
  dsimp -failIfUnchanged only
  with_reducible repeat' (first | assumption | (intro _) | apply Frame.ite | apply Frame.ite2 | apply Frame.foldl | apply Frame.foldl2 | apply Frame.alarm | apply Frame.heard | apply h0 | simp only [Frame.mk_iff] | apply Frame.with_sys | (fail_if_no_progress beta_reduce) | (fail_if_no_progress dsimp only) | split)

theorem Frame.fallbackWrite {o : State} {ps : List Piece} (p : Port) (v : Word) (s : State) (h0 : State.onlyIn o s ps) (kregs : Piece.regs ∈ ps) (ksys : Piece.sys ∈ ps) (khif : Piece.hif ∈ ps) (ksec : Piece.sec ∈ ps) :
    State.onlyIn o (State.fallbackWrite p v s) ps := by
  unfold Sys2Proof.Machine.State.fallbackWrite
  dsimp -failIfUnchanged only
  with_reducible repeat' (first | assumption | (intro _) | apply Frame.ite | apply Frame.ite2 | apply Frame.foldl | apply Frame.foldl2 | apply Frame.onWrite | apply Frame.fallbackClear | apply h0 | (fail_if_no_progress beta_reduce) | (fail_if_no_progress dsimp only) | split)

theorem Frame.safeExitAct {o : State} {ps : List Piece} (s : State) (h0 : State.onlyIn o s ps) (kregs : Piece.regs ∈ ps) (ksys : Piece.sys ∈ ps) (khif : Piece.hif ∈ ps) (kevc : Piece.evc ∈ ps) (ksec : Piece.sec ∈ ps) (kwhl : Piece.whl ∈ ps) (kang : Piece.ang ∈ ps) (ksch : Piece.sch ∈ ps) (kbanks : Piece.banks ∈ ps) (kquads : Piece.quads ∈ ps) (kedges : Piece.edges ∈ ps) (kink : Piece.ink ∈ ps) (kadc : Piece.adc ∈ ps) (kcmps : Piece.cmps ∈ ps) (ktmrs : Piece.tmrs ∈ ps) (knibs : Piece.nibs ∈ ps) (ktst : Piece.tst ∈ ps) (kslur : Piece.slur ∈ ps) :
    State.onlyIn o (State.safeExitAct s).2 ps := by
  unfold Sys2Proof.Machine.State.safeExitAct
  dsimp -failIfUnchanged only
  with_reducible repeat' (first | assumption | (intro _) | apply Frame.ite | apply Frame.ite2 | apply Frame.foldl | apply Frame.foldl2 | apply Frame.safestop | apply Frame.safeActive | apply Frame.exitSafestop | apply h0 | (fail_if_no_progress beta_reduce) | (fail_if_no_progress dsimp only) | split)

/-! Sec -/

theorem Frame.modSec {o : State} {ps : List Piece} (s : State) (f : Sec → Sec) (h0 : State.onlyIn o s ps) (ksec : Piece.sec ∈ ps) :
    State.onlyIn o (State.modSec s f) ps := by
  unfold Sys2Proof.Machine.State.modSec
  dsimp -failIfUnchanged only
  with_reducible repeat' (first | assumption | (intro _) | apply Frame.ite | apply Frame.ite2 | apply Frame.foldl | apply Frame.foldl2 | apply h0 | simp only [Frame.mk_iff] | apply Frame.with_sec | (fail_if_no_progress beta_reduce) | (fail_if_no_progress dsimp only) | split)

theorem Frame.refusedIs {o : State} {ps : List Piece} (r : Bool) (s : State) (h0 : State.onlyIn o s ps) (ksec : Piece.sec ∈ ps) :
    State.onlyIn o (State.refusedIs r s) ps := by
  unfold Sys2Proof.Machine.State.refusedIs
  dsimp -failIfUnchanged only
  with_reducible repeat' (first | assumption | (intro _) | apply Frame.ite | apply Frame.ite2 | apply Frame.foldl | apply Frame.foldl2 | apply Frame.modSec | apply h0 | simp only [Frame.mk_iff] | (fail_if_no_progress beta_reduce) | (fail_if_no_progress dsimp only) | split)

theorem Frame.request {o : State} {ps : List Piece} (s : State) (ok : Bool) (f : State → State) (h0 : State.onlyIn o s ps) (h1 : ∀ x, State.onlyIn o x ps → State.onlyIn o (f x) ps) (kregs : Piece.regs ∈ ps) (ksec : Piece.sec ∈ ps) :
    State.onlyIn o (State.request s ok f) ps := by
  unfold Sys2Proof.Machine.State.request
  dsimp -failIfUnchanged only
  with_reducible repeat' (first | assumption | (intro _) | apply Frame.ite | apply Frame.ite2 | apply Frame.foldl | apply Frame.foldl2 | apply Frame.refusedIs | apply Frame.count | apply h0 | apply h1 | (fail_if_no_progress beta_reduce) | (fail_if_no_progress dsimp only) | split)

theorem Frame.askChallenge {o : State} {ps : List Piece} (role : Nat) (s : State) (h0 : State.onlyIn o s ps) (kregs : Piece.regs ∈ ps) (ksec : Piece.sec ∈ ps) :
    State.onlyIn o (State.askChallenge role s) ps := by
  unfold Sys2Proof.Machine.State.askChallenge
  dsimp -failIfUnchanged only
  with_reducible repeat' (first | assumption | (intro _) | apply Frame.ite | apply Frame.ite2 | apply Frame.foldl | apply Frame.foldl2 | apply Frame.request | apply Frame.modSec | apply h0 | simp only [Frame.mk_iff] | (fail_if_no_progress beta_reduce) | (fail_if_no_progress dsimp only) | split)

theorem Frame.openSession {o : State} {ps : List Piece} (p : Port) (role : Nat) (s : State) (h0 : State.onlyIn o s ps) (kregs : Piece.regs ∈ ps) (ksys : Piece.sys ∈ ps) (ksec : Piece.sec ∈ ps) :
    State.onlyIn o (State.openSession p role s) ps := by
  unfold Sys2Proof.Machine.State.openSession
  dsimp -failIfUnchanged only
  with_reducible repeat' (first | assumption | (intro _) | apply Frame.ite | apply Frame.ite2 | apply Frame.foldl | apply Frame.foldl2 | apply Frame.request | apply Frame.modSec | apply Frame.beginBusy | apply h0 | simp only [Frame.mk_iff] | (fail_if_no_progress beta_reduce) | (fail_if_no_progress dsimp only) | split)

theorem Frame.claimInstaller {o : State} {ps : List Piece} (p : Port) (role : Nat) (s : State) (h0 : State.onlyIn o s ps) (kregs : Piece.regs ∈ ps) (ksys : Piece.sys ∈ ps) (ksec : Piece.sec ∈ ps) :
    State.onlyIn o (State.claimInstaller p role s) ps := by
  unfold Sys2Proof.Machine.State.claimInstaller
  dsimp -failIfUnchanged only
  with_reducible repeat' (first | assumption | (intro _) | apply Frame.ite | apply Frame.ite2 | apply Frame.foldl | apply Frame.foldl2 | apply Frame.request | apply Frame.modSec | apply Frame.beginBusy | apply h0 | simp only [Frame.mk_iff] | (fail_if_no_progress beta_reduce) | (fail_if_no_progress dsimp only) | split)

theorem Frame.closeSession {o : State} {ps : List Piece} (p : Port) (s : State) (h0 : State.onlyIn o s ps) (kregs : Piece.regs ∈ ps) (khif : Piece.hif ∈ ps) (ksec : Piece.sec ∈ ps) :
    State.onlyIn o (State.closeSession p s) ps := by
  unfold Sys2Proof.Machine.State.closeSession
  dsimp -failIfUnchanged only
  with_reducible repeat' (first | assumption | (intro _) | apply Frame.ite | apply Frame.ite2 | apply Frame.foldl | apply Frame.foldl2 | apply Frame.endSession | apply h0 | (fail_if_no_progress beta_reduce) | (fail_if_no_progress dsimp only) | split)

theorem Frame.sessWrite {o : State} {ps : List Piece} (p : Port) (v : Word) (s : State) (h0 : State.onlyIn o s ps) (kregs : Piece.regs ∈ ps) (ksys : Piece.sys ∈ ps) (khif : Piece.hif ∈ ps) (ksec : Piece.sec ∈ ps) :
    State.onlyIn o (State.sessWrite p v s) ps := by
  unfold Sys2Proof.Machine.State.sessWrite
  dsimp -failIfUnchanged only
  with_reducible repeat' (first | assumption | (intro _) | apply Frame.ite | apply Frame.ite2 | apply Frame.foldl | apply Frame.foldl2 | apply Frame.askChallenge | apply Frame.openSession | apply Frame.closeSession | apply Frame.claimInstaller | apply h0 | (fail_if_no_progress beta_reduce) | (fail_if_no_progress dsimp only) | split)

theorem Frame.sessionBegins {o : State} {ps : List Piece} (role : Nat) (p : Port) (kind : Nat) (s : State) (h0 : State.onlyIn o s ps) (kregs : Piece.regs ∈ ps) (khif : Piece.hif ∈ ps) (ksec : Piece.sec ∈ ps) :
    State.onlyIn o (State.sessionBegins role p kind s) ps := by
  unfold Sys2Proof.Machine.State.sessionBegins
  dsimp -failIfUnchanged only
  with_reducible repeat' (first | assumption | (intro _) | apply Frame.ite | apply Frame.ite2 | apply Frame.foldl | apply Frame.foldl2 | apply Frame.modSec | apply Frame.journal | apply h0 | simp only [Frame.mk_iff] | (fail_if_no_progress beta_reduce) | (fail_if_no_progress dsimp only) | split)

theorem Frame.openFailed {o : State} {ps : List Piece} (s : State) (h0 : State.onlyIn o s ps) (kregs : Piece.regs ∈ ps) (ksec : Piece.sec ∈ ps) :
    State.onlyIn o (State.openFailed s) ps := by
  unfold Sys2Proof.Machine.State.openFailed
  dsimp -failIfUnchanged only
  with_reducible repeat' (first | assumption | (intro _) | apply Frame.ite | apply Frame.ite2 | apply Frame.foldl | apply Frame.foldl2 | apply Frame.modSec | apply Frame.count | apply h0 | simp only [Frame.mk_iff] | (fail_if_no_progress beta_reduce) | (fail_if_no_progress dsimp only) | split)

theorem Frame.clearKey {o : State} {ps : List Piece} (s : State) (h0 : State.onlyIn o s ps) (ksec : Piece.sec ∈ ps) :
    State.onlyIn o (State.clearKey s) ps := by
  unfold Sys2Proof.Machine.State.clearKey
  dsimp -failIfUnchanged only
  with_reducible repeat' (first | assumption | (intro _) | apply Frame.ite | apply Frame.ite2 | apply Frame.foldl | apply Frame.foldl2 | apply Frame.modSec | apply h0 | simp only [Frame.mk_iff] | (fail_if_no_progress beta_reduce) | (fail_if_no_progress dsimp only) | split)

theorem Frame.unlockEnds {o : State} {ps : List Piece} (role : Nat) (claim : Bool) (p : Port) (s : State) (h0 : State.onlyIn o s ps) (kregs : Piece.regs ∈ ps) (ksys : Piece.sys ∈ ps) (khif : Piece.hif ∈ ps) (kevc : Piece.evc ∈ ps) (ksec : Piece.sec ∈ ps) :
    State.onlyIn o (State.unlockEnds role claim p s) ps := by
  unfold Sys2Proof.Machine.State.unlockEnds
  dsimp -failIfUnchanged only
  with_reducible repeat' (first | assumption | (intro _) | apply Frame.ite | apply Frame.ite2 | apply Frame.foldl | apply Frame.foldl2 | apply Frame.modSec | apply Frame.endBusy | apply Frame.claim | apply Frame.clearKey | apply Frame.sessionBegins | apply Frame.openFailed | apply h0 | simp only [Frame.mk_iff] | (fail_if_no_progress beta_reduce) | (fail_if_no_progress dsimp only) | split)

theorem Frame.onMaker {o : State} {ps : List Piece} (s : State) (p : Port) (f : State → State) (h0 : State.onlyIn o s ps) (h1 : ∀ x, State.onlyIn o x ps → State.onlyIn o (f x) ps) (kregs : Piece.regs ∈ ps) (khif : Piece.hif ∈ ps) (ksec : Piece.sec ∈ ps) :
    State.onlyIn o (State.onMaker s p f) ps := by
  unfold Sys2Proof.Machine.State.onMaker
  dsimp -failIfUnchanged only
  with_reducible repeat' (first | assumption | (intro _) | apply Frame.ite | apply Frame.ite2 | apply Frame.foldl | apply Frame.foldl2 | apply Frame.onWrite | apply Frame.deny | apply h0 | apply h1 | (fail_if_no_progress beta_reduce) | (fail_if_no_progress dsimp only) | split)

theorem Frame.provision {o : State} {ps : List Piece} (p : Port) (data : Nat) (k : Option (BitVec 128)) (s : State) (h0 : State.onlyIn o s ps) (kregs : Piece.regs ∈ ps) (khif : Piece.hif ∈ ps) (ksec : Piece.sec ∈ ps) :
    State.onlyIn o (State.provision p data k s) ps := by
  unfold Sys2Proof.Machine.State.provision
  dsimp -failIfUnchanged only
  with_reducible repeat' (first | assumption | (intro _) | apply Frame.ite | apply Frame.ite2 | apply Frame.foldl | apply Frame.foldl2 | apply Frame.refusedIs | apply Frame.modSec | apply Frame.dropSession | apply Frame.journal | apply h0 | simp only [Frame.mk_iff] | (fail_if_no_progress beta_reduce) | (fail_if_no_progress dsimp only) | split)

theorem Frame.provisionSet {o : State} {ps : List Piece} (p : Port) (s : State) (h0 : State.onlyIn o s ps) (kregs : Piece.regs ∈ ps) (khif : Piece.hif ∈ ps) (ksec : Piece.sec ∈ ps) :
    State.onlyIn o (State.provisionSet p s) ps := by
  unfold Sys2Proof.Machine.State.provisionSet
  dsimp -failIfUnchanged only
  with_reducible repeat' (first | assumption | (intro _) | apply Frame.ite | apply Frame.ite2 | apply Frame.foldl | apply Frame.foldl2 | apply Frame.provision | apply Frame.clearKey | apply h0 | (fail_if_no_progress beta_reduce) | (fail_if_no_progress dsimp only) | split)

theorem Frame.provisionClear {o : State} {ps : List Piece} (p : Port) (s : State) (h0 : State.onlyIn o s ps) (kregs : Piece.regs ∈ ps) (khif : Piece.hif ∈ ps) (ksec : Piece.sec ∈ ps) :
    State.onlyIn o (State.provisionClear p s) ps := by
  unfold Sys2Proof.Machine.State.provisionClear
  dsimp -failIfUnchanged only
  with_reducible repeat' (first | assumption | (intro _) | apply Frame.ite | apply Frame.ite2 | apply Frame.foldl | apply Frame.foldl2 | apply Frame.provision | apply h0 | (fail_if_no_progress beta_reduce) | (fail_if_no_progress dsimp only) | split)

theorem Frame.jRead {o : State} {ps : List Piece} (s : State) (h0 : State.onlyIn o s ps) (kregs : Piece.regs ∈ ps) (khif : Piece.hif ∈ ps) (ksec : Piece.sec ∈ ps) (kans : Piece.ans ∈ ps) :
    State.onlyIn o (State.jRead s) ps := by
  unfold Sys2Proof.Machine.State.jRead
  dsimp -failIfUnchanged only
  with_reducible repeat' (first | assumption | (intro _) | apply Frame.ite | apply Frame.ite2 | apply Frame.foldl | apply Frame.foldl2 | apply Frame.journal | apply Frame.set | apply Frame.answer | apply h0 | (fail_if_no_progress beta_reduce) | (fail_if_no_progress dsimp only) | split)

theorem Frame.exportBegin {o : State} {ps : List Piece} (p : Port) (s : State) (h0 : State.onlyIn o s ps) (ksys : Piece.sys ∈ ps) (ksec : Piece.sec ∈ ps) :
    State.onlyIn o (State.exportBegin p s) ps := by
  unfold Sys2Proof.Machine.State.exportBegin
  dsimp -failIfUnchanged only
  with_reducible repeat' (first | assumption | (intro _) | apply Frame.ite | apply Frame.ite2 | apply Frame.foldl | apply Frame.foldl2 | apply Frame.modSec | apply Frame.beginBusy | apply h0 | simp only [Frame.mk_iff] | (fail_if_no_progress beta_reduce) | (fail_if_no_progress dsimp only) | split)

theorem Frame.sealBegin {o : State} {ps : List Piece} (p : Port) (s : State) (h0 : State.onlyIn o s ps) (ksys : Piece.sys ∈ ps) (ksec : Piece.sec ∈ ps) :
    State.onlyIn o (State.sealBegin p s) ps := by
  unfold Sys2Proof.Machine.State.sealBegin
  dsimp -failIfUnchanged only
  with_reducible repeat' (first | assumption | (intro _) | apply Frame.ite | apply Frame.ite2 | apply Frame.foldl | apply Frame.foldl2 | apply Frame.clearKey | apply Frame.modSec | apply Frame.beginBusy | apply h0 | simp only [Frame.mk_iff] | (fail_if_no_progress beta_reduce) | (fail_if_no_progress dsimp only) | split)

theorem Frame.sealNow {o : State} {ps : List Piece} (p : Port) (s : State) (h0 : State.onlyIn o s ps) (kregs : Piece.regs ∈ ps) (ksys : Piece.sys ∈ ps) (khif : Piece.hif ∈ ps) (ksec : Piece.sec ∈ ps) :
    State.onlyIn o (State.sealNow p s) ps := by
  unfold Sys2Proof.Machine.State.sealNow
  dsimp -failIfUnchanged only
  with_reducible repeat' (first | assumption | (intro _) | apply Frame.ite | apply Frame.ite2 | apply Frame.foldl | apply Frame.foldl2 | apply Frame.modSec | apply Frame.journal | apply Frame.endBusy | apply h0 | simp only [Frame.mk_iff] | (fail_if_no_progress beta_reduce) | (fail_if_no_progress dsimp only) | split)

theorem Frame.jctrlWrite {o : State} {ps : List Piece} (p : Port) (v : Word) (s : State) (h0 : State.onlyIn o s ps) (kregs : Piece.regs ∈ ps) (ksys : Piece.sys ∈ ps) (khif : Piece.hif ∈ ps) (ksec : Piece.sec ∈ ps) :
    State.onlyIn o (State.jctrlWrite p v s) ps := by
  unfold Sys2Proof.Machine.State.jctrlWrite
  dsimp -failIfUnchanged only
  with_reducible repeat' (first | assumption | (intro _) | apply Frame.ite | apply Frame.ite2 | apply Frame.foldl | apply Frame.foldl2 | apply Frame.deny | apply Frame.exportBegin | apply Frame.sealBegin | apply h0 | (fail_if_no_progress beta_reduce) | (fail_if_no_progress dsimp only) | split)

theorem Frame.kprovWrite {o : State} {ps : List Piece} (p : Port) (v : Word) (s : State) (h0 : State.onlyIn o s ps) (kregs : Piece.regs ∈ ps) (khif : Piece.hif ∈ ps) (ksec : Piece.sec ∈ ps) :
    State.onlyIn o (State.kprovWrite p v s) ps := by
  unfold Sys2Proof.Machine.State.kprovWrite
  dsimp -failIfUnchanged only
  with_reducible repeat' (first | assumption | (intro _) | apply Frame.ite | apply Frame.ite2 | apply Frame.foldl | apply Frame.foldl2 | apply Frame.deny | apply Frame.provisionSet | apply Frame.provisionClear | apply h0 | (fail_if_no_progress beta_reduce) | (fail_if_no_progress dsimp only) | split)

/-! Commit -/

theorem Frame.clean {o : State} {ps : List Piece} (s : State) (h0 : State.onlyIn o s ps) (kregs : Piece.regs ∈ ps) (kquads : Piece.quads ∈ ps) :
    State.onlyIn o (State.clean s) ps := by
  unfold Sys2Proof.Machine.State.clean
  dsimp -failIfUnchanged only
  with_reducible repeat' (first | assumption | (intro _) | apply Frame.ite | apply Frame.ite2 | apply Frame.foldl | apply Frame.foldl2 | apply h0 | simp only [Frame.mk_iff] | apply Frame.with_regs | apply Frame.with_quads | apply Frame.parts | (exact Or.inl ‹_›) | apply Frame.part_part | apply Frame.part_clk | apply Frame.part_regs | apply Frame.part_sys | apply Frame.part_hif | apply Frame.part_evc | apply Frame.part_sec | apply Frame.part_whl | apply Frame.part_ang | apply Frame.part_sch | apply Frame.part_banks | apply Frame.part_quads | apply Frame.part_edges | apply Frame.part_ink | apply Frame.part_grds | apply Frame.part_adc | apply Frame.part_cmps | apply Frame.part_tmrs | apply Frame.part_nibs | apply Frame.part_tst | apply Frame.part_slur | apply Frame.part_jtag | apply Frame.part_ans | apply Frame.part_freeCtr | apply Frame.part_pending | (fail_if_no_progress beta_reduce) | (fail_if_no_progress dsimp only) | split)

theorem Frame.discardNow {o : State} {ps : List Piece} (p : Port) (s : State) (h0 : State.onlyIn o s ps) (kregs : Piece.regs ∈ ps) (khif : Piece.hif ∈ ps) (kquads : Piece.quads ∈ ps) :
    State.onlyIn o (State.discardNow p s) ps := by
  unfold Sys2Proof.Machine.State.discardNow
  dsimp -failIfUnchanged only
  with_reducible repeat' (first | assumption | (intro _) | apply Frame.ite | apply Frame.ite2 | apply Frame.foldl | apply Frame.foldl2 | apply Frame.deny | apply Frame.clean | apply h0 | simp only [Frame.mk_iff] | apply Frame.with_regs | (fail_if_no_progress beta_reduce) | (fail_if_no_progress dsimp only) | split)

theorem Frame.commitGo {o : State} {ps : List Piece} (p : Port) (s : State) (h0 : State.onlyIn o s ps) (ksys : Piece.sys ∈ ps) (ksec : Piece.sec ∈ ps) (kfreeCtr : Piece.freeCtr ∈ ps) :
    State.onlyIn o (State.commitGo p s) ps := by
  unfold Sys2Proof.Machine.State.commitGo
  dsimp -failIfUnchanged only
  with_reducible repeat' (first | assumption | (intro _) | apply Frame.ite | apply Frame.ite2 | apply Frame.foldl | apply Frame.foldl2 | apply Frame.draw | apply Frame.modSec | apply Frame.beginBusy | apply h0 | simp only [Frame.mk_iff] | (fail_if_no_progress beta_reduce) | (fail_if_no_progress dsimp only) | split)

theorem Frame.commitWrite {o : State} {ps : List Piece} (p : Port) (v : Word) (s : State) (h0 : State.onlyIn o s ps) (kregs : Piece.regs ∈ ps) (ksys : Piece.sys ∈ ps) (khif : Piece.hif ∈ ps) (ksec : Piece.sec ∈ ps) (kquads : Piece.quads ∈ ps) (kfreeCtr : Piece.freeCtr ∈ ps) :
    State.onlyIn o (State.commitWrite p v s) ps := by
  unfold Sys2Proof.Machine.State.commitWrite
  dsimp -failIfUnchanged only
  with_reducible repeat' (first | assumption | (intro _) | apply Frame.ite | apply Frame.ite2 | apply Frame.foldl | apply Frame.foldl2 | apply Frame.count | apply Frame.commitGo | apply Frame.discardNow | apply h0 | (fail_if_no_progress beta_reduce) | (fail_if_no_progress dsimp only) | split)

theorem Frame.commitEnds {o : State} {ps : List Piece} (outcome entries : Nat) (s : State) (h0 : State.onlyIn o s ps) (kregs : Piece.regs ∈ ps) (ksys : Piece.sys ∈ ps) (khif : Piece.hif ∈ ps) (ksec : Piece.sec ∈ ps) (kfreeCtr : Piece.freeCtr ∈ ps) :
    State.onlyIn o (State.commitEnds outcome entries s) ps := by
  unfold Sys2Proof.Machine.State.commitEnds
  dsimp -failIfUnchanged only
  with_reducible repeat' (first | assumption | (intro _) | apply Frame.ite | apply Frame.ite2 | apply Frame.foldl | apply Frame.foldl2 | apply Frame.draw | apply Frame.modSec | apply Frame.endBusy | apply Frame.releaseHeld | apply h0 | simp only [Frame.mk_iff] | (fail_if_no_progress beta_reduce) | (fail_if_no_progress dsimp only) | split)

theorem Frame.setVerify {o : State} {ps : List Piece} (v : Option Verdict) (s : State) (h0 : State.onlyIn o s ps) (kregs : Piece.regs ∈ ps) :
    State.onlyIn o (State.setVerify v s) ps := by
  unfold Sys2Proof.Machine.State.setVerify
  dsimp -failIfUnchanged only
  with_reducible repeat' (first | assumption | (intro _) | apply Frame.ite | apply Frame.ite2 | apply Frame.foldl | apply Frame.foldl2 | apply Frame.putWord | apply Frame.set | apply h0 | (fail_if_no_progress beta_reduce) | (fail_if_no_progress dsimp only) | split)

theorem Frame.commitFails {o : State} {ps : List Piece} (f : CommitFault) (s : State) (h0 : State.onlyIn o s ps) (kregs : Piece.regs ∈ ps) (ksys : Piece.sys ∈ ps) (khif : Piece.hif ∈ ps) (kevc : Piece.evc ∈ ps) (ksec : Piece.sec ∈ ps) (kfreeCtr : Piece.freeCtr ∈ ps) :
    State.onlyIn o (State.commitFails f s) ps := by
  unfold Sys2Proof.Machine.State.commitFails
  dsimp -failIfUnchanged only
  with_reducible repeat' (first | assumption | (intro _) | apply Frame.ite | apply Frame.ite2 | apply Frame.foldl | apply Frame.foldl2 | apply Frame.count | apply Frame.setVerify | apply Frame.modSec | apply Frame.commitEnds | apply Frame.claim | apply Frame.draw | apply h0 | simp only [Frame.mk_iff] | (fail_if_no_progress beta_reduce) | (fail_if_no_progress dsimp only) | split)

theorem Frame.blockEntry {o : State} {ps : List Piece} (k : CommitRun) (old new : WMap) (b : Nat) (written : List Nat) (s : State) (h0 : State.onlyIn o s ps) (kregs : Piece.regs ∈ ps) (khif : Piece.hif ∈ ps) (ksec : Piece.sec ∈ ps) :
    State.onlyIn o (State.blockEntry k old new b written s) ps := by
  unfold Sys2Proof.Machine.State.blockEntry
  dsimp -failIfUnchanged only
  with_reducible repeat' (first | assumption | (intro _) | apply Frame.ite | apply Frame.ite2 | apply Frame.foldl | apply Frame.foldl2 | apply Frame.journal | apply h0 | (fail_if_no_progress beta_reduce) | (fail_if_no_progress dsimp only) | split)

theorem Frame.tablesForget {o : State} {ps : List Piece} (s : State) (h0 : State.onlyIn o s ps) (kregs : Piece.regs ∈ ps) :
    State.onlyIn o (State.tablesForget s) ps := by
  unfold Sys2Proof.Machine.State.tablesForget
  dsimp -failIfUnchanged only
  with_reducible repeat' (first | assumption | (intro _) | apply Frame.ite | apply Frame.ite2 | apply Frame.foldl | apply Frame.foldl2 | apply Frame.putWord | apply Frame.putShadow | apply Frame.set | apply h0 | (fail_if_no_progress beta_reduce) | (fail_if_no_progress dsimp only) | split)

theorem Frame.commitWheel {o : State} {ps : List Piece} (old : WMap) (s : State) (h0 : State.onlyIn o s ps) (kregs : Piece.regs ∈ ps) (ksys : Piece.sys ∈ ps) (khif : Piece.hif ∈ ps) (kevc : Piece.evc ∈ ps) (kwhl : Piece.whl ∈ ps) (kang : Piece.ang ∈ ps) (ksch : Piece.sch ∈ ps) (kbanks : Piece.banks ∈ ps) (kquads : Piece.quads ∈ ps) (kedges : Piece.edges ∈ ps) (kink : Piece.ink ∈ ps) (kadc : Piece.adc ∈ ps) (kcmps : Piece.cmps ∈ ps) (knibs : Piece.nibs ∈ ps) (ktst : Piece.tst ∈ ps) (kslur : Piece.slur ∈ ps) (kfreeCtr : Piece.freeCtr ∈ ps) :
    State.onlyIn o (State.commitWheel old s) ps := by
  unfold Sys2Proof.Machine.State.commitWheel
  dsimp -failIfUnchanged only
  with_reducible repeat' (first | assumption | (intro _) | apply Frame.ite | apply Frame.ite2 | apply Frame.foldl | apply Frame.foldl2 | apply Frame.syncResetNow | apply Frame.retrainNow | apply h0 | simp only [Frame.mk_iff] | apply Frame.with_slur | (fail_if_no_progress beta_reduce) | (fail_if_no_progress dsimp only) | split)

theorem Frame.commitMode {o : State} {ps : List Piece} (old : WMap) (n : Nat) (s : State) (h0 : State.onlyIn o s ps) (kregs : Piece.regs ∈ ps) (khif : Piece.hif ∈ ps) (ksch : Piece.sch ∈ ps) (kbanks : Piece.banks ∈ ps) (kink : Piece.ink ∈ ps) :
    State.onlyIn o (State.commitMode old n s) ps := by
  unfold Sys2Proof.Machine.State.commitMode
  dsimp -failIfUnchanged only
  with_reducible repeat' (first | assumption | (intro _) | apply Frame.ite | apply Frame.ite2 | apply Frame.foldl | apply Frame.foldl2 | apply Frame.logIdle | apply Frame.refuse | apply Frame.modChan | apply Frame.newMode | apply h0 | (fail_if_no_progress beta_reduce) | (fail_if_no_progress dsimp only) | split)

theorem Frame.commitPhrases {o : State} {ps : List Piece} (old : WMap) (q : Nat) (s : State) (h0 : State.onlyIn o s ps) (kbanks : Piece.banks ∈ ps) (kquads : Piece.quads ∈ ps) :
    State.onlyIn o (State.commitPhrases old q s) ps := by
  unfold Sys2Proof.Machine.State.commitPhrases
  dsimp -failIfUnchanged only
  with_reducible repeat' (first | assumption | (intro _) | apply Frame.ite | apply Frame.ite2 | apply Frame.foldl | apply Frame.foldl2 | apply Frame.modQuad | apply Frame.modThread | apply h0 | (fail_if_no_progress beta_reduce) | (fail_if_no_progress dsimp only) | split)

theorem Frame.commitClose {o : State} {ps : List Piece} (new : WMap) (s : State) (h0 : State.onlyIn o s ps) (kregs : Piece.regs ∈ ps) (khif : Piece.hif ∈ ps) (kadc : Piece.adc ∈ ps) :
    State.onlyIn o (State.commitClose new s) ps := by
  unfold Sys2Proof.Machine.State.commitClose
  dsimp -failIfUnchanged only
  with_reducible repeat' (first | assumption | (intro _) | apply Frame.ite | apply Frame.ite2 | apply Frame.foldl | apply Frame.foldl2 | apply Frame.closeAll | apply h0 | (fail_if_no_progress beta_reduce) | (fail_if_no_progress dsimp only) | split)

theorem Frame.commitOpen {o : State} {ps : List Piece} (old : WMap) (was : List Nat) (s : State) (h0 : State.onlyIn o s ps) (kregs : Piece.regs ∈ ps) (khif : Piece.hif ∈ ps) (kadc : Piece.adc ∈ ps) :
    State.onlyIn o (State.commitOpen old was s) ps := by
  unfold Sys2Proof.Machine.State.commitOpen
  dsimp -failIfUnchanged only
  with_reducible repeat' (first | assumption | (intro _) | apply Frame.ite | apply Frame.ite2 | apply Frame.foldl | apply Frame.foldl2 | apply Frame.openWin | apply Frame.tqChanged | apply h0 | (fail_if_no_progress beta_reduce) | (fail_if_no_progress dsimp only) | split)

theorem Frame.commitSeq {o : State} {ps : List Piece} (old : WMap) (s : State) (h0 : State.onlyIn o s ps) (kregs : Piece.regs ∈ ps) (kadc : Piece.adc ∈ ps) :
    State.onlyIn o (State.commitSeq old s) ps := by
  unfold Sys2Proof.Machine.State.commitSeq
  dsimp -failIfUnchanged only
  with_reducible repeat' (first | assumption | (intro _) | apply Frame.ite | apply Frame.ite2 | apply Frame.foldl | apply Frame.foldl2 | apply Frame.modConv | apply Frame.set | apply h0 | (fail_if_no_progress beta_reduce) | (fail_if_no_progress dsimp only) | split)

theorem Frame.commitNib {o : State} {ps : List Piece} (old : WMap) (n : Nat) (s : State) (h0 : State.onlyIn o s ps) (kregs : Piece.regs ∈ ps) (kink : Piece.ink ∈ ps) (knibs : Piece.nibs ∈ ps) :
    State.onlyIn o (State.commitNib old n s) ps := by
  unfold Sys2Proof.Machine.State.commitNib
  dsimp -failIfUnchanged only
  with_reducible repeat' (first | assumption | (intro _) | apply Frame.ite | apply Frame.ite2 | apply Frame.foldl | apply Frame.foldl2 | apply Frame.nibRestart | apply Frame.modNib | apply h0 | simp only [Frame.mk_iff] | apply Frame.with_ink | (fail_if_no_progress beta_reduce) | (fail_if_no_progress dsimp only) | split)

theorem Frame.commitBoost {o : State} {ps : List Piece} (old : WMap) (q : Nat) (s : State) (h0 : State.onlyIn o s ps) (kregs : Piece.regs ∈ ps) (khif : Piece.hif ∈ ps) (kevc : Piece.evc ∈ ps) (kquads : Piece.quads ∈ ps) :
    State.onlyIn o (State.commitBoost old q s) ps := by
  unfold Sys2Proof.Machine.State.commitBoost
  dsimp -failIfUnchanged only
  with_reducible repeat' (first | assumption | (intro _) | apply Frame.ite | apply Frame.ite2 | apply Frame.foldl | apply Frame.foldl2 | apply Frame.modQuad | apply Frame.setBoost | apply h0 | (fail_if_no_progress beta_reduce) | (fail_if_no_progress dsimp only) | split)

theorem Frame.commitAccounts {o : State} {ps : List Piece} (old : WMap) (s : State) (h0 : State.onlyIn o s ps) (kregs : Piece.regs ∈ ps) (khif : Piece.hif ∈ ps) (kevc : Piece.evc ∈ ps) (kink : Piece.ink ∈ ps) :
    State.onlyIn o (State.commitAccounts old s) ps := by
  unfold Sys2Proof.Machine.State.commitAccounts
  dsimp -failIfUnchanged only
  with_reducible repeat' (first | assumption | (intro _) | apply Frame.ite | apply Frame.ite2 | apply Frame.foldl | apply Frame.foldl2 | apply Frame.watchRail | apply Frame.watchDev | apply h0 | simp only [Frame.mk_iff] | apply Frame.with_ink | (fail_if_no_progress beta_reduce) | (fail_if_no_progress dsimp only) | split)

theorem Frame.commitTimers {o : State} {ps : List Piece} (old : WMap) (s : State) (h0 : State.onlyIn o s ps) (kcmps : Piece.cmps ∈ ps) (ktmrs : Piece.tmrs ∈ ps) :
    State.onlyIn o (State.commitTimers old s) ps := by
  unfold Sys2Proof.Machine.State.commitTimers
  dsimp -failIfUnchanged only
  with_reducible repeat' (first | assumption | (intro _) | apply Frame.ite | apply Frame.ite2 | apply Frame.foldl | apply Frame.foldl2 | apply Frame.modTmr | apply h0 | simp only [Frame.mk_iff] | apply Frame.with_cmps | (fail_if_no_progress beta_reduce) | (fail_if_no_progress dsimp only) | split)

theorem Frame.commitEffects {o : State} {ps : List Piece} (old : WMap) (was : List Nat) (s : State) (h0 : State.onlyIn o s ps) (kregs : Piece.regs ∈ ps) (ksys : Piece.sys ∈ ps) (khif : Piece.hif ∈ ps) (kevc : Piece.evc ∈ ps) (kwhl : Piece.whl ∈ ps) (kang : Piece.ang ∈ ps) (ksch : Piece.sch ∈ ps) (kbanks : Piece.banks ∈ ps) (kquads : Piece.quads ∈ ps) (kedges : Piece.edges ∈ ps) (kink : Piece.ink ∈ ps) (kgrds : Piece.grds ∈ ps) (kadc : Piece.adc ∈ ps) (kcmps : Piece.cmps ∈ ps) (ktmrs : Piece.tmrs ∈ ps) (knibs : Piece.nibs ∈ ps) (ktst : Piece.tst ∈ ps) (kslur : Piece.slur ∈ ps) (kfreeCtr : Piece.freeCtr ∈ ps) :
    State.onlyIn o (State.commitEffects old was s) ps := by
  unfold Sys2Proof.Machine.State.commitEffects
  dsimp -failIfUnchanged only
  with_reducible repeat' (first | assumption | (intro _) | apply Frame.ite | apply Frame.ite2 | apply Frame.foldl | apply Frame.foldl2 | apply Frame.commitWheel | apply Frame.commitMode | apply Frame.commitPhrases | apply Frame.commitBoost | apply Frame.commitOpen | apply Frame.commitSeq | apply Frame.commitAccounts | apply Frame.commitNib | apply Frame.commitTimers | apply Frame.grdLive | apply Frame.grdEnables | apply Frame.watchStore | apply Frame.levelsSettle | apply h0 | (fail_if_no_progress beta_reduce) | (fail_if_no_progress dsimp only) | split)

theorem Frame.commitNow {o : State} {ps : List Piece} (k : CommitRun) (s : State) (h0 : State.onlyIn o s ps) (kclk : Piece.clk ∈ ps) (kregs : Piece.regs ∈ ps) (ksys : Piece.sys ∈ ps) (khif : Piece.hif ∈ ps) (kevc : Piece.evc ∈ ps) (ksec : Piece.sec ∈ ps) (kwhl : Piece.whl ∈ ps) (kang : Piece.ang ∈ ps) (ksch : Piece.sch ∈ ps) (kbanks : Piece.banks ∈ ps) (kquads : Piece.quads ∈ ps) (kedges : Piece.edges ∈ ps) (kink : Piece.ink ∈ ps) (kgrds : Piece.grds ∈ ps) (kadc : Piece.adc ∈ ps) (kcmps : Piece.cmps ∈ ps) (ktmrs : Piece.tmrs ∈ ps) (knibs : Piece.nibs ∈ ps) (ktst : Piece.tst ∈ ps) (kslur : Piece.slur ∈ ps) (kfreeCtr : Piece.freeCtr ∈ ps) :
    State.onlyIn o (State.commitNow k s) ps := by
  unfold Sys2Proof.Machine.State.commitNow
  dsimp -failIfUnchanged only
  with_reducible repeat' (first | assumption | (intro _) | apply Frame.ite | apply Frame.ite2 | apply Frame.foldl | apply Frame.foldl2 | apply Frame.tablesForget | apply Frame.blockEntry | apply Frame.rearmDev | apply Frame.commitClose | apply Frame.commitEffects | apply Frame.clean | apply Frame.setVerify | apply Frame.commitEnds | apply h0 | simp only [Frame.mk_iff] | apply Frame.with_clk | apply Frame.with_regs | apply Frame.with_sys | apply Frame.parts | (exact Or.inl ‹_›) | apply Frame.part_part | apply Frame.part_clk | apply Frame.part_regs | apply Frame.part_sys | apply Frame.part_hif | apply Frame.part_evc | apply Frame.part_sec | apply Frame.part_whl | apply Frame.part_ang | apply Frame.part_sch | apply Frame.part_banks | apply Frame.part_quads | apply Frame.part_edges | apply Frame.part_ink | apply Frame.part_grds | apply Frame.part_adc | apply Frame.part_cmps | apply Frame.part_tmrs | apply Frame.part_nibs | apply Frame.part_tst | apply Frame.part_slur | apply Frame.part_jtag | apply Frame.part_ans | apply Frame.part_freeCtr | apply Frame.part_pending | (fail_if_no_progress beta_reduce) | (fail_if_no_progress dsimp only) | split)

theorem Frame.commitAbort {o : State} {ps : List Piece} (k : CommitRun) (s : State) (h0 : State.onlyIn o s ps) (kregs : Piece.regs ∈ ps) (ksys : Piece.sys ∈ ps) (khif : Piece.hif ∈ ps) (ksec : Piece.sec ∈ ps) (kfreeCtr : Piece.freeCtr ∈ ps) :
    State.onlyIn o (State.commitAbort k s) ps := by
  unfold Sys2Proof.Machine.State.commitAbort
  dsimp -failIfUnchanged only
  with_reducible repeat' (first | assumption | (intro _) | apply Frame.ite | apply Frame.ite2 | apply Frame.foldl | apply Frame.foldl2 | apply Frame.commitEnds | apply h0 | (fail_if_no_progress beta_reduce) | (fail_if_no_progress dsimp only) | split)

/-! Jtag -/

theorem Frame.scan {o : State} {ps : List Piece} (ir : Nat) (s : State) (h0 : State.onlyIn o s ps) (kjtag : Piece.jtag ∈ ps) :
    State.onlyIn o (State.scan ir s) ps := by
  unfold Sys2Proof.Machine.State.scan
  dsimp -failIfUnchanged only
  with_reducible repeat' (first | assumption | (intro _) | apply Frame.ite | apply Frame.ite2 | apply Frame.foldl | apply Frame.foldl2 | apply h0 | simp only [Frame.mk_iff] | apply Frame.with_jtag | (fail_if_no_progress beta_reduce) | (fail_if_no_progress dsimp only) | split)

theorem Frame.onTap {o : State} {ps : List Piece} (s : State) (f : State → State) (h0 : State.onlyIn o s ps) (h1 : ∀ x, State.onlyIn o x ps → State.onlyIn o (f x) ps)  :
    State.onlyIn o (State.onTap s f) ps := by
  unfold Sys2Proof.Machine.State.onTap
  dsimp -failIfUnchanged only
  with_reducible repeat' (first | assumption | (intro _) | apply Frame.ite | apply Frame.ite2 | apply Frame.foldl | apply Frame.foldl2 | apply h0 | apply h1 | (fail_if_no_progress beta_reduce) | (fail_if_no_progress dsimp only) | split)

/-! Tst -/

theorem Frame.laneSkip {o : State} {ps : List Piece} (laneB : Bool) (s : State) (h0 : State.onlyIn o s ps) (ktst : Piece.tst ∈ ps) :
    State.onlyIn o (State.laneSkip laneB s) ps := by
  unfold Sys2Proof.Machine.State.laneSkip
  dsimp -failIfUnchanged only
  with_reducible repeat' (first | assumption | (intro _) | apply Frame.ite | apply Frame.ite2 | apply Frame.foldl | apply Frame.foldl2 | apply h0 | simp only [Frame.mk_iff] | apply Frame.with_tst | (fail_if_no_progress beta_reduce) | (fail_if_no_progress dsimp only) | split)

theorem Frame.passSettle {o : State} {ps : List Piece} (s : State) (h0 : State.onlyIn o s ps) (kregs : Piece.regs ∈ ps) (ksys : Piece.sys ∈ ps) (kevc : Piece.evc ∈ ps) (ksch : Piece.sch ∈ ps) (kadc : Piece.adc ∈ ps) (kcmps : Piece.cmps ∈ ps) (ktst : Piece.tst ∈ ps) :
    State.onlyIn o (State.passSettle s) ps := by
  unfold Sys2Proof.Machine.State.passSettle
  dsimp -failIfUnchanged only
  with_reducible repeat' (first | assumption | (intro _) | apply Frame.ite | apply Frame.ite2 | apply Frame.foldl | apply Frame.foldl2 | apply Frame.tstEnd | apply h0 | (fail_if_no_progress beta_reduce) | (fail_if_no_progress dsimp only) | split)

theorem Frame.passJudge {o : State} {ps : List Piece} (p : Port) (s : State) (h0 : State.onlyIn o s ps) (ksys : Piece.sys ∈ ps) (ktst : Piece.tst ∈ ps) :
    State.onlyIn o (State.passJudge p s) ps := by
  unfold Sys2Proof.Machine.State.passJudge
  dsimp -failIfUnchanged only
  with_reducible repeat' (first | assumption | (intro _) | apply Frame.ite | apply Frame.ite2 | apply Frame.foldl | apply Frame.foldl2 | apply Frame.passBegin | apply Frame.beginBusy | apply h0 | simp only [Frame.mk_iff] | apply Frame.with_tst | (fail_if_no_progress beta_reduce) | (fail_if_no_progress dsimp only) | split)

theorem Frame.passGo {o : State} {ps : List Piece} (p : Port) (s : State) (h0 : State.onlyIn o s ps) (ksys : Piece.sys ∈ ps) (ktst : Piece.tst ∈ ps) :
    State.onlyIn o (State.passGo p s) ps := by
  unfold Sys2Proof.Machine.State.passGo
  dsimp -failIfUnchanged only
  with_reducible repeat' (first | assumption | (intro _) | apply Frame.ite | apply Frame.ite2 | apply Frame.foldl | apply Frame.foldl2 | apply Frame.passJudge | apply h0 | simp only [Frame.mk_iff] | apply Frame.with_tst | (fail_if_no_progress beta_reduce) | (fail_if_no_progress dsimp only) | split)

theorem Frame.passAsked {o : State} {ps : List Piece} (s : State) (h0 : State.onlyIn o s ps) (ksys : Piece.sys ∈ ps) (ktst : Piece.tst ∈ ps) :
    State.onlyIn o (State.passAsked s) ps := by
  unfold Sys2Proof.Machine.State.passAsked
  dsimp -failIfUnchanged only
  with_reducible repeat' (first | assumption | (intro _) | apply Frame.ite | apply Frame.ite2 | apply Frame.foldl | apply Frame.foldl2 | apply Frame.passJudge | apply h0 | (fail_if_no_progress beta_reduce) | (fail_if_no_progress dsimp only) | split)

theorem Frame.tstWrite {o : State} {ps : List Piece} (p : Port) (v : Word) (s : State) (h0 : State.onlyIn o s ps) (kregs : Piece.regs ∈ ps) (ksys : Piece.sys ∈ ps) (khif : Piece.hif ∈ ps) (ksec : Piece.sec ∈ ps) (ktst : Piece.tst ∈ ps) :
    State.onlyIn o (State.tstWrite p v s) ps := by
  unfold Sys2Proof.Machine.State.tstWrite
  dsimp -failIfUnchanged only
  with_reducible repeat' (first | assumption | (intro _) | apply Frame.ite | apply Frame.ite2 | apply Frame.foldl | apply Frame.foldl2 | apply Frame.onWrite | apply Frame.passGo | apply h0 | simp only [Frame.mk_iff] | apply Frame.with_tst | (fail_if_no_progress beta_reduce) | (fail_if_no_progress dsimp only) | split)

theorem Frame.testLow {o : State} {ps : List Piece} (q : Nat) (s : State) (h0 : State.onlyIn o s ps) (ksch : Piece.sch ∈ ps) (kbanks : Piece.banks ∈ ps) (kquads : Piece.quads ∈ ps) :
    State.onlyIn o (State.testLow q s) ps := by
  unfold Sys2Proof.Machine.State.testLow
  dsimp -failIfUnchanged only
  with_reducible repeat' (first | assumption | (intro _) | apply Frame.ite | apply Frame.ite2 | apply Frame.foldl | apply Frame.foldl2 | apply Frame.modChan | apply Frame.modBank | apply Frame.modQuad | apply h0 | (fail_if_no_progress beta_reduce) | (fail_if_no_progress dsimp only) | split)

theorem Frame.blockStart {o : State} {ps : List Piece} (laneB : Bool) (k : Nat) (s : State) (h0 : State.onlyIn o s ps) (kregs : Piece.regs ∈ ps) (khif : Piece.hif ∈ ps) (kevc : Piece.evc ∈ ps) (ksch : Piece.sch ∈ ps) (kbanks : Piece.banks ∈ ps) (kquads : Piece.quads ∈ ps) (kink : Piece.ink ∈ ps) (ktst : Piece.tst ∈ ps) :
    State.onlyIn o (State.blockStart laneB k s) ps := by
  unfold Sys2Proof.Machine.State.blockStart
  dsimp -failIfUnchanged only
  with_reducible repeat' (first | assumption | (intro _) | apply Frame.ite | apply Frame.ite2 | apply Frame.foldl | apply Frame.foldl2 | apply Frame.chargeDev | apply Frame.testLow | apply h0 | simp only [Frame.mk_iff] | apply Frame.with_tst | (fail_if_no_progress beta_reduce) | (fail_if_no_progress dsimp only) | split)

theorem Frame.marksSet {o : State} {ps : List Piece} (s t : State) (h0 : State.onlyIn o s ps) (h1 : State.onlyIn o t ps) (kregs : Piece.regs ∈ ps) (khif : Piece.hif ∈ ps) (kevc : Piece.evc ∈ ps) (ksch : Piece.sch ∈ ps) (kbanks : Piece.banks ∈ ps) (kquads : Piece.quads ∈ ps) (kedges : Piece.edges ∈ ps) (kink : Piece.ink ∈ ps) (kgrds : Piece.grds ∈ ps) (kadc : Piece.adc ∈ ps) :
    State.onlyIn o (State.marksSet s t) ps := by
  unfold Sys2Proof.Machine.State.marksSet
  dsimp -failIfUnchanged only
  with_reducible repeat' (first | assumption | (intro _) | apply Frame.ite | apply Frame.ite2 | apply Frame.foldl | apply Frame.foldl2 | apply Frame.chGone | apply Frame.grdOffTo | apply Frame.sourceGone | apply Frame.modQuad | apply Frame.convGone | apply h0 | apply h1 | (fail_if_no_progress beta_reduce) | (fail_if_no_progress dsimp only) | split)

theorem Frame.convWins {o : State} {ps : List Piece} (n : Nat) (s : State) (h0 : State.onlyIn o s ps) (kregs : Piece.regs ∈ ps) (khif : Piece.hif ∈ ps) (kadc : Piece.adc ∈ ps) :
    State.onlyIn o (State.convWins n s) ps := by
  unfold Sys2Proof.Machine.State.convWins
  dsimp -failIfUnchanged only
  with_reducible repeat' (first | assumption | (intro _) | apply Frame.ite | apply Frame.ite2 | apply Frame.foldl | apply Frame.foldl2 | apply Frame.openAll | apply h0 | (fail_if_no_progress beta_reduce) | (fail_if_no_progress dsimp only) | split)

theorem Frame.grdFresh {o : State} {ps : List Piece} (g : Nat) (s : State) (h0 : State.onlyIn o s ps) (kgrds : Piece.grds ∈ ps) :
    State.onlyIn o (State.grdFresh g s) ps := by
  unfold Sys2Proof.Machine.State.grdFresh
  dsimp -failIfUnchanged only
  with_reducible repeat' (first | assumption | (intro _) | apply Frame.ite | apply Frame.ite2 | apply Frame.foldl | apply Frame.foldl2 | apply Frame.modGrd | apply h0 | (fail_if_no_progress beta_reduce) | (fail_if_no_progress dsimp only) | split)

theorem Frame.bankCmpFresh {o : State} {ps : List Piece} (b : Nat) (s : State) (h0 : State.onlyIn o s ps) (kregs : Piece.regs ∈ ps) (kcmps : Piece.cmps ∈ ps) :
    State.onlyIn o (State.bankCmpFresh b s) ps := by
  unfold Sys2Proof.Machine.State.bankCmpFresh
  dsimp -failIfUnchanged only
  with_reducible repeat' (first | assumption | (intro _) | apply Frame.ite | apply Frame.ite2 | apply Frame.foldl | apply Frame.foldl2 | apply Frame.clrBit | apply h0 | simp only [Frame.mk_iff] | apply Frame.with_cmps | (fail_if_no_progress beta_reduce) | (fail_if_no_progress dsimp only) | split)

theorem Frame.chCmpFresh {o : State} {ps : List Piece} (n : Nat) (s : State) (h0 : State.onlyIn o s ps) (kregs : Piece.regs ∈ ps) (kcmps : Piece.cmps ∈ ps) :
    State.onlyIn o (State.chCmpFresh n s) ps := by
  unfold Sys2Proof.Machine.State.chCmpFresh
  dsimp -failIfUnchanged only
  with_reducible repeat' (first | assumption | (intro _) | apply Frame.ite | apply Frame.ite2 | apply Frame.foldl | apply Frame.foldl2 | apply Frame.clrBit | apply h0 | simp only [Frame.mk_iff] | apply Frame.with_cmps | (fail_if_no_progress beta_reduce) | (fail_if_no_progress dsimp only) | split)

theorem Frame.grdCmpFresh {o : State} {ps : List Piece} (g : Nat) (s : State) (h0 : State.onlyIn o s ps) (kregs : Piece.regs ∈ ps) (kcmps : Piece.cmps ∈ ps) :
    State.onlyIn o (State.grdCmpFresh g s) ps := by
  unfold Sys2Proof.Machine.State.grdCmpFresh
  dsimp -failIfUnchanged only
  with_reducible repeat' (first | assumption | (intro _) | apply Frame.ite | apply Frame.ite2 | apply Frame.foldl | apply Frame.foldl2 | apply Frame.clrBit | apply h0 | simp only [Frame.mk_iff] | apply Frame.with_cmps | (fail_if_no_progress beta_reduce) | (fail_if_no_progress dsimp only) | split)

theorem Frame.wmFresh {o : State} {ps : List Piece} (n : Nat) (s : State) (h0 : State.onlyIn o s ps) (kregs : Piece.regs ∈ ps) (kcmps : Piece.cmps ∈ ps) :
    State.onlyIn o (State.wmFresh n s) ps := by
  unfold Sys2Proof.Machine.State.wmFresh
  dsimp -failIfUnchanged only
  with_reducible repeat' (first | assumption | (intro _) | apply Frame.ite | apply Frame.ite2 | apply Frame.foldl | apply Frame.foldl2 | apply Frame.clrBit | apply h0 | simp only [Frame.mk_iff] | apply Frame.with_cmps | (fail_if_no_progress beta_reduce) | (fail_if_no_progress dsimp only) | split)

theorem Frame.marksLifted {o : State} {ps : List Piece} (s t : State) (h0 : State.onlyIn o s ps) (h1 : State.onlyIn o t ps) (kregs : Piece.regs ∈ ps) (khif : Piece.hif ∈ ps) (kwhl : Piece.whl ∈ ps) (ksch : Piece.sch ∈ ps) (kbanks : Piece.banks ∈ ps) (kquads : Piece.quads ∈ ps) (kink : Piece.ink ∈ ps) (kgrds : Piece.grds ∈ ps) (kadc : Piece.adc ∈ ps) (kcmps : Piece.cmps ∈ ps) :
    State.onlyIn o (State.marksLifted s t) ps := by
  unfold Sys2Proof.Machine.State.marksLifted
  dsimp -failIfUnchanged only
  with_reducible repeat' (first | assumption | (intro _) | apply Frame.ite | apply Frame.ite2 | apply Frame.foldl | apply Frame.foldl2 | apply Frame.modBank | apply Frame.bankCmpFresh | apply Frame.modChan | apply Frame.chCmpFresh | apply Frame.logIdle | apply Frame.grdFresh | apply Frame.grdCmpFresh | apply Frame.modQuad | apply Frame.modConv | apply Frame.convWins | apply Frame.wmFresh | apply Frame.coarse | apply h0 | apply h1 | simp only [Frame.mk_iff] | apply Frame.with_whl | apply Frame.with_ink | apply Frame.parts | (exact Or.inl ‹_›) | apply Frame.part_part | apply Frame.part_clk | apply Frame.part_regs | apply Frame.part_sys | apply Frame.part_hif | apply Frame.part_evc | apply Frame.part_sec | apply Frame.part_whl | apply Frame.part_ang | apply Frame.part_sch | apply Frame.part_banks | apply Frame.part_quads | apply Frame.part_edges | apply Frame.part_ink | apply Frame.part_grds | apply Frame.part_adc | apply Frame.part_cmps | apply Frame.part_tmrs | apply Frame.part_nibs | apply Frame.part_tst | apply Frame.part_slur | apply Frame.part_jtag | apply Frame.part_ans | apply Frame.part_freeCtr | apply Frame.part_pending | (fail_if_no_progress beta_reduce) | (fail_if_no_progress dsimp only) | split)

theorem Frame.verdict {o : State} {ps : List Piece} (k : Nat) (fails : List UnitFail) (s : State) (h0 : State.onlyIn o s ps) (kregs : Piece.regs ∈ ps) (khif : Piece.hif ∈ ps) (kevc : Piece.evc ∈ ps) (kwhl : Piece.whl ∈ ps) (ksch : Piece.sch ∈ ps) (kbanks : Piece.banks ∈ ps) (kquads : Piece.quads ∈ ps) (kedges : Piece.edges ∈ ps) (kink : Piece.ink ∈ ps) (kgrds : Piece.grds ∈ ps) (kadc : Piece.adc ∈ ps) (kcmps : Piece.cmps ∈ ps) (ktst : Piece.tst ∈ ps) :
    State.onlyIn o (State.verdict k fails s) ps := by
  unfold Sys2Proof.Machine.State.verdict
  dsimp -failIfUnchanged only
  with_reducible repeat' (first | assumption | (intro _) | apply Frame.ite | apply Frame.ite2 | apply Frame.foldl | apply Frame.foldl2 | apply Frame.marksSet | apply Frame.marksLifted | apply Frame.alarm | apply h0 | simp only [Frame.mk_iff] | apply Frame.with_tst | (fail_if_no_progress beta_reduce) | (fail_if_no_progress dsimp only) | split)

theorem Frame.blockEnd {o : State} {ps : List Piece} (laneB : Bool) (k : Nat) (fails : List UnitFail) (s : State) (h0 : State.onlyIn o s ps) (kregs : Piece.regs ∈ ps) (ksys : Piece.sys ∈ ps) (khif : Piece.hif ∈ ps) (kevc : Piece.evc ∈ ps) (kwhl : Piece.whl ∈ ps) (ksch : Piece.sch ∈ ps) (kbanks : Piece.banks ∈ ps) (kquads : Piece.quads ∈ ps) (kedges : Piece.edges ∈ ps) (kink : Piece.ink ∈ ps) (kgrds : Piece.grds ∈ ps) (kadc : Piece.adc ∈ ps) (kcmps : Piece.cmps ∈ ps) (ktst : Piece.tst ∈ ps) :
    State.onlyIn o (State.blockEnd laneB k fails s) ps := by
  unfold Sys2Proof.Machine.State.blockEnd
  dsimp -failIfUnchanged only
  with_reducible repeat' (first | assumption | (intro _) | apply Frame.ite | apply Frame.ite2 | apply Frame.foldl | apply Frame.foldl2 | apply Frame.restartUnits | apply Frame.testOver | apply Frame.verdict | apply Frame.laneSkip | apply Frame.passSettle | apply h0 | simp only [Frame.mk_iff] | apply Frame.with_tst | (fail_if_no_progress beta_reduce) | (fail_if_no_progress dsimp only) | split)

theorem Frame.lateVerdict {o : State} {ps : List Piece} (k : Nat) (fails : List UnitFail) (s : State) (h0 : State.onlyIn o s ps) (kregs : Piece.regs ∈ ps) (khif : Piece.hif ∈ ps) (kevc : Piece.evc ∈ ps) (kwhl : Piece.whl ∈ ps) (ksch : Piece.sch ∈ ps) (kbanks : Piece.banks ∈ ps) (kquads : Piece.quads ∈ ps) (kedges : Piece.edges ∈ ps) (kink : Piece.ink ∈ ps) (kgrds : Piece.grds ∈ ps) (kadc : Piece.adc ∈ ps) (kcmps : Piece.cmps ∈ ps) (ktst : Piece.tst ∈ ps) :
    State.onlyIn o (State.lateVerdict k fails s) ps := by
  unfold Sys2Proof.Machine.State.lateVerdict
  dsimp -failIfUnchanged only
  with_reducible repeat' (first | assumption | (intro _) | apply Frame.ite | apply Frame.ite2 | apply Frame.foldl | apply Frame.foldl2 | apply Frame.inCycle | apply Frame.verdict | apply h0 | simp only [Frame.mk_iff] | apply Frame.with_tst | (fail_if_no_progress beta_reduce) | (fail_if_no_progress dsimp only) | split)

/-! HostBus -/

theorem Frame.abort {o : State} {ps : List Piece} (s : State) (h0 : State.onlyIn o s ps) (kregs : Piece.regs ∈ ps) (ksys : Piece.sys ∈ ps) (khif : Piece.hif ∈ ps) (kevc : Piece.evc ∈ ps) (ksec : Piece.sec ∈ ps) (ksch : Piece.sch ∈ ps) (kadc : Piece.adc ∈ ps) (kcmps : Piece.cmps ∈ ps) (ktst : Piece.tst ∈ ps) (kfreeCtr : Piece.freeCtr ∈ ps) :
    State.onlyIn o (State.abort s) ps := by
  unfold Sys2Proof.Machine.State.abort
  dsimp -failIfUnchanged only
  with_reducible repeat' (first | assumption | (intro _) | apply Frame.ite | apply Frame.ite2 | apply Frame.foldl | apply Frame.foldl2 | apply Frame.calAbort | apply Frame.endBusy | apply Frame.commitAbort | apply Frame.modSec | apply Frame.tstEnd | apply h0 | simp only [Frame.mk_iff] | (fail_if_no_progress beta_reduce) | (fail_if_no_progress dsimp only) | split)

theorem Frame.abortWrite {o : State} {ps : List Piece} (p : Port) (v : Word) (s : State) (h0 : State.onlyIn o s ps) (kregs : Piece.regs ∈ ps) (ksys : Piece.sys ∈ ps) (khif : Piece.hif ∈ ps) (kevc : Piece.evc ∈ ps) (ksec : Piece.sec ∈ ps) (ksch : Piece.sch ∈ ps) (kadc : Piece.adc ∈ ps) (kcmps : Piece.cmps ∈ ps) (ktst : Piece.tst ∈ ps) (kfreeCtr : Piece.freeCtr ∈ ps) :
    State.onlyIn o (State.abortWrite p v s) ps := by
  unfold Sys2Proof.Machine.State.abortWrite
  dsimp -failIfUnchanged only
  with_reducible repeat' (first | assumption | (intro _) | apply Frame.ite | apply Frame.ite2 | apply Frame.foldl | apply Frame.foldl2 | apply Frame.touch | apply Frame.abort | apply h0 | (fail_if_no_progress beta_reduce) | (fail_if_no_progress dsimp only) | split)

theorem Frame.sweepWrite {o : State} {ps : List Piece} (p : Port) (v : Word) (s : State) (h0 : State.onlyIn o s ps) (kregs : Piece.regs ∈ ps) (khif : Piece.hif ∈ ps) :
    State.onlyIn o (State.sweepWrite p v s) ps := by
  unfold Sys2Proof.Machine.State.sweepWrite
  dsimp -failIfUnchanged only
  with_reducible repeat' (first | assumption | (intro _) | apply Frame.ite | apply Frame.ite2 | apply Frame.foldl | apply Frame.foldl2 | apply Frame.fieldsWrite | apply Frame.addSat | apply h0 | (fail_if_no_progress beta_reduce) | (fail_if_no_progress dsimp only) | split)

theorem Frame.coalWrite {o : State} {ps : List Piece} (p : Port) (k : Nat) (v : Word) (s : State) (h0 : State.onlyIn o s ps) (kregs : Piece.regs ∈ ps) (khif : Piece.hif ∈ ps) :
    State.onlyIn o (State.coalWrite p k v s) ps := by
  unfold Sys2Proof.Machine.State.coalWrite
  dsimp -failIfUnchanged only
  with_reducible repeat' (first | assumption | (intro _) | apply Frame.ite | apply Frame.ite2 | apply Frame.foldl | apply Frame.foldl2 | apply Frame.fieldsWrite | apply Frame.addSat | apply h0 | (fail_if_no_progress beta_reduce) | (fail_if_no_progress dsimp only) | split)

theorem Frame.gainWrite {o : State} {ps : List Piece} (p : Port) (v : Word) (s : State) (h0 : State.onlyIn o s ps) (kregs : Piece.regs ∈ ps) (khif : Piece.hif ∈ ps) :
    State.onlyIn o (State.gainWrite p v s) ps := by
  unfold Sys2Proof.Machine.State.gainWrite
  dsimp -failIfUnchanged only
  with_reducible repeat' (first | assumption | (intro _) | apply Frame.ite | apply Frame.ite2 | apply Frame.foldl | apply Frame.foldl2 | apply Frame.fieldsWrite | apply h0 | (fail_if_no_progress beta_reduce) | (fail_if_no_progress dsimp only) | split)

theorem Frame.baseWrite {o : State} {ps : List Piece} (p : Port) (r a : Nat) (v : Word) (s : State) (h0 : State.onlyIn o s ps) (kregs : Piece.regs ∈ ps) (khif : Piece.hif ∈ ps) :
    State.onlyIn o (State.baseWrite p r a v s) ps := by
  unfold Sys2Proof.Machine.State.baseWrite
  dsimp -failIfUnchanged only
  with_reducible repeat' (first | assumption | (intro _) | apply Frame.ite | apply Frame.ite2 | apply Frame.foldl | apply Frame.foldl2 | apply Frame.fieldsWrite | apply h0 | (fail_if_no_progress beta_reduce) | (fail_if_no_progress dsimp only) | split)

theorem Frame.phraseRegWrite {o : State} {ps : List Piece} (p : Port) (q a : Nat) (v : Word) (s : State) (h0 : State.onlyIn o s ps) (kregs : Piece.regs ∈ ps) (khif : Piece.hif ∈ ps) (kquads : Piece.quads ∈ ps) :
    State.onlyIn o (State.phraseRegWrite p q a v s) ps := by
  unfold Sys2Proof.Machine.State.phraseRegWrite
  dsimp -failIfUnchanged only
  with_reducible repeat' (first | assumption | (intro _) | apply Frame.ite | apply Frame.ite2 | apply Frame.foldl | apply Frame.foldl2 | apply Frame.fieldsWrite | apply Frame.count | apply Frame.modQuad | apply h0 | (fail_if_no_progress beta_reduce) | (fail_if_no_progress dsimp only) | split)

theorem Frame.evcCmd {o : State} {ps : List Piece} (t : Nat) (v : Word) (s : State) (h0 : State.onlyIn o s ps) (kregs : Piece.regs ∈ ps) (khif : Piece.hif ∈ ps) (kevc : Piece.evc ∈ ps) :
    State.onlyIn o (State.evcCmd t v s) ps := by
  unfold Sys2Proof.Machine.State.evcCmd
  dsimp -failIfUnchanged only
  with_reducible repeat' (first | assumption | (intro _) | apply Frame.ite | apply Frame.ite2 | apply Frame.foldl | apply Frame.foldl2 | apply Frame.claim | apply Frame.complete | apply Frame.releaseTgt | apply h0 | (fail_if_no_progress beta_reduce) | (fail_if_no_progress dsimp only) | split)

theorem Frame.pendClear {o : State} {ps : List Piece} (base : Nat) (v : Word) (s : State) (h0 : State.onlyIn o s ps) (kregs : Piece.regs ∈ ps) (kevc : Piece.evc ∈ ps) :
    State.onlyIn o (State.pendClear base v s) ps := by
  unfold Sys2Proof.Machine.State.pendClear
  dsimp -failIfUnchanged only
  with_reducible repeat' (first | assumption | (intro _) | apply Frame.ite | apply Frame.ite2 | apply Frame.foldl | apply Frame.foldl2 | apply Frame.clearPend | apply h0 | (fail_if_no_progress beta_reduce) | (fail_if_no_progress dsimp only) | split)

theorem Frame.secretWrite {o : State} {ps : List Piece} (a : Nat) (v : Word) (s : State) (h0 : State.onlyIn o s ps) (ksec : Piece.sec ∈ ps) :
    State.onlyIn o (State.secretWrite a v s) ps := by
  unfold Sys2Proof.Machine.State.secretWrite
  dsimp -failIfUnchanged only
  with_reducible repeat' (first | assumption | (intro _) | apply Frame.ite | apply Frame.ite2 | apply Frame.foldl | apply Frame.foldl2 | apply Frame.modSec | apply h0 | simp only [Frame.mk_iff] | (fail_if_no_progress beta_reduce) | (fail_if_no_progress dsimp only) | split)

theorem Frame.writeLow {o : State} {ps : List Piece} (p : Port) (a : Nat) (v : Word) (s : State) (h0 : State.onlyIn o s ps) (kregs : Piece.regs ∈ ps) (ksys : Piece.sys ∈ ps) (khif : Piece.hif ∈ ps) (ksec : Piece.sec ∈ ps) (kquads : Piece.quads ∈ ps) (kans : Piece.ans ∈ ps) (kfreeCtr : Piece.freeCtr ∈ ps) :
    State.onlyIn o (State.writeLow p a v s) ps := by
  unfold Sys2Proof.Machine.State.writeLow
  dsimp -failIfUnchanged only
  with_reducible repeat' (first | assumption | (intro _) | apply Frame.ite | apply Frame.ite2 | apply Frame.foldl | apply Frame.foldl2 | apply Frame.fbAccess | apply Frame.sessWrite | apply Frame.secretWrite | apply Frame.kprovWrite | apply Frame.commitWrite | apply Frame.jctrlWrite | apply Frame.engineCtrl | apply Frame.sweepWrite | apply Frame.ringCfg | apply Frame.baseWrite | apply Frame.fieldsWrite | apply h0 | (fail_if_no_progress beta_reduce) | (fail_if_no_progress dsimp only) | split)

theorem Frame.writeMid {o : State} {ps : List Piece} (p : Port) (a : Nat) (v : Word) (s : State) (h0 : State.onlyIn o s ps) (kregs : Piece.regs ∈ ps) (ksys : Piece.sys ∈ ps) (khif : Piece.hif ∈ ps) (kevc : Piece.evc ∈ ps) (ksec : Piece.sec ∈ ps) (kwhl : Piece.whl ∈ ps) (kang : Piece.ang ∈ ps) (ksch : Piece.sch ∈ ps) (kbanks : Piece.banks ∈ ps) (kquads : Piece.quads ∈ ps) (kedges : Piece.edges ∈ ps) (kink : Piece.ink ∈ ps) (kadc : Piece.adc ∈ ps) (kcmps : Piece.cmps ∈ ps) (knibs : Piece.nibs ∈ ps) (ktst : Piece.tst ∈ ps) (kans : Piece.ans ∈ ps) :
    State.onlyIn o (State.writeMid p a v s) ps := by
  unfold Sys2Proof.Machine.State.writeMid
  dsimp -failIfUnchanged only
  with_reducible repeat' (first | assumption | (intro _) | apply Frame.ite | apply Frame.ite2 | apply Frame.foldl | apply Frame.foldl2 | apply Frame.syncResetWrite | apply Frame.aclkWrite | apply Frame.gainWrite | apply Frame.terrAccess | apply Frame.phraseRegWrite | apply Frame.ptabAccess | apply Frame.fieldsWrite | apply h0 | (fail_if_no_progress beta_reduce) | (fail_if_no_progress dsimp only) | split)

theorem Frame.writeNib {o : State} {ps : List Piece} (p : Port) (a : Nat) (v : Word) (s : State) (h0 : State.onlyIn o s ps) (kregs : Piece.regs ∈ ps) (khif : Piece.hif ∈ ps) (ksec : Piece.sec ∈ ps) (knibs : Piece.nibs ∈ ps) :
    State.onlyIn o (State.writeNib p a v s) ps := by
  unfold Sys2Proof.Machine.State.writeNib
  dsimp -failIfUnchanged only
  with_reducible repeat' (first | assumption | (intro _) | apply Frame.ite | apply Frame.ite2 | apply Frame.foldl | apply Frame.foldl2 | apply Frame.marginSet | apply Frame.strokeLo | apply Frame.strokeHi | apply Frame.nibWrite | apply Frame.txWrite | apply Frame.fieldsWrite | apply h0 | (fail_if_no_progress beta_reduce) | (fail_if_no_progress dsimp only) | split)

theorem Frame.writeHigh {o : State} {ps : List Piece} (p : Port) (a : Nat) (v : Word) (s : State) (h0 : State.onlyIn o s ps) (kregs : Piece.regs ∈ ps) (ksys : Piece.sys ∈ ps) (khif : Piece.hif ∈ ps) (kevc : Piece.evc ∈ ps) (ksec : Piece.sec ∈ ps) (kwhl : Piece.whl ∈ ps) (kang : Piece.ang ∈ ps) (ksch : Piece.sch ∈ ps) (kbanks : Piece.banks ∈ ps) (kquads : Piece.quads ∈ ps) (kedges : Piece.edges ∈ ps) (kink : Piece.ink ∈ ps) (kgrds : Piece.grds ∈ ps) (kadc : Piece.adc ∈ ps) (kcmps : Piece.cmps ∈ ps) (ktmrs : Piece.tmrs ∈ ps) (knibs : Piece.nibs ∈ ps) (ktst : Piece.tst ∈ ps) (kslur : Piece.slur ∈ ps) (kans : Piece.ans ∈ ps) (kfreeCtr : Piece.freeCtr ∈ ps) :
    State.onlyIn o (State.writeHigh p a v s) ps := by
  unfold Sys2Proof.Machine.State.writeHigh
  dsimp -failIfUnchanged only
  with_reducible repeat' (first | assumption | (intro _) | apply Frame.ite | apply Frame.ite2 | apply Frame.foldl | apply Frame.foldl2 | apply Frame.grdCtrlWrite | apply Frame.fieldsWrite | apply Frame.calWrite | apply Frame.moveWrite | apply Frame.accAccess | apply Frame.tmrStartWrite | apply Frame.tmrStopWrite | apply Frame.reloadWrite | apply Frame.cmpWrite | apply Frame.writeNib | apply Frame.pendClear | apply Frame.coalWrite | apply Frame.evcCmd | apply Frame.retrainWrite | apply h0 | (fail_if_no_progress beta_reduce) | (fail_if_no_progress dsimp only) | split)

theorem Frame.windowWrite {o : State} {ps : List Piece} (p : Port) (a : Nat) (ws : List Word) (s : State) (h0 : State.onlyIn o s ps) (kclk : Piece.clk ∈ ps) (kregs : Piece.regs ∈ ps) (khif : Piece.hif ∈ ps) (kquads : Piece.quads ∈ ps) :
    State.onlyIn o (State.windowWrite p a ws s) ps := by
  unfold Sys2Proof.Machine.State.windowWrite
  dsimp -failIfUnchanged only
  with_reducible repeat' (first | assumption | (intro _) | apply Frame.ite | apply Frame.ite2 | apply Frame.foldl | apply Frame.foldl2 | apply Frame.count | apply Frame.askQuad | apply Frame.putShadow | apply Frame.markDirty | apply Frame.modQuad | apply Frame.deny | apply h0 | (fail_if_no_progress beta_reduce) | (fail_if_no_progress dsimp only) | split)

theorem Frame.windowRead {o : State} {ps : List Piece} (a n : Nat) (s : State) (h0 : State.onlyIn o s ps) (kclk : Piece.clk ∈ ps) (khif : Piece.hif ∈ ps) (kans : Piece.ans ∈ ps) :
    State.onlyIn o (State.windowRead a n s) ps := by
  unfold Sys2Proof.Machine.State.windowRead
  dsimp -failIfUnchanged only
  with_reducible repeat' (first | assumption | (intro _) | apply Frame.ite | apply Frame.ite2 | apply Frame.foldl | apply Frame.foldl2 | apply Frame.askQuad | apply Frame.answer | apply h0 | (fail_if_no_progress beta_reduce) | (fail_if_no_progress dsimp only) | split)

theorem Frame.msixWrite {o : State} {ps : List Piece} (a : Nat) (v : Word) (s : State) (h0 : State.onlyIn o s ps) (kregs : Piece.regs ∈ ps) (khif : Piece.hif ∈ ps) (kevc : Piece.evc ∈ ps) :
    State.onlyIn o (State.msixWrite a v s) ps := by
  unfold Sys2Proof.Machine.State.msixWrite
  dsimp -failIfUnchanged only
  with_reducible repeat' (first | assumption | (intro _) | apply Frame.ite | apply Frame.ite2 | apply Frame.foldl | apply Frame.foldl2 | apply Frame.putWord | apply Frame.unmask | apply h0 | (fail_if_no_progress beta_reduce) | (fail_if_no_progress dsimp only) | split)

theorem Frame.msixRead {o : State} {ps : List Piece} (a : Nat) (s : State) (h0 : State.onlyIn o s ps) (kans : Piece.ans ∈ ps) :
    State.onlyIn o (State.msixRead a s) ps := by
  unfold Sys2Proof.Machine.State.msixRead
  dsimp -failIfUnchanged only
  with_reducible repeat' (first | assumption | (intro _) | apply Frame.ite | apply Frame.ite2 | apply Frame.foldl | apply Frame.foldl2 | apply Frame.answer | apply h0 | (fail_if_no_progress beta_reduce) | (fail_if_no_progress dsimp only) | split)

theorem Frame.clearRead {o : State} {ps : List Piece} (rc a : Nat) (s : State) (h0 : State.onlyIn o s ps) (kregs : Piece.regs ∈ ps) :
    State.onlyIn o (State.clearRead rc a s) ps := by
  unfold Sys2Proof.Machine.State.clearRead
  dsimp -failIfUnchanged only
  with_reducible repeat' (first | assumption | (intro _) | apply Frame.ite | apply Frame.ite2 | apply Frame.foldl | apply Frame.foldl2 | apply Frame.putWord | apply Frame.inCycle | apply h0 | (fail_if_no_progress beta_reduce) | (fail_if_no_progress dsimp only) | split)

theorem Frame.afterRead {o : State} {ps : List Piece} (r : RegRow) (a : Nat) (s : State) (h0 : State.onlyIn o s ps) (kregs : Piece.regs ∈ ps) (ktmrs : Piece.tmrs ∈ ps) :
    State.onlyIn o (State.afterRead r a s) ps := by
  unfold Sys2Proof.Machine.State.afterRead
  dsimp -failIfUnchanged only
  with_reducible repeat' (first | assumption | (intro _) | apply Frame.ite | apply Frame.ite2 | apply Frame.foldl | apply Frame.foldl2 | apply Frame.clearRead | apply Frame.set | apply Frame.modTmr | apply h0 | (fail_if_no_progress beta_reduce) | (fail_if_no_progress dsimp only) | split)

theorem Frame.plainRead {o : State} {ps : List Piece} (a : Nat) (s : State) (h0 : State.onlyIn o s ps) (kregs : Piece.regs ∈ ps) (ktmrs : Piece.tmrs ∈ ps) (kans : Piece.ans ∈ ps) :
    State.onlyIn o (State.plainRead a s) ps := by
  unfold Sys2Proof.Machine.State.plainRead
  dsimp -failIfUnchanged only
  with_reducible repeat' (first | assumption | (intro _) | apply Frame.ite | apply Frame.ite2 | apply Frame.foldl | apply Frame.foldl2 | apply Frame.afterRead | apply Frame.answer | apply h0 | (fail_if_no_progress beta_reduce) | (fail_if_no_progress dsimp only) | split)

theorem Frame.readOpen {o : State} {ps : List Piece} (p : Port) (a : Nat) (s : State) (h0 : State.onlyIn o s ps) (kclk : Piece.clk ∈ ps) (kregs : Piece.regs ∈ ps) (khif : Piece.hif ∈ ps) (ksec : Piece.sec ∈ ps) (kwhl : Piece.whl ∈ ps) (kang : Piece.ang ∈ ps) (kgrds : Piece.grds ∈ ps) (kadc : Piece.adc ∈ ps) (ktmrs : Piece.tmrs ∈ ps) (knibs : Piece.nibs ∈ ps) (kans : Piece.ans ∈ ps) :
    State.onlyIn o (State.readOpen p a s) ps := by
  unfold Sys2Proof.Machine.State.readOpen
  dsimp -failIfUnchanged only
  with_reducible repeat' (first | assumption | (intro _) | apply Frame.ite | apply Frame.ite2 | apply Frame.foldl | apply Frame.foldl2 | apply Frame.windowRead | apply Frame.fbAccess | apply Frame.jRead | apply Frame.stampRead | apply Frame.answer | apply Frame.angleRead | apply Frame.terrAccess | apply Frame.ptabAccess | apply Frame.energyRead | apply Frame.accAccess | apply Frame.strokeRead | apply Frame.sidxAdvance | apply Frame.rxRead | apply Frame.plainRead | apply h0 | (fail_if_no_progress beta_reduce) | (fail_if_no_progress dsimp only) | split)

theorem Frame.wordRead {o : State} {ps : List Piece} (p : Port) (a : Nat) (s : State) (h0 : State.onlyIn o s ps) (kclk : Piece.clk ∈ ps) (kregs : Piece.regs ∈ ps) (khif : Piece.hif ∈ ps) (ksec : Piece.sec ∈ ps) (kwhl : Piece.whl ∈ ps) (kang : Piece.ang ∈ ps) (kgrds : Piece.grds ∈ ps) (kadc : Piece.adc ∈ ps) (ktmrs : Piece.tmrs ∈ ps) (knibs : Piece.nibs ∈ ps) (kans : Piece.ans ∈ ps) :
    State.onlyIn o (State.wordRead p a s) ps := by
  unfold Sys2Proof.Machine.State.wordRead
  dsimp -failIfUnchanged only
  with_reducible repeat' (first | assumption | (intro _) | apply Frame.ite | apply Frame.ite2 | apply Frame.foldl | apply Frame.foldl2 | apply Frame.msixRead | apply Frame.touch | apply Frame.answer | apply Frame.onRead | apply Frame.readOpen | apply h0 | (fail_if_no_progress beta_reduce) | (fail_if_no_progress dsimp only) | split)

theorem Frame.badAccess {o : State} {ps : List Piece} (p : Port) (s : State) (h0 : State.onlyIn o s ps) (kregs : Piece.regs ∈ ps) :
    State.onlyIn o (State.badAccess p s) ps := by
  unfold Sys2Proof.Machine.State.badAccess
  dsimp -failIfUnchanged only
  with_reducible repeat' (first | assumption | (intro _) | apply Frame.ite | apply Frame.ite2 | apply Frame.foldl | apply Frame.foldl2 | apply Frame.count | apply h0 | (fail_if_no_progress beta_reduce) | (fail_if_no_progress dsimp only) | split)

theorem Frame.spiBegin {o : State} {ps : List Piece} (s : State) (h0 : State.onlyIn o s ps) (khif : Piece.hif ∈ ps) (kans : Piece.ans ∈ ps) :
    State.onlyIn o (State.spiBegin s) ps := by
  unfold Sys2Proof.Machine.State.spiBegin
  dsimp -failIfUnchanged only
  with_reducible repeat' (first | assumption | (intro _) | apply Frame.ite | apply Frame.ite2 | apply Frame.foldl | apply Frame.foldl2 | apply h0 | simp only [Frame.mk_iff] | apply Frame.with_hif | apply Frame.with_ans | apply Frame.parts | (exact Or.inl ‹_›) | apply Frame.part_part | apply Frame.part_clk | apply Frame.part_regs | apply Frame.part_sys | apply Frame.part_hif | apply Frame.part_evc | apply Frame.part_sec | apply Frame.part_whl | apply Frame.part_ang | apply Frame.part_sch | apply Frame.part_banks | apply Frame.part_quads | apply Frame.part_edges | apply Frame.part_ink | apply Frame.part_grds | apply Frame.part_adc | apply Frame.part_cmps | apply Frame.part_tmrs | apply Frame.part_nibs | apply Frame.part_tst | apply Frame.part_slur | apply Frame.part_jtag | apply Frame.part_ans | apply Frame.part_freeCtr | apply Frame.part_pending | (fail_if_no_progress beta_reduce) | (fail_if_no_progress dsimp only) | split)

theorem Frame.spiReadWord {o : State} {ps : List Piece} (header : Word) (x : List Nat × State) (i : Nat) (h0 : State.onlyIn o x.2 ps) (kclk : Piece.clk ∈ ps) (kregs : Piece.regs ∈ ps) (khif : Piece.hif ∈ ps) (ksec : Piece.sec ∈ ps) (kwhl : Piece.whl ∈ ps) (kang : Piece.ang ∈ ps) (kgrds : Piece.grds ∈ ps) (kadc : Piece.adc ∈ ps) (ktmrs : Piece.tmrs ∈ ps) (knibs : Piece.nibs ∈ ps) (kans : Piece.ans ∈ ps) :
    State.onlyIn o (State.spiReadWord header x i).2 ps := by
  unfold Sys2Proof.Machine.State.spiReadWord
  dsimp -failIfUnchanged only
  with_reducible repeat' (first | assumption | (intro _) | apply Frame.ite | apply Frame.ite2 | apply Frame.foldl | apply Frame.foldl2 | apply Frame.wordRead | apply Frame.badAccess | apply Frame.answer | apply h0 | (fail_if_no_progress beta_reduce) | (fail_if_no_progress dsimp only) | split)

theorem Frame.spiIgnored {o : State} {ps : List Piece} (s : State) (h0 : State.onlyIn o s ps) (kans : Piece.ans ∈ ps) :
    State.onlyIn o (State.spiIgnored s) ps := by
  unfold Sys2Proof.Machine.State.spiIgnored
  dsimp -failIfUnchanged only
  with_reducible repeat' (first | assumption | (intro _) | apply Frame.ite | apply Frame.ite2 | apply Frame.foldl | apply Frame.foldl2 | apply h0 | simp only [Frame.mk_iff] | apply Frame.with_ans | (fail_if_no_progress beta_reduce) | (fail_if_no_progress dsimp only) | split)

/-! Reed -/

theorem Frame.edueNow {o : State} {ps : List Piece} (b t : Nat) (s : State) (h0 : State.onlyIn o s ps) (kbanks : Piece.banks ∈ ps) :
    State.onlyIn o (State.edueNow b t s) ps := by
  unfold Sys2Proof.Machine.State.edueNow
  dsimp -failIfUnchanged only
  with_reducible repeat' (first | assumption | (intro _) | apply Frame.ite | apply Frame.ite2 | apply Frame.foldl | apply Frame.foldl2 | apply Frame.modThread | apply h0 | (fail_if_no_progress beta_reduce) | (fail_if_no_progress dsimp only) | split)

theorem Frame.fault {o : State} {ps : List Piece} (b t pc cause : Nat) (s : State) (h0 : State.onlyIn o s ps) (kregs : Piece.regs ∈ ps) (khif : Piece.hif ∈ ps) (ksch : Piece.sch ∈ ps) (kbanks : Piece.banks ∈ ps) (kedges : Piece.edges ∈ ps) (kadc : Piece.adc ∈ ps) :
    State.onlyIn o (State.fault b t pc cause s) ps := by
  unfold Sys2Proof.Machine.State.fault
  dsimp -failIfUnchanged only
  with_reducible repeat' (first | assumption | (intro _) | apply Frame.ite | apply Frame.ite2 | apply Frame.foldl | apply Frame.foldl2 | apply Frame.killThread | apply Frame.putWord | apply Frame.count | apply Frame.alarm | apply h0 | (fail_if_no_progress beta_reduce) | (fail_if_no_progress dsimp only) | split)

theorem Frame.onNote {o : State} {ps : List Piece} (s : State) (b t : Nat) (test : Note → Bool) (f : Note → State → State) (h0 : State.onlyIn o s ps) (h1 : ∀ z x, State.onlyIn o x ps → State.onlyIn o (f z x) ps) (kregs : Piece.regs ∈ ps) (khif : Piece.hif ∈ ps) (ksch : Piece.sch ∈ ps) (kbanks : Piece.banks ∈ ps) (kedges : Piece.edges ∈ ps) (kadc : Piece.adc ∈ ps) (kcmps : Piece.cmps ∈ ps) :
    State.onlyIn o (State.onNote s b t test f) ps := by
  unfold Sys2Proof.Machine.State.onNote
  dsimp -failIfUnchanged only
  with_reducible repeat' (first | assumption | (intro _) | apply Frame.ite | apply Frame.ite2 | apply Frame.foldl | apply Frame.foldl2 | apply Frame.edueNow | apply Frame.modBank | apply Frame.fault | apply Frame.modThread | apply Frame.settleBank | apply h0 | apply h1 | (fail_if_no_progress beta_reduce) | (fail_if_no_progress dsimp only) | split)

theorem Frame.lateEdge {o : State} {ps : List Piece} (b t : Nat) (s : State) (h0 : State.onlyIn o s ps) (kregs : Piece.regs ∈ ps) (ksch : Piece.sch ∈ ps) (kbanks : Piece.banks ∈ ps) :
    State.onlyIn o (State.lateEdge b t s) ps := by
  unfold Sys2Proof.Machine.State.lateEdge
  dsimp -failIfUnchanged only
  with_reducible repeat' (first | assumption | (intro _) | apply Frame.ite | apply Frame.ite2 | apply Frame.foldl | apply Frame.foldl2 | apply Frame.count | apply Frame.modChan | apply Frame.modEvent | apply Frame.modThread | apply h0 | apply Frame.id | (fail_if_no_progress beta_reduce) | (fail_if_no_progress dsimp only) | split)

theorem Frame.takePlace {o : State} {ps : List Piece} (b t : Nat) (s : State) (h0 : State.onlyIn o s ps) (kregs : Piece.regs ∈ ps) (ksch : Piece.sch ∈ ps) (kbanks : Piece.banks ∈ ps) :
    State.onlyIn o (State.takePlace b t s).2 ps := by
  unfold Sys2Proof.Machine.State.takePlace
  dsimp -failIfUnchanged only
  with_reducible repeat' (first | assumption | (intro _) | apply Frame.ite | apply Frame.ite2 | apply Frame.foldl | apply Frame.foldl2 | apply Frame.modThread | apply Frame.lateEdge | apply h0 | (fail_if_no_progress beta_reduce) | (fail_if_no_progress dsimp only) | split)

theorem Frame.gateField {o : State} {ps : List Piece} (b t : Nat) (g : Gate) (code : Nat) (was : Bool) (at' : Option Tb) (s : State) (h0 : State.onlyIn o s ps) (kregs : Piece.regs ∈ ps) (ksch : Piece.sch ∈ ps) (kbanks : Piece.banks ∈ ps) (kedges : Piece.edges ∈ ps) :
    State.onlyIn o (State.gateField b t g code was at' s) ps := by
  unfold Sys2Proof.Machine.State.gateField
  dsimp -failIfUnchanged only
  with_reducible repeat' (first | assumption | (intro _) | apply Frame.ite | apply Frame.ite2 | apply Frame.foldl | apply Frame.foldl2 | apply Frame.placeEdge | apply h0 | (fail_if_no_progress beta_reduce) | (fail_if_no_progress dsimp only) | split)

theorem Frame.gateNote {o : State} {ps : List Piece} (b t : Nat) (n : Note) (s : State) (h0 : State.onlyIn o s ps) (kregs : Piece.regs ∈ ps) (khif : Piece.hif ∈ ps) (ksch : Piece.sch ∈ ps) (kbanks : Piece.banks ∈ ps) (kedges : Piece.edges ∈ ps) (kadc : Piece.adc ∈ ps) :
    State.onlyIn o (State.gateNote b t n s) ps := by
  unfold Sys2Proof.Machine.State.gateNote
  dsimp -failIfUnchanged only
  with_reducible repeat' (first | assumption | (intro _) | apply Frame.ite | apply Frame.ite2 | apply Frame.foldl | apply Frame.foldl2 | apply Frame.fault | apply Frame.takePlace | apply Frame.modThread | apply Frame.gateField | apply h0 | (fail_if_no_progress beta_reduce) | (fail_if_no_progress dsimp only) | split)

theorem Frame.grant {o : State} {ps : List Piece} (b t : Nat) (s : State) (h0 : State.onlyIn o s ps) (kregs : Piece.regs ∈ ps) (kevc : Piece.evc ∈ ps) (ksch : Piece.sch ∈ ps) (kbanks : Piece.banks ∈ ps) (kedges : Piece.edges ∈ ps) :
    State.onlyIn o (State.grant b t s) ps := by
  unfold Sys2Proof.Machine.State.grant
  dsimp -failIfUnchanged only
  with_reducible repeat' (first | assumption | (intro _) | apply Frame.ite | apply Frame.ite2 | apply Frame.foldl | apply Frame.foldl2 | apply Frame.modBank | apply Frame.clrLatch | apply Frame.count | apply Frame.modChan | apply Frame.modEvent | apply Frame.modThread | apply Frame.wait | apply Frame.claim | apply Frame.dueEdges | apply h0 | apply Frame.id | simp only [Frame.mk_iff] | apply Frame.with_edges | (fail_if_no_progress beta_reduce) | (fail_if_no_progress dsimp only) | split)

theorem Frame.claimNote {o : State} {ps : List Piece} (b t : Nat) (s : State) (h0 : State.onlyIn o s ps) (kregs : Piece.regs ∈ ps) (kevc : Piece.evc ∈ ps) (ksch : Piece.sch ∈ ps) (kbanks : Piece.banks ∈ ps) (kedges : Piece.edges ∈ ps) :
    State.onlyIn o (State.claimNote b t s) ps := by
  unfold Sys2Proof.Machine.State.claimNote
  dsimp -failIfUnchanged only
  with_reducible repeat' (first | assumption | (intro _) | apply Frame.ite | apply Frame.ite2 | apply Frame.foldl | apply Frame.foldl2 | apply Frame.modThread | apply Frame.wait | apply Frame.claim | apply Frame.grant | apply h0 | (fail_if_no_progress beta_reduce) | (fail_if_no_progress dsimp only) | split)

theorem Frame.decideClaim {o : State} {ps : List Piece} (b t : Nat) (s : State) (h0 : State.onlyIn o s ps) (kregs : Piece.regs ∈ ps) (kevc : Piece.evc ∈ ps) (ksch : Piece.sch ∈ ps) (kbanks : Piece.banks ∈ ps) (kedges : Piece.edges ∈ ps) :
    State.onlyIn o (State.decideClaim b t s) ps := by
  unfold Sys2Proof.Machine.State.decideClaim
  dsimp -failIfUnchanged only
  with_reducible repeat' (first | assumption | (intro _) | apply Frame.ite | apply Frame.ite2 | apply Frame.foldl | apply Frame.foldl2 | apply Frame.grant | apply h0 | (fail_if_no_progress beta_reduce) | (fail_if_no_progress dsimp only) | split)

theorem Frame.passToken {o : State} {ps : List Piece} (b : Nat) (s : State) (h0 : State.onlyIn o s ps) (kregs : Piece.regs ∈ ps) (kevc : Piece.evc ∈ ps) (ksch : Piece.sch ∈ ps) (kbanks : Piece.banks ∈ ps) (kedges : Piece.edges ∈ ps) :
    State.onlyIn o (State.passToken b s) ps := by
  unfold Sys2Proof.Machine.State.passToken
  dsimp -failIfUnchanged only
  with_reducible repeat' (first | assumption | (intro _) | apply Frame.ite | apply Frame.ite2 | apply Frame.foldl | apply Frame.foldl2 | apply Frame.grant | apply h0 | (fail_if_no_progress beta_reduce) | (fail_if_no_progress dsimp only) | split)

theorem Frame.susEndNote {o : State} {ps : List Piece} (b t : Nat) (s : State) (h0 : State.onlyIn o s ps) (kregs : Piece.regs ∈ ps) (ksch : Piece.sch ∈ ps) (kbanks : Piece.banks ∈ ps) (kedges : Piece.edges ∈ ps) :
    State.onlyIn o (State.susEndNote b t s) ps := by
  unfold Sys2Proof.Machine.State.susEndNote
  dsimp -failIfUnchanged only
  with_reducible repeat' (first | assumption | (intro _) | apply Frame.ite | apply Frame.ite2 | apply Frame.foldl | apply Frame.foldl2 | apply Frame.takePlace | apply Frame.switchOff | apply Frame.modThread | apply Frame.wait | apply h0 | (fail_if_no_progress beta_reduce) | (fail_if_no_progress dsimp only) | split)

theorem Frame.endNote {o : State} {ps : List Piece} (b t : Nat) (s : State) (h0 : State.onlyIn o s ps) (kregs : Piece.regs ∈ ps) (khif : Piece.hif ∈ ps) (ksch : Piece.sch ∈ ps) (kbanks : Piece.banks ∈ ps) (kedges : Piece.edges ∈ ps) (kadc : Piece.adc ∈ ps) :
    State.onlyIn o (State.endNote b t s) ps := by
  unfold Sys2Proof.Machine.State.endNote
  dsimp -failIfUnchanged only
  with_reducible repeat' (first | assumption | (intro _) | apply Frame.ite | apply Frame.ite2 | apply Frame.foldl | apply Frame.foldl2 | apply Frame.takePlace | apply Frame.modThread | apply Frame.endThread | apply h0 | (fail_if_no_progress beta_reduce) | (fail_if_no_progress dsimp only) | split)

theorem Frame.closeWatch {o : State} {ps : List Piece} (b t : Nat) (s : State) (h0 : State.onlyIn o s ps) (kregs : Piece.regs ∈ ps) (ksch : Piece.sch ∈ ps) (kbanks : Piece.banks ∈ ps) (kedges : Piece.edges ∈ ps) (kink : Piece.ink ∈ ps) :
    State.onlyIn o (State.closeWatch b t s) ps := by
  unfold Sys2Proof.Machine.State.closeWatch
  dsimp -failIfUnchanged only
  with_reducible repeat' (first | assumption | (intro _) | apply Frame.ite | apply Frame.ite2 | apply Frame.foldl | apply Frame.foldl2 | apply Frame.wait | apply Frame.merge | apply Frame.modThread | apply h0 | (fail_if_no_progress beta_reduce) | (fail_if_no_progress dsimp only) | split)

theorem Frame.markNote {o : State} {ps : List Piece} (b t : Nat) (n : Note) (s : State) (h0 : State.onlyIn o s ps) (kregs : Piece.regs ∈ ps) (khif : Piece.hif ∈ ps) (ksch : Piece.sch ∈ ps) (kadc : Piece.adc ∈ ps) :
    State.onlyIn o (State.markNote b t n s) ps := by
  unfold Sys2Proof.Machine.State.markNote
  dsimp -failIfUnchanged only
  with_reducible repeat' (first | assumption | (intro _) | apply Frame.ite | apply Frame.ite2 | apply Frame.foldl | apply Frame.foldl2 | apply Frame.modEvent | apply Frame.markWins | apply Frame.markUrgent | apply Frame.trace | apply h0 | (fail_if_no_progress beta_reduce) | (fail_if_no_progress dsimp only) | split)

theorem Frame.sampleNote {o : State} {ps : List Piece} (b t : Nat) (n : Note) (s : State) (h0 : State.onlyIn o s ps) (kregs : Piece.regs ∈ ps) (khif : Piece.hif ∈ ps) (kbanks : Piece.banks ∈ ps) (kadc : Piece.adc ∈ ps) :
    State.onlyIn o (State.sampleNote b t n s) ps := by
  unfold Sys2Proof.Machine.State.sampleNote
  dsimp -failIfUnchanged only
  with_reducible repeat' (first | assumption | (intro _) | apply Frame.ite | apply Frame.ite2 | apply Frame.foldl | apply Frame.foldl2 | apply Frame.count | apply Frame.closeWin | apply Frame.modThread | apply Frame.openWin | apply h0 | (fail_if_no_progress beta_reduce) | (fail_if_no_progress dsimp only) | split)

theorem Frame.go {o : State} {ps : List Piece} (b t : Nat) (tgt : Option Nat) (s : State) (h0 : State.onlyIn o s ps) (ksch : Piece.sch ∈ ps) (kbanks : Piece.banks ∈ ps) :
    State.onlyIn o (State.go b t tgt s) ps := by
  unfold Sys2Proof.Machine.State.go
  dsimp -failIfUnchanged only
  with_reducible repeat' (first | assumption | (intro _) | apply Frame.ite | apply Frame.ite2 | apply Frame.foldl | apply Frame.foldl2 | apply Frame.modThread | apply Frame.wait | apply h0 | (fail_if_no_progress beta_reduce) | (fail_if_no_progress dsimp only) | split)

theorem Frame.targetReached {o : State} {ps : List Piece} (b t : Nat) (s : State) (h0 : State.onlyIn o s ps) (ksch : Piece.sch ∈ ps) (kbanks : Piece.banks ∈ ps) :
    State.onlyIn o (State.targetReached b t s) ps := by
  unfold Sys2Proof.Machine.State.targetReached
  dsimp -failIfUnchanged only
  with_reducible repeat' (first | assumption | (intro _) | apply Frame.ite | apply Frame.ite2 | apply Frame.foldl | apply Frame.foldl2 | apply Frame.wait | apply Frame.edueNow | apply Frame.modThread | apply Frame.go | apply h0 | (fail_if_no_progress beta_reduce) | (fail_if_no_progress dsimp only) | split)

theorem Frame.conditionMet {o : State} {ps : List Piece} (b t : Nat) (s : State) (h0 : State.onlyIn o s ps) (kregs : Piece.regs ∈ ps) (ksch : Piece.sch ∈ ps) (kbanks : Piece.banks ∈ ps) :
    State.onlyIn o (State.conditionMet b t s) ps := by
  unfold Sys2Proof.Machine.State.conditionMet
  dsimp -failIfUnchanged only
  with_reducible repeat' (first | assumption | (intro _) | apply Frame.ite | apply Frame.ite2 | apply Frame.foldl | apply Frame.foldl2 | apply Frame.wait | apply Frame.edueNow | apply Frame.go | apply Frame.noKink | apply h0 | (fail_if_no_progress beta_reduce) | (fail_if_no_progress dsimp only) | split)

/-! Tick -/

theorem Frame.tickAon {o : State} {ps : List Piece} (s : State) (h0 : State.onlyIn o s ps) (kclk : Piece.clk ∈ ps) :
    State.onlyIn o (State.tickAon s) ps := by
  unfold Sys2Proof.Machine.State.tickAon
  dsimp -failIfUnchanged only
  with_reducible repeat' (first | assumption | (intro _) | apply Frame.ite | apply Frame.ite2 | apply Frame.foldl | apply Frame.foldl2 | apply h0 | simp only [Frame.mk_iff] | apply Frame.with_clk | (fail_if_no_progress beta_reduce) | (fail_if_no_progress dsimp only) | split)

theorem Frame.tickTb {o : State} {ps : List Piece} (s : State) (h0 : State.onlyIn o s ps) (kclk : Piece.clk ∈ ps) (kregs : Piece.regs ∈ ps) :
    State.onlyIn o (State.tickTb s) ps := by
  unfold Sys2Proof.Machine.State.tickTb
  dsimp -failIfUnchanged only
  with_reducible repeat' (first | assumption | (intro _) | apply Frame.ite | apply Frame.ite2 | apply Frame.foldl | apply Frame.foldl2 | apply Frame.tickAon | apply h0 | simp only [Frame.mk_iff] | apply Frame.with_clk | apply Frame.with_regs | apply Frame.parts | (exact Or.inl ‹_›) | apply Frame.part_part | apply Frame.part_clk | apply Frame.part_regs | apply Frame.part_sys | apply Frame.part_hif | apply Frame.part_evc | apply Frame.part_sec | apply Frame.part_whl | apply Frame.part_ang | apply Frame.part_sch | apply Frame.part_banks | apply Frame.part_quads | apply Frame.part_edges | apply Frame.part_ink | apply Frame.part_grds | apply Frame.part_adc | apply Frame.part_cmps | apply Frame.part_tmrs | apply Frame.part_nibs | apply Frame.part_tst | apply Frame.part_slur | apply Frame.part_jtag | apply Frame.part_ans | apply Frame.part_freeCtr | apply Frame.part_pending | (fail_if_no_progress beta_reduce) | (fail_if_no_progress dsimp only) | split)

theorem Frame.tickAngle {o : State} {ps : List Piece} (s : State) (h0 : State.onlyIn o s ps) (kregs : Piece.regs ∈ ps) (ksys : Piece.sys ∈ ps) (khif : Piece.hif ∈ ps) (kevc : Piece.evc ∈ ps) (kwhl : Piece.whl ∈ ps) (kang : Piece.ang ∈ ps) (ksch : Piece.sch ∈ ps) (kbanks : Piece.banks ∈ ps) (kquads : Piece.quads ∈ ps) (kedges : Piece.edges ∈ ps) (kink : Piece.ink ∈ ps) (kadc : Piece.adc ∈ ps) (kcmps : Piece.cmps ∈ ps) (ktmrs : Piece.tmrs ∈ ps) (knibs : Piece.nibs ∈ ps) (ktst : Piece.tst ∈ ps) :
    State.onlyIn o (State.tickAngle s) ps := by
  unfold Sys2Proof.Machine.State.tickAngle
  dsimp -failIfUnchanged only
  with_reducible repeat' (first | assumption | (intro _) | apply Frame.ite | apply Frame.ite2 | apply Frame.foldl | apply Frame.foldl2 | apply Frame.moveClock | apply h0 | simp only [Frame.mk_iff] | apply Frame.with_ang | (fail_if_no_progress beta_reduce) | (fail_if_no_progress dsimp only) | split)

theorem Frame.tickCounts {o : State} {ps : List Piece} (s : State) (h0 : State.onlyIn o s ps) (kregs : Piece.regs ∈ ps) (kang : Piece.ang ∈ ps) (ksch : Piece.sch ∈ ps) :
    State.onlyIn o (State.tickCounts s) ps := by
  unfold Sys2Proof.Machine.State.tickCounts
  dsimp -failIfUnchanged only
  with_reducible repeat' (first | assumption | (intro _) | apply Frame.ite | apply Frame.ite2 | apply Frame.foldl | apply Frame.foldl2 | apply Frame.count | apply h0 | simp only [Frame.mk_iff] | apply Frame.with_ang | apply Frame.with_sch | apply Frame.parts | (exact Or.inl ‹_›) | apply Frame.part_part | apply Frame.part_clk | apply Frame.part_regs | apply Frame.part_sys | apply Frame.part_hif | apply Frame.part_evc | apply Frame.part_sec | apply Frame.part_whl | apply Frame.part_ang | apply Frame.part_sch | apply Frame.part_banks | apply Frame.part_quads | apply Frame.part_edges | apply Frame.part_ink | apply Frame.part_grds | apply Frame.part_adc | apply Frame.part_cmps | apply Frame.part_tmrs | apply Frame.part_nibs | apply Frame.part_tst | apply Frame.part_slur | apply Frame.part_jtag | apply Frame.part_ans | apply Frame.part_freeCtr | apply Frame.part_pending | (fail_if_no_progress beta_reduce) | (fail_if_no_progress dsimp only) | split)

theorem Frame.tickDuty {o : State} {ps : List Piece} (s : State) (h0 : State.onlyIn o s ps) (ksch : Piece.sch ∈ ps) (kbanks : Piece.banks ∈ ps) :
    State.onlyIn o (State.tickDuty s) ps := by
  unfold Sys2Proof.Machine.State.tickDuty
  dsimp -failIfUnchanged only
  with_reducible repeat' (first | assumption | (intro _) | apply Frame.ite | apply Frame.ite2 | apply Frame.foldl | apply Frame.foldl2 | apply h0 | simp only [Frame.mk_iff] | apply Frame.with_sch | apply Frame.with_banks | apply Frame.parts | (exact Or.inl ‹_›) | apply Frame.part_part | apply Frame.part_clk | apply Frame.part_regs | apply Frame.part_sys | apply Frame.part_hif | apply Frame.part_evc | apply Frame.part_sec | apply Frame.part_whl | apply Frame.part_ang | apply Frame.part_sch | apply Frame.part_banks | apply Frame.part_quads | apply Frame.part_edges | apply Frame.part_ink | apply Frame.part_grds | apply Frame.part_adc | apply Frame.part_cmps | apply Frame.part_tmrs | apply Frame.part_nibs | apply Frame.part_tst | apply Frame.part_slur | apply Frame.part_jtag | apply Frame.part_ans | apply Frame.part_freeCtr | apply Frame.part_pending | (fail_if_no_progress beta_reduce) | (fail_if_no_progress dsimp only) | split)

theorem Frame.tickGbc {o : State} {ps : List Piece} (s : State) (h0 : State.onlyIn o s ps) (kquads : Piece.quads ∈ ps) :
    State.onlyIn o (State.tickGbc s) ps := by
  unfold Sys2Proof.Machine.State.tickGbc
  dsimp -failIfUnchanged only
  with_reducible repeat' (first | assumption | (intro _) | apply Frame.ite | apply Frame.ite2 | apply Frame.foldl | apply Frame.foldl2 | apply h0 | simp only [Frame.mk_iff] | apply Frame.with_quads | (fail_if_no_progress beta_reduce) | (fail_if_no_progress dsimp only) | split)

theorem Frame.tickTmr {o : State} {ps : List Piece} (s : State) (h0 : State.onlyIn o s ps) (ktmrs : Piece.tmrs ∈ ps) :
    State.onlyIn o (State.tickTmr s) ps := by
  unfold Sys2Proof.Machine.State.tickTmr
  dsimp -failIfUnchanged only
  with_reducible repeat' (first | assumption | (intro _) | apply Frame.ite | apply Frame.ite2 | apply Frame.foldl | apply Frame.foldl2 | apply Frame.tmrPins | apply Frame.tmrDecideAll | apply Frame.tmrEndAll | apply h0 | (fail_if_no_progress beta_reduce) | (fail_if_no_progress dsimp only) | split)

theorem Frame.tickTmrAon {o : State} {ps : List Piece} (s : State) (h0 : State.onlyIn o s ps) (ktmrs : Piece.tmrs ∈ ps) :
    State.onlyIn o (State.tickTmrAon s) ps := by
  unfold Sys2Proof.Machine.State.tickTmrAon
  dsimp -failIfUnchanged only
  with_reducible repeat' (first | assumption | (intro _) | apply Frame.ite | apply Frame.ite2 | apply Frame.foldl | apply Frame.foldl2 | apply Frame.tmrEndAll | apply Frame.tmrDecideAll | apply h0 | (fail_if_no_progress beta_reduce) | (fail_if_no_progress dsimp only) | split)

theorem Frame.tickIdle {o : State} {ps : List Piece} (s : State) (h0 : State.onlyIn o s ps) (kclk : Piece.clk ∈ ps) (ksys : Piece.sys ∈ ps) (ksec : Piece.sec ∈ ps) :
    State.onlyIn o (State.tickIdle s) ps := by
  unfold Sys2Proof.Machine.State.tickIdle
  dsimp -failIfUnchanged only
  with_reducible repeat' (first | assumption | (intro _) | apply Frame.ite | apply Frame.ite2 | apply Frame.foldl | apply Frame.foldl2 | apply Frame.markIdle | apply Frame.markSleep | apply h0 | simp only [Frame.mk_iff] | apply Frame.with_sec | (fail_if_no_progress beta_reduce) | (fail_if_no_progress dsimp only) | split)

theorem Frame.tickReg {o : State} {ps : List Piece} (s : State) (h0 : State.onlyIn o s ps) (kregs : Piece.regs ∈ ps) (ksch : Piece.sch ∈ ps) (kbanks : Piece.banks ∈ ps) (kcmps : Piece.cmps ∈ ps) :
    State.onlyIn o (State.tickReg s) ps := by
  unfold Sys2Proof.Machine.State.tickReg
  dsimp -failIfUnchanged only
  with_reducible repeat' (first | assumption | (intro _) | apply Frame.ite | apply Frame.ite2 | apply Frame.foldl | apply Frame.foldl2 | apply Frame.wait | apply Frame.regLook | apply h0 | (fail_if_no_progress beta_reduce) | (fail_if_no_progress dsimp only) | split)

theorem Frame.tickBuilder {o : State} {ps : List Piece} (s : State) (h0 : State.onlyIn o s ps) (kadc : Piece.adc ∈ ps) :
    State.onlyIn o (State.tickBuilder s) ps := by
  unfold Sys2Proof.Machine.State.tickBuilder
  dsimp -failIfUnchanged only
  with_reducible repeat' (first | assumption | (intro _) | apply Frame.ite | apply Frame.ite2 | apply Frame.foldl | apply Frame.foldl2 | apply h0 | simp only [Frame.mk_iff] | apply Frame.with_adc | (fail_if_no_progress beta_reduce) | (fail_if_no_progress dsimp only) | split)

theorem Frame.tickFast {o : State} {ps : List Piece} (s : State) (h0 : State.onlyIn o s ps) (kclk : Piece.clk ∈ ps) (kregs : Piece.regs ∈ ps) (ksys : Piece.sys ∈ ps) (khif : Piece.hif ∈ ps) (kevc : Piece.evc ∈ ps) (ksec : Piece.sec ∈ ps) (kwhl : Piece.whl ∈ ps) (kang : Piece.ang ∈ ps) (ksch : Piece.sch ∈ ps) (kbanks : Piece.banks ∈ ps) (kquads : Piece.quads ∈ ps) (kedges : Piece.edges ∈ ps) (kink : Piece.ink ∈ ps) (kadc : Piece.adc ∈ ps) (kcmps : Piece.cmps ∈ ps) (ktmrs : Piece.tmrs ∈ ps) (knibs : Piece.nibs ∈ ps) (ktst : Piece.tst ∈ ps) (kpending : Piece.pending ∈ ps) :
    State.onlyIn o (State.tickFast s) ps := by
  unfold Sys2Proof.Machine.State.tickFast
  dsimp -failIfUnchanged only
  with_reducible repeat' (first | assumption | (intro _) | apply Frame.ite | apply Frame.ite2 | apply Frame.foldl | apply Frame.foldl2 | apply Frame.strokesLate | apply Frame.tickTb | apply Frame.tickQuads | apply Frame.tickAngle | apply Frame.tickCounts | apply Frame.tickDuty | apply Frame.tickGbc | apply Frame.tickTmr | apply Frame.tickTmrAon | apply Frame.tickBuilder | apply Frame.dueEdges | apply Frame.tickReg | apply Frame.tickIdle | apply h0 | simp only [Frame.mk_iff] | apply Frame.with_pending | (fail_if_no_progress beta_reduce) | (fail_if_no_progress dsimp only) | split)

theorem Frame.tickSlow {o : State} {ps : List Piece} (s : State) (h0 : State.onlyIn o s ps) (kclk : Piece.clk ∈ ps) (kpending : Piece.pending ∈ ps) :
    State.onlyIn o (State.tickSlow s) ps := by
  unfold Sys2Proof.Machine.State.tickSlow
  dsimp -failIfUnchanged only
  with_reducible repeat' (first | assumption | (intro _) | apply Frame.ite | apply Frame.ite2 | apply Frame.foldl | apply Frame.foldl2 | apply h0 | simp only [Frame.mk_iff] | apply Frame.with_clk | apply Frame.with_pending | apply Frame.parts | (exact Or.inl ‹_›) | apply Frame.part_part | apply Frame.part_clk | apply Frame.part_regs | apply Frame.part_sys | apply Frame.part_hif | apply Frame.part_evc | apply Frame.part_sec | apply Frame.part_whl | apply Frame.part_ang | apply Frame.part_sch | apply Frame.part_banks | apply Frame.part_quads | apply Frame.part_edges | apply Frame.part_ink | apply Frame.part_grds | apply Frame.part_adc | apply Frame.part_cmps | apply Frame.part_tmrs | apply Frame.part_nibs | apply Frame.part_tst | apply Frame.part_slur | apply Frame.part_jtag | apply Frame.part_ans | apply Frame.part_freeCtr | apply Frame.part_pending | (fail_if_no_progress beta_reduce) | (fail_if_no_progress dsimp only) | split)

theorem Frame.issueSlot {o : State} {ps : List Piece} (s : State) (h0 : State.onlyIn o s ps) (kclk : Piece.clk ∈ ps) (kpending : Piece.pending ∈ ps) :
    State.onlyIn o (State.issueSlot s) ps := by
  unfold Sys2Proof.Machine.State.issueSlot
  dsimp -failIfUnchanged only
  with_reducible repeat' (first | assumption | (intro _) | apply Frame.ite | apply Frame.ite2 | apply Frame.foldl | apply Frame.foldl2 | apply h0 | simp only [Frame.mk_iff] | apply Frame.with_clk | apply Frame.with_pending | apply Frame.parts | (exact Or.inl ‹_›) | apply Frame.part_part | apply Frame.part_clk | apply Frame.part_regs | apply Frame.part_sys | apply Frame.part_hif | apply Frame.part_evc | apply Frame.part_sec | apply Frame.part_whl | apply Frame.part_ang | apply Frame.part_sch | apply Frame.part_banks | apply Frame.part_quads | apply Frame.part_edges | apply Frame.part_ink | apply Frame.part_grds | apply Frame.part_adc | apply Frame.part_cmps | apply Frame.part_tmrs | apply Frame.part_nibs | apply Frame.part_tst | apply Frame.part_slur | apply Frame.part_jtag | apply Frame.part_ans | apply Frame.part_freeCtr | apply Frame.part_pending | (fail_if_no_progress beta_reduce) | (fail_if_no_progress dsimp only) | split)

end Sys2Proof.Machine
end

