-- ==== Sys2Proof/Laws/FrameExec.lean ====
section
/-! SUPPORT. Which parts of State each command writes (Laws/Frame.lean). The resets, which write all of it, have none. -/

set_option linter.all false

namespace Sys2Proof.Machine

/-! Adc -/

theorem Frame.execLoopVisit {o : State} {ps : List Piece} (n : Nat) (codes : List Int) (s : State) (h0 : State.onlyIn o s ps) (kregs : Piece.regs ∈ ps) (khif : Piece.hif ∈ ps) (kadc : Piece.adc ∈ ps) :
    FrameOut o ps (execLoopVisit n codes s) := by
  unfold Sys2Proof.Machine.execLoopVisit
  dsimp -failIfUnchanged only
  with_reducible repeat' (first | assumption | (intro _) | apply FrameOut.next | exact FrameOut.fault | apply Frame.ite | apply Frame.ite2 | apply Frame.foldl | apply Frame.foldl2 | apply Frame.loopStep | apply Frame.landFlight | apply h0 | (fail_if_no_progress beta_reduce) | (fail_if_no_progress dsimp only) | split)

theorem Frame.execUrgentVisit {o : State} {ps : List Piece} (n : Nat) (codes : List Int) (s : State) (h0 : State.onlyIn o s ps) (kregs : Piece.regs ∈ ps) (khif : Piece.hif ∈ ps) (kadc : Piece.adc ∈ ps) :
    FrameOut o ps (execUrgentVisit n codes s) := by
  unfold Sys2Proof.Machine.execUrgentVisit
  dsimp -failIfUnchanged only
  with_reducible repeat' (first | assumption | (intro _) | apply FrameOut.next | exact FrameOut.fault | apply Frame.ite | apply Frame.ite2 | apply Frame.foldl | apply Frame.foldl2 | apply Frame.urgentStep | apply h0 | (fail_if_no_progress beta_reduce) | (fail_if_no_progress dsimp only) | split)

theorem Frame.execAngleTrigger {o : State} {ps : List Piece} (k : Nat) (s : State) (h0 : State.onlyIn o s ps) (kregs : Piece.regs ∈ ps) (kadc : Piece.adc ∈ ps) :
    FrameOut o ps (execAngleTrigger k s) := by
  unfold Sys2Proof.Machine.execAngleTrigger
  dsimp -failIfUnchanged only
  with_reducible repeat' (first | assumption | (intro _) | apply FrameOut.next | exact FrameOut.fault | apply Frame.ite | apply Frame.ite2 | apply Frame.foldl | apply Frame.foldl2 | apply Frame.urgent | apply h0 | simp only [Frame.mk_iff] | apply Frame.with_adc | (fail_if_no_progress beta_reduce) | (fail_if_no_progress dsimp only) | split)

theorem Frame.execVigilVisit {o : State} {ps : List Piece} (codes : List Int) (s : State) (h0 : State.onlyIn o s ps) (kregs : Piece.regs ∈ ps) (khif : Piece.hif ∈ ps) (kadc : Piece.adc ∈ ps) :
    FrameOut o ps (execVigilVisit codes s) := by
  unfold Sys2Proof.Machine.execVigilVisit
  dsimp -failIfUnchanged only
  with_reducible repeat' (first | assumption | (intro _) | apply FrameOut.next | exact FrameOut.fault | apply Frame.ite | apply Frame.ite2 | apply Frame.foldl | apply Frame.foldl2 | apply Frame.runVisit | apply h0 | simp only [Frame.mk_iff] | apply Frame.with_adc | (fail_if_no_progress beta_reduce) | (fail_if_no_progress dsimp only) | split)

theorem Frame.execConverterCalibrate {o : State} {ps : List Piece} (p : Port) (v : Word) (s : State) (h0 : State.onlyIn o s ps) (kregs : Piece.regs ∈ ps) (ksys : Piece.sys ∈ ps) (khif : Piece.hif ∈ ps) (ksec : Piece.sec ∈ ps) (kadc : Piece.adc ∈ ps) :
    FrameOut o ps (execConverterCalibrate p v s) := by
  unfold Sys2Proof.Machine.execConverterCalibrate
  dsimp -failIfUnchanged only
  with_reducible repeat' (first | assumption | (intro _) | apply FrameOut.next | exact FrameOut.fault | apply Frame.ite | apply Frame.ite2 | apply Frame.foldl | apply Frame.foldl2 | apply Frame.calWrite | apply h0 | (fail_if_no_progress beta_reduce) | (fail_if_no_progress dsimp only) | split)

theorem Frame.execCalibrationDone {o : State} {ps : List Piece} (n : Nat) (factors : List Word) (s : State) (h0 : State.onlyIn o s ps) (kregs : Piece.regs ∈ ps) (ksys : Piece.sys ∈ ps) (kadc : Piece.adc ∈ ps) :
    FrameOut o ps (execCalibrationDone n factors s) := by
  unfold Sys2Proof.Machine.execCalibrationDone
  dsimp -failIfUnchanged only
  with_reducible repeat' (first | assumption | (intro _) | apply FrameOut.next | exact FrameOut.fault | apply Frame.ite | apply Frame.ite2 | apply Frame.foldl | apply Frame.foldl2 | apply Frame.putWord | apply Frame.calNext | apply h0 | simp only [Frame.mk_iff] | apply Frame.with_adc | (fail_if_no_progress beta_reduce) | (fail_if_no_progress dsimp only) | split)

theorem Frame.execAdcMove {o : State} {ps : List Piece} (p : Port) (v : Word) (s : State) (h0 : State.onlyIn o s ps) (kregs : Piece.regs ∈ ps) (khif : Piece.hif ∈ ps) (ksec : Piece.sec ∈ ps) (kadc : Piece.adc ∈ ps) :
    FrameOut o ps (execAdcMove p v s) := by
  unfold Sys2Proof.Machine.execAdcMove
  dsimp -failIfUnchanged only
  with_reducible repeat' (first | assumption | (intro _) | apply FrameOut.next | exact FrameOut.fault | apply Frame.ite | apply Frame.ite2 | apply Frame.foldl | apply Frame.foldl2 | apply Frame.moveWrite | apply h0 | (fail_if_no_progress beta_reduce) | (fail_if_no_progress dsimp only) | split)

theorem Frame.execMovePendEnd {o : State} {ps : List Piece} (s : State) (h0 : State.onlyIn o s ps) (kregs : Piece.regs ∈ ps) (khif : Piece.hif ∈ ps) (kadc : Piece.adc ∈ ps) :
    FrameOut o ps (execMovePendEnd s) := by
  unfold Sys2Proof.Machine.execMovePendEnd
  dsimp -failIfUnchanged only
  with_reducible repeat' (first | assumption | (intro _) | apply FrameOut.next | exact FrameOut.fault | apply Frame.ite | apply Frame.ite2 | apply Frame.foldl | apply Frame.foldl2 | apply Frame.landFlight | apply h0 | simp only [Frame.mk_iff] | apply Frame.with_adc | (fail_if_no_progress beta_reduce) | (fail_if_no_progress dsimp only) | split)

theorem Frame.execAccDataAccess {o : State} {ps : List Piece} (p : Port) (w : Option Word) (s : State) (h0 : State.onlyIn o s ps) (kregs : Piece.regs ∈ ps) (khif : Piece.hif ∈ ps) (ksec : Piece.sec ∈ ps) (kadc : Piece.adc ∈ ps) (kans : Piece.ans ∈ ps) :
    FrameOut o ps (execAccDataAccess p w s) := by
  unfold Sys2Proof.Machine.execAccDataAccess
  dsimp -failIfUnchanged only
  with_reducible repeat' (first | assumption | (intro _) | apply FrameOut.next | exact FrameOut.fault | apply Frame.ite | apply Frame.ite2 | apply Frame.foldl | apply Frame.foldl2 | apply Frame.onRead | apply Frame.accAccess | apply Frame.onWrite | apply h0 | (fail_if_no_progress beta_reduce) | (fail_if_no_progress dsimp only) | split)

theorem Frame.execWindowTimeClose {o : State} {ps : List Piece} (t : Nat) (s : State) (h0 : State.onlyIn o s ps) (kregs : Piece.regs ∈ ps) (khif : Piece.hif ∈ ps) (kadc : Piece.adc ∈ ps) :
    FrameOut o ps (execWindowTimeClose t s) := by
  unfold Sys2Proof.Machine.execWindowTimeClose
  dsimp -failIfUnchanged only
  with_reducible repeat' (first | assumption | (intro _) | apply FrameOut.next | exact FrameOut.fault | apply Frame.ite | apply Frame.ite2 | apply Frame.foldl | apply Frame.foldl2 | apply Frame.timeClose | apply h0 | (fail_if_no_progress beta_reduce) | (fail_if_no_progress dsimp only) | split)

theorem Frame.execWindowAngleClose {o : State} {ps : List Piece} (t : Nat) (s : State) (h0 : State.onlyIn o s ps) (kregs : Piece.regs ∈ ps) (khif : Piece.hif ∈ ps) (kadc : Piece.adc ∈ ps) :
    FrameOut o ps (execWindowAngleClose t s) := by
  unfold Sys2Proof.Machine.execWindowAngleClose
  dsimp -failIfUnchanged only
  with_reducible repeat' (first | assumption | (intro _) | apply FrameOut.next | exact FrameOut.fault | apply Frame.ite | apply Frame.ite2 | apply Frame.foldl | apply Frame.foldl2 | apply Frame.closeWin | apply h0 | (fail_if_no_progress beta_reduce) | (fail_if_no_progress dsimp only) | split)

/-! Sched -/

theorem Frame.execEventRelease {o : State} {ps : List Piece} (n : Nat) (s : State) (h0 : State.onlyIn o s ps) (kregs : Piece.regs ∈ ps) (khif : Piece.hif ∈ ps) (kevc : Piece.evc ∈ ps) (ksch : Piece.sch ∈ ps) (kbanks : Piece.banks ∈ ps) (kink : Piece.ink ∈ ps) :
    FrameOut o ps (execEventRelease n s) := by
  unfold Sys2Proof.Machine.execEventRelease
  dsimp -failIfUnchanged only
  with_reducible repeat' (first | assumption | (intro _) | apply FrameOut.next | exact FrameOut.fault | apply Frame.ite | apply Frame.ite2 | apply Frame.foldl | apply Frame.foldl2 | apply Frame.release | apply h0 | (fail_if_no_progress beta_reduce) | (fail_if_no_progress dsimp only) | split)

theorem Frame.execAnchorAngleReached {o : State} {ps : List Piece} (n : Nat) (s : State) (h0 : State.onlyIn o s ps) (ksch : Piece.sch ∈ ps) :
    FrameOut o ps (execAnchorAngleReached n s) := by
  unfold Sys2Proof.Machine.execAnchorAngleReached
  dsimp -failIfUnchanged only
  with_reducible repeat' (first | assumption | (intro _) | apply FrameOut.next | exact FrameOut.fault | apply Frame.ite | apply Frame.ite2 | apply Frame.foldl | apply Frame.foldl2 | apply Frame.modStore | apply h0 | (fail_if_no_progress beta_reduce) | (fail_if_no_progress dsimp only) | split)

theorem Frame.execEventStart {o : State} {ps : List Piece} (n : Nat) (s : State) (h0 : State.onlyIn o s ps) (kclk : Piece.clk ∈ ps) (kregs : Piece.regs ∈ ps) (khif : Piece.hif ∈ ps) (ksch : Piece.sch ∈ ps) (kbanks : Piece.banks ∈ ps) (kedges : Piece.edges ∈ ps) (kink : Piece.ink ∈ ps) (kcmps : Piece.cmps ∈ ps) :
    FrameOut o ps (execEventStart n s) := by
  unfold Sys2Proof.Machine.execEventStart
  dsimp -failIfUnchanged only
  with_reducible repeat' (first | assumption | (intro _) | apply FrameOut.next | exact FrameOut.fault | apply Frame.ite | apply Frame.ite2 | apply Frame.foldl | apply Frame.foldl2 | apply Frame.comeDue | apply Frame.settleBank | apply h0 | (fail_if_no_progress beta_reduce) | (fail_if_no_progress dsimp only) | split)

theorem Frame.execLogEnd {o : State} {ps : List Piece} (n : Nat) (s : State) (h0 : State.onlyIn o s ps) (ksch : Piece.sch ∈ ps) (kedges : Piece.edges ∈ ps) :
    FrameOut o ps (execLogEnd n s) := by
  unfold Sys2Proof.Machine.execLogEnd
  dsimp -failIfUnchanged only
  with_reducible repeat' (first | assumption | (intro _) | apply FrameOut.next | exact FrameOut.fault | apply Frame.ite | apply Frame.ite2 | apply Frame.foldl | apply Frame.foldl2 | apply Frame.endLog | apply h0 | (fail_if_no_progress beta_reduce) | (fail_if_no_progress dsimp only) | split)

theorem Frame.execTokenWaitTimeout {o : State} {ps : List Piece} (b t : Nat) (s : State) (h0 : State.onlyIn o s ps) (kregs : Piece.regs ∈ ps) (khif : Piece.hif ∈ ps) (ksch : Piece.sch ∈ ps) (kbanks : Piece.banks ∈ ps) (kedges : Piece.edges ∈ ps) (kink : Piece.ink ∈ ps) (kadc : Piece.adc ∈ ps) (kcmps : Piece.cmps ∈ ps) :
    FrameOut o ps (execTokenWaitTimeout b t s) := by
  unfold Sys2Proof.Machine.execTokenWaitTimeout
  dsimp -failIfUnchanged only
  with_reducible repeat' (first | assumption | (intro _) | apply FrameOut.next | exact FrameOut.fault | apply Frame.ite | apply Frame.ite2 | apply Frame.foldl | apply Frame.foldl2 | apply Frame.count | apply Frame.timeOutThread | apply Frame.settleBank | apply Frame.stopWaiting | apply Frame.timeOutEvent | apply h0 | apply Frame.id | (fail_if_no_progress beta_reduce) | (fail_if_no_progress dsimp only) | split)

theorem Frame.execDutyCapReached {o : State} {ps : List Piece} (bank : Bool) (i : Nat) (s : State) (h0 : State.onlyIn o s ps) (kregs : Piece.regs ∈ ps) (ksch : Piece.sch ∈ ps) (kbanks : Piece.banks ∈ ps) (kedges : Piece.edges ∈ ps) :
    FrameOut o ps (execDutyCapReached bank i s) := by
  unfold Sys2Proof.Machine.execDutyCapReached
  dsimp -failIfUnchanged only
  with_reducible repeat' (first | assumption | (intro _) | apply FrameOut.next | exact FrameOut.fault | apply Frame.ite | apply Frame.ite2 | apply Frame.foldl | apply Frame.foldl2 | apply Frame.truncCover | apply h0 | (fail_if_no_progress beta_reduce) | (fail_if_no_progress dsimp only) | split)

/-! Drive -/

theorem Frame.execChannelOcTrip {o : State} {ps : List Piece} (n : Nat) (s : State) (h0 : State.onlyIn o s ps) (kregs : Piece.regs ∈ ps) (ksch : Piece.sch ∈ ps) :
    FrameOut o ps (execChannelOcTrip n s) := by
  unfold Sys2Proof.Machine.execChannelOcTrip
  dsimp -failIfUnchanged only
  with_reducible repeat' (first | assumption | (intro _) | apply FrameOut.next | exact FrameOut.fault | apply Frame.ite | apply Frame.ite2 | apply Frame.foldl | apply Frame.foldl2 | apply Frame.modChan | apply Frame.pullGl | apply Frame.count | apply Frame.inCycle | apply h0 | (fail_if_no_progress beta_reduce) | (fail_if_no_progress dsimp only) | split)

theorem Frame.execHighSideOcTrip {o : State} {ps : List Piece} (b : Nat) (boost : Bool) (s : State) (h0 : State.onlyIn o s ps) (kregs : Piece.regs ∈ ps) (ksch : Piece.sch ∈ ps) (kbanks : Piece.banks ∈ ps) :
    FrameOut o ps (execHighSideOcTrip b boost s) := by
  unfold Sys2Proof.Machine.execHighSideOcTrip
  dsimp -failIfUnchanged only
  with_reducible repeat' (first | assumption | (intro _) | apply FrameOut.next | exact FrameOut.fault | apply Frame.ite | apply Frame.ite2 | apply Frame.foldl | apply Frame.foldl2 | apply Frame.modBank | apply Frame.pullGl | apply Frame.count | apply Frame.inCycle | apply h0 | (fail_if_no_progress beta_reduce) | (fail_if_no_progress dsimp only) | split)

theorem Frame.execTripLatchSeen {o : State} {ps : List Piece} (u : Latch) (s : State) (h0 : State.onlyIn o s ps) (kregs : Piece.regs ∈ ps) (khif : Piece.hif ∈ ps) (kevc : Piece.evc ∈ ps) (ksch : Piece.sch ∈ ps) (kbanks : Piece.banks ∈ ps) (kedges : Piece.edges ∈ ps) (kgrds : Piece.grds ∈ ps) (kadc : Piece.adc ∈ ps) (kcmps : Piece.cmps ∈ ps) :
    FrameOut o ps (execTripLatchSeen u s) := by
  unfold Sys2Proof.Machine.execTripLatchSeen
  dsimp -failIfUnchanged only
  with_reducible repeat' (first | assumption | (intro _) | apply FrameOut.next | exact FrameOut.fault | apply Frame.ite | apply Frame.ite2 | apply Frame.foldl | apply Frame.foldl2 | apply Frame.seeLatch | apply h0 | (fail_if_no_progress beta_reduce) | (fail_if_no_progress dsimp only) | split)

theorem Frame.execBoostRegulation {o : State} {ps : List Piece} (q vbst : Nat) (s : State) (h0 : State.onlyIn o s ps) (kquads : Piece.quads ∈ ps) :
    FrameOut o ps (execBoostRegulation q vbst s) := by
  unfold Sys2Proof.Machine.execBoostRegulation
  dsimp -failIfUnchanged only
  with_reducible repeat' (first | assumption | (intro _) | apply FrameOut.next | exact FrameOut.fault | apply Frame.ite | apply Frame.ite2 | apply Frame.foldl | apply Frame.foldl2 | apply Frame.boostReg | apply h0 | (fail_if_no_progress beta_reduce) | (fail_if_no_progress dsimp only) | split)

theorem Frame.execBoostPulse {o : State} {ps : List Piece} (q vbat : Nat) (s : State) (h0 : State.onlyIn o s ps) (kregs : Piece.regs ∈ ps) (khif : Piece.hif ∈ ps) (kevc : Piece.evc ∈ ps) (kquads : Piece.quads ∈ ps) :
    FrameOut o ps (execBoostPulse q vbat s) := by
  unfold Sys2Proof.Machine.execBoostPulse
  dsimp -failIfUnchanged only
  with_reducible repeat' (first | assumption | (intro _) | apply FrameOut.next | exact FrameOut.fault | apply Frame.ite | apply Frame.ite2 | apply Frame.foldl | apply Frame.foldl2 | apply Frame.pulse | apply h0 | (fail_if_no_progress beta_reduce) | (fail_if_no_progress dsimp only) | split)

theorem Frame.execBoostOvervoltage {o : State} {ps : List Piece} (q vbst : Nat) (s : State) (h0 : State.onlyIn o s ps) (kregs : Piece.regs ∈ ps) (khif : Piece.hif ∈ ps) (kquads : Piece.quads ∈ ps) :
    FrameOut o ps (execBoostOvervoltage q vbst s) := by
  unfold Sys2Proof.Machine.execBoostOvervoltage
  dsimp -failIfUnchanged only
  with_reducible repeat' (first | assumption | (intro _) | apply FrameOut.next | exact FrameOut.fault | apply Frame.ite | apply Frame.ite2 | apply Frame.foldl | apply Frame.foldl2 | apply Frame.modQuad | apply Frame.count | apply Frame.alarm | apply h0 | (fail_if_no_progress beta_reduce) | (fail_if_no_progress dsimp only) | split)

theorem Frame.execClosingKink {o : State} {ps : List Piece} (n : Nat) (codes : List Nat) (s : State) (h0 : State.onlyIn o s ps) (ksch : Piece.sch ∈ ps) (kbanks : Piece.banks ∈ ps) :
    FrameOut o ps (execClosingKink n codes s) := by
  unfold Sys2Proof.Machine.execClosingKink
  dsimp -failIfUnchanged only
  with_reducible repeat' (first | assumption | (intro _) | apply FrameOut.next | exact FrameOut.fault | apply Frame.ite | apply Frame.ite2 | apply Frame.foldl | apply Frame.foldl2 | apply Frame.dropSlot | apply Frame.deliver | apply h0 | (fail_if_no_progress beta_reduce) | (fail_if_no_progress dsimp only) | split)

theorem Frame.execClosingNoKink {o : State} {ps : List Piece} (n : Nat) (s : State) (h0 : State.onlyIn o s ps) (kregs : Piece.regs ∈ ps) (ksch : Piece.sch ∈ ps) (kbanks : Piece.banks ∈ ps) :
    FrameOut o ps (execClosingNoKink n s) := by
  unfold Sys2Proof.Machine.execClosingNoKink
  dsimp -failIfUnchanged only
  with_reducible repeat' (first | assumption | (intro _) | apply FrameOut.next | exact FrameOut.fault | apply Frame.ite | apply Frame.ite2 | apply Frame.foldl | apply Frame.foldl2 | apply Frame.noKink | apply h0 | (fail_if_no_progress beta_reduce) | (fail_if_no_progress dsimp only) | split)

theorem Frame.execResultWrite {o : State} {ps : List Piece} (id : Nat) (s : State) (h0 : State.onlyIn o s ps) (kregs : Piece.regs ∈ ps) (khif : Piece.hif ∈ ps) (kevc : Piece.evc ∈ ps) (ksch : Piece.sch ∈ ps) (kbanks : Piece.banks ∈ ps) (kquads : Piece.quads ∈ ps) (kink : Piece.ink ∈ ps) :
    FrameOut o ps (execResultWrite id s) := by
  unfold Sys2Proof.Machine.execResultWrite
  dsimp -failIfUnchanged only
  with_reducible repeat' (first | assumption | (intro _) | apply FrameOut.next | exact FrameOut.fault | apply Frame.ite | apply Frame.ite2 | apply Frame.foldl | apply Frame.foldl2 | apply Frame.writeResult | apply h0 | apply Frame.id | (fail_if_no_progress beta_reduce) | (fail_if_no_progress dsimp only) | split)

theorem Frame.execBoostReconcile {o : State} {ps : List Piece} (q vbst : Nat) (s : State) (h0 : State.onlyIn o s ps) (kregs : Piece.regs ∈ ps) (khif : Piece.hif ∈ ps) (kevc : Piece.evc ∈ ps) (kquads : Piece.quads ∈ ps) :
    FrameOut o ps (execBoostReconcile q vbst s) := by
  unfold Sys2Proof.Machine.execBoostReconcile
  dsimp -failIfUnchanged only
  with_reducible repeat' (first | assumption | (intro _) | apply FrameOut.next | exact FrameOut.fault | apply Frame.ite | apply Frame.ite2 | apply Frame.foldl | apply Frame.foldl2 | apply Frame.reconcile | apply h0 | (fail_if_no_progress beta_reduce) | (fail_if_no_progress dsimp only) | split)

theorem Frame.execFillRateRefresh {o : State} {ps : List Piece} (q vbat : Nat) (s : State) (h0 : State.onlyIn o s ps) (kquads : Piece.quads ∈ ps) :
    FrameOut o ps (execFillRateRefresh q vbat s) := by
  unfold Sys2Proof.Machine.execFillRateRefresh
  dsimp -failIfUnchanged only
  with_reducible repeat' (first | assumption | (intro _) | apply FrameOut.next | exact FrameOut.fault | apply Frame.ite | apply Frame.ite2 | apply Frame.foldl | apply Frame.foldl2 | apply Frame.modQuad | apply h0 | (fail_if_no_progress beta_reduce) | (fail_if_no_progress dsimp only) | split)

theorem Frame.execRailSubwindowEnd {o : State} {ps : List Piece} (g : Nat) (s : State) (h0 : State.onlyIn o s ps) (kregs : Piece.regs ∈ ps) (khif : Piece.hif ∈ ps) (kevc : Piece.evc ∈ ps) (kink : Piece.ink ∈ ps) :
    FrameOut o ps (execRailSubwindowEnd g s) := by
  unfold Sys2Proof.Machine.execRailSubwindowEnd
  dsimp -failIfUnchanged only
  with_reducible repeat' (first | assumption | (intro _) | apply FrameOut.next | exact FrameOut.fault | apply Frame.ite | apply Frame.ite2 | apply Frame.foldl | apply Frame.foldl2 | apply Frame.subwindow | apply h0 | (fail_if_no_progress beta_reduce) | (fail_if_no_progress dsimp only) | split)

theorem Frame.execPtabDataAccess {o : State} {ps : List Piece} (p : Port) (w : Option Word) (s : State) (h0 : State.onlyIn o s ps) (kregs : Piece.regs ∈ ps) (khif : Piece.hif ∈ ps) (ksec : Piece.sec ∈ ps) (kans : Piece.ans ∈ ps) :
    FrameOut o ps (execPtabDataAccess p w s) := by
  unfold Sys2Proof.Machine.execPtabDataAccess
  dsimp -failIfUnchanged only
  with_reducible repeat' (first | assumption | (intro _) | apply FrameOut.next | exact FrameOut.fault | apply Frame.ite | apply Frame.ite2 | apply Frame.foldl | apply Frame.foldl2 | apply Frame.onRead | apply Frame.ptabAccess | apply Frame.onWrite | apply h0 | (fail_if_no_progress beta_reduce) | (fail_if_no_progress dsimp only) | split)

theorem Frame.execMeasurementConversion {o : State} {ps : List Piece} (b : Nat) (path : MeasPath) (shunt volt : Nat) (s : State) (h0 : State.onlyIn o s ps) (ksch : Piece.sch ∈ ps) (kbanks : Piece.banks ∈ ps) :
    FrameOut o ps (execMeasurementConversion b path shunt volt s) := by
  unfold Sys2Proof.Machine.execMeasurementConversion
  dsimp -failIfUnchanged only
  with_reducible repeat' (first | assumption | (intro _) | apply FrameOut.next | exact FrameOut.fault | apply Frame.ite | apply Frame.ite2 | apply Frame.foldl | apply Frame.foldl2 | apply Frame.convert | apply h0 | (fail_if_no_progress beta_reduce) | (fail_if_no_progress dsimp only) | split)

/-! Tmr -/

theorem Frame.execComparatorCrossing {o : State} {ps : List Piece} (c : CmpUnit) (above : Bool) (s : State) (h0 : State.onlyIn o s ps) (kregs : Piece.regs ∈ ps) (ksch : Piece.sch ∈ ps) (kbanks : Piece.banks ∈ ps) (kcmps : Piece.cmps ∈ ps) :
    FrameOut o ps (execComparatorCrossing c above s) := by
  unfold Sys2Proof.Machine.execComparatorCrossing
  dsimp -failIfUnchanged only
  with_reducible repeat' (first | assumption | (intro _) | apply FrameOut.next | exact FrameOut.fault | apply Frame.ite | apply Frame.ite2 | apply Frame.foldl | apply Frame.foldl2 | apply Frame.crossing | apply Frame.regLook | apply h0 | (fail_if_no_progress beta_reduce) | (fail_if_no_progress dsimp only) | split)

theorem Frame.execTimerZero {o : State} {ps : List Piece} (n : Nat) (s : State) (h0 : State.onlyIn o s ps) (kregs : Piece.regs ∈ ps) (khif : Piece.hif ∈ ps) (kevc : Piece.evc ∈ ps) (kadc : Piece.adc ∈ ps) (ktmrs : Piece.tmrs ∈ ps) :
    FrameOut o ps (execTimerZero n s) := by
  unfold Sys2Proof.Machine.execTimerZero
  dsimp -failIfUnchanged only
  with_reducible repeat' (first | assumption | (intro _) | apply FrameOut.next | exact FrameOut.fault | apply Frame.ite | apply Frame.ite2 | apply Frame.foldl | apply Frame.foldl2 | apply Frame.tmrFire | apply h0 | (fail_if_no_progress beta_reduce) | (fail_if_no_progress dsimp only) | split)

theorem Frame.execTimerMatch {o : State} {ps : List Piece} (n : Nat) (s : State) (h0 : State.onlyIn o s ps) (kregs : Piece.regs ∈ ps) (khif : Piece.hif ∈ ps) (kevc : Piece.evc ∈ ps) (kadc : Piece.adc ∈ ps) (ktmrs : Piece.tmrs ∈ ps) :
    FrameOut o ps (execTimerMatch n s) := by
  unfold Sys2Proof.Machine.execTimerMatch
  dsimp -failIfUnchanged only
  with_reducible repeat' (first | assumption | (intro _) | apply FrameOut.next | exact FrameOut.fault | apply Frame.ite | apply Frame.ite2 | apply Frame.foldl | apply Frame.foldl2 | apply Frame.tmrFire | apply h0 | (fail_if_no_progress beta_reduce) | (fail_if_no_progress dsimp only) | split)

theorem Frame.execTimerStart {o : State} {ps : List Piece} (p : Port) (v : Word) (s : State) (h0 : State.onlyIn o s ps) (kregs : Piece.regs ∈ ps) (khif : Piece.hif ∈ ps) (ksec : Piece.sec ∈ ps) (ktmrs : Piece.tmrs ∈ ps) :
    FrameOut o ps (execTimerStart p v s) := by
  unfold Sys2Proof.Machine.execTimerStart
  dsimp -failIfUnchanged only
  with_reducible repeat' (first | assumption | (intro _) | apply FrameOut.next | exact FrameOut.fault | apply Frame.ite | apply Frame.ite2 | apply Frame.foldl | apply Frame.foldl2 | apply Frame.tmrStartWrite | apply h0 | (fail_if_no_progress beta_reduce) | (fail_if_no_progress dsimp only) | split)

theorem Frame.execTimerStop {o : State} {ps : List Piece} (p : Port) (v : Word) (s : State) (h0 : State.onlyIn o s ps) (kregs : Piece.regs ∈ ps) (khif : Piece.hif ∈ ps) (ksec : Piece.sec ∈ ps) (ktmrs : Piece.tmrs ∈ ps) :
    FrameOut o ps (execTimerStop p v s) := by
  unfold Sys2Proof.Machine.execTimerStop
  dsimp -failIfUnchanged only
  with_reducible repeat' (first | assumption | (intro _) | apply FrameOut.next | exact FrameOut.fault | apply Frame.ite | apply Frame.ite2 | apply Frame.foldl | apply Frame.foldl2 | apply Frame.tmrStopWrite | apply h0 | (fail_if_no_progress beta_reduce) | (fail_if_no_progress dsimp only) | split)

theorem Frame.execTimerReloadWrite {o : State} {ps : List Piece} (p : Port) (n : Nat) (v : Word) (s : State) (h0 : State.onlyIn o s ps) (kregs : Piece.regs ∈ ps) (khif : Piece.hif ∈ ps) (ksec : Piece.sec ∈ ps) :
    FrameOut o ps (execTimerReloadWrite p n v s) := by
  unfold Sys2Proof.Machine.execTimerReloadWrite
  dsimp -failIfUnchanged only
  with_reducible repeat' (first | assumption | (intro _) | apply FrameOut.next | exact FrameOut.fault | apply Frame.ite | apply Frame.ite2 | apply Frame.foldl | apply Frame.foldl2 | apply Frame.reloadWrite | apply h0 | (fail_if_no_progress beta_reduce) | (fail_if_no_progress dsimp only) | split)

theorem Frame.execTimerCmpWrite {o : State} {ps : List Piece} (p : Port) (n : Nat) (v : Word) (s : State) (h0 : State.onlyIn o s ps) (kregs : Piece.regs ∈ ps) (khif : Piece.hif ∈ ps) (ksec : Piece.sec ∈ ps) (ktmrs : Piece.tmrs ∈ ps) :
    FrameOut o ps (execTimerCmpWrite p n v s) := by
  unfold Sys2Proof.Machine.execTimerCmpWrite
  dsimp -failIfUnchanged only
  with_reducible repeat' (first | assumption | (intro _) | apply FrameOut.next | exact FrameOut.fault | apply Frame.ite | apply Frame.ite2 | apply Frame.foldl | apply Frame.foldl2 | apply Frame.cmpWrite | apply h0 | (fail_if_no_progress beta_reduce) | (fail_if_no_progress dsimp only) | split)

theorem Frame.execTimerCapture {o : State} {ps : List Piece} (n : Nat) (rising : Bool) (s : State) (h0 : State.onlyIn o s ps) (kregs : Piece.regs ∈ ps) (ktmrs : Piece.tmrs ∈ ps) :
    FrameOut o ps (execTimerCapture n rising s) := by
  unfold Sys2Proof.Machine.execTimerCapture
  dsimp -failIfUnchanged only
  with_reducible repeat' (first | assumption | (intro _) | apply FrameOut.next | exact FrameOut.fault | apply Frame.ite | apply Frame.ite2 | apply Frame.foldl | apply Frame.foldl2 | apply Frame.modTmr | apply Frame.count | apply Frame.set | apply h0 | (fail_if_no_progress beta_reduce) | (fail_if_no_progress dsimp only) | split)

theorem Frame.execSlaveTrigger {o : State} {ps : List Piece} (n : Nat) (s : State) (h0 : State.onlyIn o s ps) (kregs : Piece.regs ∈ ps) (khif : Piece.hif ∈ ps) (kevc : Piece.evc ∈ ps) (kadc : Piece.adc ∈ ps) (ktmrs : Piece.tmrs ∈ ps) :
    FrameOut o ps (execSlaveTrigger n s) := by
  unfold Sys2Proof.Machine.execSlaveTrigger
  dsimp -failIfUnchanged only
  with_reducible repeat' (first | assumption | (intro _) | apply FrameOut.next | exact FrameOut.fault | apply Frame.ite | apply Frame.ite2 | apply Frame.foldl | apply Frame.foldl2 | apply Frame.modTmr | apply Frame.tmrFire | apply h0 | (fail_if_no_progress beta_reduce) | (fail_if_no_progress dsimp only) | split)

theorem Frame.execTimerCatchup {o : State} {ps : List Piece} (s : State) (h0 : State.onlyIn o s ps) (kregs : Piece.regs ∈ ps) (ktmrs : Piece.tmrs ∈ ps) :
    FrameOut o ps (execTimerCatchup s) := by
  unfold Sys2Proof.Machine.execTimerCatchup
  dsimp -failIfUnchanged only
  with_reducible repeat' (first | assumption | (intro _) | apply FrameOut.next | exact FrameOut.fault | apply Frame.ite | apply Frame.ite2 | apply Frame.foldl | apply Frame.foldl2 | apply Frame.tmrResume | apply h0 | (fail_if_no_progress beta_reduce) | (fail_if_no_progress dsimp only) | split)

/-! Evc -/

theorem Frame.execGroupReadyTime {o : State} {ps : List Piece} (k : Nat) (s : State) (h0 : State.onlyIn o s ps) (kevc : Piece.evc ∈ ps) :
    FrameOut o ps (execGroupReadyTime k s) := by
  unfold Sys2Proof.Machine.execGroupReadyTime
  dsimp -failIfUnchanged only
  with_reducible repeat' (first | assumption | (intro _) | apply FrameOut.next | exact FrameOut.fault | apply Frame.ite | apply Frame.ite2 | apply Frame.foldl | apply Frame.foldl2 | apply h0 | simp only [Frame.mk_iff] | apply Frame.with_evc | (fail_if_no_progress beta_reduce) | (fail_if_no_progress dsimp only) | split)

theorem Frame.execSourceAssign {o : State} {ps : List Piece} (s : State) (h0 : State.onlyIn o s ps) (khif : Piece.hif ∈ ps) (kevc : Piece.evc ∈ ps) :
    FrameOut o ps (execSourceAssign s) := by
  unfold Sys2Proof.Machine.execSourceAssign
  dsimp -failIfUnchanged only
  with_reducible repeat' (first | assumption | (intro _) | apply FrameOut.next | exact FrameOut.fault | apply Frame.ite | apply Frame.ite2 | apply Frame.foldl | apply Frame.foldl2 | apply Frame.assignAll | apply h0 | (fail_if_no_progress beta_reduce) | (fail_if_no_progress dsimp only) | split)

theorem Frame.execEvcClaim {o : State} {ps : List Piece} (p : Port) (t src : Nat) (s : State) (h0 : State.onlyIn o s ps) (kregs : Piece.regs ∈ ps) (khif : Piece.hif ∈ ps) (kevc : Piece.evc ∈ ps) (ksec : Piece.sec ∈ ps) :
    FrameOut o ps (execEvcClaim p t src s) := by
  unfold Sys2Proof.Machine.execEvcClaim
  dsimp -failIfUnchanged only
  with_reducible repeat' (first | assumption | (intro _) | apply FrameOut.next | exact FrameOut.fault | apply Frame.ite | apply Frame.ite2 | apply Frame.foldl | apply Frame.foldl2 | apply Frame.busWrite | apply Frame.claim | apply h0 | (fail_if_no_progress beta_reduce) | (fail_if_no_progress dsimp only) | split)

theorem Frame.execEvcComplete {o : State} {ps : List Piece} (p : Port) (t src : Nat) (s : State) (h0 : State.onlyIn o s ps) (kregs : Piece.regs ∈ ps) (khif : Piece.hif ∈ ps) (kevc : Piece.evc ∈ ps) (ksec : Piece.sec ∈ ps) :
    FrameOut o ps (execEvcComplete p t src s) := by
  unfold Sys2Proof.Machine.execEvcComplete
  dsimp -failIfUnchanged only
  with_reducible repeat' (first | assumption | (intro _) | apply FrameOut.next | exact FrameOut.fault | apply Frame.ite | apply Frame.ite2 | apply Frame.foldl | apply Frame.foldl2 | apply Frame.busWrite | apply Frame.complete | apply h0 | (fail_if_no_progress beta_reduce) | (fail_if_no_progress dsimp only) | split)

theorem Frame.execEvcRelease {o : State} {ps : List Piece} (p : Port) (t : Nat) (s : State) (h0 : State.onlyIn o s ps) (kregs : Piece.regs ∈ ps) (khif : Piece.hif ∈ ps) (kevc : Piece.evc ∈ ps) (ksec : Piece.sec ∈ ps) :
    FrameOut o ps (execEvcRelease p t s) := by
  unfold Sys2Proof.Machine.execEvcRelease
  dsimp -failIfUnchanged only
  with_reducible repeat' (first | assumption | (intro _) | apply FrameOut.next | exact FrameOut.fault | apply Frame.ite | apply Frame.ite2 | apply Frame.foldl | apply Frame.foldl2 | apply Frame.busWrite | apply Frame.releaseTgt | apply h0 | (fail_if_no_progress beta_reduce) | (fail_if_no_progress dsimp only) | split)

theorem Frame.execExtLineEdge {o : State} {ps : List Piece} (n : Nat) (high : Bool) (s : State) (h0 : State.onlyIn o s ps) (kregs : Piece.regs ∈ ps) (kevc : Piece.evc ∈ ps) :
    FrameOut o ps (execExtLineEdge n high s) := by
  unfold Sys2Proof.Machine.execExtLineEdge
  dsimp -failIfUnchanged only
  with_reducible repeat' (first | assumption | (intro _) | apply FrameOut.next | exact FrameOut.fault | apply Frame.ite | apply Frame.ite2 | apply Frame.foldl | apply Frame.foldl2 | apply Frame.extEdge | apply h0 | (fail_if_no_progress beta_reduce) | (fail_if_no_progress dsimp only) | split)

/-! Grd -/

theorem Frame.execGuardianMeterSample {o : State} {ps : List Piece} (g : Nat) (cur : Int) (volt : Nat) (s : State) (h0 : State.onlyIn o s ps) (kregs : Piece.regs ∈ ps) (khif : Piece.hif ∈ ps) (kevc : Piece.evc ∈ ps) (ksch : Piece.sch ∈ ps) (kbanks : Piece.banks ∈ ps) (kquads : Piece.quads ∈ ps) (kedges : Piece.edges ∈ ps) (kink : Piece.ink ∈ ps) (kgrds : Piece.grds ∈ ps) (kadc : Piece.adc ∈ ps) (kcmps : Piece.cmps ∈ ps) :
    FrameOut o ps (execGuardianMeterSample g cur volt s) := by
  unfold Sys2Proof.Machine.execGuardianMeterSample
  dsimp -failIfUnchanged only
  with_reducible repeat' (first | assumption | (intro _) | apply FrameOut.next | exact FrameOut.fault | apply Frame.ite | apply Frame.ite2 | apply Frame.foldl | apply Frame.foldl2 | apply Frame.meterSample | apply h0 | (fail_if_no_progress beta_reduce) | (fail_if_no_progress dsimp only) | split)

theorem Frame.execVigilMeterSample {o : State} {ps : List Piece} (g : Nat) (cur : Int) (vout vin : Nat) (s : State) (h0 : State.onlyIn o s ps) (kregs : Piece.regs ∈ ps) (khif : Piece.hif ∈ ps) (kevc : Piece.evc ∈ ps) (ksch : Piece.sch ∈ ps) (kbanks : Piece.banks ∈ ps) (kquads : Piece.quads ∈ ps) (kedges : Piece.edges ∈ ps) (kink : Piece.ink ∈ ps) (kgrds : Piece.grds ∈ ps) (kadc : Piece.adc ∈ ps) (kcmps : Piece.cmps ∈ ps) :
    FrameOut o ps (execVigilMeterSample g cur vout vin s) := by
  unfold Sys2Proof.Machine.execVigilMeterSample
  dsimp -failIfUnchanged only
  with_reducible repeat' (first | assumption | (intro _) | apply FrameOut.next | exact FrameOut.fault | apply Frame.ite | apply Frame.ite2 | apply Frame.foldl | apply Frame.foldl2 | apply Frame.vigilSample | apply h0 | (fail_if_no_progress beta_reduce) | (fail_if_no_progress dsimp only) | split)

theorem Frame.execSoaUpdate {o : State} {ps : List Piece} (g : Nat) (s : State) (h0 : State.onlyIn o s ps) (kregs : Piece.regs ∈ ps) (khif : Piece.hif ∈ ps) (kevc : Piece.evc ∈ ps) (ksch : Piece.sch ∈ ps) (kbanks : Piece.banks ∈ ps) (kedges : Piece.edges ∈ ps) (kgrds : Piece.grds ∈ ps) (kadc : Piece.adc ∈ ps) (kcmps : Piece.cmps ∈ ps) :
    FrameOut o ps (execSoaUpdate g s) := by
  unfold Sys2Proof.Machine.execSoaUpdate
  dsimp -failIfUnchanged only
  with_reducible repeat' (first | assumption | (intro _) | apply FrameOut.next | exact FrameOut.fault | apply Frame.ite | apply Frame.ite2 | apply Frame.foldl | apply Frame.foldl2 | apply Frame.modGrd | apply Frame.evaluate | apply h0 | (fail_if_no_progress beta_reduce) | (fail_if_no_progress dsimp only) | split)

theorem Frame.execRampTimeout {o : State} {ps : List Piece} (g : Nat) (s : State) (h0 : State.onlyIn o s ps) (kregs : Piece.regs ∈ ps) (khif : Piece.hif ∈ ps) (kevc : Piece.evc ∈ ps) (ksch : Piece.sch ∈ ps) (kbanks : Piece.banks ∈ ps) (kedges : Piece.edges ∈ ps) (kgrds : Piece.grds ∈ ps) (kadc : Piece.adc ∈ ps) (kcmps : Piece.cmps ∈ ps) :
    FrameOut o ps (execRampTimeout g s) := by
  unfold Sys2Proof.Machine.execRampTimeout
  dsimp -failIfUnchanged only
  with_reducible repeat' (first | assumption | (intro _) | apply FrameOut.next | exact FrameOut.fault | apply Frame.ite | apply Frame.ite2 | apply Frame.foldl | apply Frame.foldl2 | apply Frame.modGrd | apply Frame.evaluate | apply h0 | (fail_if_no_progress beta_reduce) | (fail_if_no_progress dsimp only) | split)

theorem Frame.execGuardianFastTrip {o : State} {ps : List Piece} (g : Nat) (s : State) (h0 : State.onlyIn o s ps) (kregs : Piece.regs ∈ ps) (khif : Piece.hif ∈ ps) (kevc : Piece.evc ∈ ps) (ksch : Piece.sch ∈ ps) (kbanks : Piece.banks ∈ ps) (kedges : Piece.edges ∈ ps) (kgrds : Piece.grds ∈ ps) (kadc : Piece.adc ∈ ps) (kcmps : Piece.cmps ∈ ps) :
    FrameOut o ps (execGuardianFastTrip g s) := by
  unfold Sys2Proof.Machine.execGuardianFastTrip
  dsimp -failIfUnchanged only
  with_reducible repeat' (first | assumption | (intro _) | apply FrameOut.next | exact FrameOut.fault | apply Frame.ite | apply Frame.ite2 | apply Frame.foldl | apply Frame.foldl2 | apply Frame.fastTrip | apply h0 | (fail_if_no_progress beta_reduce) | (fail_if_no_progress dsimp only) | split)

theorem Frame.execReverseCurrentTrip {o : State} {ps : List Piece} (x : GrdHeld) (s : State) (h0 : State.onlyIn o s ps) (kregs : Piece.regs ∈ ps) (khif : Piece.hif ∈ ps) (kevc : Piece.evc ∈ ps) (ksch : Piece.sch ∈ ps) (kbanks : Piece.banks ∈ ps) (kedges : Piece.edges ∈ ps) (kgrds : Piece.grds ∈ ps) (kadc : Piece.adc ∈ ps) (kcmps : Piece.cmps ∈ ps) :
    FrameOut o ps (execReverseCurrentTrip x s) := by
  unfold Sys2Proof.Machine.execReverseCurrentTrip
  dsimp -failIfUnchanged only
  with_reducible repeat' (first | assumption | (intro _) | apply FrameOut.next | exact FrameOut.fault | apply Frame.ite | apply Frame.ite2 | apply Frame.foldl | apply Frame.foldl2 | apply Frame.eventRule | apply h0 | (fail_if_no_progress beta_reduce) | (fail_if_no_progress dsimp only) | split)

theorem Frame.execExternalFault {o : State} {ps : List Piece} (x : GrdHeld) (s : State) (h0 : State.onlyIn o s ps) (kregs : Piece.regs ∈ ps) (khif : Piece.hif ∈ ps) (kevc : Piece.evc ∈ ps) (ksch : Piece.sch ∈ ps) (kbanks : Piece.banks ∈ ps) (kedges : Piece.edges ∈ ps) (kgrds : Piece.grds ∈ ps) (kadc : Piece.adc ∈ ps) (kcmps : Piece.cmps ∈ ps) :
    FrameOut o ps (execExternalFault x s) := by
  unfold Sys2Proof.Machine.execExternalFault
  dsimp -failIfUnchanged only
  with_reducible repeat' (first | assumption | (intro _) | apply FrameOut.next | exact FrameOut.fault | apply Frame.ite | apply Frame.ite2 | apply Frame.foldl | apply Frame.foldl2 | apply Frame.eventRule | apply h0 | (fail_if_no_progress beta_reduce) | (fail_if_no_progress dsimp only) | split)

theorem Frame.execSlowSupervisionCheck {o : State} {ps : List Piece} (g : Nat) (gateOk vOk : Bool) (s : State) (h0 : State.onlyIn o s ps) (kregs : Piece.regs ∈ ps) (khif : Piece.hif ∈ ps) (kevc : Piece.evc ∈ ps) (ksch : Piece.sch ∈ ps) (kbanks : Piece.banks ∈ ps) (kedges : Piece.edges ∈ ps) (kgrds : Piece.grds ∈ ps) (kadc : Piece.adc ∈ ps) (kcmps : Piece.cmps ∈ ps) :
    FrameOut o ps (execSlowSupervisionCheck g gateOk vOk s) := by
  unfold Sys2Proof.Machine.execSlowSupervisionCheck
  dsimp -failIfUnchanged only
  with_reducible repeat' (first | assumption | (intro _) | apply FrameOut.next | exact FrameOut.fault | apply Frame.ite | apply Frame.ite2 | apply Frame.foldl | apply Frame.foldl2 | apply Frame.modGrd | apply Frame.eventRule | apply h0 | (fail_if_no_progress beta_reduce) | (fail_if_no_progress dsimp only) | split)

theorem Frame.execRetryDelayEnd {o : State} {ps : List Piece} (g : Nat) (s : State) (h0 : State.onlyIn o s ps) (kregs : Piece.regs ∈ ps) (khif : Piece.hif ∈ ps) (kgrds : Piece.grds ∈ ps) :
    FrameOut o ps (execRetryDelayEnd g s) := by
  unfold Sys2Proof.Machine.execRetryDelayEnd
  dsimp -failIfUnchanged only
  with_reducible repeat' (first | assumption | (intro _) | apply FrameOut.next | exact FrameOut.fault | apply Frame.ite | apply Frame.ite2 | apply Frame.foldl | apply Frame.foldl2 | apply Frame.retryRamp | apply h0 | (fail_if_no_progress beta_reduce) | (fail_if_no_progress dsimp only) | split)

theorem Frame.execRetryCountReset {o : State} {ps : List Piece} (g : Nat) (s : State) (h0 : State.onlyIn o s ps) (kgrds : Piece.grds ∈ ps) :
    FrameOut o ps (execRetryCountReset g s) := by
  unfold Sys2Proof.Machine.execRetryCountReset
  dsimp -failIfUnchanged only
  with_reducible repeat' (first | assumption | (intro _) | apply FrameOut.next | exact FrameOut.fault | apply Frame.ite | apply Frame.ite2 | apply Frame.foldl | apply Frame.foldl2 | apply Frame.modGrd | apply h0 | (fail_if_no_progress beta_reduce) | (fail_if_no_progress dsimp only) | split)

theorem Frame.execPrsnChange {o : State} {ps : List Piece} (g : Nat) (level : Bool) (s : State) (h0 : State.onlyIn o s ps) (kregs : Piece.regs ∈ ps) (khif : Piece.hif ∈ ps) (kgrds : Piece.grds ∈ ps) :
    FrameOut o ps (execPrsnChange g level s) := by
  unfold Sys2Proof.Machine.execPrsnChange
  dsimp -failIfUnchanged only
  with_reducible repeat' (first | assumption | (intro _) | apply FrameOut.next | exact FrameOut.fault | apply Frame.ite | apply Frame.ite2 | apply Frame.foldl | apply Frame.foldl2 | apply Frame.modGrd | apply Frame.grdStep | apply h0 | (fail_if_no_progress beta_reduce) | (fail_if_no_progress dsimp only) | split)

theorem Frame.execPrsnDebounceDone {o : State} {ps : List Piece} (g : Nat) (s : State) (h0 : State.onlyIn o s ps) (kregs : Piece.regs ∈ ps) (khif : Piece.hif ∈ ps) (kgrds : Piece.grds ∈ ps) :
    FrameOut o ps (execPrsnDebounceDone g s) := by
  unfold Sys2Proof.Machine.execPrsnDebounceDone
  dsimp -failIfUnchanged only
  with_reducible repeat' (first | assumption | (intro _) | apply FrameOut.next | exact FrameOut.fault | apply Frame.ite | apply Frame.ite2 | apply Frame.foldl | apply Frame.foldl2 | apply Frame.modGrd | apply Frame.rampOrPend | apply Frame.grdStep | apply h0 | (fail_if_no_progress beta_reduce) | (fail_if_no_progress dsimp only) | split)

theorem Frame.execPrsnRemoval {o : State} {ps : List Piece} (g : Nat) (s : State) (h0 : State.onlyIn o s ps) (kregs : Piece.regs ∈ ps) (khif : Piece.hif ∈ ps) (kevc : Piece.evc ∈ ps) (kgrds : Piece.grds ∈ ps) :
    FrameOut o ps (execPrsnRemoval g s) := by
  unfold Sys2Proof.Machine.execPrsnRemoval
  dsimp -failIfUnchanged only
  with_reducible repeat' (first | assumption | (intro _) | apply FrameOut.next | exact FrameOut.fault | apply Frame.ite | apply Frame.ite2 | apply Frame.foldl | apply Frame.foldl2 | apply Frame.modGrd | apply Frame.grdReport | apply Frame.setLast | apply Frame.grdOffTo | apply h0 | (fail_if_no_progress beta_reduce) | (fail_if_no_progress dsimp only) | split)

theorem Frame.execGrdOn {o : State} {ps : List Piece} (src : Issuer) (g : Nat) (s : State) (h0 : State.onlyIn o s ps) (kregs : Piece.regs ∈ ps) (khif : Piece.hif ∈ ps) (ksec : Piece.sec ∈ ps) (kgrds : Piece.grds ∈ ps) :
    FrameOut o ps (execGrdOn src g s) := by
  unfold Sys2Proof.Machine.execGrdOn
  dsimp -failIfUnchanged only
  with_reducible repeat' (first | assumption | (intro _) | apply FrameOut.next | exact FrameOut.fault | apply Frame.ite | apply Frame.ite2 | apply Frame.foldl | apply Frame.foldl2 | apply Frame.onMq | apply Frame.grdOnAct | apply Frame.grdCtrlWrite | apply h0 | (fail_if_no_progress beta_reduce) | (fail_if_no_progress dsimp only) | split)

theorem Frame.execGrdOff {o : State} {ps : List Piece} (src : Issuer) (g : Nat) (s : State) (h0 : State.onlyIn o s ps) (kregs : Piece.regs ∈ ps) (khif : Piece.hif ∈ ps) (ksec : Piece.sec ∈ ps) (kgrds : Piece.grds ∈ ps) :
    FrameOut o ps (execGrdOff src g s) := by
  unfold Sys2Proof.Machine.execGrdOff
  dsimp -failIfUnchanged only
  with_reducible repeat' (first | assumption | (intro _) | apply FrameOut.next | exact FrameOut.fault | apply Frame.ite | apply Frame.ite2 | apply Frame.foldl | apply Frame.foldl2 | apply Frame.onMq | apply Frame.grdOffAct | apply Frame.grdCtrlWrite | apply h0 | (fail_if_no_progress beta_reduce) | (fail_if_no_progress dsimp only) | split)

theorem Frame.execGrdClear {o : State} {ps : List Piece} (src : Issuer) (g : Nat) (s : State) (h0 : State.onlyIn o s ps) (kregs : Piece.regs ∈ ps) (khif : Piece.hif ∈ ps) (ksec : Piece.sec ∈ ps) (kgrds : Piece.grds ∈ ps) :
    FrameOut o ps (execGrdClear src g s) := by
  unfold Sys2Proof.Machine.execGrdClear
  dsimp -failIfUnchanged only
  with_reducible repeat' (first | assumption | (intro _) | apply FrameOut.next | exact FrameOut.fault | apply Frame.ite | apply Frame.ite2 | apply Frame.foldl | apply Frame.foldl2 | apply Frame.onMq | apply Frame.grdClearAct | apply Frame.grdCtrlWrite | apply h0 | (fail_if_no_progress beta_reduce) | (fail_if_no_progress dsimp only) | split)

theorem Frame.execGrdLimit {o : State} {ps : List Piece} (tag arg0 arg1 : Word) (s : State) (h0 : State.onlyIn o s ps) (kregs : Piece.regs ∈ ps) (khif : Piece.hif ∈ ps) (ksec : Piece.sec ∈ ps) (kgrds : Piece.grds ∈ ps) :
    FrameOut o ps (execGrdLimit tag arg0 arg1 s) := by
  unfold Sys2Proof.Machine.execGrdLimit
  dsimp -failIfUnchanged only
  with_reducible repeat' (first | assumption | (intro _) | apply FrameOut.next | exact FrameOut.fault | apply Frame.ite | apply Frame.ite2 | apply Frame.foldl | apply Frame.foldl2 | apply Frame.onMq | apply Frame.grdLimitAct | apply h0 | (fail_if_no_progress beta_reduce) | (fail_if_no_progress dsimp only) | split)

theorem Frame.execEnergyCounterRead {o : State} {ps : List Piece} (p : Port) (g : Nat) (s : State) (h0 : State.onlyIn o s ps) (ksec : Piece.sec ∈ ps) (kgrds : Piece.grds ∈ ps) (kans : Piece.ans ∈ ps) :
    FrameOut o ps (execEnergyCounterRead p g s) := by
  unfold Sys2Proof.Machine.execEnergyCounterRead
  dsimp -failIfUnchanged only
  with_reducible repeat' (first | assumption | (intro _) | apply FrameOut.next | exact FrameOut.fault | apply Frame.ite | apply Frame.ite2 | apply Frame.foldl | apply Frame.foldl2 | apply Frame.energyRead | apply h0 | (fail_if_no_progress beta_reduce) | (fail_if_no_progress dsimp only) | split)

/-! Rings -/

theorem Frame.execDoorbellSweep {o : State} {ps : List Piece} (s : State) (h0 : State.onlyIn o s ps) (khif : Piece.hif ∈ ps) :
    FrameOut o ps (execDoorbellSweep s) := by
  unfold Sys2Proof.Machine.execDoorbellSweep
  dsimp -failIfUnchanged only
  with_reducible repeat' (first | assumption | (intro _) | apply FrameOut.next | exact FrameOut.fault | apply Frame.ite | apply Frame.ite2 | apply Frame.foldl | apply Frame.foldl2 | apply Frame.doorbellRead | apply h0 | simp only [Frame.mk_iff] | apply Frame.with_hif | (fail_if_no_progress beta_reduce) | (fail_if_no_progress dsimp only) | split)

theorem Frame.execDoorbellReadDone {o : State} {ps : List Piece} (line : DoorbellLine) (s : State) (h0 : State.onlyIn o s ps) (kregs : Piece.regs ∈ ps) (khif : Piece.hif ∈ ps) :
    FrameOut o ps (execDoorbellReadDone line s) := by
  unfold Sys2Proof.Machine.execDoorbellReadDone
  dsimp -failIfUnchanged only
  with_reducible repeat' (first | assumption | (intro _) | apply FrameOut.next | exact FrameOut.fault | apply Frame.ite | apply Frame.ite2 | apply Frame.foldl | apply Frame.foldl2 | apply Frame.takeLine | apply h0 | (fail_if_no_progress beta_reduce) | (fail_if_no_progress dsimp only) | split)

theorem Frame.execStatusLineWrite {o : State} {ps : List Piece} (s : State) (h0 : State.onlyIn o s ps) (kregs : Piece.regs ∈ ps) (khif : Piece.hif ∈ ps) (kevc : Piece.evc ∈ ps) :
    FrameOut o ps (execStatusLineWrite s) := by
  unfold Sys2Proof.Machine.execStatusLineWrite
  dsimp -failIfUnchanged only
  with_reducible repeat' (first | assumption | (intro _) | apply FrameOut.next | exact FrameOut.fault | apply Frame.ite | apply Frame.ite2 | apply Frame.foldl | apply Frame.foldl2 | apply Frame.writeStatus | apply h0 | (fail_if_no_progress beta_reduce) | (fail_if_no_progress dsimp only) | split)

theorem Frame.execRecordWrite {o : State} {ps : List Piece} (s : State) (h0 : State.onlyIn o s ps) (kregs : Piece.regs ∈ ps) (khif : Piece.hif ∈ ps) :
    FrameOut o ps (execRecordWrite s) := by
  unfold Sys2Proof.Machine.execRecordWrite
  dsimp -failIfUnchanged only
  with_reducible repeat' (first | assumption | (intro _) | apply FrameOut.next | exact FrameOut.fault | apply Frame.ite | apply Frame.ite2 | apply Frame.foldl | apply Frame.foldl2 | apply Frame.writeRecord | apply h0 | (fail_if_no_progress beta_reduce) | (fail_if_no_progress dsimp only) | split)

theorem Frame.execGapRecord {o : State} {ps : List Piece} (r : Nat) (s : State) (h0 : State.onlyIn o s ps) (kregs : Piece.regs ∈ ps) (khif : Piece.hif ∈ ps) :
    FrameOut o ps (execGapRecord r s) := by
  unfold Sys2Proof.Machine.execGapRecord
  dsimp -failIfUnchanged only
  with_reducible repeat' (first | assumption | (intro _) | apply FrameOut.next | exact FrameOut.fault | apply Frame.ite | apply Frame.ite2 | apply Frame.foldl | apply Frame.foldl2 | apply Frame.writeGap | apply h0 | (fail_if_no_progress beta_reduce) | (fail_if_no_progress dsimp only) | split)

theorem Frame.execRingEnable {o : State} {ps : List Piece} (p : Port) (r : Nat) (v : Word) (s : State) (h0 : State.onlyIn o s ps) (kregs : Piece.regs ∈ ps) (khif : Piece.hif ∈ ps) (ksec : Piece.sec ∈ ps) :
    FrameOut o ps (execRingEnable p r v s) := by
  unfold Sys2Proof.Machine.execRingEnable
  dsimp -failIfUnchanged only
  with_reducible repeat' (first | assumption | (intro _) | apply FrameOut.next | exact FrameOut.fault | apply Frame.ite | apply Frame.ite2 | apply Frame.foldl | apply Frame.foldl2 | apply Frame.ringCfgWrite | apply h0 | (fail_if_no_progress beta_reduce) | (fail_if_no_progress dsimp only) | split)

theorem Frame.execRingDisable {o : State} {ps : List Piece} (p : Port) (r : Nat) (v : Word) (s : State) (h0 : State.onlyIn o s ps) (kregs : Piece.regs ∈ ps) (khif : Piece.hif ∈ ps) (ksec : Piece.sec ∈ ps) :
    FrameOut o ps (execRingDisable p r v s) := by
  unfold Sys2Proof.Machine.execRingDisable
  dsimp -failIfUnchanged only
  with_reducible repeat' (first | assumption | (intro _) | apply FrameOut.next | exact FrameOut.fault | apply Frame.ite | apply Frame.ite2 | apply Frame.foldl | apply Frame.foldl2 | apply Frame.ringCfgWrite | apply h0 | (fail_if_no_progress beta_reduce) | (fail_if_no_progress dsimp only) | split)

theorem Frame.execRingDrained {o : State} {ps : List Piece} (r : Nat) (s : State) (h0 : State.onlyIn o s ps) (khif : Piece.hif ∈ ps) :
    FrameOut o ps (execRingDrained r s) := by
  unfold Sys2Proof.Machine.execRingDrained
  dsimp -failIfUnchanged only
  with_reducible repeat' (first | assumption | (intro _) | apply FrameOut.next | exact FrameOut.fault | apply Frame.ite | apply Frame.ite2 | apply Frame.foldl | apply Frame.foldl2 | apply Frame.modRing | apply h0 | (fail_if_no_progress beta_reduce) | (fail_if_no_progress dsimp only) | split)

theorem Frame.execRingEngineEnable {o : State} {ps : List Piece} (p : Port) (v : Word) (s : State) (h0 : State.onlyIn o s ps) (kregs : Piece.regs ∈ ps) (khif : Piece.hif ∈ ps) (ksec : Piece.sec ∈ ps) :
    FrameOut o ps (execRingEngineEnable p v s) := by
  unfold Sys2Proof.Machine.execRingEngineEnable
  dsimp -failIfUnchanged only
  with_reducible repeat' (first | assumption | (intro _) | apply FrameOut.next | exact FrameOut.fault | apply Frame.ite | apply Frame.ite2 | apply Frame.foldl | apply Frame.foldl2 | apply Frame.onWrite | apply Frame.engineCtrl | apply h0 | (fail_if_no_progress beta_reduce) | (fail_if_no_progress dsimp only) | split)

theorem Frame.execQuadrantUngate {o : State} {ps : List Piece} (q : Nat) (s : State) (h0 : State.onlyIn o s ps) (kclk : Piece.clk ∈ ps) (khif : Piece.hif ∈ ps) :
    FrameOut o ps (execQuadrantUngate q s) := by
  unfold Sys2Proof.Machine.execQuadrantUngate
  dsimp -failIfUnchanged only
  with_reducible repeat' (first | assumption | (intro _) | apply FrameOut.next | exact FrameOut.fault | apply Frame.ite | apply Frame.ite2 | apply Frame.foldl | apply Frame.foldl2 | apply Frame.askQuad | apply h0 | (fail_if_no_progress beta_reduce) | (fail_if_no_progress dsimp only) | split)

theorem Frame.execQuadrantGateClose {o : State} {ps : List Piece} (q : Nat) (s : State) (h0 : State.onlyIn o s ps) (kclk : Piece.clk ∈ ps) (kregs : Piece.regs ∈ ps) :
    FrameOut o ps (execQuadrantGateClose q s) := by
  unfold Sys2Proof.Machine.execQuadrantGateClose
  dsimp -failIfUnchanged only
  with_reducible repeat' (first | assumption | (intro _) | apply FrameOut.next | exact FrameOut.fault | apply Frame.ite | apply Frame.ite2 | apply Frame.foldl | apply Frame.foldl2 | apply Frame.inCycle | apply h0 | simp only [Frame.mk_iff] | apply Frame.with_clk | (fail_if_no_progress beta_reduce) | (fail_if_no_progress dsimp only) | split)

/-! Hif -/

theorem Frame.execPerstAssert {o : State} {ps : List Piece} (s : State) (h0 : State.onlyIn o s ps) (kregs : Piece.regs ∈ ps) (ksys : Piece.sys ∈ ps) (khif : Piece.hif ∈ ps) (kevc : Piece.evc ∈ ps) (ksec : Piece.sec ∈ ps) (ksch : Piece.sch ∈ ps) (kbanks : Piece.banks ∈ ps) (kquads : Piece.quads ∈ ps) (kedges : Piece.edges ∈ ps) (kink : Piece.ink ∈ ps) (kadc : Piece.adc ∈ ps) (kcmps : Piece.cmps ∈ ps) (knibs : Piece.nibs ∈ ps) (ktst : Piece.tst ∈ ps) (kfreeCtr : Piece.freeCtr ∈ ps) :
    FrameOut o ps (execPerstAssert s) := by
  unfold Sys2Proof.Machine.execPerstAssert
  dsimp -failIfUnchanged only
  with_reducible repeat' (first | assumption | (intro _) | apply FrameOut.next | exact FrameOut.fault | apply Frame.ite | apply Frame.ite2 | apply Frame.foldl | apply Frame.foldl2 | apply Frame.linkReset | apply h0 | simp only [Frame.mk_iff] | apply Frame.with_hif | (fail_if_no_progress beta_reduce) | (fail_if_no_progress dsimp only) | split)

theorem Frame.execPerstDeassert {o : State} {ps : List Piece} (s : State) (h0 : State.onlyIn o s ps) (ksys : Piece.sys ∈ ps) (khif : Piece.hif ∈ ps) :
    FrameOut o ps (execPerstDeassert s) := by
  unfold Sys2Proof.Machine.execPerstDeassert
  dsimp -failIfUnchanged only
  with_reducible repeat' (first | assumption | (intro _) | apply FrameOut.next | exact FrameOut.fault | apply Frame.ite | apply Frame.ite2 | apply Frame.foldl | apply Frame.foldl2 | apply h0 | simp only [Frame.mk_iff] | apply Frame.with_sys | apply Frame.with_hif | apply Frame.parts | (exact Or.inl ‹_›) | apply Frame.part_part | apply Frame.part_clk | apply Frame.part_regs | apply Frame.part_sys | apply Frame.part_hif | apply Frame.part_evc | apply Frame.part_sec | apply Frame.part_whl | apply Frame.part_ang | apply Frame.part_sch | apply Frame.part_banks | apply Frame.part_quads | apply Frame.part_edges | apply Frame.part_ink | apply Frame.part_grds | apply Frame.part_adc | apply Frame.part_cmps | apply Frame.part_tmrs | apply Frame.part_nibs | apply Frame.part_tst | apply Frame.part_slur | apply Frame.part_jtag | apply Frame.part_ans | apply Frame.part_freeCtr | apply Frame.part_pending | (fail_if_no_progress beta_reduce) | (fail_if_no_progress dsimp only) | split)

theorem Frame.execHotReset {o : State} {ps : List Piece} (s : State) (h0 : State.onlyIn o s ps) (kregs : Piece.regs ∈ ps) (ksys : Piece.sys ∈ ps) (khif : Piece.hif ∈ ps) (kevc : Piece.evc ∈ ps) (ksec : Piece.sec ∈ ps) (ksch : Piece.sch ∈ ps) (kbanks : Piece.banks ∈ ps) (kquads : Piece.quads ∈ ps) (kedges : Piece.edges ∈ ps) (kink : Piece.ink ∈ ps) (kadc : Piece.adc ∈ ps) (kcmps : Piece.cmps ∈ ps) (knibs : Piece.nibs ∈ ps) (ktst : Piece.tst ∈ ps) (kfreeCtr : Piece.freeCtr ∈ ps) :
    FrameOut o ps (execHotReset s) := by
  unfold Sys2Proof.Machine.execHotReset
  dsimp -failIfUnchanged only
  with_reducible repeat' (first | assumption | (intro _) | apply FrameOut.next | exact FrameOut.fault | apply Frame.ite | apply Frame.ite2 | apply Frame.foldl | apply Frame.foldl2 | apply Frame.linkReset | apply h0 | (fail_if_no_progress beta_reduce) | (fail_if_no_progress dsimp only) | split)

theorem Frame.execFunctionLevelReset {o : State} {ps : List Piece} (s : State) (h0 : State.onlyIn o s ps) (kregs : Piece.regs ∈ ps) (khif : Piece.hif ∈ ps) (ksec : Piece.sec ∈ ps) :
    FrameOut o ps (execFunctionLevelReset s) := by
  unfold Sys2Proof.Machine.execFunctionLevelReset
  dsimp -failIfUnchanged only
  with_reducible repeat' (first | assumption | (intro _) | apply FrameOut.next | exact FrameOut.fault | apply Frame.ite | apply Frame.ite2 | apply Frame.foldl | apply Frame.foldl2 | apply Frame.hostReset | apply h0 | (fail_if_no_progress beta_reduce) | (fail_if_no_progress dsimp only) | split)

theorem Frame.execDataLinkDown {o : State} {ps : List Piece} (unacked : Nat) (s : State) (h0 : State.onlyIn o s ps) (kregs : Piece.regs ∈ ps) (ksys : Piece.sys ∈ ps) (khif : Piece.hif ∈ ps) (kevc : Piece.evc ∈ ps) (ksec : Piece.sec ∈ ps) (ksch : Piece.sch ∈ ps) (kbanks : Piece.banks ∈ ps) (kquads : Piece.quads ∈ ps) (kedges : Piece.edges ∈ ps) (kink : Piece.ink ∈ ps) (kadc : Piece.adc ∈ ps) (kcmps : Piece.cmps ∈ ps) (knibs : Piece.nibs ∈ ps) (ktst : Piece.tst ∈ ps) :
    FrameOut o ps (execDataLinkDown unacked s) := by
  unfold Sys2Proof.Machine.execDataLinkDown
  dsimp -failIfUnchanged only
  with_reducible repeat' (first | assumption | (intro _) | apply FrameOut.next | exact FrameOut.fault | apply Frame.ite | apply Frame.ite2 | apply Frame.foldl | apply Frame.foldl2 | apply Frame.linkDown | apply Frame.unacked | apply h0 | (fail_if_no_progress beta_reduce) | (fail_if_no_progress dsimp only) | split)

theorem Frame.execDataLinkUp {o : State} {ps : List Piece} (speed width : Nat) (s : State) (h0 : State.onlyIn o s ps) (khif : Piece.hif ∈ ps) (kevc : Piece.evc ∈ ps) :
    FrameOut o ps (execDataLinkUp speed width s) := by
  unfold Sys2Proof.Machine.execDataLinkUp
  dsimp -failIfUnchanged only
  with_reducible repeat' (first | assumption | (intro _) | apply FrameOut.next | exact FrameOut.fault | apply Frame.ite | apply Frame.ite2 | apply Frame.foldl | apply Frame.foldl2 | apply Frame.flushMessages | apply h0 | simp only [Frame.mk_iff] | apply Frame.with_hif | (fail_if_no_progress beta_reduce) | (fail_if_no_progress dsimp only) | split)

theorem Frame.execBusMasterDisable {o : State} {ps : List Piece} (d3 : Bool) (s : State) (h0 : State.onlyIn o s ps) (kregs : Piece.regs ∈ ps) (khif : Piece.hif ∈ ps) (ksec : Piece.sec ∈ ps) :
    FrameOut o ps (execBusMasterDisable d3 s) := by
  unfold Sys2Proof.Machine.execBusMasterDisable
  dsimp -failIfUnchanged only
  with_reducible repeat' (first | assumption | (intro _) | apply FrameOut.next | exact FrameOut.fault | apply Frame.ite | apply Frame.ite2 | apply Frame.foldl | apply Frame.foldl2 | apply Frame.endPcieSession | apply h0 | simp only [Frame.mk_iff] | apply Frame.with_hif | (fail_if_no_progress beta_reduce) | (fail_if_no_progress dsimp only) | split)

theorem Frame.execBusMasterEnable {o : State} {ps : List Piece} (s : State) (h0 : State.onlyIn o s ps) (khif : Piece.hif ∈ ps) (kevc : Piece.evc ∈ ps) :
    FrameOut o ps (execBusMasterEnable s) := by
  unfold Sys2Proof.Machine.execBusMasterEnable
  dsimp -failIfUnchanged only
  with_reducible repeat' (first | assumption | (intro _) | apply FrameOut.next | exact FrameOut.fault | apply Frame.ite | apply Frame.ite2 | apply Frame.foldl | apply Frame.foldl2 | apply Frame.flushMessages | apply h0 | simp only [Frame.mk_iff] | apply Frame.with_hif | (fail_if_no_progress beta_reduce) | (fail_if_no_progress dsimp only) | split)

theorem Frame.execHostSilence {o : State} {ps : List Piece} (s : State) (h0 : State.onlyIn o s ps) (kregs : Piece.regs ∈ ps) (ksys : Piece.sys ∈ ps) (khif : Piece.hif ∈ ps) (kevc : Piece.evc ∈ ps) (ksch : Piece.sch ∈ ps) (kbanks : Piece.banks ∈ ps) (kquads : Piece.quads ∈ ps) (kedges : Piece.edges ∈ ps) (kink : Piece.ink ∈ ps) (kadc : Piece.adc ∈ ps) (kcmps : Piece.cmps ∈ ps) (knibs : Piece.nibs ∈ ps) (ktst : Piece.tst ∈ ps) :
    FrameOut o ps (execHostSilence s) := by
  unfold Sys2Proof.Machine.execHostSilence
  dsimp -failIfUnchanged only
  with_reducible repeat' (first | assumption | (intro _) | apply FrameOut.next | exact FrameOut.fault | apply Frame.ite | apply Frame.ite2 | apply Frame.foldl | apply Frame.foldl2 | apply Frame.fallbackCause | apply h0 | simp only [Frame.mk_iff] | apply Frame.with_hif | (fail_if_no_progress beta_reduce) | (fail_if_no_progress dsimp only) | split)

theorem Frame.execHifHeartbeat {o : State} {ps : List Piece} (p : Port) (_v : Word) (s : State) (h0 : State.onlyIn o s ps) (kregs : Piece.regs ∈ ps) (khif : Piece.hif ∈ ps) (ksec : Piece.sec ∈ ps) :
    FrameOut o ps (execHifHeartbeat p _v s) := by
  unfold Sys2Proof.Machine.execHifHeartbeat
  dsimp -failIfUnchanged only
  with_reducible repeat' (first | assumption | (intro _) | apply FrameOut.next | exact FrameOut.fault | apply Frame.ite | apply Frame.ite2 | apply Frame.foldl | apply Frame.foldl2 | apply Frame.heartbeat | apply h0 | (fail_if_no_progress beta_reduce) | (fail_if_no_progress dsimp only) | split)

theorem Frame.execDmaFailure {o : State} {ps : List Piece} (ring cause : Nat) (s : State) (h0 : State.onlyIn o s ps) (kregs : Piece.regs ∈ ps) (khif : Piece.hif ∈ ps) :
    FrameOut o ps (execDmaFailure ring cause s) := by
  unfold Sys2Proof.Machine.execDmaFailure
  dsimp -failIfUnchanged only
  with_reducible repeat' (first | assumption | (intro _) | apply FrameOut.next | exact FrameOut.fault | apply Frame.ite | apply Frame.ite2 | apply Frame.foldl | apply Frame.foldl2 | apply Frame.dmaFail | apply h0 | (fail_if_no_progress beta_reduce) | (fail_if_no_progress dsimp only) | split)

theorem Frame.execMsixUnmask {o : State} {ps : List Piece} (v : Nat) (s : State) (h0 : State.onlyIn o s ps) (kregs : Piece.regs ∈ ps) (khif : Piece.hif ∈ ps) (kevc : Piece.evc ∈ ps) :
    FrameOut o ps (execMsixUnmask v s) := by
  unfold Sys2Proof.Machine.execMsixUnmask
  dsimp -failIfUnchanged only
  with_reducible repeat' (first | assumption | (intro _) | apply FrameOut.next | exact FrameOut.fault | apply Frame.ite | apply Frame.ite2 | apply Frame.foldl | apply Frame.foldl2 | apply Frame.unmask | apply h0 | (fail_if_no_progress beta_reduce) | (fail_if_no_progress dsimp only) | split)

theorem Frame.execMsixEnable {o : State} {ps : List Piece} (s : State) (h0 : State.onlyIn o s ps) (khif : Piece.hif ∈ ps) (kevc : Piece.evc ∈ ps) :
    FrameOut o ps (execMsixEnable s) := by
  unfold Sys2Proof.Machine.execMsixEnable
  dsimp -failIfUnchanged only
  with_reducible repeat' (first | assumption | (intro _) | apply FrameOut.next | exact FrameOut.fault | apply Frame.ite | apply Frame.ite2 | apply Frame.foldl | apply Frame.foldl2 | apply Frame.flushMessages | apply h0 | simp only [Frame.mk_iff] | apply Frame.with_hif | (fail_if_no_progress beta_reduce) | (fail_if_no_progress dsimp only) | split)

/-! Nib -/

theorem Frame.execStroke {o : State} {ps : List Piece} (n : Nat) (inputs : List Bool) (s : State) (h0 : State.onlyIn o s ps) (kregs : Piece.regs ∈ ps) (kevc : Piece.evc ∈ ps) (kink : Piece.ink ∈ ps) (knibs : Piece.nibs ∈ ps) :
    FrameOut o ps (execStroke n inputs s) := by
  unfold Sys2Proof.Machine.execStroke
  dsimp -failIfUnchanged only
  with_reducible repeat' (first | assumption | (intro _) | apply FrameOut.next | exact FrameOut.fault | apply Frame.ite | apply Frame.ite2 | apply Frame.foldl | apply Frame.foldl2 | apply Frame.cycleStart | apply Frame.strokeNow | apply h0 | (fail_if_no_progress beta_reduce) | (fail_if_no_progress dsimp only) | split)

theorem Frame.execNibStart {o : State} {ps : List Piece} (p : Port) (n : Nat) (v : Word) (s : State) (h0 : State.onlyIn o s ps) (kregs : Piece.regs ∈ ps) (khif : Piece.hif ∈ ps) (ksec : Piece.sec ∈ ps) (knibs : Piece.nibs ∈ ps) :
    FrameOut o ps (execNibStart p n v s) := by
  unfold Sys2Proof.Machine.execNibStart
  dsimp -failIfUnchanged only
  with_reducible repeat' (first | assumption | (intro _) | apply FrameOut.next | exact FrameOut.fault | apply Frame.ite | apply Frame.ite2 | apply Frame.foldl | apply Frame.foldl2 | apply Frame.nibWrite | apply h0 | (fail_if_no_progress beta_reduce) | (fail_if_no_progress dsimp only) | split)

theorem Frame.execNibStop {o : State} {ps : List Piece} (p : Port) (n : Nat) (v : Word) (s : State) (h0 : State.onlyIn o s ps) (kregs : Piece.regs ∈ ps) (khif : Piece.hif ∈ ps) (ksec : Piece.sec ∈ ps) (knibs : Piece.nibs ∈ ps) :
    FrameOut o ps (execNibStop p n v s) := by
  unfold Sys2Proof.Machine.execNibStop
  dsimp -failIfUnchanged only
  with_reducible repeat' (first | assumption | (intro _) | apply FrameOut.next | exact FrameOut.fault | apply Frame.ite | apply Frame.ite2 | apply Frame.foldl | apply Frame.foldl2 | apply Frame.nibWrite | apply h0 | (fail_if_no_progress beta_reduce) | (fail_if_no_progress dsimp only) | split)

theorem Frame.execNibResume {o : State} {ps : List Piece} (p : Port) (n : Nat) (v : Word) (s : State) (h0 : State.onlyIn o s ps) (kregs : Piece.regs ∈ ps) (khif : Piece.hif ∈ ps) (ksec : Piece.sec ∈ ps) (knibs : Piece.nibs ∈ ps) :
    FrameOut o ps (execNibResume p n v s) := by
  unfold Sys2Proof.Machine.execNibResume
  dsimp -failIfUnchanged only
  with_reducible repeat' (first | assumption | (intro _) | apply FrameOut.next | exact FrameOut.fault | apply Frame.ite | apply Frame.ite2 | apply Frame.foldl | apply Frame.foldl2 | apply Frame.nibWrite | apply h0 | (fail_if_no_progress beta_reduce) | (fail_if_no_progress dsimp only) | split)

theorem Frame.execNibFlush {o : State} {ps : List Piece} (p : Port) (n : Nat) (v : Word) (s : State) (h0 : State.onlyIn o s ps) (kregs : Piece.regs ∈ ps) (khif : Piece.hif ∈ ps) (ksec : Piece.sec ∈ ps) (knibs : Piece.nibs ∈ ps) :
    FrameOut o ps (execNibFlush p n v s) := by
  unfold Sys2Proof.Machine.execNibFlush
  dsimp -failIfUnchanged only
  with_reducible repeat' (first | assumption | (intro _) | apply FrameOut.next | exact FrameOut.fault | apply Frame.ite | apply Frame.ite2 | apply Frame.foldl | apply Frame.foldl2 | apply Frame.nibWrite | apply h0 | (fail_if_no_progress beta_reduce) | (fail_if_no_progress dsimp only) | split)

theorem Frame.execNibTxWrite {o : State} {ps : List Piece} (p : Port) (n : Nat) (v : Word) (s : State) (h0 : State.onlyIn o s ps) (kregs : Piece.regs ∈ ps) (khif : Piece.hif ∈ ps) (ksec : Piece.sec ∈ ps) (knibs : Piece.nibs ∈ ps) :
    FrameOut o ps (execNibTxWrite p n v s) := by
  unfold Sys2Proof.Machine.execNibTxWrite
  dsimp -failIfUnchanged only
  with_reducible repeat' (first | assumption | (intro _) | apply FrameOut.next | exact FrameOut.fault | apply Frame.ite | apply Frame.ite2 | apply Frame.foldl | apply Frame.foldl2 | apply Frame.txWrite | apply h0 | (fail_if_no_progress beta_reduce) | (fail_if_no_progress dsimp only) | split)

theorem Frame.execNibRxRead {o : State} {ps : List Piece} (p : Port) (n : Nat) (s : State) (h0 : State.onlyIn o s ps) (kregs : Piece.regs ∈ ps) (ksec : Piece.sec ∈ ps) (knibs : Piece.nibs ∈ ps) (kans : Piece.ans ∈ ps) :
    FrameOut o ps (execNibRxRead p n s) := by
  unfold Sys2Proof.Machine.execNibRxRead
  dsimp -failIfUnchanged only
  with_reducible repeat' (first | assumption | (intro _) | apply FrameOut.next | exact FrameOut.fault | apply Frame.ite | apply Frame.ite2 | apply Frame.foldl | apply Frame.foldl2 | apply Frame.rxRead | apply h0 | (fail_if_no_progress beta_reduce) | (fail_if_no_progress dsimp only) | split)

theorem Frame.execStrokeWrite {o : State} {ps : List Piece} (p : Port) (n : Nat) (v : Word) (s : State) (h0 : State.onlyIn o s ps) (kregs : Piece.regs ∈ ps) (khif : Piece.hif ∈ ps) (ksec : Piece.sec ∈ ps) :
    FrameOut o ps (execStrokeWrite p n v s) := by
  unfold Sys2Proof.Machine.execStrokeWrite
  dsimp -failIfUnchanged only
  with_reducible repeat' (first | assumption | (intro _) | apply FrameOut.next | exact FrameOut.fault | apply Frame.ite | apply Frame.ite2 | apply Frame.foldl | apply Frame.foldl2 | apply Frame.onWrite | apply Frame.strokeHi | apply h0 | (fail_if_no_progress beta_reduce) | (fail_if_no_progress dsimp only) | split)

theorem Frame.execStrokeReadLatch {o : State} {ps : List Piece} (p : Port) (n : Nat) (s : State) (h0 : State.onlyIn o s ps) (ksec : Piece.sec ∈ ps) (knibs : Piece.nibs ∈ ps) (kans : Piece.ans ∈ ps) :
    FrameOut o ps (execStrokeReadLatch p n s) := by
  unfold Sys2Proof.Machine.execStrokeReadLatch
  dsimp -failIfUnchanged only
  with_reducible repeat' (first | assumption | (intro _) | apply FrameOut.next | exact FrameOut.fault | apply Frame.ite | apply Frame.ite2 | apply Frame.foldl | apply Frame.foldl2 | apply Frame.strokeRead | apply h0 | (fail_if_no_progress beta_reduce) | (fail_if_no_progress dsimp only) | split)

theorem Frame.execMarginWrite {o : State} {ps : List Piece} (p : Port) (n : Nat) (v : Word) (s : State) (h0 : State.onlyIn o s ps) (kregs : Piece.regs ∈ ps) (khif : Piece.hif ∈ ps) (ksec : Piece.sec ∈ ps) (knibs : Piece.nibs ∈ ps) :
    FrameOut o ps (execMarginWrite p n v s) := by
  unfold Sys2Proof.Machine.execMarginWrite
  dsimp -failIfUnchanged only
  with_reducible repeat' (first | assumption | (intro _) | apply FrameOut.next | exact FrameOut.fault | apply Frame.ite | apply Frame.ite2 | apply Frame.foldl | apply Frame.foldl2 | apply Frame.onWrite | apply Frame.marginSet | apply h0 | (fail_if_no_progress beta_reduce) | (fail_if_no_progress dsimp only) | split)

/-! Whl -/

theorem Frame.execCrankEdge {o : State} {ps : List Piece} (stamp : CrankStamp) (width peak : Nat) (s : State) (h0 : State.onlyIn o s ps) (kregs : Piece.regs ∈ ps) (ksys : Piece.sys ∈ ps) (khif : Piece.hif ∈ ps) (kevc : Piece.evc ∈ ps) (kwhl : Piece.whl ∈ ps) (kang : Piece.ang ∈ ps) (ksch : Piece.sch ∈ ps) (kbanks : Piece.banks ∈ ps) (kquads : Piece.quads ∈ ps) (kedges : Piece.edges ∈ ps) (kink : Piece.ink ∈ ps) (kadc : Piece.adc ∈ ps) (kcmps : Piece.cmps ∈ ps) (ktmrs : Piece.tmrs ∈ ps) (knibs : Piece.nibs ∈ ps) (ktst : Piece.tst ∈ ps) :
    FrameOut o ps (execCrankEdge stamp width peak s) := by
  unfold Sys2Proof.Machine.execCrankEdge
  dsimp -failIfUnchanged only
  with_reducible repeat' (first | assumption | (intro _) | apply FrameOut.next | exact FrameOut.fault | apply Frame.ite | apply Frame.ite2 | apply Frame.foldl | apply Frame.foldl2 | apply Frame.crank | apply h0 | simp only [Frame.mk_iff] | apply Frame.with_sys | (fail_if_no_progress beta_reduce) | (fail_if_no_progress dsimp only) | split)

theorem Frame.execCoarseEdge {o : State} {ps : List Piece} (s : State) (h0 : State.onlyIn o s ps) (kregs : Piece.regs ∈ ps) (khif : Piece.hif ∈ ps) (kwhl : Piece.whl ∈ ps) :
    FrameOut o ps (execCoarseEdge s) := by
  unfold Sys2Proof.Machine.execCoarseEdge
  dsimp -failIfUnchanged only
  with_reducible repeat' (first | assumption | (intro _) | apply FrameOut.next | exact FrameOut.fault | apply Frame.ite | apply Frame.ite2 | apply Frame.foldl | apply Frame.foldl2 | apply Frame.coarse | apply h0 | (fail_if_no_progress beta_reduce) | (fail_if_no_progress dsimp only) | split)

theorem Frame.execCamEdge {o : State} {ps : List Piece} (n : Nat) (falling : Bool) (stamp : Tb) (width peak : Nat) (s : State) (h0 : State.onlyIn o s ps) (kregs : Piece.regs ∈ ps) (ksys : Piece.sys ∈ ps) (khif : Piece.hif ∈ ps) (kevc : Piece.evc ∈ ps) (kwhl : Piece.whl ∈ ps) (kang : Piece.ang ∈ ps) (ksch : Piece.sch ∈ ps) (kbanks : Piece.banks ∈ ps) (kquads : Piece.quads ∈ ps) (kedges : Piece.edges ∈ ps) (kink : Piece.ink ∈ ps) (kadc : Piece.adc ∈ ps) (kcmps : Piece.cmps ∈ ps) (knibs : Piece.nibs ∈ ps) (ktst : Piece.tst ∈ ps) :
    FrameOut o ps (execCamEdge n falling stamp width peak s) := by
  unfold Sys2Proof.Machine.execCamEdge
  dsimp -failIfUnchanged only
  with_reducible repeat' (first | assumption | (intro _) | apply FrameOut.next | exact FrameOut.fault | apply Frame.ite | apply Frame.ite2 | apply Frame.foldl | apply Frame.foldl2 | apply Frame.cam | apply h0 | (fail_if_no_progress beta_reduce) | (fail_if_no_progress dsimp only) | split)

theorem Frame.execStall {o : State} {ps : List Piece} (s : State) (h0 : State.onlyIn o s ps) (kregs : Piece.regs ∈ ps) (ksys : Piece.sys ∈ ps) (khif : Piece.hif ∈ ps) (kevc : Piece.evc ∈ ps) (kwhl : Piece.whl ∈ ps) (kang : Piece.ang ∈ ps) (ksch : Piece.sch ∈ ps) (kbanks : Piece.banks ∈ ps) (kquads : Piece.quads ∈ ps) (kedges : Piece.edges ∈ ps) (kink : Piece.ink ∈ ps) (kadc : Piece.adc ∈ ps) (kcmps : Piece.cmps ∈ ps) (ktmrs : Piece.tmrs ∈ ps) (knibs : Piece.nibs ∈ ps) (ktst : Piece.tst ∈ ps) (kslur : Piece.slur ∈ ps) :
    FrameOut o ps (execStall s) := by
  unfold Sys2Proof.Machine.execStall
  dsimp -failIfUnchanged only
  with_reducible repeat' (first | assumption | (intro _) | apply FrameOut.next | exact FrameOut.fault | apply Frame.ite | apply Frame.ite2 | apply Frame.foldl | apply Frame.foldl2 | apply Frame.doStall | apply Frame.armedIf | apply h0 | (fail_if_no_progress beta_reduce) | (fail_if_no_progress dsimp only) | split)

theorem Frame.execSyncReset {o : State} {ps : List Piece} (p : Port) (v : Word) (s : State) (h0 : State.onlyIn o s ps) (kregs : Piece.regs ∈ ps) (ksys : Piece.sys ∈ ps) (khif : Piece.hif ∈ ps) (kevc : Piece.evc ∈ ps) (ksec : Piece.sec ∈ ps) (kwhl : Piece.whl ∈ ps) (kang : Piece.ang ∈ ps) (ksch : Piece.sch ∈ ps) (kbanks : Piece.banks ∈ ps) (kquads : Piece.quads ∈ ps) (kedges : Piece.edges ∈ ps) (kink : Piece.ink ∈ ps) (kadc : Piece.adc ∈ ps) (kcmps : Piece.cmps ∈ ps) (knibs : Piece.nibs ∈ ps) (ktst : Piece.tst ∈ ps) :
    FrameOut o ps (execSyncReset p v s) := by
  unfold Sys2Proof.Machine.execSyncReset
  dsimp -failIfUnchanged only
  with_reducible repeat' (first | assumption | (intro _) | apply FrameOut.next | exact FrameOut.fault | apply Frame.ite | apply Frame.ite2 | apply Frame.foldl | apply Frame.foldl2 | apply Frame.syncResetWrite | apply h0 | (fail_if_no_progress beta_reduce) | (fail_if_no_progress dsimp only) | split)

theorem Frame.execClockClamp {o : State} {ps : List Piece} (s : State) (h0 : State.onlyIn o s ps) (kregs : Piece.regs ∈ ps) (kang : Piece.ang ∈ ps) :
    FrameOut o ps (execClockClamp s) := by
  unfold Sys2Proof.Machine.execClockClamp
  dsimp -failIfUnchanged only
  with_reducible repeat' (first | assumption | (intro _) | apply FrameOut.next | exact FrameOut.fault | apply Frame.ite | apply Frame.ite2 | apply Frame.foldl | apply Frame.foldl2 | apply Frame.count | apply h0 | simp only [Frame.mk_iff] | apply Frame.with_ang | (fail_if_no_progress beta_reduce) | (fail_if_no_progress dsimp only) | split)

theorem Frame.execCycleWrap {o : State} {ps : List Piece} (s : State) (h0 : State.onlyIn o s ps) (kregs : Piece.regs ∈ ps) (ksys : Piece.sys ∈ ps) (khif : Piece.hif ∈ ps) (kevc : Piece.evc ∈ ps) (kwhl : Piece.whl ∈ ps) (kang : Piece.ang ∈ ps) (ksch : Piece.sch ∈ ps) (kbanks : Piece.banks ∈ ps) (kquads : Piece.quads ∈ ps) (kedges : Piece.edges ∈ ps) (kink : Piece.ink ∈ ps) (kadc : Piece.adc ∈ ps) (kcmps : Piece.cmps ∈ ps) (ktmrs : Piece.tmrs ∈ ps) (knibs : Piece.nibs ∈ ps) (ktst : Piece.tst ∈ ps) :
    FrameOut o ps (execCycleWrap s) := by
  unfold Sys2Proof.Machine.execCycleWrap
  dsimp -failIfUnchanged only
  with_reducible repeat' (first | assumption | (intro _) | apply FrameOut.next | exact FrameOut.fault | apply Frame.ite | apply Frame.ite2 | apply Frame.foldl | apply Frame.foldl2 | apply Frame.moveClock | apply h0 | (fail_if_no_progress beta_reduce) | (fail_if_no_progress dsimp only) | split)

theorem Frame.execTerrDataAccess {o : State} {ps : List Piece} (p : Port) (w : Option Word) (s : State) (h0 : State.onlyIn o s ps) (kregs : Piece.regs ∈ ps) (khif : Piece.hif ∈ ps) (ksec : Piece.sec ∈ ps) (kans : Piece.ans ∈ ps) :
    FrameOut o ps (execTerrDataAccess p w s) := by
  unfold Sys2Proof.Machine.execTerrDataAccess
  dsimp -failIfUnchanged only
  with_reducible repeat' (first | assumption | (intro _) | apply FrameOut.next | exact FrameOut.fault | apply Frame.ite | apply Frame.ite2 | apply Frame.foldl | apply Frame.foldl2 | apply Frame.onRead | apply Frame.terrAccess | apply Frame.onWrite | apply h0 | (fail_if_no_progress beta_reduce) | (fail_if_no_progress dsimp only) | split)

theorem Frame.execClearTerr {o : State} {ps : List Piece} (p : Port) (v : Word) (s : State) (h0 : State.onlyIn o s ps) (kregs : Piece.regs ∈ ps) (khif : Piece.hif ∈ ps) (ksec : Piece.sec ∈ ps) (kang : Piece.ang ∈ ps) :
    FrameOut o ps (execClearTerr p v s) := by
  unfold Sys2Proof.Machine.execClearTerr
  dsimp -failIfUnchanged only
  with_reducible repeat' (first | assumption | (intro _) | apply FrameOut.next | exact FrameOut.fault | apply Frame.ite | apply Frame.ite2 | apply Frame.foldl | apply Frame.foldl2 | apply Frame.aclkWrite | apply h0 | (fail_if_no_progress beta_reduce) | (fail_if_no_progress dsimp only) | split)

theorem Frame.execClearTors {o : State} {ps : List Piece} (p : Port) (v : Word) (s : State) (h0 : State.onlyIn o s ps) (kregs : Piece.regs ∈ ps) (khif : Piece.hif ∈ ps) (ksec : Piece.sec ∈ ps) (kang : Piece.ang ∈ ps) :
    FrameOut o ps (execClearTors p v s) := by
  unfold Sys2Proof.Machine.execClearTors
  dsimp -failIfUnchanged only
  with_reducible repeat' (first | assumption | (intro _) | apply FrameOut.next | exact FrameOut.fault | apply Frame.ite | apply Frame.ite2 | apply Frame.foldl | apply Frame.foldl2 | apply Frame.aclkWrite | apply h0 | (fail_if_no_progress beta_reduce) | (fail_if_no_progress dsimp only) | split)

theorem Frame.execErrRestart {o : State} {ps : List Piece} (p : Port) (v : Word) (s : State) (h0 : State.onlyIn o s ps) (kregs : Piece.regs ∈ ps) (khif : Piece.hif ∈ ps) (ksec : Piece.sec ∈ ps) (kang : Piece.ang ∈ ps) :
    FrameOut o ps (execErrRestart p v s) := by
  unfold Sys2Proof.Machine.execErrRestart
  dsimp -failIfUnchanged only
  with_reducible repeat' (first | assumption | (intro _) | apply FrameOut.next | exact FrameOut.fault | apply Frame.ite | apply Frame.ite2 | apply Frame.foldl | apply Frame.foldl2 | apply Frame.aclkWrite | apply h0 | (fail_if_no_progress beta_reduce) | (fail_if_no_progress dsimp only) | split)

theorem Frame.execAngleReadLatch {o : State} {ps : List Piece} (p : Port) (s : State) (h0 : State.onlyIn o s ps) (ksec : Piece.sec ∈ ps) (kang : Piece.ang ∈ ps) (kans : Piece.ans ∈ ps) :
    FrameOut o ps (execAngleReadLatch p s) := by
  unfold Sys2Proof.Machine.execAngleReadLatch
  dsimp -failIfUnchanged only
  with_reducible repeat' (first | assumption | (intro _) | apply FrameOut.next | exact FrameOut.fault | apply Frame.ite | apply Frame.ite2 | apply Frame.foldl | apply Frame.foldl2 | apply Frame.angleRead | apply h0 | (fail_if_no_progress beta_reduce) | (fail_if_no_progress dsimp only) | split)

theorem Frame.execStampReadLatch {o : State} {ps : List Piece} (p : Port) (s : State) (h0 : State.onlyIn o s ps) (ksec : Piece.sec ∈ ps) (kwhl : Piece.whl ∈ ps) (kans : Piece.ans ∈ ps) :
    FrameOut o ps (execStampReadLatch p s) := by
  unfold Sys2Proof.Machine.execStampReadLatch
  dsimp -failIfUnchanged only
  with_reducible repeat' (first | assumption | (intro _) | apply FrameOut.next | exact FrameOut.fault | apply Frame.ite | apply Frame.ite2 | apply Frame.foldl | apply Frame.foldl2 | apply Frame.stampRead | apply h0 | (fail_if_no_progress beta_reduce) | (fail_if_no_progress dsimp only) | split)

/-! Slur -/

theorem Frame.execAngleFrameLaunch {o : State} {ps : List Piece} (s : State) (h0 : State.onlyIn o s ps) (kslur : Piece.slur ∈ ps) :
    FrameOut o ps (execAngleFrameLaunch s) := by
  unfold Sys2Proof.Machine.execAngleFrameLaunch
  dsimp -failIfUnchanged only
  with_reducible repeat' (first | assumption | (intro _) | apply FrameOut.next | exact FrameOut.fault | apply Frame.ite | apply Frame.ite2 | apply Frame.foldl | apply Frame.foldl2 | apply h0 | simp only [Frame.mk_iff] | apply Frame.with_slur | (fail_if_no_progress beta_reduce) | (fail_if_no_progress dsimp only) | split)

theorem Frame.execAngleFrameReceive {o : State} {ps : List Piece} (f : AngleFrame) (s : State) (h0 : State.onlyIn o s ps) (kregs : Piece.regs ∈ ps) (ksys : Piece.sys ∈ ps) (khif : Piece.hif ∈ ps) (kevc : Piece.evc ∈ ps) (kwhl : Piece.whl ∈ ps) (kang : Piece.ang ∈ ps) (ksch : Piece.sch ∈ ps) (kbanks : Piece.banks ∈ ps) (kquads : Piece.quads ∈ ps) (kedges : Piece.edges ∈ ps) (kink : Piece.ink ∈ ps) (kadc : Piece.adc ∈ ps) (kcmps : Piece.cmps ∈ ps) (ktmrs : Piece.tmrs ∈ ps) (knibs : Piece.nibs ∈ ps) (ktst : Piece.tst ∈ ps) (kslur : Piece.slur ∈ ps) (kfreeCtr : Piece.freeCtr ∈ ps) :
    FrameOut o ps (execAngleFrameReceive f s) := by
  unfold Sys2Proof.Machine.execAngleFrameReceive
  dsimp -failIfUnchanged only
  with_reducible repeat' (first | assumption | (intro _) | apply FrameOut.next | exact FrameOut.fault | apply Frame.ite | apply Frame.ite2 | apply Frame.foldl | apply Frame.foldl2 | apply Frame.count | apply Frame.frameIn | apply h0 | (fail_if_no_progress beta_reduce) | (fail_if_no_progress dsimp only) | split)

theorem Frame.execSlurLinkLoss {o : State} {ps : List Piece} (s : State) (h0 : State.onlyIn o s ps) (kregs : Piece.regs ∈ ps) (ksys : Piece.sys ∈ ps) (khif : Piece.hif ∈ ps) (kevc : Piece.evc ∈ ps) (kwhl : Piece.whl ∈ ps) (kang : Piece.ang ∈ ps) (ksch : Piece.sch ∈ ps) (kbanks : Piece.banks ∈ ps) (kquads : Piece.quads ∈ ps) (kedges : Piece.edges ∈ ps) (kink : Piece.ink ∈ ps) (kadc : Piece.adc ∈ ps) (kcmps : Piece.cmps ∈ ps) (knibs : Piece.nibs ∈ ps) (ktst : Piece.tst ∈ ps) (kslur : Piece.slur ∈ ps) (kfreeCtr : Piece.freeCtr ∈ ps) :
    FrameOut o ps (execSlurLinkLoss s) := by
  unfold Sys2Proof.Machine.execSlurLinkLoss
  dsimp -failIfUnchanged only
  with_reducible repeat' (first | assumption | (intro _) | apply FrameOut.next | exact FrameOut.fault | apply Frame.ite | apply Frame.ite2 | apply Frame.foldl | apply Frame.foldl2 | apply Frame.slurLost | apply h0 | (fail_if_no_progress beta_reduce) | (fail_if_no_progress dsimp only) | split)

theorem Frame.execRetrain {o : State} {ps : List Piece} (p : Port) (v : Word) (s : State) (h0 : State.onlyIn o s ps) (kregs : Piece.regs ∈ ps) (ksys : Piece.sys ∈ ps) (khif : Piece.hif ∈ ps) (kevc : Piece.evc ∈ ps) (ksec : Piece.sec ∈ ps) (kwhl : Piece.whl ∈ ps) (kang : Piece.ang ∈ ps) (ksch : Piece.sch ∈ ps) (kbanks : Piece.banks ∈ ps) (kquads : Piece.quads ∈ ps) (kedges : Piece.edges ∈ ps) (kink : Piece.ink ∈ ps) (kadc : Piece.adc ∈ ps) (kcmps : Piece.cmps ∈ ps) (knibs : Piece.nibs ∈ ps) (ktst : Piece.tst ∈ ps) (kslur : Piece.slur ∈ ps) (kfreeCtr : Piece.freeCtr ∈ ps) :
    FrameOut o ps (execRetrain p v s) := by
  unfold Sys2Proof.Machine.execRetrain
  dsimp -failIfUnchanged only
  with_reducible repeat' (first | assumption | (intro _) | apply FrameOut.next | exact FrameOut.fault | apply Frame.ite | apply Frame.ite2 | apply Frame.foldl | apply Frame.foldl2 | apply Frame.retrainWrite | apply h0 | (fail_if_no_progress beta_reduce) | (fail_if_no_progress dsimp only) | split)

theorem Frame.execSlurRetry {o : State} {ps : List Piece} (s : State) (h0 : State.onlyIn o s ps) (kevc : Piece.evc ∈ ps) (kslur : Piece.slur ∈ ps) :
    FrameOut o ps (execSlurRetry s) := by
  unfold Sys2Proof.Machine.execSlurRetry
  dsimp -failIfUnchanged only
  with_reducible repeat' (first | assumption | (intro _) | apply FrameOut.next | exact FrameOut.fault | apply Frame.ite | apply Frame.ite2 | apply Frame.foldl | apply Frame.foldl2 | apply Frame.beginTraining | apply h0 | (fail_if_no_progress beta_reduce) | (fail_if_no_progress dsimp only) | split)

theorem Frame.execSlurLossTimeout {o : State} {ps : List Piece} (s : State) (h0 : State.onlyIn o s ps) (kregs : Piece.regs ∈ ps) (ksys : Piece.sys ∈ ps) (khif : Piece.hif ∈ ps) (kevc : Piece.evc ∈ ps) (kwhl : Piece.whl ∈ ps) (kang : Piece.ang ∈ ps) (ksch : Piece.sch ∈ ps) (kbanks : Piece.banks ∈ ps) (kquads : Piece.quads ∈ ps) (kedges : Piece.edges ∈ ps) (kink : Piece.ink ∈ ps) (kadc : Piece.adc ∈ ps) (kcmps : Piece.cmps ∈ ps) (ktmrs : Piece.tmrs ∈ ps) (knibs : Piece.nibs ∈ ps) (ktst : Piece.tst ∈ ps) (kslur : Piece.slur ∈ ps) :
    FrameOut o ps (execSlurLossTimeout s) := by
  unfold Sys2Proof.Machine.execSlurLossTimeout
  dsimp -failIfUnchanged only
  with_reducible repeat' (first | assumption | (intro _) | apply FrameOut.next | exact FrameOut.fault | apply Frame.ite | apply Frame.ite2 | apply Frame.foldl | apply Frame.foldl2 | apply Frame.slurStall | apply Frame.armedIf | apply h0 | (fail_if_no_progress beta_reduce) | (fail_if_no_progress dsimp only) | split)

theorem Frame.execUpstreamStatusLoss {o : State} {ps : List Piece} (s : State) (h0 : State.onlyIn o s ps) (kslur : Piece.slur ∈ ps) :
    FrameOut o ps (execUpstreamStatusLoss s) := by
  unfold Sys2Proof.Machine.execUpstreamStatusLoss
  dsimp -failIfUnchanged only
  with_reducible repeat' (first | assumption | (intro _) | apply FrameOut.next | exact FrameOut.fault | apply Frame.ite | apply Frame.ite2 | apply Frame.foldl | apply Frame.foldl2 | apply h0 | simp only [Frame.mk_iff] | apply Frame.with_slur | (fail_if_no_progress beta_reduce) | (fail_if_no_progress dsimp only) | split)

theorem Frame.execTrainingStepDone {o : State} {ps : List Piece} (s : State) (h0 : State.onlyIn o s ps) (kclk : Piece.clk ∈ ps) (kregs : Piece.regs ∈ ps) (kevc : Piece.evc ∈ ps) (kslur : Piece.slur ∈ ps) (kfreeCtr : Piece.freeCtr ∈ ps) :
    FrameOut o ps (execTrainingStepDone s) := by
  unfold Sys2Proof.Machine.execTrainingStepDone
  dsimp -failIfUnchanged only
  with_reducible repeat' (first | assumption | (intro _) | apply FrameOut.next | exact FrameOut.fault | apply Frame.ite | apply Frame.ite2 | apply Frame.foldl | apply Frame.foldl2 | apply Frame.trainStep | apply h0 | (fail_if_no_progress beta_reduce) | (fail_if_no_progress dsimp only) | split)

theorem Frame.execTrainingFrameReceive {o : State} {ps : List Piece} (f : TrainFrame) (arrival : Tb) (s : State) (h0 : State.onlyIn o s ps) (kregs : Piece.regs ∈ ps) (kevc : Piece.evc ∈ ps) (kslur : Piece.slur ∈ ps) :
    FrameOut o ps (execTrainingFrameReceive f arrival s) := by
  unfold Sys2Proof.Machine.execTrainingFrameReceive
  dsimp -failIfUnchanged only
  with_reducible repeat' (first | assumption | (intro _) | apply FrameOut.next | exact FrameOut.fault | apply Frame.ite | apply Frame.ite2 | apply Frame.foldl | apply Frame.foldl2 | apply Frame.count | apply Frame.trainIn | apply h0 | (fail_if_no_progress beta_reduce) | (fail_if_no_progress dsimp only) | split)

theorem Frame.execTrainingEcho {o : State} {ps : List Piece} (rt : Option Nat) (s : State) (h0 : State.onlyIn o s ps) (kregs : Piece.regs ∈ ps) (kslur : Piece.slur ∈ ps) (kfreeCtr : Piece.freeCtr ∈ ps) :
    FrameOut o ps (execTrainingEcho rt s) := by
  unfold Sys2Proof.Machine.execTrainingEcho
  dsimp -failIfUnchanged only
  with_reducible repeat' (first | assumption | (intro _) | apply FrameOut.next | exact FrameOut.fault | apply Frame.ite | apply Frame.ite2 | apply Frame.foldl | apply Frame.foldl2 | apply Frame.echo | apply Frame.relaunch | apply h0 | (fail_if_no_progress beta_reduce) | (fail_if_no_progress dsimp only) | split)

theorem Frame.execTrainingTimeout {o : State} {ps : List Piece} (s : State) (h0 : State.onlyIn o s ps) (kregs : Piece.regs ∈ ps) (khif : Piece.hif ∈ ps) (kslur : Piece.slur ∈ ps) :
    FrameOut o ps (execTrainingTimeout s) := by
  unfold Sys2Proof.Machine.execTrainingTimeout
  dsimp -failIfUnchanged only
  with_reducible repeat' (first | assumption | (intro _) | apply FrameOut.next | exact FrameOut.fault | apply Frame.ite | apply Frame.ite2 | apply Frame.foldl | apply Frame.foldl2 | apply Frame.trainFail | apply h0 | (fail_if_no_progress beta_reduce) | (fail_if_no_progress dsimp only) | split)

theorem Frame.execTimeBaseSlew {o : State} {ps : List Piece} (diff : Int) (s : State) (h0 : State.onlyIn o s ps) (kclk : Piece.clk ∈ ps) (kslur : Piece.slur ∈ ps) :
    FrameOut o ps (execTimeBaseSlew diff s) := by
  unfold Sys2Proof.Machine.execTimeBaseSlew
  dsimp -failIfUnchanged only
  with_reducible repeat' (first | assumption | (intro _) | apply FrameOut.next | exact FrameOut.fault | apply Frame.ite | apply Frame.ite2 | apply Frame.foldl | apply Frame.foldl2 | apply h0 | simp only [Frame.mk_iff] | apply Frame.with_clk | apply Frame.with_slur | apply Frame.parts | (exact Or.inl ‹_›) | apply Frame.part_part | apply Frame.part_clk | apply Frame.part_regs | apply Frame.part_sys | apply Frame.part_hif | apply Frame.part_evc | apply Frame.part_sec | apply Frame.part_whl | apply Frame.part_ang | apply Frame.part_sch | apply Frame.part_banks | apply Frame.part_quads | apply Frame.part_edges | apply Frame.part_ink | apply Frame.part_grds | apply Frame.part_adc | apply Frame.part_cmps | apply Frame.part_tmrs | apply Frame.part_nibs | apply Frame.part_tst | apply Frame.part_slur | apply Frame.part_jtag | apply Frame.part_ans | apply Frame.part_freeCtr | apply Frame.part_pending | (fail_if_no_progress beta_reduce) | (fail_if_no_progress dsimp only) | split)

/-! Sorter -/

theorem Frame.execNew {o : State} {ps : List Piece} (sq : Nat) (d : Descriptor) (s : State) (h0 : State.onlyIn o s ps) (kregs : Piece.regs ∈ ps) (khif : Piece.hif ∈ ps) (ksch : Piece.sch ∈ ps) (kbanks : Piece.banks ∈ ps) (kink : Piece.ink ∈ ps) :
    FrameOut o ps (execNew sq d s) := by
  unfold Sys2Proof.Machine.execNew
  dsimp -failIfUnchanged only
  with_reducible repeat' (first | assumption | (intro _) | apply FrameOut.next | exact FrameOut.fault | apply Frame.ite | apply Frame.ite2 | apply Frame.foldl | apply Frame.foldl2 | apply Frame.arrive | apply h0 | (fail_if_no_progress beta_reduce) | (fail_if_no_progress dsimp only) | split)

theorem Frame.execReplace {o : State} {ps : List Piece} (sq : Nat) (d : Descriptor) (s : State) (h0 : State.onlyIn o s ps) (kregs : Piece.regs ∈ ps) (khif : Piece.hif ∈ ps) (ksch : Piece.sch ∈ ps) (kbanks : Piece.banks ∈ ps) (kink : Piece.ink ∈ ps) :
    FrameOut o ps (execReplace sq d s) := by
  unfold Sys2Proof.Machine.execReplace
  dsimp -failIfUnchanged only
  with_reducible repeat' (first | assumption | (intro _) | apply FrameOut.next | exact FrameOut.fault | apply Frame.ite | apply Frame.ite2 | apply Frame.foldl | apply Frame.foldl2 | apply Frame.arrive | apply h0 | (fail_if_no_progress beta_reduce) | (fail_if_no_progress dsimp only) | split)

theorem Frame.execCancel {o : State} {ps : List Piece} (sq : Nat) (d : Descriptor) (s : State) (h0 : State.onlyIn o s ps) (kregs : Piece.regs ∈ ps) (khif : Piece.hif ∈ ps) (ksch : Piece.sch ∈ ps) (kbanks : Piece.banks ∈ ps) (kink : Piece.ink ∈ ps) :
    FrameOut o ps (execCancel sq d s) := by
  unfold Sys2Proof.Machine.execCancel
  dsimp -failIfUnchanged only
  with_reducible repeat' (first | assumption | (intro _) | apply FrameOut.next | exact FrameOut.fault | apply Frame.ite | apply Frame.ite2 | apply Frame.foldl | apply Frame.foldl2 | apply Frame.arrive | apply h0 | (fail_if_no_progress beta_reduce) | (fail_if_no_progress dsimp only) | split)

theorem Frame.execCancelAll {o : State} {ps : List Piece} (sq : Nat) (d : Descriptor) (s : State) (h0 : State.onlyIn o s ps) (kregs : Piece.regs ∈ ps) (khif : Piece.hif ∈ ps) (ksch : Piece.sch ∈ ps) (kbanks : Piece.banks ∈ ps) (kink : Piece.ink ∈ ps) :
    FrameOut o ps (execCancelAll sq d s) := by
  unfold Sys2Proof.Machine.execCancelAll
  dsimp -failIfUnchanged only
  with_reducible repeat' (first | assumption | (intro _) | apply FrameOut.next | exact FrameOut.fault | apply Frame.ite | apply Frame.ite2 | apply Frame.foldl | apply Frame.foldl2 | apply Frame.arrive | apply h0 | (fail_if_no_progress beta_reduce) | (fail_if_no_progress dsimp only) | split)

/-! Modes -/

theorem Frame.execIdleTimeout {o : State} {ps : List Piece} (s : State) (h0 : State.onlyIn o s ps) (kregs : Piece.regs ∈ ps) (ksys : Piece.sys ∈ ps) (khif : Piece.hif ∈ ps) (kgrds : Piece.grds ∈ ps) (kadc : Piece.adc ∈ ps) :
    FrameOut o ps (execIdleTimeout s) := by
  unfold Sys2Proof.Machine.execIdleTimeout
  dsimp -failIfUnchanged only
  with_reducible repeat' (first | assumption | (intro _) | apply FrameOut.next | exact FrameOut.fault | apply Frame.ite | apply Frame.ite2 | apply Frame.foldl | apply Frame.foldl2 | apply Frame.sleepBegin | apply h0 | (fail_if_no_progress beta_reduce) | (fail_if_no_progress dsimp only) | split)

theorem Frame.execSleepCommit {o : State} {ps : List Piece} (s : State) (h0 : State.onlyIn o s ps) (kclk : Piece.clk ∈ ps) (kregs : Piece.regs ∈ ps) (ksys : Piece.sys ∈ ps) (khif : Piece.hif ∈ ps) (kevc : Piece.evc ∈ ps) (ksec : Piece.sec ∈ ps) (ksch : Piece.sch ∈ ps) (kbanks : Piece.banks ∈ ps) (kquads : Piece.quads ∈ ps) (kedges : Piece.edges ∈ ps) (kink : Piece.ink ∈ ps) (kgrds : Piece.grds ∈ ps) (kadc : Piece.adc ∈ ps) (kcmps : Piece.cmps ∈ ps) (ktmrs : Piece.tmrs ∈ ps) (knibs : Piece.nibs ∈ ps) (ktst : Piece.tst ∈ ps) (kslur : Piece.slur ∈ ps) :
    FrameOut o ps (execSleepCommit s) := by
  unfold Sys2Proof.Machine.execSleepCommit
  dsimp -failIfUnchanged only
  with_reducible repeat' (first | assumption | (intro _) | apply FrameOut.next | exact FrameOut.fault | apply Frame.ite | apply Frame.ite2 | apply Frame.foldl | apply Frame.foldl2 | apply Frame.sleepGo | apply h0 | (fail_if_no_progress beta_reduce) | (fail_if_no_progress dsimp only) | split)

theorem Frame.execSleepWaitTimeout {o : State} {ps : List Piece} (s : State) (h0 : State.onlyIn o s ps) (kregs : Piece.regs ∈ ps) (ksys : Piece.sys ∈ ps) (khif : Piece.hif ∈ ps) (kevc : Piece.evc ∈ ps) (kadc : Piece.adc ∈ ps) :
    FrameOut o ps (execSleepWaitTimeout s) := by
  unfold Sys2Proof.Machine.execSleepWaitTimeout
  dsimp -failIfUnchanged only
  with_reducible repeat' (first | assumption | (intro _) | apply FrameOut.next | exact FrameOut.fault | apply Frame.ite | apply Frame.ite2 | apply Frame.foldl | apply Frame.foldl2 | apply Frame.sleepCancel | apply h0 | simp only [Frame.mk_iff] | apply Frame.with_sys | (fail_if_no_progress beta_reduce) | (fail_if_no_progress dsimp only) | split)

theorem Frame.execSafestopSupply {o : State} {ps : List Piece} (s : State) (h0 : State.onlyIn o s ps) (kregs : Piece.regs ∈ ps) (ksys : Piece.sys ∈ ps) (khif : Piece.hif ∈ ps) (kevc : Piece.evc ∈ ps) (ksch : Piece.sch ∈ ps) (kbanks : Piece.banks ∈ ps) (kquads : Piece.quads ∈ ps) (kedges : Piece.edges ∈ ps) (kink : Piece.ink ∈ ps) (kadc : Piece.adc ∈ ps) (kcmps : Piece.cmps ∈ ps) (knibs : Piece.nibs ∈ ps) (ktst : Piece.tst ∈ ps) :
    FrameOut o ps (execSafestopSupply s) := by
  unfold Sys2Proof.Machine.execSafestopSupply
  dsimp -failIfUnchanged only
  with_reducible repeat' (first | assumption | (intro _) | apply FrameOut.next | exact FrameOut.fault | apply Frame.ite | apply Frame.ite2 | apply Frame.foldl | apply Frame.foldl2 | apply Frame.safestop | apply h0 | (fail_if_no_progress beta_reduce) | (fail_if_no_progress dsimp only) | split)

theorem Frame.execSafestopTemperature {o : State} {ps : List Piece} (s : State) (h0 : State.onlyIn o s ps) (kregs : Piece.regs ∈ ps) (ksys : Piece.sys ∈ ps) (khif : Piece.hif ∈ ps) (kevc : Piece.evc ∈ ps) (ksch : Piece.sch ∈ ps) (kbanks : Piece.banks ∈ ps) (kquads : Piece.quads ∈ ps) (kedges : Piece.edges ∈ ps) (kink : Piece.ink ∈ ps) (kadc : Piece.adc ∈ ps) (kcmps : Piece.cmps ∈ ps) (knibs : Piece.nibs ∈ ps) (ktst : Piece.tst ∈ ps) :
    FrameOut o ps (execSafestopTemperature s) := by
  unfold Sys2Proof.Machine.execSafestopTemperature
  dsimp -failIfUnchanged only
  with_reducible repeat' (first | assumption | (intro _) | apply FrameOut.next | exact FrameOut.fault | apply Frame.ite | apply Frame.ite2 | apply Frame.foldl | apply Frame.foldl2 | apply Frame.safestop | apply h0 | (fail_if_no_progress beta_reduce) | (fail_if_no_progress dsimp only) | split)

theorem Frame.execStopPin {o : State} {ps : List Piece} (s : State) (h0 : State.onlyIn o s ps) (kregs : Piece.regs ∈ ps) (ksys : Piece.sys ∈ ps) (khif : Piece.hif ∈ ps) (kevc : Piece.evc ∈ ps) (ksch : Piece.sch ∈ ps) (kbanks : Piece.banks ∈ ps) (kquads : Piece.quads ∈ ps) (kedges : Piece.edges ∈ ps) (kink : Piece.ink ∈ ps) (kadc : Piece.adc ∈ ps) (kcmps : Piece.cmps ∈ ps) (knibs : Piece.nibs ∈ ps) (ktst : Piece.tst ∈ ps) :
    FrameOut o ps (execStopPin s) := by
  unfold Sys2Proof.Machine.execStopPin
  dsimp -failIfUnchanged only
  with_reducible repeat' (first | assumption | (intro _) | apply FrameOut.next | exact FrameOut.fault | apply Frame.ite | apply Frame.ite2 | apply Frame.foldl | apply Frame.foldl2 | apply Frame.safestop | apply h0 | (fail_if_no_progress beta_reduce) | (fail_if_no_progress dsimp only) | split)

theorem Frame.execSafestopCauseCleared {o : State} {ps : List Piece} (c : Nat) (s : State) (h0 : State.onlyIn o s ps) (ksys : Piece.sys ∈ ps) :
    FrameOut o ps (execSafestopCauseCleared c s) := by
  unfold Sys2Proof.Machine.execSafestopCauseCleared
  dsimp -failIfUnchanged only
  with_reducible repeat' (first | assumption | (intro _) | apply FrameOut.next | exact FrameOut.fault | apply Frame.ite | apply Frame.ite2 | apply Frame.foldl | apply Frame.foldl2 | apply Frame.safeActive | apply h0 | simp only [Frame.mk_iff] | apply Frame.with_sys | (fail_if_no_progress beta_reduce) | (fail_if_no_progress dsimp only) | split)

theorem Frame.execDieLinkLoss {o : State} {ps : List Piece} (s : State) (h0 : State.onlyIn o s ps) (kclk : Piece.clk ∈ ps) (kregs : Piece.regs ∈ ps) (ksys : Piece.sys ∈ ps) (khif : Piece.hif ∈ ps) (kevc : Piece.evc ∈ ps) (ksch : Piece.sch ∈ ps) (kbanks : Piece.banks ∈ ps) (kquads : Piece.quads ∈ ps) (kedges : Piece.edges ∈ ps) (kink : Piece.ink ∈ ps) (kadc : Piece.adc ∈ ps) (kcmps : Piece.cmps ∈ ps) (knibs : Piece.nibs ∈ ps) (ktst : Piece.tst ∈ ps) :
    FrameOut o ps (execDieLinkLoss s) := by
  unfold Sys2Proof.Machine.execDieLinkLoss
  dsimp -failIfUnchanged only
  with_reducible repeat' (first | assumption | (intro _) | apply FrameOut.next | exact FrameOut.fault | apply Frame.ite | apply Frame.ite2 | apply Frame.foldl | apply Frame.foldl2 | apply Frame.dieLoss | apply h0 | (fail_if_no_progress beta_reduce) | (fail_if_no_progress dsimp only) | split)

theorem Frame.execDieLinkRetrain {o : State} {ps : List Piece} (ok : Bool) (s : State) (h0 : State.onlyIn o s ps) (kclk : Piece.clk ∈ ps) (ksys : Piece.sys ∈ ps) (ksch : Piece.sch ∈ ps) :
    FrameOut o ps (execDieLinkRetrain ok s) := by
  unfold Sys2Proof.Machine.execDieLinkRetrain
  dsimp -failIfUnchanged only
  with_reducible repeat' (first | assumption | (intro _) | apply FrameOut.next | exact FrameOut.fault | apply Frame.ite | apply Frame.ite2 | apply Frame.foldl | apply Frame.foldl2 | apply Frame.dieBack | apply h0 | simp only [Frame.mk_iff] | apply Frame.with_clk | (fail_if_no_progress beta_reduce) | (fail_if_no_progress dsimp only) | split)

theorem Frame.execReferenceLoss {o : State} {ps : List Piece} (s : State) (h0 : State.onlyIn o s ps) (kclk : Piece.clk ∈ ps) (kregs : Piece.regs ∈ ps) (ksys : Piece.sys ∈ ps) (khif : Piece.hif ∈ ps) (kevc : Piece.evc ∈ ps) (ksch : Piece.sch ∈ ps) (kbanks : Piece.banks ∈ ps) (kquads : Piece.quads ∈ ps) (kedges : Piece.edges ∈ ps) (kink : Piece.ink ∈ ps) (kadc : Piece.adc ∈ ps) (kcmps : Piece.cmps ∈ ps) (knibs : Piece.nibs ∈ ps) (ktst : Piece.tst ∈ ps) :
    FrameOut o ps (execReferenceLoss s) := by
  unfold Sys2Proof.Machine.execReferenceLoss
  dsimp -failIfUnchanged only
  with_reducible repeat' (first | assumption | (intro _) | apply FrameOut.next | exact FrameOut.fault | apply Frame.ite | apply Frame.ite2 | apply Frame.foldl | apply Frame.foldl2 | apply Frame.dieLoss | apply h0 | simp only [Frame.mk_iff] | apply Frame.with_clk | apply Frame.with_regs | apply Frame.parts | (exact Or.inl ‹_›) | apply Frame.part_part | apply Frame.part_clk | apply Frame.part_regs | apply Frame.part_sys | apply Frame.part_hif | apply Frame.part_evc | apply Frame.part_sec | apply Frame.part_whl | apply Frame.part_ang | apply Frame.part_sch | apply Frame.part_banks | apply Frame.part_quads | apply Frame.part_edges | apply Frame.part_ink | apply Frame.part_grds | apply Frame.part_adc | apply Frame.part_cmps | apply Frame.part_tmrs | apply Frame.part_nibs | apply Frame.part_tst | apply Frame.part_slur | apply Frame.part_jtag | apply Frame.part_ans | apply Frame.part_freeCtr | apply Frame.part_pending | (fail_if_no_progress beta_reduce) | (fail_if_no_progress dsimp only) | split)

theorem Frame.execAonCrystalSwitch {o : State} {ps : List Piece} (s : State) (h0 : State.onlyIn o s ps) (kclk : Piece.clk ∈ ps) :
    FrameOut o ps (execAonCrystalSwitch s) := by
  unfold Sys2Proof.Machine.execAonCrystalSwitch
  dsimp -failIfUnchanged only
  with_reducible repeat' (first | assumption | (intro _) | apply FrameOut.next | exact FrameOut.fault | apply Frame.ite | apply Frame.ite2 | apply Frame.foldl | apply Frame.foldl2 | apply h0 | simp only [Frame.mk_iff] | apply Frame.with_clk | (fail_if_no_progress beta_reduce) | (fail_if_no_progress dsimp only) | split)

theorem Frame.execFallbackAdmission {o : State} {ps : List Piece} (e : Nat) (s : State) (h0 : State.onlyIn o s ps) (kregs : Piece.regs ∈ ps) (ksys : Piece.sys ∈ ps) (khif : Piece.hif ∈ ps) (ksch : Piece.sch ∈ ps) :
    FrameOut o ps (execFallbackAdmission e s) := by
  unfold Sys2Proof.Machine.execFallbackAdmission
  dsimp -failIfUnchanged only
  with_reducible repeat' (first | assumption | (intro _) | apply FrameOut.next | exact FrameOut.fault | apply Frame.ite | apply Frame.ite2 | apply Frame.foldl | apply Frame.foldl2 | apply Frame.planAdmit | apply h0 | (fail_if_no_progress beta_reduce) | (fail_if_no_progress dsimp only) | split)

theorem Frame.execFbdataAccess {o : State} {ps : List Piece} (p : Port) (w : Option Word) (s : State) (h0 : State.onlyIn o s ps) (kregs : Piece.regs ∈ ps) (khif : Piece.hif ∈ ps) (ksec : Piece.sec ∈ ps) (kans : Piece.ans ∈ ps) :
    FrameOut o ps (execFbdataAccess p w s) := by
  unfold Sys2Proof.Machine.execFbdataAccess
  dsimp -failIfUnchanged only
  with_reducible repeat' (first | assumption | (intro _) | apply FrameOut.next | exact FrameOut.fault | apply Frame.ite | apply Frame.ite2 | apply Frame.foldl | apply Frame.foldl2 | apply Frame.onRead | apply Frame.fbAccess | apply Frame.onWrite | apply h0 | (fail_if_no_progress beta_reduce) | (fail_if_no_progress dsimp only) | split)

theorem Frame.execBrownoutRelease {o : State} {ps : List Piece} (s : State) (h0 : State.onlyIn o s ps) (kregs : Piece.regs ∈ ps) (ksys : Piece.sys ∈ ps) :
    FrameOut o ps (execBrownoutRelease s) := by
  unfold Sys2Proof.Machine.execBrownoutRelease
  dsimp -failIfUnchanged only
  with_reducible repeat' (first | assumption | (intro _) | apply FrameOut.next | exact FrameOut.fault | apply Frame.ite | apply Frame.ite2 | apply Frame.foldl | apply Frame.foldl2 | apply Frame.railsBack | apply h0 | simp only [Frame.mk_iff] | apply Frame.with_sys | (fail_if_no_progress beta_reduce) | (fail_if_no_progress dsimp only) | split)

theorem Frame.execReferenceQualified {o : State} {ps : List Piece} (s : State) (h0 : State.onlyIn o s ps) (kclk : Piece.clk ∈ ps) (ksys : Piece.sys ∈ ps) :
    FrameOut o ps (execReferenceQualified s) := by
  unfold Sys2Proof.Machine.execReferenceQualified
  dsimp -failIfUnchanged only
  with_reducible repeat' (first | assumption | (intro _) | apply FrameOut.next | exact FrameOut.fault | apply Frame.ite | apply Frame.ite2 | apply Frame.foldl | apply Frame.foldl2 | apply h0 | simp only [Frame.mk_iff] | apply Frame.with_clk | apply Frame.with_sys | apply Frame.parts | (exact Or.inl ‹_›) | apply Frame.part_part | apply Frame.part_clk | apply Frame.part_regs | apply Frame.part_sys | apply Frame.part_hif | apply Frame.part_evc | apply Frame.part_sec | apply Frame.part_whl | apply Frame.part_ang | apply Frame.part_sch | apply Frame.part_banks | apply Frame.part_quads | apply Frame.part_edges | apply Frame.part_ink | apply Frame.part_grds | apply Frame.part_adc | apply Frame.part_cmps | apply Frame.part_tmrs | apply Frame.part_nibs | apply Frame.part_tst | apply Frame.part_slur | apply Frame.part_jtag | apply Frame.part_ans | apply Frame.part_freeCtr | apply Frame.part_pending | (fail_if_no_progress beta_reduce) | (fail_if_no_progress dsimp only) | split)

theorem Frame.execPllLocked {o : State} {ps : List Piece} (s : State) (h0 : State.onlyIn o s ps) (kclk : Piece.clk ∈ ps) (ksys : Piece.sys ∈ ps) :
    FrameOut o ps (execPllLocked s) := by
  unfold Sys2Proof.Machine.execPllLocked
  dsimp -failIfUnchanged only
  with_reducible repeat' (first | assumption | (intro _) | apply FrameOut.next | exact FrameOut.fault | apply Frame.ite | apply Frame.ite2 | apply Frame.foldl | apply Frame.foldl2 | apply h0 | simp only [Frame.mk_iff] | apply Frame.with_clk | apply Frame.with_sys | apply Frame.parts | (exact Or.inl ‹_›) | apply Frame.part_part | apply Frame.part_clk | apply Frame.part_regs | apply Frame.part_sys | apply Frame.part_hif | apply Frame.part_evc | apply Frame.part_sec | apply Frame.part_whl | apply Frame.part_ang | apply Frame.part_sch | apply Frame.part_banks | apply Frame.part_quads | apply Frame.part_edges | apply Frame.part_ink | apply Frame.part_grds | apply Frame.part_adc | apply Frame.part_cmps | apply Frame.part_tmrs | apply Frame.part_nibs | apply Frame.part_tst | apply Frame.part_slur | apply Frame.part_jtag | apply Frame.part_ans | apply Frame.part_freeCtr | apply Frame.part_pending | (fail_if_no_progress beta_reduce) | (fail_if_no_progress dsimp only) | split)

theorem Frame.execDieLinkTrained {o : State} {ps : List Piece} (s : State) (h0 : State.onlyIn o s ps) (kclk : Piece.clk ∈ ps) (ksys : Piece.sys ∈ ps) (khif : Piece.hif ∈ ps) (kink : Piece.ink ∈ ps) (kcmps : Piece.cmps ∈ ps) :
    FrameOut o ps (execDieLinkTrained s) := by
  unfold Sys2Proof.Machine.execDieLinkTrained
  dsimp -failIfUnchanged only
  with_reducible repeat' (first | assumption | (intro _) | apply FrameOut.next | exact FrameOut.fault | apply Frame.ite | apply Frame.ite2 | apply Frame.foldl | apply Frame.foldl2 | apply Frame.unsettle | apply Frame.railsFresh | apply h0 | simp only [Frame.mk_iff] | apply Frame.with_clk | apply Frame.with_sys | apply Frame.with_hif | apply Frame.parts | (exact Or.inl ‹_›) | apply Frame.part_part | apply Frame.part_clk | apply Frame.part_regs | apply Frame.part_sys | apply Frame.part_hif | apply Frame.part_evc | apply Frame.part_sec | apply Frame.part_whl | apply Frame.part_ang | apply Frame.part_sch | apply Frame.part_banks | apply Frame.part_quads | apply Frame.part_edges | apply Frame.part_ink | apply Frame.part_grds | apply Frame.part_adc | apply Frame.part_cmps | apply Frame.part_tmrs | apply Frame.part_nibs | apply Frame.part_tst | apply Frame.part_slur | apply Frame.part_jtag | apply Frame.part_ans | apply Frame.part_freeCtr | apply Frame.part_pending | (fail_if_no_progress beta_reduce) | (fail_if_no_progress dsimp only) | split)

theorem Frame.execImageChecked {o : State} {ps : List Piece} (s : State) (h0 : State.onlyIn o s ps) (kregs : Piece.regs ∈ ps) (ksys : Piece.sys ∈ ps) (khif : Piece.hif ∈ ps) (kevc : Piece.evc ∈ ps) (ksch : Piece.sch ∈ ps) (kink : Piece.ink ∈ ps) (kgrds : Piece.grds ∈ ps) (knibs : Piece.nibs ∈ ps) (ktst : Piece.tst ∈ ps) :
    FrameOut o ps (execImageChecked s) := by
  unfold Sys2Proof.Machine.execImageChecked
  dsimp -failIfUnchanged only
  with_reducible repeat' (first | assumption | (intro _) | apply FrameOut.next | exact FrameOut.fault | apply Frame.ite | apply Frame.ite2 | apply Frame.foldl | apply Frame.foldl2 | apply Frame.loadImage | apply h0 | (fail_if_no_progress beta_reduce) | (fail_if_no_progress dsimp only) | split)

theorem Frame.execBootComplete {o : State} {ps : List Piece} (s : State) (h0 : State.onlyIn o s ps) (kclk : Piece.clk ∈ ps) (kregs : Piece.regs ∈ ps) (ksys : Piece.sys ∈ ps) (khif : Piece.hif ∈ ps) (kevc : Piece.evc ∈ ps) (ksec : Piece.sec ∈ ps) (ksch : Piece.sch ∈ ps) (kbanks : Piece.banks ∈ ps) (kquads : Piece.quads ∈ ps) (kedges : Piece.edges ∈ ps) (kink : Piece.ink ∈ ps) (kgrds : Piece.grds ∈ ps) (kadc : Piece.adc ∈ ps) (kcmps : Piece.cmps ∈ ps) (ktmrs : Piece.tmrs ∈ ps) (knibs : Piece.nibs ∈ ps) (ktst : Piece.tst ∈ ps) (kslur : Piece.slur ∈ ps) :
    FrameOut o ps (execBootComplete s) := by
  unfold Sys2Proof.Machine.execBootComplete
  dsimp -failIfUnchanged only
  with_reducible repeat' (first | assumption | (intro _) | apply FrameOut.next | exact FrameOut.fault | apply Frame.ite | apply Frame.ite2 | apply Frame.foldl | apply Frame.foldl2 | apply Frame.bootEnd | apply h0 | (fail_if_no_progress beta_reduce) | (fail_if_no_progress dsimp only) | split)

/-! Mq -/

theorem Frame.execMqNop {o : State} {ps : List Piece} (tag : Word) (s : State) (h0 : State.onlyIn o s ps) (khif : Piece.hif ∈ ps) :
    FrameOut o ps (execMqNop tag s) := by
  unfold Sys2Proof.Machine.execMqNop
  dsimp -failIfUnchanged only
  with_reducible repeat' (first | assumption | (intro _) | apply FrameOut.next | exact FrameOut.fault | apply Frame.ite | apply Frame.ite2 | apply Frame.foldl | apply Frame.foldl2 | apply Frame.onMq | apply h0 | (fail_if_no_progress beta_reduce) | (fail_if_no_progress dsimp only) | split)

theorem Frame.execMqUnknownOpcode {o : State} {ps : List Piece} (tag : Word) (op : Nat) (s : State) (h0 : State.onlyIn o s ps) (khif : Piece.hif ∈ ps) :
    FrameOut o ps (execMqUnknownOpcode tag op s) := by
  unfold Sys2Proof.Machine.execMqUnknownOpcode
  dsimp -failIfUnchanged only
  with_reducible repeat' (first | assumption | (intro _) | apply FrameOut.next | exact FrameOut.fault | apply Frame.ite | apply Frame.ite2 | apply Frame.foldl | apply Frame.foldl2 | apply Frame.onMq | apply h0 | (fail_if_no_progress beta_reduce) | (fail_if_no_progress dsimp only) | split)

theorem Frame.execTraceCtrl {o : State} {ps : List Piece} (tag arg0 : Word) (s : State) (h0 : State.onlyIn o s ps) (kregs : Piece.regs ∈ ps) (khif : Piece.hif ∈ ps) :
    FrameOut o ps (execTraceCtrl tag arg0 s) := by
  unfold Sys2Proof.Machine.execTraceCtrl
  dsimp -failIfUnchanged only
  with_reducible repeat' (first | assumption | (intro _) | apply FrameOut.next | exact FrameOut.fault | apply Frame.ite | apply Frame.ite2 | apply Frame.foldl | apply Frame.foldl2 | apply Frame.onMq | apply Frame.putWord | apply Frame.noteMq | apply h0 | (fail_if_no_progress beta_reduce) | (fail_if_no_progress dsimp only) | split)

theorem Frame.execClearOc {o : State} {ps : List Piece} (tag arg0 : Word) (s : State) (h0 : State.onlyIn o s ps) (kregs : Piece.regs ∈ ps) (khif : Piece.hif ∈ ps) (ksec : Piece.sec ∈ ps) (ksch : Piece.sch ∈ ps) (kbanks : Piece.banks ∈ ps) :
    FrameOut o ps (execClearOc tag arg0 s) := by
  unfold Sys2Proof.Machine.execClearOc
  dsimp -failIfUnchanged only
  with_reducible repeat' (first | assumption | (intro _) | apply FrameOut.next | exact FrameOut.fault | apply Frame.ite | apply Frame.ite2 | apply Frame.foldl | apply Frame.foldl2 | apply Frame.onMq | apply Frame.clearOcAct | apply h0 | (fail_if_no_progress beta_reduce) | (fail_if_no_progress dsimp only) | split)

theorem Frame.execPhraseParam {o : State} {ps : List Piece} (tag arg0 arg1 : Word) (s : State) (h0 : State.onlyIn o s ps) (kregs : Piece.regs ∈ ps) (khif : Piece.hif ∈ ps) (ksec : Piece.sec ∈ ps) :
    FrameOut o ps (execPhraseParam tag arg0 arg1 s) := by
  unfold Sys2Proof.Machine.execPhraseParam
  dsimp -failIfUnchanged only
  with_reducible repeat' (first | assumption | (intro _) | apply FrameOut.next | exact FrameOut.fault | apply Frame.ite | apply Frame.ite2 | apply Frame.foldl | apply Frame.foldl2 | apply Frame.paramRun | apply h0 | simp only [Frame.mk_iff] | apply Frame.with_hif | (fail_if_no_progress beta_reduce) | (fail_if_no_progress dsimp only) | split)

theorem Frame.execAccClose {o : State} {ps : List Piece} (tag arg0 : Word) (s : State) (h0 : State.onlyIn o s ps) (kregs : Piece.regs ∈ ps) (khif : Piece.hif ∈ ps) (kadc : Piece.adc ∈ ps) :
    FrameOut o ps (execAccClose tag arg0 s) := by
  unfold Sys2Proof.Machine.execAccClose
  dsimp -failIfUnchanged only
  with_reducible repeat' (first | assumption | (intro _) | apply FrameOut.next | exact FrameOut.fault | apply Frame.ite | apply Frame.ite2 | apply Frame.foldl | apply Frame.foldl2 | apply Frame.onMq | apply Frame.accCloseAct | apply h0 | (fail_if_no_progress beta_reduce) | (fail_if_no_progress dsimp only) | split)

theorem Frame.execFallbackEnd {o : State} {ps : List Piece} (src : Issuer) (s : State) (h0 : State.onlyIn o s ps) (kregs : Piece.regs ∈ ps) (ksys : Piece.sys ∈ ps) (khif : Piece.hif ∈ ps) (ksec : Piece.sec ∈ ps) :
    FrameOut o ps (execFallbackEnd src s) := by
  unfold Sys2Proof.Machine.execFallbackEnd
  dsimp -failIfUnchanged only
  with_reducible repeat' (first | assumption | (intro _) | apply FrameOut.next | exact FrameOut.fault | apply Frame.ite | apply Frame.ite2 | apply Frame.foldl | apply Frame.foldl2 | apply Frame.onMq | apply Frame.fallbackClear | apply Frame.fallbackWrite | apply h0 | (fail_if_no_progress beta_reduce) | (fail_if_no_progress dsimp only) | split)

/-! Sec -/

theorem Frame.execSessionRequest {o : State} {ps : List Piece} (p : Port) (v : Word) (s : State) (h0 : State.onlyIn o s ps) (kregs : Piece.regs ∈ ps) (khif : Piece.hif ∈ ps) (ksec : Piece.sec ∈ ps) :
    FrameOut o ps (execSessionRequest p v s) := by
  unfold Sys2Proof.Machine.execSessionRequest
  dsimp -failIfUnchanged only
  with_reducible repeat' (first | assumption | (intro _) | apply FrameOut.next | exact FrameOut.fault | apply Frame.ite | apply Frame.ite2 | apply Frame.foldl | apply Frame.foldl2 | apply Frame.onWrite | apply Frame.askChallenge | apply h0 | (fail_if_no_progress beta_reduce) | (fail_if_no_progress dsimp only) | split)

theorem Frame.execSessionOpen {o : State} {ps : List Piece} (p : Port) (v : Word) (s : State) (h0 : State.onlyIn o s ps) (kregs : Piece.regs ∈ ps) (ksys : Piece.sys ∈ ps) (khif : Piece.hif ∈ ps) (ksec : Piece.sec ∈ ps) :
    FrameOut o ps (execSessionOpen p v s) := by
  unfold Sys2Proof.Machine.execSessionOpen
  dsimp -failIfUnchanged only
  with_reducible repeat' (first | assumption | (intro _) | apply FrameOut.next | exact FrameOut.fault | apply Frame.ite | apply Frame.ite2 | apply Frame.foldl | apply Frame.foldl2 | apply Frame.onWrite | apply Frame.openSession | apply h0 | (fail_if_no_progress beta_reduce) | (fail_if_no_progress dsimp only) | split)

theorem Frame.execSessionClose {o : State} {ps : List Piece} (p : Port) (v : Word) (s : State) (h0 : State.onlyIn o s ps) (kregs : Piece.regs ∈ ps) (khif : Piece.hif ∈ ps) (ksec : Piece.sec ∈ ps) :
    FrameOut o ps (execSessionClose p v s) := by
  unfold Sys2Proof.Machine.execSessionClose
  dsimp -failIfUnchanged only
  with_reducible repeat' (first | assumption | (intro _) | apply FrameOut.next | exact FrameOut.fault | apply Frame.ite | apply Frame.ite2 | apply Frame.foldl | apply Frame.foldl2 | apply Frame.onWrite | apply Frame.closeSession | apply h0 | (fail_if_no_progress beta_reduce) | (fail_if_no_progress dsimp only) | split)

theorem Frame.execInstallerClaim {o : State} {ps : List Piece} (p : Port) (v : Word) (s : State) (h0 : State.onlyIn o s ps) (kregs : Piece.regs ∈ ps) (ksys : Piece.sys ∈ ps) (khif : Piece.hif ∈ ps) (ksec : Piece.sec ∈ ps) :
    FrameOut o ps (execInstallerClaim p v s) := by
  unfold Sys2Proof.Machine.execInstallerClaim
  dsimp -failIfUnchanged only
  with_reducible repeat' (first | assumption | (intro _) | apply FrameOut.next | exact FrameOut.fault | apply Frame.ite | apply Frame.ite2 | apply Frame.foldl | apply Frame.foldl2 | apply Frame.onWrite | apply Frame.claimInstaller | apply h0 | (fail_if_no_progress beta_reduce) | (fail_if_no_progress dsimp only) | split)

theorem Frame.execChallengeReady {o : State} {ps : List Piece} (s : State) (h0 : State.onlyIn o s ps) (ksec : Piece.sec ∈ ps) :
    FrameOut o ps (execChallengeReady s) := by
  unfold Sys2Proof.Machine.execChallengeReady
  dsimp -failIfUnchanged only
  with_reducible repeat' (first | assumption | (intro _) | apply FrameOut.next | exact FrameOut.fault | apply Frame.ite | apply Frame.ite2 | apply Frame.foldl | apply Frame.foldl2 | apply Frame.modSec | apply h0 | simp only [Frame.mk_iff] | (fail_if_no_progress beta_reduce) | (fail_if_no_progress dsimp only) | split)

theorem Frame.execChallengeExpiry {o : State} {ps : List Piece} (s : State) (h0 : State.onlyIn o s ps) (ksec : Piece.sec ∈ ps) :
    FrameOut o ps (execChallengeExpiry s) := by
  unfold Sys2Proof.Machine.execChallengeExpiry
  dsimp -failIfUnchanged only
  with_reducible repeat' (first | assumption | (intro _) | apply FrameOut.next | exact FrameOut.fault | apply Frame.ite | apply Frame.ite2 | apply Frame.foldl | apply Frame.foldl2 | apply Frame.modSec | apply h0 | simp only [Frame.mk_iff] | (fail_if_no_progress beta_reduce) | (fail_if_no_progress dsimp only) | split)

theorem Frame.execRoleUnlockDone {o : State} {ps : List Piece} (s : State) (h0 : State.onlyIn o s ps) (kregs : Piece.regs ∈ ps) (ksys : Piece.sys ∈ ps) (khif : Piece.hif ∈ ps) (kevc : Piece.evc ∈ ps) (ksec : Piece.sec ∈ ps) :
    FrameOut o ps (execRoleUnlockDone s) := by
  unfold Sys2Proof.Machine.execRoleUnlockDone
  dsimp -failIfUnchanged only
  with_reducible repeat' (first | assumption | (intro _) | apply FrameOut.next | exact FrameOut.fault | apply Frame.ite | apply Frame.ite2 | apply Frame.foldl | apply Frame.foldl2 | apply Frame.claim | apply Frame.unlockEnds | apply h0 | (fail_if_no_progress beta_reduce) | (fail_if_no_progress dsimp only) | split)

theorem Frame.execSessionIdleTimeout {o : State} {ps : List Piece} (s : State) (h0 : State.onlyIn o s ps) (kregs : Piece.regs ∈ ps) (khif : Piece.hif ∈ ps) (ksec : Piece.sec ∈ ps) :
    FrameOut o ps (execSessionIdleTimeout s) := by
  unfold Sys2Proof.Machine.execSessionIdleTimeout
  dsimp -failIfUnchanged only
  with_reducible repeat' (first | assumption | (intro _) | apply FrameOut.next | exact FrameOut.fault | apply Frame.ite | apply Frame.ite2 | apply Frame.foldl | apply Frame.foldl2 | apply Frame.endSession | apply h0 | (fail_if_no_progress beta_reduce) | (fail_if_no_progress dsimp only) | split)

theorem Frame.execLockoutEnd {o : State} {ps : List Piece} (s : State) (h0 : State.onlyIn o s ps) (ksec : Piece.sec ∈ ps) :
    FrameOut o ps (execLockoutEnd s) := by
  unfold Sys2Proof.Machine.execLockoutEnd
  dsimp -failIfUnchanged only
  with_reducible repeat' (first | assumption | (intro _) | apply FrameOut.next | exact FrameOut.fault | apply Frame.ite | apply Frame.ite2 | apply Frame.foldl | apply Frame.foldl2 | apply Frame.modSec | apply h0 | simp only [Frame.mk_iff] | (fail_if_no_progress beta_reduce) | (fail_if_no_progress dsimp only) | split)

theorem Frame.execKeyProvisionSet {o : State} {ps : List Piece} (p : Port) (v : Word) (s : State) (h0 : State.onlyIn o s ps) (kregs : Piece.regs ∈ ps) (khif : Piece.hif ∈ ps) (ksec : Piece.sec ∈ ps) :
    FrameOut o ps (execKeyProvisionSet p v s) := by
  unfold Sys2Proof.Machine.execKeyProvisionSet
  dsimp -failIfUnchanged only
  with_reducible repeat' (first | assumption | (intro _) | apply FrameOut.next | exact FrameOut.fault | apply Frame.ite | apply Frame.ite2 | apply Frame.foldl | apply Frame.foldl2 | apply Frame.onMaker | apply Frame.provisionSet | apply Frame.onWrite | apply h0 | apply Frame.id | (fail_if_no_progress beta_reduce) | (fail_if_no_progress dsimp only) | split)

theorem Frame.execKeyProvisionClear {o : State} {ps : List Piece} (p : Port) (v : Word) (s : State) (h0 : State.onlyIn o s ps) (kregs : Piece.regs ∈ ps) (khif : Piece.hif ∈ ps) (ksec : Piece.sec ∈ ps) :
    FrameOut o ps (execKeyProvisionClear p v s) := by
  unfold Sys2Proof.Machine.execKeyProvisionClear
  dsimp -failIfUnchanged only
  with_reducible repeat' (first | assumption | (intro _) | apply FrameOut.next | exact FrameOut.fault | apply Frame.ite | apply Frame.ite2 | apply Frame.foldl | apply Frame.foldl2 | apply Frame.onMaker | apply Frame.provisionClear | apply Frame.onWrite | apply h0 | apply Frame.id | (fail_if_no_progress beta_reduce) | (fail_if_no_progress dsimp only) | split)

theorem Frame.execJournalRead {o : State} {ps : List Piece} (p : Port) (s : State) (h0 : State.onlyIn o s ps) (kregs : Piece.regs ∈ ps) (khif : Piece.hif ∈ ps) (ksec : Piece.sec ∈ ps) (kans : Piece.ans ∈ ps) :
    FrameOut o ps (execJournalRead p s) := by
  unfold Sys2Proof.Machine.execJournalRead
  dsimp -failIfUnchanged only
  with_reducible repeat' (first | assumption | (intro _) | apply FrameOut.next | exact FrameOut.fault | apply Frame.ite | apply Frame.ite2 | apply Frame.foldl | apply Frame.foldl2 | apply Frame.onRead | apply Frame.jRead | apply h0 | (fail_if_no_progress beta_reduce) | (fail_if_no_progress dsimp only) | split)

theorem Frame.execJournalExport {o : State} {ps : List Piece} (p : Port) (v : Word) (s : State) (h0 : State.onlyIn o s ps) (kregs : Piece.regs ∈ ps) (ksys : Piece.sys ∈ ps) (khif : Piece.hif ∈ ps) (ksec : Piece.sec ∈ ps) :
    FrameOut o ps (execJournalExport p v s) := by
  unfold Sys2Proof.Machine.execJournalExport
  dsimp -failIfUnchanged only
  with_reducible repeat' (first | assumption | (intro _) | apply FrameOut.next | exact FrameOut.fault | apply Frame.ite | apply Frame.ite2 | apply Frame.foldl | apply Frame.foldl2 | apply Frame.onMaker | apply Frame.exportBegin | apply Frame.onWrite | apply h0 | apply Frame.id | (fail_if_no_progress beta_reduce) | (fail_if_no_progress dsimp only) | split)

theorem Frame.execExportDone {o : State} {ps : List Piece} (s : State) (h0 : State.onlyIn o s ps) (kregs : Piece.regs ∈ ps) (ksys : Piece.sys ∈ ps) (khif : Piece.hif ∈ ps) (ksec : Piece.sec ∈ ps) :
    FrameOut o ps (execExportDone s) := by
  unfold Sys2Proof.Machine.execExportDone
  dsimp -failIfUnchanged only
  with_reducible repeat' (first | assumption | (intro _) | apply FrameOut.next | exact FrameOut.fault | apply Frame.ite | apply Frame.ite2 | apply Frame.foldl | apply Frame.foldl2 | apply Frame.modSec | apply Frame.journal | apply Frame.endBusy | apply h0 | simp only [Frame.mk_iff] | (fail_if_no_progress beta_reduce) | (fail_if_no_progress dsimp only) | split)

theorem Frame.execJournalSeal {o : State} {ps : List Piece} (p : Port) (v : Word) (s : State) (h0 : State.onlyIn o s ps) (kregs : Piece.regs ∈ ps) (ksys : Piece.sys ∈ ps) (khif : Piece.hif ∈ ps) (ksec : Piece.sec ∈ ps) :
    FrameOut o ps (execJournalSeal p v s) := by
  unfold Sys2Proof.Machine.execJournalSeal
  dsimp -failIfUnchanged only
  with_reducible repeat' (first | assumption | (intro _) | apply FrameOut.next | exact FrameOut.fault | apply Frame.ite | apply Frame.ite2 | apply Frame.foldl | apply Frame.foldl2 | apply Frame.onMaker | apply Frame.sealBegin | apply Frame.onWrite | apply h0 | apply Frame.id | (fail_if_no_progress beta_reduce) | (fail_if_no_progress dsimp only) | split)

theorem Frame.execSealDone {o : State} {ps : List Piece} (s : State) (h0 : State.onlyIn o s ps) (kregs : Piece.regs ∈ ps) (ksys : Piece.sys ∈ ps) (khif : Piece.hif ∈ ps) (ksec : Piece.sec ∈ ps) :
    FrameOut o ps (execSealDone s) := by
  unfold Sys2Proof.Machine.execSealDone
  dsimp -failIfUnchanged only
  with_reducible repeat' (first | assumption | (intro _) | apply FrameOut.next | exact FrameOut.fault | apply Frame.ite | apply Frame.ite2 | apply Frame.foldl | apply Frame.foldl2 | apply Frame.sealNow | apply h0 | (fail_if_no_progress beta_reduce) | (fail_if_no_progress dsimp only) | split)

/-! Commit -/

theorem Frame.execCommit {o : State} {ps : List Piece} (p : Port) (v : Word) (s : State) (h0 : State.onlyIn o s ps) (kregs : Piece.regs ∈ ps) (ksys : Piece.sys ∈ ps) (khif : Piece.hif ∈ ps) (ksec : Piece.sec ∈ ps) (kquads : Piece.quads ∈ ps) (kfreeCtr : Piece.freeCtr ∈ ps) :
    FrameOut o ps (execCommit p v s) := by
  unfold Sys2Proof.Machine.execCommit
  dsimp -failIfUnchanged only
  with_reducible repeat' (first | assumption | (intro _) | apply FrameOut.next | exact FrameOut.fault | apply Frame.ite | apply Frame.ite2 | apply Frame.foldl | apply Frame.foldl2 | apply Frame.onWrite | apply Frame.commitWrite | apply h0 | (fail_if_no_progress beta_reduce) | (fail_if_no_progress dsimp only) | split)

theorem Frame.execDiscard {o : State} {ps : List Piece} (p : Port) (v : Word) (s : State) (h0 : State.onlyIn o s ps) (kregs : Piece.regs ∈ ps) (ksys : Piece.sys ∈ ps) (khif : Piece.hif ∈ ps) (ksec : Piece.sec ∈ ps) (kquads : Piece.quads ∈ ps) (kfreeCtr : Piece.freeCtr ∈ ps) :
    FrameOut o ps (execDiscard p v s) := by
  unfold Sys2Proof.Machine.execDiscard
  dsimp -failIfUnchanged only
  with_reducible repeat' (first | assumption | (intro _) | apply FrameOut.next | exact FrameOut.fault | apply Frame.ite | apply Frame.ite2 | apply Frame.foldl | apply Frame.foldl2 | apply Frame.onWrite | apply Frame.commitWrite | apply h0 | (fail_if_no_progress beta_reduce) | (fail_if_no_progress dsimp only) | split)

theorem Frame.execCommitFailed {o : State} {ps : List Piece} (s : State) (h0 : State.onlyIn o s ps) (kregs : Piece.regs ∈ ps) (ksys : Piece.sys ∈ ps) (khif : Piece.hif ∈ ps) (kevc : Piece.evc ∈ ps) (ksec : Piece.sec ∈ ps) (kfreeCtr : Piece.freeCtr ∈ ps) :
    FrameOut o ps (execCommitFailed s) := by
  unfold Sys2Proof.Machine.execCommitFailed
  dsimp -failIfUnchanged only
  with_reducible repeat' (first | assumption | (intro _) | apply FrameOut.next | exact FrameOut.fault | apply Frame.ite | apply Frame.ite2 | apply Frame.foldl | apply Frame.foldl2 | apply Frame.setVerify | apply Frame.commitEnds | apply Frame.commitFails | apply h0 | (fail_if_no_progress beta_reduce) | (fail_if_no_progress dsimp only) | split)

theorem Frame.execCommitDone {o : State} {ps : List Piece} (s : State) (h0 : State.onlyIn o s ps) (kclk : Piece.clk ∈ ps) (kregs : Piece.regs ∈ ps) (ksys : Piece.sys ∈ ps) (khif : Piece.hif ∈ ps) (kevc : Piece.evc ∈ ps) (ksec : Piece.sec ∈ ps) (kwhl : Piece.whl ∈ ps) (kang : Piece.ang ∈ ps) (ksch : Piece.sch ∈ ps) (kbanks : Piece.banks ∈ ps) (kquads : Piece.quads ∈ ps) (kedges : Piece.edges ∈ ps) (kink : Piece.ink ∈ ps) (kgrds : Piece.grds ∈ ps) (kadc : Piece.adc ∈ ps) (kcmps : Piece.cmps ∈ ps) (ktmrs : Piece.tmrs ∈ ps) (knibs : Piece.nibs ∈ ps) (ktst : Piece.tst ∈ ps) (kslur : Piece.slur ∈ ps) (kfreeCtr : Piece.freeCtr ∈ ps) :
    FrameOut o ps (execCommitDone s) := by
  unfold Sys2Proof.Machine.execCommitDone
  dsimp -failIfUnchanged only
  with_reducible repeat' (first | assumption | (intro _) | apply FrameOut.next | exact FrameOut.fault | apply Frame.ite | apply Frame.ite2 | apply Frame.foldl | apply Frame.foldl2 | apply Frame.commitNow | apply h0 | (fail_if_no_progress beta_reduce) | (fail_if_no_progress dsimp only) | split)

/-! Jtag -/

theorem Frame.execJtagExtest {o : State} {ps : List Piece} (s : State) (h0 : State.onlyIn o s ps) (kjtag : Piece.jtag ∈ ps) :
    FrameOut o ps (execJtagExtest s) := by
  unfold Sys2Proof.Machine.execJtagExtest
  dsimp -failIfUnchanged only
  with_reducible repeat' (first | assumption | (intro _) | apply FrameOut.next | exact FrameOut.fault | apply Frame.ite | apply Frame.ite2 | apply Frame.foldl | apply Frame.foldl2 | apply Frame.onTap | apply Frame.scan | apply h0 | (fail_if_no_progress beta_reduce) | (fail_if_no_progress dsimp only) | split)

theorem Frame.execJtagIdcode {o : State} {ps : List Piece} (s : State) (h0 : State.onlyIn o s ps) (kjtag : Piece.jtag ∈ ps) :
    FrameOut o ps (execJtagIdcode s) := by
  unfold Sys2Proof.Machine.execJtagIdcode
  dsimp -failIfUnchanged only
  with_reducible repeat' (first | assumption | (intro _) | apply FrameOut.next | exact FrameOut.fault | apply Frame.ite | apply Frame.ite2 | apply Frame.foldl | apply Frame.foldl2 | apply Frame.onTap | apply Frame.scan | apply h0 | (fail_if_no_progress beta_reduce) | (fail_if_no_progress dsimp only) | split)

theorem Frame.execJtagClamp {o : State} {ps : List Piece} (s : State) (h0 : State.onlyIn o s ps) (kjtag : Piece.jtag ∈ ps) :
    FrameOut o ps (execJtagClamp s) := by
  unfold Sys2Proof.Machine.execJtagClamp
  dsimp -failIfUnchanged only
  with_reducible repeat' (first | assumption | (intro _) | apply FrameOut.next | exact FrameOut.fault | apply Frame.ite | apply Frame.ite2 | apply Frame.foldl | apply Frame.foldl2 | apply Frame.onTap | apply Frame.scan | apply h0 | (fail_if_no_progress beta_reduce) | (fail_if_no_progress dsimp only) | split)

theorem Frame.execJtagHighz {o : State} {ps : List Piece} (s : State) (h0 : State.onlyIn o s ps) (kjtag : Piece.jtag ∈ ps) :
    FrameOut o ps (execJtagHighz s) := by
  unfold Sys2Proof.Machine.execJtagHighz
  dsimp -failIfUnchanged only
  with_reducible repeat' (first | assumption | (intro _) | apply FrameOut.next | exact FrameOut.fault | apply Frame.ite | apply Frame.ite2 | apply Frame.foldl | apply Frame.foldl2 | apply Frame.onTap | apply Frame.scan | apply h0 | (fail_if_no_progress beta_reduce) | (fail_if_no_progress dsimp only) | split)

theorem Frame.execJtagBypass {o : State} {ps : List Piece} (_code : Nat) (s : State) (h0 : State.onlyIn o s ps) (kjtag : Piece.jtag ∈ ps) :
    FrameOut o ps (execJtagBypass _code s) := by
  unfold Sys2Proof.Machine.execJtagBypass
  dsimp -failIfUnchanged only
  with_reducible repeat' (first | assumption | (intro _) | apply FrameOut.next | exact FrameOut.fault | apply Frame.ite | apply Frame.ite2 | apply Frame.foldl | apply Frame.foldl2 | apply Frame.onTap | apply Frame.scan | apply h0 | (fail_if_no_progress beta_reduce) | (fail_if_no_progress dsimp only) | split)

theorem Frame.execJtagSamplePreload {o : State} {ps : List Piece} (pins cells : List Bool) (s : State) (h0 : State.onlyIn o s ps) (kjtag : Piece.jtag ∈ ps) :
    FrameOut o ps (execJtagSamplePreload pins cells s) := by
  unfold Sys2Proof.Machine.execJtagSamplePreload
  dsimp -failIfUnchanged only
  with_reducible repeat' (first | assumption | (intro _) | apply FrameOut.next | exact FrameOut.fault | apply Frame.ite | apply Frame.ite2 | apply Frame.foldl | apply Frame.foldl2 | apply Frame.onTap | apply h0 | simp only [Frame.mk_iff] | apply Frame.with_jtag | (fail_if_no_progress beta_reduce) | (fail_if_no_progress dsimp only) | split)

theorem Frame.execTapReset {o : State} {ps : List Piece} (s : State) (h0 : State.onlyIn o s ps) (kjtag : Piece.jtag ∈ ps) :
    FrameOut o ps (execTapReset s) := by
  unfold Sys2Proof.Machine.execTapReset
  dsimp -failIfUnchanged only
  with_reducible repeat' (first | assumption | (intro _) | apply FrameOut.next | exact FrameOut.fault | apply Frame.ite | apply Frame.ite2 | apply Frame.foldl | apply Frame.foldl2 | apply Frame.onTap | apply Frame.scan | apply h0 | (fail_if_no_progress beta_reduce) | (fail_if_no_progress dsimp only) | split)

/-! Tst -/

theorem Frame.execTuningGo {o : State} {ps : List Piece} (p : Port) (v : Word) (s : State) (h0 : State.onlyIn o s ps) (kregs : Piece.regs ∈ ps) (ksys : Piece.sys ∈ ps) (khif : Piece.hif ∈ ps) (ksec : Piece.sec ∈ ps) (ktst : Piece.tst ∈ ps) :
    FrameOut o ps (execTuningGo p v s) := by
  unfold Sys2Proof.Machine.execTuningGo
  dsimp -failIfUnchanged only
  with_reducible repeat' (first | assumption | (intro _) | apply FrameOut.next | exact FrameOut.fault | apply Frame.ite | apply Frame.ite2 | apply Frame.foldl | apply Frame.foldl2 | apply Frame.tstWrite | apply h0 | (fail_if_no_progress beta_reduce) | (fail_if_no_progress dsimp only) | split)

theorem Frame.execTuningBlockStart {o : State} {ps : List Piece} (laneB : Bool) (s : State) (h0 : State.onlyIn o s ps) (kregs : Piece.regs ∈ ps) (ksys : Piece.sys ∈ ps) (khif : Piece.hif ∈ ps) (kevc : Piece.evc ∈ ps) (ksch : Piece.sch ∈ ps) (kbanks : Piece.banks ∈ ps) (kquads : Piece.quads ∈ ps) (kink : Piece.ink ∈ ps) (kadc : Piece.adc ∈ ps) (kcmps : Piece.cmps ∈ ps) (ktst : Piece.tst ∈ ps) :
    FrameOut o ps (execTuningBlockStart laneB s) := by
  unfold Sys2Proof.Machine.execTuningBlockStart
  dsimp -failIfUnchanged only
  with_reducible repeat' (first | assumption | (intro _) | apply FrameOut.next | exact FrameOut.fault | apply Frame.ite | apply Frame.ite2 | apply Frame.foldl | apply Frame.foldl2 | apply Frame.laneSkip | apply Frame.passSettle | apply Frame.blockStart | apply h0 | (fail_if_no_progress beta_reduce) | (fail_if_no_progress dsimp only) | split)

theorem Frame.execTuningBlockEnd {o : State} {ps : List Piece} (laneB : Bool) (fails : List UnitFail) (s : State) (h0 : State.onlyIn o s ps) (kregs : Piece.regs ∈ ps) (ksys : Piece.sys ∈ ps) (khif : Piece.hif ∈ ps) (kevc : Piece.evc ∈ ps) (kwhl : Piece.whl ∈ ps) (ksch : Piece.sch ∈ ps) (kbanks : Piece.banks ∈ ps) (kquads : Piece.quads ∈ ps) (kedges : Piece.edges ∈ ps) (kink : Piece.ink ∈ ps) (kgrds : Piece.grds ∈ ps) (kadc : Piece.adc ∈ ps) (kcmps : Piece.cmps ∈ ps) (ktst : Piece.tst ∈ ps) :
    FrameOut o ps (execTuningBlockEnd laneB fails s) := by
  unfold Sys2Proof.Machine.execTuningBlockEnd
  dsimp -failIfUnchanged only
  with_reducible repeat' (first | assumption | (intro _) | apply FrameOut.next | exact FrameOut.fault | apply Frame.ite | apply Frame.ite2 | apply Frame.foldl | apply Frame.foldl2 | apply Frame.blockEnd | apply Frame.lateVerdict | apply h0 | (fail_if_no_progress beta_reduce) | (fail_if_no_progress dsimp only) | split)

/-! HostBus -/

theorem Frame.execSysAbort {o : State} {ps : List Piece} (p : Port) (v : Word) (s : State) (h0 : State.onlyIn o s ps) (kregs : Piece.regs ∈ ps) (ksys : Piece.sys ∈ ps) (khif : Piece.hif ∈ ps) (kevc : Piece.evc ∈ ps) (ksec : Piece.sec ∈ ps) (ksch : Piece.sch ∈ ps) (kadc : Piece.adc ∈ ps) (kcmps : Piece.cmps ∈ ps) (ktst : Piece.tst ∈ ps) (kfreeCtr : Piece.freeCtr ∈ ps) :
    FrameOut o ps (execSysAbort p v s) := by
  unfold Sys2Proof.Machine.execSysAbort
  dsimp -failIfUnchanged only
  with_reducible repeat' (first | assumption | (intro _) | apply FrameOut.next | exact FrameOut.fault | apply Frame.ite | apply Frame.ite2 | apply Frame.foldl | apply Frame.foldl2 | apply Frame.abortWrite | apply h0 | (fail_if_no_progress beta_reduce) | (fail_if_no_progress dsimp only) | split)

theorem Frame.execReadClear {o : State} {ps : List Piece} (p : Port) (off : Nat) (sh : RShape) (s : State) (h0 : State.onlyIn o s ps) (kclk : Piece.clk ∈ ps) (kregs : Piece.regs ∈ ps) (khif : Piece.hif ∈ ps) (ksec : Piece.sec ∈ ps) (kwhl : Piece.whl ∈ ps) (kang : Piece.ang ∈ ps) (kgrds : Piece.grds ∈ ps) (kadc : Piece.adc ∈ ps) (ktmrs : Piece.tmrs ∈ ps) (knibs : Piece.nibs ∈ ps) (kans : Piece.ans ∈ ps) :
    FrameOut o ps (execReadClear p off sh s) := by
  unfold Sys2Proof.Machine.execReadClear
  dsimp -failIfUnchanged only
  with_reducible repeat' (first | assumption | (intro _) | apply FrameOut.next | exact FrameOut.fault | apply Frame.ite | apply Frame.ite2 | apply Frame.foldl | apply Frame.foldl2 | apply Frame.badAccess | apply Frame.wordRead | apply Frame.touch | apply Frame.windowRead | apply Frame.answer | apply h0 | simp only [Frame.mk_iff] | apply Frame.with_ans | (fail_if_no_progress beta_reduce) | (fail_if_no_progress dsimp only) | split)

theorem Frame.execSpiReadFrame {o : State} {ps : List Piece} (header : SpiHeader) (s : State) (h0 : State.onlyIn o s ps) (kclk : Piece.clk ∈ ps) (kregs : Piece.regs ∈ ps) (khif : Piece.hif ∈ ps) (ksec : Piece.sec ∈ ps) (kwhl : Piece.whl ∈ ps) (kang : Piece.ang ∈ ps) (kgrds : Piece.grds ∈ ps) (kadc : Piece.adc ∈ ps) (ktmrs : Piece.tmrs ∈ ps) (knibs : Piece.nibs ∈ ps) (kans : Piece.ans ∈ ps) :
    FrameOut o ps (execSpiReadFrame header s) := by
  unfold Sys2Proof.Machine.execSpiReadFrame
  dsimp -failIfUnchanged only
  with_reducible repeat' (first | assumption | (intro _) | apply FrameOut.next | exact FrameOut.fault | apply Frame.ite | apply Frame.ite2 | apply Frame.foldl | apply Frame.foldl2 | apply Frame.spiIgnored | apply Frame.spiBegin | apply Frame.spiReadWord | apply h0 | simp only [Frame.mk_iff] | apply Frame.with_ans | (fail_if_no_progress beta_reduce) | (fail_if_no_progress dsimp only) | split)

/-! Reed -/

theorem Frame.execNoteNop {o : State} {ps : List Piece} (b t : Nat) (s : State) (h0 : State.onlyIn o s ps) (kregs : Piece.regs ∈ ps) (khif : Piece.hif ∈ ps) (ksch : Piece.sch ∈ ps) (kbanks : Piece.banks ∈ ps) (kedges : Piece.edges ∈ ps) (kadc : Piece.adc ∈ ps) (kcmps : Piece.cmps ∈ ps) :
    FrameOut o ps (execNoteNop b t s) := by
  unfold Sys2Proof.Machine.execNoteNop
  dsimp -failIfUnchanged only
  with_reducible repeat' (first | assumption | (intro _) | apply FrameOut.next | exact FrameOut.fault | apply Frame.ite | apply Frame.ite2 | apply Frame.foldl | apply Frame.foldl2 | apply Frame.onNote | apply h0 | (fail_if_no_progress beta_reduce) | (fail_if_no_progress dsimp only) | split)

theorem Frame.execGate {o : State} {ps : List Piece} (b t : Nat) (s : State) (h0 : State.onlyIn o s ps) (kregs : Piece.regs ∈ ps) (khif : Piece.hif ∈ ps) (ksch : Piece.sch ∈ ps) (kbanks : Piece.banks ∈ ps) (kedges : Piece.edges ∈ ps) (kadc : Piece.adc ∈ ps) (kcmps : Piece.cmps ∈ ps) :
    FrameOut o ps (execGate b t s) := by
  unfold Sys2Proof.Machine.execGate
  dsimp -failIfUnchanged only
  with_reducible repeat' (first | assumption | (intro _) | apply FrameOut.next | exact FrameOut.fault | apply Frame.ite | apply Frame.ite2 | apply Frame.foldl | apply Frame.foldl2 | apply Frame.onNote | apply Frame.gateNote | apply h0 | (fail_if_no_progress beta_reduce) | (fail_if_no_progress dsimp only) | split)

theorem Frame.execLevel {o : State} {ps : List Piece} (b t : Nat) (s : State) (h0 : State.onlyIn o s ps) (kregs : Piece.regs ∈ ps) (khif : Piece.hif ∈ ps) (ksch : Piece.sch ∈ ps) (kbanks : Piece.banks ∈ ps) (kedges : Piece.edges ∈ ps) (kadc : Piece.adc ∈ ps) (kcmps : Piece.cmps ∈ ps) :
    FrameOut o ps (execLevel b t s) := by
  unfold Sys2Proof.Machine.execLevel
  dsimp -failIfUnchanged only
  with_reducible repeat' (first | assumption | (intro _) | apply FrameOut.next | exact FrameOut.fault | apply Frame.ite | apply Frame.ite2 | apply Frame.foldl | apply Frame.foldl2 | apply Frame.onNote | apply Frame.modThread | apply h0 | (fail_if_no_progress beta_reduce) | (fail_if_no_progress dsimp only) | split)

theorem Frame.execTload {o : State} {ps : List Piece} (b t : Nat) (s : State) (h0 : State.onlyIn o s ps) (kregs : Piece.regs ∈ ps) (khif : Piece.hif ∈ ps) (ksch : Piece.sch ∈ ps) (kbanks : Piece.banks ∈ ps) (kedges : Piece.edges ∈ ps) (kadc : Piece.adc ∈ ps) (kcmps : Piece.cmps ∈ ps) :
    FrameOut o ps (execTload b t s) := by
  unfold Sys2Proof.Machine.execTload
  dsimp -failIfUnchanged only
  with_reducible repeat' (first | assumption | (intro _) | apply FrameOut.next | exact FrameOut.fault | apply Frame.ite | apply Frame.ite2 | apply Frame.foldl | apply Frame.foldl2 | apply Frame.onNote | apply Frame.modThread | apply h0 | (fail_if_no_progress beta_reduce) | (fail_if_no_progress dsimp only) | split)

theorem Frame.execWaitT {o : State} {ps : List Piece} (b t : Nat) (s : State) (h0 : State.onlyIn o s ps) (kregs : Piece.regs ∈ ps) (khif : Piece.hif ∈ ps) (ksch : Piece.sch ∈ ps) (kbanks : Piece.banks ∈ ps) (kedges : Piece.edges ∈ ps) (kadc : Piece.adc ∈ ps) (kcmps : Piece.cmps ∈ ps) :
    FrameOut o ps (execWaitT b t s) := by
  unfold Sys2Proof.Machine.execWaitT
  dsimp -failIfUnchanged only
  with_reducible repeat' (first | assumption | (intro _) | apply FrameOut.next | exact FrameOut.fault | apply Frame.ite | apply Frame.ite2 | apply Frame.foldl | apply Frame.foldl2 | apply Frame.onNote | apply Frame.modThread | apply Frame.wait | apply h0 | (fail_if_no_progress beta_reduce) | (fail_if_no_progress dsimp only) | split)

theorem Frame.execWaitA {o : State} {ps : List Piece} (b t : Nat) (s : State) (h0 : State.onlyIn o s ps) (kregs : Piece.regs ∈ ps) (khif : Piece.hif ∈ ps) (ksch : Piece.sch ∈ ps) (kbanks : Piece.banks ∈ ps) (kedges : Piece.edges ∈ ps) (kadc : Piece.adc ∈ ps) (kcmps : Piece.cmps ∈ ps) :
    FrameOut o ps (execWaitA b t s) := by
  unfold Sys2Proof.Machine.execWaitA
  dsimp -failIfUnchanged only
  with_reducible repeat' (first | assumption | (intro _) | apply FrameOut.next | exact FrameOut.fault | apply Frame.ite | apply Frame.ite2 | apply Frame.foldl | apply Frame.foldl2 | apply Frame.onNote | apply Frame.modThread | apply Frame.wait | apply h0 | (fail_if_no_progress beta_reduce) | (fail_if_no_progress dsimp only) | split)

theorem Frame.execWaitC {o : State} {ps : List Piece} (b t : Nat) (s : State) (h0 : State.onlyIn o s ps) (kregs : Piece.regs ∈ ps) (khif : Piece.hif ∈ ps) (ksch : Piece.sch ∈ ps) (kbanks : Piece.banks ∈ ps) (kedges : Piece.edges ∈ ps) (kadc : Piece.adc ∈ ps) (kcmps : Piece.cmps ∈ ps) :
    FrameOut o ps (execWaitC b t s) := by
  unfold Sys2Proof.Machine.execWaitC
  dsimp -failIfUnchanged only
  with_reducible repeat' (first | assumption | (intro _) | apply FrameOut.next | exact FrameOut.fault | apply Frame.ite | apply Frame.ite2 | apply Frame.foldl | apply Frame.foldl2 | apply Frame.onNote | apply Frame.modThread | apply Frame.wait | apply Frame.clearCond | apply h0 | (fail_if_no_progress beta_reduce) | (fail_if_no_progress dsimp only) | split)

theorem Frame.execWaitK {o : State} {ps : List Piece} (b t : Nat) (s : State) (h0 : State.onlyIn o s ps) (kregs : Piece.regs ∈ ps) (khif : Piece.hif ∈ ps) (ksch : Piece.sch ∈ ps) (kbanks : Piece.banks ∈ ps) (kedges : Piece.edges ∈ ps) (kadc : Piece.adc ∈ ps) (kcmps : Piece.cmps ∈ ps) :
    FrameOut o ps (execWaitK b t s) := by
  unfold Sys2Proof.Machine.execWaitK
  dsimp -failIfUnchanged only
  with_reducible repeat' (first | assumption | (intro _) | apply FrameOut.next | exact FrameOut.fault | apply Frame.ite | apply Frame.ite2 | apply Frame.foldl | apply Frame.foldl2 | apply Frame.onNote | apply Frame.modThread | apply Frame.wait | apply h0 | (fail_if_no_progress beta_reduce) | (fail_if_no_progress dsimp only) | split)

theorem Frame.execReg {o : State} {ps : List Piece} (b t : Nat) (s : State) (h0 : State.onlyIn o s ps) (kregs : Piece.regs ∈ ps) (khif : Piece.hif ∈ ps) (ksch : Piece.sch ∈ ps) (kbanks : Piece.banks ∈ ps) (kedges : Piece.edges ∈ ps) (kadc : Piece.adc ∈ ps) (kcmps : Piece.cmps ∈ ps) :
    FrameOut o ps (execReg b t s) := by
  unfold Sys2Proof.Machine.execReg
  dsimp -failIfUnchanged only
  with_reducible repeat' (first | assumption | (intro _) | apply FrameOut.next | exact FrameOut.fault | apply Frame.ite | apply Frame.ite2 | apply Frame.foldl | apply Frame.foldl2 | apply Frame.onNote | apply Frame.modThread | apply Frame.wait | apply Frame.clearCond | apply h0 | (fail_if_no_progress beta_reduce) | (fail_if_no_progress dsimp only) | split)

theorem Frame.execBr {o : State} {ps : List Piece} (b t : Nat) (s : State) (h0 : State.onlyIn o s ps) (kregs : Piece.regs ∈ ps) (khif : Piece.hif ∈ ps) (ksch : Piece.sch ∈ ps) (kbanks : Piece.banks ∈ ps) (kedges : Piece.edges ∈ ps) (kadc : Piece.adc ∈ ps) (kcmps : Piece.cmps ∈ ps) :
    FrameOut o ps (execBr b t s) := by
  unfold Sys2Proof.Machine.execBr
  dsimp -failIfUnchanged only
  with_reducible repeat' (first | assumption | (intro _) | apply FrameOut.next | exact FrameOut.fault | apply Frame.ite | apply Frame.ite2 | apply Frame.foldl | apply Frame.foldl2 | apply Frame.onNote | apply Frame.modThread | apply h0 | (fail_if_no_progress beta_reduce) | (fail_if_no_progress dsimp only) | split)

theorem Frame.execLoop {o : State} {ps : List Piece} (b t : Nat) (s : State) (h0 : State.onlyIn o s ps) (kregs : Piece.regs ∈ ps) (khif : Piece.hif ∈ ps) (ksch : Piece.sch ∈ ps) (kbanks : Piece.banks ∈ ps) (kedges : Piece.edges ∈ ps) (kadc : Piece.adc ∈ ps) (kcmps : Piece.cmps ∈ ps) :
    FrameOut o ps (execLoop b t s) := by
  unfold Sys2Proof.Machine.execLoop
  dsimp -failIfUnchanged only
  with_reducible repeat' (first | assumption | (intro _) | apply FrameOut.next | exact FrameOut.fault | apply Frame.ite | apply Frame.ite2 | apply Frame.foldl | apply Frame.foldl2 | apply Frame.onNote | apply Frame.modThread | apply h0 | (fail_if_no_progress beta_reduce) | (fail_if_no_progress dsimp only) | split)

theorem Frame.execClaim {o : State} {ps : List Piece} (b t : Nat) (s : State) (h0 : State.onlyIn o s ps) (kregs : Piece.regs ∈ ps) (khif : Piece.hif ∈ ps) (kevc : Piece.evc ∈ ps) (ksch : Piece.sch ∈ ps) (kbanks : Piece.banks ∈ ps) (kedges : Piece.edges ∈ ps) (kadc : Piece.adc ∈ ps) (kcmps : Piece.cmps ∈ ps) :
    FrameOut o ps (execClaim b t s) := by
  unfold Sys2Proof.Machine.execClaim
  dsimp -failIfUnchanged only
  with_reducible repeat' (first | assumption | (intro _) | apply FrameOut.next | exact FrameOut.fault | apply Frame.ite | apply Frame.ite2 | apply Frame.foldl | apply Frame.foldl2 | apply Frame.onNote | apply Frame.claim | apply Frame.claimNote | apply h0 | (fail_if_no_progress beta_reduce) | (fail_if_no_progress dsimp only) | split)

theorem Frame.execRelease {o : State} {ps : List Piece} (b t : Nat) (s : State) (h0 : State.onlyIn o s ps) (kregs : Piece.regs ∈ ps) (khif : Piece.hif ∈ ps) (kevc : Piece.evc ∈ ps) (ksch : Piece.sch ∈ ps) (kbanks : Piece.banks ∈ ps) (kedges : Piece.edges ∈ ps) (kink : Piece.ink ∈ ps) (kadc : Piece.adc ∈ ps) (kcmps : Piece.cmps ∈ ps) :
    FrameOut o ps (execRelease b t s) := by
  unfold Sys2Proof.Machine.execRelease
  dsimp -failIfUnchanged only
  with_reducible repeat' (first | assumption | (intro _) | apply FrameOut.next | exact FrameOut.fault | apply Frame.ite | apply Frame.ite2 | apply Frame.foldl | apply Frame.foldl2 | apply Frame.onNote | apply Frame.release | apply Frame.releaseToken | apply h0 | (fail_if_no_progress beta_reduce) | (fail_if_no_progress dsimp only) | split)

theorem Frame.execSusBegin {o : State} {ps : List Piece} (b t : Nat) (s : State) (h0 : State.onlyIn o s ps) (kregs : Piece.regs ∈ ps) (khif : Piece.hif ∈ ps) (ksch : Piece.sch ∈ ps) (kbanks : Piece.banks ∈ ps) (kedges : Piece.edges ∈ ps) (kadc : Piece.adc ∈ ps) (kcmps : Piece.cmps ∈ ps) :
    FrameOut o ps (execSusBegin b t s) := by
  unfold Sys2Proof.Machine.execSusBegin
  dsimp -failIfUnchanged only
  with_reducible repeat' (first | assumption | (intro _) | apply FrameOut.next | exact FrameOut.fault | apply Frame.ite | apply Frame.ite2 | apply Frame.foldl | apply Frame.foldl2 | apply Frame.onNote | apply Frame.modThread | apply h0 | (fail_if_no_progress beta_reduce) | (fail_if_no_progress dsimp only) | split)

theorem Frame.execSusEnd {o : State} {ps : List Piece} (b t : Nat) (s : State) (h0 : State.onlyIn o s ps) (kregs : Piece.regs ∈ ps) (khif : Piece.hif ∈ ps) (ksch : Piece.sch ∈ ps) (kbanks : Piece.banks ∈ ps) (kedges : Piece.edges ∈ ps) (kadc : Piece.adc ∈ ps) (kcmps : Piece.cmps ∈ ps) :
    FrameOut o ps (execSusEnd b t s) := by
  unfold Sys2Proof.Machine.execSusEnd
  dsimp -failIfUnchanged only
  with_reducible repeat' (first | assumption | (intro _) | apply FrameOut.next | exact FrameOut.fault | apply Frame.ite | apply Frame.ite2 | apply Frame.foldl | apply Frame.foldl2 | apply Frame.onNote | apply Frame.susEndNote | apply h0 | (fail_if_no_progress beta_reduce) | (fail_if_no_progress dsimp only) | split)

theorem Frame.execMark {o : State} {ps : List Piece} (b t : Nat) (s : State) (h0 : State.onlyIn o s ps) (kregs : Piece.regs ∈ ps) (khif : Piece.hif ∈ ps) (ksch : Piece.sch ∈ ps) (kbanks : Piece.banks ∈ ps) (kedges : Piece.edges ∈ ps) (kadc : Piece.adc ∈ ps) (kcmps : Piece.cmps ∈ ps) :
    FrameOut o ps (execMark b t s) := by
  unfold Sys2Proof.Machine.execMark
  dsimp -failIfUnchanged only
  with_reducible repeat' (first | assumption | (intro _) | apply FrameOut.next | exact FrameOut.fault | apply Frame.ite | apply Frame.ite2 | apply Frame.foldl | apply Frame.foldl2 | apply Frame.onNote | apply Frame.markNote | apply h0 | (fail_if_no_progress beta_reduce) | (fail_if_no_progress dsimp only) | split)

theorem Frame.execSample {o : State} {ps : List Piece} (b t : Nat) (s : State) (h0 : State.onlyIn o s ps) (kregs : Piece.regs ∈ ps) (khif : Piece.hif ∈ ps) (ksch : Piece.sch ∈ ps) (kbanks : Piece.banks ∈ ps) (kedges : Piece.edges ∈ ps) (kadc : Piece.adc ∈ ps) (kcmps : Piece.cmps ∈ ps) :
    FrameOut o ps (execSample b t s) := by
  unfold Sys2Proof.Machine.execSample
  dsimp -failIfUnchanged only
  with_reducible repeat' (first | assumption | (intro _) | apply FrameOut.next | exact FrameOut.fault | apply Frame.ite | apply Frame.ite2 | apply Frame.foldl | apply Frame.foldl2 | apply Frame.onNote | apply Frame.sample | apply Frame.sampleNote | apply h0 | (fail_if_no_progress beta_reduce) | (fail_if_no_progress dsimp only) | split)

theorem Frame.execEndNote {o : State} {ps : List Piece} (b t : Nat) (s : State) (h0 : State.onlyIn o s ps) (kregs : Piece.regs ∈ ps) (khif : Piece.hif ∈ ps) (ksch : Piece.sch ∈ ps) (kbanks : Piece.banks ∈ ps) (kedges : Piece.edges ∈ ps) (kadc : Piece.adc ∈ ps) (kcmps : Piece.cmps ∈ ps) :
    FrameOut o ps (execEndNote b t s) := by
  unfold Sys2Proof.Machine.execEndNote
  dsimp -failIfUnchanged only
  with_reducible repeat' (first | assumption | (intro _) | apply FrameOut.next | exact FrameOut.fault | apply Frame.ite | apply Frame.ite2 | apply Frame.foldl | apply Frame.foldl2 | apply Frame.onNote | apply Frame.endNote | apply h0 | (fail_if_no_progress beta_reduce) | (fail_if_no_progress dsimp only) | split)

theorem Frame.execPhraseOverrun {o : State} {ps : List Piece} (b t : Nat) (s : State) (h0 : State.onlyIn o s ps) (kregs : Piece.regs ∈ ps) (khif : Piece.hif ∈ ps) (ksch : Piece.sch ∈ ps) (kbanks : Piece.banks ∈ ps) (kedges : Piece.edges ∈ ps) (kadc : Piece.adc ∈ ps) (kcmps : Piece.cmps ∈ ps) :
    FrameOut o ps (execPhraseOverrun b t s) := by
  unfold Sys2Proof.Machine.execPhraseOverrun
  dsimp -failIfUnchanged only
  with_reducible repeat' (first | assumption | (intro _) | apply FrameOut.next | exact FrameOut.fault | apply Frame.ite | apply Frame.ite2 | apply Frame.foldl | apply Frame.foldl2 | apply Frame.fault | apply Frame.settleBank | apply h0 | (fail_if_no_progress beta_reduce) | (fail_if_no_progress dsimp only) | split)

theorem Frame.execWaitTargetReached {o : State} {ps : List Piece} (b t : Nat) (s : State) (h0 : State.onlyIn o s ps) (kregs : Piece.regs ∈ ps) (ksch : Piece.sch ∈ ps) (kbanks : Piece.banks ∈ ps) (kcmps : Piece.cmps ∈ ps) :
    FrameOut o ps (execWaitTargetReached b t s) := by
  unfold Sys2Proof.Machine.execWaitTargetReached
  dsimp -failIfUnchanged only
  with_reducible repeat' (first | assumption | (intro _) | apply FrameOut.next | exact FrameOut.fault | apply Frame.ite | apply Frame.ite2 | apply Frame.foldl | apply Frame.foldl2 | apply Frame.targetReached | apply Frame.settleBank | apply h0 | (fail_if_no_progress beta_reduce) | (fail_if_no_progress dsimp only) | split)

theorem Frame.execConditionTrue {o : State} {ps : List Piece} (b t : Nat) (s : State) (h0 : State.onlyIn o s ps) (kregs : Piece.regs ∈ ps) (ksch : Piece.sch ∈ ps) (kbanks : Piece.banks ∈ ps) (kcmps : Piece.cmps ∈ ps) :
    FrameOut o ps (execConditionTrue b t s) := by
  unfold Sys2Proof.Machine.execConditionTrue
  dsimp -failIfUnchanged only
  with_reducible repeat' (first | assumption | (intro _) | apply FrameOut.next | exact FrameOut.fault | apply Frame.ite | apply Frame.ite2 | apply Frame.foldl | apply Frame.foldl2 | apply Frame.conditionMet | apply Frame.settleBank | apply h0 | (fail_if_no_progress beta_reduce) | (fail_if_no_progress dsimp only) | split)

theorem Frame.execClaimDecision {o : State} {ps : List Piece} (b t : Nat) (s : State) (h0 : State.onlyIn o s ps) (kregs : Piece.regs ∈ ps) (kevc : Piece.evc ∈ ps) (ksch : Piece.sch ∈ ps) (kbanks : Piece.banks ∈ ps) (kedges : Piece.edges ∈ ps) (kcmps : Piece.cmps ∈ ps) :
    FrameOut o ps (execClaimDecision b t s) := by
  unfold Sys2Proof.Machine.execClaimDecision
  dsimp -failIfUnchanged only
  with_reducible repeat' (first | assumption | (intro _) | apply FrameOut.next | exact FrameOut.fault | apply Frame.ite | apply Frame.ite2 | apply Frame.foldl | apply Frame.foldl2 | apply Frame.decideClaim | apply Frame.settleBank | apply h0 | (fail_if_no_progress beta_reduce) | (fail_if_no_progress dsimp only) | split)

theorem Frame.execTokenGrant {o : State} {ps : List Piece} (b : Nat) (s : State) (h0 : State.onlyIn o s ps) (kregs : Piece.regs ∈ ps) (kevc : Piece.evc ∈ ps) (ksch : Piece.sch ∈ ps) (kbanks : Piece.banks ∈ ps) (kedges : Piece.edges ∈ ps) (kcmps : Piece.cmps ∈ ps) :
    FrameOut o ps (execTokenGrant b s) := by
  unfold Sys2Proof.Machine.execTokenGrant
  dsimp -failIfUnchanged only
  with_reducible repeat' (first | assumption | (intro _) | apply FrameOut.next | exact FrameOut.fault | apply Frame.ite | apply Frame.ite2 | apply Frame.foldl | apply Frame.foldl2 | apply Frame.passToken | apply Frame.settleBank | apply h0 | (fail_if_no_progress beta_reduce) | (fail_if_no_progress dsimp only) | split)

theorem Frame.execReedTimerZero {o : State} {ps : List Piece} (b t k : Nat) (s : State) (h0 : State.onlyIn o s ps) (kbanks : Piece.banks ∈ ps) :
    FrameOut o ps (execReedTimerZero b t k s) := by
  unfold Sys2Proof.Machine.execReedTimerZero
  dsimp -failIfUnchanged only
  with_reducible repeat' (first | assumption | (intro _) | apply FrameOut.next | exact FrameOut.fault | apply Frame.ite | apply Frame.ite2 | apply Frame.foldl | apply Frame.foldl2 | apply Frame.modThread | apply h0 | (fail_if_no_progress beta_reduce) | (fail_if_no_progress dsimp only) | split)

theorem Frame.execChopOffTimeEnd {o : State} {ps : List Piece} (b t : Nat) (s : State) (h0 : State.onlyIn o s ps) (kregs : Piece.regs ∈ ps) (ksch : Piece.sch ∈ ps) (kbanks : Piece.banks ∈ ps) (kcmps : Piece.cmps ∈ ps) :
    FrameOut o ps (execChopOffTimeEnd b t s) := by
  unfold Sys2Proof.Machine.execChopOffTimeEnd
  dsimp -failIfUnchanged only
  with_reducible repeat' (first | assumption | (intro _) | apply FrameOut.next | exact FrameOut.fault | apply Frame.ite | apply Frame.ite2 | apply Frame.foldl | apply Frame.foldl2 | apply Frame.modThread | apply Frame.chopGl | apply Frame.settleBank | apply h0 | (fail_if_no_progress beta_reduce) | (fail_if_no_progress dsimp only) | split)

theorem Frame.execMergeWatchClose {o : State} {ps : List Piece} (b t : Nat) (s : State) (h0 : State.onlyIn o s ps) (kregs : Piece.regs ∈ ps) (ksch : Piece.sch ∈ ps) (kbanks : Piece.banks ∈ ps) (kedges : Piece.edges ∈ ps) (kink : Piece.ink ∈ ps) (kcmps : Piece.cmps ∈ ps) :
    FrameOut o ps (execMergeWatchClose b t s) := by
  unfold Sys2Proof.Machine.execMergeWatchClose
  dsimp -failIfUnchanged only
  with_reducible repeat' (first | assumption | (intro _) | apply FrameOut.next | exact FrameOut.fault | apply Frame.ite | apply Frame.ite2 | apply Frame.foldl | apply Frame.foldl2 | apply Frame.closeWatch | apply Frame.settleBank | apply h0 | (fail_if_no_progress beta_reduce) | (fail_if_no_progress dsimp only) | split)

theorem Frame.execPhraseStoreSync {o : State} {ps : List Piece} (q : Nat) (s : State) (h0 : State.onlyIn o s ps) (kquads : Piece.quads ∈ ps) :
    FrameOut o ps (execPhraseStoreSync q s) := by
  unfold Sys2Proof.Machine.execPhraseStoreSync
  dsimp -failIfUnchanged only
  with_reducible repeat' (first | assumption | (intro _) | apply FrameOut.next | exact FrameOut.fault | apply Frame.ite | apply Frame.ite2 | apply Frame.foldl | apply Frame.foldl2 | apply Frame.modQuad | apply h0 | (fail_if_no_progress beta_reduce) | (fail_if_no_progress dsimp only) | split)

end Sys2Proof.Machine
end

