-- ==== Sys2Proof/Laws/Words.lean ====
section
/-! SUPPORT. Lemmas about fields of words and elements of lists. -/

namespace Sys2Proof

theorem place_eq (lo w v : Nat) : place lo w v = v % 2 ^ w * 2 ^ lo := by
  unfold place; exact Nat.shiftLeft_eq _ _

theorem bits_lt (x : Word) (lo w : Nat) : x.bits lo w < 2 ^ w := Nat.mod_lt _ (Nat.two_pow_pos w)

/-- The sum that setBits builds, split at the field: the bits below, the field and the bits above. -/
theorem field_split (n lo w : Nat) :
    n = n % 2 ^ lo + (n / 2 ^ lo % 2 ^ w) * 2 ^ lo + n / 2 ^ (lo + w) * 2 ^ (lo + w) := by
  have h1 := Nat.div_add_mod n (2 ^ lo)
  have h2 := Nat.div_add_mod (n / 2 ^ lo) (2 ^ w)
  rw [Nat.div_div_eq_div_mul, ← Nat.pow_add] at h2
  calc n = 2 ^ lo * (n / 2 ^ lo) + n % 2 ^ lo := h1.symm
    _ = 2 ^ lo * (2 ^ w * (n / 2 ^ (lo + w)) + n / 2 ^ lo % 2 ^ w) + n % 2 ^ lo := by rw [h2]
    _ = _ := by rw [Nat.pow_add]; ring

namespace Machine

/-- The value setBits writes. -/
theorem setBits_val (x : Word) (lo w v : Nat) :
    x.toNat - place lo w (x.toNat >>> lo) + place lo w v
      = x.toNat % 2 ^ lo + (v % 2 ^ w) * 2 ^ lo + x.toNat / 2 ^ (lo + w) * 2 ^ (lo + w) := by
  have h := field_split x.toNat lo w
  rw [place_eq, place_eq, Nat.shiftRight_eq_div_pow]
  omega

theorem setBits_toNat (x : Word) (lo w v : Nat) (h : lo + w ≤ 32) :
    (setBits x lo w v).toNat
      = x.toNat % 2 ^ lo + (v % 2 ^ w) * 2 ^ lo + x.toNat / 2 ^ (lo + w) * 2 ^ (lo + w) := by
  unfold setBits Word.ofN
  rw [setBits_val, BitVec.toNat_ofNat]
  apply Nat.mod_eq_of_lt
  have hx : x.toNat < 2 ^ 32 := x.isLt
  have hp : (2 : Nat) ^ 32 = 2 ^ (lo + w) * 2 ^ (32 - (lo + w)) := by rw [← Nat.pow_add]; congr 1; omega
  have h1 : x.toNat / 2 ^ (lo + w) + 1 ≤ 2 ^ (32 - (lo + w)) := by
    rw [hp] at hx; exact Nat.div_lt_of_lt_mul hx
  have h2 : x.toNat % 2 ^ lo < 2 ^ lo := Nat.mod_lt _ (Nat.two_pow_pos lo)
  have h3 : v % 2 ^ w + 1 ≤ 2 ^ w := Nat.mod_lt _ (Nat.two_pow_pos w)
  have h4 : (v % 2 ^ w + 1) * 2 ^ lo ≤ 2 ^ w * 2 ^ lo := Nat.mul_le_mul_right _ h3
  have h5 : (x.toNat / 2 ^ (lo + w) + 1) * 2 ^ (lo + w) ≤ 2 ^ (32 - (lo + w)) * 2 ^ (lo + w) := Nat.mul_le_mul_right _ h1
  have h6 : (2 : Nat) ^ w * 2 ^ lo = 2 ^ (lo + w) := by rw [← Nat.pow_add, Nat.add_comm]
  rw [hp]
  rw [Nat.add_mul] at h4 h5
  rw [h6] at h4
  rw [Nat.mul_comm (2 ^ (lo + w)) (2 ^ (32 - (lo + w)))]
  omega

/-- The field just written reads back. -/
theorem bits_setBits (x : Word) (lo w v : Nat) (h : lo + w ≤ 32) : (setBits x lo w v).bits lo w = v % 2 ^ w := by
  unfold Word.bits
  rw [setBits_toNat x lo w v h, Nat.shiftRight_eq_div_pow]
  have e : x.toNat % 2 ^ lo + v % 2 ^ w * 2 ^ lo + x.toNat / 2 ^ (lo + w) * 2 ^ (lo + w)
      = x.toNat % 2 ^ lo + 2 ^ lo * (v % 2 ^ w + 2 ^ w * (x.toNat / 2 ^ (lo + w))) := by rw [Nat.pow_add]; ring
  rw [e, Nat.add_mul_div_left _ _ (Nat.two_pow_pos lo), Nat.div_eq_of_lt (Nat.mod_lt _ (Nat.two_pow_pos lo)), Nat.zero_add,
    Nat.add_mul_mod_self_left, Nat.mod_mod]

/-- A field below the one written keeps its value. -/
theorem bits_setBits_below (x : Word) (lo w v a b : Nat) (h : lo + w ≤ 32) (hb : a + b ≤ lo) :
    (setBits x lo w v).bits a b = x.bits a b := by
  unfold Word.bits
  rw [setBits_toNat x lo w v h, Nat.shiftRight_eq_div_pow, Nat.shiftRight_eq_div_pow]
  conv_rhs => rw [field_split x.toNat lo w]
  obtain ⟨k, rfl⟩ : ∃ k, lo = a + b + k := ⟨lo - (a + b), by omega⟩
  have e : ∀ m, x.toNat % 2 ^ (a + b + k) + m * 2 ^ (a + b + k) + x.toNat / 2 ^ (a + b + k + w) * 2 ^ (a + b + k + w)
      = x.toNat % 2 ^ (a + b + k) + 2 ^ a * (2 ^ b * (2 ^ k * m + x.toNat / 2 ^ (a + b + k + w) * 2 ^ (k + w))) := by
    intro m; simp only [Nat.pow_add]; ring
  rw [e, e, Nat.add_mul_div_left _ _ (Nat.two_pow_pos a), Nat.add_mul_div_left _ _ (Nat.two_pow_pos a),
    Nat.add_mul_mod_self_left, Nat.add_mul_mod_self_left]

/-- A field above the one written keeps its value. -/
theorem bits_setBits_above (x : Word) (lo w v a b : Nat) (h : lo + w ≤ 32) (hb : lo + w ≤ a) :
    (setBits x lo w v).bits a b = x.bits a b := by
  unfold Word.bits
  rw [setBits_toNat x lo w v h, Nat.shiftRight_eq_div_pow, Nat.shiftRight_eq_div_pow]
  obtain ⟨k, rfl⟩ : ∃ k, a = lo + w + k := ⟨a - (lo + w), by omega⟩
  have h2 : x.toNat % 2 ^ lo < 2 ^ lo := Nat.mod_lt _ (Nat.two_pow_pos lo)
  have h3 : v % 2 ^ w + 1 ≤ 2 ^ w := Nat.mod_lt _ (Nat.two_pow_pos w)
  have h4 : (v % 2 ^ w + 1) * 2 ^ lo ≤ 2 ^ w * 2 ^ lo := Nat.mul_le_mul_right _ h3
  have h6 : (2 : Nat) ^ w * 2 ^ lo = 2 ^ (lo + w) := by rw [← Nat.pow_add, Nat.add_comm]
  rw [Nat.add_mul, h6] at h4
  have e : ∀ q, (x.toNat % 2 ^ lo + v % 2 ^ w * 2 ^ lo + q * 2 ^ (lo + w)) / 2 ^ (lo + w) = q := by
    intro q
    rw [Nat.add_mul_div_right _ _ (Nat.two_pow_pos _), Nat.div_eq_of_lt (by omega), Nat.zero_add]
  rw [Nat.pow_add 2 (lo + w) k, ← Nat.div_div_eq_div_mul, e, Nat.div_div_eq_div_mul]

end Machine

/-! Lists -/

@[simp] theorem modAt_length {α : Type} (l : List α) (i : Nat) (f : α → α) : (modAt l i f).length = l.length := by
  induction l generalizing i with
  | nil => rfl
  | cons x xs ih => cases i with
    | zero => rfl
    | succ i => simp [modAt, ih]

theorem modAt_getD {α : Type} (l : List α) (i j : Nat) (f : α → α) (d : α) :
    (modAt l i f).getD j d = if i = j ∧ j < l.length then f (l.getD j d) else l.getD j d := by
  induction l generalizing i j with
  | nil => simp [modAt]
  | cons x xs ih =>
    cases i with
    | zero => cases j with
      | zero => simp [modAt]
      | succ j => simp [modAt]
    | succ i => cases j with
      | zero => simp [modAt]
      | succ j => simpa [modAt] using ih i j

@[simp] theorem setAt_length {α : Type} (l : List α) (i : Nat) (a : α) : (setAt l i a).length = l.length := by
  induction l generalizing i with
  | nil => rfl
  | cons x xs ih => cases i with
    | zero => rfl
    | succ i => simp [setAt, ih]

theorem setAt_getD {α : Type} (l : List α) (i j : Nat) (a d : α) :
    (setAt l i a).getD j d = if i = j ∧ j < l.length then a else l.getD j d := by
  induction l generalizing i j with
  | nil => simp [setAt]
  | cons x xs ih =>
    cases i with
    | zero => cases j with
      | zero => simp [setAt]
      | succ j => simp [setAt]
    | succ i => cases j with
      | zero => simp [setAt]
      | succ j => simpa [setAt] using ih i j

end Sys2Proof
end

