-- ==== Sys2Proof/Laws/Maps.lean ====
section
/-! SUPPORT. The sparse maps of set-up words: a write reads back, leaves every other offset alone and keeps the canonical
form. -/

namespace Sys2Proof.Machine

theorem WMap.above_trans {a b : Nat} {m : WMap} (h : a ≤ b) (k : WMap.above b m = true) : WMap.above a m = true := by
  cases m with
  | nil => rfl
  | cons x m => simp [WMap.above] at k ⊢; omega

theorem WMap.put_above {a b : Nat} {v : Word} {m : WMap} (h : b < a) (k : WMap.above b m = true) (w : WMap.wf m = true) :
    WMap.above b (WMap.put a v m) = true := by
  cases m with
  | nil => unfold WMap.put; split <;> simp [WMap.above, h]
  | cons x m =>
    obtain ⟨c, u⟩ := x
    simp [WMap.above] at k
    simp [WMap.wf] at w
    have kb : WMap.above b m = true := WMap.above_trans (Nat.le_of_lt k) w.1.2
    unfold WMap.put
    repeat' split
    all_goals first | exact kb | simpa [WMap.above] using h | simpa [WMap.above] using k

/-- A write keeps the canonical form. -/
theorem WMap.put_wf (a : Nat) (v : Word) (m : WMap) (h : WMap.wf m = true) : WMap.wf (WMap.put a v m) = true := by
  induction m with
  | nil => unfold WMap.put; split <;> simp [WMap.wf, WMap.above, *]
  | cons x m ih =>
    obtain ⟨b, w⟩ := x
    have h' := h
    simp [WMap.wf] at h
    unfold WMap.put
    split
    · next l =>
      split
      · exact h'
      · next r =>
        have k : WMap.above a ((b, w) :: m) = true := by simpa [WMap.above] using l
        have k' : decide (v ≠ resetWord a) = true := by simpa using r
        unfold WMap.wf; rw [k, k', h']; rfl
    · split
      · next e =>
        subst e
        split
        · exact h.2
        · next r => simp [WMap.wf, h.1.2, h.2, r]
      · have := WMap.put_above (b := b) (v := v) (m := m) (a := a) (by omega) h.1.2 h.2
        simp [WMap.wf, h.1.1, this, ih h.2]

theorem WMap.find_above {a : Nat} {m : WMap} (h : WMap.above a m = true) (w : WMap.wf m = true) : WMap.find a m = none := by
  induction m with
  | nil => rfl
  | cons x m ih =>
    obtain ⟨b, v⟩ := x
    simp [WMap.above] at h
    simp [WMap.wf] at w
    unfold WMap.find
    rw [if_neg (by omega)]
    exact ih (WMap.above_trans (Nat.le_of_lt h) w.1.2) w.2

/-- A write reads back, and every other offset reads as before. -/
theorem WMap.word_put (m : WMap) (a b : Nat) (v : Word) (h : WMap.wf m = true) :
    WMap.word (WMap.put a v m) b = if b = a then v else WMap.word m b := by
  unfold WMap.word
  induction m with
  | nil =>
    unfold WMap.put
    by_cases e : b = a
    · subst e; by_cases r : v = resetWord b
      · simp [r, WMap.find]
      · simp [r, WMap.find]
    · by_cases r : v = resetWord a
      · simp [r, WMap.find, e]
      · simp [r, WMap.find, e]
  | cons x m ih =>
    obtain ⟨c, w⟩ := x
    have hw := h
    simp [WMap.wf] at h
    unfold WMap.put
    by_cases l : a < c
    · rw [if_pos l]
      by_cases r : v = resetWord a
      · rw [if_pos r]
        by_cases e : b = a
        · subst e
          have : WMap.find b ((c, w) :: m) = none := WMap.find_above (by simp [WMap.above, l]) hw
          rw [this, if_pos rfl, r]; rfl
        · rw [if_neg e]
      · rw [if_neg r]
        by_cases e : b = a
        · subst e; simp [WMap.find]
        · simp [WMap.find, e]
    · rw [if_neg l]
      by_cases q : a = c
      · rw [if_pos q]
        by_cases r : v = resetWord a
        · rw [if_pos r]
          by_cases e : b = a
          · subst e; subst q
            rw [WMap.find_above h.1.2 h.2, if_pos rfl, r]; rfl
          · have : b ≠ c := by omega
            simp [WMap.find, e, this]
        · rw [if_neg r]
          by_cases e : b = a
          · subst e; simp [WMap.find]
          · have : b ≠ c := by omega
            simp [WMap.find, e, this]
      · rw [if_neg q]
        by_cases e : b = c
        · have : b ≠ a := by omega
          simp [WMap.find, e]
          intro hh; omega
        · have := ih h.2
          simp only [WMap.find, e, if_false]
          exact this

theorem WMap.word_put_same (m : WMap) (a : Nat) (v : Word) (h : WMap.wf m = true) : WMap.word (WMap.put a v m) a = v := by
  rw [WMap.word_put m a a v h, if_pos rfl]

theorem WMap.word_put_other (m : WMap) (a b : Nat) (v : Word) (h : WMap.wf m = true) (k : b ≠ a) :
    WMap.word (WMap.put a v m) b = WMap.word m b := by rw [WMap.word_put m a b v h, if_neg k]

/-! The live copy -/

theorem State.word_putWord (s : State) (a b : Nat) (v : Word) (h : s.regs.live.wf = true) :
    (s.putWord a v).word b = if b = a then v else s.word b := WMap.word_put _ _ _ _ h

@[simp] theorem State.shadowWord_putWord (s : State) (a b : Nat) (v : Word) : (s.putWord a v).shadowWord b = s.shadowWord b := rfl

theorem State.word_set (s : State) (f : Fld) (b v : Nat) (h : s.regs.live.wf = true) :
    (s.set f v).word b = if b = f.a then setBits (s.word f.a) f.lo f.w v else s.word b := WMap.word_put _ _ _ _ h

/-- A field written reads back. -/
theorem State.get_set (s : State) (f : Fld) (v : Nat) (h : s.regs.live.wf = true) (k : f.lo + f.w ≤ 32) :
    (s.set f v).get f = v % 2 ^ f.w := by
  unfold State.get
  rw [State.word_set _ _ _ _ h, if_pos rfl, bits_setBits _ _ _ _ k]

/-- A write of one field leaves every field of another word alone. -/
theorem State.get_set_other (s : State) (f g : Fld) (v : Nat) (h : s.regs.live.wf = true) (k : g.a ≠ f.a) :
    (s.set f v).get g = s.get g := by
  unfold State.get
  rw [State.word_set _ _ _ _ h, if_neg k]

theorem State.word_set_other (s : State) (f : Fld) (a v : Nat) (h : s.regs.live.wf = true) (k : a ≠ f.a) :
    (s.set f v).word a = s.word a := by
  rw [State.word_set _ _ _ _ h, if_neg k]

theorem State.get_lt (s : State) (f : Fld) : s.get f < 2 ^ f.w := bits_lt _ _ _

theorem State.word_addSat (s : State) (f : Fld) (b n : Nat) (h : s.regs.live.wf = true) :
    (s.addSat f n).word b = if b = f.a then setBits (s.word f.a) f.lo f.w (satAdd f.w (s.get f) n) else s.word b :=
  WMap.word_put _ _ _ _ h

/-- A counter that counts n saturates at all ones. -/
theorem State.get_addSat (s : State) (f : Fld) (n : Nat) (h : s.regs.live.wf = true) (k : f.lo + f.w ≤ 32) :
    (s.addSat f n).get f = min (s.get f + n) (2 ^ f.w - 1) := by
  show ((s.addSat f n).word f.a).bits f.lo f.w = _
  rw [State.word_addSat _ _ _ _ h, if_pos rfl, bits_setBits _ _ _ _ k]
  unfold satAdd
  have := Nat.two_pow_pos f.w
  exact Nat.mod_eq_of_lt (by omega)

theorem State.get_addSat_other (s : State) (f g : Fld) (n : Nat) (h : s.regs.live.wf = true) (k : g.a ≠ f.a) :
    (s.addSat f n).get g = s.get g := by
  unfold State.get
  rw [State.word_addSat _ _ _ _ h, if_neg k]

theorem State.get_count (s : State) (f : Fld) (h : s.regs.live.wf = true) (k : f.lo + f.w ≤ 32) :
    (s.count f).get f = min (s.get f + 1) (2 ^ f.w - 1) := State.get_addSat s f 1 h k

theorem State.get_count_other (s : State) (f g : Fld) (h : s.regs.live.wf = true) (k : g.a ≠ f.a) :
    (s.count f).get g = s.get g := State.get_addSat_other s f g 1 h k

end Sys2Proof.Machine
end

