-- ==== Sys2Proof/Laws/Kept.lean ====
section
/-! SUPPORT. What every operation keeps: Kept o s says that s has the part, the queue and the image of o, and that it is well
shaped. One lemma per operation (Laws/KeptOps.lean, Laws/KeptExec.lean); the provers cite these instead of unfolding an operation. -/

namespace Sys2Proof.Machine

def RegsKept (o : State) (r : RegFile) : Prop :=
  r.image = o.regs.image ∧ r.imgKind = o.regs.imgKind ∧ r.live.wf = true ∧ r.shadow.wf = true ∧ r.image.wf = true

/-- The parts of a state that came from o by operations that touch neither the part, nor the queue, nor the image, and keep
every map canonical and every list at its length. -/
structure KeptParts (o : State) (part : Part) (pending : List Instr) (regs : RegFile) (clk : Clk) (hif : Hif) (evc : Evc) (sec : Sec) (whl : Whl) (sch : Sch) (banks : List Bank) (quads : List Quad) (ink : Ink) (grds : List Grd) (adc : Adc) (cmps : Cmps) (tmrs : List Tmr) (nibs : List Nib) : Prop where
  part : part = o.part
  pending : pending = o.pending
  regs : RegsKept o regs
  clk : Clk.shaped clk
  hif : Hif.shaped hif
  evc : Evc.shaped evc
  sec : Sec.shaped sec
  whl : Whl.shaped whl
  sch : Sch.shaped sch
  banks : BanksOk banks
  quads : QuadsOk quads
  ink : Ink.shaped ink
  grds : GrdsOk grds
  adc : Adc.shaped adc
  cmps : Cmps.shaped cmps
  tmrs : TmrsOk tmrs
  nibs : NibsOk nibs

def Kept (o s : State) : Prop := KeptParts o s.part s.pending s.regs s.clk s.hif s.evc s.sec s.whl s.sch s.banks s.quads s.ink s.grds s.adc s.cmps s.tmrs s.nibs

theorem Kept.of {o s : State} (h : Kept o s) : KeptParts o s.part s.pending s.regs s.clk s.hif s.evc s.sec s.whl s.sch s.banks s.quads s.ink s.grds s.adc s.cmps s.tmrs s.nibs := h
theorem Kept.mk_iff {o : State} {part clk regs sys hif evc sec whl ang sch banks quads edges ink grds adc cmps tmrs nibs tst slur jtag ans freeCtr pending} :
    Kept o (State.mk part clk regs sys hif evc sec whl ang sch banks quads edges ink grds adc cmps tmrs nibs tst slur jtag ans freeCtr pending) ↔ KeptParts o part pending regs clk hif evc sec whl sch banks quads ink grds adc cmps tmrs nibs := Iff.rfl
theorem Kept.part {o s : State} (h : Kept o s) : s.part = o.part := KeptParts.part h
theorem Kept.pending {o s : State} (h : Kept o s) : s.pending = o.pending := KeptParts.pending h
theorem Kept.regs {o s : State} (h : Kept o s) : RegsKept o s.regs := KeptParts.regs h
theorem Kept.clk {o s : State} (h : Kept o s) : Clk.shaped s.clk := KeptParts.clk h
theorem Kept.hif {o s : State} (h : Kept o s) : Hif.shaped s.hif := KeptParts.hif h
theorem Kept.evc {o s : State} (h : Kept o s) : Evc.shaped s.evc := KeptParts.evc h
theorem Kept.sec {o s : State} (h : Kept o s) : Sec.shaped s.sec := KeptParts.sec h
theorem Kept.whl {o s : State} (h : Kept o s) : Whl.shaped s.whl := KeptParts.whl h
theorem Kept.sch {o s : State} (h : Kept o s) : Sch.shaped s.sch := KeptParts.sch h
theorem Kept.banks {o s : State} (h : Kept o s) : BanksOk s.banks := KeptParts.banks h
theorem Kept.quads {o s : State} (h : Kept o s) : QuadsOk s.quads := KeptParts.quads h
theorem Kept.ink {o s : State} (h : Kept o s) : Ink.shaped s.ink := KeptParts.ink h
theorem Kept.grds {o s : State} (h : Kept o s) : GrdsOk s.grds := KeptParts.grds h
theorem Kept.adc {o s : State} (h : Kept o s) : Adc.shaped s.adc := KeptParts.adc h
theorem Kept.cmps {o s : State} (h : Kept o s) : Cmps.shaped s.cmps := KeptParts.cmps h
theorem Kept.tmrs {o s : State} (h : Kept o s) : TmrsOk s.tmrs := KeptParts.tmrs h
theorem Kept.nibs {o s : State} (h : Kept o s) : NibsOk s.nibs := KeptParts.nibs h
theorem Kept.with_regs {o s : State} {x : RegFile} (h : Kept o s) (k : RegsKept o x) : KeptParts o s.part s.pending x s.clk s.hif s.evc s.sec s.whl s.sch s.banks s.quads s.ink s.grds s.adc s.cmps s.tmrs s.nibs := { h.of with regs := k }

theorem Kept.with_clk {o s : State} {x : Clk} (h : Kept o s) (k : Clk.shaped x) : KeptParts o s.part s.pending s.regs x s.hif s.evc s.sec s.whl s.sch s.banks s.quads s.ink s.grds s.adc s.cmps s.tmrs s.nibs := { h.of with clk := k }

theorem Kept.with_hif {o s : State} {x : Hif} (h : Kept o s) (k : Hif.shaped x) : KeptParts o s.part s.pending s.regs s.clk x s.evc s.sec s.whl s.sch s.banks s.quads s.ink s.grds s.adc s.cmps s.tmrs s.nibs := { h.of with hif := k }

theorem Kept.with_evc {o s : State} {x : Evc} (h : Kept o s) (k : Evc.shaped x) : KeptParts o s.part s.pending s.regs s.clk s.hif x s.sec s.whl s.sch s.banks s.quads s.ink s.grds s.adc s.cmps s.tmrs s.nibs := { h.of with evc := k }

theorem Kept.with_sec {o s : State} {x : Sec} (h : Kept o s) (k : Sec.shaped x) : KeptParts o s.part s.pending s.regs s.clk s.hif s.evc x s.whl s.sch s.banks s.quads s.ink s.grds s.adc s.cmps s.tmrs s.nibs := { h.of with sec := k }

theorem Kept.with_whl {o s : State} {x : Whl} (h : Kept o s) (k : Whl.shaped x) : KeptParts o s.part s.pending s.regs s.clk s.hif s.evc s.sec x s.sch s.banks s.quads s.ink s.grds s.adc s.cmps s.tmrs s.nibs := { h.of with whl := k }

theorem Kept.with_sch {o s : State} {x : Sch} (h : Kept o s) (k : Sch.shaped x) : KeptParts o s.part s.pending s.regs s.clk s.hif s.evc s.sec s.whl x s.banks s.quads s.ink s.grds s.adc s.cmps s.tmrs s.nibs := { h.of with sch := k }

theorem Kept.with_banks {o s : State} {x : List Bank} (h : Kept o s) (k : BanksOk x) : KeptParts o s.part s.pending s.regs s.clk s.hif s.evc s.sec s.whl s.sch x s.quads s.ink s.grds s.adc s.cmps s.tmrs s.nibs := { h.of with banks := k }

theorem Kept.with_quads {o s : State} {x : List Quad} (h : Kept o s) (k : QuadsOk x) : KeptParts o s.part s.pending s.regs s.clk s.hif s.evc s.sec s.whl s.sch s.banks x s.ink s.grds s.adc s.cmps s.tmrs s.nibs := { h.of with quads := k }

theorem Kept.with_ink {o s : State} {x : Ink} (h : Kept o s) (k : Ink.shaped x) : KeptParts o s.part s.pending s.regs s.clk s.hif s.evc s.sec s.whl s.sch s.banks s.quads x s.grds s.adc s.cmps s.tmrs s.nibs := { h.of with ink := k }

theorem Kept.with_grds {o s : State} {x : List Grd} (h : Kept o s) (k : GrdsOk x) : KeptParts o s.part s.pending s.regs s.clk s.hif s.evc s.sec s.whl s.sch s.banks s.quads s.ink x s.adc s.cmps s.tmrs s.nibs := { h.of with grds := k }

theorem Kept.with_adc {o s : State} {x : Adc} (h : Kept o s) (k : Adc.shaped x) : KeptParts o s.part s.pending s.regs s.clk s.hif s.evc s.sec s.whl s.sch s.banks s.quads s.ink s.grds x s.cmps s.tmrs s.nibs := { h.of with adc := k }

theorem Kept.with_cmps {o s : State} {x : Cmps} (h : Kept o s) (k : Cmps.shaped x) : KeptParts o s.part s.pending s.regs s.clk s.hif s.evc s.sec s.whl s.sch s.banks s.quads s.ink s.grds s.adc x s.tmrs s.nibs := { h.of with cmps := k }

theorem Kept.with_tmrs {o s : State} {x : List Tmr} (h : Kept o s) (k : TmrsOk x) : KeptParts o s.part s.pending s.regs s.clk s.hif s.evc s.sec s.whl s.sch s.banks s.quads s.ink s.grds s.adc s.cmps x s.nibs := { h.of with tmrs := k }

theorem Kept.with_nibs {o s : State} {x : List Nib} (h : Kept o s) (k : NibsOk x) : KeptParts o s.part s.pending s.regs s.clk s.hif s.evc s.sec s.whl s.sch s.banks s.quads s.ink s.grds s.adc s.cmps s.tmrs x := { h.of with nibs := k }

theorem Kept.ite {a : State} {c : Prop} [Decidable c] {x y : State} (h : Kept a x) (k : Kept a y) : Kept a (if c then x else y) := by
  split <;> assumption

theorem Kept.ite2 {α : Type} {a : State} {c : Prop} [Decidable c] {x y : α × State} (h : Kept a x.2) (k : Kept a y.2) :
    Kept a (if c then x else y).2 := by
  split <;> assumption

theorem Kept.foldl {α : Type} {a s : State} {f : State → α → State} {l : List α} (h : Kept a s)
    (k : ∀ x y, Kept a x → Kept a (f x y)) : Kept a (l.foldl f s) := by
  induction l generalizing s with
  | nil => exact h
  | cons x l ih => exact ih (k _ _ h)

theorem Kept.foldl2 {α β : Type} {a s : State} {f : β × State → α → β × State} {l : List α} {b : β} (h : Kept a s)
    (k : ∀ z x y, Kept a x → Kept a (f (z, x) y).2) : Kept a (l.foldl f (b, s)).2 := by
  induction l generalizing s b with
  | nil => exact h
  | cons x l ih => exact ih (b := (f (b, s) x).1) (s := (f (b, s) x).2) (k _ _ _ h)

theorem Kept.foldr {α : Type} {a s : State} {f : α → State → State} {l : List α} (h : Kept a s)
    (k : ∀ y x, Kept a x → Kept a (f y x)) : Kept a (l.foldr f s) := by
  induction l with
  | nil => exact h
  | cons x l ih => exact k _ _ ih

theorem mem_modAtBank {l : List Bank} {i : Nat} {f : Bank → Bank} (h : ∀ k ∈ l, k.shaped) (g : ∀ k, k.shaped → (f k).shaped) :
    ∀ k ∈ modAt l i f, k.shaped := by
  induction l generalizing i with
  | nil => exact h
  | cons x xs ih =>
    cases i with
    | zero => intro k hk; cases hk with
      | head => exact g _ (h _ (.head _))
      | tail _ hk => exact h _ (.tail _ hk)
    | succ i => intro k hk; cases hk with
      | head => exact h _ (.head _)
      | tail _ hk => exact ih (fun k hk => h k (.tail _ hk)) k hk

theorem BanksOk.modAt {l : List Bank} {i : Nat} {f : Bank → Bank} (h : BanksOk l) (g : ∀ k, k.shaped → (f k).shaped) : BanksOk (modAt l i f) :=
  ⟨(modAt_length _ _ _).trans h.1, mem_modAtBank h.2 g⟩

theorem BanksOk.map {l : List Bank} {f : Bank → Bank} (h : BanksOk l) (g : ∀ k, k.shaped → (f k).shaped) : BanksOk (l.map f) :=
  ⟨(List.length_map _).trans h.1, by intro k hk; obtain ⟨j, hj, rfl⟩ := List.mem_map.1 hk; exact g _ (h.2 j hj)⟩

theorem BanksOk.mapIdx {l : List Bank} {f : Nat → Bank → Bank} (h : BanksOk l) (g : ∀ n k, k.shaped → (f n k).shaped) : BanksOk (l.mapIdx f) :=
  ⟨List.length_mapIdx.trans h.1, by intro k hk; obtain ⟨i, hi, rfl⟩ := List.mem_mapIdx.1 hk; exact g _ _ (h.2 _ (List.getElem_mem hi))⟩

theorem BanksOk.getD {l : List Bank} (h : BanksOk l) (n : Nat) : (l.getD n Bank.initial).shaped := by
  rw [List.getD_eq_getElem?_getD]
  cases e : l[n]? with
  | none => exact (by decide : (Bank.initial).threads.length = 2)
  | some k => exact h.2 k (List.mem_of_getElem? e)

theorem mem_modAtGrd {l : List Grd} {i : Nat} {f : Grd → Grd} (h : ∀ k ∈ l, k.shaped) (g : ∀ k, k.shaped → (f k).shaped) :
    ∀ k ∈ modAt l i f, k.shaped := by
  induction l generalizing i with
  | nil => exact h
  | cons x xs ih =>
    cases i with
    | zero => intro k hk; cases hk with
      | head => exact g _ (h _ (.head _))
      | tail _ hk => exact h _ (.tail _ hk)
    | succ i => intro k hk; cases hk with
      | head => exact h _ (.head _)
      | tail _ hk => exact ih (fun k hk => h k (.tail _ hk)) k hk

theorem GrdsOk.modAt {l : List Grd} {i : Nat} {f : Grd → Grd} (h : GrdsOk l) (g : ∀ k, k.shaped → (f k).shaped) : GrdsOk (modAt l i f) :=
  ⟨(modAt_length _ _ _).trans h.1, mem_modAtGrd h.2 g⟩

theorem GrdsOk.map {l : List Grd} {f : Grd → Grd} (h : GrdsOk l) (g : ∀ k, k.shaped → (f k).shaped) : GrdsOk (l.map f) :=
  ⟨(List.length_map _).trans h.1, by intro k hk; obtain ⟨j, hj, rfl⟩ := List.mem_map.1 hk; exact g _ (h.2 j hj)⟩

theorem GrdsOk.mapIdx {l : List Grd} {f : Nat → Grd → Grd} (h : GrdsOk l) (g : ∀ n k, k.shaped → (f n k).shaped) : GrdsOk (l.mapIdx f) :=
  ⟨List.length_mapIdx.trans h.1, by intro k hk; obtain ⟨i, hi, rfl⟩ := List.mem_mapIdx.1 hk; exact g _ _ (h.2 _ (List.getElem_mem hi))⟩

theorem GrdsOk.getD {l : List Grd} (h : GrdsOk l) (n : Nat) : (l.getD n Grd.initial).shaped := by
  rw [List.getD_eq_getElem?_getD]
  cases e : l[n]? with
  | none => exact (by decide : (Grd.initial).held8.length = 8)
  | some k => exact h.2 k (List.mem_of_getElem? e)

theorem mem_modAtNib {l : List Nib} {i : Nat} {f : Nib → Nib} (h : ∀ k ∈ l, k.shaped) (g : ∀ k, k.shaped → (f k).shaped) :
    ∀ k ∈ modAt l i f, k.shaped := by
  induction l generalizing i with
  | nil => exact h
  | cons x xs ih =>
    cases i with
    | zero => intro k hk; cases hk with
      | head => exact g _ (h _ (.head _))
      | tail _ hk => exact h _ (.tail _ hk)
    | succ i => intro k hk; cases hk with
      | head => exact h _ (.head _)
      | tail _ hk => exact ih (fun k hk => h k (.tail _ hk)) k hk

theorem NibsOk.modAt {l : List Nib} {i : Nat} {f : Nib → Nib} (h : NibsOk l) (g : ∀ k, k.shaped → (f k).shaped) : NibsOk (modAt l i f) :=
  ⟨(modAt_length _ _ _).trans h.1, mem_modAtNib h.2 g⟩

theorem NibsOk.map {l : List Nib} {f : Nib → Nib} (h : NibsOk l) (g : ∀ k, k.shaped → (f k).shaped) : NibsOk (l.map f) :=
  ⟨(List.length_map _).trans h.1, by intro k hk; obtain ⟨j, hj, rfl⟩ := List.mem_map.1 hk; exact g _ (h.2 j hj)⟩

theorem NibsOk.mapIdx {l : List Nib} {f : Nat → Nib → Nib} (h : NibsOk l) (g : ∀ n k, k.shaped → (f n k).shaped) : NibsOk (l.mapIdx f) :=
  ⟨List.length_mapIdx.trans h.1, by intro k hk; obtain ⟨i, hi, rfl⟩ := List.mem_mapIdx.1 hk; exact g _ _ (h.2 _ (List.getElem_mem hi))⟩

theorem NibsOk.getD {l : List Nib} (h : NibsOk l) (n : Nat) : (l.getD n Nib.initial).shaped := by
  rw [List.getD_eq_getElem?_getD]
  cases e : l[n]? with
  | none => exact (by decide : (Nib.initial).ink.length = 8)
  | some k => exact h.2 k (List.mem_of_getElem? e)

theorem QuadsOk.modAt {l : List Quad} {i : Nat} {f : Quad → Quad} (h : QuadsOk l) : QuadsOk (modAt l i f) := (modAt_length _ _ _).trans h
theorem QuadsOk.map {l : List Quad} {f : Quad → Quad} (h : QuadsOk l) : QuadsOk (l.map f) := (List.length_map _).trans h
theorem QuadsOk.mapIdx {l : List Quad} {f : Nat → Quad → Quad} (h : QuadsOk l) : QuadsOk (l.mapIdx f) := List.length_mapIdx.trans h

theorem TmrsOk.modAt {l : List Tmr} {i : Nat} {f : Tmr → Tmr} (h : TmrsOk l) : TmrsOk (modAt l i f) := (modAt_length _ _ _).trans h
theorem TmrsOk.map {l : List Tmr} {f : Tmr → Tmr} (h : TmrsOk l) : TmrsOk (l.map f) := (List.length_map _).trans h
theorem TmrsOk.mapIdx {l : List Tmr} {f : Nat → Tmr → Tmr} (h : TmrsOk l) : TmrsOk (l.mapIdx f) := List.length_mapIdx.trans h

theorem Clk.shaped_mk {x0 x1 x2 x3 x4 x5 x6 x7 x8 x9 x10 x11 x12} : (Clk.mk x0 x1 x2 x3 x4 x5 x6 x7 x8 x9 x10 x11 x12).shaped ↔ x10.length = 4 ∧ x11.length = 4 := Iff.rfl
theorem Clk.shaped_qrun {x : Clk} (h : x.shaped) : x.qrun.length = 4 := h.1
theorem Clk.shaped_qidle {x : Clk} (h : x.shaped) : x.qidle.length = 4 := h.2
theorem Hif.shaped_mk {x0 x1 x2 x3 x4 x5 x6 x7 x8 x9 x10 x11 x12 x13 x14 x15 x16 x17 x18 x19 x20 x21 x22 x23 x24 x25 x26 x27 x28 x29 x30 x31 x32 x33 x34 x35 x36 x37 x38} : (Hif.mk x0 x1 x2 x3 x4 x5 x6 x7 x8 x9 x10 x11 x12 x13 x14 x15 x16 x17 x18 x19 x20 x21 x22 x23 x24 x25 x26 x27 x28 x29 x30 x31 x32 x33 x34 x35 x36 x37 x38).shaped ↔ x13.length = 19 ∧ x12.length = 8 ∧ x35.length = 4 := Iff.rfl
theorem Hif.shaped_rings {x : Hif} (h : x.shaped) : x.rings.length = 19 := h.1
theorem Hif.shaped_vecPend {x : Hif} (h : x.shaped) : x.vecPend.length = 8 := h.2.1
theorem Hif.shaped_cqFull {x : Hif} (h : x.shaped) : x.cqFull.length = 4 := h.2.2
theorem Evc.shaped_mk {x0 x1 x2 x3} : (Evc.mk x0 x1 x2 x3).shaped ↔ x0.length = 64 ∧ x1.length = 16 ∧ x2.length = 4 ∧ x3.length = 8 := Iff.rfl
theorem Evc.shaped_srcs {x : Evc} (h : x.shaped) : x.srcs.length = 64 := h.1
theorem Evc.shaped_groups {x : Evc} (h : x.shaped) : x.groups.length = 16 := h.2.1
theorem Evc.shaped_targets {x : Evc} (h : x.shaped) : x.targets.length = 4 := h.2.2.1
theorem Evc.shaped_ext {x : Evc} (h : x.shaped) : x.ext.length = 8 := h.2.2.2
theorem Sec.shaped_mk {x0 x1 x2 x3 x4 x5 x6 x7 x8 x9 x10 x11 x12 x13 x14 x15 x16 x17 x18 x19 x20 x21 x22 x23 x24 x25 x26 x27 x28 x29 x30 x31 x32} : (Sec.mk x0 x1 x2 x3 x4 x5 x6 x7 x8 x9 x10 x11 x12 x13 x14 x15 x16 x17 x18 x19 x20 x21 x22 x23 x24 x25 x26 x27 x28 x29 x30 x31 x32).shaped ↔ x10.length = 4 ∧ x11.length = 4 := Iff.rfl
theorem Sec.shaped_resp {x : Sec} (h : x.shaped) : x.resp.length = 4 := h.1
theorem Sec.shaped_key {x : Sec} (h : x.shaped) : x.key.length = 4 := h.2
theorem Whl.shaped_mk {x0 x1 x2 x3 x4 x5 x6 x7 x8 x9 x10 x11 x12 x13 x14 x15 x16 x17 x18 x19 x20 x21 x22 x23 x24 x25 x26 x27} : (Whl.mk x0 x1 x2 x3 x4 x5 x6 x7 x8 x9 x10 x11 x12 x13 x14 x15 x16 x17 x18 x19 x20 x21 x22 x23 x24 x25 x26 x27).shaped ↔ x17.length = 4 := Iff.rfl
theorem Whl.shaped_camK {x : Whl} (h : x.shaped) : x.camK.length = 4 := h
theorem Sch.shaped_mk {x0 x1 x2 x3} : (Sch.mk x0 x1 x2 x3).shaped ↔ x2.length = 96 := Iff.rfl
theorem Sch.shaped_chans {x : Sch} (h : x.shaped) : x.chans.length = 96 := h
theorem Bank.shaped_mk {x0 x1 x2 x3 x4 x5 x6 x7 x8 x9 x10 x11} : (Bank.mk x0 x1 x2 x3 x4 x5 x6 x7 x8 x9 x10 x11).shaped ↔ x0.length = 2 := Iff.rfl
theorem Bank.shaped_threads {x : Bank} (h : x.shaped) : x.threads.length = 2 := h
theorem Ink.shaped_mk {x0 x1 x2 x3} : (Ink.mk x0 x1 x2 x3).shaped ↔ x0.length = 8 := Iff.rfl
theorem Ink.shaped_rails {x : Ink} (h : x.shaped) : x.rails.length = 8 := h
theorem Grd.shaped_mk {x0 x1 x2 x3 x4 x5 x6 x7 x8 x9 x10 x11 x12 x13 x14 x15 x16 x17 x18 x19 x20 x21 x22 x23 x24 x25 x26 x27 x28 x29 x30 x31 x32 x33} : (Grd.mk x0 x1 x2 x3 x4 x5 x6 x7 x8 x9 x10 x11 x12 x13 x14 x15 x16 x17 x18 x19 x20 x21 x22 x23 x24 x25 x26 x27 x28 x29 x30 x31 x32 x33).shaped ↔ x26.length = 8 := Iff.rfl
theorem Grd.shaped_held8 {x : Grd} (h : x.shaped) : x.held8.length = 8 := h
theorem Adc.shaped_mk {x0 x1 x2 x3 x4 x5 x6 x7 x8 x9 x10} : (Adc.mk x0 x1 x2 x3 x4 x5 x6 x7 x8 x9 x10).shaped ↔ x0.length = 6 := Iff.rfl
theorem Adc.shaped_convs {x : Adc} (h : x.shaped) : x.convs.length = 6 := h
theorem Cmps.shaped_mk {x0 x1 x2 x3 x4 x5 x6 x7 x8} : (Cmps.mk x0 x1 x2 x3 x4 x5 x6 x7 x8).shaped ↔ x0.length = 24 ∧ x1.length = 24 ∧ x2.length = 96 ∧ x4.length = 24 ∧ x5.length = 24 ∧ x6.length = 8 ∧ x7.length = 8 ∧ x8.length = 8 := Iff.rfl
theorem Cmps.shaped_peak {x : Cmps} (h : x.shaped) : x.peak.length = 24 := h.1
theorem Cmps.shaped_hold {x : Cmps} (h : x.shaped) : x.hold.length = 24 := h.2.1
theorem Cmps.shaped_vds {x : Cmps} (h : x.shaped) : x.vds.length = 96 := h.2.2.1
theorem Cmps.shaped_ghv {x : Cmps} (h : x.shaped) : x.ghv.length = 24 := h.2.2.2.1
theorem Cmps.shaped_ghb {x : Cmps} (h : x.shaped) : x.ghb.length = 24 := h.2.2.2.2.1
theorem Cmps.shaped_ft {x : Cmps} (h : x.shaped) : x.ft.length = 8 := h.2.2.2.2.2.1
theorem Cmps.shaped_rev {x : Cmps} (h : x.shaped) : x.rev.length = 8 := h.2.2.2.2.2.2.1
theorem Cmps.shaped_wm {x : Cmps} (h : x.shaped) : x.wm.length = 8 := h.2.2.2.2.2.2.2
theorem Nib.shaped_mk {x0 x1 x2 x3 x4 x5 x6 x7 x8 x9 x10 x11 x12 x13 x14 x15} : (Nib.mk x0 x1 x2 x3 x4 x5 x6 x7 x8 x9 x10 x11 x12 x13 x14 x15).shaped ↔ x8.length = 8 := Iff.rfl
theorem Nib.shaped_ink {x : Nib} (h : x.shaped) : x.ink.length = 8 := h
theorem RegsKept_mk {o : State} {x0 x1 x2 x3 x4 x5 x6} : RegsKept o (RegFile.mk x0 x1 x2 x3 x4 x5 x6) ↔
    x2 = o.regs.image ∧ x3 = o.regs.imgKind ∧ x0.wf = true ∧ x1.wf = true ∧ x2.wf = true := Iff.rfl
theorem RegsKept.image {o : State} {r : RegFile} (h : RegsKept o r) : r.image = o.regs.image := h.1
theorem RegsKept.imgKind {o : State} {r : RegFile} (h : RegsKept o r) : r.imgKind = o.regs.imgKind := h.2.1
theorem RegsKept.live {o : State} {r : RegFile} (h : RegsKept o r) : r.live.wf = true := h.2.2.1
theorem RegsKept.shadow {o : State} {r : RegFile} (h : RegsKept o r) : r.shadow.wf = true := h.2.2.2.1
theorem RegsKept.imageWf {o : State} {r : RegFile} (h : RegsKept o r) : r.image.wf = true := h.2.2.2.2


/-! Helpers on parts of the state -/

theorem Evc.makeReady_shaped {e : Evc} {k : Nat} (h : e.shaped) : (e.makeReady k).shaped :=
  ⟨List.length_mapIdx.trans h.1, h.2⟩

theorem Evc.countGroup_shaped {e : Evc} {k lim : Nat} {now : Tb} (h : e.shaped) : (e.countGroup k lim now).shaped := by
  have h' : ∀ g, Evc.shaped { e with groups := setAt e.groups k g } := fun g => ⟨h.1, (setAt_length _ _ _).trans h.2.1, h.2.2⟩
  unfold Evc.countGroup
  dsimp only
  split
  · exact Evc.makeReady_shaped (h' _)
  · exact h' _

theorem Evc.modSrc_shaped {e : Evc} {n : Nat} {f : Src → Src} (h : e.shaped) : Evc.shaped { e with srcs := modAt e.srcs n f } :=
  ⟨(modAt_length _ _ _).trans h.1, h.2⟩

theorem WMap.nil_wf : WMap.wf [] = true := rfl

theorem WMap.foldl_wf {α : Type} {f : WMap → α → WMap} {l : List α} {m : WMap} (h : m.wf = true)
    (k : ∀ m x, m.wf = true → (f m x).wf = true) : WMap.wf (l.foldl f m) = true := by
  induction l generalizing m with
  | nil => exact h
  | cons x l ih => exact ih (k _ _ h)

theorem commitLive_wf (w : List (Nat × Nat)) (sh : WMap) {m : WMap} (h : m.wf = true) : (commitLive w sh m).wf = true :=
  WMap.foldl_wf h (fun _ _ h => WMap.put_wf _ _ _ h)

theorem WMap.filter_above {p : Nat × Word → Bool} {a : Nat} {m : WMap} (h : m.wf = true) (k : WMap.above a m = true) :
    WMap.above a (m.filter p) = true := by
  induction m with
  | nil => rfl
  | cons x m ih =>
    obtain ⟨b, v⟩ := x
    simp [WMap.wf] at h
    simp [WMap.above] at k
    rw [List.filter_cons]
    split
    · simpa [WMap.above] using k
    · exact ih h.2 (WMap.above_trans (Nat.le_of_lt k) h.1.2)

theorem WMap.filter_wf {p : Nat × Word → Bool} {m : WMap} (h : m.wf = true) : WMap.wf (m.filter p) = true := by
  induction m with
  | nil => rfl
  | cons x m ih =>
    obtain ⟨b, v⟩ := x
    have h' := h
    simp [WMap.wf] at h
    rw [List.filter_cons]
    split
    · simp [WMap.wf, h.1.1, ih h.2, WMap.filter_above h.2 h.1.2]
    · exact ih h.2

theorem commitImage_wf (d : List Nat) (sh : WMap) {m : WMap} (h : m.wf = true) : (commitImage d sh m).wf = true :=
  WMap.foldl_wf (WMap.filter_wf h) (fun _ _ h => WMap.put_wf _ _ _ h)

theorem loadWords_wf (b : Bool) (i : WMap) {m : WMap} (h : m.wf = true) : (loadWords b i m).wf = true := by
  refine WMap.foldl_wf h (fun m x h => ?_)
  split
  · exact h
  · exact WMap.put_wf _ _ _ h

theorem discardShadow_wf (m : WMap) : (discardShadow m).wf = true := by
  refine WMap.foldl_wf WMap.nil_wf (fun m x h => ?_)
  split
  · exact WMap.put_wf _ _ _ h
  · exact h

theorem Clk.initial_shaped : Clk.initial.shaped := ⟨rfl, rfl⟩
theorem Hif.initial_shaped : Hif.initial.shaped := ⟨rfl, rfl, rfl⟩
theorem Evc.initial_shaped : Evc.initial.shaped := ⟨rfl, rfl, rfl, rfl⟩
theorem Sec.initial_shaped : Sec.initial.shaped := ⟨rfl, rfl⟩
theorem Whl.initial_shaped : Whl.initial.shaped := rfl
theorem Sch.initial_shaped : Sch.initial.shaped := rfl
theorem Bank.initial_shaped : Bank.initial.shaped := rfl
theorem Ink.initial_shaped : Ink.initial.shaped := rfl
theorem Grd.initial_shaped : Grd.initial.shaped := rfl
theorem Adc.initial_shaped : Adc.initial.shaped := rfl
theorem Cmps.initial_shaped : Cmps.initial.shaped := ⟨rfl, rfl, rfl, rfl, rfl, rfl, rfl, rfl⟩
theorem Nib.initial_shaped : Nib.initial.shaped := rfl
theorem BanksOk.initial : BanksOk (List.replicate 24 Bank.initial) := ⟨rfl, fun _ h => (List.eq_of_mem_replicate h) ▸ rfl⟩
theorem QuadsOk.initial : QuadsOk (List.replicate 4 Quad.initial) := rfl
theorem GrdsOk.initial : GrdsOk (List.replicate 8 Grd.initial) := ⟨rfl, fun _ h => (List.eq_of_mem_replicate h) ▸ rfl⟩
theorem TmrsOk.initial : TmrsOk (List.replicate 16 Tmr.initial) := rfl
theorem NibsOk.initial : NibsOk (List.replicate 8 Nib.initial) := ⟨rfl, fun _ h => (List.eq_of_mem_replicate h) ▸ rfl⟩

theorem Kept.ok {o s : State} (h : Kept o s) : s.ok :=
  ⟨by simp [State.mapsOk, h.regs.live, h.regs.shadow, h.regs.imageWf],
   h.clk, h.hif, h.evc, h.sec, h.whl, h.sch, h.banks, h.quads, h.ink, h.grds, h.adc, h.cmps, h.tmrs, h.nibs⟩

theorem Kept.refl {s : State} (h : s.ok) : Kept s s := by
  have m := h.1
  simp only [State.mapsOk, Bool.and_eq_true] at m
  obtain ⟨-, a, b, c, d, e, f, g, i, j, k, l, n, p, q⟩ := h
  exact ⟨rfl, rfl, ⟨rfl, rfl, m.1.1, m.1.2, m.2⟩, a, b, c, d, e, f, g, i, j, k, l, n, p, q⟩

theorem Kept.modSec {o : State} (s : State) (f : Sec → Sec) (h0 : Kept o s) (h1 : ∀ x, x.shaped → (f x).shaped) : Kept o (s.modSec f) :=
  Kept.with_sec (s := s) h0 (h1 _ h0.sec)

theorem Kept.id {o s : State} (h : Kept o s) : Kept o (id s) := h

theorem unsettleIf_length {p : Nat → Bool} {l : List Cmp} : (unsettleIf p l).length = l.length := List.length_mapIdx
theorem cmpSet_length {l : List Cmp} {i : Nat} {b : Bool} : (cmpSet l i b).length = l.length := setAt_length _ _ _
theorem nibIdle_length {s : State} {n : Nat} : (s.nibIdle n).length = 8 := by simp [State.nibIdle, upTo]
theorem upTo_length {n : Nat} : (upTo n).length = n := List.length_range
theorem Grd.pins_shaped {g : Grd} : g.pins.shaped := rfl
theorem Bank.latchOnly_shaped {b : Bank} : b.latchOnly.shaped := rfl

theorem Kept.mramOnly {o : State} (s : State) (h0 : Kept o s) : Kept o (State.mramOnly s) :=
  ⟨h0.part, h0.pending, ⟨h0.regs.1, h0.regs.2.1, rfl, rfl, h0.regs.2.2.2.2⟩, Clk.initial_shaped, Hif.initial_shaped, Evc.initial_shaped,
   ⟨rfl, rfl⟩, rfl, Sch.initial_shaped, BanksOk.initial, QuadsOk.initial, Ink.initial_shaped, GrdsOk.initial, Adc.initial_shaped,
   Cmps.initial_shaped, TmrsOk.initial, NibsOk.initial⟩


/-- A command that answers a next state has kept what Kept says. -/
def Keeps (o : State) (r : Host.Outcome State Fault Refusal) : Prop := ∀ t, r = .next t → Kept o t

theorem Keeps.next {o t : State} (h : Kept o t) : Keeps o (.next t) := fun _ e => by cases e; exact h
theorem Keeps.fault {o : State} {f : Fault} : Keeps o (.fault f) := fun _ e => by cases e

end Sys2Proof.Machine
end

