-- ==== Sys2Proof/Laws/KeptOps.lean ====
section
/-! SUPPORT. Every shared operation keeps what Kept says (Laws/Kept.lean). Each proof opens the operation and closes its leaves with
the lemmas of the operations that it calls. -/

set_option linter.all false

namespace Sys2Proof.Machine

/-! Ops -/

theorem Kept.putWord {o : State} (s : State) (a : Nat) (v : Word) (h0 : Kept o s) : Kept o (State.putWord s a v) :=
  Kept.with_regs (s := s) h0 ⟨h0.regs.1, h0.regs.2.1, WMap.put_wf _ _ _ h0.regs.2.2.1, h0.regs.2.2.2⟩

theorem Kept.putShadow {o : State} (s : State) (a : Nat) (v : Word) (h0 : Kept o s) : Kept o (State.putShadow s a v) :=
  Kept.with_regs (s := s) h0 ⟨h0.regs.1, h0.regs.2.1, h0.regs.2.2.1, WMap.put_wf _ _ _ h0.regs.2.2.2.1, h0.regs.2.2.2.2⟩

theorem Kept.inCycle {o : State} (f : Same → Same) (s : State) (h0 : Kept o s) : Kept o (State.inCycle f s) := by
  unfold Sys2Proof.Machine.State.inCycle
  dsimp -failIfUnchanged only
  with_reducible repeat' (first | assumption | (intro _) | apply Kept.ite | apply Kept.ite2 | apply Kept.foldl | apply Kept.foldl2 | apply h0 | simp only [Kept.mk_iff] | apply Kept.of | apply Kept.with_regs | apply Kept.regs | apply RegsKept.image | apply RegsKept.imgKind | apply RegsKept.live | apply RegsKept.shadow | apply RegsKept.imageWf | (simp only [RegsKept_mk, setAt_length, modAt_length, unsettleIf_length, cmpSet_length, nibIdle_length, upTo_length, List.length_map, List.length_mapIdx, List.length_replicate]) | (fail_if_no_progress beta_reduce) | (fail_if_no_progress dsimp only) | split | apply And.intro)

theorem Kept.noteHw {o : State} (a : Nat) (g : Word → Word) (s : State) (h0 : Kept o s) : Kept o (State.noteHw a g s) := by
  unfold Sys2Proof.Machine.State.noteHw
  dsimp -failIfUnchanged only
  with_reducible repeat' (first | assumption | (intro _) | apply Kept.ite | apply Kept.ite2 | apply Kept.foldl | apply Kept.foldl2 | apply Kept.inCycle | apply h0 | (fail_if_no_progress beta_reduce) | (fail_if_no_progress dsimp only) | split | apply And.intro)

theorem Kept.noteHost {o : State} (a : Nat) (s : State) (h0 : Kept o s) : Kept o (State.noteHost a s) := by
  unfold Sys2Proof.Machine.State.noteHost
  dsimp -failIfUnchanged only
  with_reducible repeat' (first | assumption | (intro _) | apply Kept.ite | apply Kept.ite2 | apply Kept.foldl | apply Kept.foldl2 | apply Kept.inCycle | apply h0 | (fail_if_no_progress beta_reduce) | (fail_if_no_progress dsimp only) | split | apply And.intro)

theorem Kept.noteMq {o : State} (a m : Nat) (s : State) (h0 : Kept o s) : Kept o (State.noteMq a m s) := by
  unfold Sys2Proof.Machine.State.noteMq
  dsimp -failIfUnchanged only
  with_reducible repeat' (first | assumption | (intro _) | apply Kept.ite | apply Kept.ite2 | apply Kept.foldl | apply Kept.foldl2 | apply Kept.inCycle | apply h0 | (fail_if_no_progress beta_reduce) | (fail_if_no_progress dsimp only) | split | apply And.intro)

theorem Kept.set {o : State} (s : State) (f : Fld) (v : Nat) (h0 : Kept o s) : Kept o (State.set s f v) := by
  unfold Sys2Proof.Machine.State.set
  dsimp -failIfUnchanged only
  with_reducible repeat' (first | assumption | (intro _) | apply Kept.ite | apply Kept.ite2 | apply Kept.foldl | apply Kept.foldl2 | apply Kept.noteHw | apply Kept.putWord | apply h0 | (fail_if_no_progress beta_reduce) | (fail_if_no_progress dsimp only) | split | apply And.intro)

theorem Kept.addSat {o : State} (s : State) (f : Fld) (n : Nat) (h0 : Kept o s) : Kept o (State.addSat s f n) := by
  unfold Sys2Proof.Machine.State.addSat
  dsimp -failIfUnchanged only
  with_reducible repeat' (first | assumption | (intro _) | apply Kept.ite | apply Kept.ite2 | apply Kept.foldl | apply Kept.foldl2 | apply Kept.noteHw | apply Kept.putWord | apply h0 | (fail_if_no_progress beta_reduce) | (fail_if_no_progress dsimp only) | split | apply And.intro)

theorem Kept.count {o : State} (s : State) (f : Fld) (h0 : Kept o s) : Kept o (State.count s f) := by
  unfold Sys2Proof.Machine.State.count
  dsimp -failIfUnchanged only
  with_reducible repeat' (first | assumption | (intro _) | apply Kept.ite | apply Kept.ite2 | apply Kept.foldl | apply Kept.foldl2 | apply Kept.addSat | apply h0 | (fail_if_no_progress beta_reduce) | (fail_if_no_progress dsimp only) | split | apply And.intro)

theorem Kept.endClamp {o : State} (s : State) (h0 : Kept o s) : Kept o (State.endClamp s) := by
  unfold Sys2Proof.Machine.State.endClamp
  dsimp -failIfUnchanged only
  with_reducible repeat' (first | assumption | (intro _) | apply Kept.ite | apply Kept.ite2 | apply Kept.foldl | apply Kept.foldl2 | apply Kept.addSat | apply h0 | simp only [Kept.mk_iff] | apply Kept.of | (fail_if_no_progress beta_reduce) | (fail_if_no_progress dsimp only) | split | apply And.intro)

theorem Kept.setBit {o : State} (f : Fld) (i : Nat) (s : State) (h0 : Kept o s) : Kept o (State.setBit f i s) := by
  unfold Sys2Proof.Machine.State.setBit
  dsimp -failIfUnchanged only
  with_reducible repeat' (first | assumption | (intro _) | apply Kept.ite | apply Kept.ite2 | apply Kept.foldl | apply Kept.foldl2 | apply Kept.set | apply h0 | (fail_if_no_progress beta_reduce) | (fail_if_no_progress dsimp only) | split | apply And.intro)

theorem Kept.clrBit {o : State} (f : Fld) (i : Nat) (s : State) (h0 : Kept o s) : Kept o (State.clrBit f i s) := by
  unfold Sys2Proof.Machine.State.clrBit
  dsimp -failIfUnchanged only
  with_reducible repeat' (first | assumption | (intro _) | apply Kept.ite | apply Kept.ite2 | apply Kept.foldl | apply Kept.foldl2 | apply Kept.set | apply h0 | (fail_if_no_progress beta_reduce) | (fail_if_no_progress dsimp only) | split | apply And.intro)

theorem Kept.clrLatch {o : State} (f : Fld) (i : Nat) (s : State) (h0 : Kept o s) : Kept o (State.clrLatch f i s) := by
  unfold Sys2Proof.Machine.State.clrLatch
  dsimp -failIfUnchanged only
  with_reducible repeat' (first | assumption | (intro _) | apply Kept.ite | apply Kept.ite2 | apply Kept.foldl | apply Kept.foldl2 | apply Kept.clrBit | apply h0 | (fail_if_no_progress beta_reduce) | (fail_if_no_progress dsimp only) | split | apply And.intro)

theorem Kept.markDirty {o : State} (s : State) (a role : Nat) (h0 : Kept o s) : Kept o (State.markDirty s a role) := by
  unfold Sys2Proof.Machine.State.markDirty
  dsimp -failIfUnchanged only
  with_reducible repeat' (first | assumption | (intro _) | apply Kept.ite | apply Kept.ite2 | apply Kept.foldl | apply Kept.foldl2 | apply h0 | simp only [Kept.mk_iff] | apply Kept.of | apply Kept.with_regs | apply Kept.regs | apply RegsKept.image | apply RegsKept.imgKind | apply RegsKept.live | apply RegsKept.shadow | apply RegsKept.imageWf | (simp only [RegsKept_mk, setAt_length, modAt_length, unsettleIf_length, cmpSet_length, nibIdle_length, upTo_length, List.length_map, List.length_mapIdx, List.length_replicate]) | (fail_if_no_progress beta_reduce) | (fail_if_no_progress dsimp only) | split | apply And.intro)

theorem Kept.putBoth {o : State} (s : State) (a : Nat) (v : Word) (role : Nat) (h0 : Kept o s) : Kept o (State.putBoth s a v role) := by
  unfold Sys2Proof.Machine.State.putBoth
  dsimp -failIfUnchanged only
  with_reducible repeat' (first | assumption | (intro _) | apply Kept.ite | apply Kept.ite2 | apply Kept.foldl | apply Kept.foldl2 | apply Kept.noteHost | apply Kept.putWord | apply Kept.putShadow | apply Kept.markDirty | apply h0 | (fail_if_no_progress beta_reduce) | (fail_if_no_progress dsimp only) | split | apply And.intro)

theorem Kept.modBank {o : State} (s : State) (b : Nat) (f : Bank → Bank) (h0 :
    Kept o s) (h1 : ∀ x, x.shaped → (f x).shaped) : Kept o (State.modBank s b f) := by
  unfold Sys2Proof.Machine.State.modBank
  dsimp -failIfUnchanged only
  with_reducible repeat' (first | assumption | (intro _) | apply Kept.ite | apply Kept.ite2 | apply Kept.foldl | apply Kept.foldl2 | apply h0 | apply h1 | simp only [Kept.mk_iff] | apply Kept.of | apply Kept.with_banks | apply Kept.banks | apply BanksOk.modAt | apply BanksOk.map | apply BanksOk.mapIdx | apply Bank.shaped_threads | (simp only [Bank.shaped_mk, setAt_length, modAt_length, unsettleIf_length, cmpSet_length, nibIdle_length, upTo_length, List.length_map, List.length_mapIdx, List.length_replicate]) | (fail_if_no_progress beta_reduce) | (fail_if_no_progress dsimp only) | split | apply And.intro)

theorem Kept.modChan {o : State} (s : State) (n : Nat) (f : Chan → Chan) (h0 : Kept o s) : Kept o (State.modChan s n f) := by
  unfold Sys2Proof.Machine.State.modChan
  dsimp -failIfUnchanged only
  with_reducible repeat' (first | assumption | (intro _) | apply Kept.ite | apply Kept.ite2 | apply Kept.foldl | apply Kept.foldl2 | apply h0 | simp only [Kept.mk_iff] | apply Kept.of | apply Kept.with_sch | apply Kept.sch | apply Sch.shaped_chans | (simp only [Sch.shaped_mk, setAt_length, modAt_length, unsettleIf_length, cmpSet_length, nibIdle_length, upTo_length, List.length_map, List.length_mapIdx, List.length_replicate]) | (fail_if_no_progress beta_reduce) | (fail_if_no_progress dsimp only) | split | apply And.intro)

theorem Kept.modQuad {o : State} (s : State) (q : Nat) (f : Quad → Quad) (h0 : Kept o s) : Kept o (State.modQuad s q f) := by
  unfold Sys2Proof.Machine.State.modQuad
  dsimp -failIfUnchanged only
  with_reducible repeat' (first | assumption | (intro _) | apply Kept.ite | apply Kept.ite2 | apply Kept.foldl | apply Kept.foldl2 | apply h0 | simp only [Kept.mk_iff] | apply Kept.of | apply Kept.with_quads | apply Kept.quads | apply QuadsOk.modAt | apply QuadsOk.map | apply QuadsOk.mapIdx | (fail_if_no_progress beta_reduce) | (fail_if_no_progress dsimp only) | split | apply And.intro)

theorem Kept.modGrd {o : State} (s : State) (g : Nat) (f : Grd → Grd) (h0 :
    Kept o s) (h1 : ∀ x, x.shaped → (f x).shaped) : Kept o (State.modGrd s g f) := by
  unfold Sys2Proof.Machine.State.modGrd
  dsimp -failIfUnchanged only
  with_reducible repeat' (first | assumption | (intro _) | apply Kept.ite | apply Kept.ite2 | apply Kept.foldl | apply Kept.foldl2 | apply h0 | apply h1 | simp only [Kept.mk_iff] | apply Kept.of | apply Kept.with_grds | apply Kept.grds | apply GrdsOk.modAt | apply GrdsOk.map | apply GrdsOk.mapIdx | apply Grd.shaped_held8 | (simp only [Grd.shaped_mk, setAt_length, modAt_length, unsettleIf_length, cmpSet_length, nibIdle_length, upTo_length, List.length_map, List.length_mapIdx, List.length_replicate]) | (fail_if_no_progress beta_reduce) | (fail_if_no_progress dsimp only) | split | apply And.intro)

theorem Kept.modTmr {o : State} (s : State) (n : Nat) (f : Tmr → Tmr) (h0 : Kept o s) : Kept o (State.modTmr s n f) := by
  unfold Sys2Proof.Machine.State.modTmr
  dsimp -failIfUnchanged only
  with_reducible repeat' (first | assumption | (intro _) | apply Kept.ite | apply Kept.ite2 | apply Kept.foldl | apply Kept.foldl2 | apply h0 | simp only [Kept.mk_iff] | apply Kept.of | apply Kept.with_tmrs | apply Kept.tmrs | apply TmrsOk.modAt | apply TmrsOk.map | apply TmrsOk.mapIdx | (fail_if_no_progress beta_reduce) | (fail_if_no_progress dsimp only) | split | apply And.intro)

theorem Kept.modNib {o : State} (s : State) (n : Nat) (f : Nib → Nib) (h0 :
    Kept o s) (h1 : ∀ x, x.shaped → (f x).shaped) : Kept o (State.modNib s n f) := by
  unfold Sys2Proof.Machine.State.modNib
  dsimp -failIfUnchanged only
  with_reducible repeat' (first | assumption | (intro _) | apply Kept.ite | apply Kept.ite2 | apply Kept.foldl | apply Kept.foldl2 | apply h0 | apply h1 | simp only [Kept.mk_iff] | apply Kept.of | apply Kept.with_nibs | apply Kept.nibs | apply NibsOk.modAt | apply NibsOk.map | apply NibsOk.mapIdx | apply Nib.shaped_ink | (simp only [Nib.shaped_mk, setAt_length, modAt_length, unsettleIf_length, cmpSet_length, nibIdle_length, upTo_length, List.length_map, List.length_mapIdx, List.length_replicate]) | (fail_if_no_progress beta_reduce) | (fail_if_no_progress dsimp only) | split | apply And.intro)

theorem Kept.modRing {o : State} (s : State) (r : Nat) (f : Ring → Ring) (h0 : Kept o s) : Kept o (State.modRing s r f) := by
  unfold Sys2Proof.Machine.State.modRing
  dsimp -failIfUnchanged only
  with_reducible repeat' (first | assumption | (intro _) | apply Kept.ite | apply Kept.ite2 | apply Kept.foldl | apply Kept.foldl2 | apply h0 | simp only [Kept.mk_iff] | apply Kept.of | apply Kept.with_hif | apply Kept.hif | apply Hif.shaped_rings | apply Hif.shaped_vecPend | apply Hif.shaped_cqFull | (simp only [Hif.shaped_mk, setAt_length, modAt_length, unsettleIf_length, cmpSet_length, nibIdle_length, upTo_length, List.length_map, List.length_mapIdx, List.length_replicate]) | (fail_if_no_progress beta_reduce) | (fail_if_no_progress dsimp only) | split | apply And.intro)

theorem Kept.modThread {o : State} (s : State) (b t : Nat) (f : Thread → Thread) (h0 : Kept o s) : Kept o (State.modThread s b t f) := by
  unfold Sys2Proof.Machine.State.modThread
  dsimp -failIfUnchanged only
  with_reducible repeat' (first | assumption | (intro _) | apply Kept.ite | apply Kept.ite2 | apply Kept.foldl | apply Kept.foldl2 | apply Kept.modBank | apply h0 | apply Bank.shaped_threads | (simp only [Bank.shaped_mk, setAt_length, modAt_length, unsettleIf_length, cmpSet_length, nibIdle_length, upTo_length, List.length_map, List.length_mapIdx, List.length_replicate]) | (fail_if_no_progress beta_reduce) | (fail_if_no_progress dsimp only) | split | apply And.intro)

theorem Kept.modEvent {o : State} (s : State) (id : Nat) (f : Event → Event) (h0 : Kept o s) : Kept o (State.modEvent s id f) := by
  unfold Sys2Proof.Machine.State.modEvent
  dsimp -failIfUnchanged only
  with_reducible repeat' (first | assumption | (intro _) | apply Kept.ite | apply Kept.ite2 | apply Kept.foldl | apply Kept.foldl2 | apply h0 | simp only [Kept.mk_iff] | apply Kept.of | apply Kept.with_sch | apply Kept.sch | apply Sch.shaped_chans | apply Kept.id | (simp only [Sch.shaped_mk, setAt_length, modAt_length, unsettleIf_length, cmpSet_length, nibIdle_length, upTo_length, List.length_map, List.length_mapIdx, List.length_replicate]) | (fail_if_no_progress beta_reduce) | (fail_if_no_progress dsimp only) | split | apply And.intro)

theorem Kept.modStore {o : State} (f : Event → Event) (s : State) (h0 : Kept o s) : Kept o (State.modStore f s) := by
  unfold Sys2Proof.Machine.State.modStore
  dsimp -failIfUnchanged only
  with_reducible repeat' (first | assumption | (intro _) | apply Kept.ite | apply Kept.ite2 | apply Kept.foldl | apply Kept.foldl2 | apply h0 | simp only [Kept.mk_iff] | apply Kept.of | apply Kept.with_sch | apply Kept.sch | apply Sch.shaped_chans | (simp only [Sch.shaped_mk, setAt_length, modAt_length, unsettleIf_length, cmpSet_length, nibIdle_length, upTo_length, List.length_map, List.length_mapIdx, List.length_replicate]) | (fail_if_no_progress beta_reduce) | (fail_if_no_progress dsimp only) | split | apply And.intro)

theorem Kept.dropEvent {o : State} (s : State) (id : Nat) (h0 : Kept o s) : Kept o (State.dropEvent s id) := by
  unfold Sys2Proof.Machine.State.dropEvent
  dsimp -failIfUnchanged only
  with_reducible repeat' (first | assumption | (intro _) | apply Kept.ite | apply Kept.ite2 | apply Kept.foldl | apply Kept.foldl2 | apply h0 | simp only [Kept.mk_iff] | apply Kept.of | apply Kept.with_sch | apply Kept.with_banks | constructor | apply Kept.part | apply Kept.pending | apply Kept.regs | apply Kept.clk | apply Kept.hif | apply Kept.evc | apply Kept.sec | apply Kept.whl | apply Kept.sch | apply Kept.banks | apply Kept.quads | apply Kept.ink | apply Kept.grds | apply Kept.adc | apply Kept.cmps | apply Kept.tmrs | apply Kept.nibs | apply BanksOk.modAt | apply BanksOk.map | apply BanksOk.mapIdx | apply Sch.shaped_chans | apply Bank.shaped_threads | apply Kept.id | (simp only [Bank.shaped_mk, Sch.shaped_mk, setAt_length, modAt_length, unsettleIf_length, cmpSet_length, nibIdle_length, upTo_length, List.length_map, List.length_mapIdx, List.length_replicate]) | (fail_if_no_progress beta_reduce) | (fail_if_no_progress dsimp only) | split | apply And.intro)

theorem Kept.railsFresh {o : State} (s : State) (h0 : Kept o s) : Kept o (State.railsFresh s) := by
  unfold Sys2Proof.Machine.State.railsFresh
  dsimp -failIfUnchanged only
  with_reducible repeat' (first | assumption | (intro _) | apply Kept.ite | apply Kept.ite2 | apply Kept.foldl | apply Kept.foldl2 | apply h0 | simp only [Kept.mk_iff] | apply Kept.of | apply Kept.with_ink | apply Kept.ink | apply Ink.shaped_rails | (simp only [Ink.shaped_mk, setAt_length, modAt_length, unsettleIf_length, cmpSet_length, nibIdle_length, upTo_length, List.length_map, List.length_mapIdx, List.length_replicate]) | (fail_if_no_progress beta_reduce) | (fail_if_no_progress dsimp only) | split | apply And.intro)

theorem Kept.setMode {o : State} (s : State) (m : Mode) (h0 : Kept o s) : Kept o (State.setMode s m) := by
  unfold Sys2Proof.Machine.State.setMode
  dsimp -failIfUnchanged only
  with_reducible repeat' (first | assumption | (intro _) | apply Kept.ite | apply Kept.ite2 | apply Kept.foldl | apply Kept.foldl2 | apply Kept.railsFresh | apply h0 | simp only [Kept.mk_iff] | apply Kept.of | (fail_if_no_progress beta_reduce) | (fail_if_no_progress dsimp only) | split | apply And.intro)

theorem Kept.raise {o : State} (n : Nat) (s : State) (h0 : Kept o s) : Kept o (State.raise n s) := by
  unfold State.raise
  split
  · exact Kept.inCycle _ _ (Kept.with_evc (s := s) h0 (Evc.countGroup_shaped (Evc.modSrc_shaped h0.evc)))
  · exact h0

theorem Kept.alarm {o : State} (id sub data : Nat) (data2 : Nat) (s : State) (h0 : Kept o s) : Kept o (State.alarm id sub data data2 s) := by
  unfold Sys2Proof.Machine.State.alarm
  dsimp -failIfUnchanged only
  with_reducible repeat' (first | assumption | (intro _) | apply Kept.ite | apply Kept.ite2 | apply Kept.foldl | apply Kept.foldl2 | apply Kept.count | apply Kept.set | apply h0 | simp only [Kept.mk_iff] | apply Kept.of | apply Kept.with_hif | apply Kept.hif | apply Hif.shaped_rings | apply Hif.shaped_vecPend | apply Hif.shaped_cqFull | apply Kept.id | (simp only [Hif.shaped_mk, setAt_length, modAt_length, unsettleIf_length, cmpSet_length, nibIdle_length, upTo_length, List.length_map, List.length_mapIdx, List.length_replicate]) | (fail_if_no_progress beta_reduce) | (fail_if_no_progress dsimp only) | split | apply And.intro)

theorem Kept.lose {o : State} (r : Nat) (trk : Bool) (s : State) (h0 : Kept o s) : Kept o (State.lose r trk s) := by
  unfold Sys2Proof.Machine.State.lose
  dsimp -failIfUnchanged only
  with_reducible repeat' (first | assumption | (intro _) | apply Kept.ite | apply Kept.ite2 | apply Kept.foldl | apply Kept.foldl2 | apply Kept.modRing | apply Kept.count | apply h0 | (fail_if_no_progress beta_reduce) | (fail_if_no_progress dsimp only) | split | apply And.intro)

theorem Kept.stageTele {o : State} (n : Nat) (words : List Word) (ev : Option Nat) (trk : Bool) (s : State) (h0 :
    Kept o s) : Kept o (State.stageTele n words ev trk s) := by
  unfold Sys2Proof.Machine.State.stageTele
  dsimp -failIfUnchanged only
  with_reducible repeat' (first | assumption | (intro _) | apply Kept.ite | apply Kept.ite2 | apply Kept.foldl | apply Kept.foldl2 | apply Kept.modRing | apply Kept.lose | apply h0 | simp only [Kept.mk_iff] | apply Kept.of | apply Kept.with_hif | apply Kept.hif | apply Hif.shaped_rings | apply Hif.shaped_vecPend | apply Hif.shaped_cqFull | (simp only [Hif.shaped_mk, setAt_length, modAt_length, unsettleIf_length, cmpSet_length, nibIdle_length, upTo_length, List.length_map, List.length_mapIdx, List.length_replicate]) | (fail_if_no_progress beta_reduce) | (fail_if_no_progress dsimp only) | split | apply And.intro)

theorem Kept.trace {o : State} (t bit low : Nat) (time : Tb) (mid w3 : Nat) (s : State) (h0 :
    Kept o s) : Kept o (State.trace t bit low time mid w3 s) := by
  unfold Sys2Proof.Machine.State.trace
  dsimp -failIfUnchanged only
  with_reducible repeat' (first | assumption | (intro _) | apply Kept.ite | apply Kept.ite2 | apply Kept.foldl | apply Kept.foldl2 | apply Kept.modRing | apply Kept.lose | apply h0 | simp only [Kept.mk_iff] | apply Kept.of | apply Kept.with_hif | apply Kept.hif | apply Hif.shaped_rings | apply Hif.shaped_vecPend | apply Hif.shaped_cqFull | (simp only [Hif.shaped_mk, setAt_length, modAt_length, unsettleIf_length, cmpSet_length, nibIdle_length, upTo_length, List.length_map, List.length_mapIdx, List.length_replicate]) | (fail_if_no_progress beta_reduce) | (fail_if_no_progress dsimp only) | split | apply And.intro)

theorem Kept.pushResult {o : State} (cq : Nat) (words : List Word) (s : State) (h0 : Kept o s) : Kept o (State.pushResult cq words s) := by
  unfold Sys2Proof.Machine.State.pushResult
  dsimp -failIfUnchanged only
  with_reducible repeat' (first | assumption | (intro _) | apply Kept.ite | apply Kept.ite2 | apply Kept.foldl | apply Kept.foldl2 | apply h0 | simp only [Kept.mk_iff] | apply Kept.of | apply Kept.with_hif | apply Kept.hif | apply Hif.shaped_rings | apply Hif.shaped_vecPend | apply Hif.shaped_cqFull | (simp only [Hif.shaped_mk, setAt_length, modAt_length, unsettleIf_length, cmpSet_length, nibIdle_length, upTo_length, List.length_map, List.length_mapIdx, List.length_replicate]) | (fail_if_no_progress beta_reduce) | (fail_if_no_progress dsimp only) | split | apply And.intro)

theorem Kept.short {o : State} (code ch src count : Nat) (tag : Word) (s : State) (h0 : Kept o s) : Kept o (State.short code ch src count tag s) := by
  unfold Sys2Proof.Machine.State.short
  dsimp -failIfUnchanged only
  with_reducible repeat' (first | assumption | (intro _) | apply Kept.ite | apply Kept.ite2 | apply Kept.foldl | apply Kept.foldl2 | apply Kept.pushResult | apply Kept.count | apply h0 | (fail_if_no_progress beta_reduce) | (fail_if_no_progress dsimp only) | split | apply And.intro)

theorem Kept.touch {o : State} (s : State) (p : Port) (h0 : Kept o s) : Kept o (State.touch s p) := by
  unfold Sys2Proof.Machine.State.touch
  dsimp -failIfUnchanged only
  with_reducible repeat' (first | assumption | (intro _) | apply Kept.ite | apply Kept.ite2 | apply Kept.foldl | apply Kept.foldl2 | apply h0 | simp only [Kept.mk_iff] | apply Kept.of | apply Kept.with_sec | apply Kept.sec | apply Sec.shaped_resp | apply Sec.shaped_key | (simp only [Sec.shaped_mk, setAt_length, modAt_length, unsettleIf_length, cmpSet_length, nibIdle_length, upTo_length, List.length_map, List.length_mapIdx, List.length_replicate]) | (fail_if_no_progress beta_reduce) | (fail_if_no_progress dsimp only) | split | apply And.intro)

theorem Kept.dropWrite {o : State} (s : State) (p : Port) (h0 : Kept o s) : Kept o (State.dropWrite s p) := by
  unfold Sys2Proof.Machine.State.dropWrite
  dsimp -failIfUnchanged only
  with_reducible repeat' (first | assumption | (intro _) | apply Kept.ite | apply Kept.ite2 | apply Kept.foldl | apply Kept.foldl2 | apply Kept.count | apply h0 | simp only [Kept.mk_iff] | apply Kept.of | apply Kept.with_hif | apply Kept.hif | apply Hif.shaped_rings | apply Hif.shaped_vecPend | apply Hif.shaped_cqFull | (simp only [Hif.shaped_mk, setAt_length, modAt_length, unsettleIf_length, cmpSet_length, nibIdle_length, upTo_length, List.length_map, List.length_mapIdx, List.length_replicate]) | (fail_if_no_progress beta_reduce) | (fail_if_no_progress dsimp only) | split | apply And.intro)

theorem Kept.deny {o : State} (s : State) (p : Port) (h0 : Kept o s) : Kept o (State.deny s p) := by
  unfold Sys2Proof.Machine.State.deny
  dsimp -failIfUnchanged only
  with_reducible repeat' (first | assumption | (intro _) | apply Kept.ite | apply Kept.ite2 | apply Kept.foldl | apply Kept.foldl2 | apply Kept.count | apply h0 | simp only [Kept.mk_iff] | apply Kept.of | apply Kept.with_hif | apply Kept.hif | apply Hif.shaped_rings | apply Hif.shaped_vecPend | apply Hif.shaped_cqFull | (simp only [Hif.shaped_mk, setAt_length, modAt_length, unsettleIf_length, cmpSet_length, nibIdle_length, upTo_length, List.length_map, List.length_mapIdx, List.length_replicate]) | (fail_if_no_progress beta_reduce) | (fail_if_no_progress dsimp only) | split | apply And.intro)

theorem Kept.onWrite {o : State} (s : State) (p : Port) (f : State → State) (h0 :
    Kept o s) (h1 : ∀ x, Kept o x → Kept o (f x)) : Kept o (State.onWrite s p f) := by
  unfold Sys2Proof.Machine.State.onWrite
  dsimp -failIfUnchanged only
  with_reducible repeat' (first | assumption | (intro _) | apply Kept.ite | apply Kept.ite2 | apply Kept.foldl | apply Kept.foldl2 | apply Kept.touch | apply Kept.dropWrite | apply h0 | apply h1 | (fail_if_no_progress beta_reduce) | (fail_if_no_progress dsimp only) | split | apply And.intro)

theorem Kept.onRole {o : State} (s : State) (p : Port) (role : Nat) (f : State → State) (h0 :
    Kept o s) (h1 : ∀ x, Kept o x → Kept o (f x)) : Kept o (State.onRole s p role f) := by
  unfold Sys2Proof.Machine.State.onRole
  dsimp -failIfUnchanged only
  with_reducible repeat' (first | assumption | (intro _) | apply Kept.ite | apply Kept.ite2 | apply Kept.foldl | apply Kept.foldl2 | apply Kept.onWrite | apply Kept.deny | apply h0 | apply h1 | (fail_if_no_progress beta_reduce) | (fail_if_no_progress dsimp only) | split | apply And.intro)

theorem Kept.answer {o : State} (s : State) (v : Nat) (h0 : Kept o s) : Kept o (State.answer s v) := by
  unfold Sys2Proof.Machine.State.answer
  dsimp -failIfUnchanged only
  with_reducible repeat' (first | assumption | (intro _) | apply Kept.ite | apply Kept.ite2 | apply Kept.foldl | apply Kept.foldl2 | apply h0 | simp only [Kept.mk_iff] | apply Kept.of | (fail_if_no_progress beta_reduce) | (fail_if_no_progress dsimp only) | split | apply And.intro)

theorem Kept.onRead {o : State} (s : State) (p : Port) (f : State → State) (h0 :
    Kept o s) (h1 : ∀ x, Kept o x → Kept o (f x)) : Kept o (State.onRead s p f) := by
  unfold Sys2Proof.Machine.State.onRead
  dsimp -failIfUnchanged only
  with_reducible repeat' (first | assumption | (intro _) | apply Kept.ite | apply Kept.ite2 | apply Kept.foldl | apply Kept.foldl2 | apply Kept.touch | apply Kept.answer | apply h0 | apply h1 | (fail_if_no_progress beta_reduce) | (fail_if_no_progress dsimp only) | split | apply And.intro)

theorem Kept.draw {o : State} (s : State) (h0 : Kept o s) : Kept o ((State.draw s).2) := by
  unfold Sys2Proof.Machine.State.draw
  dsimp -failIfUnchanged only
  with_reducible repeat' (first | assumption | (intro _) | apply Kept.ite | apply Kept.ite2 | apply Kept.foldl | apply Kept.foldl2 | apply h0 | simp only [Kept.mk_iff] | apply Kept.of | (fail_if_no_progress beta_reduce) | (fail_if_no_progress dsimp only) | split | apply And.intro)

/-! Acc -/

theorem Kept.setWin {o : State} (s : State) (t : Nat) (w : Win) (h0 : Kept o s) : Kept o (State.setWin s t w) := by
  unfold Sys2Proof.Machine.State.setWin
  dsimp -failIfUnchanged only
  with_reducible repeat' (first | assumption | (intro _) | apply Kept.ite | apply Kept.ite2 | apply Kept.foldl | apply Kept.foldl2 | apply h0 | simp only [Kept.mk_iff] | apply Kept.of | apply Kept.with_adc | apply Kept.adc | apply Adc.shaped_convs | (simp only [Adc.shaped_mk, setAt_length, modAt_length, unsettleIf_length, cmpSet_length, nibIdle_length, upTo_length, List.length_map, List.length_mapIdx, List.length_replicate]) | (fail_if_no_progress beta_reduce) | (fail_if_no_progress dsimp only) | split | apply And.intro)

theorem Kept.openWin {o : State} (t : Nat) (s : State) (h0 : Kept o s) : Kept o (State.openWin t s) := by
  unfold Sys2Proof.Machine.State.openWin
  dsimp -failIfUnchanged only
  with_reducible repeat' (first | assumption | (intro _) | apply Kept.ite | apply Kept.ite2 | apply Kept.foldl | apply Kept.foldl2 | apply Kept.setWin | apply Kept.short | apply h0 | (fail_if_no_progress beta_reduce) | (fail_if_no_progress dsimp only) | split | apply And.intro)

theorem Kept.stageClose {o : State} (t : Nat) (x : Shut) (s : State) (h0 : Kept o s) : Kept o (State.stageClose t x s) := by
  unfold Sys2Proof.Machine.State.stageClose
  dsimp -failIfUnchanged only
  with_reducible repeat' (first | assumption | (intro _) | apply Kept.ite | apply Kept.ite2 | apply Kept.foldl | apply Kept.foldl2 | apply Kept.lose | apply Kept.stageTele | apply h0 | simp only [Kept.mk_iff] | apply Kept.of | apply Kept.with_adc | apply Kept.adc | apply Adc.shaped_convs | (simp only [Adc.shaped_mk, setAt_length, modAt_length, unsettleIf_length, cmpSet_length, nibIdle_length, upTo_length, List.length_map, List.length_mapIdx, List.length_replicate]) | (fail_if_no_progress beta_reduce) | (fail_if_no_progress dsimp only) | split | apply And.intro)

theorem Kept.reshut {o : State} (t : Nat) (x y : Shut) (s : State) (h0 : Kept o s) : Kept o (State.reshut t x y s) := by
  unfold Sys2Proof.Machine.State.reshut
  dsimp -failIfUnchanged only
  with_reducible repeat' (first | assumption | (intro _) | apply Kept.ite | apply Kept.ite2 | apply Kept.foldl | apply Kept.foldl2 | apply Kept.inCycle | apply Kept.stageClose | apply h0 | simp only [Kept.mk_iff] | apply Kept.of | apply Kept.with_hif | apply Kept.hif | apply Hif.shaped_rings | apply Hif.shaped_vecPend | apply Hif.shaped_cqFull | (simp only [Hif.shaped_mk, setAt_length, modAt_length, unsettleIf_length, cmpSet_length, nibIdle_length, upTo_length, List.length_map, List.length_mapIdx, List.length_replicate]) | (fail_if_no_progress beta_reduce) | (fail_if_no_progress dsimp only) | split | apply And.intro)

theorem Kept.closeWin {o : State} (t c : Nat) (ev : Option Nat) (reopen : Bool) (s : State) (h0 :
    Kept o s) : Kept o (State.closeWin t c ev reopen s) := by
  unfold Sys2Proof.Machine.State.closeWin
  dsimp -failIfUnchanged only
  with_reducible repeat' (first | assumption | (intro _) | apply Kept.ite | apply Kept.ite2 | apply Kept.foldl | apply Kept.foldl2 | apply Kept.reshut | apply Kept.stageClose | apply Kept.inCycle | apply Kept.setWin | apply Kept.short | apply Kept.openWin | apply h0 | (fail_if_no_progress beta_reduce) | (fail_if_no_progress dsimp only) | split | apply And.intro)

theorem Kept.sample {o : State} (t : Nat) (v : Int) (epoch : Nat) (s : State) (h0 : Kept o s) : Kept o (State.sample t v epoch s) := by
  unfold Sys2Proof.Machine.State.sample
  dsimp -failIfUnchanged only
  with_reducible repeat' (first | assumption | (intro _) | apply Kept.ite | apply Kept.ite2 | apply Kept.foldl | apply Kept.foldl2 | apply Kept.setWin | apply Kept.reshut | apply h0 | (fail_if_no_progress beta_reduce) | (fail_if_no_progress dsimp only) | split | apply And.intro)

theorem Kept.closeAll {o : State} (c : Nat) (reopen : Bool) (p : Nat → Bool) (s : State) (h0 : Kept o s) : Kept o (State.closeAll c reopen p s) := by
  unfold Sys2Proof.Machine.State.closeAll
  dsimp -failIfUnchanged only
  with_reducible repeat' (first | assumption | (intro _) | apply Kept.ite | apply Kept.ite2 | apply Kept.foldl | apply Kept.foldl2 | apply Kept.closeWin | apply h0 | (fail_if_no_progress beta_reduce) | (fail_if_no_progress dsimp only) | split | apply And.intro)

theorem Kept.openAll {o : State} (p : Nat → Bool) (s : State) (h0 : Kept o s) : Kept o (State.openAll p s) := by
  unfold Sys2Proof.Machine.State.openAll
  dsimp -failIfUnchanged only
  with_reducible repeat' (first | assumption | (intro _) | apply Kept.ite | apply Kept.ite2 | apply Kept.foldl | apply Kept.foldl2 | apply Kept.openWin | apply h0 | (fail_if_no_progress beta_reduce) | (fail_if_no_progress dsimp only) | split | apply And.intro)

theorem Kept.modConv {o : State} (s : State) (n : Nat) (f : Conv → Conv) (h0 : Kept o s) : Kept o (State.modConv s n f) := by
  unfold Sys2Proof.Machine.State.modConv
  dsimp -failIfUnchanged only
  with_reducible repeat' (first | assumption | (intro _) | apply Kept.ite | apply Kept.ite2 | apply Kept.foldl | apply Kept.foldl2 | apply h0 | simp only [Kept.mk_iff] | apply Kept.of | apply Kept.with_adc | apply Kept.adc | apply Adc.shaped_convs | (simp only [Adc.shaped_mk, setAt_length, modAt_length, unsettleIf_length, cmpSet_length, nibIdle_length, upTo_length, List.length_map, List.length_mapIdx, List.length_replicate]) | (fail_if_no_progress beta_reduce) | (fail_if_no_progress dsimp only) | split | apply And.intro)

theorem Kept.urgent {o : State} (n e : Nat) (s : State) (h0 : Kept o s) : Kept o (State.urgent n e s) := by
  unfold Sys2Proof.Machine.State.urgent
  dsimp -failIfUnchanged only
  with_reducible repeat' (first | assumption | (intro _) | apply Kept.ite | apply Kept.ite2 | apply Kept.foldl | apply Kept.foldl2 | apply Kept.count | apply Kept.modConv | apply h0 | (fail_if_no_progress beta_reduce) | (fail_if_no_progress dsimp only) | split | apply And.intro)

theorem Kept.markUrgent {o : State} (q id : Nat) (s : State) (h0 : Kept o s) : Kept o (State.markUrgent q id s) := by
  unfold Sys2Proof.Machine.State.markUrgent
  dsimp -failIfUnchanged only
  with_reducible repeat' (first | assumption | (intro _) | apply Kept.ite | apply Kept.ite2 | apply Kept.foldl | apply Kept.foldl2 | apply Kept.urgent | apply h0 | apply Kept.id | (fail_if_no_progress beta_reduce) | (fail_if_no_progress dsimp only) | split | apply And.intro)

theorem Kept.markWins {o : State} (q id : Nat) (s : State) (h0 : Kept o s) : Kept o (State.markWins q id s) := by
  unfold Sys2Proof.Machine.State.markWins
  dsimp -failIfUnchanged only
  with_reducible repeat' (first | assumption | (intro _) | apply Kept.ite | apply Kept.ite2 | apply Kept.foldl | apply Kept.foldl2 | apply Kept.closeAll | apply h0 | apply Kept.id | (fail_if_no_progress beta_reduce) | (fail_if_no_progress dsimp only) | split | apply And.intro)

/-! Bus -/

theorem Kept.rowWrite {o : State} (r : RegRow) (p : Port) (a : Nat) (v : Word) (s : State) (h0 : Kept o s) : Kept o (State.rowWrite r p a v s) := by
  unfold Sys2Proof.Machine.State.rowWrite
  dsimp -failIfUnchanged only
  with_reducible repeat' (first | assumption | (intro _) | apply Kept.ite | apply Kept.ite2 | apply Kept.foldl | apply Kept.foldl2 | apply Kept.deny | apply Kept.noteHost | apply Kept.putWord | apply Kept.putShadow | apply Kept.markDirty | apply h0 | (fail_if_no_progress beta_reduce) | (fail_if_no_progress dsimp only) | split | apply And.intro)

theorem Kept.fieldsWrite {o : State} (p : Port) (a : Nat) (v : Word) (s : State) (h0 : Kept o s) : Kept o (State.fieldsWrite p a v s) := by
  unfold Sys2Proof.Machine.State.fieldsWrite
  dsimp -failIfUnchanged only
  with_reducible repeat' (first | assumption | (intro _) | apply Kept.ite | apply Kept.ite2 | apply Kept.foldl | apply Kept.foldl2 | apply Kept.rowWrite | apply h0 | (fail_if_no_progress beta_reduce) | (fail_if_no_progress dsimp only) | split | apply And.intro)

theorem Kept.busWrite {o : State} (s : State) (p : Port) (a : Nat) (v : Word) (f : State → State) (h0 :
    Kept o s) (h1 : ∀ x, Kept o x → Kept o (f x)) : Kept o (State.busWrite s p a v f) := by
  unfold Sys2Proof.Machine.State.busWrite
  dsimp -failIfUnchanged only
  with_reducible repeat' (first | assumption | (intro _) | apply Kept.ite | apply Kept.ite2 | apply Kept.foldl | apply Kept.foldl2 | apply Kept.onWrite | apply Kept.fieldsWrite | apply h0 | apply h1 | (fail_if_no_progress beta_reduce) | (fail_if_no_progress dsimp only) | split | apply And.intro)

/-! Ink -/

theorem Kept.deficit {o : State} (sub : Nat) (bal : Int) (armed : Bool) (s : State) (h0 : Kept o s) : Kept o (deficit sub bal armed s) := by
  unfold Sys2Proof.Machine.deficit
  dsimp -failIfUnchanged only
  with_reducible repeat' (first | assumption | (intro _) | apply Kept.ite | apply Kept.ite2 | apply Kept.foldl | apply Kept.foldl2 | apply Kept.alarm | apply Kept.raise | apply h0 | (fail_if_no_progress beta_reduce) | (fail_if_no_progress dsimp only) | split | apply And.intro)

theorem Kept.setBoost {o : State} (q : Nat) (b : Int) (s : State) (h0 : Kept o s) : Kept o (State.setBoost q b s) := by
  unfold Sys2Proof.Machine.State.setBoost
  dsimp -failIfUnchanged only
  with_reducible repeat' (first | assumption | (intro _) | apply Kept.ite | apply Kept.ite2 | apply Kept.foldl | apply Kept.foldl2 | apply Kept.deficit | apply Kept.modQuad | apply h0 | (fail_if_no_progress beta_reduce) | (fail_if_no_progress dsimp only) | split | apply And.intro)

theorem Kept.watchRail {o : State} (g : Nat) (fin : Bool) (s : State) (h0 : Kept o s) : Kept o (State.watchRail g fin s) := by
  unfold Sys2Proof.Machine.State.watchRail
  dsimp -failIfUnchanged only
  with_reducible repeat' (first | assumption | (intro _) | apply Kept.ite | apply Kept.ite2 | apply Kept.foldl | apply Kept.foldl2 | apply Kept.deficit | apply Kept.deny | apply h0 | simp only [Kept.mk_iff] | apply Kept.of | apply Kept.with_ink | apply Kept.ink | apply Ink.shaped_rails | (simp only [Ink.shaped_mk, setAt_length, modAt_length, unsettleIf_length, cmpSet_length, nibIdle_length, upTo_length, List.length_map, List.length_mapIdx, List.length_replicate]) | (fail_if_no_progress beta_reduce) | (fail_if_no_progress dsimp only) | split | apply And.intro)

theorem Kept.rearmDev {o : State} (s : State) (h0 : Kept o s) : Kept o (State.rearmDev s) := by
  unfold Sys2Proof.Machine.State.rearmDev
  dsimp -failIfUnchanged only
  with_reducible repeat' (first | assumption | (intro _) | apply Kept.ite | apply Kept.ite2 | apply Kept.foldl | apply Kept.foldl2 | apply h0 | simp only [Kept.mk_iff] | apply Kept.of | apply Kept.with_ink | apply Kept.ink | apply Ink.shaped_rails | (simp only [Ink.shaped_mk, setAt_length, modAt_length, unsettleIf_length, cmpSet_length, nibIdle_length, upTo_length, List.length_map, List.length_mapIdx, List.length_replicate]) | (fail_if_no_progress beta_reduce) | (fail_if_no_progress dsimp only) | split | apply And.intro)

theorem Kept.watchDev {o : State} (s : State) (h0 : Kept o s) : Kept o (State.watchDev s) := by
  unfold Sys2Proof.Machine.State.watchDev
  dsimp -failIfUnchanged only
  with_reducible repeat' (first | assumption | (intro _) | apply Kept.ite | apply Kept.ite2 | apply Kept.foldl | apply Kept.foldl2 | apply Kept.deficit | apply h0 | simp only [Kept.mk_iff] | apply Kept.of | apply Kept.with_ink | apply Kept.ink | apply Ink.shaped_rails | (simp only [Ink.shaped_mk, setAt_length, modAt_length, unsettleIf_length, cmpSet_length, nibIdle_length, upTo_length, List.length_map, List.length_mapIdx, List.length_replicate]) | (fail_if_no_progress beta_reduce) | (fail_if_no_progress dsimp only) | split | apply And.intro)

theorem Kept.chargeDev {o : State} (uj : Nat) (s : State) (h0 : Kept o s) : Kept o (State.chargeDev uj s) := by
  unfold Sys2Proof.Machine.State.chargeDev
  dsimp -failIfUnchanged only
  with_reducible repeat' (first | assumption | (intro _) | apply Kept.ite | apply Kept.ite2 | apply Kept.foldl | apply Kept.foldl2 | apply Kept.rearmDev | apply Kept.watchDev | apply h0 | simp only [Kept.mk_iff] | apply Kept.of | apply Kept.with_ink | apply Kept.ink | apply Ink.shaped_rails | (simp only [Ink.shaped_mk, setAt_length, modAt_length, unsettleIf_length, cmpSet_length, nibIdle_length, upTo_length, List.length_map, List.length_mapIdx, List.length_replicate]) | (fail_if_no_progress beta_reduce) | (fail_if_no_progress dsimp only) | split | apply And.intro)

theorem Kept.boostFresh {o : State} (s : State) (h0 : Kept o s) : Kept o (State.boostFresh s) := by
  unfold Sys2Proof.Machine.State.boostFresh
  dsimp -failIfUnchanged only
  with_reducible repeat' (first | assumption | (intro _) | apply Kept.ite | apply Kept.ite2 | apply Kept.foldl | apply Kept.foldl2 | apply Kept.modQuad | apply h0 | (fail_if_no_progress beta_reduce) | (fail_if_no_progress dsimp only) | split | apply And.intro)

theorem Kept.reserve {o : State} (ev b p : Nat) (start : Tb) (s : State) (h0 : Kept o s) : Kept o (State.reserve ev b p start s) := by
  unfold Sys2Proof.Machine.State.reserve
  dsimp -failIfUnchanged only
  with_reducible repeat' (first | assumption | (intro _) | apply Kept.ite | apply Kept.ite2 | apply Kept.foldl | apply Kept.foldl2 | apply h0 | simp only [Kept.mk_iff] | apply Kept.of | apply Kept.with_ink | apply Kept.ink | apply Ink.shaped_rails | (simp only [Ink.shaped_mk, setAt_length, modAt_length, unsettleIf_length, cmpSet_length, nibIdle_length, upTo_length, List.length_map, List.length_mapIdx, List.length_replicate]) | (fail_if_no_progress beta_reduce) | (fail_if_no_progress dsimp only) | split | apply And.intro)

theorem Kept.unreserve {o : State} (ev : Nat) (s : State) (h0 : Kept o s) : Kept o (State.unreserve ev s) := by
  unfold Sys2Proof.Machine.State.unreserve
  dsimp -failIfUnchanged only
  with_reducible repeat' (first | assumption | (intro _) | apply Kept.ite | apply Kept.ite2 | apply Kept.foldl | apply Kept.foldl2 | apply h0 | simp only [Kept.mk_iff] | apply Kept.of | apply Kept.with_ink | apply Kept.ink | apply Ink.shaped_rails | (simp only [Ink.shaped_mk, setAt_length, modAt_length, unsettleIf_length, cmpSet_length, nibIdle_length, upTo_length, List.length_map, List.length_mapIdx, List.length_replicate]) | (fail_if_no_progress beta_reduce) | (fail_if_no_progress dsimp only) | split | apply And.intro)

theorem Kept.unreserveBoost {o : State} (ev : Nat) (s : State) (h0 : Kept o s) : Kept o (State.unreserveBoost ev s) := by
  unfold Sys2Proof.Machine.State.unreserveBoost
  dsimp -failIfUnchanged only
  with_reducible repeat' (first | assumption | (intro _) | apply Kept.ite | apply Kept.ite2 | apply Kept.foldl | apply Kept.foldl2 | apply h0 | simp only [Kept.mk_iff] | apply Kept.of | apply Kept.with_ink | apply Kept.ink | apply Ink.shaped_rails | (simp only [Ink.shaped_mk, setAt_length, modAt_length, unsettleIf_length, cmpSet_length, nibIdle_length, upTo_length, List.length_map, List.length_mapIdx, List.length_replicate]) | (fail_if_no_progress beta_reduce) | (fail_if_no_progress dsimp only) | split | apply And.intro)

theorem Kept.rekey {o : State} (ev : Nat) (start : Tb) (s : State) (h0 : Kept o s) : Kept o (State.rekey ev start s) := by
  unfold Sys2Proof.Machine.State.rekey
  dsimp -failIfUnchanged only
  with_reducible repeat' (first | assumption | (intro _) | apply Kept.ite | apply Kept.ite2 | apply Kept.foldl | apply Kept.foldl2 | apply h0 | simp only [Kept.mk_iff] | apply Kept.of | apply Kept.with_ink | apply Kept.ink | apply Ink.shaped_rails | (simp only [Ink.shaped_mk, setAt_length, modAt_length, unsettleIf_length, cmpSet_length, nibIdle_length, upTo_length, List.length_map, List.length_mapIdx, List.length_replicate]) | (fail_if_no_progress beta_reduce) | (fail_if_no_progress dsimp only) | split | apply And.intro)

theorem Kept.learnNeed {o : State} (q p w x : Nat) (s : State) (h0 : Kept o s) : Kept o (learnNeed q p w x s) := by
  unfold Sys2Proof.Machine.learnNeed
  dsimp -failIfUnchanged only
  with_reducible repeat' (first | assumption | (intro _) | apply Kept.ite | apply Kept.ite2 | apply Kept.foldl | apply Kept.foldl2 | apply Kept.set | apply Kept.putWord | apply h0 | (fail_if_no_progress beta_reduce) | (fail_if_no_progress dsimp only) | split | apply And.intro)

/-! RingOps -/

theorem Kept.doorbellRead {o : State} (s : State) (h0 : Kept o s) : Kept o (State.doorbellRead s) := by
  unfold Sys2Proof.Machine.State.doorbellRead
  dsimp -failIfUnchanged only
  with_reducible repeat' (first | assumption | (intro _) | apply Kept.ite | apply Kept.ite2 | apply Kept.foldl | apply Kept.foldl2 | apply h0 | simp only [Kept.mk_iff] | apply Kept.of | apply Kept.with_hif | apply Kept.hif | apply Hif.shaped_rings | apply Hif.shaped_vecPend | apply Hif.shaped_cqFull | (simp only [Hif.shaped_mk, setAt_length, modAt_length, unsettleIf_length, cmpSet_length, nibIdle_length, upTo_length, List.length_map, List.length_mapIdx, List.length_replicate]) | (fail_if_no_progress beta_reduce) | (fail_if_no_progress dsimp only) | split | apply And.intro)

theorem Kept.askQuad {o : State} (q : Nat) (s : State) (h0 : Kept o s) : Kept o (State.askQuad q s) := by
  unfold Sys2Proof.Machine.State.askQuad
  dsimp -failIfUnchanged only
  with_reducible repeat' (first | assumption | (intro _) | apply Kept.ite | apply Kept.ite2 | apply Kept.foldl | apply Kept.foldl2 | apply Kept.doorbellRead | apply h0 | simp only [Kept.mk_iff] | apply Kept.of | apply Kept.with_clk | apply Kept.clk | apply Clk.shaped_qrun | apply Clk.shaped_qidle | (simp only [Clk.shaped_mk, setAt_length, modAt_length, unsettleIf_length, cmpSet_length, nibIdle_length, upTo_length, List.length_map, List.length_mapIdx, List.length_replicate]) | (fail_if_no_progress beta_reduce) | (fail_if_no_progress dsimp only) | split | apply And.intro)

theorem Kept.tickQuads {o : State} (s : State) (h0 : Kept o s) : Kept o (State.tickQuads s) := by
  unfold Sys2Proof.Machine.State.tickQuads
  dsimp -failIfUnchanged only
  with_reducible repeat' (first | assumption | (intro _) | apply Kept.ite | apply Kept.ite2 | apply Kept.foldl | apply Kept.foldl2 | apply h0 | simp only [Kept.mk_iff] | apply Kept.of | apply Kept.with_clk | apply Kept.clk | apply Clk.shaped_qrun | apply Clk.shaped_qidle | (simp only [Clk.shaped_mk, setAt_length, modAt_length, unsettleIf_length, cmpSet_length, nibIdle_length, upTo_length, List.length_map, List.length_mapIdx, List.length_replicate]) | (fail_if_no_progress beta_reduce) | (fail_if_no_progress dsimp only) | split | apply And.intro)

theorem Kept.advance {o : State} (r : Nat) (s : State) (h0 : Kept o s) : Kept o (State.advance r s) := by
  unfold Sys2Proof.Machine.State.advance
  dsimp -failIfUnchanged only
  with_reducible repeat' (first | assumption | (intro _) | apply Kept.ite | apply Kept.ite2 | apply Kept.foldl | apply Kept.foldl2 | apply Kept.modRing | apply h0 | simp only [Kept.mk_iff] | apply Kept.of | apply Kept.with_hif | apply Kept.hif | apply Hif.shaped_rings | apply Hif.shaped_vecPend | apply Hif.shaped_cqFull | (simp only [Hif.shaped_mk, setAt_length, modAt_length, unsettleIf_length, cmpSet_length, nibIdle_length, upTo_length, List.length_map, List.length_mapIdx, List.length_replicate]) | (fail_if_no_progress beta_reduce) | (fail_if_no_progress dsimp only) | split | apply And.intro)

theorem Kept.completion {o : State} (tag : Word) (op code w3 : Nat) (s : State) (h0 : Kept o s) : Kept o (State.completion tag op code w3 s) := by
  unfold Sys2Proof.Machine.State.completion
  dsimp -failIfUnchanged only
  with_reducible repeat' (first | assumption | (intro _) | apply Kept.ite | apply Kept.ite2 | apply Kept.foldl | apply Kept.foldl2 | apply Kept.pushResult | apply h0 | (fail_if_no_progress beta_reduce) | (fail_if_no_progress dsimp only) | split | apply And.intro)

theorem Kept.onMq {o : State} (s : State) (tag : Word) (op : Nat) (f : State → Nat × State) (w3 : State → Nat) (h0 :
    Kept o s) (h1 : ∀ x, Kept o x → Kept o (f x).2) : Kept o (State.onMq s tag op f w3) := by
  unfold Sys2Proof.Machine.State.onMq
  dsimp -failIfUnchanged only
  with_reducible repeat' (first | assumption | (intro _) | apply Kept.ite | apply Kept.ite2 | apply Kept.foldl | apply Kept.foldl2 | apply Kept.completion | apply Kept.advance | apply h0 | apply h1 | (fail_if_no_progress beta_reduce) | (fail_if_no_progress dsimp only) | split | apply And.intro)

theorem Kept.watchStore {o : State} (s : State) (h0 : Kept o s) : Kept o (State.watchStore s) := by
  unfold Sys2Proof.Machine.State.watchStore
  dsimp -failIfUnchanged only
  with_reducible repeat' (first | assumption | (intro _) | apply Kept.ite | apply Kept.ite2 | apply Kept.foldl | apply Kept.foldl2 | apply Kept.set | apply Kept.alarm | apply h0 | simp only [Kept.mk_iff] | apply Kept.of | apply Kept.with_hif | apply Kept.hif | apply Hif.shaped_rings | apply Hif.shaped_vecPend | apply Hif.shaped_cqFull | (simp only [Hif.shaped_mk, setAt_length, modAt_length, unsettleIf_length, cmpSet_length, nibIdle_length, upTo_length, List.length_map, List.length_mapIdx, List.length_replicate]) | (fail_if_no_progress beta_reduce) | (fail_if_no_progress dsimp only) | split | apply And.intro)

/-! Evt -/

theorem Kept.refuse {o : State} (e : Event) (code : Nat) (s : State) (h0 : Kept o s) : Kept o (State.refuse e code s) := by
  unfold Sys2Proof.Machine.State.refuse
  dsimp -failIfUnchanged only
  with_reducible repeat' (first | assumption | (intro _) | apply Kept.ite | apply Kept.ite2 | apply Kept.foldl | apply Kept.foldl2 | apply Kept.unreserve | apply Kept.short | apply Kept.count | apply Kept.dropEvent | apply Kept.watchStore | apply Kept.modEvent | apply h0 | apply Kept.id | (fail_if_no_progress beta_reduce) | (fail_if_no_progress dsimp only) | split | apply And.intro)

theorem Kept.remove {o : State} (id : Nat) (s : State) (h0 : Kept o s) : Kept o (State.remove id s) := by
  unfold Sys2Proof.Machine.State.remove
  dsimp -failIfUnchanged only
  with_reducible repeat' (first | assumption | (intro _) | apply Kept.ite | apply Kept.ite2 | apply Kept.foldl | apply Kept.foldl2 | apply Kept.unreserve | apply Kept.dropEvent | apply Kept.watchStore | apply h0 | apply Kept.id | (fail_if_no_progress beta_reduce) | (fail_if_no_progress dsimp only) | split | apply And.intro)

theorem Kept.allToWaiting {o : State} (s : State) (h0 : Kept o s) : Kept o (State.allToWaiting s) := by
  unfold Sys2Proof.Machine.State.allToWaiting
  dsimp -failIfUnchanged only
  with_reducible repeat' (first | assumption | (intro _) | apply Kept.ite | apply Kept.ite2 | apply Kept.foldl | apply Kept.foldl2 | apply Kept.unreserve | apply Kept.modEvent | apply h0 | apply Kept.id | (fail_if_no_progress beta_reduce) | (fail_if_no_progress dsimp only) | split | apply And.intro)

theorem Kept.syncLoss {o : State} (s : State) (h0 : Kept o s) : Kept o (State.syncLoss s) := by
  unfold Sys2Proof.Machine.State.syncLoss
  dsimp -failIfUnchanged only
  with_reducible repeat' (first | assumption | (intro _) | apply Kept.ite | apply Kept.ite2 | apply Kept.foldl | apply Kept.foldl2 | apply Kept.allToWaiting | apply Kept.refuse | apply h0 | simp only [Kept.mk_iff] | apply Kept.of | apply Kept.with_sch | apply Kept.sch | apply Sch.shaped_chans | (simp only [Sch.shaped_mk, setAt_length, modAt_length, unsettleIf_length, cmpSet_length, nibIdle_length, upTo_length, List.length_map, List.length_mapIdx, List.length_replicate]) | (fail_if_no_progress beta_reduce) | (fail_if_no_progress dsimp only) | split | apply And.intro)

theorem Kept.halfStep {o : State} (step : Bool) (s : State) (h0 : Kept o s) : Kept o (State.halfStep step s) := by
  unfold Sys2Proof.Machine.State.halfStep
  dsimp -failIfUnchanged only
  with_reducible repeat' (first | assumption | (intro _) | apply Kept.ite | apply Kept.ite2 | apply Kept.foldl | apply Kept.foldl2 | apply Kept.unreserve | apply Kept.watchStore | apply h0 | simp only [Kept.mk_iff] | apply Kept.of | apply Kept.with_sch | apply Kept.sch | apply Sch.shaped_chans | apply Kept.id | (simp only [Sch.shaped_mk, setAt_length, modAt_length, unsettleIf_length, cmpSet_length, nibIdle_length, upTo_length, List.length_map, List.length_mapIdx, List.length_replicate]) | (fail_if_no_progress beta_reduce) | (fail_if_no_progress dsimp only) | split | apply And.intro)

theorem Kept.backStep {o : State} (s : State) (h0 : Kept o s) : Kept o (State.backStep s) := by
  unfold Sys2Proof.Machine.State.backStep
  dsimp -failIfUnchanged only
  with_reducible repeat' (first | assumption | (intro _) | apply Kept.ite | apply Kept.ite2 | apply Kept.foldl | apply Kept.foldl2 | apply Kept.unreserve | apply Kept.modEvent | apply h0 | apply Kept.id | (fail_if_no_progress beta_reduce) | (fail_if_no_progress dsimp only) | split | apply And.intro)

theorem Kept.convertLocks {o : State} (s : State) (h0 : Kept o s) : Kept o (State.convertLocks s) := by
  unfold Sys2Proof.Machine.State.convertLocks
  dsimp -failIfUnchanged only
  with_reducible repeat' (first | assumption | (intro _) | apply Kept.ite | apply Kept.ite2 | apply Kept.foldl | apply Kept.foldl2 | apply h0 | simp only [Kept.mk_iff] | apply Kept.of | apply Kept.with_sch | apply Kept.sch | apply Sch.shaped_chans | (simp only [Sch.shaped_mk, setAt_length, modAt_length, unsettleIf_length, cmpSet_length, nibIdle_length, upTo_length, List.length_map, List.length_mapIdx, List.length_replicate]) | (fail_if_no_progress beta_reduce) | (fail_if_no_progress dsimp only) | split | apply And.intro)

theorem Kept.rekeyAll {o : State} (s : State) (h0 : Kept o s) : Kept o (State.rekeyAll s) := by
  unfold Sys2Proof.Machine.State.rekeyAll
  dsimp -failIfUnchanged only
  with_reducible repeat' (first | assumption | (intro _) | apply Kept.ite | apply Kept.ite2 | apply Kept.foldl | apply Kept.foldl2 | apply Kept.rekey | apply h0 | apply Kept.id | (fail_if_no_progress beta_reduce) | (fail_if_no_progress dsimp only) | split | apply And.intro)

theorem Kept.startCoast {o : State} (s : State) (h0 : Kept o s) : Kept o (State.startCoast s) := by
  unfold Sys2Proof.Machine.State.startCoast
  dsimp -failIfUnchanged only
  with_reducible repeat' (first | assumption | (intro _) | apply Kept.ite | apply Kept.ite2 | apply Kept.foldl | apply Kept.foldl2 | apply h0 | simp only [Kept.mk_iff] | apply Kept.of | apply Kept.with_sch | apply Kept.sch | apply Sch.shaped_chans | (simp only [Sch.shaped_mk, setAt_length, modAt_length, unsettleIf_length, cmpSet_length, nibIdle_length, upTo_length, List.length_map, List.length_mapIdx, List.length_replicate]) | (fail_if_no_progress beta_reduce) | (fail_if_no_progress dsimp only) | split | apply And.intro)

theorem Kept.coastEdge {o : State} (s : State) (h0 : Kept o s) : Kept o (State.coastEdge s) := by
  unfold Sys2Proof.Machine.State.coastEdge
  dsimp -failIfUnchanged only
  with_reducible repeat' (first | assumption | (intro _) | apply Kept.ite | apply Kept.ite2 | apply Kept.foldl | apply Kept.foldl2 | apply h0 | simp only [Kept.mk_iff] | apply Kept.of | apply Kept.with_sch | apply Kept.sch | apply Sch.shaped_chans | (simp only [Sch.shaped_mk, setAt_length, modAt_length, unsettleIf_length, cmpSet_length, nibIdle_length, upTo_length, List.length_map, List.length_mapIdx, List.length_replicate]) | (fail_if_no_progress beta_reduce) | (fail_if_no_progress dsimp only) | split | apply And.intro)

theorem Kept.endCoast {o : State} (s : State) (h0 : Kept o s) : Kept o (State.endCoast s) := by
  unfold Sys2Proof.Machine.State.endCoast
  dsimp -failIfUnchanged only
  with_reducible repeat' (first | assumption | (intro _) | apply Kept.ite | apply Kept.ite2 | apply Kept.foldl | apply Kept.foldl2 | apply h0 | simp only [Kept.mk_iff] | apply Kept.of | apply Kept.with_sch | apply Kept.sch | apply Sch.shaped_chans | (simp only [Sch.shaped_mk, setAt_length, modAt_length, unsettleIf_length, cmpSet_length, nibIdle_length, upTo_length, List.length_map, List.length_mapIdx, List.length_replicate]) | (fail_if_no_progress beta_reduce) | (fail_if_no_progress dsimp only) | split | apply And.intro)

theorem Kept.holdWaiting {o : State} (s : State) (h0 : Kept o s) : Kept o (State.holdWaiting s) := by
  unfold Sys2Proof.Machine.State.holdWaiting
  dsimp -failIfUnchanged only
  with_reducible repeat' (first | assumption | (intro _) | apply Kept.ite | apply Kept.ite2 | apply Kept.foldl | apply Kept.foldl2 | apply h0 | simp only [Kept.mk_iff] | apply Kept.of | apply Kept.with_banks | apply Kept.banks | apply BanksOk.modAt | apply BanksOk.map | apply BanksOk.mapIdx | apply Bank.shaped_threads | apply Kept.id | (simp only [Bank.shaped_mk, setAt_length, modAt_length, unsettleIf_length, cmpSet_length, nibIdle_length, upTo_length, List.length_map, List.length_mapIdx, List.length_replicate]) | (fail_if_no_progress beta_reduce) | (fail_if_no_progress dsimp only) | split | apply And.intro)

/-! TstOps -/

theorem Kept.restartUnits {o : State} (k : Nat) (s : State) (h0 : Kept o s) : Kept o (State.restartUnits k s) := by
  unfold Sys2Proof.Machine.State.restartUnits
  dsimp -failIfUnchanged only
  with_reducible repeat' (first | assumption | (intro _) | apply Kept.ite | apply Kept.ite2 | apply Kept.foldl | apply Kept.foldl2 | apply Kept.modConv | apply h0 | simp only [Kept.mk_iff] | apply Kept.of | apply Kept.with_cmps | apply Kept.cmps | apply Cmps.shaped_peak | apply Cmps.shaped_hold | apply Cmps.shaped_vds | apply Cmps.shaped_ghv | apply Cmps.shaped_ghb | apply Cmps.shaped_ft | apply Cmps.shaped_rev | apply Cmps.shaped_wm | (simp only [Cmps.shaped_mk, setAt_length, modAt_length, unsettleIf_length, cmpSet_length, nibIdle_length, upTo_length, List.length_map, List.length_mapIdx, List.length_replicate]) | (fail_if_no_progress beta_reduce) | (fail_if_no_progress dsimp only) | split | apply And.intro)

theorem Kept.logIdle {o : State} (n : Nat) (s : State) (h0 : Kept o s) : Kept o (State.logIdle n s) := by
  unfold Sys2Proof.Machine.State.logIdle
  dsimp -failIfUnchanged only
  with_reducible repeat' (first | assumption | (intro _) | apply Kept.ite | apply Kept.ite2 | apply Kept.foldl | apply Kept.foldl2 | apply Kept.modChan | apply h0 | (fail_if_no_progress beta_reduce) | (fail_if_no_progress dsimp only) | split | apply And.intro)

theorem Kept.testOver {o : State} (k : Nat) (s : State) (h0 : Kept o s) : Kept o (State.testOver k s) := by
  unfold Sys2Proof.Machine.State.testOver
  dsimp -failIfUnchanged only
  with_reducible repeat' (first | assumption | (intro _) | apply Kept.ite | apply Kept.ite2 | apply Kept.foldl | apply Kept.foldl2 | apply Kept.logIdle | apply h0 | (fail_if_no_progress beta_reduce) | (fail_if_no_progress dsimp only) | split | apply And.intro)

theorem Kept.tstEnd {o : State} (cause : Nat) (s : State) (h0 : Kept o s) : Kept o (State.tstEnd cause s) := by
  unfold Sys2Proof.Machine.State.tstEnd
  dsimp -failIfUnchanged only
  with_reducible repeat' (first | assumption | (intro _) | apply Kept.ite | apply Kept.ite2 | apply Kept.foldl | apply Kept.foldl2 | apply Kept.inCycle | apply Kept.restartUnits | apply Kept.testOver | apply Kept.count | apply Kept.raise | apply h0 | simp only [Kept.mk_iff] | apply Kept.of | (fail_if_no_progress beta_reduce) | (fail_if_no_progress dsimp only) | split | apply And.intro)

theorem Kept.leaveArmed {o : State} (s : State) (h0 : Kept o s) : Kept o (State.leaveArmed s) := by
  unfold Sys2Proof.Machine.State.leaveArmed
  dsimp -failIfUnchanged only
  with_reducible repeat' (first | assumption | (intro _) | apply Kept.ite | apply Kept.ite2 | apply Kept.foldl | apply Kept.foldl2 | apply Kept.tstEnd | apply h0 | (fail_if_no_progress beta_reduce) | (fail_if_no_progress dsimp only) | split | apply And.intro)

/-! Gates -/

theorem Kept.deliver {o : State} (n : Nat) (rep : Closing) (s : State) (h0 : Kept o s) : Kept o (State.deliver n rep s) := by
  unfold Sys2Proof.Machine.State.deliver
  dsimp -failIfUnchanged only
  with_reducible repeat' (first | assumption | (intro _) | apply Kept.ite | apply Kept.ite2 | apply Kept.foldl | apply Kept.foldl2 | apply Kept.modChan | apply Kept.modStore | apply h0 | (fail_if_no_progress beta_reduce) | (fail_if_no_progress dsimp only) | split | apply And.intro)

theorem Kept.dropSlot {o : State} (n : Nat) (s : State) (h0 : Kept o s) : Kept o (State.dropSlot n s) := by
  unfold Sys2Proof.Machine.State.dropSlot
  dsimp -failIfUnchanged only
  with_reducible repeat' (first | assumption | (intro _) | apply Kept.ite | apply Kept.ite2 | apply Kept.foldl | apply Kept.foldl2 | apply Kept.modBank | apply h0 | apply Bank.shaped_threads | (simp only [Bank.shaped_mk, setAt_length, modAt_length, unsettleIf_length, cmpSet_length, nibIdle_length, upTo_length, List.length_map, List.length_mapIdx, List.length_replicate]) | (fail_if_no_progress beta_reduce) | (fail_if_no_progress dsimp only) | split | apply And.intro)

theorem Kept.noKink {o : State} (n : Nat) (s : State) (h0 : Kept o s) : Kept o (State.noKink n s) := by
  unfold Sys2Proof.Machine.State.noKink
  dsimp -failIfUnchanged only
  with_reducible repeat' (first | assumption | (intro _) | apply Kept.ite | apply Kept.ite2 | apply Kept.foldl | apply Kept.foldl2 | apply Kept.count | apply Kept.dropSlot | apply Kept.deliver | apply h0 | (fail_if_no_progress beta_reduce) | (fail_if_no_progress dsimp only) | split | apply And.intro)

theorem Kept.startWatch {o : State} (n : Nat) (s : State) (h0 : Kept o s) : Kept o (State.startWatch n s) := by
  unfold Sys2Proof.Machine.State.startWatch
  dsimp -failIfUnchanged only
  with_reducible repeat' (first | assumption | (intro _) | apply Kept.ite | apply Kept.ite2 | apply Kept.foldl | apply Kept.foldl2 | apply Kept.modChan | apply Kept.modBank | apply Kept.count | apply Kept.noKink | apply Kept.deliver | apply h0 | apply Bank.shaped_threads | (simp only [Bank.shaped_mk, setAt_length, modAt_length, unsettleIf_length, cmpSet_length, nibIdle_length, upTo_length, List.length_map, List.length_mapIdx, List.length_replicate]) | (fail_if_no_progress beta_reduce) | (fail_if_no_progress dsimp only) | split | apply And.intro)

theorem Kept.cancelWatch {o : State} (n : Nat) (s : State) (h0 : Kept o s) : Kept o (State.cancelWatch n s) := by
  unfold Sys2Proof.Machine.State.cancelWatch
  dsimp -failIfUnchanged only
  with_reducible repeat' (first | assumption | (intro _) | apply Kept.ite | apply Kept.ite2 | apply Kept.foldl | apply Kept.foldl2 | apply Kept.dropSlot | apply Kept.modChan | apply h0 | (fail_if_no_progress beta_reduce) | (fail_if_no_progress dsimp only) | split | apply And.intro)

theorem Kept.setGl {o : State} (n : Nat) (on : Bool) (s : State) (h0 : Kept o s) : Kept o (State.setGl n on s) := by
  unfold Sys2Proof.Machine.State.setGl
  dsimp -failIfUnchanged only
  with_reducible repeat' (first | assumption | (intro _) | apply Kept.ite | apply Kept.ite2 | apply Kept.foldl | apply Kept.foldl2 | apply Kept.modChan | apply h0 | (fail_if_no_progress beta_reduce) | (fail_if_no_progress dsimp only) | split | apply And.intro)

theorem Kept.reopen {o : State} (n ev : Nat) (s : State) (h0 : Kept o s) : Kept o (State.reopen n ev s) := by
  unfold Sys2Proof.Machine.State.reopen
  dsimp -failIfUnchanged only
  with_reducible repeat' (first | assumption | (intro _) | apply Kept.ite | apply Kept.ite2 | apply Kept.foldl | apply Kept.foldl2 | apply Kept.cancelWatch | apply Kept.count | apply Kept.noKink | apply h0 | (fail_if_no_progress beta_reduce) | (fail_if_no_progress dsimp only) | split | apply And.intro)

theorem Kept.setGhv {o : State} (b : Nat) (on : Bool) (s : State) (h0 : Kept o s) : Kept o (State.setGhv b on s) := by
  unfold Sys2Proof.Machine.State.setGhv
  dsimp -failIfUnchanged only
  with_reducible repeat' (first | assumption | (intro _) | apply Kept.ite | apply Kept.ite2 | apply Kept.foldl | apply Kept.foldl2 | apply Kept.modBank | apply h0 | apply Bank.shaped_threads | (simp only [Bank.shaped_mk, setAt_length, modAt_length, unsettleIf_length, cmpSet_length, nibIdle_length, upTo_length, List.length_map, List.length_mapIdx, List.length_replicate]) | (fail_if_no_progress beta_reduce) | (fail_if_no_progress dsimp only) | split | apply And.intro)

theorem Kept.setGhb {o : State} (b : Nat) (on : Bool) (s : State) (h0 : Kept o s) : Kept o (State.setGhb b on s) := by
  unfold Sys2Proof.Machine.State.setGhb
  dsimp -failIfUnchanged only
  with_reducible repeat' (first | assumption | (intro _) | apply Kept.ite | apply Kept.ite2 | apply Kept.foldl | apply Kept.foldl2 | apply Kept.modBank | apply h0 | apply Bank.shaped_threads | (simp only [Bank.shaped_mk, setAt_length, modAt_length, unsettleIf_length, cmpSet_length, nibIdle_length, upTo_length, List.length_map, List.length_mapIdx, List.length_replicate]) | (fail_if_no_progress beta_reduce) | (fail_if_no_progress dsimp only) | split | apply And.intro)

theorem Kept.beginEvent {o : State} (t : Tb) (id : Nat) (s : State) (h0 : Kept o s) : Kept o (State.beginEvent t id s) := by
  unfold Sys2Proof.Machine.State.beginEvent
  dsimp -failIfUnchanged only
  with_reducible repeat' (first | assumption | (intro _) | apply Kept.ite | apply Kept.ite2 | apply Kept.foldl | apply Kept.foldl2 | apply Kept.modEvent | apply h0 | apply Kept.id | (fail_if_no_progress beta_reduce) | (fail_if_no_progress dsimp only) | split | apply And.intro)

theorem Kept.offEvent {o : State} (t : Tb) (n : Nat) (id : Nat) (s : State) (h0 : Kept o s) : Kept o (State.offEvent t n id s) := by
  unfold Sys2Proof.Machine.State.offEvent
  dsimp -failIfUnchanged only
  with_reducible repeat' (first | assumption | (intro _) | apply Kept.ite | apply Kept.ite2 | apply Kept.foldl | apply Kept.foldl2 | apply Kept.modEvent | apply Kept.modChan | apply h0 | apply Kept.id | (fail_if_no_progress beta_reduce) | (fail_if_no_progress dsimp only) | split | apply And.intro)

theorem Kept.newMode {o : State} (n : Nat) (s : State) (h0 : Kept o s) : Kept o (State.newMode n s) := by
  unfold Sys2Proof.Machine.State.newMode
  dsimp -failIfUnchanged only
  with_reducible repeat' (first | assumption | (intro _) | apply Kept.ite | apply Kept.ite2 | apply Kept.foldl | apply Kept.foldl2 | apply Kept.modChan | apply Kept.logIdle | apply h0 | (fail_if_no_progress beta_reduce) | (fail_if_no_progress dsimp only) | split | apply And.intro)

theorem Kept.modeSettle {o : State} (n : Nat) (s : State) (h0 : Kept o s) : Kept o (State.modeSettle n s) := by
  unfold Sys2Proof.Machine.State.modeSettle
  dsimp -failIfUnchanged only
  with_reducible repeat' (first | assumption | (intro _) | apply Kept.ite | apply Kept.ite2 | apply Kept.foldl | apply Kept.foldl2 | apply Kept.newMode | apply h0 | (fail_if_no_progress beta_reduce) | (fail_if_no_progress dsimp only) | split | apply And.intro)

theorem Kept.glOn {o : State} (t : Tb) (n : Nat) (level : Bool) (ev : Nat) (s : State) (h0 : Kept o s) : Kept o (State.glOn t n level ev s) := by
  unfold Sys2Proof.Machine.State.glOn
  dsimp -failIfUnchanged only
  with_reducible repeat' (first | assumption | (intro _) | apply Kept.ite | apply Kept.ite2 | apply Kept.foldl | apply Kept.foldl2 | apply Kept.reopen | apply Kept.setGl | apply Kept.beginEvent | apply h0 | (fail_if_no_progress beta_reduce) | (fail_if_no_progress dsimp only) | split | apply And.intro)

theorem Kept.markOff {o : State} (n ev : Nat) (s : State) (h0 : Kept o s) : Kept o (State.markOff n ev s) := by
  unfold Sys2Proof.Machine.State.markOff
  dsimp -failIfUnchanged only
  with_reducible repeat' (first | assumption | (intro _) | apply Kept.ite | apply Kept.ite2 | apply Kept.foldl | apply Kept.foldl2 | apply Kept.modThread | apply h0 | apply Bank.shaped_threads | (simp only [Bank.shaped_mk, setAt_length, modAt_length, unsettleIf_length, cmpSet_length, nibIdle_length, upTo_length, List.length_map, List.length_mapIdx, List.length_replicate]) | (fail_if_no_progress beta_reduce) | (fail_if_no_progress dsimp only) | split | apply And.intro)

theorem Kept.glOff {o : State} (t : Tb) (n ev : Nat) (s : State) (h0 : Kept o s) : Kept o (State.glOff t n ev s) := by
  unfold Sys2Proof.Machine.State.glOff
  dsimp -failIfUnchanged only
  with_reducible repeat' (first | assumption | (intro _) | apply Kept.ite | apply Kept.ite2 | apply Kept.foldl | apply Kept.foldl2 | apply Kept.setGl | apply Kept.offEvent | apply Kept.markOff | apply Kept.startWatch | apply Kept.modeSettle | apply h0 | (fail_if_no_progress beta_reduce) | (fail_if_no_progress dsimp only) | split | apply And.intro)

theorem Kept.applyEdge {o : State} (x : Edge) (s : State) (h0 : Kept o s) : Kept o (State.applyEdge x s) := by
  unfold Sys2Proof.Machine.State.applyEdge
  dsimp -failIfUnchanged only
  with_reducible repeat' (first | assumption | (intro _) | apply Kept.ite | apply Kept.ite2 | apply Kept.foldl | apply Kept.foldl2 | apply Kept.glOn | apply Kept.setGl | apply Kept.offEvent | apply Kept.glOff | apply Kept.setGhv | apply Kept.beginEvent | apply Kept.setGhb | apply h0 | (fail_if_no_progress beta_reduce) | (fail_if_no_progress dsimp only) | split | apply And.intro)

theorem Kept.placeEdge {o : State} (t : Option Tb) (g : Gate) (on : Bool) (b : Nat) (th : Option Nat) (ev : Nat) (s : State) (h0 :
    Kept o s) : Kept o (State.placeEdge t g on b th ev s) := by
  unfold Sys2Proof.Machine.State.placeEdge
  dsimp -failIfUnchanged only
  with_reducible repeat' (first | assumption | (intro _) | apply Kept.ite | apply Kept.ite2 | apply Kept.foldl | apply Kept.foldl2 | apply Kept.applyEdge | apply h0 | simp only [Kept.mk_iff] | apply Kept.of | (fail_if_no_progress beta_reduce) | (fail_if_no_progress dsimp only) | split | apply And.intro)

theorem Kept.withdraw {o : State} (b t : Nat) (s : State) (h0 : Kept o s) : Kept o (State.withdraw b t s) := by
  unfold Sys2Proof.Machine.State.withdraw
  dsimp -failIfUnchanged only
  with_reducible repeat' (first | assumption | (intro _) | apply Kept.ite | apply Kept.ite2 | apply Kept.foldl | apply Kept.foldl2 | apply h0 | simp only [Kept.mk_iff] | apply Kept.of | (fail_if_no_progress beta_reduce) | (fail_if_no_progress dsimp only) | split | apply And.intro)

theorem Kept.dueEdges {o : State} (s : State) (h0 : Kept o s) : Kept o (State.dueEdges s) := by
  unfold Sys2Proof.Machine.State.dueEdges
  dsimp -failIfUnchanged only
  with_reducible repeat' (first | assumption | (intro _) | apply Kept.ite | apply Kept.ite2 | apply Kept.foldl | apply Kept.foldl2 | apply Kept.applyEdge | apply h0 | simp only [Kept.mk_iff] | apply Kept.of | (fail_if_no_progress beta_reduce) | (fail_if_no_progress dsimp only) | split | apply And.intro)

theorem Kept.closeThreadWins {o : State} (b t : Nat) (s : State) (h0 : Kept o s) : Kept o (State.closeThreadWins b t s) := by
  unfold Sys2Proof.Machine.State.closeThreadWins
  dsimp -failIfUnchanged only
  with_reducible repeat' (first | assumption | (intro _) | apply Kept.ite | apply Kept.ite2 | apply Kept.foldl | apply Kept.foldl2 | apply Kept.closeWin | apply Kept.modThread | apply h0 | apply Bank.shaped_threads | (simp only [Bank.shaped_mk, setAt_length, modAt_length, unsettleIf_length, cmpSet_length, nibIdle_length, upTo_length, List.length_map, List.length_mapIdx, List.length_replicate]) | (fail_if_no_progress beta_reduce) | (fail_if_no_progress dsimp only) | split | apply And.intro)

theorem Kept.dropOns {o : State} (b ev : Nat) (at' : Option Tb) (g : Gate → Bool) (s : State) (h0 :
    Kept o s) : Kept o (State.dropOns b ev at' g s) := by
  unfold Sys2Proof.Machine.State.dropOns
  dsimp -failIfUnchanged only
  with_reducible repeat' (first | assumption | (intro _) | apply Kept.ite | apply Kept.ite2 | apply Kept.foldl | apply Kept.foldl2 | apply h0 | simp only [Kept.mk_iff] | apply Kept.of | (fail_if_no_progress beta_reduce) | (fail_if_no_progress dsimp only) | split | apply And.intro)

theorem Kept.releaseToken {o : State} (b t : Nat) (s : State) (h0 : Kept o s) : Kept o (State.releaseToken b t s) := by
  unfold Sys2Proof.Machine.State.releaseToken
  dsimp -failIfUnchanged only
  with_reducible repeat' (first | assumption | (intro _) | apply Kept.ite | apply Kept.ite2 | apply Kept.foldl | apply Kept.foldl2 | apply Kept.dropOns | apply Kept.placeEdge | apply Kept.modThread | apply Kept.modBank | apply h0 | apply Bank.shaped_threads | (simp only [Bank.shaped_mk, setAt_length, modAt_length, unsettleIf_length, cmpSet_length, nibIdle_length, upTo_length, List.length_map, List.length_mapIdx, List.length_replicate]) | (fail_if_no_progress beta_reduce) | (fail_if_no_progress dsimp only) | split | apply And.intro)

theorem Kept.switchOff {o : State} (b t : Nat) (at' : Option Tb) (s : State) (h0 : Kept o s) : Kept o (State.switchOff b t at' s) := by
  unfold Sys2Proof.Machine.State.switchOff
  dsimp -failIfUnchanged only
  with_reducible repeat' (first | assumption | (intro _) | apply Kept.ite | apply Kept.ite2 | apply Kept.foldl | apply Kept.foldl2 | apply Kept.dropOns | apply Kept.modThread | apply Kept.placeEdge | apply h0 | apply Bank.shaped_threads | (simp only [Bank.shaped_mk, setAt_length, modAt_length, unsettleIf_length, cmpSet_length, nibIdle_length, upTo_length, List.length_map, List.length_mapIdx, List.length_replicate]) | (fail_if_no_progress beta_reduce) | (fail_if_no_progress dsimp only) | split | apply And.intro)

theorem Kept.endEvents {o : State} (r : Nat) (off : Bool) (s : State) (h0 : Kept o s) : Kept o (State.endEvents r off s) := by
  unfold Sys2Proof.Machine.State.endEvents
  dsimp -failIfUnchanged only
  with_reducible repeat' (first | assumption | (intro _) | apply Kept.ite | apply Kept.ite2 | apply Kept.foldl | apply Kept.foldl2 | apply Kept.modStore | apply Kept.noKink | apply h0 | (fail_if_no_progress beta_reduce) | (fail_if_no_progress dsimp only) | split | apply And.intro)

theorem Kept.freeThread {o : State} (b t : Nat) (s : State) (h0 : Kept o s) : Kept o (State.freeThread b t s) := by
  unfold Sys2Proof.Machine.State.freeThread
  dsimp -failIfUnchanged only
  with_reducible repeat' (first | assumption | (intro _) | apply Kept.ite | apply Kept.ite2 | apply Kept.foldl | apply Kept.foldl2 | apply Kept.modThread | apply Kept.modeSettle | apply h0 | apply Bank.shaped_threads | (simp only [Bank.shaped_mk, setAt_length, modAt_length, unsettleIf_length, cmpSet_length, nibIdle_length, upTo_length, List.length_map, List.length_mapIdx, List.length_replicate]) | (fail_if_no_progress beta_reduce) | (fail_if_no_progress dsimp only) | split | apply And.intro)

theorem Kept.endThread {o : State} (b t : Nat) (s : State) (h0 : Kept o s) : Kept o (State.endThread b t s) := by
  unfold Sys2Proof.Machine.State.endThread
  dsimp -failIfUnchanged only
  with_reducible repeat' (first | assumption | (intro _) | apply Kept.ite | apply Kept.ite2 | apply Kept.foldl | apply Kept.foldl2 | apply Kept.switchOff | apply Kept.releaseToken | apply Kept.closeThreadWins | apply Kept.endEvents | apply Kept.freeThread | apply h0 | (fail_if_no_progress beta_reduce) | (fail_if_no_progress dsimp only) | split | apply And.intro)

theorem Kept.gatesLow {o : State} (watch : Bool) (b t : Nat) (s : State) (h0 : Kept o s) : Kept o (State.gatesLow watch b t s) := by
  unfold Sys2Proof.Machine.State.gatesLow
  dsimp -failIfUnchanged only
  with_reducible repeat' (first | assumption | (intro _) | apply Kept.ite | apply Kept.ite2 | apply Kept.foldl | apply Kept.foldl2 | apply Kept.withdraw | apply Kept.modThread | apply Kept.setGhv | apply Kept.setGhb | apply Kept.glOff | apply Kept.setGl | apply Kept.offEvent | apply h0 | apply Bank.shaped_threads | (simp only [Bank.shaped_mk, setAt_length, modAt_length, unsettleIf_length, cmpSet_length, nibIdle_length, upTo_length, List.length_map, List.length_mapIdx, List.length_replicate]) | (fail_if_no_progress beta_reduce) | (fail_if_no_progress dsimp only) | split | apply And.intro)

theorem Kept.dropGates {o : State} (b t : Nat) (s : State) (h0 : Kept o s) : Kept o (State.dropGates b t s) := by
  unfold Sys2Proof.Machine.State.dropGates
  dsimp -failIfUnchanged only
  with_reducible repeat' (first | assumption | (intro _) | apply Kept.ite | apply Kept.ite2 | apply Kept.foldl | apply Kept.foldl2 | apply Kept.gatesLow | apply Kept.cancelWatch | apply h0 | (fail_if_no_progress beta_reduce) | (fail_if_no_progress dsimp only) | split | apply And.intro)

theorem Kept.killThread {o : State} (b t : Nat) (f : Event → Event) (s : State) (h0 : Kept o s) : Kept o (State.killThread b t f s) := by
  unfold Sys2Proof.Machine.State.killThread
  dsimp -failIfUnchanged only
  with_reducible repeat' (first | assumption | (intro _) | apply Kept.ite | apply Kept.ite2 | apply Kept.foldl | apply Kept.foldl2 | apply Kept.dropGates | apply Kept.releaseToken | apply Kept.closeThreadWins | apply Kept.modStore | apply Kept.freeThread | apply h0 | (fail_if_no_progress beta_reduce) | (fail_if_no_progress dsimp only) | split | apply And.intro)

theorem Kept.killLog {o : State} (n : Nat) (level : Bool) (f : Event → Event) (s : State) (h0 : Kept o s) : Kept o (State.killLog n level f s) := by
  unfold Sys2Proof.Machine.State.killLog
  dsimp -failIfUnchanged only
  with_reducible repeat' (first | assumption | (intro _) | apply Kept.ite | apply Kept.ite2 | apply Kept.foldl | apply Kept.foldl2 | apply Kept.setGl | apply Kept.offEvent | apply Kept.modEvent | apply Kept.modeSettle | apply h0 | simp only [Kept.mk_iff] | apply Kept.of | apply Kept.id | (fail_if_no_progress beta_reduce) | (fail_if_no_progress dsimp only) | split | apply And.intro)

theorem Kept.killBanks {o : State} (p : Nat → Bool) (f : Event → Event) (s : State) (h0 : Kept o s) : Kept o (State.killBanks p f s) := by
  unfold Sys2Proof.Machine.State.killBanks
  dsimp -failIfUnchanged only
  with_reducible repeat' (first | assumption | (intro _) | apply Kept.ite | apply Kept.ite2 | apply Kept.foldl | apply Kept.foldl2 | apply Kept.killThread | apply h0 | (fail_if_no_progress beta_reduce) | (fail_if_no_progress dsimp only) | split | apply And.intro)

theorem Kept.killAll {o : State} (f : Event → Event) (s : State) (h0 : Kept o s) : Kept o (State.killAll f s) := by
  unfold Sys2Proof.Machine.State.killAll
  dsimp -failIfUnchanged only
  with_reducible repeat' (first | assumption | (intro _) | apply Kept.ite | apply Kept.ite2 | apply Kept.foldl | apply Kept.foldl2 | apply Kept.killBanks | apply Kept.killLog | apply h0 | simp only [Kept.mk_iff] | apply Kept.of | apply Kept.with_sch | apply Kept.with_banks | apply Kept.with_quads | constructor | apply Kept.part | apply Kept.pending | apply Kept.regs | apply Kept.clk | apply Kept.hif | apply Kept.evc | apply Kept.sec | apply Kept.whl | apply Kept.sch | apply Kept.banks | apply Kept.quads | apply Kept.ink | apply Kept.grds | apply Kept.adc | apply Kept.cmps | apply Kept.tmrs | apply Kept.nibs | apply BanksOk.modAt | apply BanksOk.map | apply BanksOk.mapIdx | apply QuadsOk.modAt | apply QuadsOk.map | apply QuadsOk.mapIdx | apply Sch.shaped_chans | apply Bank.shaped_threads | (simp only [Bank.shaped_mk, Sch.shaped_mk, setAt_length, modAt_length, unsettleIf_length, cmpSet_length, nibIdle_length, upTo_length, List.length_map, List.length_mapIdx, List.length_replicate]) | (fail_if_no_progress beta_reduce) | (fail_if_no_progress dsimp only) | split | apply And.intro)

theorem Kept.chGone {o : State} (n : Nat) (s : State) (h0 : Kept o s) : Kept o (State.chGone n s) := by
  unfold Sys2Proof.Machine.State.chGone
  dsimp -failIfUnchanged only
  with_reducible repeat' (first | assumption | (intro _) | apply Kept.ite | apply Kept.ite2 | apply Kept.foldl | apply Kept.foldl2 | apply Kept.killThread | apply Kept.killLog | apply Kept.refuse | apply h0 | (fail_if_no_progress beta_reduce) | (fail_if_no_progress dsimp only) | split | apply And.intro)

/-! ModeOps -/

theorem Kept.safeSeen {o : State} (c : Nat) (s : State) (h0 : Kept o s) : Kept o (State.safeSeen c s) := by
  unfold Sys2Proof.Machine.State.safeSeen
  dsimp -failIfUnchanged only
  with_reducible repeat' (first | assumption | (intro _) | apply Kept.ite | apply Kept.ite2 | apply Kept.foldl | apply Kept.foldl2 | apply Kept.setBit | apply h0 | (fail_if_no_progress beta_reduce) | (fail_if_no_progress dsimp only) | split | apply And.intro)

theorem Kept.safeActive {o : State} (c : Nat) (s : State) (h0 : Kept o s) : Kept o (State.safeActive c s) := by
  unfold Sys2Proof.Machine.State.safeActive
  dsimp -failIfUnchanged only
  with_reducible repeat' (first | assumption | (intro _) | apply Kept.ite | apply Kept.ite2 | apply Kept.foldl | apply Kept.foldl2 | apply h0 | simp only [Kept.mk_iff] | apply Kept.of | (fail_if_no_progress beta_reduce) | (fail_if_no_progress dsimp only) | split | apply And.intro)

theorem Kept.nibsLeave {o : State} (p : Nat → Bool) (s : State) (h0 : Kept o s) : Kept o (State.nibsLeave p s) := by
  unfold Sys2Proof.Machine.State.nibsLeave
  dsimp -failIfUnchanged only
  with_reducible repeat' (first | assumption | (intro _) | apply Kept.ite | apply Kept.ite2 | apply Kept.foldl | apply Kept.foldl2 | apply h0 | simp only [Kept.mk_iff] | apply Kept.of | apply Kept.with_ink | apply Kept.with_nibs | constructor | apply Kept.part | apply Kept.pending | apply Kept.regs | apply Kept.clk | apply Kept.hif | apply Kept.evc | apply Kept.sec | apply Kept.whl | apply Kept.sch | apply Kept.banks | apply Kept.quads | apply Kept.ink | apply Kept.grds | apply Kept.adc | apply Kept.cmps | apply Kept.tmrs | apply Kept.nibs | apply NibsOk.modAt | apply NibsOk.map | apply NibsOk.mapIdx | apply Ink.shaped_rails | apply Nib.shaped_ink | (simp only [Ink.shaped_mk, Nib.shaped_mk, setAt_length, modAt_length, unsettleIf_length, cmpSet_length, nibIdle_length, upTo_length, List.length_map, List.length_mapIdx, List.length_replicate]) | (fail_if_no_progress beta_reduce) | (fail_if_no_progress dsimp only) | split | apply And.intro)

theorem Kept.safestop {o : State} (c : Nat) (s : State) (h0 : Kept o s) : Kept o (State.safestop c s) := by
  unfold Sys2Proof.Machine.State.safestop
  dsimp -failIfUnchanged only
  with_reducible repeat' (first | assumption | (intro _) | apply Kept.ite | apply Kept.ite2 | apply Kept.foldl | apply Kept.foldl2 | apply Kept.leaveArmed | apply Kept.safeSeen | apply Kept.safeActive | apply Kept.killAll | apply Kept.allToWaiting | apply Kept.holdWaiting | apply Kept.setMode | apply Kept.nibsLeave | apply Kept.alarm | apply h0 | simp only [Kept.mk_iff] | apply Kept.of | (fail_if_no_progress beta_reduce) | (fail_if_no_progress dsimp only) | split | apply And.intro)

theorem Kept.fallbackNow {o : State} (c : Nat) (s : State) (h0 : Kept o s) : Kept o (State.fallbackNow c s) := by
  unfold Sys2Proof.Machine.State.fallbackNow
  dsimp -failIfUnchanged only
  with_reducible repeat' (first | assumption | (intro _) | apply Kept.ite | apply Kept.ite2 | apply Kept.foldl | apply Kept.foldl2 | apply Kept.alarm | apply Kept.safestop | apply h0 | simp only [Kept.mk_iff] | apply Kept.of | (fail_if_no_progress beta_reduce) | (fail_if_no_progress dsimp only) | split | apply And.intro)

theorem Kept.fallbackCause {o : State} (c : Nat) (s : State) (h0 : Kept o s) : Kept o (State.fallbackCause c s) := by
  unfold Sys2Proof.Machine.State.fallbackCause
  dsimp -failIfUnchanged only
  with_reducible repeat' (first | assumption | (intro _) | apply Kept.ite | apply Kept.ite2 | apply Kept.foldl | apply Kept.foldl2 | apply Kept.inCycle | apply Kept.fallbackNow | apply Kept.safestop | apply h0 | simp only [Kept.mk_iff] | apply Kept.of | (fail_if_no_progress beta_reduce) | (fail_if_no_progress dsimp only) | split | apply And.intro)

theorem Kept.boostBegin {o : State} (s : State) (h0 : Kept o s) : Kept o (State.boostBegin s) := by
  unfold Sys2Proof.Machine.State.boostBegin
  dsimp -failIfUnchanged only
  with_reducible repeat' (first | assumption | (intro _) | apply Kept.ite | apply Kept.ite2 | apply Kept.foldl | apply Kept.foldl2 | apply h0 | simp only [Kept.mk_iff] | apply Kept.of | apply Kept.with_quads | apply Kept.quads | apply QuadsOk.modAt | apply QuadsOk.map | apply QuadsOk.mapIdx | (fail_if_no_progress beta_reduce) | (fail_if_no_progress dsimp only) | split | apply And.intro)

theorem Kept.followSync {o : State} (s : State) (h0 : Kept o s) : Kept o (State.followSync s) := by
  unfold Sys2Proof.Machine.State.followSync
  dsimp -failIfUnchanged only
  with_reducible repeat' (first | assumption | (intro _) | apply Kept.ite | apply Kept.ite2 | apply Kept.foldl | apply Kept.foldl2 | apply Kept.leaveArmed | apply Kept.setMode | apply Kept.boostFresh | apply Kept.holdWaiting | apply Kept.fallbackNow | apply h0 | simp only [Kept.mk_iff] | apply Kept.of | (fail_if_no_progress beta_reduce) | (fail_if_no_progress dsimp only) | split | apply And.intro)

theorem Kept.angleMoved {o : State} (d : Int) (s : State) (h0 : Kept o s) : Kept o (State.angleMoved d s) := by
  unfold Sys2Proof.Machine.State.angleMoved
  dsimp -failIfUnchanged only
  with_reducible repeat' (first | assumption | (intro _) | apply Kept.ite | apply Kept.ite2 | apply Kept.foldl | apply Kept.foldl2 | apply h0 | simp only [Kept.mk_iff] | apply Kept.of | apply Kept.with_adc | apply Kept.with_tmrs | constructor | apply Kept.part | apply Kept.pending | apply Kept.regs | apply Kept.clk | apply Kept.hif | apply Kept.evc | apply Kept.sec | apply Kept.whl | apply Kept.sch | apply Kept.banks | apply Kept.quads | apply Kept.ink | apply Kept.grds | apply Kept.adc | apply Kept.cmps | apply Kept.tmrs | apply Kept.nibs | apply TmrsOk.modAt | apply TmrsOk.map | apply TmrsOk.mapIdx | apply Adc.shaped_convs | (simp only [Adc.shaped_mk, setAt_length, modAt_length, unsettleIf_length, cmpSet_length, nibIdle_length, upTo_length, List.length_map, List.length_mapIdx, List.length_replicate]) | (fail_if_no_progress beta_reduce) | (fail_if_no_progress dsimp only) | split | apply And.intro)

/-! Adc -/

theorem Kept.settleBy {o : State} (t n : Nat) (s : State) (h0 : Kept o s) : Kept o (State.settleBy t n s) := by
  unfold Sys2Proof.Machine.State.settleBy
  dsimp -failIfUnchanged only
  with_reducible repeat' (first | assumption | (intro _) | apply Kept.ite | apply Kept.ite2 | apply Kept.foldl | apply Kept.foldl2 | apply Kept.setWin | apply h0 | (fail_if_no_progress beta_reduce) | (fail_if_no_progress dsimp only) | split | apply And.intro)

theorem Kept.landFlight {o : State} (n : Nat) (s : State) (h0 : Kept o s) : Kept o (State.landFlight n s) := by
  unfold Sys2Proof.Machine.State.landFlight
  dsimp -failIfUnchanged only
  with_reducible repeat' (first | assumption | (intro _) | apply Kept.ite | apply Kept.ite2 | apply Kept.foldl | apply Kept.foldl2 | apply Kept.sample | apply Kept.modConv | apply h0 | (fail_if_no_progress beta_reduce) | (fail_if_no_progress dsimp only) | split | apply And.intro)

theorem Kept.runVisit {o : State} (n e skip m : Nat) (cs : List Int) (s : State) (h0 : Kept o s) : Kept o (State.runVisit n e skip m cs s) := by
  unfold Sys2Proof.Machine.State.runVisit
  dsimp -failIfUnchanged only
  with_reducible repeat' (first | assumption | (intro _) | apply Kept.ite | apply Kept.ite2 | apply Kept.foldl | apply Kept.foldl2 | apply Kept.settleBy | apply Kept.sample | apply Kept.modConv | apply h0 | (fail_if_no_progress beta_reduce) | (fail_if_no_progress dsimp only) | split | apply And.intro)

theorem Kept.loopStep {o : State} (n e : Nat) (cs : List Int) (s : State) (h0 : Kept o s) : Kept o (State.loopStep n e cs s) := by
  unfold Sys2Proof.Machine.State.loopStep
  dsimp -failIfUnchanged only
  with_reducible repeat' (first | assumption | (intro _) | apply Kept.ite | apply Kept.ite2 | apply Kept.foldl | apply Kept.foldl2 | apply Kept.landFlight | apply Kept.runVisit | apply Kept.modConv | apply h0 | (fail_if_no_progress beta_reduce) | (fail_if_no_progress dsimp only) | split | apply And.intro)

theorem Kept.urgentStep {o : State} (n e : Nat) (cs : List Int) (s : State) (h0 : Kept o s) : Kept o (State.urgentStep n e cs s) := by
  unfold Sys2Proof.Machine.State.urgentStep
  dsimp -failIfUnchanged only
  with_reducible repeat' (first | assumption | (intro _) | apply Kept.ite | apply Kept.ite2 | apply Kept.foldl | apply Kept.foldl2 | apply Kept.landFlight | apply Kept.modConv | apply Kept.runVisit | apply h0 | (fail_if_no_progress beta_reduce) | (fail_if_no_progress dsimp only) | split | apply And.intro)

theorem Kept.calWrite {o : State} (p : Port) (v : Word) (s : State) (h0 : Kept o s) : Kept o (State.calWrite p v s) := by
  unfold Sys2Proof.Machine.State.calWrite
  dsimp -failIfUnchanged only
  with_reducible repeat' (first | assumption | (intro _) | apply Kept.ite | apply Kept.ite2 | apply Kept.foldl | apply Kept.foldl2 | apply Kept.busWrite | apply h0 | simp only [Kept.mk_iff] | apply Kept.of | apply Kept.with_adc | apply Kept.adc | apply Adc.shaped_convs | (simp only [Adc.shaped_mk, setAt_length, modAt_length, unsettleIf_length, cmpSet_length, nibIdle_length, upTo_length, List.length_map, List.length_mapIdx, List.length_replicate]) | (fail_if_no_progress beta_reduce) | (fail_if_no_progress dsimp only) | split | apply And.intro)

theorem Kept.calNext {o : State} (k : CalRun) (s : State) (h0 : Kept o s) : Kept o (State.calNext k s) := by
  unfold Sys2Proof.Machine.State.calNext
  dsimp -failIfUnchanged only
  with_reducible repeat' (first | assumption | (intro _) | apply Kept.ite | apply Kept.ite2 | apply Kept.foldl | apply Kept.foldl2 | apply Kept.modConv | apply h0 | simp only [Kept.mk_iff] | apply Kept.of | apply Kept.with_adc | apply Kept.adc | apply Adc.shaped_convs | (simp only [Adc.shaped_mk, setAt_length, modAt_length, unsettleIf_length, cmpSet_length, nibIdle_length, upTo_length, List.length_map, List.length_mapIdx, List.length_replicate]) | (fail_if_no_progress beta_reduce) | (fail_if_no_progress dsimp only) | split | apply And.intro)

theorem Kept.calAbort {o : State} (s : State) (h0 : Kept o s) : Kept o (State.calAbort s) := by
  unfold Sys2Proof.Machine.State.calAbort
  dsimp -failIfUnchanged only
  with_reducible repeat' (first | assumption | (intro _) | apply Kept.ite | apply Kept.ite2 | apply Kept.foldl | apply Kept.foldl2 | apply Kept.modConv | apply h0 | simp only [Kept.mk_iff] | apply Kept.of | apply Kept.with_adc | apply Kept.adc | apply Adc.shaped_convs | (simp only [Adc.shaped_mk, setAt_length, modAt_length, unsettleIf_length, cmpSet_length, nibIdle_length, upTo_length, List.length_map, List.length_mapIdx, List.length_replicate]) | (fail_if_no_progress beta_reduce) | (fail_if_no_progress dsimp only) | split | apply And.intro)

theorem Kept.launchFlight {o : State} (n e : Nat) (s : State) (h0 : Kept o s) : Kept o (State.launchFlight n e s) := by
  unfold Sys2Proof.Machine.State.launchFlight
  dsimp -failIfUnchanged only
  with_reducible repeat' (first | assumption | (intro _) | apply Kept.ite | apply Kept.ite2 | apply Kept.foldl | apply Kept.foldl2 | apply Kept.modConv | apply h0 | (fail_if_no_progress beta_reduce) | (fail_if_no_progress dsimp only) | split | apply And.intro)

theorem Kept.bumpEpoch {o : State} (t : Nat) (s : State) (h0 : Kept o s) : Kept o (State.bumpEpoch t s) := by
  unfold Sys2Proof.Machine.State.bumpEpoch
  dsimp -failIfUnchanged only
  with_reducible repeat' (first | assumption | (intro _) | apply Kept.ite | apply Kept.ite2 | apply Kept.foldl | apply Kept.foldl2 | apply Kept.setWin | apply Kept.set | apply h0 | (fail_if_no_progress beta_reduce) | (fail_if_no_progress dsimp only) | split | apply And.intro)

theorem Kept.tqChanged {o : State} (t : Nat) (s : State) (h0 : Kept o s) : Kept o (State.tqChanged t s) := by
  unfold Sys2Proof.Machine.State.tqChanged
  dsimp -failIfUnchanged only
  with_reducible repeat' (first | assumption | (intro _) | apply Kept.ite | apply Kept.ite2 | apply Kept.foldl | apply Kept.foldl2 | apply Kept.launchFlight | apply Kept.bumpEpoch | apply h0 | (fail_if_no_progress beta_reduce) | (fail_if_no_progress dsimp only) | split | apply And.intro)

theorem Kept.moveEntry {o : State} (n e n' e' role : Nat) (s : State) (h0 : Kept o s) : Kept o ((State.moveEntry n e n' e' role s).2) := by
  unfold Sys2Proof.Machine.State.moveEntry
  dsimp -failIfUnchanged only
  with_reducible repeat' (first | assumption | (intro _) | apply Kept.ite | apply Kept.ite2 | apply Kept.foldl | apply Kept.foldl2 | apply Kept.launchFlight | apply Kept.putBoth | apply Kept.bumpEpoch | apply Kept.putShadow | apply Kept.modConv | apply h0 | (fail_if_no_progress beta_reduce) | (fail_if_no_progress dsimp only) | split | apply And.intro)

theorem Kept.moveWrite {o : State} (p : Port) (v : Word) (s : State) (h0 : Kept o s) : Kept o (State.moveWrite p v s) := by
  unfold Sys2Proof.Machine.State.moveWrite
  dsimp -failIfUnchanged only
  with_reducible repeat' (first | assumption | (intro _) | apply Kept.ite | apply Kept.ite2 | apply Kept.foldl | apply Kept.foldl2 | apply Kept.busWrite | apply Kept.count | apply Kept.moveEntry | apply h0 | simp only [Kept.mk_iff] | apply Kept.of | apply Kept.with_adc | apply Kept.adc | apply Adc.shaped_convs | (simp only [Adc.shaped_mk, setAt_length, modAt_length, unsettleIf_length, cmpSet_length, nibIdle_length, upTo_length, List.length_map, List.length_mapIdx, List.length_replicate]) | (fail_if_no_progress beta_reduce) | (fail_if_no_progress dsimp only) | split | apply And.intro)

theorem Kept.accAdvance {o : State} (s : State) (h0 : Kept o s) : Kept o (State.accAdvance s) := by
  unfold Sys2Proof.Machine.State.accAdvance
  dsimp -failIfUnchanged only
  with_reducible repeat' (first | assumption | (intro _) | apply Kept.ite | apply Kept.ite2 | apply Kept.foldl | apply Kept.foldl2 | apply Kept.set | apply h0 | (fail_if_no_progress beta_reduce) | (fail_if_no_progress dsimp only) | split | apply And.intro)

theorem Kept.accWrite {o : State} (p : Port) (t w : Nat) (v : Word) (s : State) (h0 : Kept o s) : Kept o (State.accWrite p t w v s) := by
  unfold Sys2Proof.Machine.State.accWrite
  dsimp -failIfUnchanged only
  with_reducible repeat' (first | assumption | (intro _) | apply Kept.ite | apply Kept.ite2 | apply Kept.foldl | apply Kept.foldl2 | apply Kept.rowWrite | apply Kept.tqChanged | apply h0 | (fail_if_no_progress beta_reduce) | (fail_if_no_progress dsimp only) | split | apply And.intro)

theorem Kept.accAccess {o : State} (p : Port) (w : Option Word) (s : State) (h0 : Kept o s) : Kept o (State.accAccess p w s) := by
  unfold Sys2Proof.Machine.State.accAccess
  dsimp -failIfUnchanged only
  with_reducible repeat' (first | assumption | (intro _) | apply Kept.ite | apply Kept.ite2 | apply Kept.foldl | apply Kept.foldl2 | apply Kept.answer | apply Kept.accWrite | apply Kept.accAdvance | apply h0 | (fail_if_no_progress beta_reduce) | (fail_if_no_progress dsimp only) | split | apply And.intro)

theorem Kept.timeClose {o : State} (t : Nat) (s : State) (h0 : Kept o s) : Kept o (State.timeClose t s) := by
  unfold Sys2Proof.Machine.State.timeClose
  dsimp -failIfUnchanged only
  with_reducible repeat' (first | assumption | (intro _) | apply Kept.ite | apply Kept.ite2 | apply Kept.foldl | apply Kept.foldl2 | apply Kept.closeWin | apply Kept.setWin | apply Kept.short | apply h0 | (fail_if_no_progress beta_reduce) | (fail_if_no_progress dsimp only) | split | apply And.intro)

theorem Kept.timeWinsOpen {o : State} (s : State) (h0 : Kept o s) : Kept o (State.timeWinsOpen s) := by
  unfold Sys2Proof.Machine.State.timeWinsOpen
  dsimp -failIfUnchanged only
  with_reducible repeat' (first | assumption | (intro _) | apply Kept.ite | apply Kept.ite2 | apply Kept.foldl | apply Kept.foldl2 | apply Kept.openAll | apply h0 | (fail_if_no_progress beta_reduce) | (fail_if_no_progress dsimp only) | split | apply And.intro)

theorem Kept.winsLeave {o : State} (keep : Option Nat) (s : State) (h0 : Kept o s) : Kept o (State.winsLeave keep s) := by
  unfold Sys2Proof.Machine.State.winsLeave
  dsimp -failIfUnchanged only
  with_reducible repeat' (first | assumption | (intro _) | apply Kept.ite | apply Kept.ite2 | apply Kept.foldl | apply Kept.foldl2 | apply Kept.closeAll | apply Kept.openAll | apply h0 | (fail_if_no_progress beta_reduce) | (fail_if_no_progress dsimp only) | split | apply And.intro)

theorem Kept.convGone {o : State} (n : Nat) (s : State) (h0 : Kept o s) : Kept o (State.convGone n s) := by
  unfold Sys2Proof.Machine.State.convGone
  dsimp -failIfUnchanged only
  with_reducible repeat' (first | assumption | (intro _) | apply Kept.ite | apply Kept.ite2 | apply Kept.foldl | apply Kept.foldl2 | apply Kept.closeAll | apply h0 | (fail_if_no_progress beta_reduce) | (fail_if_no_progress dsimp only) | split | apply And.intro)

/-! Flags -/

theorem Kept.clearCond {o : State} (b t c : Nat) (s : State) (h0 : Kept o s) : Kept o (State.clearCond b t c s) := by
  unfold Sys2Proof.Machine.State.clearCond
  dsimp -failIfUnchanged only
  with_reducible repeat' (first | assumption | (intro _) | apply Kept.ite | apply Kept.ite2 | apply Kept.foldl | apply Kept.foldl2 | apply Kept.clrLatch | apply h0 | (fail_if_no_progress beta_reduce) | (fail_if_no_progress dsimp only) | split | apply And.intro)

/-! Regul -/

theorem Kept.loadFine {o : State} (b t : Nat) (s : State) (h0 : Kept o s) : Kept o (State.loadFine b t s) := by
  unfold Sys2Proof.Machine.State.loadFine
  dsimp -failIfUnchanged only
  with_reducible repeat' (first | assumption | (intro _) | apply Kept.ite | apply Kept.ite2 | apply Kept.foldl | apply Kept.foldl2 | apply h0 | simp only [Kept.mk_iff] | apply Kept.of | apply Kept.with_cmps | apply Kept.cmps | apply Cmps.shaped_peak | apply Cmps.shaped_hold | apply Cmps.shaped_vds | apply Cmps.shaped_ghv | apply Cmps.shaped_ghb | apply Cmps.shaped_ft | apply Cmps.shaped_rev | apply Cmps.shaped_wm | (simp only [Cmps.shaped_mk, setAt_length, modAt_length, unsettleIf_length, cmpSet_length, nibIdle_length, upTo_length, List.length_map, List.length_mapIdx, List.length_replicate]) | (fail_if_no_progress beta_reduce) | (fail_if_no_progress dsimp only) | split | apply And.intro)

theorem Kept.chopGl {o : State} (b t : Nat) (on : Bool) (s : State) (h0 : Kept o s) : Kept o (State.chopGl b t on s) := by
  unfold Sys2Proof.Machine.State.chopGl
  dsimp -failIfUnchanged only
  with_reducible repeat' (first | assumption | (intro _) | apply Kept.ite | apply Kept.ite2 | apply Kept.foldl | apply Kept.foldl2 | apply Kept.loadFine | apply Kept.glOn | apply Kept.setGl | apply Kept.offEvent | apply h0 | (fail_if_no_progress beta_reduce) | (fail_if_no_progress dsimp only) | split | apply And.intro)

theorem Kept.chopGhb {o : State} (b t : Nat) (on : Bool) (s : State) (h0 : Kept o s) : Kept o (State.chopGhb b t on s) := by
  unfold Sys2Proof.Machine.State.chopGhb
  dsimp -failIfUnchanged only
  with_reducible repeat' (first | assumption | (intro _) | apply Kept.ite | apply Kept.ite2 | apply Kept.foldl | apply Kept.foldl2 | apply Kept.setGhb | apply Kept.beginEvent | apply Kept.offEvent | apply h0 | (fail_if_no_progress beta_reduce) | (fail_if_no_progress dsimp only) | split | apply And.intro)

theorem Kept.startOff {o : State} (b t : Nat) (s : State) (h0 : Kept o s) : Kept o (State.startOff b t s) := by
  unfold Sys2Proof.Machine.State.startOff
  dsimp -failIfUnchanged only
  with_reducible repeat' (first | assumption | (intro _) | apply Kept.ite | apply Kept.ite2 | apply Kept.foldl | apply Kept.foldl2 | apply Kept.chopGl | apply Kept.modThread | apply h0 | apply Bank.shaped_threads | (simp only [Bank.shaped_mk, setAt_length, modAt_length, unsettleIf_length, cmpSet_length, nibIdle_length, upTo_length, List.length_map, List.length_mapIdx, List.length_replicate]) | (fail_if_no_progress beta_reduce) | (fail_if_no_progress dsimp only) | split | apply And.intro)

theorem Kept.setFine {o : State} (n : Nat) (code : Option Nat) (s : State) (h0 : Kept o s) : Kept o (State.setFine n code s) := by
  unfold Sys2Proof.Machine.State.setFine
  dsimp -failIfUnchanged only
  with_reducible repeat' (first | assumption | (intro _) | apply Kept.ite | apply Kept.ite2 | apply Kept.foldl | apply Kept.foldl2 | apply Kept.clrLatch | apply h0 | simp only [Kept.mk_iff] | apply Kept.of | apply Kept.with_cmps | apply Kept.cmps | apply Cmps.shaped_peak | apply Cmps.shaped_hold | apply Cmps.shaped_vds | apply Cmps.shaped_ghv | apply Cmps.shaped_ghb | apply Cmps.shaped_ft | apply Cmps.shaped_rev | apply Cmps.shaped_wm | (simp only [Cmps.shaped_mk, setAt_length, modAt_length, unsettleIf_length, cmpSet_length, nibIdle_length, upTo_length, List.length_map, List.length_mapIdx, List.length_replicate]) | (fail_if_no_progress beta_reduce) | (fail_if_no_progress dsimp only) | split | apply And.intro)

theorem Kept.regLook {o : State} (b t : Nat) (s : State) (h0 : Kept o s) : Kept o (State.regLook b t s) := by
  unfold Sys2Proof.Machine.State.regLook
  dsimp -failIfUnchanged only
  with_reducible repeat' (first | assumption | (intro _) | apply Kept.ite | apply Kept.ite2 | apply Kept.foldl | apply Kept.foldl2 | apply Kept.modThread | apply Kept.chopGhb | apply Kept.chopGl | apply Kept.startOff | apply h0 | apply Bank.shaped_threads | (simp only [Bank.shaped_mk, setAt_length, modAt_length, unsettleIf_length, cmpSet_length, nibIdle_length, upTo_length, List.length_map, List.length_mapIdx, List.length_replicate]) | (fail_if_no_progress beta_reduce) | (fail_if_no_progress dsimp only) | split | apply And.intro)

theorem Kept.settleBank {o : State} (b : Nat) (s : State) (h0 : Kept o s) : Kept o (State.settleBank b s) := by
  unfold Sys2Proof.Machine.State.settleBank
  dsimp -failIfUnchanged only
  with_reducible repeat' (first | assumption | (intro _) | apply Kept.ite | apply Kept.ite2 | apply Kept.foldl | apply Kept.foldl2 | apply Kept.setFine | apply Kept.regLook | apply h0 | (fail_if_no_progress beta_reduce) | (fail_if_no_progress dsimp only) | split | apply And.intro)

/-! Sched -/

theorem Kept.stale {o : State} (e : Event) (s : State) (h0 : Kept o s) : Kept o (State.stale e s) := by
  unfold Sys2Proof.Machine.State.stale
  dsimp -failIfUnchanged only
  with_reducible repeat' (first | assumption | (intro _) | apply Kept.ite | apply Kept.ite2 | apply Kept.foldl | apply Kept.foldl2 | apply Kept.count | apply Kept.refuse | apply h0 | (fail_if_no_progress beta_reduce) | (fail_if_no_progress dsimp only) | split | apply And.intro)

theorem Kept.inkCheck {o : State} (e : Event) (s : State) (h0 : Kept o s) : Kept o ((State.inkCheck e s).2) := by
  unfold Sys2Proof.Machine.State.inkCheck
  dsimp -failIfUnchanged only
  with_reducible repeat' (first | assumption | (intro _) | apply Kept.ite | apply Kept.ite2 | apply Kept.foldl | apply Kept.foldl2 | apply Kept.count | apply Kept.refuse | apply Kept.reserve | apply Kept.alarm | apply Kept.raise | apply h0 | apply Kept.id | (fail_if_no_progress beta_reduce) | (fail_if_no_progress dsimp only) | split | apply And.intro)

theorem Kept.dutyCheck {o : State} (e : Event) (s : State) (h0 : Kept o s) : Kept o ((State.dutyCheck e s).2) := by
  unfold Sys2Proof.Machine.State.dutyCheck
  dsimp -failIfUnchanged only
  with_reducible repeat' (first | assumption | (intro _) | apply Kept.ite | apply Kept.ite2 | apply Kept.foldl | apply Kept.foldl2 | apply Kept.count | apply h0 | (fail_if_no_progress beta_reduce) | (fail_if_no_progress dsimp only) | split | apply And.intro)

theorem Kept.releaseTrace {o : State} (e : Event) (code : Nat) (forced : Bool) (s : State) (h0 :
    Kept o s) : Kept o (State.releaseTrace e code forced s) := by
  unfold Sys2Proof.Machine.State.releaseTrace
  dsimp -failIfUnchanged only
  with_reducible repeat' (first | assumption | (intro _) | apply Kept.ite | apply Kept.ite2 | apply Kept.foldl | apply Kept.foldl2 | apply Kept.trace | apply h0 | (fail_if_no_progress beta_reduce) | (fail_if_no_progress dsimp only) | split | apply And.intro)

theorem Kept.refuseRelease {o : State} (e : Event) (code : Nat) (s : State) (h0 : Kept o s) : Kept o (State.refuseRelease e code s) := by
  unfold Sys2Proof.Machine.State.refuseRelease
  dsimp -failIfUnchanged only
  with_reducible repeat' (first | assumption | (intro _) | apply Kept.ite | apply Kept.ite2 | apply Kept.foldl | apply Kept.foldl2 | apply Kept.releaseTrace | apply Kept.refuse | apply h0 | (fail_if_no_progress beta_reduce) | (fail_if_no_progress dsimp only) | split | apply And.intro)

theorem Kept.release {o : State} (n : Nat) (s : State) (h0 : Kept o s) : Kept o (State.release n s) := by
  unfold State.release
  split
  · exact h0
  · next e0 _ =>
    dsimp only
    split
    · exact Kept.refuseRelease _ _ _ (Kept.count _ _ h0)
    · have h1 : Kept o (s.inkCheck (s.prepared e0)).2 := Kept.inkCheck _ _ h0
      split
      · next heq => rw [heq] at h1; exact h1
      · next heq => rw [heq] at h1; exact Kept.refuseRelease _ _ _ h1
      · next e forced s2 heq =>
        rw [heq] at h1
        have h2 : Kept o (s2.dutyCheck e).2 := Kept.dutyCheck _ _ h1
        split
        · next heq2 =>
          rw [heq2] at h2
          split
          · exact Kept.refuseRelease _ _ _ h2
          · exact Kept.releaseTrace _ _ _ _ (Kept.modEvent _ _ _ h2)
        · next heq2 => rw [heq2] at h2; exact Kept.refuseRelease _ _ _ h2
        · next heq2 => rw [heq2] at h2; exact h2

theorem Kept.startThread {o : State} (e : Event) (t : Nat) (edge : Tb) (s : State) (h0 : Kept o s) : Kept o (State.startThread e t edge s) := by
  unfold Sys2Proof.Machine.State.startThread
  dsimp -failIfUnchanged only
  with_reducible repeat' (first | assumption | (intro _) | apply Kept.ite | apply Kept.ite2 | apply Kept.foldl | apply Kept.foldl2 | apply Kept.modThread | apply Kept.clrLatch | apply Kept.modChan | apply h0 | apply Bank.shaped_threads | apply Kept.id | (simp only [Bank.shaped_mk, setAt_length, modAt_length, unsettleIf_length, cmpSet_length, nibIdle_length, upTo_length, List.length_map, List.length_mapIdx, List.length_replicate]) | (fail_if_no_progress beta_reduce) | (fail_if_no_progress dsimp only) | split | apply And.intro)

theorem Kept.startLog {o : State} (e : Event) (edge : Tb) (s : State) (h0 : Kept o s) : Kept o (State.startLog e edge s) := by
  unfold Sys2Proof.Machine.State.startLog
  dsimp -failIfUnchanged only
  with_reducible repeat' (first | assumption | (intro _) | apply Kept.ite | apply Kept.ite2 | apply Kept.foldl | apply Kept.foldl2 | apply Kept.placeEdge | apply h0 | apply Kept.id | (fail_if_no_progress beta_reduce) | (fail_if_no_progress dsimp only) | split | apply And.intro)

theorem Kept.begin {o : State} (e : Event) (base edge : Tb) (lt waited : Nat) (t : Option Nat) (s : State) (h0 :
    Kept o s) : Kept o (State.begin e base edge lt waited t s) := by
  unfold Sys2Proof.Machine.State.begin
  dsimp -failIfUnchanged only
  with_reducible repeat' (first | assumption | (intro _) | apply Kept.ite | apply Kept.ite2 | apply Kept.foldl | apply Kept.foldl2 | apply Kept.count | apply Kept.modChan | apply Kept.modEvent | apply Kept.startThread | apply Kept.modThread | apply Kept.startLog | apply h0 | apply Bank.shaped_threads | apply Kept.id | (simp only [Bank.shaped_mk, setAt_length, modAt_length, unsettleIf_length, cmpSet_length, nibIdle_length, upTo_length, List.length_map, List.length_mapIdx, List.length_replicate]) | (fail_if_no_progress beta_reduce) | (fail_if_no_progress dsimp only) | split | apply And.intro)

theorem Kept.merge {o : State} (e : Event) (t : Nat) (s : State) (h0 : Kept o s) : Kept o (State.merge e t s) := by
  unfold Sys2Proof.Machine.State.merge
  dsimp -failIfUnchanged only
  with_reducible repeat' (first | assumption | (intro _) | apply Kept.ite | apply Kept.ite2 | apply Kept.foldl | apply Kept.foldl2 | apply Kept.modStore | apply Kept.modEvent | apply Kept.count | apply Kept.unreserveBoost | apply Kept.withdraw | apply Kept.modThread | apply h0 | simp only [Kept.mk_iff] | apply Kept.of | apply Bank.shaped_threads | apply Kept.id | (simp only [Bank.shaped_mk, setAt_length, modAt_length, unsettleIf_length, cmpSet_length, nibIdle_length, upTo_length, List.length_map, List.length_mapIdx, List.length_replicate]) | (fail_if_no_progress beta_reduce) | (fail_if_no_progress dsimp only) | split | apply And.intro)

theorem Kept.stopWaiting {o : State} (b id : Nat) (s : State) (h0 : Kept o s) : Kept o (State.stopWaiting b id s) := by
  unfold Sys2Proof.Machine.State.stopWaiting
  dsimp -failIfUnchanged only
  with_reducible repeat' (first | assumption | (intro _) | apply Kept.ite | apply Kept.ite2 | apply Kept.foldl | apply Kept.foldl2 | apply Kept.modBank | apply h0 | apply Bank.shaped_threads | apply Kept.id | (simp only [Bank.shaped_mk, setAt_length, modAt_length, unsettleIf_length, cmpSet_length, nibIdle_length, upTo_length, List.length_map, List.length_mapIdx, List.length_replicate]) | (fail_if_no_progress beta_reduce) | (fail_if_no_progress dsimp only) | split | apply And.intro)

theorem Kept.takeThread {o : State} (e : Event) (s : State) (h0 : Kept o s) : Kept o (State.takeThread e s) := by
  unfold Sys2Proof.Machine.State.takeThread
  dsimp -failIfUnchanged only
  with_reducible repeat' (first | assumption | (intro _) | apply Kept.ite | apply Kept.ite2 | apply Kept.foldl | apply Kept.foldl2 | apply Kept.stopWaiting | apply Kept.refuse | apply Kept.begin | apply h0 | apply Kept.id | (fail_if_no_progress beta_reduce) | (fail_if_no_progress dsimp only) | split | apply And.intro)

theorem Kept.wait {o : State} (e : Event) (base edge : Tb) (lt : Nat) (s : State) (h0 : Kept o s) : Kept o (State.wait e base edge lt s) := by
  unfold Sys2Proof.Machine.State.wait
  dsimp -failIfUnchanged only
  with_reducible repeat' (first | assumption | (intro _) | apply Kept.ite | apply Kept.ite2 | apply Kept.foldl | apply Kept.foldl2 | apply Kept.modEvent | apply Kept.modBank | apply h0 | apply Bank.shaped_threads | apply Kept.id | (simp only [Bank.shaped_mk, setAt_length, modAt_length, unsettleIf_length, cmpSet_length, nibIdle_length, upTo_length, List.length_map, List.length_mapIdx, List.length_replicate]) | (fail_if_no_progress beta_reduce) | (fail_if_no_progress dsimp only) | split | apply And.intro)

theorem Kept.comeDue {o : State} (n : Nat) (s : State) (h0 : Kept o s) : Kept o (State.comeDue n s) := by
  unfold Sys2Proof.Machine.State.comeDue
  dsimp -failIfUnchanged only
  with_reducible repeat' (first | assumption | (intro _) | apply Kept.ite | apply Kept.ite2 | apply Kept.foldl | apply Kept.foldl2 | apply Kept.takeThread | apply Kept.merge | apply Kept.refuse | apply Kept.stale | apply Kept.askQuad | apply Kept.begin | apply Kept.wait | apply h0 | apply Kept.id | (fail_if_no_progress beta_reduce) | (fail_if_no_progress dsimp only) | split | apply And.intro)

theorem Kept.endLog {o : State} (e : Event) (t : Tb) (s : State) (h0 : Kept o s) : Kept o (State.endLog e t s) := by
  unfold Sys2Proof.Machine.State.endLog
  dsimp -failIfUnchanged only
  with_reducible repeat' (first | assumption | (intro _) | apply Kept.ite | apply Kept.ite2 | apply Kept.foldl | apply Kept.foldl2 | apply Kept.setGl | apply Kept.offEvent | apply Kept.modEvent | apply Kept.modeSettle | apply h0 | simp only [Kept.mk_iff] | apply Kept.of | apply Kept.id | (fail_if_no_progress beta_reduce) | (fail_if_no_progress dsimp only) | split | apply And.intro)

theorem Kept.timeOutThread {o : State} (b t : Nat) (s : State) (h0 : Kept o s) : Kept o (State.timeOutThread b t s) := by
  unfold Sys2Proof.Machine.State.timeOutThread
  dsimp -failIfUnchanged only
  with_reducible repeat' (first | assumption | (intro _) | apply Kept.ite | apply Kept.ite2 | apply Kept.foldl | apply Kept.foldl2 | apply Kept.modStore | apply Kept.gatesLow | apply Kept.releaseToken | apply Kept.closeThreadWins | apply Kept.endEvents | apply Kept.freeThread | apply h0 | (fail_if_no_progress beta_reduce) | (fail_if_no_progress dsimp only) | split | apply And.intro)

theorem Kept.timeOutEvent {o : State} (e : Event) (s : State) (h0 : Kept o s) : Kept o (State.timeOutEvent e s) := by
  unfold Sys2Proof.Machine.State.timeOutEvent
  dsimp -failIfUnchanged only
  with_reducible repeat' (first | assumption | (intro _) | apply Kept.ite | apply Kept.ite2 | apply Kept.foldl | apply Kept.foldl2 | apply Kept.unreserve | apply Kept.modEvent | apply h0 | apply Kept.id | (fail_if_no_progress beta_reduce) | (fail_if_no_progress dsimp only) | split | apply And.intro)

theorem Kept.truncThread {o : State} (b t : Nat) (s : State) (h0 : Kept o s) : Kept o (State.truncThread b t s) := by
  unfold Sys2Proof.Machine.State.truncThread
  dsimp -failIfUnchanged only
  with_reducible repeat' (first | assumption | (intro _) | apply Kept.ite | apply Kept.ite2 | apply Kept.foldl | apply Kept.foldl2 | apply Kept.modThread | apply Kept.modStore | apply Kept.count | apply h0 | apply Bank.shaped_threads | (simp only [Bank.shaped_mk, setAt_length, modAt_length, unsettleIf_length, cmpSet_length, nibIdle_length, upTo_length, List.length_map, List.length_mapIdx, List.length_replicate]) | (fail_if_no_progress beta_reduce) | (fail_if_no_progress dsimp only) | split | apply And.intro)

theorem Kept.truncLog {o : State} (n : Nat) (s : State) (h0 : Kept o s) : Kept o (State.truncLog n s) := by
  unfold Sys2Proof.Machine.State.truncLog
  dsimp -failIfUnchanged only
  with_reducible repeat' (first | assumption | (intro _) | apply Kept.ite | apply Kept.ite2 | apply Kept.foldl | apply Kept.foldl2 | apply Kept.modEvent | apply Kept.endLog | apply Kept.count | apply h0 | apply Kept.id | (fail_if_no_progress beta_reduce) | (fail_if_no_progress dsimp only) | split | apply And.intro)

theorem Kept.truncCover {o : State} (p : Nat → Bool) (b : Nat) (s : State) (h0 : Kept o s) : Kept o (State.truncCover p b s) := by
  unfold Sys2Proof.Machine.State.truncCover
  dsimp -failIfUnchanged only
  with_reducible repeat' (first | assumption | (intro _) | apply Kept.ite | apply Kept.ite2 | apply Kept.foldl | apply Kept.foldl2 | apply Kept.truncThread | apply Kept.truncLog | apply h0 | (fail_if_no_progress beta_reduce) | (fail_if_no_progress dsimp only) | split | apply And.intro)

/-! Drive -/

theorem Kept.pullGl {o : State} (n : Nat) (s : State) (h0 : Kept o s) : Kept o (State.pullGl n s) := by
  unfold Sys2Proof.Machine.State.pullGl
  dsimp -failIfUnchanged only
  with_reducible repeat' (first | assumption | (intro _) | apply Kept.ite | apply Kept.ite2 | apply Kept.foldl | apply Kept.foldl2 | apply Kept.setGl | apply Kept.offEvent | apply h0 | apply Kept.id | (fail_if_no_progress beta_reduce) | (fail_if_no_progress dsimp only) | split | apply And.intro)

theorem Kept.tripEnd {o : State} (n : Nat) (s : State) (h0 : Kept o s) : Kept o (State.tripEnd n s) := by
  unfold Sys2Proof.Machine.State.tripEnd
  dsimp -failIfUnchanged only
  with_reducible repeat' (first | assumption | (intro _) | apply Kept.ite | apply Kept.ite2 | apply Kept.foldl | apply Kept.foldl2 | apply Kept.killThread | apply Kept.killLog | apply Kept.settleBank | apply h0 | (fail_if_no_progress beta_reduce) | (fail_if_no_progress dsimp only) | split | apply And.intro)

theorem Kept.seeLatch {o : State} (u : Latch) (s : State) (h0 : Kept o s) : Kept o (State.seeLatch u s) := by
  unfold Sys2Proof.Machine.State.seeLatch
  dsimp -failIfUnchanged only
  with_reducible repeat' (first | assumption | (intro _) | apply Kept.ite | apply Kept.ite2 | apply Kept.foldl | apply Kept.foldl2 | apply Kept.modChan | apply Kept.tripEnd | apply Kept.alarm | apply Kept.raise | apply Kept.modBank | apply Kept.modGrd | apply h0 | apply Bank.shaped_threads | apply Grd.shaped_held8 | (simp only [Bank.shaped_mk, Grd.shaped_mk, setAt_length, modAt_length, unsettleIf_length, cmpSet_length, nibIdle_length, upTo_length, List.length_map, List.length_mapIdx, List.length_replicate]) | (fail_if_no_progress beta_reduce) | (fail_if_no_progress dsimp only) | split | apply And.intro)

theorem Kept.boostReg {o : State} (q vbst : Nat) (s : State) (h0 : Kept o s) : Kept o (State.boostReg q vbst s) := by
  unfold Sys2Proof.Machine.State.boostReg
  dsimp -failIfUnchanged only
  with_reducible repeat' (first | assumption | (intro _) | apply Kept.ite | apply Kept.ite2 | apply Kept.foldl | apply Kept.foldl2 | apply Kept.modQuad | apply h0 | (fail_if_no_progress beta_reduce) | (fail_if_no_progress dsimp only) | split | apply And.intro)

theorem Kept.pulse {o : State} (q vbat : Nat) (s : State) (h0 : Kept o s) : Kept o (State.pulse q vbat s) := by
  unfold Sys2Proof.Machine.State.pulse
  dsimp -failIfUnchanged only
  with_reducible repeat' (first | assumption | (intro _) | apply Kept.ite | apply Kept.ite2 | apply Kept.foldl | apply Kept.foldl2 | apply Kept.modQuad | apply Kept.count | apply Kept.addSat | apply Kept.putWord | apply Kept.setBoost | apply h0 | (fail_if_no_progress beta_reduce) | (fail_if_no_progress dsimp only) | split | apply And.intro)

theorem Kept.displace {o : State} (id : Nat) (s : State) (h0 : Kept o s) : Kept o (State.displace id s) := by
  unfold Sys2Proof.Machine.State.displace
  dsimp -failIfUnchanged only
  with_reducible repeat' (first | assumption | (intro _) | apply Kept.ite | apply Kept.ite2 | apply Kept.foldl | apply Kept.foldl2 | apply Kept.modRing | apply Kept.lose | apply h0 | simp only [Kept.mk_iff] | apply Kept.of | apply Kept.with_hif | apply Kept.hif | apply Hif.shaped_rings | apply Hif.shaped_vecPend | apply Hif.shaped_cqFull | apply Kept.id | (simp only [Hif.shaped_mk, setAt_length, modAt_length, unsettleIf_length, cmpSet_length, nibIdle_length, upTo_length, List.length_map, List.length_mapIdx, List.length_replicate]) | (fail_if_no_progress beta_reduce) | (fail_if_no_progress dsimp only) | split | apply And.intro)

theorem Kept.trimUpdate {o : State} (e : Event) (merged : Bool) (s : State) (h0 : Kept o s) : Kept o (State.trimUpdate e merged s) := by
  unfold Sys2Proof.Machine.State.trimUpdate
  dsimp -failIfUnchanged only
  with_reducible repeat' (first | assumption | (intro _) | apply Kept.ite | apply Kept.ite2 | apply Kept.foldl | apply Kept.foldl2 | apply Kept.set | apply Kept.alarm | apply h0 | (fail_if_no_progress beta_reduce) | (fail_if_no_progress dsimp only) | split | apply And.intro)

theorem Kept.needUpdate {o : State} (e : Event) (merged : Bool) (s : State) (h0 : Kept o s) : Kept o (State.needUpdate e merged s) := by
  unfold Sys2Proof.Machine.State.needUpdate
  dsimp -failIfUnchanged only
  with_reducible repeat' (first | assumption | (intro _) | apply Kept.ite | apply Kept.ite2 | apply Kept.foldl | apply Kept.foldl2 | apply Kept.learnNeed | apply h0 | (fail_if_no_progress beta_reduce) | (fail_if_no_progress dsimp only) | split | apply And.intro)

theorem Kept.afterResult {o : State} (e : Event) (s : State) (h0 : Kept o s) : Kept o (State.afterResult e s) := by
  unfold Sys2Proof.Machine.State.afterResult
  dsimp -failIfUnchanged only
  with_reducible repeat' (first | assumption | (intro _) | apply Kept.ite | apply Kept.ite2 | apply Kept.foldl | apply Kept.foldl2 | apply Kept.modEvent | apply Kept.noKink | apply Kept.dropEvent | apply Kept.watchStore | apply h0 | apply Kept.id | (fail_if_no_progress beta_reduce) | (fail_if_no_progress dsimp only) | split | apply And.intro)

theorem Kept.writeResult {o : State} (e : Event) (s : State) (h0 : Kept o s) : Kept o (State.writeResult e s) := by
  unfold Sys2Proof.Machine.State.writeResult
  dsimp -failIfUnchanged only
  with_reducible repeat' (first | assumption | (intro _) | apply Kept.ite | apply Kept.ite2 | apply Kept.foldl | apply Kept.foldl2 | apply Kept.displace | apply Kept.pushResult | apply Kept.dropEvent | apply Kept.watchStore | apply Kept.trimUpdate | apply Kept.unreserve | apply Kept.setBoost | apply Kept.needUpdate | apply Kept.afterResult | apply h0 | apply Kept.id | (fail_if_no_progress beta_reduce) | (fail_if_no_progress dsimp only) | split | apply And.intro)

theorem Kept.reconcile {o : State} (q vbst : Nat) (s : State) (h0 : Kept o s) : Kept o (State.reconcile q vbst s) := by
  unfold Sys2Proof.Machine.State.reconcile
  dsimp -failIfUnchanged only
  with_reducible repeat' (first | assumption | (intro _) | apply Kept.ite | apply Kept.ite2 | apply Kept.foldl | apply Kept.foldl2 | apply Kept.modQuad | apply Kept.putWord | apply Kept.setBoost | apply h0 | (fail_if_no_progress beta_reduce) | (fail_if_no_progress dsimp only) | split | apply And.intro)

theorem Kept.subwindow {o : State} (g : Nat) (s : State) (h0 : Kept o s) : Kept o (State.subwindow g s) := by
  unfold Sys2Proof.Machine.State.subwindow
  dsimp -failIfUnchanged only
  with_reducible repeat' (first | assumption | (intro _) | apply Kept.ite | apply Kept.ite2 | apply Kept.foldl | apply Kept.foldl2 | apply Kept.watchRail | apply h0 | simp only [Kept.mk_iff] | apply Kept.of | apply Kept.with_ink | apply Kept.ink | apply Ink.shaped_rails | (simp only [Ink.shaped_mk, setAt_length, modAt_length, unsettleIf_length, cmpSet_length, nibIdle_length, upTo_length, List.length_map, List.length_mapIdx, List.length_replicate]) | (fail_if_no_progress beta_reduce) | (fail_if_no_progress dsimp only) | split | apply And.intro)

theorem Kept.ptabAccess {o : State} (p : Port) (w : Option Word) (s : State) (h0 : Kept o s) : Kept o (State.ptabAccess p w s) := by
  unfold Sys2Proof.Machine.State.ptabAccess
  dsimp -failIfUnchanged only
  with_reducible repeat' (first | assumption | (intro _) | apply Kept.ite | apply Kept.ite2 | apply Kept.foldl | apply Kept.foldl2 | apply Kept.answer | apply Kept.putBoth | apply Kept.putWord | apply Kept.putShadow | apply Kept.markDirty | apply Kept.deny | apply Kept.set | apply h0 | (fail_if_no_progress beta_reduce) | (fail_if_no_progress dsimp only) | split | apply And.intro)

theorem Kept.measure {o : State} (id shunt boost rail : Nat) (s : State) (h0 : Kept o s) : Kept o (State.measure id shunt boost rail s) := by
  unfold Sys2Proof.Machine.State.measure
  dsimp -failIfUnchanged only
  with_reducible repeat' (first | assumption | (intro _) | apply Kept.ite | apply Kept.ite2 | apply Kept.foldl | apply Kept.foldl2 | apply Kept.modEvent | apply h0 | apply Kept.id | (fail_if_no_progress beta_reduce) | (fail_if_no_progress dsimp only) | split | apply And.intro)

theorem Kept.convert {o : State} (b : Nat) (path : MeasPath) (shunt volt : Nat) (s : State) (h0 :
    Kept o s) : Kept o (State.convert b path shunt volt s) := by
  unfold Sys2Proof.Machine.State.convert
  dsimp -failIfUnchanged only
  with_reducible repeat' (first | assumption | (intro _) | apply Kept.ite | apply Kept.ite2 | apply Kept.foldl | apply Kept.foldl2 | apply Kept.measure | apply Kept.modThread | apply h0 | apply Bank.shaped_threads | (simp only [Bank.shaped_mk, setAt_length, modAt_length, unsettleIf_length, cmpSet_length, nibIdle_length, upTo_length, List.length_map, List.length_mapIdx, List.length_replicate]) | (fail_if_no_progress beta_reduce) | (fail_if_no_progress dsimp only) | split | apply And.intro)

/-! Tmr -/

theorem Kept.wmSet {o : State} (n : Nat) (m' : WMon) (s : State) (h0 : Kept o s) : Kept o (State.wmSet n m' s) := by
  unfold Sys2Proof.Machine.State.wmSet
  dsimp -failIfUnchanged only
  with_reducible repeat' (first | assumption | (intro _) | apply Kept.ite | apply Kept.ite2 | apply Kept.foldl | apply Kept.foldl2 | apply Kept.set | apply h0 | simp only [Kept.mk_iff] | apply Kept.of | apply Kept.with_cmps | apply Kept.cmps | apply Cmps.shaped_peak | apply Cmps.shaped_hold | apply Cmps.shaped_vds | apply Cmps.shaped_ghv | apply Cmps.shaped_ghb | apply Cmps.shaped_ft | apply Cmps.shaped_rev | apply Cmps.shaped_wm | (simp only [Cmps.shaped_mk, setAt_length, modAt_length, unsettleIf_length, cmpSet_length, nibIdle_length, upTo_length, List.length_map, List.length_mapIdx, List.length_replicate]) | (fail_if_no_progress beta_reduce) | (fail_if_no_progress dsimp only) | split | apply And.intro)

theorem Kept.crossing {o : State} (c : CmpUnit) (above : Bool) (s : State) (h0 : Kept o s) : Kept o (State.crossing c above s) := by
  unfold Sys2Proof.Machine.State.crossing
  dsimp -failIfUnchanged only
  with_reducible repeat' (first | assumption | (intro _) | apply Kept.ite | apply Kept.ite2 | apply Kept.foldl | apply Kept.foldl2 | apply Kept.setBit | apply Kept.wmSet | apply h0 | simp only [Kept.mk_iff] | apply Kept.of | apply Kept.with_cmps | apply Kept.cmps | apply Cmps.shaped_peak | apply Cmps.shaped_hold | apply Cmps.shaped_vds | apply Cmps.shaped_ghv | apply Cmps.shaped_ghb | apply Cmps.shaped_ft | apply Cmps.shaped_rev | apply Cmps.shaped_wm | (simp only [Cmps.shaped_mk, setAt_length, modAt_length, unsettleIf_length, cmpSet_length, nibIdle_length, upTo_length, List.length_map, List.length_mapIdx, List.length_replicate]) | (fail_if_no_progress beta_reduce) | (fail_if_no_progress dsimp only) | split | apply And.intro)

theorem Kept.unsettle {o : State} (keep : Nat → Bool) (s : State) (h0 : Kept o s) : Kept o (State.unsettle keep s) := by
  unfold Sys2Proof.Machine.State.unsettle
  dsimp -failIfUnchanged only
  with_reducible repeat' (first | assumption | (intro _) | apply Kept.ite | apply Kept.ite2 | apply Kept.foldl | apply Kept.foldl2 | apply h0 | simp only [Kept.mk_iff] | apply Kept.of | apply Kept.with_cmps | apply Kept.cmps | apply Cmps.shaped_peak | apply Cmps.shaped_hold | apply Cmps.shaped_vds | apply Cmps.shaped_ghv | apply Cmps.shaped_ghb | apply Cmps.shaped_ft | apply Cmps.shaped_rev | apply Cmps.shaped_wm | (simp only [Cmps.shaped_mk, setAt_length, modAt_length, unsettleIf_length, cmpSet_length, nibIdle_length, upTo_length, List.length_map, List.length_mapIdx, List.length_replicate]) | (fail_if_no_progress beta_reduce) | (fail_if_no_progress dsimp only) | split | apply And.intro)

theorem Kept.tmrStart {o : State} (n : Nat) (s : State) (h0 : Kept o s) : Kept o (State.tmrStart n s) := by
  unfold Sys2Proof.Machine.State.tmrStart
  dsimp -failIfUnchanged only
  with_reducible repeat' (first | assumption | (intro _) | apply Kept.ite | apply Kept.ite2 | apply Kept.foldl | apply Kept.foldl2 | apply Kept.modTmr | apply Kept.count | apply h0 | (fail_if_no_progress beta_reduce) | (fail_if_no_progress dsimp only) | split | apply And.intro)

theorem Kept.tmrAuto {o : State} (s : State) (h0 : Kept o s) : Kept o (State.tmrAuto s) := by
  unfold Sys2Proof.Machine.State.tmrAuto
  dsimp -failIfUnchanged only
  with_reducible repeat' (first | assumption | (intro _) | apply Kept.ite | apply Kept.ite2 | apply Kept.foldl | apply Kept.foldl2 | apply Kept.tmrStart | apply h0 | (fail_if_no_progress beta_reduce) | (fail_if_no_progress dsimp only) | split | apply And.intro)

theorem Kept.tmrDecideAll {o : State} (c : Nat) (s : State) (h0 : Kept o s) : Kept o (State.tmrDecideAll c s) := by
  unfold Sys2Proof.Machine.State.tmrDecideAll
  dsimp -failIfUnchanged only
  with_reducible repeat' (first | assumption | (intro _) | apply Kept.ite | apply Kept.ite2 | apply Kept.foldl | apply Kept.foldl2 | apply h0 | simp only [Kept.mk_iff] | apply Kept.of | apply Kept.with_tmrs | apply Kept.tmrs | apply TmrsOk.modAt | apply TmrsOk.map | apply TmrsOk.mapIdx | (fail_if_no_progress beta_reduce) | (fail_if_no_progress dsimp only) | split | apply And.intro)

theorem Kept.tmrEndAll {o : State} (c : Nat) (s : State) (h0 : Kept o s) : Kept o (State.tmrEndAll c s) := by
  unfold Sys2Proof.Machine.State.tmrEndAll
  dsimp -failIfUnchanged only
  with_reducible repeat' (first | assumption | (intro _) | apply Kept.ite | apply Kept.ite2 | apply Kept.foldl | apply Kept.foldl2 | apply h0 | simp only [Kept.mk_iff] | apply Kept.of | apply Kept.with_tmrs | apply Kept.tmrs | apply TmrsOk.modAt | apply TmrsOk.map | apply TmrsOk.mapIdx | (fail_if_no_progress beta_reduce) | (fail_if_no_progress dsimp only) | split | apply And.intro)

theorem Kept.triggerSlaves {o : State} (n : Nat) (byMatch : Bool) (s : State) (h0 : Kept o s) : Kept o (State.triggerSlaves n byMatch s) := by
  unfold Sys2Proof.Machine.State.triggerSlaves
  dsimp -failIfUnchanged only
  with_reducible repeat' (first | assumption | (intro _) | apply Kept.ite | apply Kept.ite2 | apply Kept.foldl | apply Kept.foldl2 | apply h0 | simp only [Kept.mk_iff] | apply Kept.of | apply Kept.with_tmrs | apply Kept.tmrs | apply TmrsOk.modAt | apply TmrsOk.map | apply TmrsOk.mapIdx | (fail_if_no_progress beta_reduce) | (fail_if_no_progress dsimp only) | split | apply And.intro)

theorem Kept.tmrActions {o : State} (n act cause : Nat) (late : Bool) (s : State) (h0 : Kept o s) : Kept o (State.tmrActions n act cause late s) := by
  unfold Sys2Proof.Machine.State.tmrActions
  dsimp -failIfUnchanged only
  with_reducible repeat' (first | assumption | (intro _) | apply Kept.ite | apply Kept.ite2 | apply Kept.foldl | apply Kept.foldl2 | apply Kept.raise | apply Kept.urgent | apply Kept.closeAll | apply Kept.stageTele | apply h0 | (fail_if_no_progress beta_reduce) | (fail_if_no_progress dsimp only) | split | apply And.intro)

theorem Kept.tmrReload {o : State} (n : Nat) (s : State) (h0 : Kept o s) : Kept o (State.tmrReload n s) := by
  unfold Sys2Proof.Machine.State.tmrReload
  dsimp -failIfUnchanged only
  with_reducible repeat' (first | assumption | (intro _) | apply Kept.ite | apply Kept.ite2 | apply Kept.foldl | apply Kept.foldl2 | apply Kept.addSat | apply Kept.set | apply Kept.modTmr | apply Kept.count | apply h0 | (fail_if_no_progress beta_reduce) | (fail_if_no_progress dsimp only) | split | apply And.intro)

theorem Kept.clearSeen {o : State} (n : Nat) (s : State) (h0 : Kept o s) : Kept o (State.clearSeen n s) := by
  unfold Sys2Proof.Machine.State.clearSeen
  dsimp -failIfUnchanged only
  with_reducible repeat' (first | assumption | (intro _) | apply Kept.ite | apply Kept.ite2 | apply Kept.foldl | apply Kept.foldl2 | apply Kept.clrLatch | apply h0 | (fail_if_no_progress beta_reduce) | (fail_if_no_progress dsimp only) | split | apply And.intro)

theorem Kept.tmrFire {o : State} (n : Nat) (s : State) (h0 : Kept o s) : Kept o (State.tmrFire n s) := by
  unfold Sys2Proof.Machine.State.tmrFire
  dsimp -failIfUnchanged only
  with_reducible repeat' (first | assumption | (intro _) | apply Kept.ite | apply Kept.ite2 | apply Kept.foldl | apply Kept.foldl2 | apply Kept.modTmr | apply Kept.set | apply Kept.triggerSlaves | apply Kept.tmrReload | apply Kept.clearSeen | apply Kept.tmrActions | apply h0 | (fail_if_no_progress beta_reduce) | (fail_if_no_progress dsimp only) | split | apply And.intro)

theorem Kept.tmrStartWrite {o : State} (p : Port) (v : Word) (s : State) (h0 : Kept o s) : Kept o (State.tmrStartWrite p v s) := by
  unfold Sys2Proof.Machine.State.tmrStartWrite
  dsimp -failIfUnchanged only
  with_reducible repeat' (first | assumption | (intro _) | apply Kept.ite | apply Kept.ite2 | apply Kept.foldl | apply Kept.foldl2 | apply Kept.busWrite | apply Kept.tmrStart | apply h0 | (fail_if_no_progress beta_reduce) | (fail_if_no_progress dsimp only) | split | apply And.intro)

theorem Kept.tmrStopWrite {o : State} (p : Port) (v : Word) (s : State) (h0 : Kept o s) : Kept o (State.tmrStopWrite p v s) := by
  unfold Sys2Proof.Machine.State.tmrStopWrite
  dsimp -failIfUnchanged only
  with_reducible repeat' (first | assumption | (intro _) | apply Kept.ite | apply Kept.ite2 | apply Kept.foldl | apply Kept.foldl2 | apply Kept.busWrite | apply Kept.modTmr | apply h0 | (fail_if_no_progress beta_reduce) | (fail_if_no_progress dsimp only) | split | apply And.intro)

theorem Kept.reloadWrite {o : State} (p : Port) (n : Nat) (v : Word) (s : State) (h0 : Kept o s) : Kept o (State.reloadWrite p n v s) := by
  unfold Sys2Proof.Machine.State.reloadWrite
  dsimp -failIfUnchanged only
  with_reducible repeat' (first | assumption | (intro _) | apply Kept.ite | apply Kept.ite2 | apply Kept.foldl | apply Kept.foldl2 | apply Kept.busWrite | apply Kept.count | apply Kept.set | apply h0 | (fail_if_no_progress beta_reduce) | (fail_if_no_progress dsimp only) | split | apply And.intro)

theorem Kept.cmpWrite {o : State} (p : Port) (n : Nat) (v : Word) (s : State) (h0 : Kept o s) : Kept o (State.cmpWrite p n v s) := by
  unfold Sys2Proof.Machine.State.cmpWrite
  dsimp -failIfUnchanged only
  with_reducible repeat' (first | assumption | (intro _) | apply Kept.ite | apply Kept.ite2 | apply Kept.foldl | apply Kept.foldl2 | apply Kept.busWrite | apply Kept.count | apply Kept.modTmr | apply h0 | (fail_if_no_progress beta_reduce) | (fail_if_no_progress dsimp only) | split | apply And.intro)

theorem Kept.tmrResume {o : State} (n : Nat) (s : State) (h0 : Kept o s) : Kept o (State.tmrResume n s) := by
  unfold Sys2Proof.Machine.State.tmrResume
  dsimp -failIfUnchanged only
  with_reducible repeat' (first | assumption | (intro _) | apply Kept.ite | apply Kept.ite2 | apply Kept.foldl | apply Kept.foldl2 | apply Kept.modTmr | apply Kept.count | apply h0 | (fail_if_no_progress beta_reduce) | (fail_if_no_progress dsimp only) | split | apply And.intro)

theorem Kept.tmrSleep {o : State} (s : State) (h0 : Kept o s) : Kept o (State.tmrSleep s) := by
  unfold Sys2Proof.Machine.State.tmrSleep
  dsimp -failIfUnchanged only
  with_reducible repeat' (first | assumption | (intro _) | apply Kept.ite | apply Kept.ite2 | apply Kept.foldl | apply Kept.foldl2 | apply h0 | simp only [Kept.mk_iff] | apply Kept.of | apply Kept.with_tmrs | apply Kept.tmrs | apply TmrsOk.modAt | apply TmrsOk.map | apply TmrsOk.mapIdx | (fail_if_no_progress beta_reduce) | (fail_if_no_progress dsimp only) | split | apply And.intro)

theorem Kept.tmrPins {o : State} (s : State) (h0 : Kept o s) : Kept o (State.tmrPins s) := by
  unfold Sys2Proof.Machine.State.tmrPins
  dsimp -failIfUnchanged only
  with_reducible repeat' (first | assumption | (intro _) | apply Kept.ite | apply Kept.ite2 | apply Kept.foldl | apply Kept.foldl2 | apply h0 | simp only [Kept.mk_iff] | apply Kept.of | apply Kept.with_tmrs | apply Kept.tmrs | apply TmrsOk.modAt | apply TmrsOk.map | apply TmrsOk.mapIdx | (fail_if_no_progress beta_reduce) | (fail_if_no_progress dsimp only) | split | apply And.intro)

/-! Evc -/

theorem Kept.modSrc {o : State} (s : State) (n : Nat) (f : Src → Src) (h0 : Kept o s) : Kept o (State.modSrc s n f) := by
  unfold Sys2Proof.Machine.State.modSrc
  dsimp -failIfUnchanged only
  with_reducible repeat' (first | assumption | (intro _) | apply Kept.ite | apply Kept.ite2 | apply Kept.foldl | apply Kept.foldl2 | apply h0 | simp only [Kept.mk_iff] | apply Kept.of | apply Kept.with_evc | apply Kept.evc | apply Evc.shaped_srcs | apply Evc.shaped_groups | apply Evc.shaped_targets | apply Evc.shaped_ext | (simp only [Evc.shaped_mk, setAt_length, modAt_length, unsettleIf_length, cmpSet_length, nibIdle_length, upTo_length, List.length_map, List.length_mapIdx, List.length_replicate]) | (fail_if_no_progress beta_reduce) | (fail_if_no_progress dsimp only) | split | apply And.intro)

theorem Kept.modTgt {o : State} (s : State) (t : Nat) (f : Target → Target) (h0 : Kept o s) : Kept o (State.modTgt s t f) := by
  unfold Sys2Proof.Machine.State.modTgt
  dsimp -failIfUnchanged only
  with_reducible repeat' (first | assumption | (intro _) | apply Kept.ite | apply Kept.ite2 | apply Kept.foldl | apply Kept.foldl2 | apply h0 | simp only [Kept.mk_iff] | apply Kept.of | apply Kept.with_evc | apply Kept.evc | apply Evc.shaped_srcs | apply Evc.shaped_groups | apply Evc.shaped_targets | apply Evc.shaped_ext | (simp only [Evc.shaped_mk, setAt_length, modAt_length, unsettleIf_length, cmpSet_length, nibIdle_length, upTo_length, List.length_map, List.length_mapIdx, List.length_replicate]) | (fail_if_no_progress beta_reduce) | (fail_if_no_progress dsimp only) | split | apply And.intro)

theorem Kept.message {o : State} (t : Nat) (s : State) (h0 : Kept o s) : Kept o (State.message t s) := by
  unfold Sys2Proof.Machine.State.message
  dsimp -failIfUnchanged only
  with_reducible repeat' (first | assumption | (intro _) | apply Kept.ite | apply Kept.ite2 | apply Kept.foldl | apply Kept.foldl2 | apply Kept.modTgt | apply h0 | simp only [Kept.mk_iff] | apply Kept.of | apply Kept.with_hif | apply Kept.hif | apply Hif.shaped_rings | apply Hif.shaped_vecPend | apply Hif.shaped_cqFull | (simp only [Hif.shaped_mk, setAt_length, modAt_length, unsettleIf_length, cmpSet_length, nibIdle_length, upTo_length, List.length_map, List.length_mapIdx, List.length_replicate]) | (fail_if_no_progress beta_reduce) | (fail_if_no_progress dsimp only) | split | apply And.intro)

theorem Kept.flushMessages {o : State} (s : State) (h0 : Kept o s) : Kept o (State.flushMessages s) := by
  unfold Sys2Proof.Machine.State.flushMessages
  dsimp -failIfUnchanged only
  with_reducible repeat' (first | assumption | (intro _) | apply Kept.ite | apply Kept.ite2 | apply Kept.foldl | apply Kept.foldl2 | apply Kept.message | apply h0 | (fail_if_no_progress beta_reduce) | (fail_if_no_progress dsimp only) | split | apply And.intro)

theorem Kept.groupSettle {o : State} (k : Nat) (s : State) (h0 : Kept o s) : Kept o (State.groupSettle k s) := by
  unfold Sys2Proof.Machine.State.groupSettle
  dsimp -failIfUnchanged only
  with_reducible repeat' (first | assumption | (intro _) | apply Kept.ite | apply Kept.ite2 | apply Kept.foldl | apply Kept.foldl2 | apply h0 | simp only [Kept.mk_iff] | apply Kept.of | apply Kept.with_evc | apply Kept.evc | apply Evc.shaped_srcs | apply Evc.shaped_groups | apply Evc.shaped_targets | apply Evc.shaped_ext | (simp only [Evc.shaped_mk, setAt_length, modAt_length, unsettleIf_length, cmpSet_length, nibIdle_length, upTo_length, List.length_map, List.length_mapIdx, List.length_replicate]) | (fail_if_no_progress beta_reduce) | (fail_if_no_progress dsimp only) | split | apply And.intro)

theorem Kept.assign {o : State} (n t : Nat) (s : State) (h0 : Kept o s) : Kept o (State.assign n t s) := by
  unfold Sys2Proof.Machine.State.assign
  dsimp -failIfUnchanged only
  with_reducible repeat' (first | assumption | (intro _) | apply Kept.ite | apply Kept.ite2 | apply Kept.foldl | apply Kept.foldl2 | apply Kept.modSrc | apply Kept.modTgt | apply Kept.groupSettle | apply h0 | (fail_if_no_progress beta_reduce) | (fail_if_no_progress dsimp only) | split | apply And.intro)

theorem Kept.assignAll {o : State} (s : State) (h0 : Kept o s) : Kept o (State.assignAll s) := by
  unfold Sys2Proof.Machine.State.assignAll
  dsimp -failIfUnchanged only
  with_reducible repeat' (first | assumption | (intro _) | apply Kept.ite | apply Kept.ite2 | apply Kept.foldl | apply Kept.foldl2 | apply Kept.assign | apply Kept.modTgt | apply Kept.message | apply h0 | (fail_if_no_progress beta_reduce) | (fail_if_no_progress dsimp only) | split | apply And.intro)

theorem Kept.giveBack {o : State} (t : Nat) (s : State) (h0 : Kept o s) : Kept o (State.giveBack t s) := by
  unfold Sys2Proof.Machine.State.giveBack
  dsimp -failIfUnchanged only
  with_reducible repeat' (first | assumption | (intro _) | apply Kept.ite | apply Kept.ite2 | apply Kept.foldl | apply Kept.foldl2 | apply Kept.modSrc | apply Kept.modTgt | apply h0 | (fail_if_no_progress beta_reduce) | (fail_if_no_progress dsimp only) | split | apply And.intro)

theorem Kept.claimed {o : State} (t n : Nat) (s : State) (h0 : Kept o s) : Kept o (State.claimed t n s) := by
  unfold Sys2Proof.Machine.State.claimed
  dsimp -failIfUnchanged only
  with_reducible repeat' (first | assumption | (intro _) | apply Kept.ite | apply Kept.ite2 | apply Kept.foldl | apply Kept.foldl2 | apply Kept.modTgt | apply Kept.modSrc | apply Kept.inCycle | apply h0 | (fail_if_no_progress beta_reduce) | (fail_if_no_progress dsimp only) | split | apply And.intro)

theorem Kept.claim {o : State} (t n : Nat) (s : State) (h0 : Kept o s) : Kept o (State.claim t n s) := by
  unfold Sys2Proof.Machine.State.claim
  dsimp -failIfUnchanged only
  with_reducible repeat' (first | assumption | (intro _) | apply Kept.ite | apply Kept.ite2 | apply Kept.foldl | apply Kept.foldl2 | apply Kept.count | apply Kept.claimed | apply Kept.modSrc | apply h0 | (fail_if_no_progress beta_reduce) | (fail_if_no_progress dsimp only) | split | apply And.intro)

theorem Kept.orderFault {o : State} (t n : Nat) (s : State) (h0 : Kept o s) : Kept o (State.orderFault t n s) := by
  unfold Sys2Proof.Machine.State.orderFault
  dsimp -failIfUnchanged only
  with_reducible repeat' (first | assumption | (intro _) | apply Kept.ite | apply Kept.ite2 | apply Kept.foldl | apply Kept.foldl2 | apply Kept.count | apply Kept.alarm | apply Kept.raise | apply h0 | (fail_if_no_progress beta_reduce) | (fail_if_no_progress dsimp only) | split | apply And.intro)

theorem Kept.completed {o : State} (n : Nat) (s : State) (h0 : Kept o s) : Kept o (State.completed n s) := by
  unfold Sys2Proof.Machine.State.completed
  dsimp -failIfUnchanged only
  with_reducible repeat' (first | assumption | (intro _) | apply Kept.ite | apply Kept.ite2 | apply Kept.foldl | apply Kept.foldl2 | apply Kept.modSrc | apply Kept.claimed | apply Kept.raise | apply h0 | (fail_if_no_progress beta_reduce) | (fail_if_no_progress dsimp only) | split | apply And.intro)

theorem Kept.complete {o : State} (t n : Nat) (s : State) (h0 : Kept o s) : Kept o (State.complete t n s) := by
  unfold Sys2Proof.Machine.State.complete
  dsimp -failIfUnchanged only
  with_reducible repeat' (first | assumption | (intro _) | apply Kept.ite | apply Kept.ite2 | apply Kept.foldl | apply Kept.foldl2 | apply Kept.modTgt | apply Kept.completed | apply Kept.giveBack | apply Kept.orderFault | apply h0 | (fail_if_no_progress beta_reduce) | (fail_if_no_progress dsimp only) | split | apply And.intro)

theorem Kept.releaseTgt {o : State} (t : Nat) (s : State) (h0 : Kept o s) : Kept o (State.releaseTgt t s) := by
  unfold Sys2Proof.Machine.State.releaseTgt
  dsimp -failIfUnchanged only
  with_reducible repeat' (first | assumption | (intro _) | apply Kept.ite | apply Kept.ite2 | apply Kept.foldl | apply Kept.foldl2 | apply Kept.giveBack | apply Kept.count | apply h0 | (fail_if_no_progress beta_reduce) | (fail_if_no_progress dsimp only) | split | apply And.intro)

theorem Kept.sourceGone {o : State} (n : Nat) (s : State) (h0 : Kept o s) : Kept o (State.sourceGone n s) := by
  unfold Sys2Proof.Machine.State.sourceGone
  dsimp -failIfUnchanged only
  with_reducible repeat' (first | assumption | (intro _) | apply Kept.ite | apply Kept.ite2 | apply Kept.foldl | apply Kept.foldl2 | apply Kept.modSrc | apply Kept.claimed | apply Kept.groupSettle | apply h0 | simp only [Kept.mk_iff] | apply Kept.of | apply Kept.with_evc | apply Kept.evc | apply Evc.shaped_srcs | apply Evc.shaped_groups | apply Evc.shaped_targets | apply Evc.shaped_ext | (simp only [Evc.shaped_mk, setAt_length, modAt_length, unsettleIf_length, cmpSet_length, nibIdle_length, upTo_length, List.length_map, List.length_mapIdx, List.length_replicate]) | (fail_if_no_progress beta_reduce) | (fail_if_no_progress dsimp only) | split | apply And.intro)

theorem Kept.noteLeft {o : State} (n : Nat) (s : State) (h0 : Kept o s) : Kept o (State.noteLeft n s) := by
  unfold Sys2Proof.Machine.State.noteLeft
  dsimp -failIfUnchanged only
  with_reducible repeat' (first | assumption | (intro _) | apply Kept.ite | apply Kept.ite2 | apply Kept.foldl | apply Kept.foldl2 | apply Kept.inCycle | apply h0 | (fail_if_no_progress beta_reduce) | (fail_if_no_progress dsimp only) | split | apply And.intro)

theorem Kept.deassert {o : State} (n : Nat) (s : State) (h0 : Kept o s) : Kept o (State.deassert n s) := by
  unfold Sys2Proof.Machine.State.deassert
  dsimp -failIfUnchanged only
  with_reducible repeat' (first | assumption | (intro _) | apply Kept.ite | apply Kept.ite2 | apply Kept.foldl | apply Kept.foldl2 | apply Kept.claimed | apply Kept.modSrc | apply Kept.count | apply Kept.noteLeft | apply Kept.sourceGone | apply h0 | (fail_if_no_progress beta_reduce) | (fail_if_no_progress dsimp only) | split | apply And.intro)

theorem Kept.extEdge {o : State} (n : Nat) (high : Bool) (s : State) (h0 : Kept o s) : Kept o (State.extEdge n high s) := by
  unfold Sys2Proof.Machine.State.extEdge
  dsimp -failIfUnchanged only
  with_reducible repeat' (first | assumption | (intro _) | apply Kept.ite | apply Kept.ite2 | apply Kept.foldl | apply Kept.foldl2 | apply Kept.raise | apply Kept.claimed | apply Kept.deassert | apply h0 | simp only [Kept.mk_iff] | apply Kept.of | apply Kept.with_evc | apply Kept.evc | apply Evc.shaped_srcs | apply Evc.shaped_groups | apply Evc.shaped_targets | apply Evc.shaped_ext | (simp only [Evc.shaped_mk, setAt_length, modAt_length, unsettleIf_length, cmpSet_length, nibIdle_length, upTo_length, List.length_map, List.length_mapIdx, List.length_replicate]) | (fail_if_no_progress beta_reduce) | (fail_if_no_progress dsimp only) | split | apply And.intro)

theorem Kept.levelSettle {o : State} (n : Nat) (s : State) (h0 : Kept o s) : Kept o (State.levelSettle n s) := by
  unfold Sys2Proof.Machine.State.levelSettle
  dsimp -failIfUnchanged only
  with_reducible repeat' (first | assumption | (intro _) | apply Kept.ite | apply Kept.ite2 | apply Kept.foldl | apply Kept.foldl2 | apply Kept.claimed | apply Kept.raise | apply Kept.deassert | apply h0 | (fail_if_no_progress beta_reduce) | (fail_if_no_progress dsimp only) | split | apply And.intro)

theorem Kept.levelsSettle {o : State} (s : State) (h0 : Kept o s) : Kept o (State.levelsSettle s) := by
  unfold Sys2Proof.Machine.State.levelsSettle
  dsimp -failIfUnchanged only
  with_reducible repeat' (first | assumption | (intro _) | apply Kept.ite | apply Kept.ite2 | apply Kept.foldl | apply Kept.foldl2 | apply Kept.levelSettle | apply h0 | (fail_if_no_progress beta_reduce) | (fail_if_no_progress dsimp only) | split | apply And.intro)

theorem Kept.clearPend {o : State} (n : Nat) (s : State) (h0 : Kept o s) : Kept o (State.clearPend n s) := by
  unfold Sys2Proof.Machine.State.clearPend
  dsimp -failIfUnchanged only
  with_reducible repeat' (first | assumption | (intro _) | apply Kept.ite | apply Kept.ite2 | apply Kept.foldl | apply Kept.foldl2 | apply Kept.claimed | apply Kept.modSrc | apply Kept.groupSettle | apply h0 | (fail_if_no_progress beta_reduce) | (fail_if_no_progress dsimp only) | split | apply And.intro)

theorem Kept.evcSleep {o : State} (s : State) (h0 : Kept o s) : Kept o (State.evcSleep s) := by
  unfold Sys2Proof.Machine.State.evcSleep
  dsimp -failIfUnchanged only
  with_reducible repeat' (first | assumption | (intro _) | apply Kept.ite | apply Kept.ite2 | apply Kept.foldl | apply Kept.foldl2 | apply h0 | simp only [Kept.mk_iff] | apply Kept.of | apply Kept.with_evc | apply Kept.evc | apply Evc.shaped_srcs | apply Evc.shaped_groups | apply Evc.shaped_targets | apply Evc.shaped_ext | apply Evc.initial_shaped | (simp only [Evc.shaped_mk, setAt_length, modAt_length, unsettleIf_length, cmpSet_length, nibIdle_length, upTo_length, List.length_map, List.length_mapIdx, List.length_replicate]) | (fail_if_no_progress beta_reduce) | (fail_if_no_progress dsimp only) | split | apply And.intro)

/-! Journal -/

theorem Kept.jWatch {o : State} (s : State) (h0 : Kept o s) : Kept o (State.jWatch s) := by
  unfold Sys2Proof.Machine.State.jWatch
  dsimp -failIfUnchanged only
  with_reducible repeat' (first | assumption | (intro _) | apply Kept.ite | apply Kept.ite2 | apply Kept.foldl | apply Kept.foldl2 | apply Kept.alarm | apply h0 | simp only [Kept.mk_iff] | apply Kept.of | apply Kept.with_sec | apply Kept.sec | apply Sec.shaped_resp | apply Sec.shaped_key | (simp only [Sec.shaped_mk, setAt_length, modAt_length, unsettleIf_length, cmpSet_length, nibIdle_length, upTo_length, List.length_map, List.length_mapIdx, List.length_replicate]) | (fail_if_no_progress beta_reduce) | (fail_if_no_progress dsimp only) | split | apply And.intro)

theorem Kept.journal {o : State} (a : Act) (s : State) (h0 : Kept o s) : Kept o (State.journal a s) := by
  unfold Sys2Proof.Machine.State.journal
  dsimp -failIfUnchanged only
  with_reducible repeat' (first | assumption | (intro _) | apply Kept.ite | apply Kept.ite2 | apply Kept.foldl | apply Kept.foldl2 | apply Kept.jWatch | apply Kept.count | apply h0 | simp only [Kept.mk_iff] | apply Kept.of | apply Kept.with_sec | apply Kept.sec | apply Sec.shaped_resp | apply Sec.shaped_key | (simp only [Sec.shaped_mk, setAt_length, modAt_length, unsettleIf_length, cmpSet_length, nibIdle_length, upTo_length, List.length_map, List.length_mapIdx, List.length_replicate]) | (fail_if_no_progress beta_reduce) | (fail_if_no_progress dsimp only) | split | apply And.intro)

/-! Grd -/

theorem Kept.setLast {o : State} (g cond entry act : Nat) (cmd : Bool) (s : State) (h0 :
    Kept o s) : Kept o (State.setLast g cond entry act cmd s) := by
  unfold Sys2Proof.Machine.State.setLast
  dsimp -failIfUnchanged only
  with_reducible repeat' (first | assumption | (intro _) | apply Kept.ite | apply Kept.ite2 | apply Kept.foldl | apply Kept.foldl2 | apply Kept.putWord | apply h0 | (fail_if_no_progress beta_reduce) | (fail_if_no_progress dsimp only) | split | apply And.intro)

theorem Kept.grdStep {o : State} (g : Nat) (st : GState) (s : State) (h0 : Kept o s) : Kept o (State.grdStep g st s) := by
  unfold Sys2Proof.Machine.State.grdStep
  dsimp -failIfUnchanged only
  with_reducible repeat' (first | assumption | (intro _) | apply Kept.ite | apply Kept.ite2 | apply Kept.foldl | apply Kept.foldl2 | apply Kept.modGrd | apply Kept.trace | apply h0 | apply Grd.shaped_held8 | (simp only [Grd.shaped_mk, setAt_length, modAt_length, unsettleIf_length, cmpSet_length, nibIdle_length, upTo_length, List.length_map, List.length_mapIdx, List.length_replicate]) | (fail_if_no_progress beta_reduce) | (fail_if_no_progress dsimp only) | split | apply And.intro)

theorem Kept.grdReport {o : State} (g : Nat) (s : State) (h0 : Kept o s) : Kept o (State.grdReport g s) := by
  unfold Sys2Proof.Machine.State.grdReport
  dsimp -failIfUnchanged only
  with_reducible repeat' (first | assumption | (intro _) | apply Kept.ite | apply Kept.ite2 | apply Kept.foldl | apply Kept.foldl2 | apply Kept.count | apply Kept.alarm | apply Kept.raise | apply h0 | (fail_if_no_progress beta_reduce) | (fail_if_no_progress dsimp only) | split | apply And.intro)

theorem Kept.rampStart {o : State} (g : Nat) (s : State) (h0 : Kept o s) : Kept o (State.rampStart g s) := by
  unfold Sys2Proof.Machine.State.rampStart
  dsimp -failIfUnchanged only
  with_reducible repeat' (first | assumption | (intro _) | apply Kept.ite | apply Kept.ite2 | apply Kept.foldl | apply Kept.foldl2 | apply Kept.clrLatch | apply Kept.modGrd | apply Kept.grdStep | apply h0 | apply Grd.shaped_held8 | (simp only [Grd.shaped_mk, setAt_length, modAt_length, unsettleIf_length, cmpSet_length, nibIdle_length, upTo_length, List.length_map, List.length_mapIdx, List.length_replicate]) | (fail_if_no_progress beta_reduce) | (fail_if_no_progress dsimp only) | split | apply And.intro)

theorem Kept.rampOrPend {o : State} (g : Nat) (s : State) (h0 : Kept o s) : Kept o (State.rampOrPend g s) := by
  unfold Sys2Proof.Machine.State.rampOrPend
  dsimp -failIfUnchanged only
  with_reducible repeat' (first | assumption | (intro _) | apply Kept.ite | apply Kept.ite2 | apply Kept.foldl | apply Kept.foldl2 | apply Kept.rampStart | apply Kept.grdStep | apply h0 | (fail_if_no_progress beta_reduce) | (fail_if_no_progress dsimp only) | split | apply And.intro)

theorem Kept.clearTrip {o : State} (g : Nat) (s : State) (h0 : Kept o s) : Kept o (State.clearTrip g s) := by
  unfold Sys2Proof.Machine.State.clearTrip
  dsimp -failIfUnchanged only
  with_reducible repeat' (first | assumption | (intro _) | apply Kept.ite | apply Kept.ite2 | apply Kept.foldl | apply Kept.foldl2 | apply Kept.modGrd | apply h0 | apply Grd.shaped_held8 | (simp only [Grd.shaped_mk, setAt_length, modAt_length, unsettleIf_length, cmpSet_length, nibIdle_length, upTo_length, List.length_map, List.length_mapIdx, List.length_replicate]) | (fail_if_no_progress beta_reduce) | (fail_if_no_progress dsimp only) | split | apply And.intro)

theorem Kept.grdThreads {o : State} (g : Nat) (s : State) (h0 : Kept o s) : Kept o (State.grdThreads g s) := by
  unfold Sys2Proof.Machine.State.grdThreads
  dsimp -failIfUnchanged only
  with_reducible repeat' (first | assumption | (intro _) | apply Kept.ite | apply Kept.ite2 | apply Kept.foldl | apply Kept.foldl2 | apply Kept.killBanks | apply Kept.settleBank | apply h0 | (fail_if_no_progress beta_reduce) | (fail_if_no_progress dsimp only) | split | apply And.intro)

theorem Kept.grdOffTo {o : State} (g : Nat) (st : GState) (s : State) (h0 : Kept o s) : Kept o (State.grdOffTo g st s) := by
  unfold Sys2Proof.Machine.State.grdOffTo
  dsimp -failIfUnchanged only
  with_reducible repeat' (first | assumption | (intro _) | apply Kept.ite | apply Kept.ite2 | apply Kept.foldl | apply Kept.foldl2 | apply Kept.modGrd | apply Kept.grdStep | apply h0 | apply Grd.shaped_held8 | (simp only [Grd.shaped_mk, setAt_length, modAt_length, unsettleIf_length, cmpSet_length, nibIdle_length, upTo_length, List.length_map, List.length_mapIdx, List.length_replicate]) | (fail_if_no_progress beta_reduce) | (fail_if_no_progress dsimp only) | split | apply And.intro)

theorem Kept.retry {o : State} (g : Nat) (s : State) (h0 : Kept o s) : Kept o (State.retry g s) := by
  unfold Sys2Proof.Machine.State.retry
  dsimp -failIfUnchanged only
  with_reducible repeat' (first | assumption | (intro _) | apply Kept.ite | apply Kept.ite2 | apply Kept.foldl | apply Kept.foldl2 | apply Kept.modGrd | apply Kept.grdOffTo | apply h0 | apply Grd.shaped_held8 | (simp only [Grd.shaped_mk, setAt_length, modAt_length, unsettleIf_length, cmpSet_length, nibIdle_length, upTo_length, List.length_map, List.length_mapIdx, List.length_replicate]) | (fail_if_no_progress beta_reduce) | (fail_if_no_progress dsimp only) | split | apply And.intro)

theorem Kept.ruleAct {o : State} (g cond e act : Nat) (s : State) (h0 : Kept o s) : Kept o (State.ruleAct g cond e act s) := by
  unfold Sys2Proof.Machine.State.ruleAct
  dsimp -failIfUnchanged only
  with_reducible repeat' (first | assumption | (intro _) | apply Kept.ite | apply Kept.ite2 | apply Kept.foldl | apply Kept.foldl2 | apply Kept.inCycle | apply Kept.modGrd | apply Kept.setLast | apply Kept.grdOffTo | apply Kept.grdStep | apply Kept.retry | apply Kept.grdThreads | apply Kept.grdReport | apply h0 | apply Grd.shaped_held8 | (simp only [Grd.shaped_mk, setAt_length, modAt_length, unsettleIf_length, cmpSet_length, nibIdle_length, upTo_length, List.length_map, List.length_mapIdx, List.length_replicate]) | (fail_if_no_progress beta_reduce) | (fail_if_no_progress dsimp only) | split | apply And.intro)

theorem Kept.limitEnds {o : State} (g : Nat) (p q : Nat → Bool) (s : State) (h0 : Kept o s) : Kept o (State.limitEnds g p q s) := by
  unfold Sys2Proof.Machine.State.limitEnds
  dsimp -failIfUnchanged only
  with_reducible repeat' (first | assumption | (intro _) | apply Kept.ite | apply Kept.ite2 | apply Kept.foldl | apply Kept.foldl2 | apply Kept.modGrd | apply Kept.grdStep | apply h0 | apply Grd.shaped_held8 | (simp only [Grd.shaped_mk, setAt_length, modAt_length, unsettleIf_length, cmpSet_length, nibIdle_length, upTo_length, List.length_map, List.length_mapIdx, List.length_replicate]) | (fail_if_no_progress beta_reduce) | (fail_if_no_progress dsimp only) | split | apply And.intro)

theorem Kept.actStrongest {o : State} (g : Nat) (es : List Nat) (s : State) (h0 : Kept o s) : Kept o (State.actStrongest g es s) := by
  unfold Sys2Proof.Machine.State.actStrongest
  dsimp -failIfUnchanged only
  with_reducible repeat' (first | assumption | (intro _) | apply Kept.ite | apply Kept.ite2 | apply Kept.foldl | apply Kept.foldl2 | apply Kept.modGrd | apply Kept.ruleAct | apply h0 | apply Grd.shaped_held8 | (simp only [Grd.shaped_mk, setAt_length, modAt_length, unsettleIf_length, cmpSet_length, nibIdle_length, upTo_length, List.length_map, List.length_mapIdx, List.length_replicate]) | (fail_if_no_progress beta_reduce) | (fail_if_no_progress dsimp only) | split | apply And.intro)

theorem Kept.evaluate {o : State} (g n : Nat) (p q : Nat → Bool) (s : State) (h0 : Kept o s) : Kept o (State.evaluate g n p q s) := by
  unfold Sys2Proof.Machine.State.evaluate
  dsimp -failIfUnchanged only
  with_reducible repeat' (first | assumption | (intro _) | apply Kept.ite | apply Kept.ite2 | apply Kept.foldl | apply Kept.foldl2 | apply Kept.modGrd | apply Kept.limitEnds | apply Kept.actStrongest | apply h0 | apply Grd.shaped_held8 | (simp only [Grd.shaped_mk, setAt_length, modAt_length, unsettleIf_length, cmpSet_length, nibIdle_length, upTo_length, List.length_map, List.length_mapIdx, List.length_replicate]) | (fail_if_no_progress beta_reduce) | (fail_if_no_progress dsimp only) | split | apply And.intro)

theorem Kept.eventRule {o : State} (g cond n : Nat) (s : State) (h0 : Kept o s) : Kept o (State.eventRule g cond n s) := by
  unfold Sys2Proof.Machine.State.eventRule
  dsimp -failIfUnchanged only
  with_reducible repeat' (first | assumption | (intro _) | apply Kept.ite | apply Kept.ite2 | apply Kept.foldl | apply Kept.foldl2 | apply Kept.actStrongest | apply h0 | (fail_if_no_progress beta_reduce) | (fail_if_no_progress dsimp only) | split | apply And.intro)

theorem Kept.meterEnergy {o : State} (g : Nat) (code : Int) (num den : Nat) (s : State) (h0 :
    Kept o s) : Kept o (State.meterEnergy g code num den s) := by
  unfold Sys2Proof.Machine.State.meterEnergy
  dsimp -failIfUnchanged only
  with_reducible repeat' (first | assumption | (intro _) | apply Kept.ite | apply Kept.ite2 | apply Kept.foldl | apply Kept.foldl2 | apply Kept.modGrd | apply Kept.setBoost | apply h0 | simp only [Kept.mk_iff] | apply Kept.of | apply Kept.with_ink | apply Kept.ink | apply Ink.shaped_rails | apply Grd.shaped_held8 | (simp only [Grd.shaped_mk, Ink.shaped_mk, setAt_length, modAt_length, unsettleIf_length, cmpSet_length, nibIdle_length, upTo_length, List.length_map, List.length_mapIdx, List.length_replicate]) | (fail_if_no_progress beta_reduce) | (fail_if_no_progress dsimp only) | split | apply And.intro)

theorem Kept.watchGood {o : State} (g : Nat) (s : State) (h0 : Kept o s) : Kept o (State.watchGood g s) := by
  unfold Sys2Proof.Machine.State.watchGood
  dsimp -failIfUnchanged only
  with_reducible repeat' (first | assumption | (intro _) | apply Kept.ite | apply Kept.ite2 | apply Kept.foldl | apply Kept.foldl2 | apply Kept.modGrd | apply h0 | apply Grd.shaped_held8 | (simp only [Grd.shaped_mk, setAt_length, modAt_length, unsettleIf_length, cmpSet_length, nibIdle_length, upTo_length, List.length_map, List.length_mapIdx, List.length_replicate]) | (fail_if_no_progress beta_reduce) | (fail_if_no_progress dsimp only) | split | apply And.intro)

theorem Kept.afterSample {o : State} (g : Nat) (s : State) (h0 : Kept o s) : Kept o (State.afterSample g s) := by
  unfold Sys2Proof.Machine.State.afterSample
  dsimp -failIfUnchanged only
  with_reducible repeat' (first | assumption | (intro _) | apply Kept.ite | apply Kept.ite2 | apply Kept.foldl | apply Kept.foldl2 | apply Kept.modGrd | apply Kept.grdStep | apply Kept.evaluate | apply Kept.watchGood | apply h0 | apply Grd.shaped_held8 | (simp only [Grd.shaped_mk, setAt_length, modAt_length, unsettleIf_length, cmpSet_length, nibIdle_length, upTo_length, List.length_map, List.length_mapIdx, List.length_replicate]) | (fail_if_no_progress beta_reduce) | (fail_if_no_progress dsimp only) | split | apply And.intro)

theorem Kept.meterSample {o : State} (g : Nat) (code : Int) (volt : Nat) (s : State) (h0 : Kept o s) : Kept o (State.meterSample g code volt s) := by
  unfold Sys2Proof.Machine.State.meterSample
  dsimp -failIfUnchanged only
  with_reducible repeat' (first | assumption | (intro _) | apply Kept.ite | apply Kept.ite2 | apply Kept.foldl | apply Kept.foldl2 | apply Kept.modGrd | apply Kept.meterEnergy | apply Kept.afterSample | apply h0 | apply Grd.shaped_held8 | (simp only [Grd.shaped_mk, setAt_length, modAt_length, unsettleIf_length, cmpSet_length, nibIdle_length, upTo_length, List.length_map, List.length_mapIdx, List.length_replicate]) | (fail_if_no_progress beta_reduce) | (fail_if_no_progress dsimp only) | split | apply And.intro)

theorem Kept.vigilSample {o : State} (g : Nat) (code : Int) (vout vin : Nat) (s : State) (h0 :
    Kept o s) : Kept o (State.vigilSample g code vout vin s) := by
  unfold Sys2Proof.Machine.State.vigilSample
  dsimp -failIfUnchanged only
  with_reducible repeat' (first | assumption | (intro _) | apply Kept.ite | apply Kept.ite2 | apply Kept.foldl | apply Kept.foldl2 | apply Kept.modGrd | apply Kept.meterEnergy | apply Kept.afterSample | apply h0 | apply Grd.shaped_held8 | (simp only [Grd.shaped_mk, setAt_length, modAt_length, unsettleIf_length, cmpSet_length, nibIdle_length, upTo_length, List.length_map, List.length_mapIdx, List.length_replicate]) | (fail_if_no_progress beta_reduce) | (fail_if_no_progress dsimp only) | split | apply And.intro)

theorem Kept.fastTrip {o : State} (g : Nat) (s : State) (h0 : Kept o s) : Kept o (State.fastTrip g s) := by
  unfold Sys2Proof.Machine.State.fastTrip
  dsimp -failIfUnchanged only
  with_reducible repeat' (first | assumption | (intro _) | apply Kept.ite | apply Kept.ite2 | apply Kept.foldl | apply Kept.foldl2 | apply Kept.modGrd | apply Kept.ruleAct | apply Kept.eventRule | apply h0 | apply Grd.shaped_held8 | (simp only [Grd.shaped_mk, setAt_length, modAt_length, unsettleIf_length, cmpSet_length, nibIdle_length, upTo_length, List.length_map, List.length_mapIdx, List.length_replicate]) | (fail_if_no_progress beta_reduce) | (fail_if_no_progress dsimp only) | split | apply And.intro)

theorem Kept.retryRamp {o : State} (g : Nat) (s : State) (h0 : Kept o s) : Kept o (State.retryRamp g s) := by
  unfold Sys2Proof.Machine.State.retryRamp
  dsimp -failIfUnchanged only
  with_reducible repeat' (first | assumption | (intro _) | apply Kept.ite | apply Kept.ite2 | apply Kept.foldl | apply Kept.foldl2 | apply Kept.clearTrip | apply Kept.rampStart | apply h0 | (fail_if_no_progress beta_reduce) | (fail_if_no_progress dsimp only) | split | apply And.intro)

theorem Kept.grdOnFromOff {o : State} (g : Nat) (s : State) (h0 : Kept o s) : Kept o (State.grdOnFromOff g s) := by
  unfold Sys2Proof.Machine.State.grdOnFromOff
  dsimp -failIfUnchanged only
  with_reducible repeat' (first | assumption | (intro _) | apply Kept.ite | apply Kept.ite2 | apply Kept.foldl | apply Kept.foldl2 | apply Kept.clearTrip | apply Kept.grdStep | apply Kept.rampOrPend | apply h0 | (fail_if_no_progress beta_reduce) | (fail_if_no_progress dsimp only) | split | apply And.intro)

theorem Kept.grdClearAct {o : State} (g role port : Nat) (s : State) (h0 : Kept o s) : Kept o (State.grdClearAct g role port s) := by
  unfold Sys2Proof.Machine.State.grdClearAct
  dsimp -failIfUnchanged only
  with_reducible repeat' (first | assumption | (intro _) | apply Kept.ite | apply Kept.ite2 | apply Kept.foldl | apply Kept.foldl2 | apply Kept.setLast | apply Kept.clearTrip | apply Kept.modGrd | apply Kept.grdOffTo | apply Kept.journal | apply h0 | apply Grd.shaped_held8 | (simp only [Grd.shaped_mk, setAt_length, modAt_length, unsettleIf_length, cmpSet_length, nibIdle_length, upTo_length, List.length_map, List.length_mapIdx, List.length_replicate]) | (fail_if_no_progress beta_reduce) | (fail_if_no_progress dsimp only) | split | apply And.intro)

theorem Kept.noteGrd {o : State} (g : Nat) (s : State) (h0 : Kept o s) : Kept o (State.noteGrd g s) := by
  unfold Sys2Proof.Machine.State.noteGrd
  dsimp -failIfUnchanged only
  with_reducible repeat' (first | assumption | (intro _) | apply Kept.ite | apply Kept.ite2 | apply Kept.foldl | apply Kept.foldl2 | apply Kept.inCycle | apply h0 | (fail_if_no_progress beta_reduce) | (fail_if_no_progress dsimp only) | split | apply And.intro)

theorem Kept.grdOnAct {o : State} (g role port : Nat) (s : State) (h0 : Kept o s) : Kept o (State.grdOnAct g role port s) := by
  unfold Sys2Proof.Machine.State.grdOnAct
  dsimp -failIfUnchanged only
  with_reducible repeat' (first | assumption | (intro _) | apply Kept.ite | apply Kept.ite2 | apply Kept.foldl | apply Kept.foldl2 | apply Kept.noteGrd | apply Kept.setLast | apply Kept.grdOnFromOff | apply Kept.clearTrip | apply Kept.rampOrPend | apply Kept.grdClearAct | apply h0 | (fail_if_no_progress beta_reduce) | (fail_if_no_progress dsimp only) | split | apply And.intro)

theorem Kept.grdOffAct {o : State} (g : Nat) (s : State) (h0 : Kept o s) : Kept o (State.grdOffAct g s) := by
  unfold Sys2Proof.Machine.State.grdOffAct
  dsimp -failIfUnchanged only
  with_reducible repeat' (first | assumption | (intro _) | apply Kept.ite | apply Kept.ite2 | apply Kept.foldl | apply Kept.foldl2 | apply Kept.noteGrd | apply Kept.setLast | apply Kept.modGrd | apply Kept.grdOffTo | apply h0 | apply Grd.shaped_held8 | (simp only [Grd.shaped_mk, setAt_length, modAt_length, unsettleIf_length, cmpSet_length, nibIdle_length, upTo_length, List.length_map, List.length_mapIdx, List.length_replicate]) | (fail_if_no_progress beta_reduce) | (fail_if_no_progress dsimp only) | split | apply And.intro)

theorem Kept.grdCtrlWrite {o : State} (p : Port) (g : Nat) (v : Word) (s : State) (h0 : Kept o s) : Kept o (State.grdCtrlWrite p g v s) := by
  unfold Sys2Proof.Machine.State.grdCtrlWrite
  dsimp -failIfUnchanged only
  with_reducible repeat' (first | assumption | (intro _) | apply Kept.ite | apply Kept.ite2 | apply Kept.foldl | apply Kept.foldl2 | apply Kept.busWrite | apply Kept.grdOnAct | apply Kept.grdOffAct | apply Kept.grdClearAct | apply Kept.deny | apply h0 | (fail_if_no_progress beta_reduce) | (fail_if_no_progress dsimp only) | split | apply And.intro)

theorem Kept.grdLimitAct {o : State} (g ft ilim : Nat) (s : State) (h0 : Kept o s) : Kept o ((State.grdLimitAct g ft ilim s).2) := by
  unfold Sys2Proof.Machine.State.grdLimitAct
  dsimp -failIfUnchanged only
  with_reducible repeat' (first | assumption | (intro _) | apply Kept.ite | apply Kept.ite2 | apply Kept.foldl | apply Kept.foldl2 | apply Kept.modGrd | apply Kept.journal | apply h0 | apply Grd.shaped_held8 | (simp only [Grd.shaped_mk, setAt_length, modAt_length, unsettleIf_length, cmpSet_length, nibIdle_length, upTo_length, List.length_map, List.length_mapIdx, List.length_replicate]) | (fail_if_no_progress beta_reduce) | (fail_if_no_progress dsimp only) | split | apply And.intro)

theorem Kept.grdLive {o : State} (s : State) (h0 : Kept o s) : Kept o (State.grdLive s) := by
  unfold Sys2Proof.Machine.State.grdLive
  dsimp -failIfUnchanged only
  with_reducible repeat' (first | assumption | (intro _) | apply Kept.ite | apply Kept.ite2 | apply Kept.foldl | apply Kept.foldl2 | apply h0 | simp only [Kept.mk_iff] | apply Kept.of | apply Kept.with_grds | apply Kept.grds | apply GrdsOk.modAt | apply GrdsOk.map | apply GrdsOk.mapIdx | apply Grd.shaped_held8 | (simp only [Grd.shaped_mk, setAt_length, modAt_length, unsettleIf_length, cmpSet_length, nibIdle_length, upTo_length, List.length_map, List.length_mapIdx, List.length_replicate]) | (fail_if_no_progress beta_reduce) | (fail_if_no_progress dsimp only) | split | apply And.intro)

theorem Kept.energyRead {o : State} (p : Port) (g : Nat) (s : State) (h0 : Kept o s) : Kept o (State.energyRead p g s) := by
  unfold Sys2Proof.Machine.State.energyRead
  dsimp -failIfUnchanged only
  with_reducible repeat' (first | assumption | (intro _) | apply Kept.ite | apply Kept.ite2 | apply Kept.foldl | apply Kept.foldl2 | apply Kept.onRead | apply Kept.modGrd | apply Kept.answer | apply h0 | apply Grd.shaped_held8 | (simp only [Grd.shaped_mk, setAt_length, modAt_length, unsettleIf_length, cmpSet_length, nibIdle_length, upTo_length, List.length_map, List.length_mapIdx, List.length_replicate]) | (fail_if_no_progress beta_reduce) | (fail_if_no_progress dsimp only) | split | apply And.intro)

theorem Kept.grdEnter {o : State} (s : State) (h0 : Kept o s) : Kept o (State.grdEnter s) := by
  unfold Sys2Proof.Machine.State.grdEnter
  dsimp -failIfUnchanged only
  with_reducible repeat' (first | assumption | (intro _) | apply Kept.ite | apply Kept.ite2 | apply Kept.foldl | apply Kept.foldl2 | apply Kept.rampStart | apply Kept.retryRamp | apply h0 | (fail_if_no_progress beta_reduce) | (fail_if_no_progress dsimp only) | split | apply And.intro)

theorem Kept.grdSleep {o : State} (s : State) (h0 : Kept o s) : Kept o (State.grdSleep s) := by
  unfold Sys2Proof.Machine.State.grdSleep
  dsimp -failIfUnchanged only
  with_reducible repeat' (first | assumption | (intro _) | apply Kept.ite | apply Kept.ite2 | apply Kept.foldl | apply Kept.foldl2 | apply Kept.modGrd | apply Kept.grdOffTo | apply h0 | apply Grd.shaped_held8 | (simp only [Grd.shaped_mk, setAt_length, modAt_length, unsettleIf_length, cmpSet_length, nibIdle_length, upTo_length, List.length_map, List.length_mapIdx, List.length_replicate]) | (fail_if_no_progress beta_reduce) | (fail_if_no_progress dsimp only) | split | apply And.intro)

theorem Kept.grdWake {o : State} (s : State) (h0 : Kept o s) : Kept o (State.grdWake s) := by
  unfold Sys2Proof.Machine.State.grdWake
  dsimp -failIfUnchanged only
  with_reducible repeat' (first | assumption | (intro _) | apply Kept.ite | apply Kept.ite2 | apply Kept.foldl | apply Kept.foldl2 | apply h0 | simp only [Kept.mk_iff] | apply Kept.of | apply Kept.with_grds | apply Kept.grds | apply GrdsOk.modAt | apply GrdsOk.map | apply GrdsOk.mapIdx | apply Grd.shaped_held8 | (simp only [Grd.shaped_mk, setAt_length, modAt_length, unsettleIf_length, cmpSet_length, nibIdle_length, upTo_length, List.length_map, List.length_mapIdx, List.length_replicate]) | (fail_if_no_progress beta_reduce) | (fail_if_no_progress dsimp only) | split | apply And.intro)

theorem Kept.grdEnables {o : State} (s : State) (h0 : Kept o s) : Kept o (State.grdEnables s) := by
  unfold Sys2Proof.Machine.State.grdEnables
  dsimp -failIfUnchanged only
  with_reducible repeat' (first | assumption | (intro _) | apply Kept.ite | apply Kept.ite2 | apply Kept.foldl | apply Kept.foldl2 | apply Kept.grdOffTo | apply h0 | (fail_if_no_progress beta_reduce) | (fail_if_no_progress dsimp only) | split | apply And.intro)

/-! SecOps -/

theorem Kept.dropSession {o : State} (s : State) (h0 : Kept o s) : Kept o (State.dropSession s) := by
  unfold Sys2Proof.Machine.State.dropSession
  dsimp -failIfUnchanged only
  with_reducible repeat' (first | assumption | (intro _) | apply Kept.ite | apply Kept.ite2 | apply Kept.foldl | apply Kept.foldl2 | apply h0 | simp only [Kept.mk_iff] | apply Kept.of | apply Kept.with_sec | apply Kept.sec | apply Sec.shaped_resp | apply Sec.shaped_key | (simp only [Sec.shaped_mk, setAt_length, modAt_length, unsettleIf_length, cmpSet_length, nibIdle_length, upTo_length, List.length_map, List.length_mapIdx, List.length_replicate]) | (fail_if_no_progress beta_reduce) | (fail_if_no_progress dsimp only) | split | apply And.intro)

theorem Kept.endSession {o : State} (data : Nat) (s : State) (h0 : Kept o s) : Kept o (State.endSession data s) := by
  unfold Sys2Proof.Machine.State.endSession
  dsimp -failIfUnchanged only
  with_reducible repeat' (first | assumption | (intro _) | apply Kept.ite | apply Kept.ite2 | apply Kept.foldl | apply Kept.foldl2 | apply Kept.dropSession | apply Kept.journal | apply h0 | (fail_if_no_progress beta_reduce) | (fail_if_no_progress dsimp only) | split | apply And.intro)

theorem Kept.endPcieSession {o : State} (s : State) (h0 : Kept o s) : Kept o (State.endPcieSession s) := by
  unfold Sys2Proof.Machine.State.endPcieSession
  dsimp -failIfUnchanged only
  with_reducible repeat' (first | assumption | (intro _) | apply Kept.ite | apply Kept.ite2 | apply Kept.foldl | apply Kept.foldl2 | apply Kept.endSession | apply h0 | (fail_if_no_progress beta_reduce) | (fail_if_no_progress dsimp only) | split | apply And.intro)

theorem Kept.beginBusy {o : State} (op : Nat) (p : Port) (s : State) (h0 : Kept o s) : Kept o (State.beginBusy op p s) := by
  unfold Sys2Proof.Machine.State.beginBusy
  dsimp -failIfUnchanged only
  with_reducible repeat' (first | assumption | (intro _) | apply Kept.ite | apply Kept.ite2 | apply Kept.foldl | apply Kept.foldl2 | apply h0 | simp only [Kept.mk_iff] | apply Kept.of | (fail_if_no_progress beta_reduce) | (fail_if_no_progress dsimp only) | split | apply And.intro)

theorem Kept.endBusy {o : State} (s : State) (h0 : Kept o s) : Kept o (State.endBusy s) := by
  unfold Sys2Proof.Machine.State.endBusy
  dsimp -failIfUnchanged only
  with_reducible repeat' (first | assumption | (intro _) | apply Kept.ite | apply Kept.ite2 | apply Kept.foldl | apply Kept.foldl2 | apply h0 | simp only [Kept.mk_iff] | apply Kept.of | (fail_if_no_progress beta_reduce) | (fail_if_no_progress dsimp only) | split | apply And.intro)

/-! Rings -/

theorem Kept.heard {o : State} (s : State) (h0 : Kept o s) : Kept o (State.heard s) := by
  unfold Sys2Proof.Machine.State.heard
  dsimp -failIfUnchanged only
  with_reducible repeat' (first | assumption | (intro _) | apply Kept.ite | apply Kept.ite2 | apply Kept.foldl | apply Kept.foldl2 | apply h0 | simp only [Kept.mk_iff] | apply Kept.of | apply Kept.with_hif | apply Kept.hif | apply Hif.shaped_rings | apply Hif.shaped_vecPend | apply Hif.shaped_cqFull | (simp only [Hif.shaped_mk, setAt_length, modAt_length, unsettleIf_length, cmpSet_length, nibIdle_length, upTo_length, List.length_map, List.length_mapIdx, List.length_replicate]) | (fail_if_no_progress beta_reduce) | (fail_if_no_progress dsimp only) | split | apply And.intro)

theorem Kept.stopRing {o : State} (r errc : Nat) (s : State) (h0 : Kept o s) : Kept o (State.stopRing r errc s) := by
  unfold Sys2Proof.Machine.State.stopRing
  dsimp -failIfUnchanged only
  with_reducible repeat' (first | assumption | (intro _) | apply Kept.ite | apply Kept.ite2 | apply Kept.foldl | apply Kept.foldl2 | apply Kept.modRing | apply h0 | (fail_if_no_progress beta_reduce) | (fail_if_no_progress dsimp only) | split | apply And.intro)

theorem Kept.watchCq {o : State} (n : Nat) (s : State) (h0 : Kept o s) : Kept o (State.watchCq n s) := by
  unfold Sys2Proof.Machine.State.watchCq
  dsimp -failIfUnchanged only
  with_reducible repeat' (first | assumption | (intro _) | apply Kept.ite | apply Kept.ite2 | apply Kept.foldl | apply Kept.foldl2 | apply Kept.alarm | apply h0 | simp only [Kept.mk_iff] | apply Kept.of | apply Kept.with_hif | apply Kept.hif | apply Hif.shaped_rings | apply Hif.shaped_vecPend | apply Hif.shaped_cqFull | (simp only [Hif.shaped_mk, setAt_length, modAt_length, unsettleIf_length, cmpSet_length, nibIdle_length, upTo_length, List.length_map, List.length_mapIdx, List.length_replicate]) | (fail_if_no_progress beta_reduce) | (fail_if_no_progress dsimp only) | split | apply And.intro)

theorem Kept.watchCqs {o : State} (s : State) (h0 : Kept o s) : Kept o (State.watchCqs s) := by
  unfold Sys2Proof.Machine.State.watchCqs
  dsimp -failIfUnchanged only
  with_reducible repeat' (first | assumption | (intro _) | apply Kept.ite | apply Kept.ite2 | apply Kept.foldl | apply Kept.foldl2 | apply Kept.watchCq | apply h0 | (fail_if_no_progress beta_reduce) | (fail_if_no_progress dsimp only) | split | apply And.intro)

theorem Kept.takeIndex {o : State} (r v : Nat) (s : State) (h0 : Kept o s) : Kept o (State.takeIndex r v s) := by
  unfold Sys2Proof.Machine.State.takeIndex
  dsimp -failIfUnchanged only
  with_reducible repeat' (first | assumption | (intro _) | apply Kept.ite | apply Kept.ite2 | apply Kept.foldl | apply Kept.foldl2 | apply Kept.modRing | apply Kept.stopRing | apply Kept.alarm | apply h0 | (fail_if_no_progress beta_reduce) | (fail_if_no_progress dsimp only) | split | apply And.intro)

theorem Kept.takeLine {o : State} (line : DoorbellLine) (s : State) (h0 : Kept o s) : Kept o (State.takeLine line s) := by
  unfold Sys2Proof.Machine.State.takeLine
  dsimp -failIfUnchanged only
  with_reducible repeat' (first | assumption | (intro _) | apply Kept.ite | apply Kept.ite2 | apply Kept.foldl | apply Kept.foldl2 | apply Kept.heard | apply Kept.takeIndex | apply Kept.watchCqs | apply h0 | simp only [Kept.mk_iff] | apply Kept.of | apply Kept.with_hif | apply Kept.hif | apply Hif.shaped_rings | apply Hif.shaped_vecPend | apply Hif.shaped_cqFull | (simp only [Hif.shaped_mk, setAt_length, modAt_length, unsettleIf_length, cmpSet_length, nibIdle_length, upTo_length, List.length_map, List.length_mapIdx, List.length_replicate]) | (fail_if_no_progress beta_reduce) | (fail_if_no_progress dsimp only) | split | apply And.intro)

theorem Kept.ringSource {o : State} (old : StatusView) (r n : Nat) (s : State) (h0 : Kept o s) : Kept o (State.ringSource old r n s) := by
  unfold Sys2Proof.Machine.State.ringSource
  dsimp -failIfUnchanged only
  with_reducible repeat' (first | assumption | (intro _) | apply Kept.ite | apply Kept.ite2 | apply Kept.foldl | apply Kept.foldl2 | apply Kept.raise | apply h0 | (fail_if_no_progress beta_reduce) | (fail_if_no_progress dsimp only) | split | apply And.intro)

theorem Kept.writeStatus {o : State} (mode : Nat) (s : State) (h0 : Kept o s) : Kept o (State.writeStatus mode s) := by
  unfold Sys2Proof.Machine.State.writeStatus
  dsimp -failIfUnchanged only
  with_reducible repeat' (first | assumption | (intro _) | apply Kept.ite | apply Kept.ite2 | apply Kept.foldl | apply Kept.foldl2 | apply Kept.raise | apply Kept.ringSource | apply h0 | simp only [Kept.mk_iff] | apply Kept.of | apply Kept.with_hif | apply Kept.hif | apply Hif.shaped_rings | apply Hif.shaped_vecPend | apply Hif.shaped_cqFull | (simp only [Hif.shaped_mk, setAt_length, modAt_length, unsettleIf_length, cmpSet_length, nibIdle_length, upTo_length, List.length_map, List.length_mapIdx, List.length_replicate]) | (fail_if_no_progress beta_reduce) | (fail_if_no_progress dsimp only) | split | apply And.intro)

theorem Kept.putRecord {o : State} (r : Nat) (words : List Word) (body : Body) (s : State) (h0 :
    Kept o s) : Kept o (State.putRecord r words body s) := by
  unfold Sys2Proof.Machine.State.putRecord
  dsimp -failIfUnchanged only
  with_reducible repeat' (first | assumption | (intro _) | apply Kept.ite | apply Kept.ite2 | apply Kept.foldl | apply Kept.foldl2 | apply Kept.modRing | apply h0 | simp only [Kept.mk_iff] | apply Kept.of | apply Kept.with_hif | apply Kept.hif | apply Hif.shaped_rings | apply Hif.shaped_vecPend | apply Hif.shaped_cqFull | (simp only [Hif.shaped_mk, setAt_length, modAt_length, unsettleIf_length, cmpSet_length, nibIdle_length, upTo_length, List.length_map, List.length_mapIdx, List.length_replicate]) | (fail_if_no_progress beta_reduce) | (fail_if_no_progress dsimp only) | split | apply And.intro)

theorem Kept.setStaging {o : State} (r : Nat) (l : List TeleRec) (s : State) (h0 : Kept o s) : Kept o (State.setStaging r l s) := by
  unfold Sys2Proof.Machine.State.setStaging
  dsimp -failIfUnchanged only
  with_reducible repeat' (first | assumption | (intro _) | apply Kept.ite | apply Kept.ite2 | apply Kept.foldl | apply Kept.foldl2 | apply Kept.trace | apply h0 | simp only [Kept.mk_iff] | apply Kept.of | apply Kept.with_hif | apply Kept.hif | apply Hif.shaped_rings | apply Hif.shaped_vecPend | apply Hif.shaped_cqFull | (simp only [Hif.shaped_mk, setAt_length, modAt_length, unsettleIf_length, cmpSet_length, nibIdle_length, upTo_length, List.length_map, List.length_mapIdx, List.length_replicate]) | (fail_if_no_progress beta_reduce) | (fail_if_no_progress dsimp only) | split | apply And.intro)

theorem Kept.writeTele {o : State} (t : TeleRec) (s : State) (h0 : Kept o s) : Kept o (State.writeTele t s) := by
  unfold Sys2Proof.Machine.State.writeTele
  dsimp -failIfUnchanged only
  with_reducible repeat' (first | assumption | (intro _) | apply Kept.ite | apply Kept.ite2 | apply Kept.foldl | apply Kept.foldl2 | apply Kept.setStaging | apply Kept.putRecord | apply h0 | (fail_if_no_progress beta_reduce) | (fail_if_no_progress dsimp only) | split | apply And.intro)

theorem Kept.writeLower {o : State} (s : State) (h0 : Kept o s) : Kept o (State.writeLower s) := by
  unfold Sys2Proof.Machine.State.writeLower
  dsimp -failIfUnchanged only
  with_reducible repeat' (first | assumption | (intro _) | apply Kept.ite | apply Kept.ite2 | apply Kept.foldl | apply Kept.foldl2 | apply Kept.putRecord | apply Kept.watchCq | apply Kept.writeTele | apply h0 | simp only [Kept.mk_iff] | apply Kept.of | apply Kept.with_hif | apply Kept.hif | apply Hif.shaped_rings | apply Hif.shaped_vecPend | apply Hif.shaped_cqFull | (simp only [Hif.shaped_mk, setAt_length, modAt_length, unsettleIf_length, cmpSet_length, nibIdle_length, upTo_length, List.length_map, List.length_mapIdx, List.length_replicate]) | (fail_if_no_progress beta_reduce) | (fail_if_no_progress dsimp only) | split | apply And.intro)

theorem Kept.writeRecord {o : State} (s : State) (h0 : Kept o s) : Kept o (State.writeRecord s) := by
  unfold Sys2Proof.Machine.State.writeRecord
  dsimp -failIfUnchanged only
  with_reducible repeat' (first | assumption | (intro _) | apply Kept.ite | apply Kept.ite2 | apply Kept.foldl | apply Kept.foldl2 | apply Kept.putRecord | apply Kept.alarm | apply Kept.writeLower | apply h0 | simp only [Kept.mk_iff] | apply Kept.of | apply Kept.with_hif | apply Kept.hif | apply Hif.shaped_rings | apply Hif.shaped_vecPend | apply Hif.shaped_cqFull | (simp only [Hif.shaped_mk, setAt_length, modAt_length, unsettleIf_length, cmpSet_length, nibIdle_length, upTo_length, List.length_map, List.length_mapIdx, List.length_replicate]) | (fail_if_no_progress beta_reduce) | (fail_if_no_progress dsimp only) | split | apply And.intro)

theorem Kept.gapPaid {o : State} (r : Nat) (s : State) (h0 : Kept o s) : Kept o (State.gapPaid r s) := by
  unfold Sys2Proof.Machine.State.gapPaid
  dsimp -failIfUnchanged only
  with_reducible repeat' (first | assumption | (intro _) | apply Kept.ite | apply Kept.ite2 | apply Kept.foldl | apply Kept.foldl2 | apply Kept.setStaging | apply Kept.modRing | apply h0 | (fail_if_no_progress beta_reduce) | (fail_if_no_progress dsimp only) | split | apply And.intro)

theorem Kept.writeGap {o : State} (r : Nat) (s : State) (h0 : Kept o s) : Kept o (State.writeGap r s) := by
  unfold Sys2Proof.Machine.State.writeGap
  dsimp -failIfUnchanged only
  with_reducible repeat' (first | assumption | (intro _) | apply Kept.ite | apply Kept.ite2 | apply Kept.foldl | apply Kept.foldl2 | apply Kept.gapPaid | apply Kept.putRecord | apply h0 | simp only [Kept.mk_iff] | apply Kept.of | apply Kept.with_hif | apply Kept.hif | apply Hif.shaped_rings | apply Hif.shaped_vecPend | apply Hif.shaped_cqFull | (simp only [Hif.shaped_mk, setAt_length, modAt_length, unsettleIf_length, cmpSet_length, nibIdle_length, upTo_length, List.length_map, List.length_mapIdx, List.length_replicate]) | (fail_if_no_progress beta_reduce) | (fail_if_no_progress dsimp only) | split | apply And.intro)

theorem Kept.owe {o : State} (r : Nat) (g : Gap) (s : State) (h0 : Kept o s) : Kept o (State.owe r g s) := by
  unfold Sys2Proof.Machine.State.owe
  dsimp -failIfUnchanged only
  with_reducible repeat' (first | assumption | (intro _) | apply Kept.ite | apply Kept.ite2 | apply Kept.foldl | apply Kept.foldl2 | apply Kept.modRing | apply h0 | (fail_if_no_progress beta_reduce) | (fail_if_no_progress dsimp only) | split | apply And.intro)

theorem Kept.loseRec {o : State} (t : TeleRec) (s : State) (h0 : Kept o s) : Kept o (State.loseRec t s) := by
  unfold Sys2Proof.Machine.State.loseRec
  dsimp -failIfUnchanged only
  with_reducible repeat' (first | assumption | (intro _) | apply Kept.ite | apply Kept.ite2 | apply Kept.foldl | apply Kept.foldl2 | apply Kept.owe | apply Kept.lose | apply h0 | (fail_if_no_progress beta_reduce) | (fail_if_no_progress dsimp only) | split | apply And.intro)

theorem Kept.discardStaging {o : State} (s : State) (h0 : Kept o s) : Kept o (State.discardStaging s) := by
  unfold Sys2Proof.Machine.State.discardStaging
  dsimp -failIfUnchanged only
  with_reducible repeat' (first | assumption | (intro _) | apply Kept.ite | apply Kept.ite2 | apply Kept.foldl | apply Kept.foldl2 | apply Kept.trace | apply Kept.loseRec | apply h0 | simp only [Kept.mk_iff] | apply Kept.of | apply Kept.with_hif | apply Kept.hif | apply Hif.shaped_rings | apply Hif.shaped_vecPend | apply Hif.shaped_cqFull | (simp only [Hif.shaped_mk, setAt_length, modAt_length, unsettleIf_length, cmpSet_length, nibIdle_length, upTo_length, List.length_map, List.length_mapIdx, List.length_replicate]) | (fail_if_no_progress beta_reduce) | (fail_if_no_progress dsimp only) | split | apply And.intro)

theorem Kept.takeBack {o : State} (x : Tlp) (s : State) (h0 : Kept o s) : Kept o (State.takeBack x s) := by
  unfold Sys2Proof.Machine.State.takeBack
  dsimp -failIfUnchanged only
  with_reducible repeat' (first | assumption | (intro _) | apply Kept.ite | apply Kept.ite2 | apply Kept.foldl | apply Kept.foldl2 | apply Kept.modRing | apply Kept.alarm | apply Kept.loseRec | apply Kept.owe | apply h0 | simp only [Kept.mk_iff] | apply Kept.of | apply Kept.with_hif | apply Kept.hif | apply Hif.shaped_rings | apply Hif.shaped_vecPend | apply Hif.shaped_cqFull | (simp only [Hif.shaped_mk, setAt_length, modAt_length, unsettleIf_length, cmpSet_length, nibIdle_length, upTo_length, List.length_map, List.length_mapIdx, List.length_replicate]) | (fail_if_no_progress beta_reduce) | (fail_if_no_progress dsimp only) | split | apply And.intro)

theorem Kept.ringCfg {o : State} (r : Nat) (v : Word) (s : State) (h0 : Kept o s) : Kept o (State.ringCfg r v s) := by
  unfold Sys2Proof.Machine.State.ringCfg
  dsimp -failIfUnchanged only
  with_reducible repeat' (first | assumption | (intro _) | apply Kept.ite | apply Kept.ite2 | apply Kept.foldl | apply Kept.foldl2 | apply Kept.set | apply Kept.putWord | apply Kept.modRing | apply h0 | (fail_if_no_progress beta_reduce) | (fail_if_no_progress dsimp only) | split | apply And.intro)

theorem Kept.ringCfgWrite {o : State} (p : Port) (r : Nat) (v : Word) (s : State) (h0 : Kept o s) : Kept o (State.ringCfgWrite p r v s) := by
  unfold Sys2Proof.Machine.State.ringCfgWrite
  dsimp -failIfUnchanged only
  with_reducible repeat' (first | assumption | (intro _) | apply Kept.ite | apply Kept.ite2 | apply Kept.foldl | apply Kept.foldl2 | apply Kept.onWrite | apply Kept.ringCfg | apply h0 | (fail_if_no_progress beta_reduce) | (fail_if_no_progress dsimp only) | split | apply And.intro)

theorem Kept.engineOn {o : State} (s : State) (h0 : Kept o s) : Kept o (State.engineOn s) := by
  unfold Sys2Proof.Machine.State.engineOn
  dsimp -failIfUnchanged only
  with_reducible repeat' (first | assumption | (intro _) | apply Kept.ite | apply Kept.ite2 | apply Kept.foldl | apply Kept.foldl2 | apply Kept.discardStaging | apply Kept.set | apply Kept.watchCqs | apply h0 | simp only [Kept.mk_iff] | apply Kept.of | apply Kept.with_hif | apply Kept.hif | apply Hif.shaped_rings | apply Hif.shaped_vecPend | apply Hif.shaped_cqFull | (simp only [Hif.shaped_mk, setAt_length, modAt_length, unsettleIf_length, cmpSet_length, nibIdle_length, upTo_length, List.length_map, List.length_mapIdx, List.length_replicate]) | (fail_if_no_progress beta_reduce) | (fail_if_no_progress dsimp only) | split | apply And.intro)

theorem Kept.engineCtrl {o : State} (v : Word) (s : State) (h0 : Kept o s) : Kept o (State.engineCtrl v s) := by
  unfold Sys2Proof.Machine.State.engineCtrl
  dsimp -failIfUnchanged only
  with_reducible repeat' (first | assumption | (intro _) | apply Kept.ite | apply Kept.ite2 | apply Kept.foldl | apply Kept.foldl2 | apply Kept.engineOn | apply Kept.set | apply h0 | (fail_if_no_progress beta_reduce) | (fail_if_no_progress dsimp only) | split | apply And.intro)

theorem Kept.markIdle {o : State} (s : State) (h0 : Kept o s) : Kept o (State.markIdle s) := by
  unfold Sys2Proof.Machine.State.markIdle
  dsimp -failIfUnchanged only
  with_reducible repeat' (first | assumption | (intro _) | apply Kept.ite | apply Kept.ite2 | apply Kept.foldl | apply Kept.foldl2 | apply h0 | simp only [Kept.mk_iff] | apply Kept.of | apply Kept.with_clk | apply Kept.clk | apply Clk.shaped_qrun | apply Clk.shaped_qidle | (simp only [Clk.shaped_mk, setAt_length, modAt_length, unsettleIf_length, cmpSet_length, nibIdle_length, upTo_length, List.length_map, List.length_mapIdx, List.length_replicate]) | (fail_if_no_progress beta_reduce) | (fail_if_no_progress dsimp only) | split | apply And.intro)

/-! Hif -/

theorem Kept.configReset {o : State} (s : State) (h0 : Kept o s) : Kept o (State.configReset s) := by
  unfold Sys2Proof.Machine.State.configReset
  dsimp -failIfUnchanged only
  with_reducible repeat' (first | assumption | (intro _) | apply Kept.ite | apply Kept.ite2 | apply Kept.foldl | apply Kept.foldl2 | apply Kept.putWord | apply h0 | simp only [Kept.mk_iff] | apply Kept.of | apply Kept.with_hif | apply Kept.hif | apply Hif.shaped_rings | apply Hif.shaped_vecPend | apply Hif.shaped_cqFull | (simp only [Hif.shaped_mk, setAt_length, modAt_length, unsettleIf_length, cmpSet_length, nibIdle_length, upTo_length, List.length_map, List.length_mapIdx, List.length_replicate]) | (fail_if_no_progress beta_reduce) | (fail_if_no_progress dsimp only) | split | apply And.intro)

theorem Kept.engineOff {o : State} (s : State) (h0 : Kept o s) : Kept o (State.engineOff s) := by
  unfold Sys2Proof.Machine.State.engineOff
  dsimp -failIfUnchanged only
  with_reducible repeat' (first | assumption | (intro _) | apply Kept.ite | apply Kept.ite2 | apply Kept.foldl | apply Kept.foldl2 | apply Kept.set | apply h0 | simp only [Kept.mk_iff] | apply Kept.of | apply Kept.with_hif | apply Kept.hif | apply Hif.shaped_rings | apply Hif.shaped_vecPend | apply Hif.shaped_cqFull | (simp only [Hif.shaped_mk, setAt_length, modAt_length, unsettleIf_length, cmpSet_length, nibIdle_length, upTo_length, List.length_map, List.length_mapIdx, List.length_replicate]) | (fail_if_no_progress beta_reduce) | (fail_if_no_progress dsimp only) | split | apply And.intro)

theorem Kept.hostReset {o : State} (s : State) (h0 : Kept o s) : Kept o (State.hostReset s) := by
  unfold Sys2Proof.Machine.State.hostReset
  dsimp -failIfUnchanged only
  with_reducible repeat' (first | assumption | (intro _) | apply Kept.ite | apply Kept.ite2 | apply Kept.foldl | apply Kept.foldl2 | apply Kept.configReset | apply Kept.engineOff | apply Kept.endPcieSession | apply h0 | (fail_if_no_progress beta_reduce) | (fail_if_no_progress dsimp only) | split | apply And.intro)

theorem Kept.unacked {o : State} (n : Nat) (s : State) (h0 : Kept o s) : Kept o (State.unacked n s) := by
  unfold Sys2Proof.Machine.State.unacked
  dsimp -failIfUnchanged only
  with_reducible repeat' (first | assumption | (intro _) | apply Kept.ite | apply Kept.ite2 | apply Kept.foldl | apply Kept.foldl2 | apply Kept.takeBack | apply h0 | simp only [Kept.mk_iff] | apply Kept.of | apply Kept.with_hif | apply Kept.hif | apply Hif.shaped_rings | apply Hif.shaped_vecPend | apply Hif.shaped_cqFull | (simp only [Hif.shaped_mk, setAt_length, modAt_length, unsettleIf_length, cmpSet_length, nibIdle_length, upTo_length, List.length_map, List.length_mapIdx, List.length_replicate]) | (fail_if_no_progress beta_reduce) | (fail_if_no_progress dsimp only) | split | apply And.intro)

theorem Kept.linkDown {o : State} (n : Nat) (s : State) (h0 : Kept o s) : Kept o (State.linkDown n s) := by
  unfold Sys2Proof.Machine.State.linkDown
  dsimp -failIfUnchanged only
  with_reducible repeat' (first | assumption | (intro _) | apply Kept.ite | apply Kept.ite2 | apply Kept.foldl | apply Kept.foldl2 | apply Kept.unacked | apply Kept.count | apply Kept.alarm | apply Kept.endPcieSession | apply Kept.fallbackCause | apply h0 | simp only [Kept.mk_iff] | apply Kept.of | apply Kept.with_hif | apply Kept.hif | apply Hif.shaped_rings | apply Hif.shaped_vecPend | apply Hif.shaped_cqFull | (simp only [Hif.shaped_mk, setAt_length, modAt_length, unsettleIf_length, cmpSet_length, nibIdle_length, upTo_length, List.length_map, List.length_mapIdx, List.length_replicate]) | (fail_if_no_progress beta_reduce) | (fail_if_no_progress dsimp only) | split | apply And.intro)

theorem Kept.linkReset {o : State} (s : State) (h0 : Kept o s) : Kept o (State.linkReset s) := by
  unfold Sys2Proof.Machine.State.linkReset
  dsimp -failIfUnchanged only
  with_reducible repeat' (first | assumption | (intro _) | apply Kept.ite | apply Kept.ite2 | apply Kept.foldl | apply Kept.foldl2 | apply Kept.hostReset | apply Kept.draw | apply Kept.linkDown | apply h0 | (fail_if_no_progress beta_reduce) | (fail_if_no_progress dsimp only) | split | apply And.intro)

theorem Kept.heartbeat {o : State} (p : Port) (s : State) (h0 : Kept o s) : Kept o (State.heartbeat p s) :=
  Kept.onWrite _ _ _ (Kept.heard _ h0) (fun _ h => h)

theorem Kept.dmaRecord {o : State} (ring cause : Nat) (s : State) (h0 : Kept o s) : Kept o (State.dmaRecord ring cause s) := by
  unfold Sys2Proof.Machine.State.dmaRecord
  dsimp -failIfUnchanged only
  with_reducible repeat' (first | assumption | (intro _) | apply Kept.ite | apply Kept.ite2 | apply Kept.foldl | apply Kept.foldl2 | apply Kept.putWord | apply h0 | (fail_if_no_progress beta_reduce) | (fail_if_no_progress dsimp only) | split | apply And.intro)

theorem Kept.dmaFail {o : State} (ring cause : Nat) (s : State) (h0 : Kept o s) : Kept o (State.dmaFail ring cause s) := by
  unfold Sys2Proof.Machine.State.dmaFail
  dsimp -failIfUnchanged only
  with_reducible repeat' (first | assumption | (intro _) | apply Kept.ite | apply Kept.ite2 | apply Kept.foldl | apply Kept.foldl2 | apply Kept.dmaRecord | apply Kept.stopRing | apply Kept.alarm | apply h0 | simp only [Kept.mk_iff] | apply Kept.of | apply Kept.with_hif | apply Kept.hif | apply Hif.shaped_rings | apply Hif.shaped_vecPend | apply Hif.shaped_cqFull | (simp only [Hif.shaped_mk, setAt_length, modAt_length, unsettleIf_length, cmpSet_length, nibIdle_length, upTo_length, List.length_map, List.length_mapIdx, List.length_replicate]) | (fail_if_no_progress beta_reduce) | (fail_if_no_progress dsimp only) | split | apply And.intro)

theorem Kept.unmask {o : State} (v : Nat) (s : State) (h0 : Kept o s) : Kept o (State.unmask v s) := by
  unfold Sys2Proof.Machine.State.unmask
  dsimp -failIfUnchanged only
  with_reducible repeat' (first | assumption | (intro _) | apply Kept.ite | apply Kept.ite2 | apply Kept.foldl | apply Kept.foldl2 | apply Kept.putWord | apply Kept.message | apply h0 | (fail_if_no_progress beta_reduce) | (fail_if_no_progress dsimp only) | split | apply And.intro)

/-! SlurOps -/

theorem Kept.beginTraining {o : State} (s : State) (h0 : Kept o s) : Kept o (State.beginTraining s) := by
  unfold Sys2Proof.Machine.State.beginTraining
  dsimp -failIfUnchanged only
  with_reducible repeat' (first | assumption | (intro _) | apply Kept.ite | apply Kept.ite2 | apply Kept.foldl | apply Kept.foldl2 | apply Kept.assign | apply h0 | simp only [Kept.mk_iff] | apply Kept.of | (fail_if_no_progress beta_reduce) | (fail_if_no_progress dsimp only) | split | apply And.intro)

/-! Nib -/

theorem Kept.nibIrq {o : State} (n : Nat) (s : State) (h0 : Kept o s) : Kept o (State.nibIrq n s) := by
  unfold Sys2Proof.Machine.State.nibIrq
  dsimp -failIfUnchanged only
  with_reducible repeat' (first | assumption | (intro _) | apply Kept.ite | apply Kept.ite2 | apply Kept.foldl | apply Kept.foldl2 | apply Kept.raise | apply h0 | (fail_if_no_progress beta_reduce) | (fail_if_no_progress dsimp only) | split | apply And.intro)

theorem Kept.nibPush {o : State} (n : Nat) (w : Word) (s : State) (h0 : Kept o s) : Kept o (State.nibPush n w s) := by
  unfold Sys2Proof.Machine.State.nibPush
  dsimp -failIfUnchanged only
  with_reducible repeat' (first | assumption | (intro _) | apply Kept.ite | apply Kept.ite2 | apply Kept.foldl | apply Kept.foldl2 | apply Kept.modNib | apply Kept.nibIrq | apply Kept.set | apply h0 | apply Nib.shaped_ink | (simp only [Nib.shaped_mk, setAt_length, modAt_length, unsettleIf_length, cmpSet_length, nibIdle_length, upTo_length, List.length_map, List.length_mapIdx, List.length_replicate]) | (fail_if_no_progress beta_reduce) | (fail_if_no_progress dsimp only) | split | apply And.intro)

theorem Kept.nibPull {o : State} (n : Nat) (s : State) (h0 : Kept o s) : Kept o (State.nibPull n s) := by
  unfold Sys2Proof.Machine.State.nibPull
  dsimp -failIfUnchanged only
  with_reducible repeat' (first | assumption | (intro _) | apply Kept.ite | apply Kept.ite2 | apply Kept.foldl | apply Kept.foldl2 | apply Kept.modNib | apply Kept.set | apply Kept.nibIrq | apply h0 | apply Nib.shaped_ink | (simp only [Nib.shaped_mk, setAt_length, modAt_length, unsettleIf_length, cmpSet_length, nibIdle_length, upTo_length, List.length_map, List.length_mapIdx, List.length_replicate]) | (fail_if_no_progress beta_reduce) | (fail_if_no_progress dsimp only) | split | apply And.intro)

theorem Kept.shiftIn {o : State} (n : Nat) (bit : Bool) (s : State) (h0 : Kept o s) : Kept o (State.shiftIn n bit s) := by
  unfold Sys2Proof.Machine.State.shiftIn
  dsimp -failIfUnchanged only
  with_reducible repeat' (first | assumption | (intro _) | apply Kept.ite | apply Kept.ite2 | apply Kept.foldl | apply Kept.foldl2 | apply Kept.modNib | apply Kept.nibPush | apply h0 | apply Nib.shaped_ink | (simp only [Nib.shaped_mk, setAt_length, modAt_length, unsettleIf_length, cmpSet_length, nibIdle_length, upTo_length, List.length_map, List.length_mapIdx, List.length_replicate]) | (fail_if_no_progress beta_reduce) | (fail_if_no_progress dsimp only) | split | apply And.intro)

theorem Kept.shiftOut {o : State} (n : Nat) (s : State) (h0 : Kept o s) : Kept o (State.shiftOut n s) := by
  unfold Sys2Proof.Machine.State.shiftOut
  dsimp -failIfUnchanged only
  with_reducible repeat' (first | assumption | (intro _) | apply Kept.ite | apply Kept.ite2 | apply Kept.foldl | apply Kept.foldl2 | apply Kept.nibPull | apply Kept.modNib | apply h0 | simp only [Kept.mk_iff] | apply Kept.of | apply Kept.with_ink | apply Kept.ink | apply Ink.shaped_rails | apply Nib.shaped_ink | (simp only [Ink.shaped_mk, Nib.shaped_mk, setAt_length, modAt_length, unsettleIf_length, cmpSet_length, nibIdle_length, upTo_length, List.length_map, List.length_mapIdx, List.length_replicate]) | (fail_if_no_progress beta_reduce) | (fail_if_no_progress dsimp only) | split | apply And.intro)

theorem Kept.nibCount {o : State} (n cnt : Nat) (s : State) (h0 : Kept o s) : Kept o (State.nibCount n cnt s) := by
  unfold Sys2Proof.Machine.State.nibCount
  dsimp -failIfUnchanged only
  with_reducible repeat' (first | assumption | (intro _) | apply Kept.ite | apply Kept.ite2 | apply Kept.foldl | apply Kept.foldl2 | apply Kept.modNib | apply Kept.nibPush | apply h0 | apply Nib.shaped_ink | (simp only [Nib.shaped_mk, setAt_length, modAt_length, unsettleIf_length, cmpSet_length, nibIdle_length, upTo_length, List.length_map, List.length_mapIdx, List.length_replicate]) | (fail_if_no_progress beta_reduce) | (fail_if_no_progress dsimp only) | split | apply And.intro)

theorem Kept.inkStep {o : State} (n k : Nat) (s : State) (h0 : Kept o s) : Kept o (State.inkStep n k s) := by
  unfold Sys2Proof.Machine.State.inkStep
  dsimp -failIfUnchanged only
  with_reducible repeat' (first | assumption | (intro _) | apply Kept.ite | apply Kept.ite2 | apply Kept.foldl | apply Kept.foldl2 | apply Kept.modNib | apply h0 | simp only [Kept.mk_iff] | apply Kept.of | apply Kept.with_ink | apply Kept.ink | apply Ink.shaped_rails | apply Nib.shaped_ink | (simp only [Ink.shaped_mk, Nib.shaped_mk, setAt_length, modAt_length, unsettleIf_length, cmpSet_length, nibIdle_length, upTo_length, List.length_map, List.length_mapIdx, List.length_replicate]) | (fail_if_no_progress beta_reduce) | (fail_if_no_progress dsimp only) | split | apply And.intro)

theorem Kept.nibNext {o : State} (n ns : Nat) (s : State) (h0 : Kept o s) : Kept o (State.nibNext n ns s) := by
  unfold Sys2Proof.Machine.State.nibNext
  dsimp -failIfUnchanged only
  with_reducible repeat' (first | assumption | (intro _) | apply Kept.ite | apply Kept.ite2 | apply Kept.foldl | apply Kept.foldl2 | apply Kept.modNib | apply h0 | apply Nib.shaped_ink | (simp only [Nib.shaped_mk, setAt_length, modAt_length, unsettleIf_length, cmpSet_length, nibIdle_length, upTo_length, List.length_map, List.length_mapIdx, List.length_replicate]) | (fail_if_no_progress beta_reduce) | (fail_if_no_progress dsimp only) | split | apply And.intro)

theorem Kept.strokeStep {o : State} (n k : Nat) (ins : List Bool) (s : State) (h0 : Kept o s) : Kept o (State.strokeStep n k ins s) := by
  unfold Sys2Proof.Machine.State.strokeStep
  dsimp -failIfUnchanged only
  with_reducible repeat' (first | assumption | (intro _) | apply Kept.ite | apply Kept.ite2 | apply Kept.foldl | apply Kept.foldl2 | apply Kept.modNib | apply Kept.shiftIn | apply Kept.shiftOut | apply Kept.nibCount | apply Kept.inkStep | apply Kept.nibNext | apply Kept.nibIrq | apply h0 | apply Nib.shaped_ink | (simp only [Nib.shaped_mk, setAt_length, modAt_length, unsettleIf_length, cmpSet_length, nibIdle_length, upTo_length, List.length_map, List.length_mapIdx, List.length_replicate]) | (fail_if_no_progress beta_reduce) | (fail_if_no_progress dsimp only) | split | apply And.intro)

theorem Kept.cycleStart {o : State} (n : Nat) (s : State) (h0 : Kept o s) : Kept o (State.cycleStart n s) := by
  unfold Sys2Proof.Machine.State.cycleStart
  dsimp -failIfUnchanged only
  with_reducible repeat' (first | assumption | (intro _) | apply Kept.ite | apply Kept.ite2 | apply Kept.foldl | apply Kept.foldl2 | apply Kept.modNib | apply Kept.inCycle | apply h0 | simp only [Kept.mk_iff] | apply Kept.of | apply Kept.with_nibs | apply Kept.nibs | apply NibsOk.modAt | apply NibsOk.map | apply NibsOk.mapIdx | apply Nib.shaped_ink | (simp only [Nib.shaped_mk, setAt_length, modAt_length, unsettleIf_length, cmpSet_length, nibIdle_length, upTo_length, List.length_map, List.length_mapIdx, List.length_replicate]) | (fail_if_no_progress beta_reduce) | (fail_if_no_progress dsimp only) | split | apply And.intro)

theorem Kept.strokeNow {o : State} (n k : Nat) (ins : List Bool) (s : State) (h0 : Kept o s) : Kept o (State.strokeNow n k ins s) := by
  unfold Sys2Proof.Machine.State.strokeNow
  dsimp -failIfUnchanged only
  with_reducible repeat' (first | assumption | (intro _) | apply Kept.ite | apply Kept.ite2 | apply Kept.foldl | apply Kept.foldl2 | apply Kept.modNib | apply Kept.strokeStep | apply h0 | apply Nib.shaped_ink | (simp only [Nib.shaped_mk, setAt_length, modAt_length, unsettleIf_length, cmpSet_length, nibIdle_length, upTo_length, List.length_map, List.length_mapIdx, List.length_replicate]) | (fail_if_no_progress beta_reduce) | (fail_if_no_progress dsimp only) | split | apply And.intro)

theorem Kept.strokeLate {o : State} (n : Nat) (s : State) (h0 : Kept o s) : Kept o (State.strokeLate n s) := by
  unfold Sys2Proof.Machine.State.strokeLate
  dsimp -failIfUnchanged only
  with_reducible repeat' (first | assumption | (intro _) | apply Kept.ite | apply Kept.ite2 | apply Kept.foldl | apply Kept.foldl2 | apply Kept.modNib | apply Kept.strokeStep | apply h0 | apply Nib.shaped_ink | (simp only [Nib.shaped_mk, setAt_length, modAt_length, unsettleIf_length, cmpSet_length, nibIdle_length, upTo_length, List.length_map, List.length_mapIdx, List.length_replicate]) | (fail_if_no_progress beta_reduce) | (fail_if_no_progress dsimp only) | split | apply And.intro)

theorem Kept.strokesLate {o : State} (s : State) (h0 : Kept o s) : Kept o (State.strokesLate s) := by
  unfold Sys2Proof.Machine.State.strokesLate
  dsimp -failIfUnchanged only
  with_reducible repeat' (first | assumption | (intro _) | apply Kept.ite | apply Kept.ite2 | apply Kept.foldl | apply Kept.foldl2 | apply Kept.strokeLate | apply h0 | (fail_if_no_progress beta_reduce) | (fail_if_no_progress dsimp only) | split | apply And.intro)

theorem Kept.fifosFresh {o : State} (n : Nat) (s : State) (h0 : Kept o s) : Kept o (State.fifosFresh n s) := by
  unfold Sys2Proof.Machine.State.fifosFresh
  dsimp -failIfUnchanged only
  with_reducible repeat' (first | assumption | (intro _) | apply Kept.ite | apply Kept.ite2 | apply Kept.foldl | apply Kept.foldl2 | apply Kept.inCycle | apply h0 | simp only [Kept.mk_iff] | apply Kept.of | apply Kept.with_nibs | apply Kept.nibs | apply NibsOk.modAt | apply NibsOk.map | apply NibsOk.mapIdx | apply Nib.shaped_ink | (simp only [Nib.shaped_mk, setAt_length, modAt_length, unsettleIf_length, cmpSet_length, nibIdle_length, upTo_length, List.length_map, List.length_mapIdx, List.length_replicate]) | (fail_if_no_progress beta_reduce) | (fail_if_no_progress dsimp only) | split | apply And.intro)

theorem Kept.nibStartAct {o : State} (n : Nat) (s : State) (h0 : Kept o s) : Kept o (State.nibStartAct n s) := by
  unfold Sys2Proof.Machine.State.nibStartAct
  dsimp -failIfUnchanged only
  with_reducible repeat' (first | assumption | (intro _) | apply Kept.ite | apply Kept.ite2 | apply Kept.foldl | apply Kept.foldl2 | apply Kept.modNib | apply Kept.fifosFresh | apply h0 | apply Nib.shaped_ink | (simp only [Nib.shaped_mk, setAt_length, modAt_length, unsettleIf_length, cmpSet_length, nibIdle_length, upTo_length, List.length_map, List.length_mapIdx, List.length_replicate]) | (fail_if_no_progress beta_reduce) | (fail_if_no_progress dsimp only) | split | apply And.intro)

theorem Kept.nibCtrl {o : State} (n v : Nat) (s : State) (h0 : Kept o s) : Kept o (State.nibCtrl n v s) := by
  unfold Sys2Proof.Machine.State.nibCtrl
  dsimp -failIfUnchanged only
  with_reducible repeat' (first | assumption | (intro _) | apply Kept.ite | apply Kept.ite2 | apply Kept.foldl | apply Kept.foldl2 | apply Kept.nibStartAct | apply Kept.modNib | apply Kept.fifosFresh | apply h0 | apply Nib.shaped_ink | (simp only [Nib.shaped_mk, setAt_length, modAt_length, unsettleIf_length, cmpSet_length, nibIdle_length, upTo_length, List.length_map, List.length_mapIdx, List.length_replicate]) | (fail_if_no_progress beta_reduce) | (fail_if_no_progress dsimp only) | split | apply And.intro)

theorem Kept.nibWrite {o : State} (s : State) (p : Port) (n bit : Nat) (v : Word) (h0 : Kept o s) : Kept o (State.nibWrite s p n bit v) := by
  unfold Sys2Proof.Machine.State.nibWrite
  dsimp -failIfUnchanged only
  with_reducible repeat' (first | assumption | (intro _) | apply Kept.ite | apply Kept.ite2 | apply Kept.foldl | apply Kept.foldl2 | apply Kept.busWrite | apply Kept.nibCtrl | apply h0 | (fail_if_no_progress beta_reduce) | (fail_if_no_progress dsimp only) | split | apply And.intro)

theorem Kept.nibAuto {o : State} (s : State) (h0 : Kept o s) : Kept o (State.nibAuto s) := by
  unfold Sys2Proof.Machine.State.nibAuto
  dsimp -failIfUnchanged only
  with_reducible repeat' (first | assumption | (intro _) | apply Kept.ite | apply Kept.ite2 | apply Kept.foldl | apply Kept.foldl2 | apply Kept.nibStartAct | apply h0 | (fail_if_no_progress beta_reduce) | (fail_if_no_progress dsimp only) | split | apply And.intro)

theorem Kept.armedStart {o : State} (s : State) (h0 : Kept o s) : Kept o (State.armedStart s) := by
  unfold Sys2Proof.Machine.State.armedStart
  dsimp -failIfUnchanged only
  with_reducible repeat' (first | assumption | (intro _) | apply Kept.ite | apply Kept.ite2 | apply Kept.foldl | apply Kept.foldl2 | apply Kept.tmrAuto | apply Kept.nibAuto | apply Kept.beginTraining | apply h0 | (fail_if_no_progress beta_reduce) | (fail_if_no_progress dsimp only) | split | apply And.intro)

theorem Kept.armedIf {o : State} (old : Mode) (s : State) (h0 : Kept o s) : Kept o (State.armedIf old s) := by
  unfold Sys2Proof.Machine.State.armedIf
  dsimp -failIfUnchanged only
  with_reducible repeat' (first | assumption | (intro _) | apply Kept.ite | apply Kept.ite2 | apply Kept.foldl | apply Kept.foldl2 | apply Kept.armedStart | apply h0 | (fail_if_no_progress beta_reduce) | (fail_if_no_progress dsimp only) | split | apply And.intro)

theorem Kept.nibRestart {o : State} (n : Nat) (s : State) (h0 : Kept o s) : Kept o (State.nibRestart n s) := by
  unfold Sys2Proof.Machine.State.nibRestart
  dsimp -failIfUnchanged only
  with_reducible repeat' (first | assumption | (intro _) | apply Kept.ite | apply Kept.ite2 | apply Kept.foldl | apply Kept.foldl2 | apply Kept.modNib | apply Kept.nibStartAct | apply h0 | apply Nib.shaped_ink | (simp only [Nib.shaped_mk, setAt_length, modAt_length, unsettleIf_length, cmpSet_length, nibIdle_length, upTo_length, List.length_map, List.length_mapIdx, List.length_replicate]) | (fail_if_no_progress beta_reduce) | (fail_if_no_progress dsimp only) | split | apply And.intro)

theorem Kept.nibSleep {o : State} (s : State) (h0 : Kept o s) : Kept o (State.nibSleep s) := by
  unfold Sys2Proof.Machine.State.nibSleep
  dsimp -failIfUnchanged only
  with_reducible repeat' (first | assumption | (intro _) | apply Kept.ite | apply Kept.ite2 | apply Kept.foldl | apply Kept.foldl2 | apply h0 | simp only [Kept.mk_iff] | apply Kept.of | apply Kept.with_ink | apply Kept.with_nibs | constructor | apply Kept.part | apply Kept.pending | apply Kept.regs | apply Kept.clk | apply Kept.hif | apply Kept.evc | apply Kept.sec | apply Kept.whl | apply Kept.sch | apply Kept.banks | apply Kept.quads | apply Kept.ink | apply Kept.grds | apply Kept.adc | apply Kept.cmps | apply Kept.tmrs | apply Kept.nibs | apply NibsOk.modAt | apply NibsOk.map | apply NibsOk.mapIdx | apply Ink.shaped_rails | apply Nib.shaped_ink | apply Nib.initial_shaped | (simp only [Ink.shaped_mk, Nib.shaped_mk, setAt_length, modAt_length, unsettleIf_length, cmpSet_length, nibIdle_length, upTo_length, List.length_map, List.length_mapIdx, List.length_replicate]) | (fail_if_no_progress beta_reduce) | (fail_if_no_progress dsimp only) | split | apply And.intro)

theorem Kept.nibMargins {o : State} (s : State) (h0 : Kept o s) : Kept o (State.nibMargins s) := by
  unfold Sys2Proof.Machine.State.nibMargins
  dsimp -failIfUnchanged only
  with_reducible repeat' (first | assumption | (intro _) | apply Kept.ite | apply Kept.ite2 | apply Kept.foldl | apply Kept.foldl2 | apply h0 | simp only [Kept.mk_iff] | apply Kept.of | apply Kept.with_ink | apply Kept.with_nibs | constructor | apply Kept.part | apply Kept.pending | apply Kept.regs | apply Kept.clk | apply Kept.hif | apply Kept.evc | apply Kept.sec | apply Kept.whl | apply Kept.sch | apply Kept.banks | apply Kept.quads | apply Kept.ink | apply Kept.grds | apply Kept.adc | apply Kept.cmps | apply Kept.tmrs | apply Kept.nibs | apply NibsOk.modAt | apply NibsOk.map | apply NibsOk.mapIdx | apply Ink.shaped_rails | apply Nib.shaped_ink | (simp only [Ink.shaped_mk, Nib.shaped_mk, setAt_length, modAt_length, unsettleIf_length, cmpSet_length, nibIdle_length, upTo_length, List.length_map, List.length_mapIdx, List.length_replicate]) | (fail_if_no_progress beta_reduce) | (fail_if_no_progress dsimp only) | split | apply And.intro)

theorem Kept.fifoNote {o : State} (n : Nat) (l : Nat × Nat) (s : State) (h0 : Kept o s) : Kept o (State.fifoNote n l s) := by
  unfold Sys2Proof.Machine.State.fifoNote
  dsimp -failIfUnchanged only
  with_reducible repeat' (first | assumption | (intro _) | apply Kept.ite | apply Kept.ite2 | apply Kept.foldl | apply Kept.foldl2 | apply Kept.inCycle | apply h0 | simp only [Kept.mk_iff] | apply Kept.of | apply Kept.with_nibs | apply Kept.nibs | apply NibsOk.modAt | apply NibsOk.map | apply NibsOk.mapIdx | apply Nib.shaped_ink | (simp only [Nib.shaped_mk, setAt_length, modAt_length, unsettleIf_length, cmpSet_length, nibIdle_length, upTo_length, List.length_map, List.length_mapIdx, List.length_replicate]) | (fail_if_no_progress beta_reduce) | (fail_if_no_progress dsimp only) | split | apply And.intro)

theorem Kept.txWrite {o : State} (p : Port) (n : Nat) (v : Word) (s : State) (h0 : Kept o s) : Kept o (State.txWrite p n v s) := by
  unfold Sys2Proof.Machine.State.txWrite
  dsimp -failIfUnchanged only
  with_reducible repeat' (first | assumption | (intro _) | apply Kept.ite | apply Kept.ite2 | apply Kept.foldl | apply Kept.foldl2 | apply Kept.busWrite | apply Kept.modNib | apply Kept.fifoNote | apply Kept.count | apply h0 | apply Nib.shaped_ink | (simp only [Nib.shaped_mk, setAt_length, modAt_length, unsettleIf_length, cmpSet_length, nibIdle_length, upTo_length, List.length_map, List.length_mapIdx, List.length_replicate]) | (fail_if_no_progress beta_reduce) | (fail_if_no_progress dsimp only) | split | apply And.intro)

theorem Kept.rxRead {o : State} (p : Port) (n : Nat) (s : State) (h0 : Kept o s) : Kept o (State.rxRead p n s) := by
  unfold Sys2Proof.Machine.State.rxRead
  dsimp -failIfUnchanged only
  with_reducible repeat' (first | assumption | (intro _) | apply Kept.ite | apply Kept.ite2 | apply Kept.foldl | apply Kept.foldl2 | apply Kept.onRead | apply Kept.answer | apply Kept.count | apply Kept.modNib | apply Kept.fifoNote | apply h0 | apply Nib.shaped_ink | (simp only [Nib.shaped_mk, setAt_length, modAt_length, unsettleIf_length, cmpSet_length, nibIdle_length, upTo_length, List.length_map, List.length_mapIdx, List.length_replicate]) | (fail_if_no_progress beta_reduce) | (fail_if_no_progress dsimp only) | split | apply And.intro)

theorem Kept.sidxAdvance {o : State} (n : Nat) (s : State) (h0 : Kept o s) : Kept o (State.sidxAdvance n s) := by
  unfold Sys2Proof.Machine.State.sidxAdvance
  dsimp -failIfUnchanged only
  with_reducible repeat' (first | assumption | (intro _) | apply Kept.ite | apply Kept.ite2 | apply Kept.foldl | apply Kept.foldl2 | apply Kept.set | apply h0 | (fail_if_no_progress beta_reduce) | (fail_if_no_progress dsimp only) | split | apply And.intro)

theorem Kept.strokeLo {o : State} (p : Port) (n : Nat) (v : Word) (s : State) (h0 : Kept o s) : Kept o (State.strokeLo p n v s) := by
  unfold Sys2Proof.Machine.State.strokeLo
  dsimp -failIfUnchanged only
  with_reducible repeat' (first | assumption | (intro _) | apply Kept.ite | apply Kept.ite2 | apply Kept.foldl | apply Kept.foldl2 | apply Kept.modNib | apply Kept.deny | apply h0 | apply Nib.shaped_ink | (simp only [Nib.shaped_mk, setAt_length, modAt_length, unsettleIf_length, cmpSet_length, nibIdle_length, upTo_length, List.length_map, List.length_mapIdx, List.length_replicate]) | (fail_if_no_progress beta_reduce) | (fail_if_no_progress dsimp only) | split | apply And.intro)

theorem Kept.strokeHi {o : State} (p : Port) (n : Nat) (v : Word) (s : State) (h0 : Kept o s) : Kept o (State.strokeHi p n v s) := by
  unfold Sys2Proof.Machine.State.strokeHi
  dsimp -failIfUnchanged only
  with_reducible repeat' (first | assumption | (intro _) | apply Kept.ite | apply Kept.ite2 | apply Kept.foldl | apply Kept.foldl2 | apply Kept.putBoth | apply Kept.deny | apply Kept.sidxAdvance | apply h0 | (fail_if_no_progress beta_reduce) | (fail_if_no_progress dsimp only) | split | apply And.intro)

theorem Kept.strokeRead {o : State} (p : Port) (n : Nat) (s : State) (h0 : Kept o s) : Kept o (State.strokeRead p n s) := by
  unfold Sys2Proof.Machine.State.strokeRead
  dsimp -failIfUnchanged only
  with_reducible repeat' (first | assumption | (intro _) | apply Kept.ite | apply Kept.ite2 | apply Kept.foldl | apply Kept.foldl2 | apply Kept.onRead | apply Kept.answer | apply Kept.modNib | apply h0 | apply Nib.shaped_ink | (simp only [Nib.shaped_mk, setAt_length, modAt_length, unsettleIf_length, cmpSet_length, nibIdle_length, upTo_length, List.length_map, List.length_mapIdx, List.length_replicate]) | (fail_if_no_progress beta_reduce) | (fail_if_no_progress dsimp only) | split | apply And.intro)

theorem Kept.marginSet {o : State} (p : Port) (n : Nat) (v : Word) (s : State) (h0 : Kept o s) : Kept o (State.marginSet p n v s) := by
  unfold Sys2Proof.Machine.State.marginSet
  dsimp -failIfUnchanged only
  with_reducible repeat' (first | assumption | (intro _) | apply Kept.ite | apply Kept.ite2 | apply Kept.foldl | apply Kept.foldl2 | apply Kept.count | apply Kept.putBoth | apply Kept.modNib | apply Kept.deny | apply h0 | apply Nib.shaped_ink | (simp only [Nib.shaped_mk, setAt_length, modAt_length, unsettleIf_length, cmpSet_length, nibIdle_length, upTo_length, List.length_map, List.length_mapIdx, List.length_replicate]) | (fail_if_no_progress beta_reduce) | (fail_if_no_progress dsimp only) | split | apply And.intro)

/-! Whl -/

theorem Kept.toothTrace {o : State} (c : EdgeClass) (r : Nat) (t : Tb) (s : State) (h0 : Kept o s) : Kept o (State.toothTrace c r t s) := by
  unfold Sys2Proof.Machine.State.toothTrace
  dsimp -failIfUnchanged only
  with_reducible repeat' (first | assumption | (intro _) | apply Kept.ite | apply Kept.ite2 | apply Kept.foldl | apply Kept.foldl2 | apply Kept.trace | apply h0 | (fail_if_no_progress beta_reduce) | (fail_if_no_progress dsimp only) | split | apply And.intro)

theorem Kept.syncAs {o : State} (quiet : Bool) (dst : Sync) (input : Nat) (t : Tb) (s : State) (h0 :
    Kept o s) : Kept o (State.syncAs quiet dst input t s) := by
  unfold Sys2Proof.Machine.State.syncAs
  dsimp -failIfUnchanged only
  with_reducible repeat' (first | assumption | (intro _) | apply Kept.ite | apply Kept.ite2 | apply Kept.foldl | apply Kept.foldl2 | apply Kept.alarm | apply Kept.raise | apply Kept.endClamp | apply Kept.syncLoss | apply Kept.closeAll | apply Kept.startCoast | apply Kept.endCoast | apply Kept.modStore | apply Kept.openAll | apply Kept.trace | apply Kept.followSync | apply h0 | simp only [Kept.mk_iff] | apply Kept.of | apply Kept.with_whl | apply Kept.whl | apply Whl.shaped_camK | (simp only [Whl.shaped_mk, setAt_length, modAt_length, unsettleIf_length, cmpSet_length, nibIdle_length, upTo_length, List.length_map, List.length_mapIdx, List.length_replicate]) | (fail_if_no_progress beta_reduce) | (fail_if_no_progress dsimp only) | split | apply And.intro)

theorem Kept.sync {o : State} (dst : Sync) (input : Nat) (t : Tb) (s : State) (h0 : Kept o s) : Kept o (State.sync dst input t s) := by
  unfold Sys2Proof.Machine.State.sync
  dsimp -failIfUnchanged only
  with_reducible repeat' (first | assumption | (intro _) | apply Kept.ite | apply Kept.ite2 | apply Kept.foldl | apply Kept.foldl2 | apply Kept.syncAs | apply h0 | (fail_if_no_progress beta_reduce) | (fail_if_no_progress dsimp only) | split | apply And.intro)

theorem Kept.kept {o : State} (t : Tb) (s : State) (h0 : Kept o s) : Kept o (State.kept t s) := by
  unfold Sys2Proof.Machine.State.kept
  dsimp -failIfUnchanged only
  with_reducible repeat' (first | assumption | (intro _) | apply Kept.ite | apply Kept.ite2 | apply Kept.foldl | apply Kept.foldl2 | apply h0 | simp only [Kept.mk_iff] | apply Kept.of | apply Kept.with_whl | apply Kept.whl | apply Whl.shaped_camK | (simp only [Whl.shaped_mk, setAt_length, modAt_length, unsettleIf_length, cmpSet_length, nibIdle_length, upTo_length, List.length_map, List.length_mapIdx, List.length_replicate]) | (fail_if_no_progress beta_reduce) | (fail_if_no_progress dsimp only) | split | apply And.intro)

theorem Kept.seekFrom {o : State} (t : Option Tb) (s : State) (h0 : Kept o s) : Kept o (State.seekFrom t s) := by
  unfold Sys2Proof.Machine.State.seekFrom
  dsimp -failIfUnchanged only
  with_reducible repeat' (first | assumption | (intro _) | apply Kept.ite | apply Kept.ite2 | apply Kept.foldl | apply Kept.foldl2 | apply h0 | simp only [Kept.mk_iff] | apply Kept.of | apply Kept.with_whl | apply Kept.whl | apply Whl.shaped_camK | (simp only [Whl.shaped_mk, setAt_length, modAt_length, unsettleIf_length, cmpSet_length, nibIdle_length, upTo_length, List.length_map, List.length_mapIdx, List.length_replicate]) | (fail_if_no_progress beta_reduce) | (fail_if_no_progress dsimp only) | split | apply And.intro)

theorem Kept.wrapCycle {o : State} (s : State) (h0 : Kept o s) : Kept o (State.wrapCycle s) := by
  unfold Sys2Proof.Machine.State.wrapCycle
  dsimp -failIfUnchanged only
  with_reducible repeat' (first | assumption | (intro _) | apply Kept.ite | apply Kept.ite2 | apply Kept.foldl | apply Kept.foldl2 | apply Kept.sync | apply h0 | simp only [Kept.mk_iff] | apply Kept.of | apply Kept.with_whl | apply Kept.whl | apply Whl.shaped_camK | (simp only [Whl.shaped_mk, setAt_length, modAt_length, unsettleIf_length, cmpSet_length, nibIdle_length, upTo_length, List.length_map, List.length_mapIdx, List.length_replicate]) | (fail_if_no_progress beta_reduce) | (fail_if_no_progress dsimp only) | split | apply And.intro)

theorem Kept.moveClock {o : State} (d : Int) (s : State) (h0 : Kept o s) : Kept o (State.moveClock d s) := by
  unfold Sys2Proof.Machine.State.moveClock
  dsimp -failIfUnchanged only
  with_reducible repeat' (first | assumption | (intro _) | apply Kept.ite | apply Kept.ite2 | apply Kept.foldl | apply Kept.foldl2 | apply Kept.angleMoved | apply Kept.wrapCycle | apply h0 | simp only [Kept.mk_iff] | apply Kept.of | (fail_if_no_progress beta_reduce) | (fail_if_no_progress dsimp only) | split | apply And.intro)

theorem Kept.setPitch {o : State} (t : Tb) (s : State) (h0 : Kept o s) : Kept o (State.setPitch t s) := by
  unfold Sys2Proof.Machine.State.setPitch
  dsimp -failIfUnchanged only
  with_reducible repeat' (first | assumption | (intro _) | apply Kept.ite | apply Kept.ite2 | apply Kept.foldl | apply Kept.foldl2 | apply Kept.set | apply Kept.endClamp | apply Kept.moveClock | apply h0 | simp only [Kept.mk_iff] | apply Kept.of | (fail_if_no_progress beta_reduce) | (fail_if_no_progress dsimp only) | split | apply And.intro)

theorem Kept.learnEntry {o : State} (i : Nat) (x lim : Int) (s : State) (h0 : Kept o s) : Kept o (State.learnEntry i x lim s) := by
  unfold Sys2Proof.Machine.State.learnEntry
  dsimp -failIfUnchanged only
  with_reducible repeat' (first | assumption | (intro _) | apply Kept.ite | apply Kept.ite2 | apply Kept.foldl | apply Kept.foldl2 | apply Kept.set | apply Kept.putWord | apply h0 | (fail_if_no_progress beta_reduce) | (fail_if_no_progress dsimp only) | split | apply And.intro)

theorem Kept.revolve {o : State} (c : EdgeClass) (t : Tb) (s : State) (h0 : Kept o s) : Kept o (State.revolve c t s) := by
  unfold Sys2Proof.Machine.State.revolve
  dsimp -failIfUnchanged only
  with_reducible repeat' (first | assumption | (intro _) | apply Kept.ite | apply Kept.ite2 | apply Kept.foldl | apply Kept.foldl2 | apply h0 | simp only [Kept.mk_iff] | apply Kept.of | (fail_if_no_progress beta_reduce) | (fail_if_no_progress dsimp only) | split | apply And.intro)

theorem Kept.learn {o : State} (clean : Bool) (interval span : Nat) (s : State) (h0 : Kept o s) : Kept o (State.learn clean interval span s) := by
  unfold Sys2Proof.Machine.State.learn
  dsimp -failIfUnchanged only
  with_reducible repeat' (first | assumption | (intro _) | apply Kept.ite | apply Kept.ite2 | apply Kept.foldl | apply Kept.foldl2 | apply Kept.sync | apply Kept.learnEntry | apply Kept.count | apply h0 | simp only [Kept.mk_iff] | apply Kept.of | (fail_if_no_progress beta_reduce) | (fail_if_no_progress dsimp only) | split | apply And.intro)

theorem Kept.toothError {o : State} (t prev : Tb) (pos : Nat) (s : State) (h0 : Kept o s) : Kept o (State.toothError t prev pos s) := by
  unfold Sys2Proof.Machine.State.toothError
  dsimp -failIfUnchanged only
  with_reducible repeat' (first | assumption | (intro _) | apply Kept.ite | apply Kept.ite2 | apply Kept.foldl | apply Kept.foldl2 | apply Kept.set | apply Kept.sample | apply h0 | (fail_if_no_progress beta_reduce) | (fail_if_no_progress dsimp only) | split | apply And.intro)

theorem Kept.phaseDecided {o : State} (wrong : Bool) (input : Nat) (t : Tb) (s : State) (h0 :
    Kept o s) : Kept o (State.phaseDecided wrong input t s) := by
  unfold Sys2Proof.Machine.State.phaseDecided
  dsimp -failIfUnchanged only
  with_reducible repeat' (first | assumption | (intro _) | apply Kept.ite | apply Kept.ite2 | apply Kept.foldl | apply Kept.foldl2 | apply Kept.halfStep | apply Kept.moveClock | apply Kept.sync | apply h0 | simp only [Kept.mk_iff] | apply Kept.of | apply Kept.with_whl | apply Kept.whl | apply Whl.shaped_camK | (simp only [Whl.shaped_mk, setAt_length, modAt_length, unsettleIf_length, cmpSet_length, nibIdle_length, upTo_length, List.length_map, List.length_mapIdx, List.length_replicate]) | (fail_if_no_progress beta_reduce) | (fail_if_no_progress dsimp only) | split | apply And.intro)

theorem Kept.judgeCam {o : State} (t : Tb) (s : State) (h0 : Kept o s) : Kept o (State.judgeCam t s) := by
  unfold Sys2Proof.Machine.State.judgeCam
  dsimp -failIfUnchanged only
  with_reducible repeat' (first | assumption | (intro _) | apply Kept.ite | apply Kept.ite2 | apply Kept.foldl | apply Kept.foldl2 | apply Kept.sync | apply Kept.count | apply Kept.phaseDecided | apply h0 | simp only [Kept.mk_iff] | apply Kept.of | apply Kept.with_whl | apply Kept.whl | apply Whl.shaped_camK | (simp only [Whl.shaped_mk, setAt_length, modAt_length, unsettleIf_length, cmpSet_length, nibIdle_length, upTo_length, List.length_map, List.length_mapIdx, List.length_replicate]) | (fail_if_no_progress beta_reduce) | (fail_if_no_progress dsimp only) | split | apply And.intro)

theorem Kept.changeSet {o : State} (s : State) (h0 : Kept o s) : Kept o (State.changeSet s) := by
  unfold Sys2Proof.Machine.State.changeSet
  dsimp -failIfUnchanged only
  with_reducible repeat' (first | assumption | (intro _) | apply Kept.ite | apply Kept.ite2 | apply Kept.foldl | apply Kept.foldl2 | apply h0 | simp only [Kept.mk_iff] | apply Kept.of | apply Kept.with_whl | apply Kept.whl | apply Whl.shaped_camK | (simp only [Whl.shaped_mk, setAt_length, modAt_length, unsettleIf_length, cmpSet_length, nibIdle_length, upTo_length, List.length_map, List.length_mapIdx, List.length_replicate]) | (fail_if_no_progress beta_reduce) | (fail_if_no_progress dsimp only) | split | apply And.intro)

theorem Kept.torsUpdate {o : State} (gap : Bool) (s : State) (h0 : Kept o s) : Kept o (State.torsUpdate gap s) := by
  unfold Sys2Proof.Machine.State.torsUpdate
  dsimp -failIfUnchanged only
  with_reducible repeat' (first | assumption | (intro _) | apply Kept.ite | apply Kept.ite2 | apply Kept.foldl | apply Kept.foldl2 | apply Kept.sync | apply h0 | simp only [Kept.mk_iff] | apply Kept.of | (fail_if_no_progress beta_reduce) | (fail_if_no_progress dsimp only) | split | apply And.intro)

theorem Kept.edgeWork {o : State} (s : State) (h0 : Kept o s) : Kept o (State.edgeWork s) := by
  unfold Sys2Proof.Machine.State.edgeWork
  dsimp -failIfUnchanged only
  with_reducible repeat' (first | assumption | (intro _) | apply Kept.ite | apply Kept.ite2 | apply Kept.foldl | apply Kept.foldl2 | apply Kept.convertLocks | apply Kept.sync | apply Kept.coastEdge | apply Kept.holdWaiting | apply Kept.rekeyAll | apply h0 | (fail_if_no_progress beta_reduce) | (fail_if_no_progress dsimp only) | split | apply And.intro)

theorem Kept.takeTooth {o : State} (c : EdgeClass) (clean : Bool) (t : Tb) (interval : Nat) (s : State) (h0 :
    Kept o s) : Kept o (State.takeTooth c clean t interval s) := by
  unfold Sys2Proof.Machine.State.takeTooth
  dsimp -failIfUnchanged only
  with_reducible repeat' (first | assumption | (intro _) | apply Kept.ite | apply Kept.ite2 | apply Kept.foldl | apply Kept.foldl2 | apply Kept.toothError | apply Kept.kept | apply Kept.changeSet | apply h0 | simp only [Kept.mk_iff] | apply Kept.of | apply Kept.with_whl | apply Kept.whl | apply Whl.shaped_camK | (simp only [Whl.shaped_mk, setAt_length, modAt_length, unsettleIf_length, cmpSet_length, nibIdle_length, upTo_length, List.length_map, List.length_mapIdx, List.length_replicate]) | (fail_if_no_progress beta_reduce) | (fail_if_no_progress dsimp only) | split | apply And.intro)

theorem Kept.followTooth {o : State} (c : EdgeClass) (clean : Bool) (t : Tb) (interval : Nat) (rev : Bool) (s : State) (h0 :
    Kept o s) : Kept o (State.followTooth c clean t interval rev s) := by
  unfold Sys2Proof.Machine.State.followTooth
  dsimp -failIfUnchanged only
  with_reducible repeat' (first | assumption | (intro _) | apply Kept.ite | apply Kept.ite2 | apply Kept.foldl | apply Kept.foldl2 | apply Kept.moveClock | apply Kept.set | apply Kept.count | apply Kept.revolve | apply Kept.learn | apply Kept.torsUpdate | apply Kept.setPitch | apply Kept.backStep | apply h0 | simp only [Kept.mk_iff] | apply Kept.of | apply Kept.with_whl | apply Kept.whl | apply Whl.shaped_camK | (simp only [Whl.shaped_mk, setAt_length, modAt_length, unsettleIf_length, cmpSet_length, nibIdle_length, upTo_length, List.length_map, List.length_mapIdx, List.length_replicate]) | (fail_if_no_progress beta_reduce) | (fail_if_no_progress dsimp only) | split | apply And.intro)

theorem Kept.countClass {o : State} (c : EdgeClass) (s : State) (h0 : Kept o s) : Kept o (State.countClass c s) := by
  unfold Sys2Proof.Machine.State.countClass
  dsimp -failIfUnchanged only
  with_reducible repeat' (first | assumption | (intro _) | apply Kept.ite | apply Kept.ite2 | apply Kept.foldl | apply Kept.foldl2 | apply Kept.count | apply h0 | (fail_if_no_progress beta_reduce) | (fail_if_no_progress dsimp only) | split | apply And.intro)

theorem Kept.judgeEdge {o : State} (c : EdgeClass) (t : Tb) (s : State) (h0 : Kept o s) : Kept o (State.judgeEdge c t s) := by
  unfold Sys2Proof.Machine.State.judgeEdge
  dsimp -failIfUnchanged only
  with_reducible repeat' (first | assumption | (intro _) | apply Kept.ite | apply Kept.ite2 | apply Kept.foldl | apply Kept.foldl2 | apply Kept.sync | apply h0 | (fail_if_no_progress beta_reduce) | (fail_if_no_progress dsimp only) | split | apply And.intro)

theorem Kept.judgeAgain {o : State} (tag : Nat) (s : State) (h0 : Kept o s) : Kept o (State.judgeAgain tag s) := by
  unfold Sys2Proof.Machine.State.judgeAgain
  dsimp -failIfUnchanged only
  with_reducible repeat' (first | assumption | (intro _) | apply Kept.ite | apply Kept.ite2 | apply Kept.foldl | apply Kept.foldl2 | apply Kept.sync | apply h0 | simp only [Kept.mk_iff] | apply Kept.of | apply Kept.with_whl | apply Kept.whl | apply Whl.shaped_camK | (simp only [Whl.shaped_mk, setAt_length, modAt_length, unsettleIf_length, cmpSet_length, nibIdle_length, upTo_length, List.length_map, List.length_mapIdx, List.length_replicate]) | (fail_if_no_progress beta_reduce) | (fail_if_no_progress dsimp only) | split | apply And.intro)

theorem Kept.accept {o : State} (c : EdgeClass) (conf : Bool) (t : Tb) (s : State) (h0 : Kept o s) : Kept o (State.accept c conf t s) := by
  unfold Sys2Proof.Machine.State.accept
  dsimp -failIfUnchanged only
  with_reducible repeat' (first | assumption | (intro _) | apply Kept.ite | apply Kept.ite2 | apply Kept.foldl | apply Kept.foldl2 | apply Kept.sync | apply Kept.countClass | apply Kept.seekFrom | apply Kept.takeTooth | apply Kept.followTooth | apply Kept.judgeEdge | apply Kept.judgeAgain | apply Kept.judgeCam | apply Kept.edgeWork | apply h0 | (fail_if_no_progress beta_reduce) | (fail_if_no_progress dsimp only) | split | apply And.intro)

theorem Kept.syncDone {o : State} (t : Tb) (s : State) (h0 : Kept o s) : Kept o (State.syncDone t s) := by
  unfold Sys2Proof.Machine.State.syncDone
  dsimp -failIfUnchanged only
  with_reducible repeat' (first | assumption | (intro _) | apply Kept.ite | apply Kept.ite2 | apply Kept.foldl | apply Kept.foldl2 | apply Kept.setPitch | apply Kept.sync | apply Kept.phaseDecided | apply Kept.edgeWork | apply h0 | simp only [Kept.mk_iff] | apply Kept.of | apply Kept.with_whl | apply Kept.whl | apply Whl.shaped_camK | (simp only [Whl.shaped_mk, setAt_length, modAt_length, unsettleIf_length, cmpSet_length, nibIdle_length, upTo_length, List.length_map, List.length_mapIdx, List.length_replicate]) | (fail_if_no_progress beta_reduce) | (fail_if_no_progress dsimp only) | split | apply And.intro)

theorem Kept.seekEdge {o : State} (c : EdgeClass) (interval : Nat) (t : Tb) (s : State) (h0 : Kept o s) : Kept o (State.seekEdge c interval t s) := by
  unfold Sys2Proof.Machine.State.seekEdge
  dsimp -failIfUnchanged only
  with_reducible repeat' (first | assumption | (intro _) | apply Kept.ite | apply Kept.ite2 | apply Kept.foldl | apply Kept.foldl2 | apply Kept.kept | apply Kept.syncDone | apply Kept.count | apply Kept.seekFrom | apply h0 | simp only [Kept.mk_iff] | apply Kept.of | apply Kept.with_whl | apply Kept.whl | apply Whl.shaped_camK | (simp only [Whl.shaped_mk, setAt_length, modAt_length, unsettleIf_length, cmpSet_length, nibIdle_length, upTo_length, List.length_map, List.length_mapIdx, List.length_replicate]) | (fail_if_no_progress beta_reduce) | (fail_if_no_progress dsimp only) | split | apply And.intro)

theorem Kept.learnEdge {o : State} (t : Tb) (s : State) (h0 : Kept o s) : Kept o (State.learnEdge t s) := by
  unfold Sys2Proof.Machine.State.learnEdge
  dsimp -failIfUnchanged only
  with_reducible repeat' (first | assumption | (intro _) | apply Kept.ite | apply Kept.ite2 | apply Kept.foldl | apply Kept.foldl2 | apply Kept.kept | apply Kept.toothTrace | apply h0 | simp only [Kept.mk_iff] | apply Kept.of | apply Kept.with_whl | apply Kept.whl | apply Whl.shaped_camK | (simp only [Whl.shaped_mk, setAt_length, modAt_length, unsettleIf_length, cmpSet_length, nibIdle_length, upTo_length, List.length_map, List.length_mapIdx, List.length_replicate]) | (fail_if_no_progress beta_reduce) | (fail_if_no_progress dsimp only) | split | apply And.intro)

theorem Kept.take {o : State} (c : EdgeClass) (r : Nat) (interval : Nat) (t : Tb) (s : State) (h0 :
    Kept o s) : Kept o (State.take c r interval t s) := by
  unfold Sys2Proof.Machine.State.take
  dsimp -failIfUnchanged only
  with_reducible repeat' (first | assumption | (intro _) | apply Kept.ite | apply Kept.ite2 | apply Kept.foldl | apply Kept.foldl2 | apply Kept.count | apply Kept.toothTrace | apply Kept.accept | apply Kept.seekEdge | apply h0 | simp only [Kept.mk_iff] | apply Kept.of | apply Kept.with_whl | apply Kept.whl | apply Whl.shaped_camK | (simp only [Whl.shaped_mk, setAt_length, modAt_length, unsettleIf_length, cmpSet_length, nibIdle_length, upTo_length, List.length_map, List.length_mapIdx, List.length_replicate]) | (fail_if_no_progress beta_reduce) | (fail_if_no_progress dsimp only) | split | apply And.intro)

theorem Kept.classify {o : State} (t : Tb) (s : State) (h0 : Kept o s) : Kept o (State.classify t s) := by
  unfold Sys2Proof.Machine.State.classify
  dsimp -failIfUnchanged only
  with_reducible repeat' (first | assumption | (intro _) | apply Kept.ite | apply Kept.ite2 | apply Kept.foldl | apply Kept.foldl2 | apply Kept.take | apply h0 | (fail_if_no_progress beta_reduce) | (fail_if_no_progress dsimp only) | split | apply And.intro)

theorem Kept.confirm {o : State} (pv : Prov) (s : State) (h0 : Kept o s) : Kept o (State.confirm pv s) := by
  unfold Sys2Proof.Machine.State.confirm
  dsimp -failIfUnchanged only
  with_reducible repeat' (first | assumption | (intro _) | apply Kept.ite | apply Kept.ite2 | apply Kept.foldl | apply Kept.foldl2 | apply Kept.accept | apply Kept.toothTrace | apply Kept.seekEdge | apply h0 | simp only [Kept.mk_iff] | apply Kept.of | apply Kept.with_whl | apply Kept.whl | apply Whl.shaped_camK | (simp only [Whl.shaped_mk, setAt_length, modAt_length, unsettleIf_length, cmpSet_length, nibIdle_length, upTo_length, List.length_map, List.length_mapIdx, List.length_replicate]) | (fail_if_no_progress beta_reduce) | (fail_if_no_progress dsimp only) | split | apply And.intro)

theorem Kept.settle {o : State} (pv : Prov) (t : Tb) (s : State) (h0 : Kept o s) : Kept o (State.settle pv t s) := by
  unfold Sys2Proof.Machine.State.settle
  dsimp -failIfUnchanged only
  with_reducible repeat' (first | assumption | (intro _) | apply Kept.ite | apply Kept.ite2 | apply Kept.foldl | apply Kept.foldl2 | apply Kept.count | apply Kept.toothTrace | apply Kept.confirm | apply Kept.sync | apply Kept.learnEdge | apply Kept.classify | apply Kept.take | apply h0 | simp only [Kept.mk_iff] | apply Kept.of | apply Kept.with_whl | apply Kept.whl | apply Whl.shaped_camK | (simp only [Whl.shaped_mk, setAt_length, modAt_length, unsettleIf_length, cmpSet_length, nibIdle_length, upTo_length, List.length_map, List.length_mapIdx, List.length_replicate]) | (fail_if_no_progress beta_reduce) | (fail_if_no_progress dsimp only) | split | apply And.intro)

theorem Kept.exactEdge {o : State} (t : Tb) (s : State) (h0 : Kept o s) : Kept o (State.exactEdge t s) := by
  unfold Sys2Proof.Machine.State.exactEdge
  dsimp -failIfUnchanged only
  with_reducible repeat' (first | assumption | (intro _) | apply Kept.ite | apply Kept.ite2 | apply Kept.foldl | apply Kept.foldl2 | apply Kept.sync | apply Kept.seekFrom | apply Kept.toothTrace | apply Kept.learnEdge | apply Kept.settle | apply Kept.classify | apply h0 | (fail_if_no_progress beta_reduce) | (fail_if_no_progress dsimp only) | split | apply And.intro)

theorem Kept.crank {o : State} (stamp : Tb) (width peak : Nat) (s : State) (h0 : Kept o s) : Kept o (State.crank stamp width peak s) := by
  unfold Sys2Proof.Machine.State.crank
  dsimp -failIfUnchanged only
  with_reducible repeat' (first | assumption | (intro _) | apply Kept.ite | apply Kept.ite2 | apply Kept.foldl | apply Kept.foldl2 | apply Kept.count | apply Kept.exactEdge | apply h0 | simp only [Kept.mk_iff] | apply Kept.of | apply Kept.with_whl | apply Kept.whl | apply Whl.shaped_camK | (simp only [Whl.shaped_mk, setAt_length, modAt_length, unsettleIf_length, cmpSet_length, nibIdle_length, upTo_length, List.length_map, List.length_mapIdx, List.length_replicate]) | (fail_if_no_progress beta_reduce) | (fail_if_no_progress dsimp only) | split | apply And.intro)

theorem Kept.coarse {o : State} (s : State) (h0 : Kept o s) : Kept o (State.coarse s) := by
  unfold Sys2Proof.Machine.State.coarse
  dsimp -failIfUnchanged only
  with_reducible repeat' (first | assumption | (intro _) | apply Kept.ite | apply Kept.ite2 | apply Kept.foldl | apply Kept.foldl2 | apply Kept.set | apply Kept.count | apply Kept.trace | apply h0 | simp only [Kept.mk_iff] | apply Kept.of | apply Kept.with_whl | apply Kept.whl | apply Whl.shaped_camK | (simp only [Whl.shaped_mk, setAt_length, modAt_length, unsettleIf_length, cmpSet_length, nibIdle_length, upTo_length, List.length_map, List.length_mapIdx, List.length_replicate]) | (fail_if_no_progress beta_reduce) | (fail_if_no_progress dsimp only) | split | apply And.intro)

theorem Kept.refEdge {o : State} (t : Tb) (s : State) (h0 : Kept o s) : Kept o (State.refEdge t s) := by
  unfold Sys2Proof.Machine.State.refEdge
  dsimp -failIfUnchanged only
  with_reducible repeat' (first | assumption | (intro _) | apply Kept.ite | apply Kept.ite2 | apply Kept.foldl | apply Kept.foldl2 | apply Kept.sync | apply h0 | simp only [Kept.mk_iff] | apply Kept.of | apply Kept.with_whl | apply Kept.whl | apply Whl.shaped_camK | (simp only [Whl.shaped_mk, setAt_length, modAt_length, unsettleIf_length, cmpSet_length, nibIdle_length, upTo_length, List.length_map, List.length_mapIdx, List.length_replicate]) | (fail_if_no_progress beta_reduce) | (fail_if_no_progress dsimp only) | split | apply And.intro)

theorem Kept.cam {o : State} (n : Nat) (falling : Bool) (stamp : Tb) (width peak : Nat) (s : State) (h0 :
    Kept o s) : Kept o (State.cam n falling stamp width peak s) := by
  unfold Sys2Proof.Machine.State.cam
  dsimp -failIfUnchanged only
  with_reducible repeat' (first | assumption | (intro _) | apply Kept.ite | apply Kept.ite2 | apply Kept.foldl | apply Kept.foldl2 | apply Kept.putWord | apply Kept.refEdge | apply h0 | simp only [Kept.mk_iff] | apply Kept.of | apply Kept.with_whl | apply Kept.whl | apply Whl.shaped_camK | (simp only [Whl.shaped_mk, setAt_length, modAt_length, unsettleIf_length, cmpSet_length, nibIdle_length, upTo_length, List.length_map, List.length_mapIdx, List.length_replicate]) | (fail_if_no_progress beta_reduce) | (fail_if_no_progress dsimp only) | split | apply And.intro)

theorem Kept.doStall {o : State} (s : State) (h0 : Kept o s) : Kept o (State.doStall s) := by
  unfold Sys2Proof.Machine.State.doStall
  dsimp -failIfUnchanged only
  with_reducible repeat' (first | assumption | (intro _) | apply Kept.ite | apply Kept.ite2 | apply Kept.foldl | apply Kept.foldl2 | apply Kept.sync | apply Kept.coarse | apply h0 | simp only [Kept.mk_iff] | apply Kept.of | apply Kept.with_whl | apply Kept.whl | apply Whl.shaped_camK | (simp only [Whl.shaped_mk, setAt_length, modAt_length, unsettleIf_length, cmpSet_length, nibIdle_length, upTo_length, List.length_map, List.length_mapIdx, List.length_replicate]) | (fail_if_no_progress beta_reduce) | (fail_if_no_progress dsimp only) | split | apply And.intro)

theorem Kept.syncResetNow {o : State} (s : State) (h0 : Kept o s) : Kept o (State.syncResetNow s) := by
  unfold Sys2Proof.Machine.State.syncResetNow
  dsimp -failIfUnchanged only
  with_reducible repeat' (first | assumption | (intro _) | apply Kept.ite | apply Kept.ite2 | apply Kept.foldl | apply Kept.foldl2 | apply Kept.sync | apply Kept.seekFrom | apply h0 | (fail_if_no_progress beta_reduce) | (fail_if_no_progress dsimp only) | split | apply And.intro)

theorem Kept.syncResetWrite {o : State} (p : Port) (v : Word) (s : State) (h0 : Kept o s) : Kept o (State.syncResetWrite p v s) := by
  unfold Sys2Proof.Machine.State.syncResetWrite
  dsimp -failIfUnchanged only
  with_reducible repeat' (first | assumption | (intro _) | apply Kept.ite | apply Kept.ite2 | apply Kept.foldl | apply Kept.foldl2 | apply Kept.busWrite | apply Kept.syncResetNow | apply h0 | (fail_if_no_progress beta_reduce) | (fail_if_no_progress dsimp only) | split | apply And.intro)

theorem Kept.terrAccess {o : State} (p : Port) (w : Option Word) (s : State) (h0 : Kept o s) : Kept o (State.terrAccess p w s) := by
  unfold Sys2Proof.Machine.State.terrAccess
  dsimp -failIfUnchanged only
  with_reducible repeat' (first | assumption | (intro _) | apply Kept.ite | apply Kept.ite2 | apply Kept.foldl | apply Kept.foldl2 | apply Kept.answer | apply Kept.putBoth | apply Kept.putWord | apply Kept.deny | apply Kept.set | apply h0 | (fail_if_no_progress beta_reduce) | (fail_if_no_progress dsimp only) | split | apply And.intro)

theorem Kept.clearTable {o : State} (lo n : Nat) (role : Nat) (s : State) (h0 : Kept o s) : Kept o (clearTable lo n role s) := by
  unfold Sys2Proof.Machine.clearTable
  dsimp -failIfUnchanged only
  with_reducible repeat' (first | assumption | (intro _) | apply Kept.ite | apply Kept.ite2 | apply Kept.foldl | apply Kept.foldl2 | apply Kept.noteHost | apply Kept.putWord | apply Kept.putShadow | apply Kept.markDirty | apply h0 | (fail_if_no_progress beta_reduce) | (fail_if_no_progress dsimp only) | split | apply And.intro)

theorem Kept.clearTerrNow {o : State} (role : Nat) (s : State) (h0 : Kept o s) : Kept o (State.clearTerrNow role s) := by
  unfold Sys2Proof.Machine.State.clearTerrNow
  dsimp -failIfUnchanged only
  with_reducible repeat' (first | assumption | (intro _) | apply Kept.ite | apply Kept.ite2 | apply Kept.foldl | apply Kept.foldl2 | apply Kept.clearTable | apply Kept.set | apply h0 | (fail_if_no_progress beta_reduce) | (fail_if_no_progress dsimp only) | split | apply And.intro)

theorem Kept.clearTorsNow {o : State} (role : Nat) (s : State) (h0 : Kept o s) : Kept o (State.clearTorsNow role s) := by
  unfold Sys2Proof.Machine.State.clearTorsNow
  dsimp -failIfUnchanged only
  with_reducible repeat' (first | assumption | (intro _) | apply Kept.ite | apply Kept.ite2 | apply Kept.foldl | apply Kept.foldl2 | apply Kept.clearTable | apply h0 | (fail_if_no_progress beta_reduce) | (fail_if_no_progress dsimp only) | split | apply And.intro)

theorem Kept.errRestartNow {o : State} (s : State) (h0 : Kept o s) : Kept o (State.errRestartNow s) := by
  unfold Sys2Proof.Machine.State.errRestartNow
  dsimp -failIfUnchanged only
  with_reducible repeat' (first | assumption | (intro _) | apply Kept.ite | apply Kept.ite2 | apply Kept.foldl | apply Kept.foldl2 | apply Kept.putWord | apply h0 | (fail_if_no_progress beta_reduce) | (fail_if_no_progress dsimp only) | split | apply And.intro)

theorem Kept.aclkWrite {o : State} (p : Port) (v : Word) (s : State) (h0 : Kept o s) : Kept o (State.aclkWrite p v s) := by
  unfold Sys2Proof.Machine.State.aclkWrite
  dsimp -failIfUnchanged only
  with_reducible repeat' (first | assumption | (intro _) | apply Kept.ite | apply Kept.ite2 | apply Kept.foldl | apply Kept.foldl2 | apply Kept.busWrite | apply Kept.errRestartNow | apply Kept.clearTerrNow | apply Kept.clearTorsNow | apply h0 | simp only [Kept.mk_iff] | apply Kept.of | (fail_if_no_progress beta_reduce) | (fail_if_no_progress dsimp only) | split | apply And.intro)

theorem Kept.angleRead {o : State} (p : Port) (s : State) (h0 : Kept o s) : Kept o (State.angleRead p s) := by
  unfold Sys2Proof.Machine.State.angleRead
  dsimp -failIfUnchanged only
  with_reducible repeat' (first | assumption | (intro _) | apply Kept.ite | apply Kept.ite2 | apply Kept.foldl | apply Kept.foldl2 | apply Kept.onRead | apply Kept.answer | apply h0 | simp only [Kept.mk_iff] | apply Kept.of | (fail_if_no_progress beta_reduce) | (fail_if_no_progress dsimp only) | split | apply And.intro)

theorem Kept.stampRead {o : State} (p : Port) (s : State) (h0 : Kept o s) : Kept o (State.stampRead p s) := by
  unfold Sys2Proof.Machine.State.stampRead
  dsimp -failIfUnchanged only
  with_reducible repeat' (first | assumption | (intro _) | apply Kept.ite | apply Kept.ite2 | apply Kept.foldl | apply Kept.foldl2 | apply Kept.onRead | apply Kept.answer | apply h0 | simp only [Kept.mk_iff] | apply Kept.of | apply Kept.with_whl | apply Kept.whl | apply Whl.shaped_camK | (simp only [Whl.shaped_mk, setAt_length, modAt_length, unsettleIf_length, cmpSet_length, nibIdle_length, upTo_length, List.length_map, List.length_mapIdx, List.length_replicate]) | (fail_if_no_progress beta_reduce) | (fail_if_no_progress dsimp only) | split | apply And.intro)

/-! Slur -/

theorem Kept.slurSync {o : State} (quiet : Bool) (dst : Sync) (t : Tb) (s : State) (h0 : Kept o s) : Kept o (State.slurSync quiet dst t s) := by
  unfold Sys2Proof.Machine.State.slurSync
  dsimp -failIfUnchanged only
  with_reducible repeat' (first | assumption | (intro _) | apply Kept.ite | apply Kept.ite2 | apply Kept.foldl | apply Kept.foldl2 | apply Kept.draw | apply Kept.syncAs | apply h0 | (fail_if_no_progress beta_reduce) | (fail_if_no_progress dsimp only) | split | apply And.intro)

theorem Kept.framePitch {o : State} (f : AngleFrame) (s : State) (h0 : Kept o s) : Kept o (State.framePitch f s) := by
  unfold Sys2Proof.Machine.State.framePitch
  dsimp -failIfUnchanged only
  with_reducible repeat' (first | assumption | (intro _) | apply Kept.ite | apply Kept.ite2 | apply Kept.foldl | apply Kept.foldl2 | apply Kept.endClamp | apply Kept.moveClock | apply h0 | simp only [Kept.mk_iff] | apply Kept.of | (fail_if_no_progress beta_reduce) | (fail_if_no_progress dsimp only) | split | apply And.intro)

theorem Kept.framePos {o : State} (f : AngleFrame) (s : State) (h0 : Kept o s) : Kept o (State.framePos f s) := by
  unfold Sys2Proof.Machine.State.framePos
  dsimp -failIfUnchanged only
  with_reducible repeat' (first | assumption | (intro _) | apply Kept.ite | apply Kept.ite2 | apply Kept.foldl | apply Kept.foldl2 | apply h0 | simp only [Kept.mk_iff] | apply Kept.of | apply Kept.with_whl | apply Kept.whl | apply Whl.shaped_camK | (simp only [Whl.shaped_mk, setAt_length, modAt_length, unsettleIf_length, cmpSet_length, nibIdle_length, upTo_length, List.length_map, List.length_mapIdx, List.length_replicate]) | (fail_if_no_progress beta_reduce) | (fail_if_no_progress dsimp only) | split | apply And.intro)

theorem Kept.frameEdge {o : State} (f : AngleFrame) (s : State) (h0 : Kept o s) : Kept o (State.frameEdge f s) := by
  unfold Sys2Proof.Machine.State.frameEdge
  dsimp -failIfUnchanged only
  with_reducible repeat' (first | assumption | (intro _) | apply Kept.ite | apply Kept.ite2 | apply Kept.foldl | apply Kept.foldl2 | apply Kept.phaseDecided | apply Kept.moveClock | apply Kept.framePos | apply Kept.set | apply Kept.count | apply Kept.framePitch | apply Kept.backStep | apply Kept.slurSync | apply Kept.sync | apply Kept.edgeWork | apply h0 | simp only [Kept.mk_iff] | apply Kept.of | apply Kept.with_whl | apply Kept.whl | apply Whl.shaped_camK | (simp only [Whl.shaped_mk, setAt_length, modAt_length, unsettleIf_length, cmpSet_length, nibIdle_length, upTo_length, List.length_map, List.length_mapIdx, List.length_replicate]) | (fail_if_no_progress beta_reduce) | (fail_if_no_progress dsimp only) | split | apply And.intro)

theorem Kept.frameStart {o : State} (f : AngleFrame) (s : State) (h0 : Kept o s) : Kept o (State.frameStart f s) := by
  unfold Sys2Proof.Machine.State.frameStart
  dsimp -failIfUnchanged only
  with_reducible repeat' (first | assumption | (intro _) | apply Kept.ite | apply Kept.ite2 | apply Kept.foldl | apply Kept.foldl2 | apply Kept.framePos | apply Kept.framePitch | apply Kept.slurSync | apply Kept.sync | apply Kept.edgeWork | apply h0 | simp only [Kept.mk_iff] | apply Kept.of | apply Kept.with_whl | apply Kept.whl | apply Whl.shaped_camK | (simp only [Whl.shaped_mk, setAt_length, modAt_length, unsettleIf_length, cmpSet_length, nibIdle_length, upTo_length, List.length_map, List.length_mapIdx, List.length_replicate]) | (fail_if_no_progress beta_reduce) | (fail_if_no_progress dsimp only) | split | apply And.intro)

theorem Kept.frameActs {o : State} (f : AngleFrame) (s : State) (h0 : Kept o s) : Kept o (State.frameActs f s) := by
  unfold Sys2Proof.Machine.State.frameActs
  dsimp -failIfUnchanged only
  with_reducible repeat' (first | assumption | (intro _) | apply Kept.ite | apply Kept.ite2 | apply Kept.foldl | apply Kept.foldl2 | apply Kept.sync | apply Kept.frameEdge | apply Kept.frameStart | apply Kept.framePos | apply Kept.slurSync | apply h0 | (fail_if_no_progress beta_reduce) | (fail_if_no_progress dsimp only) | split | apply And.intro)

theorem Kept.armedAuto {o : State} (old : Mode) (s : State) (h0 : Kept o s) : Kept o (State.armedAuto old s) := by
  unfold Sys2Proof.Machine.State.armedAuto
  dsimp -failIfUnchanged only
  with_reducible repeat' (first | assumption | (intro _) | apply Kept.ite | apply Kept.ite2 | apply Kept.foldl | apply Kept.foldl2 | apply Kept.tmrAuto | apply Kept.nibAuto | apply h0 | (fail_if_no_progress beta_reduce) | (fail_if_no_progress dsimp only) | split | apply And.intro)

theorem Kept.frameSleep {o : State} (s : State) (h0 : Kept o s) : Kept o (State.frameSleep s) := by
  unfold Sys2Proof.Machine.State.frameSleep
  dsimp -failIfUnchanged only
  with_reducible repeat' (first | assumption | (intro _) | apply Kept.ite | apply Kept.ite2 | apply Kept.foldl | apply Kept.foldl2 | apply Kept.sync | apply Kept.followSync | apply Kept.slurSync | apply Kept.armedAuto | apply h0 | simp only [Kept.mk_iff] | apply Kept.of | apply Kept.with_whl | apply Kept.whl | apply Whl.shaped_camK | (simp only [Whl.shaped_mk, setAt_length, modAt_length, unsettleIf_length, cmpSet_length, nibIdle_length, upTo_length, List.length_map, List.length_mapIdx, List.length_replicate]) | (fail_if_no_progress beta_reduce) | (fail_if_no_progress dsimp only) | split | apply And.intro)

theorem Kept.frameIn {o : State} (f : AngleFrame) (s : State) (h0 : Kept o s) : Kept o (State.frameIn f s) := by
  unfold Sys2Proof.Machine.State.frameIn
  dsimp -failIfUnchanged only
  with_reducible repeat' (first | assumption | (intro _) | apply Kept.ite | apply Kept.ite2 | apply Kept.foldl | apply Kept.foldl2 | apply Kept.frameSleep | apply Kept.frameActs | apply Kept.armedIf | apply h0 | simp only [Kept.mk_iff] | apply Kept.of | (fail_if_no_progress beta_reduce) | (fail_if_no_progress dsimp only) | split | apply And.intro)

theorem Kept.slurLost {o : State} (s : State) (h0 : Kept o s) : Kept o (State.slurLost s) := by
  unfold Sys2Proof.Machine.State.slurLost
  dsimp -failIfUnchanged only
  with_reducible repeat' (first | assumption | (intro _) | apply Kept.ite | apply Kept.ite2 | apply Kept.foldl | apply Kept.foldl2 | apply Kept.count | apply Kept.sync | apply Kept.slurSync | apply Kept.raise | apply Kept.alarm | apply Kept.beginTraining | apply h0 | simp only [Kept.mk_iff] | apply Kept.of | (fail_if_no_progress beta_reduce) | (fail_if_no_progress dsimp only) | split | apply And.intro)

theorem Kept.retrainNow {o : State} (s : State) (h0 : Kept o s) : Kept o (State.retrainNow s) := by
  unfold Sys2Proof.Machine.State.retrainNow
  dsimp -failIfUnchanged only
  with_reducible repeat' (first | assumption | (intro _) | apply Kept.ite | apply Kept.ite2 | apply Kept.foldl | apply Kept.foldl2 | apply Kept.slurLost | apply Kept.beginTraining | apply h0 | (fail_if_no_progress beta_reduce) | (fail_if_no_progress dsimp only) | split | apply And.intro)

theorem Kept.retrainWrite {o : State} (p : Port) (v : Word) (s : State) (h0 : Kept o s) : Kept o (State.retrainWrite p v s) := by
  unfold Sys2Proof.Machine.State.retrainWrite
  dsimp -failIfUnchanged only
  with_reducible repeat' (first | assumption | (intro _) | apply Kept.ite | apply Kept.ite2 | apply Kept.foldl | apply Kept.foldl2 | apply Kept.onWrite | apply Kept.retrainNow | apply h0 | (fail_if_no_progress beta_reduce) | (fail_if_no_progress dsimp only) | split | apply And.intro)

theorem Kept.slurStall {o : State} (s : State) (h0 : Kept o s) : Kept o (State.slurStall s) := by
  unfold Sys2Proof.Machine.State.slurStall
  dsimp -failIfUnchanged only
  with_reducible repeat' (first | assumption | (intro _) | apply Kept.ite | apply Kept.ite2 | apply Kept.foldl | apply Kept.foldl2 | apply Kept.sync | apply h0 | simp only [Kept.mk_iff] | apply Kept.of | apply Kept.with_whl | apply Kept.whl | apply Whl.shaped_camK | (simp only [Whl.shaped_mk, setAt_length, modAt_length, unsettleIf_length, cmpSet_length, nibIdle_length, upTo_length, List.length_map, List.length_mapIdx, List.length_replicate]) | (fail_if_no_progress beta_reduce) | (fail_if_no_progress dsimp only) | split | apply And.intro)

theorem Kept.hopDone {o : State} (ended : Bool) (s : State) (h0 : Kept o s) : Kept o (State.hopDone ended s) := by
  unfold Sys2Proof.Machine.State.hopDone
  dsimp -failIfUnchanged only
  with_reducible repeat' (first | assumption | (intro _) | apply Kept.ite | apply Kept.ite2 | apply Kept.foldl | apply Kept.foldl2 | apply Kept.draw | apply Kept.count | apply h0 | simp only [Kept.mk_iff] | apply Kept.of | (fail_if_no_progress beta_reduce) | (fail_if_no_progress dsimp only) | split | apply And.intro)

theorem Kept.hopTaken {o : State} (f : TrainFrame) (s : State) (h0 : Kept o s) : Kept o (State.hopTaken f s) := by
  unfold Sys2Proof.Machine.State.hopTaken
  dsimp -failIfUnchanged only
  with_reducible repeat' (first | assumption | (intro _) | apply Kept.ite | apply Kept.ite2 | apply Kept.foldl | apply Kept.foldl2 | apply Kept.raise | apply Kept.assign | apply h0 | simp only [Kept.mk_iff] | apply Kept.of | apply Kept.with_clk | apply Kept.clk | apply Clk.shaped_qrun | apply Clk.shaped_qidle | (simp only [Clk.shaped_mk, setAt_length, modAt_length, unsettleIf_length, cmpSet_length, nibIdle_length, upTo_length, List.length_map, List.length_mapIdx, List.length_replicate]) | (fail_if_no_progress beta_reduce) | (fail_if_no_progress dsimp only) | split | apply And.intro)

theorem Kept.trainStep {o : State} (s : State) (h0 : Kept o s) : Kept o (State.trainStep s) := by
  unfold Sys2Proof.Machine.State.trainStep
  dsimp -failIfUnchanged only
  with_reducible repeat' (first | assumption | (intro _) | apply Kept.ite | apply Kept.ite2 | apply Kept.foldl | apply Kept.foldl2 | apply Kept.hopDone | apply Kept.hopTaken | apply h0 | simp only [Kept.mk_iff] | apply Kept.of | (fail_if_no_progress beta_reduce) | (fail_if_no_progress dsimp only) | split | apply And.intro)

theorem Kept.trainIn {o : State} (f : TrainFrame) (arrival : Tb) (s : State) (h0 : Kept o s) : Kept o (State.trainIn f arrival s) := by
  unfold Sys2Proof.Machine.State.trainIn
  dsimp -failIfUnchanged only
  with_reducible repeat' (first | assumption | (intro _) | apply Kept.ite | apply Kept.ite2 | apply Kept.foldl | apply Kept.foldl2 | apply Kept.beginTraining | apply Kept.assign | apply h0 | simp only [Kept.mk_iff] | apply Kept.of | (fail_if_no_progress beta_reduce) | (fail_if_no_progress dsimp only) | split | apply And.intro)

theorem Kept.echo {o : State} (rt : Option Nat) (s : State) (h0 : Kept o s) : Kept o (State.echo rt s) := by
  unfold Sys2Proof.Machine.State.echo
  dsimp -failIfUnchanged only
  with_reducible repeat' (first | assumption | (intro _) | apply Kept.ite | apply Kept.ite2 | apply Kept.foldl | apply Kept.foldl2 | apply Kept.hopDone | apply h0 | simp only [Kept.mk_iff] | apply Kept.of | (fail_if_no_progress beta_reduce) | (fail_if_no_progress dsimp only) | split | apply And.intro)

theorem Kept.relaunch {o : State} (s : State) (h0 : Kept o s) : Kept o (State.relaunch s) := by
  unfold Sys2Proof.Machine.State.relaunch
  dsimp -failIfUnchanged only
  with_reducible repeat' (first | assumption | (intro _) | apply Kept.ite | apply Kept.ite2 | apply Kept.foldl | apply Kept.foldl2 | apply h0 | simp only [Kept.mk_iff] | apply Kept.of | (fail_if_no_progress beta_reduce) | (fail_if_no_progress dsimp only) | split | apply And.intro)

theorem Kept.trainFail {o : State} (s : State) (h0 : Kept o s) : Kept o (State.trainFail s) := by
  unfold Sys2Proof.Machine.State.trainFail
  dsimp -failIfUnchanged only
  with_reducible repeat' (first | assumption | (intro _) | apply Kept.ite | apply Kept.ite2 | apply Kept.foldl | apply Kept.foldl2 | apply Kept.alarm | apply h0 | simp only [Kept.mk_iff] | apply Kept.of | (fail_if_no_progress beta_reduce) | (fail_if_no_progress dsimp only) | split | apply And.intro)

/-! Boot -/

theorem Kept.enterArmed {o : State} (s : State) (h0 : Kept o s) : Kept o (State.enterArmed s) := by
  unfold Sys2Proof.Machine.State.enterArmed
  dsimp -failIfUnchanged only
  with_reducible repeat' (first | assumption | (intro _) | apply Kept.ite | apply Kept.ite2 | apply Kept.foldl | apply Kept.foldl2 | apply Kept.setMode | apply Kept.boostBegin | apply Kept.boostFresh | apply Kept.timeWinsOpen | apply Kept.grdEnter | apply Kept.armedStart | apply Kept.safestop | apply h0 | simp only [Kept.mk_iff] | apply Kept.of | apply Kept.with_hif | apply Kept.hif | apply Hif.shaped_rings | apply Hif.shaped_vecPend | apply Hif.shaped_cqFull | (simp only [Hif.shaped_mk, setAt_length, modAt_length, unsettleIf_length, cmpSet_length, nibIdle_length, upTo_length, List.length_map, List.length_mapIdx, List.length_replicate]) | (fail_if_no_progress beta_reduce) | (fail_if_no_progress dsimp only) | split | apply And.intro)

theorem Kept.sleepBegin {o : State} (vigil : Bool) (s : State) (h0 : Kept o s) : Kept o (State.sleepBegin vigil s) := by
  unfold Sys2Proof.Machine.State.sleepBegin
  dsimp -failIfUnchanged only
  with_reducible repeat' (first | assumption | (intro _) | apply Kept.ite | apply Kept.ite2 | apply Kept.foldl | apply Kept.foldl2 | apply Kept.winsLeave | apply h0 | simp only [Kept.mk_iff] | apply Kept.of | apply Kept.with_grds | apply Kept.grds | apply GrdsOk.modAt | apply GrdsOk.map | apply GrdsOk.mapIdx | apply Grd.shaped_held8 | (simp only [Grd.shaped_mk, setAt_length, modAt_length, unsettleIf_length, cmpSet_length, nibIdle_length, upTo_length, List.length_map, List.length_mapIdx, List.length_replicate]) | (fail_if_no_progress beta_reduce) | (fail_if_no_progress dsimp only) | split | apply And.intro)

theorem Kept.sleepCancel {o : State} (s : State) (h0 : Kept o s) : Kept o (State.sleepCancel s) := by
  unfold Sys2Proof.Machine.State.sleepCancel
  dsimp -failIfUnchanged only
  with_reducible repeat' (first | assumption | (intro _) | apply Kept.ite | apply Kept.ite2 | apply Kept.foldl | apply Kept.foldl2 | apply Kept.timeWinsOpen | apply Kept.writeStatus | apply h0 | simp only [Kept.mk_iff] | apply Kept.of | (fail_if_no_progress beta_reduce) | (fail_if_no_progress dsimp only) | split | apply And.intro)

theorem Kept.asleepNow {o : State} (vigil : Bool) (s : State) (h0 : Kept o s) : Kept o (State.asleepNow vigil s) := by
  unfold Sys2Proof.Machine.State.asleepNow
  dsimp -failIfUnchanged only
  with_reducible repeat' (first | assumption | (intro _) | apply Kept.ite | apply Kept.ite2 | apply Kept.foldl | apply Kept.foldl2 | apply Kept.leaveArmed | apply Kept.killAll | apply Kept.grdSleep | apply Kept.tmrSleep | apply Kept.evcSleep | apply Kept.nibSleep | apply Kept.dropSession | apply Kept.setMode | apply h0 | simp only [Kept.mk_iff] | apply Kept.of | apply Kept.with_clk | apply Kept.with_regs | apply Kept.with_hif | apply Kept.with_adc | constructor | apply Kept.part | apply Kept.pending | apply Kept.regs | apply Kept.clk | apply Kept.hif | apply Kept.evc | apply Kept.sec | apply Kept.whl | apply Kept.sch | apply Kept.banks | apply Kept.quads | apply Kept.ink | apply Kept.grds | apply Kept.adc | apply Kept.cmps | apply Kept.tmrs | apply Kept.nibs | apply RegsKept.image | apply RegsKept.imgKind | apply RegsKept.live | apply RegsKept.shadow | apply RegsKept.imageWf | apply Clk.shaped_qrun | apply Clk.shaped_qidle | apply Hif.shaped_rings | apply Hif.shaped_vecPend | apply Hif.shaped_cqFull | apply Adc.shaped_convs | (simp only [Adc.shaped_mk, Clk.shaped_mk, Hif.shaped_mk, RegsKept_mk, setAt_length, modAt_length, unsettleIf_length, cmpSet_length, nibIdle_length, upTo_length, List.length_map, List.length_mapIdx, List.length_replicate]) | (fail_if_no_progress beta_reduce) | (fail_if_no_progress dsimp only) | split | apply And.intro)

theorem Kept.warmReset {o : State} (c step : Nat) (s : State) (h0 : Kept o s) : Kept o (State.warmReset c step s) := by
  have h := Kept.mramOnly s h0
  unfold State.warmReset
  refine Kept.setBit _ _ _ ?_
  exact ⟨h.part, h.pending, ⟨h.regs.1, h.regs.2.1, WMap.filter_wf h0.regs.2.2.1, rfl, h0.regs.2.2.2.2⟩, ⟨rfl, rfl⟩, ⟨rfl, rfl, rfl⟩,
    ⟨rfl, rfl, rfl, h0.evc.2.2.2⟩, h.sec, rfl, (List.length_map _).trans h0.sch, BanksOk.map h0.banks (fun _ _ => rfl), h.quads, h.ink,
    GrdsOk.map h0.grds (fun _ _ => rfl), h.adc, h.cmps, h.tmrs, h.nibs⟩

theorem Kept.wakeBoot {o : State} (s : State) (h0 : Kept o s) : Kept o (State.wakeBoot s) := by
  have h := Kept.warmReset 4 1 s h0
  unfold State.wakeBoot
  exact ⟨h.part, h.pending, ⟨h.regs.1, h.regs.2.1, WMap.put_wf _ _ _ (WMap.filter_wf h0.regs.2.2.1), h.regs.2.2.2.1, h.regs.2.2.2.2⟩,
    h.clk, ⟨h0.hif.1, h0.hif.2.1, h0.hif.2.2⟩, h.evc, h.sec, h.whl, h.sch,
    h.banks, h.quads, h.ink, h0.grds, h.adc, h.cmps, h0.tmrs, h.nibs⟩

theorem Kept.passBegin {o : State} (boot : Bool) (s : State) (h0 : Kept o s) : Kept o (State.passBegin boot s) := by
  unfold Sys2Proof.Machine.State.passBegin
  dsimp -failIfUnchanged only
  with_reducible repeat' (first | assumption | (intro _) | apply Kept.ite | apply Kept.ite2 | apply Kept.foldl | apply Kept.foldl2 | apply h0 | simp only [Kept.mk_iff] | apply Kept.of | (fail_if_no_progress beta_reduce) | (fail_if_no_progress dsimp only) | split | apply And.intro)

theorem Kept.loadImage {o : State} (s : State) (h0 : Kept o s) : Kept o (State.loadImage s) := by
  unfold Sys2Proof.Machine.State.loadImage
  dsimp -failIfUnchanged only
  with_reducible repeat' (first | assumption | (intro _) | apply Kept.ite | apply Kept.ite2 | apply Kept.foldl | apply Kept.foldl2 | apply Kept.grdLive | apply Kept.nibMargins | apply Kept.levelsSettle | apply Kept.watchDev | apply Kept.logIdle | apply Kept.passBegin | apply h0 | simp only [Kept.mk_iff] | apply Kept.of | apply Kept.with_regs | apply Kept.with_ink | constructor | apply Kept.part | apply Kept.pending | apply Kept.regs | apply Kept.clk | apply Kept.hif | apply Kept.evc | apply Kept.sec | apply Kept.whl | apply Kept.sch | apply Kept.banks | apply Kept.quads | apply Kept.ink | apply Kept.grds | apply Kept.adc | apply Kept.cmps | apply Kept.tmrs | apply Kept.nibs | apply RegsKept.image | apply RegsKept.imgKind | apply RegsKept.live | apply RegsKept.shadow | apply RegsKept.imageWf | apply Ink.shaped_rails | apply loadWords_wf | (simp only [Ink.shaped_mk, RegsKept_mk, setAt_length, modAt_length, unsettleIf_length, cmpSet_length, nibIdle_length, upTo_length, List.length_map, List.length_mapIdx, List.length_replicate]) | (fail_if_no_progress beta_reduce) | (fail_if_no_progress dsimp only) | split | apply And.intro)

theorem Kept.bootEnd {o : State} (s : State) (h0 : Kept o s) : Kept o (State.bootEnd s) := by
  unfold Sys2Proof.Machine.State.bootEnd
  dsimp -failIfUnchanged only
  with_reducible repeat' (first | assumption | (intro _) | apply Kept.ite | apply Kept.ite2 | apply Kept.foldl | apply Kept.foldl2 | apply Kept.grdWake | apply Kept.setMode | apply Kept.enterArmed | apply Kept.asleepNow | apply h0 | simp only [Kept.mk_iff] | apply Kept.of | (fail_if_no_progress beta_reduce) | (fail_if_no_progress dsimp only) | split | apply And.intro)

theorem Kept.dieLoss {o : State} (s : State) (h0 : Kept o s) : Kept o (State.dieLoss s) := by
  unfold Sys2Proof.Machine.State.dieLoss
  dsimp -failIfUnchanged only
  with_reducible repeat' (first | assumption | (intro _) | apply Kept.ite | apply Kept.ite2 | apply Kept.foldl | apply Kept.foldl2 | apply Kept.alarm | apply Kept.killAll | apply Kept.safestop | apply h0 | simp only [Kept.mk_iff] | apply Kept.of | apply Kept.with_clk | apply Kept.clk | apply Clk.shaped_qrun | apply Clk.shaped_qidle | (simp only [Clk.shaped_mk, setAt_length, modAt_length, unsettleIf_length, cmpSet_length, nibIdle_length, upTo_length, List.length_map, List.length_mapIdx, List.length_replicate]) | (fail_if_no_progress beta_reduce) | (fail_if_no_progress dsimp only) | split | apply And.intro)

theorem Kept.dieBack {o : State} (s : State) (h0 : Kept o s) : Kept o (State.dieBack s) := by
  unfold Sys2Proof.Machine.State.dieBack
  dsimp -failIfUnchanged only
  with_reducible repeat' (first | assumption | (intro _) | apply Kept.ite | apply Kept.ite2 | apply Kept.foldl | apply Kept.foldl2 | apply Kept.safeActive | apply Kept.logIdle | apply h0 | simp only [Kept.mk_iff] | apply Kept.of | apply Kept.with_clk | apply Kept.clk | apply Clk.shaped_qrun | apply Clk.shaped_qidle | (simp only [Clk.shaped_mk, setAt_length, modAt_length, unsettleIf_length, cmpSet_length, nibIdle_length, upTo_length, List.length_map, List.length_mapIdx, List.length_replicate]) | (fail_if_no_progress beta_reduce) | (fail_if_no_progress dsimp only) | split | apply And.intro)

/-! Sorter -/

theorem Kept.admitNew {o : State} (src : Nat) (d : Descriptor) (count : Nat) (s : State) (h0 : Kept o s) : Kept o (State.admitNew src d count s) := by
  unfold Sys2Proof.Machine.State.admitNew
  dsimp -failIfUnchanged only
  with_reducible repeat' (first | assumption | (intro _) | apply Kept.ite | apply Kept.ite2 | apply Kept.foldl | apply Kept.foldl2 | apply Kept.count | apply Kept.watchStore | apply h0 | simp only [Kept.mk_iff] | apply Kept.of | apply Kept.with_sch | apply Kept.sch | apply Sch.shaped_chans | apply Kept.id | (simp only [Sch.shaped_mk, setAt_length, modAt_length, unsettleIf_length, cmpSet_length, nibIdle_length, upTo_length, List.length_map, List.length_mapIdx, List.length_replicate]) | (fail_if_no_progress beta_reduce) | (fail_if_no_progress dsimp only) | split | apply And.intro)

theorem Kept.reject {o : State} (src : Nat) (d : Descriptor) (code : Nat) (s : State) (h0 : Kept o s) : Kept o (State.reject src d code s) := by
  unfold Sys2Proof.Machine.State.reject
  dsimp -failIfUnchanged only
  with_reducible repeat' (first | assumption | (intro _) | apply Kept.ite | apply Kept.ite2 | apply Kept.foldl | apply Kept.foldl2 | apply Kept.short | apply Kept.count | apply h0 | (fail_if_no_progress beta_reduce) | (fail_if_no_progress dsimp only) | split | apply And.intro)

theorem Kept.cancelOp {o : State} (src : Nat) (d : Descriptor) (all : Bool) (s : State) (h0 : Kept o s) : Kept o (State.cancelOp src d all s) := by
  unfold Sys2Proof.Machine.State.cancelOp
  dsimp -failIfUnchanged only
  with_reducible repeat' (first | assumption | (intro _) | apply Kept.ite | apply Kept.ite2 | apply Kept.foldl | apply Kept.foldl2 | apply Kept.remove | apply Kept.short | apply Kept.reject | apply h0 | apply Kept.id | (fail_if_no_progress beta_reduce) | (fail_if_no_progress dsimp only) | split | apply And.intro)

theorem Kept.newOp {o : State} (src : Nat) (d : Descriptor) (s : State) (h0 : Kept o s) : Kept o (State.newOp src d s) := by
  unfold Sys2Proof.Machine.State.newOp
  dsimp -failIfUnchanged only
  with_reducible repeat' (first | assumption | (intro _) | apply Kept.ite | apply Kept.ite2 | apply Kept.foldl | apply Kept.foldl2 | apply Kept.reject | apply Kept.admitNew | apply h0 | (fail_if_no_progress beta_reduce) | (fail_if_no_progress dsimp only) | split | apply And.intro)

theorem Kept.replaceOp {o : State} (src : Nat) (d : Descriptor) (s : State) (h0 : Kept o s) : Kept o (State.replaceOp src d s) := by
  unfold Sys2Proof.Machine.State.replaceOp
  dsimp -failIfUnchanged only
  with_reducible repeat' (first | assumption | (intro _) | apply Kept.ite | apply Kept.ite2 | apply Kept.foldl | apply Kept.foldl2 | apply Kept.reject | apply Kept.remove | apply Kept.admitNew | apply h0 | apply Kept.id | (fail_if_no_progress beta_reduce) | (fail_if_no_progress dsimp only) | split | apply And.intro)

theorem Kept.submit {o : State} (src : Nat) (d : Descriptor) (s : State) (h0 : Kept o s) : Kept o (State.submit src d s) := by
  unfold Sys2Proof.Machine.State.submit
  dsimp -failIfUnchanged only
  with_reducible repeat' (first | assumption | (intro _) | apply Kept.ite | apply Kept.ite2 | apply Kept.foldl | apply Kept.foldl2 | apply Kept.newOp | apply Kept.replaceOp | apply Kept.cancelOp | apply h0 | (fail_if_no_progress beta_reduce) | (fail_if_no_progress dsimp only) | split | apply And.intro)

theorem Kept.arrive {o : State} (sq : Nat) (d : Descriptor) (s : State) (h0 : Kept o s) : Kept o (State.arrive sq d s) := by
  unfold Sys2Proof.Machine.State.arrive
  dsimp -failIfUnchanged only
  with_reducible repeat' (first | assumption | (intro _) | apply Kept.ite | apply Kept.ite2 | apply Kept.foldl | apply Kept.foldl2 | apply Kept.submit | apply Kept.advance | apply h0 | (fail_if_no_progress beta_reduce) | (fail_if_no_progress dsimp only) | split | apply And.intro)

/-! Modes -/

theorem Kept.exitSafestop {o : State} (role port : Nat) (s : State) (h0 : Kept o s) : Kept o (State.exitSafestop role port s) := by
  unfold Sys2Proof.Machine.State.exitSafestop
  dsimp -failIfUnchanged only
  with_reducible repeat' (first | assumption | (intro _) | apply Kept.ite | apply Kept.ite2 | apply Kept.foldl | apply Kept.foldl2 | apply Kept.journal | apply Kept.setMode | apply Kept.sync | apply Kept.boostBegin | apply Kept.boostFresh | apply Kept.logIdle | apply Kept.holdWaiting | apply Kept.armedIf | apply Kept.safestop | apply Kept.fallbackNow | apply h0 | (fail_if_no_progress beta_reduce) | (fail_if_no_progress dsimp only) | split | apply And.intro)

theorem Kept.maintExit {o : State} (p : Port) (s : State) (h0 : Kept o s) : Kept o (State.maintExit p s) := by
  unfold Sys2Proof.Machine.State.maintExit
  dsimp -failIfUnchanged only
  with_reducible repeat' (first | assumption | (intro _) | apply Kept.ite | apply Kept.ite2 | apply Kept.foldl | apply Kept.foldl2 | apply Kept.journal | apply Kept.warmReset | apply h0 | (fail_if_no_progress beta_reduce) | (fail_if_no_progress dsimp only) | split | apply And.intro)

theorem Kept.toSetup {o : State} (s : State) (h0 : Kept o s) : Kept o (State.toSetup s) := by
  unfold Sys2Proof.Machine.State.toSetup
  dsimp -failIfUnchanged only
  with_reducible repeat' (first | assumption | (intro _) | apply Kept.ite | apply Kept.ite2 | apply Kept.foldl | apply Kept.foldl2 | apply Kept.leaveArmed | apply Kept.winsLeave | apply Kept.setMode | apply h0 | simp only [Kept.mk_iff] | apply Kept.of | (fail_if_no_progress beta_reduce) | (fail_if_no_progress dsimp only) | split | apply And.intro)

theorem Kept.carryOut {o : State} (p : Port) (code : Nat) (s : State) (h0 : Kept o s) : Kept o (State.carryOut p code s) := by
  unfold Sys2Proof.Machine.State.carryOut
  dsimp -failIfUnchanged only
  with_reducible repeat' (first | assumption | (intro _) | apply Kept.ite | apply Kept.ite2 | apply Kept.foldl | apply Kept.foldl2 | apply Kept.sleepBegin | apply Kept.toSetup | apply Kept.maintExit | apply Kept.journal | apply Kept.setMode | apply Kept.enterArmed | apply Kept.safestop | apply Kept.exitSafestop | apply h0 | (fail_if_no_progress beta_reduce) | (fail_if_no_progress dsimp only) | split | apply And.intro)

theorem Kept.modeJudge {o : State} (p : Port) (code : Nat) (s : State) (h0 : Kept o s) : Kept o (State.modeJudge p code s) := by
  unfold Sys2Proof.Machine.State.modeJudge
  dsimp -failIfUnchanged only
  with_reducible repeat' (first | assumption | (intro _) | apply Kept.ite | apply Kept.ite2 | apply Kept.foldl | apply Kept.foldl2 | apply Kept.carryOut | apply Kept.deny | apply h0 | simp only [Kept.mk_iff] | apply Kept.of | (fail_if_no_progress beta_reduce) | (fail_if_no_progress dsimp only) | split | apply And.intro)

theorem Kept.modeRequest {o : State} (p : Port) (code : Nat) (s : State) (h0 : Kept o s) : Kept o (State.modeRequest p code s) := by
  unfold Sys2Proof.Machine.State.modeRequest
  dsimp -failIfUnchanged only
  with_reducible repeat' (first | assumption | (intro _) | apply Kept.ite | apply Kept.ite2 | apply Kept.foldl | apply Kept.foldl2 | apply Kept.onWrite | apply Kept.modeJudge | apply h0 | simp only [Kept.mk_iff] | apply Kept.of | (fail_if_no_progress beta_reduce) | (fail_if_no_progress dsimp only) | split | apply And.intro)

theorem Kept.askedNow {o : State} (s : State) (h0 : Kept o s) : Kept o (State.askedNow s) := by
  unfold Sys2Proof.Machine.State.askedNow
  dsimp -failIfUnchanged only
  with_reducible repeat' (first | assumption | (intro _) | apply Kept.ite | apply Kept.ite2 | apply Kept.foldl | apply Kept.foldl2 | apply Kept.modeJudge | apply h0 | (fail_if_no_progress beta_reduce) | (fail_if_no_progress dsimp only) | split | apply And.intro)

theorem Kept.markSleep {o : State} (s : State) (h0 : Kept o s) : Kept o (State.markSleep s) := by
  unfold Sys2Proof.Machine.State.markSleep
  dsimp -failIfUnchanged only
  with_reducible repeat' (first | assumption | (intro _) | apply Kept.ite | apply Kept.ite2 | apply Kept.foldl | apply Kept.foldl2 | apply h0 | simp only [Kept.mk_iff] | apply Kept.of | (fail_if_no_progress beta_reduce) | (fail_if_no_progress dsimp only) | split | apply And.intro)

theorem Kept.sleepGo {o : State} (k : Sleep) (s : State) (h0 : Kept o s) : Kept o (State.sleepGo k s) := by
  unfold Sys2Proof.Machine.State.sleepGo
  dsimp -failIfUnchanged only
  with_reducible repeat' (first | assumption | (intro _) | apply Kept.ite | apply Kept.ite2 | apply Kept.foldl | apply Kept.foldl2 | apply Kept.writeStatus | apply Kept.discardStaging | apply Kept.asleepNow | apply h0 | (fail_if_no_progress beta_reduce) | (fail_if_no_progress dsimp only) | split | apply And.intro)

theorem Kept.wake {o : State} (w : WakeSrc) (s : State) (h0 : Kept o s) : Kept o (State.wake w s) := by
  unfold Sys2Proof.Machine.State.wake
  dsimp -failIfUnchanged only
  with_reducible repeat' (first | assumption | (intro _) | apply Kept.ite | apply Kept.ite2 | apply Kept.foldl | apply Kept.foldl2 | apply Kept.putWord | apply Kept.wakeBoot | apply h0 | simp only [Kept.mk_iff] | apply Kept.of | (fail_if_no_progress beta_reduce) | (fail_if_no_progress dsimp only) | split | apply And.intro)

theorem Kept.planAdmit {o : State} (e : Nat) (s : State) (h0 : Kept o s) : Kept o (State.planAdmit e s) := by
  unfold Sys2Proof.Machine.State.planAdmit
  dsimp -failIfUnchanged only
  with_reducible repeat' (first | assumption | (intro _) | apply Kept.ite | apply Kept.ite2 | apply Kept.foldl | apply Kept.foldl2 | apply Kept.reject | apply Kept.count | apply Kept.admitNew | apply h0 | simp only [Kept.mk_iff] | apply Kept.of | (fail_if_no_progress beta_reduce) | (fail_if_no_progress dsimp only) | split | apply And.intro)

theorem Kept.fbAccess {o : State} (p : Port) (w : Option Word) (s : State) (h0 : Kept o s) : Kept o (State.fbAccess p w s) := by
  unfold Sys2Proof.Machine.State.fbAccess
  dsimp -failIfUnchanged only
  with_reducible repeat' (first | assumption | (intro _) | apply Kept.ite | apply Kept.ite2 | apply Kept.foldl | apply Kept.foldl2 | apply Kept.answer | apply Kept.putShadow | apply Kept.markDirty | apply Kept.deny | apply Kept.set | apply h0 | (fail_if_no_progress beta_reduce) | (fail_if_no_progress dsimp only) | split | apply And.intro)

theorem Kept.softReset {o : State} (p : Port) (v : Word) (s : State) (h0 : Kept o s) : Kept o (State.softReset p v s) := by
  unfold Sys2Proof.Machine.State.softReset
  dsimp -failIfUnchanged only
  with_reducible repeat' (first | assumption | (intro _) | apply Kept.ite | apply Kept.ite2 | apply Kept.foldl | apply Kept.foldl2 | apply Kept.onWrite | apply Kept.warmReset | apply Kept.deny | apply h0 | (fail_if_no_progress beta_reduce) | (fail_if_no_progress dsimp only) | split | apply And.intro)

theorem Kept.linkUnpowered {o : State} (s : State) (h0 : Kept o s) : Kept o (State.linkUnpowered s) := by
  unfold Sys2Proof.Machine.State.linkUnpowered
  dsimp -failIfUnchanged only
  with_reducible repeat' (first | assumption | (intro _) | apply Kept.ite | apply Kept.ite2 | apply Kept.foldl | apply Kept.foldl2 | apply Kept.configReset | apply h0 | simp only [Kept.mk_iff] | apply Kept.of | apply Kept.with_hif | apply Kept.hif | apply Hif.shaped_rings | apply Hif.shaped_vecPend | apply Hif.shaped_cqFull | (simp only [Hif.shaped_mk, setAt_length, modAt_length, unsettleIf_length, cmpSet_length, nibIdle_length, upTo_length, List.length_map, List.length_mapIdx, List.length_replicate]) | (fail_if_no_progress beta_reduce) | (fail_if_no_progress dsimp only) | split | apply And.intro)

theorem Kept.railGone {o : State} (r : BrownRail) (s : State) (h0 : Kept o s) : Kept o (State.railGone r s) := by
  unfold Sys2Proof.Machine.State.railGone
  dsimp -failIfUnchanged only
  with_reducible repeat' (first | assumption | (intro _) | apply Kept.ite | apply Kept.ite2 | apply Kept.foldl | apply Kept.foldl2 | apply h0 | simp only [Kept.mk_iff] | apply Kept.of | (fail_if_no_progress beta_reduce) | (fail_if_no_progress dsimp only) | split | apply And.intro)

theorem Kept.railsBack {o : State} (s : State) (h0 : Kept o s) : Kept o (State.railsBack s) := by
  unfold Sys2Proof.Machine.State.railsBack
  dsimp -failIfUnchanged only
  with_reducible repeat' (first | assumption | (intro _) | apply Kept.ite | apply Kept.ite2 | apply Kept.foldl | apply Kept.foldl2 | apply Kept.setBit | apply Kept.set | apply h0 | simp only [Kept.mk_iff] | apply Kept.of | (fail_if_no_progress beta_reduce) | (fail_if_no_progress dsimp only) | split | apply And.intro)

/-! Mq -/

theorem Kept.clearOcAct {o : State} (bank : Bool) (i : Nat) (s : State) (h0 : Kept o s) : Kept o ((State.clearOcAct bank i s).2) := by
  unfold Sys2Proof.Machine.State.clearOcAct
  dsimp -failIfUnchanged only
  with_reducible repeat' (first | assumption | (intro _) | apply Kept.ite | apply Kept.ite2 | apply Kept.foldl | apply Kept.foldl2 | apply Kept.modBank | apply Kept.logIdle | apply Kept.journal | apply Kept.modChan | apply h0 | apply Bank.shaped_threads | (simp only [Bank.shaped_mk, setAt_length, modAt_length, unsettleIf_length, cmpSet_length, nibIdle_length, upTo_length, List.length_map, List.length_mapIdx, List.length_replicate]) | (fail_if_no_progress beta_reduce) | (fail_if_no_progress dsimp only) | split | apply And.intro)

theorem Kept.paramAct {o : State} (q p n v : Nat) (s : State) (h0 : Kept o s) : Kept o ((State.paramAct q p n v s).2) := by
  unfold Sys2Proof.Machine.State.paramAct
  dsimp -failIfUnchanged only
  with_reducible repeat' (first | assumption | (intro _) | apply Kept.ite | apply Kept.ite2 | apply Kept.foldl | apply Kept.foldl2 | apply Kept.noteMq | apply Kept.noteHost | apply Kept.set | apply Kept.putShadow | apply Kept.markDirty | apply Kept.journal | apply h0 | (fail_if_no_progress beta_reduce) | (fail_if_no_progress dsimp only) | split | apply And.intro)

theorem Kept.paramRun {o : State} (tag arg0 arg1 : Word) (s : State) (h0 : Kept o s) : Kept o (State.paramRun tag arg0 arg1 s) := by
  unfold Sys2Proof.Machine.State.paramRun
  dsimp -failIfUnchanged only
  with_reducible repeat' (first | assumption | (intro _) | apply Kept.ite | apply Kept.ite2 | apply Kept.foldl | apply Kept.foldl2 | apply Kept.paramAct | apply Kept.completion | apply Kept.advance | apply h0 | (fail_if_no_progress beta_reduce) | (fail_if_no_progress dsimp only) | split | apply And.intro)

theorem Kept.releaseHeld {o : State} (s : State) (h0 : Kept o s) : Kept o (State.releaseHeld s) := by
  unfold Sys2Proof.Machine.State.releaseHeld
  dsimp -failIfUnchanged only
  with_reducible repeat' (first | assumption | (intro _) | apply Kept.ite | apply Kept.ite2 | apply Kept.foldl | apply Kept.foldl2 | apply Kept.paramRun | apply h0 | simp only [Kept.mk_iff] | apply Kept.of | apply Kept.with_hif | apply Kept.hif | apply Hif.shaped_rings | apply Hif.shaped_vecPend | apply Hif.shaped_cqFull | (simp only [Hif.shaped_mk, setAt_length, modAt_length, unsettleIf_length, cmpSet_length, nibIdle_length, upTo_length, List.length_map, List.length_mapIdx, List.length_replicate]) | (fail_if_no_progress beta_reduce) | (fail_if_no_progress dsimp only) | split | apply And.intro)

theorem Kept.accCloseAct {o : State} (t : Nat) (s : State) (h0 : Kept o s) : Kept o ((State.accCloseAct t s).2) := by
  unfold Sys2Proof.Machine.State.accCloseAct
  dsimp -failIfUnchanged only
  with_reducible repeat' (first | assumption | (intro _) | apply Kept.ite | apply Kept.ite2 | apply Kept.foldl | apply Kept.foldl2 | apply Kept.closeWin | apply h0 | (fail_if_no_progress beta_reduce) | (fail_if_no_progress dsimp only) | split | apply And.intro)

theorem Kept.fallbackClear {o : State} (s : State) (h0 : Kept o s) : Kept o (State.fallbackClear s) := by
  unfold Sys2Proof.Machine.State.fallbackClear
  dsimp -failIfUnchanged only
  with_reducible repeat' (first | assumption | (intro _) | apply Kept.ite | apply Kept.ite2 | apply Kept.foldl | apply Kept.foldl2 | apply Kept.alarm | apply Kept.heard | apply h0 | simp only [Kept.mk_iff] | apply Kept.of | (fail_if_no_progress beta_reduce) | (fail_if_no_progress dsimp only) | split | apply And.intro)

theorem Kept.fallbackWrite {o : State} (p : Port) (v : Word) (s : State) (h0 : Kept o s) : Kept o (State.fallbackWrite p v s) := by
  unfold Sys2Proof.Machine.State.fallbackWrite
  dsimp -failIfUnchanged only
  with_reducible repeat' (first | assumption | (intro _) | apply Kept.ite | apply Kept.ite2 | apply Kept.foldl | apply Kept.foldl2 | apply Kept.onWrite | apply Kept.fallbackClear | apply h0 | (fail_if_no_progress beta_reduce) | (fail_if_no_progress dsimp only) | split | apply And.intro)

theorem Kept.safeExitAct {o : State} (s : State) (h0 : Kept o s) : Kept o ((State.safeExitAct s).2) := by
  unfold Sys2Proof.Machine.State.safeExitAct
  dsimp -failIfUnchanged only
  with_reducible repeat' (first | assumption | (intro _) | apply Kept.ite | apply Kept.ite2 | apply Kept.foldl | apply Kept.foldl2 | apply Kept.safestop | apply Kept.safeActive | apply Kept.exitSafestop | apply h0 | (fail_if_no_progress beta_reduce) | (fail_if_no_progress dsimp only) | split | apply And.intro)

/-! Sec -/

theorem Kept.refusedIs {o : State} (r : Bool) (s : State) (h0 : Kept o s) : Kept o (State.refusedIs r s) := by
  unfold Sys2Proof.Machine.State.refusedIs
  dsimp -failIfUnchanged only
  with_reducible repeat' (first | assumption | (intro _) | apply Kept.ite | apply Kept.ite2 | apply Kept.foldl | apply Kept.foldl2 | apply Kept.modSec | apply h0 | apply Sec.shaped_resp | apply Sec.shaped_key | (simp only [Sec.shaped_mk, setAt_length, modAt_length, unsettleIf_length, cmpSet_length, nibIdle_length, upTo_length, List.length_map, List.length_mapIdx, List.length_replicate]) | (fail_if_no_progress beta_reduce) | (fail_if_no_progress dsimp only) | split | apply And.intro)

theorem Kept.request {o : State} (s : State) (ok : Bool) (f : State → State) (h0 :
    Kept o s) (h1 : ∀ x, Kept o x → Kept o (f x)) : Kept o (State.request s ok f) := by
  unfold Sys2Proof.Machine.State.request
  dsimp -failIfUnchanged only
  with_reducible repeat' (first | assumption | (intro _) | apply Kept.ite | apply Kept.ite2 | apply Kept.foldl | apply Kept.foldl2 | apply Kept.refusedIs | apply Kept.count | apply h0 | apply h1 | (fail_if_no_progress beta_reduce) | (fail_if_no_progress dsimp only) | split | apply And.intro)

theorem Kept.askChallenge {o : State} (role : Nat) (s : State) (h0 : Kept o s) : Kept o (State.askChallenge role s) := by
  unfold Sys2Proof.Machine.State.askChallenge
  dsimp -failIfUnchanged only
  with_reducible repeat' (first | assumption | (intro _) | apply Kept.ite | apply Kept.ite2 | apply Kept.foldl | apply Kept.foldl2 | apply Kept.request | apply Kept.modSec | apply h0 | apply Sec.shaped_resp | apply Sec.shaped_key | (simp only [Sec.shaped_mk, setAt_length, modAt_length, unsettleIf_length, cmpSet_length, nibIdle_length, upTo_length, List.length_map, List.length_mapIdx, List.length_replicate]) | (fail_if_no_progress beta_reduce) | (fail_if_no_progress dsimp only) | split | apply And.intro)

theorem Kept.openSession {o : State} (p : Port) (role : Nat) (s : State) (h0 : Kept o s) : Kept o (State.openSession p role s) := by
  unfold Sys2Proof.Machine.State.openSession
  dsimp -failIfUnchanged only
  with_reducible repeat' (first | assumption | (intro _) | apply Kept.ite | apply Kept.ite2 | apply Kept.foldl | apply Kept.foldl2 | apply Kept.request | apply Kept.modSec | apply Kept.beginBusy | apply h0 | apply Sec.shaped_resp | apply Sec.shaped_key | (simp only [Sec.shaped_mk, setAt_length, modAt_length, unsettleIf_length, cmpSet_length, nibIdle_length, upTo_length, List.length_map, List.length_mapIdx, List.length_replicate]) | (fail_if_no_progress beta_reduce) | (fail_if_no_progress dsimp only) | split | apply And.intro)

theorem Kept.claimInstaller {o : State} (p : Port) (role : Nat) (s : State) (h0 : Kept o s) : Kept o (State.claimInstaller p role s) := by
  unfold Sys2Proof.Machine.State.claimInstaller
  dsimp -failIfUnchanged only
  with_reducible repeat' (first | assumption | (intro _) | apply Kept.ite | apply Kept.ite2 | apply Kept.foldl | apply Kept.foldl2 | apply Kept.request | apply Kept.modSec | apply Kept.beginBusy | apply h0 | apply Sec.shaped_resp | apply Sec.shaped_key | (simp only [Sec.shaped_mk, setAt_length, modAt_length, unsettleIf_length, cmpSet_length, nibIdle_length, upTo_length, List.length_map, List.length_mapIdx, List.length_replicate]) | (fail_if_no_progress beta_reduce) | (fail_if_no_progress dsimp only) | split | apply And.intro)

theorem Kept.closeSession {o : State} (p : Port) (s : State) (h0 : Kept o s) : Kept o (State.closeSession p s) := by
  unfold Sys2Proof.Machine.State.closeSession
  dsimp -failIfUnchanged only
  with_reducible repeat' (first | assumption | (intro _) | apply Kept.ite | apply Kept.ite2 | apply Kept.foldl | apply Kept.foldl2 | apply Kept.endSession | apply h0 | (fail_if_no_progress beta_reduce) | (fail_if_no_progress dsimp only) | split | apply And.intro)

theorem Kept.sessWrite {o : State} (p : Port) (v : Word) (s : State) (h0 : Kept o s) : Kept o (State.sessWrite p v s) := by
  unfold Sys2Proof.Machine.State.sessWrite
  dsimp -failIfUnchanged only
  with_reducible repeat' (first | assumption | (intro _) | apply Kept.ite | apply Kept.ite2 | apply Kept.foldl | apply Kept.foldl2 | apply Kept.askChallenge | apply Kept.openSession | apply Kept.closeSession | apply Kept.claimInstaller | apply h0 | (fail_if_no_progress beta_reduce) | (fail_if_no_progress dsimp only) | split | apply And.intro)

theorem Kept.sessionBegins {o : State} (role : Nat) (p : Port) (kind : Nat) (s : State) (h0 :
    Kept o s) : Kept o (State.sessionBegins role p kind s) := by
  unfold Sys2Proof.Machine.State.sessionBegins
  dsimp -failIfUnchanged only
  with_reducible repeat' (first | assumption | (intro _) | apply Kept.ite | apply Kept.ite2 | apply Kept.foldl | apply Kept.foldl2 | apply Kept.modSec | apply Kept.journal | apply h0 | apply Sec.shaped_resp | apply Sec.shaped_key | (simp only [Sec.shaped_mk, setAt_length, modAt_length, unsettleIf_length, cmpSet_length, nibIdle_length, upTo_length, List.length_map, List.length_mapIdx, List.length_replicate]) | (fail_if_no_progress beta_reduce) | (fail_if_no_progress dsimp only) | split | apply And.intro)

theorem Kept.openFailed {o : State} (s : State) (h0 : Kept o s) : Kept o (State.openFailed s) := by
  unfold Sys2Proof.Machine.State.openFailed
  dsimp -failIfUnchanged only
  with_reducible repeat' (first | assumption | (intro _) | apply Kept.ite | apply Kept.ite2 | apply Kept.foldl | apply Kept.foldl2 | apply Kept.modSec | apply Kept.count | apply h0 | apply Sec.shaped_resp | apply Sec.shaped_key | (simp only [Sec.shaped_mk, setAt_length, modAt_length, unsettleIf_length, cmpSet_length, nibIdle_length, upTo_length, List.length_map, List.length_mapIdx, List.length_replicate]) | (fail_if_no_progress beta_reduce) | (fail_if_no_progress dsimp only) | split | apply And.intro)

theorem Kept.clearKey {o : State} (s : State) (h0 : Kept o s) : Kept o (State.clearKey s) := by
  unfold Sys2Proof.Machine.State.clearKey
  dsimp -failIfUnchanged only
  with_reducible repeat' (first | assumption | (intro _) | apply Kept.ite | apply Kept.ite2 | apply Kept.foldl | apply Kept.foldl2 | apply Kept.modSec | apply h0 | apply Sec.shaped_resp | apply Sec.shaped_key | (simp only [Sec.shaped_mk, setAt_length, modAt_length, unsettleIf_length, cmpSet_length, nibIdle_length, upTo_length, List.length_map, List.length_mapIdx, List.length_replicate]) | (fail_if_no_progress beta_reduce) | (fail_if_no_progress dsimp only) | split | apply And.intro)

theorem Kept.unlockEnds {o : State} (role : Nat) (claim : Bool) (p : Port) (s : State) (h0 :
    Kept o s) : Kept o (State.unlockEnds role claim p s) := by
  unfold Sys2Proof.Machine.State.unlockEnds
  dsimp -failIfUnchanged only
  with_reducible repeat' (first | assumption | (intro _) | apply Kept.ite | apply Kept.ite2 | apply Kept.foldl | apply Kept.foldl2 | apply Kept.modSec | apply Kept.endBusy | apply Kept.claim | apply Kept.clearKey | apply Kept.sessionBegins | apply Kept.openFailed | apply h0 | apply Sec.shaped_resp | apply Sec.shaped_key | (simp only [Sec.shaped_mk, setAt_length, modAt_length, unsettleIf_length, cmpSet_length, nibIdle_length, upTo_length, List.length_map, List.length_mapIdx, List.length_replicate]) | (fail_if_no_progress beta_reduce) | (fail_if_no_progress dsimp only) | split | apply And.intro)

theorem Kept.onMaker {o : State} (s : State) (p : Port) (f : State → State) (h0 :
    Kept o s) (h1 : ∀ x, Kept o x → Kept o (f x)) : Kept o (State.onMaker s p f) := by
  unfold Sys2Proof.Machine.State.onMaker
  dsimp -failIfUnchanged only
  with_reducible repeat' (first | assumption | (intro _) | apply Kept.ite | apply Kept.ite2 | apply Kept.foldl | apply Kept.foldl2 | apply Kept.onWrite | apply Kept.deny | apply h0 | apply h1 | (fail_if_no_progress beta_reduce) | (fail_if_no_progress dsimp only) | split | apply And.intro)

theorem Kept.provision {o : State} (p : Port) (data : Nat) (k : Option (BitVec 128)) (s : State) (h0 :
    Kept o s) : Kept o (State.provision p data k s) := by
  unfold Sys2Proof.Machine.State.provision
  dsimp -failIfUnchanged only
  with_reducible repeat' (first | assumption | (intro _) | apply Kept.ite | apply Kept.ite2 | apply Kept.foldl | apply Kept.foldl2 | apply Kept.refusedIs | apply Kept.modSec | apply Kept.dropSession | apply Kept.journal | apply h0 | apply Sec.shaped_resp | apply Sec.shaped_key | (simp only [Sec.shaped_mk, setAt_length, modAt_length, unsettleIf_length, cmpSet_length, nibIdle_length, upTo_length, List.length_map, List.length_mapIdx, List.length_replicate]) | (fail_if_no_progress beta_reduce) | (fail_if_no_progress dsimp only) | split | apply And.intro)

theorem Kept.provisionSet {o : State} (p : Port) (s : State) (h0 : Kept o s) : Kept o (State.provisionSet p s) := by
  unfold Sys2Proof.Machine.State.provisionSet
  dsimp -failIfUnchanged only
  with_reducible repeat' (first | assumption | (intro _) | apply Kept.ite | apply Kept.ite2 | apply Kept.foldl | apply Kept.foldl2 | apply Kept.provision | apply Kept.clearKey | apply h0 | (fail_if_no_progress beta_reduce) | (fail_if_no_progress dsimp only) | split | apply And.intro)

theorem Kept.provisionClear {o : State} (p : Port) (s : State) (h0 : Kept o s) : Kept o (State.provisionClear p s) := by
  unfold Sys2Proof.Machine.State.provisionClear
  dsimp -failIfUnchanged only
  with_reducible repeat' (first | assumption | (intro _) | apply Kept.ite | apply Kept.ite2 | apply Kept.foldl | apply Kept.foldl2 | apply Kept.provision | apply h0 | (fail_if_no_progress beta_reduce) | (fail_if_no_progress dsimp only) | split | apply And.intro)

theorem Kept.jRead {o : State} (s : State) (h0 : Kept o s) : Kept o (State.jRead s) := by
  unfold Sys2Proof.Machine.State.jRead
  dsimp -failIfUnchanged only
  with_reducible repeat' (first | assumption | (intro _) | apply Kept.ite | apply Kept.ite2 | apply Kept.foldl | apply Kept.foldl2 | apply Kept.journal | apply Kept.set | apply Kept.answer | apply h0 | (fail_if_no_progress beta_reduce) | (fail_if_no_progress dsimp only) | split | apply And.intro)

theorem Kept.exportBegin {o : State} (p : Port) (s : State) (h0 : Kept o s) : Kept o (State.exportBegin p s) := by
  unfold Sys2Proof.Machine.State.exportBegin
  dsimp -failIfUnchanged only
  with_reducible repeat' (first | assumption | (intro _) | apply Kept.ite | apply Kept.ite2 | apply Kept.foldl | apply Kept.foldl2 | apply Kept.modSec | apply Kept.beginBusy | apply h0 | apply Sec.shaped_resp | apply Sec.shaped_key | (simp only [Sec.shaped_mk, setAt_length, modAt_length, unsettleIf_length, cmpSet_length, nibIdle_length, upTo_length, List.length_map, List.length_mapIdx, List.length_replicate]) | (fail_if_no_progress beta_reduce) | (fail_if_no_progress dsimp only) | split | apply And.intro)

theorem Kept.sealBegin {o : State} (p : Port) (s : State) (h0 : Kept o s) : Kept o (State.sealBegin p s) := by
  unfold Sys2Proof.Machine.State.sealBegin
  dsimp -failIfUnchanged only
  with_reducible repeat' (first | assumption | (intro _) | apply Kept.ite | apply Kept.ite2 | apply Kept.foldl | apply Kept.foldl2 | apply Kept.clearKey | apply Kept.modSec | apply Kept.beginBusy | apply h0 | apply Sec.shaped_resp | apply Sec.shaped_key | (simp only [Sec.shaped_mk, setAt_length, modAt_length, unsettleIf_length, cmpSet_length, nibIdle_length, upTo_length, List.length_map, List.length_mapIdx, List.length_replicate]) | (fail_if_no_progress beta_reduce) | (fail_if_no_progress dsimp only) | split | apply And.intro)

theorem Kept.sealNow {o : State} (p : Port) (s : State) (h0 : Kept o s) : Kept o (State.sealNow p s) := by
  unfold Sys2Proof.Machine.State.sealNow
  dsimp -failIfUnchanged only
  with_reducible repeat' (first | assumption | (intro _) | apply Kept.ite | apply Kept.ite2 | apply Kept.foldl | apply Kept.foldl2 | apply Kept.modSec | apply Kept.journal | apply Kept.endBusy | apply h0 | apply Sec.shaped_resp | apply Sec.shaped_key | (simp only [Sec.shaped_mk, setAt_length, modAt_length, unsettleIf_length, cmpSet_length, nibIdle_length, upTo_length, List.length_map, List.length_mapIdx, List.length_replicate]) | (fail_if_no_progress beta_reduce) | (fail_if_no_progress dsimp only) | split | apply And.intro)

theorem Kept.jctrlWrite {o : State} (p : Port) (v : Word) (s : State) (h0 : Kept o s) : Kept o (State.jctrlWrite p v s) := by
  unfold Sys2Proof.Machine.State.jctrlWrite
  dsimp -failIfUnchanged only
  with_reducible repeat' (first | assumption | (intro _) | apply Kept.ite | apply Kept.ite2 | apply Kept.foldl | apply Kept.foldl2 | apply Kept.deny | apply Kept.exportBegin | apply Kept.sealBegin | apply h0 | (fail_if_no_progress beta_reduce) | (fail_if_no_progress dsimp only) | split | apply And.intro)

theorem Kept.kprovWrite {o : State} (p : Port) (v : Word) (s : State) (h0 : Kept o s) : Kept o (State.kprovWrite p v s) := by
  unfold Sys2Proof.Machine.State.kprovWrite
  dsimp -failIfUnchanged only
  with_reducible repeat' (first | assumption | (intro _) | apply Kept.ite | apply Kept.ite2 | apply Kept.foldl | apply Kept.foldl2 | apply Kept.deny | apply Kept.provisionSet | apply Kept.provisionClear | apply h0 | (fail_if_no_progress beta_reduce) | (fail_if_no_progress dsimp only) | split | apply And.intro)

/-! Commit -/

theorem Kept.clean {o : State} (s : State) (h0 : Kept o s) : Kept o (State.clean s) := by
  unfold Sys2Proof.Machine.State.clean
  dsimp -failIfUnchanged only
  with_reducible repeat' (first | assumption | (intro _) | apply Kept.ite | apply Kept.ite2 | apply Kept.foldl | apply Kept.foldl2 | apply h0 | simp only [Kept.mk_iff] | apply Kept.of | apply Kept.with_regs | apply Kept.with_quads | constructor | apply Kept.part | apply Kept.pending | apply Kept.regs | apply Kept.clk | apply Kept.hif | apply Kept.evc | apply Kept.sec | apply Kept.whl | apply Kept.sch | apply Kept.banks | apply Kept.quads | apply Kept.ink | apply Kept.grds | apply Kept.adc | apply Kept.cmps | apply Kept.tmrs | apply Kept.nibs | apply RegsKept.image | apply RegsKept.imgKind | apply RegsKept.live | apply RegsKept.shadow | apply RegsKept.imageWf | apply QuadsOk.modAt | apply QuadsOk.map | apply QuadsOk.mapIdx | (simp only [RegsKept_mk, setAt_length, modAt_length, unsettleIf_length, cmpSet_length, nibIdle_length, upTo_length, List.length_map, List.length_mapIdx, List.length_replicate]) | (fail_if_no_progress beta_reduce) | (fail_if_no_progress dsimp only) | split | apply And.intro)

theorem Kept.discardNow {o : State} (p : Port) (s : State) (h0 : Kept o s) : Kept o (State.discardNow p s) := by
  unfold Sys2Proof.Machine.State.discardNow
  dsimp -failIfUnchanged only
  with_reducible repeat' (first | assumption | (intro _) | apply Kept.ite | apply Kept.ite2 | apply Kept.foldl | apply Kept.foldl2 | apply Kept.deny | apply Kept.clean | apply h0 | simp only [Kept.mk_iff] | apply Kept.of | apply Kept.with_regs | apply Kept.regs | apply RegsKept.image | apply RegsKept.imgKind | apply RegsKept.live | apply RegsKept.shadow | apply RegsKept.imageWf | apply discardShadow_wf | (simp only [RegsKept_mk, setAt_length, modAt_length, unsettleIf_length, cmpSet_length, nibIdle_length, upTo_length, List.length_map, List.length_mapIdx, List.length_replicate]) | (fail_if_no_progress beta_reduce) | (fail_if_no_progress dsimp only) | split | apply And.intro)

theorem Kept.commitGo {o : State} (p : Port) (s : State) (h0 : Kept o s) : Kept o (State.commitGo p s) := by
  unfold Sys2Proof.Machine.State.commitGo
  dsimp -failIfUnchanged only
  with_reducible repeat' (first | assumption | (intro _) | apply Kept.ite | apply Kept.ite2 | apply Kept.foldl | apply Kept.foldl2 | apply Kept.draw | apply Kept.modSec | apply Kept.beginBusy | apply h0 | apply Sec.shaped_resp | apply Sec.shaped_key | (simp only [Sec.shaped_mk, setAt_length, modAt_length, unsettleIf_length, cmpSet_length, nibIdle_length, upTo_length, List.length_map, List.length_mapIdx, List.length_replicate]) | (fail_if_no_progress beta_reduce) | (fail_if_no_progress dsimp only) | split | apply And.intro)

theorem Kept.commitWrite {o : State} (p : Port) (v : Word) (s : State) (h0 : Kept o s) : Kept o (State.commitWrite p v s) := by
  unfold Sys2Proof.Machine.State.commitWrite
  dsimp -failIfUnchanged only
  with_reducible repeat' (first | assumption | (intro _) | apply Kept.ite | apply Kept.ite2 | apply Kept.foldl | apply Kept.foldl2 | apply Kept.count | apply Kept.commitGo | apply Kept.discardNow | apply h0 | (fail_if_no_progress beta_reduce) | (fail_if_no_progress dsimp only) | split | apply And.intro)

theorem Kept.commitEnds {o : State} (outcome entries : Nat) (s : State) (h0 : Kept o s) : Kept o (State.commitEnds outcome entries s) := by
  unfold Sys2Proof.Machine.State.commitEnds
  dsimp -failIfUnchanged only
  with_reducible repeat' (first | assumption | (intro _) | apply Kept.ite | apply Kept.ite2 | apply Kept.foldl | apply Kept.foldl2 | apply Kept.draw | apply Kept.modSec | apply Kept.endBusy | apply Kept.releaseHeld | apply h0 | apply Sec.shaped_resp | apply Sec.shaped_key | (simp only [Sec.shaped_mk, setAt_length, modAt_length, unsettleIf_length, cmpSet_length, nibIdle_length, upTo_length, List.length_map, List.length_mapIdx, List.length_replicate]) | (fail_if_no_progress beta_reduce) | (fail_if_no_progress dsimp only) | split | apply And.intro)

theorem Kept.setVerify {o : State} (v : Option Verdict) (s : State) (h0 : Kept o s) : Kept o (State.setVerify v s) := by
  unfold Sys2Proof.Machine.State.setVerify
  dsimp -failIfUnchanged only
  with_reducible repeat' (first | assumption | (intro _) | apply Kept.ite | apply Kept.ite2 | apply Kept.foldl | apply Kept.foldl2 | apply Kept.putWord | apply Kept.set | apply h0 | (fail_if_no_progress beta_reduce) | (fail_if_no_progress dsimp only) | split | apply And.intro)

theorem Kept.commitFails {o : State} (f : CommitFault) (s : State) (h0 : Kept o s) : Kept o (State.commitFails f s) := by
  unfold Sys2Proof.Machine.State.commitFails
  dsimp -failIfUnchanged only
  with_reducible repeat' (first | assumption | (intro _) | apply Kept.ite | apply Kept.ite2 | apply Kept.foldl | apply Kept.foldl2 | apply Kept.count | apply Kept.setVerify | apply Kept.modSec | apply Kept.commitEnds | apply Kept.claim | apply Kept.draw | apply h0 | apply Sec.shaped_resp | apply Sec.shaped_key | (simp only [Sec.shaped_mk, setAt_length, modAt_length, unsettleIf_length, cmpSet_length, nibIdle_length, upTo_length, List.length_map, List.length_mapIdx, List.length_replicate]) | (fail_if_no_progress beta_reduce) | (fail_if_no_progress dsimp only) | split | apply And.intro)

theorem Kept.blockEntry {o : State} (k : CommitRun) (old new : WMap) (b : Nat) (written : List Nat) (s : State) (h0 :
    Kept o s) : Kept o (State.blockEntry k old new b written s) := by
  unfold Sys2Proof.Machine.State.blockEntry
  dsimp -failIfUnchanged only
  with_reducible repeat' (first | assumption | (intro _) | apply Kept.ite | apply Kept.ite2 | apply Kept.foldl | apply Kept.foldl2 | apply Kept.journal | apply h0 | (fail_if_no_progress beta_reduce) | (fail_if_no_progress dsimp only) | split | apply And.intro)

theorem Kept.tablesForget {o : State} (s : State) (h0 : Kept o s) : Kept o (State.tablesForget s) := by
  unfold Sys2Proof.Machine.State.tablesForget
  dsimp -failIfUnchanged only
  with_reducible repeat' (first | assumption | (intro _) | apply Kept.ite | apply Kept.ite2 | apply Kept.foldl | apply Kept.foldl2 | apply Kept.putWord | apply Kept.putShadow | apply Kept.set | apply h0 | (fail_if_no_progress beta_reduce) | (fail_if_no_progress dsimp only) | split | apply And.intro)

theorem Kept.commitWheel {o : State} (old : WMap) (s : State) (h0 : Kept o s) : Kept o (State.commitWheel old s) := by
  unfold Sys2Proof.Machine.State.commitWheel
  dsimp -failIfUnchanged only
  with_reducible repeat' (first | assumption | (intro _) | apply Kept.ite | apply Kept.ite2 | apply Kept.foldl | apply Kept.foldl2 | apply Kept.syncResetNow | apply Kept.retrainNow | apply h0 | simp only [Kept.mk_iff] | apply Kept.of | (fail_if_no_progress beta_reduce) | (fail_if_no_progress dsimp only) | split | apply And.intro)

theorem Kept.commitMode {o : State} (old : WMap) (n : Nat) (s : State) (h0 : Kept o s) : Kept o (State.commitMode old n s) := by
  unfold Sys2Proof.Machine.State.commitMode
  dsimp -failIfUnchanged only
  with_reducible repeat' (first | assumption | (intro _) | apply Kept.ite | apply Kept.ite2 | apply Kept.foldl | apply Kept.foldl2 | apply Kept.logIdle | apply Kept.refuse | apply Kept.modChan | apply Kept.newMode | apply h0 | (fail_if_no_progress beta_reduce) | (fail_if_no_progress dsimp only) | split | apply And.intro)

theorem Kept.commitPhrases {o : State} (old : WMap) (q : Nat) (s : State) (h0 : Kept o s) : Kept o (State.commitPhrases old q s) := by
  unfold Sys2Proof.Machine.State.commitPhrases
  dsimp -failIfUnchanged only
  with_reducible repeat' (first | assumption | (intro _) | apply Kept.ite | apply Kept.ite2 | apply Kept.foldl | apply Kept.foldl2 | apply Kept.modQuad | apply Kept.modThread | apply h0 | apply Bank.shaped_threads | (simp only [Bank.shaped_mk, setAt_length, modAt_length, unsettleIf_length, cmpSet_length, nibIdle_length, upTo_length, List.length_map, List.length_mapIdx, List.length_replicate]) | (fail_if_no_progress beta_reduce) | (fail_if_no_progress dsimp only) | split | apply And.intro)

theorem Kept.commitClose {o : State} (new : WMap) (s : State) (h0 : Kept o s) : Kept o (State.commitClose new s) := by
  unfold Sys2Proof.Machine.State.commitClose
  dsimp -failIfUnchanged only
  with_reducible repeat' (first | assumption | (intro _) | apply Kept.ite | apply Kept.ite2 | apply Kept.foldl | apply Kept.foldl2 | apply Kept.closeAll | apply h0 | (fail_if_no_progress beta_reduce) | (fail_if_no_progress dsimp only) | split | apply And.intro)

theorem Kept.commitOpen {o : State} (old : WMap) (was : List Nat) (s : State) (h0 : Kept o s) : Kept o (State.commitOpen old was s) := by
  unfold Sys2Proof.Machine.State.commitOpen
  dsimp -failIfUnchanged only
  with_reducible repeat' (first | assumption | (intro _) | apply Kept.ite | apply Kept.ite2 | apply Kept.foldl | apply Kept.foldl2 | apply Kept.openWin | apply Kept.tqChanged | apply h0 | (fail_if_no_progress beta_reduce) | (fail_if_no_progress dsimp only) | split | apply And.intro)

theorem Kept.commitSeq {o : State} (old : WMap) (s : State) (h0 : Kept o s) : Kept o (State.commitSeq old s) := by
  unfold Sys2Proof.Machine.State.commitSeq
  dsimp -failIfUnchanged only
  with_reducible repeat' (first | assumption | (intro _) | apply Kept.ite | apply Kept.ite2 | apply Kept.foldl | apply Kept.foldl2 | apply Kept.modConv | apply Kept.set | apply h0 | (fail_if_no_progress beta_reduce) | (fail_if_no_progress dsimp only) | split | apply And.intro)

theorem Kept.commitNib {o : State} (old : WMap) (n : Nat) (s : State) (h0 : Kept o s) : Kept o (State.commitNib old n s) := by
  unfold Sys2Proof.Machine.State.commitNib
  dsimp -failIfUnchanged only
  with_reducible repeat' (first | assumption | (intro _) | apply Kept.ite | apply Kept.ite2 | apply Kept.foldl | apply Kept.foldl2 | apply Kept.nibRestart | apply Kept.modNib | apply h0 | simp only [Kept.mk_iff] | apply Kept.of | apply Kept.with_ink | apply Kept.ink | apply Ink.shaped_rails | apply Nib.shaped_ink | (simp only [Ink.shaped_mk, Nib.shaped_mk, setAt_length, modAt_length, unsettleIf_length, cmpSet_length, nibIdle_length, upTo_length, List.length_map, List.length_mapIdx, List.length_replicate]) | (fail_if_no_progress beta_reduce) | (fail_if_no_progress dsimp only) | split | apply And.intro)

theorem Kept.commitBoost {o : State} (old : WMap) (q : Nat) (s : State) (h0 : Kept o s) : Kept o (State.commitBoost old q s) := by
  unfold Sys2Proof.Machine.State.commitBoost
  dsimp -failIfUnchanged only
  with_reducible repeat' (first | assumption | (intro _) | apply Kept.ite | apply Kept.ite2 | apply Kept.foldl | apply Kept.foldl2 | apply Kept.modQuad | apply Kept.setBoost | apply h0 | (fail_if_no_progress beta_reduce) | (fail_if_no_progress dsimp only) | split | apply And.intro)

theorem Kept.commitAccounts {o : State} (old : WMap) (s : State) (h0 : Kept o s) : Kept o (State.commitAccounts old s) := by
  unfold Sys2Proof.Machine.State.commitAccounts
  dsimp -failIfUnchanged only
  with_reducible repeat' (first | assumption | (intro _) | apply Kept.ite | apply Kept.ite2 | apply Kept.foldl | apply Kept.foldl2 | apply Kept.watchRail | apply Kept.watchDev | apply h0 | simp only [Kept.mk_iff] | apply Kept.of | apply Kept.with_ink | apply Kept.ink | apply Ink.shaped_rails | (simp only [Ink.shaped_mk, setAt_length, modAt_length, unsettleIf_length, cmpSet_length, nibIdle_length, upTo_length, List.length_map, List.length_mapIdx, List.length_replicate]) | (fail_if_no_progress beta_reduce) | (fail_if_no_progress dsimp only) | split | apply And.intro)

theorem Kept.commitTimers {o : State} (old : WMap) (s : State) (h0 : Kept o s) : Kept o (State.commitTimers old s) := by
  unfold Sys2Proof.Machine.State.commitTimers
  dsimp -failIfUnchanged only
  with_reducible repeat' (first | assumption | (intro _) | apply Kept.ite | apply Kept.ite2 | apply Kept.foldl | apply Kept.foldl2 | apply Kept.modTmr | apply h0 | simp only [Kept.mk_iff] | apply Kept.of | apply Kept.with_cmps | apply Kept.cmps | apply Cmps.shaped_peak | apply Cmps.shaped_hold | apply Cmps.shaped_vds | apply Cmps.shaped_ghv | apply Cmps.shaped_ghb | apply Cmps.shaped_ft | apply Cmps.shaped_rev | apply Cmps.shaped_wm | (simp only [Cmps.shaped_mk, setAt_length, modAt_length, unsettleIf_length, cmpSet_length, nibIdle_length, upTo_length, List.length_map, List.length_mapIdx, List.length_replicate]) | (fail_if_no_progress beta_reduce) | (fail_if_no_progress dsimp only) | split | apply And.intro)

theorem Kept.commitEffects {o : State} (old : WMap) (was : List Nat) (s : State) (h0 : Kept o s) : Kept o (State.commitEffects old was s) := by
  unfold Sys2Proof.Machine.State.commitEffects
  dsimp -failIfUnchanged only
  with_reducible repeat' (first | assumption | (intro _) | apply Kept.ite | apply Kept.ite2 | apply Kept.foldl | apply Kept.foldl2 | apply Kept.commitWheel | apply Kept.commitMode | apply Kept.commitPhrases | apply Kept.commitBoost | apply Kept.commitOpen | apply Kept.commitSeq | apply Kept.commitAccounts | apply Kept.commitNib | apply Kept.commitTimers | apply Kept.grdLive | apply Kept.grdEnables | apply Kept.watchStore | apply Kept.levelsSettle | apply h0 | (fail_if_no_progress beta_reduce) | (fail_if_no_progress dsimp only) | split | apply And.intro)

theorem Kept.commitAbort {o : State} (k : CommitRun) (s : State) (h0 : Kept o s) : Kept o (State.commitAbort k s) := by
  unfold Sys2Proof.Machine.State.commitAbort
  dsimp -failIfUnchanged only
  with_reducible repeat' (first | assumption | (intro _) | apply Kept.ite | apply Kept.ite2 | apply Kept.foldl | apply Kept.foldl2 | apply Kept.commitEnds | apply h0 | (fail_if_no_progress beta_reduce) | (fail_if_no_progress dsimp only) | split | apply And.intro)

/-! Jtag -/

theorem Kept.scan {o : State} (ir : Nat) (s : State) (h0 : Kept o s) : Kept o (State.scan ir s) := by
  unfold Sys2Proof.Machine.State.scan
  dsimp -failIfUnchanged only
  with_reducible repeat' (first | assumption | (intro _) | apply Kept.ite | apply Kept.ite2 | apply Kept.foldl | apply Kept.foldl2 | apply h0 | simp only [Kept.mk_iff] | apply Kept.of | (fail_if_no_progress beta_reduce) | (fail_if_no_progress dsimp only) | split | apply And.intro)

theorem Kept.onTap {o : State} (s : State) (f : State → State) (h0 : Kept o s) (h1 : ∀ x, Kept o x → Kept o (f x)) : Kept o (State.onTap s f) := by
  unfold Sys2Proof.Machine.State.onTap
  dsimp -failIfUnchanged only
  with_reducible repeat' (first | assumption | (intro _) | apply Kept.ite | apply Kept.ite2 | apply Kept.foldl | apply Kept.foldl2 | apply h0 | apply h1 | (fail_if_no_progress beta_reduce) | (fail_if_no_progress dsimp only) | split | apply And.intro)

/-! Tst -/

theorem Kept.laneSkip {o : State} (laneB : Bool) (s : State) (h0 : Kept o s) : Kept o (State.laneSkip laneB s) := by
  unfold Sys2Proof.Machine.State.laneSkip
  dsimp -failIfUnchanged only
  with_reducible repeat' (first | assumption | (intro _) | apply Kept.ite | apply Kept.ite2 | apply Kept.foldl | apply Kept.foldl2 | apply h0 | simp only [Kept.mk_iff] | apply Kept.of | (fail_if_no_progress beta_reduce) | (fail_if_no_progress dsimp only) | split | apply And.intro)

theorem Kept.passSettle {o : State} (s : State) (h0 : Kept o s) : Kept o (State.passSettle s) := by
  unfold Sys2Proof.Machine.State.passSettle
  dsimp -failIfUnchanged only
  with_reducible repeat' (first | assumption | (intro _) | apply Kept.ite | apply Kept.ite2 | apply Kept.foldl | apply Kept.foldl2 | apply Kept.tstEnd | apply h0 | (fail_if_no_progress beta_reduce) | (fail_if_no_progress dsimp only) | split | apply And.intro)

theorem Kept.passJudge {o : State} (p : Port) (s : State) (h0 : Kept o s) : Kept o (State.passJudge p s) := by
  unfold Sys2Proof.Machine.State.passJudge
  dsimp -failIfUnchanged only
  with_reducible repeat' (first | assumption | (intro _) | apply Kept.ite | apply Kept.ite2 | apply Kept.foldl | apply Kept.foldl2 | apply Kept.passBegin | apply Kept.beginBusy | apply h0 | simp only [Kept.mk_iff] | apply Kept.of | (fail_if_no_progress beta_reduce) | (fail_if_no_progress dsimp only) | split | apply And.intro)

theorem Kept.passGo {o : State} (p : Port) (s : State) (h0 : Kept o s) : Kept o (State.passGo p s) := by
  unfold Sys2Proof.Machine.State.passGo
  dsimp -failIfUnchanged only
  with_reducible repeat' (first | assumption | (intro _) | apply Kept.ite | apply Kept.ite2 | apply Kept.foldl | apply Kept.foldl2 | apply Kept.passJudge | apply h0 | simp only [Kept.mk_iff] | apply Kept.of | (fail_if_no_progress beta_reduce) | (fail_if_no_progress dsimp only) | split | apply And.intro)

theorem Kept.passAsked {o : State} (s : State) (h0 : Kept o s) : Kept o (State.passAsked s) := by
  unfold Sys2Proof.Machine.State.passAsked
  dsimp -failIfUnchanged only
  with_reducible repeat' (first | assumption | (intro _) | apply Kept.ite | apply Kept.ite2 | apply Kept.foldl | apply Kept.foldl2 | apply Kept.passJudge | apply h0 | (fail_if_no_progress beta_reduce) | (fail_if_no_progress dsimp only) | split | apply And.intro)

theorem Kept.tstWrite {o : State} (p : Port) (v : Word) (s : State) (h0 : Kept o s) : Kept o (State.tstWrite p v s) := by
  unfold Sys2Proof.Machine.State.tstWrite
  dsimp -failIfUnchanged only
  with_reducible repeat' (first | assumption | (intro _) | apply Kept.ite | apply Kept.ite2 | apply Kept.foldl | apply Kept.foldl2 | apply Kept.onWrite | apply Kept.passGo | apply h0 | simp only [Kept.mk_iff] | apply Kept.of | (fail_if_no_progress beta_reduce) | (fail_if_no_progress dsimp only) | split | apply And.intro)

theorem Kept.testLow {o : State} (q : Nat) (s : State) (h0 : Kept o s) : Kept o (State.testLow q s) := by
  unfold Sys2Proof.Machine.State.testLow
  dsimp -failIfUnchanged only
  with_reducible repeat' (first | assumption | (intro _) | apply Kept.ite | apply Kept.ite2 | apply Kept.foldl | apply Kept.foldl2 | apply Kept.modChan | apply Kept.modBank | apply Kept.modQuad | apply h0 | apply Bank.shaped_threads | (simp only [Bank.shaped_mk, setAt_length, modAt_length, unsettleIf_length, cmpSet_length, nibIdle_length, upTo_length, List.length_map, List.length_mapIdx, List.length_replicate]) | (fail_if_no_progress beta_reduce) | (fail_if_no_progress dsimp only) | split | apply And.intro)

theorem Kept.blockStart {o : State} (laneB : Bool) (k : Nat) (s : State) (h0 : Kept o s) : Kept o (State.blockStart laneB k s) := by
  unfold Sys2Proof.Machine.State.blockStart
  dsimp -failIfUnchanged only
  with_reducible repeat' (first | assumption | (intro _) | apply Kept.ite | apply Kept.ite2 | apply Kept.foldl | apply Kept.foldl2 | apply Kept.chargeDev | apply Kept.testLow | apply h0 | simp only [Kept.mk_iff] | apply Kept.of | (fail_if_no_progress beta_reduce) | (fail_if_no_progress dsimp only) | split | apply And.intro)

theorem Kept.marksSet {o : State} (s t : State) (h0 : Kept o s) (h1 : Kept o t) : Kept o (State.marksSet s t) := by
  unfold Sys2Proof.Machine.State.marksSet
  dsimp -failIfUnchanged only
  with_reducible repeat' (first | assumption | (intro _) | apply Kept.ite | apply Kept.ite2 | apply Kept.foldl | apply Kept.foldl2 | apply Kept.chGone | apply Kept.grdOffTo | apply Kept.sourceGone | apply Kept.modQuad | apply Kept.convGone | apply h0 | apply h1 | (fail_if_no_progress beta_reduce) | (fail_if_no_progress dsimp only) | split | apply And.intro)

theorem Kept.convWins {o : State} (n : Nat) (s : State) (h0 : Kept o s) : Kept o (State.convWins n s) := by
  unfold Sys2Proof.Machine.State.convWins
  dsimp -failIfUnchanged only
  with_reducible repeat' (first | assumption | (intro _) | apply Kept.ite | apply Kept.ite2 | apply Kept.foldl | apply Kept.foldl2 | apply Kept.openAll | apply h0 | (fail_if_no_progress beta_reduce) | (fail_if_no_progress dsimp only) | split | apply And.intro)

theorem Kept.grdFresh {o : State} (g : Nat) (s : State) (h0 : Kept o s) : Kept o (State.grdFresh g s) := by
  unfold Sys2Proof.Machine.State.grdFresh
  dsimp -failIfUnchanged only
  with_reducible repeat' (first | assumption | (intro _) | apply Kept.ite | apply Kept.ite2 | apply Kept.foldl | apply Kept.foldl2 | apply Kept.modGrd | apply h0 | apply Grd.shaped_held8 | apply Grd.pins_shaped | (simp only [Grd.shaped_mk, setAt_length, modAt_length, unsettleIf_length, cmpSet_length, nibIdle_length, upTo_length, List.length_map, List.length_mapIdx, List.length_replicate]) | (fail_if_no_progress beta_reduce) | (fail_if_no_progress dsimp only) | split | apply And.intro)

theorem Kept.bankCmpFresh {o : State} (b : Nat) (s : State) (h0 : Kept o s) : Kept o (State.bankCmpFresh b s) := by
  unfold Sys2Proof.Machine.State.bankCmpFresh
  dsimp -failIfUnchanged only
  with_reducible repeat' (first | assumption | (intro _) | apply Kept.ite | apply Kept.ite2 | apply Kept.foldl | apply Kept.foldl2 | apply Kept.clrBit | apply h0 | simp only [Kept.mk_iff] | apply Kept.of | apply Kept.with_cmps | apply Kept.cmps | apply Cmps.shaped_peak | apply Cmps.shaped_hold | apply Cmps.shaped_vds | apply Cmps.shaped_ghv | apply Cmps.shaped_ghb | apply Cmps.shaped_ft | apply Cmps.shaped_rev | apply Cmps.shaped_wm | (simp only [Cmps.shaped_mk, setAt_length, modAt_length, unsettleIf_length, cmpSet_length, nibIdle_length, upTo_length, List.length_map, List.length_mapIdx, List.length_replicate]) | (fail_if_no_progress beta_reduce) | (fail_if_no_progress dsimp only) | split | apply And.intro)

theorem Kept.chCmpFresh {o : State} (n : Nat) (s : State) (h0 : Kept o s) : Kept o (State.chCmpFresh n s) := by
  unfold Sys2Proof.Machine.State.chCmpFresh
  dsimp -failIfUnchanged only
  with_reducible repeat' (first | assumption | (intro _) | apply Kept.ite | apply Kept.ite2 | apply Kept.foldl | apply Kept.foldl2 | apply Kept.clrBit | apply h0 | simp only [Kept.mk_iff] | apply Kept.of | apply Kept.with_cmps | apply Kept.cmps | apply Cmps.shaped_peak | apply Cmps.shaped_hold | apply Cmps.shaped_vds | apply Cmps.shaped_ghv | apply Cmps.shaped_ghb | apply Cmps.shaped_ft | apply Cmps.shaped_rev | apply Cmps.shaped_wm | (simp only [Cmps.shaped_mk, setAt_length, modAt_length, unsettleIf_length, cmpSet_length, nibIdle_length, upTo_length, List.length_map, List.length_mapIdx, List.length_replicate]) | (fail_if_no_progress beta_reduce) | (fail_if_no_progress dsimp only) | split | apply And.intro)

theorem Kept.grdCmpFresh {o : State} (g : Nat) (s : State) (h0 : Kept o s) : Kept o (State.grdCmpFresh g s) := by
  unfold Sys2Proof.Machine.State.grdCmpFresh
  dsimp -failIfUnchanged only
  with_reducible repeat' (first | assumption | (intro _) | apply Kept.ite | apply Kept.ite2 | apply Kept.foldl | apply Kept.foldl2 | apply Kept.clrBit | apply h0 | simp only [Kept.mk_iff] | apply Kept.of | apply Kept.with_cmps | apply Kept.cmps | apply Cmps.shaped_peak | apply Cmps.shaped_hold | apply Cmps.shaped_vds | apply Cmps.shaped_ghv | apply Cmps.shaped_ghb | apply Cmps.shaped_ft | apply Cmps.shaped_rev | apply Cmps.shaped_wm | (simp only [Cmps.shaped_mk, setAt_length, modAt_length, unsettleIf_length, cmpSet_length, nibIdle_length, upTo_length, List.length_map, List.length_mapIdx, List.length_replicate]) | (fail_if_no_progress beta_reduce) | (fail_if_no_progress dsimp only) | split | apply And.intro)

theorem Kept.wmFresh {o : State} (n : Nat) (s : State) (h0 : Kept o s) : Kept o (State.wmFresh n s) := by
  unfold Sys2Proof.Machine.State.wmFresh
  dsimp -failIfUnchanged only
  with_reducible repeat' (first | assumption | (intro _) | apply Kept.ite | apply Kept.ite2 | apply Kept.foldl | apply Kept.foldl2 | apply Kept.clrBit | apply h0 | simp only [Kept.mk_iff] | apply Kept.of | apply Kept.with_cmps | apply Kept.cmps | apply Cmps.shaped_peak | apply Cmps.shaped_hold | apply Cmps.shaped_vds | apply Cmps.shaped_ghv | apply Cmps.shaped_ghb | apply Cmps.shaped_ft | apply Cmps.shaped_rev | apply Cmps.shaped_wm | (simp only [Cmps.shaped_mk, setAt_length, modAt_length, unsettleIf_length, cmpSet_length, nibIdle_length, upTo_length, List.length_map, List.length_mapIdx, List.length_replicate]) | (fail_if_no_progress beta_reduce) | (fail_if_no_progress dsimp only) | split | apply And.intro)

theorem Kept.marksLifted {o : State} (s t : State) (h0 : Kept o s) (h1 : Kept o t) : Kept o (State.marksLifted s t) := by
  unfold Sys2Proof.Machine.State.marksLifted
  dsimp -failIfUnchanged only
  with_reducible repeat' (first | assumption | (intro _) | apply Kept.ite | apply Kept.ite2 | apply Kept.foldl | apply Kept.foldl2 | apply Kept.modBank | apply Kept.bankCmpFresh | apply Kept.modChan | apply Kept.chCmpFresh | apply Kept.logIdle | apply Kept.grdFresh | apply Kept.grdCmpFresh | apply Kept.modQuad | apply Kept.modConv | apply Kept.convWins | apply Kept.wmFresh | apply Kept.coarse | apply h0 | apply h1 | simp only [Kept.mk_iff] | apply Kept.of | apply Kept.with_whl | apply Kept.with_ink | constructor | apply Kept.part | apply Kept.pending | apply Kept.regs | apply Kept.clk | apply Kept.hif | apply Kept.evc | apply Kept.sec | apply Kept.whl | apply Kept.sch | apply Kept.banks | apply Kept.quads | apply Kept.ink | apply Kept.grds | apply Kept.adc | apply Kept.cmps | apply Kept.tmrs | apply Kept.nibs | apply Whl.shaped_camK | apply Ink.shaped_rails | apply Bank.shaped_threads | (simp only [Bank.shaped_mk, Ink.shaped_mk, Whl.shaped_mk, setAt_length, modAt_length, unsettleIf_length, cmpSet_length, nibIdle_length, upTo_length, List.length_map, List.length_mapIdx, List.length_replicate]) | (fail_if_no_progress beta_reduce) | (fail_if_no_progress dsimp only) | split | apply And.intro)

theorem Kept.verdict {o : State} (k : Nat) (fails : List UnitFail) (s : State) (h0 : Kept o s) : Kept o (State.verdict k fails s) := by
  unfold Sys2Proof.Machine.State.verdict
  dsimp -failIfUnchanged only
  with_reducible repeat' (first | assumption | (intro _) | apply Kept.ite | apply Kept.ite2 | apply Kept.foldl | apply Kept.foldl2 | apply Kept.marksSet | apply Kept.marksLifted | apply Kept.alarm | apply h0 | simp only [Kept.mk_iff] | apply Kept.of | (fail_if_no_progress beta_reduce) | (fail_if_no_progress dsimp only) | split | apply And.intro)

theorem Kept.blockEnd {o : State} (laneB : Bool) (k : Nat) (fails : List UnitFail) (s : State) (h0 :
    Kept o s) : Kept o (State.blockEnd laneB k fails s) := by
  unfold Sys2Proof.Machine.State.blockEnd
  dsimp -failIfUnchanged only
  with_reducible repeat' (first | assumption | (intro _) | apply Kept.ite | apply Kept.ite2 | apply Kept.foldl | apply Kept.foldl2 | apply Kept.restartUnits | apply Kept.testOver | apply Kept.verdict | apply Kept.laneSkip | apply Kept.passSettle | apply h0 | simp only [Kept.mk_iff] | apply Kept.of | (fail_if_no_progress beta_reduce) | (fail_if_no_progress dsimp only) | split | apply And.intro)

theorem Kept.lateVerdict {o : State} (k : Nat) (fails : List UnitFail) (s : State) (h0 : Kept o s) : Kept o (State.lateVerdict k fails s) := by
  unfold Sys2Proof.Machine.State.lateVerdict
  dsimp -failIfUnchanged only
  with_reducible repeat' (first | assumption | (intro _) | apply Kept.ite | apply Kept.ite2 | apply Kept.foldl | apply Kept.foldl2 | apply Kept.inCycle | apply Kept.verdict | apply h0 | simp only [Kept.mk_iff] | apply Kept.of | (fail_if_no_progress beta_reduce) | (fail_if_no_progress dsimp only) | split | apply And.intro)

/-! HostBus -/

theorem Kept.abort {o : State} (s : State) (h0 : Kept o s) : Kept o (State.abort s) := by
  unfold Sys2Proof.Machine.State.abort
  dsimp -failIfUnchanged only
  with_reducible repeat' (first | assumption | (intro _) | apply Kept.ite | apply Kept.ite2 | apply Kept.foldl | apply Kept.foldl2 | apply Kept.calAbort | apply Kept.endBusy | apply Kept.commitAbort | apply Kept.modSec | apply Kept.tstEnd | apply h0 | apply Sec.shaped_resp | apply Sec.shaped_key | (simp only [Sec.shaped_mk, setAt_length, modAt_length, unsettleIf_length, cmpSet_length, nibIdle_length, upTo_length, List.length_map, List.length_mapIdx, List.length_replicate]) | (fail_if_no_progress beta_reduce) | (fail_if_no_progress dsimp only) | split | apply And.intro)

theorem Kept.abortWrite {o : State} (p : Port) (v : Word) (s : State) (h0 : Kept o s) : Kept o (State.abortWrite p v s) := by
  unfold Sys2Proof.Machine.State.abortWrite
  dsimp -failIfUnchanged only
  with_reducible repeat' (first | assumption | (intro _) | apply Kept.ite | apply Kept.ite2 | apply Kept.foldl | apply Kept.foldl2 | apply Kept.touch | apply Kept.abort | apply h0 | (fail_if_no_progress beta_reduce) | (fail_if_no_progress dsimp only) | split | apply And.intro)

theorem Kept.sweepWrite {o : State} (p : Port) (v : Word) (s : State) (h0 : Kept o s) : Kept o (State.sweepWrite p v s) := by
  unfold Sys2Proof.Machine.State.sweepWrite
  dsimp -failIfUnchanged only
  with_reducible repeat' (first | assumption | (intro _) | apply Kept.ite | apply Kept.ite2 | apply Kept.foldl | apply Kept.foldl2 | apply Kept.fieldsWrite | apply Kept.addSat | apply h0 | (fail_if_no_progress beta_reduce) | (fail_if_no_progress dsimp only) | split | apply And.intro)

theorem Kept.coalWrite {o : State} (p : Port) (k : Nat) (v : Word) (s : State) (h0 : Kept o s) : Kept o (State.coalWrite p k v s) := by
  unfold Sys2Proof.Machine.State.coalWrite
  dsimp -failIfUnchanged only
  with_reducible repeat' (first | assumption | (intro _) | apply Kept.ite | apply Kept.ite2 | apply Kept.foldl | apply Kept.foldl2 | apply Kept.fieldsWrite | apply Kept.addSat | apply h0 | (fail_if_no_progress beta_reduce) | (fail_if_no_progress dsimp only) | split | apply And.intro)

theorem Kept.gainWrite {o : State} (p : Port) (v : Word) (s : State) (h0 : Kept o s) : Kept o (State.gainWrite p v s) := by
  unfold Sys2Proof.Machine.State.gainWrite
  dsimp -failIfUnchanged only
  with_reducible repeat' (first | assumption | (intro _) | apply Kept.ite | apply Kept.ite2 | apply Kept.foldl | apply Kept.foldl2 | apply Kept.fieldsWrite | apply h0 | (fail_if_no_progress beta_reduce) | (fail_if_no_progress dsimp only) | split | apply And.intro)

theorem Kept.baseWrite {o : State} (p : Port) (r a : Nat) (v : Word) (s : State) (h0 : Kept o s) : Kept o (State.baseWrite p r a v s) := by
  unfold Sys2Proof.Machine.State.baseWrite
  dsimp -failIfUnchanged only
  with_reducible repeat' (first | assumption | (intro _) | apply Kept.ite | apply Kept.ite2 | apply Kept.foldl | apply Kept.foldl2 | apply Kept.fieldsWrite | apply h0 | (fail_if_no_progress beta_reduce) | (fail_if_no_progress dsimp only) | split | apply And.intro)

theorem Kept.phraseRegWrite {o : State} (p : Port) (q a : Nat) (v : Word) (s : State) (h0 : Kept o s) : Kept o (State.phraseRegWrite p q a v s) := by
  unfold Sys2Proof.Machine.State.phraseRegWrite
  dsimp -failIfUnchanged only
  with_reducible repeat' (first | assumption | (intro _) | apply Kept.ite | apply Kept.ite2 | apply Kept.foldl | apply Kept.foldl2 | apply Kept.fieldsWrite | apply Kept.count | apply Kept.modQuad | apply h0 | (fail_if_no_progress beta_reduce) | (fail_if_no_progress dsimp only) | split | apply And.intro)

theorem Kept.evcCmd {o : State} (t : Nat) (v : Word) (s : State) (h0 : Kept o s) : Kept o (State.evcCmd t v s) := by
  unfold Sys2Proof.Machine.State.evcCmd
  dsimp -failIfUnchanged only
  with_reducible repeat' (first | assumption | (intro _) | apply Kept.ite | apply Kept.ite2 | apply Kept.foldl | apply Kept.foldl2 | apply Kept.claim | apply Kept.complete | apply Kept.releaseTgt | apply h0 | (fail_if_no_progress beta_reduce) | (fail_if_no_progress dsimp only) | split | apply And.intro)

theorem Kept.pendClear {o : State} (base : Nat) (v : Word) (s : State) (h0 : Kept o s) : Kept o (State.pendClear base v s) := by
  unfold Sys2Proof.Machine.State.pendClear
  dsimp -failIfUnchanged only
  with_reducible repeat' (first | assumption | (intro _) | apply Kept.ite | apply Kept.ite2 | apply Kept.foldl | apply Kept.foldl2 | apply Kept.clearPend | apply h0 | (fail_if_no_progress beta_reduce) | (fail_if_no_progress dsimp only) | split | apply And.intro)

theorem Kept.secretWrite {o : State} (a : Nat) (v : Word) (s : State) (h0 : Kept o s) : Kept o (State.secretWrite a v s) := by
  unfold Sys2Proof.Machine.State.secretWrite
  dsimp -failIfUnchanged only
  with_reducible repeat' (first | assumption | (intro _) | apply Kept.ite | apply Kept.ite2 | apply Kept.foldl | apply Kept.foldl2 | apply Kept.modSec | apply h0 | apply Sec.shaped_resp | apply Sec.shaped_key | (simp only [Sec.shaped_mk, setAt_length, modAt_length, unsettleIf_length, cmpSet_length, nibIdle_length, upTo_length, List.length_map, List.length_mapIdx, List.length_replicate]) | (fail_if_no_progress beta_reduce) | (fail_if_no_progress dsimp only) | split | apply And.intro)

theorem Kept.writeLow {o : State} (p : Port) (a : Nat) (v : Word) (s : State) (h0 : Kept o s) : Kept o (State.writeLow p a v s) := by
  unfold Sys2Proof.Machine.State.writeLow
  dsimp -failIfUnchanged only
  with_reducible repeat' (first | assumption | (intro _) | apply Kept.ite | apply Kept.ite2 | apply Kept.foldl | apply Kept.foldl2 | apply Kept.fbAccess | apply Kept.sessWrite | apply Kept.secretWrite | apply Kept.kprovWrite | apply Kept.commitWrite | apply Kept.jctrlWrite | apply Kept.engineCtrl | apply Kept.sweepWrite | apply Kept.ringCfg | apply Kept.baseWrite | apply Kept.fieldsWrite | apply h0 | (fail_if_no_progress beta_reduce) | (fail_if_no_progress dsimp only) | split | apply And.intro)

theorem Kept.writeMid {o : State} (p : Port) (a : Nat) (v : Word) (s : State) (h0 : Kept o s) : Kept o (State.writeMid p a v s) := by
  unfold Sys2Proof.Machine.State.writeMid
  dsimp -failIfUnchanged only
  with_reducible repeat' (first | assumption | (intro _) | apply Kept.ite | apply Kept.ite2 | apply Kept.foldl | apply Kept.foldl2 | apply Kept.syncResetWrite | apply Kept.aclkWrite | apply Kept.gainWrite | apply Kept.terrAccess | apply Kept.phraseRegWrite | apply Kept.ptabAccess | apply Kept.fieldsWrite | apply h0 | (fail_if_no_progress beta_reduce) | (fail_if_no_progress dsimp only) | split | apply And.intro)

theorem Kept.writeNib {o : State} (p : Port) (a : Nat) (v : Word) (s : State) (h0 : Kept o s) : Kept o (State.writeNib p a v s) := by
  unfold Sys2Proof.Machine.State.writeNib
  dsimp -failIfUnchanged only
  with_reducible repeat' (first | assumption | (intro _) | apply Kept.ite | apply Kept.ite2 | apply Kept.foldl | apply Kept.foldl2 | apply Kept.marginSet | apply Kept.strokeLo | apply Kept.strokeHi | apply Kept.nibWrite | apply Kept.txWrite | apply Kept.fieldsWrite | apply h0 | (fail_if_no_progress beta_reduce) | (fail_if_no_progress dsimp only) | split | apply And.intro)

theorem Kept.writeHigh {o : State} (p : Port) (a : Nat) (v : Word) (s : State) (h0 : Kept o s) : Kept o (State.writeHigh p a v s) := by
  unfold Sys2Proof.Machine.State.writeHigh
  dsimp -failIfUnchanged only
  with_reducible repeat' (first | assumption | (intro _) | apply Kept.ite | apply Kept.ite2 | apply Kept.foldl | apply Kept.foldl2 | apply Kept.grdCtrlWrite | apply Kept.fieldsWrite | apply Kept.calWrite | apply Kept.moveWrite | apply Kept.accAccess | apply Kept.tmrStartWrite | apply Kept.tmrStopWrite | apply Kept.reloadWrite | apply Kept.cmpWrite | apply Kept.writeNib | apply Kept.pendClear | apply Kept.coalWrite | apply Kept.evcCmd | apply Kept.retrainWrite | apply h0 | (fail_if_no_progress beta_reduce) | (fail_if_no_progress dsimp only) | split | apply And.intro)

theorem Kept.windowWrite {o : State} (p : Port) (a : Nat) (ws : List Word) (s : State) (h0 : Kept o s) : Kept o (State.windowWrite p a ws s) := by
  unfold Sys2Proof.Machine.State.windowWrite
  dsimp -failIfUnchanged only
  with_reducible repeat' (first | assumption | (intro _) | apply Kept.ite | apply Kept.ite2 | apply Kept.foldl | apply Kept.foldl2 | apply Kept.count | apply Kept.askQuad | apply Kept.putShadow | apply Kept.markDirty | apply Kept.modQuad | apply Kept.deny | apply h0 | (fail_if_no_progress beta_reduce) | (fail_if_no_progress dsimp only) | split | apply And.intro)

theorem Kept.windowRead {o : State} (a n : Nat) (s : State) (h0 : Kept o s) : Kept o (State.windowRead a n s) := by
  unfold Sys2Proof.Machine.State.windowRead
  dsimp -failIfUnchanged only
  with_reducible repeat' (first | assumption | (intro _) | apply Kept.ite | apply Kept.ite2 | apply Kept.foldl | apply Kept.foldl2 | apply Kept.askQuad | apply Kept.answer | apply h0 | (fail_if_no_progress beta_reduce) | (fail_if_no_progress dsimp only) | split | apply And.intro)

theorem Kept.msixWrite {o : State} (a : Nat) (v : Word) (s : State) (h0 : Kept o s) : Kept o (State.msixWrite a v s) := by
  unfold Sys2Proof.Machine.State.msixWrite
  dsimp -failIfUnchanged only
  with_reducible repeat' (first | assumption | (intro _) | apply Kept.ite | apply Kept.ite2 | apply Kept.foldl | apply Kept.foldl2 | apply Kept.putWord | apply Kept.unmask | apply h0 | (fail_if_no_progress beta_reduce) | (fail_if_no_progress dsimp only) | split | apply And.intro)

theorem Kept.msixRead {o : State} (a : Nat) (s : State) (h0 : Kept o s) : Kept o (State.msixRead a s) := by
  unfold Sys2Proof.Machine.State.msixRead
  dsimp -failIfUnchanged only
  with_reducible repeat' (first | assumption | (intro _) | apply Kept.ite | apply Kept.ite2 | apply Kept.foldl | apply Kept.foldl2 | apply Kept.answer | apply h0 | (fail_if_no_progress beta_reduce) | (fail_if_no_progress dsimp only) | split | apply And.intro)

theorem Kept.wordWrite {o : State} (p : Port) (a : Nat) (v : Word) (s : State) (h0 : Kept o s) : Kept o (State.wordWrite p a v s) := by
  unfold Sys2Proof.Machine.State.wordWrite
  dsimp -failIfUnchanged only
  with_reducible repeat' (first | assumption | (intro _) | apply Kept.ite | apply Kept.ite2 | apply Kept.foldl | apply Kept.foldl2 | apply Kept.abortWrite | apply Kept.heartbeat | apply Kept.msixWrite | apply Kept.modeRequest | apply Kept.softReset | apply Kept.fallbackWrite | apply Kept.tstWrite | apply Kept.onWrite | apply Kept.windowWrite | apply Kept.writeLow | apply Kept.writeMid | apply Kept.writeHigh | apply h0 | (fail_if_no_progress beta_reduce) | (fail_if_no_progress dsimp only) | split | apply And.intro)

theorem Kept.clearRead {o : State} (rc a : Nat) (s : State) (h0 : Kept o s) : Kept o (State.clearRead rc a s) := by
  unfold Sys2Proof.Machine.State.clearRead
  dsimp -failIfUnchanged only
  with_reducible repeat' (first | assumption | (intro _) | apply Kept.ite | apply Kept.ite2 | apply Kept.foldl | apply Kept.foldl2 | apply Kept.putWord | apply Kept.inCycle | apply h0 | (fail_if_no_progress beta_reduce) | (fail_if_no_progress dsimp only) | split | apply And.intro)

theorem Kept.afterRead {o : State} (r : RegRow) (a : Nat) (s : State) (h0 : Kept o s) : Kept o (State.afterRead r a s) := by
  unfold Sys2Proof.Machine.State.afterRead
  dsimp -failIfUnchanged only
  with_reducible repeat' (first | assumption | (intro _) | apply Kept.ite | apply Kept.ite2 | apply Kept.foldl | apply Kept.foldl2 | apply Kept.clearRead | apply Kept.set | apply Kept.modTmr | apply h0 | (fail_if_no_progress beta_reduce) | (fail_if_no_progress dsimp only) | split | apply And.intro)

theorem Kept.plainRead {o : State} (a : Nat) (s : State) (h0 : Kept o s) : Kept o (State.plainRead a s) := by
  unfold Sys2Proof.Machine.State.plainRead
  dsimp -failIfUnchanged only
  with_reducible repeat' (first | assumption | (intro _) | apply Kept.ite | apply Kept.ite2 | apply Kept.foldl | apply Kept.foldl2 | apply Kept.afterRead | apply Kept.answer | apply h0 | (fail_if_no_progress beta_reduce) | (fail_if_no_progress dsimp only) | split | apply And.intro)

theorem Kept.readOpen {o : State} (p : Port) (a : Nat) (s : State) (h0 : Kept o s) : Kept o (State.readOpen p a s) := by
  unfold Sys2Proof.Machine.State.readOpen
  dsimp -failIfUnchanged only
  with_reducible repeat' (first | assumption | (intro _) | apply Kept.ite | apply Kept.ite2 | apply Kept.foldl | apply Kept.foldl2 | apply Kept.windowRead | apply Kept.fbAccess | apply Kept.jRead | apply Kept.stampRead | apply Kept.answer | apply Kept.angleRead | apply Kept.terrAccess | apply Kept.ptabAccess | apply Kept.energyRead | apply Kept.accAccess | apply Kept.strokeRead | apply Kept.sidxAdvance | apply Kept.rxRead | apply Kept.plainRead | apply h0 | (fail_if_no_progress beta_reduce) | (fail_if_no_progress dsimp only) | split | apply And.intro)

theorem Kept.wordRead {o : State} (p : Port) (a : Nat) (s : State) (h0 : Kept o s) : Kept o (State.wordRead p a s) := by
  unfold Sys2Proof.Machine.State.wordRead
  dsimp -failIfUnchanged only
  with_reducible repeat' (first | assumption | (intro _) | apply Kept.ite | apply Kept.ite2 | apply Kept.foldl | apply Kept.foldl2 | apply Kept.msixRead | apply Kept.touch | apply Kept.answer | apply Kept.onRead | apply Kept.readOpen | apply h0 | (fail_if_no_progress beta_reduce) | (fail_if_no_progress dsimp only) | split | apply And.intro)

theorem Kept.badAccess {o : State} (p : Port) (s : State) (h0 : Kept o s) : Kept o (State.badAccess p s) := by
  unfold Sys2Proof.Machine.State.badAccess
  dsimp -failIfUnchanged only
  with_reducible repeat' (first | assumption | (intro _) | apply Kept.ite | apply Kept.ite2 | apply Kept.foldl | apply Kept.foldl2 | apply Kept.count | apply h0 | (fail_if_no_progress beta_reduce) | (fail_if_no_progress dsimp only) | split | apply And.intro)

theorem Kept.spiBegin {o : State} (s : State) (h0 : Kept o s) : Kept o (State.spiBegin s) := by
  unfold Sys2Proof.Machine.State.spiBegin
  dsimp -failIfUnchanged only
  with_reducible repeat' (first | assumption | (intro _) | apply Kept.ite | apply Kept.ite2 | apply Kept.foldl | apply Kept.foldl2 | apply h0 | simp only [Kept.mk_iff] | apply Kept.of | apply Kept.with_hif | apply Kept.hif | apply Hif.shaped_rings | apply Hif.shaped_vecPend | apply Hif.shaped_cqFull | (simp only [Hif.shaped_mk, setAt_length, modAt_length, unsettleIf_length, cmpSet_length, nibIdle_length, upTo_length, List.length_map, List.length_mapIdx, List.length_replicate]) | (fail_if_no_progress beta_reduce) | (fail_if_no_progress dsimp only) | split | apply And.intro)

theorem Kept.spiReadWord {o : State} (header : Word) (x : List Nat × State) (i : Nat) (h0 :
    Kept o x.2) : Kept o ((State.spiReadWord header x i).2) := by
  unfold Sys2Proof.Machine.State.spiReadWord
  dsimp -failIfUnchanged only
  with_reducible repeat' (first | assumption | (intro _) | apply Kept.ite | apply Kept.ite2 | apply Kept.foldl | apply Kept.foldl2 | apply Kept.wordRead | apply Kept.badAccess | apply Kept.answer | apply h0 | (fail_if_no_progress beta_reduce) | (fail_if_no_progress dsimp only) | split | apply And.intro)

theorem Kept.spiIgnored {o : State} (s : State) (h0 : Kept o s) : Kept o (State.spiIgnored s) := by
  unfold Sys2Proof.Machine.State.spiIgnored
  dsimp -failIfUnchanged only
  with_reducible repeat' (first | assumption | (intro _) | apply Kept.ite | apply Kept.ite2 | apply Kept.foldl | apply Kept.foldl2 | apply h0 | simp only [Kept.mk_iff] | apply Kept.of | (fail_if_no_progress beta_reduce) | (fail_if_no_progress dsimp only) | split | apply And.intro)

theorem Kept.spiWords {o : State} (header : Word) (ws : List Word) (s : State) (h0 : Kept o s) : Kept o (State.spiWords header ws s) := by
  unfold Sys2Proof.Machine.State.spiWords
  dsimp -failIfUnchanged only
  with_reducible repeat' (first | assumption | (intro _) | apply Kept.ite | apply Kept.ite2 | apply Kept.foldl | apply Kept.foldl2 | apply Kept.wordWrite | apply Kept.badAccess | apply h0 | (fail_if_no_progress beta_reduce) | (fail_if_no_progress dsimp only) | split | apply And.intro)

/-! Reed -/

theorem Kept.edueNow {o : State} (b t : Nat) (s : State) (h0 : Kept o s) : Kept o (State.edueNow b t s) := by
  unfold Sys2Proof.Machine.State.edueNow
  dsimp -failIfUnchanged only
  with_reducible repeat' (first | assumption | (intro _) | apply Kept.ite | apply Kept.ite2 | apply Kept.foldl | apply Kept.foldl2 | apply Kept.modThread | apply h0 | apply Bank.shaped_threads | (simp only [Bank.shaped_mk, setAt_length, modAt_length, unsettleIf_length, cmpSet_length, nibIdle_length, upTo_length, List.length_map, List.length_mapIdx, List.length_replicate]) | (fail_if_no_progress beta_reduce) | (fail_if_no_progress dsimp only) | split | apply And.intro)

theorem Kept.fault {o : State} (b t pc cause : Nat) (s : State) (h0 : Kept o s) : Kept o (State.fault b t pc cause s) := by
  unfold Sys2Proof.Machine.State.fault
  dsimp -failIfUnchanged only
  with_reducible repeat' (first | assumption | (intro _) | apply Kept.ite | apply Kept.ite2 | apply Kept.foldl | apply Kept.foldl2 | apply Kept.killThread | apply Kept.putWord | apply Kept.count | apply Kept.alarm | apply h0 | (fail_if_no_progress beta_reduce) | (fail_if_no_progress dsimp only) | split | apply And.intro)

theorem Kept.onNote {o : State} (s : State) (b t : Nat) (test : Note → Bool) (f : Note → State → State) (h0 :
    Kept o s) (h1 : ∀ z x, Kept o x → Kept o (f z x)) : Kept o (State.onNote s b t test f) := by
  unfold Sys2Proof.Machine.State.onNote
  dsimp -failIfUnchanged only
  with_reducible repeat' (first | assumption | (intro _) | apply Kept.ite | apply Kept.ite2 | apply Kept.foldl | apply Kept.foldl2 | apply Kept.edueNow | apply Kept.modBank | apply Kept.fault | apply Kept.modThread | apply Kept.settleBank | apply h0 | apply h1 | apply Bank.shaped_threads | (simp only [Bank.shaped_mk, setAt_length, modAt_length, unsettleIf_length, cmpSet_length, nibIdle_length, upTo_length, List.length_map, List.length_mapIdx, List.length_replicate]) | (fail_if_no_progress beta_reduce) | (fail_if_no_progress dsimp only) | split | apply And.intro)

theorem Kept.lateEdge {o : State} (b t : Nat) (s : State) (h0 : Kept o s) : Kept o (State.lateEdge b t s) := by
  unfold Sys2Proof.Machine.State.lateEdge
  dsimp -failIfUnchanged only
  with_reducible repeat' (first | assumption | (intro _) | apply Kept.ite | apply Kept.ite2 | apply Kept.foldl | apply Kept.foldl2 | apply Kept.count | apply Kept.modChan | apply Kept.modEvent | apply Kept.modThread | apply h0 | apply Bank.shaped_threads | apply Kept.id | (simp only [Bank.shaped_mk, setAt_length, modAt_length, unsettleIf_length, cmpSet_length, nibIdle_length, upTo_length, List.length_map, List.length_mapIdx, List.length_replicate]) | (fail_if_no_progress beta_reduce) | (fail_if_no_progress dsimp only) | split | apply And.intro)

theorem Kept.takePlace {o : State} (b t : Nat) (s : State) (h0 : Kept o s) : Kept o ((State.takePlace b t s).2) := by
  unfold Sys2Proof.Machine.State.takePlace
  dsimp -failIfUnchanged only
  with_reducible repeat' (first | assumption | (intro _) | apply Kept.ite | apply Kept.ite2 | apply Kept.foldl | apply Kept.foldl2 | apply Kept.modThread | apply Kept.lateEdge | apply h0 | apply Bank.shaped_threads | (simp only [Bank.shaped_mk, setAt_length, modAt_length, unsettleIf_length, cmpSet_length, nibIdle_length, upTo_length, List.length_map, List.length_mapIdx, List.length_replicate]) | (fail_if_no_progress beta_reduce) | (fail_if_no_progress dsimp only) | split | apply And.intro)

theorem Kept.gateField {o : State} (b t : Nat) (g : Gate) (code : Nat) (was : Bool) (at' : Option Tb) (s : State) (h0 :
    Kept o s) : Kept o (State.gateField b t g code was at' s) := by
  unfold Sys2Proof.Machine.State.gateField
  dsimp -failIfUnchanged only
  with_reducible repeat' (first | assumption | (intro _) | apply Kept.ite | apply Kept.ite2 | apply Kept.foldl | apply Kept.foldl2 | apply Kept.placeEdge | apply h0 | (fail_if_no_progress beta_reduce) | (fail_if_no_progress dsimp only) | split | apply And.intro)

theorem Kept.gateNote {o : State} (b t : Nat) (n : Note) (s : State) (h0 : Kept o s) : Kept o (State.gateNote b t n s) := by
  unfold Sys2Proof.Machine.State.gateNote
  dsimp -failIfUnchanged only
  with_reducible repeat' (first | assumption | (intro _) | apply Kept.ite | apply Kept.ite2 | apply Kept.foldl | apply Kept.foldl2 | apply Kept.fault | apply Kept.takePlace | apply Kept.modThread | apply Kept.gateField | apply h0 | apply Bank.shaped_threads | (simp only [Bank.shaped_mk, setAt_length, modAt_length, unsettleIf_length, cmpSet_length, nibIdle_length, upTo_length, List.length_map, List.length_mapIdx, List.length_replicate]) | (fail_if_no_progress beta_reduce) | (fail_if_no_progress dsimp only) | split | apply And.intro)

theorem Kept.grant {o : State} (b t : Nat) (s : State) (h0 : Kept o s) : Kept o (State.grant b t s) := by
  unfold Sys2Proof.Machine.State.grant
  dsimp -failIfUnchanged only
  with_reducible repeat' (first | assumption | (intro _) | apply Kept.ite | apply Kept.ite2 | apply Kept.foldl | apply Kept.foldl2 | apply Kept.modBank | apply Kept.clrLatch | apply Kept.count | apply Kept.modChan | apply Kept.modEvent | apply Kept.modThread | apply Kept.wait | apply Kept.claim | apply Kept.dueEdges | apply h0 | simp only [Kept.mk_iff] | apply Kept.of | apply Bank.shaped_threads | apply Kept.id | (simp only [Bank.shaped_mk, setAt_length, modAt_length, unsettleIf_length, cmpSet_length, nibIdle_length, upTo_length, List.length_map, List.length_mapIdx, List.length_replicate]) | (fail_if_no_progress beta_reduce) | (fail_if_no_progress dsimp only) | split | apply And.intro)

theorem Kept.claimNote {o : State} (b t : Nat) (s : State) (h0 : Kept o s) : Kept o (State.claimNote b t s) := by
  unfold Sys2Proof.Machine.State.claimNote
  dsimp -failIfUnchanged only
  with_reducible repeat' (first | assumption | (intro _) | apply Kept.ite | apply Kept.ite2 | apply Kept.foldl | apply Kept.foldl2 | apply Kept.modThread | apply Kept.wait | apply Kept.claim | apply Kept.grant | apply h0 | apply Bank.shaped_threads | (simp only [Bank.shaped_mk, setAt_length, modAt_length, unsettleIf_length, cmpSet_length, nibIdle_length, upTo_length, List.length_map, List.length_mapIdx, List.length_replicate]) | (fail_if_no_progress beta_reduce) | (fail_if_no_progress dsimp only) | split | apply And.intro)

theorem Kept.decideClaim {o : State} (b t : Nat) (s : State) (h0 : Kept o s) : Kept o (State.decideClaim b t s) := by
  unfold Sys2Proof.Machine.State.decideClaim
  dsimp -failIfUnchanged only
  with_reducible repeat' (first | assumption | (intro _) | apply Kept.ite | apply Kept.ite2 | apply Kept.foldl | apply Kept.foldl2 | apply Kept.grant | apply h0 | (fail_if_no_progress beta_reduce) | (fail_if_no_progress dsimp only) | split | apply And.intro)

theorem Kept.passToken {o : State} (b : Nat) (s : State) (h0 : Kept o s) : Kept o (State.passToken b s) := by
  unfold Sys2Proof.Machine.State.passToken
  dsimp -failIfUnchanged only
  with_reducible repeat' (first | assumption | (intro _) | apply Kept.ite | apply Kept.ite2 | apply Kept.foldl | apply Kept.foldl2 | apply Kept.grant | apply h0 | (fail_if_no_progress beta_reduce) | (fail_if_no_progress dsimp only) | split | apply And.intro)

theorem Kept.susEndNote {o : State} (b t : Nat) (s : State) (h0 : Kept o s) : Kept o (State.susEndNote b t s) := by
  unfold Sys2Proof.Machine.State.susEndNote
  dsimp -failIfUnchanged only
  with_reducible repeat' (first | assumption | (intro _) | apply Kept.ite | apply Kept.ite2 | apply Kept.foldl | apply Kept.foldl2 | apply Kept.takePlace | apply Kept.switchOff | apply Kept.modThread | apply Kept.wait | apply h0 | apply Bank.shaped_threads | (simp only [Bank.shaped_mk, setAt_length, modAt_length, unsettleIf_length, cmpSet_length, nibIdle_length, upTo_length, List.length_map, List.length_mapIdx, List.length_replicate]) | (fail_if_no_progress beta_reduce) | (fail_if_no_progress dsimp only) | split | apply And.intro)

theorem Kept.endNote {o : State} (b t : Nat) (s : State) (h0 : Kept o s) : Kept o (State.endNote b t s) := by
  unfold Sys2Proof.Machine.State.endNote
  dsimp -failIfUnchanged only
  with_reducible repeat' (first | assumption | (intro _) | apply Kept.ite | apply Kept.ite2 | apply Kept.foldl | apply Kept.foldl2 | apply Kept.takePlace | apply Kept.modThread | apply Kept.endThread | apply h0 | apply Bank.shaped_threads | (simp only [Bank.shaped_mk, setAt_length, modAt_length, unsettleIf_length, cmpSet_length, nibIdle_length, upTo_length, List.length_map, List.length_mapIdx, List.length_replicate]) | (fail_if_no_progress beta_reduce) | (fail_if_no_progress dsimp only) | split | apply And.intro)

theorem Kept.closeWatch {o : State} (b t : Nat) (s : State) (h0 : Kept o s) : Kept o (State.closeWatch b t s) := by
  unfold Sys2Proof.Machine.State.closeWatch
  dsimp -failIfUnchanged only
  with_reducible repeat' (first | assumption | (intro _) | apply Kept.ite | apply Kept.ite2 | apply Kept.foldl | apply Kept.foldl2 | apply Kept.wait | apply Kept.merge | apply Kept.modThread | apply h0 | apply Bank.shaped_threads | (simp only [Bank.shaped_mk, setAt_length, modAt_length, unsettleIf_length, cmpSet_length, nibIdle_length, upTo_length, List.length_map, List.length_mapIdx, List.length_replicate]) | (fail_if_no_progress beta_reduce) | (fail_if_no_progress dsimp only) | split | apply And.intro)

theorem Kept.markNote {o : State} (b t : Nat) (n : Note) (s : State) (h0 : Kept o s) : Kept o (State.markNote b t n s) := by
  unfold Sys2Proof.Machine.State.markNote
  dsimp -failIfUnchanged only
  with_reducible repeat' (first | assumption | (intro _) | apply Kept.ite | apply Kept.ite2 | apply Kept.foldl | apply Kept.foldl2 | apply Kept.modEvent | apply Kept.markWins | apply Kept.markUrgent | apply Kept.trace | apply h0 | (fail_if_no_progress beta_reduce) | (fail_if_no_progress dsimp only) | split | apply And.intro)

theorem Kept.sampleNote {o : State} (b t : Nat) (n : Note) (s : State) (h0 : Kept o s) : Kept o (State.sampleNote b t n s) := by
  unfold Sys2Proof.Machine.State.sampleNote
  dsimp -failIfUnchanged only
  with_reducible repeat' (first | assumption | (intro _) | apply Kept.ite | apply Kept.ite2 | apply Kept.foldl | apply Kept.foldl2 | apply Kept.count | apply Kept.closeWin | apply Kept.modThread | apply Kept.openWin | apply h0 | apply Bank.shaped_threads | (simp only [Bank.shaped_mk, setAt_length, modAt_length, unsettleIf_length, cmpSet_length, nibIdle_length, upTo_length, List.length_map, List.length_mapIdx, List.length_replicate]) | (fail_if_no_progress beta_reduce) | (fail_if_no_progress dsimp only) | split | apply And.intro)

theorem Kept.go {o : State} (b t : Nat) (tgt : Option Nat) (s : State) (h0 : Kept o s) : Kept o (State.go b t tgt s) := by
  unfold Sys2Proof.Machine.State.go
  dsimp -failIfUnchanged only
  with_reducible repeat' (first | assumption | (intro _) | apply Kept.ite | apply Kept.ite2 | apply Kept.foldl | apply Kept.foldl2 | apply Kept.modThread | apply Kept.wait | apply h0 | apply Bank.shaped_threads | (simp only [Bank.shaped_mk, setAt_length, modAt_length, unsettleIf_length, cmpSet_length, nibIdle_length, upTo_length, List.length_map, List.length_mapIdx, List.length_replicate]) | (fail_if_no_progress beta_reduce) | (fail_if_no_progress dsimp only) | split | apply And.intro)

theorem Kept.targetReached {o : State} (b t : Nat) (s : State) (h0 : Kept o s) : Kept o (State.targetReached b t s) := by
  unfold Sys2Proof.Machine.State.targetReached
  dsimp -failIfUnchanged only
  with_reducible repeat' (first | assumption | (intro _) | apply Kept.ite | apply Kept.ite2 | apply Kept.foldl | apply Kept.foldl2 | apply Kept.wait | apply Kept.edueNow | apply Kept.modThread | apply Kept.go | apply h0 | apply Bank.shaped_threads | (simp only [Bank.shaped_mk, setAt_length, modAt_length, unsettleIf_length, cmpSet_length, nibIdle_length, upTo_length, List.length_map, List.length_mapIdx, List.length_replicate]) | (fail_if_no_progress beta_reduce) | (fail_if_no_progress dsimp only) | split | apply And.intro)

theorem Kept.conditionMet {o : State} (b t : Nat) (s : State) (h0 : Kept o s) : Kept o (State.conditionMet b t s) := by
  unfold Sys2Proof.Machine.State.conditionMet
  dsimp -failIfUnchanged only
  with_reducible repeat' (first | assumption | (intro _) | apply Kept.ite | apply Kept.ite2 | apply Kept.foldl | apply Kept.foldl2 | apply Kept.wait | apply Kept.edueNow | apply Kept.go | apply Kept.noKink | apply h0 | (fail_if_no_progress beta_reduce) | (fail_if_no_progress dsimp only) | split | apply And.intro)

/-! Tick -/

theorem Kept.tickAon {o : State} (s : State) (h0 : Kept o s) : Kept o (State.tickAon s) := by
  unfold Sys2Proof.Machine.State.tickAon
  dsimp -failIfUnchanged only
  with_reducible repeat' (first | assumption | (intro _) | apply Kept.ite | apply Kept.ite2 | apply Kept.foldl | apply Kept.foldl2 | apply h0 | simp only [Kept.mk_iff] | apply Kept.of | apply Kept.with_clk | apply Kept.clk | apply Clk.shaped_qrun | apply Clk.shaped_qidle | (simp only [Clk.shaped_mk, setAt_length, modAt_length, unsettleIf_length, cmpSet_length, nibIdle_length, upTo_length, List.length_map, List.length_mapIdx, List.length_replicate]) | (fail_if_no_progress beta_reduce) | (fail_if_no_progress dsimp only) | split | apply And.intro)

theorem Kept.tickTb {o : State} (s : State) (h0 : Kept o s) : Kept o (State.tickTb s) := by
  unfold Sys2Proof.Machine.State.tickTb
  dsimp -failIfUnchanged only
  with_reducible repeat' (first | assumption | (intro _) | apply Kept.ite | apply Kept.ite2 | apply Kept.foldl | apply Kept.foldl2 | apply Kept.tickAon | apply h0 | simp only [Kept.mk_iff] | apply Kept.of | apply Kept.with_clk | apply Kept.with_regs | constructor | apply Kept.part | apply Kept.pending | apply Kept.regs | apply Kept.clk | apply Kept.hif | apply Kept.evc | apply Kept.sec | apply Kept.whl | apply Kept.sch | apply Kept.banks | apply Kept.quads | apply Kept.ink | apply Kept.grds | apply Kept.adc | apply Kept.cmps | apply Kept.tmrs | apply Kept.nibs | apply RegsKept.image | apply RegsKept.imgKind | apply RegsKept.live | apply RegsKept.shadow | apply RegsKept.imageWf | apply Clk.shaped_qrun | apply Clk.shaped_qidle | (simp only [Clk.shaped_mk, RegsKept_mk, setAt_length, modAt_length, unsettleIf_length, cmpSet_length, nibIdle_length, upTo_length, List.length_map, List.length_mapIdx, List.length_replicate]) | (fail_if_no_progress beta_reduce) | (fail_if_no_progress dsimp only) | split | apply And.intro)

theorem Kept.tickAngle {o : State} (s : State) (h0 : Kept o s) : Kept o (State.tickAngle s) := by
  unfold Sys2Proof.Machine.State.tickAngle
  dsimp -failIfUnchanged only
  with_reducible repeat' (first | assumption | (intro _) | apply Kept.ite | apply Kept.ite2 | apply Kept.foldl | apply Kept.foldl2 | apply Kept.moveClock | apply h0 | simp only [Kept.mk_iff] | apply Kept.of | (fail_if_no_progress beta_reduce) | (fail_if_no_progress dsimp only) | split | apply And.intro)

theorem Kept.tickCounts {o : State} (s : State) (h0 : Kept o s) : Kept o (State.tickCounts s) := by
  unfold Sys2Proof.Machine.State.tickCounts
  dsimp -failIfUnchanged only
  with_reducible repeat' (first | assumption | (intro _) | apply Kept.ite | apply Kept.ite2 | apply Kept.foldl | apply Kept.foldl2 | apply Kept.count | apply h0 | simp only [Kept.mk_iff] | apply Kept.of | apply Kept.with_sch | apply Kept.sch | apply Sch.shaped_chans | (simp only [Sch.shaped_mk, setAt_length, modAt_length, unsettleIf_length, cmpSet_length, nibIdle_length, upTo_length, List.length_map, List.length_mapIdx, List.length_replicate]) | (fail_if_no_progress beta_reduce) | (fail_if_no_progress dsimp only) | split | apply And.intro)

theorem Kept.tickDuty {o : State} (s : State) (h0 : Kept o s) : Kept o (State.tickDuty s) := by
  unfold Sys2Proof.Machine.State.tickDuty
  dsimp -failIfUnchanged only
  with_reducible repeat' (first | assumption | (intro _) | apply Kept.ite | apply Kept.ite2 | apply Kept.foldl | apply Kept.foldl2 | apply h0 | simp only [Kept.mk_iff] | apply Kept.of | apply Kept.with_sch | apply Kept.with_banks | constructor | apply Kept.part | apply Kept.pending | apply Kept.regs | apply Kept.clk | apply Kept.hif | apply Kept.evc | apply Kept.sec | apply Kept.whl | apply Kept.sch | apply Kept.banks | apply Kept.quads | apply Kept.ink | apply Kept.grds | apply Kept.adc | apply Kept.cmps | apply Kept.tmrs | apply Kept.nibs | apply BanksOk.modAt | apply BanksOk.map | apply BanksOk.mapIdx | apply Sch.shaped_chans | apply Bank.shaped_threads | (simp only [Bank.shaped_mk, Sch.shaped_mk, setAt_length, modAt_length, unsettleIf_length, cmpSet_length, nibIdle_length, upTo_length, List.length_map, List.length_mapIdx, List.length_replicate]) | (fail_if_no_progress beta_reduce) | (fail_if_no_progress dsimp only) | split | apply And.intro)

theorem Kept.tickGbc {o : State} (s : State) (h0 : Kept o s) : Kept o (State.tickGbc s) := by
  unfold Sys2Proof.Machine.State.tickGbc
  dsimp -failIfUnchanged only
  with_reducible repeat' (first | assumption | (intro _) | apply Kept.ite | apply Kept.ite2 | apply Kept.foldl | apply Kept.foldl2 | apply h0 | simp only [Kept.mk_iff] | apply Kept.of | apply Kept.with_quads | apply Kept.quads | apply QuadsOk.modAt | apply QuadsOk.map | apply QuadsOk.mapIdx | (fail_if_no_progress beta_reduce) | (fail_if_no_progress dsimp only) | split | apply And.intro)

theorem Kept.tickTmr {o : State} (s : State) (h0 : Kept o s) : Kept o (State.tickTmr s) := by
  unfold Sys2Proof.Machine.State.tickTmr
  dsimp -failIfUnchanged only
  with_reducible repeat' (first | assumption | (intro _) | apply Kept.ite | apply Kept.ite2 | apply Kept.foldl | apply Kept.foldl2 | apply Kept.tmrPins | apply Kept.tmrDecideAll | apply Kept.tmrEndAll | apply h0 | (fail_if_no_progress beta_reduce) | (fail_if_no_progress dsimp only) | split | apply And.intro)

theorem Kept.tickTmrAon {o : State} (s : State) (h0 : Kept o s) : Kept o (State.tickTmrAon s) := by
  unfold Sys2Proof.Machine.State.tickTmrAon
  dsimp -failIfUnchanged only
  with_reducible repeat' (first | assumption | (intro _) | apply Kept.ite | apply Kept.ite2 | apply Kept.foldl | apply Kept.foldl2 | apply Kept.tmrEndAll | apply Kept.tmrDecideAll | apply h0 | (fail_if_no_progress beta_reduce) | (fail_if_no_progress dsimp only) | split | apply And.intro)

theorem Kept.tickIdle {o : State} (s : State) (h0 : Kept o s) : Kept o (State.tickIdle s) := by
  unfold Sys2Proof.Machine.State.tickIdle
  dsimp -failIfUnchanged only
  with_reducible repeat' (first | assumption | (intro _) | apply Kept.ite | apply Kept.ite2 | apply Kept.foldl | apply Kept.foldl2 | apply Kept.markIdle | apply Kept.markSleep | apply h0 | simp only [Kept.mk_iff] | apply Kept.of | apply Kept.with_sec | apply Kept.sec | apply Sec.shaped_resp | apply Sec.shaped_key | (simp only [Sec.shaped_mk, setAt_length, modAt_length, unsettleIf_length, cmpSet_length, nibIdle_length, upTo_length, List.length_map, List.length_mapIdx, List.length_replicate]) | (fail_if_no_progress beta_reduce) | (fail_if_no_progress dsimp only) | split | apply And.intro)

theorem Kept.tickReg {o : State} (s : State) (h0 : Kept o s) : Kept o (State.tickReg s) := by
  unfold Sys2Proof.Machine.State.tickReg
  dsimp -failIfUnchanged only
  with_reducible repeat' (first | assumption | (intro _) | apply Kept.ite | apply Kept.ite2 | apply Kept.foldl | apply Kept.foldl2 | apply Kept.wait | apply Kept.regLook | apply h0 | (fail_if_no_progress beta_reduce) | (fail_if_no_progress dsimp only) | split | apply And.intro)

theorem Kept.tickBuilder {o : State} (s : State) (h0 : Kept o s) : Kept o (State.tickBuilder s) := by
  unfold Sys2Proof.Machine.State.tickBuilder
  dsimp -failIfUnchanged only
  with_reducible repeat' (first | assumption | (intro _) | apply Kept.ite | apply Kept.ite2 | apply Kept.foldl | apply Kept.foldl2 | apply h0 | simp only [Kept.mk_iff] | apply Kept.of | apply Kept.with_adc | apply Kept.adc | apply Adc.shaped_convs | (simp only [Adc.shaped_mk, setAt_length, modAt_length, unsettleIf_length, cmpSet_length, nibIdle_length, upTo_length, List.length_map, List.length_mapIdx, List.length_replicate]) | (fail_if_no_progress beta_reduce) | (fail_if_no_progress dsimp only) | split | apply And.intro)

end Sys2Proof.Machine
end

