-- ==== Sys2Proof/Laws/KeptExec.lean ====
section
/-! SUPPORT. Every command keeps what Kept says, and a tick all of it but the queue; the three commands that change the image
keep the rest. -/

set_option linter.all false

namespace Sys2Proof.Machine

/-! Adc -/

theorem Kept.execLoopVisit {o : State} (n : Nat) (codes : List Int) (s : State) (h0 : Kept o s) : Keeps o (execLoopVisit n codes s) := by
  unfold Sys2Proof.Machine.execLoopVisit
  dsimp -failIfUnchanged only
  with_reducible repeat' (first | assumption | apply Keeps.next | exact Keeps.fault | (intro _) | apply Kept.ite | apply Kept.ite2 | apply Kept.foldl | apply Kept.foldl2 | apply Kept.loopStep | apply Kept.landFlight | apply h0 | (fail_if_no_progress beta_reduce) | (fail_if_no_progress dsimp only) | split | apply And.intro)

theorem Kept.execUrgentVisit {o : State} (n : Nat) (codes : List Int) (s : State) (h0 : Kept o s) : Keeps o (execUrgentVisit n codes s) := by
  unfold Sys2Proof.Machine.execUrgentVisit
  dsimp -failIfUnchanged only
  with_reducible repeat' (first | assumption | apply Keeps.next | exact Keeps.fault | (intro _) | apply Kept.ite | apply Kept.ite2 | apply Kept.foldl | apply Kept.foldl2 | apply Kept.urgentStep | apply h0 | (fail_if_no_progress beta_reduce) | (fail_if_no_progress dsimp only) | split | apply And.intro)

theorem Kept.execAngleTrigger {o : State} (k : Nat) (s : State) (h0 : Kept o s) : Keeps o (execAngleTrigger k s) := by
  unfold Sys2Proof.Machine.execAngleTrigger
  dsimp -failIfUnchanged only
  with_reducible repeat' (first | assumption | apply Keeps.next | exact Keeps.fault | (intro _) | apply Kept.ite | apply Kept.ite2 | apply Kept.foldl | apply Kept.foldl2 | apply Kept.urgent | apply h0 | simp only [Kept.mk_iff] | apply Kept.of | apply Kept.with_adc | apply Kept.adc | apply Adc.shaped_convs | (simp only [Adc.shaped_mk, setAt_length, modAt_length, unsettleIf_length, cmpSet_length, nibIdle_length, upTo_length, List.length_map, List.length_mapIdx, List.length_replicate]) | (fail_if_no_progress beta_reduce) | (fail_if_no_progress dsimp only) | split | apply And.intro)

theorem Kept.execVigilVisit {o : State} (codes : List Int) (s : State) (h0 : Kept o s) : Keeps o (execVigilVisit codes s) := by
  unfold Sys2Proof.Machine.execVigilVisit
  dsimp -failIfUnchanged only
  with_reducible repeat' (first | assumption | apply Keeps.next | exact Keeps.fault | (intro _) | apply Kept.ite | apply Kept.ite2 | apply Kept.foldl | apply Kept.foldl2 | apply Kept.runVisit | apply h0 | simp only [Kept.mk_iff] | apply Kept.of | apply Kept.with_adc | apply Kept.adc | apply Adc.shaped_convs | (simp only [Adc.shaped_mk, setAt_length, modAt_length, unsettleIf_length, cmpSet_length, nibIdle_length, upTo_length, List.length_map, List.length_mapIdx, List.length_replicate]) | (fail_if_no_progress beta_reduce) | (fail_if_no_progress dsimp only) | split | apply And.intro)

theorem Kept.execConverterCalibrate {o : State} (p : Port) (v : Word) (s : State) (h0 : Kept o s) : Keeps o (execConverterCalibrate p v s) := by
  unfold Sys2Proof.Machine.execConverterCalibrate
  dsimp -failIfUnchanged only
  with_reducible repeat' (first | assumption | apply Keeps.next | exact Keeps.fault | (intro _) | apply Kept.ite | apply Kept.ite2 | apply Kept.foldl | apply Kept.foldl2 | apply Kept.calWrite | apply h0 | (fail_if_no_progress beta_reduce) | (fail_if_no_progress dsimp only) | split | apply And.intro)

theorem Kept.execCalibrationDone {o : State} (n : Nat) (factors : List Word) (s : State) (h0 :
    Kept o s) : Keeps o (execCalibrationDone n factors s) := by
  unfold Sys2Proof.Machine.execCalibrationDone
  dsimp -failIfUnchanged only
  with_reducible repeat' (first | assumption | apply Keeps.next | exact Keeps.fault | (intro _) | apply Kept.ite | apply Kept.ite2 | apply Kept.foldl | apply Kept.foldl2 | apply Kept.putWord | apply Kept.calNext | apply h0 | simp only [Kept.mk_iff] | apply Kept.of | apply Kept.with_adc | apply Kept.adc | apply Adc.shaped_convs | (simp only [Adc.shaped_mk, setAt_length, modAt_length, unsettleIf_length, cmpSet_length, nibIdle_length, upTo_length, List.length_map, List.length_mapIdx, List.length_replicate]) | (fail_if_no_progress beta_reduce) | (fail_if_no_progress dsimp only) | split | apply And.intro)

theorem Kept.execAdcMove {o : State} (p : Port) (v : Word) (s : State) (h0 : Kept o s) : Keeps o (execAdcMove p v s) := by
  unfold Sys2Proof.Machine.execAdcMove
  dsimp -failIfUnchanged only
  with_reducible repeat' (first | assumption | apply Keeps.next | exact Keeps.fault | (intro _) | apply Kept.ite | apply Kept.ite2 | apply Kept.foldl | apply Kept.foldl2 | apply Kept.moveWrite | apply h0 | (fail_if_no_progress beta_reduce) | (fail_if_no_progress dsimp only) | split | apply And.intro)

theorem Kept.execMovePendEnd {o : State} (s : State) (h0 : Kept o s) : Keeps o (execMovePendEnd s) := by
  unfold Sys2Proof.Machine.execMovePendEnd
  dsimp -failIfUnchanged only
  with_reducible repeat' (first | assumption | apply Keeps.next | exact Keeps.fault | (intro _) | apply Kept.ite | apply Kept.ite2 | apply Kept.foldl | apply Kept.foldl2 | apply Kept.landFlight | apply h0 | simp only [Kept.mk_iff] | apply Kept.of | apply Kept.with_adc | apply Kept.adc | apply Adc.shaped_convs | (simp only [Adc.shaped_mk, setAt_length, modAt_length, unsettleIf_length, cmpSet_length, nibIdle_length, upTo_length, List.length_map, List.length_mapIdx, List.length_replicate]) | (fail_if_no_progress beta_reduce) | (fail_if_no_progress dsimp only) | split | apply And.intro)

theorem Kept.execAccDataAccess {o : State} (p : Port) (w : Option Word) (s : State) (h0 : Kept o s) : Keeps o (execAccDataAccess p w s) := by
  unfold Sys2Proof.Machine.execAccDataAccess
  dsimp -failIfUnchanged only
  with_reducible repeat' (first | assumption | apply Keeps.next | exact Keeps.fault | (intro _) | apply Kept.ite | apply Kept.ite2 | apply Kept.foldl | apply Kept.foldl2 | apply Kept.onRead | apply Kept.accAccess | apply Kept.onWrite | apply h0 | (fail_if_no_progress beta_reduce) | (fail_if_no_progress dsimp only) | split | apply And.intro)

theorem Kept.execWindowTimeClose {o : State} (t : Nat) (s : State) (h0 : Kept o s) : Keeps o (execWindowTimeClose t s) := by
  unfold Sys2Proof.Machine.execWindowTimeClose
  dsimp -failIfUnchanged only
  with_reducible repeat' (first | assumption | apply Keeps.next | exact Keeps.fault | (intro _) | apply Kept.ite | apply Kept.ite2 | apply Kept.foldl | apply Kept.foldl2 | apply Kept.timeClose | apply h0 | (fail_if_no_progress beta_reduce) | (fail_if_no_progress dsimp only) | split | apply And.intro)

theorem Kept.execWindowAngleClose {o : State} (t : Nat) (s : State) (h0 : Kept o s) : Keeps o (execWindowAngleClose t s) := by
  unfold Sys2Proof.Machine.execWindowAngleClose
  dsimp -failIfUnchanged only
  with_reducible repeat' (first | assumption | apply Keeps.next | exact Keeps.fault | (intro _) | apply Kept.ite | apply Kept.ite2 | apply Kept.foldl | apply Kept.foldl2 | apply Kept.closeWin | apply h0 | (fail_if_no_progress beta_reduce) | (fail_if_no_progress dsimp only) | split | apply And.intro)

/-! Sched -/

theorem Kept.execEventRelease {o : State} (n : Nat) (s : State) (h0 : Kept o s) : Keeps o (execEventRelease n s) := by
  unfold Sys2Proof.Machine.execEventRelease
  dsimp -failIfUnchanged only
  with_reducible repeat' (first | assumption | apply Keeps.next | exact Keeps.fault | (intro _) | apply Kept.ite | apply Kept.ite2 | apply Kept.foldl | apply Kept.foldl2 | apply Kept.release | apply h0 | (fail_if_no_progress beta_reduce) | (fail_if_no_progress dsimp only) | split | apply And.intro)

theorem Kept.execAnchorAngleReached {o : State} (n : Nat) (s : State) (h0 : Kept o s) : Keeps o (execAnchorAngleReached n s) := by
  unfold Sys2Proof.Machine.execAnchorAngleReached
  dsimp -failIfUnchanged only
  with_reducible repeat' (first | assumption | apply Keeps.next | exact Keeps.fault | (intro _) | apply Kept.ite | apply Kept.ite2 | apply Kept.foldl | apply Kept.foldl2 | apply Kept.modStore | apply h0 | (fail_if_no_progress beta_reduce) | (fail_if_no_progress dsimp only) | split | apply And.intro)

theorem Kept.execEventStart {o : State} (n : Nat) (s : State) (h0 : Kept o s) : Keeps o (execEventStart n s) := by
  unfold Sys2Proof.Machine.execEventStart
  dsimp -failIfUnchanged only
  with_reducible repeat' (first | assumption | apply Keeps.next | exact Keeps.fault | (intro _) | apply Kept.ite | apply Kept.ite2 | apply Kept.foldl | apply Kept.foldl2 | apply Kept.comeDue | apply Kept.settleBank | apply h0 | (fail_if_no_progress beta_reduce) | (fail_if_no_progress dsimp only) | split | apply And.intro)

theorem Kept.execLogEnd {o : State} (n : Nat) (s : State) (h0 : Kept o s) : Keeps o (execLogEnd n s) := by
  unfold Sys2Proof.Machine.execLogEnd
  dsimp -failIfUnchanged only
  with_reducible repeat' (first | assumption | apply Keeps.next | exact Keeps.fault | (intro _) | apply Kept.ite | apply Kept.ite2 | apply Kept.foldl | apply Kept.foldl2 | apply Kept.endLog | apply h0 | (fail_if_no_progress beta_reduce) | (fail_if_no_progress dsimp only) | split | apply And.intro)

theorem Kept.execTokenWaitTimeout {o : State} (b t : Nat) (s : State) (h0 : Kept o s) : Keeps o (execTokenWaitTimeout b t s) := by
  unfold Sys2Proof.Machine.execTokenWaitTimeout
  dsimp -failIfUnchanged only
  with_reducible repeat' (first | assumption | apply Keeps.next | exact Keeps.fault | (intro _) | apply Kept.ite | apply Kept.ite2 | apply Kept.foldl | apply Kept.foldl2 | apply Kept.count | apply Kept.timeOutThread | apply Kept.settleBank | apply Kept.stopWaiting | apply Kept.timeOutEvent | apply h0 | apply Kept.id | (fail_if_no_progress beta_reduce) | (fail_if_no_progress dsimp only) | split | apply And.intro)

theorem Kept.execDutyCapReached {o : State} (bank : Bool) (i : Nat) (s : State) (h0 : Kept o s) : Keeps o (execDutyCapReached bank i s) := by
  unfold Sys2Proof.Machine.execDutyCapReached
  dsimp -failIfUnchanged only
  with_reducible repeat' (first | assumption | apply Keeps.next | exact Keeps.fault | (intro _) | apply Kept.ite | apply Kept.ite2 | apply Kept.foldl | apply Kept.foldl2 | apply Kept.truncCover | apply h0 | (fail_if_no_progress beta_reduce) | (fail_if_no_progress dsimp only) | split | apply And.intro)

/-! Drive -/

theorem Kept.execChannelOcTrip {o : State} (n : Nat) (s : State) (h0 : Kept o s) : Keeps o (execChannelOcTrip n s) := by
  unfold Sys2Proof.Machine.execChannelOcTrip
  dsimp -failIfUnchanged only
  with_reducible repeat' (first | assumption | apply Keeps.next | exact Keeps.fault | (intro _) | apply Kept.ite | apply Kept.ite2 | apply Kept.foldl | apply Kept.foldl2 | apply Kept.modChan | apply Kept.pullGl | apply Kept.count | apply Kept.inCycle | apply h0 | (fail_if_no_progress beta_reduce) | (fail_if_no_progress dsimp only) | split | apply And.intro)

theorem Kept.execHighSideOcTrip {o : State} (b : Nat) (boost : Bool) (s : State) (h0 : Kept o s) : Keeps o (execHighSideOcTrip b boost s) := by
  unfold Sys2Proof.Machine.execHighSideOcTrip
  dsimp -failIfUnchanged only
  with_reducible repeat' (first | assumption | apply Keeps.next | exact Keeps.fault | (intro _) | apply Kept.ite | apply Kept.ite2 | apply Kept.foldl | apply Kept.foldl2 | apply Kept.modBank | apply Kept.pullGl | apply Kept.count | apply Kept.inCycle | apply h0 | apply Bank.shaped_threads | (simp only [Bank.shaped_mk, setAt_length, modAt_length, unsettleIf_length, cmpSet_length, nibIdle_length, upTo_length, List.length_map, List.length_mapIdx, List.length_replicate]) | (fail_if_no_progress beta_reduce) | (fail_if_no_progress dsimp only) | split | apply And.intro)

theorem Kept.execTripLatchSeen {o : State} (u : Latch) (s : State) (h0 : Kept o s) : Keeps o (execTripLatchSeen u s) := by
  unfold Sys2Proof.Machine.execTripLatchSeen
  dsimp -failIfUnchanged only
  with_reducible repeat' (first | assumption | apply Keeps.next | exact Keeps.fault | (intro _) | apply Kept.ite | apply Kept.ite2 | apply Kept.foldl | apply Kept.foldl2 | apply Kept.seeLatch | apply h0 | (fail_if_no_progress beta_reduce) | (fail_if_no_progress dsimp only) | split | apply And.intro)

theorem Kept.execBoostRegulation {o : State} (q vbst : Nat) (s : State) (h0 : Kept o s) : Keeps o (execBoostRegulation q vbst s) := by
  unfold Sys2Proof.Machine.execBoostRegulation
  dsimp -failIfUnchanged only
  with_reducible repeat' (first | assumption | apply Keeps.next | exact Keeps.fault | (intro _) | apply Kept.ite | apply Kept.ite2 | apply Kept.foldl | apply Kept.foldl2 | apply Kept.boostReg | apply h0 | (fail_if_no_progress beta_reduce) | (fail_if_no_progress dsimp only) | split | apply And.intro)

theorem Kept.execBoostPulse {o : State} (q vbat : Nat) (s : State) (h0 : Kept o s) : Keeps o (execBoostPulse q vbat s) := by
  unfold Sys2Proof.Machine.execBoostPulse
  dsimp -failIfUnchanged only
  with_reducible repeat' (first | assumption | apply Keeps.next | exact Keeps.fault | (intro _) | apply Kept.ite | apply Kept.ite2 | apply Kept.foldl | apply Kept.foldl2 | apply Kept.pulse | apply h0 | (fail_if_no_progress beta_reduce) | (fail_if_no_progress dsimp only) | split | apply And.intro)

theorem Kept.execBoostOvervoltage {o : State} (q vbst : Nat) (s : State) (h0 : Kept o s) : Keeps o (execBoostOvervoltage q vbst s) := by
  unfold Sys2Proof.Machine.execBoostOvervoltage
  dsimp -failIfUnchanged only
  with_reducible repeat' (first | assumption | apply Keeps.next | exact Keeps.fault | (intro _) | apply Kept.ite | apply Kept.ite2 | apply Kept.foldl | apply Kept.foldl2 | apply Kept.modQuad | apply Kept.count | apply Kept.alarm | apply h0 | (fail_if_no_progress beta_reduce) | (fail_if_no_progress dsimp only) | split | apply And.intro)

theorem Kept.execClosingKink {o : State} (n : Nat) (codes : List Nat) (s : State) (h0 : Kept o s) : Keeps o (execClosingKink n codes s) := by
  unfold Sys2Proof.Machine.execClosingKink
  dsimp -failIfUnchanged only
  with_reducible repeat' (first | assumption | apply Keeps.next | exact Keeps.fault | (intro _) | apply Kept.ite | apply Kept.ite2 | apply Kept.foldl | apply Kept.foldl2 | apply Kept.dropSlot | apply Kept.deliver | apply h0 | (fail_if_no_progress beta_reduce) | (fail_if_no_progress dsimp only) | split | apply And.intro)

theorem Kept.execClosingNoKink {o : State} (n : Nat) (s : State) (h0 : Kept o s) : Keeps o (execClosingNoKink n s) := by
  unfold Sys2Proof.Machine.execClosingNoKink
  dsimp -failIfUnchanged only
  with_reducible repeat' (first | assumption | apply Keeps.next | exact Keeps.fault | (intro _) | apply Kept.ite | apply Kept.ite2 | apply Kept.foldl | apply Kept.foldl2 | apply Kept.noKink | apply h0 | (fail_if_no_progress beta_reduce) | (fail_if_no_progress dsimp only) | split | apply And.intro)

theorem Kept.execResultWrite {o : State} (id : Nat) (s : State) (h0 : Kept o s) : Keeps o (execResultWrite id s) := by
  unfold Sys2Proof.Machine.execResultWrite
  dsimp -failIfUnchanged only
  with_reducible repeat' (first | assumption | apply Keeps.next | exact Keeps.fault | (intro _) | apply Kept.ite | apply Kept.ite2 | apply Kept.foldl | apply Kept.foldl2 | apply Kept.writeResult | apply h0 | apply Kept.id | (fail_if_no_progress beta_reduce) | (fail_if_no_progress dsimp only) | split | apply And.intro)

theorem Kept.execBoostReconcile {o : State} (q vbst : Nat) (s : State) (h0 : Kept o s) : Keeps o (execBoostReconcile q vbst s) := by
  unfold Sys2Proof.Machine.execBoostReconcile
  dsimp -failIfUnchanged only
  with_reducible repeat' (first | assumption | apply Keeps.next | exact Keeps.fault | (intro _) | apply Kept.ite | apply Kept.ite2 | apply Kept.foldl | apply Kept.foldl2 | apply Kept.reconcile | apply h0 | (fail_if_no_progress beta_reduce) | (fail_if_no_progress dsimp only) | split | apply And.intro)

theorem Kept.execFillRateRefresh {o : State} (q vbat : Nat) (s : State) (h0 : Kept o s) : Keeps o (execFillRateRefresh q vbat s) := by
  unfold Sys2Proof.Machine.execFillRateRefresh
  dsimp -failIfUnchanged only
  with_reducible repeat' (first | assumption | apply Keeps.next | exact Keeps.fault | (intro _) | apply Kept.ite | apply Kept.ite2 | apply Kept.foldl | apply Kept.foldl2 | apply Kept.modQuad | apply h0 | (fail_if_no_progress beta_reduce) | (fail_if_no_progress dsimp only) | split | apply And.intro)

theorem Kept.execRailSubwindowEnd {o : State} (g : Nat) (s : State) (h0 : Kept o s) : Keeps o (execRailSubwindowEnd g s) := by
  unfold Sys2Proof.Machine.execRailSubwindowEnd
  dsimp -failIfUnchanged only
  with_reducible repeat' (first | assumption | apply Keeps.next | exact Keeps.fault | (intro _) | apply Kept.ite | apply Kept.ite2 | apply Kept.foldl | apply Kept.foldl2 | apply Kept.subwindow | apply h0 | (fail_if_no_progress beta_reduce) | (fail_if_no_progress dsimp only) | split | apply And.intro)

theorem Kept.execPtabDataAccess {o : State} (p : Port) (w : Option Word) (s : State) (h0 : Kept o s) : Keeps o (execPtabDataAccess p w s) := by
  unfold Sys2Proof.Machine.execPtabDataAccess
  dsimp -failIfUnchanged only
  with_reducible repeat' (first | assumption | apply Keeps.next | exact Keeps.fault | (intro _) | apply Kept.ite | apply Kept.ite2 | apply Kept.foldl | apply Kept.foldl2 | apply Kept.onRead | apply Kept.ptabAccess | apply Kept.onWrite | apply h0 | (fail_if_no_progress beta_reduce) | (fail_if_no_progress dsimp only) | split | apply And.intro)

theorem Kept.execMeasurementConversion {o : State} (b : Nat) (path : MeasPath) (shunt volt : Nat) (s : State) (h0 :
    Kept o s) : Keeps o (execMeasurementConversion b path shunt volt s) := by
  unfold Sys2Proof.Machine.execMeasurementConversion
  dsimp -failIfUnchanged only
  with_reducible repeat' (first | assumption | apply Keeps.next | exact Keeps.fault | (intro _) | apply Kept.ite | apply Kept.ite2 | apply Kept.foldl | apply Kept.foldl2 | apply Kept.convert | apply h0 | (fail_if_no_progress beta_reduce) | (fail_if_no_progress dsimp only) | split | apply And.intro)

/-! Tmr -/

theorem Kept.execComparatorCrossing {o : State} (c : CmpUnit) (above : Bool) (s : State) (h0 :
    Kept o s) : Keeps o (execComparatorCrossing c above s) := by
  unfold Sys2Proof.Machine.execComparatorCrossing
  dsimp -failIfUnchanged only
  with_reducible repeat' (first | assumption | apply Keeps.next | exact Keeps.fault | (intro _) | apply Kept.ite | apply Kept.ite2 | apply Kept.foldl | apply Kept.foldl2 | apply Kept.crossing | apply Kept.regLook | apply h0 | (fail_if_no_progress beta_reduce) | (fail_if_no_progress dsimp only) | split | apply And.intro)

theorem Kept.execTimerZero {o : State} (n : Nat) (s : State) (h0 : Kept o s) : Keeps o (execTimerZero n s) := by
  unfold Sys2Proof.Machine.execTimerZero
  dsimp -failIfUnchanged only
  with_reducible repeat' (first | assumption | apply Keeps.next | exact Keeps.fault | (intro _) | apply Kept.ite | apply Kept.ite2 | apply Kept.foldl | apply Kept.foldl2 | apply Kept.tmrFire | apply h0 | (fail_if_no_progress beta_reduce) | (fail_if_no_progress dsimp only) | split | apply And.intro)

theorem Kept.execTimerMatch {o : State} (n : Nat) (s : State) (h0 : Kept o s) : Keeps o (execTimerMatch n s) := by
  unfold Sys2Proof.Machine.execTimerMatch
  dsimp -failIfUnchanged only
  with_reducible repeat' (first | assumption | apply Keeps.next | exact Keeps.fault | (intro _) | apply Kept.ite | apply Kept.ite2 | apply Kept.foldl | apply Kept.foldl2 | apply Kept.tmrFire | apply h0 | (fail_if_no_progress beta_reduce) | (fail_if_no_progress dsimp only) | split | apply And.intro)

theorem Kept.execTimerStart {o : State} (p : Port) (v : Word) (s : State) (h0 : Kept o s) : Keeps o (execTimerStart p v s) := by
  unfold Sys2Proof.Machine.execTimerStart
  dsimp -failIfUnchanged only
  with_reducible repeat' (first | assumption | apply Keeps.next | exact Keeps.fault | (intro _) | apply Kept.ite | apply Kept.ite2 | apply Kept.foldl | apply Kept.foldl2 | apply Kept.tmrStartWrite | apply h0 | (fail_if_no_progress beta_reduce) | (fail_if_no_progress dsimp only) | split | apply And.intro)

theorem Kept.execTimerStop {o : State} (p : Port) (v : Word) (s : State) (h0 : Kept o s) : Keeps o (execTimerStop p v s) := by
  unfold Sys2Proof.Machine.execTimerStop
  dsimp -failIfUnchanged only
  with_reducible repeat' (first | assumption | apply Keeps.next | exact Keeps.fault | (intro _) | apply Kept.ite | apply Kept.ite2 | apply Kept.foldl | apply Kept.foldl2 | apply Kept.tmrStopWrite | apply h0 | (fail_if_no_progress beta_reduce) | (fail_if_no_progress dsimp only) | split | apply And.intro)

theorem Kept.execTimerReloadWrite {o : State} (p : Port) (n : Nat) (v : Word) (s : State) (h0 :
    Kept o s) : Keeps o (execTimerReloadWrite p n v s) := by
  unfold Sys2Proof.Machine.execTimerReloadWrite
  dsimp -failIfUnchanged only
  with_reducible repeat' (first | assumption | apply Keeps.next | exact Keeps.fault | (intro _) | apply Kept.ite | apply Kept.ite2 | apply Kept.foldl | apply Kept.foldl2 | apply Kept.reloadWrite | apply h0 | (fail_if_no_progress beta_reduce) | (fail_if_no_progress dsimp only) | split | apply And.intro)

theorem Kept.execTimerCmpWrite {o : State} (p : Port) (n : Nat) (v : Word) (s : State) (h0 : Kept o s) : Keeps o (execTimerCmpWrite p n v s) := by
  unfold Sys2Proof.Machine.execTimerCmpWrite
  dsimp -failIfUnchanged only
  with_reducible repeat' (first | assumption | apply Keeps.next | exact Keeps.fault | (intro _) | apply Kept.ite | apply Kept.ite2 | apply Kept.foldl | apply Kept.foldl2 | apply Kept.cmpWrite | apply h0 | (fail_if_no_progress beta_reduce) | (fail_if_no_progress dsimp only) | split | apply And.intro)

theorem Kept.execTimerCapture {o : State} (n : Nat) (rising : Bool) (s : State) (h0 : Kept o s) : Keeps o (execTimerCapture n rising s) := by
  unfold Sys2Proof.Machine.execTimerCapture
  dsimp -failIfUnchanged only
  with_reducible repeat' (first | assumption | apply Keeps.next | exact Keeps.fault | (intro _) | apply Kept.ite | apply Kept.ite2 | apply Kept.foldl | apply Kept.foldl2 | apply Kept.modTmr | apply Kept.count | apply Kept.set | apply h0 | (fail_if_no_progress beta_reduce) | (fail_if_no_progress dsimp only) | split | apply And.intro)

theorem Kept.execSlaveTrigger {o : State} (n : Nat) (s : State) (h0 : Kept o s) : Keeps o (execSlaveTrigger n s) := by
  unfold Sys2Proof.Machine.execSlaveTrigger
  dsimp -failIfUnchanged only
  with_reducible repeat' (first | assumption | apply Keeps.next | exact Keeps.fault | (intro _) | apply Kept.ite | apply Kept.ite2 | apply Kept.foldl | apply Kept.foldl2 | apply Kept.modTmr | apply Kept.tmrFire | apply h0 | (fail_if_no_progress beta_reduce) | (fail_if_no_progress dsimp only) | split | apply And.intro)

theorem Kept.execTimerCatchup {o : State} (s : State) (h0 : Kept o s) : Keeps o (execTimerCatchup s) := by
  unfold Sys2Proof.Machine.execTimerCatchup
  dsimp -failIfUnchanged only
  with_reducible repeat' (first | assumption | apply Keeps.next | exact Keeps.fault | (intro _) | apply Kept.ite | apply Kept.ite2 | apply Kept.foldl | apply Kept.foldl2 | apply Kept.tmrResume | apply h0 | (fail_if_no_progress beta_reduce) | (fail_if_no_progress dsimp only) | split | apply And.intro)

/-! Evc -/

theorem Kept.execGroupReadyTime {o : State} (k : Nat) (s : State) (h0 : Kept o s) : Keeps o (execGroupReadyTime k s) := by
  unfold Sys2Proof.Machine.execGroupReadyTime
  dsimp -failIfUnchanged only
  with_reducible repeat' (first | assumption | apply Keeps.next | exact Keeps.fault | (intro _) | apply Kept.ite | apply Kept.ite2 | apply Kept.foldl | apply Kept.foldl2 | apply h0 | simp only [Kept.mk_iff] | apply Kept.of | apply Kept.with_evc | apply Kept.evc | apply Evc.shaped_srcs | apply Evc.shaped_groups | apply Evc.shaped_targets | apply Evc.shaped_ext | apply Evc.makeReady_shaped | (simp only [Evc.shaped_mk, setAt_length, modAt_length, unsettleIf_length, cmpSet_length, nibIdle_length, upTo_length, List.length_map, List.length_mapIdx, List.length_replicate]) | (fail_if_no_progress beta_reduce) | (fail_if_no_progress dsimp only) | split | apply And.intro)

theorem Kept.execSourceAssign {o : State} (s : State) (h0 : Kept o s) : Keeps o (execSourceAssign s) := by
  unfold Sys2Proof.Machine.execSourceAssign
  dsimp -failIfUnchanged only
  with_reducible repeat' (first | assumption | apply Keeps.next | exact Keeps.fault | (intro _) | apply Kept.ite | apply Kept.ite2 | apply Kept.foldl | apply Kept.foldl2 | apply Kept.assignAll | apply h0 | (fail_if_no_progress beta_reduce) | (fail_if_no_progress dsimp only) | split | apply And.intro)

theorem Kept.execEvcClaim {o : State} (p : Port) (t src : Nat) (s : State) (h0 : Kept o s) : Keeps o (execEvcClaim p t src s) := by
  unfold Sys2Proof.Machine.execEvcClaim
  dsimp -failIfUnchanged only
  with_reducible repeat' (first | assumption | apply Keeps.next | exact Keeps.fault | (intro _) | apply Kept.ite | apply Kept.ite2 | apply Kept.foldl | apply Kept.foldl2 | apply Kept.busWrite | apply Kept.claim | apply h0 | (fail_if_no_progress beta_reduce) | (fail_if_no_progress dsimp only) | split | apply And.intro)

theorem Kept.execEvcComplete {o : State} (p : Port) (t src : Nat) (s : State) (h0 : Kept o s) : Keeps o (execEvcComplete p t src s) := by
  unfold Sys2Proof.Machine.execEvcComplete
  dsimp -failIfUnchanged only
  with_reducible repeat' (first | assumption | apply Keeps.next | exact Keeps.fault | (intro _) | apply Kept.ite | apply Kept.ite2 | apply Kept.foldl | apply Kept.foldl2 | apply Kept.busWrite | apply Kept.complete | apply h0 | (fail_if_no_progress beta_reduce) | (fail_if_no_progress dsimp only) | split | apply And.intro)

theorem Kept.execEvcRelease {o : State} (p : Port) (t : Nat) (s : State) (h0 : Kept o s) : Keeps o (execEvcRelease p t s) := by
  unfold Sys2Proof.Machine.execEvcRelease
  dsimp -failIfUnchanged only
  with_reducible repeat' (first | assumption | apply Keeps.next | exact Keeps.fault | (intro _) | apply Kept.ite | apply Kept.ite2 | apply Kept.foldl | apply Kept.foldl2 | apply Kept.busWrite | apply Kept.releaseTgt | apply h0 | (fail_if_no_progress beta_reduce) | (fail_if_no_progress dsimp only) | split | apply And.intro)

theorem Kept.execExtLineEdge {o : State} (n : Nat) (high : Bool) (s : State) (h0 : Kept o s) : Keeps o (execExtLineEdge n high s) := by
  unfold Sys2Proof.Machine.execExtLineEdge
  dsimp -failIfUnchanged only
  with_reducible repeat' (first | assumption | apply Keeps.next | exact Keeps.fault | (intro _) | apply Kept.ite | apply Kept.ite2 | apply Kept.foldl | apply Kept.foldl2 | apply Kept.extEdge | apply h0 | (fail_if_no_progress beta_reduce) | (fail_if_no_progress dsimp only) | split | apply And.intro)

/-! Grd -/

theorem Kept.execGuardianMeterSample {o : State} (g : Nat) (cur : Int) (volt : Nat) (s : State) (h0 :
    Kept o s) : Keeps o (execGuardianMeterSample g cur volt s) := by
  unfold Sys2Proof.Machine.execGuardianMeterSample
  dsimp -failIfUnchanged only
  with_reducible repeat' (first | assumption | apply Keeps.next | exact Keeps.fault | (intro _) | apply Kept.ite | apply Kept.ite2 | apply Kept.foldl | apply Kept.foldl2 | apply Kept.meterSample | apply h0 | (fail_if_no_progress beta_reduce) | (fail_if_no_progress dsimp only) | split | apply And.intro)

theorem Kept.execVigilMeterSample {o : State} (g : Nat) (cur : Int) (vout vin : Nat) (s : State) (h0 :
    Kept o s) : Keeps o (execVigilMeterSample g cur vout vin s) := by
  unfold Sys2Proof.Machine.execVigilMeterSample
  dsimp -failIfUnchanged only
  with_reducible repeat' (first | assumption | apply Keeps.next | exact Keeps.fault | (intro _) | apply Kept.ite | apply Kept.ite2 | apply Kept.foldl | apply Kept.foldl2 | apply Kept.vigilSample | apply h0 | (fail_if_no_progress beta_reduce) | (fail_if_no_progress dsimp only) | split | apply And.intro)

theorem Kept.execSoaUpdate {o : State} (g : Nat) (s : State) (h0 : Kept o s) : Keeps o (execSoaUpdate g s) := by
  unfold Sys2Proof.Machine.execSoaUpdate
  dsimp -failIfUnchanged only
  with_reducible repeat' (first | assumption | apply Keeps.next | exact Keeps.fault | (intro _) | apply Kept.ite | apply Kept.ite2 | apply Kept.foldl | apply Kept.foldl2 | apply Kept.modGrd | apply Kept.evaluate | apply h0 | apply Grd.shaped_held8 | (simp only [Grd.shaped_mk, setAt_length, modAt_length, unsettleIf_length, cmpSet_length, nibIdle_length, upTo_length, List.length_map, List.length_mapIdx, List.length_replicate]) | (fail_if_no_progress beta_reduce) | (fail_if_no_progress dsimp only) | split | apply And.intro)

theorem Kept.execRampTimeout {o : State} (g : Nat) (s : State) (h0 : Kept o s) : Keeps o (execRampTimeout g s) := by
  unfold Sys2Proof.Machine.execRampTimeout
  dsimp -failIfUnchanged only
  with_reducible repeat' (first | assumption | apply Keeps.next | exact Keeps.fault | (intro _) | apply Kept.ite | apply Kept.ite2 | apply Kept.foldl | apply Kept.foldl2 | apply Kept.modGrd | apply Kept.evaluate | apply h0 | apply Grd.shaped_held8 | (simp only [Grd.shaped_mk, setAt_length, modAt_length, unsettleIf_length, cmpSet_length, nibIdle_length, upTo_length, List.length_map, List.length_mapIdx, List.length_replicate]) | (fail_if_no_progress beta_reduce) | (fail_if_no_progress dsimp only) | split | apply And.intro)

theorem Kept.execGuardianFastTrip {o : State} (g : Nat) (s : State) (h0 : Kept o s) : Keeps o (execGuardianFastTrip g s) := by
  unfold Sys2Proof.Machine.execGuardianFastTrip
  dsimp -failIfUnchanged only
  with_reducible repeat' (first | assumption | apply Keeps.next | exact Keeps.fault | (intro _) | apply Kept.ite | apply Kept.ite2 | apply Kept.foldl | apply Kept.foldl2 | apply Kept.fastTrip | apply h0 | (fail_if_no_progress beta_reduce) | (fail_if_no_progress dsimp only) | split | apply And.intro)

theorem Kept.execReverseCurrentTrip {o : State} (x : GrdHeld) (s : State) (h0 : Kept o s) : Keeps o (execReverseCurrentTrip x s) := by
  unfold Sys2Proof.Machine.execReverseCurrentTrip
  dsimp -failIfUnchanged only
  with_reducible repeat' (first | assumption | apply Keeps.next | exact Keeps.fault | (intro _) | apply Kept.ite | apply Kept.ite2 | apply Kept.foldl | apply Kept.foldl2 | apply Kept.eventRule | apply h0 | (fail_if_no_progress beta_reduce) | (fail_if_no_progress dsimp only) | split | apply And.intro)

theorem Kept.execExternalFault {o : State} (x : GrdHeld) (s : State) (h0 : Kept o s) : Keeps o (execExternalFault x s) := by
  unfold Sys2Proof.Machine.execExternalFault
  dsimp -failIfUnchanged only
  with_reducible repeat' (first | assumption | apply Keeps.next | exact Keeps.fault | (intro _) | apply Kept.ite | apply Kept.ite2 | apply Kept.foldl | apply Kept.foldl2 | apply Kept.eventRule | apply h0 | (fail_if_no_progress beta_reduce) | (fail_if_no_progress dsimp only) | split | apply And.intro)

theorem Kept.execSlowSupervisionCheck {o : State} (g : Nat) (gateOk vOk : Bool) (s : State) (h0 :
    Kept o s) : Keeps o (execSlowSupervisionCheck g gateOk vOk s) := by
  unfold Sys2Proof.Machine.execSlowSupervisionCheck
  dsimp -failIfUnchanged only
  with_reducible repeat' (first | assumption | apply Keeps.next | exact Keeps.fault | (intro _) | apply Kept.ite | apply Kept.ite2 | apply Kept.foldl | apply Kept.foldl2 | apply Kept.modGrd | apply Kept.eventRule | apply h0 | apply Grd.shaped_held8 | (simp only [Grd.shaped_mk, setAt_length, modAt_length, unsettleIf_length, cmpSet_length, nibIdle_length, upTo_length, List.length_map, List.length_mapIdx, List.length_replicate]) | (fail_if_no_progress beta_reduce) | (fail_if_no_progress dsimp only) | split | apply And.intro)

theorem Kept.execRetryDelayEnd {o : State} (g : Nat) (s : State) (h0 : Kept o s) : Keeps o (execRetryDelayEnd g s) := by
  unfold Sys2Proof.Machine.execRetryDelayEnd
  dsimp -failIfUnchanged only
  with_reducible repeat' (first | assumption | apply Keeps.next | exact Keeps.fault | (intro _) | apply Kept.ite | apply Kept.ite2 | apply Kept.foldl | apply Kept.foldl2 | apply Kept.retryRamp | apply h0 | (fail_if_no_progress beta_reduce) | (fail_if_no_progress dsimp only) | split | apply And.intro)

theorem Kept.execRetryCountReset {o : State} (g : Nat) (s : State) (h0 : Kept o s) : Keeps o (execRetryCountReset g s) := by
  unfold Sys2Proof.Machine.execRetryCountReset
  dsimp -failIfUnchanged only
  with_reducible repeat' (first | assumption | apply Keeps.next | exact Keeps.fault | (intro _) | apply Kept.ite | apply Kept.ite2 | apply Kept.foldl | apply Kept.foldl2 | apply Kept.modGrd | apply h0 | apply Grd.shaped_held8 | (simp only [Grd.shaped_mk, setAt_length, modAt_length, unsettleIf_length, cmpSet_length, nibIdle_length, upTo_length, List.length_map, List.length_mapIdx, List.length_replicate]) | (fail_if_no_progress beta_reduce) | (fail_if_no_progress dsimp only) | split | apply And.intro)

theorem Kept.execPrsnChange {o : State} (g : Nat) (level : Bool) (s : State) (h0 : Kept o s) : Keeps o (execPrsnChange g level s) := by
  unfold Sys2Proof.Machine.execPrsnChange
  dsimp -failIfUnchanged only
  with_reducible repeat' (first | assumption | apply Keeps.next | exact Keeps.fault | (intro _) | apply Kept.ite | apply Kept.ite2 | apply Kept.foldl | apply Kept.foldl2 | apply Kept.modGrd | apply Kept.grdStep | apply h0 | apply Grd.shaped_held8 | (simp only [Grd.shaped_mk, setAt_length, modAt_length, unsettleIf_length, cmpSet_length, nibIdle_length, upTo_length, List.length_map, List.length_mapIdx, List.length_replicate]) | (fail_if_no_progress beta_reduce) | (fail_if_no_progress dsimp only) | split | apply And.intro)

theorem Kept.execPrsnDebounceDone {o : State} (g : Nat) (s : State) (h0 : Kept o s) : Keeps o (execPrsnDebounceDone g s) := by
  unfold Sys2Proof.Machine.execPrsnDebounceDone
  dsimp -failIfUnchanged only
  with_reducible repeat' (first | assumption | apply Keeps.next | exact Keeps.fault | (intro _) | apply Kept.ite | apply Kept.ite2 | apply Kept.foldl | apply Kept.foldl2 | apply Kept.modGrd | apply Kept.rampOrPend | apply Kept.grdStep | apply h0 | apply Grd.shaped_held8 | (simp only [Grd.shaped_mk, setAt_length, modAt_length, unsettleIf_length, cmpSet_length, nibIdle_length, upTo_length, List.length_map, List.length_mapIdx, List.length_replicate]) | (fail_if_no_progress beta_reduce) | (fail_if_no_progress dsimp only) | split | apply And.intro)

theorem Kept.execPrsnRemoval {o : State} (g : Nat) (s : State) (h0 : Kept o s) : Keeps o (execPrsnRemoval g s) := by
  unfold Sys2Proof.Machine.execPrsnRemoval
  dsimp -failIfUnchanged only
  with_reducible repeat' (first | assumption | apply Keeps.next | exact Keeps.fault | (intro _) | apply Kept.ite | apply Kept.ite2 | apply Kept.foldl | apply Kept.foldl2 | apply Kept.modGrd | apply Kept.grdReport | apply Kept.setLast | apply Kept.grdOffTo | apply h0 | apply Grd.shaped_held8 | (simp only [Grd.shaped_mk, setAt_length, modAt_length, unsettleIf_length, cmpSet_length, nibIdle_length, upTo_length, List.length_map, List.length_mapIdx, List.length_replicate]) | (fail_if_no_progress beta_reduce) | (fail_if_no_progress dsimp only) | split | apply And.intro)

theorem Kept.execGrdOn {o : State} (src : Issuer) (g : Nat) (s : State) (h0 : Kept o s) : Keeps o (execGrdOn src g s) := by
  unfold Sys2Proof.Machine.execGrdOn
  dsimp -failIfUnchanged only
  with_reducible repeat' (first | assumption | apply Keeps.next | exact Keeps.fault | (intro _) | apply Kept.ite | apply Kept.ite2 | apply Kept.foldl | apply Kept.foldl2 | apply Kept.onMq | apply Kept.grdOnAct | apply Kept.grdCtrlWrite | apply h0 | (fail_if_no_progress beta_reduce) | (fail_if_no_progress dsimp only) | split | apply And.intro)

theorem Kept.execGrdOff {o : State} (src : Issuer) (g : Nat) (s : State) (h0 : Kept o s) : Keeps o (execGrdOff src g s) := by
  unfold Sys2Proof.Machine.execGrdOff
  dsimp -failIfUnchanged only
  with_reducible repeat' (first | assumption | apply Keeps.next | exact Keeps.fault | (intro _) | apply Kept.ite | apply Kept.ite2 | apply Kept.foldl | apply Kept.foldl2 | apply Kept.onMq | apply Kept.grdOffAct | apply Kept.grdCtrlWrite | apply h0 | (fail_if_no_progress beta_reduce) | (fail_if_no_progress dsimp only) | split | apply And.intro)

theorem Kept.execGrdClear {o : State} (src : Issuer) (g : Nat) (s : State) (h0 : Kept o s) : Keeps o (execGrdClear src g s) := by
  unfold Sys2Proof.Machine.execGrdClear
  dsimp -failIfUnchanged only
  with_reducible repeat' (first | assumption | apply Keeps.next | exact Keeps.fault | (intro _) | apply Kept.ite | apply Kept.ite2 | apply Kept.foldl | apply Kept.foldl2 | apply Kept.onMq | apply Kept.grdClearAct | apply Kept.grdCtrlWrite | apply h0 | (fail_if_no_progress beta_reduce) | (fail_if_no_progress dsimp only) | split | apply And.intro)

theorem Kept.execGrdLimit {o : State} (tag arg0 arg1 : Word) (s : State) (h0 : Kept o s) : Keeps o (execGrdLimit tag arg0 arg1 s) := by
  unfold Sys2Proof.Machine.execGrdLimit
  dsimp -failIfUnchanged only
  with_reducible repeat' (first | assumption | apply Keeps.next | exact Keeps.fault | (intro _) | apply Kept.ite | apply Kept.ite2 | apply Kept.foldl | apply Kept.foldl2 | apply Kept.onMq | apply Kept.grdLimitAct | apply h0 | (fail_if_no_progress beta_reduce) | (fail_if_no_progress dsimp only) | split | apply And.intro)

theorem Kept.execEnergyCounterRead {o : State} (p : Port) (g : Nat) (s : State) (h0 : Kept o s) : Keeps o (execEnergyCounterRead p g s) := by
  unfold Sys2Proof.Machine.execEnergyCounterRead
  dsimp -failIfUnchanged only
  with_reducible repeat' (first | assumption | apply Keeps.next | exact Keeps.fault | (intro _) | apply Kept.ite | apply Kept.ite2 | apply Kept.foldl | apply Kept.foldl2 | apply Kept.energyRead | apply h0 | (fail_if_no_progress beta_reduce) | (fail_if_no_progress dsimp only) | split | apply And.intro)

/-! Rings -/

theorem Kept.execDoorbellSweep {o : State} (s : State) (h0 : Kept o s) : Keeps o (execDoorbellSweep s) := by
  unfold Sys2Proof.Machine.execDoorbellSweep
  dsimp -failIfUnchanged only
  with_reducible repeat' (first | assumption | apply Keeps.next | exact Keeps.fault | (intro _) | apply Kept.ite | apply Kept.ite2 | apply Kept.foldl | apply Kept.foldl2 | apply Kept.doorbellRead | apply h0 | simp only [Kept.mk_iff] | apply Kept.of | apply Kept.with_hif | apply Kept.hif | apply Hif.shaped_rings | apply Hif.shaped_vecPend | apply Hif.shaped_cqFull | (simp only [Hif.shaped_mk, setAt_length, modAt_length, unsettleIf_length, cmpSet_length, nibIdle_length, upTo_length, List.length_map, List.length_mapIdx, List.length_replicate]) | (fail_if_no_progress beta_reduce) | (fail_if_no_progress dsimp only) | split | apply And.intro)

theorem Kept.execDoorbellReadDone {o : State} (line : DoorbellLine) (s : State) (h0 : Kept o s) : Keeps o (execDoorbellReadDone line s) := by
  unfold Sys2Proof.Machine.execDoorbellReadDone
  dsimp -failIfUnchanged only
  with_reducible repeat' (first | assumption | apply Keeps.next | exact Keeps.fault | (intro _) | apply Kept.ite | apply Kept.ite2 | apply Kept.foldl | apply Kept.foldl2 | apply Kept.takeLine | apply h0 | (fail_if_no_progress beta_reduce) | (fail_if_no_progress dsimp only) | split | apply And.intro)

theorem Kept.execStatusLineWrite {o : State} (s : State) (h0 : Kept o s) : Keeps o (execStatusLineWrite s) := by
  unfold Sys2Proof.Machine.execStatusLineWrite
  dsimp -failIfUnchanged only
  with_reducible repeat' (first | assumption | apply Keeps.next | exact Keeps.fault | (intro _) | apply Kept.ite | apply Kept.ite2 | apply Kept.foldl | apply Kept.foldl2 | apply Kept.writeStatus | apply h0 | (fail_if_no_progress beta_reduce) | (fail_if_no_progress dsimp only) | split | apply And.intro)

theorem Kept.execRecordWrite {o : State} (s : State) (h0 : Kept o s) : Keeps o (execRecordWrite s) := by
  unfold Sys2Proof.Machine.execRecordWrite
  dsimp -failIfUnchanged only
  with_reducible repeat' (first | assumption | apply Keeps.next | exact Keeps.fault | (intro _) | apply Kept.ite | apply Kept.ite2 | apply Kept.foldl | apply Kept.foldl2 | apply Kept.writeRecord | apply h0 | (fail_if_no_progress beta_reduce) | (fail_if_no_progress dsimp only) | split | apply And.intro)

theorem Kept.execGapRecord {o : State} (r : Nat) (s : State) (h0 : Kept o s) : Keeps o (execGapRecord r s) := by
  unfold Sys2Proof.Machine.execGapRecord
  dsimp -failIfUnchanged only
  with_reducible repeat' (first | assumption | apply Keeps.next | exact Keeps.fault | (intro _) | apply Kept.ite | apply Kept.ite2 | apply Kept.foldl | apply Kept.foldl2 | apply Kept.writeGap | apply h0 | (fail_if_no_progress beta_reduce) | (fail_if_no_progress dsimp only) | split | apply And.intro)

theorem Kept.execRingEnable {o : State} (p : Port) (r : Nat) (v : Word) (s : State) (h0 : Kept o s) : Keeps o (execRingEnable p r v s) := by
  unfold Sys2Proof.Machine.execRingEnable
  dsimp -failIfUnchanged only
  with_reducible repeat' (first | assumption | apply Keeps.next | exact Keeps.fault | (intro _) | apply Kept.ite | apply Kept.ite2 | apply Kept.foldl | apply Kept.foldl2 | apply Kept.ringCfgWrite | apply h0 | (fail_if_no_progress beta_reduce) | (fail_if_no_progress dsimp only) | split | apply And.intro)

theorem Kept.execRingDisable {o : State} (p : Port) (r : Nat) (v : Word) (s : State) (h0 : Kept o s) : Keeps o (execRingDisable p r v s) := by
  unfold Sys2Proof.Machine.execRingDisable
  dsimp -failIfUnchanged only
  with_reducible repeat' (first | assumption | apply Keeps.next | exact Keeps.fault | (intro _) | apply Kept.ite | apply Kept.ite2 | apply Kept.foldl | apply Kept.foldl2 | apply Kept.ringCfgWrite | apply h0 | (fail_if_no_progress beta_reduce) | (fail_if_no_progress dsimp only) | split | apply And.intro)

theorem Kept.execRingDrained {o : State} (r : Nat) (s : State) (h0 : Kept o s) : Keeps o (execRingDrained r s) := by
  unfold Sys2Proof.Machine.execRingDrained
  dsimp -failIfUnchanged only
  with_reducible repeat' (first | assumption | apply Keeps.next | exact Keeps.fault | (intro _) | apply Kept.ite | apply Kept.ite2 | apply Kept.foldl | apply Kept.foldl2 | apply Kept.modRing | apply h0 | (fail_if_no_progress beta_reduce) | (fail_if_no_progress dsimp only) | split | apply And.intro)

theorem Kept.execRingEngineEnable {o : State} (p : Port) (v : Word) (s : State) (h0 : Kept o s) : Keeps o (execRingEngineEnable p v s) := by
  unfold Sys2Proof.Machine.execRingEngineEnable
  dsimp -failIfUnchanged only
  with_reducible repeat' (first | assumption | apply Keeps.next | exact Keeps.fault | (intro _) | apply Kept.ite | apply Kept.ite2 | apply Kept.foldl | apply Kept.foldl2 | apply Kept.onWrite | apply Kept.engineCtrl | apply h0 | (fail_if_no_progress beta_reduce) | (fail_if_no_progress dsimp only) | split | apply And.intro)

theorem Kept.execQuadrantUngate {o : State} (q : Nat) (s : State) (h0 : Kept o s) : Keeps o (execQuadrantUngate q s) := by
  unfold Sys2Proof.Machine.execQuadrantUngate
  dsimp -failIfUnchanged only
  with_reducible repeat' (first | assumption | apply Keeps.next | exact Keeps.fault | (intro _) | apply Kept.ite | apply Kept.ite2 | apply Kept.foldl | apply Kept.foldl2 | apply Kept.askQuad | apply h0 | (fail_if_no_progress beta_reduce) | (fail_if_no_progress dsimp only) | split | apply And.intro)

theorem Kept.execQuadrantGateClose {o : State} (q : Nat) (s : State) (h0 : Kept o s) : Keeps o (execQuadrantGateClose q s) := by
  unfold Sys2Proof.Machine.execQuadrantGateClose
  dsimp -failIfUnchanged only
  with_reducible repeat' (first | assumption | apply Keeps.next | exact Keeps.fault | (intro _) | apply Kept.ite | apply Kept.ite2 | apply Kept.foldl | apply Kept.foldl2 | apply Kept.inCycle | apply h0 | simp only [Kept.mk_iff] | apply Kept.of | apply Kept.with_clk | apply Kept.clk | apply Clk.shaped_qrun | apply Clk.shaped_qidle | (simp only [Clk.shaped_mk, setAt_length, modAt_length, unsettleIf_length, cmpSet_length, nibIdle_length, upTo_length, List.length_map, List.length_mapIdx, List.length_replicate]) | (fail_if_no_progress beta_reduce) | (fail_if_no_progress dsimp only) | split | apply And.intro)

/-! Hif -/

theorem Kept.execPerstAssert {o : State} (s : State) (h0 : Kept o s) : Keeps o (execPerstAssert s) := by
  unfold Sys2Proof.Machine.execPerstAssert
  dsimp -failIfUnchanged only
  with_reducible repeat' (first | assumption | apply Keeps.next | exact Keeps.fault | (intro _) | apply Kept.ite | apply Kept.ite2 | apply Kept.foldl | apply Kept.foldl2 | apply Kept.linkReset | apply h0 | simp only [Kept.mk_iff] | apply Kept.of | apply Kept.with_hif | apply Kept.hif | apply Hif.shaped_rings | apply Hif.shaped_vecPend | apply Hif.shaped_cqFull | (simp only [Hif.shaped_mk, setAt_length, modAt_length, unsettleIf_length, cmpSet_length, nibIdle_length, upTo_length, List.length_map, List.length_mapIdx, List.length_replicate]) | (fail_if_no_progress beta_reduce) | (fail_if_no_progress dsimp only) | split | apply And.intro)

theorem Kept.execPerstDeassert {o : State} (s : State) (h0 : Kept o s) : Keeps o (execPerstDeassert s) := by
  unfold Sys2Proof.Machine.execPerstDeassert
  dsimp -failIfUnchanged only
  with_reducible repeat' (first | assumption | apply Keeps.next | exact Keeps.fault | (intro _) | apply Kept.ite | apply Kept.ite2 | apply Kept.foldl | apply Kept.foldl2 | apply h0 | simp only [Kept.mk_iff] | apply Kept.of | apply Kept.with_hif | apply Kept.hif | apply Hif.shaped_rings | apply Hif.shaped_vecPend | apply Hif.shaped_cqFull | (simp only [Hif.shaped_mk, setAt_length, modAt_length, unsettleIf_length, cmpSet_length, nibIdle_length, upTo_length, List.length_map, List.length_mapIdx, List.length_replicate]) | (fail_if_no_progress beta_reduce) | (fail_if_no_progress dsimp only) | split | apply And.intro)

theorem Kept.execHotReset {o : State} (s : State) (h0 : Kept o s) : Keeps o (execHotReset s) := by
  unfold Sys2Proof.Machine.execHotReset
  dsimp -failIfUnchanged only
  with_reducible repeat' (first | assumption | apply Keeps.next | exact Keeps.fault | (intro _) | apply Kept.ite | apply Kept.ite2 | apply Kept.foldl | apply Kept.foldl2 | apply Kept.linkReset | apply h0 | (fail_if_no_progress beta_reduce) | (fail_if_no_progress dsimp only) | split | apply And.intro)

theorem Kept.execFunctionLevelReset {o : State} (s : State) (h0 : Kept o s) : Keeps o (execFunctionLevelReset s) := by
  unfold Sys2Proof.Machine.execFunctionLevelReset
  dsimp -failIfUnchanged only
  with_reducible repeat' (first | assumption | apply Keeps.next | exact Keeps.fault | (intro _) | apply Kept.ite | apply Kept.ite2 | apply Kept.foldl | apply Kept.foldl2 | apply Kept.hostReset | apply h0 | (fail_if_no_progress beta_reduce) | (fail_if_no_progress dsimp only) | split | apply And.intro)

theorem Kept.execDataLinkDown {o : State} (unacked : Nat) (s : State) (h0 : Kept o s) : Keeps o (execDataLinkDown unacked s) := by
  unfold Sys2Proof.Machine.execDataLinkDown
  dsimp -failIfUnchanged only
  with_reducible repeat' (first | assumption | apply Keeps.next | exact Keeps.fault | (intro _) | apply Kept.ite | apply Kept.ite2 | apply Kept.foldl | apply Kept.foldl2 | apply Kept.linkDown | apply Kept.unacked | apply h0 | (fail_if_no_progress beta_reduce) | (fail_if_no_progress dsimp only) | split | apply And.intro)

theorem Kept.execDataLinkUp {o : State} (speed width : Nat) (s : State) (h0 : Kept o s) : Keeps o (execDataLinkUp speed width s) := by
  unfold Sys2Proof.Machine.execDataLinkUp
  dsimp -failIfUnchanged only
  with_reducible repeat' (first | assumption | apply Keeps.next | exact Keeps.fault | (intro _) | apply Kept.ite | apply Kept.ite2 | apply Kept.foldl | apply Kept.foldl2 | apply Kept.flushMessages | apply h0 | simp only [Kept.mk_iff] | apply Kept.of | apply Kept.with_hif | apply Kept.hif | apply Hif.shaped_rings | apply Hif.shaped_vecPend | apply Hif.shaped_cqFull | (simp only [Hif.shaped_mk, setAt_length, modAt_length, unsettleIf_length, cmpSet_length, nibIdle_length, upTo_length, List.length_map, List.length_mapIdx, List.length_replicate]) | (fail_if_no_progress beta_reduce) | (fail_if_no_progress dsimp only) | split | apply And.intro)

theorem Kept.execBusMasterDisable {o : State} (d3 : Bool) (s : State) (h0 : Kept o s) : Keeps o (execBusMasterDisable d3 s) := by
  unfold Sys2Proof.Machine.execBusMasterDisable
  dsimp -failIfUnchanged only
  with_reducible repeat' (first | assumption | apply Keeps.next | exact Keeps.fault | (intro _) | apply Kept.ite | apply Kept.ite2 | apply Kept.foldl | apply Kept.foldl2 | apply Kept.endPcieSession | apply h0 | simp only [Kept.mk_iff] | apply Kept.of | apply Kept.with_hif | apply Kept.hif | apply Hif.shaped_rings | apply Hif.shaped_vecPend | apply Hif.shaped_cqFull | (simp only [Hif.shaped_mk, setAt_length, modAt_length, unsettleIf_length, cmpSet_length, nibIdle_length, upTo_length, List.length_map, List.length_mapIdx, List.length_replicate]) | (fail_if_no_progress beta_reduce) | (fail_if_no_progress dsimp only) | split | apply And.intro)

theorem Kept.execBusMasterEnable {o : State} (s : State) (h0 : Kept o s) : Keeps o (execBusMasterEnable s) := by
  unfold Sys2Proof.Machine.execBusMasterEnable
  dsimp -failIfUnchanged only
  with_reducible repeat' (first | assumption | apply Keeps.next | exact Keeps.fault | (intro _) | apply Kept.ite | apply Kept.ite2 | apply Kept.foldl | apply Kept.foldl2 | apply Kept.flushMessages | apply h0 | simp only [Kept.mk_iff] | apply Kept.of | apply Kept.with_hif | apply Kept.hif | apply Hif.shaped_rings | apply Hif.shaped_vecPend | apply Hif.shaped_cqFull | (simp only [Hif.shaped_mk, setAt_length, modAt_length, unsettleIf_length, cmpSet_length, nibIdle_length, upTo_length, List.length_map, List.length_mapIdx, List.length_replicate]) | (fail_if_no_progress beta_reduce) | (fail_if_no_progress dsimp only) | split | apply And.intro)

theorem Kept.execHostSilence {o : State} (s : State) (h0 : Kept o s) : Keeps o (execHostSilence s) := by
  unfold Sys2Proof.Machine.execHostSilence
  dsimp -failIfUnchanged only
  with_reducible repeat' (first | assumption | apply Keeps.next | exact Keeps.fault | (intro _) | apply Kept.ite | apply Kept.ite2 | apply Kept.foldl | apply Kept.foldl2 | apply Kept.fallbackCause | apply h0 | simp only [Kept.mk_iff] | apply Kept.of | apply Kept.with_hif | apply Kept.hif | apply Hif.shaped_rings | apply Hif.shaped_vecPend | apply Hif.shaped_cqFull | (simp only [Hif.shaped_mk, setAt_length, modAt_length, unsettleIf_length, cmpSet_length, nibIdle_length, upTo_length, List.length_map, List.length_mapIdx, List.length_replicate]) | (fail_if_no_progress beta_reduce) | (fail_if_no_progress dsimp only) | split | apply And.intro)

theorem Kept.execHifHeartbeat {o : State} (p : Port) (_v : Word) (s : State) (h0 : Kept o s) : Keeps o (execHifHeartbeat p _v s) := by
  unfold Sys2Proof.Machine.execHifHeartbeat
  dsimp -failIfUnchanged only
  with_reducible repeat' (first | assumption | apply Keeps.next | exact Keeps.fault | (intro _) | apply Kept.ite | apply Kept.ite2 | apply Kept.foldl | apply Kept.foldl2 | apply Kept.heartbeat | apply h0 | (fail_if_no_progress beta_reduce) | (fail_if_no_progress dsimp only) | split | apply And.intro)

theorem Kept.execDmaFailure {o : State} (ring cause : Nat) (s : State) (h0 : Kept o s) : Keeps o (execDmaFailure ring cause s) := by
  unfold Sys2Proof.Machine.execDmaFailure
  dsimp -failIfUnchanged only
  with_reducible repeat' (first | assumption | apply Keeps.next | exact Keeps.fault | (intro _) | apply Kept.ite | apply Kept.ite2 | apply Kept.foldl | apply Kept.foldl2 | apply Kept.dmaFail | apply h0 | (fail_if_no_progress beta_reduce) | (fail_if_no_progress dsimp only) | split | apply And.intro)

theorem Kept.execMsixUnmask {o : State} (v : Nat) (s : State) (h0 : Kept o s) : Keeps o (execMsixUnmask v s) := by
  unfold Sys2Proof.Machine.execMsixUnmask
  dsimp -failIfUnchanged only
  with_reducible repeat' (first | assumption | apply Keeps.next | exact Keeps.fault | (intro _) | apply Kept.ite | apply Kept.ite2 | apply Kept.foldl | apply Kept.foldl2 | apply Kept.unmask | apply h0 | (fail_if_no_progress beta_reduce) | (fail_if_no_progress dsimp only) | split | apply And.intro)

theorem Kept.execMsixEnable {o : State} (s : State) (h0 : Kept o s) : Keeps o (execMsixEnable s) := by
  unfold Sys2Proof.Machine.execMsixEnable
  dsimp -failIfUnchanged only
  with_reducible repeat' (first | assumption | apply Keeps.next | exact Keeps.fault | (intro _) | apply Kept.ite | apply Kept.ite2 | apply Kept.foldl | apply Kept.foldl2 | apply Kept.flushMessages | apply h0 | simp only [Kept.mk_iff] | apply Kept.of | apply Kept.with_hif | apply Kept.hif | apply Hif.shaped_rings | apply Hif.shaped_vecPend | apply Hif.shaped_cqFull | (simp only [Hif.shaped_mk, setAt_length, modAt_length, unsettleIf_length, cmpSet_length, nibIdle_length, upTo_length, List.length_map, List.length_mapIdx, List.length_replicate]) | (fail_if_no_progress beta_reduce) | (fail_if_no_progress dsimp only) | split | apply And.intro)

/-! Nib -/

theorem Kept.execStroke {o : State} (n : Nat) (inputs : List Bool) (s : State) (h0 : Kept o s) : Keeps o (execStroke n inputs s) := by
  unfold Sys2Proof.Machine.execStroke
  dsimp -failIfUnchanged only
  with_reducible repeat' (first | assumption | apply Keeps.next | exact Keeps.fault | (intro _) | apply Kept.ite | apply Kept.ite2 | apply Kept.foldl | apply Kept.foldl2 | apply Kept.cycleStart | apply Kept.strokeNow | apply h0 | (fail_if_no_progress beta_reduce) | (fail_if_no_progress dsimp only) | split | apply And.intro)

theorem Kept.execNibStart {o : State} (p : Port) (n : Nat) (v : Word) (s : State) (h0 : Kept o s) : Keeps o (execNibStart p n v s) := by
  unfold Sys2Proof.Machine.execNibStart
  dsimp -failIfUnchanged only
  with_reducible repeat' (first | assumption | apply Keeps.next | exact Keeps.fault | (intro _) | apply Kept.ite | apply Kept.ite2 | apply Kept.foldl | apply Kept.foldl2 | apply Kept.nibWrite | apply h0 | (fail_if_no_progress beta_reduce) | (fail_if_no_progress dsimp only) | split | apply And.intro)

theorem Kept.execNibStop {o : State} (p : Port) (n : Nat) (v : Word) (s : State) (h0 : Kept o s) : Keeps o (execNibStop p n v s) := by
  unfold Sys2Proof.Machine.execNibStop
  dsimp -failIfUnchanged only
  with_reducible repeat' (first | assumption | apply Keeps.next | exact Keeps.fault | (intro _) | apply Kept.ite | apply Kept.ite2 | apply Kept.foldl | apply Kept.foldl2 | apply Kept.nibWrite | apply h0 | (fail_if_no_progress beta_reduce) | (fail_if_no_progress dsimp only) | split | apply And.intro)

theorem Kept.execNibResume {o : State} (p : Port) (n : Nat) (v : Word) (s : State) (h0 : Kept o s) : Keeps o (execNibResume p n v s) := by
  unfold Sys2Proof.Machine.execNibResume
  dsimp -failIfUnchanged only
  with_reducible repeat' (first | assumption | apply Keeps.next | exact Keeps.fault | (intro _) | apply Kept.ite | apply Kept.ite2 | apply Kept.foldl | apply Kept.foldl2 | apply Kept.nibWrite | apply h0 | (fail_if_no_progress beta_reduce) | (fail_if_no_progress dsimp only) | split | apply And.intro)

theorem Kept.execNibFlush {o : State} (p : Port) (n : Nat) (v : Word) (s : State) (h0 : Kept o s) : Keeps o (execNibFlush p n v s) := by
  unfold Sys2Proof.Machine.execNibFlush
  dsimp -failIfUnchanged only
  with_reducible repeat' (first | assumption | apply Keeps.next | exact Keeps.fault | (intro _) | apply Kept.ite | apply Kept.ite2 | apply Kept.foldl | apply Kept.foldl2 | apply Kept.nibWrite | apply h0 | (fail_if_no_progress beta_reduce) | (fail_if_no_progress dsimp only) | split | apply And.intro)

theorem Kept.execNibTxWrite {o : State} (p : Port) (n : Nat) (v : Word) (s : State) (h0 : Kept o s) : Keeps o (execNibTxWrite p n v s) := by
  unfold Sys2Proof.Machine.execNibTxWrite
  dsimp -failIfUnchanged only
  with_reducible repeat' (first | assumption | apply Keeps.next | exact Keeps.fault | (intro _) | apply Kept.ite | apply Kept.ite2 | apply Kept.foldl | apply Kept.foldl2 | apply Kept.txWrite | apply h0 | (fail_if_no_progress beta_reduce) | (fail_if_no_progress dsimp only) | split | apply And.intro)

theorem Kept.execNibRxRead {o : State} (p : Port) (n : Nat) (s : State) (h0 : Kept o s) : Keeps o (execNibRxRead p n s) := by
  unfold Sys2Proof.Machine.execNibRxRead
  dsimp -failIfUnchanged only
  with_reducible repeat' (first | assumption | apply Keeps.next | exact Keeps.fault | (intro _) | apply Kept.ite | apply Kept.ite2 | apply Kept.foldl | apply Kept.foldl2 | apply Kept.rxRead | apply h0 | (fail_if_no_progress beta_reduce) | (fail_if_no_progress dsimp only) | split | apply And.intro)

theorem Kept.execStrokeWrite {o : State} (p : Port) (n : Nat) (v : Word) (s : State) (h0 : Kept o s) : Keeps o (execStrokeWrite p n v s) := by
  unfold Sys2Proof.Machine.execStrokeWrite
  dsimp -failIfUnchanged only
  with_reducible repeat' (first | assumption | apply Keeps.next | exact Keeps.fault | (intro _) | apply Kept.ite | apply Kept.ite2 | apply Kept.foldl | apply Kept.foldl2 | apply Kept.onWrite | apply Kept.strokeHi | apply h0 | (fail_if_no_progress beta_reduce) | (fail_if_no_progress dsimp only) | split | apply And.intro)

theorem Kept.execStrokeReadLatch {o : State} (p : Port) (n : Nat) (s : State) (h0 : Kept o s) : Keeps o (execStrokeReadLatch p n s) := by
  unfold Sys2Proof.Machine.execStrokeReadLatch
  dsimp -failIfUnchanged only
  with_reducible repeat' (first | assumption | apply Keeps.next | exact Keeps.fault | (intro _) | apply Kept.ite | apply Kept.ite2 | apply Kept.foldl | apply Kept.foldl2 | apply Kept.strokeRead | apply h0 | (fail_if_no_progress beta_reduce) | (fail_if_no_progress dsimp only) | split | apply And.intro)

theorem Kept.execMarginWrite {o : State} (p : Port) (n : Nat) (v : Word) (s : State) (h0 : Kept o s) : Keeps o (execMarginWrite p n v s) := by
  unfold Sys2Proof.Machine.execMarginWrite
  dsimp -failIfUnchanged only
  with_reducible repeat' (first | assumption | apply Keeps.next | exact Keeps.fault | (intro _) | apply Kept.ite | apply Kept.ite2 | apply Kept.foldl | apply Kept.foldl2 | apply Kept.onWrite | apply Kept.marginSet | apply h0 | (fail_if_no_progress beta_reduce) | (fail_if_no_progress dsimp only) | split | apply And.intro)

/-! Whl -/

theorem Kept.execCrankEdge {o : State} (stamp : CrankStamp) (width peak : Nat) (s : State) (h0 :
    Kept o s) : Keeps o (execCrankEdge stamp width peak s) := by
  unfold Sys2Proof.Machine.execCrankEdge
  dsimp -failIfUnchanged only
  with_reducible repeat' (first | assumption | apply Keeps.next | exact Keeps.fault | (intro _) | apply Kept.ite | apply Kept.ite2 | apply Kept.foldl | apply Kept.foldl2 | apply Kept.crank | apply h0 | simp only [Kept.mk_iff] | apply Kept.of | (fail_if_no_progress beta_reduce) | (fail_if_no_progress dsimp only) | split | apply And.intro)

theorem Kept.execCoarseEdge {o : State} (s : State) (h0 : Kept o s) : Keeps o (execCoarseEdge s) := by
  unfold Sys2Proof.Machine.execCoarseEdge
  dsimp -failIfUnchanged only
  with_reducible repeat' (first | assumption | apply Keeps.next | exact Keeps.fault | (intro _) | apply Kept.ite | apply Kept.ite2 | apply Kept.foldl | apply Kept.foldl2 | apply Kept.coarse | apply h0 | (fail_if_no_progress beta_reduce) | (fail_if_no_progress dsimp only) | split | apply And.intro)

theorem Kept.execCamEdge {o : State} (n : Nat) (falling : Bool) (stamp : Tb) (width peak : Nat) (s : State) (h0 :
    Kept o s) : Keeps o (execCamEdge n falling stamp width peak s) := by
  unfold Sys2Proof.Machine.execCamEdge
  dsimp -failIfUnchanged only
  with_reducible repeat' (first | assumption | apply Keeps.next | exact Keeps.fault | (intro _) | apply Kept.ite | apply Kept.ite2 | apply Kept.foldl | apply Kept.foldl2 | apply Kept.cam | apply h0 | (fail_if_no_progress beta_reduce) | (fail_if_no_progress dsimp only) | split | apply And.intro)

theorem Kept.execStall {o : State} (s : State) (h0 : Kept o s) : Keeps o (execStall s) := by
  unfold Sys2Proof.Machine.execStall
  dsimp -failIfUnchanged only
  with_reducible repeat' (first | assumption | apply Keeps.next | exact Keeps.fault | (intro _) | apply Kept.ite | apply Kept.ite2 | apply Kept.foldl | apply Kept.foldl2 | apply Kept.doStall | apply Kept.armedIf | apply h0 | (fail_if_no_progress beta_reduce) | (fail_if_no_progress dsimp only) | split | apply And.intro)

theorem Kept.execSyncReset {o : State} (p : Port) (v : Word) (s : State) (h0 : Kept o s) : Keeps o (execSyncReset p v s) := by
  unfold Sys2Proof.Machine.execSyncReset
  dsimp -failIfUnchanged only
  with_reducible repeat' (first | assumption | apply Keeps.next | exact Keeps.fault | (intro _) | apply Kept.ite | apply Kept.ite2 | apply Kept.foldl | apply Kept.foldl2 | apply Kept.syncResetWrite | apply h0 | (fail_if_no_progress beta_reduce) | (fail_if_no_progress dsimp only) | split | apply And.intro)

theorem Kept.execClockClamp {o : State} (s : State) (h0 : Kept o s) : Keeps o (execClockClamp s) := by
  unfold Sys2Proof.Machine.execClockClamp
  dsimp -failIfUnchanged only
  with_reducible repeat' (first | assumption | apply Keeps.next | exact Keeps.fault | (intro _) | apply Kept.ite | apply Kept.ite2 | apply Kept.foldl | apply Kept.foldl2 | apply Kept.count | apply h0 | simp only [Kept.mk_iff] | apply Kept.of | (fail_if_no_progress beta_reduce) | (fail_if_no_progress dsimp only) | split | apply And.intro)

theorem Kept.execCycleWrap {o : State} (s : State) (h0 : Kept o s) : Keeps o (execCycleWrap s) := by
  unfold Sys2Proof.Machine.execCycleWrap
  dsimp -failIfUnchanged only
  with_reducible repeat' (first | assumption | apply Keeps.next | exact Keeps.fault | (intro _) | apply Kept.ite | apply Kept.ite2 | apply Kept.foldl | apply Kept.foldl2 | apply Kept.moveClock | apply h0 | (fail_if_no_progress beta_reduce) | (fail_if_no_progress dsimp only) | split | apply And.intro)

theorem Kept.execTerrDataAccess {o : State} (p : Port) (w : Option Word) (s : State) (h0 : Kept o s) : Keeps o (execTerrDataAccess p w s) := by
  unfold Sys2Proof.Machine.execTerrDataAccess
  dsimp -failIfUnchanged only
  with_reducible repeat' (first | assumption | apply Keeps.next | exact Keeps.fault | (intro _) | apply Kept.ite | apply Kept.ite2 | apply Kept.foldl | apply Kept.foldl2 | apply Kept.onRead | apply Kept.terrAccess | apply Kept.onWrite | apply h0 | (fail_if_no_progress beta_reduce) | (fail_if_no_progress dsimp only) | split | apply And.intro)

theorem Kept.execClearTerr {o : State} (p : Port) (v : Word) (s : State) (h0 : Kept o s) : Keeps o (execClearTerr p v s) := by
  unfold Sys2Proof.Machine.execClearTerr
  dsimp -failIfUnchanged only
  with_reducible repeat' (first | assumption | apply Keeps.next | exact Keeps.fault | (intro _) | apply Kept.ite | apply Kept.ite2 | apply Kept.foldl | apply Kept.foldl2 | apply Kept.aclkWrite | apply h0 | (fail_if_no_progress beta_reduce) | (fail_if_no_progress dsimp only) | split | apply And.intro)

theorem Kept.execClearTors {o : State} (p : Port) (v : Word) (s : State) (h0 : Kept o s) : Keeps o (execClearTors p v s) := by
  unfold Sys2Proof.Machine.execClearTors
  dsimp -failIfUnchanged only
  with_reducible repeat' (first | assumption | apply Keeps.next | exact Keeps.fault | (intro _) | apply Kept.ite | apply Kept.ite2 | apply Kept.foldl | apply Kept.foldl2 | apply Kept.aclkWrite | apply h0 | (fail_if_no_progress beta_reduce) | (fail_if_no_progress dsimp only) | split | apply And.intro)

theorem Kept.execErrRestart {o : State} (p : Port) (v : Word) (s : State) (h0 : Kept o s) : Keeps o (execErrRestart p v s) := by
  unfold Sys2Proof.Machine.execErrRestart
  dsimp -failIfUnchanged only
  with_reducible repeat' (first | assumption | apply Keeps.next | exact Keeps.fault | (intro _) | apply Kept.ite | apply Kept.ite2 | apply Kept.foldl | apply Kept.foldl2 | apply Kept.aclkWrite | apply h0 | (fail_if_no_progress beta_reduce) | (fail_if_no_progress dsimp only) | split | apply And.intro)

theorem Kept.execAngleReadLatch {o : State} (p : Port) (s : State) (h0 : Kept o s) : Keeps o (execAngleReadLatch p s) := by
  unfold Sys2Proof.Machine.execAngleReadLatch
  dsimp -failIfUnchanged only
  with_reducible repeat' (first | assumption | apply Keeps.next | exact Keeps.fault | (intro _) | apply Kept.ite | apply Kept.ite2 | apply Kept.foldl | apply Kept.foldl2 | apply Kept.angleRead | apply h0 | (fail_if_no_progress beta_reduce) | (fail_if_no_progress dsimp only) | split | apply And.intro)

theorem Kept.execStampReadLatch {o : State} (p : Port) (s : State) (h0 : Kept o s) : Keeps o (execStampReadLatch p s) := by
  unfold Sys2Proof.Machine.execStampReadLatch
  dsimp -failIfUnchanged only
  with_reducible repeat' (first | assumption | apply Keeps.next | exact Keeps.fault | (intro _) | apply Kept.ite | apply Kept.ite2 | apply Kept.foldl | apply Kept.foldl2 | apply Kept.stampRead | apply h0 | (fail_if_no_progress beta_reduce) | (fail_if_no_progress dsimp only) | split | apply And.intro)

/-! Slur -/

theorem Kept.execAngleFrameLaunch {o : State} (s : State) (h0 : Kept o s) : Keeps o (execAngleFrameLaunch s) := by
  unfold Sys2Proof.Machine.execAngleFrameLaunch
  dsimp -failIfUnchanged only
  with_reducible repeat' (first | assumption | apply Keeps.next | exact Keeps.fault | (intro _) | apply Kept.ite | apply Kept.ite2 | apply Kept.foldl | apply Kept.foldl2 | apply h0 | simp only [Kept.mk_iff] | apply Kept.of | (fail_if_no_progress beta_reduce) | (fail_if_no_progress dsimp only) | split | apply And.intro)

theorem Kept.execAngleFrameReceive {o : State} (f : AngleFrame) (s : State) (h0 : Kept o s) : Keeps o (execAngleFrameReceive f s) := by
  unfold Sys2Proof.Machine.execAngleFrameReceive
  dsimp -failIfUnchanged only
  with_reducible repeat' (first | assumption | apply Keeps.next | exact Keeps.fault | (intro _) | apply Kept.ite | apply Kept.ite2 | apply Kept.foldl | apply Kept.foldl2 | apply Kept.count | apply Kept.frameIn | apply h0 | (fail_if_no_progress beta_reduce) | (fail_if_no_progress dsimp only) | split | apply And.intro)

theorem Kept.execSlurLinkLoss {o : State} (s : State) (h0 : Kept o s) : Keeps o (execSlurLinkLoss s) := by
  unfold Sys2Proof.Machine.execSlurLinkLoss
  dsimp -failIfUnchanged only
  with_reducible repeat' (first | assumption | apply Keeps.next | exact Keeps.fault | (intro _) | apply Kept.ite | apply Kept.ite2 | apply Kept.foldl | apply Kept.foldl2 | apply Kept.slurLost | apply h0 | (fail_if_no_progress beta_reduce) | (fail_if_no_progress dsimp only) | split | apply And.intro)

theorem Kept.execRetrain {o : State} (p : Port) (v : Word) (s : State) (h0 : Kept o s) : Keeps o (execRetrain p v s) := by
  unfold Sys2Proof.Machine.execRetrain
  dsimp -failIfUnchanged only
  with_reducible repeat' (first | assumption | apply Keeps.next | exact Keeps.fault | (intro _) | apply Kept.ite | apply Kept.ite2 | apply Kept.foldl | apply Kept.foldl2 | apply Kept.retrainWrite | apply h0 | (fail_if_no_progress beta_reduce) | (fail_if_no_progress dsimp only) | split | apply And.intro)

theorem Kept.execSlurRetry {o : State} (s : State) (h0 : Kept o s) : Keeps o (execSlurRetry s) := by
  unfold Sys2Proof.Machine.execSlurRetry
  dsimp -failIfUnchanged only
  with_reducible repeat' (first | assumption | apply Keeps.next | exact Keeps.fault | (intro _) | apply Kept.ite | apply Kept.ite2 | apply Kept.foldl | apply Kept.foldl2 | apply Kept.beginTraining | apply h0 | (fail_if_no_progress beta_reduce) | (fail_if_no_progress dsimp only) | split | apply And.intro)

theorem Kept.execSlurLossTimeout {o : State} (s : State) (h0 : Kept o s) : Keeps o (execSlurLossTimeout s) := by
  unfold Sys2Proof.Machine.execSlurLossTimeout
  dsimp -failIfUnchanged only
  with_reducible repeat' (first | assumption | apply Keeps.next | exact Keeps.fault | (intro _) | apply Kept.ite | apply Kept.ite2 | apply Kept.foldl | apply Kept.foldl2 | apply Kept.slurStall | apply Kept.armedIf | apply h0 | (fail_if_no_progress beta_reduce) | (fail_if_no_progress dsimp only) | split | apply And.intro)

theorem Kept.execUpstreamStatusLoss {o : State} (s : State) (h0 : Kept o s) : Keeps o (execUpstreamStatusLoss s) := by
  unfold Sys2Proof.Machine.execUpstreamStatusLoss
  dsimp -failIfUnchanged only
  with_reducible repeat' (first | assumption | apply Keeps.next | exact Keeps.fault | (intro _) | apply Kept.ite | apply Kept.ite2 | apply Kept.foldl | apply Kept.foldl2 | apply h0 | simp only [Kept.mk_iff] | apply Kept.of | (fail_if_no_progress beta_reduce) | (fail_if_no_progress dsimp only) | split | apply And.intro)

theorem Kept.execTrainingStepDone {o : State} (s : State) (h0 : Kept o s) : Keeps o (execTrainingStepDone s) := by
  unfold Sys2Proof.Machine.execTrainingStepDone
  dsimp -failIfUnchanged only
  with_reducible repeat' (first | assumption | apply Keeps.next | exact Keeps.fault | (intro _) | apply Kept.ite | apply Kept.ite2 | apply Kept.foldl | apply Kept.foldl2 | apply Kept.trainStep | apply h0 | (fail_if_no_progress beta_reduce) | (fail_if_no_progress dsimp only) | split | apply And.intro)

theorem Kept.execTrainingFrameReceive {o : State} (f : TrainFrame) (arrival : Tb) (s : State) (h0 :
    Kept o s) : Keeps o (execTrainingFrameReceive f arrival s) := by
  unfold Sys2Proof.Machine.execTrainingFrameReceive
  dsimp -failIfUnchanged only
  with_reducible repeat' (first | assumption | apply Keeps.next | exact Keeps.fault | (intro _) | apply Kept.ite | apply Kept.ite2 | apply Kept.foldl | apply Kept.foldl2 | apply Kept.count | apply Kept.trainIn | apply h0 | (fail_if_no_progress beta_reduce) | (fail_if_no_progress dsimp only) | split | apply And.intro)

theorem Kept.execTrainingEcho {o : State} (rt : Option Nat) (s : State) (h0 : Kept o s) : Keeps o (execTrainingEcho rt s) := by
  unfold Sys2Proof.Machine.execTrainingEcho
  dsimp -failIfUnchanged only
  with_reducible repeat' (first | assumption | apply Keeps.next | exact Keeps.fault | (intro _) | apply Kept.ite | apply Kept.ite2 | apply Kept.foldl | apply Kept.foldl2 | apply Kept.echo | apply Kept.relaunch | apply h0 | (fail_if_no_progress beta_reduce) | (fail_if_no_progress dsimp only) | split | apply And.intro)

theorem Kept.execTrainingTimeout {o : State} (s : State) (h0 : Kept o s) : Keeps o (execTrainingTimeout s) := by
  unfold Sys2Proof.Machine.execTrainingTimeout
  dsimp -failIfUnchanged only
  with_reducible repeat' (first | assumption | apply Keeps.next | exact Keeps.fault | (intro _) | apply Kept.ite | apply Kept.ite2 | apply Kept.foldl | apply Kept.foldl2 | apply Kept.trainFail | apply h0 | (fail_if_no_progress beta_reduce) | (fail_if_no_progress dsimp only) | split | apply And.intro)

theorem Kept.execTimeBaseSlew {o : State} (diff : Int) (s : State) (h0 : Kept o s) : Keeps o (execTimeBaseSlew diff s) := by
  unfold Sys2Proof.Machine.execTimeBaseSlew
  dsimp -failIfUnchanged only
  with_reducible repeat' (first | assumption | apply Keeps.next | exact Keeps.fault | (intro _) | apply Kept.ite | apply Kept.ite2 | apply Kept.foldl | apply Kept.foldl2 | apply h0 | simp only [Kept.mk_iff] | apply Kept.of | apply Kept.with_clk | apply Kept.clk | apply Clk.shaped_qrun | apply Clk.shaped_qidle | (simp only [Clk.shaped_mk, setAt_length, modAt_length, unsettleIf_length, cmpSet_length, nibIdle_length, upTo_length, List.length_map, List.length_mapIdx, List.length_replicate]) | (fail_if_no_progress beta_reduce) | (fail_if_no_progress dsimp only) | split | apply And.intro)

/-! Sorter -/

theorem Kept.execNew {o : State} (sq : Nat) (d : Descriptor) (s : State) (h0 : Kept o s) : Keeps o (execNew sq d s) := by
  unfold Sys2Proof.Machine.execNew
  dsimp -failIfUnchanged only
  with_reducible repeat' (first | assumption | apply Keeps.next | exact Keeps.fault | (intro _) | apply Kept.ite | apply Kept.ite2 | apply Kept.foldl | apply Kept.foldl2 | apply Kept.arrive | apply h0 | (fail_if_no_progress beta_reduce) | (fail_if_no_progress dsimp only) | split | apply And.intro)

theorem Kept.execReplace {o : State} (sq : Nat) (d : Descriptor) (s : State) (h0 : Kept o s) : Keeps o (execReplace sq d s) := by
  unfold Sys2Proof.Machine.execReplace
  dsimp -failIfUnchanged only
  with_reducible repeat' (first | assumption | apply Keeps.next | exact Keeps.fault | (intro _) | apply Kept.ite | apply Kept.ite2 | apply Kept.foldl | apply Kept.foldl2 | apply Kept.arrive | apply h0 | (fail_if_no_progress beta_reduce) | (fail_if_no_progress dsimp only) | split | apply And.intro)

theorem Kept.execCancel {o : State} (sq : Nat) (d : Descriptor) (s : State) (h0 : Kept o s) : Keeps o (execCancel sq d s) := by
  unfold Sys2Proof.Machine.execCancel
  dsimp -failIfUnchanged only
  with_reducible repeat' (first | assumption | apply Keeps.next | exact Keeps.fault | (intro _) | apply Kept.ite | apply Kept.ite2 | apply Kept.foldl | apply Kept.foldl2 | apply Kept.arrive | apply h0 | (fail_if_no_progress beta_reduce) | (fail_if_no_progress dsimp only) | split | apply And.intro)

theorem Kept.execCancelAll {o : State} (sq : Nat) (d : Descriptor) (s : State) (h0 : Kept o s) : Keeps o (execCancelAll sq d s) := by
  unfold Sys2Proof.Machine.execCancelAll
  dsimp -failIfUnchanged only
  with_reducible repeat' (first | assumption | apply Keeps.next | exact Keeps.fault | (intro _) | apply Kept.ite | apply Kept.ite2 | apply Kept.foldl | apply Kept.foldl2 | apply Kept.arrive | apply h0 | (fail_if_no_progress beta_reduce) | (fail_if_no_progress dsimp only) | split | apply And.intro)

/-! Modes -/

theorem Kept.execModeRequestDormant {o : State} (p : Port) (vigil : Bool) (s : State) (h0 :
    Kept o s) : Keeps o (execModeRequestDormant p vigil s) := by
  unfold Sys2Proof.Machine.execModeRequestDormant
  dsimp -failIfUnchanged only
  with_reducible repeat' (first | assumption | apply Keeps.next | exact Keeps.fault | (intro _) | apply Kept.ite | apply Kept.ite2 | apply Kept.foldl | apply Kept.foldl2 | apply Kept.modeRequest | apply h0 | (fail_if_no_progress beta_reduce) | (fail_if_no_progress dsimp only) | split | apply And.intro)

theorem Kept.execModeRequestSafestop {o : State} (p : Port) (s : State) (h0 : Kept o s) : Keeps o (execModeRequestSafestop p s) := by
  unfold Sys2Proof.Machine.execModeRequestSafestop
  dsimp -failIfUnchanged only
  with_reducible repeat' (first | assumption | apply Keeps.next | exact Keeps.fault | (intro _) | apply Kept.ite | apply Kept.ite2 | apply Kept.foldl | apply Kept.foldl2 | apply Kept.modeRequest | apply h0 | (fail_if_no_progress beta_reduce) | (fail_if_no_progress dsimp only) | split | apply And.intro)

theorem Kept.execModeRequestSetup {o : State} (p : Port) (s : State) (h0 : Kept o s) : Keeps o (execModeRequestSetup p s) := by
  unfold Sys2Proof.Machine.execModeRequestSetup
  dsimp -failIfUnchanged only
  with_reducible repeat' (first | assumption | apply Keeps.next | exact Keeps.fault | (intro _) | apply Kept.ite | apply Kept.ite2 | apply Kept.foldl | apply Kept.foldl2 | apply Kept.modeRequest | apply h0 | (fail_if_no_progress beta_reduce) | (fail_if_no_progress dsimp only) | split | apply And.intro)

theorem Kept.execModeRequestArmed {o : State} (p : Port) (s : State) (h0 : Kept o s) : Keeps o (execModeRequestArmed p s) := by
  unfold Sys2Proof.Machine.execModeRequestArmed
  dsimp -failIfUnchanged only
  with_reducible repeat' (first | assumption | apply Keeps.next | exact Keeps.fault | (intro _) | apply Kept.ite | apply Kept.ite2 | apply Kept.foldl | apply Kept.foldl2 | apply Kept.modeRequest | apply h0 | (fail_if_no_progress beta_reduce) | (fail_if_no_progress dsimp only) | split | apply And.intro)

theorem Kept.execModeRequestMaint {o : State} (p : Port) (s : State) (h0 : Kept o s) : Keeps o (execModeRequestMaint p s) := by
  unfold Sys2Proof.Machine.execModeRequestMaint
  dsimp -failIfUnchanged only
  with_reducible repeat' (first | assumption | apply Keeps.next | exact Keeps.fault | (intro _) | apply Kept.ite | apply Kept.ite2 | apply Kept.foldl | apply Kept.foldl2 | apply Kept.modeRequest | apply h0 | (fail_if_no_progress beta_reduce) | (fail_if_no_progress dsimp only) | split | apply And.intro)

theorem Kept.execModeRequestMaintExit {o : State} (p : Port) (s : State) (h0 : Kept o s) : Keeps o (execModeRequestMaintExit p s) := by
  unfold Sys2Proof.Machine.execModeRequestMaintExit
  dsimp -failIfUnchanged only
  with_reducible repeat' (first | assumption | apply Keeps.next | exact Keeps.fault | (intro _) | apply Kept.ite | apply Kept.ite2 | apply Kept.foldl | apply Kept.foldl2 | apply Kept.modeRequest | apply h0 | (fail_if_no_progress beta_reduce) | (fail_if_no_progress dsimp only) | split | apply And.intro)

theorem Kept.execIdleTimeout {o : State} (s : State) (h0 : Kept o s) : Keeps o (execIdleTimeout s) := by
  unfold Sys2Proof.Machine.execIdleTimeout
  dsimp -failIfUnchanged only
  with_reducible repeat' (first | assumption | apply Keeps.next | exact Keeps.fault | (intro _) | apply Kept.ite | apply Kept.ite2 | apply Kept.foldl | apply Kept.foldl2 | apply Kept.sleepBegin | apply h0 | (fail_if_no_progress beta_reduce) | (fail_if_no_progress dsimp only) | split | apply And.intro)

theorem Kept.execSleepCommit {o : State} (s : State) (h0 : Kept o s) : Keeps o (execSleepCommit s) := by
  unfold Sys2Proof.Machine.execSleepCommit
  dsimp -failIfUnchanged only
  with_reducible repeat' (first | assumption | apply Keeps.next | exact Keeps.fault | (intro _) | apply Kept.ite | apply Kept.ite2 | apply Kept.foldl | apply Kept.foldl2 | apply Kept.sleepGo | apply h0 | (fail_if_no_progress beta_reduce) | (fail_if_no_progress dsimp only) | split | apply And.intro)

theorem Kept.execSleepWaitTimeout {o : State} (s : State) (h0 : Kept o s) : Keeps o (execSleepWaitTimeout s) := by
  unfold Sys2Proof.Machine.execSleepWaitTimeout
  dsimp -failIfUnchanged only
  with_reducible repeat' (first | assumption | apply Keeps.next | exact Keeps.fault | (intro _) | apply Kept.ite | apply Kept.ite2 | apply Kept.foldl | apply Kept.foldl2 | apply Kept.sleepCancel | apply h0 | simp only [Kept.mk_iff] | apply Kept.of | (fail_if_no_progress beta_reduce) | (fail_if_no_progress dsimp only) | split | apply And.intro)

theorem Kept.execWakeDecision {o : State} (w : WakeSrc) (s : State) (h0 : Kept o s) : Keeps o (execWakeDecision w s) := by
  unfold Sys2Proof.Machine.execWakeDecision
  dsimp -failIfUnchanged only
  with_reducible repeat' (first | assumption | apply Keeps.next | exact Keeps.fault | (intro _) | apply Kept.ite | apply Kept.ite2 | apply Kept.foldl | apply Kept.foldl2 | apply Kept.sleepCancel | apply Kept.wake | apply h0 | (fail_if_no_progress beta_reduce) | (fail_if_no_progress dsimp only) | split | apply And.intro)

theorem Kept.execSafestopSupply {o : State} (s : State) (h0 : Kept o s) : Keeps o (execSafestopSupply s) := by
  unfold Sys2Proof.Machine.execSafestopSupply
  dsimp -failIfUnchanged only
  with_reducible repeat' (first | assumption | apply Keeps.next | exact Keeps.fault | (intro _) | apply Kept.ite | apply Kept.ite2 | apply Kept.foldl | apply Kept.foldl2 | apply Kept.safestop | apply h0 | (fail_if_no_progress beta_reduce) | (fail_if_no_progress dsimp only) | split | apply And.intro)

theorem Kept.execSafestopTemperature {o : State} (s : State) (h0 : Kept o s) : Keeps o (execSafestopTemperature s) := by
  unfold Sys2Proof.Machine.execSafestopTemperature
  dsimp -failIfUnchanged only
  with_reducible repeat' (first | assumption | apply Keeps.next | exact Keeps.fault | (intro _) | apply Kept.ite | apply Kept.ite2 | apply Kept.foldl | apply Kept.foldl2 | apply Kept.safestop | apply h0 | (fail_if_no_progress beta_reduce) | (fail_if_no_progress dsimp only) | split | apply And.intro)

theorem Kept.execStopPin {o : State} (s : State) (h0 : Kept o s) : Keeps o (execStopPin s) := by
  unfold Sys2Proof.Machine.execStopPin
  dsimp -failIfUnchanged only
  with_reducible repeat' (first | assumption | apply Keeps.next | exact Keeps.fault | (intro _) | apply Kept.ite | apply Kept.ite2 | apply Kept.foldl | apply Kept.foldl2 | apply Kept.safestop | apply h0 | (fail_if_no_progress beta_reduce) | (fail_if_no_progress dsimp only) | split | apply And.intro)

theorem Kept.execSafestopCauseCleared {o : State} (c : Nat) (s : State) (h0 : Kept o s) : Keeps o (execSafestopCauseCleared c s) := by
  unfold Sys2Proof.Machine.execSafestopCauseCleared
  dsimp -failIfUnchanged only
  with_reducible repeat' (first | assumption | apply Keeps.next | exact Keeps.fault | (intro _) | apply Kept.ite | apply Kept.ite2 | apply Kept.foldl | apply Kept.foldl2 | apply Kept.safeActive | apply h0 | simp only [Kept.mk_iff] | apply Kept.of | (fail_if_no_progress beta_reduce) | (fail_if_no_progress dsimp only) | split | apply And.intro)

theorem Kept.execDieLinkLoss {o : State} (s : State) (h0 : Kept o s) : Keeps o (execDieLinkLoss s) := by
  unfold Sys2Proof.Machine.execDieLinkLoss
  dsimp -failIfUnchanged only
  with_reducible repeat' (first | assumption | apply Keeps.next | exact Keeps.fault | (intro _) | apply Kept.ite | apply Kept.ite2 | apply Kept.foldl | apply Kept.foldl2 | apply Kept.dieLoss | apply h0 | (fail_if_no_progress beta_reduce) | (fail_if_no_progress dsimp only) | split | apply And.intro)

theorem Kept.execDieLinkRetrain {o : State} (ok : Bool) (s : State) (h0 : Kept o s) : Keeps o (execDieLinkRetrain ok s) := by
  unfold Sys2Proof.Machine.execDieLinkRetrain
  dsimp -failIfUnchanged only
  with_reducible repeat' (first | assumption | apply Keeps.next | exact Keeps.fault | (intro _) | apply Kept.ite | apply Kept.ite2 | apply Kept.foldl | apply Kept.foldl2 | apply Kept.dieBack | apply h0 | simp only [Kept.mk_iff] | apply Kept.of | apply Kept.with_clk | apply Kept.clk | apply Clk.shaped_qrun | apply Clk.shaped_qidle | (simp only [Clk.shaped_mk, setAt_length, modAt_length, unsettleIf_length, cmpSet_length, nibIdle_length, upTo_length, List.length_map, List.length_mapIdx, List.length_replicate]) | (fail_if_no_progress beta_reduce) | (fail_if_no_progress dsimp only) | split | apply And.intro)

theorem Kept.execReferenceLoss {o : State} (s : State) (h0 : Kept o s) : Keeps o (execReferenceLoss s) := by
  unfold Sys2Proof.Machine.execReferenceLoss
  dsimp -failIfUnchanged only
  with_reducible repeat' (first | assumption | apply Keeps.next | exact Keeps.fault | (intro _) | apply Kept.ite | apply Kept.ite2 | apply Kept.foldl | apply Kept.foldl2 | apply Kept.dieLoss | apply h0 | simp only [Kept.mk_iff] | apply Kept.of | apply Kept.with_clk | apply Kept.with_regs | constructor | apply Kept.part | apply Kept.pending | apply Kept.regs | apply Kept.clk | apply Kept.hif | apply Kept.evc | apply Kept.sec | apply Kept.whl | apply Kept.sch | apply Kept.banks | apply Kept.quads | apply Kept.ink | apply Kept.grds | apply Kept.adc | apply Kept.cmps | apply Kept.tmrs | apply Kept.nibs | apply RegsKept.image | apply RegsKept.imgKind | apply RegsKept.live | apply RegsKept.shadow | apply RegsKept.imageWf | apply Clk.shaped_qrun | apply Clk.shaped_qidle | (simp only [Clk.shaped_mk, RegsKept_mk, setAt_length, modAt_length, unsettleIf_length, cmpSet_length, nibIdle_length, upTo_length, List.length_map, List.length_mapIdx, List.length_replicate]) | (fail_if_no_progress beta_reduce) | (fail_if_no_progress dsimp only) | split | apply And.intro)

theorem Kept.execAonCrystalSwitch {o : State} (s : State) (h0 : Kept o s) : Keeps o (execAonCrystalSwitch s) := by
  unfold Sys2Proof.Machine.execAonCrystalSwitch
  dsimp -failIfUnchanged only
  with_reducible repeat' (first | assumption | apply Keeps.next | exact Keeps.fault | (intro _) | apply Kept.ite | apply Kept.ite2 | apply Kept.foldl | apply Kept.foldl2 | apply h0 | simp only [Kept.mk_iff] | apply Kept.of | apply Kept.with_clk | apply Kept.clk | apply Clk.shaped_qrun | apply Clk.shaped_qidle | (simp only [Clk.shaped_mk, setAt_length, modAt_length, unsettleIf_length, cmpSet_length, nibIdle_length, upTo_length, List.length_map, List.length_mapIdx, List.length_replicate]) | (fail_if_no_progress beta_reduce) | (fail_if_no_progress dsimp only) | split | apply And.intro)

theorem Kept.execFallbackAdmission {o : State} (e : Nat) (s : State) (h0 : Kept o s) : Keeps o (execFallbackAdmission e s) := by
  unfold Sys2Proof.Machine.execFallbackAdmission
  dsimp -failIfUnchanged only
  with_reducible repeat' (first | assumption | apply Keeps.next | exact Keeps.fault | (intro _) | apply Kept.ite | apply Kept.ite2 | apply Kept.foldl | apply Kept.foldl2 | apply Kept.planAdmit | apply h0 | (fail_if_no_progress beta_reduce) | (fail_if_no_progress dsimp only) | split | apply And.intro)

theorem Kept.execFbdataAccess {o : State} (p : Port) (w : Option Word) (s : State) (h0 : Kept o s) : Keeps o (execFbdataAccess p w s) := by
  unfold Sys2Proof.Machine.execFbdataAccess
  dsimp -failIfUnchanged only
  with_reducible repeat' (first | assumption | apply Keeps.next | exact Keeps.fault | (intro _) | apply Kept.ite | apply Kept.ite2 | apply Kept.foldl | apply Kept.foldl2 | apply Kept.onRead | apply Kept.fbAccess | apply Kept.onWrite | apply h0 | (fail_if_no_progress beta_reduce) | (fail_if_no_progress dsimp only) | split | apply And.intro)

theorem Kept.execSoftwareReset {o : State} (p : Port) (v : Word) (s : State) (h0 : Kept o s) : Keeps o (execSoftwareReset p v s) := by
  unfold Sys2Proof.Machine.execSoftwareReset
  dsimp -failIfUnchanged only
  with_reducible repeat' (first | assumption | apply Keeps.next | exact Keeps.fault | (intro _) | apply Kept.ite | apply Kept.ite2 | apply Kept.foldl | apply Kept.foldl2 | apply Kept.softReset | apply h0 | (fail_if_no_progress beta_reduce) | (fail_if_no_progress dsimp only) | split | apply And.intro)

theorem Kept.execBrownoutRelease {o : State} (s : State) (h0 : Kept o s) : Keeps o (execBrownoutRelease s) := by
  unfold Sys2Proof.Machine.execBrownoutRelease
  dsimp -failIfUnchanged only
  with_reducible repeat' (first | assumption | apply Keeps.next | exact Keeps.fault | (intro _) | apply Kept.ite | apply Kept.ite2 | apply Kept.foldl | apply Kept.foldl2 | apply Kept.railsBack | apply h0 | simp only [Kept.mk_iff] | apply Kept.of | (fail_if_no_progress beta_reduce) | (fail_if_no_progress dsimp only) | split | apply And.intro)

theorem Kept.execPowerOnReset {o : State} (s : State) (h0 : Kept o s) : Keeps o (execPowerOnReset s) := by
  unfold Sys2Proof.Machine.execPowerOnReset
  dsimp -failIfUnchanged only
  with_reducible repeat' (first | assumption | apply Keeps.next | exact Keeps.fault | (intro _) | apply Kept.ite | apply Kept.ite2 | apply Kept.foldl | apply Kept.foldl2 | apply Kept.mramOnly | apply h0 | (fail_if_no_progress beta_reduce) | (fail_if_no_progress dsimp only) | split | apply And.intro)

theorem Kept.execReferenceQualified {o : State} (s : State) (h0 : Kept o s) : Keeps o (execReferenceQualified s) := by
  unfold Sys2Proof.Machine.execReferenceQualified
  dsimp -failIfUnchanged only
  with_reducible repeat' (first | assumption | apply Keeps.next | exact Keeps.fault | (intro _) | apply Kept.ite | apply Kept.ite2 | apply Kept.foldl | apply Kept.foldl2 | apply h0 | simp only [Kept.mk_iff] | apply Kept.of | apply Kept.with_clk | apply Kept.clk | apply Clk.shaped_qrun | apply Clk.shaped_qidle | (simp only [Clk.shaped_mk, setAt_length, modAt_length, unsettleIf_length, cmpSet_length, nibIdle_length, upTo_length, List.length_map, List.length_mapIdx, List.length_replicate]) | (fail_if_no_progress beta_reduce) | (fail_if_no_progress dsimp only) | split | apply And.intro)

theorem Kept.execPllLocked {o : State} (s : State) (h0 : Kept o s) : Keeps o (execPllLocked s) := by
  unfold Sys2Proof.Machine.execPllLocked
  dsimp -failIfUnchanged only
  with_reducible repeat' (first | assumption | apply Keeps.next | exact Keeps.fault | (intro _) | apply Kept.ite | apply Kept.ite2 | apply Kept.foldl | apply Kept.foldl2 | apply h0 | simp only [Kept.mk_iff] | apply Kept.of | apply Kept.with_clk | apply Kept.clk | apply Clk.shaped_qrun | apply Clk.shaped_qidle | (simp only [Clk.shaped_mk, setAt_length, modAt_length, unsettleIf_length, cmpSet_length, nibIdle_length, upTo_length, List.length_map, List.length_mapIdx, List.length_replicate]) | (fail_if_no_progress beta_reduce) | (fail_if_no_progress dsimp only) | split | apply And.intro)

theorem Kept.execDieLinkTrained {o : State} (s : State) (h0 : Kept o s) : Keeps o (execDieLinkTrained s) := by
  unfold Sys2Proof.Machine.execDieLinkTrained
  dsimp -failIfUnchanged only
  with_reducible repeat' (first | assumption | apply Keeps.next | exact Keeps.fault | (intro _) | apply Kept.ite | apply Kept.ite2 | apply Kept.foldl | apply Kept.foldl2 | apply Kept.unsettle | apply Kept.railsFresh | apply h0 | simp only [Kept.mk_iff] | apply Kept.of | apply Kept.with_clk | apply Kept.with_hif | constructor | apply Kept.part | apply Kept.pending | apply Kept.regs | apply Kept.clk | apply Kept.hif | apply Kept.evc | apply Kept.sec | apply Kept.whl | apply Kept.sch | apply Kept.banks | apply Kept.quads | apply Kept.ink | apply Kept.grds | apply Kept.adc | apply Kept.cmps | apply Kept.tmrs | apply Kept.nibs | apply Clk.shaped_qrun | apply Clk.shaped_qidle | apply Hif.shaped_rings | apply Hif.shaped_vecPend | apply Hif.shaped_cqFull | (simp only [Clk.shaped_mk, Hif.shaped_mk, setAt_length, modAt_length, unsettleIf_length, cmpSet_length, nibIdle_length, upTo_length, List.length_map, List.length_mapIdx, List.length_replicate]) | (fail_if_no_progress beta_reduce) | (fail_if_no_progress dsimp only) | split | apply And.intro)

theorem Kept.execImageChecked {o : State} (s : State) (h0 : Kept o s) : Keeps o (execImageChecked s) := by
  unfold Sys2Proof.Machine.execImageChecked
  dsimp -failIfUnchanged only
  with_reducible repeat' (first | assumption | apply Keeps.next | exact Keeps.fault | (intro _) | apply Kept.ite | apply Kept.ite2 | apply Kept.foldl | apply Kept.foldl2 | apply Kept.loadImage | apply h0 | (fail_if_no_progress beta_reduce) | (fail_if_no_progress dsimp only) | split | apply And.intro)

theorem Kept.execBootComplete {o : State} (s : State) (h0 : Kept o s) : Keeps o (execBootComplete s) := by
  unfold Sys2Proof.Machine.execBootComplete
  dsimp -failIfUnchanged only
  with_reducible repeat' (first | assumption | apply Keeps.next | exact Keeps.fault | (intro _) | apply Kept.ite | apply Kept.ite2 | apply Kept.foldl | apply Kept.foldl2 | apply Kept.bootEnd | apply h0 | (fail_if_no_progress beta_reduce) | (fail_if_no_progress dsimp only) | split | apply And.intro)

/-! Mq -/

theorem Kept.execMqNop {o : State} (tag : Word) (s : State) (h0 : Kept o s) : Keeps o (execMqNop tag s) := by
  unfold Sys2Proof.Machine.execMqNop
  dsimp -failIfUnchanged only
  with_reducible repeat' (first | assumption | apply Keeps.next | exact Keeps.fault | (intro _) | apply Kept.ite | apply Kept.ite2 | apply Kept.foldl | apply Kept.foldl2 | apply Kept.onMq | apply h0 | (fail_if_no_progress beta_reduce) | (fail_if_no_progress dsimp only) | split | apply And.intro)

theorem Kept.execMqUnknownOpcode {o : State} (tag : Word) (op : Nat) (s : State) (h0 : Kept o s) : Keeps o (execMqUnknownOpcode tag op s) := by
  unfold Sys2Proof.Machine.execMqUnknownOpcode
  dsimp -failIfUnchanged only
  with_reducible repeat' (first | assumption | apply Keeps.next | exact Keeps.fault | (intro _) | apply Kept.ite | apply Kept.ite2 | apply Kept.foldl | apply Kept.foldl2 | apply Kept.onMq | apply h0 | (fail_if_no_progress beta_reduce) | (fail_if_no_progress dsimp only) | split | apply And.intro)

theorem Kept.execTraceCtrl {o : State} (tag arg0 : Word) (s : State) (h0 : Kept o s) : Keeps o (execTraceCtrl tag arg0 s) := by
  unfold Sys2Proof.Machine.execTraceCtrl
  dsimp -failIfUnchanged only
  with_reducible repeat' (first | assumption | apply Keeps.next | exact Keeps.fault | (intro _) | apply Kept.ite | apply Kept.ite2 | apply Kept.foldl | apply Kept.foldl2 | apply Kept.onMq | apply Kept.putWord | apply Kept.noteMq | apply h0 | (fail_if_no_progress beta_reduce) | (fail_if_no_progress dsimp only) | split | apply And.intro)

theorem Kept.execClearOc {o : State} (tag arg0 : Word) (s : State) (h0 : Kept o s) : Keeps o (execClearOc tag arg0 s) := by
  unfold Sys2Proof.Machine.execClearOc
  dsimp -failIfUnchanged only
  with_reducible repeat' (first | assumption | apply Keeps.next | exact Keeps.fault | (intro _) | apply Kept.ite | apply Kept.ite2 | apply Kept.foldl | apply Kept.foldl2 | apply Kept.onMq | apply Kept.clearOcAct | apply h0 | (fail_if_no_progress beta_reduce) | (fail_if_no_progress dsimp only) | split | apply And.intro)

theorem Kept.execPhraseParam {o : State} (tag arg0 arg1 : Word) (s : State) (h0 : Kept o s) : Keeps o (execPhraseParam tag arg0 arg1 s) := by
  unfold Sys2Proof.Machine.execPhraseParam
  dsimp -failIfUnchanged only
  with_reducible repeat' (first | assumption | apply Keeps.next | exact Keeps.fault | (intro _) | apply Kept.ite | apply Kept.ite2 | apply Kept.foldl | apply Kept.foldl2 | apply Kept.paramRun | apply h0 | simp only [Kept.mk_iff] | apply Kept.of | apply Kept.with_hif | apply Kept.hif | apply Hif.shaped_rings | apply Hif.shaped_vecPend | apply Hif.shaped_cqFull | (simp only [Hif.shaped_mk, setAt_length, modAt_length, unsettleIf_length, cmpSet_length, nibIdle_length, upTo_length, List.length_map, List.length_mapIdx, List.length_replicate]) | (fail_if_no_progress beta_reduce) | (fail_if_no_progress dsimp only) | split | apply And.intro)

theorem Kept.execAccClose {o : State} (tag arg0 : Word) (s : State) (h0 : Kept o s) : Keeps o (execAccClose tag arg0 s) := by
  unfold Sys2Proof.Machine.execAccClose
  dsimp -failIfUnchanged only
  with_reducible repeat' (first | assumption | apply Keeps.next | exact Keeps.fault | (intro _) | apply Kept.ite | apply Kept.ite2 | apply Kept.foldl | apply Kept.foldl2 | apply Kept.onMq | apply Kept.accCloseAct | apply h0 | (fail_if_no_progress beta_reduce) | (fail_if_no_progress dsimp only) | split | apply And.intro)

theorem Kept.execFallbackEnd {o : State} (src : Issuer) (s : State) (h0 : Kept o s) : Keeps o (execFallbackEnd src s) := by
  unfold Sys2Proof.Machine.execFallbackEnd
  dsimp -failIfUnchanged only
  with_reducible repeat' (first | assumption | apply Keeps.next | exact Keeps.fault | (intro _) | apply Kept.ite | apply Kept.ite2 | apply Kept.foldl | apply Kept.foldl2 | apply Kept.onMq | apply Kept.fallbackClear | apply Kept.fallbackWrite | apply h0 | (fail_if_no_progress beta_reduce) | (fail_if_no_progress dsimp only) | split | apply And.intro)

theorem Kept.execSafestopExit {o : State} (src : Issuer) (s : State) (h0 : Kept o s) : Keeps o (execSafestopExit src s) := by
  unfold Sys2Proof.Machine.execSafestopExit
  dsimp -failIfUnchanged only
  with_reducible repeat' (first | assumption | apply Keeps.next | exact Keeps.fault | (intro _) | apply Kept.ite | apply Kept.ite2 | apply Kept.foldl | apply Kept.foldl2 | apply Kept.onMq | apply Kept.safeExitAct | apply Kept.modeRequest | apply h0 | (fail_if_no_progress beta_reduce) | (fail_if_no_progress dsimp only) | split | apply And.intro)

/-! Sec -/

theorem Kept.execSessionRequest {o : State} (p : Port) (v : Word) (s : State) (h0 : Kept o s) : Keeps o (execSessionRequest p v s) := by
  unfold Sys2Proof.Machine.execSessionRequest
  dsimp -failIfUnchanged only
  with_reducible repeat' (first | assumption | apply Keeps.next | exact Keeps.fault | (intro _) | apply Kept.ite | apply Kept.ite2 | apply Kept.foldl | apply Kept.foldl2 | apply Kept.onWrite | apply Kept.askChallenge | apply h0 | (fail_if_no_progress beta_reduce) | (fail_if_no_progress dsimp only) | split | apply And.intro)

theorem Kept.execSessionOpen {o : State} (p : Port) (v : Word) (s : State) (h0 : Kept o s) : Keeps o (execSessionOpen p v s) := by
  unfold Sys2Proof.Machine.execSessionOpen
  dsimp -failIfUnchanged only
  with_reducible repeat' (first | assumption | apply Keeps.next | exact Keeps.fault | (intro _) | apply Kept.ite | apply Kept.ite2 | apply Kept.foldl | apply Kept.foldl2 | apply Kept.onWrite | apply Kept.openSession | apply h0 | (fail_if_no_progress beta_reduce) | (fail_if_no_progress dsimp only) | split | apply And.intro)

theorem Kept.execSessionClose {o : State} (p : Port) (v : Word) (s : State) (h0 : Kept o s) : Keeps o (execSessionClose p v s) := by
  unfold Sys2Proof.Machine.execSessionClose
  dsimp -failIfUnchanged only
  with_reducible repeat' (first | assumption | apply Keeps.next | exact Keeps.fault | (intro _) | apply Kept.ite | apply Kept.ite2 | apply Kept.foldl | apply Kept.foldl2 | apply Kept.onWrite | apply Kept.closeSession | apply h0 | (fail_if_no_progress beta_reduce) | (fail_if_no_progress dsimp only) | split | apply And.intro)

theorem Kept.execInstallerClaim {o : State} (p : Port) (v : Word) (s : State) (h0 : Kept o s) : Keeps o (execInstallerClaim p v s) := by
  unfold Sys2Proof.Machine.execInstallerClaim
  dsimp -failIfUnchanged only
  with_reducible repeat' (first | assumption | apply Keeps.next | exact Keeps.fault | (intro _) | apply Kept.ite | apply Kept.ite2 | apply Kept.foldl | apply Kept.foldl2 | apply Kept.onWrite | apply Kept.claimInstaller | apply h0 | (fail_if_no_progress beta_reduce) | (fail_if_no_progress dsimp only) | split | apply And.intro)

theorem Kept.execChallengeReady {o : State} (s : State) (h0 : Kept o s) : Keeps o (execChallengeReady s) := by
  unfold Sys2Proof.Machine.execChallengeReady
  dsimp -failIfUnchanged only
  with_reducible repeat' (first | assumption | apply Keeps.next | exact Keeps.fault | (intro _) | apply Kept.ite | apply Kept.ite2 | apply Kept.foldl | apply Kept.foldl2 | apply Kept.modSec | apply h0 | apply Sec.shaped_resp | apply Sec.shaped_key | (simp only [Sec.shaped_mk, setAt_length, modAt_length, unsettleIf_length, cmpSet_length, nibIdle_length, upTo_length, List.length_map, List.length_mapIdx, List.length_replicate]) | (fail_if_no_progress beta_reduce) | (fail_if_no_progress dsimp only) | split | apply And.intro)

theorem Kept.execChallengeExpiry {o : State} (s : State) (h0 : Kept o s) : Keeps o (execChallengeExpiry s) := by
  unfold Sys2Proof.Machine.execChallengeExpiry
  dsimp -failIfUnchanged only
  with_reducible repeat' (first | assumption | apply Keeps.next | exact Keeps.fault | (intro _) | apply Kept.ite | apply Kept.ite2 | apply Kept.foldl | apply Kept.foldl2 | apply Kept.modSec | apply h0 | apply Sec.shaped_resp | apply Sec.shaped_key | (simp only [Sec.shaped_mk, setAt_length, modAt_length, unsettleIf_length, cmpSet_length, nibIdle_length, upTo_length, List.length_map, List.length_mapIdx, List.length_replicate]) | (fail_if_no_progress beta_reduce) | (fail_if_no_progress dsimp only) | split | apply And.intro)

theorem Kept.execRoleUnlockDone {o : State} (s : State) (h0 : Kept o s) : Keeps o (execRoleUnlockDone s) := by
  unfold Sys2Proof.Machine.execRoleUnlockDone
  dsimp -failIfUnchanged only
  with_reducible repeat' (first | assumption | apply Keeps.next | exact Keeps.fault | (intro _) | apply Kept.ite | apply Kept.ite2 | apply Kept.foldl | apply Kept.foldl2 | apply Kept.claim | apply Kept.unlockEnds | apply h0 | (fail_if_no_progress beta_reduce) | (fail_if_no_progress dsimp only) | split | apply And.intro)

theorem Kept.execSessionIdleTimeout {o : State} (s : State) (h0 : Kept o s) : Keeps o (execSessionIdleTimeout s) := by
  unfold Sys2Proof.Machine.execSessionIdleTimeout
  dsimp -failIfUnchanged only
  with_reducible repeat' (first | assumption | apply Keeps.next | exact Keeps.fault | (intro _) | apply Kept.ite | apply Kept.ite2 | apply Kept.foldl | apply Kept.foldl2 | apply Kept.endSession | apply h0 | (fail_if_no_progress beta_reduce) | (fail_if_no_progress dsimp only) | split | apply And.intro)

theorem Kept.execLockoutEnd {o : State} (s : State) (h0 : Kept o s) : Keeps o (execLockoutEnd s) := by
  unfold Sys2Proof.Machine.execLockoutEnd
  dsimp -failIfUnchanged only
  with_reducible repeat' (first | assumption | apply Keeps.next | exact Keeps.fault | (intro _) | apply Kept.ite | apply Kept.ite2 | apply Kept.foldl | apply Kept.foldl2 | apply Kept.modSec | apply h0 | apply Sec.shaped_resp | apply Sec.shaped_key | (simp only [Sec.shaped_mk, setAt_length, modAt_length, unsettleIf_length, cmpSet_length, nibIdle_length, upTo_length, List.length_map, List.length_mapIdx, List.length_replicate]) | (fail_if_no_progress beta_reduce) | (fail_if_no_progress dsimp only) | split | apply And.intro)

theorem Kept.execKeyProvisionSet {o : State} (p : Port) (v : Word) (s : State) (h0 : Kept o s) : Keeps o (execKeyProvisionSet p v s) := by
  unfold Sys2Proof.Machine.execKeyProvisionSet
  dsimp -failIfUnchanged only
  with_reducible repeat' (first | assumption | apply Keeps.next | exact Keeps.fault | (intro _) | apply Kept.ite | apply Kept.ite2 | apply Kept.foldl | apply Kept.foldl2 | apply Kept.onMaker | apply Kept.provisionSet | apply Kept.onWrite | apply h0 | apply Kept.id | (fail_if_no_progress beta_reduce) | (fail_if_no_progress dsimp only) | split | apply And.intro)

theorem Kept.execKeyProvisionClear {o : State} (p : Port) (v : Word) (s : State) (h0 : Kept o s) : Keeps o (execKeyProvisionClear p v s) := by
  unfold Sys2Proof.Machine.execKeyProvisionClear
  dsimp -failIfUnchanged only
  with_reducible repeat' (first | assumption | apply Keeps.next | exact Keeps.fault | (intro _) | apply Kept.ite | apply Kept.ite2 | apply Kept.foldl | apply Kept.foldl2 | apply Kept.onMaker | apply Kept.provisionClear | apply Kept.onWrite | apply h0 | apply Kept.id | (fail_if_no_progress beta_reduce) | (fail_if_no_progress dsimp only) | split | apply And.intro)

theorem Kept.execJournalRead {o : State} (p : Port) (s : State) (h0 : Kept o s) : Keeps o (execJournalRead p s) := by
  unfold Sys2Proof.Machine.execJournalRead
  dsimp -failIfUnchanged only
  with_reducible repeat' (first | assumption | apply Keeps.next | exact Keeps.fault | (intro _) | apply Kept.ite | apply Kept.ite2 | apply Kept.foldl | apply Kept.foldl2 | apply Kept.onRead | apply Kept.jRead | apply h0 | (fail_if_no_progress beta_reduce) | (fail_if_no_progress dsimp only) | split | apply And.intro)

theorem Kept.execJournalExport {o : State} (p : Port) (v : Word) (s : State) (h0 : Kept o s) : Keeps o (execJournalExport p v s) := by
  unfold Sys2Proof.Machine.execJournalExport
  dsimp -failIfUnchanged only
  with_reducible repeat' (first | assumption | apply Keeps.next | exact Keeps.fault | (intro _) | apply Kept.ite | apply Kept.ite2 | apply Kept.foldl | apply Kept.foldl2 | apply Kept.onMaker | apply Kept.exportBegin | apply Kept.onWrite | apply h0 | apply Kept.id | (fail_if_no_progress beta_reduce) | (fail_if_no_progress dsimp only) | split | apply And.intro)

theorem Kept.execExportDone {o : State} (s : State) (h0 : Kept o s) : Keeps o (execExportDone s) := by
  unfold Sys2Proof.Machine.execExportDone
  dsimp -failIfUnchanged only
  with_reducible repeat' (first | assumption | apply Keeps.next | exact Keeps.fault | (intro _) | apply Kept.ite | apply Kept.ite2 | apply Kept.foldl | apply Kept.foldl2 | apply Kept.modSec | apply Kept.journal | apply Kept.endBusy | apply h0 | apply Sec.shaped_resp | apply Sec.shaped_key | (simp only [Sec.shaped_mk, setAt_length, modAt_length, unsettleIf_length, cmpSet_length, nibIdle_length, upTo_length, List.length_map, List.length_mapIdx, List.length_replicate]) | (fail_if_no_progress beta_reduce) | (fail_if_no_progress dsimp only) | split | apply And.intro)

theorem Kept.execJournalSeal {o : State} (p : Port) (v : Word) (s : State) (h0 : Kept o s) : Keeps o (execJournalSeal p v s) := by
  unfold Sys2Proof.Machine.execJournalSeal
  dsimp -failIfUnchanged only
  with_reducible repeat' (first | assumption | apply Keeps.next | exact Keeps.fault | (intro _) | apply Kept.ite | apply Kept.ite2 | apply Kept.foldl | apply Kept.foldl2 | apply Kept.onMaker | apply Kept.sealBegin | apply Kept.onWrite | apply h0 | apply Kept.id | (fail_if_no_progress beta_reduce) | (fail_if_no_progress dsimp only) | split | apply And.intro)

theorem Kept.execSealDone {o : State} (s : State) (h0 : Kept o s) : Keeps o (execSealDone s) := by
  unfold Sys2Proof.Machine.execSealDone
  dsimp -failIfUnchanged only
  with_reducible repeat' (first | assumption | apply Keeps.next | exact Keeps.fault | (intro _) | apply Kept.ite | apply Kept.ite2 | apply Kept.foldl | apply Kept.foldl2 | apply Kept.sealNow | apply h0 | (fail_if_no_progress beta_reduce) | (fail_if_no_progress dsimp only) | split | apply And.intro)

/-! Commit -/

theorem Kept.execCommit {o : State} (p : Port) (v : Word) (s : State) (h0 : Kept o s) : Keeps o (execCommit p v s) := by
  unfold Sys2Proof.Machine.execCommit
  dsimp -failIfUnchanged only
  with_reducible repeat' (first | assumption | apply Keeps.next | exact Keeps.fault | (intro _) | apply Kept.ite | apply Kept.ite2 | apply Kept.foldl | apply Kept.foldl2 | apply Kept.onWrite | apply Kept.commitWrite | apply h0 | (fail_if_no_progress beta_reduce) | (fail_if_no_progress dsimp only) | split | apply And.intro)

theorem Kept.execDiscard {o : State} (p : Port) (v : Word) (s : State) (h0 : Kept o s) : Keeps o (execDiscard p v s) := by
  unfold Sys2Proof.Machine.execDiscard
  dsimp -failIfUnchanged only
  with_reducible repeat' (first | assumption | apply Keeps.next | exact Keeps.fault | (intro _) | apply Kept.ite | apply Kept.ite2 | apply Kept.foldl | apply Kept.foldl2 | apply Kept.onWrite | apply Kept.commitWrite | apply h0 | (fail_if_no_progress beta_reduce) | (fail_if_no_progress dsimp only) | split | apply And.intro)

theorem Kept.execCommitFailed {o : State} (s : State) (h0 : Kept o s) : Keeps o (execCommitFailed s) := by
  unfold Sys2Proof.Machine.execCommitFailed
  dsimp -failIfUnchanged only
  with_reducible repeat' (first | assumption | apply Keeps.next | exact Keeps.fault | (intro _) | apply Kept.ite | apply Kept.ite2 | apply Kept.foldl | apply Kept.foldl2 | apply Kept.setVerify | apply Kept.commitEnds | apply Kept.commitFails | apply h0 | (fail_if_no_progress beta_reduce) | (fail_if_no_progress dsimp only) | split | apply And.intro)

/-! Jtag -/

theorem Kept.execJtagExtest {o : State} (s : State) (h0 : Kept o s) : Keeps o (execJtagExtest s) := by
  unfold Sys2Proof.Machine.execJtagExtest
  dsimp -failIfUnchanged only
  with_reducible repeat' (first | assumption | apply Keeps.next | exact Keeps.fault | (intro _) | apply Kept.ite | apply Kept.ite2 | apply Kept.foldl | apply Kept.foldl2 | apply Kept.onTap | apply Kept.scan | apply h0 | (fail_if_no_progress beta_reduce) | (fail_if_no_progress dsimp only) | split | apply And.intro)

theorem Kept.execJtagIdcode {o : State} (s : State) (h0 : Kept o s) : Keeps o (execJtagIdcode s) := by
  unfold Sys2Proof.Machine.execJtagIdcode
  dsimp -failIfUnchanged only
  with_reducible repeat' (first | assumption | apply Keeps.next | exact Keeps.fault | (intro _) | apply Kept.ite | apply Kept.ite2 | apply Kept.foldl | apply Kept.foldl2 | apply Kept.onTap | apply Kept.scan | apply h0 | (fail_if_no_progress beta_reduce) | (fail_if_no_progress dsimp only) | split | apply And.intro)

theorem Kept.execJtagClamp {o : State} (s : State) (h0 : Kept o s) : Keeps o (execJtagClamp s) := by
  unfold Sys2Proof.Machine.execJtagClamp
  dsimp -failIfUnchanged only
  with_reducible repeat' (first | assumption | apply Keeps.next | exact Keeps.fault | (intro _) | apply Kept.ite | apply Kept.ite2 | apply Kept.foldl | apply Kept.foldl2 | apply Kept.onTap | apply Kept.scan | apply h0 | (fail_if_no_progress beta_reduce) | (fail_if_no_progress dsimp only) | split | apply And.intro)

theorem Kept.execJtagHighz {o : State} (s : State) (h0 : Kept o s) : Keeps o (execJtagHighz s) := by
  unfold Sys2Proof.Machine.execJtagHighz
  dsimp -failIfUnchanged only
  with_reducible repeat' (first | assumption | apply Keeps.next | exact Keeps.fault | (intro _) | apply Kept.ite | apply Kept.ite2 | apply Kept.foldl | apply Kept.foldl2 | apply Kept.onTap | apply Kept.scan | apply h0 | (fail_if_no_progress beta_reduce) | (fail_if_no_progress dsimp only) | split | apply And.intro)

theorem Kept.execJtagBypass {o : State} (_code : Nat) (s : State) (h0 : Kept o s) : Keeps o (execJtagBypass _code s) := by
  unfold Sys2Proof.Machine.execJtagBypass
  dsimp -failIfUnchanged only
  with_reducible repeat' (first | assumption | apply Keeps.next | exact Keeps.fault | (intro _) | apply Kept.ite | apply Kept.ite2 | apply Kept.foldl | apply Kept.foldl2 | apply Kept.onTap | apply Kept.scan | apply h0 | (fail_if_no_progress beta_reduce) | (fail_if_no_progress dsimp only) | split | apply And.intro)

theorem Kept.execJtagSamplePreload {o : State} (pins cells : List Bool) (s : State) (h0 :
    Kept o s) : Keeps o (execJtagSamplePreload pins cells s) := by
  unfold Sys2Proof.Machine.execJtagSamplePreload
  dsimp -failIfUnchanged only
  with_reducible repeat' (first | assumption | apply Keeps.next | exact Keeps.fault | (intro _) | apply Kept.ite | apply Kept.ite2 | apply Kept.foldl | apply Kept.foldl2 | apply Kept.onTap | apply h0 | simp only [Kept.mk_iff] | apply Kept.of | apply Grd.pins_shaped | (fail_if_no_progress beta_reduce) | (fail_if_no_progress dsimp only) | split | apply And.intro)

theorem Kept.execTapReset {o : State} (s : State) (h0 : Kept o s) : Keeps o (execTapReset s) := by
  unfold Sys2Proof.Machine.execTapReset
  dsimp -failIfUnchanged only
  with_reducible repeat' (first | assumption | apply Keeps.next | exact Keeps.fault | (intro _) | apply Kept.ite | apply Kept.ite2 | apply Kept.foldl | apply Kept.foldl2 | apply Kept.onTap | apply Kept.scan | apply h0 | (fail_if_no_progress beta_reduce) | (fail_if_no_progress dsimp only) | split | apply And.intro)

/-! Tst -/

theorem Kept.execTuningGo {o : State} (p : Port) (v : Word) (s : State) (h0 : Kept o s) : Keeps o (execTuningGo p v s) := by
  unfold Sys2Proof.Machine.execTuningGo
  dsimp -failIfUnchanged only
  with_reducible repeat' (first | assumption | apply Keeps.next | exact Keeps.fault | (intro _) | apply Kept.ite | apply Kept.ite2 | apply Kept.foldl | apply Kept.foldl2 | apply Kept.tstWrite | apply h0 | (fail_if_no_progress beta_reduce) | (fail_if_no_progress dsimp only) | split | apply And.intro)

theorem Kept.execTuningBlockStart {o : State} (laneB : Bool) (s : State) (h0 : Kept o s) : Keeps o (execTuningBlockStart laneB s) := by
  unfold Sys2Proof.Machine.execTuningBlockStart
  dsimp -failIfUnchanged only
  with_reducible repeat' (first | assumption | apply Keeps.next | exact Keeps.fault | (intro _) | apply Kept.ite | apply Kept.ite2 | apply Kept.foldl | apply Kept.foldl2 | apply Kept.laneSkip | apply Kept.passSettle | apply Kept.blockStart | apply h0 | (fail_if_no_progress beta_reduce) | (fail_if_no_progress dsimp only) | split | apply And.intro)

theorem Kept.execTuningBlockEnd {o : State} (laneB : Bool) (fails : List UnitFail) (s : State) (h0 :
    Kept o s) : Keeps o (execTuningBlockEnd laneB fails s) := by
  unfold Sys2Proof.Machine.execTuningBlockEnd
  dsimp -failIfUnchanged only
  with_reducible repeat' (first | assumption | apply Keeps.next | exact Keeps.fault | (intro _) | apply Kept.ite | apply Kept.ite2 | apply Kept.foldl | apply Kept.foldl2 | apply Kept.blockEnd | apply Kept.lateVerdict | apply h0 | (fail_if_no_progress beta_reduce) | (fail_if_no_progress dsimp only) | split | apply And.intro)

/-! HostBus -/

theorem Kept.execSysAbort {o : State} (p : Port) (v : Word) (s : State) (h0 : Kept o s) : Keeps o (execSysAbort p v s) := by
  unfold Sys2Proof.Machine.execSysAbort
  dsimp -failIfUnchanged only
  with_reducible repeat' (first | assumption | apply Keeps.next | exact Keeps.fault | (intro _) | apply Kept.ite | apply Kept.ite2 | apply Kept.foldl | apply Kept.foldl2 | apply Kept.abortWrite | apply h0 | (fail_if_no_progress beta_reduce) | (fail_if_no_progress dsimp only) | split | apply And.intro)

theorem Kept.execRegisterWrite {o : State} (p : Port) (off : Nat) (w : WShape) (s : State) (h0 :
    Kept o s) : Keeps o (execRegisterWrite p off w s) := by
  unfold Sys2Proof.Machine.execRegisterWrite
  dsimp -failIfUnchanged only
  with_reducible repeat' (first | assumption | apply Keeps.next | exact Keeps.fault | (intro _) | apply Kept.ite | apply Kept.ite2 | apply Kept.foldl | apply Kept.foldl2 | apply Kept.wordWrite | apply Kept.badAccess | apply Kept.onWrite | apply Kept.windowWrite | apply Kept.flushMessages | apply h0 | simp only [Kept.mk_iff] | apply Kept.of | apply Kept.with_hif | apply Kept.hif | apply Hif.shaped_rings | apply Hif.shaped_vecPend | apply Hif.shaped_cqFull | (simp only [Hif.shaped_mk, setAt_length, modAt_length, unsettleIf_length, cmpSet_length, nibIdle_length, upTo_length, List.length_map, List.length_mapIdx, List.length_replicate]) | (fail_if_no_progress beta_reduce) | (fail_if_no_progress dsimp only) | split | apply And.intro)

theorem Kept.execReadClear {o : State} (p : Port) (off : Nat) (sh : RShape) (s : State) (h0 : Kept o s) : Keeps o (execReadClear p off sh s) := by
  unfold Sys2Proof.Machine.execReadClear
  dsimp -failIfUnchanged only
  with_reducible repeat' (first | assumption | apply Keeps.next | exact Keeps.fault | (intro _) | apply Kept.ite | apply Kept.ite2 | apply Kept.foldl | apply Kept.foldl2 | apply Kept.badAccess | apply Kept.wordRead | apply Kept.touch | apply Kept.windowRead | apply Kept.answer | apply h0 | simp only [Kept.mk_iff] | apply Kept.of | (fail_if_no_progress beta_reduce) | (fail_if_no_progress dsimp only) | split | apply And.intro)

theorem Kept.execSpiReadFrame {o : State} (header : SpiHeader) (s : State) (h0 : Kept o s) : Keeps o (execSpiReadFrame header s) := by
  unfold Sys2Proof.Machine.execSpiReadFrame
  dsimp -failIfUnchanged only
  with_reducible repeat' (first | assumption | apply Keeps.next | exact Keeps.fault | (intro _) | apply Kept.ite | apply Kept.ite2 | apply Kept.foldl | apply Kept.foldl2 | apply Kept.spiIgnored | apply Kept.spiBegin | apply Kept.spiReadWord | apply h0 | simp only [Kept.mk_iff] | apply Kept.of | (fail_if_no_progress beta_reduce) | (fail_if_no_progress dsimp only) | split | apply And.intro)

theorem Kept.execSpiWriteFrame {o : State} (header : SpiHeader) (words : List Word) (crc : Nat) (s : State) (h0 :
    Kept o s) : Keeps o (execSpiWriteFrame header words crc s) := by
  unfold Sys2Proof.Machine.execSpiWriteFrame
  dsimp -failIfUnchanged only
  with_reducible repeat' (first | assumption | apply Keeps.next | exact Keeps.fault | (intro _) | apply Kept.ite | apply Kept.ite2 | apply Kept.foldl | apply Kept.foldl2 | apply Kept.spiIgnored | apply Kept.spiBegin | apply Kept.spiWords | apply Kept.count | apply Kept.take | apply h0 | simp only [Kept.mk_iff] | apply Kept.of | apply Kept.with_hif | apply Kept.hif | apply Hif.shaped_rings | apply Hif.shaped_vecPend | apply Hif.shaped_cqFull | (simp only [Hif.shaped_mk, setAt_length, modAt_length, unsettleIf_length, cmpSet_length, nibIdle_length, upTo_length, List.length_map, List.length_mapIdx, List.length_replicate]) | (fail_if_no_progress beta_reduce) | (fail_if_no_progress dsimp only) | split | apply And.intro)

/-! Reed -/

theorem Kept.execNoteNop {o : State} (b t : Nat) (s : State) (h0 : Kept o s) : Keeps o (execNoteNop b t s) := by
  unfold Sys2Proof.Machine.execNoteNop
  dsimp -failIfUnchanged only
  with_reducible repeat' (first | assumption | apply Keeps.next | exact Keeps.fault | (intro _) | apply Kept.ite | apply Kept.ite2 | apply Kept.foldl | apply Kept.foldl2 | apply Kept.onNote | apply h0 | (fail_if_no_progress beta_reduce) | (fail_if_no_progress dsimp only) | split | apply And.intro)

theorem Kept.execGate {o : State} (b t : Nat) (s : State) (h0 : Kept o s) : Keeps o (execGate b t s) := by
  unfold Sys2Proof.Machine.execGate
  dsimp -failIfUnchanged only
  with_reducible repeat' (first | assumption | apply Keeps.next | exact Keeps.fault | (intro _) | apply Kept.ite | apply Kept.ite2 | apply Kept.foldl | apply Kept.foldl2 | apply Kept.onNote | apply Kept.gateNote | apply h0 | (fail_if_no_progress beta_reduce) | (fail_if_no_progress dsimp only) | split | apply And.intro)

theorem Kept.execLevel {o : State} (b t : Nat) (s : State) (h0 : Kept o s) : Keeps o (execLevel b t s) := by
  unfold Sys2Proof.Machine.execLevel
  dsimp -failIfUnchanged only
  with_reducible repeat' (first | assumption | apply Keeps.next | exact Keeps.fault | (intro _) | apply Kept.ite | apply Kept.ite2 | apply Kept.foldl | apply Kept.foldl2 | apply Kept.onNote | apply Kept.modThread | apply h0 | apply Bank.shaped_threads | (simp only [Bank.shaped_mk, setAt_length, modAt_length, unsettleIf_length, cmpSet_length, nibIdle_length, upTo_length, List.length_map, List.length_mapIdx, List.length_replicate]) | (fail_if_no_progress beta_reduce) | (fail_if_no_progress dsimp only) | split | apply And.intro)

theorem Kept.execTload {o : State} (b t : Nat) (s : State) (h0 : Kept o s) : Keeps o (execTload b t s) := by
  unfold Sys2Proof.Machine.execTload
  dsimp -failIfUnchanged only
  with_reducible repeat' (first | assumption | apply Keeps.next | exact Keeps.fault | (intro _) | apply Kept.ite | apply Kept.ite2 | apply Kept.foldl | apply Kept.foldl2 | apply Kept.onNote | apply Kept.modThread | apply h0 | apply Bank.shaped_threads | (simp only [Bank.shaped_mk, setAt_length, modAt_length, unsettleIf_length, cmpSet_length, nibIdle_length, upTo_length, List.length_map, List.length_mapIdx, List.length_replicate]) | (fail_if_no_progress beta_reduce) | (fail_if_no_progress dsimp only) | split | apply And.intro)

theorem Kept.execWaitT {o : State} (b t : Nat) (s : State) (h0 : Kept o s) : Keeps o (execWaitT b t s) := by
  unfold Sys2Proof.Machine.execWaitT
  dsimp -failIfUnchanged only
  with_reducible repeat' (first | assumption | apply Keeps.next | exact Keeps.fault | (intro _) | apply Kept.ite | apply Kept.ite2 | apply Kept.foldl | apply Kept.foldl2 | apply Kept.onNote | apply Kept.modThread | apply Kept.wait | apply h0 | apply Bank.shaped_threads | (simp only [Bank.shaped_mk, setAt_length, modAt_length, unsettleIf_length, cmpSet_length, nibIdle_length, upTo_length, List.length_map, List.length_mapIdx, List.length_replicate]) | (fail_if_no_progress beta_reduce) | (fail_if_no_progress dsimp only) | split | apply And.intro)

theorem Kept.execWaitA {o : State} (b t : Nat) (s : State) (h0 : Kept o s) : Keeps o (execWaitA b t s) := by
  unfold Sys2Proof.Machine.execWaitA
  dsimp -failIfUnchanged only
  with_reducible repeat' (first | assumption | apply Keeps.next | exact Keeps.fault | (intro _) | apply Kept.ite | apply Kept.ite2 | apply Kept.foldl | apply Kept.foldl2 | apply Kept.onNote | apply Kept.modThread | apply Kept.wait | apply h0 | apply Bank.shaped_threads | (simp only [Bank.shaped_mk, setAt_length, modAt_length, unsettleIf_length, cmpSet_length, nibIdle_length, upTo_length, List.length_map, List.length_mapIdx, List.length_replicate]) | (fail_if_no_progress beta_reduce) | (fail_if_no_progress dsimp only) | split | apply And.intro)

theorem Kept.execWaitC {o : State} (b t : Nat) (s : State) (h0 : Kept o s) : Keeps o (execWaitC b t s) := by
  unfold Sys2Proof.Machine.execWaitC
  dsimp -failIfUnchanged only
  with_reducible repeat' (first | assumption | apply Keeps.next | exact Keeps.fault | (intro _) | apply Kept.ite | apply Kept.ite2 | apply Kept.foldl | apply Kept.foldl2 | apply Kept.onNote | apply Kept.modThread | apply Kept.wait | apply Kept.clearCond | apply h0 | apply Bank.shaped_threads | (simp only [Bank.shaped_mk, setAt_length, modAt_length, unsettleIf_length, cmpSet_length, nibIdle_length, upTo_length, List.length_map, List.length_mapIdx, List.length_replicate]) | (fail_if_no_progress beta_reduce) | (fail_if_no_progress dsimp only) | split | apply And.intro)

theorem Kept.execWaitK {o : State} (b t : Nat) (s : State) (h0 : Kept o s) : Keeps o (execWaitK b t s) := by
  unfold Sys2Proof.Machine.execWaitK
  dsimp -failIfUnchanged only
  with_reducible repeat' (first | assumption | apply Keeps.next | exact Keeps.fault | (intro _) | apply Kept.ite | apply Kept.ite2 | apply Kept.foldl | apply Kept.foldl2 | apply Kept.onNote | apply Kept.modThread | apply Kept.wait | apply h0 | apply Bank.shaped_threads | (simp only [Bank.shaped_mk, setAt_length, modAt_length, unsettleIf_length, cmpSet_length, nibIdle_length, upTo_length, List.length_map, List.length_mapIdx, List.length_replicate]) | (fail_if_no_progress beta_reduce) | (fail_if_no_progress dsimp only) | split | apply And.intro)

theorem Kept.execReg {o : State} (b t : Nat) (s : State) (h0 : Kept o s) : Keeps o (execReg b t s) := by
  unfold Sys2Proof.Machine.execReg
  dsimp -failIfUnchanged only
  with_reducible repeat' (first | assumption | apply Keeps.next | exact Keeps.fault | (intro _) | apply Kept.ite | apply Kept.ite2 | apply Kept.foldl | apply Kept.foldl2 | apply Kept.onNote | apply Kept.modThread | apply Kept.wait | apply Kept.clearCond | apply h0 | apply Bank.shaped_threads | (simp only [Bank.shaped_mk, setAt_length, modAt_length, unsettleIf_length, cmpSet_length, nibIdle_length, upTo_length, List.length_map, List.length_mapIdx, List.length_replicate]) | (fail_if_no_progress beta_reduce) | (fail_if_no_progress dsimp only) | split | apply And.intro)

theorem Kept.execBr {o : State} (b t : Nat) (s : State) (h0 : Kept o s) : Keeps o (execBr b t s) := by
  unfold Sys2Proof.Machine.execBr
  dsimp -failIfUnchanged only
  with_reducible repeat' (first | assumption | apply Keeps.next | exact Keeps.fault | (intro _) | apply Kept.ite | apply Kept.ite2 | apply Kept.foldl | apply Kept.foldl2 | apply Kept.onNote | apply Kept.modThread | apply h0 | apply Bank.shaped_threads | (simp only [Bank.shaped_mk, setAt_length, modAt_length, unsettleIf_length, cmpSet_length, nibIdle_length, upTo_length, List.length_map, List.length_mapIdx, List.length_replicate]) | (fail_if_no_progress beta_reduce) | (fail_if_no_progress dsimp only) | split | apply And.intro)

theorem Kept.execLoop {o : State} (b t : Nat) (s : State) (h0 : Kept o s) : Keeps o (execLoop b t s) := by
  unfold Sys2Proof.Machine.execLoop
  dsimp -failIfUnchanged only
  with_reducible repeat' (first | assumption | apply Keeps.next | exact Keeps.fault | (intro _) | apply Kept.ite | apply Kept.ite2 | apply Kept.foldl | apply Kept.foldl2 | apply Kept.onNote | apply Kept.modThread | apply h0 | apply Bank.shaped_threads | (simp only [Bank.shaped_mk, setAt_length, modAt_length, unsettleIf_length, cmpSet_length, nibIdle_length, upTo_length, List.length_map, List.length_mapIdx, List.length_replicate]) | (fail_if_no_progress beta_reduce) | (fail_if_no_progress dsimp only) | split | apply And.intro)

theorem Kept.execClaim {o : State} (b t : Nat) (s : State) (h0 : Kept o s) : Keeps o (execClaim b t s) := by
  unfold Sys2Proof.Machine.execClaim
  dsimp -failIfUnchanged only
  with_reducible repeat' (first | assumption | apply Keeps.next | exact Keeps.fault | (intro _) | apply Kept.ite | apply Kept.ite2 | apply Kept.foldl | apply Kept.foldl2 | apply Kept.onNote | apply Kept.claim | apply Kept.claimNote | apply h0 | (fail_if_no_progress beta_reduce) | (fail_if_no_progress dsimp only) | split | apply And.intro)

theorem Kept.execRelease {o : State} (b t : Nat) (s : State) (h0 : Kept o s) : Keeps o (execRelease b t s) := by
  unfold Sys2Proof.Machine.execRelease
  dsimp -failIfUnchanged only
  with_reducible repeat' (first | assumption | apply Keeps.next | exact Keeps.fault | (intro _) | apply Kept.ite | apply Kept.ite2 | apply Kept.foldl | apply Kept.foldl2 | apply Kept.onNote | apply Kept.release | apply Kept.releaseToken | apply h0 | (fail_if_no_progress beta_reduce) | (fail_if_no_progress dsimp only) | split | apply And.intro)

theorem Kept.execSusBegin {o : State} (b t : Nat) (s : State) (h0 : Kept o s) : Keeps o (execSusBegin b t s) := by
  unfold Sys2Proof.Machine.execSusBegin
  dsimp -failIfUnchanged only
  with_reducible repeat' (first | assumption | apply Keeps.next | exact Keeps.fault | (intro _) | apply Kept.ite | apply Kept.ite2 | apply Kept.foldl | apply Kept.foldl2 | apply Kept.onNote | apply Kept.modThread | apply h0 | apply Bank.shaped_threads | (simp only [Bank.shaped_mk, setAt_length, modAt_length, unsettleIf_length, cmpSet_length, nibIdle_length, upTo_length, List.length_map, List.length_mapIdx, List.length_replicate]) | (fail_if_no_progress beta_reduce) | (fail_if_no_progress dsimp only) | split | apply And.intro)

theorem Kept.execSusEnd {o : State} (b t : Nat) (s : State) (h0 : Kept o s) : Keeps o (execSusEnd b t s) := by
  unfold Sys2Proof.Machine.execSusEnd
  dsimp -failIfUnchanged only
  with_reducible repeat' (first | assumption | apply Keeps.next | exact Keeps.fault | (intro _) | apply Kept.ite | apply Kept.ite2 | apply Kept.foldl | apply Kept.foldl2 | apply Kept.onNote | apply Kept.susEndNote | apply h0 | (fail_if_no_progress beta_reduce) | (fail_if_no_progress dsimp only) | split | apply And.intro)

theorem Kept.execMark {o : State} (b t : Nat) (s : State) (h0 : Kept o s) : Keeps o (execMark b t s) := by
  unfold Sys2Proof.Machine.execMark
  dsimp -failIfUnchanged only
  with_reducible repeat' (first | assumption | apply Keeps.next | exact Keeps.fault | (intro _) | apply Kept.ite | apply Kept.ite2 | apply Kept.foldl | apply Kept.foldl2 | apply Kept.onNote | apply Kept.markNote | apply h0 | (fail_if_no_progress beta_reduce) | (fail_if_no_progress dsimp only) | split | apply And.intro)

theorem Kept.execSample {o : State} (b t : Nat) (s : State) (h0 : Kept o s) : Keeps o (execSample b t s) := by
  unfold Sys2Proof.Machine.execSample
  dsimp -failIfUnchanged only
  with_reducible repeat' (first | assumption | apply Keeps.next | exact Keeps.fault | (intro _) | apply Kept.ite | apply Kept.ite2 | apply Kept.foldl | apply Kept.foldl2 | apply Kept.onNote | apply Kept.sample | apply Kept.sampleNote | apply h0 | (fail_if_no_progress beta_reduce) | (fail_if_no_progress dsimp only) | split | apply And.intro)

theorem Kept.execEndNote {o : State} (b t : Nat) (s : State) (h0 : Kept o s) : Keeps o (execEndNote b t s) := by
  unfold Sys2Proof.Machine.execEndNote
  dsimp -failIfUnchanged only
  with_reducible repeat' (first | assumption | apply Keeps.next | exact Keeps.fault | (intro _) | apply Kept.ite | apply Kept.ite2 | apply Kept.foldl | apply Kept.foldl2 | apply Kept.onNote | apply Kept.endNote | apply h0 | (fail_if_no_progress beta_reduce) | (fail_if_no_progress dsimp only) | split | apply And.intro)

theorem Kept.execPhraseOverrun {o : State} (b t : Nat) (s : State) (h0 : Kept o s) : Keeps o (execPhraseOverrun b t s) := by
  unfold Sys2Proof.Machine.execPhraseOverrun
  dsimp -failIfUnchanged only
  with_reducible repeat' (first | assumption | apply Keeps.next | exact Keeps.fault | (intro _) | apply Kept.ite | apply Kept.ite2 | apply Kept.foldl | apply Kept.foldl2 | apply Kept.fault | apply Kept.settleBank | apply h0 | (fail_if_no_progress beta_reduce) | (fail_if_no_progress dsimp only) | split | apply And.intro)

theorem Kept.execWaitTargetReached {o : State} (b t : Nat) (s : State) (h0 : Kept o s) : Keeps o (execWaitTargetReached b t s) := by
  unfold Sys2Proof.Machine.execWaitTargetReached
  dsimp -failIfUnchanged only
  with_reducible repeat' (first | assumption | apply Keeps.next | exact Keeps.fault | (intro _) | apply Kept.ite | apply Kept.ite2 | apply Kept.foldl | apply Kept.foldl2 | apply Kept.targetReached | apply Kept.settleBank | apply h0 | (fail_if_no_progress beta_reduce) | (fail_if_no_progress dsimp only) | split | apply And.intro)

theorem Kept.execConditionTrue {o : State} (b t : Nat) (s : State) (h0 : Kept o s) : Keeps o (execConditionTrue b t s) := by
  unfold Sys2Proof.Machine.execConditionTrue
  dsimp -failIfUnchanged only
  with_reducible repeat' (first | assumption | apply Keeps.next | exact Keeps.fault | (intro _) | apply Kept.ite | apply Kept.ite2 | apply Kept.foldl | apply Kept.foldl2 | apply Kept.conditionMet | apply Kept.settleBank | apply h0 | (fail_if_no_progress beta_reduce) | (fail_if_no_progress dsimp only) | split | apply And.intro)

theorem Kept.execClaimDecision {o : State} (b t : Nat) (s : State) (h0 : Kept o s) : Keeps o (execClaimDecision b t s) := by
  unfold Sys2Proof.Machine.execClaimDecision
  dsimp -failIfUnchanged only
  with_reducible repeat' (first | assumption | apply Keeps.next | exact Keeps.fault | (intro _) | apply Kept.ite | apply Kept.ite2 | apply Kept.foldl | apply Kept.foldl2 | apply Kept.decideClaim | apply Kept.settleBank | apply h0 | (fail_if_no_progress beta_reduce) | (fail_if_no_progress dsimp only) | split | apply And.intro)

theorem Kept.execTokenGrant {o : State} (b : Nat) (s : State) (h0 : Kept o s) : Keeps o (execTokenGrant b s) := by
  unfold Sys2Proof.Machine.execTokenGrant
  dsimp -failIfUnchanged only
  with_reducible repeat' (first | assumption | apply Keeps.next | exact Keeps.fault | (intro _) | apply Kept.ite | apply Kept.ite2 | apply Kept.foldl | apply Kept.foldl2 | apply Kept.passToken | apply Kept.settleBank | apply h0 | (fail_if_no_progress beta_reduce) | (fail_if_no_progress dsimp only) | split | apply And.intro)

theorem Kept.execReedTimerZero {o : State} (b t k : Nat) (s : State) (h0 : Kept o s) : Keeps o (execReedTimerZero b t k s) := by
  unfold Sys2Proof.Machine.execReedTimerZero
  dsimp -failIfUnchanged only
  with_reducible repeat' (first | assumption | apply Keeps.next | exact Keeps.fault | (intro _) | apply Kept.ite | apply Kept.ite2 | apply Kept.foldl | apply Kept.foldl2 | apply Kept.modThread | apply h0 | apply Bank.shaped_threads | (simp only [Bank.shaped_mk, setAt_length, modAt_length, unsettleIf_length, cmpSet_length, nibIdle_length, upTo_length, List.length_map, List.length_mapIdx, List.length_replicate]) | (fail_if_no_progress beta_reduce) | (fail_if_no_progress dsimp only) | split | apply And.intro)

theorem Kept.execChopOffTimeEnd {o : State} (b t : Nat) (s : State) (h0 : Kept o s) : Keeps o (execChopOffTimeEnd b t s) := by
  unfold Sys2Proof.Machine.execChopOffTimeEnd
  dsimp -failIfUnchanged only
  with_reducible repeat' (first | assumption | apply Keeps.next | exact Keeps.fault | (intro _) | apply Kept.ite | apply Kept.ite2 | apply Kept.foldl | apply Kept.foldl2 | apply Kept.modThread | apply Kept.chopGl | apply Kept.settleBank | apply h0 | apply Bank.shaped_threads | (simp only [Bank.shaped_mk, setAt_length, modAt_length, unsettleIf_length, cmpSet_length, nibIdle_length, upTo_length, List.length_map, List.length_mapIdx, List.length_replicate]) | (fail_if_no_progress beta_reduce) | (fail_if_no_progress dsimp only) | split | apply And.intro)

theorem Kept.execMergeWatchClose {o : State} (b t : Nat) (s : State) (h0 : Kept o s) : Keeps o (execMergeWatchClose b t s) := by
  unfold Sys2Proof.Machine.execMergeWatchClose
  dsimp -failIfUnchanged only
  with_reducible repeat' (first | assumption | apply Keeps.next | exact Keeps.fault | (intro _) | apply Kept.ite | apply Kept.ite2 | apply Kept.foldl | apply Kept.foldl2 | apply Kept.closeWatch | apply Kept.settleBank | apply h0 | (fail_if_no_progress beta_reduce) | (fail_if_no_progress dsimp only) | split | apply And.intro)

theorem Kept.execPhraseStoreSync {o : State} (q : Nat) (s : State) (h0 : Kept o s) : Keeps o (execPhraseStoreSync q s) := by
  unfold Sys2Proof.Machine.execPhraseStoreSync
  dsimp -failIfUnchanged only
  with_reducible repeat' (first | assumption | apply Keeps.next | exact Keeps.fault | (intro _) | apply Kept.ite | apply Kept.ite2 | apply Kept.foldl | apply Kept.foldl2 | apply Kept.modQuad | apply h0 | (fail_if_no_progress beta_reduce) | (fail_if_no_progress dsimp only) | split | apply And.intro)

/-! The commands that change the image: COMMIT, and a loss of power or a brownout that tears a COMMIT's write -/

/-- The image and its kind become others on both sides. -/
theorem Kept.image {o s : State} {l img : WMap} {n : Nat} (h : Kept o s) (k : l.wf = true) (j : img.wf = true) :
    Kept { o with regs := { o.regs with image := img, imgKind := n } }
      { s with regs := { s.regs with live := l, image := img, imgKind := n } } :=
  ⟨h.part, h.pending, ⟨rfl, rfl, k, h.regs.2.2.2.1, j⟩, h.clk, h.hif, h.evc, h.sec, h.whl, h.sch, h.banks, h.quads, h.ink, h.grds,
   h.adc, h.cmps, h.tmrs, h.nibs⟩

theorem Kept.tear {o : State} (s : State) (h : Kept o s) :
    Kept { o with regs := { o.regs with imgKind := (State.tear s).regs.imgKind } } (State.tear s) := by
  have e : ∀ n, Kept { o with regs := { o.regs with imgKind := n } } { s with regs := { s.regs with imgKind := n } } := fun n =>
    ⟨h.part, h.pending, ⟨h.regs.1, rfl, h.regs.2.2.1, h.regs.2.2.2.1, h.regs.2.2.2.2⟩, h.clk, h.hif, h.evc, h.sec, h.whl, h.sch, h.banks,
     h.quads, h.ink, h.grds, h.adc, h.cmps, h.tmrs, h.nibs⟩
  unfold State.tear
  split
  · exact e 2
  · exact e s.regs.imgKind

theorem Kept.commitNow {o : State} (k : CommitRun) (s : State) (h : Kept o s) :
    ∃ img, Kept { o with regs := { o.regs with image := img, imgKind := 0 } } (State.commitNow k s) := by
  have h1 : Kept o (if (setBits (s.shadowWord R.WHL_TEETH) 10 22 0) != setBits (s.word R.WHL_TEETH) 10 22 0 then s.tablesForget else s) :=
    Kept.ite (Kept.tablesForget _ h) h
  unfold State.commitNow
  revert h1
  generalize (if (setBits (s.shadowWord R.WHL_TEETH) 10 22 0) != setBits (s.word R.WHL_TEETH) 10 22 0 then s.tablesForget else s) = s1
  intro h1
  have wi := commitImage_wf s1.regs.dirty s1.regs.shadow h1.regs.2.2.2.2
  refine ⟨commitImage s1.regs.dirty s1.regs.shadow s1.regs.image, ?_⟩
  dsimp only
  generalize commitImage s1.regs.dirty s1.regs.shadow s1.regs.image = img at wi ⊢
  have h2 : Kept o (s1.regs.dirty.foldl (fun (s : State) b => s.blockEntry k s1.regs.image img b (s.writtenOf b)) s1) :=
    Kept.foldl h1 (fun _ _ h => Kept.blockEntry _ _ _ _ _ _ h)
  revert h2
  generalize s1.regs.dirty.foldl (fun (s : State) b => s.blockEntry k s1.regs.image img b (s.writtenOf b)) s1 = s2
  intro h2
  have wl := commitLive_wf s2.regs.writers s2.regs.shadow h2.regs.2.2.1
  generalize commitLive s2.regs.writers s2.regs.shadow s2.regs.live = live at wl ⊢
  have h3 := Kept.image (n := 0) (Kept.commitClose live _ (Kept.rearmDev _ h2)) wl wi
  refine Kept.commitEnds _ _ _ (Kept.setVerify _ _ (Kept.clean _ (Kept.commitEffects _ _ _ (Kept.ite ?_ ?_))))
  · exact Kept.mk_iff.2 h3.of
  · exact Kept.mk_iff.2 { h3.of with clk := h3.clk }

/-- What every command does at least: the state stays sound, and the part and the queue stay as they are. -/
def Sound (o : State) (r : Host.Outcome State Fault Refusal) : Prop :=
  ∀ t, r = .next t → t.ok ∧ t.part = o.part ∧ t.pending = o.pending

theorem Keeps.sound {o : State} {r : Host.Outcome State Fault Refusal} (h : Keeps o r) : Sound o r :=
  fun t e => ⟨(h t e).ok, (h t e).part, (h t e).pending⟩

theorem Kept.sound {o o' t : State} (h : Kept o' t) (p : o'.part = o.part) (q : o'.pending = o.pending) : Sound o (.next t) :=
  fun _ e => by cases e; exact ⟨h.ok, h.part.trans p, h.pending.trans q⟩

theorem sound_powerLoss (s : State) (h : s.ok) : Sound s (execPowerLoss s) := by
  have k := Kept.mramOnly _ (Kept.tear s (Kept.refl h))
  unfold execPowerLoss
  dsimp only
  generalize State.mramOnly (State.tear s) = u at k ⊢
  exact Kept.sound (Kept.mk_iff.2 k.of) rfl rfl

theorem sound_brownoutReset (r : BrownRail) (s : State) (h : s.ok) : Sound s (execBrownoutReset r s) := by
  have k := Kept.set _ F.SYS_RSTCAUSE_RAIL (railNum r) (Kept.warmReset 1 0 _ (Kept.tear s (Kept.refl h)))
  have l := Kept.linkUnpowered _ (Kept.refl h)
  unfold execBrownoutReset
  generalize (State.warmReset 1 0 (State.tear s)).set F.SYS_RSTCAUSE_RAIL (railNum r) = u at k ⊢
  generalize State.linkUnpowered s = v at l ⊢
  split
  · exact Kept.sound (Kept.refl h) rfl rfl
  · split
    · have e : ∀ v, Kept s v → Kept s (v.railGone r) := fun v k => Kept.railGone r v k
      split <;> first | exact Kept.sound (e _ l) rfl rfl | exact Kept.sound (e _ (Kept.refl h)) rfl rfl
    · exact Kept.sound k rfl rfl

theorem sound_commitDone (s : State) (h : s.ok) : Sound s (execCommitDone s) := by
  unfold execCommitDone
  split
  · split
    · obtain ⟨img, k⟩ := Kept.commitNow _ s (Kept.refl h)
      exact Kept.sound k rfl rfl
    · exact Kept.sound (Kept.refl h) rfl rfl
  · exact Kept.sound (Kept.refl h) rfl rfl

/-! Time (log entry 5): a tick leaves the steps that are due in the queue -/

theorem Kept.queue {o s : State} {q : List Instr} (h : Kept o s) : Kept { o with pending := q } { s with pending := q } :=
  ⟨h.part, rfl, h.regs, h.clk, h.hif, h.evc, h.sec, h.whl, h.sch, h.banks, h.quads, h.ink, h.grds, h.adc, h.cmps, h.tmrs, h.nibs⟩

theorem Kept.tickFast {o : State} (s : State) (h : Kept o s) : ∃ q, Kept { o with pending := q } (State.tickFast s) := by
  unfold State.tickFast
  dsimp only
  exact ⟨_, Kept.queue (Kept.tickIdle _ (Kept.tickReg _ (Kept.dueEdges _ (Kept.tickBuilder _ (Kept.tickTmrAon _ (Kept.tickTmr _
    (Kept.tickGbc _ (Kept.tickDuty _ (Kept.tickCounts _ (Kept.tickAngle _ (Kept.tickQuads _ (Kept.tickTb _
      (Kept.ite (Kept.strokesLate _ h) h)))))))))))))⟩

theorem Kept.tickSlow {o : State} (s : State) (h : Kept o s) : ∃ q, Kept { o with pending := q } (State.tickSlow s) := by
  have h1 : Kept o { s with clk := { s.clk with aon := (s.clk.aon + 1) % 2 ^ 48 } } := Kept.with_clk (s := s) h h.clk
  unfold State.tickSlow
  dsimp only
  split
  · exact ⟨_, Kept.queue h1⟩
  · exact ⟨_, Kept.queue (q := s.pending) h1⟩

theorem Kept.issueSlot {o : State} (s : State) (h : Kept o s) : ∃ q, Kept { o with pending := q } (State.issueSlot s) :=
  by
  have h1 : Kept o { s with clk := { s.clk with slot := false } } := Kept.with_clk (s := s) h h.clk
  exact ⟨_, Kept.queue h1⟩

theorem Kept.tick {o : State} (s : State) (h : Kept o s) : ∃ q, Kept { o with pending := q } (State.tick s) := by
  have k : Kept o s.askedNow.passAsked := Kept.passAsked _ (Kept.askedNow _ h)
  unfold State.tick
  dsimp only
  generalize s.askedNow.passAsked = u at k ⊢
  split
  · exact ⟨_, Kept.queue (q := u.pending) k⟩
  · split
    · exact Kept.issueSlot u k
    · split
      · exact Kept.tickFast u k
      · exact Kept.tickSlow u k

end Sys2Proof.Machine
end

