-- ==== Sys2Proof/WellFormed.lean ====
section
/-! DEFINITION. Which commands are well formed: every unit number names a unit that the tables of the spec can hold
(Table 0.1 gives the largest variant), every set-up offset lies in BAR0 (R263, Table 10.1), and lists have the length of
what they stand for. -/

namespace Sys2Proof

/-- Channels 0 to 95, banks 0 to 23, threads 0 and 1, quadrants 0 to 3, guardians 0 to 7. -/
def okChannel (n : Nat) : Bool := decide (n < 96)
def okBank (b : Nat) : Bool := decide (b < 24)
def okThread (b t : Nat) : Bool := okBank b && decide (t < 2)
def okQuad (q : Nat) : Bool := decide (q < 4)
def okGrd (g : Nat) : Bool := decide (g < 8)

/-- BAR0 holds 256 KB (Table 10.1). -/
def okOffset (off : Nat) : Bool := decide (off < 0x40000)

/-- Ring numbers 0 to 18 (Table 11.1), submission queues 0 to 7. -/
def okRing (r : Nat) : Bool := decide (r < 19)
def okSq (q : Nat) : Bool := decide (q < 8)

/-- Event identifiers are 14 bits (R119: 16,384 store entries). -/
def okEvent (id : Nat) : Bool := decide (id < 16384)

/-- Converters 0 to 5 (R315), timers 0 to 15, Nib engines 0 to 7, external lines 0 to 7. -/
def okConv (n : Nat) : Bool := decide (n < 6)
def okTimer (n : Nat) : Bool := decide (n < 16)
def okNib (n : Nat) : Bool := decide (n < 8)

/-- A latch of R25 names a unit. -/
def Latch.wf : Latch → Bool
  | .channel n => okChannel n
  | .bank b => okBank b
  | .guardian g => okGrd g

/-- A comparator of Table 13.1. -/
def CmpUnit.wf : CmpUnit → Bool
  | .peak b | .hold b | .ghv b | .ghb b => okBank b
  | .vds n => okChannel n
  | .fastTrip g | .reverse g | .wmLo g | .wmHi g => okGrd g

/-- A wake source names a guardian where it has one. -/
def WakeSrc.wf : WakeSrc → Bool
  | .prsn g | .trip g => okGrd g
  | _ => true

/-- The fields of an angle frame fit Table 19.2. -/
def AngleFrame.wf (f : AngleFrame) : Bool :=
  decide (f.idx < 32) && decide (f.sync < 8) && decide (f.pos < 128) && decide (f.tslice < 64) && decide (f.tag < 256)
    && decide (f.lmode < 16) && decide (f.crc < 256)

/-- The fields of a training frame fit Table 19.2. -/
def TrainFrame.wf (f : TrainFrame) : Bool :=
  decide (f.step < 8) && decide (f.dev < 4) && decide (f.n < 128) && decide (f.m < 4) && decide (f.tooth0 < 2 ^ 22) && decide (f.lat < 256)
    && decide (f.crc < 256)

/-- A converter code is a 16-bit two's complement number (R316). -/
def okCode (c : Int) : Bool := decide (-32768 ≤ c) && decide (c ≤ 32767)

/-- The codes of Max Payload Size and Max Read Request Size that the function supports, or PCI Express has (R261). -/
def WShape.wf : WShape → Bool
  | .control c => decide (c.mps ≤ 1) && decide (c.mrrs ≤ 5)
  | _ => true

/-- The well-formedness of a command. -/
def Instr.wf : Instr → Bool
  | .registerWrite _ off w => okOffset off && w.wf
  | .readClear _ off _ => okOffset off
  | .tripLatchSeen u => u.wf
  | .channelOcTrip n | .eventRelease n | .anchorAngleReached n | .eventStart n | .logEnd n
  | .closingKink n _ | .closingNoKink n => okChannel n
  | .highSideOcTrip b _ | .tokenGrant b | .measurementConversion b _ _ _ => okBank b
  | .quadrantUngate q | .quadrantGateClose q | .phraseStoreSync q | .boostRegulation q _ | .boostPulse q _
  | .boostOvervoltage q _ | .boostReconcile q _ | .fillRateRefresh q _ => okQuad q
  | .doorbellReadDone l => decide (l.idx.length = 19) && l.idx.all (fun i => decide (i < 65536))
  | .camEdge n _ _ _ _ => decide (n < 4)
  | .new sq d => okSq sq && decide (d.w0.bits 20 2 = 0)
  | .replace sq d => okSq sq && decide (d.w0.bits 20 2 = 1)
  | .cancel sq d => okSq sq && decide (d.w0.bits 20 2 = 2)
  | .cancelAll sq d => okSq sq && decide (d.w0.bits 20 2 = 3)
  | .tokenWaitTimeout b t | .noteNop b t | .gate b t | .level b t | .tload b t | .waitT b t | .waitA b t | .waitC b t
  | .waitK b t | .reg b t | .br b t | .loop b t | .claim b t | .release b t | .susBegin b t | .susEnd b t | .mark b t
  | .sample b t | .endNote b t | .phraseOverrun b t | .waitTargetReached b t | .conditionTrue b t | .claimDecision b t
  | .chopOffTimeEnd b t | .mergeWatchClose b t => okThread b t
  | .reedTimerZero b t k => okThread b t && decide (k < 2)
  | .dutyCapReached bank i => if bank then okBank i else okChannel i
  | .resultWrite id => okEvent id
  | .railSubwindowEnd g | .soaUpdate g | .rampTimeout g | .guardianFastTrip g | .retryDelayEnd g | .retryCountReset g | .prsnChange g _ | .prsnDebounceDone g | .prsnRemoval g
  | .grdOn _ g | .grdOff _ g | .grdClear _ g | .slowSupervisionCheck g _ _ | .energyCounterRead _ g => okGrd g
  | .reverseCurrentTrip x | .externalFault x => okGrd x.g
  | .guardianMeterSample g c _ => okGrd g && okCode c
  | .vigilMeterSample g c _ _ => okGrd g && okCode c
  | .msixUnmask v => decide (v < 8)
  | .dataLinkUp sp w => decide (1 ≤ sp) && decide (sp ≤ 4) && decide (1 ≤ w) && decide (w ≤ 2)
  | .ringEnable _ r _ | .ringDisable _ r _ | .ringDrained r | .gapRecord r => okRing r
  | .dmaFailure r c => (okRing r || r == 30 || r == 31) && decide (1 ≤ c) && decide (c ≤ 4)
  | .loopVisit n cs => okConv n && cs.all okCode
  | .urgentVisit n cs => okConv n && cs.all okCode
  | .calibrationDone n _ => okConv n
  | .vigilVisit cs => cs.all okCode
  | .angleTrigger k => decide (k < 8)
  | .windowTimeClose t | .windowAngleClose t => decide (t < 768)
  | .comparatorCrossing c _ => c.wf
  | .timerZero n | .timerMatch n | .timerCapture n _ | .slaveTrigger n | .timerReloadWrite _ n _
  | .timerCmpWrite _ n _ => okTimer n
  | .stroke n ins => okNib n && decide (ins.length = 4)
  | .nibStart _ n _ | .nibStop _ n _ | .nibResume _ n _ | .nibFlush _ n _ | .nibTxWrite _ n _ | .nibRxRead _ n
  | .strokeWrite _ n _ | .strokeReadLatch _ n | .marginWrite _ n _ => okNib n
  | .groupReadyTime k => decide (k < 16)
  | .evcClaim _ t src | .evcComplete _ t src => decide (t < 4) && decide (src < 64)
  | .evcRelease _ t => decide (t < 4)
  | .extLineEdge n _ => decide (n < 8)
  | .wakeDecision w => w.wf
  | .safestopCauseCleared c => decide (c < 16)
  | .fallbackAdmission e => decide (e < 512)
  | .angleFrameReceive f => f.wf
  | .trainingFrameReceive f _ => f.wf
  | .jtagSamplePreload pins cells => decide (pins.length = cells.length)
  | .jtagBypass c => decide (c < 16)
  | .mqUnknownOpcode _ op => decide (op < 256)
  | .sysAbort _ _ | .dieLinkLoss | .dieLinkRetrain _ | .doorbellSweep | .crankEdge _ _ _ | .coarseEdge | .stall
  | .syncReset _ _ | .clockClamp | .cycleWrap | .terrDataAccess _ _ | .clearTerr _ _ | .clearTors _ _ | .errRestart _ _
  | .angleReadLatch _ | .stampReadLatch _ | .phraseParam _ _ _ | .clearOc _ _ | .ptabDataAccess _ _ | .grdLimit _ _ _
  | .perstAssert | .hotReset | .functionLevelReset | .dataLinkDown _ | .busMasterDisable _
  | .hostSilence | .hifHeartbeat _ _ | .spiReadFrame _ | .spiWriteFrame _ _ _ | .busMasterEnable | .ringEngineEnable _ _
  | .statusLineWrite | .recordWrite | .mqNop _ | .traceCtrl _ _ | .accClose _ _ | .fallbackEnd _ | .safestopExit _
  | .converterCalibrate _ _ | .adcMove _ _ | .movePendEnd | .accDataAccess _ _ | .timerStart _ _ | .timerStop _ _
  | .timerCatchup | .sourceAssign | .modeRequestDormant _ _ | .modeRequestSafestop _ | .modeRequestSetup _
  | .modeRequestArmed _ | .modeRequestMaint _ | .modeRequestMaintExit _ | .idleTimeout | .sleepCommit | .sleepWaitTimeout
  | .safestopSupply | .safestopTemperature | .stopPin | .fbdataAccess _ _ | .softwareReset _ _ | .brownoutReset _
  | .powerOnReset | .powerLoss | .referenceQualified | .pllLocked | .dieLinkTrained | .imageChecked | .bootComplete
  | .referenceLoss | .aonCrystalSwitch | .sessionRequest _ _ | .challengeReady | .challengeExpiry | .sessionOpen _ _
  | .roleUnlockDone | .sessionClose _ _ | .sessionIdleTimeout | .lockoutEnd | .installerClaim _ _ | .keyProvisionSet _ _
  | .keyProvisionClear _ _ | .commit _ _ | .commitDone | .discard _ _ | .journalRead _ | .journalExport _ _ | .exportDone
  | .journalSeal _ _ | .sealDone | .tuningGo _ _ | .tuningBlockStart _ | .tuningBlockEnd _ _ | .angleFrameLaunch
  | .retrain _ _ | .trainingEcho _ | .trainingStepDone | .trainingTimeout | .timeBaseSlew _ | .slurLinkLoss | .slurRetry
  | .slurLossTimeout | .jtagExtest | .jtagIdcode | .jtagClamp | .jtagHighz | .tapReset | .perstDeassert | .msixEnable
  | .brownoutRelease | .upstreamStatusLoss | .commitFailed => true

end Sys2Proof
end

