-- ==== Sys2Proof/Laws/PerInstr.lean ====
section
/-! SUPPORT. What holds of every command as syntax, one lemma per constructor: the unit numbers of a well-formed command name units
that State holds an element for. -/

namespace Sys2Proof.Laws.Wf

open Sys2Proof

/-- The unit numbers of a command, each with how many such units State holds (Table 0.1, Table 11.1, Table 15.1). -/
def units : Instr → List (Nat × Nat)
  | .channelOcTrip n | .eventRelease n | .anchorAngleReached n | .eventStart n | .logEnd n | .closingKink n _ | .closingNoKink n => [(n, 96)]
  | .highSideOcTrip b _ | .tokenGrant b | .measurementConversion b _ _ _ => [(b, 24)]
  | .quadrantUngate q | .quadrantGateClose q | .phraseStoreSync q | .boostRegulation q _ | .boostPulse q _ | .boostOvervoltage q _
  | .boostReconcile q _ | .fillRateRefresh q _ => [(q, 4)]
  | .tokenWaitTimeout b t | .noteNop b t | .gate b t | .level b t | .tload b t | .waitT b t | .waitA b t | .waitC b t | .waitK b t
  | .reg b t | .br b t | .loop b t | .claim b t | .release b t | .susBegin b t | .susEnd b t | .mark b t | .sample b t | .endNote b t
  | .phraseOverrun b t | .waitTargetReached b t | .conditionTrue b t | .claimDecision b t | .chopOffTimeEnd b t | .mergeWatchClose b t =>
    [(b, 24), (t, 2)]
  | .reedTimerZero b t k => [(b, 24), (t, 2), (k, 2)]
  | .dutyCapReached bank i => [(i, if bank then 24 else 96)]
  | .railSubwindowEnd g | .soaUpdate g | .rampTimeout g | .guardianFastTrip g
  | .retryDelayEnd g | .retryCountReset g | .prsnChange g _ | .prsnDebounceDone g | .prsnRemoval g | .grdOn _ g | .grdOff _ g
  | .grdClear _ g | .slowSupervisionCheck g _ _ | .energyCounterRead _ g | .guardianMeterSample g _ _ | .vigilMeterSample g _ _ _ => [(g, 8)]
  | .reverseCurrentTrip x | .externalFault x => [(x.g, 8)]
  | .ringEnable _ r _ | .ringDisable _ r _ | .ringDrained r | .gapRecord r => [(r, 19)]
  | .loopVisit n _ | .urgentVisit n _ | .calibrationDone n _ => [(n, 6)]
  | .timerZero n | .timerMatch n | .timerCapture n _ | .slaveTrigger n | .timerReloadWrite _ n _ | .timerCmpWrite _ n _ => [(n, 16)]
  | .stroke n _ | .nibStart _ n _ | .nibStop _ n _ | .nibResume _ n _ | .nibFlush _ n _ | .nibTxWrite _ n _ | .nibRxRead _ n
  | .strokeWrite _ n _ | .strokeReadLatch _ n | .marginWrite _ n _ | .extLineEdge n _ | .msixUnmask n => [(n, 8)]
  | .groupReadyTime k => [(k, 16)]
  | .evcClaim _ t n | .evcComplete _ t n => [(t, 4), (n, 64)]
  | .evcRelease _ t | .camEdge t _ _ _ _ => [(t, 4)]
  | _ => []

/-- The unit numbers of a command, if it is well formed, are in range. -/
def Statement (i : Instr) : Prop := i.wf = true → ∀ u ∈ units i, u.1 < u.2

theorem of_nil {i : Instr} (h : units i = []) : Statement i := by
  intro _ u hu
  rw [h] at hu
  cases hu

theorem of_one {i : Instr} {n k : Nat} (h : units i = [(n, k)]) (hw : i.wf = true → n < k) : Statement i := by
  intro w u hu
  rw [h] at hu
  obtain rfl := List.mem_singleton.mp hu
  exact hw w

theorem of_two {i : Instr} {n k m j : Nat} (h : units i = [(n, k), (m, j)]) (hw : i.wf = true → n < k ∧ m < j) : Statement i := by
  intro w u hu
  rw [h] at hu
  rcases List.mem_cons.mp hu with rfl | hu
  · exact (hw w).1
  · obtain rfl := List.mem_singleton.mp hu
    exact (hw w).2

theorem thread_lt {b t : Nat} (h : okThread b t = true) : b < 24 ∧ t < 2 := by
  simpa [okThread, okBank] using h

theorem registerWrite (p : Port) (off : Nat) (w : WShape) : Statement (.registerWrite p off w) := of_nil rfl
theorem readClear (p : Port) (off : Nat) (sh : RShape) : Statement (.readClear p off sh) := of_nil rfl
theorem sysAbort (p : Port) (v : Word) : Statement (.sysAbort p v) := of_nil rfl
theorem dieLinkLoss : Statement .dieLinkLoss := of_nil rfl
theorem dieLinkRetrain (ok : Bool) : Statement (.dieLinkRetrain ok) := of_nil rfl
theorem channelOcTrip (n : Nat) : Statement (.channelOcTrip n) := of_one rfl of_decide_eq_true
theorem highSideOcTrip (b : Nat) (boost : Bool) : Statement (.highSideOcTrip b boost) := of_one rfl of_decide_eq_true
theorem tripLatchSeen (u : Latch) : Statement (.tripLatchSeen u) := of_nil rfl
theorem quadrantUngate (q : Nat) : Statement (.quadrantUngate q) := of_one rfl of_decide_eq_true
theorem quadrantGateClose (q : Nat) : Statement (.quadrantGateClose q) := of_one rfl of_decide_eq_true
theorem doorbellSweep : Statement .doorbellSweep := of_nil rfl
theorem doorbellReadDone (line : DoorbellLine) : Statement (.doorbellReadDone line) := of_nil rfl
theorem crankEdge (stamp : CrankStamp) (width peak : Nat) : Statement (.crankEdge stamp width peak) := of_nil rfl
theorem coarseEdge : Statement .coarseEdge := of_nil rfl
theorem camEdge (n : Nat) (falling : Bool) (stamp : Tb) (width peak : Nat) : Statement (.camEdge n falling stamp width peak) := of_one rfl of_decide_eq_true
theorem stall : Statement .stall := of_nil rfl
theorem syncReset (p : Port) (v : Word) : Statement (.syncReset p v) := of_nil rfl
theorem clockClamp : Statement .clockClamp := of_nil rfl
theorem cycleWrap : Statement .cycleWrap := of_nil rfl
theorem terrDataAccess (p : Port) (w : Option Word) : Statement (.terrDataAccess p w) := of_nil rfl
theorem clearTerr (p : Port) (v : Word) : Statement (.clearTerr p v) := of_nil rfl
theorem clearTors (p : Port) (v : Word) : Statement (.clearTors p v) := of_nil rfl
theorem errRestart (p : Port) (v : Word) : Statement (.errRestart p v) := of_nil rfl
theorem angleReadLatch (p : Port) : Statement (.angleReadLatch p) := of_nil rfl
theorem stampReadLatch (p : Port) : Statement (.stampReadLatch p) := of_nil rfl
theorem new (sq : Nat) (d : Descriptor) : Statement (.new sq d) := of_nil rfl
theorem replace (sq : Nat) (d : Descriptor) : Statement (.replace sq d) := of_nil rfl
theorem cancel (sq : Nat) (d : Descriptor) : Statement (.cancel sq d) := of_nil rfl
theorem cancelAll (sq : Nat) (d : Descriptor) : Statement (.cancelAll sq d) := of_nil rfl
theorem eventRelease (n : Nat) : Statement (.eventRelease n) := of_one rfl of_decide_eq_true
theorem anchorAngleReached (n : Nat) : Statement (.anchorAngleReached n) := of_one rfl of_decide_eq_true
theorem eventStart (n : Nat) : Statement (.eventStart n) := of_one rfl of_decide_eq_true
theorem logEnd (n : Nat) : Statement (.logEnd n) := of_one rfl of_decide_eq_true
theorem tokenWaitTimeout (b t : Nat) : Statement (.tokenWaitTimeout b t) := of_two rfl thread_lt
theorem dutyCapReached (bank : Bool) (unit : Nat) : Statement (.dutyCapReached bank unit) := by
  cases bank <;> exact of_one rfl of_decide_eq_true
theorem noteNop (b t : Nat) : Statement (.noteNop b t) := of_two rfl thread_lt
theorem gate (b t : Nat) : Statement (.gate b t) := of_two rfl thread_lt
theorem level (b t : Nat) : Statement (.level b t) := of_two rfl thread_lt
theorem tload (b t : Nat) : Statement (.tload b t) := of_two rfl thread_lt
theorem waitT (b t : Nat) : Statement (.waitT b t) := of_two rfl thread_lt
theorem waitA (b t : Nat) : Statement (.waitA b t) := of_two rfl thread_lt
theorem waitC (b t : Nat) : Statement (.waitC b t) := of_two rfl thread_lt
theorem waitK (b t : Nat) : Statement (.waitK b t) := of_two rfl thread_lt
theorem reg (b t : Nat) : Statement (.reg b t) := of_two rfl thread_lt
theorem br (b t : Nat) : Statement (.br b t) := of_two rfl thread_lt
theorem loop (b t : Nat) : Statement (.loop b t) := of_two rfl thread_lt
theorem claim (b t : Nat) : Statement (.claim b t) := of_two rfl thread_lt
theorem release (b t : Nat) : Statement (.release b t) := of_two rfl thread_lt
theorem susBegin (b t : Nat) : Statement (.susBegin b t) := of_two rfl thread_lt
theorem susEnd (b t : Nat) : Statement (.susEnd b t) := of_two rfl thread_lt
theorem mark (b t : Nat) : Statement (.mark b t) := of_two rfl thread_lt
theorem sample (b t : Nat) : Statement (.sample b t) := of_two rfl thread_lt
theorem endNote (b t : Nat) : Statement (.endNote b t) := of_two rfl thread_lt
theorem phraseOverrun (b t : Nat) : Statement (.phraseOverrun b t) := of_two rfl thread_lt
theorem waitTargetReached (b t : Nat) : Statement (.waitTargetReached b t) := of_two rfl thread_lt
theorem conditionTrue (b t : Nat) : Statement (.conditionTrue b t) := of_two rfl thread_lt
theorem claimDecision (b t : Nat) : Statement (.claimDecision b t) := of_two rfl thread_lt
theorem tokenGrant (b : Nat) : Statement (.tokenGrant b) := of_one rfl of_decide_eq_true
theorem reedTimerZero (b t k : Nat) : Statement (.reedTimerZero b t k) := by
  intro h u hu
  simp only [Instr.wf, okThread, okBank, Bool.and_eq_true, decide_eq_true_eq] at h
  simp only [units, List.mem_cons, List.not_mem_nil, or_false] at hu
  rcases hu with rfl | rfl | rfl <;> omega
theorem chopOffTimeEnd (b t : Nat) : Statement (.chopOffTimeEnd b t) := of_two rfl thread_lt
theorem mergeWatchClose (b t : Nat) : Statement (.mergeWatchClose b t) := of_two rfl thread_lt
theorem phraseStoreSync (q : Nat) : Statement (.phraseStoreSync q) := of_one rfl of_decide_eq_true
theorem phraseParam (tag arg0 arg1 : Word) : Statement (.phraseParam tag arg0 arg1) := of_nil rfl
theorem clearOc (tag arg0 : Word) : Statement (.clearOc tag arg0) := of_nil rfl
theorem boostRegulation (q vbst : Nat) : Statement (.boostRegulation q vbst) := of_one rfl of_decide_eq_true
theorem boostPulse (q vbat : Nat) : Statement (.boostPulse q vbat) := of_one rfl of_decide_eq_true
theorem boostOvervoltage (q vbst : Nat) : Statement (.boostOvervoltage q vbst) := of_one rfl of_decide_eq_true
theorem closingKink (n : Nat) (codes : List Nat) : Statement (.closingKink n codes) := of_one rfl of_decide_eq_true
theorem closingNoKink (n : Nat) : Statement (.closingNoKink n) := of_one rfl of_decide_eq_true
theorem resultWrite (id : Nat) : Statement (.resultWrite id) := of_nil rfl
theorem boostReconcile (q vbst : Nat) : Statement (.boostReconcile q vbst) := of_one rfl of_decide_eq_true
theorem fillRateRefresh (q vbat : Nat) : Statement (.fillRateRefresh q vbat) := of_one rfl of_decide_eq_true
theorem railSubwindowEnd (g : Nat) : Statement (.railSubwindowEnd g) := of_one rfl of_decide_eq_true
theorem ptabDataAccess (p : Port) (w : Option Word) : Statement (.ptabDataAccess p w) := of_nil rfl
theorem measurementConversion (b : Nat) (path : MeasPath) (shunt volt : Nat) : Statement (.measurementConversion b path shunt volt) := of_one rfl of_decide_eq_true
theorem guardianMeterSample (g : Nat) (cur : Int) (volt : Nat) : Statement (.guardianMeterSample g cur volt) := of_one rfl (fun h => of_decide_eq_true (Bool.and_eq_true_iff.mp h).1)
theorem soaUpdate (g : Nat) : Statement (.soaUpdate g) := of_one rfl of_decide_eq_true
theorem rampTimeout (g : Nat) : Statement (.rampTimeout g) := of_one rfl of_decide_eq_true
theorem guardianFastTrip (g : Nat) : Statement (.guardianFastTrip g) := of_one rfl of_decide_eq_true
theorem reverseCurrentTrip (g : GrdHeld) : Statement (.reverseCurrentTrip g) := of_one rfl of_decide_eq_true
theorem externalFault (g : GrdHeld) : Statement (.externalFault g) := of_one rfl of_decide_eq_true
theorem retryDelayEnd (g : Nat) : Statement (.retryDelayEnd g) := of_one rfl of_decide_eq_true
theorem retryCountReset (g : Nat) : Statement (.retryCountReset g) := of_one rfl of_decide_eq_true
theorem prsnChange (g : Nat) (level : Bool) : Statement (.prsnChange g level) := of_one rfl of_decide_eq_true
theorem prsnDebounceDone (g : Nat) : Statement (.prsnDebounceDone g) := of_one rfl of_decide_eq_true
theorem prsnRemoval (g : Nat) : Statement (.prsnRemoval g) := of_one rfl of_decide_eq_true
theorem grdOn (src : Issuer) (g : Nat) : Statement (.grdOn src g) := of_one rfl of_decide_eq_true
theorem grdOff (src : Issuer) (g : Nat) : Statement (.grdOff src g) := of_one rfl of_decide_eq_true
theorem grdClear (src : Issuer) (g : Nat) : Statement (.grdClear src g) := of_one rfl of_decide_eq_true
theorem grdLimit (tag arg0 arg1 : Word) : Statement (.grdLimit tag arg0 arg1) := of_nil rfl
theorem slowSupervisionCheck (g : Nat) (gateOk vOk : Bool) : Statement (.slowSupervisionCheck g gateOk vOk) := of_one rfl of_decide_eq_true
theorem vigilMeterSample (g : Nat) (cur : Int) (vout vin : Nat) : Statement (.vigilMeterSample g cur vout vin) := of_one rfl (fun h => of_decide_eq_true (Bool.and_eq_true_iff.mp h).1)
theorem energyCounterRead (p : Port) (g : Nat) : Statement (.energyCounterRead p g) := of_one rfl of_decide_eq_true
theorem perstAssert : Statement .perstAssert := of_nil rfl
theorem hotReset : Statement .hotReset := of_nil rfl
theorem functionLevelReset : Statement .functionLevelReset := of_nil rfl
theorem dataLinkDown (unacked : Nat) : Statement (.dataLinkDown unacked) := of_nil rfl
theorem dataLinkUp (speed width : Nat) : Statement (.dataLinkUp speed width) := of_nil rfl
theorem busMasterDisable (d3 : Bool) : Statement (.busMasterDisable d3) := of_nil rfl
theorem busMasterEnable : Statement .busMasterEnable := of_nil rfl
theorem hostSilence : Statement .hostSilence := of_nil rfl
theorem hifHeartbeat (p : Port) (v : Word) : Statement (.hifHeartbeat p v) := of_nil rfl
theorem dmaFailure (ring cause : Nat) : Statement (.dmaFailure ring cause) := of_nil rfl
theorem msixUnmask (v : Nat) : Statement (.msixUnmask v) := of_one rfl of_decide_eq_true
theorem spiReadFrame (header : SpiHeader) : Statement (.spiReadFrame header) := of_nil rfl
theorem spiWriteFrame (header : SpiHeader) (words : List Word) (crc : Nat) : Statement (.spiWriteFrame header words crc) := of_nil rfl
theorem ringEnable (p : Port) (r : Nat) (v : Word) : Statement (.ringEnable p r v) := of_one rfl of_decide_eq_true
theorem ringDisable (p : Port) (r : Nat) (v : Word) : Statement (.ringDisable p r v) := of_one rfl of_decide_eq_true
theorem ringDrained (r : Nat) : Statement (.ringDrained r) := of_one rfl of_decide_eq_true
theorem ringEngineEnable (p : Port) (v : Word) : Statement (.ringEngineEnable p v) := of_nil rfl
theorem statusLineWrite : Statement .statusLineWrite := of_nil rfl
theorem recordWrite : Statement .recordWrite := of_nil rfl
theorem gapRecord (r : Nat) : Statement (.gapRecord r) := of_one rfl of_decide_eq_true
theorem mqNop (tag : Word) : Statement (.mqNop tag) := of_nil rfl
theorem traceCtrl (tag arg0 : Word) : Statement (.traceCtrl tag arg0) := of_nil rfl
theorem accClose (tag arg0 : Word) : Statement (.accClose tag arg0) := of_nil rfl
theorem fallbackEnd (src : Issuer) : Statement (.fallbackEnd src) := of_nil rfl
theorem safestopExit (src : Issuer) : Statement (.safestopExit src) := of_nil rfl
theorem mqUnknownOpcode (tag : Word) (op : Nat) : Statement (.mqUnknownOpcode tag op) := of_nil rfl
theorem loopVisit (n : Nat) (codes : List Int) : Statement (.loopVisit n codes) := of_one rfl (fun h => of_decide_eq_true (Bool.and_eq_true_iff.mp h).1)
theorem urgentVisit (n : Nat) (codes : List Int) : Statement (.urgentVisit n codes) := of_one rfl (fun h => of_decide_eq_true (Bool.and_eq_true_iff.mp h).1)
theorem angleTrigger (k : Nat) : Statement (.angleTrigger k) := of_nil rfl
theorem vigilVisit (codes : List Int) : Statement (.vigilVisit codes) := of_nil rfl
theorem converterCalibrate (p : Port) (v : Word) : Statement (.converterCalibrate p v) := of_nil rfl
theorem calibrationDone (n : Nat) (factors : List Word) : Statement (.calibrationDone n factors) := of_one rfl of_decide_eq_true
theorem adcMove (p : Port) (v : Word) : Statement (.adcMove p v) := of_nil rfl
theorem movePendEnd : Statement .movePendEnd := of_nil rfl
theorem accDataAccess (p : Port) (w : Option Word) : Statement (.accDataAccess p w) := of_nil rfl
theorem windowTimeClose (t : Nat) : Statement (.windowTimeClose t) := of_nil rfl
theorem windowAngleClose (t : Nat) : Statement (.windowAngleClose t) := of_nil rfl
theorem comparatorCrossing (c : CmpUnit) (above : Bool) : Statement (.comparatorCrossing c above) := of_nil rfl
theorem timerZero (n : Nat) : Statement (.timerZero n) := of_one rfl of_decide_eq_true
theorem timerMatch (n : Nat) : Statement (.timerMatch n) := of_one rfl of_decide_eq_true
theorem timerStart (p : Port) (v : Word) : Statement (.timerStart p v) := of_nil rfl
theorem timerStop (p : Port) (v : Word) : Statement (.timerStop p v) := of_nil rfl
theorem timerReloadWrite (p : Port) (n : Nat) (v : Word) : Statement (.timerReloadWrite p n v) := of_one rfl of_decide_eq_true
theorem timerCmpWrite (p : Port) (n : Nat) (v : Word) : Statement (.timerCmpWrite p n v) := of_one rfl of_decide_eq_true
theorem timerCapture (n : Nat) (rising : Bool) : Statement (.timerCapture n rising) := of_one rfl of_decide_eq_true
theorem slaveTrigger (n : Nat) : Statement (.slaveTrigger n) := of_one rfl of_decide_eq_true
theorem timerCatchup : Statement .timerCatchup := of_nil rfl
theorem stroke (n : Nat) (inputs : List Bool) : Statement (.stroke n inputs) := of_one rfl (fun h => of_decide_eq_true (Bool.and_eq_true_iff.mp h).1)
theorem nibStart (p : Port) (n : Nat) (v : Word) : Statement (.nibStart p n v) := of_one rfl of_decide_eq_true
theorem nibStop (p : Port) (n : Nat) (v : Word) : Statement (.nibStop p n v) := of_one rfl of_decide_eq_true
theorem nibResume (p : Port) (n : Nat) (v : Word) : Statement (.nibResume p n v) := of_one rfl of_decide_eq_true
theorem nibFlush (p : Port) (n : Nat) (v : Word) : Statement (.nibFlush p n v) := of_one rfl of_decide_eq_true
theorem nibTxWrite (p : Port) (n : Nat) (v : Word) : Statement (.nibTxWrite p n v) := of_one rfl of_decide_eq_true
theorem nibRxRead (p : Port) (n : Nat) : Statement (.nibRxRead p n) := of_one rfl of_decide_eq_true
theorem strokeWrite (p : Port) (n : Nat) (v : Word) : Statement (.strokeWrite p n v) := of_one rfl of_decide_eq_true
theorem strokeReadLatch (p : Port) (n : Nat) : Statement (.strokeReadLatch p n) := of_one rfl of_decide_eq_true
theorem marginWrite (p : Port) (n : Nat) (v : Word) : Statement (.marginWrite p n v) := of_one rfl of_decide_eq_true
theorem groupReadyTime (k : Nat) : Statement (.groupReadyTime k) := of_one rfl of_decide_eq_true
theorem sourceAssign : Statement .sourceAssign := of_nil rfl
theorem evcClaim (p : Port) (t src : Nat) : Statement (.evcClaim p t src) := of_two rfl (fun h => (Bool.and_eq_true_iff.mp h).imp of_decide_eq_true of_decide_eq_true)
theorem evcComplete (p : Port) (t src : Nat) : Statement (.evcComplete p t src) := of_two rfl (fun h => (Bool.and_eq_true_iff.mp h).imp of_decide_eq_true of_decide_eq_true)
theorem evcRelease (p : Port) (t : Nat) : Statement (.evcRelease p t) := of_one rfl of_decide_eq_true
theorem extLineEdge (n : Nat) (high : Bool) : Statement (.extLineEdge n high) := of_one rfl of_decide_eq_true
theorem modeRequestDormant (p : Port) (vigil : Bool) : Statement (.modeRequestDormant p vigil) := of_nil rfl
theorem modeRequestSafestop (p : Port) : Statement (.modeRequestSafestop p) := of_nil rfl
theorem modeRequestSetup (p : Port) : Statement (.modeRequestSetup p) := of_nil rfl
theorem modeRequestArmed (p : Port) : Statement (.modeRequestArmed p) := of_nil rfl
theorem modeRequestMaint (p : Port) : Statement (.modeRequestMaint p) := of_nil rfl
theorem modeRequestMaintExit (p : Port) : Statement (.modeRequestMaintExit p) := of_nil rfl
theorem idleTimeout : Statement .idleTimeout := of_nil rfl
theorem sleepCommit : Statement .sleepCommit := of_nil rfl
theorem sleepWaitTimeout : Statement .sleepWaitTimeout := of_nil rfl
theorem wakeDecision (w : WakeSrc) : Statement (.wakeDecision w) := of_nil rfl
theorem safestopSupply : Statement .safestopSupply := of_nil rfl
theorem safestopTemperature : Statement .safestopTemperature := of_nil rfl
theorem stopPin : Statement .stopPin := of_nil rfl
theorem safestopCauseCleared (c : Nat) : Statement (.safestopCauseCleared c) := of_nil rfl
theorem fallbackAdmission (e : Nat) : Statement (.fallbackAdmission e) := of_nil rfl
theorem fbdataAccess (p : Port) (w : Option Word) : Statement (.fbdataAccess p w) := of_nil rfl
theorem softwareReset (p : Port) (v : Word) : Statement (.softwareReset p v) := of_nil rfl
theorem brownoutReset (r : BrownRail) : Statement (.brownoutReset r) := of_nil rfl
theorem powerOnReset : Statement .powerOnReset := of_nil rfl
theorem powerLoss : Statement .powerLoss := of_nil rfl
theorem referenceQualified : Statement .referenceQualified := of_nil rfl
theorem pllLocked : Statement .pllLocked := of_nil rfl
theorem dieLinkTrained : Statement .dieLinkTrained := of_nil rfl
theorem imageChecked : Statement .imageChecked := of_nil rfl
theorem bootComplete : Statement .bootComplete := of_nil rfl
theorem referenceLoss : Statement .referenceLoss := of_nil rfl
theorem aonCrystalSwitch : Statement .aonCrystalSwitch := of_nil rfl
theorem sessionRequest (p : Port) (v : Word) : Statement (.sessionRequest p v) := of_nil rfl
theorem challengeReady : Statement .challengeReady := of_nil rfl
theorem challengeExpiry : Statement .challengeExpiry := of_nil rfl
theorem sessionOpen (p : Port) (v : Word) : Statement (.sessionOpen p v) := of_nil rfl
theorem roleUnlockDone : Statement .roleUnlockDone := of_nil rfl
theorem sessionClose (p : Port) (v : Word) : Statement (.sessionClose p v) := of_nil rfl
theorem sessionIdleTimeout : Statement .sessionIdleTimeout := of_nil rfl
theorem lockoutEnd : Statement .lockoutEnd := of_nil rfl
theorem installerClaim (p : Port) (v : Word) : Statement (.installerClaim p v) := of_nil rfl
theorem keyProvisionSet (p : Port) (v : Word) : Statement (.keyProvisionSet p v) := of_nil rfl
theorem keyProvisionClear (p : Port) (v : Word) : Statement (.keyProvisionClear p v) := of_nil rfl
theorem commit (p : Port) (v : Word) : Statement (.commit p v) := of_nil rfl
theorem commitDone : Statement .commitDone := of_nil rfl
theorem discard (p : Port) (v : Word) : Statement (.discard p v) := of_nil rfl
theorem journalRead (p : Port) : Statement (.journalRead p) := of_nil rfl
theorem journalExport (p : Port) (v : Word) : Statement (.journalExport p v) := of_nil rfl
theorem exportDone : Statement .exportDone := of_nil rfl
theorem journalSeal (p : Port) (v : Word) : Statement (.journalSeal p v) := of_nil rfl
theorem sealDone : Statement .sealDone := of_nil rfl
theorem tuningGo (p : Port) (v : Word) : Statement (.tuningGo p v) := of_nil rfl
theorem tuningBlockStart (laneB : Bool) : Statement (.tuningBlockStart laneB) := of_nil rfl
theorem tuningBlockEnd (laneB : Bool) (fails : List UnitFail) : Statement (.tuningBlockEnd laneB fails) := of_nil rfl
theorem angleFrameLaunch : Statement .angleFrameLaunch := of_nil rfl
theorem angleFrameReceive (f : AngleFrame) : Statement (.angleFrameReceive f) := of_nil rfl
theorem retrain (p : Port) (v : Word) : Statement (.retrain p v) := of_nil rfl
theorem trainingFrameReceive (f : TrainFrame) (arrival : Tb) : Statement (.trainingFrameReceive f arrival) := of_nil rfl
theorem trainingEcho (rt : Option Nat) : Statement (.trainingEcho rt) := of_nil rfl
theorem trainingStepDone : Statement .trainingStepDone := of_nil rfl
theorem trainingTimeout : Statement .trainingTimeout := of_nil rfl
theorem timeBaseSlew (diff : Int) : Statement (.timeBaseSlew diff) := of_nil rfl
theorem slurLinkLoss : Statement .slurLinkLoss := of_nil rfl
theorem slurRetry : Statement .slurRetry := of_nil rfl
theorem slurLossTimeout : Statement .slurLossTimeout := of_nil rfl
theorem jtagExtest : Statement .jtagExtest := of_nil rfl
theorem jtagIdcode : Statement .jtagIdcode := of_nil rfl
theorem jtagSamplePreload (pins cells : List Bool) : Statement (.jtagSamplePreload pins cells) := of_nil rfl
theorem jtagClamp : Statement .jtagClamp := of_nil rfl
theorem jtagHighz : Statement .jtagHighz := of_nil rfl
theorem jtagBypass (code : Nat) : Statement (.jtagBypass code) := of_nil rfl
theorem tapReset : Statement .tapReset := of_nil rfl
theorem perstDeassert : Statement .perstDeassert := of_nil rfl
theorem msixEnable : Statement .msixEnable := of_nil rfl
theorem brownoutRelease : Statement .brownoutRelease := of_nil rfl
theorem upstreamStatusLoss : Statement .upstreamStatusLoss := of_nil rfl
theorem commitFailed : Statement .commitFailed := of_nil rfl

end Sys2Proof.Laws.Wf
end

