-- ==== Sys2Proof/Laws/State.lean ====
section
/-! SUPPORT. What each plain update of State leaves alone: one lemma per update and part of the state, so that no proof
unfolds a record update. -/

namespace Sys2Proof.Machine

/-! putWord -/

@[simp] theorem State.putWord_part (s : State) (a : Nat) (v : Word) : (s.putWord a v).part = s.part := rfl
@[simp] theorem State.putWord_clk (s : State) (a : Nat) (v : Word) : (s.putWord a v).clk = s.clk := rfl
@[simp] theorem State.putWord_sys (s : State) (a : Nat) (v : Word) : (s.putWord a v).sys = s.sys := rfl
@[simp] theorem State.putWord_hif (s : State) (a : Nat) (v : Word) : (s.putWord a v).hif = s.hif := rfl
@[simp] theorem State.putWord_evc (s : State) (a : Nat) (v : Word) : (s.putWord a v).evc = s.evc := rfl
@[simp] theorem State.putWord_sec (s : State) (a : Nat) (v : Word) : (s.putWord a v).sec = s.sec := rfl
@[simp] theorem State.putWord_whl (s : State) (a : Nat) (v : Word) : (s.putWord a v).whl = s.whl := rfl
@[simp] theorem State.putWord_ang (s : State) (a : Nat) (v : Word) : (s.putWord a v).ang = s.ang := rfl
@[simp] theorem State.putWord_sch (s : State) (a : Nat) (v : Word) : (s.putWord a v).sch = s.sch := rfl
@[simp] theorem State.putWord_banks (s : State) (a : Nat) (v : Word) : (s.putWord a v).banks = s.banks := rfl
@[simp] theorem State.putWord_quads (s : State) (a : Nat) (v : Word) : (s.putWord a v).quads = s.quads := rfl
@[simp] theorem State.putWord_edges (s : State) (a : Nat) (v : Word) : (s.putWord a v).edges = s.edges := rfl
@[simp] theorem State.putWord_ink (s : State) (a : Nat) (v : Word) : (s.putWord a v).ink = s.ink := rfl
@[simp] theorem State.putWord_grds (s : State) (a : Nat) (v : Word) : (s.putWord a v).grds = s.grds := rfl
@[simp] theorem State.putWord_adc (s : State) (a : Nat) (v : Word) : (s.putWord a v).adc = s.adc := rfl
@[simp] theorem State.putWord_cmps (s : State) (a : Nat) (v : Word) : (s.putWord a v).cmps = s.cmps := rfl
@[simp] theorem State.putWord_tmrs (s : State) (a : Nat) (v : Word) : (s.putWord a v).tmrs = s.tmrs := rfl
@[simp] theorem State.putWord_nibs (s : State) (a : Nat) (v : Word) : (s.putWord a v).nibs = s.nibs := rfl
@[simp] theorem State.putWord_tst (s : State) (a : Nat) (v : Word) : (s.putWord a v).tst = s.tst := rfl
@[simp] theorem State.putWord_slur (s : State) (a : Nat) (v : Word) : (s.putWord a v).slur = s.slur := rfl
@[simp] theorem State.putWord_jtag (s : State) (a : Nat) (v : Word) : (s.putWord a v).jtag = s.jtag := rfl
@[simp] theorem State.putWord_ans (s : State) (a : Nat) (v : Word) : (s.putWord a v).ans = s.ans := rfl
@[simp] theorem State.putWord_freeCtr (s : State) (a : Nat) (v : Word) : (s.putWord a v).freeCtr = s.freeCtr := rfl
@[simp] theorem State.putWord_pending (s : State) (a : Nat) (v : Word) : (s.putWord a v).pending = s.pending := rfl
@[simp] theorem State.putWord_regs_shadow (s : State) (a : Nat) (v : Word) : (s.putWord a v).regs.shadow = s.regs.shadow := rfl
@[simp] theorem State.putWord_regs_image (s : State) (a : Nat) (v : Word) : (s.putWord a v).regs.image = s.regs.image := rfl
@[simp] theorem State.putWord_regs_imgKind (s : State) (a : Nat) (v : Word) : (s.putWord a v).regs.imgKind = s.regs.imgKind := rfl
@[simp] theorem State.putWord_regs_writers (s : State) (a : Nat) (v : Word) : (s.putWord a v).regs.writers = s.regs.writers := rfl
@[simp] theorem State.putWord_regs_dirty (s : State) (a : Nat) (v : Word) : (s.putWord a v).regs.dirty = s.regs.dirty := rfl
@[simp] theorem State.putWord_regs_same (s : State) (a : Nat) (v : Word) : (s.putWord a v).regs.same = s.regs.same := rfl

/-! putShadow -/

@[simp] theorem State.putShadow_part (s : State) (a : Nat) (v : Word) : (s.putShadow a v).part = s.part := rfl
@[simp] theorem State.putShadow_clk (s : State) (a : Nat) (v : Word) : (s.putShadow a v).clk = s.clk := rfl
@[simp] theorem State.putShadow_sys (s : State) (a : Nat) (v : Word) : (s.putShadow a v).sys = s.sys := rfl
@[simp] theorem State.putShadow_hif (s : State) (a : Nat) (v : Word) : (s.putShadow a v).hif = s.hif := rfl
@[simp] theorem State.putShadow_evc (s : State) (a : Nat) (v : Word) : (s.putShadow a v).evc = s.evc := rfl
@[simp] theorem State.putShadow_sec (s : State) (a : Nat) (v : Word) : (s.putShadow a v).sec = s.sec := rfl
@[simp] theorem State.putShadow_whl (s : State) (a : Nat) (v : Word) : (s.putShadow a v).whl = s.whl := rfl
@[simp] theorem State.putShadow_ang (s : State) (a : Nat) (v : Word) : (s.putShadow a v).ang = s.ang := rfl
@[simp] theorem State.putShadow_sch (s : State) (a : Nat) (v : Word) : (s.putShadow a v).sch = s.sch := rfl
@[simp] theorem State.putShadow_banks (s : State) (a : Nat) (v : Word) : (s.putShadow a v).banks = s.banks := rfl
@[simp] theorem State.putShadow_quads (s : State) (a : Nat) (v : Word) : (s.putShadow a v).quads = s.quads := rfl
@[simp] theorem State.putShadow_edges (s : State) (a : Nat) (v : Word) : (s.putShadow a v).edges = s.edges := rfl
@[simp] theorem State.putShadow_ink (s : State) (a : Nat) (v : Word) : (s.putShadow a v).ink = s.ink := rfl
@[simp] theorem State.putShadow_grds (s : State) (a : Nat) (v : Word) : (s.putShadow a v).grds = s.grds := rfl
@[simp] theorem State.putShadow_adc (s : State) (a : Nat) (v : Word) : (s.putShadow a v).adc = s.adc := rfl
@[simp] theorem State.putShadow_cmps (s : State) (a : Nat) (v : Word) : (s.putShadow a v).cmps = s.cmps := rfl
@[simp] theorem State.putShadow_tmrs (s : State) (a : Nat) (v : Word) : (s.putShadow a v).tmrs = s.tmrs := rfl
@[simp] theorem State.putShadow_nibs (s : State) (a : Nat) (v : Word) : (s.putShadow a v).nibs = s.nibs := rfl
@[simp] theorem State.putShadow_tst (s : State) (a : Nat) (v : Word) : (s.putShadow a v).tst = s.tst := rfl
@[simp] theorem State.putShadow_slur (s : State) (a : Nat) (v : Word) : (s.putShadow a v).slur = s.slur := rfl
@[simp] theorem State.putShadow_jtag (s : State) (a : Nat) (v : Word) : (s.putShadow a v).jtag = s.jtag := rfl
@[simp] theorem State.putShadow_ans (s : State) (a : Nat) (v : Word) : (s.putShadow a v).ans = s.ans := rfl
@[simp] theorem State.putShadow_freeCtr (s : State) (a : Nat) (v : Word) : (s.putShadow a v).freeCtr = s.freeCtr := rfl
@[simp] theorem State.putShadow_pending (s : State) (a : Nat) (v : Word) : (s.putShadow a v).pending = s.pending := rfl
@[simp] theorem State.putShadow_regs_live (s : State) (a : Nat) (v : Word) : (s.putShadow a v).regs.live = s.regs.live := rfl
@[simp] theorem State.putShadow_regs_image (s : State) (a : Nat) (v : Word) : (s.putShadow a v).regs.image = s.regs.image := rfl
@[simp] theorem State.putShadow_regs_imgKind (s : State) (a : Nat) (v : Word) : (s.putShadow a v).regs.imgKind = s.regs.imgKind := rfl
@[simp] theorem State.putShadow_regs_writers (s : State) (a : Nat) (v : Word) : (s.putShadow a v).regs.writers = s.regs.writers := rfl
@[simp] theorem State.putShadow_regs_dirty (s : State) (a : Nat) (v : Word) : (s.putShadow a v).regs.dirty = s.regs.dirty := rfl
@[simp] theorem State.putShadow_regs_same (s : State) (a : Nat) (v : Word) : (s.putShadow a v).regs.same = s.regs.same := rfl

/-! set -/

@[simp] theorem State.set_part (s : State) (f : Fld) (v : Nat) : (s.set f v).part = s.part := rfl
@[simp] theorem State.set_clk (s : State) (f : Fld) (v : Nat) : (s.set f v).clk = s.clk := rfl
@[simp] theorem State.set_sys (s : State) (f : Fld) (v : Nat) : (s.set f v).sys = s.sys := rfl
@[simp] theorem State.set_hif (s : State) (f : Fld) (v : Nat) : (s.set f v).hif = s.hif := rfl
@[simp] theorem State.set_evc (s : State) (f : Fld) (v : Nat) : (s.set f v).evc = s.evc := rfl
@[simp] theorem State.set_sec (s : State) (f : Fld) (v : Nat) : (s.set f v).sec = s.sec := rfl
@[simp] theorem State.set_whl (s : State) (f : Fld) (v : Nat) : (s.set f v).whl = s.whl := rfl
@[simp] theorem State.set_ang (s : State) (f : Fld) (v : Nat) : (s.set f v).ang = s.ang := rfl
@[simp] theorem State.set_sch (s : State) (f : Fld) (v : Nat) : (s.set f v).sch = s.sch := rfl
@[simp] theorem State.set_banks (s : State) (f : Fld) (v : Nat) : (s.set f v).banks = s.banks := rfl
@[simp] theorem State.set_quads (s : State) (f : Fld) (v : Nat) : (s.set f v).quads = s.quads := rfl
@[simp] theorem State.set_edges (s : State) (f : Fld) (v : Nat) : (s.set f v).edges = s.edges := rfl
@[simp] theorem State.set_ink (s : State) (f : Fld) (v : Nat) : (s.set f v).ink = s.ink := rfl
@[simp] theorem State.set_grds (s : State) (f : Fld) (v : Nat) : (s.set f v).grds = s.grds := rfl
@[simp] theorem State.set_adc (s : State) (f : Fld) (v : Nat) : (s.set f v).adc = s.adc := rfl
@[simp] theorem State.set_cmps (s : State) (f : Fld) (v : Nat) : (s.set f v).cmps = s.cmps := rfl
@[simp] theorem State.set_tmrs (s : State) (f : Fld) (v : Nat) : (s.set f v).tmrs = s.tmrs := rfl
@[simp] theorem State.set_nibs (s : State) (f : Fld) (v : Nat) : (s.set f v).nibs = s.nibs := rfl
@[simp] theorem State.set_tst (s : State) (f : Fld) (v : Nat) : (s.set f v).tst = s.tst := rfl
@[simp] theorem State.set_slur (s : State) (f : Fld) (v : Nat) : (s.set f v).slur = s.slur := rfl
@[simp] theorem State.set_jtag (s : State) (f : Fld) (v : Nat) : (s.set f v).jtag = s.jtag := rfl
@[simp] theorem State.set_ans (s : State) (f : Fld) (v : Nat) : (s.set f v).ans = s.ans := rfl
@[simp] theorem State.set_freeCtr (s : State) (f : Fld) (v : Nat) : (s.set f v).freeCtr = s.freeCtr := rfl
@[simp] theorem State.set_pending (s : State) (f : Fld) (v : Nat) : (s.set f v).pending = s.pending := rfl
@[simp] theorem State.set_regs_shadow (s : State) (f : Fld) (v : Nat) : (s.set f v).regs.shadow = s.regs.shadow := rfl
@[simp] theorem State.set_regs_image (s : State) (f : Fld) (v : Nat) : (s.set f v).regs.image = s.regs.image := rfl
@[simp] theorem State.set_regs_imgKind (s : State) (f : Fld) (v : Nat) : (s.set f v).regs.imgKind = s.regs.imgKind := rfl
@[simp] theorem State.set_regs_writers (s : State) (f : Fld) (v : Nat) : (s.set f v).regs.writers = s.regs.writers := rfl
@[simp] theorem State.set_regs_dirty (s : State) (f : Fld) (v : Nat) : (s.set f v).regs.dirty = s.regs.dirty := rfl

/-! addSat -/

@[simp] theorem State.addSat_part (s : State) (f : Fld) (n : Nat) : (s.addSat f n).part = s.part := rfl
@[simp] theorem State.addSat_clk (s : State) (f : Fld) (n : Nat) : (s.addSat f n).clk = s.clk := rfl
@[simp] theorem State.addSat_sys (s : State) (f : Fld) (n : Nat) : (s.addSat f n).sys = s.sys := rfl
@[simp] theorem State.addSat_hif (s : State) (f : Fld) (n : Nat) : (s.addSat f n).hif = s.hif := rfl
@[simp] theorem State.addSat_evc (s : State) (f : Fld) (n : Nat) : (s.addSat f n).evc = s.evc := rfl
@[simp] theorem State.addSat_sec (s : State) (f : Fld) (n : Nat) : (s.addSat f n).sec = s.sec := rfl
@[simp] theorem State.addSat_whl (s : State) (f : Fld) (n : Nat) : (s.addSat f n).whl = s.whl := rfl
@[simp] theorem State.addSat_ang (s : State) (f : Fld) (n : Nat) : (s.addSat f n).ang = s.ang := rfl
@[simp] theorem State.addSat_sch (s : State) (f : Fld) (n : Nat) : (s.addSat f n).sch = s.sch := rfl
@[simp] theorem State.addSat_banks (s : State) (f : Fld) (n : Nat) : (s.addSat f n).banks = s.banks := rfl
@[simp] theorem State.addSat_quads (s : State) (f : Fld) (n : Nat) : (s.addSat f n).quads = s.quads := rfl
@[simp] theorem State.addSat_edges (s : State) (f : Fld) (n : Nat) : (s.addSat f n).edges = s.edges := rfl
@[simp] theorem State.addSat_ink (s : State) (f : Fld) (n : Nat) : (s.addSat f n).ink = s.ink := rfl
@[simp] theorem State.addSat_grds (s : State) (f : Fld) (n : Nat) : (s.addSat f n).grds = s.grds := rfl
@[simp] theorem State.addSat_adc (s : State) (f : Fld) (n : Nat) : (s.addSat f n).adc = s.adc := rfl
@[simp] theorem State.addSat_cmps (s : State) (f : Fld) (n : Nat) : (s.addSat f n).cmps = s.cmps := rfl
@[simp] theorem State.addSat_tmrs (s : State) (f : Fld) (n : Nat) : (s.addSat f n).tmrs = s.tmrs := rfl
@[simp] theorem State.addSat_nibs (s : State) (f : Fld) (n : Nat) : (s.addSat f n).nibs = s.nibs := rfl
@[simp] theorem State.addSat_tst (s : State) (f : Fld) (n : Nat) : (s.addSat f n).tst = s.tst := rfl
@[simp] theorem State.addSat_slur (s : State) (f : Fld) (n : Nat) : (s.addSat f n).slur = s.slur := rfl
@[simp] theorem State.addSat_jtag (s : State) (f : Fld) (n : Nat) : (s.addSat f n).jtag = s.jtag := rfl
@[simp] theorem State.addSat_ans (s : State) (f : Fld) (n : Nat) : (s.addSat f n).ans = s.ans := rfl
@[simp] theorem State.addSat_freeCtr (s : State) (f : Fld) (n : Nat) : (s.addSat f n).freeCtr = s.freeCtr := rfl
@[simp] theorem State.addSat_pending (s : State) (f : Fld) (n : Nat) : (s.addSat f n).pending = s.pending := rfl
@[simp] theorem State.addSat_regs_shadow (s : State) (f : Fld) (n : Nat) : (s.addSat f n).regs.shadow = s.regs.shadow := rfl
@[simp] theorem State.addSat_regs_image (s : State) (f : Fld) (n : Nat) : (s.addSat f n).regs.image = s.regs.image := rfl
@[simp] theorem State.addSat_regs_imgKind (s : State) (f : Fld) (n : Nat) : (s.addSat f n).regs.imgKind = s.regs.imgKind := rfl
@[simp] theorem State.addSat_regs_writers (s : State) (f : Fld) (n : Nat) : (s.addSat f n).regs.writers = s.regs.writers := rfl
@[simp] theorem State.addSat_regs_dirty (s : State) (f : Fld) (n : Nat) : (s.addSat f n).regs.dirty = s.regs.dirty := rfl

/-! count -/

@[simp] theorem State.count_part (s : State) (f : Fld) : (s.count f).part = s.part := rfl
@[simp] theorem State.count_clk (s : State) (f : Fld) : (s.count f).clk = s.clk := rfl
@[simp] theorem State.count_sys (s : State) (f : Fld) : (s.count f).sys = s.sys := rfl
@[simp] theorem State.count_hif (s : State) (f : Fld) : (s.count f).hif = s.hif := rfl
@[simp] theorem State.count_evc (s : State) (f : Fld) : (s.count f).evc = s.evc := rfl
@[simp] theorem State.count_sec (s : State) (f : Fld) : (s.count f).sec = s.sec := rfl
@[simp] theorem State.count_whl (s : State) (f : Fld) : (s.count f).whl = s.whl := rfl
@[simp] theorem State.count_ang (s : State) (f : Fld) : (s.count f).ang = s.ang := rfl
@[simp] theorem State.count_sch (s : State) (f : Fld) : (s.count f).sch = s.sch := rfl
@[simp] theorem State.count_banks (s : State) (f : Fld) : (s.count f).banks = s.banks := rfl
@[simp] theorem State.count_quads (s : State) (f : Fld) : (s.count f).quads = s.quads := rfl
@[simp] theorem State.count_edges (s : State) (f : Fld) : (s.count f).edges = s.edges := rfl
@[simp] theorem State.count_ink (s : State) (f : Fld) : (s.count f).ink = s.ink := rfl
@[simp] theorem State.count_grds (s : State) (f : Fld) : (s.count f).grds = s.grds := rfl
@[simp] theorem State.count_adc (s : State) (f : Fld) : (s.count f).adc = s.adc := rfl
@[simp] theorem State.count_cmps (s : State) (f : Fld) : (s.count f).cmps = s.cmps := rfl
@[simp] theorem State.count_tmrs (s : State) (f : Fld) : (s.count f).tmrs = s.tmrs := rfl
@[simp] theorem State.count_nibs (s : State) (f : Fld) : (s.count f).nibs = s.nibs := rfl
@[simp] theorem State.count_tst (s : State) (f : Fld) : (s.count f).tst = s.tst := rfl
@[simp] theorem State.count_slur (s : State) (f : Fld) : (s.count f).slur = s.slur := rfl
@[simp] theorem State.count_jtag (s : State) (f : Fld) : (s.count f).jtag = s.jtag := rfl
@[simp] theorem State.count_ans (s : State) (f : Fld) : (s.count f).ans = s.ans := rfl
@[simp] theorem State.count_freeCtr (s : State) (f : Fld) : (s.count f).freeCtr = s.freeCtr := rfl
@[simp] theorem State.count_pending (s : State) (f : Fld) : (s.count f).pending = s.pending := rfl
@[simp] theorem State.count_regs_shadow (s : State) (f : Fld) : (s.count f).regs.shadow = s.regs.shadow := rfl
@[simp] theorem State.count_regs_image (s : State) (f : Fld) : (s.count f).regs.image = s.regs.image := rfl
@[simp] theorem State.count_regs_imgKind (s : State) (f : Fld) : (s.count f).regs.imgKind = s.regs.imgKind := rfl
@[simp] theorem State.count_regs_writers (s : State) (f : Fld) : (s.count f).regs.writers = s.regs.writers := rfl
@[simp] theorem State.count_regs_dirty (s : State) (f : Fld) : (s.count f).regs.dirty = s.regs.dirty := rfl

/-! setBit -/

@[simp] theorem State.setBit_part (s : State) (f : Fld) (i : Nat) : (s.setBit f i).part = s.part := by unfold State.setBit; split <;> rfl
@[simp] theorem State.setBit_clk (s : State) (f : Fld) (i : Nat) : (s.setBit f i).clk = s.clk := by unfold State.setBit; split <;> rfl
@[simp] theorem State.setBit_sys (s : State) (f : Fld) (i : Nat) : (s.setBit f i).sys = s.sys := by unfold State.setBit; split <;> rfl
@[simp] theorem State.setBit_hif (s : State) (f : Fld) (i : Nat) : (s.setBit f i).hif = s.hif := by unfold State.setBit; split <;> rfl
@[simp] theorem State.setBit_evc (s : State) (f : Fld) (i : Nat) : (s.setBit f i).evc = s.evc := by unfold State.setBit; split <;> rfl
@[simp] theorem State.setBit_sec (s : State) (f : Fld) (i : Nat) : (s.setBit f i).sec = s.sec := by unfold State.setBit; split <;> rfl
@[simp] theorem State.setBit_whl (s : State) (f : Fld) (i : Nat) : (s.setBit f i).whl = s.whl := by unfold State.setBit; split <;> rfl
@[simp] theorem State.setBit_ang (s : State) (f : Fld) (i : Nat) : (s.setBit f i).ang = s.ang := by unfold State.setBit; split <;> rfl
@[simp] theorem State.setBit_sch (s : State) (f : Fld) (i : Nat) : (s.setBit f i).sch = s.sch := by unfold State.setBit; split <;> rfl
@[simp] theorem State.setBit_banks (s : State) (f : Fld) (i : Nat) : (s.setBit f i).banks = s.banks := by unfold State.setBit; split <;> rfl
@[simp] theorem State.setBit_quads (s : State) (f : Fld) (i : Nat) : (s.setBit f i).quads = s.quads := by unfold State.setBit; split <;> rfl
@[simp] theorem State.setBit_edges (s : State) (f : Fld) (i : Nat) : (s.setBit f i).edges = s.edges := by unfold State.setBit; split <;> rfl
@[simp] theorem State.setBit_ink (s : State) (f : Fld) (i : Nat) : (s.setBit f i).ink = s.ink := by unfold State.setBit; split <;> rfl
@[simp] theorem State.setBit_grds (s : State) (f : Fld) (i : Nat) : (s.setBit f i).grds = s.grds := by unfold State.setBit; split <;> rfl
@[simp] theorem State.setBit_adc (s : State) (f : Fld) (i : Nat) : (s.setBit f i).adc = s.adc := by unfold State.setBit; split <;> rfl
@[simp] theorem State.setBit_cmps (s : State) (f : Fld) (i : Nat) : (s.setBit f i).cmps = s.cmps := by unfold State.setBit; split <;> rfl
@[simp] theorem State.setBit_tmrs (s : State) (f : Fld) (i : Nat) : (s.setBit f i).tmrs = s.tmrs := by unfold State.setBit; split <;> rfl
@[simp] theorem State.setBit_nibs (s : State) (f : Fld) (i : Nat) : (s.setBit f i).nibs = s.nibs := by unfold State.setBit; split <;> rfl
@[simp] theorem State.setBit_tst (s : State) (f : Fld) (i : Nat) : (s.setBit f i).tst = s.tst := by unfold State.setBit; split <;> rfl
@[simp] theorem State.setBit_slur (s : State) (f : Fld) (i : Nat) : (s.setBit f i).slur = s.slur := by unfold State.setBit; split <;> rfl
@[simp] theorem State.setBit_jtag (s : State) (f : Fld) (i : Nat) : (s.setBit f i).jtag = s.jtag := by unfold State.setBit; split <;> rfl
@[simp] theorem State.setBit_ans (s : State) (f : Fld) (i : Nat) : (s.setBit f i).ans = s.ans := by unfold State.setBit; split <;> rfl
@[simp] theorem State.setBit_freeCtr (s : State) (f : Fld) (i : Nat) : (s.setBit f i).freeCtr = s.freeCtr := by unfold State.setBit; split <;> rfl
@[simp] theorem State.setBit_pending (s : State) (f : Fld) (i : Nat) : (s.setBit f i).pending = s.pending := by unfold State.setBit; split <;> rfl
@[simp] theorem State.setBit_regs_shadow (s : State) (f : Fld) (i : Nat) : (s.setBit f i).regs.shadow = s.regs.shadow := by unfold State.setBit; split <;> rfl
@[simp] theorem State.setBit_regs_image (s : State) (f : Fld) (i : Nat) : (s.setBit f i).regs.image = s.regs.image := by unfold State.setBit; split <;> rfl
@[simp] theorem State.setBit_regs_imgKind (s : State) (f : Fld) (i : Nat) : (s.setBit f i).regs.imgKind = s.regs.imgKind := by unfold State.setBit; split <;> rfl
@[simp] theorem State.setBit_regs_writers (s : State) (f : Fld) (i : Nat) : (s.setBit f i).regs.writers = s.regs.writers := by unfold State.setBit; split <;> rfl
@[simp] theorem State.setBit_regs_dirty (s : State) (f : Fld) (i : Nat) : (s.setBit f i).regs.dirty = s.regs.dirty := by unfold State.setBit; split <;> rfl

/-! clrBit -/

@[simp] theorem State.clrBit_part (s : State) (f : Fld) (i : Nat) : (s.clrBit f i).part = s.part := by unfold State.clrBit; split <;> rfl
@[simp] theorem State.clrBit_clk (s : State) (f : Fld) (i : Nat) : (s.clrBit f i).clk = s.clk := by unfold State.clrBit; split <;> rfl
@[simp] theorem State.clrBit_sys (s : State) (f : Fld) (i : Nat) : (s.clrBit f i).sys = s.sys := by unfold State.clrBit; split <;> rfl
@[simp] theorem State.clrBit_hif (s : State) (f : Fld) (i : Nat) : (s.clrBit f i).hif = s.hif := by unfold State.clrBit; split <;> rfl
@[simp] theorem State.clrBit_evc (s : State) (f : Fld) (i : Nat) : (s.clrBit f i).evc = s.evc := by unfold State.clrBit; split <;> rfl
@[simp] theorem State.clrBit_sec (s : State) (f : Fld) (i : Nat) : (s.clrBit f i).sec = s.sec := by unfold State.clrBit; split <;> rfl
@[simp] theorem State.clrBit_whl (s : State) (f : Fld) (i : Nat) : (s.clrBit f i).whl = s.whl := by unfold State.clrBit; split <;> rfl
@[simp] theorem State.clrBit_ang (s : State) (f : Fld) (i : Nat) : (s.clrBit f i).ang = s.ang := by unfold State.clrBit; split <;> rfl
@[simp] theorem State.clrBit_sch (s : State) (f : Fld) (i : Nat) : (s.clrBit f i).sch = s.sch := by unfold State.clrBit; split <;> rfl
@[simp] theorem State.clrBit_banks (s : State) (f : Fld) (i : Nat) : (s.clrBit f i).banks = s.banks := by unfold State.clrBit; split <;> rfl
@[simp] theorem State.clrBit_quads (s : State) (f : Fld) (i : Nat) : (s.clrBit f i).quads = s.quads := by unfold State.clrBit; split <;> rfl
@[simp] theorem State.clrBit_edges (s : State) (f : Fld) (i : Nat) : (s.clrBit f i).edges = s.edges := by unfold State.clrBit; split <;> rfl
@[simp] theorem State.clrBit_ink (s : State) (f : Fld) (i : Nat) : (s.clrBit f i).ink = s.ink := by unfold State.clrBit; split <;> rfl
@[simp] theorem State.clrBit_grds (s : State) (f : Fld) (i : Nat) : (s.clrBit f i).grds = s.grds := by unfold State.clrBit; split <;> rfl
@[simp] theorem State.clrBit_adc (s : State) (f : Fld) (i : Nat) : (s.clrBit f i).adc = s.adc := by unfold State.clrBit; split <;> rfl
@[simp] theorem State.clrBit_cmps (s : State) (f : Fld) (i : Nat) : (s.clrBit f i).cmps = s.cmps := by unfold State.clrBit; split <;> rfl
@[simp] theorem State.clrBit_tmrs (s : State) (f : Fld) (i : Nat) : (s.clrBit f i).tmrs = s.tmrs := by unfold State.clrBit; split <;> rfl
@[simp] theorem State.clrBit_nibs (s : State) (f : Fld) (i : Nat) : (s.clrBit f i).nibs = s.nibs := by unfold State.clrBit; split <;> rfl
@[simp] theorem State.clrBit_tst (s : State) (f : Fld) (i : Nat) : (s.clrBit f i).tst = s.tst := by unfold State.clrBit; split <;> rfl
@[simp] theorem State.clrBit_slur (s : State) (f : Fld) (i : Nat) : (s.clrBit f i).slur = s.slur := by unfold State.clrBit; split <;> rfl
@[simp] theorem State.clrBit_jtag (s : State) (f : Fld) (i : Nat) : (s.clrBit f i).jtag = s.jtag := by unfold State.clrBit; split <;> rfl
@[simp] theorem State.clrBit_ans (s : State) (f : Fld) (i : Nat) : (s.clrBit f i).ans = s.ans := by unfold State.clrBit; split <;> rfl
@[simp] theorem State.clrBit_freeCtr (s : State) (f : Fld) (i : Nat) : (s.clrBit f i).freeCtr = s.freeCtr := by unfold State.clrBit; split <;> rfl
@[simp] theorem State.clrBit_pending (s : State) (f : Fld) (i : Nat) : (s.clrBit f i).pending = s.pending := by unfold State.clrBit; split <;> rfl
@[simp] theorem State.clrBit_regs_shadow (s : State) (f : Fld) (i : Nat) : (s.clrBit f i).regs.shadow = s.regs.shadow := by unfold State.clrBit; split <;> rfl
@[simp] theorem State.clrBit_regs_image (s : State) (f : Fld) (i : Nat) : (s.clrBit f i).regs.image = s.regs.image := by unfold State.clrBit; split <;> rfl
@[simp] theorem State.clrBit_regs_imgKind (s : State) (f : Fld) (i : Nat) : (s.clrBit f i).regs.imgKind = s.regs.imgKind := by unfold State.clrBit; split <;> rfl
@[simp] theorem State.clrBit_regs_writers (s : State) (f : Fld) (i : Nat) : (s.clrBit f i).regs.writers = s.regs.writers := by unfold State.clrBit; split <;> rfl
@[simp] theorem State.clrBit_regs_dirty (s : State) (f : Fld) (i : Nat) : (s.clrBit f i).regs.dirty = s.regs.dirty := by unfold State.clrBit; split <;> rfl

/-! clrLatch -/

@[simp] theorem State.clrLatch_part (s : State) (f : Fld) (i : Nat) : (s.clrLatch f i).part = s.part := by unfold State.clrLatch; split <;> simp
@[simp] theorem State.clrLatch_clk (s : State) (f : Fld) (i : Nat) : (s.clrLatch f i).clk = s.clk := by unfold State.clrLatch; split <;> simp
@[simp] theorem State.clrLatch_sys (s : State) (f : Fld) (i : Nat) : (s.clrLatch f i).sys = s.sys := by unfold State.clrLatch; split <;> simp
@[simp] theorem State.clrLatch_hif (s : State) (f : Fld) (i : Nat) : (s.clrLatch f i).hif = s.hif := by unfold State.clrLatch; split <;> simp
@[simp] theorem State.clrLatch_evc (s : State) (f : Fld) (i : Nat) : (s.clrLatch f i).evc = s.evc := by unfold State.clrLatch; split <;> simp
@[simp] theorem State.clrLatch_sec (s : State) (f : Fld) (i : Nat) : (s.clrLatch f i).sec = s.sec := by unfold State.clrLatch; split <;> simp
@[simp] theorem State.clrLatch_whl (s : State) (f : Fld) (i : Nat) : (s.clrLatch f i).whl = s.whl := by unfold State.clrLatch; split <;> simp
@[simp] theorem State.clrLatch_ang (s : State) (f : Fld) (i : Nat) : (s.clrLatch f i).ang = s.ang := by unfold State.clrLatch; split <;> simp
@[simp] theorem State.clrLatch_sch (s : State) (f : Fld) (i : Nat) : (s.clrLatch f i).sch = s.sch := by unfold State.clrLatch; split <;> simp
@[simp] theorem State.clrLatch_banks (s : State) (f : Fld) (i : Nat) : (s.clrLatch f i).banks = s.banks := by unfold State.clrLatch; split <;> simp
@[simp] theorem State.clrLatch_quads (s : State) (f : Fld) (i : Nat) : (s.clrLatch f i).quads = s.quads := by unfold State.clrLatch; split <;> simp
@[simp] theorem State.clrLatch_edges (s : State) (f : Fld) (i : Nat) : (s.clrLatch f i).edges = s.edges := by unfold State.clrLatch; split <;> simp
@[simp] theorem State.clrLatch_ink (s : State) (f : Fld) (i : Nat) : (s.clrLatch f i).ink = s.ink := by unfold State.clrLatch; split <;> simp
@[simp] theorem State.clrLatch_grds (s : State) (f : Fld) (i : Nat) : (s.clrLatch f i).grds = s.grds := by unfold State.clrLatch; split <;> simp
@[simp] theorem State.clrLatch_adc (s : State) (f : Fld) (i : Nat) : (s.clrLatch f i).adc = s.adc := by unfold State.clrLatch; split <;> simp
@[simp] theorem State.clrLatch_cmps (s : State) (f : Fld) (i : Nat) : (s.clrLatch f i).cmps = s.cmps := by unfold State.clrLatch; split <;> simp
@[simp] theorem State.clrLatch_tmrs (s : State) (f : Fld) (i : Nat) : (s.clrLatch f i).tmrs = s.tmrs := by unfold State.clrLatch; split <;> simp
@[simp] theorem State.clrLatch_nibs (s : State) (f : Fld) (i : Nat) : (s.clrLatch f i).nibs = s.nibs := by unfold State.clrLatch; split <;> simp
@[simp] theorem State.clrLatch_tst (s : State) (f : Fld) (i : Nat) : (s.clrLatch f i).tst = s.tst := by unfold State.clrLatch; split <;> simp
@[simp] theorem State.clrLatch_slur (s : State) (f : Fld) (i : Nat) : (s.clrLatch f i).slur = s.slur := by unfold State.clrLatch; split <;> simp
@[simp] theorem State.clrLatch_jtag (s : State) (f : Fld) (i : Nat) : (s.clrLatch f i).jtag = s.jtag := by unfold State.clrLatch; split <;> simp
@[simp] theorem State.clrLatch_ans (s : State) (f : Fld) (i : Nat) : (s.clrLatch f i).ans = s.ans := by unfold State.clrLatch; split <;> simp
@[simp] theorem State.clrLatch_freeCtr (s : State) (f : Fld) (i : Nat) : (s.clrLatch f i).freeCtr = s.freeCtr := by unfold State.clrLatch; split <;> simp
@[simp] theorem State.clrLatch_pending (s : State) (f : Fld) (i : Nat) : (s.clrLatch f i).pending = s.pending := by unfold State.clrLatch; split <;> simp
@[simp] theorem State.clrLatch_regs_shadow (s : State) (f : Fld) (i : Nat) : (s.clrLatch f i).regs.shadow = s.regs.shadow := by unfold State.clrLatch; split <;> simp
@[simp] theorem State.clrLatch_regs_image (s : State) (f : Fld) (i : Nat) : (s.clrLatch f i).regs.image = s.regs.image := by unfold State.clrLatch; split <;> simp
@[simp] theorem State.clrLatch_regs_imgKind (s : State) (f : Fld) (i : Nat) : (s.clrLatch f i).regs.imgKind = s.regs.imgKind := by unfold State.clrLatch; split <;> simp
@[simp] theorem State.clrLatch_regs_writers (s : State) (f : Fld) (i : Nat) : (s.clrLatch f i).regs.writers = s.regs.writers := by unfold State.clrLatch; split <;> simp
@[simp] theorem State.clrLatch_regs_dirty (s : State) (f : Fld) (i : Nat) : (s.clrLatch f i).regs.dirty = s.regs.dirty := by unfold State.clrLatch; split <;> simp

/-! inCycle -/

@[simp] theorem State.inCycle_part (s : State) (f : Same → Same) : (s.inCycle f).part = s.part := rfl
@[simp] theorem State.inCycle_clk (s : State) (f : Same → Same) : (s.inCycle f).clk = s.clk := rfl
@[simp] theorem State.inCycle_sys (s : State) (f : Same → Same) : (s.inCycle f).sys = s.sys := rfl
@[simp] theorem State.inCycle_hif (s : State) (f : Same → Same) : (s.inCycle f).hif = s.hif := rfl
@[simp] theorem State.inCycle_evc (s : State) (f : Same → Same) : (s.inCycle f).evc = s.evc := rfl
@[simp] theorem State.inCycle_sec (s : State) (f : Same → Same) : (s.inCycle f).sec = s.sec := rfl
@[simp] theorem State.inCycle_whl (s : State) (f : Same → Same) : (s.inCycle f).whl = s.whl := rfl
@[simp] theorem State.inCycle_ang (s : State) (f : Same → Same) : (s.inCycle f).ang = s.ang := rfl
@[simp] theorem State.inCycle_sch (s : State) (f : Same → Same) : (s.inCycle f).sch = s.sch := rfl
@[simp] theorem State.inCycle_banks (s : State) (f : Same → Same) : (s.inCycle f).banks = s.banks := rfl
@[simp] theorem State.inCycle_quads (s : State) (f : Same → Same) : (s.inCycle f).quads = s.quads := rfl
@[simp] theorem State.inCycle_edges (s : State) (f : Same → Same) : (s.inCycle f).edges = s.edges := rfl
@[simp] theorem State.inCycle_ink (s : State) (f : Same → Same) : (s.inCycle f).ink = s.ink := rfl
@[simp] theorem State.inCycle_grds (s : State) (f : Same → Same) : (s.inCycle f).grds = s.grds := rfl
@[simp] theorem State.inCycle_adc (s : State) (f : Same → Same) : (s.inCycle f).adc = s.adc := rfl
@[simp] theorem State.inCycle_cmps (s : State) (f : Same → Same) : (s.inCycle f).cmps = s.cmps := rfl
@[simp] theorem State.inCycle_tmrs (s : State) (f : Same → Same) : (s.inCycle f).tmrs = s.tmrs := rfl
@[simp] theorem State.inCycle_nibs (s : State) (f : Same → Same) : (s.inCycle f).nibs = s.nibs := rfl
@[simp] theorem State.inCycle_tst (s : State) (f : Same → Same) : (s.inCycle f).tst = s.tst := rfl
@[simp] theorem State.inCycle_slur (s : State) (f : Same → Same) : (s.inCycle f).slur = s.slur := rfl
@[simp] theorem State.inCycle_jtag (s : State) (f : Same → Same) : (s.inCycle f).jtag = s.jtag := rfl
@[simp] theorem State.inCycle_ans (s : State) (f : Same → Same) : (s.inCycle f).ans = s.ans := rfl
@[simp] theorem State.inCycle_freeCtr (s : State) (f : Same → Same) : (s.inCycle f).freeCtr = s.freeCtr := rfl
@[simp] theorem State.inCycle_pending (s : State) (f : Same → Same) : (s.inCycle f).pending = s.pending := rfl
@[simp] theorem State.inCycle_regs_live (s : State) (f : Same → Same) : (s.inCycle f).regs.live = s.regs.live := rfl
@[simp] theorem State.inCycle_regs_shadow (s : State) (f : Same → Same) : (s.inCycle f).regs.shadow = s.regs.shadow := rfl
@[simp] theorem State.inCycle_regs_image (s : State) (f : Same → Same) : (s.inCycle f).regs.image = s.regs.image := rfl
@[simp] theorem State.inCycle_regs_imgKind (s : State) (f : Same → Same) : (s.inCycle f).regs.imgKind = s.regs.imgKind := rfl
@[simp] theorem State.inCycle_regs_writers (s : State) (f : Same → Same) : (s.inCycle f).regs.writers = s.regs.writers := rfl
@[simp] theorem State.inCycle_regs_dirty (s : State) (f : Same → Same) : (s.inCycle f).regs.dirty = s.regs.dirty := rfl

/-! noteHw -/

@[simp] theorem State.noteHw_part (s : State) (a : Nat) (g : Word → Word) : (s.noteHw a g).part = s.part := rfl
@[simp] theorem State.noteHw_clk (s : State) (a : Nat) (g : Word → Word) : (s.noteHw a g).clk = s.clk := rfl
@[simp] theorem State.noteHw_sys (s : State) (a : Nat) (g : Word → Word) : (s.noteHw a g).sys = s.sys := rfl
@[simp] theorem State.noteHw_hif (s : State) (a : Nat) (g : Word → Word) : (s.noteHw a g).hif = s.hif := rfl
@[simp] theorem State.noteHw_evc (s : State) (a : Nat) (g : Word → Word) : (s.noteHw a g).evc = s.evc := rfl
@[simp] theorem State.noteHw_sec (s : State) (a : Nat) (g : Word → Word) : (s.noteHw a g).sec = s.sec := rfl
@[simp] theorem State.noteHw_whl (s : State) (a : Nat) (g : Word → Word) : (s.noteHw a g).whl = s.whl := rfl
@[simp] theorem State.noteHw_ang (s : State) (a : Nat) (g : Word → Word) : (s.noteHw a g).ang = s.ang := rfl
@[simp] theorem State.noteHw_sch (s : State) (a : Nat) (g : Word → Word) : (s.noteHw a g).sch = s.sch := rfl
@[simp] theorem State.noteHw_banks (s : State) (a : Nat) (g : Word → Word) : (s.noteHw a g).banks = s.banks := rfl
@[simp] theorem State.noteHw_quads (s : State) (a : Nat) (g : Word → Word) : (s.noteHw a g).quads = s.quads := rfl
@[simp] theorem State.noteHw_edges (s : State) (a : Nat) (g : Word → Word) : (s.noteHw a g).edges = s.edges := rfl
@[simp] theorem State.noteHw_ink (s : State) (a : Nat) (g : Word → Word) : (s.noteHw a g).ink = s.ink := rfl
@[simp] theorem State.noteHw_grds (s : State) (a : Nat) (g : Word → Word) : (s.noteHw a g).grds = s.grds := rfl
@[simp] theorem State.noteHw_adc (s : State) (a : Nat) (g : Word → Word) : (s.noteHw a g).adc = s.adc := rfl
@[simp] theorem State.noteHw_cmps (s : State) (a : Nat) (g : Word → Word) : (s.noteHw a g).cmps = s.cmps := rfl
@[simp] theorem State.noteHw_tmrs (s : State) (a : Nat) (g : Word → Word) : (s.noteHw a g).tmrs = s.tmrs := rfl
@[simp] theorem State.noteHw_nibs (s : State) (a : Nat) (g : Word → Word) : (s.noteHw a g).nibs = s.nibs := rfl
@[simp] theorem State.noteHw_tst (s : State) (a : Nat) (g : Word → Word) : (s.noteHw a g).tst = s.tst := rfl
@[simp] theorem State.noteHw_slur (s : State) (a : Nat) (g : Word → Word) : (s.noteHw a g).slur = s.slur := rfl
@[simp] theorem State.noteHw_jtag (s : State) (a : Nat) (g : Word → Word) : (s.noteHw a g).jtag = s.jtag := rfl
@[simp] theorem State.noteHw_ans (s : State) (a : Nat) (g : Word → Word) : (s.noteHw a g).ans = s.ans := rfl
@[simp] theorem State.noteHw_freeCtr (s : State) (a : Nat) (g : Word → Word) : (s.noteHw a g).freeCtr = s.freeCtr := rfl
@[simp] theorem State.noteHw_pending (s : State) (a : Nat) (g : Word → Word) : (s.noteHw a g).pending = s.pending := rfl
@[simp] theorem State.noteHw_regs_live (s : State) (a : Nat) (g : Word → Word) : (s.noteHw a g).regs.live = s.regs.live := rfl
@[simp] theorem State.noteHw_regs_shadow (s : State) (a : Nat) (g : Word → Word) : (s.noteHw a g).regs.shadow = s.regs.shadow := rfl
@[simp] theorem State.noteHw_regs_image (s : State) (a : Nat) (g : Word → Word) : (s.noteHw a g).regs.image = s.regs.image := rfl
@[simp] theorem State.noteHw_regs_imgKind (s : State) (a : Nat) (g : Word → Word) : (s.noteHw a g).regs.imgKind = s.regs.imgKind := rfl
@[simp] theorem State.noteHw_regs_writers (s : State) (a : Nat) (g : Word → Word) : (s.noteHw a g).regs.writers = s.regs.writers := rfl
@[simp] theorem State.noteHw_regs_dirty (s : State) (a : Nat) (g : Word → Word) : (s.noteHw a g).regs.dirty = s.regs.dirty := rfl

/-! noteHost -/

@[simp] theorem State.noteHost_part (s : State) (a : Nat) : (s.noteHost a).part = s.part := rfl
@[simp] theorem State.noteHost_clk (s : State) (a : Nat) : (s.noteHost a).clk = s.clk := rfl
@[simp] theorem State.noteHost_sys (s : State) (a : Nat) : (s.noteHost a).sys = s.sys := rfl
@[simp] theorem State.noteHost_hif (s : State) (a : Nat) : (s.noteHost a).hif = s.hif := rfl
@[simp] theorem State.noteHost_evc (s : State) (a : Nat) : (s.noteHost a).evc = s.evc := rfl
@[simp] theorem State.noteHost_sec (s : State) (a : Nat) : (s.noteHost a).sec = s.sec := rfl
@[simp] theorem State.noteHost_whl (s : State) (a : Nat) : (s.noteHost a).whl = s.whl := rfl
@[simp] theorem State.noteHost_ang (s : State) (a : Nat) : (s.noteHost a).ang = s.ang := rfl
@[simp] theorem State.noteHost_sch (s : State) (a : Nat) : (s.noteHost a).sch = s.sch := rfl
@[simp] theorem State.noteHost_banks (s : State) (a : Nat) : (s.noteHost a).banks = s.banks := rfl
@[simp] theorem State.noteHost_quads (s : State) (a : Nat) : (s.noteHost a).quads = s.quads := rfl
@[simp] theorem State.noteHost_edges (s : State) (a : Nat) : (s.noteHost a).edges = s.edges := rfl
@[simp] theorem State.noteHost_ink (s : State) (a : Nat) : (s.noteHost a).ink = s.ink := rfl
@[simp] theorem State.noteHost_grds (s : State) (a : Nat) : (s.noteHost a).grds = s.grds := rfl
@[simp] theorem State.noteHost_adc (s : State) (a : Nat) : (s.noteHost a).adc = s.adc := rfl
@[simp] theorem State.noteHost_cmps (s : State) (a : Nat) : (s.noteHost a).cmps = s.cmps := rfl
@[simp] theorem State.noteHost_tmrs (s : State) (a : Nat) : (s.noteHost a).tmrs = s.tmrs := rfl
@[simp] theorem State.noteHost_nibs (s : State) (a : Nat) : (s.noteHost a).nibs = s.nibs := rfl
@[simp] theorem State.noteHost_tst (s : State) (a : Nat) : (s.noteHost a).tst = s.tst := rfl
@[simp] theorem State.noteHost_slur (s : State) (a : Nat) : (s.noteHost a).slur = s.slur := rfl
@[simp] theorem State.noteHost_jtag (s : State) (a : Nat) : (s.noteHost a).jtag = s.jtag := rfl
@[simp] theorem State.noteHost_ans (s : State) (a : Nat) : (s.noteHost a).ans = s.ans := rfl
@[simp] theorem State.noteHost_freeCtr (s : State) (a : Nat) : (s.noteHost a).freeCtr = s.freeCtr := rfl
@[simp] theorem State.noteHost_pending (s : State) (a : Nat) : (s.noteHost a).pending = s.pending := rfl
@[simp] theorem State.noteHost_regs_live (s : State) (a : Nat) : (s.noteHost a).regs.live = s.regs.live := rfl
@[simp] theorem State.noteHost_regs_shadow (s : State) (a : Nat) : (s.noteHost a).regs.shadow = s.regs.shadow := rfl
@[simp] theorem State.noteHost_regs_image (s : State) (a : Nat) : (s.noteHost a).regs.image = s.regs.image := rfl
@[simp] theorem State.noteHost_regs_imgKind (s : State) (a : Nat) : (s.noteHost a).regs.imgKind = s.regs.imgKind := rfl
@[simp] theorem State.noteHost_regs_writers (s : State) (a : Nat) : (s.noteHost a).regs.writers = s.regs.writers := rfl
@[simp] theorem State.noteHost_regs_dirty (s : State) (a : Nat) : (s.noteHost a).regs.dirty = s.regs.dirty := rfl

/-! noteMq -/

@[simp] theorem State.noteMq_part (s : State) (a m : Nat) : (s.noteMq a m).part = s.part := rfl
@[simp] theorem State.noteMq_clk (s : State) (a m : Nat) : (s.noteMq a m).clk = s.clk := rfl
@[simp] theorem State.noteMq_sys (s : State) (a m : Nat) : (s.noteMq a m).sys = s.sys := rfl
@[simp] theorem State.noteMq_hif (s : State) (a m : Nat) : (s.noteMq a m).hif = s.hif := rfl
@[simp] theorem State.noteMq_evc (s : State) (a m : Nat) : (s.noteMq a m).evc = s.evc := rfl
@[simp] theorem State.noteMq_sec (s : State) (a m : Nat) : (s.noteMq a m).sec = s.sec := rfl
@[simp] theorem State.noteMq_whl (s : State) (a m : Nat) : (s.noteMq a m).whl = s.whl := rfl
@[simp] theorem State.noteMq_ang (s : State) (a m : Nat) : (s.noteMq a m).ang = s.ang := rfl
@[simp] theorem State.noteMq_sch (s : State) (a m : Nat) : (s.noteMq a m).sch = s.sch := rfl
@[simp] theorem State.noteMq_banks (s : State) (a m : Nat) : (s.noteMq a m).banks = s.banks := rfl
@[simp] theorem State.noteMq_quads (s : State) (a m : Nat) : (s.noteMq a m).quads = s.quads := rfl
@[simp] theorem State.noteMq_edges (s : State) (a m : Nat) : (s.noteMq a m).edges = s.edges := rfl
@[simp] theorem State.noteMq_ink (s : State) (a m : Nat) : (s.noteMq a m).ink = s.ink := rfl
@[simp] theorem State.noteMq_grds (s : State) (a m : Nat) : (s.noteMq a m).grds = s.grds := rfl
@[simp] theorem State.noteMq_adc (s : State) (a m : Nat) : (s.noteMq a m).adc = s.adc := rfl
@[simp] theorem State.noteMq_cmps (s : State) (a m : Nat) : (s.noteMq a m).cmps = s.cmps := rfl
@[simp] theorem State.noteMq_tmrs (s : State) (a m : Nat) : (s.noteMq a m).tmrs = s.tmrs := rfl
@[simp] theorem State.noteMq_nibs (s : State) (a m : Nat) : (s.noteMq a m).nibs = s.nibs := rfl
@[simp] theorem State.noteMq_tst (s : State) (a m : Nat) : (s.noteMq a m).tst = s.tst := rfl
@[simp] theorem State.noteMq_slur (s : State) (a m : Nat) : (s.noteMq a m).slur = s.slur := rfl
@[simp] theorem State.noteMq_jtag (s : State) (a m : Nat) : (s.noteMq a m).jtag = s.jtag := rfl
@[simp] theorem State.noteMq_ans (s : State) (a m : Nat) : (s.noteMq a m).ans = s.ans := rfl
@[simp] theorem State.noteMq_freeCtr (s : State) (a m : Nat) : (s.noteMq a m).freeCtr = s.freeCtr := rfl
@[simp] theorem State.noteMq_pending (s : State) (a m : Nat) : (s.noteMq a m).pending = s.pending := rfl
@[simp] theorem State.noteMq_regs_live (s : State) (a m : Nat) : (s.noteMq a m).regs.live = s.regs.live := rfl
@[simp] theorem State.noteMq_regs_shadow (s : State) (a m : Nat) : (s.noteMq a m).regs.shadow = s.regs.shadow := rfl
@[simp] theorem State.noteMq_regs_image (s : State) (a m : Nat) : (s.noteMq a m).regs.image = s.regs.image := rfl
@[simp] theorem State.noteMq_regs_imgKind (s : State) (a m : Nat) : (s.noteMq a m).regs.imgKind = s.regs.imgKind := rfl
@[simp] theorem State.noteMq_regs_writers (s : State) (a m : Nat) : (s.noteMq a m).regs.writers = s.regs.writers := rfl
@[simp] theorem State.noteMq_regs_dirty (s : State) (a m : Nat) : (s.noteMq a m).regs.dirty = s.regs.dirty := rfl

/-! markDirty -/

@[simp] theorem State.markDirty_part (s : State) (a role : Nat) : (s.markDirty a role).part = s.part := rfl
@[simp] theorem State.markDirty_clk (s : State) (a role : Nat) : (s.markDirty a role).clk = s.clk := rfl
@[simp] theorem State.markDirty_sys (s : State) (a role : Nat) : (s.markDirty a role).sys = s.sys := rfl
@[simp] theorem State.markDirty_hif (s : State) (a role : Nat) : (s.markDirty a role).hif = s.hif := rfl
@[simp] theorem State.markDirty_evc (s : State) (a role : Nat) : (s.markDirty a role).evc = s.evc := rfl
@[simp] theorem State.markDirty_sec (s : State) (a role : Nat) : (s.markDirty a role).sec = s.sec := rfl
@[simp] theorem State.markDirty_whl (s : State) (a role : Nat) : (s.markDirty a role).whl = s.whl := rfl
@[simp] theorem State.markDirty_ang (s : State) (a role : Nat) : (s.markDirty a role).ang = s.ang := rfl
@[simp] theorem State.markDirty_sch (s : State) (a role : Nat) : (s.markDirty a role).sch = s.sch := rfl
@[simp] theorem State.markDirty_banks (s : State) (a role : Nat) : (s.markDirty a role).banks = s.banks := rfl
@[simp] theorem State.markDirty_quads (s : State) (a role : Nat) : (s.markDirty a role).quads = s.quads := rfl
@[simp] theorem State.markDirty_edges (s : State) (a role : Nat) : (s.markDirty a role).edges = s.edges := rfl
@[simp] theorem State.markDirty_ink (s : State) (a role : Nat) : (s.markDirty a role).ink = s.ink := rfl
@[simp] theorem State.markDirty_grds (s : State) (a role : Nat) : (s.markDirty a role).grds = s.grds := rfl
@[simp] theorem State.markDirty_adc (s : State) (a role : Nat) : (s.markDirty a role).adc = s.adc := rfl
@[simp] theorem State.markDirty_cmps (s : State) (a role : Nat) : (s.markDirty a role).cmps = s.cmps := rfl
@[simp] theorem State.markDirty_tmrs (s : State) (a role : Nat) : (s.markDirty a role).tmrs = s.tmrs := rfl
@[simp] theorem State.markDirty_nibs (s : State) (a role : Nat) : (s.markDirty a role).nibs = s.nibs := rfl
@[simp] theorem State.markDirty_tst (s : State) (a role : Nat) : (s.markDirty a role).tst = s.tst := rfl
@[simp] theorem State.markDirty_slur (s : State) (a role : Nat) : (s.markDirty a role).slur = s.slur := rfl
@[simp] theorem State.markDirty_jtag (s : State) (a role : Nat) : (s.markDirty a role).jtag = s.jtag := rfl
@[simp] theorem State.markDirty_ans (s : State) (a role : Nat) : (s.markDirty a role).ans = s.ans := rfl
@[simp] theorem State.markDirty_freeCtr (s : State) (a role : Nat) : (s.markDirty a role).freeCtr = s.freeCtr := rfl
@[simp] theorem State.markDirty_pending (s : State) (a role : Nat) : (s.markDirty a role).pending = s.pending := rfl
@[simp] theorem State.markDirty_regs_live (s : State) (a role : Nat) : (s.markDirty a role).regs.live = s.regs.live := rfl
@[simp] theorem State.markDirty_regs_shadow (s : State) (a role : Nat) : (s.markDirty a role).regs.shadow = s.regs.shadow := rfl
@[simp] theorem State.markDirty_regs_image (s : State) (a role : Nat) : (s.markDirty a role).regs.image = s.regs.image := rfl
@[simp] theorem State.markDirty_regs_imgKind (s : State) (a role : Nat) : (s.markDirty a role).regs.imgKind = s.regs.imgKind := rfl
@[simp] theorem State.markDirty_regs_same (s : State) (a role : Nat) : (s.markDirty a role).regs.same = s.regs.same := rfl

/-! putBoth -/

@[simp] theorem State.putBoth_part (s : State) (a : Nat) (v : Word) (role : Nat) : (s.putBoth a v role).part = s.part := rfl
@[simp] theorem State.putBoth_clk (s : State) (a : Nat) (v : Word) (role : Nat) : (s.putBoth a v role).clk = s.clk := rfl
@[simp] theorem State.putBoth_sys (s : State) (a : Nat) (v : Word) (role : Nat) : (s.putBoth a v role).sys = s.sys := rfl
@[simp] theorem State.putBoth_hif (s : State) (a : Nat) (v : Word) (role : Nat) : (s.putBoth a v role).hif = s.hif := rfl
@[simp] theorem State.putBoth_evc (s : State) (a : Nat) (v : Word) (role : Nat) : (s.putBoth a v role).evc = s.evc := rfl
@[simp] theorem State.putBoth_sec (s : State) (a : Nat) (v : Word) (role : Nat) : (s.putBoth a v role).sec = s.sec := rfl
@[simp] theorem State.putBoth_whl (s : State) (a : Nat) (v : Word) (role : Nat) : (s.putBoth a v role).whl = s.whl := rfl
@[simp] theorem State.putBoth_ang (s : State) (a : Nat) (v : Word) (role : Nat) : (s.putBoth a v role).ang = s.ang := rfl
@[simp] theorem State.putBoth_sch (s : State) (a : Nat) (v : Word) (role : Nat) : (s.putBoth a v role).sch = s.sch := rfl
@[simp] theorem State.putBoth_banks (s : State) (a : Nat) (v : Word) (role : Nat) : (s.putBoth a v role).banks = s.banks := rfl
@[simp] theorem State.putBoth_quads (s : State) (a : Nat) (v : Word) (role : Nat) : (s.putBoth a v role).quads = s.quads := rfl
@[simp] theorem State.putBoth_edges (s : State) (a : Nat) (v : Word) (role : Nat) : (s.putBoth a v role).edges = s.edges := rfl
@[simp] theorem State.putBoth_ink (s : State) (a : Nat) (v : Word) (role : Nat) : (s.putBoth a v role).ink = s.ink := rfl
@[simp] theorem State.putBoth_grds (s : State) (a : Nat) (v : Word) (role : Nat) : (s.putBoth a v role).grds = s.grds := rfl
@[simp] theorem State.putBoth_adc (s : State) (a : Nat) (v : Word) (role : Nat) : (s.putBoth a v role).adc = s.adc := rfl
@[simp] theorem State.putBoth_cmps (s : State) (a : Nat) (v : Word) (role : Nat) : (s.putBoth a v role).cmps = s.cmps := rfl
@[simp] theorem State.putBoth_tmrs (s : State) (a : Nat) (v : Word) (role : Nat) : (s.putBoth a v role).tmrs = s.tmrs := rfl
@[simp] theorem State.putBoth_nibs (s : State) (a : Nat) (v : Word) (role : Nat) : (s.putBoth a v role).nibs = s.nibs := rfl
@[simp] theorem State.putBoth_tst (s : State) (a : Nat) (v : Word) (role : Nat) : (s.putBoth a v role).tst = s.tst := rfl
@[simp] theorem State.putBoth_slur (s : State) (a : Nat) (v : Word) (role : Nat) : (s.putBoth a v role).slur = s.slur := rfl
@[simp] theorem State.putBoth_jtag (s : State) (a : Nat) (v : Word) (role : Nat) : (s.putBoth a v role).jtag = s.jtag := rfl
@[simp] theorem State.putBoth_ans (s : State) (a : Nat) (v : Word) (role : Nat) : (s.putBoth a v role).ans = s.ans := rfl
@[simp] theorem State.putBoth_freeCtr (s : State) (a : Nat) (v : Word) (role : Nat) : (s.putBoth a v role).freeCtr = s.freeCtr := rfl
@[simp] theorem State.putBoth_pending (s : State) (a : Nat) (v : Word) (role : Nat) : (s.putBoth a v role).pending = s.pending := rfl
@[simp] theorem State.putBoth_regs_image (s : State) (a : Nat) (v : Word) (role : Nat) : (s.putBoth a v role).regs.image = s.regs.image := rfl
@[simp] theorem State.putBoth_regs_imgKind (s : State) (a : Nat) (v : Word) (role : Nat) : (s.putBoth a v role).regs.imgKind = s.regs.imgKind := rfl

/-! modBank -/

@[simp] theorem State.modBank_part (s : State) (b : Nat) (f : Bank → Bank) : (s.modBank b f).part = s.part := rfl
@[simp] theorem State.modBank_clk (s : State) (b : Nat) (f : Bank → Bank) : (s.modBank b f).clk = s.clk := rfl
@[simp] theorem State.modBank_regs (s : State) (b : Nat) (f : Bank → Bank) : (s.modBank b f).regs = s.regs := rfl
@[simp] theorem State.modBank_sys (s : State) (b : Nat) (f : Bank → Bank) : (s.modBank b f).sys = s.sys := rfl
@[simp] theorem State.modBank_hif (s : State) (b : Nat) (f : Bank → Bank) : (s.modBank b f).hif = s.hif := rfl
@[simp] theorem State.modBank_evc (s : State) (b : Nat) (f : Bank → Bank) : (s.modBank b f).evc = s.evc := rfl
@[simp] theorem State.modBank_sec (s : State) (b : Nat) (f : Bank → Bank) : (s.modBank b f).sec = s.sec := rfl
@[simp] theorem State.modBank_whl (s : State) (b : Nat) (f : Bank → Bank) : (s.modBank b f).whl = s.whl := rfl
@[simp] theorem State.modBank_ang (s : State) (b : Nat) (f : Bank → Bank) : (s.modBank b f).ang = s.ang := rfl
@[simp] theorem State.modBank_sch (s : State) (b : Nat) (f : Bank → Bank) : (s.modBank b f).sch = s.sch := rfl
@[simp] theorem State.modBank_quads (s : State) (b : Nat) (f : Bank → Bank) : (s.modBank b f).quads = s.quads := rfl
@[simp] theorem State.modBank_edges (s : State) (b : Nat) (f : Bank → Bank) : (s.modBank b f).edges = s.edges := rfl
@[simp] theorem State.modBank_ink (s : State) (b : Nat) (f : Bank → Bank) : (s.modBank b f).ink = s.ink := rfl
@[simp] theorem State.modBank_grds (s : State) (b : Nat) (f : Bank → Bank) : (s.modBank b f).grds = s.grds := rfl
@[simp] theorem State.modBank_adc (s : State) (b : Nat) (f : Bank → Bank) : (s.modBank b f).adc = s.adc := rfl
@[simp] theorem State.modBank_cmps (s : State) (b : Nat) (f : Bank → Bank) : (s.modBank b f).cmps = s.cmps := rfl
@[simp] theorem State.modBank_tmrs (s : State) (b : Nat) (f : Bank → Bank) : (s.modBank b f).tmrs = s.tmrs := rfl
@[simp] theorem State.modBank_nibs (s : State) (b : Nat) (f : Bank → Bank) : (s.modBank b f).nibs = s.nibs := rfl
@[simp] theorem State.modBank_tst (s : State) (b : Nat) (f : Bank → Bank) : (s.modBank b f).tst = s.tst := rfl
@[simp] theorem State.modBank_slur (s : State) (b : Nat) (f : Bank → Bank) : (s.modBank b f).slur = s.slur := rfl
@[simp] theorem State.modBank_jtag (s : State) (b : Nat) (f : Bank → Bank) : (s.modBank b f).jtag = s.jtag := rfl
@[simp] theorem State.modBank_ans (s : State) (b : Nat) (f : Bank → Bank) : (s.modBank b f).ans = s.ans := rfl
@[simp] theorem State.modBank_freeCtr (s : State) (b : Nat) (f : Bank → Bank) : (s.modBank b f).freeCtr = s.freeCtr := rfl
@[simp] theorem State.modBank_pending (s : State) (b : Nat) (f : Bank → Bank) : (s.modBank b f).pending = s.pending := rfl

/-! modChan -/

@[simp] theorem State.modChan_part (s : State) (n : Nat) (f : Chan → Chan) : (s.modChan n f).part = s.part := rfl
@[simp] theorem State.modChan_clk (s : State) (n : Nat) (f : Chan → Chan) : (s.modChan n f).clk = s.clk := rfl
@[simp] theorem State.modChan_regs (s : State) (n : Nat) (f : Chan → Chan) : (s.modChan n f).regs = s.regs := rfl
@[simp] theorem State.modChan_sys (s : State) (n : Nat) (f : Chan → Chan) : (s.modChan n f).sys = s.sys := rfl
@[simp] theorem State.modChan_hif (s : State) (n : Nat) (f : Chan → Chan) : (s.modChan n f).hif = s.hif := rfl
@[simp] theorem State.modChan_evc (s : State) (n : Nat) (f : Chan → Chan) : (s.modChan n f).evc = s.evc := rfl
@[simp] theorem State.modChan_sec (s : State) (n : Nat) (f : Chan → Chan) : (s.modChan n f).sec = s.sec := rfl
@[simp] theorem State.modChan_whl (s : State) (n : Nat) (f : Chan → Chan) : (s.modChan n f).whl = s.whl := rfl
@[simp] theorem State.modChan_ang (s : State) (n : Nat) (f : Chan → Chan) : (s.modChan n f).ang = s.ang := rfl
@[simp] theorem State.modChan_banks (s : State) (n : Nat) (f : Chan → Chan) : (s.modChan n f).banks = s.banks := rfl
@[simp] theorem State.modChan_quads (s : State) (n : Nat) (f : Chan → Chan) : (s.modChan n f).quads = s.quads := rfl
@[simp] theorem State.modChan_edges (s : State) (n : Nat) (f : Chan → Chan) : (s.modChan n f).edges = s.edges := rfl
@[simp] theorem State.modChan_ink (s : State) (n : Nat) (f : Chan → Chan) : (s.modChan n f).ink = s.ink := rfl
@[simp] theorem State.modChan_grds (s : State) (n : Nat) (f : Chan → Chan) : (s.modChan n f).grds = s.grds := rfl
@[simp] theorem State.modChan_adc (s : State) (n : Nat) (f : Chan → Chan) : (s.modChan n f).adc = s.adc := rfl
@[simp] theorem State.modChan_cmps (s : State) (n : Nat) (f : Chan → Chan) : (s.modChan n f).cmps = s.cmps := rfl
@[simp] theorem State.modChan_tmrs (s : State) (n : Nat) (f : Chan → Chan) : (s.modChan n f).tmrs = s.tmrs := rfl
@[simp] theorem State.modChan_nibs (s : State) (n : Nat) (f : Chan → Chan) : (s.modChan n f).nibs = s.nibs := rfl
@[simp] theorem State.modChan_tst (s : State) (n : Nat) (f : Chan → Chan) : (s.modChan n f).tst = s.tst := rfl
@[simp] theorem State.modChan_slur (s : State) (n : Nat) (f : Chan → Chan) : (s.modChan n f).slur = s.slur := rfl
@[simp] theorem State.modChan_jtag (s : State) (n : Nat) (f : Chan → Chan) : (s.modChan n f).jtag = s.jtag := rfl
@[simp] theorem State.modChan_ans (s : State) (n : Nat) (f : Chan → Chan) : (s.modChan n f).ans = s.ans := rfl
@[simp] theorem State.modChan_freeCtr (s : State) (n : Nat) (f : Chan → Chan) : (s.modChan n f).freeCtr = s.freeCtr := rfl
@[simp] theorem State.modChan_pending (s : State) (n : Nat) (f : Chan → Chan) : (s.modChan n f).pending = s.pending := rfl

/-! modQuad -/

@[simp] theorem State.modQuad_part (s : State) (q : Nat) (f : Quad → Quad) : (s.modQuad q f).part = s.part := rfl
@[simp] theorem State.modQuad_clk (s : State) (q : Nat) (f : Quad → Quad) : (s.modQuad q f).clk = s.clk := rfl
@[simp] theorem State.modQuad_regs (s : State) (q : Nat) (f : Quad → Quad) : (s.modQuad q f).regs = s.regs := rfl
@[simp] theorem State.modQuad_sys (s : State) (q : Nat) (f : Quad → Quad) : (s.modQuad q f).sys = s.sys := rfl
@[simp] theorem State.modQuad_hif (s : State) (q : Nat) (f : Quad → Quad) : (s.modQuad q f).hif = s.hif := rfl
@[simp] theorem State.modQuad_evc (s : State) (q : Nat) (f : Quad → Quad) : (s.modQuad q f).evc = s.evc := rfl
@[simp] theorem State.modQuad_sec (s : State) (q : Nat) (f : Quad → Quad) : (s.modQuad q f).sec = s.sec := rfl
@[simp] theorem State.modQuad_whl (s : State) (q : Nat) (f : Quad → Quad) : (s.modQuad q f).whl = s.whl := rfl
@[simp] theorem State.modQuad_ang (s : State) (q : Nat) (f : Quad → Quad) : (s.modQuad q f).ang = s.ang := rfl
@[simp] theorem State.modQuad_sch (s : State) (q : Nat) (f : Quad → Quad) : (s.modQuad q f).sch = s.sch := rfl
@[simp] theorem State.modQuad_banks (s : State) (q : Nat) (f : Quad → Quad) : (s.modQuad q f).banks = s.banks := rfl
@[simp] theorem State.modQuad_edges (s : State) (q : Nat) (f : Quad → Quad) : (s.modQuad q f).edges = s.edges := rfl
@[simp] theorem State.modQuad_ink (s : State) (q : Nat) (f : Quad → Quad) : (s.modQuad q f).ink = s.ink := rfl
@[simp] theorem State.modQuad_grds (s : State) (q : Nat) (f : Quad → Quad) : (s.modQuad q f).grds = s.grds := rfl
@[simp] theorem State.modQuad_adc (s : State) (q : Nat) (f : Quad → Quad) : (s.modQuad q f).adc = s.adc := rfl
@[simp] theorem State.modQuad_cmps (s : State) (q : Nat) (f : Quad → Quad) : (s.modQuad q f).cmps = s.cmps := rfl
@[simp] theorem State.modQuad_tmrs (s : State) (q : Nat) (f : Quad → Quad) : (s.modQuad q f).tmrs = s.tmrs := rfl
@[simp] theorem State.modQuad_nibs (s : State) (q : Nat) (f : Quad → Quad) : (s.modQuad q f).nibs = s.nibs := rfl
@[simp] theorem State.modQuad_tst (s : State) (q : Nat) (f : Quad → Quad) : (s.modQuad q f).tst = s.tst := rfl
@[simp] theorem State.modQuad_slur (s : State) (q : Nat) (f : Quad → Quad) : (s.modQuad q f).slur = s.slur := rfl
@[simp] theorem State.modQuad_jtag (s : State) (q : Nat) (f : Quad → Quad) : (s.modQuad q f).jtag = s.jtag := rfl
@[simp] theorem State.modQuad_ans (s : State) (q : Nat) (f : Quad → Quad) : (s.modQuad q f).ans = s.ans := rfl
@[simp] theorem State.modQuad_freeCtr (s : State) (q : Nat) (f : Quad → Quad) : (s.modQuad q f).freeCtr = s.freeCtr := rfl
@[simp] theorem State.modQuad_pending (s : State) (q : Nat) (f : Quad → Quad) : (s.modQuad q f).pending = s.pending := rfl

/-! modGrd -/

@[simp] theorem State.modGrd_part (s : State) (g : Nat) (f : Grd → Grd) : (s.modGrd g f).part = s.part := rfl
@[simp] theorem State.modGrd_clk (s : State) (g : Nat) (f : Grd → Grd) : (s.modGrd g f).clk = s.clk := rfl
@[simp] theorem State.modGrd_regs (s : State) (g : Nat) (f : Grd → Grd) : (s.modGrd g f).regs = s.regs := rfl
@[simp] theorem State.modGrd_sys (s : State) (g : Nat) (f : Grd → Grd) : (s.modGrd g f).sys = s.sys := rfl
@[simp] theorem State.modGrd_hif (s : State) (g : Nat) (f : Grd → Grd) : (s.modGrd g f).hif = s.hif := rfl
@[simp] theorem State.modGrd_evc (s : State) (g : Nat) (f : Grd → Grd) : (s.modGrd g f).evc = s.evc := rfl
@[simp] theorem State.modGrd_sec (s : State) (g : Nat) (f : Grd → Grd) : (s.modGrd g f).sec = s.sec := rfl
@[simp] theorem State.modGrd_whl (s : State) (g : Nat) (f : Grd → Grd) : (s.modGrd g f).whl = s.whl := rfl
@[simp] theorem State.modGrd_ang (s : State) (g : Nat) (f : Grd → Grd) : (s.modGrd g f).ang = s.ang := rfl
@[simp] theorem State.modGrd_sch (s : State) (g : Nat) (f : Grd → Grd) : (s.modGrd g f).sch = s.sch := rfl
@[simp] theorem State.modGrd_banks (s : State) (g : Nat) (f : Grd → Grd) : (s.modGrd g f).banks = s.banks := rfl
@[simp] theorem State.modGrd_quads (s : State) (g : Nat) (f : Grd → Grd) : (s.modGrd g f).quads = s.quads := rfl
@[simp] theorem State.modGrd_edges (s : State) (g : Nat) (f : Grd → Grd) : (s.modGrd g f).edges = s.edges := rfl
@[simp] theorem State.modGrd_ink (s : State) (g : Nat) (f : Grd → Grd) : (s.modGrd g f).ink = s.ink := rfl
@[simp] theorem State.modGrd_adc (s : State) (g : Nat) (f : Grd → Grd) : (s.modGrd g f).adc = s.adc := rfl
@[simp] theorem State.modGrd_cmps (s : State) (g : Nat) (f : Grd → Grd) : (s.modGrd g f).cmps = s.cmps := rfl
@[simp] theorem State.modGrd_tmrs (s : State) (g : Nat) (f : Grd → Grd) : (s.modGrd g f).tmrs = s.tmrs := rfl
@[simp] theorem State.modGrd_nibs (s : State) (g : Nat) (f : Grd → Grd) : (s.modGrd g f).nibs = s.nibs := rfl
@[simp] theorem State.modGrd_tst (s : State) (g : Nat) (f : Grd → Grd) : (s.modGrd g f).tst = s.tst := rfl
@[simp] theorem State.modGrd_slur (s : State) (g : Nat) (f : Grd → Grd) : (s.modGrd g f).slur = s.slur := rfl
@[simp] theorem State.modGrd_jtag (s : State) (g : Nat) (f : Grd → Grd) : (s.modGrd g f).jtag = s.jtag := rfl
@[simp] theorem State.modGrd_ans (s : State) (g : Nat) (f : Grd → Grd) : (s.modGrd g f).ans = s.ans := rfl
@[simp] theorem State.modGrd_freeCtr (s : State) (g : Nat) (f : Grd → Grd) : (s.modGrd g f).freeCtr = s.freeCtr := rfl
@[simp] theorem State.modGrd_pending (s : State) (g : Nat) (f : Grd → Grd) : (s.modGrd g f).pending = s.pending := rfl

/-! modTmr -/

@[simp] theorem State.modTmr_part (s : State) (n : Nat) (f : Tmr → Tmr) : (s.modTmr n f).part = s.part := rfl
@[simp] theorem State.modTmr_clk (s : State) (n : Nat) (f : Tmr → Tmr) : (s.modTmr n f).clk = s.clk := rfl
@[simp] theorem State.modTmr_regs (s : State) (n : Nat) (f : Tmr → Tmr) : (s.modTmr n f).regs = s.regs := rfl
@[simp] theorem State.modTmr_sys (s : State) (n : Nat) (f : Tmr → Tmr) : (s.modTmr n f).sys = s.sys := rfl
@[simp] theorem State.modTmr_hif (s : State) (n : Nat) (f : Tmr → Tmr) : (s.modTmr n f).hif = s.hif := rfl
@[simp] theorem State.modTmr_evc (s : State) (n : Nat) (f : Tmr → Tmr) : (s.modTmr n f).evc = s.evc := rfl
@[simp] theorem State.modTmr_sec (s : State) (n : Nat) (f : Tmr → Tmr) : (s.modTmr n f).sec = s.sec := rfl
@[simp] theorem State.modTmr_whl (s : State) (n : Nat) (f : Tmr → Tmr) : (s.modTmr n f).whl = s.whl := rfl
@[simp] theorem State.modTmr_ang (s : State) (n : Nat) (f : Tmr → Tmr) : (s.modTmr n f).ang = s.ang := rfl
@[simp] theorem State.modTmr_sch (s : State) (n : Nat) (f : Tmr → Tmr) : (s.modTmr n f).sch = s.sch := rfl
@[simp] theorem State.modTmr_banks (s : State) (n : Nat) (f : Tmr → Tmr) : (s.modTmr n f).banks = s.banks := rfl
@[simp] theorem State.modTmr_quads (s : State) (n : Nat) (f : Tmr → Tmr) : (s.modTmr n f).quads = s.quads := rfl
@[simp] theorem State.modTmr_edges (s : State) (n : Nat) (f : Tmr → Tmr) : (s.modTmr n f).edges = s.edges := rfl
@[simp] theorem State.modTmr_ink (s : State) (n : Nat) (f : Tmr → Tmr) : (s.modTmr n f).ink = s.ink := rfl
@[simp] theorem State.modTmr_grds (s : State) (n : Nat) (f : Tmr → Tmr) : (s.modTmr n f).grds = s.grds := rfl
@[simp] theorem State.modTmr_adc (s : State) (n : Nat) (f : Tmr → Tmr) : (s.modTmr n f).adc = s.adc := rfl
@[simp] theorem State.modTmr_cmps (s : State) (n : Nat) (f : Tmr → Tmr) : (s.modTmr n f).cmps = s.cmps := rfl
@[simp] theorem State.modTmr_nibs (s : State) (n : Nat) (f : Tmr → Tmr) : (s.modTmr n f).nibs = s.nibs := rfl
@[simp] theorem State.modTmr_tst (s : State) (n : Nat) (f : Tmr → Tmr) : (s.modTmr n f).tst = s.tst := rfl
@[simp] theorem State.modTmr_slur (s : State) (n : Nat) (f : Tmr → Tmr) : (s.modTmr n f).slur = s.slur := rfl
@[simp] theorem State.modTmr_jtag (s : State) (n : Nat) (f : Tmr → Tmr) : (s.modTmr n f).jtag = s.jtag := rfl
@[simp] theorem State.modTmr_ans (s : State) (n : Nat) (f : Tmr → Tmr) : (s.modTmr n f).ans = s.ans := rfl
@[simp] theorem State.modTmr_freeCtr (s : State) (n : Nat) (f : Tmr → Tmr) : (s.modTmr n f).freeCtr = s.freeCtr := rfl
@[simp] theorem State.modTmr_pending (s : State) (n : Nat) (f : Tmr → Tmr) : (s.modTmr n f).pending = s.pending := rfl

/-! modNib -/

@[simp] theorem State.modNib_part (s : State) (n : Nat) (f : Nib → Nib) : (s.modNib n f).part = s.part := rfl
@[simp] theorem State.modNib_clk (s : State) (n : Nat) (f : Nib → Nib) : (s.modNib n f).clk = s.clk := rfl
@[simp] theorem State.modNib_regs (s : State) (n : Nat) (f : Nib → Nib) : (s.modNib n f).regs = s.regs := rfl
@[simp] theorem State.modNib_sys (s : State) (n : Nat) (f : Nib → Nib) : (s.modNib n f).sys = s.sys := rfl
@[simp] theorem State.modNib_hif (s : State) (n : Nat) (f : Nib → Nib) : (s.modNib n f).hif = s.hif := rfl
@[simp] theorem State.modNib_evc (s : State) (n : Nat) (f : Nib → Nib) : (s.modNib n f).evc = s.evc := rfl
@[simp] theorem State.modNib_sec (s : State) (n : Nat) (f : Nib → Nib) : (s.modNib n f).sec = s.sec := rfl
@[simp] theorem State.modNib_whl (s : State) (n : Nat) (f : Nib → Nib) : (s.modNib n f).whl = s.whl := rfl
@[simp] theorem State.modNib_ang (s : State) (n : Nat) (f : Nib → Nib) : (s.modNib n f).ang = s.ang := rfl
@[simp] theorem State.modNib_sch (s : State) (n : Nat) (f : Nib → Nib) : (s.modNib n f).sch = s.sch := rfl
@[simp] theorem State.modNib_banks (s : State) (n : Nat) (f : Nib → Nib) : (s.modNib n f).banks = s.banks := rfl
@[simp] theorem State.modNib_quads (s : State) (n : Nat) (f : Nib → Nib) : (s.modNib n f).quads = s.quads := rfl
@[simp] theorem State.modNib_edges (s : State) (n : Nat) (f : Nib → Nib) : (s.modNib n f).edges = s.edges := rfl
@[simp] theorem State.modNib_ink (s : State) (n : Nat) (f : Nib → Nib) : (s.modNib n f).ink = s.ink := rfl
@[simp] theorem State.modNib_grds (s : State) (n : Nat) (f : Nib → Nib) : (s.modNib n f).grds = s.grds := rfl
@[simp] theorem State.modNib_adc (s : State) (n : Nat) (f : Nib → Nib) : (s.modNib n f).adc = s.adc := rfl
@[simp] theorem State.modNib_cmps (s : State) (n : Nat) (f : Nib → Nib) : (s.modNib n f).cmps = s.cmps := rfl
@[simp] theorem State.modNib_tmrs (s : State) (n : Nat) (f : Nib → Nib) : (s.modNib n f).tmrs = s.tmrs := rfl
@[simp] theorem State.modNib_tst (s : State) (n : Nat) (f : Nib → Nib) : (s.modNib n f).tst = s.tst := rfl
@[simp] theorem State.modNib_slur (s : State) (n : Nat) (f : Nib → Nib) : (s.modNib n f).slur = s.slur := rfl
@[simp] theorem State.modNib_jtag (s : State) (n : Nat) (f : Nib → Nib) : (s.modNib n f).jtag = s.jtag := rfl
@[simp] theorem State.modNib_ans (s : State) (n : Nat) (f : Nib → Nib) : (s.modNib n f).ans = s.ans := rfl
@[simp] theorem State.modNib_freeCtr (s : State) (n : Nat) (f : Nib → Nib) : (s.modNib n f).freeCtr = s.freeCtr := rfl
@[simp] theorem State.modNib_pending (s : State) (n : Nat) (f : Nib → Nib) : (s.modNib n f).pending = s.pending := rfl

/-! modRing -/

@[simp] theorem State.modRing_part (s : State) (r : Nat) (f : Ring → Ring) : (s.modRing r f).part = s.part := rfl
@[simp] theorem State.modRing_clk (s : State) (r : Nat) (f : Ring → Ring) : (s.modRing r f).clk = s.clk := rfl
@[simp] theorem State.modRing_regs (s : State) (r : Nat) (f : Ring → Ring) : (s.modRing r f).regs = s.regs := rfl
@[simp] theorem State.modRing_sys (s : State) (r : Nat) (f : Ring → Ring) : (s.modRing r f).sys = s.sys := rfl
@[simp] theorem State.modRing_evc (s : State) (r : Nat) (f : Ring → Ring) : (s.modRing r f).evc = s.evc := rfl
@[simp] theorem State.modRing_sec (s : State) (r : Nat) (f : Ring → Ring) : (s.modRing r f).sec = s.sec := rfl
@[simp] theorem State.modRing_whl (s : State) (r : Nat) (f : Ring → Ring) : (s.modRing r f).whl = s.whl := rfl
@[simp] theorem State.modRing_ang (s : State) (r : Nat) (f : Ring → Ring) : (s.modRing r f).ang = s.ang := rfl
@[simp] theorem State.modRing_sch (s : State) (r : Nat) (f : Ring → Ring) : (s.modRing r f).sch = s.sch := rfl
@[simp] theorem State.modRing_banks (s : State) (r : Nat) (f : Ring → Ring) : (s.modRing r f).banks = s.banks := rfl
@[simp] theorem State.modRing_quads (s : State) (r : Nat) (f : Ring → Ring) : (s.modRing r f).quads = s.quads := rfl
@[simp] theorem State.modRing_edges (s : State) (r : Nat) (f : Ring → Ring) : (s.modRing r f).edges = s.edges := rfl
@[simp] theorem State.modRing_ink (s : State) (r : Nat) (f : Ring → Ring) : (s.modRing r f).ink = s.ink := rfl
@[simp] theorem State.modRing_grds (s : State) (r : Nat) (f : Ring → Ring) : (s.modRing r f).grds = s.grds := rfl
@[simp] theorem State.modRing_adc (s : State) (r : Nat) (f : Ring → Ring) : (s.modRing r f).adc = s.adc := rfl
@[simp] theorem State.modRing_cmps (s : State) (r : Nat) (f : Ring → Ring) : (s.modRing r f).cmps = s.cmps := rfl
@[simp] theorem State.modRing_tmrs (s : State) (r : Nat) (f : Ring → Ring) : (s.modRing r f).tmrs = s.tmrs := rfl
@[simp] theorem State.modRing_nibs (s : State) (r : Nat) (f : Ring → Ring) : (s.modRing r f).nibs = s.nibs := rfl
@[simp] theorem State.modRing_tst (s : State) (r : Nat) (f : Ring → Ring) : (s.modRing r f).tst = s.tst := rfl
@[simp] theorem State.modRing_slur (s : State) (r : Nat) (f : Ring → Ring) : (s.modRing r f).slur = s.slur := rfl
@[simp] theorem State.modRing_jtag (s : State) (r : Nat) (f : Ring → Ring) : (s.modRing r f).jtag = s.jtag := rfl
@[simp] theorem State.modRing_ans (s : State) (r : Nat) (f : Ring → Ring) : (s.modRing r f).ans = s.ans := rfl
@[simp] theorem State.modRing_freeCtr (s : State) (r : Nat) (f : Ring → Ring) : (s.modRing r f).freeCtr = s.freeCtr := rfl
@[simp] theorem State.modRing_pending (s : State) (r : Nat) (f : Ring → Ring) : (s.modRing r f).pending = s.pending := rfl

/-! modThread -/

@[simp] theorem State.modThread_part (s : State) (b t : Nat) (f : Thread → Thread) : (s.modThread b t f).part = s.part := rfl
@[simp] theorem State.modThread_clk (s : State) (b t : Nat) (f : Thread → Thread) : (s.modThread b t f).clk = s.clk := rfl
@[simp] theorem State.modThread_regs (s : State) (b t : Nat) (f : Thread → Thread) : (s.modThread b t f).regs = s.regs := rfl
@[simp] theorem State.modThread_sys (s : State) (b t : Nat) (f : Thread → Thread) : (s.modThread b t f).sys = s.sys := rfl
@[simp] theorem State.modThread_hif (s : State) (b t : Nat) (f : Thread → Thread) : (s.modThread b t f).hif = s.hif := rfl
@[simp] theorem State.modThread_evc (s : State) (b t : Nat) (f : Thread → Thread) : (s.modThread b t f).evc = s.evc := rfl
@[simp] theorem State.modThread_sec (s : State) (b t : Nat) (f : Thread → Thread) : (s.modThread b t f).sec = s.sec := rfl
@[simp] theorem State.modThread_whl (s : State) (b t : Nat) (f : Thread → Thread) : (s.modThread b t f).whl = s.whl := rfl
@[simp] theorem State.modThread_ang (s : State) (b t : Nat) (f : Thread → Thread) : (s.modThread b t f).ang = s.ang := rfl
@[simp] theorem State.modThread_sch (s : State) (b t : Nat) (f : Thread → Thread) : (s.modThread b t f).sch = s.sch := rfl
@[simp] theorem State.modThread_quads (s : State) (b t : Nat) (f : Thread → Thread) : (s.modThread b t f).quads = s.quads := rfl
@[simp] theorem State.modThread_edges (s : State) (b t : Nat) (f : Thread → Thread) : (s.modThread b t f).edges = s.edges := rfl
@[simp] theorem State.modThread_ink (s : State) (b t : Nat) (f : Thread → Thread) : (s.modThread b t f).ink = s.ink := rfl
@[simp] theorem State.modThread_grds (s : State) (b t : Nat) (f : Thread → Thread) : (s.modThread b t f).grds = s.grds := rfl
@[simp] theorem State.modThread_adc (s : State) (b t : Nat) (f : Thread → Thread) : (s.modThread b t f).adc = s.adc := rfl
@[simp] theorem State.modThread_cmps (s : State) (b t : Nat) (f : Thread → Thread) : (s.modThread b t f).cmps = s.cmps := rfl
@[simp] theorem State.modThread_tmrs (s : State) (b t : Nat) (f : Thread → Thread) : (s.modThread b t f).tmrs = s.tmrs := rfl
@[simp] theorem State.modThread_nibs (s : State) (b t : Nat) (f : Thread → Thread) : (s.modThread b t f).nibs = s.nibs := rfl
@[simp] theorem State.modThread_tst (s : State) (b t : Nat) (f : Thread → Thread) : (s.modThread b t f).tst = s.tst := rfl
@[simp] theorem State.modThread_slur (s : State) (b t : Nat) (f : Thread → Thread) : (s.modThread b t f).slur = s.slur := rfl
@[simp] theorem State.modThread_jtag (s : State) (b t : Nat) (f : Thread → Thread) : (s.modThread b t f).jtag = s.jtag := rfl
@[simp] theorem State.modThread_ans (s : State) (b t : Nat) (f : Thread → Thread) : (s.modThread b t f).ans = s.ans := rfl
@[simp] theorem State.modThread_freeCtr (s : State) (b t : Nat) (f : Thread → Thread) : (s.modThread b t f).freeCtr = s.freeCtr := rfl
@[simp] theorem State.modThread_pending (s : State) (b t : Nat) (f : Thread → Thread) : (s.modThread b t f).pending = s.pending := rfl

/-! modEvent -/

@[simp] theorem State.modEvent_part (s : State) (id : Nat) (f : Event → Event) : (s.modEvent id f).part = s.part := rfl
@[simp] theorem State.modEvent_clk (s : State) (id : Nat) (f : Event → Event) : (s.modEvent id f).clk = s.clk := rfl
@[simp] theorem State.modEvent_regs (s : State) (id : Nat) (f : Event → Event) : (s.modEvent id f).regs = s.regs := rfl
@[simp] theorem State.modEvent_sys (s : State) (id : Nat) (f : Event → Event) : (s.modEvent id f).sys = s.sys := rfl
@[simp] theorem State.modEvent_hif (s : State) (id : Nat) (f : Event → Event) : (s.modEvent id f).hif = s.hif := rfl
@[simp] theorem State.modEvent_evc (s : State) (id : Nat) (f : Event → Event) : (s.modEvent id f).evc = s.evc := rfl
@[simp] theorem State.modEvent_sec (s : State) (id : Nat) (f : Event → Event) : (s.modEvent id f).sec = s.sec := rfl
@[simp] theorem State.modEvent_whl (s : State) (id : Nat) (f : Event → Event) : (s.modEvent id f).whl = s.whl := rfl
@[simp] theorem State.modEvent_ang (s : State) (id : Nat) (f : Event → Event) : (s.modEvent id f).ang = s.ang := rfl
@[simp] theorem State.modEvent_banks (s : State) (id : Nat) (f : Event → Event) : (s.modEvent id f).banks = s.banks := rfl
@[simp] theorem State.modEvent_quads (s : State) (id : Nat) (f : Event → Event) : (s.modEvent id f).quads = s.quads := rfl
@[simp] theorem State.modEvent_edges (s : State) (id : Nat) (f : Event → Event) : (s.modEvent id f).edges = s.edges := rfl
@[simp] theorem State.modEvent_ink (s : State) (id : Nat) (f : Event → Event) : (s.modEvent id f).ink = s.ink := rfl
@[simp] theorem State.modEvent_grds (s : State) (id : Nat) (f : Event → Event) : (s.modEvent id f).grds = s.grds := rfl
@[simp] theorem State.modEvent_adc (s : State) (id : Nat) (f : Event → Event) : (s.modEvent id f).adc = s.adc := rfl
@[simp] theorem State.modEvent_cmps (s : State) (id : Nat) (f : Event → Event) : (s.modEvent id f).cmps = s.cmps := rfl
@[simp] theorem State.modEvent_tmrs (s : State) (id : Nat) (f : Event → Event) : (s.modEvent id f).tmrs = s.tmrs := rfl
@[simp] theorem State.modEvent_nibs (s : State) (id : Nat) (f : Event → Event) : (s.modEvent id f).nibs = s.nibs := rfl
@[simp] theorem State.modEvent_tst (s : State) (id : Nat) (f : Event → Event) : (s.modEvent id f).tst = s.tst := rfl
@[simp] theorem State.modEvent_slur (s : State) (id : Nat) (f : Event → Event) : (s.modEvent id f).slur = s.slur := rfl
@[simp] theorem State.modEvent_jtag (s : State) (id : Nat) (f : Event → Event) : (s.modEvent id f).jtag = s.jtag := rfl
@[simp] theorem State.modEvent_ans (s : State) (id : Nat) (f : Event → Event) : (s.modEvent id f).ans = s.ans := rfl
@[simp] theorem State.modEvent_freeCtr (s : State) (id : Nat) (f : Event → Event) : (s.modEvent id f).freeCtr = s.freeCtr := rfl
@[simp] theorem State.modEvent_pending (s : State) (id : Nat) (f : Event → Event) : (s.modEvent id f).pending = s.pending := rfl

/-! modStore -/

@[simp] theorem State.modStore_part (s : State) (f : Event → Event) : (s.modStore f).part = s.part := rfl
@[simp] theorem State.modStore_clk (s : State) (f : Event → Event) : (s.modStore f).clk = s.clk := rfl
@[simp] theorem State.modStore_regs (s : State) (f : Event → Event) : (s.modStore f).regs = s.regs := rfl
@[simp] theorem State.modStore_sys (s : State) (f : Event → Event) : (s.modStore f).sys = s.sys := rfl
@[simp] theorem State.modStore_hif (s : State) (f : Event → Event) : (s.modStore f).hif = s.hif := rfl
@[simp] theorem State.modStore_evc (s : State) (f : Event → Event) : (s.modStore f).evc = s.evc := rfl
@[simp] theorem State.modStore_sec (s : State) (f : Event → Event) : (s.modStore f).sec = s.sec := rfl
@[simp] theorem State.modStore_whl (s : State) (f : Event → Event) : (s.modStore f).whl = s.whl := rfl
@[simp] theorem State.modStore_ang (s : State) (f : Event → Event) : (s.modStore f).ang = s.ang := rfl
@[simp] theorem State.modStore_banks (s : State) (f : Event → Event) : (s.modStore f).banks = s.banks := rfl
@[simp] theorem State.modStore_quads (s : State) (f : Event → Event) : (s.modStore f).quads = s.quads := rfl
@[simp] theorem State.modStore_edges (s : State) (f : Event → Event) : (s.modStore f).edges = s.edges := rfl
@[simp] theorem State.modStore_ink (s : State) (f : Event → Event) : (s.modStore f).ink = s.ink := rfl
@[simp] theorem State.modStore_grds (s : State) (f : Event → Event) : (s.modStore f).grds = s.grds := rfl
@[simp] theorem State.modStore_adc (s : State) (f : Event → Event) : (s.modStore f).adc = s.adc := rfl
@[simp] theorem State.modStore_cmps (s : State) (f : Event → Event) : (s.modStore f).cmps = s.cmps := rfl
@[simp] theorem State.modStore_tmrs (s : State) (f : Event → Event) : (s.modStore f).tmrs = s.tmrs := rfl
@[simp] theorem State.modStore_nibs (s : State) (f : Event → Event) : (s.modStore f).nibs = s.nibs := rfl
@[simp] theorem State.modStore_tst (s : State) (f : Event → Event) : (s.modStore f).tst = s.tst := rfl
@[simp] theorem State.modStore_slur (s : State) (f : Event → Event) : (s.modStore f).slur = s.slur := rfl
@[simp] theorem State.modStore_jtag (s : State) (f : Event → Event) : (s.modStore f).jtag = s.jtag := rfl
@[simp] theorem State.modStore_ans (s : State) (f : Event → Event) : (s.modStore f).ans = s.ans := rfl
@[simp] theorem State.modStore_freeCtr (s : State) (f : Event → Event) : (s.modStore f).freeCtr = s.freeCtr := rfl
@[simp] theorem State.modStore_pending (s : State) (f : Event → Event) : (s.modStore f).pending = s.pending := rfl

/-! dropEvent -/

@[simp] theorem State.dropEvent_part (s : State) (id : Nat) : (s.dropEvent id).part = s.part := rfl
@[simp] theorem State.dropEvent_clk (s : State) (id : Nat) : (s.dropEvent id).clk = s.clk := rfl
@[simp] theorem State.dropEvent_regs (s : State) (id : Nat) : (s.dropEvent id).regs = s.regs := rfl
@[simp] theorem State.dropEvent_sys (s : State) (id : Nat) : (s.dropEvent id).sys = s.sys := rfl
@[simp] theorem State.dropEvent_hif (s : State) (id : Nat) : (s.dropEvent id).hif = s.hif := rfl
@[simp] theorem State.dropEvent_evc (s : State) (id : Nat) : (s.dropEvent id).evc = s.evc := rfl
@[simp] theorem State.dropEvent_sec (s : State) (id : Nat) : (s.dropEvent id).sec = s.sec := rfl
@[simp] theorem State.dropEvent_whl (s : State) (id : Nat) : (s.dropEvent id).whl = s.whl := rfl
@[simp] theorem State.dropEvent_ang (s : State) (id : Nat) : (s.dropEvent id).ang = s.ang := rfl
@[simp] theorem State.dropEvent_quads (s : State) (id : Nat) : (s.dropEvent id).quads = s.quads := rfl
@[simp] theorem State.dropEvent_edges (s : State) (id : Nat) : (s.dropEvent id).edges = s.edges := rfl
@[simp] theorem State.dropEvent_ink (s : State) (id : Nat) : (s.dropEvent id).ink = s.ink := rfl
@[simp] theorem State.dropEvent_grds (s : State) (id : Nat) : (s.dropEvent id).grds = s.grds := rfl
@[simp] theorem State.dropEvent_adc (s : State) (id : Nat) : (s.dropEvent id).adc = s.adc := rfl
@[simp] theorem State.dropEvent_cmps (s : State) (id : Nat) : (s.dropEvent id).cmps = s.cmps := rfl
@[simp] theorem State.dropEvent_tmrs (s : State) (id : Nat) : (s.dropEvent id).tmrs = s.tmrs := rfl
@[simp] theorem State.dropEvent_nibs (s : State) (id : Nat) : (s.dropEvent id).nibs = s.nibs := rfl
@[simp] theorem State.dropEvent_tst (s : State) (id : Nat) : (s.dropEvent id).tst = s.tst := rfl
@[simp] theorem State.dropEvent_slur (s : State) (id : Nat) : (s.dropEvent id).slur = s.slur := rfl
@[simp] theorem State.dropEvent_jtag (s : State) (id : Nat) : (s.dropEvent id).jtag = s.jtag := rfl
@[simp] theorem State.dropEvent_ans (s : State) (id : Nat) : (s.dropEvent id).ans = s.ans := rfl
@[simp] theorem State.dropEvent_freeCtr (s : State) (id : Nat) : (s.dropEvent id).freeCtr = s.freeCtr := rfl
@[simp] theorem State.dropEvent_pending (s : State) (id : Nat) : (s.dropEvent id).pending = s.pending := rfl

/-! pushResult -/

@[simp] theorem State.pushResult_part (s : State) (cq : Nat) (ws : List Word) : (s.pushResult cq ws).part = s.part := rfl
@[simp] theorem State.pushResult_clk (s : State) (cq : Nat) (ws : List Word) : (s.pushResult cq ws).clk = s.clk := rfl
@[simp] theorem State.pushResult_regs (s : State) (cq : Nat) (ws : List Word) : (s.pushResult cq ws).regs = s.regs := rfl
@[simp] theorem State.pushResult_sys (s : State) (cq : Nat) (ws : List Word) : (s.pushResult cq ws).sys = s.sys := rfl
@[simp] theorem State.pushResult_evc (s : State) (cq : Nat) (ws : List Word) : (s.pushResult cq ws).evc = s.evc := rfl
@[simp] theorem State.pushResult_sec (s : State) (cq : Nat) (ws : List Word) : (s.pushResult cq ws).sec = s.sec := rfl
@[simp] theorem State.pushResult_whl (s : State) (cq : Nat) (ws : List Word) : (s.pushResult cq ws).whl = s.whl := rfl
@[simp] theorem State.pushResult_ang (s : State) (cq : Nat) (ws : List Word) : (s.pushResult cq ws).ang = s.ang := rfl
@[simp] theorem State.pushResult_sch (s : State) (cq : Nat) (ws : List Word) : (s.pushResult cq ws).sch = s.sch := rfl
@[simp] theorem State.pushResult_banks (s : State) (cq : Nat) (ws : List Word) : (s.pushResult cq ws).banks = s.banks := rfl
@[simp] theorem State.pushResult_quads (s : State) (cq : Nat) (ws : List Word) : (s.pushResult cq ws).quads = s.quads := rfl
@[simp] theorem State.pushResult_edges (s : State) (cq : Nat) (ws : List Word) : (s.pushResult cq ws).edges = s.edges := rfl
@[simp] theorem State.pushResult_ink (s : State) (cq : Nat) (ws : List Word) : (s.pushResult cq ws).ink = s.ink := rfl
@[simp] theorem State.pushResult_grds (s : State) (cq : Nat) (ws : List Word) : (s.pushResult cq ws).grds = s.grds := rfl
@[simp] theorem State.pushResult_adc (s : State) (cq : Nat) (ws : List Word) : (s.pushResult cq ws).adc = s.adc := rfl
@[simp] theorem State.pushResult_cmps (s : State) (cq : Nat) (ws : List Word) : (s.pushResult cq ws).cmps = s.cmps := rfl
@[simp] theorem State.pushResult_tmrs (s : State) (cq : Nat) (ws : List Word) : (s.pushResult cq ws).tmrs = s.tmrs := rfl
@[simp] theorem State.pushResult_nibs (s : State) (cq : Nat) (ws : List Word) : (s.pushResult cq ws).nibs = s.nibs := rfl
@[simp] theorem State.pushResult_tst (s : State) (cq : Nat) (ws : List Word) : (s.pushResult cq ws).tst = s.tst := rfl
@[simp] theorem State.pushResult_slur (s : State) (cq : Nat) (ws : List Word) : (s.pushResult cq ws).slur = s.slur := rfl
@[simp] theorem State.pushResult_jtag (s : State) (cq : Nat) (ws : List Word) : (s.pushResult cq ws).jtag = s.jtag := rfl
@[simp] theorem State.pushResult_ans (s : State) (cq : Nat) (ws : List Word) : (s.pushResult cq ws).ans = s.ans := rfl
@[simp] theorem State.pushResult_freeCtr (s : State) (cq : Nat) (ws : List Word) : (s.pushResult cq ws).freeCtr = s.freeCtr := rfl
@[simp] theorem State.pushResult_pending (s : State) (cq : Nat) (ws : List Word) : (s.pushResult cq ws).pending = s.pending := rfl

/-! answer -/

@[simp] theorem State.answer_part (s : State) (v : Nat) : (s.answer v).part = s.part := rfl
@[simp] theorem State.answer_clk (s : State) (v : Nat) : (s.answer v).clk = s.clk := rfl
@[simp] theorem State.answer_regs (s : State) (v : Nat) : (s.answer v).regs = s.regs := rfl
@[simp] theorem State.answer_sys (s : State) (v : Nat) : (s.answer v).sys = s.sys := rfl
@[simp] theorem State.answer_hif (s : State) (v : Nat) : (s.answer v).hif = s.hif := rfl
@[simp] theorem State.answer_evc (s : State) (v : Nat) : (s.answer v).evc = s.evc := rfl
@[simp] theorem State.answer_sec (s : State) (v : Nat) : (s.answer v).sec = s.sec := rfl
@[simp] theorem State.answer_whl (s : State) (v : Nat) : (s.answer v).whl = s.whl := rfl
@[simp] theorem State.answer_ang (s : State) (v : Nat) : (s.answer v).ang = s.ang := rfl
@[simp] theorem State.answer_sch (s : State) (v : Nat) : (s.answer v).sch = s.sch := rfl
@[simp] theorem State.answer_banks (s : State) (v : Nat) : (s.answer v).banks = s.banks := rfl
@[simp] theorem State.answer_quads (s : State) (v : Nat) : (s.answer v).quads = s.quads := rfl
@[simp] theorem State.answer_edges (s : State) (v : Nat) : (s.answer v).edges = s.edges := rfl
@[simp] theorem State.answer_ink (s : State) (v : Nat) : (s.answer v).ink = s.ink := rfl
@[simp] theorem State.answer_grds (s : State) (v : Nat) : (s.answer v).grds = s.grds := rfl
@[simp] theorem State.answer_adc (s : State) (v : Nat) : (s.answer v).adc = s.adc := rfl
@[simp] theorem State.answer_cmps (s : State) (v : Nat) : (s.answer v).cmps = s.cmps := rfl
@[simp] theorem State.answer_tmrs (s : State) (v : Nat) : (s.answer v).tmrs = s.tmrs := rfl
@[simp] theorem State.answer_nibs (s : State) (v : Nat) : (s.answer v).nibs = s.nibs := rfl
@[simp] theorem State.answer_tst (s : State) (v : Nat) : (s.answer v).tst = s.tst := rfl
@[simp] theorem State.answer_slur (s : State) (v : Nat) : (s.answer v).slur = s.slur := rfl
@[simp] theorem State.answer_jtag (s : State) (v : Nat) : (s.answer v).jtag = s.jtag := rfl
@[simp] theorem State.answer_freeCtr (s : State) (v : Nat) : (s.answer v).freeCtr = s.freeCtr := rfl
@[simp] theorem State.answer_pending (s : State) (v : Nat) : (s.answer v).pending = s.pending := rfl

theorem State.bank_modBank (s : State) (i j : Nat) (f : Bank → Bank) :
    (s.modBank i f).bank j = if i = j ∧ j < s.banks.length then f (s.bank j) else s.bank j := modAt_getD _ _ _ _ _
theorem State.quad_modQuad (s : State) (i j : Nat) (f : Quad → Quad) :
    (s.modQuad i f).quad j = if i = j ∧ j < s.quads.length then f (s.quad j) else s.quad j := modAt_getD _ _ _ _ _
theorem State.grd_modGrd (s : State) (i j : Nat) (f : Grd → Grd) :
    (s.modGrd i f).grd j = if i = j ∧ j < s.grds.length then f (s.grd j) else s.grd j := modAt_getD _ _ _ _ _
theorem State.tmr_modTmr (s : State) (i j : Nat) (f : Tmr → Tmr) :
    (s.modTmr i f).tmr j = if i = j ∧ j < s.tmrs.length then f (s.tmr j) else s.tmr j := modAt_getD _ _ _ _ _
theorem State.nib_modNib (s : State) (i j : Nat) (f : Nib → Nib) :
    (s.modNib i f).nib j = if i = j ∧ j < s.nibs.length then f (s.nib j) else s.nib j := modAt_getD _ _ _ _ _
theorem State.chan_modChan (s : State) (i j : Nat) (f : Chan → Chan) :
    (s.modChan i f).chan j = if i = j ∧ j < s.sch.chans.length then f (s.chan j) else s.chan j := modAt_getD _ _ _ _ _
theorem State.ring_modRing (s : State) (i j : Nat) (f : Ring → Ring) :
    (s.modRing i f).ring j = if i = j ∧ j < s.hif.rings.length then f (s.ring j) else s.ring j := modAt_getD _ _ _ _ _

end Sys2Proof.Machine
end

