-- ==== Sys2Proof/Tests/Slice0.lean ====
section
/-! SUPPORT. Tests: the ill-formed terms that WellFormed refuses, worked examples from the spec and from the standards it names,
and for each statement a state and operands that meet its hypotheses. -/



namespace Sys2Proof.Machine

set_option Elab.async false
set_option linter.unusedVariables false

/-! Each check of WellFormed refuses a term -/

theorem test_wf_refuses_units :
    [(.channelOcTrip 96 : Instr), .highSideOcTrip 24 true, .noteNop 0 2, .noteNop 24 0, .quadrantUngate 4, .soaUpdate 8,
      .calibrationDone 6 [], .timerZero 16, .nibRxRead .spi 8, .extLineEdge 8 true, .camEdge 4 true 0 0 0, .angleTrigger 8,
      .windowTimeClose 768, .groupReadyTime 16, .evcRelease .spi 4, .evcClaim .spi 0 64, .reedTimerZero 0 0 2, .msixUnmask 8,
      .dutyCapReached true 24, .dutyCapReached false 96, .tripLatchSeen (.bank 24), .comparatorCrossing (.vds 96) true,
      .wakeDecision (.trip 8), .reverseCurrentTrip ⟨8, 0⟩, .externalFault ⟨8, 3⟩].all (fun i => !i.wf) = true := by decide

theorem test_wf_refuses_numbers :
    [(.registerWrite .spi 0x40000 .bad : Instr), .readClear .spi 0x40000 .word, .ringDrained 19, .new 8 ⟨0, 0, 0, 0, 0, 0, 0, 0⟩,
      .resultWrite 16384, .guardianMeterSample 0 32768 0, .vigilVisit [-32769], .dmaFailure 19 1, .dmaFailure 0 5,
      .safestopCauseCleared 16, .fallbackAdmission 512, .jtagBypass 16, .mqUnknownOpcode 0 256,
      .registerWrite .pcie 0 (.control ⟨2, 2, false, false, false, false, false⟩), .dataLinkUp 5 1].all (fun i => !i.wf) = true := by decide

theorem test_wf_refuses_lists_and_frames :
    [(.doorbellReadDone ⟨[], 0⟩ : Instr), .doorbellReadDone ⟨List.replicate 19 65536, 0⟩, .stroke 0 [], .jtagSamplePreload [true] [],
      .angleFrameReceive ⟨32, 0, false, false, 0, 0, 0, 0, 0, 0, 0⟩, .angleFrameReceive ⟨0, 0, false, false, 0, 0, 0, 0, 0, 0, 256⟩,
      .trainingFrameReceive ⟨0, 4, 0, 0, 0, 0, 0, 0⟩ 0].all (fun i => !i.wf) = true := by decide

/-! Worked examples -/

/-- FIPS 197, appendix C.1. -/
theorem test_aes :
    aes (upTo 16) ((upTo 16).map (fun i => i * 17))
      = [0x69, 0xC4, 0xE0, 0xD8, 0x6A, 0x7B, 0x04, 0x30, 0xD8, 0xCD, 0xB7, 0x80, 0x70, 0xB4, 0xC5, 0x5A] := by decide +kernel

/-- SP 800-38B, the AES-128 example with an empty message. -/
theorem test_cmac :
    cmac (beBytes 16 0x2B7E151628AED2A6ABF7158809CF4F3C) [] = beBytes 16 0xBB1D6929E95937287FA37D129B756746 := by decide +kernel

/-- Chapter 11: 1,024 entries, head 1,020 and tail 5 hold 9 results. -/
theorem test_ring_held : ringHeld 1024 5 1020 = 9 := by decide

/-- Chapter 20: with the hold comparator of bank 14 failed, SYS_HEALTH3 reads 0x0F00_0000. -/
theorem test_health : (({ State.reset with tst := { Tst.initial with marks := [(18, 5)] } } : State).content 0x34) = 0x0F000000 := by
  decide +kernel

/-- Twenty codes whose first sixteen add up to v. -/
def codes20 (v : Nat) : List Nat := List.replicate (v % 16) (v / 16 + 1) ++ List.replicate (20 - v % 16) (v / 16)

/-- Table 7.3, its second differences to scale, the window from 604 µs on: the closing time is 612.400 µs, a delay of 24,496. -/
theorem test_kink :
    ((State.reset.set (F.DRV_KWIN_W_START 4) 604 |>.set (F.DRV_KWIN_W_END 4) 1200 |>.set (F.DRV_KDET_F 4) 4 |>.set (F.DRV_KDET_D 4) 20
      |>.set (F.DRV_KDET_THR 4) 8).kinkOf 4 ([2800, 2768, 2736, 2702, 2660, 2614, 2568, 2522].flatMap codes20)).map Prod.fst
      = some 24496 := by decide +kernel

/-! States and operands that meet the hypotheses of each statement -/

/-- The shape of State, as a test. -/
def okB (s : State) : Bool :=
  s.mapsOk && s.clk.qrun.length == 4 && s.clk.qidle.length == 4 && s.hif.rings.length == 19 && s.hif.vecPend.length == 8
    && s.hif.cqFull.length == 4 && s.evc.srcs.length == 64 && s.evc.groups.length == 16 && s.evc.targets.length == 4
    && s.evc.ext.length == 8 && s.sec.resp.length == 4 && s.sec.key.length == 4 && s.whl.camK.length == 4
    && s.sch.chans.length == 96 && s.banks.length == 24 && s.banks.all (fun k => k.threads.length == 2) && s.quads.length == 4
    && s.ink.rails.length == 8 && s.grds.length == 8 && s.grds.all (fun g => g.held8.length == 8) && s.adc.convs.length == 6
    && s.cmps.peak.length == 24 && s.cmps.hold.length == 24 && s.cmps.vds.length == 96 && s.cmps.ghv.length == 24
    && s.cmps.ghb.length == 24 && s.cmps.ft.length == 8 && s.cmps.rev.length == 8 && s.cmps.wm.length == 8
    && s.tmrs.length == 16 && s.nibs.length == 8 && s.nibs.all (fun n => n.ink.length == 8)

theorem ok_of (s : State) (h : okB s = true) : s.ok := by
  simp only [okB, Bool.and_eq_true, beq_iff_eq, List.all_eq_true] at h
  simp only [State.ok, State.shaped, Clk.shaped, Hif.shaped, Evc.shaped, Sec.shaped, Whl.shaped, Sch.shaped, BanksOk, Bank.shaped,
    QuadsOk, Ink.shaped, GrdsOk, Grd.shaped, Adc.shaped, Cmps.shaped, TmrsOk, NibsOk, Nib.shaped]
  tauto

/-- A device in mode m, booted, with its clocks running. -/
def up (m : Mode) : State :=
  { State.reset with
    sys := { State.reset.sys with mode := m, bootStep := 8 }
    clk := { State.reset.clk with tbRun := true, refOk := true, pllLock := true, dieTrained := true, tb := 300000000000, aon := 1000000 } }

/-- Live fields set. -/
def State.w (s : State) (l : List (Fld × Nat)) : State :=
  let t : State := l.foldl (fun (s : State) x => s.set x.1 x.2) s
  { t with regs := { t.regs with same := s.regs.same } }

/-- Live words set. -/
def State.wd (s : State) (l : List (Nat × Nat)) : State := l.foldl (fun (s : State) x => s.putWord x.1 (Word.ofN x.2)) s

/-- Shadow words set. -/
def State.sw (s : State) (l : List (Nat × Nat)) : State := l.foldl (fun (s : State) x => s.putShadow x.1 (Word.ofN x.2)) s

/-- A session of role r on port p. -/
def State.sess (s : State) (r : Nat) (p : Port) : State := { s with sec := { s.sec with role := r, port := p } }

/-- The link up and the ring engine on. -/
def State.eng (s : State) : State :=
  ({ s with hif := { s.hif with up := true, bme := true, msixEn := true } } : State).w [(F.HIF_RCTRL_EN, 1)]

/-- Ring r on with 64 entries, the host's index at h. -/
def State.ringOn (s : State) (r h : Nat) : State :=
  (s.w [(F.HIF_RCFG_EN r, 1), (F.HIF_RCFG_LOG2SZ r, 6)]).modRing r (fun x => { x with active := true, host := h })

/-- Entries wait on ring r, and its CQ has room. -/
def State.work (s : State) (r : Nat) : State := (s.eng.ringOn r 1).ringOn 9 0

/-- A 60-2 wheel at 1000 r/min, the angle clock running. -/
def run (m : Mode) : State :=
  ({ up m with
    whl := { Whl.initial with sync := .full, phaseKnown := true, last := some 299999900000, stamp := some 299999900000, pos := 5 }
    ang := { Ang.initial with at' := 1000, rate := 131941395, p := 12800000, u1 := 12800000, u2 := 12800000, next := 30000 } } : State).w
    [(F.WHL_TEETH_N, 60), (F.WHL_TEETH_M, 2), (F.WHL_CTRL_EN, 1)]

def logOn (s : State) : State := s.w [(F.SCH_CHCFG_MODE 0, 4)]
def coilOn (s : State) : State := s.w [(F.SCH_CHCFG_MODE 0, 1), (F.REED_PDIR_KIND 0 0, 1), (F.REED_PDIR_ENTRY 0 0, 9)]
def d0 : Descriptor := { w0 := 0, w1 := 7, w2 := 100000, w3 := 0, w4 := 0, w5 := 0, w6 := 0, w7 := 1000 }
def dTime : Descriptor := { w0 := 0x4000, w1 := 7, w2 := 0, w3 := 0, w4 := 0, w5 := 0, w6 := 0, w7 := 1000 }
def evD : Event := (logOn (run .full)).newEvent 3 0 d0 0
def evT (t : Tb) : Event := { (logOn (run .full)).newEvent 3 0 dTime 0 with start := .time t }
def State.holds (s : State) (l : List Event) : State := { s with sch := { s.sch with store := l } }
def State.th (s : State) (b t : Nat) (f : Thread → Thread) : State := s.modThread b t (fun k => f { k with run := true })

/-- Thread 0 of bank 0 runs and has reached a note. -/
def atNote (op arg lo : Nat) : State :=
  ((run .full).wd [(noteAddr 0 0 1, op * 2 ^ 26 + arg), (noteAddr 0 0 0, lo)]).th 0 0 (fun k => { k with susEnd := 300000100000 })

def winOf (f : Win → Win) : Win := f { Win.initial with open' := true, openT := 100 }
def State.win1 (s : State) (cfg per : Nat) (f : Win → Win) : State :=
  ({ s with adc := { s.adc with wins := [(5, winOf f)] } } : State).wd [(accAddr 5 0, cfg), (accAddr 5 1, per)]

def State.busy1 (s : State) (op : Nat) : State := { s with sys := { s.sys with busy := some { op := op, port := .pcie, since := 0 } } }
def State.same1 (s : State) (f : Same → Same) : State := { s with regs := { s.regs with same := f s.regs.same } }
def State.slave (s : State) (f : Slur → Slur) : State :=
  ({ s with slur := f s.slur } : State).w [(F.SET_CFG_EN, 1), (F.SET_CFG_ROLE, 1), (F.SET_CFG_LOSS_T, 1)]
def State.lead1 (s : State) (f : Slur → Slur) : State := ({ s with slur := f s.slur } : State).w [(F.SET_CFG_EN, 1)]

/-- A set-up without a range fault in the shadow copy, with changes in block 4. -/
def State.sound (s : State) : State :=
  let s := s.sw ((upTo 8).map (fun n => (R.CMP_WMLIM n, 0x10000)) ++ [(R.SEC_SESSCFG, 600), (R.HIF_SILENCE, 100), (R.SCH_CHCFG 0, 4)])
  { s with regs := { s.regs with dirty := [4], writers := [(R.SCH_CHCFG 0, 1)] } }
/-- Four words that spell the MAC of a role opening: the witness of the session that opens. -/
theorem mac_witness : ∃ (role : Nat) (b : Busy) (s : State), s.ok ∧ s.sec.unlock = some (role, false) ∧ s.sys.busy = some b
    ∧ 480000 ≤ elapsed b.since s.now ∧ s.macOk role b.port = true := by
  obtain ⟨w0, w1, w2, w3, hw⟩ := words_of_block _ (cmac_block _ (openMsg 0 1 .pcie) (bytes128_block 0))
  refine ⟨1, { op := 3, port := .pcie, since := 0 }, { (up .setup).busy1 3 with sec := { Sec.initial with
    unlock := some (1, false), ikey := some 0, chal := some (0, 0), resp := [w0, w1, w2, w3] } }, ok_of _ rfl, rfl, rfl,
    (by decide : 480000 ≤ elapsed 0 300000000000), ?_⟩
  simp [State.macOk, State.roleKey, hw]

/-- Only the last source is ready. -/
theorem lone_source (m : Nat) (h : m ≠ 63) (s : State)
    (hs : s.evc.srcs = setAt Evc.initial.srcs 63 { Src.initial with pend := true, ready := true }) :
    ((s.src m).ready && (s.src m).pend) = false := by
  rcases Nat.lt_or_ge m 64 with k | k
  · have : ∀ m, m < 64 → m ≠ 63 → ((((setAt Evc.initial.srcs 63 { Src.initial with pend := true, ready := true }).getD m Src.initial)).ready
        && ((setAt Evc.initial.srcs 63 { Src.initial with pend := true, ready := true }).getD m Src.initial).pend) = false := by decide
    simpa only [State.src, hs] using this m k h
  · have l : s.evc.srcs.length ≤ m := by rw [hs]; simpa [setAt, Evc.initial] using k
    simp [State.src, List.getD_eq_getElem?_getD, List.getElem?_eq_none l, Src.initial]

theorem test_witness_StepRunsFrontCommand :
    ∃ (c : Instr) (rest : List Instr) (s : State), s.pending = c :: rest :=
  ⟨.tapReset, [.stopPin], { up .armed with pending := [.tapReset, .stopPin] }, by decide +kernel⟩

theorem test_witness_EmptyQueuePassesTime :
    ∃ s : State, s.pending = [] ∧ s.sys.asked = none ∧ s.tst.asked = none :=
  ⟨up .armed, by decide +kernel⟩

theorem test_witness_EveryStepKeepsSoundness :
    ∃ s t : State, s.ok ∧ step s = .next t :=
  ⟨{ State.reset with pending := [.stopPin] }, State.reset, ok_of _ (by decide +kernel), rfl⟩

theorem test_witness_OnlyCommitWritesImage :
    ∃ (c : Instr) (s t : State), s.ok ∧ exec c s = .next t :=
  ⟨.stopPin, State.reset, State.reset, ok_of _ (by decide +kernel), rfl⟩

theorem test_witness_WritesReachTheirCopiesAndReadsClear :
    (∃ (p : Port) (a : Nat) (v : Word) (r : RegRow) (s : State), s.ok ∧ s.portOpen = true ∧ 0x1000 ≤ a ∧ a < 0x2000 ∧ a % 4 = 0
    ∧ s.rowThere a = some r ∧ r.w1c = 0 ∧ r.woM = 0 ∧ s.mqBits a = 0 ∧ 1 ≤ s.roleOf p)
    ∧ (∃ (p : Port) (a : Nat) (r : RegRow) (s : State), s.ok ∧ s.portOpen = true ∧ 0x1000 ≤ a ∧ a < 0x2000 ∧ a % 4 = 0 ∧ a ≠
    R.SCH_FREE_LOW ∧ s.rowThere a = some r ∧ r.rc ≠ 0 ∧ s.hwWrote a = false)
    ∧ (∃ (p : Port) (a : Nat) (r : RegRow) (old new : Word) (s : State), s.ok ∧ s.portOpen = true ∧ 0x1000 ≤ a ∧ a < 0x2000 ∧ a
    % 4 = 0 ∧ a ≠ R.SCH_FREE_LOW ∧ s.rowThere a = some r ∧ r.rc ≠ 0 ∧ assocGet a s.regs.same.hw = some (old, new)) :=
  ⟨⟨.pcie, 0x1008, 0xFFFFFFFF,
  { base := 0x1008, dims := [], unit := .none, o := 0, i := 0xFFFF03FF, w1c := 0, rc := 0, woO := 0, woI := 0, woM := 0, img := 0 },
  (up .setup).sess 1 .pcie, ok_of _ (by decide +kernel), by decide +kernel⟩,
   ⟨.spi, 0x141C,
   { base := 0x141C, dims := [], unit := .none, o := 0, i := 0, w1c := 0, rc := 0xFFFFFFFF, woO := 0, woI := 0, woM := 0, img := 0 },
   (up .armed).w [(F.SCH_OVLTO_CNT_COUNT, 9)], ok_of _ (by decide +kernel), by decide +kernel⟩,
   ⟨.spi, 0x141C,
   { base := 0x141C, dims := [], unit := .none, o := 0, i := 0, w1c := 0, rc := 0xFFFFFFFF, woO := 0, woI := 0, woM := 0, img := 0 },
   8, 1, ((up .armed).w [(F.SCH_OVLTO_CNT_COUNT, 9)]).same1 (fun m => { m with hw := [(0x141C, (8, 1))] }), ok_of _
   (by decide +kernel), by decide +kernel⟩⟩

theorem test_witness_RefusedAccesses :
    (∃ (p : Port) (a : Nat) (v : Word) (r : RegRow) (s : State), s.ok ∧ s.portOpen = true ∧ 0x1000 ≤ a ∧ a < 0x2000 ∧ a % 4 = 0
    ∧ s.rowThere a = some r ∧ s.mqBits a = 0 ∧ s.roleOf p = 0 ∧ (v ^^^ s.shadowWord a).toNat &&& r.i ≠ 0)
    ∧ (∃ (p : Port) (a : Nat) (v : Word) (s : State), s.ok ∧ s.sys.busy.isSome = true ∧ 0x1000 ≤ a ∧ a < 0x2000 ∧ a % 4 = 0)
    ∧ (∃ (p : Port) (a : Nat) (s : State), s.ok ∧ s.unreached p = false ∧ a < 0x40000)
    ∧ (∃ (p : Port) (a : Nat) (w : WShape) (x : RShape) (s : State), 0x40000 ≤ a ∧ w.inBar = true) :=
  ⟨⟨.spi, 0x1008, 1,
  { base := 0x1008, dims := [], unit := .none, o := 0, i := 0xFFFF03FF, w1c := 0, rc := 0, woO := 0, woI := 0, woM := 0, img := 0 },
  up .armed, ok_of _ (by decide +kernel), by decide +kernel⟩,
   ⟨.pcie, 0x1FFC, 1, (up .setup).busy1 2, ok_of _ (by decide +kernel), by decide +kernel⟩,
   ⟨.spi, 0x3FFFF, up .armed, ok_of _ (by decide +kernel), by decide +kernel⟩,
   ⟨.pcie, 0x40000, .bad, .word, up .armed, by decide +kernel⟩⟩

theorem test_witness_SpiFramesActAsAccesses :
    (∃ (h : Word) (s : State), s.ok ∧ s.sys.mode ≠ .off ∧ h.bit 31 = true ∧ h.bits 25 6 = 0 ∧ h.bits 0 18 % 4 = 0 ∧ s.flag
    F.HIF_CFG_SPI_CRC = false)
    ∧ (∃ (h v : Word) (crc : Nat) (s : State), s.sys.mode ≠ .off ∧ h.bit 31 = false ∧ h.bits 25 6 = 0 ∧ h.bits 0 18 % 4 = 0 ∧
    s.flag F.HIF_CFG_SPI_CRC = false)
    ∧ (∃ (h : Word) (ws : List Word) (crc : Nat) (s : State), s.ok ∧ s.sys.mode ≠ .off ∧ h.bit 31 = false ∧ s.flag
    F.HIF_CFG_SPI_CRC = true ∧ crc ≠ frameCrc h (ws.map BitVec.toNat))
    ∧ (∃ (h : Word) (ws : List Word) (crc : Nat) (s : State), s.sys.mode ≠ .off) :=
  ⟨⟨0x80000110, up .armed, ok_of _ (by decide +kernel), by decide +kernel⟩,
   ⟨0x00001008, 5, 0, up .setup, by decide +kernel⟩,
   ⟨0x00000000, [1], 0, (up .setup).w [(F.HIF_CFG_SPI_CRC, 1)], ok_of _ (by decide +kernel), by decide +kernel⟩,
   ⟨0x80000000, [], 0, up .dormant, by decide +kernel⟩⟩

theorem test_witness_RingsStartAndStop :
    (∃ (p : Port) (r : Nat) (v : Word) (s : State), s.ok ∧ s.portOpen = true ∧ r < 19 ∧ s.flag (F.HIF_RCFG_EN r) = false ∧
    v.bit 0 = true ∧ 6 ≤ v.bits 1 5 ∧ v.bits 1 5 ≤ 16 ∧ (s.get (F.HIF_RBASELO_ADDR r) ≠ 0 ∨ s.get (F.HIF_RBASEHI_ADDR r) ≠ 0))
    ∧ (∃ (p : Port) (r : Nat) (v : Word) (s : State), s.portOpen = true ∧ s.flag (F.HIF_RCFG_EN r) = true ∧ v.bit 0 = true)
    ∧ (∃ (p : Port) (r : Nat) (v : Word) (s : State), s.ok ∧ s.portOpen = true ∧ r < 19 ∧ s.flag (F.HIF_RCFG_EN r) = true ∧
    v.bit 0 = false)
    ∧ (∃ (r : Nat) (s : State), s.ok ∧ r < 19 ∧ s.flag (F.HIF_RCFG_EN r) = false)
    ∧ (∃ (p : Port) (v : Word) (s : State), s.ok ∧ s.portOpen = true ∧ v.bit 0 = true ∧ s.flag F.HIF_RCTRL_EN = false ∧
    s.lineAddrs = true)
    ∧ (∃ (p : Port) (v : Word) (s : State), s.ok ∧ s.portOpen = true ∧ v.bit 0 = false) :=
  ⟨⟨.pcie, 18, 0xD, (up .setup).w [(F.HIF_RBASELO_ADDR 18, 4)], ok_of _ (by decide +kernel), by decide +kernel⟩,
   ⟨.pcie, 18, 1, (up .setup).ringOn 18 0, by decide +kernel⟩,
   ⟨.pcie, 0, 0, (up .setup).ringOn 0 3, ok_of _ (by decide +kernel), by decide +kernel⟩,
   ⟨0, (up .setup).w [(F.HIF_RCFG_LOG2SZ 0, 6)], ok_of _ (by decide +kernel), by decide +kernel⟩,
   ⟨.pcie, 1, (up .setup).w [(F.HIF_DBADDR_LO_ADDR, 1), (F.HIF_STADDR_HI_ADDR, 1)], ok_of _ (by decide +kernel),
   by decide +kernel⟩,
   ⟨.pcie, 0, (up .armed).eng, ok_of _ (by decide +kernel), by decide +kernel⟩⟩

theorem test_witness_DoorbellLineGivesTheHostIndices :
    (∃ s : State, s.ringEngine = true ∧ 400 * s.hif.sweep.bits 0 8 ≤ elapsed s.hif.dbAt s.now)
    ∧ (∃ (line : DoorbellLine) (s : State), s.ok ∧ s.ringEngine = true ∧ s.hif.dbReads ≠ 0) :=
  ⟨⟨(up .armed).eng, by decide +kernel⟩,
   ⟨{ idx := [63], beat := 0 }, ({ up .armed with hif := { Hif.initial with dbReads := 1 } } : State).work 0, ok_of _
   (by decide +kernel), by decide +kernel⟩⟩

theorem test_witness_DeviceWritesOfTheRingEngine :
    (∃ s : State, s.ok ∧ s.statusDue = true)
    ∧ (∃ (a : Alarm) (l : List Alarm) (s : State), s.ok ∧ s.ringEngine = true ∧ s.hif.alarms = a :: l ∧ s.ringRoom 17 = true)
    ∧ (∃ (r : Nat) (g : Gap) (s : State), s.ok ∧ 13 ≤ r ∧ r < 19 ∧ r ≠ 17 ∧ s.gapDue r = true ∧ s.gapOf r = some g) :=
  ⟨⟨(up .armed).eng, ok_of _ (by decide +kernel), by decide +kernel⟩,
   ⟨{ id := 28, sub := 0, time := 0, data := 0, data2 := 0, rep := false, count := 0, last := 0 }, [],
   ({ up .armed with hif := { Hif.initial with alarms := [{ id := 28, sub := 0, time := 0, data := 0, data2 := 0, rep := false, count := 0, last := 0 }] } }
   : State).eng.ringOn 17 0, ok_of _ (by decide +kernel), by decide +kernel⟩,
   ⟨18, { acc := 2, trk := 0, first := 5, last := 9 }, ((up .armed).eng.ringOn 18 0).modRing 18 (fun x =>
   { x with gap := some { acc := 2, trk := 0, first := 5, last := 9 } }), ok_of _ (by decide +kernel), by decide +kernel⟩⟩

theorem test_witness_QuadrantClocksFollowTheirWork :
    (∃ (q : Nat) (s : State), s.ok ∧ s.ungateDue q = true ∧ s.regs.same.gates.contains q = false)
    ∧ (∃ (q : Nat) (a : Tb) (s : State), s.ok ∧ q < 4 ∧ s.clk.qreq.getD q none = some a)
    ∧ (∃ (q : Nat) (s : State), s.ok ∧ q < 4 ∧ s.gateDue q = true) :=
  ⟨⟨3, (up .armed).th 18 1 id, ok_of _ (by decide +kernel), by decide +kernel⟩,
   ⟨3, 299999999999, { up .armed with clk := { (up .armed).clk with qreq := [none, none, none, some 299999999999] } }, ok_of _
   (by decide +kernel), by decide +kernel⟩,
   ⟨0,
   { up .armed with clk := { (up .armed).clk with qrun := [true, false, false, false], qidle := [some 0, none, none, none] } },
   ok_of _ (by decide +kernel), by decide +kernel⟩⟩

theorem test_witness_HostResetsDisableTheRingEngine :
    (∃ s : State, s.ok)
    ∧ (∃ (c : Instr) (s : State), s.ok ∧ (c = .perstAssert ∨ c = .hotReset) ∧ (s.sys.mode = .half ∨ s.sys.mode = .full ∨
    s.sys.mode = .suspect → s.planOn = true)) :=
  ⟨⟨(up .armed).eng, ok_of _ (by decide +kernel)⟩,
   ⟨.hotReset, (up .armed).eng, ok_of _ (by decide +kernel), by decide +kernel⟩⟩

theorem test_witness_DataLinkAndConfigurationSpace :
    (∃ (n : Nat) (s : State), s.ok ∧ s.hif.up = true ∧ (s.sys.mode = .half ∨ s.sys.mode = .full ∨ s.sys.mode = .suspect →
    s.planOn = true))
    ∧ (∃ (sp w : Nat) (s : State), s.ok ∧ s.hif.up = false ∧ s.hif.perst = false ∧ s.hif.cold = false ∧ 1 ≤ sp ∧ sp ≤ 4 ∧ 1 ≤ w
    ∧ w ≤ 2)
    ∧ (∃ s : State, s.ok)
    ∧ (∃ (off : Nat) (c : PciCtl) (s : State), s.unreached .pcie = false)
    ∧ (∃ s : State, s.ok) :=
  ⟨⟨0, (up .armed).eng, ok_of _ (by decide +kernel), by decide +kernel⟩,
   ⟨3, 2, up .armed, ok_of _ (by decide +kernel), by decide +kernel⟩,
   ⟨up .armed, ok_of _ (by decide +kernel)⟩,
   ⟨0, PciCtl.initial, up .armed, by decide +kernel⟩,
   ⟨up .armed, ok_of _ (by decide +kernel)⟩⟩

theorem test_witness_DmaFailuresAndWithheldMessages :
    (∃ (ring cause : Nat) (s : State), s.ok ∧ s.ringEngine = true ∧ cause < 8 ∧ ring < 32 ∧ (ring < 19 → s.ringLive ring =
    true))
    ∧ (∃ (v : Nat) (s : State), s.ok ∧ v < 4 ∧ s.sys.mode.barOpen = true ∧ s.msixOut = true ∧ s.hif.fmask = false)
    ∧ (∃ s : State, s.ok)
    ∧ (∃ (off : Nat) (enable mask : Bool) (s : State), s.ok ∧ s.unreached .pcie = false) :=
  ⟨⟨0, 7, (up .armed).work 0, ok_of _ (by decide +kernel), by decide +kernel⟩,
   ⟨3, ({ up .armed with hif := { Hif.initial with vecPend := List.replicate 8 true } } : State).eng, ok_of _
   (by decide +kernel), by decide +kernel⟩,
   ⟨up .armed, ok_of _ (by decide +kernel)⟩,
   ⟨0, true, false, up .armed, ok_of _ (by decide +kernel), by decide +kernel⟩⟩

theorem test_witness_CrankEdgesMoveTheTracker :
    (∃ (x : CrankStamp) (width peak : Nat) (s : State), s.flag F.WHL_CTRL_CRK_EDGE ≠ x.rising)
    ∧ (∃ (x : CrankStamp) (width peak : Nat) (s : State), s.ok ∧ s.flag F.WHL_CTRL_CRK_EDGE = x.rising ∧ s.tracking = true ∧
    s.flag F.WHL_CTRL_CRK_MODE = false ∧ width < s.get F.WHL_MINW_MINW * 8)
    ∧ (∃ (x : CrankStamp) (width peak : Nat) (l : Tb) (s : State), s.ok ∧ s.flag F.WHL_CTRL_CRK_EDGE = x.rising ∧ s.tracking =
    true ∧ s.flag F.WHL_CTRL_CRK_MODE = false ∧ s.get F.WHL_MINW_MINW * 8 ≤ width ∧ s.clockRuns = true ∧ s.whl.prov = none ∧
    s.whl.last = some l ∧ ratio (elapsed l x.t) s.ang.p < s.twLo s.whl.crankSet)
    ∧ (∃ (x : CrankStamp) (width peak : Nat) (l : Tb) (s : State), s.ok ∧ s.flag F.WHL_CTRL_CRK_EDGE = x.rising ∧ s.tracking =
    true ∧ s.flag F.WHL_CTRL_CRK_MODE = false ∧ s.get F.WHL_MINW_MINW * 8 ≤ width ∧ s.clockRuns = true ∧ s.whl.prov = none ∧
    s.whl.last = some l ∧ s.flag F.WHL_CAMREF_REF_EN = false ∧ s.atGap = false ∧ s.classKnown false (ratio (elapsed l x.t)
    s.ang.p) = .normal) :=
  ⟨⟨{ rising := true, t := 299999900000 }, 8, 0, run .full, by decide +kernel⟩,
   ⟨{ rising := false, t := 299999900000 }, 7, 0, (run .full).w [(F.WHL_MINW_MINW, 1)], ok_of _ (by decide +kernel),
   by decide +kernel⟩,
   ⟨{ rising := false, t := 299999901000 }, 8, 0, 299999900000, (run .full).w [(F.WHL_MINW_MINW, 1)], ok_of _
   (by decide +kernel), by decide +kernel⟩,
   ⟨{ rising := false, t := 300000700000 }, 8, 0, 299999900000, (run .full).w [(F.WHL_MINW_MINW, 1)], ok_of _
   (by decide +kernel), by decide +kernel⟩⟩

theorem test_witness_CoarseAndCamEdgesAreCaptured :
    (∃ s : State, s.ok ∧ s.clk.tbRun = false ∧ s.sys.mode ≠ .off)
    ∧ (∃ (n : Nat) (falling : Bool) (stamp : Tb) (width peak : Nat) (s : State), s.ok ∧ n < 4 ∧ s.flag (F.WHL_CAMCFG_EN n) =
    true ∧ s.camUsable n = true ∧ s.sys.mode.operating = true ∧ s.clk.tbRun = true ∧ s.testing 1 = false ∧ (n = 0 → s.flag
    (F.WHL_CAMCFG_VR 0) = false) ∧ s.get (F.WHL_CAMCFG_MINW n) * 8 ≤ width ∧ s.get (F.WHL_CAMCFG_EDGE n) = (if falling then 1
    else 0) ∧ s.flag F.WHL_CAMREF_REF_EN = false ∧ s.clockRuns = true ∧ s.whl.camK.getD n 0 ≤ s.get (F.WHL_CAMCFG_EDGES n)) :=
  ⟨⟨{ up .armed with clk := Clk.initial }, ok_of _ (by decide +kernel), by decide +kernel⟩,
   ⟨3, true, 299999900000, 8, 0, (run .full).w [(F.WHL_CAMCFG_EN 3, 1), (F.WHL_CAMCFG_MINW 3, 1), (F.WHL_CAMCFG_EDGE 3, 1)],
   ok_of _ (by decide +kernel), by decide +kernel⟩⟩

theorem test_witness_StallsClampsAndWraps :
    (∃ s : State, s.ok ∧ s.stallDue = true)
    ∧ (∃ (p : Port) (v : Word) (s : State), s.ok ∧ s.portOpen = true ∧ s.crankUsable = true ∧ s.isInstaller p = true ∧ v.bit 3
    = true ∧ s.follower = false ∧ s.whl.sync ≠ .idle)
    ∧ (∃ s : State, s.ok ∧ s.clampDue = true)
    ∧ (∃ s : State, s.clockRuns = true ∧ s.ang.clamped = false ∧ s.ang.at' = 2949119 ∧ s.ang.next ≠ 0) :=
  ⟨⟨(run .full).w [(F.WHL_STALL_STALL_T, 0)], ok_of _ (by decide +kernel), by decide +kernel⟩,
   ⟨.pcie, 8, (run .full).sess 1 .pcie, ok_of _ (by decide +kernel), by decide +kernel⟩,
   ⟨{ run .full with ang := { (run .full).ang with at' := 29999 } }, ok_of _ (by decide +kernel), by decide +kernel⟩,
   ⟨{ run .full with ang := { (run .full).ang with at' := 2949119 } }, by decide +kernel⟩⟩

theorem test_witness_WheelTablesAndLatchingReads :
    (∃ (p : Port) (s : State), s.ok ∧ s.portOpen = true)
    ∧ (∃ (p : Port) (v : Word) (s : State), s.ok ∧ s.portOpen = true ∧ s.isInstaller p = true ∧ s.terrThere (s.get
    F.WHL_TERR_IDX_IDX) = true)
    ∧ (∃ (p : Port) (v : Word) (s : State), s.ok ∧ s.portOpen = true ∧ s.crankUsable = true ∧ s.isInstaller p = true ∧ v.bit 4
    = true)
    ∧ (∃ (p : Port) (v : Word) (s : State), s.ok ∧ s.portOpen = true ∧ s.crankUsable = true ∧ s.isInstaller p = true ∧ v.bit 5
    = true)
    ∧ (∃ (p : Port) (v : Word) (s : State), s.ok ∧ s.portOpen = true ∧ s.crankUsable = true ∧ v.bit 3 = true ∧ s.isInstaller p
    = true ∧ s.hwWrote R.WHL_ERR_LAST = false)
    ∧ (∃ (p : Port) (s : State), s.portOpen = true)
    ∧ (∃ (p : Port) (s : State), s.portOpen = true) :=
  ⟨⟨.pcie, (run .full).w [(F.WHL_TERR_IDX_IDX, 511)], ok_of _ (by decide +kernel), by decide +kernel⟩,
   ⟨.pcie, 0x8001, ((run .full).w [(F.WHL_TERR_IDX_IDX, 375)]).sess 1 .pcie, ok_of _ (by decide +kernel), by decide +kernel⟩,
   ⟨.pcie, 16, (run .full).sess 1 .pcie, ok_of _ (by decide +kernel), by decide +kernel⟩,
   ⟨.pcie, 32, (run .full).sess 1 .pcie, ok_of _ (by decide +kernel), by decide +kernel⟩,
   ⟨.pcie, 8, (run .full).sess 1 .pcie, ok_of _ (by decide +kernel), by decide +kernel⟩,
   ⟨.spi, run .full, by decide +kernel⟩,
   ⟨.spi, run .full, by decide +kernel⟩⟩

theorem test_witness_NewIsAdmittedOrRejected :
    (∃ (sq : Nat) (d : Descriptor) (s : State), s.ok ∧ s.sqReady sq = true ∧ d.op = 0 ∧ s.admitCheck d 0 = none)
    ∧ (∃ (sq c : Nat) (d : Descriptor) (s : State), s.ok ∧ s.sqReady sq = true ∧ d.op = 0 ∧ s.admitCheck d 0 = some c) :=
  ⟨⟨7, d0, logOn ((run .full).work 7), ok_of _ (by decide +kernel), by decide +kernel⟩,
   ⟨0, 13, d0, (run .full).work 0, ok_of _ (by decide +kernel), by decide +kernel⟩⟩

theorem test_witness_TagOperationsRemoveUnstartedEvents :
    (∃ (sq : Nat) (d : Descriptor) (s : State), s.ok ∧ s.sqReady sq = true ∧ d.op = 2 ∧ s.chThere d.ch = true)
    ∧ (∃ (sq : Nat) (d : Descriptor) (s : State), s.ok ∧ s.sqReady sq = true ∧ d.op = 3 ∧ s.chThere d.ch = true)
    ∧ (∃ (sq : Nat) (d : Descriptor) (s : State), s.ok ∧ s.sqReady sq = true ∧ d.op = 1 ∧ s.admitCheck d (s.matching d
    false).length = none)
    ∧ (∃ (sq c : Nat) (d : Descriptor) (s : State), s.ok ∧ s.sqReady sq = true ∧ d.op = 1 ∧ s.admitCheck d (s.matching d
    false).length = some c)
    ∧ (∃ (sq : Nat) (d : Descriptor) (s : State), s.sqReady sq = false) :=
  ⟨⟨0, { d0 with w0 := 0x200000 }, (logOn ((run .full).work 0)).holds [evD], ok_of _ (by decide +kernel), by decide +kernel⟩,
   ⟨0, { d0 with w0 := 0x300000, w1 := 8 }, (logOn ((run .full).work 0)).holds [evD], ok_of _ (by decide +kernel),
   by decide +kernel⟩,
   ⟨0, { d0 with w0 := 0x100000 }, (logOn ((run .full).work 0)).holds [evD], ok_of _ (by decide +kernel), by decide +kernel⟩,
   ⟨0, 13, { d0 with w0 := 0x100000 }, (run .full).work 0, ok_of _ (by decide +kernel), by decide +kernel⟩,
   ⟨0, d0, run .full, by decide +kernel⟩⟩

theorem test_witness_ReleaseAndAnchor :
    (∃ (n : Nat) (e : Event) (s : State), s.ok ∧ s.releasable n = some e ∧ s.flag F.INK_CTRL_EN = false ∧ s.flag (F.SCH_LIM_EN
    e.ch) = false ∧ s.flag (F.SCH_BKDUTY_EN (e.ch / 4)) = false ∧ (s.projStart (s.prepared e) < 0 → s.isStale (s.prepared e) 0
    = false) ∧ s.threadsTaken (s.prepared e) = false)
    ∧ (∃ (n : Nat) (e : Event) (s : State), s.ok ∧ s.releasable n = some e ∧ s.projStart (s.prepared e) < 0 ∧ s.isStale
    (s.prepared e) 0 = true ∧ s.hif.results.length < 512)
    ∧ (∃ (n : Nat) (s : State), s.clockRuns = true) :=
  ⟨⟨0, evD, ((logOn (run .full)).w [(F.SCH_HORIZON_HZ_ANG, 100), (F.SCH_HORIZON_HZ_TIME, 100)]).holds [evD], ok_of _
  (by decide +kernel), by decide +kernel⟩,
   ⟨0, evT 299999000000, ((logOn (run .full)).w [(F.SCH_HORIZON_HZ_ANG, 100), (F.SCH_HORIZON_HZ_TIME, 100)]).holds [evT
   299999000000], ok_of _ (by decide +kernel), by decide +kernel⟩,
   ⟨0, (run .full).holds [{ evD with anchor := 2, ang := 1000 }], by decide +kernel⟩⟩

theorem test_witness_DueEventsStartOrWait :
    (∃ (n k : Nat) (e : Event) (s : State), s.ok ∧ n < 96 ∧ s.nextReleased n = some e ∧ (s.bank (n / 4)).waiting = [] ∧
    s.chMode n ≠ 4 ∧ s.freeThreadOf (n / 4) = some k ∧ s.threadsOn n = [] ∧ s.beyondClamp e = false ∧ s.latched n = false ∧
    s.baseOf e ≤ 64 ∧ s.isStale e (max (s.lead (n / 24)) (s.baseOf e)) = false)
    ∧ (∃ (n : Nat) (e : Event) (s : State), s.ok ∧ n < 96 ∧ s.nextReleased n = some e ∧ (s.bank (n / 4)).waiting = [] ∧
    s.chMode n ≠ 4 ∧ s.freeThreadOf (n / 4) = none ∧ s.threadsOn n = [] ∧ s.beyondClamp e = false ∧ s.latched n = false ∧
    s.baseOf e ≤ 64 ∧ s.isStale e (max (s.lead (n / 24)) (s.baseOf e)) = false)
    ∧ (∃ (n k : Nat) (e : Event) (s : State), s.ok ∧ n < 96 ∧ s.nextReleased n = some e ∧ (s.bank (n / 4)).waiting = [] ∧
    s.threadsOn n = [k] ∧ s.canMerge e k = true ∧ s.beyondClamp e = false)
    ∧ (∃ (n : Nat) (e : Event) (s : State), s.ok ∧ n < 96 ∧ s.nextReleased n = some e ∧ (s.bank (n / 4)).waiting = [] ∧
    s.threadsOn n = [] ∧ s.chFree n = true ∧ s.beyondClamp e = false ∧ s.baseOf e ≤ 64 ∧ s.latched n = true ∧
    s.hif.results.length < 512)
    ∧ (∃ (n : Nat) (e : Event) (s : State), s.ok ∧ n < 96 ∧ s.nextReleased n = some e ∧ (s.bank (n / 4)).waiting = [] ∧
    s.chMode n = 4 ∧ s.threadsOn n = [] ∧ s.beyondClamp e = false ∧ s.latched n = false ∧ s.baseOf e ≤ 64 ∧ s.isStale e (max
    (s.lead (n / 24)) (s.baseOf e)) = false)
    ∧ (∃ (n : Nat) (s : State), s.ok ∧ n < 96 ∧ (s.nextReleased n).all (fun e => (s.bank (n / 4)).waiting.isEmpty &&
    (s.threadsOn n).isEmpty && (decide (64 < s.baseOf e) || s.beyondClamp e)) = true) :=
  ⟨⟨0, 0, { evT 300000000050 with phase := .released }, ((coilOn (run .full)).w [(F.SCH_POL_STALE 0, 10)]).holds
  [{ evT 300000000050 with phase := .released }], ok_of _ (by decide +kernel), by decide +kernel⟩,
   ⟨0, { evT 300000000050 with phase := .released }, ((((coilOn (run .full)).w [(F.SCH_POL_STALE 0, 10)]).holds
   [{ evT 300000000050 with phase := .released }]).th 0 0 (fun k => { k with ch := 1 })).th 0 1 (fun k => { k with ch := 2 }),
   ok_of _ (by decide +kernel), by decide +kernel⟩,
   ⟨0, 0, { evT 300000000050 with phase := .released }, ((((coilOn (run .full)).w [(F.SCH_POL_STALE 0, 10), (F.SCH_POL_MERGE_EN
   0, 1)]).holds [{ evT 300000000050 with phase := .released }]).th 0 0 (fun k =>
   { k with sus := true, susEnd := 300000100000 })), ok_of _ (by decide +kernel), by decide +kernel⟩,
   ⟨0, { evT 300000000050 with phase := .released }, (((coilOn (run .full)).w [(F.SCH_POL_STALE 0, 10)]).holds
   [{ evT 300000000050 with phase := .released }]).modChan 0 (fun c => { c with oc := true }), ok_of _ (by decide +kernel),
   by decide +kernel⟩,
   ⟨0, { evT 300000000050 with phase := .released }, ((logOn (run .full)).w [(F.SCH_POL_STALE 0, 10)]).holds
   [{ evT 300000000050 with phase := .released }], ok_of _ (by decide +kernel), by decide +kernel⟩,
   ⟨95, run .full, ok_of _ (by decide +kernel), by decide +kernel⟩⟩

theorem test_witness_EndsThatTheSchedulerDecides :
    (∃ (n : Nat) (e : Event) (s : State), s.ok ∧ n < 96 ∧ s.logEndDue n = some e)
    ∧ (∃ (b th : Nat) (s : State), s.ok ∧ b < 24 ∧ th < 2 ∧ s.tokenLate b th = true)
    ∧ (∃ (b th : Nat) (e : Event) (s : State), s.ok ∧ b < 24 ∧ s.tokenLate b th = false ∧ s.threadLate b = some e)
    ∧ (∃ (n th : Nat) (s : State), s.ok ∧ n < 96 ∧ th < 2 ∧ s.capReached false n = true ∧ s.chMode n ≠ 4 ∧ (s.thread (n / 4)
    th).run = true ∧ (s.thread (n / 4) th).ch = n ∧ 0 < tbDiff (s.thread (n / 4) th).susEnd s.now) :=
  ⟨⟨0, { evT 0 with phase := .running, startT := 299999990000, durTb := some 5000 }, (logOn (run .full)).holds
  [{ evT 0 with phase := .running, startT := 299999990000, durTb := some 5000 }], ok_of _ (by decide +kernel),
  by decide +kernel⟩,
   ⟨23, 1, (run .full).th 23 1 (fun k => { k with wait := .claim, ch := 95 }), ok_of _ (by decide +kernel), by decide +kernel⟩,
   ⟨0, 0, { evT 0 with phase := .released, startT := 0 }, ((run .full).holds
   [{ evT 0 with phase := .released, startT := 0 }]).modBank 0 (fun k => { k with waiting := [3] }), ok_of _
   (by decide +kernel), by decide +kernel⟩,
   ⟨95, 1, ((run .full).w [(F.SCH_LIM_EN 95, 1), (F.SCH_CHCFG_MODE 95, 1)]).th 23 1 (fun k =>
   { k with ch := 95, susEnd := 300000100000 }), ok_of _ (by decide +kernel), by decide +kernel⟩⟩

theorem test_witness_NotesOnTheirOwnThread :
    (∃ (b t : Nat) (s : State), s.ok ∧ s.issues b t Op.nop)
    ∧ (∃ (b t : Nat) (s : State), s.ok ∧ s.issues b t Op.level)
    ∧ (∃ (b t : Nat) (s : State), s.ok ∧ s.issues b t Op.tload)
    ∧ (∃ (b t : Nat) (s : State), s.ok ∧ s.issues b t Op.br)
    ∧ (∃ (b t : Nat) (s : State), s.ok ∧ s.issues b t Op.loop)
    ∧ (∃ (b t : Nat) (s : State), s.ok ∧ s.issues b t Op.susBegin) :=
  ⟨⟨0, 0, atNote Op.nop 0 0, ok_of _ (by decide +kernel), (by unfold State.issues; decide +kernel)⟩,
   ⟨0, 0, atNote Op.level 0 5, ok_of _ (by decide +kernel), (by unfold State.issues; decide +kernel)⟩,
   ⟨0, 0, atNote Op.tload 0 0x20000009, ok_of _ (by decide +kernel), (by unfold State.issues; decide +kernel)⟩,
   ⟨0, 0, atNote Op.br (3 * 2 ^ 14 + 15 * 2 ^ 9) 0, ok_of _ (by decide +kernel), (by unfold State.issues; decide +kernel)⟩,
   ⟨0, 0, atNote Op.loop (3 * 2 ^ 14) 0, ok_of _ (by decide +kernel), (by unfold State.issues; decide +kernel)⟩,
   ⟨0, 0, atNote Op.susBegin 0 0, ok_of _ (by decide +kernel), (by unfold State.issues; decide +kernel)⟩⟩

theorem test_witness_NotesThatWait :
    (∃ (b t : Nat) (s : State), s.ok ∧ s.issues b t Op.waitT)
    ∧ (∃ (b t : Nat) (s : State), s.ok ∧ s.issues b t Op.waitA)
    ∧ (∃ (b t : Nat) (s : State), s.ok ∧ s.issues b t Op.waitC)
    ∧ (∃ (b t : Nat) (s : State), s.ok ∧ s.issues b t Op.waitK)
    ∧ (∃ (b t : Nat) (s : State), s.ok ∧ s.issues b t Op.reg) :=
  ⟨⟨0, 0, atNote Op.waitT 0 100, ok_of _ (by decide +kernel), (by unfold State.issues; decide +kernel)⟩,
   ⟨0, 0, atNote Op.waitA 0 100, ok_of _ (by decide +kernel), (by unfold State.issues; decide +kernel)⟩,
   ⟨0, 0, atNote Op.waitC (4 * 2 ^ 9) 0, ok_of _ (by decide +kernel), (by unfold State.issues; decide +kernel)⟩,
   ⟨0, 0, atNote Op.waitK 0 0, ok_of _ (by decide +kernel), (by unfold State.issues; decide +kernel)⟩,
   ⟨0, 0, atNote Op.reg (2 * 2 ^ 9) 1, ok_of _ (by decide +kernel), (by unfold State.issues; decide +kernel)⟩⟩

theorem test_witness_GatesAreMadeAtTheirPlacementTime :
    (∃ (b t : Nat) (p : Tb) (s : State), s.ok ∧ s.issues b t Op.gate ∧ (s.noteOf b t).placed = true ∧ (s.noteOf b t).decay =
    false ∧ (s.noteOf b t).hv = 0 ∧ (s.noteOf b t).hb = 0 ∧ (s.noteOf b t).ls = 2 ∧ (s.thread b t).place = some p ∧ 0 < tbDiff
    p s.now ∧ s.edue b t = false)
    ∧ (∃ (b t : Nat) (s : State), s.ok ∧ s.issues b t Op.gate ∧ (s.noteOf b t).hvOn = true ∧ (s.bank b).token ≠ t + 1 ∧
    (s.thread b t).claiming = false) :=
  ⟨⟨0, 0, 300000000100, (atNote Op.gate 0 0xA0).th 0 0 (fun k => { k with place := some 300000000100 }), ok_of _
  (by decide +kernel), (by unfold State.issues; decide +kernel), by decide +kernel⟩,
   ⟨0, 0, atNote Op.gate 0 2, ok_of _ (by decide +kernel), (by unfold State.issues; decide +kernel), by decide +kernel⟩⟩

theorem test_witness_TheTokenHasOneHolder :
    (∃ (b t : Nat) (s : State), s.ok ∧ s.issues b t Op.claim ∧ (s.bank b).token = 0 ∧ (s.thread b t).placed = true ∧
    s.waitsToken b (1 - t) = false)
    ∧ (∃ (b t : Nat) (s : State), s.ok ∧ s.issues b t Op.release ∧ (s.bank b).token = t + 1)
    ∧ (∃ (b t : Nat) (s : State), s.ok ∧ b < 24 ∧ t < 2 ∧ (s.thread b t).run = true ∧ (s.thread b t).claiming = true ∧ tbDiff
    (s.thread b t).claimAt s.now ≤ 0 ∧ (s.bank b).token = 0 ∧ s.waitsToken b (1 - t) = false)
    ∧ (∃ (b t : Nat) (s : State), s.ok ∧ b < 24 ∧ t < 2 ∧ (s.bank b).token = 0 ∧ (s.thread b t).run = true ∧ (s.thread b
    t).wait = .claim ∧ s.waitsToken b (1 - t) = false) :=
  ⟨⟨0, 0, (atNote Op.claim 0 0).th 0 0 (fun k => { k with placed := true }), ok_of _ (by decide +kernel),
  (by unfold State.issues; decide +kernel), by decide +kernel⟩,
   ⟨0, 0, (atNote Op.release 0 0).modBank 0 (fun k => { k with token := 1 }), ok_of _ (by decide +kernel),
   (by unfold State.issues; decide +kernel), by decide +kernel⟩,
   ⟨23, 1, (run .full).th 23 1 (fun k => { k with ch := 95, claiming := true }), ok_of _ (by decide +kernel),
   by decide +kernel⟩,
   ⟨23, 1, (run .full).th 23 1 (fun k => { k with ch := 95, wait := .claim }), ok_of _ (by decide +kernel), by decide +kernel⟩⟩

theorem test_witness_SustainMarksAndEnd :
    (∃ (b t : Nat) (s : State), s.ok ∧ s.issues b t Op.susEnd ∧ (s.thread b t).place = none ∧ s.edue b t = false)
    ∧ (∃ (b t : Nat) (s : State), s.ok ∧ s.issues b t Op.endNote)
    ∧ (∃ (b t : Nat) (s : State), s.ok ∧ s.issues b t Op.mark ∧ (s.noteOf b t).rec' = true)
    ∧ (∃ (b t : Nat) (s : State), s.ok ∧ s.issues b t Op.sample ∧ s.phraseHolds (b / 6) (winTarget (s.noteOf b t).trk
    (sampleVal (s.thread b t) (s.noteOf b t))) = true ∧ (s.noteOf b t).closes = false)
    ∧ (∃ (b t : Nat) (s : State), s.ok ∧ s.issues b t Op.sample ∧ s.phraseHolds (b / 6) (winTarget (s.noteOf b t).trk
    (sampleVal (s.thread b t) (s.noteOf b t))) = false) :=
  ⟨⟨0, 0, atNote Op.susEnd 0 0, ok_of _ (by decide +kernel), (by unfold State.issues; decide +kernel), by decide +kernel⟩,
   ⟨0, 0, atNote Op.endNote 0 0, ok_of _ (by decide +kernel), (by unfold State.issues; decide +kernel)⟩,
   ⟨0, 0, (atNote Op.mark 0 0x200).holds [{ evD with id := 0, phase := .running }], ok_of _ (by decide +kernel),
   (by unfold State.issues; decide +kernel), by decide +kernel⟩,
   ⟨0, 0, (atNote Op.sample 0 5).win1 0x200 0 id, ok_of _ (by decide +kernel), (by unfold State.issues; decide +kernel),
   by decide +kernel⟩,
   ⟨0, 0, atNote Op.sample 0 5, ok_of _ (by decide +kernel), (by unfold State.issues; decide +kernel), by decide +kernel⟩⟩

theorem test_witness_WhatEndsAThreadsWait :
    (∃ (b t : Nat) (x : Tb) (s : State), s.ok ∧ b < 24 ∧ t < 2 ∧ (s.thread b t).run = true ∧ (s.thread b t).wait = .time x ∧
    tbDiff x s.now ≤ 32)
    ∧ (∃ (b t ca cb tgt : Nat) (s : State), s.ok ∧ b < 24 ∧ t < 2 ∧ (s.thread b t).run = true ∧ (s.thread b t).wait = .cond ca
    cb tgt ∧ (s.cond b t ca = true ∨ s.cond b t cb = true))
    ∧ (∃ (b t : Nat) (w : Tb) (s : State), s.ok ∧ b < 24 ∧ t < 2 ∧ (s.thread b t).run = true ∧ (s.thread b t).wait = .sus w ∧
    tbDiff w s.now ≤ 0 ∧ s.nextReleased (s.thread b t).ch = none)
    ∧ (∃ (b t : Nat) (s : State), s.ok ∧ b < 24 ∧ t < 2 ∧ s.overrunDue b t = true)
    ∧ (∃ (b t k : Nat) (s : State), s.ok ∧ b < 24 ∧ t < 2 ∧ s.timerVal b t k = 0)
    ∧ (∃ (b t : Nat) (w : Tb) (s : State), s.ok ∧ b < 24 ∧ t < 2 ∧ (s.thread b t).run = true ∧ (s.thread b t).offUntil = some w
    ∧ tbDiff w s.now ≤ 0 ∧ (s.thread b t).wait = .none ∧ (s.thread b (1 - t)).run = false ∧ s.gatesFree b = true ∧ (s.thread b
    t).ch / 4 = b ∧ (s.chan (s.thread b t).ch).oc = false)
    ∧ (∃ (q : Nat) (s : State), s.ok ∧ (∀ i j, i < 6 → j < 2 → (s.thread (6 * q + i) j).run = false) ∧ q < 4 ∧ (s.quad
    q).syncing = true) :=
  ⟨⟨23, 1, 300000000032, (run .full).th 23 1 (fun k => { k with wait := .time 300000000032 }), ok_of _ (by decide +kernel),
  by decide +kernel⟩,
   ⟨0, 0, 15, 0, 7, (run .full).th 0 0 (fun k => { k with wait := .cond 15 0 7 }), ok_of _ (by decide +kernel),
   by decide +kernel⟩,
   ⟨0, 1, 300000000000, (run .full).th 0 1 (fun k => { k with wait := .sus 300000000000 }), ok_of _ (by decide +kernel),
   by decide +kernel⟩,
   ⟨0, 0, (run .full).th 0 0 id, ok_of _ (by decide +kernel), by decide +kernel⟩,
   ⟨0, 0, 1, (run .full).th 0 0 id, ok_of _ (by decide +kernel), by decide +kernel⟩,
   ⟨0, 0, 300000000000, (run .full).th 0 0 (fun k => { k with offUntil := some 300000000000 }), ok_of _ (by decide +kernel),
   by decide +kernel⟩,
   ⟨3, (run .full).modQuad 3 (fun x => { x with syncing := true }), ok_of _ (by decide +kernel), (fun i j hi hj =>
   (by decide +kernel : ∀ i, i < 6 → ∀ j, j < 2 → (((run .full).modQuad 3 (fun x => { x with syncing := true }) : State).thread
   (6 * 3 + i) j).run = false) i hi j hj), by decide +kernel⟩⟩

theorem test_witness_OverCurrentTripsHold :
    (∃ (n : Nat) (s : State), s.ok ∧ s.ocJudged n = true)
    ∧ (∃ (b : Nat) (boost : Bool) (s : State), s.ok ∧ s.hsJudged b boost = true)
    ∧ (∃ (n : Nat) (s : State), s.ok ∧ n < 96 ∧ (s.chan n).oc = true ∧ (s.chan n).ocSeen = false)
    ∧ (∃ (b : Nat) (s : State), s.ok ∧ b < 24 ∧ (s.bank b).oc = true ∧ (s.bank b).ocSeen = false)
    ∧ (∃ (g : Nat) (s : State), s.ok ∧ g < 8 ∧ (s.grd g).trip = true ∧ (s.grd g).tripSeen = false) :=
  ⟨⟨95, (run .full).modChan 95 (fun x => { x with gl := true }), ok_of _ (by decide +kernel), by decide +kernel⟩,
   ⟨23, true, (run .full).modBank 23 (fun x => { x with ghv := true }), ok_of _ (by decide +kernel), by decide +kernel⟩,
   ⟨95, (run .full).modChan 95 (fun x => { x with oc := true }), ok_of _ (by decide +kernel), by decide +kernel⟩,
   ⟨23, (run .full).modBank 23 (fun x => { x with oc := true }), ok_of _ (by decide +kernel), by decide +kernel⟩,
   ⟨7, (run .full).modGrd 7 (fun x => { x with trip := true }), ok_of _ (by decide +kernel), by decide +kernel⟩⟩

theorem test_witness_BoostControllersHoldTheirBand :
    (∃ (q vbst : Nat) (s : State), s.ok ∧ q < s.part.quads ∧ s.boostMode q = true ∧ (s.quad q).regOn = true ∧ (s.quad
    q).ramping = false ∧ (s.quad q).ov = false)
    ∧ (∃ (q vbst : Nat) (s : State), s.ok ∧ q < s.part.quads ∧ s.boostMode q = false)
    ∧ (∃ (q vbat : Nat) (s : State), s.ok ∧ q < 4 ∧ s.boostMode q = true ∧ (s.quad q).pulsing = true)
    ∧ (∃ (q vbst : Nat) (s : State), s.ok ∧ q < 4 ∧ s.boostMode q = true ∧ (s.quad q).regOn = true ∧ (s.quad q).ov = false ∧
    (s.quad q).target + s.get (F.DRV_BSTCFG_OV_MARGIN q) * 1000 < vbst * 100) :=
  ⟨⟨3, 650, ((run .full).w [(F.DRV_BSTCFG_EN 3, 1)]).modQuad 3 (fun x => { x with regOn := true }), ok_of _
  (by decide +kernel), by decide +kernel⟩,
   ⟨3, 650, run .full, ok_of _ (by decide +kernel), by decide +kernel⟩,
   ⟨3, 140, ((run .full).w [(F.DRV_BSTCFG_EN 3, 1)]).modQuad 3 (fun x => { x with pulsing := true }), ok_of _
   (by decide +kernel), by decide +kernel⟩,
   ⟨3, 700, ((run .full).w [(F.DRV_BSTCFG_EN 3, 1)]).modQuad 3 (fun x => { x with regOn := true }), ok_of _
   (by decide +kernel), by decide +kernel⟩⟩

theorem test_witness_ClosingReportsAndResults :
    (∃ (n delay k : Nat) (off : Tb) (codes : List Nat) (s : State), s.ok ∧ n < 96 ∧ s.watchOff n = some off ∧ s.kinkOf n codes
    = some (delay, k) ∧ s.kinkAt n k ≤ elapsed off s.now)
    ∧ (∃ (n : Nat) (off : Tb) (s : State), s.ok ∧ n < 96 ∧ s.watchOff n = some off ∧ s.kinkAt n ((s.get (F.DRV_KWIN_W_END n) -
    s.get (F.DRV_KWIN_W_START n)) * 5 / max 1 (s.get (F.DRV_KDET_D n)) + 1) < elapsed off s.now)
    ∧ (∃ (id : Nat) (e : Event) (s : State), s.ok ∧ s.event id = some e ∧ s.resultReady e = true ∧ e.refused = false ∧ e.ran =
    false ∧ s.resultWanted e.src = true) :=
  ⟨⟨95, 12, 5, 0, [100, 100, 100, 110, 130, 130, 130, 130, 130], ((run .full).w [(F.DRV_KWIN_W_END 95, 100), (F.DRV_KDET_D 95,
  1), (F.DRV_KDET_THR 95, 10), (F.DRV_CHCFG_KPOL 95, 1)]).modBank 23 (fun x => { x with slots := [(95, 0)] }), ok_of _
  (by decide +kernel), by decide +kernel⟩,
   ⟨95, 0, (run .full).modBank 23 (fun x => { x with slots := [(95, 0)] }), ok_of _ (by decide +kernel), by decide +kernel⟩,
   ⟨3, { evD with phase := .ended, closing := .noKink }, (run .full).holds [{ evD with phase := .ended, closing := .noKink }],
   ok_of _ (by decide +kernel), by decide +kernel⟩⟩

theorem test_witness_LedgerSteps :
    (∃ (q vbst : Nat) (s : State), s.ok ∧ q < s.part.quads ∧ s.balKept = true ∧ (∀ i, i < 6 → (s.bank (6 * q + i)).ghv = false))
    ∧ (∃ (q vbat : Nat) (s : State), s.ok ∧ q < s.part.quads)
    ∧ (∃ (g : Nat) (s : State), s.ok ∧ g < 8 ∧ s.grdMeters g = true)
    ∧ (∃ (b shunt volt : Nat) (s : State), s.ok ∧ s.convUsable (b / 6) = true ∧ b < s.part.banks ∧ (s.bank b).ghv = true ∧
    (s.bank b).token ≠ 0 ∧ (s.thread b ((s.bank b).token - 1)).run = true) :=
  ⟨⟨3, 650, run .full, ok_of _ (by decide +kernel), by decide +kernel⟩,
   ⟨3, 140, run .full, ok_of _ (by decide +kernel), by decide +kernel⟩,
   ⟨7, run .full, ok_of _ (by decide +kernel), by decide +kernel⟩,
   ⟨23, 400, 650, ((run .full).th 23 1 id).modBank 23 (fun x => { x with ghv := true, token := 2 }), ok_of _
   (by decide +kernel), by decide +kernel⟩⟩

theorem test_witness_NeedTableAccesses :
    (∃ (p : Port) (s : State), s.ok ∧ s.portOpen = true)
    ∧ (∃ (p : Port) (v : Word) (s : State), s.ok ∧ s.portOpen = true ∧ s.isInstaller p = true ∧ s.get ptabIndex / 256 <
    s.part.quads) :=
  ⟨⟨.pcie, (run .full).w [(ptabIndex, 1023)], ok_of _ (by decide +kernel), by decide +kernel⟩,
   ⟨.pcie, 0x1234567, ((run .full).w [(ptabIndex, 1022)]).sess 1 .pcie, ok_of _ (by decide +kernel), by decide +kernel⟩⟩

theorem test_witness_QueueCommandsComplete :
    (∃ (tag : Word) (s : State), s.ok ∧ s.mqReady = true)
    ∧ (∃ (tag : Word) (op : Nat) (s : State), s.ok ∧ s.mqReady = true ∧ 10 < op ∧ op < 256)
    ∧ (∃ (tag arg0 : Word) (s : State), s.ok ∧ s.mqReady = true)
    ∧ (∃ (tag arg0 : Word) (k : Nat) (s : State), s.ok ∧ s.mqReady = true ∧ k = arg0.bits 0 9 ∧ arg0.bit 9 = false ∧ s.flag
    (accEn k) = true ∧ s.get (accWsrc k) = 1 ∧ (s.win k).open' = true)
    ∧ (∃ (tag arg0 : Word) (s : State), s.ok ∧ s.mqReady = true ∧ arg0.bit 9 = false ∧ s.flag (accEn (arg0.bits 0 9)) = true ∧
    s.get (accWsrc (arg0.bits 0 9)) = 0)
    ∧ (∃ (tag arg0 : Word) (s : State), s.ok ∧ s.mqReady = true ∧ arg0.bit 8 = false ∧ s.chUsable (arg0.bits 0 7) = true)
    ∧ (∃ (tag arg0 : Word) (s : State), s.ok ∧ s.mqReady = true ∧ arg0.bit 8 = true ∧ arg0.bits 0 7 < s.part.banks)
    ∧ (∃ (tag arg0 arg1 : Word) (s : State), s.ok ∧ s.mqReady = true ∧ s.busyOp ≠ 2 ∧ arg0.bits 0 2 < s.part.quads ∧ s.get
    (F.REED_PDIR_KIND (arg0.bits 0 2) (arg0.bits 8 6)) ≠ 0 ∧ (s.get (F.REED_PDIR_DMASK (arg0.bits 0 2) (arg0.bits 8
    6))).testBit (arg0.bits 16 2) = true)
    ∧ (∃ (tag arg0 arg1 : Word) (s : State), s.mqReady = true ∧ s.busyOp = 2)
    ∧ (∃ (tag : Word) (s : State), s.ok ∧ s.mqReady = true ∧ s.sys.fbFlag = true ∧ s.regs.same.fb = false)
    ∧ (∃ (p : Port) (s : State), s.ok ∧ s.portOpen = true ∧ s.hif.up = true ∧ s.sys.fbFlag = true ∧ s.regs.same.fb = false)
    ∧ (∃ (p : Port) (s : State), s.ok ∧ s.portOpen = true ∧ s.regs.same.fb = true) :=
  ⟨⟨7, (up .armed).work 8, ok_of _ (by decide +kernel), by decide +kernel⟩,
   ⟨7, 255, (up .armed).work 8, ok_of _ (by decide +kernel), by decide +kernel⟩,
   ⟨7, 15, (up .armed).work 8, ok_of _ (by decide +kernel), by decide +kernel⟩,
   ⟨7, 5, 5, ((up .armed).work 8).win1 0x201 10 id, ok_of _ (by decide +kernel), by decide +kernel⟩,
   ⟨7, 5, ((up .armed).work 8).win1 0x200 10 id, ok_of _ (by decide +kernel), by decide +kernel⟩,
   ⟨7, 95, (up .armed).work 8, ok_of _ (by decide +kernel), by decide +kernel⟩,
   ⟨7, 0x117, (up .armed).work 8, ok_of _ (by decide +kernel), by decide +kernel⟩,
   ⟨7, 3, 9, ((up .armed).work 8).w [(F.REED_PDIR_KIND 3 0, 1), (F.REED_PDIR_DMASK 3 0, 1)], ok_of _ (by decide +kernel),
   by decide +kernel⟩,
   ⟨7, 0, 9, ((up .armed).work 8).busy1 2, by decide +kernel⟩,
   ⟨7, ({ run .full with sys := { (run .full).sys with fbFlag := true } } : State).work 8, ok_of _ (by decide +kernel),
   by decide +kernel⟩,
   ⟨.pcie, ({ run .full with sys := { (run .full).sys with fbFlag := true } } : State).eng, ok_of _ (by decide +kernel),
   by decide +kernel⟩,
   ⟨.spi,
   { run .full with sys := { (run .full).sys with fbFlag := true }, regs := { (run .full).regs with same := { (run .full).regs.same with fb := true } } },
   ok_of _ (by decide +kernel), by decide +kernel⟩⟩

theorem test_witness_GuardiansMeter :
    (∃ (g : Nat) (cur : Int) (volt : Nat) (s : State), s.ok ∧ s.grdUsable g = true ∧ s.fullRate = true)
    ∧ (∃ (g : Nat) (cur : Int) (vout vin : Nat) (s : State), s.ok ∧ s.grdUsable g = true ∧ s.sys.mode = .vigil)
    ∧ (∃ (g : Nat) (s : State), s.ok ∧ s.grdUsable g = true ∧ s.fullRate = true)
    ∧ (∃ (p : Port) (g : Nat) (s : State), s.ok ∧ s.portOpen = true ∧ s.grdUsable g = true) :=
  ⟨⟨7, -5, 200, up .armed, ok_of _ (by decide +kernel), by decide +kernel⟩,
   ⟨7, 3, 200, 200, up .vigil, ok_of _ (by decide +kernel), by decide +kernel⟩,
   ⟨0, up .armed, ok_of _ (by decide +kernel), by decide +kernel⟩,
   ⟨.pcie, 7, up .armed, ok_of _ (by decide +kernel), by decide +kernel⟩⟩

theorem test_witness_GuardianTrips :
    (∃ (g : Nat) (s : State), s.ok ∧ s.grdUsable g = true ∧ (s.grd g).st.gateOn = true ∧ s.entriesOf g (fun c => c == 0) = [])
    ∧ (∃ (g : Nat) (s : State), s.ok ∧ s.grdUsable g = true ∧ (s.grd g).st = .ramp ∧ (s.grd g).rampOut = false ∧ (s.grd g).done
    = false ∧ s.get (F.GRD_RAMP_RAMP_T g) * 800000 ≤ elapsed (s.grd g).since s.now ∧ s.entriesOf g (fun c => c == 3) = [])
    ∧ (∃ (g e : Nat) (s : State), s.ok ∧ s.grdUsable g = true ∧ (s.grd g).st = .ramp ∧ (s.grd g).rampOut = false ∧ (s.grd
    g).done = false ∧ s.get (F.GRD_RAMP_RAMP_T g) * 800000 ≤ elapsed (s.grd g).since s.now ∧ s.entriesOf g (fun c => c == 3) =
    [e] ∧ assocGet g s.regs.same.grdHost = none ∧ s.get (F.GRD_RULE_FILT g e) = 0 ∧ s.get (F.GRD_RULE_ACT g e) = 3)
    ∧ (∃ (g e n : Nat) (s : State), s.ok ∧ s.grdUsable g = true ∧ (s.grd g).st = .on ∧ s.entriesOf g (fun c => c == 5) = [e] ∧
    s.get (F.GRD_RULE_ACT g e) = 0 ∧ s.get (F.GRD_RULE_FILT g e) ≤ n ∧ assocGet g s.regs.same.grdHost = none)
    ∧ (∃ (g e n : Nat) (s : State), s.ok ∧ s.grdUsable g = true ∧ s.flag (F.GRD_CFG_XF_EN g) = true ∧ s.fullRate = true ∧
    (s.grd g).st = .on ∧ s.entriesOf g (fun c => c == 6) = [e] ∧ s.get (F.GRD_RULE_ACT g e) = 3 ∧ s.get (F.GRD_RULE_FILT g e) ≤
    n ∧ assocGet g s.regs.same.grdHost = none) :=
  ⟨⟨7, (up .armed).modGrd 7 (fun x => { x with st := .on }), ok_of _ (by decide +kernel), by decide +kernel⟩,
   ⟨7, (up .armed).modGrd 7 (fun x => { x with st := .ramp }), ok_of _ (by decide +kernel), by decide +kernel⟩,
   ⟨7, 7, ((up .armed).modGrd 7 (fun x => { x with st := .ramp })).w [(F.GRD_RULE_EN 7 7, 1), (F.GRD_RULE_COND 7 7, 3),
   (F.GRD_RULE_ACT 7 7, 3), (F.GRD_CFG_XF_EN 7, 1)], ok_of _ (by decide +kernel), by decide +kernel⟩,
   ⟨7, 7, 0, ((up .armed).modGrd 7 (fun x => { x with st := .on })).w [(F.GRD_RULE_EN 7 7, 1), (F.GRD_RULE_COND 7 7, 5),
   (F.GRD_RULE_ACT 7 7, 0), (F.GRD_CFG_XF_EN 7, 1)], ok_of _ (by decide +kernel), by decide +kernel⟩,
   ⟨7, 7, 0, ((up .armed).modGrd 7 (fun x => { x with st := .on })).w [(F.GRD_RULE_EN 7 7, 1), (F.GRD_RULE_COND 7 7, 6),
   (F.GRD_RULE_ACT 7 7, 3), (F.GRD_CFG_XF_EN 7, 1)], ok_of _ (by decide +kernel), by decide +kernel⟩⟩

theorem test_witness_GuardianSupervisionAndInsertion :
    (∃ (g : Nat) (s : State), s.ok ∧ s.grdUsable g = true ∧ s.sys.mode = .dormant ∧ (s.grd g).held = true)
    ∧ (∃ (g : Nat) (a b : Bool) (s : State), s.ok ∧ s.grdUsable g = true ∧ s.sys.mode = .dormant ∧ (s.grd g).held = true ∧ (a
    && b) = false ∧ (s.grd g).uvSlow = 0)
    ∧ (∃ (g : Nat) (s : State), s.ok ∧ s.grdUsable g = true ∧ s.retryOut g = true ∧ s.rampMode = true)
    ∧ (∃ (g x : Nat) (s : State), s.ok ∧ g < 8 ∧ (s.grd g).goodSince = some x ∧ s.get (F.GRD_PRSN_GOOD_T g) ≠ 0 ∧ s.grdPg g =
    true ∧ s.get (F.GRD_PRSN_GOOD_T g) * 32768 ≤ (s.clk.aon - x) * 1000)
    ∧ (∃ (g : Nat) (level : Bool) (s : State), s.ok ∧ s.grdUsable g = true ∧ s.flag (F.GRD_CFG_PRSN_EN g) = true ∧ (s.grd
    g).pin ≠ level ∧ level = s.flag (F.GRD_PRSN_PRSN_POL g) ∧ (s.grd g).st = .waitPrsn)
    ∧ (∃ (g : Nat) (s : State), s.ok ∧ s.grdUsable g = true ∧ s.prsnStable g = true ∧ (s.grd g).prsn = false ∧ (s.grd g).st =
    .debounce ∧ s.flag (F.GRD_CFG_AUTO g) = true ∧ s.flag (F.GRD_CFG_EN g) = true ∧ s.rampMode = true)
    ∧ (∃ (g : Nat) (s : State), s.ok ∧ s.grdUsable g = true ∧ s.prsnGone g = true ∧ (s.grd g).st ≠ .latched)
    ∧ (∃ (g : Nat) (s : State), s.ok ∧ s.grdUsable g = true ∧ s.prsnGone g = true ∧ (s.grd g).st = .latched) :=
  ⟨⟨7, (up .dormant).modGrd 7 (fun x => { x with st := .on, held := true }), ok_of _ (by decide +kernel), by decide +kernel⟩,
   ⟨7, true, false, (up .dormant).modGrd 7 (fun x => { x with st := .on, held := true }), ok_of _ (by decide +kernel),
   by decide +kernel⟩,
   ⟨7, (up .armed).modGrd 7 (fun x => { x with st := .retryWait, delay := 5 }), ok_of _ (by decide +kernel), by decide +kernel⟩,
   ⟨7, 0, ((up .armed).modGrd 7 (fun x => { x with st := .on, goodSince := some 0, vout := 65535 })).w [(F.GRD_PRSN_GOOD_T 7,
   1)], ok_of _ (by decide +kernel), by decide +kernel⟩,
   ⟨7, true, ((up .armed).modGrd 7 (fun x => { x with st := .waitPrsn })).w [(F.GRD_CFG_PRSN_EN 7, 1), (F.GRD_PRSN_PRSN_POL 7,
   1)], ok_of _ (by decide +kernel), by decide +kernel⟩,
   ⟨7, ((up .armed).modGrd 7 (fun x => { x with st := .debounce })).w [(F.GRD_CFG_PRSN_EN 7, 1), (F.GRD_CFG_AUTO 7, 1),
   (F.GRD_CFG_EN 7, 1)], ok_of _ (by decide +kernel), by decide +kernel⟩,
   ⟨7, ((up .armed).modGrd 7 (fun x => { x with st := .on, pin := true, left := true, prsn := true })).w [(F.GRD_CFG_PRSN_EN 7,
   1)], ok_of _ (by decide +kernel), by decide +kernel⟩,
   ⟨7, ((up .armed).modGrd 7 (fun x => { x with st := .latched, pin := true, left := true, prsn := true })).w
   [(F.GRD_CFG_PRSN_EN 7, 1)], ok_of _ (by decide +kernel), by decide +kernel⟩⟩

theorem test_witness_GuardianCommands :
    (∃ (tag : Word) (g : Nat) (s : State), s.ok ∧ s.mqReady = true ∧ s.grdUsable g = true ∧ (s.grd g).st = .off ∧ s.flag
    (F.GRD_CFG_EN g) = true ∧ s.flag (F.GRD_CFG_PRSN_EN g) = false ∧ s.rampMode = true ∧ s.ruleStands g = false)
    ∧ (∃ (p : Port) (g : Nat) (s : State), s.ok ∧ s.portOpen = true ∧ s.grdUsable g = true ∧ (s.grd g).st = .off ∧ s.flag
    (F.GRD_CFG_EN g) = true ∧ s.flag (F.GRD_CFG_PRSN_EN g) = false ∧ s.rampMode = true ∧ s.ruleStands g = false)
    ∧ (∃ (tag : Word) (g : Nat) (s : State), s.ok ∧ s.mqReady = true ∧ s.grdUsable g = true ∧ (s.grd g).st ≠ .latched ∧
    s.ruleStands g = false)
    ∧ (∃ (tag : Word) (g : Nat) (s : State), s.ok ∧ s.mqReady = true ∧ s.grdUsable g = true ∧ (s.grd g).st = .latched ∧ s.flag
    (F.GRD_CFG_CLR_LOCK g) = false)
    ∧ (∃ (tag : Word) (g : Nat) (s : State), s.ok ∧ s.mqReady = true ∧ s.grdUsable g = true ∧ s.flag (F.GRD_CFG_CLR_LOCK g) =
    true)
    ∧ (∃ (tag arg0 arg1 : Word) (g : Nat) (s : State), s.ok ∧ s.mqReady = true ∧ g = arg0.bits 0 3 ∧ s.grdUsable g = true ∧
    s.get (F.GRD_BAND_FT_MIN g) ≤ arg1.bits 0 8 ∧ arg1.bits 0 8 ≤ s.get (F.GRD_BAND_FT_MAX g) ∧ s.get (F.GRD_BAND_ILIM_MIN g) ≤
    arg1.bits 8 8 ∧ arg1.bits 8 8 ≤ s.get (F.GRD_BAND_ILIM_MAX g))
    ∧ (∃ (tag arg0 arg1 : Word) (s : State), s.ok ∧ s.mqReady = true ∧ s.grdUsable (arg0.bits 0 3) = true ∧ arg1.bits 0 8 <
    s.get (F.GRD_BAND_FT_MIN (arg0.bits 0 3))) :=
  ⟨⟨7, 7, ((up .armed).work 8).w [(F.GRD_CFG_EN 7, 1)], ok_of _ (by decide +kernel), by decide +kernel⟩,
   ⟨.pcie, 7, (up .armed).w [(F.GRD_CFG_EN 7, 1)], ok_of _ (by decide +kernel), by decide +kernel⟩,
   ⟨7, 7, ((up .armed).work 8).modGrd 7 (fun x => { x with st := .on }), ok_of _ (by decide +kernel), by decide +kernel⟩,
   ⟨7, 7, ((up .armed).work 8).modGrd 7 (fun x => { x with st := .latched }), ok_of _ (by decide +kernel), by decide +kernel⟩,
   ⟨7, 7, (((up .armed).work 8).modGrd 7 (fun x => { x with st := .latched })).w [(F.GRD_CFG_CLR_LOCK 7, 1)], ok_of _
   (by decide +kernel), by decide +kernel⟩,
   ⟨7, 7, 0x0505, 7, ((up .armed).work 8).w [(F.GRD_BAND_FT_MAX 7, 5), (F.GRD_BAND_ILIM_MAX 7, 5)], ok_of _
   (by decide +kernel), by decide +kernel⟩,
   ⟨7, 7, 0, ((up .armed).work 8).w [(F.GRD_BAND_FT_MIN 7, 1)], ok_of _ (by decide +kernel), by decide +kernel⟩⟩

theorem test_witness_ConvertersFeedTheirTargets :
    (∃ (n e : Nat) (codes : List Int) (s : State), s.ok ∧ s.accepts (s.target n e) (s.get (F.ADC_SEQB_EPOCH n e)) (s.visitLen n
    e) ∧ s.converts n = true ∧ s.bitOf F.ADC_CTRL_EN n = true ∧ (s.conv n).urg = [] ∧ (s.conv n).flight = none ∧ (s.conv
    n).left = 0 ∧ s.nextEntry n = some e ∧ s.filt n e = 1 ∧ codes.map (sampleRange n (s.get (F.ADC_SEQA_IN n e))) = codes ∧
    codes.length = s.discards n e + s.visitLen n e)
    ∧ (∃ (n e : Nat) (rest : List Nat) (codes : List Int) (s : State), s.ok ∧ s.accepts (s.target n e) (s.get (F.ADC_SEQB_EPOCH
    n e)) (s.visitLen n e) ∧ s.converts n = true ∧ (s.conv n).urg = e :: rest ∧ (s.conv n).flight = none ∧ s.flag
    (F.ADC_SEQA_EN n e) = true ∧ s.filt n e = 1 ∧ codes.map (sampleRange n (s.get (F.ADC_SEQA_IN n e))) = codes ∧ codes.length
    = s.discards n e + s.visitLen n e)
    ∧ (∃ (e : Nat) (codes : List Int) (s : State), s.ok ∧ s.accepts (s.target 4 e) (s.get (F.ADC_SEQB_EPOCH 4 e)) (s.visitLen 4
    e) ∧ s.vigilVisitDue = true ∧ s.get F.ADC_VIGIL_ENTRY = e ∧ s.filt 4 e = 1 ∧ codes.map (sampleRange 4 (s.get (F.ADC_SEQA_IN
    4 e))) = codes ∧ codes.length = s.discards 4 e + s.visitLen 4 e)
    ∧ (∃ (k : Nat) (s : State), s.ok ∧ k ∈ s.adc.trigDue ∧ s.flag (F.ADC_ATRIG_EN k) = true ∧ s.converts (s.get
    (F.ADC_ATRIG_CONV k)) = true ∧ (s.conv (s.get (F.ADC_ATRIG_CONV k))).urg.length < 4 ∧ s.get (F.ADC_ATRIG_ENTRY k) ∉ (s.conv
    (s.get (F.ADC_ATRIG_CONV k))).urg)
    ∧ (∃ (g : Nat) (s : State), s.ok ∧ s.recordable g ∧ s.timeCloseDue g = true ∧ s.flag (accEn g) = true)
    ∧ (∃ (g : Nat) (s : State), s.ok ∧ s.recordable g ∧ (s.win g).due = true ∧ (s.win g).open' = true ∧ s.get (accWsrc g) = 2 ∧
    s.flag (accEn g) = true ∧ s.clockRuns = true ∧ s.ang.clamped = false) :=
  ⟨⟨0, 31, [7, 8], ((up .armed).w [(F.ADC_SEQA_EN 0 31, 1), (F.ADC_SEQA_TARGET 0 31, 5), (F.ADC_SEQB_LOOP 0 31, 1),
  (F.ADC_CTRL_EN, 63)]).win1 0x200 0 id, ok_of _ (by decide +kernel), (by unfold State.accepts; decide +kernel),
  by decide +kernel⟩,
   ⟨5, 31, [], [7, 8, 9],
   (({ up .armed with adc := { Adc.initial with convs := setAt (List.replicate 6 Conv.initial) 5 { Conv.initial with urg := [31] } } }
   : State).w [(F.ADC_SEQA_EN 5 31, 1), (F.ADC_SEQA_TARGET 5 31, 5), (F.ADC_SEQB_LOOP 5 31, 1), (F.ADC_CTRL_EN, 63)]).win1
   0x200 0 id, ok_of _ (by decide +kernel), (by unfold State.accepts; decide +kernel), by decide +kernel⟩,
   ⟨31, [7, 8, 9], ((up .vigil).w [(F.ADC_SEQA_EN 4 31, 1), (F.ADC_SEQA_TARGET 4 31, 5), (F.ADC_SEQB_LOOP 4 31, 1),
   (F.ADC_CTRL_EN, 63), (F.ADC_VIGIL_EN, 1), (F.ADC_VIGIL_ENTRY, 31)]).win1 0x200 0 id, ok_of _ (by decide +kernel),
   (by unfold State.accepts; decide +kernel), by decide +kernel⟩,
   ⟨7, ({ up .armed with adc := { Adc.initial with trigDue := [7] } } : State).w [(F.ADC_ATRIG_EN 7, 1), (F.ADC_ATRIG_CONV 7,
   5), (F.ADC_ATRIG_ENTRY 7, 31)], ok_of _ (by decide +kernel), by decide +kernel⟩,
   ⟨5, (up .armed).win1 0x201 10 id, ok_of _ (by decide +kernel), (by unfold State.recordable; decide +kernel),
   by decide +kernel⟩,
   ⟨5, (run .full).win1 0x202 10 (fun x => { x with due := true }), ok_of _ (by decide +kernel),
   (by unfold State.recordable; decide +kernel), by decide +kernel⟩⟩

theorem test_witness_ConverterCommands :
    (∃ (p : Port) (v : Word) (n : Nat) (s : State), s.ok ∧ s.portOpen = true ∧ s.sys.mode.setupOrOn = true ∧ n < 6 ∧ v.bit (8 +
    n) = true ∧ s.convUsable n = true ∧ (∀ m, m < n → (v.bit (8 + m) && s.convUsable m) = false))
    ∧ (∃ (n : Nat) (factors : List Word) (k : CalRun) (s : State), s.ok ∧ s.adc.cal = some k ∧ k.now = n ∧ k.rest = [] ∧ n < 6
    ∧ calTime n ≤ elapsed k.since s.now ∧ factors.length = calGains n ∧ factors.all factorOk = true)
    ∧ (∃ (n : Nat) (factors : List Word) (k : CalRun) (s : State), s.ok ∧ s.adc.cal = some k ∧ k.now = n ∧ k.rest = [] ∧
    calTime n ≤ elapsed k.since s.now ∧ factors.length = calGains n ∧ factors.all factorOk = false)
    ∧ (∃ (p : Port) (v : Word) (n e n' e' : Nat) (s : State), s.ok ∧ s.portOpen = true ∧ s.adc.movePend = none ∧ n = v.bits 0 3
    ∧ e = v.bits 3 5 ∧ n' = v.bits 8 3 ∧ e' = v.bits 11 5 ∧ s.convUsable n = true ∧ s.convUsable n' = true ∧ s.calibrating n =
    false ∧ s.calibrating n' = false ∧ s.flag (F.ADC_SEQA_EN n e) = true ∧ (n = n' ∨ (4 ≤ n ∧ 4 ≤ n')) ∧ s.flag (F.ADC_SEQA_EN
    n' e') = false)
    ∧ (∃ (p : Port) (v : Word) (s : State), s.ok ∧ s.portOpen = true ∧ s.adc.movePend.isSome = true)
    ∧ (∃ (x : Tb) (s : State), s.ok ∧ s.adc.movePend = some x ∧ 16000 ≤ elapsed x s.now)
    ∧ (∃ (p : Port) (g : Nat) (s : State), s.ok ∧ s.portOpen = true ∧ s.accTarget = some g ∧ s.get F.ACC_IDX_WORD < 2)
    ∧ (∃ (p : Port) (g : Nat) (v : Word) (s : State), s.ok ∧ s.portOpen = true ∧ 1 ≤ s.roleOf p ∧ s.accTarget = some g ∧ s.get
    F.ACC_IDX_WORD = 1) :=
  ⟨⟨.pcie, 0x2000, 5, up .armed, ok_of _ (by decide +kernel), by decide +kernel⟩,
   ⟨5, List.replicate 5 0x80000000, { now := 5, rest := [], since := 0 },
   { up .armed with adc := { Adc.initial with cal := some { now := 5, rest := [], since := 0 } }, sys := ((up .armed).busy1 1).sys },
   ok_of _ (by decide +kernel), by decide +kernel⟩,
   ⟨0, [0], { now := 0, rest := [], since := 0 },
   { up .armed with adc := { Adc.initial with cal := some { now := 0, rest := [], since := 0 } }, sys := ((up .armed).busy1 1).sys },
   ok_of _ (by decide +kernel), by decide +kernel⟩,
   ⟨.pcie, 0xFDFC, 4, 31, 5, 31, (up .armed).w [(F.ADC_SEQA_EN 4 31, 1)], ok_of _ (by decide +kernel), by decide +kernel⟩,
   ⟨.pcie, 0, { up .armed with adc := { Adc.initial with movePend := some 0 } }, ok_of _ (by decide +kernel),
   by decide +kernel⟩,
   ⟨0, { up .armed with adc := { Adc.initial with movePend := some 0 } }, ok_of _ (by decide +kernel), by decide +kernel⟩,
   ⟨.pcie, 767, (up .armed).w [(F.ACC_IDX_INDEX, 255), (F.ACC_IDX_TRK, 1), (F.ACC_IDX_WORD, 1)], ok_of _ (by decide +kernel),
   by decide +kernel⟩,
   ⟨.pcie, 511, 9, ((up .setup).w [(F.ACC_IDX_INDEX, 511), (F.ACC_IDX_WORD, 1)]).sess 1 .pcie, ok_of _ (by decide +kernel),
   by decide +kernel⟩⟩

theorem test_witness_TimersActOnTheirEvents :
    (∃ (n : Nat) (s : State), s.ok ∧ (s.tmr n).zeroDue = true ∧ (s.tmr n).matchDue = false ∧ (s.tmr n).past = 0 ∧ (s.tmr
    n).debt = 0 ∧ s.flag (F.TMR_CFG_ONESHOT n) = false ∧ s.get (F.TMR_ACT_ON_ZERO n) = 0)
    ∧ (∃ (n : Nat) (s : State), s.ok ∧ (s.tmr n).zeroDue = true ∧ (s.tmr n).matchDue = false ∧ (s.tmr n).past = 0 ∧ s.flag
    (F.TMR_CFG_ONESHOT n) = true ∧ s.get (F.TMR_ACT_ON_ZERO n) = 1)
    ∧ (∃ (n : Nat) (s : State), s.ok ∧ (s.tmr n).matchDue = true ∧ (s.tmr n).zeroDue = false ∧ s.get (F.TMR_ACT_ON_MATCH n) = 0)
    ∧ (∃ (n : Nat) (s : State), s.ok ∧ (s.tmr n).trig = true ∧ s.tmrGoes n = true ∧ s.get (F.TMR_CFG_SLAVE n) = 2 ∧ (s.tmr
    n).zeroDue = false)
    ∧ (∃ (n : Nat) (s : State), s.ok ∧ (s.tmr n).trig = true ∧ s.tmrGoes n = true ∧ s.get (F.TMR_CFG_SLAVE n) = 3 ∧ (s.tmr
    n).zeroDue = false)
    ∧ (∃ (n : Nat) (s : State), s.ok ∧ s.tmrGoes n = true ∧ s.capSource n true = true)
    ∧ (∃ (n : Nat) (s : State), s.ok ∧ s.tmrGoes n = true ∧ s.capSource n false = true)
    ∧ (∃ s : State, s.ok ∧ s.sys.mode.setupOrOn = true)
    ∧ (∃ (n : Nat) (s : State), n < s.tmrs.length) :=
  ⟨⟨15, ((up .armed).modTmr 15 (fun x => { x with zeroDue := true })).w [(F.TMR_CFG_EN 15, 1)], ok_of _ (by decide +kernel),
  by decide +kernel⟩,
   ⟨15, ((up .armed).modTmr 15 (fun x => { x with zeroDue := true, run := true })).w [(F.TMR_CFG_ONESHOT 15, 1),
   (F.TMR_ACT_ON_ZERO 15, 1)], ok_of _ (by decide +kernel), by decide +kernel⟩,
   ⟨15, ((up .armed).modTmr 15 (fun x => { x with matchDue := true })).w [(F.TMR_CFG_EN 15, 1)], ok_of _ (by decide +kernel),
   by decide +kernel⟩,
   ⟨15, ((up .armed).modTmr 15 (fun x => { x with trig := true, run := true })).w [(F.TMR_CFG_EN 15, 1), (F.TMR_CFG_SLAVE 15,
   2), (F.TMR_RELOAD_RELOAD 15, 9)], ok_of _ (by decide +kernel), by decide +kernel⟩,
   ⟨15, ((up .armed).modTmr 15 (fun x => { x with trig := true, run := true, count := 1 })).w [(F.TMR_CFG_EN 15, 1),
   (F.TMR_CFG_SLAVE 15, 3)], ok_of _ (by decide +kernel), by decide +kernel⟩,
   ⟨15, ((up .armed).modTmr 15 (fun x => { x with run := true, count := 8 })).w [(F.TMR_CFG_EN 15, 1), (F.TMR_PIN_CAP_EN 15,
   1)], ok_of _ (by decide +kernel), by decide +kernel⟩,
   ⟨15, ((up .armed).modTmr 15 (fun x => { x with run := true, count := 8, widthNew := true })).w [(F.TMR_CFG_EN 15, 1),
   (F.TMR_PIN_CAP_EN 15, 1), (F.TMR_PIN_CAP_SRC 15, 31)], ok_of _ (by decide +kernel), by decide +kernel⟩,
   ⟨((up .armed).modTmr 15 (fun x => { x with run := true, count := 8, stopped := some 999000 })).w [(F.TMR_CFG_EN 15, 1),
   (F.TMR_CFG_CLK 15, 2)], ok_of _ (by decide +kernel), by decide +kernel⟩,
   ⟨15, up .armed, by decide +kernel⟩⟩

theorem test_witness_TimerAndComparatorCommands :
    (∃ (p : Port) (v : Word) (s : State), s.ok ∧ s.portOpen = true ∧ s.sys.mode.setupOrOn = true)
    ∧ (∃ (p : Port) (v : Word) (s : State), s.ok ∧ s.portOpen = true)
    ∧ (∃ (p : Port) (n : Nat) (v : Word) (s : State), s.ok ∧ s.portOpen = true ∧ n < 16)
    ∧ (∃ (p : Port) (n : Nat) (v : Word) (s : State), s.ok ∧ s.portOpen = true ∧ n < 16 ∧ s.tmrOnAngle n = true ∧ v.toNat =
    (s.tmr n).count)
    ∧ (∃ (p : Port) (n : Nat) (v : Word) (s : State), s.ok ∧ s.portOpen = true ∧ n < 16 ∧ s.tmrOnAngle n = false)
    ∧ (∃ (b : Nat) (s : State), s.ok ∧ b < s.part.banks ∧ s.analogOn = true ∧ s.testing (cmpBlock (.ghv b)) = false ∧ s.cmpNow
    (.ghv b) ≠ .above)
    ∧ (∃ (b : Nat) (s : State), s.ok ∧ b < s.part.banks ∧ s.analogOn = true ∧ s.testing (cmpBlock (.ghv b)) = false ∧ s.cmpNow
    (.ghv b) ≠ .below)
    ∧ (∃ (n : Nat) (s : State), s.ok ∧ s.wmRuns n = true ∧ s.testing (cmpBlock (.wmHi n)) = false ∧ (s.wmon n).lo = .above ∧
    (s.wmon n).hi = .below) :=
  ⟨⟨.pcie, 0x8000, (up .armed).w [(F.TMR_CFG_EN 15, 1), (F.TMR_RELOAD_RELOAD 15, 4)], ok_of _ (by decide +kernel),
  by decide +kernel⟩,
   ⟨.pcie, 0x8000, ((up .armed).modTmr 15 (fun x => { x with run := true, count := 8 })).w [(F.TMR_CFG_EN 15, 1)], ok_of _
   (by decide +kernel), by decide +kernel⟩,
   ⟨.pcie, 15, 3, ((up .armed).modTmr 15 (fun x => { x with run := true, count := 8 })).w [(F.TMR_CFG_EN 15, 1)], ok_of _
   (by decide +kernel), by decide +kernel⟩,
   ⟨.pcie, 15, 8, ((up .armed).modTmr 15 (fun x => { x with run := true, count := 8 })).w [(F.TMR_CFG_EN 15, 1), (F.TMR_CFG_CLK
   15, 3)], ok_of _ (by decide +kernel), by decide +kernel⟩,
   ⟨.pcie, 15, 8, up .armed, ok_of _ (by decide +kernel), by decide +kernel⟩,
   ⟨23, up .armed, ok_of _ (by decide +kernel), by decide +kernel⟩,
   ⟨23, up .armed, ok_of _ (by decide +kernel), by decide +kernel⟩,
   ⟨7, ({ up .armed with cmps := { Cmps.initial with wm := List.replicate 8 { lo := .above, hi := .below, exits := 65535 } } }
   : State).w [(F.CMP_WMCFG_EN 7, 1)], ok_of _ (by decide +kernel), by decide +kernel⟩⟩

theorem test_witness_StrokesRun :
    (∃ (n : Nat) (ins : List Bool) (s : State), s.ok ∧ s.nibMode n = true ∧ (s.nib n).run = true ∧ s.cycleDue n = true ∧
    s.nibStalls n (s.strokeAt n (s.nib n).st) = true)
    ∧ (∃ (n : Nat) (ins : List Bool) (s : State), (s.cycleDue n = false ∨ s.nibMode n = false ∨ (s.nib n).run = false))
    ∧ (∃ (n k ns : Nat) (ins : List Bool) (s : State), s.ok ∧ s.nibMode n = true ∧ (s.nib n).run = true ∧ s.cycleDue n = true ∧
    k = s.strokeAt n (s.nib n).st ∧ strokeBits k 35 2 = 0 ∧ strokeBits k 39 2 = 0 ∧ strokeBits k 41 1 = 0 ∧ ns = strokeBits k
    (7 * (2 * b2n (s.nibCond n ins (strokeBits k 32 3)) + b2n (s.nibCond n ins (strokeBits k 28 3)))) 7)
    ∧ (∃ (n k : Nat) (ins : List Bool) (s : State), s.ok ∧ s.nibMode n = true ∧ (s.nib n).run = true ∧ s.cycleDue n = true ∧ k
    = s.strokeAt n (s.nib n).st ∧ strokeBits k 35 2 = 1 ∧ strokeBits k 39 2 = 0 ∧ strokeBits k 41 1 = 0 ∧ s.flag
    (F.NIB_CFG_SHDIR n) = false ∧ (s.nib n).bc + 1 < s.nibWidth n)
    ∧ (∃ (n k : Nat) (w : Word) (l : List Word) (ins : List Bool) (s : State), s.ok ∧ s.nibMode n = true ∧ (s.nib n).run = true
    ∧ s.cycleDue n = true ∧ k = s.strokeAt n (s.nib n).st ∧ strokeBits k 35 2 = 2 ∧ strokeBits k 39 2 = 0 ∧ strokeBits k 41 1 =
    0 ∧ s.flag (F.NIB_CFG_SHDIR n) = false ∧ (s.nib n).bc = 0 ∧ (s.nib n).tx = w :: l)
    ∧ (∃ (n k : Nat) (s : State), s.nibPresent n = true ∧ s.flag (F.NIB_CFG_EN n) = true ∧ s.inkEn n k = true) :=
  ⟨⟨7, [], (((up .armed).modNib 7 (fun x => { x with run := true })).w [(F.NIB_CFG_EN 7, 1), (F.NIB_CFG_WIDTH 7, 7),
  (F.NIB_CFG_TXSTALL 7, 1)]).wd [(strokeAddr 7 0 0, 0), (strokeAddr 7 0 1, 0x10)], ok_of _ (by decide +kernel),
  by decide +kernel⟩,
   ⟨7, [], up .armed, by decide +kernel⟩,
   ⟨7, 64, 64, [], (((up .armed).modNib 7 (fun x => { x with run := true, bottom := 0, top := 3 })).w [(F.NIB_CFG_EN 7, 1),
   (F.NIB_CFG_WIDTH 7, 7)]).wd [(strokeAddr 7 0 0, 64), (strokeAddr 7 0 1, 0)], ok_of _ (by decide +kernel), by decide +kernel⟩,
   ⟨7, (8 * 2 ^ 32), [], (((up .armed).modNib 7 (fun x => { x with run := true })).w [(F.NIB_CFG_EN 7, 1), (F.NIB_CFG_WIDTH 7,
   7)]).wd [(strokeAddr 7 0 0, 0), (strokeAddr 7 0 1, 0x8)], ok_of _ (by decide +kernel), by decide +kernel⟩,
   ⟨7, (16 * 2 ^ 32), 0xA5, [], [], (((up .armed).modNib 7 (fun x => { x with run := true, tx := [0xA5] })).w [(F.NIB_CFG_EN 7,
   1), (F.NIB_CFG_WIDTH 7, 7)]).wd [(strokeAddr 7 0 0, 0), (strokeAddr 7 0 1, 0x10)], ok_of _ (by decide +kernel),
   by decide +kernel⟩,
   ⟨7, 7, (up .armed).w [(F.NIB_CFG_EN 7, 1), (⟨R.NIB_INKB 7, 29, 1⟩, 1)], by decide +kernel⟩⟩

theorem test_witness_NibCommands :
    (∃ (p : Port) (n : Nat) (v : Word) (s : State), s.ok ∧ s.portOpen = true ∧ s.nibMode n = true)
    ∧ (∃ (p : Port) (n : Nat) (v : Word) (s : State), s.ok ∧ s.portOpen = true ∧ s.nibPresent n = true ∧ v.bit 0 = false ∧
    v.bit 2 = false ∧ v.bit 3 = false)
    ∧ (∃ (p : Port) (n : Nat) (v : Word) (s : State), s.ok ∧ s.portOpen = true ∧ s.nibMode n = true ∧ v.bit 0 = false ∧ v.bit 1
    = false ∧ v.bit 3 = false)
    ∧ (∃ (p : Port) (n : Nat) (v : Word) (s : State), s.ok ∧ s.portOpen = true ∧ s.nibPresent n = true ∧ v.bit 0 = false ∧
    v.bit 1 = false ∧ v.bit 2 = false)
    ∧ (∃ (p : Port) (n : Nat) (v : Word) (s : State), s.ok ∧ s.portOpen = true ∧ s.nibPresent n = true ∧ (s.fifoLevels n).1 < 8)
    ∧ (∃ (p : Port) (n : Nat) (v : Word) (s : State), s.ok ∧ s.portOpen = true ∧ s.nibPresent n = true ∧ 8 ≤ (s.fifoLevels n).1)
    ∧ (∃ (p : Port) (n : Nat) (w : Word) (l : List Word) (s : State), s.ok ∧ s.portOpen = true ∧ s.nibPresent n = true ∧ (s.nib
    n).rx = w :: l ∧ (s.fifoLevels n).2 ≠ 0)
    ∧ (∃ (p : Port) (n : Nat) (v : Word) (s : State), s.ok ∧ s.portOpen = true ∧ s.nibPresent n = true ∧ 1 ≤ s.roleOf p)
    ∧ (∃ (p : Port) (n : Nat) (s : State), s.ok ∧ s.portOpen = true ∧ s.nibPresent n = true)
    ∧ (∃ (p : Port) (n : Nat) (v : Word) (s : State), s.ok ∧ s.portOpen = true ∧ s.nibPresent n = true ∧ 1 ≤ s.roleOf p ∧
    v.bits 0 6 ≤ v.bits 8 6)
    ∧ (∃ (p : Port) (n : Nat) (v : Word) (s : State), s.ok ∧ s.portOpen = true ∧ s.nibPresent n = true ∧ v.bits 8 6 < v.bits 0
    6) :=
  ⟨⟨.pcie, 7, 1, (up .armed).w [(F.NIB_CFG_EN 7, 1)], ok_of _ (by decide +kernel), by decide +kernel⟩,
   ⟨.pcie, 7, 2, up .armed, ok_of _ (by decide +kernel), by decide +kernel⟩,
   ⟨.pcie, 7, 4, (up .armed).w [(F.NIB_CFG_EN 7, 1)], ok_of _ (by decide +kernel), by decide +kernel⟩,
   ⟨.pcie, 7, 8, up .armed, ok_of _ (by decide +kernel), by decide +kernel⟩,
   ⟨.pcie, 7, 9, up .armed, ok_of _ (by decide +kernel), by decide +kernel⟩,
   ⟨.pcie, 7, 9, (up .armed).modNib 7 (fun x => { x with tx := List.replicate 8 0 }), ok_of _ (by decide +kernel),
   by decide +kernel⟩,
   ⟨.pcie, 7, 9, [], (up .armed).modNib 7 (fun x => { x with rx := [9] }), ok_of _ (by decide +kernel), by decide +kernel⟩,
   ⟨.pcie, 7, 9, ((up .setup).w [(F.NIB_SIDX_IDX 7, 63)]).sess 1 .pcie, ok_of _ (by decide +kernel), by decide +kernel⟩,
   ⟨.pcie, 7, up .armed, ok_of _ (by decide +kernel), by decide +kernel⟩,
   ⟨.pcie, 7, 0x0303, (up .setup).sess 1 .pcie, ok_of _ (by decide +kernel), by decide +kernel⟩,
   ⟨.pcie, 7, 0x0203, up .armed, ok_of _ (by decide +kernel), by decide +kernel⟩⟩

theorem test_witness_ConcentratorDelivers :
    (∃ (k : Nat) (s : State), s.ok ∧ s.sys.mode.evcRuns = true ∧ s.groupDue k = true)
    ∧ (∃ (n g : Nat) (s : State), s.ok ∧ (∀ m, m ≠ n → ((s.src m).ready && (s.src m).pend) = false) ∧ s.sys.mode.evcRuns = true
    ∧ (s.src n).ready = true ∧ (s.src n).pend = true ∧ s.pick (s.evc.targets.map Target.idle) n = some g)
    ∧ (∃ (p : Port) (g n : Nat) (s : State), s.ok ∧ s.portOpen = true ∧ g < 4 ∧ n < 64 ∧ n ∈ (s.tgt g).pres ∧ (s.tgt
    g).stack.length < 4)
    ∧ (∃ (p : Port) (g n : Nat) (s : State), s.ok ∧ s.portOpen = true ∧ g < 4 ∧ n < 64 ∧ n ∉ (s.tgt g).pres)
    ∧ (∃ (p : Port) (g n m : Nat) (l : List Nat) (s : State), s.ok ∧ s.portOpen = true ∧ g < 4 ∧ n < 64 ∧ (s.tgt g).stack = n
    :: m :: l ∧ s.levelSrc n = false ∧ (s.src n).late = 0)
    ∧ (∃ (p : Port) (g n : Nat) (s : State), s.ok ∧ s.portOpen = true ∧ g < 4 ∧ n < 64 ∧ (s.tgt g).stack = [n] ∧ s.levelSrc n =
    false ∧ (s.src n).late = 0 ∧ n ∉ (s.tgt g).pres)
    ∧ (∃ (p : Port) (g n m : Nat) (l : List Nat) (s : State), s.ok ∧ s.portOpen = true ∧ g < 4 ∧ n < 64 ∧ (s.tgt g).stack = m
    :: l ∧ m ≠ n)
    ∧ (∃ (p : Port) (g n : Nat) (s : State), s.ok ∧ s.portOpen = true ∧ g < 4 ∧ n < 64 ∧ (s.tgt g).stack = [])
    ∧ (∃ (p : Port) (g : Nat) (s : State), s.ok ∧ s.portOpen = true ∧ g < 4 ∧ (s.tgt g).stack = [])
    ∧ (∃ (p : Port) (g : Nat) (s : State), s.ok ∧ s.portOpen = true ∧ g < 4 ∧ (s.tgt g).stack ≠ [])
    ∧ (∃ (n : Nat) (s : State), s.ok ∧ n < 8 ∧ s.sys.mode.evcRuns = true ∧ s.flag (F.CMP_WMCFG_EXT n) = false ∧ s.flag
    (F.EVC_EXTCFG_EN n) = true ∧ s.get (F.EVC_EXTCFG_MODE n) = 0 ∧ s.evc.ext.getD n false = false) :=
  ⟨⟨15,
  { up .armed with evc := { Evc.initial with groups := setAt Evc.initial.groups 15 { count := 1, since := some 0, ready := false } } },
  ok_of _ (by decide +kernel), by decide +kernel⟩,
   ⟨63, 0,
   ({ up .armed with evc := { Evc.initial with srcs := setAt Evc.initial.srcs 63 { Src.initial with pend := true, ready := true } } }
   : State).w [(⟨R.EVC_ROUTE 7, 28, 4⟩, 1)], ok_of _ (by decide +kernel), fun m h => lone_source m h _ rfl, by decide +kernel⟩,
   ⟨.pcie, 3, 63,
   { up .armed with evc := { Evc.initial with targets := setAt Evc.initial.targets 3 { Target.initial with pres := [63], delivered := true } } },
   ok_of _ (by decide +kernel), by decide +kernel⟩,
   ⟨.pcie, 3, 63,
   { up .armed with evc := { Evc.initial with targets := setAt Evc.initial.targets 3 { Target.initial with pres := [62] } } },
   ok_of _ (by decide +kernel), by decide +kernel⟩,
   ⟨.pcie, 3, 63, 1, [],
   { up .armed with evc := { Evc.initial with targets := setAt Evc.initial.targets 3 { Target.initial with stack := [63, 1] } } },
   ok_of _ (by decide +kernel), by decide +kernel⟩,
   ⟨.pcie, 3, 63,
   { up .armed with evc := { Evc.initial with targets := setAt Evc.initial.targets 3 { Target.initial with stack := [63], pres := [1] } } },
   ok_of _ (by decide +kernel), by decide +kernel⟩,
   ⟨.pcie, 3, 63, 1, [],
   { up .armed with evc := { Evc.initial with targets := setAt Evc.initial.targets 3 { Target.initial with stack := [1] } } },
   ok_of _ (by decide +kernel), by decide +kernel⟩,
   ⟨.pcie, 3, 63, up .armed, ok_of _ (by decide +kernel), by decide +kernel⟩,
   ⟨.pcie, 3,
   { up .armed with evc := { Evc.initial with targets := setAt Evc.initial.targets 3 { Target.initial with pres := [63], delivered := true } } },
   ok_of _ (by decide +kernel), by decide +kernel⟩,
   ⟨.pcie, 3,
   { up .armed with evc := { Evc.initial with targets := setAt Evc.initial.targets 3 { Target.initial with stack := [63] } } },
   ok_of _ (by decide +kernel), by decide +kernel⟩,
   ⟨7, (up .armed).w [(F.EVC_EXTCFG_EN 7, 1)], ok_of _ (by decide +kernel), by decide +kernel⟩⟩

theorem test_witness_ModeRequests :
    (∃ (p : Port) (vigil : Bool) (s : State), s.ok ∧ s.portOpen = true ∧ s.pending.any outranks = false ∧ s.sys.mode = .armed ∧
    s.workOut = false)
    ∧ (∃ (p : Port) (vigil : Bool) (s : State), s.ok ∧ s.portOpen = true ∧ s.pending.any outranks = false ∧ s.sys.mode ≠ .armed)
    ∧ (∃ (p : Port) (s : State), s.ok ∧ s.portOpen = true ∧ s.pending.any outranks = false ∧ s.sys.mode.engine = true)
    ∧ (∃ (p : Port) (s : State), s.ok ∧ s.portOpen = true ∧ s.pending.any outranks = false ∧ s.sys.mode = .armed ∧ 1 ≤ s.roleOf
    p ∧ s.workOut = false)
    ∧ (∃ (p : Port) (s : State), s.ok ∧ s.portOpen = true ∧ s.pending.any outranks = false ∧ s.sys.mode = .setup ∧ 1 ≤ s.roleOf
    p ∧ s.sys.image = 0 ∧ s.regs.dirty = [] ∧ s.clk.dieTrained = true)
    ∧ (∃ (p : Port) (s : State), s.ok ∧ s.portOpen = true ∧ s.pending.any outranks = false ∧ s.sys.mode = .setup ∧ 2 ≤ s.roleOf
    p)
    ∧ (∃ (p : Port) (s : State), s.ok ∧ s.portOpen = true ∧ s.pending.any outranks = false ∧ s.sys.mode = .maint ∧ 2 ≤ s.roleOf
    p)
    ∧ (∃ (p : Port) (s : State), s.ok ∧ s.portOpen = true ∧ s.pending.any outranks = true) :=
  ⟨⟨.pcie, true, up .armed, ok_of _ (by decide +kernel), by decide +kernel⟩,
   ⟨.pcie, false, up .seek, ok_of _ (by decide +kernel), by decide +kernel⟩,
   ⟨.spi, up .suspect, ok_of _ (by decide +kernel), by decide +kernel⟩,
   ⟨.pcie, (up .armed).sess 1 .pcie, ok_of _ (by decide +kernel), by decide +kernel⟩,
   ⟨.pcie, (up .setup).sess 1 .pcie, ok_of _ (by decide +kernel), by decide +kernel⟩,
   ⟨.pcie, (up .setup).sess 2 .pcie, ok_of _ (by decide +kernel), by decide +kernel⟩,
   ⟨.pcie, (up .maint).sess 2 .pcie, ok_of _ (by decide +kernel), by decide +kernel⟩,
   ⟨.spi, { up .armed with pending := [.stopPin] }, ok_of _ (by decide +kernel), by decide +kernel⟩⟩

theorem test_witness_SleepAndWake :
    (∃ s : State, s.ok ∧ s.idleDue = true)
    ∧ (∃ (k : Sleep) (s : State), s.ok ∧ s.sys.sleep = some k ∧ s.sys.mode = .armed ∧ s.sleepReady = true)
    ∧ (∃ (k : Sleep) (s : State), s.ok ∧ s.sys.sleep = some k ∧ 80000000 < elapsed k.since s.now)
    ∧ (∃ (w : WakeSrc) (s : State), s.ok ∧ s.wakes w = true ∧ s.sys.sleep = none ∧ s.sys.mode.asleep = true)
    ∧ (∃ (w : WakeSrc) (k : Sleep) (s : State), s.ok ∧ s.wakes w = true ∧ s.sys.sleep = some k) :=
  ⟨⟨({ up .armed with sys := { (up .armed).sys with idleSince := some 0 } } : State).w [(F.SYS_MODECFG_IDLE_T, 30)], ok_of _
  (by decide +kernel), by decide +kernel⟩,
   ⟨{ vigil := true, since := 0 },
   { up .armed with sys := { (up .armed).sys with sleep := some { vigil := true, since := 0 } } }, ok_of _ (by decide +kernel),
   by decide +kernel⟩,
   ⟨{ vigil := true, since := 0 },
   { up .armed with sys := { (up .armed).sys with sleep := some { vigil := true, since := 0 } } }, ok_of _ (by decide +kernel),
   by decide +kernel⟩,
   ⟨.key, (up .dormant).w [(F.SYS_WAKECFG_KEY_EN, 1)], ok_of _ (by decide +kernel), by decide +kernel⟩,
   ⟨.input, { vigil := true, since := 0 },
   ({ up .armed with sys := { (up .armed).sys with sleep := some { vigil := true, since := 0 } } } : State).w
   [(F.SYS_WAKECFG_IN_EN, 1)], ok_of _ (by decide +kernel), by decide +kernel⟩⟩

theorem test_witness_SafestopAndItsCauses :
    (∃ s : State, s.ok ∧ s.sys.mode.engine = true)
    ∧ (∃ s : State, s.ok ∧ s.sys.mode.engine = true)
    ∧ (∃ s : State, s.ok ∧ s.sys.mode = .safestop)
    ∧ (∃ s : State, s.ok ∧ s.sys.mode = .setup)
    ∧ (∃ s : State, s.ok ∧ s.flag F.SYS_SAFECFG_STOP_EN = true ∧ s.sys.mode.engine = true)
    ∧ (∃ (c : Nat) (s : State), s.ok ∧ s.causeOver c = true)
    ∧ (∃ (p : Port) (s : State), s.ok ∧ s.portOpen = true ∧ s.sys.mode = .safestop ∧ s.sys.safeActive = [] ∧ s.flag
    F.SYS_SAFECFG_EXIT_I = false ∧ s.sys.fbPend = false ∧ s.pending.any outranks = false)
    ∧ (∃ (tag : Word) (s : State), s.ok ∧ s.mqReady = true ∧ s.sys.mode = .safestop ∧ s.sys.safeActive ≠ [] ∧ s.flag
    F.SYS_SAFECFG_EXIT_I = false)
    ∧ (∃ s : State, s.ok ∧ s.clk.dieTrained = true ∧ s.sys.mode.engine = true)
    ∧ (∃ (x : Tb) (s : State), s.ok ∧ s.clk.dieLostAt = some x ∧ 80000 ≤ elapsed x s.now)
    ∧ (∃ (x : Tb) (s : State), s.ok ∧ s.clk.dieLostAt = some x ∧ 80000 ≤ elapsed x s.now)
    ∧ (∃ s : State, s.ok ∧ s.clk.tbRun = true ∧ s.sys.mode.engine = true)
    ∧ (∃ s : State, s.flag F.SYS_CLKCFG_AON_SRC = true ∧ s.sys.mode ≠ .off) :=
  ⟨⟨up .armed, ok_of _ (by decide +kernel), by decide +kernel⟩,
   ⟨up .suspect, ok_of _ (by decide +kernel), by decide +kernel⟩,
   ⟨up .safestop, ok_of _ (by decide +kernel), by decide +kernel⟩,
   ⟨up .setup, ok_of _ (by decide +kernel), by decide +kernel⟩,
   ⟨(up .half).w [(F.SYS_SAFECFG_STOP_EN, 1)], ok_of _ (by decide +kernel), by decide +kernel⟩,
   ⟨6, { up .safestop with sys := { (up .safestop).sys with safeActive := [6] } }, ok_of _ (by decide +kernel),
   by decide +kernel⟩,
   ⟨.pcie, up .safestop, ok_of _ (by decide +kernel), by decide +kernel⟩,
   ⟨7, ({ up .safestop with sys := { (up .safestop).sys with safeActive := [6] } } : State).work 8, ok_of _
   (by decide +kernel), by decide +kernel⟩,
   ⟨up .full, ok_of _ (by decide +kernel), by decide +kernel⟩,
   ⟨0, { up .safestop with clk := { (up .safestop).clk with dieTrained := false, dieLostAt := some 0 } }, ok_of _
   (by decide +kernel), by decide +kernel⟩,
   ⟨0, { up .safestop with clk := { (up .safestop).clk with dieTrained := false, dieLostAt := some 0 } }, ok_of _
   (by decide +kernel), by decide +kernel⟩,
   ⟨up .full, ok_of _ (by decide +kernel), by decide +kernel⟩,
   ⟨(up .setup).w [(F.SYS_CLKCFG_AON_SRC, 1)], by decide +kernel⟩⟩

theorem test_witness_FallbackCausesAndThePlan :
    (∃ (p : Port) (s : State), s.ok ∧ s.portOpen = true)
    ∧ (∃ (p : Port) (v : Word) (s : State), s.ok ∧ s.portOpen = true ∧ 1 ≤ s.roleOf p)
    ∧ (∃ (p : Port) (v : Word) (s : State), s.ok ∧ s.portOpen = true ∧ s.roleOf p = 0)
    ∧ (∃ (e : Nat) (s : State), s.ok ∧ s.planDue e = true ∧ s.free ≠ 0 ∧ s.admitCheck (s.planDesc e) 0 = none)
    ∧ (∃ (e c : Nat) (s : State), s.ok ∧ s.planDue e = true ∧ s.free ≠ 0 ∧ s.admitCheck (s.planDesc e) 0 = some c ∧ s.flag
    F.HIF_FBCFG_FB_RES = false)
    ∧ (∃ s : State, s.silenceDue = true ∧ (s.sys.mode = .armed ∨ s.sys.mode = .seek ∨ s.sys.mode = .safestop))
    ∧ (∃ s : State, s.silenceDue = true ∧ (s.sys.mode = .half ∨ s.sys.mode = .full ∨ s.sys.mode = .suspect) ∧ s.planOn = true)
    :=
  ⟨⟨.pcie, (up .armed).w [(fbIndex, 4095)], ok_of _ (by decide +kernel), by decide +kernel⟩,
   ⟨.pcie, 9, ((up .setup).w [(fbIndex, 4095)]).sess 1 .pcie, ok_of _ (by decide +kernel), by decide +kernel⟩,
   ⟨.pcie, 9, up .setup, ok_of _ (by decide +kernel), by decide +kernel⟩,
   ⟨0, logOn ((({ run .full with sys := { (run .full).sys with fbFlag := true, fbDue := [0] } } : State).w [(F.SYS_FBPLAN_EN,
   1), (F.SYS_FBPLAN_ENTRIES, 1), (F.SYS_FBCYL_CYL, 1)]).wd [(planAddr 0 1, 7), (planAddr 0 2, 100000), (planAddr 0 4,
   0x80000000), (planAddr 0 7, 1000)]), ok_of _ (by decide +kernel), by decide +kernel⟩,
   ⟨0, 13, ((({ run .full with sys := { (run .full).sys with fbFlag := true, fbDue := [0] } } : State).w [(F.SYS_FBPLAN_EN, 1),
   (F.SYS_FBPLAN_ENTRIES, 1), (F.SYS_FBCYL_CYL, 1)]).wd [(planAddr 0 1, 7), (planAddr 0 2, 100000), (planAddr 0 4, 0x80000000),
   (planAddr 0 7, 1000)]), ok_of _ (by decide +kernel), by decide +kernel⟩,
   ⟨(up .armed).w [(F.HIF_SILENCE_SILENCE, 1)], by decide +kernel⟩,
   ⟨(up .full).w [(F.HIF_SILENCE_SILENCE, 1), (F.SYS_FBPLAN_EN, 1), (F.SYS_FBPLAN_ENTRIES, 1)], by decide +kernel⟩⟩

theorem test_witness_ResetsAndBoot :
    (∃ (p : Port) (v : Word) (s : State), s.ok ∧ s.portOpen = true ∧ 1 ≤ s.roleOf p ∧ v.bits 0 16 = 0x5EED)
    ∧ (∃ (p : Port) (v : Word) (s : State), s.ok ∧ s.portOpen = true ∧ s.roleOf p = 0 ∧ v.bits 0 16 ≠ 0)
    ∧ (∃ (r : BrownRail) (s : State), s.ok ∧ s.sys.mode ≠ .off ∧ s.sys.mode.asleep = false)
    ∧ (∃ s : State, s.ok ∧ s.sys.mode = .boot ∧ s.sys.bootStep = 0)
    ∧ (∃ s : State, s.ok)
    ∧ (∃ s : State, s.ok ∧ s.sys.mode = .off)
    ∧ (∃ s : State, s.sys.mode = .boot ∧ s.sys.bootStep = 1 ∧ s.sys.missing = [])
    ∧ (∃ s : State, s.sys.mode = .boot ∧ s.sys.bootStep = 2)
    ∧ (∃ s : State, s.ok ∧ s.sys.mode = .boot ∧ s.sys.bootStep = 3)
    ∧ (∃ s : State, s.ok ∧ s.sys.mode = .boot ∧ s.sys.bootStep = 5 ∧ s.regs.imgKind = 0)
    ∧ (∃ s : State, s.ok ∧ s.sys.mode = .boot ∧ s.sys.bootStep = 5 ∧ s.regs.imgKind ≠ 0)
    ∧ (∃ s : State, s.ok ∧ s.sys.mode = .boot ∧ s.sys.bootStep = 6 ∧ s.tst.running = false ∧ s.sys.image ≠ 0)
    ∧ (∃ s : State, s.ok ∧ s.sys.mode = .boot ∧ s.sys.bootStep = 6 ∧ s.tst.running = false ∧ s.sys.image = 0 ∧ s.sys.bootWake =
    false ∧ s.get F.SYS_MODECFG_BOOT_TO = 0 ∧ s.clk.dieTrained = true)
    ∧ (∃ (r : BrownRail) (s : State), s.ok ∧ s.sys.mode.asleep = true)
    ∧ (∃ s : State, s.sys.mode = .boot ∧ s.sys.bootStep = 1 ∧ s.sys.missing ≠ []) :=
  ⟨⟨.pcie, 0x5EED, (up .setup).sess 1 .pcie, ok_of _ (by decide +kernel), by decide +kernel⟩,
   ⟨.spi, 1, up .setup, ok_of _ (by decide +kernel), by decide +kernel⟩,
   ⟨.vio, up .armed, ok_of _ (by decide +kernel), by decide +kernel⟩,
   ⟨{ State.reset with sys := { State.reset.sys with bootStep := 0 } }, ok_of _ (by decide +kernel), by decide +kernel⟩,
   ⟨up .armed, ok_of _ (by decide +kernel)⟩,
   ⟨up .off, ok_of _ (by decide +kernel), by decide +kernel⟩,
   ⟨{ State.reset with sys := { State.reset.sys with bootStep := 1 } }, by decide +kernel⟩,
   ⟨{ State.reset with sys := { State.reset.sys with bootStep := 2 } }, by decide +kernel⟩,
   ⟨{ State.reset with sys := { State.reset.sys with bootStep := 3 } }, ok_of _ (by decide +kernel), by decide +kernel⟩,
   ⟨{ State.reset with sys := { State.reset.sys with bootStep := 5 }, regs := { State.reset.regs with imgKind := 0 } }, ok_of _
   (by decide +kernel), by decide +kernel⟩,
   ⟨{ State.reset with sys := { State.reset.sys with bootStep := 5 } }, ok_of _ (by decide +kernel), by decide +kernel⟩,
   ⟨{ State.reset with sys := { State.reset.sys with bootStep := 6, image := 1 } }, ok_of _ (by decide +kernel),
   by decide +kernel⟩,
   ⟨{ State.reset with sys := { State.reset.sys with bootStep := 6 }, clk := { State.reset.clk with dieTrained := true } },
   ok_of _ (by decide +kernel), by decide +kernel⟩,
   ⟨.vcore, up .dormant, ok_of _ (by decide +kernel), by decide +kernel⟩,
   ⟨{ State.reset with sys := { State.reset.sys with bootStep := 1, missing := [3] } }, by decide +kernel⟩⟩

theorem test_witness_SessionsOpenAndEnd :
    (∃ (p : Port) (v : Word) (s : State), s.portOpen = true ∧ v.bit 2 = true ∧ s.sec.lockedAt = none ∧ s.sec.role = 0 ∧
    s.sys.mode.opens (v.bits 0 2) = true)
    ∧ (∃ (p : Port) (v : Word) (s : State), s.portOpen = true ∧ v.bit 2 = true ∧ s.sec.lockedAt = none ∧ s.sec.role = 0 ∧
    s.sys.mode.opens (v.bits 0 2) = false)
    ∧ (∃ s : State, s.sec.chalReq.isSome = true)
    ∧ (∃ (c : BitVec 128) (x : Tb) (s : State), s.sec.chal = some (c, x) ∧ 800000000 ≤ elapsed x s.now)
    ∧ (∃ (p : Port) (v : Word) (s : State), s.portOpen = true ∧ v.bit 3 = true ∧ s.sec.lockedAt = none ∧ s.sec.role = 0 ∧
    s.sys.mode.opens (v.bits 0 2) = true ∧ s.jFull = false)
    ∧ (∃ (p : Port) (v : Word) (x : Tb) (s : State), s.ok ∧ s.portOpen = true ∧ v.bit 3 = true ∧ s.sec.lockedAt = some x)
    ∧ (∃ (p : Port) (v : Word) (x : Tb) (s : State), s.ok ∧ s.portOpen = true ∧ v.bit 2 = true ∧ s.sec.lockedAt = some x)
    ∧ (∃ (p : Port) (v : Word) (x : Tb) (s : State), s.ok ∧ s.portOpen = true ∧ v.bit 5 = true ∧ s.sec.lockedAt = some x)
    ∧ (∃ (role : Nat) (b : Busy) (s : State), s.ok ∧ s.sec.unlock = some (role, false) ∧ s.sys.busy = some b ∧ 480000 ≤ elapsed
    b.since s.now ∧ s.macOk role b.port = true)
    ∧ (∃ (role : Nat) (b : Busy) (s : State), s.ok ∧ s.sec.unlock = some (role, false) ∧ s.sys.busy = some b ∧ 480000 ≤ elapsed
    b.since s.now ∧ s.macOk role b.port = false ∧ s.sec.fails = 2)
    ∧ (∃ (p : Port) (v : Word) (s : State), s.ok ∧ s.portOpen = true ∧ v.bit 4 = true ∧ s.sec.role ≠ 0 ∧ s.sec.port = p)
    ∧ (∃ s : State, s.ok ∧ s.idleOver = true)
    ∧ (∃ (x : Tb) (s : State), s.sec.lockedAt = some x ∧ 8000000000 ≤ elapsed x s.now)
    ∧ (∃ (x : Tb) (s : State), s.sec.lockedAt = some x ∧ elapsed x s.now < 8000000000)
    ∧ (∃ (p : Port) (v : Word) (s : State), s.busyOp = 3 ∧ v.bit 0 = true ∧ s.endsNow = false)
    ∧ (∃ (p : Port) (v : Word) (s : State), s.ok ∧ s.endsNow = true) :=
  ⟨⟨.pcie, 5, up .setup, by decide +kernel⟩,
   ⟨.pcie, 6, up .armed, by decide +kernel⟩,
   ⟨{ up .setup with sec := { Sec.initial with chalReq := some 1 } }, by decide +kernel⟩,
   ⟨0, 0, { up .setup with sec := { Sec.initial with chal := some (0, 0) } }, by decide +kernel⟩,
   ⟨.pcie, 9, up .setup, by decide +kernel⟩,
   ⟨.pcie, 9, 5, { up .setup with sec := { Sec.initial with lockedAt := some 5 } }, ok_of _ (by decide +kernel),
   by decide +kernel⟩,
   ⟨.pcie, 5, 5, { up .setup with sec := { Sec.initial with lockedAt := some 5 } }, ok_of _ (by decide +kernel),
   by decide +kernel⟩,
   ⟨.pcie, 0x21, 5, { up .setup with sec := { Sec.initial with lockedAt := some 5 } }, ok_of _ (by decide +kernel),
   by decide +kernel⟩,
   mac_witness,
   ⟨1, { op := 3, port := .pcie, since := 0 },
   { (up .setup).busy1 3 with sec := { Sec.initial with unlock := some (1, false), fails := 2 } }, ok_of _ (by decide +kernel),
   by decide +kernel⟩,
   ⟨.spi, 16, { up .setup with sec := { Sec.initial with role := 1, port := .spi } }, ok_of _ (by decide +kernel),
   by decide +kernel⟩,
   ⟨({ up .setup with sec := { Sec.initial with role := 1, idle := 800000000 } } : State).w [(F.SEC_SESSCFG_IDLE, 1)], ok_of _
   (by decide +kernel), by decide +kernel⟩,
   ⟨292000000000, { up .setup with sec := { Sec.initial with lockedAt := some 292000000000 } }, by decide +kernel⟩,
   ⟨292000000001, { up .setup with sec := { Sec.initial with lockedAt := some 292000000001 } }, by decide +kernel⟩,
   ⟨.pcie, 1, { (up .setup).busy1 3 with sec := { Sec.initial with unlock := some (1, false) } }, by decide +kernel⟩,
   ⟨.pcie, 1,
   { ({ (up .setup).busy1 6 with sec := { Sec.initial with sealing := true } } : State) with pending := [.sealDone] }, ok_of _
   (by decide +kernel), by decide +kernel⟩⟩

theorem test_witness_KeysAndTheJournal :
    (∃ (p : Port) (v : Word) (s : State), s.portOpen = true ∧ v.bit 5 = true ∧ v.bits 0 2 = 1 ∧ s.sec.lockedAt = none ∧
    s.sec.role = 0 ∧ s.sys.mode.opens 1 = true ∧ s.sec.ikey = none ∧ s.jFull = false)
    ∧ (∃ (b : Busy) (s : State), s.ok ∧ s.sec.unlock = some (1, true) ∧ s.sys.busy = some b ∧ 480000 ≤ elapsed b.since s.now)
    ∧ (∃ (p : Port) (v : Word) (s : State), s.ok ∧ s.portOpen = true ∧ v.bit 0 = true ∧ s.isMaker p = true ∧ s.jFull = false)
    ∧ (∃ (p : Port) (v : Word) (s : State), s.ok ∧ s.portOpen = true ∧ v.bit 0 = true ∧ s.isMaker p = false)
    ∧ (∃ (p : Port) (v : Word) (s : State), s.ok ∧ s.portOpen = true ∧ v.bit 1 = true ∧ s.isMaker p = true ∧ s.jFull = false)
    ∧ (∃ (p : Port) (s : State), s.ok ∧ s.portOpen = true)
    ∧ (∃ (p : Port) (v : Word) (s : State), s.portOpen = true ∧ v.bit 0 = true ∧ s.isMaker p = true)
    ∧ (∃ s : State, s.sec.exporting = true)
    ∧ (∃ (p : Port) (v : Word) (s : State), s.portOpen = true ∧ v.bit 1 = true ∧ s.isMaker p = true ∧ s.sealable = true ∧
    words128 s.sec.key = s.sec.sealVal)
    ∧ (∃ (p : Port) (v : Word) (s : State), s.portOpen = true ∧ v.bit 1 = true ∧ s.isMaker p = true ∧ s.sealable = false)
    ∧ (∃ (b : Busy) (s : State), s.ok ∧ s.sys.busy = some b ∧ s.sec.sealing = true) :=
  ⟨⟨.pcie, 0x21, up .setup, by decide +kernel⟩,
   ⟨{ op := 3, port := .pcie, since := 0 },
   { (up .setup).busy1 3 with sec := { Sec.initial with unlock := some (1, true), key := [1, 2, 3, 4] } }, ok_of _
   (by decide +kernel), by decide +kernel⟩,
   ⟨.pcie, 1, { up .maint with sec := { Sec.initial with role := 2 } }, ok_of _ (by decide +kernel), by decide +kernel⟩,
   ⟨.pcie, 1, up .setup, ok_of _ (by decide +kernel), by decide +kernel⟩,
   ⟨.pcie, 2, { up .maint with sec := { Sec.initial with role := 2 } }, ok_of _ (by decide +kernel), by decide +kernel⟩,
   ⟨.pcie, (up .armed).w [(jIndex, 65535)], ok_of _ (by decide +kernel), by decide +kernel⟩,
   ⟨.pcie, 1, { up .maint with sec := { Sec.initial with role := 2 } }, by decide +kernel⟩,
   ⟨{ (up .setup).busy1 5 with sec := { Sec.initial with exporting := true } }, by decide +kernel⟩,
   ⟨.pcie, 2, { up .maint with sec := { Sec.initial with role := 2, sealValid := true } }, by decide +kernel⟩,
   ⟨.pcie, 2, { up .maint with sec := { Sec.initial with role := 2 } }, by decide +kernel⟩,
   ⟨{ op := 6, port := .pcie, since := 0 }, { (up .setup).busy1 6 with sec := { Sec.initial with sealing := true } }, ok_of _
   (by decide +kernel), by decide +kernel⟩⟩

theorem test_witness_CommitAndDiscard :
    (∃ (p : Port) (v : Word) (s : State), s.portOpen = true ∧ v.bit 0 = true ∧ v.bit 1 = false ∧ s.sys.mode.setupOrOn = true)
    ∧ (∃ (k : CommitRun) (s : State), s.ok ∧ s.sec.commit = some k ∧ s.regs.dirty ≠ [] ∧ s.commitFault k.role = none ∧
    s.busyFor k.wr = true ∧ s.hif.mqHeld = none ∧ setBits (s.shadowWord R.WHL_TEETH) 10 22 0 = setBits (s.word R.WHL_TEETH) 10
    22 0)
    ∧ (∃ (k : CommitRun) (s : State), s.ok ∧ s.sec.commit = some k ∧ s.regs.dirty = [] ∧ s.hif.mqHeld = none)
    ∧ (∃ (k : CommitRun) (a : Nat) (s : State), s.ok ∧ s.sec.commit = some k ∧ s.regs.dirty ≠ [] ∧ s.commitFault k.role = some
    (.range a) ∧ s.hif.mqHeld = none)
    ∧ (∃ (p : Port) (v : Word) (s : State), s.ok ∧ s.portOpen = true ∧ v.bit 1 = true ∧ v.bit 0 = false ∧ 1 ≤ s.roleOf p)
    ∧ (∃ (p : Port) (v : Word) (s : State), s.ok ∧ s.portOpen = true ∧ v.bit 1 = true ∧ v.bit 0 = false ∧ s.roleOf p = 0 ∧ (∀ x
    ∈ s.regs.writers, x.2 = 0))
    ∧ (∃ (p : Port) (v : Word) (x : Nat × Nat) (s : State), s.ok ∧ s.portOpen = true ∧ v.bit 1 = true ∧ v.bit 0 = false ∧
    s.roleOf p = 0 ∧ x ∈ s.regs.writers ∧ 0 < x.2) :=
  ⟨⟨.pcie, 1, up .setup, by decide +kernel⟩,
   ⟨{ role := 1, port := .pcie, wr := 6400000 },
   ({ (up .setup).busy1 2 with sec := { Sec.initial with commit := some { role := 1, port := .pcie, wr := 6400000 } } } :
   State).sound, ok_of _ (by decide +kernel), by decide +kernel⟩,
   ⟨{ role := 1, port := .pcie, wr := 6400000 },
   ({ (up .setup).busy1 2 with sec := { Sec.initial with commit := some { role := 1, port := .pcie, wr := 6400000 } } } :
   State), ok_of _ (by decide +kernel), by decide +kernel⟩,
   ⟨{ role := 1, port := .pcie, wr := 6400000 }, 0x408,
   { ({ (up .setup).busy1 2 with sec := { Sec.initial with commit := some { role := 1, port := .pcie, wr := 6400000 } } } : State) with regs := { State.reset.regs with dirty := [4] } },
   ok_of _ (by decide +kernel), by decide +kernel⟩,
   ⟨.pcie, 2, (up .setup).sound.sess 1 .pcie, ok_of _ (by decide +kernel), by decide +kernel⟩,
   ⟨.pcie, 2, up .setup, ok_of _ (by decide +kernel), by decide +kernel⟩,
   ⟨.pcie, 2, (R.SCH_CHCFG 0, 1), (up .setup).sound, ok_of _ (by decide +kernel), by decide +kernel⟩⟩

theorem test_witness_TuningPass :
    (∃ (p : Port) (v : Word) (s : State), s.portOpen = true ∧ v.bit 0 = true ∧ s.sys.mode = .armed ∧ s.tst.running = false ∧
    s.sys.sleep = none ∧ s.pending.any movesMode = false)
    ∧ (∃ (p : Port) (v : Word) (s : State), s.portOpen = true ∧ v.bit 0 = true ∧ s.sys.mode ≠ .armed ∧ s.pending.any movesMode
    = false)
    ∧ (∃ (p : Port) (v : Word) (s : State), s.portOpen = true ∧ v.bit 0 = true ∧ s.pending.any movesMode = true)
    ∧ (∃ s : State, s.ok ∧ s.tst.running = true ∧ s.tst.blockA = 0 ∧ s.tst.nextA < 16 ∧ s.blockSkipped s.tst.nextA = false ∧
    s.blockCovered s.tst.nextA = true)
    ∧ (∃ s : State, s.ok ∧ s.tst.running = true ∧ s.tst.blockB = 0 ∧ s.tst.nextB < 28 ∧ s.blockSkipped s.tst.nextB = false ∧
    s.blockCovered s.tst.nextB = true)
    ∧ (∃ s : State, s.ok ∧ s.tst.running = true ∧ s.tst.blockA = 0 ∧ s.tst.blockB = 0 ∧ 16 ≤ s.tst.nextA ∧ 28 ≤ s.tst.nextB)
    ∧ (∃ (k : Nat) (s : State), s.ok ∧ s.tst.running = true ∧ k = s.tst.blockA ∧ k ≠ 0 ∧ blockTime k ≤ elapsed s.tst.sinceA
    s.now)
    ∧ (∃ (k u : Nat) (d : Int) (s : State), s.ok ∧ s.tst.running = true ∧ k = s.tst.blockA ∧ k ≠ 0 ∧ u < blockUnits k ∧
    blockTime k ≤ elapsed s.tst.sinceA s.now) :=
  ⟨⟨.pcie, 1, up .armed, by decide +kernel⟩,
   ⟨.pcie, 1, up .setup, by decide +kernel⟩,
   ⟨.pcie, 1, { up .armed with pending := [.stopPin] }, by decide +kernel⟩,
   ⟨{ up .armed with tst := { Tst.initial with running := true, nextA := 15, nextB := 16 } }, ok_of _ (by decide +kernel),
   by decide +kernel⟩,
   ⟨{ up .armed with tst := { Tst.initial with running := true, nextA := 1, nextB := 27 } }, ok_of _ (by decide +kernel),
   by decide +kernel⟩,
   ⟨{ up .armed with tst := { Tst.initial with running := true, nextA := 16, nextB := 28 } }, ok_of _ (by decide +kernel),
   by decide +kernel⟩,
   ⟨7, { up .armed with tst := { Tst.initial with running := true, blockA := 7 } }, ok_of _ (by decide +kernel),
   by decide +kernel⟩,
   ⟨15, 3, -9, { up .armed with tst := { Tst.initial with running := true, blockA := 15 } }, ok_of _ (by decide +kernel),
   by decide +kernel⟩⟩

theorem test_witness_AngleFramesAndTheirLoss :
    (∃ s : State, s.launches = true)
    ∧ (∃ s : State, s.trains = true)
    ∧ (∃ (f : AngleFrame) (s : State), s.ok ∧ s.follows = true ∧ s.sys.mode.operating = true ∧ crc8 (angleBits f) 120 ≠ f.crc)
    ∧ (∃ (f : AngleFrame) (s : State), s.ok ∧ s.expects = true ∧ crc8 (angleBits f) 120 = f.crc ∧ f.idx ≤ 24 ∧ f.lmode ≠ 1 ∧
    f.lmode ≠ 2 ∧ s.whl.last = some f.tstamp ∧ s.whl.pos = f.pos ∧ s.whl.sync.code = f.sync)
    ∧ (∃ (f : AngleFrame) (s : State), s.ok ∧ s.expects = true ∧ crc8 (angleBits f) 120 = f.crc ∧ f.idx ≤ 24 ∧ f.lmode = 1 ∧
    s.sys.mode.engine = true)
    ∧ (∃ s : State, s.ok ∧ s.slurLossDue = true ∧ s.pending.any isValidFrame = false ∧ (s.whl.sync = .half ∨ s.whl.sync =
    .full))
    ∧ (∃ s : State, s.ok ∧ s.slurStallDue = true)
    ∧ (∃ s : State, s.slurLossDue = true ∧ s.pending.any isValidFrame = true)
    ∧ (∃ s : State, s.leads = true ∧ s.slur.state = 2 ∧ s.slur.ended = false) :=
  ⟨⟨(run .full).lead1 (fun x => { x with state := 2 }), by decide +kernel⟩,
   ⟨(run .full).lead1 (fun x => { x with state := 1, sending := true }), by decide +kernel⟩,
   ⟨{ idx := 0, sync := 0, phase := false, rev := false, pos := 0, tslice := 0, tstamp := 0, tag := 0, rate := 0, lmode := 0, crc := 5 + 1 },
   (run .full).slave (fun x => { x with state := 2 }), ok_of _ (by decide +kernel), by decide +kernel⟩,
   ⟨{ idx := 24, sync := 3, phase := false, rev := false, pos := 5, tslice := 0, tstamp := 299999900000, tag := 0, rate := 0, lmode := 9, crc := 206 },
   (run .full).slave (fun x => { x with state := 2 }), ok_of _ (by decide +kernel), by decide +kernel⟩,
   ⟨{ idx := 24, sync := 0, phase := false, rev := false, pos := 0, tslice := 0, tstamp := 0, tag := 0, rate := 0, lmode := 1, crc := 14 },
   (run .full).slave (fun x => { x with state := 2 }), ok_of _ (by decide +kernel), by decide +kernel⟩,
   ⟨(run .full).slave (fun x => { x with state := 2 }), ok_of _ (by decide +kernel), by decide +kernel⟩,
   ⟨(run .suspect).slave (fun x => { x with state := 1, lostAt := some 0 }), ok_of _ (by decide +kernel), by decide +kernel⟩,
   ⟨{ (run .full).slave (fun x => { x with state := 2 }) with pending := [.angleFrameReceive { idx := 24, sync := 3, phase := false, rev := false, pos := 5, tslice := 0, tstamp := 299999900000, tag := 0, rate := 0, lmode := 9, crc := 206 }] },
   by decide +kernel⟩,
   ⟨(run .full).lead1 (fun x => { x with state := 2 }), by decide +kernel⟩⟩

theorem test_witness_TrainingOfTheSlurLink :
    (∃ (p : Port) (v : Word) (s : State), s.portOpen = true ∧ v.bit 0 = true ∧ s.leads = true ∧ s.sys.mode.operating = true)
    ∧ (∃ (f : TrainFrame) (arrival : Tb) (s : State), s.ok ∧ s.follows = true ∧ s.sys.mode.operating = true ∧ s.slur.state = 1
    ∧ s.slur.sending = false ∧ s.slur.step = 2 ∧ s.slur.assign = none ∧ f.step = 2 ∧ crc8 (trainBits f) 120 = f.crc)
    ∧ (∃ s : State, s.slurOn = true ∧ s.slur.state = 1 ∧ s.slur.sending = true ∧ s.slur.step = 0)
    ∧ (∃ (x : Nat) (s : State), s.slurOn = true ∧ s.slur.state = 1 ∧ s.slur.sending = true ∧ s.slur.step = 1 ∧ s.slur.rtN < 4)
    ∧ (∃ (rt : Option Nat) (f : TrainFrame) (a : Tb) (s : State), s.follows = true ∧ s.slur.state = 1 ∧ s.slur.sending = false
    ∧ s.slur.toEcho = some (f, a) ∧ 73 ≤ elapsed a s.now)
    ∧ (∃ (f : TrainFrame) (arrival : Tb) (s : State), s.ok ∧ s.follows = true ∧ s.sys.mode.operating = true ∧ s.slur.state = 1
    ∧ s.slur.sending = false ∧ s.slur.step = 1 ∧ f.step = 1 ∧ f.launch.toNat % 1024 = 0 ∧ crc8 (trainBits f) 120 = f.crc)
    ∧ (∃ s : State, s.slurOn = true ∧ s.slur.state = 1 ∧ s.slur.sending = true ∧ s.slur.step = 0 ∧ 4096 ≤ elapsed s.slur.stepAt
    s.now)
    ∧ (∃ (f : TrainFrame) (s : State), s.ok ∧ s.slurOn = true ∧ s.slur.state = 1 ∧ s.slur.sending = false ∧ s.slur.step = 2 ∧
    s.slur.assign = some f ∧ s.sameWheel f = true ∧ f.dev < 4 ∧ 2048 ≤ elapsed s.slur.stepAt s.now)
    ∧ (∃ s : State, s.ok ∧ s.slurOn = true ∧ s.slur.state = 1 ∧ 20480 ≤ elapsed s.slur.since s.now ∧ (s.slur.sending &&
    s.follower) = false)
    ∧ (∃ (d : Int) (s : State), s.expects = true ∧ -32768 ≤ d ∧ d ≤ 32767)
    ∧ (∃ s : State, s.follows = true ∧ s.sys.mode.operating = true ∧ s.slur.state = 3 ∧ 800000 ≤ elapsed s.slur.since s.now) :=
  ⟨⟨.pcie, 1, (up .armed).lead1 id, by decide +kernel⟩,
   ⟨{ step := 2, dev := 3, n := 60, m := 2, tooth0 := 0, launch := 0, lat := 9, crc := 151 }, 5, (up .armed).slave (fun x =>
   { x with state := 1, step := 2 }), ok_of _ (by decide +kernel), by decide +kernel⟩,
   ⟨(up .armed).lead1 (fun x => { x with state := 1, sending := true }), by decide +kernel⟩,
   ⟨40, (up .armed).lead1 (fun x => { x with state := 1, sending := true, step := 1, rtN := 3 }), by decide +kernel⟩,
   ⟨none, { step := 2, dev := 3, n := 60, m := 2, tooth0 := 0, launch := 0, lat := 9, crc := 0 }, 299999999000, (up
   .armed).slave (fun x =>
   { x with state := 1, step := 1, toEcho := some ({ step := 2, dev := 3, n := 60, m := 2, tooth0 := 0, launch := 0, lat := 9, crc := 0 }, 299999999000) }),
   by decide +kernel⟩,
   ⟨{ step := 1, dev := 0, n := 60, m := 2, tooth0 := 0, launch := 2048, lat := 0, crc := 190 }, 5, (up .armed).slave (fun x =>
   { x with state := 1, step := 1 }), ok_of _ (by decide +kernel), by decide +kernel⟩,
   ⟨(up .armed).lead1 (fun x => { x with state := 1, sending := true }), by decide +kernel⟩,
   ⟨{ step := 2, dev := 3, n := 60, m := 2, tooth0 := 0, launch := 0, lat := 9, crc := 0 }, (run .full).slave (fun x =>
   { x with state := 1, step := 2, assign := some { step := 2, dev := 3, n := 60, m := 2, tooth0 := 0, launch := 0, lat := 9, crc := 0 } }),
   ok_of _ (by decide +kernel), by decide +kernel⟩,
   ⟨(up .armed).lead1 (fun x => { x with state := 1, sending := true }), ok_of _ (by decide +kernel), by decide +kernel⟩,
   ⟨-3, (up .armed).slave (fun x => { x with state := 2 }), by decide +kernel⟩,
   ⟨(up .armed).slave (fun x => { x with state := 3 }), by decide +kernel⟩⟩

theorem test_witness_BoundaryScan :
    (∃ s : State, s.scanActs = true)
    ∧ (∃ s : State, s.scanActs = false ∧ s.sys.mode ≠ .off)
    ∧ (∃ (pins cells : List Bool) (code : Nat) (s : State), s.sys.mode ≠ .off) :=
  ⟨⟨up .maint, by decide +kernel⟩,
   ⟨up .armed, by decide +kernel⟩,
   ⟨[true], [false], 3, up .armed, by decide +kernel⟩⟩

end Sys2Proof.Machine
end

section
/-! PROOFS. The tag operations on the event queues (chapter 4, R113 to R116): CANCEL, CANCEL_ALL and REPLACE. -/

namespace Sys2Proof.Machine

/-! Removal of events (R113, R114) -/

/-- The events of the listed numbers leave the store one after the other, as a tag operation takes them away. -/
def State.removeAll (ids : List Nat) (s : State) : State := ids.foldl (fun (s : State) id => s.remove id) s

@[simp] theorem State.watchStore_sch (s : State) : s.watchStore.sch = s.sch :=
  Frame.watchStore s (Frame.refl s [.regs, .hif]) (by decide) (by decide) .sch (by decide)

@[simp] theorem State.remove_store (id : Nat) (s : State) :
    (s.remove id).sch.store = s.sch.store.filter (fun e => e.id != id) :=
  congrArg Sch.store (State.watchStore_sch _)

@[simp] theorem State.removeAll_store (ids : List Nat) (s : State) :
    (s.removeAll ids).sch.store = s.sch.store.filter (fun e => e.id ∉ ids) := by
  induction ids generalizing s with
  | nil => simp [State.removeAll]
  | cons id ids ih =>
    calc ((s.remove id).removeAll ids).sch.store
        = (s.sch.store.filter (fun e => e.id != id)).filter (fun e => e.id ∉ ids) := by rw [ih, State.remove_store]
      _ = s.sch.store.filter (fun e => e.id ∉ id :: ids) := by
        rw [List.filter_filter]
        congr 1
        funext e
        by_cases h : e.id = id <;> simp [h]

/-! What removal keeps of the rings: the result of a tag operation goes to the CQ that its SQ names (R299), and the SQ's index
moves on from where it stood (R286). -/

/-- s has the rings, the staged results and SQ q's set-up word of o, in a canonical live copy. -/
structure RingKept (q : Nat) (o s : State) : Prop where
  wf : s.regs.live.wf = true
  results : s.hif.results = o.hif.results
  rings : s.hif.rings = o.hif.rings
  cfg : s.word (R.HIF_RCFG q) = o.word (R.HIF_RCFG q)

section
variable {q : Nat} {o s : State}

theorem RingKept.refl (h : s.ok) : RingKept q s s := ⟨(Kept.refl h).regs.live, rfl, rfl, rfl⟩

theorem RingKept.ite {c : Prop} [Decidable c] {x y : State} (h : RingKept q o x) (k : RingKept q o y) :
    RingKept q o (if c then x else y) := by
  split <;> assumption

/-- A write to another word of the set-up space. -/
theorem RingKept.set {f : Fld} {v : Nat} (h : RingKept q o s) (k : R.HIF_RCFG q ≠ f.a) : RingKept q o (s.set f v) :=
  ⟨WMap.put_wf _ _ _ h.wf, h.results, h.rings, (State.word_set_other _ _ _ _ h.wf k).trans h.cfg⟩

theorem RingKept.count {f : Fld} (h : RingKept q o s) (k : R.HIF_RCFG q ≠ f.a) : RingKept q o (s.count f) :=
  ⟨WMap.put_wf _ _ _ h.wf, h.results, h.rings, ((State.word_addSat _ _ _ _ h.wf).trans (if_neg k)).trans h.cfg⟩

theorem RingKept.alarm {id sub data data2 : Nat} (hq : q < 8) (h : RingKept q o s) :
    RingKept q o (s.alarm id sub data data2) := by
  unfold State.alarm
  extract_lets a fold l _ s1 s2 s3
  have h1 : RingKept q o s1 := ⟨h.wf, h.results, h.rings, h.cfg⟩
  have h2 : RingKept q o s2 := h1.count (by simp only [R.HIF_RCFG, R.HIF_ALMCNT]; omega)
  have h3 : RingKept q o s3 := .ite (h2.count (by simp only [R.HIF_RCFG, R.HIF_REPEAT_CNT]; omega)) h2
  exact .ite (h3.set (by simp only [R.HIF_RCFG, R.HIF_ALM_HIGH]; omega)) h3

theorem RingKept.watchStore (hq : q < 8) (h : RingKept q o s) : RingKept q o s.watchStore := by
  unfold State.watchStore
  extract_lets f s1 res _ s2 _
  have h1 : RingKept q o s1 := .ite (h.set (by simp only [R.HIF_RCFG, R.SCH_FREE_LOW]; omega)) h
  have normal (b : Bool) : RingKept q o { s1 with hif := { s1.hif with normalStall := b } } :=
    ⟨h1.wf, h1.results, h1.rings, h1.cfg⟩
  have h2 : RingKept q o s2 := .ite ((normal _).alarm hq) (.ite ((normal _).alarm hq) h1)
  have urgent (b : Bool) : RingKept q o { s2 with hif := { s2.hif with urgentStall := b } } :=
    ⟨h2.wf, h2.results, h2.rings, h2.cfg⟩
  exact .ite ((urgent _).alarm hq) (.ite ((urgent _).alarm hq) h2)

theorem RingKept.remove {id : Nat} (hq : q < 8) (h : RingKept q o s) : RingKept q o (s.remove id) :=
  .watchStore hq ⟨h.wf, h.results, h.rings, h.cfg⟩

theorem RingKept.removeAll {ids : List Nat} (hq : q < 8) (h : RingKept q o s) : RingKept q o (s.removeAll ids) := by
  induction ids generalizing s with
  | nil => exact h
  | cons id ids ih => exact ih (h.remove hq)

theorem RingKept.ring (h : RingKept q o s) : s.ring q = o.ring q := by unfold State.ring; rw [h.rings]
theorem RingKept.ringSize (h : RingKept q o s) : s.ringSize q = o.ringSize q := by unfold State.ringSize State.get; rw [h.cfg]
theorem RingKept.cq (h : RingKept q o s) : s.get (F.HIF_RCFG_CQ q) = o.get (F.HIF_RCFG_CQ q) := by unfold State.get; rw [h.cfg]

end

/-! Short results and the ring's index -/

/-- The SQs' results are always wanted: only the plan's depend on FB_RES (R310). -/
theorem State.short_of_sq {src : Nat} (h : src < 8) (code ch count : Nat) (tag : Word) (s : State) :
    s.short code ch src count tag = s.pushResult (s.get (F.HIF_RCFG_CQ src)) (shortResult code ch src count tag) := by
  simp [State.short, State.resultWanted, State.cqOf, h]

@[simp] theorem State.short_sch (code ch src count : Nat) (tag : Word) (s : State) : (s.short code ch src count tag).sch = s.sch :=
  Frame.short code ch src count tag s (Frame.refl s [.regs, .hif]) (by decide) (by decide) .sch (by decide)

@[simp] theorem State.advance_sch (r : Nat) (s : State) : (s.advance r).sch = s.sch := rfl
@[simp] theorem State.advance_results (r : Nat) (s : State) : (s.advance r).hif.results = s.hif.results := rfl

theorem State.advance_idx {r : Nat} {s : State} (h : r < s.hif.rings.length) :
    ((s.advance r).ring r).idx = ((s.ring r).idx + 1) % s.ringSize r :=
  congrArg Ring.idx ((State.ring_modRing s r r _).trans (if_pos ⟨rfl, h⟩))

/-! Admission (R98) -/

/-- R103 settles an event's start and its place modulo 360 °CA, and nothing else of it. -/
theorem State.convertEvent_eq (s : State) (e : Event) :
    ∃ half ran start conv, s.convertEvent e = { e with half := half, ran := ran, start := start, conv := conv } := by
  unfold State.convertEvent
  dsimp only
  split
  · split
    · unfold State.halved
      split <;> exact ⟨_, _, _, _, rfl⟩
    · exact ⟨_, _, _, _, rfl⟩
  · exact ⟨_, _, _, _, rfl⟩

theorem State.admitNew_store (src : Nat) (d : Descriptor) (count : Nat) (s : State) :
    (s.admitNew src d count).sch.store = s.sch.store ++ [s.convertEvent (s.newEvent s.freeId src d count)] :=
  congrArg Sch.store (State.watchStore_sch _)

/-- An admitted event waits under its descriptor's channel and TAG, with the number of events that it replaced. -/
theorem State.admitNew_event (src : Nat) (d : Descriptor) (count : Nat) (s : State) :
    ∃ e, (s.admitNew src d count).sch.store = s.sch.store ++ [e]
      ∧ e.ch = d.ch ∧ e.tag = d.w1 ∧ e.phase = .waiting ∧ e.count = count := by
  obtain ⟨half, ran, start, conv, h⟩ := s.convertEvent_eq (s.newEvent s.freeId src d count)
  exact ⟨_, State.admitNew_store src d count s, by rw [h]; exact ⟨rfl, rfl, rfl, rfl⟩⟩

@[simp] theorem State.reject_sch (src : Nat) (d : Descriptor) (code : Nat) (s : State) : (s.reject src d code).sch = s.sch :=
  State.short_sch _ _ _ _ _ _

/-! The operations (Table 4.2) -/

theorem State.sq_lt_of_sqReady {s : State} {sq : Nat} (h : s.sqReady sq = true) : sq < 8 := by
  simp only [State.sqReady, Bool.and_eq_true, decide_eq_true_eq] at h
  exact h.1.1

theorem State.arrive_of_ready {s : State} {sq : Nat} (h : s.sqReady sq = true) (d : Descriptor) :
    s.arrive sq d = (s.submit sq d).advance sq := if_pos h

theorem State.arrive_of_not_ready {s : State} {sq : Nat} (h : s.sqReady sq = false) (d : Descriptor) :
    s.arrive sq d = s := if_neg (by rw [h]; decide)

theorem State.submit_replace {d : Descriptor} (h : d.op = 1) (src : Nat) (s : State) :
    s.submit src d = s.replaceOp src d := by simp [State.submit, h]

theorem State.submit_cancel {d : Descriptor} (h : d.op = 2) (src : Nat) (s : State) :
    s.submit src d = s.cancelOp src d false := by simp [State.submit, h]

theorem State.submit_cancelAll {d : Descriptor} (h : d.op = 3) (src : Nat) (s : State) :
    s.submit src d = s.cancelOp src d true := by simp [State.submit, h]

theorem State.cancelOp_of_there {s : State} {d : Descriptor} (h : s.chThere d.ch = true) (src : Nat) (all : Bool) :
    s.cancelOp src d all
      = (s.removeAll (s.matching d all)).short Code.ok d.ch src (s.matching d all).length d.w1 := if_pos h

theorem State.replaceOp_of_admitted {s : State} {d : Descriptor} (h : s.admitCheck d (s.matching d false).length = none)
    (src : Nat) :
    s.replaceOp src d = (s.removeAll (s.matching d false)).admitNew src d (s.matching d false).length := by
  simp only [State.replaceOp, h, State.removeAll]

theorem State.replaceOp_of_rejected {s : State} {d : Descriptor} {c : Nat}
    (h : s.admitCheck d (s.matching d false).length = some c) (src : Nat) : s.replaceOp src d = s.reject src d c := by
  simp only [State.replaceOp, h]

/-- A descriptor's arrival changes the store, the results, the registers and what hangs on the events removed, at most. -/
theorem State.arrive_frame (sq : Nat) (d : Descriptor) (s : State) :
    s.onlyIn (s.arrive sq d) [.regs, .hif, .sch, .banks, .ink] :=
  Frame.arrive sq d s (Frame.refl s _) (by decide) (by decide) (by decide) (by decide) (by decide)

/-- CANCEL (all = false) and CANCEL_ALL (all = true) of a channel that is there, once served (R113, R115). -/
theorem State.arrive_cancels {s : State} {sq : Nat} {d : Descriptor} {all : Bool} (hok : s.ok) (hr : s.sqReady sq = true)
    (hop : s.submit sq d = s.cancelOp sq d all) (hch : s.chThere d.ch = true) :
    (s.arrive sq d).sch.store = s.sch.store.filter (fun e => e.id ∉ s.matching d all)
      ∧ (s.arrive sq d).hif.results = s.hif.results
          ++ [{ cq := s.get (F.HIF_RCFG_CQ sq), words := shortResult 0 d.ch sq (s.matching d all).length d.w1 }]
      ∧ ((s.arrive sq d).ring sq).idx = ((s.ring sq).idx + 1) % s.ringSize sq := by
  have hq : sq < 8 := State.sq_lt_of_sqReady hr
  have kept : RingKept sq s (s.removeAll (s.matching d all)) := (RingKept.refl hok).removeAll hq
  rw [State.arrive_of_ready hr, hop, State.cancelOp_of_there hch, State.short_of_sq hq]
  refine ⟨State.removeAll_store _ _, ?_, ?_⟩
  · rw [← kept.results, ← kept.cq]
    rfl
  · rw [← kept.ring, ← kept.ringSize]
    have rings : (s.removeAll (s.matching d all)).hif.rings.length = 19 := by
      rw [kept.rings]
      exact Hif.shaped_rings (Kept.refl hok).hif
    exact State.advance_idx (Nat.lt_of_lt_of_eq (by omega : sq < 19) rings.symm)

/-- REPLACE whose checks pass, once served: removal and admission in one step (R114). -/
theorem State.arrive_replaces {s : State} {sq : Nat} {d : Descriptor} (hr : s.sqReady sq = true) (hop : d.op = 1)
    (hadm : s.admitCheck d (s.matching d false).length = none) :
    ∃ e, (s.arrive sq d).sch.store = s.sch.store.filter (fun e => e.id ∉ s.matching d false) ++ [e]
      ∧ e.ch = d.ch ∧ e.tag = d.w1 ∧ e.phase = .waiting ∧ e.count = (s.matching d false).length := by
  rw [State.arrive_of_ready hr, State.submit_replace hop, State.replaceOp_of_admitted hadm, State.advance_sch,
    ← State.removeAll_store]
  exact State.admitNew_event _ _ _ _

/-- REPLACE that a check fails leaves the store and what hangs on its events as they are (R114). -/
theorem State.arrive_rejects_replace {s : State} {sq c : Nat} {d : Descriptor} (hr : s.sqReady sq = true) (hop : d.op = 1)
    (hrej : s.admitCheck d (s.matching d false).length = some c) :
    (s.arrive sq d).sch = s.sch ∧ s.onlyIn (s.arrive sq d) [.regs, .hif] := by
  rw [State.arrive_of_ready hr, State.submit_replace hop, State.replaceOp_of_rejected hrej]
  exact ⟨State.reject_sch _ _ _ _,
    Frame.advance sq _ (Frame.reject sq d c s (Frame.refl s _) (by decide) (by decide)) (by decide)⟩

/-- Settles O22: CANCEL and CANCEL_ALL by the lemma that they share, REPLACE by its two outcomes, and an SQ that is not served
by the arrival's guard. -/
theorem tagOperationsRemoveUnstartedEvents : Obligations.TagOperationsRemoveUnstartedEvents := by
  refine ⟨?cancel, ?cancelAll, ?replace, ?replaceRejected, ?notServed⟩
  case cancel =>
    intro sq d s hok hr hop hch
    obtain ⟨hstore, hres, hidx⟩ := State.arrive_cancels hok hr (State.submit_cancel hop sq s) hch
    exact ⟨s.arrive sq d, rfl, hstore, hres, hidx, State.arrive_frame sq d s⟩
  case cancelAll =>
    intro sq d s hok hr hop hch
    obtain ⟨hstore, hres, hidx⟩ := State.arrive_cancels hok hr (State.submit_cancelAll hop sq s) hch
    exact ⟨s.arrive sq d, rfl, hstore, hres, hidx, State.arrive_frame sq d s⟩
  case replace =>
    intro sq d s _ hr hop hadm
    obtain ⟨e, hstore, hch, htag, hphase, hcount⟩ := State.arrive_replaces hr hop hadm
    exact ⟨s.arrive sq d, e, rfl, hstore, hch, htag, hphase, hcount, State.arrive_frame sq d s⟩
  case replaceRejected =>
    intro sq c d s _ hr hop hrej
    exact ⟨s.arrive sq d, rfl, State.arrive_rejects_replace hr hop hrej⟩
  case notServed =>
    intro sq d s hr
    have idle : Host.Outcome.next (s.arrive sq d) = (.next s : Host.Outcome State Fault Refusal) :=
      congrArg _ (State.arrive_of_not_ready hr d)
    exact ⟨idle, idle, idle, idle⟩

end Sys2Proof.Machine
end

section
/-! PROOFS. The event concentrator (chapter 15): a CLAIM in the fabric cycle in which its level source's line de-asserts
(R390, R395, R396). -/

namespace Sys2Proof.Machine

/-! What a write on the port keeps of the sources that left a presented set in this fabric cycle -/

theorem State.inCycle_left {f : Same → Same} (h : ∀ m, (f m).left = m.left) (s : State) :
    (s.inCycle f).regs.same.left = s.regs.same.left :=
  (apply_ite Same.left _ _ _).trans (by rw [h, ite_self])

@[simp] theorem State.noteHost_left (a : Nat) (s : State) : (s.noteHost a).regs.same.left = s.regs.same.left := by
  unfold State.noteHost
  apply State.inCycle_left
  exact fun _ => rfl

@[simp] theorem State.noteHw_left (a : Nat) (g : Word → Word) (s : State) : (s.noteHw a g).regs.same.left = s.regs.same.left := by
  unfold State.noteHw
  apply State.inCycle_left
  exact fun _ => rfl

@[simp] theorem State.count_left (f : Fld) (s : State) : (s.count f).regs.same.left = s.regs.same.left := by
  simp [State.count, State.addSat]

@[simp] theorem State.deny_left (p : Port) (s : State) : (s.deny p).regs.same.left = s.regs.same.left := by
  unfold State.deny
  dsimp only
  split <;> simp

@[simp] theorem State.touch_regs (p : Port) (s : State) : (s.touch p).regs = s.regs := by
  unfold State.touch
  split <;> rfl

@[simp] theorem State.rowWrite_left (r : RegRow) (p : Port) (a : Nat) (v : Word) (s : State) :
    (s.rowWrite r p a v).regs.same.left = s.regs.same.left := by
  unfold State.rowWrite
  extract_lets role im imask omask live1 gone1 gone live smask shadow deny s1 s2
  have h1 : s1.regs.same.left = s.regs.same.left := State.noteHost_left a s
  have h2 : s2.regs.same.left = s.regs.same.left := by
    simp only [s2]
    split <;> simp [h1]
  split <;> simp [h2]

@[simp] theorem State.fieldsWrite_left (p : Port) (a : Nat) (v : Word) (s : State) :
    (s.fieldsWrite p a v).regs.same.left = s.regs.same.left := by
  unfold State.fieldsWrite
  split <;> simp

@[simp] theorem State.fieldsWrite_evc (p : Port) (a : Nat) (v : Word) (s : State) : (s.fieldsWrite p a v).evc = s.evc :=
  Frame.fieldsWrite p a v s (Frame.refl s [.regs, .hif]) (by decide) (by decide) .evc (by decide)

@[simp] theorem State.touch_evc (p : Port) (s : State) : (s.touch p).evc = s.evc :=
  Frame.touch s p (Frame.refl s [.sec]) (by decide) .evc (by decide)

/-! CLAIM -/

/-- The four command registers belong to no unit that a part may lack (Table 15.4). -/
theorem State.rowThere_evcCmd {g : Nat} (h : g < 4) (s : State) : (s.rowThere (R.EVC_CMD g)).isSome = true := by
  have row : ∃ r l, rowAt (R.EVC_CMD g) = some (r, l) ∧ r.unit = .none := by
    interval_cases g <;> exact ⟨_, _, rfl, rfl⟩
  have block : s.blockThere (R.EVC_CMD g) = true := by
    interval_cases g <;> rfl
  obtain ⟨r, l, hrow, hunit⟩ := row
  simp [State.rowThere, hrow, hunit, block, State.unitThere]

/-- A write that the port serves, to a register that is there, ends in its command's effect. -/
theorem State.busWrite_of_there {s : State} {p : Port} {a : Nat} (ho : s.portOpen = true)
    (hr : ((s.touch p).rowThere a).isSome = true) (v : Word) (f : State → State) :
    s.busWrite p a v f = f ((s.touch p).fieldsWrite p a v) :=
  (if_pos ho).trans (if_pos hr)

theorem State.claimed_stack {t : Nat} {s : State} (h : t < s.evc.targets.length) (n : Nat) :
    ((s.claimed t n).tgt t).stack = n :: (s.tgt t).stack :=
  congrArg Target.stack ((modAt_getD _ _ _ _ _).trans (if_pos ⟨rfl, h⟩))

/-- A source that left target t's presented set in this fabric cycle is taken all the same (R396). -/
theorem State.claim_stack_of_left {t n : Nat} {s : State} (ht : t < s.evc.targets.length) (hroom : (s.tgt t).stack.length < 4)
    (hl : (n, t) ∈ s.regs.same.left) : ((s.claim t n).tgt t).stack = n :: (s.tgt t).stack := by
  unfold State.claim
  dsimp only
  rw [if_neg (by simpa using hroom)]
  split
  · exact State.claimed_stack ht n
  · rw [if_pos (by simpa using hl)]
    exact State.claimed_stack ht n

/-- The same by the command on the port. -/
theorem evcClaim_stack_of_left {p : Port} {g n : Nat} {s : State} (hok : s.ok) (ho : s.portOpen = true) (hg : g < 4)
    (hroom : (s.tgt g).stack.length < 4) (hl : (n, g) ∈ s.regs.same.left) :
    ∃ t, exec (.evcClaim p g n) s = .next t ∧ (t.tgt g).stack = n :: (s.tgt g).stack := by
  have hlen : g < s.evc.targets.length := by
    obtain ⟨-, -, -, ⟨-, -, htargets, -⟩, -⟩ := hok
    omega
  have run := State.busWrite_of_there ho (State.rowThere_evcCmd hg (s.touch p)) (Word.ofN (n + 256)) (State.claim g n)
  have hevc : ((s.touch p).fieldsWrite p (R.EVC_CMD g) (Word.ofN (n + 256))).evc = s.evc := by simp
  have hleft : ((s.touch p).fieldsWrite p (R.EVC_CMD g) (Word.ofN (n + 256))).regs.same.left = s.regs.same.left := by simp
  generalize (s.touch p).fieldsWrite p (R.EVC_CMD g) (Word.ofN (n + 256)) = u at run hevc hleft
  have htgt : u.tgt g = s.tgt g := congrArg (fun e : Evc => e.targets.getD g Target.initial) hevc
  refine ⟨u.claim g n, congrArg Host.Outcome.next run, ?_⟩
  rw [State.claim_stack_of_left (by rwa [hevc]) (by rwa [htgt]) (by rwa [hleft]), htgt]

/-! A device in which the two happenings coincide -/

/-- ARMED with the time base running: EXT0 (source 36) is a level source with high asserted, taken from its pin, with target 0
enabled for it. -/
def armedLevelLine : State :=
  { State.reset with
    sys := { Sys.initial with mode := .armed }
    clk := { Clk.initial with tbRun := true }
    regs := { RegFile.initial with live := [(R.EVC_ROUTE 4, 0x10000), (R.EVC_EXTCFG 0, 0x4E0)] } }

/-- EXT0 asserts, target 0 gets the delivery, and EXT0 de-asserts again in the present fabric cycle. -/
def levelLineLeft : State := ((armedLevelLine.extEdge 0 true).assignAll).extEdge 0 false

theorem armedLevelLine_ok : armedLevelLine.ok := by
  refine ⟨by decide, ⟨rfl, rfl⟩, ⟨rfl, rfl, rfl⟩, ⟨rfl, rfl, rfl, rfl⟩, ⟨rfl, rfl⟩, rfl, rfl, ⟨rfl, ?_⟩, rfl, rfl, ⟨rfl, ?_⟩, rfl,
    ⟨rfl, rfl, rfl, rfl, rfl, rfl, rfl, rfl⟩, rfl, ⟨rfl, ?_⟩⟩
  all_goals
    intro x hx
    rw [List.eq_of_mem_replicate hx]
    rfl

theorem execExtLineEdge_of_change {n : Nat} {high : Bool} {s : State} (hl : s.extLine n high = true)
    (hc : s.evc.ext.getD n false ≠ high) : exec (.extLineEdge n high) s = .next (s.extEdge n high) :=
  congrArg Host.Outcome.next (if_pos (Bool.and_eq_true_iff.mpr ⟨hl, bne_iff_ne.mpr hc⟩))

/-- The device comes to this state by its commands. -/
theorem exec_reaches_levelLineLeft :
    exec (.extLineEdge 0 true) armedLevelLine = .next (armedLevelLine.extEdge 0 true)
      ∧ exec .sourceAssign (armedLevelLine.extEdge 0 true) = .next (armedLevelLine.extEdge 0 true).assignAll
      ∧ exec (.extLineEdge 0 false) (armedLevelLine.extEdge 0 true).assignAll = .next levelLineLeft :=
  ⟨execExtLineEdge_of_change (by decide +kernel) (by decide +kernel), congrArg Host.Outcome.next (if_pos (by decide +kernel)),
    execExtLineEdge_of_change (by decide +kernel) (by decide +kernel)⟩

theorem levelLineLeft_ok : levelLineLeft.ok := by
  obtain ⟨hrise, hassign, hfall⟩ := exec_reaches_levelLineLeft
  have rise := Kept.execExtLineEdge 0 true _ (Kept.refl armedLevelLine_ok) _ hrise
  have assign := Kept.execSourceAssign _ rise _ hassign
  exact (Kept.execExtLineEdge 0 false _ assign _ hfall).ok

/-- Refutes O48: its CLAIM clause asks for an ignored command wherever the source is not presented; a level source that
left the presented set in the same fabric cycle is claimed all the same (R396). -/
theorem not_concentratorDelivers : ¬ Obligations.ConcentratorDelivers := by
  unfold Obligations.ConcentratorDelivers
  rintro ⟨-, -, -, claimIgnored, -⟩
  have hopen : levelLineLeft.portOpen = true := by decide +kernel
  have hgone : 36 ∉ (levelLineLeft.tgt 0).pres := by decide +kernel
  have hroom : (levelLineLeft.tgt 0).stack.length < 4 := by decide +kernel
  have hleft : (36, 0) ∈ levelLineLeft.regs.same.left := by decide +kernel
  obtain ⟨t, ht, -, frame⟩ := claimIgnored .pcie 0 36 levelLineLeft levelLineLeft_ok hopen (by decide) (by decide) hgone
  obtain ⟨u, hu, claimed⟩ := evcClaim_stack_of_left levelLineLeft_ok hopen (by decide) hroom hleft (p := .pcie)
  obtain rfl : t = u := Host.Outcome.next.inj (ht.symm.trans hu)
  have kept : t.tgt 0 = levelLineLeft.tgt 0 := congrArg (fun e : Evc => e.targets.getD 0 Target.initial) (frame .evc (by decide))
  rw [kept] at claimed
  exact List.cons_ne_self _ _ claimed.symm

end Sys2Proof.Machine
end

section
/-! PROOFS. The fallback plan and the causes that set its flag (R268, R415 to R417). -/

namespace Sys2Proof.Machine

/-! Words and entries written -/

/-- A write leaves the entries at other offsets alone, in canonical form or not. -/
theorem WMap.find_put_other {a b : Nat} (h : b ≠ a) (v : Word) (m : WMap) : WMap.find b (WMap.put a v m) = WMap.find b m := by
  induction m with
  | nil =>
    unfold WMap.put
    split <;> simp [WMap.find, h]
  | cons x m ih =>
    obtain ⟨c, w⟩ := x
    unfold WMap.put
    split
    · split <;> simp [WMap.find, h]
    · split
      · next e =>
        subst e
        split <;> simp [WMap.find, h]
      · simp [WMap.find, ih]

theorem assocGet_assocPut_same {α : Type} (k : Nat) (v : α) (l : List (Nat × α)) : assocGet k (assocPut k v l) = some v := by
  induction l with
  | nil => simp [assocPut, assocGet]
  | cons x l ih =>
    obtain ⟨j, w⟩ := x
    unfold assocPut
    split
    · simp [assocGet]
    · split
      · simp [assocGet]
      · next hne => simp [assocGet, hne, ih]

/-- The device's write of a field reaches the live word of that field and no other. -/
theorem State.onlyWords_set {s u : State} (h : u.regs = s.regs) (f : Fld) (v : Nat) : s.onlyWords (u.set f v) [f.a] := by
  refine ⟨by rw [← h]; rfl, fun a ha => ?_⟩
  calc (u.set f v).word a
      = u.word a := congrArg (Option.getD · _) (WMap.find_put_other (List.ne_of_not_mem_cons ha) _ _)
    _ = s.word a := congrArg (fun r : RegFile => r.live.word a) h

theorem State.onlyWords_count (s : State) (f : Fld) : s.onlyWords (s.count f) [f.a] :=
  ⟨rfl, fun _ ha => congrArg (Option.getD · _) (WMap.find_put_other (List.ne_of_not_mem_cons ha) _ _)⟩

/-! What the way in of an access keeps -/

@[simp] theorem State.touch_hif (p : Port) (s : State) : (s.touch p).hif = s.hif :=
  Frame.touch s p (Frame.refl s [.sec]) (by decide) .hif (by decide)

@[simp] theorem State.touch_word (p : Port) (s : State) (a : Nat) : (s.touch p).word a = s.word a :=
  congrArg (fun r : RegFile => r.live.word a) (State.touch_regs p s)

@[simp] theorem State.touch_get (p : Port) (s : State) (f : Fld) : (s.touch p).get f = s.get f := by
  simp [State.get]

@[simp] theorem State.touch_roleOf (p q : Port) (s : State) : (s.touch p).roleOf q = s.roleOf q := by
  unfold State.touch
  split <;> rfl

/-- Of the host interface, a dropped write changes only what SPI answers of the refusal. -/
theorem State.dropWrite_hif (s : State) (p : Port) : ∃ b, (s.dropWrite p).hif = { s.hif with spiRefused := b } := by
  unfold State.dropWrite
  dsimp only
  split <;> split <;> exact ⟨_, rfl⟩

theorem State.onlyWords_dropWrite (s : State) (p : Port) : s.onlyWords (s.dropWrite p) [R.SYS_REFUSED] := by
  have counted : s.onlyWords (if s.sys.busy.isSome then s.count F.SYS_REFUSED_COUNT else s) [R.SYS_REFUSED] := by
    split
    · exact State.onlyWords_count s _
    · exact ⟨rfl, fun _ _ => rfl⟩
  unfold State.dropWrite
  extract_lets u
  split <;> exact counted

/-! The plan's port (R415) -/

theorem exec_fbdataAccess {p : Port} {s : State} (h : s.portOpen = true) (w : Option Word) :
    exec (.fbdataAccess p w) s = .next ((s.touch p).fbAccess p w) := by
  cases w <;> exact congrArg Host.Outcome.next (if_pos h)

/-- The plan's word at SYS_FBIDX. -/
def State.fbAddr (s : State) : Nat := planAddr (s.get fbIndex / 8) (s.get fbIndex % 8)

@[simp] theorem State.touch_fbAddr (p : Port) (s : State) : (s.touch p).fbAddr = s.fbAddr := by
  simp [State.fbAddr]

theorem State.fbAccess_read (p : Port) (s : State) :
    s.fbAccess p none = (s.answer (s.word s.fbAddr).toNat).set fbIndex ((s.get fbIndex + 1) % 4096) := rfl

theorem State.fbAccess_of_installer {p : Port} {s : State} (h : 1 ≤ s.roleOf p) (v : Word) :
    s.fbAccess p (some v)
      = ((s.putShadow s.fbAddr v).markDirty s.fbAddr (s.roleOf p)).set fbIndex ((s.get fbIndex + 1) % 4096) := by
  have installer : s.isInstaller p = true := decide_eq_true h
  simp only [State.fbAccess, installer]
  rfl

/-- By the operator the plan stays; only a write that would have changed it is counted (R15). -/
theorem State.fbAccess_of_operator {p : Port} {s : State} (h : s.roleOf p = 0) (v : Word) :
    s.fbAccess p (some v)
      = (if v ≠ s.shadowWord s.fbAddr then s.deny p else s).set fbIndex ((s.get fbIndex + 1) % 4096) := by
  have operator : s.isInstaller p = false := by simp [State.isInstaller, h]
  simp only [State.fbAccess, operator]
  rfl

/-- The index wraps from the last word of entry 511 to word 0 of entry 0. -/
theorem State.get_fbIndex_set {s : State} (h : s.regs.live.wf = true) (n : Nat) :
    (s.set fbIndex (n % 4096)).get fbIndex = n % 4096 :=
  (State.get_set s fbIndex _ h (by decide)).trans (Nat.mod_mod n 4096)

@[simp] theorem State.deny_regs_shadow (p : Port) (s : State) : (s.deny p).regs.shadow = s.regs.shadow := by
  unfold State.deny
  dsimp only
  split <;> rfl

theorem fbdataRead {p : Port} {s : State} (hok : s.ok) (ho : s.portOpen = true) :
    ∃ t, exec (.fbdataAccess p none) s = .next t
      ∧ t.ans.read = some (s.word s.fbAddr).toNat
      ∧ t.get fbIndex = (s.get fbIndex + 1) % 4096 ∧ s.onlyWords t [R.SYS_FBIDX] ∧ s.onlyIn t [.regs, .sec, .ans] := by
  have live : (s.touch p).regs.live.wf = true := (Kept.touch s p (Kept.refl hok)).regs.live
  refine ⟨_, exec_fbdataAccess ho none, ?_⟩
  rw [State.fbAccess_read, State.touch_fbAddr, State.touch_word, State.touch_get]
  exact ⟨rfl, State.get_fbIndex_set live _, State.onlyWords_set (State.touch_regs p s) _ _,
    Frame.set _ _ _ (Frame.answer _ _ (Frame.touch s p (Frame.refl s _) (by decide)) (by decide)) (by decide)⟩

theorem fbdataWrite_of_installer {p : Port} {v : Word} {s : State} (hok : s.ok) (ho : s.portOpen = true) (hr : 1 ≤ s.roleOf p) :
    ∃ t, exec (.fbdataAccess p (some v)) s = .next t ∧ t.shadowWord s.fbAddr = v
      ∧ t.get fbIndex = (s.get fbIndex + 1) % 4096 ∧ (∀ a, a ≠ R.SYS_FBIDX → t.word a = s.word a)
      ∧ s.onlyIn t [.regs, .sec] := by
  have kept : Kept s (s.touch p) := Kept.touch s p (Kept.refl hok)
  refine ⟨_, exec_fbdataAccess ho (some v), ?_⟩
  rw [State.fbAccess_of_installer (by rwa [State.touch_roleOf]), State.touch_fbAddr, State.touch_get]
  refine ⟨WMap.word_put_same _ _ _ kept.regs.shadow, State.get_fbIndex_set kept.regs.live _, fun a ha => ?_,
    Frame.set _ _ _ (Frame.markDirty _ _ _ (Frame.putShadow _ _ _ (Frame.touch s p (Frame.refl s _) (by decide)) (by decide))
      (by decide)) (by decide)⟩
  exact (State.word_set_other _ fbIndex a _ kept.regs.live ha).trans (State.touch_word p s a)

theorem fbdataWrite_of_operator {p : Port} {v : Word} {s : State} (hok : s.ok) (ho : s.portOpen = true) (hr : s.roleOf p = 0) :
    ∃ t, exec (.fbdataAccess p (some v)) s = .next t ∧ t.get fbIndex = (s.get fbIndex + 1) % 4096
      ∧ t.regs.shadow = s.regs.shadow ∧ s.onlyIn t [.regs, .hif, .sec] := by
  have kept : Kept s (s.touch p) := Kept.touch s p (Kept.refl hok)
  have frame : s.onlyIn (s.touch p) [.regs, .hif, .sec] := Frame.touch s p (Frame.refl s _) (by decide)
  refine ⟨_, exec_fbdataAccess ho (some v), ?_⟩
  rw [State.fbAccess_of_operator (by rwa [State.touch_roleOf]), State.touch_get]
  refine ⟨State.get_fbIndex_set (Kept.ite (Kept.deny _ p kept) kept).regs.live _, ?_,
    Frame.set _ _ _ (Frame.ite (Frame.deny _ p frame (by decide) (by decide)) frame) (by decide)⟩
  rw [State.set_regs_shadow]
  split <;> simp

/-! Admission of the plan's entries (R417) -/

/-- Entry e is not due any more, and is done for this cycle. -/
def State.planBooked (e : Nat) (s : State) : State :=
  { s with sys := { s.sys with fbDue := s.sys.fbDue.filter (fun x => x != e), fbDone := assocPut e (s.planTag e) s.sys.fbDone } }

/-- One more entry has been admitted since the flag was set. -/
def State.planCounted (s : State) : State :=
  { s with sys := { s.sys with fbAdmitted := min (s.sys.fbAdmitted + 1) 65535 } }

theorem exec_fallbackAdmission {e : Nat} {s : State} (h : s.planDue e = true) :
    exec (.fallbackAdmission e) s = .next (s.planAdmit e) := congrArg Host.Outcome.next (if_pos h)

theorem State.planAdmit_of_admitted {e : Nat} {s : State} (hf : s.free ≠ 0) (h : s.admitCheck (s.planDesc e) 0 = none) :
    s.planAdmit e = ((s.planBooked e).admitNew 8 (s.planDesc e) 0).planCounted := by
  simp only [State.planAdmit, if_neg hf, h]
  rfl

/-- Without FB_RES a refusal is counted and writes no result (R310). -/
theorem State.planAdmit_of_refused {e c : Nat} {s : State} (hf : s.free ≠ 0) (h : s.admitCheck (s.planDesc e) 0 = some c)
    (hres : s.flag F.HIF_FBCFG_FB_RES = false) : s.planAdmit e = (s.planBooked e).count F.SCH_REJ_CNT_COUNT := by
  simp only [State.planAdmit, if_neg hf, h]
  exact if_neg (Bool.not_eq_true _ ▸ hres)

theorem State.not_mem_planBooked_fbDue (e : Nat) (s : State) : e ∉ (s.planBooked e).sys.fbDue := by
  simp [State.planBooked]

theorem State.planBooked_fbDone (e : Nat) (s : State) : assocGet e (s.planBooked e).sys.fbDone = some (s.planTag e) :=
  assocGet_assocPut_same _ _ _

@[simp] theorem State.admitNew_sys (src : Nat) (d : Descriptor) (count : Nat) (s : State) :
    (s.admitNew src d count).sys = s.sys :=
  Frame.admitNew src d count s (Frame.refl s [.regs, .hif, .sch]) (by decide) (by decide) (by decide) .sys (by decide)

theorem fallbackAdmission_admits {e : Nat} {s : State} (hd : s.planDue e = true) (hf : s.free ≠ 0)
    (h : s.admitCheck (s.planDesc e) 0 = none) :
    ∃ t, exec (.fallbackAdmission e) s = .next t ∧ t.sys.fbAdmitted = min (s.sys.fbAdmitted + 1) 65535 ∧ e ∉ t.sys.fbDue
      ∧ assocGet e t.sys.fbDone = some (s.planTag e) ∧ t.sch.store.length = s.sch.store.length + 1 := by
  have sys : ((s.planBooked e).admitNew 8 (s.planDesc e) 0).planCounted.sys
      = { (s.planBooked e).sys with fbAdmitted := min (s.sys.fbAdmitted + 1) 65535 } := by
    simp only [State.planCounted, State.admitNew_sys]
    rfl
  refine ⟨_, exec_fallbackAdmission hd, ?_⟩
  rw [State.planAdmit_of_admitted hf h, sys]
  exact ⟨rfl, State.not_mem_planBooked_fbDue e s, State.planBooked_fbDone e s,
    (congrArg List.length (State.admitNew_store 8 (s.planDesc e) 0 (s.planBooked e))).trans List.length_append⟩

theorem fallbackAdmission_refuses {e c : Nat} {s : State} (hok : s.ok) (hd : s.planDue e = true) (hf : s.free ≠ 0)
    (h : s.admitCheck (s.planDesc e) 0 = some c) (hres : s.flag F.HIF_FBCFG_FB_RES = false) :
    ∃ t, exec (.fallbackAdmission e) s = .next t ∧ t.sys.fbAdmitted = s.sys.fbAdmitted ∧ e ∉ t.sys.fbDue ∧ t.sch = s.sch
      ∧ t.get F.SCH_REJ_CNT_COUNT = min (s.get F.SCH_REJ_CNT_COUNT + 1) 0xFFFFFFFF ∧ s.onlyIn t [.regs, .sys] := by
  refine ⟨_, exec_fallbackAdmission hd, ?_⟩
  rw [State.planAdmit_of_refused hf h hres]
  exact ⟨rfl, State.not_mem_planBooked_fbDue e s, rfl, State.get_count (s.planBooked e) _ (Kept.refl hok).regs.live (by decide),
    Frame.count _ _ (Frame.with_sys (Frame.refl s _) (by decide)) (by decide)⟩

/-! Host silence as a fallback cause (R268, R416) -/

/-- The silence is noted, in the host interface and as the fallback cause of this fabric cycle. -/
def State.silenceNoted (s : State) : State :=
  ({ s with hif := { s.hif with silent := true } } : State).inCycle (fun m => { m with fb := true })

theorem State.silenceNoted_frame (s : State) : s.onlyIn s.silenceNoted [.regs, .hif, .sys] :=
  Frame.inCycle _ _ (Frame.with_hif (Frame.refl s _) (by decide)) (by decide)

/-- In ARMED, SEEK and SAFESTOP the cause waits for the mode in which it acts. -/
theorem exec_hostSilence_pends {s : State} (hd : s.silenceDue = true)
    (hm : s.sys.mode = .armed ∨ s.sys.mode = .seek ∨ s.sys.mode = .safestop) :
    exec .hostSilence s = .next { s.silenceNoted with sys := { s.sys with fbPend := true, fbCause := 2 } } := by
  have notYet : ¬ (s.sys.mode = .half ∨ s.sys.mode = .full ∨ s.sys.mode = .suspect) := by
    rcases hm with h | h | h <;> simp [h]
  exact congrArg Host.Outcome.next ((if_pos hd).trans ((if_neg notYet).trans (if_pos hm)))

/-- In HALF, FULL and SUSPECT the cause acts at once. -/
theorem exec_hostSilence_acts {s : State} (hd : s.silenceDue = true)
    (hm : s.sys.mode = .half ∨ s.sys.mode = .full ∨ s.sys.mode = .suspect) :
    exec .hostSilence s = .next (s.silenceNoted.fallbackNow 2) :=
  congrArg Host.Outcome.next ((if_pos hd).trans (if_pos hm))

@[simp] theorem State.alarm_sys (id sub data data2 : Nat) (s : State) : (s.alarm id sub data data2).sys = s.sys :=
  Frame.alarm id sub data data2 s (Frame.refl s [.regs, .hif]) (by decide) (by decide) .sys (by decide)

@[simp] theorem State.alarm_silent (id sub data data2 : Nat) (s : State) :
    (s.alarm id sub data data2).hif.silent = s.hif.silent := by
  unfold State.alarm
  dsimp only
  split <;> split <;> rfl

/-- The cause that acts is noted, and no cause waits. -/
def State.causeNoted (c : Nat) (s : State) : State := { s with sys := { s.sys with fbPend := false, fbCause := c } }

/-- The fallback flag is set, and no entry of the plan is admitted, due or done yet. -/
def State.flagRaised (s : State) : State :=
  { s with sys := { s.sys with fbFlag := true, fbAdmitted := 0, fbDue := [], fbDone := [] } }

theorem State.fallbackNow_of_planOn {s : State} (h : s.planOn = true) (c : Nat) :
    s.fallbackNow c = if s.sys.fbFlag then s.causeNoted c else (s.causeNoted c).flagRaised.alarm 15 1 c 0 := if_pos h

/-- Where a plan is loaded, the flag stands once a cause has acted, and the mode stays. -/
theorem State.fallbackNow_flags {s : State} (h : s.planOn = true) (c : Nat) :
    (s.fallbackNow c).hif.silent = s.hif.silent ∧ (s.fallbackNow c).sys.fbFlag = true ∧ (s.fallbackNow c).sys.fbCause = c
      ∧ (s.fallbackNow c).sys.mode = s.sys.mode ∧ s.onlyIn (s.fallbackNow c) [.regs, .hif, .sys] := by
  have frame : s.onlyIn (s.causeNoted c) [.regs, .hif, .sys] := Frame.with_sys (Frame.refl s _) (by decide)
  rw [State.fallbackNow_of_planOn h]
  split
  · next standing => exact ⟨rfl, standing, rfl, rfl, frame⟩
  · rw [State.alarm_sys]
    exact ⟨State.alarm_silent _ _ _ _ _, rfl, rfl, rfl,
      Frame.alarm _ _ _ _ _ (Frame.with_sys frame (by decide)) (by decide) (by decide)⟩

/-! The heartbeat (R268) -/

theorem heartbeat_hif (p : Port) (s : State) : ∃ b, (s.heartbeat p).hif = { s.heard.hif with spiRefused := b } := by
  unfold State.heartbeat State.onWrite
  split
  · exact ⟨_, State.touch_hif p s.heard⟩
  · exact State.dropWrite_hif s.heard p

theorem heartbeat_of_open {p : Port} {s : State} (h : s.portOpen = true) : s.heartbeat p = s.heard.touch p := if_pos h

theorem heartbeat_of_closed {p : Port} {s : State} (h : s.portOpen = false) : s.heartbeat p = s.heard.dropWrite p :=
  if_neg (Bool.not_eq_true _ ▸ h)

/-- Settles O52: the three kinds of access to SYS_FBDATA and the two outcomes of an admission each by their lemma, host silence
by the mode in which it comes, and the heartbeat by the port's way in, which loses the write and not the hearing. -/
theorem fallbackCausesAndThePlan : Obligations.FallbackCausesAndThePlan := by
  refine ⟨fun p s => fbdataRead, fun p v s => fbdataWrite_of_installer, fun p v s => fbdataWrite_of_operator,
    fun e s _ => fallbackAdmission_admits, fun e c s => fallbackAdmission_refuses, ?pends, ?acts, ?heartbeat⟩
  case pends =>
    intro s hd hm
    exact ⟨_, exec_hostSilence_pends hd hm, rfl, rfl, ⟨rfl, fun _ _ => rfl⟩,
      Frame.with_sys s.silenceNoted_frame (by decide)⟩
  case acts =>
    intro s hd hm hplan
    obtain ⟨hsilent, hflag, hcause, hmode, frame⟩ := State.fallbackNow_flags (s := s.silenceNoted) hplan 2
    exact ⟨_, exec_hostSilence_acts hd hm, hsilent, hflag, hcause, hmode, Frame.trans s.silenceNoted_frame frame⟩
  case heartbeat =>
    intro p v s
    obtain ⟨b, hif⟩ := heartbeat_hif p s
    refine ⟨s.heartbeat p, rfl, congrArg Hif.heardAt hif, congrArg Hif.silent hif, fun ho => ?_, fun hc => ?_⟩
    · rw [heartbeat_of_open ho]
      exact Frame.touch _ p (Frame.heard s (Frame.refl s _) (by decide)) (by decide)
    · rw [heartbeat_of_closed hc]
      exact ⟨State.onlyWords_dropWrite s.heard p,
        Frame.dropWrite _ p (Frame.heard s (Frame.refl s _) (by decide)) (by decide) (by decide)⟩

end Sys2Proof.Machine
end

section
/-! PROOFS. The machine as a whole: its step, its time, its reset, and what every step keeps. -/

namespace Sys2Proof.Machine

/-! The step and the tick (log entry 5) -/

theorem step_of_front {s : State} {c : Instr} {rest : List Instr} (h : s.pending = c :: rest) :
    step s = exec c { s with pending := rest } := by simp only [step, h]

theorem step_of_empty {s : State} (h : s.pending = []) : step s = .next s.tick := by simp only [step, h]

/-- With no request waiting for its fabric cycle, the tick goes straight to the clock that runs. -/
theorem State.tick_of_none_asked {s : State} (hm : s.sys.asked = none) (hg : s.tst.asked = none) :
    s.tick = if s.sys.mode = .off then s else if s.clk.slot then s.issueSlot else if s.clk.tbRun then s.tickFast else s.tickSlow := by
  simp only [State.tick, State.askedNow, hm, State.passAsked, hg]

theorem State.tickSlow_clk (s : State) : s.tickSlow.clk = { s.clk with aon := (s.clk.aon + 1) % 2 ^ 48 } := by
  unfold State.tickSlow
  dsimp only
  split <;> rfl

theorem State.tickSlow_frame (s : State) : s.onlyIn s.tickSlow [.clk, .pending] := by
  have aon : s.onlyIn { s with clk := { s.clk with aon := (s.clk.aon + 1) % 2 ^ 48 } } [.clk, .pending] :=
    Frame.with_clk (Frame.refl s _) (by decide)
  unfold State.tickSlow
  dsimp only
  split
  · exact Frame.with_pending aon (by decide)
  · exact aon

theorem State.tickTb_tb (s : State) : s.tickTb.clk.tb = s.clk.tb + 1 := by
  unfold State.tickTb State.tickAon
  dsimp only
  split <;> rfl

theorem State.tickQuads_tb (s : State) : s.tickQuads.clk.tb = s.clk.tb := rfl
theorem State.markIdle_tb (s : State) : s.markIdle.clk.tb = s.clk.tb := rfl

theorem State.tickIdle_tb (s : State) : s.tickIdle.clk.tb = s.clk.tb := by
  have asleep : s.markIdle.markSleep.clk.tb = s.clk.tb :=
    (congrArg Clk.tb (Frame.markSleep s.markIdle (Frame.refl _ [.sys]) (by decide) .clk (by decide) :
      s.markIdle.markSleep.clk = s.markIdle.clk)).trans s.markIdle_tb
  unfold State.tickIdle
  dsimp only
  split <;> exact asleep

/-- Of all that one unit of the time base moves, only tickTb moves the count of the units. -/
theorem State.tickFast_tb (s : State) : s.tickFast.clk.tb = s.clk.tb + 1 := by
  unfold State.tickFast
  extract_lets s1 s2 s3 s4 s5
  have strokes : s1.clk.tb = s.clk.tb := by
    have late : s.onlyIn s.strokesLate [.regs, .evc, .ink, .nibs] :=
      Frame.strokesLate s (Frame.refl s _) (by decide) (by decide) (by decide) (by decide)
    exact congrArg Clk.tb (Frame.ite late (Frame.refl s _) .clk (by decide))
  have angle : s2.clk = s1.tickTb.tickQuads.clk :=
    Frame.tickCounts _ (Frame.tickAngle _ (Frame.refl _ [.regs, .sys, .hif, .evc, .whl, .ang, .sch, .banks, .quads, .edges, .ink,
      .adc, .cmps, .tmrs, .nibs, .tst]) (by decide) (by decide) (by decide) (by decide) (by decide) (by decide) (by decide)
      (by decide) (by decide) (by decide) (by decide) (by decide) (by decide) (by decide) (by decide) (by decide))
      (by decide) (by decide) (by decide) .clk (by decide)
  have timers : s3.clk = s2.clk :=
    Frame.tickBuilder _ (Frame.tickTmrAon _ (Frame.tickTmr _ (Frame.tickGbc _ (Frame.tickDuty s2 (Frame.refl s2
      [.sch, .banks, .quads, .tmrs, .adc]) (by decide) (by decide)) (by decide)) (by decide)) (by decide)) (by decide)
      .clk (by decide)
  have edges : s4.clk = s3.clk :=
    Frame.tickReg _ (Frame.dueEdges s3 (Frame.refl s3 [.regs, .sch, .banks, .edges, .cmps]) (by decide) (by decide) (by decide)
      (by decide)) (by decide) (by decide) (by decide) (by decide) .clk (by decide)
  clear_value s4
  calc s5.clk.tb
      = s4.clk.tb := State.tickIdle_tb s4
    _ = s1.tickTb.tickQuads.clk.tb := congrArg Clk.tb (edges.trans (timers.trans angle))
    _ = s1.tickTb.clk.tb := State.tickQuads_tb _
    _ = s.clk.tb + 1 := by rw [State.tickTb_tb, strokes]

/-! What every command keeps -/

/-- The commands that write the image or its kind: the last step of COMMIT, and the losses of power that can tear its write. -/
def writesImage : Instr → Prop
  | .commitDone | .powerLoss | .brownoutReset _ => True
  | _ => False

/-- Every other command keeps the part, the queue, the image and the shape of the state. -/
theorem exec_keeps {s : State} (h : Kept s s) (c : Instr) (hc : ¬ writesImage c) : Keeps s (exec c s) :=
  match c with
  | .commitDone | .powerLoss | .brownoutReset _ => absurd trivial hc
  | .registerWrite p off w => Kept.execRegisterWrite p off w s h
  | .readClear p off sh => Kept.execReadClear p off sh s h
  | .sysAbort p v => Kept.execSysAbort p v s h
  | .dieLinkLoss => Kept.execDieLinkLoss s h
  | .dieLinkRetrain ok => Kept.execDieLinkRetrain ok s h
  | .channelOcTrip n => Kept.execChannelOcTrip n s h
  | .highSideOcTrip b boost => Kept.execHighSideOcTrip b boost s h
  | .tripLatchSeen u => Kept.execTripLatchSeen u s h
  | .quadrantUngate q => Kept.execQuadrantUngate q s h
  | .quadrantGateClose q => Kept.execQuadrantGateClose q s h
  | .doorbellSweep => Kept.execDoorbellSweep s h
  | .doorbellReadDone line => Kept.execDoorbellReadDone line s h
  | .crankEdge stamp width peak => Kept.execCrankEdge stamp width peak s h
  | .coarseEdge => Kept.execCoarseEdge s h
  | .camEdge n falling stamp width peak => Kept.execCamEdge n falling stamp width peak s h
  | .stall => Kept.execStall s h
  | .syncReset p v => Kept.execSyncReset p v s h
  | .clockClamp => Kept.execClockClamp s h
  | .cycleWrap => Kept.execCycleWrap s h
  | .terrDataAccess p w => Kept.execTerrDataAccess p w s h
  | .clearTerr p v => Kept.execClearTerr p v s h
  | .clearTors p v => Kept.execClearTors p v s h
  | .errRestart p v => Kept.execErrRestart p v s h
  | .angleReadLatch p => Kept.execAngleReadLatch p s h
  | .stampReadLatch p => Kept.execStampReadLatch p s h
  | .new sq d => Kept.execNew sq d s h
  | .replace sq d => Kept.execReplace sq d s h
  | .cancel sq d => Kept.execCancel sq d s h
  | .cancelAll sq d => Kept.execCancelAll sq d s h
  | .eventRelease n => Kept.execEventRelease n s h
  | .anchorAngleReached n => Kept.execAnchorAngleReached n s h
  | .eventStart n => Kept.execEventStart n s h
  | .logEnd n => Kept.execLogEnd n s h
  | .tokenWaitTimeout b t => Kept.execTokenWaitTimeout b t s h
  | .dutyCapReached bank unit => Kept.execDutyCapReached bank unit s h
  | .noteNop b t => Kept.execNoteNop b t s h
  | .gate b t => Kept.execGate b t s h
  | .level b t => Kept.execLevel b t s h
  | .tload b t => Kept.execTload b t s h
  | .waitT b t => Kept.execWaitT b t s h
  | .waitA b t => Kept.execWaitA b t s h
  | .waitC b t => Kept.execWaitC b t s h
  | .waitK b t => Kept.execWaitK b t s h
  | .reg b t => Kept.execReg b t s h
  | .br b t => Kept.execBr b t s h
  | .loop b t => Kept.execLoop b t s h
  | .claim b t => Kept.execClaim b t s h
  | .release b t => Kept.execRelease b t s h
  | .susBegin b t => Kept.execSusBegin b t s h
  | .susEnd b t => Kept.execSusEnd b t s h
  | .mark b t => Kept.execMark b t s h
  | .sample b t => Kept.execSample b t s h
  | .endNote b t => Kept.execEndNote b t s h
  | .phraseOverrun b t => Kept.execPhraseOverrun b t s h
  | .waitTargetReached b t => Kept.execWaitTargetReached b t s h
  | .conditionTrue b t => Kept.execConditionTrue b t s h
  | .claimDecision b t => Kept.execClaimDecision b t s h
  | .tokenGrant b => Kept.execTokenGrant b s h
  | .reedTimerZero b t k => Kept.execReedTimerZero b t k s h
  | .chopOffTimeEnd b t => Kept.execChopOffTimeEnd b t s h
  | .mergeWatchClose b t => Kept.execMergeWatchClose b t s h
  | .phraseStoreSync q => Kept.execPhraseStoreSync q s h
  | .phraseParam tag arg0 arg1 => Kept.execPhraseParam tag arg0 arg1 s h
  | .clearOc tag arg0 => Kept.execClearOc tag arg0 s h
  | .boostRegulation q vbst => Kept.execBoostRegulation q vbst s h
  | .boostPulse q vbat => Kept.execBoostPulse q vbat s h
  | .boostOvervoltage q vbst => Kept.execBoostOvervoltage q vbst s h
  | .closingKink n codes => Kept.execClosingKink n codes s h
  | .closingNoKink n => Kept.execClosingNoKink n s h
  | .resultWrite id => Kept.execResultWrite id s h
  | .boostReconcile q vbst => Kept.execBoostReconcile q vbst s h
  | .fillRateRefresh q vbat => Kept.execFillRateRefresh q vbat s h
  | .railSubwindowEnd g => Kept.execRailSubwindowEnd g s h
  | .ptabDataAccess p w => Kept.execPtabDataAccess p w s h
  | .measurementConversion b path shunt volt => Kept.execMeasurementConversion b path shunt volt s h
  | .guardianMeterSample g cur volt => Kept.execGuardianMeterSample g cur volt s h
  | .soaUpdate g => Kept.execSoaUpdate g s h
  | .rampTimeout g => Kept.execRampTimeout g s h
  | .guardianFastTrip g => Kept.execGuardianFastTrip g s h
  | .reverseCurrentTrip g => Kept.execReverseCurrentTrip g s h
  | .externalFault g => Kept.execExternalFault g s h
  | .retryDelayEnd g => Kept.execRetryDelayEnd g s h
  | .retryCountReset g => Kept.execRetryCountReset g s h
  | .prsnChange g level => Kept.execPrsnChange g level s h
  | .prsnDebounceDone g => Kept.execPrsnDebounceDone g s h
  | .prsnRemoval g => Kept.execPrsnRemoval g s h
  | .grdOn src g => Kept.execGrdOn src g s h
  | .grdOff src g => Kept.execGrdOff src g s h
  | .grdClear src g => Kept.execGrdClear src g s h
  | .grdLimit tag arg0 arg1 => Kept.execGrdLimit tag arg0 arg1 s h
  | .slowSupervisionCheck g gateOk vOk => Kept.execSlowSupervisionCheck g gateOk vOk s h
  | .vigilMeterSample g cur vout vin => Kept.execVigilMeterSample g cur vout vin s h
  | .energyCounterRead p g => Kept.execEnergyCounterRead p g s h
  | .perstAssert => Kept.execPerstAssert s h
  | .hotReset => Kept.execHotReset s h
  | .functionLevelReset => Kept.execFunctionLevelReset s h
  | .dataLinkDown unacked => Kept.execDataLinkDown unacked s h
  | .dataLinkUp speed width => Kept.execDataLinkUp speed width s h
  | .busMasterDisable d3 => Kept.execBusMasterDisable d3 s h
  | .busMasterEnable => Kept.execBusMasterEnable s h
  | .hostSilence => Kept.execHostSilence s h
  | .hifHeartbeat p v => Kept.execHifHeartbeat p v s h
  | .dmaFailure ring cause => Kept.execDmaFailure ring cause s h
  | .msixUnmask v => Kept.execMsixUnmask v s h
  | .spiReadFrame header => Kept.execSpiReadFrame header s h
  | .spiWriteFrame header words crc => Kept.execSpiWriteFrame header words crc s h
  | .ringEnable p r v => Kept.execRingEnable p r v s h
  | .ringDisable p r v => Kept.execRingDisable p r v s h
  | .ringDrained r => Kept.execRingDrained r s h
  | .ringEngineEnable p v => Kept.execRingEngineEnable p v s h
  | .statusLineWrite => Kept.execStatusLineWrite s h
  | .recordWrite => Kept.execRecordWrite s h
  | .gapRecord r => Kept.execGapRecord r s h
  | .mqNop tag => Kept.execMqNop tag s h
  | .traceCtrl tag arg0 => Kept.execTraceCtrl tag arg0 s h
  | .accClose tag arg0 => Kept.execAccClose tag arg0 s h
  | .fallbackEnd src => Kept.execFallbackEnd src s h
  | .safestopExit src => Kept.execSafestopExit src s h
  | .mqUnknownOpcode tag op => Kept.execMqUnknownOpcode tag op s h
  | .loopVisit n codes => Kept.execLoopVisit n codes s h
  | .urgentVisit n codes => Kept.execUrgentVisit n codes s h
  | .angleTrigger k => Kept.execAngleTrigger k s h
  | .vigilVisit codes => Kept.execVigilVisit codes s h
  | .converterCalibrate p v => Kept.execConverterCalibrate p v s h
  | .calibrationDone n factors => Kept.execCalibrationDone n factors s h
  | .adcMove p v => Kept.execAdcMove p v s h
  | .movePendEnd => Kept.execMovePendEnd s h
  | .accDataAccess p w => Kept.execAccDataAccess p w s h
  | .windowTimeClose t => Kept.execWindowTimeClose t s h
  | .windowAngleClose t => Kept.execWindowAngleClose t s h
  | .comparatorCrossing c above => Kept.execComparatorCrossing c above s h
  | .timerZero n => Kept.execTimerZero n s h
  | .timerMatch n => Kept.execTimerMatch n s h
  | .timerStart p v => Kept.execTimerStart p v s h
  | .timerStop p v => Kept.execTimerStop p v s h
  | .timerReloadWrite p n v => Kept.execTimerReloadWrite p n v s h
  | .timerCmpWrite p n v => Kept.execTimerCmpWrite p n v s h
  | .timerCapture n rising => Kept.execTimerCapture n rising s h
  | .slaveTrigger n => Kept.execSlaveTrigger n s h
  | .timerCatchup => Kept.execTimerCatchup s h
  | .stroke n inputs => Kept.execStroke n inputs s h
  | .nibStart p n v => Kept.execNibStart p n v s h
  | .nibStop p n v => Kept.execNibStop p n v s h
  | .nibResume p n v => Kept.execNibResume p n v s h
  | .nibFlush p n v => Kept.execNibFlush p n v s h
  | .nibTxWrite p n v => Kept.execNibTxWrite p n v s h
  | .nibRxRead p n => Kept.execNibRxRead p n s h
  | .strokeWrite p n v => Kept.execStrokeWrite p n v s h
  | .strokeReadLatch p n => Kept.execStrokeReadLatch p n s h
  | .marginWrite p n v => Kept.execMarginWrite p n v s h
  | .groupReadyTime k => Kept.execGroupReadyTime k s h
  | .sourceAssign => Kept.execSourceAssign s h
  | .evcClaim p t src => Kept.execEvcClaim p t src s h
  | .evcComplete p t src => Kept.execEvcComplete p t src s h
  | .evcRelease p t => Kept.execEvcRelease p t s h
  | .extLineEdge n high => Kept.execExtLineEdge n high s h
  | .modeRequestDormant p vigil => Kept.execModeRequestDormant p vigil s h
  | .modeRequestSafestop p => Kept.execModeRequestSafestop p s h
  | .modeRequestSetup p => Kept.execModeRequestSetup p s h
  | .modeRequestArmed p => Kept.execModeRequestArmed p s h
  | .modeRequestMaint p => Kept.execModeRequestMaint p s h
  | .modeRequestMaintExit p => Kept.execModeRequestMaintExit p s h
  | .idleTimeout => Kept.execIdleTimeout s h
  | .sleepCommit => Kept.execSleepCommit s h
  | .sleepWaitTimeout => Kept.execSleepWaitTimeout s h
  | .wakeDecision w => Kept.execWakeDecision w s h
  | .safestopSupply => Kept.execSafestopSupply s h
  | .safestopTemperature => Kept.execSafestopTemperature s h
  | .stopPin => Kept.execStopPin s h
  | .safestopCauseCleared c => Kept.execSafestopCauseCleared c s h
  | .fallbackAdmission e => Kept.execFallbackAdmission e s h
  | .fbdataAccess p w => Kept.execFbdataAccess p w s h
  | .softwareReset p v => Kept.execSoftwareReset p v s h
  | .powerOnReset => Kept.execPowerOnReset s h
  | .referenceQualified => Kept.execReferenceQualified s h
  | .pllLocked => Kept.execPllLocked s h
  | .dieLinkTrained => Kept.execDieLinkTrained s h
  | .imageChecked => Kept.execImageChecked s h
  | .bootComplete => Kept.execBootComplete s h
  | .referenceLoss => Kept.execReferenceLoss s h
  | .aonCrystalSwitch => Kept.execAonCrystalSwitch s h
  | .sessionRequest p v => Kept.execSessionRequest p v s h
  | .challengeReady => Kept.execChallengeReady s h
  | .challengeExpiry => Kept.execChallengeExpiry s h
  | .sessionOpen p v => Kept.execSessionOpen p v s h
  | .roleUnlockDone => Kept.execRoleUnlockDone s h
  | .sessionClose p v => Kept.execSessionClose p v s h
  | .sessionIdleTimeout => Kept.execSessionIdleTimeout s h
  | .lockoutEnd => Kept.execLockoutEnd s h
  | .installerClaim p v => Kept.execInstallerClaim p v s h
  | .keyProvisionSet p v => Kept.execKeyProvisionSet p v s h
  | .keyProvisionClear p v => Kept.execKeyProvisionClear p v s h
  | .commit p v => Kept.execCommit p v s h
  | .discard p v => Kept.execDiscard p v s h
  | .journalRead p => Kept.execJournalRead p s h
  | .journalExport p v => Kept.execJournalExport p v s h
  | .exportDone => Kept.execExportDone s h
  | .journalSeal p v => Kept.execJournalSeal p v s h
  | .sealDone => Kept.execSealDone s h
  | .tuningGo p v => Kept.execTuningGo p v s h
  | .tuningBlockStart laneB => Kept.execTuningBlockStart laneB s h
  | .tuningBlockEnd laneB fails => Kept.execTuningBlockEnd laneB fails s h
  | .angleFrameLaunch => Kept.execAngleFrameLaunch s h
  | .angleFrameReceive f => Kept.execAngleFrameReceive f s h
  | .retrain p v => Kept.execRetrain p v s h
  | .trainingFrameReceive f arrival => Kept.execTrainingFrameReceive f arrival s h
  | .trainingEcho rt => Kept.execTrainingEcho rt s h
  | .trainingStepDone => Kept.execTrainingStepDone s h
  | .trainingTimeout => Kept.execTrainingTimeout s h
  | .timeBaseSlew diff => Kept.execTimeBaseSlew diff s h
  | .slurLinkLoss => Kept.execSlurLinkLoss s h
  | .slurRetry => Kept.execSlurRetry s h
  | .slurLossTimeout => Kept.execSlurLossTimeout s h
  | .jtagExtest => Kept.execJtagExtest s h
  | .jtagIdcode => Kept.execJtagIdcode s h
  | .jtagSamplePreload pins cells => Kept.execJtagSamplePreload pins cells s h
  | .jtagClamp => Kept.execJtagClamp s h
  | .jtagHighz => Kept.execJtagHighz s h
  | .jtagBypass code => Kept.execJtagBypass code s h
  | .tapReset => Kept.execTapReset s h
  | .perstDeassert => Kept.execPerstDeassert s h
  | .msixEnable => Kept.execMsixEnable s h
  | .brownoutRelease => Kept.execBrownoutRelease s h
  | .upstreamStatusLoss => Kept.execUpstreamStatusLoss s h
  | .commitFailed => Kept.execCommitFailed s h

theorem exec_sound (c : Instr) (s : State) (h : s.ok) : Sound s (exec c s) := by
  by_cases hc : writesImage c
  · cases c with
    | commitDone => exact sound_commitDone s h
    | powerLoss => exact sound_powerLoss s h
    | brownoutReset r => exact sound_brownoutReset r s h
    | _ => exact hc.elim
  · exact (exec_keeps (Kept.refl h) c hc).sound

/-- A tick keeps the invariant, and leaves the steps that are due in the queue. -/
theorem State.tick_ok {s : State} (h : s.ok) : s.tick.ok :=
  (Kept.tick s (Kept.refl h)).choose_spec.ok

/-! The image (R434, R437): a loss of power tears at most its validity -/

theorem execPowerLoss_image {s t : State} (h : s.ok) (e : execPowerLoss s = .next t) : t.regs.image = s.regs.image := by
  have torn := (Kept.mramOnly _ (Kept.tear s (Kept.refl h))).regs.image
  cases e
  exact torn

theorem execBrownoutReset_image {r : BrownRail} {s t : State} (h : s.ok) (e : execBrownoutReset r s = .next t) :
    t.regs.image = s.regs.image := by
  have torn := (Kept.set _ F.SYS_RSTCAUSE_RAIL (railNum r) (Kept.warmReset 1 0 _ (Kept.tear s (Kept.refl h)))).regs.image
  have gone : ∀ u : State, Kept s u → (u.railGone r).regs.image = s.regs.image := fun u k => (Kept.railGone r u k).regs.image
  unfold execBrownoutReset at e
  split at e
  · cases e
    rfl
  · split at e <;> cases e
    · cases r with
      | vcore | vphy08 | vphy18 => exact gone _ (Kept.linkUnpowered _ (Kept.refl h))
      | vio | vdda => exact gone _ (Kept.refl h)
    · exact torn

theorem exec_image {c : Instr} {s t : State} (h : s.ok) (e : exec c s = .next t) (hc : c ≠ .commitDone) :
    t.regs.image = s.regs.image := by
  by_cases w : writesImage c
  · cases c with
    | commitDone => exact absurd rfl hc
    | powerLoss => exact execPowerLoss_image h e
    | brownoutReset r => exact execBrownoutReset_image h e
    | _ => exact w.elim
  · exact (exec_keeps (Kept.refl h) c w t e).regs.image

theorem exec_imgKind {c : Instr} {s t : State} (h : s.ok) (e : exec c s = .next t) (hc : c ≠ .commitDone) (hp : c ≠ .powerLoss)
    (hb : ∀ r, c ≠ .brownoutReset r) : t.regs.imgKind = s.regs.imgKind := by
  refine (exec_keeps (Kept.refl h) c (fun w => ?_) t e).regs.imgKind
  cases c with
  | commitDone => exact hc rfl
  | powerLoss => exact hp rfl
  | brownoutReset r => exact hb r rfl
  | _ => exact w.elim

/-! Reset (R20, R422) -/

theorem getD_replicate_self {α : Type} (n i : Nat) (a : α) : (List.replicate n a).getD i a = a := by
  rw [List.getD_eq_getElem?_getD, List.getElem?_replicate]
  split <;> rfl

/-- Settles O5: a queue's front command keeps the invariant by exec_sound, and on an empty queue the tick does. -/
theorem everyStepKeepsSoundness : Obligations.EveryStepKeepsSoundness := by
  intro s t h e
  cases q : s.pending with
  | nil =>
    rw [step_of_empty q] at e
    cases e
    exact State.tick_ok h
  | cons c rest =>
    rw [step_of_front q] at e
    exact (exec_sound c { s with pending := rest } ⟨h.1, h.2⟩ t e).1

/-- Settles O6: by what every command keeps, and for the image by the commands that a loss of power tears. -/
theorem onlyCommitWritesImage : Obligations.OnlyCommitWritesImage := by
  intro c s t h e
  obtain ⟨-, hpart, hqueue⟩ := exec_sound c s h t e
  exact ⟨hpart, hqueue, exec_image h e, exec_imgKind h e⟩

/-- Settles O1: step takes the front command off the queue. -/
theorem stepRunsFrontCommand : Obligations.StepRunsFrontCommand := fun _ _ _ => step_of_front

/-- Settles O2: by the tick's branches, and by what one unit of each clock does to the clocks. -/
theorem emptyQueuePassesTime : Obligations.EmptyQueuePassesTime := by
  intro s q hm hg
  rw [step_of_empty q, State.tick_of_none_asked hm hg]
  refine ⟨fun off => ?off, fun on slot => ?slot, fun on slot stands => ?slow, fun on slot runs => ?fast⟩
  case off => rw [if_pos off]
  case slot =>
    rw [if_neg on, if_pos slot]
    rfl
  case slow =>
    refine ⟨s.tickSlow, ?_, State.tickSlow_clk s, State.tickSlow_frame s⟩
    rw [if_neg on, slot, stands]
    rfl
  case fast =>
    refine ⟨s.tickFast, ?_, State.tickFast_tb s⟩
    rw [if_neg on, slot, runs]
    rfl

/-- Settles O3: the empty maps read every word's reset value, and every element of a unit is its initial one. -/
theorem resetState : Obligations.ResetState := by
  have bank (b : Nat) : State.reset.bank b = Bank.initial := getD_replicate_self 24 b _
  have chan (n : Nat) : State.reset.chan n = Chan.initial := getD_replicate_self 96 n _
  have ring (r : Nat) : State.reset.ring r = Ring.initial := getD_replicate_self 19 r _
  have grd (g : Nat) : State.reset.grd g = Grd.initial := getD_replicate_self 8 g _
  exact ⟨rfl, rfl, rfl, rfl, rfl, rfl, fun _ => ⟨rfl, rfl⟩, fun n => congrArg Chan.gl (chan n),
    fun b => ⟨congrArg Bank.ghv (bank b), congrArg Bank.ghb (bank b)⟩, fun r => congrArg Ring.active (ring r),
    fun g => congrArg Grd.st (grd g), rfl, rfl⟩

/-- Settles O4: the initial parts are shaped, and the empty maps are canonical. -/
theorem resetIsSound : Obligations.ResetIsSound :=
  ⟨rfl, Clk.initial_shaped, Hif.initial_shaped, Evc.initial_shaped, Sec.initial_shaped, Whl.initial_shaped, Sch.initial_shaped,
    BanksOk.initial, QuadsOk.initial, Ink.initial_shaped, GrdsOk.initial, Adc.initial_shaped, Cmps.initial_shaped, TmrsOk.initial,
    NibsOk.initial⟩

end Sys2Proof.Machine
end

section
/-! PROOFS. Boundary scan (R497, R498). -/

namespace Sys2Proof.Machine

theorem State.onTap_of_on {s : State} (h : s.sys.mode ≠ .off) (f : State → State) : s.onTap f = f s := if_neg h

theorem State.on_of_scanActs {s : State} (h : s.scanActs = true) : s.sys.mode ≠ .off := by
  intro off
  simp [State.scanActs, off] at h

/-- The instruction that acts (R498) when ir has been loaded: BYPASS in the place of one that touches pins and must not. -/
theorem State.scan_scanIr (ir : Nat) (s : State) :
    (s.scan ir).scanIr = if (ir = 0 ∨ ir = 4 ∨ ir = 5) ∧ !s.scanActs then 15 else ir := rfl

/-- Loading an instruction changes the instruction register and the data register that the acting instruction selects. -/
theorem State.scan_eq (ir : Nat) (s : State) :
    s.scan ir = { s with jtag := { s.jtag with ir := ir, dr :=
      if (s.scan ir).scanIr = 0 ∨ (s.scan ir).scanIr = 2 then s.jtag.cells
      else if (s.scan ir).scanIr = 1 then idBits s.part else [false] } } := rfl

/-- What a loaded instruction selects and drives, given the instruction that acts. -/
theorem State.onTap_scan {s : State} (hm : s.sys.mode ≠ .off) {ir act : Nat} {dr : List Bool} {drive : Nat}
    (hact : (if (ir = 0 ∨ ir = 4 ∨ ir = 5) ∧ !s.scanActs then 15 else ir) = act)
    (hdr : (if act = 0 ∨ act = 2 then s.jtag.cells else if act = 1 then idBits s.part else [false]) = dr)
    (hdrive : (if act = 0 ∨ act = 4 then 1 else if act = 5 then 2 else 0) = drive) :
    ∃ t, (Host.Outcome.next (s.onTap (fun s => s.scan ir)) : Host.Outcome State Fault Refusal) = .next t
      ∧ t = { s with jtag := { s.jtag with ir := ir, dr := dr } } ∧ t.scanDrive = drive := by
  have acts : (s.scan ir).scanIr = act := (State.scan_scanIr ir s).trans hact
  refine ⟨s.scan ir, congrArg _ (State.onTap_of_on hm _), ?_, ?_⟩
  · rw [State.scan_eq, acts, hdr]
  · rw [State.scanDrive, acts, hdrive]

/-- Settles O60: every instruction but SAMPLE/PRELOAD by the one lemma on loading, with the instruction that acts in its mode. -/
theorem boundaryScan : Obligations.BoundaryScan := by
  refine ⟨fun s acts => ?acts, fun s idle on => ?idle, fun pins cells code s on => ?any⟩
  case acts =>
    have on := State.on_of_scanActs acts
    exact ⟨State.onTap_scan on (act := 0) (by simp [acts]) rfl rfl, State.onTap_scan on (act := 4) (by simp [acts]) rfl rfl,
      State.onTap_scan on (act := 5) (by simp [acts]) rfl rfl⟩
  case idle =>
    exact ⟨State.onTap_scan on (act := 15) (by simp [idle]) rfl rfl, State.onTap_scan on (act := 15) (by simp [idle]) rfl rfl,
      State.onTap_scan on (act := 15) (by simp [idle]) rfl rfl⟩
  case any =>
    exact ⟨⟨_, congrArg Host.Outcome.next (State.onTap_of_on on _), rfl, rfl⟩, State.onTap_scan on (act := 1) rfl rfl rfl,
      State.onTap_scan on (act := 15) rfl rfl rfl, State.onTap_scan on (act := 1) rfl rfl rfl⟩

end Sys2Proof.Machine
end

section
/-! PROOFS. Accesses to the set-up space (chapter 10, R14 to R17, R263, R264, R434) and SPI frames (R274 to R277). -/

namespace Sys2Proof.Machine

/-! The way in of an access -/

theorem State.onWrite_of_open {s : State} {p : Port} (h : s.portOpen = true) (f : State → State) : s.onWrite p f = f (s.touch p) :=
  if_pos h

theorem State.onWrite_of_closed {s : State} {p : Port} (h : s.portOpen = false) (f : State → State) : s.onWrite p f = s.dropWrite p :=
  if_neg (Bool.not_eq_true _ ▸ h)

theorem State.onRead_of_open {s : State} {p : Port} (h : s.portOpen = true) (f : State → State) : s.onRead p f = f (s.touch p) :=
  if_pos h

theorem State.portOpen_of_busy {s : State} (h : s.sys.busy.isSome = true) : s.portOpen = false := by
  simp only [State.portOpen, Option.isNone_eq_false_iff.mpr h, Bool.false_and]

@[simp] theorem State.touch_shadowWord (p : Port) (s : State) (a : Nat) : (s.touch p).shadowWord a = s.shadowWord a :=
  congrArg (fun r : RegFile => r.shadow.word a) (State.touch_regs p s)

@[simp] theorem State.touch_mqBits (p : Port) (s : State) (a : Nat) : (s.touch p).mqBits a = s.mqBits a :=
  congrArg (fun r : RegFile => (assocGet a r.same.mq).getD 0) (State.touch_regs p s)

@[simp] theorem State.touch_rowThere (p : Port) (s : State) (a : Nat) : (s.touch p).rowThere a = s.rowThere a := by
  unfold State.touch
  split <;> rfl

/-- No word of the scheduler block (Table 4.8) has a rule of its own: a word written there goes to its fields. -/
theorem State.wordWrite_sch {a : Nat} (h1 : 0x1000 ≤ a) (h2 : a < 0x2000) (p : Port) (v : Word) (s : State) :
    s.wordWrite p a v = s.onWrite p (fun s => s.fieldsWrite p a v) := by
  have table : (msixTable a || msixPba a) = false := by simp [msixTable, msixPba]; omega
  have mid : ∀ s : State, s.writeMid p a v = s.fieldsWrite p a v := by
    intro s
    unfold State.writeMid R.WHL_CTRL R.WHL_ACLK_CTRL R.WHL_ACLK_CFG R.WHL_TERR_DATA R.REED_PDIR R.REED_PDEFA R.DRV_OCLATCH
      R.INK_PTAB_DATA
    iterate 7 rw [if_neg (by omega)]
  unfold State.wordWrite R.SYS_ABORT R.HIF_HEARTBEAT R.SYS_MODEREQ R.SYS_RESET R.SYS_FBCTL R.TST_CTRL
  rw [if_neg (by omega), if_neg (by omega), table]
  simp only [Bool.false_eq_true, if_false]
  iterate 4 rw [if_neg (by omega)]
  congr 1
  funext s
  rw [if_neg (by omega), if_neg (by omega), if_pos (by omega), mid]

theorem exec_registerWrite_sch {a : Nat} (h1 : 0x1000 ≤ a) (h2 : a < 0x2000) (h4 : a % 4 = 0) (p : Port) (v : Word) (s : State) :
    exec (.registerWrite p a (.word v)) s = .next (s.onWrite p (fun s => s.fieldsWrite p a v)) := by
  have inside : ¬ 0x40000 ≤ a := by omega
  simp only [exec, execRegisterWrite, inside, decide_false, Bool.and_false, if_pos h4, State.wordWrite_sch h1 h2]
  rfl

/-! A refused field (R15) -/

theorem mergeMask_zero (x v : Word) : mergeMask 0 x v = x := by
  simp [mergeMask, Word.ofN]

theorem indexReg_sch {a : Nat} (h1 : 0x1000 ≤ a) (h2 : a < 0x2000) : indexReg a = false := by
  have nib : (upTo 8).any (fun n => a == R.NIB_SIDX n) = false := by
    rw [List.any_eq_false]
    intro n _
    simp only [R.NIB_SIDX, beq_iff_eq]
    omega
  simp only [indexReg, nib, R.WHL_TERR_IDX, R.INK_PTAB_IDX, R.SYS_FBIDX, R.ACC_IDX, Bool.or_false, Bool.or_eq_false_iff, beq_eq_false_iff_ne]
  omega

theorem State.get_deny {s : State} (p : Port) (h : s.regs.live.wf = true) :
    (s.deny p).get F.SEC_ROLE_DENY_COUNT = min (s.get F.SEC_ROLE_DENY_COUNT + 1) 0xFFFFFFFF := by
  have counted : (s.count F.SEC_ROLE_DENY_COUNT).get F.SEC_ROLE_DENY_COUNT = min (s.get F.SEC_ROLE_DENY_COUNT + 1) 0xFFFFFFFF :=
    State.get_count s _ h (by decide)
  unfold State.deny
  dsimp only
  split <;> exact counted

theorem refuses_of_operator {s : State} {r : RegRow} {a : Nat} {v : Word} (hi : indexReg a = false)
    (h : (v ^^^ s.shadowWord a).toNat &&& r.i ≠ 0) : refuses s r a 0 v = true := by
  rw [BitVec.toNat_xor] at h
  simp [refuses, hi, h]

/-- The operator's write, in a register that is no index: the fields of the image that are the operator's own reach the shadow
copy, and the installer's field that it would have changed is counted. -/
theorem State.rowWrite_of_refused {s : State} {r : RegRow} {p : Port} {a : Nat} {v : Word} (hok : s.ok) (hr : s.roleOf p = 0)
    (hmq : s.mqBits a = 0) (hi : indexReg a = false) (hd : R.SEC_ROLE_DENY ≠ a) (h : (v ^^^ s.shadowWord a).toNat &&& r.i ≠ 0) :
    (s.rowWrite r p a v).shadowWord a = mergeMask (r.o &&& r.img) (s.shadowWord a) v
      ∧ (s.rowWrite r p a v).get F.SEC_ROLE_DENY_COUNT = min (s.get F.SEC_ROLE_DENY_COUNT + 1) 0xFFFFFFFF := by
  have kept := (Kept.refl hok).regs
  unfold State.rowWrite
  extract_lets role im imask omask live1 gone1 gone live smask shadow deny s1 s2
  have hdeny : deny = true := by
    simp only [deny, role, hr]
    exact refuses_of_operator hi h
  have hmask : smask = r.o &&& r.img := by simp [smask, imask, im, omask, role, hr, hi, hmq]
  have hshadow : s2.shadowWord a = mergeMask (r.o &&& r.img) (s.shadowWord a) v := by
    simp only [s2, hmask]
    split
    · next none => rw [none, mergeMask_zero]; rfl
    · simp only [shadow, hmask]
      exact WMap.word_put_same _ _ _ kept.shadow
  have hlive : s2.regs.live = WMap.put a live s.regs.live := by
    simp only [s2]
    split <;> rfl
  have hcount : s2.get F.SEC_ROLE_DENY_COUNT = s.get F.SEC_ROLE_DENY_COUNT := by
    unfold State.get State.word
    rw [hlive, WMap.word_put_other _ _ _ _ kept.live hd]
  rw [if_pos hdeny, State.get_deny p (hlive ▸ WMap.put_wf _ _ _ kept.live), hcount]
  refine ⟨?_, rfl⟩
  unfold State.shadowWord
  rw [State.deny_regs_shadow]
  exact hshadow

/-! Accesses that are dropped or do not reach the device -/

theorem State.get_dropWrite_of_busy {s : State} (p : Port) (hok : s.ok) (h : s.sys.busy.isSome = true) :
    (s.dropWrite p).get F.SYS_REFUSED_COUNT = min (s.get F.SYS_REFUSED_COUNT + 1) 0xFFFFFFFF := by
  have counted : (s.count F.SYS_REFUSED_COUNT).get F.SYS_REFUSED_COUNT = min (s.get F.SYS_REFUSED_COUNT + 1) 0xFFFFFFFF :=
    State.get_count s _ (Kept.refl hok).regs.live (by decide)
  unfold State.dropWrite
  dsimp only
  rw [if_pos h]
  split <;> exact counted

theorem State.badAccess_of_reached {s : State} {p : Port} (h : s.unreached p = false) :
    s.badAccess p = s.count F.HIF_BADACC_CNT_COUNT := if_neg (Bool.not_eq_true _ ▸ h)

theorem exec_registerWrite_bad {s : State} {a : Nat} (h : a < 0x40000) (p : Port) :
    exec (.registerWrite p a .bad) s = .next (s.badAccess p) := by
  have inside : ¬ 0x40000 ≤ a := by omega
  simp only [exec, execRegisterWrite, inside, decide_false, Bool.and_false]
  rfl

theorem exec_registerWrite_beyond {a : Nat} {w : WShape} (h : 0x40000 ≤ a) (hw : w.inBar = true) (p : Port) (s : State) :
    exec (.registerWrite p a w) s = .fault .offsetBeyondBar := if_pos (by simp [hw, h])

theorem exec_readClear_beyond {a : Nat} (h : 0x40000 ≤ a) (p : Port) (x : RShape) (s : State) :
    exec (.readClear p a x) s = .fault .offsetBeyondBar := if_pos h

/-- A read that does not reach the device (R270) is answered with Unsupported Request, which carries no data. -/
theorem exec_readClear_unreached {s : State} {p : Port} (hu : s.unreached p = true) {a : Nat} (h : a < 0x40000) (x : RShape) :
    ∃ t, exec (.readClear p a x) s = .next t ∧ t.ans.read = none := by
  have inside : ¬ 0x40000 ≤ a := by omega
  exact ⟨_, (if_neg inside).trans (congrArg Host.Outcome.next (if_pos hu)), rfl⟩

/-- Settles O8: the role, the busy port, the shape and the offset each by its lemma. -/
theorem refusedAccesses : Obligations.RefusedAccesses := by
  refine ⟨?role, ?busy, ?shape, fun p a w x s h hw => ⟨exec_registerWrite_beyond h hw p s, exec_readClear_beyond h p x s⟩⟩
  case role =>
    intro p a v r s hok ho h1 h2 h4 hrow hmq hr hi
    have there : (s.touch p).fieldsWrite p a v = (s.touch p).rowWrite r p a v := by
      simp only [State.fieldsWrite, State.touch_rowThere, hrow]
    refine ⟨(s.touch p).rowWrite r p a v, ?_, ?_⟩
    · rw [exec_registerWrite_sch h1 h2 h4, State.onWrite_of_open ho, there]
    · have other : R.SEC_ROLE_DENY ≠ a := by
        unfold R.SEC_ROLE_DENY
        omega
      have run := State.rowWrite_of_refused (s := s.touch p) (r := r) (p := p) (v := v) (Kept.touch s p (Kept.refl hok)).ok
        (by rwa [State.touch_roleOf]) (by rwa [State.touch_mqBits]) (indexReg_sch h1 h2) other (by rwa [State.touch_shadowWord])
      rwa [State.touch_shadowWord, State.touch_get] at run
  case busy =>
    intro p a v s hok hb h1 h2 h4
    refine ⟨s.dropWrite p, ?_, State.get_dropWrite_of_busy p hok hb, State.onlyWords_dropWrite s p,
      Frame.dropWrite s p (Frame.refl s _) (by decide) (by decide)⟩
    rw [exec_registerWrite_sch h1 h2 h4, State.onWrite_of_closed (State.portOpen_of_busy hb)]
  case shape =>
    intro p a s hok hu ha
    refine ⟨s.count F.HIF_BADACC_CNT_COUNT, ?_, State.get_count s _ (Kept.refl hok).regs.live (by decide),
      State.onlyWords_count s _, Frame.count _ _ (Frame.refl s _) (by decide)⟩
    rw [exec_registerWrite_bad ha, State.badAccess_of_reached hu]

/-! A read over PCIe in D3cold -/

/-- SETUP, with the host interface in D3cold: SPI accesses reach the device, PCIe accesses do not (R270). -/
def setupInD3cold : State :=
  { State.reset with sys := { Sys.initial with mode := .setup }, hif := { Hif.initial with cold := true } }

theorem setupInD3cold_ok : setupInD3cold.ok := ⟨by decide, resetIsSound.2⟩

/-- Refutes O7: its reads of the scheduler block name either port, and over PCIe a device in D3cold answers none (R270). -/
theorem not_writesReachTheirCopiesAndReadsClear : ¬ Obligations.WritesReachTheirCopiesAndReadsClear := by
  unfold Obligations.WritesReachTheirCopiesAndReadsClear
  rintro ⟨-, readClears, -⟩
  have row : setupInD3cold.rowThere R.SCH_REJ_CNT = some ⟨0x1024, [], .none, 0, 0, 0, 0xffffffff, 0, 0, 0, 0⟩ := rfl
  obtain ⟨t, ht, answered, -⟩ := readClears .pcie R.SCH_REJ_CNT _ setupInD3cold setupInD3cold_ok rfl (by decide) (by decide)
    (by decide) (by decide) row (by decide) rfl
  obtain ⟨u, hu, unanswered⟩ := exec_readClear_unreached (s := setupInD3cold) (p := .pcie) rfl
    (show R.SCH_REJ_CNT < 0x40000 by decide) .word
  obtain rfl : t = u := Host.Outcome.next.inj (ht.symm.trans hu)
  rw [unanswered] at answered
  cases answered

end Sys2Proof.Machine
end

section
/-! PROOFS. SPI frames as accesses (R274 to R277, R493). -/

namespace Sys2Proof.Machine

/-! Every read of a word leaves its data in the answer and the bytes sent so far as they are -/

/-- From o to s a read has been answered. -/
def Answered (o s : State) : Prop := ∃ v, s.ans = { o.ans with read := some v }

section
variable {o s : State} {p : Port}

theorem Answered.answer (h : s.ans = o.ans) (v : Nat) : Answered o (s.answer v) :=
  ⟨v, congrArg (fun x : Answers => { x with read := some v }) h⟩

theorem Answered.set (h : Answered o s) (f : Fld) (v : Nat) : Answered o (s.set f v) := h

theorem Answered.ite {c : Prop} [Decidable c] {x y : State} (h : Answered o x) (k : Answered o y) :
    Answered o (if c then x else y) := by
  split <;> assumption

@[simp] theorem State.touch_ans (p : Port) (s : State) : (s.touch p).ans = s.ans :=
  Frame.touch s p (Frame.refl s [.sec]) (by decide) .ans (by decide)

theorem Answered.onRead (h : s.ans = o.ans) {f : State → State} (k : Answered o (f (s.touch p))) :
    Answered o (s.onRead p f) := .ite k (.answer h _)

variable (h : s.ans = o.ans)
include h

theorem Answered.windowRead (a n : Nat) : Answered o (s.windowRead a n) := by
  have asked : (s.askQuad (windowQuad a)).ans = o.ans :=
    (Frame.askQuad _ s (Frame.refl s [.clk, .hif]) (by decide) (by decide) .ans (by decide) : _ = s.ans).trans h
  unfold State.windowRead
  exact .ite (.answer asked _) (.ite (.answer asked _) (.answer asked _))

theorem Answered.msixRead (a : Nat) : Answered o (s.msixRead a) := by
  unfold State.msixRead
  exact .ite (.answer h _) (.ite (.answer h _) (.answer h _))

theorem Answered.accAccess : Answered o (s.accAccess p none) := by
  have advanced (u : State) (k : Answered o u) : Answered o u.accAdvance := .ite (k.set _ _) ((k.set _ _).set _ _)
  unfold State.accAccess
  cases s.accTarget with
  | none => exact advanced _ (.answer h _)
  | some t => exact advanced _ (.answer h _)

theorem Answered.energyRead (g : Nat) : Answered o (s.energyRead p g) :=
  .onRead h (.ite (.answer (s := (s.touch p).modGrd g _) ((State.touch_ans p s).trans h) _)
    (.answer ((State.touch_ans p s).trans h) _))

theorem Answered.strokeRead (n : Nat) : Answered o (s.strokeRead p n) :=
  .onRead h (.ite (.answer ((State.touch_ans p s).trans h) _)
    (.answer (s := (s.touch p).modNib n _) ((State.touch_ans p s).trans h) _))

theorem Answered.rxRead (n : Nat) : Answered o (s.rxRead p n) := by
  have touched := (State.touch_ans p s).trans h
  refine .onRead h (.ite (.answer touched _) ?_)
  dsimp only
  split
  · exact .ite (.answer (s := (s.touch p).count _) touched _)
      (.answer ((Frame.fifoNote _ _ _ (Frame.modNib (s.touch p) n _
        (Frame.refl _ [.regs, .nibs]) (by decide)) (by decide) (by decide) .ans (by decide)).trans touched) _)
  · exact .answer (s := (s.touch p).count _) touched _

theorem Answered.plainRead (a : Nat) : Answered o (s.plainRead a) := by
  unfold State.plainRead
  split
  · exact .answer ((Frame.afterRead _ a s (Frame.refl s [.regs, .tmrs]) (by decide) (by decide) .ans (by decide)).trans h) _
  · exact .answer h _

theorem Answered.readOpen (a : Nat) : Answered o (s.readOpen p a) := by
  unfold State.readOpen
  refine .ite (.windowRead h a 1) (.ite (.set (.answer h _) _ _) (.ite (.answer (s := s.set _ _) h _) ?_))
  refine .ite (.ite (.onRead h ?_) (.answer h _)) ?_
  · exact .answer (s := { s.touch p with whl := _ }) ((State.touch_ans p s).trans h) _
  refine .ite (.onRead h ?_) ?_
  · exact .answer (s := { s.touch p with ang := _ }) ((State.touch_ans p s).trans h) _
  refine .ite (.set (.answer h _) _ _) (.ite (.set (.answer h _) _ _) (.ite (.energyRead h _) (.ite (.accAccess h) ?_)))
  refine .ite (.strokeRead h _) (.ite (.ite (.answer (s := s.set _ _) h _) (.answer h _)) (.ite (.rxRead h _) ?_))
  exact .plainRead h a

theorem Answered.wordRead (a : Nat) : Answered o (s.wordRead p a) := by
  have touched := (State.touch_ans p s).trans h
  unfold State.wordRead
  exact .ite (.msixRead h a) (.ite (.answer touched _) (.ite (.answer touched _) (.onRead h (.readOpen touched a))))

end

/-! Frames of one word -/

theorem exec_readClear_word {s : State} {p : Port} {a : Nat} (hr : s.unreached p = false) (ha : a < 0x40000) (h4 : a % 4 = 0) :
    exec (.readClear p a .word) s = .next (s.wordRead p a) :=
  (if_neg (Nat.not_le.mpr ha)).trans (congrArg Host.Outcome.next ((if_neg (Bool.not_eq_true _ ▸ hr)).trans (if_pos h4)))

theorem exec_registerWrite_word {a : Nat} (ha : a < 0x40000) (h4 : a % 4 = 0) (p : Port) (v : Word) (s : State) :
    exec (.registerWrite p a (.word v)) s = .next (s.wordWrite p a v) :=
  (if_neg (by simp only [Bool.and_eq_true, decide_eq_true_eq]; omega)).trans (congrArg Host.Outcome.next (if_pos h4))

/-- The space has 18 offset bits, so a frame's first word has an offset. -/
theorem spiOffset_first (h : Word) : spiOffset h 0 = some (h.bits 0 18) := if_pos (bits_lt h 0 18)

theorem State.spiReadWord_first {h : Word} (h4 : h.bits 0 18 % 4 = 0) (s : State) :
    State.spiReadWord h ([], s) 0
      = ([(s.wordRead .spi (h.bits 0 18)).ans.read.getD 0], s.wordRead .spi (h.bits 0 18)) := by
  simp only [State.spiReadWord, spiOffset_first, if_pos h4, List.nil_append]

/-- A read frame of one word without a CRC byte: the dummy byte and the word follow what its access has left. -/
theorem exec_spiReadFrame_word {h : Word} {s : State} (hm : s.sys.mode ≠ .off) (hr : h.bit 31 = true) (hn : h.bits 25 6 = 0)
    (h4 : h.bits 0 18 % 4 = 0) (hc : s.flag F.HIF_CFG_SPI_CRC = false) :
    exec (.spiReadFrame { early := false, word := h }) s = .next
      { s.spiBegin.wordRead .spi (h.bits 0 18) with
        ans := { read := s.ans.read, spi := (s.spiBegin.wordRead .spi (h.bits 0 18)).ans.spi
          ++ 0 :: beBytes 4 ((s.spiBegin.wordRead .spi (h.bits 0 18)).ans.read.getD 0) } } := by
  have taken : ¬ (s.sys.mode = .off ∨ !h.bit 31) := by simp [hm, hr]
  have words : (upTo (0 + 1)).foldl (State.spiReadWord h) ([], s.spiBegin)
      = ([(s.spiBegin.wordRead .spi (h.bits 0 18)).ans.read.getD 0], s.spiBegin.wordRead .spi (h.bits 0 18)) :=
    State.spiReadWord_first h4 s.spiBegin
  simp only [exec, execSpiReadFrame, if_neg taken, hn, hc, words, Bool.false_eq_true, if_false, List.flatMap_singleton, List.append_nil]

/-- A write frame of one word without a CRC byte. -/
theorem exec_spiWriteFrame_word {h v : Word} {s : State} (hm : s.sys.mode ≠ .off) (hw : h.bit 31 = false) (hn : h.bits 25 6 = 0)
    (h4 : h.bits 0 18 % 4 = 0) (hc : s.flag F.HIF_CFG_SPI_CRC = false) (crc : Nat) :
    exec (.spiWriteFrame { early := false, word := h } [v] crc) s = .next (s.spiBegin.wordWrite .spi (h.bits 0 18) v) := by
  have taken : ¬ (s.sys.mode = .off ∨ h.bit 31) := by simp [hm, hw]
  have words : s.spiBegin.spiWords h [v] = s.spiBegin.wordWrite .spi (h.bits 0 18) v := by
    simp only [State.spiWords, List.mapIdx_cons, List.mapIdx_nil, List.foldl_cons, List.foldl_nil, spiOffset_first, if_pos h4]
  simp only [exec, execSpiWriteFrame, if_neg taken, hn, hc, Bool.false_eq_true, if_false]
  exact congrArg Host.Outcome.next words

/-- With SPI_CRC = 1 a frame whose CRC byte does not match is dropped whole. -/
theorem exec_spiWriteFrame_badCrc {h : Word} {ws : List Word} {crc : Nat} {s : State} (hm : s.sys.mode ≠ .off)
    (hw : h.bit 31 = false) (hc : s.flag F.HIF_CFG_SPI_CRC = true) (hbad : crc ≠ frameCrc h (ws.map BitVec.toNat)) :
    exec (.spiWriteFrame { early := false, word := h } ws crc) s = .next
      (({ s.spiBegin with hif := { s.spiBegin.hif with spiCrcErr := true } } : State).count F.HIF_SPI_CRC_CNT_COUNT) := by
  have taken : ¬ (s.sys.mode = .off ∨ h.bit 31) := by simp [hm, hw]
  have dropped : ¬ (ws.length = h.bits 25 6 + 1 ∧ crc = frameCrc h (ws.map BitVec.toNat)) := fun k => hbad k.2
  simp only [exec, execSpiWriteFrame, if_neg taken, hc, if_true, if_neg dropped]
  rfl

theorem exec_spiFrame_early {h : Word} {s : State} (hm : s.sys.mode ≠ .off) (ws : List Word) (crc : Nat) :
    (if h.bit 31 then exec (.spiReadFrame { early := true, word := h }) s
      else exec (.spiWriteFrame { early := true, word := h } ws crc) s) = .next s.spiIgnored := by
  cases hr : h.bit 31 with
  | true =>
    have taken : ¬ (s.sys.mode = .off ∨ !h.bit 31) := by simp [hm, hr]
    exact congrArg Host.Outcome.next (if_neg taken)
  | false =>
    have taken : ¬ (s.sys.mode = .off ∨ h.bit 31) := by simp [hm, hr]
    exact congrArg Host.Outcome.next (if_neg taken)

/-- Settles O9: a frame of one word is its word's access, which answers on every path; the CRC and the early frame by their lemmas. -/
theorem spiFramesActAsAccesses : Obligations.SpiFramesActAsAccesses := by
  refine ⟨fun h s _ hm hr hn h4 hc => ?read, fun h v crc s hm hw hn h4 hc => ?write, fun h ws crc s hok hm hw hc hbad => ?badCrc,
    fun h ws crc s hm => ⟨_, exec_spiFrame_early hm ws crc, rfl⟩⟩
  case read =>
    have reached : s.spiBegin.unreached .spi = false := by
      simp [State.unreached, State.spiBegin, hm]
    obtain ⟨v, hv⟩ : Answered s.spiBegin (s.spiBegin.wordRead .spi (h.bits 0 18)) := .wordRead rfl _
    refine ⟨_, _, v, exec_spiReadFrame_word hm hr hn h4 hc, exec_readClear_word reached (bits_lt h 0 18) h4, ?_, ?_, rfl, rfl⟩
    · rw [hv]
    · rw [hv]
      rfl
  case write => exact ⟨_, exec_spiWriteFrame_word hm hw hn h4 hc crc, exec_registerWrite_word (bits_lt h 0 18) h4 .spi v _⟩
  case badCrc =>
    have begun : s.onlyIn s.spiBegin [.regs, .hif, .ans] := Frame.spiBegin s (Frame.refl s _) (by decide) (by decide)
    exact ⟨_, exec_spiWriteFrame_badCrc hm hw hc hbad, rfl, State.get_count _ _ (Kept.refl hok).regs.live (by decide),
      State.onlyWords_count s _, Frame.count _ _ (Frame.with_hif begun (by decide)) (by decide)⟩

end Sys2Proof.Machine
end

section
/-! PROOFS. Which live words an operation leaves alone, step by step: each lemma takes what holds before the operation to what holds
after it, as the frames of Laws/FrameOps.lean do for the parts of the state. -/

namespace Sys2Proof.Machine

section
variable {o s t : State} {l : List Nat}

theorem State.onlyWords.refl (s : State) (l : List Nat) : s.onlyWords s l := ⟨rfl, fun _ _ => rfl⟩

/-- An operation that leaves the set-up registers but for the cycle's notes. -/
theorem State.onlyWords.of_regs (h : o.onlyWords s l) (k : t.regs = { s.regs with same := t.regs.same }) : o.onlyWords t l := by
  obtain ⟨regs, word⟩ := h
  refine ⟨by rw [k, regs], fun a ha => ?_⟩
  calc t.word a = s.word a := by unfold State.word; rw [k]
    _ = o.word a := word a ha

theorem State.onlyWords.trans (h : o.onlyWords s l) (k : s.onlyWords t l) : o.onlyWords t l := by
  obtain ⟨regs, word⟩ := h
  obtain ⟨regs', word'⟩ := k
  exact ⟨by rw [regs', regs], fun a ha => (word' a ha).trans (word a ha)⟩

theorem State.onlyWords.mono {m : List Nat} (h : o.onlyWords s l) (k : ∀ a ∈ l, a ∈ m) : o.onlyWords s m :=
  ⟨h.1, fun a ha => h.2 a (fun b => ha (k a b))⟩

theorem State.onlyWords.putWord {a : Nat} (h : o.onlyWords s l) (v : Word) (k : a ∈ l) : o.onlyWords (s.putWord a v) l := by
  obtain ⟨regs, word⟩ := h
  refine ⟨?_, fun b hb => ?_⟩
  · unfold State.putWord
    dsimp only
    rw [regs]
  · exact (congrArg (Option.getD · _) (WMap.find_put_other (fun e : b = a => hb (e.symm ▸ k)) _ _)).trans (word b hb)

theorem State.onlyWords.inCycle (h : o.onlyWords s l) (f : Same → Same) : o.onlyWords (s.inCycle f) l := h.of_regs rfl

theorem State.onlyWords.set {f : Fld} (h : o.onlyWords s l) (v : Nat) (k : f.a ∈ l) : o.onlyWords (s.set f v) l :=
  State.onlyWords.putWord (s := s.noteHw _ _) (h.inCycle _) _ k

theorem State.onlyWords.addSat {f : Fld} (h : o.onlyWords s l) (n : Nat) (k : f.a ∈ l) : o.onlyWords (s.addSat f n) l :=
  State.onlyWords.putWord (s := s.noteHw _ _) (h.inCycle _) _ k

theorem State.onlyWords.count {f : Fld} (h : o.onlyWords s l) (k : f.a ∈ l) : o.onlyWords (s.count f) l := h.addSat 1 k

theorem State.onlyWords.ite {c : Prop} [Decidable c] {x y : State} (h : o.onlyWords x l) (k : o.onlyWords y l) :
    o.onlyWords (if c then x else y) l := by
  split <;> assumption

theorem State.onlyWords.foldl {α : Type} {f : State → α → State} (step : ∀ s x, o.onlyWords s l → o.onlyWords (f s x) l) (xs : List α)
    (h : o.onlyWords s l) : o.onlyWords (xs.foldl f s) l := by
  induction xs generalizing s with
  | nil => exact h
  | cons x xs ih => exact ih (step s x h)

/-- The words that placing an alarm counts in (R304). -/
def alarmWordsOf (id : Nat) : List Nat := [R.HIF_ALMCNT id, R.HIF_REPEAT_CNT, R.HIF_ALM_HIGH]

theorem State.onlyWords.alarm (h : o.onlyWords s l) (id sub data data2 : Nat) (k : ∀ a ∈ alarmWordsOf id, a ∈ l) :
    o.onlyWords (s.alarm id sub data data2) l := by
  have folded : R.HIF_REPEAT_CNT ∈ l := k _ (by simp [alarmWordsOf])
  have high : R.HIF_ALM_HIGH ∈ l := k _ (by simp [alarmWordsOf])
  unfold State.alarm
  extract_lets a fold fifo hif placed counted last
  have first : o.onlyWords counted l :=
    State.onlyWords.count (s := placed) (f := F.HIF_ALMCNT_COUNT id) (h.of_regs rfl) (k _ (by simp [alarmWordsOf]))
  have done : o.onlyWords last l := .ite (first.count folded) first
  exact .ite (done.set _ high) done

theorem State.onlyWords.raise (h : o.onlyWords s l) (n : Nat) : o.onlyWords (s.raise n) l := by
  unfold State.raise
  split
  · exact h.of_regs rfl
  · exact h

theorem State.onlyWords.touch (h : o.onlyWords s l) (p : Port) : o.onlyWords (s.touch p) l :=
  h.of_regs (by rw [State.touch_regs])

theorem State.onlyWords.word_eq (h : o.onlyWords s l) {a : Nat} (k : a ∉ l) : s.word a = o.word a := h.2 a k

theorem State.onlyWords.get_eq (h : o.onlyWords s l) {f : Fld} (k : f.a ∉ l) : s.get f = o.get f := by
  unfold State.get
  rw [h.word_eq k]

theorem State.onlyWords.flag_eq (h : o.onlyWords s l) {f : Fld} (k : f.a ∉ l) : s.flag f = o.flag f := by
  unfold State.flag
  rw [h.get_eq k]

end

theorem State.flag_set (s : State) (f : Fld) (v : Nat) (h : s.regs.live.wf = true) (k : f.lo + f.w ≤ 32) :
    (s.set f v).flag f = (v % 2 ^ f.w != 0) := by
  unfold State.flag
  rw [State.get_set _ _ _ h k]

/-! A word under a mask -/

theorem Word.sub_and (x m : Word) : x - (x &&& m) = x &&& ~~~m := by
  have split : (x &&& ~~~m) ||| (x &&& m) = x := by
    rw [← BitVec.and_or_distrib_left, BitVec.not_or_self, BitVec.and_allOnes]
  have apart : (x &&& ~~~m) &&& (x &&& m) = 0#32 := by
    rw [BitVec.and_assoc, ← BitVec.and_assoc (~~~m), BitVec.and_comm (~~~m) x, BitVec.and_assoc x, BitVec.not_and_self]
    simp
  have sum : (x &&& ~~~m) + (x &&& m) = x := by rw [BitVec.add_eq_or_of_and_eq_zero _ _ apart, split]
  exact BitVec.sub_eq_iff_eq_add.mpr sum.symm

theorem Word.toNat_and_ofNat (x : Word) (m : Nat) : (x &&& BitVec.ofNat 32 m).toNat = x.toNat &&& m := by
  have small : x.toNat &&& m < 2 ^ 32 := Nat.lt_of_le_of_lt Nat.and_le_left x.isLt
  rw [BitVec.toNat_and, BitVec.toNat_ofNat, ← Nat.mod_eq_of_lt small, Nat.and_mod_two_pow, Nat.mod_eq_of_lt x.isLt]

/-- The bits of x outside the mask and of v inside it. -/
theorem mergeMask_eq (m : Nat) (x v : Word) :
    mergeMask m x v = (x &&& ~~~(BitVec.ofNat 32 m)) ||| (v &&& BitVec.ofNat 32 m) := by
  have outside : x.toNat - (x.toNat &&& m) = (x &&& ~~~(BitVec.ofNat 32 m)).toNat := by
    rw [← Word.sub_and, BitVec.toNat_sub_of_le (by rw [BitVec.le_def, Word.toNat_and_ofNat]; exact Nat.and_le_left),
      Word.toNat_and_ofNat]
  unfold mergeMask Word.ofN
  rw [outside, ← Word.toNat_and_ofNat, ← BitVec.toNat_or, BitVec.ofNat_toNat, BitVec.setWidth_eq]

theorem bits_eq_extract (x : Word) (lo w : Nat) : x.bits lo w = (x.extractLsb' lo w).toNat := rfl

/-- A field that lies inside the mask is v's. -/
theorem bits_mergeMask_inside {m lo w : Nat} (h : (BitVec.ofNat 32 m).extractLsb' lo w = BitVec.allOnes w)
    (k : (~~~(BitVec.ofNat 32 m)).extractLsb' lo w = 0#w) (x v : Word) : (mergeMask m x v).bits lo w = v.bits lo w := by
  simp only [bits_eq_extract, mergeMask_eq, BitVec.extractLsb'_or, BitVec.extractLsb'_and, h, k, BitVec.and_zero, BitVec.zero_or,
    BitVec.and_allOnes]

end Sys2Proof.Machine
end

section
/-! PROOFS. The ring engine: enabling and stopping of rings (R286 to R290), the doorbell line (R291, R292), the status line and the
records (R293 to R307). -/

namespace Sys2Proof.Machine

theorem ringAt_lt {s : State} (h : s.ok) {r : Nat} (hr : r < 19) : r < s.hif.rings.length := by
  rw [Hif.shaped_rings (Kept.refl h).hif]
  exact hr

/-- Ring r after an update of it: updated, and every other ring as it was. -/
theorem State.ring_modRing_same {r : Nat} {s : State} (h : r < s.hif.rings.length) (f : Ring → Ring) :
    (s.modRing r f).ring r = f (s.ring r) := by
  rw [State.ring_modRing, if_pos ⟨rfl, h⟩]

theorem State.ring_modRing_other {r q : Nat} (h : q ≠ r) (s : State) (f : Ring → Ring) : (s.modRing r f).ring q = s.ring q := by
  rw [State.ring_modRing, if_neg (fun k => h k.1.symm)]

/-! Writes of HIF_RCFGr (R289) -/

theorem State.ringCfg_of_on {r : Nat} {v : Word} {s : State} (h : s.flag (F.HIF_RCFG_EN r) = true) :
    s.ringCfg r v = if v.bit 0 then s else s.set (F.HIF_RCFG_EN r) 0 := if_pos h

/-- The set-up word as a write with EN = 1 leaves it. -/
def State.ringConfigured (r : Nat) (v : Word) (s : State) : State :=
  (s.putWord (R.HIF_RCFG r) (mergeMask 0xFFFF037E (s.word (R.HIF_RCFG r)) v)).set (F.HIF_RCFG_EN r) 1

/-- Whether a stop by a failed DMA request outlasts the enabling (R269). -/
def State.dmaStopStands (r : Nat) (s : State) : Bool := (s.ring r).err && decide ((s.ring r).errc < 5) && s.flag F.HIF_DMAERR_VALID

/-- A ring as it is when it is enabled. -/
def Ring.enabled (keep : Bool) (x : Ring) : Ring :=
  { x with idx := 0, host := 0, active := true, full := false, phase := true, err := keep, errc := if keep then x.errc else 0 }

theorem State.ringCfg_of_legal {r : Nat} {v : Word} {s : State} (h : s.flag (F.HIF_RCFG_EN r) = false) (hv : v.bit 0 = true)
    (lo : 6 ≤ v.bits 1 5) (hi : v.bits 1 5 ≤ 16) (base : s.get (F.HIF_RBASELO_ADDR r) ≠ 0 ∨ s.get (F.HIF_RBASEHI_ADDR r) ≠ 0) :
    s.ringCfg r v = (s.ringConfigured r v).modRing r (Ring.enabled ((s.ringConfigured r v).dmaStopStands r)) := by
  simp only [State.ringCfg, h, hv, lo, hi, base, Bool.false_eq_true, if_false, decide_true, Bool.and_self, if_true]
  rfl

theorem State.ringConfigured_onlyWords (r : Nat) (v : Word) (s : State) : s.onlyWords (s.ringConfigured r v) [R.HIF_RCFG r] :=
  ((State.onlyWords.refl s _).putWord _ List.mem_cons_self).set _ List.mem_cons_self

theorem State.ringConfigured_frame (r : Nat) (v : Word) (s : State) : s.onlyIn (s.ringConfigured r v) [.regs] :=
  Frame.set _ _ _ (Frame.putWord _ _ _ (Frame.refl s _) (by decide)) (by decide)

theorem State.ringConfigured_flag {r : Nat} (v : Word) {s : State} (h : s.regs.live.wf = true) :
    (s.ringConfigured r v).flag (F.HIF_RCFG_EN r) = true := by
  unfold State.ringConfigured
  rw [State.flag_set _ _ _ (WMap.put_wf _ _ _ h) (Nat.le_of_ble_eq_true rfl)]
  rfl

/-- LOG2SZ lies in the part of the word that a write reaches. -/
theorem State.ringConfigured_size {r : Nat} (v : Word) {s : State} (h : s.regs.live.wf = true) :
    (s.ringConfigured r v).ringSize r = 2 ^ v.bits 1 5 := by
  have size : (BitVec.ofNat 32 0xFFFF037E).extractLsb' 1 5 = BitVec.allOnes 5 := by decide
  have none : (~~~(BitVec.ofNat 32 0xFFFF037E)).extractLsb' 1 5 = 0#5 := by decide
  unfold State.ringConfigured State.ringSize State.get
  rw [State.word_set _ _ _ _ (WMap.put_wf _ _ _ h), if_pos rfl, bits_setBits_above _ _ _ _ _ _ (Nat.le_of_ble_eq_true rfl)
    (Nat.le_of_ble_eq_true rfl), State.word_putWord _ _ _ _ h, if_pos rfl, bits_mergeMask_inside size none]

theorem exec_ringEnable {p : Port} {r : Nat} {v : Word} {s : State} (ho : s.portOpen = true) (hv : v.bit 0 = true) :
    exec (.ringEnable p r v) s = .next ((s.touch p).ringCfg r v) :=
  congrArg Host.Outcome.next ((if_pos hv).trans (State.onWrite_of_open ho _))

theorem exec_ringDisable {p : Port} {r : Nat} {v : Word} {s : State} (ho : s.portOpen = true) (hv : v.bit 0 = false) :
    exec (.ringDisable p r v) s = .next ((s.touch p).ringCfg r v) :=
  congrArg Host.Outcome.next ((if_neg (Bool.not_eq_true _ ▸ hv)).trans (State.onWrite_of_open ho _))

@[simp] theorem State.touch_flag (p : Port) (s : State) (f : Fld) : (s.touch p).flag f = s.flag f := by
  unfold State.flag
  rw [State.touch_get]

@[simp] theorem State.touch_ring (p : Port) (s : State) (r : Nat) : (s.touch p).ring r = s.ring r := by
  unfold State.ring
  rw [State.touch_hif]

theorem ringEnable_starts {p : Port} {r : Nat} {v : Word} {s : State} (hok : s.ok) (ho : s.portOpen = true) (hr : r < 19)
    (off : s.flag (F.HIF_RCFG_EN r) = false) (hv : v.bit 0 = true) (lo : 6 ≤ v.bits 1 5) (hi : v.bits 1 5 ≤ 16)
    (base : s.get (F.HIF_RBASELO_ADDR r) ≠ 0 ∨ s.get (F.HIF_RBASEHI_ADDR r) ≠ 0) :
    ∃ t, exec (.ringEnable p r v) s = .next t ∧ t.flag (F.HIF_RCFG_EN r) = true ∧ t.ringSize r = 2 ^ v.bits 1 5
      ∧ (t.ring r).active = true ∧ (t.ring r).idx = 0 ∧ (t.ring r).host = 0 ∧ (t.ring r).phase = true
      ∧ (∀ q, q ≠ r → t.ring q = s.ring q) ∧ t.hif = { s.hif with rings := t.hif.rings }
      ∧ s.onlyWords t [R.HIF_RCFG r] ∧ s.onlyIn t [.regs, .hif, .sec] := by
  have wf : (s.touch p).regs.live.wf = true := (Kept.touch s p (Kept.refl hok)).regs.live
  have hif : ((s.touch p).ringConfigured r v).hif = s.hif :=
    (State.ringConfigured_frame r v (s.touch p) .hif (by decide)).trans (State.touch_hif p s)
  have there : r < ((s.touch p).ringConfigured r v).hif.rings.length := hif ▸ ringAt_lt hok hr
  refine ⟨_, (exec_ringEnable ho hv).trans (congrArg _ (State.ringCfg_of_legal (by rwa [State.touch_flag]) hv lo hi
    (by rwa [State.touch_get, State.touch_get]))), State.ringConfigured_flag v wf, State.ringConfigured_size v wf, ?_⟩
  rw [State.ring_modRing_same there]
  refine ⟨rfl, rfl, rfl, rfl, fun q hq => ?_, ?_, ?_, ?_⟩
  · rw [State.ring_modRing_other hq]
    exact congrArg (fun h : Hif => h.rings.getD q Ring.initial) hif
  · simp only [State.modRing, hif]
  · exact ((State.onlyWords.refl s _).touch p).trans (State.ringConfigured_onlyWords r v _)
  · exact Frame.modRing _ _ _ (Frame.trans (Frame.touch s p (Frame.refl s _) (by decide))
      (Frame.mono (State.ringConfigured_frame r v _) (by decide))) (by decide)

theorem ringDisable_stops {p : Port} {r : Nat} {v : Word} {s : State} (hok : s.ok) (ho : s.portOpen = true)
    (on : s.flag (F.HIF_RCFG_EN r) = true) (hv : v.bit 0 = false) :
    ∃ t, exec (.ringDisable p r v) s = .next t ∧ t.word (R.HIF_RCFG r) = setBits (s.word (R.HIF_RCFG r)) 0 1 0
      ∧ t.flag (F.HIF_RCFG_EN r) = false ∧ s.onlyWords t [R.HIF_RCFG r] ∧ s.onlyIn t [.regs, .sec] := by
  have wf : (s.touch p).regs.live.wf = true := (Kept.touch s p (Kept.refl hok)).regs.live
  refine ⟨(s.touch p).set (F.HIF_RCFG_EN r) 0, ?_, ?_, State.flag_set _ _ _ wf (Nat.le_of_ble_eq_true rfl),
    ((State.onlyWords.refl s _).touch p).set _ List.mem_cons_self,
    Frame.set _ _ _ (Frame.touch s p (Frame.refl s _) (by decide)) (by decide)⟩
  · rw [exec_ringDisable ho hv, State.ringCfg_of_on (by rwa [State.touch_flag]), hv]
    rfl
  · rw [State.word_set _ _ _ _ wf, if_pos rfl, State.touch_word]

theorem ringDrained_clears {r : Nat} {s : State} (hok : s.ok) (hr : r < 19) (off : s.flag (F.HIF_RCFG_EN r) = false) :
    ∃ t, exec (.ringDrained r) s = .next t ∧ t.ring r = { s.ring r with active := false } ∧ (∀ q, q ≠ r → t.ring q = s.ring q)
      ∧ t.hif = { s.hif with rings := t.hif.rings } ∧ s.onlyIn t [.hif] :=
  ⟨_, congrArg Host.Outcome.next (if_neg (Bool.not_eq_true _ ▸ off)), State.ring_modRing_same (ringAt_lt hok hr) _,
    fun _ hq => State.ring_modRing_other hq _ _, rfl, Frame.modRing _ _ _ (Frame.refl s _) (by decide)⟩

/-! The ring engine starts (R290): what is discarded, and what stays -/

theorem State.loseRec_hif (x : TeleRec) (s : State) : (s.loseRec x).hif = { s.hif with rings := (s.loseRec x).hif.rings } := by
  unfold State.loseRec State.lose State.owe
  cases x.gap <;> dsimp only <;> split <;> rfl

theorem State.loseRecs_hif (l : List TeleRec) (s : State) :
    (l.foldl (fun (s : State) t => s.loseRec t) s).hif
      = { s.hif with rings := (l.foldl (fun (s : State) t => s.loseRec t) s).hif.rings } := by
  induction l generalizing s with
  | nil => rfl
  | cons x l ih =>
    rw [List.foldl_cons, ih, State.loseRec_hif x s]

/-- Discarded telemetry and trace leave the rest of the host link but for the rings, which note the losses. -/
theorem State.discardStaging_hif (s : State) :
    s.discardStaging.hif = { s.hif with tele := [], trace := [], rings := s.discardStaging.hif.rings } :=
  State.loseRecs_hif (s.hif.tele ++ s.hif.trace) { s with hif := { s.hif with tele := [], trace := [] } }

/-- From s to t alarms have been placed and the full state of CQs followed (R307), and nothing else of the host link moved. -/
def AlarmsPlaced (s t : State) : Prop :=
  ∃ full l, t.hif = { s.hif with cqFull := full, alarms := l } ∧ s.hif.alarms.length ≤ l.length

theorem AlarmsPlaced.refl (s : State) : AlarmsPlaced s s := ⟨_, _, rfl, Nat.le_refl _⟩

theorem AlarmsPlaced.trans {s t u : State} (h : AlarmsPlaced s t) (k : AlarmsPlaced t u) : AlarmsPlaced s u := by
  obtain ⟨full, l, hif, long⟩ := h
  obtain ⟨full', l', hif', long'⟩ := k
  refine ⟨full', l', by rw [hif', hif], ?_⟩
  rw [hif] at long'
  exact Nat.le_trans long long'

theorem foldAlarm_length (a : Alarm) (l : List Alarm) : l.length ≤ (foldAlarm a l).length := by
  unfold foldAlarm
  split <;> simp

theorem State.alarm_hif (id sub data data2 : Nat) (s : State) :
    (s.alarm id sub data data2).hif = { s.hif with alarms := (s.alarm id sub data data2).hif.alarms } := by
  unfold State.alarm
  dsimp only
  split <;> split <;> rfl

theorem State.alarm_alarms (id sub data data2 : Nat) (s : State) : s.hif.alarms.length ≤ (s.alarm id sub data data2).hif.alarms.length := by
  have appended (a : Alarm) : s.hif.alarms.length ≤ (s.hif.alarms ++ [a]).length := by simp
  unfold State.alarm
  dsimp only
  split
  · split <;> exact foldAlarm_length _ _
  · split <;> exact appended _

theorem AlarmsPlaced.alarm (id sub data data2 : Nat) (s : State) : AlarmsPlaced s (s.alarm id sub data data2) :=
  ⟨s.hif.cqFull, _, State.alarm_hif id sub data data2 s, State.alarm_alarms id sub data data2 s⟩

theorem AlarmsPlaced.watchCq (n : Nat) (s : State) : AlarmsPlaced s (s.watchCq n) := by
  have noted (full : List Bool) : AlarmsPlaced s { s with hif := { s.hif with cqFull := full } } := ⟨full, _, rfl, Nat.le_refl _⟩
  unfold State.watchCq
  dsimp only
  split
  · exact (noted _).trans (.alarm _ _ _ _ _)
  · split
    · exact (noted _).trans (.alarm _ _ _ _ _)
    · exact .refl s

theorem AlarmsPlaced.watchCqs (s : State) : AlarmsPlaced s s.watchCqs :=
  ((((AlarmsPlaced.watchCq 0 s).trans (.watchCq 1 _)).trans (.watchCq 2 _)).trans (.watchCq 3 _))

theorem State.onlyWords.watchCq {o s : State} {l : List Nat} (h : o.onlyWords s l) (n : Nat) (k : ∀ a ∈ alarmWordsOf 19, a ∈ l) :
    o.onlyWords (s.watchCq n) l := by
  have noted (full : List Bool) : o.onlyWords { s with hif := { s.hif with cqFull := full } } l := h.of_regs rfl
  unfold State.watchCq
  exact .ite ((noted _).alarm _ _ _ _ k) (.ite ((noted _).alarm _ _ _ _ k) h)

theorem State.onlyWords.watchCqs {o s : State} {l : List Nat} (h : o.onlyWords s l) (k : ∀ a ∈ alarmWordsOf 19, a ∈ l) :
    o.onlyWords s.watchCqs l :=
  .foldl (fun _ n h => h.watchCq n k) _ h

/-- The state in which the engine starts, before the CQs are looked at. -/
def State.engineStarted (s : State) : State :=
  let s : State := s.discardStaging.set F.HIF_RCTRL_EN 1
  { s with hif := { s.hif with
    rings := s.hif.rings.map (fun x => { x with idx := 0, host := 0, phase := true, full := false }),
    reported := { s.hif.reported with idx := List.replicate 19 0 }, turn := none, dbReads := 0, dbLast := none, dbAt := s.now } }

theorem State.engineStarted_ring (s : State) (r : Nat) :
    (s.engineStarted.ring r).idx = 0 ∧ (s.engineStarted.ring r).host = 0 ∧ (s.engineStarted.ring r).phase = true := by
  unfold State.engineStarted State.ring
  dsimp only
  rw [List.getD_eq_getElem?_getD, List.getElem?_map]
  cases (s.discardStaging.set F.HIF_RCTRL_EN 1).hif.rings[r]? <;> exact ⟨rfl, rfl, rfl⟩

theorem State.engineStarted_staging (s : State) :
    s.engineStarted.hif.tele = [] ∧ s.engineStarted.hif.trace = [] ∧ s.engineStarted.hif.results = s.hif.results
      ∧ s.engineStarted.hif.alarms = s.hif.alarms := by
  have staged : (s.discardStaging.set F.HIF_RCTRL_EN 1).hif = _ := State.discardStaging_hif s
  unfold State.engineStarted
  dsimp only
  rw [staged]
  exact ⟨rfl, rfl, rfl, rfl⟩

theorem State.engineOn_eq (s : State) : s.engineOn = s.engineStarted.watchCqs := rfl

theorem ringEngineEnable_starts {p : Port} {v : Word} {s : State} (hok : s.ok) (ho : s.portOpen = true) (hv : v.bit 0 = true)
    (off : s.flag F.HIF_RCTRL_EN = false) (lines : s.lineAddrs = true) :
    ∃ t, exec (.ringEngineEnable p v) s = .next t ∧ t.flag F.HIF_RCTRL_EN = true
      ∧ (∀ r, (t.ring r).idx = 0 ∧ (t.ring r).host = 0 ∧ (t.ring r).phase = true)
      ∧ t.hif.tele = [] ∧ t.hif.trace = [] ∧ t.hif.results = s.hif.results ∧ s.hif.alarms.length ≤ t.hif.alarms.length
      ∧ s.onlyIn t [.regs, .hif, .sec] := by
  have linesTouched : (s.touch p).lineAddrs = true := by simpa only [State.lineAddrs, State.touch_get] using lines
  have wf := (Kept.discardStaging _ (Kept.touch s p (Kept.refl hok))).regs.live
  have flag : ((s.touch p).discardStaging.set F.HIF_RCTRL_EN 1).flag F.HIF_RCTRL_EN = true := State.flag_set _ _ _ wf (by decide)
  have kept : (s.touch p).engineStarted.onlyWords (s.touch p).engineOn (alarmWordsOf 19) :=
    (State.onlyWords.refl _ _).watchCqs (fun _ h => h)
  obtain ⟨full, l, hif, long⟩ := AlarmsPlaced.watchCqs (s.touch p).engineStarted
  rw [← State.engineOn_eq] at hif
  obtain ⟨tele, trace, results, alarms⟩ := (s.touch p).engineStarted_staging
  refine ⟨(s.touch p).engineOn, ?_, (kept.flag_eq (by decide)).trans flag, fun r => ?_, ?_, ?_, ?_, ?_, ?_⟩
  · refine congrArg Host.Outcome.next ((State.onWrite_of_open ho _).trans ((if_pos hv).trans (if_neg ?_)))
    simp [off, linesTouched]
  · unfold State.ring
    rw [hif]
    exact State.engineStarted_ring _ r
  · rw [hif]
    exact tele
  · rw [hif]
    exact trace
  · rw [hif]
    exact results.trans (by rw [State.touch_hif])
  · rw [hif]
    rwa [alarms, State.touch_hif] at long
  · exact Frame.engineOn _ (Frame.touch s p (Frame.refl s _) (by decide)) (by decide) (by decide)

theorem ringEngineEnable_stops {p : Port} {v : Word} {s : State} (hok : s.ok) (ho : s.portOpen = true) (hv : v.bit 0 = false) :
    ∃ t, exec (.ringEngineEnable p v) s = .next t ∧ t.word R.HIF_RCTRL = setBits (s.word R.HIF_RCTRL) 0 1 0
      ∧ s.onlyWords t [R.HIF_RCTRL] ∧ s.onlyIn t [.regs, .sec] := by
  refine ⟨(s.touch p).set F.HIF_RCTRL_EN 0, ?_, ?_, ((State.onlyWords.refl s _).touch p).set _ List.mem_cons_self,
    Frame.set _ _ _ (Frame.touch s p (Frame.refl s _) (by decide)) (by decide)⟩
  · exact congrArg Host.Outcome.next ((State.onWrite_of_open ho _).trans (if_neg (Bool.not_eq_true _ ▸ hv)))
  · rw [State.word_set _ _ _ _ (Kept.touch s p (Kept.refl hok)).regs.live, if_pos rfl, State.touch_word]

/-- Settles O10: each write of a ring's or the engine's EN by its lemma. -/
theorem ringsStartAndStop : Obligations.RingsStartAndStop :=
  ⟨fun _ _ _ _ hok ho hr off hv lo hi base => ringEnable_starts hok ho hr off hv lo hi base,
    fun p r v s ho on hv => ⟨s.touch p, (exec_ringEnable ho hv).trans (congrArg _ ((State.ringCfg_of_on (by rwa [State.touch_flag])).trans
      (if_pos hv))), Frame.touch s p (Frame.refl s _) (by decide)⟩,
    fun _ _ _ _ hok ho _ on hv => ringDisable_stops hok ho on hv, fun _ _ hok hr off => ringDrained_clears hok hr off,
    fun _ _ _ hok ho hv off lines => ringEngineEnable_starts hok ho hv off lines,
    fun _ _ _ hok ho hv => ringEngineEnable_stops hok ho hv⟩

end Sys2Proof.Machine
end

section
/-! PROOFS. The doorbell line (R291, R292, R294), the status line and the records (R286, R288, R293 to R307). -/

namespace Sys2Proof.Machine

/-! One ring's index -/

/-- What the indices of the other rings leave of ring r: the ring itself and its set-up word. -/
structure RingStands (r : Nat) (s t : State) : Prop where
  ring : t.ring r = s.ring r
  cfg : t.word (R.HIF_RCFG r) = s.word (R.HIF_RCFG r)
  rings : t.hif.rings.length = s.hif.rings.length

theorem RingStands.refl (r : Nat) (s : State) : RingStands r s s := ⟨rfl, rfl, rfl⟩

theorem RingStands.trans {r : Nat} {s t u : State} (h : RingStands r s t) (k : RingStands r t u) : RingStands r s u :=
  ⟨k.ring.trans h.ring, k.cfg.trans h.cfg, k.rings.trans h.rings⟩

theorem RingStands.live {r : Nat} {s t : State} (h : RingStands r s t) : t.ringLive r = s.ringLive r := by
  unfold State.ringLive State.flag State.get
  rw [h.ring, h.cfg]

theorem RingStands.indexOk {r : Nat} {s t : State} (h : RingStands r s t) (v : Nat) : t.indexOk r v = s.indexOk r v := by
  unfold State.indexOk State.ringSize State.get
  rw [h.ring, h.cfg]

theorem RingStands.alarm {r id : Nat} (hr : r < 19) (h17 : 16 ≤ id) (h19 : id < 20) (sub data data2 : Nat) (s : State) :
    RingStands r s (s.alarm id sub data data2) := by
  have hif := State.alarm_hif id sub data data2 s
  have words : s.onlyWords (s.alarm id sub data data2) (alarmWordsOf id) := (State.onlyWords.refl s _).alarm _ _ _ _ (fun _ h => h)
  refine ⟨by unfold State.ring; rw [hif], words.word_eq ?_, by rw [hif]⟩
  simp only [alarmWordsOf, List.mem_cons, List.not_mem_nil, or_false, R.HIF_RCFG, R.HIF_ALMCNT, R.HIF_REPEAT_CNT, R.HIF_ALM_HIGH]
  omega

theorem RingStands.watchCqs {r : Nat} (hr : r < 19) (s : State) : RingStands r s s.watchCqs := by
  obtain ⟨full, l, hif, -⟩ := AlarmsPlaced.watchCqs s
  have words : s.onlyWords s.watchCqs (alarmWordsOf 19) := (State.onlyWords.refl s _).watchCqs (fun _ h => h)
  refine ⟨by unfold State.ring; rw [hif], words.word_eq ?_, by rw [hif]⟩
  simp only [alarmWordsOf, List.mem_cons, List.not_mem_nil, or_false, R.HIF_RCFG, R.HIF_ALMCNT, R.HIF_REPEAT_CNT, R.HIF_ALM_HIGH]
  omega

theorem RingStands.modRing {r q : Nat} (h : r ≠ q) (f : Ring → Ring) (s : State) : RingStands r s (s.modRing q f) :=
  ⟨State.ring_modRing_other h s f, rfl, modAt_length _ _ _⟩

theorem RingStands.takeIndex {r q : Nat} (hr : r < 19) (h : r ≠ q) (v : Nat) (s : State) : RingStands r s (s.takeIndex q v) := by
  unfold State.takeIndex
  split
  · split
    · exact (RingStands.modRing h _ s).trans (.modRing h _ _)
    · exact (RingStands.modRing h _ s).trans (.alarm hr (by decide) (by decide) _ _ _ _)
  · exact .refl r s

theorem State.takeIndex_legal {r v : Nat} {s : State} (hr : r < s.hif.rings.length) (live : s.ringLive r = true)
    (legal : s.indexOk r v = true) :
    ((s.takeIndex r v).ring r).host = v ∧ ((s.takeIndex r v).ring r).idx = (s.ring r).idx ∧ ((s.takeIndex r v).ring r).err = false := by
  have running : (s.ring r).err = false := by
    simp only [State.ringLive, Bool.and_eq_true, Bool.not_eq_true'] at live
    exact live.2
  unfold State.takeIndex
  rw [if_pos live, if_pos legal, State.ring_modRing_same (s := s.modRing r _) (by rwa [State.modRing, modAt_length]),
    State.ring_modRing_same hr]
  exact ⟨rfl, rfl, running⟩

theorem State.takeIndex_illegal {r v : Nat} {s : State} (h19 : r < 19) (hr : r < s.hif.rings.length) (live : s.ringLive r = true)
    (illegal : s.indexOk r v = false) :
    ((s.takeIndex r v).ring r).err = true ∧ ((s.takeIndex r v).ring r).errc = 5
      ∧ ((s.takeIndex r v).ring r).host = (s.ring r).host := by
  unfold State.takeIndex
  rw [if_pos live, if_neg (Bool.not_eq_true _ ▸ illegal), (RingStands.alarm h19 (by decide) (by decide) r 5 0 (s.stopRing r 5)).ring,
    State.stopRing, State.ring_modRing_same hr]
  exact ⟨rfl, rfl, rfl⟩

/-! The line's indices in ring order -/

/-- What the indices of some rings leave of a ring that is not among them. -/
theorem RingStands.takeIndices {r : Nat} (hr : r < 19) (v : Nat → Nat) (qs : List Nat) (h : r ∉ qs) (s : State) :
    RingStands r s (qs.foldl (fun (s : State) q => s.takeIndex q (v q)) s) := by
  induction qs generalizing s with
  | nil => exact .refl r s
  | cons q qs ih =>
    rw [List.mem_cons, not_or] at h
    exact (RingStands.takeIndex hr h.1 (v q) s).trans (ih h.2 _)

/-- Ring r's index is taken in a state in which the ring stands as in s, and what comes after leaves it. -/
theorem RingStands.takeLine {r : Nat} (hr : r < 19) (v : Nat → Nat) (s : State) :
    ∃ u, RingStands r s u
      ∧ RingStands r (u.takeIndex r (v r)) ((upTo 19).foldl (fun (s : State) q => s.takeIndex q (v q)) s).watchCqs := by
  have order : upTo 19 = (List.range r ++ [r]) ++ (List.range (18 - r)).map (fun i => r + 1 + i) := by
    unfold upTo
    rw [← List.range_succ, ← List.range_add]
    congr 1
    omega
  refine ⟨(List.range r).foldl (fun (s : State) q => s.takeIndex q (v q)) s, .takeIndices hr v _ (by simp) s, ?_⟩
  rw [order, List.foldl_append, List.foldl_append, List.foldl_cons, List.foldl_nil]
  have later : r ∉ (List.range (18 - r)).map (fun i => r + 1 + i) := by
    rw [List.mem_map]
    rintro ⟨i, -, hi⟩
    omega
  exact (RingStands.takeIndices hr v _ later _).trans (.watchCqs hr _)

/-- The line before its indices are taken. -/
def State.lineTaken (line : DoorbellLine) (s : State) : State :=
  let s : State := if s.hif.dbLast = some line then s else s.heard
  { s with hif := { s.hif with dbReads := s.hif.dbReads - 1, dbLast := some line } }

theorem State.takeLine_eq (line : DoorbellLine) (s : State) :
    s.takeLine line = ((upTo 19).foldl (fun (s : State) q => s.takeIndex q (line.idx.getD q 0)) (s.lineTaken line)).watchCqs := rfl

theorem State.lineTaken_hif (line : DoorbellLine) (s : State) :
    (s.lineTaken line).hif.dbReads = s.hif.dbReads - 1 ∧ (s.lineTaken line).hif.dbLast = some line
      ∧ (s.lineTaken line).hif.rings = s.hif.rings := by
  unfold State.lineTaken
  split <;> exact ⟨rfl, rfl, rfl⟩

theorem RingStands.lineTaken (r : Nat) (line : DoorbellLine) (s : State) : RingStands r s (s.lineTaken line) := by
  unfold State.lineTaken
  split <;> exact ⟨rfl, rfl, rfl⟩

/-- From s to t the doorbell reads are the same. -/
def SameReads (s t : State) : Prop := t.hif.dbReads = s.hif.dbReads ∧ t.hif.dbLast = s.hif.dbLast

theorem SameReads.alarm (id sub data data2 : Nat) (s : State) : SameReads s (s.alarm id sub data data2) := by
  unfold SameReads
  rw [State.alarm_hif]
  exact ⟨rfl, rfl⟩

theorem SameReads.takeIndex (r v : Nat) (s : State) : SameReads s (s.takeIndex r v) := by
  unfold State.takeIndex
  split
  · split
    · exact ⟨rfl, rfl⟩
    · exact SameReads.alarm 17 r 5 0 (s.stopRing r 5)
  · exact ⟨rfl, rfl⟩

theorem SameReads.takeIndices (v : Nat → Nat) (qs : List Nat) (s : State) :
    SameReads s (qs.foldl (fun (s : State) q => s.takeIndex q (v q)) s) := by
  induction qs generalizing s with
  | nil => exact ⟨rfl, rfl⟩
  | cons q qs ih =>
    obtain ⟨reads, last⟩ := SameReads.takeIndex q (v q) s
    obtain ⟨reads', last'⟩ := ih (s.takeIndex q (v q))
    exact ⟨reads'.trans reads, last'.trans last⟩

theorem State.takeLine_reads (line : DoorbellLine) (s : State) :
    (s.takeLine line).hif.dbReads = s.hif.dbReads - 1 ∧ (s.takeLine line).hif.dbLast = some line := by
  obtain ⟨reads, last, -⟩ := s.lineTaken_hif line
  obtain ⟨reads', last'⟩ := SameReads.takeIndices (fun q => line.idx.getD q 0) (upTo 19) (s.lineTaken line)
  rw [s.takeLine_eq line]
  generalize (upTo 19).foldl (fun (s : State) q => s.takeIndex q (line.idx.getD q 0)) (s.lineTaken line) = u at reads' last' ⊢
  obtain ⟨full, l, hif, -⟩ := AlarmsPlaced.watchCqs u
  rw [hif]
  exact ⟨reads'.trans reads, last'.trans last⟩

/-- Settles O11: each ring's index by its turn in the order of the line, which the other turns leave alone. -/
theorem doorbellLineGivesTheHostIndices : Obligations.DoorbellLineGivesTheHostIndices := by
  refine ⟨fun s engine due => ?sweep, fun line s hok engine reads => ?line⟩
  case sweep =>
    have sweepDue : s.sweepDue = true := by simp [State.sweepDue, engine, due]
    refine congrArg Host.Outcome.next ((if_pos sweepDue).trans ?_)
    dsimp only
    by_cases none : s.hif.dbReads = 0
    · rw [if_pos none, if_pos none, State.doorbellRead]
      refine (if_pos engine).trans ?_
      simp only [none]
    · rw [if_neg none, if_neg none]
  case line =>
    have stands {r : Nat} (hr : r < 19) := RingStands.takeLine hr (fun q => line.idx.getD q 0) (s.lineTaken line)
    obtain ⟨readsLeft, last⟩ := s.takeLine_reads line
    refine ⟨s.takeLine line, congrArg Host.Outcome.next (if_pos (by simp [engine, reads])), readsLeft, last, fun r hr dead => ?_,
      fun r hr live legal => ?_, fun r hr live illegal => ?_, Frame.takeLine line s (Frame.refl s _) (by decide) (by decide)⟩
    all_goals
      obtain ⟨u, before, after⟩ := stands hr
      have before := (RingStands.lineTaken r line s).trans before
    · have left : u.takeIndex r (line.idx.getD r 0) = u := if_neg (by rw [before.live, dead]; decide)
      rw [left] at after
      exact (before.trans after).ring
    · have run := State.takeIndex_legal (v := line.idx.getD r 0) (before.rings ▸ ringAt_lt hok hr) (before.live.trans live)
        ((before.indexOk _).trans legal)
      rwa [before.ring, ← after.ring] at run
    · have run := State.takeIndex_illegal (v := line.idx.getD r 0) hr (before.rings ▸ ringAt_lt hok hr) (before.live.trans live)
        ((before.indexOk _).trans illegal)
      rwa [before.ring, ← after.ring] at run

end Sys2Proof.Machine
end

section
/-! PROOFS. The status line and the records of the ring engine (R286, R288, R293 to R307), and the quadrant gates (R34 to R38). -/

namespace Sys2Proof.Machine

/-! The status line: the write itself, and the sources of R309 behind it, which touch the concentrator alone -/

/-- What a status line write leaves of the host link. -/
def State.statusWritten (mode : Nat) (s : State) : State :=
  { s with hif := { s.hif with
    tlps := .status (statusWords (s.lineView mode) ((s.hif.hbCtr + 1) % 2 ^ 32) s.now) :: s.hif.tlps,
    hbCtr := (s.hif.hbCtr + 1) % 2 ^ 32, reported := s.lineView mode, stAt := s.now, mqDone := false, gapDone := false } }

/-- From s to t sources have occurred, and nothing else has happened. -/
def Raised (s t : State) : Prop := s.onlyIn t [.regs, .evc] ∧ s.onlyWords t []

theorem Raised.refl (s : State) : Raised s s := ⟨Frame.refl s _, .refl s _⟩

theorem Raised.raise {s t : State} (h : Raised s t) (n : Nat) : Raised s (t.raise n) :=
  ⟨Frame.raise n t h.1 (by decide) (by decide), h.2.raise n⟩

theorem Raised.ite {s t u : State} {c : Prop} [Decidable c] (h : Raised s t) (k : Raised s u) : Raised s (if c then t else u) := by
  split <;> assumption

theorem Raised.ringSource {s t : State} (h : Raised s t) (old : StatusView) (r n : Nat) : Raised s (t.ringSource old r n) :=
  .ite (h.raise n) h

theorem Raised.foldl {s t : State} {α : Type} {f : State → α → State} (step : ∀ t x, Raised s t → Raised s (f t x)) (l : List α)
    (h : Raised s t) : Raised s (l.foldl f t) := by
  induction l generalizing t with
  | nil => exact h
  | cons x l ih => exact ih (step t x h)

theorem Raised.hif {s t : State} (h : Raised s t) : t.hif = s.hif := h.1 .hif (by decide)

theorem State.writeStatus_raised (mode : Nat) (s : State) : Raised (s.statusWritten mode) (s.writeStatus mode) := by
  unfold State.writeStatus
  extract_lets old view beat onset mq gap link written s1 s2 s3 s4 s5
  have h0 : Raised (s.statusWritten mode) written := .refl _
  have h1 : Raised (s.statusWritten mode) s1 := .ite (h0.raise 16) h0
  have h2 : Raised (s.statusWritten mode) s2 := .foldl (fun _ n h => h.ringSource old (9 + n) (17 + n)) _ h1
  have h3 : Raised (s.statusWritten mode) s3 := .foldl (fun _ n h => h.ringSource old (13 + n) (21 + n)) _ h2
  have h4 : Raised (s.statusWritten mode) s4 := h3.ringSource old 18 25
  have h5 : Raised (s.statusWritten mode) s5 := .ite (h4.raise 26) h4
  exact .ite (h5.raise 27) h5

/-! Records -/

/-- A record with its first word, as it goes into the ring. -/
theorem State.putRecord_cons {r : Nat} {s : State} (hr : r < s.hif.rings.length) (w : Word) (l : List Word) (body : Body) :
    (s.putRecord r (w :: l) body).hif.tlps = .record r (s.ring r).idx (setBits w 31 1 (b2n (s.ring r).phase) :: l) body :: s.hif.tlps
      ∧ ((s.putRecord r (w :: l) body).ring r).idx = ((s.ring r).idx + 1) % s.ringSize r
      ∧ (∀ q, q ≠ r → (s.putRecord r (w :: l) body).ring q = s.ring q)
      ∧ (s.putRecord r (w :: l) body).hif.alarms = s.hif.alarms := by
  refine ⟨rfl, ?_, fun q hq => State.ring_modRing_other hq _ _, rfl⟩
  unfold State.putRecord
  rw [State.ring_modRing_same (by exact hr)]

theorem Word.bit_of_bits {x : Word} {i : Nat} {b : Bool} (h : x.bits i 1 = b2n b) : x.bit i = b := by
  change (x.toNat >>> i) % 2 = b2n b at h
  rw [Word.bit, Nat.testBit_eq_decide_div_mod_eq, ← Nat.shiftRight_eq_div_pow, h]
  cases b <;> rfl

/-- PHASE stands in bit 31 of a record's first word. -/
theorem phase_of_record (w : Word) (b : Bool) : (setBits w 31 1 (b2n b)).bit 31 = b :=
  Word.bit_of_bits (by rw [bits_setBits _ _ _ _ (by decide)]; cases b <;> rfl)

theorem alarmWords_cons (a : Alarm) : ∃ w ws, alarmWords a = w :: ws := ⟨_, _, rfl⟩

theorem recordWrite_alarm {a : Alarm} {l : List Alarm} {s : State} (hok : s.ok) (engine : s.ringEngine = true)
    (first : s.hif.alarms = a :: l) (room : s.ringRoom 17 = true) :
    ∃ t ws, exec .recordWrite s = .next t ∧ t.hif.alarms = l
      ∧ t.hif.tlps = .record 17 (s.ring 17).idx ws (.alarm a) :: s.hif.tlps
      ∧ ws.drop 1 = (alarmWords a).drop 1 ∧ (ws.headD 0).bit 31 = (s.ring 17).phase
      ∧ (t.ring 17).idx = ((s.ring 17).idx + 1) % s.ringSize 17 ∧ (∀ q, q ≠ 17 → t.ring q = s.ring q) ∧ s.onlyIn t [.hif] := by
  let taken : State := { s with hif := { s.hif with alarms := l } }
  have written : s.writeRecord = taken.putRecord 17 (alarmWords a) (.alarm a) := by
    unfold State.writeRecord
    rw [first]
    exact if_pos room
  obtain ⟨w, ws, words⟩ := alarmWords_cons a
  rw [words] at written ⊢
  have ring (q : Nat) : taken.ring q = s.ring q := rfl
  have size : taken.ringSize 17 = s.ringSize 17 := rfl
  have frame : s.onlyIn taken [.hif] := Frame.with_hif (Frame.refl s _) (by decide)
  have there : 17 < taken.hif.rings.length := ringAt_lt hok (by decide)
  have left : taken.hif.alarms = l ∧ taken.hif.tlps = s.hif.tlps := ⟨rfl, rfl⟩
  clear_value taken
  obtain ⟨tlps, idx, others, alarms⟩ := State.putRecord_cons there w ws (.alarm a)
  rw [ring, left.2] at tlps
  rw [ring, size] at idx
  exact ⟨taken.putRecord 17 (w :: ws) (.alarm a), setBits w 31 1 (b2n (s.ring 17).phase) :: ws,
    congrArg Host.Outcome.next ((if_pos engine).trans written), alarms.trans left.1, tlps, show ws = ws from rfl,
    phase_of_record w _, idx,
    fun q hq => (others q hq).trans (ring q), Frame.putRecord _ _ _ _ frame (by decide)⟩

/-- A GAP record leaves its ring and the ring's staging alone, but that it is no longer owed. -/
theorem State.gapPaid_eq (r : Nat) (s : State) :
    (s.gapPaid r).hif.tlps = s.hif.tlps ∧ (s.gapPaid r).hif.alarms = s.hif.alarms ∧ (s.gapPaid r).regs = s.regs
      ∧ s.onlyIn (s.gapPaid r) [.hif] := by
  unfold State.gapPaid
  split
  · unfold State.setStaging
    split <;> exact ⟨rfl, rfl, rfl, Frame.with_hif (Frame.refl s _) (by decide)⟩
  · exact ⟨rfl, rfl, rfl, Frame.modRing _ _ _ (Frame.refl s _) (by decide)⟩

theorem State.gapPaid_ring {r : Nat} {s : State} (hr : r < s.hif.rings.length) :
    (s.gapPaid r).hif.rings.length = s.hif.rings.length ∧ (∀ q, q ≠ r → (s.gapPaid r).ring q = s.ring q)
      ∧ ((s.gapPaid r).ring r).idx = (s.ring r).idx ∧ ((s.gapPaid r).ring r).phase = (s.ring r).phase := by
  unfold State.gapPaid
  split
  · unfold State.setStaging
    split <;> exact ⟨rfl, fun _ _ => rfl, rfl, rfl⟩
  · rw [State.ring_modRing_same hr]
    exact ⟨modAt_length _ _ _, fun q hq => State.ring_modRing_other hq _ _, rfl, rfl⟩

theorem gapWords_cons (r : Nat) (g : Gap) : ∃ w ws, gapWords r g = w :: ws := by
  unfold gapWords
  dsimp only
  split <;> exact ⟨_, _, rfl⟩

theorem gapRecord_written {r : Nat} {g : Gap} {s : State} (hok : s.ok) (lo : 13 ≤ r) (hi : r < 19) (ne : r ≠ 17)
    (due : s.gapDue r = true) (owed : s.gapOf r = some g) :
    ∃ t ws, exec (.gapRecord r) s = .next t ∧ t.hif.tlps = .record r (s.ring r).idx ws (.gap g) :: s.hif.tlps
      ∧ ws.drop 1 = (gapWords r g).drop 1 ∧ (ws.headD 0).bit 31 = (s.ring r).phase
      ∧ (t.ring r).idx = ((s.ring r).idx + 1) % s.ringSize r ∧ t.hif.gapDone = true
      ∧ (∀ q, q ≠ r → t.ring q = s.ring q) ∧ t.hif.alarms = s.hif.alarms ∧ s.onlyIn t [.hif] := by
  obtain ⟨w, ws, words⟩ := gapWords_cons r g
  rw [words]
  have written : s.writeGap r = { (s.gapPaid r).putRecord r (w :: ws) (.gap g) with
      hif := { ((s.gapPaid r).putRecord r (w :: ws) (.gap g)).hif with gapDone := true } } := by
    unfold State.writeGap
    rw [owed]
    dsimp only
    rw [words]
  obtain ⟨paidTlps, paidAlarms, paidRegs, paidFrame⟩ := s.gapPaid_eq r
  obtain ⟨length, paidOthers, paidIdx, paidPhase⟩ := State.gapPaid_ring (ringAt_lt hok hi)
  have size : (s.gapPaid r).ringSize r = s.ringSize r := by
    unfold State.ringSize State.get State.word
    rw [paidRegs]
  obtain ⟨tlps, idx, others, alarms⟩ :=
    State.putRecord_cons (s := s.gapPaid r) (r := r) (length.symm ▸ ringAt_lt hok hi) w ws (.gap g)
  rw [paidPhase, paidIdx, paidTlps] at tlps
  rw [paidIdx, size] at idx
  exact ⟨_, setBits w 31 1 (b2n (s.ring r).phase) :: ws, congrArg Host.Outcome.next ((if_pos ⟨lo, ne, due⟩).trans written), tlps,
    show ws = ws from rfl, phase_of_record w _, idx, rfl, fun q hq => (others q hq).trans (paidOthers q hq), alarms.trans paidAlarms,
    Frame.with_hif (Frame.putRecord _ _ _ _ paidFrame (by decide)) (by decide)⟩

/-- Settles O12: the status line, the first alarm, and a GAP record. -/
theorem deviceWritesOfTheRingEngine : Obligations.DeviceWritesOfTheRingEngine := by
  refine ⟨fun s _ due => ?status, fun _ _ _ hok engine first room => recordWrite_alarm hok engine first room,
    fun _ _ _ hok lo hi ne due owed => gapRecord_written hok lo hi ne due owed⟩
  have raised := s.writeStatus_raised s.sys.mode.code
  refine ⟨s.writeStatus s.sys.mode.code, congrArg Host.Outcome.next (if_pos due), ?_⟩
  rw [raised.hif]
  refine ⟨rfl, rfl, rfl, rfl, rfl, raised.2, ?_⟩
  exact Frame.writeStatus _ _ (Frame.refl s _) (by decide) (by decide) (by decide)

/-! The quadrant gates (R34 to R38) -/

theorem getD_mapIdx {α β : Type} {l : List α} {i : Nat} (h : i < l.length) (f : Nat → α → β) (d : α) (e : β) :
    (l.mapIdx f).getD i e = f i (l.getD i d) := by
  simp [List.getD_eq_getElem?_getD, List.getElem?_mapIdx, List.getElem?_eq_getElem h]

theorem lt_length_of_getD_ne {α : Type} {l : List α} {i : Nat} {d x : α} (h : l.getD i d = x) (k : x ≠ d) : i < l.length := by
  by_contra out
  exact k (by rw [← h, List.getD_eq_getElem?_getD, List.getElem?_eq_none (by omega)]; rfl)

theorem quadrantUngate_asks {q : Nat} {s : State} (due : s.ungateDue q = true) (fresh : s.regs.same.gates.contains q = false) :
    ∃ t, exec (.quadrantUngate q) s = .next t ∧ t.clk = { s.clk with qreq := setAt s.clk.qreq q (some s.now) }
      ∧ t.hif = { s.hif with dbReads := s.hif.dbReads + (if s.ringEngine = true then 1 else 0) } ∧ s.onlyIn t [.clk, .hif] := by
  obtain ⟨⟨⟨⟨there, runs⟩, gated⟩, unasked⟩, -⟩ : (((q < s.part.quads ∧ s.clk.tbRun = true) ∧ s.clk.qrun.getD q false = false)
      ∧ s.clk.qreq.getD q none = none) ∧ s.quadNeeds q = true := by
    simpa only [State.ungateDue, Bool.and_eq_true, decide_eq_true_eq, Bool.not_eq_true', Option.isNone_iff_eq_none] using due
  have asked : s.askQuad q
      = State.doorbellRead { s with clk := { s.clk with qreq := setAt s.clk.qreq q (some s.now) } } := by
    unfold State.askQuad
    dsimp only
    rw [gated, fresh, unasked, runs, decide_eq_true there]
    rfl
  refine ⟨_, congrArg Host.Outcome.next ((if_pos due).trans asked), ?_, ?_,
    Frame.doorbellRead _ (Frame.with_clk (Frame.refl s _) (by decide)) (by decide)⟩
  · unfold State.doorbellRead
    split <;> rfl
  · have runs : State.ringEngine { s with clk := { s.clk with qreq := setAt s.clk.qreq q (some s.now) } } = s.ringEngine := rfl
    unfold State.doorbellRead
    rw [runs]
    split <;> rfl

/-- A clock that was asked to run does so 40 ns later, and until then the request stands. -/
theorem State.tickQuads_asked {q : Nat} {a : Tb} {s : State} (hok : s.ok) (hq : q < 4) (asked : s.clk.qreq.getD q none = some a) :
    (32 ≤ elapsed a s.now → s.tickQuads.clk.qrun.getD q false = true)
      ∧ (elapsed a s.now < 32 →
        s.tickQuads.clk.qrun.getD q false = s.clk.qrun.getD q false ∧ s.tickQuads.clk.qreq.getD q none = some a) := by
  have runLength : q < s.clk.qrun.length := (Clk.shaped_qrun (Kept.refl hok).clk).symm ▸ hq
  have askLength : q < s.clk.qreq.length := lt_length_of_getD_ne asked (Option.some_ne_none a)
  have run : s.tickQuads.clk.qrun.getD q false = (s.clk.qrun.getD q false || decide (32 ≤ elapsed a s.now)) := by
    refine (getD_mapIdx runLength _ false false).trans ?_
    beta_reduce
    rw [asked]
    rfl
  have ask : s.tickQuads.clk.qreq.getD q none = if decide (32 ≤ elapsed a s.now) = true then none else some a := by
    refine (getD_mapIdx askLength _ none none).trans ?_
    beta_reduce
    rw [asked]
    rfl
  refine ⟨fun late => ?_, fun early => ?_⟩
  · rw [run, decide_eq_true late, Bool.or_true]
  · rw [run, ask, decide_eq_false (by omega), Bool.or_false]
    exact ⟨rfl, rfl⟩

theorem quadrantGateClose_stops {q : Nat} {s : State} (hok : s.ok) (hq : q < 4) (due : s.gateDue q = true) :
    ∃ t, exec (.quadrantGateClose q) s = .next t ∧ t.clk.qrun.getD q false = false
      ∧ (∀ j, j ≠ q → t.clk.qrun.getD j false = s.clk.qrun.getD j false)
      ∧ t.clk = { s.clk with qrun := t.clk.qrun, qidle := t.clk.qidle } ∧ s.onlyWords t [] ∧ s.onlyIn t [.clk, .regs] := by
  have length : q < s.clk.qrun.length := (Clk.shaped_qrun (Kept.refl hok).clk).symm ▸ hq
  refine ⟨_, congrArg Host.Outcome.next (if_pos due), (setAt_getD _ _ _ _ _).trans (if_pos ⟨rfl, length⟩),
    fun j hj => (setAt_getD _ _ _ _ _).trans (if_neg (fun k => hj k.1.symm)), rfl, ⟨rfl, fun _ _ => rfl⟩,
    Frame.inCycle _ _ (Frame.with_clk (Frame.refl s _) (by decide)) (by decide)⟩

/-- Settles O13: the request, the 40 ns, the closing gate and the tolerance. -/
theorem quadrantClocksFollowTheirWork : Obligations.QuadrantClocksFollowTheirWork :=
  ⟨fun _ _ _ due fresh => quadrantUngate_asks due fresh, fun _ _ _ hok hq asked => State.tickQuads_asked hok hq asked,
    fun _ _ hok hq due => quadrantGateClose_stops hok hq due, fun _ => ⟨fun run => if_pos run, fun rest => if_neg (rest ▸ Bool.false_ne_true)⟩⟩

end Sys2Proof.Machine
end

section
/-! PROOFS. The host link: its resets, the data link, and configuration space (R261, R265 to R267, R271, R272, R432). -/

namespace Sys2Proof.Machine

theorem State.onlyWords.foldl_mem {α : Type} {o s : State} {l : List Nat} {f : State → α → State} {xs : List α}
    (step : ∀ s x, x ∈ xs → o.onlyWords s l → o.onlyWords (f s x) l) (h : o.onlyWords s l) : o.onlyWords (xs.foldl f s) l := by
  induction xs generalizing s with
  | nil => exact h
  | cons x xs ih => exact ih (fun s y hy => step s y (List.mem_cons_of_mem _ hy)) (step s x List.mem_cons_self h)

/-! Configuration space at its reset values (Table 10.2) -/

/-- The offsets of the MSI-X table. -/
def msixWords : List Nat := (upTo 8).flatMap (fun v => (upTo 4).map (fun i => 0x1F000 + 16 * v + 4 * i))

theorem not_mem_msixWords {a : Nat} (h : a < 0x1F000 ∨ 0x1F080 ≤ a) : a ∉ msixWords := by
  simp only [msixWords, upTo, List.mem_flatMap, List.mem_map, List.mem_range]
  rintro ⟨v, hv, i, hi, rfl⟩
  omega

/-- Configuration space as a reset leaves it, before the MSI-X table is written. -/
def State.configCleared (s : State) : State :=
  { s with hif := { s.hif with bme := false, msixEn := false, fmask := false, d3 := false, ctl := PciCtl.initial,
                               vecPend := List.replicate 8 false } }

theorem State.configReset_onlyWords (s : State) : s.onlyWords s.configReset msixWords := by
  unfold State.configReset
  refine .foldl_mem (fun s v hv h => .foldl_mem (fun s i hi h => h.putWord _ ?_) h) (.of_regs (.refl s _) rfl)
  exact List.mem_flatMap.mpr ⟨v, hv, List.mem_map.mpr ⟨i, hi, rfl⟩⟩

theorem State.configReset_hif (s : State) : s.configReset.hif = s.configCleared.hif := by
  have table : s.configCleared.onlyIn s.configReset [.regs] :=
    Frame.foldl (Frame.refl s.configCleared _) (fun _ _ h => Frame.foldl h (fun _ _ h => Frame.putWord _ _ _ h (by decide)))
  exact table .hif (by decide)

/-! Sessions that leave with the port (R432) -/

/-- The words that a journal entry may count in: a lost entry, or alarm 30. -/
def journalWords : List Nat := R.SEC_JLOST_CNT :: alarmWordsOf 30

/-- From s to t the host link has at most placed alarms. -/
def OnlyAlarms (s t : State) : Prop := t.hif = { s.hif with alarms := t.hif.alarms }

theorem OnlyAlarms.refl (s : State) : OnlyAlarms s s := rfl

theorem OnlyAlarms.trans {s t u : State} (h : OnlyAlarms s t) (k : OnlyAlarms t u) : OnlyAlarms s u := by
  unfold OnlyAlarms at h k ⊢
  rw [k, h]

theorem OnlyAlarms.alarm (id sub data data2 : Nat) (s : State) : OnlyAlarms s (s.alarm id sub data data2) :=
  State.alarm_hif id sub data data2 s

theorem OnlyAlarms.of_hif {s t : State} (h : t.hif = s.hif) : OnlyAlarms s t := by
  unfold OnlyAlarms
  rw [h]

@[simp] theorem State.alarm_sec (id sub data data2 : Nat) (s : State) : (s.alarm id sub data data2).sec = s.sec :=
  Frame.alarm id sub data data2 s (Frame.refl s [.regs, .hif]) (by decide) (by decide) .sec (by decide)

/-- From s to t a journal entry has been written or lost: alarm 30 at most is placed, and the session stays as it is. -/
structure Journalled (s t : State) : Prop where
  alarms : OnlyAlarms s t
  words : s.onlyWords t journalWords
  role : t.sec.role = s.sec.role
  port : t.sec.port = s.sec.port

theorem Journalled.jWatch (s : State) : Journalled s s.jWatch := by
  have marked (n : Nat) : Journalled s (({ s with sec := { s.sec with alarm90 := true } } : State).alarm 30 0 n 0) := by
    let m : State := { s with sec := { s.sec with alarm90 := true } }
    have alarms : OnlyAlarms m (m.alarm 30 0 n 0) := .alarm 30 0 n 0 m
    have words : m.onlyWords (m.alarm 30 0 n 0) journalWords :=
      (State.onlyWords.refl m _).alarm _ _ _ _ (fun _ h => List.mem_cons_of_mem _ h)
    exact ⟨alarms, words, by rw [State.alarm_sec], by rw [State.alarm_sec]⟩
  unfold State.jWatch
  split
  · exact marked _
  · exact ⟨.refl s, .refl s _, rfl, rfl⟩

theorem Journalled.entered (s : State) (x : Sec) (role : x.role = s.sec.role) (port : x.port = s.sec.port) :
    Journalled s ({ s with sec := x } : State).jWatch := by
  obtain ⟨alarms, words, role', port'⟩ := Journalled.jWatch { s with sec := x }
  exact ⟨alarms, words, role'.trans role, port'.trans port⟩

theorem Journalled.journal (a : Act) (s : State) : Journalled s (s.journal a) := by
  unfold State.journal
  split
  · exact .entered s _ rfl rfl
  · exact ⟨.of_hif rfl, (State.onlyWords.refl s _).count List.mem_cons_self, rfl, rfl⟩

/-- A PCIe session has ended, and one on SPI stands. -/
theorem State.endPcieSession_keeps (s : State) :
    OnlyAlarms s s.endPcieSession ∧ s.onlyWords s.endPcieSession journalWords ∧ s.endPcieSession.sec.port = s.sec.port
      ∧ (s.sec.port = .pcie → s.endPcieSession.sec.role = 0) ∧ (s.sec.port = .spi → s.endPcieSession = s) := by
  unfold State.endPcieSession
  split
  · next pcie =>
    unfold State.endSession
    split
    · next none => exact ⟨.refl s, .refl s _, rfl, fun _ => none, fun _ => rfl⟩
    · obtain ⟨alarms, words, role, port⟩ := Journalled.journal (act s.sec.role (portNum s.sec.port) 2 2) s.dropSession
      exact ⟨OnlyAlarms.trans (.of_hif rfl) alarms, .trans (.of_regs (.refl s _) rfl) words, port, fun _ => role,
        fun spi => absurd (pcie.symm.trans spi) (by decide)⟩
  · next other => exact ⟨.refl s, .refl s _, rfl, fun pcie => absurd pcie other, fun _ => rfl⟩

/-! Host resets (R266) -/

/-- The words that a reset of the host interface may write. -/
def hostResetWords : List Nat := R.HIF_RCTRL :: msixWords ++ journalWords

theorem State.engineOff_hif (s : State) : s.engineOff.hif = { s.hif with turn := none, dbReads := 0 } := rfl

theorem State.engineOff_flag {s : State} (h : s.regs.live.wf = true) : s.engineOff.flag F.HIF_RCTRL_EN = false :=
  State.flag_set s _ _ h (by decide)

theorem State.onlyWords.engineOff {o s : State} {l : List Nat} (h : o.onlyWords s l) (k : R.HIF_RCTRL ∈ l) : o.onlyWords s.engineOff l :=
  .of_regs (h.set (f := F.HIF_RCTRL_EN) 0 k) rfl

/-- What a host reset does: configuration space at its reset values, the ring engine off, a PCIe session ended. -/
theorem State.hostReset_keeps {s : State} (hok : s.ok) :
    s.hostReset.flag F.HIF_RCTRL_EN = false ∧ s.onlyWords s.hostReset hostResetWords
      ∧ s.hostReset.hif = { s.configCleared.hif with turn := none, dbReads := 0, alarms := s.hostReset.hif.alarms }
      ∧ (s.sec.port = .pcie → s.hostReset.sec.role = 0) ∧ (s.sec.port = .spi → s.hostReset.sec = s.sec)
      ∧ s.hostReset.sec.port = s.sec.port := by
  have sec : s.configReset.engineOff.sec = s.sec :=
    Frame.engineOff _ (Frame.configReset s (Frame.refl s [.regs, .hif]) (by decide) (by decide)) (by decide) (by decide) .sec (by decide)
  obtain ⟨alarms, words, port, pcie, spi⟩ := s.configReset.engineOff.endPcieSession_keeps
  have wf : s.configReset.regs.live.wf = true := (Kept.configReset s (Kept.refl hok)).regs.live
  have off : s.configReset.engineOff.flag F.HIF_RCTRL_EN = false := State.engineOff_flag wf
  have table : s.onlyWords s.configReset hostResetWords :=
    s.configReset_onlyWords.mono (fun a h => List.mem_append_left _ (List.mem_cons_of_mem _ h))
  have engine : s.onlyWords s.configReset.engineOff hostResetWords := table.engineOff List.mem_cons_self
  have hif : s.configReset.engineOff.hif = { s.configCleared.hif with turn := none, dbReads := 0 } := by
    rw [← s.configReset_hif, State.engineOff_hif]
  refine ⟨(words.flag_eq (by decide)).trans off, engine.trans (words.mono (fun a h => List.mem_append_right _ h)), ?_,
    fun h => pcie (by rwa [sec]), fun h => ?_, port.trans (congrArg Sec.port sec)⟩
  · unfold OnlyAlarms at alarms
    rw [hif] at alarms
    exact alarms
  · exact (congrArg State.sec (spi (by rwa [sec]))).trans sec

theorem not_mem_hostResetWords {a : Nat} (far : a < 0x1F000 ∨ 0x1F080 ≤ a)
    (h : a ∉ [R.HIF_RCTRL, R.SEC_JLOST_CNT, R.HIF_ALMCNT 30, R.HIF_REPEAT_CNT, R.HIF_ALM_HIGH]) : a ∉ hostResetWords := by
  have table := not_mem_msixWords far
  simp only [hostResetWords, journalWords, alarmWordsOf, List.mem_append, List.mem_cons, List.not_mem_nil] at h ⊢
  tauto

/-! The data link is lost (R267) -/

theorem State.takeBack_hif (x : Tlp) (s : State) : (s.takeBack x).hif = { s.hif with
    rings := (s.takeBack x).hif.rings, alarms := (s.takeBack x).hif.alarms, results := (s.takeBack x).hif.results } := by
  unfold State.takeBack
  cases x with
  | record r slot words body =>
    cases body with
    | tele t =>
      dsimp only
      rw [State.loseRec_hif]
      rfl
    | alarm _ | result _ | gap _ => rfl
  | status _ | msix _ => rfl

/-- The words that count lost records. -/
def lossWords : List Nat := [R.HIF_TQLOST_CNT, R.HIF_XQLOST_CNT]

theorem State.loseRec_onlyWords (t : TeleRec) (s : State) : s.onlyWords (s.loseRec t) lossWords := by
  have lost (u : State) : u.onlyWords (u.lose t.ring t.trk) lossWords := by
    have noted (g : Gap) : u.onlyWords (u.modRing t.ring (fun x => { x with gap := some g })) lossWords := .of_regs (.refl u _) rfl
    unfold State.lose
    exact .ite ((noted _).count (by decide)) ((noted _).count (by decide))
  unfold State.loseRec
  cases t.gap with
  | none => exact lost s
  | some g => exact .trans (.of_regs (.refl s _) rfl) (lost _)

theorem State.takeBack_onlyWords (x : Tlp) (s : State) : s.onlyWords (s.takeBack x) lossWords := by
  unfold State.takeBack
  cases x with
  | record r slot words body =>
    cases body with
    | tele t => exact .trans (.of_regs (.refl s _) rfl) (State.loseRec_onlyWords t _)
    | alarm _ | result _ | gap _ => exact .of_regs (.refl s _) rfl
  | status _ | msix _ => exact .refl s _

theorem State.takeBacks_hif (l : List Tlp) (s : State) :
    (l.foldl (fun (s : State) x => s.takeBack x) s).hif = { s.hif with
      rings := (l.foldl (fun (s : State) x => s.takeBack x) s).hif.rings,
      alarms := (l.foldl (fun (s : State) x => s.takeBack x) s).hif.alarms,
      results := (l.foldl (fun (s : State) x => s.takeBack x) s).hif.results } := by
  induction l generalizing s with
  | nil => rfl
  | cons x l ih => rw [List.foldl_cons, ih, State.takeBack_hif x s]

theorem State.unacked_hif (n : Nat) (s : State) : (s.unacked n).hif = { s.hif with
    tlps := [], rings := (s.unacked n).hif.rings, alarms := (s.unacked n).hif.alarms, results := (s.unacked n).hif.results } :=
  State.takeBacks_hif (s.hif.tlps.take n) { s with hif := { s.hif with tlps := [] } }

theorem State.unacked_onlyWords (n : Nat) (s : State) : s.onlyWords (s.unacked n) lossWords :=
  .foldl_mem (fun _ x _ h => h.trans (State.takeBack_onlyWords x _)) (.of_regs (.refl s _) rfl)

/-- A fallback cause, where a plan is loaded in the modes in which the cause acts (R416). -/
theorem State.fallbackCause_planned {s : State} (plan : s.sys.mode = .half ∨ s.sys.mode = .full ∨ s.sys.mode = .suspect → s.planOn = true)
    (c : Nat) :
    OnlyAlarms s (s.fallbackCause c) ∧ s.onlyWords (s.fallbackCause c) (alarmWordsOf 15) ∧ s.onlyIn (s.fallbackCause c) [.regs, .hif, .sys]
      ∧ (s.sys.mode = .armed ∨ s.sys.mode = .seek ∨ s.sys.mode = .safestop →
          (s.fallbackCause c).sys = { s.sys with fbPend := true, fbCause := c })
      ∧ (s.sys.mode = .half ∨ s.sys.mode = .full ∨ s.sys.mode = .suspect → (s.fallbackCause c).sys.fbFlag = true)
      ∧ (s.sys.mode = .setup → (s.fallbackCause c).sys = s.sys) := by
  let o : State := s.inCycle (fun m => { m with fb := true })
  have noted : s.onlyIn o [.regs, .hif, .sys] := Frame.inCycle _ s (Frame.refl s _) (by decide)
  have words : s.onlyWords o (alarmWordsOf 15) := (State.onlyWords.refl s _).inCycle _
  by_cases acts : s.sys.mode = .half ∨ s.sys.mode = .full ∨ s.sys.mode = .suspect
  · have planned : o.planOn = true := plan acts
    have run : s.fallbackCause c = o.fallbackNow c := if_pos acts
    obtain ⟨-, flag, -, -, frame⟩ := State.fallbackNow_flags planned c
    have alarms : OnlyAlarms s (o.fallbackNow c) ∧ s.onlyWords (o.fallbackNow c) (alarmWordsOf 15) := by
      rw [State.fallbackNow_of_planOn planned]
      split
      · exact ⟨.of_hif rfl, words⟩
      · exact ⟨OnlyAlarms.trans (.of_hif rfl) (.alarm 15 1 c 0 _),
          State.onlyWords.alarm (s := (o.causeNoted c).flagRaised) (.of_regs words rfl) _ _ _ _ (fun _ h => h)⟩
    rw [run]
    refine ⟨alarms.1, alarms.2, Frame.trans noted frame, fun pends => ?_, fun _ => flag, fun setup => ?_⟩
    · rcases acts with m | m | m <;> simp [m] at pends
    · rcases acts with m | m | m <;> simp [m] at setup
  · by_cases pends : s.sys.mode = .armed ∨ s.sys.mode = .seek ∨ s.sys.mode = .safestop
    · have run : s.fallbackCause c = { o with sys := { s.sys with fbPend := true, fbCause := c } } := (if_neg acts).trans (if_pos pends)
      rw [run]
      refine ⟨.of_hif rfl, words, Frame.with_sys noted (by decide), fun _ => rfl, fun k => absurd k acts, fun setup => ?_⟩
      rcases pends with m | m | m <;> simp [m] at setup
    · have run : s.fallbackCause c = o := (if_neg acts).trans (if_neg pends)
      rw [run]
      exact ⟨.of_hif rfl, words, noted, fun k => absurd k pends, fun k => absurd k acts, fun _ => rfl⟩

/-- The words that the loss of the data link may write. -/
def linkDownWords : List Nat := R.HIF_LINKDN_CNT :: lossWords ++ alarmWordsOf 16 ++ journalWords ++ alarmWordsOf 15

/-- The link is down, and counted. -/
def State.linkDropped (s : State) : State :=
  ({ s with hif := { s.hif with up := false, speed := 0, width := 0, l1 := false, l12 := false, dbReads := 0 } } : State).count
    F.HIF_LINKDN_CNT_COUNT

/-- The loss is placed as alarm 16. -/
def State.linkAlarmed (s : State) : State := s.alarm 16 0 (s.get F.HIF_LINKDN_CNT_COUNT) 0

theorem State.linkDown_eq (n : Nat) (s : State) : s.linkDown n = (s.unacked n).linkDropped.linkAlarmed.endPcieSession.fallbackCause 1 := rfl

/-- What the loss of the data link does, where a plan is loaded in the modes in which the fallback cause acts. -/
structure LinkLost (s t : State) : Prop where
  hif : t.hif = { s.hif with
    tlps := [], up := false, speed := 0, width := 0, l1 := false, l12 := false, dbReads := 0, rings := t.hif.rings,
    alarms := t.hif.alarms, results := t.hif.results }
  counted : t.get F.HIF_LINKDN_CNT_COUNT = min (s.get F.HIF_LINKDN_CNT_COUNT + 1) 0xFFFFFFFF
  words : s.onlyWords t linkDownWords
  pcie : s.sec.port = .pcie → t.sec.role = 0
  spi : s.sec.port = .spi → t.sec = s.sec
  pends : s.sys.mode = .armed ∨ s.sys.mode = .seek ∨ s.sys.mode = .safestop → t.sys = { s.sys with fbPend := true, fbCause := 1 }
  acts : s.sys.mode = .half ∨ s.sys.mode = .full ∨ s.sys.mode = .suspect → t.sys.fbFlag = true
  setup : s.sys.mode = .setup → t.sys = s.sys
  frame : s.onlyIn t [.regs, .hif, .sec, .sys]

theorem State.linkDown_lost {s : State} (hok : s.ok)
    (plan : s.sys.mode = .half ∨ s.sys.mode = .full ∨ s.sys.mode = .suspect → s.planOn = true) (n : Nat) : LinkLost s (s.linkDown n) := by
  have hifUnacked := s.unacked_hif n
  have wordsUnacked : s.onlyWords (s.unacked n) lossWords := s.unacked_onlyWords n
  have frameUnacked : s.onlyIn (s.unacked n) [.regs, .hif] := Frame.unacked n s (Frame.refl s _) (by decide) (by decide)
  have wf : (s.unacked n).regs.live.wf = true := (Kept.unacked n s (Kept.refl hok)).regs.live
  rw [State.linkDown_eq]
  generalize s.unacked n = u at hifUnacked wordsUnacked frameUnacked wf
  have counted : u.linkDropped.get F.HIF_LINKDN_CNT_COUNT = min (u.get F.HIF_LINKDN_CNT_COUNT + 1) 0xFFFFFFFF :=
    State.get_count _ F.HIF_LINKDN_CNT_COUNT wf (by decide)
  have hifDropped : u.linkDropped.hif
      = { u.hif with up := false, speed := 0, width := 0, l1 := false, l12 := false, dbReads := 0 } := rfl
  have wordsDropped : u.onlyWords u.linkDropped [R.HIF_LINKDN_CNT] :=
    State.onlyWords.count (f := F.HIF_LINKDN_CNT_COUNT) (.of_regs (.refl u _) rfl) List.mem_cons_self
  have frameDropped : u.onlyIn u.linkDropped [.regs, .hif] :=
    Frame.count _ _ (Frame.with_hif (Frame.refl u _) (by decide)) (by decide)
  generalize u.linkDropped = v at counted hifDropped wordsDropped frameDropped
  have alarmed : OnlyAlarms v v.linkAlarmed := .alarm 16 0 _ 0 v
  have wordsAlarmed : v.onlyWords v.linkAlarmed (alarmWordsOf 16) := (State.onlyWords.refl v _).alarm _ _ _ _ (fun _ h => h)
  have frameAlarmed : v.onlyIn v.linkAlarmed [.regs, .hif] := Frame.alarm _ _ _ _ v (Frame.refl v _) (by decide) (by decide)
  generalize v.linkAlarmed = w at alarmed wordsAlarmed frameAlarmed
  obtain ⟨ended, wordsEnded, -, pcie, spi⟩ := w.endPcieSession_keeps
  have frameEnded : w.onlyIn w.endPcieSession [.regs, .hif, .sec] :=
    Frame.endPcieSession w (Frame.refl w _) (by decide) (by decide) (by decide)
  generalize w.endPcieSession = x at ended wordsEnded pcie spi frameEnded
  have frame : s.onlyIn x [.regs, .hif, .sec] :=
    Frame.trans (Frame.mono (Frame.trans frameUnacked (Frame.trans frameDropped frameAlarmed)) (by decide)) frameEnded
  have sys : x.sys = s.sys := frame .sys (by decide)
  have wsec : w.sec = s.sec := Frame.trans frameUnacked (Frame.trans frameDropped frameAlarmed) .sec (by decide)
  have words : s.onlyWords x (R.HIF_LINKDN_CNT :: lossWords ++ alarmWordsOf 16 ++ journalWords) := by
    refine .trans (wordsUnacked.mono ?_) (.trans (wordsDropped.mono ?_) (.trans (wordsAlarmed.mono ?_) (wordsEnded.mono ?_)))
    all_goals decide
  have planned : x.sys.mode = .half ∨ x.sys.mode = .full ∨ x.sys.mode = .suspect → x.planOn = true := by
    rw [sys]
    intro m
    have kept : x.planOn = s.planOn := by
      unfold State.planOn
      rw [words.flag_eq (by decide), words.get_eq (by decide)]
    rw [kept, plan m]
  obtain ⟨caused, wordsCaused, frameCaused, pends, acts, setup⟩ := State.fallbackCause_planned planned 1
  have secCaused : (x.fallbackCause 1).sec = x.sec := frameCaused .sec (by decide)
  rw [sys] at pends acts setup
  refine ⟨?_, ?_, ?_, fun h => ?_, fun h => ?_, pends, acts, setup,
    Frame.trans (Frame.mono frame (by decide)) (Frame.mono frameCaused (by decide))⟩
  · have chain := (alarmed.trans ended).trans caused
    unfold OnlyAlarms at chain
    rw [hifDropped, hifUnacked] at chain
    rw [chain]
  · rw [wordsCaused.get_eq (by decide), wordsEnded.get_eq (by decide), wordsAlarmed.get_eq (by decide), counted,
      wordsUnacked.get_eq (by decide)]
  · exact .trans (words.mono (fun _ h => List.mem_append_left _ h)) (wordsCaused.mono (fun _ h => List.mem_append_right _ h))
  · rw [secCaused]
    exact pcie (by rwa [wsec])
  · rw [secCaused, spi (by rwa [wsec]), wsec]

theorem not_mem_linkDownWords {a : Nat}
    (h : a ∉ [R.HIF_RCTRL, R.SEC_JLOST_CNT, R.HIF_ALMCNT 30, R.HIF_ALMCNT 15, R.HIF_ALMCNT 16, R.HIF_REPEAT_CNT, R.HIF_ALM_HIGH,
      R.HIF_LINKDN_CNT, R.HIF_TQLOST_CNT, R.HIF_XQLOST_CNT]) : a ∉ linkDownWords := by
  simp only [linkDownWords, lossWords, journalWords, alarmWordsOf, List.mem_append, List.mem_cons, List.not_mem_nil] at h ⊢
  tauto

end Sys2Proof.Machine
end

section
/-! PROOFS. The resets of the host interface, the data link and configuration space (R261, R265 to R267, R271, R272). -/

namespace Sys2Proof.Machine

/-! Host resets (R266) -/

theorem functionLevelReset_resets {s : State} (hok : s.ok) :
    ∃ t, exec .functionLevelReset s = .next t ∧ t.flag F.HIF_RCTRL_EN = false
      ∧ t.hif.bme = false ∧ t.hif.msixEn = false ∧ t.hif.fmask = false ∧ t.hif.d3 = false ∧ t.hif.ctl = PciCtl.initial
      ∧ t.hif.rings = s.hif.rings ∧ t.hif.up = s.hif.up
      ∧ (s.sec.port = .pcie → t.sec.role = 0) ∧ (s.sec.port = .spi → t.sec = s.sec)
      ∧ (∀ a, a < 0x1F000 ∨ 0x1F080 ≤ a →
          a ∉ [R.HIF_RCTRL, R.SEC_JLOST_CNT, R.HIF_ALMCNT 30, R.HIF_REPEAT_CNT, R.HIF_ALM_HIGH] → t.word a = s.word a)
      ∧ s.onlyIn t [.regs, .hif, .sec] := by
  obtain ⟨off, words, hif, pcie, spi, -⟩ := State.hostReset_keeps hok
  refine ⟨s.hostReset, rfl, off, ?_⟩
  rw [hif]
  exact ⟨rfl, rfl, rfl, rfl, rfl, rfl, rfl, pcie, spi, fun a far other => words.word_eq (not_mem_hostResetWords far other),
    Frame.hostReset s (Frame.refl s _) (by decide) (by decide) (by decide)⟩

/-- What a reset that also takes the data link down does. -/
structure LinkReset (s t : State) : Prop where
  off : t.flag F.HIF_RCTRL_EN = false
  down : t.hif.up = false
  config : t.hif.bme = false ∧ t.hif.msixEn = false ∧ t.hif.fmask = false ∧ t.hif.d3 = false ∧ t.hif.ctl = PciCtl.initial
  lost : s.hif.up = true →
    t.hif.tlps = [] ∧ t.get F.HIF_LINKDN_CNT_COUNT = min (s.get F.HIF_LINKDN_CNT_COUNT + 1) 0xFFFFFFFF
  wasDown : s.hif.up = false → t.hif.rings = s.hif.rings ∧ t.sys = s.sys
  pcie : s.sec.port = .pcie → t.sec.role = 0
  spi : s.sec.port = .spi → t.sec = s.sec
  words : ∀ a, a < 0x1F000 ∨ 0x1F080 ≤ a →
    a ∉ [R.HIF_RCTRL, R.SEC_JLOST_CNT, R.HIF_ALMCNT 30, R.HIF_ALMCNT 15, R.HIF_ALMCNT 16, R.HIF_REPEAT_CNT, R.HIF_ALM_HIGH,
      R.HIF_LINKDN_CNT, R.HIF_TQLOST_CNT, R.HIF_XQLOST_CNT] → t.word a = s.word a
  frame : s.onlyIn t [.regs, .hif, .sec, .sys, .freeCtr]

/-- The plan's enable and length are none of the words that a host reset writes. -/
theorem State.hostReset_planOn {s : State} (hok : s.ok) : s.hostReset.planOn = s.planOn := by
  obtain ⟨-, words, -, -, -, -⟩ := State.hostReset_keeps hok
  unfold State.planOn
  rw [words.flag_eq (by decide), words.get_eq (by decide)]

theorem State.linkReset_resets {s : State} (hok : s.ok)
    (plan : s.sys.mode = .half ∨ s.sys.mode = .full ∨ s.sys.mode = .suspect → s.planOn = true) : LinkReset s s.linkReset := by
  obtain ⟨off, words, hif, pcie, spi, port⟩ := State.hostReset_keeps hok
  have frame : s.onlyIn s.hostReset [.regs, .hif, .sec] :=
    Frame.hostReset s (Frame.refl s _) (by decide) (by decide) (by decide)
  have sys : s.hostReset.sys = s.sys := frame .sys (by decide)
  have planned := State.hostReset_planOn hok
  have keptOk : s.hostReset.ok := (Kept.hostReset s (Kept.refl hok)).ok
  have config : s.hostReset.hif.bme = false ∧ s.hostReset.hif.msixEn = false ∧ s.hostReset.hif.fmask = false
      ∧ s.hostReset.hif.d3 = false ∧ s.hostReset.hif.ctl = PciCtl.initial ∧ s.hostReset.hif.up = s.hif.up
      ∧ s.hostReset.hif.rings = s.hif.rings := by
    rw [hif]
    exact ⟨rfl, rfl, rfl, rfl, rfl, rfl, rfl⟩
  unfold State.linkReset
  dsimp only
  generalize s.hostReset = u at *
  obtain ⟨bme, msixEn, fmask, d3, ctl, up, rings⟩ := config
  have fewer : [R.HIF_RCTRL, R.SEC_JLOST_CNT, R.HIF_ALMCNT 30, R.HIF_REPEAT_CNT, R.HIF_ALM_HIGH]
      ⊆ [R.HIF_RCTRL, R.SEC_JLOST_CNT, R.HIF_ALMCNT 30, R.HIF_ALMCNT 15, R.HIF_ALMCNT 16, R.HIF_REPEAT_CNT, R.HIF_ALM_HIGH,
        R.HIF_LINKDN_CNT, R.HIF_TQLOST_CNT, R.HIF_XQLOST_CNT] := by decide
  have far {a : Nat} (h1 : a < 0x1F000 ∨ 0x1F080 ≤ a)
      (h : a ∉ [R.HIF_RCTRL, R.SEC_JLOST_CNT, R.HIF_ALMCNT 30, R.HIF_ALMCNT 15, R.HIF_ALMCNT 16, R.HIF_REPEAT_CNT, R.HIF_ALM_HIGH,
        R.HIF_LINKDN_CNT, R.HIF_TQLOST_CNT, R.HIF_XQLOST_CNT]) : u.word a = s.word a :=
    words.word_eq (not_mem_hostResetWords h1 (fun k => h (fewer k)))
  split
  · next isUp =>
    have drawnPlan : u.draw.2.sys.mode = .half ∨ u.draw.2.sys.mode = .full ∨ u.draw.2.sys.mode = .suspect → u.draw.2.planOn = true := by
      change u.sys.mode = .half ∨ u.sys.mode = .full ∨ u.sys.mode = .suspect → u.planOn = true
      rwa [sys, planned]
    have loss := State.linkDown_lost (s := u.draw.2) keptOk drawnPlan (u.draw.1.toNat % (u.hif.tlps.length + 1))
    generalize u.draw.2.linkDown (u.draw.1.toNat % (u.hif.tlps.length + 1)) = t at loss
    have drawn : s.onlyIn u.draw.2 [.regs, .hif, .sec, .sys, .freeCtr] := Frame.with_freeCtr (Frame.mono frame (by decide)) (by decide)
    obtain ⟨hifLost, counted, wordsLost, pcieLost, spiLost, -, -, -, frameLost⟩ := loss
    refine ⟨(wordsLost.flag_eq (by decide)).trans off, by rw [hifLost], ?_, fun _ => ⟨by rw [hifLost], counted.trans ?_⟩,
      fun down => absurd (isUp.symm.trans (up.trans down)) (by decide), fun h => pcieLost (port.trans h),
      fun h => (spiLost (port.trans h)).trans (spi h), fun a h1 h2 => (wordsLost.word_eq (not_mem_linkDownWords h2)).trans (far h1 h2),
      Frame.trans drawn (Frame.mono frameLost (by decide))⟩
    · rw [hifLost]
      exact ⟨bme, msixEn, fmask, d3, ctl⟩
    · rw [show u.draw.2.get F.HIF_LINKDN_CNT_COUNT = s.get F.HIF_LINKDN_CNT_COUNT from words.get_eq (by decide)]
  · next isDown =>
    have isDown : u.hif.up = false := Bool.not_eq_true _ ▸ isDown
    exact ⟨off, isDown, ⟨bme, msixEn, fmask, d3, ctl⟩, fun h => absurd (isDown.symm.trans (up.trans h)) (by decide),
      fun _ => ⟨rings, sys⟩, pcie, spi, fun a h1 h2 => far h1 h2, Frame.mono frame (by decide)⟩

/-- Settles O14: a Function Level Reset, and the two resets that take the link down by their common lemma. -/
theorem hostResetsDisableTheRingEngine : Obligations.HostResetsDisableTheRingEngine := by
  refine ⟨fun s hok => functionLevelReset_resets hok, fun c s hok hc plan => ?_⟩
  obtain ⟨off, down, ⟨bme, msixEn, fmask, d3, ctl⟩, lost, wasDown, pcie, spi, words, frame⟩ := State.linkReset_resets hok plan
  obtain rfl | rfl := hc
  · exact ⟨_, rfl, off, down, bme, msixEn, fmask, d3, ctl, fun _ => rfl, lost, wasDown, pcie, spi, words,
      Frame.with_hif frame (by decide)⟩
  · exact ⟨_, rfl, off, down, bme, msixEn, fmask, d3, ctl, (fun h => nomatch h), lost, wasDown, pcie, spi, words, frame⟩

/-! Messages (R265) -/

theorem State.message_hif (t : Nat) (s : State) :
    (s.message t).hif = { s.hif with tlps := (s.message t).hif.tlps, vecPend := (s.message t).hif.vecPend } := by
  unfold State.message
  split
  · rfl
  · split
    · rfl
    · split <;> rfl

theorem State.flushMessages_hif (s : State) :
    s.flushMessages.hif = { s.hif with tlps := s.flushMessages.hif.tlps, vecPend := s.flushMessages.hif.vecPend } := by
  have each (l : List Nat) (u : State) : (l.foldl (fun (s : State) t => if (s.tgt t).msgHeld then s.message t else s) u).hif
      = { u.hif with
        tlps := (l.foldl (fun (s : State) t => if (s.tgt t).msgHeld then s.message t else s) u).hif.tlps,
        vecPend := (l.foldl (fun (s : State) t => if (s.tgt t).msgHeld then s.message t else s) u).hif.vecPend } := by
    induction l generalizing u with
    | nil => rfl
    | cons t l ih =>
      rw [List.foldl_cons, ih]
      split
      · rw [State.message_hif]
      · rfl
  exact each (upTo 4) s

/-- Messages go out: enabled, in D0, with the link up and no vector masked. -/
def State.messagesOut (s : State) : Prop := s.msixOut = true ∧ ∀ v, s.vecMasked v = false

theorem State.tgt_modTgt (s : State) (i j : Nat) (f : Target → Target) :
    (s.modTgt i f).tgt j = if i = j ∧ j < s.evc.targets.length then f (s.tgt j) else s.tgt j := modAt_getD _ _ _ _ _

/-- One target's turn: its withheld message is sent, and the other targets stay. -/
theorem State.message_of_out {t : Nat} {s : State} (out : s.messagesOut) : s.message t
    = ({ s with hif := { s.hif with tlps := .msix t :: s.hif.tlps, vecPend := setAt s.hif.vecPend t false } } : State).modTgt t
      (fun x => { x with msgHeld := false }) := by
  obtain ⟨out, unmasked⟩ := out
  have enabled : (s.hif.msixEn && s.hif.bme) = true := by
    simp only [State.msixOut, Bool.and_eq_true] at out ⊢
    exact out.1.1
  unfold State.message
  rw [enabled, unmasked t, out]
  rfl

theorem State.flushMessages_sent {s : State} (out : s.messagesOut) {v : Nat} (hv : v < 4) : (s.flushMessages.tgt v).msgHeld = false := by
  have each (l : List Nat) (u : State) (out : u.messagesOut) (h : v ∈ l ∨ (u.tgt v).msgHeld = false) :
      ((l.foldl (fun (s : State) t => if (s.tgt t).msgHeld then s.message t else s) u).tgt v).msgHeld = false := by
    induction l generalizing u with
    | nil => exact h.resolve_left (by simp)
    | cons t l ih =>
      rw [List.foldl_cons]
      split
      · next held =>
        rw [State.message_of_out out]
        refine ih _ out ?_
        rw [State.tgt_modTgt]
        by_cases e : t = v
        · subst e
          refine .inr ?_
          split
          · rfl
          · next far =>
            exact absurd held (by
              unfold State.tgt
              rw [List.getD_eq_getElem?_getD, List.getElem?_eq_none (by simpa using far)]
              decide)
        · rw [if_neg (fun k => e k.1)]
          exact h.imp_left (fun m => (List.mem_cons.mp m).resolve_left (fun k => e k.symm))
      · next sent =>
        refine ih _ out ?_
        by_cases e : v = t
        · exact .inr (e ▸ Bool.not_eq_true _ ▸ sent)
        · exact h.imp_left (fun m => (List.mem_cons.mp m).resolve_left e)
  exact each (upTo 4) s out (.inl (by simp [upTo, hv]))

/-! The data link and configuration space (R261, R266, R267, R271, R272) -/

theorem dataLinkDown_lost {n : Nat} {s : State} (hok : s.ok) (up : s.hif.up = true)
    (plan : s.sys.mode = .half ∨ s.sys.mode = .full ∨ s.sys.mode = .suspect → s.planOn = true) :
    ∃ t, exec (.dataLinkDown n) s = .next t ∧ t.hif.up = false ∧ t.hif.tlps = []
      ∧ t.get F.HIF_LINKDN_CNT_COUNT = min (s.get F.HIF_LINKDN_CNT_COUNT + 1) 0xFFFFFFFF
      ∧ (s.sec.port = .pcie → t.sec.role = 0)
      ∧ (s.sys.mode = .armed ∨ s.sys.mode = .seek ∨ s.sys.mode = .safestop → t.sys = { s.sys with fbPend := true, fbCause := 1 })
      ∧ (s.sys.mode = .half ∨ s.sys.mode = .full ∨ s.sys.mode = .suspect → t.sys.fbFlag = true)
      ∧ (s.sys.mode = .setup → t.sys = s.sys) ∧ s.onlyIn t [.regs, .hif, .sec, .sys] := by
  have loss := State.linkDown_lost hok plan n
  have run : exec (.dataLinkDown n) s = .next (s.linkDown n) := congrArg Host.Outcome.next (if_pos up)
  generalize s.linkDown n = t at loss run
  exact ⟨t, run, by rw [loss.hif], by rw [loss.hif], loss.counted, loss.pcie, loss.pends, loss.acts, loss.setup, loss.frame⟩

theorem dataLinkUp_resumes {sp w : Nat} {s : State} (up : s.hif.up = false) (perst : s.hif.perst = false) (cold : s.hif.cold = false)
    (sp1 : 1 ≤ sp) (sp4 : sp ≤ 4) (w1 : 1 ≤ w) (w2 : w ≤ 2) :
    ∃ t, exec (.dataLinkUp sp w) s = .next t ∧ t.hif.up = true ∧ t.hif.speed = sp ∧ t.hif.width = w
      ∧ t.hif.rings = s.hif.rings ∧ s.onlyIn t [.hif, .evc] := by
  let u : State := { s with hif := { s.hif with up := true, speed := sp % 16, width := w % 4 } }
  have run : exec (.dataLinkUp sp w) s = .next u.flushMessages := by
    refine congrArg Host.Outcome.next (if_neg ?_)
    simp [up, perst, cold, sp1, sp4, w1, w2]
  have frame : s.onlyIn u.flushMessages [.hif, .evc] :=
    Frame.flushMessages u (Frame.with_hif (Frame.refl s _) (by decide)) (by decide) (by decide)
  have hif := u.flushMessages_hif
  refine ⟨_, run, ?_⟩
  generalize u.flushMessages = t at hif frame
  rw [hif]
  exact ⟨rfl, Nat.mod_eq_of_lt (by omega), Nat.mod_eq_of_lt (by omega), rfl, frame⟩

theorem busMasterDisable_d3 {s : State} :
    ∃ t, exec (.busMasterDisable true) s = .next t ∧ t.hif.d3 = true ∧ t.hif.bme = s.hif.bme ∧ t.hif.dbReads = 0
      ∧ (s.sec.port = .pcie → t.sec.role = 0) ∧ s.onlyIn t [.regs, .hif, .sec] := by
  let u : State := { s with hif := { s.hif with d3 := true, dbReads := 0 } }
  have run : exec (.busMasterDisable true) s = .next u.endPcieSession := rfl
  have frame : s.onlyIn u.endPcieSession [.regs, .hif, .sec] :=
    Frame.endPcieSession u (Frame.with_hif (Frame.refl s _) (by decide)) (by decide) (by decide) (by decide)
  obtain ⟨alarms, -, -, pcie, -⟩ := u.endPcieSession_keeps
  refine ⟨_, run, ?_⟩
  generalize u.endPcieSession = t at alarms pcie frame
  unfold OnlyAlarms at alarms
  rw [alarms]
  exact ⟨rfl, rfl, rfl, pcie, frame⟩

theorem busMasterEnable_resumes (s : State) :
    ∃ t, exec .busMasterEnable s = .next t ∧ t.hif.bme = (s.hif.bme || !s.hif.d3) ∧ t.hif.d3 = false ∧ t.hif.ctl = s.hif.ctl
      ∧ (t.hif.bme = true → s.hif.up = true → s.hif.msixEn = true → (∀ v, s.vecMasked v = false) →
          ∀ v, v < 4 → (t.tgt v).msgHeld = false)
      ∧ s.onlyIn t [.hif, .evc] := by
  let u : State := if s.hif.d3 then { s with hif := { s.hif with d3 := false } } else { s with hif := { s.hif with bme := true } }
  have enabled : u = { s with hif := { s.hif with d3 := false, bme := s.hif.bme || !s.hif.d3 } } := by
    unfold u
    split
    · next d3 => simp [d3]
    · next d0 =>
      have d0 : s.hif.d3 = false := Bool.not_eq_true _ ▸ d0
      simp only [d0, Bool.not_false, Bool.or_true]
  have hif := u.flushMessages_hif
  have frame : s.onlyIn u.flushMessages [.hif, .evc] :=
    Frame.flushMessages u (by rw [enabled]; exact Frame.with_hif (Frame.refl s _) (by decide)) (by decide) (by decide)
  have bme : u.flushMessages.hif.bme = (s.hif.bme || !s.hif.d3) := by rw [hif, enabled]
  refine ⟨u.flushMessages, rfl, bme, by rw [hif, enabled], by rw [hif, enabled], fun on up msixEn unmasked v hv => ?_, frame⟩
  refine State.flushMessages_sent ⟨?_, ?_⟩ hv
  · rw [enabled]
    simp only [State.msixOut, msixEn, up, ← bme, on, Bool.not_false, Bool.and_self]
  · rw [enabled]
    exact unmasked

/-- Settles O15: the link's loss and return, the controls of configuration space, and its constant words. -/
theorem dataLinkAndConfigurationSpace : Obligations.DataLinkAndConfigurationSpace := by
  refine ⟨fun _ _ hok up plan => dataLinkDown_lost hok up plan,
    fun _ _ _ _ up perst cold sp1 sp4 w1 w2 => dataLinkUp_resumes up perst cold sp1 sp4 w1 w2, fun _ => rfl,
    fun _ _ => busMasterDisable_d3, fun off c s reached => ?control, fun s _ => busMasterEnable_resumes s, fun _ => rfl,
    fun s => ⟨?identity, rfl, ?classCode, fun n hn => ?bars, ?clkreq⟩⟩
  case control =>
    have takes : s.takesConfig .pcie = true := by simp [State.takesConfig, reached]
    exact congrArg Host.Outcome.next (if_pos takes)
  case identity =>
    have device : s.part.device < 65536 := by cases s.part <;> decide
    rw [State.configWord, if_pos (.inl rfl), place_eq, Nat.mod_eq_of_lt (by exact device)]
    rfl
  case classCode =>
    have rev := bits_lt (s.word R.SYS_REV) 0 8
    simp only [State.configWord, Nat.reduceEqDiff, or_self, if_false, if_true, Option.map_some, Option.some.injEq]
    omega
  case bars =>
    obtain rfl | rfl | rfl | rfl : n = 0 ∨ n = 1 ∨ n = 2 ∨ n = 3 := by omega
    all_goals rfl
  case clkreq =>
    unfold State.clkreq
    split <;> simp_all

end Sys2Proof.Machine
end

section
/-! PROOFS. A register write by the installer (R14, R15, R434), and by a role that the write refuses nothing. -/

namespace Sys2Proof.Machine

/-- From s to t the fields of register a have been written and no field was refused: the other words of both copies stay, and so does
what the device has noted of this fabric cycle. -/
structure HostWrote (a : Nat) (s t : State) : Prop where
  frame : s.onlyIn t [.regs]
  word : ∀ b, b ≠ a → t.word b = s.word b
  shadow : ∀ b, b ≠ a → t.shadowWord b = s.shadowWord b
  hw : t.regs.same.hw = s.regs.same.hw

theorem HostWrote.refl (a : Nat) (s : State) : HostWrote a s s := ⟨Frame.refl s _, fun _ _ => rfl, fun _ _ => rfl, rfl⟩

theorem HostWrote.noteHost {a : Nat} {s t : State} (h : HostWrote a s t) : HostWrote a s (t.noteHost a) := by
  obtain ⟨frame, word, shadow, hw⟩ := h
  refine ⟨Frame.noteHost _ _ frame (by decide), word, shadow, ?_⟩
  unfold State.noteHost State.inCycle
  dsimp only
  split <;> exact hw

theorem HostWrote.putWord {a : Nat} {s t : State} (h : HostWrote a s t) (v : Word) : HostWrote a s (t.putWord a v) := by
  obtain ⟨frame, word, shadow, hw⟩ := h
  exact ⟨Frame.putWord _ _ _ frame (by decide),
    fun b hb => (congrArg (Option.getD · _) (WMap.find_put_other hb _ _)).trans (word b hb), shadow, hw⟩

theorem HostWrote.putShadow {a : Nat} {s t : State} (h : HostWrote a s t) (v : Word) : HostWrote a s (t.putShadow a v) := by
  obtain ⟨frame, word, shadow, hw⟩ := h
  exact ⟨Frame.putShadow _ _ _ frame (by decide), word,
    fun b hb => (congrArg (Option.getD · _) (WMap.find_put_other hb _ _)).trans (shadow b hb), hw⟩

theorem HostWrote.markDirty {a : Nat} {s t : State} (h : HostWrote a s t) (b role : Nat) : HostWrote a s (t.markDirty b role) := by
  obtain ⟨frame, word, shadow, hw⟩ := h
  exact ⟨Frame.markDirty _ _ _ frame (by decide), word, shadow, hw⟩

theorem HostWrote.putBoth {a : Nat} {s t : State} (h : HostWrote a s t) (v : Word) (role : Nat) : HostWrote a s (t.putBoth a v role) :=
  ((h.noteHost.putWord v).putShadow v).markDirty a role

/-- An installer's write of a register without write-only maker bits refuses nothing (R15). -/
theorem refuses_of_installer {s : State} {r : RegRow} {role : Nat} (hr : 1 ≤ role) (hm : r.woM = 0) (a : Nat) (v : Word) :
    refuses s r a role v = false := by
  simp [refuses, hm, Nat.not_lt.mpr hr]

theorem HostWrote.rowWrite {s : State} {r : RegRow} {p : Port} {a : Nat} {v : Word} (h : refuses s r a (s.roleOf p) v = false) :
    HostWrote a s (s.rowWrite r p a v) := by
  unfold State.rowWrite
  extract_lets role im imask omask live1 gone1 gone live smask shadow deny s1 s2
  have hdeny : deny = false := h
  have h1 : HostWrote a s s1 := (HostWrote.refl a s).noteHost.putWord _
  have h2 : HostWrote a s s2 := by
    unfold s2
    split
    · exact h1
    · exact (h1.putShadow _).markDirty _ _
  rw [hdeny]
  exact h2

theorem HostWrote.fieldsWrite {s : State} {r : RegRow} {p : Port} {a : Nat} (row : s.rowThere a = some r) (hr : 1 ≤ s.roleOf p)
    (hm : r.woM = 0) (v : Word) : HostWrote a s (s.fieldsWrite p a v) := by
  unfold State.fieldsWrite
  rw [row]
  exact .rowWrite (refuses_of_installer hr hm _ _)

/-- An installer's write to a register that is there and has no write-only maker bits. -/
theorem HostWrote.busWrite {s : State} {r : RegRow} {p : Port} {a : Nat} (ho : s.portOpen = true) (row : s.rowThere a = some r)
    (hr : s.isInstaller p = true) (hm : r.woM = 0) (v : Word) (f : State → State) :
    ∃ u, s.busWrite p a v f = f u ∧ HostWrote a (s.touch p) u ∧ u = (s.touch p).fieldsWrite p a v := by
  refine ⟨(s.touch p).fieldsWrite p a v, State.busWrite_of_there ho (by rw [State.touch_rowThere, row]; rfl) v f,
    .fieldsWrite (by rw [State.touch_rowThere, row]) ?_ hm v, rfl⟩
  rw [State.touch_roleOf]
  exact of_decide_eq_true hr

/-- The row of a register that belongs to no unit. -/
theorem State.rowThere_of_row {a : Nat} {r : RegRow} {l : List Nat} {s : State} (row : rowAt a = some (r, l)) (unit : r.unit = .none)
    (block : s.blockThere a = true) : s.rowThere a = some { r with i := r.i &&& s.bitsThere a } := by
  simp [State.rowThere, row, unit, block, State.unitThere]

theorem HostWrote.sec {a : Nat} {s t : State} (h : HostWrote a s t) : t.sec = s.sec := h.frame .sec (by decide)

/-- The session, and so the role of an access, is untouched by the write. -/
theorem HostWrote.isInstaller {a : Nat} {s t : State} (h : HostWrote a s t) (p : Port) : t.isInstaller p = s.isInstaller p := by
  unfold State.isInstaller State.roleOf
  rw [h.sec]

@[simp] theorem State.touch_isInstaller (p q : Port) (s : State) : (s.touch p).isInstaller q = s.isInstaller q := by
  unfold State.isInstaller
  rw [State.touch_roleOf]

end Sys2Proof.Machine
end

section
/-! PROOFS. The tables of the angle clock and its latching reads (R63, R81, R85 to R88). -/

namespace Sys2Proof.Machine

theorem mem_upTo {i n : Nat} : i ∈ upTo n ↔ i < n := List.mem_range

theorem exec_terrDataAccess {p : Port} {s : State} (h : s.portOpen = true) (w : Option Word) :
    exec (.terrDataAccess p w) s = .next ((s.touch p).terrAccess p w) := by
  cases w <;> exact congrArg Host.Outcome.next (if_pos h)

@[simp] theorem State.touch_terrThere (p : Port) (s : State) (i : Nat) : (s.touch p).terrThere i = s.terrThere i := by
  unfold State.terrThere State.teeth State.teethN State.teethM
  rw [State.touch_get, State.touch_get]

theorem State.get_terrIdx_set {s : State} (h : s.regs.live.wf = true) (n : Nat) :
    (s.set F.WHL_TERR_IDX_IDX (n % 512)).get F.WHL_TERR_IDX_IDX = n % 512 :=
  (State.get_set s _ _ h (by decide)).trans (Nat.mod_mod n 512)

theorem terrDataRead {p : Port} {s : State} (hok : s.ok) (ho : s.portOpen = true) :
    ∃ t, exec (.terrDataAccess p none) s = .next t ∧ t.get F.WHL_TERR_IDX_IDX = (s.get F.WHL_TERR_IDX_IDX + 1) % 512
      ∧ (s.terrThere (s.get F.WHL_TERR_IDX_IDX) = true →
          t.ans.read = some ((s.word (terrAddr (s.get F.WHL_TERR_IDX_IDX))).toNat % 65536))
      ∧ s.onlyWords t [R.WHL_TERR_IDX] ∧ s.onlyIn t [.regs, .sec, .ans] := by
  have wf : (s.touch p).regs.live.wf = true := (Kept.touch s p (Kept.refl hok)).regs.live
  refine ⟨_, exec_terrDataAccess ho none, ?_⟩
  unfold State.terrAccess
  simp only [State.touch_terrThere, State.touch_get, State.touch_word]
  exact ⟨State.get_terrIdx_set wf _, fun there => by rw [if_pos there]; rfl,
    State.onlyWords.set (f := F.WHL_TERR_IDX_IDX) (.of_regs ((State.onlyWords.refl s _).touch p) rfl) _ List.mem_cons_self,
    Frame.set _ _ _ (Frame.answer _ _ (Frame.touch s p (Frame.refl s _) (by decide)) (by decide)) (by decide)⟩

/-- An entry's word and its hidden fraction stand apart from each other and from the set-up space. -/
theorem terrAddr_ne_terrFrac {i : Nat} (h : i < 512) (j : Nat) : terrAddr i ≠ terrFrac j := by
  unfold terrAddr terrFrac
  omega

theorem terrDataWrite {p : Port} {v : Word} {s : State} (hok : s.ok) (ho : s.portOpen = true) (hr : s.isInstaller p = true)
    (there : s.terrThere (s.get F.WHL_TERR_IDX_IDX) = true) :
    ∃ t, exec (.terrDataAccess p (some v)) s = .next t ∧ t.get F.WHL_TERR_IDX_IDX = (s.get F.WHL_TERR_IDX_IDX + 1) % 512
      ∧ t.word (terrAddr (s.get F.WHL_TERR_IDX_IDX)) = terrD (s.get F.WHL_TERR_IDX_IDX) v
      ∧ t.shadowWord (terrAddr (s.get F.WHL_TERR_IDX_IDX)) = terrD (s.get F.WHL_TERR_IDX_IDX) v ∧ s.onlyIn t [.regs, .sec] := by
  have lt : s.get F.WHL_TERR_IDX_IDX < 512 := State.get_lt s _
  have kept := (Kept.touch s p (Kept.refl hok)).regs
  refine ⟨_, exec_terrDataAccess ho (some v), ?_⟩
  unfold State.terrAccess
  simp only [State.touch_terrThere, State.touch_get, State.touch_isInstaller, hr, there, if_true]
  generalize s.get F.WHL_TERR_IDX_IDX = i at lt
  let u : State := (s.touch p).putBoth (terrAddr i) (terrD i v) ((s.touch p).roleOf p)
  have live : u.regs.live.wf = true := WMap.put_wf _ _ _ kept.live
  have fracApart := terrAddr_ne_terrFrac lt i
  have idxApart : terrAddr i ≠ R.WHL_TERR_IDX := by
    unfold terrAddr R.WHL_TERR_IDX
    omega
  refine ⟨State.get_terrIdx_set (s := u.putWord (terrFrac i) 0) (WMap.put_wf _ _ _ live) _, ?_, ?_, ?_⟩
  · rw [State.word_set_other _ _ _ _ (WMap.put_wf _ _ _ live) idxApart]
    exact (State.word_putWord u _ _ _ live).trans ((if_neg fracApart).trans (WMap.word_put_same _ _ _ kept.live))
  · exact WMap.word_put_same _ _ _ kept.shadow
  · exact Frame.set _ _ _ (Frame.putWord _ _ _ (Frame.putBoth _ _ _ _ (Frame.touch s p (Frame.refl s _) (by decide)) (by decide))
      (by decide)) (by decide)

/-! Clearing a table (R86) -/

/-- Entry j of a table at lo is 1.0 in both copies. -/
def State.clearEntry (lo j : Nat) (s : State) : State :=
  (((s.noteHost (terrAddr (lo + j))).putWord (terrAddr (lo + j)) 0).putShadow (terrAddr (lo + j)) 0).putWord (terrFrac (lo + j)) 0

theorem clearTable_eq (lo n role : Nat) (s : State) :
    clearTable lo n role s = ((upTo n).foldl (fun (s : State) j => s.clearEntry lo j) s).markDirty R.WHL_TERR_DATA role := rfl

/-- From o to s some entries of the table at lo have been cleared, in canonical copies, and no other word has changed. -/
structure EntriesCleared (lo : Nat) (js : List Nat) (o s : State) : Prop where
  live : s.regs.live.wf = true
  shadow : s.regs.shadow.wf = true
  cleared : ∀ j, j ∈ js → s.word (terrAddr (lo + j)) = 0 ∧ s.shadowWord (terrAddr (lo + j)) = 0
  others : ∀ a, (∀ j, j ∈ js → a ≠ terrAddr (lo + j) ∧ a ≠ terrFrac (lo + j)) →
    s.word a = o.word a ∧ s.shadowWord a = o.shadowWord a

theorem State.clearEntry_word {s : State} (h : s.regs.live.wf = true) (lo j a : Nat) :
    (s.clearEntry lo j).word a = if a = terrFrac (lo + j) then 0 else if a = terrAddr (lo + j) then 0 else s.word a :=
  (WMap.word_put _ _ _ _ (WMap.put_wf _ _ _ h)).trans (ite_congr rfl (fun _ => rfl) (fun _ => WMap.word_put _ _ _ _ h))

theorem State.clearEntry_shadowWord {s : State} (h : s.regs.shadow.wf = true) (lo j a : Nat) :
    (s.clearEntry lo j).shadowWord a = if a = terrAddr (lo + j) then 0 else s.shadowWord a := WMap.word_put _ _ _ _ h

theorem EntriesCleared.step {lo j : Nat} {js : List Nat} {o s : State} (h : EntriesCleared lo js o s) :
    EntriesCleared lo (js ++ [j]) o (s.clearEntry lo j) := by
  refine ⟨WMap.put_wf _ _ _ (WMap.put_wf _ _ _ h.live), WMap.put_wf _ _ _ h.shadow, fun i hi => ?_, fun a ha => ?_⟩
  · rw [State.clearEntry_word h.live, State.clearEntry_shadowWord h.shadow]
    rcases List.mem_append.mp hi with old | new
    · rw [(h.cleared i old).1, (h.cleared i old).2]
      simp
    · obtain rfl := List.mem_singleton.mp new
      simp
  · obtain ⟨addr, frac⟩ := ha j (by simp)
    rw [State.clearEntry_word h.live, if_neg frac, if_neg addr, State.clearEntry_shadowWord h.shadow, if_neg addr]
    exact h.others a (fun i hi => ha i (by simp [hi]))

theorem EntriesCleared.foldl {lo : Nat} {js : List Nat} {o s : State} (h : EntriesCleared lo js o s) (ks : List Nat) :
    EntriesCleared lo (js ++ ks) o (ks.foldl (fun (s : State) j => s.clearEntry lo j) s) := by
  induction ks generalizing js s with
  | nil => simpa using h
  | cons k ks ih => simpa using ih (h.step (j := k))

theorem EntriesCleared.clearTable {o : State} (live : o.regs.live.wf = true) (shadow : o.regs.shadow.wf = true) (lo n role : Nat) :
    EntriesCleared lo (upTo n) o (clearTable lo n role o) := by
  rw [clearTable_eq]
  obtain ⟨live', shadow', cleared, others⟩ :=
    EntriesCleared.foldl (lo := lo) (js := []) ⟨live, shadow, fun j h => by simp at h, fun _ _ => ⟨rfl, rfl⟩⟩ (upTo n)
  exact ⟨live', shadow', cleared, others⟩

/-- A set-up word below the tables is none of their entries. -/
theorem EntriesCleared.below {lo : Nat} {js : List Nat} {o s : State} (h : EntriesCleared lo js o s) {a : Nat} (ha : a < 0x100000) :
    s.word a = o.word a :=
  (h.others a (fun j _ => by unfold terrAddr terrFrac; omega)).1

/-! Writes of WHL_ACLK_CTRL (R84, R86, R87) -/

theorem State.rowThere_aclkCtrl (s : State) : ∃ r, s.rowThere R.WHL_ACLK_CTRL = some r ∧ r.woM = 0 :=
  ⟨_, State.rowThere_of_row (l := []) rfl rfl rfl, rfl⟩

/-- The write-only bits of WHL_ACLK_CTRL act in order on a state that the field write has left. -/
def State.aclkActs (p : Port) (v : Word) (frozen : Bool) (s : State) : State :=
  let s : State := if frozen && !s.flag F.WHL_ACLK_CTRL_FREEZE then { s with ang := { s.ang with fresh := 2 * s.teeth } } else s
  let s : State := if v.bit 3 then s.errRestartNow else s
  let s : State := if v.bit 4 && s.isInstaller p then s.clearTerrNow (s.roleOf p) else s
  if v.bit 5 && s.isInstaller p then s.clearTorsNow (s.roleOf p) else s

theorem State.aclkWrite_eq (p : Port) (v : Word) (s : State) :
    s.aclkWrite p v = s.busWrite p R.WHL_ACLK_CTRL v (fun u => u.aclkActs p v (s.flag F.WHL_ACLK_CTRL_FREEZE)) := rfl

/-- An installer's write of WHL_ACLK_CTRL. -/
theorem exec_aclkWrite {p : Port} {v : Word} {s : State} (hok : s.ok) (ho : s.portOpen = true) (hr : s.isInstaller p = true) :
    ∃ u frozen, s.aclkWrite p v = u.aclkActs p v frozen ∧ u.ok ∧ u.isInstaller p = true
      ∧ u.regs.same.hw = s.regs.same.hw ∧ s.onlyIn u [.regs, .sec, .ang] := by
  obtain ⟨r, row, noMaker⟩ := s.rowThere_aclkCtrl
  obtain ⟨u, run, wrote, rfl⟩ := HostWrote.busWrite ho row hr noMaker v (fun u => u.aclkActs p v (s.flag F.WHL_ACLK_CTRL_FREEZE))
  refine ⟨_, _, (State.aclkWrite_eq p v s).trans run, (Kept.fieldsWrite _ _ _ _ (Kept.touch s p (Kept.refl hok))).ok, ?_, ?_, ?_⟩
  · rw [wrote.isInstaller, State.touch_isInstaller, hr]
  · rw [wrote.hw, State.touch_regs]
  · exact Frame.trans (Frame.touch s p (Frame.refl s _) (by decide)) (Frame.mono wrote.frame (by decide))

/-- What is left of the write's effects before the tables are cleared: the session stays, and so do the device's notes. -/
def State.aclkThawed (frozen : Bool) (s : State) : State :=
  if frozen && !s.flag F.WHL_ACLK_CTRL_FREEZE then { s with ang := { s.ang with fresh := 2 * s.teeth } } else s

theorem State.aclkThawed_keeps (frozen : Bool) (s : State) :
    (s.aclkThawed frozen).regs = s.regs ∧ (s.aclkThawed frozen).sec = s.sec ∧ s.onlyIn (s.aclkThawed frozen) [.regs, .sec, .ang] := by
  unfold State.aclkThawed
  split
  · exact ⟨rfl, rfl, Frame.with_ang (Frame.refl s _) (by decide)⟩
  · exact ⟨rfl, rfl, Frame.refl s _⟩

/-- The extremes and the tables after the write, on a state that the installer's write has left. -/
theorem State.aclkActs_eq {p : Port} {v : Word} {frozen : Bool} {s : State} (hr : s.isInstaller p = true) :
    s.aclkActs p v frozen =
      (let t := if v.bit 3 then (s.aclkThawed frozen).errRestartNow else s.aclkThawed frozen
       let t := if v.bit 4 then t.clearTerrNow (s.roleOf p) else t
       if v.bit 5 then t.clearTorsNow (s.roleOf p) else t) := by
  obtain ⟨-, sec, -⟩ := s.aclkThawed_keeps frozen
  have role (u : State) (h : u.sec = s.sec) : u.isInstaller p = true ∧ u.roleOf p = s.roleOf p := by
    unfold State.isInstaller State.roleOf at *
    rw [h]
    exact ⟨hr, rfl⟩
  have s1 : (if v.bit 3 then (s.aclkThawed frozen).errRestartNow else s.aclkThawed frozen).sec = s.sec := by
    split
    · exact sec
    · exact sec
  have acts : s.aclkActs p v frozen =
      (let t := if v.bit 3 then (s.aclkThawed frozen).errRestartNow else s.aclkThawed frozen
       let t := if v.bit 4 && t.isInstaller p then t.clearTerrNow (t.roleOf p) else t
       if v.bit 5 && t.isInstaller p then t.clearTorsNow (t.roleOf p) else t) := rfl
  rw [acts]
  generalize (if v.bit 3 then (s.aclkThawed frozen).errRestartNow else s.aclkThawed frozen) = t at s1
  dsimp only
  rw [(role t s1).1, (role t s1).2, Bool.and_true]
  have s2 : (if v.bit 4 then t.clearTerrNow (s.roleOf p) else t).sec = s.sec := by
    split
    · exact (Frame.clearTerrNow _ t (Frame.refl t [.regs]) (by decide) .sec (by decide)).trans s1
    · exact s1
  rw [(role _ s2).1, (role _ s2).2, Bool.and_true]

theorem aclkWrite_frame {p : Port} {v : Word} {s : State} (hok : s.ok) (ho : s.portOpen = true) (hr : s.isInstaller p = true) :
    s.onlyIn (s.aclkWrite p v) [.regs, .sec, .ang] := by
  obtain ⟨u, frozen, run, -, installer, -, frame⟩ := exec_aclkWrite (v := v) hok ho hr
  rw [run, State.aclkActs_eq installer]
  obtain ⟨-, -, thawed⟩ := u.aclkThawed_keeps frozen
  have f0 := Frame.trans frame thawed
  have f1 : s.onlyIn (if v.bit 3 then (u.aclkThawed frozen).errRestartNow else u.aclkThawed frozen) [.regs, .sec, .ang] :=
    Frame.ite (Frame.errRestartNow _ f0 (by decide)) f0
  have f2 := Frame.ite (c := v.bit 4 = true) (Frame.clearTerrNow (u.roleOf p) _ f1 (by decide)) f1
  exact Frame.ite (Frame.clearTorsNow _ _ f2 (by decide)) f2

/-- Canonical live and shadow copies. -/
def State.copiesWf (s : State) : Prop := s.regs.live.wf = true ∧ s.regs.shadow.wf = true

theorem State.copiesWf_errRestart {s : State} (h : s.copiesWf) (c : Bool) : (if c then s.errRestartNow else s).copiesWf := by
  split
  · exact ⟨WMap.put_wf _ _ _ (WMap.put_wf _ _ _ h.1), h.2⟩
  · exact h

/-- A table cleared and a field of the set-up space written: the entries at 1.0, and of the set-up words only that field's written. -/
theorem clearTable_set {s : State} (h : s.copiesWf) {lo n : Nat} (role : Nat) {f : Fld} (hf : f.a < 0x100000)
    (v : Nat) : ((clearTable lo n role s).set f v).copiesWf
      ∧ (∀ i, i < n → ((clearTable lo n role s).set f v).word (terrAddr (lo + i)) = 0
          ∧ ((clearTable lo n role s).set f v).shadowWord (terrAddr (lo + i)) = 0)
      ∧ (∀ a, a < 0x100000 → a ≠ f.a → ((clearTable lo n role s).set f v).word a = s.word a) := by
  have table := EntriesCleared.clearTable h.1 h.2 lo n role
  generalize clearTable lo n role s = t at table
  refine ⟨⟨WMap.put_wf _ _ _ table.live, table.shadow⟩, fun i hi => ?_, fun a ha other => ?_⟩
  · have cleared := table.cleared i (mem_upTo.mpr hi)
    have apart : terrAddr (lo + i) ≠ f.a := by
      unfold terrAddr
      omega
    refine ⟨?_, cleared.2⟩
    rw [State.word_set_other _ _ _ _ table.live apart]
    exact cleared.1
  · rw [State.word_set_other _ _ _ _ table.live other]
    exact table.below ha

theorem State.clearTerrNow_clears {s : State} (h : s.copiesWf) (role : Nat) :
    (s.clearTerrNow role).copiesWf
      ∧ (∀ i, i < 120 → (s.clearTerrNow role).word (terrAddr i) = 0 ∧ (s.clearTerrNow role).shadowWord (terrAddr i) = 0)
      ∧ (∀ a, a < 0x100000 → a ≠ R.WHL_LEARN_CNT → (s.clearTerrNow role).word a = s.word a) := by
  obtain ⟨wf, cleared, others⟩ :=
    clearTable_set h (lo := 0) (n := 120) role (f := F.WHL_LEARN_CNT_COUNT) (by decide) 0
  simp only [Nat.zero_add] at cleared
  exact ⟨wf, cleared, others⟩

/-- The same where CLEAR_TERR may be asked for or not. -/
theorem State.clearTerrIf_keeps {s : State} (h : s.copiesWf) (c : Bool) (role : Nat) :
    (if c then s.clearTerrNow role else s).copiesWf
      ∧ ∀ a, a < 0x100000 → a ≠ R.WHL_LEARN_CNT → (if c then s.clearTerrNow role else s).word a = s.word a := by
  split
  · exact ⟨(State.clearTerrNow_clears h role).1, (State.clearTerrNow_clears h role).2.2⟩
  · exact ⟨h, fun _ _ _ => rfl⟩

/-- CLEAR_TORS leaves what lies outside its table. -/
theorem State.clearTorsIf_keeps {s : State} (h : s.copiesWf) (c : Bool) (role : Nat) {a : Nat} (ha : a < 0x100000 + 4 * 256) :
    (if c then s.clearTorsNow role else s).word a = s.word a
      ∧ (if c then s.clearTorsNow role else s).shadowWord a = s.shadowWord a := by
  split
  · exact (EntriesCleared.clearTable h.1 h.2 256 240 role).others a (fun j _ => by unfold terrAddr terrFrac; omega)
  · exact ⟨rfl, rfl⟩

section
variable {p : Port} {v : Word} {s : State} (hok : s.ok) (ho : s.portOpen = true) (hr : s.isInstaller p = true)
include hok ho hr

theorem clearTerr_clears (hv : v.bit 4 = true) :
    ∃ t, exec (.clearTerr p v) s = .next t ∧ (∀ i, i < 120 → t.word (terrAddr i) = 0 ∧ t.shadowWord (terrAddr i) = 0)
      ∧ s.onlyIn t [.regs, .sec, .ang] := by
  refine ⟨s.aclkWrite p v, rfl, fun i hi => ?_, aclkWrite_frame hok ho hr⟩
  obtain ⟨u, frozen, run, uok, installer, -, -⟩ := exec_aclkWrite (v := v) hok ho hr
  rw [run, State.aclkActs_eq installer, hv]
  obtain ⟨regs, -, -⟩ := u.aclkThawed_keeps frozen
  have wf : (u.aclkThawed frozen).copiesWf := by
    unfold State.copiesWf
    rw [regs]
    exact ⟨(Kept.refl uok).regs.live, (Kept.refl uok).regs.shadow⟩
  obtain ⟨wf', cleared, -⟩ := State.clearTerrNow_clears (State.copiesWf_errRestart wf (v.bit 3)) (u.roleOf p)
  obtain ⟨word, shadow⟩ := State.clearTorsIf_keeps wf' (v.bit 5) (u.roleOf p) (a := terrAddr i) (by unfold terrAddr; omega)
  exact ⟨word.trans (cleared i hi).1, shadow.trans (cleared i hi).2⟩

theorem clearTors_clears (hv : v.bit 5 = true) :
    ∃ t, exec (.clearTors p v) s = .next t ∧ (∀ i, i < 240 → t.word (terrAddr (256 + i)) = 0 ∧ t.shadowWord (terrAddr (256 + i)) = 0)
      ∧ s.onlyIn t [.regs, .sec, .ang] := by
  refine ⟨s.aclkWrite p v, rfl, fun i hi => ?_, aclkWrite_frame hok ho hr⟩
  obtain ⟨u, frozen, run, uok, installer, -, -⟩ := exec_aclkWrite (v := v) hok ho hr
  rw [run, State.aclkActs_eq installer, hv]
  obtain ⟨regs, -, -⟩ := u.aclkThawed_keeps frozen
  have wf : (u.aclkThawed frozen).copiesWf := by
    unfold State.copiesWf
    rw [regs]
    exact ⟨(Kept.refl uok).regs.live, (Kept.refl uok).regs.shadow⟩
  obtain ⟨wf', -⟩ := State.clearTerrIf_keeps (State.copiesWf_errRestart wf (v.bit 3)) (v.bit 4) (u.roleOf p)
  exact (EntriesCleared.clearTable wf'.1 wf'.2 256 240 (u.roleOf p)).cleared i (mem_upTo.mpr hi)

theorem errRestart_restarts (hv : v.bit 3 = true) (noSample : s.hwWrote R.WHL_ERR_LAST = false) :
    ∃ t, exec (.errRestart p v) s = .next t ∧ t.word R.WHL_ERR_MIN = 0 ∧ t.word R.WHL_ERR_MAX = 0
      ∧ s.onlyIn t [.regs, .sec, .ang] := by
  refine ⟨s.aclkWrite p v, rfl, ?_⟩
  have frame := aclkWrite_frame (v := v) hok ho hr
  obtain ⟨u, frozen, run, uok, installer, hw, -⟩ := exec_aclkWrite (v := v) hok ho hr
  rw [run, State.aclkActs_eq installer, hv] at frame ⊢
  obtain ⟨regs, -, -⟩ := u.aclkThawed_keeps frozen
  have wf : (u.aclkThawed frozen).copiesWf := by
    unfold State.copiesWf
    rw [regs]
    exact ⟨(Kept.refl uok).regs.live, (Kept.refl uok).regs.shadow⟩
  have quiet : (u.aclkThawed frozen).hwWrote R.WHL_ERR_LAST = false := by
    unfold State.hwWrote at noSample ⊢
    rwa [regs, hw]
  generalize u.aclkThawed frozen = t at wf quiet frame ⊢
  have extremes : t.errRestartNow.word R.WHL_ERR_MIN = 0 ∧ t.errRestartNow.word R.WHL_ERR_MAX = 0 := by
    unfold State.errRestartNow
    rw [quiet]
    exact ⟨(State.word_putWord _ _ _ _ (WMap.put_wf _ _ _ wf.1)).trans ((if_neg (by decide)).trans (WMap.word_put_same _ _ _ wf.1)),
      WMap.word_put_same _ _ _ (WMap.put_wf _ _ _ wf.1)⟩
  obtain ⟨wf', terr⟩ := State.clearTerrIf_keeps (State.copiesWf_errRestart wf true) (v.bit 4) (u.roleOf p)
  have kept {a : Nat} (ha : a < 0x100000) (other : a ≠ R.WHL_LEARN_CNT) :=
    (State.clearTorsIf_keeps wf' (v.bit 5) (u.roleOf p) (Nat.lt_trans ha (by decide))).1.trans (terr a ha other)
  exact ⟨(kept (by decide) (by decide)).trans extremes.1, (kept (by decide) (by decide)).trans extremes.2, frame⟩

end

/-- Settles O20: the table port, the three write-only bits of WHL_ACLK_CTRL, and the two latching reads. -/
theorem wheelTablesAndLatchingReads : Obligations.WheelTablesAndLatchingReads := by
  refine ⟨fun _ _ hok ho => terrDataRead hok ho, fun _ _ _ hok ho hr there => terrDataWrite hok ho hr there,
    fun _ _ _ hok ho _ hr hv => clearTerr_clears hok ho hr hv, fun _ _ _ hok ho _ hr hv => clearTors_clears hok ho hr hv,
    fun _ _ _ hok ho _ hv hr quiet => errRestart_restarts hok ho hr hv quiet, fun p s ho => ?angle, fun p s ho => ?stamp⟩
  case angle =>
    have ang : (s.touch p).ang = s.ang := Frame.touch s p (Frame.refl s [.sec]) (by decide) .ang (by decide)
    have whl : (s.touch p).whl = s.whl := Frame.touch s p (Frame.refl s [.sec]) (by decide) .whl (by decide)
    have clk : (s.touch p).clk = s.clk := Frame.touch s p (Frame.refl s [.sec]) (by decide) .clk (by decide)
    refine ⟨_, congrArg Host.Outcome.next (if_pos ho), ?_, ?_, Frame.answer _ _ (Frame.with_ang (Frame.touch s p (Frame.refl s _)
      (by decide)) (by decide)) (by decide)⟩
    · simp only [State.answer, State.angleWord, State.clockRuns, ang, whl]
    · simp only [State.answer, State.now, ang, clk]
  case stamp =>
    have whl : (s.touch p).whl = s.whl := Frame.touch s p (Frame.refl s [.sec]) (by decide) .whl (by decide)
    refine ⟨_, congrArg Host.Outcome.next (if_pos ho), ?_, ?_, Frame.answer _ _ (Frame.with_whl (Frame.touch s p (Frame.refl s _)
      (by decide)) (by decide)) (by decide)⟩
    · simp only [State.answer, whl]
    · simp only [State.answer, whl]

end Sys2Proof.Machine
end

section
/-! PROOFS. Coarse crank edges and captured cam edges (R40, R42, R60). -/

namespace Sys2Proof.Machine

/-! Trace records (R305) -/

/-- The words that count lost trace records. -/
def traceWords : List Nat := [R.HIF_XQLOST_CNT]

theorem State.onlyWords.trace {o s : State} {l : List Nat} (h : o.onlyWords s l) (t bit low : Nat) (time : Tb) (mid w3 : Nat)
    (k : R.HIF_XQLOST_CNT ∈ l) : o.onlyWords (s.trace t bit low time mid w3) l := by
  unfold State.trace
  split
  · split
    · exact h.of_regs rfl
    · exact State.onlyWords.count (s := s.modRing 18 _) (f := F.HIF_XQLOST_CNT_COUNT) (h.of_regs rfl) k
  · exact h

@[simp] theorem State.trace_whl (t bit low : Nat) (time : Tb) (mid w3 : Nat) (s : State) : (s.trace t bit low time mid w3).whl = s.whl :=
  Frame.trace t bit low time mid w3 s (Frame.refl s [.regs, .hif]) (by decide) (by decide) .whl (by decide)

@[simp] theorem State.trace_ang (t bit low : Nat) (time : Tb) (mid w3 : Nat) (s : State) : (s.trace t bit low time mid w3).ang = s.ang :=
  Frame.trace t bit low time mid w3 s (Frame.refl s [.regs, .hif]) (by decide) (by decide) .ang (by decide)

/-! Coarse edges (R42) -/

/-- The first coarse edge is stamped, and each is counted. -/
def State.coarseCounted (s : State) : State :=
  ({ (if s.whl.coarse then s else s.set F.WHL_COARSE_STAMP_AON s.clk.aon).count F.WHL_COARSE_CNT_COUNT with
    whl := { s.whl with coarse := true } } : State)

theorem State.coarse_of_early {s : State} (early : s.clk.tbRun = false) (on : s.sys.mode ≠ .off) :
    s.coarse = s.coarseCounted.trace 0 0 (7 * 256) (BitVec.ofNat 40 (s.clk.aon % 2 ^ 32)) 0 s.clockWord := by
  have counts : ¬ (s.clk.tbRun || s.sys.mode == .off) = true := by simp [early, on]
  unfold State.coarse State.coarseCounted
  rw [if_neg counts]
  cases s.whl.coarse <;> rfl

theorem coarseEdge_counted {s : State} (hok : s.ok) (early : s.clk.tbRun = false) (on : s.sys.mode ≠ .off) :
    ∃ t, exec .coarseEdge s = .next t ∧ t.whl = { s.whl with coarse := true }
      ∧ t.get F.WHL_COARSE_CNT_COUNT = min (s.get F.WHL_COARSE_CNT_COUNT + 1) 0xFFFF
      ∧ (s.whl.coarse = false → t.get F.WHL_COARSE_STAMP_AON = s.clk.aon % 2 ^ 32)
      ∧ (s.whl.coarse = true → t.get F.WHL_COARSE_STAMP_AON = s.get F.WHL_COARSE_STAMP_AON)
      ∧ s.onlyIn t [.regs, .hif, .whl] := by
  have run := State.coarse_of_early early on
  have wf : s.regs.live.wf = true := (Kept.refl hok).regs.live
  generalize BitVec.ofNat 40 (s.clk.aon % 2 ^ 32) = time at run
  have traced : s.coarseCounted.onlyWords (s.coarseCounted.trace 0 0 (7 * 256) time 0 s.clockWord) traceWords :=
    (State.onlyWords.refl _ _).trace _ _ _ _ _ _ (by decide)
  have stamped : (if s.whl.coarse then s else s.set F.WHL_COARSE_STAMP_AON s.clk.aon).regs.live.wf = true := by
    split
    · exact wf
    · exact WMap.put_wf _ _ _ wf
  have counted : s.coarseCounted.get F.WHL_COARSE_CNT_COUNT = min (s.get F.WHL_COARSE_CNT_COUNT + 1) 0xFFFF := by
    refine (State.get_count _ F.WHL_COARSE_CNT_COUNT stamped (by decide)).trans ?_
    congr 2
    split
    · rfl
    · exact State.get_set_other _ _ _ _ wf (by decide)
  have stamp : s.coarseCounted.get F.WHL_COARSE_STAMP_AON
      = (if s.whl.coarse then s else s.set F.WHL_COARSE_STAMP_AON s.clk.aon).get F.WHL_COARSE_STAMP_AON :=
    State.get_count_other _ F.WHL_COARSE_CNT_COUNT _ stamped (by decide)
  have frame : s.onlyIn s.coarseCounted [.regs, .hif, .whl] :=
    Frame.with_whl (Frame.count _ _ (Frame.ite (Frame.refl s _) (Frame.set _ _ _ (Frame.refl s _) (by decide))) (by decide)) (by decide)
  refine ⟨_, congrArg Host.Outcome.next run, State.trace_whl _ _ _ _ _ _ _, (traced.get_eq (by decide)).trans counted, fun first => ?_,
    fun later => ?_, Frame.trace _ _ _ _ _ _ _ frame (by decide) (by decide)⟩
  · rw [traced.get_eq (by decide), stamp, first]
    exact State.get_set _ _ _ wf (by decide)
  · rw [traced.get_eq (by decide), stamp, later]
    rfl

/-! Cam edges (R40, R60) -/

/-- A captured cam edge: its index moves on, and its angle and time stand in the words of that index. -/
def State.camCaptured (n k : Nat) (falling : Bool) (stamp : Tb) (s : State) : State :=
  (({ s with whl := { s.whl with camK := setAt s.whl.camK n (k + 1) } } : State).putWord (R.WHL_CAM_ANG n k)
    (Word.ofN (s.ang.at' + place 22 1 (b2n falling) + place 23 1 (b2n s.clockRuns) + place 24 1 (b2n s.whl.phaseKnown)))).putWord
      (R.WHL_CAM_TIM n k) (Word.ofN stamp.toNat)

theorem State.camCaptured_onlyWords (n k : Nat) (falling : Bool) (stamp : Tb) (s : State) :
    s.onlyWords (s.camCaptured n k falling stamp) [R.WHL_CAM_ANG n k, R.WHL_CAM_TIM n k] :=
  State.onlyWords.putWord (State.onlyWords.putWord (State.onlyWords.of_regs (.refl s _) rfl) _ (by simp)) _ (by simp)

/-- The low bits of a word in which other fields lie above them. -/
theorem bits_ofN_low (x m w : Nat) (h : w ≤ 32) : (Word.ofN (x + m * 2 ^ w)).bits 0 w = x % 2 ^ w := by
  have split : (2 : Nat) ^ 32 = 2 ^ w * 2 ^ (32 - w) := by
    rw [← Nat.pow_add]
    congr 1
    omega
  unfold Word.bits Word.ofN
  rw [BitVec.toNat_ofNat, Nat.shiftRight_zero, split, Nat.mod_mul_right_mod, Nat.add_mul_mod_self_right]

theorem State.camCaptured_words {n k : Nat} (falling : Bool) (stamp : Tb) {s : State} (wf : s.regs.live.wf = true) :
    (s.camCaptured n k falling stamp).word (R.WHL_CAM_TIM n k) = Word.ofN stamp.toNat
      ∧ ((s.camCaptured n k falling stamp).word (R.WHL_CAM_ANG n k)).bits 0 22 = s.ang.at' % 2 ^ 22 := by
  have apart : R.WHL_CAM_ANG n k ≠ R.WHL_CAM_TIM n k := by
    simp only [R.WHL_CAM_ANG, R.WHL_CAM_TIM]
    omega
  have fields : s.ang.at' + place 22 1 (b2n falling) + place 23 1 (b2n s.clockRuns) + place 24 1 (b2n s.whl.phaseKnown)
      = s.ang.at' + (b2n falling % 2 ^ 1 + b2n s.clockRuns % 2 ^ 1 * 2 + b2n s.whl.phaseKnown % 2 ^ 1 * 4) * 2 ^ 22 := by
    simp only [place_eq]
    ring
  refine ⟨WMap.word_put_same _ _ _ (WMap.put_wf _ _ _ wf), ?_⟩
  rw [State.camCaptured, State.word_putWord _ _ _ _ (WMap.put_wf _ _ _ wf), if_neg apart, fields]
  exact (congrArg (fun x : Word => x.bits 0 22) (WMap.word_put_same _ _ _ wf)).trans (bits_ofN_low _ _ _ (by decide))

theorem camEdge_captured {n : Nat} {falling : Bool} {stamp : Tb} {width peak : Nat} {s : State} (hn : n < 4)
    (en : s.flag (F.WHL_CAMCFG_EN n) = true) (usable : s.camUsable n = true) (operating : s.sys.mode.operating = true)
    (runs : s.clk.tbRun = true) (free : s.testing 1 = false) (digital : n = 0 → s.flag (F.WHL_CAMCFG_VR 0) = false)
    (wide : s.get (F.WHL_CAMCFG_MINW n) * 8 ≤ width) (edge : s.get (F.WHL_CAMCFG_EDGE n) = (if falling then 1 else 0))
    (noRef : s.flag F.WHL_CAMREF_REF_EN = false) (clock : s.clockRuns = true)
    (room : s.whl.camK.getD n 0 ≤ s.get (F.WHL_CAMCFG_EDGES n)) :
    exec (.camEdge n falling stamp width peak) s = .next (s.camCaptured n (s.whl.camK.getD n 0) falling stamp) := by
  have taken : (s.flag (F.WHL_CAMCFG_EN n) && s.camUsable n && s.sys.mode.operating && s.clk.tbRun && !s.testing 1) = true := by
    simp [en, usable, operating, runs, free]
  have noVr : (n == 0 && s.flag (F.WHL_CAMCFG_VR n)) = false := by
    by_cases first : n = 0
    · subst first
      simp [digital rfl]
    · simp [first]
  have wanted : ((s.get (F.WHL_CAMCFG_EDGE n) == 2) || (s.get (F.WHL_CAMCFG_EDGE n) == 0 && !falling)
      || (s.get (F.WHL_CAMCFG_EDGE n) == 1 && falling)) = true := by
    rw [edge]
    cases falling <;> rfl
  have index : s.camIndex n = (some (s.whl.camK.getD n 0), s.whl.camK.getD n 0 + 1) := by
    unfold State.camIndex
    simp only [clock, if_true]
    exact if_pos (by omega)
  have few : s.whl.camK.getD n 0 < 8 := by
    have := State.get_lt s (F.WHL_CAMCFG_EDGES n)
    simp only at this
    omega
  have noRef' : (s.camCaptured n (s.whl.camK.getD n 0) falling stamp).flag F.WHL_CAMREF_REF_EN = false := by
    refine ((State.camCaptured_onlyWords n _ falling stamp s).flag_eq ?_).trans noRef
    simp only [List.mem_cons, List.not_mem_nil, or_false, R.WHL_CAMREF, R.WHL_CAM_ANG, R.WHL_CAM_TIM]
    omega
  refine congrArg Host.Outcome.next ?_
  unfold State.cam
  rw [taken, noVr]
  simp only [Bool.not_true, Bool.false_eq_true, if_false, Bool.not_false, Bool.true_or, wanted, Nat.not_lt.mpr wide, decide_false,
    Bool.or_false, index]
  refine if_neg (fun reference => Bool.false_ne_true (noRef'.symm.trans ?_))
  simp only [Bool.and_eq_true] at reference
  obtain ⟨⟨⟨on, -⟩, -⟩, -⟩ := reference
  exact on

/-- Settles O18: the coarse edge, and the captured cam edge with its two words. -/
theorem coarseAndCamEdgesAreCaptured : Obligations.CoarseAndCamEdgesAreCaptured := by
  refine ⟨fun _ hok early on => coarseEdge_counted hok early on, ?_⟩
  intro n falling stamp width peak s hok hn en usable operating runs free digital wide edge noRef clock room
  obtain ⟨tim, ang⟩ := State.camCaptured_words (n := n) (k := s.whl.camK.getD n 0) falling stamp (Kept.refl hok).regs.live
  exact ⟨_, camEdge_captured hn en usable operating runs free digital wide edge noRef clock room, tim, ang, rfl,
    State.camCaptured_onlyWords _ _ _ _ _,
    Frame.putWord _ _ _ (Frame.putWord _ _ _ (Frame.with_whl (Frame.refl s _) (by decide)) (by decide)) (by decide)⟩

end Sys2Proof.Machine
end

section
/-! PROOFS. Stalls, sync reset, the clamp and the wrap of the angle clock (R53 to R55, R63, R74, R77). -/

namespace Sys2Proof.Machine

/-! Sync transitions (Table 2.3) -/

/-- The parts that a sync transition changes before the mode follows, without the tracker itself. -/
def syncParts : List Piece := [.regs, .hif, .evc, .ang, .sch, .banks, .ink, .adc]

/-- From s to t the tracker has moved to a sync state; the stamp of the last accepted edge and the mode of the device stay. -/
structure Resynced (dst : Sync) (s t : State) : Prop where
  sync : t.whl.sync = dst
  stamp : t.whl.stamp = s.whl.stamp
  sys : t.sys = s.sys

section
variable {dst : Sync} {s t u : State}

theorem Resynced.frame (h : Resynced dst s t) (k : t.onlyIn u syncParts) : Resynced dst s u := by
  have whl : u.whl = t.whl := k .whl (by decide)
  have sys : u.sys = t.sys := k .sys (by decide)
  exact ⟨by rw [whl, h.sync], by rw [whl, h.stamp], by rw [sys, h.sys]⟩

theorem Resynced.ite {c : Prop} [Decidable c] {x y : State} (h : Resynced dst s x) (k : Resynced dst s y) :
    Resynced dst s (if c then x else y) := by
  split <;> assumption

end

/-- A sync transition moves the tracker, and the mode follows it. -/
theorem State.syncAs_resynced {quiet : Bool} {dst : Sync} {input : Nat} {t : Tb} {s : State} (h : s.whl.sync ≠ dst) :
    ∃ u, s.syncAs quiet dst input t = u.followSync ∧ Resynced dst s u := by
  unfold State.syncAs
  extract_lets frm ran pos w0 moved stops told lost w1 left closed coasting coasted acquired phased judged opened a0 restarted traced
  rw [if_neg h]
  refine ⟨traced, rfl, ?_⟩
  have h1 : Resynced dst s moved := ⟨rfl, rfl, rfl⟩
  have h2 : Resynced dst s told :=
    .ite h1 (h1.frame (Frame.raise _ _ (Frame.alarm _ _ _ _ _ (Frame.refl _ _) (by decide) (by decide)) (by decide) (by decide)))
  have h3 : Resynced dst s lost := h2.frame (Frame.syncLoss _ (Frame.endClamp _ (Frame.refl _ _) (by decide) (by decide))
    (by decide) (by decide) (by decide) (by decide) (by decide))
  have h4 : Resynced dst s left := ⟨h3.sync, h3.stamp, h3.sys⟩
  have h5 : Resynced dst s closed := .ite (h4.frame (Frame.closeAll _ _ _ _ (Frame.refl _ _) (by decide) (by decide) (by decide))) h1
  have h6 : Resynced dst s coasting :=
    .ite (h5.frame (Frame.startCoast _ (Frame.raise _ _ (Frame.refl _ _) (by decide) (by decide)) (by decide))) h5
  have h7 : Resynced dst s coasted := .ite (h6.frame (Frame.endCoast _ (Frame.refl _ _) (by decide))) h6
  have h8 : Resynced dst s acquired := .ite (h7.frame (Frame.raise _ _ (Frame.refl _ _) (by decide) (by decide))) h7
  have h9 : Resynced dst s phased := .ite (h8.frame (Frame.raise _ _ (Frame.refl _ _) (by decide) (by decide))) h8
  have h10 : Resynced dst s opened :=
    .ite (h9.frame (Frame.openAll _ _ (Frame.modStore _ _ (Frame.refl _ _) (by decide)) (by decide) (by decide) (by decide))) h9
  have h11 : Resynced dst s restarted := ⟨h10.sync, h10.stamp, h10.sys⟩
  exact h11.frame (Frame.trace _ _ _ _ _ _ _ (Frame.refl _ _) (by decide) (by decide))

@[simp] theorem State.followSync_whl (s : State) : s.followSync.whl = s.whl :=
  Frame.followSync s (Frame.refl s [.regs, .sys, .hif, .evc, .sch, .banks, .quads, .edges, .ink, .adc, .cmps, .nibs, .tst])
    (by decide) (by decide) (by decide) (by decide) (by decide) (by decide) (by decide) (by decide) (by decide) (by decide)
    (by decide) (by decide) (by decide) .whl (by decide)

@[simp] theorem State.mode_setMode (s : State) (m : Mode) : (s.setMode m).sys.mode = m := by
  unfold State.setMode
  split
  · assumption
  · extract_lets sys t
    split
    · exact congrArg Sys.mode (Frame.railsFresh t (Frame.refl t [.ink]) (by decide) .sys (by decide))
    · rfl

/-- A device in an engine mode goes to ARMED with a tracker that has gone idle; another mode stays. -/
theorem State.followSync_idle {s : State} (h : s.whl.sync = .idle) :
    s.followSync.sys.mode = if s.sys.mode.engine then .armed else s.sys.mode := by
  unfold State.followSync
  rw [h]
  split
  · extract_lets old new left sys ready moved fresh held
    have stays : fresh.sys = moved.sys := by
      unfold fresh
      split
      · exact Frame.boostFresh moved (Frame.refl moved [.quads]) (by decide) .sys (by decide)
      · rfl
    have mode : moved.sys.mode = .armed := ready.mode_setMode .armed
    have other : ¬ ((new = .half ∨ new = .full) ∧ old ≠ new ∧ held.sys.fbPend = true) := by
      rintro ⟨half | full, -⟩
      · exact nomatch half
      · exact nomatch full
    rw [if_neg other]
    exact (congrArg Sys.mode stays).trans mode
  · rfl

/-! Stalls (R53) -/

/-- What a stall leaves of the tracker (R55). -/
def Whl.stalled (w : Whl) : Whl :=
  { w with last := none, prov := none, ints := [], learnN := 0, learned := false, sinceCand := none, camSeek := [], gaps := 0, pos := 0,
           rev := false, coarse := false }

theorem exec_stall {s : State} (h : s.stallDue = true) :
    ∃ t, exec .stall s = .next t ∧ t.whl.sync = .idle ∧ t.whl.last = none ∧ t.whl.prov = none ∧ t.whl.pos = 0
      ∧ t.whl.stamp = s.whl.stamp
      ∧ (s.sys.mode.engine = true → t.sys.mode = .armed) ∧ (s.sys.mode.engine = false → t.sys.mode = s.sys.mode) := by
  have runs : s.whl.sync ≠ .idle := by
    intro idle
    unfold State.stallDue at h
    rw [idle] at h
    split at h
    · exact nomatch h
    · exact nomatch h
  obtain ⟨u, moved, sync, stamp, sys⟩ := State.syncAs_resynced (quiet := false) (input := 8) (t := s.now) runs
  have run : exec .stall s = .next (s.doStall.armedIf s.sys.mode) := rfl
  have armed : s.doStall.onlyIn (s.doStall.armedIf s.sys.mode) [.regs, .evc, .tmrs, .nibs, .slur] :=
    Frame.armedIf _ _ (Frame.refl _ _) (by decide) (by decide) (by decide) (by decide) (by decide)
  have whl : (s.doStall.armedIf s.sys.mode).whl = s.doStall.whl := armed .whl (by decide)
  have mode : (s.doStall.armedIf s.sys.mode).sys.mode = if s.sys.mode.engine then .armed else s.sys.mode := by
    have left : s.doStall.sys = u.followSync.sys := by
      unfold State.doStall State.sync
      rw [if_pos h, moved]
    have kept : (s.doStall.armedIf s.sys.mode).sys = s.doStall.sys := armed .sys (by decide)
    rw [kept, left, State.followSync_idle sync, sys]
  have stalled : s.doStall.whl = u.whl.stalled := by
    unfold State.doStall State.sync
    rw [if_pos h, moved]
    exact congrArg Whl.stalled (State.followSync_whl u)
  refine ⟨_, run, ?_, ?_, ?_, ?_, ?_, fun engine => ?_, fun other => ?_⟩
  · rw [whl, stalled]; exact sync
  · rw [whl, stalled]; rfl
  · rw [whl, stalled]; rfl
  · rw [whl, stalled]; rfl
  · rw [whl, stalled]; exact stamp
  · rw [mode, engine]; rfl
  · rw [mode, other]; rfl

/-! SYNC_RESET (R63) -/

theorem State.syncResetNow_restarts {s : State} (f : s.follower = false) (h : s.whl.sync ≠ .idle) :
    (s.syncResetNow).whl.sync = .seek ∧ (s.syncResetNow).whl.last = none ∧ (s.syncResetNow).whl.prov = none
      ∧ (s.syncResetNow).whl.stamp = s.whl.stamp ∧ (s.syncResetNow).whl.learned = false ∧ (s.syncResetNow).whl.ints = [] := by
  unfold State.syncResetNow
  rw [f, if_neg (by simpa using h)]
  by_cases seek : s.whl.sync = .seek
  · rw [if_pos seek]
    exact ⟨seek, rfl, rfl, rfl, rfl, rfl⟩
  · rw [if_neg seek]
    obtain ⟨u, moved, sync, stamp, -⟩ := State.syncAs_resynced (quiet := false) (input := 11) (t := s.now) seek
    have whl : (s.sync .seek 11 s.now).whl = u.whl := by
      unfold State.sync
      rw [moved, State.followSync_whl]
    unfold State.seekFrom
    rw [whl]
    exact ⟨sync, rfl, rfl, stamp, rfl, rfl⟩

theorem State.rowThere_whlCtrl {s : State} (h : s.crankUsable = true) : ∃ r, s.rowThere R.WHL_CTRL = some r ∧ r.woM = 0 :=
  ⟨_, State.rowThere_of_row (l := []) rfl rfl h, rfl⟩

/-- The write of another register leaves a follower a follower. -/
theorem HostWrote.follower {a : Nat} {s t : State} (h : HostWrote a s t) (k : R.SET_CFG ≠ a) : t.follower = s.follower := by
  have part : t.part = s.part := h.frame .part (by decide)
  have word : t.word R.SET_CFG = s.word R.SET_CFG := h.word _ k
  have flag (f : Fld) (hf : f.a = R.SET_CFG) : t.flag f = s.flag f := by
    unfold State.flag State.get
    rw [hf, word]
  unfold State.follower
  rw [part, flag F.SET_CFG_EN rfl, flag F.SET_CFG_ROLE rfl]

theorem State.touch_follower (p : Port) (s : State) : (s.touch p).follower = s.follower := by
  have part : (s.touch p).part = s.part := Frame.touch s p (Frame.refl s [.sec]) (by decide) .part (by decide)
  unfold State.follower State.flag
  rw [part, State.touch_get, State.touch_get]

theorem exec_syncReset {p : Port} {v : Word} {s : State} (ho : s.portOpen = true) (hc : s.crankUsable = true)
    (hr : s.isInstaller p = true) (bit : v.bit 3 = true) (f : s.follower = false) (h : s.whl.sync ≠ .idle) :
    ∃ t, exec (.syncReset p v) s = .next t ∧ t.whl.sync = .seek ∧ t.whl.last = none ∧ t.whl.prov = none ∧ t.whl.stamp = s.whl.stamp
      ∧ t.whl.learned = false ∧ t.whl.ints = [] := by
  obtain ⟨r, row, noMaker⟩ := State.rowThere_whlCtrl hc
  obtain ⟨u, run, wrote, -⟩ := HostWrote.busWrite ho row hr noMaker v
    (fun s => if v.bit 3 && s.isInstaller p then s.syncResetNow else s)
  have installer : u.isInstaller p = true := by rw [wrote.isInstaller, State.touch_isInstaller, hr]
  have whl : u.whl = s.whl :=
    Frame.trans (Frame.touch s p (Frame.refl s [.regs, .sec]) (by decide)) (Frame.mono wrote.frame (by decide)) .whl (by decide)
  have acts : s.syncResetWrite p v = u.syncResetNow := run.trans (if_pos (by rw [bit, installer]; rfl))
  obtain ⟨sync, last, prov, stamp, learned, ints⟩ := State.syncResetNow_restarts (s := u)
    (by rw [wrote.follower (by decide), State.touch_follower, f]) (by rw [whl]; exact h)
  rw [← acts] at sync last prov stamp learned ints
  exact ⟨s.syncResetWrite p v, rfl, sync, last, prov, by rw [stamp, whl], learned, ints⟩

/-! The clock's clamp and wrap (R74, R77) -/

theorem exec_clockClamp {s : State} (hok : s.ok) (h : s.clampDue = true) :
    ∃ t, exec .clockClamp s = .next t ∧ t.ang = { s.ang with clamped := true, frac := 0 }
      ∧ t.get F.WHL_CLAMP_CNT_COUNT = min (s.get F.WHL_CLAMP_CNT_COUNT + 1) 0xFFFF
      ∧ s.onlyWords t [R.WHL_CLAMP_CNT] ∧ s.onlyIn t [.regs, .ang] := by
  have run : exec .clockClamp s = .next (({ s with ang := { s.ang with clamped := true, frac := 0 } } : State).count F.WHL_CLAMP_CNT_COUNT) :=
    congrArg Host.Outcome.next (if_pos h)
  exact ⟨_, run, rfl, State.get_count _ F.WHL_CLAMP_CNT_COUNT (Kept.refl hok).regs.live (by decide),
    ((State.onlyWords.refl _ _).of_regs rfl).count (by decide),
    Frame.count _ _ (Frame.with_ang (Frame.refl s _) (by decide)) (by decide)⟩

@[simp] theorem State.angleMoved_ang (d : Int) (s : State) : (s.angleMoved d).ang = s.ang :=
  Frame.angleMoved d s (Frame.refl s [.sys, .adc, .tmrs]) (by decide) (by decide) (by decide) .ang (by decide)

@[simp] theorem State.angleMoved_whl (d : Int) (s : State) : (s.angleMoved d).whl = s.whl :=
  Frame.angleMoved d s (Frame.refl s [.sys, .adc, .tmrs]) (by decide) (by decide) (by decide) .whl (by decide)

/-- An update of the tracker and the clock at once. -/
theorem Frame.with_whl_ang {o s : State} {l : List Piece} {w : Whl} {a : Ang} (h : o.onlyIn s l) (kw : Piece.whl ∈ l)
    (ka : Piece.ang ∈ l) : o.onlyIn { s with whl := w, ang := a } l :=
  Frame.with_whl (s := { s with ang := a }) (Frame.with_ang h ka) kw

/-- The clock's way changes the clock, the tracker's captures, and what waits for its angles. -/
theorem State.moveClock_frame (d : Int) (s : State) : s.onlyIn (s.moveClock d) [.sys, .whl, .ang, .adc, .tmrs] := by
  have moved : s.onlyIn (s.angleMoved d) [.sys, .whl, .ang, .adc, .tmrs] :=
    Frame.angleMoved _ _ (Frame.refl s _) (by decide) (by decide) (by decide)
  have wrapped : s.onlyIn (s.angleMoved d).wrapCycle [.sys, .whl, .ang, .adc, .tmrs] := by
    unfold State.wrapCycle
    exact Frame.with_whl_ang moved (by decide) (by decide)
  unfold State.moveClock
  extract_lets
  split
  · exact Frame.with_ang moved (by decide)
  · split
    · exact Frame.with_ang wrapped (by decide)
    · exact Frame.with_ang moved (by decide)

/-- A clock that moves one at from the last angle of its cycle begins the next one. -/
theorem State.moveClock_wraps {s : State} (h : s.ang.at' = 2949119) :
    s.moveClock 1 = { (s.angleMoved 1).wrapCycle with ang := { (s.angleMoved 1).wrapCycle.ang with at' := 0, frac := 0 } } := by
  have there : (((s.angleMoved 1).ang.at' : Int) + 1) = (cycleAt : Int) := by
    rw [State.angleMoved_ang, h]
    rfl
  unfold State.moveClock
  extract_lets u t v w
  have atCycle : t = (cycleAt : Int) := there
  rw [if_neg (by rw [atCycle]; decide), if_pos (by rw [atCycle])]
  have zero : t.toNat % cycleAt = 0 := by
    rw [atCycle]
    rfl
  rw [zero]

theorem exec_cycleWrap {s : State} (runs : s.clockRuns = true) (free : s.ang.clamped = false) (h : s.ang.at' = 2949119)
    (next : s.ang.next ≠ 0) :
    ∃ t, exec .cycleWrap s = .next t ∧ t.ang = { s.ang with at' := 0, frac := 0, tag := (s.ang.tag + 1) % 256 }
      ∧ t.whl.camK = List.replicate 4 0 ∧ t.whl.sync = s.whl.sync ∧ t.whl.pos = s.whl.pos
      ∧ s.onlyIn t [.sys, .whl, .ang, .adc, .tmrs] := by
  have run : exec .cycleWrap s = .next (s.moveClock 1) := congrArg Host.Outcome.next (if_pos (by
    simp only [runs, free, h, next, ne_eq, not_false_eq_true, decide_true, Bool.not_false, Bool.and_true, Bool.true_and]
    decide))
  refine ⟨_, run, ?_, ?_, ?_, ?_, ?_⟩
  · rw [State.moveClock_wraps h]
    show ({ (s.angleMoved 1).ang with tag := ((s.angleMoved 1).ang.tag + 1) % 256, at' := 0, frac := 0 } : Ang) = _
    rw [State.angleMoved_ang]
  · rw [State.moveClock_wraps h]
    rfl
  · rw [State.moveClock_wraps h]
    show (s.angleMoved 1).whl.sync = s.whl.sync
    rw [State.angleMoved_whl]
  · rw [State.moveClock_wraps h]
    show (s.angleMoved 1).whl.pos = s.whl.pos
    rw [State.angleMoved_whl]
  · exact s.moveClock_frame 1

/-- Settles O19: each of the four operations on its own; a sync transition moves the tracker and nothing else of it, and the mode
follows. -/
theorem stallsClampsAndWraps : Obligations.StallsClampsAndWraps := by
  unfold Obligations.StallsClampsAndWraps
  exact ⟨fun _ _ h => exec_stall h, fun _ _ _ _ ho hc hr bit f h => exec_syncReset ho hc hr bit f h, fun _ hok h => exec_clockClamp hok h,
    fun _ runs free h next => exec_cycleWrap runs free h next⟩

end Sys2Proof.Machine
end

section
/-! PROOFS. Crank edges (R39, R41, R43, R48, R67, R69). -/

namespace Sys2Proof.Machine

/-! The words that a telemetry record writes (R306, R329) -/

theorem State.lose_onlyWords (r : Nat) (trk : Bool) (s : State) : s.onlyWords (s.lose r trk) lossWords := by
  have noted (g : Gap) : s.onlyWords (s.modRing r (fun x => { x with gap := some g })) lossWords := .of_regs (.refl s _) rfl
  unfold State.lose
  exact .ite ((noted _).count (by decide)) ((noted _).count (by decide))

theorem State.stageTele_onlyWords (n : Nat) (words : List Word) (ev : Option Nat) (trk : Bool) (s : State) :
    s.onlyWords (s.stageTele n words ev trk) lossWords := by
  unfold State.stageTele
  split
  · exact .of_regs (.refl s _) rfl
  · exact s.lose_onlyWords _ _

theorem State.stageClose_onlyWords (t : Nat) (x : Shut) (s : State) : s.onlyWords (s.stageClose t x) lossWords := by
  unfold State.stageClose
  extract_lets adc u
  exact .ite (.refl s _) (.ite (s.lose_onlyWords _ _) (.trans (.of_regs (.refl s _) rfl) (u.stageTele_onlyWords _ _ _ _)))

theorem State.reshut_onlyWords (t : Nat) (x y : Shut) (s : State) : s.onlyWords (s.reshut t x y) lossWords := by
  unfold State.reshut
  extract_lets u
  have noted : s.onlyWords u lossWords := .of_regs (.refl s _) rfl
  exact .ite (noted.of_regs rfl) (noted.trans (u.stageClose_onlyWords t y))

theorem State.sample_onlyWords (t : Nat) (v : Int) (epoch : Nat) (s : State) : s.onlyWords (s.sample t v epoch) lossWords := by
  have set (w : Win) : s.onlyWords (s.setWin t w) lossWords := .of_regs (.refl s _) rfl
  unfold State.sample
  extract_lets w
  split
  · exact .ite (.ite (set _) (s.reshut_onlyWords _ _ _)) (.refl s _)
  · exact .ite (.ite (set _) (set _)) (.refl s _)

/-- The words that a tooth error writes (R78). -/
def toothErrorWords : List Nat := [R.WHL_ERR_LAST, R.WHL_ERR_MIN, R.WHL_ERR_MAX] ++ lossWords

theorem State.toothError_onlyWords (t prev : Tb) (pos : Nat) (s : State) : s.onlyWords (s.toothError t prev pos) toothErrorWords := by
  unfold State.toothError
  extract_lets e u last lo hi least most
  have h1 : s.onlyWords last toothErrorWords := (State.onlyWords.set (.refl s _) _ (by decide)).set _ (by decide)
  have h2 : s.onlyWords least toothErrorWords := .ite ((h1.set _ (by decide)).set _ (by decide)) h1
  have h3 : s.onlyWords most toothErrorWords := .ite ((h2.set _ (by decide)).set _ (by decide)) h2
  exact .ite (h3.trans ((most.sample_onlyWords _ _ _).mono (by decide))) h3

/-! Weights (R67) -/

/-- A register of the core or the hidden word of a table lies outside what a tooth error writes. -/
theorem terrAddr_not_toothErrorWords (i : Nat) : terrAddr i ∉ toothErrorWords := by
  have below : ∀ a ∈ toothErrorWords, a < 0x100000 := by decide
  intro h
  have small := below _ h
  unfold terrAddr at small
  omega

/-- The weight of an interval reads the tables, and which of them are active (R67, R82). -/
theorem State.onlyWords.weight_eq {s t : State} (h : s.onlyWords t toothErrorWords) (whl : t.whl = s.whl) (ang : t.ang = s.ang)
    (c : EdgeClass) (k : Nat) (rev : Bool) : t.weight c k rev = s.weight c k rev := by
  have table (i : Nat) : t.tableD i = s.tableD i := by
    unfold State.tableD
    rw [h.word_eq (terrAddr_not_toothErrorWords i)]
  have on : t.torsOn = s.torsOn := by
    unfold State.torsOn
    rw [h.flag_eq (by decide), whl, ang]
  have n : t.teethN = s.teethN := h.get_eq (by decide)
  have m : t.teethM = s.teethM := h.get_eq (by decide)
  have factor (k : Nat) : t.factor k rev = s.factor k rev := by
    unfold State.factor State.torsD
    rw [table, on, table, n]
  cases c <;> simp only [State.weight, factor, m]

/-! What an accepted edge leaves of its own tooth -/

/-- From s to t the tooth that the tracker has taken, its stamp, the sync state and both normalised intervals stay. -/
structure SameTooth (s t : State) : Prop where
  pos : t.whl.pos = s.whl.pos
  last : t.whl.last = s.whl.last
  stamp : t.whl.stamp = s.whl.stamp
  sync : t.whl.sync = s.whl.sync
  u1 : t.ang.u1 = s.ang.u1
  u2 : t.ang.u2 = s.ang.u2

section
variable {s t u : State}

theorem SameTooth.refl (s : State) : SameTooth s s := ⟨rfl, rfl, rfl, rfl, rfl, rfl⟩

theorem SameTooth.trans (h : SameTooth s t) (k : SameTooth t u) : SameTooth s u :=
  ⟨k.pos.trans h.pos, k.last.trans h.last, k.stamp.trans h.stamp, k.sync.trans h.sync, k.u1.trans h.u1, k.u2.trans h.u2⟩

theorem SameTooth.of_eq (whl : t.whl = s.whl) (ang : t.ang = s.ang) : SameTooth s t := by
  constructor <;> simp only [whl, ang]

theorem SameTooth.ite {c : Prop} [Decidable c] {x y : State} (h : SameTooth s x) (k : SameTooth s y) : SameTooth s (if c then x else y) := by
  split <;> assumption

/-- An operation on registers and events alone. -/
theorem SameTooth.frame {l : List Piece} (h : s.onlyIn t l) (kw : Piece.whl ∉ l) (ka : Piece.ang ∉ l) : SameTooth s t :=
  .of_eq (h .whl kw) (h .ang ka)

end

theorem State.moveClock_sameTooth (d : Int) (s : State) : SameTooth s (s.moveClock d) := by
  have moved : SameTooth s (s.angleMoved d) := .of_eq (State.angleMoved_whl d s) (State.angleMoved_ang d s)
  obtain ⟨pos, last, stamp, sync, u1, u2⟩ := moved
  unfold State.moveClock
  extract_lets
  split
  · exact ⟨pos, last, stamp, sync, u1, u2⟩
  · split
    · exact ⟨pos, last, stamp, sync, u1, u2⟩
    · exact ⟨pos, last, stamp, sync, u1, u2⟩

theorem State.learnEntry_frame (i : Nat) (x lim : Int) (s : State) : s.onlyIn (s.learnEntry i x lim) [.regs] :=
  Frame.learnEntry i x lim s (Frame.refl s _) (by decide)

theorem State.learn_sameTooth (clean : Bool) (interval span : Nat) (s : State) : SameTooth s (s.learn clean interval span) := by
  unfold State.learn
  extract_lets k n tr ok a noted x entry tors
  have h1 : SameTooth s noted := ⟨rfl, rfl, rfl, rfl, rfl, rfl⟩
  have h2 : SameTooth s entry := h1.trans (.frame (noted.learnEntry_frame _ _ _) (by decide) (by decide))
  have h3 : SameTooth s tors := .ite (h2.trans (.frame (entry.learnEntry_frame _ _ _) (by decide) (by decide))) h2
  exact .ite (.ite (h3.trans (.of_eq rfl rfl)) h3) h1

/-- The clock under a new pitch, rate and correction (R73, R75). -/
def State.paced (sat : Bool) (p rate a next adv frac : Nat) (s : State) : State :=
  let s : State := if sat then s.set F.WHL_ACLK_STAT_P_SAT 1 else s
  let s : State := { s with ang := { s.ang with p := p, rate := rate, pitchA := a, next := next } }
  let s : State := s.endClamp.moveClock adv
  { s with ang := { s.ang with frac := if adv = a - 1 then 0 else frac } }

theorem State.setPitch_paced (t : Tb) (s : State) : ∃ sat p rate a next adv frac, s.setPitch t = s.paced sat p rate a next adv frac :=
  ⟨_, _, _, _, _, _, _, rfl⟩

theorem State.paced_sameTooth (sat : Bool) (p rate a next adv frac : Nat) (s : State) :
    SameTooth s (s.paced sat p rate a next adv frac) := by
  unfold State.paced
  extract_lets sat a0 pitched moved
  have h1 : SameTooth s sat := .ite (.of_eq rfl rfl) (.refl s)
  have h2 : SameTooth s pitched := h1.trans ⟨rfl, rfl, rfl, rfl, rfl, rfl⟩
  have h3 : SameTooth s pitched.endClamp := h2.trans ⟨rfl, rfl, rfl, rfl, rfl, rfl⟩
  have h4 : SameTooth s moved := h3.trans (pitched.endClamp.moveClock_sameTooth _)
  exact h4.trans ⟨rfl, rfl, rfl, rfl, rfl, rfl⟩

theorem State.setPitch_sameTooth (t : Tb) (s : State) : SameTooth s (s.setPitch t) := by
  obtain ⟨sat, p, rate, a, next, adv, frac, run⟩ := s.setPitch_paced t
  rw [run]
  exact s.paced_sameTooth sat p rate a next adv frac

theorem State.backStep_sameTooth (s : State) : SameTooth s s.backStep :=
  .frame (Frame.backStep s (Frame.refl s [.sch, .ink]) (by decide) (by decide)) (by decide) (by decide)

theorem State.followTooth_sameTooth (c : EdgeClass) (clean : Bool) (t : Tb) (interval : Nat) (rev : Bool) (s : State) :
    SameTooth s (s.followTooth c clean t interval rev) := by
  unfold State.followTooth
  extract_lets d a0 moved w turned stepped learned pitched
  have h1 : SameTooth s moved := s.moveClock_sameTooth d
  have h2 : SameTooth s turned := h1.trans ⟨rfl, rfl, rfl, rfl, rfl, rfl⟩
  have h3 : SameTooth s stepped := .ite (h2.trans (.of_eq rfl rfl)) h2
  have h4 : SameTooth s (stepped.revolve c t) := h3.trans ⟨rfl, rfl, rfl, rfl, rfl, rfl⟩
  have h5 : SameTooth s learned := h4.trans ((stepped.revolve c t).learn_sameTooth _ _ _)
  have h6 : SameTooth s (learned.torsUpdate (c == .gap)) := h5.trans ⟨rfl, rfl, rfl, rfl, rfl, rfl⟩
  have h7 : SameTooth s pitched := h6.trans ((learned.torsUpdate (c == .gap)).setPitch_sameTooth t)
  exact .ite (h7.trans pitched.backStep_sameTooth) h7

/-! The words that an accepted edge may write -/

/-- The counts and table entries that the clock's way, learning and the pitch may write, where learning is at entries i and j. -/
def followWords (i j : Nat) : List Nat :=
  [R.WHL_ACLK_STAT, R.WHL_RETREAT_CNT, R.WHL_LEARN_CNT, R.WHL_CLAMP_TIME, terrAddr i, terrFrac i, terrAddr j, terrFrac j]

theorem camRef_not_followWords (i j : Nat) : R.WHL_CAMREF ∉ followWords i j := by
  have apart (n : Nat) : R.WHL_CAMREF ≠ terrAddr n ∧ R.WHL_CAMREF ≠ terrFrac n := by
    unfold R.WHL_CAMREF terrAddr terrFrac
    omega
  obtain ⟨ai, fi⟩ := apart i
  obtain ⟨aj, fj⟩ := apart j
  simp only [followWords, List.mem_cons, List.not_mem_nil, or_false, ai, fi, aj, fj]
  decide

theorem State.learnEntry_onlyWords {l : List Nat} (i : Nat) (x lim : Int) (s : State) (stat : R.WHL_ACLK_STAT ∈ l) (addr : terrAddr i ∈ l)
    (frac : terrFrac i ∈ l) : s.onlyWords (s.learnEntry i x lim) l := by
  unfold State.learnEntry
  extract_lets cur wt new hi cut u
  have h : s.onlyWords u l := .ite (.refl s _) ((State.onlyWords.refl s l).set _ stat)
  exact .ite (.refl s _) ((h.putWord _ addr).putWord _ frac)

theorem State.learn_onlyWords (clean : Bool) (interval span : Nat) (s : State) :
    ∃ i j, s.onlyWords (s.learn clean interval span) (followWords i j) := by
  unfold State.learn
  extract_lets k n tr ok a noted x entry tors
  refine ⟨k, 256 + k + if entry.whl.rev then n else 0, ?_⟩
  have h1 (l : List Nat) : s.onlyWords noted l := .of_regs (.refl s _) rfl
  generalize hj : (256 + k + if entry.whl.rev then n else 0) = j
  have h2 : s.onlyWords entry (followWords k j) :=
    (h1 _).trans (noted.learnEntry_onlyWords _ _ _ (by simp [followWords]) (by simp [followWords]) (by simp [followWords]))
  have h3 : s.onlyWords tors (followWords k j) := by
    refine .ite (h2.trans (entry.learnEntry_onlyWords _ _ _ ?_ ?_ ?_)) h2
    · simp [followWords]
    · rw [hj]
      simp [followWords]
    · rw [hj]
      simp [followWords]
  exact .ite (.ite (h3.count (f := F.WHL_LEARN_CNT_COUNT) (by simp [followWords])) h3) (h1 _)

/-- An operation that leaves the registers. -/
theorem State.onlyWords.of_eq {o s t : State} {l : List Nat} (h : o.onlyWords s l) (k : t.regs = s.regs) : o.onlyWords t l :=
  h.of_regs (by rw [k])

theorem State.moveClock_onlyWords (d : Int) (s : State) (l : List Nat) : s.onlyWords (s.moveClock d) l :=
  .of_eq (.refl s l) (s.moveClock_frame d .regs (by decide))

theorem State.setPitch_onlyWords (t : Tb) (s : State) : s.onlyWords (s.setPitch t) [R.WHL_ACLK_STAT, R.WHL_CLAMP_TIME] := by
  obtain ⟨sat, p, rate, a, next, adv, frac, run⟩ := s.setPitch_paced t
  rw [run]
  unfold State.paced
  extract_lets sat a0 pitched moved
  have h1 : s.onlyWords sat [R.WHL_ACLK_STAT, R.WHL_CLAMP_TIME] := .ite ((State.onlyWords.refl s _).set _ (by decide)) (.refl s _)
  have h2 : s.onlyWords pitched.endClamp [R.WHL_ACLK_STAT, R.WHL_CLAMP_TIME] :=
    State.onlyWords.addSat (f := F.WHL_CLAMP_TIME_TIME) (h1.of_regs rfl) _ (by decide)
  exact (h2.trans (pitched.endClamp.moveClock_onlyWords _ _)).of_regs rfl

theorem State.followTooth_onlyWords (c : EdgeClass) (clean : Bool) (t : Tb) (interval : Nat) (rev : Bool) (s : State) :
    ∃ i j, s.onlyWords (s.followTooth c clean t interval rev) (followWords i j) := by
  unfold State.followTooth
  extract_lets d a0 moved w turned stepped learned pitched
  obtain ⟨i, j, learns⟩ := (stepped.revolve c t).learn_onlyWords clean interval (if c = .gap then stepped.teethM + 1 else 1)
  have sub : ∀ a ∈ [R.WHL_ACLK_STAT, R.WHL_CLAMP_TIME], a ∈ followWords i j := by simp [followWords]
  have h1 : s.onlyWords turned (followWords i j) := (s.moveClock_onlyWords d _).of_regs rfl
  have h2 : s.onlyWords stepped (followWords i j) :=
    .ite ((h1.set _ (by simp [followWords])).count (by simp [followWords])) h1
  have h3 : s.onlyWords learned (followWords i j) := (h2.of_regs (t := stepped.revolve c t) rfl).trans learns
  have h4 : s.onlyWords pitched (followWords i j) :=
    (h3.of_regs (t := learned.torsUpdate (c == .gap)) rfl).trans (((learned.torsUpdate (c == .gap)).setPitch_onlyWords t).mono sub)
  have back : pitched.backStep.regs = pitched.regs := Frame.backStep pitched (Frame.refl _ [.sch, .ink]) (by decide) (by decide) .regs (by decide)
  exact ⟨i, j, .ite (h4.of_eq back) h4⟩

/-! A tooth taken (R43, R67, R69) -/

/-- In u the tracker has taken the tooth after that of s at the stamp t, with the normalised interval x. -/
structure NextTooth (s : State) (t : Tb) (x : Nat) (u : State) : Prop where
  pos : u.whl.pos = s.whl.pos + 1
  last : u.whl.last = some t
  stamp : u.whl.stamp = some t
  sync : u.whl.sync = s.whl.sync
  u2 : u.ang.u2 = s.ang.u1
  u1 : u.ang.u1 = x

theorem NextTooth.same {s u v : State} {t : Tb} {x : Nat} (h : NextTooth s t x u) (k : SameTooth u v) : NextTooth s t x v :=
  ⟨k.pos.trans h.pos, k.last.trans h.last, k.stamp.trans h.stamp, k.sync.trans h.sync, k.u2.trans h.u2, k.u1.trans h.u1⟩

/-- A NORMAL edge takes the next tooth and forms its interval. -/
theorem State.takeTooth_normal {s : State} (gap : s.atGap = false) (t : Tb) (interval : Nat) :
    NextTooth s t (normU interval (s.weight .normal (s.whl.pos + 1) s.whl.rev)) (s.takeTooth .normal true t interval)
      ∧ (s.takeTooth .normal true t interval).flag F.WHL_CAMREF_REF_EN = s.flag F.WHL_CAMREF_REF_EN := by
  have pos : s.edgePos .normal = s.whl.pos + 1 := by
    unfold State.edgePos
    rw [gap]
    rfl
  have frame := Frame.toothError t (s.whl.last.getD t) (s.whl.pos + 1) s (Frame.refl s [.regs, .hif, .adc]) (by decide) (by decide) (by decide)
  have words := s.toothError_onlyWords t (s.whl.last.getD t) (s.whl.pos + 1)
  have whl : (s.toothError t (s.whl.last.getD t) (s.whl.pos + 1)).whl = s.whl := frame .whl (by decide)
  have ang : (s.toothError t (s.whl.last.getD t) (s.whl.pos + 1)).ang = s.ang := frame .ang (by decide)
  unfold State.takeTooth
  simp only [pos, if_true]
  generalize s.toothError t (s.whl.last.getD t) (s.whl.pos + 1) = e at words whl ang
  have sync : e.whl.sync = s.whl.sync := congrArg Whl.sync whl
  have u1 : e.ang.u1 = s.ang.u1 := congrArg Ang.u1 ang
  have weight : e.weight .normal (s.whl.pos + 1) (e.edgeRev (s.whl.pos + 1)) = s.weight .normal (s.whl.pos + 1) s.whl.rev := by
    rw [words.weight_eq whl ang]
    unfold State.edgeRev
    rw [if_neg (by omega), whl]
  exact ⟨⟨rfl, rfl, rfl, sync, u1, congrArg (normU interval) weight⟩, words.flag_eq (f := F.WHL_CAMREF_REF_EN) (by decide)⟩

/-! Accepted edges (Table 2.3) -/

theorem State.edgeWork_sameTooth (s : State) : SameTooth s s.edgeWork := by
  unfold State.edgeWork
  extract_lets locked coasted
  have h1 : SameTooth s locked := .of_eq rfl rfl
  have h2 : SameTooth s coasted := .ite (h1.trans (.of_eq rfl rfl)) h1
  exact h2.trans (.frame (Frame.rekeyAll coasted (Frame.refl _ [.ink]) (by decide)) (by decide) (by decide))

/-- Without a reference cam the phase is not judged (R57). -/
theorem State.judgeCam_sameTooth {s : State} (t : Tb) (h : s.flag F.WHL_CAMREF_REF_EN = false) : SameTooth s (s.judgeCam t) := by
  unfold State.judgeCam
  cases judge : s.whl.judge with
  | none => exact .refl s
  | some v =>
    simp only [State.flag, State.get, State.word] at h ⊢
    rw [h]
    exact ⟨rfl, rfl, rfl, rfl, rfl, rfl⟩

theorem State.countClass_normal (s : State) : s.countClass .normal = s := rfl
theorem State.judgeEdge_normal (t : Tb) (s : State) : s.judgeEdge .normal t = s := rfl

/-- An accepted edge that is no second error in SUSPECT (Table 2.3). -/
theorem State.accept_of_moves {s : State} {c : EdgeClass} (h : ¬ (s.whl.sync = .suspect ∧ (c = .bad ∨ c = .gapMismatch))) (conf : Bool)
    (t : Tb) : s.accept c conf t =
      ((((((s.takeTooth c ((c == .normal || c == .gap) && !conf) t (elapsed (s.whl.last.getD t) t)).followTooth c
        ((c == .normal || c == .gap) && !conf) t (elapsed (s.whl.last.getD t) t) (s.edgeRev (s.edgePos c))).countClass c).judgeEdge c
        t).judgeAgain s.ang.tag).judgeCam t).edgeWork := by
  unfold State.accept
  rw [if_neg h]

/-- A NORMAL edge moves the tracker, and the cam phase and the scheduler follow. -/
theorem State.accept_of_normal {s : State} {l : Tb} (last : s.whl.last = some l) (t : Tb) :
    s.accept .normal false t = ((((s.takeTooth .normal true t (elapsed l t)).followTooth .normal true t (elapsed l t)
      (s.edgeRev (s.edgePos .normal))).judgeAgain s.ang.tag).judgeCam t).edgeWork := by
  have clean : ((EdgeClass.normal == .normal || EdgeClass.normal == .gap) && !false) = true := rfl
  rw [State.accept_of_moves (by simp), last, Option.getD_some, clean, State.countClass_normal, State.judgeEdge_normal]

theorem State.followTooth_refEn (c : EdgeClass) (clean : Bool) (t : Tb) (interval : Nat) (rev : Bool) (s : State) :
    (s.followTooth c clean t interval rev).flag F.WHL_CAMREF_REF_EN = s.flag F.WHL_CAMREF_REF_EN := by
  obtain ⟨i, j, words⟩ := s.followTooth_onlyWords c clean t interval rev
  exact words.flag_eq (camRef_not_followWords i j)

/-- What an accepted edge does after the clock has followed it leaves its tooth. -/
theorem State.judged_sameTooth {s : State} (cam : s.flag F.WHL_CAMREF_REF_EN = false) (tag : Nat) (t : Tb) :
    SameTooth s ((s.judgeAgain tag).judgeCam t).edgeWork := by
  have again : SameTooth s (s.judgeAgain tag) := ⟨rfl, rfl, rfl, rfl, rfl, rfl⟩
  exact (again.trans (State.judgeCam_sameTooth (s := s.judgeAgain tag) t cam)).trans (State.edgeWork_sameTooth _)

/-- A NORMAL edge moves the tracker to the next tooth, and its interval is the new U1. -/
theorem State.accept_normal {s : State} (gap : s.atGap = false) (cam : s.flag F.WHL_CAMREF_REF_EN = false) {l : Tb}
    (last : s.whl.last = some l) (t : Tb) :
    NextTooth s t (normU (elapsed l t) (s.weight .normal (s.whl.pos + 1) s.whl.rev)) (s.accept .normal false t) := by
  obtain ⟨taken, unused⟩ := State.takeTooth_normal gap t (elapsed l t)
  rw [cam] at unused
  rw [State.accept_of_normal last t]
  exact (taken.same (State.followTooth_sameTooth _ _ _ _ _ _)).same
    (State.judged_sameTooth ((State.followTooth_refEn _ _ _ _ _ _).trans unused) _ _)

/-! Crank edges (R39, R41, R48) -/

/-- An edge that ends the idle count of R410. -/
def State.awake (s : State) : State := { s with sys := { s.sys with idleSince := none } }

theorem State.weight_awake (s : State) (c : EdgeClass) (k : Nat) (rev : Bool) : s.awake.weight c k rev = s.weight c k rev :=
  State.onlyWords.weight_eq (.of_eq (.refl s _) rfl) rfl rfl c k rev

/-- An edge of the selected direction, on an input in digital mode. -/
theorem exec_crankEdge {x : CrankStamp} {width peak : Nat} {s : State} (edge : s.flag F.WHL_CTRL_CRK_EDGE = x.rising)
    (tracks : s.tracking = true) (mode : s.flag F.WHL_CTRL_CRK_MODE = false) :
    exec (.crankEdge x width peak) s = .next (State.awake
      (if width < s.get F.WHL_MINW_MINW * 8 then s.count F.WHL_GLITCH_CNT_COUNT else s.awake.exactEdge x.t)) := by
  have run : exec (.crankEdge x width peak) s
      = .next (if s.flag F.WHL_CTRL_CRK_EDGE != x.rising then s else (s.crank x.t width peak).awake) := rfl
  have acts : s.crank x.t width peak
      = if width < s.get F.WHL_MINW_MINW * 8 then s.count F.WHL_GLITCH_CNT_COUNT else s.awake.exactEdge x.t := by
    unfold State.crank
    rw [tracks, mode]
    rfl
  rw [run, edge, if_neg (by simp), acts]

/-- An edge whose tracker knows its position and has no provisional edge is classified. -/
theorem State.exactEdge_of_runs {s : State} (runs : s.clockRuns = true) (prov : s.whl.prov = none) {l : Tb} (last : s.whl.last = some l)
    (t : Tb) : s.awake.exactEdge t
      = s.awake.take (s.classKnown s.atGap (ratio (elapsed l t) s.ang.p)) (ratio (elapsed l t) s.ang.p) (elapsed l t) t := by
  have classify : s.awake.exactEdge t = s.awake.classify t := by
    unfold State.exactEdge
    have prov' : s.awake.whl.prov = none := prov
    rw [prov']
    unfold State.clockRuns at runs
    show (match s.whl.sync with | .idle => _ | .seek => _ | _ => _) = _
    cases sync : s.whl.sync with
    | idle => rw [sync] at runs; exact nomatch runs
    | seek => rw [sync] at runs; exact nomatch runs
    | half => rfl
    | full => rfl
    | suspect => rfl
  rw [classify]
  unfold State.classify
  have runs' : s.awake.clockRuns = true := runs
  have last' : s.awake.whl.last = some l := last
  rw [runs', last']
  rfl

theorem crankEdge_glitch {x : CrankStamp} {width peak : Nat} {s : State} (hok : s.ok) (edge : s.flag F.WHL_CTRL_CRK_EDGE = x.rising)
    (tracks : s.tracking = true) (mode : s.flag F.WHL_CTRL_CRK_MODE = false) (short : width < s.get F.WHL_MINW_MINW * 8) :
    ∃ t, exec (.crankEdge x width peak) s = .next t
      ∧ t.get F.WHL_GLITCH_CNT_COUNT = min (s.get F.WHL_GLITCH_CNT_COUNT + 1) 0xFFFF
      ∧ s.onlyWords t [R.WHL_GLITCH_CNT] ∧ t.sys = { s.sys with idleSince := none } ∧ s.onlyIn t [.regs, .sys] := by
  refine ⟨_, exec_crankEdge edge tracks mode, ?_⟩
  rw [if_pos short]
  exact ⟨State.get_count s F.WHL_GLITCH_CNT_COUNT (Kept.refl hok).regs.live (by decide),
    ((State.onlyWords.refl s _).count (f := F.WHL_GLITCH_CNT_COUNT) (by decide)).of_regs rfl, rfl,
    Frame.with_sys (Frame.count s F.WHL_GLITCH_CNT_COUNT (Frame.refl s _) (by decide)) (by decide)⟩

theorem crankEdge_reject {x : CrankStamp} {width peak : Nat} {l : Tb} {s : State} (hok : s.ok)
    (edge : s.flag F.WHL_CTRL_CRK_EDGE = x.rising) (tracks : s.tracking = true) (mode : s.flag F.WHL_CTRL_CRK_MODE = false)
    (long : s.get F.WHL_MINW_MINW * 8 ≤ width) (runs : s.clockRuns = true) (prov : s.whl.prov = none) (last : s.whl.last = some l)
    (low : ratio (elapsed l x.t) s.ang.p < s.twLo s.whl.crankSet) :
    ∃ t, exec (.crankEdge x width peak) s = .next t
      ∧ t.get F.WHL_REJ_CNT_COUNT = min (s.get F.WHL_REJ_CNT_COUNT + 1) 0xFFFF ∧ s.onlyIn t [.regs, .sys, .hif] := by
  refine ⟨_, exec_crankEdge edge tracks mode, ?_⟩
  have reject : s.classKnown s.atGap (ratio (elapsed l x.t) s.ang.p) = .reject := if_pos low
  rw [if_neg (by omega), State.exactEdge_of_runs runs prov last, reject]
  generalize ratio (elapsed l x.t) s.ang.p = r
  have run : s.awake.take .reject r (elapsed l x.t) x.t = (s.awake.count F.WHL_REJ_CNT_COUNT).toothTrace .reject r x.t := by
    unfold State.take
    exact if_pos runs
  rw [run]
  have traced := ((State.onlyWords.refl (s.awake.count F.WHL_REJ_CNT_COUNT) traceWords).trace 0 0
    ((if (s.awake.count F.WHL_REJ_CNT_COUNT).clockRuns then (s.awake.count F.WHL_REJ_CNT_COUNT).whl.pos else 0) + EdgeClass.reject.code * 256)
    x.t r (s.awake.count F.WHL_REJ_CNT_COUNT).clockWord (by decide))
  refine ⟨(traced.get_eq (f := F.WHL_REJ_CNT_COUNT) (by decide)).trans
    (State.get_count s.awake F.WHL_REJ_CNT_COUNT (Kept.refl hok).regs.live (by decide)), ?_⟩
  have counted : s.onlyIn (s.awake.count F.WHL_REJ_CNT_COUNT) [.regs, .sys, .hif] :=
    Frame.count _ _ (Frame.with_sys (Frame.refl s _) (by decide)) (by decide)
  exact Frame.with_sys (Frame.toothTrace _ _ _ _ counted (by decide) (by decide)) (by decide)

theorem crankEdge_normal {x : CrankStamp} {width peak : Nat} {l : Tb} {s : State}
    (edge : s.flag F.WHL_CTRL_CRK_EDGE = x.rising) (tracks : s.tracking = true) (mode : s.flag F.WHL_CTRL_CRK_MODE = false)
    (long : s.get F.WHL_MINW_MINW * 8 ≤ width) (runs : s.clockRuns = true) (prov : s.whl.prov = none) (last : s.whl.last = some l)
    (cam : s.flag F.WHL_CAMREF_REF_EN = false) (gap : s.atGap = false)
    (normal : s.classKnown false (ratio (elapsed l x.t) s.ang.p) = .normal) :
    ∃ t, exec (.crankEdge x width peak) s = .next t ∧ t.whl.pos = s.whl.pos + 1 ∧ t.whl.last = some x.t ∧ t.whl.stamp = some x.t
      ∧ t.whl.sync = s.whl.sync ∧ t.ang.u2 = s.ang.u1
      ∧ t.ang.u1 = normU (elapsed l x.t) (s.weight .normal (s.whl.pos + 1) s.whl.rev) := by
  refine ⟨_, exec_crankEdge edge tracks mode, ?_⟩
  rw [if_neg (by omega), State.exactEdge_of_runs runs prov last, gap, normal]
  generalize ratio (elapsed l x.t) s.ang.p = r
  have run : s.awake.take .normal r (elapsed l x.t) x.t = (s.awake.accept .normal false x.t).toothTrace .normal r x.t := by
    unfold State.take
    exact if_pos runs
  rw [run]
  have taken : NextTooth s.awake x.t (normU (elapsed l x.t) (s.awake.weight .normal (s.whl.pos + 1) s.whl.rev))
      (s.awake.accept .normal false x.t) := State.accept_normal (s := s.awake) gap cam last x.t
  rw [s.weight_awake] at taken
  have traced : SameTooth (s.awake.accept .normal false x.t) ((s.awake.accept .normal false x.t).toothTrace .normal r x.t) :=
    .frame (Frame.toothTrace _ _ _ _ (Frame.refl _ [.regs, .hif]) (by decide) (by decide)) (by decide) (by decide)
  obtain ⟨pos, last, stamp, sync, u2, u1⟩ := taken.same traced
  exact ⟨pos, last, stamp, sync, u2, u1⟩

/-- Settles O17: what follows the class of an accepted edge leaves the tooth that it took, and a rejected edge only counts. -/
theorem crankEdgesMoveTheTracker : Obligations.CrankEdgesMoveTheTracker := by
  unfold Obligations.CrankEdgesMoveTheTracker
  refine ⟨fun x width peak s other => congrArg Host.Outcome.next (if_pos (by simpa using other)),
    fun _ _ _ _ hok edge tracks mode short => crankEdge_glitch hok edge tracks mode short,
    fun _ _ _ _ _ hok edge tracks mode long runs prov last low => crankEdge_reject hok edge tracks mode long runs prov last low,
    fun _ _ _ _ _ _ edge tracks mode long runs prov last cam gap normal =>
      crankEdge_normal edge tracks mode long runs prov last cam gap normal⟩

end Sys2Proof.Machine
end

section
/-! PROOFS. Admission of NEW descriptors (R98, Table 4.3). -/

namespace Sys2Proof.Machine

/-- The words that the watch of the store writes: the lowest FREE, and the counts of alarm 18 (R304, R307). -/
def storeWords : List Nat := R.SCH_FREE_LOW :: alarmWordsOf 18

theorem State.onlyWords.watchStore {o s : State} {l : List Nat} (h : o.onlyWords s l) (k : ∀ a ∈ storeWords, a ∈ l) :
    o.onlyWords s.watchStore l := by
  have alarms : ∀ a ∈ alarmWordsOf 18, a ∈ l := fun a ha => k a (List.mem_cons_of_mem _ ha)
  unfold State.watchStore
  extract_lets f low res hif1 normal hif2
  have h1 : o.onlyWords low l := .ite (h.set _ (k _ (by decide))) h
  have stalls (b : Bool) : o.onlyWords { low with hif := { low.hif with normalStall := b } } l := h1.of_regs rfl
  have h2 : o.onlyWords normal l := .ite ((stalls _).alarm _ _ _ _ alarms) (.ite ((stalls _).alarm _ _ _ _ alarms) h1)
  have urgent (b : Bool) : o.onlyWords { normal with hif := { normal.hif with urgentStall := b } } l := h2.of_regs rfl
  exact .ite ((urgent _).alarm _ _ _ _ alarms) (.ite ((urgent _).alarm _ _ _ _ alarms) h2)

/-- An admitted event is its descriptor's: channel, source, TAG, phrase, duration and, where the descriptor names a cycle, its place. -/
theorem State.admitNew_placed (src : Nat) (d : Descriptor) (count : Nat) (s : State) :
    ∃ e, (s.admitNew src d count).sch.store = s.sch.store ++ [e] ∧ e.ch = d.ch ∧ e.src = src ∧ e.tag = d.w1 ∧ e.phase = .waiting
      ∧ e.phrase = d.phrase ∧ e.dur = d.dur ∧ (d.tagged = true → e.ang = d.ang ∧ e.ctag = d.ctag) := by
  obtain ⟨half, ran, start, conv, h⟩ := s.convertEvent_eq (s.newEvent s.freeId src d count)
  refine ⟨_, State.admitNew_store src d count s, ?_⟩
  rw [h]
  refine ⟨rfl, rfl, rfl, rfl, rfl, rfl, fun tagged => ?_⟩
  have place : (if d.tagged then (d.ang, d.ctag) else s.angleAt (s.nearest d.ch d.ang cycleAt)) = (d.ang, d.ctag) := if_pos tagged
  exact ⟨congrArg Prod.fst place, congrArg Prod.snd place⟩

/-- The store before the watch, with the descriptor's event and the next free number. -/
def State.admitted (src : Nat) (d : Descriptor) (count : Nat) (s : State) : State :=
  { s with sch := { s.sch with store := s.sch.store ++ [s.convertEvent (s.newEvent s.freeId src d count)],
                               nextId := (s.freeId + 1) % 16384 } }

theorem State.admitNew_eq (src : Nat) (d : Descriptor) (count : Nat) (s : State) :
    s.admitNew src d count = ((s.admitted src d count).count F.SCH_ADMIT_CNT_COUNT).watchStore := rfl

theorem State.admitNew_count {s : State} (hok : s.ok) (src : Nat) (d : Descriptor) (count : Nat) :
    (s.admitNew src d count).get F.SCH_ADMIT_CNT_COUNT = min (s.get F.SCH_ADMIT_CNT_COUNT + 1) 0xFFFFFFFF := by
  have watched := (State.onlyWords.refl ((s.admitted src d count).count F.SCH_ADMIT_CNT_COUNT) storeWords).watchStore (fun _ h => h)
  rw [State.admitNew_eq]
  exact (watched.get_eq (f := F.SCH_ADMIT_CNT_COUNT) (by decide)).trans
    (State.get_count (s.admitted src d count) F.SCH_ADMIT_CNT_COUNT (Kept.refl hok).regs.live (by decide))

theorem RingKept.admitNew {q : Nat} {s : State} (hok : s.ok) (hq : q < 8) (src : Nat) (d : Descriptor) (count : Nat) :
    RingKept q s (s.admitNew src d count) := by
  obtain ⟨wf, results, rings, cfg⟩ := RingKept.refl (q := q) hok
  have stored : RingKept q s (s.admitted src d count) := ⟨wf, results, rings, cfg⟩
  exact .watchStore hq (stored.count (by simp only [R.HIF_RCFG, R.SCH_ADMIT_CNT]; omega))

/-- The ring of a served SQ moves on by one. -/
theorem RingKept.advance_idx {q : Nat} {s t : State} (hok : s.ok) (hq : q < 8) (h : RingKept q s t) :
    ((t.advance q).ring q).idx = ((s.ring q).idx + 1) % s.ringSize q := by
  have rings : t.hif.rings.length = 19 := by
    rw [h.rings]
    exact Hif.shaped_rings (Kept.refl hok).hif
  rw [State.advance_idx (by omega), h.ring, h.ringSize]

theorem State.submit_new {d : Descriptor} (h : d.op = 0) (src : Nat) (s : State) : s.submit src d = s.newOp src d := by
  simp [State.submit, h]

theorem State.newOp_of_admitted {s : State} {d : Descriptor} (h : s.admitCheck d 0 = none) (src : Nat) :
    s.newOp src d = s.admitNew src d 0 := by
  simp only [State.newOp, h]

theorem State.newOp_of_rejected {s : State} {d : Descriptor} {c : Nat} (h : s.admitCheck d 0 = some c) (src : Nat) :
    s.newOp src d = s.reject src d c := by
  simp only [State.newOp, h]

theorem exec_new_admitted {sq : Nat} {d : Descriptor} {s : State} (hok : s.ok) (hr : s.sqReady sq = true) (hop : d.op = 0)
    (passes : s.admitCheck d 0 = none) :
    ∃ t e, exec (.new sq d) s = .next t ∧ t.sch.store = s.sch.store ++ [e]
      ∧ e.ch = d.ch ∧ e.src = sq ∧ e.tag = d.w1 ∧ e.phase = .waiting ∧ e.phrase = d.phrase ∧ e.dur = d.dur
      ∧ (d.tagged = true → e.ang = d.ang ∧ e.ctag = d.ctag)
      ∧ t.get F.SCH_ADMIT_CNT_COUNT = min (s.get F.SCH_ADMIT_CNT_COUNT + 1) 0xFFFFFFFF
      ∧ (t.ring sq).idx = ((s.ring sq).idx + 1) % s.ringSize sq ∧ t.hif.results = s.hif.results ∧ s.onlyIn t [.regs, .hif, .sch] := by
  have hq : sq < 8 := State.sq_lt_of_sqReady hr
  have run : exec (.new sq d) s = .next ((s.admitNew sq d 0).advance sq) :=
    congrArg Host.Outcome.next (by rw [State.arrive_of_ready hr, State.submit_new hop, State.newOp_of_admitted passes])
  obtain ⟨e, store, ch, src, tag, phase, phrase, dur, place⟩ := s.admitNew_placed sq d 0
  have kept : RingKept sq s (s.admitNew sq d 0) := .admitNew hok hq sq d 0
  have frame : s.onlyIn ((s.admitNew sq d 0).advance sq) [.regs, .hif, .sch] :=
    Frame.advance sq _ (Frame.admitNew sq d 0 s (Frame.refl s _) (by decide) (by decide) (by decide)) (by decide)
  have count := State.admitNew_count hok sq d 0
  generalize s.admitNew sq d 0 = u at run store kept frame count
  have store' : (u.advance sq).sch.store = s.sch.store ++ [e] := by rw [State.advance_sch, store]
  exact ⟨u.advance sq, e, run, store', ch, src, tag, phase, phrase, dur, place, count, kept.advance_idx hok hq, kept.results, frame⟩

theorem exec_new_rejected {sq c : Nat} {d : Descriptor} {s : State} (hok : s.ok) (hr : s.sqReady sq = true) (hop : d.op = 0)
    (fails : s.admitCheck d 0 = some c) :
    ∃ t, exec (.new sq d) s = .next t ∧ t.sch = s.sch
      ∧ t.hif.results = s.hif.results ++ [{ cq := s.get (F.HIF_RCFG_CQ sq), words := shortResult c d.ch sq 0 d.w1 }]
      ∧ t.get F.SCH_REJ_CNT_COUNT = min (s.get F.SCH_REJ_CNT_COUNT + 1) 0xFFFFFFFF
      ∧ (t.ring sq).idx = ((s.ring sq).idx + 1) % s.ringSize sq ∧ s.onlyWords t [R.SCH_REJ_CNT] ∧ s.onlyIn t [.regs, .hif] := by
  have hq : sq < 8 := State.sq_lt_of_sqReady hr
  have run : s.arrive sq d = (s.reject sq d c).advance sq := by
    rw [State.arrive_of_ready hr, State.submit_new hop, State.newOp_of_rejected fails]
  have short : s.reject sq d c
      = (s.pushResult (s.get (F.HIF_RCFG_CQ sq)) (shortResult c d.ch sq 0 d.w1)).count F.SCH_REJ_CNT_COUNT :=
    congrArg (State.count · F.SCH_REJ_CNT_COUNT) (State.short_of_sq hq c d.ch 0 d.w1 s)
  have wf : s.regs.live.wf = true := (Kept.refl hok).regs.live
  have words : s.onlyWords (s.reject sq d c) [R.SCH_REJ_CNT] := by
    rw [short]
    exact State.onlyWords.count (f := F.SCH_REJ_CNT_COUNT) (.of_eq (.refl s _) rfl) (by decide)
  have idx : (((s.reject sq d c).advance sq).ring sq).idx = ((s.ring sq).idx + 1) % s.ringSize sq := by
    have rings : (s.reject sq d c).hif.rings = s.hif.rings := by
      rw [short]
      rfl
    have size : (s.reject sq d c).ringSize sq = s.ringSize sq :=
      congrArg (2 ^ ·) (words.get_eq (f := F.HIF_RCFG_LOG2SZ sq)
        (by simp only [List.mem_singleton, R.HIF_RCFG, R.SCH_REJ_CNT]; omega))
    have length : (s.reject sq d c).hif.rings.length = 19 := by
      rw [rings]
      exact Hif.shaped_rings (Kept.refl hok).hif
    have ring : (s.reject sq d c).ring sq = s.ring sq := by
      unfold State.ring
      rw [rings]
    rw [State.advance_idx (by omega), ring, size]
  refine ⟨_, congrArg Host.Outcome.next run, ?_, ?_, ?_, idx, words.of_eq rfl,
    Frame.advance sq _ (Frame.reject sq d c s (Frame.refl s _) (by decide) (by decide)) (by decide)⟩
  · rw [State.advance_sch, State.reject_sch]
  · rw [State.advance_results, short]
    rfl
  · show (s.reject sq d c).get F.SCH_REJ_CNT_COUNT = _
    rw [short]
    exact State.get_count (s.pushResult _ _) F.SCH_REJ_CNT_COUNT wf (by decide)

/-! The order of the checks (Table 4.3) -/

section
variable {d : Descriptor} {s : State}

theorem admitCheck_absent (h : s.chThere d.ch = false) : s.admitCheck d 0 = some 13 := by
  simp [State.admitCheck, h, Code.absent]

theorem admitCheck_badAnchor (h : s.chThere d.ch = true) (bad : d.anchor = 3 ∨ 2949120 ≤ d.ang ∨ d.dur = 0) :
    s.admitCheck d 0 = some 15 := by
  have fails : d.anchor = 3 ∨ cycleAt ≤ d.ang ∨ d.dur = 0 ∨ (d.durAngle ∧ cycleAt < d.dur) := by
    obtain anchor | ang | dur := bad
    · exact .inl anchor
    · exact .inr (.inl ang)
    · exact .inr (.inr (.inl dur))
  unfold State.admitCheck
  dsimp only
  rw [if_neg (by simp [h]), if_pos fails]
  rfl

/-- The anchor, the angle and a duration in time pass their check. -/
theorem anchor_passes (anchor : d.anchor < 3) (ang : d.ang < 2949120) (dur : 0 < d.dur) (time : d.durAngle = false) :
    ¬ (d.anchor = 3 ∨ cycleAt ≤ d.ang ∨ d.dur = 0 ∨ (d.durAngle ∧ cycleAt < d.dur)) := by
  have cycle : cycleAt = 2949120 := rfl
  rw [time, cycle]
  simp only [Bool.false_eq_true, false_and, or_false]
  omega

theorem admitCheck_badPhrase (h : s.chThere d.ch = true) (anchor : d.anchor < 3) (ang : d.ang < 2949120) (dur : 0 < d.dur)
    (time : d.durAngle = false) (drive : s.liveMode d.ch ≠ 4)
    (kind : s.get (F.REED_PDIR_KIND (d.ch / 24) d.phrase) ≠ s.liveMode d.ch) : s.admitCheck d 0 = some 14 := by
  unfold State.admitCheck
  dsimp only
  rw [if_neg (by simp [h]), if_neg (anchor_passes anchor ang dur time), if_pos ⟨drive, kind⟩]
  rfl

theorem admitCheck_queueFull (h : s.chThere d.ch = true) (anchor : d.anchor < 3) (ang : d.ang < 2949120) (dur : 0 < d.dur)
    (time : d.durAngle = false) (logic : s.liveMode d.ch = 4)
    (full : min (s.get (F.SCH_CHCFG_QMAX d.ch) + 1) 64 ≤ s.depth d.ch) : s.admitCheck d 0 = some 16 := by
  unfold State.admitCheck
  dsimp only
  rw [if_neg (by simp [h]), if_neg (anchor_passes anchor ang dur time), if_neg (fun k => k.1 logic), Nat.sub_zero, if_pos full]
  rfl

end

/-- Settles O21: NEW by the two outcomes of its check, and the order of Table 4.3 check by check. -/
theorem newIsAdmittedOrRejected : Obligations.NewIsAdmittedOrRejected := by
  unfold Obligations.NewIsAdmittedOrRejected
  exact ⟨fun _ _ _ hok hr hop passes => exec_new_admitted hok hr hop passes,
    fun _ _ _ _ hok hr hop fails => exec_new_rejected hok hr hop fails,
    fun d s => ⟨admitCheck_absent, admitCheck_badAnchor, admitCheck_badPhrase, admitCheck_queueFull⟩⟩

end Sys2Proof.Machine
end

section
/-! PROOFS. The release of waiting events, STALE, and the anchors of angle-plus-delay events (R101, R110, R111, R125, R143). -/

namespace Sys2Proof.Machine

/-! The event that a release sees (R104, R201) -/

theorem State.halved_ids (s : State) (e : Event) : (s.halved e).id = e.id ∧ (s.halved e).ch = e.ch := by
  unfold State.halved
  split <;> exact ⟨rfl, rfl⟩

theorem State.prepared_ids (s : State) (e : Event) : (s.prepared e).id = e.id ∧ (s.prepared e).ch = e.ch := by
  unfold State.prepared
  extract_lets x
  split
  · exact s.halved_ids x
  · exact ⟨rfl, rfl⟩

/-! The checks of R143 -/

/-- Buckets that are off neither refuse an event nor cut it. -/
theorem dutyLimit_of_off {l : List Bucket} (h : ∀ k ∈ l, k.on = false) (start d : Nat) (cut : Bool) :
    dutyLimit start l d cut = some (d, cut) := by
  induction l with
  | nil => rfl
  | cons k l ih =>
    unfold dutyLimit
    rw [if_neg (by simp [h k (List.mem_cons_self ..)])]
    exact ih fun x hx => h x (List.mem_cons_of_mem _ hx)

theorem State.dutyCheck_of_off {s : State} {e : Event} (chan : s.flag (F.SCH_LIM_EN e.ch) = false)
    (bank : s.flag (F.SCH_BKDUTY_EN (e.ch / 4)) = false) : s.dutyCheck e = (.goes e false, s) := by
  have off : ∀ k ∈ s.bucketsOf e.ch, k.on = false := by
    simp [State.bucketsOf, chan, bank]
  unfold State.dutyCheck
  rw [dutyLimit_of_off off]

theorem State.inkCheck_of_off {s : State} (h : s.flag F.INK_CTRL_EN = false) (e : Event) : s.inkCheck e = (.goes e false, s) := by
  unfold State.inkCheck
  extract_lets b used at'
  rw [if_pos (by simp [h])]

@[simp] theorem State.releaseTrace_sch (e : Event) (code : Nat) (forced : Bool) (s : State) :
    (s.releaseTrace e code forced).sch = s.sch :=
  Frame.releaseTrace e code forced s (Frame.refl s [.regs, .hif]) (by decide) (by decide) .sch (by decide)

@[simp] theorem State.releaseTrace_results (e : Event) (code : Nat) (forced : Bool) (s : State) :
    (s.releaseTrace e code forced).hif.results = s.hif.results := by
  unfold State.releaseTrace State.trace
  split
  · split
    · split <;> rfl
    · rfl
  · rfl

theorem State.releaseTrace_onlyWords (e : Event) (code : Nat) (forced : Bool) (s : State) :
    s.onlyWords (s.releaseTrace e code forced) traceWords :=
  .ite ((State.onlyWords.refl s _).trace _ _ _ _ _ _ (by decide)) (.refl s _)

/-- The event that a release takes goes through it where no check holds it up. -/
theorem State.release_of_passes {n : Nat} {e : Event} {s : State} (next : s.releasable n = some e) (ink : s.flag F.INK_CTRL_EN = false)
    (chan : s.flag (F.SCH_LIM_EN e.ch) = false) (bank : s.flag (F.SCH_BKDUTY_EN (e.ch / 4)) = false)
    (fresh : s.projStart (s.prepared e) < 0 → s.isStale (s.prepared e) 0 = false) (thread : s.threadsTaken (s.prepared e) = false) :
    ∃ code, s.release n
      = (s.modEvent e.id (fun _ => { s.prepared e with phase := .released })).releaseTrace (s.prepared e) code false := by
  obtain ⟨id, ch⟩ := s.prepared_ids e
  have timely : ¬ (s.projStart (s.prepared e) < 0 ∧ s.isStale (s.prepared e) 0 = true) := by
    rintro ⟨past, stale⟩
    rw [fresh past] at stale
    exact nomatch stale
  have duty : s.dutyCheck (s.prepared e) = (.goes (s.prepared e) false, s) :=
    State.dutyCheck_of_off (by rw [ch, chan]) (by rw [ch, bank])
  refine ⟨if (s.prepared e).flags.subst then Code.substituted else if (s.prepared e).flags.shifted then Code.shifted else 0, ?_⟩
  unfold State.release
  simp only [next, if_neg timely, State.inkCheck_of_off ink, duty, thread, Bool.false_eq_true, if_false, id]

theorem exec_eventRelease_released {n : Nat} {e : Event} {s : State} (next : s.releasable n = some e) (ink : s.flag F.INK_CTRL_EN = false)
    (chan : s.flag (F.SCH_LIM_EN e.ch) = false) (bank : s.flag (F.SCH_BKDUTY_EN (e.ch / 4)) = false)
    (fresh : s.projStart (s.prepared e) < 0 → s.isStale (s.prepared e) 0 = false) (thread : s.threadsTaken (s.prepared e) = false) :
    ∃ t, exec (.eventRelease n) s = .next t
      ∧ t.sch.store = s.sch.store.map (fun x => if x.id == e.id then { s.prepared e with phase := .released } else x)
      ∧ t.sch.chans = s.sch.chans ∧ s.onlyIn t [.regs, .hif, .sch] := by
  obtain ⟨code, run⟩ := State.release_of_passes next ink chan bank fresh thread
  refine ⟨_, congrArg Host.Outcome.next run, ?_, ?_, ?_⟩
  · rw [State.releaseTrace_sch]
    rfl
  · rw [State.releaseTrace_sch]
    rfl
  · exact Frame.releaseTrace _ _ _ _ (Frame.modEvent _ _ _ (Frame.refl s _) (by decide)) (by decide) (by decide)

/-! Events that leave with a result (R125, R143) -/

/-- The words that a refusal may write. -/
theorem State.refuse_onlyWords (e : Event) (code : Nat) (s : State) : s.onlyWords (s.refuse e code) storeWords := by
  have short (u : State) : (u.short code e.ch e.src e.count e.tag).regs = u.regs := by
    unfold State.short
    split <;> rfl
  unfold State.refuse
  extract_lets u
  have h : s.onlyWords u storeWords := .of_eq (.refl s _) rfl
  refine .ite ?_ (h.of_eq rfl)
  exact State.onlyWords.watchStore (h.of_eq (t := (u.short code e.ch e.src e.count e.tag).dropEvent e.id) (short u)) (fun _ k => k)

/-- With room in results staging a refused event leaves the store at once. -/
theorem State.refuse_store {s : State} (room : s.hif.results.length < 512) (e : Event) (code : Nat) :
    (s.refuse e code).sch.store = s.sch.store.filter (fun x => x.id != e.id) := by
  unfold State.refuse
  extract_lets u
  have free : (decide (u.hif.results.length < resultRoom) || !u.resultWanted e.src) = true := by
    have fits : u.hif.results.length < resultRoom := room
    rw [decide_eq_true fits, Bool.true_or]
  rw [if_pos free, State.watchStore_sch]
  exact congrArg (fun x : Sch => x.store.filter (fun x => x.id != e.id)) (State.short_sch code e.ch e.src e.count e.tag u)

theorem exec_eventRelease_stale {n : Nat} {e : Event} {s : State} (hok : s.ok) (next : s.releasable n = some e)
    (past : s.projStart (s.prepared e) < 0) (stale : s.isStale (s.prepared e) 0 = true) (room : s.hif.results.length < 512) :
    ∃ t, exec (.eventRelease n) s = .next t ∧ t.sch.store = s.sch.store.filter (fun x => x.id != e.id)
      ∧ t.get F.SCH_STALE_CNT_COUNT = min (s.get F.SCH_STALE_CNT_COUNT + 1) 0xFFFFFFFF
      ∧ s.onlyIn t [.regs, .hif, .sch, .banks, .ink] := by
  obtain ⟨id, -⟩ := s.prepared_ids e
  have run : s.release n = (s.count F.SCH_STALE_CNT_COUNT).refuseRelease (s.prepared e) Code.stale := by
    unfold State.release
    simp only [next, if_pos (And.intro past stale)]
  generalize hu : (s.count F.SCH_STALE_CNT_COUNT).releaseTrace (s.prepared e) Code.stale false = u
  have results : u.hif.results = s.hif.results := by rw [← hu, State.releaseTrace_results]; rfl
  have store : u.sch = s.sch := by rw [← hu, State.releaseTrace_sch]; rfl
  have count : u.get F.SCH_STALE_CNT_COUNT = min (s.get F.SCH_STALE_CNT_COUNT + 1) 0xFFFFFFFF := by
    rw [← hu, (State.releaseTrace_onlyWords _ _ _ _).get_eq (by decide)]
    exact State.get_count s F.SCH_STALE_CNT_COUNT (Kept.refl hok).regs.live (by decide)
  have outcome : exec (.eventRelease n) s = .next (u.refuse (s.prepared e) Code.stale) :=
    congrArg Host.Outcome.next (by rw [run, ← hu]; rfl)
  have frame : s.onlyIn u [.regs, .hif, .sch, .banks, .ink] := by
    rw [← hu]
    exact Frame.releaseTrace _ _ _ _ (Frame.count _ _ (Frame.refl s _) (by decide)) (by decide) (by decide)
  refine ⟨_, outcome, ?_, ?_, Frame.refuse _ _ _ frame (by decide) (by decide) (by decide) (by decide) (by decide)⟩
  · rw [State.refuse_store (by rw [results]; exact room), store, id]
  · rw [(State.refuse_onlyWords _ _ u).get_eq (by decide), count]

/-! Anchors (R101) -/

theorem exec_anchorAngleReached {n : Nat} {s : State} (runs : s.clockRuns = true) :
    ∃ t, exec (.anchorAngleReached n) s = .next t ∧ t.sch.store.length = s.sch.store.length
      ∧ (∀ i (h : i < s.sch.store.length) (k : i < t.sch.store.length), let e := s.sch.store[i]
          if e.ch = n ∧ e.unstarted = true ∧ e.anchor = 2 ∧ e.start = .angle ∧ s.halfHold e = false ∧ s.anchorDist e ≤ 0
          then t.sch.store[i] = { s.halved e with start := .time (tbAdd s.now e.delay) } else t.sch.store[i] = e)
      ∧ t.sch.chans = s.sch.chans ∧ s.onlyIn t [.sch] := by
  refine ⟨_, congrArg Host.Outcome.next (if_pos runs), List.length_map .., fun i h k => ?_, rfl, Frame.modStore _ _ (Frame.refl s _) (by decide)⟩
  intro e
  have entry : ∀ f, (s.modStore f).sch.store[i]'(by simpa [State.modStore] using h) = f e := fun f => List.getElem_map ..
  rw [entry]
  have same : (e.ch == n && e.unstarted && e.anchor == 2 && e.onAngle && !s.halfHold e && decide (s.anchorDist e ≤ 0)) = true
      ↔ e.ch = n ∧ e.unstarted = true ∧ e.anchor = 2 ∧ e.start = .angle ∧ s.halfHold e = false ∧ s.anchorDist e ≤ 0 := by
    simp [Event.onAngle, and_assoc]
  by_cases c : e.ch = n ∧ e.unstarted = true ∧ e.anchor = 2 ∧ e.start = .angle ∧ s.halfHold e = false ∧ s.anchorDist e ≤ 0
  · rw [if_pos c]
    exact if_pos (same.mpr c)
  · rw [if_neg c]
    exact if_neg (fun h => c (same.mp h))

/-- Settles O23: the release by its checks, STALE by the refusal, and the anchors event by event. -/
theorem releaseAndAnchor : Obligations.ReleaseAndAnchor := by
  unfold Obligations.ReleaseAndAnchor
  exact ⟨fun _ _ _ _ next ink chan bank fresh thread => exec_eventRelease_released next ink chan bank fresh thread,
    fun _ _ _ hok next past stale room => exec_eventRelease_stale hok next past stale room,
    fun _ _ runs => exec_anchorAngleReached runs⟩

end Sys2Proof.Machine
end

section
/-! PROOFS. EVENT_START beside a regulating thread of the bank (R126, R128, R183, R186): the bank settles in the same command. -/

namespace Sys2Proof.Machine

/-- A released event of channel 0 that is due, and a running one of channel 1 that has not begun. -/
def latchedEvent : Event :=
  { State.reset.newEvent 5 0 ⟨0, 0, 0, 0, 0, 0, 0, 0⟩ 0 with phase := .released, start := .time 64 }
def chopEvent : Event := { State.reset.newEvent 7 0 ⟨0, 0, 0, 0, 0, 0, 0, 0⟩ 0 with ch := 1, phase := .running }

/-- The running event's thread waits in a REG that chops GL. -/
def chopThread : Thread := { Thread.initial with run := true, ev := 7, ch := 1, wait := .reg true 0 0 0 }

/-- In FULL, channel 0 holds its trip latch while the thread regulates on channel 1 of its bank. -/
def besideRegulation : State :=
  (({ State.reset with
      sys := { State.reset.sys with mode := .full },
      whl := { State.reset.whl with sync := .full },
      clk := { State.reset.clk with dieTrained := true },
      sch := { State.reset.sch with store := [latchedEvent, chopEvent] } } : State).modChan 0
    (fun c => { c with oc := true })).modThread 0 0 (fun _ => chopThread)

theorem besideRegulation_ok : besideRegulation.ok :=
  (Kept.modThread _ _ _ _ (Kept.modChan _ _ _ (Kept.refl ⟨by decide, resetIsSound.2⟩))).ok

/-- The latched channel's event leaves; the regulating thread turns its GL on, which begins the other event. -/
theorem besideRegulation_begins :
    ((besideRegulation.comeDue 0).settleBank 0).sch.store.map (fun e => (e.id, e.begun)) = [(7, true)] := by decide

theorem besideRegulation_stood :
    (besideRegulation.sch.store.filter (fun x => x.id != latchedEvent.id)).map (fun e => (e.id, e.begun)) = [(7, false)] := by decide

/-- Refutes O24: where the due event of a latched channel leaves, the rest of the store need not stay, for a thread of the bank that
regulates turns its GL on in the same command, and that first edge begins its event (besideRegulation). -/
theorem not_dueEventsStartOrWait : ¬ Obligations.DueEventsStartOrWait := by
  unfold Obligations.DueEventsStartOrWait
  rintro ⟨-, -, -, leaves, -, -⟩
  obtain ⟨t, run, store, -⟩ := leaves 0 latchedEvent besideRegulation besideRegulation_ok (by decide) (by decide) (by decide) (by decide)
    (by decide) (by decide) (by decide) (by decide) (by decide)
  have same : (besideRegulation.comeDue 0).settleBank 0 = t := Host.Outcome.next.inj run
  have begun := besideRegulation_begins
  rw [same, store, besideRegulation_stood] at begun
  exact absurd begun (by decide)

end Sys2Proof.Machine
end

section
/-! PROOFS. What the gates of a bank and its regulating threads leave of the threads (R157, R186, R195): their place in the phrase,
their waits, their times, and the boost token. -/

namespace Sys2Proof.Machine

/-! Reading a thread -/

theorem State.thread_modBank_same {s : State} {b : Nat} (hb : b < s.banks.length) (f : Bank → Bank) (t : Nat) :
    (s.modBank b f).thread b t = (f (s.bank b)).threads.getD t Thread.initial := by
  unfold State.thread
  rw [State.bank_modBank, if_pos ⟨rfl, hb⟩]

theorem State.thread_modBank_of_threads {s : State} {f : Bank → Bank} (h : ∀ k, (f k).threads = k.threads) (b c t : Nat) :
    (s.modBank b f).thread c t = s.thread c t := by
  unfold State.thread
  rw [State.bank_modBank]
  split
  · rw [h]
  · rfl

theorem State.thread_modThread {s : State} (hok : BanksOk s.banks) {b t : Nat} (hb : b < 24) (ht : t < 2) (f : Thread → Thread) :
    (s.modThread b t f).thread b t = f (s.thread b t) := by
  obtain ⟨banks, shaped⟩ := hok
  have two : (s.bank b).threads.length = 2 := BanksOk.getD ⟨banks, shaped⟩ b
  unfold State.modThread
  rw [State.thread_modBank_same (by omega)]
  exact (modAt_getD _ _ _ _ _).trans (if_pos ⟨rfl, by omega⟩)

theorem State.thread_modThread_other {s : State} {b t c d : Nat} (h : c ≠ b ∨ d ≠ t) (f : Thread → Thread) :
    (s.modThread b t f).thread c d = s.thread c d := by
  unfold State.modThread State.thread
  rw [State.bank_modBank]
  split
  · next same =>
    obtain ⟨rfl, -⟩ := same
    have other : d ≠ t := h.resolve_left (fun k => k rfl)
    exact (modAt_getD _ _ _ _ _).trans (if_neg (fun k => other k.1.symm))
  · rfl

theorem State.token_modThread (s : State) (b t c : Nat) (f : Thread → Thread) : ((s.modThread b t f).bank c).token = (s.bank c).token := by
  unfold State.modThread
  rw [State.bank_modBank]
  split <;> rfl

/-! What stands -/

/-- From k to k' a thread keeps all but the switches that it commands, its off phase and the note of a turn-off. -/
def Thread.Stands (k k' : Thread) : Prop :=
  k' = { k with ls := k'.ls, hb := k'.hb, offUntil := k'.offUntil, turnedOff := k'.turnedOff }

theorem Thread.Stands.refl (k : Thread) : k.Stands k := rfl

theorem Thread.Stands.trans {a b c : Thread} (h : a.Stands b) (k : b.Stands c) : a.Stands c := by
  unfold Thread.Stands at h k ⊢
  rw [k, h]

/-- From s to u every thread stands, and so does each bank's token. -/
structure ThreadsStand (s u : State) : Prop where
  thread : ∀ b t, (s.thread b t).Stands (u.thread b t)
  token : ∀ b, (u.bank b).token = (s.bank b).token

section
variable {o s t u : State}

theorem ThreadsStand.refl (s : State) : ThreadsStand s s := ⟨fun _ _ => rfl, fun _ => rfl⟩

theorem ThreadsStand.trans (h : ThreadsStand o s) (k : ThreadsStand s t) : ThreadsStand o t :=
  ⟨fun b t => (h.thread b t).trans (k.thread b t), fun b => (k.token b).trans (h.token b)⟩

/-- An operation that leaves the banks. -/
theorem ThreadsStand.of_eq (h : ThreadsStand o s) (k : t.banks = s.banks) : ThreadsStand o t := by
  have bank (b : Nat) : t.bank b = s.bank b := by
    unfold State.bank
    rw [k]
  refine ⟨fun b t' => ?_, fun b => by rw [bank, h.token]⟩
  have same : t.thread b t' = s.thread b t' := by
    unfold State.thread
    rw [bank]
  rw [same]
  exact h.thread b t'

theorem ThreadsStand.frame {l : List Piece} (h : ThreadsStand o s) (k : s.onlyIn t l) (out : Piece.banks ∉ l) : ThreadsStand o t :=
  h.of_eq (k .banks out)

theorem ThreadsStand.ite {c : Prop} [Decidable c] {x y : State} (h : ThreadsStand o x) (k : ThreadsStand o y) :
    ThreadsStand o (if c then x else y) := by
  split <;> assumption

theorem ThreadsStand.foldl {α : Type} {f : State → α → State} (step : ∀ s x, ThreadsStand o s → ThreadsStand o (f s x)) (xs : List α)
    (h : ThreadsStand o s) : ThreadsStand o (xs.foldl f s) := by
  induction xs generalizing s with
  | nil => exact h
  | cons x xs ih => exact ih (step s x h)

theorem ThreadsStand.modThread (h : ThreadsStand o s) (b t : Nat) {f : Thread → Thread} (k : ∀ x : Thread, x.Stands (f x)) :
    ThreadsStand o (s.modThread b t f) := by
  refine ⟨fun c d => ?_, fun c => (State.token_modThread s b t c f).trans (h.token c)⟩
  unfold State.modThread State.thread
  rw [State.bank_modBank]
  split
  · refine Thread.Stands.trans (h.thread c d) ?_
    rw [modAt_getD]
    split
    · exact k _
    · exact .refl _
  · exact h.thread c d

/-- A bank's operation that leaves its threads and its token. -/
theorem ThreadsStand.modBank (h : ThreadsStand o s) (b : Nat) {f : Bank → Bank} (threads : ∀ k, (f k).threads = k.threads)
    (token : ∀ k, (f k).token = k.token) : ThreadsStand o (s.modBank b f) := by
  refine ⟨fun c d => ?_, fun c => ?_⟩
  · rw [State.thread_modBank_of_threads threads]
    exact h.thread c d
  · rw [State.bank_modBank]
    split
    · rw [token, h.token]
    · exact h.token c

theorem ThreadsStand.setGl (h : ThreadsStand o s) (n : Nat) (on : Bool) : ThreadsStand o (s.setGl n on) := h.of_eq rfl

theorem ThreadsStand.setGhv (h : ThreadsStand o s) (b : Nat) (on : Bool) : ThreadsStand o (s.setGhv b on) :=
  h.modBank b (fun _ => rfl) (fun _ => rfl)

theorem ThreadsStand.setGhb (h : ThreadsStand o s) (b : Nat) (on : Bool) : ThreadsStand o (s.setGhb b on) :=
  h.modBank b (fun _ => rfl) (fun _ => rfl)

theorem ThreadsStand.beginEvent (h : ThreadsStand o s) (t : Tb) (id : Nat) : ThreadsStand o (s.beginEvent t id) := h.of_eq rfl

theorem ThreadsStand.offEvent (h : ThreadsStand o s) (t : Tb) (n id : Nat) : ThreadsStand o (s.offEvent t n id) :=
  h.frame (Frame.offEvent t n id s (Frame.refl s [.sch]) (by decide)) (by decide)

theorem ThreadsStand.modeSettle (h : ThreadsStand o s) (n : Nat) : ThreadsStand o (s.modeSettle n) :=
  h.frame (Frame.modeSettle n s (Frame.refl s [.sch]) (by decide)) (by decide)

theorem ThreadsStand.deliver (h : ThreadsStand o s) (n : Nat) (rep : Closing) : ThreadsStand o (s.deliver n rep) := h.of_eq rfl

theorem ThreadsStand.dropSlot (h : ThreadsStand o s) (n : Nat) : ThreadsStand o (s.dropSlot n) :=
  h.modBank _ (fun _ => rfl) (fun _ => rfl)

theorem ThreadsStand.noKink (h : ThreadsStand o s) (n : Nat) : ThreadsStand o (s.noKink n) :=
  ((h.of_eq (t := s.count F.DRV_NOKINK_CNT_COUNT) rfl).dropSlot n).deliver n .noKink

theorem ThreadsStand.cancelWatch (h : ThreadsStand o s) (n : Nat) : ThreadsStand o (s.cancelWatch n) := (h.dropSlot n).of_eq rfl

theorem ThreadsStand.reopen (h : ThreadsStand o s) (n ev : Nat) : ThreadsStand o (s.reopen n ev) := by
  have reports : ThreadsStand o ((s.count F.DRV_REOPEN_CNT_COUNT).noKink n) :=
    (h.of_eq (t := s.count F.DRV_REOPEN_CNT_COUNT) rfl).noKink n
  unfold State.reopen
  split
  · exact h
  · extract_lets own
    clear_value own
    cases own with
    | some k => exact .ite (h.cancelWatch n) reports
    | none => exact reports

theorem ThreadsStand.glOn (h : ThreadsStand o s) (t : Tb) (n : Nat) (level : Bool) (ev : Nat) : ThreadsStand o (s.glOn t n level ev) := by
  unfold State.glOn
  extract_lets u
  have opened : ThreadsStand o u := .ite h (h.reopen n ev)
  exact (opened.setGl n level).beginEvent t ev

theorem ThreadsStand.markOff (h : ThreadsStand o s) (n ev : Nat) : ThreadsStand o (s.markOff n ev) := by
  unfold State.markOff
  split
  · exact h.modThread _ _ (fun _ => rfl)
  · exact h

theorem ThreadsStand.startWatch (h : ThreadsStand o s) (n : Nat) : ThreadsStand o (s.startWatch n) := by
  unfold State.startWatch
  extract_lets off u
  have noted : ThreadsStand o u := h.of_eq rfl
  exact .ite (.ite (noted.modBank _ (fun _ => rfl) (fun _ => rfl)) ((noted.of_eq (t := u.count F.DRV_CLOSE_BUSY_CNT_COUNT) rfl).noKink n))
    (noted.deliver n .noWatch)

theorem ThreadsStand.glOff (h : ThreadsStand o s) (t : Tb) (n ev : Nat) : ThreadsStand o (s.glOff t n ev) := by
  have watched {u : State} (k : ThreadsStand o u) : ThreadsStand o (((u.markOff n ev).startWatch n).modeSettle n) :=
    ((k.markOff n ev).startWatch n).modeSettle n
  unfold State.glOff
  exact .ite (watched ((h.setGl n false).offEvent t n ev)) (.ite (watched h) (h.modeSettle n))

theorem ThreadsStand.applyEdge (h : ThreadsStand o s) (x : Edge) : ThreadsStand o (s.applyEdge x) := by
  unfold State.applyEdge
  cases x.gate with
  | gl n =>
    exact .ite (.ite (h.glOn _ _ _ _) h) (.ite ((h.setGl _ _).offEvent _ _ _) (h.glOff _ _ _))
  | ghv b =>
    refine .ite (.ite ((h.setGhv _ _).beginEvent _ _) h) ?_
    extract_lets u
    have low : ThreadsStand o u := h.setGhv _ _
    split
    · exact low.offEvent _ _ _
    · exact low
  | ghb b =>
    refine .ite (.ite ((h.setGhb _ _).beginEvent _ _) h) ?_
    extract_lets u
    have low : ThreadsStand o u := h.setGhb _ _
    split
    · exact low.offEvent _ _ _
    · exact low

theorem ThreadsStand.placeEdge (h : ThreadsStand o s) (at' : Option Tb) (g : Gate) (on : Bool) (b : Nat) (th : Option Nat) (ev : Nat) :
    ThreadsStand o (s.placeEdge at' g on b th ev) := by
  unfold State.placeEdge
  cases at' with
  | none => exact h.applyEdge _
  | some t => exact .ite (h.of_eq rfl) (h.applyEdge _)

theorem ThreadsStand.dueEdges (h : ThreadsStand o s) : ThreadsStand o s.dueEdges := by
  unfold State.dueEdges
  extract_lets due u
  exact .ite h (.foldl (fun _ x k => k.applyEdge x) _ (h.of_eq rfl))

theorem ThreadsStand.chopGl (h : ThreadsStand o s) (b t : Nat) (on : Bool) : ThreadsStand o (s.chopGl b t on) := by
  unfold State.chopGl
  extract_lets k c u
  have loaded : ThreadsStand o u := .ite (h.frame (Frame.loadFine b t s (Frame.refl s [.cmps]) (by decide)) (by decide)) h
  exact .ite (.ite (loaded.glOn _ _ _ _) h) (.ite ((h.setGl _ _).offEvent _ _ _) h)

theorem ThreadsStand.chopGhb (h : ThreadsStand o s) (b t : Nat) (on : Bool) : ThreadsStand o (s.chopGhb b t on) :=
  .ite (.ite ((h.setGhb _ _).beginEvent _ _) h) (.ite ((h.setGhb _ _).offEvent _ _ _) h)

theorem ThreadsStand.startOff (h : ThreadsStand o s) (b t : Nat) : ThreadsStand o (s.startOff b t) :=
  (h.chopGl b t false).modThread b t (fun _ => rfl)

theorem ThreadsStand.regLook (h : ThreadsStand o s) (b t : Nat) : ThreadsStand o (s.regLook b t) := by
  unfold State.regLook
  extract_lets k commanded vds chopped pk freed
  have h1 : ThreadsStand o commanded := h.modThread b t (fun _ => rfl)
  have h2 : ThreadsStand o vds := .ite (h1.chopGhb _ _ _) h1
  have h3 : ThreadsStand o chopped := h2.chopGl _ _ _
  have h4 : ThreadsStand o freed := .ite ((h.modThread b t (f := fun k => { k with offUntil := none }) (fun _ => rfl)).chopGl _ _ _) h
  clear_value commanded vds chopped freed k
  cases k.wait with
  | reg chop ca cb tgt =>
    refine .ite h (.ite ?onVds (.ite ?onGl ?onGhb))
    case onVds =>
      cases k.offUntil with
      | some w => exact h2
      | none => exact .ite (h3.startOff _ _) h3
    case onGl =>
      cases k.offUntil with
      | some w => exact h
      | none => exact .ite (h.startOff _ _) (h.chopGl _ _ _)
    case onGhb => exact .ite (h4.chopGhb _ _ _) (.ite (h4.chopGhb _ _ _) h4)
  | _ => exact h

theorem ThreadsStand.setFine (h : ThreadsStand o s) (n : Nat) (code : Option Nat) : ThreadsStand o (s.setFine n code) :=
  h.frame (Frame.setFine n code s (Frame.refl s [.regs, .cmps]) (by decide) (by decide)) (by decide)

/-- A bank that settles leaves its threads where they stand. -/
theorem ThreadsStand.settleBank (h : ThreadsStand o s) (b : Nat) : ThreadsStand o (s.settleBank b) := by
  unfold State.settleBank
  extract_lets u
  have fine : ThreadsStand o u := .foldl (fun _ i k => k.setFine _ _) _ h
  exact (fine.regLook b 0).regLook b 1

end

/-! What can be read of a thread that stands -/

section
variable {k k' : Thread} (h : k.Stands k')
include h

theorem Thread.Stands.eq : k' = { k with ls := k'.ls, hb := k'.hb, offUntil := k'.offUntil, turnedOff := k'.turnedOff } := h

theorem Thread.Stands.run : k'.run = k.run := by rw [h.eq]
theorem Thread.Stands.pc : k'.pc = k.pc := by rw [h.eq]
theorem Thread.Stands.wait : k'.wait = k.wait := by rw [h.eq]
theorem Thread.Stands.place : k'.place = k.place := by rw [h.eq]
theorem Thread.Stands.claiming : k'.claiming = k.claiming := by rw [h.eq]
theorem Thread.Stands.hv : k'.hv = k.hv := by rw [h.eq]
theorem Thread.Stands.sus : k'.sus = k.sus := by rw [h.eq]
theorem Thread.Stands.susPc : k'.susPc = k.susPc := by rw [h.eq]
theorem Thread.Stands.pk : k'.pk = k.pk := by rw [h.eq]
theorem Thread.Stands.hd : k'.hd = k.hd := by rw [h.eq]
theorem Thread.Stands.lc : k'.lc = k.lc := by rw [h.eq]
theorem Thread.Stands.t0 : k'.t0 = k.t0 := by rw [h.eq]
theorem Thread.Stands.t0At : k'.t0At = k.t0At := by rw [h.eq]
theorem Thread.Stands.t1 : k'.t1 = k.t1 := by rw [h.eq]
theorem Thread.Stands.t1At : k'.t1At = k.t1At := by rw [h.eq]

end

end Sys2Proof.Machine
end

section
/-! PROOFS. The issue of a note (R149), and the notes that act on their thread alone (R151, R162, R164, Table 6.4). -/

namespace Sys2Proof.Machine

/-! The issue of a note -/

/-- The thread takes the slot: its engine's last note is its own. -/
def State.slotTaken (b t : Nat) (s : State) : State := (s.edueNow b t).modBank b (fun k => { k with lastIssue := t })

/-- The thread's note issues: the program counter has moved on. -/
def State.issued (b t : Nat) (s : State) : State := (s.slotTaken b t).modThread b t (fun k => { k with pc := (k.pc + 1) % 4096 })

/-- From k to k' a thread has moved on, and its pending placement time may have followed the close of the sustain (R153). -/
def Thread.Issued (pc : Nat) (k k' : Thread) : Prop := k' = { k with pc := pc, place := k'.place, edue := k'.edue }

section
variable {s : State} {b t : Nat}

theorem State.edueNow_frame (b t : Nat) (s : State) : s.onlyIn (s.edueNow b t) [.banks] := Frame.edueNow b t s (Frame.refl s _) (by decide)

theorem State.slotTaken_frame (b t : Nat) (s : State) : s.onlyIn (s.slotTaken b t) [.banks] :=
  Frame.modBank _ _ _ (s.edueNow_frame b t) (by decide)

theorem State.issued_frame (b t : Nat) (s : State) : s.onlyIn (s.issued b t) [.banks] :=
  Frame.modThread _ _ _ _ (s.slotTaken_frame b t) (by decide)

theorem Kept.slotTaken (hok : s.ok) (b t : Nat) : Kept s (s.slotTaken b t) :=
  Kept.modBank _ _ _ (Kept.edueNow _ _ _ (Kept.refl hok)) (fun _ h => h)

theorem Kept.issued (hok : s.ok) (b t : Nat) : Kept s (s.issued b t) := Kept.modThread _ _ _ _ (Kept.slotTaken hok b t)

theorem State.slotTaken_thread (b t c d : Nat) (s : State) : (s.slotTaken b t).thread c d = (s.edueNow b t).thread c d :=
  State.thread_modBank_of_threads (f := fun k => { k with lastIssue := t }) (fun _ => rfl) b c d

theorem State.edueNow_thread (hok : s.ok) (hb : b < 24) (ht : t < 2) :
    ∃ place edue, (s.edueNow b t).thread b t = { s.thread b t with place := place, edue := edue } := by
  unfold State.edueNow
  extract_lets k
  split
  · exact ⟨_, _, State.thread_modThread (Kept.refl hok).banks hb ht _⟩
  · exact ⟨_, _, rfl⟩

theorem State.edueNow_other (c d : Nat) (h : c ≠ b ∨ d ≠ t) : (s.edueNow b t).thread c d = s.thread c d := by
  unfold State.edueNow
  extract_lets k
  split
  · exact State.thread_modThread_other h _
  · rfl

theorem State.edueNow_token (c : Nat) : ((s.edueNow b t).bank c).token = (s.bank c).token := by
  unfold State.edueNow
  extract_lets k
  split
  · exact State.token_modThread _ _ _ _ _
  · rfl

theorem State.issued_thread (hok : s.ok) (hb : b < 24) (ht : t < 2) : (s.thread b t).Issued (s.nextPc b t) ((s.issued b t).thread b t) := by
  obtain ⟨place, edue, due⟩ := State.edueNow_thread hok hb ht
  unfold State.issued Thread.Issued
  rw [State.thread_modThread (Kept.slotTaken hok b t).banks hb ht, State.slotTaken_thread, due]
  rfl

theorem State.issued_other (c d : Nat) (h : c ≠ b ∨ d ≠ t) : (s.issued b t).thread c d = s.thread c d := by
  unfold State.issued
  rw [State.thread_modThread_other h, State.slotTaken_thread, State.edueNow_other c d h]

theorem State.issued_token (c : Nat) : ((s.issued b t).bank c).token = (s.bank c).token := by
  have taken : ((s.slotTaken b t).bank c).token = ((s.edueNow b t).bank c).token := by
    unfold State.slotTaken
    rw [State.bank_modBank]
    split <;> rfl
  unfold State.issued
  rw [State.token_modThread, taken, State.edueNow_token]

/-- A legal note that its row reads issues: the note's own effect, and the bank settles. -/
theorem State.onNote_of_issues {op : Nat} {test : Note → Bool} (hok : s.ok) (h : s.issues b t op) (reads : test (s.noteOf b t) = true)
    (f : Note → State → State) : s.onNote b t test f = (f (s.noteOf b t) (s.issued b t)).settleBank b := by
  obtain ⟨hb, ht, turn, -, legal, allowed⟩ := h
  have kind : ((s.slotTaken b t).thread b t).kind = (s.thread b t).kind := by
    obtain ⟨place, edue, due⟩ := State.edueNow_thread hok hb ht
    rw [State.slotTaken_thread, due]
  have issue : s.onNote b t test f = if s.turn b t && test (s.noteOf b t) then
      (if (s.noteOf b t).reserved then (s.slotTaken b t).fault b t (s.thread b t).pc 1
        else if (s.noteOf b t).barred ((s.slotTaken b t).thread b t).kind then (s.slotTaken b t).fault b t (s.thread b t).pc 3
        else f (s.noteOf b t) (s.issued b t)).settleBank b
    else s := by
      unfold State.onNote State.issued State.slotTaken
      dsimp only
  rw [issue, turn, reads, legal, kind, allowed, Bool.and_self, if_pos rfl, if_neg Bool.false_ne_true, if_neg Bool.false_ne_true]

/-- A thread whose turn it is runs and waits for nothing. -/
theorem State.issues_ready {op : Nat} (h : s.issues b t op) : (s.thread b t).run = true ∧ (s.thread b t).wait = .none := by
  obtain ⟨-, -, turn, -⟩ := h
  unfold State.turn State.ready at turn
  simp only [Bool.and_eq_true, beq_iff_eq] at turn
  obtain ⟨⟨⟨⟨⟨run, wait⟩, -⟩, -⟩, -⟩, -⟩ := turn
  exact ⟨run, wait⟩

/-- A note whose effect is on its thread alone: the thread as it issues, then f. -/
theorem State.onNote_onThread {op : Nat} {test : Note → Bool} (hok : s.ok) (h : s.issues b t op) (reads : test (s.noteOf b t) = true)
    {g : Note → State → State} {f : Thread → Thread} (own : g (s.noteOf b t) (s.issued b t) = (s.issued b t).modThread b t f) :
    ∃ u k, s.onNote b t test g = u ∧ (s.thread b t).Issued (s.nextPc b t) k ∧ (f k).Stands (u.thread b t)
      ∧ s.onlyIn u [.regs, .sch, .banks, .cmps] := by
  obtain ⟨hb, ht, -⟩ := id h
  refine ⟨_, _, (State.onNote_of_issues hok h reads g).trans (congrArg (State.settleBank b) own), State.issued_thread hok hb ht, ?_, ?_⟩
  · have stands := ((ThreadsStand.refl ((s.issued b t).modThread b t f)).settleBank b).thread b t
    rw [State.thread_modThread (Kept.issued hok b t).banks hb ht] at stands
    exact stands
  · have frame : s.onlyIn (s.issued b t) [.regs, .sch, .banks, .cmps] := Frame.mono (s.issued_frame b t) (by decide)
    exact Frame.settleBank _ _ (Frame.modThread _ _ _ _ frame (by decide)) (by decide) (by decide) (by decide) (by decide)

/-- A note that does nothing but move on. -/
theorem State.onNote_movesOn {op : Nat} {test : Note → Bool} (hok : s.ok) (h : s.issues b t op) (reads : test (s.noteOf b t) = true)
    {g : Note → State → State} (own : g (s.noteOf b t) (s.issued b t) = s.issued b t) :
    ∃ u k, s.onNote b t test g = u ∧ (s.thread b t).Issued (s.nextPc b t) k ∧ k.Stands (u.thread b t)
      ∧ s.onlyIn u [.regs, .sch, .banks, .cmps] := by
  obtain ⟨hb, ht, -⟩ := id h
  refine ⟨_, _, (State.onNote_of_issues hok h reads g).trans (congrArg (State.settleBank b) own), State.issued_thread hok hb ht,
    ((ThreadsStand.refl (s.issued b t)).settleBank b).thread b t, ?_⟩
  exact Frame.settleBank _ _ (Frame.mono (s.issued_frame b t) (by decide)) (by decide) (by decide) (by decide) (by decide)

/-- The row of an opcode reads a note of it. -/
theorem State.issues_reads {op : Nat} (h : s.issues b t op) : ((s.noteOf b t).op == op) = true := by
  obtain ⟨-, -, -, is, -⟩ := h
  rw [is, beq_self_eq_true]

/-! The conditions that a note reads (R163) -/

/-- A state that differs in its banks alone. -/
theorem State.eq_with_banks {u : State} (h : s.onlyIn u [.banks]) : u = { s with banks := u.banks } := by
  have part : u.part = s.part := h .part (by decide)
  have clk : u.clk = s.clk := h .clk (by decide)
  have regs : u.regs = s.regs := h .regs (by decide)
  have sys : u.sys = s.sys := h .sys (by decide)
  have hif : u.hif = s.hif := h .hif (by decide)
  have evc : u.evc = s.evc := h .evc (by decide)
  have sec : u.sec = s.sec := h .sec (by decide)
  have whl : u.whl = s.whl := h .whl (by decide)
  have ang : u.ang = s.ang := h .ang (by decide)
  have sch : u.sch = s.sch := h .sch (by decide)
  have quads : u.quads = s.quads := h .quads (by decide)
  have edges : u.edges = s.edges := h .edges (by decide)
  have ink : u.ink = s.ink := h .ink (by decide)
  have grds : u.grds = s.grds := h .grds (by decide)
  have adc : u.adc = s.adc := h .adc (by decide)
  have cmps : u.cmps = s.cmps := h .cmps (by decide)
  have tmrs : u.tmrs = s.tmrs := h .tmrs (by decide)
  have nibs : u.nibs = s.nibs := h .nibs (by decide)
  have tst : u.tst = s.tst := h .tst (by decide)
  have slur : u.slur = s.slur := h .slur (by decide)
  have jtag : u.jtag = s.jtag := h .jtag (by decide)
  have ans : u.ans = s.ans := h .ans (by decide)
  have freeCtr : u.freeCtr = s.freeCtr := h .freeCtr (by decide)
  have pending : u.pending = s.pending := h .pending (by decide)
  calc u = ⟨u.part, u.clk, u.regs, u.sys, u.hif, u.evc, u.sec, u.whl, u.ang, u.sch, u.banks, u.quads, u.edges, u.ink, u.grds, u.adc,
        u.cmps, u.tmrs, u.nibs, u.tst, u.slur, u.jtag, u.ans, u.freeCtr, u.pending⟩ := rfl
    _ = { s with banks := u.banks } := by
      rw [part, clk, regs, sys, hif, evc, sec, whl, ang, sch, quads, edges, ink, grds, adc, cmps, tmrs, nibs, tst, slur, jtag, ans,
        freeCtr, pending]

/-- A condition reads neither the program counter of its thread nor its pending placement time. -/
theorem State.cond_issued (hok : s.ok) (hb : b < 24) (ht : t < 2) (c : Nat) : (s.issued b t).cond b t c = s.cond b t c := by
  have thread := State.issued_thread hok hb ht
  have other : (s.issued b t).thread b (1 - t) = s.thread b (1 - t) := State.issued_other _ _ (.inr (by omega))
  have token : ((s.issued b t).bank b).token = (s.bank b).token := State.issued_token b
  have same : s.issued b t = { s with banks := (s.issued b t).banks } := State.eq_with_banks (s.issued_frame b t)
  generalize s.issued b t = u at thread other token same
  obtain ⟨place, edue, thread⟩ : ∃ place edue, u.thread b t = { s.thread b t with pc := s.nextPc b t, place := place, edue := edue } :=
    ⟨_, _, thread⟩
  have vds : u.readsVds b t = s.readsVds b t := by
    unfold State.readsVds State.ownsBank State.shared
    rw [thread, other, token]
  have shared : u.shared b t = s.shared b t := by
    unfold State.shared
    rw [other]
  have parts : u.clk = s.clk ∧ u.regs = s.regs ∧ u.cmps = s.cmps ∧ u.sch = s.sch := by
    rw [same]
    exact ⟨rfl, rfl, rfl, rfl⟩
  obtain ⟨clk, regs, cmps, sch⟩ := parts
  have code (x : Nat) : u.condCode b t x = s.condCode b t x := by
    simp only [State.condCode, State.obsVds, State.obs, State.bitOf, State.get, State.word, State.timerVal, State.edue, State.reported, State.chan, Thread.spending,
      State.now, thread, vds, shared, token, clk, regs, cmps, sch]
    rfl
  unfold State.cond
  rw [code]

/-! The notes (Table 6.4) -/

theorem exec_noteNop (hok : s.ok) (h : s.issues b t Op.nop) :
    ∃ u, exec (.noteNop b t) s = .next u ∧ (u.thread b t).pc = s.nextPc b t ∧ (u.thread b t).run = true
      ∧ (u.thread b t).wait = .none ∧ s.onlyIn u [.regs, .sch, .banks, .cmps] := by
  have reads : ((s.noteOf b t).op == Op.nop || !(s.noteOf b t).known) = true := by rw [State.issues_reads h, Bool.true_or]
  obtain ⟨run, wait⟩ := State.issues_ready h
  obtain ⟨u, k, effect, issued, stands, frame⟩ := State.onNote_movesOn (test := fun n => n.op == Op.nop || !n.known) hok h reads
    (g := fun _ s => s) rfl
  refine ⟨u, congrArg Host.Outcome.next effect, ?_, ?_, ?_, frame⟩
  · rw [stands.pc, issued]
  · rw [stands.run, issued, run]
  · rw [stands.wait, issued, wait]

theorem exec_level (hok : s.ok) (h : s.issues b t Op.level) :
    ∃ u, exec (.level b t) s = .next u ∧ (u.thread b t).pc = s.nextPc b t
      ∧ (u.thread b t).pk = levelVal (s.thread b t) (s.noteOf b t).pkImm (s.noteOf b t).pkSrc (s.thread b t).pk
      ∧ (u.thread b t).hd = levelVal (s.thread b t) (s.noteOf b t).hdImm (s.noteOf b t).hdSrc (s.thread b t).hd
      ∧ s.onlyIn u [.regs, .sch, .banks, .cmps] := by
  obtain ⟨u, k, effect, issued, stands, frame⟩ := State.onNote_onThread (test := fun n => n.op == Op.level) hok h (State.issues_reads h)
    (g := fun n s => s.modThread b t (fun k =>
      { k with pk := levelVal k n.pkImm n.pkSrc k.pk, hd := levelVal k n.hdImm n.hdSrc k.hd })) rfl
  refine ⟨u, congrArg Host.Outcome.next effect, ?_, ?_, ?_, frame⟩
  · rw [stands.pc, issued]
  · rw [stands.pk, issued]
    rfl
  · rw [stands.hd, issued]
    rfl

/-- TLOAD loads the timer or count that DST names (R151). -/
def Thread.loaded (now : Tb) (n : Note) (k : Thread) : Thread :=
  if n.dst = 0 then { k with t0 := timeVal k n, t0At := now }
  else if n.dst = 1 then { k with t1 := timeVal k n, t1At := now } else { k with lc := loopVal k n }

theorem exec_tload (hok : s.ok) (h : s.issues b t Op.tload) :
    ∃ u, exec (.tload b t) s = .next u ∧ (u.thread b t).pc = s.nextPc b t
      ∧ ((s.noteOf b t).dst = 0 → (u.thread b t).t0 = timeVal (s.thread b t) (s.noteOf b t) ∧ (u.thread b t).t0At = s.now)
      ∧ ((s.noteOf b t).dst = 1 → (u.thread b t).t1 = timeVal (s.thread b t) (s.noteOf b t) ∧ (u.thread b t).t1At = s.now)
      ∧ (2 ≤ (s.noteOf b t).dst → (u.thread b t).lc = loopVal (s.thread b t) (s.noteOf b t))
      ∧ s.onlyIn u [.regs, .sch, .banks, .cmps] := by
  have now : (s.issued b t).now = s.now := congrArg Clk.tb (s.issued_frame b t .clk (by decide))
  obtain ⟨u, k, effect, issued, stands, frame⟩ := State.onNote_onThread (test := fun n => n.op == Op.tload) hok h (State.issues_reads h)
    (g := fun n s => s.modThread b t (Thread.loaded s.now n)) (f := Thread.loaded s.now (s.noteOf b t)) (by rw [now])
  refine ⟨u, congrArg Host.Outcome.next effect, ?_, fun zero => ?_, fun one => ?_, fun two => ?_, frame⟩
  · refine stands.pc.trans ?_
    unfold Thread.loaded
    rw [issued]
    split
    · rfl
    · split <;> rfl
  · have loads : k.loaded s.now (s.noteOf b t) = { k with t0 := timeVal k (s.noteOf b t), t0At := s.now } := if_pos zero
    rw [loads] at stands
    exact ⟨stands.t0.trans (by rw [issued]; rfl), stands.t0At⟩
  · have loads : k.loaded s.now (s.noteOf b t) = { k with t1 := timeVal k (s.noteOf b t), t1At := s.now } :=
      (if_neg (by omega)).trans (if_pos one)
    rw [loads] at stands
    exact ⟨stands.t1.trans (by rw [issued]; rfl), stands.t1At⟩
  · have loads : k.loaded s.now (s.noteOf b t) = { k with lc := loopVal k (s.noteOf b t) } :=
      (if_neg (by omega)).trans (if_neg (by omega))
    rw [loads] at stands
    exact stands.lc.trans (by rw [issued]; rfl)

theorem exec_br (hok : s.ok) (h : s.issues b t Op.br) :
    ∃ u, exec (.br b t) s = .next u
      ∧ (u.thread b t).pc = (if s.cond b t (s.noteOf b t).ca then (s.noteOf b t).tgt else s.nextPc b t)
      ∧ s.onlyIn u [.regs, .sch, .banks, .cmps] := by
  obtain ⟨hb, ht, -⟩ := id h
  have cond := State.cond_issued hok hb ht (s.noteOf b t).ca
  by_cases c : s.cond b t (s.noteOf b t).ca = true
  · rw [c] at cond
    obtain ⟨u, k, effect, issued, stands, frame⟩ := State.onNote_onThread (test := fun n => n.op == Op.br) hok h (State.issues_reads h)
      (g := fun n s => if s.cond b t n.ca then s.modThread b t (fun k => { k with pc := n.tgt }) else s) (if_pos cond)
    exact ⟨u, congrArg Host.Outcome.next effect, by rw [stands.pc, if_pos c], frame⟩
  · obtain ⟨u, k, effect, issued, stands, frame⟩ := State.onNote_movesOn (test := fun n => n.op == Op.br) hok h (State.issues_reads h)
      (g := fun n s => if s.cond b t n.ca then s.modThread b t (fun k => { k with pc := n.tgt }) else s)
      (if_neg (by rw [cond]; exact c))
    exact ⟨u, congrArg Host.Outcome.next effect, by rw [stands.pc, issued, if_neg c], frame⟩

/-- LOOP counts LC down, and jumps while it is not zero. -/
def Thread.looped (tgt : Nat) (k : Thread) : Thread :=
  if k.lc = 0 then k else { k with lc := k.lc - 1, pc := if k.lc = 1 then k.pc else tgt }

theorem Thread.looped_lc (tgt : Nat) (k : Thread) : (k.looped tgt).lc = k.lc - 1 := by
  unfold Thread.looped
  split
  · omega
  · rfl

theorem Thread.looped_pc (tgt : Nat) (k : Thread) : (k.looped tgt).pc = if k.lc ≤ 1 then k.pc else tgt := by
  unfold Thread.looped
  split
  · rw [if_pos (by omega)]
  · show (if k.lc = 1 then k.pc else tgt) = _
    exact if_congr (by omega) rfl rfl

theorem exec_loop (hok : s.ok) (h : s.issues b t Op.loop) :
    ∃ u, exec (.loop b t) s = .next u ∧ (u.thread b t).lc = (s.thread b t).lc - 1
      ∧ (u.thread b t).pc = (if (s.thread b t).lc ≤ 1 then s.nextPc b t else (s.noteOf b t).tgt)
      ∧ s.onlyIn u [.regs, .sch, .banks, .cmps] := by
  obtain ⟨u, k, effect, issued, stands, frame⟩ := State.onNote_onThread (test := fun n => n.op == Op.loop) hok h (State.issues_reads h)
    (g := fun n s => s.modThread b t (Thread.looped n.tgt)) rfl
  refine ⟨u, congrArg Host.Outcome.next effect, ?_, ?_, frame⟩
  · rw [stands.lc, Thread.looped_lc, issued]
  · rw [stands.pc, Thread.looped_pc, issued]

theorem exec_susBegin (hok : s.ok) (h : s.issues b t Op.susBegin) :
    ∃ u, exec (.susBegin b t) s = .next u ∧ (u.thread b t).pc = s.nextPc b t ∧ (u.thread b t).sus = true
      ∧ (u.thread b t).susPc = s.nextPc b t ∧ s.onlyIn u [.regs, .sch, .banks, .cmps] := by
  obtain ⟨u, k, effect, issued, stands, frame⟩ := State.onNote_onThread (test := fun n => n.op == Op.susBegin) hok h (State.issues_reads h)
    (g := fun _ s => s.modThread b t (fun k => { k with sus := true, susPc := k.pc })) rfl
  refine ⟨u, congrArg Host.Outcome.next effect, ?_, ?_, ?_, frame⟩
  · rw [stands.pc, issued]
  · rw [stands.sus]
  · rw [stands.susPc, issued]

end

/-- Settles O26: each note's effect on its thread, which the bank's settling leaves where it stands. -/
theorem notesOnTheirOwnThread : Obligations.NotesOnTheirOwnThread := by
  unfold Obligations.NotesOnTheirOwnThread
  exact ⟨fun _ _ _ hok h => exec_noteNop hok h, fun _ _ _ hok h => exec_level hok h, fun _ _ _ hok h => exec_tload hok h,
    fun _ _ _ hok h => exec_br hok h, fun _ _ _ hok h => exec_loop hok h, fun _ _ _ hok h => exec_susBegin hok h⟩

end Sys2Proof.Machine
end

section
/-! PROOFS. GATE and its fault (R154, R156, R174), and the bank's boost token (R132, R134, R156, R157). -/

namespace Sys2Proof.Machine

/-! The words that a bank's settling writes -/

/-- The counts of a chop's NO_KINK reports, and the latches of the VDS comparators. -/
def settleWords : List Nat :=
  [R.DRV_NOKINK_CNT, R.DRV_REOPEN_CNT, R.CMP_VDSLAT 0, R.CMP_VDSLAT 1, R.CMP_VDSLAT 2]

section
variable {o s : State} {l : List Nat}

theorem State.onlyWords.clrLatch (h : o.onlyWords s l) {f : Fld} (i : Nat) (k : f.a ∈ l) : o.onlyWords (s.clrLatch f i) l :=
  .ite h (.ite (h.set (f := ⟨f.a, f.lo + i, 1⟩) 0 k) h)

theorem State.onlyWords.noKink (h : o.onlyWords s l) (n : Nat) (k : R.DRV_NOKINK_CNT ∈ l) : o.onlyWords (s.noKink n) l :=
  (h.count (f := F.DRV_NOKINK_CNT_COUNT) k).of_eq rfl

theorem State.onlyWords.reopen (h : o.onlyWords s settleWords) (n ev : Nat) : o.onlyWords (s.reopen n ev) settleWords := by
  have reports : o.onlyWords ((s.count F.DRV_REOPEN_CNT_COUNT).noKink n) settleWords :=
    (h.count (f := F.DRV_REOPEN_CNT_COUNT) (by decide)).noKink n (by decide)
  unfold State.reopen
  split
  · exact h
  · extract_lets own
    clear_value own
    cases own with
    | some k => exact .ite (h.of_eq rfl) reports
    | none => exact reports

theorem State.onlyWords.glOn (h : o.onlyWords s settleWords) (t : Tb) (n : Nat) (level : Bool) (ev : Nat) :
    o.onlyWords (s.glOn t n level ev) settleWords := by
  unfold State.glOn
  extract_lets u
  have opened : o.onlyWords u settleWords := .ite h (h.reopen n ev)
  exact opened.of_eq rfl

theorem State.onlyWords.offEvent (h : o.onlyWords s l) (t : Tb) (n id : Nat) : o.onlyWords (s.offEvent t n id) l :=
  h.of_eq (Frame.offEvent t n id s (Frame.refl s [.sch]) (by decide) .regs (by decide))

theorem State.onlyWords.chopGl (h : o.onlyWords s settleWords) (b t : Nat) (on : Bool) : o.onlyWords (s.chopGl b t on) settleWords := by
  unfold State.chopGl
  extract_lets k c u
  have loaded : o.onlyWords u settleWords := .ite (h.of_eq (Frame.loadFine b t s (Frame.refl s [.cmps]) (by decide) .regs (by decide))) h
  exact .ite (.ite (loaded.glOn _ _ _ _) h) (.ite (.offEvent (h.of_eq (t := s.setGl k.ch false) rfl) _ _ _) h)

theorem State.onlyWords.chopGhb (h : o.onlyWords s l) (b t : Nat) (on : Bool) : o.onlyWords (s.chopGhb b t on) l :=
  .ite (.ite (h.of_eq rfl) h) (.ite (.offEvent (h.of_eq (t := s.setGhb b false) rfl) _ _ _) h)

theorem State.onlyWords.regLook (h : o.onlyWords s settleWords) (b t : Nat) : o.onlyWords (s.regLook b t) settleWords := by
  have startOff {u : State} (k : o.onlyWords u settleWords) : o.onlyWords (u.startOff b t) settleWords := (k.chopGl b t false).of_eq rfl
  unfold State.regLook
  extract_lets k commanded vds chopped pk freed
  have h1 : o.onlyWords commanded settleWords := h.of_eq rfl
  have h2 : o.onlyWords vds settleWords := .ite (h1.chopGhb _ _ _) h1
  have h3 : o.onlyWords chopped settleWords := h2.chopGl _ _ _
  have h4 : o.onlyWords freed settleWords :=
    .ite (.chopGl (h.of_eq (t := s.modThread b t (fun k => { k with offUntil := none })) rfl) _ _ _) h
  clear_value commanded vds chopped freed k
  cases k.wait with
  | reg chop ca cb tgt =>
    refine .ite h (.ite ?onVds (.ite ?onGl ?onGhb))
    case onVds =>
      cases k.offUntil with
      | some w => exact h2
      | none => exact .ite (startOff h3) h3
    case onGl =>
      cases k.offUntil with
      | some w => exact h
      | none => exact .ite (startOff h) (h.chopGl _ _ _)
    case onGhb => exact .ite (h4.chopGhb _ _ _) (.ite (h4.chopGhb _ _ _) h4)
  | _ => exact h

theorem vdsLat_mem {n : Nat} (hn : n < 96) : R.CMP_VDSLAT (n / 32) ∈ settleWords := by
  have cases : n / 32 = 0 ∨ n / 32 = 1 ∨ n / 32 = 2 := by omega
  obtain e | e | e := cases <;> rw [e] <;> decide

theorem State.onlyWords.setFine (h : o.onlyWords s settleWords) {n : Nat} (hn : n < 96) (code : Option Nat) :
    o.onlyWords (s.setFine n code) settleWords := by
  unfold State.setFine
  extract_lets fine cmps
  have ranged : o.onlyWords { s with cmps := { cmps with fine := fine } } settleWords := h.of_eq rfl
  exact .ite h (ranged.clrLatch (f := F.CMP_VDSLAT_CH (n / 32)) _ (vdsLat_mem hn))

theorem State.onlyWords.settleBank (h : o.onlyWords s settleWords) {b : Nat} (hb : b < 24) :
    o.onlyWords (s.settleBank b) settleWords := by
  unfold State.settleBank
  extract_lets u
  have fine : o.onlyWords u settleWords :=
    .foldl_mem (fun s i hi k => k.setFine (by have := mem_upTo.mp hi; omega) _) h
  exact (fine.regLook b 0).regLook b 1

end

/-! Faults (R174) -/

section
variable {s : State} {b t : Nat}

/-- A thread that is ended runs no more. -/
theorem State.killThread_stops (hok : s.ok) (hb : b < 24) (ht : t < 2) (f : Event → Event) :
    ((s.killThread b t f).thread b t).run = false := by
  unfold State.killThread
  extract_lets k dropped closed ended
  split
  · have banks : BanksOk ended.banks := (Kept.modStore _ _ (Kept.closeThreadWins b t _ (Kept.releaseToken b t _ (Kept.dropGates b t s (Kept.refl hok))))).banks
    unfold State.freeThread
    extract_lets n
    generalize hu : ended.modThread b t _ = u
    have settled : ((u.modeSettle n).thread b t) = u.thread b t := by
      have same : (u.modeSettle n).banks = u.banks := Frame.modeSettle n u (Frame.refl u [.sch]) (by decide) .banks (by decide)
      unfold State.thread State.bank
      rw [same]
    rw [settled, ← hu, State.thread_modThread banks hb ht]
  · next stands => exact Bool.not_eq_true _ ▸ stands

/-- The words of REED_FAULT and of what counts a fault. -/
theorem faultWord_cause {pc b t cause ch : Nat} (h : cause < 16) :
    (Word.ofN (pc % 4096 + place 12 5 b + place 17 1 t + place 20 4 cause + place 24 7 ch + 2 ^ 31)).bits 20 4 = cause := by
  rw [place_eq, place_eq, place_eq, place_eq]
  unfold Word.bits Word.ofN
  rw [BitVec.toNat_ofNat, Nat.shiftRight_eq_div_pow]
  omega

theorem State.fault_stops (hok : s.ok) (hb : b < 24) (ht : t < 2) (pc cause : Nat) : ((s.fault b t pc cause).thread b t).run = false := by
  have kept : (s.fault b t pc cause).banks = (s.killThread b t (markCause Code.badPhrase)).banks :=
    Frame.alarm _ _ _ _ _ (Frame.count _ _ (Frame.putWord _ _ _ (Frame.refl _ [.regs, .hif]) (by decide)) (by decide)) (by decide)
      (by decide) .banks (by decide)
  have same : (s.fault b t pc cause).thread b t = (s.killThread b t (markCause Code.badPhrase)).thread b t := by
    unfold State.thread State.bank
    rw [kept]
  rw [same]
  exact State.killThread_stops hok hb ht _

theorem State.fault_cause (hok : s.ok) (b t pc : Nat) {cause : Nat} (h : cause < 16) :
    (s.fault b t pc cause).get F.REED_FAULT_CAUSE = cause := by
  have wf : (s.killThread b t (markCause Code.badPhrase)).regs.live.wf = true := (Kept.killThread b t _ _ (Kept.refl hok)).regs.live
  unfold State.fault
  extract_lets k killed w counted
  have alarmed := (State.onlyWords.refl counted (alarmWordsOf 24)).alarm 24 0 0 w (fun _ h => h)
  have noted : (killed.putWord R.REED_FAULT (Word.ofN w)).get F.REED_FAULT_CAUSE = cause := by
    unfold State.get
    rw [State.word_putWord _ _ _ _ wf, if_pos rfl]
    exact faultWord_cause h
  rw [alarmed.get_eq (by decide)]
  exact (State.get_count_other _ F.REED_FAULT_CNT_COUNT _ (WMap.put_wf _ _ _ wf) (by decide)).trans noted

/-- A thread that has faulted, once its bank has settled (R174). -/
theorem State.fault_settles (hok : s.ok) (hb : b < 24) (ht : t < 2) (pc : Nat) {cause : Nat} (h : cause < 16) :
    (((s.fault b t pc cause).settleBank b).thread b t).run = false
      ∧ ((s.fault b t pc cause).settleBank b).get F.REED_FAULT_CAUSE = cause
      ∧ s.onlyIn ((s.fault b t pc cause).settleBank b) [.regs, .hif, .sch, .banks, .edges, .adc, .cmps] := by
  have stands := ((ThreadsStand.refl (s.fault b t pc cause)).settleBank b).thread b t
  have words := (State.onlyWords.refl (s.fault b t pc cause) settleWords).settleBank hb
  refine ⟨stands.run.trans (State.fault_stops hok hb ht pc cause), (words.get_eq (by decide)).trans (State.fault_cause hok b t pc h), ?_⟩
  exact Frame.settleBank _ _ (Frame.fault _ _ _ _ _ (Frame.refl s _) (by decide) (by decide) (by decide) (by decide) (by decide) (by decide))
    (by decide) (by decide) (by decide) (by decide)

/-! GATE (R154, R156) -/

/-- GHV on without the token, and without a claim that is still to be decided, is a fault. -/
theorem exec_gate_faults (hok : s.ok) (h : s.issues b t Op.gate) (on : (s.noteOf b t).hvOn = true) (token : (s.bank b).token ≠ t + 1)
    (claim : (s.thread b t).claiming = false) :
    ∃ u, exec (.gate b t) s = .next u ∧ (u.thread b t).run = false ∧ u.get F.REED_FAULT_CAUSE = 2
      ∧ s.onlyIn u [.regs, .hif, .sch, .banks, .edges, .adc, .cmps] := by
  obtain ⟨hb, ht, -⟩ := id h
  have issued := State.issued_thread hok hb ht
  have free : (((s.issued b t).bank b).token == t + 1) = false := by
    rw [State.issued_token]
    exact beq_false_of_ne token
  have undecided : ((s.issued b t).thread b t).claiming = false := by rw [issued, claim]
  have faults : (s.issued b t).gateNote b t (s.noteOf b t)
      = (s.issued b t).fault b t ((((s.issued b t).thread b t).pc + 4095) % 4096) 2 := by
    unfold State.gateNote
    extract_lets k own held
    have own' : own = false := free
    have held' : held = false := by
      unfold held k
      rw [undecided, Bool.false_and]
    exact if_pos (by rw [on, own', held']; rfl)
  have effect := (State.onNote_of_issues (test := fun n => n.op == Op.gate) hok h (State.issues_reads h)
    (fun n s => s.gateNote b t n)).trans (congrArg (State.settleBank b) faults)
  obtain ⟨run, cause, frame⟩ := State.fault_settles (s := s.issued b t) (Kept.issued hok b t).ok hb ht
    ((((s.issued b t).thread b t).pc + 4095) % 4096) (cause := 2) (by decide)
  exact ⟨_, congrArg Host.Outcome.next effect, run, cause, Frame.trans (Frame.mono (s.issued_frame b t) (by decide)) frame⟩

/-- While the close of the sustain is ahead, the issue leaves the pending placement time. -/
theorem State.issued_place (hok : s.ok) (hb : b < 24) (ht : t < 2) (h : s.edue b t = false) :
    ((s.issued b t).thread b t).place = (s.thread b t).place := by
  have stays : s.edueNow b t = s := by
    unfold State.edueNow
    extract_lets k
    exact if_neg (by rw [h]; simp)
  unfold State.issued
  rw [State.thread_modThread (Kept.slotTaken hok b t).banks hb ht, State.slotTaken_thread, stays]

/-- A pending placement time that is still ahead is taken as it stands (R154, R155). -/
theorem State.takePlace_ahead {p : Tb} (place : (s.thread b t).place = some p) (ahead : 0 < tbDiff p s.now) :
    ∃ placed, s.takePlace b t = (some p, s.modThread b t (fun k => { k with place := none, placed := k.placed || placed })) := by
  refine ⟨!(s.thread b t).placed && (s.thread b t).place == some (s.thread b t).firstEdge, ?_⟩
  unfold State.takePlace
  extract_lets k first u
  have timely : ¬ (first && decide (tbDiff k.firstEdge u.now < 0)) = true := by
    intro late
    simp only [Bool.and_eq_true, decide_eq_true_eq, first, beq_iff_eq] at late
    obtain ⟨⟨-, same⟩, past⟩ := late
    have edge : p = k.firstEdge := Option.some.inj (place.symm.trans same)
    have now : u.now = s.now := rfl
    rw [← edge, now] at past
    omega
  rw [if_neg timely]
  exact congrArg (·, u) place

theorem BanksOk.modThread (h : BanksOk s.banks) (b t : Nat) (f : Thread → Thread) : BanksOk (s.modThread b t f).banks :=
  BanksOk.modAt h (fun k hk => (modAt_length k.threads t f).trans hk)

/-- A field of 0 leaves its switch as it is. -/
theorem State.gateField_zero (b t : Nat) (g : Gate) (was : Bool) (at' : Option Tb) (s : State) : s.gateField b t g 0 was at' = s := by
  unfold State.gateField
  extract_lets ev
  rw [if_neg (by decide), if_neg (by simp)]

/-- An on edge at a time to come waits with the placer. -/
theorem State.gateField_on {p : Tb} (ahead : 0 < tbDiff p s.now) (g : Gate) (was : Bool) :
    s.gateField b t g 2 was (some p) = { s with
      edges := s.edges ++ [{ at' := p, gate := g, on := true, bank := b, thread := some t, ev := (s.thread b t).ev }] } := by
  unfold State.gateField
  extract_lets ev
  rw [if_pos rfl]
  unfold State.placeEdge
  exact if_pos ahead

theorem gateFlag_zero (was : Bool) : gateFlag 0 was = was := rfl
theorem gateFlag_two (was : Bool) : gateFlag 2 was = true := rfl

/-- What a GATE that turns GL on commands of its thread's switches. -/
def Thread.glCommanded (hold : Bool) (k : Thread) : Thread := { k with ls := true, held := k.held || hold }

/-- A GATE of GL alone, at a placement time to come. -/
theorem State.gateNote_gl {n : Note} {p : Tb} (placed : n.placed = true) (decay : n.decay = false) (hv : n.hv = 0) (hbOff : n.hb = 0)
    (ls : n.ls = 2) (place : (s.thread b t).place = some p) (ahead : 0 < tbDiff p s.now) :
    ∃ first hold, let u := (s.modThread b t (fun k => { k with place := none, placed := k.placed || first })).modThread b t (Thread.glCommanded hold)
      s.gateNote b t n = { u with
        edges := u.edges ++ [{ at' := p, gate := .gl (s.thread b t).ch, on := true, bank := b, thread := some t, ev := (u.thread b t).ev }] } := by
  obtain ⟨first, took⟩ := State.takePlace_ahead place ahead
  have off : n.hvOn = false := by
    unfold Note.hvOn
    rw [hv]
    exact Bool.and_false _
  refine ⟨first, (s.thread b t).claiming && n.placed, ?_⟩
  unfold State.gateNote
  dsimp only
  rw [off, placed, decay, hv, hbOff, ls, took]
  simp only [Bool.false_and, Bool.false_eq_true, if_false, if_true, ite_self, Bool.and_true, State.gateField_zero, gateFlag_zero,
    gateFlag_two]
  exact State.gateField_on (s := (s.modThread b t _).modThread b t _) ahead _ _

/-- GL on at a placement time to come goes to the placer, and the thread commands the switch. -/
theorem exec_gate_places {p : Tb} (hok : s.ok) (h : s.issues b t Op.gate) (placed : (s.noteOf b t).placed = true)
    (decay : (s.noteOf b t).decay = false) (hv : (s.noteOf b t).hv = 0) (hbOff : (s.noteOf b t).hb = 0) (ls : (s.noteOf b t).ls = 2)
    (place : (s.thread b t).place = some p) (ahead : 0 < tbDiff p s.now) (early : s.edue b t = false) :
    ∃ u, exec (.gate b t) s = .next u
      ∧ u.edges = s.edges ++ [{ at' := p, gate := .gl (s.thread b t).ch, on := true, bank := b, thread := some t,
                                ev := (s.thread b t).ev }]
      ∧ (u.thread b t).pc = s.nextPc b t ∧ (u.thread b t).place = none ∧ (u.thread b t).run = true
      ∧ s.onlyIn u [.regs, .sch, .banks, .edges, .cmps] := by
  obtain ⟨hb, ht, -⟩ := id h
  obtain ⟨run, -⟩ := State.issues_ready h
  have effect := State.onNote_of_issues (test := fun n => n.op == Op.gate) hok h (State.issues_reads h) (fun n s => s.gateNote b t n)
  have issued := State.issued_thread hok hb ht
  have issuedPlace : ((s.issued b t).thread b t).place = some p := (State.issued_place hok hb ht early).trans place
  have banks : BanksOk (s.issued b t).banks := (Kept.issued hok b t).banks
  have frame := s.issued_frame b t
  have edges : (s.issued b t).edges = s.edges := frame .edges (by decide)
  have now : (s.issued b t).now = s.now := congrArg Clk.tb (frame .clk (by decide))
  generalize s.issued b t = i at effect issued issuedPlace banks frame edges now
  obtain ⟨first, hold, gate⟩ := State.gateNote_gl (s := i) placed decay hv hbOff ls issuedPlace (by rw [now]; exact ahead)
  generalize hu : (i.modThread b t (fun k => { k with place := none, placed := k.placed || first })).modThread b t
    (Thread.glCommanded hold) = u at gate
  have thread : u.thread b t = Thread.glCommanded hold { i.thread b t with place := none, placed := (i.thread b t).placed || first } := by
    rw [← hu, State.thread_modThread (banks.modThread b t _) hb ht, State.thread_modThread banks hb ht]
  have uEdges : u.edges = s.edges := by rw [← hu, ← edges]; rfl
  have uFrame : s.onlyIn u [.banks] := by
    rw [← hu]
    exact Frame.modThread _ _ _ _ (Frame.modThread _ _ _ _ frame (by decide)) (by decide)
  have ev : (u.thread b t).ev = (s.thread b t).ev := by rw [thread, issued]; rfl
  have ch : (i.thread b t).ch = (s.thread b t).ch := by rw [issued]
  dsimp only at gate
  rw [uEdges, ev, ch] at gate
  rw [gate] at effect
  generalize hv : ({ u with edges := s.edges ++
    [{ at' := p, gate := .gl (s.thread b t).ch, on := true, bank := b, thread := some t, ev := (s.thread b t).ev }] } : State) = v at effect
  have vThread : v.thread b t = u.thread b t := by rw [← hv]; rfl
  have stands := ((ThreadsStand.refl v).settleBank b).thread b t
  rw [vThread, thread, issued] at stands
  have settled : (v.settleBank b).edges = v.edges :=
    Frame.settleBank b v (Frame.refl v [.regs, .sch, .banks, .cmps]) (by decide) (by decide) (by decide) (by decide) .edges (by decide)
  refine ⟨_, congrArg Host.Outcome.next effect, ?_, stands.pc, stands.place, stands.run.trans run, ?_⟩
  · rw [settled, ← hv]
  · have vFrame : s.onlyIn v [.regs, .sch, .banks, .edges, .cmps] := by
      rw [← hv]
      exact Frame.with_edges (Frame.mono uFrame (by decide)) (by decide)
    exact Frame.settleBank _ _ vFrame (by decide) (by decide) (by decide) (by decide)

end

/-- Settles O28: a placed GATE's way to the placer, and the fault of a GHV without the token. -/
theorem gatesAreMadeAtTheirPlacementTime : Obligations.GatesAreMadeAtTheirPlacementTime := by
  unfold Obligations.GatesAreMadeAtTheirPlacementTime
  exact ⟨fun _ _ _ _ hok h placed decay hv hb ls place ahead early => exec_gate_places hok h placed decay hv hb ls place ahead early,
    fun _ _ _ hok h on token claim => exec_gate_faults hok h on token claim⟩

end Sys2Proof.Machine
end

section
/-! PROOFS. The bank's boost token (R132, R134, R156, R157): it is taken, given back, decided and passed on. -/

namespace Sys2Proof.Machine

/-- From s to u the bank's token is thread t's, which still stands at the same note and wait. -/
structure TokenTaken (b t : Nat) (s u : State) : Prop where
  banks : BanksOk u.banks
  token : (u.bank b).token = t + 1
  wait : (u.thread b t).wait = (s.thread b t).wait
  pc : (u.thread b t).pc = (s.thread b t).pc

section
variable {b t : Nat} {s u v : State}

theorem TokenTaken.of_eq (h : TokenTaken b t s u) (k : v.banks = u.banks) : TokenTaken b t s v := by
  obtain ⟨banks, token, wait, pc⟩ := h
  have bank : v.bank b = u.bank b := by
    unfold State.bank
    rw [k]
  have thread : v.thread b t = u.thread b t := by
    unfold State.thread
    rw [bank]
  exact ⟨by rw [k]; exact banks, by rw [bank, token], by rw [thread, wait], by rw [thread, pc]⟩

theorem TokenTaken.ite {c : Prop} [Decidable c] {x y : State} (h : TokenTaken b t s x) (k : TokenTaken b t s y) :
    TokenTaken b t s (if c then x else y) := by
  split <;> assumption

theorem TokenTaken.modThread (h : TokenTaken b t s u) (hb : b < 24) (ht : t < 2) {f : Thread → Thread}
    (wait : (f (u.thread b t)).wait = (u.thread b t).wait) (pc : (f (u.thread b t)).pc = (u.thread b t).pc) :
    TokenTaken b t s (u.modThread b t f) := by
  have thread := State.thread_modThread h.banks hb ht f
  exact ⟨h.banks.modThread b t f, (State.token_modThread u b t b f).trans h.token, by rw [thread, wait, h.wait], by rw [thread, pc, h.pc]⟩

/-- The token goes to thread t of bank b. -/
theorem TokenTaken.modBank (h : BanksOk s.banks) (hb : b < 24) : TokenTaken b t s (s.modBank b (fun x => { x with token := t + 1 })) := by
  have bank : (s.modBank b (fun x => { x with token := t + 1 })).bank b = { s.bank b with token := t + 1 } :=
    (State.bank_modBank s b b _).trans (if_pos ⟨rfl, Nat.lt_of_lt_of_eq hb h.1.symm⟩)
  have thread : (s.modBank b (fun x => { x with token := t + 1 })).thread b t = s.thread b t :=
    State.thread_modBank_of_threads (f := fun x => { x with token := t + 1 }) (fun _ => rfl) b b t
  exact ⟨BanksOk.modAt h (fun _ k => k), by rw [bank], by rw [thread], by rw [thread]⟩

/-- A grant gives the thread the token, decides its claim and ends its wait for it (R132, R156). -/
theorem State.grant_takes (hok : BanksOk s.banks) (hb : b < 24) (ht : t < 2) :
    ((s.grant b t).bank b).token = t + 1 ∧ ((s.grant b t).thread b t).claiming = false
      ∧ ((s.grant b t).thread b t).wait = (if (s.thread b t).wait == .claim then .none else (s.thread b t).wait)
      ∧ ((s.grant b t).thread b t).pc = (s.thread b t).pc := by
  have latch {u : State} (h : TokenTaken b t s u) (f : Fld) (i : Nat) : TokenTaken b t s (u.clrLatch f i) :=
    h.of_eq (Frame.clrLatch f i u (Frame.refl u [.regs]) (by decide) .banks (by decide))
  unfold State.grant
  extract_lets k w taken waited decided shown
  have h1 : TokenTaken b t s taken := latch (latch (TokenTaken.modBank hok hb) _ _) _ _
  have h2 : TokenTaken b t s waited := by
    unfold waited
    cases taken.event k.ev with
    | none => exact h1
    | some e =>
      refine .ite h1 ?_
      extract_lets counted indebted shifted d
      have h : TokenTaken b t s shifted := .of_eq (u := counted) (.ite (h1.of_eq rfl) h1) rfl
      exact .ite h (h.modThread hb ht rfl rfl)
  have thread := State.thread_modThread h2.banks hb ht
    (fun k => { k with claiming := false, held := false, claimAt := waited.now, wait := if k.wait == .claim then .none else k.wait })
  have decides : decided.thread b t = _ := thread
  have token : (decided.bank b).token = t + 1 := (State.token_modThread waited b t b _).trans h2.token
  have stands : ThreadsStand decided shown.dueEdges := (ThreadsStand.of_eq (t := shown) (ThreadsStand.refl decided) rfl).dueEdges
  refine ⟨(stands.token b).trans token, ?_, ?_, ?_⟩
  · rw [(stands.thread b t).claiming, decides]
  · rw [(stands.thread b t).wait, decides]
    dsimp only
    rw [h2.wait]
  · rw [(stands.thread b t).pc, decides]
    exact h2.pc

/-- Where the other thread does not wait for the token, a claim goes first. -/
theorem State.goesFirst_of_alone (h : s.waitsToken b (1 - t) = false) : s.goesFirst b t = true := by
  unfold State.goesFirst
  rw [h]
  rfl

/-- A CLAIM after the first edge takes a free token at once (R156). -/
theorem State.claimNote_takes (free : (s.bank b).token = 0) (placed : (s.thread b t).placed = true)
    (alone : s.waitsToken b (1 - t) = false) (ht : t < 2) :
    s.claimNote b t = (s.modThread b t (fun k => { k with claimAt := s.now, wait := .claim })).grant b t := by
  unfold State.claimNote
  extract_lets k claimed
  have own : ¬ (s.bank b).token = t + 1 := by omega
  have early : ¬ (!k.placed && k.place == some k.firstEdge && decide (0 < tbDiff k.firstEdge s.now)) = true := by
    rw [show k.placed = true from placed]
    simp
  have token : (claimed.bank b).token = 0 := (State.token_modThread s b t b _).trans free
  have other : claimed.waitsToken b (1 - t) = s.waitsToken b (1 - t) := by
    unfold State.waitsToken
    rw [show claimed.thread b (1 - t) = s.thread b (1 - t) from State.thread_modThread_other (.inr (by omega)) _]
    rfl
  rw [if_neg own, if_neg early, if_pos (by rw [token, State.goesFirst_of_alone (other.trans alone)]; rfl)]

end

/-! The operations -/

section
variable {b t : Nat} {s : State}

/-- The other thread's wait for the token does not hang on this thread's issue. -/
theorem State.waitsToken_issued (ht : t < 2) : (s.issued b t).waitsToken b (1 - t) = s.waitsToken b (1 - t) := by
  have clk : (s.issued b t).clk = s.clk := s.issued_frame b t .clk (by decide)
  unfold State.waitsToken State.now
  rw [State.issued_other _ _ (.inr (by omega)), clk]

theorem exec_claim (hok : s.ok) (h : s.issues b t Op.claim) (free : (s.bank b).token = 0) (placed : (s.thread b t).placed = true)
    (alone : s.waitsToken b (1 - t) = false) :
    ∃ u, exec (.claim b t) s = .next u ∧ (u.bank b).token = t + 1 ∧ (u.thread b t).wait = .none
      ∧ (u.thread b t).pc = s.nextPc b t := by
  obtain ⟨hb, ht, -⟩ := id h
  have issued := State.issued_thread hok hb ht
  have banks : BanksOk (s.issued b t).banks := (Kept.issued hok b t).banks
  have effect := State.onNote_of_issues (test := fun n => n.op == Op.claim) hok h (State.issues_reads h) (fun _ s => s.claimNote b t)
  rw [State.claimNote_takes (by rw [State.issued_token, free]) (by rw [issued, placed]) (by rw [State.waitsToken_issued ht, alone]) ht]
    at effect
  obtain ⟨token, -, wait, pc⟩ := State.grant_takes (banks.modThread b t (fun k => { k with claimAt := (s.issued b t).now, wait := .claim })) hb ht
  rw [State.thread_modThread banks hb ht] at wait pc
  have stands := (ThreadsStand.refl _).settleBank (s := ((s.issued b t).modThread b t (fun k =>
    { k with claimAt := (s.issued b t).now, wait := .claim })).grant b t) b
  exact ⟨_, congrArg Host.Outcome.next effect, (stands.token b).trans token, (stands.thread b t).wait.trans wait,
    (stands.thread b t).pc.trans (pc.trans (by rw [issued]))⟩

theorem exec_release (hok : s.ok) (h : s.issues b t Op.release) (own : (s.bank b).token = t + 1) :
    ∃ u, exec (.release b t) s = .next u ∧ (u.bank b).token = 0 ∧ (u.thread b t).hv = false
      ∧ (u.thread b t).pc = s.nextPc b t := by
  obtain ⟨hb, ht, -⟩ := id h
  have issued := State.issued_thread hok hb ht
  have effect := State.onNote_of_issues (test := fun n => n.op == Op.release) hok h (State.issues_reads h) (fun _ s => s.releaseToken b t)
  have token : ((s.issued b t).bank b).token = t + 1 := by rw [State.issued_token, own]
  have kept := Kept.issued hok b t
  generalize s.issued b t = i at issued effect token kept
  have released : ∃ u, i.releaseToken b t = (u.modThread b t (fun k => { k with hv := false })).modBank b (fun k => { k with token := 0 })
      ∧ ThreadsStand i u ∧ BanksOk u.banks := by
    unfold State.releaseToken
    rw [if_pos token]
    extract_lets k dropped low
    have drops : ThreadsStand i dropped := .of_eq (.refl i) rfl
    have dropKept : Kept s dropped := Kept.dropOns _ _ _ _ _ kept
    refine ⟨low, rfl, .ite (drops.placeEdge _ _ _ _ _ _) drops, ?_⟩
    exact (Kept.ite (Kept.placeEdge _ _ _ _ _ _ _ dropKept) dropKept).banks
  obtain ⟨u, run, stood, banks⟩ := released
  rw [run] at effect
  generalize hv : (u.modThread b t (fun k => { k with hv := false })).modBank b (fun k => { k with token := 0 }) = v at effect
  have thread : v.thread b t = { u.thread b t with hv := false } := by
    rw [← hv, State.thread_modBank_of_threads (f := fun k => { k with token := 0 }) (fun _ => rfl), State.thread_modThread banks hb ht]
  have given : (v.bank b).token = 0 := by
    rw [← hv, State.bank_modBank, if_pos ⟨rfl, Nat.lt_of_lt_of_eq hb (banks.modThread b t _).1.symm⟩]
  have stands := (ThreadsStand.refl v).settleBank b
  refine ⟨_, congrArg Host.Outcome.next effect, (stands.token b).trans given, ?_, ?_⟩
  · rw [(stands.thread b t).hv, thread]
  · rw [(stands.thread b t).pc, thread]
    exact (stood.thread b t).pc.trans (by rw [issued])

theorem exec_claimDecision (hok : s.ok) (hb : b < 24) (ht : t < 2) (run : (s.thread b t).run = true)
    (claim : (s.thread b t).claiming = true) (due : tbDiff (s.thread b t).claimAt s.now ≤ 0) (free : (s.bank b).token = 0)
    (alone : s.waitsToken b (1 - t) = false) :
    ∃ u, exec (.claimDecision b t) s = .next u ∧ (u.bank b).token = t + 1 ∧ (u.thread b t).claiming = false := by
  have waits : s.waitsToken b t = true := by
    unfold State.waitsToken
    simp [run, claim, due]
  have decided : s.decideClaim b t = s.grant b t :=
    if_pos (by rw [waits, claim, free, State.goesFirst_of_alone alone]; rfl)
  obtain ⟨token, claiming, -⟩ := State.grant_takes (Kept.refl hok).banks hb ht
  have stands := (ThreadsStand.refl (s.grant b t)).settleBank b
  exact ⟨_, congrArg (fun u => Host.Outcome.next (State.settleBank b u)) decided, (stands.token b).trans token,
    (stands.thread b t).claiming.trans claiming⟩

/-- The free token passes to the only thread that waits for it. -/
theorem State.passToken_to (ht : t < 2) (free : (s.bank b).token = 0) (waits : s.waitsToken b t = true)
    (alone : s.waitsToken b (1 - t) = false) : s.passToken b = s.grant b t := by
  have first : (upTo 2).find? (fun i => s.waitsToken b i && s.goesFirst b i) = some t := by
    have here : (s.waitsToken b t && s.goesFirst b t) = true := by rw [waits, State.goesFirst_of_alone alone]; rfl
    have two : upTo 2 = [0, 1] := rfl
    obtain rfl | rfl : t = 0 ∨ t = 1 := by omega
    · simp only [two, List.find?_cons, here]
    · simp only [two, List.find?_cons, show s.waitsToken b 0 = false from alone, Bool.false_and, here]
  unfold State.passToken
  rw [if_neg (by omega), first]

theorem exec_tokenGrant (hok : s.ok) (hb : b < 24) (ht : t < 2) (free : (s.bank b).token = 0) (run : (s.thread b t).run = true)
    (wait : (s.thread b t).wait = .claim) (alone : s.waitsToken b (1 - t) = false) :
    ∃ u, exec (.tokenGrant b) s = .next u ∧ (u.bank b).token = t + 1 ∧ (u.thread b t).wait = .none := by
  have waits : s.waitsToken b t = true := by
    unfold State.waitsToken
    simp [run, wait]
  obtain ⟨token, -, ended, -⟩ := State.grant_takes (Kept.refl hok).banks hb ht
  rw [wait] at ended
  have stands := (ThreadsStand.refl (s.grant b t)).settleBank b
  exact ⟨_, congrArg (fun u => Host.Outcome.next (State.settleBank b u)) (State.passToken_to ht free waits alone),
    (stands.token b).trans token, (stands.thread b t).wait.trans ended⟩

end

/-- Settles O29: the grant by what it leaves of the thread, and the four operations by the state from which they grant or give back. -/
theorem theTokenHasOneHolder : Obligations.TheTokenHasOneHolder := by
  unfold Obligations.TheTokenHasOneHolder
  exact ⟨fun _ _ _ hok h free placed alone => exec_claim hok h free placed alone, fun _ _ _ hok h own => exec_release hok h own,
    fun _ _ _ hok hb ht run claim due free alone => exec_claimDecision hok hb ht run claim due free alone,
    fun _ _ _ hok hb ht free run wait alone => exec_tokenGrant hok hb ht free run wait alone⟩

end Sys2Proof.Machine
end

section
/-! PROOFS. What ends a thread's waits and the thread (R151, R153, R161, R163, R164, R171, R174). -/

namespace Sys2Proof.Machine

section
variable {b t : Nat} {s : State}

/-! A wait that ends -/

/-- The wait ends: the thread goes on at tgt, or at its next note. -/
theorem State.go_settles {u : State} (banks : BanksOk u.banks) (frame : s.onlyIn u [.banks]) (hb : b < 24) (ht : t < 2)
    (tgt : Option Nat) :
    ∃ v, (u.go b t tgt).settleBank b = v
      ∧ ({ u.thread b t with wait := .none, offUntil := none, pc := tgt.getD (u.thread b t).pc } : Thread).Stands (v.thread b t)
      ∧ s.onlyIn v [.regs, .sch, .banks, .cmps] := by
  have stands := ((ThreadsStand.refl (u.go b t tgt)).settleBank b).thread b t
  unfold State.go at stands
  rw [State.thread_modThread banks hb ht] at stands
  exact ⟨_, rfl, stands, Frame.settleBank _ _ (Frame.modThread _ _ _ _ (Frame.mono frame (by decide)) (by decide))
    (by decide) (by decide) (by decide) (by decide)⟩

/-- A time target that is 40 ns ahead is the placement time (R161). -/
theorem exec_waitTargetReached {x : Tb} (hok : s.ok) (hb : b < 24) (ht : t < 2) (run : (s.thread b t).run = true)
    (wait : (s.thread b t).wait = .time x) (near : tbDiff x s.now ≤ 32) :
    ∃ u, exec (.waitTargetReached b t) s = .next u ∧ (u.thread b t).wait = .none ∧ (u.thread b t).place = some x
      ∧ (u.thread b t).pc = (s.thread b t).pc ∧ s.onlyIn u [.regs, .sch, .banks, .cmps] := by
  have banks : BanksOk (s.edueNow b t).banks := (Kept.edueNow b t s (Kept.refl hok)).banks
  obtain ⟨place, edue, due⟩ := State.edueNow_thread hok hb ht
  have reached : s.targetReached b t = ((s.edueNow b t).modThread b t (fun k => { k with place := some x })).go b t none := by
    unfold State.targetReached
    extract_lets k
    rw [if_neg (by rw [show k.run = true from run]; exact Bool.false_ne_true), show k.wait = .time x from wait]
    exact if_pos near
  obtain ⟨u, settled, stands, frame⟩ := State.go_settles (s := s) (u := (s.edueNow b t).modThread b t (fun k => { k with place := some x }))
    (banks.modThread b t _) (Frame.modThread _ _ _ _ (s.edueNow_frame b t) (by decide)) hb ht none
  rw [State.thread_modThread banks hb ht, due] at stands
  exact ⟨u, congrArg Host.Outcome.next ((congrArg (State.settleBank b) reached).trans settled), stands.wait, stands.place, stands.pc,
    frame⟩

/-- A true CA goes on at the next note, a true CB alone at the target (R163). -/
theorem exec_conditionTrue {ca cb tgt : Nat} (hok : s.ok) (hb : b < 24) (ht : t < 2) (run : (s.thread b t).run = true)
    (wait : (s.thread b t).wait = .cond ca cb tgt) (holds : s.cond b t ca = true ∨ s.cond b t cb = true) :
    ∃ u, exec (.conditionTrue b t) s = .next u ∧ (u.thread b t).wait = .none
      ∧ (u.thread b t).pc = (if s.cond b t ca then (s.thread b t).pc else tgt) ∧ s.onlyIn u [.regs, .sch, .banks, .cmps] := by
  have banks : BanksOk (s.edueNow b t).banks := (Kept.edueNow b t s (Kept.refl hok)).banks
  obtain ⟨place, edue, due⟩ := State.edueNow_thread hok hb ht
  have met : s.conditionMet b t = (s.edueNow b t).go b t (if s.cond b t ca then none else some tgt) := by
    unfold State.conditionMet
    extract_lets k
    rw [if_neg (by rw [show k.run = true from run]; exact Bool.false_ne_true), show k.wait = .cond ca cb tgt from wait]
    dsimp only
    split
    · rfl
    · next off => exact if_pos (holds.resolve_left off)
  obtain ⟨u, settled, stands, frame⟩ := State.go_settles banks (s.edueNow_frame b t) hb ht (if s.cond b t ca then none else some tgt)
  refine ⟨u, congrArg Host.Outcome.next ((congrArg (State.settleBank b) met).trans settled), stands.wait, stands.pc.trans ?_, frame⟩
  rw [due]
  dsimp only
  split <;> rfl

/-- The merge watch closes where no released event comes (R164). -/
theorem exec_mergeWatchClose {w : Tb} (hok : s.ok) (hb : b < 24) (ht : t < 2) (run : (s.thread b t).run = true)
    (wait : (s.thread b t).wait = .sus w) (late : tbDiff w s.now ≤ 0) (none : s.nextReleased (s.thread b t).ch = none) :
    ∃ u, exec (.mergeWatchClose b t) s = .next u ∧ (u.thread b t).wait = .none ∧ (u.thread b t).sus = false
      ∧ s.onlyIn u [.regs, .sch, .banks, .cmps] := by
  have closed : s.closeWatch b t = s.modThread b t (fun k => { k with wait := .none, sus := false }) := by
    unfold State.closeWatch
    extract_lets k
    rw [show k.wait = .sus w from wait]
    dsimp only
    rw [if_pos (by rw [show k.run = true from run]; exact decide_eq_true late), show s.nextReleased k.ch = _ from none]
  have stands := ((ThreadsStand.refl (s.modThread b t (fun k => { k with wait := .none, sus := false }))).settleBank b).thread b t
  rw [State.thread_modThread (Kept.refl hok).banks hb ht] at stands
  refine ⟨_, congrArg (fun u => Host.Outcome.next (State.settleBank b u)) closed, stands.wait, stands.sus, ?_⟩
  exact Frame.settleBank _ _ (Frame.modThread _ _ _ _ (Frame.refl s _) (by decide)) (by decide) (by decide) (by decide) (by decide)

/-- An overrun is a fault of cause 4 (R174). -/
theorem exec_phraseOverrun (hok : s.ok) (hb : b < 24) (ht : t < 2) (due : s.overrunDue b t = true) :
    ∃ u, exec (.phraseOverrun b t) s = .next u ∧ (u.thread b t).run = false ∧ u.get F.REED_FAULT_CAUSE = 4
      ∧ s.onlyIn u [.regs, .hif, .sch, .banks, .edges, .adc, .cmps] := by
  obtain ⟨stops, cause, frame⟩ := State.fault_settles hok hb ht (s.thread b t).noteIdx (cause := 4) (by decide)
  exact ⟨_, congrArg Host.Outcome.next (if_pos due), stops, cause, frame⟩

/-! A timer that stops at 0 -/

/-- Timer k of a thread stands at 0 from now on. -/
def Thread.timerStopped (k : Nat) (now : Tb) (x : Thread) : Thread :=
  if k = 0 then { x with t0 := 0, t0At := now } else { x with t1 := 0, t1At := now }

theorem exec_reedTimerZero {k : Nat} (hok : s.ok) (hb : b < 24) (ht : t < 2) (zero : s.timerVal b t k = 0) :
    ∃ u, exec (.reedTimerZero b t k) s = .next u ∧ u.timerVal b t k = 0
      ∧ (u.thread b t) = { s.thread b t with t0 := (u.thread b t).t0, t0At := (u.thread b t).t0At, t1 := (u.thread b t).t1,
                                             t1At := (u.thread b t).t1At } ∧ s.onlyIn u [.banks] := by
  have thread := State.thread_modThread (Kept.refl hok).banks hb ht (Thread.timerStopped k s.now)
  refine ⟨s.modThread b t (Thread.timerStopped k s.now), congrArg Host.Outcome.next (if_pos zero), ?_, ?_,
    Frame.modThread _ _ _ _ (Frame.refl s _) (by decide)⟩
  · unfold State.timerVal
    rw [thread]
    unfold Thread.timerStopped
    split <;> exact Nat.zero_sub _
  · rw [thread]
    unfold Thread.timerStopped
    split <;> rfl

/-! A chop's off phase ends (R186) -/

theorem State.dropSlot_thread (n c d : Nat) (s : State) : (s.dropSlot n).thread c d = s.thread c d :=
  State.thread_modBank_of_threads (f := fun k => { k with slots := k.slots.filter (fun x => x.1 != n) }) (fun _ => rfl) _ _ _

theorem State.thread_of_banks {u : State} (h : u.banks = s.banks) (c d : Nat) : u.thread c d = s.thread c d := by
  unfold State.thread State.bank
  rw [h]

theorem State.noKink_thread (n c d : Nat) (s : State) : (s.noKink n).thread c d = s.thread c d :=
  (State.thread_of_banks (s := (s.count F.DRV_NOKINK_CNT_COUNT).dropSlot n) rfl c d).trans
    ((State.dropSlot_thread n c d _).trans (State.thread_of_banks rfl c d))

theorem State.reopen_thread (n ev c d : Nat) (s : State) : (s.reopen n ev).thread c d = s.thread c d := by
  have reports : ((s.count F.DRV_REOPEN_CNT_COUNT).noKink n).thread c d = s.thread c d :=
    (State.noKink_thread n c d _).trans (State.thread_of_banks rfl c d)
  have cancels : (s.cancelWatch n).thread c d = s.thread c d :=
    (State.thread_of_banks (s := s.dropSlot n) rfl c d).trans (State.dropSlot_thread n c d s)
  unfold State.reopen
  split
  · rfl
  · extract_lets own
    clear_value own
    cases own with
    | some k => exact (apply_ite (fun u : State => u.thread c d) _ _ _).trans (by rw [cancels, reports, ite_self])
    | none => exact reports

theorem State.reopen_chans (n ev : Nat) (s : State) : (s.reopen n ev).sch.chans.length = s.sch.chans.length := by
  have reports : ((s.count F.DRV_REOPEN_CNT_COUNT).noKink n).sch.chans.length = s.sch.chans.length := modAt_length _ _ _
  have cancels : (s.cancelWatch n).sch.chans.length = s.sch.chans.length := modAt_length _ _ _
  unfold State.reopen
  split
  · rfl
  · extract_lets own
    clear_value own
    cases own with
    | some k => exact (apply_ite (fun u : State => u.sch.chans.length) _ _ _).trans (by rw [cancels, reports, ite_self])
    | none => exact reports

/-- A gate that goes on is on, and leaves every thread as it is. -/
theorem State.glOn_opens {n : Nat} (h : n < s.sch.chans.length) (at' : Tb) (ev : Nat) :
    ((s.glOn at' n true ev).chan n).gl = true ∧ (s.glOn at' n true ev).thread b t = s.thread b t := by
  unfold State.glOn
  extract_lets u
  have length : u.sch.chans.length = s.sch.chans.length := by
    unfold u
    split
    · rfl
    · exact State.reopen_chans n ev s
  refine ⟨?_, ?_⟩
  · exact (congrArg Chan.gl ((State.chan_modChan u n n _).trans (if_pos ⟨rfl, by omega⟩)))
  · show u.thread b t = s.thread b t
    unfold u
    split
    · rfl
    · exact State.reopen_thread n ev b t s

/-- A chop that goes on leaves GL on, and every thread as it is. -/
theorem State.chopGl_opens (chans : s.sch.chans.length = 96) (hch : (s.thread b t).ch < 96) (free : s.gatesFree b = true)
    (oc : (s.chan (s.thread b t).ch).oc = false) :
    ((s.chopGl b t true).chan (s.thread b t).ch).gl = true ∧ (s.chopGl b t true).thread b t = s.thread b t := by
  unfold State.chopGl
  extract_lets k c u
  have frame : s.onlyIn u [.cmps] := by
    unfold u
    exact Frame.ite (Frame.loadFine b t s (Frame.refl s _) (by decide)) (Frame.refl s _)
  have sch : u.sch = s.sch := frame .sch (by decide)
  have thread : u.thread b t = s.thread b t := State.thread_of_banks (frame .banks (by decide)) b t
  rw [if_pos rfl]
  by_cases gl : c.gl = true
  · rw [if_neg (by rw [gl]; simp)]
    exact ⟨gl, rfl⟩
  · rw [if_pos (by rw [free, show c.oc = false from oc, (Bool.not_eq_true _).mp gl]; rfl)]
    obtain ⟨opens, stood⟩ := State.glOn_opens (s := u) (b := b) (t := t) (n := k.ch) (by rw [sch, chans]; exact hch) u.now k.ev
    exact ⟨opens, stood.trans thread⟩

/-- A thread that does not regulate changes nothing of its bank as it settles. -/
theorem State.regLook_idle (h : (s.thread b t).wait = .none ∨ (s.thread b t).run = false) : s.regLook b t = s := by
  unfold State.regLook
  extract_lets k
  obtain wait | off := h
  · rw [show k.wait = .none from wait]
  · have off : k.run = false := off
    clear_value k
    cases k.wait with
    | reg chop ca cb tgt => exact if_pos (by rw [off]; rfl)
    | _ => rfl

/-- A bank without a regulating thread settles with its comparators alone. -/
theorem State.settleBank_idle (h : ∀ d, d < 2 → (s.thread b d).wait = .none ∨ (s.thread b d).run = false) :
    s.onlyIn (s.settleBank b) [.regs, .cmps] := by
  unfold State.settleBank
  extract_lets u
  have frame : s.onlyIn u [.regs, .cmps] :=
    Frame.foldl (Frame.refl s _) (fun _ _ k => Frame.setFine _ _ _ k (by decide) (by decide))
  have thread (d : Nat) : u.thread b d = s.thread b d := State.thread_of_banks (frame .banks (by decide)) b d
  have first : u.regLook b 0 = u := State.regLook_idle (by rw [thread]; exact h 0 (by decide))
  have second : u.regLook b 1 = u := State.regLook_idle (by rw [thread]; exact h 1 (by decide))
  rw [first, second]
  exact frame

theorem exec_chopOffTimeEnd {w : Tb} (hok : s.ok) (hb : b < 24) (ht : t < 2) (run : (s.thread b t).run = true)
    (off : (s.thread b t).offUntil = some w) (late : tbDiff w s.now ≤ 0) (wait : (s.thread b t).wait = .none)
    (other : (s.thread b (1 - t)).run = false) (free : s.gatesFree b = true) (own : (s.thread b t).ch / 4 = b)
    (oc : (s.chan (s.thread b t).ch).oc = false) :
    ∃ u, exec (.chopOffTimeEnd b t) s = .next u ∧ (u.thread b t).offUntil = none ∧ (u.chan (s.thread b t).ch).gl = true
      ∧ s.onlyIn u [.regs, .sch, .banks, .cmps] := by
  have banks : BanksOk s.banks := (Kept.refl hok).banks
  have thread := State.thread_modThread banks hb ht (fun k => { k with offUntil := none })
  have beside : (s.modThread b t (fun k => { k with offUntil := none })).thread b (1 - t) = s.thread b (1 - t) :=
    State.thread_modThread_other (.inr (by omega)) _
  have gates : (s.modThread b t (fun k => { k with offUntil := none })).gatesFree b = true := by
    rw [← free]
    unfold State.gatesFree
    have bank : ((s.modThread b t (fun k => { k with offUntil := none })).bank b).oc = (s.bank b).oc := by
      unfold State.modThread
      rw [State.bank_modBank]
      split <;> rfl
    rw [bank]
    rfl
  have run' : exec (.chopOffTimeEnd b t) s
      = .next (((s.modThread b t (fun k => { k with offUntil := none })).chopGl b t true).settleBank b) := by
    refine congrArg Host.Outcome.next ?_
    rw [off]
    exact if_pos (by rw [run]; exact decide_eq_true late)
  have chans : (s.modThread b t (fun k => { k with offUntil := none })).sch.chans.length = 96 := (Kept.refl hok).sch
  have frame : s.onlyIn (s.modThread b t (fun k => { k with offUntil := none })) [.banks] :=
    Frame.modThread _ _ _ _ (Frame.refl s _) (by decide)
  have chan : (s.modThread b t (fun k => { k with offUntil := none })).chan = s.chan := rfl
  generalize s.modThread b t (fun k => { k with offUntil := none }) = i at thread beside gates run' chans frame chan
  have ch : (i.thread b t).ch = (s.thread b t).ch := by rw [thread]
  obtain ⟨opens, stood⟩ := State.chopGl_opens chans (by rw [ch]; omega) gates (by rw [ch, chan]; exact oc)
  have chopped : i.onlyIn (i.chopGl b t true) [.regs, .sch, .banks, .cmps] :=
    Frame.chopGl _ _ _ _ (Frame.refl i _) (by decide) (by decide) (by decide) (by decide)
  have stands : ThreadsStand i (i.chopGl b t true) := (ThreadsStand.refl i).chopGl b t true
  have idle : (i.chopGl b t true).onlyIn ((i.chopGl b t true).settleBank b) [.regs, .cmps] := by
    refine State.settleBank_idle (fun d hd => ?_)
    obtain rfl | rfl : d = t ∨ d = 1 - t := by omega
    · exact .inl (by rw [stood, thread, wait])
    · exact .inr (by rw [(stands.thread b (1 - t)).run, beside, other])
  generalize i.chopGl b t true = v at run' opens stood chopped idle
  have sch : (v.settleBank b).sch = v.sch := idle .sch (by decide)
  have threads : (v.settleBank b).thread b t = v.thread b t := State.thread_of_banks (idle .banks (by decide)) b t
  refine ⟨_, run', ?_, ?_, ?_⟩
  · rw [threads, stood, thread]
  · rw [← ch, ← opens]
    unfold State.chan
    rw [sch]
  · exact Frame.trans (Frame.trans (Frame.mono frame (by decide)) chopped) (Frame.mono idle (by decide))

/-! The phrase store (R151, R171) -/

theorem exec_phraseStoreSync {q : Nat} (hok : s.ok) (hq : q < 4) (syncing : (s.quad q).syncing = true)
    (idle : ∀ i j, i < 6 → j < 2 → (s.thread (6 * q + i) j).run = false) :
    ∃ u, exec (.phraseStoreSync q) s = .next u ∧ u.quad q = { s.quad q with syncing := false, old := [] }
      ∧ (∀ j, j ≠ q → u.quad j = s.quad j) ∧ s.onlyIn u [.quads] := by
  have free : (upTo 6).all (fun i => (upTo 2).all (fun t => !((s.thread (6 * q + i) t).run && (s.thread (6 * q + i) t).old))) = true := by
    refine List.all_eq_true.mpr (fun i hi => List.all_eq_true.mpr (fun j hj => ?_))
    rw [idle i j (mem_upTo.mp hi) (mem_upTo.mp hj)]
    rfl
  have quads : s.quads.length = 4 := (Kept.refl hok).quads
  refine ⟨s.modQuad q (fun x => { x with syncing := false, old := [] }), congrArg Host.Outcome.next (if_pos (by rw [syncing, free]; rfl)),
    (State.quad_modQuad s q q _).trans (if_pos ⟨rfl, by omega⟩), fun j other => ?_, Frame.modQuad _ _ _ (Frame.refl s _) (by decide)⟩
  exact (State.quad_modQuad s q j _).trans (if_neg (fun k => other k.1.symm))

end

/-- Settles O31: each wait that ends by what it gives the thread, which stands as its bank settles. -/
theorem whatEndsAThreadsWait : Obligations.WhatEndsAThreadsWait := by
  unfold Obligations.WhatEndsAThreadsWait
  exact ⟨fun _ _ _ _ hok hb ht run wait near => exec_waitTargetReached hok hb ht run wait near,
    fun _ _ _ _ _ _ hok hb ht run wait holds => exec_conditionTrue hok hb ht run wait holds,
    fun _ _ _ _ hok hb ht run wait late none => exec_mergeWatchClose hok hb ht run wait late none,
    fun _ _ _ hok hb ht due => exec_phraseOverrun hok hb ht due,
    fun _ _ _ _ hok hb ht zero => exec_reedTimerZero hok hb ht zero,
    fun _ _ _ _ hok hb ht run off late wait other free own oc => exec_chopOffTimeEnd hok hb ht run off late wait other free own oc,
    fun _ _ hok hq syncing idle => exec_phraseStoreSync hok hq syncing idle⟩

end Sys2Proof.Machine
end

section
/-! PROOFS. Over-current trips (R24, R25, R181 to R183): what sets a latch, and what its sight by the logic die ends. -/

namespace Sys2Proof.Machine

/-! An alarm that is placed -/

section
variable {s t : State} {n : Nat}

theorem mem_foldAlarm (a : Alarm) (l : List Alarm) : ∃ x ∈ foldAlarm a l, x.id = a.id := by
  unfold foldAlarm
  split
  · next rep =>
    obtain ⟨x, mem, same⟩ := List.any_eq_true.mp rep
    refine ⟨_, List.mem_map_of_mem mem, ?_⟩
    rw [if_pos same]
    exact beq_iff_eq.mp (Bool.and_eq_true_iff.mp same).2
  · exact ⟨_, List.mem_append_right _ (List.mem_singleton_self _), rfl⟩

theorem mem_foldAlarm_of_mem {a : Alarm} {l : List Alarm} (h : ∃ x ∈ l, x.id = n) : ∃ x ∈ foldAlarm a l, x.id = n := by
  obtain ⟨x, mem, id⟩ := h
  unfold foldAlarm
  split
  · refine ⟨_, List.mem_map_of_mem mem, ?_⟩
    rw [← id]
    split <;> rfl
  · exact ⟨x, List.mem_append_left _ mem, id⟩

theorem State.alarmed.of_hif (h : s.alarmed n) (k : t.hif.alarms = s.hif.alarms) : t.alarmed n := by
  unfold State.alarmed
  rw [k]
  exact h

theorem State.alarmed_alarm (id sub data data2 : Nat) (s : State) : (s.alarm id sub data data2).alarmed id := by
  have appended {a : Alarm} : ∃ x ∈ s.hif.alarms ++ [a], x.id = a.id :=
    ⟨a, List.mem_append_right _ (List.mem_singleton_self _), rfl⟩
  unfold State.alarm State.alarmed
  dsimp only
  split
  · split <;> exact mem_foldAlarm _ _
  · split <;> exact appended

theorem State.alarmed.alarm (h : s.alarmed n) (id sub data data2 : Nat) : (s.alarm id sub data data2).alarmed n := by
  have appended {a : Alarm} : ∃ x ∈ s.hif.alarms ++ [a], x.id = n := by
    obtain ⟨x, mem, same⟩ := h
    exact ⟨x, List.mem_append_left _ mem, same⟩
  unfold State.alarm State.alarmed
  dsimp only
  split
  · split <;> exact mem_foldAlarm_of_mem h
  · split <;> exact appended

theorem State.alarmed.raise (h : s.alarmed n) (m : Nat) : (s.raise m).alarmed n := by
  refine h.of_hif ?_
  exact congrArg Hif.alarms (Frame.raise m s (Frame.refl s [.regs, .evc]) (by decide) (by decide) .hif (by decide))

end

/-! What a thread or a LOG output leaves where it ends -/

/-- From s to u no trip latch and no sight of one changes; no thread begins or changes its channel. -/
structure TripsStand (s u : State) : Prop where
  chan : ∀ n, (u.chan n).oc = (s.chan n).oc ∧ (u.chan n).ocSeen = (s.chan n).ocSeen
  bank : ∀ b, (u.bank b).oc = (s.bank b).oc ∧ (u.bank b).ocSeen = (s.bank b).ocSeen
  thread : ∀ b t, (u.thread b t).ch = (s.thread b t).ch ∧ ((u.thread b t).run = true → (s.thread b t).run = true)

section
variable {o s t u : State}

theorem TripsStand.refl (s : State) : TripsStand s s := ⟨fun _ => ⟨rfl, rfl⟩, fun _ => ⟨rfl, rfl⟩, fun _ _ => ⟨rfl, id⟩⟩

theorem TripsStand.of_eq (h : TripsStand o s) (chans : t.sch.chans = s.sch.chans) (banks : t.banks = s.banks) : TripsStand o t := by
  have chan (n : Nat) : t.chan n = s.chan n := by
    unfold State.chan
    rw [chans]
  have bank (b : Nat) : t.bank b = s.bank b := by
    unfold State.bank
    rw [banks]
  exact ⟨fun n => by rw [chan]; exact h.chan n, fun b => by rw [bank]; exact h.bank b,
    fun b i => by rw [State.thread_of_banks banks]; exact h.thread b i⟩

theorem TripsStand.frame {l : List Piece} (h : TripsStand o s) (k : s.onlyIn t l) (out : Piece.sch ∉ l ∧ Piece.banks ∉ l) : TripsStand o t :=
  h.of_eq (congrArg Sch.chans (k .sch out.1)) (k .banks out.2)

theorem TripsStand.ite {c : Prop} [Decidable c] {x y : State} (h : TripsStand o x) (k : TripsStand o y) :
    TripsStand o (if c then x else y) := by
  split <;> assumption

theorem TripsStand.foldl {α : Type} {f : State → α → State} (step : ∀ s x, TripsStand o s → TripsStand o (f s x)) (xs : List α)
    (h : TripsStand o s) : TripsStand o (xs.foldl f s) := by
  induction xs generalizing s with
  | nil => exact h
  | cons x xs ih => exact ih (step s x h)

theorem TripsStand.modChan (h : TripsStand o s) (n : Nat) {f : Chan → Chan}
    (k : ∀ c, (f c).oc = c.oc ∧ (f c).ocSeen = c.ocSeen) : TripsStand o (s.modChan n f) := by
  refine ⟨fun m => ?_, h.bank, h.thread⟩
  rw [State.chan_modChan]
  split
  · rw [(k _).1, (k _).2]
    exact h.chan m
  · exact h.chan m

/-- A bank's operation that leaves its threads and its latch. -/
theorem TripsStand.modBank (h : TripsStand o s) (b : Nat) {f : Bank → Bank} (threads : ∀ k, (f k).threads = k.threads)
    (k : ∀ x, (f x).oc = x.oc ∧ (f x).ocSeen = x.ocSeen) : TripsStand o (s.modBank b f) := by
  refine ⟨h.chan, fun c => ?_, fun c d => by rw [State.thread_modBank_of_threads threads]; exact h.thread c d⟩
  rw [State.bank_modBank]
  split
  · rw [(k _).1, (k _).2]
    exact h.bank c
  · exact h.bank c

theorem TripsStand.modThread (h : TripsStand o s) (b t : Nat) {f : Thread → Thread}
    (k : ∀ x : Thread, (f x).ch = x.ch ∧ ((f x).run = true → x.run = true)) : TripsStand o (s.modThread b t f) := by
  refine ⟨h.chan, fun c => ?_, fun c d => ?_⟩
  · unfold State.modThread
    rw [State.bank_modBank]
    split <;> exact h.bank c
  · unfold State.modThread State.thread
    rw [State.bank_modBank]
    split
    · rw [modAt_getD]
      split
      · exact ⟨(k _).1.trans (h.thread c d).1, fun run => (h.thread c d).2 ((k _).2 run)⟩
      · exact h.thread c d
    · exact h.thread c d

/-! The gates -/

theorem TripsStand.setGl (h : TripsStand o s) (n : Nat) (on : Bool) : TripsStand o (s.setGl n on) := h.modChan n (fun _ => ⟨rfl, rfl⟩)

theorem TripsStand.setGhv (h : TripsStand o s) (b : Nat) (on : Bool) : TripsStand o (s.setGhv b on) :=
  h.modBank b (fun _ => rfl) (fun _ => ⟨rfl, rfl⟩)

theorem TripsStand.setGhb (h : TripsStand o s) (b : Nat) (on : Bool) : TripsStand o (s.setGhb b on) :=
  h.modBank b (fun _ => rfl) (fun _ => ⟨rfl, rfl⟩)

theorem TripsStand.modEvent (h : TripsStand o s) (id : Nat) (f : Event → Event) : TripsStand o (s.modEvent id f) := h.of_eq rfl rfl

theorem TripsStand.offEvent (h : TripsStand o s) (t : Tb) (n id : Nat) : TripsStand o (s.offEvent t n id) := by
  unfold State.offEvent
  extract_lets root u
  have ended : TripsStand o u := .foldl (fun _ _ k => k.modEvent _ _) _ h
  exact ended.modChan n (fun _ => ⟨rfl, rfl⟩)

theorem TripsStand.modeSettle (h : TripsStand o s) (n : Nat) : TripsStand o (s.modeSettle n) := by
  refine .ite ?_ h
  have settled : TripsStand o (s.modChan n (fun c => { c with gl := false, modeHeld := none })) := h.modChan n (fun _ => ⟨rfl, rfl⟩)
  exact .ite (settled.modChan n (fun _ => ⟨rfl, rfl⟩)) settled

theorem TripsStand.dropSlot (h : TripsStand o s) (n : Nat) : TripsStand o (s.dropSlot n) :=
  h.modBank _ (fun _ => rfl) (fun _ => ⟨rfl, rfl⟩)

theorem TripsStand.deliver (h : TripsStand o s) (n : Nat) (rep : Closing) : TripsStand o (s.deliver n rep) := by
  have told : TripsStand o (s.modChan n (fun c => { c with report := some rep })) := h.modChan n (fun _ => ⟨rfl, rfl⟩)
  exact told.of_eq rfl rfl

theorem TripsStand.noKink (h : TripsStand o s) (n : Nat) : TripsStand o (s.noKink n) :=
  ((h.of_eq (t := s.count F.DRV_NOKINK_CNT_COUNT) rfl rfl).dropSlot n).deliver n .noKink

theorem TripsStand.cancelWatch (h : TripsStand o s) (n : Nat) : TripsStand o (s.cancelWatch n) :=
  (h.dropSlot n).modChan n (fun _ => ⟨rfl, rfl⟩)

theorem TripsStand.reopen (h : TripsStand o s) (n ev : Nat) : TripsStand o (s.reopen n ev) := by
  have reports : TripsStand o ((s.count F.DRV_REOPEN_CNT_COUNT).noKink n) :=
    (h.of_eq (t := s.count F.DRV_REOPEN_CNT_COUNT) rfl rfl).noKink n
  unfold State.reopen
  split
  · exact h
  · extract_lets own
    clear_value own
    cases own with
    | some k => exact .ite (h.cancelWatch n) reports
    | none => exact reports

theorem TripsStand.glOn (h : TripsStand o s) (t : Tb) (n : Nat) (level : Bool) (ev : Nat) : TripsStand o (s.glOn t n level ev) := by
  unfold State.glOn
  extract_lets u
  have opened : TripsStand o u := .ite h (h.reopen n ev)
  exact (opened.setGl n level).of_eq rfl rfl

theorem TripsStand.markOff (h : TripsStand o s) (n ev : Nat) : TripsStand o (s.markOff n ev) := by
  unfold State.markOff
  split
  · exact h.modThread _ _ (fun _ => ⟨rfl, id⟩)
  · exact h

theorem TripsStand.startWatch (h : TripsStand o s) (n : Nat) : TripsStand o (s.startWatch n) := by
  unfold State.startWatch
  extract_lets off u
  have noted : TripsStand o u := h.modChan n (fun _ => ⟨rfl, rfl⟩)
  exact .ite (.ite (noted.modBank _ (fun _ => rfl) (fun _ => ⟨rfl, rfl⟩))
    ((noted.of_eq (t := u.count F.DRV_CLOSE_BUSY_CNT_COUNT) rfl rfl).noKink n)) (noted.deliver n .noWatch)

theorem TripsStand.glOff (h : TripsStand o s) (t : Tb) (n ev : Nat) : TripsStand o (s.glOff t n ev) := by
  have watched {u : State} (k : TripsStand o u) : TripsStand o (((u.markOff n ev).startWatch n).modeSettle n) :=
    ((k.markOff n ev).startWatch n).modeSettle n
  unfold State.glOff
  exact .ite (watched ((h.setGl n false).offEvent t n ev)) (.ite (watched h) (h.modeSettle n))

/-- A high-side gate goes low, and its event's time ends. -/
theorem TripsStand.highOff (h : TripsStand o s) (x : Edge) :
    TripsStand o (match s.event x.ev with | some e => s.offEvent x.at' e.ch x.ev | none => s) := by
  cases s.event x.ev with
  | some e => exact h.offEvent _ _ _
  | none => exact h

theorem TripsStand.applyEdge (h : TripsStand o s) (x : Edge) : TripsStand o (s.applyEdge x) := by
  unfold State.applyEdge
  cases x.gate with
  | gl n => exact .ite (.ite (h.glOn _ _ _ _) h) (.ite ((h.setGl _ _).offEvent _ _ _) (h.glOff _ _ _))
  | ghv b => exact .ite (.ite ((h.setGhv b true).of_eq rfl rfl) h) ((h.setGhv _ _).highOff x)
  | ghb b => exact .ite (.ite ((h.setGhb b true).of_eq rfl rfl) h) ((h.setGhb _ _).highOff x)

theorem TripsStand.placeEdge (h : TripsStand o s) (at' : Option Tb) (g : Gate) (on : Bool) (b : Nat) (th : Option Nat) (ev : Nat) :
    TripsStand o (s.placeEdge at' g on b th ev) := by
  unfold State.placeEdge
  cases at' with
  | none => exact h.applyEdge _
  | some t => exact .ite (h.of_eq rfl rfl) (h.applyEdge _)

/-! A bank that settles -/

theorem TripsStand.chopGl (h : TripsStand o s) (b t : Nat) (on : Bool) : TripsStand o (s.chopGl b t on) := by
  unfold State.chopGl
  extract_lets k c u
  have loaded : TripsStand o u := .ite (h.frame (Frame.loadFine b t s (Frame.refl s [.cmps]) (by decide)) (by decide)) h
  exact .ite (.ite (loaded.glOn _ _ _ _) h) (.ite ((h.setGl _ _).offEvent _ _ _) h)

theorem TripsStand.chopGhb (h : TripsStand o s) (b t : Nat) (on : Bool) : TripsStand o (s.chopGhb b t on) :=
  .ite (.ite ((h.setGhb b true).of_eq rfl rfl) h) (.ite ((h.setGhb _ _).offEvent _ _ _) h)

theorem TripsStand.startOff (h : TripsStand o s) (b t : Nat) : TripsStand o (s.startOff b t) :=
  (h.chopGl b t false).modThread b t (fun _ => ⟨rfl, id⟩)

theorem TripsStand.regLook (h : TripsStand o s) (b t : Nat) : TripsStand o (s.regLook b t) := by
  unfold State.regLook
  extract_lets k commanded vds chopped pk freed
  have h1 : TripsStand o commanded := h.modThread b t (fun _ => ⟨rfl, id⟩)
  have h2 : TripsStand o vds := .ite (h1.chopGhb _ _ _) h1
  have h3 : TripsStand o chopped := h2.chopGl _ _ _
  have h4 : TripsStand o freed :=
    .ite ((h.modThread b t (f := fun k => { k with offUntil := none }) (fun _ => ⟨rfl, id⟩)).chopGl _ _ _) h
  clear_value commanded vds chopped freed k
  cases k.wait with
  | reg chop ca cb tgt =>
    refine .ite h (.ite ?onVds (.ite ?onGl ?onGhb))
    case onVds =>
      cases k.offUntil with
      | some w => exact h2
      | none => exact .ite (h3.startOff _ _) h3
    case onGl =>
      cases k.offUntil with
      | some w => exact h
      | none => exact .ite (h.startOff _ _) (h.chopGl _ _ _)
    case onGhb => exact .ite (h4.chopGhb _ _ _) (.ite (h4.chopGhb _ _ _) h4)
  | _ => exact h

theorem TripsStand.settleBank (h : TripsStand o s) (b : Nat) : TripsStand o (s.settleBank b) := by
  unfold State.settleBank
  extract_lets u
  have fine : TripsStand o u :=
    .foldl (fun s _ k => k.frame (Frame.setFine _ _ s (Frame.refl s [.regs, .cmps]) (by decide) (by decide)) (by decide)) _ h
  exact (fine.regLook b 0).regLook b 1

/-! A thread or a LOG output ends -/

theorem TripsStand.gatesLow (h : TripsStand o s) (watch : Bool) (b t : Nat) : TripsStand o (s.gatesLow watch b t) := by
  unfold State.gatesLow
  extract_lets k gl withdrawn high low
  have h1 : TripsStand o withdrawn := (h.of_eq (t := s.withdraw b t) rfl rfl).modThread b t (fun _ => ⟨rfl, id⟩)
  have h2 : TripsStand o high := h1.setGhv _ _
  have h3 : TripsStand o low := h2.setGhb _ _
  exact .ite h3 (.ite (h3.glOff _ _ _) (.ite ((h3.setGl _ _).offEvent _ _ _) h3))

theorem TripsStand.dropGates (h : TripsStand o s) (b t : Nat) : TripsStand o (s.dropGates b t) :=
  .ite ((h.gatesLow false b t).cancelWatch _) (h.gatesLow false b t)

theorem TripsStand.releaseToken (h : TripsStand o s) (b t : Nat) : TripsStand o (s.releaseToken b t) := by
  unfold State.releaseToken
  extract_lets k dropped low
  have drops : TripsStand o dropped := h.of_eq rfl rfl
  have h1 : TripsStand o low := .ite (drops.placeEdge _ _ _ _ _ _) drops
  have h2 : TripsStand o (low.modThread b t (fun k => { k with hv := false })) := h1.modThread b t (fun _ => ⟨rfl, id⟩)
  exact .ite (h2.modBank b (f := fun k => { k with token := 0 }) (fun _ => rfl) (fun _ => ⟨rfl, rfl⟩)) h

theorem TripsStand.closeThreadWins (h : TripsStand o s) (b t : Nat) : TripsStand o (s.closeThreadWins b t) := by
  unfold State.closeThreadWins
  refine TripsStand.modThread (.foldl (fun s w k => ?_) _ h) b t (fun _ => ⟨rfl, id⟩)
  exact .ite (k.frame (Frame.closeWin _ _ _ _ s (Frame.refl s [.regs, .hif, .adc]) (by decide) (by decide) (by decide)) (by decide)) k

theorem TripsStand.freeThread (h : TripsStand o s) (b t : Nat) : TripsStand o (s.freeThread b t) := by
  unfold State.freeThread
  extract_lets n
  refine TripsStand.modeSettle (TripsStand.modThread h b t (fun _ => ⟨?_, fun on => ?_⟩)) n
  · rfl
  · cases on

theorem TripsStand.killThread (h : TripsStand o s) (b t : Nat) (f : Event → Event) : TripsStand o (s.killThread b t f) := by
  unfold State.killThread
  extract_lets k dropped closed ended
  have h1 : TripsStand o closed := ((h.dropGates b t).releaseToken b t).closeThreadWins b t
  have h2 : TripsStand o ended := h1.of_eq rfl rfl
  exact .ite (h2.freeThread b t) h

theorem TripsStand.killLog (h : TripsStand o s) (n : Nat) (level : Bool) (f : Event → Event) : TripsStand o (s.killLog n level f) := by
  unfold State.killLog
  split
  · extract_lets dropped low
    have dropped' : TripsStand o dropped := h.of_eq rfl rfl
    have low' : TripsStand o low := (dropped'.setGl n level).offEvent _ _ _
    exact .ite ((low'.modEvent _ _).modeSettle n) h
  · exact h

theorem TripsStand.tripEnd (h : TripsStand o s) (n : Nat) : TripsStand o (s.tripEnd n) := by
  unfold State.tripEnd
  extract_lets u
  have ended : TripsStand o u := .foldl (fun _ t k => k.killThread (n / 4) t markOc) _ h
  exact (ended.killLog n false markOc).settleBank (n / 4)

theorem TripsStand.trans (h : TripsStand o s) (k : TripsStand s t) : TripsStand o t :=
  ⟨fun n => ⟨(k.chan n).1.trans (h.chan n).1, (k.chan n).2.trans (h.chan n).2⟩,
    fun b => ⟨(k.bank b).1.trans (h.bank b).1, (k.bank b).2.trans (h.bank b).2⟩,
    fun b i => ⟨(k.thread b i).1.trans (h.thread b i).1, fun run => (h.thread b i).2 ((k.thread b i).2 run)⟩⟩

end

/-! The operations -/

section
variable {s : State}

/-- Once the threads of a list are ended, none of it runs. -/
theorem State.killThreads_stop {b : Nat} (hok : s.ok) (hb : b < 24) (f : Event → Event) {ts : List Nat} (two : ∀ t ∈ ts, t < 2) :
    ∀ t ∈ ts, ((ts.foldl (fun (s : State) t => s.killThread b t f) s).thread b t).run = false := by
  induction ts generalizing s with
  | nil => intro t mem; cases mem
  | cons x xs ih =>
    intro t mem
    have kept : (s.killThread b x f).ok := (Kept.killThread b x f s (Kept.refl hok)).ok
    have rest : ∀ t ∈ xs, t < 2 := fun t h => two t (List.mem_cons_of_mem x h)
    obtain rfl | mem := List.mem_cons.mp mem
    · have off := State.killThread_stops hok hb (two t (List.mem_cons_self ..)) f
      have stands : TripsStand (s.killThread b t f) (xs.foldl (fun (s : State) t => s.killThread b t f) (s.killThread b t f)) :=
        .foldl (fun _ t k => k.killThread b t f) _ (.refl _)
      refine Bool.eq_false_iff.mpr (fun on => ?_)
      rw [(stands.thread b t).2 on] at off
      cases off
    · exact ih kept rest t mem

/-- After a channel's trip is seen no thread on the channel runs. -/
theorem State.tripEnd_stops {n i : Nat} (hok : s.ok) (hn : n < 96) (hi : i < 2) (run : ((s.tripEnd n).thread (n / 4) i).run = true) :
    ((s.tripEnd n).thread (n / 4) i).ch ≠ n := by
  unfold State.tripEnd at run ⊢
  extract_lets ended at run
  have killed : TripsStand s ended := .foldl (fun _ t k => k.killThread (n / 4) t markOc) _ (.refl s)
  have rest : TripsStand ended ((ended.killLog n false markOc).settleBank (n / 4)) :=
    ((TripsStand.refl ended).killLog n false markOc).settleBank (n / 4)
  have on := (rest.thread (n / 4) i).2 run
  intro ch
  have mem : i ∈ s.threadsOn n := by
    refine List.mem_filter.mpr ⟨mem_upTo.mpr hi, ?_⟩
    rw [(killed.thread (n / 4) i).2 on, ((killed.trans rest).thread (n / 4) i).1.symm.trans ch]
    exact beq_self_eq_true n
  have off : (ended.thread (n / 4) i).run = false := State.killThreads_stop hok (show n / 4 < 24 by omega) markOc
    (fun t h => mem_upTo.mp (List.mem_of_mem_filter h)) i mem
  rw [on] at off
  cases off

theorem State.offEvent_chans (t : Tb) (n id : Nat) (s : State) :
    (s.offEvent t n id).sch.chans = modAt s.sch.chans n (fun c => { c with lastEnd := some t }) := by
  unfold State.offEvent
  extract_lets root u
  have chans (es : List Event) (f : State → Event → Event) :
      (es.foldl (fun (s : State) e => s.modEvent e.id (f s)) s).sch.chans = s.sch.chans := by
    clear u
    induction es generalizing s with
    | nil => rfl
    | cons e es ih => exact ih (s.modEvent e.id (f s))
  have same : u.sch.chans = s.sch.chans :=
    chans _ (fun s x => { x with endT := t, endAng := s.ang.at', angValid := x.angValid && s.clockRuns })
  exact congrArg (fun l => modAt l n (fun c => { c with lastEnd := some t })) same

/-- From s to u channel n's GL is low, its trip latch stands, and no other channel changes. -/
structure PulledLow (n : Nat) (s u : State) : Prop where
  gl : (u.chan n).gl = false
  oc : (u.chan n).oc = (s.chan n).oc
  other : ∀ m, m ≠ n → u.chan m = s.chan m
  chans : u.sch.chans.length = s.sch.chans.length

theorem PulledLow.offEvent {n : Nat} {u : State} (h : PulledLow n s u) (t : Tb) (id : Nat) : PulledLow n s (u.offEvent t n id) := by
  have chans := State.offEvent_chans t n id u
  have chan (m : Nat) : (u.offEvent t n id).chan m
      = if n = m ∧ m < u.sch.chans.length then { u.chan m with lastEnd := some t } else u.chan m := by
    unfold State.chan
    rw [chans, modAt_getD]
  refine ⟨?_, ?_, fun m other => ?_, ?_⟩
  · rw [chan, ← h.gl]
    split <;> rfl
  · rw [chan, ← h.oc]
    split <;> rfl
  · rw [chan, if_neg (fun k => other k.1.symm), h.other m other]
  · rw [chans, modAt_length, h.chans]

theorem State.pullGl_low {n : Nat} (hn : n < s.sch.chans.length) : PulledLow n s (s.pullGl n) := by
  unfold State.pullGl
  extract_lets u
  have low : PulledLow n s u := by
    have chan (m : Nat) : u.chan m = if n = m ∧ m < s.sch.chans.length then
        { s.chan m with gl := false, offAt := if (s.chan m).gl then some s.now else (s.chan m).offAt } else s.chan m :=
      State.chan_modChan s n m _
    have own := (chan n).trans (if_pos ⟨rfl, hn⟩)
    refine ⟨by rw [own], by rw [own], fun m other => ?_, modAt_length _ _ _⟩
    exact (chan m).trans (if_neg (fun k => other k.1.symm))
  split
  · split
    · exact low.offEvent _ _
    · exact low
  · next off => exact ⟨(Bool.not_eq_true _).mp off, rfl, fun _ _ => rfl, rfl⟩

/-- A gate of a list goes low, and stays low while the others of it are pulled. -/
theorem State.pullAll_low {b n : Nat} {is : List Nat} (bound : ∀ i ∈ is, 4 * b + i < s.sch.chans.length)
    (h : (s.chan n).gl = false ∨ ∃ i ∈ is, 4 * b + i = n) :
    ((is.foldl (fun (s : State) i => s.pullGl (4 * b + i)) s).chan n).gl = false := by
  induction is generalizing s with
  | nil => exact h.resolve_right (fun ⟨_, mem, _⟩ => (List.not_mem_nil mem))
  | cons x xs ih =>
    have pulled := State.pullGl_low (bound x (List.mem_cons_self ..))
    refine ih (fun i mem => by rw [pulled.chans]; exact bound i (List.mem_cons_of_mem x mem)) ?_
    by_cases own : 4 * b + x = n
    · exact .inl (own ▸ pulled.gl)
    · refine h.imp (fun low => ?_) (fun ⟨i, mem, is⟩ => ?_)
      · rw [pulled.other n (fun k => own k.symm), low]
      · exact ⟨i, (List.mem_cons.mp mem).resolve_left (fun k => own (k ▸ is)), is⟩

/-- What a trip counts: one more than before it. -/
theorem State.tripCounted {u : State} {f : Fld} (hok : s.ok) (h : u.regs = s.regs) (fits : f.lo + f.w ≤ 32) (mark : Same → Same) :
    ((u.count f).inCycle mark).get f = min (s.get f + 1) (2 ^ f.w - 1) := by
  have counted : (u.count f).get f = min (u.get f + 1) (2 ^ f.w - 1) :=
    State.get_count u f (by rw [h]; exact (Kept.refl hok).regs.live) fits
  have same : u.get f = s.get f := by
    unfold State.get State.word
    rw [h]
  rw [same] at counted
  exact counted

theorem State.chUsable_lt {n : Nat} (h : s.chUsable n = true) : n < 96 := by
  have ranged : n < s.part.channels := of_decide_eq_true (Bool.and_eq_true_iff.mp h).1
  have most : s.part.channels ≤ 96 := by cases s.part <;> decide
  omega

theorem State.ocJudged_lt {n : Nat} (h : s.ocJudged n = true) : n < 96 := by
  unfold State.ocJudged at h
  simp only [Bool.and_eq_true] at h
  obtain ⟨⟨⟨usable, -⟩, -⟩, -⟩ := h
  exact State.chUsable_lt usable

theorem State.hsJudged_lt {b : Nat} {boost : Bool} (h : s.hsJudged b boost = true) : b < 24 := by
  unfold State.hsJudged at h
  simp only [Bool.and_eq_true, decide_eq_true_eq] at h
  obtain ⟨⟨ranged, -⟩, -⟩ := h
  have most : s.part.banks ≤ 24 := by cases s.part <;> decide
  omega

theorem exec_channelOcTrip {n : Nat} (hok : s.ok) (h : s.ocJudged n = true) :
    ∃ t, exec (.channelOcTrip n) s = .next t ∧ (t.chan n).oc = true ∧ (t.chan n).gl = false
      ∧ (∀ m, m ≠ n → t.chan m = s.chan m)
      ∧ t.get F.DRV_OC_CNT_COUNT = min (s.get F.DRV_OC_CNT_COUNT + 1) 0xFFFFFFFF ∧ s.onlyIn t [.regs, .sch, .banks] := by
  have hn := State.ocJudged_lt h
  have chans : s.sch.chans.length = 96 := (Kept.refl hok).sch
  have latch (m : Nat) := State.chan_modChan s n m (fun c => { c with oc := true, ocSeen := false })
  have length : (s.modChan n (fun c => { c with oc := true, ocSeen := false })).sch.chans.length = 96 := by
    rw [← chans]
    exact modAt_length _ _ _
  have frame : s.onlyIn (s.modChan n (fun c => { c with oc := true, ocSeen := false })) [.sch] :=
    Frame.modChan _ _ _ (Frame.refl s _) (by decide)
  have run : exec (.channelOcTrip n) s = _ := congrArg Host.Outcome.next (if_pos h)
  generalize s.modChan n (fun c => { c with oc := true, ocSeen := false }) = u at latch length frame run
  have pulled := State.pullGl_low (s := u) (n := n) (by omega)
  have frame : s.onlyIn (u.pullGl n) [.sch] := Frame.pullGl n u frame (by decide)
  refine ⟨_, run, ?_, pulled.gl, fun m other => ?_, State.tripCounted hok (frame .regs (by decide)) (by decide) _, ?_⟩
  · exact pulled.oc.trans (congrArg Chan.oc ((latch n).trans (if_pos ⟨rfl, by omega⟩)))
  · exact (pulled.other m other).trans ((latch m).trans (if_neg (fun k => other k.1.symm)))
  · exact Frame.inCycle _ _ (Frame.count _ _ (Frame.mono frame (by decide)) (by decide)) (by decide)

theorem exec_highSideOcTrip {b : Nat} {boost : Bool} (hok : s.ok) (h : s.hsJudged b boost = true) :
    ∃ t, exec (.highSideOcTrip b boost) s = .next t ∧ (t.bank b).oc = true ∧ (t.bank b).ghv = false ∧ (t.bank b).ghb = false
      ∧ (∀ i, i < 4 → (t.chan (4 * b + i)).gl = false) ∧ (∀ c, c ≠ b → t.bank c = s.bank c)
      ∧ t.get F.DRV_BKOC_CNT_COUNT = min (s.get F.DRV_BKOC_CNT_COUNT + 1) 0xFFFFFFFF ∧ s.onlyIn t [.regs, .sch, .banks] := by
  have hb := State.hsJudged_lt h
  have banks : s.banks.length = 24 := (Kept.refl hok).banks.1
  have chans : s.sch.chans.length = 96 := (Kept.refl hok).sch
  have latch (c : Nat) := State.bank_modBank s b c (fun k => { k with oc := true, ocSeen := false, ghv := false, ghb := false })
  have frame : s.onlyIn (s.modBank b (fun k => { k with oc := true, ocSeen := false, ghv := false, ghb := false })) [.banks] :=
    Frame.modBank _ _ _ (Frame.refl s _) (by decide)
  have run : exec (.highSideOcTrip b boost) s = _ := congrArg Host.Outcome.next (if_pos h)
  dsimp only at run
  generalize s.modBank b (fun k => { k with oc := true, ocSeen := false, ghv := false, ghb := false }) = u at latch frame run
  have pulled : u.onlyIn ((upTo 4).foldl (fun (s : State) i => s.pullGl (4 * b + i)) u) [.sch] :=
    Frame.foldl (Frame.refl u _) (fun _ _ k => Frame.pullGl _ _ k (by decide))
  have low (i : Nat) (hi : i < 4) : (((upTo 4).foldl (fun (s : State) i => s.pullGl (4 * b + i)) u).chan (4 * b + i)).gl = false := by
    have bound : u.sch.chans.length = 96 := by rw [show u.sch = s.sch from frame .sch (by decide), chans]
    refine State.pullAll_low (fun j mem => ?_) (.inr ⟨i, mem_upTo.mpr hi, rfl⟩)
    have := mem_upTo.mp mem
    omega
  generalize (upTo 4).foldl (fun (s : State) i => s.pullGl (4 * b + i)) u = v at run pulled low
  have bank (c : Nat) : v.bank c = u.bank c := by
    unfold State.bank
    rw [show v.banks = u.banks from pulled .banks (by decide)]
  have own : v.bank b = { s.bank b with oc := true, ocSeen := false, ghv := false, ghb := false } :=
    (bank b).trans ((latch b).trans (if_pos ⟨rfl, by omega⟩))
  have whole : s.onlyIn v [.sch, .banks] := Frame.trans (Frame.mono frame (by decide)) (Frame.mono pulled (by decide))
  refine ⟨_, run, congrArg Bank.oc own, congrArg Bank.ghv own, congrArg Bank.ghb own, low, fun c other => ?_,
    State.tripCounted hok (whole .regs (by decide)) (by decide) _, ?_⟩
  · exact (bank c).trans ((latch c).trans (if_neg (fun k => other k.1.symm)))
  · exact Frame.inCycle _ _ (Frame.count _ _ (Frame.mono whole (by decide)) (by decide)) (by decide)

/-- What the sight of a trip reports, once the affected threads are ended. -/
theorem State.sightReported (o u : State) (id sub data : Nat)
    (h : o.onlyIn u [.regs, .hif, .evc, .sch, .banks, .edges, .adc, .cmps]) :
    TripsStand u ((u.alarm id sub data 0).raise id) ∧ ((u.alarm id sub data 0).raise id).alarmed id
      ∧ o.onlyIn ((u.alarm id sub data 0).raise id) [.regs, .hif, .evc, .sch, .banks, .edges, .adc, .cmps] := by
  have frame (v : State) (l : List Piece) (k : v.onlyIn u l) (regs : Piece.regs ∈ l) (hif : Piece.hif ∈ l) (evc : Piece.evc ∈ l) :
      v.onlyIn ((u.alarm id sub data 0).raise id) l := Frame.raise _ _ (Frame.alarm _ _ _ _ _ k regs hif) regs evc
  exact ⟨(TripsStand.refl u).frame (frame u [.regs, .hif, .evc] (Frame.refl u _) (by decide) (by decide) (by decide)) (by decide),
    (State.alarmed_alarm id sub data 0 u).raise id, frame o _ h (by decide) (by decide) (by decide)⟩

theorem exec_tripLatchSeen_channel {n : Nat} (hok : s.ok) (hn : n < 96) (oc : (s.chan n).oc = true) (unseen : (s.chan n).ocSeen = false) :
    ∃ t, exec (.tripLatchSeen (.channel n)) s = .next t ∧ (t.chan n).oc = true ∧ (t.chan n).ocSeen = true
      ∧ (∀ i, i < 2 → (t.thread (n / 4) i).run = true → (t.thread (n / 4) i).ch ≠ n) ∧ t.alarmed (8 + n / 24)
      ∧ s.onlyIn t [.regs, .hif, .evc, .sch, .banks, .edges, .adc, .cmps] := by
  have chans : s.sch.chans.length = 96 := (Kept.refl hok).sch
  have seen := (State.chan_modChan s n n (fun c => { c with ocSeen := true })).trans (if_pos ⟨rfl, by omega⟩)
  have run : exec (.tripLatchSeen (.channel n)) s = _ := congrArg Host.Outcome.next (if_pos (by rw [oc, unseen]; rfl))
  have kept : Kept s (s.modChan n (fun c => { c with ocSeen := true })) := Kept.modChan _ _ _ (Kept.refl hok)
  have frame : s.onlyIn (s.modChan n (fun c => { c with ocSeen := true })) [.sch] := Frame.modChan _ _ _ (Frame.refl s _) (by decide)
  generalize s.modChan n (fun c => { c with ocSeen := true }) = u at seen run kept frame
  have stands : TripsStand u (u.tripEnd n) := (TripsStand.refl u).tripEnd n
  have stops := fun i hi => State.tripEnd_stops (s := u) (n := n) (i := i) kept.ok hn hi
  have frame : s.onlyIn (u.tripEnd n) [.regs, .hif, .sch, .banks, .edges, .adc, .cmps] :=
    Frame.tripEnd n u (Frame.mono frame (by decide)) (by decide) (by decide) (by decide) (by decide) (by decide) (by decide) (by decide)
  generalize u.tripEnd n = v at run stands stops frame
  obtain ⟨told, alarmed, whole⟩ := State.sightReported s v (8 + n / 24) 0 n (Frame.mono frame (by decide))
  refine ⟨_, run, ?_, ?_, fun i hi on => ?_, alarmed, whole⟩
  · rw [(told.chan n).1, (stands.chan n).1, seen]
    exact oc
  · rw [(told.chan n).2, (stands.chan n).2, seen]
  · rw [(told.thread (n / 4) i).1]
    exact stops i hi ((told.thread (n / 4) i).2 on)

theorem exec_tripLatchSeen_bank {b : Nat} (hok : s.ok) (hb : b < 24) (oc : (s.bank b).oc = true) (unseen : (s.bank b).ocSeen = false) :
    ∃ t, exec (.tripLatchSeen (.bank b)) s = .next t ∧ (t.bank b).oc = true ∧ (t.bank b).ocSeen = true ∧ t.alarmed (8 + b / 6)
      ∧ s.onlyIn t [.regs, .hif, .evc, .sch, .banks, .edges, .adc, .cmps] := by
  have banks : s.banks.length = 24 := (Kept.refl hok).banks.1
  have seen := (State.bank_modBank s b b (fun k => { k with ocSeen := true })).trans (if_pos ⟨rfl, by omega⟩)
  have run : exec (.tripLatchSeen (.bank b)) s = _ := congrArg Host.Outcome.next (if_pos (by rw [oc, unseen]; rfl))
  have frame : s.onlyIn (s.modBank b (fun k => { k with ocSeen := true })) [.banks] := Frame.modBank _ _ _ (Frame.refl s _) (by decide)
  generalize s.modBank b (fun k => { k with ocSeen := true }) = u at seen run frame
  have stands : TripsStand u ((upTo 4).foldl (fun (s : State) i => s.tripEnd (4 * b + i)) u) :=
    .foldl (fun _ _ k => k.tripEnd _) _ (.refl u)
  have frame : s.onlyIn ((upTo 4).foldl (fun (s : State) i => s.tripEnd (4 * b + i)) u)
      [.regs, .hif, .evc, .sch, .banks, .edges, .adc, .cmps] :=
    Frame.foldl (Frame.mono frame (by decide)) (fun x _ k => Frame.tripEnd _ x k (by decide) (by decide) (by decide) (by decide)
      (by decide) (by decide) (by decide))
  generalize (upTo 4).foldl (fun (s : State) i => s.tripEnd (4 * b + i)) u = v at run stands frame
  obtain ⟨told, alarmed, whole⟩ := State.sightReported s v (8 + b / 6) 1 b frame
  refine ⟨_, run, ?_, ?_, alarmed, whole⟩
  · rw [(told.bank b).1, (stands.bank b).1, seen]
    exact oc
  · rw [(told.bank b).2, (stands.bank b).2, seen]

theorem exec_tripLatchSeen_guardian {g : Nat} (hok : s.ok) (hg : g < 8) (trip : (s.grd g).trip = true)
    (unseen : (s.grd g).tripSeen = false) :
    ∃ t, exec (.tripLatchSeen (.guardian g)) s = .next t ∧ t.grd g = { s.grd g with tripSeen := true }
      ∧ (∀ j, j ≠ g → t.grd j = s.grd j) ∧ s.onlyIn t [.grds] := by
  have grds : s.grds.length = 8 := (Kept.refl hok).grds.1
  refine ⟨s.modGrd g (fun x => { x with tripSeen := true }), congrArg Host.Outcome.next (if_pos (by rw [trip, unseen]; rfl)),
    (State.grd_modGrd s g g _).trans (if_pos ⟨rfl, by omega⟩), fun j other => ?_, Frame.modGrd _ _ _ (Frame.refl s _) (by decide)⟩
  exact (State.grd_modGrd s g j _).trans (if_neg (fun k => other k.1.symm))

end

/-- Settles O32: the gates that a trip pulls, and what its sight ends, with the latches standing. -/
theorem overCurrentTripsHold : Obligations.OverCurrentTripsHold := by
  unfold Obligations.OverCurrentTripsHold
  exact ⟨fun _ _ hok h => exec_channelOcTrip hok h, fun _ _ _ hok h => exec_highSideOcTrip hok h,
    fun _ _ hok hn oc unseen => exec_tripLatchSeen_channel hok hn oc unseen,
    fun _ _ hok hb oc unseen => exec_tripLatchSeen_bank hok hb oc unseen,
    fun _ _ hok hg trip unseen => exec_tripLatchSeen_guardian hok hg trip unseen⟩

end Sys2Proof.Machine
end

section
/-! PROOFS. The result of an event whose quadrant's converter is marked failed (R30, R213): the measured fields are left out. -/

namespace Sys2Proof.Machine

/-- An ended event of channel 0, with a measured peak current. -/
def measuredEvent : Event :=
  { State.reset.newEvent 5 0 ⟨0, 0, 0, 0, 0, 0, 0, 0⟩ 0 with phase := .ended, closing := .noWatch, begun := true, ipeak := 5 }

/-- Its result is ready, and a tuning pass has marked the converter of quadrant 0 as failed. -/
def converterFailed : State :=
  { State.reset with
    sch := { State.reset.sch with store := [measuredEvent] },
    tst := { State.reset.tst with marks := [(3, 0)] } }

theorem converterFailed_ok : converterFailed.ok := ⟨by decide, resetIsSound.2⟩

/-- The result that is written holds no peak current, where the event holds one. -/
theorem converterFailed_result :
    (converterFailed.writeResult measuredEvent).hif.results.map (fun r => r.words.getD 5 0) = [0]
      ∧ (resultWords measuredEvent).getD 5 0 ≠ 0 := by decide

/-- Refutes O34: where the converter of the event's quadrant is marked failed, the result leaves out what the event has measured
(converterFailed), so it is not the event's own record. -/
theorem not_closingReportsAndResults : ¬ Obligations.ClosingReportsAndResults := by
  unfold Obligations.ClosingReportsAndResults
  rintro ⟨-, -, written⟩
  obtain ⟨t, run, -, results, -⟩ := written 5 measuredEvent converterFailed converterFailed_ok (by decide) (by decide) (by decide)
    (by decide) (by decide)
  have same : converterFailed.writeResult measuredEvent = t := Host.Outcome.next.inj run
  obtain ⟨zeroed, measured⟩ := converterFailed_result
  have none : converterFailed.hif.results = [] := by decide
  rw [same, results, none] at zeroed
  exact measured (List.cons.inj zeroed).1

end Sys2Proof.Machine
end

section
/-! PROOFS. The ledger's steps (R209, R210, R212, R213). -/

namespace Sys2Proof.Machine

section
variable {s : State}

theorem State.quad_frame {u : State} {l : List Piece} (h : s.onlyIn u l) (k : Piece.quads ∉ l) (j : Nat) : u.quad j = s.quad j := by
  unfold State.quad
  rw [show u.quads = s.quads from h .quads k]

/-- A balance that is stored is cut at its top; the other boost converters stand (R210). -/
theorem State.setBoost_quad {q : Nat} (h : q < s.quads.length) (b : Int) :
    (s.setBoost q b).quad q = { s.quad q with bal := min b (s.boostTop q), armed := decide (0 ≤ min b (s.boostTop q)) }
      ∧ ∀ j, j ≠ q → (s.setBoost q b).quad j = s.quad j := by
  unfold State.setBoost
  extract_lets bal watched
  have frame : s.onlyIn watched [.regs, .hif, .evc] :=
    Frame.ite (Frame.deficit _ _ _ _ (Frame.refl s _) (by decide) (by decide) (by decide)) (Frame.refl s _)
  have length : watched.quads.length = s.quads.length := congrArg List.length (frame .quads (by decide))
  refine ⟨?_, fun j other => ?_⟩
  · rw [State.quad_modQuad, if_pos ⟨rfl, by omega⟩, State.quad_frame frame (by decide)]
  · rw [State.quad_modQuad, if_neg (fun k => other k.1.symm), State.quad_frame frame (by decide)]

theorem State.boostTop_putDrift {q : Nat} (hq : q < 4) (v : Word) :
    (s.putWord (R.INK_BSTDRIFT q) v).boostTop q = s.boostTop q := by
  have words : s.onlyWords (s.putWord (R.INK_BSTDRIFT q) v) [R.INK_BSTDRIFT q] := (State.onlyWords.refl s _).putWord v List.mem_cons_self
  unfold State.boostTop
  rw [words.get_eq (f := F.DRV_BSTCFG_VSET q) ?_, words.get_eq (f := F.DRV_BSTCFG_VHYST q) ?_, words.get_eq (f := F.INK_BSTCFG_VFLOOR q) ?_,
    words.get_eq (f := F.INK_BSTCFG_CAP q) ?_]
  all_goals
    obtain rfl | rfl | rfl | rfl : q = 0 ∨ q = 1 ∨ q = 2 ∨ q = 3 := by omega
    all_goals decide

theorem State.quads_lt {q : Nat} (h : q < s.part.quads) : q < 4 := by
  have most : s.part.quads ≤ 4 := by cases s.part <;> decide
  omega

theorem exec_boostReconcile {q vbst : Nat} (hok : s.ok) (hq : q < s.part.quads) (kept : s.balKept = true)
    (idle : ∀ i, i < 6 → (s.bank (6 * q + i)).ghv = false) :
    ∃ t, exec (.boostReconcile q vbst) s = .next t ∧ (t.quad q).vbst = vbst
      ∧ (t.quad q).bal = min ((s.quad q).bal + ((s.modQuad q (fun x => { x with vbst := vbst })).boostM q - (s.quad q).bal) / 256)
          (s.boostTop q)
      ∧ (∀ j, j ≠ q → t.quad j = s.quad j) ∧ s.onlyIn t [.regs, .hif, .evc, .quads] := by
  have quads : s.quads.length = 4 := (Kept.refl hok).quads
  have lt := State.quads_lt hq
  have free : (upTo 6).all (fun i => !(s.bank (6 * q + i)).ghv) = true :=
    List.all_eq_true.mpr (fun i mem => by rw [idle i (mem_upTo.mp mem)]; rfl)
  have run : exec (.boostReconcile q vbst) s = .next (s.reconcile q vbst) := congrArg Host.Outcome.next (if_pos ⟨hq, kept, free⟩)
  have frame : s.onlyIn (s.reconcile q vbst) [.regs, .hif, .evc, .quads] :=
    Frame.reconcile q vbst s (Frame.refl s _) (by decide) (by decide) (by decide) (by decide)
  refine ⟨_, run, ?_⟩
  suffices h : ((s.reconcile q vbst).quad q).vbst = vbst
      ∧ ((s.reconcile q vbst).quad q).bal
        = min ((s.quad q).bal + ((s.modQuad q (fun x => { x with vbst := vbst })).boostM q - (s.quad q).bal) / 256) (s.boostTop q)
      ∧ ∀ j, j ≠ q → (s.reconcile q vbst).quad j = s.quad j from ⟨h.1, h.2.1, h.2.2, frame⟩
  unfold State.reconcile
  extract_lets sensed b c tot drifted d noted
  have sense (j : Nat) : sensed.quad j = if q = j ∧ j < s.quads.length then { s.quad j with vbst := vbst } else s.quad j :=
    State.quad_modQuad s q j _
  have length : sensed.quads.length = s.quads.length := modAt_length _ _ _
  have drift (j : Nat) : noted.quad j
      = if q = j ∧ j < sensed.quads.length then { sensed.quad j with driftFrac := tot % 1000 } else sensed.quad j :=
    State.quad_modQuad sensed q j _
  have size : noted.quads.length = 4 := ((modAt_length _ _ _).trans length).trans quads
  have top : noted.boostTop q = s.boostTop q := State.boostTop_putDrift (s := drifted) lt _
  obtain ⟨own, others⟩ := State.setBoost_quad (s := noted) (q := q) (by omega) (b + c)
  have bal : b = (s.quad q).bal := by
    unfold b
    rw [sense, if_pos ⟨rfl, by omega⟩]
  have sum : b + c = min (b + (sensed.boostM q - b) / 256) (s.boostTop q) := by
    unfold c
    rw [show sensed.boostTop q = s.boostTop q from rfl]
    omega
  refine ⟨?_, ?_, fun j other => ?_⟩
  · rw [own, drift, if_pos ⟨rfl, by omega⟩, sense, if_pos ⟨rfl, by omega⟩]
  · rw [own]
    dsimp only
    rw [top, sum, bal, min_assoc, min_self]
  · rw [others j other, drift, if_neg (fun k => other k.1.symm), sense, if_neg (fun k => other k.1.symm)]

theorem State.fillRate_modQuad (q j sense : Nat) (f : Quad → Quad) : (s.modQuad q f).fillRate j sense = s.fillRate j sense := rfl

theorem exec_fillRateRefresh {q vbat : Nat} (hok : s.ok) (hq : q < s.part.quads) :
    ∃ t, exec (.fillRateRefresh q vbat) s = .next t ∧ (t.quad q).vbat = vbat ∧ (t.quad q).rate = s.fillRate q vbat
      ∧ (t.quad q).bal = (s.quad q).bal ∧ (∀ j, j ≠ q → t.quad j = s.quad j) ∧ s.onlyIn t [.quads] := by
  have quads : s.quads.length = 4 := (Kept.refl hok).quads
  have lt := State.quads_lt hq
  let u := s.modQuad q (fun x => { x with vbat := vbat })
  have rate : u.fillRate q vbat = s.fillRate q vbat := State.fillRate_modQuad q q vbat _
  have run : exec (.fillRateRefresh q vbat) s = .next (u.modQuad q (fun x => { x with rate := u.fillRate q vbat })) :=
    congrArg Host.Outcome.next (if_pos hq)
  have sensed (j : Nat) : u.quad j = if q = j ∧ j < s.quads.length then { s.quad j with vbat := vbat } else s.quad j :=
    State.quad_modQuad s q j _
  have length : u.quads.length = s.quads.length := modAt_length _ _ _
  have frame : s.onlyIn u [.quads] := Frame.modQuad _ _ _ (Frame.refl s _) (by decide)
  have refreshed (j : Nat) := State.quad_modQuad u q j (fun x => { x with rate := u.fillRate q vbat })
  have own := (refreshed q).trans (if_pos ⟨rfl, by omega⟩)
  have before := (sensed q).trans (if_pos ⟨rfl, by omega⟩)
  refine ⟨_, run, ?_, ?_, ?_, fun j other => ?_, Frame.modQuad _ _ _ frame (by decide)⟩
  · rw [own, before]
  · rw [own, rate]
  · rw [own, before]
  · rw [refreshed, if_neg (fun k => other k.1.symm), sensed, if_neg (fun k => other k.1.symm)]

/-- The watch over a rail account changes its arming and its deny condition alone. -/
theorem State.watchRail_ink {g : Nat} (fin : Bool) :
    ∃ armed deny, (s.watchRail g fin).ink = { s.ink with rails := modAt s.ink.rails g (fun x => { x with armed := armed, deny := deny }) } := by
  unfold State.watchRail
  extract_lets b r watched lvl dn
  have frame : s.onlyIn watched [.regs, .hif, .evc] :=
    Frame.ite (Frame.deficit _ _ _ _ (Frame.refl s _) (by decide) (by decide) (by decide)) (Frame.refl s _)
  have ink : watched.ink = s.ink := frame .ink (by decide)
  exact ⟨decide (0 ≤ b), dn,
    congrArg (fun i : Ink => { i with rails := modAt i.rails g (fun x => { x with armed := decide (0 ≤ b), deny := dn }) }) ink⟩

theorem exec_railSubwindowEnd {g : Nat} (hok : s.ok) (hg : g < 8) (h : s.grdMeters g = true) :
    ∃ t, exec (.railSubwindowEnd g) s = .next t
      ∧ (t.ink.rails.getD g Rail.initial).subs
          = (s.ink.rails.getD g Rail.initial).cur :: (s.ink.rails.getD g Rail.initial).subs.take 15
      ∧ (t.ink.rails.getD g Rail.initial).cur = 0 ∧ (t.ink.rails.getD g Rail.initial).endAt = s.now
      ∧ t.ink.resv = s.ink.resv ∧ s.onlyIn t [.regs, .hif, .evc, .ink] := by
  have rails : s.ink.rails.length = 8 := (Kept.refl hok).ink
  have run : exec (.railSubwindowEnd g) s = .next (s.subwindow g) := congrArg Host.Outcome.next (if_pos h)
  have frame := Frame.subwindow g s (Frame.refl s [.regs, .hif, .evc, .ink]) (by decide) (by decide) (by decide) (by decide)
  unfold State.subwindow at run frame
  generalize hu : ({ s with ink := { s.ink with rails := modAt s.ink.rails g (fun r =>
      { r with subs := r.cur :: r.subs.take 15, cur := 0, endAt := s.now, endAon := s.clk.aon }) } } : State) = u at run frame
  have ended : u.ink.rails.getD g Rail.initial = { s.ink.rails.getD g Rail.initial with
      subs := (s.ink.rails.getD g Rail.initial).cur :: (s.ink.rails.getD g Rail.initial).subs.take 15,
      cur := 0, endAt := s.now, endAon := s.clk.aon } := by
    rw [← hu]
    exact (modAt_getD _ _ _ _ _).trans (if_pos ⟨rfl, by omega⟩)
  have length : u.ink.rails.length = 8 := by
    rw [← hu, ← rails]
    exact modAt_length _ _ _
  have resv : u.ink.resv = s.ink.resv := by rw [← hu]
  obtain ⟨armed, deny, ink⟩ := State.watchRail_ink (s := u) (g := g) true
  have rail : (u.watchRail g true).ink.rails.getD g Rail.initial = { u.ink.rails.getD g Rail.initial with armed := armed, deny := deny } := by
    rw [ink]
    exact (modAt_getD _ _ _ _ _).trans (if_pos ⟨rfl, by omega⟩)
  refine ⟨_, run, ?_, ?_, ?_, ?_, frame⟩
  · rw [rail, ended]
  · rw [rail, ended]
  · rw [rail, ended]
  · rw [ink, resv]

theorem exec_measurementConversion {b shunt volt : Nat} (usable : s.convUsable (b / 6) = true) (hb : b < s.part.banks)
    (ghv : (s.bank b).ghv = true) (token : (s.bank b).token ≠ 0) (run : (s.thread b ((s.bank b).token - 1)).run = true) :
    ∃ t, exec (.measurementConversion b .boost shunt volt) s = .next t
      ∧ t.sch.store = s.sch.store.map (fun e => if e.id == (s.thread b ((s.bank b).token - 1)).ev
          then { e with eBoost := e.eBoost + s.sampleNj b shunt (volt * 100), ipeak := max e.ipeak (shunt / 4) } else e)
      ∧ s.onlyIn t [.sch] := by
  have converts : s.convert b .boost shunt volt
      = s.measure (s.thread b ((s.bank b).token - 1)).ev shunt (s.sampleNj b shunt (volt * 100)) 0 :=
    if_pos (by rw [ghv, run, decide_eq_true token]; rfl)
  have measured : exec (.measurementConversion b .boost shunt volt) s = .next (s.convert b .boost shunt volt) :=
    congrArg Host.Outcome.next (if_pos (by rw [usable, decide_eq_true hb]; rfl))
  exact ⟨_, measured.trans (congrArg Host.Outcome.next converts), rfl, Frame.measure _ _ _ _ _ (Frame.refl s _) (by decide)⟩

end

/-- Settles O35: the four steps by what they write of the ledger and the store. -/
theorem ledgerSteps : Obligations.LedgerSteps := by
  unfold Obligations.LedgerSteps
  exact ⟨fun _ _ _ hok hq kept idle => exec_boostReconcile hok hq kept idle, fun _ _ _ hok hq => exec_fillRateRefresh hok hq,
    fun _ _ hok hg h => exec_railSubwindowEnd hok hg h,
    fun _ _ _ _ _ usable hb ghv token run => exec_measurementConversion usable hb ghv token run⟩

end Sys2Proof.Machine
end

section
/-! PROOFS. CLEAR_OC in the fabric cycle of the trip (R184): the trip stands. -/

namespace Sys2Proof.Machine

/-- The device in FULL with its link up and its time base running. -/
def linkedUp : State :=
  { State.reset with
    sys := { State.reset.sys with mode := .full },
    clk := { State.reset.clk with tbRun := true },
    hif := { State.reset.hif with up := true, bme := true } }

/-- Ring r in service with 64 entries, of which the host has filled h. -/
def State.ringServed (r h : Nat) (s : State) : State :=
  ((s.set (F.HIF_RCFG_EN r) 1).set (F.HIF_RCFG_LOG2SZ r) 6).modRing r (fun x => { x with active := true, host := h })

/-- One command waits in the maintenance queue, and channel 0 has tripped in this fabric cycle. -/
def tripInCycle : State :=
  ((((linkedUp.set F.HIF_RCTRL_EN 1).ringServed 8 1).ringServed 9 0).modChan 0 (fun c => { c with oc := true })).inCycle
    (fun m => { m with oc := [0] })

theorem tripInCycle_ok : tripInCycle.ok := by
  have linked : linkedUp.ok := ⟨by decide, resetIsSound.2⟩
  have served {s : State} (h : Kept linkedUp s) (r n : Nat) : Kept linkedUp (s.ringServed r n) :=
    Kept.modRing _ _ _ (Kept.set _ _ _ (Kept.set _ _ _ h))
  exact (Kept.inCycle _ _ (Kept.modChan _ _ _ (served (served (Kept.set _ _ _ (Kept.refl linked)) 8 1) 9 0))).ok

theorem tripInCycle_ready : tripInCycle.mqReady = true := by decide

theorem tripInCycle_stands : ((tripInCycle.onMq 0 1 (fun s => s.clearOcAct false 0) noState).chan 0).oc = true := by decide

/-- Refutes O37: CLEAR_OC for a channel that has tripped in the same fabric cycle leaves its latch set (tripInCycle). -/
theorem not_queueCommandsComplete : ¬ Obligations.QueueCommandsComplete := by
  unfold Obligations.QueueCommandsComplete
  rintro ⟨-, -, -, -, -, clears, -⟩
  obtain ⟨t, run, -, cleared, -⟩ := clears 0 0 tripInCycle tripInCycle_ok tripInCycle_ready (by decide) (by decide)
  have same : tripInCycle.onMq 0 1 (fun s => s.clearOcAct false 0) noState = t := Host.Outcome.next.inj run
  have stands := tripInCycle_stands
  rw [same] at stands
  exact absurd (stands.symm.trans cleared) (by decide)

end Sys2Proof.Machine
end

section
/-! PROOFS. A rail guardian's state under the operations of chapter 9, and its metering and trips (R236 to R245, R253, R257). -/

namespace Sys2Proof.Machine

/-! One guardian's state, and no other's -/

/-- From s to u guardian g has come to x, and the others stand. -/
structure GrdNow (g : Nat) (s u : State) (x : Grd) : Prop where
  own : u.grd g = x
  other : ∀ j, j ≠ g → u.grd j = s.grd j
  room : g < u.grds.length

section
variable {g : Nat} {s u v : State} {x : Grd}

theorem GrdNow.refl (h : g < s.grds.length) : GrdNow g s s (s.grd g) := ⟨rfl, fun _ _ => rfl, h⟩

theorem GrdNow.of_eq (h : GrdNow g s u x) (k : v.grds = u.grds) : GrdNow g s v x := by
  have grd (j : Nat) : v.grd j = u.grd j := by
    unfold State.grd
    rw [k]
  exact ⟨(grd g).trans h.own, fun j other => (grd j).trans (h.other j other), by rw [k]; exact h.room⟩

theorem GrdNow.frame {l : List Piece} (h : GrdNow g s u x) (k : u.onlyIn v l) (out : Piece.grds ∉ l) : GrdNow g s v x :=
  h.of_eq (k .grds out)

theorem GrdNow.modGrd (h : GrdNow g s u x) (f : Grd → Grd) : GrdNow g s (u.modGrd g f) (f x) := by
  refine ⟨?_, fun j other => ?_, Nat.lt_of_lt_of_eq h.room (modAt_length _ _ _).symm⟩
  · rw [State.grd_modGrd, if_pos ⟨rfl, h.room⟩, h.own]
  · rw [State.grd_modGrd, if_neg (fun k => other k.1.symm), h.other j other]

theorem GrdNow.ite {c : Prop} [Decidable c] (h : GrdNow g s u x) (k : GrdNow g s v x) : GrdNow g s (if c then u else v) x := by
  split <;> assumption

theorem GrdNow.grdStep (h : GrdNow g s u x) (st : GState) : GrdNow g s (u.grdStep g st) { x with st := st } := by
  unfold State.grdStep
  extract_lets old stepped
  have steps : GrdNow g s stepped { x with st := st } := h.modGrd (fun y => { y with st := st })
  exact .ite steps (steps.frame (Frame.trace _ _ _ _ _ _ _ (Frame.refl stepped [.regs, .hif]) (by decide) (by decide)) (by decide))

theorem GrdNow.grdOffTo (h : GrdNow g s u x) (st : GState) :
    GrdNow g s (u.grdOffTo g st) { x with lim := none, rampOut := false, held := false, goodSince := none, st := st } :=
  (h.modGrd (fun y => { y with lim := none, rampOut := false, held := false, goodSince := none })).grdStep st

theorem GrdNow.clearTrip (h : GrdNow g s u x) : GrdNow g s (u.clearTrip g) { x with trip := false, tripSeen := false } :=
  h.modGrd (fun y => { y with trip := false, tripSeen := false })

theorem GrdNow.setLast (h : GrdNow g s u x) (cond entry act : Nat) (cmd : Bool) : GrdNow g s (u.setLast g cond entry act cmd) x :=
  h.of_eq rfl

theorem GrdNow.rampStart (h : GrdNow g s u x) :
    GrdNow g s (u.rampStart g) { x with since := u.now, done := false, rampOut := false, lim := none, st := .ramp } := by
  unfold State.rampStart
  extract_lets cleared begun
  have frame : u.onlyIn cleared [.regs] := Frame.clrLatch _ _ _ (Frame.clrLatch _ _ _ (Frame.refl u _) (by decide)) (by decide)
  have now : cleared.now = u.now := congrArg Clk.tb (frame .clk (by decide))
  have begins := (h.frame frame (by decide)).modGrd (fun y => { y with since := cleared.now, done := false, rampOut := false, lim := none })
  rw [← now]
  exact begins.grdStep .ramp

theorem GrdNow.grdThreads (h : GrdNow g s u x) (k : Nat) : GrdNow g s (u.grdThreads k) x :=
  h.frame (Frame.grdThreads k u (Frame.refl u [.regs, .hif, .sch, .banks, .edges, .adc, .cmps]) (by decide) (by decide) (by decide)
    (by decide) (by decide) (by decide) (by decide)) (by decide)

theorem GrdNow.grdReport (h : GrdNow g s u x) : GrdNow g s (u.grdReport g) x :=
  h.frame (Frame.grdReport g u (Frame.refl u [.regs, .hif, .evc]) (by decide) (by decide) (by decide)) (by decide)

theorem State.grdReport_alarmed (g : Nat) (u : State) : (u.grdReport g).alarmed g := (State.alarmed_alarm g _ _ _ _).raise g

theorem State.grdUsable_lt (h : s.grdUsable g = true) : g < 8 := by
  have ranged : g < s.part.grds := of_decide_eq_true (Bool.and_eq_true_iff.mp h).1
  have most : s.part.grds ≤ 8 := by cases s.part <;> decide
  omega

theorem GrdNow.start (hok : s.ok) (h : s.grdUsable g = true) : GrdNow g s s (s.grd g) := by
  have lt := State.grdUsable_lt h
  have grds : s.grds.length = 8 := (Kept.refl hok).grds.1
  exact .refl (by omega)

/-! What the rules leave -/

/-- From x to y the rules have changed the guardian's state: what it has metered, its pin and its live levels stand. -/
def Grd.Ruled (x y : Grd) : Prop :=
  y = { x with st := y.st, trip := y.trip, tripSeen := y.tripSeen, held := y.held, retries := y.retries, since := y.since,
               sinceAon := y.sinceAon, delay := y.delay, done := y.done, rampOut := y.rampOut, held8 := y.held8, lim := y.lim,
               goodSince := y.goodSince, tripWake := y.tripWake }

theorem Grd.Ruled.refl (x : Grd) : x.Ruled x := rfl

theorem Grd.Ruled.trans {x y z : Grd} (h : x.Ruled y) (k : y.Ruled z) : x.Ruled z := by
  unfold Grd.Ruled at h k ⊢
  rw [k, h]

/-- From s to u the rules have acted on guardian g, from x on, and on no other. -/
def GrdRuled (g : Nat) (s u : State) (x : Grd) : Prop := ∃ y, x.Ruled y ∧ GrdNow g s u y

theorem GrdNow.ruled (h : GrdNow g s u x) : GrdRuled g s u x := ⟨x, .refl x, h⟩

theorem GrdRuled.frame {l : List Piece} (h : GrdRuled g s u x) (k : u.onlyIn v l) (out : Piece.grds ∉ l) : GrdRuled g s v x := by
  obtain ⟨y, ruled, now⟩ := h
  exact ⟨y, ruled, now.frame k out⟩

theorem GrdRuled.of_eq (h : GrdRuled g s u x) (k : v.grds = u.grds) : GrdRuled g s v x := by
  obtain ⟨y, ruled, now⟩ := h
  exact ⟨y, ruled, now.of_eq k⟩

theorem GrdRuled.ite {c : Prop} [Decidable c] (h : GrdRuled g s u x) (k : GrdRuled g s v x) : GrdRuled g s (if c then u else v) x := by
  split <;> assumption

theorem GrdRuled.modGrd (h : GrdRuled g s u x) {f : Grd → Grd} (k : ∀ y : Grd, y.Ruled (f y)) : GrdRuled g s (u.modGrd g f) x := by
  obtain ⟨y, ruled, now⟩ := h
  exact ⟨f y, ruled.trans (k y), now.modGrd f⟩

theorem GrdRuled.grdStep (h : GrdRuled g s u x) (st : GState) : GrdRuled g s (u.grdStep g st) x := by
  obtain ⟨y, ruled, now⟩ := h
  exact ⟨_, ruled.trans (by exact rfl), now.grdStep st⟩

theorem GrdRuled.grdOffTo (h : GrdRuled g s u x) (st : GState) : GrdRuled g s (u.grdOffTo g st) x := by
  obtain ⟨y, ruled, now⟩ := h
  exact ⟨_, ruled.trans (by exact rfl), now.grdOffTo st⟩

theorem GrdRuled.retry (h : GrdRuled g s u x) : GrdRuled g s (u.retry g) x :=
  .ite ((h.modGrd (fun _ => by exact rfl)).grdOffTo _) ((h.modGrd (fun _ => by exact rfl)).grdOffTo _)

theorem GrdRuled.ruleAct (h : GrdRuled g s u x) (cond e act : Nat) : GrdRuled g s (u.ruleAct g cond e act) x := by
  unfold State.ruleAct
  extract_lets marked waking last acted ended
  have h1 : GrdRuled g s marked x := h.of_eq rfl
  have h2 : GrdRuled g s waking x := h1.modGrd (fun _ => by exact rfl)
  have h3 : GrdRuled g s last x := h2.of_eq rfl
  have h4 : GrdRuled g s acted x := by
    unfold acted
    split
    · exact (h3.modGrd (fun _ => by exact rfl)).grdOffTo _
    · exact (h3.modGrd (fun _ => by exact rfl)).grdStep _
    · exact h3.retry
    · exact (h3.modGrd (fun _ => by exact rfl)).grdOffTo _
  have h5 : GrdRuled g s ended x := by
    obtain ⟨y, ruled, now⟩ := h4
    exact ⟨y, ruled, .ite now (now.grdThreads g)⟩
  obtain ⟨y, ruled, now⟩ := h5
  exact ⟨y, ruled, now.grdReport⟩

theorem GrdRuled.limitEnds (h : GrdRuled g s u x) (p q : Nat → Bool) : GrdRuled g s (u.limitEnds g p q) x := by
  unfold State.limitEnds
  split
  · exact .ite ((h.modGrd (fun _ => by exact rfl)).grdStep _) h
  · exact h

theorem GrdRuled.actStrongest (h : GrdRuled g s u x) (es : List Nat) : GrdRuled g s (u.actStrongest g es) x := by
  unfold State.actStrongest
  split
  · extract_lets restored
    have back : GrdRuled g s restored x := by
      unfold restored
      split
      · exact .ite (h.modGrd (fun _ => by exact rfl)) h
      · exact h
    exact back.ruleAct _ _ _
  · exact h

theorem GrdRuled.evaluate (h : GrdRuled g s u x) (n : Nat) (p q : Nat → Bool) : GrdRuled g s (u.evaluate g n p q) x := by
  unfold State.evaluate
  extract_lets es held held' counted limited
  have h1 : GrdRuled g s counted x := h.modGrd (fun _ => by exact rfl)
  have h2 : GrdRuled g s limited x := h1.limitEnds p q
  exact h2.actStrongest _

theorem GrdRuled.watchGood (h : GrdRuled g s u x) : GrdRuled g s (u.watchGood g) x :=
  .ite (h.modGrd (fun _ => by exact rfl)) (h.modGrd (fun _ => by exact rfl))

theorem GrdRuled.afterSample (h : GrdRuled g s u x) : GrdRuled g s (u.afterSample g) x := by
  unfold State.afterSample
  extract_lets done on
  have h1 : GrdRuled g s done x := h.modGrd (fun _ => by exact rfl)
  have h2 : GrdRuled g s on x := .ite (h1.grdStep _) h1
  exact .ite (h2.evaluate _ _ _).watchGood (h.evaluate _ _ _).watchGood

/-- A current sample's energy goes to the guardian's counter (R241). -/
theorem GrdNow.meterEnergy (h : GrdNow g s u x) (code : Int) (num den : Nat) :
    GrdNow g s (u.meterEnergy g code num den)
      { x with energy := unsigned 56 ((x.energy : Int) + u.energy256 g x.vout code num den), i2t := u.i2tStep g x.i2t code num den } := by
  unfold State.meterEnergy
  extract_lets volt nj metered ink railed
  have v : volt = x.vout := congrArg Grd.vout h.own
  have h1 := h.modGrd (fun y => { y with energy := unsigned 56 ((y.energy : Int) + u.energy256 g volt code num den),
                                         i2t := u.i2tStep g y.i2t code num den })
  rw [v] at h1
  have h2 : GrdNow g s railed _ := (h1.of_eq (v := metered) (by rw [← v])).of_eq rfl
  refine h2.frame (l := [.regs, .hif, .evc, .quads]) (Frame.foldl (Frame.refl railed _) (fun _ _ k => ?_)) (by decide)
  exact Frame.ite (Frame.setBoost _ _ _ k (by decide) (by decide) (by decide) (by decide)) k

/-! Metering (R237, R240, R241, R243, R253) -/

theorem exec_guardianMeterSample {cur : Int} {volt : Nat} (hok : s.ok) (usable : s.grdUsable g = true) (rate : s.fullRate = true) :
    ∃ t, exec (.guardianMeterSample g cur volt) s = .next t ∧ (t.grd g).cur = cur ∧ (t.grd g).lastCur = (s.grd g).cur
      ∧ (t.grd g).vout = (if (s.grd g).nextOut then volt % 65536 else (s.grd g).vout)
      ∧ (t.grd g).vin = (if (s.grd g).nextOut then (s.grd g).vin else volt % 65536)
      ∧ (t.grd g).nextOut = !(s.grd g).nextOut
      ∧ (t.grd g).energy = unsigned 56 (((s.grd g).energy : Int) + s.energy256 g (t.grd g).vout cur 8 1)
      ∧ (∀ j, j ≠ g → t.grd j = s.grd j) := by
  obtain ⟨y, ruled, now⟩ := (((GrdNow.start hok usable).modGrd (fun x => { x with
    vout := if x.nextOut then volt % 65536 else x.vout, vin := if x.nextOut then x.vin else volt % 65536, nextOut := !x.nextOut,
    lastCur := x.cur, cur := cur, isat := decide (cur = 32767 ∨ cur = -32768) })).meterEnergy cur 8 1).ruled.afterSample
  have run : exec (.guardianMeterSample g cur volt) s = .next (s.meterSample g cur volt) :=
    congrArg Host.Outcome.next (if_pos (by rw [usable, rate]; rfl))
  refine ⟨_, run, ?_, ?_, ?_, ?_, ?_, ?_, now.other⟩
  all_goals rw [show (s.meterSample g cur volt).grd g = y from now.own, ruled]
  rfl

theorem exec_vigilMeterSample {cur : Int} {vout vin : Nat} (hok : s.ok) (usable : s.grdUsable g = true) (vigil : s.sys.mode = .vigil) :
    ∃ t, exec (.vigilMeterSample g cur vout vin) s = .next t ∧ (t.grd g).cur = cur ∧ (t.grd g).vout = vout % 65536
      ∧ (t.grd g).vin = vin % 65536
      ∧ (t.grd g).energy = unsigned 56 (((s.grd g).energy : Int) + s.energy256 g (vout % 65536) cur 15625 16)
      ∧ (∀ j, j ≠ g → t.grd j = s.grd j) := by
  have sampled := (GrdNow.start hok usable).modGrd (fun x => { x with
    vout := vout % 65536, vin := vin % 65536, lastCur := x.cur, cur := cur, isat := decide (cur = 32767 ∨ cur = -32768) })
  have run : exec (.vigilMeterSample g cur vout vin) s = .next (s.vigilSample g cur vout vin) :=
    congrArg Host.Outcome.next (if_pos (by rw [usable, vigil]; rfl))
  obtain ⟨y, ruled, now⟩ := ((sampled.modGrd (fun x => { x with soa := State.soaNext _ g 15625 16 })).meterEnergy cur 15625 16).ruled.afterSample
  refine ⟨_, run, ?_, ?_, ?_, ?_, now.other⟩
  all_goals rw [show (s.vigilSample g cur vout vin).grd g = y from now.own, ruled]
  rfl

theorem exec_soaUpdate (hok : s.ok) (usable : s.grdUsable g = true) (rate : s.fullRate = true) :
    ∃ t, exec (.soaUpdate g) s = .next t ∧ (t.grd g).soa = s.soaNext g 16 1
      ∧ (t.grd g).soaEx = decide (s.get (F.GRD_SOA_SOA_E g) * 1000000 ≤ s.soaNext g 16 1) ∧ (∀ j, j ≠ g → t.grd j = s.grd j) := by
  have run : exec (.soaUpdate g) s = _ := congrArg Host.Outcome.next (if_pos (by rw [usable, rate]; rfl))
  obtain ⟨y, ruled, now⟩ := ((GrdNow.start hok usable).modGrd (fun x => { x with
    soa := s.soaNext g 16 1, soaEx := decide (s.get (F.GRD_SOA_SOA_E g) * 1000000 ≤ s.soaNext g 16 1) })).ruled.evaluate 2
      (fun c => c == 2) (fun _ => decide (s.get (F.GRD_SOA_SOA_E g) * 1000000 ≤ s.soaNext g 16 1))
  refine ⟨_, run, ?_, ?_, now.other⟩
  · exact (congrArg Grd.soa now.own).trans (by rw [ruled])
  · exact (congrArg Grd.soaEx now.own).trans (by rw [ruled])

theorem exec_energyCounterRead {p : Port} (hok : s.ok) (ho : s.portOpen = true) (usable : s.grdUsable g = true) :
    ∃ t, exec (.energyCounterRead p g) s = .next t ∧ t.ans.read = some ((s.grd g).energy / 256 % 2 ^ 32)
      ∧ t.grd g = { s.grd g with ehi := (s.grd g).energy / 256 / 2 ^ 32 % 65536 } ∧ s.onlyIn t [.sec, .grds, .ans] := by
  have touched : s.onlyIn (s.touch p) [.sec] := Frame.touch s p (Frame.refl s _) (by decide)
  have grd : (s.touch p).grd g = s.grd g := by
    unfold State.grd
    rw [show (s.touch p).grds = s.grds from touched .grds (by decide)]
  have usable' : (s.touch p).grdUsable g = true := by
    rw [← usable]
    unfold State.grdUsable State.grdMarked
    rw [show (s.touch p).part = s.part from touched .part (by decide), show (s.touch p).tst = s.tst from touched .tst (by decide)]
  have room : g < (s.touch p).grds.length := by
    rw [show (s.touch p).grds = s.grds from touched .grds (by decide)]
    exact (GrdNow.start hok usable).room
  have latched := (GrdNow.refl room).modGrd (fun x => { x with ehi := ((s.touch p).grd g).energy / 256 / 2 ^ 32 % 65536 })
  have run : exec (.energyCounterRead p g) s = _ := congrArg Host.Outcome.next ((if_pos ho).trans (if_pos usable'))
  refine ⟨_, run, ?_, ?_, Frame.answer _ _ (Frame.modGrd _ _ _ (Frame.mono touched (by decide)) (by decide)) (by decide)⟩
  · rw [← grd]
    rfl
  · rw [← grd]
    exact latched.own

theorem State.pgOut_of_off (h : s.sys.mode = .off) : s.pgOut g = false := by
  unfold State.pgOut
  rw [h]
  rfl

theorem State.pgOut_of_driven (on : s.sys.mode ≠ .off) (usable : s.grdUsable g = true) (pin : s.flag (F.GRD_CFG_PG_PIN g) = true) :
    s.pgOut g = (s.grdOnline g && decide (s.get (F.GRD_VLIM_PG g) * 100 ≤ (s.grd g).vout)) := by
  unfold State.pgOut State.grdPg
  rw [usable, pin, bne_iff_ne.mpr on, Bool.true_and, Bool.and_self, Bool.not_true, Bool.or_false]

end

/-- Settles O38: the samples by the guardian's values, which the rules leave, and the output by its definition. -/
theorem guardiansMeter : Obligations.GuardiansMeter := by
  unfold Obligations.GuardiansMeter
  exact ⟨fun _ _ _ _ hok usable rate => exec_guardianMeterSample hok usable rate,
    fun _ _ _ _ _ hok usable vigil => exec_vigilMeterSample hok usable vigil,
    fun _ _ hok usable rate => exec_soaUpdate hok usable rate, fun _ _ _ hok ho usable => exec_energyCounterRead hok ho usable,
    fun _ _ => ⟨State.pgOut_of_off, State.pgOut_of_driven⟩⟩

end Sys2Proof.Machine
end

section
/-! PROOFS. A rail guardian's trips (R236, R238, R239, R244, R245, R257), its supervision, its retries and its board
(R246, R249, R252). -/

namespace Sys2Proof.Machine

section
variable {g : Nat} {s u : State} {x : Grd}

/-! One rule that acts -/

/-- A LATCH action leaves the guardian latched, and reports (R245, R257). -/
theorem GrdNow.ruleAct_latches (h : GrdNow g s u x) (cond e : Nat) :
    ∃ y, GrdNow g s (u.ruleAct g cond e 3) y ∧ y.st = .latched ∧ y.trip = true ∧ y.tripSeen = true
      ∧ (u.ruleAct g cond e 3).alarmed g := by
  unfold State.ruleAct
  extract_lets marked waking last acted ended
  have h1 : GrdNow g s marked x := h.of_eq rfl
  have h2 := h1.modGrd (fun y => { y with tripWake := y.tripWake || (marked.sys.mode.asleep && y.held && 3 != 1) })
  have h3 : GrdNow g s last _ := GrdNow.of_eq h2 (v := last) rfl
  have h4 : GrdNow g s acted _ := (h3.modGrd (fun y => { y with trip := true, tripSeen := true })).grdOffTo .latched
  have h5 : GrdNow g s ended _ := h4.grdThreads g
  exact ⟨_, h5.grdReport, rfl, rfl, rfl, State.grdReport_alarmed g ended⟩

/-- An OFF action puts the gate off, with the retry count at 0, and reports (R245, R257). -/
theorem GrdNow.ruleAct_turnsOff (h : GrdNow g s u x) (cond e : Nat) :
    ∃ y, GrdNow g s (u.ruleAct g cond e 0) y ∧ y.st = .off ∧ y.retries = 0 ∧ (u.ruleAct g cond e 0).alarmed g := by
  unfold State.ruleAct
  extract_lets marked waking last acted ended
  have h1 : GrdNow g s marked x := h.of_eq rfl
  have h2 := h1.modGrd (fun y => { y with tripWake := y.tripWake || (marked.sys.mode.asleep && y.held && 0 != 1) })
  have h3 : GrdNow g s last _ := GrdNow.of_eq h2 (v := last) rfl
  have h4 : GrdNow g s acted _ := (h3.modGrd (fun y => { y with retries := 0 })).grdOffTo .off
  have h5 : GrdNow g s ended _ := h4.grdThreads g
  exact ⟨_, h5.grdReport, rfl, rfl, State.grdReport_alarmed g ended⟩

/-- The only entry whose filter has run acts, where its action may act and no host command stands beside it (R245). -/
theorem State.actStrongest_one {e act : Nat} (own : s.get (F.GRD_RULE_ACT g e) = act) (host : assocGet g s.regs.same.grdHost = none)
    (may : actable (s.grd g).st act = true) :
    s.actStrongest g [e] = s.ruleAct g (s.get (F.GRD_RULE_COND g e)) e act := by
  have acts : s.actors g [e] = [(e, act)] := by
    unfold State.actors
    rw [List.map_singleton, own, List.filter_cons_of_pos (by rw [host]; exact may), List.filter_nil]
  unfold State.actStrongest
  rw [acts, host]
  rfl

theorem State.actStrongest_nil : s.actStrongest g [] = s := rfl

/-- An event-driven condition with one entry, whose filter has run. -/
theorem State.eventRule_one {e act cond n : Nat} (entry : s.entriesOf g (fun c => c == cond) = [e]) (filter : s.get (F.GRD_RULE_FILT g e) ≤ n)
    (own : s.get (F.GRD_RULE_ACT g e) = act) (host : assocGet g s.regs.same.grdHost = none) (may : actable (s.grd g).st act = true) :
    s.eventRule g cond n = s.ruleAct g (s.get (F.GRD_RULE_COND g e)) e act := by
  unfold State.eventRule
  rw [entry, show [e].filter (fun e => decide (s.get (F.GRD_RULE_FILT g e) ≤ n)) = [e] by simp [filter]]
  exact State.actStrongest_one own host may

/-! Trips -/

theorem exec_guardianFastTrip (hok : s.ok) (usable : s.grdUsable g = true) (on : (s.grd g).st.gateOn = true)
    (bare : s.entriesOf g (fun c => c == 0) = []) :
    ∃ t, exec (.guardianFastTrip g) s = .next t ∧ (t.grd g).st = .latched ∧ (t.grd g).trip = true ∧ (t.grd g).tripSeen = true
      ∧ t.alarmed g ∧ (∀ j, j ≠ g → t.grd j = s.grd j) := by
  have start := (GrdNow.start hok usable).modGrd (fun x => { x with trip := true, tripSeen := false })
  have bare' : (s.modGrd g (fun x => { x with trip := true, tripSeen := false })).entriesOf g (fun c => c == 0) = [] := bare
  have run : exec (.guardianFastTrip g) s = .next (s.fastTrip g) := congrArg Host.Outcome.next (if_pos (by rw [usable, on]; rfl))
  unfold State.fastTrip at run
  dsimp only at run
  rw [bare'] at run
  obtain ⟨y, now, st, trip, -, alarmed⟩ := start.ruleAct_latches 0 0
  have seen := now.modGrd (fun y => { y with tripSeen := true })
  exact ⟨_, run, (congrArg Grd.st seen.own).trans st, (congrArg Grd.trip seen.own).trans trip, congrArg Grd.tripSeen seen.own,
    State.alarmed.of_hif alarmed rfl, seen.other⟩

theorem State.rampLate_of (ramp : (s.grd g).st = .ramp) (out : (s.grd g).rampOut = false) (open' : (s.grd g).done = false)
    (late : s.get (F.GRD_RAMP_RAMP_T g) * 800000 ≤ elapsed (s.grd g).since s.now) : s.rampLate g = true := by
  unfold State.rampLate
  extract_lets x
  rw [show x.st = .ramp from ramp, show x.rampOut = false from out, show x.done = false from open', decide_eq_true late]
  rfl

/-- A guardian that is not in LIMIT loses none. -/
theorem State.limitEnds_of_ne (h : (s.grd g).st ≠ .limit) (p q : Nat → Bool) : s.limitEnds g p q = s := by
  unfold State.limitEnds
  split
  · next e _ =>
    refine if_neg (fun k => ?_)
    rw [beq_false_of_ne h] at k
    exact Bool.false_ne_true k
  · rfl

/-- What one evaluation counts for the entries es. -/
def heldNext (es : List Nat) (n : Nat) (q : Nat → Bool) (held : List Nat) : List Nat :=
  (upTo 8).map (fun e => if es.contains e then (if q e then (if held.getD e 0 = 0 then 1 else held.getD e 0 + n) else 0) else held.getD e 0)

theorem heldNext_pos {es held : List Nat} {n e : Nat} {q : Nat → Bool} (lt : e < 8) (mem : es.contains e = true) (holds : q e = true) :
    0 < (heldNext es n q held).getD e 0 := by
  have get : (upTo 8)[e]? = some e := List.getElem?_range lt
  unfold heldNext
  rw [List.getD_eq_getElem?_getD, List.getElem?_map, get, Option.map_some, Option.getD_some, if_pos mem, if_pos holds]
  split <;> omega

theorem State.evaluate_eq (n : Nat) (p q : Nat → Bool) (h : (s.grd g).st ≠ .limit) (room : g < s.grds.length) :
    s.evaluate g n p q = (s.modGrd g (fun x => { x with
        held8 := heldNext (s.entriesOf g p) n (fun e => q (s.get (F.GRD_RULE_COND g e))) (s.grd g).held8 })).actStrongest g
      ((s.entriesOf g p).filter (fun e => decide (s.get (F.GRD_RULE_FILT g e)
        < (heldNext (s.entriesOf g p) n (fun e => q (s.get (F.GRD_RULE_COND g e))) (s.grd g).held8).getD e 0))) := by
  unfold State.evaluate
  extract_lets es held held' counted limited
  have st : (counted.grd g).st ≠ .limit := by
    unfold counted
    rw [State.grd_modGrd, if_pos ⟨rfl, room⟩]
    exact h
  rw [show limited = counted from State.limitEnds_of_ne st p q]
  rfl

theorem exec_rampTimeout_waits (hok : s.ok) (usable : s.grdUsable g = true) (ramp : (s.grd g).st = .ramp) (out : (s.grd g).rampOut = false)
    (open' : (s.grd g).done = false) (late : s.get (F.GRD_RAMP_RAMP_T g) * 800000 ≤ elapsed (s.grd g).since s.now)
    (bare : s.entriesOf g (fun c => c == 3) = []) :
    ∃ t, exec (.rampTimeout g) s = .next t ∧ (t.grd g).st = .ramp ∧ (t.grd g).rampOut = true
      ∧ (∀ j, j ≠ g → t.grd j = s.grd j) ∧ s.onlyIn t [.grds] := by
  have now := (GrdNow.start hok usable).modGrd (fun x => { x with rampOut := true })
  have run : exec (.rampTimeout g) s = .next ((s.modGrd g (fun x => { x with rampOut := true })).evaluate g 1 (fun c => c == 3) (fun _ => true)) :=
    congrArg Host.Outcome.next (if_pos (by rw [usable, State.rampLate_of ramp out open' late]; rfl))
  have frame : s.onlyIn (s.modGrd g (fun x => { x with rampOut := true })) [.grds] := Frame.modGrd _ _ _ (Frame.refl s _) (by decide)
  have bare' : (s.modGrd g (fun x => { x with rampOut := true })).entriesOf g (fun c => c == 3) = [] := bare
  generalize s.modGrd g (fun x => { x with rampOut := true }) = u at now run frame bare'
  have st : (u.grd g).st = .ramp := (congrArg Grd.st now.own).trans ramp
  rw [State.evaluate_eq _ _ _ (by rw [st]; decide) now.room, bare', List.filter_nil, State.actStrongest_nil] at run
  have counted := now.modGrd (fun x => { x with held8 := heldNext [] 1 (fun e => (fun _ => true) (u.get (F.GRD_RULE_COND g e))) (u.grd g).held8 })
  refine ⟨_, run, ?_, ?_, counted.other, Frame.modGrd _ _ _ frame (by decide)⟩
  · exact (congrArg Grd.st counted.own).trans ramp
  · exact congrArg Grd.rampOut counted.own

theorem exec_rampTimeout_latches {e : Nat} (hok : s.ok) (usable : s.grdUsable g = true) (ramp : (s.grd g).st = .ramp)
    (out : (s.grd g).rampOut = false) (open' : (s.grd g).done = false)
    (late : s.get (F.GRD_RAMP_RAMP_T g) * 800000 ≤ elapsed (s.grd g).since s.now) (entry : s.entriesOf g (fun c => c == 3) = [e])
    (host : assocGet g s.regs.same.grdHost = none) (filter : s.get (F.GRD_RULE_FILT g e) = 0) (own : s.get (F.GRD_RULE_ACT g e) = 3) :
    ∃ t, exec (.rampTimeout g) s = .next t ∧ (t.grd g).st = .latched ∧ (t.grd g).trip = true ∧ t.alarmed g
      ∧ (∀ j, j ≠ g → t.grd j = s.grd j) := by
  have now := (GrdNow.start hok usable).modGrd (fun x => { x with rampOut := true })
  have run : exec (.rampTimeout g) s = .next ((s.modGrd g (fun x => { x with rampOut := true })).evaluate g 1 (fun c => c == 3) (fun _ => true)) :=
    congrArg Host.Outcome.next (if_pos (by rw [usable, State.rampLate_of ramp out open' late]; rfl))
  have frame : s.onlyIn (s.modGrd g (fun x => { x with rampOut := true })) [.grds] := Frame.modGrd _ _ _ (Frame.refl s _) (by decide)
  have entry' : (s.modGrd g (fun x => { x with rampOut := true })).entriesOf g (fun c => c == 3) = [e] := entry
  have regs : (s.modGrd g (fun x => { x with rampOut := true })).regs = s.regs := frame .regs (by decide)
  have lt : e < 8 := mem_upTo.mp (List.mem_of_mem_filter (show e ∈ s.entriesOf g (fun c => c == 3) by rw [entry]; exact List.mem_cons_self))
  generalize s.modGrd g (fun x => { x with rampOut := true }) = u at now run frame entry' regs
  have st : (u.grd g).st = .ramp := (congrArg Grd.st now.own).trans ramp
  have same (f : Fld) : u.get f = s.get f := by
    unfold State.get State.word
    rw [regs]
  have pos := heldNext_pos (es := [e]) (held := (u.grd g).held8) (n := 1) (q := fun e => (fun _ => true) (u.get (F.GRD_RULE_COND g e))) lt
    (by simp) rfl
  rw [State.evaluate_eq _ _ _ (by rw [st]; decide) now.room, entry', List.filter_cons_of_pos (by rw [same, filter]; exact decide_eq_true pos),
    List.filter_nil] at run
  have counted := now.modGrd (fun x => { x with held8 := heldNext [e] 1 (fun e => (fun _ => true) (u.get (F.GRD_RULE_COND g e))) (u.grd g).held8 })
  have words : (u.modGrd g (fun x => { x with
    held8 := heldNext [e] 1 (fun e => (fun _ => true) (u.get (F.GRD_RULE_COND g e))) (u.grd g).held8 })).regs = s.regs := regs
  generalize u.modGrd g (fun x => { x with
    held8 := heldNext [e] 1 (fun e => (fun _ => true) (u.get (F.GRD_RULE_COND g e))) (u.grd g).held8 }) = v at run counted words
  have act : v.get (F.GRD_RULE_ACT g e) = 3 := by
    rw [← own]
    unfold State.get State.word
    rw [words]
  have ramps : (v.grd g).st = .ramp := (congrArg Grd.st counted.own).trans ramp
  rw [State.actStrongest_one act (by rw [words]; exact host) (by rw [ramps]; rfl)] at run
  obtain ⟨y, final, st, trip, -, alarmed⟩ := counted.ruleAct_latches (v.get (F.GRD_RULE_COND g e)) e
  exact ⟨_, run, (congrArg Grd.st final.own).trans st, (congrArg Grd.trip final.own).trans trip, alarmed, final.other⟩

theorem exec_reverseCurrentTrip {e n : Nat} (hok : s.ok) (usable : s.grdUsable g = true) (on : (s.grd g).st = .on)
    (entry : s.entriesOf g (fun c => c == 5) = [e]) (own : s.get (F.GRD_RULE_ACT g e) = 0) (filter : s.get (F.GRD_RULE_FILT g e) ≤ n)
    (host : assocGet g s.regs.same.grdHost = none) :
    ∃ t, exec (.reverseCurrentTrip { g := g, held := n }) s = .next t ∧ (t.grd g).st = .off ∧ (t.grd g).retries = 0 ∧ t.alarmed g
      ∧ (∀ j, j ≠ g → t.grd j = s.grd j) := by
  have acts := State.eventRule_one entry filter own host (by rw [on]; rfl)
  have run : exec (.reverseCurrentTrip { g := g, held := n }) s = .next (s.eventRule g 5 n) := congrArg Host.Outcome.next (if_pos usable)
  obtain ⟨y, final, st, retries, alarmed⟩ := (GrdNow.start hok usable).ruleAct_turnsOff (s.get (F.GRD_RULE_COND g e)) e
  exact ⟨_, run.trans (congrArg Host.Outcome.next acts), (congrArg Grd.st final.own).trans st, (congrArg Grd.retries final.own).trans retries,
    alarmed, final.other⟩

theorem exec_externalFault {e n : Nat} (hok : s.ok) (usable : s.grdUsable g = true) (pin : s.flag (F.GRD_CFG_XF_EN g) = true)
    (rate : s.fullRate = true) (on : (s.grd g).st = .on) (entry : s.entriesOf g (fun c => c == 6) = [e])
    (own : s.get (F.GRD_RULE_ACT g e) = 3) (filter : s.get (F.GRD_RULE_FILT g e) ≤ n) (host : assocGet g s.regs.same.grdHost = none) :
    ∃ t, exec (.externalFault { g := g, held := n }) s = .next t ∧ (t.grd g).st = .latched ∧ (t.grd g).trip = true ∧ t.alarmed g
      ∧ (∀ j, j ≠ g → t.grd j = s.grd j) := by
  have acts := State.eventRule_one entry filter own host (by rw [on]; rfl)
  have run : exec (.externalFault { g := g, held := n }) s = .next (s.eventRule g 6 n) :=
    congrArg Host.Outcome.next (if_pos (by rw [usable, pin, rate]; rfl))
  obtain ⟨y, final, st, trip, -, alarmed⟩ := (GrdNow.start hok usable).ruleAct_latches (s.get (F.GRD_RULE_COND g e)) e
  exact ⟨_, run.trans (congrArg Host.Outcome.next acts), (congrArg Grd.st final.own).trans st, (congrArg Grd.trip final.own).trans trip,
    alarmed, final.other⟩

/-! Supervision and retries (R246, R252) -/

theorem exec_slowSupervisionCheck_passes (hok : s.ok) (usable : s.grdUsable g = true) (dormant : s.sys.mode = .dormant)
    (held : (s.grd g).held = true) :
    ∃ t, exec (.slowSupervisionCheck g true true) s = .next t ∧ t.grd g = { s.grd g with uvSlow := 0 } ∧ s.onlyIn t [.grds] := by
  have run : exec (.slowSupervisionCheck g true true) s = .next (s.modGrd g (fun x => { x with uvSlow := 0 })) :=
    congrArg Host.Outcome.next (if_pos (by rw [usable, dormant, held]; rfl))
  exact ⟨_, run, ((GrdNow.start hok usable).modGrd _).own, Frame.modGrd _ _ _ (Frame.refl s _) (by decide)⟩

theorem exec_slowSupervisionCheck_fails {gate volt : Bool} (hok : s.ok) (usable : s.grdUsable g = true) (dormant : s.sys.mode = .dormant)
    (held : (s.grd g).held = true) (fails : (gate && volt) = false) (first : (s.grd g).uvSlow = 0) :
    ∃ t, exec (.slowSupervisionCheck g gate volt) s = .next t ∧ t.grd g = { s.grd g with uvSlow := 1 } ∧ s.onlyIn t [.grds] := by
  have now := (GrdNow.start hok usable).modGrd (fun x => { x with uvSlow := x.uvSlow + 1 })
  have one : ((s.modGrd g (fun x => { x with uvSlow := x.uvSlow + 1 })).grd g).uvSlow = 1 := by rw [now.own, first]
  have run : exec (.slowSupervisionCheck g gate volt) s = .next (s.modGrd g (fun x => { x with uvSlow := x.uvSlow + 1 })) := by
    refine congrArg Host.Outcome.next ((if_pos (by rw [usable, dormant, held]; rfl)).trans ((if_neg (by rw [fails]; decide)).trans ?_))
    exact if_neg (by rw [one]; decide)
  exact ⟨_, run, by rw [now.own, first], Frame.modGrd _ _ _ (Frame.refl s _) (by decide)⟩

theorem exec_retryDelayEnd (hok : s.ok) (usable : s.grdUsable g = true) (out : s.retryOut g = true) (mode : s.rampMode = true) :
    ∃ t, exec (.retryDelayEnd g) s = .next t ∧ (t.grd g).st = .ramp ∧ (t.grd g).trip = false ∧ (t.grd g).since = s.now
      ∧ (t.grd g).retries = (s.grd g).retries ∧ (∀ j, j ≠ g → t.grd j = s.grd j) ∧ s.onlyIn t [.regs, .hif, .grds] := by
  have ramps := (GrdNow.start hok usable).clearTrip.rampStart
  have run : exec (.retryDelayEnd g) s = .next (s.retryRamp g) := congrArg Host.Outcome.next (if_pos (by rw [usable, out, mode]; rfl))
  exact ⟨_, run, congrArg Grd.st ramps.own, congrArg Grd.trip ramps.own, (congrArg Grd.since ramps.own).trans rfl, (congrArg Grd.retries ramps.own).trans rfl,
    ramps.other, Frame.rampStart _ _ (Frame.modGrd _ _ _ (Frame.refl s _) (by decide)) (by decide) (by decide) (by decide)⟩

theorem exec_retryCountReset {since : Nat} (hok : s.ok) (hg : g < 8) (good : (s.grd g).goodSince = some since)
    (set : s.get (F.GRD_PRSN_GOOD_T g) ≠ 0) (pg : s.grdPg g = true)
    (long : s.get (F.GRD_PRSN_GOOD_T g) * 32768 ≤ (s.clk.aon - since) * 1000) :
    ∃ t, exec (.retryCountReset g) s = .next t ∧ t.grd g = { s.grd g with retries := 0 } ∧ s.onlyIn t [.grds] := by
  have grds : s.grds.length = 8 := (Kept.refl hok).grds.1
  have goodFor : s.goodFor g = true := by
    unfold State.goodFor
    rw [good]
    dsimp only
    rw [bne_iff_ne.mpr set, pg, decide_eq_true long]
    rfl
  exact ⟨_, congrArg Host.Outcome.next (if_pos goodFor), ((GrdNow.refl (by omega)).modGrd _).own,
    Frame.modGrd _ _ _ (Frame.refl s _) (by decide)⟩

/-! Insertion and removal (R249) -/

theorem State.flag_modGrd (f : Grd → Grd) (k : Fld) : (s.modGrd g f).flag k = s.flag k := rfl

theorem exec_prsnChange {level : Bool} (hok : s.ok) (usable : s.grdUsable g = true) (en : s.flag (F.GRD_CFG_PRSN_EN g) = true)
    (moved : (s.grd g).pin ≠ level) (here : level = s.flag (F.GRD_PRSN_PRSN_POL g)) (waits : (s.grd g).st = .waitPrsn) :
    ∃ t, exec (.prsnChange g level) s = .next t ∧ (t.grd g).st = .debounce ∧ (t.grd g).pin = level ∧ (t.grd g).pinAt = s.clk.aon
      ∧ (∀ j, j ≠ g → t.grd j = s.grd j) ∧ s.onlyIn t [.regs, .hif, .grds] := by
  have now := (GrdNow.start hok usable).modGrd (fun x => { x with
    pin := level, pinAt := s.clk.aon, pinTb := s.now, left := !(level == s.flag (F.GRD_PRSN_PRSN_POL g)) })
  have stays : ((s.modGrd g (fun x => { x with
    pin := level, pinAt := s.clk.aon, pinTb := s.now, left := !(level == s.flag (F.GRD_PRSN_PRSN_POL g)) })).grd g).st = .waitPrsn :=
    (congrArg Grd.st now.own).trans waits
  have run : exec (.prsnChange g level) s = .next ((s.modGrd g (fun x => { x with
      pin := level, pinAt := s.clk.aon, pinTb := s.now, left := !(level == s.flag (F.GRD_PRSN_PRSN_POL g)) })).grdStep g .debounce) := by
    refine congrArg Host.Outcome.next ((if_pos (by rw [usable, bne_iff_ne.mpr moved]; rfl)).trans (if_pos ?_))
    rw [stays, State.flag_modGrd, en, beq_iff_eq.mpr here]
    rfl
  have steps := now.grdStep .debounce
  exact ⟨_, run, congrArg Grd.st steps.own, congrArg Grd.pin steps.own, congrArg Grd.pinAt steps.own, steps.other,
    Frame.grdStep _ _ _ (Frame.modGrd _ _ _ (Frame.refl s _) (by decide)) (by decide) (by decide) (by decide)⟩

theorem exec_prsnDebounceDone (hok : s.ok) (usable : s.grdUsable g = true) (stable : s.prsnStable g = true) (absent : (s.grd g).prsn = false)
    (debounce : (s.grd g).st = .debounce) (auto : s.flag (F.GRD_CFG_AUTO g) = true) (en : s.flag (F.GRD_CFG_EN g) = true)
    (mode : s.rampMode = true) :
    ∃ t, exec (.prsnDebounceDone g) s = .next t ∧ (t.grd g).st = .ramp ∧ (t.grd g).prsn = true ∧ (t.grd g).since = s.now
      ∧ (∀ j, j ≠ g → t.grd j = s.grd j) ∧ s.onlyIn t [.regs, .hif, .grds] := by
  have now := (GrdNow.start hok usable).modGrd (fun x => { x with prsn := true, prsnWake := s.sys.mode.asleep || s.sys.sleep.isSome })
  have stays : ((s.modGrd g (fun x => { x with prsn := true, prsnWake := s.sys.mode.asleep || s.sys.sleep.isSome })).grd g).st = .debounce :=
    (congrArg Grd.st now.own).trans debounce
  have frame : s.onlyIn (s.modGrd g (fun x => { x with prsn := true, prsnWake := s.sys.mode.asleep || s.sys.sleep.isSome })) [.grds] :=
    Frame.modGrd _ _ _ (Frame.refl s _) (by decide)
  have run : exec (.prsnDebounceDone g) s = _ := congrArg Host.Outcome.next ((if_pos (by rw [usable, stable, absent]; rfl)).trans
    ((if_pos (by rw [stays]; rfl)).trans ((if_pos (Bool.and_eq_true_iff.mpr ⟨auto, en⟩)).trans (if_pos mode))))
  have ramps := now.rampStart
  exact ⟨_, run, congrArg Grd.st ramps.own, congrArg Grd.prsn ramps.own, (congrArg Grd.since ramps.own).trans rfl, ramps.other,
    Frame.rampStart _ _ (Frame.mono frame (by decide)) (by decide) (by decide) (by decide)⟩

theorem exec_prsnRemoval (hok : s.ok) (usable : s.grdUsable g = true) (gone : s.prsnGone g = true) (free : (s.grd g).st ≠ .latched) :
    ∃ t, exec (.prsnRemoval g) s = .next t ∧ (t.grd g).st = .waitPrsn ∧ (t.grd g).prsn = false ∧ (t.grd g).retries = 0
      ∧ t.alarmed g ∧ (∀ j, j ≠ g → t.grd j = s.grd j) ∧ s.onlyIn t [.regs, .hif, .evc, .grds] := by
  have now := (GrdNow.start hok usable).modGrd (fun x => { x with prsn := false, left := false })
  have stays : ((s.modGrd g (fun x => { x with prsn := false, left := false })).grd g).st ≠ .latched := by
    rw [now.own]
    exact free
  have run : exec (.prsnRemoval g) s = _ := congrArg Host.Outcome.next ((if_pos (by rw [usable, gone]; rfl)).trans
    (if_neg (by rw [beq_false_of_ne stays]; decide)))
  have frame : s.onlyIn (s.modGrd g (fun x => { x with prsn := false, left := false })) [.grds] :=
    Frame.modGrd _ _ _ (Frame.refl s _) (by decide)
  have ends := (((now.setLast 0 0 0 true).modGrd (fun x => { x with retries := 0 })).grdOffTo .waitPrsn).grdReport
  refine ⟨_, run, congrArg Grd.st ends.own, congrArg Grd.prsn ends.own, congrArg Grd.retries ends.own,
    State.grdReport_alarmed g _, ends.other, ?_⟩
  exact Frame.grdReport _ _ (Frame.grdOffTo _ _ _ (Frame.modGrd _ _ _ (Frame.setLast _ _ _ _ _ _ (Frame.mono frame (by decide)) (by decide))
    (by decide)) (by decide) (by decide) (by decide)) (by decide) (by decide) (by decide)

theorem exec_prsnRemoval_latched (hok : s.ok) (usable : s.grdUsable g = true) (gone : s.prsnGone g = true) (latched : (s.grd g).st = .latched) :
    ∃ t, exec (.prsnRemoval g) s = .next t ∧ t.grd g = { s.grd g with prsn := false, left := false } ∧ t.alarmed g
      ∧ (∀ j, j ≠ g → t.grd j = s.grd j) ∧ s.onlyIn t [.regs, .hif, .evc, .grds] := by
  have now := (GrdNow.start hok usable).modGrd (fun x => { x with prsn := false, left := false })
  have stays : ((s.modGrd g (fun x => { x with prsn := false, left := false })).grd g).st = .latched := by
    rw [now.own]
    exact latched
  have run : exec (.prsnRemoval g) s = _ := congrArg Host.Outcome.next ((if_pos (by rw [usable, gone]; rfl)).trans
    (if_pos (by rw [stays]; rfl)))
  have frame : s.onlyIn (s.modGrd g (fun x => { x with prsn := false, left := false })) [.grds] :=
    Frame.modGrd _ _ _ (Frame.refl s _) (by decide)
  exact ⟨_, run, now.grdReport.own, State.grdReport_alarmed g _, now.grdReport.other,
    Frame.grdReport _ _ (Frame.mono frame (by decide)) (by decide) (by decide) (by decide)⟩

end

/-- Settles O39: each trip by the entry that acts, and what its action leaves of the guardian. -/
theorem guardianTrips : Obligations.GuardianTrips := by
  unfold Obligations.GuardianTrips
  exact ⟨fun _ _ hok usable on bare => exec_guardianFastTrip hok usable on bare,
    fun _ _ hok usable ramp out open' late bare => exec_rampTimeout_waits hok usable ramp out open' late bare,
    fun _ _ _ hok usable ramp out open' late entry host filter own =>
      exec_rampTimeout_latches hok usable ramp out open' late entry host filter own,
    fun _ _ _ _ hok usable on entry own filter host => exec_reverseCurrentTrip hok usable on entry own filter host,
    fun _ _ _ _ hok usable pin rate on entry own filter host => exec_externalFault hok usable pin rate on entry own filter host⟩

/-- Settles O40: each operation by the state to which it takes the guardian. -/
theorem guardianSupervisionAndInsertion : Obligations.GuardianSupervisionAndInsertion := by
  unfold Obligations.GuardianSupervisionAndInsertion
  exact ⟨fun _ _ hok usable dormant held => exec_slowSupervisionCheck_passes hok usable dormant held,
    fun _ _ _ _ hok usable dormant held fails first => exec_slowSupervisionCheck_fails hok usable dormant held fails first,
    fun _ _ hok usable out mode => exec_retryDelayEnd hok usable out mode,
    fun _ _ _ hok hg good set pg long => exec_retryCountReset hok hg good set pg long,
    fun _ _ _ hok usable en moved here waits => exec_prsnChange hok usable en moved here waits,
    fun _ _ hok usable stable absent debounce auto en mode => exec_prsnDebounceDone hok usable stable absent debounce auto en mode,
    fun _ _ hok usable gone free => exec_prsnRemoval hok usable gone free,
    fun _ _ hok usable gone latched => exec_prsnRemoval_latched hok usable gone latched⟩

end Sys2Proof.Machine
end

section
/-! PROOFS. Commands of the maintenance queue as they complete (R297, R300), and the host's commands to a rail guardian (R245, R247,
R248). -/

namespace Sys2Proof.Machine

/-! A command that completes -/

/-- From o to u the maintenance ring, its results and its set-up stand. -/
structure MqKept (o u : State) : Prop where
  idx : (u.ring 8).idx = (o.ring 8).idx
  results : u.hif.results = o.hif.results
  room : 8 < u.hif.rings.length
  cfg : u.word (R.HIF_RCFG 8) = o.word (R.HIF_RCFG 8)

section
variable {o s t u : State}

theorem MqKept.refl (hok : s.ok) : MqKept s s := by
  have rings : s.hif.rings.length = 19 := Hif.shaped_rings (Kept.refl hok).hif
  exact ⟨rfl, rfl, by omega, rfl⟩

theorem MqKept.of_eq (h : MqKept o s) (hif : t.hif = s.hif) (word : t.word (R.HIF_RCFG 8) = s.word (R.HIF_RCFG 8)) : MqKept o t := by
  obtain ⟨idx, results, room, cfg⟩ := h
  have ring : t.ring 8 = s.ring 8 := by
    unfold State.ring
    rw [hif]
  exact ⟨by rw [ring, idx], by rw [hif, results], by rw [hif]; exact room, word.trans cfg⟩

/-- An operation that writes other words alone. -/
theorem MqKept.words {l : List Nat} (h : MqKept o s) (hif : t.hif = s.hif) (words : s.onlyWords t l) (out : R.HIF_RCFG 8 ∉ l) : MqKept o t :=
  h.of_eq hif (words.word_eq out)

theorem MqKept.frame {l : List Piece} (h : MqKept o s) (k : s.onlyIn t l) (out : Piece.regs ∉ l ∧ Piece.hif ∉ l) : MqKept o t := by
  refine h.of_eq (k .hif out.2) ?_
  unfold State.word
  rw [show t.regs = s.regs from k .regs out.1]

theorem MqKept.ite {c : Prop} [Decidable c] {x y : State} (h : MqKept o x) (k : MqKept o y) : MqKept o (if c then x else y) := by
  split <;> assumption

theorem MqKept.modRing (h : MqKept o s) (r : Nat) {f : Ring → Ring} (k : ∀ x, (f x).idx = x.idx) : MqKept o (s.modRing r f) := by
  obtain ⟨idx, results, room, cfg⟩ := h
  refine ⟨?_, results, Nat.lt_of_lt_of_eq room (modAt_length _ _ _).symm, cfg⟩
  rw [State.ring_modRing]
  split
  · rw [k, idx]
  · exact idx

theorem MqKept.lose (h : MqKept o s) (r : Nat) (trk : Bool) : MqKept o (s.lose r trk) := by
  unfold State.lose
  extract_lets g g' u
  have gapped : MqKept o u := h.modRing r (fun _ => rfl)
  exact .ite (gapped.words rfl ((State.onlyWords.refl u [R.HIF_XQLOST_CNT]).count (f := F.HIF_XQLOST_CNT_COUNT) List.mem_cons_self) (by decide))
    (gapped.words rfl ((State.onlyWords.refl u [R.HIF_TQLOST_CNT]).count (f := F.HIF_TQLOST_CNT_COUNT) List.mem_cons_self) (by decide))

theorem MqKept.trace (h : MqKept o s) (t bit low : Nat) (time : Tb) (mid w3 : Nat) : MqKept o (s.trace t bit low time mid w3) := by
  unfold State.trace
  split
  · split
    · obtain ⟨idx, results, room, cfg⟩ := h.modRing 18 (f := fun x => { x with gap := none }) (fun _ => rfl)
      exact ⟨idx, results, room, cfg⟩
    · exact h.lose 18 false
  · exact h

theorem MqKept.putWord (h : MqKept o s) {a : Nat} (v : Word) (out : R.HIF_RCFG 8 ≠ a) : MqKept o (s.putWord a v) :=
  h.words rfl ((State.onlyWords.refl s [a]).putWord v List.mem_cons_self) (fun k => out (List.mem_singleton.mp k))

theorem MqKept.inCycle (h : MqKept o s) (f : Same → Same) : MqKept o (s.inCycle f) :=
  h.words rfl ((State.onlyWords.refl s []).inCycle f) (by decide)

theorem MqKept.journal (h : MqKept o s) (a : Act) : MqKept o (s.journal a) := by
  obtain ⟨alarms, words, -, -⟩ := Journalled.journal a s
  obtain ⟨idx, results, room, cfg⟩ := h
  have hif : (s.journal a).hif = { s.hif with alarms := (s.journal a).hif.alarms } := alarms
  have ring : (s.journal a).ring 8 = s.ring 8 := by
    unfold State.ring
    rw [hif]
  exact ⟨by rw [ring, idx], by rw [hif]; exact results, by rw [hif]; exact room, (words.word_eq (by decide)).trans cfg⟩

/-- The words of a completion (Table 11.4). -/
def State.completionWords (tag : Word) (op code w3 : Nat) (s : State) : List Word :=
  [Word.ofN (code + place 12 4 9 + place 16 4 1), tag, Word.ofN (op + place 16 16 (s.ring 8).idx), Word.ofN w3,
   Word.ofN s.now.toNat, Word.ofN (s.now.toNat / 2 ^ 32), 0, 0]

theorem State.completion_results (tag : Word) (op code w3 : Nat) (s : State) :
    (s.completion tag op code w3).hif.results
      = s.hif.results ++ [{ cq := s.get (F.HIF_RCFG_CQ 8), words := s.completionWords tag op code w3 }] := rfl

theorem completionWord_code {code : Nat} (h : code < 32) :
    (Word.ofN (code + place 12 4 9 + place 16 4 1)).bits 0 5 = code ∧ (Word.ofN (code + place 12 4 9 + place 16 4 1)).bits 16 4 = 1 := by
  rw [place_eq, place_eq]
  unfold Word.bits Word.ofN
  rw [BitVec.toNat_ofNat, Nat.shiftRight_eq_div_pow, Nat.shiftRight_eq_div_pow]
  omega

theorem completionWord_op {op n : Nat} (h : op < 256) : (Word.ofN (op + place 16 16 n)).bits 0 8 = op := by
  rw [place_eq]
  unfold Word.bits Word.ofN
  rw [BitVec.toNat_ofNat, Nat.shiftRight_eq_div_pow]
  omega

/-- A command whose act leaves the ring completes with its code (R300). -/
theorem MqKept.completes (h : MqKept o u) (tag : Word) {op code : Nat} (w3 : Nat) (hop : op < 256) (hcode : code < 32) :
    o.completes ((u.completion tag op code w3).advance 8) tag op code := by
  obtain ⟨idx, results, room, cfg⟩ := h
  have size : u.ringSize 8 = o.ringSize 8 := by
    unfold State.ringSize State.get
    rw [cfg]
  have cq : u.get (F.HIF_RCFG_CQ 8) = o.get (F.HIF_RCFG_CQ 8) := by
    unfold State.get
    rw [cfg]
  obtain ⟨codeBits, kindBits⟩ := completionWord_code hcode
  refine ⟨?_, u.completionWords tag op code w3, ?_, rfl, codeBits, kindBits, rfl, completionWord_op hop⟩
  · rw [State.advance_idx (show 8 < (u.completion tag op code w3).hif.rings.length from room), ← idx, ← size]
    rfl
  · rw [State.advance_results, State.completion_results, results, cq]

/-- A ready command runs, completes with its code, and moves its ring on. -/
theorem MqKept.commanded (h : MqKept s u) (ready : s.mqReady = true) (tag : Word) {op code : Nat} {f : State → Nat × State}
    (w3 : State → Nat) (k : f s = (code, u)) (hop : op < 256) (hcode : code < 32) :
    ∃ t, s.onMq tag op f w3 = t ∧ s.completes t tag op code ∧ u.onlyIn t [.hif] := by
  refine ⟨(u.completion tag op code (w3 u)).advance 8, ?_, h.completes tag (w3 u) hop hcode,
    Frame.advance _ _ (Frame.completion _ _ _ _ _ (Frame.refl u _) (by decide)) (by decide)⟩
  refine (if_pos ready).trans ?_
  rw [k]

end

/-! A guardian under a command -/

section
variable {g : Nat} {o s u : State} {x : Grd}

theorem MqKept.modGrd (h : MqKept o u) (f : Grd → Grd) : MqKept o (u.modGrd g f) := h.of_eq rfl rfl

theorem MqKept.grdStep (h : MqKept o u) (st : GState) : MqKept o (u.grdStep g st) :=
  .ite (h.modGrd _) ((h.modGrd _).trace _ _ _ _ _ _)

theorem MqKept.grdOffTo (h : MqKept o u) (st : GState) : MqKept o (u.grdOffTo g st) := (h.modGrd _).grdStep st

theorem MqKept.setLast (h : MqKept o u) (hg : g < 8) (cond entry act : Nat) (cmd : Bool) : MqKept o (u.setLast g cond entry act cmd) :=
  h.putWord _ (by simp only [R.HIF_RCFG, R.GRD_LAST]; omega)

theorem MqKept.clrLatch (h : MqKept o u) {f : Fld} (i : Nat) (out : R.HIF_RCFG 8 ≠ f.a) : MqKept o (u.clrLatch f i) :=
  h.words (Frame.clrLatch f i u (Frame.refl u [.regs]) (by decide) .hif (by decide))
    ((State.onlyWords.refl u [f.a]).clrLatch i List.mem_cons_self) (fun k => out (List.mem_singleton.mp k))

theorem MqKept.rampStart (h : MqKept o u) : MqKept o (u.rampStart g) :=
  (((h.clrLatch g (by decide)).clrLatch g (by decide)).modGrd _).grdStep _

theorem MqKept.noteGrd (h : MqKept o u) : MqKept o (u.noteGrd g) := by
  unfold State.noteGrd
  split
  · exact h
  · exact h.inCycle _

theorem State.noteGrd_frame (g : Nat) (s : State) : s.onlyIn (s.noteGrd g) [.regs] := Frame.noteGrd g s (Frame.refl s _) (by decide)

theorem State.noteGrd_words (g : Nat) (s : State) : s.onlyWords (s.noteGrd g) [] := by
  unfold State.noteGrd
  split
  · exact .refl s _
  · exact (State.onlyWords.refl s []).inCycle _

/-- From s to u guardian g ramps, with its trip latch clear; the rest of the state that a ramp does not touch stands. -/
structure GrdRamps (g : Nat) (s u : State) : Prop where
  st : (u.grd g).st = .ramp
  trip : (u.grd g).trip = false
  other : ∀ j, j ≠ g → u.grd j = s.grd j
  mq : MqKept s u
  frame : s.onlyIn u [.regs, .hif, .grds]

/-- ON of a guardian in OFF (R247). -/
theorem State.grdOnAct_ramps {role port : Nat} (hok : s.ok) (usable : s.grdUsable g = true) (off : (s.grd g).st = .off)
    (en : s.flag (F.GRD_CFG_EN g) = true) (board : s.flag (F.GRD_CFG_PRSN_EN g) = false) (mode : s.rampMode = true)
    (free : s.ruleStands g = false) : GrdRamps g s (s.grdOnAct g role port) := by
  have lt := State.grdUsable_lt usable
  have noted := (GrdNow.start hok usable).frame (s.noteGrd_frame g) (by decide)
  have frame := s.noteGrd_frame g
  have words := s.noteGrd_words g
  have mq : MqKept s (s.noteGrd g) := (MqKept.refl hok).noteGrd
  have acts : s.grdOnAct g role port = ((s.noteGrd g).setLast g 0 0 0 true).grdOnFromOff g := by
    unfold State.grdOnAct
    rw [if_neg (by rw [free]; decide)]
    dsimp only
    rw [noted.own, off]
  generalize s.noteGrd g = u at noted frame words mq acts
  have last : s.onlyWords (u.setLast g 0 0 0 true) [R.GRD_LAST g] := (words.mono (fun _ h => absurd h List.not_mem_nil)).putWord _ List.mem_cons_self
  have flags (f : Fld) (h : f.a ≠ R.GRD_LAST g) : (u.setLast g 0 0 0 true).flag f = s.flag f :=
    last.flag_eq (fun k => h (List.mem_singleton.mp k))
  have apart : R.GRD_CFG g ≠ R.GRD_LAST g := by
    simp only [R.GRD_CFG, R.GRD_LAST]
    omega
  have kept : MqKept s (u.setLast g 0 0 0 true) := mq.setLast lt 0 0 0 true
  have now := noted.setLast 0 0 0 true
  have whole : s.onlyIn (u.setLast g 0 0 0 true) [.regs] := Frame.setLast _ _ _ _ _ _ frame (by decide)
  have mode' : (u.setLast g 0 0 0 true).rampMode = true :=
    (congrArg (fun x : Sys => x.mode.operating) (whole .sys (by decide))).trans mode
  have en' := (flags (F.GRD_CFG_EN g) apart).trans en
  have board' := (flags (F.GRD_CFG_PRSN_EN g) apart).trans board
  generalize u.setLast g 0 0 0 true = v at acts kept now whole mode' en' board'
  have ramps : v.grdOnFromOff g = (v.clearTrip g).rampStart g := by
    unfold State.grdOnFromOff
    extract_lets cleared
    rw [if_neg (by rw [en']; decide), if_neg (by rw [show cleared.flag (F.GRD_CFG_PRSN_EN g) = false from board', Bool.false_and]; decide)]
    exact if_pos mode'
  rw [acts, ramps]
  have final := now.clearTrip.rampStart
  exact ⟨congrArg Grd.st final.own, congrArg Grd.trip final.own, final.other, (kept.modGrd _).rampStart,
    Frame.rampStart _ _ (Frame.modGrd _ _ _ (Frame.mono whole (by decide)) (by decide)) (by decide) (by decide) (by decide)⟩

theorem State.grd_frame {v : State} {l : List Piece} (h : u.onlyIn v l) (k : Piece.grds ∉ l) (j : Nat) : v.grd j = u.grd j := by
  unfold State.grd
  rw [show v.grds = u.grds from h .grds k]

theorem exec_grdOn_mq {tag : Word} (hok : s.ok) (ready : s.mqReady = true) (usable : s.grdUsable g = true) (off : (s.grd g).st = .off)
    (en : s.flag (F.GRD_CFG_EN g) = true) (board : s.flag (F.GRD_CFG_PRSN_EN g) = false) (mode : s.rampMode = true)
    (free : s.ruleStands g = false) :
    ∃ t, exec (.grdOn (.mq tag) g) s = .next t ∧ s.completes t tag 2 0 ∧ (t.grd g).st = .ramp ∧ (t.grd g).trip = false
      ∧ (∀ j, j ≠ g → t.grd j = s.grd j) ∧ s.onlyIn t [.regs, .hif, .grds] := by
  obtain ⟨st, trip, other, mq, frame⟩ := State.grdOnAct_ramps (role := 0) (port := 0) hok usable off en board mode free
  have unlocked : s.clearLocked g = false := by
    unfold State.clearLocked
    rw [off]
    rfl
  obtain ⟨t, run, completes, done⟩ := mq.commanded ready tag (op := 2) (fun s => s.grdCode g)
    (f := fun s => if !s.grdUsable g then (Code.absent, s) else if s.clearLocked g then (Code.role, s) else (Code.ok, s.grdOnAct g 0 0))
    ((if_neg (by rw [usable]; decide)).trans (if_neg (by rw [unlocked]; decide))) (by decide) (by decide)
  have grd (j : Nat) := State.grd_frame done (by decide) j
  refine ⟨t, congrArg Host.Outcome.next run, completes, ?_, ?_, fun j ne => ?_, Frame.trans frame (Frame.mono done (by decide))⟩
  · rw [grd, st]
  · rw [grd, trip]
  · rw [grd, other j ne]

/-- What OFF leaves of a guardian that is not latched (R247). -/
theorem exec_grdOff_mq {tag : Word} (hok : s.ok) (ready : s.mqReady = true) (usable : s.grdUsable g = true)
    (unlatched : (s.grd g).st ≠ .latched) (free : s.ruleStands g = false) :
    ∃ t, exec (.grdOff (.mq tag) g) s = .next t ∧ s.completes t tag 3 0 ∧ (t.grd g).st = .off ∧ (t.grd g).retries = 0
      ∧ (∀ j, j ≠ g → t.grd j = s.grd j) ∧ s.onlyIn t [.regs, .hif, .grds] := by
  have lt := State.grdUsable_lt usable
  have acts : s.grdOffAct g = (((s.noteGrd g).setLast g 0 0 0 true).modGrd g (fun x => { x with retries := 0 })).grdOffTo g .off :=
    if_neg (by rw [free, beq_false_of_ne unlatched]; decide)
  have now := ((((GrdNow.start hok usable).frame (s.noteGrd_frame g) (by decide)).setLast 0 0 0 true).modGrd
    (fun x => { x with retries := 0 })).grdOffTo .off
  have mq := ((((MqKept.refl hok).noteGrd (g := g)).setLast lt 0 0 0 true).modGrd (g := g) (fun x => { x with retries := 0 })).grdOffTo
    (g := g) .off
  have frame : s.onlyIn (((s.noteGrd g).setLast g 0 0 0 true).modGrd g (fun x => { x with retries := 0 })) [.regs, .hif, .grds] :=
    Frame.modGrd _ _ _ (Frame.setLast _ _ _ _ _ _ (Frame.mono (s.noteGrd_frame g) (by decide)) (by decide)) (by decide)
  have frame := Frame.grdOffTo g .off _ frame (by decide) (by decide) (by decide)
  rw [← acts] at now mq frame
  obtain ⟨t, run, completes, done⟩ := mq.commanded ready tag (op := 3) (fun s => s.grdCode g)
    (f := fun s => if !s.grdUsable g then (Code.absent, s) else (Code.ok, s.grdOffAct g))
    (if_neg (by rw [usable]; decide)) (by decide) (by decide)
  have grd (j : Nat) := State.grd_frame done (by decide) j
  refine ⟨t, congrArg Host.Outcome.next run, completes, ?_, ?_, fun j ne => ?_, Frame.trans frame (Frame.mono done (by decide))⟩
  · rw [grd, now.own]
  · rw [grd, now.own]
  · rw [grd, now.other j ne]

/-- A journal entry is written while there is room for it. -/
theorem State.journal_counter (a : Act) (h : s.jRoom a.role 1 = true) : (s.journal a).sec.counter = s.sec.counter + 1 := by
  have watched (u : State) : u.jWatch.sec.counter = u.sec.counter := by
    unfold State.jWatch
    split
    · rw [State.alarm_sec]
    · rfl
  unfold State.journal
  rw [if_pos h]
  exact watched _

theorem exec_grdClear_mq {tag : Word} (hok : s.ok) (ready : s.mqReady = true) (usable : s.grdUsable g = true)
    (latched : (s.grd g).st = .latched) (open' : s.flag (F.GRD_CFG_CLR_LOCK g) = false) :
    ∃ t, exec (.grdClear (.mq tag) g) s = .next t ∧ s.completes t tag 4 0 ∧ (t.grd g).st = .off ∧ (t.grd g).trip = false
      ∧ (s.jRoom 0 1 = true → t.sec.counter = s.sec.counter + 1) ∧ (∀ j, j ≠ g → t.grd j = s.grd j)
      ∧ s.onlyIn t [.regs, .hif, .sec, .grds] := by
  have lt := State.grdUsable_lt usable
  have acts : s.grdClearAct g 0 0 = ((((s.setLast g 0 0 0 true).clearTrip g).modGrd g (fun x => { x with retries := 0 })).grdOffTo g .off).journal
      (act 0 0 6 g) := rfl
  have now := (((GrdNow.start hok usable).setLast 0 0 0 true).clearTrip.modGrd (fun x => { x with retries := 0 })).grdOffTo .off
  have mq := ((((MqKept.refl hok).setLast lt 0 0 0 true).modGrd (g := g) (fun x => { x with trip := false, tripSeen := false })).modGrd
    (g := g) (fun x => { x with retries := 0 })).grdOffTo (g := g) .off
  have frame : s.onlyIn (((s.setLast g 0 0 0 true).clearTrip g).modGrd g (fun x => { x with retries := 0 })) [.regs, .hif, .grds] :=
    Frame.modGrd _ _ _ (Frame.modGrd _ _ _ (Frame.setLast _ _ _ _ _ _ (Frame.refl s _) (by decide)) (by decide)) (by decide)
  have frame := Frame.grdOffTo g .off _ frame (by decide) (by decide) (by decide)
  have mq : MqKept s ((((s.setLast g 0 0 0 true).clearTrip g).modGrd g (fun x => { x with retries := 0 })).grdOffTo g .off) := mq
  generalize (((s.setLast g 0 0 0 true).clearTrip g).modGrd g (fun x => { x with retries := 0 })).grdOffTo g .off = u at now mq frame acts
  have sec : u.sec = s.sec := frame .sec (by decide)
  have journalled : u.onlyIn (u.journal (act 0 0 6 g)) [.regs, .hif, .sec] := Frame.journal _ _ (Frame.refl u _) (by decide) (by decide) (by decide)
  have counter : s.jRoom 0 1 = true → (u.journal (act 0 0 6 g)).sec.counter = s.sec.counter + 1 := by
    intro room
    rw [State.journal_counter, sec]
    unfold State.jRoom
    rw [sec]
    exact room
  have written := now.frame journalled (by decide)
  have mqWritten := mq.journal (act 0 0 6 g)
  have whole : s.onlyIn (u.journal (act 0 0 6 g)) [.regs, .hif, .sec, .grds] :=
    Frame.trans (Frame.mono frame (by decide)) (Frame.mono journalled (by decide))
  rw [← acts] at written mqWritten counter whole
  obtain ⟨t, run, completes, done⟩ := mqWritten.commanded ready tag (op := 4) (fun s => s.grdCode g)
    (f := fun s => if !s.grdUsable g then (Code.absent, s) else if s.flag (F.GRD_CFG_CLR_LOCK g) then (Code.role, s)
      else (Code.ok, if (s.grd g).st == .latched then s.grdClearAct g 0 0 else s))
    ((if_neg (by rw [usable]; decide)).trans ((if_neg (by rw [open']; decide)).trans
      (congrArg (Prod.mk Code.ok) (if_pos (by rw [latched]; rfl))))) (by decide) (by decide)
  have grd (j : Nat) := State.grd_frame done (by decide) j
  refine ⟨t, congrArg Host.Outcome.next run, completes, ?_, ?_, fun room => ?_, fun j ne => ?_, Frame.trans whole (Frame.mono done (by decide))⟩
  · rw [grd, written.own]
  · rw [grd, written.own]
  · rw [show t.sec = _ from done .sec (by decide), counter room]
  · rw [grd, written.other j ne]

theorem exec_grdClear_locked {tag : Word} (hok : s.ok) (ready : s.mqReady = true) (usable : s.grdUsable g = true)
    (locked : s.flag (F.GRD_CFG_CLR_LOCK g) = true) :
    ∃ t, exec (.grdClear (.mq tag) g) s = .next t ∧ s.completes t tag 4 18 ∧ s.onlyIn t [.hif] := by
  obtain ⟨t, run, completes, done⟩ := (MqKept.refl hok).commanded ready tag (op := 4) (fun s => s.grdCode g)
    (f := fun s => if !s.grdUsable g then (Code.absent, s) else if s.flag (F.GRD_CFG_CLR_LOCK g) then (Code.role, s)
      else (Code.ok, if (s.grd g).st == .latched then s.grdClearAct g 0 0 else s))
    ((if_neg (by rw [usable]; decide)).trans (if_pos locked)) (by decide) (by decide)
  exact ⟨t, congrArg Host.Outcome.next run, completes, done⟩

theorem exec_grdLimit {tag arg0 arg1 : Word} (hok : s.ok) (ready : s.mqReady = true) (hg : g = arg0.bits 0 3)
    (usable : s.grdUsable g = true) (ftMin : s.get (F.GRD_BAND_FT_MIN g) ≤ arg1.bits 0 8) (ftMax : arg1.bits 0 8 ≤ s.get (F.GRD_BAND_FT_MAX g))
    (ilimMin : s.get (F.GRD_BAND_ILIM_MIN g) ≤ arg1.bits 8 8) (ilimMax : arg1.bits 8 8 ≤ s.get (F.GRD_BAND_ILIM_MAX g)) :
    ∃ t, exec (.grdLimit tag arg0 arg1) s = .next t ∧ s.completes t tag 5 0
      ∧ t.grd g = { s.grd g with liveFt := arg1.bits 0 8, liveIlim := arg1.bits 8 8 } ∧ s.onlyIn t [.regs, .hif, .sec, .grds] := by
  have within : ¬ (arg1.bits 0 8 < s.get (F.GRD_BAND_FT_MIN g) ∨ s.get (F.GRD_BAND_FT_MAX g) < arg1.bits 0 8
      ∨ arg1.bits 8 8 < s.get (F.GRD_BAND_ILIM_MIN g) ∨ s.get (F.GRD_BAND_ILIM_MAX g) < arg1.bits 8 8) := by omega
  have now := (GrdNow.start hok usable).modGrd (fun x => { x with liveFt := arg1.bits 0 8, liveIlim := arg1.bits 8 8 })
  have mq : MqKept s (s.modGrd g (fun x => { x with liveFt := arg1.bits 0 8, liveIlim := arg1.bits 8 8 })) := (MqKept.refl hok).modGrd _
  have frame : s.onlyIn (s.modGrd g (fun x => { x with liveFt := arg1.bits 0 8, liveIlim := arg1.bits 8 8 })) [.grds] :=
    Frame.modGrd _ _ _ (Frame.refl s _) (by decide)
  have acts : s.grdLimitAct (arg0.bits 0 3) (arg1.bits 0 8) (arg1.bits 8 8)
      = (Code.ok, (s.modGrd g (fun x => { x with liveFt := arg1.bits 0 8, liveIlim := arg1.bits 8 8 })).journal { act 0 0 7 g with
          old := (s.grd g).liveFt + 256 * (s.grd g).liveIlim, new := arg1.bits 0 8 + 256 * arg1.bits 8 8 }) := by
    unfold State.grdLimitAct
    rw [← hg, if_neg (by rw [usable]; decide), if_neg within]
  generalize ({ act 0 0 7 g with old := _, new := _ } : Act) = entry at acts
  generalize s.modGrd g (fun x => { x with liveFt := arg1.bits 0 8, liveIlim := arg1.bits 8 8 }) = u at now mq frame acts
  have journalled : u.onlyIn (u.journal entry) [.regs, .hif, .sec] := Frame.journal _ _ (Frame.refl u _) (by decide) (by decide) (by decide)
  have written := now.frame journalled (by decide)
  obtain ⟨t, run, completes, done⟩ := (mq.journal entry).commanded ready tag (op := 5) (fun s => s.grdCode (arg0.bits 0 3)) acts
    (by decide) (by decide)
  refine ⟨t, congrArg Host.Outcome.next run, completes, ?_, ?_⟩
  · rw [State.grd_frame done (by decide), written.own]
  · exact Frame.trans (Frame.trans (Frame.mono frame (by decide)) (Frame.mono journalled (by decide))) (Frame.mono done (by decide))

theorem exec_grdLimit_outside {tag arg0 arg1 : Word} (hok : s.ok) (ready : s.mqReady = true) (usable : s.grdUsable (arg0.bits 0 3) = true)
    (low : arg1.bits 0 8 < s.get (F.GRD_BAND_FT_MIN (arg0.bits 0 3))) :
    ∃ t, exec (.grdLimit tag arg0 arg1) s = .next t ∧ s.completes t tag 5 18 ∧ s.onlyIn t [.hif] := by
  obtain ⟨t, run, completes, done⟩ := (MqKept.refl hok).commanded ready tag (op := 5) (fun s => s.grdCode (arg0.bits 0 3))
    (f := fun s => s.grdLimitAct (arg0.bits 0 3) (arg1.bits 0 8) (arg1.bits 8 8))
    ((if_neg (by rw [usable]; decide)).trans (if_pos (.inl low))) (by decide) (by decide)
  exact ⟨t, congrArg Host.Outcome.next run, completes, done⟩

/-! ON by the guardian's register (R247) -/

theorem State.rowThere_grdCtrl (usable : s.grdUsable g = true) :
    ∃ r, s.rowThere (R.GRD_CTRL g) = some r ∧ r.i = 0 ∧ r.woI = 0 ∧ r.woM = 0 := by
  have row : rowAt (R.GRD_CTRL g) = some (⟨0x3c64, [(8, 112)], .grd, 0, 0, 0, 0, 0x7, 0, 0, 0⟩, [g]) := by
    have lt := State.grdUsable_lt usable
    clear usable
    revert g
    decide
  have block : s.blockThere (R.GRD_CTRL g) = true := by
    have lt := State.grdUsable_lt usable
    unfold State.blockThere
    simp only [R.GRD_CTRL, R.WHL_CAMCFG, R.WHL_CAMREF, R.WHL_CAM_ANG, R.WHL_ACLK_CTRL, R.WHL_CTRL, R.SET_CFG]
    rw [if_neg (by omega), if_neg (by omega), if_neg (by omega), if_neg (by omega)]
  have there : s.rowThere (R.GRD_CTRL g) = some ⟨0x3c64, [(8, 112)], .grd, 0, 0 &&& s.bitsThere (R.GRD_CTRL g), 0, 0, 0x7, 0, 0, 0⟩ := by
    unfold State.rowThere
    rw [row]
    exact if_pos (Bool.and_eq_true_iff.mpr ⟨usable, block⟩)
  exact ⟨_, there, Nat.zero_and _, rfl, rfl⟩

/-- A register write leaves what the rule tables have done in its fabric cycle. -/
theorem State.rowWrite_rules {r : RegRow} {p : Port} {a : Nat} {v : Word} (h : refuses s r a (s.roleOf p) v = false) :
    (s.rowWrite r p a v).regs.same.grd = s.regs.same.grd := by
  unfold State.rowWrite
  extract_lets role im imask omask live1 gone1 gone live smask shadow deny s1 s2
  have hdeny : deny = false := h
  have first : s1.regs.same.grd = s.regs.same.grd := by
    show (s.noteHost a).regs.same.grd = s.regs.same.grd
    unfold State.noteHost State.inCycle
    dsimp only
    split <;> rfl
  have second : s2.regs.same.grd = s.regs.same.grd := by
    unfold s2
    split <;> exact first
  rw [hdeny]
  exact second

theorem exec_grdOn_reg {p : Port} (hok : s.ok) (ho : s.portOpen = true) (usable : s.grdUsable g = true) (off : (s.grd g).st = .off)
    (en : s.flag (F.GRD_CFG_EN g) = true) (board : s.flag (F.GRD_CFG_PRSN_EN g) = false) (mode : s.rampMode = true)
    (free : s.ruleStands g = false) :
    ∃ t, exec (.grdOn (.reg p) g) s = .next t ∧ (t.grd g).st = .ramp ∧ (t.grd g).trip = false
      ∧ (∀ j, j ≠ g → t.grd j = s.grd j) ∧ s.onlyIn t [.regs, .hif, .grds, .sec] := by
  obtain ⟨r, row, noFields, noInstaller, noMaker⟩ := State.rowThere_grdCtrl usable
  have row' : (s.touch p).rowThere (R.GRD_CTRL g) = some r := by rw [State.touch_rowThere, row]
  have accepts : refuses (s.touch p) r (R.GRD_CTRL g) ((s.touch p).roleOf p) 1 = false := by
    simp [refuses, noFields, noInstaller, noMaker]
  have writes : (s.touch p).fieldsWrite p (R.GRD_CTRL g) 1 = (s.touch p).rowWrite r p (R.GRD_CTRL g) 1 := by
    unfold State.fieldsWrite
    rw [row']
  have wrote : HostWrote (R.GRD_CTRL g) (s.touch p) ((s.touch p).rowWrite r p (R.GRD_CTRL g) 1) := .rowWrite accepts
  have rules := State.rowWrite_rules (p := p) accepts
  have kept : Kept s ((s.touch p).fieldsWrite p (R.GRD_CTRL g) 1) := Kept.fieldsWrite _ _ _ _ (Kept.touch s p (Kept.refl hok))
  have touched : s.onlyIn (s.touch p) [.sec] := Frame.touch s p (Frame.refl s _) (by decide)
  have run : exec (.grdOn (.reg p) g) s = .next (s.grdCtrlWrite p g 1) := rfl
  unfold State.grdCtrlWrite at run
  rw [State.busWrite_of_there ho (by rw [row']; rfl) 1 _] at run
  rw [writes] at run kept
  have frame : s.onlyIn ((s.touch p).rowWrite r p (R.GRD_CTRL g) 1) [.regs, .sec] :=
    Frame.trans (Frame.mono touched (by decide)) (Frame.mono wrote.frame (by decide))
  generalize (s.touch p).rowWrite r p (R.GRD_CTRL g) 1 = u at run kept wrote rules frame
  have grd : u.grd g = s.grd g := State.grd_frame frame (by decide) g
  have usable' : u.grdUsable g = true := by
    rw [← usable]
    unfold State.grdUsable State.grdMarked
    rw [show u.part = s.part from frame .part (by decide), show u.tst = s.tst from frame .tst (by decide)]
  have flags (f : Fld) (h : f.a ≠ R.GRD_CTRL g) : u.flag f = s.flag f := by
    unfold State.flag State.get
    rw [wrote.word _ h, State.touch_word]
  have apart : R.GRD_CFG g ≠ R.GRD_CTRL g := by
    simp only [R.GRD_CFG, R.GRD_CTRL]
    omega
  have mode' : u.rampMode = true := (congrArg (fun x : Sys => x.mode.operating) (frame .sys (by decide))).trans mode
  have free' : u.ruleStands g = false := by
    rw [← free]
    unfold State.ruleStands
    rw [rules, show (s.touch p).regs = s.regs from touched .regs (by decide)]
  have unlocked : u.clearLocked g = false := by
    unfold State.clearLocked
    rw [grd, off]
    rfl
  have one : (1 : Word).bit 0 = true ∧ (1 : Word).bit 1 = false ∧ (1 : Word).bit 2 = false := by decide
  obtain ⟨on, noOff, noClear⟩ := one
  rw [on, noOff, noClear, unlocked] at run
  simp only [Bool.and_false, Bool.false_and, Bool.or_false, Bool.not_false, Bool.and_true, if_true, Bool.false_eq_true, if_false] at run
  obtain ⟨st, trip, other, -, ramps⟩ := State.grdOnAct_ramps (role := u.roleOf p) (port := portNum p) kept.ok usable'
    (by rw [grd, off]) ((flags (F.GRD_CFG_EN g) apart).trans en) ((flags (F.GRD_CFG_PRSN_EN g) apart).trans board) mode' free'
  refine ⟨_, run, st, trip, fun j ne => (other j ne).trans (State.grd_frame frame (by decide) j), ?_⟩
  exact Frame.trans (Frame.mono frame (by decide)) (Frame.mono ramps (by decide))

end

/-- Settles O41: each command by the state to which it takes the guardian, and its completion by what stands of the ring. -/
theorem guardianCommands : Obligations.GuardianCommands := by
  unfold Obligations.GuardianCommands
  exact ⟨fun _ _ _ hok ready usable off en board mode free => exec_grdOn_mq hok ready usable off en board mode free,
    fun _ _ _ hok ho usable off en board mode free => exec_grdOn_reg hok ho usable off en board mode free,
    fun _ _ _ hok ready usable unlatched free => exec_grdOff_mq hok ready usable unlatched free,
    fun _ _ _ hok ready usable latched open' => exec_grdClear_mq hok ready usable latched open',
    fun _ _ _ hok ready usable locked => exec_grdClear_locked hok ready usable locked,
    fun _ _ _ _ _ hok ready hg usable ftMin ftMax ilimMin ilimMax => exec_grdLimit hok ready hg usable ftMin ftMax ilimMin ilimMax,
    fun _ _ _ _ hok ready usable low => exec_grdLimit_outside hok ready usable low⟩

end Sys2Proof.Machine
end

section
/-! PROOFS. The table of needs (R214, R227). -/

namespace Sys2Proof.Machine

theorem exec_ptabDataAccess {p : Port} {s : State} (h : s.portOpen = true) (w : Option Word) :
    exec (.ptabDataAccess p w) s = .next ((s.touch p).ptabAccess p w) := by
  cases w <;> exact congrArg Host.Outcome.next (if_pos h)

theorem State.get_ptabIndex_set {s : State} (h : s.regs.live.wf = true) (n : Nat) :
    (s.set ptabIndex (n % 1024)).get ptabIndex = n % 1024 :=
  (State.get_set s _ _ h (by decide)).trans (Nat.mod_mod n 1024)

theorem State.touch_part (p : Port) (s : State) : (s.touch p).part = s.part :=
  Frame.touch s p (Frame.refl s [.sec]) (by decide) .part (by decide)

theorem needTableRead {p : Port} {s : State} (hok : s.ok) (ho : s.portOpen = true) :
    ∃ t, exec (.ptabDataAccess p none) s = .next t ∧ t.get ptabIndex = (s.get ptabIndex + 1) % 1024
      ∧ (s.get ptabIndex / 256 < s.part.quads → s.get ptabIndex % 4 < 2 →
          t.ans.read = some ((s.word (ptabAddr (s.get ptabIndex))).toNat &&& 0xFFFFFF))
      ∧ s.onlyWords t [R.INK_PTAB_IDX] ∧ s.onlyIn t [.regs, .sec, .ans] := by
  have wf : (s.touch p).regs.live.wf = true := (Kept.touch s p (Kept.refl hok)).regs.live
  refine ⟨_, exec_ptabDataAccess ho none, ?_⟩
  unfold State.ptabAccess
  simp only [State.touch_get, State.touch_word, State.touch_part]
  refine ⟨State.get_ptabIndex_set wf _, fun there need => ?_,
    State.onlyWords.set (f := ptabIndex) (.of_regs ((State.onlyWords.refl s _).touch p) rfl) _ List.mem_cons_self,
    Frame.set _ _ _ (Frame.answer _ _ (Frame.touch s p (Frame.refl s _) (by decide)) (by decide)) (by decide)⟩
  rw [if_pos (decide_eq_true there), if_pos need]
  rfl

/-- An entry's word and its hidden fraction stand apart from each other and from the set-up space. -/
theorem ptabAddr_ne_ptabFrac {i : Nat} (h : i < 1024) (j : Nat) : ptabAddr i ≠ ptabFrac j := by
  unfold ptabAddr ptabFrac
  omega

theorem ptabAddr_ne_index (i : Nat) : ptabAddr i ≠ ptabIndex.a := by
  show 0x120000 + 4 * i ≠ R.INK_PTAB_IDX
  unfold R.INK_PTAB_IDX
  omega

theorem toNat_ofN_mask (v : Word) (m : Nat) : (Word.ofN (v.toNat &&& m)).toNat = v.toNat &&& m :=
  (BitVec.toNat_ofNat _ _).trans (Nat.mod_eq_of_lt (Nat.lt_of_le_of_lt Nat.and_le_left v.isLt))

/-- A need that the installer writes: the word in both copies, and its fraction at 0. -/
def State.needWritten (i : Nat) (v : Word) (role : Nat) (s : State) : State := (s.putBoth (ptabAddr i) v role).putWord (ptabFrac i) 0

/-- An alternate that the installer writes acts on the shadow copy. -/
def State.alternateWritten (i : Nat) (v : Word) (role : Nat) (s : State) : State := (s.putShadow (ptabAddr i) v).markDirty (ptabAddr i) role

theorem State.ptabAccess_installer {p : Port} {v : Word} {s : State} (hr : s.isInstaller p = true) (there : s.get ptabIndex / 256 < s.part.quads) :
    s.ptabAccess p (some v) = (if s.get ptabIndex % 4 < 2 then
        s.needWritten (s.get ptabIndex) (Word.ofN (v.toNat &&& 0xFFFFFF)) (s.roleOf p)
      else if s.get ptabIndex % 4 = 2 then s.alternateWritten (s.get ptabIndex) (Word.ofN (v.toNat &&& 0xFF)) (s.roleOf p)
      else s).set ptabIndex ((s.get ptabIndex + 1) % 1024) := by
  unfold State.ptabAccess
  dsimp only
  rw [decide_eq_true there, hr]
  by_cases need : s.get ptabIndex % 4 < 2
  · simp only [if_pos need]
    rfl
  · by_cases alternate : s.get ptabIndex % 4 = 2
    · simp only [if_neg need, if_pos alternate]
      rfl
    · simp only [if_neg need, if_neg alternate]
      rfl

theorem needTableWrite {p : Port} {v : Word} {s : State} (hok : s.ok) (ho : s.portOpen = true) (hr : s.isInstaller p = true)
    (there : s.get ptabIndex / 256 < s.part.quads) :
    ∃ t, exec (.ptabDataAccess p (some v)) s = .next t ∧ t.get ptabIndex = (s.get ptabIndex + 1) % 1024
      ∧ (s.get ptabIndex % 4 < 2 → (t.word (ptabAddr (s.get ptabIndex))).toNat = v.toNat &&& 0xFFFFFF
          ∧ (t.shadowWord (ptabAddr (s.get ptabIndex))).toNat = v.toNat &&& 0xFFFFFF)
      ∧ (s.get ptabIndex % 4 = 2 → t.word (ptabAddr (s.get ptabIndex)) = s.word (ptabAddr (s.get ptabIndex))
          ∧ (t.shadowWord (ptabAddr (s.get ptabIndex))).toNat = v.toNat &&& 0xFF)
      ∧ s.onlyIn t [.regs, .sec] := by
  have lt : s.get ptabIndex < 1024 := State.get_lt s _
  have kept := (Kept.touch s p (Kept.refl hok)).regs
  have acts := State.ptabAccess_installer (s := s.touch p) (p := p) (v := v) (by rw [State.touch_isInstaller, hr])
    (by rw [State.touch_get, State.touch_part]; exact there)
  have run := (exec_ptabDataAccess ho (some v)).trans (congrArg Host.Outcome.next acts)
  have words (a : Nat) : (s.touch p).word a = s.word a := State.touch_word p s a
  have frame : s.onlyIn (s.touch p) [.regs, .sec] := Frame.touch s p (Frame.refl s _) (by decide)
  rw [State.touch_get] at run
  generalize s.get ptabIndex = i at lt run there
  generalize (s.touch p).roleOf p = role at run
  generalize s.touch p = u at kept words frame run
  have need : (u.needWritten i (Word.ofN (v.toNat &&& 0xFFFFFF)) role).regs.live.wf = true := WMap.put_wf _ _ _ (WMap.put_wf _ _ _ kept.live)
  by_cases first : i % 4 < 2
  · rw [if_pos first] at run
    refine ⟨_, run, State.get_ptabIndex_set need _, fun _ => ⟨?_, ?_⟩, fun k => absurd k (by omega), ?_⟩
    · rw [State.word_set_other _ _ _ _ need (ptabAddr_ne_index i)]
      refine (congrArg BitVec.toNat ?_).trans (toNat_ofN_mask v 0xFFFFFF)
      exact (State.word_putWord _ _ _ _ (WMap.put_wf _ _ _ kept.live)).trans ((if_neg (ptabAddr_ne_ptabFrac lt i)).trans
        (WMap.word_put_same _ _ _ kept.live))
    · exact (congrArg BitVec.toNat (WMap.word_put_same _ _ _ kept.shadow)).trans (toNat_ofN_mask v 0xFFFFFF)
    · exact Frame.set _ _ _ (Frame.putWord _ _ _ (Frame.putBoth _ _ _ _ frame (by decide)) (by decide)) (by decide)
  · rw [if_neg first] at run
    by_cases second : i % 4 = 2
    · rw [if_pos second] at run
      refine ⟨_, run, State.get_ptabIndex_set kept.live _, fun k => absurd k first, fun _ => ⟨?_, ?_⟩, ?_⟩
      · have stays := State.word_set_other (u.alternateWritten i (Word.ofN (v.toNat &&& 0xFF)) role) ptabIndex (ptabAddr i) ((i + 1) % 1024) kept.live
          (ptabAddr_ne_index i)
        exact stays.trans (words _)
      · exact (congrArg BitVec.toNat (WMap.word_put_same _ _ _ kept.shadow)).trans (toNat_ofN_mask v 0xFF)
      · exact Frame.set _ _ _ (Frame.markDirty _ _ _ (Frame.putShadow _ _ _ frame (by decide)) (by decide)) (by decide)
    · rw [if_neg second] at run
      exact ⟨_, run, State.get_ptabIndex_set kept.live _, fun k => absurd k first, fun k => absurd k second,
        Frame.set _ _ _ frame (by decide)⟩

/-- Settles O36: either access by the word at the index. -/
theorem needTableAccesses : Obligations.NeedTableAccesses := by
  unfold Obligations.NeedTableAccesses
  exact ⟨fun _ _ hok ho => needTableRead hok ho, fun _ _ _ hok ho hr there => needTableWrite hok ho hr there⟩

end Sys2Proof.Machine
end

section
/-! PROOFS. The visit of VIGIL whose entry is not enabled (R318, R321): it makes no sample. -/

namespace Sys2Proof.Machine

/-- In VIGIL the visit of entry 0 of H-converter 0 is due and its target's window is open, but the entry is not enabled. -/
def vigilEntryOff : State :=
  (({ State.reset with sys := { State.reset.sys with mode := .vigil } } : State).set F.ADC_VIGIL_EN 1 |>.set (accEn 0) 1).setWin 0
    { Win.initial with open' := true }

theorem vigilEntryOff_ok : vigilEntryOff.ok := by
  have vigil : ({ State.reset with sys := { State.reset.sys with mode := .vigil } } : State).ok := ⟨by decide, resetIsSound.2⟩
  exact (Kept.setWin _ _ _ (Kept.set _ _ _ (Kept.set _ _ _ (Kept.refl vigil)))).ok

theorem vigilEntryOff_accepts :
    vigilEntryOff.accepts (vigilEntryOff.target 4 0) (vigilEntryOff.get (F.ADC_SEQB_EPOCH 4 0)) (vigilEntryOff.visitLen 4 0) := by
  unfold State.accepts
  decide

/-- Refutes O42: in VIGIL the visit of an entry that is not enabled gives its target nothing (vigilEntryOff). -/
theorem not_convertersFeedTheirTargets : ¬ Obligations.ConvertersFeedTheirTargets := by
  unfold Obligations.ConvertersFeedTheirTargets
  rintro ⟨-, -, visits, -⟩
  obtain ⟨t, run, ⟨taken, -⟩, -⟩ := visits 0 [0, 0, 0] vigilEntryOff vigilEntryOff_ok (by decide) (by decide) (by decide) (by decide) (by decide)
    vigilEntryOff_accepts
  have same : ({ vigilEntryOff with adc := { vigilEntryOff.adc with vigilAon := vigilEntryOff.clk.aon } } : State) = t :=
    Host.Outcome.next.inj run
  have count := congrArg Win.count taken
  rw [← same] at count
  exact absurd count (by decide)

end Sys2Proof.Machine
end

section
/-! PROOFS. A move's PEND ends in the fabric cycle of a close (R329, R333): the sample in flight goes to the record. -/

namespace Sys2Proof.Machine

/-- A window of target 0 that has closed. -/
def closedWindow : Shut := { win := Win.initial, cause := 4, tag := 0, ev := none, time := 0, ang := 0 }

/-- PEND has stood for 20 µs, and a sample of target 0 is in flight on converter 0. -/
def sampleInFlight : State :=
  ({ State.reset with
      clk := { State.reset.clk with tbRun := true, tb := 16000 },
      adc := { State.reset.adc with movePend := some 0 } } : State).modConv 0 (fun c => { c with flight := some (0, 0) })

/-- Target 0's window has closed in this fabric cycle. -/
def closedInCycle : State := (sampleInFlight.set (accEn 0) 1).inCycle (fun m => { m with shut := [(0, closedWindow)] })

theorem closedInCycle_ok : closedInCycle.ok := by
  have flying : sampleInFlight.ok := (Kept.modConv _ _ _ (Kept.refl ⟨by decide, resetIsSound.2⟩)).ok
  exact (Kept.inCycle _ _ (Kept.set _ _ _ (Kept.refl flying))).ok

/-- What stands of the close after the samples in flight have landed. -/
theorem closedInCycle_lands :
    (assocGet 0 ((upTo 6).foldl (fun (s : State) n => s.landFlight n) closedInCycle).regs.same.shut).map (fun x => x.win.count) = some 1
      ∧ (assocGet 0 closedInCycle.regs.same.shut).map (fun x => x.win.count) = some 0 := by decide

/-- Refutes O43: where PEND ends, a sample in flight belongs to a window that has closed in the same fabric cycle, whose record takes
it (closedInCycle), so not the converters' part alone changes. -/
theorem not_converterCommands : ¬ Obligations.ConverterCommands := by
  unfold Obligations.ConverterCommands
  rintro ⟨-, -, -, -, -, ends, -⟩
  obtain ⟨t, run, -, -, frame⟩ := ends 0 closedInCycle closedInCycle_ok (by decide) (by decide)
  have same : ({ (upTo 6).foldl (fun (s : State) n => s.landFlight n) closedInCycle with
      adc := { ((upTo 6).foldl (fun (s : State) n => s.landFlight n) closedInCycle).adc with movePend := none } } : State) = t :=
    Host.Outcome.next.inj run
  have regs : t.regs = closedInCycle.regs := frame .regs (by decide)
  rw [← same] at regs
  obtain ⟨taken, stood⟩ := closedInCycle_lands
  have stands : ((upTo 6).foldl (fun (s : State) n => s.landFlight n) closedInCycle).regs = closedInCycle.regs := regs
  rw [stands, stood] at taken
  exact absurd taken (by decide)

end Sys2Proof.Machine
end

section
/-! PROOFS. A host's write of a timer's word in the fabric cycle in which an MQ command has written it (R297). -/

namespace Sys2Proof.Machine

/-- SETUP, with the time base running. -/
def timeRuns : State :=
  { State.reset with
    sys := { State.reset.sys with mode := .setup }
    clk := { State.reset.clk with tbRun := true } }

/-- The bits of TMR0's reload word stand as written by an MQ command in the present fabric cycle. -/
def reloadByQueue : State := timeRuns.noteMq (R.TMR_RELOAD 0) (2 ^ 32 - 1)

theorem timeRuns_ok : timeRuns.ok := ⟨by decide, resetIsSound.2⟩

theorem reloadByQueue_ok : reloadByQueue.ok := (Kept.noteMq _ _ _ (Kept.refl timeRuns_ok)).ok

/-- What an MQ command has written in the fabric cycle stands against the host's write. -/
theorem reloadByQueue_stands : (reloadByQueue.reloadWrite .spi 0 1).get (F.TMR_RELOAD_RELOAD 0) = 0 := by decide

/-- Refutes O45: a host's write of TMR_RELOAD0 in the fabric cycle in which an MQ command has written the word leaves the reload value
(reloadByQueue; R297). -/
theorem not_timerAndComparatorCommands : ¬ Obligations.TimerAndComparatorCommands := by
  unfold Obligations.TimerAndComparatorCommands
  rintro ⟨-, -, reload, -⟩
  obtain ⟨t, run, taken, -⟩ := reload .spi 0 1 reloadByQueue reloadByQueue_ok (by decide) (by decide)
  have same : reloadByQueue.reloadWrite .spi 0 1 = t := Host.Outcome.next.inj run
  rw [← same, reloadByQueue_stands] at taken
  exact absurd taken (by decide)

end Sys2Proof.Machine
end

section
/-! PROOFS. A trigger of a CLOCK slave that still owes the new period of an earlier RESET trigger (R355). -/

namespace Sys2Proof.Machine

/-- A timer whose count stands at 5, with a trigger on its way, while the new period of an earlier trigger waits for the next tick. -/
def cutTimer : Tmr := { Tmr.initial with run := true, count := 5, trig := true, cut := true }

/-- TMR0 is such a timer, and its set-up names it a CLOCK slave now. -/
def cutSlave : State :=
  ((timeRuns.modTmr 0 (fun _ => cutTimer)).set (F.TMR_CFG_EN 0) 1).set (F.TMR_CFG_SLAVE 0) 3

theorem cutSlave_ok : cutSlave.ok :=
  (Kept.set _ _ _ (Kept.set _ _ _ (Kept.modTmr _ _ _ (Kept.refl timeRuns_ok)))).ok

/-- The tick starts the new period: the count takes the reload value. -/
theorem cutSlave_reloads : ∃ t, exec (.slaveTrigger 0) cutSlave = .next t ∧ (t.tmr 0).count = 0 :=
  ⟨_, rfl, by decide⟩

/-- Refutes O44: the tick of a CLOCK slave starts a new period where one is owed to a trigger that came while the timer was a RESET
slave, so its count does not decrease by one (cutSlave). -/
theorem not_timersActOnTheirEvents : ¬ Obligations.TimersActOnTheirEvents := by
  unfold Obligations.TimersActOnTheirEvents
  rintro ⟨-, -, -, -, clocked, -⟩
  obtain ⟨t, run, counts, -⟩ := clocked 0 cutSlave cutSlave_ok (by decide) (by decide) (by decide) (by decide)
  obtain ⟨t', run', reloads⟩ := cutSlave_reloads
  have same : t' = t := Host.Outcome.next.inj (run'.symm.trans run)
  have stood : (cutSlave.tmr 0).count = 5 := by decide
  rw [← same, reloads, stood] at counts
  exact absurd counts (by decide)

end Sys2Proof.Machine
end

section
/-! PROOFS. Step 6 of BOOT with a charged device account (R224, R226, R423). -/

namespace Sys2Proof.Machine

/-- Step 5 of BOOT is over; the image does not check, and the device account has been charged. -/
def chargedBoot : State :=
  { State.reset with
    regs := { State.reset.regs with imgKind := 1 }
    sys := { State.reset.sys with bootStep := 5 }
    ink := { State.reset.ink with charges := [(0, 450000)], devArmed := true } }

/-- The account is enabled, with a window and no allowance. -/
def deficitAtBoot : State := (chargedBoot.set F.INK_DEVCFG_EN 1).set F.INK_DEVCFG_WIN 1000

theorem chargedBoot_ok : chargedBoot.ok := ⟨by decide, resetIsSound.2⟩

theorem deficitAtBoot_ok : deficitAtBoot.ok := (Kept.set _ _ _ (Kept.set _ _ _ (Kept.refl chargedBoot_ok))).ok

/-- Step 6 without an image, up to the judgement of the device account. -/
def State.unloaded (s : State) : State :=
  let s : State := { s with sys := { s.sys with image := s.regs.imgKind, bootStep := 6, tstRan := s.passAtBoot } }
  let s : State := s.grdLive.nibMargins.levelsSettle
  ({ s with ink := { s.ink with devArmed := s.ink.devArmed || decide (0 ≤ s.devBal) } } : State).watchDev

/-- What follows that judgement in step 6 writes no word. -/
theorem State.loadImage_regs {s : State} (torn : (s.regs.imgKind == 0) = false) : s.loadImage.regs = s.unloaded.regs := by
  have idle : s.unloaded.onlyIn ((upTo 96).foldl (fun (s : State) n => s.logIdle n) s.unloaded) [.sch] :=
    Frame.foldl (Frame.refl _ _) (fun _ _ k => Frame.logIdle _ _ k (by decide))
  have same : s.loadImage = (fun u : State => if u.passAtBoot then u.passBegin true else u)
      ((upTo 96).foldl (fun (s : State) n => s.logIdle n) s.unloaded) := by
    unfold State.loadImage
    rw [torn]
    rfl
  have words : ∀ u : State, (if u.passAtBoot then u.passBegin true else u).regs = u.regs :=
    fun u => (apply_ite State.regs _ _ _).trans (ite_self _)
  rw [same, words]
  exact idle .regs (by decide)

/-- The account's deficit is reported by alarm 27, which is counted. -/
theorem deficitAtBoot_counted : deficitAtBoot.unloaded.get (F.HIF_ALMCNT_COUNT 27) = 1 ∧ deficitAtBoot.get (F.HIF_ALMCNT_COUNT 27) = 0 := by
  decide

/-- Refutes O53: step 6 places and counts the alarm of a device account that stands in deficit (deficitAtBoot; R224), so the live words
do not stay as they were where the image does not check. -/
theorem not_resetsAndBoot : ¬ Obligations.ResetsAndBoot := by
  unfold Obligations.ResetsAndBoot
  rintro ⟨-, -, -, -, -, -, -, -, -, -, fails, -⟩
  obtain ⟨t, run, -, -, -, live⟩ := fails deficitAtBoot deficitAtBoot_ok rfl rfl (by decide)
  have step : exec .imageChecked deficitAtBoot = .next deficitAtBoot.loadImage := congrArg Host.Outcome.next (if_pos rfl)
  have same : deficitAtBoot.loadImage = t := Host.Outcome.next.inj (step.symm.trans run)
  obtain ⟨counted, stood⟩ := deficitAtBoot_counted
  rw [← same, State.loadImage_regs rfl] at live
  have stands : deficitAtBoot.unloaded.get (F.HIF_ALMCNT_COUNT 27) = deficitAtBoot.get (F.HIF_ALMCNT_COUNT 27) := by
    unfold State.get State.word
    rw [live]
  rw [counted, stood] at stands
  exact absurd stands (by decide)

end Sys2Proof.Machine
end

section
/-! PROOFS. A loss of the slur link that outlasts LOSS_T on a device that is in ARMED (R465, R471). -/

namespace Sys2Proof.Machine

/-- ARMED; the slur link has been lost for 10 ms, and the attempt made at the loss has failed. -/
def lostInArmed : State :=
  { State.reset with
    sys := { State.reset.sys with mode := .armed }
    clk := { State.reset.clk with tbRun := true, tb := 8000000 }
    slur := { State.reset.slur with state := 3, lostAt := some 0 } }

/-- It is a follower, and LOSS_T is 1 ms. -/
def followerLost : State := ((lostInArmed.set F.SET_CFG_EN 1).set F.SET_CFG_ROLE 1).set F.SET_CFG_LOSS_T 1

theorem lostInArmed_ok : lostInArmed.ok := ⟨by decide, resetIsSound.2⟩

theorem followerLost_ok : followerLost.ok :=
  (Kept.set _ _ _ (Kept.set _ _ _ (Kept.set _ _ _ (Kept.refl lostInArmed_ok)))).ok

/-- A device that is in ARMED does not enter it: no training starts. -/
theorem followerLost_rests : ∃ t, exec .slurLossTimeout followerLost = .next t ∧ t.slur.state = 3 :=
  ⟨_, rfl, by decide⟩

/-- Refutes O58: after LOSS_T a follower that is in ARMED already, its last attempt failed, starts no training then (followerLost): its
retries go on (R471). -/
theorem not_angleFramesAndTheirLoss : ¬ Obligations.AngleFramesAndTheirLoss := by
  unfold Obligations.AngleFramesAndTheirLoss
  rintro ⟨-, -, -, -, -, -, stalls, -⟩
  obtain ⟨t, run, -, -, -, enters⟩ := stalls followerLost followerLost_ok (by decide)
  obtain ⟨t', run', rests⟩ := followerLost_rests
  have same : t' = t := Host.Outcome.next.inj (run'.symm.trans run)
  obtain ⟨-, trains, -⟩ := enters (by decide)
  rw [← same, rests] at trains
  exact absurd trains (by decide)

end Sys2Proof.Machine
end

section
/-! PROOFS. Training of the slur link (R465 to R467, R471). -/

namespace Sys2Proof.Machine

section
variable {s : State}

/-! The flags of a set -/

theorem State.leads_iff : s.leads = true ↔ s.slurOn = true ∧ s.follower = false := by
  unfold State.leads
  rw [Bool.and_eq_true, Bool.not_eq_true']

theorem State.follows_iff : s.follows = true ↔ s.slurOn = true ∧ s.follower = true := by
  unfold State.follows
  rw [Bool.and_eq_true]

/-- On a link in use SET_CFG.ROLE says who follows. -/
theorem State.follower_of_slurOn (on : s.slurOn = true) : s.follower = s.flag F.SET_CFG_ROLE := by
  have link : (s.part.slur && s.flag F.SET_CFG_EN) = true := on
  unfold State.follower
  rw [link, Bool.true_and]

theorem State.touch_leads (p : Port) (s : State) : (s.touch p).leads = s.leads := by
  unfold State.touch
  split <;> rfl

/-- An attempt begins: a leader sends, a follower waits. -/
theorem State.beginTraining_of_slurOn (on : s.slurOn = true) :
    s.beginTraining = { s with slur := { s.slur with
      state := 1, sending := !s.follower, step := 0, since := s.now, stepAt := s.now, rtSum := 0, rtN := 0, assign := none, toEcho := none } } := by
  rw [State.follower_of_slurOn on]
  exact if_pos on

theorem State.retrainNow_of_leads (leads : s.leads = true) (on : s.sys.mode.operating = true) : s.retrainNow = s.beginTraining := by
  obtain ⟨link, leader⟩ := State.leads_iff.mp leads
  unfold State.retrainNow
  rw [link, on, leader]
  rfl

theorem State.slurRetry_begins (follows : s.follows = true) (on : s.sys.mode.operating = true) (failed : s.slur.state = 3)
    (due : 800000 ≤ elapsed s.slur.since s.now) : exec .slurRetry s = .next s.beginTraining := by
  simp only [exec, execSlurRetry, follows, on, failed, due, decide_true, beq_self_eq_true, Bool.and_self, if_true]

/-! The receiver -/

/-- What a receiver in training makes of a frame whose CRC is right. -/
theorem exec_trainingFrame {f : TrainFrame} (arrival : Tb) (follows : s.follows = true) (on : s.sys.mode.operating = true)
    (trains : s.slur.state = 1) (receives : s.slur.sending = false) (crc : crc8 (trainBits f) 120 = f.crc) (step : f.step < 3) :
    exec (.trainingFrameReceive f arrival) s = .next (s.trainIn f arrival) := by
  simp [exec, execTrainingFrameReceive, follows, on, trains, receives, crc, step]

/-- The first assignment of STEP 2 is taken, with its time of arrival. -/
theorem State.trainIn_assigns {f : TrainFrame} (arrival : Tb) (trains : s.slur.state = 1) (stands : s.slur.step = 2)
    (none : s.slur.assign = none) (step : f.step = 2) :
    s.trainIn f arrival = { s with slur := { s.slur with assign := some f, arr := arrival } } := by
  simp [State.trainIn, trains, stands, none, step]

/-- In STEP 1 the frame of slot 0 is kept to echo. -/
theorem State.trainIn_echoes {f : TrainFrame} (arrival : Tb) (trains : s.slur.state = 1) (stands : s.slur.step = 1) (step : f.step = 1)
    (slot : f.launch.toNat % 1024 = 0) : s.trainIn f arrival = { s with slur := { s.slur with toEcho := some (f, arrival) } } := by
  simp [State.trainIn, trains, stands, step, slot]

/-- The echo of a receiver goes out when its time has come. -/
theorem exec_trainingEcho_relaunches (rt : Option Nat) {f : TrainFrame} {a : Tb} (follows : s.follows = true) (trains : s.slur.state = 1)
    (receives : s.slur.sending = false) (echo : s.slur.toEcho = some (f, a)) (due : 73 ≤ elapsed a s.now) :
    exec (.trainingEcho rt) s = .next { s with slur := { s.slur with upFrame := some f, toEcho := none } } := by
  simp [exec, execTrainingEcho, State.echoDue, State.relaunch, follows, trains, receives, echo, due]

/-- The assignment that ends the receiver's training. -/
theorem State.assigned_of {f : TrainFrame} (stands : s.slur.step = 2) (assign : s.slur.assign = some f) (wheel : s.sameWheel f = true)
    (number : f.dev < 4) : s.assigned = some f := by
  simp [State.assigned, stands, assign, wheel, number]

/-- A receiver with its assignment ends its training after the superframes of STEP 2. -/
theorem exec_trainingStep_takes {f : TrainFrame} (on : s.slurOn = true) (trains : s.slur.state = 1) (receives : s.slur.sending = false)
    (stands : s.slur.step = 2) (assigned : s.assigned = some f) (spent : 2048 ≤ elapsed s.slur.stepAt s.now) :
    exec .trainingStepDone s = .next (s.hopTaken f) := by
  simp [exec, execTrainingStepDone, State.stepDue, State.stepOver, State.trainStep, on, trains, receives, stands, assigned, spent]

/-- The step of the receiver's time base to the sender's (R466). -/
def State.baseStep (s : State) (f : TrainFrame) : Tb := f.launch + BitVec.ofNat 40 ((f.lat + 2) / 5) - s.slur.arr

/-- The receiver has stepped its time base, and has its number. -/
def State.baseStepped (f : TrainFrame) (s : State) : State :=
  { s with
    clk := { s.clk with tb := s.now + s.baseStep f }
    slur := { s.slur with dev := f.dev, lat := f.lat, frameAt := s.now + s.baseStep f } }

/-- After a step d of its time base to now, a device begins the training of the hop below it. -/
def State.trainsBelow (d now : Tb) (s : State) : State :=
  { s with slur := { s.slur with
      lostAt := s.slur.lostAt.map (· + d), owes := false, state := 1, sending := true, step := 0, since := now, stepAt := now, rtSum := 0,
      rtN := 0, assign := none, toEcho := none } }

theorem State.hopTaken_eq (f : TrainFrame) (s : State) :
    s.hopTaken f = (if s.slur.owes then (s.baseStepped f).raise 62 else s.baseStepped f).trainsBelow (s.baseStep f) (s.now + s.baseStep f) :=
  rfl

theorem State.baseStepped_frame (f : TrainFrame) (s : State) : s.onlyIn (s.baseStepped f) [.clk, .slur] := by
  have clk : s.onlyIn { s with clk := { s.clk with tb := s.now + s.baseStep f } } [.clk, .slur] :=
    Frame.with_clk (Frame.refl s _) (by decide)
  exact Frame.with_slur clk (by decide)

/-- The receiver steps its time base, has its number and trains the hop below it. -/
theorem State.hopTaken_settles (f : TrainFrame) (s : State) :
    (s.hopTaken f).slur.dev = f.dev ∧ (s.hopTaken f).slur.lat = f.lat ∧ (s.hopTaken f).slur.sending = true
      ∧ (s.hopTaken f).slur.step = 0 ∧ (s.hopTaken f).slur.lostAt = s.slur.lostAt.map (· + s.baseStep f)
      ∧ (s.hopTaken f).slur.owes = false ∧ (s.hopTaken f).clk = { s.clk with tb := s.now + s.baseStep f }
      ∧ s.onlyWords (s.hopTaken f) [] ∧ s.onlyIn (s.hopTaken f) [.regs, .clk, .evc, .slur] := by
  rw [State.hopTaken_eq]
  generalize hu : (if s.slur.owes then (s.baseStepped f).raise 62 else s.baseStepped f) = u
  have raised : (s.baseStepped f).onlyIn u [.regs, .evc] := by
    rw [← hu]
    exact Frame.ite (Frame.raise _ _ (Frame.refl _ _) (by decide) (by decide)) (Frame.refl _ _)
  have words : s.onlyWords u [] := by
    rw [← hu]
    have stepped : s.onlyWords (s.baseStepped f) [] := (State.onlyWords.refl s []).of_regs rfl
    exact (stepped.raise 62).ite stepped
  have frame : s.onlyIn u [.regs, .clk, .evc, .slur] :=
    Frame.trans (Frame.mono (State.baseStepped_frame f s) (by decide)) (Frame.mono raised (by decide))
  have slur : u.slur = (s.baseStepped f).slur := raised .slur (by decide)
  have clk : u.clk = (s.baseStepped f).clk := raised .clk (by decide)
  refine ⟨?_, ?_, rfl, rfl, ?_, rfl, clk, words.of_regs rfl, Frame.with_slur frame (by decide)⟩
  · exact congrArg Slur.dev slur
  · exact congrArg Slur.lat slur
  · exact (congrArg (fun k : Slur => k.lostAt.map (· + s.baseStep f)) slur).trans rfl

/-! The sender -/

/-- No echo in STEP 0: nobody is below. -/
theorem exec_trainingEcho_none (on : s.slurOn = true) (trains : s.slur.state = 1) (sends : s.slur.sending = true) (first : s.slur.step = 0) :
    exec (.trainingEcho none) s = .next (s.hopDone true) := by
  simp [exec, execTrainingEcho, State.echo, on, trains, sends, first]

/-- A round trip of STEP 1 is added to those measured. -/
theorem exec_trainingEcho_some (x : Nat) (on : s.slurOn = true) (trains : s.slur.state = 1) (sends : s.slur.sending = true)
    (step : s.slur.step = 1) (few : s.slur.rtN < 4) :
    exec (.trainingEcho (some x)) s
      = .next { s with slur := { s.slur with rtSum := s.slur.rtSum + x, rtN := s.slur.rtN + 1 } } := by
  simp [exec, execTrainingEcho, State.echo, on, trains, sends, step, few]

/-- The sender leaves STEP 0 after its superframes. -/
theorem exec_trainingStep_first (on : s.slurOn = true) (trains : s.slur.state = 1) (sends : s.slur.sending = true) (first : s.slur.step = 0)
    (spent : 4096 ≤ elapsed s.slur.stepAt s.now) :
    exec .trainingStepDone s = .next { s with slur := { s.slur with step := 1, stepAt := s.now } } := by
  simp [exec, execTrainingStepDone, State.stepDue, State.stepOver, State.trainStep, on, trains, sends, first, spent]

/-- The attempt is over, with the reason why. -/
def State.attemptOver (s : State) : State :=
  { s with slur := { s.slur with err := s.trainErr, state := if s.slur.sending && s.follower then 2 else 3, sending := false } }

/-- An attempt that has no trained hop above it to fall back on fails with alarm 31. -/
theorem State.trainFail_settles (below : (s.slur.sending && s.follower) = false) :
    s.trainFail.slur.state = 3 ∧ s.trainFail.slur.err = s.trainErr ∧ s.trainFail.slur.sending = false ∧ s.trainFail.alarmed 31
      ∧ s.onlyIn s.trainFail [.regs, .hif, .slur] := by
  have ended : s.onlyIn s.attemptOver [.regs, .hif, .slur] := Frame.with_slur (Frame.refl s _) (by decide)
  have frame : s.onlyIn s.trainFail [.regs, .hif, .slur] := Frame.alarm _ _ _ _ _ ended (by decide) (by decide)
  have alarm : s.attemptOver.onlyIn s.trainFail [.regs, .hif] := Frame.alarm _ _ _ _ _ (Frame.refl _ _) (by decide) (by decide)
  have slur : s.trainFail.slur = s.attemptOver.slur := alarm .slur (by decide)
  rw [slur]
  exact ⟨if_neg (Bool.not_eq_true _ ▸ below), rfl, rfl, State.alarmed_alarm _ _ _ _ _, frame⟩

/-- A measured difference of a word's range is kept, and the time base slews by one unit at most. -/
theorem State.slewed_eq {d : Int} (low : -32768 ≤ d) (high : d ≤ 32767) (now : Tb) :
    clampI (-32768) 32767 d = d
      ∧ (if 5 < 2 * d then now - 1 else if 2 * d < -5 then now + 1 else now) = if 3 ≤ d then now - 1 else if d ≤ -3 then now + 1 else now := by
  refine ⟨?_, ?_⟩
  · unfold clampI
    omega
  · have up : 5 < 2 * d ↔ 3 ≤ d := by omega
    have down : 2 * d < -5 ↔ d ≤ -3 := by omega
    simp only [up, down]

end

/-- Settles O59: each clause is the equation of its branch; how a hop's training ends is followed through the step of the time base. -/
theorem trainingOfTheSlurLink : Obligations.TrainingOfTheSlurLink := by
  unfold Obligations.TrainingOfTheSlurLink
  refine ⟨?retrain, ?assign, ?last, ?measure, ?relaunch, ?keep, ?first, ?taken, ?fails, ?slews, ?retry⟩
  case retrain =>
    intro p v s ready go leads on
    have touched : s.onlyIn (s.touch p) [.sec] := Frame.touch _ _ (Frame.refl s _) (by decide)
    have leads' : (s.touch p).leads = true := by rw [State.touch_leads, leads]
    have link := (State.leads_iff.mp leads').1
    have begins : (s.touch p).retrainNow = (s.touch p).beginTraining := 
      State.retrainNow_of_leads leads' ((congrArg (fun y : Sys => y.mode.operating) (touched .sys (by decide))).trans on)
    have run : exec (.retrain p v) s = .next (s.touch p).beginTraining :=
      congrArg Host.Outcome.next ((State.onWrite_of_open ready _).trans ((if_pos go).trans begins))
    refine ⟨_, run, ?_⟩
    rw [State.beginTraining_of_slurOn link, (State.leads_iff.mp leads').2]
    exact ⟨rfl, rfl, rfl, congrArg Clk.tb (touched .clk (by decide)), rfl,
      Frame.with_slur (Frame.mono touched (by decide)) (by decide)⟩
  case assign =>
    intro f arrival s _ follows on trains receives stands none step crc
    exact ⟨_, (exec_trainingFrame arrival follows on trains receives crc (by omega)), State.trainIn_assigns arrival trains stands none step⟩
  case last =>
    intro s on trains sends first
    exact ⟨_, exec_trainingEcho_none on trains sends first, rfl, rfl, rfl, Frame.with_slur (Frame.refl s _) (by decide)⟩
  case measure =>
    intro x s on trains sends step few
    exact ⟨_, exec_trainingEcho_some x on trains sends step few, rfl⟩
  case relaunch =>
    intro rt f a s follows trains receives echo due
    exact ⟨_, exec_trainingEcho_relaunches rt follows trains receives echo due, rfl⟩
  case keep =>
    intro f arrival s _ follows on trains receives stands step slot crc
    exact ⟨_, exec_trainingFrame arrival follows on trains receives crc (by omega), State.trainIn_echoes arrival trains stands step slot⟩
  case first =>
    intro s on trains sends first spent
    exact ⟨_, exec_trainingStep_first on trains sends first spent, rfl⟩
  case taken =>
    intro f s _ on trains receives stands assign wheel number spent
    exact ⟨_, exec_trainingStep_takes on trains receives stands (State.assigned_of stands assign wheel number) spent,
      State.hopTaken_settles f s⟩
  case fails =>
    intro s _ on trains spent below
    have run : exec .trainingTimeout s = .next s.trainFail := by
      simp only [exec, execTrainingTimeout, on, trains, spent, decide_true, beq_self_eq_true, Bool.and_self, if_true]
    exact ⟨_, run, State.trainFail_settles below⟩
  case slews =>
    intro d s expects low high
    obtain ⟨kept, slews⟩ := State.slewed_eq low high s.now
    have run : exec (.timeBaseSlew d) s = .next { s with
        slur := { s.slur with offs := clampI (-32768) 32767 d }
        clk := { s.clk with tb := if 5 < 2 * d then s.now - 1 else if 2 * d < -5 then s.now + 1 else s.now } } :=
      congrArg Host.Outcome.next (if_pos expects)
    rw [kept, slews] at run
    have slur : s.onlyIn { s with slur := { s.slur with offs := d } } [.clk, .slur] := Frame.with_slur (Frame.refl s _) (by decide)
    exact ⟨_, run, rfl, rfl, Frame.with_clk slur (by decide)⟩
  case retry =>
    intro s follows on failed due
    obtain ⟨link, follower⟩ := State.follows_iff.mp follows
    refine ⟨_, State.slurRetry_begins follows on failed due, ?_⟩
    rw [State.beginTraining_of_slurOn link, follower]
    exact ⟨rfl, rfl, rfl, rfl, Frame.with_slur (Frame.refl s _) (by decide)⟩

end Sys2Proof.Machine
end

section
/-! PROOFS. Sessions: their requests, the unlock, and their ends (R428 to R432, R478). -/

namespace Sys2Proof.Machine

section
variable {s : State} {p : Port}

/-! What an access leaves of the session -/

theorem State.touch_of_none (none : s.sec.role = 0) : s.touch p = s := if_neg (fun h => h.1 none)

/-- Without a session a write finds the state as it is. -/
theorem State.onWrite_of_none (open' : s.portOpen = true) (none : s.sec.role = 0) (f : State → State) : s.onWrite p f = f s := by
  rw [State.onWrite_of_open open', State.touch_of_none none]

/-- An access restarts the idle time of its session at most. -/
theorem State.touch_sec (p : Port) (s : State) : (s.touch p).sec = { s.sec with idle := (s.touch p).sec.idle } := by
  unfold State.touch
  split <;> rfl

theorem State.touch_locked {x : Tb} (p : Port) (h : s.sec.lockedAt = some x) : (s.touch p).sec.lockedAt = some x :=
  (congrArg Sec.lockedAt (State.touch_sec p s)).trans h

theorem State.touch_frame (p : Port) (s : State) : s.onlyIn (s.touch p) [.sec] := Frame.touch _ _ (Frame.refl s _) (by decide)

/-- A session's part with the journal of y. -/
def Sec.withJournal (x y : Sec) : Sec :=
  { x with journal := y.journal, counter := y.counter, opseq := y.opseq, chainO := y.chainO, chainI := y.chainI, alarm90 := y.alarm90 }

theorem State.jWatch_sec {x : Sec} (s : State) (h : x = s.sec.withJournal x) :
    ({ s with sec := x } : State).jWatch.sec = s.sec.withJournal ({ s with sec := x } : State).jWatch.sec := by
  unfold State.jWatch
  split
  · rw [State.alarm_sec, h]
    rfl
  · exact h

/-- An entry changes nothing of the session, its challenge or the keys. -/
theorem State.journal_sec (a : Act) (s : State) : (s.journal a).sec = s.sec.withJournal (s.journal a).sec := by
  unfold State.journal
  split
  · exact State.jWatch_sec s rfl
  · rfl

theorem State.journal_frame (a : Act) (s : State) : s.onlyIn (s.journal a) [.regs, .hif, .sec] :=
  Frame.journal _ _ (Frame.refl s _) (by decide) (by decide) (by decide)

/-! Requests (R429, R431) -/

theorem State.request_taken (f : State → State) (free : s.sec.lockedAt = none) : s.request true f = f (s.refusedIs false) := by
  simp [State.request, State.locked, free]

theorem State.request_refused (f : State → State) (free : s.sec.lockedAt = none) : s.request false f = s.refusedIs true := by
  simp [State.request, State.locked, free]

theorem State.request_locked {x : Tb} (ok : Bool) (f : State → State) (locked : s.sec.lockedAt = some x) :
    s.request ok f = (s.refusedIs true).count F.SEC_AUTH_FAIL_CNT_COUNT := by
  simp [State.request, State.locked, locked]

/-- A request under LOCKED is refused and counted, and does nothing else. -/
theorem State.lockedRequest_settles (hok : s.ok) (p : Port) :
    (((s.touch p).refusedIs true).count F.SEC_AUTH_FAIL_CNT_COUNT).sec.refused = true
      ∧ (((s.touch p).refusedIs true).count F.SEC_AUTH_FAIL_CNT_COUNT).sec.role = s.sec.role
      ∧ (((s.touch p).refusedIs true).count F.SEC_AUTH_FAIL_CNT_COUNT).sec.unlock = s.sec.unlock
      ∧ (((s.touch p).refusedIs true).count F.SEC_AUTH_FAIL_CNT_COUNT).sec.chalReq = s.sec.chalReq
      ∧ (((s.touch p).refusedIs true).count F.SEC_AUTH_FAIL_CNT_COUNT).sys = s.sys
      ∧ (((s.touch p).refusedIs true).count F.SEC_AUTH_FAIL_CNT_COUNT).get F.SEC_AUTH_FAIL_CNT_COUNT
        = min (s.get F.SEC_AUTH_FAIL_CNT_COUNT + 1) 0xFFFFFFFF
      ∧ s.onlyIn (((s.touch p).refusedIs true).count F.SEC_AUTH_FAIL_CNT_COUNT) [.regs, .sec] := by
  have touched := State.touch_frame p s
  have sec := State.touch_sec p s
  have regs : ((s.touch p).refusedIs true).regs = s.regs := touched .regs (by decide)
  have counted := State.get_count ((s.touch p).refusedIs true) F.SEC_AUTH_FAIL_CNT_COUNT (regs ▸ (Kept.refl hok).regs.live) (by decide)
  refine ⟨rfl, (congrArg Sec.role sec).trans rfl, (congrArg Sec.unlock sec).trans rfl, (congrArg Sec.chalReq sec).trans rfl, touched .sys (by decide), ?_,
    Frame.count _ _ (Frame.modSec _ _ (Frame.mono touched (by decide)) (by decide)) (by decide)⟩
  rw [counted]
  unfold State.get State.word
  rw [regs]
  rfl

/-! The unlock (R430, R431) -/

/-- The state after an unlock that has succeeded, before the session's entry. -/
def State.opened (role : Nat) (p : Port) (s : State) : State :=
  { s with
    sec := { s.sec with unlock := none, role := role, port := p, idle := 0, fails := 0 }
    sys := { s.sys with busy := none } }

theorem State.opened_frame (role : Nat) (p : Port) (s : State) : s.onlyIn (s.opened role p) [.sys, .sec] := by
  have sec : s.onlyIn { s with sec := (s.opened role p).sec } [.sys, .sec] := Frame.with_sec (Frame.refl s _) (by decide)
  exact Frame.with_sys sec (by decide)

theorem State.unlockEnds_right {role : Nat} (right : s.macOk role p = true) :
    s.unlockEnds role false p = ((s.opened role p).journal (act role (portNum p) 1 0)).modSec (fun x => { x with chal := none }) :=
  congrArg (State.modSec · (fun x => { x with chal := none })) (if_pos right)

/-- The state after an unlock that has failed as the third in a row, before the failure is counted. -/
def State.shutOut (s : State) : State :=
  { s with
    sec := { s.sec with unlock := none, fails := 3, lockedAt := some s.now }
    sys := { s.sys with busy := none } }

theorem State.unlockEnds_third {role : Nat} (wrong : s.macOk role p = false) (two : s.sec.fails = 2) :
    s.unlockEnds role false p = (s.shutOut.count F.SEC_AUTH_FAIL_CNT_COUNT).modSec (fun x => { x with chal := none }) := by
  have failed : ((s.modSec (fun x => { x with unlock := none })).endBusy).openFailed = s.shutOut.count F.SEC_AUTH_FAIL_CNT_COUNT := by
    unfold State.openFailed State.endBusy State.modSec State.shutOut
    dsimp only
    rw [two]
    rfl
  exact congrArg (State.modSec · (fun x => { x with chal := none })) ((if_neg (Bool.not_eq_true _ ▸ wrong)).trans failed)

theorem exec_roleUnlockDone {role : Nat} {claim : Bool} {b : Busy} (unlock : s.sec.unlock = some (role, claim)) (busy : s.sys.busy = some b)
    (due : 480000 ≤ elapsed b.since s.now) : exec .roleUnlockDone s = .next (s.unlockEnds role claim b.port) := by
  simp [exec, execRoleUnlockDone, State.busyFor, unlock, busy, due]

/-! The ends of a session (R432) -/

/-- A session ends with its entry. -/
theorem State.endSession_settles (data : Nat) (opens : s.sec.role ≠ 0) :
    (s.endSession data).sec.role = 0 ∧ (s.jRoom s.sec.role 1 = true → (s.endSession data).sec.counter = s.sec.counter + 1)
      ∧ s.onlyIn (s.endSession data) [.regs, .hif, .sec] := by
  have ended : s.endSession data = s.dropSession.journal (act s.sec.role (portNum s.sec.port) 2 data) := if_neg opens
  have dropped : s.onlyIn s.dropSession [.regs, .hif, .sec] := Frame.with_sec (Frame.refl s _) (by decide)
  rw [ended]
  exact ⟨congrArg Sec.role (State.journal_sec _ s.dropSession), fun room => State.journal_counter _ room,
    Frame.journal _ _ dropped (by decide) (by decide) (by decide)⟩

end

end Sys2Proof.Machine
end

section
/-! PROOFS. The installer key and the journal (R433, R440 to R445). -/

namespace Sys2Proof.Machine

section
variable {s : State} {p : Port}

/-! The maker (R428) -/

@[simp] theorem State.touch_isMaker (p q : Port) (s : State) : (s.touch p).isMaker q = s.isMaker q := by
  unfold State.touch
  split <;> rfl

@[simp] theorem State.touch_jFull (p : Port) (s : State) : (s.touch p).jFull = s.jFull := by
  unfold State.touch
  split <;> rfl

@[simp] theorem State.touch_jRoom (p : Port) (s : State) (role n : Nat) : (s.touch p).jRoom role n = s.jRoom role n := by
  unfold State.touch
  split <;> rfl

theorem State.touch_sealable (p : Port) (s : State) : (s.touch p).sealable = s.sealable := by
  unfold State.touch
  split <;> rfl

theorem State.onMaker_of_maker (open' : s.portOpen = true) (maker : s.isMaker p = true) (f : State → State) : s.onMaker p f = f (s.touch p) := by
  unfold State.onMaker
  rw [State.onWrite_of_open open', State.touch_isMaker, if_pos maker]

/-- R15: an act of the maker is refused to any other. -/
theorem State.onMaker_of_other (open' : s.portOpen = true) (other : s.isMaker p = false) (f : State → State) :
    s.onMaker p f = (s.touch p).deny p := by
  unfold State.onMaker
  rw [State.onWrite_of_open open', State.touch_isMaker, other]
  rfl

theorem State.role_of_maker (maker : s.isMaker p = true) : 2 ≤ s.sec.role := by
  unfold State.isMaker State.mayMaker State.roleOf at maker
  simp only [Bool.and_eq_true, decide_eq_true_eq] at maker
  split at maker <;> omega

/-- A refused access is counted and sets no other word. -/
theorem State.touch_deny (hok : s.ok) :
    ((s.touch p).deny p).get F.SEC_ROLE_DENY_COUNT = min (s.get F.SEC_ROLE_DENY_COUNT + 1) 0xFFFFFFFF
      ∧ s.onlyWords ((s.touch p).deny p) [R.SEC_ROLE_DENY] := by
  have regs : (s.touch p).regs = s.regs := State.touch_frame p s .regs (by decide)
  have counted := State.get_deny (s := s.touch p) p (regs ▸ (Kept.refl hok).regs.live)
  have same : (s.touch p).get F.SEC_ROLE_DENY_COUNT = s.get F.SEC_ROLE_DENY_COUNT := by
    unfold State.get State.word
    rw [regs]
  rw [same] at counted
  refine ⟨counted, ?_⟩
  unfold State.deny
  exact State.onlyWords.ite ((((State.onlyWords.refl s _).touch p).count List.mem_cons_self).of_regs rfl)
    (((State.onlyWords.refl s _).touch p).count List.mem_cons_self)

/-! Keys (R433) -/

/-- The state after a claim, before the session's entry. -/
def State.claimedBy (p : Port) (s : State) : State :=
  { s with
    sec := { s.sec with
      unlock := none, ikey := some (words128 s.sec.key), key := List.replicate 4 0, role := 1, port := p, idle := 0, fails := 0 }
    sys := { s.sys with busy := none } }

theorem State.unlockEnds_claim (role : Nat) (p : Port) (s : State) :
    s.unlockEnds role true p = (s.claimedBy p).journal (act 1 (portNum p) 3 0) := by
  unfold State.unlockEnds
  simp only [if_true]
  exact congrArg (State.journal _) rfl

/-- The installer key is set or removed by the maker, with an entry. -/
theorem State.provision_of_room (data : Nat) (k : Option (BitVec 128)) (maker : 2 ≤ s.sec.role) (room : s.jFull = false) :
    s.provision p data k
      = ({ s with sec := { s.sec with ikey := k } } : State).journal (act (s.roleOf p) (portNum p) 4 data) := by
  unfold State.provision
  rw [room]
  have stands : ¬ (s.modSec (fun x => { x with ikey := k })).sec.role = 1 := fun one => by
    have one' : s.sec.role = 1 := one
    omega
  simp only [Bool.false_eq_true, if_false, if_neg stands]
  rfl

/-- The frame of an entry that follows a change of the session's part. -/
theorem State.journal_with_sec (a : Act) (x : Sec) (s : State) : s.onlyIn (({ s with sec := x } : State).journal a) [.regs, .hif, .sec] :=
  Frame.journal _ _ (Frame.with_sec (Frame.refl s _) (by decide)) (by decide) (by decide) (by decide)

/-! The journal (R440 to R445) -/

/-- Alarm 30 waits for many entries. -/
theorem State.jWatch_of_few (few : s.jIm < 3687) : s.jWatch = s :=
  if_neg (fun many => by omega)

/-- The first entry of an empty journal. -/
theorem State.journal_empty (a : Act) (empty : s.sec.journal = []) :
    (s.journal a).sec.journal.length = 1 ∧ (s.journal a).sec.counter = s.sec.counter + 1 ∧ s.onlyIn (s.journal a) [.sec] := by
  have room : s.jRoom a.role 1 = true := by
    unfold State.jRoom
    rw [empty]
    rfl
  have short : s.sec.journal.length < journalSize := by
    rw [empty]
    decide
  have few (x : Sec) (one : x.journal.length = 1) : ({ s with sec := x } : State).jWatch = { s with sec := x } :=
    State.jWatch_of_few (Nat.lt_of_le_of_lt (List.length_filter_le _ _) (one ▸ by decide))
  unfold State.journal
  simp only [if_pos room, if_pos short]
  rw [few _ (by simp [empty])]
  exact ⟨by simp [empty], rfl, Frame.with_sec (Frame.refl s _) (by decide)⟩

/-- The sealed journal, before its one entry. -/
def State.emptied (s : State) : State :=
  { s with sec := { s.sec with sealing := false, sealValid := false, journal := [], chainO := 0, chainI := 0, alarm90 := false } }

/-- The one entry of a sealed journal, of KIND 10. -/
def State.sealEntry (p : Port) (s : State) : Act := { act 2 (portNum p) 10 0 with old := s.sec.sealVal.toNat % 2 ^ 64 }

theorem State.sealNow_eq (p : Port) (s : State) :
    s.sealNow p = ((s.emptied.journal (s.sealEntry p)).modSec (fun x => { x with chainO := x.chainI })).endBusy := rfl

theorem State.sealNow_settles (p : Port) (s : State) :
    (s.sealNow p).sec.journal.length = 1 ∧ (s.sealNow p).sec.counter = s.sec.counter + 1 ∧ (s.sealNow p).sec.chainO = (s.sealNow p).sec.chainI
      ∧ (s.sealNow p).sec.sealing = false ∧ (s.sealNow p).sec.sealValid = false ∧ (s.sealNow p).sys = { s.sys with busy := none }
      ∧ s.onlyIn (s.sealNow p) [.sys, .sec] := by
  rw [State.sealNow_eq]
  generalize s.sealEntry p = a
  obtain ⟨one, counter, frame⟩ := State.journal_empty (s := s.emptied) a rfl
  have sec := State.journal_sec a s.emptied
  have sealed : s.onlyIn s.emptied [.sys, .sec] := Frame.with_sec (Frame.refl s _) (by decide)
  generalize s.emptied.journal a = u at one counter frame sec
  refine ⟨one, counter, rfl, congrArg Sec.sealing sec, congrArg Sec.sealValid sec,
    congrArg (fun y : Sys => { y with busy := none }) (frame .sys (by decide)), ?_⟩
  exact Frame.endBusy _ (Frame.modSec _ _ (Frame.trans sealed (Frame.mono frame (by decide))) (by decide)) (by decide)

/-- A read of SEC_JDATA answers the word of the index and advances it. -/
theorem State.jRead_settles (hok : s.ok) :
    s.jRead.ans.read = some ((s.sec.journal.getD (s.get jIndex / 16) []).getD (s.get jIndex % 16) 0).toNat
      ∧ s.jRead.get jIndex = (s.get jIndex + 1) % 65536 ∧ s.jRead.sec.journal = s.sec.journal ∧ s.onlyWords s.jRead [R.SEC_JIDX]
      ∧ s.onlyIn s.jRead [.regs, .sec, .ans] := by
  have index := State.get_set s jIndex ((s.get jIndex + 1) % 65536) (Kept.refl hok).regs.live (by decide)
  have moved : s.onlyIn (s.set jIndex ((s.get jIndex + 1) % 65536)) [.regs, .sec, .ans] := Frame.set _ _ _ (Frame.refl s _) (by decide)
  refine ⟨rfl, index.trans (Nat.mod_eq_of_lt (Nat.mod_lt _ (by decide))), rfl, ?_, Frame.answer _ _ moved (by decide)⟩
  exact ((State.onlyWords.refl s _).set _ List.mem_cons_self).of_regs rfl

end

/-- Settles O55: each clause is its branch after the access that brings it; an entry leaves the keys and the session as they are. -/
theorem keysAndTheJournal : Obligations.KeysAndTheJournal := by
  unfold Obligations.KeysAndTheJournal
  refine ⟨?claims, ?claimed, ?sets, ?refused, ?clears, ?reads, ?exports, ?exported, ?seals, ?unsealable, ?sealed⟩
  case claims =>
    intro p v s open' req one free none may noKey room
    have taken : s.claimInstaller p (v.bits 0 2)
        = ((s.refusedIs false).modSec (fun x => { x with unlock := some (1, true) })).beginBusy 3 p := by
      unfold State.claimInstaller
      rw [none, may, room, noKey, one]
      exact State.request_taken _ free
    exact ⟨_, congrArg Host.Outcome.next ((State.onWrite_of_none open' none _).trans ((if_pos req).trans taken)), rfl⟩
  case claimed =>
    intro b s _ unlock busy due
    have entry := State.journal_sec (act 1 (portNum b.port) 3 0) (s.claimedBy b.port)
    have frame := State.journal_frame (act 1 (portNum b.port) 3 0) (s.claimedBy b.port)
    have sec : s.onlyIn { s with sec := (s.claimedBy b.port).sec } [.regs, .sys, .hif, .sec] := Frame.with_sec (Frame.refl s _) (by decide)
    have claimed : s.onlyIn (s.claimedBy b.port) [.regs, .sys, .hif, .sec] := Frame.with_sys sec (by decide)
    exact ⟨_, (exec_roleUnlockDone unlock busy due).trans (congrArg Host.Outcome.next (State.unlockEnds_claim 1 b.port s)),
      congrArg Sec.ikey entry, congrArg Sec.key entry, congrArg Sec.role entry, congrArg Sec.port entry, frame .sys (by decide),
      Frame.trans claimed (Frame.mono frame (by decide))⟩
  case sets =>
    intro p v s _ open' req maker room
    have touched := State.touch_frame p s
    have sec := State.touch_sec p s
    have key : (s.touch p).sec.key = s.sec.key := (congrArg Sec.key sec).trans rfl
    have counter : (s.touch p).sec.counter = s.sec.counter := (congrArg Sec.counter sec).trans rfl
    have set := State.provision_of_room (s := s.touch p) (p := p) 0 (some (words128 (s.touch p).sec.key))
      (State.role_of_maker (p := p) (by rw [State.touch_isMaker, maker])) (by rw [State.touch_jFull, room])
    have run : exec (.keyProvisionSet p v) s = .next ((s.touch p).provisionSet p) :=
      congrArg Host.Outcome.next ((if_pos req).trans (State.onMaker_of_maker open' maker _))
    unfold State.provisionSet at run
    rw [set, key, State.touch_roleOf] at run
    have entry := State.journal_sec (act (s.roleOf p) (portNum p) 4 0)
      ({ s.touch p with sec := { (s.touch p).sec with ikey := some (words128 s.sec.key) } } : State)
    refine ⟨_, run, congrArg Sec.ikey entry, rfl, fun free maker => ?_, ?_⟩
    · refine (State.journal_counter _ ?_).trans (congrArg (· + 1) counter)
      rw [← State.touch_jRoom p] at free
      rw [maker]
      exact free
    · exact Frame.modSec _ _ (Frame.trans (Frame.mono touched (by decide)) (State.journal_with_sec _ _ _)) (by decide)
  case refused =>
    intro p v s hok open' req other
    have touched := State.touch_frame p s
    have run : exec (.keyProvisionSet p v) s = .next ((s.touch p).deny p) :=
      congrArg Host.Outcome.next ((if_pos req).trans (State.onMaker_of_other open' other _))
    have denied := Frame.deny (s.touch p) p (Frame.refl (s.touch p) [.regs, .hif]) (by decide) (by decide)
    obtain ⟨counted, words⟩ := State.touch_deny (p := p) hok
    refine ⟨_, run, ?_, counted, words, Frame.trans (Frame.mono touched (by decide)) (Frame.mono denied (by decide))⟩
    exact (congrArg Sec.ikey (denied .sec (by decide))).trans ((congrArg Sec.ikey (State.touch_sec p s)).trans rfl)
  case clears =>
    intro p v s _ open' req maker room
    have touched := State.touch_frame p s
    have clear := State.provision_of_room (s := s.touch p) (p := p) 1 none
      (State.role_of_maker (p := p) (by rw [State.touch_isMaker, maker])) (by rw [State.touch_jFull, room])
    have run : exec (.keyProvisionClear p v) s = .next ((s.touch p).provision p 1 none) :=
      congrArg Host.Outcome.next ((if_pos req).trans (State.onMaker_of_maker open' maker _))
    rw [clear] at run
    exact ⟨_, run, congrArg Sec.ikey (State.journal_sec _ _), Frame.trans (Frame.mono touched (by decide)) (State.journal_with_sec _ _ _)⟩
  case reads =>
    intro p s hok open'
    have touched := State.touch_frame p s
    have regs : (s.touch p).regs = s.regs := touched .regs (by decide)
    have journal : (s.touch p).sec.journal = s.sec.journal := (congrArg Sec.journal (State.touch_sec p s)).trans rfl
    have index : (s.touch p).get jIndex = s.get jIndex := by
      unfold State.get State.word
      rw [regs]
    obtain ⟨answer, moved, stands, words, frame⟩ := State.jRead_settles (s := s.touch p) (Kept.touch _ _ (Kept.refl hok)).ok
    rw [journal, index] at answer
    rw [index] at moved
    exact ⟨_, congrArg Host.Outcome.next (State.onRead_of_open open' _), answer, moved, stands.trans journal,
      ((State.onlyWords.refl s _).touch p).trans words, Frame.trans (Frame.mono touched (by decide)) frame⟩
  case exports =>
    intro p v s open' req maker
    have touched := State.touch_frame p s
    have sys : (s.touch p).sys = s.sys := touched .sys (by decide)
    have now : (s.touch p).now = s.now := congrArg Clk.tb (touched .clk (by decide))
    have began : s.onlyIn ((s.touch p).modSec (fun x => { x with exporting := true })) [.sys, .sec] :=
      Frame.modSec _ _ (Frame.mono touched (by decide)) (by decide)
    refine ⟨_, congrArg Host.Outcome.next ((if_pos req).trans (State.onMaker_of_maker open' maker _)), rfl, ?_, Frame.with_sys began (by decide)⟩
    exact congrArg₂ (fun (y : Sys) (t : Tb) => { y with busy := some { op := 5, port := p, since := t } }) sys now
  case exported => exact fun s exporting => ⟨_, congrArg Host.Outcome.next (if_pos exporting), rfl⟩
  case seals =>
    intro p v s open' req maker ready echoed
    have touched := State.touch_frame p s
    have sec := State.touch_sec p s
    have sys : (s.touch p).sys = s.sys := touched .sys (by decide)
    have now : (s.touch p).now = s.now := congrArg Clk.tb (touched .clk (by decide))
    have ok : ((s.touch p).sealable && words128 (s.touch p).sec.key == (s.touch p).sec.sealVal) = true := by
      rw [State.touch_sealable, ready, sec]
      exact beq_iff_eq.mpr echoed
    have begins : (s.touch p).sealBegin p
        = ((s.touch p).clearKey.modSec (fun x => { x with sealRefused := false, sealing := true })).beginBusy 6 p := by
      unfold State.sealBegin
      rw [ok]
      rfl
    have cleared : s.onlyIn ((s.touch p).clearKey.modSec (fun x => { x with sealRefused := false, sealing := true })) [.sys, .sec] :=
      Frame.modSec _ _ (Frame.modSec _ _ (Frame.mono touched (by decide)) (by decide)) (by decide)
    refine ⟨_, congrArg Host.Outcome.next ((if_pos req).trans ((State.onMaker_of_maker open' maker _).trans begins)), rfl, rfl, rfl, ?_,
      Frame.with_sys cleared (by decide)⟩
    exact congrArg₂ (fun (y : Sys) (t : Tb) => { y with busy := some { op := 6, port := p, since := t } }) sys now
  case unsealable =>
    intro p v s open' req maker unready
    have touched := State.touch_frame p s
    have ends : (s.touch p).sealBegin p = (s.touch p).clearKey.modSec (fun x => { x with sealRefused := true, sealing := false }) := by
      unfold State.sealBegin
      rw [State.touch_sealable, unready]
      rfl
    exact ⟨_, congrArg Host.Outcome.next ((if_pos req).trans ((State.onMaker_of_maker open' maker _).trans ends)), rfl, rfl, rfl,
      touched .sys (by decide), Frame.modSec _ _ (Frame.modSec _ _ touched (by decide)) (by decide)⟩
  case sealed =>
    intro b s _ busy sealing
    have run : exec .sealDone s = .next (s.sealNow b.port) := by
      simp only [exec, execSealDone, busy, sealing, if_true]
    exact ⟨_, run, State.sealNow_settles b.port s⟩

end Sys2Proof.Machine
end

section
/-! PROOFS. The tuning pass: its start, its blocks, their verdicts and how it ends (chapter 18). -/

namespace Sys2Proof.Machine

section
variable {s : State} {p : Port}

/-! The start (R457) -/

theorem exec_tuningGo {v : Word} (open' : s.portOpen = true) (go : v.bit 0 = true) :
    exec (.tuningGo p v) s = .next ((s.touch p).passGo p) := by
  have idle : s.busyOp = 0 := by
    unfold State.portOpen at open'
    have free : s.sys.busy = none := Option.isNone_iff_eq_none.mp (Bool.and_eq_true_iff.mp open').1
    unfold State.busyOp
    rw [free]
  have stands : (if v.bit 0 && s.busyOp == 4 then ({ s with tst := { s.tst with refused := true } } : State) else s) = s :=
    if_neg (by rw [idle]; simp)
  have write : s.tstWrite p v = s.onWrite p (fun s => if v.bit 0 then s.passGo p else s) := by
    unfold State.tstWrite
    rw [stands]
  exact congrArg Host.Outcome.next (write.trans ((State.onWrite_of_open open' _).trans (if_pos go)))

theorem State.touch_pending (p : Port) (s : State) : (s.touch p).pending = s.pending := State.touch_frame p s .pending (by decide)

theorem State.passGo_judged (alone : s.pending.any movesMode = false) : s.passGo p = s.passJudge p :=
  if_neg (Bool.not_eq_true _ ▸ alone)

theorem State.passGo_asked (moves : s.pending.any movesMode = true) : s.passGo p = { s with tst := { s.tst with asked := some p } } :=
  if_pos moves

/-! The lanes (R450) -/

theorem blocksFrom_self (k : Nat) : blocksFrom k k = [] := by
  refine List.filter_eq_nil_iff.mpr fun i hi => ?_
  have := mem_upTo.mp hi
  simp
  omega

theorem State.laneNext_stands {n k : Nat} (stands : s.blockSkipped k = false) : s.laneNext n k = k := by
  cases n with
  | zero => rfl
  | succ n =>
    unfold State.laneNext
    rw [stands]
    rfl

/-- A lane whose next block runs skips none. -/
theorem State.laneSkip_false (stands : s.blockSkipped s.tst.nextA = false) : s.laneSkip false = s := by
  have next : s.laneNext (16 - s.tst.nextA) s.tst.nextA = s.tst.nextA := State.laneNext_stands stands
  unfold State.laneSkip
  simp only [Bool.false_eq_true, if_false, next, blocksFrom_self]
  rfl

theorem State.laneSkip_true (stands : s.blockSkipped s.tst.nextB = false) : s.laneSkip true = s := by
  have next : s.laneNext (28 - s.tst.nextB) s.tst.nextB = s.tst.nextB := State.laneNext_stands stands
  unfold State.laneSkip
  simp only [if_true, next, blocksFrom_self]
  rfl

/-- Past its last block a lane skips none. -/
theorem State.laneSkip_past (past : 16 ≤ s.tst.nextA) : s.laneSkip false = s := by
  have next : s.laneNext (16 - s.tst.nextA) s.tst.nextA = s.tst.nextA := by
    rw [Nat.sub_eq_zero_of_le past]
    rfl
  unfold State.laneSkip
  simp only [Bool.false_eq_true, if_false, next, blocksFrom_self]
  rfl

/-! A block starts (R452, R453) -/

theorem State.chargeDev_frame (uj : Nat) (s : State) : s.onlyIn (s.chargeDev uj) [.regs, .hif, .evc, .ink] :=
  Frame.chargeDev _ _ (Frame.refl s _) (by decide) (by decide) (by decide) (by decide)

theorem State.testLow_frame (q : Nat) (s : State) : s.onlyIn (s.testLow q) [.sch, .banks, .quads] :=
  Frame.testLow _ _ (Frame.refl s _) (by decide) (by decide) (by decide)

/-- GL low in channel c stays low where other channels' GL goes low, and is low where its own does. -/
theorem State.glLow_foldl (q : Nat) (l : List Nat) {i : Nat} (s : State) (h : i ∈ l ∨ (s.chan (24 * q + i)).gl = false) :
    ((l.foldl (fun (s : State) i => s.modChan (24 * q + i) (fun c => { c with gl := false })) s).chan (24 * q + i)).gl = false := by
  induction l generalizing s with
  | nil => exact h.resolve_left List.not_mem_nil
  | cons j l ih =>
    refine ih _ ?_
    rw [State.chan_modChan]
    by_cases own : 24 * q + j = 24 * q + i ∧ 24 * q + i < s.sch.chans.length
    · rw [if_pos own]
      exact .inr rfl
    · rw [if_neg own]
      rcases h with mem | low
      · rcases List.mem_cons.mp mem with rfl | mem
        · have beyond : s.sch.chans.length ≤ 24 * q + i := Nat.le_of_not_lt fun lt => own ⟨rfl, lt⟩
          refine .inr ?_
          unfold State.chan
          rw [List.getD_eq_default _ _ beyond]
          rfl
        · exact .inl mem
      · exact .inr low

/-- R453: the GL of a block under test are low. -/
theorem State.testLow_gl {q i : Nat} (h : i < 24) (s : State) : ((s.testLow q).chan (24 * q + i)).gl = false := by
  have low := State.glLow_foldl q (upTo 24) s (.inl (mem_upTo.mpr h))
  unfold State.testLow
  revert low
  generalize (upTo 24).foldl (fun (s : State) i => s.modChan (24 * q + i) (fun c => { c with gl := false })) s = u
  intro low
  have banks : u.onlyIn ((upTo 6).foldl (fun (s : State) i => s.modBank (6 * q + i) (fun b => { b with ghv := false, ghb := false })) u) [.banks] :=
    Frame.foldl (Frame.refl u _) (fun _ _ k => Frame.modBank _ _ _ k (by decide))
  have sch : ∀ v : State, u.onlyIn v [.banks] → ((v.modQuad q (fun x => { x with pulsing := false, gbc := false })).chan (24 * q + i)).gl = false := by
    intro v frame
    have same : v.sch = u.sch := frame .sch (by decide)
    unfold State.chan
    rw [State.modQuad_sch, same]
    exact low
  exact sch _ banks

theorem State.blockStart_tst (laneB : Bool) (k : Nat) (s : State) :
    (s.blockStart laneB k).tst = if laneB then { s.tst with blockB := k, nextB := k + 1, sinceB := s.now }
      else { s.tst with blockA := k, nextA := k + 1, sinceA := s.now } := by
  have charged := State.chargeDev_frame (blockCharge k) s
  have tst : (s.chargeDev (blockCharge k)).tst = s.tst := charged .tst (by decide)
  have now : (s.chargeDev (blockCharge k)).now = s.now := congrArg Clk.tb (charged .clk (by decide))
  unfold State.blockStart
  dsimp only
  rw [tst, now]
  split
  · exact State.testLow_frame _ _ .tst (by decide)
  · rfl

theorem State.blockStart_low {laneB : Bool} {k : Nat} (s : State) (h : 24 ≤ k) {i : Nat} (hi : i < 24) :
    ((s.blockStart laneB k).chan (24 * (k - 24) + i)).gl = false := by
  unfold State.blockStart
  dsimp only
  rw [if_pos h]
  exact State.testLow_gl hi _

/-! A pass ends (R455, R458) -/

theorem State.restartUnits_frame (k : Nat) (s : State) : s.onlyIn (s.restartUnits k) [.adc, .cmps] :=
  Frame.restartUnits _ _ (Frame.refl s _) (by decide) (by decide)

theorem State.testOver_frame (k : Nat) (s : State) : s.onlyIn (s.testOver k) [.sch] := Frame.testOver _ _ (Frame.refl s _) (by decide)

/-- What a pass becomes where it ends. -/
structure PassOver (cause : Nat) (x y : Tst) : Prop where
  running : y.running = false
  cause : y.cause = cause
  blockA : y.blockA = 0
  fail : y.fail = x.fail
  marks : y.marks = x.marks
  record : y.record = x.marks

/-- The port is free of the pass. -/
def State.passFreed (s : State) : State :=
  match s.sys.busy with
  | some b => if b.op = 4 then { s with sys := { s.sys with busy := none } } else s
  | none => s

/-- The pass has ended with a cause, and its marks are the health record. -/
def State.passClosed (cause : Nat) (t : Tst) (s : State) : State :=
  { s with tst := { t with
    running := false, cause := cause, blockA := 0, blockB := 0, time := min (elapsed t.since s.now / 8000) 65535
    skip := (blocksFrom t.nextA 16 ++ blocksFrom t.nextB 28).foldl (fun l k => insertNat k l) t.skip, record := t.marks } }

theorem State.tstEnd_eq (cause : Nat) (s : State) :
    s.tstEnd cause = ((((((((s.inCycle (fun m => { m with tested := [(s.tst.blockA, s.tst.sinceA), (s.tst.blockB, s.tst.sinceB)] })).restartUnits
      s.tst.blockA).restartUnits s.tst.blockB).passClosed cause s.tst).testOver s.tst.blockA).testOver s.tst.blockB).passFreed).count
        F.TST_PASS_CNT_COUNT).raise 61 := rfl

theorem State.passFreed_frame (s : State) : s.onlyIn s.passFreed [.sys] := by
  unfold State.passFreed
  split
  · exact Frame.ite (Frame.with_sys (Frame.refl s _) (by decide)) (Frame.refl s _)
  · exact Frame.refl s _

theorem State.tstEnd_over (cause : Nat) (s : State) : PassOver cause s.tst (s.tstEnd cause).tst := by
  rw [State.tstEnd_eq]
  generalize ((s.inCycle _).restartUnits s.tst.blockA).restartUnits s.tst.blockB = u
  have frame : (u.passClosed cause s.tst).onlyIn (((((u.passClosed cause s.tst).testOver s.tst.blockA).testOver s.tst.blockB).passFreed.count
      F.TST_PASS_CNT_COUNT).raise 61) [.regs, .sys, .evc, .sch] := by
    have idle := Frame.testOver s.tst.blockB _
      (Frame.testOver s.tst.blockA _ (Frame.refl (u.passClosed cause s.tst) [.regs, .sys, .evc, .sch]) (by decide)) (by decide)
    exact Frame.raise _ _ (Frame.count _ _ (Frame.trans idle (Frame.mono (State.passFreed_frame _) (by decide))) (by decide)) (by decide) (by decide)
  rw [frame .tst (by decide)]
  exact ⟨rfl, rfl, rfl, rfl, rfl, rfl⟩

/-- No alarm is lost where a pass ends. -/
theorem State.tstEnd_hif (cause : Nat) (s : State) : (s.tstEnd cause).hif = s.hif :=
  Frame.tstEnd cause s (Frame.refl s [.regs, .sys, .evc, .sch, .adc, .cmps, .tst]) (by decide) (by decide) (by decide) (by decide) (by decide)
    (by decide) (by decide) .hif (by decide)

/-- A pass whose lanes are through ends. -/
theorem State.passSettle_through (runs : s.tst.running = true) (a : s.tst.blockA = 0) (b : s.tst.blockB = 0) (pastA : 16 ≤ s.tst.nextA)
    (pastB : 28 ≤ s.tst.nextB) : s.passSettle = s.tstEnd 0 := by
  refine if_pos ?_
  simp [State.lanesOver, runs, a, b, pastA, pastB]

/-! Verdicts (R454) -/

theorem State.marksSet_frame (s t : State) : s.onlyIn (s.marksSet t) [.regs, .hif, .evc, .sch, .banks, .quads, .edges, .ink, .grds, .adc] := by
  unfold State.marksSet
  refine Frame.foldl (Frame.foldl (Frame.foldl (Frame.foldl (Frame.refl s _) ?_) ?_) ?_) ?_
  · exact fun _ _ k => Frame.ite (Frame.chGone _ _ k (by decide) (by decide) (by decide) (by decide) (by decide) (by decide) (by decide)) k
  · exact fun _ _ k => Frame.ite (Frame.sourceGone _ _ (Frame.grdOffTo _ _ _ k (by decide) (by decide) (by decide)) (by decide) (by decide)) k
  · exact fun _ _ k => Frame.ite (Frame.modQuad _ _ _ k (by decide)) k
  · exact fun _ _ k => Frame.ite (Frame.convGone _ _ k (by decide) (by decide) (by decide)) k

theorem State.marksLifted_frame (s t : State) :
    s.onlyIn (s.marksLifted t) [.regs, .hif, .whl, .sch, .banks, .quads, .ink, .grds, .adc, .cmps] := by
  unfold State.marksLifted
  extract_lets banks chans rail grds boosts conv convs wms cams
  have cleared : s.onlyIn cams [.regs, .hif, .whl, .sch, .banks, .quads, .ink, .grds, .adc, .cmps] := by
    refine Frame.foldl (Frame.foldl (Frame.foldl (Frame.foldl (Frame.foldl (Frame.foldl (Frame.foldl (Frame.refl s _) ?_) ?_) ?_) ?_) ?_) ?_) ?_
    · exact fun _ _ k => Frame.ite (Frame.bankCmpFresh _ _ (Frame.modBank _ _ _ k (by decide)) (by decide) (by decide)) k
    · exact fun _ _ k => Frame.ite
        (Frame.logIdle _ _ (Frame.chCmpFresh _ _ (Frame.modChan _ _ _ k (by decide)) (by decide) (by decide)) (by decide)) k
    · intro x g k
      exact Frame.ite (Frame.grdCmpFresh _ _ (Frame.grdFresh _ _ (Frame.with_ink k (by decide)) (by decide)) (by decide) (by decide)) k
    · exact fun _ _ k => Frame.ite (Frame.modQuad _ _ _ k (by decide)) k
    · exact fun _ _ k => Frame.ite (Frame.convWins _ _ (Frame.modConv _ _ _ k (by decide)) (by decide) (by decide) (by decide)) k
    · exact fun _ _ k => Frame.ite (Frame.wmFresh _ _ k (by decide) (by decide)) k
    · exact fun _ _ k => Frame.ite (Frame.with_whl k (by decide)) k
  exact Frame.ite (Frame.with_whl cleared (by decide)) cleared

/-- The marks of block k are those of a verdict. -/
def State.remarked (k : Nat) (us : List Nat) (s : State) : State :=
  { s with tst := { s.tst with marks := s.tst.marks.filter (fun m => m.1 != k) ++ us.map (fun u => (k, u)) } }

/-- The units that a verdict marks have left, and those that it clears are back. -/
def State.dependents (k : Nat) (us : List Nat) (s : State) : State := ((s.remarked k us).marksSet s).marksLifted s

theorem State.dependents_tst (k : Nat) (us : List Nat) (s : State) : (s.dependents k us).tst = (s.remarked k us).tst := by
  have set := State.marksSet_frame (s.remarked k us) s
  have lifted := State.marksLifted_frame ((s.remarked k us).marksSet s) s
  exact (lifted .tst (by decide)).trans (set .tst (by decide))

theorem State.verdict_pass {k : Nat} {fails : List UnitFail} (good : failUnits k fails = []) : s.verdict k fails = s.dependents k [] := by
  unfold State.verdict
  rw [good]
  rfl

theorem State.verdict_fail {k u : Nat} {l : List Nat} {fails : List UnitFail} (bad : failUnits k fails = u :: l) :
    s.verdict k fails = ({ s.dependents k (u :: l) with tst := { (s.dependents k (u :: l)).tst with
      fail := insertNat k (s.dependents k (u :: l)).tst.fail
      first := some ((s.dependents k (u :: l)).tst.first.getD (k, u, failDev u fails)) } } : State).alarm 29 k (u :: l).length u := by
  unfold State.verdict
  rw [bad]
  rfl

/-! A block ends (R454) -/

/-- The block of lane A is over, before its verdict. -/
def State.tested (k : Nat) (s : State) : State := ((({ s with tst := { s.tst with blockA := 0 } } : State).restartUnits k).testOver k)

theorem State.tested_tst (k : Nat) (s : State) : (s.tested k).tst = { s.tst with blockA := 0 } :=
  (State.testOver_frame _ _ .tst (by decide)).trans (State.restartUnits_frame _ _ .tst (by decide))

theorem State.blockEnd_eq (k : Nat) (fails : List UnitFail) (s : State) :
    s.blockEnd false k fails = (((s.tested k).verdict k fails).laneSkip false).passSettle := rfl

theorem exec_tuningBlockEnd {k : Nat} (fails : List UnitFail) (runs : s.tst.running = true) (lane : k = s.tst.blockA) (there : k ≠ 0)
    (due : blockTime k ≤ elapsed s.tst.sinceA s.now) :
    exec (.tuningBlockEnd false fails) s = .next (s.blockEnd false k fails) := by
  subst lane
  simp [exec, execTuningBlockEnd, State.laneBlock, runs, there, due]

/-- After a verdict the lane goes on, or the pass ends: its failed blocks, its marks and the alarms stay. -/
theorem State.laneGoesOn (s : State) (free : s.tst.blockA = 0) :
    (s.laneSkip false).passSettle.tst.blockA = 0 ∧ (s.laneSkip false).passSettle.tst.fail = s.tst.fail
      ∧ (s.laneSkip false).passSettle.tst.marks = s.tst.marks ∧ (s.laneSkip false).passSettle.hif = s.hif := by
  unfold State.passSettle
  split
  · obtain ⟨-, -, blockA, fail, marks, -⟩ := State.tstEnd_over 0 (s.laneSkip false)
    exact ⟨blockA, fail, marks, State.tstEnd_hif _ _⟩
  · exact ⟨free, rfl, rfl, rfl⟩

theorem mem_insertNat (n : Nat) (l : List Nat) : n ∈ insertNat n l := by
  induction l with
  | nil => exact List.mem_cons_self
  | cons m l ih =>
    unfold insertNat
    split
    · exact List.mem_cons_self
    · split
      · next same => exact same ▸ List.mem_cons_self
      · exact List.mem_cons_of_mem _ ih

/-- One failed unit of a block that has it. -/
theorem failUnits_one {k u : Nat} (d : Int) (h : u < blockUnits k) : failUnits k [{ unit := u, dev := d }] = [u] := by
  have own : (fun w => [({ unit := u, dev := d } : UnitFail)].any (fun f => f.unit == w)) = (fun w => w == u) := by
    funext w
    simp [Bool.beq_comm]
  have once : (upTo (blockUnits k)).count u = 1 := List.count_eq_one_of_mem List.nodup_range (mem_upTo.mpr h)
  unfold failUnits
  rw [own, List.filter_beq, once]
  rfl

end

/-- Settles O57: the start is judged on what the access finds, how a block ends is followed through its verdict and the lane's next step. -/
theorem tuningPass : Obligations.TuningPass := by
  unfold Obligations.TuningPass
  refine ⟨?starts, ?refused, ?waits, ?laneA, ?laneB, ?ends, ?passes, ?fails⟩
  case starts =>
    intro p v s open' go armed free awake alone
    have touched := State.touch_frame p s
    have sys : (s.touch p).sys = s.sys := touched .sys (by decide)
    have tst : (s.touch p).tst = s.tst := touched .tst (by decide)
    have now : (s.touch p).now = s.now := congrArg Clk.tb (touched .clk (by decide))
    have judged := State.passGo_judged (s := s.touch p) (p := p) (by rw [State.touch_pending, alone])
    have begins : (s.touch p).passJudge p
        = (({ s.touch p with tst := { (s.touch p).tst with asked := none } } : State).passBegin false).beginBusy 4 p := by
      refine if_pos ?_
      dsimp only
      rw [sys, tst, armed, free, awake]
      rfl
    refine ⟨_, (exec_tuningGo open' go).trans (congrArg Host.Outcome.next (judged.trans begins)), rfl, rfl, rfl, rfl, rfl, rfl,
      (congrArg Tst.marks tst).trans rfl, ?_, ?_⟩
    · exact congrArg₂ (fun (y : Sys) (t : Tb) => { y with busy := some { op := 4, port := p, since := t } }) sys now
    · have asked : s.onlyIn { s.touch p with tst := { (s.touch p).tst with asked := none } } [.sys, .sec, .tst] :=
        Frame.with_tst (Frame.mono touched (by decide)) (by decide)
      exact Frame.beginBusy _ _ _ (Frame.passBegin _ _ asked (by decide)) (by decide)
  case refused =>
    intro p v s open' go other alone
    have touched := State.touch_frame p s
    have judged := State.passGo_judged (s := s.touch p) (p := p) (by rw [State.touch_pending, alone])
    have refuses : (s.touch p).passJudge p = { s.touch p with tst := { (s.touch p).tst with asked := none, refused := true } } := by
      refine if_neg ?_
      dsimp only
      rw [touched .sys (by decide)]
      simp [other]
    exact ⟨_, (exec_tuningGo open' go).trans (congrArg Host.Outcome.next (judged.trans refuses)),
      congrArg (fun y : Tst => { y with asked := none, refused := true }) (touched .tst (by decide)),
      Frame.with_tst (Frame.mono touched (by decide)) (by decide)⟩
  case waits =>
    intro p v s open' go moves
    have touched := State.touch_frame p s
    have asked := State.passGo_asked (s := s.touch p) (p := p) (by rw [State.touch_pending, moves])
    exact ⟨_, (exec_tuningGo open' go).trans (congrArg Host.Outcome.next asked),
      congrArg (fun y : Tst => { y with asked := some p }) (touched .tst (by decide)),
      Frame.with_tst (Frame.mono touched (by decide)) (by decide)⟩
  case laneA =>
    intro s _ runs free more there covered
    have run : exec (.tuningBlockStart false) s = .next (s.blockStart false s.tst.nextA) := by
      simp [exec, execTuningBlockStart, runs, free, State.laneSkip_false there, covered, Nat.not_le.mpr more]
    exact ⟨_, run, State.blockStart_tst _ _ _⟩
  case laneB =>
    intro s _ runs free more there covered
    have run : exec (.tuningBlockStart true) s = .next (s.blockStart true s.tst.nextB) := by
      simp [exec, execTuningBlockStart, runs, free, State.laneSkip_true there, covered, Nat.not_le.mpr more]
    exact ⟨_, run, State.blockStart_tst _ _ _, fun low i hi => State.blockStart_low s low hi⟩
  case ends =>
    intro s _ runs freeA freeB pastA pastB
    have run : exec (.tuningBlockStart false) s = .next (s.tstEnd 0) := by
      simp [exec, execTuningBlockStart, runs, freeA, State.laneSkip_past pastA, pastA, State.passSettle_through runs freeA freeB pastA pastB]
    obtain ⟨running, cause, -, -, marks, record⟩ := State.tstEnd_over 0 s
    exact ⟨_, run, running, cause, record, marks⟩
  case passes =>
    intro k s _ runs lane there due
    have good : failUnits k [] = [] := List.filter_eq_nil_iff.mpr (fun _ _ => by simp)
    have tst := State.dependents_tst k [] (s.tested k)
    rw [State.remarked, State.tested_tst] at tst
    obtain ⟨blockA, fail, marks, -⟩ := State.laneGoesOn ((s.tested k).dependents k []) (by rw [tst])
    rw [tst] at fail marks
    refine ⟨_, exec_tuningBlockEnd [] runs lane there due, ?_⟩
    rw [State.blockEnd_eq, State.verdict_pass good]
    exact ⟨blockA, fail, marks.trans (List.append_nil _)⟩
  case fails =>
    intro k u d s _ runs lane there unit due
    have bad := failUnits_one d unit
    have tst := State.dependents_tst k [u] (s.tested k)
    rw [State.remarked, State.tested_tst] at tst
    have judged := State.verdict_fail (s := s.tested k) bad
    generalize (s.tested k).dependents k [u] = v at tst judged
    generalize hw : ({ v with tst := { v.tst with
      fail := insertNat k v.tst.fail, first := some (v.tst.first.getD (k, u, failDev u [{ unit := u, dev := d }])) } } : State) = w at judged
    have wtst : w.tst = { v.tst with
        fail := insertNat k v.tst.fail, first := some (v.tst.first.getD (k, u, failDev u [{ unit := u, dev := d }])) } := by rw [← hw]
    have alarm : w.onlyIn (w.alarm 29 k 1 u) [.regs, .hif] := Frame.alarm _ _ _ _ _ (Frame.refl w _) (by decide) (by decide)
    have after : (w.alarm 29 k 1 u).tst = w.tst := alarm .tst (by decide)
    obtain ⟨blockA, fail, marks, hif⟩ := State.laneGoesOn (w.alarm 29 k 1 u) (by rw [after, wtst, tst])
    refine ⟨_, exec_tuningBlockEnd _ runs lane there due, ?_⟩
    rw [State.blockEnd_eq, judged]
    refine ⟨blockA, ?_, ?_, (State.alarmed_alarm 29 k 1 u w).of_hif (congrArg Hif.alarms hif)⟩
    · rw [List.length_singleton, fail, after, wtst]
      exact mem_insertNat _ _
    · unfold State.failed
      rw [List.length_singleton, marks, after, wtst, tst]
      simp

end Sys2Proof.Machine
end

section
/-! PROOFS. Sleep and wake (R410 to R413). -/

namespace Sys2Proof.Machine

/-- A property that the default element has, and that a map gives to every other one, holds at every index. -/
theorem getD_map_of {α β : Type} (P : β → Prop) {d : β} (hd : P d) (f : α → β) (hf : ∀ x, P (f x)) (l : List α) (n : Nat) :
    P ((l.map f).getD n d) := by
  rw [List.getD_eq_getElem?_getD, List.getElem?_map]
  cases l[n]? with
  | none => exact hd
  | some x => exact hf x

section
variable {s : State}

/-! The pass and the gates at a transition (R408, R411, R458) -/

theorem State.passFreed_sys (s : State) : s.passFreed.sys = { s.sys with busy := s.passFreed.sys.busy } := by
  unfold State.passFreed
  split
  · split <;> rfl
  · rfl

/-- A pass that ends frees the port at most. -/
theorem State.tstEnd_sys (cause : Nat) (s : State) : (s.tstEnd cause).sys = { s.sys with busy := (s.tstEnd cause).sys.busy } := by
  rw [State.tstEnd_eq]
  generalize hu : ((s.inCycle _).restartUnits s.tst.blockA).restartUnits s.tst.blockB = u
  have begun : s.onlyIn u [.regs, .adc, .cmps] := by
    rw [← hu]
    exact Frame.restartUnits _ _ (Frame.restartUnits _ _ (Frame.inCycle _ _ (Frame.refl s _) (by decide)) (by decide) (by decide)) (by decide)
      (by decide)
  generalize hv : ((u.passClosed cause s.tst).testOver s.tst.blockA).testOver s.tst.blockB = v
  have closed : u.onlyIn v [.sch, .tst] := by
    rw [← hv]
    exact Frame.testOver _ _ (Frame.testOver _ _ (Frame.with_tst (Frame.refl u _) (by decide)) (by decide)) (by decide)
  have counted : v.passFreed.onlyIn ((v.passFreed.count F.TST_PASS_CNT_COUNT).raise 61) [.regs, .evc] :=
    Frame.raise _ _ (Frame.count _ _ (Frame.refl _ _) (by decide)) (by decide) (by decide)
  have sys : v.sys = s.sys := (closed .sys (by decide)).trans (begun .sys (by decide))
  rw [counted .sys (by decide), State.passFreed_sys, sys]

theorem State.leaveArmed_sys (s : State) : s.leaveArmed.sys = { s.sys with busy := s.leaveArmed.sys.busy } := by
  unfold State.leaveArmed
  split
  · exact State.tstEnd_sys 2 s
  · rfl

theorem State.leaveArmed_frame (s : State) : s.onlyIn s.leaveArmed [.regs, .sys, .evc, .sch, .adc, .cmps, .tst] :=
  Frame.leaveArmed _ (Frame.refl s _) (by decide) (by decide) (by decide) (by decide) (by decide) (by decide) (by decide)

theorem State.killAll_frame (f : Event → Event) (s : State) : s.onlyIn (s.killAll f) [.regs, .hif, .sch, .banks, .quads, .edges, .adc] :=
  Frame.killAll _ _ (Frame.refl s _) (by decide) (by decide) (by decide) (by decide) (by decide) (by decide) (by decide)

/-- Every gate is low, and no edge is placed. -/
def State.gatesDown (s : State) : State :=
  { s with
    edges := [], sch := { s.sch with chans := s.sch.chans.map (fun c => { c with gl := false, modeHeld := none }) },
    banks := s.banks.map (fun b => { b with ghv := false, ghb := false }),
    quads := s.quads.map (fun q => { q with pulsing := false, gbc := false }) }

theorem State.killAll_eq (f : Event → Event) (s : State) :
    s.killAll f = ((upTo 96).foldl (fun (s : State) n => s.killLog n false f) (s.killBanks (fun _ => true) f)).gatesDown := by
  unfold State.killAll State.gatesDown
  dsimp only

theorem State.gatesDown_gl (s : State) (n : Nat) : (s.gatesDown.chan n).gl = false :=
  getD_map_of (fun c : Chan => c.gl = false) rfl _ (fun _ => rfl) _ n

theorem State.gatesDown_bank (s : State) (b : Nat) : (s.gatesDown.bank b).ghv = false ∧ (s.gatesDown.bank b).ghb = false :=
  getD_map_of (fun k : Bank => k.ghv = false ∧ k.ghb = false) ⟨rfl, rfl⟩ _ (fun _ => ⟨rfl, rfl⟩) _ b

theorem State.killAll_gl (f : Event → Event) (s : State) (n : Nat) : ((s.killAll f).chan n).gl = false := by
  rw [State.killAll_eq]
  exact State.gatesDown_gl _ n

theorem State.killAll_bank (f : Event → Event) (s : State) (b : Nat) :
    ((s.killAll f).bank b).ghv = false ∧ ((s.killAll f).bank b).ghb = false := by
  rw [State.killAll_eq]
  exact State.gatesDown_bank _ b

theorem State.setMode_sys {m : Mode} (other : s.sys.mode ≠ m) : (s.setMode m).sys = { s.sys with mode := m, prev := s.sys.mode } := by
  unfold State.setMode
  rw [if_neg other]
  dsimp only
  split <;> rfl

theorem State.setMode_frame (m : Mode) (s : State) : s.onlyIn (s.setMode m) [.sys, .ink] :=
  Frame.setMode _ _ (Frame.refl s _) (by decide) (by decide)

/-! The entry (R410, R411) -/

theorem State.sleepBegin_settles (vigil : Bool) (s : State) :
    (s.sleepBegin vigil).sys = { s.sys with sleep := some { vigil := vigil, since := s.now } }
      ∧ s.onlyIn (s.sleepBegin vigil) [.regs, .sys, .hif, .adc, .grds] := by
  have left : s.onlyIn (s.winsLeave (s.vigilTarget vigil)) [.regs, .sys, .hif, .adc, .grds] :=
    Frame.winsLeave _ _ (Frame.refl s _) (by decide) (by decide) (by decide)
  have narrow : s.onlyIn (s.winsLeave (s.vigilTarget vigil)) [.regs, .hif, .adc] :=
    Frame.winsLeave _ _ (Frame.refl s _) (by decide) (by decide) (by decide)
  unfold State.sleepBegin
  generalize s.winsLeave (s.vigilTarget vigil) = u at left narrow
  have sys : u.sys = s.sys := narrow .sys (by decide)
  have now : u.now = s.now := congrArg Clk.tb (narrow .clk (by decide))
  refine ⟨by dsimp only; rw [sys, now], ?_⟩
  have slept : s.onlyIn { u with sys := { u.sys with sleep := some { vigil := vigil, since := u.now } } } [.regs, .sys, .hif, .adc, .grds] :=
    Frame.with_sys left (by decide)
  exact Frame.with_grds slept (by decide)

/-- The entry is cancelled. -/
theorem State.sleepCancel_sys (s : State) : s.sleepCancel.sys = { s.sys with sleep := none } := by
  unfold State.sleepCancel
  generalize hu : ({ s with sys := { s.sys with sleep := none } } : State).timeWinsOpen = u
  have opened : ({ s with sys := { s.sys with sleep := none } } : State).onlyIn u [.regs, .hif, .adc] := by
    rw [← hu]
    exact Frame.timeWinsOpen _ (Frame.refl _ _) (by decide) (by decide) (by decide)
  have reported : u.onlyIn (if u.ringEngine then u.writeStatus u.sys.mode.code else u) [.regs, .hif, .evc] :=
    Frame.ite (Frame.writeStatus _ _ (Frame.refl u _) (by decide) (by decide) (by decide)) (Frame.refl u _)
  exact (reported .sys (by decide)).trans (opened .sys (by decide))

/-! The commit point (R411) -/

/-- Guardians, timers, sources, engines and the session go to sleep. -/
def State.rests (s : State) : State := ((((s.grdSleep).tmrSleep).evcSleep).nibSleep).dropSession

theorem State.rests_frame (s : State) : s.onlyIn s.rests [.regs, .hif, .evc, .sec, .grds, .tmrs, .nibs] :=
  Frame.with_sec (Frame.nibSleep _ (Frame.evcSleep _ (Frame.tmrSleep _ (Frame.grdSleep _ (Frame.refl s _) (by decide) (by decide) (by decide))
    (by decide)) (by decide)) (by decide)) (by decide)

theorem State.rests_sec (s : State) : s.rests.sec = { s.sec with role := 0, idle := 0 } := by
  have slept : s.onlyIn (((s.grdSleep).tmrSleep).evcSleep).nibSleep [.regs, .hif, .evc, .grds, .tmrs, .nibs] :=
    Frame.nibSleep _ (Frame.evcSleep _ (Frame.tmrSleep _ (Frame.grdSleep _ (Frame.refl s _) (by decide) (by decide) (by decide)) (by decide))
      (by decide)) (by decide)
  exact congrArg (fun x : Sec => { x with role := 0, idle := 0 }) (slept .sec (by decide))

/-- The fast domains are without power. -/
def State.dark (s : State) : State :=
  { s with
    clk := { s.clk with tbRun := false, refOk := false, pllLock := false, dieTrained := false, dieLostAt := none,
                        qreq := List.replicate 4 none, qrun := List.replicate 4 false,
                        qidle := List.replicate 4 none, slot := false },
    regs := { s.regs with same := Same.none },
    sys := { s.sys with sleep := none, wakeOut := false, idleSince := none },
    hif := { s.hif with l1 := s.hif.up, l12 := s.hif.up && s.hif.ctl.aspmL12 && s.flag F.HIF_CFG_CLKREQ_EN, dbReads := 0, turn := none },
    slur := s.slur.rest,
    adc := { s.adc with vigilAon := s.clk.aon } }

theorem State.asleepNow_eq (vigil : Bool) (s : State) :
    s.asleepNow vigil = (((s.leaveArmed.killAll markOc).rests).setMode (if vigil then .vigil else .dormant)).dark := by
  unfold State.asleepNow State.rests State.dark
  rfl

/-- What the commit point makes of a device in ARMED. -/
theorem State.asleepNow_settles (vigil : Bool) (armed : s.sys.mode = .armed) :
    (s.asleepNow vigil).sys.mode = (if vigil then .vigil else .dormant) ∧ (s.asleepNow vigil).sys.prev = .armed
      ∧ (s.asleepNow vigil).clk.aon = s.clk.aon ∧ (s.asleepNow vigil).sec.role = 0 ∧ (s.asleepNow vigil).sec.journal = s.sec.journal
      ∧ (s.asleepNow vigil).sys.sleep = none ∧ (s.asleepNow vigil).clk.tbRun = false ∧ (s.asleepNow vigil).clk.dieTrained = false
      ∧ ∀ n, ((s.asleepNow vigil).chan n).gl = false := by
  rw [State.asleepNow_eq]
  have killed := State.killAll_frame markOc s.leaveArmed
  have gl := State.killAll_gl markOc s.leaveArmed
  have left := State.leaveArmed_frame s
  have leftSys := State.leaveArmed_sys s
  generalize s.leaveArmed.killAll markOc = u at killed gl
  have rested := State.rests_frame u
  have restedSec := State.rests_sec u
  generalize u.rests = v at rested restedSec
  have moded := State.setMode_frame (if vigil then .vigil else .dormant) v
  have sys : v.sys = { s.sys with busy := s.leaveArmed.sys.busy } :=
    (rested .sys (by decide)).trans ((killed .sys (by decide)).trans leftSys)
  have modedSys := State.setMode_sys (s := v) (m := if vigil then .vigil else .dormant) (by rw [sys]; dsimp only; rw [armed]; cases vigil <;> decide)
  have sec : u.sec = s.sec := (killed .sec (by decide)).trans (left .sec (by decide))
  have clk : v.clk = s.clk := (rested .clk (by decide)).trans ((killed .clk (by decide)).trans (left .clk (by decide)))
  have sch : v.sch = u.sch := rested .sch (by decide)
  generalize v.setMode (if vigil then .vigil else .dormant) = w at moded modedSys
  refine ⟨congrArg Sys.mode modedSys, ?_, (congrArg Clk.aon ((moded .clk (by decide)).trans clk)).trans rfl, ?_, ?_, rfl, rfl, rfl, fun n => ?_⟩
  · exact (congrArg Sys.prev modedSys).trans ((congrArg Sys.mode sys).trans armed)
  · exact congrArg Sec.role ((moded .sec (by decide)).trans restedSec)
  · exact (congrArg Sec.journal ((moded .sec (by decide)).trans restedSec)).trans ((congrArg Sec.journal sec).trans rfl)
  · have same : w.sch = u.sch := (moded .sch (by decide)).trans sch
    exact (congrArg (fun x : Sch => (x.chans.getD n Chan.initial).gl) same).trans (gl n)

/-! The wake (R412, R413) -/

/-- Dropping other words leaves a word. -/
theorem WMap.word_filter {a : Nat} {p : Nat × Word → Bool} (h : ∀ w, p (a, w) = true) (m : WMap) : WMap.word (m.filter p) a = WMap.word m a := by
  have same : WMap.find a (m.filter p) = WMap.find a m := by
    induction m with
    | nil => rfl
    | cons x m ih =>
      obtain ⟨b, w⟩ := x
      by_cases e : a = b
      · subst e
        rw [List.filter_cons_of_pos (h w)]
        simp [WMap.find]
      · cases hp : p (b, w) with
        | true =>
          rw [List.filter_cons_of_pos hp]
          simp only [WMap.find, e, if_false, ih]
        | false =>
          rw [List.filter_cons_of_neg (by rw [hp]; decide)]
          simp only [WMap.find, e, if_false, ih]
  unfold WMap.word
  rw [same]

/-- A reset leaves the cause's bit in SYS_RSTCAUSE. -/
theorem State.warmReset_cause {c : Nat} (hc : c < 5) (step : Nat) (h : s.regs.live.wf = true) :
    (s.warmReset c step).get ⟨R.SYS_RSTCAUSE, c, 1⟩ = 1 := by
  have restarts : ∃ t : State, s.warmReset c step = t.setBit rstBits c ∧ t.regs.live = s.regs.live.filter (fun x => aonWord x.1) :=
    ⟨_, rfl, rfl⟩
  obtain ⟨t, restart, live⟩ := restarts
  have wf : t.regs.live.wf = true := live ▸ WMap.filter_wf h
  have bit : t.setBit rstBits c = t.set ⟨R.SYS_RSTCAUSE, 0 + c, 1⟩ 1 := if_pos hc
  rw [restart, bit, Nat.zero_add]
  exact State.get_set t ⟨R.SYS_RSTCAUSE, c, 1⟩ 1 wf (by dsimp only; omega)

/-- What the boot of a wake keeps. -/
theorem State.wakeBoot_settles (h : s.regs.live.wf = true) :
    s.wakeBoot.sys.mode = .boot ∧ s.wakeBoot.sys.bootStep = 1 ∧ s.wakeBoot.sys.bootWake = true ∧ s.wakeBoot.word R.SYS_WAKESTAT = s.word R.SYS_WAKESTAT
      ∧ s.wakeBoot.flag F.SYS_RSTCAUSE_WAKE = true ∧ s.wakeBoot.grds = s.grds ∧ s.wakeBoot.tmrs = s.tmrs
      ∧ s.wakeBoot.hif.rings = s.hif.rings ∧ s.wakeBoot.sec.journal = s.sec.journal ∧ s.wakeBoot.clk.aon = s.clk.aon := by
  have live : s.wakeBoot.regs.live = WMap.put R.SYS_RSTCAUSE ((s.warmReset 4 1).word R.SYS_RSTCAUSE)
      (s.regs.live.filter (fun x => sleepWord x.1 && x.1 != R.SYS_RSTCAUSE)) := rfl
  have kept := WMap.filter_wf (p := fun x => sleepWord x.1 && x.1 != R.SYS_RSTCAUSE) h
  refine ⟨rfl, rfl, rfl, ?_, ?_, rfl, rfl, rfl, rfl, rfl⟩
  · have stays : (sleepWord R.SYS_WAKESTAT && R.SYS_WAKESTAT != R.SYS_RSTCAUSE) = true := by decide
    unfold State.word
    rw [live, WMap.word_put_other _ _ _ _ kept (by decide), WMap.word_filter (fun _ => stays)]
  · have cause := State.warmReset_cause (s := s) (c := 4) (by decide) 1 h
    unfold State.flag State.get State.word
    rw [live, WMap.word_put_same _ _ _ kept]
    exact bne_iff_ne.mpr (fun none => absurd (cause.symm.trans none) (by decide))

end

/-- Settles O50: a sleep entry is followed through its steps, a wake through what the reset of its boot keeps. -/
theorem sleepAndWake : Obligations.SleepAndWake := by
  unfold Obligations.SleepAndWake
  refine ⟨?idle, ?commit, ?waits, ?wakes, ?cancels⟩
  case idle =>
    intro s _ due
    exact ⟨_, congrArg Host.Outcome.next (if_pos due), State.sleepBegin_settles _ s⟩
  case commit =>
    intro k s _ asleep armed ready
    have run : exec .sleepCommit s = .next (s.sleepGo k) := by
      simp only [exec, execSleepCommit, asleep, armed, ready, beq_self_eq_true, Bool.and_self, if_true]
    have told : s.onlyIn (if s.ringEngine then s.writeStatus (if k.vigil then 2 else 1) else s).discardStaging [.regs, .hif, .evc] :=
      Frame.discardStaging _ (Frame.ite (Frame.writeStatus _ _ (Frame.refl s _) (by decide) (by decide) (by decide)) (Frame.refl s _))
        (by decide) (by decide)
    unfold State.sleepGo at run
    dsimp only at run
    generalize (if s.ringEngine then s.writeStatus (if k.vigil then 2 else 1) else s).discardStaging = u at told run
    obtain ⟨mode, prev, aon, role, journal, sleep, tb, die, gl⟩ :=
      State.asleepNow_settles (s := u) k.vigil ((congrArg Sys.mode (told .sys (by decide))).trans armed)
    exact ⟨_, run, mode, prev, sleep, tb, die, aon.trans (congrArg Clk.aon (told .clk (by decide))), role,
      journal.trans (congrArg Sec.journal (told .sec (by decide))), gl⟩
  case waits =>
    intro k s _ asleep long
    have run : exec .sleepWaitTimeout s = .next { s.sleepCancel with sys := { s.sleepCancel.sys with result := 3 } } := by
      simp only [exec, execSleepWaitTimeout, asleep, if_pos long]
    exact ⟨_, run, congrArg (fun y : Sys => { y with result := 3 }) (State.sleepCancel_sys s)⟩
  case wakes =>
    intro w s hok wakes awake asleep
    have run : exec (.wakeDecision w) s = .next (s.wake w) := by
      simp [exec, execWakeDecision, wakes, awake, asleep]
    have live := (Kept.refl hok).regs.live
    obtain ⟨mode, step, boot, source, cause, grds, tmrs, rings, journal, aon⟩ :=
      State.wakeBoot_settles (s := s.putWord R.SYS_WAKESTAT (Word.ofN (wakeBits w))) (WMap.put_wf _ _ _ live)
    exact ⟨_, run, mode, step, boot, source.trans (WMap.word_put_same _ _ _ live), cause, grds, tmrs, rings, journal, aon⟩
  case cancels =>
    intro w k s _ wakes asleep
    have run : exec (.wakeDecision w) s = .next s.sleepCancel := by
      simp [exec, execWakeDecision, wakes, asleep]
    exact ⟨_, run, State.sleepCancel_sys s⟩

end Sys2Proof.Machine
end

section
/-! PROOFS. Mode requests (R403 to R408, Table 16.1). -/

namespace Sys2Proof.Machine

/-! What the host has said last (R268), and the command that it waits for (R173) -/

/-- From o to s the host has said nothing, and no command is held or acts. -/
structure HostQuiet (o s : State) : Prop where
  heard : s.hif.heardAt = o.hif.heardAt
  held : s.hif.mqHeld = o.hif.mqHeld

section
variable {o s t : State}

theorem HostQuiet.refl (s : State) : HostQuiet s s := ⟨rfl, rfl⟩

theorem HostQuiet.of_hif (h : HostQuiet o s) (k : t.hif = s.hif) : HostQuiet o t := ⟨k ▸ h.heard, k ▸ h.held⟩

theorem HostQuiet.frame {l : List Piece} (h : HostQuiet o s) (k : s.onlyIn t l) (outside : Piece.hif ∉ l) : HostQuiet o t :=
  h.of_hif (k .hif outside)

theorem HostQuiet.ite {c : Prop} [Decidable c] {x y : State} (h : HostQuiet o x) (k : HostQuiet o y) : HostQuiet o (if c then x else y) := by
  split <;> assumption

theorem HostQuiet.foldl {α : Type} {f : State → α → State} {xs : List α} (h : HostQuiet o s)
    (step : ∀ s x, HostQuiet o s → HostQuiet o (f s x)) : HostQuiet o (xs.foldl f s) := by
  induction xs generalizing s with
  | nil => exact h
  | cons x xs ih => exact ih (step _ _ h)

theorem HostQuiet.count (h : HostQuiet o s) (f : Fld) : HostQuiet o (s.count f) := h.of_hif rfl

theorem HostQuiet.lose (h : HostQuiet o s) (r : Nat) (trk : Bool) : HostQuiet o (s.lose r trk) := by
  unfold State.lose
  exact .ite ⟨h.heard, h.held⟩ ⟨h.heard, h.held⟩

theorem HostQuiet.trace (h : HostQuiet o s) (t bit low : Nat) (time : Tb) (mid w3 : Nat) : HostQuiet o (s.trace t bit low time mid w3) := by
  unfold State.trace
  exact .ite (.ite ⟨h.heard, h.held⟩ (h.lose _ _)) h

theorem HostQuiet.alarm (h : HostQuiet o s) (id sub data data2 : Nat) : HostQuiet o (s.alarm id sub data data2) := by
  obtain ⟨heard, held⟩ := h
  have placed := State.alarm_hif id sub data data2 s
  exact ⟨(congrArg Hif.heardAt placed).trans heard, (congrArg Hif.mqHeld placed).trans held⟩

theorem HostQuiet.clrLatch (h : HostQuiet o s) (f : Fld) (i : Nat) : HostQuiet o (s.clrLatch f i) :=
  h.frame (Frame.clrLatch _ _ _ (Frame.refl s [.regs]) (by decide)) (by decide)

theorem HostQuiet.modGrd (h : HostQuiet o s) (g : Nat) (f : Grd → Grd) : HostQuiet o (s.modGrd g f) := ⟨h.heard, h.held⟩

theorem HostQuiet.grdStep (h : HostQuiet o s) (g : Nat) (st : GState) : HostQuiet o (s.grdStep g st) := by
  have there : HostQuiet o (s.modGrd g fun x => { x with st := st }) := h.modGrd g _
  unfold State.grdStep
  dsimp only
  generalize s.modGrd g _ = u at there ⊢
  exact .ite there (there.trace _ _ _ _ _ _)

theorem HostQuiet.rampStart (h : HostQuiet o s) (g : Nat) : HostQuiet o (s.rampStart g) := by
  unfold State.rampStart
  dsimp only
  exact .grdStep (.modGrd (.clrLatch (.clrLatch h _ _) _ _) _ _) _ _

theorem HostQuiet.retryRamp (h : HostQuiet o s) (g : Nat) : HostQuiet o (s.retryRamp g) := by
  unfold State.retryRamp
  exact .rampStart (.modGrd h _ _) _

theorem HostQuiet.grdEnter (h : HostQuiet o s) : HostQuiet o s.grdEnter := by
  unfold State.grdEnter
  refine .foldl h fun u g k => .ite k ?_
  split
  · exact k.rampStart _
  · exact .ite (k.retryRamp _) k
  · exact .ite (k.rampStart _) k
  · exact k

/-- Windows open without a word to the host. -/
theorem State.openAll_frame (p : Nat → Bool) (s : State) : s.onlyIn (s.openAll p) [.adc] :=
  Frame.foldl (Frame.refl s _) (fun _ _ k => Frame.ite (Frame.ite (Frame.with_adc k (by decide)) k) k)

end

section
variable {s : State} {p : Port}

/-! A request is judged (R403) -/

theorem State.touch_requestResult (p q : Port) (code : Nat) (s : State) : (s.touch p).requestResult q code = s.requestResult q code := by
  unfold State.touch
  split <;> rfl

theorem State.modeRequest_judged (code : Nat) (open' : s.portOpen = true) (alone : s.pending.any outranks = false) :
    s.modeRequest p code = (s.touch p).modeJudge p code :=
  (State.onWrite_of_open open' _).trans (if_neg (by rw [State.touch_pending, alone]; decide))

theorem State.modeRequest_waits (code : Nat) (open' : s.portOpen = true) (outranked : s.pending.any outranks = true) :
    s.modeRequest p code = { s.touch p with sys := { (s.touch p).sys with asked := some (p, code) } } :=
  (State.onWrite_of_open open' _).trans (if_pos (by rw [State.touch_pending, outranked]))

/-- A request that has been judged. -/
def State.judged (p : Port) (code r : Nat) (s : State) : State :=
  { s.touch p with sys := { (s.touch p).sys with req := code, result := r, asked := none } }

theorem State.judged_sys (p : Port) (code r : Nat) (s : State) : (s.judged p code r).sys = { s.sys with req := code, result := r, asked := none } :=
  congrArg (fun y : Sys => { y with req := code, result := r, asked := none }) (State.touch_frame p s .sys (by decide))

theorem State.judged_frame (p : Port) (code r : Nat) (s : State) : s.onlyIn (s.judged p code r) [.sys, .sec] :=
  Frame.with_sys (Frame.mono (State.touch_frame p s) (by decide)) (by decide)

theorem State.modeJudge_accepted {code : Nat} (accepts : s.requestResult p code = 0) :
    (s.touch p).modeJudge p code = (s.judged p code 0).carryOut p code := by
  unfold State.modeJudge
  rw [State.touch_requestResult, accepts]
  rfl

theorem State.modeJudge_unknown {code : Nat} (unknown : s.requestResult p code = 2) : (s.touch p).modeJudge p code = s.judged p code 2 := by
  unfold State.modeJudge
  rw [State.touch_requestResult, unknown]
  rfl

/-! The transitions of Table 16.1 -/

theorem State.requestRole_safestop (s : State) : s.requestRole 11 = if s.sys.mode.engine then some 0 else none := by
  unfold State.requestRole
  cases s.sys.mode <;> rfl

theorem State.carryOut_safestop (s : State) : s.carryOut p 11 = s.safestop 2 := by
  unfold State.carryOut
  cases s.sys.mode <;> rfl

theorem Mode.not_safestop_of_engine {m : Mode} (h : m.engine = true) : m ≠ .safestop := by
  rintro rfl
  exact absurd h (by decide)

theorem State.requestResult_safestop (engine : s.sys.mode.engine = true) : s.requestResult p 11 = 0 := by
  have role : s.requestRole 11 = some 0 := (State.requestRole_safestop s).trans (if_pos engine)
  unfold State.requestResult
  rw [role]
  simp [Mode.not_safestop_of_engine engine]

/-- In ARMED a request of sleep or of SETUP waits for the work to be done. -/
theorem State.requestResult_armed {code role : Nat} (armed : s.sys.mode = .armed) (known : s.requestRole code = some role) (may : role ≤ s.roleOf p)
    (done : s.workOut = false) : s.requestResult p code = 0 := by
  unfold State.requestResult
  rw [known]
  simp [armed, done, Nat.not_lt.mpr may]

theorem State.requestRole_sleep (vigil : Bool) (armed : s.sys.mode = .armed) : s.requestRole (if vigil then 2 else 1) = some 0 := by
  unfold State.requestRole
  rw [armed]
  cases vigil <;> rfl

theorem State.requestRole_sleep_elsewhere (vigil : Bool) (other : s.sys.mode ≠ .armed) : s.requestRole (if vigil then 2 else 1) = none := by
  unfold State.requestRole
  revert other
  cases s.sys.mode <;> cases vigil <;> simp

/-! SAFESTOP (R405) -/

theorem State.allToWaiting_chans (s : State) : s.allToWaiting.sch.chans = s.sch.chans := by
  unfold State.allToWaiting
  dsimp only
  generalize List.map _ _ = ids
  induction ids generalizing s with
  | nil => rfl
  | cons id ids ih => exact (ih _).trans rfl

theorem State.holdWaiting_bank (s : State) (b : Nat) : (s.holdWaiting.bank b).ghv = (s.bank b).ghv ∧ (s.holdWaiting.bank b).ghb = (s.bank b).ghb := by
  unfold State.bank State.holdWaiting
  dsimp only
  generalize s.banks = bs
  induction bs generalizing b with
  | nil => exact ⟨rfl, rfl⟩
  | cons k bs ih => cases b with
    | zero => exact ⟨rfl, rfl⟩
    | succ b => exact ih b

/-- Every gate is low, and no released event starts. -/
def State.halted (s : State) : State := ((s.killAll markOc).allToWaiting).holdWaiting

theorem State.halted_frame (s : State) : s.onlyIn s.halted [.regs, .hif, .sch, .banks, .quads, .edges, .adc, .ink] :=
  Frame.holdWaiting _ (Frame.allToWaiting _ (Frame.mono (State.killAll_frame markOc s) (by decide)) (by decide) (by decide)) (by decide)

theorem State.halted_gl (s : State) (n : Nat) : (s.halted.chan n).gl = false := by
  have held : s.halted.sch.chans = (s.killAll markOc).sch.chans :=
    (congrArg Sch.chans (Frame.holdWaiting _ (Frame.refl (s.killAll markOc).allToWaiting [.banks]) (by decide) .sch (by decide))).trans
      (State.allToWaiting_chans _)
  exact (congrArg (fun x : List Chan => (x.getD n Chan.initial).gl) held).trans (State.killAll_gl markOc s n)

theorem State.halted_bank (s : State) (b : Nat) : (s.halted.bank b).ghv = false ∧ (s.halted.bank b).ghb = false := by
  obtain ⟨ghv, ghb⟩ := State.holdWaiting_bank (s.killAll markOc).allToWaiting b
  have waiting : (s.killAll markOc).allToWaiting.banks = (s.killAll markOc).banks :=
    Frame.allToWaiting _ (Frame.refl (s.killAll markOc) [.sch, .ink]) (by decide) (by decide) .banks (by decide)
  have down : ((s.killAll markOc).allToWaiting.bank b).ghv = false ∧ ((s.killAll markOc).allToWaiting.bank b).ghb = false := by
    unfold State.bank
    rw [waiting]
    exact State.killAll_bank markOc s b
  exact ⟨ghv.trans down.1, ghb.trans down.2⟩

/-- SAFESTOP is entered, for the cause c. -/
def State.stopped (c : Nat) (s : State) : State :=
  let s := (s.setMode .safestop).nibsLeave (fun n => !s.flag (F.NIB_CFG_SAFE_RUN n))
  { s with sys := { s.sys with safeCause := c, sleep := none } }

theorem State.safestop_eq (c : Nat) (engine : s.sys.mode.engine = true) :
    s.safestop c = (((s.leaveArmed.safeSeen c).safeActive c).halted.stopped c).alarm 14 c 0 0 := by
  unfold State.safestop State.halted State.stopped
  rw [if_pos engine]

theorem State.stopped_frame (c : Nat) (s : State) : s.onlyIn (s.stopped c) [.sys, .ink, .nibs] :=
  Frame.with_sys (Frame.nibsLeave _ _ (Frame.mono (State.setMode_frame _ _) (by decide)) (by decide)) (by decide)

theorem State.stopped_sys (c : Nat) (other : s.sys.mode ≠ .safestop) :
    (s.stopped c).sys = { s.sys with mode := .safestop, prev := s.sys.mode, safeCause := c, sleep := none } :=
  congrArg (fun y : Sys => { y with safeCause := c, sleep := none }) (State.setMode_sys other)

/-- A request of SAFESTOP from an engine mode. -/
theorem State.safestop_settles (engine : s.sys.mode.engine = true) :
    (s.safestop 2).sys.mode = .safestop ∧ (s.safestop 2).sys.safeCause = 2 ∧ (s.safestop 2).sys.sleep = none ∧ (s.safestop 2).alarmed 14
      ∧ (∀ n, ((s.safestop 2).chan n).gl = false) ∧ ∀ b, ((s.safestop 2).bank b).ghv = false ∧ ((s.safestop 2).bank b).ghb = false := by
  rw [State.safestop_eq 2 engine]
  have left : (((s.leaveArmed.safeSeen 2).safeActive 2).halted).sys.mode = s.sys.mode :=
    (congrArg Sys.mode (State.halted_frame _ .sys (by decide))).trans
      ((congrArg Sys.mode (Frame.safeSeen 2 _ (Frame.refl s.leaveArmed [.regs]) (by decide) .sys (by decide))).trans
        ((congrArg Sys.mode (State.leaveArmed_sys s)).trans rfl))
  have gl := State.halted_gl ((s.leaveArmed.safeSeen 2).safeActive 2)
  have gates := State.halted_bank ((s.leaveArmed.safeSeen 2).safeActive 2)
  generalize ((s.leaveArmed.safeSeen 2).safeActive 2).halted = u at left gl gates
  have sys := State.stopped_sys (s := u) 2 (by rw [left]; exact Mode.not_safestop_of_engine engine)
  have frame := State.stopped_frame 2 u
  generalize u.stopped 2 = v at sys frame
  have told : v.onlyIn (v.alarm 14 2 0 0) [.regs, .hif] := Frame.alarm _ _ _ _ _ (Frame.refl v _) (by decide) (by decide)
  have alarmed := State.alarmed_alarm 14 2 0 0 v
  generalize v.alarm 14 2 0 0 = w at told alarmed
  have sys' : w.sys = _ := (told .sys (by decide)).trans sys
  have sch : w.sch = u.sch := (told .sch (by decide)).trans (frame .sch (by decide))
  have banks : w.banks = u.banks := (told .banks (by decide)).trans (frame .banks (by decide))
  exact ⟨congrArg Sys.mode sys', congrArg Sys.safeCause sys', congrArg Sys.sleep sys', alarmed,
    fun n => (congrArg (fun x : Sch => (x.chans.getD n Chan.initial).gl) sch).trans (gl n),
    fun b => by unfold State.bank; rw [banks]; exact gates b⟩

/-! SETUP, ARMED and MAINT (R403, R406) -/

theorem State.toSetup_settles (armed : s.sys.mode = .armed) :
    s.toSetup.sys.mode = .setup ∧ s.toSetup.sys.prev = .armed ∧ s.toSetup.sys.sleep = none := by
  have sys : (s.leaveArmed.winsLeave none).sys = { s.sys with busy := s.leaveArmed.sys.busy } :=
    (Frame.winsLeave none _ (Frame.refl s.leaveArmed [.regs, .hif, .adc]) (by decide) (by decide) (by decide) .sys (by decide)).trans
      (State.leaveArmed_sys s)
  have mode : (s.leaveArmed.winsLeave none).sys.mode = .armed := (congrArg Sys.mode sys).trans armed
  unfold State.toSetup
  generalize s.leaveArmed.winsLeave none = u at mode
  have set := State.setMode_sys (s := u) (m := .setup) (by rw [mode]; decide)
  exact ⟨congrArg Sys.mode set, (congrArg Sys.prev set).trans mode, rfl⟩

theorem State.enterArmed_settles (setup : s.sys.mode = .setup) (trained : s.clk.dieTrained = true) :
    s.enterArmed.sys.mode = .armed ∧ s.enterArmed.sys.prev = .setup ∧ s.enterArmed.hif.heardAt = s.now := by
  unfold State.enterArmed
  dsimp only
  generalize hu : ({ s with hif := { s.hif with heardAt := s.now, silent := false } } : State) = u
  have heard : u.hif.heardAt = s.now := by rw [← hu]
  have clk : u.clk = s.clk := by rw [← hu]
  have mode : u.sys.mode = .setup := by rw [← hu]; exact setup
  have sys := State.setMode_sys (s := u) (m := .armed) (by rw [mode]; decide)
  have moded := State.setMode_frame .armed u
  generalize u.setMode .armed = v at sys moded
  have boosted : v.onlyIn v.boostBegin.boostFresh [.quads] :=
    Frame.boostFresh _ (Frame.boostBegin _ (Frame.refl v _) (by decide)) (by decide)
  generalize v.boostBegin.boostFresh = w at boosted
  have opened : w.onlyIn w.timeWinsOpen [.adc] := State.openAll_frame _ _
  have entered : w.onlyIn w.timeWinsOpen.grdEnter [.regs, .hif, .grds, .adc] :=
    Frame.grdEnter _ (Frame.mono opened (by decide)) (by decide) (by decide) (by decide)
  have quiet : HostQuiet w w.timeWinsOpen.grdEnter := HostQuiet.grdEnter ((HostQuiet.refl w).frame opened (by decide))
  generalize w.timeWinsOpen.grdEnter = x at entered quiet
  have started : x.onlyIn x.armedStart [.regs, .evc, .tmrs, .nibs, .slur] :=
    Frame.armedStart _ (Frame.refl x _) (by decide) (by decide) (by decide) (by decide) (by decide)
  generalize x.armedStart = y at started
  have die : y.clk = s.clk :=
    (started .clk (by decide)).trans ((entered .clk (by decide)).trans ((boosted .clk (by decide)).trans ((moded .clk (by decide)).trans clk)))
  have ends : y.sys = { u.sys with mode := .armed, prev := u.sys.mode } :=
    (started .sys (by decide)).trans ((entered .sys (by decide)).trans ((boosted .sys (by decide)).trans sys))
  rw [if_pos ((congrArg Clk.dieTrained die).trans trained)]
  refine ⟨congrArg Sys.mode ends, (congrArg Sys.prev ends).trans mode, ?_⟩
  calc y.hif.heardAt = x.hif.heardAt := congrArg Hif.heardAt (started .hif (by decide))
    _ = w.hif.heardAt := quiet.heard
    _ = u.hif.heardAt := congrArg Hif.heardAt ((boosted .hif (by decide)).trans (moded .hif (by decide)))
    _ = s.now := heard

theorem State.requestRole_setup (armed : s.sys.mode = .armed) : s.requestRole 4 = some 1 := by
  unfold State.requestRole
  rw [armed]
  rfl

theorem State.requestRole_armed (setup : s.sys.mode = .setup) : s.requestRole 6 = some 1 := by
  unfold State.requestRole
  rw [setup]
  rfl

theorem State.requestRole_maint (setup : s.sys.mode = .setup) : s.requestRole 5 = some 2 := by
  unfold State.requestRole
  rw [setup]
  rfl

theorem State.requestRole_maintExit (maint : s.sys.mode = .maint) : s.requestRole 4 = some 2 := by
  unfold State.requestRole
  rw [maint]
  rfl

theorem State.requestResult_of {code role : Nat} (known : s.requestRole code = some role) (may : role ≤ s.roleOf p)
    (awake : s.sys.mode ≠ .safestop) (other : s.sys.mode ≠ .armed)
    (checked : s.sys.mode = .setup → code = 6 → s.sys.image = 0 ∧ s.regs.dirty = []) : s.requestResult p code = 0 := by
  unfold State.requestResult
  rw [known]
  dsimp only
  rw [if_neg (Nat.not_lt.mpr may), if_neg (fun h => awake h.1), if_neg (fun h => other h.1), if_neg]
  rintro ⟨setup, six, bad⟩
  obtain ⟨image, dirty⟩ := checked setup six
  exact bad.elim (fun h => h image) (fun h => h dirty)

theorem State.judged_roleOf (p q : Port) (code r : Nat) (s : State) : (s.judged p code r).roleOf q = s.roleOf q := State.touch_roleOf p q s

theorem State.judged_jRoom (p : Port) (code r role n : Nat) (s : State) : (s.judged p code r).jRoom role n = s.jRoom role n :=
  State.touch_jRoom p s role n

theorem State.judged_counter (p : Port) (code r : Nat) (s : State) : (s.judged p code r).sec.counter = s.sec.counter :=
  (congrArg Sec.counter (State.touch_sec p s)).trans rfl

theorem State.judged_mode (p : Port) (code r : Nat) (s : State) : (s.judged p code r).sys.mode = s.sys.mode :=
  (congrArg Sys.mode (State.judged_sys p code r s)).trans rfl

/-- A request that the mode accepts. -/
theorem State.modeRequest_accepted {code : Nat} (open' : s.portOpen = true) (alone : s.pending.any outranks = false)
    (accepts : s.requestResult p code = 0) : s.modeRequest p code = (s.judged p code 0).carryOut p code :=
  (State.modeRequest_judged code open' alone).trans (State.modeJudge_accepted accepts)

end

/-- Settles O49: a request is judged, and what an accepted one carries out is followed through its transition. -/
theorem modeRequests : Obligations.ModeRequests := by
  unfold Obligations.ModeRequests
  refine ⟨?sleeps, ?unknown, ?stops, ?toSetup, ?toArmed, ?toMaint, ?leavesMaint, ?waits⟩
  case sleeps =>
    intro p vigil s _ open' alone armed done
    have accepts := State.requestResult_armed (p := p) armed (State.requestRole_sleep vigil armed) (Nat.zero_le _) done
    have carried : (s.judged p (if vigil then 2 else 1) 0).carryOut p (if vigil then 2 else 1) = (s.judged p (if vigil then 2 else 1) 0).sleepBegin vigil := by
      unfold State.carryOut
      rw [State.judged_mode, armed]
      cases vigil <;> rfl
    have run : exec (.modeRequestDormant p vigil) s = .next ((s.judged p (if vigil then 2 else 1) 0).sleepBegin vigil) :=
      congrArg Host.Outcome.next ((State.modeRequest_accepted open' alone accepts).trans carried)
    obtain ⟨sys, frame⟩ := State.sleepBegin_settles vigil (s.judged p (if vigil then 2 else 1) 0)
    have judged := State.judged_frame p (if vigil then 2 else 1) 0 s
    have now : (s.judged p (if vigil then 2 else 1) 0).now = s.now := congrArg Clk.tb (judged .clk (by decide))
    rw [State.judged_sys, now] at sys
    exact ⟨_, run, (congrArg Sys.mode sys).trans armed, congrArg Sys.result sys, congrArg Sys.req sys, congrArg Sys.sleep sys,
      Frame.trans (Frame.mono judged (by decide)) (Frame.mono frame (by decide))⟩
  case unknown =>
    intro p vigil s _ open' alone other
    have result : s.requestResult p (if vigil then 2 else 1) = 2 := by
      unfold State.requestResult
      rw [State.requestRole_sleep_elsewhere vigil other]
    have run : exec (.modeRequestDormant p vigil) s = .next (s.judged p (if vigil then 2 else 1) 2) :=
      congrArg Host.Outcome.next ((State.modeRequest_judged _ open' alone).trans (State.modeJudge_unknown result))
    exact ⟨_, run, State.judged_sys _ _ _ _, State.judged_frame _ _ _ _⟩
  case stops =>
    intro p s _ open' alone engine
    have run : exec (.modeRequestSafestop p) s = .next ((s.judged p 11 0).safestop 2) :=
      congrArg Host.Outcome.next ((State.modeRequest_accepted open' alone (State.requestResult_safestop engine)).trans (State.carryOut_safestop _))
    exact ⟨_, run, State.safestop_settles ((congrArg Mode.engine (State.judged_mode p 11 0 s)).trans engine)⟩
  case toSetup =>
    intro p s _ open' alone armed may done
    have mode := (State.judged_mode p 4 0 s).trans armed
    have carried : (s.judged p 4 0).carryOut p 4 = (s.judged p 4 0).toSetup := by
      unfold State.carryOut
      rw [mode]
      rfl
    have run : exec (.modeRequestSetup p) s = .next (s.judged p 4 0).toSetup :=
      congrArg Host.Outcome.next ((State.modeRequest_accepted open' alone
        (State.requestResult_armed armed (State.requestRole_setup armed) may done)).trans carried)
    exact ⟨_, run, State.toSetup_settles mode⟩
  case toArmed =>
    intro p s _ open' alone setup may image dirty trained
    have mode := (State.judged_mode p 6 0 s).trans setup
    have clk : (s.judged p 6 0).clk = s.clk := State.judged_frame p 6 0 s .clk (by decide)
    have carried : (s.judged p 6 0).carryOut p 6 = (s.judged p 6 0).enterArmed := by
      unfold State.carryOut
      rw [mode]
      rfl
    have run : exec (.modeRequestArmed p) s = .next (s.judged p 6 0).enterArmed :=
      congrArg Host.Outcome.next ((State.modeRequest_accepted open' alone (State.requestResult_of (State.requestRole_armed setup) may
        (by rw [setup]; decide) (by rw [setup]; decide) (fun _ _ => ⟨image, dirty⟩))).trans carried)
    obtain ⟨armed, prev, heard⟩ := State.enterArmed_settles mode ((congrArg Clk.dieTrained clk).trans trained)
    exact ⟨_, run, armed, prev, heard.trans (congrArg Clk.tb clk)⟩
  case toMaint =>
    intro p s _ open' alone setup may
    have mode := (State.judged_mode p 5 0 s).trans setup
    have carried : (s.judged p 5 0).carryOut p 5 = ((s.judged p 5 0).journal (act (s.roleOf p) (portNum p) 11 0)).setMode .maint := by
      unfold State.carryOut
      rw [mode, State.judged_roleOf]
      rfl
    have run : exec (.modeRequestMaint p) s = .next (((s.judged p 5 0).journal (act (s.roleOf p) (portNum p) 11 0)).setMode .maint) :=
      congrArg Host.Outcome.next ((State.modeRequest_accepted open' alone (State.requestResult_of (State.requestRole_maint setup) may
        (by rw [setup]; decide) (by rw [setup]; decide) (fun _ six => absurd six (by decide)))).trans carried)
    have frame := State.journal_frame (act (s.roleOf p) (portNum p) 11 0) (s.judged p 5 0)
    have counts := State.journal_counter (s := s.judged p 5 0) (act (s.roleOf p) (portNum p) 11 0)
    generalize (s.judged p 5 0).journal (act (s.roleOf p) (portNum p) 11 0) = u at run frame counts
    have there : u.sys.mode = .setup := (congrArg Sys.mode (frame .sys (by decide))).trans mode
    have sys := State.setMode_sys (s := u) (m := .maint) (by rw [there]; decide)
    have moded := State.setMode_frame .maint u
    refine ⟨_, run, congrArg Sys.mode sys, (congrArg Sys.prev sys).trans there, fun room => ?_, ?_⟩
    · rw [← State.judged_jRoom p 5 0] at room
      exact (congrArg Sec.counter (moded .sec (by decide))).trans ((counts room).trans (congrArg (· + 1) (State.judged_counter p 5 0 s)))
    · exact Frame.trans (Frame.trans (Frame.mono (State.judged_frame p 5 0 s) (by decide)) (Frame.mono frame (by decide))) (Frame.mono moded (by decide))
  case leavesMaint =>
    intro p s hok open' alone maint may
    have mode := (State.judged_mode p 4 0 s).trans maint
    have carried : (s.judged p 4 0).carryOut p 4 = (s.judged p 4 0).maintExit p := by
      unfold State.carryOut
      rw [mode]
      rfl
    have run : exec (.modeRequestMaintExit p) s = .next ((s.judged p 4 0).maintExit p) :=
      congrArg Host.Outcome.next ((State.modeRequest_accepted open' alone (State.requestResult_of (State.requestRole_maintExit maint) may
        (by rw [maint]; decide) (by rw [maint]; decide) (fun h => absurd (maint.symm.trans h) (by decide)))).trans carried)
    have kept : Kept s (s.judged p 4 0) := Kept.touch s p (Kept.refl hok)
    unfold State.maintExit at run
    have journalled := Kept.journal (act ((s.judged p 4 0).roleOf p) (portNum p) 11 1) _ kept
    have frame := State.journal_frame (act ((s.judged p 4 0).roleOf p) (portNum p) 11 1) (s.judged p 4 0)
    dsimp only at run
    generalize (s.judged p 4 0).journal (act ((s.judged p 4 0).roleOf p) (portNum p) 11 1) = u at run journalled frame
    have cause := State.warmReset_cause (s := u) (c := 3) (by decide) 1 journalled.regs.live
    have left := Kept.warmReset 3 1 u journalled
    exact ⟨_, run, rfl, (congrArg Sys.mode (frame .sys (by decide))).trans mode, rfl,
      bne_iff_ne.mpr (fun none => absurd (cause.symm.trans none) (by decide)), rfl, left.regs.image, left.part⟩
  case waits =>
    intro p s _ open' outranked
    have run : exec (.modeRequestSafestop p) s = .next { s.touch p with sys := { (s.touch p).sys with asked := some (p, 11) } } :=
      congrArg Host.Outcome.next (State.modeRequest_waits 11 open' outranked)
    have touched := State.touch_frame p s
    exact ⟨_, run, congrArg (fun y : Sys => { y with asked := some (p, 11) }) (touched .sys (by decide)),
      Frame.with_sys (Frame.mono touched (by decide)) (by decide)⟩

end Sys2Proof.Machine
end

section
/-! PROOFS. The strokes of a Nib engine (chapter 14). -/

namespace Sys2Proof.Machine

/-- From o to t only engine n has moved, and it is now x. -/
structure State.nibTo (o : State) (n : Nat) (x : Nib) (t : State) : Prop where
  there : n < t.nibs.length
  nib : t.nib n = x
  others : ∀ m, m ≠ n → t.nib m = o.nib m
  regs : t.regs = { o.regs with same := t.regs.same }
  frame : o.onlyIn t [.regs, .nibs]

/-- An engine of the part has its element. -/
theorem State.nib_there {s : State} {n : Nat} (hok : s.ok) (present : s.nibPresent n = true) : n < s.nibs.length := by
  have ranged : n < s.part.nibs := of_decide_eq_true present
  have most : s.part.nibs ≤ 8 := by cases s.part <;> decide
  have eight : s.nibs.length = 8 := (Kept.refl hok).nibs.1
  omega

theorem State.nibPresent_of_nibMode {s : State} {n : Nat} (runs : s.nibMode n = true) : s.nibPresent n = true := by
  simp only [State.nibMode, Bool.and_eq_true] at runs
  exact runs.1.1

/-- Each of its engines has eight ink pins. -/
theorem State.nib_ink {s : State} {n : Nat} (hok : s.ok) (there : n < s.nibs.length) : (s.nib n).ink.length = 8 := by
  unfold State.nib
  rw [List.getD_eq_getElem _ _ there]
  exact (Kept.refl hok).nibs.2 _ (List.getElem_mem there)

section
variable {o s : State} {n : Nat} {x : Nib}

theorem State.nibTo.refl (there : n < s.nibs.length) : s.nibTo n (s.nib n) s := ⟨there, rfl, fun _ _ => rfl, rfl, Frame.refl s _⟩

theorem State.modNib_length (s : State) (n : Nat) (f : Nib → Nib) : (s.modNib n f).nibs.length = s.nibs.length := by
  unfold State.modNib
  exact modAt_length _ _ _

theorem State.nibTo.modNib {f : Nib → Nib} {y : Nib} (h : o.nibTo n x s) (e : f x = y) : o.nibTo n y (s.modNib n f) where
  there := (State.modNib_length s n f).symm ▸ h.there
  nib := by rw [State.nib_modNib, if_pos ⟨rfl, h.there⟩, h.nib, e]
  others m other := by rw [State.nib_modNib, if_neg (fun e => other e.1.symm), h.others m other]
  regs := h.regs
  frame := Frame.modNib _ _ _ h.frame (by decide)

theorem State.nibTo.inCycle (h : o.nibTo n x s) (f : Same → Same) : o.nibTo n x (s.inCycle f) :=
  ⟨h.there, h.nib, h.others, congrArg (fun r : RegFile => { r with same := (s.inCycle f).regs.same }) h.regs,
    Frame.with_regs h.frame (by decide)⟩

theorem State.nibTo.word (h : o.nibTo n x s) (a : Nat) : s.word a = o.word a :=
  (congrArg (fun r : RegFile => r.live.word a) h.regs).trans rfl

theorem State.nibTo.get (h : o.nibTo n x s) (f : Fld) : s.get f = o.get f := by
  unfold State.get
  rw [h.word]

theorem State.nibTo.flag (h : o.nibTo n x s) (f : Fld) : s.flag f = o.flag f := by
  unfold State.flag
  rw [h.get]

theorem State.nibTo.words (h : o.nibTo n x s) : o.onlyWords s [] :=
  ⟨h.regs.trans (congrArg (fun l : WMap => { o.regs with live := l, same := s.regs.same }) (congrArg RegFile.live h.regs).symm),
    fun a _ => h.word a⟩

theorem State.nibTo.width (h : o.nibTo n x s) : s.nibWidth n = o.nibWidth n := by
  unfold State.nibWidth
  rw [h.get]

theorem State.nibTo.input (h : o.nibTo n x s) (ins : List Bool) (k : Nat) : s.nibIn n ins k = o.nibIn n ins k := by
  unfold State.nibIn
  rw [h.word]

theorem State.nibTo.inkEn (h : o.nibTo n x s) (i : Nat) : s.inkEn n i = o.inkEn n i := by
  unfold State.inkEn
  rw [h.word]

/-- A condition sees what the engine's counters are. -/
theorem State.nibTo.cond (h : o.nibTo n x s) (sc : x.sc = (o.nib n).sc) (bc : x.bc = (o.nib n).bc) (ins : List Bool) (c : Nat) :
    s.nibCond n ins c = o.nibCond n ins c := by
  unfold State.nibCond
  simp only [h.nib, h.get, h.input, sc, bc]

/-- Whether a stroke stalls is seen in the engine's FIFOs and its shift register's bit. -/
theorem State.nibTo.short (h : o.nibTo n x s) (tx : x.tx = (o.nib n).tx) (rx : x.rx = (o.nib n).rx) (bc : x.bc = (o.nib n).bc) (k : Nat) :
    s.txShort n k = o.txShort n k ∧ s.rxShort n k = o.rxShort n k ∧ s.nibStalls n k = o.nibStalls n k := by
  unfold State.nibStalls State.txShort State.rxShort
  rw [h.nib, h.width, h.flag, h.flag, tx, rx, bc]
  exact ⟨rfl, rfl, rfl⟩

/-! The steps of a stroke -/

/-- The engine cycle is under way. -/
def State.underway (o : State) (n : Nat) : Nib := { o.nib n with due := o.now + BitVec.ofNat 40 (o.cycleTb n) }

/-- Its stroke runs. -/
def State.striking (o : State) (n : Nat) : Nib := { o.underway n with stalled := false }

theorem State.cycleStart_to (there : n < s.nibs.length) : s.nibTo n (s.underway n) (s.cycleStart n) := by
  have due : s.nibTo n (s.underway n) (s.modNib n fun x => { x with due := s.now + BitVec.ofNat 40 (s.cycleTb n) }) :=
    (State.nibTo.refl there).modNib rfl
  unfold State.cycleStart
  dsimp only
  exact due.inCycle _

/-- The engine with its ink pins set by the stroke k. -/
def State.inked (o : State) (n k : Nat) (x : Nib) : Nib :=
  { x with ink := x.ink.mapIdx (fun i l =>
      if strokeBits k (56 + i) 1 = 1 ∧ o.inkEn n i ∧ ¬(strokeBits k 35 2 = 2 ∧ i = o.get (F.NIB_CFG_SOUT n)) then strokeBits k (48 + i) 1 == 1 else l) }

theorem State.nibTo.inkStep (h : o.nibTo n x s) (k : Nat) : o.nibTo n (o.inked n k x) (s.inkStep n k) := by
  unfold State.inkStep
  dsimp only
  simp only [h.inkEn, h.get]
  exact h.modNib rfl

/-- The engine at the state ns, or at the next one. -/
def State.moved (o : State) (n ns : Nat) (x : Nib) : Nib :=
  if ns.testBit 6 then
    if x.st = x.bottom then
      if x.mpend then { x with st := o.get (F.NIB_MARGIN_TOP n), top := o.get (F.NIB_MARGIN_TOP n), bottom := o.get (F.NIB_MARGIN_BOTTOM n), mpend := false }
      else { x with st := x.top, mpend := false }
    else { x with st := (x.st + 1) % 64 }
  else { x with st := ns % 64 }

theorem State.nibTo.next (h : o.nibTo n x s) (ns : Nat) : o.nibTo n (o.moved n ns x) (s.nibNext n ns) := by
  unfold State.nibNext State.moved
  dsimp only
  rw [h.nib, h.get, h.get]
  by_cases seq : ns.testBit 6 = true
  · rw [if_pos seq, if_pos seq]
    by_cases wraps : x.st = x.bottom
    · rw [if_pos wraps, if_pos wraps]
      by_cases waits : x.mpend = true
      · rw [if_pos waits, if_pos waits, if_pos waits]
        exact h.modNib rfl
      · rw [if_neg waits, if_neg waits, if_neg waits]
        exact h.modNib rfl
    · rw [if_neg wraps, if_neg wraps]
      exact h.modNib rfl
  · rw [if_neg seq, if_neg seq]
    exact h.modNib rfl

/-- What a stroke shifts. -/
def State.shifted (n k : Nat) (ins : List Bool) (s : State) : State :=
  match strokeBits k 35 2 with
  | 1 => s.shiftIn n (s.nibIn n ins (strokeBits k 37 2))
  | 2 => s.shiftOut n
  | _ => s

/-- The state that a stroke names as the next one, or 64 and more for the one after it. -/
def State.strokeNext (s : State) (n k : Nat) (ins : List Bool) : Nat :=
  strokeBits k (7 * (2 * b2n (s.nibCond n ins (strokeBits k 32 3)) + b2n (s.nibCond n ins (strokeBits k 28 3)))) 7

theorem State.nibTo.strokeNext (h : o.nibTo n x s) (sc : x.sc = (o.nib n).sc) (bc : x.bc = (o.nib n).bc) (k : Nat) (ins : List Bool) :
    s.strokeNext n k ins = o.strokeNext n k ins := by
  unfold State.strokeNext
  rw [h.cond sc bc, h.cond sc bc]

/-- A stroke that neither counts nor interrupts. -/
theorem State.strokeStep_plain {k : Nat} {ins : List Bool} (free : s.nibStalls n k = false) (keeps : strokeBits k 39 2 = 0)
    (quiet : strokeBits k 41 1 = 0) :
    s.strokeStep n k ins
      = (((s.modNib n fun x => { x with stalled := false }).shifted n k ins).inkStep n k).nibNext n (s.strokeNext n k ins) := by
  unfold State.strokeStep
  rw [if_neg (by rw [free]; decide), keeps, quiet]
  rfl

theorem exec_stroke {ins : List Bool} (mode : s.nibMode n = true) (runs : (s.nib n).run = true) (due : s.cycleDue n = true) :
    exec (.stroke n ins) s = .next ((s.cycleStart n).strokeNow n (s.strokeAt n (s.nib n).st) ins) := by
  simp [exec, execStroke, mode, runs, due]

/-- A stroke that finds its words runs: it shifts, sets its ink pins and goes to its next state. -/
theorem exec_stroke_plain {k : Nat} {y : Nib} {ins : List Bool} (hok : s.ok) (mode : s.nibMode n = true) (runs : (s.nib n).run = true)
    (due : s.cycleDue n = true) (at' : k = s.strokeAt n (s.nib n).st) (keeps : strokeBits k 39 2 = 0) (quiet : strokeBits k 41 1 = 0)
    (tx : s.txShort n k = false) (rx : s.rxShort n k = false)
    (shifts : ∀ u, s.nibTo n (s.striking n) u → s.nibTo n y (u.shifted n k ins)) :
    ∃ t, exec (.stroke n ins) s = .next t ∧ s.nibTo n (s.moved n (s.strokeNext n k ins) (s.inked n k y)) t := by
  have starts := State.cycleStart_to (State.nib_there hok (State.nibPresent_of_nibMode mode))
  have run := exec_stroke (ins := ins) mode runs due
  rw [← at'] at run
  generalize s.cycleStart n = u at starts run
  obtain ⟨txThen, rxThen, stalls⟩ := starts.short rfl rfl rfl k
  have free : u.nibStalls n k = false := by
    unfold State.nibStalls
    rw [txThen, rxThen, tx, rx]
    simp
  have now : u.strokeNow n k ins = u.strokeStep n k ins := if_neg (by rw [txThen, rxThen, tx, rx]; decide)
  rw [now, State.strokeStep_plain free keeps quiet, starts.strokeNext rfl rfl] at run
  exact ⟨_, run, ((shifts _ (starts.modNib rfl)).inkStep k).next _⟩

/-- Going on changes only where the engine is in its program. -/
theorem State.moved_eq (s : State) (n ns : Nat) (x : Nib) :
    ∃ st top bottom mpend, s.moved n ns x = { x with st := st, top := top, bottom := bottom, mpend := mpend } := by
  unfold State.moved
  split
  · split
    · split
      · exact ⟨_, _, _, _, rfl⟩
      · exact ⟨_, _, _, _, rfl⟩
    · exact ⟨_, _, _, _, rfl⟩
  · exact ⟨_, _, _, _, rfl⟩

theorem strokeBits_lt (k lo w : Nat) : strokeBits k lo w < 2 ^ w := Nat.mod_lt _ (Nat.two_pow_pos w)

/-- Of the seven bits of a next state, bit 6 is the sequential advance. -/
theorem testBit_six {ns : Nat} (h : ns < 128) : ns.testBit 6 = decide (64 ≤ ns) := by
  rw [Nat.testBit_eq_decide_div_mod_eq]
  congr 1
  apply propext
  omega

theorem State.moved_named {ns : Nat} (h : ns < 64) : s.moved n ns x = { x with st := ns } := by
  unfold State.moved
  rw [testBit_six (by omega), decide_eq_false (by omega), if_neg (by decide), Nat.mod_eq_of_lt h]

theorem State.moved_after {ns : Nat} (high : 64 ≤ ns) (h : ns < 128) (inside : x.st ≠ x.bottom) :
    s.moved n ns x = { x with st := (x.st + 1) % 64 } := by
  unfold State.moved
  rw [testBit_six h, decide_eq_true high, if_pos rfl, if_neg inside]

theorem State.moved_wraps {ns : Nat} (high : 64 ≤ ns) (h : ns < 128) (wraps : x.st = x.bottom) (fixed : x.mpend = false) :
    s.moved n ns x = { x with st := x.top, mpend := false } := by
  unfold State.moved
  rw [testBit_six h, decide_eq_true high, if_pos rfl, if_pos wraps, if_neg (by rw [fixed]; decide)]

theorem State.moved_margins {ns : Nat} (high : 64 ≤ ns) (h : ns < 128) (wraps : x.st = x.bottom) (waits : x.mpend = true) :
    s.moved n ns x
      = { x with st := s.get (F.NIB_MARGIN_TOP n), top := s.get (F.NIB_MARGIN_TOP n), bottom := s.get (F.NIB_MARGIN_BOTTOM n), mpend := false } := by
  unfold State.moved
  rw [testBit_six h, decide_eq_true high, if_pos rfl, if_pos wraps, if_pos waits]

/-- An ink pin that the stroke sets has its bit, another its level. -/
theorem State.inked_ink {k i : Nat} (there : i < x.ink.length) (none : strokeBits k 35 2 ≠ 2 ∨ i ≠ s.get (F.NIB_CFG_SOUT n)) :
    (s.inked n k x).ink.getD i false
      = if strokeBits k (56 + i) 1 = 1 ∧ s.inkEn n i = true then strokeBits k (48 + i) 1 == 1 else x.ink.getD i false := by
  have free : ¬(strokeBits k 35 2 = 2 ∧ i = s.get (F.NIB_CFG_SOUT n)) := fun h => none.elim (fun g => g h.1) (fun g => g h.2)
  unfold State.inked
  dsimp only
  rw [List.getD_eq_getElem _ _ (by rw [List.length_mapIdx]; exact there), List.getElem_mapIdx, List.getD_eq_getElem _ _ there]
  simp only [free, not_false_eq_true, and_true]

/-- The pin that a stroke shifts out to keeps the bit. -/
theorem State.inked_sout {k : Nat} (out : strokeBits k 35 2 = 2) :
    (s.inked n k x).ink.getD (s.get (F.NIB_CFG_SOUT n)) false = x.ink.getD (s.get (F.NIB_CFG_SOUT n)) false := by
  unfold State.inked
  dsimp only
  simp only [List.getD_eq_getElem?_getD, List.getElem?_mapIdx, out, true_and, not_true_eq_false, and_false, if_false]
  cases x.ink[s.get (F.NIB_CFG_SOUT n)]? <;> rfl

/-! Shifts (R368) -/

theorem strokeShort_plain {k : Nat} (shift : strokeBits k 35 2 = 0) (keeps : strokeBits k 39 2 = 0) :
    s.txShort n k = false ∧ s.rxShort n k = false := by
  unfold State.txShort State.rxShort
  rw [shift, keeps]
  exact ⟨rfl, rfl⟩

/-- A bit goes in, and the word is not full. -/
theorem State.nibTo.shiftIn {bit : Bool} (h : o.nibTo n x s) (high : o.flag (F.NIB_CFG_SHDIR n) = false) (room : x.bc + 1 < o.nibWidth n) :
    o.nibTo n { x with sr := (x.sr * 2 + b2n bit) % 2 ^ 32, bc := x.bc + 1 } (s.shiftIn n bit) := by
  unfold State.shiftIn
  dsimp only
  rw [h.nib, h.width, h.flag, if_neg (by omega), if_neg (by rw [high]; decide)]
  exact h.modNib rfl

/-- A word goes out by its first bit. -/
theorem State.nibTo.shiftOut {w : Word} {l : List Word} (h : o.nibTo n x s) (high : o.flag (F.NIB_CFG_SHDIR n) = false) (empty : x.bc = 0)
    (word : x.tx = w :: l) :
    o.nibTo n { x with tx := l, sr := w.toNat * 2 % 2 ^ 32, bc := 1 % o.nibWidth n,
                       ink := setAt x.ink (o.get (F.NIB_CFG_SOUT n)) (w.toNat.testBit (o.nibWidth n - 1)) } (s.shiftOut n) := by
  have pulled : o.nibTo n { x with tx := l, sr := w.toNat } (s.nibPull n) := by
    unfold State.nibPull
    rw [h.nib, word]
    exact h.modNib rfl
  unfold State.shiftOut
  rw [if_pos (by rw [h.nib]; exact empty)]
  dsimp only
  generalize s.nibPull n = u at pulled
  rw [pulled.nib, pulled.width, pulled.get, pulled.flag, high]
  exact pulled.modNib (by dsimp only; rw [empty]; rfl)

end

/-- Settles O46: what an engine is after its cycle, followed through the shift, the ink pins and the next state. -/
theorem strokesRun : Obligations.StrokesRun := by
  unfold Obligations.StrokesRun
  refine ⟨?stalls, ?idle, ?moves, ?shiftsIn, ?shiftsOut, ?drives⟩
  case stalls =>
    intro n ins s hok mode runs due stalls
    have starts := State.cycleStart_to (State.nib_there hok (State.nibPresent_of_nibMode mode))
    have run := exec_stroke (ins := ins) mode runs due
    generalize s.strokeAt n (s.nib n).st = k at stalls run
    generalize s.cycleStart n = u at starts run
    obtain ⟨tx, rx, same⟩ := starts.short rfl rfl rfl k
    have waits : (u.txShort n k || u.rxShort n k) = true := by
      have short := stalls
      unfold State.nibStalls at short
      rw [tx, rx]
      cases h : s.txShort n k <;> cases g : s.rxShort n k <;> simp [h, g] at short ⊢
    have now : u.strokeNow n k ins = u.modNib n fun x => { x with todo := some (k, ins), stalled := u.nibStalls n k } := if_pos waits
    rw [now] at run
    have ends : s.nibTo n { s.nib n with stalled := true, todo := some (k, ins), due := s.now + BitVec.ofNat 40 (s.cycleTb n) } _ :=
      starts.modNib (f := fun x => { x with todo := some (k, ins), stalled := u.nibStalls n k }) (by rw [same, stalls]; rfl)
    exact ⟨_, run, ends.others, ends.nib, ends.words, ends.frame⟩
  case idle =>
    intro n ins s none
    refine congrArg Host.Outcome.next (if_neg ?_)
    obtain due | mode | runs := none
    · rw [due]
      simp
    · rw [mode]
      simp
    · rw [runs]
      simp
  case moves =>
    intro n k ns ins s hok mode runs due at' shift keeps quiet next
    have eight := State.nib_ink hok (State.nib_there hok (State.nibPresent_of_nibMode mode))
    obtain ⟨tx, rx⟩ := strokeShort_plain (s := s) (n := n) shift keeps
    obtain ⟨t, run, ends⟩ := exec_stroke_plain hok mode runs due at' keeps quiet tx rx (fun u h => by
      unfold State.shifted
      rw [shift]
      exact h)
    have named : s.strokeNext n k ins = ns := next.symm
    have small : ns < 128 := next ▸ strokeBits_lt _ _ _
    rw [named] at ends
    refine ⟨t, run, ?_, fun low => ?_, fun high inside => ?_, fun high wraps fixed => ?_, fun high wraps waits => ?_, fun i hi => ?_, ?_⟩
    · obtain ⟨st, top, bottom, mpend, e⟩ := State.moved_eq s n ns (s.inked n k (s.striking n))
      exact (congrArg Nib.stalled (ends.nib.trans e)).trans rfl
    · exact congrArg Nib.st (ends.nib.trans (State.moved_named low))
    · exact (congrArg Nib.st (ends.nib.trans (State.moved_after high small inside))).trans rfl
    · exact (congrArg Nib.st (ends.nib.trans (State.moved_wraps high small wraps fixed))).trans rfl
    · have e := ends.nib.trans (State.moved_margins high small wraps waits)
      exact ⟨congrArg Nib.st e, congrArg Nib.top e, congrArg Nib.bottom e, congrArg Nib.mpend e⟩
    · obtain ⟨st, top, bottom, mpend, e⟩ := State.moved_eq s n ns (s.inked n k (s.striking n))
      have ink : (t.nib n).ink = (s.inked n k (s.striking n)).ink := (congrArg Nib.ink (ends.nib.trans e)).trans rfl
      rw [ink]
      exact State.inked_ink (x := s.striking n) (hi.trans_eq eight.symm) (.inl (by rw [shift]; decide))
    · obtain ⟨st, top, bottom, mpend, e⟩ := State.moved_eq s n ns (s.inked n k (s.striking n))
      have after := ends.nib.trans e
      exact ⟨(congrArg Nib.sr after).trans rfl, (congrArg Nib.bc after).trans rfl, (congrArg Nib.sc after).trans rfl,
        (congrArg Nib.tx after).trans rfl, (congrArg Nib.rx after).trans rfl, ends.others, ends.words, ends.frame⟩
  case shiftsIn =>
    intro n k ins s hok mode runs due at' shift keeps quiet high room
    have tx : s.txShort n k = false := by
      unfold State.txShort
      rw [shift]
      rfl
    have full : ((s.nib n).bc == s.nibWidth n - 1) = false := beq_eq_false_iff_ne.mpr (by omega)
    have rx : s.rxShort n k = false := by
      unfold State.rxShort
      rw [keeps, full, Bool.and_false]
      rfl
    obtain ⟨t, run, ends⟩ := exec_stroke_plain hok mode runs due at' keeps quiet tx rx (fun u h => by
      unfold State.shifted
      rw [shift, h.input]
      exact h.shiftIn high room)
    obtain ⟨st, top, bottom, mpend, e⟩ := State.moved_eq s n (s.strokeNext n k ins) _
    have after := ends.nib.trans e
    exact ⟨t, run, (congrArg Nib.sr after).trans rfl, (congrArg Nib.bc after).trans rfl, (congrArg Nib.rx after).trans rfl,
      (congrArg Nib.tx after).trans rfl, ends.words, ends.frame⟩
  case shiftsOut =>
    intro n k w l ins s hok mode runs due at' shift keeps quiet high empty word
    have tx : s.txShort n k = false := by
      unfold State.txShort
      rw [word]
      simp
    have rx : s.rxShort n k = false := by
      unfold State.rxShort
      rw [keeps, shift]
      rfl
    obtain ⟨t, run, ends⟩ := exec_stroke_plain hok mode runs due at' keeps quiet tx rx (fun u h => by
      unfold State.shifted
      rw [shift]
      exact h.shiftOut high empty word)
    obtain ⟨st, top, bottom, mpend, e⟩ := State.moved_eq s n (s.strokeNext n k ins) _
    have after := ends.nib.trans e
    refine ⟨t, run, (congrArg Nib.sr after).trans rfl, (congrArg Nib.bc after).trans rfl, (congrArg Nib.tx after).trans rfl, fun eight => ?_, ends.words, ends.frame⟩
    have ink := congrArg Nib.ink after
    dsimp only at ink
    rw [ink, State.inked_sout shift]
    have pin : s.get (F.NIB_CFG_SOUT n) < (s.striking n).ink.length := (bits_lt _ 11 3).trans_eq eight.symm
    exact (setAt_getD _ _ _ _ _).trans (if_pos ⟨rfl, pin⟩)
  case drives =>
    intro n k s present enabled ink
    unfold State.inkOut
    dsimp only
    rw [present, enabled, ink]
    refine ⟨fun off => ?_, fun on pushPull => ?_, fun on openDrain => ?_⟩
    · rw [off]
      rfl
    · rw [on, pushPull]
      rfl
    · rw [on, openDrain]
      cases (s.nib n).ink.getD k false <;> rfl

end Sys2Proof.Machine
end

section
/-! PROOFS. The host's control of a Nib engine, its FIFOs and its program (R372 to R376). -/

namespace Sys2Proof.Machine

section
variable {o s t : State} {p : Port} {n : Nat} {x y : Nib} {v : Word}

/-! Registers of an engine without fields -/

/-- A register write leaves what the FIFOs held in its fabric cycle. -/
theorem State.rowWrite_fifos {r : RegRow} {a : Nat} (h : refuses s r a (s.roleOf p) v = false) :
    (s.rowWrite r p a v).regs.same.nibs = s.regs.same.nibs := by
  unfold State.rowWrite
  extract_lets role im imask omask live1 gone1 gone live smask shadow deny s1 s2
  have hdeny : deny = false := h
  have first : s1.regs.same.nibs = s.regs.same.nibs := by
    show (s.noteHost a).regs.same.nibs = s.regs.same.nibs
    unfold State.noteHost State.inCycle
    dsimp only
    split <;> rfl
  have second : s2.regs.same.nibs = s.regs.same.nibs := by
    unfold s2
    split <;> exact first
  rw [hdeny]
  exact second

theorem State.rowThere_nib {a w base : Nat} (row : rowAt a = some (⟨base, [(8, 64)], .nib, 0, 0, 0, 0, w, 0, 0, 0⟩, [n]))
    (present : s.nibPresent n = true) (low : 0x5800 ≤ a) (high : a < 0x6000) :
    ∃ r, s.rowThere a = some r ∧ r.i = 0 ∧ r.woI = 0 ∧ r.woM = 0 := by
  have block : s.blockThere a = true := by
    unfold State.blockThere
    simp only [R.WHL_CAMCFG, R.WHL_CAMREF, R.WHL_CAM_ANG, R.WHL_ACLK_CTRL, R.WHL_CTRL, R.SET_CFG]
    rw [if_neg (by omega), if_neg (by omega), if_neg (by omega), if_neg (by omega)]
  have there : s.rowThere a = some ⟨base, [(8, 64)], .nib, 0, 0 &&& s.bitsThere a, 0, 0, w, 0, 0, 0⟩ := by
    unfold State.rowThere
    rw [row]
    exact if_pos (Bool.and_eq_true_iff.mpr ⟨present, block⟩)
  exact ⟨_, there, Nat.zero_and _, rfl, rfl⟩

theorem State.nibPresent_lt (present : s.nibPresent n = true) : n < 8 := by
  have ranged : n < s.part.nibs := of_decide_eq_true present
  have most : s.part.nibs ≤ 8 := by cases s.part <;> decide
  omega

theorem rowAt_nibCtrl (small : n < 8) : rowAt (R.NIB_CTRL n) = some (⟨0x5824, [(8, 64)], .nib, 0, 0, 0, 0, 0xf, 0, 0, 0⟩, [n]) := by
  revert n
  decide

theorem rowAt_nibTx (small : n < 8) : rowAt (R.NIB_TX n) = some (⟨0x5834, [(8, 64)], .nib, 0, 0, 0, 0, 0xffffffff, 0, 0, 0⟩, [n]) := by
  revert n
  decide

/-- From s to t a register of engine n without fields has been written: the engines and the set-up stay. -/
structure NibWrote (a : Nat) (s t : State) : Prop where
  frame : s.onlyIn t [.regs, .sec]
  word : ∀ b, b ≠ a → t.word b = s.word b
  fifos : t.regs.same.nibs = s.regs.same.nibs
  kept : Kept s t

/-- A write of such a register acts on what its write has left. -/
theorem State.busWrite_nib {a w base : Nat} (hok : s.ok) (ho : s.portOpen = true) (present : s.nibPresent n = true)
    (row : rowAt a = some (⟨base, [(8, 64)], .nib, 0, 0, 0, 0, w, 0, 0, 0⟩, [n])) (low : 0x5800 ≤ a) (high : a < 0x6000) (v : Word)
    (f : State → State) : ∃ u, s.busWrite p a v f = f u ∧ NibWrote a s u := by
  obtain ⟨r, there, noFields, noInstaller, noMaker⟩ := State.rowThere_nib row present low high
  have row' : (s.touch p).rowThere a = some r := by rw [State.touch_rowThere, there]
  have accepts : refuses (s.touch p) r a ((s.touch p).roleOf p) v = false := by
    simp [refuses, noFields, noInstaller, noMaker]
  have writes : (s.touch p).fieldsWrite p a v = (s.touch p).rowWrite r p a v := by
    unfold State.fieldsWrite
    rw [row']
  have wrote : HostWrote a (s.touch p) ((s.touch p).rowWrite r p a v) := .rowWrite accepts
  refine ⟨(s.touch p).fieldsWrite p a v, State.busWrite_of_there ho (by rw [row']; rfl) v f, ?_⟩
  have kept : Kept s ((s.touch p).fieldsWrite p a v) := Kept.fieldsWrite _ _ _ _ (Kept.touch s p (Kept.refl hok))
  rw [writes] at kept ⊢
  exact ⟨Frame.trans (Frame.mono (State.touch_frame p s) (by decide)) (Frame.mono wrote.frame (by decide)),
    fun b other => (wrote.word b other).trans (State.touch_word p s b),
    (State.rowWrite_fifos accepts).trans (by rw [State.touch_regs]), kept⟩

theorem NibWrote.nib {a : Nat} (h : NibWrote a s t) (m : Nat) : t.nib m = s.nib m :=
  congrArg (fun l : List Nib => l.getD m Nib.initial) (h.frame .nibs (by decide))

theorem NibWrote.get {a : Nat} (h : NibWrote a s t) {f : Fld} (other : f.a ≠ a) : t.get f = s.get f := by
  unfold State.get
  rw [h.word _ other]

theorem NibWrote.mode {a : Nat} (h : NibWrote a s t) (m : Nat) (other : R.NIB_CFG m ≠ a) : t.nibMode m = s.nibMode m := by
  have part : t.part = s.part := h.frame .part (by decide)
  have sys : t.sys = s.sys := h.frame .sys (by decide)
  have en : t.flag (F.NIB_CFG_EN m) = s.flag (F.NIB_CFG_EN m) := congrArg (· != 0) (h.get (f := F.NIB_CFG_EN m) other)
  have safe : t.flag (F.NIB_CFG_SAFE_RUN m) = s.flag (F.NIB_CFG_SAFE_RUN m) := congrArg (· != 0) (h.get (f := F.NIB_CFG_SAFE_RUN m) other)
  unfold State.nibMode State.nibPresent
  rw [part, sys, en, safe]

theorem NibWrote.levels {a : Nat} (h : NibWrote a s t) (m : Nat) : t.fifoLevels m = s.fifoLevels m := by
  unfold State.fifoLevels
  rw [h.fifos, h.nib]

theorem NibWrote.there {a : Nat} (hok : s.ok) (present : s.nibPresent n = true) (h : NibWrote a s t) : n < t.nibs.length :=
  (State.nib_there hok present).trans_eq (congrArg List.length (h.frame .nibs (by decide))).symm

/-- What the write and then the engine's step leave. -/
theorem NibWrote.moves {a : Nat} (h : NibWrote a s o) (k : o.nibTo n x t) :
    t.nib n = x ∧ (∀ m, m ≠ n → t.nib m = s.nib m) ∧ s.onlyIn t [.regs, .hif, .sec, .nibs] :=
  ⟨k.nib, fun m other => (k.others m other).trans (h.nib m), Frame.trans (Frame.mono h.frame (by decide)) (Frame.mono k.frame (by decide))⟩

/-! NIB_CTRL (R373) -/

/-- An engine that starts. -/
def State.started (s : State) (n : Nat) : Nib :=
  { s.nib n with run := true, stalled := false, todo := none, due := s.now, st := s.get (F.NIB_MARGIN_ENTRY n), sr := 0, bc := 0, sc := 0,
                 tx := [], rx := [] }

theorem State.nibTo.flush (h : o.nibTo n x s) :
    o.nibTo n { x with tx := [], rx := [] } ((s.modNib n (fun x => { x with tx := [], rx := [] })).fifosFresh n) := by
  have emptied : o.nibTo n { x with tx := [], rx := [] } (s.modNib n fun x => { x with tx := [], rx := [] }) := h.modNib rfl
  unfold State.fifosFresh
  exact emptied.inCycle _

theorem State.nibStartAct_to (there : n < s.nibs.length) (mode : s.nibMode n = true) : s.nibTo n (s.started n) (s.nibStartAct n) := by
  unfold State.nibStartAct
  rw [if_pos mode]
  dsimp only
  generalize entry : s.get (F.NIB_MARGIN_ENTRY n) = e
  have starts : s.nibTo n (s.started n)
      (s.modNib n fun x => { x with run := true, stalled := false, todo := none, due := s.now, st := e, sr := 0, bc := 0, sc := 0,
                                    tx := [], rx := [] }) :=
    (State.nibTo.refl there).modNib (by unfold State.started; rw [entry])
  unfold State.fifosFresh
  exact starts.inCycle _

/-- START: FLUSH with it changes nothing. -/
theorem State.nibCtrl_start {k : Nat} (there : n < s.nibs.length) (mode : s.nibMode n = true) (start : k.testBit 0 = true) :
    s.nibTo n (s.started n) (s.nibCtrl n k) := by
  have starts := State.nibStartAct_to there mode
  unfold State.nibCtrl
  rw [if_pos start]
  dsimp only
  generalize s.nibStartAct n = u at starts
  split
  · exact starts.flush
  · exact starts

/-- STOP alone. -/
theorem State.nibCtrl_stop {k : Nat} (there : n < s.nibs.length) (start : k.testBit 0 = false) (stop : k.testBit 1 = true)
    (resume : k.testBit 2 = false) (flush : k.testBit 3 = false) :
    s.nibTo n { s.nib n with run := false, stalled := false } (s.nibCtrl n k) := by
  unfold State.nibCtrl
  simp only [start, stop, resume, flush, Bool.false_and, if_true, if_false, Bool.false_eq_true]
  exact (State.nibTo.refl there).modNib rfl

/-- RESUME alone. -/
theorem State.nibCtrl_resume {k : Nat} (there : n < s.nibs.length) (mode : s.nibMode n = true) (start : k.testBit 0 = false)
    (stop : k.testBit 1 = false) (resume : k.testBit 2 = true) (flush : k.testBit 3 = false) :
    s.nibTo n (if (s.nib n).run then s.nib n else { s.nib n with run := true, due := s.now }) (s.nibCtrl n k) := by
  unfold State.nibCtrl
  simp only [start, stop, resume, flush, mode, Bool.true_and, if_false, Bool.false_eq_true]
  cases run : (s.nib n).run
  · exact (State.nibTo.refl there).modNib rfl
  · exact State.nibTo.refl there

/-- FLUSH alone. -/
theorem State.nibCtrl_flush {k : Nat} (there : n < s.nibs.length) (start : k.testBit 0 = false) (stop : k.testBit 1 = false)
    (resume : k.testBit 2 = false) (flush : k.testBit 3 = true) :
    s.nibTo n { s.nib n with tx := [], rx := [] } (s.nibCtrl n k) := by
  unfold State.nibCtrl
  simp only [start, stop, resume, flush, Bool.false_and, if_true, if_false, Bool.false_eq_true]
  exact (State.nibTo.refl there).flush

/-- A write of NIB_CTRL. -/
theorem State.nibWrite_settles (hok : s.ok) (ho : s.portOpen = true) (present : s.nibPresent n = true) (bit : Nat) (v : Word) :
    ∃ u, s.nibWrite p n bit v = u.nibCtrl n (v.toNat ||| bit) ∧ NibWrote (R.NIB_CTRL n) s u := by
  have small := State.nibPresent_lt present
  exact State.busWrite_nib hok ho present (rowAt_nibCtrl small) (by unfold R.NIB_CTRL; omega) (by unfold R.NIB_CTRL; omega) v _

theorem NibWrote.mode_ctrl (h : NibWrote (R.NIB_CTRL n) s t) : t.nibMode n = s.nibMode n := h.mode n (by unfold R.NIB_CFG R.NIB_CTRL; omega)

theorem NibWrote.now {a : Nat} (h : NibWrote a s t) : t.now = s.now := congrArg Clk.tb (h.frame .clk (by decide))

theorem testBit_or_two_pow (k i j : Nat) : (k ||| 2 ^ j).testBit i = (k.testBit i || decide (j = i)) := by
  rw [Nat.testBit_or, Nat.testBit_two_pow]

/-! The FIFOs (R372) -/

theorem State.nibTo.fifoNote (h : o.nibTo n x s) (l : Nat × Nat) : o.nibTo n x (s.fifoNote n l) := by
  unfold State.fifoNote
  split
  · exact h.inCycle _
  · exact h

/-- A write of NIB_TX. -/
theorem State.txWrite_settles (hok : s.ok) (ho : s.portOpen = true) (present : s.nibPresent n = true) (v : Word) :
    ∃ u, NibWrote (R.NIB_TX n) s u ∧ s.txWrite p n v
      = if (s.fifoLevels n).1 < nibFifo then
          (u.modNib n (fun x => { x with tx := x.tx ++ [v] })).fifoNote n ((s.fifoLevels n).1 + 1, (s.fifoLevels n).2)
        else u.count F.HIF_BADACC_CNT_COUNT := by
  have small := State.nibPresent_lt present
  obtain ⟨u, run, wrote⟩ := State.busWrite_nib (p := p) hok ho present (rowAt_nibTx small) (by unfold R.NIB_TX; omega) (by unfold R.NIB_TX; omega) v
    (fun s =>
      let l := s.fifoLevels n
      if l.1 < nibFifo then (s.modNib n (fun x => { x with tx := x.tx ++ [v] })).fifoNote n (l.1 + 1, l.2) else s.count F.HIF_BADACC_CNT_COUNT)
  refine ⟨u, wrote, run.trans ?_⟩
  dsimp only
  rw [wrote.levels]

/-- The access of a port moves no engine. -/
theorem State.touch_nib (p : Port) (m : Nat) (s : State) : (s.touch p).nib m = s.nib m :=
  congrArg (fun l : List Nib => l.getD m Nib.initial) (State.touch_frame p s .nibs (by decide))

theorem State.touch_nibPresent (p : Port) (m : Nat) (s : State) : (s.touch p).nibPresent m = s.nibPresent m :=
  congrArg (fun x : Part => decide (m < x.nibs)) (State.touch_frame p s .part (by decide))

theorem State.touch_fifoLevels (p : Port) (m : Nat) (s : State) : (s.touch p).fifoLevels m = s.fifoLevels m := by
  unfold State.fifoLevels
  rw [State.touch_regs, State.touch_nib]

theorem State.touch_nibs_length (p : Port) (s : State) : (s.touch p).nibs.length = s.nibs.length :=
  congrArg List.length (State.touch_frame p s .nibs (by decide))

/-- What an engine's step at a port's access leaves. -/
theorem State.nibTo.touched (k : (s.touch p).nibTo n x t) :
    t.nib n = x ∧ (∀ m, m ≠ n → t.nib m = s.nib m) ∧ s.onlyWords t [] ∧ s.onlyIn t [.regs, .sec, .nibs] := by
  have words := k.words
  refine ⟨k.nib, fun m other => (k.others m other).trans (State.touch_nib p m s), ?_,
    Frame.trans (Frame.mono (State.touch_frame p s) (by decide)) (Frame.mono k.frame (by decide))⟩
  unfold State.onlyWords at words ⊢
  simp only [State.touch_regs, State.touch_word] at words
  exact words

/-- A read of NIB_RX takes the oldest word. -/
theorem exec_nibRxRead {w : Word} {l : List Word} (ho : s.portOpen = true) (present : s.nibPresent n = true) (holds : (s.nib n).rx = w :: l)
    (room : (s.fifoLevels n).2 ≠ 0) :
    exec (.nibRxRead p n) s
      = .next ((((s.touch p).modNib n (fun x => { x with rx := l })).fifoNote n ((s.fifoLevels n).1, (s.fifoLevels n).2 - 1)).answer w.toNat) := by
  refine congrArg Host.Outcome.next ((State.onRead_of_open ho _).trans ?_)
  dsimp only
  rw [State.touch_nibPresent, State.touch_nib, State.touch_fifoLevels, present, holds]
  exact if_neg room

/-! The program (R374, R375) -/

theorem assocGet_assocPut_other {α : Type} {k b : Nat} (other : b ≠ k) (v : α) (l : List (Nat × α)) : assocGet b (assocPut k v l) = assocGet b l := by
  induction l with
  | nil => simp [assocPut, assocGet, other]
  | cons e l ih =>
    obtain ⟨j, w⟩ := e
    unfold assocPut
    split
    · simp [assocGet, other]
    · split
      · rename_i same
        subst same
        simp [assocGet, other]
      · simp [assocGet, ih]

/-- What stands on in the present fabric cycle is not moved by a write that has been noted. -/
theorem State.wordAsWas_putBoth (tb : s.clk.tbRun = true) (a b role : Nat) (v : Word) : (s.putBoth a v role).wordAsWas b = s.wordAsWas b := by
  have host : (s.putBoth a v role).regs.same.host = assocPut a (s.wordAsWas a) s.regs.same.host := by
    unfold State.putBoth State.markDirty State.putShadow State.putWord State.noteHost State.inCycle
    dsimp only
    rw [if_pos tb]
    rfl
  unfold State.wordAsWas at host ⊢
  rw [host]
  by_cases same : b = a
  · rw [same, assocGet_assocPut_same]
    rfl
  · rw [assocGet_assocPut_other same]
    exact congrArg (Option.getD _) (congrArg (Option.getD · _) (WMap.find_put_other same _ _))

theorem State.wordAsWas_set {f : Fld} {k b : Nat} (other : b ≠ f.a) : (s.set f k).wordAsWas b = s.wordAsWas b := by
  have host : (s.set f k).regs.same.host = s.regs.same.host := by
    unfold State.set State.putWord State.noteHw State.inCycle
    dsimp only
    split <;> rfl
  unfold State.wordAsWas
  rw [host]
  exact congrArg (Option.getD _) (congrArg (Option.getD · _) (WMap.find_put_other other _ _))

theorem State.putBoth_word {a b : Nat} (wf : s.regs.live.wf = true) (v : Word) (role : Nat) :
    (s.putBoth a v role).word b = if b = a then v else s.word b := WMap.word_put _ _ _ _ wf

theorem State.putBoth_shadowWord {a b : Nat} (wf : s.regs.shadow.wf = true) (v : Word) (role : Nat) :
    (s.putBoth a v role).shadowWord b = if b = a then v else s.shadowWord b := WMap.word_put _ _ _ _ wf

theorem strokeAddr_ne (n i j : Nat) (m : Nat) (small : m < 8) : strokeAddr n i j ≠ R.NIB_SIDX m := by
  unfold strokeAddr R.NIB_SIDX
  omega

theorem strokeAddr_halves (n i : Nat) : strokeAddr n i 0 ≠ strokeAddr n i 1 := by
  unfold strokeAddr
  omega

/-- Both halves of the stroke at index i are written. -/
def State.strokePut (n i role : Nat) (lo hi : Word) (s : State) : State := (s.putBoth (strokeAddr n i 0) lo role).putBoth (strokeAddr n i 1) hi role

/-- What an installer's write of a whole stroke leaves. -/
theorem State.strokePut_settles (hok : s.ok) (small : n < 8) (i role : Nat) (lo hi : Word) :
    let t := (s.strokePut n i role lo hi).sidxAdvance n
    t.word (strokeAddr n i 0) = lo ∧ t.word (strokeAddr n i 1) = hi ∧ (s.clk.tbRun = true → t.strokeAt n i = s.strokeAt n i)
      ∧ t.shadowWord (strokeAddr n i 0) = lo ∧ t.shadowWord (strokeAddr n i 1) = hi
      ∧ t.get (F.NIB_SIDX_IDX n) = (s.get (F.NIB_SIDX_IDX n) + 1) % 64 ∧ t.regs.image = s.regs.image ∧ s.onlyIn t [.regs] := by
  have first : Kept s (s.putBoth (strokeAddr n i 0) lo role) := Kept.putBoth _ _ _ _ (Kept.refl hok)
  have both : Kept s (s.strokePut n i role lo hi) := Kept.putBoth _ _ _ _ first
  have word (b : Nat) : (s.strokePut n i role lo hi).word b = if b = strokeAddr n i 1 then hi else if b = strokeAddr n i 0 then lo else s.word b :=
    (State.putBoth_word first.regs.live _ _).trans (by rw [State.putBoth_word (Kept.refl hok).regs.live])
  have shadow (b : Nat) : (s.strokePut n i role lo hi).shadowWord b
      = if b = strokeAddr n i 1 then hi else if b = strokeAddr n i 0 then lo else s.shadowWord b :=
    (State.putBoth_shadowWord first.regs.shadow _ _).trans (by rw [State.putBoth_shadowWord (Kept.refl hok).regs.shadow])
  have clk : (s.putBoth (strokeAddr n i 0) lo role).clk = s.clk := Frame.putBoth _ _ _ _ (Frame.refl s [.regs]) (by decide) .clk (by decide)
  have asWas (tb : s.clk.tbRun = true) (b : Nat) : (s.strokePut n i role lo hi).wordAsWas b = s.wordAsWas b :=
    (State.wordAsWas_putBoth (s := s.putBoth (strokeAddr n i 0) lo role) ((congrArg Clk.tbRun clk).trans tb) _ _ _ _).trans
      (State.wordAsWas_putBoth tb _ _ _ _)
  have frame : s.onlyIn (s.strokePut n i role lo hi) [.regs] :=
    Frame.putBoth _ _ _ _ (Frame.putBoth _ _ _ _ (Frame.refl s _) (by decide)) (by decide)
  have image := both.regs.image
  have live := both.regs.live
  have index : (s.strokePut n i role lo hi).get (F.NIB_SIDX_IDX n) = s.get (F.NIB_SIDX_IDX n) := by
    unfold State.get
    rw [word, if_neg (strokeAddr_ne n i 1 n small).symm, if_neg (strokeAddr_ne n i 0 n small).symm]
  generalize s.strokePut n i role lo hi = u at both word shadow asWas frame image live index
  have other (j : Nat) : strokeAddr n i j ≠ (F.NIB_SIDX_IDX n).a := strokeAddr_ne n i j n small
  unfold State.sidxAdvance
  refine ⟨?_, ?_, fun tb => ?_, ?_, ?_, ?_, image, Frame.set _ _ _ frame (by decide)⟩
  · rw [State.word_set_other _ _ _ _ live (other 0), word, if_neg (strokeAddr_halves n i), if_pos rfl]
  · rw [State.word_set_other _ _ _ _ live (other 1), word, if_pos rfl]
  · unfold State.strokeAt
    rw [State.wordAsWas_set (other 0), State.wordAsWas_set (other 1), asWas tb, asWas tb]
  · exact (shadow _).trans ((if_neg (strokeAddr_halves n i)).trans (if_pos rfl))
  · exact (shadow _).trans (if_pos rfl)
  · rw [State.get_set _ _ _ live (by dsimp only; omega), index]
    exact Nat.mod_mod _ 64

/-! The margins (R376) -/

/-- The legal bits of the margins keep their fields. -/
theorem marginBits (v : Word) {lo : Nat} (at' : lo = 0 ∨ lo = 8) : (Word.ofN (v.toNat &&& 0x3F3F3F)).bits lo 6 = v.bits lo 6 := by
  have small : v.toNat &&& 0x3F3F3F < 2 ^ 32 := Nat.lt_of_le_of_lt Nat.and_le_right (by decide)
  have word : (Word.ofN (v.toNat &&& 0x3F3F3F)).toNat = v.toNat &&& 0x3F3F3F := by
    unfold Word.ofN
    rw [BitVec.toNat_ofNat, Nat.mod_eq_of_lt small]
  unfold Word.bits
  rw [word]
  refine Nat.eq_of_testBit_eq fun i => ?_
  rw [Nat.testBit_mod_two_pow, Nat.testBit_mod_two_pow, Nat.testBit_shiftRight, Nat.testBit_shiftRight, Nat.testBit_and]
  by_cases low : i < 6
  · have set : Nat.testBit 0x3F3F3F (lo + i) = true := by
      obtain rfl | rfl := at' <;> interval_cases i <;> rfl
    rw [set, Bool.and_true]
  · simp [low]

/-- An installer's write of legal margins. -/
theorem State.marginSet_installer (role : 1 ≤ s.roleOf p) (legal : v.bits 0 6 ≤ v.bits 8 6) :
    s.marginSet p n v
      = let u := s.putBoth (R.NIB_MARGIN n) (Word.ofN (v.toNat &&& 0x3F3F3F)) (s.roleOf p)
        if (u.nib n).run then u.modNib n (fun x => { x with mpend := true })
        else u.modNib n (fun x => { x with top := v.bits 0 6, bottom := v.bits 8 6, mpend := false }) := by
  have installer : s.isInstaller p = true := decide_eq_true role
  unfold State.marginSet
  rw [if_neg (Nat.not_lt.mpr legal), if_pos installer, marginBits v (.inl rfl), marginBits v (.inr rfl)]

end

/-- Settles O47: each write is followed through the port, and each acts on its engine alone. -/
theorem nibCommands : Obligations.NibCommands := by
  unfold Obligations.NibCommands
  refine ⟨?start, ?stop, ?resume, ?flush, ?sends, ?full, ?takes, ?stroke, ?latch, ?margins, ?crossed⟩
  case start =>
    intro p n v s hok ho mode
    have present := State.nibPresent_of_nibMode mode
    obtain ⟨u, run, wrote⟩ := State.nibWrite_settles (p := p) hok ho present 1 v
    have start : (v.toNat ||| 1).testBit 0 = true := (testBit_or_two_pow v.toNat 0 0).trans (by simp)
    obtain ⟨nib, others, frame⟩ := wrote.moves (State.nibCtrl_start (wrote.there hok present) (wrote.mode_ctrl.trans mode) start)
    refine ⟨_, congrArg Host.Outcome.next run, nib.trans ?_, others, frame⟩
    have entry : u.get (F.NIB_MARGIN_ENTRY n) = s.get (F.NIB_MARGIN_ENTRY n) :=
      wrote.get (by show R.NIB_MARGIN n ≠ R.NIB_CTRL n; unfold R.NIB_MARGIN R.NIB_CTRL; omega)
    unfold State.started
    rw [wrote.nib, wrote.now, entry]
  case stop =>
    intro p n v s hok ho present start resume flush
    obtain ⟨u, run, wrote⟩ := State.nibWrite_settles (p := p) hok ho present 2 v
    have bits (i : Nat) : (v.toNat ||| 2).testBit i = (v.bit i || decide (1 = i)) := testBit_or_two_pow v.toNat i 1
    obtain ⟨nib, others, frame⟩ := wrote.moves (State.nibCtrl_stop (wrote.there hok present)
      (by rw [bits, start]; rfl) (by rw [bits]; simp) (by rw [bits, resume]; rfl) (by rw [bits, flush]; rfl))
    rw [wrote.nib] at nib
    exact ⟨_, congrArg Host.Outcome.next run, nib, others, frame⟩
  case resume =>
    intro p n v s hok ho mode start stop flush
    have present := State.nibPresent_of_nibMode mode
    obtain ⟨u, run, wrote⟩ := State.nibWrite_settles (p := p) hok ho present 4 v
    have bits (i : Nat) : (v.toNat ||| 4).testBit i = (v.bit i || decide (2 = i)) := testBit_or_two_pow v.toNat i 2
    obtain ⟨nib, others, frame⟩ := wrote.moves (State.nibCtrl_resume (wrote.there hok present) (wrote.mode_ctrl.trans mode)
      (by rw [bits, start]; rfl) (by rw [bits, stop]; rfl) (by rw [bits]; simp) (by rw [bits, flush]; rfl))
    rw [wrote.nib, wrote.now] at nib
    exact ⟨_, congrArg Host.Outcome.next run, nib, others, frame⟩
  case flush =>
    intro p n v s hok ho present start stop resume
    obtain ⟨u, run, wrote⟩ := State.nibWrite_settles (p := p) hok ho present 8 v
    have bits (i : Nat) : (v.toNat ||| 8).testBit i = (v.bit i || decide (3 = i)) := testBit_or_two_pow v.toNat i 3
    obtain ⟨nib, others, frame⟩ := wrote.moves (State.nibCtrl_flush (wrote.there hok present)
      (by rw [bits, start]; rfl) (by rw [bits, stop]; rfl) (by rw [bits, resume]; rfl) (by rw [bits]; simp))
    rw [wrote.nib] at nib
    exact ⟨_, congrArg Host.Outcome.next run, nib, others, frame⟩
  case sends =>
    intro p n v s hok ho present room
    obtain ⟨u, wrote, run⟩ := State.txWrite_settles (p := p) hok ho present v
    rw [if_pos (show _ < nibFifo from room)] at run
    have sent : u.nibTo n { u.nib n with tx := (u.nib n).tx ++ [v] } (u.modNib n fun x => { x with tx := x.tx ++ [v] }) :=
      (State.nibTo.refl (wrote.there hok present)).modNib rfl
    obtain ⟨nib, others, frame⟩ := wrote.moves (sent.fifoNote ((s.fifoLevels n).1 + 1, (s.fifoLevels n).2))
    rw [wrote.nib] at nib
    exact ⟨_, congrArg Host.Outcome.next run, nib, others, frame⟩
  case full =>
    intro p n v s hok ho present full
    obtain ⟨u, wrote, run⟩ := State.txWrite_settles (p := p) hok ho present v
    rw [if_neg (show ¬_ < nibFifo from Nat.not_lt.mpr full)] at run
    have before : u.get F.HIF_BADACC_CNT_COUNT = s.get F.HIF_BADACC_CNT_COUNT :=
      wrote.get (by show R.HIF_BADACC_CNT ≠ R.NIB_TX n; unfold R.HIF_BADACC_CNT R.NIB_TX; omega)
    refine ⟨_, congrArg Host.Outcome.next run, (State.get_count _ _ wrote.kept.regs.live (by decide)).trans (by rw [before]; rfl), ?_⟩
    exact Frame.count _ _ (Frame.mono wrote.frame (by decide)) (by decide)
  case takes =>
    intro p n w l s hok ho present holds room
    have there : n < (s.touch p).nibs.length := (State.nib_there hok present).trans_eq (State.touch_nibs_length p s).symm
    have taken : (s.touch p).nibTo n { (s.touch p).nib n with rx := l } ((s.touch p).modNib n fun x => { x with rx := l }) :=
      (State.nibTo.refl there).modNib rfl
    obtain ⟨nib, others, words, frame⟩ := (taken.fifoNote ((s.fifoLevels n).1, (s.fifoLevels n).2 - 1)).touched
    rw [State.touch_nib] at nib
    exact ⟨_, exec_nibRxRead ho present holds room, rfl, nib, others, words, Frame.with_ans (Frame.mono frame (by decide)) (by decide)⟩
  case stroke =>
    intro p n v s hok ho present role
    have touchedOk : (s.touch p).ok := (Kept.touch s p (Kept.refl hok)).ok
    have installer : (s.touch p).isInstaller p = true := (State.touch_isInstaller _ _ _).trans (decide_eq_true role)
    have run : exec (.strokeWrite p n v) s
        = .next (((s.touch p).strokePut n ((s.touch p).get (F.NIB_SIDX_IDX n)) ((s.touch p).roleOf p) ((s.touch p).nib n).loHold v).sidxAdvance n) := by
      refine congrArg Host.Outcome.next ((State.onWrite_of_open ho _).trans ((if_pos ((State.touch_nibPresent p n s).trans present)).trans ?_))
      unfold State.strokeHi
      dsimp only
      rw [if_pos installer]
      rfl
    obtain ⟨lo, hi, was, shadowLo, shadowHi, index, image, frame⟩ := State.strokePut_settles touchedOk (State.nibPresent_lt present)
      ((s.touch p).get (F.NIB_SIDX_IDX n)) ((s.touch p).roleOf p) ((s.touch p).nib n).loHold v
    have touched := State.touch_frame p s
    have clk : (s.touch p).clk = s.clk := touched .clk (by decide)
    have before : (s.touch p).strokeAt n (s.get (F.NIB_SIDX_IDX n)) = s.strokeAt n (s.get (F.NIB_SIDX_IDX n)) := by
      unfold State.strokeAt State.wordAsWas
      simp only [State.touch_regs, State.touch_word]
    rw [State.touch_get, State.touch_nib] at run lo hi was shadowLo shadowHi index image frame
    generalize State.sidxAdvance n _ = t at run lo hi was shadowLo shadowHi index image frame
    exact ⟨t, run, lo, hi, fun tb => (was ((congrArg Clk.tbRun clk).trans tb)).trans before, shadowLo, shadowHi, index, image.trans (by rw [State.touch_regs]),
      Frame.trans (Frame.mono touched (by decide)) (Frame.mono frame (by decide))⟩
  case latch =>
    intro p n s hok ho present
    have run : exec (.strokeReadLatch p n) s
        = .next (((s.touch p).modNib n fun x => { x with hiLatch := (s.touch p).word (strokeAddr n ((s.touch p).get (F.NIB_SIDX_IDX n)) 1) }).answer
            ((s.touch p).word (strokeAddr n ((s.touch p).get (F.NIB_SIDX_IDX n)) 0)).toNat) := by
      refine congrArg Host.Outcome.next ((State.onRead_of_open ho _).trans ((if_neg ?_).trans rfl))
      rw [State.touch_nibPresent, present]
      decide
    rw [State.touch_get, State.touch_word, State.touch_word] at run
    have there : n < (s.touch p).nibs.length := (State.nib_there hok present).trans_eq (State.touch_nibs_length p s).symm
    have latched : (s.touch p).nibTo n { (s.touch p).nib n with hiLatch := s.word (strokeAddr n (s.get (F.NIB_SIDX_IDX n)) 1) }
        ((s.touch p).modNib n fun x => { x with hiLatch := s.word (strokeAddr n (s.get (F.NIB_SIDX_IDX n)) 1) }) := (State.nibTo.refl there).modNib rfl
    have nib := latched.nib
    rw [State.touch_nib] at nib
    exact ⟨_, run, rfl, nib, Frame.with_ans (Frame.with_nibs (Frame.mono (State.touch_frame p s) (by decide)) (by decide)) (by decide)⟩
  case margins =>
    intro p n v s hok ho present role legal
    have run : exec (.marginWrite p n v) s = .next ((s.touch p).marginSet p n v) :=
      congrArg Host.Outcome.next ((State.onWrite_of_open ho _).trans (if_pos ((State.touch_nibPresent p n s).trans present)))
    rw [State.marginSet_installer (by rw [State.touch_roleOf]; exact role) legal] at run
    have kept := Kept.touch s p (Kept.refl hok)
    have word := State.putBoth_word (s := s.touch p) (a := R.NIB_MARGIN n) (b := R.NIB_MARGIN n) kept.regs.live (Word.ofN (v.toNat &&& 0x3F3F3F))
      ((s.touch p).roleOf p)
    have shadow := State.putBoth_shadowWord (s := s.touch p) (a := R.NIB_MARGIN n) (b := R.NIB_MARGIN n) kept.regs.shadow
      (Word.ofN (v.toNat &&& 0x3F3F3F)) ((s.touch p).roleOf p)
    have frame : s.onlyIn ((s.touch p).putBoth (R.NIB_MARGIN n) (Word.ofN (v.toNat &&& 0x3F3F3F)) ((s.touch p).roleOf p)) [.regs, .sec] :=
      Frame.putBoth _ _ _ _ (Frame.mono (State.touch_frame p s) (by decide)) (by decide)
    dsimp only at run
    generalize (s.touch p).putBoth (R.NIB_MARGIN n) (Word.ofN (v.toNat &&& 0x3F3F3F)) ((s.touch p).roleOf p) = u at run word shadow frame
    have nibs : u.nibs = s.nibs := frame .nibs (by decide)
    have nib (m : Nat) : u.nib m = s.nib m := congrArg (fun l : List Nib => l.getD m Nib.initial) nibs
    have there : n < u.nibs.length := (State.nib_there hok present).trans_eq (congrArg List.length nibs).symm
    rw [if_pos rfl] at word shadow
    rw [nib] at run
    cases runs : (s.nib n).run with
    | true =>
      rw [runs, if_pos rfl] at run
      have ends : u.nibTo n { u.nib n with mpend := true } (u.modNib n fun x => { x with mpend := true }) := (State.nibTo.refl there).modNib rfl
      have mine := ends.nib
      rw [nib] at mine
      exact ⟨_, run, word, shadow, fun _ => mine, fun h => absurd h (by decide), fun m other => (ends.others m other).trans (nib m),
        Frame.modNib _ _ _ (Frame.mono frame (by decide)) (by decide)⟩
    | false =>
      rw [runs, if_neg (by decide)] at run
      have ends : u.nibTo n { u.nib n with top := v.bits 0 6, bottom := v.bits 8 6, mpend := false }
          (u.modNib n fun x => { x with top := v.bits 0 6, bottom := v.bits 8 6, mpend := false }) := (State.nibTo.refl there).modNib rfl
      have mine := ends.nib
      rw [nib] at mine
      exact ⟨_, run, word, shadow, fun h => absurd h (by decide), fun _ => mine, fun m other => (ends.others m other).trans (nib m),
        Frame.modNib _ _ _ (Frame.mono frame (by decide)) (by decide)⟩
  case crossed =>
    intro p n v s hok ho present crossed
    have run : exec (.marginWrite p n v) s = .next ((s.touch p).count F.HIF_BADACC_CNT_COUNT) :=
      congrArg Host.Outcome.next ((State.onWrite_of_open ho _).trans ((if_pos ((State.touch_nibPresent p n s).trans present)).trans (if_pos crossed)))
    have counted := State.onlyWords_count (s.touch p) F.HIF_BADACC_CNT_COUNT
    refine ⟨_, run, ?_, ?_, Frame.count _ _ (Frame.mono (State.touch_frame p s) (by decide)) (by decide)⟩
    · exact (State.get_count _ _ (Kept.touch s p (Kept.refl hok)).regs.live (by decide)).trans (by rw [State.touch_get]; rfl)
    · unfold State.onlyWords at counted ⊢
      simp only [State.touch_regs, State.touch_word] at counted
      exact counted

end Sys2Proof.Machine
end

section
/-! PROOFS. No effect of a COMMIT is a word of the host, and none makes the device wait for a command (R173, R268). -/

namespace Sys2Proof.Machine

section
variable {o s t : State}

/-- Every part of a state but the host interface's. -/
def noHost : List Piece :=
  [.part, .clk, .regs, .sys, .evc, .sec, .whl, .ang, .sch, .banks, .quads, .edges, .ink, .grds, .adc, .cmps, .tmrs, .nibs, .tst, .slur, .jtag, .ans,
    .freeCtr, .pending]

theorem HostQuiet.without (h : HostQuiet o s) (k : s.onlyIn t noHost) : HostQuiet o t := h.frame k (by decide)

theorem HostQuiet.with_sys {x : Sys} (h : HostQuiet o s) : HostQuiet o { s with sys := x } := ⟨h.heard, h.held⟩

theorem HostQuiet.with_adc {x : Adc} (h : HostQuiet o s) : HostQuiet o { s with adc := x } := ⟨h.heard, h.held⟩

theorem HostQuiet.with_sch {x : Sch} (h : HostQuiet o s) : HostQuiet o { s with sch := x } := ⟨h.heard, h.held⟩

theorem HostQuiet.with_ink {x : Ink} (h : HostQuiet o s) : HostQuiet o { s with ink := x } := ⟨h.heard, h.held⟩

theorem HostQuiet.with_hif {x : Hif} (h : HostQuiet o s) (heard : x.heardAt = s.hif.heardAt) (held : x.mqHeld = s.hif.mqHeld) :
    HostQuiet o { s with hif := x } := ⟨heard.trans h.heard, held.trans h.held⟩

theorem HostQuiet.modStore (h : HostQuiet o s) (f : Event → Event) : HostQuiet o (s.modStore f) := ⟨h.heard, h.held⟩

theorem HostQuiet.modEvent (h : HostQuiet o s) (id : Nat) (f : Event → Event) : HostQuiet o (s.modEvent id f) := ⟨h.heard, h.held⟩

theorem HostQuiet.modQuad (h : HostQuiet o s) (q : Nat) (f : Quad → Quad) : HostQuiet o (s.modQuad q f) := ⟨h.heard, h.held⟩

theorem HostQuiet.modChan (h : HostQuiet o s) (n : Nat) (f : Chan → Chan) : HostQuiet o (s.modChan n f) := ⟨h.heard, h.held⟩

/-! Operations that leave the host interface alone -/

theorem HostQuiet.leaveArmed (h : HostQuiet o s) : HostQuiet o (State.leaveArmed s) :=
  h.without (Frame.leaveArmed _ (Frame.refl s noHost) (by decide) (by decide) (by decide) (by decide) (by decide) (by decide) (by decide))

theorem HostQuiet.safeSeen (h : HostQuiet o s) (c : Nat) : HostQuiet o (State.safeSeen c s) :=
  h.without (Frame.safeSeen _ _ (Frame.refl s noHost) (by decide))

theorem HostQuiet.safeActive (h : HostQuiet o s) (c : Nat) : HostQuiet o (State.safeActive c s) :=
  h.without (Frame.safeActive _ _ (Frame.refl s noHost) (by decide))

theorem HostQuiet.killLog (h : HostQuiet o s) (n : Nat) (level : Bool) (f : Event → Event) : HostQuiet o (State.killLog n level f s) :=
  h.without (Frame.killLog _ _ _ _ (Frame.refl s noHost) (by decide) (by decide))

theorem HostQuiet.allToWaiting (h : HostQuiet o s) : HostQuiet o (State.allToWaiting s) :=
  h.without (Frame.allToWaiting _ (Frame.refl s noHost) (by decide) (by decide))

theorem HostQuiet.holdWaiting (h : HostQuiet o s) : HostQuiet o (State.holdWaiting s) :=
  h.without (Frame.holdWaiting _ (Frame.refl s noHost) (by decide))

theorem HostQuiet.setMode (h : HostQuiet o s) (m : Mode) : HostQuiet o (State.setMode s m) :=
  h.without (Frame.setMode _ _ (Frame.refl s noHost) (by decide) (by decide))

theorem HostQuiet.nibsLeave (h : HostQuiet o s) (p : Nat → Bool) : HostQuiet o (State.nibsLeave p s) :=
  h.without (Frame.nibsLeave _ _ (Frame.refl s noHost) (by decide))

theorem HostQuiet.raise (h : HostQuiet o s) (n : Nat) : HostQuiet o (State.raise n s) :=
  h.without (Frame.raise _ _ (Frame.refl s noHost) (by decide) (by decide))

theorem HostQuiet.beginTraining (h : HostQuiet o s) : HostQuiet o (State.beginTraining s) :=
  h.without (Frame.beginTraining _ (Frame.refl s noHost) (by decide) (by decide))

theorem HostQuiet.endClamp (h : HostQuiet o s) : HostQuiet o (State.endClamp s) :=
  h.without (Frame.endClamp _ (Frame.refl s noHost) (by decide) (by decide))

theorem HostQuiet.endCoast (h : HostQuiet o s) : HostQuiet o (State.endCoast s) :=
  h.without (Frame.endCoast _ (Frame.refl s noHost) (by decide))

theorem HostQuiet.startCoast (h : HostQuiet o s) : HostQuiet o (State.startCoast s) :=
  h.without (Frame.startCoast _ (Frame.refl s noHost) (by decide))

theorem HostQuiet.seekFrom (h : HostQuiet o s) (t : Option Tb) : HostQuiet o (State.seekFrom t s) :=
  h.without (Frame.seekFrom _ _ (Frame.refl s noHost) (by decide))

theorem HostQuiet.dropEvent (h : HostQuiet o s) (id : Nat) : HostQuiet o (State.dropEvent s id) :=
  h.without (Frame.dropEvent _ _ (Frame.refl s noHost) (by decide) (by decide))

theorem HostQuiet.boostFresh (h : HostQuiet o s) : HostQuiet o (State.boostFresh s) :=
  h.without (Frame.boostFresh _ (Frame.refl s noHost) (by decide))

theorem HostQuiet.newMode (h : HostQuiet o s) (n : Nat) : HostQuiet o (State.newMode n s) :=
  h.without (Frame.newMode _ _ (Frame.refl s noHost) (by decide))

theorem HostQuiet.logIdle (h : HostQuiet o s) (n : Nat) : HostQuiet o (State.logIdle n s) :=
  h.without (Frame.logIdle _ _ (Frame.refl s noHost) (by decide))

theorem HostQuiet.commitPhrases (h : HostQuiet o s) (old : WMap) (q : Nat) : HostQuiet o (State.commitPhrases old q s) :=
  h.without (Frame.commitPhrases _ _ _ (Frame.refl s noHost) (by decide) (by decide))

theorem HostQuiet.commitSeq (h : HostQuiet o s) (old : WMap) : HostQuiet o (State.commitSeq old s) :=
  h.without (Frame.commitSeq _ _ (Frame.refl s noHost) (by decide) (by decide))

theorem HostQuiet.commitNib (h : HostQuiet o s) (old : WMap) (n : Nat) : HostQuiet o (State.commitNib old n s) :=
  h.without (Frame.commitNib _ _ _ (Frame.refl s noHost) (by decide) (by decide) (by decide))

theorem HostQuiet.commitTimers (h : HostQuiet o s) (old : WMap) : HostQuiet o (State.commitTimers old s) :=
  h.without (Frame.commitTimers _ _ (Frame.refl s noHost) (by decide) (by decide))

theorem HostQuiet.levelsSettle (h : HostQuiet o s) : HostQuiet o (State.levelsSettle s) :=
  h.without (Frame.levelsSettle _ (Frame.refl s noHost) (by decide) (by decide))

theorem HostQuiet.tqChanged (h : HostQuiet o s) (t : Nat) : HostQuiet o (State.tqChanged t s) :=
  h.without (Frame.tqChanged _ _ (Frame.refl s noHost) (by decide) (by decide))

theorem HostQuiet.dropGates (h : HostQuiet o s) (b t : Nat) : HostQuiet o (State.dropGates b t s) :=
  h.without (Frame.dropGates _ _ _ (Frame.refl s noHost) (by decide) (by decide) (by decide) (by decide))

theorem HostQuiet.releaseToken (h : HostQuiet o s) (b t : Nat) : HostQuiet o (State.releaseToken b t s) :=
  h.without (Frame.releaseToken _ _ _ (Frame.refl s noHost) (by decide) (by decide) (by decide) (by decide))

theorem HostQuiet.freeThread (h : HostQuiet o s) (b t : Nat) : HostQuiet o (State.freeThread b t s) :=
  h.without (Frame.freeThread _ _ _ (Frame.refl s noHost) (by decide) (by decide))

theorem HostQuiet.rearmDev (h : HostQuiet o s) : HostQuiet o (State.rearmDev s) :=
  h.without (Frame.rearmDev _ (Frame.refl s noHost) (by decide))

/-! The windows (R327 to R331) -/

theorem HostQuiet.openWin (h : HostQuiet o s) (t : Nat) : HostQuiet o (s.openWin t) := by
  unfold State.openWin
  exact .ite (h.of_hif rfl) h

theorem HostQuiet.openAll (h : HostQuiet o s) (p : Nat → Bool) : HostQuiet o (s.openAll p) := h.frame (State.openAll_frame p s) (by decide)

theorem HostQuiet.stageTele (h : HostQuiet o s) (n : Nat) (words : List Word) (ev : Option Nat) (trk : Bool) :
    HostQuiet o (s.stageTele n words ev trk) := by
  unfold State.stageTele
  exact .ite ⟨h.heard, h.held⟩ (h.lose _ _)

theorem HostQuiet.stageClose (h : HostQuiet o s) (t : Nat) (x : Shut) : HostQuiet o (s.stageClose t x) := by
  unfold State.stageClose
  exact .ite h (.ite (h.lose _ _) (h.with_adc.stageTele _ _ _ _))

theorem HostQuiet.reshut (h : HostQuiet o s) (t : Nat) (x y : Shut) : HostQuiet o (s.reshut t x y) := by
  have noted : HostQuiet o (s.inCycle fun m => { m with shut := assocPut t y m.shut }) := h.of_hif rfl
  unfold State.reshut
  exact .ite ⟨noted.heard, noted.held⟩ (noted.stageClose _ _)

theorem HostQuiet.setWin (h : HostQuiet o s) (t : Nat) (w : Win) : HostQuiet o (s.setWin t w) := h.of_hif rfl

theorem HostQuiet.closeWin (h : HostQuiet o s) (t c : Nat) (ev : Option Nat) (reopen : Bool) : HostQuiet o (s.closeWin t c ev reopen) := by
  have shut (y : Option Shut) : HostQuiet o (match y with
      | some y => if c < y.cause then s.reshut t y { y with cause := c, tag := (s.shutOf t c ev).tag, ev := ev } else s
      | none => (s.stageClose t (s.shutOf t c ev)).inCycle (fun m => { m with shut := assocPut t (s.shutOf t c ev) m.shut })) := by
    cases y with
    | some y => exact .ite (h.reshut _ _ _) h
    | none => exact (h.stageClose _ _).of_hif rfl
  unfold State.closeWin
  dsimp only
  refine .ite ?_ h
  exact .ite (.openWin ((shut _).setWin _ _) _) ((shut _).setWin _ _)

theorem HostQuiet.closeAll (h : HostQuiet o s) (c : Nat) (reopen : Bool) (p : Nat → Bool) : HostQuiet o (s.closeAll c reopen p) := by
  unfold State.closeAll
  exact h.foldl fun _ _ k => .ite (k.closeWin _ _ _ _) k

theorem HostQuiet.closeThreadWins (h : HostQuiet o s) (b t : Nat) : HostQuiet o (s.closeThreadWins b t) := by
  unfold State.closeThreadWins
  exact .of_hif (h.foldl fun _ _ k => .ite (k.closeWin _ _ _ _) k) rfl

/-! SAFESTOP and the fallback (R405, R416) -/

theorem HostQuiet.killThread (h : HostQuiet o s) (b t : Nat) (f : Event → Event) : HostQuiet o (s.killThread b t f) := by
  unfold State.killThread
  exact .ite (((((h.dropGates b t).releaseToken b t).closeThreadWins b t).modStore _).freeThread b t) h

theorem HostQuiet.killAll (h : HostQuiet o s) (f : Event → Event) : HostQuiet o (s.killAll f) := by
  have banks : HostQuiet o (s.killBanks (fun _ => true) f) := by
    unfold State.killBanks
    exact h.foldl fun _ _ k => .ite ((k.killThread _ _ _).killThread _ _ _) k
  have logs : HostQuiet o ((upTo 96).foldl (fun (s : State) n => s.killLog n false f) (s.killBanks (fun _ => true) f)) :=
    banks.foldl fun _ _ k => k.killLog _ _ _
  have down {u : State} (k : HostQuiet o u) : HostQuiet o u.gatesDown := ⟨k.heard, k.held⟩
  rw [State.killAll_eq]
  exact down logs

theorem HostQuiet.safestop (h : HostQuiet o s) (c : Nat) : HostQuiet o (s.safestop c) := by
  by_cases engine : s.sys.mode.engine = true
  · have halted : HostQuiet o ((s.leaveArmed.safeSeen c).safeActive c).halted :=
      ((((h.leaveArmed.safeSeen c).safeActive c).killAll markOc).allToWaiting).holdWaiting
    rw [State.safestop_eq c engine]
    exact .alarm (halted.frame (State.stopped_frame c _) (by decide)) _ _ _ _
  · unfold State.safestop
    rw [if_neg engine]
    exact .ite ((h.safeSeen c).safeActive c) (.ite (h.safeSeen c) h)

theorem HostQuiet.fallbackNow (h : HostQuiet o s) (c : Nat) : HostQuiet o (s.fallbackNow c) := by
  have noted : HostQuiet o { s with sys := { s.sys with fbPend := false, fbCause := c } } := h.with_sys
  unfold State.fallbackNow
  refine .ite (.ite noted (.alarm ?_ _ _ _ _)) (noted.safestop 5)
  exact h.with_sys

/-! The tracker (R43, Table 2.3) -/

theorem HostQuiet.followSync (h : HostQuiet o s) : HostQuiet o s.followSync := by
  have left : HostQuiet o (if s.whl.sync.mode = .armed then s else { s.leaveArmed with sys := { s.leaveArmed.sys with sleep := none } }) :=
    .ite h (h.leaveArmed.with_sys)
  unfold State.followSync
  dsimp only
  refine .ite ?_ h
  generalize (if s.whl.sync.mode = .armed then s else { s.leaveArmed with sys := { s.leaveArmed.sys with sleep := none } }) = u at left ⊢
  have fresh : HostQuiet o (if s.whl.sync.mode = .armed ∧ s.sys.mode ≠ .armed then (u.setMode s.whl.sync.mode).boostFresh else u.setMode s.whl.sync.mode) :=
    .ite (left.setMode _).boostFresh (left.setMode _)
  exact .ite (.fallbackNow fresh.holdWaiting _) fresh.holdWaiting

theorem HostQuiet.pushResult (h : HostQuiet o s) (cq : Nat) (words : List Word) : HostQuiet o (s.pushResult cq words) := ⟨h.heard, h.held⟩

theorem HostQuiet.watchStore (h : HostQuiet o s) : HostQuiet o s.watchStore := by
  unfold State.watchStore
  extract_lets f low res before normal after
  have atLow : HostQuiet o low := .ite (h.of_hif rfl) h
  clear_value low
  have atNormal : HostQuiet o normal := by
    unfold normal before
    refine .ite (.alarm ?_ _ _ _ _) (.ite (.alarm ?_ _ _ _ _) atLow)
    · exact atLow.with_hif rfl rfl
    · exact atLow.with_hif rfl rfl
  clear_value normal
  unfold after
  refine .ite (.alarm ?_ _ _ _ _) (.ite (.alarm ?_ _ _ _ _) atNormal)
  · exact atNormal.with_hif rfl rfl
  · exact atNormal.with_hif rfl rfl

theorem HostQuiet.refuse (h : HostQuiet o s) (e : Event) (code : Nat) : HostQuiet o (s.refuse e code) := by
  have released : HostQuiet o (s.unreserve e.id) := h.of_hif rfl
  unfold State.refuse State.short
  exact .ite (.watchStore (.dropEvent (.ite (released.pushResult _ _) released) _)) (released.modEvent _ _)

theorem HostQuiet.syncLoss (h : HostQuiet o s) : HostQuiet o s.syncLoss := by
  unfold State.syncLoss
  exact .ite (h.allToWaiting.foldl fun _ _ k => k.refuse _ _) h.allToWaiting.with_sch

theorem HostQuiet.syncAs (h : HostQuiet o s) (quiet : Bool) (dst : Sync) (input : Nat) (t : Tb) : HostQuiet o (s.syncAs quiet dst input t) := by
  unfold State.syncAs
  extract_lets frm ran pos whl moved stops told lost lostWhl idle closed doubted sure synced levelled judged opened ang reset traced
  have atMoved : HostQuiet o moved := ⟨h.heard, h.held⟩
  have atTold : HostQuiet o told := .ite atMoved ((atMoved.alarm _ _ _ _).raise _)
  have atLost : HostQuiet o lost := atTold.endClamp.syncLoss
  clear_value lost
  have atIdle : HostQuiet o idle := ⟨atLost.heard, atLost.held⟩
  have atClosed : HostQuiet o closed := .ite (atIdle.closeAll _ _ _) atMoved
  have atDoubted : HostQuiet o doubted := .ite (atClosed.raise _).startCoast atClosed
  have atSure : HostQuiet o sure := .ite atDoubted.endCoast atDoubted
  have atSynced : HostQuiet o synced := .ite (atSure.raise _) atSure
  have atLevelled : HostQuiet o levelled := .ite (atSynced.raise _) atSynced
  have atOpened : HostQuiet o opened := .ite ((atLevelled.modStore _).openAll _) atLevelled
  clear_value opened
  have atReset : HostQuiet o reset := ⟨atOpened.heard, atOpened.held⟩
  exact .ite h (atReset.trace _ _ _ _ _ _).followSync

theorem HostQuiet.slurLost (h : HostQuiet o s) : HostQuiet o s.slurLost := by
  have synced (u : State) (k : HostQuiet o u) : HostQuiet o (u.slurSync false .suspect u.now) := by
    have drawn : HostQuiet o u.draw.2 := k.without (Frame.draw _ (Frame.refl u noHost) (by decide))
    unfold State.slurSync
    exact drawn.syncAs _ _ _ _
  unfold State.slurLost
  extract_lets since counted lost told
  have atCounted : HostQuiet o counted := h.count _
  have atLost : HostQuiet o lost := .ite (synced _ atCounted) atCounted
  have atTold : HostQuiet o told := (atLost.raise _).alarm _ _ _ _
  exact .beginTraining (.of_hif atTold rfl)

theorem HostQuiet.syncResetNow (h : HostQuiet o s) : HostQuiet o s.syncResetNow := by
  unfold State.syncResetNow State.sync
  exact .ite h (.ite (h.seekFrom _) ((h.syncAs _ _ _ _).seekFrom _))

theorem HostQuiet.retrainNow (h : HostQuiet o s) : HostQuiet o s.retrainNow := by
  unfold State.retrainNow
  exact .ite (.ite h.slurLost h.beginTraining) h

/-! Balances (R210, R224, R225) -/

theorem HostQuiet.deficit (h : HostQuiet o s) (sub : Nat) (bal : Int) (armed : Bool) : HostQuiet o (deficit sub bal armed s) := by
  unfold Sys2Proof.Machine.deficit
  exact .ite ((h.alarm _ _ _ _).raise _) h

theorem HostQuiet.setBoost (h : HostQuiet o s) (q : Nat) (b : Int) : HostQuiet o (s.setBoost q b) := by
  unfold State.setBoost
  exact .modQuad (.ite (h.deficit _ _ _) h) _ _

theorem HostQuiet.watchDev (h : HostQuiet o s) : HostQuiet o s.watchDev := by
  unfold State.watchDev
  exact .with_ink (.ite (h.deficit _ _ _) h)

theorem HostQuiet.watchRail (h : HostQuiet o s) (g : Nat) (fin : Bool) : HostQuiet o (s.watchRail g fin) := by
  unfold State.watchRail
  exact .with_ink (.ite (h.deficit _ _ _) h)

/-! Guardians (R248) -/

theorem HostQuiet.grdEnables (h : HostQuiet o s) : HostQuiet o s.grdEnables := by
  unfold State.grdEnables State.grdOffTo
  exact h.foldl fun _ _ k => .ite (.grdStep (k.modGrd _ _) _ _) k

theorem HostQuiet.grdLive (h : HostQuiet o s) : HostQuiet o s.grdLive := ⟨h.heard, h.held⟩

/-! The effects of a COMMIT, chapter by chapter -/

theorem HostQuiet.commitClose (h : HostQuiet o s) (new : WMap) : HostQuiet o (s.commitClose new) := h.closeAll _ _ _

theorem HostQuiet.commitWheel (h : HostQuiet o s) (old : WMap) : HostQuiet o (s.commitWheel old) := by
  unfold State.commitWheel
  extract_lets wheel reset rests
  have atReset : HostQuiet o reset := .ite h.syncResetNow h
  have atRests : HostQuiet o rests := .ite atReset (.of_hif atReset rfl)
  exact .ite atRests.retrainNow atRests

theorem HostQuiet.commitMode (h : HostQuiet o s) (old : WMap) (n : Nat) : HostQuiet o (s.commitMode old n) := by
  unfold State.commitMode
  extract_lets m was refused
  have atRefused : HostQuiet o refused := h.foldl fun _ _ k => k.refuse _ _
  exact .ite (.ite (h.logIdle _) h) (.ite (atRefused.modChan _ _) (atRefused.newMode _))

theorem HostQuiet.commitBoost (h : HostQuiet o s) (old : WMap) (q : Nat) : HostQuiet o (s.commitBoost old q) := by
  unfold State.commitBoost
  extract_lets w en ramps stops arms
  have atRamps : HostQuiet o ramps := .ite (h.modQuad _ _) h
  have atStops : HostQuiet o stops := .ite atRamps (atRamps.modQuad _ _)
  have atArms : HostQuiet o arms := .ite (atStops.modQuad _ _) atStops
  exact atArms.setBoost _ _

theorem HostQuiet.commitOpen (h : HostQuiet o s) (old : WMap) (was : List Nat) : HostQuiet o (s.commitOpen old was) := by
  unfold State.commitOpen
  refine h.foldl fun u t k => ?_
  extract_lets w src now opened
  have atOpened : HostQuiet o opened := .ite (k.openWin _) k
  exact .ite atOpened (atOpened.tqChanged _)

theorem HostQuiet.commitAccounts (h : HostQuiet o s) (old : WMap) : HostQuiet o (s.commitAccounts old) := by
  unfold State.commitAccounts
  extract_lets rails watched ink armed
  have atRails : HostQuiet o rails := h.foldl fun _ _ k => .ite k.with_ink k
  have atWatched : HostQuiet o watched := atRails.foldl fun _ _ k => k.watchRail _ _
  have atArmed : HostQuiet o armed := .ite atWatched (.of_hif atWatched rfl)
  exact atArmed.watchDev

theorem HostQuiet.commitEffects (h : HostQuiet o s) (old : WMap) (was : List Nat) : HostQuiet o (s.commitEffects old was) := by
  unfold State.commitEffects
  extract_lets wheel modes quads accounts nibs
  have atModes : HostQuiet o modes := (h.commitWheel old).foldl fun _ _ k => k.commitMode _ _
  have atQuads : HostQuiet o quads := atModes.foldl fun _ _ k => (k.commitPhrases _ _).commitBoost _ _
  have atAccounts : HostQuiet o accounts := ((atQuads.commitOpen _ _).commitSeq _).commitAccounts _
  have atNibs : HostQuiet o nibs := atAccounts.foldl fun _ _ k => k.commitNib _ _
  exact (((atNibs.commitTimers _).grdLive.grdEnables).watchStore).levelsSettle

end

end Sys2Proof.Machine
end

section
/-! PROOFS. COMMIT and DISCARD (R434 to R439). -/

namespace Sys2Proof.Machine

section
variable {o s t : State} {p : Port} {v : Word}

/-! The journal keeps room (R440) -/

theorem place_two_zero (a b c d : Nat) : (Word.ofN (place 0 2 0 + place 2 1 a + place 3 5 b + place 8 5 c + place 16 16 d)).bits 0 2 = 0 := by
  unfold Word.bits Word.ofN place
  rw [BitVec.toNat_ofNat, Nat.shiftRight_zero]
  simp only [Nat.shiftLeft_eq]
  omega

/-- An entry of the operator can make room for another one. -/
theorem State.opEntry_entryOf {a : Act} (operator : a.role = 0) : opEntry (s.entryOf a) = true := by
  unfold opEntry State.entryOf
  rw [operator]
  exact decide_eq_true (place_two_zero _ _ _ _)

theorem filter_dropOldOp (l : List (List Word)) : (l.filter opEntry).length ≤ ((dropOldOp l).filter opEntry).length + 1 := by
  induction l with
  | nil => exact Nat.zero_le _
  | cons e l ih =>
    unfold dropOldOp
    by_cases op : opEntry e = true
    · rw [if_pos op, List.filter_cons_of_pos op, List.length_cons]
    · rw [if_neg op, List.filter_cons_of_neg op, List.filter_cons_of_neg op]
      exact ih

theorem State.journal_journal {a : Act} (room : s.jRoom a.role 1 = true) :
    (s.journal a).sec.journal = (if s.sec.journal.length < journalSize then s.sec.journal else dropOldOp s.sec.journal) ++ [s.entryOf a] := by
  have watched (u : State) : u.jWatch.sec.journal = u.sec.journal := by
    unfold State.jWatch
    split
    · rw [State.alarm_sec]
    · rfl
  unfold State.journal
  rw [if_pos room]
  exact watched _

theorem State.jRoom_iff (s : State) (role n : Nat) :
    s.jRoom role n = true ↔ n ≤ journalSize - s.sec.journal.length
      ∨ (role = 0 ∧ n ≤ journalSize - s.sec.journal.length + (s.sec.journal.filter opEntry).length) := by
  simp only [State.jRoom, Bool.or_eq_true, Bool.and_eq_true, decide_eq_true_eq, beq_iff_eq]

/-- Room for several entries is room for one of them, and then for the others. -/
theorem State.jRoom_journal {a : Act} {n : Nat} (room : s.jRoom a.role (n + 1) = true) :
    s.jRoom a.role 1 = true ∧ (s.journal a).jRoom a.role n = true := by
  rw [State.jRoom_iff] at room
  have one : s.jRoom a.role 1 = true := by
    rw [State.jRoom_iff]
    omega
  refine ⟨one, ?_⟩
  rw [State.jRoom_iff, State.journal_journal one]
  by_cases space : s.sec.journal.length < journalSize
  · rw [if_pos space, List.length_append, List.filter_append, List.length_append]
    simp only [List.length_singleton]
    omega
  · have operator : a.role = 0 := by omega
    have old := filter_dropOldOp s.sec.journal
    rw [if_neg space, List.filter_append, List.length_append, List.filter_cons_of_pos (State.opEntry_entryOf operator)]
    simp only [List.filter_nil, List.length_append, List.length_singleton]
    omega

theorem HostQuiet.journal (h : HostQuiet o s) (a : Act) : HostQuiet o (s.journal a) := by
  have watched {u : State} (k : HostQuiet o u) : HostQuiet o u.jWatch := by
    unfold State.jWatch
    refine .ite (.alarm ?_ _ _ _ _) k
    exact ⟨k.heard, k.held⟩
  unfold State.journal
  refine .ite (watched ?_) (h.count _)
  exact ⟨h.heard, h.held⟩

theorem State.blockEntry_eq (k : CommitRun) (old new : WMap) (b : Nat) (written : List Nat) (s : State) :
    ∃ a : Act, a.role = k.role ∧ s.blockEntry k old new b written = s.journal a := ⟨_, rfl, rfl⟩

/-- One entry for each of the blocks, where there is room for them. -/
theorem journalBlocks (k : CommitRun) (old new : WMap) (bs : List Nat) :
    ∀ s : State, s.jRoom k.role bs.length = true →
      (bs.foldl (fun (s : State) b => s.blockEntry k old new b (s.writtenOf b)) s).sec.counter = s.sec.counter + bs.length := by
  induction bs with
  | nil => exact fun s _ => rfl
  | cons b bs ih =>
    intro s room
    obtain ⟨a, role, entry⟩ := State.blockEntry_eq k old new b (s.writtenOf b) s
    rw [← role] at room
    obtain ⟨one, others⟩ := State.jRoom_journal room
    rw [role] at others
    rw [List.foldl_cons, entry]
    have first := State.journal_counter a one
    refine (ih _ others).trans ?_
    rw [List.length_cons]
    exact (congrArg (· + bs.length) first).trans (by omega)

/-! A COMMIT ends -/

theorem State.releaseHeld_of_none (held : s.hif.mqHeld = none) : s.releaseHeld = s := by
  unfold State.releaseHeld
  rw [held]

theorem State.commitEnds_settles (held : s.hif.mqHeld = none) (outcome entries : Nat) :
    ∃ n time, (s.commitEnds outcome entries).sec = { s.sec with commit := none, outcome := outcome, entries := n, cmtTime := time }
      ∧ (s.commitEnds outcome entries).sys = { s.sys with busy := none } ∧ (s.commitEnds outcome entries).regs = s.regs
      ∧ (entries ≤ 15 → n = entries ∧ s.onlyIn (s.commitEnds outcome entries) [.sys, .sec]) := by
  unfold State.commitEnds
  by_cases few : entries ≤ 15
  · simp only [if_pos few]
    rw [State.releaseHeld_of_none (by exact held)]
    exact ⟨_, _, rfl, rfl, rfl, fun _ => ⟨rfl, Frame.with_sys (Frame.modSec s _ (Frame.refl s _) (by decide)) (by decide)⟩⟩
  · simp only [if_neg few]
    rw [State.releaseHeld_of_none (by exact held)]
    exact ⟨_, _, rfl, rfl, rfl, fun h => absurd h few⟩

theorem State.setVerify_frame (w : Option Verdict) (s : State) : s.onlyIn (s.setVerify w) [.regs] := Frame.setVerify _ _ (Frame.refl s _) (by decide)

/-! COMMIT_DONE (R437) -/

/-- The image that a COMMIT leaves. -/
def State.newImage (s : State) : WMap := commitImage s.regs.dirty s.regs.shadow s.regs.image

/-- The journal's entries are written. -/
def State.journalled (k : CommitRun) (s : State) : State :=
  s.regs.dirty.foldl (fun (u : State) b => u.blockEntry k s.regs.image s.newImage b (u.writtenOf b)) s

/-- The windows of changed targets are closed, and the shadow copy is live and in the image. -/
def State.swapped (live img : WMap) (s : State) : State :=
  let s : State := s.rearmDev.commitClose live
  { s with regs := { s.regs with live := live, image := img, imgKind := 0 }, sys := { s.sys with image := 0 } }

/-- The AON clock leaves the crystal where the new set-up has another source. -/
def State.aonSource (s : State) : State := if s.flag F.SYS_CLKCFG_AON_SRC then s else { s with clk := { s.clk with aonXtal := false } }

/-- The targets whose windows are open. -/
def State.openTargets (s : State) : List Nat := (s.adc.wins.filter (fun x => x.2.open')).map Prod.fst

/-- The shadow copy becomes live, with its effects. -/
def State.madeLive (img : WMap) (s : State) : State :=
  ((s.swapped (commitLive s.regs.writers s.regs.shadow s.regs.live) img).aonSource).commitEffects s.regs.live s.openTargets

theorem State.commitNow_eq (k : CommitRun) (wheel : setBits (s.shadowWord R.WHL_TEETH) 10 22 0 = setBits (s.word R.WHL_TEETH) 10 22 0) :
    s.commitNow k = ((((s.journalled k).madeLive s.newImage).clean).setVerify none).commitEnds 0 s.regs.dirty.length := by
  unfold State.commitNow
  rw [if_neg (by rw [wheel, bne_self_eq_false]; decide)]
  unfold State.madeLive State.aonSource State.swapped State.journalled State.openTargets State.newImage
  rfl

/-- What makes the set-up live keeps the image, and neither sees the host nor writes the journal. -/
theorem State.madeLive_settles (hok : s.ok) {img : WMap} (wf : img.wf = true) :
    (s.madeLive img).regs.image = img ∧ (s.madeLive img).regs.imgKind = 0 ∧ (s.madeLive img).sec = s.sec ∧ HostQuiet s (s.madeLive img)
      ∧ (s.madeLive img).regs.live.wf = true := by
  unfold State.madeLive
  have live := commitLive_wf s.regs.writers s.regs.shadow (Kept.refl hok).regs.live
  generalize commitLive s.regs.writers s.regs.shadow s.regs.live = l at live ⊢
  have closed := Kept.commitClose l _ (Kept.rearmDev _ (Kept.refl hok))
  have quiet : HostQuiet s (s.rearmDev.commitClose l) := (HostQuiet.refl s).rearmDev.commitClose l
  have sec : (s.rearmDev.commitClose l).sec = s.sec :=
    Frame.commitClose _ _ (Frame.rearmDev _ (Frame.refl s [.regs, .hif, .adc, .ink]) (by decide)) (by decide) (by decide) (by decide) .sec (by decide)
  unfold State.swapped
  generalize s.rearmDev.commitClose l = u at closed quiet sec
  have swapped : Kept { s with regs := { s.regs with image := img, imgKind := 0 } }
      ({ u with regs := { u.regs with live := l, image := img, imgKind := 0 }, sys := { u.sys with image := 0 } } : State) :=
    Kept.mk_iff.2 (Kept.image (n := 0) closed live wf).of
  have quiet : HostQuiet s ({ u with regs := { u.regs with live := l, image := img, imgKind := 0 }, sys := { u.sys with image := 0 } } : State) :=
    ⟨quiet.heard, quiet.held⟩
  have sec : ({ u with regs := { u.regs with live := l, image := img, imgKind := 0 }, sys := { u.sys with image := 0 } } : State).sec = s.sec := sec
  dsimp only
  generalize ({ u with regs := { u.regs with live := l, image := img, imgKind := 0 }, sys := { u.sys with image := 0 } } : State) = w
    at swapped quiet sec
  have clocked : Kept { s with regs := { s.regs with image := img, imgKind := 0 } } w.aonSource := by
    unfold State.aonSource
    exact Kept.ite swapped (Kept.mk_iff.2 { swapped.of with clk := swapped.clk })
  have quiet : HostQuiet s w.aonSource := by
    unfold State.aonSource
    exact .ite quiet ⟨quiet.heard, quiet.held⟩
  have sec : w.aonSource.sec = s.sec := by
    unfold State.aonSource
    split <;> exact sec
  generalize w.aonSource = x at clocked quiet sec
  have kept := Kept.commitEffects s.regs.live s.openTargets x clocked
  have effects : x.onlyIn (x.commitEffects s.regs.live s.openTargets)
      [.regs, .sys, .hif, .evc, .whl, .ang, .sch, .banks, .quads, .edges, .ink, .grds, .adc, .cmps, .tmrs, .nibs, .tst, .slur, .freeCtr] :=
    Frame.commitEffects _ _ _ (Frame.refl x _) (by decide) (by decide) (by decide) (by decide) (by decide) (by decide) (by decide) (by decide)
      (by decide) (by decide) (by decide) (by decide) (by decide) (by decide) (by decide) (by decide) (by decide) (by decide) (by decide)
  exact ⟨kept.regs.image, kept.regs.imgKind, (effects .sec (by decide)).trans sec, quiet.commitEffects _ _, kept.regs.live⟩

/-- The checks have passed: the journal has room for the entries. -/
theorem State.jRoom_of_commitFault {role : Nat} (passes : s.commitFault role = none) : s.jRoom role s.regs.dirty.length = true := by
  unfold State.commitFault at passes
  split at passes
  · exact absurd passes (by simp)
  · by_contra full
    rw [Bool.not_eq_true] at full
    rw [full] at passes
    exact absurd passes (by simp)

/-- The port is held by an operation, and a COMMIT sees it. -/
theorem exec_commitDone {k : CommitRun} (commits : s.sec.commit = some k) (changed : s.regs.dirty ≠ []) (passes : s.commitFault k.role = none)
    (written : s.busyFor k.wr = true) : exec .commitDone s = .next (s.commitNow k) := by
  simp [exec, execCommitDone, commits, changed, passes, written]

/-! GO and DISCARD -/

theorem bits_of_bit_one (clear : v.bit 1 = false) : v.bits 0 2 ≠ 3 := by
  intro both
  have one : (v.bits 0 2).testBit 1 = v.bit 1 := by
    unfold Word.bits Word.bit
    rw [Nat.testBit_mod_two_pow, Nat.shiftRight_zero]
    rfl
  rw [both, clear] at one
  exact absurd one (by decide)

theorem bits_of_bit_zero (clear : v.bit 0 = false) : v.bits 0 2 ≠ 3 := by
  intro both
  have zero : (v.bits 0 2).testBit 0 = v.bit 0 := by
    unfold Word.bits Word.bit
    rw [Nat.testBit_mod_two_pow, Nat.shiftRight_zero]
    rfl
  rw [both, clear] at zero
  exact absurd zero (by decide)

theorem exec_discard (open' : s.portOpen = true) (discard : v.bit 1 = true) (alone : v.bit 0 = false) :
    exec (.discard p v) s = .next ((s.touch p).discardNow p) := by
  refine congrArg Host.Outcome.next ((State.onWrite_of_open open' _).trans ((if_pos discard).trans ?_))
  unfold State.commitWrite
  rw [if_neg (bits_of_bit_zero alone), alone, discard]
  rfl

/-- DISCARD where no higher role has written. -/
theorem discards (may : ¬(s.roleOf p = 0 ∧ s.regs.writers.any (fun x => decide (0 < x.2)) = true)) :
    ((s.touch p).discardNow p).regs = { s.regs with shadow := discardShadow s.regs.live, writers := [], dirty := [] }
      ∧ s.onlyIn ((s.touch p).discardNow p) [.regs, .sec, .quads] := by
  have touched := State.touch_frame p s
  have regs := State.touch_regs p s
  have run : (s.touch p).discardNow p
      = ({ s.touch p with regs := { (s.touch p).regs with shadow := discardShadow (s.touch p).regs.live } } : State).clean :=
    if_neg (by rw [State.touch_roleOf, regs]; exact may)
  rw [run]
  refine ⟨congrArg (fun r : RegFile => { r with shadow := discardShadow r.live, writers := [], dirty := [] }) regs, ?_⟩
  exact Frame.clean _ (Frame.with_regs (Frame.mono touched (by decide)) (by decide)) (by decide) (by decide)

end

/-- Settles O56: the journal has room for the entries of a COMMIT that passes its checks, its effects keep the image, and nothing is
held where it ends. -/
theorem commitAndDiscard : Obligations.CommitAndDiscard := by
  unfold Obligations.CommitAndDiscard
  refine ⟨?go, ?done, ?nothing, ?range, ?discards, ?discardsOwn, ?refused⟩
  case go =>
    intro p v s open' go alone mode
    have touched := State.touch_frame p s
    have mode' : (s.touch p).sys.mode.setupOrOn = true := (congrArg (fun y : Sys => y.mode.setupOrOn) (touched .sys (by decide))).trans mode
    have run : exec (.commit p v) s = .next ((((s.touch p).draw.2).modSec (fun x => { x with
        commit := some (CommitRun.mk ((s.touch p).draw.2.roleOf p) p ((s.touch p).draw.1.toNat % 6400001)) })).beginBusy 2 p) := by
      refine congrArg Host.Outcome.next ((State.onWrite_of_open open' _).trans ((if_pos go).trans ?_))
      unfold State.commitWrite
      rw [if_neg (bits_of_bit_one alone), if_pos go]
      exact if_pos mode'
    have drawn : s.onlyIn (s.touch p).draw.2 [.sys, .sec, .freeCtr] := Frame.draw _ (Frame.mono touched (by decide)) (by decide)
    have role : (s.touch p).draw.2.roleOf p = s.roleOf p := State.touch_roleOf p p s
    have sys : (s.touch p).draw.2.sys = s.sys := touched .sys (by decide)
    have now : (s.touch p).draw.2.now = s.now := congrArg Clk.tb (touched .clk (by decide))
    generalize (s.touch p).draw.2 = u at run drawn role sys now
    refine ⟨_, (s.touch p).draw.1.toNat % 6400001, run, Nat.lt_succ_iff.mp (Nat.mod_lt _ (by decide)), ?_, ?_, Frame.with_sys (Frame.modSec _ _ drawn (by decide)) (by decide)⟩
    · exact congrArg (fun r => some (CommitRun.mk r p _)) role
    · exact (congrArg (fun y : Sys => { y with busy := some { op := 2, port := p, since := u.now } }) sys).trans (by rw [now])
  case done =>
    intro k s hok commits changed passes written held wheel
    have run := exec_commitDone commits changed passes written
    rw [State.commitNow_eq k wheel] at run
    have counted : (s.journalled k).sec.counter = s.sec.counter + s.regs.dirty.length :=
      journalBlocks k s.regs.image s.newImage s.regs.dirty s (State.jRoom_of_commitFault passes)
    have journalled : Kept s (s.journalled k) := Kept.foldl (Kept.refl hok) (fun _ _ h => Kept.blockEntry _ _ _ _ _ _ h)
    have quiet : HostQuiet s (s.journalled k) := (HostQuiet.refl s).foldl fun _ _ h => h.journal _
    obtain ⟨image, kind, sec, effects, wf⟩ := State.madeLive_settles journalled.ok (img := s.newImage)
      (commitImage_wf s.regs.dirty s.regs.shadow (Kept.refl hok).regs.imageWf)
    generalize (s.journalled k).madeLive s.newImage = u at run image kind sec effects wf
    have quietly : (u.clean.setVerify none).hif.mqHeld = none := (effects.held.trans quiet.held).trans held
    obtain ⟨n, time, endSec, endSys, endRegs, _⟩ := State.commitEnds_settles quietly 0 s.regs.dirty.length
    refine ⟨_, run, ?_, ?_, ?_, ?_, congrArg Sec.commit endSec, congrArg Sec.outcome endSec, congrArg Sys.busy endSys, ?_⟩
    · exact (congrArg RegFile.image endRegs).trans image
    · exact (congrArg RegFile.imgKind endRegs).trans kind
    · exact congrArg RegFile.dirty endRegs
    · exact congrArg RegFile.writers endRegs
    · exact (congrArg Sec.counter endSec).trans ((congrArg Sec.counter sec).trans counted)
  case nothing =>
    intro k s hok commits clean held
    have run : exec .commitFailed s = .next ((s.setVerify none).commitEnds 0 0) := by
      simp only [exec, execCommitFailed, commits, if_pos clean]
    have words : s.onlyWords (s.setVerify none) [R.REED_VERIFY] := (State.onlyWords.refl s _).set 0 (by decide)
    have frame := State.setVerify_frame none s
    generalize s.setVerify none = u at run words frame
    obtain ⟨n, time, endSec, endSys, endRegs, few⟩ := State.commitEnds_settles (s := u) (by rw [frame .hif (by decide)]; exact held) 0 0
    obtain ⟨none', ends⟩ := few (by decide)
    exact ⟨_, run, congrArg Sec.outcome endSec, (congrArg Sec.entries endSec).trans none',
      congrArg Sec.commit endSec, endSys.trans (by rw [frame .sys (by decide)]), words.trans (.of_regs (.refl u _) (by rw [endRegs])),
      Frame.trans (Frame.mono frame (by decide)) (Frame.mono ends (by decide))⟩
  case range =>
    intro k a s hok commits changed faults held
    have run : exec .commitFailed s
        = .next ((((s.count F.SEC_CMT_FAIL_CNT_COUNT).setVerify none).modSec (fun x => { x with cmtAddr := dataOffset a })).commitEnds 1 0) := by
      simp only [exec, execCommitFailed, commits, if_neg changed, faults]
      rfl
    have live := (Kept.refl hok).regs.live
    have counted : ((s.count F.SEC_CMT_FAIL_CNT_COUNT).setVerify none).get F.SEC_CMT_FAIL_CNT_COUNT
        = min (s.get F.SEC_CMT_FAIL_CNT_COUNT + 1) 0xFFFFFFFF :=
      (State.get_set_other _ F.REED_VERIFY_VALID F.SEC_CMT_FAIL_CNT_COUNT 0 (Kept.count _ _ (Kept.refl hok)).regs.live (by decide)).trans
        (State.get_count _ _ live (by decide))
    have words : s.onlyWords ((s.count F.SEC_CMT_FAIL_CNT_COUNT).setVerify none) [R.SEC_CMT_FAIL_CNT, R.REED_VERIFY] :=
      ((State.onlyWords.refl s _).count (by decide)).set 0 (by decide)
    have frame : s.onlyIn ((s.count F.SEC_CMT_FAIL_CNT_COUNT).setVerify none) [.regs] :=
      Frame.setVerify _ _ (Frame.count _ _ (Frame.refl s _) (by decide)) (by decide)
    generalize (s.count F.SEC_CMT_FAIL_CNT_COUNT).setVerify none = u at run counted words frame
    obtain ⟨n, time, endSec, endSys, endRegs, few⟩ := State.commitEnds_settles (s := u.modSec fun x => { x with cmtAddr := dataOffset a })
      ((congrArg Hif.mqHeld (frame .hif (by decide))).trans held) 1 0
    obtain ⟨_, ends⟩ := few (by decide)
    have regs : ((u.modSec fun x => { x with cmtAddr := dataOffset a }).commitEnds 1 0).regs = u.regs := endRegs
    refine ⟨_, run, congrArg Sec.outcome endSec, (congrArg Sec.cmtAddr endSec).trans rfl, congrArg Sec.commit endSec, ?_, ?_, ?_, ?_⟩
    · exact endSys.trans (congrArg (fun y : Sys => { y with busy := none }) (frame .sys (by decide)))
    · unfold State.get State.word at counted ⊢
      rw [regs]
      exact counted
    · exact words.trans (.of_regs (.refl u _) (by rw [regs]))
    · exact Frame.trans (Frame.modSec _ _ (Frame.mono frame (by decide)) (by decide)) (Frame.mono ends (by decide))
  case discards =>
    intro p v s _ open' discard alone role
    obtain ⟨regs, frame⟩ := discards (s := s) (p := p) (fun h => absurd h.1 (by omega))
    exact ⟨_, exec_discard open' discard alone, regs, frame⟩
  case discardsOwn =>
    intro p v s _ open' discard alone _ own
    obtain ⟨regs, frame⟩ := discards (s := s) (p := p) (fun h => by
      obtain ⟨x, there, higher⟩ := List.any_eq_true.mp h.2
      exact absurd (of_decide_eq_true higher) (by rw [own x there]; decide))
    exact ⟨_, exec_discard open' discard alone, regs, frame⟩
  case refused =>
    intro p v x s hok open' discard alone role there higher
    have run : (s.touch p).discardNow p = (s.touch p).deny p := if_pos ⟨by rw [State.touch_roleOf]; exact role, by
      rw [State.touch_regs]
      exact List.any_eq_true.mpr ⟨x, there, decide_eq_true higher⟩⟩
    obtain ⟨counted, words⟩ := State.touch_deny (p := p) hok
    refine ⟨_, (exec_discard open' discard alone).trans (congrArg Host.Outcome.next run), counted, words, ?_⟩
    exact Frame.deny _ _ (Frame.mono (State.touch_frame p s) (by decide)) (by decide) (by decide)

end Sys2Proof.Machine
end

section
/-! PROOFS. Neither a verdict of the self-test nor a calibration reads the session (R432, R454, R478). -/

namespace Sys2Proof.Machine

section
variable {y : Sec} {s t : State}

/-- A state with another session, its keys and its journal. -/
def State.withSec (y : Sec) (s : State) : State := { s with sec := y }

/-- t is s, but for a session y. -/
def Twin (y : Sec) (s t : State) : Prop := t = s.withSec y

theorem Twin.ite {c c' : Prop} [Decidable c] [Decidable c'] {a b a' b' : State} (same : c' = c) (h : Twin y a a') (k : Twin y b b') :
    Twin y (if c then a else b) (if c' then a' else b') := by
  subst same
  by_cases chosen : c'
  · rw [if_pos chosen, if_pos chosen]
    exact h
  · rw [if_neg chosen, if_neg chosen]
    exact k

theorem Twin.foldl {α : Type} {f f' : State → α → State} {l l' : List α} (h : Twin y s t) (same : l' = l)
    (step : ∀ u v a, Twin y u v → Twin y (f u a) (f' v a)) : Twin y (l.foldl f s) (l'.foldl f' t) := by
  subst same
  induction l' generalizing s t with
  | nil => exact h
  | cons a l ih => exact ih (step _ _ _ h)

/-! Words, latches and sources -/

theorem Twin.get (h : Twin y s t) (f : Fld) : t.get f = s.get f := by
  cases h
  rfl

theorem Twin.set (h : Twin y s t) (f : Fld) (n : Nat) : Twin y (s.set f n) (t.set f n) := by
  cases h
  rfl

theorem Twin.count (h : Twin y s t) (f : Fld) : Twin y (s.count f) (t.count f) := by
  cases h
  rfl

theorem Twin.inCycle (h : Twin y s t) (f : Same → Same) : Twin y (s.inCycle f) (t.inCycle f) := by
  cases h
  rfl

theorem Twin.setWin (h : Twin y s t) (k : Nat) (w : Win) : Twin y (s.setWin k w) (t.setWin k w) := by
  cases h
  rfl

theorem Twin.modThread (h : Twin y s t) (b k : Nat) (f : Thread → Thread) : Twin y (s.modThread b k f) (t.modThread b k f) := by
  cases h
  rfl

theorem Twin.modChan (h : Twin y s t) (n : Nat) (f : Chan → Chan) : Twin y (s.modChan n f) (t.modChan n f) := by
  cases h
  rfl

theorem Twin.modBank (h : Twin y s t) (b : Nat) (f : Bank → Bank) : Twin y (s.modBank b f) (t.modBank b f) := by
  cases h
  rfl

theorem Twin.modStore (h : Twin y s t) (f : Event → Event) : Twin y (s.modStore f) (t.modStore f) := by
  cases h
  rfl

theorem Twin.modEvent (h : Twin y s t) (id : Nat) (f : Event → Event) : Twin y (s.modEvent id f) (t.modEvent id f) := by
  cases h
  rfl

theorem Twin.clrBit (h : Twin y s t) (f : Fld) (i : Nat) : Twin y (s.clrBit f i) (t.clrBit f i) := by
  unfold State.clrBit
  cases h
  exact .ite rfl rfl rfl

theorem Twin.raise (h : Twin y s t) (n : Nat) : Twin y (s.raise n) (t.raise n) := by
  unfold State.raise
  cases h
  exact .ite rfl rfl rfl

theorem Twin.lose (h : Twin y s t) (r : Nat) (trk : Bool) : Twin y (s.lose r trk) (t.lose r trk) := by
  unfold State.lose
  cases h
  exact .ite rfl rfl rfl

theorem Twin.trace (h : Twin y s t) (k bit low : Nat) (time : Tb) (mid w3 : Nat) : Twin y (s.trace k bit low time mid w3) (t.trace k bit low time mid w3) := by
  have lost := h.lose 18 false
  unfold State.trace
  cases h
  exact .ite rfl (.ite rfl rfl lost) rfl

theorem Twin.alarm (h : Twin y s t) (id sub data data2 : Nat) : Twin y (s.alarm id sub data data2) (t.alarm id sub data data2) := by
  unfold State.alarm
  cases h
  refine .ite (congrArg (· < _) (Twin.get (y := y) ?_ F.HIF_ALM_HIGH_LEVEL)) (.set ?_ _ _) ?_
  · exact .ite rfl rfl rfl
  · exact .ite rfl rfl rfl
  · exact .ite rfl rfl rfl

theorem Twin.groupSettle (h : Twin y s t) (k : Nat) : Twin y (s.groupSettle k) (t.groupSettle k) := by
  unfold State.groupSettle
  cases h
  exact .ite rfl rfl rfl

theorem Twin.sourceGone (h : Twin y s t) (n : Nat) : Twin y (s.sourceGone n) (t.sourceGone n) := by
  unfold State.sourceGone
  refine .groupSettle ?_ _
  cases h
  rfl

/-! Comparators that start anew -/

theorem Twin.bankCmpFresh (h : Twin y s t) (b : Nat) : Twin y (s.bankCmpFresh b) (t.bankCmpFresh b) := by
  unfold State.bankCmpFresh
  refine .clrBit (.clrBit (.clrBit (.clrBit ?_ _ _) _ _) _ _) _ _
  cases h
  rfl

theorem Twin.chCmpFresh (h : Twin y s t) (n : Nat) : Twin y (s.chCmpFresh n) (t.chCmpFresh n) := by
  unfold State.chCmpFresh
  refine .clrBit ?_ _ _
  cases h
  rfl

theorem Twin.grdCmpFresh (h : Twin y s t) (g : Nat) : Twin y (s.grdCmpFresh g) (t.grdCmpFresh g) := by
  unfold State.grdCmpFresh
  refine .clrBit (.clrBit ?_ _ _) _ _
  cases h
  rfl

theorem Twin.wmFresh (h : Twin y s t) (n : Nat) : Twin y (s.wmFresh n) (t.wmFresh n) := by
  unfold State.wmFresh
  refine .clrBit (.clrBit ?_ _ _) _ _
  cases h
  rfl

/-! Windows -/

theorem Twin.openWin (h : Twin y s t) (k : Nat) : Twin y (s.openWin k) (t.openWin k) := by
  unfold State.openWin
  cases h
  exact .ite rfl rfl rfl

theorem Twin.stageTele (h : Twin y s t) (n : Nat) (words : List Word) (ev : Option Nat) (trk : Bool) :
    Twin y (s.stageTele n words ev trk) (t.stageTele n words ev trk) := by
  have lost := h.lose (13 + n) trk
  unfold State.stageTele
  cases h
  exact .ite rfl rfl lost

theorem Twin.stageClose (h : Twin y s t) (k : Nat) (x : Shut) : Twin y (s.stageClose k x) (t.stageClose k x) := by
  unfold State.stageClose
  cases h
  exact .ite rfl rfl (.ite rfl (.lose rfl _ _) (.stageTele rfl _ _ _ _))

theorem Twin.reshut (h : Twin y s t) (k : Nat) (a b : Shut) : Twin y (s.reshut k a b) (t.reshut k a b) := by
  unfold State.reshut
  cases h
  exact .ite rfl rfl (.stageClose rfl _ _)

theorem Twin.closeWin (h : Twin y s t) (k c : Nat) (ev : Option Nat) (reopen : Bool) : Twin y (s.closeWin k c ev reopen) (t.closeWin k c ev reopen) := by
  cases h
  have shut (a : Option Shut) : Twin y
      (match a with
        | some z => if c < z.cause then s.reshut k z { z with cause := c, tag := (s.shutOf k c ev).tag, ev := ev } else s
        | none => (s.stageClose k (s.shutOf k c ev)).inCycle (fun m => { m with shut := assocPut k (s.shutOf k c ev) m.shut }))
      (match a with
        | some z => if c < z.cause then (s.withSec y).reshut k z { z with cause := c, tag := (s.shutOf k c ev).tag, ev := ev } else s.withSec y
        | none => ((s.withSec y).stageClose k (s.shutOf k c ev)).inCycle (fun m => { m with shut := assocPut k (s.shutOf k c ev) m.shut })) := by
    cases a with
    | some z => exact .ite rfl (.reshut rfl _ _ _) rfl
    | none => exact .inCycle (.stageClose rfl _ _) _
  unfold State.closeWin
  refine .ite rfl ?_ rfl
  have again := (shut (assocGet k s.regs.same.shut)).setWin
  refine .ite ?_ (.openWin (again _ _) _) (again _ _)
  exact congrArg (fun n => (reopen && decide (1 ≤ n)) = true) ((again _ _).get _)

theorem Twin.openAll (h : Twin y s t) {p p' : Nat → Bool} (same : p' = p) : Twin y (s.openAll p) (t.openAll p') := by
  subst same
  unfold State.openAll
  refine .foldl h (by cases h; rfl) fun u v a k => .ite ?_ (k.openWin _) k
  cases k
  rfl

theorem Twin.closeAll (h : Twin y s t) (c : Nat) (reopen : Bool) {p p' : Nat → Bool} (same : p' = p) : Twin y (s.closeAll c reopen p) (t.closeAll c reopen p') := by
  subst same
  unfold State.closeAll
  exact .foldl h (by cases h; rfl) fun u v a k => .ite rfl (k.closeWin _ _ _ _) k

theorem Twin.closeThreadWins (h : Twin y s t) (b k : Nat) : Twin y (s.closeThreadWins b k) (t.closeThreadWins b k) := by
  unfold State.closeThreadWins
  cases h
  refine .modThread (.foldl rfl rfl fun u v a j => ?_) _ _ _
  cases j
  exact .ite rfl (.closeWin rfl _ _ _ _) rfl

/-! Channels and their modes -/

theorem Twin.logIdle (h : Twin y s t) (n : Nat) : Twin y (s.logIdle n) (t.logIdle n) := by
  unfold State.logIdle
  cases h
  exact .ite rfl rfl rfl

theorem Twin.newMode (h : Twin y s t) (n : Nat) : Twin y (s.newMode n) (t.newMode n) := by
  unfold State.newMode
  exact .logIdle (h.modChan _ _) _

theorem Twin.modeSettle (h : Twin y s t) (n : Nat) : Twin y (s.modeSettle n) (t.modeSettle n) := by
  have new := h.newMode n
  unfold State.modeSettle
  cases h
  exact .ite rfl new rfl

theorem Twin.markOff (h : Twin y s t) (n ev : Nat) : Twin y (s.markOff n ev) (t.markOff n ev) := by
  cases h
  have marks (a : Option Nat) : Twin y
      (match a with | some k => s.modThread (n / 4) k (fun k => { k with turnedOff := true }) | none => s)
      (match a with | some k => (s.withSec y).modThread (n / 4) k (fun k => { k with turnedOff := true }) | none => s.withSec y) := by
    cases a <;> rfl
  exact marks (s.threadFor n ev)

theorem Twin.startWatch (h : Twin y s t) (n : Nat) : Twin y (s.startWatch n) (t.startWatch n) := by
  unfold State.startWatch
  cases h
  exact .ite rfl (.ite rfl rfl rfl) rfl

theorem Twin.offEvent (h : Twin y s t) (time : Tb) (n id : Nat) : Twin y (s.offEvent time n id) (t.offEvent time n id) := by
  unfold State.offEvent
  refine .modChan (.foldl h (by cases h; rfl) fun u v e k => ?_) _ _
  cases k
  rfl

theorem Twin.glOff (h : Twin y s t) (time : Tb) (n ev : Nat) : Twin y (s.glOff time n ev) (t.glOff time n ev) := by
  have settles := h.modeSettle n
  have marked := ((h.markOff n ev).startWatch n).modeSettle n
  have off : Twin y ((s.setGl n false).offEvent time n ev) ((t.setGl n false).offEvent time n ev) := .offEvent (by cases h; rfl) _ _ _
  have offMarked := ((off.markOff n ev).startWatch n).modeSettle n
  unfold State.glOff
  cases h
  exact .ite rfl offMarked (.ite rfl marked settles)

theorem Twin.reopen (h : Twin y s t) (n ev : Nat) : Twin y (s.reopen n ev) (t.reopen n ev) := by
  cases h
  unfold State.reopen
  have off : (s.withSec y).watchOff n = s.watchOff n := rfl
  have own : (s.withSec y).threadFor n ev = s.threadFor n ev := rfl
  rw [off, own]
  cases s.watchOff n with
  | none => rfl
  | some x =>
    cases s.threadFor n ev with
    | none => rfl
    | some k => exact .ite rfl rfl rfl

theorem Twin.glOn (h : Twin y s t) (time : Tb) (n : Nat) (level : Bool) (ev : Nat) : Twin y (s.glOn time n level ev) (t.glOn time n level ev) := by
  have opened : Twin y (if (s.chan n).gl then s else s.reopen n ev) (if (t.chan n).gl then t else t.reopen n ev) :=
    .ite (by cases h; rfl) h (h.reopen n ev)
  unfold State.glOn
  dsimp only
  generalize (if (s.chan n).gl then s else s.reopen n ev) = u at opened ⊢
  generalize (if (t.chan n).gl then t else t.reopen n ev) = v at opened ⊢
  cases opened
  rfl

/-! Edges -/

theorem Twin.endsAt (h : Twin y s t) (time : Tb) (id ev : Nat) :
    Twin y (match s.event id with | some e => s.offEvent time e.ch ev | none => s) (match t.event id with | some e => t.offEvent time e.ch ev | none => t) := by
  have same : t.event id = s.event id := by
    cases h
    rfl
  rw [same]
  cases s.event id with
  | some e => exact h.offEvent _ _ _
  | none => exact h

theorem Twin.applyEdge (h : Twin y s t) (x : Edge) : Twin y (s.applyEdge x) (t.applyEdge x) := by
  obtain ⟨time, gate, on, bank, thread, ev⟩ := x
  cases h
  unfold State.applyEdge
  cases gate with
  | gl n => exact .ite rfl (.ite rfl (.glOn rfl _ _ _ _) rfl) (.ite rfl (.offEvent rfl _ _ _) (.glOff rfl _ _ _))
  | ghv b => exact .ite rfl (.ite rfl rfl rfl) (.endsAt rfl _ _ _)
  | ghb b => exact .ite rfl (.ite rfl rfl rfl) (.endsAt rfl _ _ _)

theorem Twin.releaseToken (h : Twin y s t) (b k : Nat) : Twin y (s.releaseToken b k) (t.releaseToken b k) := by
  cases h
  unfold State.releaseToken
  refine .ite rfl (.modBank (.modThread (.ite rfl ?_ rfl) _ _ _) _ _) rfl
  unfold State.placeEdge
  exact .applyEdge rfl _

theorem Twin.gatesLow (h : Twin y s t) (watch : Bool) (b k : Nat) : Twin y (s.gatesLow watch b k) (t.gatesLow watch b k) := by
  cases h
  unfold State.gatesLow
  exact .ite rfl rfl (.ite rfl (.glOff rfl _ _ _) (.ite rfl (.offEvent rfl _ _ _) rfl))

theorem Twin.dropGates (h : Twin y s t) (b k : Nat) : Twin y (s.dropGates b k) (t.dropGates b k) := by
  have low := h.gatesLow false b k
  unfold State.dropGates
  refine .ite (by cases h; rfl) ?_ low
  have thread : t.thread b k = s.thread b k := by
    cases h
    rfl
  rw [thread]
  generalize s.gatesLow false b k = u at low ⊢
  generalize t.gatesLow false b k = v at low ⊢
  cases low
  rfl

theorem Twin.freeThread (h : Twin y s t) (b k : Nat) : Twin y (s.freeThread b k) (t.freeThread b k) := by
  cases h
  unfold State.freeThread
  exact .modeSettle rfl _

theorem Twin.killThread (h : Twin y s t) (b k : Nat) (f : Event → Event) : Twin y (s.killThread b k f) (t.killThread b k f) := by
  have closed := ((h.dropGates b k).releaseToken b k).closeThreadWins b k
  cases h
  unfold State.killThread
  exact .ite rfl (.freeThread (.modStore closed _) _ _) rfl

theorem Twin.killLog (h : Twin y s t) (n : Nat) (level : Bool) (f : Event → Event) : Twin y (s.killLog n level f) (t.killLog n level f) := by
  cases h
  unfold State.killLog
  have same : (s.withSec y).sch = s.sch := rfl
  rw [same]
  cases s.sch.store.find? (fun e => e.ch == n && e.phase == .running) with
  | some e => exact .ite rfl (.modeSettle (.modEvent (.offEvent rfl _ _ _) _ _) _) rfl
  | none => rfl

/-! Events -/

/-- The alarms of a stall of the normal queues, where f events of the store are free. -/
def State.stallAlarms (f : Nat) (s : State) : State :=
  let res := s.get F.SCH_STORE_RES_RES
  if !s.hif.normalStall && decide (f ≤ res) then
    ({ s with hif := { s.hif with normalStall := true } } : State).alarm 18 0 f 0
  else if s.hif.normalStall && decide (res + 64 < f) then
    ({ s with hif := { s.hif with normalStall := false } } : State).alarm 18 1 f 0
  else s

/-- The alarms of a stall of the urgent queue. -/
def State.urgentAlarms (f : Nat) (s : State) : State :=
  if !s.hif.urgentStall && decide (f = 0) then
    ({ s with hif := { s.hif with urgentStall := true } } : State).alarm 18 2 f 0
  else if s.hif.urgentStall && decide (64 ≤ f) then
    ({ s with hif := { s.hif with urgentStall := false } } : State).alarm 18 3 f 0
  else s

theorem State.watchStore_eq (s : State) :
    s.watchStore = ((if s.free < s.get F.SCH_FREE_LOW_LOW then s.set F.SCH_FREE_LOW_LOW s.free else s).stallAlarms s.free).urgentAlarms s.free := by
  unfold State.watchStore State.stallAlarms State.urgentAlarms
  dsimp only

theorem Twin.watchStore (h : Twin y s t) : Twin y s.watchStore t.watchStore := by
  have stalls {u v : State} (k : Twin y u v) (f : Nat) : Twin y ((u.stallAlarms f).urgentAlarms f) ((v.stallAlarms f).urgentAlarms f) := by
    have urgent {a b : State} (j : Twin y a b) : Twin y (a.urgentAlarms f) (b.urgentAlarms f) := by
      unfold State.urgentAlarms
      cases j
      exact .ite rfl (.alarm rfl _ _ _ _) (.ite rfl (.alarm rfl _ _ _ _) rfl)
    refine urgent ?_
    unfold State.stallAlarms
    cases k
    exact .ite rfl (.alarm rfl _ _ _ _) (.ite rfl (.alarm rfl _ _ _ _) rfl)
  rw [State.watchStore_eq, State.watchStore_eq]
  cases h
  exact stalls (.ite rfl rfl rfl) s.free

theorem Twin.short (h : Twin y s t) (code ch src n : Nat) (tag : Word) : Twin y (s.short code ch src n tag) (t.short code ch src n tag) := by
  unfold State.short
  cases h
  exact .ite rfl rfl rfl

theorem Twin.dropEvent (h : Twin y s t) (id : Nat) : Twin y (s.dropEvent id) (t.dropEvent id) := by
  cases h
  rfl

theorem Twin.refuse (h : Twin y s t) (e : Event) (code : Nat) : Twin y (s.refuse e code) (t.refuse e code) := by
  unfold State.refuse
  cases h
  exact .ite rfl (.watchStore (.dropEvent (.short rfl _ _ _ _ _) _)) rfl

theorem Twin.chGone (h : Twin y s t) (n : Nat) : Twin y (s.chGone n) (t.chGone n) := by
  have threads : Twin y
      ((upTo 2).foldl (fun (s : State) k =>
        if (s.thread (n / 4) k).run && (s.thread (n / 4) k).ch == n then s.killThread (n / 4) k (markCause Code.absent) else s) s)
      ((upTo 2).foldl (fun (s : State) k =>
        if (s.thread (n / 4) k).run && (s.thread (n / 4) k).ch == n then s.killThread (n / 4) k (markCause Code.absent) else s) t) :=
    .foldl h rfl fun u v k j => .ite (by cases j; rfl) (j.killThread _ _ _) j
  have killed := threads.killLog n false (markCause Code.absent)
  unfold State.chGone
  dsimp only
  generalize State.killLog n false (markCause Code.absent) _ = u at killed ⊢
  generalize State.killLog n false (markCause Code.absent) _ = v at killed ⊢
  exact .foldl killed (by cases killed; rfl) fun _ _ e j => j.refuse e _

/-! Guardians and converters -/

theorem Twin.modGrd (h : Twin y s t) (g : Nat) (f : Grd → Grd) : Twin y (s.modGrd g f) (t.modGrd g f) := by
  cases h
  rfl

theorem Twin.grdStep (h : Twin y s t) (g : Nat) (st : GState) : Twin y (s.grdStep g st) (t.grdStep g st) := by
  cases h
  unfold State.grdStep
  exact .ite rfl rfl (.trace rfl _ _ _ _ _ _)

theorem Twin.grdOffTo (h : Twin y s t) (g : Nat) (st : GState) : Twin y (s.grdOffTo g st) (t.grdOffTo g st) := by
  unfold State.grdOffTo
  exact .grdStep (h.modGrd _ _) _ _

theorem Twin.convGone (h : Twin y s t) (n : Nat) : Twin y (s.convGone n) (t.convGone n) := by
  unfold State.convGone
  exact .closeAll h _ _ (by cases h; rfl)

theorem Twin.convWins (h : Twin y s t) (n : Nat) : Twin y (s.convWins n) (t.convWins n) := by
  unfold State.convWins
  exact .openAll h (by cases h; rfl)

/-! A block's verdict (R454) -/

theorem Twin.restartUnits (h : Twin y s t) (k : Nat) : Twin y (s.restartUnits k) (t.restartUnits k) := by
  unfold State.restartUnits
  refine Twin.foldl ?_ rfl fun u v n j => ?_
  · cases h
    exact .ite rfl rfl (.ite rfl rfl (.ite rfl rfl (.ite rfl rfl rfl)))
  · cases j
    exact .ite rfl rfl rfl

theorem Twin.testOver (h : Twin y s t) (k : Nat) : Twin y (s.testOver k) (t.testOver k) := by
  unfold State.testOver
  exact .ite rfl (.foldl h rfl fun _ _ _ j => j.logIdle _) h

/-- Units that a verdict marks, against a state before it. -/
theorem Twin.marksSet {a b : State} (h : Twin y s t) (k : Twin y a b) : Twin y (s.marksSet a) (t.marksSet b) := by
  cases k
  unfold State.marksSet
  refine .foldl (.foldl (.foldl (.foldl h rfl ?channels) rfl ?guardians) rfl ?boosts) rfl ?converters
  case channels => exact fun u v n j => .ite (by cases j; rfl) (j.chGone n) j
  case guardians => exact fun u v g j => .ite (by cases j; rfl) ((j.grdOffTo g _).sourceGone g) j
  case boosts =>
    intro u v q j
    cases j
    exact .ite rfl rfl rfl
  case converters => exact fun u v n j => .ite (by cases j; rfl) (j.convGone n) j

/-- Units whose marks a verdict lifts, against a state before it. -/
theorem Twin.marksLifted {a b : State} (h : Twin y s t) (k : Twin y a b) : Twin y (s.marksLifted a) (t.marksLifted b) := by
  cases k
  unfold State.marksLifted
  have cranks {u v : State} (j : Twin y u v) : Twin y
      (if !a.crankUsable && u.crankUsable then { u with whl := { u.whl with arm := none, coarse := false } } else u)
      (if !(a.withSec y).crankUsable && v.crankUsable then { v with whl := { v.whl with arm := none, coarse := false } } else v) := by
    cases j
    exact .ite rfl rfl rfl
  refine cranks (.foldl (.foldl (.foldl (.foldl (.foldl (.foldl (.foldl h rfl ?banks) rfl ?channels) rfl ?guardians) rfl ?boosts) rfl ?converters) rfl
    ?monitors) rfl ?cams)
  case banks =>
    intro u v b j
    cases j
    exact .ite rfl (.bankCmpFresh (.modBank rfl _ _) _) rfl
  case channels =>
    intro u v n j
    cases j
    exact .ite rfl (.logIdle (.chCmpFresh (.modChan rfl _ _) _) _) rfl
  case guardians =>
    intro u v g j
    cases j
    exact .ite rfl (.grdCmpFresh rfl _) rfl
  case boosts =>
    intro u v q j
    cases j
    exact .ite rfl rfl rfl
  case converters =>
    intro u v n j
    cases j
    exact .ite rfl (.convWins rfl _) rfl
  case monitors => exact fun u v n j => .ite (by cases j; rfl) (j.wmFresh n) j
  case cams =>
    intro u v n j
    cases j
    exact .ite rfl rfl rfl

/-- The marks of block k after its verdict. -/
def State.marked (k : Nat) (us : List Nat) (s : State) : State :=
  { s with tst := { s.tst with marks := s.tst.marks.filter (fun m => m.1 != k) ++ us.map (fun u => (k, u)) } }

/-- Block k has failed where its verdict names a unit. -/
def State.named (k : Nat) (fails : List UnitFail) (us : List Nat) (s : State) : State :=
  match us with
  | [] => s
  | u :: _ => ({ s with tst := { s.tst with fail := insertNat k s.tst.fail, first := some (s.tst.first.getD (k, u, failDev u fails)) } } : State).alarm
      29 k us.length u

theorem State.verdict_eq (k : Nat) (fails : List UnitFail) (s : State) :
    s.verdict k fails = (((s.marked k (failUnits k fails)).marksSet s).marksLifted s).named k fails (failUnits k fails) := by
  unfold State.verdict State.named State.marked
  cases failUnits k fails <;> rfl

theorem Twin.verdict (h : Twin y s t) (k : Nat) (fails : List UnitFail) : Twin y (s.verdict k fails) (t.verdict k fails) := by
  have marked : Twin y (s.marked k (failUnits k fails)) (t.marked k (failUnits k fails)) := by
    cases h
    rfl
  have names {u v : State} (j : Twin y u v) (us : List Nat) : Twin y (u.named k fails us) (v.named k fails us) := by
    cases j
    unfold State.named
    cases us with
    | nil => rfl
    | cons n us => exact .alarm rfl _ _ _ _
  rw [State.verdict_eq, State.verdict_eq]
  exact names ((marked.marksSet h).marksLifted h) _

theorem laneNext_twin (h : Twin y s t) (n k : Nat) : t.laneNext n k = s.laneNext n k := by
  induction n generalizing k with
  | zero => rfl
  | succ n ih =>
    have skips : t.blockSkipped k = s.blockSkipped k := by
      cases h
      rfl
    unfold State.laneNext
    rw [skips, ih]

theorem Twin.laneSkip (h : Twin y s t) (laneB : Bool) : Twin y (s.laneSkip laneB) (t.laneSkip laneB) := by
  have next := laneNext_twin h
  unfold State.laneSkip
  simp only [next]
  cases h
  rfl

theorem Twin.tstEnd (h : Twin y s t) (cause : Nat) : Twin y (s.tstEnd cause) (t.tstEnd cause) := by
  have freed {u v : State} (j : Twin y u v) : Twin y u.passFreed v.passFreed := by
    cases j
    unfold State.passFreed
    have same : (u.withSec y).sys = u.sys := rfl
    rw [same]
    cases u.sys.busy with
    | none => rfl
    | some b => exact .ite rfl rfl rfl
  have closed {u v : State} (j : Twin y u v) (x : Tst) : Twin y (u.passClosed cause x) (v.passClosed cause x) := by
    cases j
    rfl
  have tst : t.tst = s.tst := by
    cases h
    rfl
  rw [State.tstEnd_eq, State.tstEnd_eq, tst]
  exact ((freed (((closed (((h.inCycle _).restartUnits _).restartUnits _) _).testOver _).testOver _)).count _).raise _

theorem Twin.passSettle (h : Twin y s t) : Twin y s.passSettle t.passSettle := by
  unfold State.passSettle
  exact .ite (by cases h; rfl) (h.tstEnd 0) h

theorem Twin.blockEnd (h : Twin y s t) (laneB : Bool) (k : Nat) (fails : List UnitFail) : Twin y (s.blockEnd laneB k fails) (t.blockEnd laneB k fails) := by
  unfold State.blockEnd
  refine .passSettle (.laneSkip (.verdict (.testOver (.restartUnits ?_ _) _) _ _) _)
  cases h
  rfl

theorem Twin.lateVerdict (h : Twin y s t) (k : Nat) (fails : List UnitFail) : Twin y (s.lateVerdict k fails) (t.lateVerdict k fails) := by
  have given := (h.inCycle (fun m => { m with tested := m.tested.filter (fun x => x.1 != k) })).verdict k fails
  unfold State.lateVerdict
  dsimp only
  generalize State.verdict k fails (s.inCycle _) = u at given ⊢
  generalize State.verdict k fails (t.inCycle _) = v at given ⊢
  cases given
  rfl

/-! A calibration (R325) -/

/-- The conversions of converter n have ended, with these factors. -/
def State.calMeasured (n : Nat) (factors : List Word) (s : State) : State :=
  if factors.all factorOk then
    let s : State := (factors.zipIdx).foldl (fun (s : State) x => s.putWord (R.ADC_CAL n x.2) x.1) s
    { s with adc := { s.adc with calDone := insertNat n s.adc.calDone } }
  else { s with adc := { s.adc with calFail := insertNat n s.adc.calFail } }

/-- What converter n's calibration makes of a state where it ends. -/
def State.calAfter (n : Nat) (factors : List Word) (s : State) : State :=
  match s.adc.cal with
  | some k => if k.now = n ∧ calTime n ≤ elapsed k.since s.now ∧ factors.length = calGains n then (s.calMeasured n factors).calNext k else s
  | none => s

theorem exec_calibrationDone (n : Nat) (factors : List Word) (s : State) : execCalibrationDone n factors s = .next (s.calAfter n factors) := rfl

theorem Twin.calAfter (h : Twin y s t) (n : Nat) (factors : List Word) : Twin y (s.calAfter n factors) (t.calAfter n factors) := by
  have measured : Twin y (s.calMeasured n factors) (t.calMeasured n factors) := by
    have written : Twin y ((factors.zipIdx).foldl (fun (s : State) x => s.putWord (R.ADC_CAL n x.2) x.1) s)
        ((factors.zipIdx).foldl (fun (s : State) x => s.putWord (R.ADC_CAL n x.2) x.1) t) :=
      .foldl h rfl fun u v x j => by cases j; rfl
    unfold State.calMeasured
    refine .ite rfl ?_ (by cases h; rfl)
    dsimp only
    generalize List.foldl _ s _ = u at written ⊢
    generalize List.foldl _ t _ = v at written ⊢
    cases written
    rfl
  have goesOn {u v : State} (j : Twin y u v) (k : CalRun) : Twin y (u.calNext k) (v.calNext k) := by
    cases j
    unfold State.calNext
    cases k.rest <;> rfl
  unfold State.calAfter
  cases h
  have same : (s.withSec y).adc = s.adc := rfl
  rw [same]
  cases s.adc.cal with
  | none => rfl
  | some k => exact .ite rfl (goesOn measured k) rfl

/-- What a block makes of a state where it ends. -/
def State.blockAfter (laneB : Bool) (fails : List UnitFail) (s : State) : State :=
  if (s.laneBlock laneB).1 != 0 && decide (blockTime (s.laneBlock laneB).1 ≤ elapsed (s.laneBlock laneB).2 s.now) then
    (if s.tst.running then s.blockEnd laneB (s.laneBlock laneB).1 fails else s.lateVerdict (s.laneBlock laneB).1 fails)
  else s

theorem exec_tuningBlockEnd_eq (laneB : Bool) (fails : List UnitFail) (s : State) : execTuningBlockEnd laneB fails s = .next (s.blockAfter laneB fails) := rfl

theorem Twin.blockAfter (h : Twin y s t) (laneB : Bool) (fails : List UnitFail) : Twin y (s.blockAfter laneB fails) (t.blockAfter laneB fails) := by
  have lane : t.laneBlock laneB = s.laneBlock laneB := by
    cases h
    rfl
  unfold State.blockAfter
  rw [lane]
  exact .ite (by cases h; rfl) (.ite (by cases h; rfl) (h.blockEnd _ _ _) (h.lateVerdict _ _)) h

/-! The port stays free -/

/-- A state whose port is free, and one that came from it with a free port. -/
theorem State.free_of_frame {l : List Piece} (free : s.sys.busy = none) (k : s.onlyIn t l) (outside : Piece.sys ∉ l) : t.sys.busy = none :=
  (congrArg Sys.busy (k .sys outside)).trans free

theorem State.tstEnd_free (cause : Nat) (free : s.sys.busy = none) : (s.tstEnd cause).sys.busy = none := by
  rw [State.tstEnd_eq]
  have begun : s.onlyIn (((s.inCycle (fun m => { m with tested := [(s.tst.blockA, s.tst.sinceA), (s.tst.blockB, s.tst.sinceB)] })).restartUnits
      s.tst.blockA).restartUnits s.tst.blockB) [.regs, .adc, .cmps, .sch, .tst, .evc] :=
    Frame.restartUnits _ _ (Frame.restartUnits _ _ (Frame.inCycle _ _ (Frame.refl s _) (by decide)) (by decide) (by decide)) (by decide) (by decide)
  generalize ((s.inCycle _).restartUnits s.tst.blockA).restartUnits s.tst.blockB = u at begun
  have closed : s.onlyIn (((u.passClosed cause s.tst).testOver s.tst.blockA).testOver s.tst.blockB) [.regs, .adc, .cmps, .sch, .tst, .evc] :=
    Frame.testOver _ _ (Frame.testOver _ _ (Frame.with_tst begun (by decide)) (by decide)) (by decide)
  generalize ((u.passClosed cause s.tst).testOver s.tst.blockA).testOver s.tst.blockB = v at closed
  have still : v.passFreed = v := by
    unfold State.passFreed
    rw [State.free_of_frame free closed (by decide)]
  rw [still]
  exact State.free_of_frame free (Frame.raise _ _ (Frame.count _ _ closed (by decide)) (by decide) (by decide)) (by decide)

theorem State.blockAfter_free (laneB : Bool) (fails : List UnitFail) (free : s.sys.busy = none) : (s.blockAfter laneB fails).sys.busy = none := by
  have judged (k : Nat) {u : State} (j : s.onlyIn u [.regs, .hif, .evc, .whl, .sch, .banks, .quads, .edges, .ink, .grds, .adc, .cmps, .tst]) :
      s.onlyIn (u.verdict k fails) [.regs, .hif, .evc, .whl, .sch, .banks, .quads, .edges, .ink, .grds, .adc, .cmps, .tst] :=
    Frame.verdict _ _ _ j (by decide) (by decide) (by decide) (by decide) (by decide) (by decide) (by decide) (by decide) (by decide) (by decide)
      (by decide) (by decide) (by decide)
  unfold State.blockAfter
  split
  · split
    · have ended : s.onlyIn { s with tst := if laneB then { s.tst with blockB := 0 } else { s.tst with blockA := 0 } }
          [.regs, .hif, .evc, .whl, .sch, .banks, .quads, .edges, .ink, .grds, .adc, .cmps, .tst] := Frame.with_tst (Frame.refl s _) (by decide)
      have skipped := Frame.laneSkip laneB _ (judged (s.laneBlock laneB).1 (Frame.testOver (s.laneBlock laneB).1 _
        (Frame.restartUnits (s.laneBlock laneB).1 _ ended (by decide) (by decide)) (by decide))) (by decide)
      unfold State.blockEnd State.passSettle
      dsimp only
      generalize State.laneSkip laneB _ = u at skipped ⊢
      have freed := State.free_of_frame free skipped (by decide)
      split
      · exact State.tstEnd_free 0 freed
      · exact freed
    · unfold State.lateVerdict
      exact State.free_of_frame free (Frame.with_tst (judged _ (Frame.inCycle _ _ (Frame.refl s _) (by decide))) (by decide)) (by decide)
  · exact free

theorem State.calAfter_free (n : Nat) (factors : List Word) (free : s.sys.busy = none) : (s.calAfter n factors).sys.busy = none := by
  have measured : s.onlyIn (s.calMeasured n factors) [.regs, .adc] := by
    unfold State.calMeasured
    exact Frame.ite (Frame.with_adc (Frame.foldl (Frame.refl s _) fun _ _ k => Frame.putWord _ _ _ k (by decide)) (by decide))
      (Frame.with_adc (Frame.refl s _) (by decide))
  have goesOn (k : CalRun) {u : State} (j : u.sys.busy = none) : (u.calNext k).sys.busy = none := by
    unfold State.calNext
    cases k.rest with
    | nil => rfl
    | cons _ _ => exact j
  unfold State.calAfter
  split
  · split
    · exact goesOn _ (State.free_of_frame free measured (by decide))
    · exact free
  · exact free

/-! Ends that free the port -/

theorem State.endBusy_releaseHeld_free (s : State) : s.endBusy.releaseHeld.sys.busy = none :=
  State.free_of_frame (s := s.endBusy) rfl (Frame.releaseHeld _ (Frame.refl s.endBusy [.regs, .hif, .sec]) (by decide) (by decide) (by decide)) (by decide)

theorem State.commitEnds_free (outcome entries : Nat) (s : State) : (s.commitEnds outcome entries).sys.busy = none :=
  State.endBusy_releaseHeld_free _

theorem State.commitFails_free (f : CommitFault) (s : State) : (s.commitFails f).sys.busy = none := by
  unfold State.commitFails
  cases f <;> exact State.commitEnds_free _ _ _

theorem State.unlockEnds_free (role : Nat) (claim : Bool) (p : Port) (s : State) : (s.unlockEnds role claim p).sys.busy = none := by
  have began (role kind : Nat) {u : State} (free : u.sys.busy = none) : (u.sessionBegins role p kind).sys.busy = none :=
    State.free_of_frame free (Frame.sessionBegins role p kind u (Frame.refl u [.regs, .hif, .sec]) (by decide) (by decide) (by decide)) (by decide)
  have failed {u : State} (free : u.sys.busy = none) : u.openFailed.sys.busy = none :=
    State.free_of_frame free (Frame.openFailed u (Frame.refl u [.regs, .sec]) (by decide) (by decide)) (by decide)
  unfold State.unlockEnds
  split
  · exact began _ _ rfl
  · dsimp only
    split
    · exact began _ _ rfl
    · exact failed rfl

theorem State.sealNow_free (p : Port) (s : State) : (s.sealNow p).sys.busy = none := rfl

/-! SYS_ABORT in the fabric cycle in which the operation ends (R478, log entry 60) -/

/-- The ends that an abort looks for. -/
theorem State.afterEnd_cases (c : Instr) :
    (∀ s : State, s.afterEnd c = s) ∨ (∃ n fs, ∀ s : State, s.afterEnd c = s.calAfter n fs) ∨ (∃ b fs, ∀ s : State, s.afterEnd c = s.blockAfter b fs)
      ∨ c = .commitDone ∨ c = .commitFailed ∨ c = .roleUnlockDone ∨ c = .exportDone ∨ c = .sealDone := by
  cases c with
  | calibrationDone n fs => exact .inr (.inl ⟨n, fs, fun _ => rfl⟩)
  | tuningBlockEnd b fs => exact .inr (.inr (.inl ⟨b, fs, fun _ => rfl⟩))
  | commitDone => exact .inr (.inr (.inr (.inl rfl)))
  | commitFailed => exact .inr (.inr (.inr (.inr (.inl rfl))))
  | roleUnlockDone => exact .inr (.inr (.inr (.inr (.inr (.inl rfl)))))
  | exportDone => exact .inr (.inr (.inr (.inr (.inr (.inr (.inl rfl))))))
  | sealDone => exact .inr (.inr (.inr (.inr (.inr (.inr (.inr rfl))))))
  | _ => exact .inl fun _ => rfl

/-- The state s, but that its session has idled for i. -/
def State.idled (i : Nat) (s : State) : State := s.withSec { s.sec with idle := i }

/-- An operation that ends and either frees the port or does nothing, whichever a session's idleness. -/
def FreesOrStays (f : State → State) : Prop :=
  ∀ (i : Nat) (s : State), ((f s).sys.busy = none ∧ (f (s.idled i)).sys.busy = none) ∨ (f s = s ∧ f (s.idled i) = s.idled i)

theorem FreesOrStays.of_ite {c : State → Prop} [∀ s, Decidable (c s)] {f : State → State} (same : ∀ i (s : State), c (s.idled i) = c s)
    (frees : ∀ s, (f s).sys.busy = none) : FreesOrStays (fun s => if c s then f s else s) := by
  intro i s
  dsimp only
  by_cases fires : c s
  · rw [if_pos fires, if_pos (same i s ▸ fires)]
    exact .inl ⟨frees _, frees _⟩
  · rw [if_neg fires, if_neg (fun h => fires (same i s ▸ h))]
    exact .inr ⟨rfl, rfl⟩

theorem State.idled_rangeFault (i : Nat) (s : State) : (s.idled i).rangeFault = s.rangeFault := by
  have whl : (s.idled i).whlRanges = s.whlRanges := rfl
  have sch : (s.idled i).schRanges = s.schRanges := rfl
  have drv : (s.idled i).drvRanges = s.drvRanges := rfl
  have ink : (s.idled i).inkRanges = s.inkRanges := rfl
  have grd : (s.idled i).grdRanges = s.grdRanges := rfl
  have adc : (s.idled i).adcRanges = s.adcRanges := rfl
  have cmp : (s.idled i).cmpRanges = s.cmpRanges := rfl
  have other : (s.idled i).otherRanges = s.otherRanges := rfl
  unfold State.rangeFault
  rw [whl, sch, drv, ink, grd, adc, cmp, other]

theorem State.idled_commitFault (i role : Nat) (s : State) : (s.idled i).commitFault role = s.commitFault role := by
  have regs : (s.idled i).regs = s.regs := rfl
  have room (n : Nat) : (s.idled i).jRoom role n = s.jRoom role n := rfl
  have claims : (s.idled i).claimFaults = s.claimFaults := rfl
  have verdict : (s.idled i).verifyFault = s.verifyFault := rfl
  unfold State.commitFault
  rw [regs, room, State.idled_rangeFault, claims, verdict]

theorem freesOrStays_commitDone : FreesOrStays (fun s => s.afterEnd .commitDone) := by
  intro i s
  have ends (k : CommitRun) := FreesOrStays.of_ite (c := fun s : State => s.regs.dirty ≠ [] ∧ s.commitFault k.role = none ∧ s.busyFor k.wr = true)
    (f := State.commitNow k) (fun i s => by rw [State.idled_commitFault]; rfl) (fun s => State.commitEnds_free _ _ _) i s
  have run (u : State) : u.afterEnd .commitDone
      = match u.sec.commit with
        | some k => if u.regs.dirty ≠ [] ∧ u.commitFault k.role = none ∧ u.busyFor k.wr = true then u.commitNow k else u
        | none => u := rfl
  have commits : (s.idled i).sec.commit = s.sec.commit := rfl
  dsimp only
  rw [run, run, commits]
  cases s.sec.commit with
  | none => exact .inr ⟨rfl, rfl⟩
  | some k => exact ends k

theorem freesOrStays_commitFailed : FreesOrStays (fun s => s.afterEnd .commitFailed) := by
  intro i s
  have run (u : State) : u.afterEnd .commitFailed
      = match u.sec.commit with
        | some k => if u.regs.dirty = [] then (u.setVerify none).commitEnds 0 0
            else match u.commitFault k.role with
              | some f => u.commitFails f
              | none => u
        | none => u := rfl
  have commits : (s.idled i).sec.commit = s.sec.commit := rfl
  have dirty : (s.idled i).regs = s.regs := rfl
  dsimp only
  rw [run, run, commits]
  cases s.sec.commit with
  | none => exact .inr ⟨rfl, rfl⟩
  | some k =>
    dsimp only
    rw [dirty, State.idled_commitFault]
    by_cases clean : s.regs.dirty = []
    · rw [if_pos clean, if_pos clean]
      exact .inl ⟨State.commitEnds_free _ _ _, State.commitEnds_free _ _ _⟩
    · rw [if_neg clean, if_neg clean]
      cases s.commitFault k.role with
      | none => exact .inr ⟨rfl, rfl⟩
      | some f => exact .inl ⟨State.commitFails_free _ _, State.commitFails_free _ _⟩

theorem freesOrStays_roleUnlockDone : FreesOrStays (fun s => s.afterEnd .roleUnlockDone) := by
  intro i s
  have run (u : State) : u.afterEnd .roleUnlockDone
      = match u.sec.unlock, u.sys.busy with
        | some (role, claim), some b => if u.busyFor 480000 then u.unlockEnds role claim b.port else u
        | _, _ => u := rfl
  have unlock : (s.idled i).sec.unlock = s.sec.unlock := rfl
  have sys : (s.idled i).sys = s.sys := rfl
  dsimp only
  rw [run, run, unlock, sys]
  cases s.sec.unlock with
  | none => exact .inr ⟨rfl, rfl⟩
  | some x =>
    cases s.sys.busy with
    | none => exact .inr ⟨rfl, rfl⟩
    | some b =>
      exact FreesOrStays.of_ite (c := fun s : State => s.busyFor 480000 = true) (fun _ _ => rfl)
        (fun s => State.unlockEnds_free x.1 x.2 b.port s) i s

theorem freesOrStays_exportDone : FreesOrStays (fun s => s.afterEnd .exportDone) := by
  intro i s
  have frees (u : State) (exports : u.sec.exporting = true) : (u.afterEnd .exportDone).sys.busy = none := by
    unfold State.afterEnd execExportDone
    dsimp only
    rw [if_pos exports]
    rfl
  have stays (u : State) (idle : u.sec.exporting = false) : u.afterEnd .exportDone = u := if_neg (by rw [idle]; decide)
  cases exports : s.sec.exporting with
  | true => exact .inl ⟨frees s exports, frees (s.idled i) exports⟩
  | false => exact .inr ⟨stays s exports, stays (s.idled i) exports⟩

theorem freesOrStays_sealDone : FreesOrStays (fun s => s.afterEnd .sealDone) := by
  intro i s
  have run (u : State) : u.afterEnd .sealDone
      = match u.sys.busy with
        | some b => if u.sec.sealing then u.sealNow b.port else u
        | none => u := rfl
  have sys : (s.idled i).sys = s.sys := rfl
  dsimp only
  rw [run, run, sys]
  cases s.sys.busy with
  | none => exact .inr ⟨rfl, rfl⟩
  | some b => exact FreesOrStays.of_ite (c := fun s : State => s.sec.sealing = true) (fun _ _ => rfl) (fun s => State.sealNow_free b.port s) i s

/-- One operation that ends in the queue: it frees the port whichever a session's idleness, or it leaves the session alone. -/
theorem State.afterEnd_idled (c : Instr) (i : Nat) (s : State) :
    ((s.afterEnd c).sys.busy = none ∧ ((s.idled i).afterEnd c).sys.busy = none) ∨ (s.idled i).afterEnd c = (s.afterEnd c).idled i := by
  have twin : Twin { s.sec with idle := i } s (s.idled i) := rfl
  have ends {f : State → State} (h : FreesOrStays f) : ((f s).sys.busy = none ∧ (f (s.idled i)).sys.busy = none) ∨ f (s.idled i) = (f s).idled i := by
    obtain frees | ⟨stays, idled⟩ := h i s
    · exact .inl frees
    · exact .inr (by rw [stays, idled])
  obtain none | ⟨n, fs, run⟩ | ⟨b, fs, run⟩ | rfl | rfl | rfl | rfl | rfl := State.afterEnd_cases c
  · exact .inr (by rw [none, none])
  · have sec : (s.calAfter n fs).sec = s.sec := (Frame.execCalibrationDone n fs s (Frame.refl s [.regs, .sys, .adc]) (by decide) (by decide) (by decide))
      _ (exec_calibrationDone n fs s) .sec (by decide)
    refine .inr ?_
    rw [run, run]
    exact (twin.calAfter n fs).trans (congrArg (fun x : Sec => State.withSec { x with idle := i } (s.calAfter n fs)) sec.symm)
  · have sec : (s.blockAfter b fs).sec = s.sec := (Frame.execTuningBlockEnd b fs s (Frame.refl s [.regs, .sys, .hif, .evc, .whl, .sch, .banks, .quads,
        .edges, .ink, .grds, .adc, .cmps, .tst]) (by decide) (by decide) (by decide) (by decide) (by decide) (by decide) (by decide) (by decide)
        (by decide) (by decide) (by decide) (by decide) (by decide) (by decide)) _ (exec_tuningBlockEnd_eq b fs s) .sec (by decide)
    refine .inr ?_
    rw [run, run]
    exact (twin.blockAfter b fs).trans (congrArg (fun x : Sec => State.withSec { x with idle := i } (s.blockAfter b fs)) sec.symm)
  · exact ends freesOrStays_commitDone
  · exact ends freesOrStays_commitFailed
  · exact ends freesOrStays_roleUnlockDone
  · exact ends (f := fun s => s.afterEnd .exportDone) freesOrStays_exportDone
  · exact ends freesOrStays_sealDone

/-- No operation that ends holds a free port. -/
theorem State.afterEnd_free (c : Instr) (free : s.sys.busy = none) : (s.afterEnd c).sys.busy = none := by
  have ends {f : State → State} (h : FreesOrStays f) : (f s).sys.busy = none := by
    obtain ⟨frees, _⟩ | ⟨stays, _⟩ := h 0 s
    · exact frees
    · rw [stays, free]
  obtain none | ⟨n, fs, run⟩ | ⟨b, fs, run⟩ | rfl | rfl | rfl | rfl | rfl := State.afterEnd_cases c
  · rw [none, free]
  · rw [run]
    exact State.calAfter_free n fs free
  · rw [run]
    exact State.blockAfter_free b fs free
  · exact ends freesOrStays_commitDone
  · exact ends freesOrStays_commitFailed
  · exact ends freesOrStays_roleUnlockDone
  · exact ends (f := fun s => s.afterEnd .exportDone) freesOrStays_exportDone
  · exact ends freesOrStays_sealDone

theorem foldAfterEnd_free (l : List Instr) : ∀ s : State, s.sys.busy = none → (l.foldl State.afterEnd s).sys.busy = none := by
  induction l with
  | nil => exact fun _ free => free
  | cons c l ih => exact fun s free => ih _ (State.afterEnd_free c free)

/-- Whether the queue frees the port does not depend on how long a session has idled. -/
theorem foldAfterEnd_idled (l : List Instr) (i : Nat) :
    ∀ s : State, (l.foldl State.afterEnd (s.idled i)).sys.busy.isNone = (l.foldl State.afterEnd s).sys.busy.isNone := by
  induction l with
  | nil => exact fun _ => rfl
  | cons c l ih =>
    intro s
    rw [List.foldl_cons, List.foldl_cons]
    obtain ⟨frees, idled⟩ | stays := State.afterEnd_idled c i s
    · rw [foldAfterEnd_free l _ frees, foldAfterEnd_free l _ idled]
    · rw [stays, ih]

theorem State.touch_idled (p : Port) (s : State) : s.touch p = s.idled (s.touch p).sec.idle := by
  unfold State.touch
  split <;> rfl

/-- The access of a port changes nothing of what an abort finds. -/
theorem State.touch_endsNow (p : Port) (s : State) : (s.touch p).endsNow = s.endsNow := by
  unfold State.endsNow
  rw [State.touch_pending]
  rw [State.touch_idled p s]
  exact foldAfterEnd_idled _ _ s

end

end Sys2Proof.Machine
end

section
/-! PROOFS. Sessions (R429 to R432). -/

namespace Sys2Proof.Machine

/-- Settles O54: each clause is its branch, after the access that brings it; the entries of a session's start and close leave it as it is. -/
theorem sessionsOpenAndEnd : Obligations.SessionsOpenAndEnd := by
  unfold Obligations.SessionsOpenAndEnd
  refine ⟨?asks, ?refuses, ?ready, ?expires, ?opens, ?openLocked, ?askLocked, ?claimLocked, ?right, ?third, ?close, ?idle, ?free, ?stands,
    ?abort, ?ends⟩
  case asks =>
    intro p v s open' req free none may
    have taken : s.askChallenge (v.bits 0 2) = (s.refusedIs false).modSec (fun x => { x with chalReq := some (v.bits 0 2) }) := by
      unfold State.askChallenge
      rw [none, may]
      exact State.request_taken _ free
    exact ⟨_, congrArg Host.Outcome.next ((State.onWrite_of_none open' none _).trans ((if_pos req).trans taken)), rfl⟩
  case refuses =>
    intro p v s open' req free none may
    have refused : s.askChallenge (v.bits 0 2) = s.refusedIs true := by
      unfold State.askChallenge
      rw [none, may]
      exact State.request_refused _ free
    exact ⟨_, congrArg Host.Outcome.next ((State.onWrite_of_none open' none _).trans ((if_pos req).trans refused)), rfl⟩
  case ready => exact fun s asked => ⟨_, congrArg Host.Outcome.next (if_pos asked), rfl⟩
  case expires =>
    intro c x s chal due
    have spent : s.chalOver = true := by simp [State.chalOver, chal, due]
    exact ⟨_, congrArg Host.Outcome.next (if_pos spent), rfl⟩
  case opens =>
    intro p v s open' req free none may room
    have taken : s.openSession p (v.bits 0 2)
        = ((s.refusedIs false).modSec (fun x => { x with unlock := some (v.bits 0 2, false) })).beginBusy 3 p := by
      unfold State.openSession
      rw [none, may, room]
      exact State.request_taken _ free
    exact ⟨_, congrArg Host.Outcome.next ((State.onWrite_of_none open' none _).trans ((if_pos req).trans taken)), rfl⟩
  case openLocked =>
    intro p v x s hok open' req locked
    have refused := State.request_locked ((s.touch p).sec.role == 0 && (s.touch p).sys.mode.opens (v.bits 0 2) && !(s.touch p).jFull)
      (fun s => (s.modSec (fun x => { x with unlock := some (v.bits 0 2, false) })).beginBusy 3 p) (State.touch_locked p locked)
    exact ⟨_, congrArg Host.Outcome.next ((State.onWrite_of_open open' _).trans ((if_pos req).trans refused)), State.lockedRequest_settles hok p⟩
  case askLocked =>
    intro p v x s hok open' req locked
    have refused := State.request_locked ((s.touch p).sec.role == 0 && (s.touch p).sys.mode.opens (v.bits 0 2))
      (fun s => s.modSec (fun x => { x with chalReq := some (v.bits 0 2) })) (State.touch_locked p locked)
    exact ⟨_, congrArg Host.Outcome.next ((State.onWrite_of_open open' _).trans ((if_pos req).trans refused)), State.lockedRequest_settles hok p⟩
  case claimLocked =>
    intro p v x s hok open' req locked
    have refused := State.request_locked
      ((s.touch p).sec.role == 0 && v.bits 0 2 == 1 && (s.touch p).sys.mode.opens 1 && (s.touch p).sec.ikey.isNone && !(s.touch p).jFull)
      (fun s => (s.modSec (fun x => { x with unlock := some (1, true) })).beginBusy 3 p) (State.touch_locked p locked)
    exact ⟨_, congrArg Host.Outcome.next ((State.onWrite_of_open open' _).trans ((if_pos req).trans refused)), State.lockedRequest_settles hok p⟩
  case right =>
    intro role b s _ unlock busy due right
    have entry := State.journal_sec (act role (portNum b.port) 1 0) (s.opened role b.port)
    have frame := State.journal_frame (act role (portNum b.port) 1 0) (s.opened role b.port)
    refine ⟨_, (exec_roleUnlockDone unlock busy due).trans (congrArg Host.Outcome.next (State.unlockEnds_right right)),
      congrArg Sec.role entry, congrArg Sec.port entry, congrArg Sec.idle entry, congrArg Sec.fails entry, rfl, congrArg Sec.unlock entry,
      frame .sys (by decide), fun room => State.journal_counter _ room, Frame.modSec _ _ ?_ (by decide)⟩
    exact Frame.trans (Frame.mono (State.opened_frame role b.port s) (by decide)) (Frame.mono frame (by decide))
  case third =>
    intro role b s hok unlock busy due wrong two
    have counted := State.get_count s.shutOut F.SEC_AUTH_FAIL_CNT_COUNT (Kept.refl hok).regs.live (by decide)
    have sec : s.onlyIn { s with sec := s.shutOut.sec } [.regs, .sys, .sec] := Frame.with_sec (Frame.refl s _) (by decide)
    have shut : s.onlyIn s.shutOut [.regs, .sys, .sec] := Frame.with_sys sec (by decide)
    exact ⟨_, (exec_roleUnlockDone unlock busy due).trans (congrArg Host.Outcome.next (State.unlockEnds_third wrong two)), rfl, rfl, rfl, rfl, rfl,
      counted, Frame.modSec _ _ (Frame.count _ _ shut (by decide)) (by decide)⟩
  case close =>
    intro p v s _ open' req opens own
    have touched := State.touch_frame p s
    have sec := State.touch_sec p s
    have role : (s.touch p).sec.role = s.sec.role := (congrArg Sec.role sec).trans rfl
    have counter : (s.touch p).sec.counter = s.sec.counter := (congrArg Sec.counter sec).trans rfl
    have journal : (s.touch p).sec.journal = s.sec.journal := (congrArg Sec.journal sec).trans rfl
    have closes : (s.touch p).closeSession p = (s.touch p).endSession 0 :=
      if_pos ⟨role ▸ opens, (congrArg Sec.port sec).trans own⟩
    obtain ⟨ended, entry, frame⟩ := State.endSession_settles (s := s.touch p) 0 (role ▸ opens)
    refine ⟨_, congrArg Host.Outcome.next ((State.onWrite_of_open open' _).trans ((if_pos req).trans closes)), ended, fun room => ?_,
      Frame.trans (Frame.mono touched (by decide)) frame⟩
    rw [← counter]
    apply entry
    rw [role]
    unfold State.jRoom
    rw [journal]
    exact room
  case idle =>
    intro s _ spent
    have opens : s.sec.role ≠ 0 := by
      unfold State.idleOver at spent
      simp only [Bool.and_eq_true, bne_iff_ne] at spent
      exact spent.1.1.1
    exact ⟨_, congrArg Host.Outcome.next (if_pos spent), State.endSession_settles 1 opens⟩
  case free =>
    intro x s locked due
    have spent : s.lockoutOver = true := by simp [State.lockoutOver, locked, due]
    exact ⟨_, congrArg Host.Outcome.next (if_pos spent), rfl⟩
  case stands =>
    intro x s locked early
    have stands : ¬ s.lockoutOver = true := by simp [State.lockoutOver, locked, early]
    exact congrArg Host.Outcome.next (if_neg stands)
  case abort =>
    intro p v s op bit going
    have touched := State.touch_frame p s
    have sec := State.touch_sec p s
    have sys : (s.touch p).sys = s.sys := touched .sys (by decide)
    have op' : (s.touch p).busyOp = 3 := by
      unfold State.busyOp
      rw [sys]
      exact op
    have busy : (s.touch p).sys.busy.isSome = true := by
      unfold State.busyOp at op'
      cases h : (s.touch p).sys.busy with
      | none => rw [h] at op'; exact absurd op' (by decide)
      | some b => rfl
    have run : exec (.sysAbort p v) s
        = .next (((s.touch p).modSec (fun x => { x with unlock := none })).endBusy) := by
      have aborts : (s.touch p).abort = ((s.touch p).modSec (fun x => { x with unlock := none })).endBusy := by
        unfold State.abort
        rw [op']
        rfl
      refine congrArg Host.Outcome.next ((if_pos ?_).trans aborts)
      rw [bit, busy, State.touch_endsNow, going]
      rfl
    have ended : s.onlyIn ((s.touch p).modSec (fun x => { x with unlock := none })) [.sys, .sec] :=
      Frame.modSec _ _ (Frame.mono touched (by decide)) (by decide)
    exact ⟨_, run, congrArg (fun y : Sys => { y with busy := none }) sys, rfl, (congrArg Sec.role sec).trans rfl,
      (congrArg Sec.fails sec).trans rfl, Frame.with_sys ended (by decide)⟩
  case ends =>
    intro p v s _ ends
    have touched := State.touch_frame p s
    have sec := State.touch_sec p s
    have run : exec (.sysAbort p v) s = .next (s.touch p) := by
      refine congrArg Host.Outcome.next (if_neg ?_)
      rw [State.touch_endsNow, ends]
      simp
    exact ⟨_, run, touched .sys (by decide), (congrArg Sec.commit sec).trans rfl, (congrArg Sec.unlock sec).trans rfl,
      touched .adc (by decide), touched .tst (by decide), touched⟩

end Sys2Proof.Machine
end
